-- ==== Sys2Proof/Word.lean ====
section
/-! DEFINITION. The word types of the block: 32-bit register values, bytes, and the pair of Q36 numbers that the
spec calls a word (R44). A Q36 number is held as the integer n whose value is n / 2^31. -/

namespace Sys2Proof

/-- A 32-bit register or bus value. -/
abbrev Word32 := BitVec 32
/-- The timestamp TS (R40). -/
abbrev Stamp := BitVec 64
/-- A byte of memory. -/
abbrev Byte := BitVec 8

/-- A word of the spindles (R44): X and Y, each the integer n of a Q36 number n / 2^31. -/
structure QWord where
  x : Int
  y : Int
  deriving DecidableEq, Repr, Inhabited

/-- A channel, spindle or position interface number. -/
abbrev Ch := Fin 4
/-- A gate-drive leg LEG0 to LEG15. -/
abbrev Leg := Fin 16
/-- A converter CV0 to CV7. -/
abbrev Cv := Fin 8
/-- An external analogue input AIN0 to AIN47. -/
abbrev Ain := Fin 48
/-- A sequencer SEQ0 to SEQ15. -/
abbrev Sq := Fin 16
/-- A link monitor. -/
abbrev Lnk := Fin 2
/-- A Sett port. -/
abbrev Port := Fin 2
/-- A queue pair QP0 to QP63. -/
abbrev Qp := Fin 64
/-- A lockstep pair as R338 numbers it: 0 CPA, 1 CPB, 2 to 5 SP0 to SP3. -/
abbrev Pair := Fin 6
/-- A pair with an agreement stage for its inputs (R309, R311): a lockstep pair of `PRT_LS_STAT`, or 6 for Badger's. -/
abbrev AgreePair := Fin 7

end Sys2Proof
end

