-- ==== Sys2Proof/Syntax.lean ====
section
/-! DEFINITION. The commands of the block: one constructor of `Instr` per row of spec/opcode_table.json, in the
table's order, with its operands. A command is a happening: a bus access, a pin event, an instant that a clock or a
counter reaches, a message that arrives, an operation of the command set. Its operands are what the outside world
fixes (addresses, values, pin levels, samples, received bytes, error positions); everything else comes from State. -/

namespace Sys2Proof

/-- The three bus initiators of the 32-bit address map (R71). -/
inductive Init where
  | cpa | cpb | mp
  deriving DecidableEq, Repr

/-- Who makes a bus access: the initiator, whether it acts with privilege (R73), and whether it is debug access (R10). -/
structure Access where
  ini : Init
  priv : Bool
  dbg : Bool
  deriving DecidableEq, Repr

/-- A carrier: a drive channel's, or that of auxiliary leg 12 + a. -/
inductive Carr where
  | ch (n : Ch)
  | aux (a : Fin 4)
  deriving DecidableEq, Repr

/-- The clock domains of R33. -/
inductive Dom where
  | ckc | ckp | cka | ckm | ckt | cks | ckb | ckw
  deriving DecidableEq, Repr

/-- The rails that Badger supervises (R322). -/
inductive Rail where
  | core | pll | ser | cv | io | bdg | aon
  deriving DecidableEq, Repr

/-- What a bus access in SRAM does. -/
inductive MemOp where
  | load | store | fetch
  deriving DecidableEq, Repr

/-- The agreed input that lands at a spindle: a measurement index, or the position record (R219). -/
inductive Landing where
  | meas (k : Fin 8)
  | pos
  deriving DecidableEq, Repr

/-- The transports of Faceplate (R375). -/
inductive Transport where
  | hlk | can0 | can1 | eth | cpa | cpb
  deriving DecidableEq, Repr

/-- The context in which Faceplate executes a command: its queue, sequence, flags and channel field, the privilege
of the packet, and the entry's transport. -/
structure Ctx where
  q : Qp
  seq : Nat
  opcode : Nat
  flags : Nat
  chan : Nat
  priv : Bool
  deriving DecidableEq, Repr

/-- Codewords that a command reads with erroneous bits (R61): each a word's index or address in its region, and the bits. -/
abbrev WordErrs := List (Nat × List Nat)

/-- The commands. -/
inductive Instr where
  /-- `REGISTER_WRITE` (R7). A write to a register that has no row of its own is checked for width, privilege and lock, then applied or refused. -/
  | registerWrite (a : Access) (addr size v : Nat)
  /-- `TS_LO_READ` (R43). A read of CLK_TS_LO returns TS[31:0] and captures TS[63:32] for the same initiator. -/
  | tsLoRead (a : Access)
  /-- `SAT_CLEAR` (R52). A W1C write to SPn_SAT clears stage bits and clears the capture when the last bit clears. -/
  | satClear (a : Access) (n : Ch) (v : Nat)
  /-- `RELOAD` (R23). At a carrier reload the shadow period and duties become active, together with pending swaps, profile and timing changes. -/
  | reload (r : Carr)
  /-- `COMMIT_ARRIVAL` (R13). A commit arrives in the CKP domain and is judged against the deadline. -/
  | commitArrival (n : Ch)
  /-- `COMMIT_DEADLINE` (R14). The commit deadline tick of a running channel is reached. -/
  | commitDeadline (n : Ch)
  /-- `PROFILE_REQUEST_WRITE` (R30). A write to SYS_PROFILE.request is judged as a locked write, a no-change request or a change. -/
  | profileRequestWrite (a : Access) (v : Nat)
  /-- `CLOCK_LOSS` (R34). A monitored clock domain deviates by more than 2 % for 5 µs and its loss fault is raised. -/
  | clockLoss (d : Dom)
  /-- `XIN_LOSS` (R36). The XIN oscillator stops and XIN_LOSS is raised. -/
  | xinLoss
  /-- `CKW_SWITCH` (R37). The CKW crystal stops and the always-on domain switches to the internal oscillator. -/
  | ckwSwitch
  /-- `PHASE_MEASURE` (R42). The CKA-to-CKP phase is re-measured every 1 ms. -/
  | phaseMeasure (ft : Nat)
  /-- `SLOT_WRITE` (R54). A slot write is staged, and the write that covers bytes 12 to 15 commits the word. -/
  | slotWrite (a : Access) (addr size v : Nat) (errs : List Nat)
  /-- `SLOT_READ` (R56). A slot read that covers bytes 0 to 3 captures the whole word for the reads that follow. -/
  | slotRead (a : Access) (addr size : Nat) (errs : List Nat)
  /-- `SCRUB_READ` (R68). The scrubber reads the next word every 5 µs. -/
  | scrubRead (errs : List Nat)
  /-- `ECC_WRITEBACK` (R65). The corrected codeword is written back within 8 CKC cycles. -/
  | eccWriteback (region word : Nat)
  /-- `SCRUB_LATE` (R68). A scrub sweep has not finished within 8 s. -/
  | scrubLate
  /-- `WINDOW_RESULT` (R83). A window's last sample leaves the pipeline, and its result is written and delivered. -/
  | windowResult (q : Sq) (k : Fin 16) (codes : List Int)
  /-- `SEQ_SWTRIG` (R86). A write of 1 to SEQn_SWTRIG.go triggers the sequencer. -/
  | seqSwtrig (a : Access) (q : Sq)
  /-- `SEQ_RUN_END` (R85). A sequence's last result is written, ending its run and starting any queued trigger. -/
  | seqRunEnd (q : Sq)
  /-- `SEQ_DISABLE` (R91). A write that clears SEQn_CTL.en stops triggers and discards a stored trigger. -/
  | seqDisable (a : Access) (q : Sq) (v : Nat)
  /-- `TRIGGER_TIMER_EXPIRY` (R115). A trigger timer expires and triggers the sequencers that use it. -/
  | triggerTimerExpiry (t : Fin 4)
  /-- `ADC_TRIG_EDGE` (R86). An edge on an ADC_TRIG pin triggers the sequencers that use it. -/
  | adcTrigEdge (p : Fin 4) (rising : Bool)
  /-- `INJECTION_START` (R96). A write of start to an injection slot requests an injected conversion. -/
  | injectionStart (a : Access) (c : Cv) (k : Fin 4) (v : Nat)
  /-- `INJECTION_DONE` (R95). An injected window completes, its result is written and the interrupt is raised. -/
  | injectionDone (c : Cv) (k : Fin 4) (codes : List Int)
  /-- `CAL_FULL_REQUEST` (R97). A write of CVc_CAL.full requests a full calibration. -/
  | calFullRequest (a : Access) (c : Cv)
  /-- `CAL_FULL_START` (R97). A requested full calibration starts once its preconditions hold. -/
  | calFullStart (c : Cv)
  /-- `CAL_END` (R99). A calibration ends and its new trims are checked. -/
  | calEnd (c : Cv) (offset gain : Int)
  /-- `BGCAL_SLICE` (R100). A background calibration slice runs in a sufficient gap. -/
  | bgcalSlice (c : Cv) (offset gain : Int)
  /-- `BGCAL_STARVED` (R100). A background cycle exceeds its period limit and restarts. -/
  | bgcalStarved (c : Cv)
  /-- `CV_POWER_DOWN` (R103). The idle count reaches idle_down and the converter begins to shut down. -/
  | cvPowerDown (c : Cv)
  /-- `CV_SHUTDOWN_DONE` (R105). A converter shut-down of 16 clocks completes. -/
  | cvShutdownDone (c : Cv)
  /-- `CV_STARTUP_DONE` (R105). A converter start-up of 64 clocks completes. -/
  | cvStartupDone (c : Cv)
  /-- `REF_READY` (R106). The reference buffer becomes ready 200 µs after it is switched on. -/
  | refReady (c : Cv)
  /-- `IDLE_SCAN_VISIT` (R107). An idle converter moves to the next input of its scan mask. -/
  | idleScanVisit (c : Cv)
  /-- `CMP_ASSERT` (R108). A comparator counter reaches F and its output asserts. -/
  | cmpAssert (i : Ain) (codes : List Int)
  /-- `CMP_DEASSERT` (R108). A comparator output deasserts at the hysteresis level. -/
  | cmpDeassert (i : Ain) (codes : List Int)
  /-- `OW_PERIODIC` (R112). The periodic open-wire timer starts tests on the marked inputs. -/
  | owPeriodic
  /-- `OW_DWELL_END` (R111). The current dwell of an open-wire test ends and its window is due. -/
  | owDwellEnd (i : Ain)
  /-- `OW_TEST_DONE` (R111). An open-wire test finishes with OK, OPEN or INCONCLUSIVE. -/
  | owTestDone (i : Ain) (plus minus : List Int)
  /-- `ENC_EDGE` (R123). An edge of an encoder line is qualified, counted and fed to the estimator. -/
  | encEdge (n : Ch) (ap an bp bn zp zn : Bool)
  /-- `DELAYED_EDGE` (R123). MIN_EDGE elapses with the logical value differing from the accepted level, so a delayed edge is accepted. -/
  | delayedEdge (n : Ch) (line : Fin 6)
  /-- `NOISY_INTERVAL` (R124). A 1 ms rejection-count interval ends. -/
  | noisyInterval (n : Ch)
  /-- `WIRE_FAULT` (R122). P and N of a pair stay equal for DIS_TIME. -/
  | wireFault (n : Ch) (line : Fin 3)
  /-- `INDEX` (R129). An accepted index edge is processed against the expected position. -/
  | index (n : Ch)
  /-- `Z_MISSING` (R130). since_index reaches 1.5 revolutions without an index. -/
  | zMissing (n : Ch)
  /-- `HALL_EDGE` (R132). A Hall state transition moves the sector in one direction. -/
  | hallEdge (n : Ch) (u v w : Bool)
  /-- `HALL_INVALID` (R133). A Hall state of 0 or 7 persists for DIS_TIME. -/
  | hallInvalid (n : Ch)
  /-- `RSV_SAMPLE` (R136). An excitation half-period ends and yields a resolver sample. -/
  | rsvSample (n : Ch) (sin cos : List (Int × Nat)) (due : Nat)
  /-- `SER_FRAME_START` (R140). A serial trigger starts a CSER or SSI frame. -/
  | serFrameStart (n : Ch) (slo : Bool)
  /-- `SER_FRAME_END` (R144). A serial frame ends and is checked, yielding a sample or an error. -/
  | serFrameEnd (n : Ch) (bits : List Bool) (delay : Nat)
  /-- `SER_TIMEOUT` (R142). The sync pattern has not arrived within sync_to MA periods. -/
  | serTimeout (n : Ch)
  /-- `SPD_TIMEOUT` (R145). SPD_TIMEOUT passes without an edge and the speed becomes invalid. -/
  | spdTimeout (n : Ch)
  /-- `PERIOD_LATCH` (R147). At reload plus offset the interface forms and delivers the position record. -/
  | periodLatch (n : Ch)
  /-- `SRC_RESTORE` (R153). A write of src_restore requests a return to the primary. -/
  | srcRestore (a : Access) (n : Ch) (v : Nat)
  /-- `POS_HOME` (R131). The command arms homing at the next index. -/
  | posHome (c : Ctx) (p : List Nat)
  /-- `POS_SET` (R131). The command writes the count and revolution position and sets referenced. -/
  | posSet (c : Ctx) (p : List Nat)
  /-- `CARRIER_ENABLE` (R163). Setting a carrier's en starts it at carrier zero with the shadow values. -/
  | carrierEnable (a : Access) (r : Carr) (v : Nat)
  /-- `CARRIER_SYNC_START` (R170). A synced carrier starts at the reference carrier zero plus its phase. -/
  | carrierSyncStart (r : Carr)
  /-- `CARRIER_DISABLE` (R163). Clearing en turns the legs off at once and stops reloads. -/
  | carrierDisable (a : Access) (r : Carr) (v : Nat)
  /-- `CARRIER_ZERO` (R164). A carrier reaches carrier zero, ending cuts and counting overcurrent periods. -/
  | carrierZero (r : Carr)
  /-- `CARRIER_PEAK` (R164). A carrier reaches carrier peak. -/
  | carrierPeak (r : Carr)
  /-- `COT_END_EVENT` (R168). An end event of a COT or CFT carrier ends or is stored for its period. -/
  | cotEndEvent (r : Carr)
  /-- `COT_PER_MIN` (R168). PER_MIN elapses with a stored end event, ending the period. -/
  | cotPerMin (r : Carr)
  /-- `COT_PERMAX` (R168). PER_MAX elapses without an end event, ending the period. -/
  | cotPermax (r : Carr)
  /-- `DL_CAL` (R172). Every 1 ms the delay-line replica is measured to form a new code. -/
  | dlCal (code : Option Nat)
  /-- `COMMIT_WRITE` (R174). A write of CHn_COMMIT.go commits the shadow period and duties. -/
  | commitWrite (a : Access) (n : Ch) (v : Nat)
  /-- `LEG_COMMIT` (R178). A write of LEGk_COMMIT.go commits an auxiliary leg. -/
  | legCommit (a : Access) (l : Fin 4) (v : Nat)
  /-- `FAULT_INPUT_ACTIVE` (R184). A fault pin's filter count reaches FLT_FILT and the input acts by its mode. -/
  | faultInputActive (j : Fin 16) (lvl : Bool)
  /-- `FAULT_INPUT_INACTIVE` (R184). A fault pin's level is no longer asserted. -/
  | faultInputInactive (j : Fin 16) (lvl : Bool)
  /-- `ITRIP_ACTIVE` (R190). A trip line's comparator output asserts and the line acts by its mode. -/
  | itripActive (m : Fin 16)
  /-- `BLANK_END` (R190). A blanking window ends and a trip line whose output is still asserted becomes active. -/
  | blankEnd (m : Fin 16)
  /-- `FLT_LATCH_CLEAR` (R188). A W1C write to FLT_STAT clears inactive latches. -/
  | fltLatchClear (a : Access) (v : Nat)
  /-- `OUTPUT_GATE_HOLD` (R162). A cause of the output gate arises and forces every output off. -/
  | outputGateHold (cause : Fin 4)
  /-- `OUTPUT_GATE_RELEASE` (R162). The last cause of the output gate ends, so the outputs follow the generator from the next reload. -/
  | outputGateRelease (cause : Fin 4)
  /-- `DEAD_TIME_END` (R192). An output waiting out its dead time turns on. -/
  | deadTimeEnd (k : Leg) (high : Bool)
  /-- `MEAS_LANDING` (R220). A measurement or position record lands at the spindle as an agreed input. -/
  | measLanding (n : Ch) (what : Landing)
  /-- `SPECULATION` (R214). The speculation starts at the later of the reload and the position record's landing. -/
  | speculation (n : Ch) (errs : WordErrs)
  /-- `SPEC_DONE` (R214). The speculation completes after step + 4 cycles. -/
  | specDone (n : Ch)
  /-- `FAST_PATH` (R215). Once speculation and landing are complete, the fast path corrects and accepts or rejects. -/
  | fastPath (n : Ch)
  /-- `FULL_EVAL_DONE` (R216). A full evaluation completes and its duties are released. -/
  | fullEvalDone (n : Ch) (errs : WordErrs)
  /-- `WAIT_LIMIT` (R220). The wait limit is reached, so missing measurements take zero innovation and evaluation starts. -/
  | waitLimit (n : Ch)
  /-- `FB_HOLD_EXPIRED` (R223). The hold timer expires, requesting STOPPING or raising FB_EXPIRED. -/
  | fbHoldExpired (n : Ch)
  /-- `SWAP_REQUEST` (R226). A write of SPn_BANK.swap requests a bank swap. -/
  | swapRequest (a : Access) (n : Ch) (v : Nat)
  /-- `SEAL_REQUEST` (R212). A write of seal_req starts sealing the inactive bank. -/
  | sealRequest (a : Access) (n : Ch) (v : Nat)
  /-- `SEAL_DONE` (R212). Sealing completes, deriving M0, the step and the CRC. -/
  | sealDone (n : Ch)
  /-- `OSC_WINDOW_END` (R229). An oscillation window ends and OSC acts when its conditions hold. -/
  | oscWindowEnd (n : Ch)
  /-- `FW_LIMIT` (R246). id_fw stays at id_fw_min for 10 ms. -/
  | fwLimit (n : Ch)
  /-- `DTC_DECISION` (R250). A DTC decision integrates the flux and picks a voltage vector. -/
  | dtcDecision (n : Ch)
  /-- `DTC_MISS` (R249). No decision has been taken within four times the effective spacing. -/
  | dtcMiss (n : Ch)
  /-- `HANDOVER` (R252). FOC resumes from a DTC task after its conditions have held for 5 ms. -/
  | handover (n : Ch)
  /-- `IPD_COMPLETE` (R254). Initial position detection ends with IPD_DONE or IPD_FAIL. -/
  | ipdComplete (n : Ch) (peaks : List Int)
  /-- `OBS_VALID` (R256). The observer becomes valid after obs_n qualifying periods. -/
  | obsValid (n : Ch)
  /-- `OBS_LOST` (R257). The observer is lost after obs_n bad periods, which freezes the speed. -/
  | obsLost (n : Ch)
  /-- `RECAPTURE` (R258). A recapture attempt applies the selected pattern and estimates the angle once settled. -/
  | recapture (n : Ch) (a1 b1 a2 b2 : Int) (dt : Nat)
  /-- `RECAP_ATTEMPT_END` (R258). A recapture attempt reaches 100 ms without handover. -/
  | recapAttemptEnd (n : Ch)
  /-- `LOCKED` (R259). The rotor does not move for lr_time under torque. -/
  | locked (n : Ch)
  /-- `LOCK_CLEAR` (R259). A locked rotor moves or torque drops for lr_time. -/
  | lockClear (n : Ch)
  /-- `KE_ABNORMAL` (R260). The flux estimate stays out of tolerance for ke_time. -/
  | keAbnormal (n : Ch)
  /-- `KE_ABN_CLEAR` (R260). A write of 1 to ke_abn clears the flag and restarts the estimate. -/
  | keAbnClear (a : Access) (n : Ch) (v : Nat)
  /-- `PLL_LOCK` (R261). The grid tracking loop locks after 20 ms. -/
  | pllLock (n : Ch)
  /-- `PLL_UNLOCK` (R261). The grid tracking loop unlocks after 10 bad periods. -/
  | pllUnlock (n : Ch)
  /-- `GRID_BAND` (R261). The grid frequency stays outside its band for 100 ms. -/
  | gridBand (n : Ch)
  /-- `CH_PRECHARGE` (R292). The command starts precharging the channel's link. -/
  | chPrecharge (c : Ctx) (p : List Nat)
  /-- `CH_ENABLE` (R272). The command checks the channel and enters RUN. -/
  | chEnable (c : Ctx) (p : List Nat)
  /-- `CH_STOP` (R271). The command stops the channel or abandons a precharge. -/
  | chStop (c : Ctx) (p : List Nat)
  /-- `CH_SAFE` (R279). The command puts the channel into SAFE with the requested state. -/
  | chSafe (c : Ctx) (p : List Nat)
  /-- `CH_CLEAR_FAULT` (R273). The command clears a channel's faults and leaves SAFE when allowed. -/
  | chClearFault (c : Ctx) (p : List Nat)
  /-- `CH_DISCHARGE` (R293). The command starts discharging the channel's link. -/
  | chDischarge (c : Ctx) (p : List Nat)
  /-- `SWFAIL_WRITE` (R281). A write of CHn_SWFAIL reports or clears failed switches. -/
  | swfailWrite (a : Access) (n : Ch) (v : Nat)
  /-- `LINK_ENABLE` (R284). Setting a link monitor's en checks the threshold order. -/
  | linkEnable (a : Access) (l : Lnk) (v : Nat)
  /-- `OV_WARN` (R286). The OV_WARN threshold asserts. -/
  | ovWarn (l : Lnk) (codes : List Int)
  /-- `CHOP_ON` (R287). The CHOP_ON threshold asserts and a full chopper duty is committed. -/
  | chopOn (l : Lnk) (codes : List Int)
  /-- `CHOP_OFF` (R287). A sample at or below chop_off commits a zero chopper duty. -/
  | chopOff (l : Lnk) (codes : List Int)
  /-- `OV_ASC` (R290). OV_ASC asserts and every member receives an immediate safe request. -/
  | ovAsc (l : Lnk) (codes : List Int)
  /-- `OV_HARD` (R290). A single sample reaches ov_hard and every member receives an immediate safe request. -/
  | ovHard (l : Lnk) (codes : List Int)
  /-- `LINK_STARVED` (R285). No sample of the link voltage has arrived for 5 µs. -/
  | linkStarved (l : Lnk)
  /-- `CHOP_COMMIT` (R287). The monitor forms the chopper commit 16 tk before the chopper's reload. -/
  | chopCommit (l : Lnk)
  /-- `CHOP_CONFIRM` (R288). chop_confirm elapses after switch-on and the chopper is checked. -/
  | chopConfirm (l : Lnk) (ichop : Option Int)
  /-- `PRECHARGE_DONE` (R292). The link has stayed above pre_done for 5 ms and becomes CHARGED. -/
  | prechargeDone (l : Lnk) (codes : List Int)
  /-- `PRECHARGE_FAIL` (R292). pre_time elapses without charging and the precharge fails. -/
  | prechargeFail (l : Lnk)
  /-- `PRECHARGE_LEG_OFF` (R292). 100 ms after CHARGED the precharge leg is committed zero. -/
  | prechargeLegOff (l : Lnk)
  /-- `DIS_DONE` (R295). The link has stayed at or below dis_v for 1 ms, ending the discharge. -/
  | disDone (l : Lnk) (codes : List Int)
  /-- `DIS_FAIL` (R295). dis_time elapses without the discharge being done. -/
  | disFail (l : Lnk)
  /-- `DIS_TIMEOUT` (R295). At 4 × dis_time the discharge ends with the link DISCHARGED. -/
  | disTimeout (l : Lnk)
  /-- `BADGER_EVAL` (R296). Every 100 µs Badger evaluates the torque monitor, angle check, staged parameters and speed conditions. -/
  | badgerEval (smp : List (List (Int × Int × Nat)))
  /-- `LOCKSTEP_MISMATCH` (R307). A pair's comparators signal different or invalid. -/
  | lockstepMismatch (p : AgreePair) (rp rq : Fin 4) (parity : Bool)
  /-- `CMP_SELFTEST` (R308). Every 10 ms each pair's comparators are tested with an inverted bit. -/
  | cmpSelftest (p : AgreePair) (pOk qOk : Bool)
  /-- `CHUCK_RELEASE` (R309). A value reaching Chuck is compared and released to both halves. -/
  | chuckRelease (p : AgreePair) (differ : Fin 5)
  /-- `STATE_DIGEST` (R312). Every digest period each pair compares its state digests. -/
  | stateDigest (p : Pair) (m c : Nat)
  /-- `SPINDLE_RESTORE` (R314). At reload k+1 a held spindle reloads its checkpoint and re-evaluates period k. -/
  | spindleRestore (n : Ch)
  /-- `CORE_PAIR_RESTART` (R317). HOLD resets a core pair, which restarts at its vector within 20 µs. -/
  | corePairRestart (c : Fin 2)
  /-- `MP_RESTART` (R318). HOLD resets the MP, which restarts its firmware. -/
  | mpRestart
  /-- `DEBUG_HALT` (R319). A debug halt breaks a core pair's lockstep and latches LOCKSTEP_BROKEN. -/
  | debugHalt (c : Fin 2)
  /-- `CKB_MONITOR` (R321). A 0.5 µs reference window counts CKB edges. -/
  | ckbMonitor (edges : Nat)
  /-- `CKB_TRIM` (R321). Every 1 ms Badger trims CKB from SCV1's TDIODE reading. -/
  | ckbTrim
  /-- `SUPPLY_FAULT` (R322). A rail stays outside its window for 2 µs. -/
  | supplyFault (r : Rail)
  /-- `BDG_UNDERVOLT_RESET` (R322). VDD_BDG below 0.700 V resets the island. -/
  | bdgUndervoltReset
  /-- `SCV_TDIODE_READ` (R323). SCV1 reads TDIODE every 100 µs. -/
  | scvTdiodeRead (t : Int)
  /-- `WDG_KICK` (R325). A write to BDG_WDG_KICKc is judged as a watchdog kick. -/
  | wdgKick (a : Access) (c : Fin 3) (v : Nat)
  /-- `WDG_TIMEOUT` (R325). No valid kick arrives by wd_max. -/
  | wdgTimeout (c : Fin 3)
  /-- `FAULT_RAISED` (R333). A fault source arrives at the fault collection unit and its class acts. -/
  | faultRaised (src : Fin 192) (payload : Nat)
  /-- `FAULT_READ` (R340). The mailbox message returns fault bits, counts and payloads. -/
  | faultRead (seq : Nat)
  /-- `FAULT_CLEAR` (R335). The mailbox message clears sticky bits of sources not asserted. -/
  | faultClear (seq : Nat) (srcs : List Nat)
  /-- `CLASS_READ` (R340). The mailbox message returns each source's reaction class. -/
  | classRead (seq : Nat)
  /-- `PARAM_STAGE` (R326). The mailbox message carries a staged block for verification. -/
  | paramStage (seq : Nat) (block : List Nat) (crc : Nat)
  /-- `PARAM_READ` (R340). The mailbox message returns the active staged block. -/
  | paramRead (seq : Nat)
  /-- `MON_READ` (R340). The mailbox message returns the torque monitor and angle state. -/
  | monRead (seq : Nat)
  /-- `ROLE_SETTLE` (R346). After start-up a paired unit settles its role from the heartbeat and start_role. -/
  | roleSettle
  /-- `START_WAIT_EXPIRED` (R346). A SECONDARY unit's wait ends without a heartbeat. -/
  | startWaitExpired
  /-- `STANDBY_DEMOTE` (R347). A unit running its heartbeat but unselected for 2 µs becomes STANDBY. -/
  | standbyDemote
  /-- `SEL_FB_CHANGE` (R343). SEL_FB changes level at the pin. -/
  | selFbChange (lvl : Bool)
  /-- `HEARTBEAT_MISSING` (R343). No edge arrives on XL_IN for 2 µs. -/
  | heartbeatMissing
  /-- `TAKEOVER_XL_START` (R361). At t_claim minus hb_lead the claiming unit starts XL_OUT. -/
  | takeoverXlStart
  /-- `TAKEOVER_CLAIM` (R361). At t_claim the unit checks SEL_FB and becomes ACTIVE or retries. -/
  | takeoverClaim
  /-- `SELECTOR_FAULT` (R371). SEL_FB disagrees with the role for 2 µs. -/
  | selectorFault
  /-- `HANDOFF_RELEASE` (R365). The active unit stops XL_OUT to begin the release window of a handover. -/
  | handoffRelease
  /-- `LANE_UP` (R348). A lane has received 1,024 clean idle characters. -/
  | laneUp (i : Fin 2)
  /-- `LANE_DOWN` (R348). A lane sees 16 errors within 1 µs or loses lock. -/
  | laneDown (i : Fin 2)
  /-- `LINK_DOWN` (R348). Both lanes have been down for 10 µs and TLS_LINK is raised. -/
  | linkDown
  /-- `CHECKPOINT_RX` (R357). A channel checkpoint frame is received for adoption. -/
  | checkpointRx (i : Fin 2) (b : List Nat)
  /-- `METER_CHECKPOINT_RX` (R358). A meter checkpoint is received and its totals are adopted. -/
  | meterCheckpointRx (i : Fin 2) (b : List Nat)
  /-- `TIMEBASE_SYNC_RX` (R354). A TIMEBASE_SYNC frame gives the delay and offset to the peer. -/
  | timebaseSyncRx (i : Fin 2) (b : List Nat)
  /-- `HEARTBEAT_RX` (R353). A HEARTBEAT frame updates the peer's state and can start a takeover or handover. -/
  | heartbeatRx (i : Fin 2) (b : List Nat)
  /-- `CONFIG_DIGEST_RX` (R360). A CONFIG_DIGEST frame is compared with the unit's own digest. -/
  | configDigestRx (i : Fin 2) (b : List Nat)
  /-- `METER_CHECKPOINT_TX` (R352). Every 1 ms the active unit sends the meter checkpoint. -/
  | meterCheckpointTx
  /-- `TIMEBASE_SYNC_TX` (R349). Every 100 µs a TIMEBASE_SYNC frame is sent. -/
  | timebaseSyncTx
  /-- `HEARTBEAT_TX` (R349). A HEARTBEAT frame is sent every 10 µs and at changes. -/
  | heartbeatTx
  /-- `CONFIG_DIGEST_TX` (R349). A CONFIG_DIGEST frame is sent at link up, at a change and every 1 s. -/
  | configDigestTx
  /-- `TLS_ENABLE` (R372). Setting TLS_CFG.en configures pairing and settles the role. -/
  | tlsEnable (a : Access) (v : Nat)
  /-- `TLS_DISABLE` (R372). Clearing TLS_CFG.en makes the unit UNPAIRED. -/
  | tlsDisable (a : Access) (v : Nat)
  /-- `PAIR_STATUS` (R369). The command returns the pairing status registers. -/
  | pairStatus (c : Ctx) (p : List Nat)
  /-- `PAIR_ROLE` (R365). The command starts a planned handover to the standby. -/
  | pairRole (c : Ctx) (p : List Nat)
  /-- `PAIR_REJOIN` (R369). The command returns an unpaired or unready unit to SYNCING. -/
  | pairRejoin (c : Ctx) (p : List Nat)
  /-- `PACKET_ARRIVAL` (R377). A command packet arrives and is checked and queued. -/
  | packetArrival (t : Transport) (src : Nat) (b : List Nat)
  /-- `SQ_TAIL_WRITE` (R381). CPA or CPB advances QPq_SQ.tail to submit entries. -/
  | sqTailWrite (a : Access) (q : Qp) (v : Nat)
  /-- `MP_DISPATCH` (R385). The MP takes the next command by class and queue order. -/
  | mpDispatch
  /-- `WAIT_EXPIRED` (R386). A command waits beyond QWAIT_LIMIT and completes unexecuted. -/
  | waitExpired (q : Qp)
  /-- `MPLOAD_WINDOW` (R387). A 10 ms MP load window ends and overload is judged. -/
  | mploadWindow (busy : Fin 256)
  /-- `QUEUE_IDLE_TIMEOUT` (R383). A queue's idle timeout elapses and it closes. -/
  | queueIdleTimeout (q : Qp)
  /-- `CHALLENGE_EXPIRY` (R527). A CHALLENGE reservation reaches the end of its 1 s validity. -/
  | challengeExpiry (q : Qp)
  /-- `NOP` (R393). The command does nothing. -/
  | nop (c : Ctx) (p : List Nat)
  /-- `GET_STATUS` (R393). The command returns the device status. -/
  | getStatus (c : Ctx) (p : List Nat)
  /-- `GET_EVENTS` (R393). The command returns event log entries. -/
  | getEvents (c : Ctx) (p : List Nat)
  /-- `SESSION_OPEN` (R382). SESSION_OPEN in mode OPEN_U opens an unprivileged queue. -/
  | sessionOpen (c : Ctx) (p : List Nat)
  /-- `CHALLENGE` (R382). SESSION_OPEN in mode CHALLENGE reserves a queue and returns a nonce. -/
  | challenge (c : Ctx) (p : List Nat)
  /-- `OPEN_P` (R382). SESSION_OPEN in mode OPEN_P opens a privileged queue on a correct response. -/
  | openP (c : Ctx) (p : List Nat)
  /-- `SESSION_CLOSE` (R383). The command closes a queue. -/
  | sessionClose (c : Ctx) (p : List Nat)
  /-- `SET_PROFILE` (R30). The command requests a profile. -/
  | setProfile (c : Ctx) (p : List Nat)
  /-- `SET_TORQUE` (R390). The command writes the target of generator 1. -/
  | setTorque (c : Ctx) (p : List Nat)
  /-- `SET_SPEED` (R390). The command writes the targets of generators 2 and 3. -/
  | setSpeed (c : Ctx) (p : List Nat)
  /-- `SET_LIMITS` (R245). The command sets the channel's torque limit. -/
  | setLimits (c : Ctx) (p : List Nat)
  /-- `SET_RAMP_LIMITS` (R230). The command writes a generator's ramp limits. -/
  | setRampLimits (c : Ctx) (p : List Nat)
  /-- `CFG_WRITE` (R394). The command performs register writes in order with read-back. -/
  | cfgWrite (c : Ctx) (p : List Nat)
  /-- `CFG_READ` (R394). The command reads registers with the packet's privilege. -/
  | cfgRead (c : Ctx) (p : List Nat)
  /-- `CFG_LOCK` (R9). The command locks LK fields until reset. -/
  | cfgLock (c : Ctx) (p : List Nat)
  /-- `COEF_LOAD` (R211). The command writes coefficient words of a bank and optionally seals it. -/
  | coefLoad (c : Ctx) (p : List Nat)
  /-- `COEF_SWAP` (R226). The command requests a bank swap. -/
  | coefSwap (c : Ctx) (p : List Nat)
  /-- `COEF_READ` (R393). The command reads bank or state words. -/
  | coefRead (c : Ctx) (p : List Nat) (errs : WordErrs)
  /-- `CV_CALIBRATE` (R97). The command requests a full calibration or restarts background calibration. -/
  | cvCalibrate (c : Ctx) (p : List Nat)
  /-- `CV_INJECT` (R393). The command starts an injected conversion. -/
  | cvInject (c : Ctx) (p : List Nat)
  /-- `CV_OPEN_WIRE_TEST` (R112). The command runs open-wire tests on the named inputs. -/
  | cvOpenWireTest (c : Ctx) (p : List Nat)
  /-- `PRT_CONFIG` (R326). The command sends a staged safety parameter block in fragments. -/
  | prtConfig (c : Ctx) (p : List Nat)
  /-- `PRT_TEST` (R393). The command raises a fault source, pulses SAFE_EN or runs a comparator test. -/
  | prtTest (c : Ctx) (p : List Nat)
  /-- `MTR_READ` (R393). The command returns the meter totals. -/
  | mtrRead (c : Ctx) (p : List Nat)
  /-- `LEDGER_FETCH` (R434). The command returns held ledger records. -/
  | ledgerFetch (c : Ctx) (p : List Nat)
  /-- `MTR_CAL` (R430). The command writes the meter gains and offsets. -/
  | mtrCal (c : Ctx) (p : List Nat)
  /-- `OWL_ARM` (R449). The command or the arm bit starts a new recording. -/
  | owlArm (c : Ctx) (p : List Nat)
  /-- `OWL_TRIGGER` (R452). The command or the trig bit triggers the recording. -/
  | owlTrigger (c : Ctx) (p : List Nat)
  /-- `OWL_FETCH` (R454). The command returns recorded words. -/
  | owlFetch (c : Ctx) (p : List Nat) (errs : WordErrs)
  /-- `REPLAY_START` (R457). The command checks the recording and starts a replay. -/
  | replayStart (c : Ctx) (p : List Nat)
  /-- `SETT_ENUMERATE` (R418). The command starts enumeration of a Sett port. -/
  | settEnumerate (c : Ctx) (p : List Nat)
  /-- `SETT_NODE_READ` (R424). The command reads node registers. -/
  | settNodeRead (c : Ctx) (p : List Nat)
  /-- `SETT_NODE_WRITE` (R424). The command writes node registers. -/
  | settNodeWrite (c : Ctx) (p : List Nat)
  /-- `LC_QUERY` (R393). The command returns the life-cycle state, epoch, revocations and device ID. -/
  | lcQuery (c : Ctx) (p : List Nat)
  /-- `LC_ADVANCE` (R486). The command advances the life-cycle state with authorisation. -/
  | lcAdvance (c : Ctx) (p : List Nat)
  /-- `FW_UPDATE` (R491). The command assembles and verifies a firmware image for programming. -/
  | fwUpdate (c : Ctx) (p : List Nat)
  /-- `KEY_REVOKE` (R488). The command revokes a key slot. -/
  | keyRevoke (c : Ctx) (p : List Nat)
  /-- `BIST_REPORT` (R474). The command returns the retained BIST record. -/
  | bistReport (c : Ctx) (p : List Nat)
  /-- `SELFTEST_RUN` (R476). The command runs the selected self-tests. -/
  | selftestRun (c : Ctx) (p : List Nat)
  /-- `DIAG_PEEK` (R393). The command reads 32-bit values in DEVELOP or RETURN. -/
  | diagPeek (c : Ctx) (p : List Nat)
  /-- `POLL` (R398). A host-link POLL frame is answered with RESP or STATUS. -/
  | poll (b : List Nat)
  /-- `HLK_CMD` (R398). A host-link CMD frame carries a packet and is answered with RESP or ACK. -/
  | hlkCmd (b : List Nat)
  /-- `HLK_FAST` (R398). A host-link FAST frame writes direct set-point slots. -/
  | hlkFast (b : List Nat)
  /-- `DISCOVER` (R400). An ENUM DISCOVER frame makes unaddressed devices reply in slots. -/
  | discover (b : List Nat)
  /-- `HLK_ASSIGN` (R400). An ENUM ASSIGN frame gives the named device its address. -/
  | hlkAssign (b : List Nat)
  /-- `HLK_FRAME_ABORT` (R397). An idle of more than 20 bit times inside a frame aborts it. -/
  | hlkFrameAbort
  /-- `CAN_SEGMENT` (R402). A CAN FD segment of a packet is received and assembled. -/
  | canSegment (x : Fin 2) (b : List Nat)
  /-- `CAN_SEGMENT_GAP` (R402). More than 10 ms passes between segments and the assembly is discarded. -/
  | canSegmentGap (x : Fin 2)
  /-- `CAN_SETPOINT` (R403). A CAN direct set-point message is checked and applied. -/
  | canSetpoint (x : Fin 2) (n : Ch) (b : List Nat)
  /-- `CAN_BUSOFF` (R401). A CAN controller enters bus-off. -/
  | canBusoff (x : Fin 2)
  /-- `SLOT_STALE` (R392). No value has been accepted for a slot for stale_to µs. -/
  | slotStale (n : Ch) (g : Fin 4)
  /-- `PTP_SYNC` (R405). A Sync message yields a new time relation. -/
  | ptpSync (ts0 t0 : Nat) (rate : Int)
  /-- `PTP_LOST` (R405). No Sync has arrived for 2 s. -/
  | ptpLost
  /-- `PLIC_CLAIM` (R407). A read of a context's claim register claims the highest pending interrupt. -/
  | plicClaim (a : Access) (c : Fin 5)
  /-- `PLIC_COMPLETE` (R407). A write of a context's complete register completes an interrupt. -/
  | plicComplete (a : Access) (c : Fin 5) (v : Nat)
  /-- `SETT_FAST_START` (R421). At every div-th reload plus offset a Sett FAST frame starts. -/
  | settFastStart (p : Port)
  /-- `SETT_FAST_RETURN` (R423). A FAST frame returns and each slot is judged valid or a miss. -/
  | settFastReturn (p : Port) (b : Fin 2) (arrived crcOk : Bool) (dur : Nat) (slots : List (List Nat))
  /-- `SETT_SLOW_START` (R424). A SLOW transaction starts in a FAST gap. -/
  | settSlowStart (p : Port) (b : Fin 2)
  /-- `SETT_SLOW_REPLY` (R424). A SLOW transaction's reply returns. -/
  | settSlowReply (p : Port) (b : Fin 2) (arrived crcOk : Bool) (reply : Option (List Nat))
  /-- `PACKID_READ` (R424). Once per second the meter's PACKID node is read. -/
  | packidRead
  /-- `PACK_UNVERIFIED` (R433). No valid pack ID read has succeeded for 10 s. -/
  | packUnverified
  /-- `SETT_ASSIGN_REPLY` (R418). An ASSIGN frame returns during enumeration, recording a node or ending enumeration. -/
  | settAssignReply (p : Port) (loop : Nat) (r : Option (Nat × Nat × Bool × Nat))
  /-- `RING_BREAK` (R426). Frames do not return at end B, so a break is declared and LINE mode follows. -/
  | ringBreak (p : Port) (quiet : Bool) (endA endB : Fin 256)
  /-- `CLOSE_TEST` (R427). Every 100 ms in LINE mode a CLOSE_TEST is sent. -/
  | closeTest (p : Port) (arrived : Bool)
  /-- `METER_BLOCK` (R429). A 4,000-clock meter block ends and its net sum is added to the totals. -/
  | meterBlock (smp : List (Nat × Int × Int)) (held : Nat) (clip : Bool)
  /-- `LEDGER_RECORD` (R431). At a ledger instant the meter writes an authenticated record. -/
  | ledgerRecord
  /-- `METER_RESTORE` (R436). A write of MTR_RESTORE_GO.go verifies a record and restores the totals. -/
  | meterRestore (a : Access) (v : Nat)
  /-- `CVU_START` (R437). A write of CVUc_CTL.start loads the initial value. -/
  | cvuStart (a : Access) (c : Fin 4) (v : Nat)
  /-- `CVU_DATA` (R437). A write to a CVU data register feeds bytes into the CRC. -/
  | cvuData (a : Access) (c : Fin 4) (w : Fin 3) (v : Nat)
  /-- `CVU_RESULT_READ` (R437). A read of CVUc_RES_LO waits for pending bytes and returns the result. -/
  | cvuResultRead (a : Access) (c : Fin 4)
  /-- `CVU_ALIVE` (R438). A write of CVUc_ALIVE checks an alive counter. -/
  | cvuAlive (a : Access) (c : Fin 4) (v : Nat)
  /-- `CVU_ALIVE_CLR` (R438). A write of alive_clr forgets the last counter. -/
  | cvuAliveClr (a : Access) (c : Fin 4) (v : Nat)
  /-- `OWL_TICK_HEADER` (R445). After 2^19 tk without a HEADER, Owl writes a TICK header. -/
  | owlTickHeader
  /-- `OWL_STOP` (R453). The ring fills or P words follow the trigger, so recording stops. -/
  | owlStop
  /-- `OWL_OFFLOAD` (R455). A write of OWL_ETH.go starts offload over UDP. -/
  | owlOffload (a : Access) (v : Nat) (errs : WordErrs)
  /-- `OWL_OFFLOAD_DONE` (R455). The final datagram ends the offload. -/
  | owlOffloadDone
  /-- `OWL_LOAD_STORE` (R456). A write of OWL_LOAD_D2 stores a word of a loaded recording. -/
  | owlLoadStore (a : Access) (v : Nat)
  /-- `REPLAY_HEADER` (R458). A recorded HEADER gives the replayed spindle its reload. -/
  | replayHeader
  /-- `REPLAY_INPUT` (R458). A recorded input is delivered into Chuck at its tick. -/
  | replayInput (errs : WordErrs)
  /-- `REPLAY_END` (R459). The replay reaches its end condition and returns to STOPPED. -/
  | replayEnd
  /-- `REPLAY_ABORT` (R459). A write of rp_abort ends the replay with ABORTED. -/
  | replayAbort (a : Access) (v : Nat)
  /-- `CONFIG_DIGEST_UPDATE` (R451). CONFIG_DIGEST is recomputed after a change to its inputs. -/
  | configDigestUpdate
  /-- `PORST_ASSERT` (R465). PORST_N goes low and holds every block but the always-on domain in reset. -/
  | porstAssert
  /-- `PORST_RELEASE` (R466). The release of PORST_N is a device reset and starts start-up. -/
  | porstRelease (strap : Fin 64) (ign : Bool) (secs : Nat)
  /-- `PWR_RESET` (R466). A write of 0x5A5A to PWR_RESET.key resets the device. -/
  | pwrReset (a : Access) (v : Nat)
  /-- `BADGER_START_DONE` (R468). Badger completes its start-up checks and RST_OUT_N rises. -/
  | badgerStartDone (ok : Bool) (phase : Nat)
  /-- `STARTUP_BIST_DONE` (R470). The start-up BIST of a cold start ends. -/
  | startupBistDone (res : Fin 3) (phase fail word region ms : Nat)
  /-- `BOOT_LOAD_DONE` (R490). The boot ROM accepts an image or fails to boot. -/
  | bootLoadDone
  /-- `DEV_READY` (R468). Firmware initialises, the gate is released, SAFE_EN rises and the device is ready. -/
  | devReady
  /-- `SHUTDOWN_REQUEST` (R472). A write of PWR_CTL.shutdown requests a shut-down. -/
  | shutdownRequest (a : Access) (v : Nat)
  /-- `IGN_FILTER_EXPIRY` (R472). IGN stays low for ign_filt and requests a shut-down. -/
  | ignFilterExpiry
  /-- `SHUTDOWN_QUIESCENT` (R472). The device becomes quiescent and starts the shut-down BIST. -/
  | shutdownQuiescent
  /-- `SHUT_WAIT` (R472). The quiescence wait exceeds 10 s. -/
  | shutWait
  /-- `SHUTDOWN_BIST_DONE` (R473). The shut-down BIST stores its record and the device enters standby. -/
  | shutdownBistDone (res : Fin 2) (phase fail word region ms : Nat)
  /-- `BIST_TIMEOUT` (R473). The BIST has not completed within 150 ms and is ended with TIMEOUT. -/
  | bistTimeout
  /-- `WAKE_PIN` (R478). WAKE held high for 1 ms wakes the device. -/
  | wakePin (rails ign : Bool) (secs : Nat)
  /-- `WAKE_TIMER` (R478). The always-on timer expires and wakes the device. -/
  | wakeTimer (rails : Bool) (secs : Nat)
  /-- `AON_LOSS` (R479). VDD_AON is lost and the retention becomes invalid. -/
  | aonLoss
  /-- `THERMAL_READING` (R481). Every 100 µs CV7 reads TDIODE and the thermal level is updated. -/
  | thermalReading (t : Int)
  /-- `THM_STALE` (R480). No TDIODE reading has been possible for 1 ms. -/
  | thmStale
  /-- `THM_TRIM` (R483). Every 1 ms the oscillator and reference trims are updated. -/
  | thmTrim
  /-- `EPOCH_ADVANCE` (R492). A write of LCS_EPOCH.advance blows anti-rollback fuses. -/
  | epochAdvance (a : Access) (v : Nat)
  /-- `KEY_PROGRAM` (R487). A write of LCS_KPROG.go programs a key slot. -/
  | keyProgram (a : Access) (v : Nat)
  /-- `BIST_MANUAL` (R476). A write of BIST_CTL.go runs the BIST manually. -/
  | bistManual (a : Access) (v : Nat)
  /-- `SELFTEST_DONE` (R476). A self-test started by SELFTEST_RUN ends and reports its result. -/
  | selftestDone (res : Fin 3) (phase fail word region ms : Nat)
  /-- `FW_PROGRAM_DONE` (R491). The MP finishes programming an image and logs FW_STORED or FW_REFUSED. -/
  | fwProgramDone (ok : Bool)
  /-- `HEARTBEAT_PRESENT` (R346). A heartbeat appears on XL_IN, so a unit waiting as SECONDARY becomes STANDBY. -/
  | heartbeatPresent
  /-- `CLOCK_RETURN` (R34). A monitored clock comes back within its monitor window, so its condition fault source deasserts and, for CKM, Faceplate and the links resume. -/
  | clockReturn (d : Dom)
  /-- `SUPPLY_RETURN` (R322). A rail comes back within its window, so its condition fault source deasserts. -/
  | supplyReturn (r : Rail)
  /-- `REGISTER_READ` (R10). A read of a register clears its RC fields, or completes with a bus error for a bad width, address or privilege. -/
  | registerRead (a : Access) (addr size : Nat)
  /-- `SRAM_ACCESS` (R64). A load, store or fetch by CPA, CPB or the MP in a byte-addressed SRAM region is decoded and corrected, or read-merged for a narrow write. -/
  | sramAccess (a : Access) (op : MemOp) (addr size v : Nat) (errs : List Nat)
  /-- `WINDOW_OPEN` (R80). A scheduled window reaches its open instant, so the converter switches, starts up or redirects to the partner, and takes its first sample. -/
  | windowOpen (q : Sq) (k : Fin 16)
  /-- `DUTY_EDGE` (R164). The carrier reaches a duty compare instant and a command edge of GHk or GLk occurs, and a turn-on starts fault blanking. -/
  | dutyEdge (k : Leg)
  /-- `LINK_THRESHOLD_DEASSERT` (R284). A link monitor threshold such as OV_WARN or OV_ASC deasserts at the first sample below it. -/
  | linkThresholdDeassert (l : Lnk) (codes : List Int)
  /-- `ENCO_EDGE` (R154). The divided encoder output emits a lagging edge at its 20 tk minimum spacing while it catches up. -/
  | encoEdge
  /-- `CAN_BUSOFF_RECOVERY` (R401). A CAN controller recovers from bus-off under the error-state rules of the standard. -/
  | canBusoffRecovery (x : Fin 2)
  /-- `SAFE_EN_PULSE_END` (R393). The 10 µs SAFE_EN low pulse of PRT_TEST ends and the output returns high. -/
  | safeEnPulseEnd
  /-- `PROFILE_CHANGE_EFFECT` (R30). An accepted profile change reaches every channel, so pending returns to 0 and SET_PROFILE completes with OK. -/
  | profileChangeEffect
  deriving DecidableEq, Repr

end Sys2Proof
end

