-- ==== Sys2Proof/Config.lean ====
section
/-! DEFINITION. What the spec leaves to a device or leaves open: constants without a body. Nothing in Lean can
evaluate them, so a claim that holds of them holds whatever they are. -/

namespace Sys2Proof.Config

/-- The k-th free value of a run (assumption 5): a value that the spec says exists but does not give. -/
opaque freeValue : Nat → Nat

/-- Byte `j` of the 8-byte payload of an event with this code and these items (R406 fixes only its size; assumption 6). -/
opaque payloadByte : Nat → List Nat → Nat → Nat

/-- The quotient of `num` by 0 in one of the device's formulas: the spec states no result there (assumption 33). -/
opaque openDiv : Int → Int

/-- The gain of the internal table of R248, zone 1, for a modulation index in 2^-31: the table's entries are not given
(assumption 33). -/
opaque ovmGain : Int → Nat

/-- Word `j` (72 bits) of a spindle's checkpoint, for the items it holds: the spec names the items, not their layout
(R209, assumption 33). -/
opaque ckptWord : List Int → Nat → Nat

/-- Parameter `i` that a staged block of safety parameters carries: the spec lists the parameters, not their places in the
block (R326, assumption 50). -/
opaque paramField : List Nat → Nat → Nat

/-- The trim that the OTP polynomial gives for a temperature code (R321, R483): its coefficients are not given. -/
opaque otpTrim : Nat → Int → Nat

/-- The 64-bit device ID, held in OTP. -/
opaque deviceId : Nat

/-- The SHA-256 of the Lowald root key, held in the boot ROM (R490). -/
opaque rootKeyHash : List Nat

/-- The device-unique key that signs the BIST record (R474). -/
opaque recordKey : List Nat

/-- Byte `j` of a channel CHECKPOINT whose place R351 does not give, for the items that the checkpoint holds. -/
opaque ckptByte : List Int → Nat → Nat

/-- Item `i` of those items, read back from the bytes of a checkpoint (assumption 51). -/
opaque ckptItem : List Nat → Nat → Int

/-- The host-link address that the OTP holds (R399). -/
opaque otpAddress : Nat

/-- The register of a Sett node that holds its slot content (R424): R416 and the node kinds give it no number (assumption 136). -/
opaque slotReg : Nat

/-- How many reads of four registers the round-robin makes of a node of this kind beyond its slot, and the first register: the spec gives
numbers for PACKID alone and the first register for STRING (assumption 136). -/
opaque kindReads : Nat → Nat × Nat

end Sys2Proof.Config
end

