-- ==== Sys2Proof/Machine/Field.lean ====
section
/-! DEFINITION. What a register field is (R7 to R10): its place, its width, its access code and its reset value. -/

namespace Sys2Proof.Machine

/-- The access codes of the spec's register tables. `wod` is a write-only field whose written data the block keeps. -/
inductive Acc where
  | rw | ro | wo | wod | w1c | w1s | rc
  deriving DecidableEq, Repr

/-- One field of a register: its number in the register store, the byte address of its register's first instance, the strides of the two instance
indices, the bit position and width, the access code, the marks PW and LK, and the reset value. -/
structure Fld where
  id : Nat
  addr : Nat
  s1 : Nat
  s2 : Nat
  lsb : Nat
  width : Nat
  acc : Acc
  pw : Bool
  lk : Bool
  reset : Nat
  deriving DecidableEq, Repr

/-- One register of the map: its name in the spec, the address of its first instance, how many instances each index
has with which stride, and its fields. -/
structure Reg where
  name : String
  addr : Nat
  n1 : Nat
  s1 : Nat
  n2 : Nat
  s2 : Nat
  flds : List Fld
  deriving Repr

/-- The byte address of the register that holds instance (i, j) of a field. -/
def Fld.at (f : Fld) (i j : Nat) : Nat := f.addr + i * f.s1 + j * f.s2

/-- The key of instance (i, j) of a field in the register store. Different fields have different keys whatever the
instances; 512 and 16 are the largest numbers of instances. -/
def Fld.key (f : Fld) (i j : Nat) : Nat := (f.id * 1024 + i % 1024) * 64 + j % 64

end Sys2Proof.Machine
end

