-- ==== Sys2Proof/Machine/Regs.lean ====
section
/-! DEFINITION. The register map (R7 to R10, R71, R72 and each block's register tables): every field of every
register table of the spec as one `Fld`, and the table `regTable` an address is looked up in.
A register instance is named by two indices: the block instance `i` (channel, leg, spindle, queue …) and an inner
index `j` (a step, a word of an array); an index a register has not is 0.
Fields that the spec marks reserved have no `Fld`: they read as 0 and ignore writes (R8). A reset of "—" in the
spec's tables is 0 here (DESIGN CHOICE, assumption 4). -/

namespace Sys2Proof.Machine

/-- `SYS_ID`, R5. -/
def SYS_ID_part : Fld := ⟨0, 0x40000000, 0x0, 0, 16, 16, .ro, false, false, 0x960⟩
def SYS_ID_grade : Fld := ⟨1, 0x40000000, 0x0, 0, 12, 4, .ro, false, false, 0x1⟩
def SYS_ID_major : Fld := ⟨2, 0x40000000, 0x0, 0, 8, 4, .ro, false, false, 0xb⟩
def SYS_ID_minor : Fld := ⟨3, 0x40000000, 0x0, 0, 4, 4, .ro, false, false, 0x0⟩
/-- `CHn_TIMING`, R24. -/
def CHn_TIMING_dl_max : Fld := ⟨4, 0x40240080, 0x100, 0, 8, 4, .rw, true, true, 0x2⟩
def CHn_TIMING_commit_guard : Fld := ⟨5, 0x40240080, 0x100, 0, 0, 7, .rw, true, true, 0x8⟩
/-- `CHn_DLSTAT`, R25. -/
def CHn_DLSTAT_miss : Fld := ⟨6, 0x40240084, 0x100, 0, 25, 1, .w1c, false, false, 0x0⟩
def CHn_DLSTAT_late : Fld := ⟨7, 0x40240084, 0x100, 0, 24, 1, .w1c, false, false, 0x0⟩
def CHn_DLSTAT_cause : Fld := ⟨8, 0x40240084, 0x100, 0, 16, 2, .ro, false, false, 0x0⟩
def CHn_DLSTAT_miss_cnt : Fld := ⟨9, 0x40240084, 0x100, 0, 8, 8, .ro, false, false, 0x0⟩
def CHn_DLSTAT_consec : Fld := ⟨10, 0x40240084, 0x100, 0, 0, 4, .ro, false, false, 0x0⟩
/-- `CHn_BUDGET`, R26. -/
def CHn_BUDGET_lat_full : Fld := ⟨11, 0x40240088, 0x100, 0, 20, 10, .ro, false, false, 0x0⟩
def CHn_BUDGET_budget : Fld := ⟨12, 0x40240088, 0x100, 0, 0, 20, .ro, false, false, 0x0⟩
/-- `CHn_SLACK`, R27. -/
def CHn_SLACK_slack_last : Fld := ⟨13, 0x4024008c, 0x100, 0, 0, 20, .ro, false, false, 0x0⟩
/-- `CHn_SLACK_MIN`, R27. -/
def CHn_SLACK_MIN_slack_min : Fld := ⟨14, 0x40240090, 0x100, 0, 0, 20, .rc, false, false, 0xfffff⟩
/-- `SYS_PROFILE`, R32. -/
def SYS_PROFILE_pending : Fld := ⟨15, 0x40000010, 0x0, 0, 12, 1, .ro, false, false, 0x0⟩
def SYS_PROFILE_cause : Fld := ⟨16, 0x40000010, 0x0, 0, 8, 2, .ro, false, false, 0x0⟩
def SYS_PROFILE_request : Fld := ⟨17, 0x40000010, 0x0, 0, 4, 2, .rw, true, true, 0x1⟩
def SYS_PROFILE_active : Fld := ⟨18, 0x40000010, 0x0, 0, 0, 2, .ro, false, false, 0x1⟩
/-- `CLK_STATUS`, R38. -/
def CLK_STATUS_phase_slip : Fld := ⟨19, 0x40010000, 0x0, 0, 16, 1, .w1c, false, false, 0x0⟩
def CLK_STATUS_ckb_ok : Fld := ⟨20, 0x40010000, 0x0, 0, 10, 1, .ro, false, false, 0x0⟩
def CLK_STATUS_ckw_src : Fld := ⟨21, 0x40010000, 0x0, 0, 9, 1, .ro, false, false, 0x0⟩
def CLK_STATUS_xin_ok : Fld := ⟨22, 0x40010000, 0x0, 0, 8, 1, .ro, false, false, 0x0⟩
def CLK_STATUS_t_lock : Fld := ⟨23, 0x40010000, 0x0, 0, 5, 1, .ro, false, false, 0x0⟩
def CLK_STATUS_s_lock : Fld := ⟨24, 0x40010000, 0x0, 0, 4, 1, .ro, false, false, 0x0⟩
def CLK_STATUS_m_lock : Fld := ⟨25, 0x40010000, 0x0, 0, 3, 1, .ro, false, false, 0x0⟩
def CLK_STATUS_a_lock : Fld := ⟨26, 0x40010000, 0x0, 0, 2, 1, .ro, false, false, 0x0⟩
def CLK_STATUS_p_lock : Fld := ⟨27, 0x40010000, 0x0, 0, 1, 1, .ro, false, false, 0x0⟩
def CLK_STATUS_c_lock : Fld := ⟨28, 0x40010000, 0x0, 0, 0, 1, .ro, false, false, 0x0⟩
/-- `SPn_I_BASE`, R47. -/
def SPn_I_BASE_base : Fld := ⟨29, 0x40310040, 0x10000, 0, 0, 32, .rw, true, true, 0x0⟩
/-- `SPn_SAT`, R51. -/
def SPn_SAT_first_period : Fld := ⟨30, 0x40310050, 0x10000, 0, 16, 16, .ro, false, false, 0x0⟩
def SPn_SAT_first_stage : Fld := ⟨31, 0x40310050, 0x10000, 0, 8, 3, .ro, false, false, 0x0⟩
def SPn_SAT_modulate : Fld := ⟨32, 0x40310050, 0x10000, 0, 5, 1, .w1c, false, false, 0x0⟩
def SPn_SAT_limit : Fld := ⟨33, 0x40310050, 0x10000, 0, 4, 1, .w1c, false, false, 0x0⟩
def SPn_SAT_control : Fld := ⟨34, 0x40310050, 0x10000, 0, 3, 1, .w1c, false, false, 0x0⟩
def SPn_SAT_correct : Fld := ⟨35, 0x40310050, 0x10000, 0, 2, 1, .w1c, false, false, 0x0⟩
def SPn_SAT_predict : Fld := ⟨36, 0x40310050, 0x10000, 0, 1, 1, .w1c, false, false, 0x0⟩
def SPn_SAT_transform : Fld := ⟨37, 0x40310050, 0x10000, 0, 0, 1, .w1c, false, false, 0x0⟩
/-- `LTH_SLOT_STAT`, R58. -/
def LTH_SLOT_STAT_abandon : Fld := ⟨38, 0x40300010, 0x0, 0, 1, 1, .w1c, false, false, 0x0⟩
def LTH_SLOT_STAT_sat : Fld := ⟨39, 0x40300010, 0x0, 0, 0, 1, .w1c, false, false, 0x0⟩
/-- `SYS_ECC_CTL`, R70. -/
def SYS_ECC_CTL_ce_thr : Fld := ⟨40, 0x40000100, 0x0, 0, 0, 16, .rw, true, true, 0x100⟩
/-- `SYS_ECC_CE`, R70. -/
def SYS_ECC_CE_count : Fld := ⟨41, 0x40000110, 0x4, 0, 0, 16, .rc, false, false, 0x0⟩
/-- `SYS_ECC_LAST`, R70. -/
def SYS_ECC_LAST_addr : Fld := ⟨42, 0x40000120, 0x0, 0, 0, 32, .ro, false, false, 0x0⟩
/-- `SYS_ECC_INFO`, R70. -/
def SYS_ECC_INFO_initiator : Fld := ⟨43, 0x40000124, 0x0, 0, 8, 4, .ro, false, false, 0x0⟩
def SYS_ECC_INFO_region : Fld := ⟨44, 0x40000124, 0x0, 0, 2, 2, .ro, false, false, 0x0⟩
def SYS_ECC_INFO_ue_cnt : Fld := ⟨45, 0x40000124, 0x0, 0, 0, 2, .rc, false, false, 0x0⟩
/-- `SYS_SCRUB_STAT`, R70. -/
def SYS_SCRUB_STAT_late : Fld := ⟨46, 0x40000130, 0x0, 0, 31, 1, .w1c, false, false, 0x0⟩
def SYS_SCRUB_STAT_pos : Fld := ⟨47, 0x40000130, 0x0, 0, 0, 21, .ro, false, false, 0x0⟩
/-- `CVB_CTL`, R113. -/
def CVB_CTL_bgcal_period : Fld := ⟨48, 0x40100000, 0x0, 0, 8, 8, .rw, true, true, 0xa⟩
def CVB_CTL_bgcal_en : Fld := ⟨49, 0x40100000, 0x0, 0, 0, 1, .rw, true, true, 0x1⟩
/-- `CVB_OW_CTL`, R113. -/
def CVB_OW_CTL_ow_thr : Fld := ⟨50, 0x40100010, 0x0, 0, 16, 16, .rw, true, true, 0x1000⟩
def CVB_OW_CTL_dwell : Fld := ⟨51, 0x40100010, 0x0, 0, 8, 8, .rw, true, true, 0x32⟩
def CVB_OW_CTL_period : Fld := ⟨52, 0x40100010, 0x0, 0, 0, 8, .rw, true, true, 0x0⟩
/-- `CVc_CFG`, R113. -/
def CVc_CFG_mux_settle : Fld := ⟨53, 0x40100100, 0x40, 0, 12, 4, .rw, true, true, 0x2⟩
def CVc_CFG_partner_en : Fld := ⟨54, 0x40100100, 0x40, 0, 8, 1, .rw, true, true, 0x0⟩
def CVc_CFG_ref_en : Fld := ⟨55, 0x40100100, 0x40, 0, 5, 1, .rw, true, false, 0x0⟩
def CVc_CFG_ref_mode : Fld := ⟨56, 0x40100100, 0x40, 0, 4, 1, .rw, true, true, 0x0⟩
def CVc_CFG_pwr : Fld := ⟨57, 0x40100100, 0x40, 0, 0, 2, .rw, true, true, 0x0⟩
/-- `CVc_IDLE`, R113. -/
def CVc_IDLE_idle_down : Fld := ⟨58, 0x40100104, 0x40, 0, 0, 16, .rw, true, true, 0x100⟩
/-- `CVc_STAT`, R113. -/
def CVc_STAT_ref_ready : Fld := ⟨59, 0x40100108, 0x40, 0, 31, 1, .ro, false, false, 0x0⟩
def CVc_STAT_cur_input : Fld := ⟨60, 0x40100108, 0x40, 0, 16, 4, .ro, false, false, 0x0⟩
def CVc_STAT_state : Fld := ⟨61, 0x40100108, 0x40, 0, 0, 3, .ro, false, false, 0x0⟩
/-- `CVc_CAL`, R113. -/
def CVc_CAL_full_busy : Fld := ⟨62, 0x4010010c, 0x40, 0, 31, 1, .ro, false, false, 0x0⟩
def CVc_CAL_bg_busy : Fld := ⟨63, 0x4010010c, 0x40, 0, 30, 1, .ro, false, false, 0x0⟩
def CVc_CAL_ok : Fld := ⟨64, 0x4010010c, 0x40, 0, 29, 1, .ro, false, false, 0x0⟩
def CVc_CAL_bg_slice : Fld := ⟨65, 0x4010010c, 0x40, 0, 16, 5, .ro, false, false, 0x0⟩
def CVc_CAL_full : Fld := ⟨66, 0x4010010c, 0x40, 0, 0, 1, .w1s, true, false, 0x0⟩
/-- `CVc_INJk`, R113. -/
def CVc_INJk_start : Fld := ⟨67, 0x40100110, 0x40, 4, 31, 1, .w1s, true, false, 0x0⟩
def CVc_INJk_urgent : Fld := ⟨68, 0x40100110, 0x40, 4, 16, 1, .rw, true, false, 0x0⟩
def CVc_INJk_shift : Fld := ⟨69, 0x40100110, 0x40, 4, 8, 4, .rw, true, false, 0x0⟩
def CVc_INJk_log2n : Fld := ⟨70, 0x40100110, 0x40, 4, 4, 4, .rw, true, false, 0x1⟩
def CVc_INJk_input : Fld := ⟨71, 0x40100110, 0x40, 4, 0, 4, .rw, true, false, 0x0⟩
/-- `CVc_INJRk`, R113. -/
def CVc_INJRk_flags : Fld := ⟨72, 0x40100120, 0x40, 4, 25, 7, .ro, false, false, 0x0⟩
def CVc_INJRk_new : Fld := ⟨73, 0x40100120, 0x40, 4, 24, 1, .rc, false, false, 0x0⟩
def CVc_INJRk_value : Fld := ⟨74, 0x40100120, 0x40, 4, 0, 24, .ro, false, false, 0x0⟩
/-- `CVc_IDLESCAN`, R113. -/
def CVc_IDLESCAN_dwell : Fld := ⟨75, 0x40100130, 0x40, 0, 16, 8, .rw, true, true, 0x4⟩
def CVc_IDLESCAN_mask : Fld := ⟨76, 0x40100130, 0x40, 0, 0, 10, .rw, true, true, 0x0⟩
/-- `CVc_TRIM`, R113. -/
def CVc_TRIM_gain : Fld := ⟨77, 0x40100134, 0x40, 0, 16, 16, .ro, false, false, 0x0⟩
def CVc_TRIM_offset : Fld := ⟨78, 0x40100134, 0x40, 0, 0, 16, .ro, false, false, 0x0⟩
/-- `CMPi_THR`, R113. -/
def CMPi_THR_hi : Fld := ⟨79, 0x40100800, 0x10, 0, 16, 16, .rw, true, true, 0x7fff⟩
def CMPi_THR_lo : Fld := ⟨80, 0x40100800, 0x10, 0, 0, 16, .rw, true, true, 0x8000⟩
/-- `CMPi_CFG`, R113. -/
def CMPi_CFG_en : Fld := ⟨81, 0x40100804, 0x10, 0, 31, 1, .rw, true, true, 0x0⟩
def CMPi_CFG_ow_cur : Fld := ⟨82, 0x40100804, 0x10, 0, 28, 2, .rw, true, true, 0x0⟩
def CMPi_CFG_ow_periodic : Fld := ⟨83, 0x40100804, 0x10, 0, 27, 1, .rw, true, true, 0x0⟩
def CMPi_CFG_hyst : Fld := ⟨84, 0x40100804, 0x10, 0, 16, 8, .rw, true, true, 0x0⟩
def CMPi_CFG_filt : Fld := ⟨85, 0x40100804, 0x10, 0, 0, 6, .rw, true, true, 0x0⟩
/-- `CMPi_STAT`, R113. -/
def CMPi_STAT_ow : Fld := ⟨86, 0x40100808, 0x10, 0, 16, 2, .ro, false, false, 0x0⟩
def CMPi_STAT_lo_sticky : Fld := ⟨87, 0x40100808, 0x10, 0, 3, 1, .w1c, false, false, 0x0⟩
def CMPi_STAT_hi_sticky : Fld := ⟨88, 0x40100808, 0x10, 0, 2, 1, .w1c, false, false, 0x0⟩
def CMPi_STAT_lo_out : Fld := ⟨89, 0x40100808, 0x10, 0, 1, 1, .ro, false, false, 0x0⟩
def CMPi_STAT_hi_out : Fld := ⟨90, 0x40100808, 0x10, 0, 0, 1, .ro, false, false, 0x0⟩
/-- `SEQn_CTL`, R115. -/
def SEQn_CTL_nsteps : Fld := ⟨91, 0x40110000, 0x200, 0, 8, 4, .rw, true, true, 0x0⟩
def SEQn_CTL_policy : Fld := ⟨92, 0x40110000, 0x200, 0, 4, 2, .rw, true, true, 0x0⟩
def SEQn_CTL_en : Fld := ⟨93, 0x40110000, 0x200, 0, 0, 1, .rw, true, true, 0x0⟩
/-- `SEQn_TRIG`, R115. -/
def SEQn_TRIG_offset : Fld := ⟨94, 0x40110004, 0x200, 0, 16, 16, .rw, true, true, 0x0⟩
def SEQn_TRIG_src : Fld := ⟨95, 0x40110004, 0x200, 0, 0, 6, .rw, true, true, 0x0⟩
/-- `SEQn_OVR`, R115. -/
def SEQn_OVR_count : Fld := ⟨96, 0x40110008, 0x200, 0, 0, 16, .rc, false, false, 0x0⟩
/-- `SEQn_STAT`, R115. -/
def SEQn_STAT_queued : Fld := ⟨97, 0x4011000c, 0x200, 0, 9, 1, .ro, false, false, 0x0⟩
def SEQn_STAT_running : Fld := ⟨98, 0x4011000c, 0x200, 0, 8, 1, .ro, false, false, 0x0⟩
def SEQn_STAT_last_step : Fld := ⟨99, 0x4011000c, 0x200, 0, 0, 4, .ro, false, false, 0x0⟩
/-- `SEQn_TRIG_TS_LO`, R115. -/
def SEQn_TRIG_TS_LO_ts : Fld := ⟨100, 0x40110010, 0x200, 0, 0, 32, .ro, false, false, 0x0⟩
/-- `SEQn_TRIG_TS_HI`, R115. -/
def SEQn_TRIG_TS_HI_ts : Fld := ⟨101, 0x40110014, 0x200, 0, 0, 32, .ro, false, false, 0x0⟩
/-- `SEQn_SWTRIG`, R115. -/
def SEQn_SWTRIG_go : Fld := ⟨102, 0x40110018, 0x200, 0, 0, 1, .wo, false, false, 0x0⟩
/-- `SEQn_STEPk_A`, R115. -/
def SEQn_STEPk_A_shift : Fld := ⟨103, 0x40110080, 0x200, 8, 24, 4, .rw, true, true, 0x0⟩
def SEQn_STEPk_A_log2n : Fld := ⟨104, 0x40110080, 0x200, 8, 20, 4, .rw, true, true, 0x1⟩
def SEQn_STEPk_A_input : Fld := ⟨105, 0x40110080, 0x200, 8, 16, 4, .rw, true, true, 0x0⟩
def SEQn_STEPk_A_conv : Fld := ⟨106, 0x40110080, 0x200, 8, 12, 3, .rw, true, true, 0x0⟩
/-- `SEQn_STEPk_B`, R115. -/
def SEQn_STEPk_B_sp_en : Fld := ⟨107, 0x40110084, 0x200, 8, 31, 1, .rw, true, true, 0x0⟩
def SEQn_STEPk_B_sp_ch : Fld := ⟨108, 0x40110084, 0x200, 8, 29, 2, .rw, true, true, 0x0⟩
def SEQn_STEPk_B_sp_meas : Fld := ⟨109, 0x40110084, 0x200, 8, 26, 3, .rw, true, true, 0x0⟩
def SEQn_STEPk_B_open_dly : Fld := ⟨110, 0x40110084, 0x200, 8, 0, 24, .rw, true, true, 0x0⟩
/-- `SEQn_RESk`, R115. -/
def SEQn_RESk_flags : Fld := ⟨111, 0x40110100, 0x200, 8, 25, 7, .ro, false, false, 0x0⟩
def SEQn_RESk_new : Fld := ⟨112, 0x40110100, 0x200, 8, 24, 1, .rc, false, false, 0x0⟩
def SEQn_RESk_value : Fld := ⟨113, 0x40110100, 0x200, 8, 0, 24, .ro, false, false, 0x0⟩
/-- `SEQn_RCLOSEk`, R115. -/
def SEQn_RCLOSEk_ts : Fld := ⟨114, 0x40110104, 0x200, 8, 0, 32, .ro, false, false, 0x0⟩
/-- `SEQ_TTt_CTL`, R115. -/
def SEQ_TTt_CTL_ch : Fld := ⟨115, 0x40112000, 0x10, 0, 4, 2, .rw, true, true, 0x0⟩
def SEQ_TTt_CTL_align : Fld := ⟨116, 0x40112000, 0x10, 0, 3, 1, .rw, true, true, 0x0⟩
def SEQ_TTt_CTL_en : Fld := ⟨117, 0x40112000, 0x10, 0, 0, 1, .rw, true, true, 0x0⟩
/-- `SEQ_TTt_PER`, R115. -/
def SEQ_TTt_PER_per : Fld := ⟨118, 0x40112004, 0x10, 0, 0, 32, .rw, true, true, 0x28⟩
/-- `PIFn_CTL`, R156. -/
def PIFn_CTL_dir_inv : Fld := ⟨119, 0x40180000, 0x10000, 0, 14, 1, .rw, true, true, 0x0⟩
def PIFn_CTL_trig_sel : Fld := ⟨120, 0x40180000, 0x10000, 0, 13, 1, .rw, true, true, 0x0⟩
def PIFn_CTL_src_restore : Fld := ⟨121, 0x40180000, 0x10000, 0, 12, 1, .w1s, true, false, 0x0⟩
def PIFn_CTL_fb_en : Fld := ⟨122, 0x40180000, 0x10000, 0, 11, 1, .rw, true, true, 0x1⟩
def PIFn_CTL_z_corr : Fld := ⟨123, 0x40180000, 0x10000, 0, 10, 1, .rw, true, true, 0x0⟩
def PIFn_CTL_z_en : Fld := ⟨124, 0x40180000, 0x10000, 0, 8, 1, .rw, true, true, 0x0⟩
def PIFn_CTL_sec_src : Fld := ⟨125, 0x40180000, 0x10000, 0, 5, 3, .rw, true, true, 0x0⟩
def PIFn_CTL_pri_src : Fld := ⟨126, 0x40180000, 0x10000, 0, 1, 3, .rw, true, true, 0x0⟩
def PIFn_CTL_en : Fld := ⟨127, 0x40180000, 0x10000, 0, 0, 1, .rw, true, true, 0x0⟩
/-- `PIFn_GEOM`, R156. -/
def PIFn_GEOM_pp : Fld := ⟨128, 0x40180004, 0x10000, 0, 24, 5, .rw, true, true, 0x1⟩
def PIFn_GEOM_cpr : Fld := ⟨129, 0x40180004, 0x10000, 0, 0, 24, .rw, true, true, 0x1000⟩
/-- `PIFn_AOFS`, R156. -/
def PIFn_AOFS_aofs : Fld := ⟨130, 0x40180008, 0x10000, 0, 0, 32, .rw, true, true, 0x0⟩
/-- `PIFn_FILT`, R156. -/
def PIFn_FILT_noisy_thr : Fld := ⟨131, 0x4018000c, 0x10000, 0, 16, 16, .rw, true, true, 0x10⟩
def PIFn_FILT_dis_time : Fld := ⟨132, 0x4018000c, 0x10000, 0, 8, 8, .rw, true, true, 0x28⟩
def PIFn_FILT_min_edge : Fld := ⟨133, 0x4018000c, 0x10000, 0, 0, 8, .rw, true, true, 0x8⟩
/-- `PIFn_ZCFG`, R156. -/
def PIFn_ZCFG_z_gate_en : Fld := ⟨134, 0x40180010, 0x10000, 0, 26, 1, .rw, true, true, 0x0⟩
def PIFn_ZCFG_z_gate : Fld := ⟨135, 0x40180010, 0x10000, 0, 24, 2, .rw, true, true, 0x3⟩
def PIFn_ZCFG_z_limit : Fld := ⟨136, 0x40180010, 0x10000, 0, 12, 12, .rw, true, true, 0x10⟩
def PIFn_ZCFG_z_tol : Fld := ⟨137, 0x40180010, 0x10000, 0, 0, 12, .rw, true, true, 0x2⟩
/-- `PIFn_ZEXP`, R156. -/
def PIFn_ZEXP_z_exp : Fld := ⟨138, 0x40180014, 0x10000, 0, 0, 24, .rw, true, true, 0x0⟩
/-- `PIFn_ZSTAT`, R156. -/
def PIFn_ZSTAT_referenced : Fld := ⟨139, 0x40180018, 0x10000, 0, 24, 1, .ro, false, false, 0x0⟩
def PIFn_ZSTAT_dev_cnt : Fld := ⟨140, 0x40180018, 0x10000, 0, 16, 8, .rc, false, false, 0x0⟩
def PIFn_ZSTAT_z_dev : Fld := ⟨141, 0x40180018, 0x10000, 0, 0, 16, .ro, false, false, 0x0⟩
/-- `PIFn_EDGE`, R156. -/
def PIFn_EDGE_quad_cnt : Fld := ⟨142, 0x4018001c, 0x10000, 0, 24, 8, .rc, false, false, 0x0⟩
def PIFn_EDGE_noisy : Fld := ⟨143, 0x4018001c, 0x10000, 0, 19, 1, .w1c, false, false, 0x0⟩
def PIFn_EDGE_wire : Fld := ⟨144, 0x4018001c, 0x10000, 0, 16, 3, .w1c, false, false, 0x0⟩
def PIFn_EDGE_edge_fault_cnt : Fld := ⟨145, 0x4018001c, 0x10000, 0, 0, 16, .rc, false, false, 0x0⟩
/-- `PIFn_SPDCFG`, R156. -/
def PIFn_SPDCFG_spd_timeout : Fld := ⟨146, 0x40180020, 0x10000, 0, 8, 24, .rw, true, true, 0x186a0⟩
def PIFn_SPDCFG_dir_band : Fld := ⟨147, 0x40180020, 0x10000, 0, 3, 5, .rw, true, true, 0x1⟩
def PIFn_SPDCFG_spd_edges : Fld := ⟨148, 0x40180020, 0x10000, 0, 0, 3, .rw, true, true, 0x2⟩
/-- `PIFn_POS`, R156. -/
def PIFn_POS_count : Fld := ⟨149, 0x40180024, 0x10000, 0, 0, 32, .ro, false, false, 0x0⟩
/-- `PIFn_REVPOS`, R156. -/
def PIFn_REVPOS_rev_pos : Fld := ⟨150, 0x40180028, 0x10000, 0, 0, 24, .ro, false, false, 0x0⟩
/-- `PIFn_SPD`, R156. -/
def PIFn_SPD_speed : Fld := ⟨151, 0x4018002c, 0x10000, 0, 0, 32, .ro, false, false, 0x0⟩
/-- `PIFn_ANGLE`, R156. -/
def PIFn_ANGLE_angle : Fld := ⟨152, 0x40180030, 0x10000, 0, 0, 32, .ro, false, false, 0x0⟩
/-- `PIFn_STS_LO`, R156. -/
def PIFn_STS_LO_ts : Fld := ⟨153, 0x40180034, 0x10000, 0, 0, 32, .ro, false, false, 0x0⟩
/-- `PIFn_STS_HI`, R156. -/
def PIFn_STS_HI_ts : Fld := ⟨154, 0x40180038, 0x10000, 0, 0, 32, .ro, false, false, 0x0⟩
/-- `PIFn_STAT`, R156. -/
def PIFn_STAT_pos_lost : Fld := ⟨155, 0x4018003c, 0x10000, 0, 5, 1, .ro, false, false, 0x0⟩
def PIFn_STAT_active : Fld := ⟨156, 0x4018003c, 0x10000, 0, 3, 2, .ro, false, false, 0x0⟩
def PIFn_STAT_dir : Fld := ⟨157, 0x4018003c, 0x10000, 0, 1, 1, .ro, false, false, 0x0⟩
def PIFn_STAT_spd_valid : Fld := ⟨158, 0x4018003c, 0x10000, 0, 0, 1, .ro, false, false, 0x0⟩
/-- `PIFn_FSTAT`, R156. -/
def PIFn_FSTAT_ser_warn : Fld := ⟨159, 0x40180040, 0x10000, 0, 14, 1, .w1c, false, false, 0x0⟩
def PIFn_FSTAT_sec_fault : Fld := ⟨160, 0x40180040, 0x10000, 0, 13, 1, .w1c, false, false, 0x0⟩
def PIFn_FSTAT_pri_fault : Fld := ⟨161, 0x40180040, 0x10000, 0, 12, 1, .w1c, false, false, 0x0⟩
def PIFn_FSTAT_frozen_sec : Fld := ⟨162, 0x40180040, 0x10000, 0, 11, 1, .w1c, false, false, 0x0⟩
def PIFn_FSTAT_frozen_pri : Fld := ⟨163, 0x40180040, 0x10000, 0, 10, 1, .w1c, false, false, 0x0⟩
def PIFn_FSTAT_ser_err : Fld := ⟨164, 0x40180040, 0x10000, 0, 9, 1, .w1c, false, false, 0x0⟩
def PIFn_FSTAT_rsv_amp : Fld := ⟨165, 0x40180040, 0x10000, 0, 8, 1, .w1c, false, false, 0x0⟩
def PIFn_FSTAT_rsv_gap : Fld := ⟨166, 0x40180040, 0x10000, 0, 7, 1, .w1c, false, false, 0x0⟩
def PIFn_FSTAT_hall_invalid : Fld := ⟨167, 0x40180040, 0x10000, 0, 6, 1, .w1c, false, false, 0x0⟩
def PIFn_FSTAT_hall_seq : Fld := ⟨168, 0x40180040, 0x10000, 0, 5, 1, .w1c, false, false, 0x0⟩
def PIFn_FSTAT_z_missing : Fld := ⟨169, 0x40180040, 0x10000, 0, 4, 1, .w1c, false, false, 0x0⟩
def PIFn_FSTAT_z_limit : Fld := ⟨170, 0x40180040, 0x10000, 0, 3, 1, .w1c, false, false, 0x0⟩
def PIFn_FSTAT_wire : Fld := ⟨171, 0x40180040, 0x10000, 0, 0, 1, .w1c, false, false, 0x0⟩
/-- `PIFn_HALL`, R156. -/
def PIFn_HALL_seq_max : Fld := ⟨172, 0x40180050, 0x10000, 0, 18, 4, .rw, true, true, 0x3⟩
def PIFn_HALL_map : Fld := ⟨173, 0x40180050, 0x10000, 0, 0, 18, .rw, true, true, 0x1d850⟩
/-- `PIFn_HALL_OFS`, R156. -/
def PIFn_HALL_OFS_ofs : Fld := ⟨174, 0x40180054, 0x10000, 0, 0, 32, .rw, true, true, 0x0⟩
/-- `PIFn_EXC`, R156. -/
def PIFn_EXC_amp : Fld := ⟨175, 0x40180060, 0x10000, 0, 16, 8, .rw, true, true, 0x80⟩
def PIFn_EXC_en : Fld := ⟨176, 0x40180060, 0x10000, 0, 15, 1, .rw, true, true, 0x0⟩
def PIFn_EXC_freq : Fld := ⟨177, 0x40180060, 0x10000, 0, 0, 15, .rw, true, true, 0x2710⟩
/-- `PIFn_RSV`, R156. -/
def PIFn_RSV_ratio : Fld := ⟨178, 0x40180064, 0x10000, 0, 16, 4, .rw, true, true, 0x1⟩
def PIFn_RSV_cos_ain : Fld := ⟨179, 0x40180064, 0x10000, 0, 8, 6, .rw, true, true, 0x0⟩
def PIFn_RSV_sin_ain : Fld := ⟨180, 0x40180064, 0x10000, 0, 0, 6, .rw, true, true, 0x0⟩
/-- `PIFn_RSV_PH`, R156. -/
def PIFn_RSV_PH_phase : Fld := ⟨181, 0x40180068, 0x10000, 0, 0, 16, .rw, true, true, 0x0⟩
/-- `PIFn_RSV_AMP`, R156. -/
def PIFn_RSV_AMP_amp_hi : Fld := ⟨182, 0x4018006c, 0x10000, 0, 16, 16, .rw, true, true, 0x7fff⟩
def PIFn_RSV_AMP_amp_lo : Fld := ⟨183, 0x4018006c, 0x10000, 0, 0, 16, .rw, true, true, 0x0⟩
/-- `PIFn_SER`, R156. -/
def PIFn_SER_err_max : Fld := ⟨184, 0x40180070, 0x10000, 0, 24, 4, .rw, true, true, 0x3⟩
def PIFn_SER_parity : Fld := ⟨185, 0x40180070, 0x10000, 0, 21, 1, .rw, true, true, 0x0⟩
def PIFn_SER_gray : Fld := ⟨186, 0x40180070, 0x10000, 0, 20, 1, .rw, true, true, 0x0⟩
def PIFn_SER_clk_div : Fld := ⟨187, 0x40180070, 0x10000, 0, 12, 8, .rw, true, true, 0x63⟩
def PIFn_SER_st_bits : Fld := ⟨188, 0x40180070, 0x10000, 0, 6, 6, .rw, true, true, 0x10⟩
def PIFn_SER_pos_bits : Fld := ⟨189, 0x40180070, 0x10000, 0, 0, 6, .rw, true, true, 0x10⟩
/-- `PIFn_SER_TIM`, R156. -/
def PIFn_SER_TIM_sync_to : Fld := ⟨190, 0x40180074, 0x10000, 0, 24, 8, .rw, true, true, 0x10⟩
def PIFn_SER_TIM_gap : Fld := ⟨191, 0x40180074, 0x10000, 0, 16, 8, .rw, true, true, 0x14⟩
def PIFn_SER_TIM_ser_lat : Fld := ⟨192, 0x40180074, 0x10000, 0, 0, 16, .rw, true, true, 0x0⟩
/-- `PIFn_SER_TRIG`, R156. -/
def PIFn_SER_TRIG_offset : Fld := ⟨193, 0x40180078, 0x10000, 0, 16, 16, .rw, true, true, 0x0⟩
def PIFn_SER_TRIG_src : Fld := ⟨194, 0x40180078, 0x10000, 0, 0, 6, .rw, true, true, 0x0⟩
/-- `PIFn_SER_STAT`, R156. -/
def PIFn_SER_STAT_ovr_cnt : Fld := ⟨195, 0x4018007c, 0x10000, 0, 24, 8, .rc, false, false, 0x0⟩
def PIFn_SER_STAT_crc_err_cnt : Fld := ⟨196, 0x4018007c, 0x10000, 0, 16, 8, .rc, false, false, 0x0⟩
def PIFn_SER_STAT_line_dly : Fld := ⟨197, 0x4018007c, 0x10000, 0, 0, 16, .ro, false, false, 0x0⟩
/-- `PIFn_FRZ`, R156. -/
def PIFn_FRZ_frz_band : Fld := ⟨198, 0x40180080, 0x10000, 0, 8, 16, .rw, true, true, 0x4⟩
def PIFn_FRZ_frz_n : Fld := ⟨199, 0x40180080, 0x10000, 0, 0, 8, .rw, true, true, 0x8⟩
/-- `PIFn_FRZ_SPD`, R156. -/
def PIFn_FRZ_SPD_frz_speed : Fld := ⟨200, 0x40180084, 0x10000, 0, 0, 32, .rw, true, true, 0x10000⟩
/-- `PIFn_LATCH`, R156. -/
def PIFn_LATCH_offset : Fld := ⟨201, 0x40180088, 0x10000, 0, 0, 16, .rw, true, true, 0x0⟩
/-- `PIFn_IRQ_EN`, R156. -/
def PIFn_IRQ_EN_en : Fld := ⟨202, 0x4018008c, 0x10000, 0, 0, 4, .rw, false, false, 0x0⟩
/-- `PIFn_IRQ`, R156. -/
def PIFn_IRQ_fallback : Fld := ⟨203, 0x40180090, 0x10000, 0, 3, 1, .w1c, false, false, 0x0⟩
def PIFn_IRQ_fault : Fld := ⟨204, 0x40180090, 0x10000, 0, 2, 1, .w1c, false, false, 0x0⟩
def PIFn_IRQ_index : Fld := ⟨205, 0x40180090, 0x10000, 0, 1, 1, .w1c, false, false, 0x0⟩
def PIFn_IRQ_dir_chg : Fld := ⟨206, 0x40180090, 0x10000, 0, 0, 1, .w1c, false, false, 0x0⟩
/-- `ENCO_CTL`, R156. -/
def ENCO_CTL_cpr_out : Fld := ⟨207, 0x40180200, 0x0, 0, 16, 16, .rw, true, true, 0x1000⟩
def ENCO_CTL_div : Fld := ⟨208, 0x40180200, 0x0, 0, 8, 8, .rw, true, true, 0x1⟩
def ENCO_CTL_en : Fld := ⟨209, 0x40180200, 0x0, 0, 2, 1, .rw, true, true, 0x0⟩
def ENCO_CTL_src : Fld := ⟨210, 0x40180200, 0x0, 0, 0, 2, .rw, true, true, 0x0⟩
/-- `ENCO_STAT`, R156. -/
def ENCO_STAT_lag : Fld := ⟨211, 0x40180204, 0x0, 0, 0, 1, .w1c, false, false, 0x0⟩
/-- `CHn_CTL`, R195. -/
def CHn_CTL_six : Fld := ⟨212, 0x40240000, 0x100, 0, 8, 1, .rw, true, true, 0x0⟩
def CHn_CTL_dmode : Fld := ⟨213, 0x40240000, 0x100, 0, 4, 2, .rw, true, true, 0x0⟩
def CHn_CTL_src : Fld := ⟨214, 0x40240000, 0x100, 0, 0, 1, .rw, true, true, 0x0⟩
/-- `CHn_CARR`, R195. -/
def CHn_CARR_phase : Fld := ⟨215, 0x40240004, 0x100, 0, 16, 16, .rw, true, true, 0x0⟩
def CHn_CARR_sync : Fld := ⟨216, 0x40240004, 0x100, 0, 12, 1, .rw, true, true, 0x0⟩
def CHn_CARR_rl : Fld := ⟨217, 0x40240004, 0x100, 0, 8, 2, .rw, true, true, 0x0⟩
def CHn_CARR_mode : Fld := ⟨218, 0x40240004, 0x100, 0, 4, 2, .rw, true, true, 0x0⟩
def CHn_CARR_en : Fld := ⟨219, 0x40240004, 0x100, 0, 0, 1, .rw, true, false, 0x0⟩
/-- `CHn_PER`, R195. -/
def CHn_PER_per : Fld := ⟨220, 0x40240008, 0x100, 0, 0, 32, .rw, true, false, 0x271000⟩
/-- `CHn_DUTYk`, R195. -/
def CHn_DUTYk_duty : Fld := ⟨221, 0x40240010, 0x100, 4, 0, 32, .rw, false, false, 0x0⟩
/-- `CHn_COMMIT`, R195. -/
def CHn_COMMIT_go : Fld := ⟨222, 0x40240030, 0x100, 0, 31, 1, .wo, false, false, 0x0⟩
def CHn_COMMIT_gen : Fld := ⟨223, 0x40240030, 0x100, 0, 0, 16, .wo, false, false, 0x0⟩
/-- `CHn_GEN`, R195. -/
def CHn_GEN_act_gen : Fld := ⟨224, 0x40240034, 0x100, 0, 16, 16, .ro, false, false, 0x0⟩
def CHn_GEN_pend_gen : Fld := ⟨225, 0x40240034, 0x100, 0, 0, 16, .ro, false, false, 0x0⟩
/-- `CHn_CSTAT`, R195. -/
def CHn_CSTAT_per_clamp_cnt : Fld := ⟨226, 0x40240038, 0x100, 0, 24, 8, .rc, false, false, 0x0⟩
def CHn_CSTAT_mismatch_cnt : Fld := ⟨227, 0x40240038, 0x100, 0, 16, 8, .rc, false, false, 0x0⟩
def CHn_CSTAT_permax : Fld := ⟨228, 0x40240038, 0x100, 0, 5, 1, .w1c, false, false, 0x0⟩
def CHn_CSTAT_half : Fld := ⟨229, 0x40240038, 0x100, 0, 4, 1, .ro, false, false, 0x0⟩
def CHn_CSTAT_pend : Fld := ⟨230, 0x40240038, 0x100, 0, 3, 1, .ro, false, false, 0x0⟩
def CHn_CSTAT_mismatch : Fld := ⟨231, 0x40240038, 0x100, 0, 2, 1, .w1c, false, false, 0x0⟩
def CHn_CSTAT_per_clamp : Fld := ⟨232, 0x40240038, 0x100, 0, 1, 1, .w1c, false, false, 0x0⟩
def CHn_CSTAT_running : Fld := ⟨233, 0x40240038, 0x100, 0, 0, 1, .ro, false, false, 0x0⟩
/-- `CHn_CT`, R195. -/
def CHn_CT_evt_kind : Fld := ⟨234, 0x4024003c, 0x100, 0, 14, 2, .rw, true, true, 0x0⟩
def CHn_CT_evt_idx : Fld := ⟨235, 0x4024003c, 0x100, 0, 8, 6, .rw, true, true, 0x0⟩
/-- `CHn_PERMIN`, R195. -/
def CHn_PERMIN_per_min : Fld := ⟨236, 0x40240040, 0x100, 0, 0, 32, .rw, true, true, 0x3e800⟩
/-- `CHn_PERMAX`, R195. -/
def CHn_PERMAX_per_max : Fld := ⟨237, 0x40240044, 0x100, 0, 0, 32, .rw, true, true, 0x271000⟩
/-- `CHn_PERLAST`, R195. -/
def CHn_PERLAST_per : Fld := ⟨238, 0x40240048, 0x100, 0, 0, 32, .ro, false, false, 0x0⟩
/-- `LEGk_CFG`, R196. -/
def LEGk_CFG_out : Fld := ⟨239, 0x40200000, 0x40, 0, 8, 2, .rw, true, true, 0x0⟩
def LEGk_CFG_minpw_pol : Fld := ⟨240, 0x40200000, 0x40, 0, 4, 2, .rw, true, true, 0x0⟩
def LEGk_CFG_pol_l : Fld := ⟨241, 0x40200000, 0x40, 0, 1, 1, .rw, true, true, 0x0⟩
def LEGk_CFG_pol_h : Fld := ⟨242, 0x40200000, 0x40, 0, 0, 1, .rw, true, true, 0x0⟩
/-- `LEGk_DTH`, R196. -/
def LEGk_DTH_dt_h : Fld := ⟨243, 0x40200004, 0x40, 0, 0, 20, .rw, true, true, 0xc800⟩
/-- `LEGk_DTL`, R196. -/
def LEGk_DTL_dt_l : Fld := ⟨244, 0x40200008, 0x40, 0, 0, 20, .rw, true, true, 0xc800⟩
/-- `LEGk_MINPW`, R196. -/
def LEGk_MINPW_minpw : Fld := ⟨245, 0x4020000c, 0x40, 0, 0, 20, .rw, true, true, 0x0⟩
/-- `LEGk_STAT`, R196. -/
def LEGk_STAT_drop_cnt : Fld := ⟨246, 0x40200010, 0x40, 0, 24, 8, .rc, false, false, 0x0⟩
def LEGk_STAT_stretch_cnt : Fld := ⟨247, 0x40200010, 0x40, 0, 16, 8, .rc, false, false, 0x0⟩
def LEGk_STAT_source : Fld := ⟨248, 0x40200010, 0x40, 0, 3, 2, .ro, false, false, 0x0⟩
def LEGk_STAT_latched : Fld := ⟨249, 0x40200010, 0x40, 0, 2, 1, .ro, false, false, 0x0⟩
def LEGk_STAT_gl : Fld := ⟨250, 0x40200010, 0x40, 0, 1, 1, .ro, false, false, 0x0⟩
def LEGk_STAT_gh : Fld := ⟨251, 0x40200010, 0x40, 0, 0, 1, .ro, false, false, 0x0⟩
/-- `LEGk_GEN`, R196. -/
def LEGk_GEN_act_gen : Fld := ⟨252, 0x40200014, 0x40, 0, 16, 16, .ro, false, false, 0x0⟩
def LEGk_GEN_pend_gen : Fld := ⟨253, 0x40200014, 0x40, 0, 0, 16, .ro, false, false, 0x0⟩
/-- `LEGk_CSTAT`, R196. -/
def LEGk_CSTAT_per_clamp_cnt : Fld := ⟨254, 0x40200018, 0x40, 0, 24, 8, .rc, false, false, 0x0⟩
def LEGk_CSTAT_mismatch_cnt : Fld := ⟨255, 0x40200018, 0x40, 0, 16, 8, .rc, false, false, 0x0⟩
def LEGk_CSTAT_permax : Fld := ⟨256, 0x40200018, 0x40, 0, 5, 1, .w1c, false, false, 0x0⟩
def LEGk_CSTAT_half : Fld := ⟨257, 0x40200018, 0x40, 0, 4, 1, .ro, false, false, 0x0⟩
def LEGk_CSTAT_pend : Fld := ⟨258, 0x40200018, 0x40, 0, 3, 1, .ro, false, false, 0x0⟩
def LEGk_CSTAT_mismatch : Fld := ⟨259, 0x40200018, 0x40, 0, 2, 1, .w1c, false, false, 0x0⟩
def LEGk_CSTAT_per_clamp : Fld := ⟨260, 0x40200018, 0x40, 0, 1, 1, .w1c, false, false, 0x0⟩
def LEGk_CSTAT_running : Fld := ⟨261, 0x40200018, 0x40, 0, 0, 1, .ro, false, false, 0x0⟩
/-- `LEGk_CARR`, R196. -/
def LEGk_CARR_phase : Fld := ⟨262, 0x40200020, 0x40, 0, 16, 16, .rw, true, true, 0x0⟩
def LEGk_CARR_sync_ch : Fld := ⟨263, 0x40200020, 0x40, 0, 12, 2, .rw, true, true, 0x0⟩
def LEGk_CARR_sync : Fld := ⟨264, 0x40200020, 0x40, 0, 11, 1, .rw, true, true, 0x0⟩
def LEGk_CARR_rl : Fld := ⟨265, 0x40200020, 0x40, 0, 8, 2, .rw, true, true, 0x0⟩
def LEGk_CARR_dmode : Fld := ⟨266, 0x40200020, 0x40, 0, 6, 2, .rw, true, true, 0x0⟩
def LEGk_CARR_mode : Fld := ⟨267, 0x40200020, 0x40, 0, 4, 2, .rw, true, true, 0x0⟩
def LEGk_CARR_src : Fld := ⟨268, 0x40200020, 0x40, 0, 2, 2, .rw, true, true, 0x0⟩
def LEGk_CARR_en : Fld := ⟨269, 0x40200020, 0x40, 0, 0, 1, .rw, true, false, 0x0⟩
/-- `LEGk_PER`, R196. -/
def LEGk_PER_per : Fld := ⟨270, 0x40200024, 0x40, 0, 0, 32, .rw, true, false, 0x271000⟩
/-- `LEGk_DUTY`, R196. -/
def LEGk_DUTY_duty : Fld := ⟨271, 0x40200028, 0x40, 0, 0, 32, .rw, false, false, 0x0⟩
/-- `LEGk_COMMIT`, R196. -/
def LEGk_COMMIT_go : Fld := ⟨272, 0x4020002c, 0x40, 0, 31, 1, .wo, false, false, 0x0⟩
def LEGk_COMMIT_gen : Fld := ⟨273, 0x4020002c, 0x40, 0, 0, 16, .wo, false, false, 0x0⟩
/-- `LEGk_CT`, R196. -/
def LEGk_CT_evt_kind : Fld := ⟨274, 0x40200030, 0x40, 0, 14, 2, .rw, true, true, 0x0⟩
def LEGk_CT_evt_idx : Fld := ⟨275, 0x40200030, 0x40, 0, 8, 6, .rw, true, true, 0x0⟩
/-- `LEGk_PERMIN`, R196. -/
def LEGk_PERMIN_per_min : Fld := ⟨276, 0x40200034, 0x40, 0, 0, 32, .rw, true, true, 0xc800⟩
/-- `LEGk_PERMAX`, R196. -/
def LEGk_PERMAX_per_max : Fld := ⟨277, 0x40200038, 0x40, 0, 0, 32, .rw, true, true, 0x271000⟩
/-- `LEGk_PERLAST`, R196. -/
def LEGk_PERLAST_per : Fld := ⟨278, 0x4020003c, 0x40, 0, 0, 32, .ro, false, false, 0x0⟩
/-- `LEG_DLCAL`, R196. -/
def LEG_DLCAL_fail : Fld := ⟨279, 0x40201000, 0x0, 0, 31, 1, .ro, false, false, 0x0⟩
def LEG_DLCAL_prev : Fld := ⟨280, 0x40201000, 0x0, 0, 8, 8, .ro, false, false, 0x0⟩
def LEG_DLCAL_code : Fld := ⟨281, 0x40201000, 0x0, 0, 0, 8, .ro, false, false, 0x0⟩
/-- `LEG_OGATE`, R196. -/
def LEG_OGATE_selftest : Fld := ⟨282, 0x40201004, 0x0, 0, 3, 1, .ro, false, false, 0x0⟩
def LEG_OGATE_replay : Fld := ⟨283, 0x40201004, 0x0, 0, 2, 1, .ro, false, false, 0x0⟩
def LEG_OGATE_standby : Fld := ⟨284, 0x40201004, 0x0, 0, 1, 1, .ro, false, false, 0x0⟩
def LEG_OGATE_reset : Fld := ⟨285, 0x40201004, 0x0, 0, 0, 1, .ro, false, false, 0x1⟩
/-- `FLTj_CFG`, R197. -/
def FLTj_CFG_blank : Fld := ⟨286, 0x40201100, 0x10, 0, 20, 12, .rw, true, true, 0x0⟩
def FLTj_CFG_filt : Fld := ⟨287, 0x40201100, 0x10, 0, 12, 8, .rw, true, true, 0x4⟩
def FLTj_CFG_pat : Fld := ⟨288, 0x40201100, 0x10, 0, 8, 2, .rw, true, true, 0x0⟩
def FLTj_CFG_cut : Fld := ⟨289, 0x40201100, 0x10, 0, 5, 1, .rw, true, true, 0x0⟩
def FLTj_CFG_pol : Fld := ⟨290, 0x40201100, 0x10, 0, 4, 1, .rw, true, true, 0x0⟩
def FLTj_CFG_mode : Fld := ⟨291, 0x40201100, 0x10, 0, 0, 2, .rw, true, true, 0x0⟩
/-- `FLTj_MAP`, R197. -/
def FLTj_MAP_legs : Fld := ⟨292, 0x40201104, 0x10, 0, 0, 16, .rw, true, true, 0x0⟩
/-- `ITRIPm_CFG`, R197. -/
def ITRIPm_CFG_blank : Fld := ⟨293, 0x40201200, 0x10, 0, 20, 12, .rw, true, true, 0x0⟩
def ITRIPm_CFG_ain : Fld := ⟨294, 0x40201200, 0x10, 0, 10, 6, .rw, true, true, 0x0⟩
def ITRIPm_CFG_pat : Fld := ⟨295, 0x40201200, 0x10, 0, 8, 2, .rw, true, true, 0x0⟩
def ITRIPm_CFG_sel : Fld := ⟨296, 0x40201200, 0x10, 0, 7, 1, .rw, true, true, 0x0⟩
def ITRIPm_CFG_cut : Fld := ⟨297, 0x40201200, 0x10, 0, 5, 1, .rw, true, true, 0x0⟩
def ITRIPm_CFG_mode : Fld := ⟨298, 0x40201200, 0x10, 0, 0, 2, .rw, true, true, 0x0⟩
/-- `ITRIPm_MAP`, R197. -/
def ITRIPm_MAP_legs : Fld := ⟨299, 0x40201204, 0x10, 0, 0, 16, .rw, true, true, 0x0⟩
/-- `FLT_STAT`, R197. -/
def FLT_STAT_itrip : Fld := ⟨300, 0x40201300, 0x0, 0, 16, 16, .w1c, true, false, 0x0⟩
def FLT_STAT_flt : Fld := ⟨301, 0x40201300, 0x0, 0, 0, 16, .w1c, true, false, 0x0⟩
/-- `FLT_LVL`, R197. -/
def FLT_LVL_itrip : Fld := ⟨302, 0x40201304, 0x0, 0, 16, 16, .ro, false, false, 0x0⟩
def FLT_LVL_flt : Fld := ⟨303, 0x40201304, 0x0, 0, 0, 16, .ro, false, false, 0x0⟩
/-- `SPn_CTL`, R233. -/
def SPn_CTL_pg_en : Fld := ⟨304, 0x40310000, 0x10000, 0, 8, 4, .rw, true, true, 0x0⟩
def SPn_CTL_x0_load : Fld := ⟨305, 0x40310000, 0x10000, 0, 2, 1, .rw, true, true, 0x1⟩
def SPn_CTL_spec : Fld := ⟨306, 0x40310000, 0x10000, 0, 1, 1, .ro, false, false, 0x0⟩
def SPn_CTL_spec_dis : Fld := ⟨307, 0x40310000, 0x10000, 0, 0, 1, .rw, true, true, 0x0⟩
/-- `SPn_XFORM`, R233. -/
def SPn_XFORM_vdc_en : Fld := ⟨308, 0x40310004, 0x10000, 0, 19, 1, .rw, true, true, 0x0⟩
def SPn_XFORM_vdc : Fld := ⟨309, 0x40310004, 0x10000, 0, 16, 3, .rw, true, true, 0x0⟩
def SPn_XFORM_mode : Fld := ⟨310, 0x40310004, 0x10000, 0, 12, 2, .rw, true, true, 0x0⟩
def SPn_XFORM_pc : Fld := ⟨311, 0x40310004, 0x10000, 0, 8, 3, .rw, true, true, 0x2⟩
def SPn_XFORM_pb : Fld := ⟨312, 0x40310004, 0x10000, 0, 4, 3, .rw, true, true, 0x1⟩
def SPn_XFORM_pa : Fld := ⟨313, 0x40310004, 0x10000, 0, 0, 3, .rw, true, true, 0x0⟩
/-- `SPn_PER`, R233. -/
def SPn_PER_per : Fld := ⟨314, 0x40310008, 0x10000, 0, 0, 32, .rw, true, false, 0x271000⟩
/-- `SPn_STEP`, R233. -/
def SPn_STEP_step_inact : Fld := ⟨315, 0x4031000c, 0x10000, 0, 8, 8, .ro, false, false, 0x0⟩
def SPn_STEP_step_act : Fld := ⟨316, 0x4031000c, 0x10000, 0, 0, 8, .ro, false, false, 0x0⟩
/-- `SPn_BANK`, R233. -/
def SPn_BANK_int_frz : Fld := ⟨317, 0x40310010, 0x10000, 0, 12, 1, .ro, false, false, 0x0⟩
def SPn_BANK_fb : Fld := ⟨318, 0x40310010, 0x10000, 0, 11, 1, .ro, false, false, 0x0⟩
def SPn_BANK_seal_busy : Fld := ⟨319, 0x40310010, 0x10000, 0, 10, 1, .ro, false, false, 0x0⟩
def SPn_BANK_seal_req : Fld := ⟨320, 0x40310010, 0x10000, 0, 9, 1, .w1s, true, false, 0x0⟩
def SPn_BANK_bumpless : Fld := ⟨321, 0x40310010, 0x10000, 0, 8, 1, .rw, true, true, 0x1⟩
def SPn_BANK_seal_b : Fld := ⟨322, 0x40310010, 0x10000, 0, 5, 1, .ro, false, false, 0x0⟩
def SPn_BANK_seal_a : Fld := ⟨323, 0x40310010, 0x10000, 0, 4, 1, .ro, false, false, 0x0⟩
def SPn_BANK_swap : Fld := ⟨324, 0x40310010, 0x10000, 0, 2, 1, .w1s, true, false, 0x0⟩
def SPn_BANK_active : Fld := ⟨325, 0x40310010, 0x10000, 0, 0, 1, .ro, false, false, 0x0⟩
/-- `SPn_BANK_CRC_A`, R233. -/
def SPn_BANK_CRC_A_crc : Fld := ⟨326, 0x40310014, 0x10000, 0, 0, 32, .ro, false, false, 0x0⟩
/-- `SPn_BANK_CRC_B`, R233. -/
def SPn_BANK_CRC_B_crc : Fld := ⟨327, 0x40310018, 0x10000, 0, 0, 32, .ro, false, false, 0x0⟩
/-- `SPn_SPEC_ACC`, R233. -/
def SPn_SPEC_ACC_count : Fld := ⟨328, 0x4031001c, 0x10000, 0, 0, 32, .ro, false, false, 0x0⟩
/-- `SPn_SPEC_REJ`, R233. -/
def SPn_SPEC_REJ_swap : Fld := ⟨329, 0x40310020, 0x10000, 0, 16, 8, .rc, false, false, 0x0⟩
def SPn_SPEC_REJ_sat : Fld := ⟨330, 0x40310020, 0x10000, 0, 8, 8, .rc, false, false, 0x0⟩
def SPn_SPEC_REJ_innov : Fld := ⟨331, 0x40310020, 0x10000, 0, 0, 8, .rc, false, false, 0x0⟩
/-- `SPn_SPEC_LAST`, R233. -/
def SPn_SPEC_LAST_period : Fld := ⟨332, 0x40310024, 0x10000, 0, 16, 16, .ro, false, false, 0x0⟩
def SPn_SPEC_LAST_meas : Fld := ⟨333, 0x40310024, 0x10000, 0, 8, 3, .ro, false, false, 0x0⟩
def SPn_SPEC_LAST_cause : Fld := ⟨334, 0x40310024, 0x10000, 0, 0, 3, .ro, false, false, 0x0⟩
/-- `SPn_FB`, R233. -/
def SPn_FB_fb_hold : Fld := ⟨335, 0x40310028, 0x10000, 0, 20, 12, .rw, true, true, 0x1f4⟩
def SPn_FB_frz_n : Fld := ⟨336, 0x40310028, 0x10000, 0, 8, 8, .rw, true, true, 0x10⟩
def SPn_FB_miss_n : Fld := ⟨337, 0x40310028, 0x10000, 0, 4, 4, .rw, true, true, 0x2⟩
def SPn_FB_act : Fld := ⟨338, 0x40310028, 0x10000, 0, 0, 1, .rw, true, true, 0x0⟩
/-- `SPn_FBSTAT`, R233. -/
def SPn_FBSTAT_hold_left : Fld := ⟨339, 0x4031002c, 0x10000, 0, 20, 12, .ro, false, false, 0x0⟩
def SPn_FBSTAT_expired : Fld := ⟨340, 0x4031002c, 0x10000, 0, 19, 1, .w1c, false, false, 0x0⟩
def SPn_FBSTAT_hold : Fld := ⟨341, 0x4031002c, 0x10000, 0, 18, 1, .ro, false, false, 0x0⟩
def SPn_FBSTAT_absent : Fld := ⟨342, 0x4031002c, 0x10000, 0, 8, 8, .ro, false, false, 0x0⟩
def SPn_FBSTAT_lost : Fld := ⟨343, 0x4031002c, 0x10000, 0, 0, 8, .ro, false, false, 0x0⟩
/-- `SPn_MISS`, R233. -/
def SPn_MISS_miss_cnt : Fld := ⟨344, 0x40310030, 0x10000, 0, 16, 16, .rc, false, false, 0x0⟩
def SPn_MISS_miss_now : Fld := ⟨345, 0x40310030, 0x10000, 0, 0, 8, .ro, false, false, 0x0⟩
/-- `SPn_OSC_CFG`, R233. -/
def SPn_OSC_CFG_win : Fld := ⟨346, 0x40310060, 0x10000, 0, 16, 16, .rw, true, true, 0x12c0⟩
def SPn_OSC_CFG_en : Fld := ⟨347, 0x40310060, 0x10000, 0, 10, 1, .rw, true, true, 0x0⟩
def SPn_OSC_CFG_resp : Fld := ⟨348, 0x40310060, 0x10000, 0, 8, 2, .rw, true, true, 0x0⟩
def SPn_OSC_CFG_kind : Fld := ⟨349, 0x40310060, 0x10000, 0, 6, 2, .rw, true, true, 0x0⟩
def SPn_OSC_CFG_index : Fld := ⟨350, 0x40310060, 0x10000, 0, 0, 4, .rw, true, true, 0x0⟩
/-- `SPn_OSC_N`, R233. -/
def SPn_OSC_N_n_max : Fld := ⟨351, 0x40310064, 0x10000, 0, 8, 8, .rw, true, true, 0xff⟩
def SPn_OSC_N_n_min : Fld := ⟨352, 0x40310064, 0x10000, 0, 0, 8, .rw, true, true, 0x1⟩
/-- `SPn_OSC_STAT`, R233. -/
def SPn_OSC_STAT_osc_cnt : Fld := ⟨353, 0x40310068, 0x10000, 0, 24, 8, .rc, false, false, 0x0⟩
def SPn_OSC_STAT_osc : Fld := ⟨354, 0x40310068, 0x10000, 0, 8, 1, .w1c, false, false, 0x0⟩
def SPn_OSC_STAT_last_cnt : Fld := ⟨355, 0x40310068, 0x10000, 0, 0, 8, .ro, false, false, 0x0⟩
/-- `SPn_PG_STAT`, R233. -/
def SPn_PG_STAT_busy : Fld := ⟨356, 0x4031006c, 0x10000, 0, 0, 4, .ro, false, false, 0x0⟩
/-- `SPn_FLD_CTL`, R265. -/
def SPn_FLD_CTL_ipd_en : Fld := ⟨357, 0x40310100, 0x10000, 0, 13, 1, .rw, true, true, 0x0⟩
def SPn_FLD_CTL_rec_en : Fld := ⟨358, 0x40310100, 0x10000, 0, 12, 1, .rw, true, true, 0x0⟩
def SPn_FLD_CTL_ke_en : Fld := ⟨359, 0x40310100, 0x10000, 0, 11, 1, .rw, true, true, 0x0⟩
def SPn_FLD_CTL_lr_en : Fld := ⟨360, 0x40310100, 0x10000, 0, 10, 1, .rw, true, true, 0x0⟩
def SPn_FLD_CTL_obs_en : Fld := ⟨361, 0x40310100, 0x10000, 0, 9, 1, .rw, true, true, 0x0⟩
def SPn_FLD_CTL_fw_en : Fld := ⟨362, 0x40310100, 0x10000, 0, 8, 1, .rw, true, true, 0x0⟩
def SPn_FLD_CTL_ff_en : Fld := ⟨363, 0x40310100, 0x10000, 0, 7, 1, .rw, true, true, 0x0⟩
def SPn_FLD_CTL_ref_torque : Fld := ⟨364, 0x40310100, 0x10000, 0, 6, 1, .rw, true, true, 0x0⟩
def SPn_FLD_CTL_ovm : Fld := ⟨365, 0x40310100, 0x10000, 0, 4, 2, .rw, true, true, 0x0⟩
def SPn_FLD_CTL_asrc : Fld := ⟨366, 0x40310100, 0x10000, 0, 2, 2, .rw, true, true, 0x0⟩
def SPn_FLD_CTL_mode : Fld := ⟨367, 0x40310100, 0x10000, 0, 0, 2, .rw, true, true, 0x0⟩
/-- `SPn_FLD_STAT`, R265. -/
def SPn_FLD_STAT_rec_cnt : Fld := ⟨368, 0x40310104, 0x10000, 0, 28, 4, .ro, false, false, 0x0⟩
def SPn_FLD_STAT_pll_lock : Fld := ⟨369, 0x40310104, 0x10000, 0, 15, 1, .ro, false, false, 0x0⟩
def SPn_FLD_STAT_ovm_active : Fld := ⟨370, 0x40310104, 0x10000, 0, 14, 1, .ro, false, false, 0x0⟩
def SPn_FLD_STAT_fw_active : Fld := ⟨371, 0x40310104, 0x10000, 0, 13, 1, .ro, false, false, 0x0⟩
def SPn_FLD_STAT_fw_limit : Fld := ⟨372, 0x40310104, 0x10000, 0, 12, 1, .w1c, false, false, 0x0⟩
def SPn_FLD_STAT_ke_abn : Fld := ⟨373, 0x40310104, 0x10000, 0, 11, 1, .w1c, false, false, 0x0⟩
def SPn_FLD_STAT_locked : Fld := ⟨374, 0x40310104, 0x10000, 0, 10, 1, .ro, false, false, 0x0⟩
def SPn_FLD_STAT_obs_lost : Fld := ⟨375, 0x40310104, 0x10000, 0, 9, 1, .w1c, false, false, 0x0⟩
def SPn_FLD_STAT_obs_valid : Fld := ⟨376, 0x40310104, 0x10000, 0, 8, 1, .ro, false, false, 0x0⟩
def SPn_FLD_STAT_task : Fld := ⟨377, 0x40310104, 0x10000, 0, 2, 3, .ro, false, false, 0x0⟩
def SPn_FLD_STAT_engine : Fld := ⟨378, 0x40310104, 0x10000, 0, 0, 2, .ro, false, false, 0x0⟩
/-- `SPn_MACH`, R265. -/
def SPn_MACH_pp : Fld := ⟨379, 0x40310108, 0x10000, 0, 0, 5, .rw, true, true, 0x1⟩
/-- `SPn_PSI`, R265. -/
def SPn_PSI_value : Fld := ⟨380, 0x4031010c, 0x10000, 0, 0, 32, .rw, true, true, 0x0⟩
/-- `SPn_LD`, R265. -/
def SPn_LD_value : Fld := ⟨381, 0x40310110, 0x10000, 0, 0, 32, .rw, true, true, 0x0⟩
/-- `SPn_LQ`, R265. -/
def SPn_LQ_value : Fld := ⟨382, 0x40310114, 0x10000, 0, 0, 32, .rw, true, true, 0x0⟩
/-- `SPn_RS`, R265. -/
def SPn_RS_value : Fld := ⟨383, 0x40310118, 0x10000, 0, 0, 32, .rw, true, true, 0x0⟩
/-- `SPn_IMAX`, R265. -/
def SPn_IMAX_imax : Fld := ⟨384, 0x4031011c, 0x10000, 0, 0, 32, .rw, true, true, 0x10000000⟩
/-- `SPn_ANG_OFS`, R265. -/
def SPn_ANG_OFS_meas_ofs : Fld := ⟨385, 0x40310120, 0x10000, 0, 16, 16, .rw, true, true, 0x0⟩
def SPn_ANG_OFS_u_adv : Fld := ⟨386, 0x40310120, 0x10000, 0, 0, 16, .rw, true, true, 0x0⟩
/-- `SPn_FW`, R265. -/
def SPn_FW_fw_start : Fld := ⟨387, 0x40310124, 0x10000, 0, 16, 16, .rw, true, true, 0x799a⟩
def SPn_FW_kp_fw : Fld := ⟨388, 0x40310124, 0x10000, 0, 0, 16, .rw, true, true, 0x400⟩
/-- `SPn_FW_KI`, R265. -/
def SPn_FW_KI_ki_fw : Fld := ⟨389, 0x40310128, 0x10000, 0, 0, 16, .rw, true, true, 0x64⟩
/-- `SPn_FW_MIN`, R265. -/
def SPn_FW_MIN_id_fw_min : Fld := ⟨390, 0x4031012c, 0x10000, 0, 0, 32, .rw, true, true, 0xf8000000⟩
/-- `SPn_OBS`, R265. -/
def SPn_OBS_obs_n : Fld := ⟨391, 0x40310130, 0x10000, 0, 24, 8, .rw, true, true, 0x10⟩
def SPn_OBS_trk_lim : Fld := ⟨392, 0x40310130, 0x10000, 0, 16, 8, .rw, true, true, 0x1e⟩
def SPn_OBS_bw : Fld := ⟨393, 0x40310130, 0x10000, 0, 0, 16, .rw, true, true, 0x1f4⟩
/-- `SPn_OBS_LIM`, R265. -/
def SPn_OBS_LIM_res_lim : Fld := ⟨394, 0x40310134, 0x10000, 0, 16, 16, .rw, true, true, 0x1000⟩
/-- `SPn_OBS_MIN`, R265. -/
def SPn_OBS_MIN_obs_min : Fld := ⟨395, 0x40310138, 0x10000, 0, 0, 32, .rw, true, true, 0x140000⟩
/-- `SPn_REC`, R265. -/
def SPn_REC_recap_n : Fld := ⟨396, 0x40310140, 0x10000, 0, 28, 4, .rw, true, true, 0x3⟩
def SPn_REC_probe : Fld := ⟨397, 0x40310140, 0x10000, 0, 16, 12, .rw, true, true, 0x14⟩
def SPn_REC_settle : Fld := ⟨398, 0x40310140, 0x10000, 0, 0, 16, .rw, true, true, 0x32⟩
/-- `SPn_REC_I`, R265. -/
def SPn_REC_I_i_zero : Fld := ⟨399, 0x40310144, 0x10000, 0, 16, 16, .rw, true, true, 0x148⟩
def SPn_REC_I_i_probe : Fld := ⟨400, 0x40310144, 0x10000, 0, 0, 16, .rw, true, true, 0x1000⟩
/-- `SPn_DTC`, R265. -/
def SPn_DTC_t_band : Fld := ⟨401, 0x40310148, 0x10000, 0, 16, 16, .rw, true, true, 0x200⟩
def SPn_DTC_psi_band : Fld := ⟨402, 0x40310148, 0x10000, 0, 0, 16, .rw, true, true, 0x100⟩
/-- `SPn_DTC_CFG`, R265. -/
def SPn_DTC_CFG_seq : Fld := ⟨403, 0x4031014c, 0x10000, 0, 24, 4, .rw, true, true, 0x0⟩
def SPn_DTC_CFG_dec_min : Fld := ⟨404, 0x4031014c, 0x10000, 0, 0, 16, .rw, true, true, 0x190⟩
/-- `SPn_LR`, R265. -/
def SPn_LR_lr_torq : Fld := ⟨405, 0x40310150, 0x10000, 0, 16, 16, .rw, true, true, 0x4000⟩
def SPn_LR_lr_angle : Fld := ⟨406, 0x40310150, 0x10000, 0, 8, 8, .rw, true, true, 0xf⟩
/-- `SPn_LR_T`, R265. -/
def SPn_LR_T_lr_time : Fld := ⟨407, 0x40310154, 0x10000, 0, 16, 16, .rw, true, true, 0x1f4⟩
def SPn_LR_T_lr_current : Fld := ⟨408, 0x40310154, 0x10000, 0, 0, 16, .rw, true, true, 0x4000⟩
/-- `SPn_KE`, R265. -/
def SPn_KE_ke_tol : Fld := ⟨409, 0x40310158, 0x10000, 0, 16, 16, .rw, true, true, 0xccd⟩
def SPn_KE_ke_id_band : Fld := ⟨410, 0x40310158, 0x10000, 0, 0, 16, .rw, true, true, 0x148⟩
/-- `SPn_KE_SPD`, R265. -/
def SPn_KE_SPD_ke_min : Fld := ⟨411, 0x4031015c, 0x10000, 0, 0, 32, .rw, true, true, 0x640000⟩
/-- `SPn_KE_T`, R265. -/
def SPn_KE_T_ke_time : Fld := ⟨412, 0x40310160, 0x10000, 0, 16, 16, .rw, true, true, 0x3e8⟩
def SPn_KE_T_ke_derate : Fld := ⟨413, 0x40310160, 0x10000, 0, 0, 16, .rw, true, true, 0x8000⟩
/-- `SPn_FORCE`, R265. -/
def SPn_FORCE_freq : Fld := ⟨414, 0x40310164, 0x10000, 0, 0, 32, .rw, true, false, 0x0⟩
/-- `SPn_GRID`, R265. -/
def SPn_GRID_pll_bw : Fld := ⟨415, 0x40310168, 0x10000, 0, 16, 8, .rw, true, true, 0x14⟩
def SPn_GRID_gc : Fld := ⟨416, 0x40310168, 0x10000, 0, 12, 3, .rw, true, true, 0x6⟩
def SPn_GRID_gb : Fld := ⟨417, 0x40310168, 0x10000, 0, 8, 3, .rw, true, true, 0x5⟩
def SPn_GRID_ga : Fld := ⟨418, 0x40310168, 0x10000, 0, 4, 3, .rw, true, true, 0x4⟩
def SPn_GRID_ptp_align : Fld := ⟨419, 0x40310168, 0x10000, 0, 1, 1, .rw, true, true, 0x0⟩
def SPn_GRID_f_nom : Fld := ⟨420, 0x40310168, 0x10000, 0, 0, 1, .rw, true, true, 0x0⟩
/-- `SPn_GRID_DROOP`, R265. -/
def SPn_GRID_DROOP_mp : Fld := ⟨421, 0x4031016c, 0x10000, 0, 16, 16, .rw, true, true, 0x1000⟩
def SPn_GRID_DROOP_mq : Fld := ⟨422, 0x4031016c, 0x10000, 0, 0, 16, .rw, true, true, 0xcd⟩
/-- `SPn_GRID_BAND`, R265. -/
def SPn_GRID_BAND_f_hi : Fld := ⟨423, 0x40310170, 0x10000, 0, 16, 16, .rw, true, true, 0x3400⟩
def SPn_GRID_BAND_f_lo : Fld := ⟨424, 0x40310170, 0x10000, 0, 0, 16, .rw, true, true, 0x2f80⟩
/-- `SPn_ANG_M`, R265. -/
def SPn_ANG_M_angle : Fld := ⟨425, 0x40310180, 0x10000, 0, 0, 32, .ro, false, false, 0x0⟩
/-- `SPn_ANG_U`, R265. -/
def SPn_ANG_U_angle : Fld := ⟨426, 0x40310184, 0x10000, 0, 0, 32, .ro, false, false, 0x0⟩
/-- `SPn_OBS_ANG`, R265. -/
def SPn_OBS_ANG_angle : Fld := ⟨427, 0x40310188, 0x10000, 0, 0, 32, .ro, false, false, 0x0⟩
/-- `SPn_OBS_SPD`, R265. -/
def SPn_OBS_SPD_speed : Fld := ⟨428, 0x4031018c, 0x10000, 0, 0, 32, .ro, false, false, 0x0⟩
/-- `SPn_FW_ID`, R265. -/
def SPn_FW_ID_id_fw : Fld := ⟨429, 0x40310190, 0x10000, 0, 0, 32, .ro, false, false, 0x0⟩
/-- `SPn_KE_EST`, R265. -/
def SPn_KE_EST_psi_f : Fld := ⟨430, 0x40310194, 0x10000, 0, 0, 32, .ro, false, false, 0x0⟩
/-- `SPn_GRID_F`, R265. -/
def SPn_GRID_F_freq : Fld := ⟨431, 0x40310198, 0x10000, 0, 0, 32, .ro, false, false, 0x0⟩
/-- `SPn_TLIM_EFF`, R265. -/
def SPn_TLIM_EFF_i_lim : Fld := ⟨432, 0x4031019c, 0x10000, 0, 16, 16, .ro, false, false, 0x0⟩
def SPn_TLIM_EFF_t_lim : Fld := ⟨433, 0x4031019c, 0x10000, 0, 0, 16, .ro, false, false, 0x0⟩
/-- `SPn_SIX_OFS`, R265. -/
def SPn_SIX_OFS_ofs : Fld := ⟨434, 0x403101a0, 0x10000, 0, 0, 32, .rw, true, true, 0x0⟩
/-- `CHn_STATE`, R300. -/
def CHn_STATE_cause : Fld := ⟨435, 0x402400a0, 0x100, 0, 24, 8, .ro, false, false, 0x0⟩
def CHn_STATE_sel : Fld := ⟨436, 0x402400a0, 0x100, 0, 20, 2, .ro, false, false, 0x1⟩
def CHn_STATE_motoring_only : Fld := ⟨437, 0x402400a0, 0x100, 0, 17, 1, .ro, false, false, 0x0⟩
def CHn_STATE_safety : Fld := ⟨438, 0x402400a0, 0x100, 0, 16, 1, .ro, false, false, 0x0⟩
def CHn_STATE_pat : Fld := ⟨439, 0x402400a0, 0x100, 0, 12, 2, .ro, false, false, 0x0⟩
def CHn_STATE_held : Fld := ⟨440, 0x402400a0, 0x100, 0, 11, 1, .ro, false, false, 0x0⟩
def CHn_STATE_ss : Fld := ⟨441, 0x402400a0, 0x100, 0, 8, 3, .ro, false, false, 0x0⟩
def CHn_STATE_prev : Fld := ⟨442, 0x402400a0, 0x100, 0, 4, 3, .ro, false, false, 0x0⟩
def CHn_STATE_state : Fld := ⟨443, 0x402400a0, 0x100, 0, 0, 3, .ro, false, false, 0x0⟩
/-- `CHn_SAFECFG`, R300. -/
def CHn_SAFECFG_asc_hyst : Fld := ⟨444, 0x402400a4, 0x100, 0, 16, 16, .rw, true, true, 0xccd⟩
def CHn_SAFECFG_asc_resume : Fld := ⟨445, 0x402400a4, 0x100, 0, 7, 1, .rw, true, true, 0x0⟩
def CHn_SAFECFG_asc_unk : Fld := ⟨446, 0x402400a4, 0x100, 0, 6, 1, .rw, true, true, 0x0⟩
def CHn_SAFECFG_asc_pref : Fld := ⟨447, 0x402400a4, 0x100, 0, 5, 1, .rw, true, true, 0x0⟩
def CHn_SAFECFG_ch_safe_ss : Fld := ⟨448, 0x402400a4, 0x100, 0, 2, 2, .rw, true, true, 0x0⟩
def CHn_SAFECFG_stop_resume : Fld := ⟨449, 0x402400a4, 0x100, 0, 0, 1, .rw, true, true, 0x0⟩
/-- `CHn_ASC_SPD`, R300. -/
def CHn_ASC_SPD_asc_speed : Fld := ⟨450, 0x402400a8, 0x100, 0, 0, 32, .rw, true, true, 0x0⟩
/-- `CHn_ASC_V`, R300. -/
def CHn_ASC_V_asc_vmargin : Fld := ⟨451, 0x402400ac, 0x100, 0, 0, 16, .rw, true, true, 0x8000⟩
/-- `CHn_SEL_THR`, R300. -/
def CHn_SEL_THR_thr : Fld := ⟨452, 0x402400b0, 0x100, 0, 0, 32, .ro, false, false, 0x0⟩
/-- `CHn_STOP`, R300. -/
def CHn_STOP_stop_eps : Fld := ⟨453, 0x402400b4, 0x100, 0, 16, 16, .rw, true, true, 0x148⟩
def CHn_STOP_stop_ramp : Fld := ⟨454, 0x402400b4, 0x100, 0, 0, 16, .rw, true, true, 0xa00⟩
/-- `CHn_SWFAIL`, R300. -/
def CHn_SWFAIL_ls : Fld := ⟨455, 0x402400b8, 0x100, 0, 8, 6, .rw, true, false, 0x0⟩
def CHn_SWFAIL_hs : Fld := ⟨456, 0x402400b8, 0x100, 0, 0, 6, .rw, true, false, 0x0⟩
/-- `CHn_OC`, R300. -/
def CHn_OC_trip_lines : Fld := ⟨457, 0x402400bc, 0x100, 0, 16, 16, .rw, true, true, 0x0⟩
def CHn_OC_cyc_lines : Fld := ⟨458, 0x402400bc, 0x100, 0, 0, 16, .rw, true, true, 0x0⟩
/-- `CHn_OC_FLT`, R300. -/
def CHn_OC_FLT_cyc_max : Fld := ⟨459, 0x402400c0, 0x100, 0, 16, 8, .rw, true, true, 0x0⟩
def CHn_OC_FLT_trip_flt : Fld := ⟨460, 0x402400c0, 0x100, 0, 0, 16, .rw, true, true, 0x0⟩
/-- `CHn_OCSTAT`, R300. -/
def CHn_OCSTAT_cyc_cnt : Fld := ⟨461, 0x402400c4, 0x100, 0, 24, 8, .rc, false, false, 0x0⟩
def CHn_OCSTAT_cut_now : Fld := ⟨462, 0x402400c4, 0x100, 0, 9, 1, .ro, false, false, 0x0⟩
def CHn_OCSTAT_oc_trip : Fld := ⟨463, 0x402400c4, 0x100, 0, 8, 1, .w1c, false, false, 0x0⟩
def CHn_OCSTAT_cyc_run : Fld := ⟨464, 0x402400c4, 0x100, 0, 0, 8, .ro, false, false, 0x0⟩
/-- `CHn_VDC_SCALE`, R300. -/
def CHn_VDC_SCALE_scale : Fld := ⟨465, 0x402400c8, 0x100, 0, 0, 32, .rw, true, true, 0x0⟩
/-- `CHn_VDC_OFS`, R300. -/
def CHn_VDC_OFS_ofs : Fld := ⟨466, 0x402400cc, 0x100, 0, 0, 16, .rw, true, true, 0x0⟩
/-- `PRT_LNKl_CFG`, R301. -/
def PRT_LNKl_CFG_en : Fld := ⟨467, 0x40401000, 0x40, 0, 31, 1, .rw, true, true, 0x0⟩
def PRT_LNKl_CFG_members : Fld := ⟨468, 0x40401000, 0x40, 0, 24, 4, .rw, true, true, 0x0⟩
def PRT_LNKl_CFG_ichop_ain : Fld := ⟨469, 0x40401000, 0x40, 0, 16, 6, .rw, true, true, 0x0⟩
def PRT_LNKl_CFG_ichop_en : Fld := ⟨470, 0x40401000, 0x40, 0, 15, 1, .rw, true, true, 0x0⟩
def PRT_LNKl_CFG_pre_leg : Fld := ⟨471, 0x40401000, 0x40, 0, 12, 2, .rw, true, true, 0x0⟩
def PRT_LNKl_CFG_pre_en : Fld := ⟨472, 0x40401000, 0x40, 0, 11, 1, .rw, true, true, 0x0⟩
def PRT_LNKl_CFG_chop_leg : Fld := ⟨473, 0x40401000, 0x40, 0, 8, 2, .rw, true, true, 0x0⟩
def PRT_LNKl_CFG_chop_en : Fld := ⟨474, 0x40401000, 0x40, 0, 7, 1, .rw, true, true, 0x0⟩
def PRT_LNKl_CFG_chop_mode : Fld := ⟨475, 0x40401000, 0x40, 0, 6, 1, .rw, true, true, 0x0⟩
def PRT_LNKl_CFG_vdc_ain : Fld := ⟨476, 0x40401000, 0x40, 0, 0, 6, .rw, true, true, 0x0⟩
/-- `PRT_LNKl_OV1`, R301. -/
def PRT_LNKl_OV1_ov_warn : Fld := ⟨477, 0x40401004, 0x40, 0, 16, 16, .rw, true, true, 0x0⟩
def PRT_LNKl_OV1_chop_on : Fld := ⟨478, 0x40401004, 0x40, 0, 0, 16, .rw, true, true, 0x0⟩
/-- `PRT_LNKl_OV2`, R301. -/
def PRT_LNKl_OV2_ov_hard : Fld := ⟨479, 0x40401008, 0x40, 0, 16, 16, .rw, true, true, 0x0⟩
def PRT_LNKl_OV2_ov_asc : Fld := ⟨480, 0x40401008, 0x40, 0, 0, 16, .rw, true, true, 0x0⟩
/-- `PRT_LNKl_CHOP`, R301. -/
def PRT_LNKl_CHOP_chop_full : Fld := ⟨481, 0x4040100c, 0x40, 0, 16, 16, .rw, true, true, 0x0⟩
def PRT_LNKl_CHOP_chop_off : Fld := ⟨482, 0x4040100c, 0x40, 0, 0, 16, .rw, true, true, 0x0⟩
/-- `PRT_LNKl_CHK`, R301. -/
def PRT_LNKl_CHK_ichop_min : Fld := ⟨483, 0x40401010, 0x40, 0, 16, 16, .rw, true, true, 0x0⟩
def PRT_LNKl_CHK_chop_confirm : Fld := ⟨484, 0x40401010, 0x40, 0, 0, 16, .rw, true, true, 0x32⟩
/-- `PRT_LNKl_FILT`, R301. -/
def PRT_LNKl_FILT_ov_filt : Fld := ⟨485, 0x40401014, 0x40, 0, 0, 8, .rw, true, true, 0x8⟩
/-- `PRT_LNKl_PRE`, R301. -/
def PRT_LNKl_PRE_pre_done : Fld := ⟨486, 0x40401018, 0x40, 0, 16, 16, .rw, true, true, 0x0⟩
def PRT_LNKl_PRE_pre_time : Fld := ⟨487, 0x40401018, 0x40, 0, 0, 16, .rw, true, true, 0x1f4⟩
/-- `PRT_LNKl_DIS`, R301. -/
def PRT_LNKl_DIS_dis_v : Fld := ⟨488, 0x4040101c, 0x40, 0, 16, 16, .rw, true, true, 0x0⟩
def PRT_LNKl_DIS_dis_mode : Fld := ⟨489, 0x4040101c, 0x40, 0, 0, 2, .rw, true, true, 0x0⟩
/-- `PRT_LNKl_DIST`, R301. -/
def PRT_LNKl_DIST_dis_id : Fld := ⟨490, 0x40401020, 0x40, 0, 16, 16, .rw, true, true, 0x199a⟩
def PRT_LNKl_DIST_dis_time : Fld := ⟨491, 0x40401020, 0x40, 0, 0, 16, .rw, true, true, 0x7d0⟩
/-- `PRT_LNKl_STAT`, R301. -/
def PRT_LNKl_STAT_vmean : Fld := ⟨492, 0x40401024, 0x40, 0, 16, 16, .ro, false, false, 0x0⟩
def PRT_LNKl_STAT_lstate : Fld := ⟨493, 0x40401024, 0x40, 0, 14, 2, .ro, false, false, 0x0⟩
def PRT_LNKl_STAT_starved : Fld := ⟨494, 0x40401024, 0x40, 0, 11, 1, .w1c, false, false, 0x0⟩
def PRT_LNKl_STAT_dis_fail : Fld := ⟨495, 0x40401024, 0x40, 0, 10, 1, .w1c, false, false, 0x0⟩
def PRT_LNKl_STAT_pre_fail : Fld := ⟨496, 0x40401024, 0x40, 0, 9, 1, .w1c, false, false, 0x0⟩
def PRT_LNKl_STAT_ov_hard : Fld := ⟨497, 0x40401024, 0x40, 0, 8, 1, .w1c, false, false, 0x0⟩
def PRT_LNKl_STAT_ov_asc : Fld := ⟨498, 0x40401024, 0x40, 0, 7, 1, .w1c, false, false, 0x0⟩
def PRT_LNKl_STAT_motoring_only : Fld := ⟨499, 0x40401024, 0x40, 0, 6, 1, .ro, false, false, 0x0⟩
def PRT_LNKl_STAT_chop_fail : Fld := ⟨500, 0x40401024, 0x40, 0, 5, 1, .ro, false, false, 0x0⟩
def PRT_LNKl_STAT_chop : Fld := ⟨501, 0x40401024, 0x40, 0, 4, 1, .ro, false, false, 0x0⟩
def PRT_LNKl_STAT_warn : Fld := ⟨502, 0x40401024, 0x40, 0, 3, 1, .ro, false, false, 0x0⟩
/-- `PRT_LNKl_VMAX`, R301. -/
def PRT_LNKl_VMAX_vmax : Fld := ⟨503, 0x40401028, 0x40, 0, 0, 16, .rc, false, false, 0x8000⟩
/-- `PRT_LS_CTL`, R338. -/
def PRT_LS_CTL_dig_per : Fld := ⟨504, 0x40400000, 0x0, 0, 0, 16, .rw, true, true, 0x0⟩
/-- `PRT_LS_STAT`, R338. -/
def PRT_LS_STAT_restored : Fld := ⟨505, 0x40400004, 0x0, 0, 16, 6, .w1c, false, false, 0x0⟩
def PRT_LS_STAT_cmp_split : Fld := ⟨506, 0x40400004, 0x0, 0, 8, 6, .w1c, false, false, 0x0⟩
def PRT_LS_STAT_mismatch : Fld := ⟨507, 0x40400004, 0x0, 0, 0, 6, .w1c, false, false, 0x0⟩
/-- `PRT_LS_CNTp`, R338. -/
def PRT_LS_CNTp_mis_cnt : Fld := ⟨508, 0x40400010, 0x4, 0, 24, 8, .rc, false, false, 0x0⟩
def PRT_LS_CNTp_lat_cnt : Fld := ⟨509, 0x40400010, 0x4, 0, 16, 8, .rc, false, false, 0x0⟩
def PRT_LS_CNTp_par_cnt : Fld := ⟨510, 0x40400010, 0x4, 0, 8, 8, .rc, false, false, 0x0⟩
def PRT_LS_CNTp_test_cnt : Fld := ⟨511, 0x40400010, 0x4, 0, 0, 8, .rc, false, false, 0x0⟩
/-- `PRT_CHUCK_STAT`, R338. -/
def PRT_CHUCK_STAT_resample : Fld := ⟨512, 0x40400030, 0x0, 0, 16, 16, .rc, false, false, 0x0⟩
def PRT_CHUCK_STAT_disagree : Fld := ⟨513, 0x40400030, 0x0, 0, 0, 16, .rc, false, false, 0x0⟩
/-- `PRT_RSTVEC_CPA`, R338. -/
def PRT_RSTVEC_CPA_addr : Fld := ⟨514, 0x40400040, 0x0, 0, 0, 32, .rw, true, true, 0x100⟩
/-- `PRT_RSTVEC_CPB`, R338. -/
def PRT_RSTVEC_CPB_addr : Fld := ⟨515, 0x40400044, 0x0, 0, 0, 32, .rw, true, true, 0x100⟩
/-- `PRT_CMP_TEST`, R338. -/
def PRT_CMP_TEST_bit : Fld := ⟨516, 0x40400048, 0x0, 0, 0, 8, .ro, false, false, 0x0⟩
/-- `BDG_MB_REQ`, R339. -/
def BDG_MB_REQ_go : Fld := ⟨517, 0x40480000, 0x0, 0, 31, 1, .w1s, true, false, 0x0⟩
def BDG_MB_REQ_len : Fld := ⟨518, 0x40480000, 0x0, 0, 0, 11, .rw, true, false, 0x0⟩
/-- `BDG_MB_STAT`, R339. -/
def BDG_MB_STAT_busy : Fld := ⟨519, 0x40480004, 0x0, 0, 31, 1, .ro, false, false, 0x0⟩
def BDG_MB_STAT_done : Fld := ⟨520, 0x40480004, 0x0, 0, 30, 1, .w1c, false, false, 0x0⟩
def BDG_MB_STAT_status : Fld := ⟨521, 0x40480004, 0x0, 0, 0, 8, .ro, false, false, 0x0⟩
/-- `BDG_STATE`, R339. -/
def BDG_STATE_dev_cause : Fld := ⟨522, 0x40480008, 0x0, 0, 24, 8, .ro, false, false, 0x0⟩
def BDG_STATE_lsb_cpb : Fld := ⟨523, 0x40480008, 0x0, 0, 7, 1, .ro, false, false, 0x0⟩
def BDG_STATE_lsb_cpa : Fld := ⟨524, 0x40480008, 0x0, 0, 6, 1, .ro, false, false, 0x0⟩
def BDG_STATE_fault_n : Fld := ⟨525, 0x40480008, 0x0, 0, 5, 1, .ro, false, false, 0x1⟩
def BDG_STATE_safe_en1 : Fld := ⟨526, 0x40480008, 0x0, 0, 4, 1, .ro, false, false, 0x0⟩
def BDG_STATE_safe_en0 : Fld := ⟨527, 0x40480008, 0x0, 0, 3, 1, .ro, false, false, 0x0⟩
def BDG_STATE_unit : Fld := ⟨528, 0x40480008, 0x0, 0, 0, 2, .ro, false, false, 0x0⟩
/-- `BDG_SUPV`, R339. -/
def BDG_SUPV_cpb : Fld := ⟨529, 0x4048000c, 0x0, 0, 0, 4, .rw, true, true, 0x0⟩
/-- `BDG_WDG_KICKc`, R339. -/
def BDG_WDG_KICKc_key : Fld := ⟨530, 0x40480010, 0x8, 0, 0, 16, .wo, false, false, 0x0⟩
/-- `BDG_WDG_STATc`, R339. -/
def BDG_WDG_STATc_miss_cnt : Fld := ⟨531, 0x40480014, 0x8, 0, 24, 8, .rc, false, false, 0x0⟩
def BDG_WDG_STATc_open : Fld := ⟨532, 0x40480014, 0x8, 0, 16, 1, .ro, false, false, 0x0⟩
def BDG_WDG_STATc_token : Fld := ⟨533, 0x40480014, 0x8, 0, 0, 16, .ro, false, false, 0x0⟩
/-- `BDG_FSTATw`, R339. -/
def BDG_FSTATw_src : Fld := ⟨534, 0x40480040, 0x4, 0, 0, 32, .ro, false, false, 0x0⟩
/-- `BDG_FLIVEw`, R339. -/
def BDG_FLIVEw_src : Fld := ⟨535, 0x40480060, 0x4, 0, 0, 32, .ro, false, false, 0x0⟩
/-- `BDG_PARAM_CRC`, R339. -/
def BDG_PARAM_CRC_crc : Fld := ⟨536, 0x40480080, 0x0, 0, 0, 32, .ro, false, false, 0x0⟩
/-- `TLS_CFG`, R372. -/
def TLS_CFG_start_wait : Fld := ⟨537, 0x40500000, 0x0, 0, 24, 8, .rw, true, true, 0x64⟩
def TLS_CFG_hb_lead : Fld := ⟨538, 0x40500000, 0x0, 0, 12, 12, .rw, true, true, 0xf0⟩
def TLS_CFG_lane_mask : Fld := ⟨539, 0x40500000, 0x0, 0, 4, 2, .rw, true, true, 0x3⟩
def TLS_CFG_auto_rejoin : Fld := ⟨540, 0x40500000, 0x0, 0, 3, 1, .rw, true, true, 0x1⟩
def TLS_CFG_cold_en : Fld := ⟨541, 0x40500000, 0x0, 0, 2, 1, .rw, true, true, 0x1⟩
def TLS_CFG_start_role : Fld := ⟨542, 0x40500000, 0x0, 0, 1, 1, .rw, true, true, 0x0⟩
def TLS_CFG_en : Fld := ⟨543, 0x40500000, 0x0, 0, 0, 1, .rw, true, true, 0x0⟩
/-- `TLS_CKCFG`, R372. -/
def TLS_CKCFG_sync_n : Fld := ⟨544, 0x40500004, 0x0, 0, 24, 8, .rw, true, true, 0x10⟩
def TLS_CKCFG_cold_ch : Fld := ⟨545, 0x40500004, 0x0, 0, 16, 4, .rw, true, true, 0xf⟩
def TLS_CKCFG_cold_ramp : Fld := ⟨546, 0x40500004, 0x0, 0, 0, 16, .rw, true, true, 0xc8⟩
/-- `TLS_STAT`, R372. -/
def TLS_STAT_nr_cause : Fld := ⟨547, 0x40500008, 0x0, 0, 20, 4, .ro, false, false, 0x0⟩
def TLS_STAT_aligned : Fld := ⟨548, 0x40500008, 0x0, 0, 17, 1, .ro, false, false, 0x0⟩
def TLS_STAT_digest_ok : Fld := ⟨549, 0x40500008, 0x0, 0, 16, 1, .ro, false, false, 0x0⟩
def TLS_STAT_sel_fb : Fld := ⟨550, 0x40500008, 0x0, 0, 15, 1, .ro, false, false, 0x0⟩
def TLS_STAT_xl_in : Fld := ⟨551, 0x40500008, 0x0, 0, 14, 1, .ro, false, false, 0x0⟩
def TLS_STAT_lane_up : Fld := ⟨552, 0x40500008, 0x0, 0, 12, 2, .ro, false, false, 0x0⟩
def TLS_STAT_peer_unit : Fld := ⟨553, 0x40500008, 0x0, 0, 8, 2, .ro, false, false, 0x0⟩
def TLS_STAT_peer_ready : Fld := ⟨554, 0x40500008, 0x0, 0, 6, 2, .ro, false, false, 0x0⟩
def TLS_STAT_peer_role : Fld := ⟨555, 0x40500008, 0x0, 0, 4, 2, .ro, false, false, 0x0⟩
def TLS_STAT_ready : Fld := ⟨556, 0x40500008, 0x0, 0, 2, 2, .ro, false, false, 0x0⟩
def TLS_STAT_role : Fld := ⟨557, 0x40500008, 0x0, 0, 0, 2, .ro, false, false, 0x0⟩
/-- `TLS_CNT`, R372. -/
def TLS_CNT_miss_cnt : Fld := ⟨558, 0x4050000c, 0x0, 0, 24, 8, .rc, false, false, 0x0⟩
def TLS_CNT_late_cnt : Fld := ⟨559, 0x4050000c, 0x0, 0, 16, 8, .rc, false, false, 0x0⟩
def TLS_CNT_crc_err : Fld := ⟨560, 0x4050000c, 0x0, 0, 8, 8, .rc, false, false, 0x0⟩
def TLS_CNT_tko_cnt : Fld := ⟨561, 0x4050000c, 0x0, 0, 0, 8, .ro, false, false, 0x0⟩
/-- `TLS_ALIGN`, R372. -/
def TLS_ALIGN_err_max : Fld := ⟨562, 0x40500010, 0x0, 0, 16, 16, .rc, false, false, 0x0⟩
def TLS_ALIGN_err : Fld := ⟨563, 0x40500010, 0x0, 0, 0, 16, .ro, false, false, 0x0⟩
/-- `TLS_PEER_OFS_LO`, R372. -/
def TLS_PEER_OFS_LO_ofs : Fld := ⟨564, 0x40500014, 0x0, 0, 0, 32, .ro, false, false, 0x0⟩
/-- `TLS_PEER_OFS_HI`, R372. -/
def TLS_PEER_OFS_HI_ofs : Fld := ⟨565, 0x40500018, 0x0, 0, 0, 32, .ro, false, false, 0x0⟩
/-- `TLS_DELAY`, R372. -/
def TLS_DELAY_d : Fld := ⟨566, 0x4050001c, 0x0, 0, 0, 16, .ro, false, false, 0x0⟩
/-- `TLS_TRIM`, R372. -/
def TLS_TRIM_asym : Fld := ⟨567, 0x40500020, 0x0, 0, 0, 16, .rw, true, true, 0x0⟩
/-- `TLS_LAST_TKO`, R372. -/
def TLS_LAST_TKO_src : Fld := ⟨568, 0x40500024, 0x0, 0, 26, 2, .ro, false, false, 0x0⟩
def TLS_LAST_TKO_kind : Fld := ⟨569, 0x40500024, 0x0, 0, 24, 2, .ro, false, false, 0x0⟩
def TLS_LAST_TKO_gap : Fld := ⟨570, 0x40500024, 0x0, 0, 0, 24, .ro, false, false, 0x0⟩
/-- `FPL_POOL_BASE`, R409. -/
def FPL_POOL_BASE_base : Fld := ⟨571, 0x40600010, 0x0, 0, 0, 32, .rw, true, true, 0x10580000⟩
/-- `FPL_POOL_SIZE`, R409. -/
def FPL_POOL_SIZE_size : Fld := ⟨572, 0x40600014, 0x0, 0, 0, 32, .rw, true, true, 0x80000⟩
/-- `FPL_EVT_BASE`, R409. -/
def FPL_EVT_BASE_base : Fld := ⟨573, 0x40600018, 0x0, 0, 0, 32, .rw, true, true, 0x10568000⟩
/-- `FPL_MPLOAD`, R409. -/
def FPL_MPLOAD_overload : Fld := ⟨574, 0x40600020, 0x0, 0, 8, 1, .ro, false, false, 0x0⟩
def FPL_MPLOAD_load : Fld := ⟨575, 0x40600020, 0x0, 0, 0, 8, .ro, false, false, 0x0⟩
/-- `FPL_STAT`, R409. -/
def FPL_STAT_rej : Fld := ⟨576, 0x40600024, 0x0, 0, 16, 16, .rc, false, false, 0x0⟩
def FPL_STAT_cpl_drop : Fld := ⟨577, 0x40600024, 0x0, 0, 8, 8, .rc, false, false, 0x0⟩
/-- `FPL_EVT_SEQ`, R409. -/
def FPL_EVT_SEQ_seq : Fld := ⟨578, 0x40600030, 0x0, 0, 0, 32, .ro, false, false, 0x0⟩
/-- `FPL_EVT_STAT`, R409. -/
def FPL_EVT_STAT_ovf : Fld := ⟨579, 0x40600034, 0x0, 0, 16, 16, .rc, false, false, 0x0⟩
def FPL_EVT_STAT_lost : Fld := ⟨580, 0x40600034, 0x0, 0, 0, 16, .rc, false, false, 0x0⟩
/-- `FPL_SLOTn`, R409. -/
def FPL_SLOTn_stale_to : Fld := ⟨581, 0x40600040, 0x4, 0, 16, 16, .rw, true, true, 0x0⟩
def FPL_SLOTn_maxgap : Fld := ⟨582, 0x40600040, 0x4, 0, 12, 4, .rw, true, true, 0x3⟩
def FPL_SLOTn_en : Fld := ⟨583, 0x40600040, 0x4, 0, 8, 4, .rw, true, true, 0x0⟩
def FPL_SLOTn_src : Fld := ⟨584, 0x40600040, 0x4, 0, 4, 2, .rw, true, true, 0x0⟩
def FPL_SLOTn_stale_act : Fld := ⟨585, 0x40600040, 0x4, 0, 0, 1, .rw, true, true, 0x1⟩
/-- `FPL_SLOTST`, R409. -/
def FPL_SLOTST_e2e_cnt : Fld := ⟨586, 0x40600050, 0x0, 0, 16, 16, .rc, false, false, 0x0⟩
def FPL_SLOTST_stale : Fld := ⟨587, 0x40600050, 0x0, 0, 0, 16, .w1c, false, false, 0x0⟩
/-- `QPq_CFG`, R409. -/
def QPq_CFG_open : Fld := ⟨588, 0x40600100, 0x20, 0, 31, 1, .ro, false, false, 0x0⟩
def QPq_CFG_transport : Fld := ⟨589, 0x40600100, 0x20, 0, 28, 3, .ro, false, false, 0x0⟩
def QPq_CFG_priv : Fld := ⟨590, 0x40600100, 0x20, 0, 27, 1, .ro, false, false, 0x0⟩
def QPq_CFG_class : Fld := ⟨591, 0x40600100, 0x20, 0, 25, 2, .ro, false, false, 0x0⟩
def QPq_CFG_bulk : Fld := ⟨592, 0x40600100, 0x20, 0, 24, 1, .ro, false, false, 0x0⟩
def QPq_CFG_depth : Fld := ⟨593, 0x40600100, 0x20, 0, 20, 4, .ro, false, false, 0x0⟩
/-- `QPq_SQ`, R409. -/
def QPq_SQ_tail : Fld := ⟨594, 0x40600104, 0x20, 0, 16, 9, .rw, true, false, 0x0⟩
def QPq_SQ_head : Fld := ⟨595, 0x40600104, 0x20, 0, 0, 9, .ro, false, false, 0x0⟩
/-- `QPq_CQ`, R409. -/
def QPq_CQ_tail : Fld := ⟨596, 0x40600108, 0x20, 0, 16, 9, .ro, false, false, 0x0⟩
def QPq_CQ_head : Fld := ⟨597, 0x40600108, 0x20, 0, 0, 9, .rw, true, false, 0x0⟩
/-- `QPq_WAIT`, R409. -/
def QPq_WAIT_idle_to : Fld := ⟨598, 0x4060010c, 0x20, 0, 16, 16, .ro, false, false, 0x0⟩
def QPq_WAIT_qwait : Fld := ⟨599, 0x4060010c, 0x20, 0, 0, 16, .ro, false, false, 0x0⟩
/-- `QPq_STAT`, R409. -/
def QPq_STAT_wexp_cnt : Fld := ⟨600, 0x40600110, 0x20, 0, 24, 8, .rc, false, false, 0x0⟩
def QPq_STAT_qfull_cnt : Fld := ⟨601, 0x40600110, 0x20, 0, 16, 8, .rc, false, false, 0x0⟩
def QPq_STAT_pending : Fld := ⟨602, 0x40600110, 0x20, 0, 0, 9, .ro, false, false, 0x0⟩
/-- `QPq_BASE`, R409. -/
def QPq_BASE_addr : Fld := ⟨603, 0x40600114, 0x20, 0, 0, 32, .ro, false, false, 0x0⟩
/-- `HLK_CFG`, R410. -/
def HLK_CFG_rate : Fld := ⟨604, 0x40610000, 0x0, 0, 8, 2, .rw, true, true, 0x0⟩
def HLK_CFG_addr_src : Fld := ⟨605, 0x40610000, 0x0, 0, 4, 2, .rw, true, true, 0x0⟩
def HLK_CFG_en : Fld := ⟨606, 0x40610000, 0x0, 0, 0, 1, .rw, true, true, 0x1⟩
/-- `HLK_ADDR`, R410. -/
def HLK_ADDR_valid : Fld := ⟨607, 0x40610004, 0x0, 0, 7, 1, .ro, false, false, 0x0⟩
def HLK_ADDR_addr : Fld := ⟨608, 0x40610004, 0x0, 0, 0, 6, .ro, false, false, 0x0⟩
/-- `HLK_GROUP`, R410. -/
def HLK_GROUP_grp_0 : Fld := ⟨609, 0x40610008, 0x0, 0, 0, 8, .rw, true, true, 0x0⟩
def HLK_GROUP_grp_1 : Fld := ⟨610, 0x40610008, 0x0, 0, 8, 8, .rw, true, true, 0x0⟩
def HLK_GROUP_grp_2 : Fld := ⟨611, 0x40610008, 0x0, 0, 16, 8, .rw, true, true, 0x0⟩
def HLK_GROUP_grp_3 : Fld := ⟨612, 0x40610008, 0x0, 0, 24, 8, .rw, true, true, 0x0⟩
/-- `HLK_STAT`, R410. -/
def HLK_STAT_crc_err : Fld := ⟨613, 0x4061000c, 0x0, 0, 24, 8, .rc, false, false, 0x0⟩
def HLK_STAT_abort : Fld := ⟨614, 0x4061000c, 0x0, 0, 16, 8, .rc, false, false, 0x0⟩
def HLK_STAT_fast_rej : Fld := ⟨615, 0x4061000c, 0x0, 0, 8, 8, .rc, false, false, 0x0⟩
/-- `CANx_CTL`, R410. -/
def CANx_CTL_en : Fld := ⟨616, 0x40620000, 0x10000, 0, 31, 1, .rw, true, true, 0x1⟩
def CANx_CTL_ide : Fld := ⟨617, 0x40620000, 0x10000, 0, 30, 1, .rw, true, true, 0x0⟩
def CANx_CTL_base : Fld := ⟨618, 0x40620000, 0x10000, 0, 0, 29, .rw, true, true, 0x700⟩
/-- `CANx_NBT`, R410. -/
def CANx_NBT_brp : Fld := ⟨619, 0x40620004, 0x10000, 0, 24, 8, .rw, true, true, 0x0⟩
def CANx_NBT_tseg1 : Fld := ⟨620, 0x40620004, 0x10000, 0, 16, 8, .rw, true, true, 0x5f⟩
def CANx_NBT_tseg2 : Fld := ⟨621, 0x40620004, 0x10000, 0, 8, 8, .rw, true, true, 0x18⟩
def CANx_NBT_sjw : Fld := ⟨622, 0x40620004, 0x10000, 0, 0, 8, .rw, true, true, 0x18⟩
/-- `CANx_DBT`, R410. -/
def CANx_DBT_brp : Fld := ⟨623, 0x40620008, 0x10000, 0, 24, 8, .rw, true, true, 0x0⟩
def CANx_DBT_tseg1 : Fld := ⟨624, 0x40620008, 0x10000, 0, 16, 8, .rw, true, true, 0x17⟩
def CANx_DBT_tseg2 : Fld := ⟨625, 0x40620008, 0x10000, 0, 8, 8, .rw, true, true, 0x6⟩
def CANx_DBT_sjw : Fld := ⟨626, 0x40620008, 0x10000, 0, 0, 8, .rw, true, true, 0x6⟩
/-- `CANx_TDC`, R410. -/
def CANx_TDC_tdco : Fld := ⟨627, 0x4062000c, 0x10000, 0, 8, 8, .rw, true, true, 0x12⟩
def CANx_TDC_tdc_en : Fld := ⟨628, 0x4062000c, 0x10000, 0, 0, 1, .rw, true, true, 0x1⟩
/-- `CANx_STAT`, R410. -/
def CANx_STAT_rec : Fld := ⟨629, 0x40620010, 0x10000, 0, 24, 8, .ro, false, false, 0x0⟩
def CANx_STAT_tec : Fld := ⟨630, 0x40620010, 0x10000, 0, 16, 8, .ro, false, false, 0x0⟩
def CANx_STAT_state : Fld := ⟨631, 0x40620010, 0x10000, 0, 8, 2, .ro, false, false, 0x0⟩
def CANx_STAT_e2e_err : Fld := ⟨632, 0x40620010, 0x10000, 0, 0, 8, .rc, false, false, 0x0⟩
/-- `ETH_FP`, R410. -/
def ETH_FP_en : Fld := ⟨633, 0x40640000, 0x0, 0, 31, 1, .rw, true, true, 0x1⟩
def ETH_FP_port : Fld := ⟨634, 0x40640000, 0x0, 0, 0, 16, .rw, true, true, 0xbb80⟩
/-- `ETH_IP`, R410. -/
def ETH_IP_addr : Fld := ⟨635, 0x40640004, 0x0, 0, 0, 32, .rw, true, true, 0xc0a80060⟩
/-- `ETH_PTP_TS_LO`, R410. -/
def ETH_PTP_TS_LO_ts0 : Fld := ⟨636, 0x40640010, 0x0, 0, 0, 32, .ro, false, false, 0x0⟩
/-- `ETH_PTP_TS_HI`, R410. -/
def ETH_PTP_TS_HI_ts0 : Fld := ⟨637, 0x40640014, 0x0, 0, 0, 32, .ro, false, false, 0x0⟩
/-- `ETH_PTP_T_LO`, R410. -/
def ETH_PTP_T_LO_t0 : Fld := ⟨638, 0x40640018, 0x0, 0, 0, 32, .ro, false, false, 0x0⟩
/-- `ETH_PTP_T_HI`, R410. -/
def ETH_PTP_T_HI_t0 : Fld := ⟨639, 0x4064001c, 0x0, 0, 0, 32, .ro, false, false, 0x0⟩
/-- `ETH_PTP_RATE`, R410. -/
def ETH_PTP_RATE_rate : Fld := ⟨640, 0x40640020, 0x0, 0, 0, 32, .ro, false, false, 0x0⟩
/-- `ETH_PTP_STAT`, R410. -/
def ETH_PTP_STAT_valid : Fld := ⟨641, 0x40640024, 0x0, 0, 0, 1, .ro, false, false, 0x0⟩
/-- `SETTp_CFG`, R440. -/
def SETTp_CFG_en : Fld := ⟨642, 0x40700000, 0x10000, 0, 31, 1, .rw, true, true, 0x0⟩
def SETTp_CFG_miss_max : Fld := ⟨643, 0x40700000, 0x10000, 0, 24, 4, .rw, true, true, 0x3⟩
def SETTp_CFG_div : Fld := ⟨644, 0x40700000, 0x10000, 0, 20, 4, .rw, true, true, 0x1⟩
def SETTp_CFG_ch : Fld := ⟨645, 0x40700000, 0x10000, 0, 16, 2, .rw, true, true, 0x0⟩
def SETTp_CFG_offset : Fld := ⟨646, 0x40700000, 0x10000, 0, 0, 16, .rw, true, true, 0x0⟩
/-- `SETTp_GUARD`, R440. -/
def SETTp_GUARD_guard : Fld := ⟨647, 0x40700004, 0x10000, 0, 0, 16, .rw, true, true, 0x190⟩
/-- `SETTp_STAT`, R440. -/
def SETTp_STAT_mode : Fld := ⟨648, 0x40700008, 0x10000, 0, 30, 2, .ro, false, false, 0x0⟩
def SETTp_STAT_enum_busy : Fld := ⟨649, 0x40700008, 0x10000, 0, 29, 1, .ro, false, false, 0x0⟩
def SETTp_STAT_exhausted : Fld := ⟨650, 0x40700008, 0x10000, 0, 28, 1, .w1c, false, false, 0x0⟩
def SETTp_STAT_end_b : Fld := ⟨651, 0x40700008, 0x10000, 0, 16, 8, .ro, false, false, 0x0⟩
def SETTp_STAT_end_a : Fld := ⟨652, 0x40700008, 0x10000, 0, 8, 8, .ro, false, false, 0x0⟩
def SETTp_STAT_nodes : Fld := ⟨653, 0x40700008, 0x10000, 0, 0, 8, .ro, false, false, 0x0⟩
/-- `SETTp_TIME`, R440. -/
def SETTp_TIME_fast_dur : Fld := ⟨654, 0x4070000c, 0x10000, 0, 16, 16, .ro, false, false, 0x0⟩
def SETTp_TIME_loop : Fld := ⟨655, 0x4070000c, 0x10000, 0, 0, 16, .ro, false, false, 0x0⟩
/-- `SETTp_BUDGET`, R440. -/
def SETTp_BUDGET_d_line : Fld := ⟨656, 0x40700010, 0x10000, 0, 16, 16, .ro, false, false, 0x0⟩
def SETTp_BUDGET_d_ring : Fld := ⟨657, 0x40700010, 0x10000, 0, 0, 16, .ro, false, false, 0x0⟩
/-- `SETTp_CNT`, R440. -/
def SETTp_CNT_overrun : Fld := ⟨658, 0x40700014, 0x10000, 0, 24, 8, .rc, false, false, 0x0⟩
def SETTp_CNT_crc_err : Fld := ⟨659, 0x40700014, 0x10000, 0, 16, 8, .rc, false, false, 0x0⟩
def SETTp_CNT_breaks : Fld := ⟨660, 0x40700014, 0x10000, 0, 8, 8, .rc, false, false, 0x0⟩
/-- `SETT_NODEe_ID_LO`, R440. -/
def SETT_NODEe_ID_LO_id : Fld := ⟨661, 0x40701000, 0x20, 0, 0, 32, .ro, false, false, 0x0⟩
/-- `SETT_NODEe_ID_HI`, R440. -/
def SETT_NODEe_ID_HI_id : Fld := ⟨662, 0x40701004, 0x20, 0, 0, 32, .ro, false, false, 0x0⟩
/-- `SETT_NODEe_CFG`, R440. -/
def SETT_NODEe_CFG_present : Fld := ⟨663, 0x40701008, 0x20, 0, 31, 1, .ro, false, false, 0x0⟩
def SETT_NODEe_CFG_kind : Fld := ⟨664, 0x40701008, 0x20, 0, 28, 3, .ro, false, false, 0x0⟩
def SETT_NODEe_CFG_slot8 : Fld := ⟨665, 0x40701008, 0x20, 0, 27, 1, .ro, false, false, 0x0⟩
def SETT_NODEe_CFG_class : Fld := ⟨666, 0x40701008, 0x20, 0, 22, 2, .rw, true, true, 0x1⟩
def SETT_NODEe_CFG_side : Fld := ⟨667, 0x40701008, 0x20, 0, 21, 1, .rw, true, true, 0x0⟩
def SETT_NODEe_CFG_leg : Fld := ⟨668, 0x40701008, 0x20, 0, 18, 3, .rw, true, true, 0x0⟩
def SETT_NODEe_CFG_ch : Fld := ⟨669, 0x40701008, 0x20, 0, 16, 2, .rw, true, true, 0x0⟩
def SETT_NODEe_CFG_ch_en : Fld := ⟨670, 0x40701008, 0x20, 0, 15, 1, .rw, true, true, 0x0⟩
def SETT_NODEe_CFG_pos : Fld := ⟨671, 0x40701008, 0x20, 0, 0, 8, .ro, false, false, 0x0⟩
/-- `SETT_NODEe_STAT`, R440. -/
def SETT_NODEe_STAT_miss_cnt : Fld := ⟨672, 0x4070100c, 0x20, 0, 24, 8, .rc, false, false, 0x0⟩
def SETT_NODEe_STAT_consec : Fld := ⟨673, 0x4070100c, 0x20, 0, 20, 4, .ro, false, false, 0x0⟩
def SETT_NODEe_STAT_miss : Fld := ⟨674, 0x4070100c, 0x20, 0, 16, 1, .w1c, false, false, 0x0⟩
/-- `SETT_NODEe_LIVE0`, R440. -/
def SETT_NODEe_LIVE0_slot : Fld := ⟨675, 0x40701010, 0x20, 0, 0, 32, .ro, false, false, 0x0⟩
/-- `SETT_NODEe_LIVE1`, R440. -/
def SETT_NODEe_LIVE1_slot : Fld := ⟨676, 0x40701014, 0x20, 0, 0, 32, .ro, false, false, 0x0⟩
/-- `SETT_NODEe_LIVE_TS`, R440. -/
def SETT_NODEe_LIVE_TS_ts : Fld := ⟨677, 0x40701018, 0x20, 0, 0, 32, .ro, false, false, 0x0⟩
/-- `MTR_CFG`, R441. -/
def MTR_CFG_en : Fld := ⟨678, 0x40780000, 0x0, 0, 31, 1, .rw, true, true, 0x0⟩
def MTR_CFG_key_slot : Fld := ⟨679, 0x40780000, 0x0, 0, 24, 4, .rw, true, false, 0x0⟩
def MTR_CFG_pack_src : Fld := ⟨680, 0x40780000, 0x0, 0, 16, 1, .rw, true, false, 0x0⟩
def MTR_CFG_pack_port : Fld := ⟨681, 0x40780000, 0x0, 0, 15, 1, .rw, true, false, 0x0⟩
def MTR_CFG_pack_addr : Fld := ⟨682, 0x40780000, 0x0, 0, 0, 8, .rw, true, false, 0x0⟩
/-- `MTR_IN`, R441. -/
def MTR_IN_i_ain : Fld := ⟨683, 0x40780004, 0x0, 0, 8, 6, .rw, true, false, 0x0⟩
def MTR_IN_v_ain : Fld := ⟨684, 0x40780004, 0x0, 0, 0, 6, .rw, true, false, 0x0⟩
/-- `MTR_VLSB`, R441. -/
def MTR_VLSB_lsb : Fld := ⟨685, 0x40780008, 0x0, 0, 0, 32, .rw, true, false, 0x0⟩
/-- `MTR_ILSB`, R441. -/
def MTR_ILSB_lsb : Fld := ⟨686, 0x4078000c, 0x0, 0, 0, 32, .rw, true, false, 0x0⟩
/-- `MTR_VGAIN`, R441. -/
def MTR_VGAIN_gain : Fld := ⟨687, 0x40780010, 0x0, 0, 0, 32, .rw, true, false, 0x40000000⟩
/-- `MTR_IGAIN`, R441. -/
def MTR_IGAIN_gain : Fld := ⟨688, 0x40780014, 0x0, 0, 0, 32, .rw, true, false, 0x40000000⟩
/-- `MTR_OFS`, R441. -/
def MTR_OFS_i_ofs : Fld := ⟨689, 0x40780018, 0x0, 0, 16, 16, .rw, true, false, 0x0⟩
def MTR_OFS_v_ofs : Fld := ⟨690, 0x40780018, 0x0, 0, 0, 16, .rw, true, false, 0x0⟩
/-- `MTR_INT`, R441. -/
def MTR_INT_interval : Fld := ⟨691, 0x4078001c, 0x0, 0, 0, 16, .rw, true, true, 0x3c⟩
/-- `MTR_EPOS_LO`, R441. -/
def MTR_EPOS_LO_total : Fld := ⟨692, 0x40780020, 0x0, 0, 0, 32, .ro, false, false, 0x0⟩
/-- `MTR_EPOS_HI`, R441. -/
def MTR_EPOS_HI_total : Fld := ⟨693, 0x40780024, 0x0, 0, 0, 32, .ro, false, false, 0x0⟩
/-- `MTR_ENEG_LO`, R441. -/
def MTR_ENEG_LO_total : Fld := ⟨694, 0x40780028, 0x0, 0, 0, 32, .ro, false, false, 0x0⟩
/-- `MTR_ENEG_HI`, R441. -/
def MTR_ENEG_HI_total : Fld := ⟨695, 0x4078002c, 0x0, 0, 0, 32, .ro, false, false, 0x0⟩
/-- `MTR_QPOS_LO`, R441. -/
def MTR_QPOS_LO_total : Fld := ⟨696, 0x40780030, 0x0, 0, 0, 32, .ro, false, false, 0x0⟩
/-- `MTR_QPOS_HI`, R441. -/
def MTR_QPOS_HI_total : Fld := ⟨697, 0x40780034, 0x0, 0, 0, 32, .ro, false, false, 0x0⟩
/-- `MTR_QNEG_LO`, R441. -/
def MTR_QNEG_LO_total : Fld := ⟨698, 0x40780038, 0x0, 0, 0, 32, .ro, false, false, 0x0⟩
/-- `MTR_QNEG_HI`, R441. -/
def MTR_QNEG_HI_total : Fld := ⟨699, 0x4078003c, 0x0, 0, 0, 32, .ro, false, false, 0x0⟩
/-- `MTR_SEQ`, R441. -/
def MTR_SEQ_seq : Fld := ⟨700, 0x40780040, 0x0, 0, 0, 32, .ro, false, false, 0x0⟩
/-- `MTR_STAT`, R441. -/
def MTR_STAT_ret_valid : Fld := ⟨701, 0x40780044, 0x0, 0, 31, 1, .ro, false, false, 0x0⟩
def MTR_STAT_pack_unver : Fld := ⟨702, 0x40780044, 0x0, 0, 30, 1, .ro, false, false, 0x0⟩
def MTR_STAT_gap : Fld := ⟨703, 0x40780044, 0x0, 0, 29, 1, .w1c, false, false, 0x0⟩
def MTR_STAT_held : Fld := ⟨704, 0x40780044, 0x0, 0, 0, 16, .rc, false, false, 0x0⟩
/-- `MTR_PACKIDk`, R441. -/
def MTR_PACKIDk_id : Fld := ⟨705, 0x40780050, 0x4, 0, 0, 32, .rw, true, true, 0x0⟩
/-- `MTR_CURPACKk`, R441. -/
def MTR_CURPACKk_id : Fld := ⟨706, 0x40780060, 0x4, 0, 0, 32, .ro, false, false, 0x0⟩
/-- `MTR_RESTOREk`, R441. -/
def MTR_RESTOREk_rec : Fld := ⟨707, 0x40780080, 0x4, 0, 0, 32, .wod, true, false, 0x0⟩
/-- `MTR_RESTORE_GO`, R441. -/
def MTR_RESTORE_GO_go : Fld := ⟨708, 0x407800c0, 0x0, 0, 0, 1, .w1s, true, false, 0x0⟩
/-- `CVUc_CFG`, R441. -/
def CVUc_CFG_maxgap : Fld := ⟨709, 0x40790000, 0x40, 0, 8, 8, .rw, false, false, 0x1⟩
def CVUc_CFG_alive_mode : Fld := ⟨710, 0x40790000, 0x40, 0, 7, 1, .rw, false, false, 0x0⟩
def CVUc_CFG_alive_w : Fld := ⟨711, 0x40790000, 0x40, 0, 6, 1, .rw, false, false, 0x0⟩
def CVUc_CFG_refout : Fld := ⟨712, 0x40790000, 0x40, 0, 5, 1, .rw, false, false, 0x0⟩
def CVUc_CFG_refin : Fld := ⟨713, 0x40790000, 0x40, 0, 4, 1, .rw, false, false, 0x0⟩
def CVUc_CFG_poly : Fld := ⟨714, 0x40790000, 0x40, 0, 0, 3, .rw, false, false, 0x0⟩
/-- `CVUc_INIT_LO`, R441. -/
def CVUc_INIT_LO_init : Fld := ⟨715, 0x40790004, 0x40, 0, 0, 32, .rw, false, false, 0x0⟩
/-- `CVUc_INIT_HI`, R441. -/
def CVUc_INIT_HI_init : Fld := ⟨716, 0x40790008, 0x40, 0, 0, 32, .rw, false, false, 0x0⟩
/-- `CVUc_XOR_LO`, R441. -/
def CVUc_XOR_LO_xorout : Fld := ⟨717, 0x4079000c, 0x40, 0, 0, 32, .rw, false, false, 0x0⟩
/-- `CVUc_XOR_HI`, R441. -/
def CVUc_XOR_HI_xorout : Fld := ⟨718, 0x40790010, 0x40, 0, 0, 32, .rw, false, false, 0x0⟩
/-- `CVUc_CTL`, R441. -/
def CVUc_CTL_alive_clr : Fld := ⟨719, 0x40790014, 0x40, 0, 1, 1, .w1s, false, false, 0x0⟩
def CVUc_CTL_start : Fld := ⟨720, 0x40790014, 0x40, 0, 0, 1, .w1s, false, false, 0x0⟩
/-- `CVUc_DATA8`, R441. -/
def CVUc_DATA8_data : Fld := ⟨721, 0x40790018, 0x40, 0, 0, 8, .wo, false, false, 0x0⟩
/-- `CVUc_DATA16`, R441. -/
def CVUc_DATA16_data : Fld := ⟨722, 0x4079001c, 0x40, 0, 0, 16, .wo, false, false, 0x0⟩
/-- `CVUc_DATA32`, R441. -/
def CVUc_DATA32_data : Fld := ⟨723, 0x40790020, 0x40, 0, 0, 32, .wo, false, false, 0x0⟩
/-- `CVUc_RES_LO`, R441. -/
def CVUc_RES_LO_crc : Fld := ⟨724, 0x40790024, 0x40, 0, 0, 32, .ro, false, false, 0x0⟩
/-- `CVUc_RES_HI`, R441. -/
def CVUc_RES_HI_crc : Fld := ⟨725, 0x40790028, 0x40, 0, 0, 32, .ro, false, false, 0x0⟩
/-- `CVUc_ALIVE`, R441. -/
def CVUc_ALIVE_counter : Fld := ⟨726, 0x4079002c, 0x40, 0, 0, 8, .wo, false, false, 0x0⟩
/-- `CVUc_STAT`, R441. -/
def CVUc_STAT_alive : Fld := ⟨727, 0x40790030, 0x40, 0, 8, 2, .ro, false, false, 0x0⟩
def CVUc_STAT_last : Fld := ⟨728, 0x40790030, 0x40, 0, 0, 8, .ro, false, false, 0x0⟩
/-- `OWL_CFG`, R461. -/
def OWL_CFG_snap_log2 : Fld := ⟨729, 0x407c0000, 0x0, 0, 8, 4, .rw, true, true, 0xa⟩
def OWL_CFG_core_replay : Fld := ⟨730, 0x407c0000, 0x0, 0, 1, 1, .rw, true, false, 0x0⟩
def OWL_CFG_boot_arm : Fld := ⟨731, 0x407c0000, 0x0, 0, 0, 1, .rw, true, true, 0x0⟩
/-- `OWL_CTL`, R461. -/
def OWL_CTL_pre : Fld := ⟨732, 0x407c0004, 0x0, 0, 24, 8, .rw, true, false, 0x80⟩
def OWL_CTL_rp_abort : Fld := ⟨733, 0x407c0004, 0x0, 0, 4, 1, .w1s, true, false, 0x0⟩
def OWL_CTL_trig : Fld := ⟨734, 0x407c0004, 0x0, 0, 3, 1, .w1s, false, false, 0x0⟩
def OWL_CTL_mode : Fld := ⟨735, 0x407c0004, 0x0, 0, 1, 1, .rw, true, false, 0x0⟩
def OWL_CTL_arm : Fld := ⟨736, 0x407c0004, 0x0, 0, 0, 1, .w1s, true, false, 0x0⟩
/-- `OWL_TRIG_MASK`, R461. -/
def OWL_TRIG_MASK_mask : Fld := ⟨737, 0x407c0008, 0x0, 0, 0, 32, .rw, true, false, 0x1⟩
/-- `OWL_TRIG_EVT`, R461. -/
def OWL_TRIG_EVT_code : Fld := ⟨738, 0x407c000c, 0x0, 0, 0, 16, .rw, true, false, 0x0⟩
/-- `OWL_STAT`, R461. -/
def OWL_STAT_state : Fld := ⟨739, 0x407c0010, 0x0, 0, 29, 3, .ro, false, false, 0x0⟩
def OWL_STAT_wrapped : Fld := ⟨740, 0x407c0010, 0x0, 0, 28, 1, .ro, false, false, 0x0⟩
def OWL_STAT_wptr : Fld := ⟨741, 0x407c0010, 0x0, 0, 0, 19, .ro, false, false, 0x10⟩
/-- `OWL_OLDEST`, R461. -/
def OWL_OLDEST_idx : Fld := ⟨742, 0x407c0014, 0x0, 0, 0, 19, .ro, false, false, 0x10⟩
/-- `OWL_TRIG_PTR`, R461. -/
def OWL_TRIG_PTR_valid : Fld := ⟨743, 0x407c0018, 0x0, 0, 31, 1, .ro, false, false, 0x0⟩
def OWL_TRIG_PTR_idx : Fld := ⟨744, 0x407c0018, 0x0, 0, 0, 19, .ro, false, false, 0x0⟩
/-- `OWL_LOST`, R461. -/
def OWL_LOST_count : Fld := ⟨745, 0x407c001c, 0x0, 0, 0, 32, .rc, false, false, 0x0⟩
/-- `OWL_TRIG_TS_LO`, R461. -/
def OWL_TRIG_TS_LO_ts : Fld := ⟨746, 0x407c0020, 0x0, 0, 0, 32, .ro, false, false, 0x0⟩
/-- `OWL_TRIG_TS_HI`, R461. -/
def OWL_TRIG_TS_HI_ts : Fld := ⟨747, 0x407c0024, 0x0, 0, 0, 32, .ro, false, false, 0x0⟩
/-- `OWL_LOAD_IDX`, R461. -/
def OWL_LOAD_IDX_idx : Fld := ⟨748, 0x407c0030, 0x0, 0, 0, 19, .rw, true, false, 0x0⟩
/-- `OWL_LOAD_D0`, R461. -/
def OWL_LOAD_D0_data : Fld := ⟨749, 0x407c0034, 0x0, 0, 0, 32, .wod, true, false, 0x0⟩
/-- `OWL_LOAD_D1`, R461. -/
def OWL_LOAD_D1_data : Fld := ⟨750, 0x407c0038, 0x0, 0, 0, 32, .wod, true, false, 0x0⟩
/-- `OWL_LOAD_D2`, R461. -/
def OWL_LOAD_D2_data : Fld := ⟨751, 0x407c003c, 0x0, 0, 0, 8, .wod, true, false, 0x0⟩
/-- `OWL_RP_STAT`, R461. -/
def OWL_RP_STAT_result : Fld := ⟨752, 0x407c0040, 0x0, 0, 28, 4, .ro, false, false, 0x0⟩
def OWL_RP_STAT_running : Fld := ⟨753, 0x407c0040, 0x0, 0, 27, 1, .ro, false, false, 0x0⟩
def OWL_RP_STAT_div_cnt : Fld := ⟨754, 0x407c0040, 0x0, 0, 0, 16, .ro, false, false, 0x0⟩
/-- `OWL_RP_DIV_PER`, R461. -/
def OWL_RP_DIV_PER_period : Fld := ⟨755, 0x407c0044, 0x0, 0, 0, 32, .ro, false, false, 0x0⟩
/-- `OWL_RP_DIV_WORD`, R461. -/
def OWL_RP_DIV_WORD_kind : Fld := ⟨756, 0x407c0048, 0x0, 0, 29, 3, .ro, false, false, 0x0⟩
def OWL_RP_DIV_WORD_ch : Fld := ⟨757, 0x407c0048, 0x0, 0, 24, 2, .ro, false, false, 0x0⟩
def OWL_RP_DIV_WORD_idx : Fld := ⟨758, 0x407c0048, 0x0, 0, 0, 19, .ro, false, false, 0x0⟩
/-- `OWL_ETH_DST`, R461. -/
def OWL_ETH_DST_addr : Fld := ⟨759, 0x407c0050, 0x0, 0, 0, 32, .rw, true, true, 0x0⟩
/-- `OWL_ETH`, R461. -/
def OWL_ETH_go : Fld := ⟨760, 0x407c0054, 0x0, 0, 31, 1, .w1s, true, false, 0x0⟩
def OWL_ETH_busy : Fld := ⟨761, 0x407c0054, 0x0, 0, 30, 1, .ro, false, false, 0x0⟩
def OWL_ETH_port : Fld := ⟨762, 0x407c0054, 0x0, 0, 0, 16, .rw, true, true, 0xbb81⟩
/-- `OWL_DIGESTk`, R461. -/
def OWL_DIGESTk_digest : Fld := ⟨763, 0x407c0060, 0x4, 0, 0, 32, .ro, false, false, 0x0⟩
/-- `PWR_CTL`, R494. -/
def PWR_CTL_ign_filt : Fld := ⟨764, 0x40020000, 0x0, 0, 8, 8, .rw, true, true, 0x32⟩
def PWR_CTL_dis_at_shut : Fld := ⟨765, 0x40020000, 0x0, 0, 3, 1, .rw, true, true, 0x1⟩
def PWR_CTL_ign_en : Fld := ⟨766, 0x40020000, 0x0, 0, 2, 1, .rw, true, true, 0x1⟩
def PWR_CTL_shutdown : Fld := ⟨767, 0x40020000, 0x0, 0, 1, 1, .w1s, true, false, 0x0⟩
/-- `PWR_STAT`, R494. -/
def PWR_STAT_ready : Fld := ⟨768, 0x40020004, 0x0, 0, 31, 1, .ro, false, false, 0x0⟩
def PWR_STAT_start : Fld := ⟨769, 0x40020004, 0x0, 0, 29, 2, .ro, false, false, 0x0⟩
def PWR_STAT_bist_fail : Fld := ⟨770, 0x40020004, 0x0, 0, 28, 1, .ro, false, false, 0x0⟩
def PWR_STAT_prev_fail : Fld := ⟨771, 0x40020004, 0x0, 0, 27, 1, .w1c, false, false, 0x0⟩
def PWR_STAT_shut : Fld := ⟨772, 0x40020004, 0x0, 0, 24, 3, .ro, false, false, 0x0⟩
def PWR_STAT_keep_alive : Fld := ⟨773, 0x40020004, 0x0, 0, 9, 1, .ro, false, false, 0x1⟩
def PWR_STAT_ign : Fld := ⟨774, 0x40020004, 0x0, 0, 8, 1, .ro, false, false, 0x0⟩
def PWR_STAT_rst_cause : Fld := ⟨775, 0x40020004, 0x0, 0, 0, 3, .ro, false, false, 0x0⟩
/-- `PWR_RESET`, R494. -/
def PWR_RESET_key : Fld := ⟨776, 0x40020008, 0x0, 0, 0, 16, .wo, true, false, 0x0⟩
/-- `PWR_BIST_AGE`, R494. -/
def PWR_BIST_AGE_hours : Fld := ⟨777, 0x4002000c, 0x0, 0, 0, 16, .rw, true, true, 0xa8⟩
/-- `PWR_WAKE_TMR`, R494. -/
def PWR_WAKE_TMR_secs : Fld := ⟨778, 0x40020010, 0x0, 0, 0, 24, .rw, true, false, 0x0⟩
/-- `PWR_AON_TIME`, R494. -/
def PWR_AON_TIME_secs : Fld := ⟨779, 0x40020014, 0x0, 0, 0, 32, .ro, false, false, 0x0⟩
/-- `THM_TEMP`, R494. -/
def THM_TEMP_scv1 : Fld := ⟨780, 0x40030000, 0x0, 0, 16, 16, .ro, false, false, 0x0⟩
def THM_TEMP_cv7 : Fld := ⟨781, 0x40030000, 0x0, 0, 0, 16, .ro, false, false, 0x0⟩
/-- `THM_STAT`, R494. -/
def THM_STAT_no_comp : Fld := ⟨782, 0x40030004, 0x0, 0, 4, 1, .ro, false, false, 0x0⟩
def THM_STAT_stale : Fld := ⟨783, 0x40030004, 0x0, 0, 3, 1, .ro, false, false, 0x0⟩
def THM_STAT_level : Fld := ⟨784, 0x40030004, 0x0, 0, 0, 3, .ro, false, false, 0x0⟩
/-- `THM_CTL`, R494. -/
def THM_CTL_user_thr : Fld := ⟨785, 0x40030008, 0x0, 0, 16, 16, .rw, true, true, 0x780⟩
def THM_CTL_crit_prof_en : Fld := ⟨786, 0x40030008, 0x0, 0, 2, 1, .rw, true, true, 0x1⟩
def THM_CTL_crit_prof : Fld := ⟨787, 0x40030008, 0x0, 0, 0, 2, .rw, true, true, 0x3⟩
/-- `THM_MAX`, R494. -/
def THM_MAX_max : Fld := ⟨788, 0x4003000c, 0x0, 0, 0, 16, .rc, false, false, 0x8000⟩
/-- `BIST_CTL`, R494. -/
def BIST_CTL_target : Fld := ⟨789, 0x407e0000, 0x0, 0, 1, 7, .rw, true, false, 0x0⟩
def BIST_CTL_go : Fld := ⟨790, 0x407e0000, 0x0, 0, 0, 1, .w1s, true, false, 0x0⟩
/-- `BIST_STAT`, R494. -/
def BIST_STAT_running : Fld := ⟨791, 0x407e0004, 0x0, 0, 31, 1, .ro, false, false, 0x0⟩
def BIST_STAT_result : Fld := ⟨792, 0x407e0004, 0x0, 0, 24, 2, .ro, false, false, 0x0⟩
def BIST_STAT_fail : Fld := ⟨793, 0x407e0004, 0x0, 0, 0, 17, .ro, false, false, 0x0⟩
/-- `LCS_STATE`, R494. -/
def LCS_STATE_pending : Fld := ⟨794, 0x407f0000, 0x0, 0, 7, 1, .ro, false, false, 0x0⟩
def LCS_STATE_next : Fld := ⟨795, 0x407f0000, 0x0, 0, 4, 3, .ro, false, false, 0x0⟩
def LCS_STATE_dbg_open : Fld := ⟨796, 0x407f0000, 0x0, 0, 3, 1, .ro, false, false, 0x0⟩
def LCS_STATE_state : Fld := ⟨797, 0x407f0000, 0x0, 0, 0, 3, .ro, false, false, 0x0⟩
/-- `LCS_EPOCH`, R494. -/
def LCS_EPOCH_img : Fld := ⟨798, 0x407f0004, 0x0, 0, 16, 8, .ro, false, false, 0x0⟩
def LCS_EPOCH_advance : Fld := ⟨799, 0x407f0004, 0x0, 0, 8, 1, .w1s, true, false, 0x0⟩
def LCS_EPOCH_epoch : Fld := ⟨800, 0x407f0004, 0x0, 0, 0, 8, .ro, false, false, 0x0⟩
/-- `LCS_KEYS`, R494. -/
def LCS_KEYS_present : Fld := ⟨801, 0x407f0008, 0x0, 0, 16, 16, .ro, false, false, 0x0⟩
def LCS_KEYS_revoked : Fld := ⟨802, 0x407f0008, 0x0, 0, 0, 16, .ro, false, false, 0x0⟩
/-- `LCS_BOOT`, R494. -/
def LCS_BOOT_fallback : Fld := ⟨803, 0x407f000c, 0x0, 0, 1, 1, .ro, false, false, 0x0⟩
def LCS_BOOT_area : Fld := ⟨804, 0x407f000c, 0x0, 0, 0, 1, .ro, false, false, 0x0⟩
/-- `LCS_KPROG`, R494. -/
def LCS_KPROG_go : Fld := ⟨805, 0x407f0020, 0x0, 0, 31, 1, .w1s, true, false, 0x0⟩
def LCS_KPROG_attr : Fld := ⟨806, 0x407f0020, 0x0, 0, 8, 8, .rw, true, false, 0x0⟩
def LCS_KPROG_slot : Fld := ⟨807, 0x407f0020, 0x0, 0, 0, 4, .rw, true, false, 0x0⟩
/-- `LCS_KDATAk`, R494. -/
def LCS_KDATAk_data : Fld := ⟨808, 0x407f0024, 0x4, 0, 0, 32, .wod, true, false, 0x0⟩
/-- `CHn_PERIOD_CNT`, R28. -/
def CHn_PERIOD_CNT_count : Fld := ⟨809, 0x40240094, 0x100, 0, 0, 32, .ro, false, false, 0x0⟩
/-- `CLK_TS_LO`, R43. -/
def CLK_TS_LO_ts : Fld := ⟨810, 0x40010010, 0x0, 0, 0, 32, .ro, false, false, 0x0⟩
/-- `CLK_TS_HI`, R43. -/
def CLK_TS_HI_ts : Fld := ⟨811, 0x40010014, 0x0, 0, 0, 32, .ro, false, false, 0x0⟩
/-- `CLK_CKA_PHASE`, R41. -/
def CLK_CKA_PHASE_phase : Fld := ⟨812, 0x40010020, 0x0, 0, 0, 11, .ro, false, false, 0x0⟩
/-- `SPn_V_BASE`, R47. -/
def SPn_V_BASE_base : Fld := ⟨813, 0x40310044, 0x10000, 0, 0, 32, .rw, true, true, 0x0⟩
/-- `SPn_W_BASE`, R47. -/
def SPn_W_BASE_base : Fld := ⟨814, 0x40310048, 0x10000, 0, 0, 32, .rw, true, true, 0x0⟩
/-- `SYS_BUSERR_ADDR`, R75. -/
def SYS_BUSERR_ADDR_addr : Fld := ⟨815, 0x40000140, 0x0, 0, 0, 32, .ro, false, false, 0x0⟩
/-- `PLIC_PRIO`, R407. -/
def PLIC_PRIO_prio : Fld := ⟨816, 0x40008000, 0x4, 0, 0, 32, .rw, false, false, 0x0⟩
/-- `PLIC_PEND`, R407. -/
def PLIC_PEND_bits : Fld := ⟨817, 0x40008400, 0x4, 0, 0, 32, .ro, false, false, 0x0⟩
/-- `PLIC_EN`, R407. -/
def PLIC_EN_bits : Fld := ⟨818, 0x40008800, 0x20, 4, 0, 32, .rw, false, false, 0x0⟩
/-- `PLIC_THR`, R407. -/
def PLIC_THR_thr : Fld := ⟨819, 0x40009000, 0x10, 0, 0, 32, .rw, false, false, 0x0⟩
/-- `PLIC_CLAIM`, R407. -/
def PLIC_CLAIM_src : Fld := ⟨820, 0x40009004, 0x10, 0, 0, 32, .ro, false, false, 0x0⟩

/-- The registers of the sys group. -/
def sysRegs : List Reg :=
  [⟨"SYS_ID", 0x40000000, 1, 0x0, 1, 0, [SYS_ID_part, SYS_ID_grade, SYS_ID_major, SYS_ID_minor]⟩,
   ⟨"SYS_PROFILE", 0x40000010, 1, 0x0, 1, 0, [SYS_PROFILE_pending, SYS_PROFILE_cause, SYS_PROFILE_request, SYS_PROFILE_active]⟩,
   ⟨"CLK_STATUS", 0x40010000, 1, 0x0, 1, 0, [CLK_STATUS_phase_slip, CLK_STATUS_ckb_ok, CLK_STATUS_ckw_src, CLK_STATUS_xin_ok, CLK_STATUS_t_lock, CLK_STATUS_s_lock, CLK_STATUS_m_lock, CLK_STATUS_a_lock, CLK_STATUS_p_lock, CLK_STATUS_c_lock]⟩,
   ⟨"SYS_ECC_CTL", 0x40000100, 1, 0x0, 1, 0, [SYS_ECC_CTL_ce_thr]⟩,
   ⟨"SYS_ECC_CE", 0x40000110, 4, 0x4, 1, 0, [SYS_ECC_CE_count]⟩,
   ⟨"SYS_ECC_LAST", 0x40000120, 1, 0x0, 1, 0, [SYS_ECC_LAST_addr]⟩,
   ⟨"SYS_ECC_INFO", 0x40000124, 1, 0x0, 1, 0, [SYS_ECC_INFO_initiator, SYS_ECC_INFO_region, SYS_ECC_INFO_ue_cnt]⟩,
   ⟨"SYS_SCRUB_STAT", 0x40000130, 1, 0x0, 1, 0, [SYS_SCRUB_STAT_late, SYS_SCRUB_STAT_pos]⟩,
   ⟨"CLK_TS_LO", 0x40010010, 1, 0x0, 1, 0, [CLK_TS_LO_ts]⟩,
   ⟨"CLK_TS_HI", 0x40010014, 1, 0x0, 1, 0, [CLK_TS_HI_ts]⟩,
   ⟨"CLK_CKA_PHASE", 0x40010020, 1, 0x0, 1, 0, [CLK_CKA_PHASE_phase]⟩,
   ⟨"SYS_BUSERR_ADDR", 0x40000140, 1, 0x0, 1, 0, [SYS_BUSERR_ADDR_addr]⟩,
   ⟨"PLIC_PRIO", 0x40008000, 256, 0x4, 1, 0, [PLIC_PRIO_prio]⟩,
   ⟨"PLIC_PEND", 0x40008400, 8, 0x4, 1, 0, [PLIC_PEND_bits]⟩,
   ⟨"PLIC_EN", 0x40008800, 5, 0x20, 8, 4, [PLIC_EN_bits]⟩,
   ⟨"PLIC_THR", 0x40009000, 5, 0x10, 1, 0, [PLIC_THR_thr]⟩,
   ⟨"PLIC_CLAIM", 0x40009004, 5, 0x10, 1, 0, [PLIC_CLAIM_src]⟩]

/-- The registers of the ch group. -/
def chRegs : List Reg :=
  [⟨"CHn_TIMING", 0x40240080, 4, 0x100, 1, 0, [CHn_TIMING_dl_max, CHn_TIMING_commit_guard]⟩,
   ⟨"CHn_DLSTAT", 0x40240084, 4, 0x100, 1, 0, [CHn_DLSTAT_miss, CHn_DLSTAT_late, CHn_DLSTAT_cause, CHn_DLSTAT_miss_cnt, CHn_DLSTAT_consec]⟩,
   ⟨"CHn_BUDGET", 0x40240088, 4, 0x100, 1, 0, [CHn_BUDGET_lat_full, CHn_BUDGET_budget]⟩,
   ⟨"CHn_SLACK", 0x4024008c, 4, 0x100, 1, 0, [CHn_SLACK_slack_last]⟩,
   ⟨"CHn_SLACK_MIN", 0x40240090, 4, 0x100, 1, 0, [CHn_SLACK_MIN_slack_min]⟩,
   ⟨"CHn_CTL", 0x40240000, 4, 0x100, 1, 0, [CHn_CTL_six, CHn_CTL_dmode, CHn_CTL_src]⟩,
   ⟨"CHn_CARR", 0x40240004, 4, 0x100, 1, 0, [CHn_CARR_phase, CHn_CARR_sync, CHn_CARR_rl, CHn_CARR_mode, CHn_CARR_en]⟩,
   ⟨"CHn_PER", 0x40240008, 4, 0x100, 1, 0, [CHn_PER_per]⟩,
   ⟨"CHn_DUTYk", 0x40240010, 4, 0x100, 6, 4, [CHn_DUTYk_duty]⟩,
   ⟨"CHn_COMMIT", 0x40240030, 4, 0x100, 1, 0, [CHn_COMMIT_go, CHn_COMMIT_gen]⟩,
   ⟨"CHn_GEN", 0x40240034, 4, 0x100, 1, 0, [CHn_GEN_act_gen, CHn_GEN_pend_gen]⟩,
   ⟨"CHn_CSTAT", 0x40240038, 4, 0x100, 1, 0, [CHn_CSTAT_per_clamp_cnt, CHn_CSTAT_mismatch_cnt, CHn_CSTAT_permax, CHn_CSTAT_half, CHn_CSTAT_pend, CHn_CSTAT_mismatch, CHn_CSTAT_per_clamp, CHn_CSTAT_running]⟩,
   ⟨"CHn_CT", 0x4024003c, 4, 0x100, 1, 0, [CHn_CT_evt_kind, CHn_CT_evt_idx]⟩,
   ⟨"CHn_PERMIN", 0x40240040, 4, 0x100, 1, 0, [CHn_PERMIN_per_min]⟩,
   ⟨"CHn_PERMAX", 0x40240044, 4, 0x100, 1, 0, [CHn_PERMAX_per_max]⟩,
   ⟨"CHn_PERLAST", 0x40240048, 4, 0x100, 1, 0, [CHn_PERLAST_per]⟩,
   ⟨"CHn_STATE", 0x402400a0, 4, 0x100, 1, 0, [CHn_STATE_cause, CHn_STATE_sel, CHn_STATE_motoring_only, CHn_STATE_safety, CHn_STATE_pat, CHn_STATE_held, CHn_STATE_ss, CHn_STATE_prev, CHn_STATE_state]⟩,
   ⟨"CHn_SAFECFG", 0x402400a4, 4, 0x100, 1, 0, [CHn_SAFECFG_asc_hyst, CHn_SAFECFG_asc_resume, CHn_SAFECFG_asc_unk, CHn_SAFECFG_asc_pref, CHn_SAFECFG_ch_safe_ss, CHn_SAFECFG_stop_resume]⟩,
   ⟨"CHn_ASC_SPD", 0x402400a8, 4, 0x100, 1, 0, [CHn_ASC_SPD_asc_speed]⟩,
   ⟨"CHn_ASC_V", 0x402400ac, 4, 0x100, 1, 0, [CHn_ASC_V_asc_vmargin]⟩,
   ⟨"CHn_SEL_THR", 0x402400b0, 4, 0x100, 1, 0, [CHn_SEL_THR_thr]⟩,
   ⟨"CHn_STOP", 0x402400b4, 4, 0x100, 1, 0, [CHn_STOP_stop_eps, CHn_STOP_stop_ramp]⟩,
   ⟨"CHn_SWFAIL", 0x402400b8, 4, 0x100, 1, 0, [CHn_SWFAIL_ls, CHn_SWFAIL_hs]⟩,
   ⟨"CHn_OC", 0x402400bc, 4, 0x100, 1, 0, [CHn_OC_trip_lines, CHn_OC_cyc_lines]⟩,
   ⟨"CHn_OC_FLT", 0x402400c0, 4, 0x100, 1, 0, [CHn_OC_FLT_cyc_max, CHn_OC_FLT_trip_flt]⟩,
   ⟨"CHn_OCSTAT", 0x402400c4, 4, 0x100, 1, 0, [CHn_OCSTAT_cyc_cnt, CHn_OCSTAT_cut_now, CHn_OCSTAT_oc_trip, CHn_OCSTAT_cyc_run]⟩,
   ⟨"CHn_VDC_SCALE", 0x402400c8, 4, 0x100, 1, 0, [CHn_VDC_SCALE_scale]⟩,
   ⟨"CHn_VDC_OFS", 0x402400cc, 4, 0x100, 1, 0, [CHn_VDC_OFS_ofs]⟩,
   ⟨"CHn_PERIOD_CNT", 0x40240094, 4, 0x100, 1, 0, [CHn_PERIOD_CNT_count]⟩]

/-- The registers of the sp group. -/
def spRegs : List Reg :=
  [⟨"SPn_I_BASE", 0x40310040, 4, 0x10000, 1, 0, [SPn_I_BASE_base]⟩,
   ⟨"SPn_SAT", 0x40310050, 4, 0x10000, 1, 0, [SPn_SAT_first_period, SPn_SAT_first_stage, SPn_SAT_modulate, SPn_SAT_limit, SPn_SAT_control, SPn_SAT_correct, SPn_SAT_predict, SPn_SAT_transform]⟩,
   ⟨"LTH_SLOT_STAT", 0x40300010, 1, 0x0, 1, 0, [LTH_SLOT_STAT_abandon, LTH_SLOT_STAT_sat]⟩,
   ⟨"SPn_CTL", 0x40310000, 4, 0x10000, 1, 0, [SPn_CTL_pg_en, SPn_CTL_x0_load, SPn_CTL_spec, SPn_CTL_spec_dis]⟩,
   ⟨"SPn_XFORM", 0x40310004, 4, 0x10000, 1, 0, [SPn_XFORM_vdc_en, SPn_XFORM_vdc, SPn_XFORM_mode, SPn_XFORM_pc, SPn_XFORM_pb, SPn_XFORM_pa]⟩,
   ⟨"SPn_PER", 0x40310008, 4, 0x10000, 1, 0, [SPn_PER_per]⟩,
   ⟨"SPn_STEP", 0x4031000c, 4, 0x10000, 1, 0, [SPn_STEP_step_inact, SPn_STEP_step_act]⟩,
   ⟨"SPn_BANK", 0x40310010, 4, 0x10000, 1, 0, [SPn_BANK_int_frz, SPn_BANK_fb, SPn_BANK_seal_busy, SPn_BANK_seal_req, SPn_BANK_bumpless, SPn_BANK_seal_b, SPn_BANK_seal_a, SPn_BANK_swap, SPn_BANK_active]⟩,
   ⟨"SPn_BANK_CRC_A", 0x40310014, 4, 0x10000, 1, 0, [SPn_BANK_CRC_A_crc]⟩,
   ⟨"SPn_BANK_CRC_B", 0x40310018, 4, 0x10000, 1, 0, [SPn_BANK_CRC_B_crc]⟩,
   ⟨"SPn_SPEC_ACC", 0x4031001c, 4, 0x10000, 1, 0, [SPn_SPEC_ACC_count]⟩,
   ⟨"SPn_SPEC_REJ", 0x40310020, 4, 0x10000, 1, 0, [SPn_SPEC_REJ_swap, SPn_SPEC_REJ_sat, SPn_SPEC_REJ_innov]⟩,
   ⟨"SPn_SPEC_LAST", 0x40310024, 4, 0x10000, 1, 0, [SPn_SPEC_LAST_period, SPn_SPEC_LAST_meas, SPn_SPEC_LAST_cause]⟩,
   ⟨"SPn_FB", 0x40310028, 4, 0x10000, 1, 0, [SPn_FB_fb_hold, SPn_FB_frz_n, SPn_FB_miss_n, SPn_FB_act]⟩,
   ⟨"SPn_FBSTAT", 0x4031002c, 4, 0x10000, 1, 0, [SPn_FBSTAT_hold_left, SPn_FBSTAT_expired, SPn_FBSTAT_hold, SPn_FBSTAT_absent, SPn_FBSTAT_lost]⟩,
   ⟨"SPn_MISS", 0x40310030, 4, 0x10000, 1, 0, [SPn_MISS_miss_cnt, SPn_MISS_miss_now]⟩,
   ⟨"SPn_OSC_CFG", 0x40310060, 4, 0x10000, 1, 0, [SPn_OSC_CFG_win, SPn_OSC_CFG_en, SPn_OSC_CFG_resp, SPn_OSC_CFG_kind, SPn_OSC_CFG_index]⟩,
   ⟨"SPn_OSC_N", 0x40310064, 4, 0x10000, 1, 0, [SPn_OSC_N_n_max, SPn_OSC_N_n_min]⟩,
   ⟨"SPn_OSC_STAT", 0x40310068, 4, 0x10000, 1, 0, [SPn_OSC_STAT_osc_cnt, SPn_OSC_STAT_osc, SPn_OSC_STAT_last_cnt]⟩,
   ⟨"SPn_PG_STAT", 0x4031006c, 4, 0x10000, 1, 0, [SPn_PG_STAT_busy]⟩,
   ⟨"SPn_FLD_CTL", 0x40310100, 4, 0x10000, 1, 0, [SPn_FLD_CTL_ipd_en, SPn_FLD_CTL_rec_en, SPn_FLD_CTL_ke_en, SPn_FLD_CTL_lr_en, SPn_FLD_CTL_obs_en, SPn_FLD_CTL_fw_en, SPn_FLD_CTL_ff_en, SPn_FLD_CTL_ref_torque, SPn_FLD_CTL_ovm, SPn_FLD_CTL_asrc, SPn_FLD_CTL_mode]⟩,
   ⟨"SPn_FLD_STAT", 0x40310104, 4, 0x10000, 1, 0, [SPn_FLD_STAT_rec_cnt, SPn_FLD_STAT_pll_lock, SPn_FLD_STAT_ovm_active, SPn_FLD_STAT_fw_active, SPn_FLD_STAT_fw_limit, SPn_FLD_STAT_ke_abn, SPn_FLD_STAT_locked, SPn_FLD_STAT_obs_lost, SPn_FLD_STAT_obs_valid, SPn_FLD_STAT_task, SPn_FLD_STAT_engine]⟩,
   ⟨"SPn_MACH", 0x40310108, 4, 0x10000, 1, 0, [SPn_MACH_pp]⟩,
   ⟨"SPn_PSI", 0x4031010c, 4, 0x10000, 1, 0, [SPn_PSI_value]⟩,
   ⟨"SPn_LD", 0x40310110, 4, 0x10000, 1, 0, [SPn_LD_value]⟩,
   ⟨"SPn_LQ", 0x40310114, 4, 0x10000, 1, 0, [SPn_LQ_value]⟩,
   ⟨"SPn_RS", 0x40310118, 4, 0x10000, 1, 0, [SPn_RS_value]⟩,
   ⟨"SPn_IMAX", 0x4031011c, 4, 0x10000, 1, 0, [SPn_IMAX_imax]⟩,
   ⟨"SPn_ANG_OFS", 0x40310120, 4, 0x10000, 1, 0, [SPn_ANG_OFS_meas_ofs, SPn_ANG_OFS_u_adv]⟩,
   ⟨"SPn_FW", 0x40310124, 4, 0x10000, 1, 0, [SPn_FW_fw_start, SPn_FW_kp_fw]⟩,
   ⟨"SPn_FW_KI", 0x40310128, 4, 0x10000, 1, 0, [SPn_FW_KI_ki_fw]⟩,
   ⟨"SPn_FW_MIN", 0x4031012c, 4, 0x10000, 1, 0, [SPn_FW_MIN_id_fw_min]⟩,
   ⟨"SPn_OBS", 0x40310130, 4, 0x10000, 1, 0, [SPn_OBS_obs_n, SPn_OBS_trk_lim, SPn_OBS_bw]⟩,
   ⟨"SPn_OBS_LIM", 0x40310134, 4, 0x10000, 1, 0, [SPn_OBS_LIM_res_lim]⟩,
   ⟨"SPn_OBS_MIN", 0x40310138, 4, 0x10000, 1, 0, [SPn_OBS_MIN_obs_min]⟩,
   ⟨"SPn_REC", 0x40310140, 4, 0x10000, 1, 0, [SPn_REC_recap_n, SPn_REC_probe, SPn_REC_settle]⟩,
   ⟨"SPn_REC_I", 0x40310144, 4, 0x10000, 1, 0, [SPn_REC_I_i_zero, SPn_REC_I_i_probe]⟩,
   ⟨"SPn_DTC", 0x40310148, 4, 0x10000, 1, 0, [SPn_DTC_t_band, SPn_DTC_psi_band]⟩,
   ⟨"SPn_DTC_CFG", 0x4031014c, 4, 0x10000, 1, 0, [SPn_DTC_CFG_seq, SPn_DTC_CFG_dec_min]⟩,
   ⟨"SPn_LR", 0x40310150, 4, 0x10000, 1, 0, [SPn_LR_lr_torq, SPn_LR_lr_angle]⟩,
   ⟨"SPn_LR_T", 0x40310154, 4, 0x10000, 1, 0, [SPn_LR_T_lr_time, SPn_LR_T_lr_current]⟩,
   ⟨"SPn_KE", 0x40310158, 4, 0x10000, 1, 0, [SPn_KE_ke_tol, SPn_KE_ke_id_band]⟩,
   ⟨"SPn_KE_SPD", 0x4031015c, 4, 0x10000, 1, 0, [SPn_KE_SPD_ke_min]⟩,
   ⟨"SPn_KE_T", 0x40310160, 4, 0x10000, 1, 0, [SPn_KE_T_ke_time, SPn_KE_T_ke_derate]⟩,
   ⟨"SPn_FORCE", 0x40310164, 4, 0x10000, 1, 0, [SPn_FORCE_freq]⟩,
   ⟨"SPn_GRID", 0x40310168, 4, 0x10000, 1, 0, [SPn_GRID_pll_bw, SPn_GRID_gc, SPn_GRID_gb, SPn_GRID_ga, SPn_GRID_ptp_align, SPn_GRID_f_nom]⟩,
   ⟨"SPn_GRID_DROOP", 0x4031016c, 4, 0x10000, 1, 0, [SPn_GRID_DROOP_mp, SPn_GRID_DROOP_mq]⟩,
   ⟨"SPn_GRID_BAND", 0x40310170, 4, 0x10000, 1, 0, [SPn_GRID_BAND_f_hi, SPn_GRID_BAND_f_lo]⟩,
   ⟨"SPn_ANG_M", 0x40310180, 4, 0x10000, 1, 0, [SPn_ANG_M_angle]⟩,
   ⟨"SPn_ANG_U", 0x40310184, 4, 0x10000, 1, 0, [SPn_ANG_U_angle]⟩,
   ⟨"SPn_OBS_ANG", 0x40310188, 4, 0x10000, 1, 0, [SPn_OBS_ANG_angle]⟩,
   ⟨"SPn_OBS_SPD", 0x4031018c, 4, 0x10000, 1, 0, [SPn_OBS_SPD_speed]⟩,
   ⟨"SPn_FW_ID", 0x40310190, 4, 0x10000, 1, 0, [SPn_FW_ID_id_fw]⟩,
   ⟨"SPn_KE_EST", 0x40310194, 4, 0x10000, 1, 0, [SPn_KE_EST_psi_f]⟩,
   ⟨"SPn_GRID_F", 0x40310198, 4, 0x10000, 1, 0, [SPn_GRID_F_freq]⟩,
   ⟨"SPn_TLIM_EFF", 0x4031019c, 4, 0x10000, 1, 0, [SPn_TLIM_EFF_i_lim, SPn_TLIM_EFF_t_lim]⟩,
   ⟨"SPn_SIX_OFS", 0x403101a0, 4, 0x10000, 1, 0, [SPn_SIX_OFS_ofs]⟩,
   ⟨"SPn_V_BASE", 0x40310044, 4, 0x10000, 1, 0, [SPn_V_BASE_base]⟩,
   ⟨"SPn_W_BASE", 0x40310048, 4, 0x10000, 1, 0, [SPn_W_BASE_base]⟩]

/-- The registers of the cvb group. -/
def cvbRegs : List Reg :=
  [⟨"CVB_CTL", 0x40100000, 1, 0x0, 1, 0, [CVB_CTL_bgcal_period, CVB_CTL_bgcal_en]⟩,
   ⟨"CVB_OW_CTL", 0x40100010, 1, 0x0, 1, 0, [CVB_OW_CTL_ow_thr, CVB_OW_CTL_dwell, CVB_OW_CTL_period]⟩,
   ⟨"CVc_CFG", 0x40100100, 8, 0x40, 1, 0, [CVc_CFG_mux_settle, CVc_CFG_partner_en, CVc_CFG_ref_en, CVc_CFG_ref_mode, CVc_CFG_pwr]⟩,
   ⟨"CVc_IDLE", 0x40100104, 8, 0x40, 1, 0, [CVc_IDLE_idle_down]⟩,
   ⟨"CVc_STAT", 0x40100108, 8, 0x40, 1, 0, [CVc_STAT_ref_ready, CVc_STAT_cur_input, CVc_STAT_state]⟩,
   ⟨"CVc_CAL", 0x4010010c, 8, 0x40, 1, 0, [CVc_CAL_full_busy, CVc_CAL_bg_busy, CVc_CAL_ok, CVc_CAL_bg_slice, CVc_CAL_full]⟩,
   ⟨"CVc_INJk", 0x40100110, 8, 0x40, 4, 4, [CVc_INJk_start, CVc_INJk_urgent, CVc_INJk_shift, CVc_INJk_log2n, CVc_INJk_input]⟩,
   ⟨"CVc_INJRk", 0x40100120, 8, 0x40, 4, 4, [CVc_INJRk_flags, CVc_INJRk_new, CVc_INJRk_value]⟩,
   ⟨"CVc_IDLESCAN", 0x40100130, 8, 0x40, 1, 0, [CVc_IDLESCAN_dwell, CVc_IDLESCAN_mask]⟩,
   ⟨"CVc_TRIM", 0x40100134, 8, 0x40, 1, 0, [CVc_TRIM_gain, CVc_TRIM_offset]⟩,
   ⟨"CMPi_THR", 0x40100800, 48, 0x10, 1, 0, [CMPi_THR_hi, CMPi_THR_lo]⟩,
   ⟨"CMPi_CFG", 0x40100804, 48, 0x10, 1, 0, [CMPi_CFG_en, CMPi_CFG_ow_cur, CMPi_CFG_ow_periodic, CMPi_CFG_hyst, CMPi_CFG_filt]⟩,
   ⟨"CMPi_STAT", 0x40100808, 48, 0x10, 1, 0, [CMPi_STAT_ow, CMPi_STAT_lo_sticky, CMPi_STAT_hi_sticky, CMPi_STAT_lo_out, CMPi_STAT_hi_out]⟩]

/-- The registers of the seq group. -/
def seqRegs : List Reg :=
  [⟨"SEQn_CTL", 0x40110000, 16, 0x200, 1, 0, [SEQn_CTL_nsteps, SEQn_CTL_policy, SEQn_CTL_en]⟩,
   ⟨"SEQn_TRIG", 0x40110004, 16, 0x200, 1, 0, [SEQn_TRIG_offset, SEQn_TRIG_src]⟩,
   ⟨"SEQn_OVR", 0x40110008, 16, 0x200, 1, 0, [SEQn_OVR_count]⟩,
   ⟨"SEQn_STAT", 0x4011000c, 16, 0x200, 1, 0, [SEQn_STAT_queued, SEQn_STAT_running, SEQn_STAT_last_step]⟩,
   ⟨"SEQn_TRIG_TS_LO", 0x40110010, 16, 0x200, 1, 0, [SEQn_TRIG_TS_LO_ts]⟩,
   ⟨"SEQn_TRIG_TS_HI", 0x40110014, 16, 0x200, 1, 0, [SEQn_TRIG_TS_HI_ts]⟩,
   ⟨"SEQn_SWTRIG", 0x40110018, 16, 0x200, 1, 0, [SEQn_SWTRIG_go]⟩,
   ⟨"SEQn_STEPk_A", 0x40110080, 16, 0x200, 16, 8, [SEQn_STEPk_A_shift, SEQn_STEPk_A_log2n, SEQn_STEPk_A_input, SEQn_STEPk_A_conv]⟩,
   ⟨"SEQn_STEPk_B", 0x40110084, 16, 0x200, 16, 8, [SEQn_STEPk_B_sp_en, SEQn_STEPk_B_sp_ch, SEQn_STEPk_B_sp_meas, SEQn_STEPk_B_open_dly]⟩,
   ⟨"SEQn_RESk", 0x40110100, 16, 0x200, 16, 8, [SEQn_RESk_flags, SEQn_RESk_new, SEQn_RESk_value]⟩,
   ⟨"SEQn_RCLOSEk", 0x40110104, 16, 0x200, 16, 8, [SEQn_RCLOSEk_ts]⟩,
   ⟨"SEQ_TTt_CTL", 0x40112000, 4, 0x10, 1, 0, [SEQ_TTt_CTL_ch, SEQ_TTt_CTL_align, SEQ_TTt_CTL_en]⟩,
   ⟨"SEQ_TTt_PER", 0x40112004, 4, 0x10, 1, 0, [SEQ_TTt_PER_per]⟩]

/-- The registers of the pif group. -/
def pifRegs : List Reg :=
  [⟨"PIFn_CTL", 0x40180000, 4, 0x10000, 1, 0, [PIFn_CTL_dir_inv, PIFn_CTL_trig_sel, PIFn_CTL_src_restore, PIFn_CTL_fb_en, PIFn_CTL_z_corr, PIFn_CTL_z_en, PIFn_CTL_sec_src, PIFn_CTL_pri_src, PIFn_CTL_en]⟩,
   ⟨"PIFn_GEOM", 0x40180004, 4, 0x10000, 1, 0, [PIFn_GEOM_pp, PIFn_GEOM_cpr]⟩,
   ⟨"PIFn_AOFS", 0x40180008, 4, 0x10000, 1, 0, [PIFn_AOFS_aofs]⟩,
   ⟨"PIFn_FILT", 0x4018000c, 4, 0x10000, 1, 0, [PIFn_FILT_noisy_thr, PIFn_FILT_dis_time, PIFn_FILT_min_edge]⟩,
   ⟨"PIFn_ZCFG", 0x40180010, 4, 0x10000, 1, 0, [PIFn_ZCFG_z_gate_en, PIFn_ZCFG_z_gate, PIFn_ZCFG_z_limit, PIFn_ZCFG_z_tol]⟩,
   ⟨"PIFn_ZEXP", 0x40180014, 4, 0x10000, 1, 0, [PIFn_ZEXP_z_exp]⟩,
   ⟨"PIFn_ZSTAT", 0x40180018, 4, 0x10000, 1, 0, [PIFn_ZSTAT_referenced, PIFn_ZSTAT_dev_cnt, PIFn_ZSTAT_z_dev]⟩,
   ⟨"PIFn_EDGE", 0x4018001c, 4, 0x10000, 1, 0, [PIFn_EDGE_quad_cnt, PIFn_EDGE_noisy, PIFn_EDGE_wire, PIFn_EDGE_edge_fault_cnt]⟩,
   ⟨"PIFn_SPDCFG", 0x40180020, 4, 0x10000, 1, 0, [PIFn_SPDCFG_spd_timeout, PIFn_SPDCFG_dir_band, PIFn_SPDCFG_spd_edges]⟩,
   ⟨"PIFn_POS", 0x40180024, 4, 0x10000, 1, 0, [PIFn_POS_count]⟩,
   ⟨"PIFn_REVPOS", 0x40180028, 4, 0x10000, 1, 0, [PIFn_REVPOS_rev_pos]⟩,
   ⟨"PIFn_SPD", 0x4018002c, 4, 0x10000, 1, 0, [PIFn_SPD_speed]⟩,
   ⟨"PIFn_ANGLE", 0x40180030, 4, 0x10000, 1, 0, [PIFn_ANGLE_angle]⟩,
   ⟨"PIFn_STS_LO", 0x40180034, 4, 0x10000, 1, 0, [PIFn_STS_LO_ts]⟩,
   ⟨"PIFn_STS_HI", 0x40180038, 4, 0x10000, 1, 0, [PIFn_STS_HI_ts]⟩,
   ⟨"PIFn_STAT", 0x4018003c, 4, 0x10000, 1, 0, [PIFn_STAT_pos_lost, PIFn_STAT_active, PIFn_STAT_dir, PIFn_STAT_spd_valid]⟩,
   ⟨"PIFn_FSTAT", 0x40180040, 4, 0x10000, 1, 0, [PIFn_FSTAT_ser_warn, PIFn_FSTAT_sec_fault, PIFn_FSTAT_pri_fault, PIFn_FSTAT_frozen_sec, PIFn_FSTAT_frozen_pri, PIFn_FSTAT_ser_err, PIFn_FSTAT_rsv_amp, PIFn_FSTAT_rsv_gap, PIFn_FSTAT_hall_invalid, PIFn_FSTAT_hall_seq, PIFn_FSTAT_z_missing, PIFn_FSTAT_z_limit, PIFn_FSTAT_wire]⟩,
   ⟨"PIFn_HALL", 0x40180050, 4, 0x10000, 1, 0, [PIFn_HALL_seq_max, PIFn_HALL_map]⟩,
   ⟨"PIFn_HALL_OFS", 0x40180054, 4, 0x10000, 1, 0, [PIFn_HALL_OFS_ofs]⟩,
   ⟨"PIFn_EXC", 0x40180060, 4, 0x10000, 1, 0, [PIFn_EXC_amp, PIFn_EXC_en, PIFn_EXC_freq]⟩,
   ⟨"PIFn_RSV", 0x40180064, 4, 0x10000, 1, 0, [PIFn_RSV_ratio, PIFn_RSV_cos_ain, PIFn_RSV_sin_ain]⟩,
   ⟨"PIFn_RSV_PH", 0x40180068, 4, 0x10000, 1, 0, [PIFn_RSV_PH_phase]⟩,
   ⟨"PIFn_RSV_AMP", 0x4018006c, 4, 0x10000, 1, 0, [PIFn_RSV_AMP_amp_hi, PIFn_RSV_AMP_amp_lo]⟩,
   ⟨"PIFn_SER", 0x40180070, 4, 0x10000, 1, 0, [PIFn_SER_err_max, PIFn_SER_parity, PIFn_SER_gray, PIFn_SER_clk_div, PIFn_SER_st_bits, PIFn_SER_pos_bits]⟩,
   ⟨"PIFn_SER_TIM", 0x40180074, 4, 0x10000, 1, 0, [PIFn_SER_TIM_sync_to, PIFn_SER_TIM_gap, PIFn_SER_TIM_ser_lat]⟩,
   ⟨"PIFn_SER_TRIG", 0x40180078, 4, 0x10000, 1, 0, [PIFn_SER_TRIG_offset, PIFn_SER_TRIG_src]⟩,
   ⟨"PIFn_SER_STAT", 0x4018007c, 4, 0x10000, 1, 0, [PIFn_SER_STAT_ovr_cnt, PIFn_SER_STAT_crc_err_cnt, PIFn_SER_STAT_line_dly]⟩,
   ⟨"PIFn_FRZ", 0x40180080, 4, 0x10000, 1, 0, [PIFn_FRZ_frz_band, PIFn_FRZ_frz_n]⟩,
   ⟨"PIFn_FRZ_SPD", 0x40180084, 4, 0x10000, 1, 0, [PIFn_FRZ_SPD_frz_speed]⟩,
   ⟨"PIFn_LATCH", 0x40180088, 4, 0x10000, 1, 0, [PIFn_LATCH_offset]⟩,
   ⟨"PIFn_IRQ_EN", 0x4018008c, 4, 0x10000, 1, 0, [PIFn_IRQ_EN_en]⟩,
   ⟨"PIFn_IRQ", 0x40180090, 4, 0x10000, 1, 0, [PIFn_IRQ_fallback, PIFn_IRQ_fault, PIFn_IRQ_index, PIFn_IRQ_dir_chg]⟩,
   ⟨"ENCO_CTL", 0x40180200, 1, 0x0, 1, 0, [ENCO_CTL_cpr_out, ENCO_CTL_div, ENCO_CTL_en, ENCO_CTL_src]⟩,
   ⟨"ENCO_STAT", 0x40180204, 1, 0x0, 1, 0, [ENCO_STAT_lag]⟩]

/-- The registers of the leg group. -/
def legRegs : List Reg :=
  [⟨"LEGk_CFG", 0x40200000, 16, 0x40, 1, 0, [LEGk_CFG_out, LEGk_CFG_minpw_pol, LEGk_CFG_pol_l, LEGk_CFG_pol_h]⟩,
   ⟨"LEGk_DTH", 0x40200004, 16, 0x40, 1, 0, [LEGk_DTH_dt_h]⟩,
   ⟨"LEGk_DTL", 0x40200008, 16, 0x40, 1, 0, [LEGk_DTL_dt_l]⟩,
   ⟨"LEGk_MINPW", 0x4020000c, 16, 0x40, 1, 0, [LEGk_MINPW_minpw]⟩,
   ⟨"LEGk_STAT", 0x40200010, 16, 0x40, 1, 0, [LEGk_STAT_drop_cnt, LEGk_STAT_stretch_cnt, LEGk_STAT_source, LEGk_STAT_latched, LEGk_STAT_gl, LEGk_STAT_gh]⟩,
   ⟨"LEGk_GEN", 0x40200014, 16, 0x40, 1, 0, [LEGk_GEN_act_gen, LEGk_GEN_pend_gen]⟩,
   ⟨"LEGk_CSTAT", 0x40200018, 16, 0x40, 1, 0, [LEGk_CSTAT_per_clamp_cnt, LEGk_CSTAT_mismatch_cnt, LEGk_CSTAT_permax, LEGk_CSTAT_half, LEGk_CSTAT_pend, LEGk_CSTAT_mismatch, LEGk_CSTAT_per_clamp, LEGk_CSTAT_running]⟩,
   ⟨"LEGk_CARR", 0x40200020, 16, 0x40, 1, 0, [LEGk_CARR_phase, LEGk_CARR_sync_ch, LEGk_CARR_sync, LEGk_CARR_rl, LEGk_CARR_dmode, LEGk_CARR_mode, LEGk_CARR_src, LEGk_CARR_en]⟩,
   ⟨"LEGk_PER", 0x40200024, 16, 0x40, 1, 0, [LEGk_PER_per]⟩,
   ⟨"LEGk_DUTY", 0x40200028, 16, 0x40, 1, 0, [LEGk_DUTY_duty]⟩,
   ⟨"LEGk_COMMIT", 0x4020002c, 16, 0x40, 1, 0, [LEGk_COMMIT_go, LEGk_COMMIT_gen]⟩,
   ⟨"LEGk_CT", 0x40200030, 16, 0x40, 1, 0, [LEGk_CT_evt_kind, LEGk_CT_evt_idx]⟩,
   ⟨"LEGk_PERMIN", 0x40200034, 16, 0x40, 1, 0, [LEGk_PERMIN_per_min]⟩,
   ⟨"LEGk_PERMAX", 0x40200038, 16, 0x40, 1, 0, [LEGk_PERMAX_per_max]⟩,
   ⟨"LEGk_PERLAST", 0x4020003c, 16, 0x40, 1, 0, [LEGk_PERLAST_per]⟩,
   ⟨"LEG_DLCAL", 0x40201000, 1, 0x0, 1, 0, [LEG_DLCAL_fail, LEG_DLCAL_prev, LEG_DLCAL_code]⟩,
   ⟨"LEG_OGATE", 0x40201004, 1, 0x0, 1, 0, [LEG_OGATE_selftest, LEG_OGATE_replay, LEG_OGATE_standby, LEG_OGATE_reset]⟩,
   ⟨"FLTj_CFG", 0x40201100, 16, 0x10, 1, 0, [FLTj_CFG_blank, FLTj_CFG_filt, FLTj_CFG_pat, FLTj_CFG_cut, FLTj_CFG_pol, FLTj_CFG_mode]⟩,
   ⟨"FLTj_MAP", 0x40201104, 16, 0x10, 1, 0, [FLTj_MAP_legs]⟩,
   ⟨"ITRIPm_CFG", 0x40201200, 16, 0x10, 1, 0, [ITRIPm_CFG_blank, ITRIPm_CFG_ain, ITRIPm_CFG_pat, ITRIPm_CFG_sel, ITRIPm_CFG_cut, ITRIPm_CFG_mode]⟩,
   ⟨"ITRIPm_MAP", 0x40201204, 16, 0x10, 1, 0, [ITRIPm_MAP_legs]⟩,
   ⟨"FLT_STAT", 0x40201300, 1, 0x0, 1, 0, [FLT_STAT_itrip, FLT_STAT_flt]⟩,
   ⟨"FLT_LVL", 0x40201304, 1, 0x0, 1, 0, [FLT_LVL_itrip, FLT_LVL_flt]⟩]

/-- The registers of the prt group. -/
def prtRegs : List Reg :=
  [⟨"PRT_LNKl_CFG", 0x40401000, 2, 0x40, 1, 0, [PRT_LNKl_CFG_en, PRT_LNKl_CFG_members, PRT_LNKl_CFG_ichop_ain, PRT_LNKl_CFG_ichop_en, PRT_LNKl_CFG_pre_leg, PRT_LNKl_CFG_pre_en, PRT_LNKl_CFG_chop_leg, PRT_LNKl_CFG_chop_en, PRT_LNKl_CFG_chop_mode, PRT_LNKl_CFG_vdc_ain]⟩,
   ⟨"PRT_LNKl_OV1", 0x40401004, 2, 0x40, 1, 0, [PRT_LNKl_OV1_ov_warn, PRT_LNKl_OV1_chop_on]⟩,
   ⟨"PRT_LNKl_OV2", 0x40401008, 2, 0x40, 1, 0, [PRT_LNKl_OV2_ov_hard, PRT_LNKl_OV2_ov_asc]⟩,
   ⟨"PRT_LNKl_CHOP", 0x4040100c, 2, 0x40, 1, 0, [PRT_LNKl_CHOP_chop_full, PRT_LNKl_CHOP_chop_off]⟩,
   ⟨"PRT_LNKl_CHK", 0x40401010, 2, 0x40, 1, 0, [PRT_LNKl_CHK_ichop_min, PRT_LNKl_CHK_chop_confirm]⟩,
   ⟨"PRT_LNKl_FILT", 0x40401014, 2, 0x40, 1, 0, [PRT_LNKl_FILT_ov_filt]⟩,
   ⟨"PRT_LNKl_PRE", 0x40401018, 2, 0x40, 1, 0, [PRT_LNKl_PRE_pre_done, PRT_LNKl_PRE_pre_time]⟩,
   ⟨"PRT_LNKl_DIS", 0x4040101c, 2, 0x40, 1, 0, [PRT_LNKl_DIS_dis_v, PRT_LNKl_DIS_dis_mode]⟩,
   ⟨"PRT_LNKl_DIST", 0x40401020, 2, 0x40, 1, 0, [PRT_LNKl_DIST_dis_id, PRT_LNKl_DIST_dis_time]⟩,
   ⟨"PRT_LNKl_STAT", 0x40401024, 2, 0x40, 1, 0, [PRT_LNKl_STAT_vmean, PRT_LNKl_STAT_lstate, PRT_LNKl_STAT_starved, PRT_LNKl_STAT_dis_fail, PRT_LNKl_STAT_pre_fail, PRT_LNKl_STAT_ov_hard, PRT_LNKl_STAT_ov_asc, PRT_LNKl_STAT_motoring_only, PRT_LNKl_STAT_chop_fail, PRT_LNKl_STAT_chop, PRT_LNKl_STAT_warn]⟩,
   ⟨"PRT_LNKl_VMAX", 0x40401028, 2, 0x40, 1, 0, [PRT_LNKl_VMAX_vmax]⟩,
   ⟨"PRT_LS_CTL", 0x40400000, 1, 0x0, 1, 0, [PRT_LS_CTL_dig_per]⟩,
   ⟨"PRT_LS_STAT", 0x40400004, 1, 0x0, 1, 0, [PRT_LS_STAT_restored, PRT_LS_STAT_cmp_split, PRT_LS_STAT_mismatch]⟩,
   ⟨"PRT_LS_CNTp", 0x40400010, 6, 0x4, 1, 0, [PRT_LS_CNTp_mis_cnt, PRT_LS_CNTp_lat_cnt, PRT_LS_CNTp_par_cnt, PRT_LS_CNTp_test_cnt]⟩,
   ⟨"PRT_CHUCK_STAT", 0x40400030, 1, 0x0, 1, 0, [PRT_CHUCK_STAT_resample, PRT_CHUCK_STAT_disagree]⟩,
   ⟨"PRT_RSTVEC_CPA", 0x40400040, 1, 0x0, 1, 0, [PRT_RSTVEC_CPA_addr]⟩,
   ⟨"PRT_RSTVEC_CPB", 0x40400044, 1, 0x0, 1, 0, [PRT_RSTVEC_CPB_addr]⟩,
   ⟨"PRT_CMP_TEST", 0x40400048, 1, 0x0, 1, 0, [PRT_CMP_TEST_bit]⟩,
   ⟨"BDG_MB_REQ", 0x40480000, 1, 0x0, 1, 0, [BDG_MB_REQ_go, BDG_MB_REQ_len]⟩,
   ⟨"BDG_MB_STAT", 0x40480004, 1, 0x0, 1, 0, [BDG_MB_STAT_busy, BDG_MB_STAT_done, BDG_MB_STAT_status]⟩,
   ⟨"BDG_STATE", 0x40480008, 1, 0x0, 1, 0, [BDG_STATE_dev_cause, BDG_STATE_lsb_cpb, BDG_STATE_lsb_cpa, BDG_STATE_fault_n, BDG_STATE_safe_en1, BDG_STATE_safe_en0, BDG_STATE_unit]⟩,
   ⟨"BDG_SUPV", 0x4048000c, 1, 0x0, 1, 0, [BDG_SUPV_cpb]⟩,
   ⟨"BDG_WDG_KICKc", 0x40480010, 3, 0x8, 1, 0, [BDG_WDG_KICKc_key]⟩,
   ⟨"BDG_WDG_STATc", 0x40480014, 3, 0x8, 1, 0, [BDG_WDG_STATc_miss_cnt, BDG_WDG_STATc_open, BDG_WDG_STATc_token]⟩,
   ⟨"BDG_FSTATw", 0x40480040, 6, 0x4, 1, 0, [BDG_FSTATw_src]⟩,
   ⟨"BDG_FLIVEw", 0x40480060, 6, 0x4, 1, 0, [BDG_FLIVEw_src]⟩,
   ⟨"BDG_PARAM_CRC", 0x40480080, 1, 0x0, 1, 0, [BDG_PARAM_CRC_crc]⟩]

/-- The registers of the tls group. -/
def tlsRegs : List Reg :=
  [⟨"TLS_CFG", 0x40500000, 1, 0x0, 1, 0, [TLS_CFG_start_wait, TLS_CFG_hb_lead, TLS_CFG_lane_mask, TLS_CFG_auto_rejoin, TLS_CFG_cold_en, TLS_CFG_start_role, TLS_CFG_en]⟩,
   ⟨"TLS_CKCFG", 0x40500004, 1, 0x0, 1, 0, [TLS_CKCFG_sync_n, TLS_CKCFG_cold_ch, TLS_CKCFG_cold_ramp]⟩,
   ⟨"TLS_STAT", 0x40500008, 1, 0x0, 1, 0, [TLS_STAT_nr_cause, TLS_STAT_aligned, TLS_STAT_digest_ok, TLS_STAT_sel_fb, TLS_STAT_xl_in, TLS_STAT_lane_up, TLS_STAT_peer_unit, TLS_STAT_peer_ready, TLS_STAT_peer_role, TLS_STAT_ready, TLS_STAT_role]⟩,
   ⟨"TLS_CNT", 0x4050000c, 1, 0x0, 1, 0, [TLS_CNT_miss_cnt, TLS_CNT_late_cnt, TLS_CNT_crc_err, TLS_CNT_tko_cnt]⟩,
   ⟨"TLS_ALIGN", 0x40500010, 1, 0x0, 1, 0, [TLS_ALIGN_err_max, TLS_ALIGN_err]⟩,
   ⟨"TLS_PEER_OFS_LO", 0x40500014, 1, 0x0, 1, 0, [TLS_PEER_OFS_LO_ofs]⟩,
   ⟨"TLS_PEER_OFS_HI", 0x40500018, 1, 0x0, 1, 0, [TLS_PEER_OFS_HI_ofs]⟩,
   ⟨"TLS_DELAY", 0x4050001c, 1, 0x0, 1, 0, [TLS_DELAY_d]⟩,
   ⟨"TLS_TRIM", 0x40500020, 1, 0x0, 1, 0, [TLS_TRIM_asym]⟩,
   ⟨"TLS_LAST_TKO", 0x40500024, 1, 0x0, 1, 0, [TLS_LAST_TKO_src, TLS_LAST_TKO_kind, TLS_LAST_TKO_gap]⟩]

/-- The registers of the fpl group. -/
def fplRegs : List Reg :=
  [⟨"FPL_POOL_BASE", 0x40600010, 1, 0x0, 1, 0, [FPL_POOL_BASE_base]⟩,
   ⟨"FPL_POOL_SIZE", 0x40600014, 1, 0x0, 1, 0, [FPL_POOL_SIZE_size]⟩,
   ⟨"FPL_EVT_BASE", 0x40600018, 1, 0x0, 1, 0, [FPL_EVT_BASE_base]⟩,
   ⟨"FPL_MPLOAD", 0x40600020, 1, 0x0, 1, 0, [FPL_MPLOAD_overload, FPL_MPLOAD_load]⟩,
   ⟨"FPL_STAT", 0x40600024, 1, 0x0, 1, 0, [FPL_STAT_rej, FPL_STAT_cpl_drop]⟩,
   ⟨"FPL_EVT_SEQ", 0x40600030, 1, 0x0, 1, 0, [FPL_EVT_SEQ_seq]⟩,
   ⟨"FPL_EVT_STAT", 0x40600034, 1, 0x0, 1, 0, [FPL_EVT_STAT_ovf, FPL_EVT_STAT_lost]⟩,
   ⟨"FPL_SLOTn", 0x40600040, 4, 0x4, 1, 0, [FPL_SLOTn_stale_to, FPL_SLOTn_maxgap, FPL_SLOTn_en, FPL_SLOTn_src, FPL_SLOTn_stale_act]⟩,
   ⟨"FPL_SLOTST", 0x40600050, 1, 0x0, 1, 0, [FPL_SLOTST_e2e_cnt, FPL_SLOTST_stale]⟩,
   ⟨"QPq_CFG", 0x40600100, 64, 0x20, 1, 0, [QPq_CFG_open, QPq_CFG_transport, QPq_CFG_priv, QPq_CFG_class, QPq_CFG_bulk, QPq_CFG_depth]⟩,
   ⟨"QPq_SQ", 0x40600104, 64, 0x20, 1, 0, [QPq_SQ_tail, QPq_SQ_head]⟩,
   ⟨"QPq_CQ", 0x40600108, 64, 0x20, 1, 0, [QPq_CQ_tail, QPq_CQ_head]⟩,
   ⟨"QPq_WAIT", 0x4060010c, 64, 0x20, 1, 0, [QPq_WAIT_idle_to, QPq_WAIT_qwait]⟩,
   ⟨"QPq_STAT", 0x40600110, 64, 0x20, 1, 0, [QPq_STAT_wexp_cnt, QPq_STAT_qfull_cnt, QPq_STAT_pending]⟩,
   ⟨"QPq_BASE", 0x40600114, 64, 0x20, 1, 0, [QPq_BASE_addr]⟩]

/-- The registers of the lnk group. -/
def lnkRegs : List Reg :=
  [⟨"HLK_CFG", 0x40610000, 1, 0x0, 1, 0, [HLK_CFG_rate, HLK_CFG_addr_src, HLK_CFG_en]⟩,
   ⟨"HLK_ADDR", 0x40610004, 1, 0x0, 1, 0, [HLK_ADDR_valid, HLK_ADDR_addr]⟩,
   ⟨"HLK_GROUP", 0x40610008, 1, 0x0, 1, 0, [HLK_GROUP_grp_0, HLK_GROUP_grp_1, HLK_GROUP_grp_2, HLK_GROUP_grp_3]⟩,
   ⟨"HLK_STAT", 0x4061000c, 1, 0x0, 1, 0, [HLK_STAT_crc_err, HLK_STAT_abort, HLK_STAT_fast_rej]⟩,
   ⟨"CANx_CTL", 0x40620000, 2, 0x10000, 1, 0, [CANx_CTL_en, CANx_CTL_ide, CANx_CTL_base]⟩,
   ⟨"CANx_NBT", 0x40620004, 2, 0x10000, 1, 0, [CANx_NBT_brp, CANx_NBT_tseg1, CANx_NBT_tseg2, CANx_NBT_sjw]⟩,
   ⟨"CANx_DBT", 0x40620008, 2, 0x10000, 1, 0, [CANx_DBT_brp, CANx_DBT_tseg1, CANx_DBT_tseg2, CANx_DBT_sjw]⟩,
   ⟨"CANx_TDC", 0x4062000c, 2, 0x10000, 1, 0, [CANx_TDC_tdco, CANx_TDC_tdc_en]⟩,
   ⟨"CANx_STAT", 0x40620010, 2, 0x10000, 1, 0, [CANx_STAT_rec, CANx_STAT_tec, CANx_STAT_state, CANx_STAT_e2e_err]⟩,
   ⟨"ETH_FP", 0x40640000, 1, 0x0, 1, 0, [ETH_FP_en, ETH_FP_port]⟩,
   ⟨"ETH_IP", 0x40640004, 1, 0x0, 1, 0, [ETH_IP_addr]⟩,
   ⟨"ETH_PTP_TS_LO", 0x40640010, 1, 0x0, 1, 0, [ETH_PTP_TS_LO_ts0]⟩,
   ⟨"ETH_PTP_TS_HI", 0x40640014, 1, 0x0, 1, 0, [ETH_PTP_TS_HI_ts0]⟩,
   ⟨"ETH_PTP_T_LO", 0x40640018, 1, 0x0, 1, 0, [ETH_PTP_T_LO_t0]⟩,
   ⟨"ETH_PTP_T_HI", 0x4064001c, 1, 0x0, 1, 0, [ETH_PTP_T_HI_t0]⟩,
   ⟨"ETH_PTP_RATE", 0x40640020, 1, 0x0, 1, 0, [ETH_PTP_RATE_rate]⟩,
   ⟨"ETH_PTP_STAT", 0x40640024, 1, 0x0, 1, 0, [ETH_PTP_STAT_valid]⟩]

/-- The registers of the mtr group. -/
def mtrRegs : List Reg :=
  [⟨"SETTp_CFG", 0x40700000, 2, 0x10000, 1, 0, [SETTp_CFG_en, SETTp_CFG_miss_max, SETTp_CFG_div, SETTp_CFG_ch, SETTp_CFG_offset]⟩,
   ⟨"SETTp_GUARD", 0x40700004, 2, 0x10000, 1, 0, [SETTp_GUARD_guard]⟩,
   ⟨"SETTp_STAT", 0x40700008, 2, 0x10000, 1, 0, [SETTp_STAT_mode, SETTp_STAT_enum_busy, SETTp_STAT_exhausted, SETTp_STAT_end_b, SETTp_STAT_end_a, SETTp_STAT_nodes]⟩,
   ⟨"SETTp_TIME", 0x4070000c, 2, 0x10000, 1, 0, [SETTp_TIME_fast_dur, SETTp_TIME_loop]⟩,
   ⟨"SETTp_BUDGET", 0x40700010, 2, 0x10000, 1, 0, [SETTp_BUDGET_d_line, SETTp_BUDGET_d_ring]⟩,
   ⟨"SETTp_CNT", 0x40700014, 2, 0x10000, 1, 0, [SETTp_CNT_overrun, SETTp_CNT_crc_err, SETTp_CNT_breaks]⟩,
   ⟨"SETT_NODEe_ID_LO", 0x40701000, 512, 0x20, 1, 0, [SETT_NODEe_ID_LO_id]⟩,
   ⟨"SETT_NODEe_ID_HI", 0x40701004, 512, 0x20, 1, 0, [SETT_NODEe_ID_HI_id]⟩,
   ⟨"SETT_NODEe_CFG", 0x40701008, 512, 0x20, 1, 0, [SETT_NODEe_CFG_present, SETT_NODEe_CFG_kind, SETT_NODEe_CFG_slot8, SETT_NODEe_CFG_class, SETT_NODEe_CFG_side, SETT_NODEe_CFG_leg, SETT_NODEe_CFG_ch, SETT_NODEe_CFG_ch_en, SETT_NODEe_CFG_pos]⟩,
   ⟨"SETT_NODEe_STAT", 0x4070100c, 512, 0x20, 1, 0, [SETT_NODEe_STAT_miss_cnt, SETT_NODEe_STAT_consec, SETT_NODEe_STAT_miss]⟩,
   ⟨"SETT_NODEe_LIVE0", 0x40701010, 512, 0x20, 1, 0, [SETT_NODEe_LIVE0_slot]⟩,
   ⟨"SETT_NODEe_LIVE1", 0x40701014, 512, 0x20, 1, 0, [SETT_NODEe_LIVE1_slot]⟩,
   ⟨"SETT_NODEe_LIVE_TS", 0x40701018, 512, 0x20, 1, 0, [SETT_NODEe_LIVE_TS_ts]⟩,
   ⟨"MTR_CFG", 0x40780000, 1, 0x0, 1, 0, [MTR_CFG_en, MTR_CFG_key_slot, MTR_CFG_pack_src, MTR_CFG_pack_port, MTR_CFG_pack_addr]⟩,
   ⟨"MTR_IN", 0x40780004, 1, 0x0, 1, 0, [MTR_IN_i_ain, MTR_IN_v_ain]⟩,
   ⟨"MTR_VLSB", 0x40780008, 1, 0x0, 1, 0, [MTR_VLSB_lsb]⟩,
   ⟨"MTR_ILSB", 0x4078000c, 1, 0x0, 1, 0, [MTR_ILSB_lsb]⟩,
   ⟨"MTR_VGAIN", 0x40780010, 1, 0x0, 1, 0, [MTR_VGAIN_gain]⟩,
   ⟨"MTR_IGAIN", 0x40780014, 1, 0x0, 1, 0, [MTR_IGAIN_gain]⟩,
   ⟨"MTR_OFS", 0x40780018, 1, 0x0, 1, 0, [MTR_OFS_i_ofs, MTR_OFS_v_ofs]⟩,
   ⟨"MTR_INT", 0x4078001c, 1, 0x0, 1, 0, [MTR_INT_interval]⟩,
   ⟨"MTR_EPOS_LO", 0x40780020, 1, 0x0, 1, 0, [MTR_EPOS_LO_total]⟩,
   ⟨"MTR_EPOS_HI", 0x40780024, 1, 0x0, 1, 0, [MTR_EPOS_HI_total]⟩,
   ⟨"MTR_ENEG_LO", 0x40780028, 1, 0x0, 1, 0, [MTR_ENEG_LO_total]⟩,
   ⟨"MTR_ENEG_HI", 0x4078002c, 1, 0x0, 1, 0, [MTR_ENEG_HI_total]⟩,
   ⟨"MTR_QPOS_LO", 0x40780030, 1, 0x0, 1, 0, [MTR_QPOS_LO_total]⟩,
   ⟨"MTR_QPOS_HI", 0x40780034, 1, 0x0, 1, 0, [MTR_QPOS_HI_total]⟩,
   ⟨"MTR_QNEG_LO", 0x40780038, 1, 0x0, 1, 0, [MTR_QNEG_LO_total]⟩,
   ⟨"MTR_QNEG_HI", 0x4078003c, 1, 0x0, 1, 0, [MTR_QNEG_HI_total]⟩,
   ⟨"MTR_SEQ", 0x40780040, 1, 0x0, 1, 0, [MTR_SEQ_seq]⟩,
   ⟨"MTR_STAT", 0x40780044, 1, 0x0, 1, 0, [MTR_STAT_ret_valid, MTR_STAT_pack_unver, MTR_STAT_gap, MTR_STAT_held]⟩,
   ⟨"MTR_PACKIDk", 0x40780050, 4, 0x4, 1, 0, [MTR_PACKIDk_id]⟩,
   ⟨"MTR_CURPACKk", 0x40780060, 4, 0x4, 1, 0, [MTR_CURPACKk_id]⟩,
   ⟨"MTR_RESTOREk", 0x40780080, 16, 0x4, 1, 0, [MTR_RESTOREk_rec]⟩,
   ⟨"MTR_RESTORE_GO", 0x407800c0, 1, 0x0, 1, 0, [MTR_RESTORE_GO_go]⟩,
   ⟨"CVUc_CFG", 0x40790000, 4, 0x40, 1, 0, [CVUc_CFG_maxgap, CVUc_CFG_alive_mode, CVUc_CFG_alive_w, CVUc_CFG_refout, CVUc_CFG_refin, CVUc_CFG_poly]⟩,
   ⟨"CVUc_INIT_LO", 0x40790004, 4, 0x40, 1, 0, [CVUc_INIT_LO_init]⟩,
   ⟨"CVUc_INIT_HI", 0x40790008, 4, 0x40, 1, 0, [CVUc_INIT_HI_init]⟩,
   ⟨"CVUc_XOR_LO", 0x4079000c, 4, 0x40, 1, 0, [CVUc_XOR_LO_xorout]⟩,
   ⟨"CVUc_XOR_HI", 0x40790010, 4, 0x40, 1, 0, [CVUc_XOR_HI_xorout]⟩,
   ⟨"CVUc_CTL", 0x40790014, 4, 0x40, 1, 0, [CVUc_CTL_alive_clr, CVUc_CTL_start]⟩,
   ⟨"CVUc_DATA8", 0x40790018, 4, 0x40, 1, 0, [CVUc_DATA8_data]⟩,
   ⟨"CVUc_DATA16", 0x4079001c, 4, 0x40, 1, 0, [CVUc_DATA16_data]⟩,
   ⟨"CVUc_DATA32", 0x40790020, 4, 0x40, 1, 0, [CVUc_DATA32_data]⟩,
   ⟨"CVUc_RES_LO", 0x40790024, 4, 0x40, 1, 0, [CVUc_RES_LO_crc]⟩,
   ⟨"CVUc_RES_HI", 0x40790028, 4, 0x40, 1, 0, [CVUc_RES_HI_crc]⟩,
   ⟨"CVUc_ALIVE", 0x4079002c, 4, 0x40, 1, 0, [CVUc_ALIVE_counter]⟩,
   ⟨"CVUc_STAT", 0x40790030, 4, 0x40, 1, 0, [CVUc_STAT_alive, CVUc_STAT_last]⟩]

/-- The registers of the owl group. -/
def owlRegs : List Reg :=
  [⟨"OWL_CFG", 0x407c0000, 1, 0x0, 1, 0, [OWL_CFG_snap_log2, OWL_CFG_core_replay, OWL_CFG_boot_arm]⟩,
   ⟨"OWL_CTL", 0x407c0004, 1, 0x0, 1, 0, [OWL_CTL_pre, OWL_CTL_rp_abort, OWL_CTL_trig, OWL_CTL_mode, OWL_CTL_arm]⟩,
   ⟨"OWL_TRIG_MASK", 0x407c0008, 1, 0x0, 1, 0, [OWL_TRIG_MASK_mask]⟩,
   ⟨"OWL_TRIG_EVT", 0x407c000c, 1, 0x0, 1, 0, [OWL_TRIG_EVT_code]⟩,
   ⟨"OWL_STAT", 0x407c0010, 1, 0x0, 1, 0, [OWL_STAT_state, OWL_STAT_wrapped, OWL_STAT_wptr]⟩,
   ⟨"OWL_OLDEST", 0x407c0014, 1, 0x0, 1, 0, [OWL_OLDEST_idx]⟩,
   ⟨"OWL_TRIG_PTR", 0x407c0018, 1, 0x0, 1, 0, [OWL_TRIG_PTR_valid, OWL_TRIG_PTR_idx]⟩,
   ⟨"OWL_LOST", 0x407c001c, 1, 0x0, 1, 0, [OWL_LOST_count]⟩,
   ⟨"OWL_TRIG_TS_LO", 0x407c0020, 1, 0x0, 1, 0, [OWL_TRIG_TS_LO_ts]⟩,
   ⟨"OWL_TRIG_TS_HI", 0x407c0024, 1, 0x0, 1, 0, [OWL_TRIG_TS_HI_ts]⟩,
   ⟨"OWL_LOAD_IDX", 0x407c0030, 1, 0x0, 1, 0, [OWL_LOAD_IDX_idx]⟩,
   ⟨"OWL_LOAD_D0", 0x407c0034, 1, 0x0, 1, 0, [OWL_LOAD_D0_data]⟩,
   ⟨"OWL_LOAD_D1", 0x407c0038, 1, 0x0, 1, 0, [OWL_LOAD_D1_data]⟩,
   ⟨"OWL_LOAD_D2", 0x407c003c, 1, 0x0, 1, 0, [OWL_LOAD_D2_data]⟩,
   ⟨"OWL_RP_STAT", 0x407c0040, 1, 0x0, 1, 0, [OWL_RP_STAT_result, OWL_RP_STAT_running, OWL_RP_STAT_div_cnt]⟩,
   ⟨"OWL_RP_DIV_PER", 0x407c0044, 1, 0x0, 1, 0, [OWL_RP_DIV_PER_period]⟩,
   ⟨"OWL_RP_DIV_WORD", 0x407c0048, 1, 0x0, 1, 0, [OWL_RP_DIV_WORD_kind, OWL_RP_DIV_WORD_ch, OWL_RP_DIV_WORD_idx]⟩,
   ⟨"OWL_ETH_DST", 0x407c0050, 1, 0x0, 1, 0, [OWL_ETH_DST_addr]⟩,
   ⟨"OWL_ETH", 0x407c0054, 1, 0x0, 1, 0, [OWL_ETH_go, OWL_ETH_busy, OWL_ETH_port]⟩,
   ⟨"OWL_DIGESTk", 0x407c0060, 8, 0x4, 1, 0, [OWL_DIGESTk_digest]⟩]

/-- The registers of the pwr group. -/
def pwrRegs : List Reg :=
  [⟨"PWR_CTL", 0x40020000, 1, 0x0, 1, 0, [PWR_CTL_ign_filt, PWR_CTL_dis_at_shut, PWR_CTL_ign_en, PWR_CTL_shutdown]⟩,
   ⟨"PWR_STAT", 0x40020004, 1, 0x0, 1, 0, [PWR_STAT_ready, PWR_STAT_start, PWR_STAT_bist_fail, PWR_STAT_prev_fail, PWR_STAT_shut, PWR_STAT_keep_alive, PWR_STAT_ign, PWR_STAT_rst_cause]⟩,
   ⟨"PWR_RESET", 0x40020008, 1, 0x0, 1, 0, [PWR_RESET_key]⟩,
   ⟨"PWR_BIST_AGE", 0x4002000c, 1, 0x0, 1, 0, [PWR_BIST_AGE_hours]⟩,
   ⟨"PWR_WAKE_TMR", 0x40020010, 1, 0x0, 1, 0, [PWR_WAKE_TMR_secs]⟩,
   ⟨"PWR_AON_TIME", 0x40020014, 1, 0x0, 1, 0, [PWR_AON_TIME_secs]⟩,
   ⟨"THM_TEMP", 0x40030000, 1, 0x0, 1, 0, [THM_TEMP_scv1, THM_TEMP_cv7]⟩,
   ⟨"THM_STAT", 0x40030004, 1, 0x0, 1, 0, [THM_STAT_no_comp, THM_STAT_stale, THM_STAT_level]⟩,
   ⟨"THM_CTL", 0x40030008, 1, 0x0, 1, 0, [THM_CTL_user_thr, THM_CTL_crit_prof_en, THM_CTL_crit_prof]⟩,
   ⟨"THM_MAX", 0x4003000c, 1, 0x0, 1, 0, [THM_MAX_max]⟩,
   ⟨"BIST_CTL", 0x407e0000, 1, 0x0, 1, 0, [BIST_CTL_target, BIST_CTL_go]⟩,
   ⟨"BIST_STAT", 0x407e0004, 1, 0x0, 1, 0, [BIST_STAT_running, BIST_STAT_result, BIST_STAT_fail]⟩,
   ⟨"LCS_STATE", 0x407f0000, 1, 0x0, 1, 0, [LCS_STATE_pending, LCS_STATE_next, LCS_STATE_dbg_open, LCS_STATE_state]⟩,
   ⟨"LCS_EPOCH", 0x407f0004, 1, 0x0, 1, 0, [LCS_EPOCH_img, LCS_EPOCH_advance, LCS_EPOCH_epoch]⟩,
   ⟨"LCS_KEYS", 0x407f0008, 1, 0x0, 1, 0, [LCS_KEYS_present, LCS_KEYS_revoked]⟩,
   ⟨"LCS_BOOT", 0x407f000c, 1, 0x0, 1, 0, [LCS_BOOT_fallback, LCS_BOOT_area]⟩,
   ⟨"LCS_KPROG", 0x407f0020, 1, 0x0, 1, 0, [LCS_KPROG_go, LCS_KPROG_attr, LCS_KPROG_slot]⟩,
   ⟨"LCS_KDATAk", 0x407f0024, 8, 0x4, 1, 0, [LCS_KDATAk_data]⟩]

/-- Every register of the map. -/
def regTable : List Reg :=
  sysRegs ++ chRegs ++ spRegs ++ cvbRegs ++ seqRegs ++ pifRegs ++ legRegs ++ prtRegs ++ tlsRegs ++ fplRegs ++ lnkRegs ++ mtrRegs ++ owlRegs ++ pwrRegs

end Sys2Proof.Machine
end

