-- ==== Sys2Proof/Machine/State.lean ====
section
/-! DEFINITION. The state of the block as plain data: the register store (every field of every register table), the
memories, the state the spec gives each engine beside its registers, the queue of waiting commands, and
`State.reset`, the machine right after a device reset. -/

namespace Sys2Proof.Machine

/-- Why a command stops with a fault. No meaning of this model faults: every row of the command table has an effect. -/
inductive Fault where
  deriving DecidableEq, Repr

/-- Why a command is refused. -/
inductive Refusal where
  /-- Raised by an arm of `exec` for a command that has no meaning yet. Safe: the machine stops. -/
  | notModelled (mnemonic : String)
  deriving DecidableEq, Repr

/-! ### Events, faults on their way, the bus -/

/-- An event of R406: its sequence number, the TS at which it arose, its code and the items of its payload. -/
structure Event where
  seq : Nat
  ts : Nat
  code : Nat
  items : List Nat
  deriving DecidableEq, Repr

/-- The event logger (R406): the intake of this tick, in the order of entry, and the ring, newest entry first. -/
structure EvLog where
  intake : List (Nat × List Nat)
  ring : List Event
  deriving DecidableEq, Repr

/-- The last answer the bus gave an initiator. -/
inductive Reply where
  | none
  | data (v : Nat)
  | error
  deriving DecidableEq, Repr

/-- A slot staging register (R54): its slot, the 128 staged bits, and which of the four 32-bit parts are staged. -/
structure Staging where
  slot : Option Nat
  bits : Nat
  parts : Nat
  deriving DecidableEq, Repr

/-- A slot read capture register (R56). -/
structure SlotCap where
  slot : Option Nat
  bits : Nat
  deriving DecidableEq, Repr

/-- What the bus keeps for one initiator: its last answer, its slot registers, and the high halves that its reads of
low halves captured (R43), by the address of the high half. -/
structure BusPort where
  reply : Reply
  staging : Staging
  capture : SlotCap
  hi : List (Nat × Nat)
  deriving DecidableEq, Repr

/-! ### Converter bank and sequencers -/

/-- The work that occupies a converter (R92). -/
inductive Work where
  | idle
  | window (q k : Nat)
  | inj (k : Nat)
  | cal
  | bg
  | ow (i : Nat)
  deriving DecidableEq, Repr

/-- An injection whose last sample has been taken and whose result is still in the pipeline: its slot, and the flags
REF_NOT_READY and SPLIT. -/
structure InjOut where
  slot : Nat
  refNR : Bool
  split : Bool
  deriving DecidableEq, Repr

/-- A converter beside its registers. Instants are in ft. Its work, the instant of the work's first and last sample, the
instant from which the samples of the selected input are settled (R82) and the one at which its last work closed, the
external input that its second path selects (R79), the work an urgent injection suspended with the samples it still needs
(R95), the injections that wait (in the order requested), the flags of a running one, those whose result is in the
pipeline, whether the calibration that follows a reset has ended (R101), a start request that came during shut-down
(R105), the instant at which the shut-down, the full calibration or the injection began (R93), and the trims of the slice that runs
(R100). -/
structure Conv where
  work : Work
  firstFt : Nat
  doneFt : Nat
  goodFt : Nat
  freeFt : Nat
  alt : Option Nat
  split : Option (Work × Nat)
  injWait : List Nat
  injNR : Bool
  injSplit : Bool
  injOut : List InjOut
  calDone : Bool
  startReq : Bool
  sinceFt : Nat
  bgTrim : Int × Int
  deriving DecidableEq, Repr

/-- Where a step's window stands. -/
inductive WinSt where
  | idle | sched | due | taking | untaken
  deriving DecidableEq, Repr

/-- The window of one step: its open instant and when that became known (TS), its converter, the instants of its first and
last sample (ft), and the flags gathered so far. -/
structure Win where
  st : WinSt
  openTs : Nat
  knownTs : Nat
  conv : Nat
  firstFt : Nat
  lastFt : Nat
  late : Bool
  split : Bool
  partner : Bool
  refNR : Bool
  calBusy : Bool
  deriving DecidableEq, Repr

/-- A trigger whose instant is known: the instant, when it became known, and whether R87 clamped it. -/
structure Trig where
  ts : Nat
  known : Nat
  late : Bool
  deriving DecidableEq, Repr

/-- A sequencer beside its registers: its sixteen windows, those whose last sample has been taken and whose result is still in
the pipeline (R90), the triggers whose instant has not come, the trigger that QUEUE1 stored, and the TS at which `en` was
set. -/
structure Seq where
  wins : Vector Win 16
  closed : List (Nat × Win)
  armed : List Trig
  stored : Option Trig
  enTs : Nat
  deriving DecidableEq, Repr

/-- The phases of an open-wire test (R111): a current applied for its dwell, its window due, and both windows taken. -/
inductive OwPh where
  | idle | up | winP | down | winM | got
  deriving DecidableEq, Repr

/-- A fast window comparator: its two counters (R108) and its open-wire test. -/
structure Cmp where
  hiCnt : Nat
  loCnt : Nat
  ow : OwPh
  deriving DecidableEq, Repr

/-! ### Position interfaces -/

/-- One qualified input line: the pins' logical value, the accepted level, and the TS of the last accepted edge. -/
structure Line where
  logic : Bool
  level : Bool
  accTs : Option Nat
  deriving DecidableEq, Repr

/-- The speed estimator of R145: the edges of the run, newest first, n, the direction, and the estimate as a position
difference over a tick difference. -/
structure Est where
  hist : List (Int × Nat)
  n : Nat
  dir : Bool
  tLast : Nat
  dp : Int
  dt : Nat
  valid : Bool
  deriving DecidableEq, Repr

/-- One position source: whether it has a sample, its position, its unwrapped electrical angle, electrical angle and TS, its estimator, whether a new
sample came since the last record, its consecutive errors, its freeze run (R152), and the estimator that SPD_TIMEOUT took away with the
tick at which it did (R155). -/
structure Src where
  has : Bool
  pos : Int
  acc : Int
  ang : Nat
  ts : Nat
  est : Est
  fresh : Bool
  errs : Nat
  frz0 : Int
  frzCnt : Nat
  tmo : Option (Nat × Est)
  deriving DecidableEq, Repr

/-- A position record (R147). -/
structure PosRec where
  src : Nat
  ang : Nat
  ts : Nat
  speed : Int
  valid : Bool
  dir : Bool
  angX : Nat
  unref : Bool
  fallback : Bool
  stale : Bool
  deriving DecidableEq, Repr

/-- A value on its way through Chuck to a lockstep pair (R309): a window result with its flags and its sequencer and step (16q + k), a position record, the
record of PIF1 as a further measured source of a six-phase group (R120), a direct set-point target with its origin, or a core's input named by its record type, source and payload. A result carries its
window's close in ft (R12). -/
inductive InVal where
  | result (k : Nat) (v : Int) (flags : Nat) (org : Nat) (close : Nat)
  | position (r : PosRec)
  | further (r : PosRec)
  | target (g : Nat) (x : Int) (origin : Nat)
  | core (type src : Nat) (payload : Nat)
  deriving DecidableEq, Repr

/-- An entry waiting in Chuck: the pair it is for, its value, its TS, and whether a replay delivers it as disagreed (R458). -/
structure ChuckItem where
  pair : Nat
  val : InVal
  ts : Nat
  dis : Bool
  deriving DecidableEq, Repr

/-- The serial frame of an interface (R140 to R144): whether one runs, its first falling MA edge, the end of the last
frame, the consecutive bad frames, whether a triggered frame waits for SLO, whether SLO has been high since the last frame (R142), and
the instants of the triggers that its source has scheduled. -/
structure SerSt where
  run : Bool
  t0 : Nat
  last : Option Nat
  errs : Nat
  wait : Bool
  back : Bool
  due : List Nat
  deriving DecidableEq, Repr

/-- The ABZ decoder before the count of a tick (R126): the tick, the line of its edge (0 A, 1 B), the count, the revolution position,
the source, and the counts since the last index. -/
structure AbPrev where
  ts : Nat
  line : Nat
  count : Nat
  rev : Nat
  src : Src
  since : Int
  deriving DecidableEq, Repr

/-- A position interface beside its registers: its lines A, B, Z, U, V, W, the pairs whose pins are equal beyond
DIS_TIME, an accepted index edge to be processed, the ABZ count, its four decoded sources, the counts since the last
index, whether Z_MISSING was declared since, homing, the rejections of the interval and whether ENC_NOISY was raised in
it, the last Hall sector, a persisting invalid Hall state, the resolver's gap and amplitude runs, the serial frame, a
restore request, the last record, the TS at which `en` was set, the TS at which the excitation began (R134), and for happenings of one
tick (R126, R155): the last latch with the sources that were fresh there, the last POS_SET with its count and revolution position, and
the decoder as it stood before the tick's count (tick, whether A or B gave it, count, revolution position, source, since_index). -/
structure Pif where
  lines : Vector Line 6
  wireNow : Nat
  zEdge : Bool
  count : Nat
  abz : Src
  hal : Src
  rsv : Src
  ser : Src
  sinceIndex : Int
  zMiss : Bool
  homeArmed : Bool
  rejects : Nat
  noisyDone : Bool
  sector : Option Nat
  hallBad : Bool
  gaps : Nat
  amps : Nat
  frame : SerSt
  restore : Bool
  record : Option PosRec
  enTs : Nat
  excTs : Nat
  latch : Option (Nat × List Bool)
  posSet : Option (Nat × Nat × Nat)
  abPrev : Option AbPrev
  deriving DecidableEq, Repr

/-- The divided encoder output (R154): its quadrature state and how many states it lags. -/
structure Enco where
  state : Int
  lag : Int
  last : Nat
  deriving DecidableEq, Repr

/-! ### Carriers, legs, fault inputs -/

/-- The output patterns of R187 and R191. -/
inductive Pat where
  | off | ascLow | ascHigh
  deriving DecidableEq, Repr

/-- A commit (R174): its period, its duties, its generation number, and whether its duties are ratios whatever
`dmode` says (R178). -/
structure Commit where
  per : Nat
  duty : List Nat
  gen : Nat
  ratio : Bool
  deriving DecidableEq, Repr

/-- A carrier beside its registers: whether it runs or waits for its start (R170), whether it has yet to begin its
first half, the instant of a synchronised start once its reference has met carrier zero, its half and the ft instants at which
the half and the carrier cycle began, the lengths of its halves, the commit in force, the commit that waits for the next reload, the late commit held for the one after (R15), whether a
commit arrived on time in this period, whether a mismatch blocked it (R18), whether the deadline has passed and its
tick, the TS of the last two reloads and the ft instant of the last, the delay-line code in use (R172), whether edges are placed on whole ticks and whether that ends at its next reload (R173), and for
COT and CFT whether T has elapsed, an edge of the end event's source has come and an end event is stored (R168), with the commits of the
period by their arrival (R178). -/
structure Carrier where
  run : Bool
  waiting : Bool
  fresh : Bool
  startFt : Option Nat
  down : Bool
  halfFt : Nat
  zeroFt : Nat
  hUp : Nat
  hDn : Nat
  act : Commit
  pend : Option Commit
  held : Option Commit
  onTime : Bool
  blocked : Bool
  dlPassed : Bool
  deadline : Nat
  reloadTs : Nat
  prevTs : Nat
  reloadFt : Nat
  code : Nat
  whole : Bool
  wholeEnd : Bool
  tOver : Bool
  evt : Bool
  endStored : Bool
  recent : List (Nat × Commit)
  deriving DecidableEq, Repr

/-- How a pulse of the coming cycle was judged (R180, R181): placed as commanded, not emitted, or ended no earlier than
its bound. -/
inductive Judge where
  | plain | drop | atLeast
  deriving DecidableEq, Repr

/-- A leg beside its registers: the on-times of the two halves (R164), the high-side command, the dead-time waits, the cut (0 none, 1 CUT_HIGH, 2 CUT_BOTH),
the pattern held after a latch clear (R188), how the high and the low pulse of the cycle were judged with the earliest
instant at which each may end, the command edges still to come in this half (instant in ft, new command), the switch
state a DTC decision placed (R250), the instant at which T or the turn-on falls, the rank of R191 in force, whether a released gate waits for a reload (R162), and the TS at which each output last went off (R192). The outputs
themselves are `LEGk_STAT.gh` and `gl`. -/
structure LegSt where
  oUp : Nat
  oDn : Nat
  cmd : Bool
  waitH : Bool
  waitL : Bool
  cut : Nat
  hold : Option Pat
  hiJ : Judge
  loJ : Judge
  onFt : Nat
  hiEnd : Nat
  loEnd : Nat
  edges : List (Nat × Bool)
  forced : Option (Bool × Bool)
  rank : Nat
  gateWait : Bool
  offH : Option Nat
  offL : Option Nat
  deriving DecidableEq, Repr

/-- A fault input or trip line: whether it is active, until when its blanking window runs, and the level that a fault input's pin had
last (R183). -/
structure Flt where
  act : Bool
  blankTs : Nat
  pin : Bool
  deriving DecidableEq, Repr

/-! ### The engines, grouped -/

/-- The converter bank and the sequencers. -/
structure CvbSt where
  conv : Vector Conv 8
  seqs : Vector Seq 16
  cmps : Vector Cmp 48
  tt : Vector (Option Nat) 4
  deriving DecidableEq, Repr

/-- The position interfaces. -/
structure PosSt where
  pifs : Vector Pif 4
  enco : Enco
  deriving DecidableEq, Repr

/-- The leg generators: the carriers (of the channels, then of the auxiliary legs), the legs, the fault inputs and
then the trip lines, the order in which latches were set, and the delay line's invalid measurements in a row (R173). -/
structure GenSt where
  carr : Vector Carrier 8
  legs : Vector LegSt 16
  flts : Vector Flt 32
  order : List (Nat × Nat)
  dlBad : Nat
  deriving DecidableEq, Repr

/-- The memories of R59, the words that the scrubber and the readers know to be uncorrectable (R67), and the corrected
words that wait to be written back (R65). Bytes of the 32-bit map (SRAM, mailbox memory, flash) stand in `bytes` by
address, the MP's private SRAM in `mp`; the words of the Lathe and of Owl stand by index, as 72-bit values X·2^36 + Y. -/
structure MemSt where
  bytes : List Host.Cell
  mp : List Host.Cell
  lathe : List (Nat × Nat)
  owl : List (Nat × Nat)
  ueKnown : List (Nat × Nat)
  writebacks : List (Nat × Nat)
  deriving DecidableEq, Repr

/-! ### Channels -/

/-- A drive channel beside its registers: whether a reload with an on-time commit has let its outputs leave the off
pattern (R19), whether a windings discharge runs (R294), whether CH_ENABLE has asked a stopping channel to resume
(R275), the speed the selector holds since the last period latch (R277; none: unknown), the timing still in force
until the reload when a write of it waits (R23: dl_max and commit_guard), Badger's own count of missed deadlines (R17), the cycle cuts of the carrier period (R282), the TS at which a cold takeover's torque ramp began (R368), the voltage term the
selector holds since the last period latch (R277), the profile still in force here while a thermal change waits for the reload
(R31), the TS of the last safe-state request and of the last commit (R23), and of the last entry into SAFE (R299). -/
structure Chan where
  outEn : Bool
  windings : Bool
  resume : Bool
  selSpd : Option Int
  timing : Option (Nat × Nat)
  bdgMiss : Nat
  cutSeen : Bool
  cold : Option Nat
  selV : Option Int
  prof : Option Nat
  safeTs : Option Nat
  comTs : Option Nat
  inTs : Option Nat
  deriving DecidableEq, Repr

/-- A link monitor beside its registers (R284 to R295): the last 16 samples, newest first, how many came since `en` was
set, whether none has arrived for 5 µs, the filter counters and levels of OV_WARN, CHOP_ON and OV_ASC, whether OV_HARD has been met,
the HYST duty, the mean at switch-on and its TS, the chopper's last committed duty, the samples since a precharge or discharge
was accepted, and the TS at which the precharge leg is due to go off counts from. -/
structure Link where
  hist : List Int
  got : Nat
  starve : Bool
  cnt : Vector Nat 3
  lvl : Vector Bool 3
  hard : Bool
  hyst : Bool
  von : Int
  onTs : Option Nat
  chopDuty : Nat
  since : Nat
  preTs : Option Nat
  deriving DecidableEq, Repr

/-! ### Spindles -/

/-- One measurement index of a spindle: the result that landed in this period with its flags (R84), m_i, the
consecutive periods it was missing, the run of identical results, and the run of good periods (R220 to R224). -/
structure Meas where
  cur : Option (Int × Nat)
  val : Int
  miss : Nat
  code : Int
  same : Nat
  good : Nat
  deriving DecidableEq, Repr

/-- The oscillation detector (R228): the configuration of the running window (kind, index, win, n_min, n_max, a_hp,
amp_thr, hyst, resp), the high-pass state, the last signal, amplitude, side, the counters, and a window that has ended with its
amplitude and count. -/
structure OscSt where
  cfg : List Int
  h : Int
  sigPrev : Int
  amp : Int
  side : Int
  n : Nat
  cnt : Nat
  ended : Option (Int × Nat)
  deriving DecidableEq, Repr

/-- The sensorless observer (R255 to R257): the instant of its angle, the previous currents and applied voltage in the
stator frame, eps, its runs of good and bad periods, ω̂ before the bad run, a frozen ω̂ (2^-16 Hz), and whether it was the angle in use
at the last two periods (bit 0 the last). -/
structure ObsSt where
  at_ : Nat
  iPrev : QWord
  uPrev : QWord
  eps : Int
  ok : Nat
  bad : Nat
  wBefore : Int
  frozenW : Option Int
  used : Nat
  deriving DecidableEq, Repr

/-- The locked-rotor and flux watches (R259, R260); times in ft. -/
structure WatchSt where
  lrOn : Bool
  lrTh0 : Nat
  lrSec : Nat
  lrT : Nat
  lrThLock : Nat
  lrLow : Nat
  keN : Nat
  keOut : Nat
  psiF : Int
  deriving DecidableEq, Repr

/-- The DTC engine (R249 to R254, R258): stator flux, torque estimate, comparators, switch state (0 to 7, or 8 for Z),
last decision, consecutive misses, speed and reference torque, the start of the handover conditions, the recent dq voltages
with the instants at which they ended, a stop that waits for handover, the recapture (the instant its DTC run began, its pattern, its
step, the run of its wait as a start with count, sum, least and largest of the current, and whether it waits for a decision to begin), the
initial position (its offset, its step and the peaks found), the instant the present probe began, and the steps of the pacing sequencer
whose results have landed since the last decision (R249). -/
structure DtcSt where
  psiS : QWord
  tHat : Int
  cT : Int
  cPsi : Bool
  vec : Nat
  decTs : Option Nat
  missRun : Nat
  wEng : Int
  tRef : Int
  hoSince : Option Nat
  ubar : List (Nat × QWord)
  stopWait : Bool
  recTs : Option Nat
  recPat : Option Pat
  recStep : Nat
  runTs : Option Nat
  run : Nat × Int × Int × Int
  recPend : Bool
  ipdOfs : Nat
  ipdStep : Nat
  peaks : List Int
  probeTs : Nat
  landed : Nat
  deriving DecidableEq, Repr

/-- The grid engines (R261 to R263): angles in 2^-32 of a turn, w_g in 2^-16 Hz, run times in ft, the grid voltage, the
filtered powers, the droop oscillator's angle and frequency, and whether PLL_UNLOCK and GRID_BAND have been raised and still hold
(R529). -/
structure GridSt where
  thG : Nat
  wG : Int
  lockT : Nat
  badN : Nat
  bandT : Nat
  vG : QWord
  pFilt : Int
  qFilt : Int
  thF : Nat
  wF : Int
  unl : Bool
  bandUp : Bool
  deriving DecidableEq, Repr

/-- The field stage of a spindle (R237): the effective limits (current, torque, regenerative torque) and the stop clamp,
all Q36, the torque limit of SET_LIMITS, the field-weakening integrator and current, the time id_fw has stood at its minimum, the
torque of the references, and its engines. -/
structure FldSt where
  iLim : Int
  tLim : Int
  tReg : Int
  stopClamp : Int
  tSet : Option Int
  idInt : Int
  idFw : Int
  fwMinT : Nat
  tCmd : Int
  obs : ObsSt
  watch : WatchSt
  dtc : DtcSt
  grid : GridSt
  deriving DecidableEq, Repr

/-- What a spindle's checkpoint holds (R209, R237): words of its window, the flags, the measurement and detector states, the lost
measurements, the hold timer's end, the period number, the observer's angle and speed, and the field state. -/
structure Ckpt where
  words : List (Nat × Nat)
  sPrev : Nat
  frozen : Nat
  meas : Vector Meas 8
  osc : OscSt
  lost : Nat
  holdEnd : Option Nat
  period : Nat
  obsAng : Nat
  obsSpd : Nat
  fld : FldSt
  deriving DecidableEq, Repr

/-- A spindle beside its registers and its words: the measurements, the freeze flags and the saturation flags of the
last period (R225), whether a period is open and not yet evaluated, whether its position record landed, its speculation
(0 none, 1 running, 2 complete), whether the wait limit was reached and the measurements accounted for, whether a swap took
effect at its reload, the gating flags of a rejected speculation, the period of its commit (R206), the speculation's
results, the innovations, the last record, the last further record (R120) and Vdc, the commit on its way to the leg generator, the commit number, a swap
and a fallback that wait for the reload, a hold timer that expired before the period's measurements were accounted for (R232), the detector, the field stage, the last checkpoint,
the state with which the period began and how a swap was taken there (0 none, 1 by request, 2 by a fallback, 3 by request from a fallback bank), a hold, and
the inputs and angles of the held period, with whether its measurements were accounted for (R314). -/
structure SpSt where
  meas : Vector Meas 8
  frozen : Nat
  sPrev : Nat
  isOpen : Bool
  posOk : Bool
  spec : Nat
  waitHit : Bool
  counted : Bool
  present : Nat
  swapPer : Bool
  rejGate : Option Nat
  per : Nat
  xp : List Int
  yp : List Int
  uSpec : List Int
  zh : List Int
  mK : List Int
  eps : List Int
  pRec : Option PosRec
  pRec2 : Option PosRec
  vdc : Int
  out : Option Commit
  gen : Nat
  fbPend : Bool
  fbDue : Bool
  holdEnd : Option Nat
  osc : OscSt
  fld : FldSt
  ckpt : Option Ckpt
  start : Option Ckpt
  startSwap : Nat
  held : Bool
  bufMeas : Vector Meas 8
  bufAng : Nat × Nat
  bufDone : Bool
  deriving DecidableEq, Repr

/-! ### The Badger island -/

/-- What Badger keeps for one channel (R296, R297, R324, R330): the deviation count, the angle count, its last angle and
speed (2^-16 Hz), the evaluations below se_speed, and the torques of the references of this interval and the last. -/
structure TmSt where
  dev : Nat
  angCnt : Nat
  ang : Option Nat
  speed : Int
  below : Nat
  cur : List Int
  prev : List Int
  deriving DecidableEq, Repr

/-- A watchdog (R325): the TS of its last valid kick or start, and whether it runs with the windows of a reset. -/
structure WdgSt where
  last : Nat
  dflt : Bool
  deriving DecidableEq, Repr

/-- A mailbox reply (R340): type, sequence number, status and items. -/
structure MbReply where
  type : Nat
  seq : Nat
  status : Nat
  items : List Nat
  deriving DecidableEq, Repr

/-- Badger (R321 to R341) beside its registers: the active staged block (none: the defaults), an accepted block that waits
for the evaluation boundary, the counts and last payloads of the sources, the sources that caused UNIT_FAIL or DEV_SAFE
(R335), the rails and clocks outside their windows, whether the temperatures diverge (with the run of readings), the
channel monitors, the watchdogs, the TS of the last HOLD of each element and which elements are held (CPA, CPB, SP0 to SP3,
MP), the MP held until reset (R318), a low pulse of SAFE_EN under way, SCV1's TDIODE code, the CKB trim, the mailbox reply, the
position of each pair's next comparator test (R308), and the core pairs whose halt request waits for a restoration (R337). -/
structure BdgSt where
  block : Option (List Nat)
  staged : Option (List Nat × Nat)
  counts : List (Nat × Nat)
  payloads : List (Nat × Nat)
  stuck : List Nat
  railBad : Nat
  clkBad : Nat
  divRun : Nat
  divNow : Bool
  tm : Vector TmSt 4
  wdg : Vector WdgSt 3
  lastHold : Vector (Option Nat) 7
  holds : Nat
  mpDead : Bool
  pulse : Option Nat
  scv1 : Int
  ckbTrim : Nat
  reply : Option MbReply
  cmpPos : Vector Nat 7
  haltReq : Nat
  deriving DecidableEq, Repr

/-! ### Owl -/

/-- A record that waits for the end of its tick (R446): its rank in the tick's order, type, source and payloads. -/
structure OwlRec where
  rank : Nat
  type : Nat
  source : Nat
  payload : List Nat
  deriving DecidableEq, Repr

/-- A replay (R457 to R459): the next word to look at, the recorded tick of the last header and the shift Δ, whether it
stops at the first divergence, the replayed channels, and for each its current HEADER word with its TS and whether its
commit has been compared, a MARK DISAGREE before the next record, the channels whose first SNAPSHOT has been passed, where
each core pair's next CORE_READ is looked for, and the pairs whose CORE_START has been passed. -/
structure Replay where
  pos : Nat
  recTs : Nat
  delta : Int
  stop1 : Bool
  chans : Nat
  hdr : Vector (Option (Nat × Nat)) 4
  cmp : Nat
  disagree : Bool
  started : Nat
  corePos : Vector Nat 2
  coreUp : Nat
  deriving DecidableEq, Repr

/-- Owl beside its registers: the records of this tick, the records on their way to the ring as words with what is left
of the first, the TS of the last HEADER, dropped words not yet marked, the words still to write after a trigger, the
channels whose first snapshot since arming is due, the datagrams of the last offload (R455), a replay, and for each core pair the levels
of its interrupt inputs that Chuck has taken in and those that it has released (R309, R445). -/
structure OwlSt where
  fresh : List OwlRec
  queue : List (List Nat)
  hdrTs : Nat
  lost : Nat
  left : Option Nat
  snapDue : Nat
  sent : List (List Nat)
  replay : Option Replay
  irqIn : Vector Nat 2
  irqOut : Vector Nat 2
  deriving DecidableEq, Repr

/-! ### Pairing -/

/-- A takeover under way (R361, R365, R368): its source (0 heartbeat, 1 frame, 2 planned), whether it is hot, its
detection, the reload t_claim with its channel, whether XL_OUT runs for it, and whether SEL_FB has been found low once. -/
structure Claim where
  src : Nat
  hot : Bool
  det : Nat
  claimTs : Nat
  chan : Option Nat
  started : Bool
  retry : Bool
  deriving DecidableEq, Repr

/-- The pairing block beside its registers (R342 to R374): whether the link is up, the heartbeat output, a SECONDARY's wait, a takeover, the
release window's TS, a handover (0 none, 1 requested, 2 accepted), sequence numbers, the peer's last sync, the last 16
offsets, the carriers' next zeros at the peer, the run of aligned syncs, the peer's digest, the checkpoints of each
channel not yet adopted with the TS of their receipt, newest first, the runs of adopted and of missed ones, the last
adopted period, the channels that stopped following, those that a cold takeover will put into RUN, whether a meter
checkpoint was adopted, whether the link went down since NOT_READY, the last frame sent of each kind, whether the next ledger
record carries TAKEOVER (R366), the TS at which SEL_FB last changed,
and that of a cold takeover's t_claim. -/
structure TlsSt where
  link : Bool
  xlOut : Bool
  waiting : Bool
  claim : Option Claim
  release : Option Nat
  handoff : Nat
  hbSeq : Nat
  syncSeq : Nat
  echo : Option (Nat × Nat)
  ofs : List (Nat × Int)
  zeros : List Nat
  alignRun : Nat
  peerDigest : Option (List Nat)
  rx : Vector (List (Nat × List Nat)) 4
  adopted : Vector Nat 4
  missed : Vector Nat 4
  lastPer : Vector (Option Nat) 4
  stray : Nat
  coldPend : Nat
  meterOk : Bool
  wentDown : Bool
  tx : List (Nat × List Nat)
  takeoverFlag : Bool
  selTs : Nat
  coldTs : Nat
  deriving DecidableEq, Repr

/-! ### Faceplate and its links -/

/-- A command in execution whose completion waits for its effect (R380); `void`: its queue has closed meanwhile, and its completion
is discarded (R383). -/
structure RunOp where
  ctx : Ctx
  params : List Nat
  void : Bool
  deriving DecidableEq, Repr

/-- The last packet accepted on a queue (R376, R379): its sequence, its CRC, the packet count it was verified with, and
its completion when written. -/
structure LastPkt where
  seq : Nat
  crc : Nat
  count : Nat
  reply : Option (List Nat)
  deriving DecidableEq, Repr

/-- A queue pair beside its registers: the last packet, the counts of packets and completions since it opened, the
session key, the source that opened it, the TS of the last arrival, the ring indices that the pre-decoder has served,
and the assembly of a fragmented command (opcode, block length, data). -/
structure QpSt where
  last : Option LastPkt
  pkts : Nat
  cpls : Nat
  key : Option (List Nat)
  src : Nat
  lastTs : Nat
  served : List Nat
  asm : Option (Nat × Nat × List Nat)
  deriving DecidableEq, Repr

/-- A queue number that CHALLENGE reserved (R382, R527). -/
structure Reserve where
  q : Nat
  nonce : List Nat
  transport : Nat
  params : List Nat
  deriving DecidableEq, Repr

/-- Faceplate beside its registers: the queues, the reservations, the failed OPEN_P attempts and the bars by transport
with their TS, the queue last served in each class, commands in execution, the MP load runs, the alive counters of the
slots (of the host link at 4n + g, of CAN at 16 + 4n + g, each plus 1), and the runs of discarded messages. -/
structure FplSt where
  qps : Vector QpSt 64
  reserves : List Reserve
  fails : List (Nat × Nat)
  bars : List (Nat × Nat)
  turn : Vector Nat 4
  running : List RunOp
  above : Nat
  below : Nat
  alive : List (Nat × Nat)
  bad : Vector Nat 4
  deriving DecidableEq, Repr

/-- The links and the interrupt controller beside their registers: the last message sent on each transport, the packet
being assembled on each CAN (bytes and next index), the interrupts claimed and not completed, and the time relation each
spindle has (R405), and the address pins as the release of PORST_N sampled them (R399). -/
structure NetSt where
  out : List (Nat × List Nat)
  canAsm : Vector (Option (List Nat × Nat)) 2
  claimed : List (Nat × Nat)
  rel : Vector (Nat × Nat × Int) 4
  strap : Nat
  deriving DecidableEq, Repr

/-! ### Sett ring, meter, check values -/

/-- What a SLOW transaction is made for (R424): a command, the round-robin's read of a node's slot content or of its kind-specific
registers, or the meter's read of the pack ID. -/
inductive SlowUse where
  | command (c : Ctx)
  | slot
  | regs
  | pack
  deriving DecidableEq, Repr

/-- A SLOW transaction (R424): a write or a read of a node's registers, its entry, register, count and values, its attempts, and what it
is made for. -/
structure SlowTx where
  write : Bool
  node : Nat
  reg : Nat
  count : Nat
  data : List Nat
  tries : Nat
  use : SlowUse
  deriving DecidableEq, Repr

/-- One end of a Sett port (R413, R426): the cycle number of its FAST frame under way, its SLOW transaction under way, the round-robin's
place (the entry last begun, plus 1) and the reads of that node's kind-specific registers that are left. -/
structure SettEnd where
  fast : Option Nat
  slow : Option SlowTx
  turn : Nat
  left : Nat
  deriving DecidableEq, Repr

/-- A Sett port beside its registers: its ends A and B, the reloads counted towards the next FAST start, the FAST starts to come, the TS
of the last one, the next cycle number, frames lost in a row between the ends, frames of a LINE cycle that did not come back, FAST starts
until LINE mode, tests that arrived in a row, a return to RING that is due, the address an enumeration offers next, the SLOW transactions
that wait, and values gathered for a command. -/
structure SettSt where
  ends : Vector SettEnd 2
  reloads : Nat
  due : List Nat
  lastFast : Option Nat
  cycle : Nat
  lostRun : Nat
  lostEnds : Nat
  lineIn : Option Nat
  closeRun : Nat
  ringDue : Bool
  enumAt : Option Nat
  slowQ : List SlowTx
  got : List Nat
  deriving DecidableEq, Repr

/-- The meter beside its registers (R428 to R436): the residues of E_POS, E_NEG, Q_POS and Q_NEG below one unit, the flags of
the next record, the records held with their sequence numbers (newest first), the TS of the last record, a pack ID that the
last read found to differ, the TS of the last valid read of the pack ID, and what the running block uses of the fields of R430 (vlsb, ilsb,
vgain, igain, v_ofs, i_ofs, key_slot, pack_src). -/
structure MtrSt where
  res : Vector Nat 4
  flags : Nat
  records : List (Nat × List Nat)
  lastTs : Nat
  packCand : Option (List Nat)
  packTs : Nat
  scale : List Int
  deriving DecidableEq, Repr

/-- A check-value channel: its CRC register and the last counter (R437, R438). -/
structure CvuSt where
  crc : Nat
  last : Option Nat
  deriving DecidableEq, Repr

/-! ### Supplies, life cycle, boot -/

/-- A key slot (R487): its attribute byte as in `LCS_KPROG.attr` and its 32 bytes. -/
structure KeySlot where
  attr : Nat
  data : List Nat
  deriving DecidableEq, Repr

/-- Power, thermal, self-test and boot beside their registers: the start-up stage (0 held by PORST_N, 1 Badger's checks,
3 start-up BIST, 4 boot, 5 firmware, 6 ready, 7 failed, 8 shut-down BIST, 9 standby), the retention's bytes 0 to 507, whether
its CRC holds and whether the BIST record was marked invalid, whether SHUT_WAIT was logged, the TS at which a shut-down's wait or its
BIST began, the cause of a start asked for
during a shut-down, the cause that the next release of PORST_N will show, a self-test under way (its test set; 256 for a
manual one), the last CV7 reading and its TS, whether USER_TEMP was logged, the trims of R483, the running image's hash, an image to be
programmed, a profile change that software asked for and that has not taken effect, the level of RST_OUT_N, the life-cycle
fuses, the epoch fuses and the key slots of the OTP. -/
structure PwrSt where
  stage : Nat
  ret : List (Nat × Nat)
  retOk : Bool
  recBad : Bool
  waitLogged : Bool
  phaseTs : Nat
  startReq : Option Nat
  nextCause : Nat
  selftest : Option Nat
  cv7 : Option Int
  cv7Ts : Nat
  userHit : Bool
  trims : List Nat
  imgHash : List Nat
  fw : Option (List Nat)
  profTo : Option Nat
  rstOut : Bool
  fuses : Nat
  epochs : Nat
  keys : List (Nat × KeySlot)
  deriving DecidableEq, Repr


/-! ### The device -/

/-- The device as a whole: whether it is held (reset or standby), whether CFG_LOCK has been executed (R9). -/
structure Dev where
  held : Bool
  cfgLock : Bool
  deriving DecidableEq, Repr

/-! ### The whole state -/

/-- The state of the block. `sett` keeps, by 8e + i, of node entry e its last alive counter plus 1 (i = 0), its last flags
(1) and the run of slots with the failed-short flag (2). -/
structure State where
  pending : List Instr
  ts : Stamp
  free : Nat
  regs : List (Nat × Nat)
  rate : List (Nat × Nat)
  mem : MemSt
  log : EvLog
  inflight : List (Nat × Nat)
  ports : Vector BusPort 3
  cvb : CvbSt
  pos : PosSt
  gen : GenSt
  chans : Vector Chan 4
  sps : Vector SpSt 4
  links : Vector Link 2
  bdg : BdgSt
  chuck : List ChuckItem
  landing : List ChuckItem
  owl : OwlSt
  tls : TlsSt
  fpl : FplSt
  net : NetSt
  setts : Vector SettSt 2
  sett : List (Nat × Nat)
  mtr : MtrSt
  cvus : Vector CvuSt 4
  pwr : PwrSt
  dev : Dev
  deriving DecidableEq, Repr

/-! ### Reset -/

/-- A source that has delivered nothing. -/
def Src.none : Src := ⟨false, 0, 0, 0, 0, ⟨[], 0, false, 0, 0, 0, false⟩, false, 0, 0, 0, .none⟩

/-- A position interface after reset. -/
def Pif.reset : Pif :=
  ⟨Vector.replicate 6 ⟨false, false, .none⟩, 0, false, 0, Src.none, Src.none, Src.none, Src.none, 0, false, false, 0,
    false, .none, false, 0, 0, ⟨false, 0, .none, 0, false, true, []⟩, false, .none, 0, 0, .none, .none, .none⟩

/-- A stopped carrier. -/
def Carrier.reset : Carrier :=
  ⟨false, false, false, .none, false, 0, 0, 0, 0, ⟨0, [], 0, false⟩, .none, .none, false, false, false, 0, 0, 0, 0, 0, false, false, false,
    false, false, []⟩

/-- A leg with both outputs off. -/
def LegSt.reset : LegSt := ⟨0, 0, false, false, false, 0, .none, .plain, .plain, 0, 0, 0, [], .none, 0, false, .none, .none⟩

/-- A measurement that has never landed. -/
def Meas.reset : Meas := ⟨.none, 0, 0, 0, 0, 0⟩

/-- A field stage after reset. -/
def FldSt.reset : FldSt :=
  ⟨0, 0, 0, 0, .none, 0, 0, 0, 0, ⟨0, ⟨0, 0⟩, ⟨0, 0⟩, 0, 0, 0, 0, .none, 0⟩, ⟨false, 0, 0, 0, 0, 0, 0, 0, 0⟩,
    ⟨⟨0, 0⟩, 0, 0, false, 0, .none, 0, 0, 0, .none, [], false, .none, .none, 0, .none, (0, 0, 0, 0), false, 0, 0, [], 0, 0⟩,
    ⟨0, 0, 0, 0, 0, ⟨0, 0⟩, 0, 0, 0, 0, false, false⟩⟩

/-- A spindle after reset. -/
def SpSt.reset : SpSt :=
  ⟨Vector.replicate 8 Meas.reset, 0, 0, false, false, 0, false, false, 0, false, .none, 0, [], [], [], [], [], [], .none, .none, 0, .none, 0,
    false, false, .none, ⟨[], 0, 0, 0, 0, 0, 0, .none⟩, FldSt.reset, .none, .none, 0, false, Vector.replicate 8 Meas.reset, (0, 0), false⟩

/-- The registers whose reset value is not the one their table gives for every instance: the channel sources enabled for
the machine-mode context of CPA (R407), and the queues open at reset (R381), whose rings stand in the ring area in the
order of their numbers (assumption 72). Each entry is the field's key with the difference from its reset value. -/
def resetRegs : List (Nat × Nat) :=
  ([0, 1, 2, 3, 62, 63].map (fun q => (QPq_CFG_open.key q 0, 1)))
  ++ ([(1, 1), (2, 2), (3, 3), (62, 4), (63, 5)].map (fun q => (QPq_CFG_transport.key q.1 0, q.2)))
  ++ ([62, 63].map (fun q => (QPq_CFG_priv.key q 0, 1)))
  ++ ([(0, 2), (1, 2), (2, 2), (3, 2), (62, 1), (63, 1)].map (fun q => (QPq_CFG_class.key q.1 0, q.2)))
  ++ ([(0, 4), (1, 4), (2, 4), (3, 4), (62, 5), (63, 5)].map (fun q => (QPq_CFG_depth.key q.1 0, q.2)))
  ++ ([(0, 1000), (1, 1000), (2, 1000), (3, 1000), (62, 100), (63, 100)].map (fun q => (QPq_WAIT_qwait.key q.1 0, q.2)))
  ++ ([(0, 0x10580000), (1, 0x10582000), (2, 0x10584000), (3, 0x10586000), (62, 0x10588000), (63, 0x1058C000)].map
    (fun q => (QPq_BASE_addr.key q.1 0, q.2)))
  ++ [(PLIC_EN_bits.key 0 0, 0x3C)]

/-- The machine right after a power-on reset: PORST_N has been released, the always-on domain has lost its content, no fuse is
blown, and Badger's start-up checks are next (R466, R468). -/
def State.reset : State where
  pending := []
  ts := 0
  free := 0
  regs := resetRegs
  rate := []
  mem := ⟨[], [], [], [], [], []⟩
  log := ⟨[], []⟩
  inflight := []
  ports := Vector.replicate 3 ⟨.none, ⟨.none, 0, 0⟩, ⟨.none, 0⟩, []⟩
  cvb := ⟨Vector.replicate 8 ⟨.idle, 0, 0, 0, 0, .none, .none, [], false, false, [], false, false, 0, (0, 0)⟩,
    Vector.replicate 16 ⟨Vector.replicate 16 ⟨.idle, 0, 0, 0, 0, 0, false, false, false, false, false⟩, [], [], .none, 0⟩,
    Vector.replicate 48 ⟨0, 0, .idle⟩, Vector.replicate 4 .none⟩
  pos := ⟨Vector.replicate 4 Pif.reset, ⟨0, 0, 0⟩⟩
  gen := ⟨Vector.replicate 8 Carrier.reset, Vector.replicate 16 LegSt.reset, Vector.replicate 32 ⟨false, 0, true⟩, [], 0⟩
  chans := Vector.replicate 4 ⟨false, false, false, .none, .none, 0, false, .none, .none, .none, .none, .none, .none⟩
  sps := Vector.replicate 4 SpSt.reset
  links := Vector.replicate 2 ⟨[], 0, false, Vector.replicate 3 0, Vector.replicate 3 false, false, false, 0, .none, 0, 0, .none⟩
  bdg := ⟨.none, .none, [], [], [], 0, 0, 0, false, Vector.replicate 4 ⟨0, 0, .none, 0, 0, [], []⟩, Vector.replicate 3 ⟨0, true⟩,
    Vector.replicate 7 .none, 0, false, .none, 0, 0, .none, Vector.replicate 7 0, 0⟩
  chuck := []
  landing := []
  owl := ⟨[], [], 0, 0, .none, 0, [], .none, Vector.replicate 2 0, Vector.replicate 2 0⟩
  tls := ⟨false, false, false, .none, .none, 0, 0, 0, .none, [], [], 0, .none, Vector.replicate 4 [], Vector.replicate 4 0,
    Vector.replicate 4 0, Vector.replicate 4 .none, 0, 0, false, false, [], false, 0, 0⟩
  fpl := ⟨Vector.replicate 64 ⟨.none, 0, 0, .none, 0, 0, [], .none⟩, [], [], [], Vector.replicate 4 0, [], 0, 0, [],
    Vector.replicate 4 0⟩
  net := ⟨[], Vector.replicate 2 .none, [], Vector.replicate 4 (0, 0, 0), 0⟩
  setts := Vector.replicate 2 ⟨Vector.replicate 2 ⟨.none, .none, 0, 0⟩, 0, [], .none, 0, 0, 0, .none, 0, false, .none, [], []⟩
  sett := []
  mtr := ⟨Vector.replicate 4 0, 0, [], 0, .none, 0, [0, 0, 0x40000000, 0x40000000, 0, 0, 0, 0]⟩
  cvus := Vector.replicate 4 ⟨0, .none⟩
  pwr := ⟨1, [], false, false, false, 0, .none, 1, .none, .none, 0, false, [], [], .none, .none, false, 0, 0, []⟩
  dev := ⟨false, false⟩

end Sys2Proof.Machine
end

