-- ==== Sys2Proof/Machine/Ops.lean ====
section
/-! DEFINITION. The named operations every meaning is built from: the sparse stores, reading and writing a register
field, counters, the event intake (R406), raising a fault source, interrupts, free values, exact rounding. -/

namespace Sys2Proof.Machine

/-- What a meaning answers. -/
abbrev Out := Host.Outcome State Fault Refusal

/-! ### Sparse stores in canonical form -/

/-- The entry at a key; `d` where none is listed. -/
def sget {α : Type} (d : α) : List (Nat × α) → Nat → α
  | [], _ => d
  | (k', v) :: t, k => if k = k' then v else if k < k' then d else sget d t k

/-- Sets the entry at a key; writing `d` removes it, so that equal contents are equal lists. -/
def sput {α : Type} [DecidableEq α] (d : α) : List (Nat × α) → Nat → α → List (Nat × α)
  | [], k, v => if v = d then [] else [(k, v)]
  | (k', v') :: t, k, v =>
    if k < k' then (if v = d then (k', v') :: t else (k, v) :: (k', v') :: t)
    else if k = k' then (if v = d then t else (k, v) :: t)
    else (k', v') :: sput d t k v

/-- The canonical form of a store: keys strictly rising above `lo`, no entry equal to `d`. -/
def scanonFrom {α : Type} [DecidableEq α] (d : α) : Nat → List (Nat × α) → Bool
  | _, [] => true
  | lo, (k, v) :: t => decide (lo ≤ k) && decide (v ≠ d) && scanonFrom d (k + 1) t

/-- The canonical form of a store. -/
def scanon {α : Type} [DecidableEq α] (d : α) (m : List (Nat × α)) : Bool := scanonFrom d 0 m

/-- The canonical form of the memories: keys strictly rising, and no entry equal to the 0 that an unlisted one reads as
(assumption 3). -/
def Memory.wf (m : MemSt) : Bool :=
  scanon 0 m.bytes && scanon 0 m.mp && scanon 0 m.lathe && scanon 0 m.owl && scanon 0 m.ueKnown && scanon 0 m.writebacks

/-- The canonical form of the state's stores: the registers, the rate limits of events, the memories, the ring's nodes. -/
def State.wf (s : State) : Bool := scanon 0 s.regs && scanon 0 s.rate && Memory.wf s.mem && scanon 0 s.sett

/-- Changes the entry of a vector at an index. -/
def vupd {α : Type} {n : Nat} (v : Vector α n) (i : Fin n) (f : α → α) : Vector α n := v.set i.val (f v[i]) i.isLt

/-! ### Register fields -/

/-- TS as a number (R40). -/
def State.now (s : State) : Nat := s.ts.toNat

/-- The value of a field. The store keeps the difference (exclusive or) of each field from its reset value, so a field
nothing has written reads as its reset value. -/
def State.get (s : State) (f : Fld) (i : Nat := 0) (j : Nat := 0) : Nat :=
  sget 0 s.regs (f.key i j) ^^^ f.reset

/-- Writes a field, cut to its width. -/
def State.put (s : State) (f : Fld) (v : Nat) (i : Nat := 0) (j : Nat := 0) : State :=
  { s with regs := sput 0 s.regs (f.key i j) ((v % 2 ^ f.width) ^^^ f.reset) }

/-- A number's two's complement field of `w` bits. -/
def toField (w : Nat) (v : Int) : Nat := (v % (2 ^ w : Nat)).toNat

/-- The signed value of a `w`-bit two's complement field. -/
def ofField (w v : Nat) : Int := if v % 2 ^ w < 2 ^ (w - 1) then (v % 2 ^ w : Nat) else (v % 2 ^ w : Nat) - (2 ^ w : Nat)

/-- The signed value of a field. -/
def State.getS (s : State) (f : Fld) (i : Nat := 0) (j : Nat := 0) : Int := ofField f.width (s.get f i j)

/-- Whether a field is not 0. -/
def State.getB (s : State) (f : Fld) (i : Nat := 0) (j : Nat := 0) : Bool := s.get f i j != 0

/-- Writes a signed value into a field. -/
def State.putS (s : State) (f : Fld) (v : Int) (i : Nat := 0) (j : Nat := 0) : State := s.put f (toField f.width v) i j

/-- Writes a bit. -/
def State.putB (s : State) (f : Fld) (b : Bool) (i : Nat := 0) (j : Nat := 0) : State := s.put f (if b then 1 else 0) i j

/-- Puts a field back to its reset value; what the read of an RC field does (R10). -/
def State.clr (s : State) (f : Fld) (i : Nat := 0) (j : Nat := 0) : State := s.put f f.reset i j

/-- Increments a saturating counter (R524). -/
def State.incSat (s : State) (f : Fld) (i : Nat := 0) (j : Nat := 0) : State :=
  s.put f (min (s.get f i j + 1) (2 ^ f.width - 1)) i j

/-- Increments a wrapping counter (R525). -/
def State.incWrap (s : State) (f : Fld) (i : Nat := 0) (j : Nat := 0) : State := s.put f (s.get f i j + 1) i j

/-- Writes one bit of a bit-map field. -/
def State.putBit (s : State) (f : Fld) (k : Nat) (b : Bool) (i : Nat := 0) (j : Nat := 0) : State :=
  let v := s.get f i j
  s.put f (if b then v ||| 2 ^ k else if v.testBit k then v - 2 ^ k else v) i j

/-- One bit of a bit-map field. -/
def State.getBit (s : State) (f : Fld) (k : Nat) (i : Nat := 0) (j : Nat := 0) : Bool := (s.get f i j).testBit k

/-- Writes a 64-bit value into a LO and HI pair of fields. -/
def State.put64 (s : State) (lo hi : Fld) (v : Nat) (i : Nat := 0) (j : Nat := 0) : State :=
  (s.put lo v i j).put hi (v / 2 ^ 32) i j

/-- Reads a LO and HI pair of fields. -/
def State.get64 (s : State) (lo hi : Fld) (i : Nat := 0) (j : Nat := 0) : Nat := s.get lo i j + 2 ^ 32 * s.get hi i j

/-- Applies a change when a condition holds. -/
def State.onIf (s : State) (c : Bool) (f : State → State) : State := if c then f s else s

/-- Applies a change for each index below `n`, in order. -/
def State.forN (s : State) (n : Nat) (f : Nat → State → State) : State := (List.range n).foldl (fun s k => f k s) s

/-- Applies a change for each element of a list, in order. -/
def State.forL {α : Type} (s : State) (l : List α) (f : α → State → State) : State := l.foldl (fun s x => f x s) s

/-- A replay drives channel n (R458): live inputs do not reach its spindle. -/
def State.replayed (s : State) (n : Nat) : Bool := match s.owl.replay with
  | some r => r.chans.testBit n
  | none => false

/-! ### Interrupts and events -/

/-- Makes a platform interrupt source pending (R407). -/
def State.irq (s : State) (src : Nat) : State := s.putBit PLIC_PEND_bits (src % 32) true (src / 32)

/-- Inserts an event into the intake, in ascending code order within the tick (R406). -/
def insertEv (e : Nat × List Nat) : List (Nat × List Nat) → List (Nat × List Nat)
  | [] => [e]
  | x :: t => if e.1 < x.1 then e :: x :: t else x :: insertEv e t

/-- The interrupt of an event of the spindles, Owl, Tailstock, the host links, Sett, the meter and the CVU (R407). -/
def evIrq (code : Nat) (items : List Nat) : Option Nat :=
  match code / 256 with
  | 0x31 => some (48 + items.headD 0 % 4)
  | 0x50 => some 140
  | 0x61 => some 131
  | 0x62 => some 128
  | 0x63 => some 129
  | 0x64 => some 130
  | 0x70 => some 144
  | 0x71 => some 145
  | 0x78 => some 146
  | 0x79 => some 147
  | 0x7C => some 136
  | _ => none

/-- Delivers an event to the logger's intake; with 64 entries waiting the event is lost and counted (R406). -/
def State.logRaw (s : State) (code : Nat) (items : List Nat) : State :=
  let s := match evIrq code items with
    | some k => s.irq k
    | none => s
  if s.log.intake.length < 64 then { s with log := { s.log with intake := insertEv (code, items) s.log.intake } }
  else s.incSat FPL_EVT_STAT_lost

/-! ### Owl's records and triggers (R444 to R452) -/

/-- Owl records: it is RECORDING or TRIGGERED. -/
def State.owlOn (s : State) : Bool := s.get OWL_STAT_state == 1 || s.get OWL_STAT_state == 2

/-- Inserts a record into those of the tick, in the order of R446. -/
def insertRec (e : OwlRec) : List OwlRec → List OwlRec
  | [] => [e]
  | x :: t => if e.rank < x.rank then e :: x :: t else x :: insertRec e t

/-- The rank of a record in its tick (R446); a SNAPSHOT follows its COMMIT, and MARK DISAGREE stands before the input that it
marks (DEDUCED, assumption 60). -/
def recRank (type source : Nat) : Nat :=
  if type = 0x11 ∧ source = 6 then 3 else
  match type with
  | 0x01 => 0
  | 0x0E => 1
  | 0x0D => 2
  | 0x0B => 4
  | 0x10 => 4
  | 0x0C => 5
  | 0x11 => 6
  | _ => 3

/-- The words that Owl's intake holds. -/
def State.intakeUsed (s : State) : Nat := (s.owl.fresh.map (fun r => r.payload.length)).sum + (s.owl.queue.map List.length).sum

/-- A record enters Owl's intake, which holds 256 words; one that does not fit is dropped whole (R448). MARK TRIGGER is never dropped
(R460). -/
def State.owlRec (s : State) (type source : Nat) (payload : List Nat) : State :=
  if !s.owlOn then s
  else
    if s.intakeUsed + payload.length ≤ 256 || (type == 0x11 && source == 1) then
      { s with owl := { s.owl with fresh := insertRec ⟨recRank type source, type, source, payload⟩ s.owl.fresh } }
    else
      let s := { s with owl := { s.owl with lost := s.owl.lost + payload.length } }
      let s := s.put OWL_LOST_count (min (s.get OWL_LOST_count + payload.length) (2 ^ 32 - 1))
      let last := sget 0 s.rate 0x7C040000
      if last = 0 || last + 10 * 400000 ≤ s.now + 1 then
        let t := s.logRaw 0x7C04 [s.owl.lost]
        { t with rate := sput 0 t.rate 0x7C040000 (s.now + 1) }
      else s

/-- Trigger bit `b` of R452 occurs: the first event of a set mask bit while Owl is RECORDING is the trigger. -/
def State.owlTrig (s : State) (b : Nat) : State :=
  if s.get OWL_STAT_state != 1 || !s.getBit OWL_TRIG_MASK_mask b then s
  else
    let s := s.owlRec 0x11 1 [b]
    let s := (s.put OWL_STAT_state 2).put64 OWL_TRIG_TS_LO_ts OWL_TRIG_TS_HI_ts s.now
    s.logRaw 0x7C02 [b]

/-- Delivers an event: to the logger, and to trigger bit 13 of Owl. -/
def State.logEv (s : State) (code : Nat) (items : List Nat := []) : State :=
  let s := s.logRaw code items
  if s.get OWL_TRIG_EVT_code = code then s.owlTrig 13 else s

/-- Delivers an event at most once per `period` ticks for each instance `inst` of its source. -/
def State.logRate (s : State) (code inst period : Nat) (items : List Nat := []) : State :=
  let k := code * 0x10000 + inst
  let last := sget 0 s.rate k
  if last = 0 || last + period ≤ s.now + 1 then
    let t := s.logEv code items
    { t with rate := sput 0 t.rate k (s.now + 1) }
  else s

/-- Delivers an event once, and again only after `logAgain` (R65). -/
def State.logLatch (s : State) (code inst : Nat) (items : List Nat := []) : State :=
  let k := code * 0x10000 + inst
  if sget 0 s.rate k = 0 then
    let t := s.logEv code items
    { t with rate := sput 0 t.rate k 1 }
  else s

/-- An event that `logLatch` has delivered may be delivered again. -/
def State.logAgain (s : State) (code inst : Nat) : State := { s with rate := sput 0 s.rate (code * 0x10000 + inst) 0 }

/-- 1 ms in ticks. -/
def tkMs : Nat := 400000
/-- 1 µs in ticks. -/
def tkUs : Nat := 400

/-! ### Fault sources -/

/-- Sends a fault source on its way to Badger's fault collection unit; `FAULT_RAISED` is its arrival (R333). -/
def State.raise (s : State) (src : Nat) (payload : Nat := 0) : State := { s with inflight := s.inflight ++ [(src, payload)] }

/-- Source `k` of channel `n` (R332). -/
def chSrc (n k : Nat) : Nat := 0x40 + 0x20 * n + k
/-- Source `k` of link `l` (R332). -/
def lnkSrc (l k : Nat) : Nat := 0x30 + 8 * l + k

/-! ### Free values -/

/-- The next free value (assumption 5). -/
def State.freeVal (s : State) : Nat := Config.freeValue s.free
/-- Counts a free value as taken. -/
def State.freeNext (s : State) : State := { s with free := s.free + 1 }

/-! ### Exact arithmetic -/

/-- num / den rounded to the nearest integer, ties to even; den > 0. -/
def roundHE (num : Int) (den : Nat) : Int :=
  let q := num / (den : Int)
  let r2 := 2 * (num % (den : Int))
  if r2 < den then q else if r2 = den then (if q % 2 = 0 then q else q + 1) else q + 1

/-- num / den rounded towards zero; den > 0. -/
def divTrunc (num : Int) (den : Nat) : Int := Int.tdiv num den

/-- Saturates to [lo, hi]. -/
def satTo (lo hi v : Int) : Int := if v < lo then lo else if hi < v then hi else v

/-! ### Words known to be uncorrectable (R66, R67) -/

/-- The key of a word: region · 2^32 + word index or byte address. -/
def eccKey (region w : Nat) : Nat := region * 2 ^ 32 + w

/-- The word is known to be uncorrectable. -/
def isUe (s : State) (region w : Nat) : Bool := sget 0 s.mem.ueKnown (eccKey region w) != 0

/-- A word has been written in full (R65, R67): it is good again, and no write-back of it is due. -/
def ueClear (s : State) (region w : Nat) : State :=
  { s with mem := { s.mem with
    ueKnown := sput 0 s.mem.ueKnown (eccKey region w) 0, writebacks := sput 0 s.mem.writebacks (eccKey region w) 0 } }

/-- Runs a change unless the device is held in reset or standby (R465, R475), when nothing but the always-on domain acts. -/
def live (s : State) (f : State → State) : Out := .next (if s.dev.held then s else f s)

end Sys2Proof.Machine
end

