-- ==== Sys2Proof/Machine/Legs.lean ====
section
/-! DEFINITION. The leg generators (chapter "Leg generators and gate outputs"): what drives the pins (R191, R192),
fault inputs and trip lines (R183 to R190), carriers, duties and pulses (R159 to R182), the delay line. -/

namespace Sys2Proof.Machine

/-! ### Who owns what -/

/-- The carrier's place in the vector of carriers. -/
def carrIdx : Carr → Fin 8
  | .ch n => ⟨n.val, by omega⟩
  | .aux a => ⟨4 + a.val, by omega⟩

/-- DCH0 and DCH1 form a six-phase group (R160). -/
def State.six (s : State) : Bool := s.getB CHn_CTL_six 0

/-- The drive channel of a leg: none for the auxiliary legs 12 to 15 (R159, R160). -/
def legChan (s : State) (k : Nat) : Option Nat :=
  if 12 ≤ k then none else some (if s.six && k / 3 == 1 then 0 else k / 3)

/-- The carrier of a leg. -/
def legCarr (s : State) (k : Nat) : Carr :=
  if h : 12 ≤ k ∧ k < 16 then .aux ⟨k - 12, by omega⟩
  else
    match legChan s k with
    | some 0 => .ch 0
    | some 1 => .ch 1
    | some 2 => .ch 2
    | _ => .ch 3

/-- The legs of a carrier, in phase order (R159, R160). -/
def carrLegs (s : State) : Carr → List Leg
  | .ch n => (List.finRange 16).filter (fun k => legChan s k.val == some n.val)
  | .aux a => [⟨12 + a.val, by omega⟩]

/-- The carrier state of a carrier. -/
def State.carrier (s : State) (r : Carr) : Carrier := s.gen.carr[carrIdx r]

/-- Changes a carrier's state. -/
def State.modCarr (s : State) (r : Carr) (f : Carrier → Carrier) : State :=
  { s with gen := { s.gen with carr := vupd s.gen.carr (carrIdx r) f } }

/-- Changes a leg's state. -/
def State.modLeg (s : State) (k : Leg) (f : LegSt → LegSt) : State :=
  { s with gen := { s.gen with legs := vupd s.gen.legs k f } }

/-- Changes a fault input's or trip line's state. -/
def State.modFlt (s : State) (b : Fin 32) (f : Flt → Flt) : State :=
  { s with gen := { s.gen with flts := vupd s.gen.flts b f } }

/-- A field of a carrier that channels and auxiliary legs hold in registers of their own. -/
def cget (s : State) (r : Carr) (fc fa : Fld) : Nat :=
  match r with
  | .ch n => s.get fc n.val
  | .aux a => s.get fa (12 + a.val)

/-- Writes such a field. -/
def cput (s : State) (r : Carr) (fc fa : Fld) (v : Nat) : State :=
  match r with
  | .ch n => s.put fc v n.val
  | .aux a => s.put fa v (12 + a.val)

/-- Increments such a saturating counter. -/
def cinc (s : State) (r : Carr) (fc fa : Fld) : State :=
  match r with
  | .ch n => s.incSat fc n.val
  | .aux a => s.incSat fa (12 + a.val)

/-- The carrier mode: 0 CEN, 1 EDGE, 2 COT, 3 CFT. -/
def carrMode (s : State) (r : Carr) : Nat := cget s r CHn_CARR_mode LEGk_CARR_mode
/-- The reload selection: 0 RL_ZERO, 1 RL_PEAK, 2 RL_BOTH. -/
def carrRl (s : State) (r : Carr) : Nat := cget s r CHn_CARR_rl LEGk_CARR_rl

/-- CEN with RL_BOTH, whose control period is half the carrier period (R11). -/
def carrBoth (s : State) (r : Carr) : Bool := carrMode s r == 0 && carrRl s r == 2

/-- The state of a channel (R269). -/
def State.chState (s : State) (n : Nat) : Nat := s.get CHn_STATE_state n

/-- A channel in RUN or STOPPING. -/
def State.chRuns (s : State) (n : Nat) : Bool := s.chState n == 3 || s.chState n == 4

/-! ### What drives the pins -/

/-- Any cause of the output gate holds (R162). -/
def State.gateHeld (s : State) : Bool :=
  s.getB LEG_OGATE_reset || s.getB LEG_OGATE_standby || s.getB LEG_OGATE_replay || s.getB LEG_OGATE_selftest

/-- The pattern of a selector code: 2 is ASC_LOW, 3 is ASC_HIGH, else PULSE_OFF (R300). -/
def patOfSel (v : Nat) : Pat := if v = 2 then .ascLow else if v = 3 then .ascHigh else .off

/-- The code of a pattern in `CHn_STATE`. -/
def selOfPat : Pat → Nat
  | .off => 1
  | .ascLow => 2
  | .ascHigh => 3

/-- The legs of latch bit `b` (R183): FLTj for b = j, ITRIPm for b = 16 + m. -/
def fltLegs (s : State) (b : Nat) : Nat := if b < 16 then s.get FLTj_MAP_legs b else s.get ITRIPm_MAP_legs (b - 16)
/-- Its mode. -/
def fltMode (s : State) (b : Nat) : Nat := if b < 16 then s.get FLTj_CFG_mode b else s.get ITRIPm_CFG_mode (b - 16)
/-- Its latch pattern field. -/
def fltPat (s : State) (b : Nat) : Nat := if b < 16 then s.get FLTj_CFG_pat b else s.get ITRIPm_CFG_pat (b - 16)
/-- Its cut field. -/
def fltCut (s : State) (b : Nat) : Nat := if b < 16 then s.get FLTj_CFG_cut b else s.get ITRIPm_CFG_cut (b - 16)
/-- Its blanking time. -/
def fltBlank (s : State) (b : Nat) : Nat := if b < 16 then s.get FLTj_CFG_blank b else s.get ITRIPm_CFG_blank (b - 16)

/-- The latch bits of `FLT_STAT`. -/
def State.latched (s : State) (b : Nat) : Bool := if b < 16 then s.getBit FLT_STAT_flt b else s.getBit FLT_STAT_itrip (b - 16)

/-- The latch pattern that bit `b` gives leg `k` (R187): SELECT follows the channel's selector. -/
def latchPat (s : State) (b k : Nat) : Pat :=
  match fltPat s b with
  | 1 => .ascLow
  | 2 => .ascHigh
  | 3 => (match legChan s k with
      | some n => patOfSel (s.get CHn_STATE_sel n)
      | none => .off)
  | _ => .off

/-- The first latch that acts on a leg (R191 rank 3), if one does. -/
def firstLatch (s : State) (k : Nat) : Option Nat :=
  (s.gen.order.find? (fun e => (fltLegs s e.2).testBit k)).map (·.2)

/-- The outputs of a pattern: (high, low). -/
def patOut : Pat → Bool × Bool
  | .off => (false, false)
  | .ascLow => (false, true)
  | .ascHigh => (true, false)

/-- A pair's outputs restricted to what `LEGk_CFG.out` drives (R161). -/
def useOut (use : Nat) (o : Bool × Bool) : Bool × Bool :=
  (o.1 && use != 2, o.2 && use != 1)

/-- A channel's state beside its registers. -/
def State.chan (s : State) (n : Nat) : Chan := s.chans[n]?.getD ⟨false, false, false, none, none, 0, false, none, none, none, none, none, none⟩

/-- Changes it. -/
def State.modChan (s : State) (n : Ch) (f : Chan → Chan) : State := { s with chans := vupd s.chans n f }

/-- Whether committed duties of a channel may reach the pins: in RUN and STOPPING after the first reload with an on-time
commit (R19), and in DISCHARGING for a windings discharge (R294). -/
def State.outEn (s : State) (n : Nat) : Bool :=
  (s.chRuns n && (s.chan n).outEn) || (s.chState n == 5 && (s.chan n).windings && (s.chan n).outEn)

/-- The highest-ranking source of a leg and the outputs it asks for (R191). Rank 4 also covers a carrier that does not
run (R163), and a channel whose outputs wait for the first on-time commit (R19). -/
def legWant (s : State) (k : Leg) : Nat × Bool × Bool :=
  let g := s.gen.legs[k]
  let use := s.get LEGk_CFG_out k.val
  let duty := match g.forced with
    | some b => b
    | none => (g.cmd, !g.cmd)
  let low : Nat × Bool × Bool :=
    match firstLatch s k.val, g.hold with
    | some b, _ => (3, useOut use (patOut (latchPat s b k.val)))
    | none, some p => (3, useOut use (patOut p))
    | none, none =>
      let chOff := match legChan s k.val with
        | some n => !s.outEn n
        | none => false
      if chOff || !(s.carrier (legCarr s k.val)).run || (s.carrier (legCarr s k.val)).fresh then (4, false, false)
      else if g.cut = 2 then (5, false, false)
      else if g.cut = 1 then (5, useOut use (false, true))
      else (6, useOut use duty)
  if s.gateHeld || g.gateWait then (1, false, false)
  else
    match legChan s k.val with
    | some n =>
      if s.chState n == 6 then (2, useOut use (patOut (patOfSel (s.get CHn_STATE_pat n)))) else low
    | none => low

/-- An ASC pattern is in force on a leg: of its channel's safe state, or of a latch or held pattern of rank 3 (R191). -/
def legAsc (s : State) (k : Leg) : Bool :=
  if s.gateHeld || s.gen.legs[k].gateWait then false
  else match legChan s k.val with
    | none => false
    | some n =>
      if s.chState n == 6 then patOfSel (s.get CHn_STATE_pat n) != .off
      else match firstLatch s k.val, s.gen.legs[k].hold with
        | some b, _ => latchPat s b k.val != .off
        | none, some p => p != .off
        | none, none => false

/-- The level at pin GHk: an output that is off is at its inactive level (R161). -/
def State.pinGh (s : State) (k : Nat) : Bool := s.getB LEGk_STAT_gh k != s.getB LEGk_CFG_pol_h k

/-- The level at pin GLk. -/
def State.pinGl (s : State) (k : Nat) : Bool := s.getB LEGk_STAT_gl k != s.getB LEGk_CFG_pol_l k

/-! ### The chopper's switch-on (R287) -/

/-- Changes a link monitor. -/
def State.modLink (s : State) (l : Lnk) (f : Link → Link) : State := { s with links := vupd s.links l f }

/-- The mean of the last 16 samples, times 16; of those there are, when fewer came. -/
def mean16 (k : Link) : Int :=
  if k.hist.length = 0 then 0 else Int.tdiv (16 * k.hist.sum) (k.hist.length : Int)

/-- The auxiliary leg of a field. -/
def auxOf (v : Nat) : Fin 4 := ⟨v % 4, Nat.mod_lt _ (by omega)⟩

/-- The monitor's chopper leg. -/
def chopLeg (s : State) (l : Lnk) : Fin 4 := auxOf (s.get PRT_LNKl_CFG_chop_leg l.val)

/-- GHk has turned on: on a monitor's chopper leg, the first turn-on after a duty of 0 switches the chopper on (R287). -/
def chopWatch (s : State) (k : Leg) : State :=
  s.forL (List.finRange 2) (fun l s =>
    s.onIf (s.getB PRT_LNKl_CFG_en l.val && s.getB PRT_LNKl_CFG_chop_en l.val && decide (k.val = 12 + (chopLeg s l).val)
        && s.getB LEGk_STAT_gh k.val && !s.getB PRT_LNKl_STAT_chop l.val)
      (fun s => ((s.put PRT_LNKl_STAT_chop 1 l.val).logEv 0x4002 [l.val]).modLink l
        (fun q => { q with von := mean16 q, onTs := some s.now })))

/-! ### Inputs' levels and blanking -/

/-- `FLT_LVL` follows the active inputs and lines whose mode is not OFF (R197). -/
def State.syncLvl (s : State) : State :=
  let bits (lo : Nat) : Nat := (List.range 16).foldl
    (fun v j => if h : lo + j < 32 then (if s.gen.flts[lo + j].act && fltMode s (lo + j) != 0 then v + 2 ^ j else v) else v) 0
  (s.put FLT_LVL_flt (bits 0)).put FLT_LVL_itrip (bits 16)

/-- A turn-on edge of a leg under rank 6 restarts the blanking window of every input and line that maps it, which makes
them inactive (R184, R190, R193). A trip line has no filter count that the edge would clear: without a blanking time the edge leaves
it as it is. -/
def State.blankStart (s : State) (k : Leg) : State :=
  (s.forL (List.finRange 32) (fun b s =>
    s.onIf ((fltLegs s b.val).testBit k.val && (decide (b.val < 16) || fltBlank s b.val != 0))
      (fun s => s.modFlt b (fun f => { f with act := false, blankTs := s.now + fltBlank s b.val })))).syncLvl

/-- The `source` code of `LEGk_STAT` for a rank (R196). -/
def srcCode (rank : Nat) : Nat := if rank ≤ 2 then 3 else if rank ≤ 4 then 2 else if rank = 5 then 1 else 0

/-- An output that a leg's other output had on during the previous tick (R192): it is still on, or went off on this tick. -/
def wasOn (s : State) (on : Bool) (off : Option Nat) : Bool := on || off == some s.now

/-- Brings a leg's outputs to what its source asks (R192): what must turn off does so now; what must turn on waits out
its dead time when its complement was on during the previous tick, or when it follows a command edge of complementary use (R179):
`edge` says that the command has an edge now, `start` that its carrier starts. -/
def State.legApply (s : State) (edge start : Bool) (k : Leg) : State :=
  let g := s.gen.legs[k]
  let w := legWant s k
  let r := w.1
  let dh := w.2.1
  let dl := w.2.2
  let gh := s.getB LEGk_STAT_gh k.val
  let gl := s.getB LEGk_STAT_gl k.val
  let compl := s.get LEGk_CFG_out k.val == 0 && g.forced.isNone
  if r = g.rank && dh = (gh || g.waitH) && dl = (gl || g.waitL) then s
  else
    let dead := edge && r == 6 && (g.rank == 6 || start) && compl
    let waitH := dh && !gh && (wasOn s gl g.offL || dead || (g.waitH && r == g.rank))
    let waitL := dl && !gl && (wasOn s gh g.offH || dead || (g.waitL && r == g.rank))
    let onH := dh && !gh && !waitH
    let onL := dl && !gl && !waitL
    let s := s.modLeg k (fun g => { g with
      waitH := waitH, waitL := waitL, rank := r
      offH := if gh && !dh then some s.now else g.offH, offL := if gl && !dl then some s.now else g.offL })
    let s := (s.putB LEGk_STAT_gh (dh && !waitH) k.val).putB LEGk_STAT_gl (dl && !waitL) k.val
    let s := (s.put LEGk_STAT_source (srcCode r) k.val).putB LEGk_STAT_latched (r == 3) k.val
    let s := s.onIf onH (fun s => chopWatch s k)
    s.onIf ((onH || onL) && r == 6) (fun s => s.blankStart k)

/-- Brings every leg to its source. -/
def State.legsApply (s : State) : State := s.forL (List.finRange 16) (fun k s => s.legApply false false k)

end Sys2Proof.Machine
end

