-- ==== Sys2Proof/Machine/Trig.lean ====
section
/-! DEFINITION. Exact fixed-point sine, cosine, arctangent and square root, by structural recursion. The sine table of
R241 is computed: entry i is sin(2π·i / 4096) rounded half-even to 2^-31. -/

namespace Sys2Proof.Machine

/-- π in units of 2^-120. -/
def piFx : Int := 4175892906503776358826876457663557747

/-- The sum of the sine series from a term on, `n` terms: x² in units of 2^-120, the term t_k with index k. -/
def sinSeries (x2 : Int) : Nat → Nat → Int → Int
  | 0, _, _ => 0
  | n + 1, k, t => t + sinSeries x2 n (k + 2) (-(t * x2 / 2 ^ 120) / ((k + 1) * (k + 2) : Nat))

/-- sin(2π·a/den) for 0 ≤ a/den ≤ 1/4, in units of 2^-120. -/
def sinQuad (a den : Nat) : Int :=
  let x : Int := 2 * piFx * a / den
  sinSeries (x * x / 2 ^ 120) 24 1 x

/-- sin(2π·a/den) in units of 2^-120. -/
def sinTurn (a den : Nat) : Int :=
  let b := a % den
  if 4 * b ≤ den then sinQuad b den
  else if 2 * b ≤ den then sinQuad (den - 2 * b) (2 * den)
  else if 4 * b ≤ 3 * den then -sinQuad (2 * b - den) (2 * den)
  else -sinQuad (den - b) den

/-- cos(2π·a/den) in units of 2^-120. -/
def cosTurn (a den : Nat) : Int := sinTurn (4 * a + den) (4 * den)

/-- Halving search for the largest m < 2^bits with s·cos ≥ c·sin at m / 2^(bits+2) of a turn (first quadrant). -/
def atanSearch (s c : Nat) (den : Nat) : Nat → Nat → Nat
  | 0, m => m
  | b + 1, m =>
    let m' := m + 2 ^ b
    atanSearch s c den b (if (c : Int) * sinTurn m' den ≤ (s : Int) * cosTurn m' den then m' else m)

/-- The angle of (c, s) in units of 2^-bits of a turn, rounded down (bits ≥ 2); 0 for the zero vector. -/
def atan2Turn (s c : Int) (bits : Nat) : Nat :=
  let den := 2 ^ bits
  let q := 2 ^ (bits - 2)
  if s = 0 && c = 0 then 0
  else if 0 ≤ s && 0 < c then atanSearch s.natAbs c.natAbs den (bits - 2) 0
  else if 0 < s && c ≤ 0 then q + atanSearch c.natAbs s.natAbs den (bits - 2) 0
  else if s ≤ 0 && c < 0 then 2 * q + atanSearch s.natAbs c.natAbs den (bits - 2) 0
  else (3 * q + atanSearch c.natAbs s.natAbs den (bits - 2) 0) % den

/-- The largest r below 2^bits with r² ≤ v. -/
def isqrtBits (v : Nat) : Nat → Nat → Nat
  | 0, r => r
  | b + 1, r => isqrtBits v b (if (r + 2 ^ b) * (r + 2 ^ b) ≤ v then r + 2 ^ b else r)

/-- The integer square root of a number below 2^128. -/
def isqrt (v : Nat) : Nat := isqrtBits v 64 0

end Sys2Proof.Machine
end

