-- ==== Sys2Proof/Machine/Select.lean ====
section
/-! DEFINITION. The threshold of the safe-state selector (R277), and the link monitors whose voltage it uses (R284). -/

namespace Sys2Proof.Machine

/-! ### Link monitors a channel belongs to -/

/-- The channels that a link monitor names. -/
def members (s : State) (l : Lnk) : List Ch := (List.finRange 4).filter (fun n => s.getBit PRT_LNKl_CFG_members n.val l.val)

/-- The enabled link monitor of which channel n is a member. -/
def linkOf (s : State) (n : Ch) : Option Lnk :=
  (List.finRange 2).find? (fun l => s.getB PRT_LNKl_CFG_en l.val && s.getBit PRT_LNKl_CFG_members n.val l.val)

/-! ### Constants of the unit conversions -/

/-- √3 in units of 2^-60. -/
def sqrt3Fx : Nat := isqrt (3 * 2 ^ 120)
/-- 2π in units of 2^-60. -/
def twoPiFx : Nat := (2 * piFx / 2 ^ 60).toNat

/-! ### The threshold (R277) -/

/-- The voltage term of the selector's threshold as the link's samples give it now, in 2^-16 Hz, while it is valid. -/
def vtermNow (s : State) (n : Ch) : Option Int :=
  match linkOf s n with
  | none => none
  | some l =>
    let k := s.links[l]
    let scale := s.get CHn_VDC_SCALE_scale n.val
    let psi := s.get SPn_PSI_value n.val
    let w := s.get SPn_W_BASE_base n.val
    if 16 ≤ k.got && !k.starve && scale != 0 && psi != 0 && w != 0 then
      let v := (k.hist.take 16).sum + 16 * s.getS CHn_VDC_OFS_ofs n.val
      let num : Int := (s.get CHn_ASC_V_asc_vmargin n.val : Int) * v * (scale : Int) * (w : Int) * 2 ^ 44 * 2 ^ 120
      let den : Nat := 2 ^ 51 * psi * 1000 * sqrt3Fx * twoPiFx
      some (max 0 (Int.tdiv num den))
    else none

/-- The voltage term since the last period latch (R277). -/
def selVterm (s : State) (n : Ch) : Option Int := (s.chan n.val).selV

/-- Whether the selector's ASC choice `asc` is the pattern in force (R277): in SAFE the pattern that is not an explicit one, else a latch
with SELECT that acts on a leg. -/
def selInForce (s : State) (n : Ch) (asc : Nat) : Bool :=
  s.get CHn_STATE_sel n.val == asc
    && (if s.chState n.val = 6 then !s.getB CHn_STATE_held n.val
      else (carrLegs s (.ch n)).any (fun k => match firstLatch s k.val with
          | some b => fltPat s b == 3
          | none => false))

/-- The selector's threshold with its hysteresis. -/
def selThr (s : State) (n : Ch) (asc : Nat) : Int :=
  let base : Int := s.get CHn_ASC_SPD_asc_speed n.val
  let t := if s.get CHn_ASC_V_asc_vmargin n.val = 0 then base else match selVterm s n with
    | some v => min base v
    | none => base
  if selInForce s n asc then t * (65536 - s.get CHn_SAFECFG_asc_hyst n.val) / 65536 else t

/-- The ASC pattern that the channel prefers. -/
def ascPref (s : State) (n : Ch) : Nat := if s.getB CHn_SAFECFG_asc_pref n.val then 3 else 2

/-- `CHn_SEL_THR` shows the threshold. -/
def selShow (s : State) (n : Ch) : State :=
  s.put CHn_SEL_THR_thr (min (selThr s n (ascPref s n)).toNat (2 ^ 32 - 1)) n.val

/-- It follows for every channel when the pattern in force may have changed. -/
def selShowAll (s : State) : State := s.forL (List.finRange 4) (fun n s => selShow s n)

end Sys2Proof.Machine
end

