-- ==== Sys2Proof/Machine/FaultIn.lean ====
section
/-! DEFINITION. Fault inputs and internal trip lines (R183 to R190, R194): bit b is FLTj for b = j and ITRIPm for
b = 16 + m, as in `FLT_STAT`. -/

namespace Sys2Proof.Machine

/-- The legs of a bit map. -/
def mapLegs (m : Nat) : List Leg := (List.finRange 16).filter (fun k => m.testBit k.val)

/-- The channels that have a leg in a bit map. -/
def mapChans (s : State) (m : Nat) : List Nat :=
  (List.range 4).filter (fun n => (mapLegs m).any (fun k => legChan s k.val == some n))

/-- Inserts a latch into the order of R191: by tick, and on one tick FLT0 to FLT15 before ITRIP0 to ITRIP15. -/
def insertLatch (e : Nat × Nat) : List (Nat × Nat) → List (Nat × Nat)
  | [] => [e]
  | x :: t => if e.1 < x.1 || (e.1 == x.1 && e.2 < x.2) then e :: x :: t else x :: insertLatch e t

/-- A CYCLE cut begins on the legs of bit `b` (R186). -/
def State.cutLegs (s : State) (b : Nat) : State :=
  s.forL (mapLegs (fltLegs s b)) (fun k s =>
    (s.modLeg k (fun g => { g with cut := max g.cut (if fltCut s b = 1 then 2 else 1) })).legApply false false k)

/-- Writes a bit of `FLT_STAT`. -/
def State.putLatch (s : State) (b : Nat) (v : Bool) : State :=
  if b < 16 then s.putBit FLT_STAT_flt b v else s.putBit FLT_STAT_itrip (b - 16) v

/-- Bit `b` latches (R187, R190): its bit of `FLT_STAT`, the pattern on its legs, FLT_TRIP with the bit's number, the
channel's fault source FLT_LATCH or ITRIP_LATCH and, for lines and pins that belong to OC_TRIP, OC_TRIP (R283). -/
def State.latchSet (s : State) (b : Nat) : State :=
  if s.latched b then s
  else
    let s := s.putLatch b true
    let s := { s with gen := { s.gen with order := insertLatch (s.now, b) s.gen.order } }
    let s := selShowAll (s.forL (mapLegs (fltLegs s b)) (fun k s => s.legApply false false k))
    let s := ((s.logEv 0x2003 [b]).irq (160 + b)).owlTrig 8
    let s := s.forL (mapChans s (fltLegs s b)) (fun n s => s.raise (chSrc n (if b < 16 then 7 else 8)) b)
    s.forN 4 (fun n s =>
      s.onIf (if b < 16 then s.getBit CHn_OC_FLT_trip_flt b n else s.getBit CHn_OC_trip_lines (b - 16) n)
        (fun s => (s.put CHn_OCSTAT_oc_trip 1 n).raise (chSrc n 9) b))

/-- A trip line of OC_CYCLE cuts legs of its channels (R282). -/
def State.cutCount (s : State) (b : Nat) : State :=
  s.forL (List.finRange 4) (fun n s =>
    s.onIf (decide (16 ≤ b) && s.getBit CHn_OC_cyc_lines (b - 16) n.val && (mapChans s (fltLegs s b)).contains n.val) (fun s =>
      (s.modChan n (fun c => { c with cutSeen := true })).put CHn_OCSTAT_cut_now 1 n.val))

/-- Every carrier. -/
def allCarr : List Carr := (List.finRange 4).map Carr.ch ++ (List.finRange 4).map Carr.aux

/-- T of every leg of the carrier has elapsed (R168). -/
def tElapsed (s : State) (r : Carr) : Bool :=
  (carrLegs s r).all (fun k => decide (s.gen.legs[k].onFt ≤ s.now * 128))

/-- An edge of an end event source (R168): `kind` 1 CMPi_HI, 2 CMPi_LO, 3 a fault input in EVENT mode, with its number. The carriers
that name it see it, unless it falls during T; COT_END_EVENT takes it. -/
def State.endEdge (s : State) (kind idx : Nat) : State :=
  s.forL allCarr (fun r s => s.onIf (cget s r CHn_CT_evt_kind LEGk_CT_evt_kind == kind && cget s r CHn_CT_evt_idx LEGk_CT_evt_idx == idx
      && tElapsed s r)
    (fun s => s.modCarr r (fun c => { c with evt := true })))

/-- What an input or line that becomes active does in its mode (R186, R187, R189). -/
def State.fltEffect (s : State) (b : Nat) : State :=
  match fltMode s b with
  | 1 => (s.cutLegs b).cutCount b
  | 2 => s.latchSet b
  | 3 => if b < 16 then s.endEdge 3 b else s
  | _ => s

/-- A new mode, map or cut applies to an input or line that is active already (R184, R186, R190): in CYCLE mode it cuts. -/
def State.fltReapply (s : State) (b : Fin 32) : State :=
  s.onIf (s.gen.flts[b].act && fltMode s b.val == 1) (fun s => (s.cutLegs b.val).cutCount b.val)

/-- The level at fault pin j asserts the input (R183): pol 0 makes it active low. -/
def pinAsserts (s : State) (j : Fin 16) (lvl : Bool) : Bool := lvl == s.getB FLTj_CFG_pol j.val

/-- Bit j of a fault pin. -/
def fltBit (j : Fin 16) : Fin 32 := ⟨j.val, by omega⟩

/-- An input or line becomes active, unless its blanking window runs (R184, R190). -/
def State.fltActivate (s : State) (b : Fin 32) : State :=
  if s.now < s.gen.flts[b].blankTs then s
  else ((s.modFlt b (fun f => { f with act := true })).syncLvl).fltEffect b.val

/-- An input or line becomes inactive. -/
def State.fltRelease (s : State) (b : Fin 32) : State := (s.modFlt b (fun f => { f with act := false })).syncLvl

/-- The comparator output that trip line `m` watches is asserted (R190). -/
def itripIn (s : State) (m : Nat) : Bool :=
  if s.get ITRIPm_CFG_sel m = 0 then s.getB CMPi_STAT_hi_out (s.get ITRIPm_CFG_ain m)
  else s.getB CMPi_STAT_lo_out (s.get ITRIPm_CFG_ain m)

/-- A comparator output has deasserted: the lines that watch it become inactive (R190). -/
def State.tripRelease (s : State) : State :=
  s.forL (List.finRange 16) (fun m s =>
    s.onIf (s.gen.flts[(⟨16 + m.val, by omega⟩ : Fin 32)].act && !itripIn s m.val)
      (fun s => s.fltRelease ⟨16 + m.val, by omega⟩))

/-- Clears the latches named in `v` whose inputs are inactive (R188): their legs hold the pattern until their next
reload, or, where the carrier does not run, take what R191 and R163 give at once. -/
def State.latchClear (s : State) (v : Nat) : State :=
  selShowAll (s.forL (List.finRange 32) (fun b s =>
    s.onIf (v.testBit b.val && s.latched b.val && !s.gen.flts[b].act) (fun s =>
      let legs := mapLegs (fltLegs s b.val)
      let pats := legs.map (fun k => (k, firstLatch s k.val, latchPat s b.val k.val))
      let s := s.putLatch b.val false
      let s := { s with gen := { s.gen with order := s.gen.order.filter (fun e => e.2 != b.val) } }
      s.forL pats (fun p s =>
        let s := s.onIf (p.2.1 == some b.val && (s.carrier (legCarr s p.1.val)).run)
          (fun s => s.modLeg p.1 (fun g => { g with hold := some p.2.2 }))
        s.legApply false false p.1))))

/-! ### Meanings -/

/-- FAULT_INPUT_ACTIVE (R183 to R187): pin j has been at this level until the filter count reached FLT_FILT. -/
def execFaultInputActive (j : Fin 16) (lvl : Bool) (s : State) : Out :=
  live s (fun s =>
    let s := s.modFlt (fltBit j) (fun f => { f with pin := lvl })
    s.onIf (pinAsserts s j lvl) (fun s => s.fltActivate (fltBit j)))

/-- FAULT_INPUT_INACTIVE (R183, R184): the first tick on which pin j's level is not asserted. -/
def execFaultInputInactive (j : Fin 16) (lvl : Bool) (s : State) : Out :=
  live s (fun s =>
    let s := s.modFlt (fltBit j) (fun f => { f with pin := lvl })
    s.onIf (!pinAsserts s j lvl) (fun s => s.fltRelease (fltBit j)))

/-- ITRIP_ACTIVE (R190): trip line m's comparator output has asserted at the leg logic. -/
def execItripActive (m : Fin 16) (s : State) : Out :=
  live s (fun s => s.onIf (itripIn s m.val) (fun s => s.fltActivate ⟨16 + m.val, by omega⟩))

/-- BLANK_END (R190): trip line m's blanking window ends; an output still asserted makes the line active. -/
def execBlankEnd (m : Fin 16) (s : State) : Out :=
  live s (fun s =>
    let b : Fin 32 := ⟨16 + m.val, by omega⟩
    let s := s.modFlt b (fun f => { f with blankTs := min f.blankTs s.now })
    s.onIf (itripIn s m.val) (fun s => s.fltActivate b))

/-- DEAD_TIME_END (R179, R192): an output that waited out its dead time turns on. -/
def execDeadTimeEnd (k : Leg) (high : Bool) (s : State) : Out :=
  live s (fun s =>
    let g := s.gen.legs[k]
    if high then
      s.onIf g.waitH (fun s =>
        (chopWatch ((s.modLeg k (fun g => { g with waitH := false })).putB LEGk_STAT_gh true k.val) k).onIf (g.rank == 6)
          (fun s => s.blankStart k))
    else
      s.onIf g.waitL (fun s =>
        ((s.modLeg k (fun g => { g with waitL := false })).putB LEGk_STAT_gl true k.val).onIf (g.rank == 6)
          (fun s => s.blankStart k)))

/-- OUTPUT_GATE_RELEASE (R162): when no cause holds any longer, every output stays off until the next reload of its
channel or auxiliary leg. -/
def State.gateRelease (s : State) : State :=
  if s.gateHeld then s
  else (s.forL (List.finRange 16) (fun k s => s.modLeg k (fun g => { g with gateWait := true }))).legsApply

/-- A cause of the gate begins to hold (R162): every output is off within the tick. -/
def State.gateHold (s : State) (f : Fld) : State := (s.put f 1).legsApply

/-- A cause of the gate ends (R162). -/
def State.gateEnd (s : State) (f : Fld) : State := if s.getB f then (s.put f 0).gateRelease else s

end Sys2Proof.Machine
end

