-- ==== Sys2Proof/Machine/Carriers.lean ====
section
/-! DEFINITION. Carriers, duties, pulses (R163 to R182) and the delay line (R172, R173). Instants are in ft from the
first CKP edge (128 ft to the tick). -/

namespace Sys2Proof.Machine

/-- The profile in force on a channel: the active one, or the one before a thermal change that waits for the channel's reload (R31). -/
def State.profOf (s : State) (n : Nat) : Nat := (s.chan n).prof.getD (s.get SYS_PROFILE_active)

/-- A thermal change is complete when it has reached every channel; one whose carrier does not run has no reload to wait for (R31,
R32). -/
def profDone (s : State) : State :=
  if s.pwr.profTo.isNone && (List.finRange 4).all (fun n => (s.chan n.val).prof.isNone || !(s.carrier (.ch n)).run) then
    (s.forL (List.finRange 4) (fun n s => s.modChan n (fun c => { c with prof := none }))).put SYS_PROFILE_pending 0
  else s

/-- A waiting profile change takes effect on a channel (R23, R31). -/
def profTake (s : State) (n : Ch) : State :=
  if (s.chan n.val).prof.isNone then s else profDone (s.modChan n (fun c => { c with prof := none }))

/-- The shortest control period of a channel's profile in ft (R29). -/
def State.profMinFt (s : State) (n : Nat) : Nat :=
  match s.profOf n with
  | 0 => 256000
  | 1 => 1024000
  | 2 => 2048000
  | _ => 5120000

/-- The shortest carrier period of R159 in ft. -/
def carrMinFt : Carr → Nat
  | .ch _ => 256000
  | .aux _ => 51200

/-- The carrier period that gives the profile minimum of a channel (R167); 0 for an auxiliary leg. -/
def profCarrMin (s : State) (r : Carr) : Nat :=
  match r with
  | .ch n => if carrBoth s r then 2 * s.profMinFt n.val else s.profMinFt n.val
  | .aux _ => 0

/-- The control period of a carrier period (R11). -/
def ctrlOf (s : State) (r : Carr) (per : Nat) : Nat := if carrBoth s r then per / 2 else per

/-- A committed period as it is taken, with the event of the rule that clamped it (R167). -/
def clampPer (s : State) (r : Carr) (p : Nat) : Nat × Option Nat :=
  let a := carrMinFt r
  let b := profCarrMin s r
  if p < b && a ≤ b then (b, some 0x2404) else if p < a then (a, some 0x2405) else if p < b then (b, some 0x2404) else (p, none)

/-- The on-time of a ratio duty in a length (R176). -/
def onRatio (d len : Nat) : Nat := (roundHE ((min d 0x10000 * len : Nat) : Int) 65536).toNat

/-- The carrier's duties are absolute on-times (R177, R178). -/
def carrAbs (s : State) (r : Carr) (c : Commit) : Bool :=
  !c.ratio && (match r with
    | .ch n => s.get CHn_CTL_dmode n.val == 1
    | .aux a => s.get LEGk_CARR_dmode (12 + a.val) == 1)

/-- The on-time a commit's duty gives in a half or period of a length (R176, R177). -/
def onTime (s : State) (r : Carr) (c : Commit) (idx len : Nat) : Nat :=
  let d := c.duty.getD idx 0
  if carrAbs s r c then min d len else onRatio d len

/-- An instant rounded to the nearest whole tick (R173; DEDUCED rounding, assumption 110). -/
def wholeTick (t : Nat) : Nat := ((t + 64) / 128) * 128

/-- An instant as a carrier places it: on its fine tick, or on a whole tick after DL_FAIL (R173). -/
def placeFt (s : State) (r : Carr) (t : Nat) : Nat := if (s.carrier r).whole then wholeTick t else t

/-- How a short pulse is judged (R180): effective width `e`, the instant at which it would reach MINPW, and the limit
that its turn-off can reach. Widths below 2 tk are never placed (R171). -/
def judge (s : State) (k : Leg) (e : Int) (reach limit : Nat) : Judge :=
  let minpw := s.get LEGk_MINPW_minpw k.val
  let pol := s.get LEGk_CFG_minpw_pol k.val
  if e ≤ 0 then .plain
  else if e < minpw then
    (match pol with
     | 1 => if reach ≤ limit then .atLeast else .drop
     | 2 => if 256 ≤ e then .plain else .drop
     | _ => .drop)
  else if e < 256 then .drop
  else if minpw != 0 && pol != 2 then .atLeast else .plain

/-- Counts a judged pulse (R180): `short` says that its width was below MINPW. -/
def countJudge (s : State) (k : Leg) (j : Judge) (short : Bool) : State :=
  match j with
  | .drop => s.incSat LEGk_STAT_drop_cnt k.val
  | .atLeast => s.onIf short (fun s => s.incSat LEGk_STAT_stretch_cnt k.val)
  | .plain => s

/-- The dead time that comes off a high-side (`hi`) or low-side pulse: none outside complementary use (R180). -/
def deadOf (s : State) (k : Leg) (hi : Bool) : Nat :=
  if s.get LEGk_CFG_out k.val = 0 then (if hi then s.get LEGk_DTH_dt_h k.val else s.get LEGk_DTL_dt_l k.val) else 0

/-- Whether the policy applies to the pulse of an output: not to one that the leg's use leaves off. -/
def judged (s : State) (k : Leg) (hi : Bool) : Bool :=
  s.get LEGk_CFG_out k.val != (if hi then 2 else 1)

/-- A pulse of the high-side (`hi`) or low-side command of width `w` that begins at `t0` and can end by `limit` (R171, R180), with
its count. Of the output that the use leaves off, the pulse is the off gap of the driven output: one below 2 tk is not placed
(DEDUCED, assumption 111). -/
def judgePulse (s : State) (k : Leg) (hi : Bool) (w t0 limit : Nat) : Judge × State :=
  if w = 0 then (.plain, s)
  else if !judged s k hi then (if w < 256 then .drop else .plain, s)
  else
    let e : Int := (w : Int) - deadOf s k hi
    let minpw := s.get LEGk_MINPW_minpw k.val
    let j := judge s k e (t0 + deadOf s k hi + minpw) limit
    (j, countJudge s k j (e < minpw))

/-- The earliest end of a pulse that began at `t0` (R171, R181): MINPW of effective width where the policy keeps it, else 2 tk. -/
def pulseEnd (s : State) (k : Leg) (hi : Bool) (j : Judge) (t0 : Nat) : Nat :=
  t0 + deadOf s k hi + (if j = .atLeast then max 256 (s.get LEGk_MINPW_minpw k.val) else 256)

/-- A pulse's end as a later commit places it (R171, R181): not before the bound where the pulse keeps its width, or where an output
that has turned on would turn off within 2 tk. -/
def keepEnd (j : Judge) (t bound limit : Nat) : Nat :=
  if j = .atLeast ∨ bound < t + 256 then min (max t bound) limit else t

/-- The up half of CEN, or its repetition (R164, R180, R181): the end of the low pulse and the begin of the high pulse. A low pulse
that begins with the half is judged here; so is the high pulse, whose turn-off lies in the down half. -/
def planUp (s : State) (r : Carr) (idx : Nat) (k : Leg) : State :=
  let c := s.carrier r
  let g := s.gen.legs[k]
  let t0 := c.halfFt
  let tp := t0 + c.hUp
  let a0 := tp - min g.oUp c.hUp
  -- the low pulse of this half
  let lead := g.cmd && g.loJ != .drop && decide (t0 < a0)
  let lj := if lead then judgePulse s k false (a0 - t0) t0 tp else (g.loJ, s)
  let s := lj.2
  let on := if lead then keepEnd lj.1 a0 (pulseEnd s k false lj.1 t0) tp else keepEnd g.loJ a0 g.loEnd tp
  if lj.1 = .drop && g.cmd then s.modLeg k (fun g => { g with edges := [], loJ := .plain, hiJ := .plain, hiEnd := 0, onFt := t0 })
  else
    let lenDn := if carrBoth s r then c.act.per - c.act.per / 2 else c.hDn
    let dn := if carrBoth s r then onTime s r c.act idx lenDn else g.oDn
    let w := (tp - on) + dn
    let hj := if w = c.hUp + lenDn then (.plain, s) else judgePulse s k true w on (tp + lenDn)
    let s := hj.2
    let edges := if hj.1 = .drop then (if g.cmd then [(t0, false)] else [])
      else if g.cmd then (if on = t0 then [] else if g.oUp = 0 then [(t0, false)] else [(t0, false), (on, true)])
      else if g.oUp = 0 then [] else [(on, true)]
    s.modLeg k (fun g => { g with
      edges := edges.map (fun e => (placeFt s r e.1, e.2)), hiJ := hj.1, hiEnd := pulseEnd s k true hj.1 on, loJ := .plain, onFt := on })

/-- The down half of CEN: the end of the high pulse and the begin of the low pulse. A high pulse that begins with the half is judged
here (R181); so is the low pulse, whose turn-off lies in the next up half. -/
def planDown (s : State) (r : Carr) (idx : Nat) (k : Leg) : State :=
  let c := s.carrier r
  let g := s.gen.legs[k]
  let t0 := c.halfFt
  let te := t0 + c.hDn
  let b0 := t0 + min g.oDn c.hDn
  let cmdAt := g.cmd || (g.oUp != 0 && decide (g.onFt < t0))
  let lead := !cmdAt && g.hiJ == .plain && g.oUp == 0 && decide (t0 < b0)
  let hj := if lead then judgePulse s k true (b0 - t0) t0 te else (g.hiJ, s)
  let s := hj.2
  if hj.1 = .drop then
    s.modLeg k (fun g => { g with edges := if g.cmd then [(t0, false)] else [], hiJ := .plain, loJ := .plain, loEnd := 0 })
  else
    let off := if lead then keepEnd hj.1 b0 (pulseEnd s k true hj.1 t0) te
      else if cmdAt || g.oUp != 0 then keepEnd g.hiJ b0 g.hiEnd te else b0
    let hUp' := if carrBoth s r then c.act.per / 2 else c.hUp
    let up' := if carrBoth s r then onTime s r c.act idx hUp' else g.oUp
    let w := (te - off) + (hUp' - up')
    let lj := if w = c.hDn + hUp' then (.plain, s) else judgePulse s k false w off (te + hUp')
    let s := lj.2
    let first := if cmdAt || off = t0 then [] else [(t0, true)]
    let last := if lj.1 = .drop || off = te || (off = t0 && !cmdAt) then [] else [(off, false)]
    s.modLeg k (fun g => { g with
      edges := (first ++ last).map (fun e => (placeFt s r e.1, e.2)), loJ := lj.1, loEnd := pulseEnd s k false lj.1 off, hiJ := .plain })

/-- A period of EDGE (R165), COT or CFT (R168): one pulse of `on` ft at its start, high in EDGE and COT, low in CFT, then the other
until the period ends. In COT and CFT that end is not known when the second pulse begins: it is judged at the longest the period can
be (DEDUCED, assumption 111). -/
def planEdge (s : State) (r : Carr) (k : Leg) : State :=
  let c := s.carrier r
  let g := s.gen.legs[k]
  let m := carrMode s r
  let t0 := c.halfFt
  let len := if m = 1 then c.act.per else cget s r CHn_PERMAX_per_max LEGk_PERMAX_per_max
  let hi := m != 3
  let w := min g.oUp len
  let j := if len ≤ g.oUp then (.plain, s) else judgePulse s k hi w t0 (t0 + len)
  let s := j.2
  let t1 := if j.1 = .atLeast then max (t0 + w) (pulseEnd s k hi j.1 t0) else t0 + w
  let j2 := if t0 + len ≤ t1 || g.oUp = 0 || j.1 = .drop then (.plain, s) else judgePulse s k (!hi) (t0 + len - t1) t1 (t0 + len)
  let s := j2.2
  let edges :=
    if j.1 = .drop then (if g.cmd = hi then [(t0, !hi)] else [])
    else (if g.oUp = 0 then (if g.cmd = hi then [(t0, !hi)] else [])
      else (if g.cmd = hi then [] else [(t0, hi)]) ++ (if t0 + len ≤ t1 || j2.1 = .drop then [] else [(t1, !hi)]))
  s.modLeg k (fun g => { g with
    edges := edges.map (fun e => (placeFt s r e.1, e.2)), hiJ := .plain, loJ := .plain, onFt := t1 })

/-- Plans the command edges of the half or period that has just begun, leg by leg in phase order. -/
def planHalf (s : State) (r : Carr) : State :=
  let c := s.carrier r
  s.forL (carrLegs s r).zipIdx (fun ki s =>
    if carrMode s r = 0 then (if c.down then planDown s r ki.2 ki.1 else planUp s r ki.2 ki.1) else planEdge s r ki.1)

/-- DCH n's carrier follows commit `c` at a reload: the period clamped under R167, the halves and on-times it sets under
R166 and R167, an absolute duty beyond its half counted under R177. -/
def takeCommit (s : State) (r : Carr) (c : Commit) : State :=
  let p := clampPer s r c.per
  let c := { c with per := p.1 }
  let m := carrMode s r
  let both := carrBoth s r
  let k := s.carrier r
  let setUp := m != 0 || !both || !k.down
  let setDn := m == 0 && (!both || k.down)
  let hUp := if setUp then (if m = 0 then p.1 / 2 else p.1) else k.hUp
  let hDn := if setDn then p.1 - p.1 / 2 else k.hDn
  let lenT := if m = 0 then (if k.down && both then hDn else hUp)
    else if m = 1 then p.1 else cget s r CHn_PERMAX_per_max LEGk_PERMAX_per_max
  let s := s.modCarr r (fun k => { k with act := c, hUp := hUp, hDn := hDn })
  let s := match p.2 with
    | some code =>
      ((cput (cinc s r CHn_CSTAT_per_clamp_cnt LEGk_CSTAT_per_clamp_cnt) r CHn_CSTAT_per_clamp LEGk_CSTAT_per_clamp 1)).logEv
        code [(carrIdx r).val, c.per]
    | none => s
  let s := s.forL (carrLegs s r).zipIdx (fun ki s =>
    let up := if m < 2 then onTime s r c ki.2 hUp else min (c.duty.getD ki.2 0) lenT
    let dn := onTime s r c ki.2 hDn
    let s := s.modLeg ki.1 (fun g => { g with oUp := if setUp then up else g.oUp, oDn := if setDn then dn else g.oDn })
    s.onIf (carrAbs s r c && lenT < c.duty.getD ki.2 0) (fun s =>
      (cput (cinc s r CHn_CSTAT_mismatch_cnt LEGk_CSTAT_mismatch_cnt) r CHn_CSTAT_mismatch LEGk_CSTAT_mismatch 1).logRate
        0x2406 (carrIdx r).val (10 * tkMs) [(carrIdx r).val]))
  cput s r CHn_GEN_act_gen LEGk_GEN_act_gen c.gen

/-- The instant in ft at which the running half or period ends, as its lengths say. -/
def halfEnd (s : State) (r : Carr) : Nat :=
  let c := s.carrier r
  if c.fresh then c.halfFt
  else match carrMode s r with
    | 0 => if carrRl s r = 2 then c.halfFt + (if c.down then c.hDn else c.hUp)
      else if c.down == (carrRl s r == 1) then c.halfFt + c.hUp + c.hDn
      else c.halfFt + (if c.down then c.hDn else c.hUp)
    | 1 => c.halfFt + c.hUp
    | _ => s.now * 128

/-- The reference carrier of a synchronised start (R170). -/
def syncRef (s : State) (r : Carr) : Ch := match r with
  | .ch _ => 0
  | .aux a => ⟨s.get LEGk_CARR_sync_ch (12 + a.val) % 4, Nat.mod_lt _ (by omega)⟩

/-- The carrier waits for a reference (R170). -/
def syncOn (s : State) (r : Carr) : Bool := cget s r CHn_CARR_sync LEGk_CARR_sync == 1

/-- Channel n has met carrier zero at `t` ft: a carrier that waits for it starts `phase` / 65,536 of its period later (R170). -/
def syncMark (s : State) (n : Ch) (t : Nat) : State :=
  s.forL allCarr (fun r s =>
    let c := s.carrier r
    s.onIf (c.waiting && syncOn s r && syncRef s r == n && c.startFt.isNone) (fun s =>
      s.modCarr r (fun c => { c with
        startFt := some (t + (s.carrier (.ch n)).act.per * cget s r CHn_CARR_phase LEGk_CARR_phase / 65536) })))

/-- The next half or period begins at `t`: its bookkeeping, `CSTAT.half` and, at carrier zero, the length of the last
carrier period (`PERLAST`). -/
def beginHalf (s : State) (r : Carr) (down : Bool) (t : Nat) : State :=
  let c := s.carrier r
  let s := s.onIf (!down && !c.fresh) (fun s => cput s r CHn_PERLAST_per LEGk_PERLAST_per (t - c.zeroFt))
  let s := s.modCarr r (fun c => { c with
    down := down, halfFt := t, zeroFt := if down then c.zeroFt else t, fresh := false, tOver := false, evt := false, endStored := false })
  let s := match r with
    | .ch n => s.onIf (!down) (fun s => syncMark s n t)
    | .aux _ => s
  cput s r CHn_CSTAT_half LEGk_CSTAT_half (if down then 1 else 0)

/-- The half that a reload begins is a down half (R166). -/
def reloadDown (s : State) (r : Carr) : Bool :=
  carrMode s r == 0 && (carrRl s r == 1 || (carrRl s r == 2 && !(s.carrier r).fresh && !(s.carrier r).down))

/-- The commit deadline of the period that begins (R13, R20), and the guard of an auxiliary leg (R178). An instant within a tick counts
as that tick (DESIGN CHOICE, assumption 112). -/
def deadlineTick (s : State) (r : Carr) (t : Nat) : Nat :=
  let c := s.carrier r
  match r with
  | .ch n =>
    let g := s.get CHn_TIMING_commit_guard n.val
    let len := match carrMode s r with
      | 0 => if carrRl s r = 2 then (if c.down then c.hDn else c.hUp) else c.hUp + c.hDn
      | 1 => c.hUp
      | _ => s.get CHn_PERMIN_per_min n.val
    (t + len) / 128 - g
  | .aux _ => (t + (if carrBoth s r then (if c.down then c.hDn else c.hUp) else c.act.per)) / 128 - 8

/-- The outputs of a carrier's legs follow their sources where its next half begins; at its start the command turns on (R179). -/
def carrApply (s : State) (r : Carr) (start : Bool) : State :=
  s.forL (carrLegs s r) (fun k s => s.legApply start start k)

/-- In COT and CFT an auxiliary leg's guard ends 8 tk before a reload that was not known (R178): the last commit that arrived before
it is taken, and one that arrived within it waits. -/
def guardSort (s : State) (r : Carr) : State :=
  let c := s.carrier r
  if c.recent.isEmpty then s
  else
    let ok := c.recent.filter (fun e => decide (e.1 + 8 < s.now))
    let late := c.recent.filter (fun e => !decide (e.1 + 8 < s.now))
    s.modCarr r (fun c => { c with
      recent := [], pend := ((ok.getLast?).map (·.2)).or c.pend, held := ((late.getLast?).map (·.2)).or c.held })

/-- A carrier reload (R23 ranks 3 and 4): the delay-line code applies (R172), whole-tick placement ends after a valid
measurement (R173), the waiting commit is taken, a late one becomes the waiting one (R15), held latch patterns end
(R188), a released output gate opens (R162), the outputs follow their sources, and the period's edges are planned. -/
def carrierReload (s : State) (r : Carr) : State :=
  let s := guardSort s r
  let c := s.carrier r
  let t := halfEnd s r
  let s := s.modCarr r (fun c => { c with whole := c.whole && !c.wholeEnd, wholeEnd := false })
  let s := beginHalf s r (reloadDown s r) t
  let s := s.modCarr r (fun c => { c with code := s.get LEG_DLCAL_code, prevTs := c.reloadTs, reloadTs := s.now, reloadFt := t })
  let s := takeCommit s r (c.pend.getD c.act)
  let s := s.modCarr r (fun c => { c with pend := c.held, held := none, onTime := false, blocked := false, dlPassed := false })
  let s := s.modCarr r (fun c => { c with deadline := deadlineTick s r t })
  let s := cput s r CHn_CSTAT_pend LEGk_CSTAT_pend (if c.held.isSome then 1 else 0)
  let s := s.forL (carrLegs s r) (fun k s => s.modLeg k (fun g => { g with hold := none, gateWait := g.gateWait && s.gateHeld }))
  carrApply (planHalf s r) r c.fresh

/-- Puts a commit into the shadow of a carrier: waiting for the next reload, or held for the one after (R15, R178). -/
def offerCommit (s : State) (r : Carr) (c : Commit) (onTime : Bool) : State :=
  let s := cput s r CHn_GEN_pend_gen LEGk_GEN_pend_gen c.gen
  let s := cput s r CHn_CSTAT_pend LEGk_CSTAT_pend 1
  if onTime then s.modCarr r (fun k => { k with pend := some c, held := none, onTime := true })
  else s.modCarr r (fun k => { k with held := some c })

/-- A commit of an auxiliary leg (R178): judged against the guard of 8 tk, in COT and CFT when the reload comes. -/
def auxCommit (s : State) (a : Fin 4) (c : Commit) : State :=
  let r : Carr := .aux a
  let k := s.carrier r
  if !k.run then s
  else if carrMode s r < 2 then offerCommit s r c (decide (s.now < k.deadline))
  else
    let s := cput (cput s r CHn_GEN_pend_gen LEGk_GEN_pend_gen c.gen) r CHn_CSTAT_pend LEGk_CSTAT_pend 1
    s.modCarr r (fun k => { k with recent := k.recent ++ [(s.now, c)] })

/-- The shadow registers of a carrier as a commit (R163, R174). -/
def shadowCommit (s : State) (r : Carr) (gen : Nat) : Commit :=
  match r with
  | .ch n => ⟨s.get CHn_PER_per n.val, (List.range 6).map (fun k => s.get CHn_DUTYk_duty n.val k), gen, false⟩
  | .aux a => ⟨s.get LEGk_PER_per (12 + a.val), [s.get LEGk_DUTY_duty (12 + a.val)], gen, false⟩

/-- What a leg keeps of its carrier's last run ends with a start or a stop: the command, the judgements, the planned edges. -/
def legQuiet (g : LegSt) : LegSt :=
  { g with cmd := false, edges := [], hiJ := .plain, loJ := .plain, hiEnd := 0, loEnd := 0, onFt := 0, oUp := 0, oDn := 0, hold := none, cut := 0 }

/-- A carrier starts at carrier zero, at `t` ft, with its shadow values as the first commit (R163); its first half begins with the
reload or carrier zero that follows. -/
def carrierStart (s : State) (r : Carr) (t : Nat) : State :=
  let c := shadowCommit s r 0
  let s := s.modCarr r (fun k => { k with
    run := true, waiting := false, fresh := true, startFt := none, down := false, act := c, pend := none, held := none, recent := []
    onTime := false, blocked := false, dlPassed := false, hUp := c.per / 2, hDn := c.per - c.per / 2
    halfFt := t, zeroFt := t, prevTs := s.now, reloadTs := s.now, reloadFt := t })
  let s := s.forL (carrLegs s r) (fun k s => s.modLeg k legQuiet)
  cput s r CHn_CSTAT_running LEGk_CSTAT_running 1

/-- A carrier stops: its outputs go off at once and no reload follows (R163). -/
def carrierStop (s : State) (r : Carr) : State :=
  let s := s.modCarr r (fun k => { k with run := false, waiting := false, startFt := none, pend := none, held := none, recent := [] })
  let s := cput (cput s r CHn_CSTAT_running LEGk_CSTAT_running 0) r CHn_CSTAT_pend LEGk_CSTAT_pend 0
  let s := s.forL (carrLegs s r) (fun k s => s.modLeg k legQuiet)
  let s := s.forL (carrLegs s r) (fun k s => s.legApply false false k)
  match r with
  | .ch n => profTake s n
  | .aux _ => s

/-- A carrier half that no reload begins (R166): carrier peak under RL_ZERO, carrier zero under RL_PEAK. -/
def plainHalf (s : State) (r : Carr) (down : Bool) : State :=
  let c := s.carrier r
  let t := if c.fresh then c.halfFt else c.halfFt + (if c.down then c.hDn else c.hUp)
  let s := s.onIf c.fresh (fun s => takeCommit s r c.act)
  let s := planHalf (beginHalf s r down t) r
  s.onIf c.fresh (fun s => carrApply s r true)

/-- At carrier zero a cycle cut ends, unless an input in CYCLE mode that maps the leg is still active (R186, R194). -/
def endCuts (s : State) (r : Carr) : State :=
  s.forL (carrLegs s r) (fun k s =>
    let still := (List.finRange 32).filter (fun b => s.gen.flts[b].act && fltMode s b.val == 1 && (fltLegs s b.val).testBit k.val)
    let cut := still.foldl (fun v b => max v (if fltCut s b.val = 1 then 2 else 1)) 0
    (s.modLeg k (fun g => { g with cut := cut })).legApply false false k)

/-! ### Meanings -/

/-- Whole-tick placement of a carrier is to end at its next reload. -/
def wholeEnding (k : Carrier) (b : Bool) : Carrier := { k with wholeEnd := b }

/-- Every edge is placed on whole ticks (R173), those that are planned already too. -/
def dlWhole (s : State) : State :=
  { s with gen := { s.gen with
    carr := s.gen.carr.map (fun k => ({ k with whole := true } : Carrier))
    legs := s.gen.legs.map (fun g => ({ g with edges := g.edges.map (fun e => (wholeTick e.1, e.2)) } : LegSt)) } }

/-- The code of a delay-line measurement comes into force (R172, R173), or the measurement was invalid. -/
def dlMeasure (s : State) (code : Option Nat) : State :=
  match code.filter (fun c => decide (129 ≤ c)) with
  | some c =>
    let old := s.get LEG_DLCAL_code
    let drift := old != 0 && (decide (2 < (c : Int) - old) || decide (2 < (old : Int) - c))
    let s := ((s.put LEG_DLCAL_prev old).put LEG_DLCAL_code c).put LEG_DLCAL_fail 0
    let s := { s with gen := { s.gen with dlBad := 0, carr := s.gen.carr.map (fun k => wholeEnding k k.whole) } }
    s.onIf drift (fun s => (s.logEv 0x2001 [old, c]).raise 0x27)
  | none =>
    let n := s.gen.dlBad + 1
    let s := { (s.put LEG_DLCAL_fail 1) with gen := { s.gen with dlBad := n, carr := s.gen.carr.map (fun k => wholeEnding k false) } }
    s.onIf (n == 3) (fun s => ((dlWhole s).logEv 0x2002).raise 0x28)

/-- DL_CAL (R172, R173): the replica delay line has been measured. -/
def execDlCal (code : Option Nat) (s : State) : Out := live s (fun s => dlMeasure s code)

end Sys2Proof.Machine
end

