-- ==== Sys2Proof/Machine/LatheMem.lean ====
section
/-! DEFINITION. The Lathe's word memory (R44, R49, R59, R60, R209), the coefficient banks (R210) and which measurements
a program reads (R203, R204). A word is kept as the 72-bit value with X in bits [71:36] and Y in bits [35:0]. -/

namespace Sys2Proof.Machine

/-- 1.0 as the integer of a Q36 number. -/
def one36 : Int := 2 ^ 31

/-- Saturates to the Q36 range (R49). -/
def sat36 (v : Int) : Int := satTo (-(2 ^ 35)) (2 ^ 35 - 1) v

/-- The 72-bit value of a word. -/
def wordBits (q : QWord) : Nat := toField 36 q.x * 2 ^ 36 + toField 36 q.y

/-- The word of a 72-bit value. -/
def bitsWord (v : Nat) : QWord := ⟨ofField 36 (v / 2 ^ 36), ofField 36 v⟩

/-- Word `i` of the Lathe region (32,768 words for each spindle, R60). -/
def State.lw (s : State) (i : Nat) : QWord := bitsWord (sget 0 s.mem.lathe i)

/-- Writes word `i` of the Lathe region, in full (R67). -/
def State.putLw (s : State) (i : Nat) (q : QWord) : State :=
  ueClear { s with mem := { s.mem with lathe := sput 0 s.mem.lathe i (wordBits q) } } 1 i

/-- The index in the Lathe region of word `w` of spindle `n`'s window. -/
def spWord (n w : Nat) : Nat := n * 32768 + w

/-- The values that a checkpoint holds (R209), in a row. -/
def Ckpt.items (c : Ckpt) : List Int :=
  c.words.map (fun e => (e.2 : Int)) ++ [(c.sPrev : Int), c.frozen, c.period, c.lost, c.osc.h, c.osc.amp, c.osc.sigPrev, c.osc.side,
    c.osc.n, c.osc.cnt, c.obsAng, c.obsSpd,
    match c.holdEnd with
      | some t => (t : Int) + 1
      | none => 0]
    ++ (List.finRange 8).flatMap (fun k => [(c.meas[k].miss : Int), c.meas[k].good, c.meas[k].code, c.meas[k].same])

/-- Word `i` of the Lathe region as it reads (R209): words 0x880 to 0x8FF of a window are the checkpoint, whose layout there the
spec does not give (assumption 33). -/
def State.lwRead (s : State) (i : Nat) : QWord :=
  let w := i % 32768
  if h : i / 32768 < 4 then
    match s.sps[i / 32768].ckpt with
    | some c => if 0x880 ≤ w ∧ w < 0x900 then bitsWord (Config.ckptWord c.items (w - 0x880)) else s.lw i
    | none => s.lw i
  else s.lw i

/-- The words of a pair list, X first. -/
def State.getPairs (s : State) (n w cnt : Nat) : List Int :=
  (List.range cnt).flatMap (fun k => let q := s.lw (spWord n (w + k)); [q.x, q.y])

/-- Writes a list of values as pairs of words. -/
def State.putPairs (s : State) (n w cnt : Nat) (l : List Int) : State :=
  s.forN cnt (fun k s => s.putLw (spWord n (w + k)) ⟨l.getD (2 * k) 0, l.getD (2 * k + 1) 0⟩)

/-- Word `w` of bank `b` of spindle `n` (R209). -/
def bankWord (s : State) (n b w : Nat) : QWord := s.lw (spWord n (b * 0x400 + w))

/-- A scalar coefficient: the X of its word (R45). -/
def coef (s : State) (n b w : Nat) : Int := (bankWord s n b w).x

/-- The active bank. -/
def actBank (s : State) (n : Nat) : Nat := s.get SPn_BANK_active n

/-- The shape and integrator map of a bank (R202, R210 words 0x000 and 0x001). -/
structure Shape where
  nx : Nat
  ny : Nat
  nu : Nat
  nr : Nat
  mask : Nat
  out : Nat

/-- The shape of a bank. -/
def shapeOf (s : State) (n b : Nat) : Shape :=
  let w := bankWord s n b 0
  let x := toField 36 w.x
  ⟨x % 32, x / 2 ^ 8 % 16, x / 2 ^ 16 % 8, x / 2 ^ 24 % 8, toField 36 w.y % 2 ^ 16, toField 36 (bankWord s n b 1).x % 2 ^ 32⟩

/-- INT_OUT of state i: the input whose saturation gates it. -/
def Shape.intOut (h : Shape) (i : Nat) : Nat := h.out / 4 ^ i % 4

/-- Whether a shape lies within R202. -/
def Shape.ok (h : Shape) : Bool :=
  decide (1 ≤ h.nx) && decide (h.nx ≤ 16) && decide (1 ≤ h.ny) && decide (h.ny ≤ 8) && decide (1 ≤ h.nu)
    && decide (h.nu ≤ 4) && decide (h.nr ≤ 4)

/-- The step time of a shape in cycles (R207). -/
def Shape.step (h : Shape) : Nat :=
  38 + (h.nx * h.nx + h.nx * (h.nu + h.nr) + 2 * h.nx * h.ny + h.nu * (h.nx + h.nr) + 7) / 8

/-- The members of the phase set by mode (R203). -/
def phaseSet (s : State) (n : Nat) : List Nat :=
  match s.get SPn_XFORM_mode n with
  | 1 => [s.get SPn_XFORM_pa n, s.get SPn_XFORM_pb n, s.get SPn_XFORM_pc n]
  | 2 => [s.get SPn_XFORM_pa n, s.get SPn_XFORM_pb n]
  | _ => []

/-- The measurements that feed output `j` (R203). -/
def outFeeds (s : State) (n j : Nat) : List Nat :=
  match s.get SPn_XFORM_mode n with
  | 0 => [j]
  | 1 => if j < 3 then phaseSet s n else [j]
  | 2 => if j < 2 then phaseSet s n else if j = 2 then [] else [j]
  | _ => if j < 2 then [0, 1, 2] else if j < 4 then [4, 5, 6] else if j = 4 then [3] else if j = 5 then [7] else []

/-- Whether the program of spindle `n` reads measurement `k` (R116, R204). -/
def measRead (s : State) (n k : Nat) : Bool :=
  (s.getB SPn_XFORM_vdc_en n && s.get SPn_XFORM_vdc n == k)
    || (List.range (shapeOf s n (actBank s n)).ny).any (fun j => (outFeeds s n j).contains k)

/-- The phase set that measurement `k` belongs to, as its members; empty for a measurement outside one (R220). -/
def phaseMates (s : State) (n k : Nat) : List Nat :=
  if s.get SPn_XFORM_mode n = 3 then (if k < 3 then [0, 1, 2] else if 4 ≤ k && k ≤ 6 then [4, 5, 6] else [])
  else if (phaseSet s n).contains k then phaseSet s n else []

end Sys2Proof.Machine
end

