-- ==== Sys2Proof/Machine/Conv.lean ====
section
/-! DEFINITION. The converter bank and the sequencers (chapter "Converter bank"): triggers, windows and results,
injections, calibration, power modes, comparators, open-wire tests. -/

namespace Sys2Proof.Machine

/-! ### Accessors -/

/-- Changes a converter. -/
def State.modConv (s : State) (c : Cv) (f : Conv → Conv) : State :=
  { s with cvb := { s.cvb with conv := vupd s.cvb.conv c f } }

/-- Changes a sequencer. -/
def State.modSeq (s : State) (q : Sq) (f : Seq → Seq) : State :=
  { s with cvb := { s.cvb with seqs := vupd s.cvb.seqs q f } }

/-- Changes one window of a sequencer. -/
def State.modWin (s : State) (q : Sq) (k : Fin 16) (f : Win → Win) : State :=
  s.modSeq q (fun x => { x with wins := vupd x.wins k f })

/-- Changes a comparator. -/
def State.modCmp (s : State) (i : Ain) (f : Cmp → Cmp) : State :=
  { s with cvb := { s.cvb with cmps := vupd s.cvb.cmps i f } }

/-- A converter by number. -/
def cvOf (c : Nat) : Cv := ⟨c % 8, Nat.mod_lt _ (by omega)⟩
/-- A sequencer by number. -/
def sqOf (q : Nat) : Sq := ⟨q % 16, Nat.mod_lt _ (by omega)⟩
/-- A step by number. -/
def stOf (k : Nat) : Fin 16 := ⟨k % 16, Nat.mod_lt _ (by omega)⟩
/-- An external input by number. -/
def ainOf (i : Nat) : Ain := ⟨i % 48, Nat.mod_lt _ (by omega)⟩
/-- A channel by number. -/
def chOf (n : Nat) : Ch := ⟨n % 4, Nat.mod_lt _ (by omega)⟩

/-- The converter's partner (R79). -/
def partner (c : Cv) : Cv := if c.val % 2 = 0 then cvOf (c.val + 1) else cvOf (c.val - 1)

/-- The external input of a converter's slot, for slots 0 to 5 (R76). -/
def ainOfSlot (c : Cv) (j : Nat) : Option Ain := if j < 6 then some (ainOf (6 * c.val + j)) else none

/-- A converter serves no window, injection, calibration, slice or open-wire window. -/
def State.cvIdle (s : State) (c : Cv) : Bool := s.cvb.conv[c].work == .idle

/-- Converter c feeds channel n (R116): a step of an enabled sequencer names it with that spindle destination. -/
def feeds (s : State) (c : Cv) (n : Nat) : Bool :=
  (List.range 16).any (fun q => s.getB SEQn_CTL_en q && (List.range (s.get SEQn_CTL_nsteps q + 1)).any (fun k =>
    s.get SEQn_STEPk_A_conv q k == c.val && s.getB SEQn_STEPk_B_sp_en q k && s.get SEQn_STEPk_B_sp_ch q k == n))

/-- Input AINi feeds channel n (R116). -/
def inputFeeds (s : State) (i : Ain) (n : Nat) : Bool :=
  (List.range 16).any (fun q => s.getB SEQn_CTL_en q && (List.range (s.get SEQn_CTL_nsteps q + 1)).any (fun k =>
    s.get SEQn_STEPk_A_conv q k == i.val / 6 && s.get SEQn_STEPk_A_input q k == i.val % 6 &&
    s.getB SEQn_STEPk_B_sp_en q k && s.get SEQn_STEPk_B_sp_ch q k == n))

/-- Converter c feeds a channel in RUN or STOPPING. -/
def feedsRunning (s : State) (c : Cv) : Bool := (List.range 4).any (fun n => s.chRuns n && feeds s c n)

/-- The power mode of a converter, PROFILE resolved (R103): 1 ON, 2 AUTO_DOWN, 3 OFF. -/
def cvMode (s : State) (c : Cv) : Nat :=
  match s.get CVc_CFG_pwr c.val with
  | 0 => if s.get SYS_PROFILE_active = 3 then 2 else 1
  | m => m

/-- The states of `CVc_STAT.state` (R113). -/
def cvSt (s : State) (c : Cv) : Nat := s.get CVc_STAT_state c.val

/-- The present instant in ft. -/
def State.nowFt (s : State) : Nat := s.now * 128

/-- The first CKA sampling edge at or after an instant (ft): the edges lie one CKA period of 1,280 ft apart, at the measured
CKA-to-CKP phase (R41, R42; DEDUCED, assumption 107). -/
def ckaAt (s : State) (t : Nat) : Nat :=
  let p := s.get CLK_CKA_PHASE_phase % 1280
  t + (p + 1280 - t % 1280) % 1280

/-- Two instants fall on the same CKA clock (R93). -/
def sameClock (s : State) (a b : Nat) : Bool := ckaAt s a == ckaAt s b

/-- The external input that a converter samples: through its second path (R79), or the selected slot's. -/
def curAin (s : State) (c : Cv) : Option Ain :=
  match s.cvb.conv[c].alt with
  | some a => some (ainOf a)
  | none => ainOfSlot c (s.get CVc_STAT_cur_input c.val)

/-- A converter leaves its input: the comparator of that input loses its counts (R108). -/
def cvLeave (s : State) (c : Cv) : State :=
  match curAin s c with
  | some i => s.modCmp i (fun m => { m with hiCnt := 0, loCnt := 0 })
  | none => s

/-- The samples from an instant on are discarded until the mux has settled (R82). -/
def cvUnsettle (s : State) (c : Cv) (t : Nat) : State :=
  s.modConv c (fun x => { x with goodFt := ckaAt s t + 1280 * s.get CVc_CFG_mux_settle c.val })

/-- Converter c samples slot `j`, or the external input `alt` through its second path, from an instant on (R79, R82). The
register shows the slot of its own that was selected last (DESIGN CHOICE, assumption 108). -/
def cvTurn (s : State) (c : Cv) (j : Nat) (alt : Option Nat) (t : Nat) : State :=
  let x := s.cvb.conv[c]
  if x.alt = alt ∧ (alt.isSome ∨ s.get CVc_STAT_cur_input c.val = j) then s
  else
    let s := cvUnsettle (cvLeave s c) c t
    let s := s.modConv c (fun x => { x with alt := alt })
    if alt.isSome then s else s.put CVc_STAT_cur_input j c.val

/-- A start request (R105): a powered-down converter starts up; one that shuts down starts when that has finished. -/
def cvStart (s : State) (c : Cv) : State :=
  if cvSt s c = 4 then s.put CVc_STAT_state 2 c.val
  else if cvSt s c = 1 then s.modConv c (fun x => { x with startReq := true })
  else s

/-- A trigger on the clock at which the idle count was reached is served: the converter does not power down (R93). -/
def shutCancel (s : State) (c : Cv) : State :=
  s.onIf (cvSt s c == 1 && cvMode s c == 2 && sameClock s s.cvb.conv[c].sinceFt s.nowFt) (fun s => s.put CVc_STAT_state 3 c.val)

/-! ### Carrier events (R86, R87) -/

/-- The instants at which the period that a reload began meets carrier zero, carrier peak and its own end (ticks); an event
that the period does not hold is none. -/
def carrEvents (s : State) (r : Carr) : Option Nat × Option Nat × Nat :=
  let c := s.carrier r
  let fin := halfEnd s r / 128
  let cen := carrMode s r == 0
  let mid := (c.halfFt + (if !cen then c.act.per / 2 else if c.down then c.hDn else c.hUp)) / 128
  let rl := carrRl s r
  (if !cen || rl == 0 then some fin else if rl == 1 then some mid else if c.down then some fin else none,
    if !cen || rl == 0 then some mid else if rl == 1 then some fin else if c.down then none else some fin, fin)

/-- The next event of a carrier source, while its instant is known (R87). -/
def srcNext (s : State) (code : Nat) : Option Nat :=
  let r : Carr := if code < 0x10 then .ch (chOf code) else .aux ⟨code % 4, Nat.mod_lt _ (by omega)⟩
  let c := s.carrier r
  if code < 4 || 0x14 ≤ code || !c.run || c.fresh || 2 ≤ carrMode s r then none
  else
    let e := carrEvents s r
    (if code < 8 then some e.2.2 else if code < 0x0C || 0x10 ≤ code then e.1 else e.2.1).filter (fun t => decide (s.now < t))

/-- The known triggers of a sequencer that have not come: armed ones, the next event of a carrier source with an offset of 0
or more, and the next expiry of a timer. -/
def trigNext (s : State) (q : Sq) : List Nat :=
  let x := s.cvb.seqs[q]
  let src := s.get SEQn_TRIG_src q.val
  let off := s.getS SEQn_TRIG_offset q.val
  let carr := if off < 0 then [] else (srcNext s src).toList.map (fun t => t + off.toNat)
  let tt := if 0x18 ≤ src ∧ src < 0x1C then (s.cvb.tt[src % 4]'(Nat.mod_lt _ (by omega))).toList else []
  x.armed.map (·.ts) ++ carr ++ tt

/-- The next window open that is known on a converter (R94, R100), in ticks: of its own steps, and of its partner's while that
one calibrates. -/
def nextOpen (s : State) (c : Cv) : Option Nat :=
  let mine (v : Nat) : Bool := v == c.val || (v == (partner c).val && s.cvb.conv[partner c].work == .cal
    && s.getB CVc_CFG_partner_en (partner c).val)
  let opens := (List.finRange 16).flatMap (fun q =>
    if !s.getB SEQn_CTL_en q.val && !s.getB SEQn_STAT_running q.val then []
    else
      let trig := trigNext s q
      (List.finRange 16).flatMap (fun k =>
        if s.get SEQn_CTL_nsteps q.val < k.val || !mine (s.get SEQn_STEPk_A_conv q.val k.val) then []
        else
          let w := s.cvb.seqs[q].wins[k]
          (if w.st == .sched then [w.openTs] else []) ++ trig.map (fun t => t + s.get SEQn_STEPk_B_open_dly q.val k.val)))
  opens.foldl (fun m t => match m with
    | some x => some (min x t)
    | none => some t) none

/-- Clocks of work that begin at `t` end before the next known window open. -/
def gapHolds (s : State) (c : Cv) (t clocks : Nat) : Bool :=
  match nextOpen s c with
  | some o => decide (t + 1280 * clocks ≤ o * 128)
  | none => true

/-! ### Windows on a converter (R80 to R84, R88 to R95) -/

/-- A window is flagged LATE_OPEN: the event is logged at most once per sequencer per millisecond (R88). -/
def winLate (s : State) (q : Sq) (k : Fin 16) : State :=
  (s.modWin q k (fun w => { w with late := true })).logRate 0x1102 q.val tkMs [q.val, k.val]

/-- The samples that a step's window takes (R80). -/
def winN (s : State) (q : Sq) (k : Fin 16) : Nat := 2 ^ s.get SEQn_STEPk_A_log2n q.val k.val

/-- A window that is not taken: its result will be STALE, when its last sample would have left the pipeline (R83, R84). -/
def winUntaken (s : State) (q : Sq) (k : Fin 16) (cal : Bool) : State :=
  let first := ckaAt s (s.cvb.seqs[q].wins[k].openTs * 128)
  let last := first + 1280 * (winN s q k - 1)
  s.modWin q k (fun w => { w with st := .untaken, calBusy := cal, firstFt := first, lastFt := last })

/-- Converter c turns to the input of a step's window, through its second path for its partner's. -/
def winTurn (s : State) (c : Cv) (q : Sq) (k : Fin 16) (t : Nat) : State :=
  let j := s.get SEQn_STEPk_A_input q.val k.val
  cvTurn s c j (if s.cvb.seqs[q].wins[k].partner then some (6 * (partner c).val + j) else none) t

/-- The first settled sample that a converter can give at or after an instant. -/
def firstGood (s : State) (c : Cv) (t : Nat) : Nat := max (ckaAt s t) s.cvb.conv[c].goodFt

/-- A free converter takes a window (R80, R82, R88, R89): it switches its input as early as the window was known and the
converter free; a first sample later than the scheduled one makes the window late. -/
def winTake (s : State) (c : Cv) (q : Sq) (k : Fin 16) : State :=
  let w := s.cvb.seqs[q].wins[k]
  let free := s.cvb.conv[c].freeFt
  let s := winTurn s c q k (max (w.knownTs * 128) free)
  let due := ckaAt s (w.openTs * 128)
  let first := firstGood s c (max (w.openTs * 128) free)
  let last := first + 1280 * (winN s q k - 1)
  let s := s.modConv c (fun x => { x with work := .window q.val k.val, firstFt := first, doneFt := last })
  let s := s.modWin q k (fun w => { w with
    st := .taking, conv := c.val, firstFt := first, lastFt := last, refNR := w.refNR || !s.getB CVc_STAT_ref_ready c.val })
  if w.late || decide (due < first) then winLate s q k else s

/-- A converter begins an injected conversion at the next sample after `t` (R94, R95). -/
def injBegin (s : State) (c : Cv) (k t : Nat) : State :=
  let s := cvTurn s c (s.get CVc_INJk_input c.val k) none t
  let first := firstGood s c t
  s.modConv c (fun x => { x with
    work := .inj k, injWait := x.injWait.filter (· != k), injNR := !s.getB CVc_STAT_ref_ready c.val, injSplit := false
    sinceFt := s.nowFt, firstFt := first, doneFt := first + 1280 * (2 ^ s.get CVc_INJk_log2n c.val k - 1) })

/-- A suspended window or injection resumes on its own input and takes the samples it still needs (R95). -/
def resume (s : State) (c : Cv) (w : Work) (left t : Nat) : State :=
  let s := match w with
    | .window q k => winTurn s c (sqOf q) (stOf k) t
    | .inj k => cvTurn s c (s.get CVc_INJk_input c.val k) none t
    | _ => s
  let first := firstGood s c t
  let last := first + 1280 * (left - 1)
  let s := s.modConv c (fun x => { x with work := w, split := none, firstFt := first, doneFt := last })
  match w with
  | .window q k => s.modWin (sqOf q) (stOf k) (fun w => { w with lastFt := last })
  | _ => s

/-- The windows due on a converter, by sequencer and step (R92). -/
def dueWins (s : State) (c : Cv) : List (Sq × Fin 16) :=
  (List.finRange 16).flatMap (fun q => (List.finRange 16).filterMap (fun k =>
    let w := s.cvb.seqs[q].wins[k]
    if w.st == .due && w.conv == c.val then some (q, k) else none))

/-- The inputs of a converter whose open-wire window is due (R111). -/
def dueOw (s : State) (c : Cv) : Option Ain :=
  ((List.range 6).map (fun j => ainOf (6 * c.val + j))).find? (fun i => s.cvb.cmps[i].ow == .winP || s.cvb.cmps[i].ow == .winM)

/-- Urgent injections that wait on a converter. -/
def urgentWait (s : State) (c : Cv) : Option Nat := s.cvb.conv[c].injWait.find? (fun k => s.getB CVc_INJk_urgent c.val k)

/-- What a converter that is free at `t` takes next (R92): an urgent injection, suspended work, a due window by sequencer and
step, a non-urgent injection by slot that the gap holds (R94), an open-wire window. -/
def serveNext (s : State) (c : Cv) (t : Nat) : State :=
  if cvSt s c != 3 || !s.cvIdle c then s
  else match urgentWait s c with
    | some k => injBegin s c k t
    | none => match s.cvb.conv[c].split with
      | some (w, left) => resume s c w left t
      | none => match dueWins s c with
        | (q, k) :: _ => winTake s c q k
        | [] =>
          let fits (k : Nat) : Bool := s.cvb.conv[c].injWait.contains k && gapHolds s c (ckaAt s t)
            (2 ^ s.get CVc_INJk_log2n c.val k
              + (if s.cvb.conv[c].alt == none && s.get CVc_STAT_cur_input c.val == s.get CVc_INJk_input c.val k then 0
                 else s.get CVc_CFG_mux_settle c.val))
          match (List.range 4).find? fits with
          | some k => injBegin s c k t
          | none => match dueOw s c with
            | some i =>
              let s := cvTurn s c (i.val % 6) none t
              let first := firstGood s c t
              s.modConv c (fun x => { x with work := .ow i.val, firstFt := first, doneFt := first + 1280 * 15 })
            | none => s

/-- The channels that a converter feeds, as a bit map: the payload of CV_FAULT (R99, R100). -/
def fedChans (s : State) (c : Cv) : Nat := (List.range 4).foldl (fun v n => if feeds s c n then v + 2 ^ n else v) 0

/-- Trims within ±512 codes and ±3 % (R99). -/
def trimOk (offset gain : Int) : Bool :=
  decide (-512 ≤ offset) && decide (offset ≤ 512) && decide (-31457 ≤ gain) && decide (gain ≤ 31457)

/-- The new trims of a calibration take effect, or are refused (R99). -/
def trimEnd (s : State) (c : Cv) (offset gain : Int) (full : Bool) : State :=
  if trimOk offset gain then
    (((s.putS CVc_TRIM_offset offset c.val).putS CVc_TRIM_gain gain c.val).put CVc_CAL_ok 1 c.val).onIf full (fun s => s.logEv 0x1001 [c.val])
  else ((s.put CVc_CAL_ok 0 c.val).logEv 0x1002 [c.val]).raise 0x29 (c.val + 256 * fedChans s c)

/-- A background slice ends (R82, R100): the 32nd completes the cycle. -/
def sliceEnd (s : State) (c : Cv) (t : Nat) : State :=
  let k := s.get CVc_CAL_bg_slice c.val
  let tr := s.cvb.conv[c].bgTrim
  let s := cvUnsettle (s.put CVc_CAL_bg_slice (k + 1) c.val) c t
  if k = 31 then trimEnd (s.put CVc_CAL_bg_busy 0 c.val) c tr.1 tr.2 false else s

/-- The last sample of a converter's work has been taken: the work closes one clock later, and the converter is free (R88). A
window and an injection wait for their results to leave the pipeline; an open-wire window ends its phase. -/
def workDone (s : State) (c : Cv) : State :=
  let x := s.cvb.conv[c]
  let t := x.doneFt + 1280
  let nr := !s.getB CVc_STAT_ref_ready c.val
  let s := s.modConv c (fun x => { x with work := .idle, freeFt := t })
  match x.work with
  | .window q k =>
    s.modSeq (sqOf q) (fun y => { y with
      closed := y.closed ++ [(k, { y.wins[stOf k] with refNR := y.wins[stOf k].refNR || nr })]
      wins := vupd y.wins (stOf k) (fun w => { w with st := .idle }) })
  | .inj k => s.modConv c (fun x => { x with injOut := x.injOut ++ [⟨k, x.injNR || nr, x.injSplit⟩] })
  | .ow i => s.modCmp (ainOf i) (fun m => { m with ow := match m.ow with
      | .winP => .down
      | .winM => .got
      | x => x })
  | .bg => sliceEnd s c t
  | _ => s

/-- A converter's work that ends by itself ends when its close has come, and the next is taken; a converter with none takes what
waits for a gap. -/
def cvTick (s : State) (c : Cv) : State :=
  let x := s.cvb.conv[c]
  if x.work = .cal then s
  else if x.work = .idle then (if x.injWait.isEmpty then s else serveNext s c s.nowFt)
  else if x.doneFt + 1280 ≤ s.nowFt then serveNext (workDone s c) c (x.doneFt + 1280)
  else s

/-- The converters' part of a tick. -/
def cvbTick (s : State) : State := s.forL (List.finRange 8) (fun c s => cvTick s c)

/-- A slice or an open-wire window gives way (R92, R100): the slice's reference input is left, and both are repeated later. -/
def cvAbort (s : State) (c : Cv) : State :=
  let free (s : State) := s.modConv c (fun x => { x with work := .idle, freeFt := s.nowFt })
  match s.cvb.conv[c].work with
  | .bg => cvUnsettle (free s) c s.nowFt
  | .ow _ => free s
  | _ => s

/-- The samples that running work has taken before the present instant. -/
def taken (s : State) (c : Cv) : Nat :=
  let x := s.cvb.conv[c]
  if s.nowFt ≤ x.firstFt then 0 else (s.nowFt - x.firstFt + 1279) / 1280

/-- An urgent injection meets running work (R92, R93, R95): a window that has taken no sample opens after it; one that has taken
all has closed; otherwise window and non-urgent injection are suspended with the samples they still need, and flagged SPLIT. -/
def cvSuspend (s : State) (c : Cv) : State :=
  let x := s.cvb.conv[c]
  let left := (x.doneFt - x.firstFt) / 1280 + 1 - taken s c
  let free (s : State) := s.modConv c (fun x => { x with work := .idle, freeFt := s.nowFt })
  let s0 := cvAbort s c
  match x.work with
  | .window q k =>
    if left = 0 then workDone s c
    else if taken s c = 0 ∧ !(s.cvb.seqs[sqOf q].wins[stOf k].split) then
      (free s).modWin (sqOf q) (stOf k) (fun w => { w with st := .due })
    else (free s).modConv c (fun x => { x with split := some (.window q k, left) }) |>.modWin (sqOf q) (stOf k)
      (fun w => { w with split := true })
  | .inj k =>
    if s.getB CVc_INJk_urgent c.val k then s
    else if left = 0 then workDone s c
    else if taken s c = 0 ∧ !x.injSplit then (free s).modConv c (fun x => { x with injWait := k :: x.injWait })
    else (free s).modConv c (fun x => { x with split := some (.inj k, left), injSplit := true })
  | _ => s0

/-- A non-urgent injection that began on the clock at which a window opens waits for it (R93). -/
def injYield (s : State) (c : Cv) : State :=
  let x := s.cvb.conv[c]
  match x.work with
  | .inj k => s.onIf (!s.getB CVc_INJk_urgent c.val k && !x.injSplit && sameClock s x.sinceFt s.nowFt)
      (fun s => s.modConv c (fun x => { x with work := .idle, freeFt := s.nowFt, injWait := k :: x.injWait }))
  | _ => s

/-- A window reaches its open instant on converter `c` (R80, R88, R92, R93, R105). -/
def winOpenOn (s : State) (c : Cv) (q : Sq) (k : Fin 16) : State :=
  let s := s.modWin q k (fun w => { w with st := .due, conv := c.val })
  serveNext (cvStart (shutCancel (injYield (cvAbort s c) c) c) c) c s.nowFt

/-- A converter's power mode is OFF (R103). -/
def cvOff (s : State) (c : Cv) : Bool := cvMode s c == 3

/-- A scheduled window opens on converter `c`, on its partner while it calibrates, or is not taken (R98, R101, R103). Only an
external input has the second path (R79): a window on an internal one is CAL_BUSY (DEDUCED, assumption 109), and one that a
partner could not serve either is not taken (DESIGN CHOICE, assumption 109). -/
def windowTake (s : State) (c : Cv) (q : Sq) (k : Fin 16) : State :=
  let p := partner c
  if cvOff s c then winUntaken s q k false
  else if !s.cvb.conv[c].calDone then winUntaken s q k true
  else if s.cvb.conv[c].work == .cal then
    if !s.getB CVc_CFG_partner_en c.val || 6 ≤ s.get SEQn_STEPk_A_input q.val k.val then winUntaken s q k true
    else if cvOff s p || !s.cvb.conv[p].calDone || s.cvb.conv[p].work == .cal then winUntaken s q k true
    else winOpenOn (s.modWin q k (fun w => { w with partner := true })) p q k
  else winOpenOn s c q k

/-- The instant at which a step's window opens next, when it is known ahead. -/
def openKnown (s : State) (q : Sq) (k : Fin 16) : Option Nat :=
  let w := s.cvb.seqs[q].wins[k]
  if w.st == .sched then some w.openTs
  else (s.cvb.seqs[q].armed.head?).map (fun a => a.ts + s.get SEQn_STEPk_B_open_dly q.val k.val)

/-- A free converter switches ahead of a window's open, at the latest clock from which the input settles in time (R89). -/
def winAhead (s : State) (c : Cv) (q : Sq) (k : Fin 16) (o : Nat) : State :=
  let e := ckaAt s s.nowFt + 1280 * s.get CVc_CFG_mux_settle c.val
  s.onIf (cvSt s c == 3 && s.cvIdle c && decide (e ≤ o * 128) && decide (o * 128 < e + 1280)) (fun s => winTurn s c q k s.nowFt)

/-! ### Sequencer triggers (R85 to R90) -/

/-- Sequencer q starts (R85): every step's window opens at T plus its open delay. -/
def seqStart (s : State) (q : Sq) (a : Trig) : State :=
  let n := s.get SEQn_CTL_nsteps q.val + 1
  let s := s.forN n (fun k s =>
    s.modWin q (stOf k) (fun _ =>
      ⟨.sched, a.ts + s.get SEQn_STEPk_B_open_dly q.val k, a.known, s.get SEQn_STEPk_A_conv q.val k, 0, 0, a.late, false, false,
        false, false⟩))
  let s := (s.put SEQn_STAT_running 1 q.val).put64 SEQn_TRIG_TS_LO_ts SEQn_TRIG_TS_HI_ts a.ts q.val
  s.forN n (fun k s => shutCancel s (cvOf (s.get SEQn_STEPk_A_conv q.val k)))

/-- A window of a restarted sequence (R90): one that has not taken its last sample is abandoned and frees its converter; one that
has is closed, and its result is still to come. -/
def winAbandon (s : State) (q : Sq) (k : Fin 16) : State :=
  let w := s.cvb.seqs[q].wins[k]
  let c := cvOf w.conv
  let s := s.modConv c (fun x => { x with split := x.split.filter (fun e => e.1 != .window q.val k.val) })
  if w.st == .untaken && decide (w.lastFt < s.nowFt) then
    s.modSeq q (fun y => { y with closed := y.closed ++ [(k.val, w)], wins := vupd y.wins k (fun w => { w with st := .idle }) })
  else if w.st == .taking && s.cvb.conv[c].work == .window q.val k.val then
    if w.lastFt < s.nowFt then serveNext (workDone s c) c s.nowFt
    else
      let s := s.modConv c (fun x => { x with work := .idle, freeFt := s.nowFt })
      serveNext (s.modWin q k (fun w => { w with st := .idle })) c s.nowFt
  else s.modWin q k (fun w => { w with st := .idle })

/-- Every window of the sequence that RESTART ends. -/
def seqAbandon (s : State) (q : Sq) : State := s.forL (List.finRange 16) (fun k s => winAbandon s q k)

/-- No window of the sequence is still to finish. -/
def seqFinished (s : State) (q : Sq) : Bool :=
  s.cvb.seqs[q].closed.isEmpty && (List.finRange 16).all (fun k => s.cvb.seqs[q].wins[k].st == .idle)

/-- A trigger finds the sequencer running (R90). -/
def seqOverrun (s : State) (q : Sq) (a : Trig) : State :=
  let s := (s.incSat SEQn_OVR_count q.val).logRate 0x1101 q.val tkMs [q.val]
  match s.get SEQn_CTL_policy q.val with
  | 1 => seqStart (seqAbandon s q) q a
  | 2 => if s.cvb.seqs[q].stored.isSome then s
    else (s.modSeq q (fun x => { x with stored := some a })).put SEQn_STAT_queued 1 q.val
  | _ => s

/-- The run of a sequence ends with its last result (R85): a stored trigger starts it again (R90). -/
def seqStop (s : State) (q : Sq) : State :=
  let s := (s.put SEQn_STAT_running 0 q.val).irq (16 + q.val)
  match s.cvb.seqs[q].stored with
  | some a => seqStart ((s.modSeq q (fun x => { x with stored := none })).put SEQn_STAT_queued 0 q.val) q a
  | none => s

/-- A trigger of sequencer q (R85, R90). One that meets a sequence whose last result has been written is no overrun: that run ends
first. -/
def seqTrigger (s : State) (q : Sq) (a : Trig) : State :=
  if !s.getB SEQn_CTL_en q.val then s
  else
    let s := s.onIf (s.getB SEQn_STAT_running q.val && seqFinished s q) (fun s => seqStop s q)
    if s.getB SEQn_STAT_running q.val then seqOverrun s q a else seqStart s q a

/-- Triggers every sequencer whose `src` is `code`, at once (sources without an offset, R86); the instant has been known since
`known`. -/
def seqFire (s : State) (code T known : Nat) : State :=
  s.forL (List.finRange 16) (fun q s => s.onIf (s.get SEQn_TRIG_src q.val == code) (fun s => seqTrigger s q ⟨T, known, false⟩))

/-- A trigger whose instant has come fires; another is armed. -/
def seqPlan (s : State) (q : Sq) (a : Trig) : State :=
  if a.ts ≤ s.now then seqTrigger s q a else s.modSeq q (fun x => { x with armed := x.armed ++ [a] })

/-- A carrier event of source `code` at tick `t` whose period before it began at tick `p0` (R86, R87): sequencers with
an offset of 0 or more are triggered at t + offset. Those with a negative offset were armed when the period began. In COT and CFT
the event was not known ahead. -/
def seqCarrier (s : State) (code t p0 : Nat) (known : Bool) : State :=
  s.forL (List.finRange 16) (fun q s =>
    let off := s.getS SEQn_TRIG_offset q.val
    s.onIf (s.get SEQn_TRIG_src q.val == code && s.getB SEQn_CTL_en q.val && decide (0 ≤ off)
        && decide (s.cvb.seqs[q].enTs < p0)) (fun s => seqPlan s q ⟨t + off.toNat, if known then p0 else t, false⟩))

/-- Arms the sequencers with a negative offset for a carrier event of source `code` that falls at tick `t` in the period
that begins now: T is not before the start of the period (R87). -/
def seqArm (s : State) (code t : Nat) : State :=
  s.forL (List.finRange 16) (fun q s =>
    let off := s.getS SEQn_TRIG_offset q.val
    s.onIf (s.get SEQn_TRIG_src q.val == code && s.getB SEQn_CTL_en q.val && decide (off < 0)
        && decide (s.cvb.seqs[q].enTs < s.now)) (fun s =>
      let T : Int := t + off
      let late := decide (T ≤ s.now)
      seqPlan s q ⟨if late then s.now else T.toNat, s.now, late⟩))

/-- A negative offset on a COT or CFT event is taken at the event itself (R169); the period before it began at `p0` (R87). -/
def seqCotZero (s : State) (code t p0 : Nat) : State :=
  s.forL (List.finRange 16) (fun q s =>
    s.onIf (s.get SEQn_TRIG_src q.val == code && decide (s.getS SEQn_TRIG_offset q.val < 0) && decide (s.cvb.seqs[q].enTs < p0))
      (fun s => seqTrigger s q ⟨t, t, true⟩))

/-- Fires the armed triggers whose instant has come. -/
def seqDue (s : State) : State :=
  s.forL (List.finRange 16) (fun q s =>
    let a := s.cvb.seqs[q].armed
    let due := a.filter (fun x => decide (x.ts ≤ s.now))
    (s.modSeq q (fun x => { x with armed := a.filter (fun x => decide (s.now < x.ts)) })).forL due
      (fun x s => seqTrigger s q x))

/-- WINDOW_OPEN (R80, R82, R88, R89, R92 to R94, R98, R103, R105): at its open instant the window opens; ahead of it a free
converter switches its input. -/
def windowOpen (s : State) (q : Sq) (k : Fin 16) : State :=
  let s := seqDue s
  let c := cvOf (s.get SEQn_STEPk_A_conv q.val k.val)
  match openKnown s q k with
  | none => s
  | some o =>
    if s.now < o then winAhead s c q k o
    else if s.cvb.seqs[q].wins[k].st == .sched then windowTake s c q k else s

/-! ### Results (R81, R83, R84) -/

/-- The sum and shift of R81, as a 24-bit field. -/
def windowValue (codes : List Int) (shift : Nat) : Nat := toField 24 (roundHE codes.sum (2 ^ shift))

/-- The flags of R84 without NEW, as bits [31:25] of the result register. -/
def winFlags (w : Win) (codes : List Int) : Nat :=
  let stale := w.st == .untaken
  let b (c : Bool) (k : Nat) : Nat := if c then 2 ^ k else 0
  b stale 6 + b w.calBusy 5 + b (w.refNR && !stale) 4 + b w.split 3 + b w.partner 2 + b (w.late && !stale) 1
    + b (!stale && codes.any (fun x => x == -32768 || x == 32767)) 0

/-- Hands a result to the spindle it is meant for, through Chuck (R39, R116), with its window's close (R12). -/
def deliverMeas (s : State) (n k : Nat) (v : Int) (flags org close : Nat) : State :=
  if s.replayed n then s else { s with chuck := s.chuck ++ [⟨2 + n, .result k v flags org close, s.now, false⟩] }

/-- The sequence ends when its last result has been written (R85); the sequencers that its end triggers start at the tick after. -/
def seqEnd (s : State) (q : Sq) : State := seqFire (seqStop s q) (0x28 + q.val) (s.now + 1) s.now

/-- A result is written with its flags, and delivered to a program that reads it (R81, R83, R84, R116), or that waits for a lost
measurement's return (R224; DEDUCED, assumption 113). -/
def winResult (s : State) (q : Sq) (k : Fin 16) (w : Win) (codes : List Int) : State :=
  let v := if w.st == .untaken then s.get SEQn_RESk_value q.val k.val else windowValue codes (s.get SEQn_STEPk_A_shift q.val k.val)
  let fl := winFlags w codes
  let s := ((s.put SEQn_RESk_value v q.val k.val).put SEQn_RESk_flags fl q.val k.val).put SEQn_RESk_new 1 q.val k.val
  let s := (s.put SEQn_RCLOSEk_ts (w.lastFt / 128) q.val k.val).put SEQn_STAT_last_step k.val q.val
  let n := s.get SEQn_STEPk_B_sp_ch q.val k.val
  let m := s.get SEQn_STEPk_B_sp_meas q.val k.val
  s.onIf (s.getB SEQn_STEPk_B_sp_en q.val k.val && (measRead s n m || s.getBit SPn_FBSTAT_lost m n))
    (fun s => deliverMeas s n m (ofField 24 v) (fl * 2 + 1) (16 * q.val + k.val) (w.lastFt + 1280))

/-- A window that its converter is still taking is closed by the command that brings its result (assumption 1). -/
def winClose (s : State) (q : Sq) (k : Fin 16) : State :=
  let w := s.cvb.seqs[q].wins[k]
  let c := cvOf w.conv
  s.onIf (w.st == .taking && s.cvb.conv[c].work == .window q.val k.val)
    (fun s => serveNext (workDone s c) c (s.cvb.conv[c].doneFt + 1280))

/-- A window's last sample leaves the pipeline: `codes` are the samples of the window, of which it takes N (R80). A sequence of fewer
brings no result. -/
def windowResult (s : State) (q : Sq) (k : Fin 16) (codes : List Int) : State :=
  let n := winN s q k
  let w0 := s.cvb.seqs[q].wins[k]
  if codes.length < n && w0.st != .untaken then s
  else
    let s := winClose s q k
    match s.cvb.seqs[q].closed.find? (fun e => e.1 == k.val) with
    | some e => winResult (s.modSeq q (fun y => { y with closed := y.closed.eraseP (fun e => e.1 == k.val) })) q k e.2 (codes.take n)
    | none => if w0.st == .untaken then winResult (s.modWin q k (fun w => { w with st := .idle })) q k w0 [] else s

/-! ### Injections (R94 to R96) -/

/-- An injection is requested: it waits, or starts at once where R94 or R95 lets it. On the clock at which a full calibration
starts it is pending first, and the calibration waits (R93). -/
def injRequest (s : State) (c : Cv) (k : Fin 4) : State :=
  let s := (s.put CVc_INJk_start 1 c.val k.val).modConv c (fun x => { x with injWait := x.injWait ++ [k.val] })
  let s := cvStart (shutCancel s c) c
  let s := s.onIf (s.cvb.conv[c].work == .cal && sameClock s s.cvb.conv[c].sinceFt s.nowFt) (fun s =>
    ((s.modConv c (fun x => { x with work := .idle })).put CVc_CAL_full_busy 0 c.val).put CVc_STAT_state 3 c.val)
  let s := s.onIf (s.getB CVc_INJk_urgent c.val k.val) (fun s => cvSuspend s c)
  serveNext s c s.nowFt

/-- An injected window completes (R95, R96): its result leaves the pipeline. -/
def injDone (s : State) (c : Cv) (k : Fin 4) (codes : List Int) : State :=
  let n := 2 ^ s.get CVc_INJk_log2n c.val k.val
  if codes.length < n then s
  else
    let s := s.onIf (s.cvb.conv[c].work == .inj k.val) (fun s => serveNext (workDone s c) c (s.cvb.conv[c].doneFt + 1280))
    match s.cvb.conv[c].injOut.find? (fun e => e.slot == k.val) with
    | none => s
    | some e =>
      let s := s.modConv c (fun x => { x with injOut := x.injOut.eraseP (fun e => e.slot == k.val) })
      let w : Win := ⟨.taking, 0, 0, c.val, 0, 0, false, e.split, false, e.refNR, false⟩
      let codes := codes.take n
      let s := s.put CVc_INJRk_value (windowValue codes (s.get CVc_INJk_shift c.val k.val)) c.val k.val
      let s := (s.put CVc_INJRk_flags (winFlags w codes) c.val k.val).put CVc_INJRk_new 1 c.val k.val
      (s.put CVc_INJk_start 0 c.val k.val).irq (32 + c.val)

/-! ### Calibration (R97 to R102) -/

/-- The work on a converter lets a requested full calibration start (R93, R97): none, a slice or an open-wire window, or a window
that opens on this very clock. -/
def calWorkOk (s : State) (c : Cv) : Bool :=
  match s.cvb.conv[c].work with
  | .idle | .bg => true
  | .ow _ => true
  | .window q k => decide (s.nowFt ≤ s.cvb.conv[c].firstFt) && !(s.cvb.seqs[sqOf q].wins[stOf k].split)
      && sameClock s (s.cvb.seqs[sqOf q].wins[stOf k].openTs * 128) s.nowFt
  | _ => false

/-- The preconditions of a requested full calibration (R97). -/
def calMayStart (s : State) (c : Cv) : Bool :=
  s.getB CVc_CAL_full c.val && s.cvb.conv[c].injWait.isEmpty && calWorkOk s c
    && s.cvb.conv[c].split.isNone
    && !(s.getB CVc_CFG_partner_en c.val && s.cvb.conv[partner c].work == .cal)
    && cvSt s c == 3 && s.getB CVc_STAT_ref_ready c.val

/-- A full calibration is requested (R97): a converter powered down in AUTO_DOWN starts up for it. -/
def calRequest (s : State) (c : Cv) : State := cvStart (s.put CVc_CAL_full 1 c.val) c

/-- A full calibration starts (R92, R93, R98, R108): the input is left, and a window due on the converter goes to the partner or is
CAL_BUSY. -/
def calStart (s : State) (c : Cv) : State :=
  let s := match s.cvb.conv[c].work with
    | .window q k => s.modWin (sqOf q) (stOf k) (fun w => { w with st := .due })
    | _ => s
  let s := cvLeave (s.modConv c (fun x => { x with work := .cal, sinceFt := s.nowFt })) c
  let s := (s.put CVc_CAL_full_busy 1 c.val).put CVc_STAT_state 5 c.val
  s.forL (dueWins s c) (fun e s => s.onIf (s.cvb.seqs[e.1].wins[e.2].partner == false) (fun s => windowTake s c e.1 e.2))

/-- A calibration ends with new trims (R82, R99). -/
def calEnd (s : State) (c : Cv) (offset gain : Int) : State :=
  let s := (s.put CVc_CAL_full 0 c.val).put CVc_CAL_full_busy 0 c.val
  let s := s.modConv c (fun x => { x with work := .idle, calDone := true, freeFt := s.nowFt })
  let s := cvUnsettle (s.put CVc_STAT_state 3 c.val) c s.nowFt
  serveNext (trimEnd s c offset gain true) c s.nowFt

/-! ### Comparators (R108 to R110) -/

/-- One sample of AINi reaches its comparator (R108, R109). -/
def cmpSample (s : State) (i : Ain) (code : Int) : State :=
  if !s.getB CMPi_CFG_en i.val then s
  else
    let m := s.cvb.cmps[i]
    let hi := s.getS CMPi_THR_hi i.val
    let lo := s.getS CMPi_THR_lo i.val
    let h : Int := s.get CMPi_CFG_hyst i.val
    let F := s.get CMPi_CFG_filt i.val + 1
    let hc := if hi < code then m.hiCnt + 1 else 0
    let lc := if code < lo then m.loCnt + 1 else 0
    let ho := if s.getB CMPi_STAT_hi_out i.val then decide (hi - h < code) else decide (F ≤ hc)
    let lo' := if s.getB CMPi_STAT_lo_out i.val then decide (code < lo + h) else decide (F ≤ lc)
    let hNew := ho && !s.getB CMPi_STAT_hi_out i.val
    let lNew := lo' && !s.getB CMPi_STAT_lo_out i.val
    let hEv := hNew && !s.getB CMPi_STAT_hi_sticky i.val
    let lEv := lNew && !s.getB CMPi_STAT_lo_sticky i.val
    let s := s.modCmp i (fun m => { m with hiCnt := hc, loCnt := lc })
    let s := (s.putB CMPi_STAT_hi_out ho i.val).putB CMPi_STAT_lo_out lo' i.val
    let s := s.onIf hNew (fun s => (((s.put CMPi_STAT_hi_sticky 1 i.val).irq 40).owlTrig 9).endEdge 1 i.val)
    let s := s.onIf lNew (fun s => (((s.put CMPi_STAT_lo_sticky 1 i.val).irq 40).owlTrig 9).endEdge 2 i.val)
    let s := s.onIf hEv (fun s => s.logEv 0x1004 [i.val, 0])
    let s := s.onIf lEv (fun s => s.logEv 0x1004 [i.val, 1])
    s.tripRelease

/-- A run of samples of AINi. -/
def cmpSamples (s : State) (i : Ain) (codes : List Int) : State := s.forL codes (fun c s => cmpSample s i c)

/-! ### Open-wire tests (R111, R112) -/

/-- An open-wire test of AINi begins with the pull-up (R111). -/
def owStart (s : State) (i : Ain) : State := s.modCmp i (fun m => { m with ow := .up })

/-- A dwell of a test has ended (R111): its 16-sample window is due, as work of order 7 (R92). -/
def owDue (s : State) (i : Ain) : State :=
  let s := s.modCmp i (fun m => { m with ow := match m.ow with
    | .up => .winP
    | .down => .winM
    | x => x })
  serveNext s (cvOf (i.val / 6)) s.nowFt

/-- A test's window may end it (R111): both have been taken, the second with this command (assumption 1), or one is still due, which
4 × dwell have passed without. -/
def owMayEnd (s : State) (i : Ain) : Bool :=
  match s.cvb.cmps[i].ow with
  | .winP | .winM | .got => true
  | _ => false

/-- The two windows of a test have been taken. -/
def owBoth (s : State) (i : Ain) (plus minus : List Int) : Bool :=
  plus.length == 16 && minus.length == 16
    && (s.cvb.cmps[i].ow == .got || (s.cvb.cmps[i].ow == .winM && s.cvb.conv[cvOf (i.val / 6)].work == .ow i.val))

/-- The result of an open-wire test is written (R111, R112): the means of 16 samples, or INCONCLUSIVE; the current is removed. -/
def owResult (s : State) (i : Ain) (plus minus : List Int) : State :=
  let c := cvOf (i.val / 6)
  let res := if !owBoth s i plus minus then 3
    else if (s.get CVB_OW_CTL_ow_thr : Int) * 16 < plus.sum - minus.sum then 2 else 1
  let s := s.onIf (s.cvb.conv[c].work == .ow i.val) (fun s => s.modConv c (fun x => { x with work := .idle, freeFt := s.nowFt }))
  let s := (s.modCmp i (fun m => { m with ow := .idle })).put CMPi_STAT_ow res i.val
  serveNext (s.onIf (res == 2) (fun s => (s.logEv 0x1005 [i.val]).raise 0x2A i.val)) c s.nowFt

/-! ### Meanings -/

/-- WINDOW_OPEN. -/
def execWindowOpen (q : Sq) (k : Fin 16) (s : State) : Out := live s (fun s => windowOpen s q k)

/-- WINDOW_RESULT. -/
def execWindowResult (q : Sq) (k : Fin 16) (codes : List Int) (s : State) : Out := live s (fun s => windowResult s q k codes)

/-- SEQ_RUN_END (R85): the sequence's last result has been written. -/
def execSeqRunEnd (q : Sq) (s : State) : Out :=
  live s (fun s => s.onIf (s.getB SEQn_STAT_running q.val && seqFinished s q) (fun s => seqEnd s q))

/-- ADC_TRIG_EDGE (R86). -/
def execAdcTrigEdge (p : Fin 4) (rising : Bool) (s : State) : Out :=
  live s (fun s => seqFire s ((if rising then 0x20 else 0x24) + p.val) s.now s.now)

/-- CAL_FULL_START (R97, R98): a requested full calibration starts once its preconditions hold. -/
def execCalFullStart (c : Cv) (s : State) : Out :=
  live s (fun s => s.onIf (calMayStart s c) (fun s => calStart s c))

/-- CAL_END (R99). -/
def execCalEnd (c : Cv) (offset gain : Int) (s : State) : Out :=
  live s (fun s => s.onIf (s.cvb.conv[c].work == .cal) (fun s => calEnd s c offset gain))

/-- BGCAL_SLICE (R100, R108): a slice of 64 clocks begins in a gap that holds it and the settling; `offset` and `gain` are the trims
that the cycle will have found if this slice is its 32nd. The slice ends by itself (`cvTick`). -/
def execBgcalSlice (c : Cv) (offset gain : Int) (s : State) : Out :=
  live s (fun s => s.onIf (s.getB CVB_CTL_bgcal_en && cvSt s c == 3 && s.cvIdle c
      && gapHolds s c (ckaAt s s.nowFt) (64 + s.get CVc_CFG_mux_settle c.val)) (fun s =>
    let t := ckaAt s s.nowFt
    (cvLeave (s.modConv c (fun x => { x with work := .bg, firstFt := t, doneFt := t + 1280 * 63, bgTrim := (offset, gain) })) c).put
      CVc_CAL_bg_busy 1 c.val))

/-- BGCAL_STARVED (R100): the cycle has not completed within its period, and begins again. -/
def execBgcalStarved (c : Cv) (s : State) : Out :=
  live s (fun s => s.onIf (s.getB CVB_CTL_bgcal_en && cvMode s c != 3)
    (fun s => ((s.logEv 0x1003 [c.val]).put CVc_CAL_bg_slice 0 c.val).put CVc_CAL_bg_busy 1 c.val))

/-- A converter may begin to shut down (R97, R103, R105): in RUN, without work, without a calibration request, and OFF,
or AUTO_DOWN with no window due. -/
def mayShut (s : State) (c : Cv) : Bool :=
  cvSt s c == 3 && s.cvIdle c && s.cvb.conv[c].injWait.isEmpty && !s.getB CVc_CAL_full c.val
    && (cvMode s c == 3 || cvMode s c == 2)

/-- CV_POWER_DOWN (R103, R105). -/
def execCvPowerDown (c : Cv) (s : State) : Out :=
  live s (fun s => s.onIf (mayShut s c) (fun s =>
    (cvLeave s c).put CVc_STAT_state 1 c.val |>.modConv c (fun x => { x with sinceFt := s.nowFt, startReq := false })))

/-- CV_SHUTDOWN_DONE (R105): the 16 clocks are over; a start request that came meanwhile is served. -/
def execCvShutdownDone (c : Cv) (s : State) : Out :=
  live s (fun s => s.onIf (cvSt s c == 1) (fun s =>
    if cvMode s c = 3 then
      let s := s.put CVc_STAT_state 0 c.val
      s.onIf (s.get CVc_CFG_ref_mode c.val == 0) (fun s => s.put CVc_STAT_ref_ready 0 c.val)
    else if s.cvb.conv[c].startReq then
      (s.modConv c (fun x => { x with startReq := false })).put CVc_STAT_state 2 c.val
    else s.put CVc_STAT_state 4 c.val))

/-- CV_STARTUP_DONE (R105, R101): the 64 clocks are over, after a start request, for a window known in time, or after the
reset of a converter that is not to be OFF. The input has still to settle. -/
def execCvStartupDone (c : Cv) (s : State) : Out :=
  live s (fun s => s.onIf (cvSt s c == 2 || cvSt s c == 4 || (cvSt s c == 0 && cvMode s c != 3)) (fun s =>
    let s := cvUnsettle ((s.put CVc_STAT_state 3 c.val).modConv c (fun x => { x with freeFt := s.nowFt, startReq := false })) c s.nowFt
    serveNext s c s.nowFt))

/-- REF_READY (R106): the buffer has been on for 200 µs. -/
def execRefReady (c : Cv) (s : State) : Out :=
  live s (fun s =>
    s.onIf (if s.get CVc_CFG_ref_mode c.val = 0 then cvMode s c != 3 else s.getB CVc_CFG_ref_en c.val)
      (fun s =>
        let s := s.put CVc_STAT_ref_ready 1 c.val
        s.onIf (!s.cvb.conv[c].calDone && cvMode s c != 3) (fun s => calRequest s c)))

/-- The slot the idle scan visits after slot `j` (R107): the next set bit of the mask, round the slots. -/
def nextScan (mask j : Nat) : Option Nat :=
  ((List.range 10).map (fun d => (j + 1 + d) % 10)).find? (fun k => mask.testBit k)

/-- IDLE_SCAN_VISIT (R107). -/
def execIdleScanVisit (c : Cv) (s : State) : Out :=
  live s (fun s => s.onIf (cvSt s c == 3 && s.cvIdle c) (fun s =>
    match nextScan (s.get CVc_IDLESCAN_mask c.val) (s.get CVc_STAT_cur_input c.val) with
    | some j => cvTurn s c j none s.nowFt
    | none => s))

/-- CMP_ASSERT (R108, R109): the samples with which a counter reaches F. -/
def execCmpAssert (i : Ain) (codes : List Int) (s : State) : Out := live s (fun s => cmpSamples s i codes)

/-- CMP_DEASSERT (R108): the samples at the hysteresis level. -/
def execCmpDeassert (i : Ain) (codes : List Int) (s : State) : Out := live s (fun s => cmpSamples s i codes)

/-- OW_PERIODIC (R112): the marked inputs are tested. -/
def execOwPeriodic (s : State) : Out :=
  live s (fun s => s.onIf (s.getB CVB_OW_CTL_period) (fun s =>
    s.forL (List.finRange 48) (fun i s => s.onIf (s.getB CMPi_CFG_ow_periodic i.val && s.cvb.cmps[i].ow == .idle) (fun s => owStart s i))))

/-- OW_DWELL_END (R111): the current has been applied for `dwell`, and the 16-sample window is due. -/
def execOwDwellEnd (i : Ain) (s : State) : Out := live s (fun s => owDue s i)

end Sys2Proof.Machine
end

