-- ==== Sys2Proof/Machine/Pif.lean ====
section
/-! DEFINITION. The position interfaces (chapter "Position and speed interfaces"): edge qualification, counting, index,
Hall, resolver and serial sources, the speed estimator, the period latch and its record, faults and fallback, and the
divided output. -/

namespace Sys2Proof.Machine

/-- Changes an interface. -/
def State.modPif (s : State) (n : Ch) (f : Pif → Pif) : State :=
  { s with pos := { s.pos with pifs := vupd s.pos.pifs n f } }

/-- An interface. -/
def State.pif (s : State) (n : Ch) : Pif := s.pos.pifs[n]

/-- Logs event `low` of interface n (R158). -/
def pifEv (s : State) (n : Ch) (low : Nat) (items : List Nat := []) : State :=
  s.logEv (0x1800 + low + 0x100 * n.val) (n.val :: items)

/-- Fires bit `b` of `PIFn_IRQ` (R156). -/
def pifIrq (s : State) (n : Ch) (b : Nat) : State :=
  let f := match b with
    | 0 => PIFn_IRQ_dir_chg
    | 1 => PIFn_IRQ_index
    | 2 => PIFn_IRQ_fault
    | _ => PIFn_IRQ_fallback
  (s.put f 1 n.val).onIf (s.getBit PIFn_IRQ_EN_en b n.val) (fun s => s.irq (8 + n.val))

/-- The source code of the primary (`true`) or of the secondary. -/
def srcCodeOf (s : State) (n : Ch) (pri : Bool) : Nat :=
  if pri then s.get PIFn_CTL_pri_src n.val else s.get PIFn_CTL_sec_src n.val

/-- The source runs on the interface, as primary or secondary. -/
def srcUsed (s : State) (n : Ch) (code : Nat) : Bool :=
  s.getB PIFn_CTL_en n.val && (srcCodeOf s n true == code || srcCodeOf s n false == code)

/-- The code of the active source; 0 when there is none. -/
def activeSrc (s : State) (n : Ch) : Nat :=
  match s.get PIFn_STAT_active n.val with
  | 1 => srcCodeOf s n true
  | 2 => srcCodeOf s n false
  | _ => 0

/-- The decoded source of a code. -/
def srcOf (s : State) (n : Ch) (code : Nat) : Src :=
  match code with
  | 1 => (s.pif n).abz
  | 2 => (s.pif n).hal
  | 3 => (s.pif n).rsv
  | _ => (s.pif n).ser

/-- Changes the decoded source of a code. -/
def modSrc (s : State) (n : Ch) (code : Nat) (f : Src → Src) : State :=
  s.modPif n (fun p => match code with
    | 1 => { p with abz := f p.abz }
    | 2 => { p with hal := f p.hal }
    | 3 => { p with rsv := f p.rsv }
    | _ => { p with ser := f p.ser })

/-! ### Speed (R145, R146) -/

/-- An edge at position `p`, tick `t`, in direction `d` (true: negative), with j_max edges spanned. -/
def estEdge (e : Est) (jmax : Nat) (p : Int) (t : Nat) (d : Bool) : Est :=
  let n := min ((if d != e.dir then 0 else e.n) + 1) 17
  let hist := ((p, t) :: e.hist).take 18
  if 2 ≤ n then
    let j := min (n - 1) jmax
    let old := hist.getD j (p, t)
    ⟨hist, n, d, t, p - old.1, t - old.2, true⟩
  else ⟨hist, n, d, t, 0, 1, false⟩

/-- The speed that a position difference over a tick difference means, in 2^-16 Hz electrical, rounded towards zero
(R145). -/
def speedOf (s : State) (n : Ch) (code : Nat) (dp : Int) (dt : Nat) : Int :=
  if dt = 0 then 0
  else match code with
    | 1 => divTrunc (dp * s.get PIFn_GEOM_pp n.val * 400000000 * 65536) (dt * max 1 (s.get PIFn_GEOM_cpr n.val))
    | 2 => divTrunc (dp * 400000000 * 65536) (dt * 6)
    | _ => divTrunc (dp * 400000000 * 65536) (dt * 2 ^ 32)

/-- The position step that counts as one count for the absence rule (R145). -/
def countUnit (s : State) (n : Ch) (code : Nat) : Int :=
  if code < 3 then 1 else if s.get PIFn_SPDCFG_dir_band n.val = 0 then 65536 else (s.get PIFn_SPDCFG_dir_band n.val : Int) * 65536

/-- The reported speed of a source now (R145): no larger than the absence of an edge allows. -/
def reportedOf (s : State) (n : Ch) (code : Nat) (e : Est) : Int :=
  if !e.valid then 0
  else
    let w := speedOf s n code e.dp e.dt
    let age := s.now - e.tLast
    if age = 0 then w
    else
      let b := speedOf s n code (countUnit s n code) age
      if 0 ≤ w then min w b else max w (-b)

/-- What a source says now: angle, its TS, speed, whether the speed is valid, direction. SENSORLESS speaks through the
observer of the channel's spindle (R120, R255). -/
def srcView (s : State) (n : Ch) (code : Nat) : Nat × Nat × Int × Bool × Bool :=
  if code = 6 then
    let w := s.getS SPn_OBS_SPD_speed n.val
    (s.get SPn_OBS_ANG_angle n.val, (s.carrier (.ch n)).reloadTs, w, s.getB SPn_FLD_STAT_obs_valid n.val, decide (w < 0))
  else
    let x := srcOf s n code
    (x.ang, x.ts, reportedOf s n code x.est, x.est.valid, x.est.dir)

/-- `PIFn_STAT`, `PIFn_SPD` and `PIFn_POS` follow the active source. -/
def pifSync (s : State) (n : Ch) : State :=
  let c := activeSrc s n
  if c = 0 then s
  else
    let v := srcView s n c
    let s := (s.putB PIFn_STAT_spd_valid v.2.2.2.1 n.val).putB PIFn_STAT_dir v.2.2.2.2 n.val
    let s := s.putS PIFn_SPD_speed v.2.2.1 n.val
    match c with
    | 1 => s.put PIFn_POS_count (s.pif n).count n.val
    | 2 => s.put PIFn_POS_count (toField 32 (s.pif n).hal.pos) n.val
    | 3 => s.put PIFn_POS_count (toField 32 ((s.pif n).rsv.pos / (65536 * (max 1 (s.get PIFn_GEOM_pp n.val) : Int)))) n.val
    | 6 => s
    | _ => s.put PIFn_POS_count (toField 32 (s.pif n).ser.pos) n.val

/-! ### Health and the record of a latch (R147 to R151) -/

/-- The role of a source: whether it is the primary. -/
def isPri (s : State) (n : Ch) (code : Nat) : Bool := srcCodeOf s n true == code

/-- A source is healthy: its fault bit is clear; SENSORLESS is healthy while the observer is valid (DEDUCED). -/
def srcHealthy (s : State) (n : Ch) (pri : Bool) : Bool :=
  srcCodeOf s n pri != 0 && !s.getB (if pri then PIFn_FSTAT_pri_fault else PIFn_FSTAT_sec_fault) n.val
    && (srcCodeOf s n pri != 6 || s.getB SPn_FLD_STAT_obs_valid n.val)

/-- The interface can switch to the secondary (R150). -/
def canFallback (s : State) (n : Ch) : Bool :=
  s.get PIFn_STAT_active n.val == 1 && s.getB PIFn_CTL_fb_en n.val && srcHealthy s n false

/-- POS_LOST when the active source is unhealthy and no switch is possible (R151). -/
def posLostCheck (s : State) (n : Ch) : State :=
  let a := s.get PIFn_STAT_active n.val
  if (a == 1 || a == 2) && !srcHealthy s n (a == 1) && !canFallback s n && !s.getB PIFn_STAT_pos_lost n.val then
    (pifEv (s.put PIFn_STAT_pos_lost 1 n.val) n 0x07).raise (chSrc n.val 6)
  else s

/-- The next reload of a channel in ft, as the carrier's lengths say; in COT and CFT the earliest one. -/
def periodEndFt (s : State) (n : Ch) : Nat :=
  if carrMode s (.ch n) < 2 then halfEnd s (.ch n) else (s.carrier (.ch n)).reloadFt + s.get CHn_PERMIN_per_min n.val

/-- The control period of the period that runs, in ft. -/
def ctrlFt (s : State) (n : Ch) : Nat :=
  let c := s.carrier (.ch n)
  if c.fresh then ctrlOf s (.ch n) c.act.per else periodEndFt s n - c.reloadFt

/-- The reload that ends the period to which a latch of this tick belongs, in ft: the latch falls at the offset from the reload that
begins it (R147), which may lie before or after the last one. -/
def latchEndFt (s : State) (n : Ch) : Nat :=
  let c := s.carrier (.ch n)
  let b : Int := (s.now : Int) - s.getS PIFn_LATCH_offset n.val
  if c.fresh then periodEndFt s n + ctrlFt s n
  else if b < c.reloadTs then c.reloadFt
  else if ((periodEndFt s n / 128 : Nat) : Int) ≤ b then periodEndFt s n + ctrlFt s n
  else periodEndFt s n

/-- The target instant's tick: the reload that ends the period plus half the control period (R148). -/
def targetTick (s : State) (n : Ch) : Nat := (latchEndFt s n + ctrlFt s n / 2) / 128

/-- An angle carried forward at a speed over a number of ticks (R148, R242). -/
def extrap (ang : Nat) (w : Int) (dt : Int) : Nat := toField 32 ((ang : Int) + Int.tdiv (w * dt * 65536) 400000000)

/-- The position record of R147. -/
def formRecord (s : State) (n : Ch) : PosRec :=
  let c := activeSrc s n
  let v := srcView s n c
  let angX := if !v.2.2.2.1 then v.1
    else
      let x := extrap v.1 v.2.2.1 ((targetTick s n : Int) - v.2.1)
      if c = 2 then
        let d := Int.tdiv (v.2.2.1 * ((targetTick s n : Int) - v.2.1) * 65536) 400000000
        let lim : Int := 2 ^ 32 / 6
        if lim < |d| then toField 32 ((v.1 : Int) + (if v.2.2.2.2 then -lim else lim)) else x
      else x
  let sampled := c == 3 || c == 4 || c == 5
  ⟨c, v.1, v.2.1, v.2.2.1, v.2.2.2.1, v.2.2.2.2, angX, c == 1 && !s.getB PIFn_ZSTAT_referenced n.val,
    s.get PIFn_STAT_active n.val == 2, s.getB PIFn_STAT_pos_lost n.val || (sampled && !(srcOf s n c).fresh)⟩

/-- Delivers a position record to a pair through Chuck (R39). -/
def deliverPos (s : State) (pair : Nat) (r : PosRec) : State :=
  if s.replayed pair then s else { s with chuck := s.chuck ++ [⟨2 + pair, .position r, s.now, false⟩] }

/-- Delivers the record of PIF1 to a spindle of the six-phase group as a further measured source (R120). -/
def deliverFurther (s : State) (pair : Nat) (r : PosRec) : State :=
  if s.replayed pair then s else { s with chuck := s.chuck ++ [⟨2 + pair, .further r, s.now, false⟩] }

/-- A record of interface n goes to its spindles (R120, R147): in a six-phase group that of PIF0 to both, that of PIF1 as a further
source. -/
def deliverRec (s : State) (n : Ch) (r : PosRec) : State :=
  if s.six && n == 0 then deliverPos (deliverPos s 0 r) 1 r
  else if s.six && n == 1 then deliverFurther (deliverFurther s 0 r) 1 r
  else deliverPos s n.val r

/-- A position entry of this tick that an interface has put into Chuck. -/
def ofLatch (s : State) (n : Ch) (c : ChuckItem) : Bool :=
  c.ts == s.now && (match c.val with
    | .position _ => if s.six && decide (n.val < 2) then n == 0 && decide (c.pair < 4) else c.pair == 2 + n.val
    | .further _ => s.six && n == 1
    | _ => false)

/-- Which of the sources ABZ, HALL, RESOLVER and serial have a sample since the last record. -/
def freshOf (p : Pif) : List Bool := [p.abz.fresh, p.hal.fresh, p.rsv.fresh, p.ser.fresh]

/-- A source with its mark of a new sample. -/
def withFresh (x : Src) (b : Bool) : Src := { x with fresh := b }

/-- Sets the four marks. -/
def setFresh (p : Pif) (f : List Bool) : Pif :=
  { p with abz := withFresh p.abz (f.getD 0 false), hal := withFresh p.hal (f.getD 1 false),
           rsv := withFresh p.rsv (f.getD 2 false), ser := withFresh p.ser (f.getD 3 false) }

/-- The record of a period latch (R147, R150, R151): the switch to the secondary, POS_LOST, and the record with its delivery. -/
def latchRecord (s : State) (n : Ch) : State :=
  let s := s.onIf (s.get PIFn_STAT_active n.val == 1 && !srcHealthy s n true && canFallback s n) (fun s =>
    pifIrq (pifEv (s.put PIFn_STAT_active 2 n.val) n 0x06) n 3)
  let s := s.onIf (s.getB PIFn_STAT_pos_lost n.val && srcHealthy s n (s.get PIFn_STAT_active n.val == 1))
    (fun s => s.put PIFn_STAT_pos_lost 0 n.val)
  let s := posLostCheck s n
  let s := pifSync s n
  let r := formRecord s n
  let s := (s.put PIFn_ANGLE_angle r.ang n.val).put64 PIFn_STS_LO_ts PIFn_STS_HI_ts r.ts n.val
  let s := s.modPif n (fun p => setFresh { p with record := some r, latch := some (s.now, freshOf p) } [])
  deliverRec s n r

/-- An edge, a sample or a fault of source `code` on the tick of a latch is included in its record (R155). -/
def relatch (s : State) (n : Ch) (code : Nat) : State :=
  match (s.pif n).latch with
  | some (t, f) =>
    if t = s.now && (activeSrc s n == code) then
      let s := { s with chuck := s.chuck.filter (fun c => !ofLatch s n c) }
      latchRecord (s.modPif n (fun p => setFresh p (List.zipWith (fun a b => a || b) f (freshOf p)))) n
    else s
  | none => s

/-- A new sample of the active source triggers the sequencers that follow it (R156, `trig_sel`). -/
def sampleTrig (s : State) (n : Ch) (code t : Nat) : State :=
  s.onIf (s.getB PIFn_CTL_trig_sel n.val && activeSrc s n == code) (fun s => seqFire s (0x1C + n.val) t s.now)

/-- The estimator that an edge of this tick meets: one whose SPD_TIMEOUT expired on the same tick has not lost its speed (R155). -/
def estNow (s : State) (x : Src) : Est := match x.tmo with
  | some (t, e) => if t = s.now then e else x.est
  | none => x.est

/-- An edge of a source is taken (R145, R146): estimator, angle and TS; a reversal fires DIR_CHG on the active source. -/
def srcEdge (s : State) (n : Ch) (code : Nat) (p : Int) (ang t : Nat) (d : Bool) : State :=
  let e := estNow s (srcOf s n code)
  let rev := d != e.dir
  let j := 2 ^ s.get PIFn_SPDCFG_spd_edges n.val
  let s := modSrc s n code (fun x => { x with est := estEdge e j p t d, has := true, ang := ang, ts := t, fresh := true, tmo := none })
  let s := s.onIf (rev && activeSrc s n == code) (fun s => pifIrq s n 0)
  sampleTrig (relatch (pifSync s n) n code) n code t

/-! ### Encoder faults (R149 to R151) -/

/-- An encoder fault of a source with its bit of `PIFn_FSTAT` (R149). -/
def encFault (s : State) (n : Ch) (code : Nat) (bit : Fld) : State :=
  let pri := isPri s n code
  let s := (s.put bit 1 n.val).put (if pri then PIFn_FSTAT_pri_fault else PIFn_FSTAT_sec_fault) 1 n.val
  let s := (pifEv s n 0x05 [code]).raise (chSrc n.val 5) code
  relatch (posLostCheck (pifIrq s n 2) n) n code

/-! ### Lines (R121 to R124) -/

/-- A rejected edge is counted; at the threshold of the interval ENC_NOISY is raised once (R123, R124). -/
def lineReject (s : State) (n : Ch) : State :=
  let s := (s.incSat PIFn_EDGE_edge_fault_cnt n.val).modPif n (fun p => { p with rejects := p.rejects + 1 })
  s.onIf (s.get PIFn_FILT_noisy_thr n.val ≤ (s.pif n).rejects && !(s.pif n).noisyDone) (fun s =>
    (pifEv ((s.put PIFn_EDGE_noisy 1 n.val).modPif n (fun p => { p with noisyDone := true })) n 0x01).raise (chSrc n.val 4))

/-- A line's logical value becomes `v` (R123): the new state, and whether an edge was accepted. A delayed edge that is due on this tick
is accepted first, and the new edge is judged against it (R155). -/
def lineEdge (s : State) (n : Ch) (i : Fin 6) (v : Bool) : State × Bool :=
  let l := (s.pif n).lines[i]
  if v = l.logic then (s, false)
  else
    let min := s.get PIFn_FILT_min_edge n.val
    let s := s.modPif n (fun p => { p with lines := vupd p.lines i (fun l => { l with logic := v }) })
    let soon := match l.accTs with
      | some t => decide (s.now - t < min)
      | none => false
    if l.logic != l.level && !soon && min != 0 then
      (lineReject (s.modPif n (fun p => { p with lines := vupd p.lines i (fun x => { x with level := l.logic, accTs := some s.now }) })) n, true)
    else if soon then (lineReject s n, false)
    else if v = l.level then (s, false)
    else (s.modPif n (fun p => { p with lines := vupd p.lines i (fun l => { l with level := v, accTs := some s.now }) }), true)

/-- A line that no source in use reads follows its pins, without an edge (DESIGN CHOICE, assumption 99). -/
def lineFollow (s : State) (n : Ch) (i : Fin 6) (v : Bool) : State :=
  s.modPif n (fun p => { p with lines := vupd p.lines i (fun _ => ⟨v, v, none⟩) })

/-- The delayed edge of a line (R123): the accepted level takes the logical value. -/
def lineDelayed (s : State) (n : Ch) (i : Fin 6) : State × Bool :=
  let l := (s.pif n).lines[i]
  let soon := match l.accTs with
    | some t => decide (s.now - t < s.get PIFn_FILT_min_edge n.val)
    | none => false
  if l.logic = l.level || soon then (s, false)
  else (s.modPif n (fun p => { p with lines := vupd p.lines i (fun l => { l with level := l.logic, accTs := some s.now }) }), true)

/-- The level that a differential pair's logical value takes: P while P and N differ, else its last value (R122). -/
def pairVal (s : State) (n : Ch) (i : Fin 6) (p q : Bool) : Bool := if p != q then p else (s.pif n).lines[i].logic

/-! ### ABZ (R125 to R131) -/

/-- The quadrature state of levels (A, B): its place in the forward order 00, 10, 11, 01. -/
def quadIdx (a b : Bool) : Nat := if a then (if b then 2 else 1) else (if b then 3 else 0)

/-- The electrical angle of a revolution position (R127). -/
def abzAngle (s : State) (n : Ch) (p cpr : Nat) : Nat :=
  (s.get PIFn_GEOM_pp n.val * p * 2 ^ 32 / max 1 cpr + s.get PIFn_AOFS_aofs n.val) % 2 ^ 32

/-- The divided output moves one state towards its source when 20 tk have passed since its last edge (R154). -/
def encoStep (s : State) : State :=
  let e := s.pos.enco
  if e.lag = 0 || !s.getB ENCO_CTL_en then s
  else if s.now < e.last + 20 then
    (s.put ENCO_STAT_lag 1).logRate 0x180C 0 (10 * tkMs)
  else
    let d : Int := if 0 < e.lag then 1 else -1
    let s := { s with pos := { s.pos with enco := ⟨e.state + d, e.lag - d, s.now⟩ } }
    s.onIf (e.lag - d != 0) (fun s => (s.put ENCO_STAT_lag 1).logRate 0x180C 0 (10 * tkMs))

/-- The quadrature states of the divided output per mechanical revolution of a source other than ABZ (R154). -/
def encoRev (s : State) : Nat := max 1 (s.get ENCO_CTL_cpr_out)

/-- The state the divided output should show, from its source's position (R154). A serial position is one of a revolution: the output
goes on to the nearest state that shows it. -/
def encoWant (s : State) (n : Ch) : Int :=
  let div := s.get ENCO_CTL_div
  let rev : Int := encoRev s
  let pp : Int := max 1 (s.get PIFn_GEOM_pp n.val)
  let p := s.pif n
  match activeSrc s n with
  | 1 => ofField 32 p.count / (if div = 0 then 256 else div : Nat)
  | 2 => p.hal.pos * rev / (6 * pp)
  | 3 => p.rsv.pos * rev / (2 ^ 32 * pp)
  | 6 => s.pos.enco.state + s.pos.enco.lag
  | _ =>
    let w := s.pos.enco.state + s.pos.enco.lag
    let d := (p.ser.pos * rev / 65536 - w) % rev
    w + (if 2 * d < rev then d else d - rev)

/-- The divided output follows interface n when it is its source. -/
def encoFollow (s : State) (n : Ch) : State :=
  if s.getB ENCO_CTL_en && s.get ENCO_CTL_src == n.val then
    encoStep { s with pos := { s.pos with enco := { s.pos.enco with lag := encoWant s n - s.pos.enco.state } } }
  else s

/-- The levels of ENCO_A, ENCO_B and ENCO_Z (R154): low while the output is off; Z is high in the state that contains revolution
position 0. -/
def encoPins (s : State) : Bool × Bool × Bool :=
  if !s.getB ENCO_CTL_en then (false, false, false)
  else
    let n := chOf (s.get ENCO_CTL_src)
    let e := s.pos.enco.state
    let q := e % 4
    let z := if activeSrc s n = 1 then
        let div : Int := if s.get ENCO_CTL_div = 0 then 256 else s.get ENCO_CTL_div
        decide ((ofField 32 (s.pif n).count - s.get PIFn_REVPOS_rev_pos n.val - e * div) % (max 1 (s.get PIFn_GEOM_cpr n.val) : Nat) < div)
      else decide (e % (encoRev s : Int) = 0)
    (q == 1 || q == 2, q == 2 || q == 3, z)

/-- One count in a direction (true: negative): count, revolution position, estimator (R125, R127). -/
def abzStep (s : State) (n : Ch) (neg : Bool) : State :=
  let cpr := max 1 (s.get PIFn_GEOM_cpr n.val)
  let r := s.get PIFn_REVPOS_rev_pos n.val
  let r' := if neg then (r + cpr - 1) % cpr else (r + 1) % cpr
  let d : Int := if neg then -1 else 1
  let edge := if (r = 0 && r' = cpr - 1) || (r' = 0 && r = cpr - 1) then 0 else max r r'
  let p0 := (s.pif n).abz.pos
  let s := s.modPif n (fun p => { p with
    count := toField 32 ((p.count : Int) + d), sinceIndex := p.sinceIndex + d, abz := { p.abz with pos := p0 + d } })
  let s := s.put PIFn_REVPOS_rev_pos r' n.val
  encoFollow (srcEdge s n 1 (max p0 (p0 + d)) (abzAngle s n edge cpr) s.now neg) n

/-- Sets the count and the revolution position of the ABZ decoder. -/
def abzSet (s : State) (n : Ch) (count rev : Nat) : State :=
  pifSync ((s.modPif n (fun p => { p with count := count % 2 ^ 32 })).put PIFn_REVPOS_rev_pos rev n.val) n

/-- The decoder before a count of this tick by the other line (R126), if one counted. -/
def abzUndo (s : State) (n : Ch) (line : Nat) : Option AbPrev :=
  (s.pif n).abPrev.filter (fun u => u.ts == s.now && u.line != line)

/-- The count and the revolution position stand as before the tick's count, as A and B fall on the same tick (R126). -/
def abzBack (s : State) (n : Ch) (u : AbPrev) : State :=
  let s := s.modPif n (fun p => { p with count := u.count, abz := u.src, sinceIndex := u.since, abPrev := none })
  encoFollow (relatch (pifSync ((s.put PIFn_REVPOS_rev_pos u.rev n.val).incSat PIFn_EDGE_quad_cnt n.val) n) n 1) n

/-- An accepted edge of one line: it counts, unless the other line's edge fell on the same tick (R126). A POS_SET of the same tick
overwrites the count (R155). -/
def abzLine (s : State) (n : Ch) (line : Nat) (neg : Bool) : State :=
  match abzUndo s n line with
  | some u => abzBack s n u
  | none =>
    let p := s.pif n
    let s := s.modPif n (fun p => { p with
      abPrev := some ⟨s.now, line, p.count, s.get PIFn_REVPOS_rev_pos n.val, p.abz, p.sinceIndex⟩ })
    let s := abzStep s n neg
    match p.posSet with
    | some (t, c, r) => if t = s.now then abzSet s n c r else s
    | none => s

/-- Accepted edges of A and B (R125, R126) and a rising edge of Z (R128), on one tick. -/
def abzEdges (s : State) (n : Ch) (a0 b0 : Bool) (ea eb ez : Bool) : State :=
  let p := s.pif n
  let a1 := p.lines[0].level
  let b1 := p.lines[1].level
  let s := if ea && eb then s.incSat PIFn_EDGE_quad_cnt n.val
    else if ea || eb then
      abzLine s n (if ea then 0 else 1) ((quadIdx a1 b1 != (quadIdx a0 b0 + 1) % 4) != s.getB PIFn_CTL_dir_inv n.val)
    else s
  let gate := s.get PIFn_ZCFG_z_gate n.val
  let open' := !s.getB PIFn_ZCFG_z_gate_en n.val || gate == (if a1 then 2 else 0) + (if b1 then 1 else 0)
  s.onIf (ez && p.lines[2].level && s.getB PIFn_CTL_z_en n.val && open') (fun s =>
    s.modPif n (fun p => { p with zEdge := true }))

/-- Maps a deviation modulo CPR into [−CPR/2, CPR/2) (R129). -/
def wrapCpr (d : Int) (cpr : Nat) : Int :=
  let m := d % (cpr : Int)
  if 2 * m < cpr then m else m - cpr

/-- The index procedure of R129. -/
def indexProc (s : State) (n : Ch) : State :=
  let cpr := max 1 (s.get PIFn_GEOM_cpr n.val)
  let zexp := s.get PIFn_ZEXP_z_exp n.val
  let d := wrapCpr ((s.get PIFn_REVPOS_rev_pos n.val : Int) - zexp) cpr
  let p := s.pif n
  let tol : Int := s.get PIFn_ZCFG_z_tol n.val
  let lim : Int := s.get PIFn_ZCFG_z_limit n.val
  let home := p.homeArmed
  let fixed : Nat := toField 32 ((p.count : Int) - d)
  let s :=
    if !s.getB PIFn_ZSTAT_referenced n.val || home then
      pifEv ((((abzSet s n (if home then zexp else fixed) zexp).put PIFn_ZSTAT_referenced 1 n.val)).modPif n
        (fun p => { p with homeArmed := false })) n 0x09
    else if d ≤ tol && -tol ≤ d then
      (s.onIf (s.getB PIFn_CTL_z_corr n.val) (fun s => abzSet s n fixed zexp)).onIf (d != 0)
        (fun s => s.logRate (0x1804 + 0x100 * n.val) n.val (10 * tkMs) [n.val, toField 16 d])
    else if d ≤ lim && -lim ≤ d then pifEv (s.incSat PIFn_ZSTAT_dev_cnt n.val) n 0x03 [toField 16 d]
    else encFault s n 1 PIFn_FSTAT_z_limit
  let s := s.putS PIFn_ZSTAT_z_dev (satTo (-32767) 32767 d) n.val
  let s := s.modPif n (fun p => { p with sinceIndex := 0, zEdge := false, zMiss := false })
  (pifIrq s n 1).onIf (!s.getB PIFn_CTL_trig_sel n.val) (fun s => seqFire s (0x1C + n.val) s.now s.now)

/-- POS_HOME arms homing; POS_SET writes the count and the revolution position and references (R131). -/
def posHome (s : State) (n : Ch) : State := s.modPif n (fun p => { p with homeArmed := true })

/-- POS_SET (R131). -/
def posSet (s : State) (n : Ch) (count rev : Nat) : State :=
  let r := rev % max 1 (s.get PIFn_GEOM_cpr n.val)
  ((abzSet s n count r).put PIFn_ZSTAT_referenced 1 n.val).modPif n (fun p => { p with posSet := some (s.now, count, r) })

/-! ### Hall (R132, R133) -/

/-- The sector of a Hall state 1 to 6. -/
def hallSector (s : State) (n : Ch) (st : Nat) : Nat := (s.get PIFn_HALL_map n.val / 2 ^ (3 * (st - 1))) % 8

/-- The accepted Hall state has changed. -/
def hallStep (s : State) (n : Ch) : State :=
  let p := s.pif n
  let st := (if p.lines[3].level then 4 else 0) + (if p.lines[4].level then 2 else 0) + (if p.lines[5].level then 1 else 0)
  if st = 0 || st = 7 then s
  else
    let sec := hallSector s n st
    let s := s.modPif n (fun p => { p with hallBad := false })
    match p.sector with
    | none => s.modPif n (fun p => { p with sector := some sec })
    | some old =>
      if sec = old then s
      else
        let s := s.modPif n (fun p => { p with sector := some sec })
        let ang (b : Nat) : Nat := (b * 2 ^ 32 / 6 + s.get PIFn_HALL_OFS_ofs n.val) % 2 ^ 32
        if sec = (old + 1) % 6 then
          let s := modSrc s n 2 (fun x => { x with pos := x.pos + 1, errs := 0 })
          encoFollow (srcEdge s n 2 (s.pif n).hal.pos (ang sec) s.now false) n
        else if old = (sec + 1) % 6 then
          let q := (s.pif n).hal.pos
          let s := modSrc s n 2 (fun x => { x with pos := x.pos - 1, errs := 0 })
          encoFollow (srcEdge s n 2 q (ang old) s.now true) n
        else
          let s := (modSrc s n 2 (fun x => { x with errs := x.errs + 1 })).put PIFn_FSTAT_hall_seq 1 n.val
          s.onIf (s.get PIFn_HALL_seq_max n.val ≤ (s.pif n).hal.errs) (fun s => encFault s n 2 PIFn_FSTAT_hall_seq)

/-! ### Sampled sources: resolver and serial (R134 to R144) -/

/-- A new sample of a sampled source: electrical angle `ang` at tick `t`; its edge when it moved by more than
dir_band (R145). `pos` gives the new position from the angle difference. -/
def sampleIn (s : State) (n : Ch) (code ang t : Nat) (pos : Int → Int → Int) : State :=
  let x := srcOf s n code
  if !x.has then
    let s := modSrc s n code (fun x => { x with
      has := true, ang := ang, ts := t, fresh := true, pos := pos 0 0, acc := 0,
      est := { x.est with hist := [(0, t)], n := 1, tLast := t } })
    sampleTrig (encoFollow (relatch (pifSync s n) n code) n) n code t
  else
    let d := ofField 32 (toField 32 ((ang : Int) - x.ang))
    let acc := x.acc + d
    let moved := acc - (x.est.hist.headD (acc, t)).1
    let band : Int := (s.get PIFn_SPDCFG_dir_band n.val : Int) * 65536
    let s := modSrc s n code (fun x => { x with pos := pos x.pos d, acc := acc, ang := ang, ts := t, fresh := true })
    if band < moved || moved < -band then encoFollow (srcEdge s n code acc ang t (decide (moved < 0))) n
    else sampleTrig (encoFollow (relatch (pifSync s n) n code) n) n code t

/-- One demodulated component of a resolver half-period (R135), in units of 2^-30 codes: (2/N)·Σ x·r with r the shifted
excitation sine at the sample's phase (2^-16 of an excitation period). In a negative half-period r counts as the sine of
the half-period itself and the sum is inverted, which is the product with the signed sine (assumption 20). -/
def demod (shift : Nat) (xs : List (Int × Nat)) : Int :=
  let sum := (xs.map (fun x => x.1 * (sinTurn ((x.2 + 65536 - shift) % 65536) 65536 / 2 ^ 90))).sum
  if xs.length = 0 then 0 else 2 * sum / (xs.length : Int)

/-- A bad serial frame (R144). -/
def serBad (s : State) (n : Ch) (code : Nat) : State :=
  let s := (s.incSat PIFn_SER_STAT_crc_err_cnt n.val).modPif n (fun p => { p with
    frame := { p.frame with run := false, last := some s.now, errs := p.frame.errs + 1, wait := false, back := false } })
  s.onIf ((s.pif n).frame.errs == s.get PIFn_SER_err_max n.val) (fun s => encFault s n code PIFn_FSTAT_ser_err)

/-- A number from bits, most significant first. -/
def bitsVal (bs : List Bool) : Nat := bs.foldl (fun v b => 2 * v + (if b then 1 else 0)) 0

/-- The CSER CRC of R142: polynomial 0x2F, initial value 0xFF, sent inverted. -/
def crc8Cser (bs : List Bool) : Nat :=
  255 - bs.foldl (fun c b =>
    let top := decide (128 ≤ c)
    let c2 := (2 * c) % 256
    if top != b then c2 ^^^ 0x2F else c2) 255

/-- Gray code to binary, most significant bit first. -/
def unGray (bs : List Bool) : List Bool :=
  (bs.foldl (fun (acc : List Bool × Bool) b => (acc.1 ++ [acc.2 != b], acc.2 != b)) ([], false)).1

/-- A good serial frame: the single-turn bits become position and angle (R144). -/
def serGood (s : State) (n : Ch) (code : Nat) (data : List Bool) : State :=
  let st := s.get PIFn_SER_st_bits n.val
  let v := bitsVal data % 2 ^ st
  let pos16 := if 16 ≤ st then v / 2 ^ (st - 16) else v * 2 ^ (16 - st)
  let t := (s.pif n).frame.t0 + s.get PIFn_SER_TIM_ser_lat n.val
  let s := s.modPif n (fun p => { p with frame := { p.frame with run := false, last := some s.now, errs := 0, back := false } })
  sampleIn s n code (abzAngle s n v (2 ^ st)) t (fun _ _ => (pos16 : Int))

/-- The serial source in use: CSER (4) or SSI (5). -/
def serCode (s : State) (n : Ch) : Nat := if srcCodeOf s n true = 5 then 5 else 4

/-- The ticks of an MA period: fMA is 200 MHz / (clk_div + 1) (R140). -/
def maTicks (s : State) (n : Ch) : Nat := 2 * (s.get PIFn_SER_clk_div n.val + 1)

/-- MA (R119, R142): high at rest; in a frame low for one MA period, and then clocked with a rising edge at the end of each period. -/
def maLevel (s : State) (n : Ch) : Bool :=
  let f := (s.pif n).frame
  let x := s.now - f.t0
  !f.run || (decide (maTicks s n ≤ x) && decide (2 * (x % maTicks s n) < maTicks s n))

/-- The outputs ENCn_AP and ENCn_AN of CSER and SSI, which are complementary (R119); none of another source. -/
def maPins (s : State) (n : Ch) : Option (Bool × Bool) :=
  if srcUsed s n 4 || srcUsed s n 5 then some (maLevel s n, !maLevel s n) else none

/-- A frame starts: this is its first falling MA edge (R142, R144). -/
def serRun (s : State) (n : Ch) : State :=
  s.modPif n (fun p => { p with frame := { p.frame with run := true, t0 := s.now, wait := false, back := true } })

/-- SLO as the pins show it: once it has been high after a frame, a frame that waits for it starts (R142). -/
def sloSeen (s : State) (n : Ch) (slo : Bool) : State :=
  if !slo then s
  else if (s.pif n).frame.wait then serRun s n
  else s.onIf (!(s.pif n).frame.run) (fun s => s.modPif n (fun p => { p with frame := { p.frame with back := true } }))

/-- A serial trigger whose instant has come (R140), if there is one. -/
def serDue (s : State) (n : Ch) : Option Nat := (s.pif n).frame.due.find? (fun t => decide (t ≤ s.now))

/-- A serial trigger (R140, R141). SLO must be high at the trigger; a new frame waits until SLO has returned high from the last one
(R142, R143). A trigger on the tick at which that frame ended is an overrun (R155). -/
def serStart (s : State) (n : Ch) (slo : Bool) : State :=
  match serDue s n with
  | none => s
  | some t =>
    if !srcUsed s n 4 && !srcUsed s n 5 then s
    else
      let s := s.modPif n (fun p => { p with frame := { p.frame with due := p.frame.due.erase t } })
      let f := (s.pif n).frame
      let inGap := match f.last with
        | some t => decide (s.now < t + s.get PIFn_SER_TIM_gap n.val * tkUs) || t == s.now
        | none => false
      if f.run || f.wait || inGap then s.incSat PIFn_SER_STAT_ovr_cnt n.val
      else if slo then serRun s n
      else if f.back then serBad s n (serCode s n)
      else s.modPif n (fun p => { p with frame := { p.frame with wait := true } })

/-- A trigger of a serial interface at tick `T` is scheduled. -/
def serPlan (s : State) (n : Ch) (T : Nat) : State :=
  s.modPif n (fun p => { p with frame := { p.frame with due := p.frame.due ++ [T] } })

/-- The interface has a serial source, and is triggered by source `code` (R140). -/
def serOf (s : State) (n : Ch) (code : Nat) : Bool :=
  (srcUsed s n 4 || srcUsed s n 5) && s.get PIFn_SER_TRIG_src n.val == code

/-- A reload of source `code` at tick `t`, whose period before began at tick `p0`, schedules the frames that follow it (R86, R87, R140). -/
def serReload (s : State) (code t p0 : Nat) : State :=
  s.forL (List.finRange 4) (fun n s =>
    let off := s.getS PIFn_SER_TRIG_offset n.val
    s.onIf (serOf s n code && decide (0 ≤ off) && decide ((s.pif n).enTs < p0)) (fun s => serPlan s n (t + off.toNat)))

/-- The period before the reload of source `code` at tick `t` begins: a negative offset schedules the frame from there, not before it
(R87, R140). -/
def serArm (s : State) (code t : Nat) : State :=
  s.forL (List.finRange 4) (fun n s =>
    let off := s.getS PIFn_SER_TRIG_offset n.val
    s.onIf (serOf s n code && decide (off < 0) && decide ((s.pif n).enTs < s.now)) (fun s =>
      serPlan s n (if (t : Int) + off ≤ s.now then s.now else ((t : Int) + off).toNat)))

/-- In COT and CFT a reload is known only when it occurs: a serial trigger with a negative offset is taken there (R169). -/
def serCot (s : State) (code p0 : Nat) : State :=
  s.forL (List.finRange 4) (fun n s =>
    s.onIf (serOf s n code && decide (s.getS PIFn_SER_TRIG_offset n.val < 0) && decide ((s.pif n).enTs < p0)) (fun s => serPlan s n s.now))

/-- A trigger timer starts the frames that follow it, without an offset (R86, R140). -/
def serTimer (s : State) (code : Nat) : State :=
  s.forL (List.finRange 4) (fun n s => s.onIf (serOf s n code) (fun s => serPlan s n s.now))

/-- The bits of a serial frame have been sampled (R142 to R144). CSER: two sync bits, data, ERR, WARN and the CRC; SSI:
data, the parity bit where configured, and the check bit. -/
def serEnd (s : State) (n : Ch) (bits : List Bool) (delay : Nat) : State :=
  if !(s.pif n).frame.run then s
  else
    let pb := s.get PIFn_SER_pos_bits n.val
    let code := serCode s n
    if code = 4 then
      let s := s.put PIFn_SER_STAT_line_dly delay n.val
      let data := (bits.drop 2).take pb
      let ew := (bits.drop (2 + pb)).take 2
      let ok := bits.length == 12 + pb && bits.take 2 == [false, true]
        && bitsVal (bits.drop (4 + pb)) == crc8Cser (data ++ ew) && !ew.getD 0 true
      if ok then serGood (s.onIf (ew.getD 1 false) (fun s => s.put PIFn_FSTAT_ser_warn 1 n.val)) n code data
      else serBad s n code
    else
      let raw := bits.take pb
      let par := s.getB PIFn_SER_parity n.val
      let even := (bits.take (pb + 1)).foldl (fun a b => a != b) false == false
      let ok := bits.length == pb + (if par then 2 else 1) && (!par || even) && bits.getLast? == some false
      if ok then serGood s n code (if s.getB PIFn_SER_gray n.val then unGray raw else raw) else serBad s n code

/-! ### The period latch (R147 to R153) -/

/-- The position that the freeze check compares, in the source's unit (R152). -/
def frzPos (s : State) (n : Ch) (code : Nat) : Int :=
  match code with
  | 3 => (s.pif n).rsv.pos / (65536 * (max 1 (s.get PIFn_GEOM_pp n.val) : Int))
  | c => (srcOf s n c).pos

/-- The freeze check of source x against source y at a latch (R152). -/
def freezeCheck (s : State) (n : Ch) (pri : Bool) : State :=
  let x := srcCodeOf s n pri
  let y := srcCodeOf s n (!pri)
  if x = 0 || y = 0 || x = 6 then s
  else
    let v := srcView s n y
    let moves := v.2.2.2.1 && decide ((s.get PIFn_FRZ_SPD_frz_speed n.val : Int) < |v.2.2.1|)
    let sx := srcOf s n x
    let p := frzPos s n x
    let band : Int := s.get PIFn_FRZ_frz_band n.val
    let still := decide (0 < sx.frzCnt) && decide (p - sx.frz0 ≤ band) && decide (sx.frz0 - p ≤ band)
    let cnt := if !moves then 0 else if still then sx.frzCnt + 1 else 1
    let s := modSrc s n x (fun q => { q with frzCnt := cnt, frz0 := if still && moves then q.frz0 else p })
    s.onIf (moves && cnt == s.get PIFn_FRZ_frz_n n.val) (fun s =>
      encFault (pifEv s n 0x08 [x]) n x (if pri then PIFn_FSTAT_frozen_pri else PIFn_FSTAT_frozen_sec))

/-- A requested return to the primary source (R153), or its refusal when the primary is not fit at the latch. -/
def latchRestore (s : State) (n : Ch) : State :=
  if !(s.pif n).restore then s
  else
    let s := (s.modPif n (fun p => { p with restore := false })).put PIFn_CTL_src_restore 0 n.val
    if srcHealthy s n true && (srcView s n (srcCodeOf s n true)).2.2.2.1 then
      s.onIf (s.get PIFn_STAT_active n.val == 2) (fun s => pifEv (s.put PIFn_STAT_active 1 n.val) n 0x0B)
    else pifEv s n 0x0A

/-- The period latch of interface n: freeze checks, restore, fallback, and the record (R147, R150 to R153). -/
def pifLatch (s : State) (n : Ch) : State :=
  if !s.getB PIFn_CTL_en n.val then s
  else latchRecord (latchRestore (freezeCheck (freezeCheck s n true) n false) n) n

/-! ### Trigger timers (R115) -/

/-- Timer t expires: the next expiry follows after `per`, and its sequences and serial frames are triggered (R86, R115, R140). The instant
has been known for the interval that ends. -/
def timerFire (s : State) (t : Fin 4) (known : Nat) : State :=
  let s := { s with cvb := { s.cvb with tt := vupd s.cvb.tt t (fun _ => some (s.now + s.get SEQ_TTt_PER_per t.val)) } }
  serTimer (seqFire s (0x18 + t.val) s.now known) (0x18 + t.val)

/-- At a reload of channel n the timers that wait for it expire first (R115, `align`). -/
def timerAlign (s : State) (n : Ch) : State :=
  s.forL (List.finRange 4) (fun t s =>
    s.onIf (s.getB SEQ_TTt_CTL_en t.val && s.getB SEQ_TTt_CTL_align t.val && s.get SEQ_TTt_CTL_ch t.val == n.val && s.cvb.tt[t].isNone)
      (fun s => timerFire s t s.now))

/-! ### Meanings -/

/-- ENC_EDGE (R121 to R128): the levels of the six encoder pins change. -/
def execEncEdge (n : Ch) (ap an bp bn zp zn : Bool) (s : State) : Out :=
  live s (fun s =>
    let p := s.pif n
    let va := pairVal s n 0 ap an
    let vb := pairVal s n 1 bp bn
    let vz := pairVal s n 2 zp zn
    let eq := (if ap == an then 1 else 0) + (if bp == bn then 2 else 0) + (if zp == zn then 4 else 0)
    let s := s.modPif n (fun p => { p with wireNow := p.wireNow &&& eq })
    if !srcUsed s n 1 then sloSeen (lineFollow (lineFollow (lineFollow s n 0 va) n 1 vb) n 2 vz) n vb
    else
      let a := lineEdge s n 0 va
      let b := lineEdge a.1 n 1 vb
      let z := lineEdge b.1 n 2 vz
      abzEdges z.1 n p.lines[0].level p.lines[1].level a.2 b.2 z.2)

/-- DELAYED_EDGE (R123): MIN_EDGE has elapsed with the logical value different from the accepted level. -/
def execDelayedEdge (n : Ch) (line : Fin 6) (s : State) : Out :=
  live s (fun s =>
    let p := s.pif n
    let r := lineDelayed s n line
    if line.val < 3 then
      s.onIf (srcUsed s n 1) (fun _ => abzEdges r.1 n p.lines[0].level p.lines[1].level
        (r.2 && line.val == 0) (r.2 && line.val == 1) (r.2 && line.val == 2))
    else s.onIf (srcUsed s n 2 && r.2) (fun _ => hallStep r.1 n))

/-- NOISY_INTERVAL (R124): a 1 ms interval of the rejection count ends. -/
def execNoisyInterval (n : Ch) (s : State) : Out :=
  live s (fun s => s.modPif n (fun p => { p with rejects := 0, noisyDone := false }))

/-- WIRE_FAULT (R122, R149): P and N of a pair in use have been equal for DIS_TIME. The Z pair is in use while `z_en` is 1. -/
def execWireFault (n : Ch) (line : Fin 3) (s : State) : Out :=
  live s (fun s => s.onIf ((srcUsed s n 1 && (line.val != 2 || s.getB PIFn_CTL_z_en n.val)) || ((srcUsed s n 4 || srcUsed s n 5) && line.val == 1)) (fun s =>
    let s := s.modPif n (fun p => { p with wireNow := p.wireNow ||| 2 ^ line.val })
    encFault (pifEv (s.putBit PIFn_EDGE_wire line.val true n.val) n 0x02 [line.val]) n
      (if srcUsed s n 1 then 1 else serCode s n) PIFn_FSTAT_wire))

/-- INDEX (R128, R129): an accepted index edge is processed. -/
def execIndex (n : Ch) (s : State) : Out := live s (fun s => s.onIf (s.pif n).zEdge (fun s => indexProc s n))

/-- Z_MISSING (R130). -/
def execZMissing (n : Ch) (s : State) : Out :=
  live s (fun s => s.onIf (srcUsed s n 1 && s.getB PIFn_CTL_z_en n.val && !(s.pif n).zMiss
      && decide (3 * (s.get PIFn_GEOM_cpr n.val : Int) ≤ 2 * |(s.pif n).sinceIndex|)) (fun s =>
    encFault (s.modPif n (fun p => { p with zMiss := true })) n 1 PIFn_FSTAT_z_missing))

/-- HALL_EDGE (R132, R133): the levels of the three Hall lines change. -/
def execHallEdge (n : Ch) (u v w : Bool) (s : State) : Out :=
  live s (fun s =>
    if !srcUsed s n 2 then lineFollow (lineFollow (lineFollow s n 3 u) n 4 v) n 5 w
    else
      let a := lineEdge s n 3 u
      let b := lineEdge a.1 n 4 v
      let c := lineEdge b.1 n 5 w
      c.1.onIf (a.2 || b.2 || c.2) (fun s => hallStep s n))

/-- HALL_INVALID (R133): a state of 0 or 7 has persisted for DIS_TIME. -/
def execHallInvalid (n : Ch) (s : State) : Out :=
  live s (fun s =>
    let l := (s.pif n).lines
    s.onIf (srcUsed s n 2 && l[3].level == l[4].level && l[4].level == l[5].level) (fun s =>
      encFault (s.modPif n (fun p => { p with hallBad := true })) n 2 PIFn_FSTAT_hall_invalid))

/-- The excitation's phase, in 2^-16 of its period (R134). -/
def excPhase (s : State) (n : Ch) : Nat := ((s.now - (s.pif n).excTs) * s.get PIFn_EXC_freq n.val * 65536 / 400000000) % 65536

/-- The excitation at EXCn_P against its common mode, in 2^-120 of 0.8 V / 255 (R134); EXCn_N carries its opposite. -/
def excOut (s : State) (n : Ch) : Int :=
  if s.getB PIFn_EXC_en n.val then (s.get PIFn_EXC_amp n.val : Int) * sinTurn (excPhase s n) 65536 else 0

/-- The centre of the half-period of the excitation that ended last (R134, R136), if one has ended. -/
def excCentre (s : State) (n : Ch) : Option Nat :=
  let f := s.get PIFn_EXC_freq n.val
  let t0 := (s.pif n).excTs
  let h := (s.now - t0) * 2 * f / 400000000
  if s.getB PIFn_EXC_en n.val && h != 0 then some (t0 + (2 * h - 1) * 400000000 / (4 * f)) else none

/-- RSV_SAMPLE (R134 to R138): a half-period of the excitation has ended and its sample is available, with the samples taken of sine and
cosine, each with its phase, and the number of samples due of each input. -/
def execRsvSample (n : Ch) (sin cos : List (Int × Nat)) (due : Nat) (s : State) : Out :=
  live s (fun s => s.onIf (srcUsed s n 3 && (excCentre s n).isSome) (fun s =>
    if due < 8 * (due - sin.length) || due < 8 * (due - cos.length) then
      let s := (s.put PIFn_FSTAT_rsv_gap 1 n.val).modPif n (fun p => { p with gaps := p.gaps + 1 })
      s.onIf ((s.pif n).gaps == 4) (fun s => encFault s n 3 PIFn_FSTAT_rsv_gap)
    else
      let sh := s.get PIFn_RSV_PH_phase n.val
      let x := demod sh sin
      let y := demod sh cos
      let amp2 := x * x + y * y
      let lo : Int := (s.get PIFn_RSV_AMP_amp_lo n.val : Int) * 2 ^ 30
      let hi : Int := (s.get PIFn_RSV_AMP_amp_hi n.val : Int) * 2 ^ 30
      let s := s.modPif n (fun p => { p with gaps := 0 })
      if amp2 < lo * lo || hi * hi < amp2 then
        let s := s.modPif n (fun p => { p with amps := p.amps + 1 })
        s.onIf ((s.pif n).amps == 2) (fun s => encFault s n 3 PIFn_FSTAT_rsv_amp)
      else
        let s := s.modPif n (fun p => { p with amps := 0 })
        let th := atan2Turn x y 24 * 256
        let ang := (s.get PIFn_RSV_ratio n.val * th + s.get PIFn_AOFS_aofs n.val) % 2 ^ 32
        sampleIn s n 3 ang ((excCentre s n).getD s.now) (fun p d => p + d)))

/-- SER_FRAME_START (R140 to R143). -/
def execSerFrameStart (n : Ch) (slo : Bool) (s : State) : Out := live s (fun s => serStart s n slo)

/-- SER_FRAME_END (R142 to R144). -/
def execSerFrameEnd (n : Ch) (bits : List Bool) (delay : Nat) (s : State) : Out := live s (fun s => serEnd s n bits delay)

/-- SER_TIMEOUT (R142, R144). -/
def execSerTimeout (n : Ch) (s : State) : Out :=
  live s (fun s => s.onIf ((s.pif n).frame.run && serCode s n == 4) (fun s => serBad s n 4))

/-- SPD_TIMEOUT (R145): a source without an edge for SPD_TIMEOUT loses its speed; its next edge is a first edge. -/
def execSpdTimeout (n : Ch) (s : State) : Out :=
  live s (fun s =>
    let lim := s.get PIFn_SPDCFG_spd_timeout n.val * tkUs
    pifSync (s.forL [1, 2, 3, 4] (fun c s =>
      let e := (srcOf s n c).est
      s.onIf (e.valid && decide (lim ≤ s.now - e.tLast)) (fun s =>
        modSrc s n c (fun x => { x with tmo := some (s.now, x.est), est := { x.est with valid := false, n := 0, dp := 0, dt := 1 } })))) n)

/-- TRIGGER_TIMER_EXPIRY (R115): a timer that runs expires; one that waits for its channel's reload does not. -/
def execTriggerTimerExpiry (t : Fin 4) (s : State) : Out :=
  live s (fun s => s.onIf (s.getB SEQ_TTt_CTL_en t.val && s.cvb.tt[t].isSome)
    (fun s => timerFire s t (s.now - s.get SEQ_TTt_PER_per t.val)))

/-- ENCO_EDGE (R154): the divided output emits a lagging edge at its minimum spacing. -/
def execEncoEdge (s : State) : Out := live s encoStep

end Sys2Proof.Machine
end

