-- ==== Sys2Proof/Machine/Channel.lean ====
section
/-! DEFINITION. The channel states, the safe-state selector and safe requests (R269 to R281). -/

namespace Sys2Proof.Machine

/-! ### The selector (R277) -/

/-- A spindle by number. -/
def State.sp (s : State) (n : Ch) : SpSt := s.sps[n]
/-- Changes a spindle. -/
def State.modSp (s : State) (n : Ch) (f : SpSt → SpSt) : State := { s with sps := vupd s.sps n f }
/-- Changes a spindle's field stage. -/
def State.modFld (s : State) (n : Ch) (f : FldSt → FldSt) : State := s.modSp n (fun p => { p with fld := f p.fld })

/-- The interface whose record the channel's spindle reads: PIF0 for both channels of a six-phase group (R120). -/
def recPif (s : State) (n : Ch) : Ch := if s.six && n == 1 then 0 else n

/-- The speed of the angle source in use, in 2^-16 Hz, when it is known (R277): a frozen ω̂, the record's speed while it
is not STALE, or the valid observer's. -/
def srcSpeed (s : State) (n : Ch) : Option Int :=
  match (s.sp n).fld.obs.frozenW with
  | some w => some w
  | none =>
    let obs := if s.getB SPn_FLD_STAT_obs_valid n.val then some (s.getS SPn_OBS_SPD_speed n.val) else none
    if s.get SPn_FLD_CTL_asrc n.val = 0 then
      match (s.pif (recPif s n)).record with
      | some r => if r.stale then obs else some r.speed
      | none => obs
    else obs

/-- The selector's choice (R277): 1 PULSE_OFF, 2 ASC_LOW, 3 ASC_HIGH. -/
def selChoice (s : State) (n : Ch) : Nat :=
  let hs := s.getB CHn_SWFAIL_hs n.val
  let ls := s.getB CHn_SWFAIL_ls n.val
  let asc := ascPref s n
  if hs && ls then 1 else if hs then 3 else if ls then 2
  else match (s.chan n.val).selSpd with
    | none => if s.getB CHn_SAFECFG_asc_unk n.val then 1 else asc
    | some w => if selThr s n asc < |w| then asc else 1

/-- A held pattern contradicts the selector (R279): PULSE_OFF above thr, or an ASC that opposes a failed switch. -/
def contradicts (s : State) (n : Ch) (pat : Nat) : Bool :=
  match pat with
  | 1 => (match (s.chan n.val).selSpd with
      | some w => decide (selThr s n (ascPref s n) < |w|)
      | none => false)
  | 2 => s.getB CHn_SWFAIL_hs n.val
  | _ => s.getB CHn_SWFAIL_ls n.val

/-- The pattern in force of a channel in SAFE becomes `pat`. -/
def setPat (s : State) (n : Ch) (pat : Nat) : State := selShow ((s.put CHn_STATE_pat pat n.val).put CHn_STATE_ss pat n.val).legsApply n

/-- The selector computes again (R277 to R279): its choice and threshold are shown; in SAFE the pattern follows, and a
held pattern that now contradicts is replaced. -/
def selUpdate (s : State) (n : Ch) : State :=
  let c := selChoice s n
  let moved := s.get CHn_STATE_sel n.val != c
  let s := selShow (s.put CHn_STATE_sel c n.val) n
  let s := s.onIf moved State.legsApply
  if s.chState n.val != 6 then s
  else if !s.getB CHn_STATE_held n.val then (if s.get CHn_STATE_pat n.val = c then s else setPat s n c)
  else if moved && contradicts s n (s.get CHn_STATE_pat n.val) then
    (setPat (s.put CHn_STATE_held 0 n.val) n c).logEv 0x2411 [n.val, c]
  else s

/-- The values the selector uses are refreshed at a period latch. -/
def selRefresh (s : State) (n : Ch) : State :=
  let w := srcSpeed s n
  let v := vtermNow s n
  selUpdate (s.modChan n (fun c => { c with selSpd := w, selV := v })) n

/-! ### State changes -/

/-- A channel changes state (R269): CH_STATE with the old state, the new state and the cause. -/
def setState (s : State) (n : Ch) (new cause : Nat) : State :=
  let old := s.chState n.val
  let s := (s.put CHn_STATE_prev old n.val).put CHn_STATE_state new n.val
  let s := (s.logEv 0x2410 [n.val, old, new, cause]).irq (2 + n.val)
  let s := s.owlRec 0x0E n.val [new + 8 * old + 64 * s.get CHn_STATE_cause n.val]
  let s := s.onIf (new == 6) (fun s => s.owlTrig (4 + n.val))
  let s := s.onIf (old == 6) (fun s => ((s.put CHn_STATE_pat 0 n.val).put CHn_STATE_ss 0 n.val).put CHn_STATE_held 0 n.val)
  let s := s.onIf (new != 4 && new != 6) (fun s => (s.put CHn_STATE_ss 0 n.val).put CHn_STATE_safety 0 n.val)
  let runs := new == 3 || new == 4
  let s := s.onIf (new != 3 && s.get SPn_FLD_STAT_task n.val == 4) (fun s =>
    (s.put SPn_FLD_STAT_task 0 n.val).put SPn_FLD_STAT_engine 0 n.val)
  let s := s.onIf (!runs) (fun s =>
    let s := s.forL (carrLegs s (.ch n)) (fun k s => s.modLeg k (fun g => { g with forced := none }))
    let s := (s.put CHn_OCSTAT_cyc_run 0 n.val).modChan n (fun c => { c with cutSeen := false })
    let s := (s.put SPn_FLD_STAT_task 0 n.val).put SPn_FLD_STAT_engine 0 n.val
    let s := s.modSp n (fun p => { p with isOpen := false, spec := 0, rejGate := none, out := none })
    let s := s.modFld n (fun f => { f with dtc := { f.dtc with hoSince := none, recTs := none, recPat := none, recPend := false, stopWait := false } })
    s.modChan n (fun c => { c with outEn := false, windings := false, resume := false }))
  s.legsApply

/-- The discharge of a link ends (R295), its link in state `st`: the chopper and windings parts stop. -/
def endDischarge (s : State) (l : Lnk) (st : Nat) : State :=
  let s := s.put PRT_LNKl_STAT_lstate st l.val
  s.forL (members s l) (fun m s => s.modChan m (fun c => { c with windings := false }))

/-- The readiness of a STANDBY unit changes (R360). -/
def setReady (s : State) (r cause : Nat) : State :=
  if s.get TLS_STAT_ready = r && r != 3 then s
  else
    let s := s.onIf (r == 3) (fun s => s.put TLS_STAT_nr_cause cause)
    let s := { s with tls := { s.tls with wentDown := cause == 4 } }
    (s.put TLS_STAT_ready r).logEv 0x5005 [r, cause]

/-- A SYNCING or READY unit becomes NOT_READY with its cause (R360): 1 missed, 2 digest, 3 misaligned, 4 link, 5 channel. -/
def notReady (s : State) (cause : Nat) : State :=
  s.onIf (s.get TLS_STAT_role == 2 && (s.get TLS_STAT_ready == 1 || s.get TLS_STAT_ready == 2)) (fun s => setReady s 3 cause)

/-- A channel of a STANDBY unit stops following the active unit (R356). -/
def strayMark (s : State) (n : Ch) : State :=
  s.onIf (s.get TLS_STAT_role == 2) (fun s =>
    notReady { s with tls := { s.tls with stray := s.tls.stray ||| 2 ^ n.val } } 5)

/-- One channel enters SAFE with pattern `pat`, held or not. -/
def intoSafe (s : State) (m : Ch) (cause : Nat) (safety : Bool) (pat : Nat) (held : Bool) : State :=
  let s := ((strayMark s m).put CHn_STATE_cause cause m.val).putB CHn_STATE_safety safety m.val
  let s := (setState s m 6 cause).modChan m (fun c => { c with inTs := some s.now })
  let s := (s.putB CHn_STATE_held held m.val).putB CHn_STATE_safety safety m.val
  setPat s m pat

/-- A safe-state request (R23): a commit of this tick is discarded, whether it came before or comes after. -/
def safeMark (s : State) (n : Ch) : State :=
  let s := s.onIf ((s.chan n.val).comTs == some s.now) (fun s =>
    (s.modCarr (.ch n) (fun c => { c with pend := none, held := none, onTime := false })).put CHn_CSTAT_pend 0 n.val)
  s.modChan n (fun c => { c with safeTs := some s.now })

/-- The channel enters SAFE (R278 to R280) with pattern `pat`, held or not. A discharge of its link ends, and every
member enters SAFE; the link is then CHARGED or DISCHARGED by its last sample (DEDUCED, assumption 30). -/
def enterSafe (s : State) (n : Ch) (cause : Nat) (safety : Bool) (pat : Nat) (held : Bool) : State :=
  let others := if s.chState n.val = 5 then (match linkOf s n with
      | some l => (members s l).filter (fun m => m != n && s.chState m.val == 5)
      | none => []) else []
  let s := match (if s.chState n.val = 5 then linkOf s n else none) with
    | some l => endDischarge s l (if decide (s.getS PRT_LNKl_PRE_pre_done l.val ≤ s.links[l].hist.headD (-32768)) then 2 else 0)
    | none => s
  let s := intoSafe s n cause safety pat held
  s.forL others (fun m s => intoSafe s m cause safety (selChoice s m) false)

/-- An immediate safe request (R280). In SAFE it applies the selector's pattern; where a command made the entry on this same
tick, there is one entry, and its cause names the fault source (R299). -/
def safeRequest (s : State) (n : Ch) (cause : Nat) : State :=
  let s := selUpdate (safeMark s n) n
  if s.chState n.val = 6 then
    let s := s.onIf (s.get CHn_STATE_cause n.val == 0xFF && (s.chan n.val).inTs == some s.now) (fun s =>
      (s.put CHn_STATE_cause cause n.val).put CHn_STATE_safety 1 n.val)
    (if s.getB CHn_STATE_held n.val then setPat (s.put CHn_STATE_held 0 n.val) n (s.get CHn_STATE_sel n.val) else s)
  else enterSafe s n cause true (s.get CHn_STATE_sel n.val) false

/-- A channel in RUN enters STOPPING (R270, R274). The stop clamp starts from the effective torque limit. -/
def enterStop (s : State) (n : Ch) (cause : Nat) (safety : Bool) : State :=
  let s := s.onIf safety (fun s => s.put CHn_STATE_cause cause n.val)
  let s := setState s n 4 cause
  let s := (s.putB CHn_STATE_safety safety n.val).put CHn_STATE_ss (if safety then 4 else 0) n.val
  s.modFld n (fun f => { f with stopClamp := max f.tLim f.tReg })

/-- A request for STOPPING with `safety` = 1 (R223), which a channel in RUN takes (R270). -/
def stopRequest (s : State) (n : Ch) (cause : Nat) : State := s.onIf (s.chState n.val == 3) (fun s => enterStop s n cause true)

/-- A Badger reaction of class CH_SAFE (R280). -/
def chSafeReaction (s : State) (n : Ch) (src : Nat) : State :=
  if s.get CHn_SAFECFG_ch_safe_ss n.val = 1 && s.chState n.val == 3 then enterStop s n src true
  else safeRequest s n src

/-- CH_SAFE (R279): 0 SELECT, 1 SS_OFF, 2 SS_ASC_L, 3 SS_ASC_H, 4 SS_STOP. -/
def chSafeCmd (s : State) (n : Ch) (req : Nat) : State :=
  let s := selUpdate (safeMark s n) n
  if req = 4 && s.chState n.val = 3 then enterStop s n 0xFF true
  else
    let sel := s.get CHn_STATE_sel n.val
    let explicit := req == 1 || req == 2 || req == 3
    let bad := explicit && contradicts s n req
    let pat := if explicit && !bad then req else sel
    let held := explicit && !bad
    let s := if s.chState n.val = 6 then setPat (s.putB CHn_STATE_held held n.val) n pat
      else enterSafe s n 0xFF false pat held
    s.onIf bad (fun s => s.logEv 0x2411 [n.val, sel])

/-- Failed switches of a channel are reported (R281): SWFAIL_SET and SW_SHORT for a newly set bit, SW_SHORT_BOTH when both
sides hold one, and the selector follows. An explicit pattern that was requested on the same tick is judged after the report
(R299). -/
def swfailSet (s : State) (n : Ch) (hs ls : Nat) : State :=
  let h0 := s.get CHn_SWFAIL_hs n.val
  let l0 := s.get CHn_SWFAIL_ls n.val
  let h := h0 ||| hs
  let l := l0 ||| ls
  if h = h0 && l = l0 then s
  else
    let s := (s.put CHn_SWFAIL_hs h n.val).put CHn_SWFAIL_ls l n.val
    let s := (s.logEv 0x2413 [n.val, h, l]).raise (chSrc n.val 10) (h + 256 * l)
    let s := s.onIf (h != 0 && l != 0) (fun s => s.raise 0x2B n.val)
    let s := selUpdate s n
    let sel := s.get CHn_STATE_sel n.val
    s.onIf (s.chState n.val == 6 && s.getB CHn_STATE_held n.val && (s.chan n.val).safeTs == some s.now
        && contradicts s n (s.get CHn_STATE_pat n.val)) (fun s =>
      (setPat (s.put CHn_STATE_held 0 n.val) n sel).logEv 0x2411 [n.val, sel])

end Sys2Proof.Machine
end

