-- ==== Sys2Proof/Machine/Lathe.lean ====
section
/-! DEFINITION. The spindles: the stages of the program, the budget, banks and swaps, measurements, the detector and the
profile generators (R200 to R236). Values of Q36 numbers are their integers; every named result is rounded once,
half-even, and then saturated (R49, assumption 32). -/

namespace Sys2Proof.Machine

/-! ### Arithmetic -/

/-- num / den rounded half-even; the spec states no result for a zero divisor (assumption 33). -/
def qdiv (num den : Int) : Int :=
  if den = 0 then Config.openDiv num else if den < 0 then roundHE (-num) den.natAbs else roundHE num den.natAbs

/-- A sum of products and one added term, written back from the accumulator before saturation (R49). -/
def acc (ps : List (Int × Int)) (add : Int) : Int := roundHE ((ps.map (fun p => p.1 * p.2)).sum + add * one36) (2 ^ 31)

/-- Whether a list of results holds one that saturates. -/
def anySat (l : List Int) : Bool := l.any (fun v => v != sat36 v)

/-- The product of two Q36 numbers. -/
def mul36 (a b : Int) : Int := sat36 (roundHE (a * b) (2 ^ 31))

/-- Entry i of the sine table (R241). -/
def sinEntry (i : Nat) : Int := roundHE (sinTurn (i % 4096) 4096) (2 ^ 89)

/-- sin θ by table and interpolation (R241). -/
def sin36 (th : Nat) : Int :=
  let i := th / 2 ^ 20
  let s0 := sinEntry i
  roundHE (s0 * 2 ^ 20 + (sinEntry (i + 1) - s0) * ((th % 2 ^ 20 : Nat) : Int)) (2 ^ 20)

/-- cos θ = sin(θ + 2^30) (R241). -/
def cos36 (th : Nat) : Int := sin36 ((th + 2 ^ 30) % 2 ^ 32)

/-- The magnitude of a pair, rounded down. -/
def mag (a b : Int) : Int := isqrt (a * a + b * b).toNat

/-- α and β of three phases (R203). -/
def clarke (a b c : Int) : Int × Int := (roundHE (2 * a - b - c) 3, roundHE ((b - c) * 2 ^ 60) sqrt3Fx)

/-- d and q of a stator-frame pair at angle `th`. -/
def park (th : Nat) (al be : Int) : Int × Int :=
  (acc [(al, cos36 th), (be, sin36 th)] 0, acc [(-al, sin36 th), (be, cos36 th)] 0)

/-- α and β of a rotor-frame pair at angle `th`. -/
def unpark (th : Nat) (d q : Int) : Int × Int :=
  (acc [(d, cos36 th), (-q, sin36 th)] 0, acc [(d, sin36 th), (q, cos36 th)] 0)

/-- The phases of a stator-frame pair with a zero sequence. -/
def unclarke (al be z : Int) : List Int :=
  [al + z, roundHE (-al * 2 ^ 60 + be * sqrt3Fx) (2 ^ 61) + z, roundHE (-al * 2 ^ 60 - be * sqrt3Fx) (2 ^ 61) + z]

/-- d and q of a phase set, with whether a result saturated. -/
def dqOf (th : Nat) (a b c : Int) : List Int × Bool :=
  let p := clarke a b c
  let r := park th (sat36 p.1) (sat36 p.2)
  ([sat36 r.1, sat36 r.2], anySat [p.1, p.2, r.1, r.2])

/-! ### Saturation reports (R50) -/

/-- The fields of `SPn_SAT` by stage. -/
def satFld : Nat → Fld
  | 0 => SPn_SAT_transform
  | 1 => SPn_SAT_predict
  | 2 => SPn_SAT_correct
  | 3 => SPn_SAT_control
  | 4 => SPn_SAT_limit
  | _ => SPn_SAT_modulate

/-- A saturation in a stage (R50): its bit, and for the first since all were clear the capture and SAT_FIRST. -/
def satMark (s : State) (n : Ch) (stage : Nat) (c : Bool) : State :=
  if !c then s
  else
    let first := (List.range 6).all (fun k => !s.getB (satFld k) n.val)
    let s := s.put (satFld stage) 1 n.val
    s.onIf first (fun s =>
      ((s.put SPn_SAT_first_period (s.get CHn_PERIOD_CNT_count n.val) n.val).put SPn_SAT_first_stage stage n.val).logEv
        0x3101 [n.val, stage])

/-! ### The stages (R201, R203, R205) -/

/-- TRANSFORM of the measurement vector `m` to the eight outputs at θm (R203). -/
def transformOut (s : State) (n : Ch) (th : Nat) (m : List Int) : List Int × Bool :=
  let g (k : Nat) : Int := m.getD k 0
  let direct := (List.range 5).map (fun k => g (3 + k))
  match s.get SPn_XFORM_mode n.val with
  | 0 => (m.take 8, false)
  | 1 =>
    let a := g (s.get SPn_XFORM_pa n.val)
    let b := g (s.get SPn_XFORM_pb n.val)
    let c := g (s.get SPn_XFORM_pc n.val)
    let r := dqOf th a b c
    let z := roundHE (a + b + c) 3
    (r.1 ++ [sat36 z] ++ direct, r.2 || anySat [z])
  | 2 =>
    let a := g (s.get SPn_XFORM_pa n.val)
    let b := g (s.get SPn_XFORM_pb n.val)
    let r := dqOf th a b (sat36 (-a - b))
    (r.1 ++ [0] ++ direct, r.2 || anySat [-a - b])
  | _ =>
    let r := dqOf th (g 0) (g 1) (g 2)
    let r2 := dqOf ((th + s.get SPn_SIX_OFS_ofs n.val) % 2 ^ 32) (g 4) (g 5) (g 6)
    (r.1 ++ r2.1 ++ [g 3, g 7, 0, 0], r.2 || r2.2)

/-- The predicted measurements ẑ of the predicted outputs (R203, R214). -/
def predictMeas (s : State) (n : Ch) (th : Nat) (yp : List Int) : List Int × Bool :=
  let g (k : Nat) : Int := yp.getD k 0
  let inv (th : Nat) (d q z : Int) : List Int × Bool :=
    let p := unpark th d q
    let l := unclarke (sat36 p.1) (sat36 p.2) z
    (l.map sat36, anySat ([p.1, p.2] ++ l))
  match s.get SPn_XFORM_mode n.val with
  | 0 => (yp.take 8, false)
  | 3 =>
    let r := inv th (g 0) (g 1) 0
    let r2 := inv ((th + s.get SPn_SIX_OFS_ofs n.val) % 2 ^ 32) (g 2) (g 3) 0
    (r.1 ++ [g 4] ++ r2.1 ++ [g 5], r.2 || r2.2)
  | mode =>
    let r := inv th (g 0) (g 1) (if mode = 1 then g 2 else 0)
    let set := phaseSet s n.val
    ((List.range 8).map (fun k =>
      match (set.zipIdx.find? (fun p => p.1 == k)) with
      | some p => r.1.getD p.2 0
      | none => if k < 3 then 0 else g k), r.2)

/-- A row of a matrix against a vector, as the products that enter the accumulator. -/
def rowProd (s : State) (n : Ch) (b base stride i : Nat) (x : List Int) (cols : Nat) : List (Int × Int) :=
  (List.range cols).map (fun j => (coef s n.val b (base + stride * i + j), x.getD j 0))

/-- x̂ of the spindle's window. -/
def xHat (s : State) (n : Ch) : List Int := s.getPairs n.val 0x800 8
/-- u_a of the spindle's window. -/
def uApp (s : State) (n : Ch) : List Int := s.getPairs n.val 0x808 2
/-- r of the spindle's window. -/
def refs (s : State) (n : Ch) : List Int := s.getPairs n.val 0x80A 2
/-- v_ff of the spindle's window. -/
def vff (s : State) (n : Ch) : List Int := s.getPairs n.val 0x818 2

/-- PREDICT with its integrator rows gated (R201, R225): x_p and y_p. -/
def predict (s : State) (n : Ch) (gate : Nat) : (List Int × List Int) × Bool :=
  let b := actBank s n.val
  let h := shapeOf s n.val b
  let x := xHat s n
  let fz := (s.sp n).frozen
  let rows := (List.range h.nx).map (fun i =>
    if h.mask.testBit i && (gate.testBit (h.intOut i) || fz.testBit i) then x.getD i 0
    else acc (rowProd s n b 0x020 16 i x h.nx ++ rowProd s n b 0x120 4 i (uApp s n) h.nu
      ++ rowProd s n b 0x160 4 i (refs s n) h.nr) 0)
  let xp := rows.map sat36
  let ys := (List.range h.ny).map (fun i => acc (rowProd s n b 0x1A0 16 i xp h.nx) 0)
  ((xp, ys.map sat36), anySat rows || anySat ys)

/-- CORRECT: x̂′ = x_p + L·e. -/
def correct (s : State) (n : Ch) (xp e : List Int) : List Int × Bool :=
  let b := actBank s n.val
  let h := shapeOf s n.val b
  let l := (List.range h.nx).map (fun i => acc (rowProd s n b 0x220 8 i e h.ny) (xp.getD i 0))
  (l.map sat36, anySat l)

/-- CONTROL: u = −K·x̂′ + F·r + v_ff. -/
def control (s : State) (n : Ch) (x : List Int) : List Int × Bool :=
  let b := actBank s n.val
  let h := shapeOf s n.val b
  let v := vff s n
  let l := (List.range h.nu).map (fun i =>
    acc ((rowProd s n b 0x2A0 16 i x h.nx).map (fun p => (p.1, -p.2)) ++ rowProd s n b 0x2E0 4 i (refs s n) h.nr)
      (v.getD i 0))
  (l.map sat36, anySat l)

/-- The voltage limit on one pair (R205): the pair and its two flags. -/
def pairLimit (dFirst : Bool) (R a b : Int) : (Int × Int) × (Bool × Bool) :=
  if dFirst then
    let a' := satTo (-R) R a
    let m : Int := (isqrt (4 * (R * R - a' * a')).toNat + 1) / 2
    let b' := satTo (-m) m b
    ((a', b'), (a' != a, b' != b))
  else if R * R < a * a + b * b then
    let m := isqrt ((a * a + b * b) * 2 ^ 40).toNat
    ((roundHE (a * R * 2 ^ 20) m, roundHE (b * R * 2 ^ 20) m), (true, true))
  else ((a, b), (false, false))

/-- The radius R of the voltage limit (R205). -/
def limRadius (s : State) (n : Ch) (vdc : Int) : Int :=
  max 0 (sat36 (roundHE (coef s n.val (actBank s n.val) 2 * vdc * 2 ^ 60) (2 ^ 31 * sqrt3Fx)))

/-- LIMIT (R205): the limited inputs and the saturation flags s0 to s3. -/
def limit (s : State) (n : Ch) (vdc : Int) (u : List Int) : List Int × Nat :=
  let b := actBank s n.val
  let dFirst := (bankWord s n.val b 2).y % 2 == 1
  let R := limRadius s n vdc
  let m := coef s n.val b 3
  let bit (c : Bool) (k : Nat) : Nat := if c then 2 ^ k else 0
  let p := pairLimit dFirst R (u.getD 0 0) (u.getD 1 0)
  let six := s.get SPn_XFORM_mode n.val == 3
  let q := if six then pairLimit dFirst R (u.getD 2 0) (u.getD 3 0)
    else ((satTo (-m) m (u.getD 2 0), satTo (-m) m (u.getD 3 0)),
      (satTo (-m) m (u.getD 2 0) != u.getD 2 0, satTo (-m) m (u.getD 3 0) != u.getD 3 0))
  ([p.1.1, p.1.2, q.1.1, q.1.2], bit p.2.1 0 + bit p.2.2 1 + bit q.2.1 2 + bit q.2.2 3)

/-- A stator-frame vector on the hexagon at angle `th` (R248). -/
def hexAt (vdc : Int) (th : Nat) : List Int :=
  let v := unclarke (cos36 th) (sin36 th) 0
  let mx := v.foldl max (v.getD 0 0)
  let mn := v.foldl min (v.getD 0 0)
  v.map (fun x => qdiv (x * vdc) (mx - mn))

/-- The phase voltages scaled to the hexagon when they lie beyond it (R248, HEX). -/
def hexScale (vdc : Int) (v : List Int) : List Int :=
  let mx := v.foldl max (v.getD 0 0)
  let mn := v.foldl min (v.getD 0 0)
  if vdc < mx - mn then v.map (fun x => qdiv (x * vdc) (mx - mn)) else v

/-- SIXSTEP beyond the linear range (R248): zone 1 magnifies by the internal table's gain, zone 2 holds or skews. -/
def sixStep (vdc al be : Int) : List Int :=
  let m := mag al be
  let mi := min one36 (qdiv (m * piFx) (vdc * 2 ^ 90))
  if mi ≤ 2043760188 then
    let g : Int := Config.ovmGain mi
    hexScale vdc (unclarke (roundHE (al * g) (2 ^ 31)) (roundHE (be * g) (2 ^ 31)) 0)
  else
    let th : Nat := atan2Turn be al 32
    let k : Nat := (6 * th + 2 ^ 31) / 2 ^ 32
    -- twelve times the vector's angle from the vertex, and twelve times αh, in 2^-32 of a turn
    let d : Int := 12 * (th : Int) - 2 * (k : Int) * 2 ^ 32
    let ah : Int := qdiv ((mi - 2043760188) * 2 ^ 32) 103723460
    if |d| ≤ ah then hexAt vdc ((k * 2 ^ 32 / 6) % 2 ^ 32)
    else
      let d' := qdiv ((d - (if d < 0 then -ah else ah)) * 2 ^ 32) (2 ^ 32 - ah)
      hexAt vdc (toField 32 (roundHE (2 * (k : Int) * 2 ^ 32 + d') 12))

/-- MODULATE for one set of three legs (R247, R248): the ratio duties, whether the vector was changed, and whether a duty
was clamped. -/
def modulate3 (ovm th : Nat) (vdc u0 u1 : Int) : List Nat × Bool × Bool :=
  let p := unpark th u0 u1
  let al := sat36 p.1
  let be := sat36 p.2
  let beyond := decide (vdc * vdc < 3 * (al * al + be * be))
  let v := unclarke al be 0
  let w := if !beyond then v
    else match ovm with
      | 0 =>
        let m := isqrt (3 * (al * al + be * be) * 2 ^ 40).toNat
        unclarke (qdiv (al * vdc * 2 ^ 20) m) (qdiv (be * vdc * 2 ^ 20) m) 0
      | 1 => hexScale vdc v
      | _ => sixStep vdc al be
  let w := w.map sat36
  let mx := w.foldl max (w.getD 0 0)
  let mn := w.foldl min (w.getD 0 0)
  let ds := w.map (fun x => qdiv (65536 * (vdc + 2 * x - mx - mn)) (2 * vdc))
  (ds.map (fun d => (satTo 0 0x10000 d).toNat), beyond && w != v, ds.any (fun d => d < 0 || 0x10000 < d) || anySat [p.1, p.2])

/-- MODULATE (R201, R247): the duties of the channel's legs; `SPn_FLD_STAT.ovm_active` and the stage's saturation. -/
def modulate (s : State) (n : Ch) (vdc : Int) (u : List Int) : List Nat × State :=
  let th := s.get SPn_ANG_U_angle n.val
  let ovm := s.get SPn_FLD_CTL_ovm n.val
  let r := modulate3 ovm th vdc (u.getD 0 0) (u.getD 1 0)
  if s.get SPn_XFORM_mode n.val = 3 then
    let r2 := modulate3 ovm ((th + s.get SPn_SIX_OFS_ofs n.val) % 2 ^ 32) vdc (u.getD 2 0) (u.getD 3 0)
    (r.1 ++ r2.1, satMark (s.putB SPn_FLD_STAT_ovm_active (r.2.1 || r2.2.1) n.val) n 5 (r.2.2 || r2.2.2))
  else (r.1, satMark (s.putB SPn_FLD_STAT_ovm_active r.2.1 n.val) n 5 r.2.2)

/-! ### Budget (R21) -/

/-- 1 s in ft. -/
def ftPerSec : Int := 51200000000

/-- The carrier period that the channel's commits will carry (R21). -/
def commitPer (s : State) (n : Ch) : Nat :=
  if s.get CHn_CTL_src n.val = 0 then s.get SPn_PER_per n.val else s.get CHn_PER_per n.val

/-- T of a period of COT or CFT as the shadow duties give it: the longest of the channel's legs, which a period that all of them share
contains (R168, R169). -/
def shadowT (s : State) (n : Ch) : Nat :=
  (List.range (carrLegs s (.ch n)).length).foldl (fun m k => max m (s.get CHn_DUTYk_duty n.val k)) 0

/-- Carrier zero and carrier peak relative to the reload, in ft (R165, R166, R169, R21). -/
def zeroPeak (s : State) (n : Ch) (per : Nat) : Int × Int :=
  if carrMode s (.ch n) = 0 then
    match carrRl s (.ch n) with
    | 0 => (0, (per / 2 : Nat))
    | 1 => (((per - per / 2 : Nat) : Int), 0)
    | _ => (0, 0)
  else if carrMode s (.ch n) = 1 then (0, (per / 2 : Nat))
  else (0, (shadowT s n : Nat))

/-- The latest window close of sequencer `q` after its trigger, in tk. -/
def seqSpan (s : State) (q : Nat) : Nat :=
  (List.range (s.get SEQn_CTL_nsteps q + 1)).foldl
    (fun m k => max m (s.get SEQn_STEPk_B_open_dly q k + 10 * 2 ^ s.get SEQn_STEPk_A_log2n q k)) 0

/-- The trigger instant of sequencer `q` relative to the reload, in ft, when R21 knows it. -/
def seqBase (s : State) (n : Ch) (per : Nat) : Nat → Nat → Option Int
  | 0, _ => none
  | f + 1, q =>
    if !s.getB SEQn_CTL_en q then none
    else
      let off := 128 * s.getS SEQn_TRIG_offset q
      let c := s.get SEQn_TRIG_src q
      if c = 4 + n.val then some off
      else if c = 8 + n.val then some ((zeroPeak s n per).1 + off)
      else if c = 0xC + n.val then some ((zeroPeak s n per).2 + off)
      else if 0x28 ≤ c then (seqBase s n per f (c - 0x28)).map (fun b => b + 128 * ((seqSpan s (c - 0x28) : Int) + 81))
      else none

/-- The deadline of a period of carrier period `per` relative to its reload, in ft (R13, R20). -/
def deadlineFt (s : State) (n : Ch) (per : Nat) : Int :=
  let len := if carrMode s (.ch n) < 2 then ctrlOf s (.ch n) per else s.get CHn_PERMIN_per_min n.val
  (len : Int) - 128 * s.get CHn_TIMING_commit_guard n.val

/-- The budget B in ft (R21). -/
def budgetFt (s : State) (n : Ch) (per : Nat) : Int :=
  let P : Int := max 1 (ctrlOf s (.ch n) per : Nat)
  let closes := (List.range 16).flatMap (fun q => match seqBase s n per 17 q with
    | none => []
    | some b => (List.range (s.get SEQn_CTL_nsteps q + 1)).filterMap (fun k =>
        if s.getB SEQn_STEPk_B_sp_en q k && s.get SEQn_STEPk_B_sp_ch q k == n.val && measRead s n.val (s.get SEQn_STEPk_B_sp_meas q k)
        then some ((b + 128 * (s.get SEQn_STEPk_B_open_dly q k + 10 * 2 ^ s.get SEQn_STEPk_A_log2n q k : Nat)) % P) else none))
  deadlineFt s n per - closes.foldl max 0

/-- B in tk, rounded down. -/
def budgetTk (s : State) (n : Ch) (per : Nat) : Nat := (budgetFt s n per / 128).toNat

/-- L_full of a bank in tk (R207). -/
def lFull (s : State) (n : Ch) (b : Nat) : Nat := 110 + (shapeOf s n.val b).step

/-- The requirements of R21 for a carrier period and a bank. -/
def budgetOk (s : State) (n : Ch) (per b : Nat) : Bool :=
  decide (s.profMinFt n.val ≤ ctrlOf s (.ch n) per)
    && (if s.profOf n.val = 2 then decide (5 * 128 * (lFull s n b : Int) ≤ 3 * budgetFt s n per)
        else decide (128 * (lFull s n b : Int) ≤ budgetFt s n per))

/-- `CHn_BUDGET` shows B and L_full (R26). -/
def budgetShow (s : State) (n : Ch) : State :=
  (s.put CHn_BUDGET_budget (min (budgetTk s n (commitPer s n)) 0xFFFFF) n.val).put CHn_BUDGET_lat_full
    (lFull s n (actBank s n.val)) n.val

/-! ### Banks (R207 to R213, R226, R227) -/

/-- The seal bit of bank `b`. -/
def sealFld (b : Nat) : Fld := if b = 0 then SPn_BANK_seal_a else SPn_BANK_seal_b
/-- The CRC register of bank `b`. -/
def crcFld (b : Nat) : Fld := if b = 0 then SPn_BANK_CRC_A_crc else SPn_BANK_CRC_B_crc
/-- Whether bank `b` is sealed. -/
def isSealed (s : State) (n : Nat) (b : Nat) : Bool := s.getB (sealFld b) n

/-- `SPn_STEP` shows the steps of the sealed banks (R207). -/
def stepShow (s : State) (n : Ch) : State :=
  let a := actBank s n.val
  let st (b : Nat) : Nat := if isSealed s n.val b then (shapeOf s n.val b).step else 0
  (s.put SPn_STEP_step_act (st a) n.val).put SPn_STEP_step_inact (st (1 - a)) n.val

/-- A word of the inactive bank is written: its seal goes (R211). -/
def sealOff (s : State) (n : Ch) (b : Nat) : State :=
  stepShow ((s.put (sealFld b) 0 n.val).put (crcFld b) 0 n.val) n

/-- A write of window word `w` of spindle n is allowed (R209, R211, R230): `none` refuses it, `some none` writes only the
word, `some (some b)` writes a coefficient of bank b. -/
def wordWrite (s : State) (n : Ch) (w : Nat) : Option (Option Nat) :=
  let idle := s.chState n.val == 0 || s.chState n.val == 2
  if w < 0x800 then
    let b := w / 0x400
    let o := w % 0x400
    if b = actBank s n.val || 0x2F0 ≤ o && o ≤ 0x310 || s.getB SPn_BANK_swap n.val || (s.sp n).fbPend
      || s.getB SPn_BANK_seal_busy n.val then none else some (some b)
  else if w < 0x808 then (if idle then some none else none)
  else if 0x840 ≤ w && w < 0x860 then (if w % 8 < 4 then some none else if w % 8 < 6 && idle then some none else none)
  else if w = 0x860 || w = 0x861 then some none
  else none

/-- The window words whose refused write is logged (R211). -/
def wordLogged (w : Nat) : Bool := decide (w < 0x808)

/-- Writes a word of a spindle's window, or discards it (R209, R211). -/
def storeWord (s : State) (n : Ch) (w : Nat) (q : QWord) : State :=
  match wordWrite s n w with
  | none => s.onIf (wordLogged w) (fun s => s.logEv 0x3103 [n.val, w])
  | some none => s.putLw (spWord n.val w) q
  | some (some b) => sealOff (s.putLw (spWord n.val w) q) n b

/-- CRC-32C, one byte (R375: polynomial 0x1EDC6F41, reflected). -/
def crc32cByte (c b : Nat) : Nat :=
  (List.range 8).foldl (fun c _ => if c % 2 = 1 then (c / 2) ^^^ 0x82F63B78 else c / 2) (c ^^^ b)

/-- CRC-32C of a list of bytes. -/
def crc32c (l : List Nat) : Nat := l.foldl crc32cByte 0xFFFFFFFF ^^^ 0xFFFFFFFF

/-- The 9-byte image of a word (R44). -/
def wordImage (q : QWord) : List Nat :=
  let v := toField 36 q.x + toField 36 q.y * 2 ^ 36
  (List.range 9).map (fun j => v / 2 ^ (8 * j) % 256)

/-- The checks of R212 on bank `b`. -/
def bankOk (s : State) (n : Ch) (b : Nat) : Bool :=
  let h := shapeOf s n.val b
  let w (k : Nat) : QWord := bankWord s n.val b k
  let lim := w 2
  let nom := w 3
  h.ok
    && decide (h.mask < 2 ^ h.nx)
    && (List.range 16).all (fun i => !h.mask.testBit i || decide (h.intOut i < h.nu))
    && decide (0 < lim.x) && decide (lim.x ≤ 2479699368)
    && decide (0 < nom.x) && decide (0 < nom.y)
    && (List.range 8).all (fun i => decide (0 < (w (0x18 + i)).x) && decide ((w (0x18 + i)).x ≤ 2 * one36) && (w (0x18 + i)).y == 0)
    && (List.range 4).all (fun k => w (4 + k) == ⟨0, 0⟩) && (List.range 0xEF).all (fun k => w (0x311 + k) == ⟨0, 0⟩)

/-- The requested sealing of the inactive bank completes (R207, R212): M0, the step and the CRC. -/
def sealDone (s : State) (n : Ch) : State :=
  if !s.getB SPn_BANK_seal_busy n.val then s
  else
  let b := 1 - actBank s n.val
  let s := (s.put SPn_BANK_seal_busy 0 n.val).put SPn_BANK_seal_req 0 n.val
  if !bankOk s n b then s.logEv 0x3105 [n.val]
  else
    let h := shapeOf s n.val b
    let m0 := (List.range 4).flatMap (fun i => (List.range 8).map (fun j =>
      acc ((List.range h.nx).map (fun k => (coef s n.val b (0x2A0 + 16 * i + k), coef s n.val b (0x220 + 8 * k + j)))) 0))
    let crc := crc32c ((List.range 0x2F0).flatMap (fun k => wordImage (bankWord s n.val b k)))
    let s := s.forL m0.zipIdx (fun p s => s.putLw (spWord n.val (b * 0x400 + 0x2F0 + p.2)) ⟨sat36 p.1, 0⟩)
    let s := s.putLw (spWord n.val (b * 0x400 + 0x310)) ⟨(crc : Int), (h.step : Int)⟩
    let s := (s.put (crcFld b) crc n.val).put (sealFld b) 1 n.val
    (stepShow s n).logEv 0x3104 [n.val, b]

/-- A request to seal the inactive bank (R212, R232). -/
def sealRequest (s : State) (n : Ch) : State :=
  if s.getB SPn_BANK_swap n.val || (s.sp n).fbPend || s.getB SPn_BANK_seal_busy n.val then s.logEv 0x3105 [n.val]
  else
    let b := 1 - actBank s n.val
    (sealOff s n b).put SPn_BANK_seal_busy 1 n.val

/-- Why a swap request is refused (R226): 1 for the state, 2 for the budget; 0 accepts it. -/
def swapRefusal (s : State) (n : Ch) : Nat :=
  let b := 1 - actBank s n.val
  if !isSealed s n.val b || s.getB SPn_BANK_swap n.val || (s.sp n).fbPend then 1
  else if s.chRuns n.val && !budgetOk s n (commitPer s n) b then 2 else 0

/-- A swap request (R226). -/
def swapRequest (s : State) (n : Ch) : State :=
  if swapRefusal s n = 0 then s.put SPn_BANK_swap 1 n.val else s.logEv 0x3107 [n.val]

/-- `SPn_BANK.int_frz` follows the freeze flags (R227). -/
def frzShow (s : State) (n : Ch) : State := s.putB SPn_BANK_int_frz ((s.sp n).frozen != 0) n.val

/-- Measurement `k` is absent (R204): no enabled sequencer step delivers it. -/
def measAbsent (s : State) (n : Ch) (k : Nat) : Bool :=
  !(List.range 16).any (fun q => s.getB SEQn_CTL_en q && (List.range (s.get SEQn_CTL_nsteps q + 1)).any (fun i =>
    s.getB SEQn_STEPk_B_sp_en q i && s.get SEQn_STEPk_B_sp_ch q i == n.val && s.get SEQn_STEPk_B_sp_meas q i == k))

/-- A measurement that the new bank reads and nothing delivers is absent too (R204). -/
def absentNew (s : State) (n : Ch) : State :=
  s.forN 8 (fun k s => s.onIf (measRead s n.val k && measAbsent s n k) (fun s => s.putBit SPn_FBSTAT_absent k true n.val))

/-- The swap at a reload (R227). The integrators are those of the new bank (DEDUCED, assumption 35). -/
def bankSwap (s : State) (n : Ch) (fb : Bool) : State :=
  let a := actBank s n.val
  let b := 1 - a
  let h := shapeOf s n.val b
  let bump := s.getB SPn_BANK_bumpless n.val
  let sp := (s.sp n).sPrev
  let s := s.forN 16 (fun i s =>
    s.onIf (h.mask.testBit i) (fun s =>
      let j := h.intOut i
      let kOld := coef s n.val a (0x2A0 + 16 * j + i)
      let kNew := coef s n.val b (0x2A0 + 16 * j + i)
      let x := xHat s n
      let s := s.onIf bump (fun s =>
        if kNew = 0 then (s.putPairs n.val 0x800 8 (x.set i 0)).logEv 0x3108 [n.val, i]
        else s.putPairs n.val 0x800 8 (x.set i (sat36 (qdiv (x.getD i 0 * kOld) kNew))))
      s.onIf (sp.testBit j) (fun s => s.modSp n (fun p => { p with frozen := p.frozen ||| 2 ^ i }))))
  let s := ((s.put SPn_BANK_active b n.val).put SPn_BANK_swap 0 n.val).putB SPn_BANK_fb fb n.val
  let s := absentNew (s.modSp n (fun p => { p with swapPer := true, fbPend := false })) n
  (budgetShow (frzShow (stepShow s n) n) n).logEv 0x3106 [n.val, b]

/-! ### Measurements (R203, R204, R220 to R224) -/

/-- Changes a measurement. -/
def State.modMeas (s : State) (n : Ch) (k : Fin 8) (f : Meas → Meas) : State :=
  s.modSp n (fun p => { p with meas := vupd p.meas k f })

/-- Measurement `k`, expected or lost, may come in a period: one that the fallback bank does not read can still return (R224). -/
def measWatched (s : State) (n : Ch) (k : Nat) : Bool :=
  (measRead s n.val k || s.getBit SPn_FBSTAT_lost k n.val) && !s.getBit SPn_FBSTAT_absent k n.val

/-- Measurement `k` is expected in every period: read, and not absent. -/
def measExpected (s : State) (n : Ch) (k : Nat) : Bool := measRead s n.val k && !s.getBit SPn_FBSTAT_absent k n.val

/-- Measurement `k` feeds an output, so that it has an innovation. -/
def measHasEps (s : State) (n : Ch) (k : Nat) : Bool :=
  (List.range (shapeOf s n.val (actBank s n.val)).ny).any (fun j => (outFeeds s n.val j).contains k)

/-- A result with NEW and none of STALE, CAL_BUSY, REF_NOT_READY and CLIP (R220); flag bits as `RESk` [31:24]. -/
def flagsGood (fl : Nat) : Bool := !fl.testBit 7 && !fl.testBit 6 && !fl.testBit 5 && !fl.testBit 1

/-- Measurement `k` landed usable in this period. -/
def landedGood (s : State) (n : Ch) (k : Fin 8) : Bool :=
  match (s.sp n).meas[k].cur with
  | some (_, fl) => flagsGood fl
  | none => false

/-- All expected measurements have landed (R214). -/
def allLanded (s : State) (n : Ch) : Bool :=
  (List.finRange 8).all (fun k => !measExpected s n k.val || (s.sp n).meas[k].cur.isSome)

/-- A result lands (R203, R220, R232): m is formed; a second result of the period replaces the first. -/
def landMeas (s : State) (n : Ch) (k : Fin 8) (v : Int) (fl : Nat) : State :=
  let b := actBank s n.val
  let w := bankWord s n.val b (0x10 + k.val)
  let m := w.x * v + w.y
  let s := satMark s n 0 (anySat [m])
  let s := s.modMeas n k (fun q => { q with cur := some (v, fl), val := sat36 m })
  s.onIf (s.getB SPn_XFORM_vdc_en n.val && s.get SPn_XFORM_vdc n.val == k.val && flagsGood fl)
    (fun s => s.modSp n (fun p => { p with vdc := sat36 m }))

/-- Vdc of this period (R205). -/
def vdcOf (s : State) (n : Ch) : Int :=
  if s.getB SPn_XFORM_vdc_en n.val then (s.sp n).vdc else (bankWord s n.val (actBank s n.val) 3).y

/-- The columns of L in bank `b` that belong to outputs fed by measurement `k` are all 0 (R222). -/
def colsZero (s : State) (n : Ch) (b k : Nat) : Bool :=
  let h := shapeOf s n.val b
  (List.range h.ny).all (fun j => !(outFeeds s n.val j).contains k
    || (List.range h.nx).all (fun i => coef s n.val b (0x220 + 8 * i + j) == 0))

/-- The hold timer expires, or a loss cannot be held (R223). -/
def fbExpire (s : State) (n : Ch) : State :=
  let s := (s.logEv 0x310C [n.val]).put SPn_FBSTAT_expired 1 n.val
  if s.get SPn_FB_act n.val = 0 then stopRequest s n (chSrc n.val 13) else s.raise (chSrc n.val 13) n.val

/-- Measurement `k` is declared lost (R221, R222). -/
def measLost (s : State) (n : Ch) (k : Nat) : State :=
  let s := (s.putBit SPn_FBSTAT_lost k true n.val).logEv 0x3109 [n.val, k]
  if !s.chRuns n.val then s
  else
    let a := actBank s n.val
    if s.getB SPn_BANK_fb n.val then (if colsZero s n a k then s else fbExpire s n)
    else if (s.sp n).fbPend then (if colsZero s n (1 - a) k then s else fbExpire s n)
    else if isSealed s n.val (1 - a) && colsZero s n (1 - a) k && s.get SPn_FB_fb_hold n.val != 0 then
      s.modSp n (fun p => { p with fbPend := true })
    else fbExpire s n

/-- The hold timer stops and clears (R224). -/
def holdClear (s : State) (n : Ch) : State :=
  ((s.modSp n (fun p => { p with holdEnd := none })).put SPn_FBSTAT_hold 0 n.val).put SPn_FBSTAT_hold_left 0 n.val

/-- The counts of a measurement at the end of its wait (R221, R224): `p` says that it is present. -/
def measCount (fn : Nat) (p : Bool) (m : Meas) : Meas :=
  let c := (m.cur.map (·.1)).getD 0
  let same := if !p then 0 else if m.same != 0 && c == m.code then m.same + 1 else 1
  let frz := fn != 0 && decide (fn ≤ same)
  { m with miss := if p then 0 else m.miss + 1, same := same, code := if p then c else m.code,
           good := if p && !frz then m.good + 1 else 0 }

/-- The measurements of a period are accounted for, once (R220 to R224): which are missing, which are lost, which have
returned, and which the evaluation uses. A hold timer that expired in this period acts only if the lost ones have not returned (R232). -/
def account (s : State) (n : Ch) : State :=
  if (s.sp n).counted then s
  else
    let good (k : Fin 8) : Bool := measWatched s n k.val && landedGood s n k
    let pres := (List.finRange 8).filter (fun k => good k && (phaseMates s n.val k.val).all (fun j =>
      !measExpected s n j || (if h : j < 8 then good ⟨j, h⟩ else true)))
    let seen := (List.finRange 8).filter (fun k => measWatched s n k.val)
    let miss := seen.filter (fun k => measExpected s n k.val && !pres.contains k)
    let bits (l : List (Fin 8)) : Nat := (l.map (fun k => 2 ^ k.val)).sum
    let s := s.put SPn_MISS_miss_now (bits miss) n.val
    let s := s.put SPn_MISS_miss_cnt (min (s.get SPn_MISS_miss_cnt n.val + miss.length) 0xFFFF) n.val
    let mn := s.get SPn_FB_miss_n n.val
    let fn := s.get SPn_FB_frz_n n.val
    let lost0 := s.get SPn_FBSTAT_lost n.val
    let s := s.forL seen (fun k s => s.modMeas n k (measCount fn (pres.contains k)))
    let s := s.forL seen (fun k s =>
      let m := (s.sp n).meas[k]
      if s.getBit SPn_FBSTAT_lost k.val n.val then
        s.onIf (decide (mn ≤ m.good)) (fun s => s.putBit SPn_FBSTAT_lost k.val false n.val)
      else s.onIf (decide (mn ≤ m.miss) || (fn != 0 && decide (fn ≤ m.same))) (fun s => measLost s n k.val))
    let s := s.onIf (lost0 != 0 && s.get SPn_FBSTAT_lost n.val == 0) (fun s => (holdClear s n).logEv 0x310B [n.val])
    let s := s.onIf ((s.sp n).fbDue && (s.sp n).holdEnd.isSome) (fun s => fbExpire (holdClear s n) n)
    let lost := s.get SPn_FBSTAT_lost n.val
    s.modSp n (fun p => { p with
      counted := true, fbDue := false,
      present := bits (pres.filter (fun k => measRead s n.val k.val && !lost.testBit k.val)) })

/-- The innovations of the period (R203, R215, R220): ε_i = m_i − ẑ_i where present, else 0. -/
def innovations (s : State) (n : Ch) (zh : List Int) : List Int × Bool :=
  let l := (List.finRange 8).map (fun k =>
    if (s.sp n).present.testBit k.val && measHasEps s n k.val then (s.sp n).meas[k].val - zh.getD k.val 0 else 0)
  (l.map sat36, anySat l)

/-- The innovation windows of the active bank. -/
def epsWin (s : State) (n : Ch) (i : Nat) : Int := coef s n.val (actBank s n.val) (0x18 + i)

/-! ### The oscillation detector (R228, R229) -/

/-- The configuration a window starts with. -/
def oscCfg (s : State) (n : Ch) : List Int :=
  [s.get SPn_OSC_CFG_kind n.val, s.get SPn_OSC_CFG_index n.val, s.get SPn_OSC_CFG_win n.val, s.get SPn_OSC_N_n_min n.val,
    s.get SPn_OSC_N_n_max n.val, (s.lw (spWord n.val 0x860)).x, (s.lw (spWord n.val 0x860)).y, (s.lw (spWord n.val 0x861)).x,
    s.get SPn_OSC_CFG_resp n.val]

/-- The signal the detector watches. -/
def oscSig (s : State) (n : Ch) (kind idx : Int) : Int :=
  let l := if kind = 0 then xHat s n else if kind = 1 then uApp s n
    else if kind = 2 then s.getPairs n.val 0x80C 4 else s.getPairs n.val 0x810 4
  l.getD idx.toNat 0

/-- The detector runs once after the commit (R228). -/
def oscDetect (s : State) (n : Ch) : State :=
  if !s.getB SPn_OSC_CFG_en n.val || !s.chRuns n.val then s
  else
    let o := (s.sp n).osc
    let cfg := if o.n = 0 then oscCfg s n else o.cfg
    let sig := oscSig s n (cfg.getD 0 0) (cfg.getD 1 0)
    let h := sat36 (roundHE (cfg.getD 5 0 * sat36 (o.h + sig - o.sigPrev)) (2 ^ 31))
    let amp := max o.amp (sat36 |h|)
    let hy := cfg.getD 7 0
    let up := decide (hy < h) && decide (o.side ≤ 0)
    let dn := !up && decide (h < -hy) && decide (0 ≤ o.side)
    let cnt := if (up && decide (o.side < 0)) || (dn && decide (0 < o.side)) then min (o.cnt + 1) 255 else o.cnt
    let side := if up then 1 else if dn then -1 else o.side
    let fin := decide (cfg.getD 2 0 ≤ (o.n + 1 : Nat))
    let s := s.putLw (spWord n.val 0x862) ⟨h, if fin then 0 else amp⟩
    let s := s.onIf fin (fun s => s.put SPn_OSC_STAT_last_cnt cnt n.val)
    s.modSp n (fun p => { p with osc :=
      { cfg := cfg, h := h, sigPrev := sig, amp := if fin then 0 else amp, side := side, n := if fin then 0 else o.n + 1,
        cnt := if fin then 0 else cnt, ended := if fin then some (amp, cnt) else o.ended } })

/-- OSC and the response `resp` of the window that ended (R229). -/
def oscAct (s : State) (n : Ch) (resp : Int) : State :=
  let s := (((s.put SPn_OSC_STAT_osc 1 n.val).incSat SPn_OSC_STAT_osc_cnt n.val).logEv 0x310D [n.val])
  if resp = 2 then s.raise (chSrc n.val 14) n.val
  else if resp != 1 then s
  else if !isSealed s n.val (1 - actBank s n.val) || s.getB SPn_BANK_swap n.val || (s.sp n).fbPend || s.getB SPn_BANK_fb n.val then
    s.raise (chSrc n.val 14) n.val
  else s.put SPn_BANK_swap 1 n.val

/-- The end of an oscillation window (R228, R229). -/
def oscWindowEnd (s : State) (n : Ch) : State :=
  match (s.sp n).osc.ended with
  | none => s
  | some (amp, cnt) =>
    let c := (s.sp n).osc.cfg
    let s := s.modSp n (fun p => { p with osc := { p.osc with ended := none } })
    s.onIf (decide (c.getD 6 0 < amp) && decide (c.getD 3 0 ≤ (cnt : Int)) && decide ((cnt : Int) ≤ c.getD 4 0)) (fun s => oscAct s n (c.getD 8 0))

/-! ### Profile generators (R230, R231) -/

/-- A limit word: 0 disables the limit. -/
def pgLim (v : Int) : Int := if v ≤ 0 then 2 ^ 100 else v

/-- Generator g advances by the control period T in ft (R231). v and a are held at the scales of their limits (DEDUCED,
assumption 36). -/
def pgStep (s : State) (n : Ch) (g : Nat) (T : Int) : State :=
  let w (k : Nat) : QWord := s.lw (spWord n.val (0x840 + 8 * g + k))
  let target := (w 0).x
  let put (s : State) (r v a : Int) : State :=
    (s.putLw (spWord n.val (0x844 + 8 * g)) ⟨sat36 r, sat36 v⟩).putLw (spWord n.val (0x845 + 8 * g)) ⟨sat36 a, 0⟩
  if !s.getBit SPn_CTL_pg_en g n.val then (put s target 0 0).putBit SPn_PG_STAT_busy g false n.val
  else
    let r := (w 4).x
    let v := (w 4).y
    let a := (w 5).x
    let vM := pgLim (w 1).x
    let aM := pgLim (w 2).x
    let jM := pgLim (w 3).x
    let e := target - r
    if e = 0 && v = 0 && a = 0 then s.putBit SPn_PG_STAT_busy g false n.val
    else
      let vb0 := min vM (if (w 2).x ≤ 0 then 2 ^ 100 else (isqrt ((aM * |e|) / 16).toNat : Int))
      let vb := if e < 0 then -vb0 else if e = 0 then 0 else vb0
      let want := satTo (-aM) aM (qdiv ((vb - v) * ftPerSec) (64 * T))
      let dj := if (w 3).x ≤ 0 then 2 ^ 100 else roundHE (jM * 256 * T) ftPerSec.toNat
      let a := a + satTo (-dj) dj (want - a)
      let v := satTo (-vM) vM (v + roundHE (a * 64 * T) ftPerSec.toNat)
      let dr := roundHE (v * 1024 * T) ftPerSec.toNat
      let same := decide (v = 0 ∧ e = 0) || decide (0 < v ∧ 0 < e) || decide (v < 0 ∧ e < 0)
      if same && decide (|e| ≤ |dr|) then (put s target 0 0).putBit SPn_PG_STAT_busy g false n.val
      else (put s (r + dr) v a).putBit SPn_PG_STAT_busy g true n.val

/-- Every generator advances (R231). -/
def pgAll (s : State) (n : Ch) (T : Int) : State := s.forN 4 (fun g s => pgStep s n g T)

/-- The output of generator g. -/
def genOut (s : State) (n : Ch) (g : Nat) : Int := (s.lw (spWord n.val (0x844 + 8 * g))).x

end Sys2Proof.Machine
end

