-- ==== Sys2Proof/Machine/FieldStage.lean ====
section
/-! DEFINITION. The field stage (R237 to R268): angles, references, field weakening, direct torque control, the observer,
machine supervision and the grid engines. Fields in n / 2^28 and n / 2^16 become Q36 integers; speeds are in 2^-16 Hz. -/

namespace Sys2Proof.Machine

/-! ### Values -/

/-- A machine parameter n / 2^28 as Q36. -/
def par28 (s : State) (n : Ch) (f : Fld) : Int := 8 * s.get f n.val
/-- A field n / 2^16 as Q36. -/
def par16 (s : State) (n : Ch) (f : Fld) : Int := 32768 * s.get f n.val
/-- Changes the observer. -/
def modObs (s : State) (n : Ch) (f : ObsSt → ObsSt) : State := s.modFld n (fun x => { x with obs := f x.obs })
/-- Changes the watches. -/
def modWatch (s : State) (n : Ch) (f : WatchSt → WatchSt) : State := s.modFld n (fun x => { x with watch := f x.watch })
/-- Changes the DTC engine. -/
def modDtc (s : State) (n : Ch) (f : DtcSt → DtcSt) : State := s.modFld n (fun x => { x with dtc := f x.dtc })
/-- Changes the grid engines. -/
def modGrid (s : State) (n : Ch) (f : GridSt → GridSt) : State := s.modFld n (fun x => { x with grid := f x.grid })

/-- A speed in 2^-16 Hz as a per-unit Q36 number of W_BASE (R239). -/
def wPu (s : State) (n : Ch) (w : Int) : Int := sat36 (qdiv (w * twoPiFx * 1000) (2 ^ 45 * s.get SPn_W_BASE_base n.val))

/-- A time in ft as per-unit time (seconds times W_BASE), in 2^-31 (assumption 38). -/
def tPu (s : State) (n : Ch) (ft : Int) : Int := roundHE (ft * s.get SPn_W_BASE_base n.val * 2 ^ 31) (ftPerSec.toNat * 1000)

/-- Degrees as an angle. -/
def degAng (d : Nat) : Nat := d * 2 ^ 32 / 360

/-- The signed difference of two angles. -/
def angDiff (a b : Nat) : Int := ofField 32 (a + 2 ^ 32 - b % 2 ^ 32)

/-- The channel's engine is the grid's (R238). -/
def gridMode (s : State) (n : Ch) : Bool := decide (2 ≤ s.get SPn_FLD_CTL_mode n.val)

/-- DTC drives the channel's legs (R238, R251). -/
def dtcDrives (s : State) (n : Ch) : Bool := s.chRuns n.val && (s.get SPn_FLD_CTL_mode n.val == 1 || s.get SPn_FLD_STAT_task n.val != 0)

/-- The observer is the angle in use (R257). -/
def obsInUse (s : State) (n : Ch) : Bool :=
  s.get SPn_FLD_CTL_asrc n.val == 1
    || (s.get SPn_FLD_CTL_asrc n.val == 0 && s.get PIFn_STAT_active n.val == 2 && activeSrc s n == 6)

/-! ### Angles (R242, R243) -/

/-- The speed of the angle source: in mode DTC that of its engine (R238). -/
def srcW (s : State) (n : Ch) : Int :=
  match s.get SPn_FLD_CTL_mode n.val with
  | 1 => (s.sp n).fld.dtc.wEng
  | 2 => (s.sp n).fld.grid.wG
  | 3 => (s.sp n).fld.grid.wF
  | _ => match s.get SPn_FLD_CTL_asrc n.val with
    | 0 => ((s.sp n).pRec.map (·.speed)).getD 0
    | 1 => s.getS SPn_OBS_SPD_speed n.val
    | _ => s.getS SPn_FORCE_freq n.val

/-- The source's angle at tick `t`: in mode DTC that of the estimated flux (R238), carried on at the engine's speed. Before any record angle and speed are 0 (DEDUCED, assumption 42). -/
def srcAngle (s : State) (n : Ch) (t : Int) : Nat :=
  match s.get SPn_FLD_CTL_mode n.val with
  | 1 =>
    let d := (s.sp n).fld.dtc
    extrap (atan2Turn d.psiS.y d.psiS.x 32) d.wEng (t - d.decTs.getD s.now)
  | 2 => extrap (s.sp n).fld.grid.thG (s.sp n).fld.grid.wG (t - (s.carrier (.ch n)).reloadTs)
  | 3 => extrap (s.sp n).fld.grid.thF (s.sp n).fld.grid.wF (t - (s.carrier (.ch n)).reloadTs)
  | _ => match s.get SPn_FLD_CTL_asrc n.val with
    | 0 => (match (s.sp n).pRec with
        | none => 0
        | some r => (extrap r.ang r.speed (t - r.ts) + (if r.unref then (s.sp n).fld.dtc.ipdOfs else 0)) % 2 ^ 32)
    | 1 => extrap (s.get SPn_OBS_ANG_angle n.val) (s.getS SPn_OBS_SPD_speed n.val) (t - (s.sp n).fld.obs.at_)
    | _ => extrap (s.get SPn_ANG_U_angle n.val) (s.getS SPn_FORCE_freq n.val) (t - targetTick s n)

/-- θm and θu of the period (R242, R243). Under FORCED, θu is the previous θu advanced by T, and θm follows from it. -/
def fieldAngles (s : State) (n : Ch) : State :=
  let tm : Int := (s.carrier (.ch n)).reloadTs + s.getS SPn_ANG_OFS_meas_ofs n.val
  let adv := s.getS SPn_ANG_OFS_u_adv n.val
  let tu : Int := targetTick s n + adv
  let forced := s.get SPn_FLD_CTL_mode n.val == 0 && decide (2 ≤ s.get SPn_FLD_CTL_asrc n.val)
  if forced then
    let f := s.getS SPn_FORCE_freq n.val
    let u := toField 32 ((s.get SPn_ANG_U_angle n.val : Int) + Int.tdiv (f * ctrlFt s n * 65536) ftPerSec)
    (s.put SPn_ANG_U_angle u n.val).put SPn_ANG_M_angle (extrap u f (tm - tu)) n.val
  else
    let m := srcAngle s n tm
    let x := match (s.sp n).pRec with
      | some r => if s.get SPn_FLD_CTL_mode n.val = 0 && s.get SPn_FLD_CTL_asrc n.val = 0 && adv = 0 && !r.unref
          then r.angX else srcAngle s n tu
      | none => srcAngle s n tu
    (s.put SPn_ANG_M_angle m n.val).put SPn_ANG_U_angle x n.val

/-! ### References and feedforward (R244, R245) -/

/-- A limit moves towards its target by at most 0.01 pu in a period (R245). -/
def limMove (x target : Int) : Int := satTo (x - 21474836) (x + 21474836) target

/-- The targets of the effective limits: current, torque and regenerative torque (R245, R274, R289). -/
def limTargets (s : State) (n : Ch) : Int × Int × Int :=
  let f := (s.sp n).fld
  let imax := par28 s n SPn_IMAX_imax
  let i := if s.getB SPn_FLD_STAT_locked n.val then min imax (par16 s n SPn_LR_T_lr_current) else imax
  let t := f.tSet.getD (2 ^ 35 - 1)
  let t := if s.getB SPn_FLD_STAT_ke_abn n.val then min t (par16 s n SPn_KE_T_ke_derate) else t
  let t := if s.chState n.val = 4 then min t f.stopClamp else t
  (i, t, if s.getB CHn_STATE_motoring_only n.val then 0 else t)

/-- `SPn_TLIM_EFF` shows the effective limits. -/
def limShow (s : State) (n : Ch) : State :=
  let f := (s.sp n).fld
  (s.put SPn_TLIM_EFF_i_lim (min (f.iLim / 2 ^ 19).toNat 0xFFFF) n.val).put SPn_TLIM_EFF_t_lim (min (f.tLim / 2 ^ 19).toNat 0xFFFF) n.val

/-- The effective limits move by a period of T ft; the stop clamp falls at `stop_ramp` (R245, R274). -/
def limStep (s : State) (n : Ch) (T : Int) : State :=
  let ramp := roundHE (s.get CHn_STOP_stop_ramp n.val * 2 ^ 23 * T) ftPerSec.toNat
  let s := s.onIf (s.chState n.val == 4) (fun s => s.modFld n (fun f => { f with stopClamp := max 0 (f.stopClamp - ramp) }))
  let t := limTargets s n
  -- after a cold takeover the torque limit rises over `cold_ramp` in place of the rate (R368)
  match (s.chan n.val).cold with
  | some t0 =>
    let full := s.get TLS_CKCFG_cold_ramp * tkMs
    let d := s.now - t0
    let cut (x : Int) : Int := if full ≤ d then x else x * (d : Int) / (full : Int)
    let s := s.modFld n (fun f => { f with iLim := limMove f.iLim t.1, tLim := cut t.2.1, tReg := cut t.2.2 })
    limShow (s.onIf (full ≤ d) (fun s => s.modChan n (fun c => { c with cold := none }))) n
  | none =>
    limShow (s.modFld n (fun f => { f with
      iLim := limMove f.iLim t.1, tLim := limMove f.tLim t.2.1, tReg := limMove f.tReg t.2.2 })) n

/-- At entry to RUN the effective limits stand at their targets (DEDUCED, assumption 37). -/
def limEnter (s : State) (n : Ch) : State :=
  let t := limTargets s n
  limShow (s.modFld n (fun f => { f with iLim := t.1, tLim := t.2.1, tReg := t.2.2 })) n

/-- The network's phase at f_nom at the last reload (R263, R405): 2^32 to the turn. t0 is in ns. -/
def ptpPhase (s : State) (n : Ch) : Nat :=
  let r := s.net.rel[n]
  let dt : Int := ((s.carrier (.ch n)).reloadTs : Int) - r.1
  let rate := r.2.2
  -- the time in 2^-40 of half a nanosecond
  let t : Int := (r.2.1 : Int) * 2 ^ 41 + dt * 5 * (2 ^ 40 + rate)
  let f : Int := if s.getB SPn_GRID_f_nom n.val then 60 else 50
  toField 32 (t * f * 2 ^ 32 / (2000000000 * 2 ^ 40))

/-- The references and the feedforward of a reload (R244, R262, R263, R293). A product of three factors is rounded and saturated after
each product of two (R49; DESIGN CHOICE, assumption 131). -/
def refForm (s : State) (n : Ch) : State :=
  let f := (s.sp n).fld
  let psi := par28 s n SPn_PSI_value
  let ld := par28 s n SPn_LD_value
  let lq := par28 s n SPn_LQ_value
  let rs := par28 s n SPn_RS_value
  let w := wPu s n (srcW s n)
  let g2 := genOut s n 2
  let g3 := genOut s n 3
  let put (s : State) (r0 r1 v0 v1 : Int) : State :=
    (s.putPairs n.val 0x80A 2 [r0, r1, g2, g3]).putPairs n.val 0x818 2 [v0, v1, 0, 0]
  match s.get SPn_FLD_CTL_mode n.val with
  | 2 =>
    let id := satTo (-f.iLim) f.iLim (genOut s n 0)
    let m : Int := isqrt (f.iLim * f.iLim - id * id).toNat
    put s id (satTo (-m) m (genOut s n 1)) f.grid.vG.x f.grid.vG.y
  | 3 =>
    put s (sat36 (one36 - roundHE (s.get SPn_GRID_DROOP_mq n.val * (f.grid.qFilt - g3)) 4096)) 0 0 0
  | _ =>
    let wind := s.chState n.val == 5 && (s.chan n.val).windings
    let g0 := if wind then -(match linkOf s n with
        | some l => 32768 * (s.get PRT_LNKl_DIST_dis_id l.val : Int)
        | none => 0) else genOut s n 0
    let g1 := if wind then 0 else genOut s n 1
    let id := satTo (-f.iLim) f.iLim (sat36 (g0 + (if wind then 0 else f.idFw)))
    let iqt := if s.getB SPn_FLD_CTL_ref_torque n.val then
        let hi := if 0 ≤ w then f.tLim else min f.tLim f.tReg
        let lo := if 0 ≤ w then min f.tLim f.tReg else f.tLim
        let t := satTo (-lo) hi g1
        let k := sat36 (psi + mul36 (ld - lq) id)
        let k := if 4 * k < psi then psi / 4 else k
        sat36 (qdiv (t * one36) k)
      else g1
    let m : Int := isqrt (f.iLim * f.iLim - id * id).toNat
    let iq := satTo (-m) m iqt
    let v := if s.getB SPn_FLD_CTL_ff_en n.val then
        (sat36 (mul36 rs id - mul36 w (mul36 lq iq)), sat36 (mul36 rs iq + mul36 w (sat36 (mul36 ld id + psi))))
      else (0, 0)
    let tc := mul36 iq (sat36 (psi + mul36 (ld - lq) id))
    (put s id iq v.1 v.2).modFld n (fun x => { x with tCmd := tc })

/-! ### Field weakening (R246) -/

/-- The field-weakening current after LIMIT. -/
def fieldWeaken (s : State) (n : Ch) (u0 u1 vdc T : Int) : State :=
  if !s.getB SPn_FLD_CTL_fw_en n.val || s.get SPn_FLD_CTL_mode n.val != 0 then s
  else
    let vl := roundHE (s.get SPn_FW_fw_start n.val * vdc * 2 ^ 60) (2 ^ 15 * sqrt3Fx)
    let e := sat36 (mag u0 u1 - vl)
    let mn := 8 * s.getS SPn_FW_MIN_id_fw_min n.val
    let f := (s.sp n).fld
    let i := if (decide (f.idInt ≤ mn) && decide (0 < e)) || (decide (0 ≤ f.idInt) && decide (e < 0)) then f.idInt
      else f.idInt - roundHE (s.get SPn_FW_KI_ki_fw n.val * e * T) ftPerSec.toNat
    let i := satTo mn 0 i
    let d := satTo mn 0 (i - roundHE (s.get SPn_FW_kp_fw n.val * e) 4096)
    let s := s.modFld n (fun x => { x with idInt := i, idFw := d, fwMinT := if d = mn then x.fwMinT + T.toNat else 0 })
    (s.putB SPn_FLD_STAT_fw_active (decide (d < 0)) n.val).putS SPn_FW_ID_id_fw (Int.tdiv d 8) n.val

/-! ### Switch states (R250, R251) -/

/-- The legs that are high in a switch state V0 to V7 (R250): bit 0 a, bit 1 b, bit 2 c. -/
def vecBits : Nat → Nat
  | 1 => 1
  | 2 => 3
  | 3 => 2
  | 4 => 6
  | 5 => 4
  | 6 => 5
  | 7 => 7
  | _ => 0

/-- The stator-frame voltage of a switch state (R250); 0 for the zero states and Z. -/
def vecVolt (vdc : Int) (v : Nat) : QWord :=
  if 1 ≤ v && v ≤ 6 then
    let th := (v - 1) * 2 ^ 32 / 6
    ⟨roundHE (2 * vdc * cos36 th) (3 * 2 ^ 31), roundHE (2 * vdc * sin36 th) (3 * 2 ^ 31)⟩
  else ⟨0, 0⟩

/-- The legs of the channel take a switch state (R251): 8 is Z. -/
def driveVec (s : State) (n : Ch) (v : Nat) : State :=
  let s := modDtc s n (fun d => { d with vec := v })
  s.forL (carrLegs s (.ch n)).zipIdx (fun ki s =>
    let b := (vecBits v).testBit (ki.2 % 3)
    (s.modLeg ki.1 (fun g => { g with forced := some (if v = 8 then (false, false) else (b, !b)) })).legApply false false ki.1)

/-- The stator-frame currents of the phase set. -/
def statorI (s : State) (n : Ch) : QWord :=
  let m (k : Nat) : Int := if h : k < 8 then (s.sp n).meas[k].val else 0
  let l := match s.get SPn_XFORM_mode n.val with
    | 1 => (phaseSet s n.val).map m
    | 2 => let a := (phaseSet s n.val).map m; a ++ [-(a.getD 0 0) - a.getD 1 0]
    | _ => [m 0, m 1, m 2]
  let p := clarke (l.getD 0 0) (l.getD 1 0) (l.getD 2 0)
  ⟨sat36 p.1, sat36 p.2⟩

/-- The stator-frame currents of the last period for the observer (R255): of the outputs y0 and y1 where they are dq currents, else of
the phases. -/
def obsI (s : State) (n : Ch) : QWord :=
  if s.get SPn_XFORM_mode n.val = 0 then statorI s n
  else
    let y := s.getPairs n.val 0x80C 1
    let p := unpark (s.get SPn_ANG_M_angle n.val) (y.getD 0 0) (y.getD 1 0)
    ⟨sat36 p.1, sat36 p.2⟩

/-- The integrator states carry their freeze flag during a DTC task (R251). -/
def taskFreeze (s : State) (n : Ch) : State :=
  let m := (shapeOf s n.val (actBank s n.val)).mask
  frzShow (s.modSp n (fun p => { p with frozen := p.frozen ||| m })) n

/-- A task of the DTC engine begins (R251, R253): the committed duties no longer reach the pins, and until the first decision both
switches of each leg are off (DESIGN CHOICE, assumption 116). -/
def taskBegin (s : State) (n : Ch) (task : Nat) : State :=
  driveVec (taskFreeze ((s.put SPn_FLD_STAT_task task n.val).put SPn_FLD_STAT_engine 1 n.val) n) n 8

/-! ### Sensorless observer (R255 to R257) -/

/-- sin of a whole or half number of degrees: `d2` half degrees. -/
def sinDeg2 (d2 : Nat) : Int := sin36 (d2 * 2 ^ 32 / 720)

/-- The observer's update after the commit, and its runs of good and bad periods. e0 and e1 are the innovations of y0 and
y1, T the control period in ft. -/
def observerUpdate (s : State) (n : Ch) (e0 e1 T : Int) : State :=
  if !s.getB SPn_FLD_CTL_obs_en n.val then s
  else
    let o := (s.sp n).fld.obs
    let i := obsI s n
    let w0 := s.getS SPn_OBS_SPD_speed n.val
    let w := wPu s n w0
    let rs := par28 s n SPn_RS_value
    let ld := par28 s n SPn_LD_value
    let lq := par28 s n SPn_LQ_value
    let tp := tPu s n T
    let dl := ld - lq
    let ea := sat36 (o.uPrev.x - mul36 rs i.x - qdiv (ld * (i.x - o.iPrev.x)) tp + mul36 (mul36 w dl) i.y)
    let eb := sat36 (o.uPrev.y - mul36 rs i.y - qdiv (ld * (i.y - o.iPrev.y)) tp - mul36 (mul36 w dl) i.x)
    let th := s.get SPn_OBS_ANG_angle n.val
    let m := mag ea eb
    let sg : Int := if w0 < 0 then -1 else if w0 = 0 then 0 else 1
    let eps := if m = 0 then 0 else sat36 (qdiv (sg * (-(ea * cos36 th) - eb * sin36 th)) m)
    let bw : Int := s.get SPn_OBS_bw n.val
    let stopped := o.frozenW.isSome && (s.sp n).fld.dtc.recTs.isNone
    let w1 := if stopped then w0 else w0 + qdiv (bw * bw * eps * T * 2 ^ 45) (ftPerSec * twoPiFx)
    let th1 := if stopped then th else
      toField 32 ((th : Int) + roundHE (w1 * T * 65536) ftPerSec.toNat + qdiv (2 * bw * eps * T * 2 ^ 61) (ftPerSec * twoPiFx))
    let res := mag e0 e1
    let trk := s.get SPn_OBS_trk_lim n.val
    let rl := par16 s n SPn_OBS_LIM_res_lim
    let mn : Int := s.get SPn_OBS_MIN_obs_min n.val
    let good := decide (mn ≤ |w1|) && decide (|eps| ≤ sinDeg2 trk) && decide (2 * res ≤ rl)
    let bad := decide (sinDeg2 (2 * trk) < |eps|) || decide (rl < res)
    let tm : Int := (s.carrier (.ch n)).reloadTs + s.getS SPn_ANG_OFS_meas_ofs n.val
    let was := s.getB SPn_FLD_STAT_obs_valid n.val
    let low := was && decide (10 * |w1| < 8 * mn)
    let s := (s.put SPn_OBS_ANG_angle th1 n.val).putS SPn_OBS_SPD_speed (satTo (-(2 ^ 31)) (2 ^ 31 - 1) w1) n.val
    let s := modObs s n (fun o => { o with
      at_ := tm.toNat, iPrev := i, eps := eps, ok := if good then o.ok + 1 else 0, bad := if was && bad then o.bad + 1 else 0,
      wBefore := if bad then o.wBefore else w1, used := (o.used * 2 + (if obsInUse s n then 1 else 0)) % 4 })
    let s := s.onIf low (fun s => s.put SPn_FLD_STAT_obs_valid 0 n.val)
    -- R253: the START task when the observer in use falls below its speed in RUN
    s.onIf (low && obsInUse s n && s.chState n.val == 3 && s.get SPn_FLD_CTL_mode n.val == 0
        && s.get SPn_FLD_STAT_task n.val == 0) (fun s =>
      let th := s.get SPn_ANG_M_angle n.val
      let c := park th i.x i.y
      let q := unpark th (sat36 (par28 s n SPn_PSI_value + mul36 ld (sat36 c.1))) (mul36 lq (sat36 c.2))
      taskBegin (modDtc s n (fun d => { d with
        psiS := ⟨sat36 q.1, sat36 q.2⟩, hoSince := none, missRun := 0, wEng := w1, ubar := [], decTs := none })) n 2)

/-- RECAP_FAIL (R257, R258). -/
def recapFail (s : State) (n : Ch) : State :=
  ((s.logEv 0x3122 [n.val]).raise (chSrc n.val 15) n.val |>.put SPn_FLD_STAT_task 0 n.val)

/-- The observer is lost (R257): ω̂ returns to its value before the bad run, where it stays for an observer in use until the handover.
RECAPTURE starts at the next decision. -/
def obsLost (s : State) (n : Ch) : State :=
  if !s.getB SPn_FLD_STAT_obs_valid n.val || (s.sp n).fld.obs.bad < s.get SPn_OBS_obs_n n.val then s
  else
    let s := ((s.logEv 0x3120 [n.val]).put SPn_FLD_STAT_obs_lost 1 n.val).put SPn_FLD_STAT_obs_valid 0 n.val
    let s := (s.raise (chSrc n.val 18) n.val).owlTrig 10
    let o := (s.sp n).fld.obs
    let inUse := obsInUse s n || o.used != 0
    let s := s.putS SPn_OBS_SPD_speed (satTo (-(2 ^ 31)) (2 ^ 31 - 1) o.wBefore) n.val
    let s := modObs s n (fun o => { o with frozenW := if inUse then some o.wBefore else none, ok := 0, bad := 0 })
    if !inUse then s
    else if s.chState n.val = 4 then recapFail s n
    else if s.chState n.val = 3 && s.get SPn_FLD_STAT_task n.val = 0 then
      if !s.getB SPn_FLD_CTL_rec_en n.val || s.get SPn_REC_recap_n n.val = 0 then recapFail s n
      else modDtc (s.put SPn_FLD_STAT_rec_cnt 0 n.val) n
        (fun d => { d with recPend := true, recPat := none, recTs := none, hoSince := none, missRun := 0 })
    else s

/-! ### Machine supervision (R259, R260) -/

/-- The locked-rotor watch of a period. -/
def lockedWatch (s : State) (n : Ch) (T : Int) : State :=
  if !s.getB SPn_FLD_CTL_lr_en n.val || gridMode s n then s
  else
    let th := s.get SPn_ANG_M_angle n.val
    let sec := 6 * th / 2 ^ 32
    let beyond := decide (par16 s n SPn_LR_lr_torq < |(s.sp n).fld.tCmd|)
    let la : Int := degAng (s.get SPn_LR_lr_angle n.val)
    modWatch s n (fun w =>
      if beyond then
        let w := if w.lrOn then w else { w with lrOn := true, lrTh0 := th, lrSec := sec, lrT := 0 }
        let w := { w with lrT := w.lrT + T.toNat, lrLow := 0 }
        if la ≤ |angDiff th w.lrTh0| || sec ≠ w.lrSec then { w with lrTh0 := th, lrSec := sec, lrT := 0 } else w
      else { w with lrOn := false, lrLow := w.lrLow + T.toNat })

/-- ms of time in ft. -/
def msFt (m : Nat) : Nat := m * 51200000

/-- d and q currents of the period as its measurements give them (R260). -/
def measDq (s : State) (n : Ch) : Int × Int :=
  let i := obsI s n
  let c := park (s.get SPn_ANG_M_angle n.val) i.x i.y
  (sat36 c.1, sat36 c.2)

/-- The q voltage applied in a period: that of the committed input `uq`, or of the switch states while DTC drives (R251, R260). -/
def appliedQ (s : State) (n : Ch) (uq : Int) : Int :=
  if dtcDrives s n then
    let v := (s.sp n).fld.obs.uPrev
    sat36 (park (s.get SPn_ANG_U_angle n.val) v.x v.y).2
  else uq

/-- The flux watch of a period: uq is the input applied in it. -/
def fluxWatch (s : State) (n : Ch) (uq T : Int) : State :=
  if !s.getB SPn_FLD_CTL_ke_en n.val || s.get SPn_FLD_CTL_mode n.val != 0 then s
  else
    let y := measDq s n
    let id := y.1
    let w0 := srcW s n
    if |w0| < (s.get SPn_KE_SPD_ke_min n.val : Int) || par16 s n SPn_KE_ke_id_band < |id| then s
    else
      let w := wPu s n w0
      let psi := par28 s n SPn_PSI_value
      let est := sat36 (qdiv ((appliedQ s n uq - mul36 (par28 s n SPn_RS_value) y.2
        - mul36 w (mul36 (par28 s n SPn_LD_value) id)) * one36) w)
      let x := (s.sp n).fld.watch
      let pf := x.psiF + roundHE (est - x.psiF) 256
      let out := decide (1024 ≤ x.keN + 1) && decide (s.get SPn_KE_ke_tol n.val * psi < |pf - psi| * 65536)
      (modWatch s n (fun x => { x with psiF := pf, keN := x.keN + 1, keOut := if out then x.keOut + T.toNat else 0 })).put
        SPn_KE_EST_psi_f (pf / 8).toNat n.val

/-- psi_f and n_q restart, and `SPn_KE_EST` shows psi_f (R260). -/
def fluxRestart (s : State) (n : Ch) : State :=
  (modWatch s n (fun w => { w with psiF := par28 s n SPn_PSI_value, keN := 0, keOut := 0 })).put SPn_KE_EST_psi_f
    (par28 s n SPn_PSI_value / 8).toNat n.val

/-! ### Grid engines (R261, R263) -/

/-- The tracking loop and the droop oscillator of a period. -/
def gridUpdate (s : State) (n : Ch) (T : Int) : State :=
  if !gridMode s n then s
  else
    let m (f : Fld) : Int := match (s.get f n.val) with
      | k => if h : k < 8 then (s.sp n).meas[k].val else 0
    let g := (s.sp n).fld.grid
    let v := (dqOf g.thG (m SPn_GRID_ga) (m SPn_GRID_gb) (m SPn_GRID_gc)).1
    let vd := v.getD 0 0
    let vq := v.getD 1 0
    let a := mag vd vq
    let small := decide (5 * a < one36)
    let x := if small then 0 else sat36 (qdiv (vq * one36) a)
    let bw : Int := s.get SPn_GRID_pll_bw n.val
    let w1 := satTo 2621440 4587520 (g.wG + qdiv (twoPiFx * bw * bw * x * T) (2 ^ 75 * ftPerSec))
    let th1 := toField 32 ((g.thG : Int) + roundHE (w1 * T * 65536) ftPerSec.toNat + qdiv (4 * bw * x * T) ftPerSec)
    let good := !small && decide (|x| < sinDeg2 4)
    let bad := small || decide (sinDeg2 20 < |x|)
    let oob := decide (w1 < 256 * s.get SPn_GRID_BAND_f_lo n.val) || decide (256 * s.get SPn_GRID_BAND_f_hi n.val < w1)
    -- the droop oscillator
    let c := (dqOf g.thF (m SPn_GRID_ga) (m SPn_GRID_gb) (m SPn_GRID_gc)).1
    let y := s.getPairs n.val 0x80C 1
    let P := sat36 (acc [(c.getD 0 0, y.getD 0 0), (c.getD 1 0, y.getD 1 0)] 0)
    let Q := sat36 (acc [(c.getD 1 0, y.getD 0 0), (-(c.getD 0 0), y.getD 1 0)] 0)
    let flt (o v : Int) : Int := sat36 (o + roundHE ((v - o) * T * 50) ftPerSec.toNat)
    let pf := flt g.pFilt P
    let fn : Int := if s.getB SPn_GRID_f_nom n.val then 60 else 50
    let al := if s.getB SPn_GRID_ptp_align n.val then roundHE (angDiff (ptpPhase s n) g.thF) (2 ^ 17) else 0
    let wf := fn * 65536 - roundHE (s.get SPn_GRID_DROOP_mp n.val * (pf - genOut s n 2)) (2 ^ 27) + al
    let thf := toField 32 ((g.thF : Int) + roundHE (wf * T * 65536) ftPerSec.toNat)
    let form := s.get SPn_FLD_CTL_mode n.val == 3
    (modGrid s n (fun g => { g with
      thG := th1, wG := w1, vG := ⟨vd, vq⟩, lockT := if good then g.lockT + T.toNat else 0,
      badN := if bad then g.badN + 1 else 0, bandT := if oob then g.bandT + T.toNat else 0, bandUp := oob && g.bandUp,
      pFilt := pf, qFilt := flt g.qFilt Q, thF := if form then thf else g.thF, wF := if form then wf else g.wF })).put SPn_GRID_F_freq w1.toNat n.val

/-! ### Direct torque control (R249 to R254, R258) -/

/-- The switch state of a pattern. -/
def patVec : Pat → Nat
  | .off => 8
  | .ascLow => 0
  | .ascHigh => 7

/-- The legs no longer follow DTC. -/
def dtcRelease (s : State) (n : Ch) : State :=
  s.forL (carrLegs s (.ch n)) (fun k s => (s.modLeg k (fun g => { g with forced := none })).legApply false false k)

/-- The effective spacing of decisions in tk (R249). -/
def decSpacing (s : State) (n : Ch) : Nat :=
  max (s.get SPn_DTC_CFG_dec_min n.val) (if s.profOf n.val = 3 then 1600 else 400)

/-- The steps of the sequencer that paces the decisions (R249) whose results go to the channel. -/
def paceSteps (s : State) (n : Ch) : List Nat :=
  let q := s.get SPn_DTC_CFG_seq n.val
  (List.range (s.get SEQn_CTL_nsteps q + 1)).filter (fun k => s.getB SEQn_STEPk_B_sp_en q k && s.get SEQn_STEPk_B_sp_ch q k == n.val)

/-- All results of the pacing sequencer have landed since the last decision (R249). -/
def paceLanded (s : State) (n : Ch) : Bool :=
  !(paceSteps s n).isEmpty && (paceSteps s n).all (fun k => (s.sp n).fld.dtc.landed.testBit k)

/-- A result of step `org % 16` of sequencer `org / 16` lands (R249). -/
def paceLand (s : State) (n : Ch) (org : Nat) : State :=
  s.onIf (org / 16 == s.get SPn_DTC_CFG_seq n.val) (fun s => modDtc s n (fun d => { d with landed := d.landed ||| 2 ^ (org % 16) }))

/-- The rotor flux angle of the source at now, turned to the stator flux (R252). -/
def srcFluxAngle (s : State) (n : Ch) : Nat :=
  let th := srcAngle s n s.now
  let i := statorI s n
  let p := park th i.x i.y
  let f := atan2Turn (mul36 (par28 s n SPn_LQ_value) p.2)
    (par28 s n SPn_PSI_value + mul36 (par28 s n SPn_LD_value) p.1) 32
  (th + f) % 2 ^ 32

/-- The angle source is valid for a handover (R252). -/
def srcValid (s : State) (n : Ch) : Bool :=
  match s.get SPn_FLD_CTL_asrc n.val with
  | 0 => (match (s.sp n).pRec with
      | some r => !r.stale && !r.unref
      | none => false)
  | 1 => s.getB SPn_FLD_STAT_obs_valid n.val
  | _ => true

/-- The handover conditions are judged at a decision (R252). -/
def hoJudge (s : State) (n : Ch) : State :=
  let d := (s.sp n).fld.dtc
  let fl := atan2Turn d.psiS.y d.psiS.x 32
  let ok := srcValid s n && decide (|angDiff fl (srcFluxAngle s n)| < (degAng 15 : Int))
  modDtc s n (fun d => { d with hoSince := if ok then some (d.hoSince.getD s.now) else none })

/-- The spans that reach into the last 1 ms, newest first, with the end of the span before them. -/
def keepMs (now : Nat) : List (Nat × QWord) → List (Nat × QWord)
  | [] => []
  | e :: t => if e.1 + tkMs < now then [e] else e :: keepMs now t

/-- The voltages of the last 1 ms, weighted by their spans in tk (R252). -/
def spanSum (now : Nat) (f : QWord → Int) : List (Nat × QWord) → Int × Nat
  | a :: b :: t =>
    let w := a.1 - max b.1 (now - tkMs)
    let r := spanSum now f (b :: t)
    (r.1 + f a.2 * w, r.2 + w)
  | _ => (0, 0)

/-- The mean dq voltage of the last 1 ms of DTC (R252). -/
def meanDq (s : State) (n : Ch) : Int × Int :=
  let u := (s.sp n).fld.dtc.ubar
  let m (f : QWord → Int) : Int :=
    let r := spanSum s.now f u
    if r.2 = 0 then 0 else roundHE r.1 r.2
  (m (·.x), m (·.y))

/-- One step of the DTC engine (R250). -/
def dtcEngine (s : State) (n : Ch) : State :=
  let d := (s.sp n).fld.dtc
  let vdc := vdcOf s n
  let i := statorI s n
  let v := vecVolt vdc d.vec
  let dt : Int := match d.decTs with
    | some t => s.now - t
    | none => 0
  let tp := tPu s n (128 * dt)
  let rs := par28 s n SPn_RS_value
  let pa := sat36 (d.psiS.x + roundHE ((v.x - mul36 rs i.x) * tp) (2 ^ 31))
  let pb := sat36 (d.psiS.y + roundHE ((v.y - mul36 rs i.y) * tp) (2 ^ 31))
  let th := sat36 (acc [(pa, i.y), (-pb, i.x)] 0)
  let task := s.get SPn_FLD_STAT_task n.val
  let tRef := if task = 3 || d.stopWait then 0 else (s.sp n).fld.tCmd
  let tb := par16 s n SPn_DTC_t_band
  let cT := if tb < tRef - th then 1 else if tRef - th < -tb then -1 else d.cT
  let psi := par28 s n SPn_PSI_value
  let w := if s.getB SPn_FLD_CTL_obs_en n.val then s.getS SPn_OBS_SPD_speed n.val else d.wEng
  let wp := |wPu s n w|
  let lim := roundHE (s.get SPn_FW_fw_start n.val * vdc * 2 ^ 60) (2 ^ 15 * sqrt3Fx)
  let pRef := if wp = 0 then psi else min psi (sat36 (qdiv (lim * one36) wp))
  let m := mag pa pb
  let pbd := par16 s n SPn_DTC_psi_band
  let cP := if pbd < pRef - m then true else if pRef - m < -pbd then false else d.cPsi
  let k : Nat := (6 * atan2Turn pb pa 32 + 2 ^ 31) / 2 ^ 32 % 6
  let hi : Nat := match vecBits d.vec with
    | 0 => 0
    | 7 => 3
    | b => if b = 1 || b = 2 || b = 4 then 1 else 2
  let vz := if hi ≤ 3 - hi || d.vec = 8 then 0 else 7
  let at_ (j : Int) : Nat := (((k : Int) + j) % 6).toNat + 1
  let vec := if cT = 0 then vz else if cT = 1 then (if cP then at_ 1 else at_ 2) else (if cP then at_ (-1) else at_ (-2))
  let dq := park (srcAngle s n s.now) v.x v.y
  let s := modDtc s n (fun d => { d with
    psiS := ⟨pa, pb⟩, tHat := th, cT := cT, cPsi := cP, tRef := tRef, wEng := w,
    ubar := keepMs s.now ((s.now, ⟨sat36 dq.1, sat36 dq.2⟩) :: d.ubar) })
  let s := modObs s n (fun o => { o with uPrev := v })
  hoJudge (driveVec s n vec) n

/-- The d axis modulo 180° from the peaks of V1 to V6 (R254). -/
def ipdAxis (I : Nat → Int) : Nat :=
  let ang (k : Nat) : Nat := (2 * k * 2 ^ 32 / 6) % 2 ^ 32
  let S := ((List.range 6).map (fun k => I k * sin36 (ang k))).sum
  let C := ((List.range 6).map (fun k => I k * cos36 (ang k))).sum
  atan2Turn (S / 2 ^ 31) (C / 2 ^ 31) 32 / 2

/-- The switch state whose vector lies nearest to an angle (R254; DEDUCED, assumption 117). -/
def nearVec (th : Nat) : Nat := ((6 * th + 2 ^ 31) / 2 ^ 32) % 6 + 1

/-- The switch state of pulse k of the search, 1 to 8: V1 to V6, then along θ2 and along θ2 + 180° (R254). -/
def ipdVec (d : DtcSt) (k : Nat) : Nat :=
  let th2 := ipdAxis (fun j => d.peaks.getD j 0)
  if k ≤ 6 then k else if k = 7 then nearVec th2 else nearVec ((th2 + 2 ^ 31) % 2 ^ 32)

/-- The probe time in tk. -/
def probeTk (s : State) (n : Ch) : Nat := tkUs * s.get SPn_REC_probe n.val

/-- One step of the initial position search (R254): a pulse ends by its time or, for V1 to V6, at i_probe; the next one begins below i_zero. -/
def ipdStep (s : State) (n : Ch) : State :=
  let d := (s.sp n).fld.dtc
  let i := statorI s n
  let m := mag i.x i.y
  if 1 ≤ d.vec && d.vec ≤ 6 then
    let dur := if d.ipdStep ≤ 6 then probeTk s n else 2 * probeTk s n
    let beyond := decide (d.ipdStep ≤ 6) && decide (par16 s n SPn_REC_I_i_probe ≤ m)
    if beyond || decide (d.probeTs + dur ≤ s.now) then driveVec (modDtc s n (fun d => { d with peaks := d.peaks ++ [m] })) n 0 else s
  else if m < par16 s n SPn_REC_I_i_zero && d.ipdStep < 8 then
    driveVec (modDtc s n (fun d => { d with ipdStep := d.ipdStep + 1, probeTs := s.now })) n (ipdVec d (d.ipdStep + 1))
  else s

/-! ### RECAPTURE (R258) -/

/-- A run of the wait begins with current `m`. -/
def runStart (s : State) (n : Ch) (m : Int) : State := modDtc s n (fun d => { d with runTs := some s.now, run := (1, m, m, m) })

/-- A decision in the wait of an ASC pattern: |i| has to stay within ±5 % of its mean for `settle` ms. -/
def recSettle (s : State) (n : Ch) (m : Int) : State :=
  let d := (s.sp n).fld.dtc
  match d.runTs with
  | none => runStart s n m
  | some t0 =>
    let k := d.run.1 + 1
    let sum := d.run.2.1 + m
    let lo := min d.run.2.2.1 m
    let hi := max d.run.2.2.2 m
    if 105 * sum < 100 * hi * k || 100 * lo * k < 95 * sum then runStart s n m
    else modDtc s n (fun d => { d with
      run := (k, sum, lo, hi), recStep := if t0 + tkMs * s.get SPn_REC_settle n.val ≤ s.now then 4 else d.recStep })

/-- A decision of PULSE_OFF: |i| below i_zero for 100 µs, then probe_estimate's V0, Z and V0, each probe ending by its time or at
i_probe. -/
def recProbe (s : State) (n : Ch) (m : Int) : State :=
  let d := (s.sp n).fld.dtc
  let low := decide (m < par16 s n SPn_REC_I_i_zero)
  let past := decide (par16 s n SPn_REC_I_i_probe ≤ m) || decide (d.probeTs + probeTk s n ≤ s.now)
  let next (s : State) (k v : Nat) : State := driveVec (modDtc s n (fun d => { d with recStep := k, probeTs := s.now })) n v
  match d.recStep with
  | 0 =>
    if !low then modDtc s n (fun d => { d with runTs := none })
    else match d.runTs with
      | none => modDtc s n (fun d => { d with runTs := some s.now })
      | some t0 => if t0 + 100 * tkUs ≤ s.now then next s 1 0 else s
  | 1 => if past then next s 2 8 else s
  | 2 => if low then next s 3 0 else s
  | 3 => if past then next s 4 8 else s
  | _ => s

/-- A decision of RECAPTURE (R258): the selector's pattern, then the wait for its estimate, then DTC. -/
def recDecision (s : State) (n : Ch) : State :=
  let d := (s.sp n).fld.dtc
  let i := statorI s n
  let m := mag i.x i.y
  match d.recPat, d.recTs with
  | none, _ =>
    let p := patOfSel (selChoice s n)
    driveVec (modDtc s n (fun d => { d with recPat := some p, recTs := none, recStep := 0, runTs := none })) n (patVec p)
  | some p, none => if d.recStep = 4 then s else if p = .off then recProbe s n m else recSettle s n m
  | some _, some _ => dtcEngine s n

/-- A decision is taken in the task (R249, R250, R254, R258). -/
def takeDecision (s : State) (n : Ch) : State :=
  let s := s.onIf ((s.sp n).fld.dtc.recPend) (fun s => modDtc (taskBegin s n 3) n (fun d => { d with recPend := false }))
  let s := match s.get SPn_FLD_STAT_task n.val with
    | 1 => ipdStep s n
    | 3 => recDecision s n
    | _ => dtcEngine s n
  let s := s.put SPn_FLD_STAT_engine 1 n.val
  modDtc s n (fun d => { d with decTs := some s.now, missRun := 0, landed := 0 })

/-- DTC_DECISION (R249, R250, R258): the results of the pacing sequencer have landed. A landing sooner than the effective spacing after
the last decision is ignored. -/
def dtcDecision (s : State) (n : Ch) : State :=
  let d := (s.sp n).fld.dtc
  if !(dtcDrives s n || (d.recPend && s.chState n.val == 3)) || !paceLanded s n then s
  else if (match d.decTs with
      | some t => decide (s.now < t + decSpacing s n)
      | none => false) then modDtc s n (fun d => { d with landed := 0 })
  else takeDecision s n

/-- DTC_MISS (R249): the switch state is held; the second in a row ends the task. In mode DTC the legs stay at the switch state (R238). -/
def dtcMiss (s : State) (n : Ch) : State :=
  if !dtcDrives s n then s
  else
    let s := s.logEv 0x3126 [n.val]
    let k := (s.sp n).fld.dtc.missRun + 1
    let s := modDtc s n (fun d => { d with missRun := k, hoSince := none })
    s.onIf (k == 2) (fun s =>
      let s := s.put SPn_FLD_STAT_task 0 n.val
      let s := s.onIf (s.get SPn_FLD_CTL_mode n.val != 1) (fun s => dtcRelease (s.put SPn_FLD_STAT_engine 0 n.val) n)
      s.raise (chSrc n.val 16) n.val)

/-- A state that C maps one-to-one to output j, when row j has one entry and its column no other (R252). -/
def oneToOne (s : State) (n : Ch) (j : Nat) : Option Nat :=
  let b := actBank s n.val
  let h := shapeOf s n.val b
  let c (j i : Nat) : Int := coef s n.val b (0x1A0 + 16 * j + i)
  match (List.range h.nx).filter (fun i => c j i != 0) with
  | [i] => if (List.range h.ny).all (fun j' => j' == j || c j' i == 0) then some i else none
  | _ => none

/-- What a handover sets (R252): the states that C maps one-to-one to outputs, the integrators, the freeze flags and
generator 1. -/
def hoState (s : State) (n : Ch) : State :=
  let d := (s.sp n).fld.dtc
  let b := actBank s n.val
  let h := shapeOf s n.val b
  let y := (transformOut s n (s.get SPn_ANG_M_angle n.val) ((List.finRange 8).map (fun k => (s.sp n).meas[k].val))).1
  let x := (List.range h.ny).foldl (fun x j => match oneToOne s n j with
    | some i => x.set i (sat36 (qdiv (y.getD j 0 * one36) (coef s n.val b (0x1A0 + 16 * j + i))))
    | none => x) (xHat s n)
  let u := meanDq s n
  let six := s.get SPn_XFORM_mode n.val == 3
  let ub (j : Nat) : Int := if j = 0 || (six && j == 2) then u.1 else if j = 1 || (six && j == 3) then u.2 else 0
  let x := (List.range h.nx).foldl (fun x i =>
    if h.mask.testBit i then
      let j := h.intOut i
      let k (m : Nat) : Int := coef s n.val b (0x2A0 + 16 * j + m)
      let sum := ((List.range h.nx).filter (· != i)).foldl (fun a m => a + k m * x.getD m 0) 0
      x.set i (if k i = 0 then 0 else sat36 (qdiv (-(ub j * one36 + sum)) (k i)))
    else x) x
  let s := s.putPairs n.val 0x800 8 x
  let id := y.getD 0 0
  let r := if s.getB SPn_FLD_CTL_ref_torque n.val then d.tHat
    else sat36 (qdiv (d.tHat * one36) (par28 s n SPn_PSI_value + mul36 (par28 s n SPn_LD_value - par28 s n SPn_LQ_value) id))
  let s := (s.putLw (spWord n.val 0x84C) ⟨r, 0⟩).putLw (spWord n.val 0x84D) ⟨0, 0⟩
  frzShow (s.modSp n (fun p => { p with frozen := 0 })) n

/-- HANDOVER (R252): at the first reload after its conditions have held for 5 ms; conditions that complete on a reload's tick wait for
the next (R264). A stop that waited is taken (R264). -/
def handover (s : State) (n : Ch) : State :=
  let d := (s.sp n).fld.dtc
  let task := s.get SPn_FLD_STAT_task n.val
  if !s.chRuns n.val || task = 0 || task = 4 || (match d.hoSince with
      | some t => decide (s.now ≤ t + 5 * tkMs)
      | none => true) then s
  else
    let s := modObs (hoState s n) n (fun o => { o with frozenW := none })
    let s := modDtc s n (fun d => { d with hoSince := none, recTs := none, recPat := none, stopWait := false, ubar := [] })
    let s := dtcRelease ((s.put SPn_FLD_STAT_task 0 n.val).put SPn_FLD_STAT_engine 0 n.val) n
    let s := s.logEv 0x3123 [n.val]
    let s := s.onIf (task == 3) (fun s => s.logEv 0x3121 [n.val])
    s.onIf (d.stopWait && s.chState n.val == 3) (fun s => enterStop s n 0xFF false)

/-- IPD ends (R254): six peaks for V1 to V6, then the two polarity peaks. -/
def ipdComplete (s : State) (n : Ch) (peaks : List Int) : State :=
  if s.get SPn_FLD_STAT_task n.val != 1 then s
  else
    let I (k : Nat) : Int := peaks.getD k 0
    let six := (List.range 6).map I
    let mx := six.foldl max (I 0)
    let mn := six.foldl min (I 0)
    let th2 := ipdAxis I
    let pmx := max (I 6) (I 7)
    let flat := decide (20 * (mx - mn) < mx) || decide (50 * |I 6 - I 7| < pmx)
    if flat then
      dtcRelease (((s.logEv 0x3125 [n.val]).raise (chSrc n.val 17) n.val).put SPn_FLD_STAT_task 0 n.val |>.put SPn_FLD_STAT_engine 0 n.val) n
    else
      let th := if I 7 ≤ I 6 then th2 else th2 + 2 ^ 31
      let psi := par28 s n SPn_PSI_value
      let ofs := match (s.sp n).pRec with
        | some r => if r.unref then (th + 2 ^ 32 - extrap r.ang r.speed (s.now - r.ts)) % 2 ^ 32 else 0
        | none => 0
      let s := modDtc s n (fun d => { d with
        psiS := ⟨mul36 psi (cos36 th), mul36 psi (sin36 th)⟩, ipdOfs := ofs, hoSince := none, ubar := [], decTs := none })
      (s.put SPn_FLD_STAT_task 2 n.val).logEv 0x3124 [n.val]

/-- An attempt of RECAPTURE ends without handover (R258). -/
def recapAttemptEnd (s : State) (n : Ch) : State :=
  if s.get SPn_FLD_STAT_task n.val != 3 then s
  else
    let k := s.get SPn_FLD_STAT_rec_cnt n.val + 1
    let s := s.put SPn_FLD_STAT_rec_cnt (min k 15) n.val
    if s.get SPn_REC_recap_n n.val ≤ k then dtcRelease (recapFail (s.put SPn_FLD_STAT_engine 0 n.val) n) n
    else modDtc s n (fun d => { d with recPat := none, recTs := none, recStep := 0, runTs := none, hoSince := none })

/-- The estimate of a RECAPTURE attempt (R258): the currents at the two instants, `dt` tk apart. In ASC they bound the
probe time once the current has settled; with PULSE_OFF they end the two probes. It is taken once its wait and its probes are over. -/
def recapture (s : State) (n : Ch) (i1 i2 : QWord) (dt : Nat) : State :=
  let d := (s.sp n).fld.dtc
  match s.get SPn_FLD_STAT_task n.val, d.recPat, d.recTs, d.recStep with
  | 3, some pat, none, 4 =>
    let a1 := atan2Turn i1.y i1.x 32
    let a2 := atan2Turn i2.y i2.x 32
    let df := angDiff a2 a1
    if pat = .off && (2 ^ 32 / 3 : Int) < |df| then recapAttemptEnd s n
    else
      let w := qdiv (df * 400000000) (65536 * dt)
      let wp := wPu s n w
      let psi := par28 s n SPn_PSI_value
      let ld := par28 s n SPn_LD_value
      let lq := par28 s n SPn_LQ_value
      let rs := par28 s n SPn_RS_value
      let den := rs * rs * 2 ^ 62 + wp * wp * ld * lq
      let idq : Int × Int := if pat = .off then (0, 0)
        else (sat36 (qdiv (-(wp * wp * lq * psi * one36)) den), sat36 (qdiv (-(rs * wp * psi * 2 ^ 62)) den))
      let th := if pat = .off then (if 0 < w then a2 + 2 ^ 30 else a2 + 3 * 2 ^ 30) % 2 ^ 32
        else (a2 + 2 ^ 32 - atan2Turn idq.2 idq.1 32) % 2 ^ 32
      let q := unpark th (sat36 (psi + mul36 ld idq.1)) (mul36 lq idq.2)
      let s := (s.put SPn_OBS_ANG_angle th n.val).putS SPn_OBS_SPD_speed w n.val
      let s := modObs s n (fun o => { o with at_ := s.now, iPrev := i2, ok := 0, bad := 0 })
      modDtc s n (fun d => { d with psiS := ⟨sat36 q.1, sat36 q.2⟩, recTs := some s.now, wEng := w, cT := 0, decTs := some s.now })
  | _, _, _, _ => s

/-- The task a channel enters RUN with (R238, R253), when the resume from ASC does not give RECAPTURE. -/
def runTask (s : State) (n : Ch) : State :=
  let unk := match s.get SPn_FLD_CTL_asrc n.val with
    | 0 => (match (s.pif n).record with
        | some r => r.unref
        | none => true)
    | 1 => !s.getB SPn_FLD_STAT_obs_valid n.val
    | _ => false
  let task := match s.get SPn_FLD_CTL_mode n.val with
    | 0 => if unk then 1 else 0
    | 1 => 4
    | _ => 0
  let s := modObs s n (fun o => { o with frozenW := none, used := 0 })
  let s := modDtc s n (fun d => { d with
    psiS := ⟨0, 0⟩, cT := 0, cPsi := false, vec := 8, decTs := none, missRun := 0, hoSince := none, ubar := [],
    recTs := none, recPat := none, recStep := 0, runTs := none, recPend := false, stopWait := false, ipdStep := 0, peaks := [], landed := 0 })
  if task = 0 then (s.put SPn_FLD_STAT_task 0 n.val).put SPn_FLD_STAT_engine (if gridMode s n then 2 else 0) n.val
  else taskBegin s n task

/-- The angle is unknown at CH_ENABLE while IPD is not permitted (R253). An interface that delivers no record has no known
angle (DEDUCED, assumption 42). -/
def angleUnknown (s : State) (n : Ch) : Bool :=
  s.get SPn_FLD_CTL_mode n.val == 0
    && (match s.get SPn_FLD_CTL_asrc n.val with
        | 0 => (match (s.pif n).record with
            | some r => r.unref
            | none => true)
        | 1 => !s.getB SPn_FLD_STAT_obs_valid n.val
        | _ => false)

end Sys2Proof.Machine
end

