-- ==== Sys2Proof/Machine/Spindle.lean ====
section
/-! DEFINITION. A spindle's period (R201, R213 to R224): its reload, the landing of its inputs, speculation, fast path,
full evaluation, the update after the commit, and the checkpoint. -/

namespace Sys2Proof.Machine

/-- A spindle's program runs in this channel's periods: in RUN and STOPPING, and for a windings discharge (R201, R293). -/
def spRuns (s : State) (n : Ch) : Bool := s.chRuns n.val || (s.chState n.val == 5 && (s.chan n.val).windings)

/-- Speculation is used (R219). -/
def specUsed (s : State) (n : Ch) : Bool := s.profOf n.val != 2 && !s.getB SPn_CTL_spec_dis n.val

/-- The measurements of a new period: none has landed. -/
def measOpen (m : Vector Meas 8) : Vector Meas 8 := m.map (fun q => { q with cur := none })

/-- The swaps that are due at a reload (R222, R226, R232). While the spindle is held, they wait for the next reload (DEDUCED,
assumption 59). -/
def swapsDue (s : State) (n : Ch) : State :=
  if (s.sp n).held then s.modSp n (fun p => { p with swapPer := false })
  else if (s.sp n).fbPend then
    let s := s.onIf (s.getB SPn_BANK_swap n.val) (fun s => (s.put SPn_BANK_swap 0 n.val).logEv 0x3107 [n.val])
    let s := (bankSwap s n true).logEv 0x310A [n.val]
    let h := s.get SPn_FB_fb_hold n.val
    ((s.modSp n (fun p => { p with holdEnd := some (s.now + 40000 * h) })).put SPn_FBSTAT_hold 1 n.val)
  else if s.getB SPn_BANK_swap n.val then bankSwap s n false
  else s.modSp n (fun p => { p with swapPer := false })

/-- The words of a spindle's window that its checkpoint holds (R209). -/
def ckptWords (s : State) (n : Ch) : List (Nat × Nat) :=
  ((List.range 0x63).map (fun k => (0x800 + k, wordBits (s.lw (spWord n.val (0x800 + k)))))).filter (fun e => e.2 != 0)

/-- The checkpoint of a spindle (R209, R218, R237). -/
def takeCkpt (s : State) (n : Ch) : Ckpt :=
  let p := s.sp n
  ⟨ckptWords s n, p.sPrev, p.frozen, p.meas, p.osc, s.get SPn_FBSTAT_lost n.val, p.holdEnd, s.get CHn_PERIOD_CNT_count n.val,
    s.get SPn_OBS_ANG_angle n.val, s.get SPn_OBS_SPD_speed n.val, p.fld⟩

/-- The state with which a period begins is kept for its restoration (R314): the state of `c0`, from before a swap, with the
references and generators of this reload. A held period's state stays until the restoration. -/
def startKeep (s : State) (n : Ch) (c0 : Ckpt) (fb0 : Bool) : State :=
  s.onIf (!(s.sp n).held) (fun s => s.modSp n (fun p =>
    let c := takeCkpt s n
    { p with
      start := some { c with
        words := c0.words.filter (fun e => e.1 < 0x80A) ++ c.words.filter (fun e => 0x80A ≤ e.1), frozen := c0.frozen },
      startSwap := if !p.swapPer then 0 else if s.getB SPn_BANK_fb n.val then 2 else if fb0 then 3 else 1 }))

/-- A channel's reload at its spindle (R227, R231, R244 in their order): due swaps, the profile generators and the
effective limits by the control period just taken, the references, and the new period. -/
def spReload (s : State) (n : Ch) : State :=
  let T : Int := ctrlFt s n
  let c0 := takeCkpt s n
  let fb0 := s.getB SPn_BANK_fb n.val
  let s := swapsDue s n
  let s := s.putB SPn_CTL_spec (specUsed s n && spRuns s n) n.val
  let s := refForm (limStep (pgAll s n T) n T) n
  let s := startKeep s n c0 fb0
  if !spRuns s n then s.modSp n (fun p => { p with isOpen := false })
  else s.modSp n (fun p => { p with
    isOpen := true, posOk := false, spec := 0, waitHit := false, counted := false, rejGate := none, meas := measOpen p.meas })

/-- The position record is there, or none will come (R214). -/
def posReady (s : State) (n : Ch) : Bool := (s.sp n).posOk || !s.getB PIFn_CTL_en n.val

/-- The matrix M_k = M0·T_k at θm (R214), row-major over the nu inputs and eight measurements. -/
def mkMatrix (s : State) (n : Ch) (th : Nat) : List Int × Bool :=
  let b := actBank s n.val
  let h := shapeOf s n.val b
  let cols := (List.range 8).map (fun k =>
    if measHasEps s n k then (transformOut s n th ((List.range 8).map (fun j => if j = k then one36 else 0))).1 else [])
  let l := (List.range h.nu).flatMap (fun i => cols.map (fun t => acc (rowProd s n b 0x2F0 8 i t h.ny) 0))
  (l.map sat36, anySat l)

/-- SPECULATION (R206, R214): angles, predicted outputs, gated prediction, u_spec, ẑ and M_k. -/
def speculate (s : State) (n : Ch) : State :=
  if !(s.sp n).isOpen || (s.sp n).spec != 0 || !s.getB SPn_CTL_spec n.val || !posReady s n then s
  else
    let s := fieldAngles s n
    let th := s.get SPn_ANG_M_angle n.val
    let p := predict s n (s.sp n).sPrev
    let c := control s n p.1.1
    let z := predictMeas s n th p.1.2
    let m := mkMatrix s n th
    let s := satMark (satMark (satMark s n 0 z.2) n 1 p.2) n 3 (c.2 || m.2)
    s.modSp n (fun q => { q with
      spec := 1, per := s.get SPn_PER_per n.val, xp := p.1.1, yp := p.1.2, uSpec := c.1, zh := z.1, mK := m.1 })

/-- SPEC_DONE (R214): step + 4 cycles have passed. -/
def specDone (s : State) (n : Ch) : State := s.onIf ((s.sp n).spec == 1) (fun s => s.modSp n (fun p => { p with spec := 2 }))

/-- The words of the Lathe region that a spindle reads: bank words of its active bank, and its state words. -/
def spReads (s : State) (n : Ch) (g : Nat) : Bool :=
  let w := g % 32768
  g / 32768 == n.val && decide (w < 0x863) && (decide (0x800 ≤ w) || w / 0x400 == actBank s n.val)

/-- A word that the spindle reads holds an uncorrectable error that has been found (R66, R67): bank words of the active bank, or
state words. Keys of `ueKnown` are region · 2^32 + word. -/
def windowBad (s : State) (n : Ch) : Bool :=
  s.mem.ueKnown.any (fun e => e.1 / 2 ^ 32 == 1 && spReads s n (e.1 % 2 ^ 32))

/-- Releases the duties of a period towards the leg generator (R174, R206); an error response to the spindle blocks the
period's commit (R66). -/
def release (s : State) (n : Ch) (duty : List Nat) : State :=
  let bad := windowBad s n
  let s := s.onIf bad (fun s => s.modCarr (.ch n) (fun c => { c with blocked := true }))
  s.modSp n (fun p => { p with
    out := if bad then none else some ⟨p.per, duty, p.gen, true⟩, gen := (p.gen + 1) % 65536, isOpen := false, rejGate := none })

/-- The words of a spindle's window that a spindle's state takes (R209): x̂, u_a and r, and the generators' states. -/
def stateWords : List Nat :=
  List.range' 0x800 12 ++ [0x844, 0x845, 0x84C, 0x84D, 0x854, 0x855, 0x85C, 0x85D]

/-- The state that a checkpoint holds is loaded into a spindle (R314). -/
def loadCkpt (s : State) (n : Ch) (c : Ckpt) : State :=
  let s := s.forL stateWords (fun k s => s.putLw (spWord n.val k) (bitsWord (sget 0 c.words k)))
  let s := (s.put SPn_OBS_ANG_angle c.obsAng n.val).put SPn_OBS_SPD_speed c.obsSpd n.val
  frzShow (s.modSp n (fun p => { p with sPrev := c.sPrev, frozen := c.frozen, osc := c.osc, fld := c.fld })) n

/-- The outputs y of the period (R201, R203): TRANSFORM of the measurements, of which one that is not present stands at its prediction
(DEDUCED, assumption 114), with whether a result saturated. -/
def measOutputs (s : State) (n : Ch) (yp : List Int) : List Int × Bool :=
  let th := s.get SPn_ANG_M_angle n.val
  let z := (predictMeas s n th yp).1
  let r := transformOut s n th ((List.finRange 8).map (fun k =>
    if (s.sp n).present.testBit k.val then (s.sp n).meas[k].val else z.getD k.val 0))
  (r.1.take (shapeOf s n.val (actBank s n.val)).ny, r.2)

/-- The work after a commit (R218, R227, R228, R246, R255, R259 to R263): the state estimate, the live words, the freeze
flags, field weakening, observer, watches, grid loop, detector and checkpoint. -/
def afterCommit (s : State) (n : Ch) (x yp e eps u uLim : List Int) (flags : Nat) (vdc : Int) : State :=
  let T : Int := ctrlFt s n
  let b := actBank s n.val
  let h := shapeOf s n.val b
  let uOld := uApp s n
  let y := measOutputs s n yp
  let s := satMark s n 0 y.2
  let s := s.putPairs n.val 0x800 8 ((List.range 16).map (fun i => if i < h.nx then x.getD i 0 else (xHat s n).getD i 0))
  let s := s.putPairs n.val 0x808 2 ((List.range 4).map (fun j => if j < h.nu then uLim.getD j 0 else 0))
  let s := s.putPairs n.val 0x80C 4 y.1
  let s := s.putPairs n.val 0x810 4 eps
  let s := s.modSp n (fun p => { p with
    sPrev := flags,
    frozen := (List.range 16).foldl (fun f i => if p.frozen.testBit i && flags.testBit (h.intOut i) then f + 2 ^ i else f) 0,
    eps := eps })
  let s := s.onIf (dtcDrives s n) (fun s => s.modSp n (fun p => { p with frozen := p.frozen ||| h.mask }))
  let s := frzShow s n
  let s := fieldWeaken s n (u.getD 0 0) (u.getD 1 0) vdc T
  let s := observerUpdate s n (e.getD 0 0) (e.getD 1 0) T
  let q := unpark (s.get SPn_ANG_U_angle n.val) (uLim.getD 0 0) (uLim.getD 1 0)
  let s := s.onIf (!dtcDrives s n) (fun s => modObs s n (fun o => { o with uPrev := ⟨sat36 q.1, sat36 q.2⟩ }))
  let s := fluxWatch (lockedWatch s n T) n (uOld.getD 1 0) T
  let s := gridUpdate s n T
  let s := oscDetect s n
  let c := takeCkpt s n
  s.modSp n (fun p => { p with ckpt := some c })

/-- The innovation windows that the period's innovations exceed. -/
def beyondWin (s : State) (n : Ch) (eps : List Int) : List Nat :=
  (List.range 8).filter (fun i => decide (epsWin s n i < |eps.getD i 0|))

/-- FAST_PATH (R215, R216): the innovations, the corrected input, LIMIT and MODULATE; acceptance releases the duties,
rejection waits for the full evaluation. -/
def fastPath (s : State) (n : Ch) : State :=
  let p0 := s.sp n
  if !p0.isOpen || p0.spec != 2 || p0.rejGate.isSome || !(allLanded s n || p0.waitHit) then s
  else
    let s := account s n
    let b := actBank s n.val
    let h := shapeOf s n.val b
    let p := s.sp n
    let ev := innovations s n p.zh
    let eps := ev.1
    let us := (List.range h.nu).map (fun i =>
      acc ((List.range 8).map (fun k => (-(p.mK.getD (8 * i + k) 0), eps.getD k 0))) (p.uSpec.getD i 0))
    let u := us.map sat36
    let vdc := vdcOf s n
    let l := limit s n vdc u
    let s := satMark (satMark (satMark s n 2 ev.2) n 3 (anySat us)) n 4 (l.2 != 0)
    let md := modulate s n vdc l.1
    let s := md.2
    let far := beyondWin s n eps
    let cause := (if far.isEmpty then 0 else 1) + (if l.2 != p.sPrev then 2 else 0) + (if p.swapPer then 4 else 0)
    if cause = 0 then
      let s := release (s.incWrap SPn_SPEC_ACC_count n.val) n md.1
      let e := transformOut s n (s.get SPn_ANG_M_angle n.val) eps
      let x := correct s n p.xp (e.1.take h.ny)
      let s := satMark s n 2 (x.2 || e.2)
      afterCommit s n x.1 p.yp e.1 eps u l.1 l.2 vdc
    else
      let s := s.onIf (!far.isEmpty) (fun s => s.incSat SPn_SPEC_REJ_innov n.val)
      let s := s.onIf (l.2 != p.sPrev) (fun s => s.incSat SPn_SPEC_REJ_sat n.val)
      let s := s.onIf p.swapPer (fun s => s.incSat SPn_SPEC_REJ_swap n.val)
      let s := ((s.put SPn_SPEC_LAST_period (s.get CHn_PERIOD_CNT_count n.val) n.val).put SPn_SPEC_LAST_cause cause n.val).put
        SPn_SPEC_LAST_meas (far.headD 0) n.val
      let s := s.onIf (!far.isEmpty) (fun s => s.logRate 0x3110 n.val (10 * tkMs) [n.val])
      s.modSp n (fun q => { q with rejGate := some l.2, eps := eps })

/-- A full evaluation with gating flags and innovations clipped to their windows (R216, R219). -/
def fullEval (s : State) (n : Ch) (gate : Nat) (eps0 : List Int) : State :=
  let b := actBank s n.val
  let h := shapeOf s n.val b
  let eps := (List.range 8).map (fun i => satTo (-(epsWin s n i)) (epsWin s n i) (eps0.getD i 0))
  let p := predict s n gate
  let e := transformOut s n (s.get SPn_ANG_M_angle n.val) eps
  let x := correct s n p.1.1 (e.1.take h.ny)
  let c := control s n x.1
  let vdc := vdcOf s n
  let l := limit s n vdc c.1
  let s := satMark (satMark (satMark (satMark s n 1 p.2) n 2 (x.2 || e.2)) n 3 c.2) n 4 (l.2 != 0)
  let md := modulate s n vdc l.1
  let s := release md.2 n md.1
  afterCommit s n x.1 p.1.2 e.1 eps c.1 l.1 l.2 vdc

/-- FULL_EVAL_DONE (R216, R219): the evaluation of a rejected period, or of a period without speculation. -/
def fullEvalDone (s : State) (n : Ch) : State :=
  let p0 := s.sp n
  match p0.rejGate with
  | some g => fullEval s n g p0.eps
  | none =>
    if !p0.isOpen || s.getB SPn_CTL_spec n.val || !(allLanded s n || p0.waitHit) then s
    else
      let s := fieldAngles (account s n) n
      let s := s.modSp n (fun q => { q with per := s.get SPn_PER_per n.val })
      let pr := predict s n (s.sp n).sPrev
      let z := predictMeas s n (s.get SPn_ANG_M_angle n.val) pr.1.2
      let ev := innovations s n z.1
      let s := satMark (satMark s n 0 z.2) n 2 ev.2
      let s := s.onIf (!(beyondWin s n ev.1).isEmpty) (fun s => s.logRate 0x3110 n.val (10 * tkMs) [n.val])
      fullEval s n (s.sp n).sPrev ev.1

/-- WAIT_LIMIT (R220): what has not landed is missing; the evaluation starts. -/
def waitLimit (s : State) (n : Ch) : State :=
  s.onIf (s.sp n).isOpen (fun s => account (s.modSp n (fun p => { p with waitHit := true })) n)

/-- FB_HOLD_EXPIRED (R223). While the period's measurements are not accounted for, a return in this period comes first (R232). -/
def fbHoldExpired (s : State) (n : Ch) : State :=
  if (s.sp n).holdEnd.isNone then s
  else if (s.sp n).isOpen && !(s.sp n).counted then s.modSp n (fun p => { p with fbDue := true })
  else fbExpire (holdClear s n) n

/-- A window belongs to the period in which it closes (R12): the result of one that closed before the period's reload has missed its own
period, and is ignored (R220). -/
def inPeriod (s : State) (n : Ch) (close : Nat) : Bool := decide ((s.carrier (.ch n)).reloadFt ≤ close)

/-- An agreed input lands at a spindle (R219, R220): the first of its kind that Chuck has released. -/
def measLanding (s : State) (n : Ch) (what : Landing) : State :=
  let is (e : ChuckItem) : Bool := e.pair == 2 + n.val && (match e.val, what with
    | .result k _ _ _ _, .meas j => k == j.val
    | .position _, .pos => true
    | .further _, .pos => true
    | _, _ => false)
  match s.landing.find? is with
  | none => s
  | some e =>
    let s := { s with landing := s.landing.eraseP is }
    match e.val with
    | .result k v fl org close =>
      let s := paceLand s n org
      if h : k < 8 then s.onIf (inPeriod s n close) (fun s => landMeas s n ⟨k, h⟩ v fl) else s
    | .position r => s.modSp n (fun p => { p with pRec := some r, posOk := true })
    | .further r => s.modSp n (fun p => { p with pRec2 := some r })
    | _ => s

/-- A channel's spindle begins to run (R213, R237, R260): the state, the flags, the limits and the flux estimate. Until a Vdc has landed
the last one is the bank's nominal (R205; DESIGN CHOICE, assumption 115). -/
def spInit (s : State) (n : Ch) : State :=
  let b := actBank s n.val
  let s := s.onIf (s.getB SPn_CTL_x0_load n.val) (fun s =>
    s.putPairs n.val 0x800 8 (s.getPairs n.val (b * 0x400 + 8) 8))
  let s := s.putPairs n.val 0x808 2 [0, 0, 0, 0]
  let s := s.modSp n (fun p => { p with
    sPrev := 0, frozen := 0, isOpen := false, spec := 0, rejGate := none, swapPer := false, out := none, posOk := false,
    meas := p.meas.map (fun q => { q with miss := 0, same := 0, good := 0 }),
    fbDue := false, vdc := if p.vdc = 0 then (bankWord s n.val b 3).y else p.vdc })
  let s := frzShow s n
  let s := s.putB SPn_CTL_spec (specUsed s n) n.val
  let s := fluxRestart s n
  let s := modWatch s n (fun w => { w with lrOn := false, lrT := 0, lrLow := 0, keOut := 0 })
  limEnter s n

/-- A channel's spindle enters RUN: the task it begins with (R253). -/
def spEnter (s : State) (n : Ch) : State := runTask (spInit s n) n

end Sys2Proof.Machine
end

