-- ==== Sys2Proof/Machine/Links.lean ====
section
/-! DEFINITION. The link monitors, the chopper, precharge and discharge (R284 to R295). A monitor's samples come with the
commands of this chapter, oldest first (assumption 40). -/

namespace Sys2Proof.Machine

/-- A commit of the protection logic to auxiliary leg 12 + a, where `LEGk_CARR.src` selects it (R178, R287): a ratio duty, the shadow
period, and a generation number that the spec does not give (a free value). Inside the guard it is taken one reload later. -/
def protCommit (s : State) (a : Fin 4) (duty : Nat) : State :=
  if s.get LEGk_CARR_src (12 + a.val) != 1 then s
  else auxCommit s.freeNext a ⟨s.get LEGk_PER_per (12 + a.val), [duty], s.freeVal % 65536, true⟩

/-- A discharge drives the chopper (R293). -/
def disChops (s : State) (l : Lnk) : Bool :=
  s.get PRT_LNKl_STAT_lstate l.val == 3 && s.get PRT_LNKl_DIS_dis_mode l.val != 1

/-- The duty the monitor commits to its chopper (R287, R293). -/
def chopDuty (s : State) (l : Lnk) : Nat :=
  let k := s.links[l]
  let off := s.getS PRT_LNKl_CHOP_chop_off l.val
  let full := s.getS PRT_LNKl_CHOP_chop_full l.val
  if disChops s l then 0x10000
  else if s.get PRT_LNKl_CFG_chop_mode l.val = 0 then (if k.hyst then 0x10000 else 0)
  else (satTo 0 0x10000 (qdiv ((mean16 k - 16 * off) * 65536) (16 * (full - off)))).toNat

/-- The monitor commits to its chopper leg. -/
def chopCommit (s : State) (l : Lnk) : State :=
  if !s.getB PRT_LNKl_CFG_en l.val || !s.getB PRT_LNKl_CFG_chop_en l.val then s
  else
    let d := chopDuty s l
    (protCommit s (chopLeg s l) d).modLink l (fun k => { k with chopDuty := d })

/-- CHOP_FAIL is declared (R288): once, with the clamp of R289 on every member. -/
def chopFail (s : State) (l : Lnk) : State :=
  if s.getB PRT_LNKl_STAT_chop_fail l.val then s
  else
    let s := ((s.put PRT_LNKl_STAT_chop_fail 1 l.val).logEv 0x4003 [l.val]).raise (lnkSrc l.val 2) l.val
    let s := (s.put PRT_LNKl_STAT_motoring_only 1 l.val).logEv 0x4004 [l.val]
    s.forL (members s l) (fun n s => s.put CHn_STATE_motoring_only 1 n.val)

/-- `chop_fail` and the clamp are cleared while the link is at or below `chop_off` (R289). -/
def motoringClear (s : State) (n : Ch) : State :=
  match linkOf s n with
  | none => s
  | some l =>
    if decide (s.links[l].hist.headD (-32768) ≤ s.getS PRT_LNKl_CHOP_chop_off l.val) then
      let s := (s.put PRT_LNKl_STAT_chop_fail 0 l.val).put PRT_LNKl_STAT_motoring_only 0 l.val
      s.forL (members s l) (fun m s => s.put CHn_STATE_motoring_only 0 m.val)
    else s

/-- A reload of an auxiliary leg that takes a duty of 0 ends the chopper's on time. -/
def chopReload (s : State) (a : Fin 4) : State :=
  s.forL (List.finRange 2) (fun l s =>
    s.onIf (s.getB PRT_LNKl_CFG_en l.val && s.getB PRT_LNKl_CFG_chop_en l.val && decide (chopLeg s l = a)
        && (s.carrier (.aux a)).act.duty.headD 0 == 0)
      (fun s => (s.put PRT_LNKl_STAT_chop 0 l.val).modLink l (fun q => { q with onTs := none })))

/-- Threshold `t` of a monitor (0 OV_WARN, 1 CHOP_ON, 2 OV_ASC) asserts (R286 to R290). -/
def linkAssert (s : State) (l : Lnk) (t : Fin 3) : State :=
  match t with
  | 0 => (s.put PRT_LNKl_STAT_warn 1 l.val).logRate 0x4001 l.val (10 * tkMs) [l.val]
  | 1 =>
    if !s.getB PRT_LNKl_CFG_chop_en l.val then chopFail s l
    else if s.get PRT_LNKl_CFG_chop_mode l.val = 0 then chopCommit (s.modLink l (fun k => { k with hyst := true })) l
    else s
  | 2 =>
    let s := ((s.put PRT_LNKl_STAT_ov_asc 1 l.val).logEv 0x4005 [l.val]).raise (lnkSrc l.val 0) l.val
    s.forL (members s l) (fun n s => safeRequest s n (lnkSrc l.val 0))

/-- The code of a threshold. -/
def linkThr (s : State) (l : Lnk) (t : Fin 3) : Int :=
  match t with
  | 0 => s.getS PRT_LNKl_OV1_ov_warn l.val
  | 1 => s.getS PRT_LNKl_OV1_chop_on l.val
  | 2 => s.getS PRT_LNKl_OV2_ov_asc l.val

/-- One sample against one filtered threshold (R284). -/
def linkFilter (s : State) (l : Lnk) (v : Int) (t : Fin 3) : State :=
  if linkThr s l t ≤ v then
    let c := s.links[l].cnt[t] + 1
    let F := s.get PRT_LNKl_FILT_ov_filt l.val
    let s := s.modLink l (fun k => { k with cnt := k.cnt.set t.val (min c 255) })
    if decide (F ≤ c) && !s.links[l].lvl[t] then linkAssert (s.modLink l (fun k => { k with lvl := k.lvl.set t.val true })) l t else s
  else
    let s := s.modLink l (fun k => { k with cnt := k.cnt.set t.val 0, lvl := k.lvl.set t.val false })
    s.onIf (t.val == 0) (fun s => s.put PRT_LNKl_STAT_warn 0 l.val)

/-- One sample of a monitor's voltage input (R284 to R290). Every sample at or above OV_HARD is an immediate safe request to every member
(R288). -/
def linkSample (s : State) (l : Lnk) (v : Int) : State :=
  if !s.getB PRT_LNKl_CFG_en l.val then s
  else
    let s := s.modLink l (fun k => { k with hist := (v :: k.hist).take 16, got := k.got + 1, since := k.since + 1, starve := false })
    let s := s.putS PRT_LNKl_STAT_vmean (roundHE s.links[l].hist.sum s.links[l].hist.length) l.val
    let s := s.onIf (decide (s.getS PRT_LNKl_VMAX_vmax l.val < v)) (fun s => s.putS PRT_LNKl_VMAX_vmax v l.val)
    let s := s.forL (List.finRange 3) (fun t s => linkFilter s l v t)
    let beyond := decide (s.getS PRT_LNKl_OV2_ov_hard l.val ≤ v)
    let s := s.onIf (beyond && !s.links[l].hard) (fun s =>
      ((s.put PRT_LNKl_STAT_ov_hard 1 l.val).logEv 0x4006 [l.val]).raise (lnkSrc l.val 1) l.val)
    let s := s.modLink l (fun k => { k with hard := beyond })
    let s := s.onIf beyond (fun s => s.forL (members s l) (fun n s => safeRequest s n (lnkSrc l.val 1)))
    if s.links[l].hyst && decide (v ≤ s.getS PRT_LNKl_CHOP_chop_off l.val) then
      chopCommit (s.modLink l (fun k => { k with hyst := false })) l
    else s

/-- A run of samples. -/
def linkSamples (s : State) (l : Lnk) (codes : List Int) : State := s.forL codes (fun v s => linkSample s l v)

/-- The order of the thresholds that setting `en` checks (R284). -/
def linkOrderOk (s : State) (l : Lnk) : Bool :=
  let dis := s.getS PRT_LNKl_DIS_dis_v l.val
  let pre := s.getS PRT_LNKl_PRE_pre_done l.val
  let w := s.getS PRT_LNKl_OV1_ov_warn l.val
  let on := s.getS PRT_LNKl_OV1_chop_on l.val
  let asc := s.getS PRT_LNKl_OV2_ov_asc l.val
  let hard := s.getS PRT_LNKl_OV2_ov_hard l.val
  let off := s.getS PRT_LNKl_CHOP_chop_off l.val
  let full := s.getS PRT_LNKl_CHOP_chop_full l.val
  decide (dis < pre) && decide (pre < w) && decide (w < on) && decide (on < asc) && decide (asc < hard)
    && decide (off < on)
    && (!(s.getB PRT_LNKl_CFG_chop_en l.val && s.getB PRT_LNKl_CFG_chop_mode l.val) || decide (on < full))

/-- A monitor begins to supervise when `en` is set. -/
def linkStart (s : State) (l : Lnk) : State :=
  s.modLink l (fun _ => ⟨[], 0, false, Vector.replicate 3 0, Vector.replicate 3 false, false, false, 0, none, 0, 0, none⟩)

/-! ### Precharge and discharge -/

/-- The precharge leg is committed a duty (R292). -/
def preCommit (s : State) (l : Lnk) (duty : Nat) : State :=
  s.onIf (s.getB PRT_LNKl_CFG_pre_en l.val && decide (s.get TLS_STAT_role ≤ 1)) (fun s => protCommit s (auxOf (s.get PRT_LNKl_CFG_pre_leg l.val)) duty)

/-- A precharge begins: the link PRECHARGING, its members in OFF to PRECHARGE (R292). -/
def preStart (s : State) (l : Lnk) : State :=
  let s := (s.put PRT_LNKl_STAT_lstate 1 l.val).modLink l (fun k => { k with since := 0, preTs := none })
  let s := s.forL (members s l) (fun m s => if s.chState m.val = 0 then setState s m 1 0xFF else s)
  preCommit s l 0x10000

/-- A precharge ends without success (R292): the leg off, the link DISCHARGED, its members in PRECHARGE to OFF. -/
def preAbandon (s : State) (l : Lnk) (cause : Nat) : State :=
  let s := (preCommit s l 0).put PRT_LNKl_STAT_lstate 0 l.val
  s.forL (members s l) (fun m s => if s.chState m.val = 1 then setState s m 0 cause else s)

/-- The unit is STANDBY or CLAIMING: its links follow its own measurements (R359). -/
def shadowLinks (s : State) : Bool := decide (2 ≤ s.get TLS_STAT_role)

/-- PRECHARGE_DONE (R292): the samples have stayed at or above `pre_done` for 5 ms. In a STANDBY or CLAIMING unit the link
becomes CHARGED by that alone (R359). -/
def preDone (s : State) (l : Lnk) : State :=
  let k := s.links[l]
  if shadowLinks s then
    s.onIf (s.getB PRT_LNKl_CFG_en l.val && decide (s.get PRT_LNKl_STAT_lstate l.val ≤ 1) && decide (0 < k.got)
        && decide (s.getS PRT_LNKl_PRE_pre_done l.val ≤ k.hist.headD (-32768)))
      (fun s => s.put PRT_LNKl_STAT_lstate 2 l.val)
  else
  if s.get PRT_LNKl_STAT_lstate l.val = 1 && 0 < k.since
      && decide (s.getS PRT_LNKl_PRE_pre_done l.val ≤ k.hist.headD (-32768)) then
    let s := (s.put PRT_LNKl_STAT_lstate 2 l.val).modLink l (fun k => { k with preTs := some s.now })
    let s := s.forL (members s l) (fun m s => if s.chState m.val = 1 then setState s m 2 0 else s)
    s.logEv 0x4007 [l.val]
  else s

/-- A discharge ends with the link DISCHARGED and every member in OFF (R295). -/
def disEnd (s : State) (l : Lnk) : State :=
  let s := endDischarge s l 0
  s.forL (members s l) (fun m s => if s.chState m.val = 5 then setState s m 0 0 else s)

/-- DIS_FAIL is declared (R295). -/
def disFail (s : State) (l : Lnk) : State :=
  ((s.put PRT_LNKl_STAT_dis_fail 1 l.val).logEv 0x400A [l.val]).raise (lnkSrc l.val 4) l.val

/-- A discharge begins (R293). -/
def disStart (s : State) (l : Lnk) : State :=
  let mode := s.get PRT_LNKl_DIS_dis_mode l.val
  let s := (s.put PRT_LNKl_STAT_lstate 3 l.val).modLink l (fun k => { k with since := 0 })
  let part := (members s l).filter (fun m => mode != 0 && (srcSpeed s m).isSome)
  let s := s.forL (members s l) (fun m s => if s.chState m.val = 5 then s else setState s m 5 0xFF)
  let s := s.forL part (fun m s => spInit (s.modChan m (fun c => { c with windings := true, outEn := false })) m)
  if mode = 1 && part.isEmpty then disEnd (disFail s l) l else s

/-- DIS_DONE (R295): the samples have stayed at or below `dis_v` for 1 ms. A CHARGED link of a STANDBY or CLAIMING unit is
DISCHARGED by that (R359). -/
def disDone (s : State) (l : Lnk) : State :=
  let k := s.links[l]
  if shadowLinks s && s.get PRT_LNKl_STAT_lstate l.val == 2 then
    s.onIf (decide (0 < k.got) && decide (k.hist.headD 32767 ≤ s.getS PRT_LNKl_DIS_dis_v l.val))
      (fun s => s.put PRT_LNKl_STAT_lstate 0 l.val)
  else
  if s.get PRT_LNKl_STAT_lstate l.val = 3 && 0 < k.since
      && decide (k.hist.headD 32767 ≤ s.getS PRT_LNKl_DIS_dis_v l.val) then
    disEnd (s.logEv 0x4009 [l.val]) l
  else s

/-! ### Meanings -/

/-- OV_WARN (R286): the samples with which the filter is met. -/
def execOvWarn (l : Lnk) (codes : List Int) (s : State) : Out := live s (fun s => linkSamples s l codes)
/-- CHOP_ON (R287). -/
def execChopOn (l : Lnk) (codes : List Int) (s : State) : Out := live s (fun s => linkSamples s l codes)
/-- CHOP_OFF (R287): the first sample at or below `chop_off`. -/
def execChopOff (l : Lnk) (codes : List Int) (s : State) : Out := live s (fun s => linkSamples s l codes)
/-- OV_ASC (R290). -/
def execOvAsc (l : Lnk) (codes : List Int) (s : State) : Out := live s (fun s => linkSamples s l codes)
/-- OV_HARD (R290). -/
def execOvHard (l : Lnk) (codes : List Int) (s : State) : Out := live s (fun s => linkSamples s l codes)
/-- LINK_THRESHOLD_DEASSERT (R284): the first sample below a threshold. -/
def execLinkThresholdDeassert (l : Lnk) (codes : List Int) (s : State) : Out := live s (fun s => linkSamples s l codes)

/-- LINK_STARVED (R285): no sample for 5 µs while `en` is 1. -/
def execLinkStarved (l : Lnk) (s : State) : Out :=
  live s (fun s => s.onIf (s.getB PRT_LNKl_CFG_en l.val) (fun s =>
    (((s.modLink l (fun k => { k with starve := true })).put PRT_LNKl_STAT_starved 1 l.val).logEv 0x400B [l.val]).raise
      (lnkSrc l.val 5) l.val))

/-- CHOP_COMMIT (R287): 16 tk before a reload of the chopper leg, or its carrier zero in COT and CFT. -/
def execChopCommit (l : Lnk) (s : State) : Out := live s (fun s => chopCommit s l)

/-- CHOP_CONFIRM (R288): `chop_confirm` after switch-on; `ichop` is the last sample of the current input since then. -/
def execChopConfirm (l : Lnk) (ichop : Option Int) (s : State) : Out :=
  live s (fun s =>
    let k := s.links[l]
    let noI := s.getB PRT_LNKl_CFG_ichop_en l.val && (match ichop with
      | none => true
      | some i => decide (i < s.getS PRT_LNKl_CHK_ichop_min l.val))
    s.onIf (s.getB PRT_LNKl_CFG_en l.val && k.onTs.isSome && s.getB PRT_LNKl_STAT_chop l.val
        && (decide (k.von < mean16 k) || noI))
      (fun s => chopFail s l))

/-- PRECHARGE_DONE (R292). -/
def execPrechargeDone (l : Lnk) (codes : List Int) (s : State) : Out := live s (fun s => preDone (linkSamples s l codes) l)

/-- PRECHARGE_FAIL (R292): `pre_time` has passed. -/
def execPrechargeFail (l : Lnk) (s : State) : Out :=
  live s (fun s => s.onIf (s.get PRT_LNKl_STAT_lstate l.val == 1) (fun s =>
    (((preAbandon s l 0).put PRT_LNKl_STAT_pre_fail 1 l.val).logEv 0x4008 [l.val]).raise (lnkSrc l.val 3) l.val))

/-- PRECHARGE_LEG_OFF (R292): 100 ms after the link became CHARGED. -/
def execPrechargeLegOff (l : Lnk) (s : State) : Out :=
  live s (fun s => s.onIf (s.links[l].preTs.isSome) (fun s =>
    (preCommit s l 0).modLink l (fun k => { k with preTs := none })))

/-- DIS_DONE (R295). -/
def execDisDone (l : Lnk) (codes : List Int) (s : State) : Out := live s (fun s => disDone (linkSamples s l codes) l)

/-- DIS_FAIL (R295): `dis_time` has passed. -/
def execDisFail (l : Lnk) (s : State) : Out :=
  live s (fun s => s.onIf (s.get PRT_LNKl_STAT_lstate l.val == 3) (fun s => disFail s l))

/-- DIS_TIMEOUT (R295): 4 × `dis_time` have passed; the discharge ends. -/
def execDisTimeout (l : Lnk) (s : State) : Out :=
  live s (fun s => s.onIf (s.get PRT_LNKl_STAT_lstate l.val == 3) (fun s => disEnd s l))

/-- DUTY_EDGE (R164 to R171): the next planned command edge of leg k occurs. -/
def execDutyEdge (k : Leg) (s : State) : Out :=
  live s (fun s =>
    match s.gen.legs[k].edges with
    | [] => s
    | e :: t => (s.modLeg k (fun g => { g with cmd := e.2, edges := t })).legApply true false k)

end Sys2Proof.Machine
end

