-- ==== Sys2Proof/Machine/Crypto.lean ====
section
/-! DEFINITION. The published algorithms that the spec names: SHA-256, AES and AES-CMAC, AES counter mode, ECDSA P-256 verification, and
the CRCs of R375, R415 and R437. Byte strings are lists of numbers below 256. -/

namespace Sys2Proof.Machine

/-- The big-endian number of a byte string. -/
def beNat (l : List Nat) : Nat := l.foldl (fun v b => 256 * v + b) 0
/-- The little-endian number of a byte string. -/
def leNat (l : List Nat) : Nat := l.foldr (fun b v => b + 256 * v) 0
/-- A number as `n` bytes, big-endian. -/
def beBytes (n v : Nat) : List Nat := (List.range n).map (fun i => v / 256 ^ (n - 1 - i) % 256)
/-- A number as `n` bytes, little-endian. -/
def leBytes (n v : Nat) : List Nat := (List.range n).map (fun i => v / 256 ^ i % 256)

/-- Cuts a list into pieces of `n`. -/
def chunks {α : Type} (n : Nat) : Nat → List α → List (List α)
  | 0, _ => []
  | f + 1, l => if l.length = 0 then [] else l.take n :: chunks n f (l.drop n)

/-! ### SHA-256 -/

def shaK : List Nat :=
  [0x428a2f98, 0x71374491, 0xb5c0fbcf, 0xe9b5dba5, 0x3956c25b, 0x59f111f1, 0x923f82a4, 0xab1c5ed5] ++
  [0xd807aa98, 0x12835b01, 0x243185be, 0x550c7dc3, 0x72be5d74, 0x80deb1fe, 0x9bdc06a7, 0xc19bf174] ++
  [0xe49b69c1, 0xefbe4786, 0x0fc19dc6, 0x240ca1cc, 0x2de92c6f, 0x4a7484aa, 0x5cb0a9dc, 0x76f988da] ++
  [0x983e5152, 0xa831c66d, 0xb00327c8, 0xbf597fc7, 0xc6e00bf3, 0xd5a79147, 0x06ca6351, 0x14292967] ++
  [0x27b70a85, 0x2e1b2138, 0x4d2c6dfc, 0x53380d13, 0x650a7354, 0x766a0abb, 0x81c2c92e, 0x92722c85] ++
  [0xa2bfe8a1, 0xa81a664b, 0xc24b8b70, 0xc76c51a3, 0xd192e819, 0xd6990624, 0xf40e3585, 0x106aa070] ++
  [0x19a4c116, 0x1e376c08, 0x2748774c, 0x34b0bcb5, 0x391c0cb3, 0x4ed8aa4a, 0x5b9cca4f, 0x682e6ff3] ++
  [0x748f82ee, 0x78a5636f, 0x84c87814, 0x8cc70208, 0x90befffa, 0xa4506ceb, 0xbef9a3f7, 0xc67178f2]

/-- The initial hash value. -/
def shaH : List Nat :=
  [0x6a09e667, 0xbb67ae85, 0x3c6ef372, 0xa54ff53a, 0x510e527f, 0x9b05688c, 0x1f83d9ab, 0x5be0cd19]

/-- Rotates a 32-bit word right. -/
def ror32 (k x : Nat) : Nat := (x >>> k ||| x <<< (32 - k)) % 2 ^ 32

/-- The message schedule, newest word first. -/
def shaW : Nat → List Nat → List Nat
  | 0, w => w
  | f + 1, w =>
    let a := w.getD 1 0
    let b := w.getD 14 0
    let s1 := ror32 17 a ^^^ ror32 19 a ^^^ a >>> 10
    let s0 := ror32 7 b ^^^ ror32 18 b ^^^ b >>> 3
    shaW f ((w.getD 15 0 + s0 + w.getD 6 0 + s1) % 2 ^ 32 :: w)

/-- One round. -/
def shaRound (h : List Nat) (kw : Nat) : List Nat :=
  match h with
  | [a, b, c, d, e, f, g, k] =>
    let s1 := ror32 6 e ^^^ ror32 11 e ^^^ ror32 25 e
    let ch := (e &&& f) ^^^ ((2 ^ 32 - 1 - e) &&& g)
    let t1 := k + s1 + ch + kw
    let s0 := ror32 2 a ^^^ ror32 13 a ^^^ ror32 22 a
    let mj := (a &&& b) ^^^ (a &&& c) ^^^ (b &&& c)
    [(t1 + s0 + mj) % 2 ^ 32, a, b, c, (d + t1) % 2 ^ 32, e, f, g]
  | h => h

/-- One block of 64 bytes. -/
def shaBlock (h : List Nat) (blk : List Nat) : List Nat :=
  let w := (shaW 48 (((chunks 4 16 blk).map beNat).reverse)).reverse
  let r := (List.zipWith (· + ·) shaK w).foldl shaRound h
  List.zipWith (fun a b => (a + b) % 2 ^ 32) h r

/-- SHA-256 of a byte string, 32 bytes. -/
def sha256 (m : List Nat) : List Nat :=
  let pad := (119 - m.length % 64) % 64
  let p := m ++ [0x80] ++ List.replicate pad 0 ++ beBytes 8 (8 * m.length)
  ((chunks 64 (p.length / 64 + 1) p).foldl shaBlock shaH).flatMap (beBytes 4)

/-! ### AES -/

/-- Doubling in GF(2^8). -/
def xt (b : Nat) : Nat := if b < 128 then 2 * b else (2 * b) ^^^ 0x11B

/-- The product in GF(2^8). -/
def gmul : Nat → Nat → Nat → Nat
  | 0, _, _ => 0
  | f + 1, a, b => (if b % 2 = 1 then a else 0) ^^^ gmul f (xt a) (b / 2)

/-- The square chain that gives a^254, the inverse. -/
def ginv (a : Nat) : Nat :=
  let sq := fun x => gmul 8 x x
  let a2 := sq a
  let a3 := gmul 8 a2 a
  let a6 := sq a3
  let a12 := sq a6
  let a15 := gmul 8 a12 a3
  let a30 := sq a15
  let a60 := sq a30
  let a63 := gmul 8 a60 a3
  let a126 := sq a63
  let a127 := gmul 8 a126 a
  sq a127

/-- Rotates a byte left. -/
def rol8 (k b : Nat) : Nat := (b <<< k ||| b >>> (8 - k)) % 256

/-- The S-box. -/
def sbox (a : Nat) : Nat :=
  let b := ginv a
  b ^^^ rol8 1 b ^^^ rol8 2 b ^^^ rol8 3 b ^^^ rol8 4 b ^^^ 0x63

/-- The S-box as a table. -/
def sboxT : List Nat := (List.range 256).map sbox

/-- The expanded key as words, newest first; `nk` is the key's words. -/
def keyExp (sb : List Nat) (nk : Nat) : Nat → Nat → Nat → List (List Nat) → List (List Nat)
  | 0, _, _, w => w
  | f + 1, i, rc, w =>
    let t := w.headD []
    let old := w.getD (nk - 1) []
    let sub := fun l : List Nat => l.map (fun b => sb.getD b 0)
    let t' := if i % nk = 0 then (match sub (t.drop 1 ++ t.take 1) with
        | a :: r => (a ^^^ rc) :: r
        | [] => [])
      else if nk = 8 && i % nk == 4 then sub t else t
    keyExp sb nk f (i + 1) (if i % nk = 0 then xt rc else rc) (List.zipWith (· ^^^ ·) old t' :: w)

/-- ShiftRows on the 16 bytes of the state, column by column. -/
def shiftRows (st : List Nat) : List Nat := (List.range 16).map (fun i => st.getD ((i + 4 * (i % 4)) % 16) 0)

/-- MixColumns. -/
def mixCols (st : List Nat) : List Nat :=
  (chunks 4 4 st).flatMap (fun c => (List.range 4).map (fun r =>
    let g := fun k => c.getD ((r + k) % 4) 0
    xt (g 0) ^^^ (xt (g 1) ^^^ g 1) ^^^ g 2 ^^^ g 3))

/-- AES encryption of one block under a key of 16 or 32 bytes. -/
def aesEnc (key blk : List Nat) : List Nat :=
  let sb := sboxT
  let nk := key.length / 4
  let nr := nk + 6
  let w := (keyExp sb nk (4 * (nr + 1) - nk) nk 1 (chunks 4 nk key).reverse).reverse
  let ks := (chunks 4 (nr + 1) w).map List.flatten
  let add := fun a b : List Nat => List.zipWith (· ^^^ ·) a b
  let st := add blk (ks.headD [])
  let st := ((ks.drop 1).take (nr - 1)).foldl (fun st k => add (mixCols (shiftRows (st.map (fun b => sb.getD b 0)))) k) st
  add (shiftRows (st.map (fun b => sb.getD b 0))) (ks.getD nr [])

/-- Doubling of a 128-bit block in CMAC. -/
def cmacDbl (l : List Nat) : List Nat :=
  let v := beNat l
  beBytes 16 (if v < 2 ^ 127 then 2 * v else (2 * v) ^^^ (2 ^ 128 + 0x87))

/-- AES-CMAC, 16 bytes. -/
def aesCmac (key m : List Nat) : List Nat :=
  let k1 := cmacDbl (aesEnc key (List.replicate 16 0))
  let k2 := cmacDbl k1
  let n := (m.length + 15) / 16
  let full := m.length ≠ 0 ∧ m.length % 16 = 0
  let last := m.drop (16 * (max n 1 - 1))
  let last' := if full then List.zipWith (· ^^^ ·) last k1
    else List.zipWith (· ^^^ ·) (last ++ [0x80] ++ List.replicate (15 - last.length) 0) k2
  let x := (chunks 16 (max n 1 - 1) m).foldl (fun x b => aesEnc key (List.zipWith (· ^^^ ·) x b)) (List.replicate 16 0)
  aesEnc key (List.zipWith (· ^^^ ·) x last')

/-- AES counter mode from a 16-byte counter block. -/
def aesCtr (key ctr m : List Nat) : List Nat :=
  ((chunks 16 (m.length / 16 + 1) m).zipIdx).flatMap (fun bi =>
    List.zipWith (· ^^^ ·) bi.1 (aesEnc key (beBytes 16 ((beNat ctr + bi.2) % 2 ^ 128))))

/-! ### ECDSA P-256 -/

def p256P : Nat := 0xffffffff00000001000000000000000000000000ffffffffffffffffffffffff
def p256N : Nat := 0xffffffff00000000ffffffffffffffffbce6faada7179e84f3b9cac2fc632551
def p256B : Nat := 0x5ac635d8aa3a93e7b3ebbd55769886bc651d06b0cc53b0f63bce3c3e27d2604b
def p256G : Nat × Nat :=
  (0x6b17d1f2e12c4247f8bce6e563a440f277037d812deb33a0f4a13945d898c296,
   0x4fe342e2fe1a7f9b8ee7eb4a7c0f9e162bce33576b315ececbb6406837bf51f5)

/-- Modular power. -/
def powMod (m : Nat) : Nat → Nat → Nat → Nat
  | 0, _, _ => 1 % m
  | f + 1, b, e => (if e % 2 = 1 then b else 1) * powMod m f (b * b % m) (e / 2) % m

/-- The inverse modulo a prime. -/
def invMod (m a : Nat) : Nat := powMod m 257 (a % m) (m - 2)

/-- The sum of two points of P-256; none is the point at infinity. -/
def ecAdd : Option (Nat × Nat) → Option (Nat × Nat) → Option (Nat × Nat)
  | none, b => b
  | a, none => a
  | some (x1, y1), some (x2, y2) =>
    let p := p256P
    if x1 = x2 && (y1 + y2) % p == 0 then none
    else
      let l := if x1 = x2 then (3 * x1 * x1 + (p - 3)) * invMod p (2 * y1) % p
        else (y2 + p - y1) * invMod p (x2 + p - x1) % p
      let x3 := (l * l + 2 * p - x1 - x2) % p
      some (x3, (l * (x1 + p - x3) + p - y1) % p)

/-- A multiple of a point. -/
def ecMul : Nat → Nat → Option (Nat × Nat) → Option (Nat × Nat)
  | 0, _, _ => none
  | f + 1, k, q => ecAdd (if k % 2 = 1 then q else none) (ecMul f (k / 2) (ecAdd q q))

/-- ECDSA P-256 verification of (r, s) over a 32-byte hash with the public key (x, y). -/
def ecdsaOk (hash sig pub : List Nat) : Bool :=
  let r := beNat (sig.take 32)
  let v := beNat ((sig.drop 32).take 32)
  let x := beNat (pub.take 32)
  let y := beNat ((pub.drop 32).take 32)
  let p := p256P
  let n := p256N
  let onCurve := decide (x < p) && decide (y < p) && (y * y % p == (x * x * x + (p - 3) * x + p256B) % p)
  if r = 0 || n ≤ r || v = 0 || n ≤ v || !onCurve then false
  else
    let w := invMod n v
    match ecAdd (ecMul 256 (beNat hash * w % n) (some p256G)) (ecMul 256 (r * w % n) (some (x, y))) with
    | none => false
    | some (x1, _) => x1 % n == r

/-! ### CRCs -/

/-- Reverses the low `w` bits of a number. -/
def revBits : Nat → Nat → Nat
  | 0, _ => 0
  | w + 1, v => (v % 2) * 2 ^ w + revBits w (v / 2)

/-- One bit of a CRC of width `w`, most significant bit first. -/
def crcBit (w poly c : Nat) : Nat := if c < 2 ^ (w - 1) then (2 * c) % 2 ^ w else ((2 * c) % 2 ^ w) ^^^ poly

/-- One byte of a CRC of width `w` ≥ 8, most significant bit first. -/
def crcByte (w poly c b : Nat) : Nat := (List.range 8).foldl (fun c _ => crcBit w poly c) (c ^^^ (b <<< (w - 8)))

/-- The CRC-8 of R403 and R415. -/
def crc8 (l : List Nat) : Nat := l.foldl (crcByte 8 0x2F) 0xFF ^^^ 0xFF
/-- The CRC-16 of R415. -/
def crc16 (l : List Nat) : Nat := l.foldl (crcByte 16 0x1021) 0xFFFF

end Sys2Proof.Machine
end

