-- ==== Sys2Proof/Machine/Owl.lean ====
section
/-! DEFINITION. Owl's ring (R444 to R453) and CONFIG_DIGEST (R451): arming, the words of a tick's records, triggers, stopping. -/

namespace Sys2Proof.Machine

/-- A record word (R444). -/
def owlWord (type source offset payload : Nat) : Nat :=
  type % 64 * 2 ^ 66 + source % 64 * 2 ^ 60 + offset % 2 ^ 20 * 2 ^ 40 + payload % 2 ^ 40

/-- The type of a word. -/
def wType (w : Nat) : Nat := w / 2 ^ 66 % 64
/-- The source of a word. -/
def wSource (w : Nat) : Nat := w / 2 ^ 60 % 64
/-- The offset of a word. -/
def wOffset (w : Nat) : Nat := w / 2 ^ 40 % 2 ^ 20
/-- The payload of a word. -/
def wPayload (w : Nat) : Nat := w % 2 ^ 40

/-- Word `i` of the Owl region. -/
def State.ow (s : State) (i : Nat) : Nat := sget 0 s.mem.owl i
/-- Writes word `i` of the Owl region, in full (R67). -/
def State.putOw (s : State) (i v : Nat) : State :=
  ueClear { s with mem := { s.mem with owl := sput 0 s.mem.owl i (v % 2 ^ 72) } } 2 i

/-- The ring word after `i`. -/
def ringNext (i : Nat) : Nat := if 524287 ≤ i then 16 else i + 1

/-- The first word of the record after the one at `i`, looking at `f` words at most. -/
def recNext (s : State) : Nat → Nat → Nat
  | 0, i => ringNext i
  | f + 1, i =>
    let j := ringNext i
    if wType (s.ow j) = 0x3E && j != s.get OWL_STAT_wptr then recNext s f j else j

/-- Recording is due to stop (R453): in STOP mode the ring is full but for the place of MARK STOP; in WRAP mode P words have
followed the trigger, MARK STOP the last of them (DEDUCED, assumption 60). -/
def owlStopDue (s : State) : Bool :=
  if s.getB OWL_CTL_mode then (match s.owl.left with
    | some k => decide (k ≤ 1)
    | none => false)
  else decide (524286 ≤ s.get OWL_STAT_wptr)

/-- Writes one word at `wptr` (R453). In WRAP mode the oldest record gives way. -/
def ringPut (s : State) (w : Nat) : State :=
  let i := s.get OWL_STAT_wptr
  let n := ringNext i
  let s := s.onIf (s.getB OWL_CTL_mode && n == s.get OWL_OLDEST_idx) (fun s => s.put OWL_OLDEST_idx (recNext s 600 n))
  let s := (s.putOw i w).put OWL_STAT_wptr n
  let s := s.onIf (i == 524287) (fun s => s.put OWL_STAT_wrapped 1)
  let s := { s with owl := { s.owl with left := s.owl.left.map (fun k => k - 1) } }
  if wType w = 0x11 && wSource w == 1 && !s.getB OWL_TRIG_PTR_valid then
    let s := (s.put OWL_TRIG_PTR_idx i).put OWL_TRIG_PTR_valid 1
    let P := 524272 * (256 - s.get OWL_CTL_pre) / 256
    s.onIf (s.getB OWL_CTL_mode) (fun s => { s with owl := { s.owl with left := some P } })
  else s

/-- The words of a record with its offset (R444). -/
def recWords (r : OwlRec) (offset : Nat) : List Nat :=
  r.payload.zipIdx.map (fun p => if p.2 = 0 then owlWord r.type r.source offset p.1 else owlWord 0x3E p.2 offset p.1)

/-- MARK LOST can be written: the intake has room, or MARK TRIGGER waits behind it (R448, R460). -/
def lostRoom (s : State) : Bool := decide (s.intakeUsed < 256) || s.owl.fresh.any (fun r => r.type == 0x11 && r.source == 1)

/-- The records of the tick enter the ring's queue, their offsets counted from the most recent HEADER (R444, R446). -/
def owlFlush (s : State) : State :=
  let s := s.onIf (decide (0 < s.owl.lost) && s.owlOn && lostRoom s) (fun s =>
    { s with owl := { s.owl with lost := 0, fresh := insertRec ⟨5, 0x11, 2, [s.owl.lost]⟩ s.owl.fresh } })
  let r := s.owl.fresh.foldl (fun (a : Nat × List (List Nat)) r =>
    let h := if r.type = 0x01 then s.now else a.1
    (h, a.2 ++ [recWords r (s.now - h)])) (s.owl.hdrTs, s.owl.queue)
  { s with owl := { s.owl with fresh := [], hdrTs := r.1, queue := r.2 } }

/-- The end of a tick at Owl: its records are ordered, and one word is written (R446, R448); at THROTTLE_1 and above one
every second tick. -/
def owlTick (s : State) : State :=
  let s := owlFlush s
  if !s.owlOn || owlStopDue s || (decide (2 ≤ s.get THM_STAT_level) && s.now % 2 == 1) then s
  else match s.owl.queue with
    | [] => s
    | [] :: t => { s with owl := { s.owl with queue := t } }
    | (w :: r) :: t => ringPut { s with owl := { s.owl with queue := if r.isEmpty then t else r :: t } } w

/-- OWL_STOP (R453): MARK STOP is the last word. -/
def owlStop (s : State) : State :=
  if !s.owlOn || !owlStopDue s then s
  else
    let s := owlFlush s
    let s := ringPut s (owlWord 0x11 5 (s.now - s.owl.hdrTs) 0)
    ({ s with owl := { s.owl with queue := [], left := none } }.put OWL_STAT_state 3).logEv 0x7C03

/-- `SYS_ID` as a word. -/
def sysId (s : State) : Nat :=
  s.get SYS_ID_part * 2 ^ 16 + s.get SYS_ID_grade * 2 ^ 12 + s.get SYS_ID_major * 2 ^ 8 + s.get SYS_ID_minor * 2 ^ 4

/-- The bytes of CONFIG_DIGEST as the registers show them. -/
def digestBytes (s : State) : List Nat := (List.range 8).flatMap (fun k => leBytes 4 (s.get OWL_DIGESTk_digest k))

/-- The payloads of the stream header (R450). -/
def streamHeader (s : State) : List Nat :=
  let b := fun f k => if s.getB f then 2 ^ k else 0
  let d := leNat (digestBytes s)
  [sysId s + s.get SYS_PROFILE_active * 2 ^ 32 + (if s.get SYS_PROFILE_active = 0 then 2 ^ 34 else 0)
      + b OWL_CFG_boot_arm 35 + b OWL_CTL_mode 36,
   Config.deviceId % 2 ^ 40, Config.deviceId / 2 ^ 40 % 2 ^ 24]
  ++ (List.range 7).map (fun k => d / 2 ^ (40 * k) % 2 ^ 40)
  ++ [s.now % 2 ^ 40, s.now / 2 ^ 40, s.get OWL_TRIG_MASK_mask, s.get OWL_CTL_pre + s.get OWL_CFG_snap_log2 * 256, 0, 0]

/-- Arming (R449). -/
def owlArm (s : State) : State :=
  let s := { s with mem := { s.mem with owl := [] } }
  let s := s.forL (streamHeader s).zipIdx (fun p s => s.putOw p.2 (owlWord 0x3F p.2 0 p.1))
  let s := ((((s.put OWL_STAT_wptr 16).put OWL_OLDEST_idx 16).put OWL_STAT_wrapped 0).put OWL_TRIG_PTR_valid 0).put OWL_STAT_state 1
  let s := { s with owl := { s.owl with fresh := [], queue := [], hdrTs := s.now, lost := 0, left := none, snapDue := 0xF } }
  (s.owlRec 0x11 0 [0]).logEv 0x7C01

/-! ### CONFIG_DIGEST -/

/-- The LK bits of a register instance (R451). -/
def lkVal (s : State) (r : Reg) (i j : Nat) : Nat :=
  (r.flds.map (fun f => if f.lk then s.get f i j * 2 ^ f.lsb else 0)).sum

/-- The registers that hold an LK field, by ascending address, each as its value plus 1. -/
def lkRegs (s : State) : List (Nat × Nat) :=
  (regTable.filter (fun r => r.flds.any (fun f => f.lk))).foldl (fun l r =>
    (List.range r.n1).foldl (fun l i => (List.range r.n2).foldl (fun l j =>
      sput 0 l (r.addr + i * r.s1 + j * r.s2) (lkVal s r i j + 1)) l) l) []

/-- CONFIG_DIGEST (R451). -/
def configDigest (s : State) : List Nat :=
  sha256 (s.pwr.imgHash ++ leBytes 4 (s.get BDG_PARAM_CRC_crc)
    ++ (List.range 4).flatMap (fun n => leBytes 4 (s.get SPn_BANK_CRC_A_crc n) ++ leBytes 4 (s.get SPn_BANK_CRC_B_crc n))
    ++ (lkRegs s).flatMap (fun e => leBytes 4 (e.2 - 1)))

/-- CONFIG_DIGEST is recomputed and shown; a change while Owl records is marked. -/
def digestUpdate (s : State) : State :=
  let d := configDigest s
  if d = digestBytes s then s
  else
    let s := s.forL (chunks 4 8 d).zipIdx (fun p s => s.put OWL_DIGESTk_digest (leNat p.1) p.2)
    s.owlRec 0x11 4 [leNat (d.take 4)]

/-! ### The interrupt inputs of the core pairs (R309, R407, R445) -/

/-- PLIC sources that a context may claim: pending, enabled, of a priority above 0 and not claimed already. -/
def plicCands (s : State) (c : Nat) : List Nat :=
  (List.range 8).flatMap (fun g =>
    if s.get PLIC_PEND_bits g &&& s.get PLIC_EN_bits c g = 0 then [] else
      ((List.range 32).map (fun b => 32 * g + b)).filter (fun k => s.getBit PLIC_PEND_bits (k % 32) g && s.getBit PLIC_EN_bits (k % 32) c g
        && s.getB PLIC_PRIO_prio k && !(s.net.claimed.any (fun e => e.1 == k))))

/-- The interrupt line of a context: a source above its threshold waits. -/
def irqLine (s : State) (c : Nat) : Bool :=
  (plicCands s c).any (fun k => decide (s.get PLIC_THR_thr c < s.get PLIC_PRIO_prio k))

/-- The levels of a pair's machine and supervisor external interrupt inputs, bits 0 and 1 (DEDUCED, assumption 137). -/
def irqLevels (s : State) (p : Fin 2) : Nat :=
  (if irqLine s (2 * p.val) then 1 else 0) + (if irqLine s (2 * p.val + 1) then 2 else 0)

/-- A pair's interrupt inputs that have changed enter Chuck (R309); in a replay of the cores they follow the recording (R458). -/
def coreIrqs (s : State) : State :=
  if s.owl.replay.isSome && s.getB OWL_CFG_core_replay then s
  else s.forL (List.finRange 2) (fun p s =>
    let v := irqLevels s p
    s.onIf (v != s.owl.irqIn[p]) (fun s =>
      let s := { s with owl := { s.owl with irqIn := s.owl.irqIn.set p.val v } }
      { s with chuck := s.chuck ++ [⟨p.val, .core 0x09 p.val v, s.now, false⟩] }))

/-- Chuck releases the levels of a pair's interrupt inputs; in a recording that is not lean, Owl records them (R446, R447). What drives
the timer and software interrupt inputs, and the half of the tick, the spec does not say (free values, assumption 137). -/
def irqRelease (s : State) (p : Fin 2) (v : Nat) : State :=
  let s := { s with owl := { s.owl with irqOut := s.owl.irqOut.set p.val v } }
  s.onIf (s.owlOn && s.get SYS_PROFILE_active != 0) (fun s =>
    (s.owlRec 0x09 p.val [v % 4 + 4 * (s.freeVal % 4) + 2 ^ 38 * (s.freeVal / 4 % 2)]).freeNext)

/-! ### Meanings -/

/-- OWL_TICK_HEADER (R445): 2^19 tk have passed without a HEADER. -/
def execOwlTickHeader (s : State) : Out :=
  live s (fun s => s.onIf (decide (s.owl.hdrTs + 2 ^ 19 ≤ s.now)) (fun s => s.owlRec 0x01 0x3F [s.now % 2 ^ 40, s.now / 2 ^ 40]))

/-- OWL_STOP (R453): the ring is full, or P words have followed the trigger. -/
def execOwlStop (s : State) : Out := live s owlStop

end Sys2Proof.Machine
end

