-- ==== Sys2Proof/Machine/Badger.lean ====
section
/-! DEFINITION. The Badger island (R296, R297, R320 to R335, R529): the staged parameters, which sources are asserted, the reaction
classes and what they do, the supply and clock monitors, the watchdogs, the torque monitor. -/

namespace Sys2Proof.Machine

/-- Changes Badger's state. -/
def State.modBdg (s : State) (f : BdgSt → BdgSt) : State := { s with bdg := f s.bdg }
/-- Changes the pairing block's state. -/
def State.modTls (s : State) (f : TlsSt → TlsSt) : State := { s with tls := f s.tls }

/-! ### The staged safety parameters (R326); a block's bytes are read by `Config.paramField` (assumption 50) -/

/-- Parameter `i` of a block, of `w` bits; `d` where the defaults are in force. -/
def bpar (b : Option (List Nat)) (i w d : Nat) : Nat := match b with
  | none => d
  | some l => Config.paramField l i % 2 ^ w

/-- Parameter `i` of the active block. -/
def spar (s : State) (i w d : Nat) : Nat := bpar s.bdg.block i w d

/-- Index of parameter `k` of channel `n`: 0 tm_en, 1 tm_limit, 2 tm_time, 3 pp, 4 psi, 5 ld, 6 lq, 7 sain_a, 8 sain_b,
9 i_gain, 10 tm_ang, 11 sain_sin, 12 sain_cos, 13 sain_exc, 14 ratio, 15 hall_map, 16 hall_ofs, 17 ang_tol, 18 ang_n,
19 se_speed. -/
def chIdx (n k : Nat) : Nat := 0x200 + 0x40 * n + k

/-- The default of a channel's parameters: the monitor is off. -/
def chParDef : Nat → Nat
  | 2 => 1
  | 14 => 1
  | 17 => 1
  | 18 => 1
  | _ => 0

/-- The widths of a channel's parameters. -/
def chParW : Nat → Nat
  | 0 => 1
  | 1 => 16
  | 2 => 8
  | 7 => 4
  | 8 => 4
  | 10 => 1
  | 11 => 4
  | 12 => 4
  | 13 => 4
  | 14 => 4
  | 17 => 8
  | 18 => 8
  | _ => 32

/-- Parameter `k` of channel `n` in a block. -/
def bchPar (b : Option (List Nat)) (n k : Nat) : Nat := bpar b (chIdx n k) (chParW k) (chParDef k)
/-- Parameter `k` of channel `n` in the active block. -/
def chPar (s : State) (n k : Nat) : Nat := bchPar s.bdg.block n k

/-! ### Sources and classes (R332); 0 EVT, 1 HOLD, 2 CH_SAFE, 3 UNIT_FAIL, 4 DEV_SAFE -/

/-- A class that cannot be changed. -/
def fixedClass (src : Nat) : Bool := [8, 9, 0xD, 0xE, 0x12, 0x1F, 0x2B].contains src

/-- The default reaction class of a source (R304, R332, R371). -/
def defClass (src : Nat) : Nat :=
  if fixedClass src then 4
  else if 0x40 ≤ src then
    (match (src - 0x40) % 0x20 with
     | 0 => 2
     | 1 => 1
     | 2 => 1
     | 3 => 2
     | 4 => 0
     | 5 => 0
     | k => if k ≤ 17 then 2 else 0)
  else if [0, 1, 2, 7, 0xA, 0xC, 0x1D, 0x24].contains src then 3
  else if [0x18, 0x19, 0x1A, 0x1B, 0x20, 0x21, 0x22, 0x26].contains src then 1
  else if [0x28, 0x29, 0x30, 0x31, 0x35, 0x38, 0x39, 0x3D].contains src then 2
  else 0

/-- The element that HOLD restores for a source: 0 CPA, 1 CPB, 2 + n SPn, 6 the MP. -/
def elemOf (src : Nat) : Option Nat :=
  if 0x40 ≤ src then (if [1, 2].contains ((src - 0x40) % 0x20) then some (2 + (src - 0x40) / 0x20) else none)
  else if [0x18, 0x1A, 0x20].contains src then some 0
  else if [0x19, 0x1B, 0x21].contains src then some 1
  else if [0x22, 0x26].contains src then some 6
  else none

/-- The class of a source in a block. -/
def bclass (b : Option (List Nat)) (src : Nat) : Nat := if fixedClass src then 4 else bpar b src 3 (defClass src)

/-- Channels supervised by a core pair (R320). -/
def supervised (s : State) (c : Nat) : List Ch := (List.finRange 4).filter (fun n => s.getBit BDG_SUPV_cpb n.val == (c == 1))

/-- LINK_STARVED of a link. -/
def isStarved (src : Nat) : Bool := src == 0x35 || src == 0x3D

/-- The channels to which a source applies (R332, R333), with the payload of its last arrival. LINK_STARVED with its
default class applies to members in RUN or STOPPING (R304). -/
def appliesTo (s : State) (src payload : Nat) : List Ch :=
  if 0x40 ≤ src then [chOf ((src - 0x40) / 0x20)]
  else if 0x30 ≤ src then
    let m := members s ⟨(src - 0x30) / 8 % 2, by omega⟩
    if isStarved src && s.bdg.block.isNone then m.filter (fun n => s.chRuns n.val) else m
  else if src = 0x29 then (List.finRange 4).filter (fun n => (payload / 256).testBit n.val)
  else if src = 0x2A then (List.finRange 4).filter (fun n => inputFeeds s (ainOf payload) n.val)
  else if [0x18, 0x1A, 0x20].contains src then supervised s 0
  else if [0x19, 0x1B, 0x21].contains src then supervised s 1
  else if src = 0x1E then supervised s payload
  else List.finRange 4

/-- The class with which a source acts now. -/
def classOf (s : State) (src : Nat) : Nat :=
  let c := bclass s.bdg.block src
  if isStarved src && s.bdg.block.isNone && (appliesTo s src 0).isEmpty then 0 else c

/-- Registers and values of one channel that R529 watches. -/
def chLive (s : State) (n : Ch) (k : Nat) : Bool :=
  let mapsCh (b : Nat) : Bool := (mapChans s (fltLegs s b)).contains n.val
  match k with
  | 5 => s.getB PIFn_FSTAT_pri_fault n.val || s.getB PIFn_FSTAT_sec_fault n.val
  | 6 => s.getB PIFn_STAT_pos_lost n.val
  | 7 => (List.range 16).any (fun b => s.latched b && mapsCh b)
  | 8 => (List.range 16).any (fun m => s.latched (16 + m) && mapsCh (16 + m))
  | 9 => (List.range 16).any (fun m => (s.getBit CHn_OC_trip_lines m n.val && s.latched (16 + m))
      || (s.getBit CHn_OC_FLT_trip_flt m n.val && s.latched m))
  | 10 => s.get CHn_SWFAIL_hs n.val != 0 || s.get CHn_SWFAIL_ls n.val != 0
  | 11 => chPar s n.val 0 == 1 && decide (max 1 (chPar s n.val 2) ≤ s.bdg.tm[n].dev)
  | 12 => chPar s n.val 0 == 1 && decide (max 1 (chPar s n.val 18) ≤ s.bdg.tm[n].angCnt)
  | 19 => s.getB SPn_FLD_STAT_locked n.val
  | 20 => s.getB SPn_FLD_STAT_ke_abn n.val
  | 21 => (s.sp n).fld.grid.unl && !s.getB SPn_FLD_STAT_pll_lock n.val
  | 22 => (s.sp n).fld.grid.bandUp
  | 23 => (List.range 512).any (fun e => s.getB SETT_NODEe_CFG_present e && s.getB SETT_NODEe_CFG_ch_en e
      && s.get SETT_NODEe_CFG_ch e == n.val && decide (s.get SETTp_CFG_miss_max (e / 256) ≤ s.get SETT_NODEe_STAT_consec e))
  | _ => false

/-- Whether a source is asserted (R529). A single happening is asserted only where it is raised. -/
def srcLive (s : State) (src : Nat) : Bool :=
  s.bdg.stuck.contains src ||
  (if src ≤ 8 then s.bdg.clkBad.testBit src
  else if src ≤ 0xF then s.bdg.railBad.testBit (src - 9)
  else if 0x40 ≤ src then chLive s (chOf ((src - 0x40) / 0x20)) ((src - 0x40) % 0x20)
  else if 0x30 ≤ src then
    let l : Lnk := ⟨(src - 0x30) / 8 % 2, by omega⟩
    (match (src - 0x30) % 8 with
     | 0 => s.getB PRT_LNKl_CFG_en l.val && s.links[l].lvl[(2 : Fin 3)]
     | 1 => s.getB PRT_LNKl_CFG_en l.val && s.links[l].hard
     | 2 => s.getB PRT_LNKl_STAT_chop_fail l.val
     | 5 => s.getB PRT_LNKl_CFG_en l.val && s.links[l].starve
     | _ => false)
  else match src with
    | 0x10 => s.bdg.divNow && decide (10 ≤ s.bdg.divRun)
    | 0x11 => s.get THM_STAT_level == 4
    | 0x1E => s.getB BDG_STATE_lsb_cpa || s.getB BDG_STATE_lsb_cpb
    | 0x28 => (List.finRange 8).any (fun c => s.gen.carr[c].whole)
    | 0x29 => (List.finRange 8).any (fun c => s.cvb.conv[c].calDone && !s.getB CVc_CAL_ok c.val)
    | 0x2A => (List.range 48).any (fun i => s.get CMPi_STAT_ow i == 2)
    | 0x2B => (List.range 4).any (fun n => s.get CHn_SWFAIL_hs n != 0 && s.get CHn_SWFAIL_ls n != 0)
    | 0x2D => s.getB TLS_CFG_en && !s.tls.link && sget 0 s.bdg.counts 0x2D != 0
    | 0x2E => (match s.tls.peerDigest with
        | some d => d != digestBytes s
        | none => false)
    | _ => false)

/-- The channels to which an asserted source applies now (R273): a source that several elements share applies to the channels
of each element whose condition holds. -/
def appliesNow (s : State) (src : Nat) : List Ch :=
  (List.finRange 4).filter (fun n => s.bdg.stuck.contains src || match src with
    | 0x29 => (List.finRange 8).any (fun c => s.cvb.conv[c].calDone && !s.getB CVc_CAL_ok c.val && (fedChans s c).testBit n.val)
    | 0x2A => (List.finRange 48).any (fun i => s.get CMPi_STAT_ow i.val == 2 && inputFeeds s i n.val)
    | 0x1E => (s.getB BDG_STATE_lsb_cpa && (supervised s 0).contains n) || (s.getB BDG_STATE_lsb_cpb && (supervised s 1).contains n)
    | _ => (appliesTo s src (sget 0 s.bdg.payloads src)).contains n)

/-- FAULT_N (R327): low while a source of class CH_SAFE or above is asserted, and in UNIT_FAIL and DEV_SAFE; low too before
the start-up checks are complete and after a boot failure (R490, R501). -/
def faultNShow (s : State) : State :=
  let low := s.get BDG_STATE_unit != 0 || s.pwr.stage == 7 || decide (s.pwr.stage ≤ 1)
    || (List.range 192).any (fun k => srcLive s k && decide (2 ≤ classOf s k))
  s.putB BDG_STATE_fault_n (!low)

/-! ### SAFE_EN (R330, R331) -/

/-- One output is low from now on. -/
def safeEnLow (s : State) (i : Nat) : State := s.put (if i = 0 then BDG_STATE_safe_en0 else BDG_STATE_safe_en1) 0

/-- The sources that lower both outputs at once (R331). -/
def dropsSafeEn (src : Nat) : Bool := [1, 8, 9, 0xD, 0xE, 0x1F].contains src

/-- AFTER_OFF is met: PULSE_OFF in force on every channel, and Badger's speed below se_speed where it counts. -/
def afterOff (s : State) : Bool :=
  (List.finRange 4).all (fun n =>
    (if s.chState n.val = 6 then s.get CHn_STATE_pat n.val == 1 else !s.chRuns n.val)
      && !(carrLegs s (.ch n)).any (fun k => legAsc s k)
      && (chPar s n.val 0 == 0 || chPar s n.val 19 == 0 || decide (2 ≤ s.bdg.tm[n].below)))

/-- SAFE_EN0 and SAFE_EN1 follow their modes in DEV_SAFE. -/
def safeEnUpdate (s : State) : State :=
  if s.get BDG_STATE_unit != 2 then s
  else s.forN 2 (fun i s => s.onIf (spar s (0x130 + i) 1 1 == 0 || afterOff s) (fun s => safeEnLow s i))

/-! ### Reactions (R333, R334, R316) -/

/-- The unit enters UNIT_FAIL (1) or DEV_SAFE (2): the action of CH_SAFE on every channel, which follows `ch_safe_ss` (R280, R333;
assumption 118, DEDUCED), XL_OUT stopped, the source kept asserted. -/
def unitReact (s : State) (src lvl : Nat) : State :=
  let s := s.forL (List.finRange 4) (fun n s => chSafeReaction s n src)
  let s := s.onIf (s.get BDG_STATE_unit < lvl) (fun s => (s.put BDG_STATE_unit lvl).put BDG_STATE_dev_cause src)
  let s := s.logEv 0x4802 [src, lvl]
  let s := s.modBdg (fun b => { b with stuck := if b.stuck.contains src then b.stuck else b.stuck ++ [src] })
  let s := s.modTls (fun t => { t with xlOut := false })
  if lvl = 2 then
    let s := s.modBdg (fun b => { b with holds := b.holds ||| 3 })
    if dropsSafeEn src then safeEnLow (safeEnLow s 0) 1 else safeEnUpdate s
  else s

/-- A spindle is held (R314 step 1): its commit blocked, its inputs kept from the next reload on. -/
def spHold (s : State) (n : Ch) : State :=
  let s := s.modCarr (.ch n) (fun c => { c with blocked := true })
  s.modSp n (fun p => { p with held := true, out := none, isOpen := false, spec := 0, rejGate := none })

/-- The class that escalation applies to an element (R316): 2 CH_SAFE or 3 UNIT_FAIL. -/
def escOf (s : State) (e : Nat) : Nat :=
  if 2 ≤ e ∧ e < 6 then spar s (0x100 + e) 3 2 else spar s (0x100 + e) 3 3

/-- A HOLD on an element within `rep_win` of the last one. -/
def holdAgain (s : State) (e : Fin 7) : Bool := match s.bdg.lastHold[e] with
  | some t => decide (s.now < t + spar s 0x110 16 1000 * tkMs)
  | none => false

/-- The escalation of a repeated HOLD (R316, R318). -/
def escalate (s : State) (e : Fin 7) (src payload : Nat) : State :=
  if e.val = 6 then s.modBdg (fun b => { b with mpDead := true, holds := b.holds ||| 64, stuck := b.stuck ++ [0x22] })
  else if escOf s e.val = 3 then unitReact s src 1
  else s.forL (appliesTo s src payload) (fun n s => chSafeReaction s n src)

/-- A held spindle has met its next reload: steps 2 and 3 of R314 are under way. -/
def restoring (s : State) (e : Fin 7) : Bool :=
  if h : 2 ≤ e.val ∧ e.val < 6 then
    (match s.bdg.lastHold[e] with
      | some t => decide (t < (s.carrier (.ch ⟨e.val - 2, by omega⟩)).reloadTs)
      | none => false)
  else false

/-- HOLD acts on an element (R314, R316 to R318). Until the restoration of a held element has begun, a further source of it is
recorded only (R337); one found during steps 2 and 3 of R314 escalates (R316). -/
def holdElem (s : State) (e : Fin 7) (src payload : Nat) : State :=
  if s.bdg.holds.testBit e.val then s.onIf (restoring s e) (fun s => escalate s e src payload)
  else if holdAgain s e then escalate s e src payload
  else
    let s := s.modBdg (fun b => { b with holds := b.holds ||| 2 ^ e.val, lastHold := b.lastHold.set e.val (some s.now) })
    if h : 2 ≤ e.val ∧ e.val < 6 then spHold s ⟨e.val - 2, by omega⟩ else s

/-- A source arrives at the fault collection unit (R333): it is recorded, logged and shown. Loss of CKP or CKB, of the core, I/O or
Badger supply, or of Badger's own lockstep lowers SAFE_EN at once, whatever its class (R331). -/
def faultRecord (s : State) (src payload : Nat) : State :=
  let s := s.putBit BDG_FSTATw_src (src % 32) true (src / 32)
  let s := s.modBdg (fun b => { b with
    counts := sput 0 b.counts src (sget 0 b.counts src + 1), payloads := sput 0 b.payloads src payload })
  let c := classOf s src
  let s := ((s.logEv 0x4801 [src, c]).irq 56).owlRec 0x0D 0 [src + 256 * (min c 4) + 2048]
  let s := s.onIf (2 ≤ c) (fun s => s.owlTrig 1)
  let s := s.onIf (3 ≤ c) (fun s => s.owlTrig 2)
  s.onIf (dropsSafeEn src) (fun s => safeEnLow (safeEnLow s 0) 1)

/-- The class of a source acts (R333). -/
def faultAct (s : State) (c src payload : Nat) : State :=
  match c with
  | 0 => s
  | 1 => (match elemOf src with
      | some e => if h : e < 7 then holdElem s ⟨e, h⟩ src payload else s
      | none => s)
  | 2 => s.forL (appliesTo s src payload) (fun n s => chSafeReaction s n src)
  | 3 => unitReact s src 1
  | _ => unitReact s src 2

/-- One source arrives and acts. -/
def faultArrive (s : State) (src payload : Nat) : State :=
  faultNShow (faultAct (faultRecord s src payload) (classOf s src) src payload)

/-- Sources that arrive in one CKB cycle: every one is recorded, the highest class among them acts, and a HOLD restores its element
beside it (R334). -/
def faultsArrive (s : State) (l : List (Nat × Nat)) : State :=
  let cls := l.map (fun e => (classOf s e.1, e))
  let top := cls.foldl (fun m e => max m e.1) 0
  let s := l.foldl (fun s e => faultRecord s e.1 e.2) s
  faultNShow ((cls.filter (fun e => e.1 == top || e.1 == 1)).foldl (fun s e => faultAct s e.1 e.2.1 e.2.2) s)

/-- The sources on their way arrive, those of one tick in one cycle: each leaves the agreement stage of Badger's pair at its
first comparison (R311; assumption 119, DEDUCED). -/
def deliverAll (s : State) : State :=
  s.onIf (!s.inflight.isEmpty) (fun s => faultsArrive { s with inflight := [] } s.inflight)

/-! ### The agreement stages (R309, R311) -/

/-- The comparisons of a release: `differ` of them found a difference (R309). With four the value of the main half is released as
disagreed, which raises INPUT_DISAGREE and is logged at most once per 1 ms; Owl marks what Chuck releases so (R310). Pair 6 is Badger's
(R311). -/
def chuckCompare (s : State) (p : AgreePair) (differ : Nat) : State :=
  let s := s.put PRT_CHUCK_STAT_resample (min (s.get PRT_CHUCK_STAT_resample + min differ 3) 0xFFFF)
  s.onIf (differ == 4) (fun s =>
    (((s.incSat PRT_CHUCK_STAT_disagree).raise 0x1C p.val).logRate 0x4020 0 tkMs [p.val]).onIf (p != 6) (fun s => s.owlRec 0x11 6 [0]))

/-- Badger's stage releases the first input that waits for its pair (R311): a source on its way to the fault collection unit. -/
def bdgRelease (s : State) (differ : Nat) : State :=
  match s.inflight with
  | [] => s
  | e :: l => faultArrive (chuckCompare { s with inflight := l } 6 differ) e.1 e.2

/-! ### Lockstep (R307, R312) -/

/-- A pair's comparison runs: a debug halt of one of its cores has not stopped it (R319). -/
def compares (s : State) (p : AgreePair) : Bool := match p.val with
  | 0 => !s.getB BDG_STATE_lsb_cpa
  | 1 => !s.getB BDG_STATE_lsb_cpb
  | _ => true

/-- The fault source of a pair: a mismatch, or (`lat`) a latent divergence. -/
def pairSrc (p : Pair) (lat : Bool) : Nat :=
  if p.val < 2 then (if lat then 0x1A else 0x18) + p.val else chSrc (p.val - 2) (if lat then 2 else 1)

/-- A pair is found different: its bit, trigger 12 of R452, and the source; a spindle's commit is blocked at once. -/
def pairDiffers (s : State) (p : Pair) (lat : Bool) : State :=
  let s := (s.putBit PRT_LS_STAT_mismatch p.val true).owlTrig 12
  let s := s.raise (pairSrc p lat) p.val
  if h : 2 ≤ p.val then
    (let n : Ch := ⟨p.val - 2, by omega⟩
     (s.modCarr (.ch n) (fun c => { c with blocked := true })).modSp n (fun q => { q with out := none }))
  else s

/-! ### Staged blocks (R326) -/

/-- Every parameter of a block within its range. -/
def blockOk (b : List Nat) : Bool :=
  let o := some b
  decide (1 ≤ bpar o 0x110 16 0)
    && (List.range 192).all (fun k => fixedClass k || (decide (bpar o k 3 0 ≤ 4) && (bpar o k 3 0 != 1 || (elemOf k).isSome)))
    && (List.range 6).all (fun e => [2, 3].contains (bpar o (0x100 + e) 3 0))
    && (List.range 4).all (fun n => decide (1 ≤ bchPar o n 2) && decide (1 ≤ bchPar o n 14) && decide (1 ≤ bchPar o n 17)
      && decide (bchPar o n 17 ≤ 90) && decide (1 ≤ bchPar o n 18)
      && [7, 8, 11, 12, 13].all (fun k => decide (bchPar o n k ≤ 11)))

/-- The block changes no parameter of a channel in RUN or STOPPING. -/
def blockQuiet (s : State) (b : List Nat) : Bool :=
  (List.range 4).all (fun n => !s.chRuns n
    || ((List.range 20).all (fun k => bchPar (some b) n k == chPar s n k)
      && (List.range 24).all (fun k => bclass (some b) (chSrc n k) == bclass s.bdg.block (chSrc n k))
      && bpar (some b) (0x102 + n) 3 2 == spar s (0x102 + n) 3 2))

/-- A staged block arrives with its CRC: the status, and the block waiting for the evaluation boundary, or the refusal. -/
def stageBlock (s : State) (b : List Nat) (crc : Nat) : Nat × State :=
  let st := if crc32c b != crc then 0x10 else if !blockOk b then 0x14 else if !blockQuiet s b then 0x22 else 0
  if st = 0 then (0, s.modBdg (fun x => { x with staged := some (b, crc) }))
  else (st, (s.logEv 0x4805 [st]).raise 0x23 st)

/-! ### The evaluation every 100 µs (R296, R297, R324, R330) -/

/-- A SAIN code as per-unit current (Q36). -/
def sainCur (s : State) (n : Nat) (code : Int) : Int := sat36 (code * (chPar s n 9 : Int) * 8)

/-- The torque of one pair of current codes at Badger's electrical angle. -/
def tmTorque (s : State) (n : Nat) (ia ib : Int) (th : Nat) : Int :=
  let a := sainCur s n ia
  let b := sainCur s n ib
  let q := clarke a b (sat36 (-a - b))
  let i := park th q.1 q.2
  let psi : Int := 8 * chPar s n 4
  let dl : Int := 8 * (chPar s n 5 : Int) - 8 * chPar s n 6
  mul36 (sat36 i.2) (sat36 (psi + mul36 dl (sat36 i.1)))

/-- The evaluation of one channel from its samples of the interval: (code a, code b, angle), in time order. -/
def tmEval (s : State) (n : Ch) (smp : List (Int × Int × Nat)) : State :=
  if chPar s n.val 0 = 0 || smp.isEmpty then s
  else
    let t := s.bdg.tm[n]
    let th := (smp.getLast?.map (fun x => x.2.2 % 2 ^ 32)).getD 0
    let speed : Int := match t.ang with
      | some a => angDiff th a * 10000 / 65536
      | none => 0
    let se : Int := chPar s n.val 19
    let below := if decide (|speed| < se) then t.below + 1 else 0
    -- the angle against θm of the spindle, extrapolated to now
    let thm := extrap (s.get SPn_ANG_M_angle n.val) (srcW s n) ((s.now : Int) - (s.carrier (.ch n)).reloadTs)
    let far := decide ((degAng (chPar s n.val 17) : Int) < |angDiff th thm|)
    let angN := max 1 (chPar s n.val 18)
    let angCnt := if far then t.angCnt + 1 else 0
    let s := s.modBdg (fun b => { b with tm := vupd b.tm n (fun t => { t with ang := some th, speed := speed, below := below, angCnt := angCnt }) })
    let s := s.onIf (angCnt == angN) (fun s => (s.logEv 0x4807 [n.val]).raise (chSrc n.val 12) n.val)
    if (carrLegs s (.ch n)).any (fun k => legAsc s k) || s.get SPn_FLD_STAT_task n.val != 0 then s
    else
      let sum := (smp.map (fun x => tmTorque s n.val x.1 x.2.1 x.2.2)).sum
      let T := roundHE sum smp.length
      let lim : Int := 32768 * chPar s n.val 1
      let refs := t.cur ++ t.prev
      let run := s.chRuns n.val
      let lo := if run then refs.foldl min (refs.headD 0) - lim else -lim
      let hi := if run then refs.foldl max (refs.headD 0) + lim else lim
      let mot := run && s.getB CHn_STATE_motoring_only n.val
      let lo := if mot && 0 ≤ speed then max lo (-lim) else lo
      let hi := if mot && speed < 0 then min hi lim else hi
      let dev := if T < lo || hi < T then t.dev + 1 else 0
      let s := s.modBdg (fun b => { b with tm := vupd b.tm n (fun t => { t with dev := dev }) })
      s.onIf (dev == max 1 (chPar s n.val 2)) (fun s => (s.logEv 0x4810 [n.val]).raise (chSrc n.val 11) n.val)

/-- BADGER_EVAL: every channel is evaluated with the block in force; an accepted block then replaces it. -/
def badgerEval (s : State) (smp : List (List (Int × Int × Nat))) : State :=
  let s := s.forL (List.finRange 4) (fun n s => tmEval s n (smp.getD n.val []))
  let s := s.modBdg (fun b => { b with tm := b.tm.map (fun t => { t with prev := t.cur, cur := t.cur.drop (t.cur.length - 1) }) })
  let s := match s.bdg.staged with
    | some (b, crc) =>
      let s := s.modBdg (fun x => { x with block := some b, staged := none, wdg := x.wdg.map (fun w => { w with dflt := false }) })
      (s.put BDG_PARAM_CRC_crc crc).logEv 0x4804 [crc]
    | none => s
  faultNShow (safeEnUpdate s)

/-! ### Watchdogs (R325) -/

/-- The shortest and the longest time between kicks, in ticks. -/
def wdgWin (s : State) (c : Fin 3) : Nat × Nat :=
  if s.bdg.wdg[c].dflt || s.bdg.block.isNone then (0, 100 * tkMs)
  else (spar s (0x120 + c.val) 32 0 * tkUs, spar s (0x124 + c.val) 32 0 * tkUs)

/-- A watchdog fault. -/
def wdgFault (s : State) (c : Fin 3) : State :=
  ((s.incSat BDG_WDG_STATc_miss_cnt c.val).logEv 0x4803 [c.val]).raise (0x20 + c.val) c.val

/-- A kick is judged; `own` says that the initiator owns the watchdog. The new token is a free value. -/
def wdgKick (s : State) (c : Fin 3) (key : Nat) (own : Bool) : State :=
  let early := decide (s.now < s.bdg.wdg[c].last + (wdgWin s c).1)
  if !own || early || key % 65536 != 0xFFFF - s.get BDG_WDG_STATc_token c.val then wdgFault s c
  else
    let s := s.modBdg (fun b => { b with wdg := vupd b.wdg c (fun w => { w with last := s.now }) })
    (s.put BDG_WDG_STATc_token s.freeVal c.val).freeNext

/-- A watchdog starts again with the windows of a reset. -/
def wdgRestart (s : State) (c : Fin 3) : State :=
  s.modBdg (fun b => { b with wdg := vupd b.wdg c (fun _ => ⟨s.now, true⟩) })

/-! ### The mailbox (R339, R340) -/

/-- Badger writes its reply: type and sequence in the message memory, the items, the status, `done` and its interrupt. -/
def mbAnswer (s : State) (type seq status : Nat) (items : List Nat) : State :=
  let s := s.modBdg (fun b => { b with reply := some ⟨type, seq, status, items⟩ })
  let s := s.forL (leBytes 2 type ++ leBytes 2 seq).zipIdx (fun p s =>
    { s with mem := { s.mem with bytes := sput 0 s.mem.bytes (0x08000800 + p.2) (BitVec.ofNat 8 p.1) } })
  let s := (s.put BDG_MB_STAT_busy 0).put BDG_MB_STAT_status status
  (s.put BDG_MB_STAT_done 1).irq 57

/-- The types of R340. -/
def mbTypes : List Nat := [0x0001, 0x0002, 0x0003, 0x0010, 0x0011, 0x0020]

/-- Badger takes the request in the message memory; an unknown type is answered (R340). -/
def mbTake (s : State) : State :=
  let s := s.put BDG_MB_REQ_go 0
  let half (k : Nat) : Nat := leNat ((List.range 2).map (fun j => (sget 0 s.mem.bytes (0x08000000 + k + j)).toNat))
  if mbTypes.contains (half 0) then s.put BDG_MB_STAT_busy 1 else mbAnswer s (half 0) (half 2) 0x13 []

/-- Badger has finished a request; one submitted meanwhile, whose `go` still stands, is taken then (R339, R340). -/
def mbReply (s : State) (type seq status : Nat) (items : List Nat) : State :=
  let s := mbAnswer s type seq status items
  s.onIf (s.getB BDG_MB_REQ_go) mbTake

/-- A mailbox request is submitted (R339, R340): taken at once unless Badger is busy. -/
def mbSubmit (s : State) : State :=
  let s := s.put BDG_MB_REQ_go 1
  if s.getB BDG_MB_STAT_busy then s else mbTake s

/-- The six words of sticky or live bits. -/
def srcWords (f : Nat → Bool) : List Nat :=
  (List.range 6).map (fun w => (List.range 32).foldl (fun v b => if f (32 * w + b) then v + 2 ^ b else v) 0)

/-- The sticky bit of a source. -/
def fstat (s : State) (src : Nat) : Bool := s.getBit BDG_FSTATw_src (src % 32) (src / 32)

/-- Clears a source's sticky bit, with Owl's record. -/
def fclear (s : State) (src : Nat) : State :=
  s.onIf (fstat s src) (fun s =>
    (s.putBit BDG_FSTATw_src (src % 32) false (src / 32)).owlRec 0x0D 0 [src + 256 * (min (classOf s src) 4)])

/-! ### Meanings -/

/-- BADGER_EVAL (R296): the samples of each channel in the interval. -/
def execBadgerEval (smp : List (List (Int × Int × Nat))) (s : State) : Out := live s (fun s => badgerEval s smp)

/-- A mismatch of Badger's own pair (R305, R332): BDG_LOCKSTEP. -/
def bdgDiffers (s : State) : State := ((s.owlTrig 12).logEv 0x4021 [6]).raise 0x1F 6

/-- LOCKSTEP_MISMATCH (R307, R306): the rails of comparators P and Q (1 equal, 2 different, 0 and 3 invalid), and whether a
delay register's parity failed. Pair 6 is Badger's. -/
def execLockstepMismatch (p : AgreePair) (rp rq : Fin 4) (parity : Bool) (s : State) : Out :=
  live s (fun s =>
    if (rp.val = 1 && rq.val == 1 && !parity) || !compares s p then s
    else if h : p.val < 6 then
      let s := s.onIf parity (fun s => s.incSat PRT_LS_CNTp_par_cnt p.val)
      let s := s.onIf ((rp.val == 1) != (rq.val == 1)) (fun s => s.putBit PRT_LS_STAT_cmp_split p.val true)
      pairDiffers ((s.incSat PRT_LS_CNTp_mis_cnt p.val).logEv 0x4021 [p.val]) ⟨p.val, h⟩ false
    else bdgDiffers s)

/-- CMP_SELFTEST (R308): whether each comparator signalled different on the inverted bit, which moves one position per test of
the pair. -/
def execCmpSelftest (p : AgreePair) (pOk qOk : Bool) (s : State) : Out :=
  live s (fun s =>
    let bit := s.bdg.cmpPos[p]
    let s := (s.put PRT_CMP_TEST_bit bit).modBdg (fun b => { b with cmpPos := b.cmpPos.set p.val ((bit + 1) % 256) })
    if pOk && qOk then s.onIf (decide (p.val < 6)) (fun s => s.incSat PRT_LS_CNTp_test_cnt p.val)
    else (s.logEv 0x4023 [p.val, bit]).raise 0x1D p.val)

/-- STATE_DIGEST (R312, R313): the digests of the main and of the checker copy. -/
def execStateDigest (p : Pair) (m c : Nat) (s : State) : Out :=
  live s (fun s => if m = c || !compares s ⟨p.val, by omega⟩ then s
    else pairDiffers ((s.incSat PRT_LS_CNTp_lat_cnt p.val).logEv 0x4022 [p.val]) p true)

/-- A debug halt breaks the lockstep of a core pair (R319). -/
def haltPair (s : State) (c : Fin 2) : State :=
  ((s.put (if c.val = 0 then BDG_STATE_lsb_cpa else BDG_STATE_lsb_cpb) 1).logEv 0x4024 [c.val]).raise 0x1E c.val

/-- CORE_PAIR_RESTART (R317). -/
def execCorePairRestart (c : Fin 2) (s : State) : Out :=
  live s (fun s =>
    if !s.bdg.holds.testBit c.val || s.get BDG_STATE_unit == 2 then s
    else
      let s := s.modBdg (fun b => { b with holds := b.holds - 2 ^ c.val })
      let s := (s.putBit PRT_LS_STAT_restored c.val true).logEv 0x4025 [c.val]
      let s := (wdgRestart s ⟨c.val, by omega⟩).owlRec 0x11 3 [c.val]
      s.onIf (s.bdg.haltReq.testBit c.val) (fun s => haltPair (s.modBdg (fun b => { b with haltReq := b.haltReq - 2 ^ c.val })) c))

/-- DEBUG_HALT (R319): only in DEVELOP after unlock. During a restoration of the pair, the restoration completes first (R337). -/
def execDebugHalt (c : Fin 2) (s : State) : Out :=
  live s (fun s => s.onIf (s.getB LCS_STATE_dbg_open && s.get LCS_STATE_state == 2) (fun s =>
    if s.bdg.holds.testBit c.val then s.modBdg (fun b => { b with haltReq := b.haltReq ||| 2 ^ c.val })
    else haltPair s c))

/-- CKB_MONITOR (R321, R35): the CKB edges counted in a reference window. -/
def execCkbMonitor (edges : Nat) (s : State) : Out :=
  live s (fun s =>
    let bad := decide (edges < 75) || decide (125 < edges)
    let was := s.bdg.clkBad.testBit 8
    let s := s.putB CLK_STATUS_ckb_ok (!bad)
    let s := s.modBdg (fun b => { b with clkBad := if bad then b.clkBad ||| 256 else if was then b.clkBad - 256 else b.clkBad })
    s.onIf (bad && !was) (fun s => s.raise 8 edges))

/-- CKB_TRIM (R321). -/
def execCkbTrim (s : State) : Out :=
  live s (fun s => s.modBdg (fun b => { b with ckbTrim := Config.otpTrim 16 b.scv1 }))

/-- The bit of a rail: its source is 9 + bit. -/
def railBit : Rail → Nat
  | .core => 0
  | .pll => 1
  | .ser => 2
  | .cv => 3
  | .io => 4
  | .bdg => 5
  | .aon => 6

/-- SUPPLY_FAULT (R322): a rail has been outside its window for 2 µs. -/
def execSupplyFault (r : Rail) (s : State) : Out :=
  live s (fun s =>
    let s := s.modBdg (fun b => { b with railBad := b.railBad ||| 2 ^ railBit r })
    (s.logEv 0x4806 [railBit r]).raise (9 + railBit r) (railBit r))

/-- SUPPLY_RETURN (R529). -/
def execSupplyReturn (r : Rail) (s : State) : Out :=
  live s (fun s => s.onIf (s.bdg.railBad.testBit (railBit r)) (fun s =>
    faultNShow (s.modBdg (fun b => { b with railBad := b.railBad - 2 ^ railBit r }))))

/-- BDG_UNDERVOLT_RESET (R322, R329): the island is reset, its outputs at their fail-safe levels. The unit state and its
cause persist until a device reset (R335). -/
def execBdgUndervoltReset (s : State) : Out :=
  live s (fun s =>
    let s := safeEnLow (safeEnLow (s.put BDG_STATE_fault_n 0) 0) 1
    let s := (s.modTls (fun t => { t with xlOut := false })).put BDG_PARAM_CRC_crc 0
    let s := (s.put BDG_MB_REQ_go 0).put BDG_MB_STAT_busy 0
    let s := s.forN 6 (fun w s => s.put BDG_FSTATw_src 0 w)
    s.modBdg (fun b => { b with
      block := none, staged := none, counts := [], payloads := [], divRun := 0, divNow := false, reply := none, pulse := none,
      tm := Vector.replicate 4 ⟨0, 0, none, 0, 0, [], []⟩, wdg := Vector.replicate 3 ⟨s.now, true⟩, lastHold := Vector.replicate 7 none }))

/-- WDG_TIMEOUT (R325): no valid kick has arrived by wd_max; one that arrives on that tick is valid (R337). -/
def execWdgTimeout (c : Fin 3) (s : State) : Out :=
  live s (fun s => s.onIf (decide (s.bdg.wdg[c].last + (wdgWin s c).2 ≤ s.now)) (fun s => wdgFault s c))

/-- FAULT_READ (R340): the sticky and live bits, the counts and the last payloads. -/
def execFaultRead (seq : Nat) (s : State) : Out :=
  live s (fun s => mbReply s 0x0001 seq 0 (srcWords (fstat s) ++ srcWords (srcLive s)
    ++ (List.range 192).map (sget 0 s.bdg.counts) ++ (List.range 192).map (sget 0 s.bdg.payloads)))

/-- FAULT_CLEAR (R335): the named bits of unit-level sources that are not asserted. -/
def execFaultClear (seq : Nat) (srcs : List Nat) (s : State) : Out :=
  live s (fun s => faultNShow (mbReply (s.forL srcs (fun k s => s.onIf (decide (k < 0x40) && !srcLive s k) (fun s => fclear s k)))
    0x0002 seq 0 []))

/-- CLASS_READ (R340): the active class of each source. -/
def execClassRead (seq : Nat) (s : State) : Out :=
  live s (fun s => mbReply s 0x0003 seq 0 ((List.range 192).map (fun k => bclass s.bdg.block k)))

/-- PARAM_STAGE (R326, R340). -/
def execParamStage (seq : Nat) (block : List Nat) (crc : Nat) (s : State) : Out :=
  live s (fun s => let r := stageBlock s block crc; mbReply r.2 0x0010 seq r.1 [])

/-- PARAM_READ (R340): the active block; empty while the defaults are in force. -/
def execParamRead (seq : Nat) (s : State) : Out := live s (fun s => mbReply s 0x0011 seq 0 (s.bdg.block.getD []))

/-- MON_READ (R340): the torque monitor and angle state of each channel. -/
def execMonRead (seq : Nat) (s : State) : Out :=
  live s (fun s => mbReply s 0x0020 seq 0 ((List.finRange 4).flatMap (fun n =>
    let t := s.bdg.tm[n]
    [t.dev, t.angCnt, t.ang.getD 0, toField 32 t.speed, t.below])))

/-- SAFE_EN_PULSE_END (R393): the pulse of PRT_TEST ends and the output returns high, unless DEV_SAFE or a lost CKP (R331) holds it. -/
def execSafeEnPulseEnd (s : State) : Out :=
  live s (fun s => match s.bdg.pulse with
    | none => s
    | some i =>
      let s := s.modBdg (fun b => { b with pulse := none })
      s.onIf (s.get BDG_STATE_unit != 2 && !s.bdg.clkBad.testBit 1) (fun s => s.put (if i = 0 then BDG_STATE_safe_en0 else BDG_STATE_safe_en1) 1))

end Sys2Proof.Machine
end

