-- ==== Sys2Proof/Machine/ChanCmd.lean ====
section
/-! DEFINITION. What the channel commands do (R271 to R275, R292, R293): each answers the status of R530 with the new state. -/

namespace Sys2Proof.Machine

/-- The unit is STANDBY. -/
def isStandby (s : State) : Bool := s.get TLS_STAT_role == 2

/-! ### The Sett budget (R425) -/

/-- The entries of class FAST of a port, in entry order. -/
def fastEntries (s : State) (p : Port) : List Nat :=
  ((List.range 255).map (fun a => 256 * p.val + a)).filter (fun e => s.getB SETT_NODEe_CFG_present e && s.get SETT_NODEe_CFG_class e == 2)

/-- The bytes of an entry's slot. -/
def slotLen (s : State) (e : Nat) : Nat := if s.getB SETT_NODEe_CFG_slot8 e then 8 else 4

/-- The bytes of a port's FAST frame. -/
def fastBytes (s : State) (p : Port) : Nat := 8 + ((fastEntries s p).map (slotLen s)).sum

/-- D_ring and D_line in tk. -/
def settDur (s : State) (p : Port) : Nat × Nat :=
  let b := fastBytes s p
  let l := s.get SETTp_TIME_loop p.val
  (64 * b + l, 64 * b + 2 * l + 64)

/-- The channel that triggers a port. -/
def settCh (s : State) (p : Port) : Ch := chOf (s.get SETTp_CFG_ch p.val)

/-- The control period of the channel that triggers a port, in tk, by the period that its commits carry. -/
def settCtl (s : State) (p : Port) : Nat := ctrlOf s (.ch (settCh s p)) (commitPer s (settCh s p)) / 128

/-- The port's durations fit its cycle. -/
def settBudgetOk (s : State) (p : Port) : Bool :=
  let d := settDur s p
  decide (128 * (max d.1 d.2 + s.get SETTp_GUARD_guard p.val)
    ≤ s.get SETTp_CFG_div p.val * ctrlOf s (.ch (settCh s p)) (commitPer s (settCh s p)))

/-- `SETTp_BUDGET` shows the durations. -/
def settBudgetShow (s : State) (p : Port) : State :=
  let d := settDur s p
  (s.put SETTp_BUDGET_d_ring (min d.1 0xFFFF) p.val).put SETTp_BUDGET_d_line (min d.2 0xFFFF) p.val

/-! ### CH_ENABLE (R272) -/

/-- The overcurrent lines of a channel are configured as R272 asks. -/
def ocOk (s : State) (n : Ch) : Bool :=
  let maps (b : Nat) : Bool := (mapLegs (fltLegs s b)).any (fun k => legChan s k.val == some n.val)
  (List.range 16).all (fun m =>
    (!s.getBit CHn_OC_cyc_lines m n.val || (fltMode s (16 + m) == 1 && maps (16 + m)))
    && (!s.getBit CHn_OC_trip_lines m n.val || (fltMode s (16 + m) == 2 && fltPat s (16 + m) == 3 && maps (16 + m)))
    && (!s.getBit CHn_OC_FLT_trip_flt m n.val || (fltMode s m == 2 && fltPat s m == 3 && maps m)))

/-- The longest dead time plus MINPW of the channel's legs, in tk, rounded up (R240). -/
def legMinTime (s : State) (n : Ch) : Nat :=
  (carrLegs s (.ch n)).foldl (fun m k =>
    max m ((max (deadOf s k true) (deadOf s k false) + s.get LEGk_MINPW_minpw k.val + 127) / 128)) 0

/-- R240 finds nothing wrong. -/
def fieldOk (s : State) (n : Ch) : Bool :=
  (s.get SPn_PSI_value n.val != 0
      || !(s.getB SPn_FLD_CTL_ref_torque n.val || s.getB SPn_FLD_CTL_obs_en n.val || s.getB SPn_FLD_CTL_ke_en n.val))
    && s.get SPn_MACH_pp n.val != 0 && s.get SPn_IMAX_imax n.val != 0
    && (!(s.get SPn_FLD_CTL_mode n.val == 1 || s.getB SPn_FLD_CTL_rec_en n.val || s.getB SPn_FLD_CTL_ipd_en n.val)
      || decide (legMinTime s n ≤ s.get SPn_DTC_CFG_dec_min n.val))

/-- Every base of a channel is set (R48). -/
def basesOk (s : State) (n : Ch) : Bool :=
  s.get SPn_I_BASE_base n.val != 0 && s.get SPn_V_BASE_base n.val != 0 && s.get SPn_W_BASE_base n.val != 0

/-- The converters that feed a channel are powered as R104 asks. -/
def convOk (s : State) (n : Ch) : Bool :=
  s.profOf n.val == 3 || (List.finRange 8).all (fun c => !feeds s c n.val || cvMode s c == 1)

/-- The last sample of the channel's link is at or above `pre_done`. -/
def linkReady (s : State) (n : Ch) : Bool := match linkOf s n with
  | none => false
  | some l => decide (s.getS PRT_LNKl_PRE_pre_done l.val ≤ s.links[l].hist.headD (-32768))

/-- The checks of R272. -/
def enableChecks (s : State) (n : Ch) : Bool :=
  budgetOk s n (commitPer s n) (actBank s n.val) && basesOk s n && convOk s n && isSealed s n.val (actBank s n.val)
    && fieldOk s n && (!angleUnknown s n || s.getB SPn_FLD_CTL_ipd_en n.val) && linkReady s n && ocOk s n
    && s.get THM_STAT_level != 4
    && (List.finRange 2).all (fun p => !s.getB SETTp_CFG_en p.val || settCh s p != n || settBudgetOk s p)

/-- LOCKSTEP_BROKEN is latched for the pair that supervises the channel (R319). -/
def lsBroken (s : State) (n : Ch) : Bool :=
  if s.getBit BDG_SUPV_cpb n.val then s.getB BDG_STATE_lsb_cpb else s.getB BDG_STATE_lsb_cpa

/-- The absent measurements of a channel are found and logged (R204). -/
def absentShow (s : State) (n : Ch) : State :=
  s.forN 8 (fun k s =>
    let a := measRead s n.val k && measAbsent s n k
    (s.putBit SPn_FBSTAT_absent k a n.val).onIf a (fun s => s.logEv 0x310E [n.val, k]))

/-- The Sett ports that a channel triggers show their durations again (R425). -/
def settShowFor (s : State) (n : Ch) : State :=
  s.forL (List.finRange 2) (fun p s => s.onIf (settCh s p == n) (fun s => settBudgetShow s p))

/-- A channel enters RUN. -/
def enterRun (s : State) (n : Ch) (cause : Nat) : State :=
  let s := setState (absentShow s n) n 3 cause
  spEnter (s.modChan n (fun c => { c with outEn := false, resume := false, cold := none })) n

/-- CH_ENABLE (R271, R272, R275, R319, R358). -/
def chEnable (s : State) (n : Ch) : Nat × State :=
  let s := settShowFor (budgetShow s n) n
  if isStandby s || lsBroken s n then (0x22, s)
  else match s.chState n.val with
    | 2 => if enableChecks s n then (0, enterRun s n 0xFF) else (0x14, s)
    | 3 => (0, s)
    | 4 => if !s.getB CHn_STATE_safety n.val && s.getB CHn_SAFECFG_stop_resume n.val then
        (0, s.modChan n (fun c => { c with resume := true })) else (0x22, s)
    | 5 => (0x41, s)
    | _ => (0x22, s)

/-! ### The other channel commands -/

/-- CH_STOP (R271, R264, R292). -/
def chStopCmd (s : State) (n : Ch) : Nat × State :=
  match s.chState n.val with
  | 1 => (0, match linkOf s n with
      | some l => preAbandon s l 0xFF
      | none => setState s n 0 0xFF)
  | 3 => (0, if s.get SPn_FLD_STAT_task n.val != 0 && s.get SPn_FLD_STAT_task n.val != 4 then
        modDtc s n (fun d => { d with stopWait := true })
      else enterStop s n 0xFF false)
  | 5 => (0x41, s)
  | _ => (0, s)

/-- CH_PRECHARGE (R271, R292, R358). -/
def chPrecharge (s : State) (n : Ch) : Nat × State :=
  if isStandby s then (0x22, s)
  else match linkOf s n with
    | none => (0x14, s)
    | some l =>
      match s.chState n.val, s.get PRT_LNKl_STAT_lstate l.val with
      | 0, 2 => (0, setState s n 2 0xFF)
      | 0, 1 => (0, setState s n 1 0xFF)
      | 0, 0 => (0, preStart s l)
      | 0, _ => (0x41, s)
      | 1, _ => (0, s)
      | 2, _ => (0, s)
      | 5, _ => (0x41, s)
      | _, _ => (0x22, s)

/-- CH_DISCHARGE (R271, R293, R358). -/
def chDischarge (s : State) (n : Ch) : Nat × State :=
  if isStandby s then (0x22, s)
  else match linkOf s n with
    | none => (0x14, s)
    | some l =>
      match s.chState n.val with
      | 5 => (0, s)
      | 1 => (0x22, s)
      | 3 => (0x22, s)
      | 4 => (0x22, s)
      | _ =>
        let quiet := (members s l).all (fun m => [0, 2, 5].contains (s.chState m.val)
          || (s.chState m.val == 6 && s.get CHn_STATE_pat m.val == 1))
        if quiet && !(s.get PRT_LNKl_DIS_dis_mode l.val == 0 && !s.getB PRT_LNKl_CFG_chop_en l.val) then (0, disStart s l)
        else (0x22, s)

/-- The W1C status bits of a channel in `CHn_OCSTAT` are cleared, and those of its link (R271, R289). -/
def ocClear (s : State) (n : Ch) : State := motoringClear (s.put CHn_OCSTAT_oc_trip 0 n.val) n

/-- What still holds a channel in SAFE (R273 step 1). -/
def stillFaulty (s : State) (n : Ch) : Bool :=
  (List.range 192).any (fun k => srcLive s k && decide (2 ≤ classOf s k) && (appliesNow s k).contains n)
    || (carrLegs s (.ch n)).any (fun k => (firstLatch s k.val).isSome)
    || (match linkOf s n with
      | some l => decide (s.getS PRT_LNKl_OV2_ov_asc l.val ≤ s.links[l].hist.headD (-32768))
      | none => false)

/-- The sticky bits of a channel's own sources are cleared (R335). -/
def chSrcClear (s : State) (n : Ch) : State := s.forN 32 (fun k s => fclear s (chSrc n.val k))

/-- CH_CLEAR_FAULT (R271, R273). On success in SAFE `safety`, `ss`, `held` and `pat` are cleared with the change of state, the
channel's sticky source bits (R335) and, where R289 allows it, the link's clamp; `CHn_OCSTAT` keeps its bits. -/
def chClearFault (s : State) (n : Ch) : Nat × State :=
  if s.chState n.val != 6 then (0, ocClear s n)
  else if stillFaulty s n then (0x50, s)
  else if s.get CHn_STATE_pat n.val != 1 then
    let pat := patOfSel (s.get CHn_STATE_pat n.val)
    let ok := s.getB CHn_SAFECFG_asc_resume n.val && s.getB SPn_FLD_CTL_rec_en n.val
      && s.get CHn_SWFAIL_hs n.val == 0 && s.get CHn_SWFAIL_ls n.val == 0 && enableChecks s n && !lsBroken s n
    if ok then
      let s := enterRun (chSrcClear (motoringClear s n) n) n 0xFF
      let s := ((s.put SPn_FLD_STAT_task 3 n.val).put SPn_FLD_STAT_engine 1 n.val).put SPn_FLD_STAT_rec_cnt 0 n.val
      let s := modDtc s n (fun d => { d with recPat := some pat })
      (0, driveVec s n (patVec pat))
    else (0x22, s)
  else
    let charged := match linkOf s n with
      | some l => s.get PRT_LNKl_STAT_lstate l.val == 2
      | none => false
    (0, setState (chSrcClear (motoringClear s n) n) n (if charged then 2 else 0) 0xFF)

end Sys2Proof.Machine
end

