-- ==== Sys2Proof/Machine/Ckpt.lean ====
section
/-! DEFINITION. A channel's CHECKPOINT as bytes (R351) and its adoption (R357). The bytes whose place R351 does not give go through
`Config.ckptByte` and `Config.ckptItem` (assumption 51). -/

namespace Sys2Proof.Machine

/-- A signed number of `n` bytes, little-endian. -/
def leS (n : Nat) (v : Int) : List Nat := leBytes n (toField (8 * n) v)
/-- `n` bytes at `i` as a number. -/
def leAt (l : List Nat) (i n : Nat) : Nat := leNat ((l.drop i).take n)
/-- The word whose 9-byte image stands at `i`. -/
def wordAt (l : List Nat) (i : Nat) : QWord :=
  let v := leAt l i 9
  ⟨ofField 36 v, ofField 36 (v / 2 ^ 36)⟩

/-- The items of a checkpoint whose place R351 does not give. -/
def ckptItems (s : State) (n : Ch) : List Int :=
  let p := s.sp n
  let f := p.fld
  [(p.sPrev : Int), p.frozen] ++ (List.finRange 8).map (fun k => (p.meas[k].miss : Int))
    ++ [(s.get SPn_FBSTAT_lost n.val : Int), (match p.holdEnd with
        | some t => t + 1
        | none => 0), f.iLim, f.tLim, f.tReg, f.stopClamp, p.osc.cnt, p.osc.n,
      f.watch.lrT, f.watch.lrTh0, f.watch.lrLow, f.watch.keOut, f.watch.keN, f.watch.psiF, f.obs.ok, f.obs.bad, f.obs.eps, f.fwMinT]

/-- The checkpoint of channel `n` without its CRC (R351). -/
def ckptBody (s : State) (n : Ch) : List Nat :=
  let st := s.chState n.val + 8 * s.get CHn_STATE_safety n.val + 16 * s.get CHn_STATE_pat n.val
    + 64 * s.get CHn_STATE_motoring_only n.val
  let b3 := s.get SPn_BANK_active n.val + 2 * s.get SPn_BANK_fb n.val + 4 * s.get SPn_CTL_spec n.val
    + 32 * s.get SPn_FLD_STAT_task n.val
  let w (k : Nat) : QWord := s.lw (spWord n.val k)
  let f := (s.sp n).fld
  let x := xHat s n
  let gens := (List.range 4).flatMap (fun g =>
    wordImage (w (0x844 + 8 * g)) ++ wordImage ⟨(w (0x845 + 8 * g)).x, (w (0x840 + 8 * g)).x⟩)
  let items := ckptItems s n
  let pif := s.pif n
  [0x01, n.val, st, b3] ++ leBytes 4 (s.get CHn_PERIOD_CNT_count n.val) ++ leBytes 8 (s.carrier (.ch n)).reloadTs
    ++ (List.range 16).flatMap (fun i => wordImage ⟨x.getD i 0, 0⟩)
    ++ wordImage (w 0x808) ++ wordImage (w 0x809) ++ gens
    ++ wordImage ⟨s.getS SPn_OBS_ANG_angle n.val, s.getS SPn_OBS_SPD_speed n.val⟩ ++ wordImage ⟨f.idInt, f.idFw⟩
    ++ (List.range 9).map (fun j => Config.ckptByte items j % 256) ++ wordImage f.dtc.psiS
    ++ wordImage ⟨(s.sp n).osc.h, (s.sp n).osc.amp⟩
    ++ leBytes 4 pif.count ++ leBytes 4 (s.get PIFn_REVPOS_rev_pos n.val) ++ leBytes 4 (s.get PIFn_ANGLE_angle n.val)
    ++ leBytes 8 (s.get64 PIFn_STS_LO_ts PIFn_STS_HI_ts n.val) ++ leS 4 (s.getS PIFn_SPD_speed n.val)
    ++ (List.range 35).map (fun j => Config.ckptByte items (9 + j) % 256)
    ++ leBytes 2 (s.get CHn_GEN_pend_gen n.val)

/-- The checkpoint of channel `n` (R351): 360 bytes. -/
def ckptBytes (s : State) (n : Ch) : List Nat :=
  let b := ckptBody s n
  b ++ leBytes 4 (crc32c b)

/-- A frame body of a length whose last four bytes are the CRC-32C of the rest (R349). -/
def frameOk (len : Nat) (b : List Nat) : Bool := b.length == len && leAt b (len - 4) 4 == crc32c (b.take (len - 4))

/-- The spindle's state, field stage, generators, detector and position count are replaced by a checkpoint's (R357). -/
def adoptBytes (s : State) (n : Ch) (b : List Nat) : State :=
  let it (i : Nat) : Int := Config.ckptItem b i
  let nat (i : Nat) : Nat := (it i).toNat
  let s := s.putPairs n.val 0x800 8 ((List.range 16).map (fun i => (wordAt b (16 + 9 * i)).x))
  let s := (s.putLw (spWord n.val 0x808) (wordAt b 160)).putLw (spWord n.val 0x809) (wordAt b 169)
  let s := s.forN 4 (fun g s =>
    let rv := wordAt b (178 + 18 * g)
    let at_ := wordAt b (187 + 18 * g)
    let old := s.lw (spWord n.val (0x840 + 8 * g))
    ((s.putLw (spWord n.val (0x844 + 8 * g)) rv).putLw (spWord n.val (0x845 + 8 * g)) ⟨at_.x, 0⟩).putLw
      (spWord n.val (0x840 + 8 * g)) ⟨at_.y, old.y⟩)
  let o := wordAt b 250
  let s := (s.putS SPn_OBS_ANG_angle o.x n.val).putS SPn_OBS_SPD_speed o.y n.val
  let idw := wordAt b 259
  let psi := wordAt b 277
  let ha := wordAt b 286
  let s := s.modSp n (fun p => { p with
    sPrev := nat 0 % 16, frozen := nat 1 % 65536,
    meas := (List.finRange 8).foldl (fun m k => vupd m k (fun q => { q with miss := nat (2 + k.val) })) p.meas,
    holdEnd := if nat 11 = 0 then none else some (nat 11 - 1),
    osc := { p.osc with h := ha.x, amp := ha.y, cnt := (it 16).toNat, n := (it 17).toNat },
    fld := { p.fld with
      idInt := idw.x, idFw := idw.y, iLim := sat36 (it 12), tLim := sat36 (it 13), tReg := sat36 (it 14), stopClamp := sat36 (it 15),
      watch := { p.fld.watch with lrT := nat 18, lrTh0 := nat 19 % 2 ^ 32, lrLow := nat 20, keOut := nat 21, keN := nat 22, psiF := sat36 (it 23) },
      obs := { p.fld.obs with ok := nat 24, bad := nat 25, eps := it 26 }, fwMinT := nat 27,
      dtc := { p.fld.dtc with psiS := psi } } })
  let s := s.put SPn_FBSTAT_lost (nat 10) n.val
  frzShow (abzSet s n (leAt b 295 4) (leAt b 299 4)) n

/-- A period is evaluated again in full from its agreed inputs and angles, under the state just loaded (R314 step 3, R357);
its commit is not sent, and the generation number does not move. `done`: its measurements have been accounted for. -/
def redoPeriod (s : State) (n : Ch) (meas : Vector Meas 8) (ang : Nat × Nat) (done : Bool) : State :=
  let g := (s.sp n).gen
  let s := (s.put SPn_ANG_M_angle ang.1 n.val).put SPn_ANG_U_angle ang.2 n.val
  let s := s.modSp n (fun p => { p with
    meas := (List.finRange 8).foldl (fun m k => vupd m k (fun q => { q with cur := meas[k].cur })) p.meas,
    isOpen := true, counted := done, waitHit := true, rejGate := none, spec := 0 })
  let s := account s n
  let pr := predict s n (s.sp n).sPrev
  let z := predictMeas s n ang.1 pr.1.2
  let ev := innovations s n z.1
  let s := fullEval s n (s.sp n).sPrev ev.1
  s.modSp n (fun p => { p with out := none, gen := g, isOpen := false })

/-- SNAPSHOT (R445, R446): bytes 2 to 355 of the checkpoint, 5 bytes to a word after the period number. -/
def snapshot (s : State) (n : Ch) : State :=
  let b := (ckptBody s n).drop 2
  s.owlRec 0x10 n.val (s.get CHn_PERIOD_CNT_count n.val :: (chunks 5 72 b).map leNat)

end Sys2Proof.Machine
end

