-- ==== Sys2Proof/Machine/Pair.lean ====
section
/-! DEFINITION. Active and standby units (R342 to R374): roles, the link, checkpoints, timebase alignment, takeover and
handover. -/

namespace Sys2Proof.Machine

/-! ### Roles and readiness (R345, R360) -/

/-- The role: 0 UNPAIRED, 1 ACTIVE, 2 STANDBY, 3 CLAIMING. -/
def tlsRole (s : State) : Nat := s.get TLS_STAT_role

/-- The role changes: the Standby cause of the output gate holds in STANDBY and CLAIMING. -/
def setRole (s : State) (r : Nat) : State :=
  if tlsRole s = r then s
  else
    let s := (s.put TLS_STAT_role r).logEv 0x5004 [r]
    let s := s.onIf (decide (r ≤ 1)) (fun s => s.onIf (s.get TLS_STAT_ready != 0) (fun s => setReady s 0 0))
    if 2 ≤ r then (if s.getB LEG_OGATE_standby then s else s.gateHold LEG_OGATE_standby)
    else if s.getB LEG_OGATE_standby then s.gateEnd LEG_OGATE_standby else s

/-- The unit becomes SYNCING: what READY asks for is counted afresh. -/
def syncing (s : State) : State :=
  let s := s.modTls (fun t => { t with
    adopted := Vector.replicate 4 0, missed := Vector.replicate 4 0, lastPer := Vector.replicate 4 none, meterOk := false,
    alignRun := 0, stray := 0, rx := Vector.replicate 4 [] })
  setReady (s.put TLS_STAT_aligned 0) 1 0

/-- The role becomes STANDBY, SYNCING. -/
def becomeStandby (s : State) : State :=
  syncing (setRole (s.modTls (fun t => { t with xlOut := false, waiting := false, claim := none, release := none, handoff := 0 })) 2)

/-- XL_OUT starts, unless Badger's unit state forbids it (R342). -/
def xlStart (s : State) : State := s.modTls (fun t => { t with xlOut := s.get BDG_STATE_unit == 0 })

/-- The unit claims the bridge at its start-up (R346): CLAIMING with XL_OUT, and ACTIVE once SEL_FB is high. -/
def claimStart (s : State) : State :=
  let s := xlStart (setRole (s.modTls (fun t => { t with waiting := false })) 3)
  s.onIf (s.getB TLS_STAT_sel_fb && s.tls.xlOut) (fun s => setRole s 1)

/-- The unit settles its role (R346). -/
def settleRole (s : State) : State :=
  if s.getB TLS_STAT_xl_in then becomeStandby s
  else if s.get TLS_CFG_start_role = 0 then claimStart s
  else s.modTls (fun t => { t with waiting := true })

/-- What READY needs (R360). -/
def checkReady (s : State) : State :=
  let good (n : Ch) : Bool := !s.chRuns n.val || decide (s.get TLS_CKCFG_sync_n ≤ s.tls.adopted[n])
  s.onIf (tlsRole s == 2 && s.get TLS_STAT_ready == 1 && s.getB TLS_STAT_digest_ok && s.getB TLS_STAT_aligned
      && (List.finRange 4).all good && s.tls.meterOk && s.tls.stray == 0)
    (fun s => setReady s 2 0)

/-! ### Reloads to come -/

/-- The first reload of a channel at or after a tick, in ticks. -/
def nextReload (s : State) (n : Ch) (ts : Nat) : Nat :=
  let r0 := periodEndFt s n
  let T := max 1 (ctrlFt s n)
  let w := ts * 128
  (if w ≤ r0 then r0 else r0 + (w - r0 + T - 1) / T * T) / 128

/-- The earliest reload of the channels `l` at or after a tick, with its channel. -/
def earliest (s : State) (l : List Ch) (ts : Nat) : Option (Nat × Ch) :=
  l.foldl (fun a n => match a with
    | none => some (nextReload s n ts, n)
    | some b => if nextReload s n ts < b.1 then some (nextReload s n ts, n) else a) none

/-- The channels in RUN or STOPPING. -/
def running (s : State) : List Ch := (List.finRange 4).filter (fun n => s.chRuns n.val)

/-! ### Takeover and handover (R361 to R368) -/

/-- A takeover begins (R361): from STANDBY, hot when READY, cold where `cold_en` permits it. -/
def takeoverBegin (s : State) (src : Nat) : State :=
  let started := match s.tls.claim with
    | some c => c.src != 2 || tlsRole s == 3
    | none => false
  if tlsRole s != 2 || started then s
  else
    let hot := s.get TLS_STAT_ready == 2 || (match s.tls.claim with
      | some c => c.hot
      | none => false)
    let s := s.logEv 0x500C [src]
    if !hot && !s.getB TLS_CFG_cold_en then s
    else
      let s := setRole (s.raise 0x2C src) 3
      let at_ := s.now + s.get TLS_CFG_hb_lead
      let e := earliest s (running s) at_
      s.modTls (fun t => { t with claim := some ⟨src, hot, s.now, (e.map (·.1)).getD at_, e.map (fun x => x.2.val), false, false⟩ })

/-- A takeover fails (R361 step 4). -/
def takeoverFail (s : State) : State :=
  let s := s.modTls (fun t => { t with xlOut := false, claim := none, handoff := 0 })
  ((setReady (setRole s 2) 3 0).logEv 0x500B).raise 0x2F 0

/-- The channels that a cold takeover puts into RUN (R368). -/
def coldSet (s : State) : Nat :=
  (List.finRange 4).foldl (fun v n => match linkOf s n with
    | some l => if s.getBit TLS_CKCFG_cold_ch n.val && s.get PRT_LNKl_STAT_lstate l.val == 2 then v + 2 ^ n.val else v
    | none => v) 0

/-- The unit takes the bridge at t_claim (R361 step 3, R362, R365, R368). -/
def takeoverDone (s : State) (c : Claim) : State :=
  let gap := s.now - c.det
  let kind := if c.src = 2 then 3 else if c.hot then 1 else 2
  let s := setRole (s.modTls (fun t => { t with claim := none, handoff := 0, takeoverFlag := t.takeoverFlag || kind != 3 })) 1
  let s := ((s.put TLS_LAST_TKO_src c.src).put TLS_LAST_TKO_kind kind).put TLS_LAST_TKO_gap (min gap 0xFFFFFF)
  match kind with
  | 1 => ((s.incSat TLS_CNT_tko_cnt).logEv 0x5009 [c.src, gap]).owlTrig 11
  | 2 => ((s.modTls (fun t => { t with coldPend := coldSet s, coldTs := s.now })).logEv 0x500A [c.src, gap]).owlTrig 11
  | _ => s.logEv 0x500D [gap]

/-- TAKEOVER_CLAIM (R361): SEL_FB was high at the tick before t_claim, or it is looked at once more at the next reload. -/
def takeoverClaim (s : State) : State :=
  match s.tls.claim with
  | none => s
  | some c =>
    if s.getB TLS_STAT_sel_fb && decide (s.tls.selTs < s.now) && s.tls.xlOut then takeoverDone s c
    else match c.chan, c.retry with
      | some n, false =>
        let t := nextReload s (chOf n) (s.now + 1)
        s.modTls (fun x => { x with claim := some { c with retry := true, claimTs := t } })
      | _, _ => takeoverFail s

/-- The release window has run its time: t_claim has come. -/
def releaseOver (s : State) : Bool := match s.tls.release with
  | none => false
  | some t => tlsRole s == 1 && decide (t + 560 + s.get TLS_CFG_hb_lead ≤ s.now)

/-- The old active unit at t_claim (R365 step 5): deselected, it is STANDBY; still selected, it goes on. -/
def releaseFinish (s : State) : State :=
  if s.getB TLS_STAT_sel_fb then xlStart (s.modTls (fun x => { x with release := none, handoff := 0 })) |>.logEv 0x500B
  else (becomeStandby s).logEv 0x500D [0]

/-- t_claim falls on a reload of the lowest-numbered running channel. -/
def releaseEnd (s : State) (n : Ch) : State := s.onIf (releaseOver s && (running s).head? == some n) releaseFinish

/-- With no channel running t_claim is an instant of its own. -/
def releaseIdle (s : State) : State := s.onIf (releaseOver s && (running s).isEmpty) releaseFinish

/-! ### Following the active unit (R356, R357) -/

/-- A channel enters SAFE because the active unit's is in SAFE. -/
def followSafe (s : State) (n : Ch) (safety pat : Nat) : State :=
  let s := if s.chState n.val = 6 then s else setState s n 6 0
  let s := (s.put CHn_STATE_safety safety n.val).put CHn_STATE_held 0 n.val
  if s.get CHn_STATE_pat n.val = pat then s else setPat s n pat

/-- The channel takes the state that a checkpoint's byte 2 names (R356, R359). -/
def followState (s : State) (n : Ch) (b2 : Nat) : State :=
  let st := b2 % 8
  let safety := b2 / 8 % 2
  let charged := match linkOf s n with
    | some l => s.get PRT_LNKl_STAT_lstate l.val == 2
    | none => false
  let go (s : State) (st : Nat) : State := if s.chState n.val = st then s else setState s n st 0
  if s.tls.stray.testBit n.val then s else
  let s := s.put CHn_STATE_motoring_only (b2 / 64 % 2) n.val
  if st = 6 then followSafe s n safety (b2 / 16 % 4)
  else if st = 2 ∨ st = 3 ∨ st = 4 then
    if !charged then strayMark (go s 0) n
    else if st = 2 then go s 2
    else if s.chRuns n.val then (if s.chState n.val = st then s else (setState s n st 0).put CHn_STATE_safety safety n.val)
    else if enableChecks s n then
      let s := enterRun s n 0
      if st = 4 then (setState s n 4 0).put CHn_STATE_safety safety n.val else s
    else strayMark s n
  else go s 0

/-- Adoption of a checkpoint body: the channel's state and bank, the spindle's state, and the commit number. -/
def adopt (s : State) (n : Ch) (b : List Nat) : State :=
  let s := followState s n (b.getD 2 0)
  let b3 := b.getD 3 0
  let s := ((s.put SPn_BANK_active b3 n.val).put SPn_BANK_fb (b3 / 2) n.val).put SPn_FLD_STAT_task (b3 / 32) n.val
  let s := budgetShow (stepShow s n) n
  (adoptBytes s n b).modSp n (fun p => { p with gen := (leAt b 354 2 + 1) % 65536 })

/-- The newest checkpoint that waits is adopted at a reload when its period is k or k − 1 (R357): `meas` and `ang` are the
agreed inputs of the period that has just ended. The first checkpoint adopted sets the period number (DEDUCED, assumption 56). -/
def adoptRx (s : State) (n : Ch) (meas : Vector Meas 8) (ang : Nat × Nat) (b : List Nat) : State :=
  let per : Nat := leAt b 4 4
  let s := s.onIf s.tls.lastPer[n].isNone (fun s => s.put CHn_PERIOD_CNT_count (per + 1) n.val)
  let back : Nat := (s.get CHn_PERIOD_CNT_count n.val + 2 ^ 32 - per) % 2 ^ 32
  if back = 1 ∨ back = 2 then
    let s := adopt s n b
    let s := s.onIf (back == 2) (fun s =>
      (s.incSat TLS_CNT_late_cnt).onIf (spRuns s n) (fun s => redoPeriod s n meas ang false))
    s.modTls (fun t => { t with
      adopted := t.adopted.set n.val (t.adopted[n] + 1), missed := t.missed.set n.val 0, lastPer := t.lastPer.set n.val (some per) })
  else s

/-- The checkpoint that should have been adopted by now, of a channel that runs, is missed (R357, R360). -/
def ckptMiss (s : State) (n : Ch) : State :=
  let p : Nat := s.get CHn_PERIOD_CNT_count n.val
  match s.tls.lastPer[n] with
  | none => s
  | some l =>
    if decide (2 < (p + 2 ^ 32 - l) % 2 ^ 32) && s.chRuns n.val then
      let s := (s.incSat TLS_CNT_miss_cnt).logRate 0x5006 0 (10 * tkMs) [n.val]
      let k := s.tls.missed[n] + 1
      let s := s.modTls (fun t => { t with adopted := t.adopted.set n.val 0, missed := t.missed.set n.val k })
      s.onIf (k == 3) (fun s => notReady s 1)
    else s

/-- The standby's work at a reload of a channel (R357, R360). A checkpoint that completes on the reload's own tick waits for the
next reload (R370). -/
def adoptAt (s : State) (n : Ch) (meas : Vector Meas 8) (ang : Nat × Nat) : State :=
  if tlsRole s != 2 then s
  else
    let s : State := match s.tls.rx[n].find? (fun e => decide (e.1 < s.now)) with
      | none => s
      | some e => adoptRx (s.modTls (fun t => { t with rx := t.rx.set n.val (t.rx[n].filter (fun e => s.now ≤ e.1)) })) n meas ang e.2
    checkReady (ckptMiss s n)

/-- A cold takeover puts the channel into RUN at its first reload after t_claim (R368). -/
def coldEnter (s : State) (n : Ch) : State :=
  if !s.tls.coldPend.testBit n.val || s.now ≤ s.tls.coldTs then s
  else
    let s := s.modTls (fun t => { t with coldPend := t.coldPend - 2 ^ n.val })
    if !enableChecks s n then safeRequest s n 0x2C
    else
      let s := (enterRun s n 0).modChan n (fun c => { c with cold := some s.now })
      let s := modDtc s n (fun d => { d with tHat := 0, ubar := [] })
      if srcValid s n then hoState ((s.put SPn_FLD_STAT_task 0 n.val).put SPn_FLD_STAT_engine 0 n.val) n
      else if !s.getB SPn_FLD_CTL_rec_en n.val || s.get SPn_REC_recap_n n.val == 0 then recapFail s n
      else ((s.put SPn_FLD_STAT_task 3 n.val).put SPn_FLD_STAT_engine 1 n.val).put SPn_FLD_STAT_rec_cnt 0 n.val

/-! ### Frames (R349 to R353) -/

/-- A discarded frame. -/
def frameBad (s : State) : State := s.incSat TLS_CNT_crc_err

/-- A frame of a type and length with a good CRC, or none. -/
def frameIs (len type : Nat) (b : List Nat) : Bool := frameOk len b && b.headD 0 == type

/-- A lane carries frames: it is up and `lane_mask` enables it (R348, R350). -/
def laneUsed (s : State) (i : Nat) : Bool := s.getBit TLS_STAT_lane_up i && s.getBit TLS_CFG_lane_mask i

/-- The lane of a frame (R350): with both lanes in use the one assigned to its kind (0x10 + n the checkpoints of channel n, 0x18 the
meter's, 1 TIMEBASE_SYNC, 2 HEARTBEAT, 3 CONFIG_DIGEST), with one in use that one. A lane that the mask turns off counts as not up
(DEDUCED, assumption 124). -/
def laneOf (s : State) (key : Nat) : Option Nat :=
  if laneUsed s 0 && laneUsed s 1 then some (if [0x12, 0x13, 0x18, 3].contains key then 1 else 0)
  else if laneUsed s 0 then some 0
  else if laneUsed s 1 then some 1
  else none

/-- A body with its CRC leaves on its lane: `tx` holds the last frame of each kind on each lane, lane i from 0x100 · i on. -/
def putFrame (s : State) (key : Nat) (b : List Nat) : State :=
  if !(s.getB TLS_CFG_en && s.tls.link) then s
  else match laneOf s key with
    | none => s
    | some i => s.modTls (fun t => { t with tx := sput [] t.tx (0x100 * i + key) b })

/-- A frame leaves: its body with its CRC. -/
def sendFrame (s : State) (key : Nat) (b : List Nat) : State := putFrame s key (b ++ leBytes 4 (crc32c b))

/-- The link takes a frame from a lane only while the mask enables it (R350). -/
def rxOn (s : State) (i : Fin 2) (f : State → State) : State := s.onIf (laneUsed s i.val) f

/-- The meter checkpoint (R352). -/
def meterCkpt (s : State) : List Nat :=
  let tot (lo hi : Fld) : List Nat := leBytes 8 (s.get64 lo hi)
  [0x01, 0x08, 0, 0] ++ leBytes 4 (s.get CHn_PERIOD_CNT_count 0) ++ leBytes 8 s.now
    ++ tot MTR_EPOS_LO_total MTR_EPOS_HI_total ++ tot MTR_ENEG_LO_total MTR_ENEG_HI_total
    ++ tot MTR_QPOS_LO_total MTR_QPOS_HI_total ++ tot MTR_QNEG_LO_total MTR_QNEG_HI_total
    ++ leBytes 4 (s.get MTR_SEQ_seq) ++ leBytes 8 s.mtr.lastTs
    ++ (List.range 4).flatMap (fun k => leBytes 4 (s.get MTR_CURPACKk_id k))

/-- TS of the next carrier zero of a channel, 0 while its carrier does not run. -/
def nextZero (s : State) (n : Ch) : Nat :=
  let c := s.carrier (.ch n)
  if !c.run then 0 else (c.zeroFt + (if carrMode s (.ch n) = 0 then c.hUp + c.hDn else c.hUp)) / 128

/-- A TIMEBASE_SYNC body leaves (R353). -/
def sendSync (s : State) : State :=
  let e := s.tls.echo.getD (0, 0)
  let b := [0x10, s.tls.syncSeq % 256, 0, 0] ++ leBytes 8 s.now ++ leBytes 8 e.1 ++ leBytes 8 e.2
    ++ (List.finRange 4).flatMap (fun n => leBytes 4 (nextZero s n))
  (sendFrame s 1 b).modTls (fun t => { t with syncSeq := t.syncSeq + 1 })

/-- A HEARTBEAT body leaves (R353). -/
def sendBeat (s : State) : State :=
  let fl := if tlsRole s = 1 then (if s.tls.handoff = 1 then 1 else 0) else if s.tls.handoff = 2 then 2 else 0
  let b := [0x20, tlsRole s, s.get BDG_STATE_unit, s.get TLS_STAT_ready, fl, 0, 0, 0] ++ leBytes 4 s.tls.hbSeq
  (sendFrame s 2 b).modTls (fun t => { t with hbSeq := t.hbSeq + 1 })

/-- The errors of the running carriers against the peer, in ft (R355). -/
def alignErrs (s : State) (off : Int) : List Int :=
  (List.finRange 4).filterMap (fun n =>
    let c := s.carrier (.ch n)
    let z := s.tls.zeros.getD n.val 0
    let P : Nat := max 1 (if carrMode s (.ch n) = 0 then c.hUp + c.hDn else c.hUp)
    if !c.run || z = 0 then none
    else
      let d := 128 * ofField 32 (toField 32 ((c.zeroFt / 128 : Nat) + off - z)) + (c.zeroFt % 128 : Nat)
      let e := d % (P : Int)
      some (if (P : Int) < 2 * e then e - P else e))

/-- The alignment is judged at a sync (R355). -/
def alignJudge (s : State) (off : Int) : State :=
  if tlsRole s != 2 then s
  else
    let es := alignErrs s off
    let worst := es.foldl (fun a e => if |a| < |e| then e else a) 0
    let tk := roundHE worst 128
    let was := decide (8 < |s.getS TLS_ALIGN_err|)
    let s := (s.putS TLS_ALIGN_err (satTo (-32768) 32767 tk)).put TLS_ALIGN_err_max (min (max (s.get TLS_ALIGN_err_max) tk.natAbs) 0xFFFF)
    let k := if decide (|worst| ≤ 256) then s.tls.alignRun + 1 else 0
    let s := (s.modTls (fun t => { t with alignRun := k })).putB TLS_STAT_aligned (decide (10 ≤ k))
    let s := if decide (1024 < |worst|) then
        notReady (if was then s else s.logEv 0x5008 [toField 16 tk]) 3
      else s
    checkReady s

/-- A standby's carriers start with the active unit's (R355). -/
def peerStart (s : State) : Bool := tlsRole s == 2 && s.tls.link

/-- The active carrier's next zero in the unit's own TS, in ft (R355): the last sync's, in periods of the shadow values from there on.
A sync names the channels' zeros only; an auxiliary leg's instant is the command's. -/
def peerZeroFt (s : State) (n : Ch) : Option Nat :=
  let z : Nat := s.tls.zeros.getD n.val 0
  match s.tls.ofs with
  | [] => none
  | o :: _ =>
    if z = 0 then none
    else
      let P : Nat := max 1 (s.get CHn_PER_per n.val)
      let d := 128 * ofField 32 (toField 32 ((z : Int) - o.2 - s.now))
      some ((s.now : Int) * 128 + (if 0 < d then d else d % (P : Int) + P)).toNat

/-- The channels' carriers that wait for the active unit's learn their instant (R355). -/
def peerArm (s : State) : State :=
  s.forL (List.finRange 4) (fun n s =>
    s.onIf (peerStart s && (s.carrier (.ch n)).waiting && (s.carrier (.ch n)).startFt.isNone) (fun s =>
      s.modCarr (.ch n) (fun c => { c with startFt := peerZeroFt s n })))

/-- TIMEBASE_SYNC_RX (R354). -/
def syncRx (s : State) (b : List Nat) : State :=
  if !frameIs 48 0x10 b then frameBad s
  else
    let t1 : Int := leAt b 12 8
    let t2 : Int := leAt b 20 8
    let t3 : Int := leAt b 4 8
    let t4 : Int := s.now
    let s := s.modTls (fun t => { t with
      echo := some (leAt b 4 8, s.now), zeros := (List.range 4).map (fun k => leAt b (28 + 4 * k) 4) })
    if t1 = 0 then s
    else
      let d := roundHE ((t4 - t1) - (t3 - t2)) 2
      let off := roundHE (128 * ((t2 - t1) + (t3 - t4)) + 2 * s.getS TLS_TRIM_asym) 256
      let s := (s.put64 TLS_PEER_OFS_LO_ofs TLS_PEER_OFS_HI_ofs (toField 64 off)).put TLS_DELAY_d (min d.toNat 0xFFFF)
      let s := s.modTls (fun t => { t with ofs := ((s.now, off) :: t.ofs).take 16 })
      alignJudge (peerArm s) off

/-- The standby accepts a handover (R365 step 2). -/
def acceptHandoff (s : State) : State :=
  let at_ := s.now + s.get TLS_CFG_hb_lead + 5200
  let n := match running s with
    | n :: _ => some n
    | [] => none
  let t := (n.map (fun n => nextReload s n at_)).getD at_
  let s := s.modTls (fun x => { x with handoff := 2, claim := some ⟨2, true, s.now, t, n.map (·.val), false, false⟩ })
  sendBeat s

/-- HEARTBEAT_RX (R353, R361, R365, R370). -/
def beatRx (s : State) (b : List Nat) : State :=
  if !frameIs 16 0x20 b then frameBad s
  else
    let unit := b.getD 2 0 % 4
    let fl := b.getD 4 0
    let s := ((s.put TLS_STAT_peer_role (b.getD 1 0)).put TLS_STAT_peer_unit unit).put TLS_STAT_peer_ready (b.getD 3 0)
    if unit = 1 ∨ unit = 2 then
      match s.tls.claim with
      | some c => if tlsRole s = 3 ∧ c.det = s.now ∧ c.src = 0 then
          s.modTls (fun t => { t with claim := some { c with src := 1 } }) else takeoverBegin s 1
      | none => takeoverBegin s 1
    else if tlsRole s = 2 ∧ fl.testBit 0 ∧ s.get TLS_STAT_ready = 2 ∧ s.tls.claim = none then acceptHandoff s
    else if tlsRole s = 1 ∧ fl.testBit 1 ∧ s.tls.handoff = 1 then s.modTls (fun t => { t with handoff := 2 })
    else s

/-- CONFIG_DIGEST_RX (R360). -/
def digestRx (s : State) (b : List Nat) : State :=
  if !frameIs 40 0x30 b then frameBad s
  else
    let d := (b.drop 4).take 32
    let same := d == digestBytes s
    let s := (s.modTls (fun t => { t with peerDigest := some d })).putB TLS_STAT_digest_ok same
    if same then checkReady s else notReady ((s.logEv 0x5007).raise 0x2E 0) 2

/-- METER_CHECKPOINT_RX (R358): a STANDBY unit takes the totals. -/
def meterRx (s : State) (b : List Nat) : State :=
  if !(frameIs 80 0x01 b && b.getD 1 0 % 16 == 8) then frameBad s
  else if tlsRole s != 2 then s
  else
    let put (s : State) (lo hi : Fld) (i : Nat) : State := s.put64 lo hi (leAt b i 8)
    let s := put (put (put (put s MTR_EPOS_LO_total MTR_EPOS_HI_total 16) MTR_ENEG_LO_total MTR_ENEG_HI_total 24)
      MTR_QPOS_LO_total MTR_QPOS_HI_total 32) MTR_QNEG_LO_total MTR_QNEG_HI_total 40
    let s := s.put MTR_SEQ_seq (leAt b 48 4)
    let s := { s with mtr := { s.mtr with lastTs := leAt b 52 8 } }
    let s := s.forN 4 (fun k s => s.put MTR_CURPACKk_id (leAt b (60 + 4 * k) 4) k)
    checkReady (s.modTls (fun t => { t with meterOk := true }))

/-! ### Meanings -/

/-- Runs a change of the pairing block; while `en` is 0 the chapter does not apply (R345). -/
def paired (s : State) (f : State → State) : Out := live s (fun s => s.onIf (s.getB TLS_CFG_en) f)

/-- ROLE_SETTLE (R346): the Reset cause of the output gate has been released; without `auto_rejoin` only PAIR_REJOIN settles the
role after a reset (R369). -/
def execRoleSettle (s : State) : Out :=
  paired s (fun s => s.onIf (tlsRole s == 0 && !s.tls.waiting && !s.getB LEG_OGATE_reset && s.getB TLS_CFG_auto_rejoin) settleRole)

/-- START_WAIT_EXPIRED (R346): no heartbeat appeared, and the unit proceeds as PRIMARY. -/
def execStartWaitExpired (s : State) : Out := paired s (fun s => s.onIf s.tls.waiting claimStart)

/-- HEARTBEAT_PRESENT (R343, R346): a heartbeat appears on XL_IN. -/
def execHeartbeatPresent (s : State) : Out :=
  live s (fun s =>
    let s := s.put TLS_STAT_xl_in 1
    s.onIf (s.getB TLS_CFG_en && s.tls.waiting) becomeStandby)

/-- HEARTBEAT_MISSING (R343, R361). -/
def execHeartbeatMissing (s : State) : Out :=
  live s (fun s =>
    let s := s.put TLS_STAT_xl_in 0
    s.onIf (s.getB TLS_CFG_en) (fun s => takeoverBegin s 0))

/-- STANDBY_DEMOTE (R347). -/
def execStandbyDemote (s : State) : Out :=
  paired s (fun s => s.onIf (s.tls.xlOut && !s.getB TLS_STAT_sel_fb && s.getB TLS_STAT_xl_in) becomeStandby)

/-- SEL_FB_CHANGE (R343, R346): the new level. -/
def execSelFbChange (lvl : Bool) (s : State) : Out :=
  live s (fun s =>
    let s := (s.putB TLS_STAT_sel_fb lvl).modTls (fun t => { t with selTs := s.now })
    s.onIf (s.getB TLS_CFG_en && lvl && tlsRole s == 3 && s.tls.claim.isNone && s.tls.xlOut) (fun s => setRole s 1))

/-- SELECTOR_FAULT (R371): SEL_FB has disagreed with the role for 2 µs. -/
def execSelectorFault (s : State) : Out :=
  paired s (fun s =>
    let fb := s.getB TLS_STAT_sel_fb
    s.onIf ((tlsRole s == 1 && !fb && s.tls.release.isNone) || (tlsRole s == 2 && fb)) (fun s => s.raise 0x2F 0))

/-- TAKEOVER_XL_START (R361 step 2). -/
def execTakeoverXlStart (s : State) : Out :=
  paired s (fun s => match s.tls.claim with
    | none => s
    | some c => xlStart (setRole (s.modTls (fun t => { t with claim := some { c with started := true } })) 3))

/-- TAKEOVER_CLAIM (R361). -/
def execTakeoverClaim (s : State) : Out := paired s takeoverClaim

/-- HANDOFF_RELEASE (R365 step 3): with the accept XL_OUT stops; without it the handover is abandoned. -/
def execHandoffRelease (s : State) : Out :=
  paired s (fun s =>
    if tlsRole s != 1 || s.tls.handoff == 0 then s
    else if s.tls.handoff = 2 then s.modTls (fun t => { t with xlOut := false, release := some s.now })
    else (s.modTls (fun t => { t with handoff := 0 })).logEv 0x500B)

/-- LANE_UP (R348, R360): the receiver is locked to the peer (R33, R38). -/
def execLaneUp (i : Fin 2) (s : State) : Out :=
  paired s (fun s => s.onIf (!s.getBit TLS_STAT_lane_up i.val) fun s =>
    let s := ((s.putBit TLS_STAT_lane_up i.val true).put CLK_STATUS_t_lock 1).logEv 0x5003 [i.val, 1]
    if s.tls.link then s
    else
      let s := (s.modTls (fun t => { t with link := true })).logEv 0x5001
      let back := s.get TLS_STAT_ready == 3 && (s.get TLS_STAT_nr_cause == 1 || s.get TLS_STAT_nr_cause == 4) && s.tls.wentDown
      s.onIf (tlsRole s == 2 && (back || s.get TLS_STAT_ready == 1)) syncing)

/-- LANE_DOWN (R348): with no lane up, no receiver is locked (R33, R38). -/
def execLaneDown (i : Fin 2) (s : State) : Out :=
  paired s (fun s => s.onIf (s.getBit TLS_STAT_lane_up i.val) fun s =>
    let s := (s.putBit TLS_STAT_lane_up i.val false).logEv 0x5003 [i.val, 0]
    s.onIf (s.get TLS_STAT_lane_up == 0) (fun s => s.put CLK_STATUS_t_lock 0))

/-- LINK_DOWN (R348, R360, R367, R370): both lanes have been down for 10 µs. -/
def execLinkDown (s : State) : Out :=
  paired s (fun s =>
    if !s.tls.link || s.get TLS_STAT_lane_up != 0 then s
    else
      let s := ((s.modTls (fun t => { t with link := false })).logEv 0x5002).raise 0x2D 0
      let s := (notReady s 4).modTls (fun t => { t with wentDown := true })
      if tlsRole s = 1 ∧ s.tls.handoff = 1 then (s.modTls (fun t => { t with handoff := 0 })).logEv 0x500B
      else s.modTls (fun t => { t with claim := t.claim.map (fun c => if c.src = 2 then { c with src := 0 } else c) }))

/-- CHECKPOINT_RX (R349, R357): the body waits for the channel's next reload. -/
def execCheckpointRx (i : Fin 2) (b : List Nat) (s : State) : Out :=
  paired s (fun s => rxOn s i (fun s =>
    if !(frameIs 360 0x01 b && decide (b.getD 1 0 < 4)) then frameBad s
    else if tlsRole s = 2 then s.modTls (fun t =>
      let n : Ch := chOf (b.getD 1 0)
      { t with rx := t.rx.set n.val (((s.now, b) :: t.rx[n]).take 2) })
    else s))

/-- METER_CHECKPOINT_RX (R358). -/
def execMeterCheckpointRx (i : Fin 2) (b : List Nat) (s : State) : Out := paired s (fun s => rxOn s i (fun s => meterRx s b))
/-- TIMEBASE_SYNC_RX (R354, R355). -/
def execTimebaseSyncRx (i : Fin 2) (b : List Nat) (s : State) : Out := paired s (fun s => rxOn s i (fun s => syncRx s b))
/-- HEARTBEAT_RX (R353). -/
def execHeartbeatRx (i : Fin 2) (b : List Nat) (s : State) : Out := paired s (fun s => rxOn s i (fun s => beatRx s b))
/-- CONFIG_DIGEST_RX (R360). -/
def execConfigDigestRx (i : Fin 2) (b : List Nat) (s : State) : Out := paired s (fun s => rxOn s i (fun s => digestRx s b))

/-- METER_CHECKPOINT_TX (R349, R352): every 1 ms, by the active unit. -/
def execMeterCheckpointTx (s : State) : Out :=
  paired s (fun s => s.onIf (tlsRole s == 1) (fun s => sendFrame s 0x18 (meterCkpt s)))
/-- TIMEBASE_SYNC_TX (R349, R353). -/
def execTimebaseSyncTx (s : State) : Out := paired s sendSync
/-- HEARTBEAT_TX (R349, R353). -/
def execHeartbeatTx (s : State) : Out := paired s sendBeat
/-- CONFIG_DIGEST_TX (R349, R353). -/
def execConfigDigestTx (s : State) : Out := paired s (fun s => sendFrame s 3 ([0x30, 0, 0, 0] ++ digestBytes s))

end Sys2Proof.Machine
end

