-- ==== Sys2Proof/Machine/Mem.lean ====
section
/-! DEFINITION. The memories (R53 to R70): bytes of the 32-bit map, the check code, correction and reporting, the scrubber, and the
slots of the Lathe windows. -/

namespace Sys2Proof.Machine

/-! ### The initiators' ports -/

/-- The port of an initiator. -/
def portIdx : Init → Fin 3
  | .cpa => 0
  | .cpb => 1
  | .mp => 2

/-- The port of an initiator. -/
def State.port (s : State) (i : Init) : BusPort := s.ports[portIdx i]
/-- Changes it. -/
def State.modPort (s : State) (i : Init) (f : BusPort → BusPort) : State := { s with ports := vupd s.ports (portIdx i) f }

/-- The bus answers an initiator. -/
def State.answer (s : State) (i : Init) (r : Reply) : State := s.modPort i (fun p => { p with reply := r })

/-- A bus error (R75): its event, the address, and the error response. -/
def busErr (s : State) (a : Access) (addr code : Nat) : State :=
  ((s.logEv code [addr]).put SYS_BUSERR_ADDR_addr addr).answer a.ini .error

/-! ### Bytes of the 32-bit map -/

/-- The byte at an address; a byte that nothing has written reads 0 (DESIGN CHOICE, assumption 3). -/
def State.byteAt (s : State) (addr : Nat) : Nat := (sget 0 s.mem.bytes addr).toNat

/-- Writes a byte. -/
def State.putByte (s : State) (addr v : Nat) : State :=
  { s with mem := { s.mem with bytes := sput 0 s.mem.bytes addr (BitVec.ofNat 8 v) } }

/-- A byte of the MP's private SRAM (assumption 9). -/
def State.mpByteAt (s : State) (addr : Nat) : Nat := (sget 0 s.mem.mp addr).toNat

/-- Writes a byte of the MP's private SRAM. -/
def State.putMpByte (s : State) (addr v : Nat) : State :=
  { s with mem := { s.mem with mp := sput 0 s.mem.mp addr (BitVec.ofNat 8 v) } }

/-- The word of the code and data region in which a byte lies is known to be uncorrectable. -/
def sramBad (s : State) (addr : Nat) : Bool := isUe s 0 (addr / 8 * 8)

/-- `n` bytes from an address on. Where the device itself reads a byte of a word known to be uncorrectable, it meets an error in
place of data (R66); what it then takes is a free value (DESIGN CHOICE, assumption 120). -/
def State.bytesAt (s : State) (addr n : Nat) : List Nat :=
  (List.range n).map (fun k => if sramBad s (addr + k) then Config.freeValue (s.free + k) % 256 else s.byteAt (addr + k))

/-- Writes bytes from an address on. A word written in full is good again (R67); one written in part that is known to be
uncorrectable is left unchanged (R64). -/
def State.putBytes (s : State) (addr : Nat) (l : List Nat) : State :=
  let full (w : Nat) : Bool := decide (addr ≤ w) && decide (w + 8 ≤ addr + l.length)
  let s := s.forL l.zipIdx (fun p s =>
    let w := (addr + p.2) / 8 * 8
    if full w || !isUe s 0 w then s.putByte (addr + p.2) p.1 else s)
  s.forN (l.length / 8 + 2) (fun k s =>
    let w := addr / 8 * 8 + 8 * k
    s.onIf (full w && isUe s 0 w) (fun s => ueClear s 0 w))

/-! ### The check code and its reports (R61 to R67) -/

/-- What the decoder makes of the erroneous bits of a codeword: 0 no error, 1 corrected, 2 detected without correction, 3
beyond what R61 states. -/
def eccKind (errs : List Nat) : Nat :=
  match errs with
  | [] => 0
  | e :: t =>
    let lo := t.foldl min e
    let hi := t.foldl max e
    let d := (e :: t).dedup
    if hi - lo < 16 then 1 else if hi - lo < 20 || d.length = 2 then 2 else 3

/-- A corrected error is counted; the corrected codeword is to be written back (R65). -/
def ceFound (s : State) (region w : Nat) (back : Bool) : State :=
  let n := s.get SYS_ECC_CE_count region
  let s := s.incSat SYS_ECC_CE_count region
  let s := s.onIf (back && !isUe s region w) (fun s => { s with mem := { s.mem with
    writebacks := sput 0 s.mem.writebacks (eccKey region w) 1 } })
  let thr := s.get SYS_ECC_CTL_ce_thr
  s.onIf (thr != 0 && decide (n < thr) && s.get SYS_ECC_CE_count region == thr) (fun s => s.logLatch 0x0020 region [region])

/-- The fault source of a region's uncorrectable error (R66, R332). -/
def ueSrc (region w : Nat) : Nat :=
  match region with
  | 0 => 0x24
  | 1 => chSrc (w / 32768 % 4) 3
  | 2 => 0x25
  | _ => 0x26

/-- An uncorrectable error is reported, once per word (R66, R67). -/
def ueFound (s : State) (region w ini : Nat) : State :=
  if isUe s region w then s
  else
    let s := { s with mem := { s.mem with ueKnown := sput 0 s.mem.ueKnown (eccKey region w) 1 } }
    let s := ((s.put SYS_ECC_LAST_addr w).put SYS_ECC_INFO_initiator ini).put SYS_ECC_INFO_region region
    ((s.incSat SYS_ECC_INFO_ue_cnt).logEv 0x0021 [w, region, ini]).raise (ueSrc region w) w

/-- A read of a word meets these errors: the new state, and whether data is delivered. Beyond R61 a free value decides
(assumption 17). -/
def eccRead (s : State) (region w ini : Nat) (errs : List Nat) (back : Bool) : State × Bool :=
  if isUe s region w then (s, false)
  else match eccKind errs with
    | 0 => (s, true)
    | 1 => (ceFound s region w back, true)
    | 2 => (ueFound s region w ini, false)
    | _ => if s.freeVal % 2 = 0 then (ueFound s.freeNext region w ini, false) else (s.freeNext, true)

/-- The reads of a consumer meet erroneous codewords of one region, those of the words that it reads. -/
def eccReads (s : State) (region ini : Nat) (reads : Nat → Bool) (errs : WordErrs) : State :=
  s.forL errs (fun e s => s.onIf (reads e.1) (fun s => (eccRead s region e.1 ini e.2 true).1))

/-! ### The scrubber (R68, R69) -/

/-- The region and the word that the scrubber's index names. -/
def scrubWord (p : Nat) : Nat × Nat :=
  if p < 786432 then (0, 0x10000000 + 8 * p)
  else if p < 917504 then (1, p - 786432)
  else if p < 1441792 then (2, p - 917504)
  else (3, 0x10000000 + 8 * (p - 1441792))

/-- SCRUB_READ (R68). -/
def execScrubRead (errs : List Nat) (s : State) : Out :=
  live s (fun s =>
    let p := s.get SYS_SCRUB_STAT_pos
    let w := scrubWord p
    let s := s.put SYS_SCRUB_STAT_pos (if 1507327 ≤ p then 0 else p + 1)
    (eccRead s w.1 w.2 8 errs true).1)

/-- SCRUB_LATE (R68). -/
def execScrubLate (s : State) : Out := live s (fun s => (s.put SYS_SCRUB_STAT_late 1).logEv 0x0022)

/-- ECC_WRITEBACK (R65): the corrected codeword is written back; the word's value does not change. -/
def execEccWriteback (region word : Nat) (s : State) : Out :=
  live s (fun s => { s with mem := { s.mem with writebacks := sput 0 s.mem.writebacks (eccKey region word) 0 } })

/-! ### SRAM accesses (R59, R64, R71) -/

/-- The number of an initiator in `SYS_ECC_INFO`. -/
def iniCode : Init → Nat
  | .cpa => 0
  | .cpb => 1
  | .mp => 2

/-- Whether an address of an initiator lies in the MP's private SRAM. -/
def mpPrivate (i : Init) (addr : Nat) : Bool := i == .mp && decide (addr < 0x10080000)

/-- A little-endian read of `size` bytes as the initiator sees them. -/
def sramLoad (s : State) (i : Init) (addr size : Nat) : Nat :=
  leNat ((List.range size).map (fun k => if mpPrivate i (addr + k) then s.mpByteAt (addr + k) else s.byteAt (addr + k)))

/-- A little-endian write of `size` bytes. -/
def sramStore (s : State) (i : Init) (addr size v : Nat) : State :=
  s.forN size (fun k s =>
    let b := v / 2 ^ (8 * k) % 256
    if mpPrivate i (addr + k) then s.putMpByte (addr + k) b else s.putByte (addr + k) b)

/-- An access in the byte-addressed SRAM: the erroneous bits are those of the word it reads. One that crosses an aligned 8-byte word is
a bus error (DESIGN CHOICE, assumption 123). -/
def sramAccess (s : State) (a : Access) (op : MemOp) (addr size v : Nat) (errs : List Nat) : State :=
  if !a.priv then busErr s a addr 0x0012
  else if addr < 0x10000000 || 0x10600000 < addr + size || !([1, 2, 4, 8].contains size) || addr % 8 + size > 8 then
    busErr s a addr 0x0010
  else
    let region := if mpPrivate a.ini addr then 3 else 0
    let w := addr / 8 * 8
    if op = .store ∧ size = 8 then (ueClear (sramStore s a.ini addr 8 v) region w).answer a.ini .none
    else
      let r := eccRead s region w (iniCode a.ini) errs (op != .store)
      if !r.2 then r.1.answer a.ini .error
      else if op = .store then
        let s := { r.1 with mem := { r.1.mem with writebacks := sput 0 r.1.mem.writebacks (eccKey region w) 0 } }
        (sramStore s a.ini addr size v).answer a.ini .none
      else r.1.answer a.ini (.data (if eccKind errs = 3 then r.1.freeVal % 2 ^ (8 * size) else sramLoad r.1 a.ini addr size))

/-- SRAM_ACCESS (R64). -/
def execSramAccess (a : Access) (op : MemOp) (addr size v : Nat) (errs : List Nat) (s : State) : Out :=
  live s (fun s => (sramAccess s a op addr size v errs).onIf (eccKind errs == 3) State.freeNext)

/-! ### Slots (R53 to R58) -/

/-- The 16-byte image of a word (R53). -/
def slotImage (q : QWord) : Nat := toField 64 q.x + 2 ^ 64 * toField 64 q.y

/-- The four 32-bit parts of an image. -/
def imgParts (v : Nat) : List Nat := (List.range 4).map (fun k => v / 2 ^ (32 * k) % 2 ^ 32)

/-- The value of a 64-bit half, saturated to Q36 when it was staged (R55), and whether it had to be. -/
def halfVal (v : Nat) (staged : Bool) : Int × Bool :=
  let x := ofField 64 v
  if staged && x != ofField 36 v then (sat36 x, true) else (ofField 36 v, false)

/-- A slot access that R53 and R71 admit: aligned, 32 or 64 bits, privileged. -/
def slotFault (a : Access) (addr size : Nat) : Option Nat :=
  if !a.priv then some 0x0012
  else if (size != 4 && size != 8) || addr % size != 0 || decide (addr < 0x60000000) || decide (0x60200000 ≤ addr) then some 0x0010
  else none

/-- A word of a spindle's window is written from outside: Owl records it (SPWRITE), and Chuck carries it to the spindle. A
replayed spindle does not receive it (R458). What R211 discards is not written, and a word known to be uncorrectable stays so. -/
def wordFromBus (s : State) (g : Nat) (q : QWord) : State :=
  let n := chOf (g / 32768)
  let w := g % 32768
  if s.replayed n.val then s
  else
    let s := s.owlRec 0x05 n.val [w, toField 36 q.x, toField 36 q.y]
    storeWord s n w q

/-- A staged slot is committed (R54, R55). A Y that is not 0 is stored as written, also to a word that a program declares scalar: R45
asks 0 of whoever stores a scalar (DESIGN CHOICE, assumption 122). -/
def slotCommit (s : State) (i : Init) (g : Nat) (errs : List Nat) : State :=
  let st := (s.port i).staging
  let s := if st.parts = 15 then s else (eccRead s 1 g (iniCode i) errs true).1
  let cur := imgParts (slotImage (s.lw g))
  let new := imgParts st.bits
  let part (k : Nat) : Nat := if st.parts.testBit k then new.getD k 0 else cur.getD k 0
  let hx := halfVal (part 0 + 2 ^ 32 * part 1) (st.parts.testBit 0 || st.parts.testBit 1)
  let hy := halfVal (part 2 + 2 ^ 32 * part 3) (st.parts.testBit 2 || st.parts.testBit 3)
  let s := s.modPort i (fun p => { p with staging := ⟨none, 0, 0⟩ })
  let s := s.onIf (hx.2 || hy.2) (fun s => (s.put LTH_SLOT_STAT_sat 1).logEv 0x3001 [g])
  if st.parts != 15 && isUe s 1 g then s.answer i .error
  else (wordFromBus s g ⟨hx.1, hy.1⟩).answer i .none

/-- A slot write (R54, R57). -/
def slotWrite (s : State) (a : Access) (addr size v : Nat) (errs : List Nat) : State :=
  match slotFault a addr size with
  | some code => busErr s a addr code
  | none =>
    let g := (addr - 0x60000000) / 16
    let k := addr % 16 / 4
    let st := (s.port a.ini).staging
    let other := st.slot != some g && st.slot.isSome
    let s := s.onIf other (fun s => (s.put LTH_SLOT_STAT_abandon 1).logEv 0x3002 [st.slot.getD 0])
    let base := if st.slot = some g then (imgParts st.bits, st.parts) else ([0, 0, 0, 0], 0)
    let p1 := base.1.set k (v % 2 ^ 32)
    let p2 := if size = 8 then p1.set (k + 1) (v / 2 ^ 32 % 2 ^ 32) else p1
    let mask := base.2 ||| (if size = 8 then 3 * 2 ^ k else 2 ^ k)
    let bits := p2.getD 0 0 + 2 ^ 32 * p2.getD 1 0 + 2 ^ 64 * p2.getD 2 0 + 2 ^ 96 * p2.getD 3 0
    let s := s.modPort a.ini (fun p => { p with staging := ⟨some g, bits, mask⟩ })
    if k + size / 4 = 4 then slotCommit s a.ini g errs else s.answer a.ini .none

/-- A slot read (R56). Bytes 4 to 15 of the captured slot come from the capture and read no memory: they are returned also when the
word has since been found uncorrectable (DEDUCED, assumption 121). -/
def slotRead (s : State) (a : Access) (addr size : Nat) (errs : List Nat) : State :=
  match slotFault a addr size with
  | some code => busErr s a addr code
  | none =>
    let g := (addr - 0x60000000) / 16
    let first := addr % 16 == 0
    let cap := (s.port a.ini).capture
    let held := !first && cap.slot == some g
    let s := if held then s else (eccRead s 1 g (iniCode a.ini) errs true).1
    if !held && isUe s 1 g then s.answer a.ini .error
    else
      let wild := !held && eccKind errs == 3
      let img := if wild then s.freeVal % 2 ^ 128 else slotImage (s.lwRead g)
      let s := s.onIf wild State.freeNext
      let v := if held then cap.bits else img
      let s := s.onIf first (fun s => s.modPort a.ini (fun p => { p with capture := ⟨some g, img⟩ }))
      s.answer a.ini (.data (v / 2 ^ (8 * (addr % 16)) % 2 ^ (8 * size)))

/-- SLOT_WRITE (R54). -/
def execSlotWrite (a : Access) (addr size v : Nat) (errs : List Nat) (s : State) : Out :=
  live s (fun s => slotWrite s a addr size v errs)
/-- SLOT_READ (R56). -/
def execSlotRead (a : Access) (addr size : Nat) (errs : List Nat) (s : State) : Out :=
  live s (fun s => slotRead s a addr size errs)

end Sys2Proof.Machine
end

