-- ==== Sys2Proof/Machine/Replay.lean ====
section
/-! DEFINITION. Replay (R457 to R459): the recorded ring as records, the checks at the start, the delivery of recorded inputs, the
comparison of commits, and the end. -/

namespace Sys2Proof.Machine

/-! ### The ring in its order -/

/-- The words of the ring from word `i` up to `wptr`, in ring order, with their indices; empty words left out. -/
def ringFrom (s : State) (i : Nat) : List (Nat × Nat) :=
  let w := s.get OWL_STAT_wptr
  let l := s.mem.owl.filter (fun e => decide (16 ≤ e.1))
  if i < w then l.filter (fun e => decide (i ≤ e.1) && decide (e.1 < w))
  else l.filter (fun e => decide (i ≤ e.1)) ++ l.filter (fun e => decide (e.1 < w))

/-- The payloads of `n` words from word `i` on. -/
def recPay (s : State) : Nat → Nat → List Nat
  | 0, _ => []
  | n + 1, i => wPayload (s.ow i) :: recPay s n (ringNext i)

/-- The word `n` words after word `i`. -/
def ringSkip : Nat → Nat → Nat
  | 0, i => i
  | n + 1, i => ringSkip n (ringNext i)

/-- The TS that the HEADER at word `i` carries. -/
def hdrTsAt (s : State) (i : Nat) : Nat := wPayload (s.ow i) + 2 ^ 40 * (wPayload (s.ow (ringNext i)) % 2 ^ 24)

/-- The bits [lo, lo + w) of a record's payload, its words packed from bit 0 of the first on. -/
def payBits (l : List Nat) (lo w : Nat) : Nat :=
  (l.zipIdx.map (fun p => p.1 % 2 ^ 40 * 2 ^ (40 * p.2))).sum / 2 ^ lo % 2 ^ w

/-! ### Divergences and the end -/

/-- Changes the replay. -/
def modReplay (s : State) (f : Replay → Replay) : State := { s with owl := { s.owl with replay := s.owl.replay.map f } }

/-- The replay ends with a result (R459). -/
def endReplay (s : State) (result : Nat) : State :=
  match s.owl.replay with
  | none => s
  | some r =>
    let s := { s with owl := { s.owl with replay := none } }
    let s := s.forL (List.finRange 4) (fun n s => s.onIf (r.started.testBit n.val && s.chState n.val != 0) (fun s => setState s n 0 0xFF))
    let s := s.gateEnd LEG_OGATE_replay
    let s := ((s.put OWL_STAT_state 3).put OWL_RP_STAT_result result).put OWL_RP_STAT_running 0
    s.logEv 0x7C05 [result]

/-- A divergence (R458): `kind`, the channel or pair, the word of the recorded record. -/
def diverge (s : State) (kind ch idx per : Nat) : State :=
  match s.owl.replay with
  | none => s
  | some r =>
    let first := s.get OWL_RP_STAT_div_cnt == 0
    let s := s.incSat OWL_RP_STAT_div_cnt
    let s := s.onIf first (fun s =>
      ((((s.put OWL_RP_DIV_PER_period per).put OWL_RP_DIV_WORD_kind kind).put OWL_RP_DIV_WORD_ch ch).put OWL_RP_DIV_WORD_idx idx).logEv
        0x7C06 [kind, ch, idx])
    if r.stop1 then endReplay s 2 else s

/-- The result at the end of the recording: MATCH or DIVERGED. -/
def matchResult (s : State) : Nat := if s.get OWL_RP_STAT_div_cnt = 0 then 1 else 2

/-! ### Commits -/

/-- The recorded COMMIT of the period whose HEADER stands at word `i`: its word and its recorded tick. -/
def findCommit (n : Nat) : Nat → List (Nat × Nat) → Option (Nat × Nat)
  | _, [] => none
  | ts, (i, w) :: t =>
    if wType w = 0x01 ∧ wSource w = n then none
    else
      -- the base of the offsets moves with every HEADER
      let ts := if wType w = 0x01 then wPayload w + 2 ^ 40 * (match t with
          | (_, w') :: _ => wPayload w' % 2 ^ 24
          | [] => 0) else ts
      if wType w = 0x0B ∧ wSource w = n then some (i, ts + wOffset w) else findCommit n ts t

/-- The recorded NOCOMMIT of the period whose HEADER stands before the words: its word and its cause. -/
def findNo (s : State) (n : Nat) : List (Nat × Nat) → Option (Nat × Nat)
  | [] => none
  | (i, w) :: t =>
    if wType w = 0x01 ∧ wSource w = n then none
    else if wType w = 0x0C ∧ wSource w = n then some (i, wPayload w % 4) else findNo s n t

/-- A replayed period is without an on-time commit (R458): the recorded NOCOMMIT must say the same. -/
def replayNo (s : State) (n : Ch) (cause : Nat) : State :=
  match s.owl.replay.bind (fun r => r.hdr[n]) with
  | none => s
  | some h => match findNo s n.val ((ringFrom s h.1).drop 2) with
    | none => diverge s 0 n.val h.1 (s.get CHn_PERIOD_CNT_count n.val)
    | some (i, c) => if c = cause then s else diverge s 0 n.val i (s.get CHn_PERIOD_CNT_count n.val)

/-- The recorded COMMIT of the current period of channel n. -/
def recCommit (s : State) (n : Ch) : Option (Nat × Nat) :=
  match s.owl.replay.bind (fun r => r.hdr[n]) with
  | none => none
  | some h => findCommit n.val h.2 ((ringFrom s h.1).drop 2)

/-- The payloads of a COMMIT record (R445). -/
def commitPay (s : State) (n : Ch) (c : Commit) (late : Bool) : List Nat :=
  [c.gen % 2 ^ 16 + (if late then 2 ^ 16 else 0) + (if s.get CHn_CTL_src n.val = 1 then 2 ^ 19 else 0) + c.duty.length * 2 ^ 20, c.per]
    ++ c.duty

/-- A replayed commit arrives: it is compared with the recorded one (R458). -/
def replayCompare (s : State) (n : Ch) (c : Commit) (late : Bool) : State :=
  match s.owl.replay with
  | none => s
  | some r =>
    let per := s.get CHn_PERIOD_CNT_count n.val
    let s := modReplay s (fun r => { r with cmp := r.cmp ||| 2 ^ n.val })
    match recCommit s n with
    | none => diverge s 2 n.val ((r.hdr[n].map (·.1)).getD 0) per
    | some (i, ts) =>
      let pay := commitPay s n c late
      if recPay s pay.length i != pay then diverge s 0 n.val i per
      else if decide (2 < |(s.now : Int) - (ts + r.delta)|) then diverge s 1 n.val i per
      else s

/-- The period of channel n ends: a recorded COMMIT that no commit met is a divergence. -/
def replayClose (s : State) (n : Ch) : State :=
  match s.owl.replay with
  | none => s
  | some r =>
    if r.cmp.testBit n.val then modReplay s (fun r => { r with cmp := r.cmp - 2 ^ n.val })
    else match recCommit s n with
      | some (i, _) => diverge s 3 n.val i (s.get CHn_PERIOD_CNT_count n.val)
      | none => s

/-! ### Inputs -/

/-- A channel's first SNAPSHOT sets its state and its spindle's as a standby adopts a checkpoint (R457). -/
def snapAdopt (s : State) (n : Ch) (i : Nat) : State :=
  let pay := recPay s 72 i
  let b := [0x01, n.val] ++ (pay.drop 1).flatMap (fun w => leBytes 5 w)
  let st := b.getD 2 0 % 8
  let s := if st = 3 ∨ st = 4 then enterRun s n 0 else setState s n st 0
  let s := if st = 4 then (setState s n 4 0).put CHn_STATE_safety (b.getD 2 0 / 8) n.val else s
  let b3 := b.getD 3 0
  let s := ((s.put SPn_BANK_active b3 n.val).put SPn_BANK_fb (b3 / 2) n.val).put SPn_FLD_STAT_task (b3 / 32) n.val
  let s := (adoptBytes s n b).put CHn_PERIOD_CNT_count (pay.headD 0) n.val
  let s := s.modSp n (fun p => { p with gen := (leAt b 354 2 + 1) % 65536 })
  s.modCarr (.ch n) (fun c => { c with fresh := true, pend := none, held := none })

/-- The POSITION record of a payload. -/
def posOfPay (l : List Nat) (base : Int) : PosRec :=
  ⟨payBits l 128 2, payBits l 0 32, (base + ofField 32 (payBits l 32 32)).toNat, ofField 32 (payBits l 64 32),
    payBits l 130 1 == 1, payBits l 131 1 == 1, payBits l 96 32, payBits l 132 1 == 1, payBits l 133 1 == 1, payBits l 134 1 == 1⟩

/-- The words of a record by its type (R445), for the inputs. -/
def recLen (type : Nat) : Nat :=
  match type with
  | 0x01 => 2
  | 0x03 => 4
  | 0x05 => 3
  | 0x06 => 4
  | 0x08 => 2
  | 0x10 => 72
  | _ => 1

/-- Delivers a value to Chuck, whatever replay keeps out; as disagreed where `dis` (R458). -/
def toChuckAs (s : State) (dis : Bool) (pair : Nat) (v : InVal) : State := { s with chuck := s.chuck ++ [⟨pair, v, s.now, dis⟩] }

/-- Delivers a value to Chuck. -/
def toChuck (s : State) (pair : Nat) (v : InVal) : State := toChuckAs s false pair v

/-- The recorded input at word `i` is delivered (R458), as disagreed after MARK DISAGREE; a window's close lies 90 tk before its result
(R83). CORE_START releases its pair from reset. -/
def replayDeliver (s : State) (r : Replay) (i w : Nat) : State :=
  let n := wSource w % 4
  let pay := recPay s (recLen (wType w)) i
  let put := toChuckAs s r.disagree
  match wType w with
  | 0x02 =>
    let q := payBits pay 36 4
    let k := payBits pay 32 4
    put (2 + n) (.result (s.get SEQn_STEPk_B_sp_meas q k) (ofField 24 (payBits pay 0 24)) (payBits pay 24 8) (16 * q + k)
      ((s.now - 90) * 128))
  | 0x03 => put (2 + n) (.position (posOfPay pay (r.recTs + r.delta)))
  | 0x04 => put (2 + n) (.target (payBits pay 38 2) (ofField 36 (payBits pay 0 36)) (payBits pay 36 2))
  | 0x05 => put (2 + n) (.core 0x05 n (payBits pay 0 120))
  | 0x06 =>
    let rel := ((payBits pay 0 64 + r.delta).toNat, payBits pay 64 64, ofField 32 (payBits pay 128 32))
    { s with net := { s.net with rel := s.net.rel.map (fun _ => rel) } }
  | 0x09 => put (n % 2) (.core 0x09 (n % 2) (payBits pay 0 2))
  | 0x11 => modReplay s (fun r => { r with coreUp := r.coreUp ||| 2 ^ (payBits pay 0 1) })
  | _ => s

/-- What ends a replay at a word (R459): none, or its result. -/
def endMark (s : State) (i w : Nat) : Option Nat :=
  if isUe s 2 i then some 9
  else if wType w = 0x3D then some 9
  else if wType w = 0x11 then
    (match wSource w with
     | 2 => some 8
     | 4 => some 10
     | 5 => some (matchResult s)
     | _ => none)
  else none

/-- A record that drives the replay: a HEADER or an input of a replayed channel that has begun, a RELATION, or, where the cores are
replayed, a pair's interrupt inputs and its CORE_START. -/
def drives (s : State) (r : Replay) (w : Nat) : Bool :=
  let mine := r.started.testBit (wSource w)
  match wType w with
  | 0x01 => mine
  | 0x02 => mine
  | 0x03 => mine
  | 0x04 => mine
  | 0x05 => mine
  | 0x06 => true
  | 0x09 => s.getB OWL_CFG_core_replay
  | 0x11 => s.getB OWL_CFG_core_replay && wSource w == 3
  | _ => false

/-- Passes the words up to the next record that drives the replay or ends it: the base tick follows every HEADER, a first SNAPSHOT
is adopted, MARK DISAGREE is kept. Answers the state, with `pos` at that record, and the record. -/
def replaySeek : List (Nat × Nat) → State → State × Option (Nat × Nat)
  | [], s => (s, none)
  | (i, w) :: t, s =>
    match s.owl.replay with
    | none => (s, none)
    | some r =>
      let s := modReplay s (fun r => { r with pos := i })
      if (endMark s i w).isSome then (s, some (i, w))
      else
        let s := s.onIf (wType w == 0x01) (fun s => modReplay s (fun r => { r with recTs := hdrTsAt s i }))
        if drives s r w then (s, some (i, w))
        else
          let n := chOf (wSource w)
          let s := s.onIf (wType w == 0x10 && r.chans.testBit n.val && !r.started.testBit n.val)
            (fun s => snapAdopt (modReplay s (fun r => { r with started := r.started ||| 2 ^ n.val })) n i)
          let s := s.onIf (wType w == 0x11 && wSource w == 6) (fun s => modReplay s (fun r => { r with disagree := true }))
          replaySeek t (modReplay s (fun r => { r with pos := ringNext i }))

/-- The next record of the replay. -/
def replayNext (s : State) : State × Option (Nat × Nat) := match s.owl.replay with
  | none => (s, none)
  | some r => replaySeek (ringFrom s r.pos) s

/-- The recorded tick of a word that the replay has reached, on the shifted timebase, has come (R458). -/
def replayCame (s : State) (w : Nat) : Bool := match s.owl.replay with
  | none => false
  | some r => decide ((r.recTs + wOffset w : Int) + r.delta ≤ s.now)

/-! ### The start (R457) -/

/-- The recorded CONFIG_DIGEST of the stream header. -/
def recordedDigest (s : State) : Nat := ((List.range 7).map (fun k => wPayload (s.ow (3 + k)) * 2 ^ (40 * k))).sum

/-- The first check that fails, as its result; 0 when all pass. -/
def replayChecks (s : State) (first : Nat) : Nat :=
  let w0 := wPayload (s.ow 0)
  let l := ringFrom s first
  if w0 / 256 % 16 != s.get SYS_ID_major || w0 / 16 % 16 != s.get SYS_ID_minor then 3
  else if recordedDigest s != leNat (digestBytes s) then 4
  else if w0 / 2 ^ 32 % 4 != s.get SYS_PROFILE_active then 5
  else if !l.any (fun e => wType e.2 == 0x10) then 6
  else if s.getB OWL_CFG_core_replay && (w0 / 2 ^ 34 % 2 == 1
      || !([0, 1].all (fun p => l.any (fun e => wType e.2 == 0x11 && wSource e.2 == 3 && wPayload e.2 % 2 == p)))) then 7
  else 0

/-- The recorded tick of the first HEADER of a channel that follows its first SNAPSHOT. -/
def firstHeader (s : State) : Nat → List (Nat × Nat) → Option Nat
  | _, [] => none
  | seen, (i, w) :: t =>
    if wType w = 0x10 then firstHeader s (seen ||| 2 ^ (wSource w % 4)) t
    else if wType w = 0x01 ∧ wSource w < 4 ∧ seen.testBit (wSource w) then some (hdrTsAt s i)
    else firstHeader s seen t

/-- REPLAY_START at word `first` (R457). -/
def replayBegin (s : State) (first : Nat) (stop1 : Bool) : Nat × State :=
  let st := s.get OWL_STAT_state
  if (List.range 4).any (fun n => s.chState n != 0) || st == 1 || st == 2 || st == 4 then (0x22, s)
  else
    let k := replayChecks s first
    let s := (s.put OWL_RP_STAT_result 0).put OWL_RP_STAT_div_cnt 0
    if k != 0 then (1, (s.put OWL_RP_STAT_result k).logEv 0x7C05 [k])
    else
      let l := ringFrom s first
      let chans := (List.range 4).foldl (fun v n => if l.any (fun e => wType e.2 == 0x10 && wSource e.2 == n) then v + 2 ^ n else v) 0
      let t0 := (firstHeader s 0 l).getD s.now
      let r : Replay := ⟨first, 0, (s.now + 40000 : Int) - t0, stop1, chans, Vector.replicate 4 none, 0, false, 0, Vector.replicate 2 first, 0⟩
      let s := { s with owl := { s.owl with replay := some r } }
      let s := (s.put OWL_STAT_state 4).put OWL_RP_STAT_running 1
      (1, s.gateHold LEG_OGATE_replay)

/-! ### The words of an offload and of OWL_FETCH (R454, R455) -/

/-- The word after `i`, from the stream header into the ring. -/
def owlAfter (i : Nat) : Nat := if i < 16 then i + 1 else ringNext i

/-- At most `k` words from word `i` on, cut at `wptr`. -/
def owlSpan (w : Nat) : Nat → Nat → List Nat
  | 0, _ => []
  | k + 1, i => if i = w then [] else i :: owlSpan w k (owlAfter i)

/-- A word as 9 bytes; one with an uncorrectable error is DAMAGED. -/
def owlBytes (s : State) (i : Nat) : List Nat := leBytes 9 (if isUe s 2 i then owlWord 0x3D 0 0 0 else s.ow i)

/-- Words in datagrams: at most 160 that follow one another. -/
def owlPieces (l : List Nat) : List (List Nat) :=
  (l.foldl (fun (r : List (List Nat)) i => match r with
    | c :: t => if c.length < 160 && c.headD 0 + 1 == i then (i :: c) :: t else [i] :: c :: t
    | [] => [[i]]) []).reverse.map List.reverse

/-- The words of an offload: the stream header, then the ring's content. -/
def offloadWords (s : State) : List Nat := List.range 16 ++ owlSpan (s.get OWL_STAT_wptr) 524272 (s.get OWL_OLDEST_idx)

/-! ### Core reads (R458) -/

/-- A replayed pair is held in reset: its CORE_START has not been reached (R458). -/
def coreHeld (s : State) (p : Fin 2) : Bool := match s.owl.replay with
  | none => false
  | some r => s.getB OWL_CFG_core_replay && !r.coreUp.testBit p.val

/-- The next CORE_READ of a pair. -/
def findCore (p : Nat) : List (Nat × Nat) → Option Nat
  | [] => none
  | (i, w) :: t => if wType w = 0x08 ∧ wSource w = p then some i else findCore p t

/-- A replayed pair reads an address outside CKC: the recorded data, with the divergence of another address; none where the
recording does not answer. -/
def replayCoreRead (s : State) (p : Fin 2) (addr : Nat) : State × Option Nat :=
  match s.owl.replay with
  | none => (s, none)
  | some r =>
    if !s.getB OWL_CFG_core_replay then (s, none)
    else match findCore p.val (ringFrom s r.corePos[p]) with
      | none => (s, none)
      | some i =>
        let pay := recPay s 2 i
        let s := modReplay s (fun r => { r with corePos := r.corePos.set p.val (ringSkip 2 i) })
        (if pay.headD 0 % 2 ^ 32 = addr then s else diverge s 4 p.val i 0, some (pay.getD 1 0 % 2 ^ 32))

/-! ### Meanings -/

/-- Owl reads the recording from a word on: erroneous codewords among those that it reads (R66, R67). -/
def replayReads (s : State) (errs : WordErrs) : State := match s.owl.replay with
  | none => s
  | some r => eccReads s 2 7 (fun w => (ringFrom s r.pos).any (fun e => e.1 == w)) errs

/-- REPLAY_INPUT (R458): the next record is an input, and is delivered into Chuck. -/
def execReplayInput (errs : WordErrs) (s : State) : Out :=
  live s (fun s =>
    let s := replayReads s errs
    let a := replayNext s
    match a.2, a.1.owl.replay with
    | some (i, w), some r =>
      if !replayCame a.1 w then s
      else if (endMark a.1 i w).isSome || wType w == 0x01 then a.1
      else
        let s := replayDeliver a.1 r i w
        modReplay s (fun r => { r with pos := ringSkip (recLen (wType w)) i, disagree := false })
    | _, _ => a.1)

/-- REPLAY_END (R459): the recording's end, MARK STOP, MARK LOST, a DAMAGED word or MARK DIGEST_CHANGE is reached. -/
def execReplayEnd (s : State) : Out :=
  live s (fun s =>
    if s.owl.replay.isNone then s
    else
      let a := replayNext s
      match a.2 with
      | none => let s := a.1.forL (List.finRange 4) (fun n s => replayClose s n); endReplay s (matchResult s)
      | some (i, w) => if !replayCame a.1 w then s else match endMark a.1 i w with
        | none => a.1
        | some k =>
          let s := if wType w = 0x11 ∧ wSource w = 5 then a.1.forL (List.finRange 4) (fun n s => replayClose s n) else a.1
          endReplay s (if wType w = 0x11 ∧ wSource w = 5 then matchResult s else k))

end Sys2Proof.Machine
end

