-- ==== Sys2Proof/Machine/Period.lean ====
section
/-! DEFINITION. The control period (R11 to R28): reloads, carrier zero and peak, COT and CFT periods, commits and their deadline,
the period latch. -/

namespace Sys2Proof.Machine

/-! ### Commits (R13 to R18, R22) -/

/-- The channel has a commit deadline in this period (R14, R294): its program runs. -/
def dlApplies (s : State) (n : Ch) : Bool := spRuns s n

/-- DL_MAX in force (R16, R23). -/
def dlMax (s : State) (n : Ch) : Nat := match (s.chan n.val).timing with
  | some t => t.1
  | none => s.get CHn_TIMING_dl_max n.val

/-- The slack of a commit is shown (R22, R27). -/
def slackShow (s : State) (n : Ch) (slack : Nat) : State :=
  let s := s.put CHn_SLACK_slack_last (min slack 0xFFFFF) n.val
  let s := s.put CHn_SLACK_MIN_slack_min (min slack (s.get CHn_SLACK_MIN_slack_min n.val)) n.val
  s.onIf (s.profOf n.val == 2 && decide ((slack * 128 * 5 : Int) < 2 * budgetFt s n (s.carrier (.ch n)).act.per))
    (fun s => s.logEv 0x2403 [n.val, slack])

/-- What leaves with a commit: Owl's COMMIT and, when it is due, SNAPSHOT (R445, R446), and the checkpoint to the standby (R349). -/
def commitRecords (s : State) (n : Ch) (c : Commit) (late : Bool) : State :=
  let s := s.owlRec 0x0B n.val (commitPay s n c late)
  let due := s.owl.snapDue.testBit n.val
    || s.get CHn_PERIOD_CNT_count n.val % 2 ^ s.get OWL_CFG_snap_log2 == 0
  let s := s.onIf (due && s.chRuns n.val && s.owlOn) (fun s =>
    snapshot { s with owl := { s.owl with snapDue := if s.owl.snapDue.testBit n.val then s.owl.snapDue - 2 ^ n.val else s.owl.snapDue } } n)
  s.onIf (tlsRole s == 1) (fun s => putFrame s (0x10 + n.val) (ckptBytes s n))

/-- A commit arrives in the CKP domain (R13, R15, R16, R22). Without a deadline it is taken at the next reload. One on the tick of a
safe-state request is discarded (R23). -/
def commitIn (s : State) (n : Ch) (c : Commit) : State :=
  let k := s.carrier (.ch n)
  if !k.run || (s.chan n.val).safeTs == some s.now then s
  else
    let s := s.modChan n (fun x => { x with comTs := some s.now })
    let dl := dlApplies s n
    let late := dl && (k.dlPassed || decide (k.deadline ≤ s.now))
    let s := offerCommit s (.ch n) c (!late)
    let s := s.onIf late (fun s => s.put CHn_DLSTAT_late 1 n.val)
    let s := s.onIf (dl && !late) (fun s => (s.put CHn_DLSTAT_consec 0 n.val).modChan n (fun x => { x with bdgMiss := 0 }))
    let s := s.onIf dl (fun s => slackShow s n (if late then 0 else k.deadline - s.now))
    replayCompare (commitRecords s n c late) n c late

/-- COMMIT_ARRIVAL (R13): the commit that the spindle released. With CTL.src SOFTWARE it is discarded (R174). -/
def commitArrival (s : State) (n : Ch) : State :=
  match (s.sp n).out with
  | none => s
  | some c =>
    let s := s.modSp n (fun p => { p with out := none })
    if s.get CHn_CTL_src n.val = 1 then s else commitIn s n c

/-- Badger's own count of misses (R17, R315). -/
def badgerMiss (s : State) (n : Ch) : State :=
  let k := (s.chan n.val).bdgMiss + 1
  let s := s.modChan n (fun c => { c with bdgMiss := k })
  s.onIf (decide (dlMax s n ≤ k) && s.chState n.val != 6) (fun s => s.raise (chSrc n.val 0) k)

/-- DEADLINE_MISS (R14, R16, R25). -/
def deadlineMiss (s : State) (n : Ch) : State :=
  let s := (s.logEv 0x2401 [n.val]).put CHn_DLSTAT_miss 1 n.val
  let s := ((s.incSat CHn_DLSTAT_miss_cnt n.val).put CHn_DLSTAT_cause 1 n.val).incSat CHn_DLSTAT_consec n.val
  let s := replayNo (((s.irq (2 + n.val)).owlTrig 3).owlRec 0x0C n.val [1]) n 1
  let s := badgerMiss s n
  s.onIf (decide (dlMax s n ≤ s.get CHn_DLSTAT_consec n.val)) (fun s => safeRequest s n (chSrc n.val 0))

/-- COMMIT_DEADLINE (R14, R16 to R18). -/
def commitDeadline (s : State) (n : Ch) : State :=
  let k := s.carrier (.ch n)
  if !k.run || k.dlPassed then s
  else
    let dl := dlApplies s n
    let s := s.modCarr (.ch n) (fun k => { k with dlPassed := true })
    if !dl then s
    else if k.onTime then (s.put CHn_DLSTAT_consec 0 n.val).modChan n (fun x => { x with bdgMiss := 0 })
    else if k.blocked then replayNo ((s.put CHn_DLSTAT_cause 2 n.val).owlRec 0x0C n.val [2]) n 2
    else deadlineMiss s n

/-! ### Triggers of a carrier (R86, R87, R169) -/

/-- The sequencers and serial triggers with a negative offset are armed for the carrier events of the period that a reload has begun. -/
def armNext (s : State) (r : Carr) : State :=
  if 2 ≤ carrMode s r then s
  else
    let e := carrEvents s r
    let arm (code : Nat) (t : Option Nat) (s : State) : State := match t with
      | some t => seqArm s code t
      | none => s
    match r with
    | .ch n => serArm (arm (0x0C + n.val) e.2.1 (arm (0x08 + n.val) e.1 (seqArm s (0x04 + n.val) e.2.2))) (0x04 + n.val) e.2.2
    | .aux a => arm (0x10 + a.val) e.1 s

/-- The Sett ports count a reload of their channel: every `div`-th gives a FAST start `offset` ticks later (R421). -/
def settReload (s : State) (n : Ch) : State :=
  s.forL (List.finRange 2) (fun p s =>
    let md (f : SettSt → SettSt) : State := { s with setts := vupd s.setts p f }
    if !s.getB SETTp_CFG_en p.val then md (fun x => { x with reloads := 0, due := [] })
    else if s.get SETTp_CFG_ch p.val != n.val then s
    else if s.setts[p].reloads + 1 < s.get SETTp_CFG_div p.val then md (fun x => { x with reloads := x.reloads + 1 })
    else md (fun x => { x with reloads := 0, due := x.due ++ [s.now + s.get SETTp_CFG_offset p.val] }))

/-- What a reload of channel n triggers (R86, R115, R140, R421): aligned timers begin, sequences, serial and Sett frames start; in COT and
CFT those with a negative offset too (R169). -/
def reloadTrig (s : State) (n : Ch) : State :=
  let code := 0x04 + n.val
  let cot := decide (2 ≤ carrMode s (.ch n))
  let p0 := (s.carrier (.ch n)).prevTs
  let s := settReload (timerAlign s n) n
  let s := serReload (seqCarrier s code s.now p0 (!cot)) code s.now p0
  s.onIf cot (fun s => serCot (seqCotZero s code s.now p0) code p0)

/-- Whether a carrier event falls on the reload that has just happened: the tick at which the period before it began. -/
def evBefore (s : State) (r : Carr) (isReload : Bool) : Nat :=
  let c := s.carrier r
  if isReload then c.prevTs else c.reloadTs

/-- Carrier zero is a reload point. -/
def zeroReloads (s : State) (r : Carr) : Bool := carrMode s r != 0 || carrRl s r != 1
/-- Carrier peak is a reload point. -/
def peakReloads (s : State) (r : Carr) : Bool := carrMode s r == 0 && carrRl s r != 0

/-! ### Overcurrent (R282, R283) -/

/-- Carrier zero of a channel: the carrier period that ends is counted, and OC_TRIP escalates. -/
def ocCount (s : State) (n : Ch) : State :=
  let seen := (s.chan n.val).cutSeen
  let now := (List.range 16).any (fun m => s.getBit CHn_OC_cyc_lines m n.val && fltMode s (16 + m) == 1
    && (if h : 16 + m < 32 then s.gen.flts[16 + m].act else false) && (mapChans s (fltLegs s (16 + m))).contains n.val)
  let s := (s.modChan n (fun c => { c with cutSeen := now && spRuns s n })).putB CHn_OCSTAT_cut_now now n.val
  if !spRuns s n then s.put CHn_OCSTAT_cyc_run 0 n.val
  else if !seen then s.put CHn_OCSTAT_cyc_run 0 n.val
  else
    let s := (s.incSat CHn_OCSTAT_cyc_run n.val).incSat CHn_OCSTAT_cyc_cnt n.val
    let mx := s.get CHn_OC_FLT_cyc_max n.val
    s.onIf (mx != 0 && s.get CHn_OCSTAT_cyc_run n.val == mx) (fun s =>
      safeRequest (((s.logEv 0x2412 [n.val]).put CHn_OCSTAT_oc_trip 1 n.val).raise (chSrc n.val 9) 32) n (chSrc n.val 9))

/-! ### Reloads -/

/-- The standby's correction of a running carrier (R355): a free value within ±256 ft that moves the end of the period which a
reload ends (assumption 55). -/
def alignCarrier (s : State) (r : Carr) : State :=
  if tlsRole s != 2 || !s.tls.link || (s.carrier r).fresh then s
  else
    let d : Nat := s.freeVal % 513
    (s.modCarr r (fun c => { c with halfFt := c.halfFt + d - 256, zeroFt := c.zeroFt + d - 256 })).freeNext

/-- A stop completes at this reload, judged on the limit and speed in force before it (R274, assumption 39). -/
def stopDone (s : State) (n : Ch) : Bool :=
  s.chState n.val == 4 && decide ((s.sp n).fld.tLim ≤ 32768 * s.get CHn_STOP_stop_eps n.val)
    && (match srcSpeed s n with
      | some w => decide (|w| ≤ selThr s n (ascPref s n))
      | none => false)

/-- What a completed stop, or a resumption, does to the channel (R274, R275). -/
def stopEnd (s : State) (n : Ch) (done : Bool) : State :=
  if (s.chan n.val).resume && s.chState n.val == 4 then
    (setState s n 3 0xFF).modChan n (fun c => { c with resume := false })
  else if !done then s
  else if s.getB CHn_STATE_safety n.val then
    let s := selUpdate s n
    enterSafe s n (s.get CHn_STATE_cause n.val) true (s.get CHn_STATE_sel n.val) false
  else setState s n 2 0

/-- The Owl records of a channel's reload (R445, R447): HEADER and, in lean recording at the lowest running channel, one DIGEST
for each pair, whose value the spec leaves to the inputs of the cores (a free value). -/
def reloadRecords (s : State) (n : Ch) : State :=
  let s := s.owlRec 0x01 n.val [s.now % 2 ^ 40, s.now / 2 ^ 40 + s.get CHn_PERIOD_CNT_count n.val % 65536 * 2 ^ 24]
  if s.get SYS_PROFILE_active = 0 && (running s).head? == some n && s.owlOn then
    let s := (s.owlRec 0x0A 0 [s.freeVal % 2 ^ 32]).freeNext
    (s.owlRec 0x0A 1 [s.freeVal % 2 ^ 32]).freeNext
  else s

/-- A new time relation reaches the spindle (R405). -/
def relationLoad (s : State) (n : Ch) : State :=
  let r : Nat × Nat × Int := (s.get64 ETH_PTP_TS_LO_ts0 ETH_PTP_TS_HI_ts0, s.get64 ETH_PTP_T_LO_t0 ETH_PTP_T_HI_t0, s.getS ETH_PTP_RATE_rate)
  if r = s.net.rel[n] then s
  else
    let s := { s with net := { s.net with rel := s.net.rel.set n.val r } }
    s.owlRec 0x06 0 [r.1 % 2 ^ 40, r.1 / 2 ^ 40 + r.2.1 % 2 ^ 16 * 2 ^ 24, r.2.1 / 2 ^ 16 % 2 ^ 40,
      r.2.1 / 2 ^ 56 + toField 32 r.2.2 * 2 ^ 8]

/-- A reload of a drive channel (R14, R15, R19, R23, R28, R166 to R182, R188, R227, R231, R244, R274, R275, R356, R357, R368,
R405, R445). -/
def reloadCh (s : State) (n : Ch) (deadline : Option Nat) : State :=
  let p := s.sp n
  let ang := (s.get SPn_ANG_M_angle n.val, s.get SPn_ANG_U_angle n.val)
  let s := s.modSp n (fun p => { p with bufMeas := p.meas, bufAng := ang, bufDone := p.counted })
  let onT := (s.carrier (.ch n)).onTime
  let done := stopDone s n
  let s := alignCarrier s (.ch n)
  let s := profTake (s.modChan n (fun c => { c with timing := none })) n
  let s := carrierReload s (.ch n)
  let s := match deadline with
    | some t => s.modCarr (.ch n) (fun c => { c with deadline := t })
    | none => s
  let s := s.incWrap CHn_PERIOD_CNT_count n.val
  let s := reloadRecords s n
  let s := releaseEnd (coldEnter (adoptAt s n p.meas ang) n) n
  let s := stopEnd s n done
  let s := s.modChan n (fun c => { c with outEn := spRuns s n && (c.outEn || onT) })
  let s := s.legsApply
  let s := relationLoad s n
  let s := spReload s n
  let s := s.onIf (s.sp n).held (fun s => s.modSp n (fun p => { p with isOpen := false }))
  let s := s.modBdg (fun b => { b with tm := vupd b.tm n (fun t => { t with cur := t.cur ++ [(s.sp n).fld.tCmd] }) })
  armNext (reloadTrig s n) (.ch n)

/-- A reload of an auxiliary leg. -/
def reloadAux (s : State) (a : Fin 4) : State :=
  let s := chopReload (carrierReload (alignCarrier s (.aux a)) (.aux a)) a
  armNext s (.aux a)

/-- A reload of a running carrier. -/
def reloadOf (s : State) (r : Carr) : State :=
  if !(s.carrier r).run then s
  else match r with
    | .ch n => reloadCh s n none
    | .aux a => reloadAux s a

/-- RELOAD (R23). In COT and CFT a reload other than the start is the end of a period, which has commands of its own; a replayed
channel's reloads are its recorded HEADERs (R458). -/
def execReload (r : Carr) (s : State) : Out :=
  live s (fun s =>
    let cot := decide (2 ≤ carrMode s r)
    let rep := match r with
      | .ch n => s.replayed n.val
      | .aux _ => false
    s.onIf (!rep && (!cot || (s.carrier r).fresh)) (fun s => reloadOf s r))

/-- COMMIT_ARRIVAL. -/
def execCommitArrival (n : Ch) (s : State) : Out := live s (fun s => commitArrival s n)
/-- COMMIT_DEADLINE. -/
def execCommitDeadline (n : Ch) (s : State) : Out := live s (fun s => commitDeadline s n)

/-- CARRIER_ZERO (R86, R164, R165, R186, R282): cuts end, the overcurrent period is counted, triggers fall; where no reload falls at
zero the up half begins. -/
def execCarrierZero (r : Carr) (s : State) : Out :=
  live s (fun s => s.onIf (s.carrier r).run (fun s =>
    let rel := zeroReloads s r
    let s := s.onIf (!rel) (fun s => plainHalf s r false)
    let s := endCuts s r
    let code : Nat := match r with
      | .ch n => 0x08 + n.val
      | .aux a => 0x10 + a.val
    let s := match r with
      | .ch n => ocCount s n
      | .aux _ => s
    let cot := decide (2 ≤ carrMode s r)
    let s := seqCarrier s code s.now (evBefore s r rel) (!cot)
    s.onIf cot (fun s => seqCotZero s code s.now (evBefore s r rel))))

/-- CARRIER_PEAK (R86, R164, R165, R169): where no reload falls at peak the down half begins; triggers fall. -/
def execCarrierPeak (r : Carr) (s : State) : Out :=
  live s (fun s => s.onIf (s.carrier r).run (fun s =>
    let rel := peakReloads s r
    let s := s.onIf (carrMode s r == 0 && !rel) (fun s => plainHalf s r true)
    match r with
    | .ch n =>
      let cot := decide (2 ≤ carrMode s r)
      let s := seqCarrier s (0x0C + n.val) s.now (evBefore s r rel) (!cot)
      s.onIf cot (fun s => seqCotZero s (0x0C + n.val) s.now (evBefore s r rel))
    | .aux _ => s))

/-! ### COT and CFT (R168, R169) -/

/-- The end of a COT or CFT period: the reload at the next carrier zero. -/
def cotEnd (s : State) (r : Carr) : State := reloadOf s r

/-- PER_MIN has passed since the period began. -/
def perMinDone (s : State) (r : Carr) : Bool :=
  decide ((s.carrier r).halfFt + cget s r CHn_PERMIN_per_min LEGk_PERMIN_per_min ≤ s.now * 128)

/-- COT_END_EVENT: an edge of the source that `CT` names, which came after T, ends the period, or is stored until PER_MIN. -/
def execCotEndEvent (r : Carr) (s : State) : Out :=
  live s (fun s =>
    let c := s.carrier r
    if !c.run || c.fresh || carrMode s r < 2 || !c.evt then s
    else
      let s := s.modCarr r (fun c => { c with evt := false })
      if perMinDone s r then cotEnd s r else s.modCarr r (fun c => { c with endStored := true }))

/-- COT_PER_MIN: a stored end event ends the period. -/
def execCotPerMin (r : Carr) (s : State) : Out :=
  live s (fun s =>
    let c := s.carrier r
    s.onIf (c.run && !c.fresh && decide (2 ≤ carrMode s r) && c.endStored) (fun s => cotEnd s r))

/-- COT_PERMAX: no end event has occurred by PER_MAX. -/
def execCotPermax (r : Carr) (s : State) : Out :=
  live s (fun s =>
    let c := s.carrier r
    s.onIf (c.run && !c.fresh && decide (2 ≤ carrMode s r)) (fun s =>
      let s := cput s r CHn_CSTAT_permax LEGk_CSTAT_permax 1
      cotEnd (s.logRate 0x2005 (carrIdx r).val (10 * tkMs) [(carrIdx r).val]) r))

/-! ### The start of a carrier (R163, R170, R355) -/

/-- A carrier whose `en` has been set: it starts on the next tick, or waits for its synchronised instant. -/
def carrierBegin (s : State) (r : Carr) : State :=
  let c := s.carrier r
  if c.run || c.waiting then s
  else if syncOn s r || peerStart s then peerArm (s.modCarr r (fun c => { c with waiting := true, startFt := none }))
  else carrierStart s r ((s.now + 1) * 128)

/-- The instant at which a waiting carrier starts, when it has come (R170, R355): the reference's zero plus `phase`, or the zero of
the active unit's carrier; for an auxiliary leg of a standby the instant is the command's. -/
def syncInstant (s : State) (r : Carr) : Option Nat :=
  let own := match r with
    | .ch _ => !peerStart s
    | .aux _ => true
  if own && (peerStart s || !syncOn s r) then some ((s.now + 1) * 128)
  else (s.carrier r).startFt.filter (fun t => decide (t / 128 ≤ s.now))

/-- CARRIER_SYNC_START (R170, R355): the instant of the start has come. -/
def execCarrierSyncStart (r : Carr) (s : State) : Out :=
  live s (fun s => match syncInstant s r with
    | some t => s.onIf (s.carrier r).waiting (fun s => carrierStart s r t)
    | none => s)

/-! ### The period latch -/

/-- PERIOD_LATCH (R147 to R153, R277, R278): the position record, and the selector's values. -/
def execPeriodLatch (n : Ch) (s : State) : Out := live s (fun s => selRefresh (pifLatch s n) n)

/-! ### The spindle's instants -/

/-- MEAS_LANDING (R219, R220). -/
def execMeasLanding (n : Ch) (what : Landing) (s : State) : Out := live s (fun s => measLanding s n what)
/-- A spindle reads its words: erroneous codewords among them (R65 to R67); initiators 3 to 6 are the spindles (R70). -/
def spEcc (s : State) (n : Ch) (errs : WordErrs) : State :=
  s.onIf (spRuns s n) (fun s => eccReads s 1 (3 + n.val) (spReads s n) errs)

/-- SPECULATION (R214). -/
def execSpeculation (n : Ch) (errs : WordErrs) (s : State) : Out := live s (fun s => speculate (spEcc s n errs) n)
/-- SPEC_DONE (R214). -/
def execSpecDone (n : Ch) (s : State) : Out := live s (fun s => specDone s n)
/-- FAST_PATH (R215). -/
def execFastPath (n : Ch) (s : State) : Out := live s (fun s => fastPath s n)
/-- FULL_EVAL_DONE (R216, R219). -/
def execFullEvalDone (n : Ch) (errs : WordErrs) (s : State) : Out := live s (fun s => fullEvalDone (spEcc s n errs) n)
/-- WAIT_LIMIT (R220). -/
def execWaitLimit (n : Ch) (s : State) : Out := live s (fun s => waitLimit s n)
/-- FB_HOLD_EXPIRED (R223). -/
def execFbHoldExpired (n : Ch) (s : State) : Out := live s (fun s => fbHoldExpired s n)
/-- SEAL_DONE (R212). -/
def execSealDone (n : Ch) (s : State) : Out := live s (fun s => sealDone s n)
/-- OSC_WINDOW_END (R229). -/
def execOscWindowEnd (n : Ch) (s : State) : Out := live s (fun s => oscWindowEnd s n)

/-! ### The field stage's instants -/

/-- DTC_DECISION (R249, R250). -/
def execDtcDecision (n : Ch) (s : State) : Out := live s (fun s => dtcDecision s n)
/-- DTC_MISS (R249). -/
def execDtcMiss (n : Ch) (s : State) : Out := live s (fun s => dtcMiss s n)
/-- HANDOVER (R252). -/
def execHandover (n : Ch) (s : State) : Out := live s (fun s => handover s n)
/-- IPD_COMPLETE (R254): six peaks, then the two polarity peaks. -/
def execIpdComplete (n : Ch) (peaks : List Int) (s : State) : Out := live s (fun s => ipdComplete s n peaks)
/-- OBS_LOST (R257). -/
def execObsLost (n : Ch) (s : State) : Out := live s (fun s => obsLost s n)
/-- RECAPTURE (R258): the currents at the two instants, `dt` tk apart. -/
def execRecapture (n : Ch) (a1 b1 a2 b2 : Int) (dt : Nat) (s : State) : Out :=
  live s (fun s => recapture s n ⟨a1, b1⟩ ⟨a2, b2⟩ dt)
/-- RECAP_ATTEMPT_END (R258). -/
def execRecapAttemptEnd (n : Ch) (s : State) : Out := live s (fun s => recapAttemptEnd s n)

/-- OBS_VALID (R256): obs_n good periods in a row. -/
def execObsValid (n : Ch) (s : State) : Out :=
  live s (fun s => s.onIf (s.getB SPn_FLD_CTL_obs_en n.val && decide (s.get SPn_OBS_obs_n n.val ≤ (s.sp n).fld.obs.ok))
    (fun s => s.put SPn_FLD_STAT_obs_valid 1 n.val))

/-- FW_LIMIT (R246): id_fw has stood at its minimum for 10 ms. -/
def execFwLimit (n : Ch) (s : State) : Out :=
  live s (fun s => s.onIf (decide (msFt 10 ≤ (s.sp n).fld.fwMinT) && s.getB SPn_FLD_CTL_fw_en n.val)
    (fun s => (s.put SPn_FLD_STAT_fw_limit 1 n.val).logEv 0x312A [n.val]))

/-- LOCKED (R259). -/
def execLocked (n : Ch) (s : State) : Out :=
  live s (fun s =>
    let w := (s.sp n).fld.watch
    s.onIf (s.getB SPn_FLD_CTL_lr_en n.val && w.lrOn && !s.getB SPn_FLD_STAT_locked n.val
        && decide (msFt (s.get SPn_LR_T_lr_time n.val) ≤ w.lrT)) (fun s =>
      let s := modWatch s n (fun w => { w with lrThLock := s.get SPn_ANG_M_angle n.val, lrLow := 0 })
      ((s.put SPn_FLD_STAT_locked 1 n.val).logEv 0x3127 [n.val]).raise (chSrc n.val 19) n.val))

/-- LOCK_CLEAR (R259). -/
def execLockClear (n : Ch) (s : State) : Out :=
  live s (fun s =>
    let w := (s.sp n).fld.watch
    let moved := decide (2 * (degAng (s.get SPn_LR_lr_angle n.val) : Int) < |angDiff (s.get SPn_ANG_M_angle n.val) w.lrThLock|)
    let low := decide (msFt (s.get SPn_LR_T_lr_time n.val) ≤ w.lrLow)
    s.onIf (s.getB SPn_FLD_STAT_locked n.val && (moved || low))
      (fun s => (s.put SPn_FLD_STAT_locked 0 n.val).logEv 0x3128 [n.val]))

/-- KE_ABNORMAL (R260). -/
def execKeAbnormal (n : Ch) (s : State) : Out :=
  live s (fun s => s.onIf (s.getB SPn_FLD_CTL_ke_en n.val && !s.getB SPn_FLD_STAT_ke_abn n.val
      && decide (msFt (s.get SPn_KE_T_ke_time n.val) ≤ (s.sp n).fld.watch.keOut)) (fun s =>
    ((s.put SPn_FLD_STAT_ke_abn 1 n.val).logEv 0x3129 [n.val]).raise (chSrc n.val 20) n.val))

/-- PLL_LOCK (R261): 20 ms with a small angle. -/
def execPllLock (n : Ch) (s : State) : Out :=
  live s (fun s => s.onIf (gridMode s n && decide (msFt 20 ≤ (s.sp n).fld.grid.lockT)) (fun s =>
    modGrid (s.put SPn_FLD_STAT_pll_lock 1 n.val) n (fun g => { g with unl := false })))

/-- PLL_UNLOCK (R261). -/
def execPllUnlock (n : Ch) (s : State) : Out :=
  live s (fun s => s.onIf (gridMode s n && s.getB SPn_FLD_STAT_pll_lock n.val && decide (10 ≤ (s.sp n).fld.grid.badN)) (fun s =>
    ((modGrid (s.put SPn_FLD_STAT_pll_lock 0 n.val) n (fun g => { g with unl := true })).logEv 0x312B [n.val]).raise (chSrc n.val 21) n.val))

/-- GRID_BAND (R261): the frequency has been out of its band for 100 ms. -/
def execGridBand (n : Ch) (s : State) : Out :=
  live s (fun s => s.onIf (gridMode s n && decide (msFt 100 ≤ (s.sp n).fld.grid.bandT)) (fun s =>
    (modGrid s n (fun g => { g with bandT := 0, bandUp := true }) |>.logEv 0x312C [n.val]).raise (chSrc n.val 22) n.val))

/-! ### Output gate (R162) -/

/-- The field of a cause: 0 Reset, 1 Standby, 2 Replay, 3 Self-test. -/
def gateFld (c : Fin 4) : Fld := match c with
  | 0 => LEG_OGATE_reset
  | 1 => LEG_OGATE_standby
  | 2 => LEG_OGATE_replay
  | 3 => LEG_OGATE_selftest

/-- OUTPUT_GATE_HOLD (R162). -/
def execOutputGateHold (cause : Fin 4) (s : State) : Out := live s (fun s => s.gateHold (gateFld cause))
/-- OUTPUT_GATE_RELEASE (R162). -/
def execOutputGateRelease (cause : Fin 4) (s : State) : Out := live s (fun s => s.gateEnd (gateFld cause))

/-! ### Replay's reloads (R458) -/

/-- The tick of the next recorded HEADER of a channel after word `i`, in recorded ticks. -/
def nextHeader (s : State) (n : Nat) : List (Nat × Nat) → Option Nat
  | [] => none
  | (i, w) :: t => if wType w = 0x01 ∧ wSource w = n then some (hdrTsAt s i) else nextHeader s n t

/-- A recorded HEADER of a replayed channel is its reload: the next recorded HEADER gives the deadline. -/
def replayHeader (s : State) (i w : Nat) : State :=
  match s.owl.replay with
  | none => s
  | some r =>
    let n := chOf (wSource w)
    let s := replayClose s n
    let s := modReplay s (fun r => { r with hdr := r.hdr.set n.val (some (i, hdrTsAt s i)), pos := ringSkip 2 i, disagree := false })
    let nxt := nextHeader s n.val ((ringFrom s i).drop 2)
    let g : Nat := s.get CHn_TIMING_commit_guard n.val
    let dl : Option Nat := nxt.map (fun t => ((t : Int) + r.delta).toNat - g)
    let s := s.onIf (s.carrier (.ch n)).run (fun s => reloadCh s n dl)
    s.put CHn_PERIOD_CNT_count (s.get CHn_PERIOD_CNT_count n.val / 65536 * 65536 + wPayload (s.ow (ringNext i)) / 2 ^ 24) n.val

/-- REPLAY_HEADER (R458): the next record is a HEADER of a replayed channel. -/
def execReplayHeader (s : State) : Out :=
  live s (fun s =>
    let a := replayNext s
    match a.2 with
    | some (i, w) =>
      if !replayCame a.1 w then s else if (endMark a.1 i w).isSome || wType w != 0x01 then a.1 else replayHeader a.1 i w
    | none => a.1)

/-! ### Restoring a spindle (R314) -/

/-- A swap taken at the reload of the held period is undone and waits for the next reload (R232). -/
def swapBack (s : State) (n : Ch) (how : Nat) : State :=
  if how = 0 then s
  else
    let s := (s.put SPn_BANK_active (1 - actBank s n.val) n.val).putB SPn_BANK_fb (how == 3) n.val
    let s := if how = 2 then s.modSp n (fun p => { p with fbPend := true }) else s.putB SPn_BANK_swap true n.val
    budgetShow (stepShow s n) n

/-- The held period is evaluated again (R314 step 3), and the state of its successor's reload is formed anew. The applied input
stays that of the checkpoint, which the legs held (DEDUCED, assumption 59). -/
def redoHeld (s : State) (n : Ch) (c : Ckpt) : State :=
  let p := s.sp n
  let now := takeCkpt s n
  let s := loadCkpt (swapBack s n p.startSwap) n c
  let s := redoPeriod s n p.bufMeas p.bufAng p.bufDone
  let s := s.forL (stateWords.filter (fun k => 0x840 ≤ k)) (fun k s => s.putLw (spWord n.val k) (bitsWord (sget 0 now.words k)))
  let s := s.forL [0x808, 0x809] (fun k s => s.putLw (spWord n.val k) (bitsWord (sget 0 c.words k)))
  let s := s.modFld n (fun f => { f with
    iLim := now.fld.iLim, tLim := now.fld.tLim, tReg := now.fld.tReg, stopClamp := now.fld.stopClamp })
  let s := refForm s n
  let d := takeCkpt s n
  s.modSp n (fun q => { q with ckpt := some d })

/-- SPINDLE_RESTORE (R314): both copies load the last checkpoint, evaluate the held period again, and the present period goes on. -/
def spindleRestore (s : State) (n : Ch) : State :=
  let p := s.sp n
  if !p.held then s
  else
    let ang := (s.get SPn_ANG_M_angle n.val, s.get SPn_ANG_U_angle n.val)
    let s := match p.start with
      | some c => redoHeld s n c
      | none => s
    let s := (s.put SPn_ANG_M_angle ang.1 n.val).put SPn_ANG_U_angle ang.2 n.val
    let s := s.modSp n (fun q => { q with
      held := false, isOpen := spRuns s n, spec := 0, rejGate := none, waitHit := false, counted := false, posOk := p.posOk,
      meas := (List.finRange 8).foldl (fun m k => vupd m k (fun x => { x with cur := p.meas[k].cur })) q.meas })
    let s := s.modBdg (fun b => { b with holds := if b.holds.testBit (2 + n.val) then b.holds - 2 ^ (2 + n.val) else b.holds })
    (s.putBit PRT_LS_STAT_restored (2 + n.val) true).logEv 0x4025 [2 + n.val]

/-- SPINDLE_RESTORE. -/
def execSpindleRestore (n : Ch) (s : State) : Out := live s (fun s => spindleRestore s n)

/-! ### Faults on their way (R333) -/

/-- FAULT_RAISED (R333): a source arrives; a recording's replay ends when its class is CH_SAFE or above (R459). -/
def execFaultRaised (src : Fin 192) (payload : Nat) (s : State) : Out :=
  live s (fun s =>
    let s := { s with inflight := s.inflight.erase (src.val, payload) }
    let s := faultArrive s src.val payload
    s.onIf (decide (2 ≤ classOf s src.val) && s.owl.replay.isSome) (fun s => endReplay s 11))

end Sys2Proof.Machine
end

