-- ==== Sys2Proof/Machine/FplCore.lean ====
section
/-! DEFINITION. Faceplate's queues (R375 to R386): packets, their checks, completions, the pre-decoder, and the links'
messages (R397, R401, R402, R404). -/

namespace Sys2Proof.Machine

/-! ### Queues -/

/-- Changes what Faceplate keeps for a queue. -/
def State.modQp (s : State) (q : Qp) (f : QpSt → QpSt) : State := { s with fpl := { s.fpl with qps := vupd s.fpl.qps q f } }

/-- A queue number. -/
def qpOf (v : Nat) : Qp := ⟨v % 64, Nat.mod_lt _ (by omega)⟩

/-- A queue is open. -/
def qOpen (s : State) (q : Qp) : Bool := s.getB QPq_CFG_open q.val
/-- The transport of a queue: 0 host link, 1 CAN0, 2 CAN1, 3 Ethernet, 4 CPA, 5 CPB. -/
def qTrans (s : State) (q : Qp) : Nat := s.get QPq_CFG_transport q.val
/-- The depth of a queue. -/
def qDepth (s : State) (q : Qp) : Nat := 2 ^ s.get QPq_CFG_depth q.val
/-- A queue of R376: bound to P and to an external transport. -/
def qCmac (s : State) (q : Qp) : Bool := s.getB QPq_CFG_priv q.val && decide (qTrans s q < 4)
/-- A bootstrap queue, which cannot be closed (R381, R383). -/
def qBoot (q : Qp) : Bool := decide (q.val < 4)
/-- Entries in the submission ring. -/
def sqLen (s : State) (q : Qp) : Nat := (s.get QPq_SQ_tail q.val + 512 - s.get QPq_SQ_head q.val) % 512
/-- Entries in the completion ring. -/
def cqLen (s : State) (q : Qp) : Nat := (s.get QPq_CQ_tail q.val + 512 - s.get QPq_CQ_head q.val) % 512
/-- The address of submission entry `k`. -/
def sqAddr (s : State) (q : Qp) (k : Nat) : Nat := s.get QPq_BASE_addr q.val + 256 * (k % qDepth s q)
/-- The address of completion entry `k`. -/
def cqAddr (s : State) (q : Qp) (k : Nat) : Nat := s.get QPq_BASE_addr q.val + 256 * qDepth s q + 256 * (k % qDepth s q)
/-- The indices of the entries that wait, oldest first: those in the ring that nothing has served. -/
def qWaiting (s : State) (q : Qp) : List Nat :=
  ((List.range (sqLen s q)).map (fun k => (s.get QPq_SQ_head q.val + k) % 512)).filter (fun k => !(s.fpl.qps[q].served.contains k))

/-- The head passes the entries that have been served, and `pending` counts those that wait. -/
def qSettle (s : State) (q : Qp) : State :=
  let s := s.forN 512 (fun _ s =>
    let h := s.get QPq_SQ_head q.val
    s.onIf (sqLen s q != 0 && s.fpl.qps[q].served.contains h) (fun s =>
      (s.put QPq_SQ_head (h + 1) q.val).modQp q (fun x => { x with served := x.served.erase h })))
  s.put QPq_STAT_pending (qWaiting s q).length q.val

/-- An entry is served. -/
def qServe (s : State) (q : Qp) (k : Nat) : State := qSettle (s.modQp q (fun x => { x with served := k :: x.served })) q

/-- The packet in submission entry `k`. -/
def sqPacket (s : State) (q : Qp) (k : Nat) : List Nat :=
  let h := s.bytesAt (sqAddr s q k) 16
  s.bytesAt (sqAddr s q k) (16 + min 240 (h.getD 5 0))

/-! ### Messages of the links -/

/-- A message leaves on a transport. -/
def netSend (s : State) (t : Nat) (b : List Nat) : State := { s with net := { s.net with out := sput [] s.net.out t b } }

/-- The 64-byte CAN FD frames of a packet, one after the other (R402). -/
def canFrames (b : List Nat) : List Nat :=
  let parts := chunks 63 (b.length / 63 + 1) b
  parts.zipIdx.flatMap (fun p =>
    let hdr := (if p.2 = 0 then 128 else 0) + (if p.2 + 1 = parts.length then 64 else 0) + p.2
    (hdr :: p.1) ++ List.replicate (63 - p.1.length) 0)

/-- A completion or an acknowledgement leaves on CAN or Ethernet; Ethernet goes to address and port `dst` (R404). -/
def transmit (s : State) (t dst : Nat) (b : List Nat) : State :=
  match t with
  | 1 => netSend s 1 (canFrames b)
  | 2 => netSend s 2 (canFrames b)
  | 3 => netSend (netSend s 3 b) 4 (leBytes 6 dst)
  | _ => s

/-- A transport acknowledgement (R398): queue, sequence, status. -/
def ackBytes (q seq st : Nat) : List Nat := [q, seq % 256, seq / 256 % 256, st]

/-! ### Completions -/

/-- The completion entry of a command (R378), with the CMAC of R376 where the queue asks for one. -/
def cplEntry (s : State) (c : Ctx) (st : Nat) (res : List Nat) (more : Bool) : List Nat :=
  let mac := qCmac s c.q
  let hdr := [c.opcode % 256, st, c.q.val] ++ leBytes 2 c.seq ++ [res.length + (if mac then 8 else 0)]
    ++ [c.chan % 16 + (if c.priv then 16 else 0), if more then 2 else 0] ++ leBytes 4 s.now
  let res := if mac then
      res ++ (aesCmac (s.fpl.qps[c.q].key.getD []) (hdr ++ res ++ leBytes 4 s.fpl.qps[c.q].cpls)).take 8
    else res
  hdr ++ leBytes 4 (crc32c (hdr ++ res)) ++ res

/-- A completion is written (R378, R381, R385): it is stored for a retransmission, raises the queue's interrupt, and leaves at
once on CAN and Ethernet; one that finds the ring full is dropped. -/
def complete (s : State) (c : Ctx) (st : Nat) (res : List Nat := []) (more : Bool := false) : State :=
  if st = 0 ∧ c.flags % 2 = 1 then s
  else if !qOpen s c.q then s
  else if cqLen s c.q = qDepth s c.q then (s.incSat FPL_STAT_cpl_drop).logEv 0x6004 [c.q.val]
  else
    let e := cplEntry s c st res more
    let k := s.get QPq_CQ_tail c.q.val
    let s := (s.putBytes (cqAddr s c.q k) e).put QPq_CQ_tail (k + 1) c.q.val
    let s := s.modQp c.q (fun x => { x with
      cpls := x.cpls + 1
      last := x.last.map (fun l => if l.seq = c.seq then { l with reply := some e } else l) })
    let s := s.irq (64 + c.q.val)
    let t := qTrans s c.q
    if t = 1 ∨ t = 2 ∨ t = 3 then
      (transmit s t s.fpl.qps[c.q].src e).put QPq_CQ_head (k + 1) c.q.val
    else s

/-! ### The checks of R377 -/

/-- The opcodes of R393. -/
def opDefined (op : Nat) : Bool :=
  [0x01, 0x02, 0x03, 0x04, 0x05, 0x06, 0x10, 0x11, 0x12, 0x13, 0x14, 0x15, 0x20, 0x21, 0x22, 0x23, 0x30, 0x31, 0x32, 0x40,
    0x41, 0x42, 0x50, 0x51, 0x52, 0x60, 0x61, 0x70, 0x71, 0x80, 0x81, 0x82, 0x90, 0x91, 0x92, 0x93, 0xA0, 0xA1, 0xA2, 0xB0,
    0xB1, 0xB2, 0xC0, 0xC1, 0xC2, 0xC3, 0xF0, 0xF1, 0xFE].contains op

/-- The length of the parameters matches the opcode (R393). -/
def lenMatches (op : Nat) (p : List Nat) : Bool :=
  let n := p.length
  let b (i : Nat) : Nat := p.getD i 0
  match op with
  | 0x03 => n == 5
  | 0x04 => n == (if b 0 = 2 then 25 else 9)
  | 0x05 => n == 1
  | 0x06 => n == 1
  | 0x12 => n == 1
  | 0x20 => n == 8
  | 0x21 => n == 8 || n == 16
  | 0x22 => n == 8
  | 0x23 => n == 32
  | 0x30 => n == 4 + 8 * b 0
  | 0x31 => n == 4 + 4 * b 0
  | 0x40 => n == 8 + 9 * b 4
  | 0x42 => n == 5
  | 0x50 => n == 2
  | 0x51 => n == 6
  | 0x52 => n == 6
  | 0x61 => n == 8
  | 0x70 => decide (8 ≤ n)
  | 0x71 => n == 2
  | 0x81 => n == 5
  | 0x82 => n == 12
  | 0x90 => n == 8
  | 0x92 => n == 6
  | 0x93 => n == 5
  | 0xA1 => n == 1
  | 0xB0 => n == 1
  | 0xB1 => n == 5
  | 0xB2 => n == 8 + 4 * b 4
  | 0xC1 => n == 20
  | 0xC2 => decide (8 ≤ n)
  | 0xC3 => n == 20
  | 0xF1 => n == 1
  | 0xFE => n == 5
  | _ => n == 0 || !opDefined op

/-- The opcodes that R393 marks P. -/
def opPriv (op : Nat) : Bool :=
  [0x06, 0x10, 0x13, 0x14, 0x15, 0x23, 0x32, 0x40, 0x41, 0x50, 0x51, 0x52, 0x60, 0x61, 0x70, 0x71, 0x82, 0x90, 0x93, 0xA1,
    0xA2, 0xB0, 0xB2, 0xC1, 0xC2, 0xC3, 0xF1, 0xFE].contains op

/-- The channel field is one that the opcode accepts. -/
def chanOk (op ch : Nat) : Bool :=
  if op = 0x11 ∨ op = 0x12 then decide (ch < 4) || ch == 15
  else if [0x10, 0x13, 0x14, 0x15, 0x20, 0x21, 0x22, 0x23, 0x40, 0x41, 0x42, 0x60, 0x61].contains op then decide (ch < 4)
  else true

/-- The life-cycle state (R485). -/
def lcState (s : State) : Nat := s.get LCS_STATE_state

/-- The opcode is permitted in the present life-cycle state (R485, R488, R430). -/
def lifeOk (s : State) (op : Nat) (q : Qp) : Bool :=
  let l := lcState s
  if l = 5 then q.val == 0 && (op == 0x02 || op == 0xC0)
  else match op with
    | 0x10 => l != 0
    | 0x82 => l == 1 || l == 4
    | 0xC3 => l != 0
    | 0xFE => l == 2 || l == 4
    | _ => true

/-- A shut-down BIST runs (R472). -/
def shutBist (s : State) : Bool := decide (2 ≤ s.get PWR_STAT_shut)

/-- The opcodes that the pre-decoder executes (R384). -/
def preDecoded (op : Nat) : Bool := op == 0x02 || op == 0x11 || op == 0x12

/-- Checks 6 to 9 of R377 for a command that would execute with privilege `c.priv`; 0 where all pass. -/
def admission (s : State) (c : Ctx) : Nat :=
  if opPriv c.opcode && !c.priv then 0x20
  else if !lifeOk s c.opcode c.q then 0x21
  else if !chanOk c.opcode c.chan then 0x14
  else if shutBist s && !([0x02, 0x03, 0xF0].contains c.opcode) then 0x40
  else 0

/-! ### The operations that the pre-decoder executes -/

/-- The channels that a channel field names. -/
def chanList (ch : Nat) : List Ch := if ch = 15 then List.finRange 4 else [chOf ch]

/-- `CHn_STATE` as a word. -/
def chStateWord (s : State) (n : Nat) : Nat :=
  [CHn_STATE_state, CHn_STATE_prev, CHn_STATE_held, CHn_STATE_safety, CHn_STATE_ss, CHn_STATE_pat, CHn_STATE_sel, CHn_STATE_cause,
    CHn_STATE_motoring_only].foldl (fun v f => v + s.get f n * 2 ^ f.lsb) 0

/-- GET_STATUS (R393). -/
def opGetStatus (s : State) : Nat × List Nat × State :=
  (0, [s.get SYS_PROFILE_active, s.get BDG_STATE_unit, s.get FPL_MPLOAD_load, s.get TLS_STAT_role]
    ++ (List.range 4).flatMap (fun n => leBytes 4 (chStateWord s n)) ++ leBytes 4 (s.get FPL_EVT_SEQ_seq) ++ leBytes 8 s.now, s)

/-- CH_STOP (R271); for all four channels it answers OK unless every one is discharging (DEDUCED, assumption 71). -/
def opChStop (s : State) (c : Ctx) : Nat × State :=
  (chanList c.chan).foldl (fun r n =>
    let x := chStopCmd (r.2.onIf (isStandby r.2) (fun s => strayMark s n)) n
    (if x.1 = 0 then 0 else r.1, x.2)) (0x41, s)

/-- CH_SAFE (R271, R279, R358). -/
def opChSafe (s : State) (c : Ctx) (p : List Nat) : Nat × State :=
  if 4 < p.headD 0 then (0x14, s)
  else (0, s.forL (chanList c.chan) (fun n s => chSafeCmd (s.onIf (isStandby s) (fun s => strayMark s n)) n (p.headD 0)))

/-- The pre-decoder executes a command and writes its completion (R384, R385). -/
def preExec (s : State) (c : Ctx) (p : List Nat) : State :=
  match c.opcode with
  | 0x02 =>
    let r := opGetStatus s
    complete r.2.2 c r.1 r.2.1
  | 0x11 =>
    let r := opChStop s c
    complete r.2 c r.1
  | _ =>
    let r := opChSafe s c p
    complete r.2 c r.1

/-! ### Arrival (R377, R379, R384) -/

/-- How an arriving packet was judged: rejected without a queue, answered with a status on its queue, a retransmission with
the stored completion, stored for the MP, or executed by the pre-decoder. -/
inductive Arrival where
  | rej (st : Nat)
  | bad (c : Ctx) (st : Nat)
  | again (c : Ctx) (reply : Option (List Nat))
  | stored (c : Ctx) (p : List Nat) (pre : Bool)
  deriving DecidableEq, Repr

/-- The context that a packet's header gives. -/
def ctxOf (b : List Nat) (prv : Bool) : Ctx :=
  ⟨qpOf (b.getD 2 0), leAt b 3 2, b.getD 0 0, b.getD 1 0, b.getD 6 0 % 16, prv⟩

/-- The checks of R377 in their order, over the packet `b` on transport `t`; `room` says that the submission ring is not full. The CMAC
of R376 covers the header without its CRC, which covers the CMAC itself (DEDUCED, assumption 134). -/
def judgePkt (s : State) (t : Nat) (b : List Nat) (room : Bool) : Arrival :=
  let q := qpOf (b.getD 2 0)
  let bound := qOpen s q && qTrans s q == t
  let mac := bound && qCmac s q
  let all := b.drop 16
  let p := if mac then all.take (all.length - 8) else all
  let op := b.getD 0 0
  let want := decide (b.getD 6 0 / 16 % 2 = 1)
  let c := ctxOf b (want && s.getB QPq_CFG_priv q.val)
  let crc := leAt b 12 4
  let x := s.fpl.qps[q]
  let same := match x.last with
    | some l => l.seq == c.seq && l.crc == crc
    | none => false
  let count := if same then (match x.last with | some l => l.count | none => 0) else x.pkts
  let macOk := !mac || (all.drop (all.length - 8)
    == (aesCmac (x.key.getD []) (b.take 12 ++ p ++ leBytes 4 count)).take 8)
  if decide (b.length < 16) || crc32c (b.take 12 ++ all) != crc then .rej 0x10
  else if decide (240 < b.getD 5 0) || all.length != b.getD 5 0 || (mac && decide (all.length < 8)) || !lenMatches op p then .rej 0x11
  else if !bound then .rej 0x12
  else if !opDefined op || decide (2 ≤ b.getD 1 0) || decide (64 ≤ b.getD 2 0) || decide (32 ≤ b.getD 6 0)
      || (b.drop 7).take 5 != [0, 0, 0, 0, 0] || (s.get QPq_CFG_class q.val == 0 && !preDecoded op) then .bad c 0x13
  else if !macOk then .bad c 0x10
  else if same then .again c (match x.last with | some l => l.reply | none => none)
  else if want && !s.getB QPq_CFG_priv q.val then .bad c 0x20
  else if admission s c != 0 then .bad c (admission s c)
  else if !room then .bad c 0x30
  else .stored c p (preDecoded op)

/-- A packet has been accepted on its queue: it becomes the queue's last packet, and the counts advance (R376, R379). -/
def accept (s : State) (c : Ctx) (b : List Nat) : State :=
  s.modQp c.q (fun x => { x with last := some ⟨c.seq, leAt b 12 4, x.pkts, none⟩, pkts := x.pkts + 1, lastTs := s.now })

/-- A stored completion answers a retransmission (R379): it is sent again, or written again on a core's ring. -/
def resend (s : State) (c : Ctx) (e : List Nat) : State :=
  let t := qTrans s c.q
  if t < 4 then transmit s t s.fpl.qps[c.q].src e
  else if cqLen s c.q = qDepth s c.q then (s.incSat FPL_STAT_cpl_drop).logEv 0x6004 [c.q.val]
  else
    let k := s.get QPq_CQ_tail c.q.val
    ((s.putBytes (cqAddr s c.q k) e).put QPq_CQ_tail (k + 1) c.q.val).irq (64 + c.q.val)

/-- A packet arrives on an external transport. For the links, what it was judged to be comes with the new state. -/
def packetArrival (s : State) (t dst : Nat) (b : List Nat) : Arrival × State :=
  let q := qpOf (b.getD 2 0)
  let room := decide (sqLen s q < qDepth s q)
  let r := judgePkt s t b room
  let s := s.onIf (t == 3 && q.val == 3) (fun s => s.modQp q (fun x => { x with src := dst }))
  (r, match r with
  | .rej _ => s.incSat FPL_STAT_rej
  | .bad c st =>
    let s := s.modQp c.q (fun x => { x with lastTs := s.now })
    complete (s.onIf (st == 0x30) (fun s => s.incSat QPq_STAT_qfull_cnt c.q.val)) { c with flags := 0 } st
  | .again c (some e) => resend (s.modQp c.q (fun x => { x with lastTs := s.now })) c e
  | .again c none => s.modQp c.q (fun x => { x with lastTs := s.now })
  | .stored c p pre =>
    let k := s.get QPq_SQ_tail c.q.val
    let s := accept ((s.putBytes (sqAddr s c.q k) b).put QPq_SQ_tail (k + 1) c.q.val) c b
    if pre then qServe (preExec s c p) c.q k else qSettle s c.q)

/-- An entry that a core has written into its ring is judged (R377, R381): a packet that fails a check is answered on the
completion ring of the queue named, or, where that is not an open queue of the core, of the ring itself. -/
def coreEntry (s : State) (q : Qp) (k : Nat) : State :=
  let b := sqPacket s q k
  let c := ctxOf b false
  let named := if qOpen s c.q && qTrans s c.q == qTrans s q then c.q else q
  let r := if c.q = q then judgePkt s (qTrans s q) b true else .rej 0x12
  match r with
  | .rej st => qServe (complete (s.incSat FPL_STAT_rej) { c with q := named, flags := 0 } st) q k
  | .bad c st => qServe (complete s { c with flags := 0 } st) q k
  | .again c (some e) => qServe (resend s c e) q k
  | .again _ none => qServe s q k
  | .stored c p pre =>
    let s := accept s c b
    if pre then qServe (preExec s c p) q k else qSettle s q

/-- CPA or CPB advances `QPq_SQ.tail` to `t` (R381): each new entry is judged in turn. -/
def sqTail (s : State) (q : Qp) (t : Nat) : State :=
  let old := s.get QPq_SQ_tail q.val
  let n := min ((t % 512 + 512 - old) % 512) (qDepth s q - sqLen s q)
  let s := s.modQp q (fun x => { x with lastTs := s.now })
  s.forN n (fun i s => coreEntry (s.put QPq_SQ_tail (old + i + 1) q.val) q ((old + i) % 512))

/-- WAIT_EXPIRED: the oldest command that waits on a queue with a limit is completed unexecuted (R386). -/
def waitExpired (s : State) (q : Qp) : State :=
  match qWaiting s q with
  | [] => s
  | k :: _ =>
    if !qOpen s q || s.get QPq_WAIT_qwait q.val = 0 then s
    else
      let b := sqPacket s q k
      let c := ctxOf b (decide (b.getD 6 0 / 16 % 2 = 1) && s.getB QPq_CFG_priv q.val)
      qServe (complete (s.incSat QPq_STAT_wexp_cnt q.val) c 0x31) q k

/-! ### Opening and closing (R382, R383, R527) -/

/-- Queue numbers that are in use: open, or reserved by CHALLENGE. -/
def qUsed (s : State) (q : Qp) : Bool := qOpen s q || s.fpl.reserves.any (fun r => r.q == q.val)

/-- The lowest free queue number. -/
def qFree (s : State) : Option Qp := (List.finRange 64).find? (fun q => !qUsed s q)

/-- The ring area of the queues in use, as start and end. -/
def ringUse (s : State) : List (Nat × Nat) :=
  ((List.finRange 64).filter (qUsed s)).map (fun q => (s.get QPq_BASE_addr q.val, s.get QPq_BASE_addr q.val + 512 * qDepth s q))

/-- The lowest start in the ring area with room for `len` bytes (the address is the model's choice, assumption 72). -/
def ringAlloc (s : State) (len : Nat) : Option Nat :=
  let base := s.get FPL_POOL_BASE_base
  let top := base + s.get FPL_POOL_SIZE_size
  let used := ringUse s
  let fits (a : Nat) : Bool := decide (base ≤ a) && decide (a + len ≤ top)
    && used.all (fun u => decide (a + len ≤ u.1) || decide (u.2 ≤ a))
  (base :: used.map Prod.snd).foldl (fun r a => if fits a then (match r with
    | some m => some (min m a)
    | none => some a) else r) none

/-- The registers of a queue take what SESSION_OPEN asked for. -/
def qSetup (s : State) (q : Qp) (t : Nat) (prv : Bool) (p : List Nat) (base : Nat) : State :=
  let i := q.val
  let s := ((s.put QPq_CFG_transport t i).putB QPq_CFG_priv prv i).put QPq_CFG_class (p.getD 1 0) i
  let s := ((s.put QPq_CFG_bulk (p.getD 3 0) i).put QPq_CFG_depth (p.getD 2 0) i).put QPq_BASE_addr base i
  let s := (s.put QPq_WAIT_qwait (leAt p 4 2) i).put QPq_WAIT_idle_to (leAt p 6 2) i
  (((s.put QPq_SQ_tail 0 i).put QPq_SQ_head 0 i).put QPq_CQ_tail 0 i).put QPq_CQ_head 0 i

/-- A queue opens with a session key. -/
def qOpenNow (s : State) (q : Qp) (key : Option (List Nat)) (src : Nat) : State :=
  let s := (s.put QPq_CFG_open 1 q.val).put QPq_STAT_pending 0 q.val
  (s.modQp q (fun _ => ⟨none, 0, 0, key, src, s.now, [], none⟩)).logEv 0x6001 [q.val]

/-- A queue closes (R383). -/
def qClose (s : State) (q : Qp) : State :=
  let s := (s.put QPq_CFG_open 0 q.val).put QPq_SQ_head (s.get QPq_SQ_tail q.val) q.val
  let s := (s.put QPq_STAT_pending 0 q.val).modQp q (fun x => { x with served := [], asm := none, key := none, last := none })
  let s := { s with fpl := { s.fpl with running := s.fpl.running.map (fun (r : RunOp) => if r.ctx.q = q then { r with void := true } else r) } }
  s.logEv 0x6002 [q.val]

/-- CHALLENGE's reservation of a queue ends. -/
def reserveEnd (s : State) (q : Nat) : State :=
  { s with fpl := { s.fpl with reserves := s.fpl.reserves.filter (fun r => r.q != q) } }

/-! ### Operations -/

/-- What an operation answers: its status and results, or none while its completion waits for its effect (R380). -/
abbrev OpRes := Option (Nat × List Nat) × State

/-- An operation completes at once. -/
def opDone (st : Nat) (res : List Nat) (s : State) : OpRes := (some (st, res), s)

/-- An operation stays in execution. -/
def opWait (s : State) (c : Ctx) (p : List Nat) : OpRes :=
  (none, { s with fpl := { s.fpl with running := s.fpl.running ++ [⟨c, p, false⟩] } })

/-- An operation in execution completes; where its queue has closed meanwhile, its completion is discarded (R383). -/
def opEnd (s : State) (c : Ctx) (st : Nat) (res : List Nat) : State :=
  let void := s.fpl.running.any (fun r => r.ctx == c && r.void)
  let s := { s with fpl := { s.fpl with running := s.fpl.running.filter (fun r => r.ctx != c) } }
  s.onIf (!void) (fun s => complete s c st res)

/-! ### Running Faceplate -/

/-- Faceplate and its links run unless CKM is lost (R388). -/
def faced (s : State) (f : State → State) : Out := live s (fun s => s.onIf (!s.bdg.clkBad.testBit 3) f)

/-- A transport's number in `QPq_CFG.transport`. -/
def transNum : Transport → Nat
  | .hlk => 0
  | .can0 => 1
  | .can1 => 2
  | .eth => 3
  | .cpa => 4
  | .cpb => 5

/-- The acknowledgement of a packet that was rejected without a queue, or repeated while it waits, leaves on CAN (R377, R379,
R401). -/
def canAck (s : State) (t : Nat) (b : List Nat) : Arrival → State
  | .rej st => transmit s t 0 (ackBytes (b.getD 2 0) (leAt b 3 2) st)
  | .again c none => transmit s t 0 (ackBytes c.q.val c.seq 0)
  | _ => s

/-- PACKET_ARRIVAL (R377): packet `b` arrives complete on a transport, from `src` on Ethernet. A packet on a core's transport
arrives as an entry of the core's own queue. -/
def execPacketArrival (t : Transport) (src : Nat) (b : List Nat) (s : State) : Out :=
  faced s (fun s =>
    let n := transNum t
    if n = 3 && !s.getB ETH_FP_en then s
    else if n < 4 then
      let r := packetArrival s n src b
      if n = 0 ∨ n = 3 then r.2 else canAck r.2 n b r.1
    else
      let q : Qp := if n = 4 then 62 else 63
      let k := s.get QPq_SQ_tail q.val
      if sqLen s q = qDepth s q then s
      else coreEntry ((s.putBytes (sqAddr s q k) b).put QPq_SQ_tail (k + 1) q.val) q k)

/-- WAIT_EXPIRED (R386). -/
def execWaitExpired (q : Qp) (s : State) : Out := faced s (fun s => waitExpired s q)

/-- MPLOAD_WINDOW (R387): a 10 ms window ends with the MP busy for `busy` / 256 of it. -/
def execMploadWindow (busy : Fin 256) (s : State) : Out :=
  faced s (fun s =>
    let a := if 2304 < 10 * busy.val then s.fpl.above + 1 else 0
    let b := if 10 * busy.val < 2048 then s.fpl.below + 1 else 0
    let s := { s.put FPL_MPLOAD_load busy.val with fpl := { s.fpl with above := a, below := b } }
    let s := s.onIf (a == 10 && !s.getB FPL_MPLOAD_overload) (fun s => (s.put FPL_MPLOAD_overload 1).logEv 0x6003)
    s.onIf (decide (10 ≤ b)) (fun s => s.put FPL_MPLOAD_overload 0))

/-- QUEUE_IDLE_TIMEOUT (R383): no packet has arrived for the queue's idle time; one that arrives on that tick restarts it (R408). -/
def execQueueIdleTimeout (q : Qp) (s : State) : Out :=
  faced s (fun s => s.onIf (qOpen s q && !qBoot q && s.get QPq_WAIT_idle_to q.val != 0
    && decide (s.fpl.qps[q].lastTs + 10 * tkMs * s.get QPq_WAIT_idle_to q.val ≤ s.now)) (fun s => qClose s q))

/-- CHALLENGE_EXPIRY (R527). -/
def execChallengeExpiry (q : Qp) (s : State) : Out := faced s (fun s => reserveEnd s q.val)

end Sys2Proof.Machine
end

