-- ==== Sys2Proof/Machine/Meter.lean ====
section
/-! DEFINITION. The energy meter, its ledger and the retention (R428 to R436, R479), the OTP's key slots (R487), and the
check-value unit (R437, R438). -/

namespace Sys2Proof.Machine

/-! ### Key slots and the retention -/

/-- The key of an AES slot that is programmed, not revoked, and has usage bit `b` of its attribute byte (R487). -/
def aesKey (s : State) (slot b : Nat) : Option (List Nat) :=
  let k := sget ⟨0, []⟩ s.pwr.keys slot
  if s.getBit LCS_KEYS_present slot && !s.getBit LCS_KEYS_revoked slot && k.attr.testBit 0 && k.attr.testBit b then some k.data
  else none

/-- The device ID's 8 bytes. -/
def devIdBytes : List Nat := leBytes 8 Config.deviceId

/-- Bytes are written into the retention (R479); its CRC follows in the same operation. -/
def retPut (s : State) (off : Nat) (l : List Nat) : State :=
  { s with pwr := { s.pwr with ret := l.zipIdx.foldl (fun r p => sput 0 r (off + p.2) p.1) s.pwr.ret } }

/-- Bytes of the retention. -/
def retBytes (s : State) (off n : Nat) : List Nat := (List.range n).map (fun k => sget 0 s.pwr.ret (off + k))

/-! ### Pack ID and totals -/

/-- The four totals' registers. -/
def totals : List (Fld × Fld) :=
  [(MTR_EPOS_LO_total, MTR_EPOS_HI_total), (MTR_ENEG_LO_total, MTR_ENEG_HI_total), (MTR_QPOS_LO_total, MTR_QPOS_HI_total),
    (MTR_QNEG_LO_total, MTR_QNEG_HI_total)]

/-- Total `k`. -/
def total (s : State) (k : Nat) : Nat := match totals[k]? with
  | some f => s.get64 f.1 f.2
  | none => 0

/-- Sets total `k`. -/
def putTotal (s : State) (k v : Nat) : State := match totals[k]? with
  | some f => s.put64 f.1 f.2 v
  | none => s

/-- The pack ID is configured: `pack_src` as the running block uses it (R430). -/
def packConf (s : State) : Bool := s.mtr.scale.getD 7 0 != 0

/-- The meter's key: `key_slot` as the running block uses it (R430, R432). -/
def mtrKey (s : State) : Option (List Nat) := aesKey s (s.mtr.scale.getD 6 0).toNat 4

/-- The pack ID of the records (R433). -/
def packId (s : State) : List Nat :=
  (List.range 4).flatMap (fun k => leBytes 4 (s.get (if packConf s then MTR_PACKIDk_id else MTR_CURPACKk_id) k))

/-- Sets the current pack ID. -/
def putPack (s : State) (b : List Nat) : State := s.forN 4 (fun k s => s.put MTR_CURPACKk_id (leAt b (4 * k) 4) k)

/-- The totals, the sequence number and the pack ID are copied into the retention (R435, R479). -/
def retCopy (s : State) : State :=
  retPut s 64 ((List.range 4).flatMap (fun k => leBytes 8 (total s k)) ++ leBytes 4 (s.get MTR_SEQ_seq) ++ packId s)

/-! ### The blocks (R428, R429) -/

/-- The sums of a block of `n` clocks with codes `v` and `i`: of V × I in 2^-92 µW, and of I in 2^-46 mA. -/
def blockSums (sc : List Int) (smp : List (Nat × Int × Int)) : Int × Int :=
  let g (k : Nat) : Int := sc.getD k 0
  smp.foldl (fun r x =>
    let v := (x.2.1 + g 4) * g 2 * g 0
    let i := (x.2.2 + g 5) * g 3 * g 1
    (r.1 + x.1 * (v * i), r.2 + x.1 * i)) (0, 0)

/-- Whole units of `q / d` are added to total `k`; the rest is carried (R429). -/
def addTotal (s : State) (k : Fin 4) (q : Nat) (d : Nat) : State :=
  let t := s.mtr.res[k] + q
  let s := putTotal s k.val ((total s k.val + t / d) % 2 ^ 64)
  { s with mtr := { s.mtr with res := vupd s.mtr.res k (fun _ => t % d) } }

/-- 1 µWh in 2^-92 µW × 25 ns. -/
def unitE : Nat := 2 ^ 92 * 144000000000
/-- 1 µAh in 2^-46 mA × 25 ns. -/
def unitQ : Nat := 2 ^ 46 * 144000000

/-- The fields of R430 that the registers hold: the scales, `key_slot` and `pack_src`. -/
def scaleRegs (s : State) : List Int :=
  [s.get MTR_VLSB_lsb, s.get MTR_ILSB_lsb, s.get MTR_VGAIN_gain, s.get MTR_IGAIN_gain, s.getS MTR_OFS_v_ofs, s.getS MTR_OFS_i_ofs,
    s.get MTR_CFG_key_slot, s.get MTR_CFG_pack_src]

/-- A flag of the next record is set. -/
def mtrFlag (s : State) (b : Nat) : State := { s with mtr := { s.mtr with flags := s.mtr.flags ||| 2 ^ b } }

/-- A block ends. -/
def meterBlock (s : State) (smp : List (Nat × Int × Int)) (held : Nat) (clip : Bool) : State :=
  let x := blockSums s.mtr.scale smp
  let s := addTotal s (if 0 < x.1 then 0 else 1) x.1.natAbs unitE
  let s := addTotal s (if 0 < x.2 then 2 else 3) x.2.natAbs unitQ
  let s := s.put MTR_STAT_held (min (s.get MTR_STAT_held + held) 0xFFFF)
  let s := s.onIf (decide (40 < held)) (fun s =>
    let first := !s.mtr.flags.testBit 3
    (mtrFlag (s.put MTR_STAT_gap 1) 3).onIf first (fun s => s.logEv 0x7803))
  let s := s.onIf clip (fun s => mtrFlag s 7)
  { s with mtr := { s.mtr with scale := scaleRegs s } }

/-! ### The ledger (R431 to R434) -/

/-- Network time at TS `T` in ns (R405), rounded down. -/
def netTimeAt (s : State) (T : Nat) : Nat :=
  toField 64 ((s.get64 ETH_PTP_T_LO_t0 ETH_PTP_T_HI_t0 : Nat)
    + ((T : Int) - (s.get64 ETH_PTP_TS_LO_ts0 ETH_PTP_TS_HI_ts0 : Nat)) * 5 * (2 ^ 40 + s.getS ETH_PTP_RATE_rate) / 2 ^ 41)

/-- Network time of now in ns. -/
def netTime (s : State) : Nat := netTimeAt s s.now

/-- A ledger instant has come since the last record (R431): a whole multiple of `interval` in network time, else `interval` seconds of TS. -/
def ledgerDue (s : State) : Bool :=
  let n := s.get MTR_INT_interval
  if s.getB ETH_PTP_STAT_valid then decide (netTimeAt s s.mtr.lastTs / (n * 1000000000) < netTime s / (n * 1000000000))
  else decide (s.mtr.lastTs + n * 400000000 ≤ s.now)

/-- The first 56 bytes of a record (R432) with the given flags. -/
def recordBody (s : State) (fl : Nat) : List Nat :=
  packId s ++ devIdBytes ++ leBytes 4 (s.get MTR_SEQ_seq + 1)
    ++ leBytes 8 (if fl.testBit 0 then netTime s else s.now)
    ++ leBytes 8 (total s 0) ++ leBytes 8 (total s 1) ++ leBytes 4 fl

/-- A record's bytes: its body and the first 8 bytes of the MAC, 0 without a key (R432). -/
def recordMac (s : State) (body : List Nat) : List Nat := match mtrKey s with
  | some k => (aesCmac k body).take 8
  | none => List.replicate 8 0

/-- A record is written with `extra` among its flags: it is kept among the last 1,024, and the retention takes the totals. -/
def ledgerWrite (s : State) (extra : Nat) : State :=
  let b (c : Bool) (k : Nat) : Nat := if c then 2 ^ k else 0
  let fl := s.mtr.flags ||| extra ||| b (s.getB ETH_PTP_STAT_valid) 0 ||| b s.tls.takeoverFlag 2
    ||| b (packConf s) 5 ||| b (s.getB MTR_STAT_pack_unver && !packConf s) 6 ||| b (mtrKey s).isNone 10
  let body := recordBody s fl
  let seq : Nat := (s.get MTR_SEQ_seq + 1) % 2 ^ 32
  let rcd := body ++ recordMac s body
  let s := s.onIf (mtrKey s).isNone (fun s => s.logEv 0x7807)
  let s := { s with mtr := { s.mtr with flags := 0, lastTs := s.now, records := ((seq, rcd) :: s.mtr.records).take 1024 } }
  let s := { s with tls := { s.tls with takeoverFlag := false } }
  retCopy ((s.put MTR_SEQ_seq seq).logEv 0x7801 [seq])

/-- The record that a ledger instant of this tick has written takes PACK_CHANGE: one record stands for both (R439). -/
def ledgerAmend (s : State) : State := match s.mtr.records with
  | [] => s
  | (seq, r) :: rest =>
    let body := r.take 52 ++ leBytes 4 (leAt r 52 4 ||| 2)
    { s with mtr := { s.mtr with records := (seq, body ++ recordMac s body) :: rest } }

/-- The meter may write records: `en` is 1, the unit is not STANDBY, and the totals are valid (R431, R435). -/
def ledgerOn (s : State) : Bool := s.getB MTR_CFG_en && s.get TLS_STAT_role != 2 && s.getB MTR_STAT_ret_valid

/-- The record of a pack change (R433), or the mark in the record of this tick (R439). -/
def packRecord (s : State) : State :=
  if s.mtr.lastTs = s.now && !s.mtr.records.isEmpty then ledgerAmend s else ledgerWrite s 2

/-- A valid read of the PACKID node (R433): two reads in a row that differ from the current ID are a pack change. -/
def packRead (s : State) (id : List Nat) : State :=
  let s := s.put MTR_STAT_pack_unver 0
  let s := { s with mtr := { s.mtr with packTs := s.now } }
  let cur := (List.range 4).flatMap (fun k => leBytes 4 (s.get MTR_CURPACKk_id k))
  let cand (s : State) (c : Option (List Nat)) : State := { s with mtr := { s.mtr with packCand := c } }
  if id = cur then cand s none
  else if s.mtr.packCand.isNone then cand s (some id)
  else
    let s := cand (s.onIf (ledgerOn s) packRecord) none
    (putPack s id).logEv 0x7802

/-- `MTR_RESTORE_GO.go` (R436): the record in `MTR_RESTORE` is verified and its totals are taken. -/
def meterRestore (s : State) : State :=
  let r := (List.range 16).flatMap (fun k => leBytes 4 (s.get MTR_RESTOREk_rec k))
  let ok := match mtrKey s with
    | some k => (aesCmac k (r.take 56)).take 8 == r.drop 56
    | none => false
  if ok && (r.drop 16).take 8 == devIdBytes then
    let s := putTotal (putTotal s 0 (leAt r 36 8)) 1 (leAt r 44 8)
    let s := (s.put MTR_SEQ_seq (leAt r 24 4)).put MTR_STAT_ret_valid 1
    (mtrFlag s 9).logEv 0x7805
  else s.logEv 0x7806

/-- METER_BLOCK (R429): a block ends; `smp` holds its clocks as runs of equal codes of the voltage and the current input,
`held` how many clocks lacked a sample, `clip` whether a sample was clipped. -/
def execMeterBlock (smp : List (Nat × Int × Int)) (held : Nat) (clip : Bool) (s : State) : Out :=
  live s (fun s => meterBlock s smp held clip)

/-- LEDGER_RECORD (R431): a ledger instant. -/
def execLedgerRecord (s : State) : Out := live s (fun s => s.onIf (ledgerOn s && ledgerDue s) (fun s => ledgerWrite s 0))

/-- PACK_UNVERIFIED (R433): no valid read of the PACKID node has succeeded for 10 s. -/
def execPackUnverified (s : State) : Out :=
  live s (fun s => s.onIf (!packConf s && decide (s.mtr.packTs + 4000000000 ≤ s.now)) (fun s => s.put MTR_STAT_pack_unver 1))

/-! ### The check-value unit -/

/-- Width and polynomial of `CVUc_CFG.poly` (R437). -/
def cvuPoly (p : Nat) : Nat × Nat :=
  match p with
  | 0 => (8, 0x2F)
  | 1 => (16, 0x1021)
  | 2 => (32, 0x04C11DB7)
  | 3 => (32, 0x1EDC6F41)
  | _ => (64, 0x42F0E1EBA9EA3693)

/-- Changes a channel of the CVU. -/
def modCvu (s : State) (c : Fin 4) (f : CvuSt → CvuSt) : State := { s with cvus := vupd s.cvus c f }

/-- The width and polynomial in use on a channel. -/
def cvuUse (s : State) (c : Fin 4) : Nat × Nat := cvuPoly (s.get CVUc_CFG_poly c.val)

/-- The width in use on channel `i`: bits of the initial value and the final XOR above it read as 0 (R437). -/
def cvuWidth (s : State) (i : Nat) : Nat := (cvuPoly (s.get CVUc_CFG_poly i)).1

/-- `start`: the initial value is loaded. -/
def cvuStart (s : State) (c : Fin 4) : State :=
  modCvu s c (fun x => { x with crc := s.get64 CVUc_INIT_LO_init CVUc_INIT_HI_init c.val % 2 ^ (cvuUse s c).1 })

/-- Bytes are fed. -/
def cvuFeed (s : State) (c : Fin 4) (b : List Nat) : State :=
  let p := cvuUse s c
  let inb (v : Nat) : Nat := if s.getB CVUc_CFG_refin c.val then revBits 8 v else v
  modCvu s c (fun x => { x with crc := b.foldl (fun r v => crcByte p.1 p.2 r (inb v)) (x.crc % 2 ^ p.1) })

/-- The result after reflection and final XOR. -/
def cvuResult (s : State) (c : Fin 4) : Nat :=
  let w := (cvuUse s c).1
  let r := s.cvus[c].crc % 2 ^ w
  (if s.getB CVUc_CFG_refout c.val then revBits w r else r) ^^^ (s.get64 CVUc_XOR_LO_xorout CVUc_XOR_HI_xorout c.val % 2 ^ w)

/-- A counter is presented (R438). -/
def cvuAlive (s : State) (c : Fin 4) (v : Nat) : State :=
  let w := if s.getB CVUc_CFG_alive_w c.val then 8 else 4
  let k : Nat := v % 2 ^ w
  let s := s.onIf (!s.getB CVUc_CFG_alive_mode c.val) (fun s => cvuFeed s c [k])
  let take (s : State) (r : Nat) : State :=
    modCvu ((s.put CVUc_STAT_alive r c.val).put CVUc_STAT_last k c.val) c (fun x => { x with last := some k })
  match s.cvus[c].last with
  | none => take s 1
  | some l =>
    let g : Nat := (k + 2 ^ w - l % 2 ^ w) % 2 ^ w
    if g = 0 then s.put CVUc_STAT_alive 2 c.val
    else if s.get CVUc_CFG_maxgap c.val < g then take s 3
    else take s 1

/-- `alive_clr`: the last counter is forgotten. -/
def cvuAliveClr (s : State) (c : Fin 4) : State := modCvu s c (fun x => { x with last := none })

end Sys2Proof.Machine
end

