-- ==== Sys2Proof/Machine/Sett.lean ====
section
/-! DEFINITION. The Sett rings (R413 to R427): enumeration, FAST and SLOW service, breaks, and the operations that reach
node registers. -/

namespace Sys2Proof.Machine

/-- Changes what a Sett port keeps. -/
def State.modSett (s : State) (p : Port) (f : SettSt → SettSt) : State := { s with setts := vupd s.setts p f }

/-- Changes what an end of a Sett port keeps. -/
def State.modEnd (s : State) (p : Port) (b : Fin 2) (f : SettEnd → SettEnd) : State :=
  s.modSett p (fun x => { x with ends := vupd x.ends b f })

/-- A port number. -/
def portOf (v : Nat) : Port := ⟨v % 2, Nat.mod_lt _ (by omega)⟩

/-- An event of a port: its codes begin 0x70 for port 0 and 0x71 for port 1 (R443). -/
def settEv (s : State) (p : Port) (code : Nat) (items : List Nat) : State := s.logEv (code + 0x100 * p.val) items

/-! ### Slots (R416, R417, R423) -/

/-- A FAST node misses (R423): at `miss_max` in a row the node is declared missing. -/
def slotMiss (s : State) (p : Port) (e : Nat) : State :=
  let k := s.get SETT_NODEe_STAT_consec e + 1
  let s := (s.incSat SETT_NODEe_STAT_miss_cnt e).put SETT_NODEe_STAT_consec (min k 15) e
  s.onIf (k == s.get SETTp_CFG_miss_max p.val) (fun s =>
    let s := settEv (s.put SETT_NODEe_STAT_miss 1 e) p 0x7005 [e]
    let n := s.get SETT_NODEe_CFG_ch e
    s.onIf (s.getB SETT_NODEe_CFG_ch_en e) (fun s => s.raise (chSrc n 23) e))

/-- A slot is valid (R416): filled, its CRC-8 right, its alive counter another than that of the last valid slot. -/
def slotValid (s : State) (e : Nat) (b : List Nat) : Bool :=
  let h := b.headD 0
  b.length == slotLen s e && decide (128 ≤ h % 256) && crc8 (b.take (b.length - 1)) == b.getLastD 0
    && sget 0 s.sett (8 * e) != h / 16 % 8 + 1

/-- A GATE node reports its switch failed short (R417, R281): its last two valid slots carried the flag. -/
def nodeShort (s : State) (e : Nat) : Bool :=
  s.getB SETT_NODEe_CFG_present e && s.get SETT_NODEe_CFG_kind e == 1 && s.getB SETT_NODEe_CFG_ch_en e
    && decide (2 ≤ sget 0 s.sett (8 * e + 2))

/-- What is kept of a node: its last alive counter plus 1, its last flags, the run of failed-short flags. -/
def nodeKeep (s : State) (e alive fl run : Nat) : State :=
  { s with sett := sput 0 (sput 0 (sput 0 s.sett (8 * e) alive) (8 * e + 1) fl) (8 * e + 2) run }

/-- A valid slot is delivered: the live registers, the flags' changes, and a failed-short report (R417, R421). -/
def slotTake (s : State) (p : Port) (e : Nat) (b : List Nat) : State :=
  let h := b.headD 0
  let fl := h % 16
  let was := sget 0 s.sett (8 * e + 1)
  let run := if fl.testBit 2 then sget 0 s.sett (8 * e + 2) + 1 else 0
  let s := nodeKeep s e (h / 16 % 8 + 1) fl run
  let s := ((s.put SETT_NODEe_LIVE0_slot (leAt b 0 4) e).put SETT_NODEe_LIVE1_slot (leAt b 4 4) e).put SETT_NODEe_LIVE_TS_ts s.now e
  let s := s.put SETT_NODEe_STAT_consec 0 e
  let k := s.get SETT_NODEe_CFG_kind e
  let s := s.onIf (fl != was && (k == 1 || k == 2)) (fun s => settEv s p 0x7007 [e, fl])
  s.onIf (nodeShort s e) (fun s =>
    let m := 2 ^ s.get SETT_NODEe_CFG_leg e
    let lo := s.getB SETT_NODEe_CFG_side e
    swfailSet s (chOf (s.get SETT_NODEe_CFG_ch e)) (if lo then 0 else m) (if lo then m else 0))

/-- A slot of a FAST frame is judged. -/
def slotJudge (s : State) (p : Port) (e : Nat) (b : List Nat) : State :=
  if slotValid s e b then slotTake s p e b else slotMiss s p e

/-- The port is in LINE mode. -/
def isLine (s : State) (p : Port) : Bool := s.get SETTp_STAT_mode p.val == 2

/-- The end that serves an entry's node in LINE mode (R426): none between the breaks. -/
def lineEnd (s : State) (p : Port) (e : Nat) : Option (Fin 2) :=
  if s.get SETT_NODEe_CFG_pos e ≤ s.get SETTp_STAT_end_a p.val then some 0
  else if s.get SETTp_STAT_end_b p.val ≤ s.get SETT_NODEe_CFG_pos e then some 1
  else none

/-- The entries of the FAST frame of an end: in LINE mode those that it serves (R426). -/
def endEntries (s : State) (p : Port) (b : Fin 2) : List Nat :=
  if isLine s p then (fastEntries s p).filter (fun e => lineEnd s p e == some b) else fastEntries s p

/-! ### FAST service (R421, R422, R426, R427) -/

/-- A mode that is due at a FAST start is taken: RING after three tests that arrived, LINE from the second start after a break. -/
def settModeDue (s : State) (p : Port) : State :=
  let s := s.onIf s.setts[p].ringDue (fun s =>
    settEv ((s.put SETTp_STAT_mode 1 p.val).modSett p (fun x => { x with ringDue := false, closeRun := 0, lostRun := 0 })) p 0x7004 [])
  match s.setts[p].lineIn with
  | none => s
  | some k => if k ≤ 1 then (s.put SETTp_STAT_mode 2 p.val).modSett p (fun x => { x with lineIn := none, closeRun := 0 })
    else s.modSett p (fun x => { x with lineIn := some (k - 1) })

/-- The FAST start of a port that has come (R421). -/
def fastDue (s : State) (p : Port) : Option Nat := s.setts[p].due.find? (fun t => decide (t ≤ s.now))

/-- A FAST frame of a port is under way. -/
def fastBusy (s : State) (p : Port) : Bool := s.setts[p].ends[0].fast.isSome || s.setts[p].ends[1].fast.isSome

/-- The FAST frame of a cycle is sent: in LINE mode one from each end (R426). -/
def fastSend (s : State) (p : Port) : State :=
  let c := s.setts[p].cycle
  let s := (s.modEnd p 0 (fun x => { x with fast := some c })).onIf (isLine s p) (fun s => s.modEnd p 1 (fun x => { x with fast := some c }))
  s.modSett p (fun x => { x with cycle := (c + 1) % 65536, lostEnds := 0, lastFast := some s.now })

/-- A FAST start. -/
def fastStart (s : State) (p : Port) : State :=
  match fastDue s p with
  | none => s
  | some t =>
    let s := s.modSett p (fun x => { x with due := x.due.erase t })
    if !s.getB SETTp_CFG_en p.val || s.setts[p].enumAt.isSome then s
    else if fastBusy s p then
      s.forL (fastEntries s p) (fun e s => slotMiss s p e) |>.incSat SETTp_CNT_overrun p.val |> fun s => settEv s p 0x7006 []
    else fastSend (settModeDue s p) p

/-- A frame did not come back: between the ends it counts towards a break (R426); in LINE mode, both ends' frames of a cycle make the
port DOWN (R427). -/
def frameLost (s : State) (p : Port) (fast : Bool) : State :=
  if !isLine s p then s.modSett p (fun x => { x with lostRun := x.lostRun + 1 })
  else if !fast then s
  else
    let k := s.setts[p].lostEnds + 1
    (s.modSett p (fun x => { x with lostEnds := k })).onIf (decide (2 ≤ k)) (fun s => s.put SETTp_STAT_mode 0 p.val)

/-- The FAST frame of end `b` is over: it has returned, after `dur` ticks, with its slots (empty where one did not come back) and a
right or wrong CRC-16, or nothing has come back. A frame that arrives at end B ends DOWN mode (DEDUCED, assumption 80). The nodes that
no end serves miss with end A's frame (R426). -/
def fastReturn (s : State) (p : Port) (b : Fin 2) (arrived crcOk : Bool) (dur : Nat) (slots : List (List Nat)) : State :=
  if s.setts[p].ends[b].fast.isNone then s
  else
    let es := endEntries s p b
    let out := if isLine s p && b == 0 then (fastEntries s p).filter (fun e => (lineEnd s p e).isNone) else []
    let s := (s.modEnd p b (fun x => { x with fast := none })).forL out (fun e s => slotMiss s p e)
    if arrived then
      let s := s.modSett p (fun x => { x with lostRun := 0 })
      let s := (s.put SETTp_TIME_fast_dur (min dur 0xFFFF) p.val).onIf (!crcOk) (fun s => s.incSat SETTp_CNT_crc_err p.val)
      let s := s.onIf (s.get SETTp_STAT_mode p.val == 0) (fun s => s.put SETTp_STAT_mode 1 p.val)
      s.forL es.zipIdx (fun e s => slotJudge s p e.1 (slots.getD e.2 []))
    else (frameLost s p true).forL es (fun e s => slotMiss s p e)

/-- SETT_FAST_START (R421): the port's FAST instant comes. -/
def execSettFastStart (p : Port) (s : State) : Out := live s (fun s => fastStart s p)

/-- SETT_FAST_RETURN (R423): the frame of end `b`; outside LINE mode end A alone sends one. -/
def execSettFastReturn (p : Port) (b : Fin 2) (arrived crcOk : Bool) (dur : Nat) (slots : List (List Nat)) (s : State) : Out :=
  live s (fun s => fastReturn s p b arrived crcOk dur slots)

/-- RING_BREAK (R426): `quiet` says that end B has been without transitions for 2 µs; else two frames in a row were lost.
LOCATE returned the positions. -/
def execRingBreak (p : Port) (quiet : Bool) (endA endB : Fin 256) (s : State) : Out :=
  live s (fun s => s.onIf (s.get SETTp_STAT_mode p.val == 1 && s.setts[p].lineIn.isNone && (quiet || decide (2 ≤ s.setts[p].lostRun)))
    (fun s =>
      let s := ((s.incSat SETTp_CNT_breaks p.val).put SETTp_STAT_end_a endA.val p.val).put SETTp_STAT_end_b endB.val p.val
      settEv (s.modSett p (fun x => { x with lineIn := some 2, lostRun := 0 })) p 0x7003 [endA.val, endB.val]))

/-- CLOSE_TEST (R427): the test sent from end A arrived at end B, or not. -/
def execCloseTest (p : Port) (arrived : Bool) (s : State) : Out :=
  live s (fun s => s.onIf (s.get SETTp_STAT_mode p.val == 2 && s.setts[p].enumAt.isNone) (fun s =>
    let k := if arrived then s.setts[p].closeRun + 1 else 0
    s.modSett p (fun x => { x with closeRun := k, ringDue := x.ringDue || decide (3 ≤ k) })))

/-! ### SLOW service (R424) -/

/-- The end that makes a node's SLOW transactions (R426). -/
def slowEnd (s : State) (p : Port) (e : Nat) : Fin 2 := if isLine s p then (lineEnd s p e).getD 0 else 0

/-- The computed duration of a transaction of `n` values: 14 bytes and the values' bytes, and the line's delay as in R425. -/
def slowDur (s : State) (p : Port) (n : Nat) : Nat :=
  64 * (14 + 4 * n) + (if isLine s p then 2 * s.get SETTp_TIME_loop p.val + 64 else s.get SETTp_TIME_loop p.val)

/-- A transaction of `n` values ends at least `guard` ticks before the expected next FAST start (R424). Where no FAST start has been, or
the channel's carrier stands, none is expected (DEDUCED, assumption 136). -/
def slowFits (s : State) (p : Port) (n : Nat) : Bool := match s.setts[p].lastFast with
  | none => true
  | some T => !(s.carrier (.ch (settCh s p))).run || decide (128 * (s.now + slowDur s p n + s.get SETTp_GUARD_guard p.val)
      ≤ 128 * T + s.get SETTp_CFG_div p.val * ctrlOf s (.ch (settCh s p)) (commitPer s (settCh s p)))

/-- The reads of four registers that follow a node's slot content in the round-robin, and their first register (R424): the pack ID of a
PACKID node, the cell voltages from 0x0200 of a STRING node, else what Config leaves open. -/
def kindReads (kind : Nat) : Nat × Nat :=
  match kind with
  | 3 => ((Config.kindReads 3).1, 0x0200)
  | 4 => (1, 0x0100)
  | k => Config.kindReads k

/-- The entries of class SLOW that an end serves. -/
def slowEntries (s : State) (p : Port) (b : Fin 2) : List Nat :=
  ((List.range 255).map (fun a => 256 * p.val + a)).filter (fun e =>
    s.getB SETT_NODEe_CFG_present e && s.get SETT_NODEe_CFG_class e == 1 && slowEnd s p e == b)

/-- The entry that the round-robin of an end serves next. -/
def slowNext (s : State) (p : Port) (b : Fin 2) : Option Nat :=
  let es := slowEntries s p b
  match es.find? (fun e => decide (s.setts[p].ends[b].turn < e + 1)) with
  | some e => some e
  | none => es.head?

/-- The round-robin's next transaction, and its place after it: the kind-specific registers of the node begun last, else the slot content
of the next node. -/
def slowTurn (s : State) (p : Port) (b : Fin 2) : Option (SlowTx × Nat × Nat) :=
  let x := s.setts[p].ends[b]
  let e := x.turn - 1
  let k := kindReads (s.get SETT_NODEe_CFG_kind e)
  if 0 < x.left && (slowEntries s p b).contains e then
    some (⟨false, e, k.2 + 4 * (k.1 - x.left), 4, [], 1, .regs⟩, x.turn, x.left - 1)
  else (slowNext s p b).map (fun e =>
    (⟨false, e, Config.slotReg, slotLen s e / 4, [], 1, .slot⟩, e + 1, (kindReads (s.get SETT_NODEe_CFG_kind e)).1))

/-- A SLOW transaction starts in a gap at an end: one that a command or the meter asked for, or the round-robin's. -/
def slowStart (s : State) (p : Port) (b : Fin 2) : State :=
  let x := s.setts[p]
  if !s.getB SETTp_CFG_en p.val || x.enumAt.isSome || x.ends[b].slow.isSome || (b == 1 && !isLine s p) then s
  else match x.slowQ.find? (fun t => slowEnd s p t.node == b) with
    | some t => s.onIf (slowFits s p t.count) (fun s =>
      (s.modSett p (fun x => { x with slowQ := x.slowQ.erase t })).modEnd p b (fun x => { x with slow := some { t with tries := t.tries + 1 } }))
    | none => match slowTurn s p b with
      | none => s
      | some r => s.onIf (slowFits s p r.1.count) (fun s =>
        s.modEnd p b (fun x => { x with slow := some r.1, turn := r.2.1, left := r.2.2 }))

/-- A transaction is one of command `c`. -/
def SlowTx.ofCmd (t : SlowTx) (c : Ctx) : Bool := t.use == .command c

/-- A transaction has ended well: a command completes with its last one. No register of the port holds what the round-robin reads beyond
a slot. -/
def slowOk (s : State) (p : Port) (t : SlowTx) (b : List Nat) : State :=
  match t.use with
  | .command c =>
    let s := s.modSett p (fun x => { x with got := if t.write then x.got else x.got ++ b.take (4 * t.count) })
    if s.setts[p].slowQ.any (fun u => u.ofCmd c) then s
    else
      let got := s.setts[p].got
      opEnd (s.modSett p (fun x => { x with got := [] })) c 0 got
  | .pack => s.onIf (b.length == 16) (fun s => packRead s b)
  | .slot => s.onIf (slotValid s t.node b) (fun s => slotTake s p t.node b)
  | .regs => s

/-- A transaction without a valid reply: it is made again, three attempts in all; then its command completes with BAD_PARAM. The
round-robin makes its reads again in its next round. -/
def slowFail (s : State) (p : Port) (t : SlowTx) : State :=
  match t.use with
  | .command c =>
    if t.tries < 3 then s.modSett p (fun x => { x with slowQ := t :: x.slowQ })
    else opEnd (s.modSett p (fun x => { x with slowQ := x.slowQ.filter (fun u => !u.ofCmd c), got := [] })) c 0x14 []
  | .pack => s.onIf (decide (t.tries < 3)) (fun s => s.modSett p (fun x => { x with slowQ := t :: x.slowQ }))
  | .slot => s
  | .regs => s

/-- SETT_SLOW_START (R424): a gap at end `b`. -/
def execSettSlowStart (p : Port) (b : Fin 2) (s : State) : Out := live s (fun s => slowStart s p b)

/-- SETT_SLOW_REPLY (R424): the frame of end `b` came back or not, with a right CRC-16 or not; `reply` is the data of a valid reply field. -/
def execSettSlowReply (p : Port) (b : Fin 2) (arrived crcOk : Bool) (reply : Option (List Nat)) (s : State) : Out :=
  live s (fun s => match s.setts[p].ends[b].slow with
    | none => s
    | some t =>
      let s := s.modEnd p b (fun x => { x with slow := none })
      let s := if arrived then s.modSett p (fun x => { x with lostRun := 0 }) else frameLost s p false
      let s := s.onIf (arrived && !crcOk) (fun s => s.incSat SETTp_CNT_crc_err p.val)
      match (if arrived && crcOk then reply else none) with
      | some d => slowOk s p t d
      | none => slowFail s p t)

/-- A read of the pack ID waits or is under way. -/
def packBusy (s : State) (p : Port) : Bool :=
  let is (t : SlowTx) : Bool := t.use == .pack
  s.setts[p].slowQ.any is || s.setts[p].ends.toList.any (fun x => x.slow.any is)

/-- PACKID_READ (R424): the read of the meter's PACKID node goes ahead of the round-robin. -/
def execPackidRead (s : State) : Out :=
  live s (fun s =>
    let p := portOf (s.get MTR_CFG_pack_port)
    let e := 256 * p.val + s.get MTR_CFG_pack_addr
    s.onIf (!packConf s && s.getB SETT_NODEe_CFG_present e && !packBusy s p) (fun s =>
      s.modSett p (fun x => { x with slowQ := x.slowQ ++ [⟨false, e, 0x0100, 4, [], 0, .pack⟩] })))

/-! ### Enumeration (R418, R419) -/

/-- The entries of a port. -/
def portEntries (p : Port) : List Nat := (List.range 255).map (fun a => 256 * p.val + a)

/-- The configuration fields of an entry return to their reset values. -/
def nodeCfgReset (s : State) (e : Nat) : State :=
  ((((s.clr SETT_NODEe_CFG_class e).clr SETT_NODEe_CFG_ch_en e).clr SETT_NODEe_CFG_ch e).clr SETT_NODEe_CFG_leg e).clr
    SETT_NODEe_CFG_side e

/-- SETT_ENUMERATE (R418). -/
def opSettEnumerate (s : State) (pp : List Nat) : OpRes :=
  if 1 < pp.headD 0 then opDone 0x14 [] s
  else
    let p := portOf (pp.headD 0)
    let used := (portEntries p).any (fun e => s.getB SETT_NODEe_CFG_ch_en e && s.getB SETT_NODEe_CFG_present e
      && [1, 3, 4, 5].contains (s.chState (s.get SETT_NODEe_CFG_ch e)))
    if s.get SETTp_STAT_mode p.val != 1 || s.setts[p].enumAt.isSome || used then opDone 0x22 [] s
    else
      let again := (s.setts[p].ends.toList.filterMap (fun x => x.slow)).filter (fun t => t.use != .slot && t.use != .regs)
      let s := s.modSett p (fun x => { x with
        enumAt := some 0, ends := x.ends.map (fun x => { x with fast := none, slow := none, left := 0 }), slowQ := again ++ x.slowQ })
      let s := s.forL (portEntries p) (fun e s => s.put SETT_NODEe_CFG_present 0 e)
      opDone 1 [] (s.put SETTp_STAT_enum_busy 1 p.val)

/-- Enumeration ends with `cnt` nodes and service resumes. -/
def enumEnd (s : State) (p : Port) (cnt : Nat) : State :=
  let s := s.forL (portEntries p) (fun e s => s.onIf (!s.getB SETT_NODEe_CFG_present e) (fun s => nodeCfgReset s e))
  let s := (s.put SETTp_STAT_nodes cnt p.val).put SETTp_STAT_enum_busy 0 p.val
  settBudgetShow (settEv (s.modSett p (fun x => { x with enumAt := none, lostRun := 0 })) p 0x7001 [cnt]) p

/-- A node took address `a`. -/
def nodeEnter (s : State) (p : Port) (a kind id : Nat) (slot8 : Bool) (pos : Nat) : State :=
  let e := 256 * p.val + a
  let same := s.get64 SETT_NODEe_ID_LO_id SETT_NODEe_ID_HI_id e == id
  let s := s.onIf (!same) (fun s => nodeKeep (nodeCfgReset s e) e 0 0 0)
  let s := (s.put64 SETT_NODEe_ID_LO_id SETT_NODEe_ID_HI_id id e).put SETT_NODEe_CFG_present 1 e
  ((s.put SETT_NODEe_CFG_kind kind e).putB SETT_NODEe_CFG_slot8 slot8 e).put SETT_NODEe_CFG_pos pos e

/-- SETT_ASSIGN_REPLY (R418): an ASSIGN returns, with what a node filled in (kind, ID, slot size, position), or empty.
`loop` is the round trip that the port measured before its first ASSIGN. -/
def execSettAssignReply (p : Port) (loop : Nat) (r : Option (Nat × Nat × Bool × Nat)) (s : State) : Out :=
  live s (fun s => match s.setts[p].enumAt with
    | none => s
    | some a =>
      let s := s.onIf (a == 0) (fun s => s.put SETTp_TIME_loop (min loop 0xFFFF) p.val)
      match r with
      | none => enumEnd s p (min a 255)
      | some n =>
        if 255 ≤ a then enumEnd (settEv (s.put SETTp_STAT_exhausted 1 p.val) p 0x7002 []) p 255
        else (nodeEnter s p a n.1 (n.2.1 % 2 ^ 64) n.2.2.1 n.2.2.2).modSett p (fun x => { x with enumAt := some (a + 1) }))

/-! ### Node registers (R393, R424) -/

/-- The transactions of a command: up to 8 registers each. -/
def nodeTxs (write : Bool) (e reg : Nat) (c : Ctx) : Nat → Nat → List Nat → List SlowTx
  | 0, _, _ => []
  | k + 1, n, d =>
    if n = 0 then []
    else
      let m := min n 8
      ⟨write, e, reg, m, d.take (4 * m), 0, .command c⟩ :: nodeTxs write e (reg + m) c k (n - m) (d.drop (4 * m))

/-- SETT_NODE_READ and SETT_NODE_WRITE: the transactions are queued ahead of the round-robin. -/
def opSettNode (s : State) (c : Ctx) (pp : List Nat) (write : Bool) (most : Nat) : OpRes :=
  let n := pp.getD 4 0
  let e := 256 * (pp.headD 0 % 2) + pp.getD 1 0
  if 1 < pp.headD 0 || n = 0 || most < n || !s.getB SETT_NODEe_CFG_present e then opDone 0x14 [] s
  else
    let p := portOf (pp.headD 0)
    let s := s.modSett p (fun x => { x with slowQ := x.slowQ ++ nodeTxs write e (leAt pp 2 2) c 8 n (pp.drop 8) })
    opWait s c pp

end Sys2Proof.Machine
end

