-- ==== Sys2Proof/Machine/Power.lean ====
section
/-! DEFINITION. Device resets, start-up, secure boot, shut-down and its self-test, standby, temperature, the life cycle and the
OTP (R464 to R496), the clocks (R33 to R42), and profile changes (R30, R31). -/

namespace Sys2Proof.Machine

/-- Changes what the supplies' and boot's part keeps. -/
def State.modPwr (s : State) (f : PwrSt → PwrSt) : State := { s with pwr := f s.pwr }

/-! ### Device resets (R465, R466, R486) -/

/-- The life-cycle state that the fuses show (R484). -/
def lcOf (f : Nat) : Nat :=
  if f.testBit 4 then 5 else if f.testBit 1 && f.testBit 2 then 5
  else if f.testBit 3 then 4 else if f.testBit 2 then 3 else if f.testBit 1 then 2 else if f.testBit 0 then 1 else 0

/-- The slots with the attribute `cust`. -/
def custSlots (s : State) : Nat :=
  ((List.range 16).map (fun k => if (sget ⟨0, []⟩ s.pwr.keys k).attr.testBit 7 && s.getBit LCS_KEYS_present k then 2 ^ k else 0)).sum

/-! ### The event logger (R406) -/

/-- Byte `j` of an event's payload. -/
def evPay (e : Event) (j : Nat) : Nat := Config.payloadByte e.code e.items j % 256

/-- The 24-byte entry of an event (R406). -/
def evBytes (e : Event) : List Nat :=
  leBytes 4 e.seq ++ leBytes 8 e.ts ++ leBytes 2 e.code ++ [0, 0] ++ (List.range 8).map (evPay e)

/-- The 12-byte entry of the always-on mirror (R406). -/
def evMirror (e : Event) : List Nat := leBytes 4 e.seq ++ leBytes 2 e.code ++ [evPay e 0, evPay e 1] ++ leBytes 4 e.ts

/-- An event leaves the intake for the ring, where the oldest of 4,096 entries gives way, and for the always-on mirror (R406). -/
def evStore (s : State) (code : Nat) (items : List Nat) : State :=
  let e : Event := ⟨s.get FPL_EVT_SEQ_seq, s.now, code, items⟩
  let s := s.onIf (decide (4096 ≤ s.log.ring.length)) (fun s => s.incSat FPL_EVT_STAT_ovf)
  let s := { s with log := { s.log with ring := (e :: s.log.ring).take 4096 } }
  let s := s.putBytes (s.get FPL_EVT_BASE_base + 24 * (e.seq % 4096)) (evBytes e)
  ((retPut s (128 + 12 * (e.seq % 16)) (evMirror e)).irq 1).incWrap FPL_EVT_SEQ_seq

/-- The events of the intake are stored, in ascending code order (R406). -/
def evFlush (s : State) : State :=
  s.log.intake.foldl (fun s e => evStore s e.1 e.2) { s with log := { s.log with intake := [] } }

/-! ### Device reset -/

/-- The machine after a device reset or in the states that hold it: the last events reach the always-on mirror; every register and
engine is at reset, but for the ordering code's grade (R5), the always-on domain, the OTP, the memories' content (assumption 83), the commands that wait and the free values' count. -/
def fresh (s : State) (stage : Nat) (held : Bool) : State :=
  let s := evFlush s
  let r := State.reset
  let lc := lcOf s.pwr.fuses
  let revoked := s.get LCS_KEYS_revoked ||| (if lc = 4 ∧ s.get LCS_STATE_state ≠ 4 then custSlots s else 0)
  let pwr : PwrSt := { r.pwr with
    stage := stage, ret := s.pwr.ret, retOk := s.pwr.retOk, recBad := s.pwr.recBad, nextCause := s.pwr.nextCause
    startReq := none, fuses := s.pwr.fuses, epochs := s.pwr.epochs, keys := s.pwr.keys }
  let t : State := { r with
    pending := s.pending, free := s.free, pwr := pwr, net := { r.net with strap := s.net.strap }
    mem := { s.mem with ueKnown := [], writebacks := [] }, dev := ⟨held, false⟩ }
  let t := ((t.put LCS_STATE_state lc).put LCS_EPOCH_epoch s.pwr.epochs).put LCS_KEYS_present (s.get LCS_KEYS_present)
  let t := (t.put LCS_KEYS_revoked revoked).put PWR_AON_TIME_secs (s.get PWR_AON_TIME_secs)
  let t := (t.put PWR_WAKE_TMR_secs (s.get PWR_WAKE_TMR_secs)).put CLK_STATUS_ckw_src (s.get CLK_STATUS_ckw_src)
  let t := (t.put PWR_STAT_keep_alive (s.get PWR_STAT_keep_alive)).put PWR_STAT_ign (s.get PWR_STAT_ign)
  (t.put PWR_STAT_rst_cause (s.get PWR_STAT_rst_cause)).put SYS_ID_grade (s.get SYS_ID_grade)

/-- The host link's address from where `addr_src` says (R399): the sampled pins, the OTP, or none yet. -/
def hlkAddrSet (s : State) : State :=
  match s.get HLK_CFG_addr_src with
  | 0 => ((s.put HLK_ADDR_addr s.net.strap).put HLK_ADDR_valid 1).logEv 0x6101 [s.net.strap]
  | 1 =>
    let a : Nat := Config.otpAddress % 64
    ((s.put HLK_ADDR_addr a).put HLK_ADDR_valid 1).logEv 0x6101 [a]
  | _ => (s.put HLK_ADDR_addr 0).put HLK_ADDR_valid 0

/-- A device reset with the given cause: start-up begins (R466, R468). The reset cause enters the retention (R479). -/
def deviceReset (s : State) (cause : Nat) : State :=
  let t := (fresh s 1 false).put PWR_STAT_rst_cause cause
  hlkAddrSet (retPut (t.put PWR_STAT_keep_alive 1) 320 (leBytes 4 cause))

/-- Seconds that the always-on timer counted while no tick did. -/
def aonAdd (s : State) (secs : Nat) : State := s.put PWR_AON_TIME_secs (s.get PWR_AON_TIME_secs + secs)

/-- PORST_ASSERT (R465): PORST_N has been low for 1 µs. During a shut-down BIST no record is stored, and the old one is marked
invalid (R475). -/
def execPorstAssert (s : State) : Out :=
  let t := (fresh s 0 true).modPwr (fun p => { p with recBad := p.recBad || s.pwr.stage == 8 })
  .next (match s.pwr.startReq with
    | some c => t.modPwr (fun p => { p with nextCause := c })
    | none => t)

/-- PORST_RELEASE (R466, R399): the device reset; the address pins are sampled. `secs` have passed on the always-on timer. -/
def execPorstRelease (strap : Fin 64) (ign : Bool) (secs : Nat) (s : State) : Out :=
  .next (if s.pwr.stage != 0 then s
    else
      let s := (aonAdd s secs).putB PWR_STAT_ign ign
      let c := s.pwr.nextCause
      let s := { s with net := { s.net with strap := strap.val } }
      (deviceReset s c).modPwr (fun p => { p with nextCause := 1 }))

/-! ### The BIST record (R474) -/

/-- The retained record. -/
def bistRec (s : State) : List Nat := retBytes s 0 64

/-- The record's signature verifies. -/
def bistRecOk (s : State) : Bool :=
  let r := bistRec s
  !s.pwr.recBad && (aesCmac Config.recordKey (r.take 56)).take 8 == r.drop 56

/-- How a BIST ended: result, phase of the first failure, failing elements, failing word and its region, duration in ms. -/
structure BistEnd where
  res : Nat
  phase : Nat
  fail : Nat
  word : Nat
  region : Nat
  ms : Nat
  deriving DecidableEq, Repr

/-- A record of kind `kind` is formed, signed and stored. -/
def bistStore (s : State) (kind : Nat) (e : BistEnd) : State :=
  let n := leNat (retBytes s 32 4)
  let n := if kind = 0 then min (n + 1) (2 ^ 32 - 1) else n
  let body := [0x01, kind, e.res, if e.res = 1 then e.phase else 0xFF] ++ leBytes 4 e.fail
    ++ leBytes 4 (s.get PWR_AON_TIME_secs) ++ leBytes 2 e.ms ++ [lcState s, s.get LCS_EPOCH_epoch] ++ devIdBytes
    ++ leBytes 4 e.word ++ [e.region % 256, 0, 0, 0] ++ leBytes 4 n ++ List.replicate 20 0
  let s := retPut s 0 (body ++ (aesCmac Config.recordKey body).take 8)
  s.modPwr (fun p => { p with recBad := false })

/-- `BIST_STAT` shows how a BIST ended. -/
def bistShow (s : State) (e : BistEnd) : State :=
  ((s.put BIST_STAT_running 0).put BIST_STAT_result e.res).put BIST_STAT_fail e.fail

/-! ### Start-up (R468 to R470) -/

/-- The conditions of a warm start (R469). -/
def warmOk (s : State) : Bool :=
  let r := bistRec s
  s.pwr.retOk && bistRecOk s && r.getD 2 0 == 0
    && decide (s.get PWR_AON_TIME_secs - leAt r 8 4 < 3600 * s.get PWR_BIST_AGE_hours)
    && r.getD 14 0 == lcState s && r.getD 15 0 == s.get LCS_EPOCH_epoch

/-- The boot ROM judges the retention (R469, R435, R479); an invalid one starts anew as zeros (DEDUCED, assumption 82). -/
def retJudge (s : State) : State :=
  if s.pwr.retOk then
    let s := s.onIf (bistRecOk s && (bistRec s).getD 2 0 != 0) (fun s => (s.put PWR_STAT_prev_fail 1).logEv 0x0207)
    let s := s.forN 4 (fun k s => putTotal s k (leNat (retBytes s (64 + 8 * k) 8)))
    (putPack ((s.put MTR_SEQ_seq (leNat (retBytes s 96 4))).put MTR_STAT_ret_valid 1) (retBytes s 100 16))
  else (s.logEv 0x0205).modPwr (fun p => { p with ret := [], retOk := true })

/-- The clocks run and their PLLs have locked (R468). -/
def clocksUp (s : State) : State :=
  let s := ((s.put CLK_STATUS_ckb_ok 1).put CLK_STATUS_xin_ok 1).put CLK_STATUS_s_lock 1
  (((s.put CLK_STATUS_m_lock 1).put CLK_STATUS_a_lock 1).put CLK_STATUS_p_lock 1).put CLK_STATUS_c_lock 1

/-- BADGER_START_DONE (R468 steps 1 to 4): Badger's checks have ended, the PLLs have locked, and the boot ROM chooses a warm or
a cold start. `phase` is the CKA-to-CKP phase measured after lock (R41), in ft. -/
def execBadgerStartDone (ok : Bool) (phase : Nat) (s : State) : Out :=
  live s (fun s =>
    if s.pwr.stage != 1 then s
    else
      let s := (clocksUp s).put CLK_CKA_PHASE_phase phase
      if !ok then s.modPwr (fun p => { p with stage := 7 })
      else
        let s := s.modPwr (fun p => { p with rstOut := true })
        let warm := warmOk s
        let s := (retJudge s).put PWR_STAT_start (if warm then 1 else 2)
        if warm then s.modPwr (fun p => { p with stage := 4 })
        else ((s.put BIST_STAT_running 1).gateHold LEG_OGATE_selftest).modPwr (fun p => { p with stage := 3 }))

/-- DEV_SAFE after a failed start-up BIST (R470). -/
def bistDevSafe (s : State) : State :=
  let s := ((s.put BDG_STATE_unit 2).put PWR_STAT_bist_fail 1).logEv 0x4802 [2]
  (s.modBdg (fun b => { b with holds := b.holds ||| 3 })).modPwr (fun p => { p with stage := 7 })

/-- STARTUP_BIST_DONE (R470). -/
def execStartupBistDone (res : Fin 3) (phase fail word region ms : Nat) (s : State) : Out :=
  live s (fun s => s.onIf (s.pwr.stage == 3) (fun s =>
    let e : BistEnd := ⟨res.val, phase, fail, word, region, ms⟩
    let s := (bistShow (bistStore s 1 e) e).logEv 0x0202 [1, res.val]
    if res.val = 0 then (s.gateEnd LEG_OGATE_selftest).modPwr (fun p => { p with stage := 4 })
    else faultNShow (bistDevSafe s)))

/-- An image that the device accepts (R490): header and payload as stored; the answer is the payload in clear. -/
def imageOk (s : State) (b : List Nat) : Option (List Nat) :=
  let slot := b.getD 5 0
  let lc := lcState s
  let pub := (b.drop 144).take 64
  let kh := sget ⟨0, []⟩ s.pwr.keys slot
  let signer :=
    if slot = 0xFF then decide (lc ≤ 1) && sha256 pub == Config.rootKeyHash
    else decide (slot < 16) && [1, 2, 3, 4].contains lc && s.getBit LCS_KEYS_present slot && !s.getBit LCS_KEYS_revoked slot
      && kh.attr.testBit 1 && !kh.attr.testBit 0 && sha256 pub == kh.data
  if !signer || b.getD 4 0 < s.get LCS_EPOCH_epoch || 64 < b.getD 4 0 then none
  else if !ecdsaOk (sha256 (b.take 80)) ((b.drop 80).take 64) pub then none
  else match aesKey s (b.getD 6 0) 2 with
    | none => none
    | some k =>
      let pl := aesCtr k ((b.drop 16).take 16) ((b.drop 208).take (leAt b 8 4))
      if sha256 pl == (b.drop 32).take 32 then some pl else none

/-- The base of an image area. -/
def areaBase (a : Nat) : Nat := if a = 0 then 0x70000000 else 0x78000000

/-- The image in an area of the flash. -/
def areaImage (s : State) (a : Nat) : List Nat :=
  s.bytesAt (areaBase a) (208 + leNat (s.bytesAt (areaBase a + 8) 4))

/-- The boot ROM runs the image of an area. -/
def bootArea (s : State) (a : Nat) (second : Bool) (pl : List Nat) : State :=
  let b := areaImage s a
  let s := s.putBytes (leAt b 12 4) pl
  let s := ((s.put LCS_EPOCH_img (b.getD 4 0)).put LCS_BOOT_area a).putB LCS_BOOT_fallback second
  let s := (s.onIf second (fun s => s.logEv 0x7F05)).modPwr (fun p => { p with stage := 5, imgHash := (b.drop 32).take 32 })
  s.onIf (s.getB OWL_CFG_boot_arm) (fun s =>
    (owlArm (s.put OWL_CTL_mode 0)).forN 2 (fun c s => s.owlRec 0x11 3 [c]))

/-- BOOT_LOAD_DONE (R489, R490): the boot ROM tries the area with the higher version first, and then the other. -/
def execBootLoadDone (s : State) : Out :=
  live s (fun s =>
    if s.pwr.stage != 4 then s
    else
      let v (a : Nat) : Nat := leNat (s.bytesAt (areaBase a) 4)
      let first := if v 0 < v 1 then 1 else 0
      match imageOk s (areaImage s first) with
      | some pl => bootArea s first false pl
      | none => match imageOk s (areaImage s (1 - first)) with
        | some pl => bootArea s (1 - first) true pl
        | none => faultNShow ((s.logEv 0x7F04).modPwr (fun p => { p with stage := 7 })))

/-- DEV_READY (R468 step 7, R328). -/
def execDevReady (s : State) : Out :=
  live s (fun s => s.onIf (s.pwr.stage == 5) (fun s =>
    let s := (s.modPwr (fun p => { p with stage := 6 })).gateEnd LEG_OGATE_reset
    let s := s.onIf (s.get BDG_STATE_unit != 2 && !s.bdg.clkBad.testBit 1) (fun s => (s.put BDG_STATE_safe_en0 1).put BDG_STATE_safe_en1 1)
    faultNShow ((s.put PWR_STAT_ready 1).logEv 0x0203 [s.get PWR_STAT_start])))

/-! ### Shut-down, standby, wake (R472 to R478) -/

/-- Discharges that a shut-down makes once their members allow (R472 step 2). -/
def shutDischarge (s : State) : State :=
  if s.get PWR_STAT_shut != 1 || !s.getB PWR_CTL_dis_at_shut then s
  else s.forL (List.finRange 2) (fun l s =>
    if s.get PRT_LNKl_STAT_lstate l.val != 2 then s
    else match members s l with
      | [] => s
      | m :: _ => (chDischarge s m).2)

/-- A shut-down is requested (R472): every channel in RUN stops. A second request changes nothing (R493). -/
def shutStart (s : State) : State :=
  if s.get PWR_STAT_shut != 0 then s
  else
    let s := ((s.put PWR_CTL_shutdown 1).put PWR_STAT_shut 1).logEv 0x0201
    let s := s.modPwr (fun p => { p with waitLogged := false, phaseTs := s.now })
    let s := s.forL (List.finRange 4) (fun n s => s.onIf (s.chState n.val == 3) (fun s => (chStopCmd s n).2))
    shutDischarge s

/-- The device is quiescent (R472 step 2). -/
def quiescent (s : State) : Bool :=
  (List.range 4).all (fun n => s.chState n == 0 || s.chState n == 2 || (s.chState n == 6 && s.get CHn_STATE_pat n == 1))
    && (List.finRange 2).all (fun l => s.links[l].chopDuty == 0
      && (!s.getB PWR_CTL_dis_at_shut || s.get PRT_LNKl_STAT_lstate l.val == 0))

/-- The device enters standby, or, where a start was asked for meanwhile, starts (R473, R475, R478). -/
def enterStandby (s : State) : State :=
  match s.pwr.startReq with
  | some c => deviceReset s c
  | none => (fresh s 9 true).put PWR_STAT_keep_alive 0

/-- The shut-down BIST ends: its record is stored, KEEP_ALIVE falls, and the device enters standby (R473, R435). -/
def shutBistEnd (s : State) (e : BistEnd) : State :=
  let s := bistShow (bistStore (retCopy s) 0 e) e
  enterStandby (s.logEv 0x0202 [0, e.res])

/-- IGN_FILTER_EXPIRY (R472): IGN has been low for `ign_filt`. -/
def execIgnFilterExpiry (s : State) : Out :=
  live s (fun s =>
    let s := s.put PWR_STAT_ign 0
    s.onIf (s.getB PWR_CTL_ign_en) shutStart)

/-- SHUTDOWN_QUIESCENT (R472 step 3, R471 P0). -/
def execShutdownQuiescent (s : State) : Out :=
  live s (fun s => s.onIf (s.get PWR_STAT_shut == 1 && quiescent s) (fun s =>
    let s := (s.put PWR_STAT_shut 2).modPwr (fun p => { p with stage := 8, phaseTs := s.now })
    let s := (s.put BIST_STAT_running 1).gateHold LEG_OGATE_selftest
    retCopy (s.onIf (ledgerOn s) (fun s => ledgerWrite s 256))))

/-- `PWR_STAT.shut` shows the phase of a shut-down BIST as time goes on: each phase takes its budget (R471; DESIGN CHOICE, assumption
138). P0's work is done where the BIST starts. -/
def bistPhase (s : State) : State :=
  s.onIf (s.pwr.stage == 8) (fun s =>
    let e := s.now - s.pwr.phaseTs
    let p := if 52800000 ≤ e then 5 else if 14800000 ≤ e then 4 else if 800000 ≤ e then 3 else 2
    s.onIf (s.get PWR_STAT_shut != p) (fun s => s.put PWR_STAT_shut p))

/-- SHUT_WAIT (R472): the wait exceeds 10 s. -/
def execShutWait (s : State) : Out :=
  live s (fun s => s.onIf (s.get PWR_STAT_shut == 1 && !s.pwr.waitLogged && decide (s.pwr.phaseTs + 4000000000 < s.now)) (fun s =>
    (s.logEv 0x0204).modPwr (fun p => { p with waitLogged := true })))

/-- SHUTDOWN_BIST_DONE (R473). -/
def execShutdownBistDone (res : Fin 2) (phase fail word region ms : Nat) (s : State) : Out :=
  live s (fun s => s.onIf (s.pwr.stage == 8) (fun s => shutBistEnd s ⟨res.val, phase, fail, word, region, ms⟩))

/-- BIST_TIMEOUT (R473): 150 ms have passed since the BIST began. -/
def execBistTimeout (s : State) : Out :=
  live s (fun s => s.onIf (s.pwr.stage == 8 && decide (s.pwr.phaseTs + 60000000 ≤ s.now)) (fun s => shutBistEnd s ⟨2, 0xFF, 0, 0, 0, 150⟩))

/-- A wake (R478): from standby it is the device reset where the rails have stayed, else KEEP_ALIVE rises and the release of
PORST_N starts the device; during a shut-down it waits (R475). -/
def wake (s : State) (cause : Nat) (rails : Bool) (secs : Nat) : State :=
  if s.pwr.stage = 9 ∨ s.pwr.stage = 0 then
    let s := aonAdd s secs
    if s.pwr.stage = 9 ∧ rails then deviceReset s cause
    else (s.put PWR_STAT_keep_alive 1).modPwr (fun p => { p with stage := 0, nextCause := cause })
  else if s.get PWR_STAT_shut != 0 then s.modPwr (fun p => { p with startReq := some (p.startReq.getD cause) })
  else s

/-- WAKE_PIN (R478): WAKE has been high for 1 ms. -/
def execWakePin (rails ign : Bool) (secs : Nat) (s : State) : Out := .next (wake (s.putB PWR_STAT_ign ign) 3 rails secs)

/-- WAKE_TIMER (R478). -/
def execWakeTimer (rails : Bool) (secs : Nat) (s : State) : Out :=
  .next (if s.get PWR_WAKE_TMR_secs = 0 then s else wake s 4 rails secs)

/-- AON_LOSS (R479): the always-on domain is reset. -/
def execAonLoss (s : State) : Out :=
  let s := s.modPwr (fun p => { p with ret := [], retOk := false, recBad := false, nextCause := 0 })
  let s := ((s.put PWR_AON_TIME_secs 0).put PWR_WAKE_TMR_secs 0).put MTR_STAT_ret_valid 0
  .next ((s.put PWR_STAT_keep_alive 1).put CLK_STATUS_ckw_src 0)

/-! ### Self-tests on request (R476) -/

/-- SELFTEST_DONE: a self-test ends. The full BIST replaces the retained record and resets the device, as `PWR_RESET` does
(DEDUCED, assumption 84); a manual run only shows its result. -/
def execSelftestDone (res : Fin 3) (phase fail word region ms : Nat) (s : State) : Out :=
  live s (fun s => match s.pwr.selftest with
    | none => s
    | some set =>
      let e : BistEnd := ⟨res.val, phase, fail, word, region, ms⟩
      let s := (bistShow s e).modPwr (fun p => { p with selftest := none })
      let s := s.gateEnd LEG_OGATE_selftest
      if set = 256 then s
      else
        let s := s.logEv 0x7E01 [set, res.val, fail]
        s.onIf (set.testBit 2) (fun s => deviceReset (bistStore s 2 e) 2))

/-! ### Temperature (R480 to R483) -/

/-- The threshold of a level in 2^-4 °C. -/
def thrOf (l : Nat) : Int := match l with
  | 1 => 2160
  | 2 => 2240
  | 3 => 2320
  | _ => 2400

/-- The level after the readings `a` and `b` in a row (R481). -/
def thmLevel (old : Nat) (a b : Int) : Nat :=
  let up := [1, 2, 3, 4].foldl (fun m l => if decide (thrOf l ≤ a) && decide (thrOf l ≤ b) then l else m) 0
  let down := [1, 2, 3, 4].foldl (fun m l =>
    if decide (l ≤ old) && !(decide (a + 80 < thrOf l) && decide (b + 80 < thrOf l)) then l else m) 0
  max up down

/-- The active profile as a thermal change sets it, in force on every channel. -/
def profNow (s : State) (p : Nat) : State :=
  (s.forL (List.finRange 4) (fun n s => s.modChan n (fun c => { c with prof := none }))).put SYS_PROFILE_active p

/-- The active profile as a thermal change sets it: a channel whose carrier runs keeps its profile until its next reload (R31). -/
def profThermal (s : State) (p : Nat) : State :=
  let t := (profNow s p).forL (List.finRange 4) (fun n t =>
    t.onIf (s.carrier (.ch n)).run (fun t => t.modChan n (fun c => { c with prof := some (s.profOf n.val) })))
  profDone ((t.put SYS_PROFILE_cause 2).put SYS_PROFILE_pending 1)

/-- The action at CRIT (R482, R31; PROFILE_CHANGED is logged with THERMAL_READING, 95_what_each_step_holds.md): a profile that every running channel meets, or a stop. -/
def critAction (s : State) : State :=
  let p := s.get THM_CTL_crit_prof
  let t := profNow s p
  let runs := (List.finRange 4).filter (fun n => s.chRuns n.val)
  if s.getB THM_CTL_crit_prof_en && decide (s.get SYS_PROFILE_active < p)
      && runs.all (fun n => budgetOk t n (commitPer t n) (actBank t n.val)) then
    ((profThermal s p).logEv 0x0001 [p]).forL (List.finRange 4) (fun n s => budgetShow s n)
  else s.forL (List.finRange 4) (fun n s => s.onIf (s.chState n.val == 3) (fun s => (chStopCmd s n).2))

/-- T_SHUT ends a BIST (R475, R493). -/
def bistShutOff (s : State) : State :=
  if s.pwr.stage = 8 then shutBistEnd s ⟨3, 0xFF, 0, 0, 0, 0⟩
  else if s.pwr.stage = 3 then (s.put BIST_STAT_running 0).modPwr (fun p => { p with stage := 7 })
  else s

/-- THERMAL_READING (R480, R481): a reading of TDIODE by CV7, in 2^-4 °C. -/
def thermalReading (s : State) (t : Int) : State :=
  let s := ((s.putS THM_TEMP_cv7 t).put THM_STAT_stale 0).onIf (decide (s.getS THM_MAX_max < t)) (fun s => s.putS THM_MAX_max t)
  let old := s.get THM_STAT_level
  let new := match s.pwr.cv7 with
    | some a => thmLevel old a t
    | none => old
  let s := s.modPwr (fun p => { p with cv7 := some t, cv7Ts := s.now })
  let hot := decide (s.getS THM_CTL_user_thr ≤ t)
  let s := (s.onIf (hot && !s.pwr.userHit) (fun s => s.logEv 0x0305)).modPwr (fun p => { p with userHit := hot })
  let s := s.onIf (new != old) (fun s => (s.put THM_STAT_level new).logEv 0x0302 [new])
  let s := s.onIf (old == 0 && decide (1 ≤ new)) (fun s => s.logEv 0x0301)
  let s := s.onIf (new == 4 && old != 4) (fun s => critAction (s.raise 0x11 0))
  s.onIf (decide (2560 ≤ t)) (fun s => bistShutOff (s.raise 0x12 0))

/-- THERMAL_READING (R481). -/
def execThermalReading (t : Int) (s : State) : Out := live s (fun s => thermalReading s t)

/-- THM_STALE (R480): no reading for 1 ms. -/
def execThmStale (s : State) : Out :=
  live s (fun s => s.onIf (decide (s.pwr.cv7Ts + 400000 ≤ s.now)) (fun s => (s.put THM_STAT_stale 1).logEv 0x0304))

/-- SCV_TDIODE_READ (R323, R480, R481): SCV1's reading in 2^-4 °C. -/
def execScvTdiodeRead (t : Int) (s : State) : Out :=
  live s (fun s =>
    let s := (s.putS THM_TEMP_scv1 t).modBdg (fun b => { b with scv1 := t })
    let d := decide (80 < |s.getS THM_TEMP_cv7 - t|)
    let n := if d then s.bdg.divRun + 1 else 0
    let s := s.modBdg (fun b => { b with divRun := n, divNow := d })
    let s := s.onIf (n == 10) (fun s => s.raise 0x10 0)
    s.onIf (decide (2560 ≤ t)) (fun s => bistShutOff (s.raise 0x12 1)))

/-- THM_TRIM (R483): the trims follow the last reading; in BLANK the OTP holds no coefficients. -/
def execThmTrim (s : State) : Out :=
  live s (fun s =>
    if lcState s = 0 then
      (s.put THM_STAT_no_comp 1).onIf (!s.getB THM_STAT_no_comp) (fun s => s.logEv 0x0306)
    else match s.pwr.cv7 with
      | some t => s.modPwr (fun p => { p with trims := (List.range 9).map (fun k => Config.otpTrim k t) })
      | none => s)

/-! ### The pads (R501) -/

/-- The pads of Badger's and the core's banks are driven: PORST_N is high, and VDD_CORE and VDD_BDG lie in their windows. -/
def padsDriven (s : State) : Bool := !s.dev.held && !s.bdg.railBad.testBit 0 && !s.bdg.railBad.testBit 5

/-- A pad's level; none where it is undriven. -/
def pad (s : State) (level : Bool) : Option Bool := if padsDriven s then some level else none

/-- The pads GHk and GLk. -/
def padGate (s : State) (k : Leg) : Option Bool × Option Bool := (pad s (s.pinGh k.val), pad s (s.pinGl k.val))

/-- The pads SAFE_EN0, SAFE_EN1 and FAULT_N. -/
def padSafe (s : State) : Option Bool × Option Bool × Option Bool :=
  (pad s (s.getB BDG_STATE_safe_en0), pad s (s.getB BDG_STATE_safe_en1), pad s (s.getB BDG_STATE_fault_n))

/-- XSPI_RESET_N: low while the pads are undriven, and for 100 µs from the release of PORST_N. -/
def padXspiReset (s : State) : Bool := padsDriven s && (s.pwr.stage != 1 || decide (40000 ≤ s.now))

/-- XL_OUT, KEEP_ALIVE and RST_OUT_N. -/
def padCtl (s : State) : Option Bool × Bool × Bool := (pad s s.tls.xlOut, s.getB PWR_STAT_keep_alive, s.pwr.rstOut)

/-! ### Life cycle, keys, epochs, images (R484 to R492) -/

/-- A non-revoked slot with `lc` under which the message has this CMAC. -/
def lcAuth (s : State) (msg auth : List Nat) : Bool :=
  (List.range 16).any (fun k => match aesKey s k 5 with
    | some key => aesCmac key msg == auth
    | none => false)

/-- LC_QUERY. -/
def opLcQuery (s : State) : OpRes :=
  opDone 0 ([lcState s, s.get LCS_EPOCH_epoch] ++ leBytes 2 (s.get LCS_KEYS_revoked) ++ devIdBytes) s

/-- The transitions that LC_ADVANCE accepts (R486). -/
def lcStep (l t : Nat) : Bool :=
  t == 5 || (l == 0 && t == 1) || (l == 1 && (t == 2 || t == 3)) || ((l == 2 || l == 3) && t == 4)

/-- LC_ADVANCE (R486). -/
def opLcAdvance (s : State) (p : List Nat) : OpRes :=
  let l := lcState s
  let t := p.headD 0
  let auth := (p.drop 4).take 16
  let ok := if l = 0 ∧ t = 1 then auth == List.replicate 16 0 else lcAuth s (devIdBytes ++ [l, t]) auth
  if !lcStep l t then opDone 0x21 [] s
  else if !ok then opDone 0x10 [] s
  else
    let s := s.modPwr (fun p => { p with fuses := p.fuses ||| 2 ^ (t - 1) })
    opDone 0 [] (((s.put LCS_STATE_pending 1).put LCS_STATE_next t).logEv 0x7F01 [t])

/-- KEY_REVOKE (R488). -/
def opKeyRevoke (s : State) (p : List Nat) : OpRes :=
  let k := p.headD 0
  let boot := (List.range 16).filter (fun j => s.getBit LCS_KEYS_present j && !s.getBit LCS_KEYS_revoked j
    && (sget ⟨0, []⟩ s.pwr.keys j).attr.testBit 1)
  if lcState s = 0 ∨ lcState s = 5 then opDone 0x21 [] s
  else if 15 < k || s.getBit LCS_KEYS_revoked k || boot == [k] then opDone 0x14 [] s
  else if !lcAuth s (devIdBytes ++ [k, 0x03]) ((p.drop 4).take 16) then opDone 0x10 [] s
  else opDone 0 [] ((s.putBit LCS_KEYS_revoked k true).logEv 0x7F02 [k])

/-- `LCS_EPOCH.advance` (R492). -/
def epochAdvance (s : State) : State :=
  let e : Nat := min 64 (s.get LCS_EPOCH_img)
  s.onIf (decide (s.pwr.epochs < e)) (fun s =>
    ((s.put LCS_EPOCH_epoch e).modPwr (fun p => { p with epochs := e })).logEv 0x7F03 [e])

/-- `LCS_KPROG.go` (R487): the slot takes the attributes and the data. -/
def keyProgram (s : State) : State :=
  let k := s.get LCS_KPROG_slot
  let d := (List.range 8).flatMap (fun j => leBytes 4 (s.get LCS_KDATAk_data j))
  (s.modPwr (fun p => { p with keys := sput ⟨0, []⟩ p.keys k ⟨s.get LCS_KPROG_attr, d⟩ })).putBit LCS_KEYS_present k true

/-- FW_PROGRAM_DONE (R491): the area that did not boot holds the image, or programming failed. -/
def execFwProgramDone (ok : Bool) (s : State) : Out :=
  live s (fun s => match s.pwr.fw with
    | none => s
    | some b =>
      let s := s.modPwr (fun p => { p with fw := none })
      if ok then (s.putBytes (areaBase (1 - s.get LCS_BOOT_area)) b).logEv 0x7F06 else s.logEv 0x7F07)

/-- BIST_REPORT (R474): a record whose CMAC does not verify is reported with result FAIL. -/
def opBistReport (s : State) : OpRes :=
  let r := bistRec s
  opDone 0 (if bistRecOk s then r else r.take 2 ++ [1] ++ r.drop 3) s

/-- SELFTEST_RUN (R476). -/
def opSelftestRun (s : State) (p : List Nat) : OpRes :=
  if (List.range 4).any (fun n => s.chState n != 0) || s.pwr.selftest.isSome then opDone 0x22 [] s
  else
    let set := p.headD 0 % 8
    let s := (s.modPwr (fun q => { q with selftest := some set })).put BIST_STAT_running 1
    opDone 1 [] (s.gateHold LEG_OGATE_selftest)

/-! ### Clocks (R33 to R42) -/

/-- The number of a clock domain's loss source (R332). -/
def domBit : Dom → Nat
  | .ckc => 0
  | .ckp => 1
  | .cka => 2
  | .ckm => 3
  | .ckt => 4
  | .cks => 5
  | .ckw => 6
  | .ckb => 8

/-- A domain's lock bit (R38): a domain outside its monitor window has lost its lock (DEDUCED, assumption 125). CKB and CKW have
none. -/
def lockPut (s : State) (d : Dom) (b : Bool) : State :=
  match d with
  | .ckc => s.putB CLK_STATUS_c_lock b
  | .ckp => s.putB CLK_STATUS_p_lock b
  | .cka => s.putB CLK_STATUS_a_lock b
  | .ckm => s.putB CLK_STATUS_m_lock b
  | .ckt => s.putB CLK_STATUS_t_lock b
  | .cks => s.putB CLK_STATUS_s_lock b
  | .ckb => s
  | .ckw => s

/-- CLOCK_LOSS (R34). CKT is monitored only while pairing is configured. -/
def execClockLoss (d : Dom) (s : State) : Out :=
  live s (fun s => s.onIf (d != .ckt || s.getB TLS_CFG_en) (fun s =>
    (lockPut (s.modBdg (fun b => { b with clkBad := b.clkBad ||| 2 ^ domBit d })) d false).raise (domBit d) 0))

/-- CLOCK_RETURN (R34, R529): the source deasserts, and for CKM Faceplate and the links resume (R388). -/
def execClockReturn (d : Dom) (s : State) : Out :=
  live s (fun s => s.onIf (s.bdg.clkBad.testBit (domBit d)) (fun s =>
    let s := s.modBdg (fun b => { b with clkBad := b.clkBad - 2 ^ domBit d })
    faultNShow (lockPut s d (d != .ckt || s.get TLS_STAT_lane_up != 0))))

/-- XIN_LOSS (R36). -/
def execXinLoss (s : State) : Out :=
  live s (fun s => ((s.put CLK_STATUS_xin_ok 0).modBdg (fun b => { b with clkBad := b.clkBad ||| 128 })).raise 7 0)

/-- CKW_SWITCH (R37). -/
def execCkwSwitch (s : State) : Out := live s (fun s => (s.put CLK_STATUS_ckw_src 1).logEv 0x0102)

/-- PHASE_MEASURE (R42): the CKA-to-CKP phase, in ft within a CKA period. -/
def execPhaseMeasure (ft : Nat) (s : State) : Out :=
  live s (fun s =>
    let d : Nat := (ft % 1280 + 1280 - s.get CLK_CKA_PHASE_phase) % 1280
    s.onIf (decide (128 < min d (1280 - d))) (fun s =>
      ((s.put CLK_CKA_PHASE_phase (ft % 1280)).put CLK_STATUS_phase_slip 1).logEv 0x0101))

/-! ### Profiles (R30 to R32) -/

/-- A software request for profile `p` (R30). The answer is 0 where it names the active profile with no change pending, 1 where a
change is accepted, 2 where CFG_LOCK refuses it, and 3 where a channel's state does. -/
def profRequest (s : State) (p : Nat) : Nat × State :=
  if s.dev.cfgLock && p != s.get SYS_PROFILE_request then (2, s.logEv 0x0014 [0x40000010])
  else if p = s.get SYS_PROFILE_active && !s.getB SYS_PROFILE_pending then (0, s.put SYS_PROFILE_request p)
  else if !(List.range 4).all (fun n => [0, 2, 6].contains (s.chState n)) then (3, s)
  else
    (1, ((s.put SYS_PROFILE_request p).put SYS_PROFILE_pending 1).modPwr (fun q => { q with profTo := some p }))

end Sys2Proof.Machine
end

