-- ==== Sys2Proof/Machine/RegRule.lean ====
section
/-! DEFINITION. What the spec says of a write to each register before it is performed: ranges, encodings, the times at
which it is refused, and the fields that it leaves unchanged. -/

namespace Sys2Proof.Machine

/-! ### A write -/

/-- A write to a register instance: the register, the numbers of its two indices, and the 32 bits written. -/
structure Wr where
  reg : Reg
  i : Nat
  j : Nat
  v : Nat
  deriving Repr

/-- The written register is the one that holds this field. -/
def Wr.is (w : Wr) (f : Fld) : Bool := w.reg.addr == f.addr

/-- The bits that a write gives a field. -/
def Wr.bits (w : Wr) (f : Fld) : Nat := w.v / 2 ^ f.lsb % 2 ^ f.width

/-- The channel that the first index numbers. -/
def Wr.ch (w : Wr) : Ch := chOf w.i

/-- One field takes what is written, by its access code. W1S and WO fields act through what follows the write. -/
def fieldWrite (s : State) (w : Wr) (f : Fld) : State :=
  match f.acc with
  | .rw | .wod => s.put f (w.bits f) w.i w.j
  | .w1c => s.put f (s.get f w.i w.j &&& ((2 ^ f.width - 1) ^^^ w.bits f)) w.i w.j
  | _ => s

/-- The register takes what is written, but for the fields in `keep`. -/
def applyWr (s : State) (w : Wr) (keep : List Fld) : State :=
  s.forL (w.reg.flds.filter (fun f => !keep.contains f)) (fun f s => fieldWrite s w f)

/-- What becomes of a register write: it is performed but for some fields, it acts without being stored, or it leaves the
register unchanged; with the event that is logged. -/
inductive Verdict where
  | go (keep : List Fld) (ev : Option (Nat × List Nat))
  | act
  | no (ev : Option (Nat × List Nat))
  deriving DecidableEq, Repr

/-- Performed whole. -/
def vPass : Verdict := .go [] none
/-- Performed but for these fields. -/
def vKeep (l : List Fld) : Verdict := .go l none
/-- Refused with an event. -/
def vRefuse (code : Nat) (items : List Nat := []) : Verdict := .no (some (code, items))
/-- Performed where `ok`, else refused. -/
def vIf (ok : Bool) (code : Nat) (items : List Nat := []) : Verdict := if ok then vPass else vRefuse code items
/-- A field where `c`. -/
def fIf (c : Bool) (f : Fld) : List Fld := if c then [f] else []

/-- The write would change a field; `t` is the state with the write performed. -/
def chg (s t : State) (w : Wr) (f : Fld) : Bool := t.get f w.i w.j != s.get f w.i w.j

/-- Every channel is in OFF. -/
def allOff (s : State) : Bool := (List.range 4).all (fun n => s.chState n == 0)

/-! ### SYS, PWR, THM, BIST, LCS -/

/-- Writes to the SYS block. -/
def preSys (w : Wr) : Verdict :=
  if w.is SYS_PROFILE_request || w.is PLIC_CLAIM_src then .act else vPass

/-- Writes to PWR, THM, BIST and LCS (R494, R495, R476). -/
def prePwr (s t : State) (w : Wr) : Verdict :=
  if w.is PWR_CTL_ign_filt then vIf (t.get PWR_CTL_ign_filt != 0) 0x0206
  else if w.is PWR_BIST_AGE_hours then vKeep (fIf (t.get PWR_BIST_AGE_hours == 0) PWR_BIST_AGE_hours)
  else if w.is BIST_CTL_go then vIf (lcState s == 1 || lcState s == 4) 0x7E02
  else if w.is LCS_KPROG_go then
    vIf (decide (lcState s ≤ 1) && !(w.bits LCS_KPROG_go == 1 && s.getBit LCS_KEYS_present (w.bits LCS_KPROG_slot))) 0x7F08
  else vPass

/-! ### Converter bank and sequencers -/

/-- A step's window as R116 and R114 bound it. -/
def windowOk (shift log2n input : Nat) : Bool := decide (shift ≤ 8) && decide (1 ≤ log2n) && decide (log2n ≤ 8) && decide (input ≤ 9)

/-- Writes to the CVB block (R96, R104, R110, R113, R114). A dwell of 0, which is outside the stated range, leaves its register
unchanged (DESIGN CHOICE, assumption 86). -/
def preCvb (s t : State) (w : Wr) : Verdict :=
  if w.is CVB_CTL_bgcal_period then vKeep (fIf (t.get CVB_CTL_bgcal_period == 0) CVB_CTL_bgcal_period)
  else if w.is CVB_OW_CTL_dwell then (if t.get CVB_OW_CTL_dwell = 0 then .no none else vPass)
  else if w.is CVc_CFG_pwr then
    if 2 ≤ t.get CVc_CFG_pwr w.i && s.get SYS_PROFILE_active != 3 && feedsRunning s (cvOf w.i) then
      .go [CVc_CFG_pwr] (some (0x1006, [w.i]))
    else vPass
  else if w.is CVc_IDLE_idle_down then vKeep (fIf (decide (t.get CVc_IDLE_idle_down w.i < 16)) CVc_IDLE_idle_down)
  else if w.is CVc_CAL_full then .act
  else if w.is CVc_INJk_start then
    if s.getB CVc_INJk_start w.i w.j
      || !windowOk (t.get CVc_INJk_shift w.i w.j) (t.get CVc_INJk_log2n w.i w.j) (t.get CVc_INJk_input w.i w.j) then .no none
    else vPass
  else if w.is CVc_IDLESCAN_dwell then (if t.get CVc_IDLESCAN_dwell w.i = 0 then .no none else vPass)
  else if w.is CMPi_THR_hi then vIf (decide (t.getS CMPi_THR_lo w.i ≤ t.getS CMPi_THR_hi w.i)) 0x1007 [w.i]
  else vPass

/-- A sequencer feeds a channel in RUN or STOPPING. -/
def seqFeedsRun (s : State) (q : Nat) : Bool :=
  s.getB SEQn_CTL_en q && (List.range (s.get SEQn_CTL_nsteps q + 1)).any (fun k =>
    s.getB SEQn_STEPk_B_sp_en q k && s.chRuns (s.get SEQn_STEPk_B_sp_ch q k))

/-- The trigger sources of R86. -/
def seqSrcOk (q src : Nat) : Bool :=
  decide (src ≤ 1) || (decide (0x04 ≤ src) && decide (src ≤ 0x13)) || (decide (0x18 ≤ src) && decide (src ≤ 0x37) && src != 0x28 + q)

/-- Writes to the SEQ block (R86, R91, R115, R116). -/
def preSeq (s t : State) (w : Wr) : Verdict :=
  let q := w.i
  if w.is SEQn_CTL_en then
    let pol := fIf (t.get SEQn_CTL_policy q == 3) SEQn_CTL_policy
    if s.getB SEQn_CTL_en q && !t.getB SEQn_CTL_en q && seqFeedsRun s q then .go (SEQn_CTL_en :: pol) (some (0x1103, [q]))
    else vKeep pol
  else if w.is SEQn_TRIG_src then vIf (!s.getB SEQn_CTL_en q && seqSrcOk q (t.get SEQn_TRIG_src q)) 0x1103 [q]
  else if w.is SEQn_STEPk_A_shift then
    vIf (!s.getB SEQn_CTL_en q
      && windowOk (t.get SEQn_STEPk_A_shift q w.j) (t.get SEQn_STEPk_A_log2n q w.j) (t.get SEQn_STEPk_A_input q w.j)) 0x1103 [q]
  else if w.is SEQn_STEPk_B_open_dly then vIf (!s.getB SEQn_CTL_en q) 0x1103 [q]
  else if w.is SEQ_TTt_PER_per then vKeep (fIf (decide (t.get SEQ_TTt_PER_per q < 40)) SEQ_TTt_PER_per)
  else vPass

/-! ### Position interfaces -/

/-- The sources that `PIFn_CTL` may name (R118); code 0 as primary only while the interface is off. -/
def pifSrcOk (en : Bool) (pri sec : Nat) : Bool :=
  decide (pri ≤ 5) && [0, 1, 2, 3, 6].contains sec && (pri == 0 || pri != sec) && !(en && pri == 0)
    && !((pri == 4 || pri == 5) && sec == 1)

/-- MA is within the limit of the primary named (R140). -/
def pifClkOk (pri div : Nat) : Bool := if pri = 4 then decide (19 ≤ div) else if pri = 5 then decide (99 ≤ div) else true

/-- A condition of R149 persists at the source `code` of an interface. -/
def pifPersists (s : State) (n : Ch) (code : Nat) : Bool :=
  let p := s.pif n
  code != 0 && (decide (s.get PIFn_FRZ_frz_n n.val ≤ (srcOf s n code).frzCnt) || match code with
    | 1 => p.wireNow != 0 || p.zMiss
    | 2 => p.hallBad || decide (s.get PIFn_HALL_seq_max n.val ≤ p.hal.errs)
    | 3 => decide (4 ≤ p.gaps) || decide (2 ≤ p.amps)
    | 4 | 5 => p.wireNow != 0 || decide (s.get PIFn_SER_err_max n.val ≤ p.frame.errs)
    | _ => false)

/-- Writes to a PIF block (R118, R140, R149, R156, R157). -/
def prePif (s t : State) (w : Wr) : Verdict :=
  let n := w.ch
  let i := n.val
  let code := 0x180A + 0x100 * i
  let off := !s.getB PIFn_CTL_en i
  if w.is PIFn_CTL_en then
    let same := !(chg s t w PIFn_CTL_en || chg s t w PIFn_CTL_pri_src || chg s t w PIFn_CTL_sec_src || chg s t w PIFn_CTL_z_en
      || chg s t w PIFn_CTL_z_corr || chg s t w PIFn_CTL_fb_en || chg s t w PIFn_CTL_trig_sel || chg s t w PIFn_CTL_dir_inv)
    let pri := t.get PIFn_CTL_pri_src i
    vIf ((off || same) && pifSrcOk (t.getB PIFn_CTL_en i) pri (t.get PIFn_CTL_sec_src i)
      && pifClkOk pri (t.get PIFn_SER_clk_div i)) code
  else if w.is PIFn_GEOM_pp then
    vIf (off && t.getB PIFn_GEOM_pp i && decide (16 ≤ t.get PIFn_GEOM_cpr i)) code
  else if w.is PIFn_FILT_dis_time then vKeep (fIf (t.get PIFn_FILT_dis_time i == 0) PIFn_FILT_dis_time)
  else if w.is PIFn_ZCFG_z_tol then vIf (decide (t.get PIFn_ZCFG_z_tol i ≤ t.get PIFn_ZCFG_z_limit i)) code
  else if w.is PIFn_SPDCFG_spd_edges then
    vKeep (fIf (t.get PIFn_SPDCFG_spd_timeout i == 0) PIFn_SPDCFG_spd_timeout
      ++ fIf (decide (4 < t.get PIFn_SPDCFG_spd_edges i)) PIFn_SPDCFG_spd_edges)
  else if w.is PIFn_FSTAT_wire then
    vKeep (fIf (pifPersists s n (srcCodeOf s n true)) PIFn_FSTAT_pri_fault
      ++ fIf (pifPersists s n (srcCodeOf s n false)) PIFn_FSTAT_sec_fault)
  else if w.is PIFn_HALL_map then
    if off then vKeep (fIf (t.get PIFn_HALL_seq_max i == 0) PIFn_HALL_seq_max) else vRefuse code
  else if w.is PIFn_EXC_freq then
    let f := t.get PIFn_EXC_freq i
    vIf (off && decide (2000 ≤ f) && decide (f ≤ 20000)
      && !(s.getB PIFn_EXC_en i && (chg s t w PIFn_EXC_freq || chg s t w PIFn_EXC_amp))) code
  else if w.is PIFn_RSV_sin_ain then
    let a := t.get PIFn_RSV_sin_ain i
    let b := t.get PIFn_RSV_cos_ain i
    vIf (off && t.getB PIFn_RSV_ratio i && decide (a ≤ 47) && decide (b ≤ 47) && a / 6 != b / 6) code
  else if w.is PIFn_SER_pos_bits then
    let st := t.get PIFn_SER_st_bits i
    let pb := t.get PIFn_SER_pos_bits i
    vIf (off && t.getB PIFn_SER_err_max i && decide (8 ≤ st) && decide (st ≤ 32) && decide (st ≤ pb) && decide (8 ≤ pb)
      && decide (pb ≤ 40) && pifClkOk (s.get PIFn_CTL_pri_src i) (t.get PIFn_SER_clk_div i)) code
  else if w.is PIFn_SER_TIM_gap then vIf off code
  else if w.is PIFn_SER_TRIG_src then
    vIf ([0, 4, 5, 6, 7, 0x18, 0x19, 0x1A, 0x1B].contains (t.get PIFn_SER_TRIG_src i)) code
  else if w.is PIFn_FRZ_frz_n then vKeep (fIf (decide (t.get PIFn_FRZ_frz_n i < 2)) PIFn_FRZ_frz_n)
  else vPass

/-! ### Leg generators and channels -/

/-- A carrier's mode, reload and duty mode go together (R166, R169, R195, R196). -/
def carrCfgOk (t : State) (r : Carr) : Bool :=
  let m := carrMode t r
  let d := cget t r CHn_CTL_dmode LEGk_CARR_dmode
  decide (carrRl t r ≤ 2) && (m == 0 || carrRl t r == 0) && decide (d ≤ 1) && (decide (m < 2) || d == 1)

/-- The shadow duties of a carrier's legs. -/
def shadowDuties (t : State) (r : Carr) : List Nat := match r with
  | .ch n => (List.range (if n.val = 0 && t.six then 6 else 3)).map (fun k => t.get CHn_DUTYk_duty n.val k)
  | .aux a => [t.get LEGk_DUTY_duty (12 + a.val)]

/-- PER_MIN and PER_MAX as R168 bounds them; T counts in COT and CFT. -/
def cotCfgOk (t : State) (r : Carr) : Bool :=
  let lo := cget t r CHn_PERMIN_per_min LEGk_PERMIN_per_min
  decide (carrMinFt r ≤ lo) && decide (lo ≤ cget t r CHn_PERMAX_per_max LEGk_PERMAX_per_max)
    && (decide (carrMode t r < 2) || (shadowDuties t r).all (fun d => decide (d + 256 ≤ lo)))

/-- A write to a carrier's mode register (R163, R166, R168, R169). -/
def carrRule (s t : State) (r : Carr) (changed : Bool) : Bool :=
  !(cget s r CHn_CARR_en LEGk_CARR_en == 1 && changed) && carrCfgOk t r && (decide (carrMode t r < 2) || cotCfgOk t r)

/-- The end event that a `CT` register names exists (R168). -/
def evtOk (kind idx : Nat) : Bool := if kind = 3 then decide (idx ≤ 15) else decide (idx ≤ 47)

/-- A shadow period is not below a minimum (R167). -/
def perOk (s : State) (r : Carr) (p : Nat) : Bool := (clampPer s r p).2.isNone

/-- Writes to the CH block (R24, R160, R163 to R169, R174, R195, R300, R302). -/
def preCh (s t : State) (w : Wr) : Verdict :=
  let n := w.ch
  let i := n.val
  let r : Carr := .ch n
  if w.is CHn_TIMING_dl_max then
    let g := t.get CHn_TIMING_commit_guard i
    vKeep (fIf (t.get CHn_TIMING_dl_max i == 0) CHn_TIMING_dl_max ++ fIf (decide (g < 4) || decide (64 < g)) CHn_TIMING_commit_guard)
  else if w.is CHn_CTL_src then
    let sixBad := i == 0 && chg s t w CHn_CTL_six && s.getB CHn_CARR_en 1
    if s.getB CHn_CARR_en i || sixBad || !carrCfgOk t r then vRefuse 0x2006 else vKeep (fIf (i != 0) CHn_CTL_six)
  else if w.is CHn_CARR_en then
    let other := chg s t w CHn_CARR_rl || chg s t w CHn_CARR_mode || chg s t w CHn_CARR_phase || (i != 0 && chg s t w CHn_CARR_sync)
    if !carrRule s t r other || (i == 1 && s.six && t.getB CHn_CARR_en 1) then vRefuse 0x2006
    else vKeep (fIf (i == 0) CHn_CARR_sync)
  else if w.is CHn_PER_per then vIf (perOk s r (t.get CHn_PER_per i)) 0x2006
  else if w.is CHn_DUTYk_duty then
    if 3 ≤ w.j && !(i == 0 && s.six) then .no none else vIf (decide (carrMode s r < 2) || cotCfgOk t r) 0x2006
  else if w.is CHn_COMMIT_go then
    if w.bits CHn_COMMIT_go = 0 then .no none
    else if (i == 1 && s.six) || s.get CHn_CTL_src i = 0 then vRefuse 0x2407 else .act
  else if w.is CHn_CT_evt_kind then vIf (evtOk (t.get CHn_CT_evt_kind i) (t.get CHn_CT_evt_idx i)) 0x2006
  else if w.is CHn_PERMIN_per_min || w.is CHn_PERMAX_per_max then vIf (cotCfgOk t r) 0x2006
  else if w.is CHn_SAFECFG_ch_safe_ss then vIf (decide (t.get CHn_SAFECFG_ch_safe_ss i ≤ 1)) 0x2414
  else if w.is CHn_SWFAIL_hs then .act
  else vPass

/-- Writes to the LEG block (R163, R166 to R169, R178, R188, R196 to R198). -/
def preLeg (s t : State) (w : Wr) : Verdict :=
  let k := w.i
  let r : Carr := .aux (auxOf (k - 12))
  let stopped := cget s (legCarr s k) CHn_CARR_en LEGk_CARR_en == 0
  if w.is LEGk_CFG_out then
    vIf (stopped && decide (t.get LEGk_CFG_out k ≤ 2) && decide (t.get LEGk_CFG_minpw_pol k ≤ 2)) 0x2006
  else if w.is LEGk_DTH_dt_h then vIf (stopped && decide (256 ≤ t.get LEGk_DTH_dt_h k)) 0x2006
  else if w.is LEGk_DTL_dt_l then vIf (stopped && decide (256 ≤ t.get LEGk_DTL_dt_l k)) 0x2006
  else if w.is LEGk_MINPW_minpw then vIf stopped 0x2006
  else if w.is LEGk_CARR_en then
    let other := chg s t w LEGk_CARR_phase || chg s t w LEGk_CARR_sync_ch || chg s t w LEGk_CARR_sync || chg s t w LEGk_CARR_rl
      || chg s t w LEGk_CARR_dmode || chg s t w LEGk_CARR_mode || chg s t w LEGk_CARR_src
    vIf (carrRule s t r other && decide (t.get LEGk_CARR_src k ≤ 1)) 0x2006
  else if w.is LEGk_PER_per then vIf (perOk s r (t.get LEGk_PER_per k)) 0x2006
  else if w.is LEGk_DUTY_duty then vIf (decide (carrMode s r < 2) || cotCfgOk t r) 0x2006
  else if w.is LEGk_COMMIT_go then
    if w.bits LEGk_COMMIT_go = 0 then .no none
    else if s.get LEGk_CARR_src k = 1 then vRefuse 0x2407 else .act
  else if w.is LEGk_CT_evt_kind then vIf (evtOk (t.get LEGk_CT_evt_kind k) (t.get LEGk_CT_evt_idx k)) 0x2006
  else if w.is LEGk_PERMIN_per_min || w.is LEGk_PERMAX_per_max then vIf (cotCfgOk t r) 0x2006
  else if w.is FLTj_CFG_mode then vIf (!s.latched k && t.getB FLTj_CFG_filt k) 0x2004
  else if w.is FLTj_MAP_legs then vIf (!s.latched k) 0x2004
  else if w.is ITRIPm_CFG_mode then
    vIf (decide (t.get ITRIPm_CFG_mode k ≤ 2) && decide (t.get ITRIPm_CFG_ain k ≤ 47)) 0x2004
  else if w.is FLT_STAT_flt then .act
  else vPass

/-! ### Spindles -/

/-- A spindle register that is writable only in OFF or READY. -/
def spIdle (s : State) (n : Nat) : Bool := s.chState n == 0 || s.chState n == 2

/-- Writes to an SP block (R48, R203, R206, R233, R234). -/
def preSpindle (s t : State) (w : Wr) : Verdict :=
  let i := w.ch.val
  let idle := spIdle s i
  if w.is SPn_I_BASE_base || w.is SPn_V_BASE_base || w.is SPn_W_BASE_base then vIf idle 0x3102 [i]
  else if w.is SPn_CTL_spec_dis then vIf idle 0x310F [i]
  else if w.is SPn_XFORM_mode then vIf (idle && (t.get SPn_XFORM_mode i != 3 || (i == 0 && s.six))) 0x310F [i]
  else if w.is SPn_FB_act then vIf (idle && t.get SPn_FB_frz_n i != 1 && t.getB SPn_FB_miss_n i) 0x310F [i]
  else if w.is SPn_PER_per then
    vIf (!s.chRuns i || budgetOk s w.ch (t.get SPn_PER_per i) (actBank s i)) 0x3111 [i]
  else if w.is SPn_OSC_CFG_win then vIf (t.getB SPn_OSC_CFG_win i && t.get SPn_OSC_CFG_resp i != 3) 0x310F [i]
  else if w.is SPn_OSC_N_n_min then vIf (decide (t.get SPn_OSC_N_n_min i ≤ t.get SPn_OSC_N_n_max i)) 0x310F [i]
  else vPass

/-- Writes to the field registers (R3, R265, R266). -/
def preField (s t : State) (w : Wr) : Verdict :=
  let i := w.ch.val
  let idle := spIdle s i
  if w.is SPn_FLD_CTL_mode then
    if !idle || t.get SPn_FLD_CTL_ovm i = 3 || t.get SPn_FLD_CTL_asrc i = 3 then vRefuse 0x312D [i]
    else vKeep (fIf (s.get SYS_ID_grade == 1 && decide (2 ≤ t.get SPn_FLD_CTL_mode i)) SPn_FLD_CTL_mode)
  else if w.is SPn_MACH_pp then vIf (idle && t.getB SPn_MACH_pp i) 0x312D [i]
  else if w.is SPn_PSI_value || w.is SPn_LD_value || w.is SPn_LQ_value || w.is SPn_RS_value || w.is SPn_IMAX_imax
    || w.is SPn_GRID_f_nom || w.is SPn_SIX_OFS_ofs then vIf idle 0x312D [i]
  else if w.is SPn_FW_fw_start then
    vIf (decide (16384 ≤ t.get SPn_FW_fw_start i) && decide (t.get SPn_FW_fw_start i ≤ 37837)) 0x312D [i]
  else if w.is SPn_FW_MIN_id_fw_min then
    vIf (decide (-(2 ^ 28) ≤ t.getS SPn_FW_MIN_id_fw_min i) && decide (t.getS SPn_FW_MIN_id_fw_min i ≤ 0)) 0x312D [i]
  else if w.is SPn_OBS_obs_n then
    vIf (t.getB SPn_OBS_obs_n i && decide (2 ≤ t.get SPn_OBS_trk_lim i) && decide (t.get SPn_OBS_trk_lim i ≤ 90)) 0x312D [i]
  else if w.is SPn_REC_probe then vIf (t.getB SPn_REC_probe i) 0x312D [i]
  else if w.is SPn_DTC_CFG_dec_min then
    vIf (idle && decide (400 ≤ t.get SPn_DTC_CFG_dec_min i)) 0x312D [i]
  else if w.is SPn_LR_lr_angle then vIf (t.getB SPn_LR_lr_angle i && decide (t.get SPn_LR_lr_angle i ≤ 59)) 0x312D [i]
  else vPass

/-! ### Protection -/

/-- No two parts of R302 claim one thing: a channel in both monitors, or one leg for both uses; and the legs in use are
PROTECTION legs. -/
def linkCfgOk (t : State) (l : Nat) : Bool :=
  let src (a : Nat) : Bool := t.get LEGk_CARR_src (12 + a) == 1
  let chop := t.getB PRT_LNKl_CFG_chop_en l
  let pre := t.getB PRT_LNKl_CFG_pre_en l
  decide (t.get PRT_LNKl_CFG_vdc_ain l ≤ 47) && decide (t.get PRT_LNKl_CFG_ichop_ain l ≤ 47)
    && t.get PRT_LNKl_CFG_members 0 &&& t.get PRT_LNKl_CFG_members 1 == 0
    && (!chop || src (t.get PRT_LNKl_CFG_chop_leg l)) && (!pre || src (t.get PRT_LNKl_CFG_pre_leg l))
    && !(chop && pre && t.get PRT_LNKl_CFG_chop_leg l == t.get PRT_LNKl_CFG_pre_leg l)

/-- The members of a monitor are in OFF. -/
def membersOff (s : State) (l : Nat) : Bool := (List.range 4).all (fun n => !s.getBit PRT_LNKl_CFG_members n l || s.chState n == 0)

/-- Writes to the PRT block (R284, R301, R302, R338). -/
def prePrt (s t : State) (w : Wr) : Verdict :=
  let l := w.i
  let free := !s.getB PRT_LNKl_CFG_en l && membersOff s l
  if w.is PRT_LS_CTL_dig_per then
    let d := t.get PRT_LS_CTL_dig_per
    vIf (d == 0 || (decide (100 ≤ d) && decide (d ≤ 60000))) 0x400C
  else if w.is PRT_LNKl_CFG_en then
    let other := w.reg.flds.any (fun f => f != PRT_LNKl_CFG_en && chg s t w f)
    let on := t.getB PRT_LNKl_CFG_en l
    if (!free && other) || !linkCfgOk t l then vRefuse 0x400C [l]
    else if s.getB PRT_LNKl_CFG_en l then
      vIf (on || (membersOff s l && s.get PRT_LNKl_STAT_lstate l == 0)) 0x400C [l]
    else if !on then vPass
    else if !membersOff t l then vRefuse 0x400C [l]
    else if linkOrderOk t ⟨l % 2, Nat.mod_lt _ (by omega)⟩ then vPass else .go [PRT_LNKl_CFG_en] (some (0x400C, [l]))
  else if w.is PRT_LNKl_OV1_chop_on || w.is PRT_LNKl_OV2_ov_asc || w.is PRT_LNKl_CHOP_chop_off then vIf free 0x400C [l]
  else if w.is PRT_LNKl_CHK_chop_confirm then vIf (free && t.getB PRT_LNKl_CHK_chop_confirm l) 0x400C [l]
  else if w.is PRT_LNKl_FILT_ov_filt then vIf (free && t.getB PRT_LNKl_FILT_ov_filt l) 0x400C [l]
  else if w.is PRT_LNKl_PRE_pre_time then vIf (free && t.getB PRT_LNKl_PRE_pre_time l) 0x400C [l]
  else if w.is PRT_LNKl_DIS_dis_mode then vIf (free && t.get PRT_LNKl_DIS_dis_mode l != 3) 0x400C [l]
  else if w.is PRT_LNKl_DIST_dis_time then
    vIf (free && t.getB PRT_LNKl_DIST_dis_time l && decide (t.get PRT_LNKl_DIST_dis_time l ≤ 16383)) 0x400C [l]
  else vPass

/-! ### Pairing -/

/-- Writes to the TLS block (R372, R373). -/
def preTls (s t : State) (w : Wr) : Verdict :=
  let en := s.getB TLS_CFG_en
  if w.is TLS_CFG_en then
    let other := w.reg.flds.any (fun f => f != TLS_CFG_en && chg s t w f)
    let lead := t.get TLS_CFG_hb_lead
    let on := t.getB TLS_CFG_en
    let role := s.get TLS_STAT_role
    vIf (!(en && other) && t.getB TLS_CFG_start_wait && decide (200 ≤ lead) && decide (lead ≤ 4000)
      && (on == en || (allOff s && (on || ((role == 1 || role == 2) && s.tls.claim.isNone && s.tls.handoff == 0))))) 0x500E
  else if w.is TLS_CKCFG_sync_n then vIf (!en && t.getB TLS_CKCFG_sync_n && t.getB TLS_CKCFG_cold_ramp) 0x500E
  else if w.is TLS_TRIM_asym then vIf (!en) 0x500E
  else vPass

/-! ### Faceplate and its links -/

/-- The initiator owns a core's queue (R381, R409). -/
def ownsQueue (s : State) (a : Access) (q : Nat) : Bool :=
  (a.ini == .cpa && s.get QPq_CFG_transport q == 4) || (a.ini == .cpb && s.get QPq_CFG_transport q == 5)

/-- A CAN bit time is one that R410 and R411 accept. -/
def bitTimeOk (t1 t2 sjw : Nat) : Bool := decide (2 ≤ t1) && decide (1 ≤ t2) && decide (sjw ≤ t2) && decide (8 ≤ 1 + t1 + t2)

/-- A group byte: valid only from 0x40 to 0x7E. -/
def groupOk (b : Nat) : Bool := decide (b < 128) || (decide (0xC0 ≤ b) && decide (b ≤ 0xFE))

/-- Writes to FPL, HLK, CAN and ETH (R409 to R411). -/
def preFpl (s t : State) (a : Access) (w : Wr) : Verdict :=
  let i := w.i
  if w.is FPL_SLOTn_src then vIf (t.get FPL_SLOTn_src w.i != 3 && t.getB FPL_SLOTn_maxgap w.i) 0x6008
  else if w.is FPL_POOL_BASE_base then
    let b := t.get FPL_POOL_BASE_base
    vIf (b % 256 == 0 && decide (0x10000000 ≤ b) && decide (b < 0x10600000)) 0x6008
  else if w.is QPq_SQ_tail then (if ownsQueue s a i then .act else .no none)
  else if w.is QPq_CQ_head then (if ownsQueue s a i then vPass else .no none)
  else if w.is HLK_CFG_addr_src then vIf (t.get HLK_CFG_addr_src != 3) 0x6008
  else if w.is HLK_GROUP_grp_0 then
    vIf (groupOk (t.get HLK_GROUP_grp_0) && groupOk (t.get HLK_GROUP_grp_1) && groupOk (t.get HLK_GROUP_grp_2)
      && groupOk (t.get HLK_GROUP_grp_3)) 0x6008
  else if w.is CANx_NBT_sjw then
    vIf (bitTimeOk (t.get CANx_NBT_tseg1 i) (t.get CANx_NBT_tseg2 i) (t.get CANx_NBT_sjw i)) 0x6008
  else if w.is CANx_DBT_sjw then
    vIf (bitTimeOk (t.get CANx_DBT_tseg1 i) (t.get CANx_DBT_tseg2 i) (t.get CANx_DBT_sjw i)) 0x6008
  else vPass

/-! ### Sett, meter, check values, Owl -/

/-- Writes to a Sett block (R420, R425, R439 to R442). -/
def preSett (t : State) (w : Wr) : Verdict :=
  if w.is SETTp_CFG_en then
    let p := portOf w.i
    vIf (t.getB SETTp_CFG_miss_max w.i && t.getB SETTp_CFG_div w.i && settBudgetOk t p) (0x7008 + 0x100 * p.val)
  else if w.is SETT_NODEe_CFG_class then
    let e := w.i
    let p := portOf (e / 256)
    let cl := t.get SETT_NODEe_CFG_class e
    vIf (cl != 3 && decide (t.get SETT_NODEe_CFG_leg e ≤ 5)
      && (cl != 2 || (t.getB SETT_NODEe_CFG_present e && decide ((fastEntries t p).length ≤ 32)))
      && settBudgetOk t p) (0x7008 + 0x100 * p.val) [e]
  else vPass

/-- The meter's fields that R430 guards may be written now. -/
def mtrOpen (s : State) : Bool := lcState s == 1 || lcState s == 4

/-- Writes to the MTR block (R430, R441, R442). -/
def preMtr (s t : State) (w : Wr) : Verdict :=
  if w.is MTR_CFG_en then
    let other := w.reg.flds.any (fun f => f != MTR_CFG_en && chg s t w f)
    vIf (!other || mtrOpen s) 0x7808
  else if w.is MTR_IN_v_ain then
    vIf (mtrOpen s && decide (t.get MTR_IN_v_ain ≤ 47) && decide (t.get MTR_IN_i_ain ≤ 47)) 0x7808
  else if w.is MTR_VLSB_lsb || w.is MTR_ILSB_lsb || w.is MTR_VGAIN_gain || w.is MTR_IGAIN_gain || w.is MTR_OFS_v_ofs then
    vIf (mtrOpen s) 0x7808
  else if w.is MTR_INT_interval then vIf (t.getB MTR_INT_interval && decide (t.get MTR_INT_interval ≤ 3600)) 0x7808
  else vPass

/-- Writes to the CVU block (R437, R441, R442). -/
def preCvu (t : State) (w : Wr) : Verdict :=
  if w.is CVUc_CFG_poly then vIf (decide (t.get CVUc_CFG_poly w.i ≤ 4) && t.getB CVUc_CFG_maxgap w.i) 0x7901 [w.i]
  else vPass

/-- Writes to the OWL block (R455, R456, R459, R461, R462). In REPLAY, `rp_abort` alone acts (R459, DEDUCED, assumption 88). -/
def preOwl (s t : State) (w : Wr) : Verdict :=
  let st := s.get OWL_STAT_state
  if w.is OWL_CFG_snap_log2 then vIf (decide (4 ≤ t.get OWL_CFG_snap_log2)) 0x7C08
  else if w.is OWL_CTL_arm then
    if st = 4 then (if w.bits OWL_CTL_rp_abort = 1 then .act else vRefuse 0x7C08) else vPass
  else if w.is OWL_TRIG_MASK_mask || w.is OWL_LOAD_IDX_idx || w.is OWL_LOAD_D0_data || w.is OWL_LOAD_D1_data then vIf (st != 4) 0x7C08
  else if w.is OWL_LOAD_D2_data then vIf (st == 0 || st == 3) 0x7C08
  else if w.is OWL_ETH_port then
    vIf (!(w.bits OWL_ETH_go == 1 && (st != 3 || s.getB OWL_ETH_busy))) 0x7C08
  else vPass

/-! ### All blocks -/

/-- The number of an address's block (R72). -/
def blockOf (addr : Nat) : Nat := addr / 0x10000 % 0x1000

/-- What becomes of a register write; `t` is the state with it performed. -/
def preWrite (s t : State) (a : Access) (w : Wr) : Verdict :=
  match blockOf w.reg.addr with
  | 0x00 => preSys w
  | 0x02 | 0x03 | 0x7E | 0x7F => prePwr s t w
  | 0x10 => preCvb s t w
  | 0x11 => preSeq s t w
  | 0x18 => prePif s t w
  | 0x20 => preLeg s t w
  | 0x24 => preCh s t w
  | 0x31 => if w.reg.addr % 0x10000 < 0x100 then preSpindle s t w else preField s t w
  | 0x40 => prePrt s t w
  | 0x50 => preTls s t w
  | 0x60 | 0x61 | 0x62 | 0x64 => preFpl s t a w
  | 0x70 => preSett t w
  | 0x78 => preMtr s t w
  | 0x79 => preCvu t w
  | 0x7C => preOwl s t w
  | _ => vPass

end Sys2Proof.Machine
end

