-- ==== Sys2Proof/Machine/Bus.lean ====
section
/-! DEFINITION. The peripheral bus: what follows a register write, reading and writing registers through the privileged
aperture and the alias (R7 to R10, R43, R71 to R75), and the commands that are register accesses. -/

namespace Sys2Proof.Machine

/-! ### What follows a write, block by block -/

/-- The claim of a context: the pending interrupt of the highest priority, the lowest number among equals; 0 where none. It
is no longer pending and is claimed until completed (PRESUMED, assumption 77). -/
def plicClaim (s : State) (c : Nat) : Nat × State :=
  let best := (plicCands s c).foldl (fun (b : Nat) k =>
    if b = 0 ∨ s.get PLIC_PRIO_prio b < s.get PLIC_PRIO_prio k then k else b) 0
  if best = 0 then (0, s)
  else
    let s := s.putBit PLIC_PEND_bits (best % 32) false (best / 32)
    (best, { s with net := { s.net with claimed := (best, c) :: s.net.claimed } })

/-- A context completes an interrupt. -/
def plicComplete (s : State) (c k : Nat) : State :=
  if s.getBit PLIC_EN_bits (k % 32) c (k / 32) then
    { s with net := { s.net with claimed := s.net.claimed.filter (fun e => e.1 != k) } }
  else s

/-- After a write to SYS: a profile request (R30), an interrupt completed (R407). -/
def postSys (w : Wr) (s : State) : State :=
  if w.is SYS_PROFILE_request then
    let p := w.bits SYS_PROFILE_request
    let r := profRequest s p
    if r.1 = 3 then s.logEv 0x0002 [p, s.get SYS_PROFILE_active] else r.2
  else if w.is PLIC_CLAIM_src then plicComplete s w.i (w.v % 256)
  else s

/-- A manual BIST run begins (R476). -/
def bistStart (s : State) : State :=
  if s.pwr.selftest.isSome then s
  else ((s.modPwr (fun q => { q with selftest := some 256 })).put BIST_STAT_running 1).gateHold LEG_OGATE_selftest

/-- After a write to PWR, BIST or LCS (R466, R472, R476, R487, R492). -/
def postPwr (w : Wr) (s : State) : State :=
  if w.is PWR_CTL_shutdown then s.onIf (w.bits PWR_CTL_shutdown == 1) shutStart
  else if w.is PWR_RESET_key then s.onIf (w.bits PWR_RESET_key == 0x5A5A) (fun s => deviceReset s 2)
  else if w.is BIST_CTL_go then s.onIf (w.bits BIST_CTL_go == 1) bistStart
  else if w.is LCS_EPOCH_advance then s.onIf (w.bits LCS_EPOCH_advance == 1) epochAdvance
  else if w.is LCS_KPROG_go then s.onIf (w.bits LCS_KPROG_go == 1) keyProgram
  else s

/-- The power mode or the reference buffer of a converter has been written (R103, R105, R106). -/
def convCfg (s : State) (c : Cv) : State :=
  let m := cvMode s c
  let st := cvSt s c
  let s := if st == 0 && m != 3 then s.put CVc_STAT_state 2 c.val else s.onIf (m == 1) (fun s => cvStart s c)
  s.onIf (if s.getB CVc_CFG_ref_mode c.val then !s.getB CVc_CFG_ref_en c.val else st == 0) (fun s => s.put CVc_STAT_ref_ready 0 c.val)

/-- A request for a full calibration is judged (R97, R102). -/
def calAsk (s : State) (c : Cv) : State :=
  if feedsRunning s c && !s.getB CVc_CFG_partner_en c.val then s.logEv 0x1008 [c.val] else calRequest s c

/-- A comparator that is switched off deasserts (R113). -/
def cmpOff (s : State) (i : Ain) : State :=
  let s := (s.put CMPi_STAT_hi_out 0 i.val).put CMPi_STAT_lo_out 0 i.val
  (s.modCmp i (fun m => { m with hiCnt := 0, loCnt := 0 })).tripRelease

/-- After a write to CVB. -/
def postCvb (w : Wr) (s : State) : State :=
  if w.is CVc_CFG_pwr then convCfg s (cvOf w.i)
  else if w.is CVc_CAL_full then s.onIf (w.bits CVc_CAL_full == 1) (fun s => calAsk s (cvOf w.i))
  else if w.is CVc_INJk_start then
    s.onIf (w.bits CVc_INJk_start == 1) (fun s => injRequest s (cvOf w.i) ⟨w.j % 4, Nat.mod_lt _ (by omega)⟩)
  else if w.is CMPi_CFG_en then s.onIf (!s.getB CMPi_CFG_en w.i) (fun s => cmpOff s (ainOf w.i))
  else s

/-- After a write to SEQ (R86, R91, R115). -/
def postSeq (s0 : State) (w : Wr) (s : State) : State :=
  if w.is SEQn_CTL_en then
    let q := sqOf w.i
    let old := s0.getB SEQn_CTL_en q.val
    let new := s.getB SEQn_CTL_en q.val
    if new && !old then s.modSeq q (fun x => { x with enTs := s.now })
    else if old && !new then (s.modSeq q (fun x => { x with stored := none, armed := [] })).put SEQn_STAT_queued 0 q.val
    else s
  else if w.is SEQn_SWTRIG_go then
    s.onIf (w.bits SEQn_SWTRIG_go == 1 && s.get SEQn_TRIG_src w.i == 1) (fun s => seqTrigger s (sqOf w.i) ⟨s.now, s.now, false⟩)
  else if w.is SEQ_TTt_CTL_en then
    let t : Fin 4 := ⟨w.i % 4, Nat.mod_lt _ (by omega)⟩
    let old := s0.getB SEQ_TTt_CTL_en t.val
    let new := s.getB SEQ_TTt_CTL_en t.val
    if new == old then s
    else
      let first := if new && !s.getB SEQ_TTt_CTL_align t.val then some (s.now + s.get SEQ_TTt_PER_per t.val) else none
      { s with cvb := { s.cvb with tt := vupd s.cvb.tt t (fun _ => first) } }
  else s

/-- A request to return to the primary source (R153). -/
def srcRestore (s : State) (n : Ch) : State :=
  let pri := srcCodeOf s n true
  if srcHealthy s n true && (srcView s n pri).2.2.2.1 then s.modPif n (fun p => { p with restore := true })
  else pifEv s n 0x0A

/-- After a write to a PIF block. -/
def postPif (s0 : State) (w : Wr) (s : State) : State :=
  let n := w.ch
  if w.is PIFn_CTL_en then
    let s := s.onIf (s.getB PIFn_CTL_en n.val && !s0.getB PIFn_CTL_en n.val) (fun s =>
      (s.put PIFn_STAT_active 1 n.val).modPif n (fun p => { p with enTs := s.now }))
    s.onIf (w.bits PIFn_CTL_src_restore == 1) (fun s => srcRestore s n)
  else if w.is PIFn_EXC_en then
    s.onIf (s.getB PIFn_EXC_en n.val && !s0.getB PIFn_EXC_en n.val) (fun s => s.modPif n (fun p => { p with excTs := s.now }))
  else if w.is ENCO_CTL_en then encoFollow s (chOf (s.get ENCO_CTL_src))
  else s

/-- A carrier's `en` has been set or cleared (R163). -/
def carrEdge (s : State) (r : Carr) (old new : Bool) : State :=
  if new && !old then carrierBegin s r else if old && !new then carrierStop s r else s

/-- A commit written to an auxiliary leg (R178). -/
def legCommit (s : State) (a : Fin 4) (gen : Nat) : State := auxCommit s a (shadowCommit s (.aux a) gen)

/-- A write has changed a field of its register. -/
def Wr.changed (w : Wr) (s0 s : State) : Bool := w.reg.flds.any (fun f => s.get f w.i w.j != s0.get f w.i w.j)

/-- The configuration of a fault input or trip line has been written (R184, R186, R190): a new polarity or filter makes the input
inactive; a new mode, map or cut applies to one that is active already. -/
def fltCfg (s0 s : State) (w : Wr) (b : Fin 32) : State :=
  let anew := w.is FLTj_CFG_mode && (s.get FLTj_CFG_pol w.i != s0.get FLTj_CFG_pol w.i || s.get FLTj_CFG_filt w.i != s0.get FLTj_CFG_filt w.i)
  let s := s.tripRelease
  let s := if anew then s.fltRelease b else s.onIf (w.changed s0 s) (fun s => s.fltReapply b)
  s.syncLvl.legsApply

/-- After a write to LEG. -/
def postLeg (s0 : State) (w : Wr) (s : State) : State :=
  let a := auxOf (w.i - 12)
  if w.is LEGk_CARR_en then carrEdge s (.aux a) (s0.getB LEGk_CARR_en w.i) (s.getB LEGk_CARR_en w.i)
  else if w.is LEGk_COMMIT_go then legCommit s a (w.bits LEGk_COMMIT_gen)
  else if w.is FLT_STAT_flt then s.latchClear w.v
  else if w.is FLTj_CFG_mode || w.is FLTj_MAP_legs then fltCfg s0 s w ⟨w.i % 16, by omega⟩
  else if w.is ITRIPm_CFG_mode || w.is ITRIPm_MAP_legs then fltCfg s0 s w ⟨16 + w.i % 16, by omega⟩
  else if w.is LEGk_CFG_out then s.legsApply
  else s

/-- The bits of `hs` or `ls` whose node still reports its switch failed short (R281). -/
def nodeShorts (s : State) (n : Ch) (low : Bool) : Nat :=
  (List.range 512).foldl (fun v e =>
    if nodeShort s e && s.get SETT_NODEe_CFG_ch e == n.val && s.getB SETT_NODEe_CFG_side e == low
    then v ||| 2 ^ s.get SETT_NODEe_CFG_leg e else v) 0

/-- A write of `CHn_SWFAIL` (R281): bits set are reported; bits cleared are cleared, but for those that a node reports, and
only in OFF, READY or SAFE with PULSE_OFF. -/
def swfailWrite (s : State) (n : Ch) (hs ls : Nat) : State :=
  let m := if n.val = 0 && s.six then 63 else 7
  let h0 := s.get CHn_SWFAIL_hs n.val
  let l0 := s.get CHn_SWFAIL_ls n.val
  let h := hs &&& m
  let l := ls &&& m
  let clears := h0 &&& h != h0 || l0 &&& l != l0
  let may := spIdle s n.val || (s.chState n.val == 6 && s.get CHn_STATE_pat n.val == 1)
  if clears && !may then s.logEv 0x2414
  else
    let s := (s.put CHn_SWFAIL_hs (h0 &&& (h ||| nodeShorts s n false)) n.val).put CHn_SWFAIL_ls (l0 &&& (l ||| nodeShorts s n true)) n.val
    selUpdate (swfailSet s n h l) n

/-- After a write to CH (R23, R163, R174, R281, R283). -/
def postCh (s0 : State) (w : Wr) (s : State) : State :=
  let n := w.ch
  let i := n.val
  if w.is CHn_TIMING_dl_max then
    s.onIf ((s.carrier (.ch n)).run && (s.chan i).timing.isNone && s.getB CHn_CARR_en i) (fun s =>
      s.modChan n (fun c => { c with timing := some (s0.get CHn_TIMING_dl_max i, s0.get CHn_TIMING_commit_guard i) }))
  else if w.is CHn_CARR_en then carrEdge s (.ch n) (s0.getB CHn_CARR_en i) (s.getB CHn_CARR_en i)
  else if w.is CHn_CTL_six then s.legsApply
  else if w.is CHn_COMMIT_go then commitIn s n (shadowCommit s (.ch n) (w.bits CHn_COMMIT_gen))
  else if w.is CHn_SWFAIL_hs then swfailWrite s n (w.bits CHn_SWFAIL_hs) (w.bits CHn_SWFAIL_ls)
  else if w.is CHn_SAFECFG_asc_pref || w.is CHn_ASC_SPD_asc_speed || w.is CHn_ASC_V_asc_vmargin || w.is CHn_VDC_SCALE_scale then
    selRefresh s n
  else s

/-- After a write to an SP block (R52, R212, R226, R260). -/
def postSp (w : Wr) (s : State) : State :=
  let n := w.ch
  if w.is SPn_SAT_transform then
    let any := [SPn_SAT_transform, SPn_SAT_predict, SPn_SAT_correct, SPn_SAT_control, SPn_SAT_limit, SPn_SAT_modulate].any
      (fun f => s.getB f n.val)
    s.onIf (!any) (fun s => (s.put SPn_SAT_first_period 0 n.val).put SPn_SAT_first_stage 0 n.val)
  else if w.is SPn_BANK_swap then
    let s := s.onIf (w.bits SPn_BANK_swap == 1) (fun s => swapRequest s n)
    s.onIf (w.bits SPn_BANK_seal_req == 1) (fun s => sealRequest s n)
  else if w.is SPn_FLD_STAT_ke_abn then s.onIf (w.bits SPn_FLD_STAT_ke_abn == 1) (fun s => fluxRestart s n)
  else s

/-- After a write to PRT (R284). -/
def postPrt (s0 : State) (w : Wr) (s : State) : State :=
  let l : Lnk := ⟨w.i % 2, Nat.mod_lt _ (by omega)⟩
  s.onIf (w.is PRT_LNKl_CFG_en && s.getB PRT_LNKl_CFG_en l.val && !s0.getB PRT_LNKl_CFG_en l.val) (fun s => linkStart s l)

/-- The watchdog that an initiator owns (R325). -/
def wdgOf : Init → Nat
  | .cpa => 0
  | .cpb => 1
  | .mp => 2

/-- After a write to BDG (R325, R340). -/
def postBdg (a : Access) (w : Wr) (s : State) : State :=
  if w.is BDG_MB_REQ_go then s.onIf (w.bits BDG_MB_REQ_go == 1) mbSubmit
  else if w.is BDG_WDG_KICKc_key then
    wdgKick s ⟨w.i % 3, Nat.mod_lt _ (by omega)⟩ (w.bits BDG_WDG_KICKc_key) (wdgOf a.ini == w.i)
  else s

/-- After a write to TLS (R372): the role settles at once, or with the release of the Reset cause (R346). -/
def postTls (s0 : State) (w : Wr) (s : State) : State :=
  if w.is TLS_CFG_en then
    let old := s0.getB TLS_CFG_en
    let new := s.getB TLS_CFG_en
    if new && !old then s.onIf (!s.getB LEG_OGATE_reset) settleRole
    else if old && !new then setRole (s.modTls (fun t => { t with xlOut := false })) 0
    else s
  else s

/-- After a write to FPL or HLK (R381, R399). -/
def postFpl (s0 : State) (w : Wr) (s : State) : State :=
  if w.is QPq_SQ_tail then sqTail s (qpOf w.i) (w.bits QPq_SQ_tail)
  else if w.is HLK_CFG_addr_src then
    s.onIf (s.get HLK_CFG_addr_src != s0.get HLK_CFG_addr_src) hlkAddrSet
  else s

/-- After a write to a Sett block (R425). -/
def postSett (w : Wr) (s : State) : State :=
  if w.is SETTp_CFG_en then settBudgetShow s (portOf w.i)
  else if w.is SETT_NODEe_CFG_class then settBudgetShow s (portOf (w.i / 256))
  else s

/-- The meter fields whose change R430 logs. -/
def mtrWatched : List Fld :=
  [MTR_IN_v_ain, MTR_IN_i_ain, MTR_VLSB_lsb, MTR_ILSB_lsb, MTR_VGAIN_gain, MTR_IGAIN_gain, MTR_OFS_v_ofs, MTR_OFS_i_ofs,
    MTR_CFG_key_slot, MTR_CFG_pack_src]

/-- After a write to MTR (R430, R436). -/
def postMtr (s0 : State) (w : Wr) (s : State) : State :=
  if w.is MTR_RESTORE_GO_go then s.onIf (w.bits MTR_RESTORE_GO_go == 1) meterRestore
  else s.onIf (mtrWatched.any (fun f => s.get f != s0.get f)) (fun s => (mtrFlag s 4).logEv 0x7804)

/-- After a write to CVU (R437, R438). -/
def postCvu (w : Wr) (s : State) : State :=
  let c : Fin 4 := ⟨w.i % 4, Nat.mod_lt _ (by omega)⟩
  if w.is CVUc_CTL_start then
    let s := s.onIf (w.bits CVUc_CTL_alive_clr == 1) (fun s => cvuAliveClr s c)
    s.onIf (w.bits CVUc_CTL_start == 1) (fun s => cvuStart s c)
  else if w.is CVUc_DATA8_data then cvuFeed s c (leBytes 1 w.v)
  else if w.is CVUc_DATA16_data then cvuFeed s c (leBytes 2 w.v)
  else if w.is CVUc_DATA32_data then cvuFeed s c (leBytes 4 w.v)
  else if w.is CVUc_ALIVE_counter then cvuAlive s c w.v
  else s

/-- A word of a recording is loaded (R456). -/
def owlLoad (s : State) : State :=
  let i := s.get OWL_LOAD_IDX_idx
  let v := s.get OWL_LOAD_D0_data + 2 ^ 32 * s.get OWL_LOAD_D1_data + 2 ^ 64 * s.get OWL_LOAD_D2_data
  let s := ((s.putOw i v).put OWL_LOAD_IDX_idx (i + 1)).put OWL_STAT_state 3
  let s := s.onIf (i == 16) (fun s => (s.put OWL_OLDEST_idx 16).put OWL_STAT_wrapped 0)
  s.onIf (decide (16 ≤ i)) (fun s => s.put OWL_STAT_wptr (i + 1))

/-- The datagrams of an offload (R455); how they are paced is left out (assumption 78). -/
def owlSend (s : State) : State :=
  let dg (p : List Nat × Nat) : List Nat :=
    let b := leBytes 4 (p.1.headD 0) ++ leBytes 2 p.1.length ++ leBytes 2 p.2 ++ devIdBytes ++ p.1.flatMap (owlBytes s)
    b ++ leBytes 4 (crc32c b)
  { s with owl := { s.owl with sent := (owlPieces (offloadWords s)).zipIdx.map dg } }

/-- After a write to OWL (R449, R452, R455, R456, R459). -/
def postOwl (w : Wr) (s : State) : State :=
  if w.is OWL_CTL_arm then
    if s.get OWL_STAT_state = 4 then endReplay s 11
    else
      let s := s.onIf (w.bits OWL_CTL_arm == 1) owlArm
      s.onIf (w.bits OWL_CTL_trig == 1) (fun s => s.owlTrig 0)
  else if w.is OWL_LOAD_D2_data then owlLoad s
  else if w.is OWL_ETH_go then s.onIf (w.bits OWL_ETH_go == 1) (fun s => owlSend (s.put OWL_ETH_busy 1))
  else s

/-- What follows a write; `s0` is the state before it. -/
def postWrite (s0 : State) (a : Access) (w : Wr) (s : State) : State :=
  match blockOf w.reg.addr with
  | 0x00 => postSys w s
  | 0x02 | 0x7E | 0x7F => postPwr w s
  | 0x10 => postCvb w s
  | 0x11 => postSeq s0 w s
  | 0x18 => postPif s0 w s
  | 0x20 => postLeg s0 w s
  | 0x24 => postCh s0 w s
  | 0x31 => postSp w s
  | 0x40 => postPrt s0 w s
  | 0x48 => postBdg a w s
  | 0x50 => postTls s0 w s
  | 0x60 | 0x61 => postFpl s0 w s
  | 0x70 => postSett w s
  | 0x78 => postMtr s0 w s
  | 0x79 => postCvu w s
  | 0x7C => postOwl w s
  | _ => s

/-! ### The map -/

/-- The indices of the instance of a register that stands at an address. -/
def regAt (r : Reg) (addr : Nat) : Option (Nat × Nat) :=
  if addr < r.addr then none
  else
    let d := addr - r.addr
    let i := if r.s1 = 0 then 0 else d / r.s1
    let e := if r.s1 = 0 then d else d % r.s1
    let j := if r.s2 = 0 then 0 else e / r.s2
    let f := if r.s2 = 0 then e else e % r.s2
    if f = 0 ∧ i < r.n1 ∧ j < r.n2 then some (i, j) else none

/-- The register at an address. -/
def findReg : List Reg → Nat → Option (Reg × Nat × Nat)
  | [], _ => none
  | r :: t, addr => match regAt r addr with
    | some (i, j) => some (r, i, j)
    | none => findReg t addr

/-- The register at an address; the auxiliary legs' registers do not exist on legs 0 to 11 (R196). -/
def regOf (addr : Nat) : Option (Reg × Nat × Nat) :=
  match findReg regTable addr with
  | some (r, i, j) => if 0x40200014 ≤ r.addr ∧ r.addr < 0x40200040 ∧ i < 12 then none else some (r, i, j)
  | none => none

/-- The block numbers that R72 assigns. -/
def assigned : List Nat :=
  [0x00, 0x01, 0x02, 0x03, 0x10, 0x11, 0x18, 0x19, 0x1A, 0x1B, 0x20, 0x24, 0x30, 0x31, 0x32, 0x33, 0x34, 0x40, 0x48, 0x50, 0x60,
    0x61, 0x62, 0x63, 0x64, 0x70, 0x71, 0x78, 0x79, 0x7C, 0x7E, 0x7F]

/-! ### Reading a register -/

/-- The stored fields of a register as a word; write-only fields read 0. -/
def storedWord (s : State) (r : Reg) (i j : Nat) : Nat :=
  (r.flds.map (fun f => if f.acc = .wo ∨ f.acc = .wod then 0 else s.get f i j * 2 ^ f.lsb)).sum

/-- The hold that is left, in 100 µs units, rounded down. -/
def holdLeft (s : State) (n : Ch) : Nat := match (s.sp n).holdEnd with
  | some t => min 4095 ((t - s.now) / 40000)
  | none => 0

/-- A watchdog's window is open. -/
def wdgOpen (s : State) (c : Fin 3) : Bool :=
  let w := wdgWin s c
  decide (s.bdg.wdg[c].last + w.1 ≤ s.now) && decide (s.now ≤ s.bdg.wdg[c].last + w.2)

/-- The value that a register shows: its stored fields, and what is formed at the read. -/
def regWord (s : State) (r : Reg) (i j : Nat) : Nat :=
  if r.addr = CLK_TS_LO_ts.addr then s.now % 2 ^ 32
  else if r.addr = CLK_TS_HI_ts.addr then s.now / 2 ^ 32 % 2 ^ 32
  else if r.addr = BDG_FLIVEw_src.addr then (List.range 32).foldl (fun v b => if srcLive s (32 * i + b) then v + 2 ^ b else v) 0
  else if r.addr = SPn_FBSTAT_hold_left.addr then storedWord s r i j + holdLeft s (chOf i) * 2 ^ 20
  else if r.addr = BDG_WDG_STATc_open.addr then
    storedWord s r i j + (if wdgOpen s ⟨i % 3, Nat.mod_lt _ (by omega)⟩ then 2 ^ 16 else 0)
  else if r.addr = CVUc_RES_LO_crc.addr then cvuResult s ⟨i % 4, Nat.mod_lt _ (by omega)⟩ % 2 ^ 32
  else if r.addr = CVUc_RES_HI_crc.addr then cvuResult s ⟨i % 4, Nat.mod_lt _ (by omega)⟩ / 2 ^ 32
  else if r.addr = CVUc_INIT_LO_init.addr ∨ r.addr = CVUc_XOR_LO_xorout.addr then storedWord s r i j % 2 ^ cvuWidth s i
  else if r.addr = CVUc_INIT_HI_init.addr ∨ r.addr = CVUc_XOR_HI_xorout.addr then storedWord s r i j % 2 ^ (cvuWidth s i - 32)
  else if blockOf r.addr = 0x18 then storedWord (pifSync s (chOf i)) r i j
  else if blockOf r.addr = 0x48 then storedWord (faultNShow s) r i j
  else storedWord s r i j

/-- The low halves whose read captures the high half that follows them (R43). -/
def lowHalves : List Nat :=
  [CLK_TS_LO_ts.addr, SEQn_TRIG_TS_LO_ts.addr, PIFn_STS_LO_ts.addr, TLS_PEER_OFS_LO_ofs.addr, ETH_PTP_TS_LO_ts0.addr,
    ETH_PTP_T_LO_t0.addr, MTR_EPOS_LO_total.addr, MTR_ENEG_LO_total.addr, MTR_QPOS_LO_total.addr, MTR_QNEG_LO_total.addr,
    CVUc_RES_LO_crc.addr, OWL_TRIG_TS_LO_ts.addr]

/-- The RC fields of a register clear (R10); with a corrected-error counter its threshold event may come again (R65). -/
def rcClear (s : State) (r : Reg) (i j : Nat) : State :=
  let s := s.forL (r.flds.filter (fun f => f.acc = .rc)) (fun f s => s.clr f i j)
  s.onIf (r.addr == SYS_ECC_CE_count.addr) (fun s => s.logAgain 0x0020 i)

/-- A register read at a byte address of the privileged aperture: the value, and the state after it. -/
def regRead (s : State) (a : Access) (addr : Nat) : Nat × State :=
  match regOf addr with
  | none => (0, s)
  | some (r, i, j) =>
    if r.addr = PLIC_CLAIM_src.addr ∧ a.dbg = false then plicClaim s i
    else if lowHalves.contains r.addr then
      let hi := match regOf (addr + 4) with
        | some (h, i', j') => regWord s h i' j'
        | none => 0
      (regWord s r i j, s.modPort a.ini (fun p => { p with hi := sput 0 p.hi (addr + 4) (hi + 1) }))
    else if r.addr ≠ 0 ∧ lowHalves.contains (r.addr - 4) ∧ sget 0 (s.port a.ini).hi addr ≠ 0 then
      (sget 0 (s.port a.ini).hi addr - 1, s)
    else (regWord s r i j, if a.dbg then s else rcClear s r i j)

/-! ### Writing a register -/

/-- A field would be touched by a write through the alias (R74). -/
def touched (s : State) (w : Wr) (f : Fld) : Bool :=
  f.pw && match f.acc with
    | .rw => w.bits f != s.get f w.i w.j
    | .w1c | .w1s | .wo | .wod => w.bits f != 0
    | _ => false

/-- A field that software can write. -/
def Fld.writable (f : Fld) : Bool := match f.acc with
  | .rw | .w1c | .w1s | .wo | .wod => true
  | _ => false

/-- A write through the alias has a field to act on: one that is not marked PW (R74). -/
def aliasActs (r : Reg) : Bool := r.flds.any (fun f => f.writable && !f.pw)

/-- The register word at `base` as an access of `size` bytes at `addr` writes it: bytes that it does not cover are those of `old`. -/
def wordOver (base addr size v old : Nat) : Nat :=
  ((List.range 4).map (fun k =>
    (if addr ≤ base + k ∧ base + k < addr + size then v / 2 ^ (8 * (base + k - addr)) % 256 else old / 2 ^ (8 * k) % 256) * 2 ^ (8 * k))).sum

/-- An access through the alias, whatever its size and alignment, touches a field marked PW that it covers (R74, R75). -/
def privTouch (s : State) (addr size v : Nat) : Bool :=
  ((List.range 3).map (fun k => addr / 4 * 4 + 4 * k)).any (fun base => decide (base < addr + size) && match regOf base with
    | none => false
    | some (r, i, j) => r.flds.any (fun f =>
      touched s ⟨r, i, j, wordOver base addr size v (if f.acc = .rw then s.get f i j * 2 ^ f.lsb else 0)⟩ f))

/-- The LK fields that a write would change after CFG_LOCK (R9). -/
def lockedFlds (s : State) (w : Wr) : List Fld :=
  if s.dev.cfgLock && !w.is SYS_PROFILE_request then w.reg.flds.filter (fun f => f.lk && f.acc == .rw && w.bits f != s.get f w.i w.j) else []

/-- The written word with some fields replaced by what they hold. -/
def heldWord (s : State) (w : Wr) (l : List Fld) : Nat :=
  l.foldl (fun v f => v - w.bits f * 2 ^ f.lsb + s.get f w.i w.j * 2 ^ f.lsb) w.v

/-- The budget and similar figures follow what was written (R21, R28). -/
def showAfter (s : State) (blk : Nat) : State :=
  if [0x00, 0x10, 0x11, 0x24, 0x31].contains blk then s.forL (List.finRange 4) (fun n s => budgetShow s n) else s

/-- A register write that the apertures admit. A locked write leaves its LK field and writes the others (R9; DESIGN CHOICE, assumption
127), and is judged before what R3 says of a grid mode (DESIGN CHOICE, assumption 126). -/
def writeReg (s : State) (a : Access) (w0 : Wr) (addr : Nat) : State :=
  let lf := lockedFlds s w0
  let w := { w0 with v := heldWord s w0 lf }
  let s := s.onIf (!lf.isEmpty) (fun s => s.logEv 0x0014 [addr])
  let t := applyWr s w []
  match preWrite s t a w with
  | .no none => s
  | .no (some e) => s.logEv e.1 e.2
  | .act => showAfter (postWrite s a w s) (blockOf w.reg.addr)
  | .go keep ev =>
    let u := postWrite s a w (if keep.isEmpty then t else applyWr s w keep)
    showAfter (match ev with
      | some e => u.logEv e.1 e.2
      | none => u) (blockOf w.reg.addr)

/-- What the bus makes of a register write: performed, refused for privilege (R74), or outside the map. -/
inductive WRes where
  | ok | priv
  deriving DecidableEq, Repr

/-- A register write at an address of the privileged aperture, or, with `ua`, of the same register's alias. Writes to a replayed
spindle are discarded (R458); those that reach a spindle are recorded (R450). -/
def regWrite (s : State) (a : Access) (ua : Bool) (addr v : Nat) : WRes × State :=
  match regOf addr with
  | none => (.ok, s)
  | some (r, i, j) =>
    let w : Wr := ⟨r, i, j, v % 2 ^ 32⟩
    if ua && r.flds.any (touched s w) then (.priv, s)
    else if ua && !aliasActs r then (.ok, s)
    else
      let sp := blockOf r.addr == 0x31
      if sp && s.replayed w.ch.val then (.ok, s)
      else
        let s := s.onIf sp (fun s => s.owlRec 0x05 w.ch.val [2 ^ 39 + addr % 0x10000, w.v, 0])
        (.ok, writeReg s a w addr)

/-! ### The bus -/

/-- The pair of an initiator that is a core. -/
def corePair : Init → Option (Fin 2)
  | .cpa => some 0
  | .cpb => some 1
  | .mp => none

/-- An address outside CKC: every peripheral but the Lathe's, the mailbox memory and the flash (DEDUCED from R33, assumption 85). -/
def outsideCkc (addr : Nat) : Bool :=
  (decide (0x40000000 ≤ addr) && decide (addr < 0x50800000) && !([0x30, 0x31, 0x32, 0x33, 0x34].contains (blockOf addr)))
    || (decide (0x08000000 ≤ addr) && decide (addr < 0x08001000)) || (decide (0x70000000 ≤ addr) && decide (addr < 0x80000000))

/-- An access in an aperture: whether the alias is used, and the address in the privileged aperture. -/
def aperture (addr : Nat) : Option (Bool × Nat) :=
  if 0x40000000 ≤ addr ∧ addr < 0x40800000 then some (false, addr)
  else if 0x50000000 ≤ addr ∧ addr < 0x50800000 then some (true, addr - 0x10000000)
  else none

/-- The blocks that read as 0 through the alias (R74). -/
def aliasZero (addr : Nat) : Bool := blockOf addr == 0x48 || blockOf addr == 0x7F

/-- Bytes of a memory range that lies whole inside it. -/
def inRange (addr size lo hi : Nat) : Bool := decide (lo ≤ addr) && decide (addr + size ≤ hi) && [1, 2, 4, 8].contains size

/-- A bus read as the initiator meets it (R71 to R75). The Boot ROM's content is not given: a read of it returns a free value
(DESIGN CHOICE, assumption 89). -/
def busReadRaw (s : State) (a : Access) (addr size : Nat) : State :=
  match aperture addr with
  | some (ua, p) =>
    if !ua && !a.priv then busErr s a addr 0x0012
    else if size ≠ 4 ∨ addr % 4 ≠ 0 ∨ !(assigned.contains (blockOf p)) then busErr s a addr 0x0010
    else if ua && aliasZero p then s.answer a.ini (.data 0)
    else
      let r := regRead s a p
      r.2.answer a.ini (.data r.1)
  | none =>
    if 0x10000000 ≤ addr ∧ addr < 0x10600000 then sramAccess s a .load addr size 0 []
    else if 0x60000000 ≤ addr ∧ addr < 0x60200000 then slotRead s a addr size []
    else if addr < 0x20000 then
      if !a.priv then busErr s a addr 0x0012
      else if !inRange addr size 0 0x20000 then busErr s a addr 0x0010
      else s.freeNext.answer a.ini (.data (s.freeVal % 2 ^ (8 * size)))
    else if 0x08000000 ≤ addr ∧ addr < 0x08001000 then
      if !a.priv then busErr s a addr 0x0012
      else if !inRange addr size 0x08000000 0x08001000 then busErr s a addr 0x0010
      else s.answer a.ini (.data (leNat (s.bytesAt addr size)))
    else if inRange addr size 0x70000000 0x80000000 then s.answer a.ini (.data (leNat (s.bytesAt addr size)))
    else busErr s a addr 0x0010

/-- A bus read. In a replay of the cores, reads outside CKC are answered from the recording (R458); in a recording that is not
lean, Owl records them (R446, R447), the half of the tick a free value (assumption 137). -/
def busRead (s : State) (a : Access) (addr size : Nat) : State :=
  match (if a.dbg || !outsideCkc addr then none else corePair a.ini) with
  | none => busReadRaw s a addr size
  | some p => if coreHeld s p then s else match replayCoreRead s p addr with
    | (s, some v) => s.answer a.ini (.data v)
    | (s, none) =>
      let s := busReadRaw s a addr size
      match (s.port a.ini).reply with
      | .data v => s.onIf (s.owlOn && s.get SYS_PROFILE_active != 0) (fun s =>
        (s.owlRec 0x08 p.val [addr + 2 ^ 38 * (s.freeVal % 2), v % 2 ^ 32]).freeNext)
      | _ => s

/-- The cores are replayed: their writes outside SRAM and the Lathe windows are discarded (R458). -/
def coreReplay (s : State) (i : Init) : Bool :=
  s.owl.replay.isSome && s.getB OWL_CFG_core_replay && (corePair i).isSome

/-- A bus write as the initiator meets it (R71 to R75). -/
def busWrite (s : State) (a : Access) (addr size v : Nat) : State :=
  if !a.dbg && (corePair a.ini).any (coreHeld s) then s
  else if coreReplay s a.ini && !a.dbg && !(decide (0x10000000 ≤ addr) && decide (addr < 0x10600000))
      && !(decide (0x60000000 ≤ addr) && decide (addr < 0x60200000)) then s.answer a.ini .none
  else match aperture addr with
  | some (ua, p) =>
    if !ua && !a.priv then busErr s a addr 0x0012
    else if ua && privTouch s p size v then busErr s a addr 0x0011
    else if size ≠ 4 ∨ addr % 4 ≠ 0 ∨ !(assigned.contains (blockOf p)) then busErr s a addr 0x0010
    else match regWrite s a ua p v with
      | (.ok, s) => s.answer a.ini .none
      | (.priv, s) => busErr s a addr 0x0011
  | none =>
    if 0x10000000 ≤ addr ∧ addr < 0x10600000 then sramAccess s a .store addr size v []
    else if 0x60000000 ≤ addr ∧ addr < 0x60200000 then slotWrite s a addr size v []
    else if addr < 0x20000 then busErr s a addr (if a.priv then 0x0010 else 0x0012)
    else if 0x08000000 ≤ addr ∧ addr < 0x08001000 then
      if !a.priv then busErr s a addr 0x0012
      else if !inRange addr size 0x08000000 0x08001000 then busErr s a addr 0x0010
      else (s.putBytes addr (leBytes size v)).answer a.ini .none
    else busErr s a addr 0x0010

/-! ### The commands that are register accesses -/

/-- A write of the register that holds field `f`, at its address in the privileged aperture. -/
def wrFld (s : State) (a : Access) (f : Fld) (i j v : Nat) : Out := live s (fun s => busWrite s a (f.at i j) 4 v)

/-- REGISTER_WRITE (R7). -/
def execRegisterWrite (a : Access) (addr size v : Nat) (s : State) : Out := live s (fun s => busWrite s a addr size v)
/-- REGISTER_READ (R10). -/
def execRegisterRead (a : Access) (addr size : Nat) (s : State) : Out := live s (fun s => busRead s a addr size)
/-- TS_LO_READ (R43). -/
def execTsLoRead (a : Access) (s : State) : Out := live s (fun s => busRead s a (CLK_TS_LO_ts.at 0 0) 4)
/-- SAT_CLEAR (R52). -/
def execSatClear (a : Access) (n : Ch) (v : Nat) (s : State) : Out := wrFld s a SPn_SAT_transform n.val 0 v
/-- PROFILE_REQUEST_WRITE (R30). -/
def execProfileRequestWrite (a : Access) (v : Nat) (s : State) : Out := wrFld s a SYS_PROFILE_request 0 0 v
/-- SEQ_SWTRIG (R86). -/
def execSeqSwtrig (a : Access) (q : Sq) (s : State) : Out := wrFld s a SEQn_SWTRIG_go q.val 0 1
/-- SEQ_DISABLE (R91). -/
def execSeqDisable (a : Access) (q : Sq) (v : Nat) (s : State) : Out := wrFld s a SEQn_CTL_en q.val 0 v
/-- INJECTION_START (R94 to R96). -/
def execInjectionStart (a : Access) (c : Cv) (k : Fin 4) (v : Nat) (s : State) : Out := wrFld s a CVc_INJk_start c.val k.val v
/-- CAL_FULL_REQUEST (R97, R102). -/
def execCalFullRequest (a : Access) (c : Cv) (s : State) : Out := wrFld s a CVc_CAL_full c.val 0 1
/-- SRC_RESTORE (R153). -/
def execSrcRestore (a : Access) (n : Ch) (v : Nat) (s : State) : Out := wrFld s a PIFn_CTL_en n.val 0 v

/-- The mode register of a carrier. -/
def carrWr (s : State) (a : Access) (r : Carr) (v : Nat) : Out := match r with
  | .ch n => wrFld s a CHn_CARR_en n.val 0 v
  | .aux k => wrFld s a LEGk_CARR_en (12 + k.val) 0 v

/-- CARRIER_ENABLE (R163, R170). -/
def execCarrierEnable (a : Access) (r : Carr) (v : Nat) (s : State) : Out := carrWr s a r v
/-- CARRIER_DISABLE (R163). -/
def execCarrierDisable (a : Access) (r : Carr) (v : Nat) (s : State) : Out := carrWr s a r v
/-- COMMIT_WRITE (R174). -/
def execCommitWrite (a : Access) (n : Ch) (v : Nat) (s : State) : Out := wrFld s a CHn_COMMIT_go n.val 0 v
/-- LEG_COMMIT (R178). -/
def execLegCommit (a : Access) (l : Fin 4) (v : Nat) (s : State) : Out := wrFld s a LEGk_COMMIT_go (12 + l.val) 0 v
/-- FLT_LATCH_CLEAR (R188). -/
def execFltLatchClear (a : Access) (v : Nat) (s : State) : Out := wrFld s a FLT_STAT_flt 0 0 v
/-- SWAP_REQUEST (R226). -/
def execSwapRequest (a : Access) (n : Ch) (v : Nat) (s : State) : Out := wrFld s a SPn_BANK_swap n.val 0 v
/-- SEAL_REQUEST (R212). -/
def execSealRequest (a : Access) (n : Ch) (v : Nat) (s : State) : Out := wrFld s a SPn_BANK_seal_req n.val 0 v
/-- KE_ABN_CLEAR (R260). -/
def execKeAbnClear (a : Access) (n : Ch) (v : Nat) (s : State) : Out := wrFld s a SPn_FLD_STAT_ke_abn n.val 0 v
/-- SWFAIL_WRITE (R281). -/
def execSwfailWrite (a : Access) (n : Ch) (v : Nat) (s : State) : Out := wrFld s a CHn_SWFAIL_hs n.val 0 v
/-- LINK_ENABLE (R284). -/
def execLinkEnable (a : Access) (l : Lnk) (v : Nat) (s : State) : Out := wrFld s a PRT_LNKl_CFG_en l.val 0 v
/-- WDG_KICK (R325). -/
def execWdgKick (a : Access) (c : Fin 3) (v : Nat) (s : State) : Out := wrFld s a BDG_WDG_KICKc_key c.val 0 v
/-- TLS_ENABLE (R346, R372). -/
def execTlsEnable (a : Access) (v : Nat) (s : State) : Out := wrFld s a TLS_CFG_en 0 0 v
/-- TLS_DISABLE (R372). -/
def execTlsDisable (a : Access) (v : Nat) (s : State) : Out := wrFld s a TLS_CFG_en 0 0 v
/-- SQ_TAIL_WRITE (R381). -/
def execSqTailWrite (a : Access) (q : Qp) (v : Nat) (s : State) : Out := wrFld s a QPq_SQ_tail q.val 0 v
/-- PLIC_CLAIM (R407). -/
def execPlicClaim (a : Access) (c : Fin 5) (s : State) : Out := live s (fun s => busRead s a (PLIC_CLAIM_src.at c.val 0) 4)
/-- PLIC_COMPLETE (R407). -/
def execPlicComplete (a : Access) (c : Fin 5) (v : Nat) (s : State) : Out := wrFld s a PLIC_CLAIM_src c.val 0 v
/-- METER_RESTORE (R436). -/
def execMeterRestore (a : Access) (v : Nat) (s : State) : Out := wrFld s a MTR_RESTORE_GO_go 0 0 v
/-- CVU_START (R437). -/
def execCvuStart (a : Access) (c : Fin 4) (v : Nat) (s : State) : Out := wrFld s a CVUc_CTL_start c.val 0 v
/-- CVU_ALIVE_CLR (R438). -/
def execCvuAliveClr (a : Access) (c : Fin 4) (v : Nat) (s : State) : Out := wrFld s a CVUc_CTL_alive_clr c.val 0 v
/-- CVU_DATA (R437): a write to the 8-, 16- or 32-bit data register. -/
def execCvuData (a : Access) (c : Fin 4) (w : Fin 3) (v : Nat) (s : State) : Out :=
  wrFld s a (if w = 0 then CVUc_DATA8_data else if w = 1 then CVUc_DATA16_data else CVUc_DATA32_data) c.val 0 v
/-- CVU_RESULT_READ (R437). -/
def execCvuResultRead (a : Access) (c : Fin 4) (s : State) : Out := live s (fun s => busRead s a (CVUc_RES_LO_crc.at c.val 0) 4)
/-- CVU_ALIVE (R438). -/
def execCvuAlive (a : Access) (c : Fin 4) (v : Nat) (s : State) : Out := wrFld s a CVUc_ALIVE_counter c.val 0 v
/-- OWL_OFFLOAD (R455): the words that the offload reads may be found erroneous (R65, R66). -/
def execOwlOffload (a : Access) (v : Nat) (errs : WordErrs) (s : State) : Out :=
  live s (fun s =>
    let t := busWrite s a (OWL_ETH_go.at 0 0) 4 v
    t.onIf (t.getB OWL_ETH_busy && !s.getB OWL_ETH_busy) (fun t =>
      owlSend (eccReads t 2 7 (fun w => decide (w < 16) || (ringFrom t (t.get OWL_OLDEST_idx)).any (fun e => e.1 == w)) errs)))
/-- OWL_LOAD_STORE (R456). -/
def execOwlLoadStore (a : Access) (v : Nat) (s : State) : Out := wrFld s a OWL_LOAD_D2_data 0 0 v
/-- REPLAY_ABORT (R459). -/
def execReplayAbort (a : Access) (v : Nat) (s : State) : Out := wrFld s a OWL_CTL_rp_abort 0 0 v
/-- PWR_RESET (R466). -/
def execPwrReset (a : Access) (v : Nat) (s : State) : Out := wrFld s a PWR_RESET_key 0 0 v
/-- SHUTDOWN_REQUEST (R472). -/
def execShutdownRequest (a : Access) (v : Nat) (s : State) : Out := wrFld s a PWR_CTL_shutdown 0 0 v
/-- EPOCH_ADVANCE (R492). -/
def execEpochAdvance (a : Access) (v : Nat) (s : State) : Out := wrFld s a LCS_EPOCH_advance 0 0 v
/-- KEY_PROGRAM (R487). -/
def execKeyProgram (a : Access) (v : Nat) (s : State) : Out := wrFld s a LCS_KPROG_go 0 0 v
/-- BIST_MANUAL (R476). -/
def execBistManual (a : Access) (v : Nat) (s : State) : Out := wrFld s a BIST_CTL_go 0 0 v

/-- OWL_OFFLOAD_DONE (R455): the final datagram with count 0 has left. -/
def execOwlOffloadDone (s : State) : Out :=
  live s (fun s => s.onIf (s.getB OWL_ETH_busy) (fun s =>
    let b := leBytes 4 0 ++ leBytes 2 0 ++ leBytes 2 s.owl.sent.length ++ devIdBytes
    let d := b ++ leBytes 4 (crc32c b)
    let s := { s with owl := { s.owl with sent := s.owl.sent ++ [d] } }
    let s := netSend (netSend s 3 d) 4 (leBytes 4 (s.get OWL_ETH_DST_addr) ++ leBytes 2 (s.get OWL_ETH_port))
    (s.put OWL_ETH_busy 0).logEv 0x7C07))

/-- CONFIG_DIGEST_UPDATE (R451). -/
def execConfigDigestUpdate (s : State) : Out := live s digestUpdate

end Sys2Proof.Machine
end

