-- ==== Sys2Proof/Machine/FplOps.lean ====
section
/-! DEFINITION. The operations that the MP executes (R382 to R395): one function per opcode of R393, how the MP takes and
completes a command, and the commands of the table that are these operations. -/

namespace Sys2Proof.Machine

/-! ### The MP (R318, R333, R385, R490) -/

/-- The MP runs its firmware: HOLD has not reset it. -/
def mpRuns (s : State) : Bool := !s.bdg.holds.testBit 6 && !s.bdg.mpDead

/-- The MP serves the command: in DEV_SAFE it keeps answering GET_STATUS and GET_EVENTS, after a failed start-up BIST also
BIST_REPORT and LC_QUERY, and after BOOT_FAIL only GET_STATUS, LC_QUERY and FW_UPDATE on QP0 (R333, R470, R490; assumption 70). -/
def mpAnswers (s : State) (c : Ctx) : Bool :=
  if s.get BDG_STATE_unit = 2 then
    c.opcode == 0x02 || c.opcode == 0x03 || (s.getB PWR_STAT_bist_fail && (c.opcode == 0xF0 || c.opcode == 0xC0))
  else if s.pwr.stage = 7 then c.q.val == 0 && (c.opcode == 0x02 || c.opcode == 0xC0 || c.opcode == 0xC2)
  else true

/-- The status with which a command is turned away when the MP takes it; 0 where it is executed. -/
def opRefusal (s : State) (c : Ctx) (p : List Nat) : Nat :=
  if !lenMatches c.opcode p then 0x11
  else if admission s c != 0 then admission s c
  else if mpAnswers s c then 0 else 0x22

/-- The MP executes an operation and writes its completion (R380); after a device reset that the operation made there is
none. -/
def opGo (s : State) (c : Ctx) (p : List Nat) (f : State → Ctx → List Nat → OpRes) : State :=
  let st := opRefusal s c p
  if st ≠ 0 then complete s c st
  else match f s c p with
    | (some r, t) => if t.pwr.stage = 1 ∧ s.pwr.stage ≠ 1 then t else complete t c r.1 r.2
    | (none, t) => t

/-- A command of the table that is the execution of one opcode by the MP. -/
def opRow (op : Nat) (f : State → Ctx → List Nat → OpRes) (c : Ctx) (p : List Nat) (s : State) : Out :=
  faced s (fun s => s.onIf (mpRuns s) (fun s => opGo s { c with opcode := op } p f))

/-- An operation whose answer is a status. -/
def opStat (r : Nat × State) : OpRes := opDone r.1 [] r.2

/-- How the MP accesses the bus. -/
def mpAccess (prv : Bool) : Access := ⟨.mp, prv, false⟩

/-! ### Status and events -/

/-- NOP. -/
def opNop (s : State) (_c : Ctx) (_p : List Nat) : OpRes := opDone 0 [] s

/-- What GET_EVENTS returns of an event of which only the mirror is left. -/
def evFromMirror (e : Event) : List Nat :=
  leBytes 4 e.seq ++ leBytes 4 e.ts ++ [0, 0, 0, 0] ++ leBytes 2 e.code ++ [0, 0, evPay e 0, evPay e 1, 0, 0, 0, 0, 0, 0]

/-- GET_EVENTS (R393, R472, R528): from the first sequence asked for, or from the oldest entry held where that has been
overwritten. -/
def opGetEvents (s : State) (_c : Ctx) (p : List Nat) : OpRes :=
  let cnt := p.getD 4 0
  if cnt = 0 ∨ 9 < cnt then opDone 0x14 [] s
  else
    let bist := shutBist s
    let ring := if bist then s.log.ring.take 16 else s.log.ring
    let next := s.get FPL_EVT_SEQ_seq
    let ask : Nat := (next + 2 ^ 32 - leAt p 0 4 % 2 ^ 32) % 2 ^ 32
    let gone := decide (ring.length < ask) && decide (ask < 2 ^ 31)
    let avail := if 2 ^ 31 ≤ ask then 0 else min ask ring.length
    let l := ((ring.take avail).reverse).take cnt
    let n := (next + 2 ^ 32 - avail + l.length) % 2 ^ 32
    opDone 0 (leBytes 4 n ++ [l.length, if gone then 1 else 0, 0, 0] ++ l.flatMap (if bist then evFromMirror else evBytes)) s

/-! ### Sessions (R382, R383, R527) -/

/-- 10 s in ticks. -/
def tk10s : Nat := 4000000000

/-- CHALLENGE is barred on a transport. -/
def barred (s : State) (t : Nat) : Bool := s.fpl.bars.any (fun b => b.1 == t && decide (s.now < b.2 + tk10s))

/-- Class, depth and BULK within their ranges. -/
def sessionOk (p : List Nat) : Bool := decide (p.getD 1 0 ≤ 3) && decide (p.getD 2 0 ≤ 8) && decide (p.getD 3 0 ≤ 1)

/-- A queue number and ring space for a new queue: the status where one lacks. -/
def sessionRoom (s : State) (p : List Nat) : Nat ⊕ (Qp × Nat) :=
  if !sessionOk p then .inl 0x14
  else match qFree s with
    | none => .inl 0x12
    | some q => match ringAlloc s (512 * 2 ^ p.getD 2 0) with
      | none => .inl 0x32
      | some a => .inr (q, a)

/-- SESSION_OPEN in mode OPEN_U (R382): on a core's queue the new one takes P where the packet executes as P. -/
def opOpenU (s : State) (c : Ctx) (p : List Nat) : OpRes :=
  let t := qTrans s c.q
  match sessionRoom s p with
  | .inl st => opDone st [] s
  | .inr (q, a) =>
    let s := qSetup s q t (decide (4 ≤ t) && c.priv) p a
    opDone 0 [q.val] (qOpenNow s q none s.fpl.qps[c.q].src)

/-- SESSION_OPEN in mode CHALLENGE (R382): the nonce is 16 free values. -/
def opChallenge (s : State) (c : Ctx) (p : List Nat) : OpRes :=
  let t := qTrans s c.q
  if barred s t then opDone 0x20 [] s
  else match sessionRoom s p with
    | .inl st => opDone st [] s
    | .inr (q, a) =>
      let nonce := (List.range 16).map (fun k => Config.freeValue (s.free + k) % 256)
      let s := qSetup { s with free := s.free + 16 } q t true p a
      opDone 0 (q.val :: nonce) { s with fpl := { s.fpl with reserves := ⟨q.val, nonce, t, p⟩ :: s.fpl.reserves } }

/-- An OPEN_P fails (R382): the reservation goes, PRIV_FAIL is logged, and the third failure within 10 s bars the transport. -/
def openFail (s : State) (t : Nat) (q : Option Nat) : State :=
  let s := match q with
    | some q => reserveEnd s q
    | none => s
  let s := s.logEv 0x6007 [t]
  let mine := (t, s.now) :: s.fpl.fails.filter (fun f => f.1 == t && decide (s.now < f.2 + tk10s))
  let rest := s.fpl.fails.filter (fun f => f.1 != t)
  if 3 ≤ mine.length then
    { s with fpl := { s.fpl with fails := rest, bars := (t, s.now) :: s.fpl.bars.filter (fun b => b.1 != t) } }
  else { s with fpl := { s.fpl with fails := mine ++ rest } }

/-- SESSION_OPEN in mode OPEN_P (R382): it concerns the latest CHALLENGE of its transport, whose parameters the queue has
(DESIGN CHOICE, assumption 92). -/
def opOpenP (s : State) (c : Ctx) (p : List Nat) : OpRes :=
  let t := qTrans s c.q
  if !sessionOk p then opDone 0x14 [] s
  else match s.fpl.reserves.find? (fun r => r.transport == t) with
    | none => opDone 0x20 [] (openFail s t none)
    | some r =>
      match aesKey s (p.getD 8 0) 3 with
      | none => opDone 0x20 [] (openFail s t (some r.q))
      | some key =>
        if (p.drop 9).take 16 != aesCmac key (r.nonce ++ devIdBytes ++ [r.q, 1]) then opDone 0x20 [] (openFail s t (some r.q))
        else
          let ses := aesCmac key (r.nonce ++ devIdBytes ++ [r.q, 2])
          opDone 0 [r.q] (qOpenNow (reserveEnd s r.q) (qpOf r.q) (some ses) s.fpl.qps[c.q].src)

/-- SESSION_OPEN in the mode that its first parameter names. -/
def opSession (s : State) (c : Ctx) (p : List Nat) : OpRes :=
  match p.headD 0 with
  | 0 => opOpenU s c p
  | 1 => opChallenge s c p
  | 2 => opOpenP s c p
  | _ => opDone 0x14 [] s

/-- SESSION_CLOSE (R383): the rights first, then the bootstrap queues. -/
def opSessionClose (s : State) (c : Ctx) (p : List Nat) : OpRes :=
  let q := qpOf (p.headD 0)
  let t := qTrans s c.q
  let mine := decide (p.headD 0 < 64) && qOpen s q && qTrans s q == t && (c.priv || !s.getB QPq_CFG_priv q.val)
  if decide (t < 4) && !mine then opDone 0x20 [] s
  else if qBoot q || 63 < p.headD 0 || !qOpen s q then opDone 0x22 [] s
  else opDone 0 [] (qClose s q)

/-! ### Profile, channels, set points -/

/-- SET_PROFILE (R30). -/
def opSetProfile (s : State) (c : Ctx) (p : List Nat) : OpRes :=
  if 3 < p.headD 0 then opDone 0x14 [] s
  else
    let r := profRequest s (p.headD 0)
    if r.1 = 0 then opDone 0 [] r.2 else if r.1 = 1 then opWait r.2 c p else opDone 0x22 [] r.2

/-- CH_ENABLE (R272). -/
def opChEnable (s : State) (c : Ctx) (_p : List Nat) : OpRes := opStat (chEnable s (chOf c.chan))
/-- CH_CLEAR_FAULT (R273). -/
def opChClearFault (s : State) (c : Ctx) (_p : List Nat) : OpRes := opStat (chClearFault s (chOf c.chan))
/-- CH_DISCHARGE (R293). -/
def opChDischarge (s : State) (c : Ctx) (_p : List Nat) : OpRes := opStat (chDischarge s (chOf c.chan))
/-- CH_PRECHARGE (R292). -/
def opChPrecharge (s : State) (c : Ctx) (_p : List Nat) : OpRes := opStat (chPrecharge s (chOf c.chan))

/-- An X image: bytes 0 to 7 of a slot (R53). -/
def xImage (p : List Nat) (i : Nat) : Int := ofField 64 (leAt p i 8)

/-- The MP writes a word of a spindle's window, which passes Chuck as an agreed input (R309, R394); a replayed spindle does not
receive it (R458). -/
def mpWord (s : State) (n : Ch) (w : Nat) (x : Int) : State :=
  if s.replayed n.val then s else toChuck s (2 + n.val) (.core 0 n.val (w + 2 ^ 40 * toField 36 (sat36 x)))

/-- A set point is given to the target of generator g. A standby takes targets through checkpoints alone (R358). -/
def setTarget (s : State) (n : Ch) (g : Nat) (x : Int) : State := s.onIf (!isStandby s) (fun s => mpWord s n (0x840 + 8 * g) x)

/-- Slot g of a channel owns its target (R390). -/
def slotOwns (s : State) (n : Ch) (g : Nat) : Bool := s.getBit FPL_SLOTn_en g n.val

/-- SET_TORQUE (R390). -/
def opSetTorque (s : State) (c : Ctx) (p : List Nat) : OpRes :=
  let n := chOf c.chan
  if slotOwns s n 1 then opDone 0x22 [] s else opDone 0 [] (setTarget s n 1 (xImage p 0))

/-- SET_SPEED (R390). -/
def opSetSpeed (s : State) (c : Ctx) (p : List Nat) : OpRes :=
  let n := chOf c.chan
  let two := p.length == 16
  if slotOwns s n 2 || (two && slotOwns s n 3) then opDone 0x22 [] s
  else opDone 0 [] ((setTarget s n 2 (xImage p 0)).onIf two (fun s => setTarget s n 3 (xImage p 8)))

/-- SET_LIMITS (R245). -/
def opSetLimits (s : State) (c : Ctx) (p : List Nat) : OpRes :=
  let x := xImage p 0
  if x < 0 ∨ 2 ^ 35 < x then opDone 0x14 [] s
  else opDone 0 [] (s.modFld (chOf c.chan) (fun f => { f with tSet := some (sat36 x) }))

/-- SET_RAMP_LIMITS (R230): v_max, a_max and j_max; a negative limit is out of range (DESIGN CHOICE, assumption 93). -/
def opSetRampLimits (s : State) (c : Ctx) (p : List Nat) : OpRes :=
  let g := p.headD 0
  let l := [xImage p 8, xImage p 16, xImage p 24]
  if 3 < g || l.any (fun x => decide (x < 0)) then opDone 0x14 [] s
  else opDone 0 [] (s.forL l.zipIdx (fun e s => mpWord s (chOf c.chan) (0x841 + 8 * g + e.2) e.1))

/-! ### Registers (R394) -/

/-- An address that CFG_WRITE and CFG_READ reach. Another completes with BAD_PARAM and makes no access: no BUS_ERROR event, no
`SYS_BUSERR_ADDR` (DESIGN CHOICE, assumption 128). -/
def cfgAddr (a : Nat) : Bool := decide (0x40000000 ≤ a) && decide (a < 0x40800000) && a % 4 == 0 && assigned.contains (blockOf a)

/-- The MP reads a register with a packet's privilege. -/
def cfgGet (s : State) (prv : Bool) (a : Nat) : Nat × State :=
  if !prv && aliasZero a then (0, s) else regRead s (mpAccess prv) a

/-- The bits that the read-back compares: those of no W1C, W1S, WO or RC field. -/
def cfgMask (a : Nat) : Nat := match regOf a with
  | none => 0
  | some (r, _, _) => 2 ^ 32 - 1 - ((r.flds.filter (fun f => f.acc != .rw && f.acc != .ro)).map (fun f => (2 ^ f.width - 1) * 2 ^ f.lsb)).sum

/-- A write is a locked write (R9, R30). -/
def cfgLocked (s : State) (a v : Nat) : Bool := match regOf a with
  | none => false
  | some (r, i, j) =>
    let w : Wr := ⟨r, i, j, v % 2 ^ 32⟩
    !(lockedFlds s w).isEmpty
      || (w.is SYS_PROFILE_request && s.dev.cfgLock && w.bits SYS_PROFILE_request != s.get SYS_PROFILE_request)

/-- One write of CFG_WRITE: its status. A locked write answers DENIED_STATE also where it selects a grid mode on a ZLX960-TA (DESIGN
CHOICE, assumption 126). -/
def cfgPut (s : State) (prv : Bool) (a v : Nat) : Nat × State :=
  if !cfgAddr a then (0x14, s)
  else
    let locked := cfgLocked s a v
    match regWrite s (mpAccess prv) (!prv) a v with
    | (.priv, s) => (0x20, busErr s (mpAccess prv) (a + 0x10000000) 0x0011)
    | (.ok, s) =>
      if locked then (0x22, s)
      else
        let r := cfgGet s prv a
        (if r.1 &&& cfgMask a = v % 2 ^ 32 &&& cfgMask a then 0 else 0x14, r.2)

/-- The writes in order, up to the first failure or a device reset: the status and how many were performed. -/
def cfgPuts (prv : Bool) : List (Nat × Nat) → Nat → State → Nat × Nat × State
  | [], n, s => (0, n, s)
  | (a, v) :: t, n, s =>
    let r := cfgPut s prv a v
    if r.2.pwr.stage = 1 ∧ s.pwr.stage ≠ 1 then (0, n + 1, r.2)
    else if r.1 = 0 then cfgPuts prv t (n + 1) r.2 else (r.1, n, r.2)

/-- CFG_WRITE; the count is returned with every status (DEDUCED, assumption 94). -/
def opCfgWrite (s : State) (c : Ctx) (p : List Nat) : OpRes :=
  let k := p.headD 0
  if k = 0 ∨ 28 < k then opDone 0x14 [] s
  else
    let r := cfgPuts c.priv ((List.range k).map (fun i => (leAt p (4 + 8 * i) 4, leAt p (8 + 8 * i) 4))) 0 s
    opDone r.1 [r.2.1] r.2.2

/-- CFG_READ. -/
def opCfgRead (s : State) (c : Ctx) (p : List Nat) : OpRes :=
  let k := p.headD 0
  let l := (List.range k).map (fun i => leAt p (4 + 4 * i) 4)
  if k = 0 ∨ 57 < k ∨ !l.all cfgAddr then opDone 0x14 [] s
  else
    let r := l.foldl (fun (r : List Nat × State) a =>
      let g := cfgGet r.2 c.priv a
      (r.1 ++ leBytes 4 g.1, g.2)) ([], s)
    opDone 0 r.1 r.2

/-- CFG_LOCK (R9). -/
def opCfgLock (s : State) (_c : Ctx) (_p : List Nat) : OpRes := opDone 0 [] { s with dev := { s.dev with cfgLock := true } }

/-! ### Coefficients (R211, R226) -/

/-- COEF_LOAD (R211). -/
def opCoefLoad (s : State) (c : Ctx) (p : List Nat) : OpRes :=
  let n := chOf c.chan
  let b := p.headD 0
  let first := leAt p 2 2
  let k := p.getD 4 0
  if 1 < b ∨ k = 0 ∨ 24 < k ∨ 0x400 < first + k then opDone 0x14 [] s
  else
    let w (i : Nat) : Nat := b * 0x400 + first + i
    match (List.range k).find? (fun i => (wordWrite s n (w i)).isNone) with
    | some i => opDone 0x22 [] (s.logEv 0x3103 [n.val, w i])
    | none =>
      let s := s.forN k (fun i s => wordFromBus s (spWord n.val (w i)) (wordAt p (8 + 9 * i)))
      opDone 0 [] (s.onIf ((p.getD 1 0).testBit 0) (fun s => sealRequest s n))

/-- COEF_SWAP (R226). -/
def opCoefSwap (s : State) (c : Ctx) (_p : List Nat) : OpRes :=
  let n := chOf c.chan
  let st := match swapRefusal s n with
    | 0 => 0
    | 1 => 0x22
    | _ => 0x14
  opDone st [] (swapRequest s n)

/-- COEF_READ (R393) that meets these erroneous codewords (R65, R66): the first word counts within its area (DEDUCED, assumption 93); an
uncorrectable word gives no data, and the command completes with BAD_PARAM (DESIGN CHOICE, assumption 132). -/
def coefReadWith (errs : WordErrs) (s : State) (c : Ctx) (p : List Nat) : OpRes :=
  let area := p.headD 0
  let first := leAt p 2 2
  let k := p.getD 4 0
  let size := if area = 2 then 0x100 else 0x400
  if 2 < area ∨ k = 0 ∨ 25 < k ∨ size < first + k then opDone 0x14 [] s
  else
    let l := (List.range k).map (fun i => spWord (chOf c.chan).val (area * 0x400 + first + i))
    let s := eccReads s 1 2 (fun w => l.contains w) errs
    if l.any (isUe s 1) then opDone 0x14 [] s else opDone 0 (l.flatMap (fun w => wordImage (s.lwRead w))) s

/-- COEF_READ of words without errors. -/
def opCoefRead : State → Ctx → List Nat → OpRes := coefReadWith []

/-! ### Converters -/

/-- CV_CALIBRATE (R97, R102); mode 1 begins the background cycle again. -/
def opCvCalibrate (s : State) (_c : Ctx) (p : List Nat) : OpRes :=
  let cv := cvOf (p.headD 0)
  if 7 < p.headD 0 ∨ 1 < p.getD 1 0 then opDone 0x14 [] s
  else if p.getD 1 0 = 1 then opDone 0 [] ((s.put CVc_CAL_bg_slice 0 cv.val).put CVc_CAL_bg_busy 0 cv.val)
  else if s.getB CVc_CAL_full cv.val then opDone 0x42 [] s
  else if feedsRunning s cv && !s.getB CVc_CFG_partner_en cv.val then opDone 0x22 [] s
  else opDone 1 [] (calRequest s cv)

/-- CV_INJECT (R94 to R96): it completes when the injection has ended. -/
def opCvInject (s : State) (c : Ctx) (p : List Nat) : OpRes :=
  let cv := cvOf (p.headD 0)
  let k : Fin 4 := ⟨p.getD 1 0 % 4, Nat.mod_lt _ (by omega)⟩
  let input := p.getD 2 0
  let log2n := p.getD 3 0
  let shift := p.getD 4 0
  if 7 < p.headD 0 || 3 < p.getD 1 0 || !windowOk shift log2n input then opDone 0x14 [] s
  else if s.getB CVc_INJk_start cv.val k.val then opDone 0x32 [] s
  else
    let s := (s.put CVc_INJk_input input cv.val k.val).put CVc_INJk_log2n log2n cv.val k.val
    let s := (s.put CVc_INJk_shift shift cv.val k.val).putB CVc_INJk_urgent ((p.getD 5 0).testBit 0) cv.val k.val
    opWait (injRequest s cv k) c p

/-- The inputs that a mask of CV_OPEN_WIRE_TEST names. -/
def owInputs (p : List Nat) : List Ain := (List.finRange 48).filter (fun i => (leAt p 0 6).testBit i.val)

/-- An input feeds a channel in RUN or STOPPING. -/
def inputRuns (s : State) (i : Ain) : Bool := (List.range 4).any (fun n => s.chRuns n && inputFeeds s i n)

/-- CV_OPEN_WIRE_TEST (R112): it completes when the last test has ended. -/
def opCvOpenWire (s : State) (c : Ctx) (p : List Nat) : OpRes :=
  if (owInputs p).any (inputRuns s) then opDone 0x22 [] s
  else opWait (s.forL (owInputs p) (fun i s => s.onIf (s.cvb.cmps[i].ow == .idle) (fun s => owStart s i))) c p

/-- The results of the inputs' last tests, two bits each. -/
def owResults (s : State) : List Nat :=
  leBytes 12 (((List.range 48).map (fun i => s.get CMPi_STAT_ow i * 4 ^ i)).sum)

/-! ### Position -/

/-- POS_HOME (R131). -/
def opPosHome (s : State) (c : Ctx) (_p : List Nat) : OpRes :=
  let n := chOf c.chan
  if srcCodeOf s n true != 1 || !s.getB PIFn_CTL_z_en n.val then opDone 0x14 [] s else opDone 0 [] (posHome s n)

/-- POS_SET (R131). -/
def opPosSet (s : State) (c : Ctx) (p : List Nat) : OpRes :=
  let n := chOf c.chan
  if srcCodeOf s n true != 1 || decide (s.get PIFn_GEOM_cpr n.val ≤ leAt p 4 4) then opDone 0x14 [] s
  else opDone 0 [] (posSet s n (leAt p 0 4) (leAt p 4 4))

/-! ### Fragments (R395) -/

/-- A fragment is added to its queue's assembly; the last one hands the whole to `fin`. The block length does not count the
CRC at the end (DEDUCED, assumption 95). -/
def opFragment (s : State) (c : Ctx) (p : List Nat) (fin : State → List Nat → Nat → OpRes) : OpRes :=
  let len := leAt p 0 2
  let cur := match s.fpl.qps[c.q].asm with
    | some (op, l, d) => if op = c.opcode then some (l, d) else none
    | none => none
  let off := (cur.map (fun x => x.2.length)).getD 0
  let drop (s : State) : State := s.modQp c.q (fun x => { x with asm := none })
  if leAt p 2 2 != off || cur.any (fun x => x.1 != len) then opDone 0x14 [] (drop s)
  else
    let d := (cur.map Prod.snd).getD [] ++ p.drop 8
    if !(p.getD 4 0).testBit 0 then opDone 0 [] (s.modQp c.q (fun x => { x with asm := some (c.opcode, len, d) }))
    else if d.length != len + 4 then opDone 0x14 [] (drop s)
    else fin (drop s) (d.take len) (leAt d len 4)

/-- PRT_CONFIG (R326, R358): it completes once the block is in force. -/
def opPrtConfig (s : State) (c : Ctx) (p : List Nat) : OpRes :=
  if isStandby s then opDone 0x22 [] s
  else opFragment s c p (fun s b crc =>
    let r := stageBlock s b crc
    if r.1 = 0 then opWait r.2 c p else opDone r.1 [] r.2)

/-- FW_UPDATE (R491). -/
def opFwUpdate (s : State) (c : Ctx) (p : List Nat) : OpRes :=
  if !allOff s || s.pwr.fw.isSome then opDone 0x22 [] s
  else opFragment s c p (fun s b crc =>
    if crc32c b != crc || (imageOk s b).isNone then opDone 0x10 [] s
    else opDone 1 [] (s.modPwr (fun q => { q with fw := some b })))

/-! ### Protection, meter -/

/-- A fault source that R332 defines. -/
def srcDefined (k : Nat) : Bool :=
  if k < 0x40 then !(decide (0x13 ≤ k) && decide (k ≤ 0x17)) && !([0x36, 0x37, 0x3E, 0x3F].contains k)
  else decide (k < 192) && decide ((k - 0x40) % 0x20 < 24)

/-- PRT_TEST (R393): a pulse is refused while a channel runs or a pulse is under way (DESIGN CHOICE, assumption 96). The outcome
of a comparator test is the pair's CMP_SELFTEST. -/
def opPrtTest (s : State) (_c : Ctx) (p : List Nat) : OpRes :=
  let k := p.getD 1 0
  match p.headD 0 with
  | 1 => if srcDefined k then opDone 0 [] (s.raise k 0) else opDone 0x14 [] s
  | 2 =>
    if 1 < k then opDone 0x14 [] s
    else if (List.range 4).any s.chRuns || s.bdg.pulse.isSome then opDone 0x22 [] s
    else opDone 0 [] ((safeEnLow s k).modBdg (fun b => { b with pulse := some k }))
  | 3 => opDone (if k < 6 then 0 else 0x14) [] s
  | _ => opDone 0x14 [] s

/-- MTR_READ. -/
def opMtrRead (s : State) (_c : Ctx) (_p : List Nat) : OpRes :=
  opDone 0 ((List.range 4).flatMap (fun k => leBytes 8 (total s k)) ++ leBytes 8 s.now ++ packId s ++ leBytes 4 (s.get MTR_SEQ_seq)) s

/-- LEDGER_FETCH (R434). -/
def opLedgerFetch (s : State) (_c : Ctx) (p : List Nat) : OpRes :=
  let k := p.getD 4 0
  let l := (List.range k).map (fun i => s.mtr.records.find? (fun r => r.1 == (leAt p 0 4 + i) % 2 ^ 32))
  if k = 0 ∨ 3 < k ∨ l.any Option.isNone then opDone 0x14 [] s
  else opDone 0 (l.flatMap (fun r => (r.map Prod.snd).getD [])) s

/-- MTR_CAL (R430): an offset beyond its field is out of range. -/
def opMtrCal (s : State) (_c : Ctx) (p : List Nat) : OpRes :=
  let q := p.headD 0
  let ofs := ofField 32 (leAt p 8 4)
  if 1 < q ∨ ofs < -32768 ∨ 32767 < ofs then opDone 0x14 [] s
  else
    let t := if q = 0 then (s.put MTR_VGAIN_gain (leAt p 4 4)).putS MTR_OFS_v_ofs ofs
      else (s.put MTR_IGAIN_gain (leAt p 4 4)).putS MTR_OFS_i_ofs ofs
    opDone 0 [] (t.onIf (mtrWatched.any (fun f => t.get f != s.get f)) (fun s => (mtrFlag s 4).logEv 0x7804))

/-! ### Owl (R449 to R457) -/

/-- OWL_ARM (R449). -/
def opOwlArm (s : State) (_c : Ctx) (p : List Nat) : OpRes :=
  if 1 < p.headD 0 then opDone 0x14 [] s
  else if s.get OWL_STAT_state = 4 then opDone 0x22 [] s
  else opDone 0 [] (owlArm (((s.put OWL_CTL_mode (p.headD 0)).put OWL_CTL_pre (p.getD 1 0)).put OWL_TRIG_MASK_mask (leAt p 4 4)))

/-- OWL_TRIGGER (R452). -/
def opOwlTrigger (s : State) (_c : Ctx) (_p : List Nat) : OpRes :=
  if s.get OWL_STAT_state != 1 then opDone 0x22 [] s else opDone 0 [] (s.owlTrig 0)

/-- A word that OWL_FETCH may begin with (R454). -/
def owlValid (s : State) (i : Nat) : Bool :=
  let o := s.get OWL_OLDEST_idx
  let w := s.get OWL_STAT_wptr
  decide (i < 16) || (decide (i < 524288) && (if o ≤ w then decide (o ≤ i) && decide (i < w) else decide (o ≤ i) || decide (i < w)))

/-- The completions of a BULK fetch of `k` words from `i`, as far as the completion ring has space; what is left to fetch. -/
def owlBulk (c : Ctx) : Nat → State → Nat → Nat → State × Option (Nat × Nat)
  | 0, s, i, k => (s, some (i, k))
  | f + 1, s, i, k =>
    if cqLen s c.q = qDepth s c.q then (s, some (i, k))
    else
      let l := owlSpan (s.get OWL_STAT_wptr) (min k 25) i
      let j := owlAfter (l.getLastD i)
      let done := decide (k ≤ 25) || decide (l.length < 25) || j == s.get OWL_STAT_wptr
      let s := complete s c 0 (l.flatMap (owlBytes s)) (!done)
      if done then (s, none) else owlBulk c f s j (k - 25)

/-- A BULK fetch goes on. -/
def owlFetchOn (s : State) (c : Ctx) (i k : Nat) : State :=
  let s := { s with fpl := { s.fpl with running := s.fpl.running.filter (fun r => r.ctx != c) } }
  match owlBulk c 2622 s i k with
  | (s, none) => s
  | (s, some (j, m)) => (opWait s c (leBytes 4 j ++ leBytes 2 m)).2

/-- OWL_FETCH (R454) that meets these erroneous codewords (R65, R66). -/
def owlFetchWith (errs : WordErrs) (s : State) (c : Ctx) (p : List Nat) : OpRes :=
  let i := leAt p 0 4
  let k := leAt p 4 2
  let bulk := s.getB QPq_CFG_bulk c.q.val
  if k = 0 || (!bulk && decide (25 < k)) || !owlValid s i then opDone 0x14 [] s
  else
    let s := eccReads s 2 7 (fun w => owlValid s w) errs
    if bulk then (none, owlFetchOn s c i k)
    else opDone 0 ((owlSpan (s.get OWL_STAT_wptr) k i).flatMap (owlBytes s)) s

/-- OWL_FETCH of words without errors. -/
def opOwlFetch : State → Ctx → List Nat → OpRes := owlFetchWith []

/-- REPLAY_START (R457). -/
def opReplayStart (s : State) (_c : Ctx) (p : List Nat) : OpRes :=
  opStat (replayBegin s (leAt p 0 4) ((p.getD 4 0).testBit 0))

/-! ### Pairing -/

/-- The MP reads registers one after another. -/
def regReads : List Nat → List Nat → State → List Nat × State
  | [], r, s => (r, s)
  | a :: t, r, s =>
    let g := regRead s (mpAccess true) a
    regReads t (r ++ leBytes 4 g.1) g.2

/-- PAIR_STATUS (R369): the MP reads the four registers over the bus (DEDUCED, assumption 97). -/
def opPairStatus (s : State) (_c : Ctx) (_p : List Nat) : OpRes :=
  let r := regReads ([TLS_STAT_role, TLS_CNT_tko_cnt, TLS_ALIGN_err, TLS_LAST_TKO_gap].map Fld.addr) [] s
  opDone 0 r.1 r.2

/-- PAIR_ROLE (R365): it completes when the handover has ended. -/
def opPairRole (s : State) (c : Ctx) (p : List Nat) : OpRes :=
  if p.headD 0 != 2 then opDone 0x14 [] s
  else if tlsRole s != 1 || s.get TLS_STAT_peer_ready != 2 || s.tls.handoff != 0 then opDone 0x22 [] s
  else opWait (s.modTls (fun t => { t with handoff := 1 })) c p

/-- PAIR_REJOIN (R369). -/
def opPairRejoin (s : State) (_c : Ctx) (_p : List Nat) : OpRes :=
  if s.getB TLS_CFG_en && (tlsRole s == 0 || (tlsRole s == 2 && s.get TLS_STAT_ready == 3)) then opDone 0 [] (settleRole s)
  else opDone 0x22 [] s

/-! ### Diagnosis -/

/-- The values that DIAG_PEEK reads; none where a read ends in a bus error. The MP reads as software does, so RC fields clear (DESIGN
CHOICE, assumption 129). -/
def peekAll : Nat → Nat → List Nat → State → Option (List Nat) × State
  | 0, _, l, s => (some l, s)
  | k + 1, a, l, s =>
    let s := busReadRaw s (mpAccess true) a 4
    match (s.port .mp).reply with
    | .data v => peekAll k (a + 4) (l ++ leBytes 4 v) s
    | _ => (none, s)

/-- DIAG_PEEK (R393, R485). -/
def opDiagPeek (s : State) (_c : Ctx) (p : List Nat) : OpRes :=
  let k := p.getD 4 0
  if k = 0 ∨ 57 < k then opDone 0x14 [] s
  else match peekAll k (leAt p 0 4) [] s with
    | (some l, s) => opDone 0 l s
    | (none, s) => opDone 0x14 [] s

/-! ### All opcodes -/

/-- The operation of an opcode that the MP executes. -/
def opOf (op : Nat) : State → Ctx → List Nat → OpRes :=
  match op with
  | 0x01 => opNop
  | 0x03 => opGetEvents
  | 0x04 => opSession
  | 0x05 => opSessionClose
  | 0x06 => opSetProfile
  | 0x10 => opChEnable
  | 0x13 => opChClearFault
  | 0x14 => opChDischarge
  | 0x15 => opChPrecharge
  | 0x20 => opSetTorque
  | 0x21 => opSetSpeed
  | 0x22 => opSetLimits
  | 0x23 => opSetRampLimits
  | 0x30 => opCfgWrite
  | 0x31 => opCfgRead
  | 0x32 => opCfgLock
  | 0x40 => opCoefLoad
  | 0x41 => opCoefSwap
  | 0x42 => opCoefRead
  | 0x50 => opCvCalibrate
  | 0x51 => opCvInject
  | 0x52 => opCvOpenWire
  | 0x60 => opPosHome
  | 0x61 => opPosSet
  | 0x70 => opPrtConfig
  | 0x71 => opPrtTest
  | 0x80 => opMtrRead
  | 0x81 => opLedgerFetch
  | 0x82 => opMtrCal
  | 0x90 => opOwlArm
  | 0x91 => opOwlTrigger
  | 0x92 => opOwlFetch
  | 0x93 => opReplayStart
  | 0xA0 => opPairStatus
  | 0xA1 => opPairRole
  | 0xA2 => opPairRejoin
  | 0xB0 => fun s _ p => opSettEnumerate s p
  | 0xB1 => fun s c p => opSettNode s c p false 57
  | 0xB2 => fun s c p => opSettNode s c p true 55
  | 0xC0 => fun s _ _ => opLcQuery s
  | 0xC1 => fun s _ p => opLcAdvance s p
  | 0xC2 => opFwUpdate
  | 0xC3 => fun s _ p => opKeyRevoke s p
  | 0xF0 => fun s _ _ => opBistReport s
  | 0xF1 => fun s _ p => opSelftestRun s p
  | 0xFE => opDiagPeek
  | _ => fun s _ _ => opDone 0x13 [] s

/-! ### Commands in execution (R380) -/

/-- A command in execution completes once its effect has taken place. CV_INJECT reads its result register, which clears NEW (DESIGN
CHOICE, assumption 130). -/
def opSettle (s : State) (r : RunOp) : State :=
  let p := r.params
  match r.ctx.opcode with
  | 0x06 => s.onIf (!s.getB SYS_PROFILE_pending) (fun s => opEnd s r.ctx 0 [])
  | 0x51 => s.onIf (!s.getB CVc_INJk_start (p.headD 0) (p.getD 1 0)) (fun s =>
      let g := regRead s (mpAccess true) (CVc_INJRk_value.at (p.headD 0) (p.getD 1 0))
      opEnd g.2 r.ctx 0 (leBytes 4 g.1))
  | 0x52 => s.onIf ((owInputs p).all (fun i => s.cvb.cmps[i].ow == .idle)) (fun s => opEnd s r.ctx 0 (owResults s))
  | 0x70 => s.onIf s.bdg.staged.isNone (fun s => opEnd s r.ctx 0 [])
  | 0xA1 => s.onIf (s.tls.handoff == 0) (fun s => opEnd s r.ctx (if tlsRole s = 2 then 0 else 0x22) [])
  | 0x92 => owlFetchOn s r.ctx (leAt p 0 4) (leAt p 4 2)
  | _ => s

/-- The MP looks after the commands in execution. -/
def settleOps (s : State) : State :=
  s.onIf (mpRuns s && !s.bdg.clkBad.testBit 3) (fun s => s.fpl.running.foldl opSettle s)

/-! ### Serving order (R385) -/

/-- The queues of a class that have a command waiting and space for its completion. -/
def mpReady (s : State) (cl : Nat) : List Qp :=
  (List.finRange 64).filter (fun q => qOpen s q && s.get QPq_CFG_class q.val == cl && !(qWaiting s q).isEmpty
    && decide (cqLen s q + (s.fpl.running.filter (fun r => r.ctx.q == q)).length < qDepth s q))

/-- The queue that the MP serves next in a class: in turn, in queue-number order. -/
def mpTurn (s : State) (cl : Fin 4) : Option Qp :=
  let l := mpReady s cl.val
  match l.find? (fun q => decide (s.fpl.turn[cl] ≤ q.val)) with
  | some q => some q
  | none => l.head?

/-- The queue that the MP serves next, with its class: class 1 first. -/
def mpPick (s : State) : Option (Fin 4 × Qp) :=
  match mpTurn s 1, mpTurn s 2, mpTurn s 3 with
  | some q, _, _ => some (1, q)
  | none, some q, _ => some (2, q)
  | none, none, some q => some (3, q)
  | none, none, none => none

/-- The command that stands at place `k` of queue `q` leaves the queue. -/
def mpServe (s : State) (cl : Fin 4) (q : Qp) (k : Nat) : State :=
  let s := qServe s q k
  { s with fpl := { s.fpl with turn := vupd s.fpl.turn cl (fun _ => q.val + 1) } }

/-- The MP takes the command at place `k` of queue `q` and executes it. -/
def mpTake (s : State) (cl : Fin 4) (q : Qp) (k : Nat) : State :=
  let b := sqPacket s q k
  let c := ctxOf b (decide (b.getD 6 0 / 16 % 2 = 1) && s.getB QPq_CFG_priv q.val)
  let p := if qCmac s q then (b.drop 16).take ((b.drop 16).length - 8) else b.drop 16
  opGo (mpServe s cl q k) c p (opOf c.opcode)

/-- The MP goes on with what it executes, and takes and executes the next command (R385). -/
def mpDispatch (s0 : State) : State :=
  let s := settleOps s0
  if !mpRuns s then s
  else match mpPick s with
    | none => s
    | some (cl, q) => match qWaiting s q with
      | [] => s
      | k :: _ => mpTake s cl q k

/-! ### Meanings -/

/-- MP_DISPATCH (R385). -/
def execMpDispatch (s : State) : Out := faced s mpDispatch

/-- NOP (R393). -/
def execNop (c : Ctx) (p : List Nat) (s : State) : Out := opRow 0x01 opNop c p s

/-- GET_STATUS (R393): the pre-decoder executes it. -/
def execGetStatus (c : Ctx) (p : List Nat) (s : State) : Out :=
  faced s (fun s =>
    let c := { c with opcode := 0x02 }
    if !lenMatches 0x02 p then complete s c 0x11 else if admission s c != 0 then complete s c (admission s c) else preExec s c p)

/-- CH_STOP (R271, R384): the pre-decoder executes it. -/
def execChStop (c : Ctx) (p : List Nat) (s : State) : Out :=
  faced s (fun s =>
    let c := { c with opcode := 0x11 }
    if !lenMatches 0x11 p then complete s c 0x11 else if admission s c != 0 then complete s c (admission s c) else preExec s c p)

/-- CH_SAFE (R271, R279, R384): the pre-decoder executes it. -/
def execChSafe (c : Ctx) (p : List Nat) (s : State) : Out :=
  faced s (fun s =>
    let c := { c with opcode := 0x12 }
    if !lenMatches 0x12 p then complete s c 0x11 else if admission s c != 0 then complete s c (admission s c) else preExec s c p)

/-- GET_EVENTS (R393). -/
def execGetEvents (c : Ctx) (p : List Nat) (s : State) : Out := opRow 0x03 opGetEvents c p s
/-- SESSION_OPEN (R382) in mode OPEN_U. -/
def execSessionOpen (c : Ctx) (p : List Nat) (s : State) : Out := opRow 0x04 opSession c (p.set 0 0) s
/-- CHALLENGE (R382). -/
def execChallenge (c : Ctx) (p : List Nat) (s : State) : Out := opRow 0x04 opSession c (p.set 0 1) s
/-- OPEN_P (R382). -/
def execOpenP (c : Ctx) (p : List Nat) (s : State) : Out := opRow 0x04 opSession c (p.set 0 2) s
/-- SESSION_CLOSE (R383). -/
def execSessionClose (c : Ctx) (p : List Nat) (s : State) : Out := opRow 0x05 opSessionClose c p s
/-- SET_PROFILE (R30). -/
def execSetProfile (c : Ctx) (p : List Nat) (s : State) : Out := opRow 0x06 opSetProfile c p s
/-- CH_ENABLE (R272). -/
def execChEnable (c : Ctx) (p : List Nat) (s : State) : Out := opRow 0x10 opChEnable c p s
/-- CH_CLEAR_FAULT (R273). -/
def execChClearFault (c : Ctx) (p : List Nat) (s : State) : Out := opRow 0x13 opChClearFault c p s
/-- CH_DISCHARGE (R293). -/
def execChDischarge (c : Ctx) (p : List Nat) (s : State) : Out := opRow 0x14 opChDischarge c p s
/-- CH_PRECHARGE (R292). -/
def execChPrecharge (c : Ctx) (p : List Nat) (s : State) : Out := opRow 0x15 opChPrecharge c p s
/-- SET_TORQUE (R390). -/
def execSetTorque (c : Ctx) (p : List Nat) (s : State) : Out := opRow 0x20 opSetTorque c p s
/-- SET_SPEED (R390). -/
def execSetSpeed (c : Ctx) (p : List Nat) (s : State) : Out := opRow 0x21 opSetSpeed c p s
/-- SET_LIMITS (R245). -/
def execSetLimits (c : Ctx) (p : List Nat) (s : State) : Out := opRow 0x22 opSetLimits c p s
/-- SET_RAMP_LIMITS (R230). -/
def execSetRampLimits (c : Ctx) (p : List Nat) (s : State) : Out := opRow 0x23 opSetRampLimits c p s
/-- CFG_WRITE (R394). -/
def execCfgWrite (c : Ctx) (p : List Nat) (s : State) : Out := opRow 0x30 opCfgWrite c p s
/-- CFG_READ (R394). -/
def execCfgRead (c : Ctx) (p : List Nat) (s : State) : Out := opRow 0x31 opCfgRead c p s
/-- CFG_LOCK (R9). -/
def execCfgLock (c : Ctx) (p : List Nat) (s : State) : Out := opRow 0x32 opCfgLock c p s
/-- COEF_LOAD (R211). -/
def execCoefLoad (c : Ctx) (p : List Nat) (s : State) : Out := opRow 0x40 opCoefLoad c p s
/-- COEF_SWAP (R226). -/
def execCoefSwap (c : Ctx) (p : List Nat) (s : State) : Out := opRow 0x41 opCoefSwap c p s
/-- COEF_READ (R393). -/
def execCoefRead (c : Ctx) (p : List Nat) (errs : WordErrs) (s : State) : Out := opRow 0x42 (coefReadWith errs) c p s
/-- CV_CALIBRATE (R97, R102). -/
def execCvCalibrate (c : Ctx) (p : List Nat) (s : State) : Out := opRow 0x50 opCvCalibrate c p s
/-- CV_INJECT (R96). -/
def execCvInject (c : Ctx) (p : List Nat) (s : State) : Out := opRow 0x51 opCvInject c p s
/-- CV_OPEN_WIRE_TEST (R112). -/
def execCvOpenWireTest (c : Ctx) (p : List Nat) (s : State) : Out := opRow 0x52 opCvOpenWire c p s
/-- POS_HOME (R131). -/
def execPosHome (c : Ctx) (p : List Nat) (s : State) : Out := opRow 0x60 opPosHome c p s
/-- POS_SET (R131). -/
def execPosSet (c : Ctx) (p : List Nat) (s : State) : Out := opRow 0x61 opPosSet c p s
/-- PRT_CONFIG (R326). -/
def execPrtConfig (c : Ctx) (p : List Nat) (s : State) : Out := opRow 0x70 opPrtConfig c p s
/-- PRT_TEST (R393). -/
def execPrtTest (c : Ctx) (p : List Nat) (s : State) : Out := opRow 0x71 opPrtTest c p s
/-- MTR_READ (R393). -/
def execMtrRead (c : Ctx) (p : List Nat) (s : State) : Out := opRow 0x80 opMtrRead c p s
/-- LEDGER_FETCH (R434). -/
def execLedgerFetch (c : Ctx) (p : List Nat) (s : State) : Out := opRow 0x81 opLedgerFetch c p s
/-- MTR_CAL (R430). -/
def execMtrCal (c : Ctx) (p : List Nat) (s : State) : Out := opRow 0x82 opMtrCal c p s
/-- OWL_ARM (R449). -/
def execOwlArm (c : Ctx) (p : List Nat) (s : State) : Out := opRow 0x90 opOwlArm c p s
/-- OWL_TRIGGER (R452). -/
def execOwlTrigger (c : Ctx) (p : List Nat) (s : State) : Out := opRow 0x91 opOwlTrigger c p s
/-- OWL_FETCH (R454). -/
def execOwlFetch (c : Ctx) (p : List Nat) (errs : WordErrs) (s : State) : Out := opRow 0x92 (owlFetchWith errs) c p s
/-- REPLAY_START (R457). -/
def execReplayStart (c : Ctx) (p : List Nat) (s : State) : Out := opRow 0x93 opReplayStart c p s
/-- PAIR_STATUS (R369). -/
def execPairStatus (c : Ctx) (p : List Nat) (s : State) : Out := opRow 0xA0 opPairStatus c p s
/-- PAIR_ROLE (R365). -/
def execPairRole (c : Ctx) (p : List Nat) (s : State) : Out := opRow 0xA1 opPairRole c p s
/-- PAIR_REJOIN (R369). -/
def execPairRejoin (c : Ctx) (p : List Nat) (s : State) : Out := opRow 0xA2 opPairRejoin c p s
/-- SETT_ENUMERATE (R418). -/
def execSettEnumerate (c : Ctx) (p : List Nat) (s : State) : Out := opRow 0xB0 (fun s _ p => opSettEnumerate s p) c p s
/-- SETT_NODE_READ (R424). -/
def execSettNodeRead (c : Ctx) (p : List Nat) (s : State) : Out := opRow 0xB1 (fun s c p => opSettNode s c p false 57) c p s
/-- SETT_NODE_WRITE (R424). -/
def execSettNodeWrite (c : Ctx) (p : List Nat) (s : State) : Out := opRow 0xB2 (fun s c p => opSettNode s c p true 55) c p s
/-- LC_QUERY (R393). -/
def execLcQuery (c : Ctx) (p : List Nat) (s : State) : Out := opRow 0xC0 (fun s _ _ => opLcQuery s) c p s
/-- LC_ADVANCE (R486). -/
def execLcAdvance (c : Ctx) (p : List Nat) (s : State) : Out := opRow 0xC1 (fun s _ p => opLcAdvance s p) c p s
/-- FW_UPDATE (R491). -/
def execFwUpdate (c : Ctx) (p : List Nat) (s : State) : Out := opRow 0xC2 opFwUpdate c p s
/-- KEY_REVOKE (R488). -/
def execKeyRevoke (c : Ctx) (p : List Nat) (s : State) : Out := opRow 0xC3 (fun s _ p => opKeyRevoke s p) c p s
/-- BIST_REPORT (R474). -/
def execBistReport (c : Ctx) (p : List Nat) (s : State) : Out := opRow 0xF0 (fun s _ _ => opBistReport s) c p s
/-- SELFTEST_RUN (R476). -/
def execSelftestRun (c : Ctx) (p : List Nat) (s : State) : Out := opRow 0xF1 (fun s _ p => opSelftestRun s p) c p s
/-- DIAG_PEEK (R393). -/
def execDiagPeek (c : Ctx) (p : List Nat) (s : State) : Out := opRow 0xFE opDiagPeek c p s

end Sys2Proof.Machine
end

