-- ==== Sys2Proof/Machine/FplLink.lean ====
section
/-! DEFINITION. The links (R396 to R405): direct set-point slots (R389 to R392), the host link's frames, CAN FD, network time, and
the restart of the MP (R318, R388). -/

namespace Sys2Proof.Machine

/-! ### Direct set-point slots -/

/-- The key of a slot's alive counter: the host link's of 8 bits, or CAN's of 4. -/
def aliveKey (n : Ch) (g : Nat) (can : Bool) : Nat := (if can then 16 else 0) + 4 * n.val + g

/-- A slot's target is given as v / 2^28 pu, through Chuck (R309, R389). A standby takes targets through checkpoints alone
(R358); live inputs do not reach a replayed spindle (R458). -/
def slotTarget (s : State) (n : Ch) (g : Nat) (v : Int) (origin : Nat) : State :=
  if isStandby s || s.replayed n.val then s else toChuck s (2 + n.val) (.target g (8 * v) origin)

/-- A message for a channel's slots is discarded (R392): the third in a row is logged, and the run begins again (DEDUCED,
assumption 75). -/
def slotDiscard (s : State) (n : Ch) : State :=
  let k := s.fpl.bad[n] + 1
  let s := s.incSat FPL_SLOTST_e2e_cnt
  let s := { s with fpl := { s.fpl with bad := vupd s.fpl.bad n (fun _ => if k = 3 then 0 else k) } }
  s.onIf (k == 3) (fun s => s.logEv 0x6006 [n.val])

/-- Slot g of a channel takes its values from transport `src`. -/
def slotFrom (s : State) (n : Ch) (g src : Nat) : Bool := s.getBit FPL_SLOTn_en g n.val && s.get FPL_SLOTn_src n.val == src

/-- How far a slot entry's alive counter of `w` bits has advanced from the last one accepted (R392). -/
def entryGap (s : State) (n : Ch) (g src w counter : Nat) : Nat :=
  (counter % 2 ^ w + 2 ^ w - (sget 0 s.fpl.alive (aliveKey n g (src != 0)) - 1) % 2 ^ w) % 2 ^ w

/-- A slot entry is no REPEAT: it is accepted. -/
def entryNew (s : State) (n : Ch) (g src w counter : Nat) : Bool :=
  sget 0 s.fpl.alive (aliveKey n g (src != 0)) == 0 || entryGap s n g src w counter != 0

/-- A slot entry is accepted: a SKIP is counted, and the value becomes the slot's target. -/
def entryTake (s : State) (n : Ch) (g src w counter : Nat) (v : Int) : State :=
  let key := aliveKey n g (src != 0)
  let s := s.onIf (sget 0 s.fpl.alive key != 0 && decide (s.get FPL_SLOTn_maxgap n.val < entryGap s n g src w counter)) (fun s =>
    s.incSat FPL_SLOTST_e2e_cnt)
  let s := { s with fpl := { s.fpl with alive := sput 0 s.fpl.alive key (counter % 2 ^ w + 1), bad := vupd s.fpl.bad n (fun _ => 0) } }
  slotTarget s n g v src

/-- The entries of one message for a channel, in order: a message of which no entry is accepted is discarded (R392; assumption 75,
DEDUCED). -/
def slotMessage (s : State) (n : Ch) (src w counter : Nat) (l : List (Nat × Int)) : State :=
  if !l.isEmpty && l.all (fun e => !entryNew s n e.1 src w counter) then slotDiscard s n
  else s.forL l (fun e s => s.onIf (entryNew s n e.1 src w counter) (fun s => entryTake s n e.1 src w counter e.2))

/-- SLOT_STALE (R392): no value has been accepted for `stale_to` µs. It acts while CKM is lost, too (R388). -/
def execSlotStale (n : Ch) (g : Fin 4) (s : State) : Out :=
  live s (fun s => s.onIf (s.getBit FPL_SLOTn_en g.val n.val && s.getB FPL_SLOTn_stale_to n.val) (fun s =>
    let s := (s.putBit FPL_SLOTST_stale (4 * n.val + g.val) true).logEv 0x6005 [n.val, g.val]
    s.onIf (s.getB FPL_SLOTn_stale_act n.val) (fun s => slotTarget s n g.val 0 (s.get FPL_SLOTn_src n.val))))

/-! ### The host link (R397 to R400) -/

/-- A frame of the host link. -/
def hlkBytes (addr type : Nat) (pl : List Nat) : List Nat :=
  let b := [addr, type] ++ leBytes 2 pl.length ++ pl
  b ++ leBytes 4 (crc32c b)

/-- The address byte of the device's frames; without an own address its low bits are a free value (assumption 76). -/
def hlkFrom (s : State) : Nat × State :=
  if s.getB HLK_ADDR_valid then (0x80 + s.get HLK_ADDR_addr, s) else (0x80 + s.freeVal % 128, s.freeNext)

/-- The device replies. -/
def hlkReply (s : State) (type : Nat) (pl : List Nat) : State :=
  let r := hlkFrom s
  netSend r.2 0 (hlkBytes r.1 type pl)

/-- The frame is for the device's own address. -/
def hlkOwn (s : State) (a : Nat) : Bool := s.getB HLK_ADDR_valid && s.get HLK_ADDR_addr == a

/-- The frame is for a group of the device, or for all. A device without an address hears broadcast alone (R400). -/
def hlkGroup (s : State) (a : Nat) : Bool :=
  a == 0x7F || (s.getB HLK_ADDR_valid
    && [HLK_GROUP_grp_0, HLK_GROUP_grp_1, HLK_GROUP_grp_2, HLK_GROUP_grp_3].any (fun f => s.get f == 0x80 + a))

/-- The bytes of completion entry `k`. -/
def cqPacket (s : State) (q : Qp) (k : Nat) : List Nat :=
  let h := s.bytesAt (cqAddr s q k) 16
  s.bytesAt (cqAddr s q k) (16 + min 240 (h.getD 5 0))

/-- How long ago a queue's oldest unread completion was written, by its TS[31:0]. -/
def cqAge (s : State) (q : Qp) : Nat := (s.now + 2 ^ 32 - leAt (cqPacket s q (s.get QPq_CQ_head q.val)) 8 4) % 2 ^ 32

/-- The queue whose unread completion a POLL returns: the lowest class, then the oldest. -/
def pollQueue (s : State) : Option Qp :=
  let l := (List.finRange 64).filter (fun q => qOpen s q && qTrans s q == 0 && cqLen s q != 0)
  l.foldl (fun b q => match b with
    | none => some q
    | some r =>
      if s.get QPq_CFG_class q.val < s.get QPq_CFG_class r.val
        || (s.get QPq_CFG_class q.val == s.get QPq_CFG_class r.val && decide (cqAge s r < cqAge s q)) then some q else some r) none

/-- STATUS. -/
def hlkStatus (s : State) : List Nat :=
  let n := (((List.finRange 64).filter (fun q => qOpen s q && qTrans s q == 0)).map (cqLen s)).sum
  [min n 255, s.get BDG_STATE_unit, 0, 0] ++ leBytes 4 (s.get FPL_EVT_SEQ_seq)

/-- The oldest unread completion of a queue is sent and counts as read. -/
def hlkRead (s : State) (q : Qp) : State :=
  let k := s.get QPq_CQ_head q.val
  (hlkReply s 0x81 (cqPacket s q k)).put QPq_CQ_head (k + 1) q.val

/-- POLL. -/
def hlkPoll (s : State) : State := match pollQueue s with
  | some q => hlkRead s q
  | none => hlkReply s 0x83 (hlkStatus s)

/-- The reply to a CMD whose completion was written while it arrived: RESP with it; it counts as read where it is the only unread
one (DEDUCED, assumption 73). -/
def hlkWritten (old s : State) (c : Ctx) (st : Nat) : State :=
  let k := old.get QPq_CQ_tail c.q.val
  if s.get QPq_CQ_tail c.q.val = k then hlkReply s 0x82 (ackBytes c.q.val c.seq st)
  else if cqLen s c.q = 1 then hlkRead s c.q
  else hlkReply s 0x81 (cqPacket s c.q k)

/-- CMD: one command packet. -/
def hlkCmd (s : State) (own : Bool) (pl : List Nat) : State :=
  let r := packetArrival s 0 0 pl
  if !own then r.2
  else match r.1 with
    | .rej st => hlkReply r.2 0x82 (ackBytes (pl.getD 2 0) (leAt pl 3 2) st)
    | .bad c st => hlkWritten s r.2 c st
    | .again _ (some e) => hlkReply r.2 0x81 e
    | .again c none => hlkReply r.2 0x82 (ackBytes c.q.val c.seq 0)
    | .stored c _ true => hlkWritten s r.2 c 0
    | .stored c _ false => hlkReply r.2 0x82 (ackBytes c.q.val c.seq 0)

/-- One entry of a FAST frame (R398). -/
def fastEntry (s : State) (e : List Nat) : State :=
  let b := e.getD 1 0
  let n := b / 16
  let g := b % 4
  if !hlkOwn s (e.getD 0 0) then s
  else if 4 ≤ n || !slotFrom s (chOf n) g 0 then s.incSat HLK_STAT_fast_rej
  else slotMessage s (chOf n) 0 8 (e.getD 2 0) [(g, ofField 32 (leAt e 4 4))]

/-- ENUM (R400): DISCOVER, answered in slot CRC-8(device ID) mod w with the CRC-8 of R403 (DEDUCED, assumption 135), and ASSIGN. The
slot leaves beside the reply, under key 5. -/
def hlkEnum (s : State) (pl : List Nat) : State :=
  if s.get HLK_CFG_addr_src != 2 then s
  else match pl.headD 2 with
    | 0 => s.onIf (!s.getB HLK_ADDR_valid && pl.length == 2 && pl.getD 1 0 != 0) (fun s =>
        netSend (hlkReply s 0x81 devIdBytes) 5 [crc8 devIdBytes % pl.getD 1 0])
    | 1 =>
      let a := pl.getD 9 0
      if pl.length != 10 || (pl.drop 1).take 8 != devIdBytes then s
      else if a < 64 then ((s.put HLK_ADDR_addr a).put HLK_ADDR_valid 1).logEv 0x6101 [a]
      else if a = 0x7F then s.logEv 0x6102
      else s
    | _ => s

/-- A frame arrives whole (R397, R398). A frame whose length field does not fit what arrived fails its CRC. A CMD to a group or to
all is performed and not answered (DEDUCED, assumption 98). -/
def hlkFrame (s : State) (b : List Nat) : State :=
  let len := leAt b 2 2
  let a := b.getD 0 0
  let pl := (b.drop 4).take len
  if !s.getB HLK_CFG_en then s
  else if b.length != len + 8 || decide (256 < len) || crc32c (b.take (len + 4)) != leAt b (len + 4) 4 then s.incSat HLK_STAT_crc_err
  else
    let own := hlkOwn s a
    let any := own || hlkGroup s a
    match b.getD 1 0 with
    | 1 => s.onIf own hlkPoll
    | 2 => s.onIf any (fun s => hlkCmd s own pl)
    | 3 => s.onIf (any && len % 8 == 0 && decide (8 ≤ len) && decide (len ≤ 240)) (fun s => (chunks 8 30 pl).foldl fastEntry s)
    | 4 => s.onIf (a == 0x7F) (fun s => hlkEnum s pl)
    | _ => s

/-- POLL (R398): the bytes of a frame with that type. -/
def execPoll (b : List Nat) (s : State) : Out := faced s (fun s => hlkFrame s b)
/-- HLK_CMD (R398). -/
def execHlkCmd (b : List Nat) (s : State) : Out := faced s (fun s => hlkFrame s b)
/-- HLK_FAST (R398). -/
def execHlkFast (b : List Nat) (s : State) : Out := faced s (fun s => hlkFrame s b)
/-- DISCOVER (R400). -/
def execDiscover (b : List Nat) (s : State) : Out := faced s (fun s => hlkFrame s b)
/-- HLK_ASSIGN (R400). -/
def execHlkAssign (b : List Nat) (s : State) : Out := faced s (fun s => hlkFrame s b)

/-- HLK_FRAME_ABORT (R397). -/
def execHlkFrameAbort (s : State) : Out := faced s (fun s => s.onIf (s.getB HLK_CFG_en) (fun s => s.incSat HLK_STAT_abort))

/-! ### CAN FD (R401 to R403) -/

/-- A CAN controller takes part in the bus. -/
def canOn (s : State) (x : Fin 2) : Bool := s.getB CANx_CTL_en x.val && s.get CANx_STAT_state x.val != 2

/-- The packet being assembled on a CAN. -/
def canAsmPut (s : State) (x : Fin 2) (a : Option (List Nat × Nat)) : State :=
  { s with net := { s.net with canAsm := vupd s.net.canAsm x (fun _ => a) } }

/-- The assembly is discarded and counted (assumption 74). -/
def canDrop (s : State) (x : Fin 2) : State := (canAsmPut s x none).incSat FPL_STAT_rej

/-- A packet has been assembled; the padding after its parameters goes. -/
def canPacket (s : State) (x : Fin 2) (b : List Nat) : State :=
  let pkt := b.take (16 + b.getD 5 0)
  let r := packetArrival (canAsmPut s x none) (1 + x.val) 0 pkt
  canAck r.2 (1 + x.val) pkt r.1

/-- A segment arrives (R402). -/
def canSegment (s : State) (x : Fin 2) (b : List Nat) : State :=
  let h := b.headD 0
  let i := h % 64
  let next (a : List Nat) (k : Nat) : State :=
    if h / 64 % 2 = 1 then canPacket s x (a ++ b.drop 1) else canAsmPut s x (some (a ++ b.drop 1, k + 1))
  if b.length != 64 then canDrop s x
  else if 128 ≤ h % 256 then (if i = 0 then next [] 0 else canDrop s x)
  else match s.net.canAsm[x] with
    | some (a, k) => if i = k && decide (a.length + 63 ≤ 315) then next a k else canDrop s x
    | none => canDrop s x

/-- CAN_SEGMENT (R402). -/
def execCanSegment (x : Fin 2) (b : List Nat) (s : State) : Out :=
  faced s (fun s => s.onIf (canOn s x) (fun s => canSegment s x b))

/-- CAN_SEGMENT_GAP (R402): more than 10 ms have passed between segments. -/
def execCanSegmentGap (x : Fin 2) (s : State) : Out :=
  faced s (fun s => s.onIf s.net.canAsm[x].isSome (fun s => canDrop s x))

/-- A direct set-point message of channel n (R403). -/
def canSetpoint (s : State) (x : Fin 2) (n : Ch) (b : List Nat) : State :=
  let slots := (List.range 4).filter (fun g => (b.headD 0 / 16).testBit g)
  let d := b.take (b.length - 1)
  let id := leBytes 4 (s.get CANx_CTL_base x.val + 2 + n.val)
  if b.length < 4 * slots.length + 2 || crc8 (id ++ d) != b.getLastD 0 then slotDiscard (s.incSat CANx_STAT_e2e_err x.val) n
  else slotMessage s n (1 + x.val) 4 (b.headD 0 % 16) ((slots.zipIdx.filter (fun e => slotFrom s n e.1 (1 + x.val))).map (fun e =>
    (e.1, ofField 32 (leAt b (1 + 4 * e.2) 4))))

/-- CAN_SETPOINT (R403). -/
def execCanSetpoint (x : Fin 2) (n : Ch) (b : List Nat) (s : State) : Out :=
  faced s (fun s => s.onIf (canOn s x) (fun s => canSetpoint s x n b))

/-- CAN_BUSOFF (R401). -/
def execCanBusoff (x : Fin 2) (s : State) : Out :=
  faced s (fun s => s.onIf (canOn s x) (fun s => (s.put CANx_STAT_state 2 x.val).logEv (0x6201 + 0x100 * x.val)))

/-- CAN_BUSOFF_RECOVERY (R401): the controller is error-active again with both counters at 0. -/
def execCanBusoffRecovery (x : Fin 2) (s : State) : Out :=
  faced s (fun s => s.onIf (s.get CANx_STAT_state x.val == 2) (fun s =>
    ((s.put CANx_STAT_state 0 x.val).put CANx_STAT_rec 0 x.val).put CANx_STAT_tec 0 x.val))

/-! ### Network time (R405) -/

/-- PTP_SYNC (R405): the MP publishes a new relation. -/
def execPtpSync (ts0 t0 : Nat) (rate : Int) (s : State) : Out :=
  faced s (fun s => s.onIf (mpRuns s) (fun s =>
    let s := (s.put64 ETH_PTP_TS_LO_ts0 ETH_PTP_TS_HI_ts0 ts0).put64 ETH_PTP_T_LO_t0 ETH_PTP_T_HI_t0 t0
    (s.putS ETH_PTP_RATE_rate rate).put ETH_PTP_STAT_valid 1))

/-- PTP_LOST (R405): no Sync has arrived for 2 s. -/
def execPtpLost (s : State) : Out :=
  live s (fun s => s.onIf (s.getB ETH_PTP_STAT_valid) (fun s => (s.put ETH_PTP_STAT_valid 0).logEv 0x6401))

/-! ### The MP restarts (R318, R388, R408) -/

/-- A Sett port forgets the transactions that served commands. -/
def settForget (x : SettSt) : SettSt :=
  let keep (t : SlowTx) : Bool := match t.use with
    | .command _ => false
    | .slot => true
    | .regs => true
    | .pack => true
  { x with slowQ := x.slowQ.filter keep, got := [], ends := x.ends.map (fun b => { b with slow := b.slow.filter keep }) }

/-- MP_RESTART (R318): the commands in execution complete with INTERNAL_ERROR, outstanding challenges are void, and what the MP
assembled is lost. With `esc` the MP stays in reset. -/
def execMpRestart (s : State) : Out :=
  live s (fun s =>
    if s.bdg.mpDead || !s.bdg.holds.testBit 6 then s
    else
      let s := wdgRestart (s.modBdg (fun b => { b with holds := b.holds - 64 })) 2
      let run := s.fpl.running
      let s := s.forL (List.finRange 2) (fun p s => s.modSett p settForget)
      let qps := s.fpl.qps.map (fun q => { q with asm := none })
      let s := { s with fpl := { s.fpl with running := [], reserves := [], qps := qps } }
      s.forL (run.filter (fun r => !r.void)) (fun r s => complete s r.ctx 0x7F))

end Sys2Proof.Machine
end

