-- ==== Sys2Proof/Machine/Late.lean ====
section
/-! DEFINITION. Chuck's release of inputs (R309, R310), and the happenings that complete a command in execution: an injected window,
an open-wire test, a profile change. -/

namespace Sys2Proof.Machine

/-! ### Chuck (R309, R310) -/

/-- A signed offset field of a record: the value in `w` bits from bit `k` on. -/
def bitsAt (w k : Nat) (v : Int) : Nat := toField w v * 2 ^ k

/-- A flag as bit `k`. -/
def flagAt (b : Bool) (k : Nat) : Nat := if b then 2 ^ k else 0

/-- The TS of the HEADER that a record of this tick counts from (R446: a HEADER of the tick precedes it). -/
def hdrBase (s : State) : Nat := if s.owl.fresh.any (fun r => r.type == 0x01) then s.now else s.owl.hdrTs

/-- The payloads of a POSITION record (R445): the fields packed from bit 0 on, 40 bits a word. -/
def posPay (s : State) (r : PosRec) : List Nat :=
  let v := r.ang % 2 ^ 32 + bitsAt 32 32 ((r.ts : Int) - hdrBase s) + bitsAt 32 64 r.speed + r.angX % 2 ^ 32 * 2 ^ 96
    + r.src % 4 * 2 ^ 128 + flagAt r.valid 130 + flagAt r.dir 131 + flagAt r.unref 132 + flagAt r.fallback 133 + flagAt r.stale 134
  (List.range 4).map (fun k => v / 2 ^ (40 * k) % 2 ^ 40)

/-- An SPWRITE record's effect: a window word, or a register of the spindles' block (R445). -/
def spwriteApply (s : State) (n : Ch) (pay : Nat) : State :=
  let a := pay % 2 ^ 40
  let x := pay / 2 ^ 40 % 2 ^ 36
  let y := pay / 2 ^ 80 % 2 ^ 36
  if a < 2 ^ 39 then storeWord s n (a % 0x8000) ⟨ofField 36 x, ofField 36 y⟩
  else
    let addr := 0x40310000 + a % 2 ^ 32
    match regOf addr with
    | none => s
    | some (r, i, j) => writeReg s ⟨.mp, true, false⟩ ⟨r, i, j, x % 2 ^ 32⟩ addr

/-- An agreed input lands. A result and a position record land by their own row (R219); a target takes its place in the spindle's
window, unless the device is a standby (R358); the rest is a recorded write. -/
def agreed (s : State) (e : ChuckItem) : State :=
  let n := chOf (e.pair - 2)
  match e.val with
  | .result _ v fl org _ =>
    let s := s.owlRec 0x02 n.val [org / 16 % 16 * 2 ^ 36 + org % 16 * 2 ^ 32 + fl % 256 * 2 ^ 24 + toField 24 v]
    { s with landing := s.landing ++ [e] }
  | .position r =>
    let s := s.owlRec 0x03 n.val (posPay s r)
    { s with landing := s.landing ++ [e] }
  | .further r =>
    let s := s.owlRec 0x03 n.val (posPay s r)
    { s with landing := s.landing ++ [e] }
  | .target g x org =>
    let s := s.owlRec 0x04 n.val [g % 4 * 2 ^ 38 + org % 4 * 2 ^ 36 + toField 36 x]
    if isStandby s then s else storeWord s n (0x840 + 8 * (g % 4)) ⟨sat36 x, 0⟩
  | .core 0x09 src pay => irqRelease s ⟨src % 2, Nat.mod_lt _ (by omega)⟩ pay
  | .core _ src pay =>
    let s := s.owlRec 0x05 n.val ((List.range 3).map (fun k => pay / 2 ^ (40 * k) % 2 ^ 40))
    spwriteApply s (chOf src) pay

/-- The agreement stage of a pair releases the first input that waits for it: Chuck's for a core or a spindle pair, Badger's own
for pair 6 (R311). -/
def chuckRelease (s : State) (p : AgreePair) (differ : Nat) : State :=
  if p.val = 6 then bdgRelease s differ
  else match s.chuck.find? (fun e => e.pair == p.val) with
    | none => s
    | some e =>
      let s := { s with chuck := s.chuck.eraseP (fun e => e.pair == p.val) }
      agreed (chuckCompare s p (if e.dis then 4 else differ)) e

/-- CHUCK_RELEASE (R309 to R311). -/
def execChuckRelease (p : AgreePair) (differ : Fin 5) (s : State) : Out := live s (fun s => chuckRelease s p differ.val)

/-! ### Ends that complete a command -/

/-- INJECTION_DONE (R95). -/
def execInjectionDone (c : Cv) (k : Fin 4) (codes : List Int) (s : State) : Out :=
  live s (fun s => settleOps (injDone s c k codes))

/-- OW_TEST_DONE (R111, R112). -/
def execOwTestDone (i : Ain) (plus minus : List Int) (s : State) : Out :=
  live s (fun s => settleOps (s.onIf (owMayEnd s i) (fun s => owResult s i plus minus)))

/-- An accepted profile change takes effect (R30). -/
def profileEffect (s : State) : State :=
  match s.pwr.profTo with
  | none => s
  | some p =>
    let s := ((profNow s p).put SYS_PROFILE_cause 1).put SYS_PROFILE_pending 0
    let s := (s.modPwr (fun q => { q with profTo := none })).logEv 0x0001 [p]
    let s := s.forL (List.finRange 8) (fun c s => convCfg s c)
    settleOps (s.forL (List.finRange 4) (fun n s => budgetShow s n))

/-- PROFILE_CHANGE_EFFECT (R30). -/
def execProfileChangeEffect (s : State) : Out := live s profileEffect

end Sys2Proof.Machine
end

