-- ==== Sys2Proof/Machine/Dispatch.lean ====
section
/-! DEFINITION. The dispatch: one arm per command, each one direct call of its meaning. -/

namespace Sys2Proof.Machine

def exec (i : Instr) (s : State) : Host.Outcome State Fault Refusal :=
  match i with
  | .registerWrite a addr size v => Sys2Proof.Machine.execRegisterWrite a addr size v s
  | .tsLoRead a => Sys2Proof.Machine.execTsLoRead a s
  | .satClear a n v => Sys2Proof.Machine.execSatClear a n v s
  | .reload r => Sys2Proof.Machine.execReload r s
  | .commitArrival n => Sys2Proof.Machine.execCommitArrival n s
  | .commitDeadline n => Sys2Proof.Machine.execCommitDeadline n s
  | .profileRequestWrite a v => Sys2Proof.Machine.execProfileRequestWrite a v s
  | .clockLoss d => Sys2Proof.Machine.execClockLoss d s
  | .xinLoss => Sys2Proof.Machine.execXinLoss s
  | .ckwSwitch => Sys2Proof.Machine.execCkwSwitch s
  | .phaseMeasure ft => Sys2Proof.Machine.execPhaseMeasure ft s
  | .slotWrite a addr size v errs => Sys2Proof.Machine.execSlotWrite a addr size v errs s
  | .slotRead a addr size errs => Sys2Proof.Machine.execSlotRead a addr size errs s
  | .scrubRead errs => Sys2Proof.Machine.execScrubRead errs s
  | .eccWriteback region word => Sys2Proof.Machine.execEccWriteback region word s
  | .scrubLate => Sys2Proof.Machine.execScrubLate s
  | .windowResult q k codes => Sys2Proof.Machine.execWindowResult q k codes s
  | .seqSwtrig a q => Sys2Proof.Machine.execSeqSwtrig a q s
  | .seqRunEnd q => Sys2Proof.Machine.execSeqRunEnd q s
  | .seqDisable a q v => Sys2Proof.Machine.execSeqDisable a q v s
  | .triggerTimerExpiry t => Sys2Proof.Machine.execTriggerTimerExpiry t s
  | .adcTrigEdge p rising => Sys2Proof.Machine.execAdcTrigEdge p rising s
  | .injectionStart a c k v => Sys2Proof.Machine.execInjectionStart a c k v s
  | .injectionDone c k codes => Sys2Proof.Machine.execInjectionDone c k codes s
  | .calFullRequest a c => Sys2Proof.Machine.execCalFullRequest a c s
  | .calFullStart c => Sys2Proof.Machine.execCalFullStart c s
  | .calEnd c offset gain => Sys2Proof.Machine.execCalEnd c offset gain s
  | .bgcalSlice c offset gain => Sys2Proof.Machine.execBgcalSlice c offset gain s
  | .bgcalStarved c => Sys2Proof.Machine.execBgcalStarved c s
  | .cvPowerDown c => Sys2Proof.Machine.execCvPowerDown c s
  | .cvShutdownDone c => Sys2Proof.Machine.execCvShutdownDone c s
  | .cvStartupDone c => Sys2Proof.Machine.execCvStartupDone c s
  | .refReady c => Sys2Proof.Machine.execRefReady c s
  | .idleScanVisit c => Sys2Proof.Machine.execIdleScanVisit c s
  | .cmpAssert n codes => Sys2Proof.Machine.execCmpAssert n codes s
  | .cmpDeassert n codes => Sys2Proof.Machine.execCmpDeassert n codes s
  | .owPeriodic => Sys2Proof.Machine.execOwPeriodic s
  | .owDwellEnd n => Sys2Proof.Machine.execOwDwellEnd n s
  | .owTestDone n plus minus => Sys2Proof.Machine.execOwTestDone n plus minus s
  | .encEdge n ap an bp bn zp zn => Sys2Proof.Machine.execEncEdge n ap an bp bn zp zn s
  | .delayedEdge n line => Sys2Proof.Machine.execDelayedEdge n line s
  | .noisyInterval n => Sys2Proof.Machine.execNoisyInterval n s
  | .wireFault n line => Sys2Proof.Machine.execWireFault n line s
  | .index n => Sys2Proof.Machine.execIndex n s
  | .zMissing n => Sys2Proof.Machine.execZMissing n s
  | .hallEdge n u v w => Sys2Proof.Machine.execHallEdge n u v w s
  | .hallInvalid n => Sys2Proof.Machine.execHallInvalid n s
  | .rsvSample n sin cos due => Sys2Proof.Machine.execRsvSample n sin cos due s
  | .serFrameStart n slo => Sys2Proof.Machine.execSerFrameStart n slo s
  | .serFrameEnd n bits delay => Sys2Proof.Machine.execSerFrameEnd n bits delay s
  | .serTimeout n => Sys2Proof.Machine.execSerTimeout n s
  | .spdTimeout n => Sys2Proof.Machine.execSpdTimeout n s
  | .periodLatch n => Sys2Proof.Machine.execPeriodLatch n s
  | .srcRestore a n v => Sys2Proof.Machine.execSrcRestore a n v s
  | .posHome c p => Sys2Proof.Machine.execPosHome c p s
  | .posSet c p => Sys2Proof.Machine.execPosSet c p s
  | .carrierEnable a r v => Sys2Proof.Machine.execCarrierEnable a r v s
  | .carrierSyncStart r => Sys2Proof.Machine.execCarrierSyncStart r s
  | .carrierDisable a r v => Sys2Proof.Machine.execCarrierDisable a r v s
  | .carrierZero r => Sys2Proof.Machine.execCarrierZero r s
  | .carrierPeak r => Sys2Proof.Machine.execCarrierPeak r s
  | .cotEndEvent r => Sys2Proof.Machine.execCotEndEvent r s
  | .cotPerMin r => Sys2Proof.Machine.execCotPerMin r s
  | .cotPermax r => Sys2Proof.Machine.execCotPermax r s
  | .dlCal code => Sys2Proof.Machine.execDlCal code s
  | .commitWrite a n v => Sys2Proof.Machine.execCommitWrite a n v s
  | .legCommit a l v => Sys2Proof.Machine.execLegCommit a l v s
  | .faultInputActive j lvl => Sys2Proof.Machine.execFaultInputActive j lvl s
  | .faultInputInactive j lvl => Sys2Proof.Machine.execFaultInputInactive j lvl s
  | .itripActive m => Sys2Proof.Machine.execItripActive m s
  | .blankEnd m => Sys2Proof.Machine.execBlankEnd m s
  | .fltLatchClear a v => Sys2Proof.Machine.execFltLatchClear a v s
  | .outputGateHold cause => Sys2Proof.Machine.execOutputGateHold cause s
  | .outputGateRelease cause => Sys2Proof.Machine.execOutputGateRelease cause s
  | .deadTimeEnd k high => Sys2Proof.Machine.execDeadTimeEnd k high s
  | .measLanding n what => Sys2Proof.Machine.execMeasLanding n what s
  | .speculation n errs => Sys2Proof.Machine.execSpeculation n errs s
  | .specDone n => Sys2Proof.Machine.execSpecDone n s
  | .fastPath n => Sys2Proof.Machine.execFastPath n s
  | .fullEvalDone n errs => Sys2Proof.Machine.execFullEvalDone n errs s
  | .waitLimit n => Sys2Proof.Machine.execWaitLimit n s
  | .fbHoldExpired n => Sys2Proof.Machine.execFbHoldExpired n s
  | .swapRequest a n v => Sys2Proof.Machine.execSwapRequest a n v s
  | .sealRequest a n v => Sys2Proof.Machine.execSealRequest a n v s
  | .sealDone n => Sys2Proof.Machine.execSealDone n s
  | .oscWindowEnd n => Sys2Proof.Machine.execOscWindowEnd n s
  | .fwLimit n => Sys2Proof.Machine.execFwLimit n s
  | .dtcDecision n => Sys2Proof.Machine.execDtcDecision n s
  | .dtcMiss n => Sys2Proof.Machine.execDtcMiss n s
  | .handover n => Sys2Proof.Machine.execHandover n s
  | .ipdComplete n peaks => Sys2Proof.Machine.execIpdComplete n peaks s
  | .obsValid n => Sys2Proof.Machine.execObsValid n s
  | .obsLost n => Sys2Proof.Machine.execObsLost n s
  | .recapture n a1 b1 a2 b2 dt => Sys2Proof.Machine.execRecapture n a1 b1 a2 b2 dt s
  | .recapAttemptEnd n => Sys2Proof.Machine.execRecapAttemptEnd n s
  | .locked n => Sys2Proof.Machine.execLocked n s
  | .lockClear n => Sys2Proof.Machine.execLockClear n s
  | .keAbnormal n => Sys2Proof.Machine.execKeAbnormal n s
  | .keAbnClear a n v => Sys2Proof.Machine.execKeAbnClear a n v s
  | .pllLock n => Sys2Proof.Machine.execPllLock n s
  | .pllUnlock n => Sys2Proof.Machine.execPllUnlock n s
  | .gridBand n => Sys2Proof.Machine.execGridBand n s
  | .chPrecharge c p => Sys2Proof.Machine.execChPrecharge c p s
  | .chEnable c p => Sys2Proof.Machine.execChEnable c p s
  | .chStop c p => Sys2Proof.Machine.execChStop c p s
  | .chSafe c p => Sys2Proof.Machine.execChSafe c p s
  | .chClearFault c p => Sys2Proof.Machine.execChClearFault c p s
  | .chDischarge c p => Sys2Proof.Machine.execChDischarge c p s
  | .swfailWrite a n v => Sys2Proof.Machine.execSwfailWrite a n v s
  | .linkEnable a l v => Sys2Proof.Machine.execLinkEnable a l v s
  | .ovWarn l codes => Sys2Proof.Machine.execOvWarn l codes s
  | .chopOn l codes => Sys2Proof.Machine.execChopOn l codes s
  | .chopOff l codes => Sys2Proof.Machine.execChopOff l codes s
  | .ovAsc l codes => Sys2Proof.Machine.execOvAsc l codes s
  | .ovHard l codes => Sys2Proof.Machine.execOvHard l codes s
  | .linkStarved l => Sys2Proof.Machine.execLinkStarved l s
  | .chopCommit l => Sys2Proof.Machine.execChopCommit l s
  | .chopConfirm l ichop => Sys2Proof.Machine.execChopConfirm l ichop s
  | .prechargeDone l codes => Sys2Proof.Machine.execPrechargeDone l codes s
  | .prechargeFail l => Sys2Proof.Machine.execPrechargeFail l s
  | .prechargeLegOff l => Sys2Proof.Machine.execPrechargeLegOff l s
  | .disDone l codes => Sys2Proof.Machine.execDisDone l codes s
  | .disFail l => Sys2Proof.Machine.execDisFail l s
  | .disTimeout l => Sys2Proof.Machine.execDisTimeout l s
  | .badgerEval smp => Sys2Proof.Machine.execBadgerEval smp s
  | .lockstepMismatch p rp rq parity => Sys2Proof.Machine.execLockstepMismatch p rp rq parity s
  | .cmpSelftest p pOk qOk => Sys2Proof.Machine.execCmpSelftest p pOk qOk s
  | .chuckRelease p differ => Sys2Proof.Machine.execChuckRelease p differ s
  | .stateDigest p m c => Sys2Proof.Machine.execStateDigest p m c s
  | .spindleRestore n => Sys2Proof.Machine.execSpindleRestore n s
  | .corePairRestart c => Sys2Proof.Machine.execCorePairRestart c s
  | .mpRestart => Sys2Proof.Machine.execMpRestart s
  | .debugHalt c => Sys2Proof.Machine.execDebugHalt c s
  | .ckbMonitor edges => Sys2Proof.Machine.execCkbMonitor edges s
  | .ckbTrim => Sys2Proof.Machine.execCkbTrim s
  | .supplyFault r => Sys2Proof.Machine.execSupplyFault r s
  | .bdgUndervoltReset => Sys2Proof.Machine.execBdgUndervoltReset s
  | .scvTdiodeRead t => Sys2Proof.Machine.execScvTdiodeRead t s
  | .wdgKick a c v => Sys2Proof.Machine.execWdgKick a c v s
  | .wdgTimeout c => Sys2Proof.Machine.execWdgTimeout c s
  | .faultRaised src payload => Sys2Proof.Machine.execFaultRaised src payload s
  | .faultRead seq => Sys2Proof.Machine.execFaultRead seq s
  | .faultClear seq srcs => Sys2Proof.Machine.execFaultClear seq srcs s
  | .classRead seq => Sys2Proof.Machine.execClassRead seq s
  | .paramStage seq block crc => Sys2Proof.Machine.execParamStage seq block crc s
  | .paramRead seq => Sys2Proof.Machine.execParamRead seq s
  | .monRead seq => Sys2Proof.Machine.execMonRead seq s
  | .roleSettle => Sys2Proof.Machine.execRoleSettle s
  | .startWaitExpired => Sys2Proof.Machine.execStartWaitExpired s
  | .standbyDemote => Sys2Proof.Machine.execStandbyDemote s
  | .selFbChange lvl => Sys2Proof.Machine.execSelFbChange lvl s
  | .heartbeatMissing => Sys2Proof.Machine.execHeartbeatMissing s
  | .takeoverXlStart => Sys2Proof.Machine.execTakeoverXlStart s
  | .takeoverClaim => Sys2Proof.Machine.execTakeoverClaim s
  | .selectorFault => Sys2Proof.Machine.execSelectorFault s
  | .handoffRelease => Sys2Proof.Machine.execHandoffRelease s
  | .laneUp n => Sys2Proof.Machine.execLaneUp n s
  | .laneDown n => Sys2Proof.Machine.execLaneDown n s
  | .linkDown => Sys2Proof.Machine.execLinkDown s
  | .checkpointRx lane b => Sys2Proof.Machine.execCheckpointRx lane b s
  | .meterCheckpointRx lane b => Sys2Proof.Machine.execMeterCheckpointRx lane b s
  | .timebaseSyncRx lane b => Sys2Proof.Machine.execTimebaseSyncRx lane b s
  | .heartbeatRx lane b => Sys2Proof.Machine.execHeartbeatRx lane b s
  | .configDigestRx lane b => Sys2Proof.Machine.execConfigDigestRx lane b s
  | .meterCheckpointTx => Sys2Proof.Machine.execMeterCheckpointTx s
  | .timebaseSyncTx => Sys2Proof.Machine.execTimebaseSyncTx s
  | .heartbeatTx => Sys2Proof.Machine.execHeartbeatTx s
  | .configDigestTx => Sys2Proof.Machine.execConfigDigestTx s
  | .tlsEnable a v => Sys2Proof.Machine.execTlsEnable a v s
  | .tlsDisable a v => Sys2Proof.Machine.execTlsDisable a v s
  | .pairStatus c p => Sys2Proof.Machine.execPairStatus c p s
  | .pairRole c p => Sys2Proof.Machine.execPairRole c p s
  | .pairRejoin c p => Sys2Proof.Machine.execPairRejoin c p s
  | .packetArrival t src b => Sys2Proof.Machine.execPacketArrival t src b s
  | .sqTailWrite a q v => Sys2Proof.Machine.execSqTailWrite a q v s
  | .mpDispatch => Sys2Proof.Machine.execMpDispatch s
  | .waitExpired q => Sys2Proof.Machine.execWaitExpired q s
  | .mploadWindow busy => Sys2Proof.Machine.execMploadWindow busy s
  | .queueIdleTimeout q => Sys2Proof.Machine.execQueueIdleTimeout q s
  | .challengeExpiry q => Sys2Proof.Machine.execChallengeExpiry q s
  | .nop c p => Sys2Proof.Machine.execNop c p s
  | .getStatus c p => Sys2Proof.Machine.execGetStatus c p s
  | .getEvents c p => Sys2Proof.Machine.execGetEvents c p s
  | .sessionOpen c p => Sys2Proof.Machine.execSessionOpen c p s
  | .challenge c p => Sys2Proof.Machine.execChallenge c p s
  | .openP c p => Sys2Proof.Machine.execOpenP c p s
  | .sessionClose c p => Sys2Proof.Machine.execSessionClose c p s
  | .setProfile c p => Sys2Proof.Machine.execSetProfile c p s
  | .setTorque c p => Sys2Proof.Machine.execSetTorque c p s
  | .setSpeed c p => Sys2Proof.Machine.execSetSpeed c p s
  | .setLimits c p => Sys2Proof.Machine.execSetLimits c p s
  | .setRampLimits c p => Sys2Proof.Machine.execSetRampLimits c p s
  | .cfgWrite c p => Sys2Proof.Machine.execCfgWrite c p s
  | .cfgRead c p => Sys2Proof.Machine.execCfgRead c p s
  | .cfgLock c p => Sys2Proof.Machine.execCfgLock c p s
  | .coefLoad c p => Sys2Proof.Machine.execCoefLoad c p s
  | .coefSwap c p => Sys2Proof.Machine.execCoefSwap c p s
  | .coefRead c p errs => Sys2Proof.Machine.execCoefRead c p errs s
  | .cvCalibrate c p => Sys2Proof.Machine.execCvCalibrate c p s
  | .cvInject c p => Sys2Proof.Machine.execCvInject c p s
  | .cvOpenWireTest c p => Sys2Proof.Machine.execCvOpenWireTest c p s
  | .prtConfig c p => Sys2Proof.Machine.execPrtConfig c p s
  | .prtTest c p => Sys2Proof.Machine.execPrtTest c p s
  | .mtrRead c p => Sys2Proof.Machine.execMtrRead c p s
  | .ledgerFetch c p => Sys2Proof.Machine.execLedgerFetch c p s
  | .mtrCal c p => Sys2Proof.Machine.execMtrCal c p s
  | .owlArm c p => Sys2Proof.Machine.execOwlArm c p s
  | .owlTrigger c p => Sys2Proof.Machine.execOwlTrigger c p s
  | .owlFetch c p errs => Sys2Proof.Machine.execOwlFetch c p errs s
  | .replayStart c p => Sys2Proof.Machine.execReplayStart c p s
  | .settEnumerate c p => Sys2Proof.Machine.execSettEnumerate c p s
  | .settNodeRead c p => Sys2Proof.Machine.execSettNodeRead c p s
  | .settNodeWrite c p => Sys2Proof.Machine.execSettNodeWrite c p s
  | .lcQuery c p => Sys2Proof.Machine.execLcQuery c p s
  | .lcAdvance c p => Sys2Proof.Machine.execLcAdvance c p s
  | .fwUpdate c p => Sys2Proof.Machine.execFwUpdate c p s
  | .keyRevoke c p => Sys2Proof.Machine.execKeyRevoke c p s
  | .bistReport c p => Sys2Proof.Machine.execBistReport c p s
  | .selftestRun c p => Sys2Proof.Machine.execSelftestRun c p s
  | .diagPeek c p => Sys2Proof.Machine.execDiagPeek c p s
  | .poll b => Sys2Proof.Machine.execPoll b s
  | .hlkCmd b => Sys2Proof.Machine.execHlkCmd b s
  | .hlkFast b => Sys2Proof.Machine.execHlkFast b s
  | .discover b => Sys2Proof.Machine.execDiscover b s
  | .hlkAssign b => Sys2Proof.Machine.execHlkAssign b s
  | .hlkFrameAbort => Sys2Proof.Machine.execHlkFrameAbort s
  | .canSegment x b => Sys2Proof.Machine.execCanSegment x b s
  | .canSegmentGap x => Sys2Proof.Machine.execCanSegmentGap x s
  | .canSetpoint x n b => Sys2Proof.Machine.execCanSetpoint x n b s
  | .canBusoff x => Sys2Proof.Machine.execCanBusoff x s
  | .slotStale n g => Sys2Proof.Machine.execSlotStale n g s
  | .ptpSync ts0 t0 rate => Sys2Proof.Machine.execPtpSync ts0 t0 rate s
  | .ptpLost => Sys2Proof.Machine.execPtpLost s
  | .plicClaim a c => Sys2Proof.Machine.execPlicClaim a c s
  | .plicComplete a c v => Sys2Proof.Machine.execPlicComplete a c v s
  | .settFastStart p => Sys2Proof.Machine.execSettFastStart p s
  | .settFastReturn p b arrived crcOk dur slots => Sys2Proof.Machine.execSettFastReturn p b arrived crcOk dur slots s
  | .settSlowStart p b => Sys2Proof.Machine.execSettSlowStart p b s
  | .settSlowReply p b arrived crcOk reply => Sys2Proof.Machine.execSettSlowReply p b arrived crcOk reply s
  | .packidRead => Sys2Proof.Machine.execPackidRead s
  | .packUnverified => Sys2Proof.Machine.execPackUnverified s
  | .settAssignReply p loop r => Sys2Proof.Machine.execSettAssignReply p loop r s
  | .ringBreak p quiet endA endB => Sys2Proof.Machine.execRingBreak p quiet endA endB s
  | .closeTest p arrived => Sys2Proof.Machine.execCloseTest p arrived s
  | .meterBlock smp held clip => Sys2Proof.Machine.execMeterBlock smp held clip s
  | .ledgerRecord => Sys2Proof.Machine.execLedgerRecord s
  | .meterRestore a v => Sys2Proof.Machine.execMeterRestore a v s
  | .cvuStart a c v => Sys2Proof.Machine.execCvuStart a c v s
  | .cvuData a c w v => Sys2Proof.Machine.execCvuData a c w v s
  | .cvuResultRead a c => Sys2Proof.Machine.execCvuResultRead a c s
  | .cvuAlive a c v => Sys2Proof.Machine.execCvuAlive a c v s
  | .cvuAliveClr a c v => Sys2Proof.Machine.execCvuAliveClr a c v s
  | .owlTickHeader => Sys2Proof.Machine.execOwlTickHeader s
  | .owlStop => Sys2Proof.Machine.execOwlStop s
  | .owlOffload a v errs => Sys2Proof.Machine.execOwlOffload a v errs s
  | .owlOffloadDone => Sys2Proof.Machine.execOwlOffloadDone s
  | .owlLoadStore a v => Sys2Proof.Machine.execOwlLoadStore a v s
  | .replayHeader => Sys2Proof.Machine.execReplayHeader s
  | .replayInput errs => Sys2Proof.Machine.execReplayInput errs s
  | .replayEnd => Sys2Proof.Machine.execReplayEnd s
  | .replayAbort a v => Sys2Proof.Machine.execReplayAbort a v s
  | .configDigestUpdate => Sys2Proof.Machine.execConfigDigestUpdate s
  | .porstAssert => Sys2Proof.Machine.execPorstAssert s
  | .porstRelease strap ign secs => Sys2Proof.Machine.execPorstRelease strap ign secs s
  | .pwrReset a v => Sys2Proof.Machine.execPwrReset a v s
  | .badgerStartDone ok phase => Sys2Proof.Machine.execBadgerStartDone ok phase s
  | .startupBistDone res phase fail word region ms => Sys2Proof.Machine.execStartupBistDone res phase fail word region ms s
  | .bootLoadDone => Sys2Proof.Machine.execBootLoadDone s
  | .devReady => Sys2Proof.Machine.execDevReady s
  | .shutdownRequest a v => Sys2Proof.Machine.execShutdownRequest a v s
  | .ignFilterExpiry => Sys2Proof.Machine.execIgnFilterExpiry s
  | .shutdownQuiescent => Sys2Proof.Machine.execShutdownQuiescent s
  | .shutWait => Sys2Proof.Machine.execShutWait s
  | .shutdownBistDone res phase fail word region ms => Sys2Proof.Machine.execShutdownBistDone res phase fail word region ms s
  | .bistTimeout => Sys2Proof.Machine.execBistTimeout s
  | .wakePin rails ign secs => Sys2Proof.Machine.execWakePin rails ign secs s
  | .wakeTimer rails secs => Sys2Proof.Machine.execWakeTimer rails secs s
  | .aonLoss => Sys2Proof.Machine.execAonLoss s
  | .thermalReading t => Sys2Proof.Machine.execThermalReading t s
  | .thmStale => Sys2Proof.Machine.execThmStale s
  | .thmTrim => Sys2Proof.Machine.execThmTrim s
  | .epochAdvance a v => Sys2Proof.Machine.execEpochAdvance a v s
  | .keyProgram a v => Sys2Proof.Machine.execKeyProgram a v s
  | .bistManual a v => Sys2Proof.Machine.execBistManual a v s
  | .selftestDone res phase fail word region ms => Sys2Proof.Machine.execSelftestDone res phase fail word region ms s
  | .fwProgramDone ok => Sys2Proof.Machine.execFwProgramDone ok s
  | .heartbeatPresent => Sys2Proof.Machine.execHeartbeatPresent s
  | .clockReturn d => Sys2Proof.Machine.execClockReturn d s
  | .supplyReturn r => Sys2Proof.Machine.execSupplyReturn r s
  | .registerRead a addr size => Sys2Proof.Machine.execRegisterRead a addr size s
  | .sramAccess a op addr size v errs => Sys2Proof.Machine.execSramAccess a op addr size v errs s
  | .windowOpen q k => Sys2Proof.Machine.execWindowOpen q k s
  | .dutyEdge k => Sys2Proof.Machine.execDutyEdge k s
  | .linkThresholdDeassert l codes => Sys2Proof.Machine.execLinkThresholdDeassert l codes s
  | .encoEdge => Sys2Proof.Machine.execEncoEdge s
  | .canBusoffRecovery x => Sys2Proof.Machine.execCanBusoffRecovery x s
  | .safeEnPulseEnd => Sys2Proof.Machine.execSafeEnPulseEnd s
  | .profileChangeEffect => Sys2Proof.Machine.execProfileChangeEffect s

end Sys2Proof.Machine
end

