-- ==== Sys2Proof/Machine/Tick.lean ====
section
/-! DEFINITION. One tick of CKP with nothing commanded (assumption 2): what the tick has gathered is stored, what is on its way
arrives, and what is due happens. -/

namespace Sys2Proof.Machine

/-- 1 s in ticks. -/
def tk1s : Nat := 400000000

/-- A source of class CH_SAFE or above that is on its way ends a replay when it arrives (R459). -/
def replayFault (s : State) : Bool :=
  s.owl.replay.isSome && s.inflight.any (fun e => decide (2 ≤ classOf s e.1))

/-- The sources on their way arrive, and what follows from them (R330, R333, R459). -/
def tickFaults (s : State) : State :=
  let stop := replayFault s
  let s := (deliverAll s).onIf stop (fun s => endReplay s 11)
  faultNShow (safeEnUpdate s)

/-- The always-on timer counts seconds (R478). -/
def tickAon (s : State) : State :=
  s.onIf (s.now % tk1s + 1 == tk1s) (fun s => aonAdd s 1)

/-- What falls due at an instant of its own: the end of a handover with no channel running (R365), the phases of a shut-down BIST (R471). -/
def tickDue (s : State) : State := bistPhase (releaseIdle (settleOps (shutDischarge (seqDue s))))

/-- One tick: the cores' interrupt lines enter Chuck (R309), the intake and Owl's records are stored (R406, R446, R448), sources arrive, armed triggers fire (R87), the converters go on (R88, R92), discharges of a
shut-down and commands in execution go on (R380, R472), and TS counts (R40). In a device that is held, or before the PLLs have
locked, nothing moves; a CKP that has been lost since goes on counting (R36). -/
def tick (s : State) : State :=
  if s.dev.held || !(s.getB CLK_STATUS_p_lock || s.bdg.clkBad.testBit 1) then s
  else
    let s := tickFaults (owlTick (evFlush (coreIrqs s)))
    let s := tickAon (tickDue s)
    cvbTick { s with ts := s.ts + 1 }

end Sys2Proof.Machine
end

