-- ==== Sys2Proof/Safety.lean ====
section
/-! DEFINITION. What counts as a safe run: no leg with both outputs on (R192), and nothing at the pins of a device that is
held or whose output gate is held (R162, R465). -/

namespace Sys2Proof.Safety

open Sys2Proof.Machine

/-- The high-side and the low-side output of a leg as they stand at the pins (R196). -/
def outputs (s : State) (k : Leg) : Bool × Bool := (s.getB LEGk_STAT_gh k.val, s.getB LEGk_STAT_gl k.val)

/-- Both switches of a leg are on: the link is shorted through it. -/
def ShootThrough (s : State) (k : Leg) : Prop := outputs s k = (true, true)

/-- No leg is shorted through. -/
def NoShootThrough (s : State) : Prop := ∀ k : Leg, ¬ ShootThrough s k

/-- Every gate output is off. -/
def AllOff (s : State) : Prop := ∀ k : Leg, outputs s k = (false, false)

/-- A run is safe as far as this state: no leg is shorted through. -/
def Safe (s : State) : Prop := NoShootThrough s


/-! ### What a command leaves alone -/

/-- The parts of the state beside the register store and the queue. -/
inductive Part where
  | ts | free | rate | sram | mpSram | latheWords | owlWords | ueKnown | writebacks | log | inflight | ports | cvb | pos | gen | chans | sps | links | bdg | chuck | landing | owl | tls | fpl | net | setts | sett | mtr | cvus | pwr | dev
  deriving DecidableEq, Repr

/-- A part is the same in two states. -/
def Part.same (s t : State) : Part → Prop
  | .ts => t.ts = s.ts
  | .free => t.free = s.free
  | .rate => t.rate = s.rate
  | .sram => t.mem.bytes = s.mem.bytes
  | .mpSram => t.mem.mp = s.mem.mp
  | .latheWords => t.mem.lathe = s.mem.lathe
  | .owlWords => t.mem.owl = s.mem.owl
  | .ueKnown => t.mem.ueKnown = s.mem.ueKnown
  | .writebacks => t.mem.writebacks = s.mem.writebacks
  | .log => t.log = s.log
  | .inflight => t.inflight = s.inflight
  | .ports => t.ports = s.ports
  | .cvb => t.cvb = s.cvb
  | .pos => t.pos = s.pos
  | .gen => t.gen = s.gen
  | .chans => t.chans = s.chans
  | .sps => t.sps = s.sps
  | .links => t.links = s.links
  | .bdg => t.bdg = s.bdg
  | .chuck => t.chuck = s.chuck
  | .landing => t.landing = s.landing
  | .owl => t.owl = s.owl
  | .tls => t.tls = s.tls
  | .fpl => t.fpl = s.fpl
  | .net => t.net = s.net
  | .setts => t.setts = s.setts
  | .sett => t.sett = s.sett
  | .mtr => t.mtr = s.mtr
  | .cvus => t.cvus = s.cvus
  | .pwr => t.pwr = s.pwr
  | .dev => t.dev = s.dev

/-- From `s` to `t`, no register field changes but those listed (fields are told apart by their number, whatever the
instance), and no part of the state but those listed. -/
def Keeps (s t : State) (fs : List Fld) (ps : List Part) : Prop :=
  (∀ (f : Fld) (i j : Nat), (∀ g ∈ fs, g.id ≠ f.id) → t.get f i j = s.get f i j) ∧ ∀ p : Part, p ∉ ps → p.same s t


/-! ### When commands are performed -/

/-- The device runs, and its stores are in canonical form. -/
def Ready (s : State) : Prop := s.dev.held = false ∧ s.wf = true

/-- The registers admit a write of this initiator: the device runs, the access has privilege (R73), CFG_LOCK has not been executed
(R9), and no replay of the cores drives the initiator (R458). -/
def Admits (s : State) (a : Access) : Prop := Ready s ∧ a.priv = true ∧ s.dev.cfgLock = false ∧ coreReplay s a.ini = false

/-- A byte of the byte-addressed SRAM as an initiator sees it: the MP sees its private SRAM below 0x10080000 (assumption 9). -/
def sees (s : State) (i : Init) (x : Nat) : Nat := if mpPrivate i x then s.mpByteAt x else s.byteAt x

/-- An SRAM access that R71 admits: privileged, of 1, 2, 4 or 8 bytes, inside the region, within one aligned 64-bit word. -/
def SramAdmits (a : Access) (addr size : Nat) : Prop :=
  a.priv = true ∧ 0x10000000 ≤ addr ∧ addr + size ≤ 0x10600000 ∧ (size = 1 ∨ size = 2 ∨ size = 4 ∨ size = 8) ∧ addr % 8 + size ≤ 8

/-- What the delivery of an event may touch beside the event log: its interrupt, the count of lost events, and Owl's trigger
(R406, R407, R452). -/
def evFlds : List Fld := [PLIC_PEND_bits, FPL_EVT_STAT_lost, OWL_STAT_state, OWL_TRIG_TS_LO_ts, OWL_TRIG_TS_HI_ts, OWL_LOST_count]

/-- The parts of the state that the delivery of an event may touch. -/
def evParts : List Part := [.rate, .log, .owl]

/-- An event of this code and these items has been delivered, where the tick's intake has room (R406). -/
def Logged (s t : State) (code : Nat) (items : List Nat) : Prop := s.log.intake.length < 60 → (code, items) ∈ t.log.intake

end Sys2Proof.Safety
end

