-- ==== Sys2Proof/Certificates/Slice0/Obligations.lean ====
section
/-! DEFINITION. The statements for the provers. Those with basis 'stated' formalise the rule they name; each of the others says what the
model does where several rules meet, and names the log entries (notes/assumptions) of the model's own readings and choices in it. -/

open Sys2Proof Sys2Proof.Machine Sys2Proof.Safety

/-! ### Vocabulary -/

/-- The lock bit that `CLK_STATUS` shows for a domain (R38); CKB and CKW have none. -/
def Sys2Proof.Safety.lockBit (s : State) : Dom → Option Nat
  | .ckc => some (s.get CLK_STATUS_c_lock)
  | .ckp => some (s.get CLK_STATUS_p_lock)
  | .cka => some (s.get CLK_STATUS_a_lock)
  | .ckm => some (s.get CLK_STATUS_m_lock)
  | .ckt => some (s.get CLK_STATUS_t_lock)
  | .cks => some (s.get CLK_STATUS_s_lock)
  | .ckb => none
  | .ckw => none

/-- The MP serves a command of opcode `op`: Faceplate's clock runs, the MP runs its firmware, and the checks of R377 and of the MP's
present state turn the command away with no status. -/
def Sys2Proof.Safety.Serves (s : State) (c : Ctx) (op : Nat) (p : List Nat) : Prop :=
  Ready s ∧ s.bdg.clkBad.testBit 3 = false ∧ mpRuns s = true ∧ opRefusal s { c with opcode := op } p = 0

/-- The pre-decoder serves a command of opcode `op` (R384): Faceplate's clock runs, and the checks pass. -/
def Sys2Proof.Safety.Predecodes (s : State) (c : Ctx) (op : Nat) (p : List Nat) : Prop :=
  Ready s ∧ s.bdg.clkBad.testBit 3 = false ∧ lenMatches op p = true ∧ admission s { c with opcode := op } = 0

/-- An agreed input of this kind lands at a spindle by a command of its own. -/
def Sys2Proof.Safety.inputLands (v : InVal) : Bool := match v with
  | .result _ _ _ _ _ => true
  | .position _ => true
  | .further _ => true
  | .target _ _ _ => false
  | .core _ _ _ => false

/-- A recorded write of a core. -/
def Sys2Proof.Safety.inputWrite (v : InVal) : Bool := match v with
  | .core _ _ _ => true
  | .result _ _ _ _ _ => false
  | .position _ => false
  | .further _ => false
  | .target _ _ _ => false

/-- An address of a register in the privileged aperture, in an assigned block (R71, R72). -/
def Sys2Proof.Safety.registerAddr (addr : Nat) : Bool :=
  decide (0x40000000 ≤ addr) && decide (addr < 0x40800000) && addr % 4 == 0 && assigned.contains (blockOf addr)

/-- The commands that the MP executes, each with its opcode. -/
def Sys2Proof.Safety.mpRows (w : WordErrs) : List (Nat × (Ctx → List Nat → Instr)) :=
  [(0x01, Instr.nop), (0x03, Instr.getEvents), (0x05, Instr.sessionClose), (0x06, Instr.setProfile), (0x10, Instr.chEnable), (0x13, Instr.chClearFault),
    (0x14, Instr.chDischarge), (0x15, Instr.chPrecharge), (0x20, Instr.setTorque), (0x21, Instr.setSpeed), (0x22, Instr.setLimits), (0x23, Instr.setRampLimits),
    (0x30, Instr.cfgWrite), (0x31, Instr.cfgRead), (0x32, Instr.cfgLock), (0x40, Instr.coefLoad), (0x41, Instr.coefSwap), (0x42, fun c p => Instr.coefRead c p w)]
  ++ [(0x50, Instr.cvCalibrate), (0x51, Instr.cvInject), (0x52, Instr.cvOpenWireTest), (0x60, Instr.posHome), (0x61, Instr.posSet), (0x70, Instr.prtConfig),
    (0x71, Instr.prtTest), (0x80, Instr.mtrRead), (0x81, Instr.ledgerFetch), (0x82, Instr.mtrCal), (0x90, Instr.owlArm), (0x91, Instr.owlTrigger),
    (0x92, fun c p => Instr.owlFetch c p w), (0x93, Instr.replayStart), (0xA0, Instr.pairStatus), (0xA1, Instr.pairRole), (0xA2, Instr.pairRejoin)]
  ++ [(0xB0, Instr.settEnumerate), (0xB1, Instr.settNodeRead), (0xB2, Instr.settNodeWrite), (0xC0, Instr.lcQuery), (0xC1, Instr.lcAdvance),
    (0xC2, Instr.fwUpdate), (0xC3, Instr.keyRevoke), (0xF0, Instr.bistReport), (0xF1, Instr.selftestRun), (0xFE, Instr.diagPeek)]

/-- A leg is in order: its switches are not both on, a switch that waits out its dead time has its complement off and not waiting, and a
placed switch state asks for one switch at most. -/
def Sys2Proof.Safety.LegOk (s : State) (k : Leg) : Prop :=
  outputs s k ≠ (true, true) ∧ (s.gen.legs[k].waitH = true → (outputs s k).2 = false ∧ s.gen.legs[k].waitL = false) ∧
    (s.gen.legs[k].waitL = true → (outputs s k).1 = false) ∧ s.gen.legs[k].forced ≠ some (true, true)

/-- Every leg is in order. -/
def Sys2Proof.Safety.LegsOk (s : State) : Prop := ∀ k : Leg, LegOk s k

/-- The commands that the always-on domain and PORST_N perform in a device that is held. -/
def Sys2Proof.Safety.AlwaysOn (i : Instr) : Prop :=
  i = .porstAssert ∨ i = .aonLoss ∨ (∃ a b c, i = .porstRelease a b c) ∨ (∃ a b c, i = .wakePin a b c) ∨ ∃ a b, i = .wakeTimer a b

/-- The pins of the legs as they are shown, and what the active fault inputs show. -/
def Sys2Proof.Safety.legFlds : List Fld := [LEGk_STAT_source, LEGk_STAT_latched, LEGk_STAT_gl, LEGk_STAT_gh, FLT_LVL_itrip, FLT_LVL_flt]

/-- The state of a channel as `CHn_STATE` shows it. -/
def Sys2Proof.Safety.stateFlds : List Fld := [CHn_STATE_safety, CHn_STATE_pat, CHn_STATE_held, CHn_STATE_ss, CHn_STATE_prev, CHn_STATE_state]

/-- What a read of some register may clear or set: the fields that a read clears (R10), and what an ECC error, a bus error or the end of a
replay that the read meets writes. -/
def Sys2Proof.Safety.readFlds : List Fld := [CHn_SLACK_MIN_slack_min, SYS_ECC_CE_count, SYS_ECC_LAST_addr, SYS_ECC_INFO_initiator,
  SYS_ECC_INFO_region, SYS_ECC_INFO_ue_cnt, CVc_INJRk_new, SEQn_OVR_count, SEQn_RESk_new, PIFn_ZSTAT_dev_cnt, PIFn_EDGE_quad_cnt,
  PIFn_EDGE_edge_fault_cnt, PIFn_SER_STAT_ovr_cnt, PIFn_SER_STAT_crc_err_cnt, CHn_CSTAT_per_clamp_cnt, CHn_CSTAT_mismatch_cnt, LEGk_STAT_drop_cnt,
  LEGk_STAT_stretch_cnt, LEGk_CSTAT_per_clamp_cnt, LEGk_CSTAT_mismatch_cnt, LEG_OGATE_replay, SPn_SPEC_REJ_swap, SPn_SPEC_REJ_sat,
  SPn_SPEC_REJ_innov, SPn_MISS_miss_cnt, SPn_OSC_STAT_osc_cnt, SPn_FLD_STAT_task, SPn_FLD_STAT_engine, CHn_OCSTAT_cyc_cnt, CHn_OCSTAT_cyc_run,
  PRT_LNKl_STAT_chop, PRT_LNKl_VMAX_vmax, PRT_LS_CNTp_mis_cnt, PRT_LS_CNTp_lat_cnt, PRT_LS_CNTp_par_cnt, PRT_LS_CNTp_test_cnt,
  PRT_CHUCK_STAT_resample, PRT_CHUCK_STAT_disagree, BDG_WDG_STATc_miss_cnt, TLS_CNT_miss_cnt, TLS_CNT_late_cnt, TLS_CNT_crc_err, TLS_ALIGN_err_max,
  FPL_STAT_rej, FPL_STAT_cpl_drop, FPL_EVT_STAT_ovf, FPL_SLOTST_e2e_cnt, QPq_STAT_wexp_cnt, QPq_STAT_qfull_cnt, HLK_STAT_crc_err, HLK_STAT_abort,
  HLK_STAT_fast_rej, CANx_STAT_e2e_err, SETTp_CNT_overrun, SETTp_CNT_crc_err, SETTp_CNT_breaks, SETT_NODEe_STAT_miss_cnt, MTR_STAT_held,
  OWL_RP_STAT_result, OWL_RP_STAT_running, OWL_RP_STAT_div_cnt, OWL_RP_DIV_PER_period, OWL_RP_DIV_WORD_kind, OWL_RP_DIV_WORD_ch, OWL_RP_DIV_WORD_idx,
  THM_MAX_max, SYS_BUSERR_ADDR_addr]

/-! ### Statements -/

/-- The clock monitors and the rails: what each event does where it applies. A domain that is lost has no lock, and one that is back has
it, CKT only while a lane is up. The model's own readings and choices in it: log entries 7, 125. -/
def Obligations.ClocksAndRails : Prop :=
  ∀ s : State, Ready s →
    (∀ d : Dom, (d ≠ .ckt ∨ s.getB TLS_CFG_en = true) → ∃ t, exec (.clockLoss d) s = .next t ∧
      t.bdg.clkBad = s.bdg.clkBad ||| 2 ^ domBit d ∧ t.inflight = s.inflight ++ [(domBit d, 0)] ∧
      lockBit t d = (lockBit s d).map (fun _ => 0)) ∧
    (∀ d : Dom, s.bdg.clkBad.testBit (domBit d) = true → ∃ t, exec (.clockReturn d) s = .next t ∧
      t.bdg.clkBad = s.bdg.clkBad - 2 ^ domBit d ∧ t.inflight = s.inflight ∧
      lockBit t d = (lockBit s d).map (fun _ => if d = .ckt ∧ s.get TLS_STAT_lane_up = 0 then 0 else 1)) ∧
    (∃ t, exec .xinLoss s = .next t ∧ t.get CLK_STATUS_xin_ok = 0 ∧ t.inflight = s.inflight ++ [(7, 0)]) ∧
    (∃ t, exec .ckwSwitch s = .next t ∧ t.get CLK_STATUS_ckw_src = 1 ∧ Logged s t 0x0102 []) ∧
    (∀ r : Rail, ∃ t, exec (.supplyFault r) s = .next t ∧ t.bdg.railBad = s.bdg.railBad ||| 2 ^ railBit r ∧
      t.inflight = s.inflight ++ [(9 + railBit r, railBit r)] ∧ Logged s t 0x4806 [railBit r]) ∧
    (∀ r : Rail, s.bdg.railBad.testBit (railBit r) = true → ∃ t, exec (.supplyReturn r) s = .next t ∧
      t.bdg.railBad = s.bdg.railBad - 2 ^ railBit r ∧ t.inflight = s.inflight)

/-- The CKA-to-CKP phase: 128 ft either way are no slip; a further one is taken over and reported. -/
def Obligations.PhaseMeasurement : Prop :=
  ∀ (s : State) (ft : Nat), Ready s → ft < 1280 → s.get CLK_CKA_PHASE_phase < 1280 →
    let old := s.get CLK_CKA_PHASE_phase
    let slip := 128 < (ft + 1280 - old) % 1280 ∧ (ft + 1280 - old) % 1280 < 1152
    ∃ t, exec (.phaseMeasure ft) s = .next t ∧
      (slip → t.get CLK_CKA_PHASE_phase = ft ∧ t.get CLK_STATUS_phase_slip = 1 ∧ Logged s t 0x0101 []) ∧
      (¬ slip → t = s)

/-- SRAM accesses without an error in the word read: a store writes its bytes and no other, a load returns them. The model's own readings
and choices in it: log entries 3, 9, 123. -/
def Obligations.SramAccess : Prop :=
  ∀ (s : State) (a : Access) (addr size v : Nat), Ready s → SramAdmits a addr size →
    isUe s (if mpPrivate a.ini addr then 3 else 0) (addr / 8 * 8) = false →
    (∃ t, exec (.sramAccess a .store addr size v []) s = .next t ∧ (t.port a.ini).reply = .none ∧
      ∀ x, sees t a.ini x = if addr ≤ x ∧ x < addr + size then v / 2 ^ (8 * (x - addr)) % 256 else sees s a.ini x) ∧
    (∀ op : MemOp, op ≠ .store → ∃ t, exec (.sramAccess a op addr size v []) s = .next t ∧ t.mem.bytes = s.mem.bytes ∧
      t.mem.mp = s.mem.mp ∧ (t.port a.ini).reply = .data (leNat ((List.range size).map (fun k => sees s a.ini (addr + k)))))

/-- A register read through the privileged aperture by an initiator without a replay: the answer is the register's word, and its RC fields
go back to their reset values, but not for debug access. Registers whose read does more (the claim register, the low and the captured high
halves of 64-bit values) are apart. The model's own readings and choices in it: log entry 8. -/
def Obligations.RegisterRead : Prop :=
  ∀ (s : State) (a : Access) (addr : Nat) (r : Reg) (i j : Nat), Ready s → a.priv = true → s.owl.replay = none →
    registerAddr addr = true → regOf addr = some (r, i, j) → r.addr ≠ PLIC_CLAIM_src.addr → lowHalves.contains r.addr = false →
    sget 0 (s.port a.ini).hi addr = 0 →
    ∃ t, exec (.registerRead a addr 4) s = .next t ∧ (t.port a.ini).reply = .data (regWord s r i j) ∧
      (s.owlOn = false → ∀ f ∈ r.flds, t.get f i j = if f.acc = .rc ∧ a.dbg = false then f.reset else s.get f i j)

/-- A write to a register of a block whose registers do nothing further when written (the clocks', the thermal monitor's, CAN's and
Ethernet's): where the block's rules let it pass, each field takes what its access code says; where they refuse it, the register stays as
it is and the refusal is logged. Without privilege the bus answers with an error and BUSERR_ADDR. The model's own readings and choices in
it: log entries 8, 127. -/
def Obligations.RegisterWrite : Prop :=
  ∀ (s : State) (a : Access) (addr v : Nat) (r : Reg) (i j code : Nat) (items : List Nat), registerAddr addr = true → regOf addr = some (r, i, j) →
    blockOf r.addr ∈ [0x01, 0x03, 0x62, 0x63, 0x64] →
    (Admits s a → preWrite s (applyWr s ⟨r, i, j, v % 2 ^ 32⟩ []) a ⟨r, i, j, v % 2 ^ 32⟩ = .go [] none →
      ∃ t, exec (.registerWrite a addr 4 v) s = .next t ∧ (t.port a.ini).reply = .none ∧
        ∀ f ∈ r.flds, t.get f i j =
          if f.acc = .rw ∨ f.acc = .wod then v % 2 ^ 32 / 2 ^ f.lsb % 2 ^ f.width
          else if f.acc = .w1c then (s.get f i j &&& ((2 ^ f.width - 1) ^^^ (v % 2 ^ 32 / 2 ^ f.lsb % 2 ^ f.width))) % 2 ^ f.width
          else s.get f i j) ∧
    (Admits s a → preWrite s (applyWr s ⟨r, i, j, v % 2 ^ 32⟩ []) a ⟨r, i, j, v % 2 ^ 32⟩ = .no (some (code, items)) →
      ∃ t, exec (.registerWrite a addr 4 v) s = .next t ∧ (t.port a.ini).reply = .none ∧ (∀ f ∈ r.flds, t.get f i j = s.get f i j) ∧
        Logged s t code items) ∧
    (Ready s → a.priv = false → coreReplay s a.ini = false →
      ∃ t, exec (.registerWrite a addr 4 v) s = .next t ∧ (t.port a.ini).reply = .error ∧ t.get SYS_BUSERR_ADDR_addr = addr ∧
        Logged s t 0x0012 [addr])

/-- The scrubber: its index goes round the words; an error of the word it reads is counted or reported, once for each word. The corrected
codeword's write-back ends its being due, and a late sweep is marked. The model's own readings and choices in it: log entries 5, 17. -/
def Obligations.Scrubbing : Prop :=
  ∀ s : State, Ready s →
    (∀ errs : List Nat, ∃ t, exec (.scrubRead errs) s = .next t ∧
      t.get SYS_SCRUB_STAT_pos = (if 1507327 ≤ s.get SYS_SCRUB_STAT_pos then 0 else s.get SYS_SCRUB_STAT_pos + 1) ∧
      (isUe s (scrubWord (s.get SYS_SCRUB_STAT_pos)).1 (scrubWord (s.get SYS_SCRUB_STAT_pos)).2 = false →
        (eccKind errs = 1 → t.get SYS_ECC_CE_count (scrubWord (s.get SYS_SCRUB_STAT_pos)).1
          = min (s.get SYS_ECC_CE_count (scrubWord (s.get SYS_SCRUB_STAT_pos)).1 + 1) (2 ^ SYS_ECC_CE_count.width - 1)) ∧
        (eccKind errs = 2 → isUe t (scrubWord (s.get SYS_SCRUB_STAT_pos)).1 (scrubWord (s.get SYS_SCRUB_STAT_pos)).2 = true ∧
          (ueSrc (scrubWord (s.get SYS_SCRUB_STAT_pos)).1 (scrubWord (s.get SYS_SCRUB_STAT_pos)).2,
            (scrubWord (s.get SYS_SCRUB_STAT_pos)).2) ∈ t.inflight ∧
          t.get SYS_ECC_INFO_initiator = 8))) ∧
    (∀ region word : Nat, ∃ t, exec (.eccWriteback region word) s = .next t ∧
      sget 0 t.mem.writebacks (eccKey region word) = 0 ∧ t.mem.bytes = s.mem.bytes ∧ t.mem.mp = s.mem.mp ∧
      t.mem.lathe = s.mem.lathe ∧ t.mem.owl = s.mem.owl) ∧
    (∃ t, exec .scrubLate s = .next t ∧ t.get SYS_SCRUB_STAT_late = 1 ∧ Logged s t 0x0022 [])

/-- Slots of the Lathe windows: a write that does not cover bytes 12 to 15 is staged and nothing else happens; the one that covers them
commits the word, which is then good; a read that covers bytes 0 to 3 captures the word, or answers an error where the word is or is found
uncorrectable; later parts are served from the capture and read no memory. The model's own readings and choices in it: log entries 3, 121,
122. -/
def Obligations.Slots : Prop :=
  ∀ (s : State) (a : Access) (addr size v : Nat), Ready s → a.priv = true → 0x60000000 ≤ addr → addr < 0x60200000 →
    (size = 4 ∨ size = 8) → addr % size = 0 →
    let g := (addr - 0x60000000) / 16
    (∀ e, addr % 16 + size < 16 → ∃ t, exec (.slotWrite a addr size v e) s = .next t ∧ t.mem = s.mem ∧ (t.port a.ini).reply = .none ∧
      (t.port a.ini).staging.slot = some g ∧ (t.port a.ini).staging.bits / 2 ^ (8 * (addr % 16)) % 2 ^ (8 * size) = v % 2 ^ (8 * size)) ∧
    (∀ e, addr % 16 + size = 16 → size = 8 → (s.port a.ini).staging.slot = some g → ((s.port a.ini).staging.parts = 3 ∨ (s.port a.ini).staging.parts = 7) →
      wordWrite s (chOf (g / 32768)) (g % 32768) = some none → s.replayed (chOf (g / 32768)).val = false →
      (s.port a.ini).staging.bits < 2 ^ 128 →
      ∃ t, exec (.slotWrite a addr size v e) s = .next t ∧ (t.port a.ini).reply = .none ∧ (t.port a.ini).staging.slot = none ∧
        sget 0 t.mem.lathe g = wordBits ⟨(halfVal ((s.port a.ini).staging.bits % 2 ^ 64) true).1, (halfVal (v % 2 ^ 64) true).1⟩ ∧
        isUe t 1 g = false) ∧
    (∀ e, addr % 16 = 0 → isUe s 1 g = false → eccKind e = 0 → ∃ t, exec (.slotRead a addr size e) s = .next t ∧ t.mem = s.mem ∧
      (t.port a.ini).reply = .data (slotImage (s.lwRead g) % 2 ^ (8 * size)) ∧
      (t.port a.ini).capture = ⟨some g, slotImage (s.lwRead g)⟩) ∧
    (∀ e, addr % 16 = 0 → (isUe s 1 g = true ∨ eccKind e = 2) → ∃ t, exec (.slotRead a addr size e) s = .next t ∧
      (t.port a.ini).reply = .error ∧ isUe t 1 g = true ∧ t.mem.lathe = s.mem.lathe) ∧
    (∀ e, addr % 16 ≠ 0 → (s.port a.ini).capture.slot = some g → ∃ t, exec (.slotRead a addr size e) s = .next t ∧ t.mem = s.mem ∧
      (t.port a.ini).reply = .data ((s.port a.ini).capture.bits / 2 ^ (8 * (addr % 16)) % 2 ^ (8 * size)))

/-- Windows of the converters. Ahead of its open instant a window is only prepared; one that reaches it on a free converter is taken there
with its input selected, and on a converter that is off it is not taken. A window whose last sample has been taken is closed, and when
that sample leaves the pipeline the result is written with its flags, NEW and the close; a window that was not taken is STALE; the last
result ends the run. The model's own readings and choices in it: log entries 22, 107, 109. -/
def Obligations.Windows : Prop :=
  ∀ (s : State) (q : Sq) (k : Fin 16), Ready s →
    (∀ (u : State) (c : Cv), u = seqDue s → c = cvOf (u.get SEQn_STEPk_A_conv q.val k.val) → u.cvb.seqs[q].wins[k].st = .sched →
       (s.now < u.cvb.seqs[q].wins[k].openTs → ∃ t, exec (.windowOpen q k) s = .next t ∧ t.cvb.seqs = u.cvb.seqs) ∧
       (u.cvb.seqs[q].wins[k].openTs ≤ s.now → cvMode u c = 3 → ∃ t, exec (.windowOpen q k) s = .next t ∧
         t.cvb.seqs[q].wins[k].st = .untaken ∧ t.cvb.conv = u.cvb.conv) ∧
       (u.cvb.seqs[q].wins[k].openTs ≤ s.now → cvMode u c ≠ 3 → u.cvb.conv[c].calDone = true → cvSt u c = 3 →
         u.cvb.conv[c].work = .idle → u.cvb.conv[c].injWait = [] → u.cvb.conv[c].split = none → dueWins u c = [] →
         u.cvb.seqs[q].wins[k].partner = false →
         ∃ t, exec (.windowOpen q k) s = .next t ∧ t.cvb.seqs[q].wins[k].st = .taking ∧
           t.cvb.conv[c].work = .window q.val k.val ∧ t.get CVc_STAT_cur_input c.val = u.get SEQn_STEPk_A_input q.val k.val % 16)) ∧
    (∀ (codes : List Int) (c : Cv), s.cvb.seqs[q].wins[k].st = .taking → c = cvOf s.cvb.seqs[q].wins[k].conv →
      s.cvb.conv[c].work = .window q.val k.val → s.cvb.seqs[q].closed.find? (fun e => e.1 == k.val) = none →
      winN s q k ≤ codes.length →
      let w : Win := { s.cvb.seqs[q].wins[k] with refNR := s.cvb.seqs[q].wins[k].refNR || !s.getB CVc_STAT_ref_ready c.val }
      ∃ t, exec (.windowResult q k codes) s = .next t ∧
      t.get SEQn_RESk_value q.val k.val = windowValue (codes.take (winN s q k)) (s.get SEQn_STEPk_A_shift q.val k.val) ∧
      t.get SEQn_RESk_flags q.val k.val = winFlags w (codes.take (winN s q k)) ∧
      t.get SEQn_RESk_new q.val k.val = 1 ∧ t.get SEQn_STAT_last_step q.val = k.val ∧
      t.get SEQn_RCLOSEk_ts q.val k.val = w.lastFt / 128 % 2 ^ 32 ∧ t.cvb.seqs[q].wins[k].st = .idle) ∧
    (∀ (codes : List Int) (w : Win), s.cvb.seqs[q].wins[k].st ≠ .taking →
      s.cvb.seqs[q].closed.find? (fun e => e.1 == k.val) = some (k.val, w) → w.st = .taking → winN s q k ≤ codes.length →
      ∃ t, exec (.windowResult q k codes) s = .next t ∧
      t.get SEQn_RESk_value q.val k.val = windowValue (codes.take (winN s q k)) (s.get SEQn_STEPk_A_shift q.val k.val) ∧
      t.get SEQn_RESk_flags q.val k.val = winFlags w (codes.take (winN s q k)) ∧
      t.get SEQn_RESk_new q.val k.val = 1 ∧ t.get SEQn_STAT_last_step q.val = k.val ∧
      t.get SEQn_RCLOSEk_ts q.val k.val = w.lastFt / 128 % 2 ^ 32) ∧
    (∀ codes : List Int, s.cvb.seqs[q].wins[k].st = .untaken → s.cvb.seqs[q].closed.find? (fun e => e.1 == k.val) = none →
      ∃ t, exec (.windowResult q k codes) s = .next t ∧
      t.get SEQn_RESk_value q.val k.val = s.get SEQn_RESk_value q.val k.val ∧
      t.get SEQn_RESk_flags q.val k.val = winFlags s.cvb.seqs[q].wins[k] [] ∧ t.get SEQn_RESk_new q.val k.val = 1 ∧
      t.get SEQn_RCLOSEk_ts q.val k.val = s.cvb.seqs[q].wins[k].lastFt / 128 % 2 ^ 32) ∧
    (s.getB SEQn_STAT_running q.val = true → seqFinished s q = true → s.cvb.seqs[q].stored = none →
      (∀ p : Sq, s.get SEQn_TRIG_src p.val ≠ 0x28 + q.val) →
      ∃ t, exec (.seqRunEnd q) s = .next t ∧ t.get SEQn_STAT_running q.val = 0 ∧ t.getBit PLIC_PEND_bits (16 + q.val) = true)

/-- What starts a sequencer, and injections: a software trigger, a timer, an edge of an ADC trigger pin; disabling one; an injection
requested, and its completion. -/
def Obligations.Triggers : Prop :=
  ∀ s : State, Ready s →
    (∀ (a : Access) (q : Sq), Admits s a → s.getB SEQn_CTL_en q.val = true → s.getB SEQn_STAT_running q.val = false →
      s.get SEQn_TRIG_src q.val = 1 → ∃ t, exec (.seqSwtrig a q) s = .next t ∧ (t.port a.ini).reply = .none ∧
        t.get SEQn_STAT_running q.val = 1 ∧ t.get64 SEQn_TRIG_TS_LO_ts SEQn_TRIG_TS_HI_ts q.val = s.now) ∧
    (∀ (a : Access) (q : Sq) (v : Nat), Admits s a → s.getB SEQn_CTL_en q.val = true → seqFeedsRun s q.val = false →
      v / 2 ^ SEQn_CTL_en.lsb % 2 = 0 → v / 2 ^ SEQn_CTL_policy.lsb % 4 ≠ 3 →
      ∃ t, exec (.seqDisable a q v) s = .next t ∧ (t.port a.ini).reply = .none ∧ t.get SEQn_CTL_en q.val = 0 ∧
        t.get SEQn_STAT_queued q.val = 0) ∧
    (∀ (p : Fin 4) (q : Sq), s.getB SEQ_TTt_CTL_en p.val = true → s.cvb.tt[p].isSome = true → s.get SEQn_TRIG_src q.val = 0x18 + p.val →
      s.getB SEQn_CTL_en q.val = true → s.getB SEQn_STAT_running q.val = false →
      ∃ t, exec (.triggerTimerExpiry p) s = .next t ∧ t.get SEQn_STAT_running q.val = 1 ∧
        t.cvb.tt[p] = some (s.now + s.get SEQ_TTt_PER_per p.val)) ∧
    (∀ p : Fin 4, s.cvb.tt[p] = none → ∃ t, exec (.triggerTimerExpiry p) s = .next t ∧ t = s) ∧
    (∀ (p : Fin 4) (r : Bool) (q : Sq), s.get SEQn_TRIG_src q.val = (if r then 0x20 else 0x24) + p.val →
      s.getB SEQn_CTL_en q.val = true → s.getB SEQn_STAT_running q.val = false →
      ∃ t, exec (.adcTrigEdge p r) s = .next t ∧ t.get SEQn_STAT_running q.val = 1) ∧
    (∀ (a : Access) (c : Cv) (k : Fin 4) (v : Nat), Admits s a → s.getB CVc_INJk_start c.val k.val = false →
      v / 2 ^ CVc_INJk_start.lsb % 2 = 1 → windowOk (v / 2 ^ CVc_INJk_shift.lsb % 2 ^ CVc_INJk_shift.width)
        (v / 2 ^ CVc_INJk_log2n.lsb % 2 ^ CVc_INJk_log2n.width) (v / 2 ^ CVc_INJk_input.lsb % 2 ^ CVc_INJk_input.width) = true →
      ∃ t, exec (.injectionStart a c k v) s = .next t ∧ (t.port a.ini).reply = .none ∧ t.get CVc_INJk_start c.val k.val = 1 ∧
        t.get CVc_INJk_input c.val k.val = v / 2 ^ CVc_INJk_input.lsb % 2 ^ CVc_INJk_input.width) ∧
    (∀ (c : Cv) (k : Fin 4) (codes : List Int), (s.cvb.conv[c].work = .inj k.val ∨ s.cvb.conv[c].injOut.any (fun e => e.slot == k.val) = true) →
      2 ^ s.get CVc_INJk_log2n c.val k.val ≤ codes.length →
      ∃ t, exec (.injectionDone c k codes) s = .next t ∧ t.get CVc_INJk_start c.val k.val = 0 ∧
        t.get CVc_INJRk_value c.val k.val = windowValue (codes.take (2 ^ s.get CVc_INJk_log2n c.val k.val)) (s.get CVc_INJk_shift c.val k.val))

/-- Calibration and power of a converter: what each event does where it applies. The model's own readings and choices in it: log entries
22, 108, 109. -/
def Obligations.Converters : Prop :=
  ∀ (s : State) (c : Cv), Ready s →
    (∀ a : Access, Admits s a → (feedsRunning s c = false ∨ s.getB CVc_CFG_partner_en c.val = true) →
      ∃ t, exec (.calFullRequest a c) s = .next t ∧ (t.port a.ini).reply = .none ∧ t.get CVc_CAL_full c.val = 1) ∧
    (calMayStart s c = true → ∃ t, exec (.calFullStart c) s = .next t ∧ t.cvb.conv[c].work = .cal ∧
      t.get CVc_CAL_full_busy c.val = 1 ∧ cvSt t c = 5) ∧
    (∀ o g : Int, s.cvb.conv[c].work = .cal → ∃ t, exec (.calEnd c o g) s = .next t ∧ t.get CVc_CAL_full c.val = 0 ∧
      t.get CVc_CAL_full_busy c.val = 0 ∧ t.cvb.conv[c].calDone = true ∧
      (-512 ≤ o → o ≤ 512 → -31457 ≤ g → g ≤ 31457 →
        t.getS CVc_TRIM_offset c.val = o ∧ t.getS CVc_TRIM_gain c.val = g ∧ t.get CVc_CAL_ok c.val = 1) ∧
      (512 < o → t.get CVc_CAL_ok c.val = 0 ∧ (0x29, c.val + 256 * fedChans s c) ∈ t.inflight)) ∧
    (∀ o g : Int, s.getB CVB_CTL_bgcal_en = true → cvSt s c = 3 → s.cvIdle c = true →
      gapHolds s c (ckaAt s s.nowFt) (64 + s.get CVc_CFG_mux_settle c.val) = true →
      ∃ t, exec (.bgcalSlice c o g) s = .next t ∧ t.cvb.conv[c].work = .bg ∧ t.cvb.conv[c].doneFt = ckaAt s s.nowFt + 1280 * 63 ∧
        t.get CVc_CAL_bg_busy c.val = 1) ∧
    (s.getB CVB_CTL_bgcal_en = true → cvMode s c ≠ 3 → ∃ t, exec (.bgcalStarved c) s = .next t ∧
      t.get CVc_CAL_bg_slice c.val = 0 ∧ t.get CVc_CAL_bg_busy c.val = 1 ∧ Logged s t 0x1003 [c.val]) ∧
    (mayShut s c = true → ∃ t, exec (.cvPowerDown c) s = .next t ∧ cvSt t c = 1) ∧
    (cvSt s c = 1 → ∃ t, exec (.cvShutdownDone c) s = .next t ∧
      cvSt t c = if cvMode s c = 3 then 0 else if s.cvb.conv[c].startReq then 2 else 4) ∧
    ((cvSt s c = 2 ∨ cvSt s c = 4 ∨ (cvSt s c = 0 ∧ cvMode s c ≠ 3)) → ∃ t, exec (.cvStartupDone c) s = .next t ∧ cvSt t c = 3) ∧
    (s.get CVc_CFG_ref_mode c.val ≠ 0 → s.getB CVc_CFG_ref_en c.val = true →
      ∃ t, exec (.refReady c) s = .next t ∧ t.get CVc_STAT_ref_ready c.val = 1) ∧
    (cvSt s c = 3 → s.cvIdle c = true → ∀ j, nextScan (s.get CVc_IDLESCAN_mask c.val) (s.get CVc_STAT_cur_input c.val) = some j →
      ∃ t, exec (.idleScanVisit c) s = .next t ∧ t.get CVc_STAT_cur_input c.val = j % 16)

/-- The comparators and the open-wire tests: a sample that completes the count asserts a comparator, a sample at the hysteresis level
deasserts it; a test runs through its windows and ends with its result. -/
def Obligations.Comparators : Prop :=
  ∀ (s : State) (i : Ain), Ready s →
    (∀ x : Int, s.getB CMPi_CFG_en i.val = true → s.getB CMPi_STAT_hi_out i.val = false → s.getS CMPi_THR_hi i.val < x →
      s.get CMPi_CFG_filt i.val + 1 ≤ s.cvb.cmps[i].hiCnt + 1 → ∃ t, exec (.cmpAssert i [x]) s = .next t ∧
      t.get CMPi_STAT_hi_out i.val = 1 ∧ t.get CMPi_STAT_hi_sticky i.val = 1 ∧
      (s.getB CMPi_STAT_hi_sticky i.val = false → Logged s t 0x1004 [i.val, 0])) ∧
    (∀ x : Int, s.getB CMPi_CFG_en i.val = true → s.getB CMPi_STAT_hi_out i.val = true →
      x ≤ s.getS CMPi_THR_hi i.val - s.get CMPi_CFG_hyst i.val → ∃ t, exec (.cmpDeassert i [x]) s = .next t ∧
      t.get CMPi_STAT_hi_out i.val = 0 ∧ t.get CMPi_STAT_hi_sticky i.val = s.get CMPi_STAT_hi_sticky i.val) ∧
    (s.getB CVB_OW_CTL_period = true → s.getB CMPi_CFG_ow_periodic i.val = true → s.cvb.cmps[i].ow = .idle → ∃ t, exec .owPeriodic s = .next t ∧
      t.cvb.cmps[i].ow = .up) ∧
    (∃ t, exec (.owDwellEnd i) s = .next t ∧ (s.cvb.cmps[i].ow = .up → t.cvb.cmps[i].ow = .winP) ∧
      (s.cvb.cmps[i].ow = .winP → t.cvb.cmps[i].ow = .winP) ∧ (s.cvb.cmps[i].ow = .down → t.cvb.cmps[i].ow = .winM)) ∧
    (∀ p m : List Int, owMayEnd s i = true → owBoth s i p m = true → ∃ t, exec (.owTestDone i p m) s = .next t ∧
      ((s.get CVB_OW_CTL_ow_thr : Int) * 16 < p.sum - m.sum →
        t.get CMPi_STAT_ow i.val = 2 ∧ (0x2A, i.val) ∈ t.inflight) ∧
      (p.sum - m.sum ≤ (s.get CVB_OW_CTL_ow_thr : Int) * 16 → t.get CMPi_STAT_ow i.val = 1)) ∧
    (∀ p m : List Int, owMayEnd s i = true → owBoth s i p m = false → ∃ t, exec (.owTestDone i p m) s = .next t ∧
      t.get CMPi_STAT_ow i.val = 3 ∧ t.cvb.cmps[i].ow = .idle)

/-- The incremental and Hall decoders: counting, edges of both lines on one tick, which do not count, index, rejected and missing edges,
faults of the lines, and the divided output. The model's own readings and choices in it: log entries 87, 99, 102. -/
def Obligations.EncoderEdges : Prop :=
  ∀ (s : State) (n : Ch), Ready s →
    (∀ (ap bp zp : Bool), srcUsed s n 1 = true → ap ≠ (s.pif n).lines[0].logic → ap ≠ (s.pif n).lines[0].level →
      ((s.pif n).lines[0].accTs = none ∨ s.get PIFn_FILT_min_edge n.val ≤ s.now - (s.pif n).lines[0].accTs.getD 0) →
      bp = (s.pif n).lines[1].logic → zp = (s.pif n).lines[2].logic → abzUndo s n 0 = none → (s.pif n).posSet.all (fun p => p.1 != s.now) = true →
      let cpr := max 1 (s.get PIFn_GEOM_cpr n.val)
      let r := s.get PIFn_REVPOS_rev_pos n.val
      let neg := (quadIdx ap (s.pif n).lines[1].level
        != (quadIdx (s.pif n).lines[0].level (s.pif n).lines[1].level + 1) % 4) != s.getB PIFn_CTL_dir_inv n.val
      ∃ t, exec (.encEdge n ap (!ap) bp (!bp) zp (!zp)) s = .next t ∧
        t.get PIFn_REVPOS_rev_pos n.val = (if neg then (r + cpr - 1) % cpr else (r + 1) % cpr) % 2 ^ 24) ∧
    (srcUsed s n 1 = true → (s.pif n).lines[0].logic ≠ (s.pif n).lines[0].level →
      ((s.pif n).lines[0].accTs = none ∨ s.get PIFn_FILT_min_edge n.val ≤ s.now - (s.pif n).lines[0].accTs.getD 0) → abzUndo s n 0 = none → (s.pif n).posSet.all (fun p => p.1 != s.now) = true →
      let cpr := max 1 (s.get PIFn_GEOM_cpr n.val)
      let r := s.get PIFn_REVPOS_rev_pos n.val
      let neg := (quadIdx (s.pif n).lines[0].logic (s.pif n).lines[1].level
        != (quadIdx (s.pif n).lines[0].level (s.pif n).lines[1].level + 1) % 4) != s.getB PIFn_CTL_dir_inv n.val
      ∃ t, exec (.delayedEdge n 0) s = .next t ∧
        t.get PIFn_REVPOS_rev_pos n.val = (if neg then (r + cpr - 1) % cpr else (r + 1) % cpr) % 2 ^ 24) ∧
    (∀ u : AbPrev, srcUsed s n 1 = true → (s.pif n).lines[0].logic ≠ (s.pif n).lines[0].level →
      ((s.pif n).lines[0].accTs = none ∨ s.get PIFn_FILT_min_edge n.val ≤ s.now - (s.pif n).lines[0].accTs.getD 0) →
      abzUndo s n 0 = some u → ∃ t, exec (.delayedEdge n 0) s = .next t ∧ t.get PIFn_REVPOS_rev_pos n.val = u.rev % 2 ^ 24 ∧
        (t.pif n).count = u.count ∧ t.get PIFn_EDGE_quad_cnt n.val = min (s.get PIFn_EDGE_quad_cnt n.val + 1) (2 ^ PIFn_EDGE_quad_cnt.width - 1)) ∧
    (∃ t, exec (.noisyInterval n) s = .next t ∧ (t.pif n).rejects = 0 ∧ (t.pif n).noisyDone = false) ∧
    (srcUsed s n 1 = true → ∃ t, exec (.wireFault n 0) s = .next t ∧ t.get PIFn_FSTAT_wire n.val = 1 ∧
      (chSrc n.val 5, 1) ∈ t.inflight) ∧
    ((s.pif n).zEdge = true → s.getB PIFn_ZSTAT_referenced n.val = false → ∃ t, exec (.index n) s = .next t ∧
      t.get PIFn_ZSTAT_referenced n.val = 1 ∧ (t.pif n).sinceIndex = 0 ∧ (t.pif n).zEdge = false ∧
      t.get PIFn_REVPOS_rev_pos n.val = s.get PIFn_ZEXP_z_exp n.val % 2 ^ 24) ∧
    (srcUsed s n 1 = true → s.getB PIFn_CTL_z_en n.val = true → (s.pif n).zMiss = false →
      3 * (s.get PIFn_GEOM_cpr n.val : Int) ≤ 2 * |(s.pif n).sinceIndex| → ∃ t, exec (.zMissing n) s = .next t ∧
      t.get PIFn_FSTAT_z_missing n.val = 1 ∧ (chSrc n.val 5, 1) ∈ t.inflight) ∧
    (∀ (u v w : Bool), srcUsed s n 2 = true → u ≠ (s.pif n).lines[3].logic → u ≠ (s.pif n).lines[3].level →
      ((s.pif n).lines[3].accTs = none ∨ s.get PIFn_FILT_min_edge n.val ≤ s.now - (s.pif n).lines[3].accTs.getD 0) →
      v = (s.pif n).lines[4].logic → w = (s.pif n).lines[5].logic → (s.pif n).sector = none →
      let st := (if u then 4 else 0) + (if (s.pif n).lines[4].level then 2 else 0) + (if (s.pif n).lines[5].level then 1 else 0)
      st ≠ 0 → st ≠ 7 →
      ∃ t, exec (.hallEdge n u v w) s = .next t ∧ (t.pif n).sector = some (hallSector s n st)) ∧
    (srcUsed s n 2 = true → (s.pif n).lines[3].level = (s.pif n).lines[4].level →
      (s.pif n).lines[4].level = (s.pif n).lines[5].level → ∃ t, exec (.hallInvalid n) s = .next t ∧
      t.get PIFn_FSTAT_hall_invalid n.val = 1 ∧ (chSrc n.val 5, 2) ∈ t.inflight) ∧
    (0 < s.pos.enco.lag → s.getB ENCO_CTL_en = true → s.pos.enco.last + 20 ≤ s.now → ∃ t, exec .encoEdge s = .next t ∧
      t.pos.enco = ⟨s.pos.enco.state + 1, s.pos.enco.lag - 1, s.now⟩)

/-- The sampled position sources, the speed's absence, and the period latch. The model's own readings and choices in it: log entries 18,
19, 20, 42. -/
def Obligations.SampledPositions : Prop :=
  ∀ (s : State) (n : Ch), Ready s →
    (∀ (sin cos : List (Int × Nat)) (due : Nat), srcUsed s n 3 = true → sin.length = due → cos.length = due →
      (s.pif n).rsv.has = false → (excCentre s n).isSome = true →
      let x := demod (s.get PIFn_RSV_PH_phase n.val) sin
      let y := demod (s.get PIFn_RSV_PH_phase n.val) cos
      ((s.get PIFn_RSV_AMP_amp_lo n.val : Int) * 2 ^ 30) ^ 2 ≤ x * x + y * y →
      x * x + y * y ≤ ((s.get PIFn_RSV_AMP_amp_hi n.val : Int) * 2 ^ 30) ^ 2 →
      ∃ t, exec (.rsvSample n sin cos due) s = .next t ∧ (t.pif n).rsv.has = true ∧ (t.pif n).gaps = 0 ∧ (t.pif n).amps = 0 ∧
        (t.pif n).rsv.ang = (s.get PIFn_RSV_ratio n.val * (atan2Turn x y 24 * 256) + s.get PIFn_AOFS_aofs n.val) % 2 ^ 32 ∧
        some (t.pif n).rsv.ts = excCentre s n) ∧
    (srcUsed s n 4 = true ∨ srcUsed s n 5 = true → (s.pif n).frame.run = false → (s.pif n).frame.wait = false →
      (s.pif n).frame.last = none → (serDue s n).isSome = true → ∃ t, exec (.serFrameStart n true) s = .next t ∧ (t.pif n).frame.run = true ∧ (t.pif n).frame.t0 = s.now) ∧
    (srcUsed s n 4 = true ∨ srcUsed s n 5 = true → (s.pif n).frame.run = false → (s.pif n).frame.wait = false →
      (s.pif n).frame.last = none → (serDue s n).isSome = true → (s.pif n).frame.back = false →
      ∃ t, exec (.serFrameStart n false) s = .next t ∧ (t.pif n).frame.wait = true ∧ (t.pif n).frame.run = false) ∧
    (∀ slo : Bool, srcUsed s n 4 = true ∨ srcUsed s n 5 = true → (s.pif n).frame.run = true → (serDue s n).isSome = true →
      ∃ t, exec (.serFrameStart n slo) s = .next t ∧ (t.pif n).frame.run = true ∧ (t.pif n).frame.t0 = (s.pif n).frame.t0 ∧
      t.get PIFn_SER_STAT_ovr_cnt n.val = min (s.get PIFn_SER_STAT_ovr_cnt n.val + 1) (2 ^ PIFn_SER_STAT_ovr_cnt.width - 1)) ∧
    (∀ (bits : List Bool) (delay : Nat), (s.pif n).frame.run = true → serCode s n = 5 → s.getB PIFn_SER_parity n.val = false →
      s.getB PIFn_SER_gray n.val = false → bits.length = s.get PIFn_SER_pos_bits n.val + 1 → bits.getLast? = some false →
      (s.pif n).ser.has = false →
      ∃ t, exec (.serFrameEnd n bits delay) s = .next t ∧ (t.pif n).frame.run = false ∧ (t.pif n).ser.has = true ∧
        (t.pif n).ser.ang = abzAngle s n (bitsVal (bits.take (s.get PIFn_SER_pos_bits n.val)) % 2 ^ s.get PIFn_SER_st_bits n.val)
          (2 ^ s.get PIFn_SER_st_bits n.val)) ∧
    ((s.pif n).frame.run = true → serCode s n = 4 → ∃ t, exec (.serTimeout n) s = .next t ∧ (t.pif n).frame.run = false ∧
      (t.pif n).frame.errs = (s.pif n).frame.errs + 1 ∧
      t.get PIFn_SER_STAT_crc_err_cnt n.val = min (s.get PIFn_SER_STAT_crc_err_cnt n.val + 1) 255) ∧
    ((s.pif n).abz.est.valid = true → s.get PIFn_SPDCFG_spd_timeout n.val * tkUs ≤ s.now - (s.pif n).abz.est.tLast →
      ∃ t, exec (.spdTimeout n) s = .next t ∧ (t.pif n).abz.est.valid = false ∧ (t.pif n).abz.est.n = 0) ∧
    (s.getB PIFn_CTL_en n.val = true → s.replayed n.val = false → ∃ t, exec (.periodLatch n) s = .next t ∧
      ∃ r, (t.pif n).record = some r ∧ t.get PIFn_ANGLE_angle n.val = r.ang % 2 ^ 32 ∧
        (s.six = false ∨ n ≠ 1 → (⟨2 + n.val, .position r, s.now, false⟩ : ChuckItem) ∈ t.chuck) ∧
        (s.six = true → n = 1 → (⟨3, .further r, s.now, false⟩ : ChuckItem) ∈ t.chuck)) ∧
    (∀ (a : Access) (v : Nat), Admits s a → v / 2 ^ 12 % 2 = 1 →
      (∀ f ∈ [PIFn_CTL_dir_inv, PIFn_CTL_trig_sel, PIFn_CTL_fb_en, PIFn_CTL_z_corr, PIFn_CTL_z_en, PIFn_CTL_sec_src,
        PIFn_CTL_pri_src, PIFn_CTL_en], s.get f n.val = v / 2 ^ f.lsb % 2 ^ f.width) →
      pifSrcOk (s.getB PIFn_CTL_en n.val) (s.get PIFn_CTL_pri_src n.val) (s.get PIFn_CTL_sec_src n.val) = true →
      pifClkOk (s.get PIFn_CTL_pri_src n.val) (s.get PIFn_SER_clk_div n.val) = true → srcHealthy s n true = true →
      (srcView s n (srcCodeOf s n true)).2.2.2.1 = true →
      ∃ t, exec (.srcRestore a n v) s = .next t ∧ (t.port a.ini).reply = .none ∧ (t.pif n).restore = true)

/-- Carriers: enabling and disabling one, a synchronised start, reloads, zeros and peaks, and the ends of a COT or CFT period. The model's
own readings and choices in it: log entries 16, 55, 111, 112. -/
def Obligations.Carriers : Prop :=
  ∀ (s : State) (a : Access) (r : Carr) (v : Nat), Ready s →
    (Admits s a → (s.carrier r).run = false → (s.carrier r).waiting = false → s.get TLS_STAT_role ≠ 2 →
      cget s r CHn_CARR_en LEGk_CARR_en = 0 → v % 2 = 1 → v / 16 % 4 < 2 → v / 256 % 4 ≤ 2 → (v / 16 % 4 = 0 ∨ v / 256 % 4 = 0) →
      (∀ n, r = .ch n → v / 4096 % 2 = 0 ∧ s.get CHn_CARR_sync n.val = 0 ∧ s.get CHn_CTL_dmode n.val ≤ 1 ∧ (n = 1 → s.six = false)) →
      (∀ k, r = .aux k → v / 2048 % 2 = 0 ∧ v / 64 % 4 ≤ 1 ∧ v / 4 % 4 ≤ 1) →
      ∃ t, exec (.carrierEnable a r v) s = .next t ∧ (t.carrier r).run = true ∧ cget t r CHn_CARR_en LEGk_CARR_en = 1 ∧
        cget t r CHn_CSTAT_running LEGk_CSTAT_running = 1) ∧
    (Admits s a → (s.carrier r).run = true → cget s r CHn_CARR_en LEGk_CARR_en = 1 → v % 2 = 0 → carrCfgOk s r = true →
      carrMode s r < 2 → (∀ n, r = .ch n → v / 16 % 4 = s.get CHn_CARR_mode n.val ∧ v / 256 % 4 = s.get CHn_CARR_rl n.val ∧
        v / 4096 % 2 = s.get CHn_CARR_sync n.val ∧ v / 65536 % 65536 = s.get CHn_CARR_phase n.val) →
      (∀ k, r = .aux k → v / 4 % 4 = s.get LEGk_CARR_src (12 + k.val) ∧ v / 4 % 4 ≤ 1 ∧ v / 16 % 4 = s.get LEGk_CARR_mode (12 + k.val) ∧
        v / 64 % 4 = s.get LEGk_CARR_dmode (12 + k.val) ∧ v / 256 % 4 = s.get LEGk_CARR_rl (12 + k.val) ∧
        v / 2048 % 2 = s.get LEGk_CARR_sync (12 + k.val) ∧ v / 4096 % 4 = s.get LEGk_CARR_sync_ch (12 + k.val) ∧
        v / 65536 % 65536 = s.get LEGk_CARR_phase (12 + k.val)) →
      ∃ t, exec (.carrierDisable a r v) s = .next t ∧ (t.carrier r).run = false ∧ (t.carrier r).pend = none ∧
        cget t r CHn_CARR_en LEGk_CARR_en = 0 ∧ cget t r CHn_CSTAT_running LEGk_CSTAT_running = 0) ∧
    ((s.carrier r).waiting = true → (peerStart s = true ∨ cget s r CHn_CARR_sync LEGk_CARR_sync = 0 ∨ ((s.carrier r).startFt.any fun f => f / 128 ≤ s.now) = true) →
      ∃ t, exec (.carrierSyncStart r) s = .next t ∧ (t.carrier r).run = true ∧ (t.carrier r).waiting = false ∧ 
        (t.carrier r).halfFt = (if peerStart s || cget s r CHn_CARR_sync LEGk_CARR_sync == 0 then (s.now + 1) * 128 else (s.carrier r).startFt.getD 0) ∧
        (t.carrier r).act = shadowCommit s r 0 ∧ cget t r CHn_CSTAT_running LEGk_CSTAT_running = 1) ∧
    ((s.carrier r).waiting = true → peerStart s = false → cget s r CHn_CARR_sync LEGk_CARR_sync = 1 →
      (∀ f, (s.carrier r).startFt = some f → s.now < f / 128) → exec (.carrierSyncStart r) s = .next s) ∧
    ((s.carrier r).run = true → carrMode s r < 2 → s.get TLS_STAT_role ≠ 2 → (∀ n, r = .ch n → s.replayed n.val = false) →
      ∃ t, exec (.reload r) s = .next t ∧
        cget t r CHn_GEN_act_gen LEGk_GEN_act_gen = ((s.carrier r).pend.getD (s.carrier r).act).gen % 2 ^ 16 ∧
        (cget t r CHn_CSTAT_pend LEGk_CSTAT_pend = (if (s.carrier r).held.isSome then 1 else 0) ∨
          ∃ n, r = .ch n ∧ (s.chan n.val).comTs = some s.now ∧ t.get CHn_CSTAT_pend n.val = 0) ∧
        cget t r CHn_CSTAT_half LEGk_CSTAT_half = (if reloadDown s r then 1 else 0) ∧
        (∀ n, r = .ch n → t.get CHn_PERIOD_CNT_count n.val = (s.get CHn_PERIOD_CNT_count n.val + 1) % 2 ^ 32)) ∧
    ((s.carrier r).run = true → carrMode s r = 0 → carrRl s r = 1 → (∀ n, r = .ch n → spRuns s n = false) →
      ∃ t, exec (.carrierZero r) s = .next t ∧ cget t r CHn_CSTAT_half LEGk_CSTAT_half = 0 ∧
        (∀ n, r = .ch n → t.get CHn_OCSTAT_cyc_run n.val = 0)) ∧
    ((s.carrier r).run = true → carrMode s r = 0 → carrRl s r = 0 →
      ∃ t, exec (.carrierPeak r) s = .next t ∧ cget t r CHn_CSTAT_half LEGk_CSTAT_half = 1) ∧
    ((s.carrier r).run = true → 2 ≤ carrMode s r → (s.carrier r).fresh = false → (s.carrier r).evt = true → perMinDone s r = false →
      ∃ t, exec (.cotEndEvent r) s = .next t ∧ (t.carrier r).endStored = true ∧ t.regs = s.regs) ∧
    ((s.carrier r).run = true → 2 ≤ carrMode s r → (s.carrier r).fresh = false → (s.carrier r).endStored = true →
      s.get TLS_STAT_role ≠ 2 → ∃ t, exec (.cotPerMin r) s = .next t ∧
        cget t r CHn_GEN_act_gen LEGk_GEN_act_gen = (((guardSort s r).carrier r).pend.getD (s.carrier r).act).gen % 2 ^ 16 ∧
        (∀ n, r = .ch n → t.get CHn_PERIOD_CNT_count n.val = (s.get CHn_PERIOD_CNT_count n.val + 1) % 2 ^ 32)) ∧
    ((s.carrier r).run = true → 2 ≤ carrMode s r → (s.carrier r).fresh = false → s.get TLS_STAT_role ≠ 2 →
      ∃ t, exec (.cotPermax r) s = .next t ∧ cget t r CHn_CSTAT_permax LEGk_CSTAT_permax = 1 ∧
        cget t r CHn_GEN_act_gen LEGk_GEN_act_gen = (((guardSort s r).carrier r).pend.getD (s.carrier r).act).gen % 2 ^ 16 ∧
        (∀ n, r = .ch n → t.get CHn_PERIOD_CNT_count n.val = (s.get CHn_PERIOD_CNT_count n.val + 1) % 2 ^ 32))

/-- Commits: one that arrives in time is taken for the next reload, a late one is held for the one after; a missed deadline is counted and
reported; software's commits; and the edges that the carriers have planned. The model's own readings and choices in it: log entries 10,
11, 12, 13, 14, 44, 110, 111, 112. -/
def Obligations.CommitsAndEdges : Prop :=
  ∀ (s : State) (a : Access) (n : Ch) (k : Leg) (l : Fin 4) (v : Nat) (c : Commit) (e : Nat × Bool) (rest : List (Nat × Bool)) (d : Nat)
    (r : PosRec) (dis : Bool) (items : List ChuckItem), Ready s →
    ((s.sp n).out = some c → s.get CHn_CTL_src n.val ≠ 1 → (s.carrier (.ch n)).run = true → dlApplies s n = true →
      (s.chan n.val).safeTs ≠ some s.now →
      ∃ t, exec (.commitArrival n) s = .next t ∧ t.get CHn_CSTAT_pend n.val = 1 ∧ t.get CHn_GEN_pend_gen n.val = c.gen % 2 ^ 16 ∧
        ((s.carrier (.ch n)).dlPassed = false → s.now < (s.carrier (.ch n)).deadline → t.get CHn_DLSTAT_consec n.val = 0 ∧
          t.get CHn_SLACK_slack_last n.val = min ((s.carrier (.ch n)).deadline - s.now) 0xFFFFF) ∧
        ((s.carrier (.ch n)).deadline ≤ s.now → t.get CHn_DLSTAT_late n.val = 1 ∧ t.get CHn_SLACK_slack_last n.val = 0)) ∧
    ((s.sp n).out = some c → (s.chan n.val).safeTs = some s.now → ∃ t, exec (.commitArrival n) s = .next t ∧ t.gen = s.gen ∧
      t.regs = s.regs ∧ (t.sp n).out = none) ∧
    ((s.carrier (.ch n)).run = true → (s.carrier (.ch n)).dlPassed = false → dlApplies s n = true →
      ∃ t, exec (.commitDeadline n) s = .next t ∧
        ((s.carrier (.ch n)).onTime = true → t.get CHn_DLSTAT_consec n.val = 0 ∧ t.inflight = s.inflight) ∧
        ((s.carrier (.ch n)).onTime = false → (s.carrier (.ch n)).blocked = true → t.get CHn_DLSTAT_cause n.val = 2) ∧
        ((s.carrier (.ch n)).onTime = false → (s.carrier (.ch n)).blocked = false →
          t.get CHn_DLSTAT_cause n.val = 1 ∧ t.get CHn_DLSTAT_miss n.val = 1 ∧ Logged s t 0x2401 [n.val])) ∧
    (Admits s a → v / 2 ^ 31 % 2 = 1 → s.get CHn_CTL_src n.val ≠ 0 → (n = 1 → s.six = false) → (s.carrier (.ch n)).run = true →
      dlApplies s n = false → s.owl.replay = none → (s.chan n.val).safeTs ≠ some s.now → ∃ t, exec (.commitWrite a n v) s = .next t ∧
        (t.carrier (.ch n)).pend = some (shadowCommit s (.ch n) (v % 65536)) ∧ t.get CHn_CSTAT_pend n.val = 1) ∧
    (Admits s a → v / 2 ^ 31 % 2 = 1 → s.get LEGk_CARR_src (12 + l.val) ≠ 1 → (s.carrier (.aux l)).run = true →
      carrMode s (.aux l) < 2 → s.now < (s.carrier (.aux l)).deadline → ∃ t, exec (.legCommit a l v) s = .next t ∧
        (t.carrier (.aux l)).pend = some (shadowCommit s (.aux l) (v % 65536)) ∧ t.get LEGk_CSTAT_pend (12 + l.val) = 1) ∧
    (Admits s a → v / 2 ^ 31 % 2 = 1 → s.get LEGk_CARR_src (12 + l.val) ≠ 1 → (s.carrier (.aux l)).run = true →
      2 ≤ carrMode s (.aux l) → ∃ t, exec (.legCommit a l v) s = .next t ∧ t.get LEGk_CSTAT_pend (12 + l.val) = 1 ∧
        (t.carrier (.aux l)).recent = (s.carrier (.aux l)).recent ++ [(s.now, shadowCommit s (.aux l) (v % 65536))]) ∧
    (s.gen.legs[k].waitH = true → ∃ t, exec (.deadTimeEnd k true) s = .next t ∧ t.get LEGk_STAT_gh k.val = 1 ∧
      t.gen.legs[k].waitH = false) ∧
    (s.gen.legs[k].waitL = true → ∃ t, exec (.deadTimeEnd k false) s = .next t ∧ t.get LEGk_STAT_gl k.val = 1 ∧
      t.gen.legs[k].waitL = false) ∧
    (s.gen.legs[k].edges = e :: rest → ∃ t, exec (.dutyEdge k) s = .next t ∧ t.gen.legs[k].cmd = e.2 ∧
      t.gen.legs[k].edges = rest) ∧
    (129 ≤ d → d < 256 → ∃ t, exec (.dlCal (some d)) s = .next t ∧ t.get LEG_DLCAL_code = d ∧
      t.get LEG_DLCAL_prev = s.get LEG_DLCAL_code % 256 ∧ t.get LEG_DLCAL_fail = 0) ∧
    (∃ t, exec (.dlCal none) s = .next t ∧ t.get LEG_DLCAL_fail = 1 ∧ t.get LEG_DLCAL_code = s.get LEG_DLCAL_code) ∧
    (s.landing = ⟨2 + n.val, .position r, 0, dis⟩ :: items → ∃ t, exec (.measLanding n .pos) s = .next t ∧
      t.landing = items ∧ (t.sp n).pRec = some r ∧ (t.sp n).posOk = true)

/-- Fault inputs, trip lines and the output gate: an active latch input latches, a release ends activity, a clear clears latches whose
inputs are inactive, and a held gate leaves every output off until a reload. The model's own readings and choices in it: log entries 10,
101. -/
def Obligations.FaultInputsAndGate : Prop :=
  ∀ (s : State) (a : Access) (j m : Fin 16) (v : Nat) (g : Fin 4) (l : Bool), Ready s →
    (pinAsserts s j l = true → s.gen.flts[(⟨j.val, by omega⟩ : Fin 32)].blankTs ≤ s.now → s.get FLTj_CFG_mode j.val = 2 → s.getBit FLT_STAT_flt j.val = false →
      ∃ t, exec (.faultInputActive j l) s = .next t ∧ t.getBit FLT_STAT_flt j.val = true ∧ Logged s t 0x2003 [j.val]) ∧
    (pinAsserts s j l = false → ∃ t, exec (.faultInputActive j l) s = .next t ∧ t.regs = s.regs ∧ t.log = s.log ∧
      t.gen.flts[(⟨j.val, by omega⟩ : Fin 32)].act = s.gen.flts[(⟨j.val, by omega⟩ : Fin 32)].act) ∧
    (pinAsserts s j l = true → s.gen.flts[(⟨j.val, by omega⟩ : Fin 32)].blankTs ≤ s.now → s.get FLTj_CFG_mode j.val = 0 →
      ∃ t, exec (.faultInputActive j l) s = .next t ∧ t.gen.flts[(⟨j.val, by omega⟩ : Fin 32)].act = true ∧
        t.get FLT_STAT_flt = s.get FLT_STAT_flt) ∧
    (pinAsserts s j l = (l == decide (s.get FLTj_CFG_pol j.val = 1))) ∧
    (pinAsserts s j l = false → ∃ t, exec (.faultInputInactive j l) s = .next t ∧ t.gen.flts[(⟨j.val, by omega⟩ : Fin 32)].act = false ∧
      t.get FLT_STAT_flt = s.get FLT_STAT_flt) ∧
    (s.gen.flts[(⟨16 + m.val, by omega⟩ : Fin 32)].blankTs ≤ s.now → itripIn s m.val = true → s.get ITRIPm_CFG_mode m.val = 2 →
      s.getBit FLT_STAT_itrip m.val = false →
      ∃ t, exec (.itripActive m) s = .next t ∧ t.getBit FLT_STAT_itrip m.val = true ∧ Logged s t 0x2003 [16 + m.val]) ∧
    (itripIn s m.val = true → s.get ITRIPm_CFG_mode m.val = 2 → s.getBit FLT_STAT_itrip m.val = false →
      ∃ t, exec (.blankEnd m) s = .next t ∧ t.getBit FLT_STAT_itrip m.val = true) ∧
    (itripIn s m.val = false →
      ∃ t, exec (.blankEnd m) s = .next t ∧ t.gen.flts[(⟨16 + m.val, by omega⟩ : Fin 32)].blankTs ≤ s.now ∧ t.regs = s.regs) ∧
    (Admits s a → v.testBit j.val = true → s.getBit FLT_STAT_flt j.val = true →
      s.gen.flts[(⟨j.val, by omega⟩ : Fin 32)].act = false →
      ∃ t, exec (.fltLatchClear a v) s = .next t ∧ t.getBit FLT_STAT_flt j.val = false) ∧
    (Admits s a → s.getBit FLT_STAT_flt j.val = true → s.gen.flts[(⟨j.val, by omega⟩ : Fin 32)].act = true →
      (List.finRange 32).all (fun b => b.val = j.val || s.gen.flts[b].act) = true →
      ∃ t, exec (.fltLatchClear a v) s = .next t ∧ t.getBit FLT_STAT_flt j.val = true) ∧
    (∃ t, exec (.outputGateHold g) s = .next t ∧ t.get (gateFld g) = 1 ∧ AllOff t) ∧
    (s.get (gateFld g) = 1 → (∀ k : Fin 4, k ≠ g → s.get (gateFld k) = 0) →
      ∃ t, exec (.outputGateRelease g) s = .next t ∧ t.gateHeld = false ∧ AllOff t) ∧
    (s.bdg.pulse.isSome = true → s.get BDG_STATE_unit ≠ 2 → s.bdg.clkBad.testBit 1 = false → ∃ t, exec .safeEnPulseEnd s = .next t ∧ t.bdg.pulse = none ∧
      t.get (if s.bdg.pulse = some 0 then BDG_STATE_safe_en0 else BDG_STATE_safe_en1) = 1)

/-- A spindle's period: the speculation, the fast path, the full evaluation, the wait limit, the hold timer of a fallback, and the
saturation record. The model's own readings and choices in it: log entries 32, 34, 113, 114, 115. -/
def Obligations.SpindlePeriods : Prop :=
  ∀ (s : State) (a : Access) (n : Ch) (v : Nat) (e : WordErrs), Ready s →
    (e = [] → spEcc s n e = s) ∧
    (((spEcc s n e).sp n).isOpen = true → ((spEcc s n e).sp n).spec = 0 → (spEcc s n e).get SPn_CTL_spec n.val = 1 →
      posReady (spEcc s n e) n = true →
      ∃ t, exec (.speculation n e) s = .next t ∧ (t.sp n).spec = 1 ∧ (t.sp n).per = (spEcc s n e).get SPn_PER_per n.val ∧
        (t.sp n).isOpen = true) ∧
    ((s.sp n).spec = 1 → ∃ t, exec (.specDone n) s = .next t ∧ (t.sp n).spec = 2 ∧ (t.sp n).uSpec = (s.sp n).uSpec ∧ t.regs = s.regs) ∧
    ((s.sp n).isOpen = true → (s.sp n).spec = 2 → (s.sp n).rejGate = none → (allLanded s n = true ∨ (s.sp n).waitHit = true) →
      ∃ t, exec (.fastPath n) s = .next t ∧
        ((t.get SPn_SPEC_ACC_count n.val = (s.get SPn_SPEC_ACC_count n.val + 1) % 2 ^ 32 ∧ (t.sp n).isOpen = false) ∨
         (t.get SPn_SPEC_ACC_count n.val = s.get SPn_SPEC_ACC_count n.val ∧ (t.sp n).rejGate.isSome = true ∧
          t.get SPn_SPEC_LAST_period n.val = s.get CHn_PERIOD_CNT_count n.val % 65536))) ∧
    (((spEcc s n e).sp n).rejGate.isSome = true → ∃ t, exec (.fullEvalDone n e) s = .next t ∧ (t.sp n).isOpen = false ∧ (t.sp n).rejGate = none ∧
      (t.sp n).gen = (((spEcc s n e).sp n).gen + 1) % 65536) ∧
    ((s.sp n).isOpen = true → (s.sp n).counted = false → ∃ t, exec (.waitLimit n) s = .next t ∧ (t.sp n).counted = true) ∧
    ((s.sp n).holdEnd.isSome = true → (s.sp n).isOpen = true → (s.sp n).counted = false →
      ∃ t, exec (.fbHoldExpired n) s = .next t ∧ (t.sp n).fbDue = true ∧ (t.sp n).holdEnd = (s.sp n).holdEnd ∧ t.regs = s.regs ∧
        t.log = s.log) ∧
    ((s.sp n).holdEnd.isSome = true → ((s.sp n).isOpen = false ∨ (s.sp n).counted = true) → ∃ t, exec (.fbHoldExpired n) s = .next t ∧ t.get SPn_FBSTAT_expired n.val = 1 ∧
      t.get SPn_FBSTAT_hold n.val = 0 ∧ t.get SPn_FBSTAT_hold_left n.val = 0 ∧ Logged s t 0x310C [n.val]) ∧
    (Admits s a → s.replayed n.val = false → v % 64 = 63 → ∃ t, exec (.satClear a n v) s = .next t ∧
      (∀ f ∈ [SPn_SAT_transform, SPn_SAT_predict, SPn_SAT_correct, SPn_SAT_control, SPn_SAT_limit, SPn_SAT_modulate,
        SPn_SAT_first_period, SPn_SAT_first_stage], t.get f n.val = 0)) ∧
    (Admits s a → s.replayed n.val = false → v % 64 = 1 → s.get SPn_SAT_predict n.val = 1 →
      ∃ t, exec (.satClear a n v) s = .next t ∧ t.get SPn_SAT_transform n.val = 0 ∧ t.get SPn_SAT_predict n.val = 1 ∧
        t.get SPn_SAT_first_period n.val = s.get SPn_SAT_first_period n.val)

/-- Coefficient banks, oscillation windows, the restoration of a held spindle, and profile changes. The model's own readings and choices
in it: log entries 35, 59. -/
def Obligations.BanksAndProfiles : Prop :=
  ∀ (s : State) (a : Access) (n : Ch) (v amp : Nat) (cnt : Nat), Ready s →
    let b := 1 - actBank s n.val
    (Admits s a → s.replayed n.val = false → v / 4 % 2 = 1 → v / 512 % 2 = 0 → swapRefusal s n = 0 →
      ∃ t, exec (.swapRequest a n v) s = .next t ∧ t.get SPn_BANK_swap n.val = 1 ∧ t.get SPn_BANK_active n.val = s.get SPn_BANK_active n.val) ∧
    (Admits s a → s.replayed n.val = false → v / 4 % 2 = 1 → v / 512 % 2 = 0 → isSealed s n.val b = false →
      ∃ t, exec (.swapRequest a n v) s = .next t ∧ t.get SPn_BANK_swap n.val = s.get SPn_BANK_swap n.val ∧
        (s.log.intake.length < 50 → (0x3107, [n.val]) ∈ t.log.intake)) ∧
    (Admits s a → s.replayed n.val = false → v / 4 % 2 = 0 → v / 512 % 2 = 1 → s.get SPn_BANK_swap n.val = 0 →
      (s.sp n).fbPend = false → s.get SPn_BANK_seal_busy n.val = 0 →
      ∃ t, exec (.sealRequest a n v) s = .next t ∧ t.get SPn_BANK_seal_busy n.val = 1 ∧ t.get (sealFld b) n.val = 0) ∧
    (s.get SPn_BANK_seal_busy n.val = 0 → exec (.sealDone n) s = .next s) ∧
    (s.get SPn_BANK_seal_busy n.val = 1 → bankOk s n b = true → ∃ t, exec (.sealDone n) s = .next t ∧ t.get SPn_BANK_seal_busy n.val = 0 ∧ t.get (sealFld b) n.val = 1 ∧
      Logged s t 0x3104 [n.val, b]) ∧
    (s.get SPn_BANK_seal_busy n.val = 1 → bankOk s n b = false → ∃ t, exec (.sealDone n) s = .next t ∧ t.get SPn_BANK_seal_busy n.val = 0 ∧
      t.get (sealFld b) n.val = s.get (sealFld b) n.val ∧ Logged s t 0x3105 [n.val]) ∧
    ((s.sp n).osc.ended = some ((amp : Int), cnt) → (s.sp n).osc.cfg.getD 6 0 < amp → (s.sp n).osc.cfg.getD 3 0 ≤ cnt →
      (cnt : Int) ≤ (s.sp n).osc.cfg.getD 4 0 → ∃ t, exec (.oscWindowEnd n) s = .next t ∧ t.get SPn_OSC_STAT_osc n.val = 1 ∧
        (t.sp n).osc.ended = none ∧ Logged s t 0x310D [n.val]) ∧
    ((s.sp n).osc.ended = some ((amp : Int), cnt) → (amp : Int) ≤ (s.sp n).osc.cfg.getD 6 0 →
      ∃ t, exec (.oscWindowEnd n) s = .next t ∧ (t.sp n).osc.ended = none ∧ t.regs = s.regs) ∧
    ((s.sp n).held = true → ∃ t, exec (.spindleRestore n) s = .next t ∧ (t.sp n).held = false ∧
      t.getBit PRT_LS_STAT_restored (2 + n.val) = true ∧ t.bdg.holds.testBit (2 + n.val) = false) ∧
    (Admits s a → v / 16 % 4 ≠ s.get SYS_PROFILE_active → (∀ k : Ch, s.chState k.val = 0 ∨ s.chState k.val = 2 ∨ s.chState k.val = 6) →
      ∃ t, exec (.profileRequestWrite a v) s = .next t ∧ t.get SYS_PROFILE_request = v / 16 % 4 ∧ t.get SYS_PROFILE_pending = 1 ∧
        t.pwr.profTo = some (v / 16 % 4) ∧ t.get SYS_PROFILE_active = s.get SYS_PROFILE_active) ∧
    (Admits s a → v / 16 % 4 ≠ s.get SYS_PROFILE_active → s.chState n.val = 3 →
      ∃ t, exec (.profileRequestWrite a v) s = .next t ∧ t.get SYS_PROFILE_request = s.get SYS_PROFILE_request ∧
        t.pwr.profTo = s.pwr.profTo ∧ Logged s t 0x0002 [v / 16 % 4, s.get SYS_PROFILE_active]) ∧
    (s.pwr.profTo = some (v % 4) → ∃ t, exec .profileChangeEffect s = .next t ∧ t.get SYS_PROFILE_active = v % 4 ∧
      t.get SYS_PROFILE_pending = 0 ∧ t.get SYS_PROFILE_cause = 1 ∧ t.pwr.profTo = none ∧ Logged s t 0x0001 [v % 4])

/-- The field stage: field weakening, locked rotor, flux, grid tracking, the sensorless observer, and the DTC engine with its start and
its recapture. The model's own readings and choices in it: log entries 33, 36, 38, 41, 43, 116, 117. -/
def Obligations.FieldStages : Prop :=
  ∀ (s : State) (a : Access) (n : Ch) (v : Nat) (peaks : List Int) (a1 b1 a2 b2 : Int) (dt : Nat), Ready s →
    let I := fun k => peaks.getD k 0
    let mx := ((List.range 6).map I).foldl max (I 0)
    let mn := ((List.range 6).map I).foldl min (I 0)
    (msFt 10 ≤ (s.sp n).fld.fwMinT → s.get SPn_FLD_CTL_fw_en n.val = 1 →
      ∃ t, exec (.fwLimit n) s = .next t ∧ t.get SPn_FLD_STAT_fw_limit n.val = 1 ∧ Logged s t 0x312A [n.val]) ∧
    (s.get SPn_FLD_CTL_obs_en n.val = 1 → s.get SPn_OBS_obs_n n.val ≤ (s.sp n).fld.obs.ok →
      ∃ t, exec (.obsValid n) s = .next t ∧ t.get SPn_FLD_STAT_obs_valid n.val = 1) ∧
    (s.get SPn_FLD_STAT_obs_valid n.val = 1 → s.get SPn_OBS_obs_n n.val ≤ (s.sp n).fld.obs.bad →
      ∃ t, exec (.obsLost n) s = .next t ∧ t.get SPn_FLD_STAT_obs_valid n.val = 0 ∧ t.get SPn_FLD_STAT_obs_lost n.val = 1 ∧
        (chSrc n.val 18, n.val) ∈ t.inflight) ∧
    (s.get SPn_FLD_CTL_lr_en n.val = 1 → (s.sp n).fld.watch.lrOn = true → s.get SPn_FLD_STAT_locked n.val = 0 →
      msFt (s.get SPn_LR_T_lr_time n.val) ≤ (s.sp n).fld.watch.lrT →
      ∃ t, exec (.locked n) s = .next t ∧ t.get SPn_FLD_STAT_locked n.val = 1 ∧ t.inflight = s.inflight ++ [(chSrc n.val 19, n.val)] ∧
        Logged s t 0x3127 [n.val]) ∧
    (s.get SPn_FLD_STAT_locked n.val = 1 → msFt (s.get SPn_LR_T_lr_time n.val) ≤ (s.sp n).fld.watch.lrLow →
      ∃ t, exec (.lockClear n) s = .next t ∧ t.get SPn_FLD_STAT_locked n.val = 0 ∧ Logged s t 0x3128 [n.val]) ∧
    (s.get SPn_FLD_CTL_ke_en n.val = 1 → s.get SPn_FLD_STAT_ke_abn n.val = 0 →
      msFt (s.get SPn_KE_T_ke_time n.val) ≤ (s.sp n).fld.watch.keOut →
      ∃ t, exec (.keAbnormal n) s = .next t ∧ t.get SPn_FLD_STAT_ke_abn n.val = 1 ∧ t.inflight = s.inflight ++ [(chSrc n.val 20, n.val)]) ∧
    (Admits s a → s.replayed n.val = false → v.testBit SPn_FLD_STAT_ke_abn.lsb = true →
      ∃ t, exec (.keAbnClear a n v) s = .next t ∧ t.get SPn_FLD_STAT_ke_abn n.val = 0 ∧ (t.sp n).fld.watch.keN = 0 ∧
        (t.sp n).fld.watch.keOut = 0) ∧
    (gridMode s n = true → msFt 20 ≤ (s.sp n).fld.grid.lockT →
      ∃ t, exec (.pllLock n) s = .next t ∧ t.get SPn_FLD_STAT_pll_lock n.val = 1) ∧
    (gridMode s n = true → s.get SPn_FLD_STAT_pll_lock n.val = 1 → 10 ≤ (s.sp n).fld.grid.badN →
      ∃ t, exec (.pllUnlock n) s = .next t ∧ t.get SPn_FLD_STAT_pll_lock n.val = 0 ∧ t.inflight = s.inflight ++ [(chSrc n.val 21, n.val)]) ∧
    (gridMode s n = true → msFt 100 ≤ (s.sp n).fld.grid.bandT →
      ∃ t, exec (.gridBand n) s = .next t ∧ (t.sp n).fld.grid.bandT = 0 ∧ t.inflight = s.inflight ++ [(chSrc n.val 22, n.val)] ∧
        Logged s t 0x312C [n.val]) ∧
    (paceLanded s n = false → exec (.dtcDecision n) s = .next s) ∧
    (dtcDrives s n = true → paceLanded s n = true → (s.sp n).fld.dtc.decTs = some s.now → ∃ t, exec (.dtcDecision n) s = .next t ∧
      (t.sp n).fld.dtc.landed = 0 ∧ t.regs = s.regs ∧ (t.sp n).fld.dtc.vec = (s.sp n).fld.dtc.vec) ∧
    (dtcDrives s n = true → paceLanded s n = true → (s.sp n).fld.dtc.decTs = none → ∃ t, exec (.dtcDecision n) s = .next t ∧
      (t.sp n).fld.dtc.decTs = some s.now ∧ (t.sp n).fld.dtc.missRun = 0 ∧ t.get SPn_FLD_STAT_engine n.val = 1) ∧
    (dtcDrives s n = true → (s.sp n).fld.dtc.missRun = 0 → ∃ t, exec (.dtcMiss n) s = .next t ∧
      (t.sp n).fld.dtc.missRun = 1 ∧ t.gen.legs = s.gen.legs ∧ (t.sp n).fld.dtc.hoSince = none ∧ Logged s t 0x3126 [n.val]) ∧
    (dtcDrives s n = true → (s.sp n).fld.dtc.missRun = 1 → ∃ t, exec (.dtcMiss n) s = .next t ∧
      t.get SPn_FLD_STAT_task n.val = 0 ∧ (s.get SPn_FLD_CTL_mode n.val ≠ 1 → t.get SPn_FLD_STAT_engine n.val = 0) ∧
      t.inflight = s.inflight ++ [(chSrc n.val 16, n.val)]) ∧
    (s.chRuns n.val = true → s.get SPn_FLD_STAT_task n.val = 2 → (s.sp n).fld.dtc.stopWait = false → (s.sp n).fld.dtc.hoSince = some 0 →
      5 * tkMs < s.now → ∃ t, exec (.handover n) s = .next t ∧ t.get SPn_FLD_STAT_task n.val = 0 ∧ t.get SPn_FLD_STAT_engine n.val = 0 ∧
        (t.sp n).fld.dtc.hoSince = none ∧ Logged s t 0x3123 [n.val]) ∧
    (s.get SPn_FLD_STAT_task n.val = 1 → mx ≤ 20 * (mx - mn) → max (I 6) (I 7) ≤ 50 * |I 6 - I 7| →
      ∃ t, exec (.ipdComplete n peaks) s = .next t ∧
      t.get SPn_FLD_STAT_task n.val = 2 ∧ (t.sp n).fld.dtc.hoSince = none ∧ Logged s t 0x3124 [n.val]) ∧
    (s.get SPn_FLD_STAT_task n.val = 1 → (20 * (mx - mn) < mx ∨ 50 * |I 6 - I 7| < max (I 6) (I 7)) →
      ∃ t, exec (.ipdComplete n peaks) s = .next t ∧
      t.get SPn_FLD_STAT_task n.val = 0 ∧ t.inflight = s.inflight ++ [(chSrc n.val 17, n.val)] ∧ Logged s t 0x3125 [n.val]) ∧
    (s.get SPn_FLD_STAT_task n.val = 3 → (s.sp n).fld.dtc.recPat = some .ascLow → (s.sp n).fld.dtc.recTs = none →
      (s.sp n).fld.dtc.recStep = 4 → ∃ t, exec (.recapture n a1 b1 a2 b2 dt) s = .next t ∧ (t.sp n).fld.dtc.recTs = some s.now ∧ (t.sp n).fld.obs.at_ = s.now ∧
        (t.sp n).fld.obs.iPrev = ⟨a2, b2⟩) ∧
    (s.get SPn_FLD_STAT_task n.val = 3 → s.get SPn_FLD_STAT_rec_cnt n.val + 1 < s.get SPn_REC_recap_n n.val →
      s.get SPn_FLD_STAT_rec_cnt n.val < 15 → ∃ t, exec (.recapAttemptEnd n) s = .next t ∧
        t.get SPn_FLD_STAT_rec_cnt n.val = s.get SPn_FLD_STAT_rec_cnt n.val + 1 ∧ (t.sp n).fld.dtc.recPat = none ∧
        t.get SPn_FLD_STAT_task n.val = 3)

/-- The channel commands: from READY to RUN, precharge, discharge, stop, SAFE and its end, and a report of failed switches. The model's
own readings and choices in it: log entries 30, 37, 39, 46, 47, 71. -/
def Obligations.ChannelCommands : Prop :=
  ∀ (s : State) (a : Access) (c : Ctx) (p : List Nat) (l : Lnk) (v : Nat), Ready s →
    let n := chOf c.chan
    (Serves s c 0x10 p → s.get TLS_STAT_role ≠ 2 → lsBroken s n = false → s.chState n.val = 2 →
      enableChecks (settShowFor (budgetShow s n) n) n = true →
      ∃ t, exec (.chEnable c p) s = .next t ∧ t.chState n.val = 3 ∧ t.get CHn_STATE_prev n.val = 2 ∧
        (s.log.intake.length < 30 → (0x2410, [n.val, 2, 3, 0xFF]) ∈ t.log.intake)) ∧
    (Serves s c 0x10 p → s.get TLS_STAT_role ≠ 2 → lsBroken s n = false → s.chState n.val = 4 → s.get CHn_STATE_safety n.val = 0 →
      s.get CHn_SAFECFG_stop_resume n.val = 1 →
      ∃ t, exec (.chEnable c p) s = .next t ∧ t.chState n.val = 4 ∧ (t.chan n.val).resume = true) ∧
    (Predecodes s c 0x11 p → c.chan < 4 → s.get TLS_STAT_role ≠ 2 → s.chState n.val = 3 → s.get SPn_FLD_STAT_task n.val = 0 →
      ∃ t, exec (.chStop c p) s = .next t ∧ t.chState n.val = 4 ∧ t.get CHn_STATE_safety n.val = 0 ∧
        (s.log.intake.length < 30 → (0x2410, [n.val, 3, 4, 0xFF]) ∈ t.log.intake)) ∧
    (Predecodes s c 0x12 p → c.chan < 4 → s.get TLS_STAT_role ≠ 2 → (p = [0] ∨ p = [1]) → s.chState n.val ≠ 5 →
      ∃ t, exec (.chSafe c p) s = .next t ∧ t.chState n.val = 6) ∧
    (Predecodes s c 0x12 p → c.chan < 4 → s.get TLS_STAT_role ≠ 2 → p = [4] → s.chState n.val = 3 →
      ∃ t, exec (.chSafe c p) s = .next t ∧ t.chState n.val = 4 ∧ t.get CHn_STATE_safety n.val = 1 ∧ t.get CHn_STATE_ss n.val = 4) ∧
    (Serves s c 0x13 p → s.chState n.val ≠ 6 →
      ∃ t, exec (.chClearFault c p) s = .next t ∧ t.get CHn_OCSTAT_oc_trip n.val = 0 ∧ t.chState n.val = s.chState n.val) ∧
    (Serves s c 0x13 p → s.chState n.val = 6 → stillFaulty s n = false → s.get CHn_STATE_pat n.val = 1 → linkOf s n = none →
      ∃ t, exec (.chClearFault c p) s = .next t ∧ t.chState n.val = 0 ∧ t.get CHn_STATE_prev n.val = 6) ∧
    (Serves s c 0x13 p → s.chState n.val = 6 → stillFaulty s n = true →
      ∃ t, exec (.chClearFault c p) s = .next t ∧ t = complete s { c with opcode := 0x13 } 0x50) ∧
    (Serves s c 0x15 p → s.get TLS_STAT_role ≠ 2 → linkOf s n = some l → s.chState n.val = 0 → s.get PRT_LNKl_STAT_lstate l.val = 0 →
      ∃ t, exec (.chPrecharge c p) s = .next t ∧ t.chState n.val = 1 ∧ t.get PRT_LNKl_STAT_lstate l.val = 1) ∧
    (Serves s c 0x15 p → s.get TLS_STAT_role ≠ 2 → linkOf s n = some l → s.chState n.val = 0 → s.get PRT_LNKl_STAT_lstate l.val = 2 →
      ∃ t, exec (.chPrecharge c p) s = .next t ∧ t.chState n.val = 2 ∧ t.get PRT_LNKl_STAT_lstate l.val = 2) ∧
    (Serves s c 0x14 p → s.get TLS_STAT_role ≠ 2 → linkOf s n = some l → s.chState n.val = 2 →
      (∀ m ∈ members s l, s.chState m.val = 0 ∨ s.chState m.val = 2) → s.get PRT_LNKl_DIS_dis_mode l.val = 0 →
      s.get PRT_LNKl_CFG_chop_en l.val = 1 →
      ∃ t, exec (.chDischarge c p) s = .next t ∧ t.chState n.val = 5 ∧ t.get PRT_LNKl_STAT_lstate l.val = 3) ∧
    (Admits s a → s.get CHn_SWFAIL_hs n.val = 0 → s.get CHn_SWFAIL_ls n.val = 0 → v < 8 → 0 < v →
      ∃ t, exec (.swfailWrite a n v) s = .next t ∧ t.get CHn_SWFAIL_hs n.val = v ∧ t.get CHn_SWFAIL_ls n.val = 0 ∧
        t.inflight = s.inflight ++ [(chSrc n.val 10, v)])

/-- The link monitors: what a sample does against each threshold, a starved monitor, the chopper's commits and its confirmation, and the
start of a monitor. The model's own readings and choices in it: log entries 40, 45, 100. -/
def Obligations.LinkMonitors : Prop :=
  ∀ (s : State) (a : Access) (l : Lnk) (v : Int) (rest : List Int) (w : Nat) (ic : Option Int), Ready s →
    let k := s.links[l]
    let filt := s.get PRT_LNKl_FILT_ov_filt l.val
    (s.get PRT_LNKl_CFG_en l.val = 1 → s.getS PRT_LNKl_OV1_ov_warn l.val ≤ v → filt ≤ k.cnt[0] + 1 → k.lvl[0] = false →
      ∃ t, exec (.ovWarn l [v]) s = .next t ∧ t.get PRT_LNKl_STAT_warn l.val = 1 ∧ t.links[l].hist = (v :: k.hist).take 16 ∧
        t.links[l].lvl[0] = true) ∧
    (s.get PRT_LNKl_CFG_en l.val = 1 → s.get PRT_LNKl_CFG_chop_en l.val = 1 → s.get PRT_LNKl_CFG_chop_mode l.val = 0 →
      s.getS PRT_LNKl_OV1_chop_on l.val ≤ v → s.getS PRT_LNKl_CHOP_chop_off l.val < v → filt ≤ k.cnt[1] + 1 → k.lvl[1] = false →
      ∃ t, exec (.chopOn l [v]) s = .next t ∧ t.links[l].hyst = true ∧ t.links[l].chopDuty = 0x10000) ∧
    (s.get PRT_LNKl_CFG_en l.val = 1 → s.get PRT_LNKl_CFG_chop_en l.val = 1 → s.get PRT_LNKl_CFG_chop_mode l.val = 0 →
      s.get PRT_LNKl_STAT_lstate l.val ≠ 3 → v ≤ s.getS PRT_LNKl_CHOP_chop_off l.val → v < s.getS PRT_LNKl_OV1_chop_on l.val →
      k.hyst = true → ∃ t, exec (.chopOff l [v]) s = .next t ∧ t.links[l].hyst = false ∧ t.links[l].chopDuty = 0) ∧
    (s.get PRT_LNKl_CFG_en l.val = 1 → s.getS PRT_LNKl_OV2_ov_asc l.val ≤ v → filt ≤ k.cnt[2] + 1 → k.lvl[2] = false →
      ∃ t, exec (.ovAsc l [v]) s = .next t ∧ t.get PRT_LNKl_STAT_ov_asc l.val = 1 ∧ (lnkSrc l.val 0, l.val) ∈ t.inflight) ∧
    (s.get PRT_LNKl_CFG_en l.val = 1 → s.getS PRT_LNKl_OV2_ov_hard l.val ≤ v → k.hard = false →
      ∃ t, exec (.ovHard l [v]) s = .next t ∧ t.get PRT_LNKl_STAT_ov_hard l.val = 1 ∧ t.links[l].hard = true ∧
        (lnkSrc l.val 1, l.val) ∈ t.inflight) ∧
    (s.get PRT_LNKl_CFG_en l.val = 1 → s.getS PRT_LNKl_OV2_ov_hard l.val ≤ v →
      ∃ t, exec (.ovHard l [v]) s = .next t ∧ ∀ n : Ch, n ∈ members s l → t.chState n.val = 6) ∧
    (s.get PRT_LNKl_CFG_en l.val = 1 → v < s.getS PRT_LNKl_OV1_ov_warn l.val →
      ∃ t, exec (.linkThresholdDeassert l [v]) s = .next t ∧ t.get PRT_LNKl_STAT_warn l.val = 0 ∧ t.links[l].lvl[0] = false ∧
        t.links[l].cnt[0] = 0) ∧
    (∃ t, exec (.ovWarn l [v]) s = .next t ∧ exec (.ovWarn l (v :: rest)) s = exec (.ovWarn l rest) t) ∧
    (exec (.chopOn l rest) s = exec (.ovWarn l rest) s ∧ exec (.chopOff l rest) s = exec (.ovWarn l rest) s ∧
      exec (.ovAsc l rest) s = exec (.ovWarn l rest) s ∧ exec (.ovHard l rest) s = exec (.ovWarn l rest) s ∧
      exec (.linkThresholdDeassert l rest) s = exec (.ovWarn l rest) s) ∧
    (s.get PRT_LNKl_CFG_en l.val = 1 → ∃ t, exec (.linkStarved l) s = .next t ∧ t.get PRT_LNKl_STAT_starved l.val = 1 ∧
      t.inflight = s.inflight ++ [(lnkSrc l.val 5, l.val)] ∧ Logged s t 0x400B [l.val]) ∧
    (s.get PRT_LNKl_CFG_en l.val = 1 → s.get PRT_LNKl_CFG_chop_en l.val = 1 →
      ∃ t, exec (.chopCommit l) s = .next t ∧ t.links[l].chopDuty = chopDuty s l ∧
        (disChops s l = true → t.links[l].chopDuty = 0x10000)) ∧
    (s.get PRT_LNKl_CFG_en l.val = 1 → k.onTs.isSome = true → s.get PRT_LNKl_STAT_chop l.val = 1 → k.von < mean16 k →
      s.get PRT_LNKl_STAT_chop_fail l.val = 0 →
      ∃ t, exec (.chopConfirm l ic) s = .next t ∧ t.get PRT_LNKl_STAT_chop_fail l.val = 1 ∧ t.get PRT_LNKl_STAT_motoring_only l.val = 1 ∧
        t.inflight = s.inflight ++ [(lnkSrc l.val 2, l.val)] ∧
        (∀ n : Ch, n ∈ members s l → t.get CHn_STATE_motoring_only n.val = 1)) ∧
    (Admits s a → s.get PRT_LNKl_CFG_en l.val = 0 → w / 2 ^ 31 % 2 = 1 →
      (∀ f ∈ [PRT_LNKl_CFG_members, PRT_LNKl_CFG_ichop_ain, PRT_LNKl_CFG_ichop_en, PRT_LNKl_CFG_pre_leg, PRT_LNKl_CFG_pre_en,
        PRT_LNKl_CFG_chop_leg, PRT_LNKl_CFG_chop_en, PRT_LNKl_CFG_chop_mode, PRT_LNKl_CFG_vdc_ain],
        w / 2 ^ f.lsb % 2 ^ f.width = s.get f l.val) →
      membersOff s l.val = true → linkCfgOk s l.val = true → linkOrderOk s l = true →
      ∃ t, exec (.linkEnable a l w) s = .next t ∧ t.get PRT_LNKl_CFG_en l.val = 1 ∧ t.links[l].hist = [] ∧ t.links[l].got = 0)

/-- Precharge and discharge of a link: each ends when the samples that come with the command say so, fails or times out when its time has
passed, and the members follow the link. `u` is the state in which those samples have been taken. The model's own readings and choices in
it: log entries 30, 40. -/
def Obligations.PrechargeAndDischarge : Prop :=
  ∀ (s : State) (l : Lnk) (codes : List Int), Ready s →
    let u := linkSamples s l codes
    (u.get TLS_STAT_role ≤ 1 → u.get PRT_LNKl_STAT_lstate l.val = 1 → 0 < u.links[l].since →
      u.getS PRT_LNKl_PRE_pre_done l.val ≤ u.links[l].hist.headD (-32768) →
      ∃ t, exec (.prechargeDone l codes) s = .next t ∧ t.get PRT_LNKl_STAT_lstate l.val = 2 ∧ t.links[l].preTs = some u.now ∧
        (∀ m ∈ members u l, u.chState m.val = 1 → t.chState m.val = 2) ∧ (u.log.intake.length < 30 → (0x4007, [l.val]) ∈ t.log.intake)) ∧
    (u.get TLS_STAT_role ≤ 1 → u.links[l].hist.headD (-32768) < u.getS PRT_LNKl_PRE_pre_done l.val →
      ∃ t, exec (.prechargeDone l codes) s = .next t ∧ t = u) ∧
    (s.get PRT_LNKl_STAT_lstate l.val = 1 →
      ∃ t, exec (.prechargeFail l) s = .next t ∧ t.get PRT_LNKl_STAT_lstate l.val = 0 ∧ t.get PRT_LNKl_STAT_pre_fail l.val = 1 ∧
        (∀ m ∈ members s l, s.chState m.val = 1 → t.chState m.val = 0) ∧ (lnkSrc l.val 3, l.val) ∈ t.inflight) ∧
    (s.links[l].preTs.isSome = true →
      ∃ t, exec (.prechargeLegOff l) s = .next t ∧ t.links[l].preTs = none ∧
        t.get PRT_LNKl_STAT_lstate l.val = s.get PRT_LNKl_STAT_lstate l.val) ∧
    (u.get PRT_LNKl_STAT_lstate l.val = 3 → 0 < u.links[l].since → u.links[l].hist.headD 32767 ≤ u.getS PRT_LNKl_DIS_dis_v l.val →
      ∃ t, exec (.disDone l codes) s = .next t ∧ t.get PRT_LNKl_STAT_lstate l.val = 0 ∧
        (∀ m ∈ members u l, u.chState m.val = 5 → t.chState m.val = 0) ∧ (u.log.intake.length < 30 → (0x4009, [l.val]) ∈ t.log.intake)) ∧
    (s.get PRT_LNKl_STAT_lstate l.val = 3 →
      ∃ t, exec (.disFail l) s = .next t ∧ t.get PRT_LNKl_STAT_dis_fail l.val = 1 ∧ t.get PRT_LNKl_STAT_lstate l.val = 3 ∧
        t.inflight = s.inflight ++ [(lnkSrc l.val 4, l.val)] ∧ Logged s t 0x400A [l.val]) ∧
    (s.get PRT_LNKl_STAT_lstate l.val = 3 →
      ∃ t, exec (.disTimeout l) s = .next t ∧ t.get PRT_LNKl_STAT_lstate l.val = 0 ∧
        (∀ m ∈ members s l, s.chState m.val = 5 → t.chState m.val = 0))

/-- Badger's evaluation and monitors, the lockstep comparators, and what a source does that arrives at the fault collection unit. The
model's own readings and choices in it: log entries 7, 45, 50, 118, 119, 139, 140. -/
def Obligations.LockstepAndBadger : Prop :=
  ∀ (s : State) (a : Access) (p : AgreePair) (e : Pair) (rp rq : Fin 4) (par q1 q2 : Bool) (c : Fin 2) (w : Fin 3) (m d edges v : Nat) (x : Int)
    (smp : List (List (Int × Int × Nat))) (b : List Nat) (src : Fin 192), Ready s →
    (s.bdg.staged = some (b, v) → ∃ t, exec (.badgerEval smp) s = .next t ∧ t.bdg.block = some b ∧ t.bdg.staged = none ∧
      t.get BDG_PARAM_CRC_crc = v % 2 ^ 32 ∧ (s.log.intake.length < 30 → (0x4804, [v]) ∈ t.log.intake)) ∧
    (s.bdg.staged = none → ∃ t, exec (.badgerEval smp) s = .next t ∧ t.bdg.block = s.bdg.block ∧
      t.get BDG_PARAM_CRC_crc = s.get BDG_PARAM_CRC_crc) ∧
    ((rp.val ≠ 1 ∨ rq.val ≠ 1 ∨ par = true) → compares s p = true → p ≠ 6 → ∃ t, exec (.lockstepMismatch p rp rq par) s = .next t ∧
      t.getBit PRT_LS_STAT_mismatch p.val = true ∧
      t.get PRT_LS_CNTp_mis_cnt p.val = min (s.get PRT_LS_CNTp_mis_cnt p.val + 1) (2 ^ PRT_LS_CNTp_mis_cnt.width - 1) ∧
      t.inflight = s.inflight ++ [(if p.val < 2 then 0x18 + p.val else chSrc (p.val - 2) 1, p.val)] ∧ Logged s t 0x4021 [p.val]) ∧
    ((rp.val ≠ 1 ∨ rq.val ≠ 1 ∨ par = true) → p = 6 → ∃ t, exec (.lockstepMismatch p rp rq par) s = .next t ∧
      t.inflight = s.inflight ++ [(0x1F, 6)] ∧ Logged s t 0x4021 [6]) ∧
    ((rp.val = 1 ∧ rq.val = 1 ∧ par = false ∨ compares s p = false) → ∃ t, exec (.lockstepMismatch p rp rq par) s = .next t ∧ t = s) ∧
    (q1 = true → q2 = true → ∃ t, exec (.cmpSelftest p q1 q2) s = .next t ∧ t.inflight = s.inflight ∧
      (p ≠ 6 → t.get PRT_LS_CNTp_test_cnt p.val = min (s.get PRT_LS_CNTp_test_cnt p.val + 1) (2 ^ PRT_LS_CNTp_test_cnt.width - 1)) ∧
      t.get PRT_CMP_TEST_bit = s.bdg.cmpPos[p] % 2 ^ PRT_CMP_TEST_bit.width ∧ t.bdg.cmpPos[p] = (s.bdg.cmpPos[p] + 1) % 256) ∧
    ((q1 = false ∨ q2 = false) → ∃ t, exec (.cmpSelftest p q1 q2) s = .next t ∧ t.inflight = s.inflight ++ [(0x1D, p.val)] ∧
      t.get PRT_LS_CNTp_test_cnt p.val = s.get PRT_LS_CNTp_test_cnt p.val ∧ Logged s t 0x4023 [p.val, s.bdg.cmpPos[p]]) ∧
    (m ≠ d → compares s ⟨e.val, by omega⟩ = true → ∃ t, exec (.stateDigest e m d) s = .next t ∧ t.getBit PRT_LS_STAT_mismatch e.val = true ∧
      t.get PRT_LS_CNTp_lat_cnt e.val = min (s.get PRT_LS_CNTp_lat_cnt e.val + 1) (2 ^ PRT_LS_CNTp_lat_cnt.width - 1) ∧
      t.inflight = s.inflight ++ [(pairSrc e true, e.val)]) ∧
    (m = d ∨ compares s ⟨e.val, by omega⟩ = false → ∃ t, exec (.stateDigest e m d) s = .next t ∧ t = s) ∧
    (s.bdg.holds.testBit c.val = true → s.get BDG_STATE_unit ≠ 2 → ∃ t, exec (.corePairRestart c) s = .next t ∧
      t.bdg.holds = s.bdg.holds - 2 ^ c.val ∧ t.getBit PRT_LS_STAT_restored c.val = true ∧
      t.bdg.wdg[(⟨c.val, by omega⟩ : Fin 3)] = ⟨s.now, true⟩ ∧ Logged s t 0x4025 [c.val] ∧
      (s.bdg.haltReq.testBit c.val = true → (0x1E, c.val) ∈ t.inflight)) ∧
    (s.get LCS_STATE_dbg_open = 1 → s.get LCS_STATE_state = 2 → s.bdg.holds.testBit c.val = true → ∃ t, exec (.debugHalt c) s = .next t ∧
      t.bdg.haltReq.testBit c.val = true ∧ t.inflight = s.inflight) ∧
    (s.get LCS_STATE_dbg_open = 1 → s.get LCS_STATE_state = 2 → s.bdg.holds.testBit c.val = false → ∃ t, exec (.debugHalt c) s = .next t ∧
      t.get (if c.val = 0 then BDG_STATE_lsb_cpa else BDG_STATE_lsb_cpb) = 1 ∧ t.inflight = s.inflight ++ [(0x1E, c.val)]) ∧
    (s.get LCS_STATE_state ≠ 2 → ∃ t, exec (.debugHalt c) s = .next t ∧ t = s) ∧
    (75 ≤ edges → edges ≤ 125 → ∃ t, exec (.ckbMonitor edges) s = .next t ∧ t.get CLK_STATUS_ckb_ok = 1 ∧
      t.bdg.clkBad.testBit 8 = false ∧ t.inflight = s.inflight) ∧
    ((edges < 75 ∨ 125 < edges) → ∃ t, exec (.ckbMonitor edges) s = .next t ∧ t.get CLK_STATUS_ckb_ok = 0 ∧
      t.bdg.clkBad.testBit 8 = true ∧ (s.bdg.clkBad.testBit 8 = false → t.inflight = s.inflight ++ [(8, edges)])) ∧
    (∃ t, exec .ckbTrim s = .next t ∧ t.bdg.ckbTrim = Config.otpTrim 16 s.bdg.scv1 ∧ t.regs = s.regs) ∧
    (∃ t, exec .bdgUndervoltReset s = .next t ∧ t.get BDG_STATE_fault_n = 0 ∧ t.get BDG_STATE_safe_en0 = 0 ∧
      t.get BDG_STATE_safe_en1 = 0 ∧ t.get BDG_PARAM_CRC_crc = 0 ∧ t.tls.xlOut = false ∧ t.bdg.block = none ∧
      t.get BDG_STATE_unit = s.get BDG_STATE_unit ∧ t.get BDG_STATE_dev_cause = s.get BDG_STATE_dev_cause) ∧
    (2560 ≤ x → s.pwr.stage = 8 → s.pwr.startReq = none → ∃ t, exec (.scvTdiodeRead x) s = .next t ∧ t.pwr.stage = 9) ∧
    (x < 2560 ∨ s.pwr.stage ≠ 8 → ∃ t, exec (.scvTdiodeRead x) s = .next t ∧ t.bdg.scv1 = x ∧ t.bdg.ckbTrim = s.bdg.ckbTrim ∧ (2560 ≤ x → (0x12, 1) ∈ t.inflight) ∧
      (80 < |s.getS THM_TEMP_cv7 - x| → t.bdg.divRun = s.bdg.divRun + 1 ∧ (s.bdg.divRun = 9 → (0x10, 0) ∈ t.inflight)) ∧
      (|s.getS THM_TEMP_cv7 - x| ≤ 80 → t.bdg.divRun = 0)) ∧
    (s.now < s.bdg.wdg[w].last + (wdgWin s w).2 → ∃ t, exec (.wdgTimeout w) s = .next t ∧ t = s) ∧
    (s.bdg.wdg[w].last + (wdgWin s w).2 ≤ s.now → ∃ t, exec (.wdgTimeout w) s = .next t ∧
      t.get BDG_WDG_STATc_miss_cnt w.val = min (s.get BDG_WDG_STATc_miss_cnt w.val + 1) (2 ^ BDG_WDG_STATc_miss_cnt.width - 1) ∧
      t.inflight = s.inflight ++ [(0x20 + w.val, w.val)] ∧ Logged s t 0x4803 [w.val]) ∧
    (Admits s a → wdgOf a.ini = w.val → s.bdg.wdg[w].last + (wdgWin s w).1 ≤ s.now →
      v % 65536 = 0xFFFF - s.get BDG_WDG_STATc_token w.val →
      ∃ t, exec (.wdgKick a w v) s = .next t ∧ t.bdg.wdg[w].last = s.now ∧ t.get BDG_WDG_STATc_token w.val = s.freeVal % 2 ^ 16 ∧
        t.inflight = s.inflight) ∧
    (Admits s a → s.now < s.bdg.wdg[w].last + (wdgWin s w).1 → ∃ t, exec (.wdgKick a w v) s = .next t ∧
      t.inflight = s.inflight ++ [(0x20 + w.val, w.val)] ∧ t.bdg.wdg[w] = s.bdg.wdg[w] ∧
      t.get BDG_WDG_STATc_token w.val = s.get BDG_WDG_STATc_token w.val) ∧
    (s.owl.replay = none → ∃ t, exec (.faultRaised src m) s = .next t ∧
      t.getBit BDG_FSTATw_src (src.val % 32) (src.val / 32) = true ∧
      sget 0 t.bdg.counts src.val = sget 0 s.bdg.counts src.val + 1 ∧
      (3 ≤ classOf s src.val → 1 ≤ t.get BDG_STATE_unit) ∧
      (3 ≤ classOf s src.val → ∀ n : Ch, if s.chState n.val = 3 ∧ s.get CHn_SAFECFG_ch_safe_ss n.val = 1
        then t.chState n.val = 4 else t.chState n.val = 6) ∧ (3 ≤ classOf s src.val → t.tls.xlOut = false) ∧
      (4 = classOf s src.val → s.get BDG_STATE_unit < 2 → t.get BDG_STATE_unit = 2 ∧ t.get BDG_STATE_dev_cause = src.val) ∧
      (s.log.intake.length < 60 → (0x4801, [src.val, classOf s src.val]) ∈ t.log.intake))

/-- The agreement stages: the first value that waits for a pair leaves, counted against the comparisons that differed; Badger's pair takes
a source to the fault collection unit. The model's own readings and choices in it: log entry 119. -/
def Obligations.ChuckRelease : Prop :=
  ∀ (s : State) (p : AgreePair) (d : Fin 5) (v : InVal) (ts : Nat) (dis : Bool) (rest : List ChuckItem) (src : Fin 192) (m : Nat)
    (queue : List (Nat × Nat)) (n : Ch) (ty pay : Nat), Ready s →
    (let x : Nat := if dis then 4 else d.val; p ≠ 6 → s.chuck = ⟨p.val, v, ts, dis⟩ :: rest → ∃ t, exec (.chuckRelease p d) s = .next t ∧ t.chuck = rest ∧
      (inputLands v = true → t.landing = s.landing ++ [⟨p.val, v, ts, dis⟩]) ∧
      (inputLands v = false → inputWrite v = false → t.landing = s.landing) ∧
      (inputWrite v = false →
        t.get PRT_CHUCK_STAT_resample = min (s.get PRT_CHUCK_STAT_resample + min x 3) 0xFFFF ∧
        (x = 4 → t.inflight = s.inflight ++ [(0x1C, p.val)] ∧
          t.get PRT_CHUCK_STAT_disagree = min (s.get PRT_CHUCK_STAT_disagree + 1) (2 ^ PRT_CHUCK_STAT_disagree.width - 1)) ∧
        (x ≠ 4 → t.inflight = s.inflight ∧ t.get PRT_CHUCK_STAT_disagree = s.get PRT_CHUCK_STAT_disagree))) ∧
    (p ≠ 6 → v = .core ty n.val pay → ty ≠ 0x09 → s.chuck = ⟨p.val, v, ts, dis⟩ :: rest → pay % 2 ^ 40 < 0x8000 →
      wordWrite s n (pay % 2 ^ 40) = some none → ∃ t, exec (.chuckRelease p d) s = .next t ∧ t.chuck = rest ∧ t.landing = s.landing ∧
      sget 0 t.mem.lathe (spWord n.val (pay % 2 ^ 40)) = wordBits ⟨ofField 36 (pay / 2 ^ 40 % 2 ^ 36), ofField 36 (pay / 2 ^ 80 % 2 ^ 36)⟩) ∧
    (p ≠ 6 → s.chuck = [] → ∃ t, exec (.chuckRelease p d) s = .next t ∧ t = s) ∧
    (s.inflight = (src.val, m) :: queue → s.owl.replay = none → ∃ t, exec (.chuckRelease 6 d) s = .next t ∧
      t.getBit BDG_FSTATw_src (src.val % 32) (src.val / 32) = true ∧
      sget 0 t.bdg.counts src.val = sget 0 s.bdg.counts src.val + 1 ∧ t.chuck = s.chuck ∧
      t.get PRT_CHUCK_STAT_resample = min (s.get PRT_CHUCK_STAT_resample + min d.val 3) 0xFFFF) ∧
    (s.inflight = [] → ∃ t, exec (.chuckRelease 6 d) s = .next t ∧ t = s)

/-- The mailbox: every request gets its reply, with the state that it reads or changes; one that was submitted meanwhile is then taken.
The model's own readings and choices in it: log entry 50. -/
def Obligations.Mailbox : Prop :=
  ∀ (s : State) (seq crc : Nat) (srcs b : List Nat) (k : Nat), Ready s →
    let items := srcWords (fstat s) ++ srcWords (srcLive s) ++ (List.range 192).map (sget 0 s.bdg.counts)
      ++ (List.range 192).map (sget 0 s.bdg.payloads)
    (s.getB BDG_MB_REQ_go = false → ∃ t, exec (.faultRead seq) s = .next t ∧ t.bdg.reply = some ⟨0x0001, seq, 0, items⟩ ∧ t.get BDG_MB_STAT_done = 1 ∧
      t.get BDG_MB_STAT_busy = 0 ∧ t.get BDG_MB_REQ_go = 0 ∧ t.get BDG_MB_STAT_status = 0) ∧
    (s.getB BDG_MB_REQ_go = false → k ∈ srcs → k < 0x40 → srcLive s k = false → ∃ t, exec (.faultClear seq srcs) s = .next t ∧
      t.getBit BDG_FSTATw_src (k % 32) (k / 32) = false ∧ t.bdg.reply = some ⟨0x0002, seq, 0, []⟩ ∧ t.get BDG_MB_STAT_done = 1) ∧
    (k < 192 → (k ∉ srcs ∨ 0x40 ≤ k ∨ srcLive s k = true) → ∃ t, exec (.faultClear seq srcs) s = .next t ∧
      t.getBit BDG_FSTATw_src (k % 32) (k / 32) = s.getBit BDG_FSTATw_src (k % 32) (k / 32)) ∧
    (s.getB BDG_MB_REQ_go = false → ∃ t, exec (.classRead seq) s = .next t ∧ t.get BDG_MB_STAT_done = 1 ∧ t.get BDG_MB_STAT_busy = 0 ∧
      t.bdg.reply = some ⟨0x0003, seq, 0, (List.range 192).map (fun k => bclass s.bdg.block k)⟩) ∧
    (s.getB BDG_MB_REQ_go = false → crc32c b = crc → ∃ t, exec (.paramStage seq b crc) s = .next t ∧ t.bdg.block = s.bdg.block ∧ t.get BDG_MB_STAT_done = 1 ∧
      (blockOk b = true → blockQuiet s b = true → t.bdg.staged = some (b, crc) ∧ t.bdg.reply = some ⟨0x0010, seq, 0, []⟩ ∧
        t.get BDG_MB_STAT_status = 0) ∧
      (blockOk b = false → t.bdg.staged = s.bdg.staged ∧ t.bdg.reply = some ⟨0x0010, seq, 0x14, []⟩ ∧
        t.inflight = s.inflight ++ [(0x23, 0x14)])) ∧
    (s.getB BDG_MB_REQ_go = false → crc32c b ≠ crc → ∃ t, exec (.paramStage seq b crc) s = .next t ∧ t.bdg.staged = s.bdg.staged ∧
      t.bdg.reply = some ⟨0x0010, seq, 0x10, []⟩ ∧ t.get BDG_MB_STAT_status = 0x10 ∧ t.inflight = s.inflight ++ [(0x23, 0x10)] ∧
      Logged s t 0x4805 [0x10]) ∧
    (s.getB BDG_MB_REQ_go = false → ∃ t, exec (.paramRead seq) s = .next t ∧ t.bdg.reply = some ⟨0x0011, seq, 0, s.bdg.block.getD []⟩ ∧ t.get BDG_MB_STAT_done = 1) ∧
    (s.getB BDG_MB_REQ_go = false → ∃ t, exec (.monRead seq) s = .next t ∧ t.get BDG_MB_STAT_done = 1 ∧
      t.bdg.reply = some ⟨0x0020, seq, 0, (List.finRange 4).flatMap (fun n =>
        [s.bdg.tm[n].dev, s.bdg.tm[n].angCnt, s.bdg.tm[n].ang.getD 0, toField 32 s.bdg.tm[n].speed, s.bdg.tm[n].below])⟩) ∧
    (s.getB BDG_MB_REQ_go = true → mbTypes.contains (leNat ((List.range 2).map (fun j => s.byteAt (0x08000000 + j)))) = true →
      ∃ t, exec (.paramRead seq) s = .next t ∧ t.get BDG_MB_REQ_go = 0 ∧ t.get BDG_MB_STAT_busy = 1)

/-- The pairing roles: how a unit settles, what XL_IN and SEL_FB do, and takeovers and handovers to their end. The model's own readings
and choices in it: log entries 54, 56, 57. -/
def Obligations.PairRoles : Prop :=
  ∀ (s : State) (lvl : Bool) (c : Claim) (i : Fin 2), Ready s →
    let m := if s.get TLS_STAT_sel_fb ≠ 0 ∧ s.get BDG_STATE_unit = 0 then 1 else 3
    (s.getB TLS_CFG_en = true → s.get TLS_STAT_role = 0 → s.tls.waiting = false → s.getB LEG_OGATE_reset = false → s.getB TLS_CFG_auto_rejoin = true →
      s.getB TLS_STAT_xl_in = true →
      ∃ t, exec .roleSettle s = .next t ∧ t.get TLS_STAT_role = 2 ∧ t.get TLS_STAT_ready = 1 ∧ t.tls.xlOut = false ∧
        t.getB LEG_OGATE_standby = true) ∧
    (s.getB TLS_CFG_en = true → s.get TLS_STAT_role = 0 → s.tls.waiting = false → s.getB LEG_OGATE_reset = false → s.getB TLS_CFG_auto_rejoin = true →
      s.getB TLS_STAT_xl_in = false →
      s.get TLS_CFG_start_role = 0 → ∃ t, exec .roleSettle s = .next t ∧ t.get TLS_STAT_role = m ∧
        t.tls.xlOut = (s.get BDG_STATE_unit == 0)) ∧
    (s.getB TLS_CFG_en = true → s.get TLS_STAT_role = 0 → s.tls.waiting = false → s.getB LEG_OGATE_reset = false → s.getB TLS_CFG_auto_rejoin = true →
      s.getB TLS_STAT_xl_in = false →
      s.get TLS_CFG_start_role ≠ 0 → ∃ t, exec .roleSettle s = .next t ∧ t.tls.waiting = true ∧ t.regs = s.regs) ∧
    (s.getB TLS_CFG_en = true → s.tls.waiting = true → ∃ t, exec .startWaitExpired s = .next t ∧ t.get TLS_STAT_role = m ∧
      t.tls.waiting = false ∧ t.tls.xlOut = (s.get BDG_STATE_unit == 0)) ∧
    (s.getB TLS_CFG_en = true → s.tls.waiting = true → ∃ t, exec .heartbeatPresent s = .next t ∧ t.get TLS_STAT_xl_in = 1 ∧
      t.get TLS_STAT_role = 2 ∧ t.tls.waiting = false) ∧
    (s.tls.waiting = false → ∃ t, exec .heartbeatPresent s = .next t ∧ t.get TLS_STAT_xl_in = 1 ∧ t.tls = s.tls ∧
      t.get TLS_STAT_role = s.get TLS_STAT_role) ∧
    (s.getB TLS_CFG_en = true → s.get TLS_STAT_role = 2 → s.tls.claim = none → s.get TLS_STAT_ready = 2 →
      ∃ t, exec .heartbeatMissing s = .next t ∧ t.get TLS_STAT_xl_in = 0 ∧ t.get TLS_STAT_role = 3 ∧
        t.tls.claim.map (fun c => (c.src, c.hot, c.det)) = some (0, true, s.now) ∧ (0x2C, 0) ∈ t.inflight) ∧
    (s.getB TLS_CFG_en = true → s.get TLS_STAT_role = 2 → s.tls.claim = none → s.get TLS_STAT_ready ≠ 2 →
      s.getB TLS_CFG_cold_en = false → ∃ t, exec .heartbeatMissing s = .next t ∧ t.get TLS_STAT_xl_in = 0 ∧
        t.get TLS_STAT_role = 2 ∧ t.tls = s.tls ∧ Logged s t 0x500C [0]) ∧
    (s.getB TLS_CFG_en = true → s.tls.xlOut = true → s.getB TLS_STAT_sel_fb = false → s.getB TLS_STAT_xl_in = true →
      ∃ t, exec .standbyDemote s = .next t ∧ t.get TLS_STAT_role = 2 ∧ t.tls.xlOut = false ∧ t.tls.claim = none) ∧
    (s.getB TLS_CFG_en = true → s.get TLS_STAT_role = 3 → s.tls.claim = none → s.tls.xlOut = true →
      ∃ t, exec (.selFbChange lvl) s = .next t ∧ t.get TLS_STAT_sel_fb = (if lvl then 1 else 0) ∧ t.tls.selTs = s.now ∧
        t.get TLS_STAT_role = (if lvl then 1 else 3)) ∧
    ((s.getB TLS_CFG_en = false ∨ s.get TLS_STAT_role ≠ 3) → ∃ t, exec (.selFbChange lvl) s = .next t ∧
      t.get TLS_STAT_sel_fb = (if lvl then 1 else 0) ∧ t.get TLS_STAT_role = s.get TLS_STAT_role) ∧
    (s.getB TLS_CFG_en = true → s.get TLS_STAT_role = 1 → s.getB TLS_STAT_sel_fb = false → s.tls.release = none →
      ∃ t, exec .selectorFault s = .next t ∧ t.inflight = s.inflight ++ [(0x2F, 0)]) ∧
    (s.getB TLS_CFG_en = true → s.get TLS_STAT_role = 2 → s.getB TLS_STAT_sel_fb = true →
      ∃ t, exec .selectorFault s = .next t ∧ t.inflight = s.inflight ++ [(0x2F, 0)]) ∧
    (s.getB TLS_CFG_en = true → s.tls.claim = some c → ∃ t, exec .takeoverXlStart s = .next t ∧ t.get TLS_STAT_role = 3 ∧
      t.tls.xlOut = (s.get BDG_STATE_unit == 0) ∧ t.tls.claim = some { c with started := true }) ∧
    (s.getB TLS_CFG_en = true → s.tls.claim = some c → s.getB TLS_STAT_sel_fb = true → s.tls.selTs < s.now → s.tls.xlOut = true →
      ∃ t, exec .takeoverClaim s = .next t ∧ t.get TLS_STAT_role = 1 ∧ t.tls.claim = none ∧
        t.get TLS_LAST_TKO_src = c.src % 2 ^ TLS_LAST_TKO_src.width ∧
        t.get TLS_LAST_TKO_kind = (if c.src = 2 then 3 else if c.hot then 1 else 2) ∧
        t.get TLS_LAST_TKO_gap = min (s.now - c.det) 0xFFFFFF) ∧
    (s.getB TLS_CFG_en = true → s.tls.claim = some c → s.getB TLS_STAT_sel_fb = false → (c.chan = none ∨ c.retry = true) →
      ∃ t, exec .takeoverClaim s = .next t ∧ t.get TLS_STAT_role = 2 ∧ t.tls.claim = none ∧ t.tls.xlOut = false ∧
        t.get TLS_STAT_ready = 3 ∧ (0x2F, 0) ∈ t.inflight) ∧
    (s.getB TLS_CFG_en = true → s.get TLS_STAT_role = 1 → s.tls.handoff = 2 → ∃ t, exec .handoffRelease s = .next t ∧
      t.tls.xlOut = false ∧ t.tls.release = some s.now ∧ t.regs = s.regs) ∧
    (s.getB TLS_CFG_en = true → s.get TLS_STAT_role = 1 → s.tls.handoff = 1 → ∃ t, exec .handoffRelease s = .next t ∧
      t.tls.xlOut = s.tls.xlOut ∧ t.tls.handoff = 0 ∧ Logged s t 0x500B []) ∧
    (s.getB TLS_CFG_en = true → s.getBit TLS_STAT_lane_up i.val = false → ∃ t, exec (.laneUp i) s = .next t ∧ t.getBit TLS_STAT_lane_up i.val = true ∧ t.tls.link = true ∧
      (s.log.intake.length < 30 → (0x5003, [i.val, 1]) ∈ t.log.intake)) ∧
    (s.getB TLS_CFG_en = true → s.getBit TLS_STAT_lane_up i.val = true → ∃ t, exec (.laneDown i) s = .next t ∧ t.getBit TLS_STAT_lane_up i.val = false ∧
      t.tls.link = s.tls.link ∧ Logged s t 0x5003 [i.val, 0]) ∧
    (s.getB TLS_CFG_en = true → s.tls.link = true → s.get TLS_STAT_lane_up = 0 → ∃ t, exec .linkDown s = .next t ∧
      t.tls.link = false ∧ (0x2D, 0) ∈ t.inflight ∧ (s.log.intake.length < 30 → (0x5002, []) ∈ t.log.intake) ∧
      (s.get TLS_STAT_role = 2 → (s.get TLS_STAT_ready = 1 ∨ s.get TLS_STAT_ready = 2) →
        t.get TLS_STAT_ready = 3 ∧ t.get TLS_STAT_nr_cause = 4)) ∧
    (s.get TLS_STAT_lane_up ≠ 0 → ∃ t, exec .linkDown s = .next t ∧ t = s) ∧
    ((s.getB LEG_OGATE_reset = true ∨ s.getB TLS_CFG_auto_rejoin = false) → ∃ t, exec .roleSettle s = .next t ∧ t = s)

/-- The frames of the pair's link: a bad frame is discarded and counted, a good one is taken by the unit it is for, and the frames that
leave carry their body and CRC. The model's own readings and choices in it: log entries 51, 56, 124. -/
def Obligations.PairFrames : Prop :=
  ∀ (s : State) (b : List Nat) (k : Fin 4) (i : Fin 2), Ready s → s.getB TLS_CFG_en = true →
    let bad := min (s.get TLS_CNT_crc_err + 1) (2 ^ TLS_CNT_crc_err.width - 1)
    let crc := fun (x : List Nat) => x ++ leBytes 4 (crc32c x)
    let beat := [0x20, s.get TLS_STAT_role, s.get BDG_STATE_unit, s.get TLS_STAT_ready,
      if s.get TLS_STAT_role = 1 then (if s.tls.handoff = 1 then 1 else 0) else if s.tls.handoff = 2 then 2 else 0, 0, 0, 0]
        ++ leBytes 4 s.tls.hbSeq
    (laneUsed s i.val = false → exec (.checkpointRx i b) s = .next s ∧ exec (.meterCheckpointRx i b) s = .next s ∧
      exec (.timebaseSyncRx i b) s = .next s ∧ exec (.heartbeatRx i b) s = .next s ∧ exec (.configDigestRx i b) s = .next s) ∧
    (laneUsed s 0 = true → laneUsed s 1 = true → laneOf s 1 = some 0 ∧ laneOf s 2 = some 0 ∧ laneOf s 3 = some 1 ∧
      laneOf s 0x18 = some 1 ∧ laneOf s (0x10 + k.val) = some (k.val / 2)) ∧
    (laneUsed s i.val = true → laneUsed s (1 - i.val) = false → laneOf s k.val = some i.val) ∧
    ((frameIs 360 0x01 b = false ∨ 4 ≤ b.getD 1 0) → laneUsed s i.val = true →
      ∃ t, exec (.checkpointRx i b) s = .next t ∧ t.get TLS_CNT_crc_err = bad ∧ t.tls = s.tls) ∧
    (frameIs 360 0x01 b = true → b.getD 1 0 = k.val → s.get TLS_STAT_role = 2 → laneUsed s i.val = true →
      ∃ t, exec (.checkpointRx i b) s = .next t ∧
      t.tls.rx[k] = ((s.now, b) :: s.tls.rx[k]).take 2 ∧ t.regs = s.regs) ∧
    (frameIs 80 0x01 b = false → laneUsed s i.val = true →
      ∃ t, exec (.meterCheckpointRx i b) s = .next t ∧ t.get TLS_CNT_crc_err = bad ∧ t.mtr = s.mtr) ∧
    (frameIs 80 0x01 b = true → b.getD 1 0 % 16 = 8 → s.get TLS_STAT_role = 2 → laneUsed s i.val = true →
      ∃ t, exec (.meterCheckpointRx i b) s = .next t ∧ t.get64 MTR_EPOS_LO_total MTR_EPOS_HI_total = leAt b 16 8 % 2 ^ 64 ∧
        t.get64 MTR_ENEG_LO_total MTR_ENEG_HI_total = leAt b 24 8 % 2 ^ 64 ∧
        t.get64 MTR_QPOS_LO_total MTR_QPOS_HI_total = leAt b 32 8 % 2 ^ 64 ∧
        t.get64 MTR_QNEG_LO_total MTR_QNEG_HI_total = leAt b 40 8 % 2 ^ 64 ∧ t.get MTR_SEQ_seq = leAt b 48 4 % 2 ^ 32 ∧
        t.mtr.lastTs = leAt b 52 8 ∧ t.get MTR_CURPACKk_id k.val = leAt b (60 + 4 * k.val) 4 % 2 ^ 32 ∧ t.tls.meterOk = true) ∧
    (frameIs 80 0x01 b = true → b.getD 1 0 % 16 = 8 → s.get TLS_STAT_role ≠ 2 → laneUsed s i.val = true →
      ∃ t, exec (.meterCheckpointRx i b) s = .next t ∧ t = s) ∧
    (frameIs 48 0x10 b = false → laneUsed s i.val = true →
      ∃ t, exec (.timebaseSyncRx i b) s = .next t ∧ t.get TLS_CNT_crc_err = bad ∧ t.tls = s.tls) ∧
    (frameIs 48 0x10 b = true → leAt b 12 8 = 0 → laneUsed s i.val = true →
      ∃ t, exec (.timebaseSyncRx i b) s = .next t ∧
      t.tls.echo = some (leAt b 4 8, s.now) ∧ t.tls.ofs = s.tls.ofs ∧ t.regs = s.regs) ∧
    (frameIs 48 0x10 b = true → leAt b 12 8 ≠ 0 →
      let off := roundHE (128 * (((leAt b 20 8 : Int) - leAt b 12 8) + ((leAt b 4 8 : Int) - s.now)) + 2 * s.getS TLS_TRIM_asym) 256
      let d := roundHE (((s.now : Int) - leAt b 12 8) - ((leAt b 4 8 : Int) - leAt b 20 8)) 2
      laneUsed s i.val = true → ∃ t, exec (.timebaseSyncRx i b) s = .next t ∧ t.tls.echo = some (leAt b 4 8, s.now) ∧
        t.get64 TLS_PEER_OFS_LO_ofs TLS_PEER_OFS_HI_ofs = toField 64 off ∧ t.get TLS_DELAY_d = min d.toNat 0xFFFF ∧
        t.tls.ofs = ((s.now, off) :: s.tls.ofs).take 16) ∧
    (frameIs 16 0x20 b = false → laneUsed s i.val = true →
      ∃ t, exec (.heartbeatRx i b) s = .next t ∧ t.get TLS_CNT_crc_err = bad ∧ t.tls = s.tls) ∧
    (frameIs 16 0x20 b = true → laneUsed s i.val = true →
      ∃ t, exec (.heartbeatRx i b) s = .next t ∧
      t.get TLS_STAT_peer_role = b.getD 1 0 % 4 ∧ t.get TLS_STAT_peer_unit = b.getD 2 0 % 4 ∧ t.get TLS_STAT_peer_ready = b.getD 3 0 % 4 ∧
      ((b.getD 2 0 % 4 = 1 ∨ b.getD 2 0 % 4 = 2) → s.get TLS_STAT_role = 2 → s.tls.claim = none → s.get TLS_STAT_ready = 2 →
        t.get TLS_STAT_role = 3 ∧ t.tls.claim.map (fun c => (c.src, c.hot)) = some (1, true)) ∧
      (b.getD 2 0 % 4 = 0 → s.get TLS_STAT_role = 1 → (b.getD 4 0).testBit 1 = true → s.tls.handoff = 1 → t.tls.handoff = 2) ∧
      (b.getD 2 0 % 4 = 0 → s.get TLS_STAT_role = 2 → (b.getD 4 0).testBit 0 = true → s.get TLS_STAT_ready = 2 →
        s.tls.claim = none → t.tls.handoff = 2 ∧ t.tls.claim.map (fun c => c.src) = some 2)) ∧
    (frameIs 40 0x30 b = false → laneUsed s i.val = true →
      ∃ t, exec (.configDigestRx i b) s = .next t ∧ t.get TLS_CNT_crc_err = bad ∧ t.tls = s.tls) ∧
    (frameIs 40 0x30 b = true → (b.drop 4).take 32 = digestBytes s → laneUsed s i.val = true →
      ∃ t, exec (.configDigestRx i b) s = .next t ∧
      t.get TLS_STAT_digest_ok = 1 ∧ t.tls.peerDigest = some ((b.drop 4).take 32) ∧ t.inflight = s.inflight) ∧
    (frameIs 40 0x30 b = true → (b.drop 4).take 32 ≠ digestBytes s → laneUsed s i.val = true →
      ∃ t, exec (.configDigestRx i b) s = .next t ∧
      t.get TLS_STAT_digest_ok = 0 ∧ t.tls.peerDigest = some ((b.drop 4).take 32) ∧ t.inflight = s.inflight ++ [(0x2E, 0)] ∧
      (s.log.intake.length < 60 → (0x5007, []) ∈ t.log.intake)) ∧
    (s.get TLS_STAT_role = 1 → s.tls.link = true → (laneOf s 0x18).isSome = true → ∃ t, exec .meterCheckpointTx s = .next t ∧
      sget [] t.tls.tx (0x100 * (laneOf s 0x18).getD 0 + 0x18) = crc (meterCkpt s) ∧ t.regs = s.regs) ∧
    (s.get TLS_STAT_role ≠ 1 → ∃ t, exec .meterCheckpointTx s = .next t ∧ t = s) ∧
    (s.tls.link = true → (laneOf s 1).isSome = true → ∃ t, exec .timebaseSyncTx s = .next t ∧ t.tls.syncSeq = s.tls.syncSeq + 1 ∧
      (sget [] t.tls.tx (0x100 * (laneOf s 1).getD 0 + 1)).take 28 = [0x10, s.tls.syncSeq % 256, 0, 0] ++ leBytes 8 s.now ++ leBytes 8 (s.tls.echo.getD (0, 0)).1
        ++ leBytes 8 (s.tls.echo.getD (0, 0)).2) ∧
    (s.tls.link = true → (laneOf s 2).isSome = true → ∃ t, exec .heartbeatTx s = .next t ∧ t.tls.hbSeq = s.tls.hbSeq + 1 ∧ 
      sget [] t.tls.tx (0x100 * (laneOf s 2).getD 0 + 2) = crc beat) ∧
    ((s.tls.link = false ∨ laneOf s 2 = none) → ∃ t, exec .heartbeatTx s = .next t ∧ t.tls.hbSeq = s.tls.hbSeq + 1 ∧ t.tls.tx = s.tls.tx) ∧
    (s.tls.link = true → (laneOf s 3).isSome = true →
      ∃ t, exec .configDigestTx s = .next t ∧ sget [] t.tls.tx (0x100 * (laneOf s 3).getD 0 + 3) = crc ([0x30, 0, 0, 0] ++ digestBytes s) ∧
      t.regs = s.regs)

/-- Pairing is enabled and disabled, and the MP's commands of the pairing: the status read, the handover, the rejoin. The model's own
readings and choices in it: log entry 97. -/
def Obligations.PairControl : Prop :=
  ∀ (s : State) (a : Access) (v : Nat) (c : Ctx) (p : List Nat), Ready s →
    let bit := fun (f : Fld) => v / 2 ^ f.lsb % 2 ^ f.width
    (Admits s a → s.get TLS_CFG_en = 0 → bit TLS_CFG_en = 1 → bit TLS_CFG_start_wait ≠ 0 → 200 ≤ bit TLS_CFG_hb_lead →
      bit TLS_CFG_hb_lead ≤ 4000 → allOff s = true →
      ∃ t, exec (.tlsEnable a v) s = .next t ∧ t.get TLS_CFG_en = 1 ∧ t.get TLS_CFG_hb_lead = bit TLS_CFG_hb_lead ∧
        (s.getB LEG_OGATE_reset = true → t.get TLS_STAT_role = s.get TLS_STAT_role ∧ t.tls = s.tls) ∧
        (s.getB LEG_OGATE_reset = false → s.getB TLS_STAT_xl_in = true → t.get TLS_STAT_role = 2) ∧
        (s.getB LEG_OGATE_reset = false → s.getB TLS_STAT_xl_in = false → bit TLS_CFG_start_role = 0 → s.getB TLS_STAT_sel_fb = false → t.get TLS_STAT_role = 3) ∧
        (s.getB LEG_OGATE_reset = false → s.getB TLS_STAT_xl_in = false → bit TLS_CFG_start_role ≠ 0 → t.tls.waiting = true)) ∧
    (Admits s a → s.get TLS_CFG_en = 1 → bit TLS_CFG_en = 0 → (∀ f ∈ [TLS_CFG_start_role, TLS_CFG_cold_en, TLS_CFG_start_wait, TLS_CFG_lane_mask, TLS_CFG_auto_rejoin,
        TLS_CFG_hb_lead], bit f = s.get f) → s.get TLS_CFG_start_wait ≠ 0 → 200 ≤ s.get TLS_CFG_hb_lead →
      s.get TLS_CFG_hb_lead ≤ 4000 → allOff s = true → (s.get TLS_STAT_role = 1 ∨ s.get TLS_STAT_role = 2) → s.tls.claim = none →
      s.tls.handoff = 0 →
      ∃ t, exec (.tlsDisable a v) s = .next t ∧ t.get TLS_CFG_en = 0 ∧ t.get TLS_STAT_role = 0 ∧ t.tls.xlOut = false) ∧
    (Admits s a → s.get TLS_CFG_en = 1 → bit TLS_CFG_en = 0 → allOff s = false →
      ∃ t, exec (.tlsDisable a v) s = .next t ∧ t.get TLS_CFG_en = 1 ∧ t.tls = s.tls ∧ Logged s t 0x500E []) ∧
    (Serves s c 0xA0 p → ∃ t, exec (.pairStatus c p) s = .next t ∧
      t = complete (opPairStatus s c p).2 { c with opcode := 0xA0 } 0 ([TLS_STAT_role, TLS_CNT_tko_cnt, TLS_ALIGN_err, TLS_LAST_TKO_gap].flatMap
        (fun f => leBytes 4 (match regOf f.addr with
          | some (r, i, j) => regWord s r i j
          | none => 0)))) ∧
    (Serves s c 0xA1 p → p = [2] → s.get TLS_STAT_role = 1 → s.get TLS_STAT_peer_ready = 2 → s.tls.handoff = 0 →
      ∃ t, exec (.pairRole c p) s = .next t ∧ t.tls.handoff = 1 ∧
        t.fpl.running = s.fpl.running ++ [⟨{ c with opcode := 0xA1 }, p, false⟩] ∧ t.regs = s.regs) ∧
    (Serves s c 0xA1 p → p ≠ [2] → ∃ t, exec (.pairRole c p) s = .next t ∧ t = complete s { c with opcode := 0xA1 } 0x14) ∧
    (Serves s c 0xA1 p → p = [2] → s.get TLS_STAT_role ≠ 1 →
      ∃ t, exec (.pairRole c p) s = .next t ∧ t = complete s { c with opcode := 0xA1 } 0x22) ∧
    (Serves s c 0xA2 p → s.getB TLS_CFG_en = true → (s.get TLS_STAT_role = 0 ∨ s.get TLS_STAT_role = 2 ∧ s.get TLS_STAT_ready = 3) → s.getB TLS_STAT_xl_in = true →
      ∃ t, exec (.pairRejoin c p) s = .next t ∧ t.get TLS_STAT_role = 2 ∧ t.get TLS_STAT_ready = 1 ∧ t.tls.xlOut = false) ∧
    (Serves s c 0xA2 p → s.getB TLS_CFG_en = false →
      ∃ t, exec (.pairRejoin c p) s = .next t ∧ t = complete s { c with opcode := 0xA2 } 0x22) ∧
    (Serves s c 0xA2 p → s.get TLS_STAT_role = 2 → s.get TLS_STAT_ready ≠ 3 →
      ∃ t, exec (.pairRejoin c p) s = .next t ∧ t = complete s { c with opcode := 0xA2 } 0x22)

/-- Faceplate's queues: an arriving packet is rejected, refused with a completion, or stored; a core's tail write adds its entries; the MP
takes the oldest command of the queue whose turn it is; waits, idle queues and challenges expire; and the MP's load is shown. The model's
own readings and choices in it: log entries 70, 72, 73, 134. -/
def Obligations.Queues : Prop :=
  ∀ (s : State) (a : Access) (q : Qp) (cl : Fin 4) (c : Ctx) (busy : Fin 256) (src v k st : Nat) (p b : List Nat) (rest : List Nat),
    Ready s → s.bdg.clkBad.testBit 3 = false →
    let room := decide (sqLen s (qpOf (b.getD 2 0)) < qDepth s (qpOf (b.getD 2 0)))
    let u := settleOps s
    let n := min ((v / 2 ^ QPq_SQ_tail.lsb % 512 + 512 - s.get QPq_SQ_tail q.val) % 512) (qDepth s q - sqLen s q)
    let hd := sqPacket s q k
    let ctx := ctxOf hd (decide (hd.getD 6 0 / 16 % 2 = 1) && s.getB QPq_CFG_priv q.val)
    (judgePkt s 0 b room = .rej st → ∃ t, exec (.packetArrival .hlk src b) s = .next t ∧
      t.get FPL_STAT_rej = min (s.get FPL_STAT_rej + 1) (2 ^ FPL_STAT_rej.width - 1) ∧ t.fpl = s.fpl ∧ t.mem = s.mem) ∧
    (judgePkt s 0 b room = .stored c p false → s.get QPq_SQ_tail c.q.val < 511 → ∃ t, exec (.packetArrival .hlk src b) s = .next t ∧
      t.get QPq_SQ_tail c.q.val = s.get QPq_SQ_tail c.q.val + 1 ∧ t.fpl.qps[c.q].pkts = s.fpl.qps[c.q].pkts + 1 ∧
      t.fpl.qps[c.q].lastTs = s.now ∧ t.get FPL_STAT_rej = s.get FPL_STAT_rej ∧
      (∀ i, i < b.length → t.byteAt (sqAddr s c.q (s.get QPq_SQ_tail c.q.val) + i) = b.getD i 0 % 256)) ∧
    (judgePkt s 0 b room = .bad c st → st ≠ 0x30 → ∃ t, exec (.packetArrival .hlk src b) s = .next t ∧
      t = complete (s.modQp c.q (fun x => { x with lastTs := s.now })) { c with flags := 0 } st) ∧
    (Admits s a → ownsQueue s a q.val = true → s.get QPq_SQ_tail q.val < 512 → ∃ t, exec (.sqTailWrite a q v) s = .next t ∧
      (t.port a.ini).reply = .none ∧ t.get QPq_SQ_tail q.val = (s.get QPq_SQ_tail q.val + n) % 512) ∧
    (Admits s a → ownsQueue s a q.val = false → ∃ t, exec (.sqTailWrite a q v) s = .next t ∧ t.regs = s.regs ∧ t.fpl = s.fpl) ∧
    ((mpRuns u = false ∨ mpPick u = none) → ∃ t, exec .mpDispatch s = .next t ∧ t = u) ∧
    (mpRuns s = true → s.fpl.running = [] → mpPick s = some (cl, q) → qWaiting s q = k :: rest → qCmac s q = false →
      ∃ t, exec .mpDispatch s = .next t ∧ t = opGo (mpServe s cl q k) ctx (hd.drop 16) (opOf ctx.opcode)) ∧
    (qWaiting s q = k :: rest → qOpen s q = true → s.get QPq_WAIT_qwait q.val ≠ 0 → ∃ t, exec (.waitExpired q) s = .next t ∧
      t = qServe (complete (s.incSat QPq_STAT_wexp_cnt q.val) ctx 0x31) q k ∧
      t.get QPq_STAT_wexp_cnt q.val = min (s.get QPq_STAT_wexp_cnt q.val + 1) (2 ^ QPq_STAT_wexp_cnt.width - 1)) ∧
    (s.get QPq_WAIT_qwait q.val = 0 → ∃ t, exec (.waitExpired q) s = .next t ∧ t = s) ∧
    (∃ t, exec (.mploadWindow busy) s = .next t ∧ t.get FPL_MPLOAD_load = busy.val ∧
      (2304 < 10 * busy.val → s.fpl.above = 9 → t.get FPL_MPLOAD_overload ≠ 0) ∧
      (10 * busy.val < 2048 → 9 ≤ s.fpl.below → t.get FPL_MPLOAD_overload = 0) ∧
      (2048 ≤ 10 * busy.val → 10 * busy.val ≤ 2304 → t.get FPL_MPLOAD_overload = s.get FPL_MPLOAD_overload)) ∧
    (qOpen s q = true → 4 ≤ q.val → s.get QPq_WAIT_idle_to q.val ≠ 0 →
      s.fpl.qps[q].lastTs + 10 * tkMs * s.get QPq_WAIT_idle_to q.val ≤ s.now → ∃ t, exec (.queueIdleTimeout q) s = .next t ∧
      qOpen t q = false ∧ sqLen t q = 0 ∧ t.fpl.qps[q].served = [] ∧ t.fpl.qps[q].key = none ∧ (∀ r ∈ t.fpl.running, r.ctx.q = q → r.void = true) ∧ Logged s t 0x6002 [q.val]) ∧
    ((q.val < 4 ∨ s.get QPq_WAIT_idle_to q.val = 0 ∨ s.now < s.fpl.qps[q].lastTs + 10 * tkMs * s.get QPq_WAIT_idle_to q.val) → ∃ t, exec (.queueIdleTimeout q) s = .next t ∧ t = s) ∧
    (∃ t, exec (.challengeExpiry q) s = .next t ∧ t.fpl.reserves = s.fpl.reserves.filter (fun r => r.q != q.val) ∧ t.regs = s.regs)

/-- The MP's general commands: NOP, the status, the events, the sessions, the profile. A completion stores at its queue's ring and at no
other byte. The model's own readings and choices in it: log entries 70, 72, 92. -/
def Obligations.GeneralCommands : Prop :=
  ∀ (s : State) (c : Ctx) (p : List Nat) (q : Qp) (a v : Nat) (r : Reserve) (key : List Nat), Ready s →
    let cl := fun (op : Nat) => { c with opcode := op }
    let ask := (s.get FPL_EVT_SEQ_seq + 2 ^ 32 - leAt p 0 4 % 2 ^ 32) % 2 ^ 32
    let evs := ((s.log.ring.take ask).reverse).take (p.getD 4 0)
    let nonce := (List.range 16).map (fun k => Config.freeValue (s.free + k) % 256)
    (Serves s c 0x01 p → ∃ t, exec (.nop c p) s = .next t ∧ t = complete s (cl 0x01) 0 ∧
      ∀ x, (x < cqAddr s c.q (s.get QPq_CQ_tail c.q.val) ∨ cqAddr s c.q (s.get QPq_CQ_tail c.q.val) + 24 ≤ x) → t.byteAt x = s.byteAt x) ∧
    (Predecodes s c 0x02 p → ∃ t, exec (.getStatus c p) s = .next t ∧ t = complete s (cl 0x02) 0
      ([s.get SYS_PROFILE_active, s.get BDG_STATE_unit, s.get FPL_MPLOAD_load, s.get TLS_STAT_role]
        ++ (List.range 4).flatMap (fun n => leBytes 4 (chStateWord s n)) ++ leBytes 4 (s.get FPL_EVT_SEQ_seq) ++ leBytes 8 s.now)) ∧
    (Serves s c 0x03 p → 1 ≤ p.getD 4 0 → p.getD 4 0 ≤ 9 → shutBist s = false → ask ≤ s.log.ring.length → ask < 2 ^ 31 →
      ∃ t, exec (.getEvents c p) s = .next t ∧ t = complete s (cl 0x03) 0
        (leBytes 4 ((s.get FPL_EVT_SEQ_seq + 2 ^ 32 - ask + evs.length) % 2 ^ 32) ++ [evs.length, 0, 0, 0] ++ evs.flatMap evBytes)) ∧
    (Serves s c 0x03 p → (p.getD 4 0 = 0 ∨ 9 < p.getD 4 0) →
      ∃ t, exec (.getEvents c p) s = .next t ∧ t = complete s (cl 0x03) 0x14) ∧
    (Serves s c 0x04 (p.set 0 0) → sessionOk (p.set 0 0) = true → qFree s = some q →
      ringAlloc s (512 * 2 ^ p.getD 2 0) = some a → 2 ≤ p.length →
      ∃ t, exec (.sessionOpen c p) s = .next t ∧ qOpen t q = true ∧ t.get QPq_CFG_transport q.val = qTrans s c.q % 8 ∧
        t.get QPq_CFG_class q.val = p.getD 1 0 ∧ t.get QPq_CFG_depth q.val = p.getD 2 0 ∧ t.get QPq_BASE_addr q.val = a % 2 ^ 32 ∧
        (s.log.intake.length < 60 → (0x6001, [q.val]) ∈ t.log.intake)) ∧
    (Serves s c 0x04 (p.set 0 0) → sessionOk (p.set 0 0) = true → qFree s = none →
      ∃ t, exec (.sessionOpen c p) s = .next t ∧ t = complete s (cl 0x04) 0x12) ∧
    (Serves s c 0x04 (p.set 0 1) → 2 ≤ p.length → barred s (qTrans s c.q) = false → sessionOk (p.set 0 1) = true → qFree s = some q →
      ringAlloc s (512 * 2 ^ p.getD 2 0) = some a →
      ∃ t, exec (.challenge c p) s = .next t ∧ t.fpl.reserves = ⟨q.val, nonce, qTrans s c.q, p.set 0 1⟩ :: s.fpl.reserves ∧
        t.free = s.free + 16 ∧ qOpen t q = qOpen s q) ∧
    (Serves s c 0x04 (p.set 0 1) → 2 ≤ p.length → barred s (qTrans s c.q) = true →
      ∃ t, exec (.challenge c p) s = .next t ∧ t = complete s (cl 0x04) 0x20) ∧
    (Serves s c 0x04 (p.set 0 2) → 9 ≤ p.length → sessionOk (p.set 0 2) = true →
      s.fpl.reserves.find? (fun r => r.transport == qTrans s c.q) = some r → aesKey s (p.getD 8 0) 3 = some key →
      ∃ t, exec (.openP c p) s = .next t ∧ ((p.drop 9).take 16 = aesCmac key (r.nonce ++ devIdBytes ++ [r.q, 1]) →
        qOpen t (qpOf r.q) = true ∧ t.fpl.qps[qpOf r.q].key = some (aesCmac key (r.nonce ++ devIdBytes ++ [r.q, 2])) ∧
        t.fpl.reserves = s.fpl.reserves.filter (fun x => x.q != r.q))) ∧
    (Serves s c 0x04 (p.set 0 2) → 9 ≤ p.length → sessionOk (p.set 0 2) = true →
      s.fpl.reserves.find? (fun r => r.transport == qTrans s c.q) = none →
      ∃ t, exec (.openP c p) s = .next t ∧ t.fpl.reserves = s.fpl.reserves ∧
        (s.log.intake.length < 60 → (0x6007, [qTrans s c.q]) ∈ t.log.intake)) ∧
    (Serves s c 0x05 p → p = [q.val] → 4 ≤ q.val → qOpen s q = true → qTrans s q = qTrans s c.q →
      (c.priv = true ∨ s.getB QPq_CFG_priv q.val = false) →
      ∃ t, exec (.sessionClose c p) s = .next t ∧ qOpen t q = false ∧ sqLen t q = 0 ∧ t.fpl.qps[q].key = none ∧
        Logged s t 0x6002 [q.val]) ∧
    (Serves s c 0x05 p → p = [q.val] → q.val < 4 → qOpen s q = true → qTrans s q = qTrans s c.q →
      (c.priv = true ∨ s.getB QPq_CFG_priv q.val = false) →
      ∃ t, exec (.sessionClose c p) s = .next t ∧ t = complete s (cl 0x05) 0x22) ∧
    (Serves s c 0x06 p → p = [v] → v ≤ 3 → s.dev.cfgLock = false → v ≠ s.get SYS_PROFILE_active →
      (∀ n : Ch, s.chState n.val = 0 ∨ s.chState n.val = 2 ∨ s.chState n.val = 6) →
      ∃ t, exec (.setProfile c p) s = .next t ∧ t.get SYS_PROFILE_request = v ∧ t.get SYS_PROFILE_pending = 1 ∧
        t.pwr.profTo = some v ∧ t.fpl.running = s.fpl.running ++ [⟨cl 0x06, p, false⟩]) ∧
    (Serves s c 0x06 p → p = [v] → v ≤ 3 → s.dev.cfgLock = false → v = s.get SYS_PROFILE_active → s.get SYS_PROFILE_pending = 0 →
      ∃ t, exec (.setProfile c p) s = .next t ∧ t = complete (s.put SYS_PROFILE_request v) (cl 0x06) 0) ∧
    (Serves s c 0x06 p → p = [v] → v ≤ 3 → s.dev.cfgLock = false → v ≠ s.get SYS_PROFILE_active → s.chState 3 = 3 →
      ∃ t, exec (.setProfile c p) s = .next t ∧ t = complete s (cl 0x06) 0x22) ∧
    (Serves s c 0x06 p → p = [v] → 3 < v → ∃ t, exec (.setProfile c p) s = .next t ∧ t = complete s (cl 0x06) 0x14)

/-- The MP's set points, registers and coefficients: what each command writes or returns. A word of a set point goes to its pair through
Chuck (`ChuckRelease` says what its release stores). The model's own readings and choices in it: log entries 93, 94, 128, 132. -/
def Obligations.SetPointsAndRegisters : Prop :=
  ∀ (s u : State) (c : Ctx) (p : List Nat) (st i : Nat) (e : WordErrs), Ready s →
    let n := chOf c.chan
    let cl := fun (op : Nat) => { c with opcode := op }
    let W := fun (t : State) (w : Nat) => sget 0 t.mem.lathe (spWord n.val w)
    let item := fun (w : Nat) (x : Int) => (⟨2 + n.val, .core 0 n.val (w + 2 ^ 40 * toField 36 (sat36 x)), s.now, false⟩ : ChuckItem)
    let b := p.headD 0
    let first := leAt p 2 2
    let l := (List.range (p.getD 4 0)).map fun k => spWord n.val (b * 0x400 + first + k)
    let r := eccReads s 1 2 (fun w => l.contains w) e
    (Serves s c 0x20 p → slotOwns s n 1 = false → s.get TLS_STAT_role ≠ 2 → s.replayed n.val = false →
      ∃ t, exec (.setTorque c p) s = .next t ∧ t.chuck = s.chuck ++ [item 0x848 (xImage p 0)]) ∧
    (Serves s c 0x20 p → slotOwns s n 1 = true → ∃ t, exec (.setTorque c p) s = .next t ∧ t = complete s (cl 0x20) 0x22) ∧
    (Serves s c 0x20 p → slotOwns s n 1 = false → s.get TLS_STAT_role = 2 →
      ∃ t, exec (.setTorque c p) s = .next t ∧ t = complete s (cl 0x20) 0) ∧
    (Serves s c 0x21 p → p.length = 16 → slotOwns s n 2 = false → slotOwns s n 3 = false → s.get TLS_STAT_role ≠ 2 →
      s.replayed n.val = false → ∃ t, exec (.setSpeed c p) s = .next t ∧
        t.chuck = s.chuck ++ [item 0x850 (xImage p 0), item 0x858 (xImage p 8)]) ∧
    (Serves s c 0x21 p → slotOwns s n 2 = true → ∃ t, exec (.setSpeed c p) s = .next t ∧ t = complete s (cl 0x21) 0x22) ∧
    (Serves s c 0x22 p → 0 ≤ xImage p 0 → xImage p 0 ≤ 2 ^ 35 → ∃ t, exec (.setLimits c p) s = .next t ∧
      (t.sp n).fld.tSet = some (sat36 (xImage p 0)) ∧ t.mem.lathe = s.mem.lathe) ∧
    (Serves s c 0x22 p → (xImage p 0 < 0 ∨ 2 ^ 35 < xImage p 0) →
      ∃ t, exec (.setLimits c p) s = .next t ∧ t = complete s (cl 0x22) 0x14) ∧
    (Serves s c 0x23 p → b ≤ 3 → 0 ≤ xImage p 8 → 0 ≤ xImage p 16 → 0 ≤ xImage p 24 → s.replayed n.val = false →
      ∃ t, exec (.setRampLimits c p) s = .next t ∧
        t.chuck = s.chuck ++ [item (0x841 + 8 * b) (xImage p 8), item (0x842 + 8 * b) (xImage p 16), item (0x843 + 8 * b) (xImage p 24)]) ∧
    (Serves s c 0x23 p → (3 < b ∨ xImage p 8 < 0) → ∃ t, exec (.setRampLimits c p) s = .next t ∧ t = complete s (cl 0x23) 0x14) ∧
    (Serves s c 0x30 p → b = 1 → cfgPut s c.priv (leAt p 4 4) (leAt p 8 4) = (st, u) → u.pwr.stage ≠ 1 →
      ∃ t, exec (.cfgWrite c p) s = .next t ∧ t = complete u (cl 0x30) st [if st = 0 then 1 else 0]) ∧
    (Serves s c 0x30 p → (b = 0 ∨ 28 < b) → ∃ t, exec (.cfgWrite c p) s = .next t ∧ t = complete s (cl 0x30) 0x14) ∧
    (Serves s c 0x31 p → b = 1 → cfgAddr (leAt p 4 4) = true → ∃ t, exec (.cfgRead c p) s = .next t ∧
      t = complete (cfgGet s c.priv (leAt p 4 4)).2 (cl 0x31) 0 (leBytes 4 (cfgGet s c.priv (leAt p 4 4)).1)) ∧
    (Serves s c 0x31 p → (b = 0 ∨ 57 < b) → ∃ t, exec (.cfgRead c p) s = .next t ∧ t = complete s (cl 0x31) 0x14) ∧
    (Serves s c 0x32 p → ∃ t, exec (.cfgLock c p) s = .next t ∧ t.dev.cfgLock = true ∧ t.dev.held = false) ∧
    (Serves s c 0x40 p → b ≤ 1 → i < p.getD 4 0 → p.getD 4 0 ≤ 24 → first + p.getD 4 0 ≤ 0x400 → (p.getD 1 0).testBit 0 = false →
      (List.range (p.getD 4 0)).all (fun j => (wordWrite s n (b * 0x400 + first + j)).isSome) = true → s.replayed n.val = false →
      ∃ t, exec (.coefLoad c p) s = .next t ∧ W t (b * 0x400 + first + i) = wordBits (wordAt p (8 + 9 * i))) ∧
    (Serves s c 0x40 p → b ≤ 1 → 1 ≤ p.getD 4 0 → p.getD 4 0 ≤ 24 → first + p.getD 4 0 ≤ 0x400 →
      wordWrite s n (b * 0x400 + first) = none → ∃ t, exec (.coefLoad c p) s = .next t ∧
      t = complete (s.logEv 0x3103 [n.val, b * 0x400 + first]) (cl 0x40) 0x22) ∧
    (Serves s c 0x41 p → swapRefusal s n = 0 → ∃ t, exec (.coefSwap c p) s = .next t ∧ t.get SPn_BANK_swap n.val = 1 ∧
      t.get SPn_BANK_active n.val = s.get SPn_BANK_active n.val) ∧
    (Serves s c 0x41 p → swapRefusal s n = 1 → ∃ t, exec (.coefSwap c p) s = .next t ∧
      t = complete (s.logEv 0x3107 [n.val]) (cl 0x41) 0x22) ∧
    (e = [] → r = s) ∧
    (Serves s c 0x42 p → b ≤ 2 → 1 ≤ p.getD 4 0 → p.getD 4 0 ≤ 25 → first + p.getD 4 0 ≤ (if b = 2 then 0x100 else 0x400) →
      l.any (isUe r 1) = false → ∃ t, exec (.coefRead c p e) s = .next t ∧
        t = complete r (cl 0x42) 0 (l.flatMap fun w => wordImage (r.lwRead w))) ∧
    (Serves s c 0x42 p → b ≤ 2 → 1 ≤ p.getD 4 0 → p.getD 4 0 ≤ 25 → first + p.getD 4 0 ≤ (if b = 2 then 0x100 else 0x400) →
      l.any (isUe r 1) = true → ∃ t, exec (.coefRead c p e) s = .next t ∧ t = complete r (cl 0x42) 0x14) ∧
    (Serves s c 0x42 p → (2 < b ∨ p.getD 4 0 = 0 ∨ 25 < p.getD 4 0) →
      ∃ t, exec (.coefRead c p e) s = .next t ∧ t = complete s (cl 0x42) 0x14)

/-- The MP's converter, position, protection and meter commands. The model's own readings and choices in it: log entries 95, 96, 130. -/
def Obligations.ConverterAndMeterCommands : Prop :=
  ∀ (s : State) (c : Ctx) (p : List Nat) (i : Ain) (k crc : Nat) (b rec : List Nat), Ready s →
    let n := chOf c.chan
    let cl := fun (op : Nat) => { c with opcode := op }
    let cv := cvOf (p.headD 0)
    (Serves s c 0x50 p → p.headD 0 ≤ 7 → p.getD 1 0 = 0 → s.get CVc_CAL_full cv.val = 0 →
      (feedsRunning s cv = false ∨ s.getB CVc_CFG_partner_en cv.val = true) →
      ∃ t, exec (.cvCalibrate c p) s = .next t ∧ t.get CVc_CAL_full cv.val = 1) ∧
    (Serves s c 0x50 p → p.headD 0 ≤ 7 → p.getD 1 0 = 1 → ∃ t, exec (.cvCalibrate c p) s = .next t ∧
      t.get CVc_CAL_bg_slice cv.val = 0 ∧ t.get CVc_CAL_bg_busy cv.val = 0 ∧ t.get CVc_CAL_full cv.val = s.get CVc_CAL_full cv.val) ∧
    (Serves s c 0x50 p → p.headD 0 ≤ 7 → p.getD 1 0 = 0 → s.get CVc_CAL_full cv.val = 1 →
      ∃ t, exec (.cvCalibrate c p) s = .next t ∧ t = complete s (cl 0x50) 0x42) ∧
    (Serves s c 0x51 p → p.headD 0 ≤ 7 → p.getD 1 0 ≤ 3 → windowOk (p.getD 4 0) (p.getD 3 0) (p.getD 2 0) = true →
      s.get CVc_INJk_start cv.val (p.getD 1 0) = 0 → ∃ t, exec (.cvInject c p) s = .next t ∧
        t.get CVc_INJk_start cv.val (p.getD 1 0) = 1 ∧ t.get CVc_INJk_input cv.val (p.getD 1 0) = p.getD 2 0 % 2 ^ CVc_INJk_input.width ∧
        t.fpl.running = s.fpl.running ++ [⟨cl 0x51, p, false⟩]) ∧
    (Serves s c 0x51 p → p.headD 0 ≤ 7 → p.getD 1 0 ≤ 3 → windowOk (p.getD 4 0) (p.getD 3 0) (p.getD 2 0) = true →
      s.get CVc_INJk_start cv.val (p.getD 1 0) = 1 → ∃ t, exec (.cvInject c p) s = .next t ∧ t = complete s (cl 0x51) 0x32) ∧
    (Serves s c 0x52 p → (owInputs p).any (inputRuns s) = false → i ∈ owInputs p → s.cvb.cmps[i].ow = .idle →
      ∃ t, exec (.cvOpenWireTest c p) s = .next t ∧ t.cvb.cmps[i].ow = .up ∧ t.fpl.running = s.fpl.running ++ [⟨cl 0x52, p, false⟩]) ∧
    (Serves s c 0x52 p → (owInputs p).any (inputRuns s) = true →
      ∃ t, exec (.cvOpenWireTest c p) s = .next t ∧ t = complete s (cl 0x52) 0x22) ∧
    (Serves s c 0x60 p → srcCodeOf s n true = 1 → s.getB PIFn_CTL_z_en n.val = true →
      ∃ t, exec (.posHome c p) s = .next t ∧ (t.pif n).homeArmed = true) ∧
    (Serves s c 0x60 p → srcCodeOf s n true ≠ 1 → ∃ t, exec (.posHome c p) s = .next t ∧ t = complete s (cl 0x60) 0x14) ∧
    (Serves s c 0x61 p → srcCodeOf s n true = 1 → leAt p 4 4 < s.get PIFn_GEOM_cpr n.val →
      ∃ t, exec (.posSet c p) s = .next t ∧ t.get PIFn_ZSTAT_referenced n.val = 1 ∧
        t.get PIFn_REVPOS_rev_pos n.val = leAt p 4 4 % 2 ^ 24) ∧
    (Serves s c 0x61 p → (srcCodeOf s n true ≠ 1 ∨ s.get PIFn_GEOM_cpr n.val ≤ leAt p 4 4) →
      ∃ t, exec (.posSet c p) s = .next t ∧ t = complete s (cl 0x61) 0x14) ∧
    (Serves s c 0x70 p → s.get TLS_STAT_role ≠ 2 → s.fpl.qps[c.q].asm = none → leAt p 2 2 = 0 → (p.getD 4 0).testBit 0 = true →
      p.drop 8 = b ++ leBytes 4 crc → b.length = leAt p 0 2 → crc < 2 ^ 32 → crc32c b = crc →
      ∃ t, exec (.prtConfig c p) s = .next t ∧ t.bdg.block = s.bdg.block ∧ t.fpl.qps[c.q].asm = none ∧
        (blockOk b = true → blockQuiet s b = true → t.bdg.staged = some (b, crc) ∧ t.fpl.running = s.fpl.running ++ [⟨cl 0x70, p, false⟩]) ∧
        (blockOk b = false → t.bdg.staged = s.bdg.staged ∧ t.inflight = s.inflight ++ [(0x23, 0x14)])) ∧
    (Serves s c 0x70 p → s.get TLS_STAT_role ≠ 2 → s.fpl.qps[c.q].asm = none → leAt p 2 2 = 0 → (p.getD 4 0).testBit 0 = false →
      ∃ t, exec (.prtConfig c p) s = .next t ∧ t.fpl.qps[c.q].asm = some (0x70, leAt p 0 2, p.drop 8) ∧ t.bdg = s.bdg) ∧
    (Serves s c 0x70 p → s.get TLS_STAT_role = 2 → ∃ t, exec (.prtConfig c p) s = .next t ∧ t = complete s (cl 0x70) 0x22) ∧
    (Serves s c 0x71 p → p = [1, k] → srcDefined k = true → ∃ t, exec (.prtTest c p) s = .next t ∧
      t.inflight = s.inflight ++ [(k, 0)]) ∧
    (Serves s c 0x71 p → p = [2, k] → k ≤ 1 → (List.range 4).any s.chRuns = false → s.bdg.pulse = none →
      ∃ t, exec (.prtTest c p) s = .next t ∧ t.bdg.pulse = some k ∧
        t.get (if k = 0 then BDG_STATE_safe_en0 else BDG_STATE_safe_en1) = 0 ∧ t.inflight = s.inflight) ∧
    (Serves s c 0x71 p → p = [3, k] → k < 6 → ∃ t, exec (.prtTest c p) s = .next t ∧ t = complete s (cl 0x71) 0) ∧
    (Serves s c 0x71 p → p.headD 0 = 0 → ∃ t, exec (.prtTest c p) s = .next t ∧ t = complete s (cl 0x71) 0x14) ∧
    (Serves s c 0x80 p → ∃ t, exec (.mtrRead c p) s = .next t ∧ t = complete s (cl 0x80) 0
      ((List.range 4).flatMap (fun k => leBytes 8 (total s k)) ++ leBytes 8 s.now ++ packId s ++ leBytes 4 (s.get MTR_SEQ_seq))) ∧
    (Serves s c 0x81 p → p.getD 4 0 = 1 → s.mtr.records.find? (fun r => r.1 == leAt p 0 4 % 2 ^ 32) = some (leAt p 0 4 % 2 ^ 32, rec) →
      ∃ t, exec (.ledgerFetch c p) s = .next t ∧ t = complete s (cl 0x81) 0 rec) ∧
    (Serves s c 0x81 p → (p.getD 4 0 = 0 ∨ 3 < p.getD 4 0) →
      ∃ t, exec (.ledgerFetch c p) s = .next t ∧ t = complete s (cl 0x81) 0x14) ∧
    (Serves s c 0x82 p → p.headD 0 = 0 → -32768 ≤ ofField 32 (leAt p 8 4) → ofField 32 (leAt p 8 4) ≤ 32767 →
      ∃ t, exec (.mtrCal c p) s = .next t ∧ t.get MTR_VGAIN_gain = leAt p 4 4 % 2 ^ MTR_VGAIN_gain.width ∧
        t.getS MTR_OFS_v_ofs = ofField 32 (leAt p 8 4) ∧ t.get MTR_IGAIN_gain = s.get MTR_IGAIN_gain) ∧
    (Serves s c 0x82 p → p.headD 0 = 1 → -32768 ≤ ofField 32 (leAt p 8 4) → ofField 32 (leAt p 8 4) ≤ 32767 →
      ∃ t, exec (.mtrCal c p) s = .next t ∧ t.get MTR_IGAIN_gain = leAt p 4 4 % 2 ^ MTR_IGAIN_gain.width ∧
        t.getS MTR_OFS_i_ofs = ofField 32 (leAt p 8 4) ∧ t.get MTR_VGAIN_gain = s.get MTR_VGAIN_gain) ∧
    (Serves s c 0x82 p → 1 < p.headD 0 → ∃ t, exec (.mtrCal c p) s = .next t ∧ t = complete s (cl 0x82) 0x14)

/-- The MP's commands of Owl, the ring, the life cycle, the self-tests and diagnosis. The model's own readings and choices in it: log
entries 84, 106, 129. -/
def Obligations.RecordingAndServiceCommands : Prop :=
  ∀ (s : State) (c : Ctx) (p : List Nat) (k : Nat) (po : Port) (errs : WordErrs), Ready s →
    let cl := fun (op : Nat) => { c with opcode := op }
    let r := eccReads s 2 7 (fun w => owlValid s w) errs
    let e := 256 * p.headD 0 + p.getD 1 0
    (Serves s c 0x90 p → p.headD 0 ≤ 1 → s.get OWL_STAT_state ≠ 4 → (leAt p 4 4).testBit 13 = false → ∃ t, exec (.owlArm c p) s = .next t ∧
      t.get OWL_CTL_mode = p.headD 0 ∧ t.get OWL_CTL_pre = p.getD 1 0 % 256 ∧ t.get OWL_STAT_wptr = 16 ∧ t.get OWL_OLDEST_idx = 16 ∧
      t.get OWL_STAT_wrapped = 0 ∧ t.get OWL_STAT_state = 1 ∧ (s.log.intake.length < 60 → (0x7C01, []) ∈ t.log.intake)) ∧
    (Serves s c 0x90 p → 1 < p.headD 0 → ∃ t, exec (.owlArm c p) s = .next t ∧ t = complete s (cl 0x90) 0x14) ∧
    (Serves s c 0x90 p → p.headD 0 ≤ 1 → s.get OWL_STAT_state = 4 →
      ∃ t, exec (.owlArm c p) s = .next t ∧ t = complete s (cl 0x90) 0x22) ∧
    (Serves s c 0x91 p → s.get OWL_STAT_state = 1 → (s.get OWL_TRIG_MASK_mask).testBit 0 = true →
      ∃ t, exec (.owlTrigger c p) s = .next t ∧ t.get OWL_STAT_state = 2 ∧
        t.get64 OWL_TRIG_TS_LO_ts OWL_TRIG_TS_HI_ts = s.now ∧ Logged s t 0x7C02 [0]) ∧
    (Serves s c 0x91 p → s.get OWL_STAT_state ≠ 1 → ∃ t, exec (.owlTrigger c p) s = .next t ∧ t = complete s (cl 0x91) 0x22) ∧
    (errs = [] → r = s) ∧
    (Serves s c 0x92 p → s.getB QPq_CFG_bulk c.q.val = false → 1 ≤ leAt p 4 2 → leAt p 4 2 ≤ 25 → owlValid s (leAt p 0 4) = true →
      ∃ t, exec (.owlFetch c p errs) s = .next t ∧ t = complete r (cl 0x92) 0
        ((owlSpan (r.get OWL_STAT_wptr) (leAt p 4 2) (leAt p 0 4)).flatMap (owlBytes r))) ∧
    (Serves s c 0x92 p → (leAt p 4 2 = 0 ∨ owlValid s (leAt p 0 4) = false) →
      ∃ t, exec (.owlFetch c p errs) s = .next t ∧ t = complete s (cl 0x92) 0x14) ∧
    (Serves s c 0x93 p → (∀ n : Ch, s.chState n.val = 0) → (s.get OWL_STAT_state = 0 ∨ s.get OWL_STAT_state = 3) →
      ∃ t, exec (.replayStart c p) s = .next t ∧ t.get OWL_RP_STAT_div_cnt = 0 ∧
        (replayChecks s (leAt p 0 4) = 0 → t.get OWL_STAT_state = 4 ∧ t.get OWL_RP_STAT_running = 1 ∧ t.get LEG_OGATE_replay = 1 ∧
          t.owl.replay.isSome = true) ∧
        (replayChecks s (leAt p 0 4) ≠ 0 → t.get OWL_STAT_state = s.get OWL_STAT_state ∧ t.owl.replay = s.owl.replay ∧
          t.get OWL_RP_STAT_result = replayChecks s (leAt p 0 4) % 2 ^ OWL_RP_STAT_result.width ∧
          Logged s t 0x7C05 [replayChecks s (leAt p 0 4)])) ∧
    (Serves s c 0x93 p → (s.chState 3 ≠ 0 ∨ s.get OWL_STAT_state = 1) →
      ∃ t, exec (.replayStart c p) s = .next t ∧ t = complete s (cl 0x93) 0x22) ∧
    (Serves s c 0xB0 p → p = [po.val] → s.get SETTp_STAT_mode po.val = 1 → s.setts[po].enumAt = none →
      (portEntries po).all (fun e => s.chState (s.get SETT_NODEe_CFG_ch e) == 0) = true → ∃ t, exec (.settEnumerate c p) s = .next t ∧ t.get SETTp_STAT_enum_busy po.val = 1 ∧
        t.setts[po].enumAt = some 0 ∧ t.setts[po].ends = s.setts[po].ends.map (fun x => { x with fast := none, slow := none, left := 0 }) ∧
        t.setts[po].slowQ = (s.setts[po].ends.toList.filterMap (fun x => x.slow)).filter (fun x => x.use != .slot && x.use != .regs)
          ++ s.setts[po].slowQ ∧
        (k < 256 → t.get SETT_NODEe_CFG_present (256 * po.val + k) = (if k < 255 then 0 else s.get SETT_NODEe_CFG_present (256 * po.val + k)))) ∧
    (Serves s c 0xB0 p → p = [po.val] → s.get SETTp_STAT_mode po.val ≠ 1 →
      ∃ t, exec (.settEnumerate c p) s = .next t ∧ t = complete s (cl 0xB0) 0x22) ∧
    (Serves s c 0xB1 p → p.headD 0 = po.val → 1 ≤ p.getD 4 0 → p.getD 4 0 ≤ 57 → s.getB SETT_NODEe_CFG_present e = true →
      ∃ t, exec (.settNodeRead c p) s = .next t ∧
        t.setts[po].slowQ = s.setts[po].slowQ ++ nodeTxs false e (leAt p 2 2) (cl 0xB1) 8 (p.getD 4 0) (p.drop 8) ∧
        t.fpl.running = s.fpl.running ++ [⟨cl 0xB1, p, false⟩] ∧ t.regs = s.regs) ∧
    (Serves s c 0xB1 p → (1 < p.headD 0 ∨ p.getD 4 0 = 0 ∨ 57 < p.getD 4 0) →
      ∃ t, exec (.settNodeRead c p) s = .next t ∧ t = complete s (cl 0xB1) 0x14) ∧
    (Serves s c 0xB2 p → p.headD 0 = po.val → 1 ≤ p.getD 4 0 → p.getD 4 0 ≤ 55 → s.getB SETT_NODEe_CFG_present e = true →
      ∃ t, exec (.settNodeWrite c p) s = .next t ∧
        t.setts[po].slowQ = s.setts[po].slowQ ++ nodeTxs true e (leAt p 2 2) (cl 0xB2) 8 (p.getD 4 0) (p.drop 8) ∧
        t.fpl.running = s.fpl.running ++ [⟨cl 0xB2, p, false⟩] ∧ t.regs = s.regs) ∧
    (Serves s c 0xC0 p → ∃ t, exec (.lcQuery c p) s = .next t ∧
      t = complete s (cl 0xC0) 0 ([s.get LCS_STATE_state, s.get LCS_EPOCH_epoch] ++ leBytes 2 (s.get LCS_KEYS_revoked) ++ leBytes 8 Config.deviceId)) ∧
    (Serves s c 0xC1 p → s.get LCS_STATE_state = 0 → p.headD 0 = 1 → (p.drop 4).take 16 = List.replicate 16 0 →
      ∃ t, exec (.lcAdvance c p) s = .next t ∧ t.pwr.fuses = s.pwr.fuses ||| 1 ∧ t.get LCS_STATE_pending = 1 ∧ t.get LCS_STATE_next = 1 ∧
        t.get LCS_STATE_state = 0 ∧ Logged s t 0x7F01 [1]) ∧
    (Serves s c 0xC1 p → lcStep (s.get LCS_STATE_state) (p.headD 0) = false →
      ∃ t, exec (.lcAdvance c p) s = .next t ∧ t = complete s (cl 0xC1) 0x21) ∧
    (Serves s c 0xC2 p → (allOff s = false ∨ s.pwr.fw.isSome = true) →
      ∃ t, exec (.fwUpdate c p) s = .next t ∧ t = complete s (cl 0xC2) 0x22) ∧
    (Serves s c 0xC2 p → allOff s = true → s.pwr.fw = none → s.fpl.qps[c.q].asm = none → leAt p 2 2 = 0 → (p.getD 4 0).testBit 0 = false →
      ∃ t, exec (.fwUpdate c p) s = .next t ∧ t.fpl.qps[c.q].asm = some (0xC2, leAt p 0 2, p.drop 8) ∧ t.pwr = s.pwr) ∧
    (Serves s c 0xC3 p → s.get LCS_STATE_state ≠ 0 → s.get LCS_STATE_state ≠ 5 → p.headD 0 = k → k ≤ 15 →
      s.getBit LCS_KEYS_revoked k = false → s.getBit LCS_KEYS_present k = false → ∃ t, exec (.keyRevoke c p) s = .next t ∧
        (lcAuth s (devIdBytes ++ [k, 0x03]) ((p.drop 4).take 16) = true → t.getBit LCS_KEYS_revoked k = true ∧ Logged s t 0x7F02 [k]) ∧
        (lcAuth s (devIdBytes ++ [k, 0x03]) ((p.drop 4).take 16) = false → t = complete s (cl 0xC3) 0x10)) ∧
    (Serves s c 0xF0 p → ∃ t, exec (.bistReport c p) s = .next t ∧ t = complete s (cl 0xF0) 0
      (if bistRecOk s then bistRec s else (bistRec s).take 2 ++ [1] ++ (bistRec s).drop 3)) ∧
    (Serves s c 0xF1 p → (∀ n : Ch, s.chState n.val = 0) → s.pwr.selftest = none →
      ∃ t, exec (.selftestRun c p) s = .next t ∧ t.pwr.selftest = some (p.headD 0 % 8) ∧ t.get BIST_STAT_running = 1 ∧
        t.get LEG_OGATE_selftest = 1) ∧
    (Serves s c 0xF1 p → (s.chState 3 ≠ 0 ∨ s.pwr.selftest.isSome = true) →
      ∃ t, exec (.selftestRun c p) s = .next t ∧ t = complete s (cl 0xF1) 0x22) ∧
    (Serves s c 0xFE p → p.getD 4 0 = 1 → 0x10000000 ≤ leAt p 0 4 → leAt p 0 4 < 0x10600000 → leAt p 0 4 % 4 = 0 →
      isUe s (if mpPrivate .mp (leAt p 0 4) then 3 else 0) (leAt p 0 4 / 8 * 8) = false →
      ∃ t, exec (.diagPeek c p) s = .next t ∧ t = complete (busReadRaw s ⟨.mp, true, false⟩ (leAt p 0 4) 4) (cl 0xFE) 0
        (leBytes 4 (leNat ((List.range 4).map (fun j => sees s .mp (leAt p 0 4 + j)))))) ∧
    (Serves s c 0xFE p → (p.getD 4 0 = 0 ∨ 57 < p.getD 4 0) → ∃ t, exec (.diagPeek c p) s = .next t ∧ t = complete s (cl 0xFE) 0x14)

/-- A command that the checks turn away is answered with their status, and nothing of its effect happens; while HOLD has the MP in reset,
or CKM is lost, a command of the MP does nothing at all. The model's own readings and choices in it: log entry 70. -/
def Obligations.TurnedAway : Prop :=
  ∀ (s : State) (c : Ctx) (p : List Nat) (w : WordErrs)
    (e : Nat × (Ctx → List Nat → Instr)), Ready s → e ∈ mpRows w →
    let k := { c with opcode := e.1 }
    (s.bdg.clkBad.testBit 3 = false → mpRuns s = true → opRefusal s k p ≠ 0 →
      ∃ t, exec (e.2 c p) s = .next t ∧ t = complete s k (opRefusal s k p)) ∧
    ((s.bdg.clkBad.testBit 3 = true ∨ mpRuns s = false) → ∃ t, exec (e.2 c p) s = .next t ∧ t = s)

/-- The host link: a frame that does not check is counted; POLL returns the oldest completion of the lowest class, or the status; a CMD to
the own address is answered, one to a group is not; a FAST entry reaches Chuck; DISCOVER and ASSIGN serve enumeration; an aborted frame is
counted. The model's own readings and choices in it: log entries 76, 98, 135. -/
def Obligations.HostLink : Prop :=
  ∀ (s : State) (n : Ch) (g : Fin 4) (q : Qp) (b : List Nat) (st : Nat), Ready s → s.bdg.clkBad.testBit 3 = false →
    s.getB HLK_CFG_en = true →
    let len := leAt b 2 2
    let whole := b.length = len + 8 ∧ len ≤ 256 ∧ crc32c (b.take (len + 4)) = leAt b (len + 4) 4
    let own := whole ∧ s.getB HLK_ADDR_valid = true ∧ b.getD 0 0 = s.get HLK_ADDR_addr
    let me := 0x80 + s.get HLK_ADDR_addr
    let pl := (b.drop 4).take len
    let e := pl
    let v := ofField 32 (leAt e 4 4)
    let r := packetArrival s 0 0 pl
    (¬ whole → ∃ t, exec (.poll b) s = .next t ∧ t = s.incSat HLK_STAT_crc_err ∧
      t.get HLK_STAT_crc_err = min (s.get HLK_STAT_crc_err + 1) (2 ^ HLK_STAT_crc_err.width - 1)) ∧
    (¬ whole → ∃ t, exec (.hlkCmd b) s = .next t ∧ t = s.incSat HLK_STAT_crc_err) ∧
    (¬ whole → ∃ t, exec (.hlkFast b) s = .next t ∧ t = s.incSat HLK_STAT_crc_err) ∧
    (¬ whole → ∃ t, exec (.discover b) s = .next t ∧ t = s.incSat HLK_STAT_crc_err) ∧
    (¬ whole → ∃ t, exec (.hlkAssign b) s = .next t ∧ t = s.incSat HLK_STAT_crc_err) ∧
    (own → b.getD 1 0 = 1 → pollQueue s = none → ∃ t, exec (.poll b) s = .next t ∧
      sget [] t.net.out 0 = hlkBytes me 0x83 (hlkStatus s) ∧ t.regs = s.regs) ∧
    (own → b.getD 1 0 = 1 → pollQueue s = some q → ∃ t, exec (.poll b) s = .next t ∧
      sget [] t.net.out 0 = hlkBytes me 0x81 (cqPacket s q (s.get QPq_CQ_head q.val)) ∧
      t.get QPq_CQ_head q.val = (s.get QPq_CQ_head q.val + 1) % 2 ^ QPq_CQ_head.width) ∧
    (own → b.getD 1 0 = 2 → r.1 = .rej st → ∃ t, exec (.hlkCmd b) s = .next t ∧
      sget [] t.net.out 0 = hlkBytes me 0x82 (ackBytes (pl.getD 2 0) (leAt pl 3 2) st) ∧
      t.get FPL_STAT_rej = min (s.get FPL_STAT_rej + 1) (2 ^ FPL_STAT_rej.width - 1)) ∧
    (whole → hlkOwn s (b.getD 0 0) = false → hlkGroup s (b.getD 0 0) = true → b.getD 1 0 = 2 →
      ∃ t, exec (.hlkCmd b) s = .next t ∧ t = r.2) ∧
    (own → b.getD 1 0 = 3 → len = 8 → e.getD 0 0 = s.get HLK_ADDR_addr → e.getD 1 0 = 16 * n.val + g.val →
      slotFrom s n g.val 0 = true → sget 0 s.fpl.alive (4 * n.val + g.val) = 0 → isStandby s = false → s.owl.replay = none →
      ∃ t, exec (.hlkFast b) s = .next t ∧ t.chuck = s.chuck ++ [⟨2 + n.val, .target g.val (8 * v) 0, s.now, false⟩] ∧
        sget 0 t.fpl.alive (4 * n.val + g.val) = e.getD 2 0 % 256 + 1 ∧ t.fpl.bad[n] = 0) ∧
    (own → b.getD 1 0 = 3 → len = 8 → e.getD 0 0 = s.get HLK_ADDR_addr → e.getD 1 0 = 16 * n.val + g.val →
      slotFrom s n g.val 0 = true → sget 0 s.fpl.alive (4 * n.val + g.val) = e.getD 2 0 % 256 + 1 → s.fpl.bad[n] < 2 →
      ∃ t, exec (.hlkFast b) s = .next t ∧ t.chuck = s.chuck ∧ t.fpl.bad[n] = s.fpl.bad[n] + 1 ∧
        t.get FPL_SLOTST_e2e_cnt = min (s.get FPL_SLOTST_e2e_cnt + 1) (2 ^ FPL_SLOTST_e2e_cnt.width - 1)) ∧
    (own → b.getD 1 0 = 3 → len = 8 → e.getD 0 0 = s.get HLK_ADDR_addr → e.getD 1 0 = 16 * n.val + g.val →
      slotFrom s n g.val 0 = false → ∃ t, exec (.hlkFast b) s = .next t ∧ t.chuck = s.chuck ∧
        t.get HLK_STAT_fast_rej = min (s.get HLK_STAT_fast_rej + 1) (2 ^ HLK_STAT_fast_rej.width - 1)) ∧
    (whole → b.getD 0 0 = 0x7F → b.getD 1 0 = 4 → len = 2 → pl.getD 0 0 = 0 → pl.getD 1 0 ≠ 0 → s.get HLK_CFG_addr_src = 2 →
      s.getB HLK_ADDR_valid = false → ∃ t, exec (.discover b) s = .next t ∧
        (sget [] t.net.out 0).drop 4 = (hlkBytes (128 + s.freeVal % 128) 0x81 devIdBytes).drop 4 ∧ t.regs = s.regs) ∧
    (whole → b.getD 0 0 = 0x7F → b.getD 1 0 = 4 → pl.getD 0 0 = 0 → s.getB HLK_ADDR_valid = true →
      ∃ t, exec (.discover b) s = .next t ∧ t = s) ∧
    (whole → b.getD 0 0 = 0x7F → b.getD 1 0 = 4 → len = 10 → pl.getD 0 0 = 1 → pl.getD 9 0 < 64 → s.get HLK_CFG_addr_src = 2 →
      ∃ t, exec (.hlkAssign b) s = .next t ∧ ((pl.drop 1).take 8 = devIdBytes → t.get HLK_ADDR_addr = pl.getD 9 0 ∧
        t.get HLK_ADDR_valid = 1 ∧ Logged s t 0x6101 [pl.getD 9 0]) ∧ ((pl.drop 1).take 8 ≠ devIdBytes → t = s)) ∧
    (∃ t, exec .hlkFrameAbort s = .next t ∧ t.get HLK_STAT_abort = min (s.get HLK_STAT_abort + 1) (2 ^ HLK_STAT_abort.width - 1))

/-- CAN FD's packets, set-points and bus-off, direct slots that go stale, network time, the MP's restart, and the claim and completion of
platform interrupts. The model's own readings and choices in it: log entries 21, 74, 75, 77, 104, 137. -/
def Obligations.CanTimeAndInterrupts : Prop :=
  ∀ (s : State) (a : Access) (x : Fin 2) (n : Ch) (g : Fin 4) (cx : Fin 5) (b pkt : List Nat) (k v ts0 t0 : Nat) (rate : Int) (r : RunOp),
    Ready s → s.bdg.clkBad.testBit 3 = false →
    let id := leBytes 4 (s.get CANx_CTL_base x.val + 2 + n.val)
    let up := fun (st : State) (f : Fld) (i : Nat) => min (st.get f i + 1) (2 ^ f.width - 1)
    let d := b.take (b.length - 1)
    let cut := pkt.take (16 + pkt.getD 5 0)
    let u := canAsmPut s x none
    let ar := packetArrival u (1 + x.val) 0 cut
    let q := r.ctx.q
    (canOn s x = true → b.length = 64 → b.getD 0 0 = 128 → ∃ t, exec (.canSegment x b) s = .next t ∧
      t.net.canAsm[x] = some (b.drop 1, 1) ∧ t.regs = s.regs) ∧
    (canOn s x = true → b.length = 64 → b.getD 0 0 < 64 → s.net.canAsm[x] = some (pkt, b.getD 0 0) → pkt.length ≤ 252 →
      ∃ t, exec (.canSegment x b) s = .next t ∧ t.net.canAsm[x] = some (pkt ++ b.drop 1, b.getD 0 0 + 1) ∧ t.regs = s.regs) ∧
    (canOn s x = true → b.length = 64 → b.getD 0 0 = 192 → pkt = b.drop 1 → ∃ t, exec (.canSegment x b) s = .next t ∧
      t.net.canAsm[x] = none ∧ t = canAck ar.2 (1 + x.val) cut ar.1) ∧
    (canOn s x = true → (b.length ≠ 64 ∨ (b.getD 0 0 < 64 ∧ s.net.canAsm[x] = none)) → ∃ t, exec (.canSegment x b) s = .next t ∧
      t.net.canAsm[x] = none ∧ t.get FPL_STAT_rej = up s FPL_STAT_rej 0) ∧
    (s.net.canAsm[x] ≠ none → ∃ t, exec (.canSegmentGap x) s = .next t ∧ t.net.canAsm[x] = none ∧
      t.get FPL_STAT_rej = up s FPL_STAT_rej 0) ∧
    (canOn s x = true → b.getD 0 0 / 16 = 2 ^ g.val → 6 ≤ b.length → crc8 (id ++ d) = b.getLastD 0 → slotFrom s n g.val (1 + x.val) = true →
      sget 0 s.fpl.alive (16 + 4 * n.val + g.val) = 0 → isStandby s = false → s.owl.replay = none →
      ∃ t, exec (.canSetpoint x n b) s = .next t ∧ sget 0 t.fpl.alive (16 + 4 * n.val + g.val) = b.getD 0 0 % 16 + 1 ∧
        t.chuck = s.chuck ++ [⟨2 + n.val, .target g.val (8 * ofField 32 (leAt b 1 4)) (1 + x.val), s.now, false⟩]) ∧
    (canOn s x = true → crc8 (id ++ d) ≠ b.getLastD 0 → ∃ t, exec (.canSetpoint x n b) s = .next t ∧ t.chuck = s.chuck ∧
      t.get CANx_STAT_e2e_err x.val = up s CANx_STAT_e2e_err x.val ∧ t.get FPL_SLOTST_e2e_cnt = up s FPL_SLOTST_e2e_cnt 0) ∧
    (canOn s x = true → s.fpl.bad[n] = 2 → crc8 (id ++ d) ≠ b.getLastD 0 → ∃ t, exec (.canSetpoint x n b) s = .next t ∧
      Logged s t 0x6006 [n.val]) ∧
    (canOn s x = true → ∃ t, exec (.canBusoff x) s = .next t ∧ t.get CANx_STAT_state x.val = 2 ∧ canOn t x = false ∧
      Logged s t (0x6201 + 0x100 * x.val) []) ∧
    (s.get CANx_STAT_state x.val = 2 → ∃ t, exec (.canBusoffRecovery x) s = .next t ∧ t.get CANx_STAT_state x.val = 0 ∧
      t.get CANx_STAT_rec x.val = 0 ∧ t.get CANx_STAT_tec x.val = 0) ∧
    (s.getBit FPL_SLOTn_en g.val n.val = true → s.getB FPL_SLOTn_stale_to n.val = true → ∃ t, exec (.slotStale n g) s = .next t ∧
      t.getBit FPL_SLOTST_stale (4 * n.val + g.val) = true ∧ Logged s t 0x6005 [n.val, g.val] ∧
      (s.getB FPL_SLOTn_stale_act n.val = false → t.chuck = s.chuck) ∧
      (s.getB FPL_SLOTn_stale_act n.val = true → isStandby s = false → s.owl.replay = none →
        t.chuck = s.chuck ++ [⟨2 + n.val, .target g.val 0 (s.get FPL_SLOTn_src n.val), s.now, false⟩])) ∧
    (mpRuns s = true → ts0 < 2 ^ 64 → t0 < 2 ^ 64 → -(2 ^ 31) ≤ rate → rate < 2 ^ 31 → ∃ t, exec (.ptpSync ts0 t0 rate) s = .next t ∧
      t.get64 ETH_PTP_TS_LO_ts0 ETH_PTP_TS_HI_ts0 = ts0 ∧ t.get64 ETH_PTP_T_LO_t0 ETH_PTP_T_HI_t0 = t0 ∧
      t.getS ETH_PTP_RATE_rate = rate ∧ t.get ETH_PTP_STAT_valid = 1) ∧
    (s.getB ETH_PTP_STAT_valid = true → ∃ t, exec .ptpLost s = .next t ∧ t.get ETH_PTP_STAT_valid = 0 ∧ Logged s t 0x6401 []) ∧
    (s.bdg.mpDead = false → s.bdg.holds.testBit 6 = true → s.fpl.running = [r] → r.void = false → qOpen s q = true → cqLen s q < qDepth s q →
      ∃ t, exec .mpRestart s = .next t ∧ t.bdg.holds.testBit 6 = false ∧ t.fpl.running = [] ∧ t.fpl.reserves = [] ∧
        t.fpl.qps[q].cpls = s.fpl.qps[q].cpls + 1 ∧ t.byteAt (cqAddr s q (s.get QPq_CQ_tail q.val) + 1) = 0x7F) ∧
    ((s.bdg.mpDead = true ∨ s.bdg.holds.testBit 6 = false) → ∃ t, exec .mpRestart s = .next t ∧ t = s) ∧
    (a.priv = true → a.dbg = false → s.owl.replay = none → k ∈ plicCands s cx.val →
      (∀ j ∈ plicCands s cx.val, s.get PLIC_PRIO_prio j < s.get PLIC_PRIO_prio k ∨ (s.get PLIC_PRIO_prio j = s.get PLIC_PRIO_prio k ∧ k ≤ j)) →
      k ≠ 0 → ∃ t, exec (.plicClaim a cx) s = .next t ∧ (t.port a.ini).reply = .data k ∧
        t.getBit PLIC_PEND_bits (k % 32) (k / 32) = false ∧ t.net.claimed = (k, cx.val) :: s.net.claimed) ∧
    (a.priv = true → a.dbg = false → s.owl.replay = none → plicCands s cx.val = [] → ∃ t, exec (.plicClaim a cx) s = .next t ∧
      (t.port a.ini).reply = .data 0 ∧ t.net.claimed = s.net.claimed) ∧
    (Admits s a → s.getBit PLIC_EN_bits (v % 256 % 32) cx.val (v % 256 / 32) = true → ∃ t, exec (.plicComplete a cx v) s = .next t ∧
      (t.port a.ini).reply = .none ∧ t.net.claimed = s.net.claimed.filter (fun e => e.1 != v % 256)) ∧
    (Admits s a → s.getBit PLIC_EN_bits (v % 256 % 32) cx.val (v % 256 / 32) = false → ∃ t, exec (.plicComplete a cx v) s = .next t ∧
      (t.port a.ini).reply = .none ∧ t.net.claimed = s.net.claimed)

/-- The Sett rings: FAST frames start at their instants, overrun and return, at the end that sent them, with their slots; SLOW
transactions start and are answered; the pack's node is read; enumeration enters nodes and ends; and a broken ring becomes a line. The
model's own readings and choices in it: log entries 58, 80, 136. -/
def Obligations.SettRings : Prop :=
  ∀ (s : State) (p : Port) (e k dur loop kind id pos : Nat) (b : List Nat) (c : Ctx) (tx : SlowTx) (rest : List SlowTx) (ok quiet slot8 : Bool)
    (endA endB : Fin 256) (bd : Fin 2) (d : Nat), Ready s →
    let x := s.setts[p]
    let ev := fun (c : Nat) => c + 0x100 * p.val
    let up := fun (f : Fld) (i : Nat) => min (s.get f i + 1) (2 ^ f.width - 1)
    let pp := portOf (s.get MTR_CFG_pack_port)
    let pe := 256 * pp.val + s.get MTR_CFG_pack_addr
    let en := 256 * p.val + k
    (s.getB SETTp_CFG_en p.val = true → x.enumAt = none → fastDue s p = some d → fastBusy s p = false → x.lineIn = none → x.ringDue = false →
      ∃ t, exec (.settFastStart p) s = .next t ∧ t.setts[p].ends[0].fast = some x.cycle ∧
        t.setts[p].ends[1].fast = (if s.get SETTp_STAT_mode p.val = 2 then some x.cycle else x.ends[1].fast) ∧
        t.setts[p].cycle = (x.cycle + 1) % 65536 ∧ t.setts[p].lastFast = some s.now ∧ t.setts[p].due = x.due.erase d ∧ t.regs = s.regs) ∧
    (s.getB SETTp_CFG_en p.val = true → x.enumAt = none → fastDue s p = some d → fastBusy s p = false → x.lineIn = some 1 →
      ∃ t, exec (.settFastStart p) s = .next t ∧ t.get SETTp_STAT_mode p.val = 2 ∧ t.setts[p].lineIn = none ∧
        t.setts[p].ends[0].fast = some x.cycle ∧ t.setts[p].ends[1].fast = some x.cycle) ∧
    (s.getB SETTp_CFG_en p.val = true → x.enumAt = none → fastDue s p = some d → fastBusy s p = false → x.lineIn = none → x.ringDue = true →
      ∃ t, exec (.settFastStart p) s = .next t ∧ t.get SETTp_STAT_mode p.val = 1 ∧ t.setts[p].ringDue = false ∧
        t.setts[p].ends[0].fast = some x.cycle ∧ t.setts[p].ends[1].fast = x.ends[1].fast ∧ Logged s t (ev 0x7004) []) ∧
    (s.getB SETTp_CFG_en p.val = true → x.enumAt = none → fastDue s p = some d → fastBusy s p = true → ∃ t, exec (.settFastStart p) s = .next t ∧
      t.get SETTp_CNT_overrun p.val = up SETTp_CNT_overrun p.val ∧ t.setts[p].ends = x.ends ∧ t.setts[p].due = x.due.erase d ∧
      (e ∈ fastEntries s p → t.get SETT_NODEe_STAT_miss_cnt e = up SETT_NODEe_STAT_miss_cnt e)) ∧
    ((s.getB SETTp_CFG_en p.val = false ∨ x.enumAt ≠ none) → fastDue s p = some d → ∃ t, exec (.settFastStart p) s = .next t ∧
      t.setts[p] = { x with due := x.due.erase d } ∧ t.regs = s.regs) ∧
    (fastDue s p = none → ∃ t, exec (.settFastStart p) s = .next t ∧ t = s) ∧
    (x.ends[bd].fast ≠ none → endEntries s p bd = [e] → s.get SETTp_STAT_mode p.val = 1 → slotValid s e b = true →
      ∃ t, exec (.settFastReturn p bd true true dur [b]) s = .next t ∧ t.setts[p].ends[bd].fast = none ∧ t.setts[p].lostRun = 0 ∧
        t.get SETTp_TIME_fast_dur p.val = min dur 0xFFFF ∧ t.get SETT_NODEe_LIVE0_slot e = leAt b 0 4 % 2 ^ 32 ∧
        t.get SETT_NODEe_LIVE1_slot e = leAt b 4 4 % 2 ^ 32 ∧ t.get SETT_NODEe_LIVE_TS_ts e = s.now % 2 ^ 32 ∧ t.get SETT_NODEe_STAT_consec e = 0) ∧
    (x.ends[bd].fast ≠ none → endEntries s p bd = [e] → s.get SETTp_STAT_mode p.val = 1 → slotValid s e b = false →
      ∃ t, exec (.settFastReturn p bd true ok dur [b]) s = .next t ∧ t.setts[p].ends[bd].fast = none ∧
        t.get SETTp_CNT_crc_err p.val = (if ok then s.get SETTp_CNT_crc_err p.val else up SETTp_CNT_crc_err p.val) ∧
        t.get SETT_NODEe_LIVE0_slot e = s.get SETT_NODEe_LIVE0_slot e ∧
        t.get SETT_NODEe_STAT_miss_cnt e = up SETT_NODEe_STAT_miss_cnt e ∧ t.get SETT_NODEe_STAT_consec e = min (s.get SETT_NODEe_STAT_consec e + 1) 15) ∧
    (x.ends[bd].fast ≠ none → e ∈ fastEntries s p → s.get SETTp_STAT_mode p.val ≠ 2 →
      ∃ t, exec (.settFastReturn p bd false ok dur []) s = .next t ∧ t.setts[p].ends[bd].fast = none ∧
      t.setts[p].lostRun = x.lostRun + 1 ∧ t.get SETT_NODEe_STAT_miss_cnt e = up SETT_NODEe_STAT_miss_cnt e ∧
      t.get SETTp_STAT_mode p.val = s.get SETTp_STAT_mode p.val) ∧
    (x.ends[bd].fast ≠ none → e ∈ fastEntries s p → (lineEnd s p e = some bd ∨ (lineEnd s p e = none ∧ bd = 0)) → s.get SETTp_STAT_mode p.val = 2 →
      ∃ t, exec (.settFastReturn p bd false ok dur []) s = .next t ∧ t.setts[p].ends[bd].fast = none ∧
      t.setts[p].lostEnds = x.lostEnds + 1 ∧ t.get SETT_NODEe_STAT_miss_cnt e = up SETT_NODEe_STAT_miss_cnt e ∧
      t.get SETTp_STAT_mode p.val = (if 1 ≤ x.lostEnds then 0 else 2)) ∧
    (s.getB SETTp_CFG_en p.val = true → x.enumAt = none → x.ends[bd].slow = none → (bd = 0 ∨ s.get SETTp_STAT_mode p.val = 2) →
      x.slowQ.find? (fun u => slowEnd s p u.node == bd) = some tx →
      ∃ t, exec (.settSlowStart p bd) s = .next t ∧ t.regs = s.regs ∧
        (slowFits s p tx.count = true → t.setts[p].ends[bd].slow = some { tx with tries := tx.tries + 1 } ∧ t.setts[p].slowQ = x.slowQ.erase tx) ∧
        (slowFits s p tx.count = false → t = s)) ∧
    (s.getB SETTp_CFG_en p.val = true → x.enumAt = none → x.ends[bd].slow = none → (bd = 0 ∨ s.get SETTp_STAT_mode p.val = 2) →
      x.slowQ = [] → x.ends[bd].left = 0 → slowNext s p bd = some e → slowFits s p (slotLen s e / 4) = true →
      ∃ t, exec (.settSlowStart p bd) s = .next t ∧
        t.setts[p].ends[bd] = ⟨x.ends[bd].fast, some ⟨false, e, Config.slotReg, slotLen s e / 4, [], 1, .slot⟩, e + 1,
          (kindReads (s.get SETT_NODEe_CFG_kind e)).1⟩) ∧
    (s.getB SETTp_CFG_en p.val = true → x.enumAt = none → x.ends[bd].slow = none → (bd = 0 ∨ s.get SETTp_STAT_mode p.val = 2) →
      x.slowQ = [] → x.ends[bd].left = k + 1 → x.ends[bd].turn = e + 1 → e ∈ slowEntries s p bd → slowFits s p 4 = true →
      ∃ t, exec (.settSlowStart p bd) s = .next t ∧ t.setts[p].ends[bd].left = k ∧ t.setts[p].ends[bd].turn = e + 1 ∧
        t.setts[p].ends[bd].slow.map (fun u => (u.write, u.node, u.count, u.use)) = some (false, e, 4, .regs)) ∧
    (bd = 1 → s.get SETTp_STAT_mode p.val ≠ 2 → ∃ t, exec (.settSlowStart p bd) s = .next t ∧ t = s) ∧
    (x.ends[bd].slow = some tx → tx.use = .slot → slotValid s tx.node b = true →
      ∃ t, exec (.settSlowReply p bd true true (some b)) s = .next t ∧ t.setts[p].ends[bd].slow = none ∧ t.setts[p].lostRun = 0 ∧
        t.get SETT_NODEe_LIVE0_slot tx.node = leAt b 0 4 % 2 ^ 32) ∧
    (x.ends[bd].slow = some tx → tx.use = .command c → tx.tries < 3 → ∃ t, exec (.settSlowReply p bd ok true none) s = .next t ∧
      t.setts[p].ends[bd].slow = none ∧ t.setts[p].slowQ = tx :: x.slowQ ∧ t.fpl = s.fpl ∧ t.regs = s.regs) ∧
    (x.ends[bd].slow = some tx → tx.use = .pack → tx.tries < 3 → ∃ t, exec (.settSlowReply p bd true false (some b)) s = .next t ∧
      t.setts[p].slowQ = tx :: x.slowQ ∧ t.get SETTp_CNT_crc_err p.val = up SETTp_CNT_crc_err p.val) ∧
    (x.ends[bd].slow = some tx → tx.use = .command c → tx.write = false → x.slowQ = [] →
      ∃ t, exec (.settSlowReply p bd true true (some b)) s = .next t ∧
      t = opEnd ((s.modEnd p bd (fun x => { x with slow := none })).modSett p (fun x => { x with lostRun := 0, got := [] })) c 0
        (x.got ++ b.take (4 * tx.count))) ∧
    (packConf s = false → s.getB SETT_NODEe_CFG_present pe = true → packBusy s pp = false →
      ∃ t, exec .packidRead s = .next t ∧ t.setts[pp].slowQ = s.setts[pp].slowQ ++ [⟨false, pe, 0x0100, 4, [], 0, .pack⟩] ∧ t.regs = s.regs) ∧
    ((packConf s = true ∨ packBusy s pp = true) → ∃ t, exec .packidRead s = .next t ∧ t = s) ∧
    (packConf s = false → s.mtr.packTs + 4000000000 ≤ s.now → ∃ t, exec .packUnverified s = .next t ∧ t.get MTR_STAT_pack_unver = 1) ∧
    ((packConf s = true ∨ s.now < s.mtr.packTs + 4000000000) → ∃ t, exec .packUnverified s = .next t ∧ t = s) ∧
    (x.enumAt = some k → k < 255 → kind < 2 ^ SETT_NODEe_CFG_kind.width → id < 2 ^ 64 → pos < 256 → ∃ t, exec (.settAssignReply p loop (some (kind, id, slot8, pos))) s = .next t ∧
      t.setts[p].enumAt = some (k + 1) ∧ t.get SETT_NODEe_CFG_present en = 1 ∧ t.get SETT_NODEe_CFG_kind en = kind ∧
      t.get64 SETT_NODEe_ID_LO_id SETT_NODEe_ID_HI_id en = id ∧ t.getB SETT_NODEe_CFG_slot8 en = slot8 ∧ t.get SETT_NODEe_CFG_pos en = pos ∧
      (k = 0 → t.get SETTp_TIME_loop p.val = min loop 0xFFFF) ∧
      (s.get64 SETT_NODEe_ID_LO_id SETT_NODEe_ID_HI_id en ≠ id → t.get SETT_NODEe_CFG_ch_en en = 0) ∧
      (s.get64 SETT_NODEe_ID_LO_id SETT_NODEe_ID_HI_id en = id → t.get SETT_NODEe_CFG_ch_en en = s.get SETT_NODEe_CFG_ch_en en)) ∧
    (x.enumAt = some k → k ≤ 255 → ∃ t, exec (.settAssignReply p loop none) s = .next t ∧ t.setts[p].enumAt = none ∧
      t.get SETTp_STAT_nodes p.val = k ∧ t.get SETTp_STAT_enum_busy p.val = 0 ∧ Logged s t (ev 0x7001) [k] ∧
      t.get SETTp_BUDGET_d_ring p.val = min (settDur t p).1 0xFFFF) ∧
    (x.enumAt = some 255 → ∃ t, exec (.settAssignReply p loop (some (kind, id, slot8, pos))) s = .next t ∧ t.setts[p].enumAt = none ∧
      t.get SETTp_STAT_exhausted p.val = 1 ∧ t.get SETTp_STAT_nodes p.val = 255) ∧
    (s.get SETTp_STAT_mode p.val = 1 → x.lineIn = none → (quiet = true ∨ 2 ≤ x.lostRun) → ∃ t, exec (.ringBreak p quiet endA endB) s = .next t ∧
      t.setts[p].lineIn = some 2 ∧ t.get SETTp_STAT_end_a p.val = endA.val ∧ t.get SETTp_STAT_end_b p.val = endB.val ∧
      t.get SETTp_CNT_breaks p.val = up SETTp_CNT_breaks p.val ∧ Logged s t (ev 0x7003) [endA.val, endB.val]) ∧
    ((s.get SETTp_STAT_mode p.val ≠ 1 ∨ (quiet = false ∧ x.lostRun < 2)) → ∃ t, exec (.ringBreak p quiet endA endB) s = .next t ∧ t = s) ∧
    (s.get SETTp_STAT_mode p.val = 2 → x.enumAt = none → ∃ t, exec (.closeTest p ok) s = .next t ∧ t.regs = s.regs ∧
      (ok = false → t.setts[p].closeRun = 0 ∧ t.setts[p].ringDue = x.ringDue) ∧
      (ok = true → t.setts[p].closeRun = x.closeRun + 1 ∧ (2 ≤ x.closeRun → t.setts[p].ringDue = true)))

/-- The meter's blocks, the ledger's records and the restore of totals, and the check-value unit. The model's own readings and choices in
it: log entries 81, 82. -/
def Obligations.MeterAndCheckValues : Prop :=
  ∀ (s : State) (a : Access) (c : Fin 4) (smp : List (Nat × Int × Int)) (held : Nat) (clip : Bool) (v l : Nat), Ready s →
    let x := blockSums s.mtr.scale smp
    let step := fun (k : Fin 4) (q d : Nat) => (total s k.val + (s.mtr.res[k] + q) / d) % 2 ^ 64
    let key := aesKey s (s.mtr.scale.getD 6 0).toNat 4
    let rcd := fun (t : State) => (t.mtr.records.headD (0, [])).2
    let r := (List.range 16).flatMap (fun k => leBytes 4 (s.get MTR_RESTOREk_rec k))
    let w := (cvuUse s c).1
    let poly := (cvuUse s c).2
    let fed := fun (b : List Nat) => b.foldl (fun x y => crcByte w poly x (if s.getB CVUc_CFG_refin c.val then revBits 8 y else y)) (s.cvus[c].crc % 2 ^ w)
    let aw := if s.getB CVUc_CFG_alive_w c.val then 8 else 4
    let gap := (v % 2 ^ aw + 2 ^ aw - l % 2 ^ aw) % 2 ^ aw
    (∃ t, exec (.meterBlock smp held clip) s = .next t ∧
      total t 0 = (if 0 < x.1 then step 0 x.1.natAbs unitE else total s 0) ∧
      total t 2 = (if 0 < x.2 then step 2 x.2.natAbs unitQ else total s 2) ∧
      (x.1 ≤ 0 → total t 1 = step 1 x.1.natAbs unitE ∧ t.mtr.res[1] = (s.mtr.res[1] + x.1.natAbs) % unitE) ∧
      (x.2 ≤ 0 → total t 3 = step 3 x.2.natAbs unitQ ∧ t.mtr.res[3] = (s.mtr.res[3] + x.2.natAbs) % unitQ) ∧
      t.get MTR_STAT_held = min (s.get MTR_STAT_held + held) 0xFFFF ∧
      t.get MTR_STAT_gap = (if 40 < held then 1 else s.get MTR_STAT_gap) ∧
      (clip = true → t.mtr.flags.testBit 7 = true) ∧ t.mtr.scale = scaleRegs s) ∧
    (ledgerOn s = true → ledgerDue s = true → key.isSome = true → ∃ t, exec .ledgerRecord s = .next t ∧
      t.get MTR_SEQ_seq = (s.get MTR_SEQ_seq + 1) % 2 ^ 32 ∧ (t.mtr.records.headD (0, [])).1 = t.get MTR_SEQ_seq ∧
      (rcd t).length = 64 ∧ (rcd t).take 16 = packId s ∧ ((rcd t).drop 16).take 8 = devIdBytes ∧
      ((rcd t).drop 36).take 8 = leBytes 8 (total s 0) ∧ ((rcd t).drop 44).take 8 = leBytes 8 (total s 1) ∧
      (rcd t).drop 56 = (aesCmac (key.getD []) ((rcd t).take 56)).take 8 ∧ t.mtr.flags = 0 ∧ Logged s t 0x7801 [t.get MTR_SEQ_seq]) ∧
    (ledgerOn s = true → ledgerDue s = true → key = none → ∃ t, exec .ledgerRecord s = .next t ∧ (rcd t).drop 56 = List.replicate 8 0 ∧
      (leAt (rcd t) 52 4).testBit 10 = true ∧ Logged s t 0x7807 []) ∧
    ((ledgerOn s = false ∨ ledgerDue s = false) → ∃ t, exec .ledgerRecord s = .next t ∧ t = s) ∧
    (Admits s a → v = 2 ^ MTR_RESTORE_GO_go.lsb → ∃ t, exec (.meterRestore a v) s = .next t ∧ (t.port a.ini).reply = .none ∧
      (key.isSome = true → (aesCmac (key.getD []) (r.take 56)).take 8 = r.drop 56 → (r.drop 16).take 8 = devIdBytes →
        total t 0 = leAt r 36 8 ∧ total t 1 = leAt r 44 8 ∧ t.get MTR_SEQ_seq = leAt r 24 4 ∧ t.get MTR_STAT_ret_valid = 1 ∧
        t.mtr.flags.testBit 9 = true ∧ Logged s t 0x7805 []) ∧
      ((key = none ∨ (r.drop 16).take 8 ≠ devIdBytes) → total t 0 = total s 0 ∧ total t 1 = total s 1 ∧
        t.get MTR_SEQ_seq = s.get MTR_SEQ_seq ∧ t.mtr = s.mtr ∧ Logged s t 0x7806 [])) ∧
    (Admits s a → v = 2 ^ CVUc_CTL_start.lsb → ∃ t, exec (.cvuStart a c v) s = .next t ∧ (t.port a.ini).reply = .none ∧
      t.cvus[c].crc = s.get64 CVUc_INIT_LO_init CVUc_INIT_HI_init c.val % 2 ^ w ∧ t.cvus[c].last = s.cvus[c].last) ∧
    (Admits s a → ∃ t, exec (.cvuData a c 0 v) s = .next t ∧ (t.port a.ini).reply = .none ∧ t.cvus[c].crc = fed [v % 256]) ∧
    (Admits s a → ∃ t, exec (.cvuData a c 1 v) s = .next t ∧ t.cvus[c].crc = fed (leBytes 2 v)) ∧
    (Admits s a → ∃ t, exec (.cvuData a c 2 v) s = .next t ∧ t.cvus[c].crc = fed (leBytes 4 v)) ∧
    (a.priv = true → s.owl.replay = none → ∃ t, exec (.cvuResultRead a c) s = .next t ∧
      (t.port a.ini).reply = .data (cvuResult s c % 2 ^ 32) ∧ t.cvus = s.cvus ∧
      cvuResult s c = (if s.getB CVUc_CFG_refout c.val then revBits w (s.cvus[c].crc % 2 ^ w) else s.cvus[c].crc % 2 ^ w) ^^^
        (s.get64 CVUc_XOR_LO_xorout CVUc_XOR_HI_xorout c.val % 2 ^ w)) ∧
    (Admits s a → s.cvus[c].last = none → ∃ t, exec (.cvuAlive a c v) s = .next t ∧ t.get CVUc_STAT_alive c.val = 1 ∧
      t.get CVUc_STAT_last c.val = v % 2 ^ aw ∧ t.cvus[c].last = some (v % 2 ^ aw)) ∧
    (Admits s a → s.cvus[c].last = some l → ∃ t, exec (.cvuAlive a c v) s = .next t ∧
      (gap = 0 → t.get CVUc_STAT_alive c.val = 2 ∧ t.cvus[c].last = some l) ∧
      (gap ≠ 0 → s.get CVUc_CFG_maxgap c.val < gap → t.get CVUc_STAT_alive c.val = 3 ∧ t.cvus[c].last = some (v % 2 ^ aw)) ∧
      (gap ≠ 0 → gap ≤ s.get CVUc_CFG_maxgap c.val → t.get CVUc_STAT_alive c.val = 1 ∧ t.cvus[c].last = some (v % 2 ^ aw)) ∧
      t.cvus[c].crc = (if s.getB CVUc_CFG_alive_mode c.val then s.cvus[c].crc else fed [v % 2 ^ aw])) ∧
    (Admits s a → v = 2 ^ CVUc_CTL_alive_clr.lsb → ∃ t, exec (.cvuAliveClr a c v) s = .next t ∧ (t.port a.ini).reply = .none ∧
      t.cvus[c].last = none ∧ t.cvus[c].crc = s.cvus[c].crc)

/-- Owl's headers, its stop, offload and loading; a replay's headers, inputs, end and abort; and CONFIG_DIGEST. The model's own readings
and choices in it: log entries 60, 78, 88. -/
def Obligations.OwlAndReplay : Prop :=
  ∀ (s u : State) (a : Access) (v i w k : Nat) (r : Replay) (e : WordErrs), Ready s →
    let used := (s.owl.fresh.map (fun r => r.payload.length)).sum + (s.owl.queue.map List.length).sum
    let n := chOf (wSource w)
    let x := s.get OWL_LOAD_IDX_idx
    let b := leBytes 4 0 ++ leBytes 2 0 ++ leBytes 2 s.owl.sent.length ++ devIdBytes
    let tgt := payBits [wPayload (u.ow i)]
    (s.owlOn = true → s.owl.hdrTs + 2 ^ 19 ≤ s.now → used ≤ 254 → ∃ t, exec .owlTickHeader s = .next t ∧
      t.owl.fresh = insertRec ⟨0, 0x01, 0x3F, [s.now % 2 ^ 40, s.now / 2 ^ 40]⟩ s.owl.fresh ∧ t.regs = s.regs) ∧
    (s.owlOn = false ∨ s.now < s.owl.hdrTs + 2 ^ 19 → ∃ t, exec .owlTickHeader s = .next t ∧ t = s) ∧
    (s.owlOn = true → owlStopDue s = true → ∃ t, exec .owlStop s = .next t ∧ t.get OWL_STAT_state = 3 ∧ t.owl.queue = [] ∧
      wType (t.ow (s.get OWL_STAT_wptr)) = 0x11 ∧ wSource (t.ow (s.get OWL_STAT_wptr)) = 5 ∧
      t.get OWL_STAT_wptr = ringNext (s.get OWL_STAT_wptr) ∧ Logged s t 0x7C03 []) ∧
    (s.owlOn = true → owlStopDue s = false → ∃ t, exec .owlStop s = .next t ∧ t = s) ∧
    (Admits s a → v < 65536 → s.get OWL_STAT_state = 3 → s.getB OWL_ETH_busy = false → ∃ t, exec (.owlOffload a (2 ^ 31 + v) e) s = .next t ∧
      (t.port a.ini).reply = .none ∧ t.get OWL_ETH_busy = 1 ∧ t.get OWL_ETH_port = v ∧
      (e = [] → t.owl.sent.length = (owlPieces (offloadWords s)).length)) ∧
    (Admits s a → v < 65536 → (s.get OWL_STAT_state ≠ 3 ∨ s.getB OWL_ETH_busy = true) → ∃ t, exec (.owlOffload a (2 ^ 31 + v) e) s = .next t ∧
      t.get OWL_ETH_busy = s.get OWL_ETH_busy ∧ t.get OWL_ETH_port = s.get OWL_ETH_port ∧ Logged s t 0x7C08 []) ∧
    (s.getB OWL_ETH_busy = true → ∃ t, exec .owlOffloadDone s = .next t ∧ t.get OWL_ETH_busy = 0 ∧ t.owl.sent = s.owl.sent ++ [b ++ leBytes 4 (crc32c b)] ∧
      sget [] t.net.out 3 = b ++ leBytes 4 (crc32c b) ∧
      sget [] t.net.out 4 = leBytes 4 (s.get OWL_ETH_DST_addr) ++ leBytes 2 (s.get OWL_ETH_port) ∧ Logged s t 0x7C07 []) ∧
    (Admits s a → (s.get OWL_STAT_state = 0 ∨ s.get OWL_STAT_state = 3) → 16 ≤ x → x < 524287 → ∃ t, exec (.owlLoadStore a v) s = .next t ∧
      t.ow x = (s.get OWL_LOAD_D0_data + 2 ^ 32 * s.get OWL_LOAD_D1_data + 2 ^ 64 * (v % 2 ^ 8)) % 2 ^ 72 ∧ t.get OWL_LOAD_IDX_idx = x + 1 ∧
      t.get OWL_STAT_state = 3 ∧ t.get OWL_STAT_wptr = x + 1 ∧ (k ≠ x → t.ow k = s.ow k)) ∧
    (Admits s a → (s.get OWL_STAT_state = 1 ∨ s.get OWL_STAT_state = 2) → ∃ t, exec (.owlLoadStore a v) s = .next t ∧
      t.mem = s.mem ∧ t.get OWL_LOAD_IDX_idx = x ∧ Logged s t 0x7C08 []) ∧
    (s.owl.replay = none → ∃ t, exec .replayHeader s = .next t ∧ t = s) ∧
    (replayNext s = (u, some (i, w)) → replayCame u w = false → ∃ t, exec .replayHeader s = .next t ∧ t = s) ∧
    (replayNext s = (u, some (i, w)) → replayCame u w = true → endMark u i w = none → wType w = 0x01 → u.owl.replay = some r → r.cmp.testBit n.val = true →
      (u.carrier (.ch n)).run = false → ∃ t, exec .replayHeader s = .next t ∧
        t.get CHn_PERIOD_CNT_count n.val = (u.get CHn_PERIOD_CNT_count n.val / 65536 * 65536 + wPayload (u.ow (ringNext i)) / 2 ^ 24) % 2 ^ CHn_PERIOD_CNT_count.width ∧
        t.owl.replay.bind (fun r => r.hdr[n]) = some (i, hdrTsAt u i) ∧ t.owl.replay.map (fun r => r.pos) = some (ringSkip 2 i)) ∧
    (e = [] → replayReads s e = s) ∧
    (replayNext (replayReads s e) = (u, some (i, w)) → replayCame u w = false → ∃ t, exec (.replayInput e) s = .next t ∧ t = replayReads s e) ∧
    (replayNext (replayReads s e) = (u, some (i, w)) → replayCame u w = true → endMark u i w = none → wType w = 0x04 → u.owl.replay = some r → ∃ t, exec (.replayInput e) s = .next t ∧
      t.chuck = u.chuck ++ [⟨2 + wSource w % 4, .target (tgt 38 2) (ofField 36 (tgt 0 36)) (tgt 36 2), u.now, r.disagree⟩] ∧
      t.owl.replay.map (fun r => r.pos) = some (ringNext i)) ∧
    (s.owl.replay = none → ∃ t, exec (.replayInput e) s = .next t ∧ t = s) ∧
    (replayNext s = (u, some (i, w)) → replayCame u w = false → ∃ t, exec .replayEnd s = .next t ∧ t = s) ∧
    (replayNext s = (u, some (i, w)) → replayCame u w = true → endMark u i w = some k → (wType w = 0x11 ∧ wSource w = 5 → False) → s.owl.replay.isSome = true →
      u.owl.replay.isSome = true → ∃ t, exec .replayEnd s = .next t ∧ t.get OWL_STAT_state = 3 ∧ t.get OWL_RP_STAT_result = k ∧
        t.get OWL_RP_STAT_running = 0 ∧ t.owl.replay = none ∧ t.get LEG_OGATE_replay = 0 ∧ (u.log.intake = [] → (0x7C05, [k]) ∈ t.log.intake)) ∧
    (s.owl.replay = none → ∃ t, exec .replayEnd s = .next t ∧ t = s) ∧
    (Admits s a → v = 2 ^ OWL_CTL_rp_abort.lsb → s.get OWL_STAT_state = 4 → s.owl.replay.isSome = true → ∃ t, exec (.replayAbort a v) s = .next t ∧
      t.get OWL_STAT_state = 3 ∧ t.get OWL_RP_STAT_result = 11 ∧ t.get OWL_RP_STAT_running = 0 ∧ t.owl.replay = none) ∧
    (∃ t, exec .configDigestUpdate s = .next t ∧
      ∀ j : Fin 8, t.get OWL_DIGESTk_digest j.val = leAt (configDigest s) (4 * j.val) 4)

/-- Resets, start-up, boot, shut-down, standby and wake: what each leaves of the machine, and which stage of the start or of the shut-down
follows. The always-on domain, the OTP and the queue stay across a device reset. The model's own readings and choices in it: log entries
3, 52, 83, 103, 105, 138. -/
def Obligations.PowerAndReset : Prop :=
  ∀ (s : State) (a : Access) (f : Fld) (i j : Nat) (strap : Fin 64) (ign rails : Bool) (res : Fin 3) (r2 : Fin 2)
    (secs v phase fail word region ms c : Nat) (pl : List Nat), s.wf = true →
    let kept := [LCS_STATE_state, LCS_EPOCH_epoch, LCS_KEYS_present, LCS_KEYS_revoked, PWR_AON_TIME_secs, PWR_WAKE_TMR_secs,
      CLK_STATUS_ckw_src, PWR_STAT_keep_alive, PWR_STAT_ign, PWR_STAT_rst_cause, SYS_ID_grade]
    let ver := fun (x : Nat) => leNat (s.bytesAt (areaBase x) 4)
    let first := if ver 0 < ver 1 then 1 else 0
    let img := fun (x : Nat) => imageOk s (areaImage s x)
    (∃ t, exec .porstAssert s = .next t ∧ t.dev.held = true ∧ t.dev.cfgLock = false ∧ t.pwr.stage = 0 ∧ t.pending = s.pending ∧ t.pwr.fuses = s.pwr.fuses ∧
      t.pwr.epochs = s.pwr.epochs ∧ t.pwr.keys = s.pwr.keys ∧ t.get LCS_STATE_state = lcOf s.pwr.fuses ∧
      t.get PWR_AON_TIME_secs = s.get PWR_AON_TIME_secs % 2 ^ 32 ∧ AllOff t ∧ t.get SYS_ID_grade = s.get SYS_ID_grade % 2 ^ 4 ∧
      ((∀ g ∈ kept, g.id ≠ f.id) → t.get f i j = State.reset.get f i j)) ∧
    (s.pwr.stage = 0 → ∃ t, exec (.porstRelease strap ign secs) s = .next t ∧ t.dev.held = false ∧ t.pwr.stage = 1 ∧
      t.get PWR_STAT_rst_cause = s.pwr.nextCause % 8 ∧ t.get HLK_ADDR_addr = strap.val ∧ t.get HLK_ADDR_valid = 1 ∧ t.getB PWR_STAT_ign = ign ∧
      t.get PWR_AON_TIME_secs = (s.get PWR_AON_TIME_secs + secs) % 2 ^ 32 ∧ t.get LEG_OGATE_reset = 1 ∧ AllOff t) ∧
    (s.pwr.stage ≠ 0 → ∃ t, exec (.porstRelease strap ign secs) s = .next t ∧ t = s) ∧
    (Admits s a → v < 65536 → v = 0x5A5A → ∃ t, exec (.pwrReset a v) s = .next t ∧ t.pwr.stage = 1 ∧ t.get PWR_STAT_rst_cause = 2 ∧
      t.pwr.fuses = s.pwr.fuses ∧ t.pending = s.pending ∧ t.get LEG_OGATE_reset = 1 ∧ AllOff t) ∧
    (Admits s a → v < 65536 → v ≠ 0x5A5A → ∃ t, exec (.pwrReset a v) s = .next t ∧ (t.port a.ini).reply = .none ∧ t.pwr = s.pwr ∧
      t.get PWR_STAT_rst_cause = s.get PWR_STAT_rst_cause) ∧
    (Ready s → s.pwr.stage = 1 → ∃ t, exec (.badgerStartDone true phase) s = .next t ∧ t.pwr.rstOut = true ∧ t.get CLK_STATUS_p_lock = 1 ∧
      t.get CLK_STATUS_c_lock = 1 ∧ t.pwr.stage = (if warmOk s then 4 else 3) ∧ t.get PWR_STAT_start = (if warmOk s then 1 else 2) ∧
      (warmOk s = false → t.get BIST_STAT_running = 1 ∧ t.get LEG_OGATE_selftest = 1 ∧ AllOff t) ∧
      (s.pwr.retOk = true → t.get MTR_STAT_ret_valid = 1 ∧ t.get MTR_SEQ_seq = leNat (retBytes s 96 4) % 2 ^ 32) ∧
      (s.pwr.retOk = false → t.pwr.retOk = true ∧ t.pwr.ret = [] ∧ Logged s t 0x0205 [])) ∧
    (Ready s → s.pwr.stage = 1 → ∃ t, exec (.badgerStartDone false phase) s = .next t ∧ t.pwr.stage = 7 ∧ t.pwr.rstOut = s.pwr.rstOut) ∧
    (Ready s → s.pwr.stage = 3 → ∃ t, exec (.startupBistDone res phase fail word region ms) s = .next t ∧ t.get BIST_STAT_running = 0 ∧
      t.get BIST_STAT_result = res.val ∧ Logged s t 0x0202 [1, res.val] ∧
      (res.val = 0 → t.pwr.stage = 4 ∧ t.get LEG_OGATE_selftest = 0) ∧
      (res.val ≠ 0 → t.pwr.stage = 7 ∧ t.get BDG_STATE_unit = 2 ∧ t.get PWR_STAT_bist_fail = 1)) ∧
    (Ready s → s.pwr.stage = 4 → ∃ t, exec .bootLoadDone s = .next t ∧
      (img first = some pl → t.pwr.stage = 5 ∧ t.get LCS_BOOT_area = first ∧ t.get LCS_BOOT_fallback = 0) ∧
      (img first = none → img (1 - first) = some pl → t.pwr.stage = 5 ∧ t.get LCS_BOOT_area = 1 - first ∧ t.get LCS_BOOT_fallback = 1 ∧
        Logged s t 0x7F05 []) ∧
      (img first = none → img (1 - first) = none → t.pwr.stage = 7 ∧ Logged s t 0x7F04 [])) ∧
    (Ready s → s.pwr.stage = 5 → ∃ t, exec .devReady s = .next t ∧ t.pwr.stage = 6 ∧ t.get LEG_OGATE_reset = 0 ∧ t.get PWR_STAT_ready = 1 ∧
      (s.get BDG_STATE_unit ≠ 2 → s.bdg.clkBad.testBit 1 = false → t.get BDG_STATE_safe_en0 = 1 ∧ t.get BDG_STATE_safe_en1 = 1) ∧ Logged s t 0x0203 [s.get PWR_STAT_start]) ∧
    (Ready s → s.pwr.stage ≠ 5 → ∃ t, exec .devReady s = .next t ∧ t = s) ∧
    (Admits s a → v = 2 ^ PWR_CTL_shutdown.lsb + s.get PWR_CTL_ign_filt * 2 ^ 8 → s.get PWR_STAT_shut = 0 → s.get PWR_CTL_ign_filt ≠ 0 →
      s.get PWR_CTL_ign_filt < 256 → ∃ t, exec (.shutdownRequest a v) s = .next t ∧ (t.port a.ini).reply = .none ∧ t.get PWR_STAT_shut = 1 ∧ Logged s t 0x0201 []) ∧
    (Ready s → s.getB PWR_CTL_ign_en = true → s.get PWR_STAT_shut = 0 → ∃ t, exec .ignFilterExpiry s = .next t ∧ t.get PWR_STAT_ign = 0 ∧
      t.get PWR_STAT_shut = 1 ∧ Logged s t 0x0201 []) ∧
    (Ready s → s.getB PWR_CTL_ign_en = false → ∃ t, exec .ignFilterExpiry s = .next t ∧ t = s.put PWR_STAT_ign 0) ∧
    (Ready s → s.get PWR_STAT_shut = 1 → quiescent s = true → ∃ t, exec .shutdownQuiescent s = .next t ∧ t.get PWR_STAT_shut = 2 ∧
      t.pwr.stage = 8 ∧ t.get BIST_STAT_running = 1 ∧ t.get LEG_OGATE_selftest = 1 ∧ AllOff t) ∧
    (Ready s → (s.get PWR_STAT_shut ≠ 1 ∨ quiescent s = false) → ∃ t, exec .shutdownQuiescent s = .next t ∧ t = s) ∧
    (Ready s → s.get PWR_STAT_shut = 1 → s.pwr.waitLogged = false → s.pwr.phaseTs + 4000000000 < s.now → ∃ t, exec .shutWait s = .next t ∧ t.pwr.waitLogged = true ∧ Logged s t 0x0204 []) ∧
    (Ready s → s.now ≤ s.pwr.phaseTs + 4000000000 → ∃ t, exec .shutWait s = .next t ∧ t = s) ∧
    (Ready s → s.pwr.stage = 8 → s.pwr.startReq = none → ∃ t, exec (.shutdownBistDone r2 phase fail word region ms) s = .next t ∧
      t.dev.held = true ∧ t.pwr.stage = 9 ∧ t.get PWR_STAT_keep_alive = 0 ∧ AllOff t ∧ t.pwr.recBad = false) ∧
    (Ready s → s.pwr.stage = 8 → s.pwr.startReq = some c → ∃ t, exec (.shutdownBistDone r2 phase fail word region ms) s = .next t ∧
      t.dev.held = false ∧ t.pwr.stage = 1 ∧ t.get PWR_STAT_rst_cause = c % 8) ∧
    (Ready s → s.pwr.stage = 8 → s.pwr.startReq = none → scanon 0 s.pwr.ret = true → s.pwr.phaseTs + 60000000 ≤ s.now → ∃ t, exec .bistTimeout s = .next t ∧
      t.dev.held = true ∧ t.pwr.stage = 9 ∧ (bistRec t).getD 2 0 = 2) ∧
    (Ready s → s.now < s.pwr.phaseTs + 60000000 → ∃ t, exec .bistTimeout s = .next t ∧ t = s) ∧
    (s.pwr.stage = 9 → rails = true → ∃ t, exec (.wakePin rails ign secs) s = .next t ∧ t.dev.held = false ∧ t.pwr.stage = 1 ∧
      t.get PWR_STAT_rst_cause = 3 ∧ t.get PWR_STAT_keep_alive = 1 ∧ t.getB PWR_STAT_ign = ign) ∧
    (s.pwr.stage = 9 → rails = false → ∃ t, exec (.wakePin rails ign secs) s = .next t ∧ t.dev = s.dev ∧ t.pwr.stage = 0 ∧ t.pwr.nextCause = 3 ∧
      t.get PWR_STAT_keep_alive = 1) ∧
    (s.pwr.stage = 8 → s.get PWR_STAT_shut ≠ 0 → ∃ t, exec (.wakePin rails ign secs) s = .next t ∧
      t.pwr.startReq = some (s.pwr.startReq.getD 3) ∧ t.pwr.stage = 8) ∧
    (s.pwr.stage = 9 → s.get PWR_WAKE_TMR_secs ≠ 0 → rails = true → ∃ t, exec (.wakeTimer rails secs) s = .next t ∧ t.dev.held = false ∧ t.pwr.stage = 1 ∧
      t.get PWR_STAT_rst_cause = 4 ∧ t.get PWR_AON_TIME_secs = (s.get PWR_AON_TIME_secs + secs) % 2 ^ 32) ∧
    (s.get PWR_WAKE_TMR_secs = 0 → ∃ t, exec (.wakeTimer rails secs) s = .next t ∧ t = s) ∧
    (∃ t, exec .aonLoss s = .next t ∧ t.pwr.retOk = false ∧ t.pwr.ret = [] ∧ t.get PWR_AON_TIME_secs = 0 ∧ t.get PWR_WAKE_TMR_secs = 0 ∧
      t.get PWR_STAT_keep_alive = 1 ∧ t.mem = s.mem)

/-- Temperature, trims, epochs, keys, self-tests on request and the programming of images. The model's own readings and choices in it: log
entries 52, 106. -/
def Obligations.TemperatureKeysAndSelfTests : Prop :=
  ∀ (s : State) (a : Access) (x y : Int) (v k attr set : Nat) (b : List Nat) (ok : Bool) (res : Fin 3) (phase fail word region ms : Nat), Ready s →
    let e := min 64 (s.get LCS_EPOCH_img)
    let d := (List.range 8).flatMap (fun j => leBytes 4 (s.get LCS_KDATAk_data j))
    let kv := 2 ^ 31 + attr * 2 ^ 8 + k
    (-(2 ^ 15) ≤ x → x < 2560 → ∃ t, exec (.thermalReading x) s = .next t ∧ t.getS THM_TEMP_cv7 = x ∧ t.get THM_STAT_stale = 0 ∧
      t.pwr.cv7 = some x ∧ (s.getS THM_MAX_max < x → t.getS THM_MAX_max = x) ∧ (x ≤ s.getS THM_MAX_max → t.getS THM_MAX_max = s.getS THM_MAX_max) ∧
      (s.pwr.cv7 = none → t.get THM_STAT_level = s.get THM_STAT_level) ∧
      (s.pwr.cv7 = some y → t.get THM_STAT_level = thmLevel (s.get THM_STAT_level) y x)) ∧
    (s.pwr.cv7 = some y → 2160 ≤ x → x < 2240 → 2160 ≤ y → y < 2240 → s.get THM_STAT_level = 0 → ∃ t, exec (.thermalReading x) s = .next t ∧
      t.get THM_STAT_level = 1 ∧ Logged s t 0x0301 [] ∧ Logged s t 0x0302 [1]) ∧
    (s.getS THM_CTL_user_thr ≤ x → x < 2560 → s.pwr.userHit = false → ∃ t, exec (.thermalReading x) s = .next t ∧
      Logged s t 0x0305 [] ∧ t.pwr.userHit = true) ∧
    (2560 ≤ x → s.pwr.stage = 3 → ∃ t, exec (.thermalReading x) s = .next t ∧ t.pwr.stage = 7 ∧ t.get BIST_STAT_running = 0 ∧
      (0x12, 0) ∈ t.inflight) ∧
    (s.pwr.cv7Ts + 400000 ≤ s.now → ∃ t, exec .thmStale s = .next t ∧ t.get THM_STAT_stale = 1 ∧ Logged s t 0x0304 []) ∧
    (s.now < s.pwr.cv7Ts + 400000 → ∃ t, exec .thmStale s = .next t ∧ t = s) ∧
    (lcState s = 0 → ∃ t, exec .thmTrim s = .next t ∧ t.get THM_STAT_no_comp = 1 ∧ t.pwr = s.pwr ∧
      (s.get THM_STAT_no_comp = 0 → Logged s t 0x0306 [])) ∧
    (lcState s ≠ 0 → s.pwr.cv7 = some y → ∃ t, exec .thmTrim s = .next t ∧
      t.pwr.trims = (List.range 9).map (fun k => Config.otpTrim k y) ∧ t.regs = s.regs) ∧
    (Admits s a → v = 2 ^ LCS_EPOCH_advance.lsb → s.pwr.epochs < e → ∃ t, exec (.epochAdvance a v) s = .next t ∧ (t.port a.ini).reply = .none ∧
      t.pwr.epochs = e ∧ t.get LCS_EPOCH_epoch = e ∧ Logged s t 0x7F03 [e]) ∧
    (Admits s a → v = 2 ^ LCS_EPOCH_advance.lsb → e ≤ s.pwr.epochs → ∃ t, exec (.epochAdvance a v) s = .next t ∧ (t.port a.ini).reply = .none ∧
      t.pwr = s.pwr ∧ t.get LCS_EPOCH_epoch = s.get LCS_EPOCH_epoch) ∧
    (Admits s a → k < 16 → attr < 256 → lcState s ≤ 1 → s.getBit LCS_KEYS_present k = false → ∃ t, exec (.keyProgram a kv) s = .next t ∧
      (t.port a.ini).reply = .none ∧ sget ⟨0, []⟩ t.pwr.keys k = ⟨attr, d⟩ ∧ t.getBit LCS_KEYS_present k = true) ∧
    (Admits s a → k < 16 → attr < 256 → (2 ≤ lcState s ∨ s.getBit LCS_KEYS_present k = true) → ∃ t, exec (.keyProgram a kv) s = .next t ∧
      t.pwr.keys = s.pwr.keys ∧ t.get LCS_KEYS_present = s.get LCS_KEYS_present ∧ Logged s t 0x7F08 []) ∧
    (Admits s a → v = 1 → (lcState s = 1 ∨ lcState s = 4) → s.pwr.selftest = none → ∃ t, exec (.bistManual a v) s = .next t ∧ (t.port a.ini).reply = .none ∧
      t.pwr.selftest = some 256 ∧ t.get BIST_STAT_running = 1 ∧ t.get LEG_OGATE_selftest = 1 ∧ AllOff t) ∧
    (Admits s a → v = 1 → lcState s ≠ 1 → lcState s ≠ 4 → ∃ t, exec (.bistManual a v) s = .next t ∧ t.pwr = s.pwr ∧ t.gen = s.gen ∧
      Logged s t 0x7E02 []) ∧
    (s.pwr.selftest = none → ∃ t, exec (.selftestDone res phase fail word region ms) s = .next t ∧ t = s) ∧
    (s.pwr.selftest = some 256 → ∃ t, exec (.selftestDone res phase fail word region ms) s = .next t ∧ t.pwr.selftest = none ∧
      t.get BIST_STAT_running = 0 ∧ t.get BIST_STAT_result = res.val ∧ t.get LEG_OGATE_selftest = 0 ∧ t.log = s.log) ∧
    (s.pwr.selftest = some set → set < 8 → set.testBit 2 = false → ∃ t, exec (.selftestDone res phase fail word region ms) s = .next t ∧
      t.pwr.selftest = none ∧ t.get BIST_STAT_result = res.val ∧ Logged s t 0x7E01 [set, res.val, fail]) ∧
    (s.pwr.selftest = some set → set < 8 → set.testBit 2 = true → ∃ t, exec (.selftestDone res phase fail word region ms) s = .next t ∧
      t.pwr.stage = 1 ∧ t.get PWR_STAT_rst_cause = 2 ∧ t.pwr.selftest = none ∧ AllOff t) ∧
    (s.pwr.fw = some b → ∃ t, exec (.fwProgramDone ok) s = .next t ∧ t.pwr.fw = none ∧ (ok = true → Logged s t 0x7F06 [] ∧
      t.mem = (s.putBytes (areaBase (1 - s.get LCS_BOOT_area)) b).mem) ∧ (ok = false → Logged s t 0x7F07 [] ∧ t.mem = s.mem)) ∧
    (s.pwr.fw = none → ∃ t, exec (.fwProgramDone ok) s = .next t ∧ t = s)

/-- The time stamp: a read of `CLK_TS_LO` returns TS[31:0] and captures TS[63:32] for the initiator that reads, and for no other; a read
of `CLK_TS_HI` returns what that initiator captured, or the current TS[63:32] where it has captured nothing (a captured value is held plus
1; 0 stands for none). Neither register can be written, and TS is 0 at reset (R43). -/
def Obligations.TimestampRead : Prop :=
  ∀ (s : State) (a : Access) (x v : Nat), Ready s → a.priv = true → s.owl.replay = none → scanon 0 (s.port a.ini).hi = true →
    let hi := fun (u : State) (i : Init) => sget 0 (u.port i).hi (CLK_TS_HI_ts.at 0 0)
    (CLK_TS_LO_ts.at 0 0 = 0x40010000 + 0x010 ∧ CLK_TS_HI_ts.at 0 0 = 0x40010000 + 0x014 ∧ State.reset.now = 0) ∧
    (∃ t, exec (.tsLoRead a) s = .next t ∧ (t.port a.ini).reply = .data (s.now % 2 ^ 32) ∧ hi t a.ini = s.now / 2 ^ 32 % 2 ^ 32 + 1 ∧
      ∀ j ∈ [Init.cpa, Init.cpb, Init.mp], j ≠ a.ini → t.port j = s.port j) ∧
    (hi s a.ini = x + 1 → ∃ t, exec (.registerRead a (CLK_TS_HI_ts.at 0 0) 4) s = .next t ∧ (t.port a.ini).reply = .data x) ∧
    (hi s a.ini = 0 → ∃ t, exec (.registerRead a (CLK_TS_HI_ts.at 0 0) 4) s = .next t ∧ (t.port a.ini).reply = .data (s.now / 2 ^ 32 % 2 ^ 32)) ∧
    (Admits s a → ∃ t, exec (.registerWrite a (CLK_TS_LO_ts.at 0 0) 4 v) s = .next t ∧ t.now = s.now ∧ (t.port a.ini).hi = (s.port a.ini).hi) ∧
    (Admits s a → ∃ t, exec (.registerWrite a (CLK_TS_HI_ts.at 0 0) 4 v) s = .next t ∧ t.now = s.now ∧ (t.port a.ini).hi = (s.port a.ini).hi)

/-- A write of a comparator's thresholds with hi below lo leaves the register as it is and logs an event; one with lo at or below hi sets
both. At reset hi is 32,767 and lo is −32,768, and no samples assert either output (R110). -/
def Obligations.ComparatorThresholds : Prop :=
  (∀ (s : State) (a : Access) (i : Ain) (hi lo : Int), Admits s a → -(2 ^ 15) ≤ hi → hi < 2 ^ 15 → -(2 ^ 15) ≤ lo → lo < 2 ^ 15 →
    ∃ t, exec (.registerWrite a (CMPi_THR_hi.at i.val 0) 4 (toField 16 hi * 2 ^ 16 + toField 16 lo)) s = .next t ∧
      (hi < lo → t.get CMPi_THR_hi i.val = s.get CMPi_THR_hi i.val ∧ t.get CMPi_THR_lo i.val = s.get CMPi_THR_lo i.val ∧ Logged s t 0x1007 [i.val]) ∧
      (lo ≤ hi → t.getS CMPi_THR_hi i.val = hi ∧ t.getS CMPi_THR_lo i.val = lo)) ∧
  (∀ i : Ain, State.reset.getS CMPi_THR_hi i.val = 32767 ∧ State.reset.getS CMPi_THR_lo i.val = -32768) ∧
  (∀ (s : State) (i : Ain) (codes : List Int), Ready s → s.getS CMPi_THR_hi i.val = 32767 → s.getS CMPi_THR_lo i.val = -32768 →
    s.getB CMPi_STAT_hi_out i.val = false → s.getB CMPi_STAT_lo_out i.val = false →
    (∀ x ∈ codes, -32768 ≤ x ∧ x ≤ 32767) → ∃ t, exec (.cmpAssert i codes) s = .next t ∧
      t.getB CMPi_STAT_hi_out i.val = false ∧ t.getB CMPi_STAT_lo_out i.val = false)

/-- A write to an injection slot whose `start` is 1 leaves the slot unchanged; `start` is cleared when the result is written (R96). -/
def Obligations.InjectionSlots : Prop :=
  ∀ (s : State) (a : Access) (c : Cv) (k : Fin 4) (v : Nat) (codes : List Int),
    (Admits s a → s.getB CVc_INJk_start c.val k.val = true → ∃ t, exec (.injectionStart a c k v) s = .next t ∧
      (∀ f ∈ [CVc_INJk_start, CVc_INJk_urgent, CVc_INJk_shift, CVc_INJk_log2n, CVc_INJk_input], t.get f c.val k.val = s.get f c.val k.val) ∧
      t.cvb = s.cvb) ∧
    (Ready s → s.cvb.conv[c].work = .inj k.val → codes.length = 2 ^ s.get CVc_INJk_log2n c.val k.val → ∃ t, exec (.injectionDone c k codes) s = .next t ∧ t.get CVc_INJk_start c.val k.val = 0 ∧
      t.get CVc_INJRk_value c.val k.val = windowValue codes (s.get CVc_INJk_shift c.val k.val))

/-- The life-cycle fuses: no step ever clears a blown fuse, and the state that the next reset shows is the highest blown fuse, BLANK (0)
when none is blown, and END (5) when both DEVELOP and FIELD are (R484; the numbers are R485's). -/
def Obligations.LifeCycleFuses : Prop :=
  (∀ (s t : State) (k : Nat), step s = .next t → s.pwr.fuses.testBit k = true → t.pwr.fuses.testBit k = true) ∧
  (∀ (s : State) (n : Nat), s.wf = true → s.pwr.fuses < 32 → ∃ t, exec .porstAssert s = .next t ∧
    (s.pwr.fuses = 0 → t.get LCS_STATE_state = 0) ∧
    (s.pwr.fuses.testBit 1 = true → s.pwr.fuses.testBit 2 = true → t.get LCS_STATE_state = 5) ∧
    (n < 5 → s.pwr.fuses.testBit n = true → s.pwr.fuses < 2 ^ (n + 1) → ¬ (s.pwr.fuses.testBit 1 = true ∧ s.pwr.fuses.testBit 2 = true) →
      t.get LCS_STATE_state = n + 1))

/-- The epoch of the OTP never falls, whatever is commanded. -/
def Obligations.EpochNeverFalls : Prop :=
  ∀ s t : State, step s = .next t → s.pwr.epochs ≤ t.pwr.epochs

/-- The machine right after reset: its stores are in canonical form, nothing waits, TS is 0, every output is off and no leg stands where
it could short its link. The model's own readings and choices in it: log entries 3, 4, 52, 91. -/
def Obligations.ResetState : Prop :=
  State.reset.wf = true ∧ State.reset.pending = [] ∧ State.reset.now = 0 ∧ AllOff State.reset ∧ LegsOk State.reset ∧
    State.reset.get LCS_STATE_state = 0 ∧ (∀ n : Ch, State.reset.chState n.val = 0) ∧ State.reset.get LEG_OGATE_reset = 1

/-- A step takes the command at the front of the queue and runs it on the rest. The model's own readings and choices in it: log entry 1.
-/
def Obligations.StepRunsTheFront : Prop :=
  ∀ (s : State) (c : Instr) (q : List Instr), step { s with pending := c :: q } = exec c { s with pending := q }

/-- With nothing waiting a step is one tick of CKP: TS counts it, unless the device is held or the PLL has not locked (the model's choice,
assumption 2); a CKP that its monitor has found lost since goes on counting (R36). The model's own readings and choices in it: log entries
2, 103. -/
def Obligations.IdleStepCountsTime : Prop :=
  ∀ s : State, s.pending = [] → ∃ t, step s = .next t ∧ t.pending = [] ∧
    (s.dev.held = false → (s.getB CLK_STATUS_p_lock = true ∨ s.bdg.clkBad.testBit 1 = true) → t.ts = s.ts + 1) ∧
    ((s.dev.held = true ∨ s.getB CLK_STATUS_p_lock = false ∧ s.bdg.clkBad.testBit 1 = false) → t = s)

/-- No command stops the device: each answers a next state from every state. The model's own readings and choices in it: log entry 1. -/
def Obligations.EveryCommandAnswers : Prop :=
  ∀ (i : Instr) (s : State), ∃ t, exec i s = .next t

/-- The queue is first in, first out: a step removes its front and nothing else, whatever the command does. The model's own readings and
choices in it: log entry 1. -/
def Obligations.QueueOrder : Prop :=
  ∀ (s t : State) (c : Instr) (q : List Instr), s.pending = c :: q → step s = .next t → t.pending = q

/-- A device that PORST_N or standby holds does nothing but what the always-on domain does. The model's own readings and choices in it:
log entry 105. -/
def Obligations.HeldDevice : Prop :=
  ∀ (i : Instr) (s : State), s.dev.held = true → ¬ AlwaysOn i → ∃ t, exec i s = .next t ∧ t = s

/-- Every step keeps the stores in canonical form. The model's own readings and choices in it: log entry 3. -/
def Obligations.StepKeepsForm : Prop :=
  ∀ s t : State, s.wf = true → step s = .next t → t.wf = true

/-- No step shorts a link: from every state in which no leg has both switches on and its dead times are in order, a step leaves it so. The
model's own readings and choices in it: log entries 11, 12. -/
def Obligations.NoShootThroughKept : Prop :=
  ∀ s t : State, s.wf = true → LegsOk s → step s = .next t → LegsOk t ∧ NoShootThrough t

/-- The frames of the clock, memory, converter and position commands: each leaves alone every register field and every part of the state
but those listed for it. -/
def Obligations.FramesTimeConvertersAndPosition : Prop :=
  ∀ s t : State, s.wf = true →
    (∀ a, exec (.tsLoRead a) s = .next t → Keeps s t (evFlds ++ legFlds ++ stateFlds ++ readFlds) (evParts ++ [Part.free, Part.sram, Part.mpSram,
      Part.ueKnown, Part.writebacks, Part.inflight, Part.ports, Part.gen, Part.chans, Part.sps, Part.links, Part.net])) ∧
    (∀ a, s.owl.replay = none → exec (.tsLoRead a) s = .next t → Keeps s t (evFlds ++ [SYS_BUSERR_ADDR_addr]) (evParts ++ [Part.free, Part.ports])) ∧
    (∀ a n v, exec (.satClear a n v) s = .next t → Keeps s t (evFlds ++ [SYS_BUSERR_ADDR_addr, SPn_SAT_modulate, SPn_SAT_limit, SPn_SAT_control,
      SPn_SAT_correct, SPn_SAT_predict, SPn_SAT_transform, CHn_BUDGET_lat_full, CHn_BUDGET_budget, SPn_SAT_first_period,
    SPn_SAT_first_stage]) (evParts ++ [Part.ports])) ∧
    (∀ r, exec (.reload r) s = .next t → Keeps s t (evFlds ++ legFlds ++ stateFlds ++ [CHn_BUDGET_lat_full, CHn_BUDGET_budget, SYS_PROFILE_pending,
      SPn_SAT_first_period, SPn_SAT_first_stage, SPn_SAT_modulate, SPn_SAT_limit, SPn_SAT_control, SPn_SAT_correct, SPn_SAT_predict,
    SPn_SAT_transform, CVc_STAT_cur_input, CVc_STAT_state, CVc_CAL_bg_busy, CVc_CAL_ok, CVc_CAL_bg_slice, CVc_TRIM_gain, CVc_TRIM_offset,
      SEQn_OVR_count, SEQn_STAT_queued, SEQn_STAT_running, SEQn_TRIG_TS_LO_ts, SEQn_TRIG_TS_HI_ts, PIFn_POS_count, PIFn_REVPOS_rev_pos,
    PIFn_SPD_speed, PIFn_STAT_dir, PIFn_STAT_spd_valid, CHn_GEN_act_gen, CHn_CSTAT_per_clamp_cnt, CHn_CSTAT_mismatch_cnt, CHn_CSTAT_half,
      CHn_CSTAT_pend, CHn_CSTAT_mismatch, CHn_CSTAT_per_clamp, CHn_PERLAST_per, LEGk_STAT_drop_cnt, LEGk_STAT_stretch_cnt, LEGk_GEN_act_gen,
    LEGk_CSTAT_per_clamp_cnt, LEGk_CSTAT_mismatch_cnt, LEGk_CSTAT_half, LEGk_CSTAT_pend, LEGk_CSTAT_mismatch, LEGk_CSTAT_per_clamp, LEGk_PERLAST_per,
      LEG_OGATE_standby, SPn_CTL_spec, SPn_STEP_step_inact, SPn_STEP_step_act, SPn_BANK_int_frz, SPn_BANK_fb, SPn_BANK_swap, SPn_BANK_active,
    SPn_FBSTAT_hold_left, SPn_FBSTAT_expired, SPn_FBSTAT_hold, SPn_FBSTAT_absent, SPn_FBSTAT_lost, SPn_MISS_miss_cnt, SPn_MISS_miss_now,
      SPn_OSC_STAT_last_cnt, SPn_PG_STAT_busy, SPn_FLD_STAT_rec_cnt, SPn_FLD_STAT_ovm_active, SPn_FLD_STAT_fw_active, SPn_FLD_STAT_obs_valid,
    SPn_FLD_STAT_task, SPn_FLD_STAT_engine, SPn_ANG_M_angle, SPn_ANG_U_angle, SPn_OBS_ANG_angle, SPn_OBS_SPD_speed, SPn_FW_ID_id_fw,
      SPn_KE_EST_psi_f, SPn_GRID_F_freq, SPn_TLIM_EFF_i_lim, SPn_TLIM_EFF_t_lim, CHn_STATE_cause, CHn_STATE_sel, CHn_STATE_motoring_only,
    CHn_SEL_THR_thr, CHn_OCSTAT_cyc_run, PRT_LNKl_STAT_lstate, PRT_LNKl_STAT_chop, TLS_STAT_nr_cause, TLS_STAT_aligned, TLS_STAT_ready,
      TLS_STAT_role, TLS_CNT_miss_cnt, TLS_CNT_late_cnt, CHn_PERIOD_CNT_count]) (evParts ++ [Part.free, Part.latheWords, Part.ueKnown,
    Part.writebacks, Part.inflight, Part.cvb, Part.pos, Part.gen, Part.chans, Part.sps, Part.links, Part.bdg, Part.tls, Part.net, Part.setts])) ∧
    (∀ n, exec (.commitArrival n) s = .next t → Keeps s t (evFlds ++ legFlds ++ stateFlds ++ [CHn_DLSTAT_late, CHn_DLSTAT_consec,
      CHn_SLACK_slack_last, CHn_SLACK_MIN_slack_min, CHn_GEN_pend_gen, CHn_CSTAT_pend, LEGk_GEN_pend_gen, LEGk_CSTAT_pend, LEG_OGATE_replay,
    SPn_FLD_STAT_task, SPn_FLD_STAT_engine, CHn_OCSTAT_cyc_run, PRT_LNKl_STAT_chop, OWL_RP_STAT_result, OWL_RP_STAT_running, OWL_RP_STAT_div_cnt,
      OWL_RP_DIV_PER_period, OWL_RP_DIV_WORD_kind, OWL_RP_DIV_WORD_ch, OWL_RP_DIV_WORD_idx]) (evParts ++ [Part.gen, Part.chans, Part.sps, Part.links,
    Part.tls])) ∧
    (∀ n, exec (.commitDeadline n) s = .next t → Keeps s t (evFlds ++ legFlds ++ stateFlds ++ [CHn_DLSTAT_miss, CHn_DLSTAT_cause,
      CHn_DLSTAT_miss_cnt, CHn_DLSTAT_consec, CHn_CSTAT_pend, LEG_OGATE_replay, SPn_FLD_STAT_task, SPn_FLD_STAT_engine, CHn_STATE_cause,
    CHn_STATE_sel, CHn_SEL_THR_thr, CHn_OCSTAT_cyc_run, PRT_LNKl_STAT_lstate, PRT_LNKl_STAT_chop, TLS_STAT_nr_cause, TLS_STAT_ready,
      OWL_RP_STAT_result, OWL_RP_STAT_running, OWL_RP_STAT_div_cnt, OWL_RP_DIV_PER_period, OWL_RP_DIV_WORD_kind, OWL_RP_DIV_WORD_ch,
    OWL_RP_DIV_WORD_idx]) (evParts ++ [Part.inflight, Part.gen, Part.chans, Part.sps, Part.links, Part.tls])) ∧
    (∀ a v, exec (.profileRequestWrite a v) s = .next t → Keeps s t (evFlds ++ [SYS_BUSERR_ADDR_addr, SYS_PROFILE_pending, SYS_PROFILE_request,
      CHn_BUDGET_lat_full, CHn_BUDGET_budget]) (evParts ++ [Part.ports, Part.pwr])) ∧
    (∀ d, exec (.clockLoss d) s = .next t → Keeps s t [CLK_STATUS_t_lock, CLK_STATUS_s_lock, CLK_STATUS_m_lock, CLK_STATUS_a_lock, CLK_STATUS_p_lock,
      CLK_STATUS_c_lock] [Part.inflight, Part.bdg]) ∧
    (exec .xinLoss s = .next t → Keeps s t [CLK_STATUS_xin_ok] [Part.inflight, Part.bdg]) ∧
    (exec .ckwSwitch s = .next t → Keeps s t (evFlds ++ [CLK_STATUS_ckw_src]) evParts) ∧
    (∀ ft, exec (.phaseMeasure ft) s = .next t → Keeps s t (evFlds ++ [CLK_STATUS_phase_slip, CLK_CKA_PHASE_phase]) evParts) ∧
    (∀ a addr size v errs, exec (.slotWrite a addr size v errs) s = .next t → Keeps s t (evFlds ++ [LTH_SLOT_STAT_abandon, LTH_SLOT_STAT_sat,
      SYS_ECC_CE_count, SYS_ECC_LAST_addr, SYS_ECC_INFO_initiator, SYS_ECC_INFO_region, SYS_ECC_INFO_ue_cnt, SPn_STEP_step_inact, SPn_STEP_step_act,
    SPn_BANK_seal_b, SPn_BANK_seal_a, SPn_BANK_CRC_A_crc, SPn_BANK_CRC_B_crc, SYS_BUSERR_ADDR_addr]) (evParts ++ [Part.free, Part.latheWords,
      Part.ueKnown, Part.writebacks, Part.inflight, Part.ports])) ∧
    (∀ a addr size errs, exec (.slotRead a addr size errs) s = .next t → Keeps s t (evFlds ++ [SYS_ECC_CE_count, SYS_ECC_LAST_addr,
      SYS_ECC_INFO_initiator, SYS_ECC_INFO_region, SYS_ECC_INFO_ue_cnt, SYS_BUSERR_ADDR_addr]) (evParts ++ [Part.free, Part.ueKnown, Part.writebacks,
    Part.inflight, Part.ports])) ∧
    (∀ errs, exec (.scrubRead errs) s = .next t → Keeps s t (evFlds ++ [SYS_ECC_CE_count, SYS_ECC_LAST_addr, SYS_ECC_INFO_initiator,
      SYS_ECC_INFO_region, SYS_ECC_INFO_ue_cnt, SYS_SCRUB_STAT_pos]) (evParts ++ [Part.free, Part.ueKnown, Part.writebacks, Part.inflight])) ∧
    (∀ region word, exec (.eccWriteback region word) s = .next t → Keeps s t [] [Part.writebacks]) ∧
    (exec .scrubLate s = .next t → Keeps s t (evFlds ++ [SYS_SCRUB_STAT_late]) evParts) ∧
    (∀ q k codes, exec (.windowResult q k codes) s = .next t → Keeps s t (evFlds ++ [CVc_STAT_cur_input, CVc_CAL_bg_busy, CVc_CAL_ok,
      CVc_CAL_bg_slice, CVc_TRIM_gain, CVc_TRIM_offset, SEQn_STAT_last_step, SEQn_RESk_flags, SEQn_RESk_new, SEQn_RESk_value,
    SEQn_RCLOSEk_ts]) (evParts ++ [Part.inflight, Part.cvb, Part.chuck])) ∧
    (∀ a q, exec (.seqSwtrig a q) s = .next t → Keeps s t (evFlds ++ [SYS_BUSERR_ADDR_addr, SEQn_SWTRIG_go, CVc_STAT_cur_input, CVc_STAT_state,
      CVc_CAL_bg_busy, CVc_CAL_ok, CVc_CAL_bg_slice, CVc_TRIM_gain, CVc_TRIM_offset, SEQn_OVR_count, SEQn_STAT_queued, SEQn_STAT_running,
    SEQn_TRIG_TS_LO_ts, SEQn_TRIG_TS_HI_ts, CHn_BUDGET_lat_full, CHn_BUDGET_budget]) (evParts ++ [Part.ports, Part.inflight, Part.cvb])) ∧
    (∀ q, exec (.seqRunEnd q) s = .next t → Keeps s t (evFlds ++ [CVc_STAT_cur_input, CVc_STAT_state, CVc_CAL_bg_busy, CVc_CAL_ok, CVc_CAL_bg_slice,
      CVc_TRIM_gain, CVc_TRIM_offset, SEQn_OVR_count, SEQn_STAT_queued, SEQn_STAT_running, SEQn_TRIG_TS_LO_ts, SEQn_TRIG_TS_HI_ts]) (evParts
    ++ [Part.inflight, Part.cvb])) ∧
    (∀ a q v, exec (.seqDisable a q v) s = .next t → Keeps s t (evFlds ++ [SYS_BUSERR_ADDR_addr, SEQn_CTL_nsteps, SEQn_CTL_policy, SEQn_CTL_en,
      CHn_BUDGET_lat_full, CHn_BUDGET_budget, SEQn_STAT_queued]) (evParts ++ [Part.ports, Part.cvb])) ∧
    (∀ t1, exec (.triggerTimerExpiry t1) s = .next t → Keeps s t (evFlds ++ [CVc_STAT_cur_input, CVc_STAT_state, CVc_CAL_bg_busy, CVc_CAL_ok,
      CVc_CAL_bg_slice, CVc_TRIM_gain, CVc_TRIM_offset, SEQn_OVR_count, SEQn_STAT_queued, SEQn_STAT_running, SEQn_TRIG_TS_LO_ts,
    SEQn_TRIG_TS_HI_ts]) (evParts ++ [Part.inflight, Part.cvb, Part.pos])) ∧
    (∀ p rising, exec (.adcTrigEdge p rising) s = .next t → Keeps s t (evFlds ++ [CVc_STAT_cur_input, CVc_STAT_state, CVc_CAL_bg_busy, CVc_CAL_ok,
      CVc_CAL_bg_slice, CVc_TRIM_gain, CVc_TRIM_offset, SEQn_OVR_count, SEQn_STAT_queued, SEQn_STAT_running, SEQn_TRIG_TS_LO_ts,
    SEQn_TRIG_TS_HI_ts]) (evParts ++ [Part.inflight, Part.cvb])) ∧
    (∀ a c k v, exec (.injectionStart a c k v) s = .next t → Keeps s t (evFlds ++ [SYS_BUSERR_ADDR_addr, CVc_INJk_start, CVc_INJk_urgent,
      CVc_INJk_shift, CVc_INJk_log2n, CVc_INJk_input, CVc_STAT_cur_input, CVc_STAT_state, CVc_CAL_full_busy, CVc_CAL_bg_busy, CVc_CAL_ok,
    CVc_CAL_bg_slice, CVc_TRIM_gain, CVc_TRIM_offset, CHn_BUDGET_lat_full, CHn_BUDGET_budget]) (evParts ++ [Part.ports, Part.inflight, Part.cvb])) ∧
    (∀ c k codes, exec (.injectionDone c k codes) s = .next t → Keeps s t (evFlds ++ [CHn_SLACK_MIN_slack_min, SYS_ECC_CE_count, SYS_ECC_INFO_ue_cnt,
      CVc_STAT_cur_input, CVc_CAL_bg_busy, CVc_CAL_ok, CVc_CAL_bg_slice, CVc_INJk_start, CVc_INJRk_flags, CVc_INJRk_new, CVc_INJRk_value,
    CVc_TRIM_gain, CVc_TRIM_offset, SEQn_OVR_count, SEQn_RESk_new, PIFn_ZSTAT_dev_cnt, PIFn_EDGE_quad_cnt, PIFn_EDGE_edge_fault_cnt,
      PIFn_SER_STAT_ovr_cnt, PIFn_SER_STAT_crc_err_cnt, CHn_CSTAT_per_clamp_cnt, CHn_CSTAT_mismatch_cnt, LEGk_STAT_drop_cnt, LEGk_STAT_stretch_cnt,
    LEGk_CSTAT_per_clamp_cnt, LEGk_CSTAT_mismatch_cnt, SPn_SPEC_REJ_swap, SPn_SPEC_REJ_sat, SPn_SPEC_REJ_innov, SPn_MISS_miss_cnt,
      SPn_OSC_STAT_osc_cnt, CHn_OCSTAT_cyc_cnt, PRT_LNKl_VMAX_vmax, PRT_LS_CNTp_mis_cnt, PRT_LS_CNTp_lat_cnt, PRT_LS_CNTp_par_cnt,
    PRT_LS_CNTp_test_cnt, PRT_CHUCK_STAT_resample, PRT_CHUCK_STAT_disagree, BDG_WDG_STATc_miss_cnt, TLS_CNT_miss_cnt, TLS_CNT_late_cnt,
      TLS_CNT_crc_err, TLS_ALIGN_err_max, FPL_STAT_rej, FPL_STAT_cpl_drop, FPL_EVT_STAT_ovf, FPL_SLOTST_e2e_cnt, QPq_CQ_tail, QPq_CQ_head,
    QPq_STAT_wexp_cnt, QPq_STAT_qfull_cnt, HLK_STAT_crc_err, HLK_STAT_abort, HLK_STAT_fast_rej, CANx_STAT_e2e_err, SETTp_CNT_overrun,
      SETTp_CNT_crc_err, SETTp_CNT_breaks, SETT_NODEe_STAT_miss_cnt, MTR_STAT_held, THM_MAX_max]) (evParts ++ [Part.sram, Part.ueKnown,
    Part.writebacks, Part.inflight, Part.ports, Part.cvb, Part.fpl, Part.net])) ∧
    (∀ a c, exec (.calFullRequest a c) s = .next t → Keeps s t (evFlds ++ [SYS_BUSERR_ADDR_addr, CVc_STAT_state, CVc_CAL_full, CHn_BUDGET_lat_full,
      CHn_BUDGET_budget]) (evParts ++ [Part.ports, Part.cvb])) ∧
    (∀ c, exec (.calFullStart c) s = .next t → Keeps s t (evFlds ++ [CVc_STAT_cur_input, CVc_STAT_state, CVc_CAL_full_busy]) (evParts
      ++ [Part.cvb])) ∧
    (∀ c offset gain, exec (.calEnd c offset gain) s = .next t → Keeps s t (evFlds ++ [CVc_STAT_cur_input, CVc_STAT_state, CVc_CAL_full_busy,
      CVc_CAL_ok, CVc_CAL_full, CVc_TRIM_gain, CVc_TRIM_offset]) (evParts ++ [Part.inflight, Part.cvb])) ∧
    (∀ c offset gain, exec (.bgcalSlice c offset gain) s = .next t → Keeps s t [CVc_CAL_bg_busy] [Part.cvb]) ∧
    (∀ c, exec (.bgcalStarved c) s = .next t → Keeps s t (evFlds ++ [CVc_CAL_bg_busy, CVc_CAL_bg_slice]) evParts) ∧
    (∀ c, exec (.cvPowerDown c) s = .next t → Keeps s t [CVc_STAT_state] [Part.cvb]) ∧
    (∀ c, exec (.cvShutdownDone c) s = .next t → Keeps s t [CVc_STAT_ref_ready, CVc_STAT_state] [Part.cvb]) ∧
    (∀ c, exec (.cvStartupDone c) s = .next t → Keeps s t (evFlds ++ [CVc_STAT_cur_input, CVc_STAT_state]) (evParts ++ [Part.cvb])) ∧
    (∀ c, exec (.refReady c) s = .next t → Keeps s t [CVc_STAT_ref_ready, CVc_STAT_state, CVc_CAL_full] [Part.cvb]) ∧
    (∀ c, exec (.idleScanVisit c) s = .next t → Keeps s t [CVc_STAT_cur_input] [Part.cvb]) ∧
    (∀ i codes, exec (.cmpAssert i codes) s = .next t → Keeps s t (evFlds ++ [CMPi_STAT_lo_sticky, CMPi_STAT_hi_sticky, CMPi_STAT_lo_out,
      CMPi_STAT_hi_out, FLT_LVL_itrip, FLT_LVL_flt]) (evParts ++ [Part.cvb, Part.gen])) ∧
    (∀ i codes, exec (.cmpDeassert i codes) s = .next t → Keeps s t (evFlds ++ [CMPi_STAT_lo_sticky, CMPi_STAT_hi_sticky, CMPi_STAT_lo_out,
      CMPi_STAT_hi_out, FLT_LVL_itrip, FLT_LVL_flt]) (evParts ++ [Part.cvb, Part.gen])) ∧
    (exec .owPeriodic s = .next t → Keeps s t [] [Part.cvb]) ∧
    (∀ i, exec (.owDwellEnd i) s = .next t → Keeps s t (evFlds ++ [CVc_STAT_cur_input]) (evParts ++ [Part.cvb])) ∧
    (∀ i plus minus, exec (.owTestDone i plus minus) s = .next t → Keeps s t (evFlds ++ [CHn_SLACK_MIN_slack_min, SYS_ECC_CE_count,
      SYS_ECC_INFO_ue_cnt, CVc_STAT_cur_input, CVc_INJRk_new, CMPi_STAT_ow, SEQn_OVR_count, SEQn_RESk_new, PIFn_ZSTAT_dev_cnt, PIFn_EDGE_quad_cnt,
    PIFn_EDGE_edge_fault_cnt, PIFn_SER_STAT_ovr_cnt, PIFn_SER_STAT_crc_err_cnt, CHn_CSTAT_per_clamp_cnt, CHn_CSTAT_mismatch_cnt, LEGk_STAT_drop_cnt,
      LEGk_STAT_stretch_cnt, LEGk_CSTAT_per_clamp_cnt, LEGk_CSTAT_mismatch_cnt, SPn_SPEC_REJ_swap, SPn_SPEC_REJ_sat, SPn_SPEC_REJ_innov,
    SPn_MISS_miss_cnt, SPn_OSC_STAT_osc_cnt, CHn_OCSTAT_cyc_cnt, PRT_LNKl_VMAX_vmax, PRT_LS_CNTp_mis_cnt, PRT_LS_CNTp_lat_cnt, PRT_LS_CNTp_par_cnt,
      PRT_LS_CNTp_test_cnt, PRT_CHUCK_STAT_resample, PRT_CHUCK_STAT_disagree, BDG_WDG_STATc_miss_cnt, TLS_CNT_miss_cnt, TLS_CNT_late_cnt,
    TLS_CNT_crc_err, TLS_ALIGN_err_max, FPL_STAT_rej, FPL_STAT_cpl_drop, FPL_EVT_STAT_ovf, FPL_SLOTST_e2e_cnt, QPq_CQ_tail, QPq_CQ_head,
      QPq_STAT_wexp_cnt, QPq_STAT_qfull_cnt, HLK_STAT_crc_err, HLK_STAT_abort, HLK_STAT_fast_rej, CANx_STAT_e2e_err, SETTp_CNT_overrun,
    SETTp_CNT_crc_err, SETTp_CNT_breaks, SETT_NODEe_STAT_miss_cnt, MTR_STAT_held, THM_MAX_max]) (evParts ++ [Part.sram, Part.ueKnown,
      Part.writebacks, Part.inflight, Part.ports, Part.cvb, Part.fpl, Part.net])) ∧
    (∀ n ap an bp bn zp zn, exec (.encEdge n ap an bp bn zp zn) s = .next t → Keeps s t (evFlds ++ [CVc_STAT_cur_input, CVc_STAT_state,
      CVc_CAL_bg_busy, CVc_CAL_ok, CVc_CAL_bg_slice, CVc_TRIM_gain, CVc_TRIM_offset, SEQn_OVR_count, SEQn_STAT_queued, SEQn_STAT_running,
    SEQn_TRIG_TS_LO_ts, SEQn_TRIG_TS_HI_ts, PIFn_EDGE_quad_cnt, PIFn_EDGE_noisy, PIFn_EDGE_edge_fault_cnt, PIFn_POS_count, PIFn_REVPOS_rev_pos,
      PIFn_SPD_speed, PIFn_ANGLE_angle, PIFn_STS_LO_ts, PIFn_STS_HI_ts, PIFn_STAT_pos_lost, PIFn_STAT_active, PIFn_STAT_dir, PIFn_STAT_spd_valid,
    PIFn_IRQ_fallback, PIFn_IRQ_fault, PIFn_IRQ_index, PIFn_IRQ_dir_chg, ENCO_STAT_lag]) (evParts ++ [Part.inflight, Part.cvb, Part.pos,
      Part.chuck])) ∧
    (∀ n line, exec (.delayedEdge n line) s = .next t → Keeps s t (evFlds ++ [CVc_STAT_cur_input, CVc_STAT_state, CVc_CAL_bg_busy, CVc_CAL_ok,
      CVc_CAL_bg_slice, CVc_TRIM_gain, CVc_TRIM_offset, SEQn_OVR_count, SEQn_STAT_queued, SEQn_STAT_running, SEQn_TRIG_TS_LO_ts, SEQn_TRIG_TS_HI_ts,
    PIFn_EDGE_quad_cnt, PIFn_POS_count, PIFn_REVPOS_rev_pos, PIFn_SPD_speed, PIFn_ANGLE_angle, PIFn_STS_LO_ts, PIFn_STS_HI_ts, PIFn_STAT_pos_lost,
      PIFn_STAT_active, PIFn_STAT_dir, PIFn_STAT_spd_valid, PIFn_FSTAT_sec_fault, PIFn_FSTAT_pri_fault, PIFn_FSTAT_hall_seq, PIFn_IRQ_fallback,
    PIFn_IRQ_fault, PIFn_IRQ_index, PIFn_IRQ_dir_chg, ENCO_STAT_lag]) (evParts ++ [Part.inflight, Part.cvb, Part.pos, Part.chuck])) ∧
    (∀ n, exec (.noisyInterval n) s = .next t → Keeps s t [] [Part.pos]) ∧
    (∀ n line, exec (.wireFault n line) s = .next t → Keeps s t (evFlds ++ [PIFn_EDGE_wire, PIFn_POS_count, PIFn_SPD_speed, PIFn_ANGLE_angle,
      PIFn_STS_LO_ts, PIFn_STS_HI_ts, PIFn_STAT_pos_lost, PIFn_STAT_active, PIFn_STAT_dir, PIFn_STAT_spd_valid, PIFn_FSTAT_sec_fault,
    PIFn_FSTAT_pri_fault, PIFn_FSTAT_wire, PIFn_IRQ_fallback, PIFn_IRQ_fault, PIFn_IRQ_index, PIFn_IRQ_dir_chg]) (evParts ++ [Part.inflight,
      Part.pos, Part.chuck])) ∧
    (∀ n, exec (.index n) s = .next t → Keeps s t (evFlds ++ [CVc_STAT_cur_input, CVc_STAT_state, CVc_CAL_bg_busy, CVc_CAL_ok, CVc_CAL_bg_slice,
      CVc_TRIM_gain, CVc_TRIM_offset, SEQn_OVR_count, SEQn_STAT_queued, SEQn_STAT_running, SEQn_TRIG_TS_LO_ts, SEQn_TRIG_TS_HI_ts,
    PIFn_ZSTAT_referenced, PIFn_ZSTAT_dev_cnt, PIFn_ZSTAT_z_dev, PIFn_POS_count, PIFn_REVPOS_rev_pos, PIFn_SPD_speed, PIFn_ANGLE_angle,
      PIFn_STS_LO_ts, PIFn_STS_HI_ts, PIFn_STAT_pos_lost, PIFn_STAT_active, PIFn_STAT_dir, PIFn_STAT_spd_valid, PIFn_FSTAT_sec_fault,
    PIFn_FSTAT_pri_fault, PIFn_FSTAT_z_limit, PIFn_IRQ_fallback, PIFn_IRQ_fault, PIFn_IRQ_index, PIFn_IRQ_dir_chg]) (evParts ++ [Part.inflight,
      Part.cvb, Part.pos, Part.chuck])) ∧
    (∀ n, exec (.zMissing n) s = .next t → Keeps s t (evFlds ++ [PIFn_POS_count, PIFn_SPD_speed, PIFn_ANGLE_angle, PIFn_STS_LO_ts, PIFn_STS_HI_ts,
      PIFn_STAT_pos_lost, PIFn_STAT_active, PIFn_STAT_dir, PIFn_STAT_spd_valid, PIFn_FSTAT_sec_fault, PIFn_FSTAT_pri_fault, PIFn_FSTAT_z_missing,
    PIFn_IRQ_fallback, PIFn_IRQ_fault, PIFn_IRQ_index, PIFn_IRQ_dir_chg]) (evParts ++ [Part.inflight, Part.pos, Part.chuck])) ∧
    (∀ n u v w, exec (.hallEdge n u v w) s = .next t → Keeps s t (evFlds ++ [CVc_STAT_cur_input, CVc_STAT_state, CVc_CAL_bg_busy, CVc_CAL_ok,
      CVc_CAL_bg_slice, CVc_TRIM_gain, CVc_TRIM_offset, SEQn_OVR_count, SEQn_STAT_queued, SEQn_STAT_running, SEQn_TRIG_TS_LO_ts, SEQn_TRIG_TS_HI_ts,
    PIFn_EDGE_noisy, PIFn_EDGE_edge_fault_cnt, PIFn_POS_count, PIFn_SPD_speed, PIFn_ANGLE_angle, PIFn_STS_LO_ts, PIFn_STS_HI_ts, PIFn_STAT_pos_lost,
      PIFn_STAT_active, PIFn_STAT_dir, PIFn_STAT_spd_valid, PIFn_FSTAT_sec_fault, PIFn_FSTAT_pri_fault, PIFn_FSTAT_hall_seq, PIFn_IRQ_fallback,
    PIFn_IRQ_fault, PIFn_IRQ_index, PIFn_IRQ_dir_chg, ENCO_STAT_lag]) (evParts ++ [Part.inflight, Part.cvb, Part.pos, Part.chuck])) ∧
    (∀ n, exec (.hallInvalid n) s = .next t → Keeps s t (evFlds ++ [PIFn_POS_count, PIFn_SPD_speed, PIFn_ANGLE_angle, PIFn_STS_LO_ts, PIFn_STS_HI_ts,
      PIFn_STAT_pos_lost, PIFn_STAT_active, PIFn_STAT_dir, PIFn_STAT_spd_valid, PIFn_FSTAT_sec_fault, PIFn_FSTAT_pri_fault, PIFn_FSTAT_hall_invalid,
    PIFn_IRQ_fallback, PIFn_IRQ_fault, PIFn_IRQ_index, PIFn_IRQ_dir_chg]) (evParts ++ [Part.inflight, Part.pos, Part.chuck])) ∧
    (∀ n sin cos due, exec (.rsvSample n sin cos due) s = .next t → Keeps s t (evFlds ++ [CVc_STAT_cur_input, CVc_STAT_state, CVc_CAL_bg_busy,
      CVc_CAL_ok, CVc_CAL_bg_slice, CVc_TRIM_gain, CVc_TRIM_offset, SEQn_OVR_count, SEQn_STAT_queued, SEQn_STAT_running, SEQn_TRIG_TS_LO_ts,
    SEQn_TRIG_TS_HI_ts, PIFn_POS_count, PIFn_SPD_speed, PIFn_ANGLE_angle, PIFn_STS_LO_ts, PIFn_STS_HI_ts, PIFn_STAT_pos_lost, PIFn_STAT_active,
      PIFn_STAT_dir, PIFn_STAT_spd_valid, PIFn_FSTAT_sec_fault, PIFn_FSTAT_pri_fault, PIFn_FSTAT_rsv_amp, PIFn_FSTAT_rsv_gap, PIFn_IRQ_fallback,
    PIFn_IRQ_fault, PIFn_IRQ_index, PIFn_IRQ_dir_chg, ENCO_STAT_lag]) (evParts ++ [Part.inflight, Part.cvb, Part.pos, Part.chuck])) ∧
    (∀ n slo, exec (.serFrameStart n slo) s = .next t → Keeps s t (evFlds ++ [PIFn_POS_count, PIFn_SPD_speed, PIFn_ANGLE_angle, PIFn_STS_LO_ts,
      PIFn_STS_HI_ts, PIFn_STAT_pos_lost, PIFn_STAT_active, PIFn_STAT_dir, PIFn_STAT_spd_valid, PIFn_FSTAT_sec_fault, PIFn_FSTAT_pri_fault,
    PIFn_FSTAT_ser_err, PIFn_SER_STAT_ovr_cnt, PIFn_SER_STAT_crc_err_cnt, PIFn_IRQ_fallback, PIFn_IRQ_fault, PIFn_IRQ_index,
      PIFn_IRQ_dir_chg]) (evParts ++ [Part.inflight, Part.pos, Part.chuck])) ∧
    (∀ n bits delay, exec (.serFrameEnd n bits delay) s = .next t → Keeps s t (evFlds ++ [CVc_STAT_cur_input, CVc_STAT_state, CVc_CAL_bg_busy,
      CVc_CAL_ok, CVc_CAL_bg_slice, CVc_TRIM_gain, CVc_TRIM_offset, SEQn_OVR_count, SEQn_STAT_queued, SEQn_STAT_running, SEQn_TRIG_TS_LO_ts,
    SEQn_TRIG_TS_HI_ts, PIFn_POS_count, PIFn_SPD_speed, PIFn_ANGLE_angle, PIFn_STS_LO_ts, PIFn_STS_HI_ts, PIFn_STAT_pos_lost, PIFn_STAT_active,
      PIFn_STAT_dir, PIFn_STAT_spd_valid, PIFn_FSTAT_ser_warn, PIFn_FSTAT_sec_fault, PIFn_FSTAT_pri_fault, PIFn_FSTAT_ser_err,
    PIFn_SER_STAT_crc_err_cnt, PIFn_SER_STAT_line_dly, PIFn_IRQ_fallback, PIFn_IRQ_fault, PIFn_IRQ_index, PIFn_IRQ_dir_chg,
      ENCO_STAT_lag]) (evParts ++ [Part.inflight, Part.cvb, Part.pos, Part.chuck])) ∧
    (∀ n, exec (.serTimeout n) s = .next t → Keeps s t (evFlds ++ [PIFn_POS_count, PIFn_SPD_speed, PIFn_ANGLE_angle, PIFn_STS_LO_ts, PIFn_STS_HI_ts,
      PIFn_STAT_pos_lost, PIFn_STAT_active, PIFn_STAT_dir, PIFn_STAT_spd_valid, PIFn_FSTAT_sec_fault, PIFn_FSTAT_pri_fault, PIFn_FSTAT_ser_err,
    PIFn_SER_STAT_crc_err_cnt, PIFn_IRQ_fallback, PIFn_IRQ_fault, PIFn_IRQ_index, PIFn_IRQ_dir_chg]) (evParts ++ [Part.inflight, Part.pos,
      Part.chuck])) ∧
    (∀ n, exec (.spdTimeout n) s = .next t → Keeps s t [PIFn_POS_count, PIFn_SPD_speed, PIFn_STAT_dir, PIFn_STAT_spd_valid] [Part.pos]) ∧
    (∀ n, exec (.periodLatch n) s = .next t → Keeps s t (evFlds ++ legFlds ++ [PIFn_CTL_src_restore, PIFn_POS_count, PIFn_SPD_speed,
      PIFn_ANGLE_angle, PIFn_STS_LO_ts, PIFn_STS_HI_ts, PIFn_STAT_pos_lost, PIFn_STAT_active, PIFn_STAT_dir, PIFn_STAT_spd_valid,
    PIFn_FSTAT_sec_fault, PIFn_FSTAT_pri_fault, PIFn_FSTAT_frozen_sec, PIFn_FSTAT_frozen_pri, PIFn_IRQ_fallback, PIFn_IRQ_fault, PIFn_IRQ_index,
      PIFn_IRQ_dir_chg, CHn_STATE_sel, CHn_STATE_pat, CHn_STATE_held, CHn_STATE_ss, CHn_SEL_THR_thr, PRT_LNKl_STAT_chop]) (evParts ++ [Part.inflight,
    Part.pos, Part.gen, Part.chans, Part.links, Part.chuck])) ∧
    (∀ a n v, exec (.srcRestore a n v) s = .next t → Keeps s t (evFlds ++ [SYS_BUSERR_ADDR_addr, PIFn_CTL_dir_inv, PIFn_CTL_trig_sel,
      PIFn_CTL_src_restore, PIFn_CTL_fb_en, PIFn_CTL_z_corr, PIFn_CTL_z_en, PIFn_CTL_sec_src, PIFn_CTL_pri_src, PIFn_CTL_en,
    PIFn_STAT_active]) (evParts ++ [Part.ports, Part.pos])) ∧
    (∀ c p, exec (.posHome c p) s = .next t → Keeps s t (evFlds ++ [FPL_STAT_cpl_drop, QPq_CQ_tail, QPq_CQ_head]) (evParts ++ [Part.sram,
      Part.ueKnown, Part.writebacks, Part.pos, Part.fpl, Part.net])) ∧
    (∀ c p, exec (.posSet c p) s = .next t → Keeps s t (evFlds ++ [PIFn_ZSTAT_referenced, PIFn_POS_count, PIFn_REVPOS_rev_pos, PIFn_SPD_speed,
      PIFn_STAT_dir, PIFn_STAT_spd_valid, FPL_STAT_cpl_drop, QPq_CQ_tail, QPq_CQ_head]) (evParts ++ [Part.sram, Part.ueKnown, Part.writebacks,
    Part.pos, Part.fpl, Part.net]))

/-- The frames of the commands of carriers, legs, fault inputs and spindles. -/
def Obligations.FramesLegsAndSpindles : Prop :=
  ∀ s t : State, s.wf = true →
    (∀ a r v, exec (.carrierEnable a r v) s = .next t → Keeps s t (evFlds ++ legFlds ++ [SYS_BUSERR_ADDR_addr, CHn_CARR_phase, CHn_CARR_sync,
      CHn_CARR_rl, CHn_CARR_mode, CHn_CARR_en, LEGk_CARR_phase, LEGk_CARR_sync_ch, LEGk_CARR_sync, LEGk_CARR_rl, LEGk_CARR_dmode, LEGk_CARR_mode,
    LEGk_CARR_src, LEGk_CARR_en, SYS_PROFILE_pending, CHn_CSTAT_pend, CHn_CSTAT_running, LEGk_CSTAT_pend, LEGk_CSTAT_running, PRT_LNKl_STAT_chop,
      CHn_BUDGET_lat_full, CHn_BUDGET_budget]) (evParts ++ [Part.ports, Part.gen, Part.chans, Part.links])) ∧
    (∀ r, exec (.carrierSyncStart r) s = .next t → Keeps s t [CHn_CSTAT_running, LEGk_CSTAT_running] [Part.gen]) ∧
    (∀ a r v, exec (.carrierDisable a r v) s = .next t → Keeps s t (evFlds ++ legFlds ++ [SYS_BUSERR_ADDR_addr, CHn_CARR_phase, CHn_CARR_sync,
      CHn_CARR_rl, CHn_CARR_mode, CHn_CARR_en, LEGk_CARR_phase, LEGk_CARR_sync_ch, LEGk_CARR_sync, LEGk_CARR_rl, LEGk_CARR_dmode, LEGk_CARR_mode,
    LEGk_CARR_src, LEGk_CARR_en, SYS_PROFILE_pending, CHn_CSTAT_pend, CHn_CSTAT_running, LEGk_CSTAT_pend, LEGk_CSTAT_running, PRT_LNKl_STAT_chop,
      CHn_BUDGET_lat_full, CHn_BUDGET_budget]) (evParts ++ [Part.ports, Part.gen, Part.chans, Part.links])) ∧
    (∀ r, exec (.carrierZero r) s = .next t → Keeps s t (evFlds ++ legFlds ++ stateFlds ++ [CVc_STAT_cur_input, CVc_STAT_state, CVc_CAL_bg_busy,
      CVc_CAL_ok, CVc_CAL_bg_slice, CVc_TRIM_gain, CVc_TRIM_offset, SEQn_OVR_count, SEQn_STAT_queued, SEQn_STAT_running, SEQn_TRIG_TS_LO_ts,
    SEQn_TRIG_TS_HI_ts, CHn_GEN_act_gen, CHn_CSTAT_per_clamp_cnt, CHn_CSTAT_mismatch_cnt, CHn_CSTAT_half, CHn_CSTAT_pend, CHn_CSTAT_mismatch,
      CHn_CSTAT_per_clamp, CHn_PERLAST_per, LEGk_STAT_drop_cnt, LEGk_STAT_stretch_cnt, LEGk_GEN_act_gen, LEGk_CSTAT_per_clamp_cnt,
    LEGk_CSTAT_mismatch_cnt, LEGk_CSTAT_half, LEGk_CSTAT_mismatch, LEGk_CSTAT_per_clamp, LEGk_PERLAST_per, SPn_FLD_STAT_task, SPn_FLD_STAT_engine,
      CHn_STATE_cause, CHn_STATE_sel, CHn_SEL_THR_thr, CHn_OCSTAT_cyc_cnt, CHn_OCSTAT_cut_now, CHn_OCSTAT_oc_trip, CHn_OCSTAT_cyc_run,
    PRT_LNKl_STAT_lstate, PRT_LNKl_STAT_chop, TLS_STAT_nr_cause, TLS_STAT_ready]) (evParts ++ [Part.inflight, Part.cvb, Part.gen, Part.chans,
      Part.sps, Part.links, Part.tls])) ∧
    (∀ r, exec (.carrierPeak r) s = .next t → Keeps s t (evFlds ++ legFlds ++ [CVc_STAT_cur_input, CVc_STAT_state, CVc_CAL_bg_busy, CVc_CAL_ok,
      CVc_CAL_bg_slice, CVc_TRIM_gain, CVc_TRIM_offset, SEQn_OVR_count, SEQn_STAT_queued, SEQn_STAT_running, SEQn_TRIG_TS_LO_ts, SEQn_TRIG_TS_HI_ts,
    CHn_GEN_act_gen, CHn_CSTAT_per_clamp_cnt, CHn_CSTAT_mismatch_cnt, CHn_CSTAT_half, CHn_CSTAT_mismatch, CHn_CSTAT_per_clamp, CHn_PERLAST_per,
      LEGk_STAT_drop_cnt, LEGk_STAT_stretch_cnt, LEGk_GEN_act_gen, LEGk_CSTAT_per_clamp_cnt, LEGk_CSTAT_mismatch_cnt, LEGk_CSTAT_half,
    LEGk_CSTAT_mismatch, LEGk_CSTAT_per_clamp, LEGk_PERLAST_per, PRT_LNKl_STAT_chop]) (evParts ++ [Part.inflight, Part.cvb, Part.gen, Part.links])) ∧
    (∀ r, exec (.cotEndEvent r) s = .next t → Keeps s t (evFlds ++ legFlds ++ stateFlds ++ [CHn_BUDGET_lat_full, CHn_BUDGET_budget,
      SYS_PROFILE_pending, SPn_SAT_first_period, SPn_SAT_first_stage, SPn_SAT_modulate, SPn_SAT_limit, SPn_SAT_control, SPn_SAT_correct,
    SPn_SAT_predict, SPn_SAT_transform, CVc_STAT_cur_input, CVc_STAT_state, CVc_CAL_bg_busy, CVc_CAL_ok, CVc_CAL_bg_slice, CVc_TRIM_gain,
      CVc_TRIM_offset, SEQn_OVR_count, SEQn_STAT_queued, SEQn_STAT_running, SEQn_TRIG_TS_LO_ts, SEQn_TRIG_TS_HI_ts, PIFn_POS_count,
    PIFn_REVPOS_rev_pos, PIFn_SPD_speed, PIFn_STAT_dir, PIFn_STAT_spd_valid, CHn_GEN_act_gen, CHn_CSTAT_per_clamp_cnt, CHn_CSTAT_mismatch_cnt,
      CHn_CSTAT_half, CHn_CSTAT_pend, CHn_CSTAT_mismatch, CHn_CSTAT_per_clamp, CHn_PERLAST_per, LEGk_STAT_drop_cnt, LEGk_STAT_stretch_cnt,
    LEGk_GEN_act_gen, LEGk_CSTAT_per_clamp_cnt, LEGk_CSTAT_mismatch_cnt, LEGk_CSTAT_half, LEGk_CSTAT_pend, LEGk_CSTAT_mismatch, LEGk_CSTAT_per_clamp,
      LEGk_PERLAST_per, LEG_OGATE_standby, SPn_CTL_spec, SPn_STEP_step_inact, SPn_STEP_step_act, SPn_BANK_int_frz, SPn_BANK_fb, SPn_BANK_swap,
    SPn_BANK_active, SPn_FBSTAT_hold_left, SPn_FBSTAT_expired, SPn_FBSTAT_hold, SPn_FBSTAT_absent, SPn_FBSTAT_lost, SPn_MISS_miss_cnt,
      SPn_MISS_miss_now, SPn_OSC_STAT_last_cnt, SPn_PG_STAT_busy, SPn_FLD_STAT_rec_cnt, SPn_FLD_STAT_ovm_active, SPn_FLD_STAT_fw_active,
    SPn_FLD_STAT_obs_valid, SPn_FLD_STAT_task, SPn_FLD_STAT_engine, SPn_ANG_M_angle, SPn_ANG_U_angle, SPn_OBS_ANG_angle, SPn_OBS_SPD_speed,
      SPn_FW_ID_id_fw, SPn_KE_EST_psi_f, SPn_GRID_F_freq, SPn_TLIM_EFF_i_lim, SPn_TLIM_EFF_t_lim, CHn_STATE_cause, CHn_STATE_sel,
    CHn_STATE_motoring_only, CHn_SEL_THR_thr, CHn_OCSTAT_cyc_run, PRT_LNKl_STAT_lstate, PRT_LNKl_STAT_chop, TLS_STAT_nr_cause, TLS_STAT_aligned,
      TLS_STAT_ready, TLS_STAT_role, TLS_CNT_miss_cnt, TLS_CNT_late_cnt, CHn_PERIOD_CNT_count]) (evParts ++ [Part.free, Part.latheWords,
    Part.ueKnown, Part.writebacks, Part.inflight, Part.cvb, Part.pos, Part.gen, Part.chans, Part.sps, Part.links, Part.bdg, Part.tls, Part.net,
      Part.setts])) ∧
    (∀ r, exec (.cotPerMin r) s = .next t → Keeps s t (evFlds ++ legFlds ++ stateFlds ++ [CHn_BUDGET_lat_full, CHn_BUDGET_budget,
      SYS_PROFILE_pending, SPn_SAT_first_period, SPn_SAT_first_stage, SPn_SAT_modulate, SPn_SAT_limit, SPn_SAT_control, SPn_SAT_correct,
    SPn_SAT_predict, SPn_SAT_transform, CVc_STAT_cur_input, CVc_STAT_state, CVc_CAL_bg_busy, CVc_CAL_ok, CVc_CAL_bg_slice, CVc_TRIM_gain,
      CVc_TRIM_offset, SEQn_OVR_count, SEQn_STAT_queued, SEQn_STAT_running, SEQn_TRIG_TS_LO_ts, SEQn_TRIG_TS_HI_ts, PIFn_POS_count,
    PIFn_REVPOS_rev_pos, PIFn_SPD_speed, PIFn_STAT_dir, PIFn_STAT_spd_valid, CHn_GEN_act_gen, CHn_CSTAT_per_clamp_cnt, CHn_CSTAT_mismatch_cnt,
      CHn_CSTAT_half, CHn_CSTAT_pend, CHn_CSTAT_mismatch, CHn_CSTAT_per_clamp, CHn_PERLAST_per, LEGk_STAT_drop_cnt, LEGk_STAT_stretch_cnt,
    LEGk_GEN_act_gen, LEGk_CSTAT_per_clamp_cnt, LEGk_CSTAT_mismatch_cnt, LEGk_CSTAT_half, LEGk_CSTAT_pend, LEGk_CSTAT_mismatch, LEGk_CSTAT_per_clamp,
      LEGk_PERLAST_per, LEG_OGATE_standby, SPn_CTL_spec, SPn_STEP_step_inact, SPn_STEP_step_act, SPn_BANK_int_frz, SPn_BANK_fb, SPn_BANK_swap,
    SPn_BANK_active, SPn_FBSTAT_hold_left, SPn_FBSTAT_expired, SPn_FBSTAT_hold, SPn_FBSTAT_absent, SPn_FBSTAT_lost, SPn_MISS_miss_cnt,
      SPn_MISS_miss_now, SPn_OSC_STAT_last_cnt, SPn_PG_STAT_busy, SPn_FLD_STAT_rec_cnt, SPn_FLD_STAT_ovm_active, SPn_FLD_STAT_fw_active,
    SPn_FLD_STAT_obs_valid, SPn_FLD_STAT_task, SPn_FLD_STAT_engine, SPn_ANG_M_angle, SPn_ANG_U_angle, SPn_OBS_ANG_angle, SPn_OBS_SPD_speed,
      SPn_FW_ID_id_fw, SPn_KE_EST_psi_f, SPn_GRID_F_freq, SPn_TLIM_EFF_i_lim, SPn_TLIM_EFF_t_lim, CHn_STATE_cause, CHn_STATE_sel,
    CHn_STATE_motoring_only, CHn_SEL_THR_thr, CHn_OCSTAT_cyc_run, PRT_LNKl_STAT_lstate, PRT_LNKl_STAT_chop, TLS_STAT_nr_cause, TLS_STAT_aligned,
      TLS_STAT_ready, TLS_STAT_role, TLS_CNT_miss_cnt, TLS_CNT_late_cnt, CHn_PERIOD_CNT_count]) (evParts ++ [Part.free, Part.latheWords,
    Part.ueKnown, Part.writebacks, Part.inflight, Part.cvb, Part.pos, Part.gen, Part.chans, Part.sps, Part.links, Part.bdg, Part.tls, Part.net,
      Part.setts])) ∧
    (∀ r, exec (.cotPermax r) s = .next t → Keeps s t (evFlds ++ legFlds ++ stateFlds ++ [CHn_BUDGET_lat_full, CHn_BUDGET_budget,
      SYS_PROFILE_pending, SPn_SAT_first_period, SPn_SAT_first_stage, SPn_SAT_modulate, SPn_SAT_limit, SPn_SAT_control, SPn_SAT_correct,
    SPn_SAT_predict, SPn_SAT_transform, CVc_STAT_cur_input, CVc_STAT_state, CVc_CAL_bg_busy, CVc_CAL_ok, CVc_CAL_bg_slice, CVc_TRIM_gain,
      CVc_TRIM_offset, SEQn_OVR_count, SEQn_STAT_queued, SEQn_STAT_running, SEQn_TRIG_TS_LO_ts, SEQn_TRIG_TS_HI_ts, PIFn_POS_count,
    PIFn_REVPOS_rev_pos, PIFn_SPD_speed, PIFn_STAT_dir, PIFn_STAT_spd_valid, CHn_GEN_act_gen, CHn_CSTAT_per_clamp_cnt, CHn_CSTAT_mismatch_cnt,
      CHn_CSTAT_permax, CHn_CSTAT_half, CHn_CSTAT_pend, CHn_CSTAT_mismatch, CHn_CSTAT_per_clamp, CHn_PERLAST_per, LEGk_STAT_drop_cnt,
    LEGk_STAT_stretch_cnt, LEGk_GEN_act_gen, LEGk_CSTAT_per_clamp_cnt, LEGk_CSTAT_mismatch_cnt, LEGk_CSTAT_permax, LEGk_CSTAT_half, LEGk_CSTAT_pend,
      LEGk_CSTAT_mismatch, LEGk_CSTAT_per_clamp, LEGk_PERLAST_per, LEG_OGATE_standby, SPn_CTL_spec, SPn_STEP_step_inact, SPn_STEP_step_act,
    SPn_BANK_int_frz, SPn_BANK_fb, SPn_BANK_swap, SPn_BANK_active, SPn_FBSTAT_hold_left, SPn_FBSTAT_expired, SPn_FBSTAT_hold, SPn_FBSTAT_absent,
      SPn_FBSTAT_lost, SPn_MISS_miss_cnt, SPn_MISS_miss_now, SPn_OSC_STAT_last_cnt, SPn_PG_STAT_busy, SPn_FLD_STAT_rec_cnt, SPn_FLD_STAT_ovm_active,
    SPn_FLD_STAT_fw_active, SPn_FLD_STAT_obs_valid, SPn_FLD_STAT_task, SPn_FLD_STAT_engine, SPn_ANG_M_angle, SPn_ANG_U_angle, SPn_OBS_ANG_angle,
      SPn_OBS_SPD_speed, SPn_FW_ID_id_fw, SPn_KE_EST_psi_f, SPn_GRID_F_freq, SPn_TLIM_EFF_i_lim, SPn_TLIM_EFF_t_lim, CHn_STATE_cause, CHn_STATE_sel,
    CHn_STATE_motoring_only, CHn_SEL_THR_thr, CHn_OCSTAT_cyc_run, PRT_LNKl_STAT_lstate, PRT_LNKl_STAT_chop, TLS_STAT_nr_cause, TLS_STAT_aligned,
      TLS_STAT_ready, TLS_STAT_role, TLS_CNT_miss_cnt, TLS_CNT_late_cnt, CHn_PERIOD_CNT_count]) (evParts ++ [Part.free, Part.latheWords,
    Part.ueKnown, Part.writebacks, Part.inflight, Part.cvb, Part.pos, Part.gen, Part.chans, Part.sps, Part.links, Part.bdg, Part.tls, Part.net,
      Part.setts])) ∧
    (∀ code, exec (.dlCal code) s = .next t → Keeps s t (evFlds ++ [LEG_DLCAL_fail, LEG_DLCAL_prev, LEG_DLCAL_code]) (evParts ++ [Part.inflight,
      Part.gen])) ∧
    (∀ a n v, exec (.commitWrite a n v) s = .next t → Keeps s t (evFlds ++ legFlds ++ stateFlds ++ [SYS_BUSERR_ADDR_addr, CHn_COMMIT_go,
      CHn_COMMIT_gen, CHn_DLSTAT_late, CHn_DLSTAT_consec, CHn_SLACK_slack_last, CHn_SLACK_MIN_slack_min, CHn_GEN_pend_gen, CHn_CSTAT_pend,
    LEGk_GEN_pend_gen, LEGk_CSTAT_pend, LEG_OGATE_replay, SPn_FLD_STAT_task, SPn_FLD_STAT_engine, CHn_OCSTAT_cyc_run, PRT_LNKl_STAT_chop,
      OWL_RP_STAT_result, OWL_RP_STAT_running, OWL_RP_STAT_div_cnt, OWL_RP_DIV_PER_period, OWL_RP_DIV_WORD_kind, OWL_RP_DIV_WORD_ch,
    OWL_RP_DIV_WORD_idx, CHn_BUDGET_lat_full, CHn_BUDGET_budget]) (evParts ++ [Part.ports, Part.gen, Part.chans, Part.sps, Part.links, Part.tls])) ∧
    (∀ a l v, exec (.legCommit a l v) s = .next t → Keeps s t (evFlds ++ [SYS_BUSERR_ADDR_addr, LEGk_COMMIT_go, LEGk_COMMIT_gen, CHn_GEN_pend_gen,
      CHn_CSTAT_pend, LEGk_GEN_pend_gen, LEGk_CSTAT_pend]) (evParts ++ [Part.ports, Part.gen])) ∧
    (∀ j lvl, exec (.faultInputActive j lvl) s = .next t → Keeps s t (evFlds ++ legFlds ++ [FLT_STAT_itrip, FLT_STAT_flt, CHn_SEL_THR_thr,
      CHn_OCSTAT_cut_now, CHn_OCSTAT_oc_trip, PRT_LNKl_STAT_chop]) (evParts ++ [Part.inflight, Part.gen, Part.chans, Part.links])) ∧
    (∀ j lvl, exec (.faultInputInactive j lvl) s = .next t → Keeps s t [FLT_LVL_itrip, FLT_LVL_flt] [Part.gen]) ∧
    (∀ m, exec (.itripActive m) s = .next t → Keeps s t (evFlds ++ legFlds ++ [FLT_STAT_itrip, FLT_STAT_flt, CHn_SEL_THR_thr, CHn_OCSTAT_cut_now,
      CHn_OCSTAT_oc_trip, PRT_LNKl_STAT_chop]) (evParts ++ [Part.inflight, Part.gen, Part.chans, Part.links])) ∧
    (∀ m, exec (.blankEnd m) s = .next t → Keeps s t (evFlds ++ legFlds ++ [FLT_STAT_itrip, FLT_STAT_flt, CHn_SEL_THR_thr, CHn_OCSTAT_cut_now,
      CHn_OCSTAT_oc_trip, PRT_LNKl_STAT_chop]) (evParts ++ [Part.inflight, Part.gen, Part.chans, Part.links])) ∧
    (∀ a v, exec (.fltLatchClear a v) s = .next t → Keeps s t (evFlds ++ legFlds ++ [SYS_BUSERR_ADDR_addr, FLT_STAT_itrip, FLT_STAT_flt,
      CHn_SEL_THR_thr, PRT_LNKl_STAT_chop]) (evParts ++ [Part.ports, Part.gen, Part.links])) ∧
    (∀ cause, exec (.outputGateHold cause) s = .next t → Keeps s t (evFlds ++ legFlds ++ [LEG_OGATE_selftest, LEG_OGATE_replay, LEG_OGATE_standby,
      LEG_OGATE_reset, PRT_LNKl_STAT_chop]) (evParts ++ [Part.gen, Part.links])) ∧
    (∀ cause, exec (.outputGateRelease cause) s = .next t → Keeps s t (evFlds ++ legFlds ++ [LEG_OGATE_selftest, LEG_OGATE_replay, LEG_OGATE_standby,
      LEG_OGATE_reset, PRT_LNKl_STAT_chop]) (evParts ++ [Part.gen, Part.links])) ∧
    (∀ k high, exec (.deadTimeEnd k high) s = .next t → Keeps s t (evFlds ++ [LEGk_STAT_gl, LEGk_STAT_gh, FLT_LVL_itrip, FLT_LVL_flt,
      PRT_LNKl_STAT_chop]) (evParts ++ [Part.gen, Part.links])) ∧
    (∀ n what, exec (.measLanding n what) s = .next t → Keeps s t (evFlds ++ [SPn_SAT_first_period, SPn_SAT_first_stage, SPn_SAT_modulate,
      SPn_SAT_limit, SPn_SAT_control, SPn_SAT_correct, SPn_SAT_predict, SPn_SAT_transform]) (evParts ++ [Part.sps, Part.landing])) ∧
    (∀ n errs, exec (.speculation n errs) s = .next t → Keeps s t (evFlds ++ [SPn_SAT_first_period, SPn_SAT_first_stage, SPn_SAT_modulate,
      SPn_SAT_limit, SPn_SAT_control, SPn_SAT_correct, SPn_SAT_predict, SPn_SAT_transform, SYS_ECC_CE_count, SYS_ECC_LAST_addr,
    SYS_ECC_INFO_initiator, SYS_ECC_INFO_region, SYS_ECC_INFO_ue_cnt, SPn_ANG_M_angle, SPn_ANG_U_angle]) (evParts ++ [Part.free, Part.ueKnown,
      Part.writebacks, Part.inflight, Part.sps])) ∧
    (∀ n, exec (.specDone n) s = .next t → Keeps s t [] [Part.sps]) ∧
    (∀ n, exec (.fastPath n) s = .next t → Keeps s t (evFlds ++ legFlds ++ stateFlds ++ [SPn_SAT_first_period, SPn_SAT_first_stage, SPn_SAT_modulate,
      SPn_SAT_limit, SPn_SAT_control, SPn_SAT_correct, SPn_SAT_predict, SPn_SAT_transform, SPn_BANK_int_frz, SPn_SPEC_ACC_count, SPn_SPEC_REJ_swap,
    SPn_SPEC_REJ_sat, SPn_SPEC_REJ_innov, SPn_SPEC_LAST_period, SPn_SPEC_LAST_meas, SPn_SPEC_LAST_cause, SPn_FBSTAT_hold_left, SPn_FBSTAT_expired,
      SPn_FBSTAT_hold, SPn_FBSTAT_lost, SPn_MISS_miss_cnt, SPn_MISS_miss_now, SPn_OSC_STAT_last_cnt, SPn_FLD_STAT_ovm_active, SPn_FLD_STAT_fw_active,
    SPn_FLD_STAT_obs_valid, SPn_FLD_STAT_task, SPn_FLD_STAT_engine, SPn_OBS_ANG_angle, SPn_OBS_SPD_speed, SPn_FW_ID_id_fw, SPn_KE_EST_psi_f,
      SPn_GRID_F_freq, CHn_STATE_cause, CHn_OCSTAT_cyc_run, PRT_LNKl_STAT_chop]) (evParts ++ [Part.latheWords, Part.ueKnown, Part.writebacks,
    Part.inflight, Part.gen, Part.chans, Part.sps, Part.links])) ∧
    (∀ n errs, exec (.fullEvalDone n errs) s = .next t → Keeps s t (evFlds ++ legFlds ++ stateFlds ++ [SPn_SAT_first_period, SPn_SAT_first_stage,
      SPn_SAT_modulate, SPn_SAT_limit, SPn_SAT_control, SPn_SAT_correct, SPn_SAT_predict, SPn_SAT_transform, SYS_ECC_CE_count, SYS_ECC_LAST_addr,
    SYS_ECC_INFO_initiator, SYS_ECC_INFO_region, SYS_ECC_INFO_ue_cnt, SPn_BANK_int_frz, SPn_FBSTAT_hold_left, SPn_FBSTAT_expired, SPn_FBSTAT_hold,
      SPn_FBSTAT_lost, SPn_MISS_miss_cnt, SPn_MISS_miss_now, SPn_OSC_STAT_last_cnt, SPn_FLD_STAT_ovm_active, SPn_FLD_STAT_fw_active,
    SPn_FLD_STAT_obs_valid, SPn_FLD_STAT_task, SPn_FLD_STAT_engine, SPn_ANG_M_angle, SPn_ANG_U_angle, SPn_OBS_ANG_angle, SPn_OBS_SPD_speed,
      SPn_FW_ID_id_fw, SPn_KE_EST_psi_f, SPn_GRID_F_freq, CHn_STATE_cause, CHn_OCSTAT_cyc_run, PRT_LNKl_STAT_chop]) (evParts ++ [Part.free,
    Part.latheWords, Part.ueKnown, Part.writebacks, Part.inflight, Part.gen, Part.chans, Part.sps, Part.links])) ∧
    (∀ n, exec (.waitLimit n) s = .next t → Keeps s t (evFlds ++ legFlds ++ stateFlds ++ [SPn_FBSTAT_hold_left, SPn_FBSTAT_expired, SPn_FBSTAT_hold,
      SPn_FBSTAT_lost, SPn_MISS_miss_cnt, SPn_MISS_miss_now, SPn_FLD_STAT_task, SPn_FLD_STAT_engine, CHn_STATE_cause, CHn_OCSTAT_cyc_run,
    PRT_LNKl_STAT_chop]) (evParts ++ [Part.inflight, Part.gen, Part.chans, Part.sps, Part.links])) ∧
    (∀ n, exec (.fbHoldExpired n) s = .next t → Keeps s t (evFlds ++ legFlds ++ stateFlds ++ [SPn_FBSTAT_hold_left, SPn_FBSTAT_expired,
      SPn_FBSTAT_hold, SPn_FLD_STAT_task, SPn_FLD_STAT_engine, CHn_STATE_cause, CHn_OCSTAT_cyc_run, PRT_LNKl_STAT_chop]) (evParts ++ [Part.inflight,
    Part.gen, Part.chans, Part.sps, Part.links])) ∧
    (∀ a n v, exec (.swapRequest a n v) s = .next t → Keeps s t (evFlds ++ [SYS_BUSERR_ADDR_addr, SPn_BANK_seal_req, SPn_BANK_bumpless,
      SPn_BANK_swap, SPn_STEP_step_inact, SPn_STEP_step_act, SPn_BANK_seal_busy, SPn_BANK_seal_b, SPn_BANK_seal_a, SPn_BANK_CRC_A_crc,
    SPn_BANK_CRC_B_crc, CHn_BUDGET_lat_full, CHn_BUDGET_budget]) (evParts ++ [Part.ports])) ∧
    (∀ a n v, exec (.sealRequest a n v) s = .next t → Keeps s t (evFlds ++ [SYS_BUSERR_ADDR_addr, SPn_BANK_seal_req, SPn_BANK_bumpless,
      SPn_BANK_swap, SPn_STEP_step_inact, SPn_STEP_step_act, SPn_BANK_seal_busy, SPn_BANK_seal_b, SPn_BANK_seal_a, SPn_BANK_CRC_A_crc,
    SPn_BANK_CRC_B_crc, CHn_BUDGET_lat_full, CHn_BUDGET_budget]) (evParts ++ [Part.ports])) ∧
    (∀ n, exec (.sealDone n) s = .next t → Keeps s t (evFlds ++ [SPn_STEP_step_inact, SPn_STEP_step_act, SPn_BANK_seal_busy, SPn_BANK_seal_req,
      SPn_BANK_seal_b, SPn_BANK_seal_a, SPn_BANK_CRC_A_crc, SPn_BANK_CRC_B_crc]) (evParts ++ [Part.latheWords, Part.ueKnown, Part.writebacks])) ∧
    (∀ n, exec (.oscWindowEnd n) s = .next t → Keeps s t (evFlds ++ [SPn_BANK_swap, SPn_OSC_STAT_osc_cnt, SPn_OSC_STAT_osc]) (evParts
      ++ [Part.inflight, Part.sps])) ∧
    (∀ n, exec (.fwLimit n) s = .next t → Keeps s t (evFlds ++ [SPn_FLD_STAT_fw_limit]) evParts) ∧
    (∀ n, exec (.dtcDecision n) s = .next t → Keeps s t (evFlds ++ legFlds ++ [SPn_BANK_int_frz, SPn_FLD_STAT_task, SPn_FLD_STAT_engine,
      PRT_LNKl_STAT_chop]) (evParts ++ [Part.gen, Part.sps, Part.links])) ∧
    (∀ n, exec (.dtcMiss n) s = .next t → Keeps s t (evFlds ++ legFlds ++ [SPn_FLD_STAT_task, SPn_FLD_STAT_engine, PRT_LNKl_STAT_chop]) (evParts
      ++ [Part.inflight, Part.gen, Part.sps, Part.links])) ∧
    (∀ n, exec (.handover n) s = .next t → Keeps s t (evFlds ++ legFlds ++ stateFlds ++ [SPn_BANK_int_frz, SPn_FLD_STAT_task, SPn_FLD_STAT_engine,
      CHn_STATE_cause, CHn_OCSTAT_cyc_run, PRT_LNKl_STAT_chop]) (evParts ++ [Part.latheWords, Part.ueKnown, Part.writebacks, Part.gen, Part.chans,
    Part.sps, Part.links])) ∧
    (∀ n peaks, exec (.ipdComplete n peaks) s = .next t → Keeps s t (evFlds ++ legFlds ++ [SPn_FLD_STAT_task, SPn_FLD_STAT_engine,
      PRT_LNKl_STAT_chop]) (evParts ++ [Part.inflight, Part.gen, Part.sps, Part.links])) ∧
    (∀ n, exec (.obsValid n) s = .next t → Keeps s t [SPn_FLD_STAT_obs_valid] []) ∧
    (∀ n, exec (.obsLost n) s = .next t → Keeps s t (evFlds ++ [SPn_FLD_STAT_rec_cnt, SPn_FLD_STAT_obs_lost, SPn_FLD_STAT_obs_valid,
      SPn_FLD_STAT_task, SPn_OBS_SPD_speed]) (evParts ++ [Part.inflight, Part.sps])) ∧
    (∀ n a1 b1 a2 b2 dt, exec (.recapture n a1 b1 a2 b2 dt) s = .next t → Keeps s t (evFlds ++ legFlds ++ [SPn_FLD_STAT_rec_cnt, SPn_FLD_STAT_task,
      SPn_FLD_STAT_engine, SPn_OBS_ANG_angle, SPn_OBS_SPD_speed, PRT_LNKl_STAT_chop]) (evParts ++ [Part.inflight, Part.gen, Part.sps, Part.links])) ∧
    (∀ n, exec (.recapAttemptEnd n) s = .next t → Keeps s t (evFlds ++ legFlds ++ [SPn_FLD_STAT_rec_cnt, SPn_FLD_STAT_task, SPn_FLD_STAT_engine,
      PRT_LNKl_STAT_chop]) (evParts ++ [Part.inflight, Part.gen, Part.sps, Part.links])) ∧
    (∀ n, exec (.locked n) s = .next t → Keeps s t (evFlds ++ [SPn_FLD_STAT_locked]) (evParts ++ [Part.inflight, Part.sps])) ∧
    (∀ n, exec (.lockClear n) s = .next t → Keeps s t (evFlds ++ [SPn_FLD_STAT_locked]) evParts) ∧
    (∀ n, exec (.keAbnormal n) s = .next t → Keeps s t (evFlds ++ [SPn_FLD_STAT_ke_abn]) (evParts ++ [Part.inflight])) ∧
    (∀ a n v, exec (.keAbnClear a n v) s = .next t → Keeps s t (evFlds ++ [SYS_BUSERR_ADDR_addr, SPn_FLD_STAT_fw_limit, SPn_FLD_STAT_ke_abn,
      SPn_FLD_STAT_obs_lost, SPn_KE_EST_psi_f, CHn_BUDGET_lat_full, CHn_BUDGET_budget]) (evParts ++ [Part.ports, Part.sps])) ∧
    (∀ n, exec (.pllLock n) s = .next t → Keeps s t [SPn_FLD_STAT_pll_lock] [Part.sps]) ∧
    (∀ n, exec (.pllUnlock n) s = .next t → Keeps s t (evFlds ++ [SPn_FLD_STAT_pll_lock]) (evParts ++ [Part.inflight, Part.sps])) ∧
    (∀ n, exec (.gridBand n) s = .next t → Keeps s t evFlds (evParts ++ [Part.inflight, Part.sps]))

/-- The frames of the commands of channels, links, Badger, Chuck and the mailbox. -/
def Obligations.FramesChannelsAndSafety : Prop :=
  ∀ s t : State, s.wf = true →
    (∀ c p, exec (.chPrecharge c p) s = .next t → Keeps s t (evFlds ++ legFlds ++ stateFlds ++ [CHn_GEN_pend_gen, CHn_CSTAT_pend, LEGk_GEN_pend_gen,
      LEGk_CSTAT_pend, SPn_FLD_STAT_task, SPn_FLD_STAT_engine, CHn_OCSTAT_cyc_run, PRT_LNKl_STAT_lstate, PRT_LNKl_STAT_chop, FPL_STAT_cpl_drop,
    QPq_CQ_tail, QPq_CQ_head]) (evParts ++ [Part.free, Part.sram, Part.ueKnown, Part.writebacks, Part.gen, Part.chans, Part.sps, Part.links,
      Part.fpl, Part.net])) ∧
    (∀ c p, exec (.chEnable c p) s = .next t → Keeps s t (evFlds ++ legFlds ++ stateFlds ++ [CHn_BUDGET_lat_full, CHn_BUDGET_budget, SPn_CTL_spec,
      SPn_BANK_int_frz, SPn_FBSTAT_absent, SPn_FLD_STAT_task, SPn_FLD_STAT_engine, SPn_KE_EST_psi_f, SPn_TLIM_EFF_i_lim, SPn_TLIM_EFF_t_lim,
    CHn_OCSTAT_cyc_run, PRT_LNKl_STAT_chop, FPL_STAT_cpl_drop, QPq_CQ_tail, QPq_CQ_head, SETTp_BUDGET_d_line, SETTp_BUDGET_d_ring]) (evParts
      ++ [Part.sram, Part.latheWords, Part.ueKnown, Part.writebacks, Part.gen, Part.chans, Part.sps, Part.links, Part.fpl, Part.net])) ∧
    (∀ c p, exec (.chStop c p) s = .next t → Keeps s t (evFlds ++ legFlds ++ stateFlds ++ [CHn_GEN_pend_gen, CHn_CSTAT_pend, LEGk_GEN_pend_gen,
      LEGk_CSTAT_pend, SPn_FLD_STAT_task, SPn_FLD_STAT_engine, CHn_STATE_cause, CHn_STATE_sel, CHn_SEL_THR_thr, CHn_OCSTAT_cyc_run,
    PRT_LNKl_STAT_lstate, PRT_LNKl_STAT_chop, TLS_STAT_nr_cause, TLS_STAT_ready, FPL_STAT_cpl_drop, QPq_CQ_tail, QPq_CQ_head]) (evParts
      ++ [Part.free, Part.sram, Part.ueKnown, Part.writebacks, Part.gen, Part.chans, Part.sps, Part.links, Part.tls, Part.fpl, Part.net])) ∧
    (∀ c p, exec (.chSafe c p) s = .next t → Keeps s t (evFlds ++ legFlds ++ stateFlds ++ [CHn_GEN_pend_gen, CHn_CSTAT_pend, LEGk_GEN_pend_gen,
      LEGk_CSTAT_pend, SPn_FLD_STAT_task, SPn_FLD_STAT_engine, CHn_STATE_cause, CHn_STATE_sel, CHn_SEL_THR_thr, CHn_OCSTAT_cyc_run,
    PRT_LNKl_STAT_lstate, PRT_LNKl_STAT_chop, TLS_STAT_nr_cause, TLS_STAT_ready, FPL_STAT_cpl_drop, QPq_CQ_tail, QPq_CQ_head]) (evParts
      ++ [Part.free, Part.sram, Part.ueKnown, Part.writebacks, Part.gen, Part.chans, Part.sps, Part.links, Part.tls, Part.fpl, Part.net])) ∧
    (∀ c p, exec (.chClearFault c p) s = .next t → Keeps s t (evFlds ++ legFlds ++ stateFlds ++ [SPn_CTL_spec, SPn_BANK_int_frz, SPn_FBSTAT_absent,
      SPn_FLD_STAT_rec_cnt, SPn_FLD_STAT_task, SPn_FLD_STAT_engine, SPn_KE_EST_psi_f, SPn_TLIM_EFF_i_lim, SPn_TLIM_EFF_t_lim,
    CHn_STATE_motoring_only, CHn_OCSTAT_oc_trip, CHn_OCSTAT_cyc_run, PRT_LNKl_STAT_motoring_only, PRT_LNKl_STAT_chop_fail, PRT_LNKl_STAT_chop,
      BDG_FSTATw_src, FPL_STAT_cpl_drop, QPq_CQ_tail, QPq_CQ_head]) (evParts ++ [Part.sram, Part.latheWords, Part.ueKnown, Part.writebacks, Part.gen,
    Part.chans, Part.sps, Part.links, Part.fpl, Part.net])) ∧
    (∀ c p, exec (.chDischarge c p) s = .next t → Keeps s t (evFlds ++ legFlds ++ stateFlds ++ [SPn_CTL_spec, SPn_BANK_int_frz, SPn_FLD_STAT_task,
      SPn_FLD_STAT_engine, SPn_KE_EST_psi_f, SPn_TLIM_EFF_i_lim, SPn_TLIM_EFF_t_lim, CHn_OCSTAT_cyc_run, PRT_LNKl_STAT_lstate,
    PRT_LNKl_STAT_dis_fail, PRT_LNKl_STAT_chop, FPL_STAT_cpl_drop, QPq_CQ_tail, QPq_CQ_head]) (evParts ++ [Part.sram, Part.latheWords, Part.ueKnown,
      Part.writebacks, Part.inflight, Part.gen, Part.chans, Part.sps, Part.links, Part.fpl, Part.net])) ∧
    (∀ a n v, exec (.swfailWrite a n v) s = .next t → Keeps s t (evFlds ++ legFlds ++ [SYS_BUSERR_ADDR_addr, CHn_SWFAIL_ls, CHn_SWFAIL_hs,
      CHn_STATE_sel, CHn_STATE_pat, CHn_STATE_held, CHn_STATE_ss, CHn_SEL_THR_thr, PRT_LNKl_STAT_chop, CHn_BUDGET_lat_full,
    CHn_BUDGET_budget]) (evParts ++ [Part.ports, Part.inflight, Part.gen, Part.links])) ∧
    (∀ a l v, exec (.linkEnable a l v) s = .next t → Keeps s t (evFlds ++ [SYS_BUSERR_ADDR_addr, PRT_LNKl_CFG_en, PRT_LNKl_CFG_members,
      PRT_LNKl_CFG_ichop_ain, PRT_LNKl_CFG_ichop_en, PRT_LNKl_CFG_pre_leg, PRT_LNKl_CFG_pre_en, PRT_LNKl_CFG_chop_leg, PRT_LNKl_CFG_chop_en,
    PRT_LNKl_CFG_chop_mode, PRT_LNKl_CFG_vdc_ain]) (evParts ++ [Part.ports, Part.links])) ∧
    (∀ l codes, exec (.ovWarn l codes) s = .next t → Keeps s t (evFlds ++ legFlds ++ stateFlds ++ [CHn_GEN_pend_gen, CHn_CSTAT_pend,
      LEGk_GEN_pend_gen, LEGk_CSTAT_pend, SPn_FLD_STAT_task, SPn_FLD_STAT_engine, CHn_STATE_cause, CHn_STATE_sel, CHn_STATE_motoring_only,
    CHn_SEL_THR_thr, CHn_OCSTAT_cyc_run, PRT_LNKl_STAT_vmean, PRT_LNKl_STAT_lstate, PRT_LNKl_STAT_ov_hard, PRT_LNKl_STAT_ov_asc,
      PRT_LNKl_STAT_motoring_only, PRT_LNKl_STAT_chop_fail, PRT_LNKl_STAT_chop, PRT_LNKl_STAT_warn, PRT_LNKl_VMAX_vmax, TLS_STAT_nr_cause,
    TLS_STAT_ready]) (evParts ++ [Part.free, Part.inflight, Part.gen, Part.chans, Part.sps, Part.links, Part.tls])) ∧
    (∀ l codes, exec (.chopOn l codes) s = .next t → Keeps s t (evFlds ++ legFlds ++ stateFlds ++ [CHn_GEN_pend_gen, CHn_CSTAT_pend,
      LEGk_GEN_pend_gen, LEGk_CSTAT_pend, SPn_FLD_STAT_task, SPn_FLD_STAT_engine, CHn_STATE_cause, CHn_STATE_sel, CHn_STATE_motoring_only,
    CHn_SEL_THR_thr, CHn_OCSTAT_cyc_run, PRT_LNKl_STAT_vmean, PRT_LNKl_STAT_lstate, PRT_LNKl_STAT_ov_hard, PRT_LNKl_STAT_ov_asc,
      PRT_LNKl_STAT_motoring_only, PRT_LNKl_STAT_chop_fail, PRT_LNKl_STAT_chop, PRT_LNKl_STAT_warn, PRT_LNKl_VMAX_vmax, TLS_STAT_nr_cause,
    TLS_STAT_ready]) (evParts ++ [Part.free, Part.inflight, Part.gen, Part.chans, Part.sps, Part.links, Part.tls])) ∧
    (∀ l codes, exec (.chopOff l codes) s = .next t → Keeps s t (evFlds ++ legFlds ++ stateFlds ++ [CHn_GEN_pend_gen, CHn_CSTAT_pend,
      LEGk_GEN_pend_gen, LEGk_CSTAT_pend, SPn_FLD_STAT_task, SPn_FLD_STAT_engine, CHn_STATE_cause, CHn_STATE_sel, CHn_STATE_motoring_only,
    CHn_SEL_THR_thr, CHn_OCSTAT_cyc_run, PRT_LNKl_STAT_vmean, PRT_LNKl_STAT_lstate, PRT_LNKl_STAT_ov_hard, PRT_LNKl_STAT_ov_asc,
      PRT_LNKl_STAT_motoring_only, PRT_LNKl_STAT_chop_fail, PRT_LNKl_STAT_chop, PRT_LNKl_STAT_warn, PRT_LNKl_VMAX_vmax, TLS_STAT_nr_cause,
    TLS_STAT_ready]) (evParts ++ [Part.free, Part.inflight, Part.gen, Part.chans, Part.sps, Part.links, Part.tls])) ∧
    (∀ l codes, exec (.ovAsc l codes) s = .next t → Keeps s t (evFlds ++ legFlds ++ stateFlds ++ [CHn_GEN_pend_gen, CHn_CSTAT_pend,
      LEGk_GEN_pend_gen, LEGk_CSTAT_pend, SPn_FLD_STAT_task, SPn_FLD_STAT_engine, CHn_STATE_cause, CHn_STATE_sel, CHn_STATE_motoring_only,
    CHn_SEL_THR_thr, CHn_OCSTAT_cyc_run, PRT_LNKl_STAT_vmean, PRT_LNKl_STAT_lstate, PRT_LNKl_STAT_ov_hard, PRT_LNKl_STAT_ov_asc,
      PRT_LNKl_STAT_motoring_only, PRT_LNKl_STAT_chop_fail, PRT_LNKl_STAT_chop, PRT_LNKl_STAT_warn, PRT_LNKl_VMAX_vmax, TLS_STAT_nr_cause,
    TLS_STAT_ready]) (evParts ++ [Part.free, Part.inflight, Part.gen, Part.chans, Part.sps, Part.links, Part.tls])) ∧
    (∀ l codes, exec (.ovHard l codes) s = .next t → Keeps s t (evFlds ++ legFlds ++ stateFlds ++ [CHn_GEN_pend_gen, CHn_CSTAT_pend,
      LEGk_GEN_pend_gen, LEGk_CSTAT_pend, SPn_FLD_STAT_task, SPn_FLD_STAT_engine, CHn_STATE_cause, CHn_STATE_sel, CHn_STATE_motoring_only,
    CHn_SEL_THR_thr, CHn_OCSTAT_cyc_run, PRT_LNKl_STAT_vmean, PRT_LNKl_STAT_lstate, PRT_LNKl_STAT_ov_hard, PRT_LNKl_STAT_ov_asc,
      PRT_LNKl_STAT_motoring_only, PRT_LNKl_STAT_chop_fail, PRT_LNKl_STAT_chop, PRT_LNKl_STAT_warn, PRT_LNKl_VMAX_vmax, TLS_STAT_nr_cause,
    TLS_STAT_ready]) (evParts ++ [Part.free, Part.inflight, Part.gen, Part.chans, Part.sps, Part.links, Part.tls])) ∧
    (∀ l, exec (.linkStarved l) s = .next t → Keeps s t (evFlds ++ [PRT_LNKl_STAT_starved]) (evParts ++ [Part.inflight, Part.links])) ∧
    (∀ l, exec (.chopCommit l) s = .next t → Keeps s t [CHn_GEN_pend_gen, CHn_CSTAT_pend, LEGk_GEN_pend_gen, LEGk_CSTAT_pend] [Part.free, Part.gen,
      Part.links]) ∧
    (∀ l ichop, exec (.chopConfirm l ichop) s = .next t → Keeps s t (evFlds ++ [CHn_STATE_motoring_only, PRT_LNKl_STAT_motoring_only,
      PRT_LNKl_STAT_chop_fail]) (evParts ++ [Part.inflight])) ∧
    (∀ l codes, exec (.prechargeDone l codes) s = .next t → Keeps s t (evFlds ++ legFlds ++ stateFlds ++ [CHn_GEN_pend_gen, CHn_CSTAT_pend,
      LEGk_GEN_pend_gen, LEGk_CSTAT_pend, SPn_FLD_STAT_task, SPn_FLD_STAT_engine, CHn_STATE_cause, CHn_STATE_sel, CHn_STATE_motoring_only,
    CHn_SEL_THR_thr, CHn_OCSTAT_cyc_run, PRT_LNKl_STAT_vmean, PRT_LNKl_STAT_lstate, PRT_LNKl_STAT_ov_hard, PRT_LNKl_STAT_ov_asc,
      PRT_LNKl_STAT_motoring_only, PRT_LNKl_STAT_chop_fail, PRT_LNKl_STAT_chop, PRT_LNKl_STAT_warn, PRT_LNKl_VMAX_vmax, TLS_STAT_nr_cause,
    TLS_STAT_ready]) (evParts ++ [Part.free, Part.inflight, Part.gen, Part.chans, Part.sps, Part.links, Part.tls])) ∧
    (∀ l, exec (.prechargeFail l) s = .next t → Keeps s t (evFlds ++ legFlds ++ stateFlds ++ [CHn_GEN_pend_gen, CHn_CSTAT_pend, LEGk_GEN_pend_gen,
      LEGk_CSTAT_pend, SPn_FLD_STAT_task, SPn_FLD_STAT_engine, CHn_OCSTAT_cyc_run, PRT_LNKl_STAT_lstate, PRT_LNKl_STAT_pre_fail,
    PRT_LNKl_STAT_chop]) (evParts ++ [Part.free, Part.inflight, Part.gen, Part.chans, Part.sps, Part.links])) ∧
    (∀ l, exec (.prechargeLegOff l) s = .next t → Keeps s t [CHn_GEN_pend_gen, CHn_CSTAT_pend, LEGk_GEN_pend_gen, LEGk_CSTAT_pend] [Part.free,
      Part.gen, Part.links]) ∧
    (∀ l codes, exec (.disDone l codes) s = .next t → Keeps s t (evFlds ++ legFlds ++ stateFlds ++ [CHn_GEN_pend_gen, CHn_CSTAT_pend,
      LEGk_GEN_pend_gen, LEGk_CSTAT_pend, SPn_FLD_STAT_task, SPn_FLD_STAT_engine, CHn_STATE_cause, CHn_STATE_sel, CHn_STATE_motoring_only,
    CHn_SEL_THR_thr, CHn_OCSTAT_cyc_run, PRT_LNKl_STAT_vmean, PRT_LNKl_STAT_lstate, PRT_LNKl_STAT_ov_hard, PRT_LNKl_STAT_ov_asc,
      PRT_LNKl_STAT_motoring_only, PRT_LNKl_STAT_chop_fail, PRT_LNKl_STAT_chop, PRT_LNKl_STAT_warn, PRT_LNKl_VMAX_vmax, TLS_STAT_nr_cause,
    TLS_STAT_ready]) (evParts ++ [Part.free, Part.inflight, Part.gen, Part.chans, Part.sps, Part.links, Part.tls])) ∧
    (∀ l, exec (.disFail l) s = .next t → Keeps s t (evFlds ++ [PRT_LNKl_STAT_dis_fail]) (evParts ++ [Part.inflight])) ∧
    (∀ l, exec (.disTimeout l) s = .next t → Keeps s t (evFlds ++ legFlds ++ stateFlds ++ [SPn_FLD_STAT_task, SPn_FLD_STAT_engine,
      CHn_OCSTAT_cyc_run, PRT_LNKl_STAT_lstate, PRT_LNKl_STAT_chop]) (evParts ++ [Part.gen, Part.chans, Part.sps, Part.links])) ∧
    (∀ smp, exec (.badgerEval smp) s = .next t → Keeps s t (evFlds ++ [BDG_STATE_fault_n, BDG_STATE_safe_en1, BDG_STATE_safe_en0,
      BDG_PARAM_CRC_crc]) (evParts ++ [Part.inflight, Part.bdg])) ∧
    (∀ p rp rq parity, exec (.lockstepMismatch p rp rq parity) s = .next t → Keeps s t (evFlds ++ [PRT_LS_STAT_cmp_split, PRT_LS_STAT_mismatch,
      PRT_LS_CNTp_mis_cnt, PRT_LS_CNTp_par_cnt]) (evParts ++ [Part.inflight, Part.gen, Part.sps])) ∧
    (∀ p pOk qOk, exec (.cmpSelftest p pOk qOk) s = .next t → Keeps s t (evFlds ++ [PRT_LS_CNTp_test_cnt, PRT_CMP_TEST_bit]) (evParts
      ++ [Part.inflight, Part.bdg])) ∧
    (∀ p differ, p.val = 6 → exec (.chuckRelease p differ) s = .next t → Keeps s t (evFlds ++ legFlds ++ stateFlds ++ [CHn_CSTAT_pend,
      SPn_FLD_STAT_task, SPn_FLD_STAT_engine, CHn_STATE_cause, CHn_STATE_sel, CHn_SEL_THR_thr, CHn_OCSTAT_cyc_run, PRT_LNKl_STAT_lstate,
    PRT_LNKl_STAT_chop, PRT_CHUCK_STAT_resample, PRT_CHUCK_STAT_disagree, BDG_STATE_dev_cause, BDG_STATE_fault_n, BDG_STATE_safe_en1,
      BDG_STATE_safe_en0, BDG_STATE_unit, BDG_FSTATw_src, TLS_STAT_nr_cause, TLS_STAT_ready]) (evParts ++ [Part.inflight, Part.gen, Part.chans,
    Part.sps, Part.links, Part.bdg, Part.tls])) ∧
    (∀ p differ, p.val ≠ 6 → (∀ e ∈ s.chuck, ∀ x y z, e.val ≠ .core x y z) → exec (.chuckRelease p differ) s = .next t → Keeps s t (evFlds
      ++ [PRT_CHUCK_STAT_resample, PRT_CHUCK_STAT_disagree, SPn_STEP_step_inact, SPn_STEP_step_act, SPn_BANK_seal_b, SPn_BANK_seal_a,
    SPn_BANK_CRC_A_crc, SPn_BANK_CRC_B_crc]) (evParts ++ [Part.chuck, Part.landing, Part.inflight, Part.latheWords, Part.ueKnown, Part.writebacks])) ∧
    (∀ p m c, exec (.stateDigest p m c) s = .next t → Keeps s t (evFlds ++ [PRT_LS_STAT_mismatch, PRT_LS_CNTp_lat_cnt]) (evParts ++ [Part.inflight,
      Part.gen, Part.sps])) ∧
    (∀ n, exec (.spindleRestore n) s = .next t → Keeps s t (evFlds ++ legFlds ++ stateFlds ++ [CHn_BUDGET_lat_full, CHn_BUDGET_budget,
      SPn_SAT_first_period, SPn_SAT_first_stage, SPn_SAT_modulate, SPn_SAT_limit, SPn_SAT_control, SPn_SAT_correct, SPn_SAT_predict,
    SPn_SAT_transform, SPn_STEP_step_inact, SPn_STEP_step_act, SPn_BANK_int_frz, SPn_BANK_fb, SPn_BANK_swap, SPn_BANK_active, SPn_FBSTAT_hold_left,
      SPn_FBSTAT_expired, SPn_FBSTAT_hold, SPn_FBSTAT_lost, SPn_MISS_miss_cnt, SPn_MISS_miss_now, SPn_OSC_STAT_last_cnt, SPn_FLD_STAT_ovm_active,
    SPn_FLD_STAT_fw_active, SPn_FLD_STAT_obs_valid, SPn_FLD_STAT_task, SPn_FLD_STAT_engine, SPn_ANG_M_angle, SPn_ANG_U_angle, SPn_OBS_ANG_angle,
      SPn_OBS_SPD_speed, SPn_FW_ID_id_fw, SPn_KE_EST_psi_f, SPn_GRID_F_freq, CHn_STATE_cause, CHn_OCSTAT_cyc_run, PRT_LNKl_STAT_chop,
    PRT_LS_STAT_restored]) (evParts ++ [Part.latheWords, Part.ueKnown, Part.writebacks, Part.inflight, Part.gen, Part.chans, Part.sps, Part.links,
      Part.bdg])) ∧
    (∀ c, exec (.corePairRestart c) s = .next t → Keeps s t (evFlds ++ [PRT_LS_STAT_restored, BDG_STATE_lsb_cpb, BDG_STATE_lsb_cpa]) (evParts
      ++ [Part.inflight, Part.bdg])) ∧
    (exec .mpRestart s = .next t → Keeps s t (evFlds ++ [FPL_STAT_cpl_drop, QPq_CQ_tail, QPq_CQ_head]) (evParts ++ [Part.sram, Part.ueKnown,
      Part.writebacks, Part.bdg, Part.fpl, Part.net, Part.setts])) ∧
    (∀ c, exec (.debugHalt c) s = .next t → Keeps s t (evFlds ++ [BDG_STATE_lsb_cpb, BDG_STATE_lsb_cpa]) (evParts ++ [Part.inflight, Part.bdg])) ∧
    (∀ edges, exec (.ckbMonitor edges) s = .next t → Keeps s t [CLK_STATUS_ckb_ok] [Part.inflight, Part.bdg]) ∧
    (exec .ckbTrim s = .next t → Keeps s t [] [Part.bdg]) ∧
    (∀ r, exec (.supplyFault r) s = .next t → Keeps s t evFlds (evParts ++ [Part.inflight, Part.bdg])) ∧
    (exec .bdgUndervoltReset s = .next t → Keeps s t [BDG_MB_REQ_go, BDG_MB_STAT_busy, BDG_STATE_fault_n, BDG_STATE_safe_en1, BDG_STATE_safe_en0,
      BDG_FSTATw_src, BDG_PARAM_CRC_crc] [Part.bdg, Part.tls]) ∧
    (∀ t1, t1 < 2560 ∨ s.pwr.stage ≠ 8 ∧ s.pwr.stage ≠ 3 → exec (.scvTdiodeRead t1) s = .next t → Keeps s t [THM_TEMP_scv1] [Part.inflight,
      Part.bdg]) ∧
    (∀ a c v, exec (.wdgKick a c v) s = .next t → Keeps s t (evFlds ++ [SYS_BUSERR_ADDR_addr, BDG_WDG_KICKc_key, BDG_WDG_STATc_miss_cnt,
      BDG_WDG_STATc_token]) (evParts ++ [Part.ports, Part.free, Part.inflight, Part.bdg])) ∧
    (∀ c, exec (.wdgTimeout c) s = .next t → Keeps s t (evFlds ++ [BDG_WDG_STATc_miss_cnt]) (evParts ++ [Part.inflight])) ∧
    (∀ src payload, exec (.faultRaised src payload) s = .next t → Keeps s t (evFlds ++ legFlds ++ stateFlds ++ [CHn_CSTAT_pend, LEG_OGATE_replay,
      SPn_FLD_STAT_task, SPn_FLD_STAT_engine, CHn_STATE_cause, CHn_STATE_sel, CHn_SEL_THR_thr, CHn_OCSTAT_cyc_run, PRT_LNKl_STAT_lstate,
    PRT_LNKl_STAT_chop, BDG_STATE_dev_cause, BDG_STATE_fault_n, BDG_STATE_safe_en1, BDG_STATE_safe_en0, BDG_STATE_unit, BDG_FSTATw_src,
      TLS_STAT_nr_cause, TLS_STAT_ready, OWL_RP_STAT_result, OWL_RP_STAT_running]) (evParts ++ [Part.inflight, Part.gen, Part.chans, Part.sps,
    Part.links, Part.bdg, Part.tls])) ∧
    (∀ seq, exec (.faultRead seq) s = .next t → Keeps s t [BDG_MB_REQ_go, BDG_MB_STAT_busy, BDG_MB_STAT_done, BDG_MB_STAT_status,
      PLIC_PEND_bits] [Part.sram, Part.bdg]) ∧
    (∀ seq srcs, exec (.faultClear seq srcs) s = .next t → Keeps s t [BDG_MB_REQ_go, BDG_MB_STAT_busy, BDG_MB_STAT_done, BDG_MB_STAT_status,
      BDG_STATE_fault_n, BDG_FSTATw_src, FPL_EVT_STAT_lost, OWL_LOST_count, PLIC_PEND_bits] (evParts ++ [Part.sram, Part.bdg])) ∧
    (∀ seq, exec (.classRead seq) s = .next t → Keeps s t [BDG_MB_REQ_go, BDG_MB_STAT_busy, BDG_MB_STAT_done, BDG_MB_STAT_status,
      PLIC_PEND_bits] [Part.sram, Part.bdg]) ∧
    (∀ seq block crc, exec (.paramStage seq block crc) s = .next t → Keeps s t (evFlds ++ [BDG_MB_REQ_go, BDG_MB_STAT_busy, BDG_MB_STAT_done,
      BDG_MB_STAT_status]) (evParts ++ [Part.sram, Part.inflight, Part.bdg])) ∧
    (∀ seq, exec (.paramRead seq) s = .next t → Keeps s t [BDG_MB_REQ_go, BDG_MB_STAT_busy, BDG_MB_STAT_done, BDG_MB_STAT_status,
      PLIC_PEND_bits] [Part.sram, Part.bdg]) ∧
    (∀ seq, exec (.monRead seq) s = .next t → Keeps s t [BDG_MB_REQ_go, BDG_MB_STAT_busy, BDG_MB_STAT_done, BDG_MB_STAT_status,
      PLIC_PEND_bits] [Part.sram, Part.bdg])

/-- The frames of the pair's commands and the queues'. -/
def Obligations.FramesPairsAndQueues : Prop :=
  ∀ s t : State, s.wf = true →
    (exec .roleSettle s = .next t → Keeps s t (evFlds ++ legFlds ++ [LEG_OGATE_standby, PRT_LNKl_STAT_chop, TLS_STAT_nr_cause, TLS_STAT_aligned,
      TLS_STAT_ready, TLS_STAT_role]) (evParts ++ [Part.gen, Part.links, Part.tls])) ∧
    (exec .startWaitExpired s = .next t → Keeps s t (evFlds ++ legFlds ++ [LEG_OGATE_standby, PRT_LNKl_STAT_chop, TLS_STAT_nr_cause, TLS_STAT_ready,
      TLS_STAT_role]) (evParts ++ [Part.gen, Part.links, Part.tls])) ∧
    (exec .standbyDemote s = .next t → Keeps s t (evFlds ++ legFlds ++ [LEG_OGATE_standby, PRT_LNKl_STAT_chop, TLS_STAT_nr_cause, TLS_STAT_aligned,
      TLS_STAT_ready, TLS_STAT_role]) (evParts ++ [Part.gen, Part.links, Part.tls])) ∧
    (∀ lvl, exec (.selFbChange lvl) s = .next t → Keeps s t (evFlds ++ legFlds ++ [LEG_OGATE_standby, PRT_LNKl_STAT_chop, TLS_STAT_nr_cause,
      TLS_STAT_sel_fb, TLS_STAT_ready, TLS_STAT_role]) (evParts ++ [Part.gen, Part.links, Part.tls])) ∧
    (exec .heartbeatMissing s = .next t → Keeps s t (evFlds ++ legFlds ++ [LEG_OGATE_standby, PRT_LNKl_STAT_chop, TLS_STAT_nr_cause, TLS_STAT_xl_in,
      TLS_STAT_ready, TLS_STAT_role]) (evParts ++ [Part.inflight, Part.gen, Part.links, Part.tls])) ∧
    (exec .takeoverXlStart s = .next t → Keeps s t (evFlds ++ legFlds ++ [LEG_OGATE_standby, PRT_LNKl_STAT_chop, TLS_STAT_nr_cause, TLS_STAT_ready,
      TLS_STAT_role]) (evParts ++ [Part.gen, Part.links, Part.tls])) ∧
    (exec .takeoverClaim s = .next t → Keeps s t (evFlds ++ legFlds ++ [LEG_OGATE_standby, PRT_LNKl_STAT_chop, TLS_STAT_nr_cause, TLS_STAT_ready,
      TLS_STAT_role, TLS_CNT_tko_cnt, TLS_LAST_TKO_src, TLS_LAST_TKO_kind, TLS_LAST_TKO_gap]) (evParts ++ [Part.inflight, Part.gen, Part.links,
    Part.tls])) ∧
    (exec .selectorFault s = .next t → Keeps s t [] [Part.inflight]) ∧
    (exec .handoffRelease s = .next t → Keeps s t evFlds (evParts ++ [Part.tls])) ∧
    (∀ i, exec (.laneUp i) s = .next t → Keeps s t (evFlds ++ [CLK_STATUS_t_lock, TLS_STAT_nr_cause, TLS_STAT_aligned, TLS_STAT_lane_up,
      TLS_STAT_ready]) (evParts ++ [Part.tls])) ∧
    (∀ i, exec (.laneDown i) s = .next t → Keeps s t (evFlds ++ [CLK_STATUS_t_lock, TLS_STAT_lane_up]) evParts) ∧
    (exec .linkDown s = .next t → Keeps s t (evFlds ++ [TLS_STAT_nr_cause, TLS_STAT_ready]) (evParts ++ [Part.inflight, Part.tls])) ∧
    (∀ i b, exec (.checkpointRx i b) s = .next t → Keeps s t [TLS_CNT_crc_err] [Part.tls]) ∧
    (∀ i b, exec (.meterCheckpointRx i b) s = .next t → Keeps s t (evFlds ++ [TLS_STAT_nr_cause, TLS_STAT_ready, TLS_CNT_crc_err, MTR_EPOS_LO_total,
      MTR_EPOS_HI_total, MTR_ENEG_LO_total, MTR_ENEG_HI_total, MTR_QPOS_LO_total, MTR_QPOS_HI_total, MTR_QNEG_LO_total, MTR_QNEG_HI_total,
    MTR_SEQ_seq, MTR_CURPACKk_id]) (evParts ++ [Part.tls, Part.mtr])) ∧
    (∀ i b, exec (.timebaseSyncRx i b) s = .next t → Keeps s t (evFlds ++ [TLS_STAT_nr_cause, TLS_STAT_aligned, TLS_STAT_ready, TLS_CNT_crc_err,
      TLS_ALIGN_err_max, TLS_ALIGN_err, TLS_PEER_OFS_LO_ofs, TLS_PEER_OFS_HI_ofs, TLS_DELAY_d]) (evParts ++ [Part.gen, Part.tls])) ∧
    (∀ i b, exec (.heartbeatRx i b) s = .next t → Keeps s t (evFlds ++ legFlds ++ [LEG_OGATE_standby, PRT_LNKl_STAT_chop, TLS_STAT_nr_cause,
      TLS_STAT_peer_unit, TLS_STAT_peer_ready, TLS_STAT_peer_role, TLS_STAT_ready, TLS_STAT_role, TLS_CNT_crc_err]) (evParts ++ [Part.inflight,
    Part.gen, Part.links, Part.tls])) ∧
    (∀ i b, exec (.configDigestRx i b) s = .next t → Keeps s t (evFlds ++ [TLS_STAT_nr_cause, TLS_STAT_digest_ok, TLS_STAT_ready,
      TLS_CNT_crc_err]) (evParts ++ [Part.inflight, Part.tls])) ∧
    (exec .meterCheckpointTx s = .next t → Keeps s t [] [Part.tls]) ∧
    (exec .timebaseSyncTx s = .next t → Keeps s t [] [Part.tls]) ∧
    (exec .heartbeatTx s = .next t → Keeps s t [] [Part.tls]) ∧
    (exec .configDigestTx s = .next t → Keeps s t [] [Part.tls]) ∧
    (∀ a v, exec (.tlsEnable a v) s = .next t → Keeps s t (evFlds ++ legFlds ++ [SYS_BUSERR_ADDR_addr, TLS_CFG_start_wait, TLS_CFG_hb_lead,
      TLS_CFG_lane_mask, TLS_CFG_auto_rejoin, TLS_CFG_cold_en, TLS_CFG_start_role, TLS_CFG_en, LEG_OGATE_standby, PRT_LNKl_STAT_chop,
    TLS_STAT_nr_cause, TLS_STAT_aligned, TLS_STAT_ready, TLS_STAT_role]) (evParts ++ [Part.ports, Part.tls, Part.gen, Part.links])) ∧
    (∀ a v, exec (.tlsDisable a v) s = .next t → Keeps s t (evFlds ++ legFlds ++ [SYS_BUSERR_ADDR_addr, TLS_CFG_start_wait, TLS_CFG_hb_lead,
      TLS_CFG_lane_mask, TLS_CFG_auto_rejoin, TLS_CFG_cold_en, TLS_CFG_start_role, TLS_CFG_en, LEG_OGATE_standby, PRT_LNKl_STAT_chop,
    TLS_STAT_nr_cause, TLS_STAT_aligned, TLS_STAT_ready, TLS_STAT_role]) (evParts ++ [Part.ports, Part.tls, Part.gen, Part.links])) ∧
    (∀ c p, exec (.pairStatus c p) s = .next t → Keeps s t (evFlds ++ [CHn_SLACK_MIN_slack_min, SYS_ECC_CE_count, SYS_ECC_INFO_ue_cnt, CVc_INJRk_new,
      SEQn_OVR_count, SEQn_RESk_new, PIFn_ZSTAT_dev_cnt, PIFn_EDGE_quad_cnt, PIFn_EDGE_edge_fault_cnt, PIFn_SER_STAT_ovr_cnt,
    PIFn_SER_STAT_crc_err_cnt, CHn_CSTAT_per_clamp_cnt, CHn_CSTAT_mismatch_cnt, LEGk_STAT_drop_cnt, LEGk_STAT_stretch_cnt, LEGk_CSTAT_per_clamp_cnt,
      LEGk_CSTAT_mismatch_cnt, SPn_SPEC_REJ_swap, SPn_SPEC_REJ_sat, SPn_SPEC_REJ_innov, SPn_MISS_miss_cnt, SPn_OSC_STAT_osc_cnt, CHn_OCSTAT_cyc_cnt,
    PRT_LNKl_VMAX_vmax, PRT_LS_CNTp_mis_cnt, PRT_LS_CNTp_lat_cnt, PRT_LS_CNTp_par_cnt, PRT_LS_CNTp_test_cnt, PRT_CHUCK_STAT_resample,
      PRT_CHUCK_STAT_disagree, BDG_WDG_STATc_miss_cnt, TLS_CNT_miss_cnt, TLS_CNT_late_cnt, TLS_CNT_crc_err, TLS_ALIGN_err_max, FPL_STAT_rej,
    FPL_STAT_cpl_drop, FPL_EVT_STAT_ovf, FPL_SLOTST_e2e_cnt, QPq_CQ_tail, QPq_CQ_head, QPq_STAT_wexp_cnt, QPq_STAT_qfull_cnt, HLK_STAT_crc_err,
      HLK_STAT_abort, HLK_STAT_fast_rej, CANx_STAT_e2e_err, SETTp_CNT_overrun, SETTp_CNT_crc_err, SETTp_CNT_breaks, SETT_NODEe_STAT_miss_cnt,
    MTR_STAT_held, THM_MAX_max]) (evParts ++ [Part.sram, Part.ueKnown, Part.writebacks, Part.ports, Part.fpl, Part.net])) ∧
    (∀ c p, exec (.pairRole c p) s = .next t → Keeps s t (evFlds ++ [FPL_STAT_cpl_drop, QPq_CQ_tail, QPq_CQ_head]) (evParts ++ [Part.sram,
      Part.ueKnown, Part.writebacks, Part.tls, Part.fpl, Part.net])) ∧
    (∀ c p, exec (.pairRejoin c p) s = .next t → Keeps s t (evFlds ++ legFlds ++ [LEG_OGATE_standby, PRT_LNKl_STAT_chop, TLS_STAT_nr_cause,
      TLS_STAT_aligned, TLS_STAT_ready, TLS_STAT_role, FPL_STAT_cpl_drop, QPq_CQ_tail, QPq_CQ_head]) (evParts ++ [Part.sram, Part.ueKnown,
    Part.writebacks, Part.gen, Part.links, Part.tls, Part.fpl, Part.net])) ∧
    (∀ t1 src b, exec (.packetArrival t1 src b) s = .next t → Keeps s t (evFlds ++ legFlds ++ stateFlds ++ [CHn_GEN_pend_gen, CHn_CSTAT_pend,
      LEGk_GEN_pend_gen, LEGk_CSTAT_pend, SPn_FLD_STAT_task, SPn_FLD_STAT_engine, CHn_STATE_cause, CHn_STATE_sel, CHn_SEL_THR_thr,
    CHn_OCSTAT_cyc_run, PRT_LNKl_STAT_lstate, PRT_LNKl_STAT_chop, TLS_STAT_nr_cause, TLS_STAT_ready, FPL_STAT_rej, FPL_STAT_cpl_drop, QPq_SQ_tail,
      QPq_SQ_head, QPq_CQ_tail, QPq_CQ_head, QPq_STAT_qfull_cnt, QPq_STAT_pending]) (evParts ++ [Part.free, Part.sram, Part.ueKnown, Part.writebacks,
    Part.gen, Part.chans, Part.sps, Part.links, Part.tls, Part.fpl, Part.net])) ∧
    (∀ a q v, exec (.sqTailWrite a q v) s = .next t → Keeps s t (evFlds ++ legFlds ++ stateFlds ++ [SYS_BUSERR_ADDR_addr, CHn_GEN_pend_gen,
      CHn_CSTAT_pend, LEGk_GEN_pend_gen, LEGk_CSTAT_pend, SPn_FLD_STAT_task, SPn_FLD_STAT_engine, CHn_STATE_cause, CHn_STATE_sel, CHn_SEL_THR_thr,
    CHn_OCSTAT_cyc_run, PRT_LNKl_STAT_lstate, PRT_LNKl_STAT_chop, TLS_STAT_nr_cause, TLS_STAT_ready, FPL_STAT_rej, FPL_STAT_cpl_drop, QPq_SQ_tail,
      QPq_SQ_head, QPq_CQ_tail, QPq_CQ_head, QPq_STAT_pending]) (evParts ++ [Part.ports, Part.free, Part.sram, Part.ueKnown, Part.writebacks,
    Part.gen, Part.chans, Part.sps, Part.links, Part.tls, Part.fpl, Part.net])) ∧
    (∀ q, exec (.waitExpired q) s = .next t → Keeps s t (evFlds ++ [FPL_STAT_cpl_drop, QPq_SQ_head, QPq_CQ_tail, QPq_CQ_head, QPq_STAT_wexp_cnt,
      QPq_STAT_pending]) (evParts ++ [Part.sram, Part.ueKnown, Part.writebacks, Part.fpl, Part.net])) ∧
    (∀ busy, exec (.mploadWindow busy) s = .next t → Keeps s t (evFlds ++ [FPL_MPLOAD_overload, FPL_MPLOAD_load]) (evParts ++ [Part.fpl])) ∧
    (∀ q, exec (.queueIdleTimeout q) s = .next t → Keeps s t (evFlds ++ [QPq_CFG_open, QPq_SQ_head, QPq_STAT_pending]) (evParts ++ [Part.fpl])) ∧
    (∀ q, exec (.challengeExpiry q) s = .next t → Keeps s t [] [Part.fpl]) ∧
    (∀ c p, exec (.nop c p) s = .next t → Keeps s t (evFlds ++ [FPL_STAT_cpl_drop, QPq_CQ_tail, QPq_CQ_head]) (evParts ++ [Part.sram, Part.ueKnown,
      Part.writebacks, Part.fpl, Part.net])) ∧
    (∀ c p, exec (.getStatus c p) s = .next t → Keeps s t (evFlds ++ legFlds ++ stateFlds ++ [CHn_GEN_pend_gen, CHn_CSTAT_pend, LEGk_GEN_pend_gen,
      LEGk_CSTAT_pend, SPn_FLD_STAT_task, SPn_FLD_STAT_engine, CHn_STATE_cause, CHn_STATE_sel, CHn_SEL_THR_thr, CHn_OCSTAT_cyc_run,
    PRT_LNKl_STAT_lstate, PRT_LNKl_STAT_chop, TLS_STAT_nr_cause, TLS_STAT_ready, FPL_STAT_cpl_drop, QPq_CQ_tail, QPq_CQ_head]) (evParts
      ++ [Part.free, Part.sram, Part.ueKnown, Part.writebacks, Part.gen, Part.chans, Part.sps, Part.links, Part.tls, Part.fpl, Part.net])) ∧
    (∀ c p, exec (.getEvents c p) s = .next t → Keeps s t (evFlds ++ [FPL_STAT_cpl_drop, QPq_CQ_tail, QPq_CQ_head]) (evParts ++ [Part.sram,
      Part.ueKnown, Part.writebacks, Part.fpl, Part.net])) ∧
    (∀ c p, exec (.sessionOpen c p) s = .next t → Keeps s t (evFlds ++ [FPL_STAT_cpl_drop, QPq_CFG_open, QPq_CFG_transport, QPq_CFG_priv,
      QPq_CFG_class, QPq_CFG_bulk, QPq_CFG_depth, QPq_SQ_tail, QPq_SQ_head, QPq_CQ_tail, QPq_CQ_head, QPq_WAIT_idle_to, QPq_WAIT_qwait,
    QPq_STAT_pending, QPq_BASE_addr]) (evParts ++ [Part.free, Part.sram, Part.ueKnown, Part.writebacks, Part.fpl, Part.net])) ∧
    (∀ c p, exec (.challenge c p) s = .next t → Keeps s t (evFlds ++ [FPL_STAT_cpl_drop, QPq_CFG_open, QPq_CFG_transport, QPq_CFG_priv,
      QPq_CFG_class, QPq_CFG_bulk, QPq_CFG_depth, QPq_SQ_tail, QPq_SQ_head, QPq_CQ_tail, QPq_CQ_head, QPq_WAIT_idle_to, QPq_WAIT_qwait,
    QPq_STAT_pending, QPq_BASE_addr]) (evParts ++ [Part.free, Part.sram, Part.ueKnown, Part.writebacks, Part.fpl, Part.net])) ∧
    (∀ c p, exec (.openP c p) s = .next t → Keeps s t (evFlds ++ [FPL_STAT_cpl_drop, QPq_CFG_open, QPq_CFG_transport, QPq_CFG_priv, QPq_CFG_class,
      QPq_CFG_bulk, QPq_CFG_depth, QPq_SQ_tail, QPq_SQ_head, QPq_CQ_tail, QPq_CQ_head, QPq_WAIT_idle_to, QPq_WAIT_qwait, QPq_STAT_pending,
    QPq_BASE_addr]) (evParts ++ [Part.free, Part.sram, Part.ueKnown, Part.writebacks, Part.fpl, Part.net])) ∧
    (∀ c p, exec (.sessionClose c p) s = .next t → Keeps s t (evFlds ++ [FPL_STAT_cpl_drop, QPq_CFG_open, QPq_SQ_head, QPq_CQ_tail, QPq_CQ_head,
      QPq_STAT_pending]) (evParts ++ [Part.sram, Part.ueKnown, Part.writebacks, Part.fpl, Part.net]))

/-- The frames of the commands that the MP serves. -/
def Obligations.FramesOperationsOfTheMp : Prop :=
  ∀ s t : State, s.wf = true →
    (∀ c p, exec (.setProfile c p) s = .next t → Keeps s t (evFlds ++ [SYS_PROFILE_pending, SYS_PROFILE_request, FPL_STAT_cpl_drop, QPq_CQ_tail,
      QPq_CQ_head]) (evParts ++ [Part.sram, Part.ueKnown, Part.writebacks, Part.fpl, Part.net, Part.pwr])) ∧
    (∀ c p, exec (.setTorque c p) s = .next t → Keeps s t (evFlds ++ [FPL_STAT_cpl_drop, QPq_CQ_tail, QPq_CQ_head]) (evParts ++ [Part.sram,
      Part.ueKnown, Part.writebacks, Part.chuck, Part.fpl, Part.net])) ∧
    (∀ c p, exec (.setSpeed c p) s = .next t → Keeps s t (evFlds ++ [FPL_STAT_cpl_drop, QPq_CQ_tail, QPq_CQ_head]) (evParts ++ [Part.sram,
      Part.ueKnown, Part.writebacks, Part.chuck, Part.fpl, Part.net])) ∧
    (∀ c p, exec (.setLimits c p) s = .next t → Keeps s t (evFlds ++ [FPL_STAT_cpl_drop, QPq_CQ_tail, QPq_CQ_head]) (evParts ++ [Part.sram,
      Part.ueKnown, Part.writebacks, Part.sps, Part.fpl, Part.net])) ∧
    (∀ c p, exec (.setRampLimits c p) s = .next t → Keeps s t (evFlds ++ [FPL_STAT_cpl_drop, QPq_CQ_tail, QPq_CQ_head]) (evParts ++ [Part.sram,
      Part.ueKnown, Part.writebacks, Part.chuck, Part.fpl, Part.net])) ∧
    (∀ c p, exec (.cfgRead c p) s = .next t → Keeps s t (evFlds ++ [CHn_SLACK_MIN_slack_min, SYS_ECC_CE_count, SYS_ECC_INFO_ue_cnt, CVc_INJRk_new,
      SEQn_OVR_count, SEQn_RESk_new, PIFn_ZSTAT_dev_cnt, PIFn_EDGE_quad_cnt, PIFn_EDGE_edge_fault_cnt, PIFn_SER_STAT_ovr_cnt,
    PIFn_SER_STAT_crc_err_cnt, CHn_CSTAT_per_clamp_cnt, CHn_CSTAT_mismatch_cnt, LEGk_STAT_drop_cnt, LEGk_STAT_stretch_cnt, LEGk_CSTAT_per_clamp_cnt,
      LEGk_CSTAT_mismatch_cnt, SPn_SPEC_REJ_swap, SPn_SPEC_REJ_sat, SPn_SPEC_REJ_innov, SPn_MISS_miss_cnt, SPn_OSC_STAT_osc_cnt, CHn_OCSTAT_cyc_cnt,
    PRT_LNKl_VMAX_vmax, PRT_LS_CNTp_mis_cnt, PRT_LS_CNTp_lat_cnt, PRT_LS_CNTp_par_cnt, PRT_LS_CNTp_test_cnt, PRT_CHUCK_STAT_resample,
      PRT_CHUCK_STAT_disagree, BDG_WDG_STATc_miss_cnt, TLS_CNT_miss_cnt, TLS_CNT_late_cnt, TLS_CNT_crc_err, TLS_ALIGN_err_max, FPL_STAT_rej,
    FPL_STAT_cpl_drop, FPL_EVT_STAT_ovf, FPL_SLOTST_e2e_cnt, QPq_CQ_tail, QPq_CQ_head, QPq_STAT_wexp_cnt, QPq_STAT_qfull_cnt, HLK_STAT_crc_err,
      HLK_STAT_abort, HLK_STAT_fast_rej, CANx_STAT_e2e_err, SETTp_CNT_overrun, SETTp_CNT_crc_err, SETTp_CNT_breaks, SETT_NODEe_STAT_miss_cnt,
    MTR_STAT_held, THM_MAX_max]) (evParts ++ [Part.sram, Part.ueKnown, Part.writebacks, Part.ports, Part.fpl, Part.net])) ∧
    (∀ c p, exec (.cfgLock c p) s = .next t → Keeps s t (evFlds ++ [FPL_STAT_cpl_drop, QPq_CQ_tail, QPq_CQ_head]) (evParts ++ [Part.sram,
      Part.ueKnown, Part.writebacks, Part.fpl, Part.net, Part.dev])) ∧
    (∀ c p, exec (.coefLoad c p) s = .next t → Keeps s t (evFlds ++ [SPn_STEP_step_inact, SPn_STEP_step_act, SPn_BANK_seal_busy, SPn_BANK_seal_b,
      SPn_BANK_seal_a, SPn_BANK_CRC_A_crc, SPn_BANK_CRC_B_crc, FPL_STAT_cpl_drop, QPq_CQ_tail, QPq_CQ_head]) (evParts ++ [Part.sram, Part.latheWords,
    Part.ueKnown, Part.writebacks, Part.fpl, Part.net])) ∧
    (∀ c p, exec (.coefSwap c p) s = .next t → Keeps s t (evFlds ++ [SPn_BANK_swap, FPL_STAT_cpl_drop, QPq_CQ_tail, QPq_CQ_head]) (evParts
      ++ [Part.sram, Part.ueKnown, Part.writebacks, Part.fpl, Part.net])) ∧
    (∀ c p errs, exec (.coefRead c p errs) s = .next t → Keeps s t (evFlds ++ [SYS_ECC_CE_count, SYS_ECC_LAST_addr, SYS_ECC_INFO_initiator,
      SYS_ECC_INFO_region, SYS_ECC_INFO_ue_cnt, FPL_STAT_cpl_drop, QPq_CQ_tail, QPq_CQ_head]) (evParts ++ [Part.free, Part.sram, Part.ueKnown,
    Part.writebacks, Part.inflight, Part.fpl, Part.net])) ∧
    (∀ c p, exec (.cvCalibrate c p) s = .next t → Keeps s t (evFlds ++ [CVc_STAT_state, CVc_CAL_bg_busy, CVc_CAL_bg_slice, CVc_CAL_full,
      FPL_STAT_cpl_drop, QPq_CQ_tail, QPq_CQ_head]) (evParts ++ [Part.sram, Part.ueKnown, Part.writebacks, Part.cvb, Part.fpl, Part.net])) ∧
    (∀ c p, exec (.cvInject c p) s = .next t → Keeps s t (evFlds ++ [CVc_STAT_cur_input, CVc_STAT_state, CVc_CAL_full_busy, CVc_CAL_bg_busy,
      CVc_CAL_ok, CVc_CAL_bg_slice, CVc_INJk_start, CVc_INJk_urgent, CVc_INJk_shift, CVc_INJk_log2n, CVc_INJk_input, CVc_TRIM_gain, CVc_TRIM_offset,
    FPL_STAT_cpl_drop, QPq_CQ_tail, QPq_CQ_head]) (evParts ++ [Part.sram, Part.ueKnown, Part.writebacks, Part.inflight, Part.cvb, Part.fpl,
      Part.net])) ∧
    (∀ c p, exec (.cvOpenWireTest c p) s = .next t → Keeps s t (evFlds ++ [FPL_STAT_cpl_drop, QPq_CQ_tail, QPq_CQ_head]) (evParts ++ [Part.sram,
      Part.ueKnown, Part.writebacks, Part.cvb, Part.fpl, Part.net])) ∧
    (∀ c p, exec (.prtConfig c p) s = .next t → Keeps s t (evFlds ++ [FPL_STAT_cpl_drop, QPq_CQ_tail, QPq_CQ_head]) (evParts ++ [Part.sram,
      Part.ueKnown, Part.writebacks, Part.inflight, Part.bdg, Part.fpl, Part.net])) ∧
    (∀ c p, exec (.prtTest c p) s = .next t → Keeps s t (evFlds ++ [BDG_STATE_safe_en1, BDG_STATE_safe_en0, FPL_STAT_cpl_drop, QPq_CQ_tail,
      QPq_CQ_head]) (evParts ++ [Part.sram, Part.ueKnown, Part.writebacks, Part.inflight, Part.bdg, Part.fpl, Part.net])) ∧
    (∀ c p, exec (.mtrRead c p) s = .next t → Keeps s t (evFlds ++ [FPL_STAT_cpl_drop, QPq_CQ_tail, QPq_CQ_head]) (evParts ++ [Part.sram,
      Part.ueKnown, Part.writebacks, Part.fpl, Part.net])) ∧
    (∀ c p, exec (.ledgerFetch c p) s = .next t → Keeps s t (evFlds ++ [FPL_STAT_cpl_drop, QPq_CQ_tail, QPq_CQ_head]) (evParts ++ [Part.sram,
      Part.ueKnown, Part.writebacks, Part.fpl, Part.net])) ∧
    (∀ c p, exec (.mtrCal c p) s = .next t → Keeps s t (evFlds ++ [FPL_STAT_cpl_drop, QPq_CQ_tail, QPq_CQ_head, MTR_VGAIN_gain, MTR_IGAIN_gain,
      MTR_OFS_i_ofs, MTR_OFS_v_ofs]) (evParts ++ [Part.sram, Part.ueKnown, Part.writebacks, Part.fpl, Part.net, Part.mtr])) ∧
    (∀ c p, exec (.owlArm c p) s = .next t → Keeps s t (evFlds ++ [FPL_STAT_cpl_drop, QPq_CQ_tail, QPq_CQ_head, OWL_CTL_pre, OWL_CTL_mode,
      OWL_TRIG_MASK_mask, OWL_STAT_wrapped, OWL_STAT_wptr, OWL_OLDEST_idx, OWL_TRIG_PTR_valid]) (evParts ++ [Part.sram, Part.owlWords, Part.ueKnown,
    Part.writebacks, Part.fpl, Part.net])) ∧
    (∀ c p, exec (.owlTrigger c p) s = .next t → Keeps s t (evFlds ++ [FPL_STAT_cpl_drop, QPq_CQ_tail, QPq_CQ_head]) (evParts ++ [Part.sram,
      Part.ueKnown, Part.writebacks, Part.fpl, Part.net])) ∧
    (∀ c p errs, exec (.owlFetch c p errs) s = .next t → Keeps s t (evFlds ++ [SYS_ECC_CE_count, SYS_ECC_LAST_addr, SYS_ECC_INFO_initiator,
      SYS_ECC_INFO_region, SYS_ECC_INFO_ue_cnt, FPL_STAT_cpl_drop, QPq_CQ_tail, QPq_CQ_head]) (evParts ++ [Part.free, Part.sram, Part.ueKnown,
    Part.writebacks, Part.inflight, Part.fpl, Part.net])) ∧
    (∀ c p, exec (.replayStart c p) s = .next t → Keeps s t (evFlds ++ legFlds ++ [LEG_OGATE_replay, PRT_LNKl_STAT_chop, FPL_STAT_cpl_drop,
      QPq_CQ_tail, QPq_CQ_head, OWL_RP_STAT_result, OWL_RP_STAT_running, OWL_RP_STAT_div_cnt]) (evParts ++ [Part.sram, Part.ueKnown, Part.writebacks,
    Part.gen, Part.links, Part.fpl, Part.net])) ∧
    (∀ c p, exec (.settEnumerate c p) s = .next t → Keeps s t (evFlds ++ [FPL_STAT_cpl_drop, QPq_CQ_tail, QPq_CQ_head, SETTp_STAT_enum_busy,
      SETT_NODEe_CFG_present]) (evParts ++ [Part.sram, Part.ueKnown, Part.writebacks, Part.fpl, Part.net, Part.setts])) ∧
    (∀ c p, exec (.settNodeRead c p) s = .next t → Keeps s t (evFlds ++ [FPL_STAT_cpl_drop, QPq_CQ_tail, QPq_CQ_head]) (evParts ++ [Part.sram,
      Part.ueKnown, Part.writebacks, Part.fpl, Part.net, Part.setts])) ∧
    (∀ c p, exec (.settNodeWrite c p) s = .next t → Keeps s t (evFlds ++ [FPL_STAT_cpl_drop, QPq_CQ_tail, QPq_CQ_head]) (evParts ++ [Part.sram,
      Part.ueKnown, Part.writebacks, Part.fpl, Part.net, Part.setts])) ∧
    (∀ c p, exec (.lcQuery c p) s = .next t → Keeps s t (evFlds ++ [FPL_STAT_cpl_drop, QPq_CQ_tail, QPq_CQ_head]) (evParts ++ [Part.sram,
      Part.ueKnown, Part.writebacks, Part.fpl, Part.net])) ∧
    (∀ c p, exec (.lcAdvance c p) s = .next t → Keeps s t (evFlds ++ [FPL_STAT_cpl_drop, QPq_CQ_tail, QPq_CQ_head, LCS_STATE_pending,
      LCS_STATE_next]) (evParts ++ [Part.sram, Part.ueKnown, Part.writebacks, Part.fpl, Part.net, Part.pwr])) ∧
    (∀ c p, exec (.fwUpdate c p) s = .next t → Keeps s t (evFlds ++ [FPL_STAT_cpl_drop, QPq_CQ_tail, QPq_CQ_head]) (evParts ++ [Part.sram,
      Part.ueKnown, Part.writebacks, Part.fpl, Part.net, Part.pwr])) ∧
    (∀ c p, exec (.keyRevoke c p) s = .next t → Keeps s t (evFlds ++ [FPL_STAT_cpl_drop, QPq_CQ_tail, QPq_CQ_head, LCS_KEYS_revoked]) (evParts
      ++ [Part.sram, Part.ueKnown, Part.writebacks, Part.fpl, Part.net])) ∧
    (∀ c p, exec (.bistReport c p) s = .next t → Keeps s t (evFlds ++ [FPL_STAT_cpl_drop, QPq_CQ_tail, QPq_CQ_head]) (evParts ++ [Part.sram,
      Part.ueKnown, Part.writebacks, Part.fpl, Part.net])) ∧
    (∀ c p, exec (.selftestRun c p) s = .next t → Keeps s t (evFlds ++ legFlds ++ [LEG_OGATE_selftest, PRT_LNKl_STAT_chop, FPL_STAT_cpl_drop,
      QPq_CQ_tail, QPq_CQ_head, BIST_STAT_running]) (evParts ++ [Part.sram, Part.ueKnown, Part.writebacks, Part.gen, Part.links, Part.fpl, Part.net,
    Part.pwr])) ∧
    (∀ c p, exec (.diagPeek c p) s = .next t → Keeps s t (evFlds ++ [CHn_SLACK_MIN_slack_min, SYS_ECC_CE_count, SYS_ECC_LAST_addr,
      SYS_ECC_INFO_initiator, SYS_ECC_INFO_region, SYS_ECC_INFO_ue_cnt, CVc_INJRk_new, SEQn_OVR_count, SEQn_RESk_new, PIFn_ZSTAT_dev_cnt,
    PIFn_EDGE_quad_cnt, PIFn_EDGE_edge_fault_cnt, PIFn_SER_STAT_ovr_cnt, PIFn_SER_STAT_crc_err_cnt, CHn_CSTAT_per_clamp_cnt, CHn_CSTAT_mismatch_cnt,
      LEGk_STAT_drop_cnt, LEGk_STAT_stretch_cnt, LEGk_CSTAT_per_clamp_cnt, LEGk_CSTAT_mismatch_cnt, SPn_SPEC_REJ_swap, SPn_SPEC_REJ_sat,
    SPn_SPEC_REJ_innov, SPn_MISS_miss_cnt, SPn_OSC_STAT_osc_cnt, CHn_OCSTAT_cyc_cnt, PRT_LNKl_VMAX_vmax, PRT_LS_CNTp_mis_cnt, PRT_LS_CNTp_lat_cnt,
      PRT_LS_CNTp_par_cnt, PRT_LS_CNTp_test_cnt, PRT_CHUCK_STAT_resample, PRT_CHUCK_STAT_disagree, BDG_WDG_STATc_miss_cnt, TLS_CNT_miss_cnt,
    TLS_CNT_late_cnt, TLS_CNT_crc_err, TLS_ALIGN_err_max, FPL_STAT_rej, FPL_STAT_cpl_drop, FPL_EVT_STAT_ovf, FPL_SLOTST_e2e_cnt, QPq_CQ_tail,
      QPq_CQ_head, QPq_STAT_wexp_cnt, QPq_STAT_qfull_cnt, HLK_STAT_crc_err, HLK_STAT_abort, HLK_STAT_fast_rej, CANx_STAT_e2e_err, SETTp_CNT_overrun,
    SETTp_CNT_crc_err, SETTp_CNT_breaks, SETT_NODEe_STAT_miss_cnt, MTR_STAT_held, THM_MAX_max, SYS_BUSERR_ADDR_addr]) (evParts ++ [Part.free,
      Part.sram, Part.mpSram, Part.ueKnown, Part.writebacks, Part.inflight, Part.ports, Part.fpl, Part.net]))

/-- The frames of the commands of the host links, Sett, the meter, the check-value unit, Owl, power and life cycle. -/
def Obligations.FramesLinksMeterAndPower : Prop :=
  ∀ s t : State, s.wf = true →
    (∀ b, exec (.poll b) s = .next t → Keeps s t (evFlds ++ legFlds ++ stateFlds ++ [CHn_GEN_pend_gen, CHn_CSTAT_pend, LEGk_GEN_pend_gen,
      LEGk_CSTAT_pend, SPn_FLD_STAT_task, SPn_FLD_STAT_engine, CHn_STATE_cause, CHn_STATE_sel, CHn_SEL_THR_thr, CHn_OCSTAT_cyc_run,
    PRT_LNKl_STAT_lstate, PRT_LNKl_STAT_chop, TLS_STAT_nr_cause, TLS_STAT_ready, FPL_STAT_rej, FPL_STAT_cpl_drop, FPL_SLOTST_e2e_cnt, QPq_SQ_tail,
      QPq_SQ_head, QPq_CQ_tail, QPq_CQ_head, QPq_STAT_qfull_cnt, QPq_STAT_pending, HLK_ADDR_valid, HLK_ADDR_addr, HLK_STAT_crc_err,
    HLK_STAT_fast_rej]) (evParts ++ [Part.free, Part.sram, Part.ueKnown, Part.writebacks, Part.gen, Part.chans, Part.sps, Part.links, Part.chuck,
      Part.tls, Part.fpl, Part.net])) ∧
    (∀ b, exec (.hlkCmd b) s = .next t → Keeps s t (evFlds ++ legFlds ++ stateFlds ++ [CHn_GEN_pend_gen, CHn_CSTAT_pend, LEGk_GEN_pend_gen,
      LEGk_CSTAT_pend, SPn_FLD_STAT_task, SPn_FLD_STAT_engine, CHn_STATE_cause, CHn_STATE_sel, CHn_SEL_THR_thr, CHn_OCSTAT_cyc_run,
    PRT_LNKl_STAT_lstate, PRT_LNKl_STAT_chop, TLS_STAT_nr_cause, TLS_STAT_ready, FPL_STAT_rej, FPL_STAT_cpl_drop, FPL_SLOTST_e2e_cnt, QPq_SQ_tail,
      QPq_SQ_head, QPq_CQ_tail, QPq_CQ_head, QPq_STAT_qfull_cnt, QPq_STAT_pending, HLK_ADDR_valid, HLK_ADDR_addr, HLK_STAT_crc_err,
    HLK_STAT_fast_rej]) (evParts ++ [Part.free, Part.sram, Part.ueKnown, Part.writebacks, Part.gen, Part.chans, Part.sps, Part.links, Part.chuck,
      Part.tls, Part.fpl, Part.net])) ∧
    (∀ b, exec (.hlkFast b) s = .next t → Keeps s t (evFlds ++ legFlds ++ stateFlds ++ [CHn_GEN_pend_gen, CHn_CSTAT_pend, LEGk_GEN_pend_gen,
      LEGk_CSTAT_pend, SPn_FLD_STAT_task, SPn_FLD_STAT_engine, CHn_STATE_cause, CHn_STATE_sel, CHn_SEL_THR_thr, CHn_OCSTAT_cyc_run,
    PRT_LNKl_STAT_lstate, PRT_LNKl_STAT_chop, TLS_STAT_nr_cause, TLS_STAT_ready, FPL_STAT_rej, FPL_STAT_cpl_drop, FPL_SLOTST_e2e_cnt, QPq_SQ_tail,
      QPq_SQ_head, QPq_CQ_tail, QPq_CQ_head, QPq_STAT_qfull_cnt, QPq_STAT_pending, HLK_ADDR_valid, HLK_ADDR_addr, HLK_STAT_crc_err,
    HLK_STAT_fast_rej]) (evParts ++ [Part.free, Part.sram, Part.ueKnown, Part.writebacks, Part.gen, Part.chans, Part.sps, Part.links, Part.chuck,
      Part.tls, Part.fpl, Part.net])) ∧
    (∀ b, exec (.discover b) s = .next t → Keeps s t (evFlds ++ legFlds ++ stateFlds ++ [CHn_GEN_pend_gen, CHn_CSTAT_pend, LEGk_GEN_pend_gen,
      LEGk_CSTAT_pend, SPn_FLD_STAT_task, SPn_FLD_STAT_engine, CHn_STATE_cause, CHn_STATE_sel, CHn_SEL_THR_thr, CHn_OCSTAT_cyc_run,
    PRT_LNKl_STAT_lstate, PRT_LNKl_STAT_chop, TLS_STAT_nr_cause, TLS_STAT_ready, FPL_STAT_rej, FPL_STAT_cpl_drop, FPL_SLOTST_e2e_cnt, QPq_SQ_tail,
      QPq_SQ_head, QPq_CQ_tail, QPq_CQ_head, QPq_STAT_qfull_cnt, QPq_STAT_pending, HLK_ADDR_valid, HLK_ADDR_addr, HLK_STAT_crc_err,
    HLK_STAT_fast_rej]) (evParts ++ [Part.free, Part.sram, Part.ueKnown, Part.writebacks, Part.gen, Part.chans, Part.sps, Part.links, Part.chuck,
      Part.tls, Part.fpl, Part.net])) ∧
    (∀ b, exec (.hlkAssign b) s = .next t → Keeps s t (evFlds ++ legFlds ++ stateFlds ++ [CHn_GEN_pend_gen, CHn_CSTAT_pend, LEGk_GEN_pend_gen,
      LEGk_CSTAT_pend, SPn_FLD_STAT_task, SPn_FLD_STAT_engine, CHn_STATE_cause, CHn_STATE_sel, CHn_SEL_THR_thr, CHn_OCSTAT_cyc_run,
    PRT_LNKl_STAT_lstate, PRT_LNKl_STAT_chop, TLS_STAT_nr_cause, TLS_STAT_ready, FPL_STAT_rej, FPL_STAT_cpl_drop, FPL_SLOTST_e2e_cnt, QPq_SQ_tail,
      QPq_SQ_head, QPq_CQ_tail, QPq_CQ_head, QPq_STAT_qfull_cnt, QPq_STAT_pending, HLK_ADDR_valid, HLK_ADDR_addr, HLK_STAT_crc_err,
    HLK_STAT_fast_rej]) (evParts ++ [Part.free, Part.sram, Part.ueKnown, Part.writebacks, Part.gen, Part.chans, Part.sps, Part.links, Part.chuck,
      Part.tls, Part.fpl, Part.net])) ∧
    (exec .hlkFrameAbort s = .next t → Keeps s t [HLK_STAT_abort] []) ∧
    (∀ x b, exec (.canSegment x b) s = .next t → Keeps s t (evFlds ++ legFlds ++ stateFlds ++ [CHn_GEN_pend_gen, CHn_CSTAT_pend, LEGk_GEN_pend_gen,
      LEGk_CSTAT_pend, SPn_FLD_STAT_task, SPn_FLD_STAT_engine, CHn_STATE_cause, CHn_STATE_sel, CHn_SEL_THR_thr, CHn_OCSTAT_cyc_run,
    PRT_LNKl_STAT_lstate, PRT_LNKl_STAT_chop, TLS_STAT_nr_cause, TLS_STAT_ready, FPL_STAT_rej, FPL_STAT_cpl_drop, QPq_SQ_tail, QPq_SQ_head,
      QPq_CQ_tail, QPq_CQ_head, QPq_STAT_qfull_cnt, QPq_STAT_pending]) (evParts ++ [Part.free, Part.sram, Part.ueKnown, Part.writebacks, Part.gen,
    Part.chans, Part.sps, Part.links, Part.tls, Part.fpl, Part.net])) ∧
    (∀ x, exec (.canSegmentGap x) s = .next t → Keeps s t [FPL_STAT_rej] [Part.net]) ∧
    (∀ x n b, exec (.canSetpoint x n b) s = .next t → Keeps s t (evFlds ++ [FPL_SLOTST_e2e_cnt, CANx_STAT_e2e_err]) (evParts ++ [Part.chuck,
      Part.fpl])) ∧
    (∀ x, exec (.canBusoff x) s = .next t → Keeps s t (evFlds ++ [CANx_STAT_state]) evParts) ∧
    (∀ n g, exec (.slotStale n g) s = .next t → Keeps s t (evFlds ++ [FPL_SLOTST_stale]) (evParts ++ [Part.chuck])) ∧
    (∀ ts0 t0 rate, exec (.ptpSync ts0 t0 rate) s = .next t → Keeps s t [ETH_PTP_TS_LO_ts0, ETH_PTP_TS_HI_ts0, ETH_PTP_T_LO_t0, ETH_PTP_T_HI_t0,
      ETH_PTP_RATE_rate, ETH_PTP_STAT_valid] []) ∧
    (exec .ptpLost s = .next t → Keeps s t (evFlds ++ [ETH_PTP_STAT_valid]) evParts) ∧
    (∀ a c, exec (.plicClaim a c) s = .next t → Keeps s t (evFlds ++ legFlds ++ stateFlds ++ readFlds) (evParts ++ [Part.free, Part.sram,
      Part.mpSram, Part.ueKnown, Part.writebacks, Part.inflight, Part.ports, Part.gen, Part.chans, Part.sps, Part.links, Part.net])) ∧
    (∀ a c, s.owl.replay = none → exec (.plicClaim a c) s = .next t → Keeps s t (evFlds ++ [SYS_BUSERR_ADDR_addr]) (evParts ++ [Part.free,
      Part.ports, Part.net])) ∧
    (∀ a c v, exec (.plicComplete a c v) s = .next t → Keeps s t (evFlds ++ [SYS_BUSERR_ADDR_addr, CHn_BUDGET_lat_full,
      CHn_BUDGET_budget]) (evParts ++ [Part.ports, Part.net])) ∧
    (∀ p, exec (.settFastStart p) s = .next t → Keeps s t (evFlds ++ [SETTp_STAT_mode, SETTp_CNT_overrun, SETT_NODEe_STAT_miss_cnt,
      SETT_NODEe_STAT_consec, SETT_NODEe_STAT_miss]) (evParts ++ [Part.inflight, Part.setts])) ∧
    (∀ p b arrived crcOk dur slots, exec (.settFastReturn p b arrived crcOk dur slots) s = .next t → Keeps s t (evFlds ++ legFlds ++ [CHn_STATE_sel,
      CHn_STATE_pat, CHn_STATE_held, CHn_STATE_ss, CHn_SEL_THR_thr, CHn_SWFAIL_ls, CHn_SWFAIL_hs, PRT_LNKl_STAT_chop, SETTp_STAT_mode,
    SETTp_TIME_fast_dur, SETTp_CNT_crc_err, SETT_NODEe_STAT_miss_cnt, SETT_NODEe_STAT_consec, SETT_NODEe_STAT_miss, SETT_NODEe_LIVE0_slot,
      SETT_NODEe_LIVE1_slot, SETT_NODEe_LIVE_TS_ts]) (evParts ++ [Part.inflight, Part.gen, Part.links, Part.setts, Part.sett])) ∧
    (∀ p b, exec (.settSlowStart p b) s = .next t → Keeps s t [] [Part.setts]) ∧
    (∀ p b arrived crcOk reply, exec (.settSlowReply p b arrived crcOk reply) s = .next t → Keeps s t (evFlds ++ legFlds ++ [CHn_STATE_sel,
      CHn_STATE_pat, CHn_STATE_held, CHn_STATE_ss, CHn_SEL_THR_thr, CHn_SWFAIL_ls, CHn_SWFAIL_hs, PRT_LNKl_STAT_chop, FPL_STAT_cpl_drop, QPq_CQ_tail,
    QPq_CQ_head, SETTp_STAT_mode, SETTp_CNT_crc_err, SETT_NODEe_STAT_consec, SETT_NODEe_LIVE0_slot, SETT_NODEe_LIVE1_slot, SETT_NODEe_LIVE_TS_ts,
      MTR_SEQ_seq, MTR_STAT_pack_unver, MTR_CURPACKk_id]) (evParts ++ [Part.sram, Part.ueKnown, Part.writebacks, Part.inflight, Part.gen, Part.links,
    Part.tls, Part.fpl, Part.net, Part.setts, Part.sett, Part.mtr, Part.pwr])) ∧
    (exec .packidRead s = .next t → Keeps s t [] [Part.setts]) ∧
    (exec .packUnverified s = .next t → Keeps s t [MTR_STAT_pack_unver] []) ∧
    (∀ p loop r, exec (.settAssignReply p loop r) s = .next t → Keeps s t (evFlds ++ [SETTp_STAT_enum_busy, SETTp_STAT_exhausted, SETTp_STAT_nodes,
      SETTp_TIME_loop, SETTp_BUDGET_d_line, SETTp_BUDGET_d_ring, SETT_NODEe_ID_LO_id, SETT_NODEe_ID_HI_id, SETT_NODEe_CFG_present,
    SETT_NODEe_CFG_kind, SETT_NODEe_CFG_slot8, SETT_NODEe_CFG_class, SETT_NODEe_CFG_side, SETT_NODEe_CFG_leg, SETT_NODEe_CFG_ch,
      SETT_NODEe_CFG_ch_en, SETT_NODEe_CFG_pos]) (evParts ++ [Part.setts, Part.sett])) ∧
    (∀ p quiet endA endB, exec (.ringBreak p quiet endA endB) s = .next t → Keeps s t (evFlds ++ [SETTp_STAT_end_b, SETTp_STAT_end_a,
      SETTp_CNT_breaks]) (evParts ++ [Part.setts])) ∧
    (∀ p arrived, exec (.closeTest p arrived) s = .next t → Keeps s t [] [Part.setts]) ∧
    (∀ smp held clip, exec (.meterBlock smp held clip) s = .next t → Keeps s t (evFlds ++ [MTR_EPOS_LO_total, MTR_EPOS_HI_total, MTR_ENEG_LO_total,
      MTR_ENEG_HI_total, MTR_QPOS_LO_total, MTR_QPOS_HI_total, MTR_QNEG_LO_total, MTR_QNEG_HI_total, MTR_STAT_gap, MTR_STAT_held]) (evParts
    ++ [Part.mtr])) ∧
    (exec .ledgerRecord s = .next t → Keeps s t (evFlds ++ [MTR_SEQ_seq]) (evParts ++ [Part.tls, Part.mtr, Part.pwr])) ∧
    (∀ a v, exec (.meterRestore a v) s = .next t → Keeps s t (evFlds ++ [SYS_BUSERR_ADDR_addr, MTR_RESTORE_GO_go, MTR_EPOS_LO_total,
      MTR_EPOS_HI_total, MTR_ENEG_LO_total, MTR_ENEG_HI_total, MTR_QPOS_LO_total, MTR_QPOS_HI_total, MTR_QNEG_LO_total, MTR_QNEG_HI_total,
    MTR_SEQ_seq, MTR_STAT_ret_valid]) (evParts ++ [Part.ports, Part.mtr])) ∧
    (∀ a c v, exec (.cvuStart a c v) s = .next t → Keeps s t (evFlds ++ [SYS_BUSERR_ADDR_addr, CVUc_CTL_alive_clr, CVUc_CTL_start]) (evParts
      ++ [Part.ports, Part.cvus])) ∧
    (∀ a c w v, exec (.cvuData a c w v) s = .next t → Keeps s t (evFlds ++ [SYS_BUSERR_ADDR_addr, CVUc_DATA8_data, CVUc_DATA16_data,
      CVUc_DATA32_data]) (evParts ++ [Part.ports, Part.cvus])) ∧
    (∀ a c, exec (.cvuResultRead a c) s = .next t → Keeps s t (evFlds ++ legFlds ++ stateFlds ++ readFlds) (evParts ++ [Part.free, Part.sram,
      Part.mpSram, Part.ueKnown, Part.writebacks, Part.inflight, Part.ports, Part.gen, Part.chans, Part.sps, Part.links, Part.net])) ∧
    (∀ a c, s.owl.replay = none → exec (.cvuResultRead a c) s = .next t → Keeps s t (evFlds ++ [SYS_BUSERR_ADDR_addr]) (evParts ++ [Part.free,
      Part.ports])) ∧
    (∀ a c v, exec (.cvuAlive a c v) s = .next t → Keeps s t (evFlds ++ [SYS_BUSERR_ADDR_addr, CVUc_ALIVE_counter, CVUc_STAT_alive,
      CVUc_STAT_last]) (evParts ++ [Part.ports, Part.cvus])) ∧
    (∀ a c v, exec (.cvuAliveClr a c v) s = .next t → Keeps s t (evFlds ++ [SYS_BUSERR_ADDR_addr, CVUc_CTL_alive_clr, CVUc_CTL_start]) (evParts
      ++ [Part.ports, Part.cvus])) ∧
    (exec .owlTickHeader s = .next t → Keeps s t [FPL_EVT_STAT_lost, OWL_LOST_count, PLIC_PEND_bits] evParts) ∧
    (exec .owlStop s = .next t → Keeps s t (evFlds ++ [OWL_STAT_wrapped, OWL_STAT_wptr, OWL_OLDEST_idx, OWL_TRIG_PTR_valid,
      OWL_TRIG_PTR_idx]) (evParts ++ [Part.owlWords, Part.ueKnown, Part.writebacks])) ∧
    (∀ a v errs, exec (.owlOffload a v errs) s = .next t → Keeps s t (evFlds ++ [SYS_BUSERR_ADDR_addr, OWL_ETH_go, OWL_ETH_port, SYS_ECC_CE_count,
      SYS_ECC_LAST_addr, SYS_ECC_INFO_initiator, SYS_ECC_INFO_region, SYS_ECC_INFO_ue_cnt, OWL_ETH_busy]) (evParts ++ [Part.ports, Part.free,
    Part.ueKnown, Part.writebacks, Part.inflight])) ∧
    (exec .owlOffloadDone s = .next t → Keeps s t (evFlds ++ [OWL_ETH_busy]) (evParts ++ [Part.net])) ∧
    (∀ a v, exec (.owlLoadStore a v) s = .next t → Keeps s t (evFlds ++ [SYS_BUSERR_ADDR_addr, OWL_LOAD_D2_data, OWL_LOAD_IDX_idx, OWL_OLDEST_idx,
      OWL_STAT_wrapped, OWL_STAT_wptr]) (evParts ++ [Part.ports, Part.owlWords])) ∧
    (exec .replayHeader s = .next t → Keeps s t (evFlds ++ legFlds ++ stateFlds ++ [CHn_BUDGET_lat_full, CHn_BUDGET_budget, SYS_PROFILE_pending,
      SPn_SAT_first_period, SPn_SAT_first_stage, SPn_SAT_modulate, SPn_SAT_limit, SPn_SAT_control, SPn_SAT_correct, SPn_SAT_predict,
    SPn_SAT_transform, CVc_STAT_cur_input, CVc_STAT_state, CVc_CAL_bg_busy, CVc_CAL_ok, CVc_CAL_bg_slice, CVc_TRIM_gain, CVc_TRIM_offset,
      SEQn_OVR_count, SEQn_STAT_queued, SEQn_STAT_running, SEQn_TRIG_TS_LO_ts, SEQn_TRIG_TS_HI_ts, PIFn_POS_count, PIFn_REVPOS_rev_pos,
    PIFn_SPD_speed, PIFn_STAT_dir, PIFn_STAT_spd_valid, CHn_GEN_act_gen, CHn_CSTAT_per_clamp_cnt, CHn_CSTAT_mismatch_cnt, CHn_CSTAT_half,
      CHn_CSTAT_pend, CHn_CSTAT_mismatch, CHn_CSTAT_per_clamp, CHn_PERLAST_per, LEGk_STAT_drop_cnt, LEGk_STAT_stretch_cnt, LEGk_GEN_act_gen,
    LEGk_CSTAT_per_clamp_cnt, LEGk_CSTAT_mismatch_cnt, LEGk_CSTAT_half, LEGk_CSTAT_pend, LEGk_CSTAT_mismatch, LEGk_CSTAT_per_clamp, LEGk_PERLAST_per,
      LEG_OGATE_replay, LEG_OGATE_standby, SPn_CTL_spec, SPn_STEP_step_inact, SPn_STEP_step_act, SPn_BANK_int_frz, SPn_BANK_fb, SPn_BANK_swap,
    SPn_BANK_active, SPn_FBSTAT_hold_left, SPn_FBSTAT_expired, SPn_FBSTAT_hold, SPn_FBSTAT_absent, SPn_FBSTAT_lost, SPn_MISS_miss_cnt,
      SPn_MISS_miss_now, SPn_OSC_STAT_last_cnt, SPn_PG_STAT_busy, SPn_FLD_STAT_rec_cnt, SPn_FLD_STAT_ovm_active, SPn_FLD_STAT_fw_active,
    SPn_FLD_STAT_obs_valid, SPn_FLD_STAT_task, SPn_FLD_STAT_engine, SPn_ANG_M_angle, SPn_ANG_U_angle, SPn_OBS_ANG_angle, SPn_OBS_SPD_speed,
      SPn_FW_ID_id_fw, SPn_KE_EST_psi_f, SPn_GRID_F_freq, SPn_TLIM_EFF_i_lim, SPn_TLIM_EFF_t_lim, CHn_STATE_cause, CHn_STATE_sel,
    CHn_STATE_motoring_only, CHn_SEL_THR_thr, CHn_OCSTAT_cyc_run, PRT_LNKl_STAT_lstate, PRT_LNKl_STAT_chop, TLS_STAT_nr_cause, TLS_STAT_aligned,
      TLS_STAT_ready, TLS_STAT_role, TLS_CNT_miss_cnt, TLS_CNT_late_cnt, OWL_RP_STAT_result, OWL_RP_STAT_running, OWL_RP_STAT_div_cnt,
    OWL_RP_DIV_PER_period, OWL_RP_DIV_WORD_kind, OWL_RP_DIV_WORD_ch, OWL_RP_DIV_WORD_idx, CHn_PERIOD_CNT_count]) (evParts ++ [Part.free,
      Part.latheWords, Part.ueKnown, Part.writebacks, Part.inflight, Part.cvb, Part.pos, Part.gen, Part.chans, Part.sps, Part.links, Part.bdg,
    Part.tls, Part.net, Part.setts])) ∧
    (∀ errs, exec (.replayInput errs) s = .next t → Keeps s t (evFlds ++ legFlds ++ stateFlds ++ [SYS_ECC_CE_count, SYS_ECC_LAST_addr,
      SYS_ECC_INFO_initiator, SYS_ECC_INFO_region, SYS_ECC_INFO_ue_cnt, PIFn_POS_count, PIFn_REVPOS_rev_pos, PIFn_SPD_speed, PIFn_STAT_dir,
    PIFn_STAT_spd_valid, SPn_CTL_spec, SPn_BANK_int_frz, SPn_BANK_fb, SPn_BANK_active, SPn_FBSTAT_absent, SPn_FBSTAT_lost, SPn_FLD_STAT_task,
      SPn_FLD_STAT_engine, SPn_OBS_ANG_angle, SPn_OBS_SPD_speed, SPn_KE_EST_psi_f, SPn_TLIM_EFF_i_lim, SPn_TLIM_EFF_t_lim, CHn_OCSTAT_cyc_run,
    PRT_LNKl_STAT_chop, CHn_PERIOD_CNT_count]) (evParts ++ [Part.free, Part.latheWords, Part.ueKnown, Part.writebacks, Part.inflight, Part.pos,
      Part.gen, Part.chans, Part.sps, Part.links, Part.chuck, Part.net])) ∧
    (exec .replayEnd s = .next t → Keeps s t (evFlds ++ legFlds ++ stateFlds ++ [PIFn_POS_count, PIFn_REVPOS_rev_pos, PIFn_SPD_speed, PIFn_STAT_dir,
      PIFn_STAT_spd_valid, LEG_OGATE_replay, SPn_CTL_spec, SPn_BANK_int_frz, SPn_BANK_fb, SPn_BANK_active, SPn_FBSTAT_absent, SPn_FBSTAT_lost,
    SPn_FLD_STAT_task, SPn_FLD_STAT_engine, SPn_OBS_ANG_angle, SPn_OBS_SPD_speed, SPn_KE_EST_psi_f, SPn_TLIM_EFF_i_lim, SPn_TLIM_EFF_t_lim,
      CHn_OCSTAT_cyc_run, PRT_LNKl_STAT_chop, OWL_RP_STAT_result, OWL_RP_STAT_running, OWL_RP_STAT_div_cnt, OWL_RP_DIV_PER_period,
    OWL_RP_DIV_WORD_kind, OWL_RP_DIV_WORD_ch, OWL_RP_DIV_WORD_idx, CHn_PERIOD_CNT_count]) (evParts ++ [Part.latheWords, Part.ueKnown,
      Part.writebacks, Part.pos, Part.gen, Part.chans, Part.sps, Part.links])) ∧
    (∀ a v, exec (.replayAbort a v) s = .next t → Keeps s t (evFlds ++ legFlds ++ stateFlds ++ [SYS_BUSERR_ADDR_addr, OWL_CTL_pre, OWL_CTL_rp_abort,
      OWL_CTL_trig, OWL_CTL_mode, OWL_CTL_arm, LEG_OGATE_replay, SPn_FLD_STAT_task, SPn_FLD_STAT_engine, CHn_OCSTAT_cyc_run, PRT_LNKl_STAT_chop,
    OWL_RP_STAT_result, OWL_RP_STAT_running, OWL_STAT_wrapped, OWL_STAT_wptr, OWL_OLDEST_idx, OWL_TRIG_PTR_valid]) (evParts ++ [Part.ports, Part.gen,
      Part.chans, Part.sps, Part.links, Part.owlWords, Part.ueKnown, Part.writebacks])) ∧
    (exec .configDigestUpdate s = .next t → Keeps s t [FPL_EVT_STAT_lost, OWL_LOST_count, OWL_DIGESTk_digest, PLIC_PEND_bits] evParts) ∧
    (∀ strap ign secs, s.pwr.stage ≠ 0 → exec (.porstRelease strap ign secs) s = .next t → Keeps s t [] []) ∧
    (∀ a v, v % 2 ^ 16 ≠ 0x5A5A → exec (.pwrReset a v) s = .next t → Keeps s t (evFlds ++ [SYS_BUSERR_ADDR_addr, PWR_RESET_key]) (evParts
      ++ [Part.ports])) ∧
    (∀ ok phase, exec (.badgerStartDone ok phase) s = .next t → Keeps s t (evFlds ++ legFlds ++ [CLK_STATUS_ckb_ok, CLK_STATUS_xin_ok,
      CLK_STATUS_s_lock, CLK_STATUS_m_lock, CLK_STATUS_a_lock, CLK_STATUS_p_lock, CLK_STATUS_c_lock, LEG_OGATE_selftest, PRT_LNKl_STAT_chop,
    MTR_EPOS_LO_total, MTR_EPOS_HI_total, MTR_ENEG_LO_total, MTR_ENEG_HI_total, MTR_QPOS_LO_total, MTR_QPOS_HI_total, MTR_QNEG_LO_total,
      MTR_QNEG_HI_total, MTR_SEQ_seq, MTR_STAT_ret_valid, MTR_CURPACKk_id, PWR_STAT_start, PWR_STAT_prev_fail, BIST_STAT_running,
    CLK_CKA_PHASE_phase]) (evParts ++ [Part.gen, Part.links, Part.pwr])) ∧
    (∀ res phase fail word region ms, exec (.startupBistDone res phase fail word region ms) s = .next t → Keeps s t (evFlds ++ legFlds
      ++ [LEG_OGATE_selftest, PRT_LNKl_STAT_chop, BDG_STATE_fault_n, BDG_STATE_unit, PWR_STAT_bist_fail, BIST_STAT_running, BIST_STAT_result,
    BIST_STAT_fail]) (evParts ++ [Part.gen, Part.links, Part.bdg, Part.pwr])) ∧
    (exec .bootLoadDone s = .next t → Keeps s t (evFlds ++ [BDG_STATE_fault_n, OWL_CTL_mode, OWL_STAT_wrapped, OWL_STAT_wptr, OWL_OLDEST_idx,
      OWL_TRIG_PTR_valid, LCS_EPOCH_img, LCS_BOOT_fallback, LCS_BOOT_area]) (evParts ++ [Part.sram, Part.owlWords, Part.ueKnown, Part.writebacks,
    Part.pwr])) ∧
    (exec .devReady s = .next t → Keeps s t (evFlds ++ legFlds ++ [LEG_OGATE_reset, PRT_LNKl_STAT_chop, BDG_STATE_fault_n, BDG_STATE_safe_en1,
      BDG_STATE_safe_en0, PWR_STAT_ready]) (evParts ++ [Part.gen, Part.links, Part.pwr])) ∧
    (∀ a v, exec (.shutdownRequest a v) s = .next t → Keeps s t (evFlds ++ legFlds ++ stateFlds ++ [SYS_BUSERR_ADDR_addr, PWR_CTL_ign_filt,
      PWR_CTL_dis_at_shut, PWR_CTL_ign_en, PWR_CTL_shutdown, CHn_GEN_pend_gen, CHn_CSTAT_pend, LEGk_GEN_pend_gen, LEGk_CSTAT_pend, SPn_CTL_spec,
    SPn_BANK_int_frz, SPn_FLD_STAT_task, SPn_FLD_STAT_engine, SPn_KE_EST_psi_f, SPn_TLIM_EFF_i_lim, SPn_TLIM_EFF_t_lim, CHn_STATE_cause,
      CHn_OCSTAT_cyc_run, PRT_LNKl_STAT_lstate, PRT_LNKl_STAT_dis_fail, PRT_LNKl_STAT_chop, PWR_STAT_shut]) (evParts ++ [Part.ports, Part.free,
    Part.latheWords, Part.ueKnown, Part.writebacks, Part.inflight, Part.gen, Part.chans, Part.sps, Part.links, Part.pwr])) ∧
    (exec .ignFilterExpiry s = .next t → Keeps s t (evFlds ++ legFlds ++ stateFlds ++ [CHn_GEN_pend_gen, CHn_CSTAT_pend, LEGk_GEN_pend_gen,
      LEGk_CSTAT_pend, SPn_CTL_spec, SPn_BANK_int_frz, SPn_FLD_STAT_task, SPn_FLD_STAT_engine, SPn_KE_EST_psi_f, SPn_TLIM_EFF_i_lim,
    SPn_TLIM_EFF_t_lim, CHn_STATE_cause, CHn_OCSTAT_cyc_run, PRT_LNKl_STAT_lstate, PRT_LNKl_STAT_dis_fail, PRT_LNKl_STAT_chop, PWR_CTL_shutdown,
      PWR_STAT_shut, PWR_STAT_ign]) (evParts ++ [Part.free, Part.latheWords, Part.ueKnown, Part.writebacks, Part.inflight, Part.gen, Part.chans,
    Part.sps, Part.links, Part.pwr])) ∧
    (exec .shutdownQuiescent s = .next t → Keeps s t (evFlds ++ legFlds ++ [LEG_OGATE_selftest, PRT_LNKl_STAT_chop, MTR_SEQ_seq, PWR_STAT_shut,
      BIST_STAT_running]) (evParts ++ [Part.gen, Part.links, Part.tls, Part.mtr, Part.pwr])) ∧
    (exec .shutWait s = .next t → Keeps s t evFlds (evParts ++ [Part.pwr])) ∧
    (∀ res phase fail word region ms, s.pwr.stage ≠ 8 → exec (.shutdownBistDone res phase fail word region ms) s = .next t → Keeps s t [] []) ∧
    (s.pwr.stage ≠ 8 → exec .bistTimeout s = .next t → Keeps s t [] []) ∧
    (∀ rails ign secs, s.pwr.stage ≠ 9 ∨ rails = false → exec (.wakePin rails ign secs) s = .next t → Keeps s t [PWR_STAT_ign, PWR_AON_TIME_secs,
      PWR_STAT_keep_alive] [Part.pwr]) ∧
    (∀ rails secs, s.pwr.stage ≠ 9 ∨ rails = false → exec (.wakeTimer rails secs) s = .next t → Keeps s t [PWR_AON_TIME_secs,
      PWR_STAT_keep_alive] [Part.pwr]) ∧
    (exec .aonLoss s = .next t → Keeps s t [CLK_STATUS_ckw_src, MTR_STAT_ret_valid, PWR_STAT_keep_alive, PWR_WAKE_TMR_secs,
      PWR_AON_TIME_secs] [Part.pwr]) ∧
    (∀ t0, t0 < 2560 → exec (.thermalReading t0) s = .next t → Keeps s t (evFlds ++ legFlds ++ stateFlds ++ [THM_TEMP_cv7, THM_STAT_stale,
      THM_MAX_max, THM_STAT_level, CHn_BUDGET_lat_full, CHn_BUDGET_budget, SYS_PROFILE_pending, SYS_PROFILE_cause, SYS_PROFILE_active,
    CHn_GEN_pend_gen, CHn_CSTAT_pend, LEGk_GEN_pend_gen, LEGk_CSTAT_pend, SPn_FLD_STAT_task, SPn_FLD_STAT_engine, CHn_STATE_cause,
      CHn_OCSTAT_cyc_run, PRT_LNKl_STAT_lstate, PRT_LNKl_STAT_chop]) (evParts ++ [Part.inflight, Part.pwr, Part.free, Part.gen, Part.chans, Part.sps,
    Part.links])) ∧
    (exec .thmStale s = .next t → Keeps s t (evFlds ++ [THM_STAT_stale]) evParts) ∧
    (exec .thmTrim s = .next t → Keeps s t (evFlds ++ [THM_STAT_no_comp]) (evParts ++ [Part.pwr])) ∧
    (∀ a v, exec (.epochAdvance a v) s = .next t → Keeps s t (evFlds ++ [SYS_BUSERR_ADDR_addr, LCS_EPOCH_advance, LCS_EPOCH_epoch]) (evParts
      ++ [Part.ports, Part.pwr])) ∧
    (∀ a v, exec (.keyProgram a v) s = .next t → Keeps s t (evFlds ++ [SYS_BUSERR_ADDR_addr, LCS_KPROG_go, LCS_KPROG_attr, LCS_KPROG_slot,
      LCS_KEYS_present]) (evParts ++ [Part.ports, Part.pwr])) ∧
    (∀ a v, exec (.bistManual a v) s = .next t → Keeps s t (evFlds ++ legFlds ++ [SYS_BUSERR_ADDR_addr, BIST_CTL_target, BIST_CTL_go,
      LEG_OGATE_selftest, PRT_LNKl_STAT_chop, BIST_STAT_running]) (evParts ++ [Part.ports, Part.gen, Part.links, Part.pwr])) ∧
    (∀ res phase fail word region ms, s.pwr.selftest.all (fun k => k == 256 || !k.testBit 2) = true →
      exec (.selftestDone res phase fail word region ms) s = .next t → Keeps s t (evFlds ++ legFlds ++ [LEG_OGATE_selftest, BIST_STAT_running,
    BIST_STAT_result, BIST_STAT_fail, PRT_LNKl_STAT_chop]) (evParts ++ [Part.pwr, Part.gen, Part.links])) ∧
    (∀ ok, exec (.fwProgramDone ok) s = .next t → Keeps s t evFlds (evParts ++ [Part.sram, Part.ueKnown, Part.writebacks, Part.pwr])) ∧
    (exec .heartbeatPresent s = .next t → Keeps s t (evFlds ++ legFlds ++ [LEG_OGATE_standby, PRT_LNKl_STAT_chop, TLS_STAT_nr_cause,
      TLS_STAT_aligned, TLS_STAT_xl_in, TLS_STAT_ready, TLS_STAT_role]) (evParts ++ [Part.gen, Part.links, Part.tls])) ∧
    (∀ d, exec (.clockReturn d) s = .next t → Keeps s t [CLK_STATUS_t_lock, CLK_STATUS_s_lock, CLK_STATUS_m_lock, CLK_STATUS_a_lock,
      CLK_STATUS_p_lock, CLK_STATUS_c_lock, BDG_STATE_fault_n] [Part.bdg]) ∧
    (∀ r, exec (.supplyReturn r) s = .next t → Keeps s t [BDG_STATE_fault_n] [Part.bdg]) ∧
    (∀ a addr size, exec (.registerRead a addr size) s = .next t → Keeps s t (evFlds ++ legFlds ++ stateFlds ++ readFlds) (evParts ++ [Part.free,
      Part.sram, Part.mpSram, Part.ueKnown, Part.writebacks, Part.inflight, Part.ports, Part.gen, Part.chans, Part.sps, Part.links, Part.net])) ∧
    (∀ a op addr size v errs, exec (.sramAccess a op addr size v errs) s = .next t → Keeps s t (evFlds ++ [SYS_ECC_CE_count, SYS_ECC_LAST_addr,
      SYS_ECC_INFO_initiator, SYS_ECC_INFO_region, SYS_ECC_INFO_ue_cnt, SYS_BUSERR_ADDR_addr]) (evParts ++ [Part.free, Part.sram, Part.mpSram,
    Part.ueKnown, Part.writebacks, Part.inflight, Part.ports])) ∧
    (∀ q k, exec (.windowOpen q k) s = .next t → Keeps s t (evFlds ++ [CVc_STAT_cur_input, CVc_STAT_state, CVc_CAL_bg_busy, CVc_CAL_ok,
      CVc_CAL_bg_slice, CVc_TRIM_gain, CVc_TRIM_offset, SEQn_OVR_count, SEQn_STAT_queued, SEQn_STAT_running, SEQn_TRIG_TS_LO_ts,
    SEQn_TRIG_TS_HI_ts]) (evParts ++ [Part.inflight, Part.cvb])) ∧
    (∀ k, exec (.dutyEdge k) s = .next t → Keeps s t (evFlds ++ legFlds ++ [PRT_LNKl_STAT_chop]) (evParts ++ [Part.gen, Part.links])) ∧
    (∀ l codes, exec (.linkThresholdDeassert l codes) s = .next t → Keeps s t (evFlds ++ legFlds ++ stateFlds ++ [CHn_GEN_pend_gen, CHn_CSTAT_pend,
      LEGk_GEN_pend_gen, LEGk_CSTAT_pend, SPn_FLD_STAT_task, SPn_FLD_STAT_engine, CHn_STATE_cause, CHn_STATE_sel, CHn_STATE_motoring_only,
    CHn_SEL_THR_thr, CHn_OCSTAT_cyc_run, PRT_LNKl_STAT_vmean, PRT_LNKl_STAT_lstate, PRT_LNKl_STAT_ov_hard, PRT_LNKl_STAT_ov_asc,
      PRT_LNKl_STAT_motoring_only, PRT_LNKl_STAT_chop_fail, PRT_LNKl_STAT_chop, PRT_LNKl_STAT_warn, PRT_LNKl_VMAX_vmax, TLS_STAT_nr_cause,
    TLS_STAT_ready]) (evParts ++ [Part.free, Part.inflight, Part.gen, Part.chans, Part.sps, Part.links, Part.tls])) ∧
    (exec .encoEdge s = .next t → Keeps s t (evFlds ++ [ENCO_STAT_lag]) (evParts ++ [Part.pos])) ∧
    (∀ x, exec (.canBusoffRecovery x) s = .next t → Keeps s t [CANx_STAT_rec, CANx_STAT_tec, CANx_STAT_state] []) ∧
    (exec .safeEnPulseEnd s = .next t → Keeps s t [BDG_STATE_safe_en1, BDG_STATE_safe_en0] [Part.bdg]) ∧
    (exec .profileChangeEffect s = .next t → Keeps s t (evFlds ++ [CHn_BUDGET_lat_full, CHn_BUDGET_budget, CHn_SLACK_MIN_slack_min,
      SYS_PROFILE_pending, SYS_PROFILE_cause, SYS_PROFILE_active, SYS_ECC_CE_count, SYS_ECC_INFO_ue_cnt, CVc_STAT_ref_ready, CVc_STAT_state,
    CVc_INJRk_new, SEQn_OVR_count, SEQn_RESk_new, PIFn_ZSTAT_dev_cnt, PIFn_EDGE_quad_cnt, PIFn_EDGE_edge_fault_cnt, PIFn_SER_STAT_ovr_cnt,
      PIFn_SER_STAT_crc_err_cnt, CHn_CSTAT_per_clamp_cnt, CHn_CSTAT_mismatch_cnt, LEGk_STAT_drop_cnt, LEGk_STAT_stretch_cnt,
    LEGk_CSTAT_per_clamp_cnt, LEGk_CSTAT_mismatch_cnt, SPn_SPEC_REJ_swap, SPn_SPEC_REJ_sat, SPn_SPEC_REJ_innov, SPn_MISS_miss_cnt,
      SPn_OSC_STAT_osc_cnt, CHn_OCSTAT_cyc_cnt, PRT_LNKl_VMAX_vmax, PRT_LS_CNTp_mis_cnt, PRT_LS_CNTp_lat_cnt, PRT_LS_CNTp_par_cnt,
    PRT_LS_CNTp_test_cnt, PRT_CHUCK_STAT_resample, PRT_CHUCK_STAT_disagree, BDG_WDG_STATc_miss_cnt, TLS_CNT_miss_cnt, TLS_CNT_late_cnt,
      TLS_CNT_crc_err, TLS_ALIGN_err_max, FPL_STAT_rej, FPL_STAT_cpl_drop, FPL_EVT_STAT_ovf, FPL_SLOTST_e2e_cnt, QPq_CQ_tail, QPq_CQ_head,
    QPq_STAT_wexp_cnt, QPq_STAT_qfull_cnt, HLK_STAT_crc_err, HLK_STAT_abort, HLK_STAT_fast_rej, CANx_STAT_e2e_err, SETTp_CNT_overrun,
      SETTp_CNT_crc_err, SETTp_CNT_breaks, SETT_NODEe_STAT_miss_cnt, MTR_STAT_held, THM_MAX_max]) (evParts ++ [Part.sram, Part.ueKnown,
    Part.writebacks, Part.ports, Part.cvb, Part.chans, Part.fpl, Part.net, Part.pwr]))
end

