-- ==== Sys2Proof/Laws/Fields.lean ====
section
/-! SUPPORT. The width of every register field. -/

set_option Elab.async false

namespace Sys2Proof.Machine

@[simp] theorem SYS_ID_part_width : SYS_ID_part.width = 16 := rfl
@[simp] theorem SYS_ID_grade_width : SYS_ID_grade.width = 4 := rfl
@[simp] theorem SYS_ID_major_width : SYS_ID_major.width = 4 := rfl
@[simp] theorem SYS_ID_minor_width : SYS_ID_minor.width = 4 := rfl
@[simp] theorem CHn_TIMING_dl_max_width : CHn_TIMING_dl_max.width = 4 := rfl
@[simp] theorem CHn_TIMING_commit_guard_width : CHn_TIMING_commit_guard.width = 7 := rfl
@[simp] theorem CHn_DLSTAT_miss_width : CHn_DLSTAT_miss.width = 1 := rfl
@[simp] theorem CHn_DLSTAT_late_width : CHn_DLSTAT_late.width = 1 := rfl
@[simp] theorem CHn_DLSTAT_cause_width : CHn_DLSTAT_cause.width = 2 := rfl
@[simp] theorem CHn_DLSTAT_miss_cnt_width : CHn_DLSTAT_miss_cnt.width = 8 := rfl
@[simp] theorem CHn_DLSTAT_consec_width : CHn_DLSTAT_consec.width = 4 := rfl
@[simp] theorem CHn_BUDGET_lat_full_width : CHn_BUDGET_lat_full.width = 10 := rfl
@[simp] theorem CHn_BUDGET_budget_width : CHn_BUDGET_budget.width = 20 := rfl
@[simp] theorem CHn_SLACK_slack_last_width : CHn_SLACK_slack_last.width = 20 := rfl
@[simp] theorem CHn_SLACK_MIN_slack_min_width : CHn_SLACK_MIN_slack_min.width = 20 := rfl
@[simp] theorem SYS_PROFILE_pending_width : SYS_PROFILE_pending.width = 1 := rfl
@[simp] theorem SYS_PROFILE_cause_width : SYS_PROFILE_cause.width = 2 := rfl
@[simp] theorem SYS_PROFILE_request_width : SYS_PROFILE_request.width = 2 := rfl
@[simp] theorem SYS_PROFILE_active_width : SYS_PROFILE_active.width = 2 := rfl
@[simp] theorem CLK_STATUS_phase_slip_width : CLK_STATUS_phase_slip.width = 1 := rfl
@[simp] theorem CLK_STATUS_ckb_ok_width : CLK_STATUS_ckb_ok.width = 1 := rfl
@[simp] theorem CLK_STATUS_ckw_src_width : CLK_STATUS_ckw_src.width = 1 := rfl
@[simp] theorem CLK_STATUS_xin_ok_width : CLK_STATUS_xin_ok.width = 1 := rfl
@[simp] theorem CLK_STATUS_t_lock_width : CLK_STATUS_t_lock.width = 1 := rfl
@[simp] theorem CLK_STATUS_s_lock_width : CLK_STATUS_s_lock.width = 1 := rfl
@[simp] theorem CLK_STATUS_m_lock_width : CLK_STATUS_m_lock.width = 1 := rfl
@[simp] theorem CLK_STATUS_a_lock_width : CLK_STATUS_a_lock.width = 1 := rfl
@[simp] theorem CLK_STATUS_p_lock_width : CLK_STATUS_p_lock.width = 1 := rfl
@[simp] theorem CLK_STATUS_c_lock_width : CLK_STATUS_c_lock.width = 1 := rfl
@[simp] theorem SPn_I_BASE_base_width : SPn_I_BASE_base.width = 32 := rfl
@[simp] theorem SPn_SAT_first_period_width : SPn_SAT_first_period.width = 16 := rfl
@[simp] theorem SPn_SAT_first_stage_width : SPn_SAT_first_stage.width = 3 := rfl
@[simp] theorem SPn_SAT_modulate_width : SPn_SAT_modulate.width = 1 := rfl
@[simp] theorem SPn_SAT_limit_width : SPn_SAT_limit.width = 1 := rfl
@[simp] theorem SPn_SAT_control_width : SPn_SAT_control.width = 1 := rfl
@[simp] theorem SPn_SAT_correct_width : SPn_SAT_correct.width = 1 := rfl
@[simp] theorem SPn_SAT_predict_width : SPn_SAT_predict.width = 1 := rfl
@[simp] theorem SPn_SAT_transform_width : SPn_SAT_transform.width = 1 := rfl
@[simp] theorem LTH_SLOT_STAT_abandon_width : LTH_SLOT_STAT_abandon.width = 1 := rfl
@[simp] theorem LTH_SLOT_STAT_sat_width : LTH_SLOT_STAT_sat.width = 1 := rfl
@[simp] theorem SYS_ECC_CTL_ce_thr_width : SYS_ECC_CTL_ce_thr.width = 16 := rfl
@[simp] theorem SYS_ECC_CE_count_width : SYS_ECC_CE_count.width = 16 := rfl
@[simp] theorem SYS_ECC_LAST_addr_width : SYS_ECC_LAST_addr.width = 32 := rfl
@[simp] theorem SYS_ECC_INFO_initiator_width : SYS_ECC_INFO_initiator.width = 4 := rfl
@[simp] theorem SYS_ECC_INFO_region_width : SYS_ECC_INFO_region.width = 2 := rfl
@[simp] theorem SYS_ECC_INFO_ue_cnt_width : SYS_ECC_INFO_ue_cnt.width = 2 := rfl
@[simp] theorem SYS_SCRUB_STAT_late_width : SYS_SCRUB_STAT_late.width = 1 := rfl
@[simp] theorem SYS_SCRUB_STAT_pos_width : SYS_SCRUB_STAT_pos.width = 21 := rfl
@[simp] theorem CVB_CTL_bgcal_period_width : CVB_CTL_bgcal_period.width = 8 := rfl
@[simp] theorem CVB_CTL_bgcal_en_width : CVB_CTL_bgcal_en.width = 1 := rfl
@[simp] theorem CVB_OW_CTL_ow_thr_width : CVB_OW_CTL_ow_thr.width = 16 := rfl
@[simp] theorem CVB_OW_CTL_dwell_width : CVB_OW_CTL_dwell.width = 8 := rfl
@[simp] theorem CVB_OW_CTL_period_width : CVB_OW_CTL_period.width = 8 := rfl
@[simp] theorem CVc_CFG_mux_settle_width : CVc_CFG_mux_settle.width = 4 := rfl
@[simp] theorem CVc_CFG_partner_en_width : CVc_CFG_partner_en.width = 1 := rfl
@[simp] theorem CVc_CFG_ref_en_width : CVc_CFG_ref_en.width = 1 := rfl
@[simp] theorem CVc_CFG_ref_mode_width : CVc_CFG_ref_mode.width = 1 := rfl
@[simp] theorem CVc_CFG_pwr_width : CVc_CFG_pwr.width = 2 := rfl
@[simp] theorem CVc_IDLE_idle_down_width : CVc_IDLE_idle_down.width = 16 := rfl
@[simp] theorem CVc_STAT_ref_ready_width : CVc_STAT_ref_ready.width = 1 := rfl
@[simp] theorem CVc_STAT_cur_input_width : CVc_STAT_cur_input.width = 4 := rfl
@[simp] theorem CVc_STAT_state_width : CVc_STAT_state.width = 3 := rfl
@[simp] theorem CVc_CAL_full_busy_width : CVc_CAL_full_busy.width = 1 := rfl
@[simp] theorem CVc_CAL_bg_busy_width : CVc_CAL_bg_busy.width = 1 := rfl
@[simp] theorem CVc_CAL_ok_width : CVc_CAL_ok.width = 1 := rfl
@[simp] theorem CVc_CAL_bg_slice_width : CVc_CAL_bg_slice.width = 5 := rfl
@[simp] theorem CVc_CAL_full_width : CVc_CAL_full.width = 1 := rfl
@[simp] theorem CVc_INJk_start_width : CVc_INJk_start.width = 1 := rfl
@[simp] theorem CVc_INJk_urgent_width : CVc_INJk_urgent.width = 1 := rfl
@[simp] theorem CVc_INJk_shift_width : CVc_INJk_shift.width = 4 := rfl
@[simp] theorem CVc_INJk_log2n_width : CVc_INJk_log2n.width = 4 := rfl
@[simp] theorem CVc_INJk_input_width : CVc_INJk_input.width = 4 := rfl
@[simp] theorem CVc_INJRk_flags_width : CVc_INJRk_flags.width = 7 := rfl
@[simp] theorem CVc_INJRk_new_width : CVc_INJRk_new.width = 1 := rfl
@[simp] theorem CVc_INJRk_value_width : CVc_INJRk_value.width = 24 := rfl
@[simp] theorem CVc_IDLESCAN_dwell_width : CVc_IDLESCAN_dwell.width = 8 := rfl
@[simp] theorem CVc_IDLESCAN_mask_width : CVc_IDLESCAN_mask.width = 10 := rfl
@[simp] theorem CVc_TRIM_gain_width : CVc_TRIM_gain.width = 16 := rfl
@[simp] theorem CVc_TRIM_offset_width : CVc_TRIM_offset.width = 16 := rfl
@[simp] theorem CMPi_THR_hi_width : CMPi_THR_hi.width = 16 := rfl
@[simp] theorem CMPi_THR_lo_width : CMPi_THR_lo.width = 16 := rfl
@[simp] theorem CMPi_CFG_en_width : CMPi_CFG_en.width = 1 := rfl
@[simp] theorem CMPi_CFG_ow_cur_width : CMPi_CFG_ow_cur.width = 2 := rfl
@[simp] theorem CMPi_CFG_ow_periodic_width : CMPi_CFG_ow_periodic.width = 1 := rfl
@[simp] theorem CMPi_CFG_hyst_width : CMPi_CFG_hyst.width = 8 := rfl
@[simp] theorem CMPi_CFG_filt_width : CMPi_CFG_filt.width = 6 := rfl
@[simp] theorem CMPi_STAT_ow_width : CMPi_STAT_ow.width = 2 := rfl
@[simp] theorem CMPi_STAT_lo_sticky_width : CMPi_STAT_lo_sticky.width = 1 := rfl
@[simp] theorem CMPi_STAT_hi_sticky_width : CMPi_STAT_hi_sticky.width = 1 := rfl
@[simp] theorem CMPi_STAT_lo_out_width : CMPi_STAT_lo_out.width = 1 := rfl
@[simp] theorem CMPi_STAT_hi_out_width : CMPi_STAT_hi_out.width = 1 := rfl
@[simp] theorem SEQn_CTL_nsteps_width : SEQn_CTL_nsteps.width = 4 := rfl
@[simp] theorem SEQn_CTL_policy_width : SEQn_CTL_policy.width = 2 := rfl
@[simp] theorem SEQn_CTL_en_width : SEQn_CTL_en.width = 1 := rfl
@[simp] theorem SEQn_TRIG_offset_width : SEQn_TRIG_offset.width = 16 := rfl
@[simp] theorem SEQn_TRIG_src_width : SEQn_TRIG_src.width = 6 := rfl
@[simp] theorem SEQn_OVR_count_width : SEQn_OVR_count.width = 16 := rfl
@[simp] theorem SEQn_STAT_queued_width : SEQn_STAT_queued.width = 1 := rfl
@[simp] theorem SEQn_STAT_running_width : SEQn_STAT_running.width = 1 := rfl
@[simp] theorem SEQn_STAT_last_step_width : SEQn_STAT_last_step.width = 4 := rfl
@[simp] theorem SEQn_TRIG_TS_LO_ts_width : SEQn_TRIG_TS_LO_ts.width = 32 := rfl
@[simp] theorem SEQn_TRIG_TS_HI_ts_width : SEQn_TRIG_TS_HI_ts.width = 32 := rfl
@[simp] theorem SEQn_SWTRIG_go_width : SEQn_SWTRIG_go.width = 1 := rfl
@[simp] theorem SEQn_STEPk_A_shift_width : SEQn_STEPk_A_shift.width = 4 := rfl
@[simp] theorem SEQn_STEPk_A_log2n_width : SEQn_STEPk_A_log2n.width = 4 := rfl
@[simp] theorem SEQn_STEPk_A_input_width : SEQn_STEPk_A_input.width = 4 := rfl
@[simp] theorem SEQn_STEPk_A_conv_width : SEQn_STEPk_A_conv.width = 3 := rfl
@[simp] theorem SEQn_STEPk_B_sp_en_width : SEQn_STEPk_B_sp_en.width = 1 := rfl
@[simp] theorem SEQn_STEPk_B_sp_ch_width : SEQn_STEPk_B_sp_ch.width = 2 := rfl
@[simp] theorem SEQn_STEPk_B_sp_meas_width : SEQn_STEPk_B_sp_meas.width = 3 := rfl
@[simp] theorem SEQn_STEPk_B_open_dly_width : SEQn_STEPk_B_open_dly.width = 24 := rfl
@[simp] theorem SEQn_RESk_flags_width : SEQn_RESk_flags.width = 7 := rfl
@[simp] theorem SEQn_RESk_new_width : SEQn_RESk_new.width = 1 := rfl
@[simp] theorem SEQn_RESk_value_width : SEQn_RESk_value.width = 24 := rfl
@[simp] theorem SEQn_RCLOSEk_ts_width : SEQn_RCLOSEk_ts.width = 32 := rfl
@[simp] theorem SEQ_TTt_CTL_ch_width : SEQ_TTt_CTL_ch.width = 2 := rfl
@[simp] theorem SEQ_TTt_CTL_align_width : SEQ_TTt_CTL_align.width = 1 := rfl
@[simp] theorem SEQ_TTt_CTL_en_width : SEQ_TTt_CTL_en.width = 1 := rfl
@[simp] theorem SEQ_TTt_PER_per_width : SEQ_TTt_PER_per.width = 32 := rfl
@[simp] theorem PIFn_CTL_dir_inv_width : PIFn_CTL_dir_inv.width = 1 := rfl
@[simp] theorem PIFn_CTL_trig_sel_width : PIFn_CTL_trig_sel.width = 1 := rfl
@[simp] theorem PIFn_CTL_src_restore_width : PIFn_CTL_src_restore.width = 1 := rfl
@[simp] theorem PIFn_CTL_fb_en_width : PIFn_CTL_fb_en.width = 1 := rfl
@[simp] theorem PIFn_CTL_z_corr_width : PIFn_CTL_z_corr.width = 1 := rfl
@[simp] theorem PIFn_CTL_z_en_width : PIFn_CTL_z_en.width = 1 := rfl
@[simp] theorem PIFn_CTL_sec_src_width : PIFn_CTL_sec_src.width = 3 := rfl
@[simp] theorem PIFn_CTL_pri_src_width : PIFn_CTL_pri_src.width = 3 := rfl
@[simp] theorem PIFn_CTL_en_width : PIFn_CTL_en.width = 1 := rfl
@[simp] theorem PIFn_GEOM_pp_width : PIFn_GEOM_pp.width = 5 := rfl
@[simp] theorem PIFn_GEOM_cpr_width : PIFn_GEOM_cpr.width = 24 := rfl
@[simp] theorem PIFn_AOFS_aofs_width : PIFn_AOFS_aofs.width = 32 := rfl
@[simp] theorem PIFn_FILT_noisy_thr_width : PIFn_FILT_noisy_thr.width = 16 := rfl
@[simp] theorem PIFn_FILT_dis_time_width : PIFn_FILT_dis_time.width = 8 := rfl
@[simp] theorem PIFn_FILT_min_edge_width : PIFn_FILT_min_edge.width = 8 := rfl
@[simp] theorem PIFn_ZCFG_z_gate_en_width : PIFn_ZCFG_z_gate_en.width = 1 := rfl
@[simp] theorem PIFn_ZCFG_z_gate_width : PIFn_ZCFG_z_gate.width = 2 := rfl
@[simp] theorem PIFn_ZCFG_z_limit_width : PIFn_ZCFG_z_limit.width = 12 := rfl
@[simp] theorem PIFn_ZCFG_z_tol_width : PIFn_ZCFG_z_tol.width = 12 := rfl
@[simp] theorem PIFn_ZEXP_z_exp_width : PIFn_ZEXP_z_exp.width = 24 := rfl
@[simp] theorem PIFn_ZSTAT_referenced_width : PIFn_ZSTAT_referenced.width = 1 := rfl
@[simp] theorem PIFn_ZSTAT_dev_cnt_width : PIFn_ZSTAT_dev_cnt.width = 8 := rfl
@[simp] theorem PIFn_ZSTAT_z_dev_width : PIFn_ZSTAT_z_dev.width = 16 := rfl
@[simp] theorem PIFn_EDGE_quad_cnt_width : PIFn_EDGE_quad_cnt.width = 8 := rfl
@[simp] theorem PIFn_EDGE_noisy_width : PIFn_EDGE_noisy.width = 1 := rfl
@[simp] theorem PIFn_EDGE_wire_width : PIFn_EDGE_wire.width = 3 := rfl
@[simp] theorem PIFn_EDGE_edge_fault_cnt_width : PIFn_EDGE_edge_fault_cnt.width = 16 := rfl
@[simp] theorem PIFn_SPDCFG_spd_timeout_width : PIFn_SPDCFG_spd_timeout.width = 24 := rfl
@[simp] theorem PIFn_SPDCFG_dir_band_width : PIFn_SPDCFG_dir_band.width = 5 := rfl
@[simp] theorem PIFn_SPDCFG_spd_edges_width : PIFn_SPDCFG_spd_edges.width = 3 := rfl
@[simp] theorem PIFn_POS_count_width : PIFn_POS_count.width = 32 := rfl
@[simp] theorem PIFn_REVPOS_rev_pos_width : PIFn_REVPOS_rev_pos.width = 24 := rfl
@[simp] theorem PIFn_SPD_speed_width : PIFn_SPD_speed.width = 32 := rfl
@[simp] theorem PIFn_ANGLE_angle_width : PIFn_ANGLE_angle.width = 32 := rfl
@[simp] theorem PIFn_STS_LO_ts_width : PIFn_STS_LO_ts.width = 32 := rfl
@[simp] theorem PIFn_STS_HI_ts_width : PIFn_STS_HI_ts.width = 32 := rfl
@[simp] theorem PIFn_STAT_pos_lost_width : PIFn_STAT_pos_lost.width = 1 := rfl
@[simp] theorem PIFn_STAT_active_width : PIFn_STAT_active.width = 2 := rfl
@[simp] theorem PIFn_STAT_dir_width : PIFn_STAT_dir.width = 1 := rfl
@[simp] theorem PIFn_STAT_spd_valid_width : PIFn_STAT_spd_valid.width = 1 := rfl
@[simp] theorem PIFn_FSTAT_ser_warn_width : PIFn_FSTAT_ser_warn.width = 1 := rfl
@[simp] theorem PIFn_FSTAT_sec_fault_width : PIFn_FSTAT_sec_fault.width = 1 := rfl
@[simp] theorem PIFn_FSTAT_pri_fault_width : PIFn_FSTAT_pri_fault.width = 1 := rfl
@[simp] theorem PIFn_FSTAT_frozen_sec_width : PIFn_FSTAT_frozen_sec.width = 1 := rfl
@[simp] theorem PIFn_FSTAT_frozen_pri_width : PIFn_FSTAT_frozen_pri.width = 1 := rfl
@[simp] theorem PIFn_FSTAT_ser_err_width : PIFn_FSTAT_ser_err.width = 1 := rfl
@[simp] theorem PIFn_FSTAT_rsv_amp_width : PIFn_FSTAT_rsv_amp.width = 1 := rfl
@[simp] theorem PIFn_FSTAT_rsv_gap_width : PIFn_FSTAT_rsv_gap.width = 1 := rfl
@[simp] theorem PIFn_FSTAT_hall_invalid_width : PIFn_FSTAT_hall_invalid.width = 1 := rfl
@[simp] theorem PIFn_FSTAT_hall_seq_width : PIFn_FSTAT_hall_seq.width = 1 := rfl
@[simp] theorem PIFn_FSTAT_z_missing_width : PIFn_FSTAT_z_missing.width = 1 := rfl
@[simp] theorem PIFn_FSTAT_z_limit_width : PIFn_FSTAT_z_limit.width = 1 := rfl
@[simp] theorem PIFn_FSTAT_wire_width : PIFn_FSTAT_wire.width = 1 := rfl
@[simp] theorem PIFn_HALL_seq_max_width : PIFn_HALL_seq_max.width = 4 := rfl
@[simp] theorem PIFn_HALL_map_width : PIFn_HALL_map.width = 18 := rfl
@[simp] theorem PIFn_HALL_OFS_ofs_width : PIFn_HALL_OFS_ofs.width = 32 := rfl
@[simp] theorem PIFn_EXC_amp_width : PIFn_EXC_amp.width = 8 := rfl
@[simp] theorem PIFn_EXC_en_width : PIFn_EXC_en.width = 1 := rfl
@[simp] theorem PIFn_EXC_freq_width : PIFn_EXC_freq.width = 15 := rfl
@[simp] theorem PIFn_RSV_ratio_width : PIFn_RSV_ratio.width = 4 := rfl
@[simp] theorem PIFn_RSV_cos_ain_width : PIFn_RSV_cos_ain.width = 6 := rfl
@[simp] theorem PIFn_RSV_sin_ain_width : PIFn_RSV_sin_ain.width = 6 := rfl
@[simp] theorem PIFn_RSV_PH_phase_width : PIFn_RSV_PH_phase.width = 16 := rfl
@[simp] theorem PIFn_RSV_AMP_amp_hi_width : PIFn_RSV_AMP_amp_hi.width = 16 := rfl
@[simp] theorem PIFn_RSV_AMP_amp_lo_width : PIFn_RSV_AMP_amp_lo.width = 16 := rfl
@[simp] theorem PIFn_SER_err_max_width : PIFn_SER_err_max.width = 4 := rfl
@[simp] theorem PIFn_SER_parity_width : PIFn_SER_parity.width = 1 := rfl
@[simp] theorem PIFn_SER_gray_width : PIFn_SER_gray.width = 1 := rfl
@[simp] theorem PIFn_SER_clk_div_width : PIFn_SER_clk_div.width = 8 := rfl
@[simp] theorem PIFn_SER_st_bits_width : PIFn_SER_st_bits.width = 6 := rfl
@[simp] theorem PIFn_SER_pos_bits_width : PIFn_SER_pos_bits.width = 6 := rfl
@[simp] theorem PIFn_SER_TIM_sync_to_width : PIFn_SER_TIM_sync_to.width = 8 := rfl
@[simp] theorem PIFn_SER_TIM_gap_width : PIFn_SER_TIM_gap.width = 8 := rfl
@[simp] theorem PIFn_SER_TIM_ser_lat_width : PIFn_SER_TIM_ser_lat.width = 16 := rfl
@[simp] theorem PIFn_SER_TRIG_offset_width : PIFn_SER_TRIG_offset.width = 16 := rfl
@[simp] theorem PIFn_SER_TRIG_src_width : PIFn_SER_TRIG_src.width = 6 := rfl
@[simp] theorem PIFn_SER_STAT_ovr_cnt_width : PIFn_SER_STAT_ovr_cnt.width = 8 := rfl
@[simp] theorem PIFn_SER_STAT_crc_err_cnt_width : PIFn_SER_STAT_crc_err_cnt.width = 8 := rfl
@[simp] theorem PIFn_SER_STAT_line_dly_width : PIFn_SER_STAT_line_dly.width = 16 := rfl
@[simp] theorem PIFn_FRZ_frz_band_width : PIFn_FRZ_frz_band.width = 16 := rfl
@[simp] theorem PIFn_FRZ_frz_n_width : PIFn_FRZ_frz_n.width = 8 := rfl
@[simp] theorem PIFn_FRZ_SPD_frz_speed_width : PIFn_FRZ_SPD_frz_speed.width = 32 := rfl
@[simp] theorem PIFn_LATCH_offset_width : PIFn_LATCH_offset.width = 16 := rfl
@[simp] theorem PIFn_IRQ_EN_en_width : PIFn_IRQ_EN_en.width = 4 := rfl
@[simp] theorem PIFn_IRQ_fallback_width : PIFn_IRQ_fallback.width = 1 := rfl
@[simp] theorem PIFn_IRQ_fault_width : PIFn_IRQ_fault.width = 1 := rfl
@[simp] theorem PIFn_IRQ_index_width : PIFn_IRQ_index.width = 1 := rfl
@[simp] theorem PIFn_IRQ_dir_chg_width : PIFn_IRQ_dir_chg.width = 1 := rfl
@[simp] theorem ENCO_CTL_cpr_out_width : ENCO_CTL_cpr_out.width = 16 := rfl
@[simp] theorem ENCO_CTL_div_width : ENCO_CTL_div.width = 8 := rfl
@[simp] theorem ENCO_CTL_en_width : ENCO_CTL_en.width = 1 := rfl
@[simp] theorem ENCO_CTL_src_width : ENCO_CTL_src.width = 2 := rfl
@[simp] theorem ENCO_STAT_lag_width : ENCO_STAT_lag.width = 1 := rfl
@[simp] theorem CHn_CTL_six_width : CHn_CTL_six.width = 1 := rfl
@[simp] theorem CHn_CTL_dmode_width : CHn_CTL_dmode.width = 2 := rfl
@[simp] theorem CHn_CTL_src_width : CHn_CTL_src.width = 1 := rfl
@[simp] theorem CHn_CARR_phase_width : CHn_CARR_phase.width = 16 := rfl
@[simp] theorem CHn_CARR_sync_width : CHn_CARR_sync.width = 1 := rfl
@[simp] theorem CHn_CARR_rl_width : CHn_CARR_rl.width = 2 := rfl
@[simp] theorem CHn_CARR_mode_width : CHn_CARR_mode.width = 2 := rfl
@[simp] theorem CHn_CARR_en_width : CHn_CARR_en.width = 1 := rfl
@[simp] theorem CHn_PER_per_width : CHn_PER_per.width = 32 := rfl
@[simp] theorem CHn_DUTYk_duty_width : CHn_DUTYk_duty.width = 32 := rfl
@[simp] theorem CHn_COMMIT_go_width : CHn_COMMIT_go.width = 1 := rfl
@[simp] theorem CHn_COMMIT_gen_width : CHn_COMMIT_gen.width = 16 := rfl
@[simp] theorem CHn_GEN_act_gen_width : CHn_GEN_act_gen.width = 16 := rfl
@[simp] theorem CHn_GEN_pend_gen_width : CHn_GEN_pend_gen.width = 16 := rfl
@[simp] theorem CHn_CSTAT_per_clamp_cnt_width : CHn_CSTAT_per_clamp_cnt.width = 8 := rfl
@[simp] theorem CHn_CSTAT_mismatch_cnt_width : CHn_CSTAT_mismatch_cnt.width = 8 := rfl
@[simp] theorem CHn_CSTAT_permax_width : CHn_CSTAT_permax.width = 1 := rfl
@[simp] theorem CHn_CSTAT_half_width : CHn_CSTAT_half.width = 1 := rfl
@[simp] theorem CHn_CSTAT_pend_width : CHn_CSTAT_pend.width = 1 := rfl
@[simp] theorem CHn_CSTAT_mismatch_width : CHn_CSTAT_mismatch.width = 1 := rfl
@[simp] theorem CHn_CSTAT_per_clamp_width : CHn_CSTAT_per_clamp.width = 1 := rfl
@[simp] theorem CHn_CSTAT_running_width : CHn_CSTAT_running.width = 1 := rfl
@[simp] theorem CHn_CT_evt_kind_width : CHn_CT_evt_kind.width = 2 := rfl
@[simp] theorem CHn_CT_evt_idx_width : CHn_CT_evt_idx.width = 6 := rfl
@[simp] theorem CHn_PERMIN_per_min_width : CHn_PERMIN_per_min.width = 32 := rfl
@[simp] theorem CHn_PERMAX_per_max_width : CHn_PERMAX_per_max.width = 32 := rfl
@[simp] theorem CHn_PERLAST_per_width : CHn_PERLAST_per.width = 32 := rfl
@[simp] theorem LEGk_CFG_out_width : LEGk_CFG_out.width = 2 := rfl
@[simp] theorem LEGk_CFG_minpw_pol_width : LEGk_CFG_minpw_pol.width = 2 := rfl
@[simp] theorem LEGk_CFG_pol_l_width : LEGk_CFG_pol_l.width = 1 := rfl
@[simp] theorem LEGk_CFG_pol_h_width : LEGk_CFG_pol_h.width = 1 := rfl
@[simp] theorem LEGk_DTH_dt_h_width : LEGk_DTH_dt_h.width = 20 := rfl
@[simp] theorem LEGk_DTL_dt_l_width : LEGk_DTL_dt_l.width = 20 := rfl
@[simp] theorem LEGk_MINPW_minpw_width : LEGk_MINPW_minpw.width = 20 := rfl
@[simp] theorem LEGk_STAT_drop_cnt_width : LEGk_STAT_drop_cnt.width = 8 := rfl
@[simp] theorem LEGk_STAT_stretch_cnt_width : LEGk_STAT_stretch_cnt.width = 8 := rfl
@[simp] theorem LEGk_STAT_source_width : LEGk_STAT_source.width = 2 := rfl
@[simp] theorem LEGk_STAT_latched_width : LEGk_STAT_latched.width = 1 := rfl
@[simp] theorem LEGk_STAT_gl_width : LEGk_STAT_gl.width = 1 := rfl
@[simp] theorem LEGk_STAT_gh_width : LEGk_STAT_gh.width = 1 := rfl
@[simp] theorem LEGk_GEN_act_gen_width : LEGk_GEN_act_gen.width = 16 := rfl
@[simp] theorem LEGk_GEN_pend_gen_width : LEGk_GEN_pend_gen.width = 16 := rfl
@[simp] theorem LEGk_CSTAT_per_clamp_cnt_width : LEGk_CSTAT_per_clamp_cnt.width = 8 := rfl
@[simp] theorem LEGk_CSTAT_mismatch_cnt_width : LEGk_CSTAT_mismatch_cnt.width = 8 := rfl
@[simp] theorem LEGk_CSTAT_permax_width : LEGk_CSTAT_permax.width = 1 := rfl
@[simp] theorem LEGk_CSTAT_half_width : LEGk_CSTAT_half.width = 1 := rfl
@[simp] theorem LEGk_CSTAT_pend_width : LEGk_CSTAT_pend.width = 1 := rfl
@[simp] theorem LEGk_CSTAT_mismatch_width : LEGk_CSTAT_mismatch.width = 1 := rfl
@[simp] theorem LEGk_CSTAT_per_clamp_width : LEGk_CSTAT_per_clamp.width = 1 := rfl
@[simp] theorem LEGk_CSTAT_running_width : LEGk_CSTAT_running.width = 1 := rfl
@[simp] theorem LEGk_CARR_phase_width : LEGk_CARR_phase.width = 16 := rfl
@[simp] theorem LEGk_CARR_sync_ch_width : LEGk_CARR_sync_ch.width = 2 := rfl
@[simp] theorem LEGk_CARR_sync_width : LEGk_CARR_sync.width = 1 := rfl
@[simp] theorem LEGk_CARR_rl_width : LEGk_CARR_rl.width = 2 := rfl
@[simp] theorem LEGk_CARR_dmode_width : LEGk_CARR_dmode.width = 2 := rfl
@[simp] theorem LEGk_CARR_mode_width : LEGk_CARR_mode.width = 2 := rfl
@[simp] theorem LEGk_CARR_src_width : LEGk_CARR_src.width = 2 := rfl
@[simp] theorem LEGk_CARR_en_width : LEGk_CARR_en.width = 1 := rfl
@[simp] theorem LEGk_PER_per_width : LEGk_PER_per.width = 32 := rfl
@[simp] theorem LEGk_DUTY_duty_width : LEGk_DUTY_duty.width = 32 := rfl
@[simp] theorem LEGk_COMMIT_go_width : LEGk_COMMIT_go.width = 1 := rfl
@[simp] theorem LEGk_COMMIT_gen_width : LEGk_COMMIT_gen.width = 16 := rfl
@[simp] theorem LEGk_CT_evt_kind_width : LEGk_CT_evt_kind.width = 2 := rfl
@[simp] theorem LEGk_CT_evt_idx_width : LEGk_CT_evt_idx.width = 6 := rfl
@[simp] theorem LEGk_PERMIN_per_min_width : LEGk_PERMIN_per_min.width = 32 := rfl
@[simp] theorem LEGk_PERMAX_per_max_width : LEGk_PERMAX_per_max.width = 32 := rfl
@[simp] theorem LEGk_PERLAST_per_width : LEGk_PERLAST_per.width = 32 := rfl
@[simp] theorem LEG_DLCAL_fail_width : LEG_DLCAL_fail.width = 1 := rfl
@[simp] theorem LEG_DLCAL_prev_width : LEG_DLCAL_prev.width = 8 := rfl
@[simp] theorem LEG_DLCAL_code_width : LEG_DLCAL_code.width = 8 := rfl
@[simp] theorem LEG_OGATE_selftest_width : LEG_OGATE_selftest.width = 1 := rfl
@[simp] theorem LEG_OGATE_replay_width : LEG_OGATE_replay.width = 1 := rfl
@[simp] theorem LEG_OGATE_standby_width : LEG_OGATE_standby.width = 1 := rfl
@[simp] theorem LEG_OGATE_reset_width : LEG_OGATE_reset.width = 1 := rfl
@[simp] theorem FLTj_CFG_blank_width : FLTj_CFG_blank.width = 12 := rfl
@[simp] theorem FLTj_CFG_filt_width : FLTj_CFG_filt.width = 8 := rfl
@[simp] theorem FLTj_CFG_pat_width : FLTj_CFG_pat.width = 2 := rfl
@[simp] theorem FLTj_CFG_cut_width : FLTj_CFG_cut.width = 1 := rfl
@[simp] theorem FLTj_CFG_pol_width : FLTj_CFG_pol.width = 1 := rfl
@[simp] theorem FLTj_CFG_mode_width : FLTj_CFG_mode.width = 2 := rfl
@[simp] theorem FLTj_MAP_legs_width : FLTj_MAP_legs.width = 16 := rfl
@[simp] theorem ITRIPm_CFG_blank_width : ITRIPm_CFG_blank.width = 12 := rfl
@[simp] theorem ITRIPm_CFG_ain_width : ITRIPm_CFG_ain.width = 6 := rfl
@[simp] theorem ITRIPm_CFG_pat_width : ITRIPm_CFG_pat.width = 2 := rfl
@[simp] theorem ITRIPm_CFG_sel_width : ITRIPm_CFG_sel.width = 1 := rfl
@[simp] theorem ITRIPm_CFG_cut_width : ITRIPm_CFG_cut.width = 1 := rfl
@[simp] theorem ITRIPm_CFG_mode_width : ITRIPm_CFG_mode.width = 2 := rfl
@[simp] theorem ITRIPm_MAP_legs_width : ITRIPm_MAP_legs.width = 16 := rfl
@[simp] theorem FLT_STAT_itrip_width : FLT_STAT_itrip.width = 16 := rfl
@[simp] theorem FLT_STAT_flt_width : FLT_STAT_flt.width = 16 := rfl
@[simp] theorem FLT_LVL_itrip_width : FLT_LVL_itrip.width = 16 := rfl
@[simp] theorem FLT_LVL_flt_width : FLT_LVL_flt.width = 16 := rfl
@[simp] theorem SPn_CTL_pg_en_width : SPn_CTL_pg_en.width = 4 := rfl
@[simp] theorem SPn_CTL_x0_load_width : SPn_CTL_x0_load.width = 1 := rfl
@[simp] theorem SPn_CTL_spec_width : SPn_CTL_spec.width = 1 := rfl
@[simp] theorem SPn_CTL_spec_dis_width : SPn_CTL_spec_dis.width = 1 := rfl
@[simp] theorem SPn_XFORM_vdc_en_width : SPn_XFORM_vdc_en.width = 1 := rfl
@[simp] theorem SPn_XFORM_vdc_width : SPn_XFORM_vdc.width = 3 := rfl
@[simp] theorem SPn_XFORM_mode_width : SPn_XFORM_mode.width = 2 := rfl
@[simp] theorem SPn_XFORM_pc_width : SPn_XFORM_pc.width = 3 := rfl
@[simp] theorem SPn_XFORM_pb_width : SPn_XFORM_pb.width = 3 := rfl
@[simp] theorem SPn_XFORM_pa_width : SPn_XFORM_pa.width = 3 := rfl
@[simp] theorem SPn_PER_per_width : SPn_PER_per.width = 32 := rfl
@[simp] theorem SPn_STEP_step_inact_width : SPn_STEP_step_inact.width = 8 := rfl
@[simp] theorem SPn_STEP_step_act_width : SPn_STEP_step_act.width = 8 := rfl
@[simp] theorem SPn_BANK_int_frz_width : SPn_BANK_int_frz.width = 1 := rfl
@[simp] theorem SPn_BANK_fb_width : SPn_BANK_fb.width = 1 := rfl
@[simp] theorem SPn_BANK_seal_busy_width : SPn_BANK_seal_busy.width = 1 := rfl
@[simp] theorem SPn_BANK_seal_req_width : SPn_BANK_seal_req.width = 1 := rfl
@[simp] theorem SPn_BANK_bumpless_width : SPn_BANK_bumpless.width = 1 := rfl
@[simp] theorem SPn_BANK_seal_b_width : SPn_BANK_seal_b.width = 1 := rfl
@[simp] theorem SPn_BANK_seal_a_width : SPn_BANK_seal_a.width = 1 := rfl
@[simp] theorem SPn_BANK_swap_width : SPn_BANK_swap.width = 1 := rfl
@[simp] theorem SPn_BANK_active_width : SPn_BANK_active.width = 1 := rfl
@[simp] theorem SPn_BANK_CRC_A_crc_width : SPn_BANK_CRC_A_crc.width = 32 := rfl
@[simp] theorem SPn_BANK_CRC_B_crc_width : SPn_BANK_CRC_B_crc.width = 32 := rfl
@[simp] theorem SPn_SPEC_ACC_count_width : SPn_SPEC_ACC_count.width = 32 := rfl
@[simp] theorem SPn_SPEC_REJ_swap_width : SPn_SPEC_REJ_swap.width = 8 := rfl
@[simp] theorem SPn_SPEC_REJ_sat_width : SPn_SPEC_REJ_sat.width = 8 := rfl
@[simp] theorem SPn_SPEC_REJ_innov_width : SPn_SPEC_REJ_innov.width = 8 := rfl
@[simp] theorem SPn_SPEC_LAST_period_width : SPn_SPEC_LAST_period.width = 16 := rfl
@[simp] theorem SPn_SPEC_LAST_meas_width : SPn_SPEC_LAST_meas.width = 3 := rfl
@[simp] theorem SPn_SPEC_LAST_cause_width : SPn_SPEC_LAST_cause.width = 3 := rfl
@[simp] theorem SPn_FB_fb_hold_width : SPn_FB_fb_hold.width = 12 := rfl
@[simp] theorem SPn_FB_frz_n_width : SPn_FB_frz_n.width = 8 := rfl
@[simp] theorem SPn_FB_miss_n_width : SPn_FB_miss_n.width = 4 := rfl
@[simp] theorem SPn_FB_act_width : SPn_FB_act.width = 1 := rfl
@[simp] theorem SPn_FBSTAT_hold_left_width : SPn_FBSTAT_hold_left.width = 12 := rfl
@[simp] theorem SPn_FBSTAT_expired_width : SPn_FBSTAT_expired.width = 1 := rfl
@[simp] theorem SPn_FBSTAT_hold_width : SPn_FBSTAT_hold.width = 1 := rfl
@[simp] theorem SPn_FBSTAT_absent_width : SPn_FBSTAT_absent.width = 8 := rfl
@[simp] theorem SPn_FBSTAT_lost_width : SPn_FBSTAT_lost.width = 8 := rfl
@[simp] theorem SPn_MISS_miss_cnt_width : SPn_MISS_miss_cnt.width = 16 := rfl
@[simp] theorem SPn_MISS_miss_now_width : SPn_MISS_miss_now.width = 8 := rfl
@[simp] theorem SPn_OSC_CFG_win_width : SPn_OSC_CFG_win.width = 16 := rfl
@[simp] theorem SPn_OSC_CFG_en_width : SPn_OSC_CFG_en.width = 1 := rfl
@[simp] theorem SPn_OSC_CFG_resp_width : SPn_OSC_CFG_resp.width = 2 := rfl
@[simp] theorem SPn_OSC_CFG_kind_width : SPn_OSC_CFG_kind.width = 2 := rfl
@[simp] theorem SPn_OSC_CFG_index_width : SPn_OSC_CFG_index.width = 4 := rfl
@[simp] theorem SPn_OSC_N_n_max_width : SPn_OSC_N_n_max.width = 8 := rfl
@[simp] theorem SPn_OSC_N_n_min_width : SPn_OSC_N_n_min.width = 8 := rfl
@[simp] theorem SPn_OSC_STAT_osc_cnt_width : SPn_OSC_STAT_osc_cnt.width = 8 := rfl
@[simp] theorem SPn_OSC_STAT_osc_width : SPn_OSC_STAT_osc.width = 1 := rfl
@[simp] theorem SPn_OSC_STAT_last_cnt_width : SPn_OSC_STAT_last_cnt.width = 8 := rfl
@[simp] theorem SPn_PG_STAT_busy_width : SPn_PG_STAT_busy.width = 4 := rfl
@[simp] theorem SPn_FLD_CTL_ipd_en_width : SPn_FLD_CTL_ipd_en.width = 1 := rfl
@[simp] theorem SPn_FLD_CTL_rec_en_width : SPn_FLD_CTL_rec_en.width = 1 := rfl
@[simp] theorem SPn_FLD_CTL_ke_en_width : SPn_FLD_CTL_ke_en.width = 1 := rfl
@[simp] theorem SPn_FLD_CTL_lr_en_width : SPn_FLD_CTL_lr_en.width = 1 := rfl
@[simp] theorem SPn_FLD_CTL_obs_en_width : SPn_FLD_CTL_obs_en.width = 1 := rfl
@[simp] theorem SPn_FLD_CTL_fw_en_width : SPn_FLD_CTL_fw_en.width = 1 := rfl
@[simp] theorem SPn_FLD_CTL_ff_en_width : SPn_FLD_CTL_ff_en.width = 1 := rfl
@[simp] theorem SPn_FLD_CTL_ref_torque_width : SPn_FLD_CTL_ref_torque.width = 1 := rfl
@[simp] theorem SPn_FLD_CTL_ovm_width : SPn_FLD_CTL_ovm.width = 2 := rfl
@[simp] theorem SPn_FLD_CTL_asrc_width : SPn_FLD_CTL_asrc.width = 2 := rfl
@[simp] theorem SPn_FLD_CTL_mode_width : SPn_FLD_CTL_mode.width = 2 := rfl
@[simp] theorem SPn_FLD_STAT_rec_cnt_width : SPn_FLD_STAT_rec_cnt.width = 4 := rfl
@[simp] theorem SPn_FLD_STAT_pll_lock_width : SPn_FLD_STAT_pll_lock.width = 1 := rfl
@[simp] theorem SPn_FLD_STAT_ovm_active_width : SPn_FLD_STAT_ovm_active.width = 1 := rfl
@[simp] theorem SPn_FLD_STAT_fw_active_width : SPn_FLD_STAT_fw_active.width = 1 := rfl
@[simp] theorem SPn_FLD_STAT_fw_limit_width : SPn_FLD_STAT_fw_limit.width = 1 := rfl
@[simp] theorem SPn_FLD_STAT_ke_abn_width : SPn_FLD_STAT_ke_abn.width = 1 := rfl
@[simp] theorem SPn_FLD_STAT_locked_width : SPn_FLD_STAT_locked.width = 1 := rfl
@[simp] theorem SPn_FLD_STAT_obs_lost_width : SPn_FLD_STAT_obs_lost.width = 1 := rfl
@[simp] theorem SPn_FLD_STAT_obs_valid_width : SPn_FLD_STAT_obs_valid.width = 1 := rfl
@[simp] theorem SPn_FLD_STAT_task_width : SPn_FLD_STAT_task.width = 3 := rfl
@[simp] theorem SPn_FLD_STAT_engine_width : SPn_FLD_STAT_engine.width = 2 := rfl
@[simp] theorem SPn_MACH_pp_width : SPn_MACH_pp.width = 5 := rfl
@[simp] theorem SPn_PSI_value_width : SPn_PSI_value.width = 32 := rfl
@[simp] theorem SPn_LD_value_width : SPn_LD_value.width = 32 := rfl
@[simp] theorem SPn_LQ_value_width : SPn_LQ_value.width = 32 := rfl
@[simp] theorem SPn_RS_value_width : SPn_RS_value.width = 32 := rfl
@[simp] theorem SPn_IMAX_imax_width : SPn_IMAX_imax.width = 32 := rfl
@[simp] theorem SPn_ANG_OFS_meas_ofs_width : SPn_ANG_OFS_meas_ofs.width = 16 := rfl
@[simp] theorem SPn_ANG_OFS_u_adv_width : SPn_ANG_OFS_u_adv.width = 16 := rfl
@[simp] theorem SPn_FW_fw_start_width : SPn_FW_fw_start.width = 16 := rfl
@[simp] theorem SPn_FW_kp_fw_width : SPn_FW_kp_fw.width = 16 := rfl
@[simp] theorem SPn_FW_KI_ki_fw_width : SPn_FW_KI_ki_fw.width = 16 := rfl
@[simp] theorem SPn_FW_MIN_id_fw_min_width : SPn_FW_MIN_id_fw_min.width = 32 := rfl
@[simp] theorem SPn_OBS_obs_n_width : SPn_OBS_obs_n.width = 8 := rfl
@[simp] theorem SPn_OBS_trk_lim_width : SPn_OBS_trk_lim.width = 8 := rfl
@[simp] theorem SPn_OBS_bw_width : SPn_OBS_bw.width = 16 := rfl
@[simp] theorem SPn_OBS_LIM_res_lim_width : SPn_OBS_LIM_res_lim.width = 16 := rfl
@[simp] theorem SPn_OBS_MIN_obs_min_width : SPn_OBS_MIN_obs_min.width = 32 := rfl
@[simp] theorem SPn_REC_recap_n_width : SPn_REC_recap_n.width = 4 := rfl
@[simp] theorem SPn_REC_probe_width : SPn_REC_probe.width = 12 := rfl
@[simp] theorem SPn_REC_settle_width : SPn_REC_settle.width = 16 := rfl
@[simp] theorem SPn_REC_I_i_zero_width : SPn_REC_I_i_zero.width = 16 := rfl
@[simp] theorem SPn_REC_I_i_probe_width : SPn_REC_I_i_probe.width = 16 := rfl
@[simp] theorem SPn_DTC_t_band_width : SPn_DTC_t_band.width = 16 := rfl
@[simp] theorem SPn_DTC_psi_band_width : SPn_DTC_psi_band.width = 16 := rfl
@[simp] theorem SPn_DTC_CFG_seq_width : SPn_DTC_CFG_seq.width = 4 := rfl
@[simp] theorem SPn_DTC_CFG_dec_min_width : SPn_DTC_CFG_dec_min.width = 16 := rfl
@[simp] theorem SPn_LR_lr_torq_width : SPn_LR_lr_torq.width = 16 := rfl
@[simp] theorem SPn_LR_lr_angle_width : SPn_LR_lr_angle.width = 8 := rfl
@[simp] theorem SPn_LR_T_lr_time_width : SPn_LR_T_lr_time.width = 16 := rfl
@[simp] theorem SPn_LR_T_lr_current_width : SPn_LR_T_lr_current.width = 16 := rfl
@[simp] theorem SPn_KE_ke_tol_width : SPn_KE_ke_tol.width = 16 := rfl
@[simp] theorem SPn_KE_ke_id_band_width : SPn_KE_ke_id_band.width = 16 := rfl
@[simp] theorem SPn_KE_SPD_ke_min_width : SPn_KE_SPD_ke_min.width = 32 := rfl
@[simp] theorem SPn_KE_T_ke_time_width : SPn_KE_T_ke_time.width = 16 := rfl
@[simp] theorem SPn_KE_T_ke_derate_width : SPn_KE_T_ke_derate.width = 16 := rfl
@[simp] theorem SPn_FORCE_freq_width : SPn_FORCE_freq.width = 32 := rfl
@[simp] theorem SPn_GRID_pll_bw_width : SPn_GRID_pll_bw.width = 8 := rfl
@[simp] theorem SPn_GRID_gc_width : SPn_GRID_gc.width = 3 := rfl
@[simp] theorem SPn_GRID_gb_width : SPn_GRID_gb.width = 3 := rfl
@[simp] theorem SPn_GRID_ga_width : SPn_GRID_ga.width = 3 := rfl
@[simp] theorem SPn_GRID_ptp_align_width : SPn_GRID_ptp_align.width = 1 := rfl
@[simp] theorem SPn_GRID_f_nom_width : SPn_GRID_f_nom.width = 1 := rfl
@[simp] theorem SPn_GRID_DROOP_mp_width : SPn_GRID_DROOP_mp.width = 16 := rfl
@[simp] theorem SPn_GRID_DROOP_mq_width : SPn_GRID_DROOP_mq.width = 16 := rfl
@[simp] theorem SPn_GRID_BAND_f_hi_width : SPn_GRID_BAND_f_hi.width = 16 := rfl
@[simp] theorem SPn_GRID_BAND_f_lo_width : SPn_GRID_BAND_f_lo.width = 16 := rfl
@[simp] theorem SPn_ANG_M_angle_width : SPn_ANG_M_angle.width = 32 := rfl
@[simp] theorem SPn_ANG_U_angle_width : SPn_ANG_U_angle.width = 32 := rfl
@[simp] theorem SPn_OBS_ANG_angle_width : SPn_OBS_ANG_angle.width = 32 := rfl
@[simp] theorem SPn_OBS_SPD_speed_width : SPn_OBS_SPD_speed.width = 32 := rfl
@[simp] theorem SPn_FW_ID_id_fw_width : SPn_FW_ID_id_fw.width = 32 := rfl
@[simp] theorem SPn_KE_EST_psi_f_width : SPn_KE_EST_psi_f.width = 32 := rfl
@[simp] theorem SPn_GRID_F_freq_width : SPn_GRID_F_freq.width = 32 := rfl
@[simp] theorem SPn_TLIM_EFF_i_lim_width : SPn_TLIM_EFF_i_lim.width = 16 := rfl
@[simp] theorem SPn_TLIM_EFF_t_lim_width : SPn_TLIM_EFF_t_lim.width = 16 := rfl
@[simp] theorem SPn_SIX_OFS_ofs_width : SPn_SIX_OFS_ofs.width = 32 := rfl
@[simp] theorem CHn_STATE_cause_width : CHn_STATE_cause.width = 8 := rfl
@[simp] theorem CHn_STATE_sel_width : CHn_STATE_sel.width = 2 := rfl
@[simp] theorem CHn_STATE_motoring_only_width : CHn_STATE_motoring_only.width = 1 := rfl
@[simp] theorem CHn_STATE_safety_width : CHn_STATE_safety.width = 1 := rfl
@[simp] theorem CHn_STATE_pat_width : CHn_STATE_pat.width = 2 := rfl
@[simp] theorem CHn_STATE_held_width : CHn_STATE_held.width = 1 := rfl
@[simp] theorem CHn_STATE_ss_width : CHn_STATE_ss.width = 3 := rfl
@[simp] theorem CHn_STATE_prev_width : CHn_STATE_prev.width = 3 := rfl
@[simp] theorem CHn_STATE_state_width : CHn_STATE_state.width = 3 := rfl
@[simp] theorem CHn_SAFECFG_asc_hyst_width : CHn_SAFECFG_asc_hyst.width = 16 := rfl
@[simp] theorem CHn_SAFECFG_asc_resume_width : CHn_SAFECFG_asc_resume.width = 1 := rfl
@[simp] theorem CHn_SAFECFG_asc_unk_width : CHn_SAFECFG_asc_unk.width = 1 := rfl
@[simp] theorem CHn_SAFECFG_asc_pref_width : CHn_SAFECFG_asc_pref.width = 1 := rfl
@[simp] theorem CHn_SAFECFG_ch_safe_ss_width : CHn_SAFECFG_ch_safe_ss.width = 2 := rfl
@[simp] theorem CHn_SAFECFG_stop_resume_width : CHn_SAFECFG_stop_resume.width = 1 := rfl
@[simp] theorem CHn_ASC_SPD_asc_speed_width : CHn_ASC_SPD_asc_speed.width = 32 := rfl
@[simp] theorem CHn_ASC_V_asc_vmargin_width : CHn_ASC_V_asc_vmargin.width = 16 := rfl
@[simp] theorem CHn_SEL_THR_thr_width : CHn_SEL_THR_thr.width = 32 := rfl
@[simp] theorem CHn_STOP_stop_eps_width : CHn_STOP_stop_eps.width = 16 := rfl
@[simp] theorem CHn_STOP_stop_ramp_width : CHn_STOP_stop_ramp.width = 16 := rfl
@[simp] theorem CHn_SWFAIL_ls_width : CHn_SWFAIL_ls.width = 6 := rfl
@[simp] theorem CHn_SWFAIL_hs_width : CHn_SWFAIL_hs.width = 6 := rfl
@[simp] theorem CHn_OC_trip_lines_width : CHn_OC_trip_lines.width = 16 := rfl
@[simp] theorem CHn_OC_cyc_lines_width : CHn_OC_cyc_lines.width = 16 := rfl
@[simp] theorem CHn_OC_FLT_cyc_max_width : CHn_OC_FLT_cyc_max.width = 8 := rfl
@[simp] theorem CHn_OC_FLT_trip_flt_width : CHn_OC_FLT_trip_flt.width = 16 := rfl
@[simp] theorem CHn_OCSTAT_cyc_cnt_width : CHn_OCSTAT_cyc_cnt.width = 8 := rfl
@[simp] theorem CHn_OCSTAT_cut_now_width : CHn_OCSTAT_cut_now.width = 1 := rfl
@[simp] theorem CHn_OCSTAT_oc_trip_width : CHn_OCSTAT_oc_trip.width = 1 := rfl
@[simp] theorem CHn_OCSTAT_cyc_run_width : CHn_OCSTAT_cyc_run.width = 8 := rfl
@[simp] theorem CHn_VDC_SCALE_scale_width : CHn_VDC_SCALE_scale.width = 32 := rfl
@[simp] theorem CHn_VDC_OFS_ofs_width : CHn_VDC_OFS_ofs.width = 16 := rfl
@[simp] theorem PRT_LNKl_CFG_en_width : PRT_LNKl_CFG_en.width = 1 := rfl
@[simp] theorem PRT_LNKl_CFG_members_width : PRT_LNKl_CFG_members.width = 4 := rfl
@[simp] theorem PRT_LNKl_CFG_ichop_ain_width : PRT_LNKl_CFG_ichop_ain.width = 6 := rfl
@[simp] theorem PRT_LNKl_CFG_ichop_en_width : PRT_LNKl_CFG_ichop_en.width = 1 := rfl
@[simp] theorem PRT_LNKl_CFG_pre_leg_width : PRT_LNKl_CFG_pre_leg.width = 2 := rfl
@[simp] theorem PRT_LNKl_CFG_pre_en_width : PRT_LNKl_CFG_pre_en.width = 1 := rfl
@[simp] theorem PRT_LNKl_CFG_chop_leg_width : PRT_LNKl_CFG_chop_leg.width = 2 := rfl
@[simp] theorem PRT_LNKl_CFG_chop_en_width : PRT_LNKl_CFG_chop_en.width = 1 := rfl
@[simp] theorem PRT_LNKl_CFG_chop_mode_width : PRT_LNKl_CFG_chop_mode.width = 1 := rfl
@[simp] theorem PRT_LNKl_CFG_vdc_ain_width : PRT_LNKl_CFG_vdc_ain.width = 6 := rfl
@[simp] theorem PRT_LNKl_OV1_ov_warn_width : PRT_LNKl_OV1_ov_warn.width = 16 := rfl
@[simp] theorem PRT_LNKl_OV1_chop_on_width : PRT_LNKl_OV1_chop_on.width = 16 := rfl
@[simp] theorem PRT_LNKl_OV2_ov_hard_width : PRT_LNKl_OV2_ov_hard.width = 16 := rfl
@[simp] theorem PRT_LNKl_OV2_ov_asc_width : PRT_LNKl_OV2_ov_asc.width = 16 := rfl
@[simp] theorem PRT_LNKl_CHOP_chop_full_width : PRT_LNKl_CHOP_chop_full.width = 16 := rfl
@[simp] theorem PRT_LNKl_CHOP_chop_off_width : PRT_LNKl_CHOP_chop_off.width = 16 := rfl
@[simp] theorem PRT_LNKl_CHK_ichop_min_width : PRT_LNKl_CHK_ichop_min.width = 16 := rfl
@[simp] theorem PRT_LNKl_CHK_chop_confirm_width : PRT_LNKl_CHK_chop_confirm.width = 16 := rfl
@[simp] theorem PRT_LNKl_FILT_ov_filt_width : PRT_LNKl_FILT_ov_filt.width = 8 := rfl
@[simp] theorem PRT_LNKl_PRE_pre_done_width : PRT_LNKl_PRE_pre_done.width = 16 := rfl
@[simp] theorem PRT_LNKl_PRE_pre_time_width : PRT_LNKl_PRE_pre_time.width = 16 := rfl
@[simp] theorem PRT_LNKl_DIS_dis_v_width : PRT_LNKl_DIS_dis_v.width = 16 := rfl
@[simp] theorem PRT_LNKl_DIS_dis_mode_width : PRT_LNKl_DIS_dis_mode.width = 2 := rfl
@[simp] theorem PRT_LNKl_DIST_dis_id_width : PRT_LNKl_DIST_dis_id.width = 16 := rfl
@[simp] theorem PRT_LNKl_DIST_dis_time_width : PRT_LNKl_DIST_dis_time.width = 16 := rfl
@[simp] theorem PRT_LNKl_STAT_vmean_width : PRT_LNKl_STAT_vmean.width = 16 := rfl
@[simp] theorem PRT_LNKl_STAT_lstate_width : PRT_LNKl_STAT_lstate.width = 2 := rfl
@[simp] theorem PRT_LNKl_STAT_starved_width : PRT_LNKl_STAT_starved.width = 1 := rfl
@[simp] theorem PRT_LNKl_STAT_dis_fail_width : PRT_LNKl_STAT_dis_fail.width = 1 := rfl
@[simp] theorem PRT_LNKl_STAT_pre_fail_width : PRT_LNKl_STAT_pre_fail.width = 1 := rfl
@[simp] theorem PRT_LNKl_STAT_ov_hard_width : PRT_LNKl_STAT_ov_hard.width = 1 := rfl
@[simp] theorem PRT_LNKl_STAT_ov_asc_width : PRT_LNKl_STAT_ov_asc.width = 1 := rfl
@[simp] theorem PRT_LNKl_STAT_motoring_only_width : PRT_LNKl_STAT_motoring_only.width = 1 := rfl
@[simp] theorem PRT_LNKl_STAT_chop_fail_width : PRT_LNKl_STAT_chop_fail.width = 1 := rfl
@[simp] theorem PRT_LNKl_STAT_chop_width : PRT_LNKl_STAT_chop.width = 1 := rfl
@[simp] theorem PRT_LNKl_STAT_warn_width : PRT_LNKl_STAT_warn.width = 1 := rfl
@[simp] theorem PRT_LNKl_VMAX_vmax_width : PRT_LNKl_VMAX_vmax.width = 16 := rfl
@[simp] theorem PRT_LS_CTL_dig_per_width : PRT_LS_CTL_dig_per.width = 16 := rfl
@[simp] theorem PRT_LS_STAT_restored_width : PRT_LS_STAT_restored.width = 6 := rfl
@[simp] theorem PRT_LS_STAT_cmp_split_width : PRT_LS_STAT_cmp_split.width = 6 := rfl
@[simp] theorem PRT_LS_STAT_mismatch_width : PRT_LS_STAT_mismatch.width = 6 := rfl
@[simp] theorem PRT_LS_CNTp_mis_cnt_width : PRT_LS_CNTp_mis_cnt.width = 8 := rfl
@[simp] theorem PRT_LS_CNTp_lat_cnt_width : PRT_LS_CNTp_lat_cnt.width = 8 := rfl
@[simp] theorem PRT_LS_CNTp_par_cnt_width : PRT_LS_CNTp_par_cnt.width = 8 := rfl
@[simp] theorem PRT_LS_CNTp_test_cnt_width : PRT_LS_CNTp_test_cnt.width = 8 := rfl
@[simp] theorem PRT_CHUCK_STAT_resample_width : PRT_CHUCK_STAT_resample.width = 16 := rfl
@[simp] theorem PRT_CHUCK_STAT_disagree_width : PRT_CHUCK_STAT_disagree.width = 16 := rfl
@[simp] theorem PRT_RSTVEC_CPA_addr_width : PRT_RSTVEC_CPA_addr.width = 32 := rfl
@[simp] theorem PRT_RSTVEC_CPB_addr_width : PRT_RSTVEC_CPB_addr.width = 32 := rfl
@[simp] theorem PRT_CMP_TEST_bit_width : PRT_CMP_TEST_bit.width = 8 := rfl
@[simp] theorem BDG_MB_REQ_go_width : BDG_MB_REQ_go.width = 1 := rfl
@[simp] theorem BDG_MB_REQ_len_width : BDG_MB_REQ_len.width = 11 := rfl
@[simp] theorem BDG_MB_STAT_busy_width : BDG_MB_STAT_busy.width = 1 := rfl
@[simp] theorem BDG_MB_STAT_done_width : BDG_MB_STAT_done.width = 1 := rfl
@[simp] theorem BDG_MB_STAT_status_width : BDG_MB_STAT_status.width = 8 := rfl
@[simp] theorem BDG_STATE_dev_cause_width : BDG_STATE_dev_cause.width = 8 := rfl
@[simp] theorem BDG_STATE_lsb_cpb_width : BDG_STATE_lsb_cpb.width = 1 := rfl
@[simp] theorem BDG_STATE_lsb_cpa_width : BDG_STATE_lsb_cpa.width = 1 := rfl
@[simp] theorem BDG_STATE_fault_n_width : BDG_STATE_fault_n.width = 1 := rfl
@[simp] theorem BDG_STATE_safe_en1_width : BDG_STATE_safe_en1.width = 1 := rfl
@[simp] theorem BDG_STATE_safe_en0_width : BDG_STATE_safe_en0.width = 1 := rfl
@[simp] theorem BDG_STATE_unit_width : BDG_STATE_unit.width = 2 := rfl
@[simp] theorem BDG_SUPV_cpb_width : BDG_SUPV_cpb.width = 4 := rfl
@[simp] theorem BDG_WDG_KICKc_key_width : BDG_WDG_KICKc_key.width = 16 := rfl
@[simp] theorem BDG_WDG_STATc_miss_cnt_width : BDG_WDG_STATc_miss_cnt.width = 8 := rfl
@[simp] theorem BDG_WDG_STATc_open_width : BDG_WDG_STATc_open.width = 1 := rfl
@[simp] theorem BDG_WDG_STATc_token_width : BDG_WDG_STATc_token.width = 16 := rfl
@[simp] theorem BDG_FSTATw_src_width : BDG_FSTATw_src.width = 32 := rfl
@[simp] theorem BDG_FLIVEw_src_width : BDG_FLIVEw_src.width = 32 := rfl
@[simp] theorem BDG_PARAM_CRC_crc_width : BDG_PARAM_CRC_crc.width = 32 := rfl
@[simp] theorem TLS_CFG_start_wait_width : TLS_CFG_start_wait.width = 8 := rfl
@[simp] theorem TLS_CFG_hb_lead_width : TLS_CFG_hb_lead.width = 12 := rfl
@[simp] theorem TLS_CFG_lane_mask_width : TLS_CFG_lane_mask.width = 2 := rfl
@[simp] theorem TLS_CFG_auto_rejoin_width : TLS_CFG_auto_rejoin.width = 1 := rfl
@[simp] theorem TLS_CFG_cold_en_width : TLS_CFG_cold_en.width = 1 := rfl
@[simp] theorem TLS_CFG_start_role_width : TLS_CFG_start_role.width = 1 := rfl
@[simp] theorem TLS_CFG_en_width : TLS_CFG_en.width = 1 := rfl
@[simp] theorem TLS_CKCFG_sync_n_width : TLS_CKCFG_sync_n.width = 8 := rfl
@[simp] theorem TLS_CKCFG_cold_ch_width : TLS_CKCFG_cold_ch.width = 4 := rfl
@[simp] theorem TLS_CKCFG_cold_ramp_width : TLS_CKCFG_cold_ramp.width = 16 := rfl
@[simp] theorem TLS_STAT_nr_cause_width : TLS_STAT_nr_cause.width = 4 := rfl
@[simp] theorem TLS_STAT_aligned_width : TLS_STAT_aligned.width = 1 := rfl
@[simp] theorem TLS_STAT_digest_ok_width : TLS_STAT_digest_ok.width = 1 := rfl
@[simp] theorem TLS_STAT_sel_fb_width : TLS_STAT_sel_fb.width = 1 := rfl
@[simp] theorem TLS_STAT_xl_in_width : TLS_STAT_xl_in.width = 1 := rfl
@[simp] theorem TLS_STAT_lane_up_width : TLS_STAT_lane_up.width = 2 := rfl
@[simp] theorem TLS_STAT_peer_unit_width : TLS_STAT_peer_unit.width = 2 := rfl
@[simp] theorem TLS_STAT_peer_ready_width : TLS_STAT_peer_ready.width = 2 := rfl
@[simp] theorem TLS_STAT_peer_role_width : TLS_STAT_peer_role.width = 2 := rfl
@[simp] theorem TLS_STAT_ready_width : TLS_STAT_ready.width = 2 := rfl
@[simp] theorem TLS_STAT_role_width : TLS_STAT_role.width = 2 := rfl
@[simp] theorem TLS_CNT_miss_cnt_width : TLS_CNT_miss_cnt.width = 8 := rfl
@[simp] theorem TLS_CNT_late_cnt_width : TLS_CNT_late_cnt.width = 8 := rfl
@[simp] theorem TLS_CNT_crc_err_width : TLS_CNT_crc_err.width = 8 := rfl
@[simp] theorem TLS_CNT_tko_cnt_width : TLS_CNT_tko_cnt.width = 8 := rfl
@[simp] theorem TLS_ALIGN_err_max_width : TLS_ALIGN_err_max.width = 16 := rfl
@[simp] theorem TLS_ALIGN_err_width : TLS_ALIGN_err.width = 16 := rfl
@[simp] theorem TLS_PEER_OFS_LO_ofs_width : TLS_PEER_OFS_LO_ofs.width = 32 := rfl
@[simp] theorem TLS_PEER_OFS_HI_ofs_width : TLS_PEER_OFS_HI_ofs.width = 32 := rfl
@[simp] theorem TLS_DELAY_d_width : TLS_DELAY_d.width = 16 := rfl
@[simp] theorem TLS_TRIM_asym_width : TLS_TRIM_asym.width = 16 := rfl
@[simp] theorem TLS_LAST_TKO_src_width : TLS_LAST_TKO_src.width = 2 := rfl
@[simp] theorem TLS_LAST_TKO_kind_width : TLS_LAST_TKO_kind.width = 2 := rfl
@[simp] theorem TLS_LAST_TKO_gap_width : TLS_LAST_TKO_gap.width = 24 := rfl
@[simp] theorem FPL_POOL_BASE_base_width : FPL_POOL_BASE_base.width = 32 := rfl
@[simp] theorem FPL_POOL_SIZE_size_width : FPL_POOL_SIZE_size.width = 32 := rfl
@[simp] theorem FPL_EVT_BASE_base_width : FPL_EVT_BASE_base.width = 32 := rfl
@[simp] theorem FPL_MPLOAD_overload_width : FPL_MPLOAD_overload.width = 1 := rfl
@[simp] theorem FPL_MPLOAD_load_width : FPL_MPLOAD_load.width = 8 := rfl
@[simp] theorem FPL_STAT_rej_width : FPL_STAT_rej.width = 16 := rfl
@[simp] theorem FPL_STAT_cpl_drop_width : FPL_STAT_cpl_drop.width = 8 := rfl
@[simp] theorem FPL_EVT_SEQ_seq_width : FPL_EVT_SEQ_seq.width = 32 := rfl
@[simp] theorem FPL_EVT_STAT_ovf_width : FPL_EVT_STAT_ovf.width = 16 := rfl
@[simp] theorem FPL_EVT_STAT_lost_width : FPL_EVT_STAT_lost.width = 16 := rfl
@[simp] theorem FPL_SLOTn_stale_to_width : FPL_SLOTn_stale_to.width = 16 := rfl
@[simp] theorem FPL_SLOTn_maxgap_width : FPL_SLOTn_maxgap.width = 4 := rfl
@[simp] theorem FPL_SLOTn_en_width : FPL_SLOTn_en.width = 4 := rfl
@[simp] theorem FPL_SLOTn_src_width : FPL_SLOTn_src.width = 2 := rfl
@[simp] theorem FPL_SLOTn_stale_act_width : FPL_SLOTn_stale_act.width = 1 := rfl
@[simp] theorem FPL_SLOTST_e2e_cnt_width : FPL_SLOTST_e2e_cnt.width = 16 := rfl
@[simp] theorem FPL_SLOTST_stale_width : FPL_SLOTST_stale.width = 16 := rfl
@[simp] theorem QPq_CFG_open_width : QPq_CFG_open.width = 1 := rfl
@[simp] theorem QPq_CFG_transport_width : QPq_CFG_transport.width = 3 := rfl
@[simp] theorem QPq_CFG_priv_width : QPq_CFG_priv.width = 1 := rfl
@[simp] theorem QPq_CFG_class_width : QPq_CFG_class.width = 2 := rfl
@[simp] theorem QPq_CFG_bulk_width : QPq_CFG_bulk.width = 1 := rfl
@[simp] theorem QPq_CFG_depth_width : QPq_CFG_depth.width = 4 := rfl
@[simp] theorem QPq_SQ_tail_width : QPq_SQ_tail.width = 9 := rfl
@[simp] theorem QPq_SQ_head_width : QPq_SQ_head.width = 9 := rfl
@[simp] theorem QPq_CQ_tail_width : QPq_CQ_tail.width = 9 := rfl
@[simp] theorem QPq_CQ_head_width : QPq_CQ_head.width = 9 := rfl
@[simp] theorem QPq_WAIT_idle_to_width : QPq_WAIT_idle_to.width = 16 := rfl
@[simp] theorem QPq_WAIT_qwait_width : QPq_WAIT_qwait.width = 16 := rfl
@[simp] theorem QPq_STAT_wexp_cnt_width : QPq_STAT_wexp_cnt.width = 8 := rfl
@[simp] theorem QPq_STAT_qfull_cnt_width : QPq_STAT_qfull_cnt.width = 8 := rfl
@[simp] theorem QPq_STAT_pending_width : QPq_STAT_pending.width = 9 := rfl
@[simp] theorem QPq_BASE_addr_width : QPq_BASE_addr.width = 32 := rfl
@[simp] theorem HLK_CFG_rate_width : HLK_CFG_rate.width = 2 := rfl
@[simp] theorem HLK_CFG_addr_src_width : HLK_CFG_addr_src.width = 2 := rfl
@[simp] theorem HLK_CFG_en_width : HLK_CFG_en.width = 1 := rfl
@[simp] theorem HLK_ADDR_valid_width : HLK_ADDR_valid.width = 1 := rfl
@[simp] theorem HLK_ADDR_addr_width : HLK_ADDR_addr.width = 6 := rfl
@[simp] theorem HLK_GROUP_grp_0_width : HLK_GROUP_grp_0.width = 8 := rfl
@[simp] theorem HLK_GROUP_grp_1_width : HLK_GROUP_grp_1.width = 8 := rfl
@[simp] theorem HLK_GROUP_grp_2_width : HLK_GROUP_grp_2.width = 8 := rfl
@[simp] theorem HLK_GROUP_grp_3_width : HLK_GROUP_grp_3.width = 8 := rfl
@[simp] theorem HLK_STAT_crc_err_width : HLK_STAT_crc_err.width = 8 := rfl
@[simp] theorem HLK_STAT_abort_width : HLK_STAT_abort.width = 8 := rfl
@[simp] theorem HLK_STAT_fast_rej_width : HLK_STAT_fast_rej.width = 8 := rfl
@[simp] theorem CANx_CTL_en_width : CANx_CTL_en.width = 1 := rfl
@[simp] theorem CANx_CTL_ide_width : CANx_CTL_ide.width = 1 := rfl
@[simp] theorem CANx_CTL_base_width : CANx_CTL_base.width = 29 := rfl
@[simp] theorem CANx_NBT_brp_width : CANx_NBT_brp.width = 8 := rfl
@[simp] theorem CANx_NBT_tseg1_width : CANx_NBT_tseg1.width = 8 := rfl
@[simp] theorem CANx_NBT_tseg2_width : CANx_NBT_tseg2.width = 8 := rfl
@[simp] theorem CANx_NBT_sjw_width : CANx_NBT_sjw.width = 8 := rfl
@[simp] theorem CANx_DBT_brp_width : CANx_DBT_brp.width = 8 := rfl
@[simp] theorem CANx_DBT_tseg1_width : CANx_DBT_tseg1.width = 8 := rfl
@[simp] theorem CANx_DBT_tseg2_width : CANx_DBT_tseg2.width = 8 := rfl
@[simp] theorem CANx_DBT_sjw_width : CANx_DBT_sjw.width = 8 := rfl
@[simp] theorem CANx_TDC_tdco_width : CANx_TDC_tdco.width = 8 := rfl
@[simp] theorem CANx_TDC_tdc_en_width : CANx_TDC_tdc_en.width = 1 := rfl
@[simp] theorem CANx_STAT_rec_width : CANx_STAT_rec.width = 8 := rfl
@[simp] theorem CANx_STAT_tec_width : CANx_STAT_tec.width = 8 := rfl
@[simp] theorem CANx_STAT_state_width : CANx_STAT_state.width = 2 := rfl
@[simp] theorem CANx_STAT_e2e_err_width : CANx_STAT_e2e_err.width = 8 := rfl
@[simp] theorem ETH_FP_en_width : ETH_FP_en.width = 1 := rfl
@[simp] theorem ETH_FP_port_width : ETH_FP_port.width = 16 := rfl
@[simp] theorem ETH_IP_addr_width : ETH_IP_addr.width = 32 := rfl
@[simp] theorem ETH_PTP_TS_LO_ts0_width : ETH_PTP_TS_LO_ts0.width = 32 := rfl
@[simp] theorem ETH_PTP_TS_HI_ts0_width : ETH_PTP_TS_HI_ts0.width = 32 := rfl
@[simp] theorem ETH_PTP_T_LO_t0_width : ETH_PTP_T_LO_t0.width = 32 := rfl
@[simp] theorem ETH_PTP_T_HI_t0_width : ETH_PTP_T_HI_t0.width = 32 := rfl
@[simp] theorem ETH_PTP_RATE_rate_width : ETH_PTP_RATE_rate.width = 32 := rfl
@[simp] theorem ETH_PTP_STAT_valid_width : ETH_PTP_STAT_valid.width = 1 := rfl
@[simp] theorem SETTp_CFG_en_width : SETTp_CFG_en.width = 1 := rfl
@[simp] theorem SETTp_CFG_miss_max_width : SETTp_CFG_miss_max.width = 4 := rfl
@[simp] theorem SETTp_CFG_div_width : SETTp_CFG_div.width = 4 := rfl
@[simp] theorem SETTp_CFG_ch_width : SETTp_CFG_ch.width = 2 := rfl
@[simp] theorem SETTp_CFG_offset_width : SETTp_CFG_offset.width = 16 := rfl
@[simp] theorem SETTp_GUARD_guard_width : SETTp_GUARD_guard.width = 16 := rfl
@[simp] theorem SETTp_STAT_mode_width : SETTp_STAT_mode.width = 2 := rfl
@[simp] theorem SETTp_STAT_enum_busy_width : SETTp_STAT_enum_busy.width = 1 := rfl
@[simp] theorem SETTp_STAT_exhausted_width : SETTp_STAT_exhausted.width = 1 := rfl
@[simp] theorem SETTp_STAT_end_b_width : SETTp_STAT_end_b.width = 8 := rfl
@[simp] theorem SETTp_STAT_end_a_width : SETTp_STAT_end_a.width = 8 := rfl
@[simp] theorem SETTp_STAT_nodes_width : SETTp_STAT_nodes.width = 8 := rfl
@[simp] theorem SETTp_TIME_fast_dur_width : SETTp_TIME_fast_dur.width = 16 := rfl
@[simp] theorem SETTp_TIME_loop_width : SETTp_TIME_loop.width = 16 := rfl
@[simp] theorem SETTp_BUDGET_d_line_width : SETTp_BUDGET_d_line.width = 16 := rfl
@[simp] theorem SETTp_BUDGET_d_ring_width : SETTp_BUDGET_d_ring.width = 16 := rfl
@[simp] theorem SETTp_CNT_overrun_width : SETTp_CNT_overrun.width = 8 := rfl
@[simp] theorem SETTp_CNT_crc_err_width : SETTp_CNT_crc_err.width = 8 := rfl
@[simp] theorem SETTp_CNT_breaks_width : SETTp_CNT_breaks.width = 8 := rfl
@[simp] theorem SETT_NODEe_ID_LO_id_width : SETT_NODEe_ID_LO_id.width = 32 := rfl
@[simp] theorem SETT_NODEe_ID_HI_id_width : SETT_NODEe_ID_HI_id.width = 32 := rfl
@[simp] theorem SETT_NODEe_CFG_present_width : SETT_NODEe_CFG_present.width = 1 := rfl
@[simp] theorem SETT_NODEe_CFG_kind_width : SETT_NODEe_CFG_kind.width = 3 := rfl
@[simp] theorem SETT_NODEe_CFG_slot8_width : SETT_NODEe_CFG_slot8.width = 1 := rfl
@[simp] theorem SETT_NODEe_CFG_class_width : SETT_NODEe_CFG_class.width = 2 := rfl
@[simp] theorem SETT_NODEe_CFG_side_width : SETT_NODEe_CFG_side.width = 1 := rfl
@[simp] theorem SETT_NODEe_CFG_leg_width : SETT_NODEe_CFG_leg.width = 3 := rfl
@[simp] theorem SETT_NODEe_CFG_ch_width : SETT_NODEe_CFG_ch.width = 2 := rfl
@[simp] theorem SETT_NODEe_CFG_ch_en_width : SETT_NODEe_CFG_ch_en.width = 1 := rfl
@[simp] theorem SETT_NODEe_CFG_pos_width : SETT_NODEe_CFG_pos.width = 8 := rfl
@[simp] theorem SETT_NODEe_STAT_miss_cnt_width : SETT_NODEe_STAT_miss_cnt.width = 8 := rfl
@[simp] theorem SETT_NODEe_STAT_consec_width : SETT_NODEe_STAT_consec.width = 4 := rfl
@[simp] theorem SETT_NODEe_STAT_miss_width : SETT_NODEe_STAT_miss.width = 1 := rfl
@[simp] theorem SETT_NODEe_LIVE0_slot_width : SETT_NODEe_LIVE0_slot.width = 32 := rfl
@[simp] theorem SETT_NODEe_LIVE1_slot_width : SETT_NODEe_LIVE1_slot.width = 32 := rfl
@[simp] theorem SETT_NODEe_LIVE_TS_ts_width : SETT_NODEe_LIVE_TS_ts.width = 32 := rfl
@[simp] theorem MTR_CFG_en_width : MTR_CFG_en.width = 1 := rfl
@[simp] theorem MTR_CFG_key_slot_width : MTR_CFG_key_slot.width = 4 := rfl
@[simp] theorem MTR_CFG_pack_src_width : MTR_CFG_pack_src.width = 1 := rfl
@[simp] theorem MTR_CFG_pack_port_width : MTR_CFG_pack_port.width = 1 := rfl
@[simp] theorem MTR_CFG_pack_addr_width : MTR_CFG_pack_addr.width = 8 := rfl
@[simp] theorem MTR_IN_i_ain_width : MTR_IN_i_ain.width = 6 := rfl
@[simp] theorem MTR_IN_v_ain_width : MTR_IN_v_ain.width = 6 := rfl
@[simp] theorem MTR_VLSB_lsb_width : MTR_VLSB_lsb.width = 32 := rfl
@[simp] theorem MTR_ILSB_lsb_width : MTR_ILSB_lsb.width = 32 := rfl
@[simp] theorem MTR_VGAIN_gain_width : MTR_VGAIN_gain.width = 32 := rfl
@[simp] theorem MTR_IGAIN_gain_width : MTR_IGAIN_gain.width = 32 := rfl
@[simp] theorem MTR_OFS_i_ofs_width : MTR_OFS_i_ofs.width = 16 := rfl
@[simp] theorem MTR_OFS_v_ofs_width : MTR_OFS_v_ofs.width = 16 := rfl
@[simp] theorem MTR_INT_interval_width : MTR_INT_interval.width = 16 := rfl
@[simp] theorem MTR_EPOS_LO_total_width : MTR_EPOS_LO_total.width = 32 := rfl
@[simp] theorem MTR_EPOS_HI_total_width : MTR_EPOS_HI_total.width = 32 := rfl
@[simp] theorem MTR_ENEG_LO_total_width : MTR_ENEG_LO_total.width = 32 := rfl
@[simp] theorem MTR_ENEG_HI_total_width : MTR_ENEG_HI_total.width = 32 := rfl
@[simp] theorem MTR_QPOS_LO_total_width : MTR_QPOS_LO_total.width = 32 := rfl
@[simp] theorem MTR_QPOS_HI_total_width : MTR_QPOS_HI_total.width = 32 := rfl
@[simp] theorem MTR_QNEG_LO_total_width : MTR_QNEG_LO_total.width = 32 := rfl
@[simp] theorem MTR_QNEG_HI_total_width : MTR_QNEG_HI_total.width = 32 := rfl
@[simp] theorem MTR_SEQ_seq_width : MTR_SEQ_seq.width = 32 := rfl
@[simp] theorem MTR_STAT_ret_valid_width : MTR_STAT_ret_valid.width = 1 := rfl
@[simp] theorem MTR_STAT_pack_unver_width : MTR_STAT_pack_unver.width = 1 := rfl
@[simp] theorem MTR_STAT_gap_width : MTR_STAT_gap.width = 1 := rfl
@[simp] theorem MTR_STAT_held_width : MTR_STAT_held.width = 16 := rfl
@[simp] theorem MTR_PACKIDk_id_width : MTR_PACKIDk_id.width = 32 := rfl
@[simp] theorem MTR_CURPACKk_id_width : MTR_CURPACKk_id.width = 32 := rfl
@[simp] theorem MTR_RESTOREk_rec_width : MTR_RESTOREk_rec.width = 32 := rfl
@[simp] theorem MTR_RESTORE_GO_go_width : MTR_RESTORE_GO_go.width = 1 := rfl
@[simp] theorem CVUc_CFG_maxgap_width : CVUc_CFG_maxgap.width = 8 := rfl
@[simp] theorem CVUc_CFG_alive_mode_width : CVUc_CFG_alive_mode.width = 1 := rfl
@[simp] theorem CVUc_CFG_alive_w_width : CVUc_CFG_alive_w.width = 1 := rfl
@[simp] theorem CVUc_CFG_refout_width : CVUc_CFG_refout.width = 1 := rfl
@[simp] theorem CVUc_CFG_refin_width : CVUc_CFG_refin.width = 1 := rfl
@[simp] theorem CVUc_CFG_poly_width : CVUc_CFG_poly.width = 3 := rfl
@[simp] theorem CVUc_INIT_LO_init_width : CVUc_INIT_LO_init.width = 32 := rfl
@[simp] theorem CVUc_INIT_HI_init_width : CVUc_INIT_HI_init.width = 32 := rfl
@[simp] theorem CVUc_XOR_LO_xorout_width : CVUc_XOR_LO_xorout.width = 32 := rfl
@[simp] theorem CVUc_XOR_HI_xorout_width : CVUc_XOR_HI_xorout.width = 32 := rfl
@[simp] theorem CVUc_CTL_alive_clr_width : CVUc_CTL_alive_clr.width = 1 := rfl
@[simp] theorem CVUc_CTL_start_width : CVUc_CTL_start.width = 1 := rfl
@[simp] theorem CVUc_DATA8_data_width : CVUc_DATA8_data.width = 8 := rfl
@[simp] theorem CVUc_DATA16_data_width : CVUc_DATA16_data.width = 16 := rfl
@[simp] theorem CVUc_DATA32_data_width : CVUc_DATA32_data.width = 32 := rfl
@[simp] theorem CVUc_RES_LO_crc_width : CVUc_RES_LO_crc.width = 32 := rfl
@[simp] theorem CVUc_RES_HI_crc_width : CVUc_RES_HI_crc.width = 32 := rfl
@[simp] theorem CVUc_ALIVE_counter_width : CVUc_ALIVE_counter.width = 8 := rfl
@[simp] theorem CVUc_STAT_alive_width : CVUc_STAT_alive.width = 2 := rfl
@[simp] theorem CVUc_STAT_last_width : CVUc_STAT_last.width = 8 := rfl
@[simp] theorem OWL_CFG_snap_log2_width : OWL_CFG_snap_log2.width = 4 := rfl
@[simp] theorem OWL_CFG_core_replay_width : OWL_CFG_core_replay.width = 1 := rfl
@[simp] theorem OWL_CFG_boot_arm_width : OWL_CFG_boot_arm.width = 1 := rfl
@[simp] theorem OWL_CTL_pre_width : OWL_CTL_pre.width = 8 := rfl
@[simp] theorem OWL_CTL_rp_abort_width : OWL_CTL_rp_abort.width = 1 := rfl
@[simp] theorem OWL_CTL_trig_width : OWL_CTL_trig.width = 1 := rfl
@[simp] theorem OWL_CTL_mode_width : OWL_CTL_mode.width = 1 := rfl
@[simp] theorem OWL_CTL_arm_width : OWL_CTL_arm.width = 1 := rfl
@[simp] theorem OWL_TRIG_MASK_mask_width : OWL_TRIG_MASK_mask.width = 32 := rfl
@[simp] theorem OWL_TRIG_EVT_code_width : OWL_TRIG_EVT_code.width = 16 := rfl
@[simp] theorem OWL_STAT_state_width : OWL_STAT_state.width = 3 := rfl
@[simp] theorem OWL_STAT_wrapped_width : OWL_STAT_wrapped.width = 1 := rfl
@[simp] theorem OWL_STAT_wptr_width : OWL_STAT_wptr.width = 19 := rfl
@[simp] theorem OWL_OLDEST_idx_width : OWL_OLDEST_idx.width = 19 := rfl
@[simp] theorem OWL_TRIG_PTR_valid_width : OWL_TRIG_PTR_valid.width = 1 := rfl
@[simp] theorem OWL_TRIG_PTR_idx_width : OWL_TRIG_PTR_idx.width = 19 := rfl
@[simp] theorem OWL_LOST_count_width : OWL_LOST_count.width = 32 := rfl
@[simp] theorem OWL_TRIG_TS_LO_ts_width : OWL_TRIG_TS_LO_ts.width = 32 := rfl
@[simp] theorem OWL_TRIG_TS_HI_ts_width : OWL_TRIG_TS_HI_ts.width = 32 := rfl
@[simp] theorem OWL_LOAD_IDX_idx_width : OWL_LOAD_IDX_idx.width = 19 := rfl
@[simp] theorem OWL_LOAD_D0_data_width : OWL_LOAD_D0_data.width = 32 := rfl
@[simp] theorem OWL_LOAD_D1_data_width : OWL_LOAD_D1_data.width = 32 := rfl
@[simp] theorem OWL_LOAD_D2_data_width : OWL_LOAD_D2_data.width = 8 := rfl
@[simp] theorem OWL_RP_STAT_result_width : OWL_RP_STAT_result.width = 4 := rfl
@[simp] theorem OWL_RP_STAT_running_width : OWL_RP_STAT_running.width = 1 := rfl
@[simp] theorem OWL_RP_STAT_div_cnt_width : OWL_RP_STAT_div_cnt.width = 16 := rfl
@[simp] theorem OWL_RP_DIV_PER_period_width : OWL_RP_DIV_PER_period.width = 32 := rfl
@[simp] theorem OWL_RP_DIV_WORD_kind_width : OWL_RP_DIV_WORD_kind.width = 3 := rfl
@[simp] theorem OWL_RP_DIV_WORD_ch_width : OWL_RP_DIV_WORD_ch.width = 2 := rfl
@[simp] theorem OWL_RP_DIV_WORD_idx_width : OWL_RP_DIV_WORD_idx.width = 19 := rfl
@[simp] theorem OWL_ETH_DST_addr_width : OWL_ETH_DST_addr.width = 32 := rfl
@[simp] theorem OWL_ETH_go_width : OWL_ETH_go.width = 1 := rfl
@[simp] theorem OWL_ETH_busy_width : OWL_ETH_busy.width = 1 := rfl
@[simp] theorem OWL_ETH_port_width : OWL_ETH_port.width = 16 := rfl
@[simp] theorem OWL_DIGESTk_digest_width : OWL_DIGESTk_digest.width = 32 := rfl
@[simp] theorem PWR_CTL_ign_filt_width : PWR_CTL_ign_filt.width = 8 := rfl
@[simp] theorem PWR_CTL_dis_at_shut_width : PWR_CTL_dis_at_shut.width = 1 := rfl
@[simp] theorem PWR_CTL_ign_en_width : PWR_CTL_ign_en.width = 1 := rfl
@[simp] theorem PWR_CTL_shutdown_width : PWR_CTL_shutdown.width = 1 := rfl
@[simp] theorem PWR_STAT_ready_width : PWR_STAT_ready.width = 1 := rfl
@[simp] theorem PWR_STAT_start_width : PWR_STAT_start.width = 2 := rfl
@[simp] theorem PWR_STAT_bist_fail_width : PWR_STAT_bist_fail.width = 1 := rfl
@[simp] theorem PWR_STAT_prev_fail_width : PWR_STAT_prev_fail.width = 1 := rfl
@[simp] theorem PWR_STAT_shut_width : PWR_STAT_shut.width = 3 := rfl
@[simp] theorem PWR_STAT_keep_alive_width : PWR_STAT_keep_alive.width = 1 := rfl
@[simp] theorem PWR_STAT_ign_width : PWR_STAT_ign.width = 1 := rfl
@[simp] theorem PWR_STAT_rst_cause_width : PWR_STAT_rst_cause.width = 3 := rfl
@[simp] theorem PWR_RESET_key_width : PWR_RESET_key.width = 16 := rfl
@[simp] theorem PWR_BIST_AGE_hours_width : PWR_BIST_AGE_hours.width = 16 := rfl
@[simp] theorem PWR_WAKE_TMR_secs_width : PWR_WAKE_TMR_secs.width = 24 := rfl
@[simp] theorem PWR_AON_TIME_secs_width : PWR_AON_TIME_secs.width = 32 := rfl
@[simp] theorem THM_TEMP_scv1_width : THM_TEMP_scv1.width = 16 := rfl
@[simp] theorem THM_TEMP_cv7_width : THM_TEMP_cv7.width = 16 := rfl
@[simp] theorem THM_STAT_no_comp_width : THM_STAT_no_comp.width = 1 := rfl
@[simp] theorem THM_STAT_stale_width : THM_STAT_stale.width = 1 := rfl
@[simp] theorem THM_STAT_level_width : THM_STAT_level.width = 3 := rfl
@[simp] theorem THM_CTL_user_thr_width : THM_CTL_user_thr.width = 16 := rfl
@[simp] theorem THM_CTL_crit_prof_en_width : THM_CTL_crit_prof_en.width = 1 := rfl
@[simp] theorem THM_CTL_crit_prof_width : THM_CTL_crit_prof.width = 2 := rfl
@[simp] theorem THM_MAX_max_width : THM_MAX_max.width = 16 := rfl
@[simp] theorem BIST_CTL_target_width : BIST_CTL_target.width = 7 := rfl
@[simp] theorem BIST_CTL_go_width : BIST_CTL_go.width = 1 := rfl
@[simp] theorem BIST_STAT_running_width : BIST_STAT_running.width = 1 := rfl
@[simp] theorem BIST_STAT_result_width : BIST_STAT_result.width = 2 := rfl
@[simp] theorem BIST_STAT_fail_width : BIST_STAT_fail.width = 17 := rfl
@[simp] theorem LCS_STATE_pending_width : LCS_STATE_pending.width = 1 := rfl
@[simp] theorem LCS_STATE_next_width : LCS_STATE_next.width = 3 := rfl
@[simp] theorem LCS_STATE_dbg_open_width : LCS_STATE_dbg_open.width = 1 := rfl
@[simp] theorem LCS_STATE_state_width : LCS_STATE_state.width = 3 := rfl
@[simp] theorem LCS_EPOCH_img_width : LCS_EPOCH_img.width = 8 := rfl
@[simp] theorem LCS_EPOCH_advance_width : LCS_EPOCH_advance.width = 1 := rfl
@[simp] theorem LCS_EPOCH_epoch_width : LCS_EPOCH_epoch.width = 8 := rfl
@[simp] theorem LCS_KEYS_present_width : LCS_KEYS_present.width = 16 := rfl
@[simp] theorem LCS_KEYS_revoked_width : LCS_KEYS_revoked.width = 16 := rfl
@[simp] theorem LCS_BOOT_fallback_width : LCS_BOOT_fallback.width = 1 := rfl
@[simp] theorem LCS_BOOT_area_width : LCS_BOOT_area.width = 1 := rfl
@[simp] theorem LCS_KPROG_go_width : LCS_KPROG_go.width = 1 := rfl
@[simp] theorem LCS_KPROG_attr_width : LCS_KPROG_attr.width = 8 := rfl
@[simp] theorem LCS_KPROG_slot_width : LCS_KPROG_slot.width = 4 := rfl
@[simp] theorem LCS_KDATAk_data_width : LCS_KDATAk_data.width = 32 := rfl
@[simp] theorem CHn_PERIOD_CNT_count_width : CHn_PERIOD_CNT_count.width = 32 := rfl
@[simp] theorem CLK_TS_LO_ts_width : CLK_TS_LO_ts.width = 32 := rfl
@[simp] theorem CLK_TS_HI_ts_width : CLK_TS_HI_ts.width = 32 := rfl
@[simp] theorem CLK_CKA_PHASE_phase_width : CLK_CKA_PHASE_phase.width = 11 := rfl
@[simp] theorem SPn_V_BASE_base_width : SPn_V_BASE_base.width = 32 := rfl
@[simp] theorem SPn_W_BASE_base_width : SPn_W_BASE_base.width = 32 := rfl
@[simp] theorem SYS_BUSERR_ADDR_addr_width : SYS_BUSERR_ADDR_addr.width = 32 := rfl
@[simp] theorem PLIC_PRIO_prio_width : PLIC_PRIO_prio.width = 32 := rfl
@[simp] theorem PLIC_PEND_bits_width : PLIC_PEND_bits.width = 32 := rfl
@[simp] theorem PLIC_EN_bits_width : PLIC_EN_bits.width = 32 := rfl
@[simp] theorem PLIC_THR_thr_width : PLIC_THR_thr.width = 32 := rfl
@[simp] theorem PLIC_CLAIM_src_width : PLIC_CLAIM_src.width = 32 := rfl

end Sys2Proof.Machine
end

