-- ==== Sys2Proof/Laws/Moves.lean ====
section
/-! SUPPORT. What a command can do to the state, said once: every meaning is a chain of the primitive updates listed here, and
a mask says which parts of the state and which register fields the chain may reach. Whatever each update keeps, every
step keeps; what is outside the mask, no update reaches. -/

set_option Elab.async false

namespace Sys2Proof.Machine

/-! ### Masks: bit 0 stands for any register field, bits 1 to 31 for the parts of the state, bit 40 + id for a field -/

/-- Every bit of the mask is in the other one. -/
structure Sub (m n : Nat) : Prop where
  eq : m &&& n = m

theorem Sub.trans {a b c : Nat} (h : Sub a b) (k : Sub b c) : Sub a c :=
  ⟨by rw [← h.eq, Nat.and_assoc, k.eq]⟩

theorem Sub.bit {a b k : Nat} (h : Sub a b) (hk : a.testBit k = true) : b.testBit k = true := by
  have e := congrArg (fun n => n.testBit k) h.eq
  simp only [Nat.testBit_and, hk, Bool.true_and] at e
  exact e

/-- The mask allows a write of this field. -/
def Can (m : Nat) (f : Fld) : Prop := m.testBit 0 = true ∨ m.testBit (f.id + 40) = true

theorem Sub.up {a b c : Nat} (k : Sub b c) (h : a &&& b = a := by decide) : Sub a c := Sub.trans ⟨h⟩ k

theorem Can.of {m n : Nat} {f : Fld} (k : Sub m n) (h : m.testBit (f.id + 40) = true := by decide) : Can n f := .inr (k.bit h)

theorem Can.any {m n : Nat} {f : Fld} (k : Sub m n) (h : m.testBit 0 = true := by decide) : Can n f := .inl (k.bit h)

theorem Can.ite {m : Nat} {f g : Fld} {c : Prop} [Decidable c] (hf : Can m f) (hg : Can m g) : Can m (if c then f else g) := by
  split
  · exact hf
  · exact hg

/-! ### The primitive updates -/

/-- A memory is reached from another by writes of single entries of the memories that the mask allows. -/
inductive MemMoves (k : Nat) (m : MemSt) : MemSt → Prop where
  | refl : MemMoves k m m
  | bytes {u a v} : Sub 0x10 k → MemMoves k m u → MemMoves k m { u with bytes := sput 0 u.bytes a v }
  | mp {u a v} : Sub 0x20 k → MemMoves k m u → MemMoves k m { u with mp := sput 0 u.mp a v }
  | lathe {u a v} : Sub 0x40 k → MemMoves k m u → MemMoves k m { u with lathe := sput 0 u.lathe a v }
  | owl {u a v} : Sub 0x80 k → MemMoves k m u → MemMoves k m { u with owl := sput 0 u.owl a v }
  | ue {u a v} : Sub 0x100 k → MemMoves k m u → MemMoves k m { u with ueKnown := sput 0 u.ueKnown a v }
  | back {u a v} : Sub 0x200 k → MemMoves k m u → MemMoves k m { u with writebacks := sput 0 u.writebacks a v }
  | noOwl {u} : Sub 0x80 k → MemMoves k m u → MemMoves k m { u with owl := [] }
  | clear {u} : Sub 0x300 k → MemMoves k m u → MemMoves k m { u with ueKnown := [], writebacks := [] }

/-- The state `t` is reached from `a` by primitive updates that the mask allows: a register field is written, an entry of a
sparse store is written, a fuse is blown, an epoch is advanced, the registers go to reset, or one of the other parts of
the state changes. -/
inductive Moves (m : Nat) (a : State) : State → Prop where
  | refl : Moves m a a
  | put {s : State} (f : Fld) (v i j : Nat) : Can m f → Moves m a s → Moves m a (s.put f v i j)
  | reset {s : State} : Sub 0x8000009 m → Moves m a s → Moves m a { s with regs := State.reset.regs, rate := [], sett := [] }
  | rate {s : State} {k v : Nat} : Sub 0x8 m → Moves m a s → Moves m a { s with rate := sput 0 s.rate k v }
  | sett {s : State} {k v : Nat} : Sub 0x8000000 m → Moves m a s → Moves m a { s with sett := sput 0 s.sett k v }
  | mem {s : State} {v : MemSt} : MemMoves m s.mem v → Moves m a s → Moves m a { s with mem := v }
  | fuse {s : State} {k : Nat} : Sub 0x40000000 m → Moves m a s → Moves m a { s with pwr := { s.pwr with fuses := s.pwr.fuses ||| k } }
  | epoch {s : State} {e : Nat} : Sub 0x40000000 m → s.pwr.epochs ≤ e → Moves m a s →
      Moves m a { s with pwr := { s.pwr with epochs := e } }
  | pwr {s : State} {v : PwrSt} : Sub 0x40000000 m → v.fuses = s.pwr.fuses → v.epochs = s.pwr.epochs → Moves m a s →
      Moves m a { s with pwr := v }
  | ts {s : State} {v} : Sub 0x2 m → Moves m a s → Moves m a { s with ts := v }
  | free {s : State} {v} : Sub 0x4 m → Moves m a s → Moves m a { s with free := v }
  | log {s : State} {v} : Sub 0x400 m → Moves m a s → Moves m a { s with log := v }
  | inflight {s : State} {v} : Sub 0x800 m → Moves m a s → Moves m a { s with inflight := v }
  | ports {s : State} {v} : Sub 0x1000 m → Moves m a s → Moves m a { s with ports := v }
  | cvb {s : State} {v} : Sub 0x2000 m → Moves m a s → Moves m a { s with cvb := v }
  | pos {s : State} {v} : Sub 0x4000 m → Moves m a s → Moves m a { s with pos := v }
  | gen {s : State} {v} : Sub 0x8000 m → Moves m a s → Moves m a { s with gen := v }
  | chans {s : State} {v} : Sub 0x10000 m → Moves m a s → Moves m a { s with chans := v }
  | sps {s : State} {v} : Sub 0x20000 m → Moves m a s → Moves m a { s with sps := v }
  | links {s : State} {v} : Sub 0x40000 m → Moves m a s → Moves m a { s with links := v }
  | bdg {s : State} {v} : Sub 0x80000 m → Moves m a s → Moves m a { s with bdg := v }
  | chuck {s : State} {v} : Sub 0x100000 m → Moves m a s → Moves m a { s with chuck := v }
  | landing {s : State} {v} : Sub 0x200000 m → Moves m a s → Moves m a { s with landing := v }
  | owl {s : State} {v} : Sub 0x400000 m → Moves m a s → Moves m a { s with owl := v }
  | tls {s : State} {v} : Sub 0x800000 m → Moves m a s → Moves m a { s with tls := v }
  | fpl {s : State} {v} : Sub 0x1000000 m → Moves m a s → Moves m a { s with fpl := v }
  | net {s : State} {v} : Sub 0x2000000 m → Moves m a s → Moves m a { s with net := v }
  | setts {s : State} {v} : Sub 0x4000000 m → Moves m a s → Moves m a { s with setts := v }
  | mtr {s : State} {v} : Sub 0x10000000 m → Moves m a s → Moves m a { s with mtr := v }
  | cvus {s : State} {v} : Sub 0x20000000 m → Moves m a s → Moves m a { s with cvus := v }
  | dev {s : State} {v} : Sub 0x80000000 m → Moves m a s → Moves m a { s with dev := v }

namespace Moves

theorem ite {m : Nat} {a s t : State} {c : Prop} [Decidable c] (h : c → Moves m a s) (k : ¬ c → Moves m a t) :
    Moves m a (if c then s else t) := by
  split <;> simp_all

theorem foldl {m : Nat} {α : Type} {a s : State} {l : List α} {f : State → α → State} (h : Moves m a s)
    (hf : ∀ t x, Moves m a t → Moves m a (f t x)) : Moves m a (l.foldl f s) := by
  induction l generalizing s with
  | nil => exact h
  | cons x l ih => exact ih (hf s x h)

end Moves

theorem State.onIf_moves {m : Nat} {a s : State} {c : Bool} {f : State → State} (h : Moves m a s)
    (hf : ∀ t, Moves m a t → Moves m a (f t)) : Moves m a (s.onIf c f) := Moves.ite (fun _ => hf s h) (fun _ => h)

theorem State.forL_moves {m : Nat} {α : Type} {a s : State} {l : List α} {f : α → State → State} (h : Moves m a s)
    (hf : ∀ x t, Moves m a t → Moves m a (f x t)) : Moves m a (s.forL l f) := Moves.foldl h (fun t x => hf x t)

theorem State.forN_moves {m : Nat} {a s : State} {n : Nat} {f : Nat → State → State} (h : Moves m a s)
    (hf : ∀ x t, Moves m a t → Moves m a (f x t)) : Moves m a (s.forN n f) := Moves.foldl h (fun t x => hf x t)

theorem State.put_moves {m : Nat} {a s : State} {f v i j} (c : Can m f) (h : Moves m a s) : Moves m a (s.put f v i j) :=
  h.put f v i j c

theorem Moves.of_fst {m : Nat} {α : Type} {a s : State} {x : State × α} {y : α} (e : x = (s, y)) (h : Moves m a x.1) :
    Moves m a s := by
  subst e; exact h

theorem Moves.of_snd {m : Nat} {α : Type} {a s : State} {x : α × State} {y : α} (e : x = (y, s)) (h : Moves m a x.2) :
    Moves m a s := by
  subst e; exact h

/-- Every next state of an outcome is reached from `a`. -/
def Ends (m : Nat) (a : State) (o : Out) : Prop := ∀ t, o = .next t → Moves m a t

theorem Ends.next {m : Nat} {a t : State} (h : Moves m a t) : Ends m a (.next t) := by
  intro u hu
  cases hu
  exact h

theorem Ends.ite {m : Nat} {a : State} {o p : Out} {c : Prop} [Decidable c] (h : c → Ends m a o) (k : ¬ c → Ends m a p) :
    Ends m a (if c then o else p) := by
  split <;> simp_all

theorem live_moves {m : Nat} {a s : State} {f : State → State} (h : Moves m a s) (hf : ∀ t, Moves m a t → Moves m a (f t)) :
    Ends m a (live s f) := Ends.next (Moves.ite (fun _ => h) (fun _ => hf s h))

/-- A state that agrees with `s` in the queue, the stores and the OTP's fuses. -/
theorem Moves.renew {m : Nat} {a s t : State} (hm : Sub 0xffffffff m) (h : Moves m a s) (h1 : t.pending = s.pending)
    (h2 : t.regs = s.regs) (h3 : t.rate = s.rate) (h4 : t.mem = s.mem) (h5 : t.sett = s.sett)
    (h6 : t.pwr.fuses = s.pwr.fuses) (h7 : t.pwr.epochs = s.pwr.epochs) : Moves m a t := by
  cases s
  cases t
  simp only at h1 h2 h3 h4 h5 h6 h7
  subst h1 h2 h3 h4 h5
  exact h.pwr hm.up h6 h7 |>.ts hm.up |>.free hm.up |>.log hm.up |>.inflight hm.up |>.ports hm.up |>.cvb hm.up |>.pos hm.up
    |>.gen hm.up |>.chans hm.up |>.sps hm.up |>.links hm.up |>.bdg hm.up |>.chuck hm.up |>.landing hm.up |>.owl hm.up |>.tls hm.up
    |>.fpl hm.up |>.net hm.up |>.setts hm.up |>.mtr hm.up |>.cvus hm.up |>.dev hm.up

theorem State.modPwr_moves {m : Nat} {a s : State} {f : PwrSt → PwrSt} (hm : Sub 0x40000000 m) (h : Moves m a s)
    (hf : ∀ p, (f p).fuses = p.fuses) (he : ∀ p, (f p).epochs = p.epochs) : Moves m a (s.modPwr f) :=
  h.pwr hm (hf _) (he _)

end Sys2Proof.Machine
end

