-- ==== Sys2Proof/Laws/MovesPeriod.lean ====
section
/-! SUPPORT. The functions that are chains of primitive updates (Laws/Moves.lean): the register operations, the leg generators, converters, position interfaces, channels and spindles. -/

set_option Elab.async false

namespace Sys2Proof.Machine

/-! ### Ops -/

theorem State.putS_moves {m} {a s : State} {x1 x2 x3 x4} (hm : Sub 0x0 m) (cx1 : Can m x1) (h : Moves m a s) : Moves m a (State.putS s x1 x2 x3 x4) := by
  unfold State.putS
  refine State.put_moves (by assumption) ?_
  assumption

theorem State.putB_moves {m} {a s : State} {x1 x2 x3 x4} (hm : Sub 0x0 m) (cx1 : Can m x1) (h : Moves m a s) : Moves m a (State.putB s x1 x2 x3 x4) := by
  unfold State.putB
  refine State.put_moves (by assumption) ?_
  assumption

theorem State.clr_moves {m} {a s : State} {x1 x2 x3} (hm : Sub 0x0 m) (cx1 : Can m x1) (h : Moves m a s) : Moves m a (State.clr s x1 x2 x3) := by
  unfold State.clr
  refine State.put_moves (by assumption) ?_
  assumption

theorem State.incSat_moves {m} {a s : State} {x1 x2 x3} (hm : Sub 0x0 m) (cx1 : Can m x1) (h : Moves m a s) : Moves m a (State.incSat s x1 x2 x3) := by
  unfold State.incSat
  refine State.put_moves (by assumption) ?_
  assumption

theorem State.incWrap_moves {m} {a s : State} {x1 x2 x3} (hm : Sub 0x0 m) (cx1 : Can m x1) (h : Moves m a s) : Moves m a (State.incWrap s x1 x2 x3) := by
  unfold State.incWrap
  refine State.put_moves (by assumption) ?_
  assumption

theorem State.putBit_moves {m} {a s : State} {x1 x2 x3 x4 x5} (hm : Sub 0x0 m) (cx1 : Can m x1) (h : Moves m a s) : Moves m a (State.putBit s x1 x2 x3 x4 x5) := by
  unfold State.putBit
  extract_lets +onlyGivenNames v1
  clear_value v1
  refine State.put_moves (by assumption) ?_
  assumption

theorem State.put64_moves {m} {a s : State} {x1 x2 x3 x4 x5} (hm : Sub 0x0 m) (cx1 : Can m x1) (cx2 : Can m x2) (h : Moves m a s) : Moves m a (State.put64 s x1 x2 x3 x4 x5) := by
  unfold State.put64
  refine State.put_moves (by assumption) ?_
  refine State.put_moves (by assumption) ?_
  assumption

theorem State.irq_moves {m} {a s : State} {x1} (hm : Sub 0x20000000000000000000000000000000000000000000000000000000000000000000000000000000000000000000000000000000000000000000000000000000000000000000000000000000000000000000000000000000000000000000000000000000000000000000000 m) (h : Moves m a s) : Moves m a (State.irq s x1) := by
  unfold State.irq
  refine State.putBit_moves hm.up (Can.of hm) ?_
  assumption

theorem State.logRaw_moves {m} {a s : State} {x1 x2} (hm : Sub 0x20000000000000000000000000000000000000000000000000000000000100000000000000000000000000000000000000000000000000000000000000000000000000000000000000000000000000000000000000000000000000000000000000000000000000000000400 m) (h : Moves m a s) : Moves m a (State.logRaw s x1 x2) := by
  unfold State.logRaw
  extract_lets +onlyGivenNames s1
  have h2 : Moves m a s1 := by
    unfold s1
    split
    · refine State.irq_moves hm.up ?_
      assumption
    · assumption
  refine Moves.ite (fun _ => ?_) (fun _ => ?_)
  · refine Moves.log (s := s1) hm.up ?_
    assumption
  · refine State.incSat_moves hm.up (Can.of hm) ?_
    assumption

theorem State.owlRec_moves {m} {a s : State} {x1 x2 x3} (hm : Sub 0x20000000000000000020000000000000000000000000000000000000000100000000000000000000000000000000000000000000000000000000000000000000000000000000000000000000000000000000000000000000000000000000000000000000000000000400408 m) (h : Moves m a s) : Moves m a (State.owlRec s x1 x2 x3) := by
  unfold State.owlRec
  refine Moves.ite (fun _ => ?_) (fun _ => ?_)
  · assumption
  · refine Moves.ite (fun _ => ?_) (fun _ => ?_)
    · refine Moves.owl (s := s) hm.up ?_
      assumption
    · extract_lets +onlyGivenNames s1
      clear_value s1
      extract_lets +onlyGivenNames s2
      have h3 : Moves m a s2 := by
        unfold s2
        refine Moves.owl (s := s) hm.up ?_
        assumption
      clear_value s2
      extract_lets +onlyGivenNames s4
      have h5 : Moves m a s4 := by
        unfold s4
        refine State.put_moves (Can.of hm) ?_
        assumption
      clear_value s4
      extract_lets +onlyGivenNames v6
      clear_value v6
      refine Moves.ite (fun _ => ?_) (fun _ => ?_)
      · extract_lets +onlyGivenNames s7
        have h8 : Moves m a s7 := by
          unfold s7
          refine State.logRaw_moves hm.up ?_
          assumption
        clear_value s7
        refine Moves.rate (s := s7) hm.up ?_
        assumption
      · assumption

theorem State.owlTrig_moves {m} {a s : State} {x1} (hm : Sub 0x200000000000000000e0800000000000000000000000000000000000000100000000000000000000000000000000000000000000000000000000000000000000000000000000000000000000000000000000000000000000000000000000000000000000000000000400408 m) (h : Moves m a s) : Moves m a (State.owlTrig s x1) := by
  unfold State.owlTrig
  refine Moves.ite (fun _ => ?_) (fun _ => ?_)
  · assumption
  · extract_lets +onlyGivenNames s1
    have h2 : Moves m a s1 := by
      unfold s1
      refine State.owlRec_moves hm.up ?_
      assumption
    clear_value s1
    extract_lets +onlyGivenNames s3
    have h4 : Moves m a s3 := by
      unfold s3
      refine State.put64_moves hm.up (Can.of hm) (Can.of hm) ?_
      refine State.put_moves (Can.of hm) ?_
      assumption
    clear_value s3
    refine State.logRaw_moves hm.up ?_
    assumption

theorem State.logEv_moves {m} {a s : State} {x1 x2} (hm : Sub 0x200000000000000000e0800000000000000000000000000000000000000100000000000000000000000000000000000000000000000000000000000000000000000000000000000000000000000000000000000000000000000000000000000000000000000000000400408 m) (h : Moves m a s) : Moves m a (State.logEv s x1 x2) := by
  unfold State.logEv
  extract_lets +onlyGivenNames s1
  have h2 : Moves m a s1 := by
    unfold s1
    refine State.logRaw_moves hm.up ?_
    assumption
  clear_value s1
  refine Moves.ite (fun _ => ?_) (fun _ => ?_)
  · refine State.owlTrig_moves hm.up ?_
    assumption
  · assumption

theorem State.logRate_moves {m} {a s : State} {x1 x2 x3 x4} (hm : Sub 0x200000000000000000e0800000000000000000000000000000000000000100000000000000000000000000000000000000000000000000000000000000000000000000000000000000000000000000000000000000000000000000000000000000000000000000000400408 m) (h : Moves m a s) : Moves m a (State.logRate s x1 x2 x3 x4) := by
  unfold State.logRate
  extract_lets +onlyGivenNames v1
  clear_value v1
  extract_lets +onlyGivenNames v2
  clear_value v2
  refine Moves.ite (fun _ => ?_) (fun _ => ?_)
  · extract_lets +onlyGivenNames s3
    have h4 : Moves m a s3 := by
      unfold s3
      refine State.logEv_moves hm.up ?_
      assumption
    clear_value s3
    refine Moves.rate (s := s3) hm.up ?_
    assumption
  · assumption

theorem State.logLatch_moves {m} {a s : State} {x1 x2 x3} (hm : Sub 0x200000000000000000e0800000000000000000000000000000000000000100000000000000000000000000000000000000000000000000000000000000000000000000000000000000000000000000000000000000000000000000000000000000000000000000000400408 m) (h : Moves m a s) : Moves m a (State.logLatch s x1 x2 x3) := by
  unfold State.logLatch
  extract_lets +onlyGivenNames v1
  clear_value v1
  refine Moves.ite (fun _ => ?_) (fun _ => ?_)
  · extract_lets +onlyGivenNames s2
    have h3 : Moves m a s2 := by
      unfold s2
      refine State.logEv_moves hm.up ?_
      assumption
    clear_value s2
    refine Moves.rate (s := s2) hm.up ?_
    assumption
  · assumption

theorem State.logAgain_moves {m} {a s : State} {x1 x2} (hm : Sub 0x8 m) (h : Moves m a s) : Moves m a (State.logAgain s x1 x2) := by
  unfold State.logAgain
  refine Moves.rate (s := s) hm.up ?_
  assumption

theorem State.raise_moves {m} {a s : State} {x1 x2} (hm : Sub 0x800 m) (h : Moves m a s) : Moves m a (State.raise s x1 x2) := by
  unfold State.raise
  refine Moves.inflight (s := s) hm.up ?_
  assumption

theorem State.freeNext_moves {m} {a s : State} (hm : Sub 0x4 m) (h : Moves m a s) : Moves m a (State.freeNext s) := by
  unfold State.freeNext
  refine Moves.free (s := s) hm.up ?_
  assumption

theorem ueClear_moves {m} {a s : State} {x1 x2} (hm : Sub 0x300 m) (h : Moves m a s) : Moves m a (ueClear s x1 x2) := by
  unfold ueClear
  refine Moves.mem (s := s) ?_ ?_
  · exact .back hm.up (.ue hm.up .refl)
  · assumption

/-! ### Legs -/

theorem State.modCarr_moves {m} {a s : State} {x1 x2} (hm : Sub 0x8000 m) (h : Moves m a s) : Moves m a (State.modCarr s x1 x2) := by
  unfold State.modCarr
  refine Moves.gen (s := s) hm.up ?_
  assumption

theorem State.modLeg_moves {m} {a s : State} {x1 x2} (hm : Sub 0x8000 m) (h : Moves m a s) : Moves m a (State.modLeg s x1 x2) := by
  unfold State.modLeg
  refine Moves.gen (s := s) hm.up ?_
  assumption

theorem State.modFlt_moves {m} {a s : State} {x1 x2} (hm : Sub 0x8000 m) (h : Moves m a s) : Moves m a (State.modFlt s x1 x2) := by
  unfold State.modFlt
  refine Moves.gen (s := s) hm.up ?_
  assumption

theorem cput_moves {m} {a s : State} {x1 x2 x3 x4} (hm : Sub 0x0 m) (cx2 : Can m x2) (cx3 : Can m x3) (h : Moves m a s) : Moves m a (cput s x1 x2 x3 x4) := by
  unfold cput
  split
  · refine State.put_moves (by assumption) ?_
    assumption
  · refine State.put_moves (by assumption) ?_
    assumption

theorem cinc_moves {m} {a s : State} {x1 x2 x3} (hm : Sub 0x0 m) (cx2 : Can m x2) (cx3 : Can m x3) (h : Moves m a s) : Moves m a (cinc s x1 x2 x3) := by
  unfold cinc
  split
  · refine State.incSat_moves hm.up (by assumption) ?_
    assumption
  · refine State.incSat_moves hm.up (by assumption) ?_
    assumption

theorem State.modChan_moves {m} {a s : State} {x1 x2} (hm : Sub 0x10000 m) (h : Moves m a s) : Moves m a (State.modChan s x1 x2) := by
  unfold State.modChan
  refine Moves.chans (s := s) hm.up ?_
  assumption

theorem State.modLink_moves {m} {a s : State} {x1 x2} (hm : Sub 0x40000 m) (h : Moves m a s) : Moves m a (State.modLink s x1 x2) := by
  unfold State.modLink
  refine Moves.links (s := s) hm.up ?_
  assumption

theorem chopWatch_moves {m} {a s : State} {x1} (hm : Sub 0x200000000000000000e0800000000000000000000000000000000000000100000000000000000002000000000000000000000000000000000000000000000000000000000000000000000000000000000000000000000000000000000000000000000000000000000440408 m) (h : Moves m a s) : Moves m a (chopWatch s x1) := by
  unfold chopWatch
  refine State.forL_moves ?_ ?_
  · assumption
  · intro v1 s2 h3
    refine State.onIf_moves ?_ ?_
    · assumption
    · intro s4 h5
      refine State.modLink_moves hm.up ?_
      refine State.logEv_moves hm.up ?_
      refine State.put_moves (Can.of hm) ?_
      assumption

theorem State.syncLvl_moves {m} {a s : State} (hm : Sub 0xc0000000000000000000000000000000000000000000000000000000000000000000000000000000000000 m) (h : Moves m a s) : Moves m a (State.syncLvl s) := by
  unfold State.syncLvl
  extract_lets +onlyGivenNames v1
  clear_value v1
  refine State.put_moves (Can.of hm) ?_
  refine State.put_moves (Can.of hm) ?_
  assumption

theorem State.blankStart_moves {m} {a s : State} {x1} (hm : Sub 0xc0000000000000000000000000000000000000000000000000000000000000000000000000000000008000 m) (h : Moves m a s) : Moves m a (State.blankStart s x1) := by
  unfold State.blankStart
  refine State.syncLvl_moves hm.up ?_
  refine State.forL_moves ?_ ?_
  · assumption
  · intro v1 s2 h3
    refine State.onIf_moves ?_ ?_
    · assumption
    · intro s4 h5
      refine State.modFlt_moves hm.up ?_
      assumption

theorem State.legApply_moves {m} {a s : State} {x1 x2 x3} (hm : Sub 0x200000000000000000e08000000000000000000000000000000000000001000000000000000000020000000000000000000000000000000000000000000000000c000000000000f000000000000000000000000000000000000000000000000000000000000000000448408 m) (h : Moves m a s) : Moves m a (State.legApply s x1 x2 x3) := by
  unfold State.legApply
  extract_lets +onlyGivenNames v1
  clear_value v1
  extract_lets +onlyGivenNames v2
  clear_value v2
  extract_lets +onlyGivenNames v3
  clear_value v3
  extract_lets +onlyGivenNames v4
  clear_value v4
  extract_lets +onlyGivenNames v5
  clear_value v5
  extract_lets +onlyGivenNames v6
  clear_value v6
  extract_lets +onlyGivenNames v7
  clear_value v7
  extract_lets +onlyGivenNames v8
  clear_value v8
  refine Moves.ite (fun _ => ?_) (fun _ => ?_)
  · assumption
  · extract_lets +onlyGivenNames v9
    clear_value v9
    extract_lets +onlyGivenNames v10
    clear_value v10
    extract_lets +onlyGivenNames v11
    clear_value v11
    extract_lets +onlyGivenNames v12
    clear_value v12
    extract_lets +onlyGivenNames v13
    clear_value v13
    extract_lets +onlyGivenNames s14
    have h15 : Moves m a s14 := by
      unfold s14
      refine State.modLeg_moves hm.up ?_
      assumption
    clear_value s14
    extract_lets +onlyGivenNames s16
    have h17 : Moves m a s16 := by
      unfold s16
      refine State.putB_moves hm.up (Can.of hm) ?_
      refine State.putB_moves hm.up (Can.of hm) ?_
      assumption
    clear_value s16
    extract_lets +onlyGivenNames s18
    have h19 : Moves m a s18 := by
      unfold s18
      refine State.putB_moves hm.up (Can.of hm) ?_
      refine State.put_moves (Can.of hm) ?_
      assumption
    clear_value s18
    extract_lets +onlyGivenNames s20
    have h21 : Moves m a s20 := by
      unfold s20
      refine State.onIf_moves ?_ ?_
      · assumption
      · intro s22 h23
        refine chopWatch_moves hm.up ?_
        assumption
    clear_value s20
    refine State.onIf_moves ?_ ?_
    · assumption
    · intro s24 h25
      refine State.blankStart_moves hm.up ?_
      assumption

theorem State.legsApply_moves {m} {a s : State} (hm : Sub 0x200000000000000000e08000000000000000000000000000000000000001000000000000000000020000000000000000000000000000000000000000000000000c000000000000f000000000000000000000000000000000000000000000000000000000000000000448408 m) (h : Moves m a s) : Moves m a (State.legsApply s) := by
  unfold State.legsApply
  refine State.forL_moves ?_ ?_
  · assumption
  · intro v1 s2 h3
    refine State.legApply_moves hm.up ?_
    assumption

/-! ### Select -/

theorem selShow_moves {m} {a s : State} {x1} (hm : Sub 0x1000000000000000000000000000000000000000000000000000000000000000000000000000000000000000000000000000000000000000000000000000 m) (h : Moves m a s) : Moves m a (selShow s x1) := by
  unfold selShow
  refine State.put_moves (Can.of hm) ?_
  assumption

theorem selShowAll_moves {m} {a s : State} (hm : Sub 0x1000000000000000000000000000000000000000000000000000000000000000000000000000000000000000000000000000000000000000000000000000 m) (h : Moves m a s) : Moves m a (selShowAll s) := by
  unfold selShowAll
  refine State.forL_moves ?_ ?_
  · assumption
  · intro v1 s2 h3
    refine selShow_moves hm.up ?_
    assumption

/-! ### FaultIn -/

theorem State.cutLegs_moves {m} {a s : State} {x1} (hm : Sub 0x200000000000000000e08000000000000000000000000000000000000001000000000000000000020000000000000000000000000000000000000000000000000c000000000000f000000000000000000000000000000000000000000000000000000000000000000448408 m) (h : Moves m a s) : Moves m a (State.cutLegs s x1) := by
  unfold State.cutLegs
  refine State.forL_moves ?_ ?_
  · assumption
  · intro v1 s2 h3
    refine State.legApply_moves hm.up ?_
    refine State.modLeg_moves hm.up ?_
    assumption

theorem State.putLatch_moves {m} {a s : State} {x1 x2} (hm : Sub 0x30000000000000000000000000000000000000000000000000000000000000000000000000000000000000 m) (h : Moves m a s) : Moves m a (State.putLatch s x1 x2) := by
  unfold State.putLatch
  refine Moves.ite (fun _ => ?_) (fun _ => ?_)
  · refine State.putBit_moves hm.up (Can.of hm) ?_
    assumption
  · refine State.putBit_moves hm.up (Can.of hm) ?_
    assumption

theorem State.latchSet_moves {m} {a s : State} {x1} (hm : Sub 0x200000000000000000e08000000000000000000000000000000000000001000000000000000000020000000008010000000000000000000000000000000000000f000000000000f000000000000000000000000000000000000000000000000000000000000000000448c08 m) (h : Moves m a s) : Moves m a (State.latchSet s x1) := by
  unfold State.latchSet
  refine Moves.ite (fun _ => ?_) (fun _ => ?_)
  · assumption
  · extract_lets +onlyGivenNames s1
    have h2 : Moves m a s1 := by
      unfold s1
      refine State.putLatch_moves hm.up ?_
      assumption
    clear_value s1
    extract_lets +onlyGivenNames s3
    clear_value s3
    extract_lets +onlyGivenNames s4
    have h5 : Moves m a s4 := by
      unfold s4
      refine Moves.gen (s := s1) hm.up ?_
      assumption
    clear_value s4
    extract_lets +onlyGivenNames s6
    have h7 : Moves m a s6 := by
      unfold s6
      refine selShowAll_moves hm.up ?_
      refine State.forL_moves ?_ ?_
      · assumption
      · intro v8 s9 h10
        refine State.legApply_moves hm.up ?_
        assumption
    clear_value s6
    extract_lets +onlyGivenNames s11
    have h12 : Moves m a s11 := by
      unfold s11
      refine State.owlTrig_moves hm.up ?_
      refine State.irq_moves hm.up ?_
      refine State.logEv_moves hm.up ?_
      assumption
    clear_value s11
    extract_lets +onlyGivenNames s13
    have h14 : Moves m a s13 := by
      unfold s13
      refine State.forL_moves ?_ ?_
      · assumption
      · intro v15 s16 h17
        refine State.raise_moves hm.up ?_
        assumption
    clear_value s13
    refine State.forN_moves ?_ ?_
    · assumption
    · intro v18 s19 h20
      refine State.onIf_moves ?_ ?_
      · assumption
      · intro s21 h22
        refine State.raise_moves hm.up ?_
        refine State.put_moves (Can.of hm) ?_
        assumption

theorem State.cutCount_moves {m} {a s : State} {x1} (hm : Sub 0x400000000000000000000000000000000000000000000000000000000000000000000000000000000000000000000000000000000000000000000000010000 m) (h : Moves m a s) : Moves m a (State.cutCount s x1) := by
  unfold State.cutCount
  refine State.forL_moves ?_ ?_
  · assumption
  · intro v1 s2 h3
    refine State.onIf_moves ?_ ?_
    · assumption
    · intro s4 h5
      refine State.put_moves (Can.of hm) ?_
      refine State.modChan_moves hm.up ?_
      assumption

theorem State.endEdge_moves {m} {a s : State} {x1 x2} (hm : Sub 0x8000 m) (h : Moves m a s) : Moves m a (State.endEdge s x1 x2) := by
  unfold State.endEdge
  refine State.forL_moves ?_ ?_
  · assumption
  · intro v1 s2 h3
    refine State.onIf_moves ?_ ?_
    · assumption
    · intro s4 h5
      refine State.modCarr_moves hm.up ?_
      assumption

theorem State.fltEffect_moves {m} {a s : State} {x1} (hm : Sub 0x200000000000000000e0800000000000000000000000000000000000000100000000000000000002000000000c010000000000000000000000000000000000000f000000000000f000000000000000000000000000000000000000000000000000000000000000000458c08 m) (h : Moves m a s) : Moves m a (State.fltEffect s x1) := by
  unfold State.fltEffect
  split
  · refine State.cutCount_moves hm.up ?_
    refine State.cutLegs_moves hm.up ?_
    assumption
  · refine State.latchSet_moves hm.up ?_
    assumption
  · refine Moves.ite (fun _ => ?_) (fun _ => ?_)
    · refine State.endEdge_moves hm.up ?_
      assumption
    · assumption
  · assumption

theorem State.fltReapply_moves {m} {a s : State} {x1} (hm : Sub 0x200000000000000000e08000000000000000000000000000000000000001000000000000000000020000000004000000000000000000000000000000000000000c000000000000f000000000000000000000000000000000000000000000000000000000000000000458408 m) (h : Moves m a s) : Moves m a (State.fltReapply s x1) := by
  unfold State.fltReapply
  refine State.onIf_moves ?_ ?_
  · assumption
  · intro s1 h2
    refine State.cutCount_moves hm.up ?_
    refine State.cutLegs_moves hm.up ?_
    assumption

theorem State.fltActivate_moves {m} {a s : State} {x1} (hm : Sub 0x200000000000000000e0800000000000000000000000000000000000000100000000000000000002000000000c010000000000000000000000000000000000000f000000000000f000000000000000000000000000000000000000000000000000000000000000000458c08 m) (h : Moves m a s) : Moves m a (State.fltActivate s x1) := by
  unfold State.fltActivate
  refine Moves.ite (fun _ => ?_) (fun _ => ?_)
  · assumption
  · refine State.fltEffect_moves hm.up ?_
    refine State.syncLvl_moves hm.up ?_
    refine State.modFlt_moves hm.up ?_
    assumption

theorem State.fltRelease_moves {m} {a s : State} {x1} (hm : Sub 0xc0000000000000000000000000000000000000000000000000000000000000000000000000000000008000 m) (h : Moves m a s) : Moves m a (State.fltRelease s x1) := by
  unfold State.fltRelease
  refine State.syncLvl_moves hm.up ?_
  refine State.modFlt_moves hm.up ?_
  assumption

theorem State.tripRelease_moves {m} {a s : State} (hm : Sub 0xc0000000000000000000000000000000000000000000000000000000000000000000000000000000008000 m) (h : Moves m a s) : Moves m a (State.tripRelease s) := by
  unfold State.tripRelease
  refine State.forL_moves ?_ ?_
  · assumption
  · intro v1 s2 h3
    refine State.onIf_moves ?_ ?_
    · assumption
    · intro s4 h5
      refine State.fltRelease_moves hm.up ?_
      assumption

theorem State.latchClear_moves {m} {a s : State} {x1} (hm : Sub 0x200000000000000000e08000000000000000000000000000000000000001000000000000000000020000000000010000000000000000000000000000000000000f000000000000f000000000000000000000000000000000000000000000000000000000000000000448408 m) (h : Moves m a s) : Moves m a (State.latchClear s x1) := by
  unfold State.latchClear
  refine selShowAll_moves hm.up ?_
  refine State.forL_moves ?_ ?_
  · assumption
  · intro v1 s2 h3
    refine State.onIf_moves ?_ ?_
    · assumption
    · intro s4 h5
      extract_lets +onlyGivenNames v6
      clear_value v6
      extract_lets +onlyGivenNames v7
      clear_value v7
      extract_lets +onlyGivenNames s8
      have h9 : Moves m a s8 := by
        unfold s8
        refine State.putLatch_moves hm.up ?_
        assumption
      clear_value s8
      extract_lets +onlyGivenNames s10
      clear_value s10
      extract_lets +onlyGivenNames s11
      have h12 : Moves m a s11 := by
        unfold s11
        refine Moves.gen (s := s8) hm.up ?_
        assumption
      clear_value s11
      refine State.forL_moves ?_ ?_
      · assumption
      · intro v13 s14 h15
        extract_lets +onlyGivenNames s16
        have h17 : Moves m a s16 := by
          unfold s16
          refine State.onIf_moves ?_ ?_
          · assumption
          · intro s18 h19
            refine State.modLeg_moves hm.up ?_
            assumption
        clear_value s16
        refine State.legApply_moves hm.up ?_
        assumption

theorem execFaultInputActive_moves {m} {a s : State} {x1 x2} (hm : Sub 0x200000000000000000e0800000000000000000000000000000000000000100000000000000000002000000000c010000000000000000000000000000000000000f000000000000f000000000000000000000000000000000000000000000000000000000000000000458c08 m) (h : Moves m a s) : Ends m a (execFaultInputActive x1 x2 s) := by
  unfold execFaultInputActive
  refine live_moves ?_ ?_
  · assumption
  · intro s1 h2
    extract_lets +onlyGivenNames s3
    have h4 : Moves m a s3 := by
      unfold s3
      refine State.modFlt_moves hm.up ?_
      assumption
    clear_value s3
    refine State.onIf_moves ?_ ?_
    · assumption
    · intro s5 h6
      refine State.fltActivate_moves hm.up ?_
      assumption

theorem execFaultInputInactive_moves {m} {a s : State} {x1 x2} (hm : Sub 0xc0000000000000000000000000000000000000000000000000000000000000000000000000000000008000 m) (h : Moves m a s) : Ends m a (execFaultInputInactive x1 x2 s) := by
  unfold execFaultInputInactive
  refine live_moves ?_ ?_
  · assumption
  · intro s1 h2
    extract_lets +onlyGivenNames s3
    have h4 : Moves m a s3 := by
      unfold s3
      refine State.modFlt_moves hm.up ?_
      assumption
    clear_value s3
    refine State.onIf_moves ?_ ?_
    · assumption
    · intro s5 h6
      refine State.fltRelease_moves hm.up ?_
      assumption

theorem execItripActive_moves {m} {a s : State} {x1} (hm : Sub 0x200000000000000000e0800000000000000000000000000000000000000100000000000000000002000000000c010000000000000000000000000000000000000f000000000000f000000000000000000000000000000000000000000000000000000000000000000458c08 m) (h : Moves m a s) : Ends m a (execItripActive x1 s) := by
  unfold execItripActive
  refine live_moves ?_ ?_
  · assumption
  · intro s1 h2
    refine State.onIf_moves ?_ ?_
    · assumption
    · intro s3 h4
      refine State.fltActivate_moves hm.up ?_
      assumption

theorem execBlankEnd_moves {m} {a s : State} {x1} (hm : Sub 0x200000000000000000e0800000000000000000000000000000000000000100000000000000000002000000000c010000000000000000000000000000000000000f000000000000f000000000000000000000000000000000000000000000000000000000000000000458c08 m) (h : Moves m a s) : Ends m a (execBlankEnd x1 s) := by
  unfold execBlankEnd
  refine live_moves ?_ ?_
  · assumption
  · intro s1 h2
    extract_lets +onlyGivenNames v3
    clear_value v3
    extract_lets +onlyGivenNames s4
    have h5 : Moves m a s4 := by
      unfold s4
      refine State.modFlt_moves hm.up ?_
      assumption
    clear_value s4
    refine State.onIf_moves ?_ ?_
    · assumption
    · intro s6 h7
      refine State.fltActivate_moves hm.up ?_
      assumption

theorem execDeadTimeEnd_moves {m} {a s : State} {x1 x2} (hm : Sub 0x200000000000000000e08000000000000000000000000000000000000001000000000000000000020000000000000000000000000000000000000000000000000c000000000000c000000000000000000000000000000000000000000000000000000000000000000448408 m) (h : Moves m a s) : Ends m a (execDeadTimeEnd x1 x2 s) := by
  unfold execDeadTimeEnd
  refine live_moves ?_ ?_
  · assumption
  · intro s1 h2
    extract_lets +onlyGivenNames v3
    clear_value v3
    refine Moves.ite (fun _ => ?_) (fun _ => ?_)
    · refine State.onIf_moves ?_ ?_
      · assumption
      · intro s4 h5
        refine State.onIf_moves ?_ ?_
        · refine chopWatch_moves hm.up ?_
          refine State.putB_moves hm.up (Can.of hm) ?_
          refine State.modLeg_moves hm.up ?_
          assumption
        · intro s6 h7
          refine State.blankStart_moves hm.up ?_
          assumption
    · refine State.onIf_moves ?_ ?_
      · assumption
      · intro s8 h9
        refine State.onIf_moves ?_ ?_
        · refine State.putB_moves hm.up (Can.of hm) ?_
          refine State.modLeg_moves hm.up ?_
          assumption
        · intro s10 h11
          refine State.blankStart_moves hm.up ?_
          assumption

theorem State.gateRelease_moves {m} {a s : State} (hm : Sub 0x200000000000000000e08000000000000000000000000000000000000001000000000000000000020000000000000000000000000000000000000000000000000c000000000000f000000000000000000000000000000000000000000000000000000000000000000448408 m) (h : Moves m a s) : Moves m a (State.gateRelease s) := by
  unfold State.gateRelease
  refine Moves.ite (fun _ => ?_) (fun _ => ?_)
  · assumption
  · refine State.legsApply_moves hm.up ?_
    refine State.forL_moves ?_ ?_
    · assumption
    · intro v1 s2 h3
      refine State.modLeg_moves hm.up ?_
      assumption

theorem State.gateHold_moves {m} {a s : State} {x1} (hm : Sub 0x200000000000000000e08000000000000000000000000000000000000001000000000000000000020000000000000000000000000000000000000000000000000c000000000000f000000000000000000000000000000000000000000000000000000000000000000448408 m) (cx1 : Can m x1) (h : Moves m a s) : Moves m a (State.gateHold s x1) := by
  unfold State.gateHold
  refine State.legsApply_moves hm.up ?_
  refine State.put_moves (by assumption) ?_
  assumption

theorem State.gateEnd_moves {m} {a s : State} {x1} (hm : Sub 0x200000000000000000e08000000000000000000000000000000000000001000000000000000000020000000000000000000000000000000000000000000000000c000000000000f000000000000000000000000000000000000000000000000000000000000000000448408 m) (cx1 : Can m x1) (h : Moves m a s) : Moves m a (State.gateEnd s x1) := by
  unfold State.gateEnd
  refine Moves.ite (fun _ => ?_) (fun _ => ?_)
  · refine State.gateRelease_moves hm.up ?_
    refine State.put_moves (by assumption) ?_
    assumption
  · assumption

/-! ### Carriers -/

theorem profDone_moves {m} {a s : State} (hm : Sub 0x80000000010000 m) (h : Moves m a s) : Moves m a (profDone s) := by
  unfold profDone
  refine Moves.ite (fun _ => ?_) (fun _ => ?_)
  · refine State.put_moves (Can.of hm) ?_
    refine State.forL_moves ?_ ?_
    · assumption
    · intro v1 s2 h3
      refine State.modChan_moves hm.up ?_
      assumption
  · assumption

theorem profTake_moves {m} {a s : State} {x1} (hm : Sub 0x80000000010000 m) (h : Moves m a s) : Moves m a (profTake s x1) := by
  unfold profTake
  refine Moves.ite (fun _ => ?_) (fun _ => ?_)
  · assumption
  · refine profDone_moves hm.up ?_
    refine State.modChan_moves hm.up ?_
    assumption

theorem countJudge_moves {m} {a s : State} {x1 x2 x3} (hm : Sub 0xc00000000000000000000000000000000000000000000000000000000000000000000000 m) (h : Moves m a s) : Moves m a (countJudge s x1 x2 x3) := by
  unfold countJudge
  split
  · refine State.incSat_moves hm.up (Can.of hm) ?_
    assumption
  · refine State.onIf_moves ?_ ?_
    · assumption
    · intro s3 h4
      refine State.incSat_moves hm.up (Can.of hm) ?_
      assumption
  · assumption

theorem judgePulse_moves {m} {a s : State} {x1 x2 x3 x4 x5} (hm : Sub 0xc00000000000000000000000000000000000000000000000000000000000000000000000 m) (h : Moves m a s) : Moves m a (judgePulse s x1 x2 x3 x4 x5).2 := by
  unfold judgePulse
  split
  · dsimp -zeta only
    assumption
  · split
    · dsimp -zeta only
      assumption
    · extract_lets +onlyGivenNames v5
      clear_value v5
      extract_lets +onlyGivenNames v6
      clear_value v6
      extract_lets +onlyGivenNames v7
      clear_value v7
      dsimp -zeta only
      refine countJudge_moves hm.up ?_
      assumption

theorem planUp_moves {m} {a s : State} {x1 x2 x3} (hm : Sub 0xc00000000000000000000000000000000000000000000000000000000000000000008000 m) (h : Moves m a s) : Moves m a (planUp s x1 x2 x3) := by
  unfold planUp
  extract_lets +onlyGivenNames v1
  clear_value v1
  extract_lets +onlyGivenNames v2
  clear_value v2
  extract_lets +onlyGivenNames v3
  clear_value v3
  extract_lets +onlyGivenNames v4
  clear_value v4
  extract_lets +onlyGivenNames v5
  clear_value v5
  extract_lets +onlyGivenNames v6
  clear_value v6
  extract_lets +onlyGivenNames v7
  have h8 : Moves m a v7.2 := by
    unfold v7
    split
    · refine judgePulse_moves hm.up ?_
      assumption
    · dsimp -zeta only
      assumption
  clear_value v7
  extract_lets +onlyGivenNames s11
  have h12 : Moves m a s11 := by
    unfold s11
    assumption
  clear_value s11
  extract_lets +onlyGivenNames v13
  clear_value v13
  refine Moves.ite (fun _ => ?_) (fun _ => ?_)
  · refine State.modLeg_moves hm.up ?_
    assumption
  · extract_lets +onlyGivenNames v14
    clear_value v14
    extract_lets +onlyGivenNames v15
    clear_value v15
    extract_lets +onlyGivenNames v16
    clear_value v16
    extract_lets +onlyGivenNames v17
    have h18 : Moves m a v17.2 := by
      unfold v17
      split
      · dsimp -zeta only
        assumption
      · refine judgePulse_moves hm.up ?_
        assumption
    clear_value v17
    extract_lets +onlyGivenNames s21
    have h22 : Moves m a s21 := by
      unfold s21
      assumption
    clear_value s21
    extract_lets +onlyGivenNames v23
    clear_value v23
    refine State.modLeg_moves hm.up ?_
    assumption

theorem planDown_moves {m} {a s : State} {x1 x2 x3} (hm : Sub 0xc00000000000000000000000000000000000000000000000000000000000000000008000 m) (h : Moves m a s) : Moves m a (planDown s x1 x2 x3) := by
  unfold planDown
  extract_lets +onlyGivenNames v1
  clear_value v1
  extract_lets +onlyGivenNames v2
  clear_value v2
  extract_lets +onlyGivenNames v3
  clear_value v3
  extract_lets +onlyGivenNames v4
  clear_value v4
  extract_lets +onlyGivenNames v5
  clear_value v5
  extract_lets +onlyGivenNames v6
  clear_value v6
  extract_lets +onlyGivenNames v7
  clear_value v7
  extract_lets +onlyGivenNames v8
  have h9 : Moves m a v8.2 := by
    unfold v8
    split
    · refine judgePulse_moves hm.up ?_
      assumption
    · dsimp -zeta only
      assumption
  clear_value v8
  extract_lets +onlyGivenNames s12
  have h13 : Moves m a s12 := by
    unfold s12
    assumption
  clear_value s12
  refine Moves.ite (fun _ => ?_) (fun _ => ?_)
  · refine State.modLeg_moves hm.up ?_
    assumption
  · extract_lets +onlyGivenNames v14
    clear_value v14
    extract_lets +onlyGivenNames v15
    clear_value v15
    extract_lets +onlyGivenNames v16
    clear_value v16
    extract_lets +onlyGivenNames v17
    clear_value v17
    extract_lets +onlyGivenNames v18
    have h19 : Moves m a v18.2 := by
      unfold v18
      split
      · dsimp -zeta only
        assumption
      · refine judgePulse_moves hm.up ?_
        assumption
    clear_value v18
    extract_lets +onlyGivenNames s22
    have h23 : Moves m a s22 := by
      unfold s22
      assumption
    clear_value s22
    extract_lets +onlyGivenNames v24
    clear_value v24
    extract_lets +onlyGivenNames v25
    clear_value v25
    refine State.modLeg_moves hm.up ?_
    assumption

theorem planEdge_moves {m} {a s : State} {x1 x2} (hm : Sub 0xc00000000000000000000000000000000000000000000000000000000000000000008000 m) (h : Moves m a s) : Moves m a (planEdge s x1 x2) := by
  unfold planEdge
  extract_lets +onlyGivenNames v1
  clear_value v1
  extract_lets +onlyGivenNames v2
  clear_value v2
  extract_lets +onlyGivenNames v3
  clear_value v3
  extract_lets +onlyGivenNames v4
  clear_value v4
  extract_lets +onlyGivenNames v5
  clear_value v5
  extract_lets +onlyGivenNames v6
  clear_value v6
  extract_lets +onlyGivenNames v7
  clear_value v7
  extract_lets +onlyGivenNames v8
  have h9 : Moves m a v8.2 := by
    unfold v8
    split
    · dsimp -zeta only
      assumption
    · refine judgePulse_moves hm.up ?_
      assumption
  clear_value v8
  extract_lets +onlyGivenNames s12
  have h13 : Moves m a s12 := by
    unfold s12
    assumption
  clear_value s12
  extract_lets +onlyGivenNames v14
  clear_value v14
  extract_lets +onlyGivenNames v15
  have h16 : Moves m a v15.2 := by
    unfold v15
    split
    · dsimp -zeta only
      assumption
    · refine judgePulse_moves hm.up ?_
      assumption
  clear_value v15
  extract_lets +onlyGivenNames s19
  have h20 : Moves m a s19 := by
    unfold s19
    assumption
  clear_value s19
  extract_lets +onlyGivenNames v21
  clear_value v21
  refine State.modLeg_moves hm.up ?_
  assumption

theorem planHalf_moves {m} {a s : State} {x1} (hm : Sub 0xc00000000000000000000000000000000000000000000000000000000000000000008000 m) (h : Moves m a s) : Moves m a (planHalf s x1) := by
  unfold planHalf
  extract_lets +onlyGivenNames v1
  clear_value v1
  refine State.forL_moves ?_ ?_
  · assumption
  · intro v2 s3 h4
    refine Moves.ite (fun _ => ?_) (fun _ => ?_)
    · refine Moves.ite (fun _ => ?_) (fun _ => ?_)
      · refine planDown_moves hm.up ?_
        assumption
      · refine planUp_moves hm.up ?_
        assumption
    · refine planEdge_moves hm.up ?_
      assumption

theorem takeCommit_moves {m} {a s : State} {x1 x2} (hm : Sub 0x200000000000000000e08000000000000000000000000000000000000001000000000000000000000000000000000000000000000000000000000000000000000000000000018d000018d000000000000000000000000000000000000000000000000000000000000408408 m) (h : Moves m a s) : Moves m a (takeCommit s x1 x2) := by
  unfold takeCommit
  extract_lets +onlyGivenNames v1
  clear_value v1
  extract_lets +onlyGivenNames v2
  clear_value v2
  extract_lets +onlyGivenNames v3
  clear_value v3
  extract_lets +onlyGivenNames v4
  clear_value v4
  extract_lets +onlyGivenNames v5
  clear_value v5
  extract_lets +onlyGivenNames v6
  clear_value v6
  extract_lets +onlyGivenNames v7
  clear_value v7
  extract_lets +onlyGivenNames v8
  clear_value v8
  extract_lets +onlyGivenNames v9
  clear_value v9
  extract_lets +onlyGivenNames v10
  clear_value v10
  extract_lets +onlyGivenNames s11
  have h12 : Moves m a s11 := by
    unfold s11
    refine State.modCarr_moves hm.up ?_
    assumption
  clear_value s11
  extract_lets +onlyGivenNames s13
  have h14 : Moves m a s13 := by
    unfold s13
    split
    · refine State.logEv_moves hm.up ?_
      refine cput_moves hm.up (Can.of hm) (Can.of hm) ?_
      refine cinc_moves hm.up (Can.of hm) (Can.of hm) ?_
      assumption
    · assumption
  clear_value s13
  extract_lets +onlyGivenNames s20
  have h21 : Moves m a s20 := by
    unfold s20
    refine State.forL_moves ?_ ?_
    · assumption
    · intro v22 s23 h24
      extract_lets +onlyGivenNames v25
      clear_value v25
      extract_lets +onlyGivenNames v26
      clear_value v26
      extract_lets +onlyGivenNames s27
      have h28 : Moves m a s27 := by
        unfold s27
        refine State.modLeg_moves hm.up ?_
        assumption
      clear_value s27
      refine State.onIf_moves ?_ ?_
      · assumption
      · intro s29 h30
        refine State.logRate_moves hm.up ?_
        refine cput_moves hm.up (Can.of hm) (Can.of hm) ?_
        refine cinc_moves hm.up (Can.of hm) (Can.of hm) ?_
        assumption
  clear_value s20
  refine cput_moves hm.up (Can.of hm) (Can.of hm) ?_
  assumption

theorem syncMark_moves {m} {a s : State} {x1 x2} (hm : Sub 0x8000 m) (h : Moves m a s) : Moves m a (syncMark s x1 x2) := by
  unfold syncMark
  refine State.forL_moves ?_ ?_
  · assumption
  · intro v1 s2 h3
    extract_lets +onlyGivenNames v4
    clear_value v4
    refine State.onIf_moves ?_ ?_
    · assumption
    · intro s5 h6
      refine State.modCarr_moves hm.up ?_
      assumption

theorem beginHalf_moves {m} {a s : State} {x1 x2 x3} (hm : Sub 0x40000200004020000000000000000000000000000000000000000000000000000000000000008000 m) (h : Moves m a s) : Moves m a (beginHalf s x1 x2 x3) := by
  unfold beginHalf
  extract_lets +onlyGivenNames v1
  clear_value v1
  extract_lets +onlyGivenNames s2
  have h3 : Moves m a s2 := by
    unfold s2
    refine State.onIf_moves ?_ ?_
    · assumption
    · intro s4 h5
      refine cput_moves hm.up (Can.of hm) (Can.of hm) ?_
      assumption
  clear_value s2
  extract_lets +onlyGivenNames s6
  have h7 : Moves m a s6 := by
    unfold s6
    refine State.modCarr_moves hm.up ?_
    assumption
  clear_value s6
  extract_lets +onlyGivenNames s8
  have h9 : Moves m a s8 := by
    unfold s8
    split
    · refine State.onIf_moves ?_ ?_
      · assumption
      · intro s12 h13
        refine syncMark_moves hm.up ?_
        assumption
    · assumption
  clear_value s8
  refine cput_moves hm.up (Can.of hm) (Can.of hm) ?_
  assumption

theorem carrApply_moves {m} {a s : State} {x1 x2} (hm : Sub 0x200000000000000000e08000000000000000000000000000000000000001000000000000000000020000000000000000000000000000000000000000000000000c000000000000f000000000000000000000000000000000000000000000000000000000000000000448408 m) (h : Moves m a s) : Moves m a (carrApply s x1 x2) := by
  unfold carrApply
  refine State.forL_moves ?_ ?_
  · assumption
  · intro v1 s2 h3
    refine State.legApply_moves hm.up ?_
    assumption

theorem guardSort_moves {m} {a s : State} {x1} (hm : Sub 0x8000 m) (h : Moves m a s) : Moves m a (guardSort s x1) := by
  unfold guardSort
  extract_lets +onlyGivenNames v1
  clear_value v1
  refine Moves.ite (fun _ => ?_) (fun _ => ?_)
  · assumption
  · extract_lets +onlyGivenNames v2
    clear_value v2
    extract_lets +onlyGivenNames v3
    clear_value v3
    refine State.modCarr_moves hm.up ?_
    assumption

theorem carrierReload_moves {m} {a s : State} {x1} (hm : Sub 0x200000000000000000e08000000000000000000000000000000000000001000000000000000000020000000000000000000000000000000000000000000000000c0000040001edfc041ed000000000000000000000000000000000000000000000000000000000000448408 m) (h : Moves m a s) : Moves m a (carrierReload s x1) := by
  unfold carrierReload
  extract_lets +onlyGivenNames s1
  have h2 : Moves m a s1 := by
    unfold s1
    refine guardSort_moves hm.up ?_
    assumption
  clear_value s1
  extract_lets +onlyGivenNames v3
  clear_value v3
  extract_lets +onlyGivenNames v4
  clear_value v4
  extract_lets +onlyGivenNames s5
  have h6 : Moves m a s5 := by
    unfold s5
    refine State.modCarr_moves hm.up ?_
    assumption
  clear_value s5
  extract_lets +onlyGivenNames s7
  have h8 : Moves m a s7 := by
    unfold s7
    refine beginHalf_moves hm.up ?_
    assumption
  clear_value s7
  extract_lets +onlyGivenNames s9
  have h10 : Moves m a s9 := by
    unfold s9
    refine State.modCarr_moves hm.up ?_
    assumption
  clear_value s9
  extract_lets +onlyGivenNames s11
  have h12 : Moves m a s11 := by
    unfold s11
    refine takeCommit_moves hm.up ?_
    assumption
  clear_value s11
  extract_lets +onlyGivenNames s13
  have h14 : Moves m a s13 := by
    unfold s13
    refine State.modCarr_moves hm.up ?_
    assumption
  clear_value s13
  extract_lets +onlyGivenNames s15
  have h16 : Moves m a s15 := by
    unfold s15
    refine State.modCarr_moves hm.up ?_
    assumption
  clear_value s15
  extract_lets +onlyGivenNames s17
  have h18 : Moves m a s17 := by
    unfold s17
    refine cput_moves hm.up (Can.of hm) (Can.of hm) ?_
    assumption
  clear_value s17
  extract_lets +onlyGivenNames s19
  have h20 : Moves m a s19 := by
    unfold s19
    refine State.forL_moves ?_ ?_
    · assumption
    · intro v21 s22 h23
      refine State.modLeg_moves hm.up ?_
      assumption
  clear_value s19
  refine carrApply_moves hm.up ?_
  refine planHalf_moves hm.up ?_
  assumption

theorem offerCommit_moves {m} {a s : State} {x1 x2 x3} (hm : Sub 0x420000042000000000000000000000000000000000000000000000000000000000000008000 m) (h : Moves m a s) : Moves m a (offerCommit s x1 x2 x3) := by
  unfold offerCommit
  extract_lets +onlyGivenNames s1
  have h2 : Moves m a s1 := by
    unfold s1
    refine cput_moves hm.up (Can.of hm) (Can.of hm) ?_
    assumption
  clear_value s1
  extract_lets +onlyGivenNames s3
  have h4 : Moves m a s3 := by
    unfold s3
    refine cput_moves hm.up (Can.of hm) (Can.of hm) ?_
    assumption
  clear_value s3
  refine Moves.ite (fun _ => ?_) (fun _ => ?_)
  · refine State.modCarr_moves hm.up ?_
    assumption
  · refine State.modCarr_moves hm.up ?_
    assumption

theorem auxCommit_moves {m} {a s : State} {x1 x2} (hm : Sub 0x420000042000000000000000000000000000000000000000000000000000000000000008000 m) (h : Moves m a s) : Moves m a (auxCommit s x1 x2) := by
  unfold auxCommit
  extract_lets +onlyGivenNames v1
  clear_value v1
  extract_lets +onlyGivenNames v2
  clear_value v2
  refine Moves.ite (fun _ => ?_) (fun _ => ?_)
  · assumption
  · refine Moves.ite (fun _ => ?_) (fun _ => ?_)
    · refine offerCommit_moves hm.up ?_
      assumption
    · extract_lets +onlyGivenNames s3
      have h4 : Moves m a s3 := by
        unfold s3
        refine cput_moves hm.up (Can.of hm) (Can.of hm) ?_
        refine cput_moves hm.up (Can.of hm) (Can.of hm) ?_
        assumption
      clear_value s3
      refine State.modCarr_moves hm.up ?_
      assumption

theorem carrierStart_moves {m} {a s : State} {x1 x2} (hm : Sub 0x2000000200000000000000000000000000000000000000000000000000000000000000008000 m) (h : Moves m a s) : Moves m a (carrierStart s x1 x2) := by
  unfold carrierStart
  extract_lets +onlyGivenNames v1
  clear_value v1
  extract_lets +onlyGivenNames s2
  have h3 : Moves m a s2 := by
    unfold s2
    refine State.modCarr_moves hm.up ?_
    assumption
  clear_value s2
  extract_lets +onlyGivenNames s4
  have h5 : Moves m a s4 := by
    unfold s4
    refine State.forL_moves ?_ ?_
    · assumption
    · intro v6 s7 h8
      refine State.modLeg_moves hm.up ?_
      assumption
  clear_value s4
  refine cput_moves hm.up (Can.of hm) (Can.of hm) ?_
  assumption

theorem carrierStop_moves {m} {a s : State} {x1} (hm : Sub 0x200000000000000000e08000000000000000000000000000000000000001000000000000000000020000000000000000000000000000000000000000000000000c000000000240f000240000000000000000000000000000000000000000000000000000080000000458408 m) (h : Moves m a s) : Moves m a (carrierStop s x1) := by
  unfold carrierStop
  extract_lets +onlyGivenNames s1
  have h2 : Moves m a s1 := by
    unfold s1
    refine State.modCarr_moves hm.up ?_
    assumption
  clear_value s1
  extract_lets +onlyGivenNames s3
  have h4 : Moves m a s3 := by
    unfold s3
    refine cput_moves hm.up (Can.of hm) (Can.of hm) ?_
    refine cput_moves hm.up (Can.of hm) (Can.of hm) ?_
    assumption
  clear_value s3
  extract_lets +onlyGivenNames s5
  have h6 : Moves m a s5 := by
    unfold s5
    refine State.forL_moves ?_ ?_
    · assumption
    · intro v7 s8 h9
      refine State.modLeg_moves hm.up ?_
      assumption
  clear_value s5
  extract_lets +onlyGivenNames s10
  have h11 : Moves m a s10 := by
    unfold s10
    refine State.forL_moves ?_ ?_
    · assumption
    · intro v12 s13 h14
      refine State.legApply_moves hm.up ?_
      assumption
  clear_value s10
  split
  · refine profTake_moves hm.up ?_
    assumption
  · assumption

theorem plainHalf_moves {m} {a s : State} {x1 x2} (hm : Sub 0x200000000000000000e08000000000000000000000000000000000000001000000000000000000020000000000000000000000000000000000000000000000000c0000040001adfc041ad000000000000000000000000000000000000000000000000000000000000448408 m) (h : Moves m a s) : Moves m a (plainHalf s x1 x2) := by
  unfold plainHalf
  extract_lets +onlyGivenNames v1
  clear_value v1
  extract_lets +onlyGivenNames v2
  clear_value v2
  extract_lets +onlyGivenNames s3
  have h4 : Moves m a s3 := by
    unfold s3
    refine State.onIf_moves ?_ ?_
    · assumption
    · intro s5 h6
      refine takeCommit_moves hm.up ?_
      assumption
  clear_value s3
  extract_lets +onlyGivenNames s7
  have h8 : Moves m a s7 := by
    unfold s7
    refine planHalf_moves hm.up ?_
    refine beginHalf_moves hm.up ?_
    assumption
  clear_value s7
  refine State.onIf_moves ?_ ?_
  · assumption
  · intro s9 h10
    refine carrApply_moves hm.up ?_
    assumption

theorem endCuts_moves {m} {a s : State} {x1} (hm : Sub 0x200000000000000000e08000000000000000000000000000000000000001000000000000000000020000000000000000000000000000000000000000000000000c000000000000f000000000000000000000000000000000000000000000000000000000000000000448408 m) (h : Moves m a s) : Moves m a (endCuts s x1) := by
  unfold endCuts
  refine State.forL_moves ?_ ?_
  · assumption
  · intro v1 s2 h3
    extract_lets +onlyGivenNames v4
    clear_value v4
    extract_lets +onlyGivenNames v5
    clear_value v5
    refine State.legApply_moves hm.up ?_
    refine State.modLeg_moves hm.up ?_
    assumption

theorem dlWhole_moves {m} {a s : State} (hm : Sub 0x8000 m) (h : Moves m a s) : Moves m a (dlWhole s) := by
  unfold dlWhole
  refine Moves.gen (s := s) hm.up ?_
  assumption

theorem dlMeasure_moves {m} {a s : State} {x1} (hm : Sub 0x200000000000000000e0800000000000000000000000000000000000000100000000000000000000000000000000000000000000000000000000000000000000000000380000000000000000000000000000000000000000000000000000000000000000000000000408c08 m) (h : Moves m a s) : Moves m a (dlMeasure s x1) := by
  unfold dlMeasure
  split
  · extract_lets +onlyGivenNames v4
    clear_value v4
    extract_lets +onlyGivenNames v5
    clear_value v5
    extract_lets +onlyGivenNames s6
    have h7 : Moves m a s6 := by
      unfold s6
      refine State.put_moves (Can.of hm) ?_
      refine State.put_moves (Can.of hm) ?_
      refine State.put_moves (Can.of hm) ?_
      assumption
    clear_value s6
    extract_lets +onlyGivenNames s8
    clear_value s8
    extract_lets +onlyGivenNames s9
    have h10 : Moves m a s9 := by
      unfold s9
      refine Moves.gen (s := s6) hm.up ?_
      assumption
    clear_value s9
    refine State.onIf_moves ?_ ?_
    · assumption
    · intro s11 h12
      refine State.raise_moves hm.up ?_
      refine State.logEv_moves hm.up ?_
      assumption
  · extract_lets +onlyGivenNames v15
    clear_value v15
    extract_lets +onlyGivenNames s16
    have h17 : Moves m a s16 := by
      unfold s16
      refine State.put_moves (Can.of hm) ?_
      assumption
    clear_value s16
    extract_lets +onlyGivenNames s18
    clear_value s18
    extract_lets +onlyGivenNames s19
    have h20 : Moves m a s19 := by
      unfold s19
      refine Moves.gen (s := s16) hm.up ?_
      assumption
    clear_value s19
    refine State.onIf_moves ?_ ?_
    · assumption
    · intro s21 h22
      refine State.raise_moves hm.up ?_
      refine State.logEv_moves hm.up ?_
      refine dlWhole_moves hm.up ?_
      assumption

theorem execDlCal_moves {m} {a s : State} {x1} (hm : Sub 0x200000000000000000e0800000000000000000000000000000000000000100000000000000000000000000000000000000000000000000000000000000000000000000380000000000000000000000000000000000000000000000000000000000000000000000000408c08 m) (h : Moves m a s) : Ends m a (execDlCal x1 s) := by
  unfold execDlCal
  refine live_moves ?_ ?_
  · assumption
  · intro s1 h2
    refine dlMeasure_moves hm.up ?_
    assumption

/-! ### LatheMem -/

theorem State.putLw_moves {m} {a s : State} {x1 x2} (hm : Sub 0x340 m) (h : Moves m a s) : Moves m a (State.putLw s x1 x2) := by
  unfold State.putLw
  refine ueClear_moves hm.up ?_
  refine Moves.mem (s := s) ?_ ?_
  · exact .lathe hm.up .refl
  · assumption

theorem State.putPairs_moves {m} {a s : State} {x1 x2 x3 x4} (hm : Sub 0x340 m) (h : Moves m a s) : Moves m a (State.putPairs s x1 x2 x3 x4) := by
  unfold State.putPairs
  refine State.forN_moves ?_ ?_
  · assumption
  · intro v1 s2 h3
    refine State.putLw_moves hm.up ?_
    assumption

/-! ### Conv -/

theorem State.modConv_moves {m} {a s : State} {x1 x2} (hm : Sub 0x2000 m) (h : Moves m a s) : Moves m a (State.modConv s x1 x2) := by
  unfold State.modConv
  refine Moves.cvb (s := s) hm.up ?_
  assumption

theorem State.modSeq_moves {m} {a s : State} {x1 x2} (hm : Sub 0x2000 m) (h : Moves m a s) : Moves m a (State.modSeq s x1 x2) := by
  unfold State.modSeq
  refine Moves.cvb (s := s) hm.up ?_
  assumption

theorem State.modWin_moves {m} {a s : State} {x1 x2 x3} (hm : Sub 0x2000 m) (h : Moves m a s) : Moves m a (State.modWin s x1 x2 x3) := by
  unfold State.modWin
  refine State.modSeq_moves hm.up ?_
  assumption

theorem State.modCmp_moves {m} {a s : State} {x1 x2} (hm : Sub 0x2000 m) (h : Moves m a s) : Moves m a (State.modCmp s x1 x2) := by
  unfold State.modCmp
  refine Moves.cvb (s := s) hm.up ?_
  assumption

theorem cvLeave_moves {m} {a s : State} {x1} (hm : Sub 0x2000 m) (h : Moves m a s) : Moves m a (cvLeave s x1) := by
  unfold cvLeave
  split
  · refine State.modCmp_moves hm.up ?_
    assumption
  · assumption

theorem cvUnsettle_moves {m} {a s : State} {x1 x2} (hm : Sub 0x2000 m) (h : Moves m a s) : Moves m a (cvUnsettle s x1 x2) := by
  unfold cvUnsettle
  refine State.modConv_moves hm.up ?_
  assumption

theorem cvTurn_moves {m} {a s : State} {x1 x2 x3 x4} (hm : Sub 0x10000000000000000000002000 m) (h : Moves m a s) : Moves m a (cvTurn s x1 x2 x3 x4) := by
  unfold cvTurn
  extract_lets +onlyGivenNames v1
  clear_value v1
  refine Moves.ite (fun _ => ?_) (fun _ => ?_)
  · assumption
  · extract_lets +onlyGivenNames s2
    have h3 : Moves m a s2 := by
      unfold s2
      refine cvUnsettle_moves hm.up ?_
      refine cvLeave_moves hm.up ?_
      assumption
    clear_value s2
    extract_lets +onlyGivenNames s4
    have h5 : Moves m a s4 := by
      unfold s4
      refine State.modConv_moves hm.up ?_
      assumption
    clear_value s4
    refine Moves.ite (fun _ => ?_) (fun _ => ?_)
    · assumption
    · refine State.put_moves (Can.of hm) ?_
      assumption

theorem cvStart_moves {m} {a s : State} {x1} (hm : Sub 0x20000000000000000000002000 m) (h : Moves m a s) : Moves m a (cvStart s x1) := by
  unfold cvStart
  refine Moves.ite (fun _ => ?_) (fun _ => ?_)
  · refine State.put_moves (Can.of hm) ?_
    assumption
  · refine Moves.ite (fun _ => ?_) (fun _ => ?_)
    · refine State.modConv_moves hm.up ?_
      assumption
    · assumption

theorem shutCancel_moves {m} {a s : State} {x1} (hm : Sub 0x20000000000000000000000000 m) (h : Moves m a s) : Moves m a (shutCancel s x1) := by
  unfold shutCancel
  refine State.onIf_moves ?_ ?_
  · assumption
  · intro s1 h2
    refine State.put_moves (Can.of hm) ?_
    assumption

theorem winLate_moves {m} {a s : State} {x1 x2} (hm : Sub 0x200000000000000000e0800000000000000000000000000000000000000100000000000000000000000000000000000000000000000000000000000000000000000000000000000000000000000000000000000000000000000000000000000000000000000000000402408 m) (h : Moves m a s) : Moves m a (winLate s x1 x2) := by
  unfold winLate
  refine State.logRate_moves hm.up ?_
  refine State.modWin_moves hm.up ?_
  assumption

theorem winUntaken_moves {m} {a s : State} {x1 x2 x3} (hm : Sub 0x2000 m) (h : Moves m a s) : Moves m a (winUntaken s x1 x2 x3) := by
  unfold winUntaken
  extract_lets +onlyGivenNames v1
  clear_value v1
  extract_lets +onlyGivenNames v2
  clear_value v2
  refine State.modWin_moves hm.up ?_
  assumption

theorem winTurn_moves {m} {a s : State} {x1 x2 x3 x4} (hm : Sub 0x10000000000000000000002000 m) (h : Moves m a s) : Moves m a (winTurn s x1 x2 x3 x4) := by
  unfold winTurn
  extract_lets +onlyGivenNames v1
  clear_value v1
  refine cvTurn_moves hm.up ?_
  assumption

theorem winTake_moves {m} {a s : State} {x1 x2 x3} (hm : Sub 0x200000000000000000e0800000000000000000000000000000000000000100000000000000000000000000000000000000000000000000000000000000000000000000000000000000000000000000000000000000000000000000000000010000000000000000000402408 m) (h : Moves m a s) : Moves m a (winTake s x1 x2 x3) := by
  unfold winTake
  extract_lets +onlyGivenNames v1
  clear_value v1
  extract_lets +onlyGivenNames v2
  clear_value v2
  extract_lets +onlyGivenNames s3
  have h4 : Moves m a s3 := by
    unfold s3
    refine winTurn_moves hm.up ?_
    assumption
  clear_value s3
  extract_lets +onlyGivenNames v5
  clear_value v5
  extract_lets +onlyGivenNames v6
  clear_value v6
  extract_lets +onlyGivenNames v7
  clear_value v7
  extract_lets +onlyGivenNames s8
  have h9 : Moves m a s8 := by
    unfold s8
    refine State.modConv_moves hm.up ?_
    assumption
  clear_value s8
  extract_lets +onlyGivenNames s10
  have h11 : Moves m a s10 := by
    unfold s10
    refine State.modWin_moves hm.up ?_
    assumption
  clear_value s10
  refine Moves.ite (fun _ => ?_) (fun _ => ?_)
  · refine winLate_moves hm.up ?_
    assumption
  · assumption

theorem injBegin_moves {m} {a s : State} {x1 x2 x3} (hm : Sub 0x10000000000000000000002000 m) (h : Moves m a s) : Moves m a (injBegin s x1 x2 x3) := by
  unfold injBegin
  extract_lets +onlyGivenNames s1
  have h2 : Moves m a s1 := by
    unfold s1
    refine cvTurn_moves hm.up ?_
    assumption
  clear_value s1
  extract_lets +onlyGivenNames v3
  clear_value v3
  refine State.modConv_moves hm.up ?_
  assumption

theorem resume_moves {m} {a s : State} {x1 x2 x3 x4} (hm : Sub 0x10000000000000000000002000 m) (h : Moves m a s) : Moves m a (resume s x1 x2 x3 x4) := by
  unfold resume
  extract_lets +onlyGivenNames s1
  have h2 : Moves m a s1 := by
    unfold s1
    split
    · refine winTurn_moves hm.up ?_
      assumption
    · refine cvTurn_moves hm.up ?_
      assumption
    · assumption
  clear_value s1
  extract_lets +onlyGivenNames v11
  clear_value v11
  extract_lets +onlyGivenNames v12
  clear_value v12
  extract_lets +onlyGivenNames s13
  have h14 : Moves m a s13 := by
    unfold s13
    refine State.modConv_moves hm.up ?_
    assumption
  clear_value s13
  split
  · refine State.modWin_moves hm.up ?_
    assumption
  · assumption

theorem serveNext_moves {m} {a s : State} {x1 x2} (hm : Sub 0x200000000000000000e0800000000000000000000000000000000000000100000000000000000000000000000000000000000000000000000000000000000000000000000000000000000000000000000000000000000000000000000000010000000000000000000402408 m) (h : Moves m a s) : Moves m a (serveNext s x1 x2) := by
  unfold serveNext
  refine Moves.ite (fun _ => ?_) (fun _ => ?_)
  · assumption
  · split
    · refine injBegin_moves hm.up ?_
      assumption
    · split
      · refine resume_moves hm.up ?_
        assumption
      · split
        · refine winTake_moves hm.up ?_
          assumption
        · extract_lets +onlyGivenNames v19
          clear_value v19
          split
          · refine injBegin_moves hm.up ?_
            assumption
          · split
            · extract_lets +onlyGivenNames s28
              have h29 : Moves m a s28 := by
                unfold s28
                refine cvTurn_moves hm.up ?_
                assumption
              clear_value s28
              extract_lets +onlyGivenNames v30
              clear_value v30
              refine State.modConv_moves hm.up ?_
              assumption
            · assumption

theorem trimEnd_moves {m} {a s : State} {x1 x2 x3 x4} (hm : Sub 0x200000000000000000e0800000000000000000000000000000000000000100000000000000000000000000000000000000000000000000000000000000000000000000000000000000000000000000000000000000000000000000000600100000000000000000000400c08 m) (h : Moves m a s) : Moves m a (trimEnd s x1 x2 x3 x4) := by
  unfold trimEnd
  refine Moves.ite (fun _ => ?_) (fun _ => ?_)
  · refine State.onIf_moves ?_ ?_
    · refine State.put_moves (Can.of hm) ?_
      refine State.putS_moves hm.up (Can.of hm) ?_
      refine State.putS_moves hm.up (Can.of hm) ?_
      assumption
    · intro s1 h2
      refine State.logEv_moves hm.up ?_
      assumption
  · refine State.raise_moves hm.up ?_
    refine State.logEv_moves hm.up ?_
    refine State.put_moves (Can.of hm) ?_
    assumption

theorem sliceEnd_moves {m} {a s : State} {x1 x2} (hm : Sub 0x200000000000000000e0800000000000000000000000000000000000000100000000000000000000000000000000000000000000000000000000000000000000000000000000000000000000000000000000000000000000000000000600380000000000000000000402c08 m) (h : Moves m a s) : Moves m a (sliceEnd s x1 x2) := by
  unfold sliceEnd
  extract_lets +onlyGivenNames v1
  clear_value v1
  extract_lets +onlyGivenNames v2
  clear_value v2
  extract_lets +onlyGivenNames s3
  have h4 : Moves m a s3 := by
    unfold s3
    refine cvUnsettle_moves hm.up ?_
    refine State.put_moves (Can.of hm) ?_
    assumption
  clear_value s3
  refine Moves.ite (fun _ => ?_) (fun _ => ?_)
  · refine trimEnd_moves hm.up ?_
    refine State.put_moves (Can.of hm) ?_
    assumption
  · assumption

theorem workDone_moves {m} {a s : State} {x1} (hm : Sub 0x200000000000000000e0800000000000000000000000000000000000000100000000000000000000000000000000000000000000000000000000000000000000000000000000000000000000000000000000000000000000000000000600380000000000000000000402c08 m) (h : Moves m a s) : Moves m a (workDone s x1) := by
  unfold workDone
  extract_lets +onlyGivenNames v1
  clear_value v1
  extract_lets +onlyGivenNames v2
  clear_value v2
  extract_lets +onlyGivenNames v3
  clear_value v3
  extract_lets +onlyGivenNames s4
  have h5 : Moves m a s4 := by
    unfold s4
    refine State.modConv_moves hm.up ?_
    assumption
  clear_value s4
  split
  · refine State.modSeq_moves hm.up ?_
    assumption
  · refine State.modConv_moves hm.up ?_
    assumption
  · refine State.modCmp_moves hm.up ?_
    assumption
  · refine sliceEnd_moves hm.up ?_
    assumption
  · assumption

theorem cvTick_moves {m} {a s : State} {x1} (hm : Sub 0x200000000000000000e0800000000000000000000000000000000000000100000000000000000000000000000000000000000000000000000000000000000000000000000000000000000000000000000000000000000000000000000600390000000000000000000402c08 m) (h : Moves m a s) : Moves m a (cvTick s x1) := by
  unfold cvTick
  extract_lets +onlyGivenNames v1
  clear_value v1
  refine Moves.ite (fun _ => ?_) (fun _ => ?_)
  · assumption
  · refine Moves.ite (fun _ => ?_) (fun _ => ?_)
    · refine Moves.ite (fun _ => ?_) (fun _ => ?_)
      · assumption
      · refine serveNext_moves hm.up ?_
        assumption
    · refine Moves.ite (fun _ => ?_) (fun _ => ?_)
      · refine serveNext_moves hm.up ?_
        refine workDone_moves hm.up ?_
        assumption
      · assumption

theorem cvbTick_moves {m} {a s : State} (hm : Sub 0x200000000000000000e0800000000000000000000000000000000000000100000000000000000000000000000000000000000000000000000000000000000000000000000000000000000000000000000000000000000000000000000600390000000000000000000402c08 m) (h : Moves m a s) : Moves m a (cvbTick s) := by
  unfold cvbTick
  refine State.forL_moves ?_ ?_
  · assumption
  · intro v1 s2 h3
    refine cvTick_moves hm.up ?_
    assumption

theorem cvAbort_moves {m} {a s : State} {x1} (hm : Sub 0x2000 m) (h : Moves m a s) : Moves m a (cvAbort s x1) := by
  unfold cvAbort
  extract_lets +onlyGivenNames v1
  have h2 : ∀ y1, Moves m a y1 → Moves m a (v1 y1) := by
    intro y1 h3
    unfold v1
    refine State.modConv_moves hm.up ?_
    assumption
  clear_value v1
  split
  · refine cvUnsettle_moves hm.up ?_
    apply h2
    assumption
  · apply h2
    assumption
  · assumption

theorem cvSuspend_moves {m} {a s : State} {x1} (hm : Sub 0x200000000000000000e0800000000000000000000000000000000000000100000000000000000000000000000000000000000000000000000000000000000000000000000000000000000000000000000000000000000000000000000600380000000000000000000402c08 m) (h : Moves m a s) : Moves m a (cvSuspend s x1) := by
  unfold cvSuspend
  extract_lets +onlyGivenNames v1
  clear_value v1
  extract_lets +onlyGivenNames v2
  clear_value v2
  extract_lets +onlyGivenNames v3
  have h4 : ∀ y1, Moves m a y1 → Moves m a (v3 y1) := by
    intro y1 h5
    unfold v3
    refine State.modConv_moves hm.up ?_
    assumption
  clear_value v3
  extract_lets +onlyGivenNames s6
  have h7 : Moves m a s6 := by
    unfold s6
    refine cvAbort_moves hm.up ?_
    assumption
  clear_value s6
  split
  · refine Moves.ite (fun _ => ?_) (fun _ => ?_)
    · refine workDone_moves hm.up ?_
      assumption
    · refine Moves.ite (fun _ => ?_) (fun _ => ?_)
      · refine State.modWin_moves hm.up ?_
        apply h4
        assumption
      · refine State.modWin_moves hm.up ?_
        refine State.modConv_moves hm.up ?_
        apply h4
        assumption
  · refine Moves.ite (fun _ => ?_) (fun _ => ?_)
    · assumption
    · refine Moves.ite (fun _ => ?_) (fun _ => ?_)
      · refine workDone_moves hm.up ?_
        assumption
      · refine Moves.ite (fun _ => ?_) (fun _ => ?_)
        · refine State.modConv_moves hm.up ?_
          apply h4
          assumption
        · refine State.modConv_moves hm.up ?_
          apply h4
          assumption
  · assumption

theorem injYield_moves {m} {a s : State} {x1} (hm : Sub 0x2000 m) (h : Moves m a s) : Moves m a (injYield s x1) := by
  unfold injYield
  extract_lets +onlyGivenNames v1
  clear_value v1
  split
  · refine State.onIf_moves ?_ ?_
    · assumption
    · intro s5 h6
      refine State.modConv_moves hm.up ?_
      assumption
  · assumption

theorem winOpenOn_moves {m} {a s : State} {x1 x2 x3} (hm : Sub 0x200000000000000000e0800000000000000000000000000000000000000100000000000000000000000000000000000000000000000000000000000000000000000000000000000000000000000000000000000000000000000000000000030000000000000000000402408 m) (h : Moves m a s) : Moves m a (winOpenOn s x1 x2 x3) := by
  unfold winOpenOn
  extract_lets +onlyGivenNames s1
  have h2 : Moves m a s1 := by
    unfold s1
    refine State.modWin_moves hm.up ?_
    assumption
  clear_value s1
  refine serveNext_moves hm.up ?_
  refine cvStart_moves hm.up ?_
  refine shutCancel_moves hm.up ?_
  refine injYield_moves hm.up ?_
  refine cvAbort_moves hm.up ?_
  assumption

theorem windowTake_moves {m} {a s : State} {x1 x2 x3} (hm : Sub 0x200000000000000000e0800000000000000000000000000000000000000100000000000000000000000000000000000000000000000000000000000000000000000000000000000000000000000000000000000000000000000000000000030000000000000000000402408 m) (h : Moves m a s) : Moves m a (windowTake s x1 x2 x3) := by
  unfold windowTake
  extract_lets +onlyGivenNames v1
  refine Moves.ite (fun _ => ?_) (fun _ => ?_)
  · refine winUntaken_moves hm.up ?_
    assumption
  · refine Moves.ite (fun _ => ?_) (fun _ => ?_)
    · refine winUntaken_moves hm.up ?_
      assumption
    · refine Moves.ite (fun _ => ?_) (fun _ => ?_)
      · refine Moves.ite (fun _ => ?_) (fun _ => ?_)
        · refine winUntaken_moves hm.up ?_
          assumption
        · refine Moves.ite (fun _ => ?_) (fun _ => ?_)
          · refine winUntaken_moves hm.up ?_
            assumption
          · refine winOpenOn_moves hm.up ?_
            refine State.modWin_moves hm.up ?_
            assumption
      · refine winOpenOn_moves hm.up ?_
        assumption

theorem winAhead_moves {m} {a s : State} {x1 x2 x3 x4} (hm : Sub 0x10000000000000000000002000 m) (h : Moves m a s) : Moves m a (winAhead s x1 x2 x3 x4) := by
  unfold winAhead
  extract_lets +onlyGivenNames v1
  clear_value v1
  refine State.onIf_moves ?_ ?_
  · assumption
  · intro s2 h3
    refine winTurn_moves hm.up ?_
    assumption

theorem seqStart_moves {m} {a s : State} {x1 x2} (hm : Sub 0x340000000020000000000000000000002000 m) (h : Moves m a s) : Moves m a (seqStart s x1 x2) := by
  unfold seqStart
  extract_lets +onlyGivenNames v1
  clear_value v1
  extract_lets +onlyGivenNames s2
  have h3 : Moves m a s2 := by
    unfold s2
    refine State.forN_moves ?_ ?_
    · assumption
    · intro v4 s5 h6
      refine State.modWin_moves hm.up ?_
      assumption
  clear_value s2
  extract_lets +onlyGivenNames s7
  have h8 : Moves m a s7 := by
    unfold s7
    refine State.put64_moves hm.up (Can.of hm) (Can.of hm) ?_
    refine State.put_moves (Can.of hm) ?_
    assumption
  clear_value s7
  refine State.forN_moves ?_ ?_
  · assumption
  · intro v9 s10 h11
    refine shutCancel_moves hm.up ?_
    assumption

theorem winAbandon_moves {m} {a s : State} {x1 x2} (hm : Sub 0x200000000000000000e0800000000000000000000000000000000000000100000000000000000000000000000000000000000000000000000000000000000000000000000000000000000000000000000000000000000000000000000600390000000000000000000402c08 m) (h : Moves m a s) : Moves m a (winAbandon s x1 x2) := by
  unfold winAbandon
  extract_lets +onlyGivenNames v1
  extract_lets +onlyGivenNames v2
  extract_lets +onlyGivenNames s3
  have h4 : Moves m a s3 := by
    unfold s3
    refine State.modConv_moves hm.up ?_
    assumption
  clear_value s3
  refine Moves.ite (fun _ => ?_) (fun _ => ?_)
  · refine State.modSeq_moves hm.up ?_
    assumption
  · refine Moves.ite (fun _ => ?_) (fun _ => ?_)
    · refine Moves.ite (fun _ => ?_) (fun _ => ?_)
      · refine serveNext_moves hm.up ?_
        refine workDone_moves hm.up ?_
        assumption
      · extract_lets +onlyGivenNames s5
        have h6 : Moves m a s5 := by
          unfold s5
          refine State.modConv_moves hm.up ?_
          assumption
        clear_value s5
        refine serveNext_moves hm.up ?_
        refine State.modWin_moves hm.up ?_
        assumption
    · refine State.modWin_moves hm.up ?_
      assumption

theorem seqAbandon_moves {m} {a s : State} {x1} (hm : Sub 0x200000000000000000e0800000000000000000000000000000000000000100000000000000000000000000000000000000000000000000000000000000000000000000000000000000000000000000000000000000000000000000000600390000000000000000000402c08 m) (h : Moves m a s) : Moves m a (seqAbandon s x1) := by
  unfold seqAbandon
  refine State.forL_moves ?_ ?_
  · assumption
  · intro v1 s2 h3
    refine winAbandon_moves hm.up ?_
    assumption

theorem seqOverrun_moves {m} {a s : State} {x1 x2} (hm : Sub 0x200000000000000000e08000000000000000000000000000000000000001000000000000000000000000000000000000000000000000000000000000000000000000000000000000000000000000000000000000000000000003700006003b0000000000000000000402c08 m) (h : Moves m a s) : Moves m a (seqOverrun s x1 x2) := by
  unfold seqOverrun
  extract_lets +onlyGivenNames s1
  have h2 : Moves m a s1 := by
    unfold s1
    refine State.logRate_moves hm.up ?_
    refine State.incSat_moves hm.up (Can.of hm) ?_
    assumption
  clear_value s1
  split
  · refine seqStart_moves hm.up ?_
    refine seqAbandon_moves hm.up ?_
    assumption
  · refine Moves.ite (fun _ => ?_) (fun _ => ?_)
    · assumption
    · refine State.put_moves (Can.of hm) ?_
      refine State.modSeq_moves hm.up ?_
      assumption
  · assumption

theorem seqStop_moves {m} {a s : State} {x1} (hm : Sub 0x20000000000000000000000000000000000000000000000000000000000000000000000000000000000000000000000000000000000000000000000000000000000000000000000000000000000000000000000000000000000360000000020000000000000000000002000 m) (h : Moves m a s) : Moves m a (seqStop s x1) := by
  unfold seqStop
  extract_lets +onlyGivenNames s1
  have h2 : Moves m a s1 := by
    unfold s1
    refine State.irq_moves hm.up ?_
    refine State.put_moves (Can.of hm) ?_
    assumption
  clear_value s1
  split
  · refine seqStart_moves hm.up ?_
    refine State.put_moves (Can.of hm) ?_
    refine State.modSeq_moves hm.up ?_
    assumption
  · assumption

theorem seqTrigger_moves {m} {a s : State} {x1 x2} (hm : Sub 0x200000000000000000e08000000000000000000000000000000000000001000000000000000000000000000000000000000000000000000000000000000000000000000000000000000000000000000000000000000000000003700006003b0000000000000000000402c08 m) (h : Moves m a s) : Moves m a (seqTrigger s x1 x2) := by
  unfold seqTrigger
  refine Moves.ite (fun _ => ?_) (fun _ => ?_)
  · assumption
  · extract_lets +onlyGivenNames s1
    have h2 : Moves m a s1 := by
      unfold s1
      refine State.onIf_moves ?_ ?_
      · assumption
      · intro s3 h4
        refine seqStop_moves hm.up ?_
        assumption
    clear_value s1
    refine Moves.ite (fun _ => ?_) (fun _ => ?_)
    · refine seqOverrun_moves hm.up ?_
      assumption
    · refine seqStart_moves hm.up ?_
      assumption

theorem seqFire_moves {m} {a s : State} {x1 x2 x3} (hm : Sub 0x200000000000000000e08000000000000000000000000000000000000001000000000000000000000000000000000000000000000000000000000000000000000000000000000000000000000000000000000000000000000003700006003b0000000000000000000402c08 m) (h : Moves m a s) : Moves m a (seqFire s x1 x2 x3) := by
  unfold seqFire
  refine State.forL_moves ?_ ?_
  · assumption
  · intro v1 s2 h3
    refine State.onIf_moves ?_ ?_
    · assumption
    · intro s4 h5
      refine seqTrigger_moves hm.up ?_
      assumption

theorem seqPlan_moves {m} {a s : State} {x1 x2} (hm : Sub 0x200000000000000000e08000000000000000000000000000000000000001000000000000000000000000000000000000000000000000000000000000000000000000000000000000000000000000000000000000000000000003700006003b0000000000000000000402c08 m) (h : Moves m a s) : Moves m a (seqPlan s x1 x2) := by
  unfold seqPlan
  refine Moves.ite (fun _ => ?_) (fun _ => ?_)
  · refine seqTrigger_moves hm.up ?_
    assumption
  · refine State.modSeq_moves hm.up ?_
    assumption

theorem seqCarrier_moves {m} {a s : State} {x1 x2 x3 x4} (hm : Sub 0x200000000000000000e08000000000000000000000000000000000000001000000000000000000000000000000000000000000000000000000000000000000000000000000000000000000000000000000000000000000000003700006003b0000000000000000000402c08 m) (h : Moves m a s) : Moves m a (seqCarrier s x1 x2 x3 x4) := by
  unfold seqCarrier
  refine State.forL_moves ?_ ?_
  · assumption
  · intro v1 s2 h3
    extract_lets +onlyGivenNames v4
    clear_value v4
    refine State.onIf_moves ?_ ?_
    · assumption
    · intro s5 h6
      refine seqPlan_moves hm.up ?_
      assumption

theorem seqArm_moves {m} {a s : State} {x1 x2} (hm : Sub 0x200000000000000000e08000000000000000000000000000000000000001000000000000000000000000000000000000000000000000000000000000000000000000000000000000000000000000000000000000000000000003700006003b0000000000000000000402c08 m) (h : Moves m a s) : Moves m a (seqArm s x1 x2) := by
  unfold seqArm
  refine State.forL_moves ?_ ?_
  · assumption
  · intro v1 s2 h3
    extract_lets +onlyGivenNames v4
    clear_value v4
    refine State.onIf_moves ?_ ?_
    · assumption
    · intro s5 h6
      extract_lets +onlyGivenNames v7
      clear_value v7
      extract_lets +onlyGivenNames v8
      clear_value v8
      refine seqPlan_moves hm.up ?_
      assumption

theorem seqCotZero_moves {m} {a s : State} {x1 x2 x3} (hm : Sub 0x200000000000000000e08000000000000000000000000000000000000001000000000000000000000000000000000000000000000000000000000000000000000000000000000000000000000000000000000000000000000003700006003b0000000000000000000402c08 m) (h : Moves m a s) : Moves m a (seqCotZero s x1 x2 x3) := by
  unfold seqCotZero
  refine State.forL_moves ?_ ?_
  · assumption
  · intro v1 s2 h3
    refine State.onIf_moves ?_ ?_
    · assumption
    · intro s4 h5
      refine seqTrigger_moves hm.up ?_
      assumption

theorem seqDue_moves {m} {a s : State} (hm : Sub 0x200000000000000000e08000000000000000000000000000000000000001000000000000000000000000000000000000000000000000000000000000000000000000000000000000000000000000000000000000000000000003700006003b0000000000000000000402c08 m) (h : Moves m a s) : Moves m a (seqDue s) := by
  unfold seqDue
  refine State.forL_moves ?_ ?_
  · assumption
  · intro v1 s2 h3
    extract_lets +onlyGivenNames v4
    clear_value v4
    extract_lets +onlyGivenNames v5
    clear_value v5
    refine State.forL_moves ?_ ?_
    · refine State.modSeq_moves hm.up ?_
      assumption
    · intro v6 s7 h8
      refine seqTrigger_moves hm.up ?_
      assumption

theorem windowOpen_moves {m} {a s : State} {x1 x2} (hm : Sub 0x200000000000000000e08000000000000000000000000000000000000001000000000000000000000000000000000000000000000000000000000000000000000000000000000000000000000000000000000000000000000003700006003b0000000000000000000402c08 m) (h : Moves m a s) : Moves m a (windowOpen s x1 x2) := by
  unfold windowOpen
  extract_lets +onlyGivenNames s1
  have h2 : Moves m a s1 := by
    unfold s1
    refine seqDue_moves hm.up ?_
    assumption
  clear_value s1
  extract_lets +onlyGivenNames v3
  clear_value v3
  split
  · assumption
  · refine Moves.ite (fun _ => ?_) (fun _ => ?_)
    · refine winAhead_moves hm.up ?_
      assumption
    · refine Moves.ite (fun _ => ?_) (fun _ => ?_)
      · refine windowTake_moves hm.up ?_
        assumption
      · assumption

theorem deliverMeas_moves {m} {a s : State} {x1 x2 x3 x4 x5 x6} (hm : Sub 0x100000 m) (h : Moves m a s) : Moves m a (deliverMeas s x1 x2 x3 x4 x5 x6) := by
  unfold deliverMeas
  refine Moves.ite (fun _ => ?_) (fun _ => ?_)
  · assumption
  · refine Moves.chuck (s := s) hm.up ?_
    assumption

theorem seqEnd_moves {m} {a s : State} {x1} (hm : Sub 0x200000000000000000e08000000000000000000000000000000000000001000000000000000000000000000000000000000000000000000000000000000000000000000000000000000000000000000000000000000000000003700006003b0000000000000000000402c08 m) (h : Moves m a s) : Moves m a (seqEnd s x1) := by
  unfold seqEnd
  refine seqFire_moves hm.up ?_
  refine seqStop_moves hm.up ?_
  assumption

theorem winResult_moves {m} {a s : State} {x1 x2 x3 x4} (hm : Sub 0x780080000000000000000000000000000100000 m) (h : Moves m a s) : Moves m a (winResult s x1 x2 x3 x4) := by
  unfold winResult
  extract_lets +onlyGivenNames v1
  clear_value v1
  extract_lets +onlyGivenNames v2
  clear_value v2
  extract_lets +onlyGivenNames s3
  have h4 : Moves m a s3 := by
    unfold s3
    refine State.put_moves (Can.of hm) ?_
    refine State.put_moves (Can.of hm) ?_
    refine State.put_moves (Can.of hm) ?_
    assumption
  clear_value s3
  extract_lets +onlyGivenNames s5
  have h6 : Moves m a s5 := by
    unfold s5
    refine State.put_moves (Can.of hm) ?_
    refine State.put_moves (Can.of hm) ?_
    assumption
  clear_value s5
  extract_lets +onlyGivenNames v7
  clear_value v7
  extract_lets +onlyGivenNames v8
  clear_value v8
  refine State.onIf_moves ?_ ?_
  · assumption
  · intro s9 h10
    refine deliverMeas_moves hm.up ?_
    assumption

theorem winClose_moves {m} {a s : State} {x1 x2} (hm : Sub 0x200000000000000000e0800000000000000000000000000000000000000100000000000000000000000000000000000000000000000000000000000000000000000000000000000000000000000000000000000000000000000000000600390000000000000000000402c08 m) (h : Moves m a s) : Moves m a (winClose s x1 x2) := by
  unfold winClose
  extract_lets +onlyGivenNames v1
  extract_lets +onlyGivenNames v2
  refine State.onIf_moves ?_ ?_
  · assumption
  · intro s3 h4
    refine serveNext_moves hm.up ?_
    refine workDone_moves hm.up ?_
    assumption

theorem windowResult_moves {m} {a s : State} {x1 x2 x3} (hm : Sub 0x200000000000000000e0800000000000000000000000000000000000000100000000000000000000000000000000000000000000000000000000000000000000000000000000000000000000000000000000000000000000780080000600390000000000000000000502c08 m) (h : Moves m a s) : Moves m a (windowResult s x1 x2 x3) := by
  unfold windowResult
  extract_lets +onlyGivenNames v1
  clear_value v1
  extract_lets +onlyGivenNames v2
  clear_value v2
  refine Moves.ite (fun _ => ?_) (fun _ => ?_)
  · assumption
  · extract_lets +onlyGivenNames s3
    have h4 : Moves m a s3 := by
      unfold s3
      refine winClose_moves hm.up ?_
      assumption
    clear_value s3
    split
    · refine winResult_moves hm.up ?_
      refine State.modSeq_moves hm.up ?_
      assumption
    · refine Moves.ite (fun _ => ?_) (fun _ => ?_)
      · refine winResult_moves hm.up ?_
        refine State.modWin_moves hm.up ?_
        assumption
      · assumption

theorem injRequest_moves {m} {a s : State} {x1 x2} (hm : Sub 0x200000000000000000e0800000000000000000000000000000000000000100000000000000000000000000000000000000000000000000000000000000000000000000000000000000000000000000000000000000000000000000000600bf0000000000000000000402c08 m) (h : Moves m a s) : Moves m a (injRequest s x1 x2) := by
  unfold injRequest
  extract_lets +onlyGivenNames s1
  have h2 : Moves m a s1 := by
    unfold s1
    refine State.modConv_moves hm.up ?_
    refine State.put_moves (Can.of hm) ?_
    assumption
  clear_value s1
  extract_lets +onlyGivenNames s3
  have h4 : Moves m a s3 := by
    unfold s3
    refine cvStart_moves hm.up ?_
    refine shutCancel_moves hm.up ?_
    assumption
  clear_value s3
  extract_lets +onlyGivenNames s5
  have h6 : Moves m a s5 := by
    unfold s5
    refine State.onIf_moves ?_ ?_
    · assumption
    · intro s7 h8
      refine State.put_moves (Can.of hm) ?_
      refine State.put_moves (Can.of hm) ?_
      refine State.modConv_moves hm.up ?_
      assumption
  clear_value s5
  extract_lets +onlyGivenNames s9
  have h10 : Moves m a s9 := by
    unfold s9
    refine State.onIf_moves ?_ ?_
    · assumption
    · intro s11 h12
      refine cvSuspend_moves hm.up ?_
      assumption
  clear_value s9
  refine serveNext_moves hm.up ?_
  assumption

theorem injDone_moves {m} {a s : State} {x1 x2 x3} (hm : Sub 0x200000000000000000e0800000000000000000000000000000000000000100000000000000000000000000000000000000000000000000000000000000000000000000000000000000000000000000000000000000000000000000000670b90000000000000000000402c08 m) (h : Moves m a s) : Moves m a (injDone s x1 x2 x3) := by
  unfold injDone
  extract_lets +onlyGivenNames v1
  clear_value v1
  refine Moves.ite (fun _ => ?_) (fun _ => ?_)
  · assumption
  · extract_lets +onlyGivenNames s2
    have h3 : Moves m a s2 := by
      unfold s2
      refine State.onIf_moves ?_ ?_
      · assumption
      · intro s4 h5
        refine serveNext_moves hm.up ?_
        refine workDone_moves hm.up ?_
        assumption
    clear_value s2
    split
    · assumption
    · extract_lets +onlyGivenNames s11
      have h12 : Moves m a s11 := by
        unfold s11
        refine State.modConv_moves hm.up ?_
        assumption
      clear_value s11
      extract_lets +onlyGivenNames v13
      clear_value v13
      extract_lets +onlyGivenNames v14
      clear_value v14
      extract_lets +onlyGivenNames s15
      have h16 : Moves m a s15 := by
        unfold s15
        refine State.put_moves (Can.of hm) ?_
        assumption
      clear_value s15
      extract_lets +onlyGivenNames s17
      have h18 : Moves m a s17 := by
        unfold s17
        refine State.put_moves (Can.of hm) ?_
        refine State.put_moves (Can.of hm) ?_
        assumption
      clear_value s17
      refine State.irq_moves hm.up ?_
      refine State.put_moves (Can.of hm) ?_
      assumption

theorem calRequest_moves {m} {a s : State} {x1} (hm : Sub 0x420000000000000000000002000 m) (h : Moves m a s) : Moves m a (calRequest s x1) := by
  unfold calRequest
  refine cvStart_moves hm.up ?_
  refine State.put_moves (Can.of hm) ?_
  assumption

theorem calStart_moves {m} {a s : State} {x1} (hm : Sub 0x200000000000000000e0800000000000000000000000000000000000000100000000000000000000000000000000000000000000000000000000000000000000000000000000000000000000000000000000000000000000000000000000070000000000000000000402408 m) (h : Moves m a s) : Moves m a (calStart s x1) := by
  unfold calStart
  extract_lets +onlyGivenNames s1
  have h2 : Moves m a s1 := by
    unfold s1
    split
    · refine State.modWin_moves hm.up ?_
      assumption
    · assumption
  clear_value s1
  extract_lets +onlyGivenNames s9
  have h10 : Moves m a s9 := by
    unfold s9
    refine cvLeave_moves hm.up ?_
    refine State.modConv_moves hm.up ?_
    assumption
  clear_value s9
  extract_lets +onlyGivenNames s11
  have h12 : Moves m a s11 := by
    unfold s11
    refine State.put_moves (Can.of hm) ?_
    refine State.put_moves (Can.of hm) ?_
    assumption
  clear_value s11
  refine State.forL_moves ?_ ?_
  · assumption
  · intro v13 s14 h15
    refine State.onIf_moves ?_ ?_
    · assumption
    · intro s16 h17
      refine windowTake_moves hm.up ?_
      assumption

theorem calEnd_moves {m} {a s : State} {x1 x2 x3} (hm : Sub 0x200000000000000000e0800000000000000000000000000000000000000100000000000000000000000000000000000000000000000000000000000000000000000000000000000000000000000000000000000000000000000000000600570000000000000000000402c08 m) (h : Moves m a s) : Moves m a (calEnd s x1 x2 x3) := by
  unfold calEnd
  extract_lets +onlyGivenNames s1
  have h2 : Moves m a s1 := by
    unfold s1
    refine State.put_moves (Can.of hm) ?_
    refine State.put_moves (Can.of hm) ?_
    assumption
  clear_value s1
  extract_lets +onlyGivenNames s3
  have h4 : Moves m a s3 := by
    unfold s3
    refine State.modConv_moves hm.up ?_
    assumption
  clear_value s3
  extract_lets +onlyGivenNames s5
  have h6 : Moves m a s5 := by
    unfold s5
    refine cvUnsettle_moves hm.up ?_
    refine State.put_moves (Can.of hm) ?_
    assumption
  clear_value s5
  refine serveNext_moves hm.up ?_
  refine trimEnd_moves hm.up ?_
  assumption

theorem cmpSample_moves {m} {a s : State} {x1 x2} (hm : Sub 0x200000000000000000e08000000000000000000000000000000000000001000000000000000000000000000000000000000000000000000000000000000000000c000000000000000000000000000000000000000000000000000078000000000000000000000000040a408 m) (h : Moves m a s) : Moves m a (cmpSample s x1 x2) := by
  unfold cmpSample
  refine Moves.ite (fun _ => ?_) (fun _ => ?_)
  · assumption
  · extract_lets +onlyGivenNames v1
    clear_value v1
    extract_lets +onlyGivenNames v2
    clear_value v2
    extract_lets +onlyGivenNames v3
    clear_value v3
    extract_lets +onlyGivenNames v4
    clear_value v4
    extract_lets +onlyGivenNames v5
    clear_value v5
    extract_lets +onlyGivenNames v6
    clear_value v6
    extract_lets +onlyGivenNames v7
    clear_value v7
    extract_lets +onlyGivenNames v8
    clear_value v8
    extract_lets +onlyGivenNames v9
    clear_value v9
    extract_lets +onlyGivenNames v10
    clear_value v10
    extract_lets +onlyGivenNames v11
    clear_value v11
    extract_lets +onlyGivenNames v12
    clear_value v12
    extract_lets +onlyGivenNames v13
    clear_value v13
    extract_lets +onlyGivenNames s14
    have h15 : Moves m a s14 := by
      unfold s14
      refine State.modCmp_moves hm.up ?_
      assumption
    clear_value s14
    extract_lets +onlyGivenNames s16
    have h17 : Moves m a s16 := by
      unfold s16
      refine State.putB_moves hm.up (Can.of hm) ?_
      refine State.putB_moves hm.up (Can.of hm) ?_
      assumption
    clear_value s16
    extract_lets +onlyGivenNames s18
    have h19 : Moves m a s18 := by
      unfold s18
      refine State.onIf_moves ?_ ?_
      · assumption
      · intro s20 h21
        refine State.endEdge_moves hm.up ?_
        refine State.owlTrig_moves hm.up ?_
        refine State.irq_moves hm.up ?_
        refine State.put_moves (Can.of hm) ?_
        assumption
    clear_value s18
    extract_lets +onlyGivenNames s22
    have h23 : Moves m a s22 := by
      unfold s22
      refine State.onIf_moves ?_ ?_
      · assumption
      · intro s24 h25
        refine State.endEdge_moves hm.up ?_
        refine State.owlTrig_moves hm.up ?_
        refine State.irq_moves hm.up ?_
        refine State.put_moves (Can.of hm) ?_
        assumption
    clear_value s22
    extract_lets +onlyGivenNames s26
    have h27 : Moves m a s26 := by
      unfold s26
      refine State.onIf_moves ?_ ?_
      · assumption
      · intro s28 h29
        refine State.logEv_moves hm.up ?_
        assumption
    clear_value s26
    extract_lets +onlyGivenNames s30
    have h31 : Moves m a s30 := by
      unfold s30
      refine State.onIf_moves ?_ ?_
      · assumption
      · intro s32 h33
        refine State.logEv_moves hm.up ?_
        assumption
    clear_value s30
    refine State.tripRelease_moves hm.up ?_
    assumption

theorem cmpSamples_moves {m} {a s : State} {x1 x2} (hm : Sub 0x200000000000000000e08000000000000000000000000000000000000001000000000000000000000000000000000000000000000000000000000000000000000c000000000000000000000000000000000000000000000000000078000000000000000000000000040a408 m) (h : Moves m a s) : Moves m a (cmpSamples s x1 x2) := by
  unfold cmpSamples
  refine State.forL_moves ?_ ?_
  · assumption
  · intro v1 s2 h3
    refine cmpSample_moves hm.up ?_
    assumption

theorem owStart_moves {m} {a s : State} {x1} (hm : Sub 0x2000 m) (h : Moves m a s) : Moves m a (owStart s x1) := by
  unfold owStart
  refine State.modCmp_moves hm.up ?_
  assumption

theorem owDue_moves {m} {a s : State} {x1} (hm : Sub 0x200000000000000000e0800000000000000000000000000000000000000100000000000000000000000000000000000000000000000000000000000000000000000000000000000000000000000000000000000000000000000000000000010000000000000000000402408 m) (h : Moves m a s) : Moves m a (owDue s x1) := by
  unfold owDue
  extract_lets +onlyGivenNames s1
  have h2 : Moves m a s1 := by
    unfold s1
    refine State.modCmp_moves hm.up ?_
    assumption
  clear_value s1
  refine serveNext_moves hm.up ?_
  assumption

theorem owResult_moves {m} {a s : State} {x1 x2 x3} (hm : Sub 0x200000000000000000e0800000000000000000000000000000000000000100000000000000000000000000000000000000000000000000000000000000000000000000000000000000000000000000000000000000000000000000040000010000000000000000000402c08 m) (h : Moves m a s) : Moves m a (owResult s x1 x2 x3) := by
  unfold owResult
  extract_lets +onlyGivenNames v1
  extract_lets +onlyGivenNames v2
  clear_value v2
  extract_lets +onlyGivenNames s3
  have h4 : Moves m a s3 := by
    unfold s3
    refine State.onIf_moves ?_ ?_
    · assumption
    · intro s5 h6
      refine State.modConv_moves hm.up ?_
      assumption
  clear_value s3
  extract_lets +onlyGivenNames s7
  have h8 : Moves m a s7 := by
    unfold s7
    refine State.put_moves (Can.of hm) ?_
    refine State.modCmp_moves hm.up ?_
    assumption
  clear_value s7
  refine serveNext_moves hm.up ?_
  refine State.onIf_moves ?_ ?_
  · assumption
  · intro s9 h10
    refine State.raise_moves hm.up ?_
    refine State.logEv_moves hm.up ?_
    assumption

theorem execWindowOpen_moves {m} {a s : State} {x1 x2} (hm : Sub 0x200000000000000000e08000000000000000000000000000000000000001000000000000000000000000000000000000000000000000000000000000000000000000000000000000000000000000000000000000000000000003700006003b0000000000000000000402c08 m) (h : Moves m a s) : Ends m a (execWindowOpen x1 x2 s) := by
  unfold execWindowOpen
  refine live_moves ?_ ?_
  · assumption
  · intro s1 h2
    refine windowOpen_moves hm.up ?_
    assumption

theorem execWindowResult_moves {m} {a s : State} {x1 x2 x3} (hm : Sub 0x200000000000000000e0800000000000000000000000000000000000000100000000000000000000000000000000000000000000000000000000000000000000000000000000000000000000000000000000000000000000780080000600390000000000000000000502c08 m) (h : Moves m a s) : Ends m a (execWindowResult x1 x2 x3 s) := by
  unfold execWindowResult
  refine live_moves ?_ ?_
  · assumption
  · intro s1 h2
    refine windowResult_moves hm.up ?_
    assumption

theorem execSeqRunEnd_moves {m} {a s : State} {x1} (hm : Sub 0x200000000000000000e08000000000000000000000000000000000000001000000000000000000000000000000000000000000000000000000000000000000000000000000000000000000000000000000000000000000000003700006003b0000000000000000000402c08 m) (h : Moves m a s) : Ends m a (execSeqRunEnd x1 s) := by
  unfold execSeqRunEnd
  refine live_moves ?_ ?_
  · assumption
  · intro s1 h2
    refine State.onIf_moves ?_ ?_
    · assumption
    · intro s3 h4
      refine seqEnd_moves hm.up ?_
      assumption

theorem execAdcTrigEdge_moves {m} {a s : State} {x1 x2} (hm : Sub 0x200000000000000000e08000000000000000000000000000000000000001000000000000000000000000000000000000000000000000000000000000000000000000000000000000000000000000000000000000000000000003700006003b0000000000000000000402c08 m) (h : Moves m a s) : Ends m a (execAdcTrigEdge x1 x2 s) := by
  unfold execAdcTrigEdge
  refine live_moves ?_ ?_
  · assumption
  · intro s1 h2
    refine seqFire_moves hm.up ?_
    assumption

theorem execCalFullStart_moves {m} {a s : State} {x1} (hm : Sub 0x200000000000000000e0800000000000000000000000000000000000000100000000000000000000000000000000000000000000000000000000000000000000000000000000000000000000000000000000000000000000000000000000070000000000000000000402408 m) (h : Moves m a s) : Ends m a (execCalFullStart x1 s) := by
  unfold execCalFullStart
  refine live_moves ?_ ?_
  · assumption
  · intro s1 h2
    refine State.onIf_moves ?_ ?_
    · assumption
    · intro s3 h4
      refine calStart_moves hm.up ?_
      assumption

theorem execCalEnd_moves {m} {a s : State} {x1 x2 x3} (hm : Sub 0x200000000000000000e0800000000000000000000000000000000000000100000000000000000000000000000000000000000000000000000000000000000000000000000000000000000000000000000000000000000000000000000600570000000000000000000402c08 m) (h : Moves m a s) : Ends m a (execCalEnd x1 x2 x3 s) := by
  unfold execCalEnd
  refine live_moves ?_ ?_
  · assumption
  · intro s1 h2
    refine State.onIf_moves ?_ ?_
    · assumption
    · intro s3 h4
      refine calEnd_moves hm.up ?_
      assumption

theorem execBgcalSlice_moves {m} {a s : State} {x1 x2 x3} (hm : Sub 0x80000000000000000000002000 m) (h : Moves m a s) : Ends m a (execBgcalSlice x1 x2 x3 s) := by
  unfold execBgcalSlice
  refine live_moves ?_ ?_
  · assumption
  · intro s1 h2
    refine State.onIf_moves ?_ ?_
    · assumption
    · intro s3 h4
      extract_lets +onlyGivenNames v5
      clear_value v5
      refine State.put_moves (Can.of hm) ?_
      refine cvLeave_moves hm.up ?_
      refine State.modConv_moves hm.up ?_
      assumption

theorem execBgcalStarved_moves {m} {a s : State} {x1} (hm : Sub 0x200000000000000000e0800000000000000000000000000000000000000100000000000000000000000000000000000000000000000000000000000000000000000000000000000000000000000000000000000000000000000000000000280000000000000000000400408 m) (h : Moves m a s) : Ends m a (execBgcalStarved x1 s) := by
  unfold execBgcalStarved
  refine live_moves ?_ ?_
  · assumption
  · intro s1 h2
    refine State.onIf_moves ?_ ?_
    · assumption
    · intro s3 h4
      refine State.put_moves (Can.of hm) ?_
      refine State.put_moves (Can.of hm) ?_
      refine State.logEv_moves hm.up ?_
      assumption

theorem execCvPowerDown_moves {m} {a s : State} {x1} (hm : Sub 0x20000000000000000000002000 m) (h : Moves m a s) : Ends m a (execCvPowerDown x1 s) := by
  unfold execCvPowerDown
  refine live_moves ?_ ?_
  · assumption
  · intro s1 h2
    refine State.onIf_moves ?_ ?_
    · assumption
    · intro s3 h4
      refine State.modConv_moves hm.up ?_
      refine State.put_moves (Can.of hm) ?_
      refine cvLeave_moves hm.up ?_
      assumption

theorem execCvShutdownDone_moves {m} {a s : State} {x1} (hm : Sub 0x28000000000000000000002000 m) (h : Moves m a s) : Ends m a (execCvShutdownDone x1 s) := by
  unfold execCvShutdownDone
  refine live_moves ?_ ?_
  · assumption
  · intro s1 h2
    refine State.onIf_moves ?_ ?_
    · assumption
    · intro s3 h4
      refine Moves.ite (fun _ => ?_) (fun _ => ?_)
      · extract_lets +onlyGivenNames s5
        have h6 : Moves m a s5 := by
          unfold s5
          refine State.put_moves (Can.of hm) ?_
          assumption
        clear_value s5
        refine State.onIf_moves ?_ ?_
        · assumption
        · intro s7 h8
          refine State.put_moves (Can.of hm) ?_
          assumption
      · refine Moves.ite (fun _ => ?_) (fun _ => ?_)
        · refine State.put_moves (Can.of hm) ?_
          refine State.modConv_moves hm.up ?_
          assumption
        · refine State.put_moves (Can.of hm) ?_
          assumption

theorem execCvStartupDone_moves {m} {a s : State} {x1} (hm : Sub 0x200000000000000000e0800000000000000000000000000000000000000100000000000000000000000000000000000000000000000000000000000000000000000000000000000000000000000000000000000000000000000000000000030000000000000000000402408 m) (h : Moves m a s) : Ends m a (execCvStartupDone x1 s) := by
  unfold execCvStartupDone
  refine live_moves ?_ ?_
  · assumption
  · intro s1 h2
    refine State.onIf_moves ?_ ?_
    · assumption
    · intro s3 h4
      extract_lets +onlyGivenNames s5
      have h6 : Moves m a s5 := by
        unfold s5
        refine cvUnsettle_moves hm.up ?_
        refine State.modConv_moves hm.up ?_
        refine State.put_moves (Can.of hm) ?_
        assumption
      clear_value s5
      refine serveNext_moves hm.up ?_
      assumption

theorem execRefReady_moves {m} {a s : State} {x1} (hm : Sub 0x428000000000000000000002000 m) (h : Moves m a s) : Ends m a (execRefReady x1 s) := by
  unfold execRefReady
  refine live_moves ?_ ?_
  · assumption
  · intro s1 h2
    refine State.onIf_moves ?_ ?_
    · assumption
    · intro s3 h4
      extract_lets +onlyGivenNames s5
      have h6 : Moves m a s5 := by
        unfold s5
        refine State.put_moves (Can.of hm) ?_
        assumption
      clear_value s5
      refine State.onIf_moves ?_ ?_
      · assumption
      · intro s7 h8
        refine calRequest_moves hm.up ?_
        assumption

theorem execIdleScanVisit_moves {m} {a s : State} {x1} (hm : Sub 0x10000000000000000000002000 m) (h : Moves m a s) : Ends m a (execIdleScanVisit x1 s) := by
  unfold execIdleScanVisit
  refine live_moves ?_ ?_
  · assumption
  · intro s1 h2
    refine State.onIf_moves ?_ ?_
    · assumption
    · intro s3 h4
      split
      · refine cvTurn_moves hm.up ?_
        assumption
      · assumption

theorem execCmpAssert_moves {m} {a s : State} {x1 x2} (hm : Sub 0x200000000000000000e08000000000000000000000000000000000000001000000000000000000000000000000000000000000000000000000000000000000000c000000000000000000000000000000000000000000000000000078000000000000000000000000040a408 m) (h : Moves m a s) : Ends m a (execCmpAssert x1 x2 s) := by
  unfold execCmpAssert
  refine live_moves ?_ ?_
  · assumption
  · intro s1 h2
    refine cmpSamples_moves hm.up ?_
    assumption

theorem execCmpDeassert_moves {m} {a s : State} {x1 x2} (hm : Sub 0x200000000000000000e08000000000000000000000000000000000000001000000000000000000000000000000000000000000000000000000000000000000000c000000000000000000000000000000000000000000000000000078000000000000000000000000040a408 m) (h : Moves m a s) : Ends m a (execCmpDeassert x1 x2 s) := by
  unfold execCmpDeassert
  refine live_moves ?_ ?_
  · assumption
  · intro s1 h2
    refine cmpSamples_moves hm.up ?_
    assumption

theorem execOwPeriodic_moves {m} {a s : State} (hm : Sub 0x2000 m) (h : Moves m a s) : Ends m a (execOwPeriodic s) := by
  unfold execOwPeriodic
  refine live_moves ?_ ?_
  · assumption
  · intro s1 h2
    refine State.onIf_moves ?_ ?_
    · assumption
    · intro s3 h4
      refine State.forL_moves ?_ ?_
      · assumption
      · intro v5 s6 h7
        refine State.onIf_moves ?_ ?_
        · assumption
        · intro s8 h9
          refine owStart_moves hm.up ?_
          assumption

theorem execOwDwellEnd_moves {m} {a s : State} {x1} (hm : Sub 0x200000000000000000e0800000000000000000000000000000000000000100000000000000000000000000000000000000000000000000000000000000000000000000000000000000000000000000000000000000000000000000000000010000000000000000000402408 m) (h : Moves m a s) : Ends m a (execOwDwellEnd x1 s) := by
  unfold execOwDwellEnd
  refine live_moves ?_ ?_
  · assumption
  · intro s1 h2
    refine owDue_moves hm.up ?_
    assumption

/-! ### Pif -/

theorem State.modPif_moves {m} {a s : State} {x1 x2} (hm : Sub 0x4000 m) (h : Moves m a s) : Moves m a (State.modPif s x1 x2) := by
  unfold State.modPif
  refine Moves.pos (s := s) hm.up ?_
  assumption

theorem pifEv_moves {m} {a s : State} {x1 x2 x3} (hm : Sub 0x200000000000000000e0800000000000000000000000000000000000000100000000000000000000000000000000000000000000000000000000000000000000000000000000000000000000000000000000000000000000000000000000000000000000000000000400408 m) (h : Moves m a s) : Moves m a (pifEv s x1 x2 x3) := by
  unfold pifEv
  refine State.logEv_moves hm.up ?_
  assumption

theorem pifIrq_moves {m} {a s : State} {x1 x2} (hm : Sub 0x20000000000000000000000000000000000000000000000000000000000000000000000000000000000000000000000000000000000000000000000000000000000000000000000000000000078000000000000000000000000000000000000000000000000000000000000 m) (h : Moves m a s) : Moves m a (pifIrq s x1 x2) := by
  unfold pifIrq
  extract_lets +onlyGivenNames v1
  have h2 : Can m v1 := by
    unfold v1
    split
    · exact (Can.of hm)
    · exact (Can.of hm)
    · exact (Can.of hm)
    · exact (Can.of hm)
  clear_value v1
  refine State.onIf_moves ?_ ?_
  · refine State.put_moves (by assumption) ?_
    assumption
  · intro s3 h4
    refine State.irq_moves hm.up ?_
    assumption

theorem modSrc_moves {m} {a s : State} {x1 x2 x3} (hm : Sub 0x4000 m) (h : Moves m a s) : Moves m a (modSrc s x1 x2 x3) := by
  unfold modSrc
  refine State.modPif_moves hm.up ?_
  assumption

theorem pifSync_moves {m} {a s : State} {x1} (hm : Sub 0x60a00000000000000000000000000000000000000000000000 m) (h : Moves m a s) : Moves m a (pifSync s x1) := by
  unfold pifSync
  extract_lets +onlyGivenNames v1
  clear_value v1
  refine Moves.ite (fun _ => ?_) (fun _ => ?_)
  · assumption
  · extract_lets +onlyGivenNames v2
    clear_value v2
    extract_lets +onlyGivenNames s3
    have h4 : Moves m a s3 := by
      unfold s3
      refine State.putB_moves hm.up (Can.of hm) ?_
      refine State.putB_moves hm.up (Can.of hm) ?_
      assumption
    clear_value s3
    extract_lets +onlyGivenNames s5
    have h6 : Moves m a s5 := by
      unfold s5
      refine State.putS_moves hm.up (Can.of hm) ?_
      assumption
    clear_value s5
    split
    · refine State.put_moves (Can.of hm) ?_
      assumption
    · refine State.put_moves (Can.of hm) ?_
      assumption
    · refine State.put_moves (Can.of hm) ?_
      assumption
    · assumption
    · refine State.put_moves (Can.of hm) ?_
      assumption

theorem posLostCheck_moves {m} {a s : State} {x1} (hm : Sub 0x200000000000000000e0800000000000000000000000000000000000000100000000000000000000000000000000000000000000000000000000000000000000000000000000000000000000000000000000008000000000000000000000000000000000000000000400c08 m) (h : Moves m a s) : Moves m a (posLostCheck s x1) := by
  unfold posLostCheck
  extract_lets +onlyGivenNames v1
  clear_value v1
  refine Moves.ite (fun _ => ?_) (fun _ => ?_)
  · refine State.raise_moves hm.up ?_
    refine pifEv_moves hm.up ?_
    refine State.put_moves (Can.of hm) ?_
    assumption
  · assumption

theorem deliverPos_moves {m} {a s : State} {x1 x2} (hm : Sub 0x100000 m) (h : Moves m a s) : Moves m a (deliverPos s x1 x2) := by
  unfold deliverPos
  refine Moves.ite (fun _ => ?_) (fun _ => ?_)
  · assumption
  · refine Moves.chuck (s := s) hm.up ?_
    assumption

theorem deliverFurther_moves {m} {a s : State} {x1 x2} (hm : Sub 0x100000 m) (h : Moves m a s) : Moves m a (deliverFurther s x1 x2) := by
  unfold deliverFurther
  refine Moves.ite (fun _ => ?_) (fun _ => ?_)
  · assumption
  · refine Moves.chuck (s := s) hm.up ?_
    assumption

theorem deliverRec_moves {m} {a s : State} {x1 x2} (hm : Sub 0x100000 m) (h : Moves m a s) : Moves m a (deliverRec s x1 x2) := by
  unfold deliverRec
  refine Moves.ite (fun _ => ?_) (fun _ => ?_)
  · refine deliverPos_moves hm.up ?_
    refine deliverPos_moves hm.up ?_
    assumption
  · refine Moves.ite (fun _ => ?_) (fun _ => ?_)
    · refine deliverFurther_moves hm.up ?_
      refine deliverFurther_moves hm.up ?_
      assumption
    · refine deliverPos_moves hm.up ?_
      assumption

theorem latchRecord_moves {m} {a s : State} {x1} (hm : Sub 0x200000000000000000e080000000000000000000000000000000000000010000000000000000000000000000000000000000000000000000000000000000000000000000000000000000000007800000000007fa00000000000000000000000000000000000000000504c08 m) (h : Moves m a s) : Moves m a (latchRecord s x1) := by
  unfold latchRecord
  extract_lets +onlyGivenNames s1
  have h2 : Moves m a s1 := by
    unfold s1
    refine State.onIf_moves ?_ ?_
    · assumption
    · intro s3 h4
      refine pifIrq_moves hm.up ?_
      refine pifEv_moves hm.up ?_
      refine State.put_moves (Can.of hm) ?_
      assumption
  clear_value s1
  extract_lets +onlyGivenNames s5
  have h6 : Moves m a s5 := by
    unfold s5
    refine State.onIf_moves ?_ ?_
    · assumption
    · intro s7 h8
      refine State.put_moves (Can.of hm) ?_
      assumption
  clear_value s5
  extract_lets +onlyGivenNames s9
  have h10 : Moves m a s9 := by
    unfold s9
    refine posLostCheck_moves hm.up ?_
    assumption
  clear_value s9
  extract_lets +onlyGivenNames s11
  have h12 : Moves m a s11 := by
    unfold s11
    refine pifSync_moves hm.up ?_
    assumption
  clear_value s11
  extract_lets +onlyGivenNames v13
  clear_value v13
  extract_lets +onlyGivenNames s14
  have h15 : Moves m a s14 := by
    unfold s14
    refine State.put64_moves hm.up (Can.of hm) (Can.of hm) ?_
    refine State.put_moves (Can.of hm) ?_
    assumption
  clear_value s14
  extract_lets +onlyGivenNames s16
  have h17 : Moves m a s16 := by
    unfold s16
    refine State.modPif_moves hm.up ?_
    assumption
  clear_value s16
  refine deliverRec_moves hm.up ?_
  assumption

theorem relatch_moves {m} {a s : State} {x1 x2} (hm : Sub 0x200000000000000000e080000000000000000000000000000000000000010000000000000000000000000000000000000000000000000000000000000000000000000000000000000000000007800000000007fa00000000000000000000000000000000000000000504c08 m) (h : Moves m a s) : Moves m a (relatch s x1 x2) := by
  unfold relatch
  split
  · refine Moves.ite (fun _ => ?_) (fun _ => ?_)
    · extract_lets +onlyGivenNames s5
      have h6 : Moves m a s5 := by
        unfold s5
        refine Moves.chuck (s := s) hm.up ?_
        assumption
      clear_value s5
      refine latchRecord_moves hm.up ?_
      refine State.modPif_moves hm.up ?_
      assumption
    · assumption
  · assumption

theorem sampleTrig_moves {m} {a s : State} {x1 x2 x3} (hm : Sub 0x200000000000000000e08000000000000000000000000000000000000001000000000000000000000000000000000000000000000000000000000000000000000000000000000000000000000000000000000000000000000003700006003b0000000000000000000402c08 m) (h : Moves m a s) : Moves m a (sampleTrig s x1 x2 x3) := by
  unfold sampleTrig
  refine State.onIf_moves ?_ ?_
  · assumption
  · intro s1 h2
    refine seqFire_moves hm.up ?_
    assumption

theorem srcEdge_moves {m} {a s : State} {x1 x2 x3 x4 x5 x6} (hm : Sub 0x200000000000000000e080000000000000000000000000000000000000010000000000000000000000000000000000000000000000000000000000000000000000000000000000000000000007800000000007fa000000000003700006003b0000000000000000000506c08 m) (h : Moves m a s) : Moves m a (srcEdge s x1 x2 x3 x4 x5 x6) := by
  unfold srcEdge
  extract_lets +onlyGivenNames v1
  clear_value v1
  extract_lets +onlyGivenNames v2
  clear_value v2
  extract_lets +onlyGivenNames v3
  clear_value v3
  extract_lets +onlyGivenNames s4
  have h5 : Moves m a s4 := by
    unfold s4
    refine modSrc_moves hm.up ?_
    assumption
  clear_value s4
  extract_lets +onlyGivenNames s6
  have h7 : Moves m a s6 := by
    unfold s6
    refine State.onIf_moves ?_ ?_
    · assumption
    · intro s8 h9
      refine pifIrq_moves hm.up ?_
      assumption
  clear_value s6
  refine sampleTrig_moves hm.up ?_
  refine relatch_moves hm.up ?_
  refine pifSync_moves hm.up ?_
  assumption

theorem encFault_moves {m} {a s : State} {x1 x2 x3} (hm : Sub 0x200000000000000000e080000000000000000000000000000000000000010000000000000000000000000000000000000000000000000000000000000000000000000000000000000000000007800000000037fa00000000000000000000000000000000000000000504c08 m) (cx3 : Can m x3) (h : Moves m a s) : Moves m a (encFault s x1 x2 x3) := by
  unfold encFault
  extract_lets +onlyGivenNames v1
  clear_value v1
  extract_lets +onlyGivenNames s2
  have h3 : Moves m a s2 := by
    unfold s2
    refine State.put_moves ?_ ?_
    · refine Can.ite ?_ ?_
      · exact (Can.of hm)
      · exact (Can.of hm)
    · refine State.put_moves (by assumption) ?_
      assumption
  clear_value s2
  extract_lets +onlyGivenNames s4
  have h5 : Moves m a s4 := by
    unfold s4
    refine State.raise_moves hm.up ?_
    refine pifEv_moves hm.up ?_
    assumption
  clear_value s4
  refine relatch_moves hm.up ?_
  refine posLostCheck_moves hm.up ?_
  refine pifIrq_moves hm.up ?_
  assumption

theorem lineReject_moves {m} {a s : State} {x1} (hm : Sub 0x200000000000000000e0800000000000000000000000000000000000000100000000000000000000000000000000000000000000000000000000000000000000000000000000000000000000000000000000000028000000000000000000000000000000000000000404c08 m) (h : Moves m a s) : Moves m a (lineReject s x1) := by
  unfold lineReject
  extract_lets +onlyGivenNames s1
  have h2 : Moves m a s1 := by
    unfold s1
    refine State.modPif_moves hm.up ?_
    refine State.incSat_moves hm.up (Can.of hm) ?_
    assumption
  clear_value s1
  refine State.onIf_moves ?_ ?_
  · assumption
  · intro s3 h4
    refine State.raise_moves hm.up ?_
    refine pifEv_moves hm.up ?_
    refine State.modPif_moves hm.up ?_
    refine State.put_moves (Can.of hm) ?_
    assumption

theorem lineEdge_moves {m} {a s : State} {x1 x2 x3} (hm : Sub 0x200000000000000000e0800000000000000000000000000000000000000100000000000000000000000000000000000000000000000000000000000000000000000000000000000000000000000000000000000028000000000000000000000000000000000000000404c08 m) (h : Moves m a s) : Moves m a (lineEdge s x1 x2 x3).1 := by
  unfold lineEdge
  extract_lets +onlyGivenNames v1
  split
  · dsimp -zeta only
    assumption
  · extract_lets +onlyGivenNames v4
    extract_lets +onlyGivenNames s5
    have h6 : Moves m a s5 := by
      unfold s5
      refine State.modPif_moves hm.up ?_
      assumption
    extract_lets +onlyGivenNames v7
    split
    · dsimp -zeta only
      refine lineReject_moves hm.up ?_
      refine State.modPif_moves hm.up ?_
      assumption
    · split
      · dsimp -zeta only
        refine lineReject_moves hm.up ?_
        assumption
      · split
        · dsimp -zeta only
          assumption
        · dsimp -zeta only
          refine State.modPif_moves hm.up ?_
          assumption

theorem lineFollow_moves {m} {a s : State} {x1 x2 x3} (hm : Sub 0x4000 m) (h : Moves m a s) : Moves m a (lineFollow s x1 x2 x3) := by
  unfold lineFollow
  refine State.modPif_moves hm.up ?_
  assumption

theorem lineDelayed_moves {m} {a s : State} {x1 x2} (hm : Sub 0x4000 m) (h : Moves m a s) : Moves m a (lineDelayed s x1 x2).1 := by
  unfold lineDelayed
  extract_lets +onlyGivenNames v1
  clear_value v1
  extract_lets +onlyGivenNames v2
  clear_value v2
  split
  · dsimp -zeta only
    assumption
  · dsimp -zeta only
    refine State.modPif_moves hm.up ?_
    assumption

theorem encoStep_moves {m} {a s : State} (hm : Sub 0x200000000000000000e0800000000000000000000000000000000000000100000000000000000000000000000000000000000000000000000000000000000000000000000000000000000000800000000000000000000000000000000000000000000000000000000404408 m) (h : Moves m a s) : Moves m a (encoStep s) := by
  unfold encoStep
  extract_lets +onlyGivenNames v1
  clear_value v1
  refine Moves.ite (fun _ => ?_) (fun _ => ?_)
  · assumption
  · refine Moves.ite (fun _ => ?_) (fun _ => ?_)
    · refine State.logRate_moves hm.up ?_
      refine State.put_moves (Can.of hm) ?_
      assumption
    · extract_lets +onlyGivenNames v2
      clear_value v2
      extract_lets +onlyGivenNames s3
      clear_value s3
      extract_lets +onlyGivenNames s4
      have h5 : Moves m a s4 := by
        unfold s4
        refine Moves.pos (s := s) hm.up ?_
        assumption
      clear_value s4
      refine State.onIf_moves ?_ ?_
      · assumption
      · intro s6 h7
        refine State.logRate_moves hm.up ?_
        refine State.put_moves (Can.of hm) ?_
        assumption

theorem encoFollow_moves {m} {a s : State} {x1} (hm : Sub 0x200000000000000000e0800000000000000000000000000000000000000100000000000000000000000000000000000000000000000000000000000000000000000000000000000000000000800000000000000000000000000000000000000000000000000000000404408 m) (h : Moves m a s) : Moves m a (encoFollow s x1) := by
  unfold encoFollow
  refine Moves.ite (fun _ => ?_) (fun _ => ?_)
  · refine encoStep_moves hm.up ?_
    refine Moves.pos (s := s) hm.up ?_
    assumption
  · assumption

theorem abzStep_moves {m} {a s : State} {x1 x2} (hm : Sub 0x200000000000000000e080000000000000000000000000000000000000010000000000000000000000000000000000000000000000000000000000000000000000000000000000000000000087800000000007fe000000000003700006003b0000000000000000000506c08 m) (h : Moves m a s) : Moves m a (abzStep s x1 x2) := by
  unfold abzStep
  extract_lets +onlyGivenNames v1
  clear_value v1
  extract_lets +onlyGivenNames v2
  clear_value v2
  extract_lets +onlyGivenNames v3
  clear_value v3
  extract_lets +onlyGivenNames v4
  clear_value v4
  extract_lets +onlyGivenNames v5
  clear_value v5
  extract_lets +onlyGivenNames v6
  clear_value v6
  extract_lets +onlyGivenNames s7
  have h8 : Moves m a s7 := by
    unfold s7
    refine State.modPif_moves hm.up ?_
    assumption
  clear_value s7
  extract_lets +onlyGivenNames s9
  have h10 : Moves m a s9 := by
    unfold s9
    refine State.put_moves (Can.of hm) ?_
    assumption
  clear_value s9
  refine encoFollow_moves hm.up ?_
  refine srcEdge_moves hm.up ?_
  assumption

theorem abzSet_moves {m} {a s : State} {x1 x2 x3} (hm : Sub 0x60e00000000000000000000000000000000000000000004000 m) (h : Moves m a s) : Moves m a (abzSet s x1 x2 x3) := by
  unfold abzSet
  refine pifSync_moves hm.up ?_
  refine State.put_moves (Can.of hm) ?_
  refine State.modPif_moves hm.up ?_
  assumption

theorem abzBack_moves {m} {a s : State} {x1 x2} (hm : Sub 0x200000000000000000e080000000000000000000000000000000000000010000000000000000000000000000000000000000000000000000000000000000000000000000000000000000000087800000000007fe04000000000000000000000000000000000000000504c08 m) (h : Moves m a s) : Moves m a (abzBack s x1 x2) := by
  unfold abzBack
  extract_lets +onlyGivenNames s1
  have h2 : Moves m a s1 := by
    unfold s1
    refine State.modPif_moves hm.up ?_
    assumption
  clear_value s1
  refine encoFollow_moves hm.up ?_
  refine relatch_moves hm.up ?_
  refine pifSync_moves hm.up ?_
  refine State.incSat_moves hm.up (Can.of hm) ?_
  refine State.put_moves (Can.of hm) ?_
  assumption

theorem abzLine_moves {m} {a s : State} {x1 x2 x3} (hm : Sub 0x200000000000000000e080000000000000000000000000000000000000010000000000000000000000000000000000000000000000000000000000000000000000000000000000000000000087800000000007fe040000000003700006003b0000000000000000000506c08 m) (h : Moves m a s) : Moves m a (abzLine s x1 x2 x3) := by
  unfold abzLine
  split
  · refine abzBack_moves hm.up ?_
    assumption
  · extract_lets +onlyGivenNames v6
    clear_value v6
    extract_lets +onlyGivenNames s7
    have h8 : Moves m a s7 := by
      unfold s7
      refine State.modPif_moves hm.up ?_
      assumption
    clear_value s7
    extract_lets +onlyGivenNames s9
    have h10 : Moves m a s9 := by
      unfold s9
      refine abzStep_moves hm.up ?_
      assumption
    clear_value s9
    split
    · refine Moves.ite (fun _ => ?_) (fun _ => ?_)
      · refine abzSet_moves hm.up ?_
        assumption
      · assumption
    · assumption

theorem abzEdges_moves {m} {a s : State} {x1 x2 x3 x4 x5 x6} (hm : Sub 0x200000000000000000e080000000000000000000000000000000000000010000000000000000000000000000000000000000000000000000000000000000000000000000000000000000000087800000000007fe040000000003700006003b0000000000000000000506c08 m) (h : Moves m a s) : Moves m a (abzEdges s x1 x2 x3 x4 x5 x6) := by
  unfold abzEdges
  extract_lets +onlyGivenNames v1
  clear_value v1
  extract_lets +onlyGivenNames v2
  clear_value v2
  extract_lets +onlyGivenNames v3
  clear_value v3
  extract_lets +onlyGivenNames s4
  have h5 : Moves m a s4 := by
    unfold s4
    refine Moves.ite (fun _ => ?_) (fun _ => ?_)
    · refine State.incSat_moves hm.up (Can.of hm) ?_
      assumption
    · refine Moves.ite (fun _ => ?_) (fun _ => ?_)
      · refine abzLine_moves hm.up ?_
        assumption
      · assumption
  clear_value s4
  extract_lets +onlyGivenNames v6
  clear_value v6
  extract_lets +onlyGivenNames v7
  clear_value v7
  refine State.onIf_moves ?_ ?_
  · assumption
  · intro s8 h9
    refine State.modPif_moves hm.up ?_
    assumption

theorem indexProc_moves {m} {a s : State} {x1} (hm : Sub 0x200000000000000000e080000000000000000000000000000000000000010000000000000000000000000000000000000000000000000000000000000000000000000000000000000000000007800000004037fe038000000003700006003b0000000000000000000506c08 m) (h : Moves m a s) : Moves m a (indexProc s x1) := by
  unfold indexProc
  extract_lets +onlyGivenNames v1
  clear_value v1
  extract_lets +onlyGivenNames v2
  clear_value v2
  extract_lets +onlyGivenNames v3
  clear_value v3
  extract_lets +onlyGivenNames v4
  clear_value v4
  extract_lets +onlyGivenNames v5
  clear_value v5
  extract_lets +onlyGivenNames v6
  clear_value v6
  extract_lets +onlyGivenNames v7
  clear_value v7
  extract_lets +onlyGivenNames v8
  clear_value v8
  extract_lets +onlyGivenNames s9
  have h10 : Moves m a s9 := by
    unfold s9
    refine Moves.ite (fun _ => ?_) (fun _ => ?_)
    · refine pifEv_moves hm.up ?_
      refine State.modPif_moves hm.up ?_
      refine State.put_moves (Can.of hm) ?_
      refine abzSet_moves hm.up ?_
      assumption
    · refine Moves.ite (fun _ => ?_) (fun _ => ?_)
      · refine State.onIf_moves ?_ ?_
        · refine State.onIf_moves ?_ ?_
          · assumption
          · intro s11 h12
            refine abzSet_moves hm.up ?_
            assumption
        · intro s13 h14
          refine State.logRate_moves hm.up ?_
          assumption
      · refine Moves.ite (fun _ => ?_) (fun _ => ?_)
        · refine pifEv_moves hm.up ?_
          refine State.incSat_moves hm.up (Can.of hm) ?_
          assumption
        · refine encFault_moves hm.up (Can.of hm) ?_
          assumption
  clear_value s9
  extract_lets +onlyGivenNames s15
  have h16 : Moves m a s15 := by
    unfold s15
    refine State.putS_moves hm.up (Can.of hm) ?_
    assumption
  clear_value s15
  extract_lets +onlyGivenNames s17
  have h18 : Moves m a s17 := by
    unfold s17
    refine State.modPif_moves hm.up ?_
    assumption
  clear_value s17
  refine State.onIf_moves ?_ ?_
  · refine pifIrq_moves hm.up ?_
    assumption
  · intro s19 h20
    refine seqFire_moves hm.up ?_
    assumption

theorem posHome_moves {m} {a s : State} {x1} (hm : Sub 0x4000 m) (h : Moves m a s) : Moves m a (posHome s x1) := by
  unfold posHome
  refine State.modPif_moves hm.up ?_
  assumption

theorem posSet_moves {m} {a s : State} {x1 x2 x3} (hm : Sub 0x60e00800000000000000000000000000000000000000004000 m) (h : Moves m a s) : Moves m a (posSet s x1 x2 x3) := by
  unfold posSet
  extract_lets +onlyGivenNames v1
  clear_value v1
  refine State.modPif_moves hm.up ?_
  refine State.put_moves (Can.of hm) ?_
  refine abzSet_moves hm.up ?_
  assumption

theorem hallStep_moves {m} {a s : State} {x1} (hm : Sub 0x200000000000000000e080000000000000000000000000000000000000010000000000000000000000000000000000000000000000000000000000000000000000000000000000000000000087800000001037fa000000000003700006003b0000000000000000000506c08 m) (h : Moves m a s) : Moves m a (hallStep s x1) := by
  unfold hallStep
  extract_lets +onlyGivenNames v1
  clear_value v1
  extract_lets +onlyGivenNames v2
  clear_value v2
  refine Moves.ite (fun _ => ?_) (fun _ => ?_)
  · assumption
  · extract_lets +onlyGivenNames v3
    clear_value v3
    extract_lets +onlyGivenNames s4
    have h5 : Moves m a s4 := by
      unfold s4
      refine State.modPif_moves hm.up ?_
      assumption
    clear_value s4
    split
    · refine State.modPif_moves hm.up ?_
      assumption
    · refine Moves.ite (fun _ => ?_) (fun _ => ?_)
      · assumption
      · extract_lets +onlyGivenNames s11
        have h12 : Moves m a s11 := by
          unfold s11
          refine State.modPif_moves hm.up ?_
          assumption
        clear_value s11
        extract_lets +onlyGivenNames v13
        clear_value v13
        refine Moves.ite (fun _ => ?_) (fun _ => ?_)
        · extract_lets +onlyGivenNames s14
          have h15 : Moves m a s14 := by
            unfold s14
            refine modSrc_moves hm.up ?_
            assumption
          clear_value s14
          refine encoFollow_moves hm.up ?_
          refine srcEdge_moves hm.up ?_
          assumption
        · refine Moves.ite (fun _ => ?_) (fun _ => ?_)
          · extract_lets +onlyGivenNames v16
            clear_value v16
            extract_lets +onlyGivenNames s17
            have h18 : Moves m a s17 := by
              unfold s17
              refine modSrc_moves hm.up ?_
              assumption
            clear_value s17
            refine encoFollow_moves hm.up ?_
            refine srcEdge_moves hm.up ?_
            assumption
          · extract_lets +onlyGivenNames s19
            have h20 : Moves m a s19 := by
              unfold s19
              refine State.put_moves (Can.of hm) ?_
              refine modSrc_moves hm.up ?_
              assumption
            clear_value s19
            refine State.onIf_moves ?_ ?_
            · assumption
            · intro s21 h22
              refine encFault_moves hm.up (Can.of hm) ?_
              assumption

theorem sampleIn_moves {m} {a s : State} {x1 x2 x3 x4 x5} (hm : Sub 0x200000000000000000e080000000000000000000000000000000000000010000000000000000000000000000000000000000000000000000000000000000000000000000000000000000000087800000000007fa000000000003700006003b0000000000000000000506c08 m) (h : Moves m a s) : Moves m a (sampleIn s x1 x2 x3 x4 x5) := by
  unfold sampleIn
  extract_lets +onlyGivenNames v1
  clear_value v1
  refine Moves.ite (fun _ => ?_) (fun _ => ?_)
  · extract_lets +onlyGivenNames s2
    have h3 : Moves m a s2 := by
      unfold s2
      refine modSrc_moves hm.up ?_
      assumption
    clear_value s2
    refine sampleTrig_moves hm.up ?_
    refine encoFollow_moves hm.up ?_
    refine relatch_moves hm.up ?_
    refine pifSync_moves hm.up ?_
    assumption
  · extract_lets +onlyGivenNames v4
    clear_value v4
    extract_lets +onlyGivenNames v5
    clear_value v5
    extract_lets +onlyGivenNames v6
    clear_value v6
    extract_lets +onlyGivenNames v7
    clear_value v7
    extract_lets +onlyGivenNames s8
    have h9 : Moves m a s8 := by
      unfold s8
      refine modSrc_moves hm.up ?_
      assumption
    clear_value s8
    refine Moves.ite (fun _ => ?_) (fun _ => ?_)
    · refine encoFollow_moves hm.up ?_
      refine srcEdge_moves hm.up ?_
      assumption
    · refine sampleTrig_moves hm.up ?_
      refine encoFollow_moves hm.up ?_
      refine relatch_moves hm.up ?_
      refine pifSync_moves hm.up ?_
      assumption

theorem serBad_moves {m} {a s : State} {x1 x2} (hm : Sub 0x200000000000000000e080000000000000000000000000000000000000010000000000000000000000000000000000000000000000000000000000000000000000000000000000000000000007810000000137fa00000000000000000000000000000000000000000504c08 m) (h : Moves m a s) : Moves m a (serBad s x1 x2) := by
  unfold serBad
  extract_lets +onlyGivenNames s1
  have h2 : Moves m a s1 := by
    unfold s1
    refine State.modPif_moves hm.up ?_
    refine State.incSat_moves hm.up (Can.of hm) ?_
    assumption
  clear_value s1
  refine State.onIf_moves ?_ ?_
  · assumption
  · intro s3 h4
    refine encFault_moves hm.up (Can.of hm) ?_
    assumption

theorem serGood_moves {m} {a s : State} {x1 x2 x3} (hm : Sub 0x200000000000000000e080000000000000000000000000000000000000010000000000000000000000000000000000000000000000000000000000000000000000000000000000000000000087800000000007fa000000000003700006003b0000000000000000000506c08 m) (h : Moves m a s) : Moves m a (serGood s x1 x2 x3) := by
  unfold serGood
  extract_lets +onlyGivenNames v1
  clear_value v1
  extract_lets +onlyGivenNames v2
  clear_value v2
  extract_lets +onlyGivenNames v3
  clear_value v3
  extract_lets +onlyGivenNames v4
  clear_value v4
  extract_lets +onlyGivenNames s5
  have h6 : Moves m a s5 := by
    unfold s5
    refine State.modPif_moves hm.up ?_
    assumption
  clear_value s5
  refine sampleIn_moves hm.up ?_
  assumption

theorem serRun_moves {m} {a s : State} {x1} (hm : Sub 0x4000 m) (h : Moves m a s) : Moves m a (serRun s x1) := by
  unfold serRun
  refine State.modPif_moves hm.up ?_
  assumption

theorem sloSeen_moves {m} {a s : State} {x1 x2} (hm : Sub 0x4000 m) (h : Moves m a s) : Moves m a (sloSeen s x1 x2) := by
  unfold sloSeen
  refine Moves.ite (fun _ => ?_) (fun _ => ?_)
  · assumption
  · refine Moves.ite (fun _ => ?_) (fun _ => ?_)
    · refine serRun_moves hm.up ?_
      assumption
    · refine State.onIf_moves ?_ ?_
      · assumption
      · intro s1 h2
        refine State.modPif_moves hm.up ?_
        assumption

theorem serStart_moves {m} {a s : State} {x1 x2} (hm : Sub 0x200000000000000000e080000000000000000000000000000000000000010000000000000000000000000000000000000000000000000000000000000000000000000000000000000000000007818000000137fa00000000000000000000000000000000000000000504c08 m) (h : Moves m a s) : Moves m a (serStart s x1 x2) := by
  unfold serStart
  split
  · assumption
  · refine Moves.ite (fun _ => ?_) (fun _ => ?_)
    · assumption
    · extract_lets +onlyGivenNames s6
      have h7 : Moves m a s6 := by
        unfold s6
        refine State.modPif_moves hm.up ?_
        assumption
      clear_value s6
      extract_lets +onlyGivenNames v8
      clear_value v8
      extract_lets +onlyGivenNames v9
      clear_value v9
      refine Moves.ite (fun _ => ?_) (fun _ => ?_)
      · refine State.incSat_moves hm.up (Can.of hm) ?_
        assumption
      · refine Moves.ite (fun _ => ?_) (fun _ => ?_)
        · refine serRun_moves hm.up ?_
          assumption
        · refine Moves.ite (fun _ => ?_) (fun _ => ?_)
          · refine serBad_moves hm.up ?_
            assumption
          · refine State.modPif_moves hm.up ?_
            assumption

theorem serPlan_moves {m} {a s : State} {x1 x2} (hm : Sub 0x4000 m) (h : Moves m a s) : Moves m a (serPlan s x1 x2) := by
  unfold serPlan
  refine State.modPif_moves hm.up ?_
  assumption

theorem serReload_moves {m} {a s : State} {x1 x2 x3} (hm : Sub 0x4000 m) (h : Moves m a s) : Moves m a (serReload s x1 x2 x3) := by
  unfold serReload
  refine State.forL_moves ?_ ?_
  · assumption
  · intro v1 s2 h3
    extract_lets +onlyGivenNames v4
    clear_value v4
    refine State.onIf_moves ?_ ?_
    · assumption
    · intro s5 h6
      refine serPlan_moves hm.up ?_
      assumption

theorem serArm_moves {m} {a s : State} {x1 x2} (hm : Sub 0x4000 m) (h : Moves m a s) : Moves m a (serArm s x1 x2) := by
  unfold serArm
  refine State.forL_moves ?_ ?_
  · assumption
  · intro v1 s2 h3
    extract_lets +onlyGivenNames v4
    clear_value v4
    refine State.onIf_moves ?_ ?_
    · assumption
    · intro s5 h6
      refine serPlan_moves hm.up ?_
      assumption

theorem serCot_moves {m} {a s : State} {x1 x2} (hm : Sub 0x4000 m) (h : Moves m a s) : Moves m a (serCot s x1 x2) := by
  unfold serCot
  refine State.forL_moves ?_ ?_
  · assumption
  · intro v1 s2 h3
    refine State.onIf_moves ?_ ?_
    · assumption
    · intro s4 h5
      refine serPlan_moves hm.up ?_
      assumption

theorem serTimer_moves {m} {a s : State} {x1} (hm : Sub 0x4000 m) (h : Moves m a s) : Moves m a (serTimer s x1) := by
  unfold serTimer
  refine State.forL_moves ?_ ?_
  · assumption
  · intro v1 s2 h3
    refine State.onIf_moves ?_ ?_
    · assumption
    · intro s4 h5
      refine serPlan_moves hm.up ?_
      assumption

theorem serEnd_moves {m} {a s : State} {x1 x2 x3} (hm : Sub 0x200000000000000000e08000000000000000000000000000000000000001000000000000000000000000000000000000000000000000000000000000000000000000000000000000000000008783000000013ffa000000000003700006003b0000000000000000000506c08 m) (h : Moves m a s) : Moves m a (serEnd s x1 x2 x3) := by
  unfold serEnd
  refine Moves.ite (fun _ => ?_) (fun _ => ?_)
  · assumption
  · extract_lets +onlyGivenNames v1
    clear_value v1
    extract_lets +onlyGivenNames v2
    clear_value v2
    refine Moves.ite (fun _ => ?_) (fun _ => ?_)
    · extract_lets +onlyGivenNames s3
      have h4 : Moves m a s3 := by
        unfold s3
        refine State.put_moves (Can.of hm) ?_
        assumption
      clear_value s3
      extract_lets +onlyGivenNames v5
      clear_value v5
      extract_lets +onlyGivenNames v6
      clear_value v6
      extract_lets +onlyGivenNames v7
      clear_value v7
      refine Moves.ite (fun _ => ?_) (fun _ => ?_)
      · refine serGood_moves hm.up ?_
        refine State.onIf_moves ?_ ?_
        · assumption
        · intro s8 h9
          refine State.put_moves (Can.of hm) ?_
          assumption
      · refine serBad_moves hm.up ?_
        assumption
    · extract_lets +onlyGivenNames v10
      clear_value v10
      extract_lets +onlyGivenNames v11
      clear_value v11
      extract_lets +onlyGivenNames v12
      clear_value v12
      extract_lets +onlyGivenNames v13
      clear_value v13
      refine Moves.ite (fun _ => ?_) (fun _ => ?_)
      · refine serGood_moves hm.up ?_
        assumption
      · refine serBad_moves hm.up ?_
        assumption

theorem freezeCheck_moves {m} {a s : State} {x1 x2} (hm : Sub 0x200000000000000000e0800000000000000000000000000000000000000100000000000000000000000000000000000000000000000000000000000000000000000000000000000000000000078000000000f7fa00000000000000000000000000000000000000000504c08 m) (h : Moves m a s) : Moves m a (freezeCheck s x1 x2) := by
  unfold freezeCheck
  extract_lets +onlyGivenNames v1
  clear_value v1
  extract_lets +onlyGivenNames v2
  clear_value v2
  refine Moves.ite (fun _ => ?_) (fun _ => ?_)
  · assumption
  · extract_lets +onlyGivenNames v3
    clear_value v3
    extract_lets +onlyGivenNames v4
    clear_value v4
    extract_lets +onlyGivenNames v5
    clear_value v5
    extract_lets +onlyGivenNames v6
    clear_value v6
    extract_lets +onlyGivenNames v7
    clear_value v7
    extract_lets +onlyGivenNames v8
    clear_value v8
    extract_lets +onlyGivenNames v9
    clear_value v9
    extract_lets +onlyGivenNames s10
    have h11 : Moves m a s10 := by
      unfold s10
      refine modSrc_moves hm.up ?_
      assumption
    clear_value s10
    refine State.onIf_moves ?_ ?_
    · assumption
    · intro s12 h13
      refine encFault_moves hm.up ?_ ?_
      · refine Can.ite ?_ ?_
        · exact (Can.of hm)
        · exact (Can.of hm)
      · refine pifEv_moves hm.up ?_
        assumption

theorem latchRestore_moves {m} {a s : State} {x1} (hm : Sub 0x200000000000000000e0800000000000000000000000000000000000000100000000000000000000000000000000000000000000000000000000000000000000000000000000000000000000000000000000010000000020000000000000000000000000000000000404408 m) (h : Moves m a s) : Moves m a (latchRestore s x1) := by
  unfold latchRestore
  refine Moves.ite (fun _ => ?_) (fun _ => ?_)
  · assumption
  · extract_lets +onlyGivenNames s1
    have h2 : Moves m a s1 := by
      unfold s1
      refine State.put_moves (Can.of hm) ?_
      refine State.modPif_moves hm.up ?_
      assumption
    clear_value s1
    refine Moves.ite (fun _ => ?_) (fun _ => ?_)
    · refine State.onIf_moves ?_ ?_
      · assumption
      · intro s3 h4
        refine pifEv_moves hm.up ?_
        refine State.put_moves (Can.of hm) ?_
        assumption
    · refine pifEv_moves hm.up ?_
      assumption

theorem pifLatch_moves {m} {a s : State} {x1} (hm : Sub 0x200000000000000000e0800000000000000000000000000000000000000100000000000000000000000000000000000000000000000000000000000000000000000000000000000000000000078000000000f7fa00000020000000000000000000000000000000000504c08 m) (h : Moves m a s) : Moves m a (pifLatch s x1) := by
  unfold pifLatch
  refine Moves.ite (fun _ => ?_) (fun _ => ?_)
  · assumption
  · refine latchRecord_moves hm.up ?_
    refine latchRestore_moves hm.up ?_
    refine freezeCheck_moves hm.up ?_
    refine freezeCheck_moves hm.up ?_
    assumption

theorem timerFire_moves {m} {a s : State} {x1 x2} (hm : Sub 0x200000000000000000e08000000000000000000000000000000000000001000000000000000000000000000000000000000000000000000000000000000000000000000000000000000000000000000000000000000000000003700006003b0000000000000000000406c08 m) (h : Moves m a s) : Moves m a (timerFire s x1 x2) := by
  unfold timerFire
  extract_lets +onlyGivenNames s1
  clear_value s1
  extract_lets +onlyGivenNames s2
  have h3 : Moves m a s2 := by
    unfold s2
    refine Moves.cvb (s := s) hm.up ?_
    assumption
  clear_value s2
  refine serTimer_moves hm.up ?_
  refine seqFire_moves hm.up ?_
  assumption

theorem timerAlign_moves {m} {a s : State} {x1} (hm : Sub 0x200000000000000000e08000000000000000000000000000000000000001000000000000000000000000000000000000000000000000000000000000000000000000000000000000000000000000000000000000000000000003700006003b0000000000000000000406c08 m) (h : Moves m a s) : Moves m a (timerAlign s x1) := by
  unfold timerAlign
  refine State.forL_moves ?_ ?_
  · assumption
  · intro v1 s2 h3
    refine State.onIf_moves ?_ ?_
    · assumption
    · intro s4 h5
      refine timerFire_moves hm.up ?_
      assumption

theorem execEncEdge_moves {m} {a s : State} {x1 x2 x3 x4 x5 x6 x7} (hm : Sub 0x200000000000000000e080000000000000000000000000000000000000010000000000000000000000000000000000000000000000000000000000000000000000000000000000000000000087800000000007fe2c0000000003700006003b0000000000000000000506c08 m) (h : Moves m a s) : Ends m a (execEncEdge x1 x2 x3 x4 x5 x6 x7 s) := by
  unfold execEncEdge
  refine live_moves ?_ ?_
  · assumption
  · intro s1 h2
    extract_lets +onlyGivenNames v3
    clear_value v3
    extract_lets +onlyGivenNames v4
    clear_value v4
    extract_lets +onlyGivenNames v5
    clear_value v5
    extract_lets +onlyGivenNames v6
    clear_value v6
    extract_lets +onlyGivenNames v7
    clear_value v7
    extract_lets +onlyGivenNames s8
    have h9 : Moves m a s8 := by
      unfold s8
      refine State.modPif_moves hm.up ?_
      assumption
    clear_value s8
    refine Moves.ite (fun _ => ?_) (fun _ => ?_)
    · refine sloSeen_moves hm.up ?_
      refine lineFollow_moves hm.up ?_
      refine lineFollow_moves hm.up ?_
      refine lineFollow_moves hm.up ?_
      assumption
    · extract_lets +onlyGivenNames v10
      have h11 : Moves m a v10.1 := by
        unfold v10
        refine lineEdge_moves hm.up ?_
        assumption
      clear_value v10
      extract_lets +onlyGivenNames v12
      have h13 : Moves m a v12.1 := by
        unfold v12
        refine lineEdge_moves hm.up ?_
        assumption
      clear_value v12
      extract_lets +onlyGivenNames v14
      have h15 : Moves m a v14.1 := by
        unfold v14
        refine lineEdge_moves hm.up ?_
        assumption
      clear_value v14
      refine abzEdges_moves hm.up ?_
      assumption

theorem execDelayedEdge_moves {m} {a s : State} {x1 x2} (hm : Sub 0x200000000000000000e080000000000000000000000000000000000000010000000000000000000000000000000000000000000000000000000000000000000000000000000000000000000087800000001037fe040000000003700006003b0000000000000000000506c08 m) (h : Moves m a s) : Ends m a (execDelayedEdge x1 x2 s) := by
  unfold execDelayedEdge
  refine live_moves ?_ ?_
  · assumption
  · intro s1 h2
    extract_lets +onlyGivenNames v3
    clear_value v3
    extract_lets +onlyGivenNames v4
    have h5 : Moves m a v4.1 := by
      unfold v4
      refine lineDelayed_moves hm.up ?_
      assumption
    clear_value v4
    refine Moves.ite (fun _ => ?_) (fun _ => ?_)
    · refine State.onIf_moves ?_ ?_
      · assumption
      · intro s6 h7
        refine abzEdges_moves hm.up ?_
        assumption
    · refine State.onIf_moves ?_ ?_
      · assumption
      · intro s8 h9
        refine hallStep_moves hm.up ?_
        assumption

theorem execNoisyInterval_moves {m} {a s : State} {x1} (hm : Sub 0x4000 m) (h : Moves m a s) : Ends m a (execNoisyInterval x1 s) := by
  unfold execNoisyInterval
  refine live_moves ?_ ?_
  · assumption
  · intro s1 h2
    refine State.modPif_moves hm.up ?_
    assumption

theorem execWireFault_moves {m} {a s : State} {x1 x2} (hm : Sub 0x200000000000000000e080000000000000000000000000000000000000010000000000000000000000000000000000000000000000000000000000000000000000000000000000000000000007800000008037fa10000000000000000000000000000000000000000504c08 m) (h : Moves m a s) : Ends m a (execWireFault x1 x2 s) := by
  unfold execWireFault
  refine live_moves ?_ ?_
  · assumption
  · intro s1 h2
    refine State.onIf_moves ?_ ?_
    · assumption
    · intro s3 h4
      extract_lets +onlyGivenNames s5
      have h6 : Moves m a s5 := by
        unfold s5
        refine State.modPif_moves hm.up ?_
        assumption
      clear_value s5
      refine encFault_moves hm.up (Can.of hm) ?_
      refine pifEv_moves hm.up ?_
      refine State.putBit_moves hm.up (Can.of hm) ?_
      assumption

theorem execIndex_moves {m} {a s : State} {x1} (hm : Sub 0x200000000000000000e080000000000000000000000000000000000000010000000000000000000000000000000000000000000000000000000000000000000000000000000000000000000007800000004037fe038000000003700006003b0000000000000000000506c08 m) (h : Moves m a s) : Ends m a (execIndex x1 s) := by
  unfold execIndex
  refine live_moves ?_ ?_
  · assumption
  · intro s1 h2
    refine State.onIf_moves ?_ ?_
    · assumption
    · intro s3 h4
      refine indexProc_moves hm.up ?_
      assumption

theorem execZMissing_moves {m} {a s : State} {x1} (hm : Sub 0x200000000000000000e080000000000000000000000000000000000000010000000000000000000000000000000000000000000000000000000000000000000000000000000000000000000007800000002037fa00000000000000000000000000000000000000000504c08 m) (h : Moves m a s) : Ends m a (execZMissing x1 s) := by
  unfold execZMissing
  refine live_moves ?_ ?_
  · assumption
  · intro s1 h2
    refine State.onIf_moves ?_ ?_
    · assumption
    · intro s3 h4
      refine encFault_moves hm.up (Can.of hm) ?_
      refine State.modPif_moves hm.up ?_
      assumption

theorem execHallEdge_moves {m} {a s : State} {x1 x2 x3 x4} (hm : Sub 0x200000000000000000e080000000000000000000000000000000000000010000000000000000000000000000000000000000000000000000000000000000000000000000000000000000000087800000001037fa280000000003700006003b0000000000000000000506c08 m) (h : Moves m a s) : Ends m a (execHallEdge x1 x2 x3 x4 s) := by
  unfold execHallEdge
  refine live_moves ?_ ?_
  · assumption
  · intro s1 h2
    refine Moves.ite (fun _ => ?_) (fun _ => ?_)
    · refine lineFollow_moves hm.up ?_
      refine lineFollow_moves hm.up ?_
      refine lineFollow_moves hm.up ?_
      assumption
    · extract_lets +onlyGivenNames v3
      have h4 : Moves m a v3.1 := by
        unfold v3
        refine lineEdge_moves hm.up ?_
        assumption
      clear_value v3
      extract_lets +onlyGivenNames v5
      have h6 : Moves m a v5.1 := by
        unfold v5
        refine lineEdge_moves hm.up ?_
        assumption
      clear_value v5
      extract_lets +onlyGivenNames v7
      have h8 : Moves m a v7.1 := by
        unfold v7
        refine lineEdge_moves hm.up ?_
        assumption
      clear_value v7
      refine State.onIf_moves ?_ ?_
      · assumption
      · intro s9 h10
        refine hallStep_moves hm.up ?_
        assumption

theorem execHallInvalid_moves {m} {a s : State} {x1} (hm : Sub 0x200000000000000000e080000000000000000000000000000000000000010000000000000000000000000000000000000000000000000000000000000000000000000000000000000000000007800000000837fa00000000000000000000000000000000000000000504c08 m) (h : Moves m a s) : Ends m a (execHallInvalid x1 s) := by
  unfold execHallInvalid
  refine live_moves ?_ ?_
  · assumption
  · intro s1 h2
    extract_lets +onlyGivenNames v3
    clear_value v3
    refine State.onIf_moves ?_ ?_
    · assumption
    · intro s4 h5
      refine encFault_moves hm.up (Can.of hm) ?_
      refine State.modPif_moves hm.up ?_
      assumption

theorem execRsvSample_moves {m} {a s : State} {x1 x2 x3 x4} (hm : Sub 0x200000000000000000e080000000000000000000000000000000000000010000000000000000000000000000000000000000000000000000000000000000000000000000000000000000000087800000000637fa000000000003700006003b0000000000000000000506c08 m) (h : Moves m a s) : Ends m a (execRsvSample x1 x2 x3 x4 s) := by
  unfold execRsvSample
  refine live_moves ?_ ?_
  · assumption
  · intro s1 h2
    refine State.onIf_moves ?_ ?_
    · assumption
    · intro s3 h4
      refine Moves.ite (fun _ => ?_) (fun _ => ?_)
      · extract_lets +onlyGivenNames s5
        have h6 : Moves m a s5 := by
          unfold s5
          refine State.modPif_moves hm.up ?_
          refine State.put_moves (Can.of hm) ?_
          assumption
        clear_value s5
        refine State.onIf_moves ?_ ?_
        · assumption
        · intro s7 h8
          refine encFault_moves hm.up (Can.of hm) ?_
          assumption
      · extract_lets +onlyGivenNames v9
        clear_value v9
        extract_lets +onlyGivenNames v10
        clear_value v10
        extract_lets +onlyGivenNames v11
        clear_value v11
        extract_lets +onlyGivenNames v12
        clear_value v12
        extract_lets +onlyGivenNames v13
        clear_value v13
        extract_lets +onlyGivenNames v14
        clear_value v14
        extract_lets +onlyGivenNames s15
        have h16 : Moves m a s15 := by
          unfold s15
          refine State.modPif_moves hm.up ?_
          assumption
        clear_value s15
        refine Moves.ite (fun _ => ?_) (fun _ => ?_)
        · extract_lets +onlyGivenNames s17
          have h18 : Moves m a s17 := by
            unfold s17
            refine State.modPif_moves hm.up ?_
            assumption
          clear_value s17
          refine State.onIf_moves ?_ ?_
          · assumption
          · intro s19 h20
            refine encFault_moves hm.up (Can.of hm) ?_
            assumption
        · extract_lets +onlyGivenNames s21
          have h22 : Moves m a s21 := by
            unfold s21
            refine State.modPif_moves hm.up ?_
            assumption
          clear_value s21
          extract_lets +onlyGivenNames v23
          clear_value v23
          extract_lets +onlyGivenNames v24
          clear_value v24
          refine sampleIn_moves hm.up ?_
          assumption

theorem execSerFrameStart_moves {m} {a s : State} {x1 x2} (hm : Sub 0x200000000000000000e080000000000000000000000000000000000000010000000000000000000000000000000000000000000000000000000000000000000000000000000000000000000007818000000137fa00000000000000000000000000000000000000000504c08 m) (h : Moves m a s) : Ends m a (execSerFrameStart x1 x2 s) := by
  unfold execSerFrameStart
  refine live_moves ?_ ?_
  · assumption
  · intro s1 h2
    refine serStart_moves hm.up ?_
    assumption

theorem execSerFrameEnd_moves {m} {a s : State} {x1 x2 x3} (hm : Sub 0x200000000000000000e08000000000000000000000000000000000000001000000000000000000000000000000000000000000000000000000000000000000000000000000000000000000008783000000013ffa000000000003700006003b0000000000000000000506c08 m) (h : Moves m a s) : Ends m a (execSerFrameEnd x1 x2 x3 s) := by
  unfold execSerFrameEnd
  refine live_moves ?_ ?_
  · assumption
  · intro s1 h2
    refine serEnd_moves hm.up ?_
    assumption

theorem execSerTimeout_moves {m} {a s : State} {x1} (hm : Sub 0x200000000000000000e080000000000000000000000000000000000000010000000000000000000000000000000000000000000000000000000000000000000000000000000000000000000007810000000137fa00000000000000000000000000000000000000000504c08 m) (h : Moves m a s) : Ends m a (execSerTimeout x1 s) := by
  unfold execSerTimeout
  refine live_moves ?_ ?_
  · assumption
  · intro s1 h2
    refine State.onIf_moves ?_ ?_
    · assumption
    · intro s3 h4
      refine serBad_moves hm.up ?_
      assumption

theorem execSpdTimeout_moves {m} {a s : State} {x1} (hm : Sub 0x60a00000000000000000000000000000000000000000004000 m) (h : Moves m a s) : Ends m a (execSpdTimeout x1 s) := by
  unfold execSpdTimeout
  refine live_moves ?_ ?_
  · assumption
  · intro s1 h2
    extract_lets +onlyGivenNames v3
    clear_value v3
    refine pifSync_moves hm.up ?_
    refine State.forL_moves ?_ ?_
    · assumption
    · intro v4 s5 h6
      extract_lets +onlyGivenNames v7
      clear_value v7
      refine State.onIf_moves ?_ ?_
      · assumption
      · intro s8 h9
        refine modSrc_moves hm.up ?_
        assumption

theorem execTriggerTimerExpiry_moves {m} {a s : State} {x1} (hm : Sub 0x200000000000000000e08000000000000000000000000000000000000001000000000000000000000000000000000000000000000000000000000000000000000000000000000000000000000000000000000000000000000003700006003b0000000000000000000406c08 m) (h : Moves m a s) : Ends m a (execTriggerTimerExpiry x1 s) := by
  unfold execTriggerTimerExpiry
  refine live_moves ?_ ?_
  · assumption
  · intro s1 h2
    refine State.onIf_moves ?_ ?_
    · assumption
    · intro s3 h4
      refine timerFire_moves hm.up ?_
      assumption

theorem execEncoEdge_moves {m} {a s : State} (hm : Sub 0x200000000000000000e0800000000000000000000000000000000000000100000000000000000000000000000000000000000000000000000000000000000000000000000000000000000000800000000000000000000000000000000000000000000000000000000404408 m) (h : Moves m a s) : Ends m a (execEncoEdge s) := by
  unfold execEncoEdge
  refine live_moves ?_ ?_
  · assumption
  · intro s1 h2
    refine encoStep_moves hm.up ?_
    assumption

/-! ### Channel -/

theorem State.modSp_moves {m} {a s : State} {x1 x2} (hm : Sub 0x20000 m) (h : Moves m a s) : Moves m a (State.modSp s x1 x2) := by
  unfold State.modSp
  refine Moves.sps (s := s) hm.up ?_
  assumption

theorem State.modFld_moves {m} {a s : State} {x1 x2} (hm : Sub 0x20000 m) (h : Moves m a s) : Moves m a (State.modFld s x1 x2) := by
  unfold State.modFld
  refine State.modSp_moves hm.up ?_
  assumption

theorem setPat_moves {m} {a s : State} {x1 x2} (hm : Sub 0x200000000000000000e08000000000000000000000000000000000000001000000000000000000020000000000010028000000000000000000000000000000000c000000000000f000000000000000000000000000000000000000000000000000000000000000000448408 m) (h : Moves m a s) : Moves m a (setPat s x1 x2) := by
  unfold setPat
  refine selShow_moves hm.up ?_
  refine State.legsApply_moves hm.up ?_
  refine State.put_moves (Can.of hm) ?_
  refine State.put_moves (Can.of hm) ?_
  assumption

theorem selUpdate_moves {m} {a s : State} {x1} (hm : Sub 0x200000000000000000e08000000000000000000000000000000000000001000000000000000000020000000000010039000000000000000000000000000000000c000000000000f000000000000000000000000000000000000000000000000000000000000000000448408 m) (h : Moves m a s) : Moves m a (selUpdate s x1) := by
  unfold selUpdate
  extract_lets +onlyGivenNames v1
  clear_value v1
  extract_lets +onlyGivenNames v2
  clear_value v2
  extract_lets +onlyGivenNames s3
  have h4 : Moves m a s3 := by
    unfold s3
    refine selShow_moves hm.up ?_
    refine State.put_moves (Can.of hm) ?_
    assumption
  clear_value s3
  extract_lets +onlyGivenNames s5
  have h6 : Moves m a s5 := by
    unfold s5
    refine State.onIf_moves ?_ ?_
    · assumption
    · intro s7 h8
      refine State.legsApply_moves hm.up ?_
      assumption
  clear_value s5
  refine Moves.ite (fun _ => ?_) (fun _ => ?_)
  · assumption
  · refine Moves.ite (fun _ => ?_) (fun _ => ?_)
    · refine Moves.ite (fun _ => ?_) (fun _ => ?_)
      · assumption
      · refine setPat_moves hm.up ?_
        assumption
    · refine Moves.ite (fun _ => ?_) (fun _ => ?_)
      · refine State.logEv_moves hm.up ?_
        refine setPat_moves hm.up ?_
        refine State.put_moves (Can.of hm) ?_
        assumption
      · assumption

theorem selRefresh_moves {m} {a s : State} {x1} (hm : Sub 0x200000000000000000e08000000000000000000000000000000000000001000000000000000000020000000000010039000000000000000000000000000000000c000000000000f000000000000000000000000000000000000000000000000000000000000000000458408 m) (h : Moves m a s) : Moves m a (selRefresh s x1) := by
  unfold selRefresh
  extract_lets +onlyGivenNames v1
  clear_value v1
  extract_lets +onlyGivenNames v2
  clear_value v2
  refine selUpdate_moves hm.up ?_
  refine State.modChan_moves hm.up ?_
  assumption

theorem setState_moves {m} {a s : State} {x1 x2 x3} (hm : Sub 0x200000000000000000e080000000000000000000000000000000000000010000000000000000000200000000100000fc000000000000006000000000000000000c000000000000f000000000000000000000000000000000000000000000000000000000000000000478408 m) (h : Moves m a s) : Moves m a (setState s x1 x2 x3) := by
  unfold setState
  extract_lets +onlyGivenNames v1
  clear_value v1
  extract_lets +onlyGivenNames s2
  have h3 : Moves m a s2 := by
    unfold s2
    refine State.put_moves (Can.of hm) ?_
    refine State.put_moves (Can.of hm) ?_
    assumption
  clear_value s2
  extract_lets +onlyGivenNames s4
  have h5 : Moves m a s4 := by
    unfold s4
    refine State.irq_moves hm.up ?_
    refine State.logEv_moves hm.up ?_
    assumption
  clear_value s4
  extract_lets +onlyGivenNames s6
  have h7 : Moves m a s6 := by
    unfold s6
    refine State.owlRec_moves hm.up ?_
    assumption
  clear_value s6
  extract_lets +onlyGivenNames s8
  have h9 : Moves m a s8 := by
    unfold s8
    refine State.onIf_moves ?_ ?_
    · assumption
    · intro s10 h11
      refine State.owlTrig_moves hm.up ?_
      assumption
  clear_value s8
  extract_lets +onlyGivenNames s12
  have h13 : Moves m a s12 := by
    unfold s12
    refine State.onIf_moves ?_ ?_
    · assumption
    · intro s14 h15
      refine State.put_moves (Can.of hm) ?_
      refine State.put_moves (Can.of hm) ?_
      refine State.put_moves (Can.of hm) ?_
      assumption
  clear_value s12
  extract_lets +onlyGivenNames s16
  have h17 : Moves m a s16 := by
    unfold s16
    refine State.onIf_moves ?_ ?_
    · assumption
    · intro s18 h19
      refine State.put_moves (Can.of hm) ?_
      refine State.put_moves (Can.of hm) ?_
      assumption
  clear_value s16
  extract_lets +onlyGivenNames v20
  clear_value v20
  extract_lets +onlyGivenNames s21
  have h22 : Moves m a s21 := by
    unfold s21
    refine State.onIf_moves ?_ ?_
    · assumption
    · intro s23 h24
      refine State.put_moves (Can.of hm) ?_
      refine State.put_moves (Can.of hm) ?_
      assumption
  clear_value s21
  extract_lets +onlyGivenNames s25
  have h26 : Moves m a s25 := by
    unfold s25
    refine State.onIf_moves ?_ ?_
    · assumption
    · intro s27 h28
      extract_lets +onlyGivenNames s29
      have h30 : Moves m a s29 := by
        unfold s29
        refine State.forL_moves ?_ ?_
        · assumption
        · intro v31 s32 h33
          refine State.modLeg_moves hm.up ?_
          assumption
      clear_value s29
      extract_lets +onlyGivenNames s34
      have h35 : Moves m a s34 := by
        unfold s34
        refine State.modChan_moves hm.up ?_
        refine State.put_moves (Can.of hm) ?_
        assumption
      clear_value s34
      extract_lets +onlyGivenNames s36
      have h37 : Moves m a s36 := by
        unfold s36
        refine State.put_moves (Can.of hm) ?_
        refine State.put_moves (Can.of hm) ?_
        assumption
      clear_value s36
      extract_lets +onlyGivenNames s38
      have h39 : Moves m a s38 := by
        unfold s38
        refine State.modSp_moves hm.up ?_
        assumption
      clear_value s38
      extract_lets +onlyGivenNames s40
      have h41 : Moves m a s40 := by
        unfold s40
        refine State.modFld_moves hm.up ?_
        assumption
      clear_value s40
      refine State.modChan_moves hm.up ?_
      assumption
  clear_value s25
  refine State.legsApply_moves hm.up ?_
  assumption

theorem endDischarge_moves {m} {a s : State} {x1 x2} (hm : Sub 0x20000000000000000000000000000000000000000000000000000000000000000000000000000000000000000000000000000000000000000000000000000000010000 m) (h : Moves m a s) : Moves m a (endDischarge s x1 x2) := by
  unfold endDischarge
  extract_lets +onlyGivenNames s1
  have h2 : Moves m a s1 := by
    unfold s1
    refine State.put_moves (Can.of hm) ?_
    assumption
  clear_value s1
  refine State.forL_moves ?_ ?_
  · assumption
  · intro v3 s4 h5
    refine State.modChan_moves hm.up ?_
    assumption

theorem setReady_moves {m} {a s : State} {x1 x2} (hm : Sub 0x200000000000000000e0800000000000000000000000000000000000000100000100800000000000000000000000000000000000000000000000000000000000000000000000000000000000000000000000000000000000000000000000000000000000000000000c00408 m) (h : Moves m a s) : Moves m a (setReady s x1 x2) := by
  unfold setReady
  refine Moves.ite (fun _ => ?_) (fun _ => ?_)
  · assumption
  · extract_lets +onlyGivenNames s1
    have h2 : Moves m a s1 := by
      unfold s1
      refine State.onIf_moves ?_ ?_
      · assumption
      · intro s3 h4
        refine State.put_moves (Can.of hm) ?_
        assumption
    clear_value s1
    extract_lets +onlyGivenNames s5
    clear_value s5
    extract_lets +onlyGivenNames s6
    have h7 : Moves m a s6 := by
      unfold s6
      refine Moves.tls (s := s1) hm.up ?_
      assumption
    clear_value s6
    refine State.logEv_moves hm.up ?_
    refine State.put_moves (Can.of hm) ?_
    assumption

theorem notReady_moves {m} {a s : State} {x1} (hm : Sub 0x200000000000000000e0800000000000000000000000000000000000000100000100800000000000000000000000000000000000000000000000000000000000000000000000000000000000000000000000000000000000000000000000000000000000000000000c00408 m) (h : Moves m a s) : Moves m a (notReady s x1) := by
  unfold notReady
  refine State.onIf_moves ?_ ?_
  · assumption
  · intro s1 h2
    refine setReady_moves hm.up ?_
    assumption

theorem strayMark_moves {m} {a s : State} {x1} (hm : Sub 0x200000000000000000e0800000000000000000000000000000000000000100000100800000000000000000000000000000000000000000000000000000000000000000000000000000000000000000000000000000000000000000000000000000000000000000000c00408 m) (h : Moves m a s) : Moves m a (strayMark s x1) := by
  unfold strayMark
  refine State.onIf_moves ?_ ?_
  · assumption
  · intro s1 h2
    refine notReady_moves hm.up ?_
    refine Moves.tls (s := s1) hm.up ?_
    assumption

theorem intoSafe_moves {m} {a s : State} {x1 x2 x3 x4 x5} (hm : Sub 0x200000000000000000e080000000000000000000000000000000000000010000010080000000000200000000100100fc800000000000006000000000000000000c000000000000f000000000000000000000000000000000000000000000000000000000000000000c78408 m) (h : Moves m a s) : Moves m a (intoSafe s x1 x2 x3 x4 x5) := by
  unfold intoSafe
  extract_lets +onlyGivenNames s1
  have h2 : Moves m a s1 := by
    unfold s1
    refine State.putB_moves hm.up (Can.of hm) ?_
    refine State.put_moves (Can.of hm) ?_
    refine strayMark_moves hm.up ?_
    assumption
  clear_value s1
  extract_lets +onlyGivenNames s3
  have h4 : Moves m a s3 := by
    unfold s3
    refine State.modChan_moves hm.up ?_
    refine setState_moves hm.up ?_
    assumption
  clear_value s3
  extract_lets +onlyGivenNames s5
  have h6 : Moves m a s5 := by
    unfold s5
    refine State.putB_moves hm.up (Can.of hm) ?_
    refine State.putB_moves hm.up (Can.of hm) ?_
    assumption
  clear_value s5
  refine setPat_moves hm.up ?_
  assumption

theorem safeMark_moves {m} {a s : State} {x1} (hm : Sub 0x40000000000000000000000000000000000000000000000000000000000000018000 m) (h : Moves m a s) : Moves m a (safeMark s x1) := by
  unfold safeMark
  extract_lets +onlyGivenNames s1
  have h2 : Moves m a s1 := by
    unfold s1
    refine State.onIf_moves ?_ ?_
    · assumption
    · intro s3 h4
      refine State.put_moves (Can.of hm) ?_
      refine State.modCarr_moves hm.up ?_
      assumption
  clear_value s1
  refine State.modChan_moves hm.up ?_
  assumption

theorem enterSafe_moves {m} {a s : State} {x1 x2 x3 x4 x5} (hm : Sub 0x200000000000000000e080000000000000000000000000000000000000010000010080000000000202000000100100fc800000000000006000000000000000000c000000000000f000000000000000000000000000000000000000000000000000000000000000000c78408 m) (h : Moves m a s) : Moves m a (enterSafe s x1 x2 x3 x4 x5) := by
  unfold enterSafe
  extract_lets +onlyGivenNames v1
  clear_value v1
  extract_lets +onlyGivenNames s2
  have h3 : Moves m a s2 := by
    unfold s2
    split
    · refine endDischarge_moves hm.up ?_
      assumption
    · assumption
  clear_value s2
  extract_lets +onlyGivenNames s9
  have h10 : Moves m a s9 := by
    unfold s9
    refine intoSafe_moves hm.up ?_
    assumption
  clear_value s9
  refine State.forL_moves ?_ ?_
  · assumption
  · intro v11 s12 h13
    refine intoSafe_moves hm.up ?_
    assumption

theorem safeRequest_moves {m} {a s : State} {x1 x2} (hm : Sub 0x200000000000000000e080000000000000000000000000000000000000010000010080000000000202000000100100fd800000000000006000000000000000000c000000000000f000040000000000000000000000000000000000000000000000000000000000000c78408 m) (h : Moves m a s) : Moves m a (safeRequest s x1 x2) := by
  unfold safeRequest
  extract_lets +onlyGivenNames s1
  have h2 : Moves m a s1 := by
    unfold s1
    refine selUpdate_moves hm.up ?_
    refine safeMark_moves hm.up ?_
    assumption
  clear_value s1
  refine Moves.ite (fun _ => ?_) (fun _ => ?_)
  · extract_lets +onlyGivenNames s3
    have h4 : Moves m a s3 := by
      unfold s3
      refine State.onIf_moves ?_ ?_
      · assumption
      · intro s5 h6
        refine State.put_moves (Can.of hm) ?_
        refine State.put_moves (Can.of hm) ?_
        assumption
    clear_value s3
    refine Moves.ite (fun _ => ?_) (fun _ => ?_)
    · refine setPat_moves hm.up ?_
      refine State.put_moves (Can.of hm) ?_
      assumption
    · assumption
  · refine enterSafe_moves hm.up ?_
    assumption

theorem enterStop_moves {m} {a s : State} {x1 x2 x3} (hm : Sub 0x200000000000000000e080000000000000000000000000000000000000010000000000000000000200000000100000fc800000000000006000000000000000000c000000000000f000000000000000000000000000000000000000000000000000000000000000000478408 m) (h : Moves m a s) : Moves m a (enterStop s x1 x2 x3) := by
  unfold enterStop
  extract_lets +onlyGivenNames s1
  have h2 : Moves m a s1 := by
    unfold s1
    refine State.onIf_moves ?_ ?_
    · assumption
    · intro s3 h4
      refine State.put_moves (Can.of hm) ?_
      assumption
  clear_value s1
  extract_lets +onlyGivenNames s5
  have h6 : Moves m a s5 := by
    unfold s5
    refine setState_moves hm.up ?_
    assumption
  clear_value s5
  extract_lets +onlyGivenNames s7
  have h8 : Moves m a s7 := by
    unfold s7
    refine State.put_moves (Can.of hm) ?_
    refine State.putB_moves hm.up (Can.of hm) ?_
    assumption
  clear_value s7
  refine State.modFld_moves hm.up ?_
  assumption

theorem stopRequest_moves {m} {a s : State} {x1 x2} (hm : Sub 0x200000000000000000e080000000000000000000000000000000000000010000000000000000000200000000100000fc800000000000006000000000000000000c000000000000f000000000000000000000000000000000000000000000000000000000000000000478408 m) (h : Moves m a s) : Moves m a (stopRequest s x1 x2) := by
  unfold stopRequest
  refine State.onIf_moves ?_ ?_
  · assumption
  · intro s1 h2
    refine enterStop_moves hm.up ?_
    assumption

theorem chSafeReaction_moves {m} {a s : State} {x1 x2} (hm : Sub 0x200000000000000000e080000000000000000000000000000000000000010000010080000000000202000000100100fd800000000000006000000000000000000c000000000000f000040000000000000000000000000000000000000000000000000000000000000c78408 m) (h : Moves m a s) : Moves m a (chSafeReaction s x1 x2) := by
  unfold chSafeReaction
  refine Moves.ite (fun _ => ?_) (fun _ => ?_)
  · refine enterStop_moves hm.up ?_
    assumption
  · refine safeRequest_moves hm.up ?_
    assumption

theorem chSafeCmd_moves {m} {a s : State} {x1 x2} (hm : Sub 0x200000000000000000e080000000000000000000000000000000000000010000010080000000000202000000100100fd800000000000006000000000000000000c000000000000f000040000000000000000000000000000000000000000000000000000000000000c78408 m) (h : Moves m a s) : Moves m a (chSafeCmd s x1 x2) := by
  unfold chSafeCmd
  extract_lets +onlyGivenNames s1
  have h2 : Moves m a s1 := by
    unfold s1
    refine selUpdate_moves hm.up ?_
    refine safeMark_moves hm.up ?_
    assumption
  clear_value s1
  refine Moves.ite (fun _ => ?_) (fun _ => ?_)
  · refine enterStop_moves hm.up ?_
    assumption
  · extract_lets +onlyGivenNames v3
    clear_value v3
    extract_lets +onlyGivenNames v4
    clear_value v4
    extract_lets +onlyGivenNames v5
    clear_value v5
    extract_lets +onlyGivenNames v6
    clear_value v6
    extract_lets +onlyGivenNames v7
    clear_value v7
    extract_lets +onlyGivenNames s8
    have h9 : Moves m a s8 := by
      unfold s8
      refine Moves.ite (fun _ => ?_) (fun _ => ?_)
      · refine setPat_moves hm.up ?_
        refine State.putB_moves hm.up (Can.of hm) ?_
        assumption
      · refine enterSafe_moves hm.up ?_
        assumption
    clear_value s8
    refine State.onIf_moves ?_ ?_
    · assumption
    · intro s10 h11
      refine State.logEv_moves hm.up ?_
      assumption

theorem swfailSet_moves {m} {a s : State} {x1 x2 x3} (hm : Sub 0x200000000000000000e08000000000000000000000000000000000000001000000000000000000020000000000190039000000000000000000000000000000000c000000000000f000000000000000000000000000000000000000000000000000000000000000000448c08 m) (h : Moves m a s) : Moves m a (swfailSet s x1 x2 x3) := by
  unfold swfailSet
  extract_lets +onlyGivenNames v1
  clear_value v1
  extract_lets +onlyGivenNames v2
  clear_value v2
  extract_lets +onlyGivenNames v3
  clear_value v3
  extract_lets +onlyGivenNames v4
  clear_value v4
  refine Moves.ite (fun _ => ?_) (fun _ => ?_)
  · assumption
  · extract_lets +onlyGivenNames s5
    have h6 : Moves m a s5 := by
      unfold s5
      refine State.put_moves (Can.of hm) ?_
      refine State.put_moves (Can.of hm) ?_
      assumption
    clear_value s5
    extract_lets +onlyGivenNames s7
    have h8 : Moves m a s7 := by
      unfold s7
      refine State.raise_moves hm.up ?_
      refine State.logEv_moves hm.up ?_
      assumption
    clear_value s7
    extract_lets +onlyGivenNames s9
    have h10 : Moves m a s9 := by
      unfold s9
      refine State.onIf_moves ?_ ?_
      · assumption
      · intro s11 h12
        refine State.raise_moves hm.up ?_
        assumption
    clear_value s9
    extract_lets +onlyGivenNames s13
    have h14 : Moves m a s13 := by
      unfold s13
      refine selUpdate_moves hm.up ?_
      assumption
    clear_value s13
    extract_lets +onlyGivenNames v15
    clear_value v15
    refine State.onIf_moves ?_ ?_
    · assumption
    · intro s16 h17
      refine State.logEv_moves hm.up ?_
      refine setPat_moves hm.up ?_
      refine State.put_moves (Can.of hm) ?_
      assumption

/-! ### Lathe -/

theorem satMark_moves {m} {a s : State} {x1 x2 x3} (hm : Sub 0x200000000000000000e080000000000000000000000000000000000000010000000000000000000000000000000000000000000000000000000000000000000000000000000000000000000000000000000000000000000000000000000000000003fc00000000000400408 m) (h : Moves m a s) : Moves m a (satMark s x1 x2 x3) := by
  unfold satMark
  refine Moves.ite (fun _ => ?_) (fun _ => ?_)
  · assumption
  · extract_lets +onlyGivenNames v1
    clear_value v1
    extract_lets +onlyGivenNames s2
    have h3 : Moves m a s2 := by
      unfold s2
      refine State.put_moves ?_ ?_
      · unfold satFld
        split
        · exact (Can.of hm)
        · exact (Can.of hm)
        · exact (Can.of hm)
        · exact (Can.of hm)
        · exact (Can.of hm)
        · exact (Can.of hm)
      · assumption
    clear_value s2
    refine State.onIf_moves ?_ ?_
    · assumption
    · intro s4 h5
      refine State.logEv_moves hm.up ?_
      refine State.put_moves (Can.of hm) ?_
      refine State.put_moves (Can.of hm) ?_
      assumption

theorem modulate_moves {m} {a s : State} {x1 x2 x3} (hm : Sub 0x200000000000000000e080000000000000000000000000000000000000010000000000000000000000000000000000000000000000000000400000000000000000000000000000000000000000000000000000000000000000000000000000000003fc00000000000400408 m) (h : Moves m a s) : Moves m a (modulate s x1 x2 x3).2 := by
  unfold modulate
  extract_lets +onlyGivenNames v1
  clear_value v1
  extract_lets +onlyGivenNames v2
  clear_value v2
  extract_lets +onlyGivenNames v3
  clear_value v3
  split
  · extract_lets +onlyGivenNames v5
    clear_value v5
    dsimp -zeta only
    refine satMark_moves hm.up ?_
    refine State.putB_moves hm.up (Can.of hm) ?_
    assumption
  · dsimp -zeta only
    refine satMark_moves hm.up ?_
    refine State.putB_moves hm.up (Can.of hm) ?_
    assumption

theorem budgetShow_moves {m} {a s : State} {x1} (hm : Sub 0x18000000000000 m) (h : Moves m a s) : Moves m a (budgetShow s x1) := by
  unfold budgetShow
  refine State.put_moves (Can.of hm) ?_
  refine State.put_moves (Can.of hm) ?_
  assumption

theorem stepShow_moves {m} {a s : State} {x1} (hm : Sub 0x180000000000000000000000000000000000000000000000000000000000000000000000000000000000000000 m) (h : Moves m a s) : Moves m a (stepShow s x1) := by
  unfold stepShow
  extract_lets +onlyGivenNames v1
  clear_value v1
  extract_lets +onlyGivenNames v2
  clear_value v2
  refine State.put_moves (Can.of hm) ?_
  refine State.put_moves (Can.of hm) ?_
  assumption

theorem sealOff_moves {m} {a s : State} {x1 x2} (hm : Sub 0xcc180000000000000000000000000000000000000000000000000000000000000000000000000000000000000000 m) (h : Moves m a s) : Moves m a (sealOff s x1 x2) := by
  unfold sealOff
  refine stepShow_moves hm.up ?_
  refine State.put_moves ?_ ?_
  · unfold crcFld
    refine Can.ite ?_ ?_
    · exact (Can.of hm)
    · exact (Can.of hm)
  · refine State.put_moves ?_ ?_
    · unfold sealFld
      refine Can.ite ?_ ?_
      · exact (Can.of hm)
      · exact (Can.of hm)
    · assumption

theorem storeWord_moves {m} {a s : State} {x1 x2 x3} (hm : Sub 0x200000000000000000e08000000000000000000000000000000000000001000000000000000000000000000000000000000000000000000000000000000cc180000000000000000000000000000000000000000000000000000000000000000000000000000000000400748 m) (h : Moves m a s) : Moves m a (storeWord s x1 x2 x3) := by
  unfold storeWord
  split
  · refine State.onIf_moves ?_ ?_
    · assumption
    · intro s3 h4
      refine State.logEv_moves hm.up ?_
      assumption
  · refine State.putLw_moves hm.up ?_
    assumption
  · refine sealOff_moves hm.up ?_
    refine State.putLw_moves hm.up ?_
    assumption

theorem sealDone_moves {m} {a s : State} {x1} (hm : Sub 0x200000000000000000e08000000000000000000000000000000000000001000000000000000000000000000000000000000000000000000000000000000cd980000000000000000000000000000000000000000000000000000000000000000000000000000000000400748 m) (h : Moves m a s) : Moves m a (sealDone s x1) := by
  unfold sealDone
  refine Moves.ite (fun _ => ?_) (fun _ => ?_)
  · assumption
  · extract_lets +onlyGivenNames v1
    clear_value v1
    extract_lets +onlyGivenNames s2
    have h3 : Moves m a s2 := by
      unfold s2
      refine State.put_moves (Can.of hm) ?_
      refine State.put_moves (Can.of hm) ?_
      assumption
    clear_value s2
    refine Moves.ite (fun _ => ?_) (fun _ => ?_)
    · refine State.logEv_moves hm.up ?_
      assumption
    · extract_lets +onlyGivenNames v4
      clear_value v4
      extract_lets +onlyGivenNames v5
      clear_value v5
      extract_lets +onlyGivenNames v6
      clear_value v6
      extract_lets +onlyGivenNames s7
      have h8 : Moves m a s7 := by
        unfold s7
        refine State.forL_moves ?_ ?_
        · assumption
        · intro v9 s10 h11
          refine State.putLw_moves hm.up ?_
          assumption
      clear_value s7
      extract_lets +onlyGivenNames s12
      have h13 : Moves m a s12 := by
        unfold s12
        refine State.putLw_moves hm.up ?_
        assumption
      clear_value s12
      extract_lets +onlyGivenNames s14
      have h15 : Moves m a s14 := by
        unfold s14
        refine State.put_moves ?_ ?_
        · unfold sealFld
          refine Can.ite ?_ ?_
          · exact (Can.of hm)
          · exact (Can.of hm)
        · refine State.put_moves ?_ ?_
          · unfold crcFld
            refine Can.ite ?_ ?_
            · exact (Can.of hm)
            · exact (Can.of hm)
          · assumption
      clear_value s14
      refine State.logEv_moves hm.up ?_
      refine stepShow_moves hm.up ?_
      assumption

theorem sealRequest_moves {m} {a s : State} {x1} (hm : Sub 0x200000000000000000e08000000000000000000000000000000000000001000000000000000000000000000000000000000000000000000000000000000cc980000000000000000000000000000000000000000000000000000000000000000000000000000000000400408 m) (h : Moves m a s) : Moves m a (sealRequest s x1) := by
  unfold sealRequest
  refine Moves.ite (fun _ => ?_) (fun _ => ?_)
  · refine State.logEv_moves hm.up ?_
    assumption
  · extract_lets +onlyGivenNames v1
    clear_value v1
    refine State.put_moves (Can.of hm) ?_
    refine sealOff_moves hm.up ?_
    assumption

theorem swapRequest_moves {m} {a s : State} {x1} (hm : Sub 0x200000000000000000e0800000000000000000000000000000000000000100000000000000000000000000000000000000000000000000000000000000010000000000000000000000000000000000000000000000000000000000000000000000000000000000000400408 m) (h : Moves m a s) : Moves m a (swapRequest s x1) := by
  unfold swapRequest
  refine Moves.ite (fun _ => ?_) (fun _ => ?_)
  · refine State.put_moves (Can.of hm) ?_
    assumption
  · refine State.logEv_moves hm.up ?_
    assumption

theorem frzShow_moves {m} {a s : State} {x1} (hm : Sub 0x200000000000000000000000000000000000000000000000000000000000000000000000000000000000000000 m) (h : Moves m a s) : Moves m a (frzShow s x1) := by
  unfold frzShow
  refine State.putB_moves hm.up (Can.of hm) ?_
  assumption

theorem absentNew_moves {m} {a s : State} {x1} (hm : Sub 0x400000000000000000000000000000000000000000000000000000000000000000000000000000000000000000000000 m) (h : Moves m a s) : Moves m a (absentNew s x1) := by
  unfold absentNew
  refine State.forN_moves ?_ ?_
  · assumption
  · intro v1 s2 h3
    refine State.onIf_moves ?_ ?_
    · assumption
    · intro s4 h5
      refine State.putBit_moves hm.up (Can.of hm) ?_
      assumption

theorem bankSwap_moves {m} {a s : State} {x1 x2} (hm : Sub 0x200000000000000000e0800000000000000000000000000000000000000100000000000000000000000000000000000000000000000000000000000400030780000000000000000000000000000000000000000000000000000000000000000000000000018000000420748 m) (h : Moves m a s) : Moves m a (bankSwap s x1 x2) := by
  unfold bankSwap
  extract_lets +onlyGivenNames v1
  clear_value v1
  extract_lets +onlyGivenNames v2
  clear_value v2
  extract_lets +onlyGivenNames v3
  clear_value v3
  extract_lets +onlyGivenNames v4
  clear_value v4
  extract_lets +onlyGivenNames v5
  clear_value v5
  extract_lets +onlyGivenNames s6
  have h7 : Moves m a s6 := by
    unfold s6
    refine State.forN_moves ?_ ?_
    · assumption
    · intro v8 s9 h10
      refine State.onIf_moves ?_ ?_
      · assumption
      · intro s11 h12
        extract_lets +onlyGivenNames v13
        clear_value v13
        extract_lets +onlyGivenNames v14
        clear_value v14
        extract_lets +onlyGivenNames v15
        clear_value v15
        extract_lets +onlyGivenNames v16
        clear_value v16
        extract_lets +onlyGivenNames s17
        have h18 : Moves m a s17 := by
          unfold s17
          refine State.onIf_moves ?_ ?_
          · assumption
          · intro s19 h20
            refine Moves.ite (fun _ => ?_) (fun _ => ?_)
            · refine State.logEv_moves hm.up ?_
              refine State.putPairs_moves hm.up ?_
              assumption
            · refine State.putPairs_moves hm.up ?_
              assumption
        clear_value s17
        refine State.onIf_moves ?_ ?_
        · assumption
        · intro s21 h22
          refine State.modSp_moves hm.up ?_
          assumption
  clear_value s6
  extract_lets +onlyGivenNames s23
  have h24 : Moves m a s23 := by
    unfold s23
    refine State.putB_moves hm.up (Can.of hm) ?_
    refine State.put_moves (Can.of hm) ?_
    refine State.put_moves (Can.of hm) ?_
    assumption
  clear_value s23
  extract_lets +onlyGivenNames s25
  have h26 : Moves m a s25 := by
    unfold s25
    refine absentNew_moves hm.up ?_
    refine State.modSp_moves hm.up ?_
    assumption
  clear_value s25
  refine State.logEv_moves hm.up ?_
  refine budgetShow_moves hm.up ?_
  refine frzShow_moves hm.up ?_
  refine stepShow_moves hm.up ?_
  assumption

theorem State.modMeas_moves {m} {a s : State} {x1 x2 x3} (hm : Sub 0x20000 m) (h : Moves m a s) : Moves m a (State.modMeas s x1 x2 x3) := by
  unfold State.modMeas
  refine State.modSp_moves hm.up ?_
  assumption

theorem landMeas_moves {m} {a s : State} {x1 x2 x3 x4} (hm : Sub 0x200000000000000000e080000000000000000000000000000000000000010000000000000000000000000000000000000000000000000000000000000000000000000000000000000000000000000000000000000000000000000000000000000003fc00000000000420408 m) (h : Moves m a s) : Moves m a (landMeas s x1 x2 x3 x4) := by
  unfold landMeas
  extract_lets +onlyGivenNames v1
  clear_value v1
  extract_lets +onlyGivenNames v2
  clear_value v2
  extract_lets +onlyGivenNames v3
  clear_value v3
  extract_lets +onlyGivenNames s4
  have h5 : Moves m a s4 := by
    unfold s4
    refine satMark_moves hm.up ?_
    assumption
  clear_value s4
  extract_lets +onlyGivenNames s6
  have h7 : Moves m a s6 := by
    unfold s6
    refine State.modMeas_moves hm.up ?_
    assumption
  clear_value s6
  refine State.onIf_moves ?_ ?_
  · assumption
  · intro s8 h9
    refine State.modSp_moves hm.up ?_
    assumption

theorem fbExpire_moves {m} {a s : State} {x1} (hm : Sub 0x200000000000000000e080000000000000000000000000000000000000010000000000000000000200000000100000fc800000000000006000000001000000000c000000000000f000000000000000000000000000000000000000000000000000000000000000000478c08 m) (h : Moves m a s) : Moves m a (fbExpire s x1) := by
  unfold fbExpire
  extract_lets +onlyGivenNames s1
  have h2 : Moves m a s1 := by
    unfold s1
    refine State.put_moves (Can.of hm) ?_
    refine State.logEv_moves hm.up ?_
    assumption
  clear_value s1
  refine Moves.ite (fun _ => ?_) (fun _ => ?_)
  · refine stopRequest_moves hm.up ?_
    assumption
  · refine State.raise_moves hm.up ?_
    assumption

theorem measLost_moves {m} {a s : State} {x1 x2} (hm : Sub 0x200000000000000000e080000000000000000000000000000000000000010000000000000000000200000000100000fc800000000000006000000009000000000c000000000000f000000000000000000000000000000000000000000000000000000000000000000478c08 m) (h : Moves m a s) : Moves m a (measLost s x1 x2) := by
  unfold measLost
  extract_lets +onlyGivenNames s1
  have h2 : Moves m a s1 := by
    unfold s1
    refine State.logEv_moves hm.up ?_
    refine State.putBit_moves hm.up (Can.of hm) ?_
    assumption
  clear_value s1
  refine Moves.ite (fun _ => ?_) (fun _ => ?_)
  · assumption
  · extract_lets +onlyGivenNames v3
    clear_value v3
    refine Moves.ite (fun _ => ?_) (fun _ => ?_)
    · refine Moves.ite (fun _ => ?_) (fun _ => ?_)
      · assumption
      · refine fbExpire_moves hm.up ?_
        assumption
    · refine Moves.ite (fun _ => ?_) (fun _ => ?_)
      · refine Moves.ite (fun _ => ?_) (fun _ => ?_)
        · assumption
        · refine fbExpire_moves hm.up ?_
          assumption
      · refine Moves.ite (fun _ => ?_) (fun _ => ?_)
        · refine State.modSp_moves hm.up ?_
          assumption
        · refine fbExpire_moves hm.up ?_
          assumption

theorem holdClear_moves {m} {a s : State} {x1} (hm : Sub 0x280000000000000000000000000000000000000000000000000000000000000000000000000000000000000000020000 m) (h : Moves m a s) : Moves m a (holdClear s x1) := by
  unfold holdClear
  refine State.put_moves (Can.of hm) ?_
  refine State.put_moves (Can.of hm) ?_
  refine State.modSp_moves hm.up ?_
  assumption

theorem account_moves {m} {a s : State} {x1} (hm : Sub 0x200000000000000000e080000000000000000000000000000000000000010000000000000000000200000000100000fc80000000000000600000003b800000000c000000000000f000000000000000000000000000000000000000000000000000000000000000000478c08 m) (h : Moves m a s) : Moves m a (account s x1) := by
  unfold account
  refine Moves.ite (fun _ => ?_) (fun _ => ?_)
  · assumption
  · extract_lets +onlyGivenNames v1
    clear_value v1
    extract_lets +onlyGivenNames v2
    clear_value v2
    extract_lets +onlyGivenNames v3
    clear_value v3
    extract_lets +onlyGivenNames v4
    clear_value v4
    extract_lets +onlyGivenNames v5
    clear_value v5
    extract_lets +onlyGivenNames s6
    have h7 : Moves m a s6 := by
      unfold s6
      refine State.put_moves (Can.of hm) ?_
      assumption
    clear_value s6
    extract_lets +onlyGivenNames s8
    have h9 : Moves m a s8 := by
      unfold s8
      refine State.put_moves (Can.of hm) ?_
      assumption
    clear_value s8
    extract_lets +onlyGivenNames v10
    clear_value v10
    extract_lets +onlyGivenNames v11
    clear_value v11
    extract_lets +onlyGivenNames v12
    clear_value v12
    extract_lets +onlyGivenNames s13
    have h14 : Moves m a s13 := by
      unfold s13
      refine State.forL_moves ?_ ?_
      · assumption
      · intro v15 s16 h17
        refine State.modMeas_moves hm.up ?_
        assumption
    clear_value s13
    extract_lets +onlyGivenNames s18
    have h19 : Moves m a s18 := by
      unfold s18
      refine State.forL_moves ?_ ?_
      · assumption
      · intro v20 s21 h22
        extract_lets +onlyGivenNames v23
        clear_value v23
        refine Moves.ite (fun _ => ?_) (fun _ => ?_)
        · refine State.onIf_moves ?_ ?_
          · assumption
          · intro s24 h25
            refine State.putBit_moves hm.up (Can.of hm) ?_
            assumption
        · refine State.onIf_moves ?_ ?_
          · assumption
          · intro s26 h27
            refine measLost_moves hm.up ?_
            assumption
    clear_value s18
    extract_lets +onlyGivenNames s28
    have h29 : Moves m a s28 := by
      unfold s28
      refine State.onIf_moves ?_ ?_
      · assumption
      · intro s30 h31
        refine State.logEv_moves hm.up ?_
        refine holdClear_moves hm.up ?_
        assumption
    clear_value s28
    extract_lets +onlyGivenNames s32
    have h33 : Moves m a s32 := by
      unfold s32
      refine State.onIf_moves ?_ ?_
      · assumption
      · intro s34 h35
        refine fbExpire_moves hm.up ?_
        refine holdClear_moves hm.up ?_
        assumption
    clear_value s32
    extract_lets +onlyGivenNames v36
    clear_value v36
    refine State.modSp_moves hm.up ?_
    assumption

theorem oscDetect_moves {m} {a s : State} {x1} (hm : Sub 0x800000000000000000000000000000000000000000000000000000000000000000000000000000000000000000000020340 m) (h : Moves m a s) : Moves m a (oscDetect s x1) := by
  unfold oscDetect
  refine Moves.ite (fun _ => ?_) (fun _ => ?_)
  · assumption
  · extract_lets +onlyGivenNames v1
    clear_value v1
    extract_lets +onlyGivenNames v2
    clear_value v2
    extract_lets +onlyGivenNames v3
    clear_value v3
    extract_lets +onlyGivenNames v4
    clear_value v4
    extract_lets +onlyGivenNames v5
    clear_value v5
    extract_lets +onlyGivenNames v6
    clear_value v6
    extract_lets +onlyGivenNames v7
    clear_value v7
    extract_lets +onlyGivenNames v8
    clear_value v8
    extract_lets +onlyGivenNames v9
    clear_value v9
    extract_lets +onlyGivenNames v10
    clear_value v10
    extract_lets +onlyGivenNames v11
    clear_value v11
    extract_lets +onlyGivenNames s12
    have h13 : Moves m a s12 := by
      unfold s12
      refine State.putLw_moves hm.up ?_
      assumption
    clear_value s12
    extract_lets +onlyGivenNames s14
    have h15 : Moves m a s14 := by
      unfold s14
      refine State.onIf_moves ?_ ?_
      · assumption
      · intro s16 h17
        refine State.put_moves (Can.of hm) ?_
        assumption
    clear_value s14
    refine State.modSp_moves hm.up ?_
    assumption

theorem oscAct_moves {m} {a s : State} {x1 x2} (hm : Sub 0x200000000000000000e0800000000000000000000000000000000000000100000000000000000000000000000000000000000000000000000000600000010000000000000000000000000000000000000000000000000000000000000000000000000000000000000400c08 m) (h : Moves m a s) : Moves m a (oscAct s x1 x2) := by
  unfold oscAct
  extract_lets +onlyGivenNames s1
  have h2 : Moves m a s1 := by
    unfold s1
    refine State.logEv_moves hm.up ?_
    refine State.incSat_moves hm.up (Can.of hm) ?_
    refine State.put_moves (Can.of hm) ?_
    assumption
  clear_value s1
  refine Moves.ite (fun _ => ?_) (fun _ => ?_)
  · refine State.raise_moves hm.up ?_
    assumption
  · refine Moves.ite (fun _ => ?_) (fun _ => ?_)
    · assumption
    · refine Moves.ite (fun _ => ?_) (fun _ => ?_)
      · refine State.raise_moves hm.up ?_
        assumption
      · refine State.put_moves (Can.of hm) ?_
        assumption

theorem oscWindowEnd_moves {m} {a s : State} {x1} (hm : Sub 0x200000000000000000e0800000000000000000000000000000000000000100000000000000000000000000000000000000000000000000000000600000010000000000000000000000000000000000000000000000000000000000000000000000000000000000000420c08 m) (h : Moves m a s) : Moves m a (oscWindowEnd s x1) := by
  unfold oscWindowEnd
  split
  · assumption
  · extract_lets +onlyGivenNames v7
    clear_value v7
    extract_lets +onlyGivenNames s8
    have h9 : Moves m a s8 := by
      unfold s8
      refine State.modSp_moves hm.up ?_
      assumption
    clear_value s8
    refine State.onIf_moves ?_ ?_
    · assumption
    · intro s10 h11
      refine oscAct_moves hm.up ?_
      assumption

theorem pgStep_moves {m} {a s : State} {x1 x2 x3} (hm : Sub 0x1000000000000000000000000000000000000000000000000000000000000000000000000000000000000000000000000340 m) (h : Moves m a s) : Moves m a (pgStep s x1 x2 x3) := by
  unfold pgStep
  extract_lets +onlyGivenNames v1
  clear_value v1
  extract_lets +onlyGivenNames v2
  clear_value v2
  extract_lets +onlyGivenNames v3
  have h4 : ∀ y1 y2 y3 y4, Moves m a y1 → Moves m a (v3 y1 y2 y3 y4) := by
    intro y1 y2 y3 y4 h5
    unfold v3
    refine State.putLw_moves hm.up ?_
    refine State.putLw_moves hm.up ?_
    assumption
  clear_value v3
  refine Moves.ite (fun _ => ?_) (fun _ => ?_)
  · refine State.putBit_moves hm.up (Can.of hm) ?_
    apply h4
    assumption
  · extract_lets +onlyGivenNames v6
    clear_value v6
    extract_lets +onlyGivenNames v7
    clear_value v7
    extract_lets +onlyGivenNames v8
    clear_value v8
    extract_lets +onlyGivenNames v9
    clear_value v9
    extract_lets +onlyGivenNames v10
    clear_value v10
    extract_lets +onlyGivenNames v11
    clear_value v11
    extract_lets +onlyGivenNames v12
    clear_value v12
    refine Moves.ite (fun _ => ?_) (fun _ => ?_)
    · refine State.putBit_moves hm.up (Can.of hm) ?_
      assumption
    · extract_lets +onlyGivenNames v13
      clear_value v13
      extract_lets +onlyGivenNames v14
      clear_value v14
      extract_lets +onlyGivenNames v15
      clear_value v15
      extract_lets +onlyGivenNames v16
      clear_value v16
      extract_lets +onlyGivenNames v17
      clear_value v17
      extract_lets +onlyGivenNames v18
      clear_value v18
      extract_lets +onlyGivenNames v19
      clear_value v19
      extract_lets +onlyGivenNames v20
      clear_value v20
      refine Moves.ite (fun _ => ?_) (fun _ => ?_)
      · refine State.putBit_moves hm.up (Can.of hm) ?_
        apply h4
        assumption
      · refine State.putBit_moves hm.up (Can.of hm) ?_
        apply h4
        assumption

theorem pgAll_moves {m} {a s : State} {x1 x2} (hm : Sub 0x1000000000000000000000000000000000000000000000000000000000000000000000000000000000000000000000000340 m) (h : Moves m a s) : Moves m a (pgAll s x1 x2) := by
  unfold pgAll
  refine State.forN_moves ?_ ?_
  · assumption
  · intro v1 s2 h3
    refine pgStep_moves hm.up ?_
    assumption

/-! ### FieldStage -/

theorem modObs_moves {m} {a s : State} {x1 x2} (hm : Sub 0x20000 m) (h : Moves m a s) : Moves m a (modObs s x1 x2) := by
  unfold modObs
  refine State.modFld_moves hm.up ?_
  assumption

theorem modWatch_moves {m} {a s : State} {x1 x2} (hm : Sub 0x20000 m) (h : Moves m a s) : Moves m a (modWatch s x1 x2) := by
  unfold modWatch
  refine State.modFld_moves hm.up ?_
  assumption

theorem modDtc_moves {m} {a s : State} {x1 x2} (hm : Sub 0x20000 m) (h : Moves m a s) : Moves m a (modDtc s x1 x2) := by
  unfold modDtc
  refine State.modFld_moves hm.up ?_
  assumption

theorem modGrid_moves {m} {a s : State} {x1 x2} (hm : Sub 0x20000 m) (h : Moves m a s) : Moves m a (modGrid s x1 x2) := by
  unfold modGrid
  refine State.modFld_moves hm.up ?_
  assumption

theorem fieldAngles_moves {m} {a s : State} {x1} (hm : Sub 0x600000000000000000000000000000000000000000000000000000000000000000000000000000000000000000000000000000000000000000000 m) (h : Moves m a s) : Moves m a (fieldAngles s x1) := by
  unfold fieldAngles
  extract_lets +onlyGivenNames v1
  clear_value v1
  extract_lets +onlyGivenNames v2
  clear_value v2
  extract_lets +onlyGivenNames v3
  clear_value v3
  extract_lets +onlyGivenNames v4
  clear_value v4
  refine Moves.ite (fun _ => ?_) (fun _ => ?_)
  · extract_lets +onlyGivenNames v5
    clear_value v5
    extract_lets +onlyGivenNames v6
    clear_value v6
    refine State.put_moves (Can.of hm) ?_
    refine State.put_moves (Can.of hm) ?_
    assumption
  · extract_lets +onlyGivenNames v7
    clear_value v7
    extract_lets +onlyGivenNames v8
    clear_value v8
    refine State.put_moves (Can.of hm) ?_
    refine State.put_moves (Can.of hm) ?_
    assumption

theorem limShow_moves {m} {a s : State} {x1} (hm : Sub 0x30000000000000000000000000000000000000000000000000000000000000000000000000000000000000000000000000000000000000000000000 m) (h : Moves m a s) : Moves m a (limShow s x1) := by
  unfold limShow
  extract_lets +onlyGivenNames v1
  clear_value v1
  refine State.put_moves (Can.of hm) ?_
  refine State.put_moves (Can.of hm) ?_
  assumption

theorem limStep_moves {m} {a s : State} {x1 x2} (hm : Sub 0x30000000000000000000000000000000000000000000000000000000000000000000000000000000000000000000000000000000000000000030000 m) (h : Moves m a s) : Moves m a (limStep s x1 x2) := by
  unfold limStep
  extract_lets +onlyGivenNames v1
  clear_value v1
  extract_lets +onlyGivenNames s2
  have h3 : Moves m a s2 := by
    unfold s2
    refine State.onIf_moves ?_ ?_
    · assumption
    · intro s4 h5
      refine State.modFld_moves hm.up ?_
      assumption
  clear_value s2
  extract_lets +onlyGivenNames v6
  clear_value v6
  split
  · extract_lets +onlyGivenNames v10
    clear_value v10
    extract_lets +onlyGivenNames v11
    clear_value v11
    extract_lets +onlyGivenNames v12
    clear_value v12
    extract_lets +onlyGivenNames s13
    have h14 : Moves m a s13 := by
      unfold s13
      refine State.modFld_moves hm.up ?_
      assumption
    clear_value s13
    refine limShow_moves hm.up ?_
    refine State.onIf_moves ?_ ?_
    · assumption
    · intro s15 h16
      refine State.modChan_moves hm.up ?_
      assumption
  · refine limShow_moves hm.up ?_
    refine State.modFld_moves hm.up ?_
    assumption

theorem limEnter_moves {m} {a s : State} {x1} (hm : Sub 0x30000000000000000000000000000000000000000000000000000000000000000000000000000000000000000000000000000000000000000020000 m) (h : Moves m a s) : Moves m a (limEnter s x1) := by
  unfold limEnter
  extract_lets +onlyGivenNames v1
  clear_value v1
  refine limShow_moves hm.up ?_
  refine State.modFld_moves hm.up ?_
  assumption

theorem refForm_moves {m} {a s : State} {x1} (hm : Sub 0x20340 m) (h : Moves m a s) : Moves m a (refForm s x1) := by
  unfold refForm
  extract_lets +onlyGivenNames v1
  clear_value v1
  extract_lets +onlyGivenNames v2
  clear_value v2
  extract_lets +onlyGivenNames v3
  clear_value v3
  extract_lets +onlyGivenNames v4
  clear_value v4
  extract_lets +onlyGivenNames v5
  clear_value v5
  extract_lets +onlyGivenNames v6
  clear_value v6
  extract_lets +onlyGivenNames v7
  clear_value v7
  extract_lets +onlyGivenNames v8
  clear_value v8
  extract_lets +onlyGivenNames v9
  have h10 : ∀ y1 y2 y3 y4 y5, Moves m a y1 → Moves m a (v9 y1 y2 y3 y4 y5) := by
    intro y1 y2 y3 y4 y5 h11
    unfold v9
    refine State.putPairs_moves hm.up ?_
    refine State.putPairs_moves hm.up ?_
    assumption
  clear_value v9
  split
  · extract_lets +onlyGivenNames v14
    clear_value v14
    extract_lets +onlyGivenNames v15
    clear_value v15
    apply h10
    assumption
  · apply h10
    assumption
  · extract_lets +onlyGivenNames v21
    clear_value v21
    extract_lets +onlyGivenNames v22
    clear_value v22
    extract_lets +onlyGivenNames v23
    clear_value v23
    extract_lets +onlyGivenNames v24
    clear_value v24
    extract_lets +onlyGivenNames v25
    clear_value v25
    extract_lets +onlyGivenNames v26
    clear_value v26
    extract_lets +onlyGivenNames v27
    clear_value v27
    extract_lets +onlyGivenNames v28
    clear_value v28
    extract_lets +onlyGivenNames v29
    clear_value v29
    extract_lets +onlyGivenNames v30
    clear_value v30
    extract_lets +onlyGivenNames v31
    clear_value v31
    extract_lets +onlyGivenNames v32
    clear_value v32
    extract_lets +onlyGivenNames v33
    clear_value v33
    extract_lets +onlyGivenNames v34
    clear_value v34
    refine State.modFld_moves hm.up ?_
    apply h10
    assumption

theorem fieldWeaken_moves {m} {a s : State} {x1 x2 x3 x4 x5} (hm : Sub 0x2000000000000008000000000000000000000000000000000000000000000000000000000000000000000000000000000000000000000000020000 m) (h : Moves m a s) : Moves m a (fieldWeaken s x1 x2 x3 x4 x5) := by
  unfold fieldWeaken
  refine Moves.ite (fun _ => ?_) (fun _ => ?_)
  · assumption
  · extract_lets +onlyGivenNames v1
    clear_value v1
    extract_lets +onlyGivenNames v2
    clear_value v2
    extract_lets +onlyGivenNames v3
    clear_value v3
    extract_lets +onlyGivenNames v4
    clear_value v4
    extract_lets +onlyGivenNames v5
    clear_value v5
    extract_lets +onlyGivenNames v6
    clear_value v6
    extract_lets +onlyGivenNames v7
    clear_value v7
    extract_lets +onlyGivenNames s8
    have h9 : Moves m a s8 := by
      unfold s8
      refine State.modFld_moves hm.up ?_
      assumption
    clear_value s8
    refine State.putS_moves hm.up (Can.of hm) ?_
    refine State.putB_moves hm.up (Can.of hm) ?_
    assumption

theorem driveVec_moves {m} {a s : State} {x1 x2} (hm : Sub 0x200000000000000000e08000000000000000000000000000000000000001000000000000000000020000000000000000000000000000000000000000000000000c000000000000f000000000000000000000000000000000000000000000000000000000000000000468408 m) (h : Moves m a s) : Moves m a (driveVec s x1 x2) := by
  unfold driveVec
  extract_lets +onlyGivenNames s1
  have h2 : Moves m a s1 := by
    unfold s1
    refine modDtc_moves hm.up ?_
    assumption
  clear_value s1
  refine State.forL_moves ?_ ?_
  · assumption
  · intro v3 s4 h5
    extract_lets +onlyGivenNames v6
    clear_value v6
    refine State.legApply_moves hm.up ?_
    refine State.modLeg_moves hm.up ?_
    assumption

theorem taskFreeze_moves {m} {a s : State} {x1} (hm : Sub 0x200000000000000000000000000000000000000000000000000000000000000000000000000000000000020000 m) (h : Moves m a s) : Moves m a (taskFreeze s x1) := by
  unfold taskFreeze
  extract_lets +onlyGivenNames v1
  clear_value v1
  refine frzShow_moves hm.up ?_
  refine State.modSp_moves hm.up ?_
  assumption

theorem taskBegin_moves {m} {a s : State} {x1 x2} (hm : Sub 0x200000000000000000e08000000000000000000000000000000000000001000000000000000000020000000000000000000000000000006000000000000002000c000000000000f000000000000000000000000000000000000000000000000000000000000000000468408 m) (h : Moves m a s) : Moves m a (taskBegin s x1 x2) := by
  unfold taskBegin
  refine driveVec_moves hm.up ?_
  refine taskFreeze_moves hm.up ?_
  refine State.put_moves (Can.of hm) ?_
  refine State.put_moves (Can.of hm) ?_
  assumption

theorem observerUpdate_moves {m} {a s : State} {x1 x2 x3 x4} (hm : Sub 0x200000000000000000e08000000000000000000000000000000000000001000000000000000000020000000000000000018000000000007000000000000002000c000000000000f000000000000000000000000000000000000000000000000000000000000000000468408 m) (h : Moves m a s) : Moves m a (observerUpdate s x1 x2 x3 x4) := by
  unfold observerUpdate
  refine Moves.ite (fun _ => ?_) (fun _ => ?_)
  · assumption
  · extract_lets +onlyGivenNames v1
    clear_value v1
    extract_lets +onlyGivenNames v2
    clear_value v2
    extract_lets +onlyGivenNames v3
    clear_value v3
    extract_lets +onlyGivenNames v4
    clear_value v4
    extract_lets +onlyGivenNames v5
    clear_value v5
    extract_lets +onlyGivenNames v6
    clear_value v6
    extract_lets +onlyGivenNames v7
    clear_value v7
    extract_lets +onlyGivenNames v8
    clear_value v8
    extract_lets +onlyGivenNames v9
    clear_value v9
    extract_lets +onlyGivenNames v10
    clear_value v10
    extract_lets +onlyGivenNames v11
    clear_value v11
    extract_lets +onlyGivenNames v12
    clear_value v12
    extract_lets +onlyGivenNames v13
    clear_value v13
    extract_lets +onlyGivenNames v14
    clear_value v14
    extract_lets +onlyGivenNames v15
    clear_value v15
    extract_lets +onlyGivenNames v16
    clear_value v16
    extract_lets +onlyGivenNames v17
    clear_value v17
    extract_lets +onlyGivenNames v18
    clear_value v18
    extract_lets +onlyGivenNames v19
    clear_value v19
    extract_lets +onlyGivenNames v20
    clear_value v20
    extract_lets +onlyGivenNames v21
    clear_value v21
    extract_lets +onlyGivenNames v22
    clear_value v22
    extract_lets +onlyGivenNames v23
    clear_value v23
    extract_lets +onlyGivenNames v24
    clear_value v24
    extract_lets +onlyGivenNames v25
    clear_value v25
    extract_lets +onlyGivenNames v26
    clear_value v26
    extract_lets +onlyGivenNames v27
    clear_value v27
    extract_lets +onlyGivenNames v28
    clear_value v28
    extract_lets +onlyGivenNames s29
    have h30 : Moves m a s29 := by
      unfold s29
      refine State.putS_moves hm.up (Can.of hm) ?_
      refine State.put_moves (Can.of hm) ?_
      assumption
    clear_value s29
    extract_lets +onlyGivenNames s31
    have h32 : Moves m a s31 := by
      unfold s31
      refine modObs_moves hm.up ?_
      assumption
    clear_value s31
    extract_lets +onlyGivenNames s33
    have h34 : Moves m a s33 := by
      unfold s33
      refine State.onIf_moves ?_ ?_
      · assumption
      · intro s35 h36
        refine State.put_moves (Can.of hm) ?_
        assumption
    clear_value s33
    refine State.onIf_moves ?_ ?_
    · assumption
    · intro s37 h38
      extract_lets +onlyGivenNames v39
      clear_value v39
      extract_lets +onlyGivenNames v40
      clear_value v40
      extract_lets +onlyGivenNames v41
      clear_value v41
      refine taskBegin_moves hm.up ?_
      refine modDtc_moves hm.up ?_
      assumption

theorem recapFail_moves {m} {a s : State} {x1} (hm : Sub 0x200000000000000000e0800000000000000000000000000000000000000100000000000000000000000000000000000000000000000000200000000000000000000000000000000000000000000000000000000000000000000000000000000000000000000000000400c08 m) (h : Moves m a s) : Moves m a (recapFail s x1) := by
  unfold recapFail
  refine State.put_moves (Can.of hm) ?_
  refine State.raise_moves hm.up ?_
  refine State.logEv_moves hm.up ?_
  assumption

theorem obsLost_moves {m} {a s : State} {x1} (hm : Sub 0x200000000000000000e0800000000000000000000000000000000000000100000000000000000000000000000000000001000000000000381000000000000000000000000000000000000000000000000000000000000000000000000000000000000000000000000420c08 m) (h : Moves m a s) : Moves m a (obsLost s x1) := by
  unfold obsLost
  refine Moves.ite (fun _ => ?_) (fun _ => ?_)
  · assumption
  · extract_lets +onlyGivenNames s1
    have h2 : Moves m a s1 := by
      unfold s1
      refine State.put_moves (Can.of hm) ?_
      refine State.put_moves (Can.of hm) ?_
      refine State.logEv_moves hm.up ?_
      assumption
    clear_value s1
    extract_lets +onlyGivenNames s3
    have h4 : Moves m a s3 := by
      unfold s3
      refine State.owlTrig_moves hm.up ?_
      refine State.raise_moves hm.up ?_
      assumption
    clear_value s3
    extract_lets +onlyGivenNames v5
    clear_value v5
    extract_lets +onlyGivenNames v6
    clear_value v6
    extract_lets +onlyGivenNames s7
    have h8 : Moves m a s7 := by
      unfold s7
      refine State.putS_moves hm.up (Can.of hm) ?_
      assumption
    clear_value s7
    extract_lets +onlyGivenNames s9
    have h10 : Moves m a s9 := by
      unfold s9
      refine modObs_moves hm.up ?_
      assumption
    clear_value s9
    refine Moves.ite (fun _ => ?_) (fun _ => ?_)
    · assumption
    · refine Moves.ite (fun _ => ?_) (fun _ => ?_)
      · refine recapFail_moves hm.up ?_
        assumption
      · refine Moves.ite (fun _ => ?_) (fun _ => ?_)
        · refine Moves.ite (fun _ => ?_) (fun _ => ?_)
          · refine recapFail_moves hm.up ?_
            assumption
          · refine modDtc_moves hm.up ?_
            refine State.put_moves (Can.of hm) ?_
            assumption
        · assumption

theorem lockedWatch_moves {m} {a s : State} {x1 x2} (hm : Sub 0x20000 m) (h : Moves m a s) : Moves m a (lockedWatch s x1 x2) := by
  unfold lockedWatch
  refine Moves.ite (fun _ => ?_) (fun _ => ?_)
  · assumption
  · extract_lets +onlyGivenNames v1
    clear_value v1
    extract_lets +onlyGivenNames v2
    clear_value v2
    extract_lets +onlyGivenNames v3
    clear_value v3
    extract_lets +onlyGivenNames v4
    clear_value v4
    refine modWatch_moves hm.up ?_
    assumption

theorem fluxWatch_moves {m} {a s : State} {x1 x2 x3} (hm : Sub 0x4000000000000000000000000000000000000000000000000000000000000000000000000000000000000000000000000000000000000000020000 m) (h : Moves m a s) : Moves m a (fluxWatch s x1 x2 x3) := by
  unfold fluxWatch
  refine Moves.ite (fun _ => ?_) (fun _ => ?_)
  · assumption
  · extract_lets +onlyGivenNames v1
    clear_value v1
    extract_lets +onlyGivenNames v2
    clear_value v2
    extract_lets +onlyGivenNames v3
    clear_value v3
    refine Moves.ite (fun _ => ?_) (fun _ => ?_)
    · assumption
    · extract_lets +onlyGivenNames v4
      clear_value v4
      extract_lets +onlyGivenNames v5
      clear_value v5
      extract_lets +onlyGivenNames v6
      clear_value v6
      extract_lets +onlyGivenNames v7
      clear_value v7
      extract_lets +onlyGivenNames v8
      clear_value v8
      extract_lets +onlyGivenNames v9
      clear_value v9
      refine State.put_moves (Can.of hm) ?_
      refine modWatch_moves hm.up ?_
      assumption

theorem fluxRestart_moves {m} {a s : State} {x1} (hm : Sub 0x4000000000000000000000000000000000000000000000000000000000000000000000000000000000000000000000000000000000000000020000 m) (h : Moves m a s) : Moves m a (fluxRestart s x1) := by
  unfold fluxRestart
  refine State.put_moves (Can.of hm) ?_
  refine modWatch_moves hm.up ?_
  assumption

theorem gridUpdate_moves {m} {a s : State} {x1 x2} (hm : Sub 0x8000000000000000000000000000000000000000000000000000000000000000000000000000000000000000000000000000000000000000020000 m) (h : Moves m a s) : Moves m a (gridUpdate s x1 x2) := by
  unfold gridUpdate
  refine Moves.ite (fun _ => ?_) (fun _ => ?_)
  · assumption
  · extract_lets +onlyGivenNames v1
    clear_value v1
    extract_lets +onlyGivenNames v2
    clear_value v2
    extract_lets +onlyGivenNames v3
    clear_value v3
    extract_lets +onlyGivenNames v4
    clear_value v4
    extract_lets +onlyGivenNames v5
    clear_value v5
    extract_lets +onlyGivenNames v6
    clear_value v6
    extract_lets +onlyGivenNames v7
    clear_value v7
    extract_lets +onlyGivenNames v8
    clear_value v8
    extract_lets +onlyGivenNames v9
    clear_value v9
    extract_lets +onlyGivenNames v10
    clear_value v10
    extract_lets +onlyGivenNames v11
    clear_value v11
    extract_lets +onlyGivenNames v12
    clear_value v12
    extract_lets +onlyGivenNames v13
    clear_value v13
    extract_lets +onlyGivenNames v14
    clear_value v14
    extract_lets +onlyGivenNames v15
    clear_value v15
    extract_lets +onlyGivenNames v16
    clear_value v16
    extract_lets +onlyGivenNames v17
    clear_value v17
    extract_lets +onlyGivenNames v18
    clear_value v18
    extract_lets +onlyGivenNames v19
    clear_value v19
    extract_lets +onlyGivenNames v20
    clear_value v20
    extract_lets +onlyGivenNames v21
    clear_value v21
    extract_lets +onlyGivenNames v22
    clear_value v22
    extract_lets +onlyGivenNames v23
    clear_value v23
    extract_lets +onlyGivenNames v24
    clear_value v24
    extract_lets +onlyGivenNames v25
    clear_value v25
    refine State.put_moves (Can.of hm) ?_
    refine modGrid_moves hm.up ?_
    assumption

theorem dtcRelease_moves {m} {a s : State} {x1} (hm : Sub 0x200000000000000000e08000000000000000000000000000000000000001000000000000000000020000000000000000000000000000000000000000000000000c000000000000f000000000000000000000000000000000000000000000000000000000000000000448408 m) (h : Moves m a s) : Moves m a (dtcRelease s x1) := by
  unfold dtcRelease
  refine State.forL_moves ?_ ?_
  · assumption
  · intro v1 s2 h3
    refine State.legApply_moves hm.up ?_
    refine State.modLeg_moves hm.up ?_
    assumption

theorem paceLand_moves {m} {a s : State} {x1 x2} (hm : Sub 0x20000 m) (h : Moves m a s) : Moves m a (paceLand s x1 x2) := by
  unfold paceLand
  refine State.onIf_moves ?_ ?_
  · assumption
  · intro s1 h2
    refine modDtc_moves hm.up ?_
    assumption

theorem hoJudge_moves {m} {a s : State} {x1} (hm : Sub 0x20000 m) (h : Moves m a s) : Moves m a (hoJudge s x1) := by
  unfold hoJudge
  extract_lets +onlyGivenNames v1
  clear_value v1
  extract_lets +onlyGivenNames v2
  clear_value v2
  extract_lets +onlyGivenNames v3
  clear_value v3
  refine modDtc_moves hm.up ?_
  assumption

theorem dtcEngine_moves {m} {a s : State} {x1} (hm : Sub 0x200000000000000000e08000000000000000000000000000000000000001000000000000000000020000000000000000000000000000000000000000000000000c000000000000f000000000000000000000000000000000000000000000000000000000000000000468408 m) (h : Moves m a s) : Moves m a (dtcEngine s x1) := by
  unfold dtcEngine
  extract_lets +onlyGivenNames v1
  clear_value v1
  extract_lets +onlyGivenNames v2
  clear_value v2
  extract_lets +onlyGivenNames v3
  clear_value v3
  extract_lets +onlyGivenNames v4
  clear_value v4
  extract_lets +onlyGivenNames v5
  clear_value v5
  extract_lets +onlyGivenNames v6
  clear_value v6
  extract_lets +onlyGivenNames v7
  clear_value v7
  extract_lets +onlyGivenNames v8
  clear_value v8
  extract_lets +onlyGivenNames v9
  clear_value v9
  extract_lets +onlyGivenNames v10
  clear_value v10
  extract_lets +onlyGivenNames v11
  clear_value v11
  extract_lets +onlyGivenNames v12
  clear_value v12
  extract_lets +onlyGivenNames v13
  clear_value v13
  extract_lets +onlyGivenNames v14
  clear_value v14
  extract_lets +onlyGivenNames v15
  clear_value v15
  extract_lets +onlyGivenNames v16
  clear_value v16
  extract_lets +onlyGivenNames v17
  clear_value v17
  extract_lets +onlyGivenNames v18
  clear_value v18
  extract_lets +onlyGivenNames v19
  clear_value v19
  extract_lets +onlyGivenNames v20
  clear_value v20
  extract_lets +onlyGivenNames v21
  clear_value v21
  extract_lets +onlyGivenNames v22
  clear_value v22
  extract_lets +onlyGivenNames v23
  clear_value v23
  extract_lets +onlyGivenNames v24
  clear_value v24
  extract_lets +onlyGivenNames v25
  clear_value v25
  extract_lets +onlyGivenNames v26
  clear_value v26
  extract_lets +onlyGivenNames v27
  clear_value v27
  extract_lets +onlyGivenNames v28
  clear_value v28
  extract_lets +onlyGivenNames s29
  have h30 : Moves m a s29 := by
    unfold s29
    refine modDtc_moves hm.up ?_
    assumption
  clear_value s29
  extract_lets +onlyGivenNames s31
  have h32 : Moves m a s31 := by
    unfold s31
    refine modObs_moves hm.up ?_
    assumption
  clear_value s31
  refine hoJudge_moves hm.up ?_
  refine driveVec_moves hm.up ?_
  assumption

theorem ipdStep_moves {m} {a s : State} {x1} (hm : Sub 0x200000000000000000e08000000000000000000000000000000000000001000000000000000000020000000000000000000000000000000000000000000000000c000000000000f000000000000000000000000000000000000000000000000000000000000000000468408 m) (h : Moves m a s) : Moves m a (ipdStep s x1) := by
  unfold ipdStep
  extract_lets +onlyGivenNames v1
  clear_value v1
  extract_lets +onlyGivenNames v2
  clear_value v2
  extract_lets +onlyGivenNames v3
  clear_value v3
  refine Moves.ite (fun _ => ?_) (fun _ => ?_)
  · extract_lets +onlyGivenNames v4
    clear_value v4
    extract_lets +onlyGivenNames v5
    clear_value v5
    refine Moves.ite (fun _ => ?_) (fun _ => ?_)
    · refine driveVec_moves hm.up ?_
      refine modDtc_moves hm.up ?_
      assumption
    · assumption
  · refine Moves.ite (fun _ => ?_) (fun _ => ?_)
    · refine driveVec_moves hm.up ?_
      refine modDtc_moves hm.up ?_
      assumption
    · assumption

theorem runStart_moves {m} {a s : State} {x1 x2} (hm : Sub 0x20000 m) (h : Moves m a s) : Moves m a (runStart s x1 x2) := by
  unfold runStart
  refine modDtc_moves hm.up ?_
  assumption

theorem recSettle_moves {m} {a s : State} {x1 x2} (hm : Sub 0x20000 m) (h : Moves m a s) : Moves m a (recSettle s x1 x2) := by
  unfold recSettle
  extract_lets +onlyGivenNames v1
  clear_value v1
  split
  · refine runStart_moves hm.up ?_
    assumption
  · extract_lets +onlyGivenNames v7
    clear_value v7
    extract_lets +onlyGivenNames v8
    clear_value v8
    extract_lets +onlyGivenNames v9
    clear_value v9
    extract_lets +onlyGivenNames v10
    clear_value v10
    refine Moves.ite (fun _ => ?_) (fun _ => ?_)
    · refine runStart_moves hm.up ?_
      assumption
    · refine modDtc_moves hm.up ?_
      assumption

theorem recProbe_moves {m} {a s : State} {x1 x2} (hm : Sub 0x200000000000000000e08000000000000000000000000000000000000001000000000000000000020000000000000000000000000000000000000000000000000c000000000000f000000000000000000000000000000000000000000000000000000000000000000468408 m) (h : Moves m a s) : Moves m a (recProbe s x1 x2) := by
  unfold recProbe
  extract_lets +onlyGivenNames v1
  clear_value v1
  extract_lets +onlyGivenNames v2
  clear_value v2
  extract_lets +onlyGivenNames v3
  clear_value v3
  extract_lets +onlyGivenNames v4
  have h5 : ∀ y1 y2 y3, Moves m a y1 → Moves m a (v4 y1 y2 y3) := by
    intro y1 y2 y3 h6
    unfold v4
    refine driveVec_moves hm.up ?_
    refine modDtc_moves hm.up ?_
    assumption
  clear_value v4
  split
  · refine Moves.ite (fun _ => ?_) (fun _ => ?_)
    · refine modDtc_moves hm.up ?_
      assumption
    · split
      · refine modDtc_moves hm.up ?_
        assumption
      · refine Moves.ite (fun _ => ?_) (fun _ => ?_)
        · apply h5
          assumption
        · assumption
  · refine Moves.ite (fun _ => ?_) (fun _ => ?_)
    · apply h5
      assumption
    · assumption
  · refine Moves.ite (fun _ => ?_) (fun _ => ?_)
    · apply h5
      assumption
    · assumption
  · refine Moves.ite (fun _ => ?_) (fun _ => ?_)
    · apply h5
      assumption
    · assumption
  · assumption

theorem recDecision_moves {m} {a s : State} {x1} (hm : Sub 0x200000000000000000e08000000000000000000000000000000000000001000000000000000000020000000000000000000000000000000000000000000000000c000000000000f000000000000000000000000000000000000000000000000000000000000000000468408 m) (h : Moves m a s) : Moves m a (recDecision s x1) := by
  unfold recDecision
  extract_lets +onlyGivenNames v1
  clear_value v1
  extract_lets +onlyGivenNames v2
  clear_value v2
  extract_lets +onlyGivenNames v3
  clear_value v3
  split
  · extract_lets +onlyGivenNames v7
    clear_value v7
    refine driveVec_moves hm.up ?_
    refine modDtc_moves hm.up ?_
    assumption
  · refine Moves.ite (fun _ => ?_) (fun _ => ?_)
    · assumption
    · refine Moves.ite (fun _ => ?_) (fun _ => ?_)
      · refine recProbe_moves hm.up ?_
        assumption
      · refine recSettle_moves hm.up ?_
        assumption
  · refine dtcEngine_moves hm.up ?_
    assumption

theorem takeDecision_moves {m} {a s : State} {x1} (hm : Sub 0x200000000000000000e08000000000000000000000000000000000000001000000000000000000020000000000000000000000000000006000000000000002000c000000000000f000000000000000000000000000000000000000000000000000000000000000000468408 m) (h : Moves m a s) : Moves m a (takeDecision s x1) := by
  unfold takeDecision
  extract_lets +onlyGivenNames s1
  have h2 : Moves m a s1 := by
    unfold s1
    refine State.onIf_moves ?_ ?_
    · assumption
    · intro s3 h4
      refine modDtc_moves hm.up ?_
      refine taskBegin_moves hm.up ?_
      assumption
  clear_value s1
  extract_lets +onlyGivenNames s5
  have h6 : Moves m a s5 := by
    unfold s5
    split
    · refine ipdStep_moves hm.up ?_
      assumption
    · refine recDecision_moves hm.up ?_
      assumption
    · refine dtcEngine_moves hm.up ?_
      assumption
  clear_value s5
  extract_lets +onlyGivenNames s14
  have h15 : Moves m a s14 := by
    unfold s14
    refine State.put_moves (Can.of hm) ?_
    assumption
  clear_value s14
  refine modDtc_moves hm.up ?_
  assumption

theorem dtcDecision_moves {m} {a s : State} {x1} (hm : Sub 0x200000000000000000e08000000000000000000000000000000000000001000000000000000000020000000000000000000000000000006000000000000002000c000000000000f000000000000000000000000000000000000000000000000000000000000000000468408 m) (h : Moves m a s) : Moves m a (dtcDecision s x1) := by
  unfold dtcDecision
  extract_lets +onlyGivenNames v1
  clear_value v1
  refine Moves.ite (fun _ => ?_) (fun _ => ?_)
  · assumption
  · refine Moves.ite (fun _ => ?_) (fun _ => ?_)
    · refine modDtc_moves hm.up ?_
      assumption
    · refine takeDecision_moves hm.up ?_
      assumption

theorem dtcMiss_moves {m} {a s : State} {x1} (hm : Sub 0x200000000000000000e08000000000000000000000000000000000000001000000000000000000020000000000000000000000000000006000000000000000000c000000000000f000000000000000000000000000000000000000000000000000000000000000000468c08 m) (h : Moves m a s) : Moves m a (dtcMiss s x1) := by
  unfold dtcMiss
  refine Moves.ite (fun _ => ?_) (fun _ => ?_)
  · assumption
  · extract_lets +onlyGivenNames s1
    have h2 : Moves m a s1 := by
      unfold s1
      refine State.logEv_moves hm.up ?_
      assumption
    clear_value s1
    extract_lets +onlyGivenNames v3
    clear_value v3
    extract_lets +onlyGivenNames s4
    have h5 : Moves m a s4 := by
      unfold s4
      refine modDtc_moves hm.up ?_
      assumption
    clear_value s4
    refine State.onIf_moves ?_ ?_
    · assumption
    · intro s6 h7
      extract_lets +onlyGivenNames s8
      have h9 : Moves m a s8 := by
        unfold s8
        refine State.put_moves (Can.of hm) ?_
        assumption
      clear_value s8
      extract_lets +onlyGivenNames s10
      have h11 : Moves m a s10 := by
        unfold s10
        refine State.onIf_moves ?_ ?_
        · assumption
        · intro s12 h13
          refine dtcRelease_moves hm.up ?_
          refine State.put_moves (Can.of hm) ?_
          assumption
      clear_value s10
      refine State.raise_moves hm.up ?_
      assumption

theorem hoState_moves {m} {a s : State} {x1} (hm : Sub 0x200000000000000000000000000000000000000000000000000000000000000000000000000000000000020340 m) (h : Moves m a s) : Moves m a (hoState s x1) := by
  unfold hoState
  extract_lets +onlyGivenNames v1
  clear_value v1
  extract_lets +onlyGivenNames v2
  clear_value v2
  extract_lets +onlyGivenNames v3
  clear_value v3
  extract_lets +onlyGivenNames v4
  clear_value v4
  extract_lets +onlyGivenNames v5
  clear_value v5
  extract_lets +onlyGivenNames v6
  clear_value v6
  extract_lets +onlyGivenNames v7
  clear_value v7
  extract_lets +onlyGivenNames v8
  clear_value v8
  extract_lets +onlyGivenNames v9
  clear_value v9
  extract_lets +onlyGivenNames s10
  have h11 : Moves m a s10 := by
    unfold s10
    refine State.putPairs_moves hm.up ?_
    assumption
  clear_value s10
  extract_lets +onlyGivenNames v12
  clear_value v12
  extract_lets +onlyGivenNames v13
  clear_value v13
  extract_lets +onlyGivenNames s14
  have h15 : Moves m a s14 := by
    unfold s14
    refine State.putLw_moves hm.up ?_
    refine State.putLw_moves hm.up ?_
    assumption
  clear_value s14
  refine frzShow_moves hm.up ?_
  refine State.modSp_moves hm.up ?_
  assumption

theorem handover_moves {m} {a s : State} {x1} (hm : Sub 0x200000000000000000e080000000000000000000000000000000000000010000000000000000000200000000100000fc800000000000006000000000000002000c000000000000f000000000000000000000000000000000000000000000000000000000000000000478748 m) (h : Moves m a s) : Moves m a (handover s x1) := by
  unfold handover
  extract_lets +onlyGivenNames v1
  clear_value v1
  extract_lets +onlyGivenNames v2
  clear_value v2
  refine Moves.ite (fun _ => ?_) (fun _ => ?_)
  · assumption
  · extract_lets +onlyGivenNames s3
    have h4 : Moves m a s3 := by
      unfold s3
      refine modObs_moves hm.up ?_
      refine hoState_moves hm.up ?_
      assumption
    clear_value s3
    extract_lets +onlyGivenNames s5
    have h6 : Moves m a s5 := by
      unfold s5
      refine modDtc_moves hm.up ?_
      assumption
    clear_value s5
    extract_lets +onlyGivenNames s7
    have h8 : Moves m a s7 := by
      unfold s7
      refine dtcRelease_moves hm.up ?_
      refine State.put_moves (Can.of hm) ?_
      refine State.put_moves (Can.of hm) ?_
      assumption
    clear_value s7
    extract_lets +onlyGivenNames s9
    have h10 : Moves m a s9 := by
      unfold s9
      refine State.logEv_moves hm.up ?_
      assumption
    clear_value s9
    extract_lets +onlyGivenNames s11
    have h12 : Moves m a s11 := by
      unfold s11
      refine State.onIf_moves ?_ ?_
      · assumption
      · intro s13 h14
        refine State.logEv_moves hm.up ?_
        assumption
    clear_value s11
    refine State.onIf_moves ?_ ?_
    · assumption
    · intro s15 h16
      refine enterStop_moves hm.up ?_
      assumption

theorem ipdComplete_moves {m} {a s : State} {x1 x2} (hm : Sub 0x200000000000000000e08000000000000000000000000000000000000001000000000000000000020000000000000000000000000000006000000000000000000c000000000000f000000000000000000000000000000000000000000000000000000000000000000468c08 m) (h : Moves m a s) : Moves m a (ipdComplete s x1 x2) := by
  unfold ipdComplete
  refine Moves.ite (fun _ => ?_) (fun _ => ?_)
  · assumption
  · extract_lets +onlyGivenNames v1
    clear_value v1
    extract_lets +onlyGivenNames v2
    clear_value v2
    extract_lets +onlyGivenNames v3
    clear_value v3
    extract_lets +onlyGivenNames v4
    clear_value v4
    extract_lets +onlyGivenNames v5
    clear_value v5
    extract_lets +onlyGivenNames v6
    clear_value v6
    extract_lets +onlyGivenNames v7
    clear_value v7
    refine Moves.ite (fun _ => ?_) (fun _ => ?_)
    · refine dtcRelease_moves hm.up ?_
      refine State.put_moves (Can.of hm) ?_
      refine State.put_moves (Can.of hm) ?_
      refine State.raise_moves hm.up ?_
      refine State.logEv_moves hm.up ?_
      assumption
    · extract_lets +onlyGivenNames v8
      clear_value v8
      extract_lets +onlyGivenNames v9
      clear_value v9
      extract_lets +onlyGivenNames v10
      clear_value v10
      extract_lets +onlyGivenNames s11
      have h12 : Moves m a s11 := by
        unfold s11
        refine modDtc_moves hm.up ?_
        assumption
      clear_value s11
      refine State.logEv_moves hm.up ?_
      refine State.put_moves (Can.of hm) ?_
      assumption

theorem recapAttemptEnd_moves {m} {a s : State} {x1} (hm : Sub 0x200000000000000000e08000000000000000000000000000000000000001000000000000000000020000000000000000000000000000006010000000000000000c000000000000f000000000000000000000000000000000000000000000000000000000000000000468c08 m) (h : Moves m a s) : Moves m a (recapAttemptEnd s x1) := by
  unfold recapAttemptEnd
  refine Moves.ite (fun _ => ?_) (fun _ => ?_)
  · assumption
  · extract_lets +onlyGivenNames v1
    clear_value v1
    extract_lets +onlyGivenNames s2
    have h3 : Moves m a s2 := by
      unfold s2
      refine State.put_moves (Can.of hm) ?_
      assumption
    clear_value s2
    refine Moves.ite (fun _ => ?_) (fun _ => ?_)
    · refine dtcRelease_moves hm.up ?_
      refine recapFail_moves hm.up ?_
      refine State.put_moves (Can.of hm) ?_
      assumption
    · refine modDtc_moves hm.up ?_
      assumption

theorem recapture_moves {m} {a s : State} {x1 x2 x3 x4} (hm : Sub 0x200000000000000000e08000000000000000000000000000000000000001000000000000000000020000000000000000018000000000006010000000000000000c000000000000f000000000000000000000000000000000000000000000000000000000000000000468c08 m) (h : Moves m a s) : Moves m a (recapture s x1 x2 x3 x4) := by
  unfold recapture
  extract_lets +onlyGivenNames v1
  clear_value v1
  split
  · extract_lets +onlyGivenNames v11
    clear_value v11
    extract_lets +onlyGivenNames v12
    clear_value v12
    extract_lets +onlyGivenNames v13
    clear_value v13
    refine Moves.ite (fun _ => ?_) (fun _ => ?_)
    · refine recapAttemptEnd_moves hm.up ?_
      assumption
    · extract_lets +onlyGivenNames v14
      clear_value v14
      extract_lets +onlyGivenNames v15
      clear_value v15
      extract_lets +onlyGivenNames v16
      clear_value v16
      extract_lets +onlyGivenNames v17
      clear_value v17
      extract_lets +onlyGivenNames v18
      clear_value v18
      extract_lets +onlyGivenNames v19
      clear_value v19
      extract_lets +onlyGivenNames v20
      clear_value v20
      extract_lets +onlyGivenNames v21
      clear_value v21
      extract_lets +onlyGivenNames v22
      clear_value v22
      extract_lets +onlyGivenNames v23
      clear_value v23
      extract_lets +onlyGivenNames s24
      have h25 : Moves m a s24 := by
        unfold s24
        refine State.putS_moves hm.up (Can.of hm) ?_
        refine State.put_moves (Can.of hm) ?_
        assumption
      clear_value s24
      extract_lets +onlyGivenNames s26
      have h27 : Moves m a s26 := by
        unfold s26
        refine modObs_moves hm.up ?_
        assumption
      clear_value s26
      refine modDtc_moves hm.up ?_
      assumption
  · assumption

theorem runTask_moves {m} {a s : State} {x1} (hm : Sub 0x200000000000000000e08000000000000000000000000000000000000001000000000000000000020000000000000000000000000000006000000000000002000c000000000000f000000000000000000000000000000000000000000000000000000000000000000468408 m) (h : Moves m a s) : Moves m a (runTask s x1) := by
  unfold runTask
  extract_lets +onlyGivenNames v1
  clear_value v1
  extract_lets +onlyGivenNames v2
  clear_value v2
  extract_lets +onlyGivenNames s3
  have h4 : Moves m a s3 := by
    unfold s3
    refine modObs_moves hm.up ?_
    assumption
  clear_value s3
  extract_lets +onlyGivenNames s5
  have h6 : Moves m a s5 := by
    unfold s5
    refine modDtc_moves hm.up ?_
    assumption
  clear_value s5
  refine Moves.ite (fun _ => ?_) (fun _ => ?_)
  · refine State.put_moves (Can.of hm) ?_
    refine State.put_moves (Can.of hm) ?_
    assumption
  · refine taskBegin_moves hm.up ?_
    assumption

/-! ### Spindle -/

theorem swapsDue_moves {m} {a s : State} {x1} (hm : Sub 0x200000000000000000e0800000000000000000000000000000000000000100000000000000000000000000000000000000000000000000000000000600030780000000000000000000000000000000000000000000000000000000000000000000000000018000000420748 m) (h : Moves m a s) : Moves m a (swapsDue s x1) := by
  unfold swapsDue
  refine Moves.ite (fun _ => ?_) (fun _ => ?_)
  · refine State.modSp_moves hm.up ?_
    assumption
  · refine Moves.ite (fun _ => ?_) (fun _ => ?_)
    · extract_lets +onlyGivenNames s1
      have h2 : Moves m a s1 := by
        unfold s1
        refine State.onIf_moves ?_ ?_
        · assumption
        · intro s3 h4
          refine State.logEv_moves hm.up ?_
          refine State.put_moves (Can.of hm) ?_
          assumption
      clear_value s1
      extract_lets +onlyGivenNames s5
      have h6 : Moves m a s5 := by
        unfold s5
        refine State.logEv_moves hm.up ?_
        refine bankSwap_moves hm.up ?_
        assumption
      clear_value s5
      extract_lets +onlyGivenNames v7
      clear_value v7
      refine State.put_moves (Can.of hm) ?_
      refine State.modSp_moves hm.up ?_
      assumption
    · refine Moves.ite (fun _ => ?_) (fun _ => ?_)
      · refine bankSwap_moves hm.up ?_
        assumption
      · refine State.modSp_moves hm.up ?_
        assumption

theorem startKeep_moves {m} {a s : State} {x1 x2 x3} (hm : Sub 0x20000 m) (h : Moves m a s) : Moves m a (startKeep s x1 x2 x3) := by
  unfold startKeep
  refine State.onIf_moves ?_ ?_
  · assumption
  · intro s1 h2
    refine State.modSp_moves hm.up ?_
    assumption

theorem spReload_moves {m} {a s : State} {x1} (hm : Sub 0x200000000000000000e0800000000000000000000000000000000000000100000000000000000000000000000000000030000000000000000001000600030780400000000000000000000000000000000000000000000000000000000000000000000000018000000430748 m) (h : Moves m a s) : Moves m a (spReload s x1) := by
  unfold spReload
  extract_lets +onlyGivenNames v1
  clear_value v1
  extract_lets +onlyGivenNames v2
  clear_value v2
  extract_lets +onlyGivenNames v3
  clear_value v3
  extract_lets +onlyGivenNames s4
  have h5 : Moves m a s4 := by
    unfold s4
    refine swapsDue_moves hm.up ?_
    assumption
  clear_value s4
  extract_lets +onlyGivenNames s6
  have h7 : Moves m a s6 := by
    unfold s6
    refine State.putB_moves hm.up (Can.of hm) ?_
    assumption
  clear_value s6
  extract_lets +onlyGivenNames s8
  have h9 : Moves m a s8 := by
    unfold s8
    refine refForm_moves hm.up ?_
    refine limStep_moves hm.up ?_
    refine pgAll_moves hm.up ?_
    assumption
  clear_value s8
  extract_lets +onlyGivenNames s10
  have h11 : Moves m a s10 := by
    unfold s10
    refine startKeep_moves hm.up ?_
    assumption
  clear_value s10
  refine Moves.ite (fun _ => ?_) (fun _ => ?_)
  · refine State.modSp_moves hm.up ?_
    assumption
  · refine State.modSp_moves hm.up ?_
    assumption

theorem speculate_moves {m} {a s : State} {x1} (hm : Sub 0x200000000000000000e080000000000000000000000000000000000000010000000000000000000000000000000000000060000000000000000000000000000000000000000000000000000000000000000000000000000000000000000000000003fc00000000000420408 m) (h : Moves m a s) : Moves m a (speculate s x1) := by
  unfold speculate
  refine Moves.ite (fun _ => ?_) (fun _ => ?_)
  · assumption
  · extract_lets +onlyGivenNames s1
    have h2 : Moves m a s1 := by
      unfold s1
      refine fieldAngles_moves hm.up ?_
      assumption
    clear_value s1
    extract_lets +onlyGivenNames v3
    clear_value v3
    extract_lets +onlyGivenNames v4
    clear_value v4
    extract_lets +onlyGivenNames v5
    clear_value v5
    extract_lets +onlyGivenNames v6
    clear_value v6
    extract_lets +onlyGivenNames v7
    clear_value v7
    extract_lets +onlyGivenNames s8
    have h9 : Moves m a s8 := by
      unfold s8
      refine satMark_moves hm.up ?_
      refine satMark_moves hm.up ?_
      refine satMark_moves hm.up ?_
      assumption
    clear_value s8
    refine State.modSp_moves hm.up ?_
    assumption

theorem specDone_moves {m} {a s : State} {x1} (hm : Sub 0x20000 m) (h : Moves m a s) : Moves m a (specDone s x1) := by
  unfold specDone
  refine State.onIf_moves ?_ ?_
  · assumption
  · intro s1 h2
    refine State.modSp_moves hm.up ?_
    assumption

theorem release_moves {m} {a s : State} {x1 x2} (hm : Sub 0x28000 m) (h : Moves m a s) : Moves m a (release s x1 x2) := by
  unfold release
  extract_lets +onlyGivenNames v1
  clear_value v1
  extract_lets +onlyGivenNames s2
  have h3 : Moves m a s2 := by
    unfold s2
    refine State.onIf_moves ?_ ?_
    · assumption
    · intro s4 h5
      refine State.modCarr_moves hm.up ?_
      assumption
  clear_value s2
  refine State.modSp_moves hm.up ?_
  assumption

theorem loadCkpt_moves {m} {a s : State} {x1 x2} (hm : Sub 0x1800000000000000000000000000200000000000000000000000000000000000000000000000000000000000000000000000000000000000020340 m) (h : Moves m a s) : Moves m a (loadCkpt s x1 x2) := by
  unfold loadCkpt
  extract_lets +onlyGivenNames s1
  have h2 : Moves m a s1 := by
    unfold s1
    refine State.forL_moves ?_ ?_
    · assumption
    · intro v3 s4 h5
      refine State.putLw_moves hm.up ?_
      assumption
  clear_value s1
  extract_lets +onlyGivenNames s6
  have h7 : Moves m a s6 := by
    unfold s6
    refine State.put_moves (Can.of hm) ?_
    refine State.put_moves (Can.of hm) ?_
    assumption
  clear_value s6
  refine frzShow_moves hm.up ?_
  refine State.modSp_moves hm.up ?_
  assumption

theorem afterCommit_moves {m} {a s : State} {x1 x2 x3 x4 x5 x6 x7 x8 x9} (hm : Sub 0x200000000000000000e080000000000000000000000000000000000000010000000000000000000200000000000000000f8000000000007080008000000002000c000000000000f00000000000000000000000000000000000000000000000000003fc00000000000468748 m) (h : Moves m a s) : Moves m a (afterCommit s x1 x2 x3 x4 x5 x6 x7 x8 x9) := by
  unfold afterCommit
  extract_lets +onlyGivenNames v1
  clear_value v1
  extract_lets +onlyGivenNames v2
  clear_value v2
  extract_lets +onlyGivenNames v3
  clear_value v3
  extract_lets +onlyGivenNames v4
  clear_value v4
  extract_lets +onlyGivenNames v5
  clear_value v5
  extract_lets +onlyGivenNames s6
  have h7 : Moves m a s6 := by
    unfold s6
    refine satMark_moves hm.up ?_
    assumption
  clear_value s6
  extract_lets +onlyGivenNames s8
  have h9 : Moves m a s8 := by
    unfold s8
    refine State.putPairs_moves hm.up ?_
    assumption
  clear_value s8
  extract_lets +onlyGivenNames s10
  have h11 : Moves m a s10 := by
    unfold s10
    refine State.putPairs_moves hm.up ?_
    assumption
  clear_value s10
  extract_lets +onlyGivenNames s12
  have h13 : Moves m a s12 := by
    unfold s12
    refine State.putPairs_moves hm.up ?_
    assumption
  clear_value s12
  extract_lets +onlyGivenNames s14
  have h15 : Moves m a s14 := by
    unfold s14
    refine State.putPairs_moves hm.up ?_
    assumption
  clear_value s14
  extract_lets +onlyGivenNames s16
  have h17 : Moves m a s16 := by
    unfold s16
    refine State.modSp_moves hm.up ?_
    assumption
  clear_value s16
  extract_lets +onlyGivenNames s18
  have h19 : Moves m a s18 := by
    unfold s18
    refine State.onIf_moves ?_ ?_
    · assumption
    · intro s20 h21
      refine State.modSp_moves hm.up ?_
      assumption
  clear_value s18
  extract_lets +onlyGivenNames s22
  have h23 : Moves m a s22 := by
    unfold s22
    refine frzShow_moves hm.up ?_
    assumption
  clear_value s22
  extract_lets +onlyGivenNames s24
  have h25 : Moves m a s24 := by
    unfold s24
    refine fieldWeaken_moves hm.up ?_
    assumption
  clear_value s24
  extract_lets +onlyGivenNames s26
  have h27 : Moves m a s26 := by
    unfold s26
    refine observerUpdate_moves hm.up ?_
    assumption
  clear_value s26
  extract_lets +onlyGivenNames v28
  clear_value v28
  extract_lets +onlyGivenNames s29
  have h30 : Moves m a s29 := by
    unfold s29
    refine State.onIf_moves ?_ ?_
    · assumption
    · intro s31 h32
      refine modObs_moves hm.up ?_
      assumption
  clear_value s29
  extract_lets +onlyGivenNames s33
  have h34 : Moves m a s33 := by
    unfold s33
    refine fluxWatch_moves hm.up ?_
    refine lockedWatch_moves hm.up ?_
    assumption
  clear_value s33
  extract_lets +onlyGivenNames s35
  have h36 : Moves m a s35 := by
    unfold s35
    refine gridUpdate_moves hm.up ?_
    assumption
  clear_value s35
  extract_lets +onlyGivenNames s37
  have h38 : Moves m a s37 := by
    unfold s37
    refine oscDetect_moves hm.up ?_
    assumption
  clear_value s37
  extract_lets +onlyGivenNames v39
  clear_value v39
  refine State.modSp_moves hm.up ?_
  assumption

theorem fastPath_moves {m} {a s : State} {x1} (hm : Sub 0x200000000000000000e080000000000000000000000000000000000000010000000000000000000200000000100000fc8f80000000000070c000803b87f002000c000000000000f00000000000000000000000000000000000000000000000000003fc00000000000478f48 m) (h : Moves m a s) : Moves m a (fastPath s x1) := by
  unfold fastPath
  extract_lets +onlyGivenNames v1
  clear_value v1
  refine Moves.ite (fun _ => ?_) (fun _ => ?_)
  · assumption
  · extract_lets +onlyGivenNames s2
    have h3 : Moves m a s2 := by
      unfold s2
      refine account_moves hm.up ?_
      assumption
    clear_value s2
    extract_lets +onlyGivenNames v4
    clear_value v4
    extract_lets +onlyGivenNames v5
    clear_value v5
    extract_lets +onlyGivenNames v6
    clear_value v6
    extract_lets +onlyGivenNames v7
    clear_value v7
    extract_lets +onlyGivenNames v8
    clear_value v8
    extract_lets +onlyGivenNames v9
    clear_value v9
    extract_lets +onlyGivenNames v10
    clear_value v10
    extract_lets +onlyGivenNames v11
    clear_value v11
    extract_lets +onlyGivenNames v12
    clear_value v12
    extract_lets +onlyGivenNames s13
    have h14 : Moves m a s13 := by
      unfold s13
      refine satMark_moves hm.up ?_
      refine satMark_moves hm.up ?_
      refine satMark_moves hm.up ?_
      assumption
    clear_value s13
    extract_lets +onlyGivenNames v15
    have h16 : Moves m a v15.2 := by
      unfold v15
      refine modulate_moves hm.up ?_
      assumption
    clear_value v15
    extract_lets +onlyGivenNames s17
    have h18 : Moves m a s17 := by
      unfold s17
      assumption
    clear_value s17
    extract_lets +onlyGivenNames v19
    clear_value v19
    extract_lets +onlyGivenNames v20
    clear_value v20
    refine Moves.ite (fun _ => ?_) (fun _ => ?_)
    · extract_lets +onlyGivenNames s21
      have h22 : Moves m a s21 := by
        unfold s21
        refine release_moves hm.up ?_
        refine State.incWrap_moves hm.up (Can.of hm) ?_
        assumption
      clear_value s21
      extract_lets +onlyGivenNames v23
      clear_value v23
      extract_lets +onlyGivenNames v24
      clear_value v24
      extract_lets +onlyGivenNames s25
      have h26 : Moves m a s25 := by
        unfold s25
        refine satMark_moves hm.up ?_
        assumption
      clear_value s25
      refine afterCommit_moves hm.up ?_
      assumption
    · extract_lets +onlyGivenNames s27
      have h28 : Moves m a s27 := by
        unfold s27
        refine State.onIf_moves ?_ ?_
        · assumption
        · intro s29 h30
          refine State.incSat_moves hm.up (Can.of hm) ?_
          assumption
      clear_value s27
      extract_lets +onlyGivenNames s31
      have h32 : Moves m a s31 := by
        unfold s31
        refine State.onIf_moves ?_ ?_
        · assumption
        · intro s33 h34
          refine State.incSat_moves hm.up (Can.of hm) ?_
          assumption
      clear_value s31
      extract_lets +onlyGivenNames s35
      have h36 : Moves m a s35 := by
        unfold s35
        refine State.onIf_moves ?_ ?_
        · assumption
        · intro s37 h38
          refine State.incSat_moves hm.up (Can.of hm) ?_
          assumption
      clear_value s35
      extract_lets +onlyGivenNames s39
      have h40 : Moves m a s39 := by
        unfold s39
        refine State.put_moves (Can.of hm) ?_
        refine State.put_moves (Can.of hm) ?_
        refine State.put_moves (Can.of hm) ?_
        assumption
      clear_value s39
      extract_lets +onlyGivenNames s41
      have h42 : Moves m a s41 := by
        unfold s41
        refine State.onIf_moves ?_ ?_
        · assumption
        · intro s43 h44
          refine State.logRate_moves hm.up ?_
          assumption
      clear_value s41
      refine State.modSp_moves hm.up ?_
      assumption

theorem fullEval_moves {m} {a s : State} {x1 x2 x3} (hm : Sub 0x200000000000000000e080000000000000000000000000000000000000010000000000000000000200000000000000000f80000000000070c0008000000002000c000000000000f00000000000000000000000000000000000000000000000000003fc00000000000468748 m) (h : Moves m a s) : Moves m a (fullEval s x1 x2 x3) := by
  unfold fullEval
  extract_lets +onlyGivenNames v1
  clear_value v1
  extract_lets +onlyGivenNames v2
  clear_value v2
  extract_lets +onlyGivenNames v3
  clear_value v3
  extract_lets +onlyGivenNames v4
  clear_value v4
  extract_lets +onlyGivenNames v5
  clear_value v5
  extract_lets +onlyGivenNames v6
  clear_value v6
  extract_lets +onlyGivenNames v7
  clear_value v7
  extract_lets +onlyGivenNames v8
  clear_value v8
  extract_lets +onlyGivenNames v9
  clear_value v9
  extract_lets +onlyGivenNames s10
  have h11 : Moves m a s10 := by
    unfold s10
    refine satMark_moves hm.up ?_
    refine satMark_moves hm.up ?_
    refine satMark_moves hm.up ?_
    refine satMark_moves hm.up ?_
    assumption
  clear_value s10
  extract_lets +onlyGivenNames v12
  have h13 : Moves m a v12.2 := by
    unfold v12
    refine modulate_moves hm.up ?_
    assumption
  clear_value v12
  extract_lets +onlyGivenNames s14
  have h15 : Moves m a s14 := by
    unfold s14
    refine release_moves hm.up ?_
    assumption
  clear_value s14
  refine afterCommit_moves hm.up ?_
  assumption

theorem fullEvalDone_moves {m} {a s : State} {x1} (hm : Sub 0x200000000000000000e080000000000000000000000000000000000000010000000000000000000200000000100000fc8fe0000000000070c000803b800002000c000000000000f00000000000000000000000000000000000000000000000000003fc00000000000478f48 m) (h : Moves m a s) : Moves m a (fullEvalDone s x1) := by
  unfold fullEvalDone
  extract_lets +onlyGivenNames v1
  clear_value v1
  split
  · refine fullEval_moves hm.up ?_
    assumption
  · refine Moves.ite (fun _ => ?_) (fun _ => ?_)
    · assumption
    · extract_lets +onlyGivenNames s7
      have h8 : Moves m a s7 := by
        unfold s7
        refine fieldAngles_moves hm.up ?_
        refine account_moves hm.up ?_
        assumption
      clear_value s7
      extract_lets +onlyGivenNames s9
      have h10 : Moves m a s9 := by
        unfold s9
        refine State.modSp_moves hm.up ?_
        assumption
      clear_value s9
      extract_lets +onlyGivenNames v11
      clear_value v11
      extract_lets +onlyGivenNames v12
      clear_value v12
      extract_lets +onlyGivenNames v13
      clear_value v13
      extract_lets +onlyGivenNames s14
      have h15 : Moves m a s14 := by
        unfold s14
        refine satMark_moves hm.up ?_
        refine satMark_moves hm.up ?_
        assumption
      clear_value s14
      extract_lets +onlyGivenNames s16
      have h17 : Moves m a s16 := by
        unfold s16
        refine State.onIf_moves ?_ ?_
        · assumption
        · intro s18 h19
          refine State.logRate_moves hm.up ?_
          assumption
      clear_value s16
      refine fullEval_moves hm.up ?_
      assumption

theorem waitLimit_moves {m} {a s : State} {x1} (hm : Sub 0x200000000000000000e080000000000000000000000000000000000000010000000000000000000200000000100000fc80000000000000600000003b800000000c000000000000f000000000000000000000000000000000000000000000000000000000000000000478c08 m) (h : Moves m a s) : Moves m a (waitLimit s x1) := by
  unfold waitLimit
  refine State.onIf_moves ?_ ?_
  · assumption
  · intro s1 h2
    refine account_moves hm.up ?_
    refine State.modSp_moves hm.up ?_
    assumption

theorem fbHoldExpired_moves {m} {a s : State} {x1} (hm : Sub 0x200000000000000000e080000000000000000000000000000000000000010000000000000000000200000000100000fc800000000000006000000003800000000c000000000000f000000000000000000000000000000000000000000000000000000000000000000478c08 m) (h : Moves m a s) : Moves m a (fbHoldExpired s x1) := by
  unfold fbHoldExpired
  refine Moves.ite (fun _ => ?_) (fun _ => ?_)
  · assumption
  · refine Moves.ite (fun _ => ?_) (fun _ => ?_)
    · refine State.modSp_moves hm.up ?_
      assumption
    · refine fbExpire_moves hm.up ?_
      refine holdClear_moves hm.up ?_
      assumption

theorem measLanding_moves {m} {a s : State} {x1 x2} (hm : Sub 0x200000000000000000e080000000000000000000000000000000000000010000000000000000000000000000000000000000000000000000000000000000000000000000000000000000000000000000000000000000000000000000000000000003fc00000000000620408 m) (h : Moves m a s) : Moves m a (measLanding s x1 x2) := by
  unfold measLanding
  extract_lets +onlyGivenNames v1
  clear_value v1
  split
  · assumption
  · extract_lets +onlyGivenNames s7
    have h8 : Moves m a s7 := by
      unfold s7
      refine Moves.landing (s := s) hm.up ?_
      assumption
    clear_value s7
    split
    · extract_lets +onlyGivenNames s16
      have h17 : Moves m a s16 := by
        unfold s16
        refine paceLand_moves hm.up ?_
        assumption
      clear_value s16
      split
      · refine State.onIf_moves ?_ ?_
        · assumption
        · intro s19 h20
          refine landMeas_moves hm.up ?_
          assumption
      · assumption
    · refine State.modSp_moves hm.up ?_
      assumption
    · refine State.modSp_moves hm.up ?_
      assumption
    · assumption

theorem spInit_moves {m} {a s : State} {x1} (hm : Sub 0x34000000000000000000000000000200400000000000000000000000000000000000000000000000000000000000000000000000000000000020340 m) (h : Moves m a s) : Moves m a (spInit s x1) := by
  unfold spInit
  extract_lets +onlyGivenNames v1
  clear_value v1
  extract_lets +onlyGivenNames s2
  have h3 : Moves m a s2 := by
    unfold s2
    refine State.onIf_moves ?_ ?_
    · assumption
    · intro s4 h5
      refine State.putPairs_moves hm.up ?_
      assumption
  clear_value s2
  extract_lets +onlyGivenNames s6
  have h7 : Moves m a s6 := by
    unfold s6
    refine State.putPairs_moves hm.up ?_
    assumption
  clear_value s6
  extract_lets +onlyGivenNames s8
  have h9 : Moves m a s8 := by
    unfold s8
    refine State.modSp_moves hm.up ?_
    assumption
  clear_value s8
  extract_lets +onlyGivenNames s10
  have h11 : Moves m a s10 := by
    unfold s10
    refine frzShow_moves hm.up ?_
    assumption
  clear_value s10
  extract_lets +onlyGivenNames s12
  have h13 : Moves m a s12 := by
    unfold s12
    refine State.putB_moves hm.up (Can.of hm) ?_
    assumption
  clear_value s12
  extract_lets +onlyGivenNames s14
  have h15 : Moves m a s14 := by
    unfold s14
    refine fluxRestart_moves hm.up ?_
    assumption
  clear_value s14
  extract_lets +onlyGivenNames s16
  have h17 : Moves m a s16 := by
    unfold s16
    refine modWatch_moves hm.up ?_
    assumption
  clear_value s16
  refine limEnter_moves hm.up ?_
  assumption

theorem spEnter_moves {m} {a s : State} {x1} (hm : Sub 0x200000000000000000e08000000000000000000000000000000000000001000000000000000000020000000000000000340000000000006000000000000002004c000000000000f000000000000000000000000000000000000000000000000000000000000000000468748 m) (h : Moves m a s) : Moves m a (spEnter s x1) := by
  unfold spEnter
  refine runTask_moves hm.up ?_
  refine spInit_moves hm.up ?_
  assumption

end Sys2Proof.Machine
end

