-- ==== Sys2Proof/Laws/MovesGuard.lean ====
section
/-! SUPPORT. The functions that are chains of primitive updates (Laws/Moves.lean): the links, Owl, Badger, the channel commands, pairing and the memories. -/

set_option Elab.async false

namespace Sys2Proof.Machine

/-! ### Links -/

theorem protCommit_moves {m} {a s : State} {x1 x2} (hm : Sub 0x420000042000000000000000000000000000000000000000000000000000000000000008004 m) (h : Moves m a s) : Moves m a (protCommit s x1 x2) := by
  unfold protCommit
  refine Moves.ite (fun _ => ?_) (fun _ => ?_)
  · assumption
  · refine auxCommit_moves hm.up ?_
    refine State.freeNext_moves hm.up ?_
    assumption

theorem chopCommit_moves {m} {a s : State} {x1} (hm : Sub 0x420000042000000000000000000000000000000000000000000000000000000000000048004 m) (h : Moves m a s) : Moves m a (chopCommit s x1) := by
  unfold chopCommit
  refine Moves.ite (fun _ => ?_) (fun _ => ?_)
  · assumption
  · extract_lets +onlyGivenNames v1
    clear_value v1
    refine State.modLink_moves hm.up ?_
    refine protCommit_moves hm.up ?_
    assumption

theorem chopFail_moves {m} {a s : State} {x1} (hm : Sub 0x200000000000000000e0800000000000000000000000000000000000000100000000000000000001800000000000000200000000000000000000000000000000000000000000000000000000000000000000000000000000000000000000000000000000000000000400c08 m) (h : Moves m a s) : Moves m a (chopFail s x1) := by
  unfold chopFail
  refine Moves.ite (fun _ => ?_) (fun _ => ?_)
  · assumption
  · extract_lets +onlyGivenNames s1
    have h2 : Moves m a s1 := by
      unfold s1
      refine State.raise_moves hm.up ?_
      refine State.logEv_moves hm.up ?_
      refine State.put_moves (Can.of hm) ?_
      assumption
    clear_value s1
    extract_lets +onlyGivenNames s3
    have h4 : Moves m a s3 := by
      unfold s3
      refine State.logEv_moves hm.up ?_
      refine State.put_moves (Can.of hm) ?_
      assumption
    clear_value s3
    refine State.forL_moves ?_ ?_
    · assumption
    · intro v5 s6 h7
      refine State.put_moves (Can.of hm) ?_
      assumption

theorem motoringClear_moves {m} {a s : State} {x1} (hm : Sub 0x1800000000000000200000000000000000000000000000000000000000000000000000000000000000000000000000000000000000000000000000000000000000000000 m) (h : Moves m a s) : Moves m a (motoringClear s x1) := by
  unfold motoringClear
  split
  · assumption
  · refine Moves.ite (fun _ => ?_) (fun _ => ?_)
    · extract_lets +onlyGivenNames s6
      have h7 : Moves m a s6 := by
        unfold s6
        refine State.put_moves (Can.of hm) ?_
        refine State.put_moves (Can.of hm) ?_
        assumption
      clear_value s6
      refine State.forL_moves ?_ ?_
      · assumption
      · intro v8 s9 h10
        refine State.put_moves (Can.of hm) ?_
        assumption
    · assumption

theorem chopReload_moves {m} {a s : State} {x1} (hm : Sub 0x2000000000000000000000000000000000000000000000000000000000000000000000000000000000000000000000000000000000000000000000000000000000040000 m) (h : Moves m a s) : Moves m a (chopReload s x1) := by
  unfold chopReload
  refine State.forL_moves ?_ ?_
  · assumption
  · intro v1 s2 h3
    refine State.onIf_moves ?_ ?_
    · assumption
    · intro s4 h5
      refine State.modLink_moves hm.up ?_
      refine State.put_moves (Can.of hm) ?_
      assumption

theorem linkAssert_moves {m} {a s : State} {x1 x2} (hm : Sub 0x200000000000000000e0800000000000000000000000000000000000000100000100800000000007c2000000100100ff800000000000006000000000000000000c000000000042f000042000000000000000000000000000000000000000000000000000000000000c78c0c m) (h : Moves m a s) : Moves m a (linkAssert s x1 x2) := by
  unfold linkAssert
  split
  · refine State.logRate_moves hm.up ?_
    refine State.put_moves (Can.of hm) ?_
    assumption
  · refine Moves.ite (fun _ => ?_) (fun _ => ?_)
    · refine chopFail_moves hm.up ?_
      assumption
    · refine Moves.ite (fun _ => ?_) (fun _ => ?_)
      · refine chopCommit_moves hm.up ?_
        refine State.modLink_moves hm.up ?_
        assumption
      · assumption
  · extract_lets +onlyGivenNames s4
    have h5 : Moves m a s4 := by
      unfold s4
      refine State.raise_moves hm.up ?_
      refine State.logEv_moves hm.up ?_
      refine State.put_moves (Can.of hm) ?_
      assumption
    clear_value s4
    refine State.forL_moves ?_ ?_
    · assumption
    · intro v6 s7 h8
      refine safeRequest_moves hm.up ?_
      assumption

theorem linkFilter_moves {m} {a s : State} {x1 x2 x3} (hm : Sub 0x200000000000000000e0800000000000000000000000000000000000000100000100800000000007c2000000100100ff800000000000006000000000000000000c000000000042f000042000000000000000000000000000000000000000000000000000000000000c78c0c m) (h : Moves m a s) : Moves m a (linkFilter s x1 x2 x3) := by
  unfold linkFilter
  refine Moves.ite (fun _ => ?_) (fun _ => ?_)
  · extract_lets +onlyGivenNames v1
    clear_value v1
    extract_lets +onlyGivenNames v2
    clear_value v2
    extract_lets +onlyGivenNames s3
    have h4 : Moves m a s3 := by
      unfold s3
      refine State.modLink_moves hm.up ?_
      assumption
    clear_value s3
    refine Moves.ite (fun _ => ?_) (fun _ => ?_)
    · refine linkAssert_moves hm.up ?_
      refine State.modLink_moves hm.up ?_
      assumption
    · assumption
  · extract_lets +onlyGivenNames s5
    have h6 : Moves m a s5 := by
      unfold s5
      refine State.modLink_moves hm.up ?_
      assumption
    clear_value s5
    refine State.onIf_moves ?_ ?_
    · assumption
    · intro s7 h8
      refine State.put_moves (Can.of hm) ?_
      assumption

theorem linkSample_moves {m} {a s : State} {x1 x2} (hm : Sub 0x200000000000000000e080000000000000000000000000000000000000010000010080000000000fe3000000100100ff800000000000006000000000000000000c000000000042f000042000000000000000000000000000000000000000000000000000000000000c78c0c m) (h : Moves m a s) : Moves m a (linkSample s x1 x2) := by
  unfold linkSample
  refine Moves.ite (fun _ => ?_) (fun _ => ?_)
  · assumption
  · extract_lets +onlyGivenNames s1
    have h2 : Moves m a s1 := by
      unfold s1
      refine State.modLink_moves hm.up ?_
      assumption
    clear_value s1
    extract_lets +onlyGivenNames s3
    have h4 : Moves m a s3 := by
      unfold s3
      refine State.putS_moves hm.up (Can.of hm) ?_
      assumption
    clear_value s3
    extract_lets +onlyGivenNames s5
    have h6 : Moves m a s5 := by
      unfold s5
      refine State.onIf_moves ?_ ?_
      · assumption
      · intro s7 h8
        refine State.putS_moves hm.up (Can.of hm) ?_
        assumption
    clear_value s5
    extract_lets +onlyGivenNames s9
    have h10 : Moves m a s9 := by
      unfold s9
      refine State.forL_moves ?_ ?_
      · assumption
      · intro v11 s12 h13
        refine linkFilter_moves hm.up ?_
        assumption
    clear_value s9
    extract_lets +onlyGivenNames v14
    clear_value v14
    extract_lets +onlyGivenNames s15
    have h16 : Moves m a s15 := by
      unfold s15
      refine State.onIf_moves ?_ ?_
      · assumption
      · intro s17 h18
        refine State.raise_moves hm.up ?_
        refine State.logEv_moves hm.up ?_
        refine State.put_moves (Can.of hm) ?_
        assumption
    clear_value s15
    extract_lets +onlyGivenNames s19
    have h20 : Moves m a s19 := by
      unfold s19
      refine State.modLink_moves hm.up ?_
      assumption
    clear_value s19
    extract_lets +onlyGivenNames s21
    have h22 : Moves m a s21 := by
      unfold s21
      refine State.onIf_moves ?_ ?_
      · assumption
      · intro s23 h24
        refine State.forL_moves ?_ ?_
        · assumption
        · intro v25 s26 h27
          refine safeRequest_moves hm.up ?_
          assumption
    clear_value s21
    refine Moves.ite (fun _ => ?_) (fun _ => ?_)
    · refine chopCommit_moves hm.up ?_
      refine State.modLink_moves hm.up ?_
      assumption
    · assumption

theorem linkSamples_moves {m} {a s : State} {x1 x2} (hm : Sub 0x200000000000000000e080000000000000000000000000000000000000010000010080000000000fe3000000100100ff800000000000006000000000000000000c000000000042f000042000000000000000000000000000000000000000000000000000000000000c78c0c m) (h : Moves m a s) : Moves m a (linkSamples s x1 x2) := by
  unfold linkSamples
  refine State.forL_moves ?_ ?_
  · assumption
  · intro v1 s2 h3
    refine linkSample_moves hm.up ?_
    assumption

theorem linkStart_moves {m} {a s : State} {x1} (hm : Sub 0x40000 m) (h : Moves m a s) : Moves m a (linkStart s x1) := by
  unfold linkStart
  refine State.modLink_moves hm.up ?_
  assumption

theorem preCommit_moves {m} {a s : State} {x1 x2} (hm : Sub 0x420000042000000000000000000000000000000000000000000000000000000000000008004 m) (h : Moves m a s) : Moves m a (preCommit s x1 x2) := by
  unfold preCommit
  refine State.onIf_moves ?_ ?_
  · assumption
  · intro s1 h2
    refine protCommit_moves hm.up ?_
    assumption

theorem preStart_moves {m} {a s : State} {x1} (hm : Sub 0x200000000000000000e080000000000000000000000000000000000000010000000000000000000202000000100000fc000000000000006000000000000000000c000000000042f00004200000000000000000000000000000000000000000000000000000000000047840c m) (h : Moves m a s) : Moves m a (preStart s x1) := by
  unfold preStart
  extract_lets +onlyGivenNames s1
  have h2 : Moves m a s1 := by
    unfold s1
    refine State.modLink_moves hm.up ?_
    refine State.put_moves (Can.of hm) ?_
    assumption
  clear_value s1
  extract_lets +onlyGivenNames s3
  have h4 : Moves m a s3 := by
    unfold s3
    refine State.forL_moves ?_ ?_
    · assumption
    · intro v5 s6 h7
      refine Moves.ite (fun _ => ?_) (fun _ => ?_)
      · refine setState_moves hm.up ?_
        assumption
      · assumption
  clear_value s3
  refine preCommit_moves hm.up ?_
  assumption

theorem preAbandon_moves {m} {a s : State} {x1 x2} (hm : Sub 0x200000000000000000e080000000000000000000000000000000000000010000000000000000000202000000100000fc000000000000006000000000000000000c000000000042f00004200000000000000000000000000000000000000000000000000000000000047840c m) (h : Moves m a s) : Moves m a (preAbandon s x1 x2) := by
  unfold preAbandon
  extract_lets +onlyGivenNames s1
  have h2 : Moves m a s1 := by
    unfold s1
    refine State.put_moves (Can.of hm) ?_
    refine preCommit_moves hm.up ?_
    assumption
  clear_value s1
  refine State.forL_moves ?_ ?_
  · assumption
  · intro v3 s4 h5
    refine Moves.ite (fun _ => ?_) (fun _ => ?_)
    · refine setState_moves hm.up ?_
      assumption
    · assumption

theorem preDone_moves {m} {a s : State} {x1} (hm : Sub 0x200000000000000000e080000000000000000000000000000000000000010000000000000000000202000000100000fc000000000000006000000000000000000c000000000000f000000000000000000000000000000000000000000000000000000000000000000478408 m) (h : Moves m a s) : Moves m a (preDone s x1) := by
  unfold preDone
  extract_lets +onlyGivenNames v1
  clear_value v1
  refine Moves.ite (fun _ => ?_) (fun _ => ?_)
  · refine State.onIf_moves ?_ ?_
    · assumption
    · intro s2 h3
      refine State.put_moves (Can.of hm) ?_
      assumption
  · refine Moves.ite (fun _ => ?_) (fun _ => ?_)
    · extract_lets +onlyGivenNames s4
      have h5 : Moves m a s4 := by
        unfold s4
        refine State.modLink_moves hm.up ?_
        refine State.put_moves (Can.of hm) ?_
        assumption
      clear_value s4
      extract_lets +onlyGivenNames s6
      have h7 : Moves m a s6 := by
        unfold s6
        refine State.forL_moves ?_ ?_
        · assumption
        · intro v8 s9 h10
          refine Moves.ite (fun _ => ?_) (fun _ => ?_)
          · refine setState_moves hm.up ?_
            assumption
          · assumption
      clear_value s6
      refine State.logEv_moves hm.up ?_
      assumption
    · assumption

theorem disEnd_moves {m} {a s : State} {x1} (hm : Sub 0x200000000000000000e080000000000000000000000000000000000000010000000000000000000202000000100000fc000000000000006000000000000000000c000000000000f000000000000000000000000000000000000000000000000000000000000000000478408 m) (h : Moves m a s) : Moves m a (disEnd s x1) := by
  unfold disEnd
  extract_lets +onlyGivenNames s1
  have h2 : Moves m a s1 := by
    unfold s1
    refine endDischarge_moves hm.up ?_
    assumption
  clear_value s1
  refine State.forL_moves ?_ ?_
  · assumption
  · intro v3 s4 h5
    refine Moves.ite (fun _ => ?_) (fun _ => ?_)
    · refine setState_moves hm.up ?_
      assumption
    · assumption

theorem disFail_moves {m} {a s : State} {x1} (hm : Sub 0x200000000000000000e0800000000000000000000000000000000000000100000000000000000000080000000000000000000000000000000000000000000000000000000000000000000000000000000000000000000000000000000000000000000000000000000400c08 m) (h : Moves m a s) : Moves m a (disFail s x1) := by
  unfold disFail
  refine State.raise_moves hm.up ?_
  refine State.logEv_moves hm.up ?_
  refine State.put_moves (Can.of hm) ?_
  assumption

theorem disStart_moves {m} {a s : State} {x1} (hm : Sub 0x200000000000000000e08000000000000000000000000000000000000001000000000000000000020a000000100000fc340000000000006000000000000002004c000000000000f000000000000000000000000000000000000000000000000000000000000000000478f48 m) (h : Moves m a s) : Moves m a (disStart s x1) := by
  unfold disStart
  extract_lets +onlyGivenNames v1
  clear_value v1
  extract_lets +onlyGivenNames s2
  have h3 : Moves m a s2 := by
    unfold s2
    refine State.modLink_moves hm.up ?_
    refine State.put_moves (Can.of hm) ?_
    assumption
  clear_value s2
  extract_lets +onlyGivenNames v4
  clear_value v4
  extract_lets +onlyGivenNames s5
  have h6 : Moves m a s5 := by
    unfold s5
    refine State.forL_moves ?_ ?_
    · assumption
    · intro v7 s8 h9
      refine Moves.ite (fun _ => ?_) (fun _ => ?_)
      · assumption
      · refine setState_moves hm.up ?_
        assumption
  clear_value s5
  extract_lets +onlyGivenNames s10
  have h11 : Moves m a s10 := by
    unfold s10
    refine State.forL_moves ?_ ?_
    · assumption
    · intro v12 s13 h14
      refine spInit_moves hm.up ?_
      refine State.modChan_moves hm.up ?_
      assumption
  clear_value s10
  refine Moves.ite (fun _ => ?_) (fun _ => ?_)
  · refine disEnd_moves hm.up ?_
    refine disFail_moves hm.up ?_
    assumption
  · assumption

theorem disDone_moves {m} {a s : State} {x1} (hm : Sub 0x200000000000000000e080000000000000000000000000000000000000010000000000000000000202000000100000fc000000000000006000000000000000000c000000000000f000000000000000000000000000000000000000000000000000000000000000000478408 m) (h : Moves m a s) : Moves m a (disDone s x1) := by
  unfold disDone
  extract_lets +onlyGivenNames v1
  clear_value v1
  refine Moves.ite (fun _ => ?_) (fun _ => ?_)
  · refine State.onIf_moves ?_ ?_
    · assumption
    · intro s2 h3
      refine State.put_moves (Can.of hm) ?_
      assumption
  · refine Moves.ite (fun _ => ?_) (fun _ => ?_)
    · refine disEnd_moves hm.up ?_
      refine State.logEv_moves hm.up ?_
      assumption
    · assumption

theorem execOvWarn_moves {m} {a s : State} {x1 x2} (hm : Sub 0x200000000000000000e080000000000000000000000000000000000000010000010080000000000fe3000000100100ff800000000000006000000000000000000c000000000042f000042000000000000000000000000000000000000000000000000000000000000c78c0c m) (h : Moves m a s) : Ends m a (execOvWarn x1 x2 s) := by
  unfold execOvWarn
  refine live_moves ?_ ?_
  · assumption
  · intro s1 h2
    refine linkSamples_moves hm.up ?_
    assumption

theorem execChopOn_moves {m} {a s : State} {x1 x2} (hm : Sub 0x200000000000000000e080000000000000000000000000000000000000010000010080000000000fe3000000100100ff800000000000006000000000000000000c000000000042f000042000000000000000000000000000000000000000000000000000000000000c78c0c m) (h : Moves m a s) : Ends m a (execChopOn x1 x2 s) := by
  unfold execChopOn
  refine live_moves ?_ ?_
  · assumption
  · intro s1 h2
    refine linkSamples_moves hm.up ?_
    assumption

theorem execChopOff_moves {m} {a s : State} {x1 x2} (hm : Sub 0x200000000000000000e080000000000000000000000000000000000000010000010080000000000fe3000000100100ff800000000000006000000000000000000c000000000042f000042000000000000000000000000000000000000000000000000000000000000c78c0c m) (h : Moves m a s) : Ends m a (execChopOff x1 x2 s) := by
  unfold execChopOff
  refine live_moves ?_ ?_
  · assumption
  · intro s1 h2
    refine linkSamples_moves hm.up ?_
    assumption

theorem execOvAsc_moves {m} {a s : State} {x1 x2} (hm : Sub 0x200000000000000000e080000000000000000000000000000000000000010000010080000000000fe3000000100100ff800000000000006000000000000000000c000000000042f000042000000000000000000000000000000000000000000000000000000000000c78c0c m) (h : Moves m a s) : Ends m a (execOvAsc x1 x2 s) := by
  unfold execOvAsc
  refine live_moves ?_ ?_
  · assumption
  · intro s1 h2
    refine linkSamples_moves hm.up ?_
    assumption

theorem execOvHard_moves {m} {a s : State} {x1 x2} (hm : Sub 0x200000000000000000e080000000000000000000000000000000000000010000010080000000000fe3000000100100ff800000000000006000000000000000000c000000000042f000042000000000000000000000000000000000000000000000000000000000000c78c0c m) (h : Moves m a s) : Ends m a (execOvHard x1 x2 s) := by
  unfold execOvHard
  refine live_moves ?_ ?_
  · assumption
  · intro s1 h2
    refine linkSamples_moves hm.up ?_
    assumption

theorem execLinkThresholdDeassert_moves {m} {a s : State} {x1 x2} (hm : Sub 0x200000000000000000e080000000000000000000000000000000000000010000010080000000000fe3000000100100ff800000000000006000000000000000000c000000000042f000042000000000000000000000000000000000000000000000000000000000000c78c0c m) (h : Moves m a s) : Ends m a (execLinkThresholdDeassert x1 x2 s) := by
  unfold execLinkThresholdDeassert
  refine live_moves ?_ ?_
  · assumption
  · intro s1 h2
    refine linkSamples_moves hm.up ?_
    assumption

theorem execLinkStarved_moves {m} {a s : State} {x1} (hm : Sub 0x200000000000000000e0800000000000000000000000000000000000000100000000000000000000040000000000000000000000000000000000000000000000000000000000000000000000000000000000000000000000000000000000000000000000000000000440c08 m) (h : Moves m a s) : Ends m a (execLinkStarved x1 s) := by
  unfold execLinkStarved
  refine live_moves ?_ ?_
  · assumption
  · intro s1 h2
    refine State.onIf_moves ?_ ?_
    · assumption
    · intro s3 h4
      refine State.raise_moves hm.up ?_
      refine State.logEv_moves hm.up ?_
      refine State.put_moves (Can.of hm) ?_
      refine State.modLink_moves hm.up ?_
      assumption

theorem execChopCommit_moves {m} {a s : State} {x1} (hm : Sub 0x420000042000000000000000000000000000000000000000000000000000000000000048004 m) (h : Moves m a s) : Ends m a (execChopCommit x1 s) := by
  unfold execChopCommit
  refine live_moves ?_ ?_
  · assumption
  · intro s1 h2
    refine chopCommit_moves hm.up ?_
    assumption

theorem execChopConfirm_moves {m} {a s : State} {x1 x2} (hm : Sub 0x200000000000000000e0800000000000000000000000000000000000000100000000000000000001800000000000000200000000000000000000000000000000000000000000000000000000000000000000000000000000000000000000000000000000000000000400c08 m) (h : Moves m a s) : Ends m a (execChopConfirm x1 x2 s) := by
  unfold execChopConfirm
  refine live_moves ?_ ?_
  · assumption
  · intro s1 h2
    extract_lets +onlyGivenNames v3
    clear_value v3
    extract_lets +onlyGivenNames v4
    clear_value v4
    refine State.onIf_moves ?_ ?_
    · assumption
    · intro s5 h6
      refine chopFail_moves hm.up ?_
      assumption

theorem execPrechargeDone_moves {m} {a s : State} {x1 x2} (hm : Sub 0x200000000000000000e080000000000000000000000000000000000000010000010080000000000fe3000000100100ff800000000000006000000000000000000c000000000042f000042000000000000000000000000000000000000000000000000000000000000c78c0c m) (h : Moves m a s) : Ends m a (execPrechargeDone x1 x2 s) := by
  unfold execPrechargeDone
  refine live_moves ?_ ?_
  · assumption
  · intro s1 h2
    refine preDone_moves hm.up ?_
    refine linkSamples_moves hm.up ?_
    assumption

theorem execPrechargeFail_moves {m} {a s : State} {x1} (hm : Sub 0x200000000000000000e080000000000000000000000000000000000000010000000000000000000212000000100000fc000000000000006000000000000000000c000000000042f000042000000000000000000000000000000000000000000000000000000000000478c0c m) (h : Moves m a s) : Ends m a (execPrechargeFail x1 s) := by
  unfold execPrechargeFail
  refine live_moves ?_ ?_
  · assumption
  · intro s1 h2
    refine State.onIf_moves ?_ ?_
    · assumption
    · intro s3 h4
      refine State.raise_moves hm.up ?_
      refine State.logEv_moves hm.up ?_
      refine State.put_moves (Can.of hm) ?_
      refine preAbandon_moves hm.up ?_
      assumption

theorem execPrechargeLegOff_moves {m} {a s : State} {x1} (hm : Sub 0x420000042000000000000000000000000000000000000000000000000000000000000048004 m) (h : Moves m a s) : Ends m a (execPrechargeLegOff x1 s) := by
  unfold execPrechargeLegOff
  refine live_moves ?_ ?_
  · assumption
  · intro s1 h2
    refine State.onIf_moves ?_ ?_
    · assumption
    · intro s3 h4
      refine State.modLink_moves hm.up ?_
      refine preCommit_moves hm.up ?_
      assumption

theorem execDisDone_moves {m} {a s : State} {x1 x2} (hm : Sub 0x200000000000000000e080000000000000000000000000000000000000010000010080000000000fe3000000100100ff800000000000006000000000000000000c000000000042f000042000000000000000000000000000000000000000000000000000000000000c78c0c m) (h : Moves m a s) : Ends m a (execDisDone x1 x2 s) := by
  unfold execDisDone
  refine live_moves ?_ ?_
  · assumption
  · intro s1 h2
    refine disDone_moves hm.up ?_
    refine linkSamples_moves hm.up ?_
    assumption

theorem execDisFail_moves {m} {a s : State} {x1} (hm : Sub 0x200000000000000000e0800000000000000000000000000000000000000100000000000000000000080000000000000000000000000000000000000000000000000000000000000000000000000000000000000000000000000000000000000000000000000000000400c08 m) (h : Moves m a s) : Ends m a (execDisFail x1 s) := by
  unfold execDisFail
  refine live_moves ?_ ?_
  · assumption
  · intro s1 h2
    refine State.onIf_moves ?_ ?_
    · assumption
    · intro s3 h4
      refine disFail_moves hm.up ?_
      assumption

theorem execDisTimeout_moves {m} {a s : State} {x1} (hm : Sub 0x200000000000000000e080000000000000000000000000000000000000010000000000000000000202000000100000fc000000000000006000000000000000000c000000000000f000000000000000000000000000000000000000000000000000000000000000000478408 m) (h : Moves m a s) : Ends m a (execDisTimeout x1 s) := by
  unfold execDisTimeout
  refine live_moves ?_ ?_
  · assumption
  · intro s1 h2
    refine State.onIf_moves ?_ ?_
    · assumption
    · intro s3 h4
      refine disEnd_moves hm.up ?_
      assumption

theorem execDutyEdge_moves {m} {a s : State} {x1} (hm : Sub 0x200000000000000000e08000000000000000000000000000000000000001000000000000000000020000000000000000000000000000000000000000000000000c000000000000f000000000000000000000000000000000000000000000000000000000000000000448408 m) (h : Moves m a s) : Ends m a (execDutyEdge x1 s) := by
  unfold execDutyEdge
  refine live_moves ?_ ?_
  · assumption
  · intro s1 h2
    split
    · assumption
    · refine State.legApply_moves hm.up ?_
      refine State.modLeg_moves hm.up ?_
      assumption

/-! ### Owl -/

theorem State.putOw_moves {m} {a s : State} {x1 x2} (hm : Sub 0x380 m) (h : Moves m a s) : Moves m a (State.putOw s x1 x2) := by
  unfold State.putOw
  refine ueClear_moves hm.up ?_
  refine Moves.mem (s := s) ?_ ?_
  · exact .owl hm.up .refl
  · assumption

theorem ringPut_moves {m} {a s : State} {x1} (hm : Sub 0x1f000000000000000000000000000000000000000000000000000000000000000000000000000000000000000000000000000000000000000000000000000000000000000000000000000000000000000000000000000000000000000000000400380 m) (h : Moves m a s) : Moves m a (ringPut s x1) := by
  unfold ringPut
  extract_lets +onlyGivenNames v1
  clear_value v1
  extract_lets +onlyGivenNames v2
  clear_value v2
  extract_lets +onlyGivenNames s3
  have h4 : Moves m a s3 := by
    unfold s3
    refine State.onIf_moves ?_ ?_
    · assumption
    · intro s5 h6
      refine State.put_moves (Can.of hm) ?_
      assumption
  clear_value s3
  extract_lets +onlyGivenNames s7
  have h8 : Moves m a s7 := by
    unfold s7
    refine State.put_moves (Can.of hm) ?_
    refine State.putOw_moves hm.up ?_
    assumption
  clear_value s7
  extract_lets +onlyGivenNames s9
  have h10 : Moves m a s9 := by
    unfold s9
    refine State.onIf_moves ?_ ?_
    · assumption
    · intro s11 h12
      refine State.put_moves (Can.of hm) ?_
      assumption
  clear_value s9
  extract_lets +onlyGivenNames s13
  clear_value s13
  extract_lets +onlyGivenNames s14
  have h15 : Moves m a s14 := by
    unfold s14
    refine Moves.owl (s := s9) hm.up ?_
    assumption
  clear_value s14
  refine Moves.ite (fun _ => ?_) (fun _ => ?_)
  · extract_lets +onlyGivenNames s16
    have h17 : Moves m a s16 := by
      unfold s16
      refine State.put_moves (Can.of hm) ?_
      refine State.put_moves (Can.of hm) ?_
      assumption
    clear_value s16
    extract_lets +onlyGivenNames v18
    clear_value v18
    refine State.onIf_moves ?_ ?_
    · assumption
    · intro s19 h20
      refine Moves.owl (s := s19) hm.up ?_
      assumption
  · assumption

theorem owlFlush_moves {m} {a s : State} (hm : Sub 0x400000 m) (h : Moves m a s) : Moves m a (owlFlush s) := by
  unfold owlFlush
  extract_lets +onlyGivenNames s1
  have h2 : Moves m a s1 := by
    unfold s1
    refine State.onIf_moves ?_ ?_
    · assumption
    · intro s3 h4
      refine Moves.owl (s := s3) hm.up ?_
      assumption
  clear_value s1
  extract_lets +onlyGivenNames v5
  clear_value v5
  refine Moves.owl (s := s1) hm.up ?_
  assumption

theorem owlTick_moves {m} {a s : State} (hm : Sub 0x1f000000000000000000000000000000000000000000000000000000000000000000000000000000000000000000000000000000000000000000000000000000000000000000000000000000000000000000000000000000000000000000000400380 m) (h : Moves m a s) : Moves m a (owlTick s) := by
  unfold owlTick
  extract_lets +onlyGivenNames s1
  have h2 : Moves m a s1 := by
    unfold s1
    refine owlFlush_moves hm.up ?_
    assumption
  clear_value s1
  refine Moves.ite (fun _ => ?_) (fun _ => ?_)
  · assumption
  · split
    · assumption
    · refine Moves.owl (s := s1) hm.up ?_
      assumption
    · refine ringPut_moves hm.up ?_
      refine Moves.owl (s := s1) hm.up ?_
      assumption

theorem owlStop_mark_moves {m} {a s : State} (hm : Sub 0x1f000000000000000000000000000000000000000000000000000000000000000000000000000000000000000000000000000000000000000000000000000000000000000000000000000000000000000000000000000000000000000000000400380 m) (h : Moves m a s) :
    Moves m a (ringPut (owlFlush s) (owlWord 0x11 5 ((owlFlush s).now - (owlFlush s).owl.hdrTs) 0)) :=
  ringPut_moves hm.up (owlFlush_moves hm.up h)

theorem owlStop_end_moves {m} {a t : State} (hm : Sub 0x800000000000000000000000000000000000000000000000000000000000000000000000000000000000000000000000000000000000000000000000000000000000000000000000000000000000000000000000000000000000000000000400000 m) (h : Moves m a t) :
    Moves m a ({ t with owl := { t.owl with queue := [], left := none } }.put OWL_STAT_state 3) :=
  State.put_moves (Can.of hm) (h.owl hm.up)

theorem owlStop_moves {m} {a s : State} (hm : Sub 0x200000000000000000ff800000000000000000000000000000000000000100000000000000000000000000000000000000000000000000000000000000000000000000000000000000000000000000000000000000000000000000000000000000000000000000000400788 m) (h : Moves m a s) :
    Moves m a (owlStop s) := by
  unfold owlStop
  exact Moves.ite (fun _ => h) (fun _ => State.logEv_moves hm.up (owlStop_end_moves hm.up (owlStop_mark_moves hm.up h)))

theorem owlArm_moves {m} {a s : State} (hm : Sub 0x200000000000000000ef800000000000000000000000000000000000000100000000000000000000000000000000000000000000000000000000000000000000000000000000000000000000000000000000000000000000000000000000000000000000000000000400788 m)
    (h : Moves m a s) : Moves m a (owlArm s) := by
  have h1 : Moves m a { s with mem := { s.mem with owl := [] } } := h.mem (.noOwl hm.up .refl)
  have h2 : ∀ l, Moves m a (State.forL { s with mem := { s.mem with owl := [] } } l (fun (p : Nat × Nat) s =>
      s.putOw p.2 (owlWord 0x3F p.2 0 p.1))) := fun l => State.forL_moves h1 (fun _ _ h => State.putOw_moves hm.up h)
  unfold owlArm
  refine State.logEv_moves hm.up (State.owlRec_moves hm.up ?_)
  have h3 := h2 (streamHeader { s with mem := { s.mem with owl := [] } }).zipIdx
  generalize State.forL _ _ _ = t at h3 ⊢
  exact (h3.put _ _ _ _ (Can.of hm) |>.put _ _ _ _ (Can.of hm) |>.put _ _ _ _ (Can.of hm) |>.put _ _ _ _ (Can.of hm)
    |>.put _ _ _ _ (Can.of hm)).owl hm.up

theorem digestUpdate_moves {m} {a s : State} (hm : Sub 0x20000000000000800020000000000000000000000000000000000000000100000000000000000000000000000000000000000000000000000000000000000000000000000000000000000000000000000000000000000000000000000000000000000000000000000400408 m) (h : Moves m a s) : Moves m a (digestUpdate s) := by
  unfold digestUpdate
  extract_lets +onlyGivenNames v1
  clear_value v1
  refine Moves.ite (fun _ => ?_) (fun _ => ?_)
  · assumption
  · extract_lets +onlyGivenNames s2
    have h3 : Moves m a s2 := by
      unfold s2
      refine State.forL_moves ?_ ?_
      · assumption
      · intro v4 s5 h6
        refine State.put_moves (Can.of hm) ?_
        assumption
    clear_value s2
    refine State.owlRec_moves hm.up ?_
    assumption

theorem coreIrqs_moves {m} {a s : State} (hm : Sub 0x500000 m) (h : Moves m a s) : Moves m a (coreIrqs s) := by
  unfold coreIrqs
  refine Moves.ite (fun _ => ?_) (fun _ => ?_)
  · assumption
  · refine State.forL_moves ?_ ?_
    · assumption
    · intro v1 s2 h3
      extract_lets +onlyGivenNames v4
      clear_value v4
      refine State.onIf_moves ?_ ?_
      · assumption
      · intro s5 h6
        extract_lets +onlyGivenNames s7
        clear_value s7
        extract_lets +onlyGivenNames s8
        have h9 : Moves m a s8 := by
          unfold s8
          refine Moves.owl (s := s5) hm.up ?_
          assumption
        clear_value s8
        refine Moves.chuck (s := s8) hm.up ?_
        assumption

theorem irqRelease_moves {m} {a s : State} {x1 x2} (hm : Sub 0x2000000000000000002000000000000000000000000000000000000000010000000000000000000000000000000000000000000000000000000000000000000000000000000000000000000000000000000000000000000000000000000000000000000000000000040040c m) (h : Moves m a s) : Moves m a (irqRelease s x1 x2) := by
  unfold irqRelease
  extract_lets +onlyGivenNames s1
  clear_value s1
  extract_lets +onlyGivenNames s2
  have h3 : Moves m a s2 := by
    unfold s2
    refine Moves.owl (s := s) hm.up ?_
    assumption
  clear_value s2
  refine State.onIf_moves ?_ ?_
  · assumption
  · intro s4 h5
    refine State.freeNext_moves hm.up ?_
    refine State.owlRec_moves hm.up ?_
    assumption

theorem execOwlTickHeader_moves {m} {a s : State} (hm : Sub 0x20000000000000000020000000000000000000000000000000000000000100000000000000000000000000000000000000000000000000000000000000000000000000000000000000000000000000000000000000000000000000000000000000000000000000000400408 m) (h : Moves m a s) : Ends m a (execOwlTickHeader s) := by
  unfold execOwlTickHeader
  refine live_moves ?_ ?_
  · assumption
  · intro s1 h2
    refine State.onIf_moves ?_ ?_
    · assumption
    · intro s3 h4
      refine State.owlRec_moves hm.up ?_
      assumption

theorem execOwlStop_moves {m} {a s : State} (hm : Sub 0x200000000000000000ff800000000000000000000000000000000000000100000000000000000000000000000000000000000000000000000000000000000000000000000000000000000000000000000000000000000000000000000000000000000000000000000400788 m) (h : Moves m a s) : Ends m a (execOwlStop s) := by
  unfold execOwlStop
  refine live_moves ?_ ?_
  · assumption
  · intro s1 h2
    refine owlStop_moves hm.up ?_
    assumption

/-! ### Badger -/

theorem State.modBdg_moves {m} {a s : State} {x1} (hm : Sub 0x80000 m) (h : Moves m a s) : Moves m a (State.modBdg s x1) := by
  unfold State.modBdg
  refine Moves.bdg (s := s) hm.up ?_
  assumption

theorem State.modTls_moves {m} {a s : State} {x1} (hm : Sub 0x800000 m) (h : Moves m a s) : Moves m a (State.modTls s x1) := by
  unfold State.modTls
  refine Moves.tls (s := s) hm.up ?_
  assumption

theorem faultNShow_moves {m} {a s : State} (hm : Sub 0x2000000000000000000000000000000000000000000000000000000000000000000000000000000000000000000000000000000000000000000000000000000000000000000000 m) (h : Moves m a s) : Moves m a (faultNShow s) := by
  unfold faultNShow
  extract_lets +onlyGivenNames v1
  clear_value v1
  refine State.putB_moves hm.up (Can.of hm) ?_
  assumption

theorem safeEnLow_moves {m} {a s : State} {x1} (hm : Sub 0xc000000000000000000000000000000000000000000000000000000000000000000000000000000000000000000000000000000000000000000000000000000000000000000000 m) (h : Moves m a s) : Moves m a (safeEnLow s x1) := by
  unfold safeEnLow
  refine State.put_moves ?_ ?_
  · refine Can.ite ?_ ?_
    · exact (Can.of hm)
    · exact (Can.of hm)
  · assumption

theorem safeEnUpdate_moves {m} {a s : State} (hm : Sub 0xc000000000000000000000000000000000000000000000000000000000000000000000000000000000000000000000000000000000000000000000000000000000000000000000 m) (h : Moves m a s) : Moves m a (safeEnUpdate s) := by
  unfold safeEnUpdate
  refine Moves.ite (fun _ => ?_) (fun _ => ?_)
  · assumption
  · refine State.forN_moves ?_ ?_
    · assumption
    · intro v1 s2 h3
      refine State.onIf_moves ?_ ?_
      · assumption
      · intro s4 h5
        refine safeEnLow_moves hm.up ?_
        assumption

theorem unitReact_moves {m} {a s : State} {x1 x2} (hm : Sub 0x200000000000000000e080000000000000000000000000000000000000010000010080001c40000202000000100100fd800000000000006000000000000000000c000000000000f000040000000000000000000000000000000000000000000000000000000000000cf8408 m) (h : Moves m a s) : Moves m a (unitReact s x1 x2) := by
  unfold unitReact
  extract_lets +onlyGivenNames s1
  have h2 : Moves m a s1 := by
    unfold s1
    refine State.forL_moves ?_ ?_
    · assumption
    · intro v3 s4 h5
      refine chSafeReaction_moves hm.up ?_
      assumption
  clear_value s1
  extract_lets +onlyGivenNames s6
  have h7 : Moves m a s6 := by
    unfold s6
    refine State.onIf_moves ?_ ?_
    · assumption
    · intro s8 h9
      refine State.put_moves (Can.of hm) ?_
      refine State.put_moves (Can.of hm) ?_
      assumption
  clear_value s6
  extract_lets +onlyGivenNames s10
  have h11 : Moves m a s10 := by
    unfold s10
    refine State.logEv_moves hm.up ?_
    assumption
  clear_value s10
  extract_lets +onlyGivenNames s12
  have h13 : Moves m a s12 := by
    unfold s12
    refine State.modBdg_moves hm.up ?_
    assumption
  clear_value s12
  extract_lets +onlyGivenNames s14
  have h15 : Moves m a s14 := by
    unfold s14
    refine State.modTls_moves hm.up ?_
    assumption
  clear_value s14
  refine Moves.ite (fun _ => ?_) (fun _ => ?_)
  · extract_lets +onlyGivenNames s16
    have h17 : Moves m a s16 := by
      unfold s16
      refine State.modBdg_moves hm.up ?_
      assumption
    clear_value s16
    refine Moves.ite (fun _ => ?_) (fun _ => ?_)
    · refine safeEnLow_moves hm.up ?_
      refine safeEnLow_moves hm.up ?_
      assumption
    · refine safeEnUpdate_moves hm.up ?_
      assumption
  · assumption

theorem spHold_moves {m} {a s : State} {x1} (hm : Sub 0x28000 m) (h : Moves m a s) : Moves m a (spHold s x1) := by
  unfold spHold
  extract_lets +onlyGivenNames s1
  have h2 : Moves m a s1 := by
    unfold s1
    refine State.modCarr_moves hm.up ?_
    assumption
  clear_value s1
  refine State.modSp_moves hm.up ?_
  assumption

theorem escalate_moves {m} {a s : State} {x1 x2 x3} (hm : Sub 0x200000000000000000e080000000000000000000000000000000000000010000010080001c40000202000000100100fd800000000000006000000000000000000c000000000000f000040000000000000000000000000000000000000000000000000000000000000cf8408 m) (h : Moves m a s) : Moves m a (escalate s x1 x2 x3) := by
  unfold escalate
  refine Moves.ite (fun _ => ?_) (fun _ => ?_)
  · refine State.modBdg_moves hm.up ?_
    assumption
  · refine Moves.ite (fun _ => ?_) (fun _ => ?_)
    · refine unitReact_moves hm.up ?_
      assumption
    · refine State.forL_moves ?_ ?_
      · assumption
      · intro v1 s2 h3
        refine chSafeReaction_moves hm.up ?_
        assumption

theorem holdElem_moves {m} {a s : State} {x1 x2 x3} (hm : Sub 0x200000000000000000e080000000000000000000000000000000000000010000010080001c40000202000000100100fd800000000000006000000000000000000c000000000000f000040000000000000000000000000000000000000000000000000000000000000cf8408 m) (h : Moves m a s) : Moves m a (holdElem s x1 x2 x3) := by
  unfold holdElem
  refine Moves.ite (fun _ => ?_) (fun _ => ?_)
  · refine State.onIf_moves ?_ ?_
    · assumption
    · intro s1 h2
      refine escalate_moves hm.up ?_
      assumption
  · refine Moves.ite (fun _ => ?_) (fun _ => ?_)
    · refine escalate_moves hm.up ?_
      assumption
    · extract_lets +onlyGivenNames s3
      have h4 : Moves m a s3 := by
        unfold s3
        refine State.modBdg_moves hm.up ?_
        assumption
      clear_value s3
      split
      · refine spHold_moves hm.up ?_
        assumption
      · assumption

theorem faultRecord_moves {m} {a s : State} {x1 x2} (hm : Sub 0x200000000000000000e080000000000000000000000000000000000000010000000000040c000000000000000000000000000000000000000000000000000000000000000000000000000000000000000000000000000000000000000000000000000000000000000480408 m) (h : Moves m a s) : Moves m a (faultRecord s x1 x2) := by
  unfold faultRecord
  extract_lets +onlyGivenNames s1
  have h2 : Moves m a s1 := by
    unfold s1
    refine State.putBit_moves hm.up (Can.of hm) ?_
    assumption
  clear_value s1
  extract_lets +onlyGivenNames s3
  have h4 : Moves m a s3 := by
    unfold s3
    refine State.modBdg_moves hm.up ?_
    assumption
  clear_value s3
  extract_lets +onlyGivenNames v5
  clear_value v5
  extract_lets +onlyGivenNames s6
  have h7 : Moves m a s6 := by
    unfold s6
    refine State.owlRec_moves hm.up ?_
    refine State.irq_moves hm.up ?_
    refine State.logEv_moves hm.up ?_
    assumption
  clear_value s6
  extract_lets +onlyGivenNames s8
  have h9 : Moves m a s8 := by
    unfold s8
    refine State.onIf_moves ?_ ?_
    · assumption
    · intro s10 h11
      refine State.owlTrig_moves hm.up ?_
      assumption
  clear_value s8
  extract_lets +onlyGivenNames s12
  have h13 : Moves m a s12 := by
    unfold s12
    refine State.onIf_moves ?_ ?_
    · assumption
    · intro s14 h15
      refine State.owlTrig_moves hm.up ?_
      assumption
  clear_value s12
  refine State.onIf_moves ?_ ?_
  · assumption
  · intro s16 h17
    refine safeEnLow_moves hm.up ?_
    refine safeEnLow_moves hm.up ?_
    assumption

theorem faultAct_moves {m} {a s : State} {x1 x2 x3} (hm : Sub 0x200000000000000000e080000000000000000000000000000000000000010000010080001c40000202000000100100fd800000000000006000000000000000000c000000000000f000040000000000000000000000000000000000000000000000000000000000000cf8408 m) (h : Moves m a s) : Moves m a (faultAct s x1 x2 x3) := by
  unfold faultAct
  split
  · assumption
  · split
    · split
      · refine holdElem_moves hm.up ?_
        assumption
      · assumption
    · assumption
  · refine State.forL_moves ?_ ?_
    · assumption
    · intro v11 s12 h13
      refine chSafeReaction_moves hm.up ?_
      assumption
  · refine unitReact_moves hm.up ?_
    assumption
  · refine unitReact_moves hm.up ?_
    assumption

theorem faultArrive_moves {m} {a s : State} {x1 x2} (hm : Sub 0x200000000000000000e080000000000000000000000000000000000000010000010080041e40000202000000100100fd800000000000006000000000000000000c000000000000f000040000000000000000000000000000000000000000000000000000000000000cf8408 m) (h : Moves m a s) : Moves m a (faultArrive s x1 x2) := by
  unfold faultArrive
  refine faultNShow_moves hm.up ?_
  refine faultAct_moves hm.up ?_
  refine faultRecord_moves hm.up ?_
  assumption

theorem faultsArrive_moves {m} {a s : State} {x1} (hm : Sub 0x200000000000000000e080000000000000000000000000000000000000010000010080041e40000202000000100100fd800000000000006000000000000000000c000000000000f000040000000000000000000000000000000000000000000000000000000000000cf8408 m) (h : Moves m a s) : Moves m a (faultsArrive s x1) := by
  unfold faultsArrive
  extract_lets +onlyGivenNames v1
  clear_value v1
  extract_lets +onlyGivenNames v2
  clear_value v2
  extract_lets +onlyGivenNames s3
  have h4 : Moves m a s3 := by
    unfold s3
    refine Moves.foldl ?_ ?_
    · assumption
    · intro s5 v6 h7
      refine faultRecord_moves hm.up ?_
      assumption
  clear_value s3
  refine faultNShow_moves hm.up ?_
  refine Moves.foldl ?_ ?_
  · assumption
  · intro s8 v9 h10
    refine faultAct_moves hm.up ?_
    assumption

theorem deliverAll_moves {m} {a s : State} (hm : Sub 0x200000000000000000e080000000000000000000000000000000000000010000010080041e40000202000000100100fd800000000000006000000000000000000c000000000000f000040000000000000000000000000000000000000000000000000000000000000cf8c08 m) (h : Moves m a s) : Moves m a (deliverAll s) := by
  unfold deliverAll
  refine State.onIf_moves ?_ ?_
  · assumption
  · intro s1 h2
    refine faultsArrive_moves hm.up ?_
    refine Moves.inflight (s := s1) hm.up ?_
    assumption

theorem chuckCompare_moves {m} {a s : State} {x1 x2} (hm : Sub 0x200000000000000000e0800000000000000000000000000000000000000100000000000000003000000000000000000000000000000000000000000000000000000000000000000000000000000000000000000000000000000000000000000000000000000000000400c08 m) (h : Moves m a s) : Moves m a (chuckCompare s x1 x2) := by
  unfold chuckCompare
  extract_lets +onlyGivenNames s1
  have h2 : Moves m a s1 := by
    unfold s1
    refine State.put_moves (Can.of hm) ?_
    assumption
  clear_value s1
  refine State.onIf_moves ?_ ?_
  · assumption
  · intro s3 h4
    refine State.onIf_moves ?_ ?_
    · refine State.logRate_moves hm.up ?_
      refine State.raise_moves hm.up ?_
      refine State.incSat_moves hm.up (Can.of hm) ?_
      assumption
    · intro s5 h6
      refine State.owlRec_moves hm.up ?_
      assumption

theorem bdgRelease_moves {m} {a s : State} {x1} (hm : Sub 0x200000000000000000e080000000000000000000000000000000000000010000010080041e40300202000000100100fd800000000000006000000000000000000c000000000000f000040000000000000000000000000000000000000000000000000000000000000cf8c08 m) (h : Moves m a s) : Moves m a (bdgRelease s x1) := by
  unfold bdgRelease
  split
  · assumption
  · refine faultArrive_moves hm.up ?_
    refine chuckCompare_moves hm.up ?_
    refine Moves.inflight (s := s) hm.up ?_
    assumption

theorem pairDiffers_moves {m} {a s : State} {x1 x2} (hm : Sub 0x200000000000000000e0800000000000000000000000000000000000000100000000000000000080000000000000000000000000000000000000000000000000000000000000000000000000000000000000000000000000000000000000000000000000000000000428c08 m) (h : Moves m a s) : Moves m a (pairDiffers s x1 x2) := by
  unfold pairDiffers
  extract_lets +onlyGivenNames s1
  have h2 : Moves m a s1 := by
    unfold s1
    refine State.owlTrig_moves hm.up ?_
    refine State.putBit_moves hm.up (Can.of hm) ?_
    assumption
  clear_value s1
  extract_lets +onlyGivenNames s3
  have h4 : Moves m a s3 := by
    unfold s3
    refine State.raise_moves hm.up ?_
    assumption
  clear_value s3
  split
  · extract_lets +onlyGivenNames v6
    clear_value v6
    refine State.modSp_moves hm.up ?_
    refine State.modCarr_moves hm.up ?_
    assumption
  · assumption

theorem stageBlock_moves {m} {a s : State} {x1 x2} (hm : Sub 0x200000000000000000e0800000000000000000000000000000000000000100000000000000000000000000000000000000000000000000000000000000000000000000000000000000000000000000000000000000000000000000000000000000000000000000000480c08 m) (h : Moves m a s) : Moves m a (stageBlock s x1 x2).2 := by
  unfold stageBlock
  extract_lets +onlyGivenNames v1
  clear_value v1
  split
  · dsimp -zeta only
    refine State.modBdg_moves hm.up ?_
    assumption
  · dsimp -zeta only
    refine State.raise_moves hm.up ?_
    refine State.logEv_moves hm.up ?_
    assumption

theorem tmEval_moves {m} {a s : State} {x1 x2} (hm : Sub 0x200000000000000000e0800000000000000000000000000000000000000100000000000000000000000000000000000000000000000000000000000000000000000000000000000000000000000000000000000000000000000000000000000000000000000000000480c08 m) (h : Moves m a s) : Moves m a (tmEval s x1 x2) := by
  unfold tmEval
  refine Moves.ite (fun _ => ?_) (fun _ => ?_)
  · assumption
  · extract_lets +onlyGivenNames v1
    clear_value v1
    extract_lets +onlyGivenNames v2
    clear_value v2
    extract_lets +onlyGivenNames v3
    clear_value v3
    extract_lets +onlyGivenNames v4
    clear_value v4
    extract_lets +onlyGivenNames v5
    clear_value v5
    extract_lets +onlyGivenNames v6
    clear_value v6
    extract_lets +onlyGivenNames v7
    clear_value v7
    extract_lets +onlyGivenNames v8
    clear_value v8
    extract_lets +onlyGivenNames v9
    clear_value v9
    extract_lets +onlyGivenNames s10
    have h11 : Moves m a s10 := by
      unfold s10
      refine State.modBdg_moves hm.up ?_
      assumption
    clear_value s10
    extract_lets +onlyGivenNames s12
    have h13 : Moves m a s12 := by
      unfold s12
      refine State.onIf_moves ?_ ?_
      · assumption
      · intro s14 h15
        refine State.raise_moves hm.up ?_
        refine State.logEv_moves hm.up ?_
        assumption
    clear_value s12
    refine Moves.ite (fun _ => ?_) (fun _ => ?_)
    · assumption
    · extract_lets +onlyGivenNames v16
      clear_value v16
      extract_lets +onlyGivenNames v17
      clear_value v17
      extract_lets +onlyGivenNames v18
      clear_value v18
      extract_lets +onlyGivenNames v19
      clear_value v19
      extract_lets +onlyGivenNames v20
      clear_value v20
      extract_lets +onlyGivenNames v21
      clear_value v21
      extract_lets +onlyGivenNames v22
      clear_value v22
      extract_lets +onlyGivenNames v23
      clear_value v23
      extract_lets +onlyGivenNames v24
      clear_value v24
      extract_lets +onlyGivenNames v25
      clear_value v25
      extract_lets +onlyGivenNames v26
      clear_value v26
      extract_lets +onlyGivenNames s27
      have h28 : Moves m a s27 := by
        unfold s27
        refine State.modBdg_moves hm.up ?_
        assumption
      clear_value s27
      refine State.onIf_moves ?_ ?_
      · assumption
      · intro s29 h30
        refine State.raise_moves hm.up ?_
        refine State.logEv_moves hm.up ?_
        assumption

theorem badgerEval_moves {m} {a s : State} {x1} (hm : Sub 0x200000000000000000e080000000000000000000000000000000000000010000000000100e000000000000000000000000000000000000000000000000000000000000000000000000000000000000000000000000000000000000000000000000000000000000000480c08 m) (h : Moves m a s) : Moves m a (badgerEval s x1) := by
  unfold badgerEval
  extract_lets +onlyGivenNames s1
  have h2 : Moves m a s1 := by
    unfold s1
    refine State.forL_moves ?_ ?_
    · assumption
    · intro v3 s4 h5
      refine tmEval_moves hm.up ?_
      assumption
  clear_value s1
  extract_lets +onlyGivenNames s6
  have h7 : Moves m a s6 := by
    unfold s6
    refine State.modBdg_moves hm.up ?_
    assumption
  clear_value s6
  extract_lets +onlyGivenNames s8
  have h9 : Moves m a s8 := by
    unfold s8
    split
    · extract_lets +onlyGivenNames s14
      have h15 : Moves m a s14 := by
        unfold s14
        refine State.modBdg_moves hm.up ?_
        assumption
      clear_value s14
      refine State.logEv_moves hm.up ?_
      refine State.put_moves (Can.of hm) ?_
      assumption
    · assumption
  clear_value s8
  refine faultNShow_moves hm.up ?_
  refine safeEnUpdate_moves hm.up ?_
  assumption

theorem wdgFault_moves {m} {a s : State} {x1} (hm : Sub 0x200000000000000000e0800000000000000000000000000000000000000100000000000080000000000000000000000000000000000000000000000000000000000000000000000000000000000000000000000000000000000000000000000000000000000000000400c08 m) (h : Moves m a s) : Moves m a (wdgFault s x1) := by
  unfold wdgFault
  refine State.raise_moves hm.up ?_
  refine State.logEv_moves hm.up ?_
  refine State.incSat_moves hm.up (Can.of hm) ?_
  assumption

theorem wdgKick_moves {m} {a s : State} {x1 x2 x3} (hm : Sub 0x200000000000000000e0800000000000000000000000000000000000000100000000000280000000000000000000000000000000000000000000000000000000000000000000000000000000000000000000000000000000000000000000000000000000000000000480c0c m) (h : Moves m a s) : Moves m a (wdgKick s x1 x2 x3) := by
  unfold wdgKick
  extract_lets +onlyGivenNames v1
  clear_value v1
  refine Moves.ite (fun _ => ?_) (fun _ => ?_)
  · refine wdgFault_moves hm.up ?_
    assumption
  · extract_lets +onlyGivenNames s2
    have h3 : Moves m a s2 := by
      unfold s2
      refine State.modBdg_moves hm.up ?_
      assumption
    clear_value s2
    refine State.freeNext_moves hm.up ?_
    refine State.put_moves (Can.of hm) ?_
    assumption

theorem wdgRestart_moves {m} {a s : State} {x1} (hm : Sub 0x80000 m) (h : Moves m a s) : Moves m a (wdgRestart s x1) := by
  unfold wdgRestart
  refine State.modBdg_moves hm.up ?_
  assumption

theorem mbAnswer_moves {m} {a s : State} {x1 x2 x3 x4} (hm : Sub 0x20000000000000000000000000000000000000000000000000000000000000000000000000380000000000000000000000000000000000000000000000000000000000000000000000000000000000000000000000000000000000000000000000000000000000000080010 m) (h : Moves m a s) : Moves m a (mbAnswer s x1 x2 x3 x4) := by
  unfold mbAnswer
  extract_lets +onlyGivenNames s1
  have h2 : Moves m a s1 := by
    unfold s1
    refine State.modBdg_moves hm.up ?_
    assumption
  clear_value s1
  extract_lets +onlyGivenNames s3
  have h4 : Moves m a s3 := by
    unfold s3
    refine State.forL_moves ?_ ?_
    · assumption
    · intro v5 s6 h7
      refine Moves.mem (s := s6) ?_ ?_
      · exact .bytes hm.up .refl
      · assumption
  clear_value s3
  extract_lets +onlyGivenNames s8
  have h9 : Moves m a s8 := by
    unfold s8
    refine State.put_moves (Can.of hm) ?_
    refine State.put_moves (Can.of hm) ?_
    assumption
  clear_value s8
  refine State.irq_moves hm.up ?_
  refine State.put_moves (Can.of hm) ?_
  assumption

theorem mbTake_moves {m} {a s : State} (hm : Sub 0x200000000000000000000000000000000000000000000000000000000000000000000000003a0000000000000000000000000000000000000000000000000000000000000000000000000000000000000000000000000000000000000000000000000000000000000080010 m) (h : Moves m a s) : Moves m a (mbTake s) := by
  unfold mbTake
  extract_lets +onlyGivenNames s1
  have h2 : Moves m a s1 := by
    unfold s1
    refine State.put_moves (Can.of hm) ?_
    assumption
  clear_value s1
  extract_lets +onlyGivenNames v3
  clear_value v3
  refine Moves.ite (fun _ => ?_) (fun _ => ?_)
  · refine State.put_moves (Can.of hm) ?_
    assumption
  · refine mbAnswer_moves hm.up ?_
    assumption

theorem mbReply_moves {m} {a s : State} {x1 x2 x3 x4} (hm : Sub 0x200000000000000000000000000000000000000000000000000000000000000000000000003a0000000000000000000000000000000000000000000000000000000000000000000000000000000000000000000000000000000000000000000000000000000000000080010 m) (h : Moves m a s) : Moves m a (mbReply s x1 x2 x3 x4) := by
  unfold mbReply
  extract_lets +onlyGivenNames s1
  have h2 : Moves m a s1 := by
    unfold s1
    refine mbAnswer_moves hm.up ?_
    assumption
  clear_value s1
  refine State.onIf_moves ?_ ?_
  · assumption
  · intro s3 h4
    refine mbTake_moves hm.up ?_
    assumption

theorem mbSubmit_moves {m} {a s : State} (hm : Sub 0x200000000000000000000000000000000000000000000000000000000000000000000000003a0000000000000000000000000000000000000000000000000000000000000000000000000000000000000000000000000000000000000000000000000000000000000080010 m) (h : Moves m a s) : Moves m a (mbSubmit s) := by
  unfold mbSubmit
  extract_lets +onlyGivenNames s1
  have h2 : Moves m a s1 := by
    unfold s1
    refine State.put_moves (Can.of hm) ?_
    assumption
  clear_value s1
  refine Moves.ite (fun _ => ?_) (fun _ => ?_)
  · assumption
  · refine mbTake_moves hm.up ?_
    assumption

theorem fclear_moves {m} {a s : State} {x1} (hm : Sub 0x20000000000000000020000000000000000000000000000000000000000100000000000400000000000000000000000000000000000000000000000000000000000000000000000000000000000000000000000000000000000000000000000000000000000000000400408 m) (h : Moves m a s) : Moves m a (fclear s x1) := by
  unfold fclear
  refine State.onIf_moves ?_ ?_
  · assumption
  · intro s1 h2
    refine State.owlRec_moves hm.up ?_
    refine State.putBit_moves hm.up (Can.of hm) ?_
    assumption

theorem execBadgerEval_moves {m} {a s : State} {x1} (hm : Sub 0x200000000000000000e080000000000000000000000000000000000000010000000000100e000000000000000000000000000000000000000000000000000000000000000000000000000000000000000000000000000000000000000000000000000000000000000480c08 m) (h : Moves m a s) : Ends m a (execBadgerEval x1 s) := by
  unfold execBadgerEval
  refine live_moves ?_ ?_
  · assumption
  · intro s1 h2
    refine badgerEval_moves hm.up ?_
    assumption

theorem bdgDiffers_moves {m} {a s : State} (hm : Sub 0x200000000000000000e0800000000000000000000000000000000000000100000000000000000000000000000000000000000000000000000000000000000000000000000000000000000000000000000000000000000000000000000000000000000000000000000400c08 m) (h : Moves m a s) : Moves m a (bdgDiffers s) := by
  unfold bdgDiffers
  refine State.raise_moves hm.up ?_
  refine State.logEv_moves hm.up ?_
  refine State.owlTrig_moves hm.up ?_
  assumption

theorem execLockstepMismatch_moves {m} {a s : State} {x1 x2 x3 x4} (hm : Sub 0x200000000000000000e08000000000000000000000000000000000000001000000000000000005c0000000000000000000000000000000000000000000000000000000000000000000000000000000000000000000000000000000000000000000000000000000000428c08 m) (h : Moves m a s) : Ends m a (execLockstepMismatch x1 x2 x3 x4 s) := by
  unfold execLockstepMismatch
  refine live_moves ?_ ?_
  · assumption
  · intro s1 h2
    refine Moves.ite (fun _ => ?_) (fun _ => ?_)
    · assumption
    · split
      · extract_lets +onlyGivenNames s4
        have h5 : Moves m a s4 := by
          unfold s4
          refine State.onIf_moves ?_ ?_
          · assumption
          · intro s6 h7
            refine State.incSat_moves hm.up (Can.of hm) ?_
            assumption
        clear_value s4
        extract_lets +onlyGivenNames s8
        have h9 : Moves m a s8 := by
          unfold s8
          refine State.onIf_moves ?_ ?_
          · assumption
          · intro s10 h11
            refine State.putBit_moves hm.up (Can.of hm) ?_
            assumption
        clear_value s8
        refine pairDiffers_moves hm.up ?_
        refine State.logEv_moves hm.up ?_
        refine State.incSat_moves hm.up (Can.of hm) ?_
        assumption
      · refine bdgDiffers_moves hm.up ?_
        assumption

theorem execCmpSelftest_moves {m} {a s : State} {x1 x2 x3} (hm : Sub 0x200000000000000000e0800000000000000000000000000000000000000100000000000000010800000000000000000000000000000000000000000000000000000000000000000000000000000000000000000000000000000000000000000000000000000000000480c08 m) (h : Moves m a s) : Ends m a (execCmpSelftest x1 x2 x3 s) := by
  unfold execCmpSelftest
  refine live_moves ?_ ?_
  · assumption
  · intro s1 h2
    extract_lets +onlyGivenNames v3
    clear_value v3
    extract_lets +onlyGivenNames s4
    have h5 : Moves m a s4 := by
      unfold s4
      refine State.modBdg_moves hm.up ?_
      refine State.put_moves (Can.of hm) ?_
      assumption
    clear_value s4
    refine Moves.ite (fun _ => ?_) (fun _ => ?_)
    · refine State.onIf_moves ?_ ?_
      · assumption
      · intro s6 h7
        refine State.incSat_moves hm.up (Can.of hm) ?_
        assumption
    · refine State.raise_moves hm.up ?_
      refine State.logEv_moves hm.up ?_
      assumption

theorem execStateDigest_moves {m} {a s : State} {x1 x2 x3} (hm : Sub 0x200000000000000000e0800000000000000000000000000000000000000100000000000000000280000000000000000000000000000000000000000000000000000000000000000000000000000000000000000000000000000000000000000000000000000000000428c08 m) (h : Moves m a s) : Ends m a (execStateDigest x1 x2 x3 s) := by
  unfold execStateDigest
  refine live_moves ?_ ?_
  · assumption
  · intro s1 h2
    refine Moves.ite (fun _ => ?_) (fun _ => ?_)
    · assumption
    · refine pairDiffers_moves hm.up ?_
      refine State.logEv_moves hm.up ?_
      refine State.incSat_moves hm.up (Can.of hm) ?_
      assumption

theorem haltPair_moves {m} {a s : State} {x1} (hm : Sub 0x200000000000000000e0800000000000000000000000000000000000000100000000000001800000000000000000000000000000000000000000000000000000000000000000000000000000000000000000000000000000000000000000000000000000000000000400c08 m) (h : Moves m a s) : Moves m a (haltPair s x1) := by
  unfold haltPair
  refine State.raise_moves hm.up ?_
  refine State.logEv_moves hm.up ?_
  refine State.put_moves ?_ ?_
  · refine Can.ite ?_ ?_
    · exact (Can.of hm)
    · exact (Can.of hm)
  · assumption

theorem execCorePairRestart_moves {m} {a s : State} {x1} (hm : Sub 0x200000000000000000e0800000000000000000000000000000000000000100000000000001800020000000000000000000000000000000000000000000000000000000000000000000000000000000000000000000000000000000000000000000000000000000000480c08 m) (h : Moves m a s) : Ends m a (execCorePairRestart x1 s) := by
  unfold execCorePairRestart
  refine live_moves ?_ ?_
  · assumption
  · intro s1 h2
    refine Moves.ite (fun _ => ?_) (fun _ => ?_)
    · assumption
    · extract_lets +onlyGivenNames s3
      have h4 : Moves m a s3 := by
        unfold s3
        refine State.modBdg_moves hm.up ?_
        assumption
      clear_value s3
      extract_lets +onlyGivenNames s5
      have h6 : Moves m a s5 := by
        unfold s5
        refine State.logEv_moves hm.up ?_
        refine State.putBit_moves hm.up (Can.of hm) ?_
        assumption
      clear_value s5
      extract_lets +onlyGivenNames s7
      have h8 : Moves m a s7 := by
        unfold s7
        refine State.owlRec_moves hm.up ?_
        refine wdgRestart_moves hm.up ?_
        assumption
      clear_value s7
      refine State.onIf_moves ?_ ?_
      · assumption
      · intro s9 h10
        refine haltPair_moves hm.up ?_
        refine State.modBdg_moves hm.up ?_
        assumption

theorem execDebugHalt_moves {m} {a s : State} {x1} (hm : Sub 0x200000000000000000e0800000000000000000000000000000000000000100000000000001800000000000000000000000000000000000000000000000000000000000000000000000000000000000000000000000000000000000000000000000000000000000000480c08 m) (h : Moves m a s) : Ends m a (execDebugHalt x1 s) := by
  unfold execDebugHalt
  refine live_moves ?_ ?_
  · assumption
  · intro s1 h2
    refine State.onIf_moves ?_ ?_
    · assumption
    · intro s3 h4
      refine Moves.ite (fun _ => ?_) (fun _ => ?_)
      · refine State.modBdg_moves hm.up ?_
        assumption
      · refine haltPair_moves hm.up ?_
        assumption

theorem execCkbMonitor_moves {m} {a s : State} {x1} (hm : Sub 0x1000000000080800 m) (h : Moves m a s) : Ends m a (execCkbMonitor x1 s) := by
  unfold execCkbMonitor
  refine live_moves ?_ ?_
  · assumption
  · intro s1 h2
    extract_lets +onlyGivenNames v3
    clear_value v3
    extract_lets +onlyGivenNames v4
    clear_value v4
    extract_lets +onlyGivenNames s5
    have h6 : Moves m a s5 := by
      unfold s5
      refine State.putB_moves hm.up (Can.of hm) ?_
      assumption
    clear_value s5
    extract_lets +onlyGivenNames s7
    have h8 : Moves m a s7 := by
      unfold s7
      refine State.modBdg_moves hm.up ?_
      assumption
    clear_value s7
    refine State.onIf_moves ?_ ?_
    · assumption
    · intro s9 h10
      refine State.raise_moves hm.up ?_
      assumption

theorem execCkbTrim_moves {m} {a s : State} (hm : Sub 0x80000 m) (h : Moves m a s) : Ends m a (execCkbTrim s) := by
  unfold execCkbTrim
  refine live_moves ?_ ?_
  · assumption
  · intro s1 h2
    refine State.modBdg_moves hm.up ?_
    assumption

theorem execSupplyFault_moves {m} {a s : State} {x1} (hm : Sub 0x200000000000000000e0800000000000000000000000000000000000000100000000000000000000000000000000000000000000000000000000000000000000000000000000000000000000000000000000000000000000000000000000000000000000000000000480c08 m) (h : Moves m a s) : Ends m a (execSupplyFault x1 s) := by
  unfold execSupplyFault
  refine live_moves ?_ ?_
  · assumption
  · intro s1 h2
    extract_lets +onlyGivenNames s3
    have h4 : Moves m a s3 := by
      unfold s3
      refine State.modBdg_moves hm.up ?_
      assumption
    clear_value s3
    refine State.raise_moves hm.up ?_
    refine State.logEv_moves hm.up ?_
    assumption

theorem execSupplyReturn_moves {m} {a s : State} {x1} (hm : Sub 0x2000000000000000000000000000000000000000000000000000000000000000000000000000000000000000000000000000000000000000000000000000000000000000080000 m) (h : Moves m a s) : Ends m a (execSupplyReturn x1 s) := by
  unfold execSupplyReturn
  refine live_moves ?_ ?_
  · assumption
  · intro s1 h2
    refine State.onIf_moves ?_ ?_
    · assumption
    · intro s3 h4
      refine faultNShow_moves hm.up ?_
      refine State.modBdg_moves hm.up ?_
      assumption

theorem execBdgUndervoltReset_moves {m} {a s : State} (hm : Sub 0x140e0a0000000000000000000000000000000000000000000000000000000000000000000000000000000000000000000000000000000000000000000000000000000000000880000 m) (h : Moves m a s) : Ends m a (execBdgUndervoltReset s) := by
  unfold execBdgUndervoltReset
  refine live_moves ?_ ?_
  · assumption
  · intro s1 h2
    extract_lets +onlyGivenNames s3
    have h4 : Moves m a s3 := by
      unfold s3
      refine safeEnLow_moves hm.up ?_
      refine safeEnLow_moves hm.up ?_
      refine State.put_moves (Can.of hm) ?_
      assumption
    clear_value s3
    extract_lets +onlyGivenNames s5
    have h6 : Moves m a s5 := by
      unfold s5
      refine State.put_moves (Can.of hm) ?_
      refine State.modTls_moves hm.up ?_
      assumption
    clear_value s5
    extract_lets +onlyGivenNames s7
    have h8 : Moves m a s7 := by
      unfold s7
      refine State.put_moves (Can.of hm) ?_
      refine State.put_moves (Can.of hm) ?_
      assumption
    clear_value s7
    extract_lets +onlyGivenNames s9
    have h10 : Moves m a s9 := by
      unfold s9
      refine State.forN_moves ?_ ?_
      · assumption
      · intro v11 s12 h13
        refine State.put_moves (Can.of hm) ?_
        assumption
    clear_value s9
    refine State.modBdg_moves hm.up ?_
    assumption

theorem execWdgTimeout_moves {m} {a s : State} {x1} (hm : Sub 0x200000000000000000e0800000000000000000000000000000000000000100000000000080000000000000000000000000000000000000000000000000000000000000000000000000000000000000000000000000000000000000000000000000000000000000000400c08 m) (h : Moves m a s) : Ends m a (execWdgTimeout x1 s) := by
  unfold execWdgTimeout
  refine live_moves ?_ ?_
  · assumption
  · intro s1 h2
    refine State.onIf_moves ?_ ?_
    · assumption
    · intro s3 h4
      refine wdgFault_moves hm.up ?_
      assumption

theorem execFaultRead_moves {m} {a s : State} {x1} (hm : Sub 0x200000000000000000000000000000000000000000000000000000000000000000000000003a0000000000000000000000000000000000000000000000000000000000000000000000000000000000000000000000000000000000000000000000000000000000000080010 m) (h : Moves m a s) : Ends m a (execFaultRead x1 s) := by
  unfold execFaultRead
  refine live_moves ?_ ?_
  · assumption
  · intro s1 h2
    refine mbReply_moves hm.up ?_
    assumption

theorem execFaultClear_moves {m} {a s : State} {x1 x2} (hm : Sub 0x200000000000000000200000000000000000000000000000000000000001000000000004023a0000000000000000000000000000000000000000000000000000000000000000000000000000000000000000000000000000000000000000000000000000000000000480418 m) (h : Moves m a s) : Ends m a (execFaultClear x1 x2 s) := by
  unfold execFaultClear
  refine live_moves ?_ ?_
  · assumption
  · intro s1 h2
    refine faultNShow_moves hm.up ?_
    refine mbReply_moves hm.up ?_
    refine State.forL_moves ?_ ?_
    · assumption
    · intro v3 s4 h5
      refine State.onIf_moves ?_ ?_
      · assumption
      · intro s6 h7
        refine fclear_moves hm.up ?_
        assumption

theorem execClassRead_moves {m} {a s : State} {x1} (hm : Sub 0x200000000000000000000000000000000000000000000000000000000000000000000000003a0000000000000000000000000000000000000000000000000000000000000000000000000000000000000000000000000000000000000000000000000000000000000080010 m) (h : Moves m a s) : Ends m a (execClassRead x1 s) := by
  unfold execClassRead
  refine live_moves ?_ ?_
  · assumption
  · intro s1 h2
    refine mbReply_moves hm.up ?_
    assumption

theorem execParamStage_moves {m} {a s : State} {x1 x2 x3} (hm : Sub 0x200000000000000000e08000000000000000000000000000000000000001000000000000003a0000000000000000000000000000000000000000000000000000000000000000000000000000000000000000000000000000000000000000000000000000000000000480c18 m) (h : Moves m a s) : Ends m a (execParamStage x1 x2 x3 s) := by
  unfold execParamStage
  refine live_moves ?_ ?_
  · assumption
  · intro s1 h2
    extract_lets +onlyGivenNames v3
    have h4 : Moves m a v3.2 := by
      unfold v3
      refine stageBlock_moves hm.up ?_
      assumption
    clear_value v3
    refine mbReply_moves hm.up ?_
    assumption

theorem execParamRead_moves {m} {a s : State} {x1} (hm : Sub 0x200000000000000000000000000000000000000000000000000000000000000000000000003a0000000000000000000000000000000000000000000000000000000000000000000000000000000000000000000000000000000000000000000000000000000000000080010 m) (h : Moves m a s) : Ends m a (execParamRead x1 s) := by
  unfold execParamRead
  refine live_moves ?_ ?_
  · assumption
  · intro s1 h2
    refine mbReply_moves hm.up ?_
    assumption

theorem execMonRead_moves {m} {a s : State} {x1} (hm : Sub 0x200000000000000000000000000000000000000000000000000000000000000000000000003a0000000000000000000000000000000000000000000000000000000000000000000000000000000000000000000000000000000000000000000000000000000000000080010 m) (h : Moves m a s) : Ends m a (execMonRead x1 s) := by
  unfold execMonRead
  refine live_moves ?_ ?_
  · assumption
  · intro s1 h2
    refine mbReply_moves hm.up ?_
    assumption

theorem execSafeEnPulseEnd_moves {m} {a s : State} (hm : Sub 0xc000000000000000000000000000000000000000000000000000000000000000000000000000000000000000000000000000000000000000000000000000000000000000080000 m) (h : Moves m a s) : Ends m a (execSafeEnPulseEnd s) := by
  unfold execSafeEnPulseEnd
  refine live_moves ?_ ?_
  · assumption
  · intro s1 h2
    split
    · assumption
    · extract_lets +onlyGivenNames s8
      have h9 : Moves m a s8 := by
        unfold s8
        refine State.modBdg_moves hm.up ?_
        assumption
      clear_value s8
      refine State.onIf_moves ?_ ?_
      · assumption
      · intro s10 h11
        refine State.put_moves ?_ ?_
        · refine Can.ite ?_ ?_
          · exact (Can.of hm)
          · exact (Can.of hm)
        · assumption

/-! ### ChanCmd -/

theorem settBudgetShow_moves {m} {a s : State} {x1} (hm : Sub 0x3000000000000000000000000000000000000000000000000000000000000000000000000000000000000000000000000000000000000000000000000000000000000000000000000000000000000000000000000000000 m) (h : Moves m a s) : Moves m a (settBudgetShow s x1) := by
  unfold settBudgetShow
  extract_lets +onlyGivenNames v1
  clear_value v1
  refine State.put_moves (Can.of hm) ?_
  refine State.put_moves (Can.of hm) ?_
  assumption

theorem absentShow_moves {m} {a s : State} {x1} (hm : Sub 0x200000000000000000e0800000000000000000000000000000000000000100000000000000000000000000000000000000000000000000000000000400000000000000000000000000000000000000000000000000000000000000000000000000000000000000000400408 m) (h : Moves m a s) : Moves m a (absentShow s x1) := by
  unfold absentShow
  refine State.forN_moves ?_ ?_
  · assumption
  · intro v1 s2 h3
    extract_lets +onlyGivenNames v4
    clear_value v4
    refine State.onIf_moves ?_ ?_
    · refine State.putBit_moves hm.up (Can.of hm) ?_
      assumption
    · intro s5 h6
      refine State.logEv_moves hm.up ?_
      assumption

theorem settShowFor_moves {m} {a s : State} {x1} (hm : Sub 0x3000000000000000000000000000000000000000000000000000000000000000000000000000000000000000000000000000000000000000000000000000000000000000000000000000000000000000000000000000000 m) (h : Moves m a s) : Moves m a (settShowFor s x1) := by
  unfold settShowFor
  refine State.forL_moves ?_ ?_
  · assumption
  · intro v1 s2 h3
    refine State.onIf_moves ?_ ?_
    · assumption
    · intro s4 h5
      refine settBudgetShow_moves hm.up ?_
      assumption

theorem enterRun_moves {m} {a s : State} {x1 x2} (hm : Sub 0x200000000000000000e080000000000000000000000000000000000000010000000000000000000200000000100000fc340000000000006000000004000002004c000000000000f000000000000000000000000000000000000000000000000000000000000000000478748 m) (h : Moves m a s) : Moves m a (enterRun s x1 x2) := by
  unfold enterRun
  extract_lets +onlyGivenNames s1
  have h2 : Moves m a s1 := by
    unfold s1
    refine setState_moves hm.up ?_
    refine absentShow_moves hm.up ?_
    assumption
  clear_value s1
  refine spEnter_moves hm.up ?_
  refine State.modChan_moves hm.up ?_
  assumption

theorem chEnable_moves {m} {a s : State} {x1} (hm : Sub 0x200000000000000000e080000000000000000000300000000000000000010000000000000000000200000000100000fc340000000000006000000004000002004c000000000000f000000000000000000000000000000000000000000000000000000000018000000478748 m) (h : Moves m a s) : Moves m a (chEnable s x1).2 := by
  unfold chEnable
  extract_lets +onlyGivenNames s1
  have h2 : Moves m a s1 := by
    unfold s1
    refine settShowFor_moves hm.up ?_
    refine budgetShow_moves hm.up ?_
    assumption
  clear_value s1
  split
  · dsimp -zeta only
    assumption
  · split
    · split
      · dsimp -zeta only
        refine enterRun_moves hm.up ?_
        assumption
      · dsimp -zeta only
        assumption
    · dsimp -zeta only
      assumption
    · split
      · dsimp -zeta only
        refine State.modChan_moves hm.up ?_
        assumption
      · dsimp -zeta only
        assumption
    · dsimp -zeta only
      assumption
    · dsimp -zeta only
      assumption

theorem chStopCmd_moves {m} {a s : State} {x1} (hm : Sub 0x200000000000000000e080000000000000000000000000000000000000010000000000000000000202000000100000fc800000000000006000000000000000000c000000000042f00004200000000000000000000000000000000000000000000000000000000000047840c m) (h : Moves m a s) : Moves m a (chStopCmd s x1).2 := by
  unfold chStopCmd
  split
  · dsimp -zeta only
    split
    · refine preAbandon_moves hm.up ?_
      assumption
    · refine setState_moves hm.up ?_
      assumption
  · dsimp -zeta only
    refine Moves.ite (fun _ => ?_) (fun _ => ?_)
    · refine modDtc_moves hm.up ?_
      assumption
    · refine enterStop_moves hm.up ?_
      assumption
  · dsimp -zeta only
    assumption
  · dsimp -zeta only
    assumption

theorem chPrecharge_moves {m} {a s : State} {x1} (hm : Sub 0x200000000000000000e080000000000000000000000000000000000000010000000000000000000202000000100000fc000000000000006000000000000000000c000000000042f00004200000000000000000000000000000000000000000000000000000000000047840c m) (h : Moves m a s) : Moves m a (chPrecharge s x1).2 := by
  unfold chPrecharge
  split
  · dsimp -zeta only
    assumption
  · split
    · dsimp -zeta only
      assumption
    · split
      · dsimp -zeta only
        refine setState_moves hm.up ?_
        assumption
      · dsimp -zeta only
        refine setState_moves hm.up ?_
        assumption
      · dsimp -zeta only
        refine preStart_moves hm.up ?_
        assumption
      · dsimp -zeta only
        assumption
      · dsimp -zeta only
        assumption
      · dsimp -zeta only
        assumption
      · dsimp -zeta only
        assumption
      · dsimp -zeta only
        assumption

theorem chDischarge_moves {m} {a s : State} {x1} (hm : Sub 0x200000000000000000e08000000000000000000000000000000000000001000000000000000000020a000000100000fc340000000000006000000000000002004c000000000000f000000000000000000000000000000000000000000000000000000000000000000478f48 m) (h : Moves m a s) : Moves m a (chDischarge s x1).2 := by
  unfold chDischarge
  split
  · dsimp -zeta only
    assumption
  · split
    · dsimp -zeta only
      assumption
    · split
      · dsimp -zeta only
        assumption
      · dsimp -zeta only
        assumption
      · dsimp -zeta only
        assumption
      · dsimp -zeta only
        assumption
      · extract_lets +onlyGivenNames v21
        clear_value v21
        split
        · dsimp -zeta only
          refine disStart_moves hm.up ?_
          assumption
        · dsimp -zeta only
          assumption

theorem ocClear_moves {m} {a s : State} {x1} (hm : Sub 0x1800000000800000200000000000000000000000000000000000000000000000000000000000000000000000000000000000000000000000000000000000000000000000 m) (h : Moves m a s) : Moves m a (ocClear s x1) := by
  unfold ocClear
  refine motoringClear_moves hm.up ?_
  refine State.put_moves (Can.of hm) ?_
  assumption

theorem chSrcClear_moves {m} {a s : State} {x1} (hm : Sub 0x20000000000000000020000000000000000000000000000000000000000100000000000400000000000000000000000000000000000000000000000000000000000000000000000000000000000000000000000000000000000000000000000000000000000000000400408 m) (h : Moves m a s) : Moves m a (chSrcClear s x1) := by
  unfold chSrcClear
  refine State.forN_moves ?_ ?_
  · assumption
  · intro v1 s2 h3
    refine fclear_moves hm.up ?_
    assumption

theorem chClearFault_moves {m} {a s : State} {x1} (hm : Sub 0x200000000000000000e080000000000000000000000000000000000000010000000000040000000380000000180000fe340000000000006010000004000002004c000000000000f000000000000000000000000000000000000000000000000000000000000000000478748 m) (h : Moves m a s) : Moves m a (chClearFault s x1).2 := by
  unfold chClearFault
  split
  · dsimp -zeta only
    refine ocClear_moves hm.up ?_
    assumption
  · split
    · dsimp -zeta only
      assumption
    · split
      · extract_lets +onlyGivenNames v6
        clear_value v6
        extract_lets +onlyGivenNames v7
        clear_value v7
        split
        · extract_lets +onlyGivenNames s9
          have h10 : Moves m a s9 := by
            unfold s9
            refine enterRun_moves hm.up ?_
            refine chSrcClear_moves hm.up ?_
            refine motoringClear_moves hm.up ?_
            assumption
          clear_value s9
          extract_lets +onlyGivenNames s11
          have h12 : Moves m a s11 := by
            unfold s11
            refine State.put_moves (Can.of hm) ?_
            refine State.put_moves (Can.of hm) ?_
            refine State.put_moves (Can.of hm) ?_
            assumption
          clear_value s11
          extract_lets +onlyGivenNames s13
          have h14 : Moves m a s13 := by
            unfold s13
            refine modDtc_moves hm.up ?_
            assumption
          clear_value s13
          dsimp -zeta only
          refine driveVec_moves hm.up ?_
          assumption
        · dsimp -zeta only
          assumption
      · extract_lets +onlyGivenNames v17
        clear_value v17
        dsimp -zeta only
        refine setState_moves hm.up ?_
        refine chSrcClear_moves hm.up ?_
        refine motoringClear_moves hm.up ?_
        assumption

/-! ### Ckpt -/

theorem adoptBytes_moves {m} {a s : State} {x1 x2} (hm : Sub 0x1800000000000000000000800000200000000000000000000000000000000000000060e00000000000000000000000000000000000000000024340 m) (h : Moves m a s) : Moves m a (adoptBytes s x1 x2) := by
  unfold adoptBytes
  extract_lets +onlyGivenNames v1
  clear_value v1
  extract_lets +onlyGivenNames v2
  clear_value v2
  extract_lets +onlyGivenNames s3
  have h4 : Moves m a s3 := by
    unfold s3
    refine State.putPairs_moves hm.up ?_
    assumption
  clear_value s3
  extract_lets +onlyGivenNames s5
  have h6 : Moves m a s5 := by
    unfold s5
    refine State.putLw_moves hm.up ?_
    refine State.putLw_moves hm.up ?_
    assumption
  clear_value s5
  extract_lets +onlyGivenNames s7
  have h8 : Moves m a s7 := by
    unfold s7
    refine State.forN_moves ?_ ?_
    · assumption
    · intro v9 s10 h11
      extract_lets +onlyGivenNames v12
      clear_value v12
      extract_lets +onlyGivenNames v13
      clear_value v13
      extract_lets +onlyGivenNames v14
      clear_value v14
      refine State.putLw_moves hm.up ?_
      refine State.putLw_moves hm.up ?_
      refine State.putLw_moves hm.up ?_
      assumption
  clear_value s7
  extract_lets +onlyGivenNames v15
  clear_value v15
  extract_lets +onlyGivenNames s16
  have h17 : Moves m a s16 := by
    unfold s16
    refine State.putS_moves hm.up (Can.of hm) ?_
    refine State.putS_moves hm.up (Can.of hm) ?_
    assumption
  clear_value s16
  extract_lets +onlyGivenNames v18
  clear_value v18
  extract_lets +onlyGivenNames v19
  clear_value v19
  extract_lets +onlyGivenNames v20
  clear_value v20
  extract_lets +onlyGivenNames s21
  have h22 : Moves m a s21 := by
    unfold s21
    refine State.modSp_moves hm.up ?_
    assumption
  clear_value s21
  extract_lets +onlyGivenNames s23
  have h24 : Moves m a s23 := by
    unfold s23
    refine State.put_moves (Can.of hm) ?_
    assumption
  clear_value s23
  refine frzShow_moves hm.up ?_
  refine abzSet_moves hm.up ?_
  assumption

theorem redoPeriod_moves {m} {a s : State} {x1 x2 x3 x4} (hm : Sub 0x200000000000000000e080000000000000000000000000000000000000010000000000000000000200000000100000fc8fe0000000000070c000803b800002000c000000000000f00000000000000000000000000000000000000000000000000003fc00000000000478f48 m) (h : Moves m a s) : Moves m a (redoPeriod s x1 x2 x3 x4) := by
  unfold redoPeriod
  extract_lets +onlyGivenNames v1
  clear_value v1
  extract_lets +onlyGivenNames s2
  have h3 : Moves m a s2 := by
    unfold s2
    refine State.put_moves (Can.of hm) ?_
    refine State.put_moves (Can.of hm) ?_
    assumption
  clear_value s2
  extract_lets +onlyGivenNames s4
  have h5 : Moves m a s4 := by
    unfold s4
    refine State.modSp_moves hm.up ?_
    assumption
  clear_value s4
  extract_lets +onlyGivenNames s6
  have h7 : Moves m a s6 := by
    unfold s6
    refine account_moves hm.up ?_
    assumption
  clear_value s6
  extract_lets +onlyGivenNames v8
  clear_value v8
  extract_lets +onlyGivenNames v9
  clear_value v9
  extract_lets +onlyGivenNames v10
  clear_value v10
  extract_lets +onlyGivenNames s11
  have h12 : Moves m a s11 := by
    unfold s11
    refine fullEval_moves hm.up ?_
    assumption
  clear_value s11
  refine State.modSp_moves hm.up ?_
  assumption

theorem snapshot_moves {m} {a s : State} {x1} (hm : Sub 0x20000000000000000020000000000000000000000000000000000000000100000000000000000000000000000000000000000000000000000000000000000000000000000000000000000000000000000000000000000000000000000000000000000000000000000400408 m) (h : Moves m a s) : Moves m a (snapshot s x1) := by
  unfold snapshot
  extract_lets +onlyGivenNames v1
  clear_value v1
  refine State.owlRec_moves hm.up ?_
  assumption

/-! ### Pair -/

theorem setRole_moves {m} {a s : State} {x1} (hm : Sub 0x200000000000000000e08000000000000000000000000000000000000001000003008000000000020000000000000000000000000000000000000000000000000c000100000000f000000000000000000000000000000000000000000000000000000000000000000c48408 m) (h : Moves m a s) : Moves m a (setRole s x1) := by
  unfold setRole
  refine Moves.ite (fun _ => ?_) (fun _ => ?_)
  · assumption
  · extract_lets +onlyGivenNames s1
    have h2 : Moves m a s1 := by
      unfold s1
      refine State.logEv_moves hm.up ?_
      refine State.put_moves (Can.of hm) ?_
      assumption
    clear_value s1
    extract_lets +onlyGivenNames s3
    have h4 : Moves m a s3 := by
      unfold s3
      refine State.onIf_moves ?_ ?_
      · assumption
      · intro s5 h6
        refine State.onIf_moves ?_ ?_
        · assumption
        · intro s7 h8
          refine setReady_moves hm.up ?_
          assumption
    clear_value s3
    refine Moves.ite (fun _ => ?_) (fun _ => ?_)
    · refine Moves.ite (fun _ => ?_) (fun _ => ?_)
      · assumption
      · refine State.gateHold_moves hm.up (Can.of hm) ?_
        assumption
    · refine Moves.ite (fun _ => ?_) (fun _ => ?_)
      · refine State.gateEnd_moves hm.up (Can.of hm) ?_
        assumption
      · assumption

theorem syncing_moves {m} {a s : State} (hm : Sub 0x200000000000000000e0800000000000000000000000000000000000000100000101800000000000000000000000000000000000000000000000000000000000000000000000000000000000000000000000000000000000000000000000000000000000000000000c00408 m) (h : Moves m a s) : Moves m a (syncing s) := by
  unfold syncing
  extract_lets +onlyGivenNames s1
  have h2 : Moves m a s1 := by
    unfold s1
    refine State.modTls_moves hm.up ?_
    assumption
  clear_value s1
  refine setReady_moves hm.up ?_
  refine State.put_moves (Can.of hm) ?_
  assumption

theorem becomeStandby_moves {m} {a s : State} (hm : Sub 0x200000000000000000e08000000000000000000000000000000000000001000003018000000000020000000000000000000000000000000000000000000000000c000100000000f000000000000000000000000000000000000000000000000000000000000000000c48408 m) (h : Moves m a s) : Moves m a (becomeStandby s) := by
  unfold becomeStandby
  refine syncing_moves hm.up ?_
  refine setRole_moves hm.up ?_
  refine State.modTls_moves hm.up ?_
  assumption

theorem xlStart_moves {m} {a s : State} (hm : Sub 0x800000 m) (h : Moves m a s) : Moves m a (xlStart s) := by
  unfold xlStart
  refine State.modTls_moves hm.up ?_
  assumption

theorem claimStart_moves {m} {a s : State} (hm : Sub 0x200000000000000000e08000000000000000000000000000000000000001000003008000000000020000000000000000000000000000000000000000000000000c000100000000f000000000000000000000000000000000000000000000000000000000000000000c48408 m) (h : Moves m a s) : Moves m a (claimStart s) := by
  unfold claimStart
  extract_lets +onlyGivenNames s1
  have h2 : Moves m a s1 := by
    unfold s1
    refine xlStart_moves hm.up ?_
    refine setRole_moves hm.up ?_
    refine State.modTls_moves hm.up ?_
    assumption
  clear_value s1
  refine State.onIf_moves ?_ ?_
  · assumption
  · intro s3 h4
    refine setRole_moves hm.up ?_
    assumption

theorem settleRole_moves {m} {a s : State} (hm : Sub 0x200000000000000000e08000000000000000000000000000000000000001000003018000000000020000000000000000000000000000000000000000000000000c000100000000f000000000000000000000000000000000000000000000000000000000000000000c48408 m) (h : Moves m a s) : Moves m a (settleRole s) := by
  unfold settleRole
  refine Moves.ite (fun _ => ?_) (fun _ => ?_)
  · refine becomeStandby_moves hm.up ?_
    assumption
  · refine Moves.ite (fun _ => ?_) (fun _ => ?_)
    · refine claimStart_moves hm.up ?_
      assumption
    · refine State.modTls_moves hm.up ?_
      assumption

theorem checkReady_moves {m} {a s : State} (hm : Sub 0x200000000000000000e0800000000000000000000000000000000000000100000100800000000000000000000000000000000000000000000000000000000000000000000000000000000000000000000000000000000000000000000000000000000000000000000c00408 m) (h : Moves m a s) : Moves m a (checkReady s) := by
  unfold checkReady
  extract_lets +onlyGivenNames v1
  clear_value v1
  refine State.onIf_moves ?_ ?_
  · assumption
  · intro s2 h3
    refine setReady_moves hm.up ?_
    assumption

theorem takeoverBegin_moves {m} {a s : State} {x1} (hm : Sub 0x200000000000000000e08000000000000000000000000000000000000001000003008000000000020000000000000000000000000000000000000000000000000c000100000000f000000000000000000000000000000000000000000000000000000000000000000c48c08 m) (h : Moves m a s) : Moves m a (takeoverBegin s x1) := by
  unfold takeoverBegin
  extract_lets +onlyGivenNames v1
  clear_value v1
  refine Moves.ite (fun _ => ?_) (fun _ => ?_)
  · assumption
  · extract_lets +onlyGivenNames v2
    clear_value v2
    extract_lets +onlyGivenNames s3
    have h4 : Moves m a s3 := by
      unfold s3
      refine State.logEv_moves hm.up ?_
      assumption
    clear_value s3
    refine Moves.ite (fun _ => ?_) (fun _ => ?_)
    · assumption
    · extract_lets +onlyGivenNames s5
      have h6 : Moves m a s5 := by
        unfold s5
        refine setRole_moves hm.up ?_
        refine State.raise_moves hm.up ?_
        assumption
      clear_value s5
      extract_lets +onlyGivenNames v7
      clear_value v7
      extract_lets +onlyGivenNames v8
      clear_value v8
      refine State.modTls_moves hm.up ?_
      assumption

theorem takeoverFail_moves {m} {a s : State} (hm : Sub 0x200000000000000000e08000000000000000000000000000000000000001000003008000000000020000000000000000000000000000000000000000000000000c000100000000f000000000000000000000000000000000000000000000000000000000000000000c48c08 m) (h : Moves m a s) : Moves m a (takeoverFail s) := by
  unfold takeoverFail
  extract_lets +onlyGivenNames s1
  have h2 : Moves m a s1 := by
    unfold s1
    refine State.modTls_moves hm.up ?_
    assumption
  clear_value s1
  refine State.raise_moves hm.up ?_
  refine State.logEv_moves hm.up ?_
  refine setReady_moves hm.up ?_
  refine setRole_moves hm.up ?_
  assumption

theorem takeoverDone_moves {m} {a s : State} {x1} (hm : Sub 0x200000000000000000e08000000000000000000000000000000000000001007023008000000000020000000000000000000000000000000000000000000000000c000100000000f000000000000000000000000000000000000000000000000000000000000000000c48408 m) (h : Moves m a s) : Moves m a (takeoverDone s x1) := by
  unfold takeoverDone
  extract_lets +onlyGivenNames v1
  clear_value v1
  extract_lets +onlyGivenNames v2
  clear_value v2
  extract_lets +onlyGivenNames s3
  have h4 : Moves m a s3 := by
    unfold s3
    refine setRole_moves hm.up ?_
    refine State.modTls_moves hm.up ?_
    assumption
  clear_value s3
  extract_lets +onlyGivenNames s5
  have h6 : Moves m a s5 := by
    unfold s5
    refine State.put_moves (Can.of hm) ?_
    refine State.put_moves (Can.of hm) ?_
    refine State.put_moves (Can.of hm) ?_
    assumption
  clear_value s5
  split
  · refine State.owlTrig_moves hm.up ?_
    refine State.logEv_moves hm.up ?_
    refine State.incSat_moves hm.up (Can.of hm) ?_
    assumption
  · refine State.owlTrig_moves hm.up ?_
    refine State.logEv_moves hm.up ?_
    refine State.modTls_moves hm.up ?_
    assumption
  · refine State.logEv_moves hm.up ?_
    assumption

theorem takeoverClaim_moves {m} {a s : State} (hm : Sub 0x200000000000000000e08000000000000000000000000000000000000001007023008000000000020000000000000000000000000000000000000000000000000c000100000000f000000000000000000000000000000000000000000000000000000000000000000c48c08 m) (h : Moves m a s) : Moves m a (takeoverClaim s) := by
  unfold takeoverClaim
  split
  · assumption
  · refine Moves.ite (fun _ => ?_) (fun _ => ?_)
    · refine takeoverDone_moves hm.up ?_
      assumption
    · split
      · extract_lets +onlyGivenNames v11
        clear_value v11
        refine State.modTls_moves hm.up ?_
        assumption
      · refine takeoverFail_moves hm.up ?_
        assumption

theorem releaseFinish_moves {m} {a s : State} (hm : Sub 0x200000000000000000e08000000000000000000000000000000000000001000003018000000000020000000000000000000000000000000000000000000000000c000100000000f000000000000000000000000000000000000000000000000000000000000000000c48408 m) (h : Moves m a s) : Moves m a (releaseFinish s) := by
  unfold releaseFinish
  refine Moves.ite (fun _ => ?_) (fun _ => ?_)
  · refine State.logEv_moves hm.up ?_
    refine xlStart_moves hm.up ?_
    refine State.modTls_moves hm.up ?_
    assumption
  · refine State.logEv_moves hm.up ?_
    refine becomeStandby_moves hm.up ?_
    assumption

theorem releaseEnd_moves {m} {a s : State} {x1} (hm : Sub 0x200000000000000000e08000000000000000000000000000000000000001000003018000000000020000000000000000000000000000000000000000000000000c000100000000f000000000000000000000000000000000000000000000000000000000000000000c48408 m) (h : Moves m a s) : Moves m a (releaseEnd s x1) := by
  unfold releaseEnd
  refine State.onIf_moves ?_ ?_
  · assumption
  · intro s1 h2
    refine releaseFinish_moves hm.up ?_
    assumption

theorem releaseIdle_moves {m} {a s : State} (hm : Sub 0x200000000000000000e08000000000000000000000000000000000000001000003018000000000020000000000000000000000000000000000000000000000000c000100000000f000000000000000000000000000000000000000000000000000000000000000000c48408 m) (h : Moves m a s) : Moves m a (releaseIdle s) := by
  unfold releaseIdle
  refine State.onIf_moves ?_ ?_
  · assumption
  · intro s1 h2
    refine releaseFinish_moves hm.up ?_
    assumption

theorem followSafe_moves {m} {a s : State} {x1 x2 x3} (hm : Sub 0x200000000000000000e080000000000000000000000000000000000000010000000000000000000200000000100100fc000000000000006000000000000000000c000000000000f000000000000000000000000000000000000000000000000000000000000000000478408 m) (h : Moves m a s) : Moves m a (followSafe s x1 x2 x3) := by
  unfold followSafe
  extract_lets +onlyGivenNames s1
  have h2 : Moves m a s1 := by
    unfold s1
    refine Moves.ite (fun _ => ?_) (fun _ => ?_)
    · assumption
    · refine setState_moves hm.up ?_
      assumption
  clear_value s1
  extract_lets +onlyGivenNames s3
  have h4 : Moves m a s3 := by
    unfold s3
    refine State.put_moves (Can.of hm) ?_
    refine State.put_moves (Can.of hm) ?_
    assumption
  clear_value s3
  refine Moves.ite (fun _ => ?_) (fun _ => ?_)
  · assumption
  · refine setPat_moves hm.up ?_
    assumption

theorem followState_moves {m} {a s : State} {x1 x2} (hm : Sub 0x200000000000000000e080000000000000000000000000000000000000010000010080000000000200000000100100fe340000000000006000000004000002004c000000000000f000000000000000000000000000000000000000000000000000000000000000000c78748 m) (h : Moves m a s) : Moves m a (followState s x1 x2) := by
  unfold followState
  extract_lets +onlyGivenNames v1
  clear_value v1
  extract_lets +onlyGivenNames v2
  clear_value v2
  extract_lets +onlyGivenNames v3
  clear_value v3
  extract_lets +onlyGivenNames v4
  have h5 : ∀ y1 y2, Moves m a y1 → Moves m a (v4 y1 y2) := by
    intro y1 y2 h6
    unfold v4
    refine Moves.ite (fun _ => ?_) (fun _ => ?_)
    · assumption
    · refine setState_moves hm.up ?_
      assumption
  clear_value v4
  refine Moves.ite (fun _ => ?_) (fun _ => ?_)
  · assumption
  · extract_lets +onlyGivenNames s7
    have h8 : Moves m a s7 := by
      unfold s7
      refine State.put_moves (Can.of hm) ?_
      assumption
    clear_value s7
    refine Moves.ite (fun _ => ?_) (fun _ => ?_)
    · refine followSafe_moves hm.up ?_
      assumption
    · refine Moves.ite (fun _ => ?_) (fun _ => ?_)
      · refine Moves.ite (fun _ => ?_) (fun _ => ?_)
        · refine strayMark_moves hm.up ?_
          apply h5
          assumption
        · refine Moves.ite (fun _ => ?_) (fun _ => ?_)
          · apply h5
            assumption
          · refine Moves.ite (fun _ => ?_) (fun _ => ?_)
            · refine Moves.ite (fun _ => ?_) (fun _ => ?_)
              · assumption
              · refine State.put_moves (Can.of hm) ?_
                refine setState_moves hm.up ?_
                assumption
            · refine Moves.ite (fun _ => ?_) (fun _ => ?_)
              · extract_lets +onlyGivenNames s9
                have h10 : Moves m a s9 := by
                  unfold s9
                  refine enterRun_moves hm.up ?_
                  assumption
                clear_value s9
                refine Moves.ite (fun _ => ?_) (fun _ => ?_)
                · refine State.put_moves (Can.of hm) ?_
                  refine setState_moves hm.up ?_
                  assumption
                · assumption
              · refine strayMark_moves hm.up ?_
                assumption
      · apply h5
        assumption

theorem adopt_moves {m} {a s : State} {x1 x2} (hm : Sub 0x200000000000000000e080000000000000000000000000000000000000010000010080000000000200000000100100fe35800000000000600000000c000207804c000000000000f000000000000000000000060e00000000000000000000000000000000018000000c7c748 m) (h : Moves m a s) : Moves m a (adopt s x1 x2) := by
  unfold adopt
  extract_lets +onlyGivenNames s1
  have h2 : Moves m a s1 := by
    unfold s1
    refine followState_moves hm.up ?_
    assumption
  clear_value s1
  extract_lets +onlyGivenNames v3
  clear_value v3
  extract_lets +onlyGivenNames s4
  have h5 : Moves m a s4 := by
    unfold s4
    refine State.put_moves (Can.of hm) ?_
    refine State.put_moves (Can.of hm) ?_
    refine State.put_moves (Can.of hm) ?_
    assumption
  clear_value s4
  extract_lets +onlyGivenNames s6
  have h7 : Moves m a s6 := by
    unfold s6
    refine budgetShow_moves hm.up ?_
    refine stepShow_moves hm.up ?_
    assumption
  clear_value s6
  refine State.modSp_moves hm.up ?_
  refine adoptBytes_moves hm.up ?_
  assumption

theorem adoptRx_moves {m} {a s : State} {x1 x2 x3 x4} (hm : Sub 0x202000000000000000e080000000000000000000000000000000000000010000090080000000000200000000100100febfe0000000000070c000803f800207804c000000000000f000000000000000000000060e0000000000000000000000000003fc00018000000c7cf48 m) (h : Moves m a s) : Moves m a (adoptRx s x1 x2 x3 x4) := by
  unfold adoptRx
  extract_lets +onlyGivenNames v1
  clear_value v1
  extract_lets +onlyGivenNames s2
  have h3 : Moves m a s2 := by
    unfold s2
    refine State.onIf_moves ?_ ?_
    · assumption
    · intro s4 h5
      refine State.put_moves (Can.of hm) ?_
      assumption
  clear_value s2
  extract_lets +onlyGivenNames v6
  clear_value v6
  refine Moves.ite (fun _ => ?_) (fun _ => ?_)
  · extract_lets +onlyGivenNames s7
    have h8 : Moves m a s7 := by
      unfold s7
      refine adopt_moves hm.up ?_
      assumption
    clear_value s7
    extract_lets +onlyGivenNames s9
    have h10 : Moves m a s9 := by
      unfold s9
      refine State.onIf_moves ?_ ?_
      · assumption
      · intro s11 h12
        refine State.onIf_moves ?_ ?_
        · refine State.incSat_moves hm.up (Can.of hm) ?_
          assumption
        · intro s13 h14
          refine redoPeriod_moves hm.up ?_
          assumption
    clear_value s9
    refine State.modTls_moves hm.up ?_
    assumption
  · assumption

theorem ckptMiss_moves {m} {a s : State} {x1} (hm : Sub 0x200000000000000000e0800000000000000000000000000000000000000100000500800000000000000000000000000000000000000000000000000000000000000000000000000000000000000000000000000000000000000000000000000000000000000000000c00408 m) (h : Moves m a s) : Moves m a (ckptMiss s x1) := by
  unfold ckptMiss
  extract_lets +onlyGivenNames v1
  clear_value v1
  split
  · assumption
  · refine Moves.ite (fun _ => ?_) (fun _ => ?_)
    · extract_lets +onlyGivenNames s7
      have h8 : Moves m a s7 := by
        unfold s7
        refine State.logRate_moves hm.up ?_
        refine State.incSat_moves hm.up (Can.of hm) ?_
        assumption
      clear_value s7
      extract_lets +onlyGivenNames v9
      clear_value v9
      extract_lets +onlyGivenNames s10
      have h11 : Moves m a s10 := by
        unfold s10
        refine State.modTls_moves hm.up ?_
        assumption
      clear_value s10
      refine State.onIf_moves ?_ ?_
      · assumption
      · intro s12 h13
        refine notReady_moves hm.up ?_
        assumption
    · assumption

theorem adoptAt_moves {m} {a s : State} {x1 x2 x3} (hm : Sub 0x202000000000000000e0800000000000000000000000000000000000000100000d0080000000000200000000100100febfe0000000000070c000803f800207804c000000000000f000000000000000000000060e0000000000000000000000000003fc00018000000c7cf48 m) (h : Moves m a s) : Moves m a (adoptAt s x1 x2 x3) := by
  unfold adoptAt
  refine Moves.ite (fun _ => ?_) (fun _ => ?_)
  · assumption
  · extract_lets +onlyGivenNames s1
    have h2 : Moves m a s1 := by
      unfold s1
      split
      · assumption
      · refine adoptRx_moves hm.up ?_
        refine State.modTls_moves hm.up ?_
        assumption
    clear_value s1
    refine checkReady_moves hm.up ?_
    refine ckptMiss_moves hm.up ?_
    assumption

theorem coldEnter_moves {m} {a s : State} {x1} (hm : Sub 0x200000000000000000e080000000000000000000000000000000000000010000010080000000000202000000100100fdb40000000000006010000004000002004c000000000000f000040000000000000000000000000000000000000000000000000000000000000c78f48 m) (h : Moves m a s) : Moves m a (coldEnter s x1) := by
  unfold coldEnter
  refine Moves.ite (fun _ => ?_) (fun _ => ?_)
  · assumption
  · extract_lets +onlyGivenNames s1
    have h2 : Moves m a s1 := by
      unfold s1
      refine State.modTls_moves hm.up ?_
      assumption
    clear_value s1
    refine Moves.ite (fun _ => ?_) (fun _ => ?_)
    · refine safeRequest_moves hm.up ?_
      assumption
    · extract_lets +onlyGivenNames s3
      have h4 : Moves m a s3 := by
        unfold s3
        refine State.modChan_moves hm.up ?_
        refine enterRun_moves hm.up ?_
        assumption
      clear_value s3
      extract_lets +onlyGivenNames s5
      have h6 : Moves m a s5 := by
        unfold s5
        refine modDtc_moves hm.up ?_
        assumption
      clear_value s5
      refine Moves.ite (fun _ => ?_) (fun _ => ?_)
      · refine hoState_moves hm.up ?_
        refine State.put_moves (Can.of hm) ?_
        refine State.put_moves (Can.of hm) ?_
        assumption
      · refine Moves.ite (fun _ => ?_) (fun _ => ?_)
        · refine recapFail_moves hm.up ?_
          assumption
        · refine State.put_moves (Can.of hm) ?_
          refine State.put_moves (Can.of hm) ?_
          refine State.put_moves (Can.of hm) ?_
          assumption

theorem frameBad_moves {m} {a s : State} (hm : Sub 0x1000000000000000000000000000000000000000000000000000000000000000000000000000000000000000000000000000000000000000000000000000000000000000000000000000000 m) (h : Moves m a s) : Moves m a (frameBad s) := by
  unfold frameBad
  refine State.incSat_moves hm.up (Can.of hm) ?_
  assumption

theorem putFrame_moves {m} {a s : State} {x1 x2} (hm : Sub 0x800000 m) (h : Moves m a s) : Moves m a (putFrame s x1 x2) := by
  unfold putFrame
  refine Moves.ite (fun _ => ?_) (fun _ => ?_)
  · assumption
  · split
    · assumption
    · refine State.modTls_moves hm.up ?_
      assumption

theorem sendFrame_moves {m} {a s : State} {x1 x2} (hm : Sub 0x800000 m) (h : Moves m a s) : Moves m a (sendFrame s x1 x2) := by
  unfold sendFrame
  refine putFrame_moves hm.up ?_
  assumption

theorem rxOn_moves {m} {a s : State} {x1 f} (h : Moves m a s) (hf : ∀ t, Moves m a t → Moves m a (f t)) : Moves m a (rxOn s x1 f) :=
  State.onIf_moves h hf

theorem sendSync_moves {m} {a s : State} (hm : Sub 0x800000 m) (h : Moves m a s) : Moves m a (sendSync s) := by
  unfold sendSync
  extract_lets +onlyGivenNames v1
  clear_value v1
  extract_lets +onlyGivenNames v2
  clear_value v2
  refine State.modTls_moves hm.up ?_
  refine sendFrame_moves hm.up ?_
  assumption

theorem sendBeat_moves {m} {a s : State} (hm : Sub 0x800000 m) (h : Moves m a s) : Moves m a (sendBeat s) := by
  unfold sendBeat
  extract_lets +onlyGivenNames v1
  clear_value v1
  extract_lets +onlyGivenNames v2
  clear_value v2
  refine State.modTls_moves hm.up ?_
  refine sendFrame_moves hm.up ?_
  assumption

theorem alignJudge_moves {m} {a s : State} {x1} (hm : Sub 0x200000000000000000e080000000000000000000000000000000000000010000c101800000000000000000000000000000000000000000000000000000000000000000000000000000000000000000000000000000000000000000000000000000000000000000000c00408 m) (h : Moves m a s) : Moves m a (alignJudge s x1) := by
  unfold alignJudge
  refine Moves.ite (fun _ => ?_) (fun _ => ?_)
  · assumption
  · extract_lets +onlyGivenNames v1
    clear_value v1
    extract_lets +onlyGivenNames v2
    clear_value v2
    extract_lets +onlyGivenNames v3
    clear_value v3
    extract_lets +onlyGivenNames v4
    clear_value v4
    extract_lets +onlyGivenNames s5
    have h6 : Moves m a s5 := by
      unfold s5
      refine State.put_moves (Can.of hm) ?_
      refine State.putS_moves hm.up (Can.of hm) ?_
      assumption
    clear_value s5
    extract_lets +onlyGivenNames v7
    clear_value v7
    extract_lets +onlyGivenNames s8
    have h9 : Moves m a s8 := by
      unfold s8
      refine State.putB_moves hm.up (Can.of hm) ?_
      refine State.modTls_moves hm.up ?_
      assumption
    clear_value s8
    extract_lets +onlyGivenNames s10
    have h11 : Moves m a s10 := by
      unfold s10
      refine Moves.ite (fun _ => ?_) (fun _ => ?_)
      · refine notReady_moves hm.up ?_
        refine Moves.ite (fun _ => ?_) (fun _ => ?_)
        · assumption
        · refine State.logEv_moves hm.up ?_
          assumption
      · assumption
    clear_value s10
    refine checkReady_moves hm.up ?_
    assumption

theorem peerArm_moves {m} {a s : State} (hm : Sub 0x8000 m) (h : Moves m a s) : Moves m a (peerArm s) := by
  unfold peerArm
  refine State.forL_moves ?_ ?_
  · assumption
  · intro v1 s2 h3
    refine State.onIf_moves ?_ ?_
    · assumption
    · intro s4 h5
      refine State.modCarr_moves hm.up ?_
      assumption

theorem syncRx_moves {m} {a s : State} {x1} (hm : Sub 0x200000000000000000e080000000000000000000000000000000000000010007d101800000000000000000000000000000000000000000000000000000000000000000000000000000000000000000000000000000000000000000000000000000000000000000000c08408 m) (h : Moves m a s) : Moves m a (syncRx s x1) := by
  unfold syncRx
  refine Moves.ite (fun _ => ?_) (fun _ => ?_)
  · refine frameBad_moves hm.up ?_
    assumption
  · extract_lets +onlyGivenNames v1
    clear_value v1
    extract_lets +onlyGivenNames v2
    clear_value v2
    extract_lets +onlyGivenNames v3
    clear_value v3
    extract_lets +onlyGivenNames v4
    clear_value v4
    extract_lets +onlyGivenNames s5
    have h6 : Moves m a s5 := by
      unfold s5
      refine State.modTls_moves hm.up ?_
      assumption
    clear_value s5
    refine Moves.ite (fun _ => ?_) (fun _ => ?_)
    · assumption
    · extract_lets +onlyGivenNames v7
      clear_value v7
      extract_lets +onlyGivenNames v8
      clear_value v8
      extract_lets +onlyGivenNames s9
      have h10 : Moves m a s9 := by
        unfold s9
        refine State.put_moves (Can.of hm) ?_
        refine State.put64_moves hm.up (Can.of hm) (Can.of hm) ?_
        assumption
      clear_value s9
      extract_lets +onlyGivenNames s11
      have h12 : Moves m a s11 := by
        unfold s11
        refine State.modTls_moves hm.up ?_
        assumption
      clear_value s11
      refine alignJudge_moves hm.up ?_
      refine peerArm_moves hm.up ?_
      assumption

theorem acceptHandoff_moves {m} {a s : State} (hm : Sub 0x800000 m) (h : Moves m a s) : Moves m a (acceptHandoff s) := by
  unfold acceptHandoff
  extract_lets +onlyGivenNames v1
  clear_value v1
  extract_lets +onlyGivenNames v2
  clear_value v2
  extract_lets +onlyGivenNames v3
  clear_value v3
  extract_lets +onlyGivenNames s4
  have h5 : Moves m a s4 := by
    unfold s4
    refine State.modTls_moves hm.up ?_
    assumption
  clear_value s4
  refine sendBeat_moves hm.up ?_
  assumption

theorem beatRx_moves {m} {a s : State} {x1} (hm : Sub 0x200000000000000000e08000000000000000000000000000000000000001000013e08000000000020000000000000000000000000000000000000000000000000c000100000000f000000000000000000000000000000000000000000000000000000000000000000c48c08 m) (h : Moves m a s) : Moves m a (beatRx s x1) := by
  unfold beatRx
  refine Moves.ite (fun _ => ?_) (fun _ => ?_)
  · refine frameBad_moves hm.up ?_
    assumption
  · extract_lets +onlyGivenNames v1
    clear_value v1
    extract_lets +onlyGivenNames v2
    clear_value v2
    extract_lets +onlyGivenNames s3
    have h4 : Moves m a s3 := by
      unfold s3
      refine State.put_moves (Can.of hm) ?_
      refine State.put_moves (Can.of hm) ?_
      refine State.put_moves (Can.of hm) ?_
      assumption
    clear_value s3
    refine Moves.ite (fun _ => ?_) (fun _ => ?_)
    · split
      · refine Moves.ite (fun _ => ?_) (fun _ => ?_)
        · refine State.modTls_moves hm.up ?_
          assumption
        · refine takeoverBegin_moves hm.up ?_
          assumption
      · refine takeoverBegin_moves hm.up ?_
        assumption
    · refine Moves.ite (fun _ => ?_) (fun _ => ?_)
      · refine acceptHandoff_moves hm.up ?_
        assumption
      · refine Moves.ite (fun _ => ?_) (fun _ => ?_)
        · refine State.modTls_moves hm.up ?_
          assumption
        · assumption

theorem digestRx_moves {m} {a s : State} {x1} (hm : Sub 0x200000000000000000e0800000000000000000000000000000000000000100001102800000000000000000000000000000000000000000000000000000000000000000000000000000000000000000000000000000000000000000000000000000000000000000000c00c08 m) (h : Moves m a s) : Moves m a (digestRx s x1) := by
  unfold digestRx
  refine Moves.ite (fun _ => ?_) (fun _ => ?_)
  · refine frameBad_moves hm.up ?_
    assumption
  · extract_lets +onlyGivenNames v1
    clear_value v1
    extract_lets +onlyGivenNames v2
    clear_value v2
    extract_lets +onlyGivenNames s3
    have h4 : Moves m a s3 := by
      unfold s3
      refine State.putB_moves hm.up (Can.of hm) ?_
      refine State.modTls_moves hm.up ?_
      assumption
    clear_value s3
    refine Moves.ite (fun _ => ?_) (fun _ => ?_)
    · refine checkReady_moves hm.up ?_
      assumption
    · refine notReady_moves hm.up ?_
      refine State.raise_moves hm.up ?_
      refine State.logEv_moves hm.up ?_
      assumption

theorem meterRx_moves {m} {a s : State} {x1} (hm : Sub 0x200000000000000000e08000000041ff000000000000000000000000000100001100800000000000000000000000000000000000000000000000000000000000000000000000000000000000000000000000000000000000000000000000000000000000000000010c00408 m) (h : Moves m a s) : Moves m a (meterRx s x1) := by
  unfold meterRx
  refine Moves.ite (fun _ => ?_) (fun _ => ?_)
  · refine frameBad_moves hm.up ?_
    assumption
  · refine Moves.ite (fun _ => ?_) (fun _ => ?_)
    · assumption
    · extract_lets +onlyGivenNames v1
      have h2 : ∀ y1 y2 y3 y4, Moves m a y1 → Can m y2 → Can m y3 → Moves m a (v1 y1 y2 y3 y4) := by
        intro y1 y2 y3 y4 h3 h4 h5
        unfold v1
        refine State.put64_moves hm.up (by assumption) (by assumption) ?_
        assumption
      clear_value v1
      extract_lets +onlyGivenNames s6
      have h7 : Moves m a s6 := by
        unfold s6
        apply h2
        · apply h2
          · apply h2
            · apply h2
              · assumption
              · exact (Can.of hm)
              · exact (Can.of hm)
            · exact (Can.of hm)
            · exact (Can.of hm)
          · exact (Can.of hm)
          · exact (Can.of hm)
        · exact (Can.of hm)
        · exact (Can.of hm)
      clear_value s6
      extract_lets +onlyGivenNames s8
      have h9 : Moves m a s8 := by
        unfold s8
        refine State.put_moves (Can.of hm) ?_
        assumption
      clear_value s8
      extract_lets +onlyGivenNames s10
      clear_value s10
      extract_lets +onlyGivenNames s11
      have h12 : Moves m a s11 := by
        unfold s11
        refine Moves.mtr (s := s8) hm.up ?_
        assumption
      clear_value s11
      extract_lets +onlyGivenNames s13
      have h14 : Moves m a s13 := by
        unfold s13
        refine State.forN_moves ?_ ?_
        · assumption
        · intro v15 s16 h17
          refine State.put_moves (Can.of hm) ?_
          assumption
      clear_value s13
      refine checkReady_moves hm.up ?_
      refine State.modTls_moves hm.up ?_
      assumption

theorem paired_moves {m} {a s : State} {f} (h : Moves m a s) (hf : ∀ t, Moves m a t → Moves m a (f t)) : Ends m a (paired s f) :=
  live_moves h (fun _ h => State.onIf_moves h hf)

theorem execRoleSettle_moves {m} {a s : State} (hm : Sub 0x200000000000000000e08000000000000000000000000000000000000001000003018000000000020000000000000000000000000000000000000000000000000c000100000000f000000000000000000000000000000000000000000000000000000000000000000c48408 m) (h : Moves m a s) : Ends m a (execRoleSettle s) := by
  unfold execRoleSettle
  refine paired_moves ?_ ?_
  · assumption
  · intro s1 h2
    refine State.onIf_moves ?_ ?_
    · assumption
    · intro s3 h4
      refine settleRole_moves hm.up ?_
      assumption

theorem execStartWaitExpired_moves {m} {a s : State} (hm : Sub 0x200000000000000000e08000000000000000000000000000000000000001000003008000000000020000000000000000000000000000000000000000000000000c000100000000f000000000000000000000000000000000000000000000000000000000000000000c48408 m) (h : Moves m a s) : Ends m a (execStartWaitExpired s) := by
  unfold execStartWaitExpired
  refine paired_moves ?_ ?_
  · assumption
  · intro s1 h2
    refine State.onIf_moves ?_ ?_
    · assumption
    · intro s3 h4
      refine claimStart_moves hm.up ?_
      assumption

theorem execHeartbeatPresent_moves {m} {a s : State} (hm : Sub 0x200000000000000000e08000000000000000000000000000000000000001000003098000000000020000000000000000000000000000000000000000000000000c000100000000f000000000000000000000000000000000000000000000000000000000000000000c48408 m) (h : Moves m a s) : Ends m a (execHeartbeatPresent s) := by
  unfold execHeartbeatPresent
  refine live_moves ?_ ?_
  · assumption
  · intro s1 h2
    extract_lets +onlyGivenNames s3
    have h4 : Moves m a s3 := by
      unfold s3
      refine State.put_moves (Can.of hm) ?_
      assumption
    clear_value s3
    refine State.onIf_moves ?_ ?_
    · assumption
    · intro s5 h6
      refine becomeStandby_moves hm.up ?_
      assumption

theorem execHeartbeatMissing_moves {m} {a s : State} (hm : Sub 0x200000000000000000e08000000000000000000000000000000000000001000003088000000000020000000000000000000000000000000000000000000000000c000100000000f000000000000000000000000000000000000000000000000000000000000000000c48c08 m) (h : Moves m a s) : Ends m a (execHeartbeatMissing s) := by
  unfold execHeartbeatMissing
  refine live_moves ?_ ?_
  · assumption
  · intro s1 h2
    extract_lets +onlyGivenNames s3
    have h4 : Moves m a s3 := by
      unfold s3
      refine State.put_moves (Can.of hm) ?_
      assumption
    clear_value s3
    refine State.onIf_moves ?_ ?_
    · assumption
    · intro s5 h6
      refine takeoverBegin_moves hm.up ?_
      assumption

theorem execStandbyDemote_moves {m} {a s : State} (hm : Sub 0x200000000000000000e08000000000000000000000000000000000000001000003018000000000020000000000000000000000000000000000000000000000000c000100000000f000000000000000000000000000000000000000000000000000000000000000000c48408 m) (h : Moves m a s) : Ends m a (execStandbyDemote s) := by
  unfold execStandbyDemote
  refine paired_moves ?_ ?_
  · assumption
  · intro s1 h2
    refine State.onIf_moves ?_ ?_
    · assumption
    · intro s3 h4
      refine becomeStandby_moves hm.up ?_
      assumption

theorem execSelFbChange_moves {m} {a s : State} {x1} (hm : Sub 0x200000000000000000e08000000000000000000000000000000000000001000003048000000000020000000000000000000000000000000000000000000000000c000100000000f000000000000000000000000000000000000000000000000000000000000000000c48408 m) (h : Moves m a s) : Ends m a (execSelFbChange x1 s) := by
  unfold execSelFbChange
  refine live_moves ?_ ?_
  · assumption
  · intro s1 h2
    extract_lets +onlyGivenNames s3
    have h4 : Moves m a s3 := by
      unfold s3
      refine State.modTls_moves hm.up ?_
      refine State.putB_moves hm.up (Can.of hm) ?_
      assumption
    clear_value s3
    refine State.onIf_moves ?_ ?_
    · assumption
    · intro s5 h6
      refine setRole_moves hm.up ?_
      assumption

theorem execSelectorFault_moves {m} {a s : State} (hm : Sub 0x800 m) (h : Moves m a s) : Ends m a (execSelectorFault s) := by
  unfold execSelectorFault
  refine paired_moves ?_ ?_
  · assumption
  · intro s1 h2
    extract_lets +onlyGivenNames v3
    clear_value v3
    refine State.onIf_moves ?_ ?_
    · assumption
    · intro s4 h5
      refine State.raise_moves hm.up ?_
      assumption

theorem execTakeoverXlStart_moves {m} {a s : State} (hm : Sub 0x200000000000000000e08000000000000000000000000000000000000001000003008000000000020000000000000000000000000000000000000000000000000c000100000000f000000000000000000000000000000000000000000000000000000000000000000c48408 m) (h : Moves m a s) : Ends m a (execTakeoverXlStart s) := by
  unfold execTakeoverXlStart
  refine paired_moves ?_ ?_
  · assumption
  · intro s1 h2
    split
    · assumption
    · refine xlStart_moves hm.up ?_
      refine setRole_moves hm.up ?_
      refine State.modTls_moves hm.up ?_
      assumption

theorem execTakeoverClaim_moves {m} {a s : State} (hm : Sub 0x200000000000000000e08000000000000000000000000000000000000001007023008000000000020000000000000000000000000000000000000000000000000c000100000000f000000000000000000000000000000000000000000000000000000000000000000c48c08 m) (h : Moves m a s) : Ends m a (execTakeoverClaim s) := by
  unfold execTakeoverClaim
  refine paired_moves ?_ ?_
  · assumption
  · intro s1 h2
    refine takeoverClaim_moves hm.up ?_
    assumption

theorem execHandoffRelease_moves {m} {a s : State} (hm : Sub 0x200000000000000000e0800000000000000000000000000000000000000100000000000000000000000000000000000000000000000000000000000000000000000000000000000000000000000000000000000000000000000000000000000000000000000000000c00408 m) (h : Moves m a s) : Ends m a (execHandoffRelease s) := by
  unfold execHandoffRelease
  refine paired_moves ?_ ?_
  · assumption
  · intro s1 h2
    refine Moves.ite (fun _ => ?_) (fun _ => ?_)
    · assumption
    · refine Moves.ite (fun _ => ?_) (fun _ => ?_)
      · refine State.modTls_moves hm.up ?_
        assumption
      · refine State.logEv_moves hm.up ?_
        refine State.modTls_moves hm.up ?_
        assumption

theorem execLaneUp_moves {m} {a s : State} {x1} (hm : Sub 0x200000000000000000e0800000000000000000000000000000000000000100000111800000000000000000000000000000000000000000000000000000000000000000000000000000000000000000000000000000000000000000000000000000000008000000000c00408 m) (h : Moves m a s) : Ends m a (execLaneUp x1 s) := by
  unfold execLaneUp
  refine paired_moves ?_ ?_
  · assumption
  · intro s1 h2
    refine State.onIf_moves ?_ ?_
    · assumption
    · intro s3 h4
      extract_lets +onlyGivenNames s5
      have h6 : Moves m a s5 := by
        unfold s5
        refine State.logEv_moves hm.up ?_
        refine State.put_moves (Can.of hm) ?_
        refine State.putBit_moves hm.up (Can.of hm) ?_
        assumption
      clear_value s5
      refine Moves.ite (fun _ => ?_) (fun _ => ?_)
      · assumption
      · extract_lets +onlyGivenNames s7
        have h8 : Moves m a s7 := by
          unfold s7
          refine State.logEv_moves hm.up ?_
          refine State.modTls_moves hm.up ?_
          assumption
        clear_value s7
        extract_lets +onlyGivenNames v9
        clear_value v9
        refine State.onIf_moves ?_ ?_
        · assumption
        · intro s10 h11
          refine syncing_moves hm.up ?_
          assumption

theorem execLaneDown_moves {m} {a s : State} {x1} (hm : Sub 0x200000000000000000e0800000000000000000000000000000000000000100000010000000000000000000000000000000000000000000000000000000000000000000000000000000000000000000000000000000000000000000000000000000000008000000000400408 m) (h : Moves m a s) : Ends m a (execLaneDown x1 s) := by
  unfold execLaneDown
  refine paired_moves ?_ ?_
  · assumption
  · intro s1 h2
    refine State.onIf_moves ?_ ?_
    · assumption
    · intro s3 h4
      extract_lets +onlyGivenNames s5
      have h6 : Moves m a s5 := by
        unfold s5
        refine State.logEv_moves hm.up ?_
        refine State.putBit_moves hm.up (Can.of hm) ?_
        assumption
      clear_value s5
      refine State.onIf_moves ?_ ?_
      · assumption
      · intro s7 h8
        refine State.put_moves (Can.of hm) ?_
        assumption

theorem execLinkDown_moves {m} {a s : State} (hm : Sub 0x200000000000000000e0800000000000000000000000000000000000000100000100800000000000000000000000000000000000000000000000000000000000000000000000000000000000000000000000000000000000000000000000000000000000000000000c00c08 m) (h : Moves m a s) : Ends m a (execLinkDown s) := by
  unfold execLinkDown
  refine paired_moves ?_ ?_
  · assumption
  · intro s1 h2
    refine Moves.ite (fun _ => ?_) (fun _ => ?_)
    · assumption
    · extract_lets +onlyGivenNames s3
      have h4 : Moves m a s3 := by
        unfold s3
        refine State.raise_moves hm.up ?_
        refine State.logEv_moves hm.up ?_
        refine State.modTls_moves hm.up ?_
        assumption
      clear_value s3
      extract_lets +onlyGivenNames s5
      have h6 : Moves m a s5 := by
        unfold s5
        refine State.modTls_moves hm.up ?_
        refine notReady_moves hm.up ?_
        assumption
      clear_value s5
      refine Moves.ite (fun _ => ?_) (fun _ => ?_)
      · refine State.logEv_moves hm.up ?_
        refine State.modTls_moves hm.up ?_
        assumption
      · refine State.modTls_moves hm.up ?_
        assumption

theorem execCheckpointRx_moves {m} {a s : State} {x1 x2} (hm : Sub 0x1000000000000000000000000000000000000000000000000000000000000000000000000000000000000000000000000000000000000000000000000000000000000000000000000800000 m) (h : Moves m a s) : Ends m a (execCheckpointRx x1 x2 s) := by
  unfold execCheckpointRx
  refine paired_moves ?_ ?_
  · assumption
  · intro s1 h2
    refine rxOn_moves ?_ ?_
    · assumption
    · intro s3 h4
      refine Moves.ite (fun _ => ?_) (fun _ => ?_)
      · refine frameBad_moves hm.up ?_
        assumption
      · refine Moves.ite (fun _ => ?_) (fun _ => ?_)
        · refine State.modTls_moves hm.up ?_
          assumption
        · assumption

theorem execMeterCheckpointRx_moves {m} {a s : State} {x1 x2} (hm : Sub 0x200000000000000000e08000000041ff000000000000000000000000000100001100800000000000000000000000000000000000000000000000000000000000000000000000000000000000000000000000000000000000000000000000000000000000000000010c00408 m) (h : Moves m a s) : Ends m a (execMeterCheckpointRx x1 x2 s) := by
  unfold execMeterCheckpointRx
  refine paired_moves ?_ ?_
  · assumption
  · intro s1 h2
    refine rxOn_moves ?_ ?_
    · assumption
    · intro s3 h4
      refine meterRx_moves hm.up ?_
      assumption

theorem execTimebaseSyncRx_moves {m} {a s : State} {x1 x2} (hm : Sub 0x200000000000000000e080000000000000000000000000000000000000010007d101800000000000000000000000000000000000000000000000000000000000000000000000000000000000000000000000000000000000000000000000000000000000000000000c08408 m) (h : Moves m a s) : Ends m a (execTimebaseSyncRx x1 x2 s) := by
  unfold execTimebaseSyncRx
  refine paired_moves ?_ ?_
  · assumption
  · intro s1 h2
    refine rxOn_moves ?_ ?_
    · assumption
    · intro s3 h4
      refine syncRx_moves hm.up ?_
      assumption

theorem execHeartbeatRx_moves {m} {a s : State} {x1 x2} (hm : Sub 0x200000000000000000e08000000000000000000000000000000000000001000013e08000000000020000000000000000000000000000000000000000000000000c000100000000f000000000000000000000000000000000000000000000000000000000000000000c48c08 m) (h : Moves m a s) : Ends m a (execHeartbeatRx x1 x2 s) := by
  unfold execHeartbeatRx
  refine paired_moves ?_ ?_
  · assumption
  · intro s1 h2
    refine rxOn_moves ?_ ?_
    · assumption
    · intro s3 h4
      refine beatRx_moves hm.up ?_
      assumption

theorem execConfigDigestRx_moves {m} {a s : State} {x1 x2} (hm : Sub 0x200000000000000000e0800000000000000000000000000000000000000100001102800000000000000000000000000000000000000000000000000000000000000000000000000000000000000000000000000000000000000000000000000000000000000000000c00c08 m) (h : Moves m a s) : Ends m a (execConfigDigestRx x1 x2 s) := by
  unfold execConfigDigestRx
  refine paired_moves ?_ ?_
  · assumption
  · intro s1 h2
    refine rxOn_moves ?_ ?_
    · assumption
    · intro s3 h4
      refine digestRx_moves hm.up ?_
      assumption

theorem execMeterCheckpointTx_moves {m} {a s : State} (hm : Sub 0x800000 m) (h : Moves m a s) : Ends m a (execMeterCheckpointTx s) := by
  unfold execMeterCheckpointTx
  refine paired_moves ?_ ?_
  · assumption
  · intro s1 h2
    refine State.onIf_moves ?_ ?_
    · assumption
    · intro s3 h4
      refine sendFrame_moves hm.up ?_
      assumption

theorem execTimebaseSyncTx_moves {m} {a s : State} (hm : Sub 0x800000 m) (h : Moves m a s) : Ends m a (execTimebaseSyncTx s) := by
  unfold execTimebaseSyncTx
  refine paired_moves ?_ ?_
  · assumption
  · intro s1 h2
    refine sendSync_moves hm.up ?_
    assumption

theorem execHeartbeatTx_moves {m} {a s : State} (hm : Sub 0x800000 m) (h : Moves m a s) : Ends m a (execHeartbeatTx s) := by
  unfold execHeartbeatTx
  refine paired_moves ?_ ?_
  · assumption
  · intro s1 h2
    refine sendBeat_moves hm.up ?_
    assumption

theorem execConfigDigestTx_moves {m} {a s : State} (hm : Sub 0x800000 m) (h : Moves m a s) : Ends m a (execConfigDigestTx s) := by
  unfold execConfigDigestTx
  refine paired_moves ?_ ?_
  · assumption
  · intro s1 h2
    refine sendFrame_moves hm.up ?_
    assumption

/-! ### Mem -/

theorem State.modPort_moves {m} {a s : State} {x1 x2} (hm : Sub 0x1000 m) (h : Moves m a s) : Moves m a (State.modPort s x1 x2) := by
  unfold State.modPort
  refine Moves.ports (s := s) hm.up ?_
  assumption

theorem State.answer_moves {m} {a s : State} {x1 x2} (hm : Sub 0x1000 m) (h : Moves m a s) : Moves m a (State.answer s x1 x2) := by
  unfold State.answer
  refine State.modPort_moves hm.up ?_
  assumption

theorem busErr_moves {m} {a s : State} {x1 x2 x3} (hm : Sub 0x280000000000000000e0800000000000000000000000000000000000000100000000000000000000000000000000000000000000000000000000000000000000000000000000000000000000000000000000000000000000000000000000000000000000000000000401408 m) (h : Moves m a s) : Moves m a (busErr s x1 x2 x3) := by
  unfold busErr
  refine State.answer_moves hm.up ?_
  refine State.put_moves (Can.of hm) ?_
  refine State.logEv_moves hm.up ?_
  assumption

theorem State.putByte_moves {m} {a s : State} {x1 x2} (hm : Sub 0x10 m) (h : Moves m a s) : Moves m a (State.putByte s x1 x2) := by
  unfold State.putByte
  refine Moves.mem (s := s) ?_ ?_
  · exact .bytes hm.up .refl
  · assumption

theorem State.putMpByte_moves {m} {a s : State} {x1 x2} (hm : Sub 0x20 m) (h : Moves m a s) : Moves m a (State.putMpByte s x1 x2) := by
  unfold State.putMpByte
  refine Moves.mem (s := s) ?_ ?_
  · exact .mp hm.up .refl
  · assumption

theorem State.putBytes_moves {m} {a s : State} {x1 x2} (hm : Sub 0x310 m) (h : Moves m a s) : Moves m a (State.putBytes s x1 x2) := by
  unfold State.putBytes
  extract_lets +onlyGivenNames v1
  clear_value v1
  extract_lets +onlyGivenNames s2
  have h3 : Moves m a s2 := by
    unfold s2
    refine State.forL_moves ?_ ?_
    · assumption
    · intro v4 s5 h6
      extract_lets +onlyGivenNames v7
      clear_value v7
      refine Moves.ite (fun _ => ?_) (fun _ => ?_)
      · refine State.putByte_moves hm.up ?_
        assumption
      · assumption
  clear_value s2
  refine State.forN_moves ?_ ?_
  · assumption
  · intro v8 s9 h10
    extract_lets +onlyGivenNames v11
    clear_value v11
    refine State.onIf_moves ?_ ?_
    · assumption
    · intro s12 h13
      refine ueClear_moves hm.up ?_
      assumption

theorem ceFound_moves {m} {a s : State} {x1 x2 x3} (hm : Sub 0x200000000000000000e0800000000000000000000000000000000000000100000000000000000000000000000000000000000000000000000000000000000000000000000000000000000000000000000000000000000000000000000000000000200000000000000400608 m) (h : Moves m a s) : Moves m a (ceFound s x1 x2 x3) := by
  unfold ceFound
  extract_lets +onlyGivenNames v1
  clear_value v1
  extract_lets +onlyGivenNames s2
  have h3 : Moves m a s2 := by
    unfold s2
    refine State.incSat_moves hm.up (Can.of hm) ?_
    assumption
  clear_value s2
  extract_lets +onlyGivenNames s4
  have h5 : Moves m a s4 := by
    unfold s4
    refine State.onIf_moves ?_ ?_
    · assumption
    · intro s6 h7
      refine Moves.mem (s := s6) ?_ ?_
      · exact .back hm.up .refl
      · assumption
  clear_value s4
  extract_lets +onlyGivenNames v8
  clear_value v8
  refine State.onIf_moves ?_ ?_
  · assumption
  · intro s9 h10
    refine State.logLatch_moves hm.up ?_
    assumption

theorem ueFound_moves {m} {a s : State} {x1 x2 x3} (hm : Sub 0x200000000000000000e0800000000000000000000000000000000000000100000000000000000000000000000000000000000000000000000000000000000000000000000000000000000000000000000000000000000000000000000000000003c00000000000000400d08 m)
    (h : Moves m a s) : Moves m a (ueFound s x1 x2 x3) := by
  simp only [ueFound]
  split
  · exact h
  · exact State.raise_moves hm.up (State.logEv_moves hm.up (State.incSat_moves hm.up (Can.of hm) (State.put_moves (Can.of hm)
      (State.put_moves (Can.of hm) (State.put_moves (Can.of hm) (h.mem (.ue hm.up .refl)))))))

theorem eccRead_moves {m} {a s : State} {x1 x2 x3 x4 x5} (hm : Sub 0x200000000000000000e0800000000000000000000000000000000000000100000000000000000000000000000000000000000000000000000000000000000000000000000000000000000000000000000000000000000000000000000000000003e00000000000000400f0c m) (h : Moves m a s) : Moves m a (eccRead s x1 x2 x3 x4 x5).1 := by
  unfold eccRead
  split
  · dsimp -zeta only
    assumption
  · split
    · dsimp -zeta only
      assumption
    · dsimp -zeta only
      refine ceFound_moves hm.up ?_
      assumption
    · dsimp -zeta only
      refine ueFound_moves hm.up ?_
      assumption
    · split
      · dsimp -zeta only
        refine ueFound_moves hm.up ?_
        refine State.freeNext_moves hm.up ?_
        assumption
      · dsimp -zeta only
        refine State.freeNext_moves hm.up ?_
        assumption

theorem eccReads_moves {m} {a s : State} {x1 x2 x3 x4} (hm : Sub 0x200000000000000000e0800000000000000000000000000000000000000100000000000000000000000000000000000000000000000000000000000000000000000000000000000000000000000000000000000000000000000000000000000003e00000000000000400f0c m) (h : Moves m a s) : Moves m a (eccReads s x1 x2 x3 x4) := by
  unfold eccReads
  refine State.forL_moves ?_ ?_
  · assumption
  · intro v1 s2 h3
    refine State.onIf_moves ?_ ?_
    · assumption
    · intro s4 h5
      refine eccRead_moves hm.up ?_
      assumption

theorem execScrubRead_moves {m} {a s : State} {x1} (hm : Sub 0x200000000000000000e080000000000000000000000000000000000000010000000000000000000000000000000000000000000000000000000000000000000000000000000000000000000000000000000000000000000000000000000000000be00000000000000400f0c m) (h : Moves m a s) : Ends m a (execScrubRead x1 s) := by
  unfold execScrubRead
  refine live_moves ?_ ?_
  · assumption
  · intro s1 h2
    extract_lets +onlyGivenNames v3
    clear_value v3
    extract_lets +onlyGivenNames v4
    clear_value v4
    extract_lets +onlyGivenNames s5
    have h6 : Moves m a s5 := by
      unfold s5
      refine State.put_moves (Can.of hm) ?_
      assumption
    clear_value s5
    refine eccRead_moves hm.up ?_
    assumption

theorem execScrubLate_moves {m} {a s : State} (hm : Sub 0x200000000000000000e0800000000000000000000000000000000000000100000000000000000000000000000000000000000000000000000000000000000000000000000000000000000000000000000000000000000000000000000000000004000000000000000400408 m) (h : Moves m a s) : Ends m a (execScrubLate s) := by
  unfold execScrubLate
  refine live_moves ?_ ?_
  · assumption
  · intro s1 h2
    refine State.logEv_moves hm.up ?_
    refine State.put_moves (Can.of hm) ?_
    assumption

theorem execEccWriteback_moves {m} {a s : State} {x1 x2} (hm : Sub 0x200 m) (h : Moves m a s) : Ends m a (execEccWriteback x1 x2 s) := by
  unfold execEccWriteback
  refine live_moves ?_ ?_
  · assumption
  · intro s1 h2
    refine Moves.mem (s := s1) ?_ ?_
    · exact .back hm.up .refl
    · assumption

theorem sramStore_moves {m} {a s : State} {x1 x2 x3 x4} (hm : Sub 0x30 m) (h : Moves m a s) : Moves m a (sramStore s x1 x2 x3 x4) := by
  unfold sramStore
  refine State.forN_moves ?_ ?_
  · assumption
  · intro v1 s2 h3
    extract_lets +onlyGivenNames v4
    clear_value v4
    refine Moves.ite (fun _ => ?_) (fun _ => ?_)
    · refine State.putMpByte_moves hm.up ?_
      assumption
    · refine State.putByte_moves hm.up ?_
      assumption

theorem sramAccess_moves {m} {a s : State} {x1 x2 x3 x4 x5 x6} (hm : Sub 0x280000000000000000e0800000000000000000000000000000000000000100000000000000000000000000000000000000000000000000000000000000000000000000000000000000000000000000000000000000000000000000000000000003e00000000000000401f3c m)
    (h : Moves m a s) : Moves m a (sramAccess s x1 x2 x3 x4 x5 x6) := by
  simp only [sramAccess]
  repeat'
    first
    | exact busErr_moves hm.up h
    | exact State.answer_moves hm.up (ueClear_moves hm.up (sramStore_moves hm.up h))
    | exact State.answer_moves hm.up (eccRead_moves hm.up h)
    | exact State.answer_moves hm.up (sramStore_moves hm.up ((eccRead_moves hm.up h).mem (.back hm.up .refl)))
    | split

theorem execSramAccess_moves {m} {a s : State} {x1 x2 x3 x4 x5 x6} (hm : Sub 0x280000000000000000e0800000000000000000000000000000000000000100000000000000000000000000000000000000000000000000000000000000000000000000000000000000000000000000000000000000000000000000000000000003e00000000000000401f3c m) (h : Moves m a s) : Ends m a (execSramAccess x1 x2 x3 x4 x5 x6 s) := by
  unfold execSramAccess
  refine live_moves ?_ ?_
  · assumption
  · intro s1 h2
    refine State.onIf_moves ?_ ?_
    · refine sramAccess_moves hm.up ?_
      assumption
    · intro s3 h4
      refine State.freeNext_moves hm.up ?_
      assumption

theorem wordFromBus_moves {m} {a s : State} {x1 x2} (hm : Sub 0x200000000000000000e08000000000000000000000000000000000000001000000000000000000000000000000000000000000000000000000000000000cc180000000000000000000000000000000000000000000000000000000000000000000000000000000000400748 m) (h : Moves m a s) : Moves m a (wordFromBus s x1 x2) := by
  unfold wordFromBus
  extract_lets +onlyGivenNames v1
  clear_value v1
  extract_lets +onlyGivenNames v2
  clear_value v2
  refine Moves.ite (fun _ => ?_) (fun _ => ?_)
  · assumption
  · extract_lets +onlyGivenNames s3
    have h4 : Moves m a s3 := by
      unfold s3
      refine State.owlRec_moves hm.up ?_
      assumption
    clear_value s3
    refine storeWord_moves hm.up ?_
    assumption

theorem slotCommit_moves {m} {a s : State} {x1 x2 x3} (hm : Sub 0x200000000000000000e08000000000000000000000000000000000000001000000000000000000000000000000000000000000000000000000000000000cc180000000000000000000000000000000000000000000000000000000000000000003e80000000000000401f4c m) (h : Moves m a s) : Moves m a (slotCommit s x1 x2 x3) := by
  unfold slotCommit
  extract_lets +onlyGivenNames v1
  clear_value v1
  extract_lets +onlyGivenNames s2
  have h3 : Moves m a s2 := by
    unfold s2
    refine Moves.ite (fun _ => ?_) (fun _ => ?_)
    · assumption
    · refine eccRead_moves hm.up ?_
      assumption
  clear_value s2
  extract_lets +onlyGivenNames v4
  clear_value v4
  extract_lets +onlyGivenNames v5
  clear_value v5
  extract_lets +onlyGivenNames v6
  clear_value v6
  extract_lets +onlyGivenNames v7
  clear_value v7
  extract_lets +onlyGivenNames v8
  clear_value v8
  extract_lets +onlyGivenNames s9
  have h10 : Moves m a s9 := by
    unfold s9
    refine State.modPort_moves hm.up ?_
    assumption
  clear_value s9
  extract_lets +onlyGivenNames s11
  have h12 : Moves m a s11 := by
    unfold s11
    refine State.onIf_moves ?_ ?_
    · assumption
    · intro s13 h14
      refine State.logEv_moves hm.up ?_
      refine State.put_moves (Can.of hm) ?_
      assumption
  clear_value s11
  refine Moves.ite (fun _ => ?_) (fun _ => ?_)
  · refine State.answer_moves hm.up ?_
    assumption
  · refine State.answer_moves hm.up ?_
    refine wordFromBus_moves hm.up ?_
    assumption

theorem slotWrite_moves {m} {a s : State} {x1 x2 x3 x4 x5} (hm : Sub 0x280000000000000000e08000000000000000000000000000000000000001000000000000000000000000000000000000000000000000000000000000000cc180000000000000000000000000000000000000000000000000000000000000000003ec0000000000000401f4c m) (h : Moves m a s) : Moves m a (slotWrite s x1 x2 x3 x4 x5) := by
  unfold slotWrite
  split
  · refine busErr_moves hm.up ?_
    assumption
  · extract_lets +onlyGivenNames v6
    clear_value v6
    extract_lets +onlyGivenNames v7
    clear_value v7
    extract_lets +onlyGivenNames v8
    clear_value v8
    extract_lets +onlyGivenNames v9
    clear_value v9
    extract_lets +onlyGivenNames s10
    have h11 : Moves m a s10 := by
      unfold s10
      refine State.onIf_moves ?_ ?_
      · assumption
      · intro s12 h13
        refine State.logEv_moves hm.up ?_
        refine State.put_moves (Can.of hm) ?_
        assumption
    clear_value s10
    extract_lets +onlyGivenNames v14
    clear_value v14
    extract_lets +onlyGivenNames v15
    clear_value v15
    extract_lets +onlyGivenNames v16
    clear_value v16
    extract_lets +onlyGivenNames v17
    clear_value v17
    extract_lets +onlyGivenNames v18
    clear_value v18
    extract_lets +onlyGivenNames s19
    have h20 : Moves m a s19 := by
      unfold s19
      refine State.modPort_moves hm.up ?_
      assumption
    clear_value s19
    refine Moves.ite (fun _ => ?_) (fun _ => ?_)
    · refine slotCommit_moves hm.up ?_
      assumption
    · refine State.answer_moves hm.up ?_
      assumption

theorem slotRead_moves {m} {a s : State} {x1 x2 x3 x4} (hm : Sub 0x280000000000000000e0800000000000000000000000000000000000000100000000000000000000000000000000000000000000000000000000000000000000000000000000000000000000000000000000000000000000000000000000000003e00000000000000401f0c m) (h : Moves m a s) : Moves m a (slotRead s x1 x2 x3 x4) := by
  unfold slotRead
  split
  · refine busErr_moves hm.up ?_
    assumption
  · extract_lets +onlyGivenNames v6
    clear_value v6
    extract_lets +onlyGivenNames v7
    clear_value v7
    extract_lets +onlyGivenNames v8
    clear_value v8
    extract_lets +onlyGivenNames v9
    clear_value v9
    extract_lets +onlyGivenNames s10
    have h11 : Moves m a s10 := by
      unfold s10
      refine Moves.ite (fun _ => ?_) (fun _ => ?_)
      · assumption
      · refine eccRead_moves hm.up ?_
        assumption
    clear_value s10
    refine Moves.ite (fun _ => ?_) (fun _ => ?_)
    · refine State.answer_moves hm.up ?_
      assumption
    · extract_lets +onlyGivenNames v12
      clear_value v12
      extract_lets +onlyGivenNames v13
      clear_value v13
      extract_lets +onlyGivenNames s14
      have h15 : Moves m a s14 := by
        unfold s14
        refine State.onIf_moves ?_ ?_
        · assumption
        · intro s16 h17
          refine State.freeNext_moves hm.up ?_
          assumption
      clear_value s14
      extract_lets +onlyGivenNames v18
      clear_value v18
      extract_lets +onlyGivenNames s19
      have h20 : Moves m a s19 := by
        unfold s19
        refine State.onIf_moves ?_ ?_
        · assumption
        · intro s21 h22
          refine State.modPort_moves hm.up ?_
          assumption
      clear_value s19
      refine State.answer_moves hm.up ?_
      assumption

theorem execSlotWrite_moves {m} {a s : State} {x1 x2 x3 x4 x5} (hm : Sub 0x280000000000000000e08000000000000000000000000000000000000001000000000000000000000000000000000000000000000000000000000000000cc180000000000000000000000000000000000000000000000000000000000000000003ec0000000000000401f4c m) (h : Moves m a s) : Ends m a (execSlotWrite x1 x2 x3 x4 x5 s) := by
  unfold execSlotWrite
  refine live_moves ?_ ?_
  · assumption
  · intro s1 h2
    refine slotWrite_moves hm.up ?_
    assumption

theorem execSlotRead_moves {m} {a s : State} {x1 x2 x3 x4} (hm : Sub 0x280000000000000000e0800000000000000000000000000000000000000100000000000000000000000000000000000000000000000000000000000000000000000000000000000000000000000000000000000000000000000000000000000003e00000000000000401f0c m) (h : Moves m a s) : Ends m a (execSlotRead x1 x2 x3 x4 s) := by
  unfold execSlotRead
  refine live_moves ?_ ?_
  · assumption
  · intro s1 h2
    refine slotRead_moves hm.up ?_
    assumption

end Sys2Proof.Machine
end

