-- ==== Sys2Proof/Laws/MovesLink.lean ====
section
/-! SUPPORT. The functions that are chains of primitive updates (Laws/Moves.lean): Faceplate, the meter, Sett, power, replay, the reloads and the register rules. -/

set_option Elab.async false

namespace Sys2Proof.Machine

/-! ### FplCore -/

theorem State.modQp_moves {m} {a s : State} {x1 x2} (hm : Sub 0x1000000 m) (h : Moves m a s) : Moves m a (State.modQp s x1 x2) := by
  unfold State.modQp
  refine Moves.fpl (s := s) hm.up ?_
  assumption

theorem qSettle_moves {m} {a s : State} {x1} (hm : Sub 0x40800000000000000000000000000000000000000000000000000000000000000000000000000000000000000000000000000000000000000000000000000000000000000000000000000000001000000 m) (h : Moves m a s) : Moves m a (qSettle s x1) := by
  unfold qSettle
  extract_lets +onlyGivenNames s1
  have h2 : Moves m a s1 := by
    unfold s1
    refine State.forN_moves ?_ ?_
    · assumption
    · intro v3 s4 h5
      extract_lets +onlyGivenNames v6
      clear_value v6
      refine State.onIf_moves ?_ ?_
      · assumption
      · intro s7 h8
        refine State.modQp_moves hm.up ?_
        refine State.put_moves (Can.of hm) ?_
        assumption
  clear_value s1
  refine State.put_moves (Can.of hm) ?_
  assumption

theorem qServe_moves {m} {a s : State} {x1 x2} (hm : Sub 0x40800000000000000000000000000000000000000000000000000000000000000000000000000000000000000000000000000000000000000000000000000000000000000000000000000000001000000 m) (h : Moves m a s) : Moves m a (qServe s x1 x2) := by
  unfold qServe
  refine qSettle_moves hm.up ?_
  refine State.modQp_moves hm.up ?_
  assumption

theorem netSend_moves {m} {a s : State} {x1 x2} (hm : Sub 0x2000000 m) (h : Moves m a s) : Moves m a (netSend s x1 x2) := by
  unfold netSend
  refine Moves.net (s := s) hm.up ?_
  assumption

theorem transmit_moves {m} {a s : State} {x1 x2 x3} (hm : Sub 0x2000000 m) (h : Moves m a s) : Moves m a (transmit s x1 x2 x3) := by
  unfold transmit
  split
  · refine netSend_moves hm.up ?_
    assumption
  · refine netSend_moves hm.up ?_
    assumption
  · refine netSend_moves hm.up ?_
    refine netSend_moves hm.up ?_
    assumption
  · assumption

theorem complete_moves {m} {a s : State} {x1 x2 x3 x4} (hm : Sub 0x200000000000000000e0800000000000000000000000000000000003000120000000000000000000000000000000000000000000000000000000000000000000000000000000000000000000000000000000000000000000000000000000000000000000000000003400718 m) (h : Moves m a s) : Moves m a (complete s x1 x2 x3 x4) := by
  unfold complete
  refine Moves.ite (fun _ => ?_) (fun _ => ?_)
  · assumption
  · refine Moves.ite (fun _ => ?_) (fun _ => ?_)
    · assumption
    · refine Moves.ite (fun _ => ?_) (fun _ => ?_)
      · refine State.logEv_moves hm.up ?_
        refine State.incSat_moves hm.up (Can.of hm) ?_
        assumption
      · extract_lets +onlyGivenNames v1
        clear_value v1
        extract_lets +onlyGivenNames v2
        clear_value v2
        extract_lets +onlyGivenNames s3
        have h4 : Moves m a s3 := by
          unfold s3
          refine State.put_moves (Can.of hm) ?_
          refine State.putBytes_moves hm.up ?_
          assumption
        clear_value s3
        extract_lets +onlyGivenNames s5
        have h6 : Moves m a s5 := by
          unfold s5
          refine State.modQp_moves hm.up ?_
          assumption
        clear_value s5
        extract_lets +onlyGivenNames s7
        have h8 : Moves m a s7 := by
          unfold s7
          refine State.irq_moves hm.up ?_
          assumption
        clear_value s7
        extract_lets +onlyGivenNames v9
        clear_value v9
        refine Moves.ite (fun _ => ?_) (fun _ => ?_)
        · refine State.put_moves (Can.of hm) ?_
          refine transmit_moves hm.up ?_
          assumption
        · assumption

theorem opGetStatus_moves {m} {a s : State} (hm : Sub 0x0 m) (h : Moves m a s) : Moves m a (opGetStatus s).2.2 := by
  unfold opGetStatus
  dsimp -zeta only
  assumption

theorem opChStop_moves {m} {a s : State} {x1} (hm : Sub 0x200000000000000000e080000000000000000000000000000000000000010000010080000000000202000000100000fc800000000000006000000000000000000c000000000042f000042000000000000000000000000000000000000000000000000000000000000c7840c m) (h : Moves m a s) :
    Moves m a (opChStop s x1).2 := by
  unfold opChStop
  generalize chanList x1.chan = l
  generalize (0x41 : Nat) = k
  induction l generalizing s k with
  | nil => exact h
  | cons x l ih =>
    exact ih (chStopCmd_moves hm.up (State.onIf_moves h (fun _ h => strayMark_moves hm.up h))) _

theorem opChSafe_moves {m} {a s : State} {x1 x2} (hm : Sub 0x200000000000000000e080000000000000000000000000000000000000010000010080000000000202000000100100fd800000000000006000000000000000000c000000000000f000040000000000000000000000000000000000000000000000000000000000000c78408 m) (h : Moves m a s) : Moves m a (opChSafe s x1 x2).2 := by
  unfold opChSafe
  split
  · dsimp -zeta only
    assumption
  · dsimp -zeta only
    refine State.forL_moves ?_ ?_
    · assumption
    · intro v3 s4 h5
      refine chSafeCmd_moves hm.up ?_
      refine State.onIf_moves ?_ ?_
      · assumption
      · intro s6 h7
        refine strayMark_moves hm.up ?_
        assumption

theorem preExec_moves {m} {a s : State} {x1 x2} (hm : Sub 0x200000000000000000e080000000000000000000000000000000000300012000010080000000000202000000100100fd800000000000006000000000000000000c000000000042f000042000000000000000000000000000000000000000000000000000000000003c7871c m) (h : Moves m a s) : Moves m a (preExec s x1 x2) := by
  unfold preExec
  split
  · extract_lets +onlyGivenNames v3
    have h4 : Moves m a v3.2.2 := by
      unfold v3
      refine opGetStatus_moves hm.up ?_
      assumption
    clear_value v3
    refine complete_moves hm.up ?_
    assumption
  · extract_lets +onlyGivenNames v7
    have h8 : Moves m a v7.2 := by
      unfold v7
      refine opChStop_moves hm.up ?_
      assumption
    clear_value v7
    refine complete_moves hm.up ?_
    assumption
  · extract_lets +onlyGivenNames v12
    have h13 : Moves m a v12.2 := by
      unfold v12
      refine opChSafe_moves hm.up ?_
      assumption
    clear_value v12
    refine complete_moves hm.up ?_
    assumption

theorem accept_moves {m} {a s : State} {x1 x2} (hm : Sub 0x1000000 m) (h : Moves m a s) : Moves m a (accept s x1 x2) := by
  unfold accept
  refine State.modQp_moves hm.up ?_
  assumption

theorem resend_moves {m} {a s : State} {x1 x2} (hm : Sub 0x200000000000000000e0800000000000000000000000000000000001000120000000000000000000000000000000000000000000000000000000000000000000000000000000000000000000000000000000000000000000000000000000000000000000000000002400718 m) (h : Moves m a s) : Moves m a (resend s x1 x2) := by
  unfold resend
  extract_lets +onlyGivenNames v1
  clear_value v1
  refine Moves.ite (fun _ => ?_) (fun _ => ?_)
  · refine transmit_moves hm.up ?_
    assumption
  · refine Moves.ite (fun _ => ?_) (fun _ => ?_)
    · refine State.logEv_moves hm.up ?_
      refine State.incSat_moves hm.up (Can.of hm) ?_
      assumption
    · extract_lets +onlyGivenNames v2
      clear_value v2
      refine State.irq_moves hm.up ?_
      refine State.put_moves (Can.of hm) ?_
      refine State.putBytes_moves hm.up ?_
      assumption

theorem packetArrival_moves {m} {a s : State} {x1 x2 x3} (hm : Sub 0x200000000000000000e0800000000000000000000000000000000063c0013000010080000000000202000000100100fd800000000000006000000000000000000c000000000042f000042000000000000000000000000000000000000000000000000000000000003c7871c m) (h : Moves m a s) : Moves m a (packetArrival s x1 x2 x3).2 := by
  unfold packetArrival
  extract_lets +onlyGivenNames v1
  clear_value v1
  extract_lets +onlyGivenNames v2
  clear_value v2
  extract_lets +onlyGivenNames v3
  clear_value v3
  extract_lets +onlyGivenNames s4
  have h5 : Moves m a s4 := by
    unfold s4
    refine State.onIf_moves ?_ ?_
    · assumption
    · intro s6 h7
      refine State.modQp_moves hm.up ?_
      assumption
  clear_value s4
  dsimp -zeta only
  split
  · refine State.incSat_moves hm.up (Can.of hm) ?_
    assumption
  · extract_lets +onlyGivenNames s13
    have h14 : Moves m a s13 := by
      unfold s13
      refine State.modQp_moves hm.up ?_
      assumption
    clear_value s13
    refine complete_moves hm.up ?_
    refine State.onIf_moves ?_ ?_
    · assumption
    · intro s15 h16
      refine State.incSat_moves hm.up (Can.of hm) ?_
      assumption
  · refine resend_moves hm.up ?_
    refine State.modQp_moves hm.up ?_
    assumption
  · refine State.modQp_moves hm.up ?_
    assumption
  · extract_lets +onlyGivenNames v26
    clear_value v26
    extract_lets +onlyGivenNames s27
    have h28 : Moves m a s27 := by
      unfold s27
      refine accept_moves hm.up ?_
      refine State.put_moves (Can.of hm) ?_
      refine State.putBytes_moves hm.up ?_
      assumption
    clear_value s27
    refine Moves.ite (fun _ => ?_) (fun _ => ?_)
    · refine qServe_moves hm.up ?_
      refine preExec_moves hm.up ?_
      assumption
    · refine qSettle_moves hm.up ?_
      assumption

theorem coreEntry_moves {m} {a s : State} {x1 x2} (hm : Sub 0x200000000000000000e080000000000000000000000000000000004380013000010080000000000202000000100100fd800000000000006000000000000000000c000000000042f000042000000000000000000000000000000000000000000000000000000000003c7871c m) (h : Moves m a s) : Moves m a (coreEntry s x1 x2) := by
  unfold coreEntry
  extract_lets +onlyGivenNames v1
  clear_value v1
  extract_lets +onlyGivenNames v2
  clear_value v2
  extract_lets +onlyGivenNames v3
  clear_value v3
  extract_lets +onlyGivenNames v4
  clear_value v4
  split
  · refine qServe_moves hm.up ?_
    refine complete_moves hm.up ?_
    refine State.incSat_moves hm.up (Can.of hm) ?_
    assumption
  · refine qServe_moves hm.up ?_
    refine complete_moves hm.up ?_
    assumption
  · refine qServe_moves hm.up ?_
    refine resend_moves hm.up ?_
    assumption
  · refine qServe_moves hm.up ?_
    assumption
  · extract_lets +onlyGivenNames s19
    have h20 : Moves m a s19 := by
      unfold s19
      refine accept_moves hm.up ?_
      assumption
    clear_value s19
    refine Moves.ite (fun _ => ?_) (fun _ => ?_)
    · refine qServe_moves hm.up ?_
      refine preExec_moves hm.up ?_
      assumption
    · refine qSettle_moves hm.up ?_
      assumption

theorem sqTail_moves {m} {a s : State} {x1 x2} (hm : Sub 0x200000000000000000e0800000000000000000000000000000000043c0013000010080000000000202000000100100fd800000000000006000000000000000000c000000000042f000042000000000000000000000000000000000000000000000000000000000003c7871c m) (h : Moves m a s) : Moves m a (sqTail s x1 x2) := by
  unfold sqTail
  extract_lets +onlyGivenNames v1
  clear_value v1
  extract_lets +onlyGivenNames v2
  clear_value v2
  extract_lets +onlyGivenNames s3
  have h4 : Moves m a s3 := by
    unfold s3
    refine State.modQp_moves hm.up ?_
    assumption
  clear_value s3
  refine State.forN_moves ?_ ?_
  · assumption
  · intro v5 s6 h7
    refine coreEntry_moves hm.up ?_
    refine State.put_moves (Can.of hm) ?_
    assumption

theorem waitExpired_moves {m} {a s : State} {x1} (hm : Sub 0x200000000000000000e0800000000000000000000000000000000053800120000000000000000000000000000000000000000000000000000000000000000000000000000000000000000000000000000000000000000000000000000000000000000000000000003400718 m) (h : Moves m a s) : Moves m a (waitExpired s x1) := by
  unfold waitExpired
  split
  · assumption
  · refine Moves.ite (fun _ => ?_) (fun _ => ?_)
    · assumption
    · extract_lets +onlyGivenNames v7
      clear_value v7
      extract_lets +onlyGivenNames v8
      clear_value v8
      refine qServe_moves hm.up ?_
      refine complete_moves hm.up ?_
      refine State.incSat_moves hm.up (Can.of hm) ?_
      assumption

theorem qSetup_moves {m} {a s : State} {x1 x2 x3 x4 x5} (hm : Sub 0x8ffe0000000000000000000000000000000000000000000000000000000000000000000000000000000000000000000000000000000000000000000000000000000000000000000000000000000000000 m) (h : Moves m a s) : Moves m a (qSetup s x1 x2 x3 x4 x5) := by
  unfold qSetup
  extract_lets +onlyGivenNames v1
  clear_value v1
  extract_lets +onlyGivenNames s2
  have h3 : Moves m a s2 := by
    unfold s2
    refine State.put_moves (Can.of hm) ?_
    refine State.putB_moves hm.up (Can.of hm) ?_
    refine State.put_moves (Can.of hm) ?_
    assumption
  clear_value s2
  extract_lets +onlyGivenNames s4
  have h5 : Moves m a s4 := by
    unfold s4
    refine State.put_moves (Can.of hm) ?_
    refine State.put_moves (Can.of hm) ?_
    refine State.put_moves (Can.of hm) ?_
    assumption
  clear_value s4
  extract_lets +onlyGivenNames s6
  have h7 : Moves m a s6 := by
    unfold s6
    refine State.put_moves (Can.of hm) ?_
    refine State.put_moves (Can.of hm) ?_
    assumption
  clear_value s6
  refine State.put_moves (Can.of hm) ?_
  refine State.put_moves (Can.of hm) ?_
  refine State.put_moves (Can.of hm) ?_
  refine State.put_moves (Can.of hm) ?_
  assumption

theorem qOpenNow_moves {m} {a s : State} {x1 x2 x3} (hm : Sub 0x200000000000000000e0800000000000000000000000000000000040010100000000000000000000000000000000000000000000000000000000000000000000000000000000000000000000000000000000000000000000000000000000000000000000000000001400408 m) (h : Moves m a s) : Moves m a (qOpenNow s x1 x2 x3) := by
  unfold qOpenNow
  extract_lets +onlyGivenNames s1
  have h2 : Moves m a s1 := by
    unfold s1
    refine State.put_moves (Can.of hm) ?_
    refine State.put_moves (Can.of hm) ?_
    assumption
  clear_value s1
  refine State.logEv_moves hm.up ?_
  refine State.modQp_moves hm.up ?_
  assumption

theorem qClose_moves {m} {a s : State} {x1} (hm : Sub 0x200000000000000000e0800000000000000000000000000000000040810100000000000000000000000000000000000000000000000000000000000000000000000000000000000000000000000000000000000000000000000000000000000000000000000000001400408 m) (h : Moves m a s) : Moves m a (qClose s x1) := by
  unfold qClose
  extract_lets +onlyGivenNames s1
  have h2 : Moves m a s1 := by
    unfold s1
    refine State.put_moves (Can.of hm) ?_
    refine State.put_moves (Can.of hm) ?_
    assumption
  clear_value s1
  extract_lets +onlyGivenNames s3
  have h4 : Moves m a s3 := by
    unfold s3
    refine State.modQp_moves hm.up ?_
    refine State.put_moves (Can.of hm) ?_
    assumption
  clear_value s3
  extract_lets +onlyGivenNames s5
  clear_value s5
  extract_lets +onlyGivenNames s6
  have h7 : Moves m a s6 := by
    unfold s6
    refine Moves.fpl (s := s3) hm.up ?_
    assumption
  clear_value s6
  refine State.logEv_moves hm.up ?_
  assumption

theorem reserveEnd_moves {m} {a s : State} {x1} (hm : Sub 0x1000000 m) (h : Moves m a s) : Moves m a (reserveEnd s x1) := by
  unfold reserveEnd
  refine Moves.fpl (s := s) hm.up ?_
  assumption

theorem opDone_moves {m} {a s : State} {x1 x2} (hm : Sub 0x0 m) (h : Moves m a s) : Moves m a (opDone x1 x2 s).2 := by
  unfold opDone
  dsimp -zeta only
  assumption

theorem opWait_moves {m} {a s : State} {x1 x2} (hm : Sub 0x1000000 m) (h : Moves m a s) : Moves m a (opWait s x1 x2).2 := by
  unfold opWait
  dsimp -zeta only
  refine Moves.fpl (s := s) hm.up ?_
  assumption

theorem opEnd_moves {m} {a s : State} {x1 x2 x3} (hm : Sub 0x200000000000000000e0800000000000000000000000000000000003000120000000000000000000000000000000000000000000000000000000000000000000000000000000000000000000000000000000000000000000000000000000000000000000000000003400718 m) (h : Moves m a s) : Moves m a (opEnd s x1 x2 x3) := by
  unfold opEnd
  extract_lets +onlyGivenNames v1
  clear_value v1
  extract_lets +onlyGivenNames s2
  clear_value s2
  extract_lets +onlyGivenNames s3
  have h4 : Moves m a s3 := by
    unfold s3
    refine Moves.fpl (s := s) hm.up ?_
    assumption
  clear_value s3
  refine State.onIf_moves ?_ ?_
  · assumption
  · intro s5 h6
    refine complete_moves hm.up ?_
    assumption

theorem faced_moves {m} {a s : State} {f} (h : Moves m a s) (hf : ∀ t, Moves m a t → Moves m a (f t)) : Ends m a (faced s f) :=
  live_moves h (fun _ h => State.onIf_moves h hf)

theorem canAck_moves {m} {a s : State} {x1 x2 x3} (hm : Sub 0x2000000 m) (h : Moves m a s) : Moves m a (canAck s x1 x2 x3) := by
  unfold canAck
  split
  · refine transmit_moves hm.up ?_
    assumption
  · refine transmit_moves hm.up ?_
    assumption
  · assumption

theorem execPacketArrival_moves {m} {a s : State} {x1 x2 x3} (hm : Sub 0x200000000000000000e0800000000000000000000000000000000063c0013000010080000000000202000000100100fd800000000000006000000000000000000c000000000042f000042000000000000000000000000000000000000000000000000000000000003c7871c m) (h : Moves m a s) : Ends m a (execPacketArrival x1 x2 x3 s) := by
  unfold execPacketArrival
  refine faced_moves ?_ ?_
  · assumption
  · intro s1 h2
    extract_lets +onlyGivenNames v3
    clear_value v3
    refine Moves.ite (fun _ => ?_) (fun _ => ?_)
    · assumption
    · refine Moves.ite (fun _ => ?_) (fun _ => ?_)
      · extract_lets +onlyGivenNames v4
        have h5 : Moves m a v4.2 := by
          unfold v4
          refine packetArrival_moves hm.up ?_
          assumption
        clear_value v4
        refine Moves.ite (fun _ => ?_) (fun _ => ?_)
        · assumption
        · refine canAck_moves hm.up ?_
          assumption
      · extract_lets +onlyGivenNames v6
        clear_value v6
        extract_lets +onlyGivenNames v7
        clear_value v7
        refine Moves.ite (fun _ => ?_) (fun _ => ?_)
        · assumption
        · refine coreEntry_moves hm.up ?_
          refine State.put_moves (Can.of hm) ?_
          refine State.putBytes_moves hm.up ?_
          assumption

theorem execWaitExpired_moves {m} {a s : State} {x1} (hm : Sub 0x200000000000000000e0800000000000000000000000000000000053800120000000000000000000000000000000000000000000000000000000000000000000000000000000000000000000000000000000000000000000000000000000000000000000000000003400718 m) (h : Moves m a s) : Ends m a (execWaitExpired x1 s) := by
  unfold execWaitExpired
  refine faced_moves ?_ ?_
  · assumption
  · intro s1 h2
    refine waitExpired_moves hm.up ?_
    assumption

theorem execMploadWindow_moves {m} {a s : State} {x1} (hm : Sub 0x200000000000000000e080000000000000000000000000000000000000010c000000000000000000000000000000000000000000000000000000000000000000000000000000000000000000000000000000000000000000000000000000000000000000000000001400408 m) (h : Moves m a s) : Ends m a (execMploadWindow x1 s) := by
  unfold execMploadWindow
  refine faced_moves ?_ ?_
  · assumption
  · intro s1 h2
    extract_lets +onlyGivenNames v3
    clear_value v3
    extract_lets +onlyGivenNames v4
    clear_value v4
    extract_lets +onlyGivenNames s5
    have h6 : Moves m a s5 := by
      unfold s5
      refine State.put_moves (Can.of hm) ?_
      assumption
    clear_value s5
    extract_lets +onlyGivenNames s7
    clear_value s7
    extract_lets +onlyGivenNames s8
    have h9 : Moves m a s8 := by
      unfold s8
      refine Moves.fpl (s := s5) hm.up ?_
      assumption
    clear_value s8
    extract_lets +onlyGivenNames s10
    have h11 : Moves m a s10 := by
      unfold s10
      refine State.onIf_moves ?_ ?_
      · assumption
      · intro s12 h13
        refine State.logEv_moves hm.up ?_
        refine State.put_moves (Can.of hm) ?_
        assumption
    clear_value s10
    refine State.onIf_moves ?_ ?_
    · assumption
    · intro s14 h15
      refine State.put_moves (Can.of hm) ?_
      assumption

theorem execQueueIdleTimeout_moves {m} {a s : State} {x1} (hm : Sub 0x200000000000000000e0800000000000000000000000000000000040810100000000000000000000000000000000000000000000000000000000000000000000000000000000000000000000000000000000000000000000000000000000000000000000000000001400408 m) (h : Moves m a s) : Ends m a (execQueueIdleTimeout x1 s) := by
  unfold execQueueIdleTimeout
  refine faced_moves ?_ ?_
  · assumption
  · intro s1 h2
    refine State.onIf_moves ?_ ?_
    · assumption
    · intro s3 h4
      refine qClose_moves hm.up ?_
      assumption

theorem execChallengeExpiry_moves {m} {a s : State} {x1} (hm : Sub 0x1000000 m) (h : Moves m a s) : Ends m a (execChallengeExpiry x1 s) := by
  unfold execChallengeExpiry
  refine faced_moves ?_ ?_
  · assumption
  · intro s1 h2
    refine reserveEnd_moves hm.up ?_
    assumption

/-! ### Meter -/

theorem retPut_moves {m} {a s : State} {x1 x2} (hm : Sub 0x40000000 m) (h : Moves m a s) : Moves m a (retPut s x1 x2) := by
  unfold retPut
  refine Moves.pwr (s := s) hm.up ?_ ?_ ?_
  · rfl
  · rfl
  · assumption

theorem putTotal_moves {m} {a s : State} {x1 x2} (hm : Sub 0xff000000000000000000000000000000000000000000000000000000000000000000000000000000000000000000000000000000000000000000000000000000000000000000000000000000000000000000000000000000000000000 m)
    (h : Moves m a s) : Moves m a (putTotal s x1 x2) := by
  rcases x1 with _ | _ | _ | _ | x1
  · exact State.put64_moves hm.up (Can.of hm) (Can.of hm) h
  · exact State.put64_moves hm.up (Can.of hm) (Can.of hm) h
  · exact State.put64_moves hm.up (Can.of hm) (Can.of hm) h
  · exact State.put64_moves hm.up (Can.of hm) (Can.of hm) h
  · exact h

theorem putPack_moves {m} {a s : State} {x1} (hm : Sub 0x4000000000000000000000000000000000000000000000000000000000000000000000000000000000000000000000000000000000000000000000000000000000000000000000000000000000000000000000000000000000000000000 m) (h : Moves m a s) : Moves m a (putPack s x1) := by
  unfold putPack
  refine State.forN_moves ?_ ?_
  · assumption
  · intro v1 s2 h3
    refine State.put_moves (Can.of hm) ?_
    assumption

theorem retCopy_moves {m} {a s : State} (hm : Sub 0x40000000 m) (h : Moves m a s) : Moves m a (retCopy s) := by
  unfold retCopy
  refine retPut_moves hm.up ?_
  assumption

theorem addTotal_moves {m} {a s : State} {x1 x2 x3} (hm : Sub 0xff000000000000000000000000000000000000000000000000000000000000000000000000000000000000000000000000000000000000000000000000000000000000000000000000000000000000000000000000000000010000000 m) (h : Moves m a s) : Moves m a (addTotal s x1 x2 x3) := by
  unfold addTotal
  extract_lets +onlyGivenNames v1
  clear_value v1
  extract_lets +onlyGivenNames s2
  have h3 : Moves m a s2 := by
    unfold s2
    refine putTotal_moves hm.up ?_
    assumption
  clear_value s2
  refine Moves.mtr (s := s2) hm.up ?_
  assumption

theorem mtrFlag_moves {m} {a s : State} {x1} (hm : Sub 0x10000000 m) (h : Moves m a s) : Moves m a (mtrFlag s x1) := by
  unfold mtrFlag
  refine Moves.mtr (s := s) hm.up ?_
  assumption

theorem meterBlock_moves {m} {a s : State} {x1 x2 x3} (hm : Sub 0x200000000000000000e08000000018ff000000000000000000000000000100000000000000000000000000000000000000000000000000000000000000000000000000000000000000000000000000000000000000000000000000000000000000000000000000010400408 m) (h : Moves m a s) : Moves m a (meterBlock s x1 x2 x3) := by
  unfold meterBlock
  extract_lets +onlyGivenNames v1
  clear_value v1
  extract_lets +onlyGivenNames s2
  have h3 : Moves m a s2 := by
    unfold s2
    refine addTotal_moves hm.up ?_
    assumption
  clear_value s2
  extract_lets +onlyGivenNames s4
  have h5 : Moves m a s4 := by
    unfold s4
    refine addTotal_moves hm.up ?_
    assumption
  clear_value s4
  extract_lets +onlyGivenNames s6
  have h7 : Moves m a s6 := by
    unfold s6
    refine State.put_moves (Can.of hm) ?_
    assumption
  clear_value s6
  extract_lets +onlyGivenNames s8
  have h9 : Moves m a s8 := by
    unfold s8
    refine State.onIf_moves ?_ ?_
    · assumption
    · intro s10 h11
      extract_lets +onlyGivenNames v12
      clear_value v12
      refine State.onIf_moves ?_ ?_
      · refine mtrFlag_moves hm.up ?_
        refine State.put_moves (Can.of hm) ?_
        assumption
      · intro s13 h14
        refine State.logEv_moves hm.up ?_
        assumption
  clear_value s8
  extract_lets +onlyGivenNames s15
  have h16 : Moves m a s15 := by
    unfold s15
    refine State.onIf_moves ?_ ?_
    · assumption
    · intro s17 h18
      refine mtrFlag_moves hm.up ?_
      assumption
  clear_value s15
  refine Moves.mtr (s := s15) hm.up ?_
  assumption

theorem ledgerWrite_moves {m} {a s : State} {x1} (hm : Sub 0x200000000000000000e0800000000100000000000000000000000000000100000000000000000000000000000000000000000000000000000000000000000000000000000000000000000000000000000000000000000000000000000000000000000000000000050c00408 m) (h : Moves m a s) : Moves m a (ledgerWrite s x1) := by
  unfold ledgerWrite
  extract_lets +onlyGivenNames v1
  clear_value v1
  extract_lets +onlyGivenNames v2
  clear_value v2
  extract_lets +onlyGivenNames v3
  clear_value v3
  extract_lets +onlyGivenNames v4
  clear_value v4
  extract_lets +onlyGivenNames v5
  clear_value v5
  extract_lets +onlyGivenNames s6
  have h7 : Moves m a s6 := by
    unfold s6
    refine State.onIf_moves ?_ ?_
    · assumption
    · intro s8 h9
      refine State.logEv_moves hm.up ?_
      assumption
  clear_value s6
  extract_lets +onlyGivenNames s10
  clear_value s10
  extract_lets +onlyGivenNames s11
  have h12 : Moves m a s11 := by
    unfold s11
    refine Moves.mtr (s := s6) hm.up ?_
    assumption
  clear_value s11
  extract_lets +onlyGivenNames s13
  clear_value s13
  extract_lets +onlyGivenNames s14
  have h15 : Moves m a s14 := by
    unfold s14
    refine Moves.tls (s := s11) hm.up ?_
    assumption
  clear_value s14
  refine retCopy_moves hm.up ?_
  refine State.logEv_moves hm.up ?_
  refine State.put_moves (Can.of hm) ?_
  assumption

theorem ledgerAmend_moves {m} {a s : State} (hm : Sub 0x10000000 m) (h : Moves m a s) : Moves m a (ledgerAmend s) := by
  unfold ledgerAmend
  split
  · assumption
  · extract_lets +onlyGivenNames v8
    clear_value v8
    refine Moves.mtr (s := s) hm.up ?_
    assumption

theorem packRecord_moves {m} {a s : State} (hm : Sub 0x200000000000000000e0800000000100000000000000000000000000000100000000000000000000000000000000000000000000000000000000000000000000000000000000000000000000000000000000000000000000000000000000000000000000000000050c00408 m) (h : Moves m a s) : Moves m a (packRecord s) := by
  unfold packRecord
  refine Moves.ite (fun _ => ?_) (fun _ => ?_)
  · refine ledgerAmend_moves hm.up ?_
    assumption
  · refine ledgerWrite_moves hm.up ?_
    assumption

theorem packRead_moves {m} {a s : State} {x1} (hm : Sub 0x200000000000000000e0800000004500000000000000000000000000000100000000000000000000000000000000000000000000000000000000000000000000000000000000000000000000000000000000000000000000000000000000000000000000000000050c00408 m) (h : Moves m a s) : Moves m a (packRead s x1) := by
  unfold packRead
  extract_lets +onlyGivenNames s1
  have h2 : Moves m a s1 := by
    unfold s1
    refine State.put_moves (Can.of hm) ?_
    assumption
  clear_value s1
  extract_lets +onlyGivenNames s3
  clear_value s3
  extract_lets +onlyGivenNames s4
  have h5 : Moves m a s4 := by
    unfold s4
    refine Moves.mtr (s := s1) hm.up ?_
    assumption
  clear_value s4
  extract_lets +onlyGivenNames v6
  clear_value v6
  extract_lets +onlyGivenNames v7
  have h8 : ∀ y1 y2, Moves m a y1 → Moves m a (v7 y1 y2) := by
    intro y1 y2 h9
    unfold v7
    refine Moves.mtr (s := y1) hm.up ?_
    assumption
  clear_value v7
  refine Moves.ite (fun _ => ?_) (fun _ => ?_)
  · apply h8
    assumption
  · refine Moves.ite (fun _ => ?_) (fun _ => ?_)
    · apply h8
      assumption
    · extract_lets +onlyGivenNames s10
      have h11 : Moves m a s10 := by
        unfold s10
        apply h8
        refine State.onIf_moves ?_ ?_
        · assumption
        · intro s12 h13
          refine packRecord_moves hm.up ?_
          assumption
      clear_value s10
      refine State.logEv_moves hm.up ?_
      refine putPack_moves hm.up ?_
      assumption

theorem meterRestore_moves {m} {a s : State} (hm : Sub 0x200000000000000000e08000000003ff000000000000000000000000000100000000000000000000000000000000000000000000000000000000000000000000000000000000000000000000000000000000000000000000000000000000000000000000000000010400408 m) (h : Moves m a s) : Moves m a (meterRestore s) := by
  unfold meterRestore
  extract_lets +onlyGivenNames v1
  clear_value v1
  extract_lets +onlyGivenNames v2
  clear_value v2
  refine Moves.ite (fun _ => ?_) (fun _ => ?_)
  · extract_lets +onlyGivenNames s3
    have h4 : Moves m a s3 := by
      unfold s3
      refine putTotal_moves hm.up ?_
      refine putTotal_moves hm.up ?_
      assumption
    clear_value s3
    extract_lets +onlyGivenNames s5
    have h6 : Moves m a s5 := by
      unfold s5
      refine State.put_moves (Can.of hm) ?_
      refine State.put_moves (Can.of hm) ?_
      assumption
    clear_value s5
    refine State.logEv_moves hm.up ?_
    refine mtrFlag_moves hm.up ?_
    assumption
  · refine State.logEv_moves hm.up ?_
    assumption

theorem execMeterBlock_moves {m} {a s : State} {x1 x2 x3} (hm : Sub 0x200000000000000000e08000000018ff000000000000000000000000000100000000000000000000000000000000000000000000000000000000000000000000000000000000000000000000000000000000000000000000000000000000000000000000000000010400408 m) (h : Moves m a s) : Ends m a (execMeterBlock x1 x2 x3 s) := by
  unfold execMeterBlock
  refine live_moves ?_ ?_
  · assumption
  · intro s1 h2
    refine meterBlock_moves hm.up ?_
    assumption

theorem execLedgerRecord_moves {m} {a s : State} (hm : Sub 0x200000000000000000e0800000000100000000000000000000000000000100000000000000000000000000000000000000000000000000000000000000000000000000000000000000000000000000000000000000000000000000000000000000000000000000050c00408 m) (h : Moves m a s) : Ends m a (execLedgerRecord s) := by
  unfold execLedgerRecord
  refine live_moves ?_ ?_
  · assumption
  · intro s1 h2
    refine State.onIf_moves ?_ ?_
    · assumption
    · intro s3 h4
      refine ledgerWrite_moves hm.up ?_
      assumption

theorem execPackUnverified_moves {m} {a s : State} (hm : Sub 0x400000000000000000000000000000000000000000000000000000000000000000000000000000000000000000000000000000000000000000000000000000000000000000000000000000000000000000000000000000000000000000 m) (h : Moves m a s) : Ends m a (execPackUnverified s) := by
  unfold execPackUnverified
  refine live_moves ?_ ?_
  · assumption
  · intro s1 h2
    refine State.onIf_moves ?_ ?_
    · assumption
    · intro s3 h4
      refine State.put_moves (Can.of hm) ?_
      assumption

theorem modCvu_moves {m} {a s : State} {x1 x2} (hm : Sub 0x20000000 m) (h : Moves m a s) : Moves m a (modCvu s x1 x2) := by
  unfold modCvu
  refine Moves.cvus (s := s) hm.up ?_
  assumption

theorem cvuStart_moves {m} {a s : State} {x1} (hm : Sub 0x20000000 m) (h : Moves m a s) : Moves m a (cvuStart s x1) := by
  unfold cvuStart
  refine modCvu_moves hm.up ?_
  assumption

theorem cvuFeed_moves {m} {a s : State} {x1 x2} (hm : Sub 0x20000000 m) (h : Moves m a s) : Moves m a (cvuFeed s x1 x2) := by
  unfold cvuFeed
  extract_lets +onlyGivenNames v1
  clear_value v1
  extract_lets +onlyGivenNames v2
  clear_value v2
  refine modCvu_moves hm.up ?_
  assumption

theorem cvuAlive_moves {m} {a s : State} {x1 x2} (hm : Sub 0x1800000000000000000000000000000000000000000000000000000000000000000000000000000000000000000000000000000000000000000000000000000000000000000000000000000000000000000000000000000000000000020000000 m) (h : Moves m a s) : Moves m a (cvuAlive s x1 x2) := by
  unfold cvuAlive
  extract_lets +onlyGivenNames v1
  clear_value v1
  extract_lets +onlyGivenNames v2
  clear_value v2
  extract_lets +onlyGivenNames s3
  have h4 : Moves m a s3 := by
    unfold s3
    refine State.onIf_moves ?_ ?_
    · assumption
    · intro s5 h6
      refine cvuFeed_moves hm.up ?_
      assumption
  clear_value s3
  extract_lets +onlyGivenNames v7
  have h8 : ∀ y1 y2, Moves m a y1 → Moves m a (v7 y1 y2) := by
    intro y1 y2 h9
    unfold v7
    refine modCvu_moves hm.up ?_
    refine State.put_moves (Can.of hm) ?_
    refine State.put_moves (Can.of hm) ?_
    assumption
  clear_value v7
  split
  · apply h8
    assumption
  · extract_lets +onlyGivenNames v15
    clear_value v15
    refine Moves.ite (fun _ => ?_) (fun _ => ?_)
    · refine State.put_moves (Can.of hm) ?_
      assumption
    · refine Moves.ite (fun _ => ?_) (fun _ => ?_)
      · apply h8
        assumption
      · apply h8
        assumption

theorem cvuAliveClr_moves {m} {a s : State} {x1} (hm : Sub 0x20000000 m) (h : Moves m a s) : Moves m a (cvuAliveClr s x1) := by
  unfold cvuAliveClr
  refine modCvu_moves hm.up ?_
  assumption

/-! ### Sett -/

theorem State.modSett_moves {m} {a s : State} {x1 x2} (hm : Sub 0x4000000 m) (h : Moves m a s) : Moves m a (State.modSett s x1 x2) := by
  unfold State.modSett
  refine Moves.setts (s := s) hm.up ?_
  assumption

theorem State.modEnd_moves {m} {a s : State} {x1 x2 x3} (hm : Sub 0x4000000 m) (h : Moves m a s) : Moves m a (State.modEnd s x1 x2 x3) := by
  unfold State.modEnd
  refine State.modSett_moves hm.up ?_
  assumption

theorem settEv_moves {m} {a s : State} {x1 x2 x3} (hm : Sub 0x200000000000000000e0800000000000000000000000000000000000000100000000000000000000000000000000000000000000000000000000000000000000000000000000000000000000000000000000000000000000000000000000000000000000000000000400408 m) (h : Moves m a s) : Moves m a (settEv s x1 x2 x3) := by
  unfold settEv
  refine State.logEv_moves hm.up ?_
  assumption

theorem slotMiss_moves {m} {a s : State} {x1 x2} (hm : Sub 0x200000000000000000e0800000000000000070000000000000000000000100000000000000000000000000000000000000000000000000000000000000000000000000000000000000000000000000000000000000000000000000000000000000000000000000000400c08 m) (h : Moves m a s) : Moves m a (slotMiss s x1 x2) := by
  unfold slotMiss
  extract_lets +onlyGivenNames v1
  clear_value v1
  extract_lets +onlyGivenNames s2
  have h3 : Moves m a s2 := by
    unfold s2
    refine State.put_moves (Can.of hm) ?_
    refine State.incSat_moves hm.up (Can.of hm) ?_
    assumption
  clear_value s2
  refine State.onIf_moves ?_ ?_
  · assumption
  · intro s4 h5
    extract_lets +onlyGivenNames s6
    have h7 : Moves m a s6 := by
      unfold s6
      refine settEv_moves hm.up ?_
      refine State.put_moves (Can.of hm) ?_
      assumption
    clear_value s6
    extract_lets +onlyGivenNames v8
    clear_value v8
    refine State.onIf_moves ?_ ?_
    · assumption
    · intro s9 h10
      refine State.raise_moves hm.up ?_
      assumption

theorem nodeKeep_moves {m} {a s : State} {x1 x2 x3 x4} (hm : Sub 0x8000000 m) (h : Moves m a s) :
    Moves m a (nodeKeep s x1 x2 x3 x4) := ((h.sett hm.up).sett hm.up).sett hm.up

theorem slotTake_moves {m} {a s : State} {x1 x2 x3} (hm : Sub 0x200000000000000000e08000000000000003a00000000000000000000001000000000000000000020000000000190039000000000000000000000000000000000c000000000000f000000000000000000000000000000000000000000000000000000000000000008448c08 m) (h : Moves m a s) : Moves m a (slotTake s x1 x2 x3) := by
  unfold slotTake
  extract_lets +onlyGivenNames v1
  clear_value v1
  extract_lets +onlyGivenNames v2
  clear_value v2
  extract_lets +onlyGivenNames v3
  clear_value v3
  extract_lets +onlyGivenNames v4
  clear_value v4
  extract_lets +onlyGivenNames s5
  have h6 : Moves m a s5 := by
    unfold s5
    refine nodeKeep_moves hm.up ?_
    assumption
  clear_value s5
  extract_lets +onlyGivenNames s7
  have h8 : Moves m a s7 := by
    unfold s7
    refine State.put_moves (Can.of hm) ?_
    refine State.put_moves (Can.of hm) ?_
    refine State.put_moves (Can.of hm) ?_
    assumption
  clear_value s7
  extract_lets +onlyGivenNames s9
  have h10 : Moves m a s9 := by
    unfold s9
    refine State.put_moves (Can.of hm) ?_
    assumption
  clear_value s9
  extract_lets +onlyGivenNames v11
  clear_value v11
  extract_lets +onlyGivenNames s12
  have h13 : Moves m a s12 := by
    unfold s12
    refine State.onIf_moves ?_ ?_
    · assumption
    · intro s14 h15
      refine settEv_moves hm.up ?_
      assumption
  clear_value s12
  refine State.onIf_moves ?_ ?_
  · assumption
  · intro s16 h17
    extract_lets +onlyGivenNames v18
    clear_value v18
    extract_lets +onlyGivenNames v19
    clear_value v19
    refine swfailSet_moves hm.up ?_
    assumption

theorem slotJudge_moves {m} {a s : State} {x1 x2 x3} (hm : Sub 0x200000000000000000e08000000000000003f00000000000000000000001000000000000000000020000000000190039000000000000000000000000000000000c000000000000f000000000000000000000000000000000000000000000000000000000000000008448c08 m) (h : Moves m a s) : Moves m a (slotJudge s x1 x2 x3) := by
  unfold slotJudge
  refine Moves.ite (fun _ => ?_) (fun _ => ?_)
  · refine slotTake_moves hm.up ?_
    assumption
  · refine slotMiss_moves hm.up ?_
    assumption

theorem settModeDue_moves {m} {a s : State} {x1} (hm : Sub 0x200000000000000000e0800000000000000000000010000000000000000100000000000000000000000000000000000000000000000000000000000000000000000000000000000000000000000000000000000000000000000000000000000000000000000000004400408 m) (h : Moves m a s) : Moves m a (settModeDue s x1) := by
  unfold settModeDue
  extract_lets +onlyGivenNames s1
  have h2 : Moves m a s1 := by
    unfold s1
    refine State.onIf_moves ?_ ?_
    · assumption
    · intro s3 h4
      refine settEv_moves hm.up ?_
      refine State.modSett_moves hm.up ?_
      refine State.put_moves (Can.of hm) ?_
      assumption
  clear_value s1
  split
  · assumption
  · refine Moves.ite (fun _ => ?_) (fun _ => ?_)
    · refine State.modSett_moves hm.up ?_
      refine State.put_moves (Can.of hm) ?_
      assumption
    · refine State.modSett_moves hm.up ?_
      assumption

theorem fastSend_moves {m} {a s : State} {x1} (hm : Sub 0x4000000 m) (h : Moves m a s) : Moves m a (fastSend s x1) := by
  unfold fastSend
  extract_lets +onlyGivenNames v1
  clear_value v1
  extract_lets +onlyGivenNames s2
  have h3 : Moves m a s2 := by
    unfold s2
    refine State.onIf_moves ?_ ?_
    · refine State.modEnd_moves hm.up ?_
      assumption
    · intro s4 h5
      refine State.modEnd_moves hm.up ?_
      assumption
  clear_value s2
  refine State.modSett_moves hm.up ?_
  assumption

theorem fastStart_moves {m} {a s : State} {x1} (hm : Sub 0x200000000000000000e0800000000000000070004010000000000000000100000000000000000000000000000000000000000000000000000000000000000000000000000000000000000000000000000000000000000000000000000000000000000000000000004400c08 m) (h : Moves m a s) : Moves m a (fastStart s x1) := by
  unfold fastStart
  split
  · assumption
  · extract_lets +onlyGivenNames s6
    have h7 : Moves m a s6 := by
      unfold s6
      refine State.modSett_moves hm.up ?_
      assumption
    clear_value s6
    refine Moves.ite (fun _ => ?_) (fun _ => ?_)
    · assumption
    · refine Moves.ite (fun _ => ?_) (fun _ => ?_)
      · beta_reduce
        refine settEv_moves hm.up ?_
        refine State.incSat_moves hm.up (Can.of hm) ?_
        refine State.forL_moves ?_ ?_
        · assumption
        · intro v8 s9 h10
          refine slotMiss_moves hm.up ?_
          assumption
      · refine fastSend_moves hm.up ?_
        refine settModeDue_moves hm.up ?_
        assumption

theorem frameLost_moves {m} {a s : State} {x1 x2} (hm : Sub 0x10000000000000000000000000000000000000000000000000000000000000000000000000000000000000000000000000000000000000000000000000000000000000000000000000000000000000000000004000000 m) (h : Moves m a s) : Moves m a (frameLost s x1 x2) := by
  unfold frameLost
  refine Moves.ite (fun _ => ?_) (fun _ => ?_)
  · refine State.modSett_moves hm.up ?_
    assumption
  · refine Moves.ite (fun _ => ?_) (fun _ => ?_)
    · assumption
    · extract_lets +onlyGivenNames v1
      clear_value v1
      refine State.onIf_moves ?_ ?_
      · refine State.modSett_moves hm.up ?_
        assumption
      · intro s2 h3
        refine State.put_moves (Can.of hm) ?_
        assumption

theorem fastReturn_moves {m} {a s : State} {x1 x2 x3 x4 x5 x6} (hm : Sub 0x200000000000000000e08000000000000003f00084100000000000000001000000000000000000020000000000190039000000000000000000000000000000000c000000000000f00000000000000000000000000000000000000000000000000000000000000000c448c08 m) (h : Moves m a s) : Moves m a (fastReturn s x1 x2 x3 x4 x5 x6) := by
  unfold fastReturn
  refine Moves.ite (fun _ => ?_) (fun _ => ?_)
  · assumption
  · extract_lets +onlyGivenNames v1
    clear_value v1
    extract_lets +onlyGivenNames v2
    clear_value v2
    extract_lets +onlyGivenNames s3
    have h4 : Moves m a s3 := by
      unfold s3
      refine State.forL_moves ?_ ?_
      · refine State.modEnd_moves hm.up ?_
        assumption
      · intro v5 s6 h7
        refine slotMiss_moves hm.up ?_
        assumption
    clear_value s3
    refine Moves.ite (fun _ => ?_) (fun _ => ?_)
    · extract_lets +onlyGivenNames s8
      have h9 : Moves m a s8 := by
        unfold s8
        refine State.modSett_moves hm.up ?_
        assumption
      clear_value s8
      extract_lets +onlyGivenNames s10
      have h11 : Moves m a s10 := by
        unfold s10
        refine State.onIf_moves ?_ ?_
        · refine State.put_moves (Can.of hm) ?_
          assumption
        · intro s12 h13
          refine State.incSat_moves hm.up (Can.of hm) ?_
          assumption
      clear_value s10
      extract_lets +onlyGivenNames s14
      have h15 : Moves m a s14 := by
        unfold s14
        refine State.onIf_moves ?_ ?_
        · assumption
        · intro s16 h17
          refine State.put_moves (Can.of hm) ?_
          assumption
      clear_value s14
      refine State.forL_moves ?_ ?_
      · assumption
      · intro v18 s19 h20
        refine slotJudge_moves hm.up ?_
        assumption
    · refine State.forL_moves ?_ ?_
      · refine frameLost_moves hm.up ?_
        assumption
      · intro v21 s22 h23
        refine slotMiss_moves hm.up ?_
        assumption

theorem execSettFastStart_moves {m} {a s : State} {x1} (hm : Sub 0x200000000000000000e0800000000000000070004010000000000000000100000000000000000000000000000000000000000000000000000000000000000000000000000000000000000000000000000000000000000000000000000000000000000000000000004400c08 m) (h : Moves m a s) : Ends m a (execSettFastStart x1 s) := by
  unfold execSettFastStart
  refine live_moves ?_ ?_
  · assumption
  · intro s1 h2
    refine fastStart_moves hm.up ?_
    assumption

theorem execSettFastReturn_moves {m} {a s : State} {x1 x2 x3 x4 x5 x6} (hm : Sub 0x200000000000000000e08000000000000003f00084100000000000000001000000000000000000020000000000190039000000000000000000000000000000000c000000000000f00000000000000000000000000000000000000000000000000000000000000000c448c08 m) (h : Moves m a s) : Ends m a (execSettFastReturn x1 x2 x3 x4 x5 x6 s) := by
  unfold execSettFastReturn
  refine live_moves ?_ ?_
  · assumption
  · intro s1 h2
    refine fastReturn_moves hm.up ?_
    assumption

theorem execRingBreak_moves {m} {a s : State} {x1 x2 x3 x4} (hm : Sub 0x200000000000000000e0800000000000000000010180000000000000000100000000000000000000000000000000000000000000000000000000000000000000000000000000000000000000000000000000000000000000000000000000000000000000000000004400408 m) (h : Moves m a s) : Ends m a (execRingBreak x1 x2 x3 x4 s) := by
  unfold execRingBreak
  refine live_moves ?_ ?_
  · assumption
  · intro s1 h2
    refine State.onIf_moves ?_ ?_
    · assumption
    · intro s3 h4
      extract_lets +onlyGivenNames s5
      have h6 : Moves m a s5 := by
        unfold s5
        refine State.put_moves (Can.of hm) ?_
        refine State.put_moves (Can.of hm) ?_
        refine State.incSat_moves hm.up (Can.of hm) ?_
        assumption
      clear_value s5
      refine settEv_moves hm.up ?_
      refine State.modSett_moves hm.up ?_
      assumption

theorem execCloseTest_moves {m} {a s : State} {x1 x2} (hm : Sub 0x4000000 m) (h : Moves m a s) : Ends m a (execCloseTest x1 x2 s) := by
  unfold execCloseTest
  refine live_moves ?_ ?_
  · assumption
  · intro s1 h2
    refine State.onIf_moves ?_ ?_
    · assumption
    · intro s3 h4
      extract_lets +onlyGivenNames v5
      clear_value v5
      refine State.modSett_moves hm.up ?_
      assumption

theorem slowStart_moves {m} {a s : State} {x1 x2} (hm : Sub 0x4000000 m) (h : Moves m a s) : Moves m a (slowStart s x1 x2) := by
  unfold slowStart
  extract_lets +onlyGivenNames v1
  clear_value v1
  refine Moves.ite (fun _ => ?_) (fun _ => ?_)
  · assumption
  · split
    · refine State.onIf_moves ?_ ?_
      · assumption
      · intro s5 h6
        refine State.modEnd_moves hm.up ?_
        refine State.modSett_moves hm.up ?_
        assumption
    · split
      · assumption
      · refine State.onIf_moves ?_ ?_
        · assumption
        · intro s14 h15
          refine State.modEnd_moves hm.up ?_
          assumption

theorem slowOk_moves {m} {a s : State} {x1 x2 x3} (hm : Sub 0x200000000000000000e08000000045000003a00000000000000000030001200000000000000000020000000000190039000000000000000000000000000000000c000000000000f00000000000000000000000000000000000000000000000000000000000000005fc48f18 m) (h : Moves m a s) : Moves m a (slowOk s x1 x2 x3) := by
  unfold slowOk
  split
  · extract_lets +onlyGivenNames s4
    have h5 : Moves m a s4 := by
      unfold s4
      refine State.modSett_moves hm.up ?_
      assumption
    clear_value s4
    refine Moves.ite (fun _ => ?_) (fun _ => ?_)
    · assumption
    · extract_lets +onlyGivenNames v6
      clear_value v6
      refine opEnd_moves hm.up ?_
      refine State.modSett_moves hm.up ?_
      assumption
  · refine State.onIf_moves ?_ ?_
    · assumption
    · intro s9 h10
      refine packRead_moves hm.up ?_
      assumption
  · refine State.onIf_moves ?_ ?_
    · assumption
    · intro s13 h14
      refine slotTake_moves hm.up ?_
      assumption
  · assumption

theorem slowFail_moves {m} {a s : State} {x1 x2} (hm : Sub 0x200000000000000000e0800000000000000000000000000000000003000120000000000000000000000000000000000000000000000000000000000000000000000000000000000000000000000000000000000000000000000000000000000000000000000000007400718 m) (h : Moves m a s) : Moves m a (slowFail s x1 x2) := by
  unfold slowFail
  split
  · refine Moves.ite (fun _ => ?_) (fun _ => ?_)
    · refine State.modSett_moves hm.up ?_
      assumption
    · refine opEnd_moves hm.up ?_
      refine State.modSett_moves hm.up ?_
      assumption
  · refine State.onIf_moves ?_ ?_
    · assumption
    · intro s6 h7
      refine State.modSett_moves hm.up ?_
      assumption
  · assumption
  · assumption

theorem execSettSlowStart_moves {m} {a s : State} {x1 x2} (hm : Sub 0x4000000 m) (h : Moves m a s) : Ends m a (execSettSlowStart x1 x2 s) := by
  unfold execSettSlowStart
  refine live_moves ?_ ?_
  · assumption
  · intro s1 h2
    refine slowStart_moves hm.up ?_
    assumption

theorem execSettSlowReply_moves {m} {a s : State} {x1 x2 x3 x4 x5} (hm : Sub 0x200000000000000000e08000000045000003a00080100000000000030001200000000000000000020000000000190039000000000000000000000000000000000c000000000000f00000000000000000000000000000000000000000000000000000000000000005fc48f18 m) (h : Moves m a s) : Ends m a (execSettSlowReply x1 x2 x3 x4 x5 s) := by
  unfold execSettSlowReply
  refine live_moves ?_ ?_
  · assumption
  · intro s1 h2
    split
    · assumption
    · extract_lets +onlyGivenNames s8
      have h9 : Moves m a s8 := by
        unfold s8
        refine State.modEnd_moves hm.up ?_
        assumption
      clear_value s8
      extract_lets +onlyGivenNames s10
      have h11 : Moves m a s10 := by
        unfold s10
        refine Moves.ite (fun _ => ?_) (fun _ => ?_)
        · refine State.modSett_moves hm.up ?_
          assumption
        · refine frameLost_moves hm.up ?_
          assumption
      clear_value s10
      extract_lets +onlyGivenNames s12
      have h13 : Moves m a s12 := by
        unfold s12
        refine State.onIf_moves ?_ ?_
        · assumption
        · intro s14 h15
          refine State.incSat_moves hm.up (Can.of hm) ?_
          assumption
      clear_value s12
      split
      · refine slowOk_moves hm.up ?_
        assumption
      · refine slowFail_moves hm.up ?_
        assumption

theorem execPackidRead_moves {m} {a s : State} (hm : Sub 0x4000000 m) (h : Moves m a s) : Ends m a (execPackidRead s) := by
  unfold execPackidRead
  refine live_moves ?_ ?_
  · assumption
  · intro s1 h2
    extract_lets +onlyGivenNames v3
    clear_value v3
    extract_lets +onlyGivenNames v4
    clear_value v4
    refine State.onIf_moves ?_ ?_
    · assumption
    · intro s5 h6
      refine State.modSett_moves hm.up ?_
      assumption

theorem nodeCfgReset_moves {m} {a s : State} {x1} (hm : Sub 0x7c00000000000000000000000000000000000000000000000000000000000000000000000000000000000000000000000000000000000000000000000000000000000000000000000000000000000000000000000000000000 m) (h : Moves m a s) : Moves m a (nodeCfgReset s x1) := by
  unfold nodeCfgReset
  refine State.clr_moves hm.up (Can.of hm) ?_
  refine State.clr_moves hm.up (Can.of hm) ?_
  refine State.clr_moves hm.up (Can.of hm) ?_
  refine State.clr_moves hm.up (Can.of hm) ?_
  refine State.clr_moves hm.up (Can.of hm) ?_
  assumption

theorem opSettEnumerate_moves {m} {a s : State} {x1} (hm : Sub 0x80020000000000000000000000000000000000000000000000000000000000000000000000000000000000000000000000000000000000000000000000000000000000000000000000000000000000000000000004000000 m) (h : Moves m a s) : Moves m a (opSettEnumerate s x1).2 := by
  unfold opSettEnumerate
  split
  · refine opDone_moves hm.up ?_
    assumption
  · extract_lets +onlyGivenNames v3
    extract_lets +onlyGivenNames v4
    clear_value v4
    split
    · refine opDone_moves hm.up ?_
      assumption
    · extract_lets +onlyGivenNames v7
      clear_value v7
      extract_lets +onlyGivenNames s8
      have h9 : Moves m a s8 := by
        unfold s8
        refine State.modSett_moves hm.up ?_
        assumption
      clear_value s8
      extract_lets +onlyGivenNames s10
      have h11 : Moves m a s10 := by
        unfold s10
        refine State.forL_moves ?_ ?_
        · assumption
        · intro v12 s13 h14
          refine State.put_moves (Can.of hm) ?_
          assumption
      clear_value s10
      refine opDone_moves hm.up ?_
      refine State.put_moves (Can.of hm) ?_
      assumption

theorem enumEnd_moves {m} {a s : State} {x1 x2} (hm : Sub 0x200000000000000000e0800000000000000007c03220000000000000000100000000000000000000000000000000000000000000000000000000000000000000000000000000000000000000000000000000000000000000000000000000000000000000000000004400408 m) (h : Moves m a s) : Moves m a (enumEnd s x1 x2) := by
  unfold enumEnd
  extract_lets +onlyGivenNames s1
  have h2 : Moves m a s1 := by
    unfold s1
    refine State.forL_moves ?_ ?_
    · assumption
    · intro v3 s4 h5
      refine State.onIf_moves ?_ ?_
      · assumption
      · intro s6 h7
        refine nodeCfgReset_moves hm.up ?_
        assumption
  clear_value s1
  extract_lets +onlyGivenNames s8
  have h9 : Moves m a s8 := by
    unfold s8
    refine State.put_moves (Can.of hm) ?_
    refine State.put_moves (Can.of hm) ?_
    assumption
  clear_value s8
  refine settBudgetShow_moves hm.up ?_
  refine settEv_moves hm.up ?_
  refine State.modSett_moves hm.up ?_
  assumption

theorem nodeEnter_moves {m} {a s : State} {x1 x2 x3 x4 x5 x6} (hm : Sub 0xffe0000000000000000000000000000000000000000000000000000000000000000000000000000000000000000000000000000000000000000000000000000000000000000000000000000000000000000000000008000000 m) (h : Moves m a s) : Moves m a (nodeEnter s x1 x2 x3 x4 x5 x6) := by
  unfold nodeEnter
  extract_lets +onlyGivenNames v1
  clear_value v1
  extract_lets +onlyGivenNames v2
  clear_value v2
  extract_lets +onlyGivenNames s3
  have h4 : Moves m a s3 := by
    unfold s3
    refine State.onIf_moves ?_ ?_
    · assumption
    · intro s5 h6
      refine nodeKeep_moves hm.up ?_
      refine nodeCfgReset_moves hm.up ?_
      assumption
  clear_value s3
  extract_lets +onlyGivenNames s7
  have h8 : Moves m a s7 := by
    unfold s7
    refine State.put_moves (Can.of hm) ?_
    refine State.put64_moves hm.up (Can.of hm) (Can.of hm) ?_
    assumption
  clear_value s7
  refine State.put_moves (Can.of hm) ?_
  refine State.putB_moves hm.up (Can.of hm) ?_
  refine State.put_moves (Can.of hm) ?_
  assumption

theorem execSettAssignReply_moves {m} {a s : State} {x1 x2 x3} (hm : Sub 0x200000000000000000e080000000000000000ffe3a6000000000000000010000000000000000000000000000000000000000000000000000000000000000000000000000000000000000000000000000000000000000000000000000000000000000000000000000c400408 m) (h : Moves m a s) : Ends m a (execSettAssignReply x1 x2 x3 s) := by
  unfold execSettAssignReply
  refine live_moves ?_ ?_
  · assumption
  · intro s1 h2
    split
    · assumption
    · extract_lets +onlyGivenNames s8
      have h9 : Moves m a s8 := by
        unfold s8
        refine State.onIf_moves ?_ ?_
        · assumption
        · intro s10 h11
          refine State.put_moves (Can.of hm) ?_
          assumption
      clear_value s8
      split
      · refine enumEnd_moves hm.up ?_
        assumption
      · refine Moves.ite (fun _ => ?_) (fun _ => ?_)
        · refine enumEnd_moves hm.up ?_
          refine settEv_moves hm.up ?_
          refine State.put_moves (Can.of hm) ?_
          assumption
        · refine State.modSett_moves hm.up ?_
          refine nodeEnter_moves hm.up ?_
          assumption

theorem opSettNode_moves {m} {a s : State} {x1 x2 x3 x4} (hm : Sub 0x5000000 m) (h : Moves m a s) : Moves m a (opSettNode s x1 x2 x3 x4).2 := by
  unfold opSettNode
  extract_lets +onlyGivenNames v1
  clear_value v1
  extract_lets +onlyGivenNames v2
  clear_value v2
  split
  · refine opDone_moves hm.up ?_
    assumption
  · extract_lets +onlyGivenNames v5
    clear_value v5
    extract_lets +onlyGivenNames s6
    have h7 : Moves m a s6 := by
      unfold s6
      refine State.modSett_moves hm.up ?_
      assumption
    clear_value s6
    refine opWait_moves hm.up ?_
    assumption

/-! ### Power -/

theorem evStore_moves {m} {a s : State} {x1 x2} (hm : Sub 0x200000000000000000000000000000000000000000000000000000000000c0000000000000000000000000000000000000000000000000000000000000000000000000000000000000000000000000000000000000000000000000000000000000000000000000040000710 m) (h : Moves m a s) : Moves m a (evStore s x1 x2) := by
  unfold evStore
  extract_lets +onlyGivenNames v1
  clear_value v1
  extract_lets +onlyGivenNames s2
  have h3 : Moves m a s2 := by
    unfold s2
    refine State.onIf_moves ?_ ?_
    · assumption
    · intro s4 h5
      refine State.incSat_moves hm.up (Can.of hm) ?_
      assumption
  clear_value s2
  extract_lets +onlyGivenNames s6
  clear_value s6
  extract_lets +onlyGivenNames s7
  have h8 : Moves m a s7 := by
    unfold s7
    refine Moves.log (s := s2) hm.up ?_
    assumption
  clear_value s7
  extract_lets +onlyGivenNames s9
  have h10 : Moves m a s9 := by
    unfold s9
    refine State.putBytes_moves hm.up ?_
    assumption
  clear_value s9
  refine State.incWrap_moves hm.up (Can.of hm) ?_
  refine State.irq_moves hm.up ?_
  refine retPut_moves hm.up ?_
  assumption

theorem evFlush_moves {m} {a s : State} (hm : Sub 0x200000000000000000000000000000000000000000000000000000000000c0000000000000000000000000000000000000000000000000000000000000000000000000000000000000000000000000000000000000000000000000000000000000000000000000040000710 m) (h : Moves m a s) : Moves m a (evFlush s) := by
  unfold evFlush
  refine Moves.foldl ?_ ?_
  · refine Moves.log (s := s) hm.up ?_
    assumption
  · intro s1 v2 h3
    refine evStore_moves hm.up ?_
    assumption

theorem fresh_moves {m} {a s : State} {x1 x2} (hm : Sub 0x200000000000000000000000000000000000000000000000000000000000c00000000000000000000000000000000000000000000000000000000000000000000000000000000000000000000000000000000000000000000000000000000000000000000000000ffffffff m) (h : Moves m a s) :
    Moves m a (fresh s x1 x2) := by
  unfold fresh
  extract_lets +onlyGivenNames s1
  have h1 : Moves m a s1 := evFlush_moves hm.up h
  clear_value s1
  dsimp only
  iterate 11 refine State.put_moves (Can.any hm) ?_
  exact ((h1.mem (.clear hm.up .refl)).reset hm.up).renew hm.up rfl rfl rfl rfl rfl rfl rfl

theorem hlkAddrSet_moves {m} {a s : State} (hm : Sub 0x200000000000000000e0800000000000000000000000000000001800000100000000000000000000000000000000000000000000000000000000000000000000000000000000000000000000000000000000000000000000000000000000000000000000000000000400408 m) (h : Moves m a s) : Moves m a (hlkAddrSet s) := by
  unfold hlkAddrSet
  split
  · refine State.logEv_moves hm.up ?_
    refine State.put_moves (Can.of hm) ?_
    refine State.put_moves (Can.of hm) ?_
    assumption
  · extract_lets +onlyGivenNames v5
    clear_value v5
    refine State.logEv_moves hm.up ?_
    refine State.put_moves (Can.of hm) ?_
    refine State.put_moves (Can.of hm) ?_
    assumption
  · refine State.put_moves (Can.of hm) ?_
    refine State.put_moves (Can.of hm) ?_
    assumption

theorem deviceReset_moves {m} {a s : State} {x1} (hm : Sub 0x20000000000a000000e08000000000000000000000000000000018000001c00000000000000000000000000000000000000000000000000000000000000000000000000000000000000000000000000000000000000000000000000000000000000000000000000ffffffff m) (h : Moves m a s) : Moves m a (deviceReset s x1) := by
  unfold deviceReset
  extract_lets +onlyGivenNames s1
  have h2 : Moves m a s1 := by
    unfold s1
    refine State.put_moves (Can.of hm) ?_
    refine fresh_moves hm.up ?_
    assumption
  clear_value s1
  refine hlkAddrSet_moves hm.up ?_
  refine retPut_moves hm.up ?_
  refine State.put_moves (Can.of hm) ?_
  assumption

theorem aonAdd_moves {m} {a s : State} {x1} (hm : Sub 0x8000000000000000000000000000000000000000000000000000000000000000000000000000000000000000000000000000000000000000000000000000000000000000000000000000000000000000000000000000000000000000000000000000000000000 m) (h : Moves m a s) : Moves m a (aonAdd s x1) := by
  unfold aonAdd
  refine State.put_moves (Can.of hm) ?_
  assumption

theorem execPorstAssert_moves {m} {a s : State} (hm : Sub 0x200000000000000000000000000000000000000000000000000000000000c00000000000000000000000000000000000000000000000000000000000000000000000000000000000000000000000000000000000000000000000000000000000000000000000000ffffffff m) (h : Moves m a s) : Ends m a (execPorstAssert s) := by
  unfold execPorstAssert
  extract_lets +onlyGivenNames s1
  have h2 : Moves m a s1 := by
    unfold s1
    refine State.modPwr_moves hm.up ?_ ?_ ?_
    · refine fresh_moves hm.up ?_
      assumption
    · (intro p; rfl)
    · (intro p; rfl)
  clear_value s1
  refine Ends.next ?_
  split
  · refine State.modPwr_moves hm.up ?_ ?_ ?_
    · assumption
    · (intro p; rfl)
    · (intro p; rfl)
  · assumption

theorem execPorstRelease_moves {m} {a s : State} {x1 x2 x3} (hm : Sub 0x20000000008e000000e08000000000000000000000000000000018000001c00000000000000000000000000000000000000000000000000000000000000000000000000000000000000000000000000000000000000000000000000000000000000000000000000ffffffff m) (h : Moves m a s) : Ends m a (execPorstRelease x1 x2 x3 s) := by
  unfold execPorstRelease
  refine Ends.next ?_
  refine Moves.ite (fun _ => ?_) (fun _ => ?_)
  · assumption
  · extract_lets +onlyGivenNames s1
    have h2 : Moves m a s1 := by
      unfold s1
      refine State.putB_moves hm.up (Can.of hm) ?_
      refine aonAdd_moves hm.up ?_
      assumption
    clear_value s1
    extract_lets +onlyGivenNames v3
    clear_value v3
    extract_lets +onlyGivenNames s4
    clear_value s4
    extract_lets +onlyGivenNames s5
    have h6 : Moves m a s5 := by
      unfold s5
      refine Moves.net (s := s1) hm.up ?_
      assumption
    clear_value s5
    refine State.modPwr_moves hm.up ?_ ?_ ?_
    · refine deviceReset_moves hm.up ?_
      assumption
    · (intro p; rfl)
    · (intro p; rfl)

theorem bistStore_moves {m} {a s : State} {x1 x2} (hm : Sub 0x40000000 m) (h : Moves m a s) : Moves m a (bistStore s x1 x2) := by
  unfold bistStore
  extract_lets +onlyGivenNames v1
  clear_value v1
  extract_lets +onlyGivenNames v2
  clear_value v2
  extract_lets +onlyGivenNames v3
  clear_value v3
  extract_lets +onlyGivenNames s4
  have h5 : Moves m a s4 := by
    unfold s4
    refine retPut_moves hm.up ?_
    assumption
  clear_value s4
  refine State.modPwr_moves hm.up ?_ ?_ ?_
  · assumption
  · (intro p; rfl)
  · (intro p; rfl)

theorem bistShow_moves {m} {a s : State} {x1} (hm : Sub 0x38000000000000000000000000000000000000000000000000000000000000000000000000000000000000000000000000000000000000000000000000000000000000000000000000000000000000000000000000000000000000000000000000000000000000000 m) (h : Moves m a s) : Moves m a (bistShow s x1) := by
  unfold bistShow
  refine State.put_moves (Can.of hm) ?_
  refine State.put_moves (Can.of hm) ?_
  refine State.put_moves (Can.of hm) ?_
  assumption

theorem retJudge_moves {m} {a s : State} (hm : Sub 0x200000000000800000e08000000043ff000000000000000000000000000100000000000000000000000000000000000000000000000000000000000000000000000000000000000000000000000000000000000000000000000000000000000000000000000000040400408 m) (h : Moves m a s) : Moves m a (retJudge s) := by
  unfold retJudge
  refine Moves.ite (fun _ => ?_) (fun _ => ?_)
  · extract_lets +onlyGivenNames s1
    have h2 : Moves m a s1 := by
      unfold s1
      refine State.onIf_moves ?_ ?_
      · assumption
      · intro s3 h4
        refine State.logEv_moves hm.up ?_
        refine State.put_moves (Can.of hm) ?_
        assumption
    clear_value s1
    extract_lets +onlyGivenNames s5
    have h6 : Moves m a s5 := by
      unfold s5
      refine State.forN_moves ?_ ?_
      · assumption
      · intro v7 s8 h9
        refine putTotal_moves hm.up ?_
        assumption
    clear_value s5
    refine putPack_moves hm.up ?_
    refine State.put_moves (Can.of hm) ?_
    refine State.put_moves (Can.of hm) ?_
    assumption
  · refine State.modPwr_moves hm.up ?_ ?_ ?_
    · refine State.logEv_moves hm.up ?_
      assumption
    · (intro p; rfl)
    · (intro p; rfl)

theorem clocksUp_moves {m} {a s : State} (hm : Sub 0x1f5000000000000000 m) (h : Moves m a s) : Moves m a (clocksUp s) := by
  unfold clocksUp
  extract_lets +onlyGivenNames s1
  have h2 : Moves m a s1 := by
    unfold s1
    refine State.put_moves (Can.of hm) ?_
    refine State.put_moves (Can.of hm) ?_
    refine State.put_moves (Can.of hm) ?_
    assumption
  clear_value s1
  refine State.put_moves (Can.of hm) ?_
  refine State.put_moves (Can.of hm) ?_
  refine State.put_moves (Can.of hm) ?_
  refine State.put_moves (Can.of hm) ?_
  assumption

theorem execBadgerStartDone_moves {m} {a s : State} {x1 x2} (hm : Sub 0x210000080000a00000e08000000043ff0000000000000000000000000001000000000000000000020000000000000000000000000000000000000000000000000c000040000000f0000000000000000000000000000000000000000000000000000001f5000000040448408 m) (h : Moves m a s) : Ends m a (execBadgerStartDone x1 x2 s) := by
  unfold execBadgerStartDone
  refine live_moves ?_ ?_
  · assumption
  · intro s1 h2
    refine Moves.ite (fun _ => ?_) (fun _ => ?_)
    · assumption
    · extract_lets +onlyGivenNames s3
      have h4 : Moves m a s3 := by
        unfold s3
        refine State.put_moves (Can.of hm) ?_
        refine clocksUp_moves hm.up ?_
        assumption
      clear_value s3
      refine Moves.ite (fun _ => ?_) (fun _ => ?_)
      · refine State.modPwr_moves hm.up ?_ ?_ ?_
        · assumption
        · (intro p; rfl)
        · (intro p; rfl)
      · extract_lets +onlyGivenNames s5
        have h6 : Moves m a s5 := by
          unfold s5
          refine State.modPwr_moves hm.up ?_ ?_ ?_
          · assumption
          · (intro p; rfl)
          · (intro p; rfl)
        clear_value s5
        extract_lets +onlyGivenNames v7
        clear_value v7
        extract_lets +onlyGivenNames s8
        have h9 : Moves m a s8 := by
          unfold s8
          refine State.put_moves (Can.of hm) ?_
          refine retJudge_moves hm.up ?_
          assumption
        clear_value s8
        refine Moves.ite (fun _ => ?_) (fun _ => ?_)
        · refine State.modPwr_moves hm.up ?_ ?_ ?_
          · assumption
          · (intro p; rfl)
          · (intro p; rfl)
        · refine State.modPwr_moves hm.up ?_ ?_ ?_
          · refine State.gateHold_moves hm.up (Can.of hm) ?_
            refine State.put_moves (Can.of hm) ?_
            assumption
          · (intro p; rfl)
          · (intro p; rfl)

theorem bistDevSafe_moves {m} {a s : State} (hm : Sub 0x200000000000400000e0800000000000000000000000000000000000000100000000000010000000000000000000000000000000000000000000000000000000000000000000000000000000000000000000000000000000000000000000000000000000000000040480408 m) (h : Moves m a s) : Moves m a (bistDevSafe s) := by
  unfold bistDevSafe
  extract_lets +onlyGivenNames s1
  have h2 : Moves m a s1 := by
    unfold s1
    refine State.logEv_moves hm.up ?_
    refine State.put_moves (Can.of hm) ?_
    refine State.put_moves (Can.of hm) ?_
    assumption
  clear_value s1
  refine State.modPwr_moves hm.up ?_ ?_ ?_
  · refine State.modBdg_moves hm.up ?_
    assumption
  · (intro p; rfl)
  · (intro p; rfl)

theorem execStartupBistDone_moves {m} {a s : State} {x1 x2 x3 x4 x5 x6} (hm : Sub 0x200000380000400000e08000000000000000000000000000000000000001000000000000120000020000000000000000000000000000000000000000000000000c000040000000f0000000000000000000000000000000000000000000000000000000000000000404c8408 m) (h : Moves m a s) : Ends m a (execStartupBistDone x1 x2 x3 x4 x5 x6 s) := by
  unfold execStartupBistDone
  refine live_moves ?_ ?_
  · assumption
  · intro s1 h2
    refine State.onIf_moves ?_ ?_
    · assumption
    · intro s3 h4
      extract_lets +onlyGivenNames v5
      clear_value v5
      extract_lets +onlyGivenNames s6
      have h7 : Moves m a s6 := by
        unfold s6
        refine State.logEv_moves hm.up ?_
        refine bistShow_moves hm.up ?_
        refine bistStore_moves hm.up ?_
        assumption
      clear_value s6
      refine Moves.ite (fun _ => ?_) (fun _ => ?_)
      · refine State.modPwr_moves hm.up ?_ ?_ ?_
        · refine State.gateEnd_moves hm.up (Can.of hm) ?_
          assumption
        · (intro p; rfl)
        · (intro p; rfl)
      · refine faultNShow_moves hm.up ?_
        refine bistDevSafe_moves hm.up ?_
        assumption

theorem bootArea_moves {m} {a s : State} {x1 x2 x3} (hm : Sub 0x200184000000000000ef880000000000000000000000000000000000000100000000000000000000000000000000000000000000000000000000000000000000000000000000000000000000000000000000000000000000000000000000000000000000000000040400798 m) (h : Moves m a s) : Moves m a (bootArea s x1 x2 x3) := by
  unfold bootArea
  extract_lets +onlyGivenNames v1
  clear_value v1
  extract_lets +onlyGivenNames s2
  have h3 : Moves m a s2 := by
    unfold s2
    refine State.putBytes_moves hm.up ?_
    assumption
  clear_value s2
  extract_lets +onlyGivenNames s4
  have h5 : Moves m a s4 := by
    unfold s4
    refine State.putB_moves hm.up (Can.of hm) ?_
    refine State.put_moves (Can.of hm) ?_
    refine State.put_moves (Can.of hm) ?_
    assumption
  clear_value s4
  extract_lets +onlyGivenNames s6
  have h7 : Moves m a s6 := by
    unfold s6
    refine State.modPwr_moves hm.up ?_ ?_ ?_
    · refine State.onIf_moves ?_ ?_
      · assumption
      · intro s8 h9
        refine State.logEv_moves hm.up ?_
        assumption
    · (intro p; rfl)
    · (intro p; rfl)
  clear_value s6
  refine State.onIf_moves ?_ ?_
  · assumption
  · intro s10 h11
    refine State.forN_moves ?_ ?_
    · refine owlArm_moves hm.up ?_
      refine State.put_moves (Can.of hm) ?_
      assumption
    · intro v12 s13 h14
      refine State.owlRec_moves hm.up ?_
      assumption

theorem execBootLoadDone_moves {m} {a s : State} (hm : Sub 0x200184000000000000ef880000000000000000000000000000000000000100000000000002000000000000000000000000000000000000000000000000000000000000000000000000000000000000000000000000000000000000000000000000000000000000040400798 m) (h : Moves m a s) : Ends m a (execBootLoadDone s) := by
  unfold execBootLoadDone
  refine live_moves ?_ ?_
  · assumption
  · intro s1 h2
    refine Moves.ite (fun _ => ?_) (fun _ => ?_)
    · assumption
    · extract_lets +onlyGivenNames v3
      clear_value v3
      extract_lets +onlyGivenNames v4
      clear_value v4
      split
      · refine bootArea_moves hm.up ?_
        assumption
      · split
        · refine bootArea_moves hm.up ?_
          assumption
        · refine faultNShow_moves hm.up ?_
          refine State.modPwr_moves hm.up ?_ ?_ ?_
          · refine State.logEv_moves hm.up ?_
            assumption
          · (intro p; rfl)
          · (intro p; rfl)

theorem execDevReady_moves {m} {a s : State} (hm : Sub 0x200000000000100000e080000000000000000000000000000000000000010000000000000e0000020000000000000000000000000000000000000000000000000c000200000000f000000000000000000000000000000000000000000000000000000000000000040448408 m) (h : Moves m a s) : Ends m a (execDevReady s) := by
  unfold execDevReady
  refine live_moves ?_ ?_
  · assumption
  · intro s1 h2
    refine State.onIf_moves ?_ ?_
    · assumption
    · intro s3 h4
      extract_lets +onlyGivenNames s5
      have h6 : Moves m a s5 := by
        unfold s5
        refine State.gateEnd_moves hm.up (Can.of hm) ?_
        refine State.modPwr_moves hm.up ?_ ?_ ?_
        · assumption
        · (intro p; rfl)
        · (intro p; rfl)
      clear_value s5
      extract_lets +onlyGivenNames s7
      have h8 : Moves m a s7 := by
        unfold s7
        refine State.onIf_moves ?_ ?_
        · assumption
        · intro s9 h10
          refine State.put_moves (Can.of hm) ?_
          refine State.put_moves (Can.of hm) ?_
          assumption
      clear_value s7
      refine faultNShow_moves hm.up ?_
      refine State.logEv_moves hm.up ?_
      refine State.put_moves (Can.of hm) ?_
      assumption

theorem shutDischarge_moves {m} {a s : State} (hm : Sub 0x200000000000000000e08000000000000000000000000000000000000001000000000000000000020a000000100000fc340000000000006000000000000002004c000000000000f000000000000000000000000000000000000000000000000000000000000000000478f48 m) (h : Moves m a s) : Moves m a (shutDischarge s) := by
  unfold shutDischarge
  refine Moves.ite (fun _ => ?_) (fun _ => ?_)
  · assumption
  · refine State.forL_moves ?_ ?_
    · assumption
    · intro v1 s2 h3
      refine Moves.ite (fun _ => ?_) (fun _ => ?_)
      · assumption
      · split
        · assumption
        · refine chDischarge_moves hm.up ?_
          assumption

theorem shutStart_moves {m} {a s : State} (hm : Sub 0x200000000001080000e08000000000000000000000000000000000000001000000000000000000020a000000100000fcb40000000000006000000000000002004c000000000042f000042000000000000000000000000000000000000000000000000000000000040478f4c m) (h : Moves m a s) : Moves m a (shutStart s) := by
  unfold shutStart
  refine Moves.ite (fun _ => ?_) (fun _ => ?_)
  · assumption
  · extract_lets +onlyGivenNames s1
    have h2 : Moves m a s1 := by
      unfold s1
      refine State.logEv_moves hm.up ?_
      refine State.put_moves (Can.of hm) ?_
      refine State.put_moves (Can.of hm) ?_
      assumption
    clear_value s1
    extract_lets +onlyGivenNames s3
    have h4 : Moves m a s3 := by
      unfold s3
      refine State.modPwr_moves hm.up ?_ ?_ ?_
      · assumption
      · (intro p; rfl)
      · (intro p; rfl)
    clear_value s3
    extract_lets +onlyGivenNames s5
    have h6 : Moves m a s5 := by
      unfold s5
      refine State.forL_moves ?_ ?_
      · assumption
      · intro v7 s8 h9
        refine State.onIf_moves ?_ ?_
        · assumption
        · intro s10 h11
          refine chStopCmd_moves hm.up ?_
          assumption
    clear_value s5
    refine shutDischarge_moves hm.up ?_
    assumption

theorem enterStandby_moves {m} {a s : State} (hm : Sub 0x20000000000a000000e08000000000000000000000000000000018000001c00000000000000000000000000000000000000000000000000000000000000000000000000000000000000000000000000000000000000000000000000000000000000000000000000ffffffff m) (h : Moves m a s) : Moves m a (enterStandby s) := by
  unfold enterStandby
  split
  · refine deviceReset_moves hm.up ?_
    assumption
  · refine State.put_moves (Can.of hm) ?_
    refine fresh_moves hm.up ?_
    assumption

theorem shutBistEnd_moves {m} {a s : State} {x1} (hm : Sub 0x20000038000a000000e08000000000000000000000000000000018000001c00000000000000000000000000000000000000000000000000000000000000000000000000000000000000000000000000000000000000000000000000000000000000000000000000ffffffff m) (h : Moves m a s) : Moves m a (shutBistEnd s x1) := by
  unfold shutBistEnd
  extract_lets +onlyGivenNames s1
  have h2 : Moves m a s1 := by
    unfold s1
    refine bistShow_moves hm.up ?_
    refine bistStore_moves hm.up ?_
    refine retCopy_moves hm.up ?_
    assumption
  clear_value s1
  refine enterStandby_moves hm.up ?_
  refine State.logEv_moves hm.up ?_
  assumption

theorem execIgnFilterExpiry_moves {m} {a s : State} (hm : Sub 0x200000000005080000e08000000000000000000000000000000000000001000000000000000000020a000000100000fcb40000000000006000000000000002004c000000000042f000042000000000000000000000000000000000000000000000000000000000040478f4c m) (h : Moves m a s) : Ends m a (execIgnFilterExpiry s) := by
  unfold execIgnFilterExpiry
  refine live_moves ?_ ?_
  · assumption
  · intro s1 h2
    extract_lets +onlyGivenNames s3
    have h4 : Moves m a s3 := by
      unfold s3
      refine State.put_moves (Can.of hm) ?_
      assumption
    clear_value s3
    refine State.onIf_moves ?_ ?_
    · assumption
    · intro s5 h6
      refine shutStart_moves hm.up ?_
      assumption

theorem execShutdownQuiescent_moves {m} {a s : State} (hm : Sub 0x200000080001000000e08000000001000000000000000000000000000001000000000000000000020000000000000000000000000000000000000000000000000c000040000000f000000000000000000000000000000000000000000000000000000000000000050c48408 m) (h : Moves m a s) : Ends m a (execShutdownQuiescent s) := by
  unfold execShutdownQuiescent
  refine live_moves ?_ ?_
  · assumption
  · intro s1 h2
    refine State.onIf_moves ?_ ?_
    · assumption
    · intro s3 h4
      extract_lets +onlyGivenNames s5
      have h6 : Moves m a s5 := by
        unfold s5
        refine State.modPwr_moves hm.up ?_ ?_ ?_
        · refine State.put_moves (Can.of hm) ?_
          assumption
        · (intro p; rfl)
        · (intro p; rfl)
      clear_value s5
      extract_lets +onlyGivenNames s7
      have h8 : Moves m a s7 := by
        unfold s7
        refine State.gateHold_moves hm.up (Can.of hm) ?_
        refine State.put_moves (Can.of hm) ?_
        assumption
      clear_value s7
      refine retCopy_moves hm.up ?_
      refine State.onIf_moves ?_ ?_
      · assumption
      · intro s9 h10
        refine ledgerWrite_moves hm.up ?_
        assumption

theorem bistPhase_moves {m} {a s : State} (hm : Sub 0x100000000000000000000000000000000000000000000000000000000000000000000000000000000000000000000000000000000000000000000000000000000000000000000000000000000000000000000000000000000000000000000000000000000000 m) (h : Moves m a s) : Moves m a (bistPhase s) := by
  unfold bistPhase
  refine State.onIf_moves ?_ ?_
  · assumption
  · intro s1 h2
    extract_lets +onlyGivenNames v3
    clear_value v3
    extract_lets +onlyGivenNames v4
    clear_value v4
    refine State.onIf_moves ?_ ?_
    · assumption
    · intro s5 h6
      refine State.put_moves (Can.of hm) ?_
      assumption

theorem execShutWait_moves {m} {a s : State} (hm : Sub 0x200000000000000000e0800000000000000000000000000000000000000100000000000000000000000000000000000000000000000000000000000000000000000000000000000000000000000000000000000000000000000000000000000000000000000000040400408 m) (h : Moves m a s) : Ends m a (execShutWait s) := by
  unfold execShutWait
  refine live_moves ?_ ?_
  · assumption
  · intro s1 h2
    refine State.onIf_moves ?_ ?_
    · assumption
    · intro s3 h4
      refine State.modPwr_moves hm.up ?_ ?_ ?_
      · refine State.logEv_moves hm.up ?_
        assumption
      · (intro p; rfl)
      · (intro p; rfl)

theorem execShutdownBistDone_moves {m} {a s : State} {x1 x2 x3 x4 x5 x6} (hm : Sub 0x20000038000a000000e08000000000000000000000000000000018000001c00000000000000000000000000000000000000000000000000000000000000000000000000000000000000000000000000000000000000000000000000000000000000000000000000ffffffff m) (h : Moves m a s) : Ends m a (execShutdownBistDone x1 x2 x3 x4 x5 x6 s) := by
  unfold execShutdownBistDone
  refine live_moves ?_ ?_
  · assumption
  · intro s1 h2
    refine State.onIf_moves ?_ ?_
    · assumption
    · intro s3 h4
      refine shutBistEnd_moves hm.up ?_
      assumption

theorem execBistTimeout_moves {m} {a s : State} (hm : Sub 0x20000038000a000000e08000000000000000000000000000000018000001c00000000000000000000000000000000000000000000000000000000000000000000000000000000000000000000000000000000000000000000000000000000000000000000000000ffffffff m) (h : Moves m a s) : Ends m a (execBistTimeout s) := by
  unfold execBistTimeout
  refine live_moves ?_ ?_
  · assumption
  · intro s1 h2
    refine State.onIf_moves ?_ ?_
    · assumption
    · intro s3 h4
      refine shutBistEnd_moves hm.up ?_
      assumption

theorem wake_moves {m} {a s : State} {x1 x2 x3} (hm : Sub 0x20000000008a000000e08000000000000000000000000000000018000001c00000000000000000000000000000000000000000000000000000000000000000000000000000000000000000000000000000000000000000000000000000000000000000000000000ffffffff m) (h : Moves m a s) : Moves m a (wake s x1 x2 x3) := by
  unfold wake
  refine Moves.ite (fun _ => ?_) (fun _ => ?_)
  · extract_lets +onlyGivenNames s1
    have h2 : Moves m a s1 := by
      unfold s1
      refine aonAdd_moves hm.up ?_
      assumption
    clear_value s1
    refine Moves.ite (fun _ => ?_) (fun _ => ?_)
    · refine deviceReset_moves hm.up ?_
      assumption
    · refine State.modPwr_moves hm.up ?_ ?_ ?_
      · refine State.put_moves (Can.of hm) ?_
        assumption
      · (intro p; rfl)
      · (intro p; rfl)
  · refine Moves.ite (fun _ => ?_) (fun _ => ?_)
    · refine State.modPwr_moves hm.up ?_ ?_ ?_
      · assumption
      · (intro p; rfl)
      · (intro p; rfl)
    · assumption

theorem execWakePin_moves {m} {a s : State} {x1 x2 x3} (hm : Sub 0x20000000008e000000e08000000000000000000000000000000018000001c00000000000000000000000000000000000000000000000000000000000000000000000000000000000000000000000000000000000000000000000000000000000000000000000000ffffffff m) (h : Moves m a s) : Ends m a (execWakePin x1 x2 x3 s) := by
  unfold execWakePin
  refine Ends.next ?_
  refine wake_moves hm.up ?_
  refine State.putB_moves hm.up (Can.of hm) ?_
  assumption

theorem execWakeTimer_moves {m} {a s : State} {x1 x2} (hm : Sub 0x20000000008a000000e08000000000000000000000000000000018000001c00000000000000000000000000000000000000000000000000000000000000000000000000000000000000000000000000000000000000000000000000000000000000000000000000ffffffff m) (h : Moves m a s) : Ends m a (execWakeTimer x1 x2 s) := by
  unfold execWakeTimer
  refine Ends.next ?_
  refine Moves.ite (fun _ => ?_) (fun _ => ?_)
  · assumption
  · refine wake_moves hm.up ?_
    assumption

theorem execAonLoss_moves {m} {a s : State} (hm : Sub 0xc200000000000000000200000000000000000000000000000000000000000000000000000000000000000000000000000000000000000000000000000000000000000000000000000000000000000000000000000000000000000000000002000000040000000 m) (h : Moves m a s) : Ends m a (execAonLoss s) := by
  unfold execAonLoss
  extract_lets +onlyGivenNames s1
  have h2 : Moves m a s1 := by
    unfold s1
    refine State.modPwr_moves hm.up ?_ ?_ ?_
    · assumption
    · (intro p; rfl)
    · (intro p; rfl)
  clear_value s1
  extract_lets +onlyGivenNames s3
  have h4 : Moves m a s3 := by
    unfold s3
    refine State.put_moves (Can.of hm) ?_
    refine State.put_moves (Can.of hm) ?_
    refine State.put_moves (Can.of hm) ?_
    assumption
  clear_value s3
  refine Ends.next ?_
  refine State.put_moves (Can.of hm) ?_
  refine State.put_moves (Can.of hm) ?_
  assumption

theorem execSelftestDone_moves {m} {a s : State} {x1 x2 x3 x4 x5 x6} (hm : Sub 0x20000038000a000000e08000000000000000000000000000000018000001c00000000000000000020000000000000000000000000000000000000000000000000c000040000000f0000000000000000000000000000000000000000000000000000000000000000ffffffff m) (h : Moves m a s) : Ends m a (execSelftestDone x1 x2 x3 x4 x5 x6 s) := by
  unfold execSelftestDone
  refine live_moves ?_ ?_
  · assumption
  · intro s1 h2
    split
    · assumption
    · extract_lets +onlyGivenNames v8
      clear_value v8
      extract_lets +onlyGivenNames s9
      have h10 : Moves m a s9 := by
        unfold s9
        refine State.modPwr_moves hm.up ?_ ?_ ?_
        · refine bistShow_moves hm.up ?_
          assumption
        · (intro p; rfl)
        · (intro p; rfl)
      clear_value s9
      extract_lets +onlyGivenNames s11
      have h12 : Moves m a s11 := by
        unfold s11
        refine State.gateEnd_moves hm.up (Can.of hm) ?_
        assumption
      clear_value s11
      refine Moves.ite (fun _ => ?_) (fun _ => ?_)
      · assumption
      · extract_lets +onlyGivenNames s13
        have h14 : Moves m a s13 := by
          unfold s13
          refine State.logEv_moves hm.up ?_
          assumption
        clear_value s13
        refine State.onIf_moves ?_ ?_
        · assumption
        · intro s15 h16
          refine deviceReset_moves hm.up ?_
          refine bistStore_moves hm.up ?_
          assumption

theorem profNow_moves {m} {a s : State} {x1} (hm : Sub 0x400000000010000 m) (h : Moves m a s) : Moves m a (profNow s x1) := by
  unfold profNow
  refine State.put_moves (Can.of hm) ?_
  refine State.forL_moves ?_ ?_
  · assumption
  · intro v1 s2 h3
    refine State.modChan_moves hm.up ?_
    assumption

theorem profThermal_moves {m} {a s : State} {x1} (hm : Sub 0x580000000010000 m) (h : Moves m a s) : Moves m a (profThermal s x1) := by
  unfold profThermal
  extract_lets +onlyGivenNames s1
  have h2 : Moves m a s1 := by
    unfold s1
    refine State.forL_moves ?_ ?_
    · refine profNow_moves hm.up ?_
      assumption
    · intro v3 s4 h5
      refine State.onIf_moves ?_ ?_
      · assumption
      · intro s6 h7
        refine State.modChan_moves hm.up ?_
        assumption
  clear_value s1
  refine profDone_moves hm.up ?_
  refine State.put_moves (Can.of hm) ?_
  refine State.put_moves (Can.of hm) ?_
  assumption

theorem critAction_moves {m} {a s : State} (hm : Sub 0x200000000000000000e080000000000000000000000000000000000000010000000000000000000202000000100000fc800000000000006000000000000000000c000000000042f00004200000000000000000000000000000000000000000000000000059800000047840c m) (h : Moves m a s) : Moves m a (critAction s) := by
  unfold critAction
  extract_lets +onlyGivenNames v1
  clear_value v1
  extract_lets +onlyGivenNames s2
  have h3 : Moves m a s2 := by
    unfold s2
    refine profNow_moves hm.up ?_
    assumption
  clear_value s2
  extract_lets +onlyGivenNames v4
  clear_value v4
  refine Moves.ite (fun _ => ?_) (fun _ => ?_)
  · refine State.forL_moves ?_ ?_
    · refine State.logEv_moves hm.up ?_
      refine profThermal_moves hm.up ?_
      assumption
    · intro v5 s6 h7
      refine budgetShow_moves hm.up ?_
      assumption
  · refine State.forL_moves ?_ ?_
    · assumption
    · intro v8 s9 h10
      refine State.onIf_moves ?_ ?_
      · assumption
      · intro s11 h12
        refine chStopCmd_moves hm.up ?_
        assumption

theorem bistShutOff_moves {m} {a s : State} (hm : Sub 0x20000038000a000000e08000000000000000000000000000000018000001c00000000000000000000000000000000000000000000000000000000000000000000000000000000000000000000000000000000000000000000000000000000000000000000000000ffffffff m) (h : Moves m a s) : Moves m a (bistShutOff s) := by
  unfold bistShutOff
  refine Moves.ite (fun _ => ?_) (fun _ => ?_)
  · refine shutBistEnd_moves hm.up ?_
    assumption
  · refine Moves.ite (fun _ => ?_) (fun _ => ?_)
    · refine State.modPwr_moves hm.up ?_ ?_ ?_
      · refine State.put_moves (Can.of hm) ?_
        assumption
      · (intro p; rfl)
      · (intro p; rfl)
    · assumption

theorem thermalReading_moves {m} {a s : State} {x1} (hm : Sub 0x200000391a0a000000e08000000000000000000000000000000018000001c000000000000000000202000000100000fc800000000000006000000000000000000c000000000042f0000420000000000000000000000000000000000000000000000000005980000ffffffff m) (h : Moves m a s) : Moves m a (thermalReading s x1) := by
  unfold thermalReading
  extract_lets +onlyGivenNames s1
  have h2 : Moves m a s1 := by
    unfold s1
    refine State.onIf_moves ?_ ?_
    · refine State.put_moves (Can.of hm) ?_
      refine State.putS_moves hm.up (Can.of hm) ?_
      assumption
    · intro s3 h4
      refine State.putS_moves hm.up (Can.of hm) ?_
      assumption
  clear_value s1
  extract_lets +onlyGivenNames v5
  clear_value v5
  extract_lets +onlyGivenNames v6
  clear_value v6
  extract_lets +onlyGivenNames s7
  have h8 : Moves m a s7 := by
    unfold s7
    refine State.modPwr_moves hm.up ?_ ?_ ?_
    · assumption
    · (intro p; rfl)
    · (intro p; rfl)
  clear_value s7
  extract_lets +onlyGivenNames v9
  clear_value v9
  extract_lets +onlyGivenNames s10
  have h11 : Moves m a s10 := by
    unfold s10
    refine State.modPwr_moves hm.up ?_ ?_ ?_
    · refine State.onIf_moves ?_ ?_
      · assumption
      · intro s12 h13
        refine State.logEv_moves hm.up ?_
        assumption
    · (intro p; rfl)
    · (intro p; rfl)
  clear_value s10
  extract_lets +onlyGivenNames s14
  have h15 : Moves m a s14 := by
    unfold s14
    refine State.onIf_moves ?_ ?_
    · assumption
    · intro s16 h17
      refine State.logEv_moves hm.up ?_
      refine State.put_moves (Can.of hm) ?_
      assumption
  clear_value s14
  extract_lets +onlyGivenNames s18
  have h19 : Moves m a s18 := by
    unfold s18
    refine State.onIf_moves ?_ ?_
    · assumption
    · intro s20 h21
      refine State.logEv_moves hm.up ?_
      assumption
  clear_value s18
  extract_lets +onlyGivenNames s22
  have h23 : Moves m a s22 := by
    unfold s22
    refine State.onIf_moves ?_ ?_
    · assumption
    · intro s24 h25
      refine critAction_moves hm.up ?_
      refine State.raise_moves hm.up ?_
      assumption
  clear_value s22
  refine State.onIf_moves ?_ ?_
  · assumption
  · intro s26 h27
    refine bistShutOff_moves hm.up ?_
    refine State.raise_moves hm.up ?_
    assumption

theorem execThermalReading_moves {m} {a s : State} {x1} (hm : Sub 0x200000391a0a000000e08000000000000000000000000000000018000001c000000000000000000202000000100000fc800000000000006000000000000000000c000000000042f0000420000000000000000000000000000000000000000000000000005980000ffffffff m) (h : Moves m a s) : Ends m a (execThermalReading x1 s) := by
  unfold execThermalReading
  refine live_moves ?_ ?_
  · assumption
  · intro s1 h2
    refine thermalReading_moves hm.up ?_
    assumption

theorem execThmStale_moves {m} {a s : State} (hm : Sub 0x200000000800000000e0800000000000000000000000000000000000000100000000000000000000000000000000000000000000000000000000000000000000000000000000000000000000000000000000000000000000000000000000000000000000000000000400408 m) (h : Moves m a s) : Ends m a (execThmStale s) := by
  unfold execThmStale
  refine live_moves ?_ ?_
  · assumption
  · intro s1 h2
    refine State.onIf_moves ?_ ?_
    · assumption
    · intro s3 h4
      refine State.logEv_moves hm.up ?_
      refine State.put_moves (Can.of hm) ?_
      assumption

theorem execScvTdiodeRead_moves {m} {a s : State} {x1} (hm : Sub 0x20000038010a000000e08000000000000000000000000000000018000001c00000000000000000000000000000000000000000000000000000000000000000000000000000000000000000000000000000000000000000000000000000000000000000000000000ffffffff m) (h : Moves m a s) : Ends m a (execScvTdiodeRead x1 s) := by
  unfold execScvTdiodeRead
  refine live_moves ?_ ?_
  · assumption
  · intro s1 h2
    extract_lets +onlyGivenNames s3
    have h4 : Moves m a s3 := by
      unfold s3
      refine State.modBdg_moves hm.up ?_
      refine State.putS_moves hm.up (Can.of hm) ?_
      assumption
    clear_value s3
    extract_lets +onlyGivenNames v5
    clear_value v5
    extract_lets +onlyGivenNames v6
    clear_value v6
    extract_lets +onlyGivenNames s7
    have h8 : Moves m a s7 := by
      unfold s7
      refine State.modBdg_moves hm.up ?_
      assumption
    clear_value s7
    extract_lets +onlyGivenNames s9
    have h10 : Moves m a s9 := by
      unfold s9
      refine State.onIf_moves ?_ ?_
      · assumption
      · intro s11 h12
        refine State.raise_moves hm.up ?_
        assumption
    clear_value s9
    refine State.onIf_moves ?_ ?_
    · assumption
    · intro s13 h14
      refine bistShutOff_moves hm.up ?_
      refine State.raise_moves hm.up ?_
      assumption

theorem execThmTrim_moves {m} {a s : State} (hm : Sub 0x200000000400000000e0800000000000000000000000000000000000000100000000000000000000000000000000000000000000000000000000000000000000000000000000000000000000000000000000000000000000000000000000000000000000000000040400408 m) (h : Moves m a s) : Ends m a (execThmTrim s) := by
  unfold execThmTrim
  refine live_moves ?_ ?_
  · assumption
  · intro s1 h2
    refine Moves.ite (fun _ => ?_) (fun _ => ?_)
    · refine State.onIf_moves ?_ ?_
      · refine State.put_moves (Can.of hm) ?_
        assumption
      · intro s3 h4
        refine State.logEv_moves hm.up ?_
        assumption
    · split
      · refine State.modPwr_moves hm.up ?_ ?_ ?_
        · assumption
        · (intro p; rfl)
        · (intro p; rfl)
      · assumption

theorem opLcQuery_moves {m} {a s : State} (hm : Sub 0x0 m) (h : Moves m a s) : Moves m a (opLcQuery s).2 := by
  unfold opLcQuery
  refine opDone_moves hm.up ?_
  assumption

theorem opLcAdvance_moves {m} {a s : State} {x1} (hm : Sub 0x200000c00000000000e0800000000000000000000000000000000000000100000000000000000000000000000000000000000000000000000000000000000000000000000000000000000000000000000000000000000000000000000000000000000000000000040400408 m) (h : Moves m a s) :
    Moves m a (opLcAdvance s x1).2 := by
  have h1 : Moves m a (s.modPwr (fun p => { p with fuses := p.fuses ||| 2 ^ (x1.headD 0 - 1) })) := h.fuse hm.up
  simp only [opLcAdvance]
  repeat'
    first
    | exact h
    | exact State.logEv_moves hm.up (State.put_moves (Can.of hm) (State.put_moves (Can.of hm) h1))
    | split

theorem opKeyRevoke_moves {m} {a s : State} {x1} (hm : Sub 0x200040000000000000e0800000000000000000000000000000000000000100000000000000000000000000000000000000000000000000000000000000000000000000000000000000000000000000000000000000000000000000000000000000000000000000000400408 m) (h : Moves m a s) : Moves m a (opKeyRevoke s x1).2 := by
  unfold opKeyRevoke
  extract_lets +onlyGivenNames v1
  clear_value v1
  extract_lets +onlyGivenNames v2
  clear_value v2
  split
  · refine opDone_moves hm.up ?_
    assumption
  · split
    · refine opDone_moves hm.up ?_
      assumption
    · split
      · refine opDone_moves hm.up ?_
        assumption
      · refine opDone_moves hm.up ?_
        refine State.logEv_moves hm.up ?_
        refine State.putBit_moves hm.up (Can.of hm) ?_
        assumption

theorem epochAdvance_moves {m} {a s : State} (hm : Sub 0x200010000000000000e0800000000000000000000000000000000000000100000000000000000000000000000000000000000000000000000000000000000000000000000000000000000000000000000000000000000000000000000000000000000000000000040400408 m) (h : Moves m a s) :
    Moves m a (epochAdvance s) := by
  simp only [epochAdvance, State.onIf]
  split
  · rename_i e
    exact State.logEv_moves hm.up ((h.put _ _ _ _ (Can.of hm)).epoch hm.up
      (by simp only [decide_eq_true_eq] at e; exact Nat.le_of_lt e))
  · exact h

theorem keyProgram_moves {m} {a s : State} (hm : Sub 0x2000000000000000000000000000000000000000000000000000000000000000000000000000000000000000000000000000000000000000000000000000000000000000000000000000000000000000000000000000000000000000000000000000000000040000000 m) (h : Moves m a s) : Moves m a (keyProgram s) := by
  unfold keyProgram
  extract_lets +onlyGivenNames v1
  clear_value v1
  extract_lets +onlyGivenNames v2
  clear_value v2
  refine State.putBit_moves hm.up (Can.of hm) ?_
  refine State.modPwr_moves hm.up ?_ ?_ ?_
  · assumption
  · (intro p; rfl)
  · (intro p; rfl)

theorem execFwProgramDone_moves {m} {a s : State} {x1} (hm : Sub 0x200000000000000000e0800000000000000000000000000000000000000100000000000000000000000000000000000000000000000000000000000000000000000000000000000000000000000000000000000000000000000000000000000000000000000000040400718 m) (h : Moves m a s) : Ends m a (execFwProgramDone x1 s) := by
  unfold execFwProgramDone
  refine live_moves ?_ ?_
  · assumption
  · intro s1 h2
    split
    · assumption
    · extract_lets +onlyGivenNames s8
      have h9 : Moves m a s8 := by
        unfold s8
        refine State.modPwr_moves hm.up ?_ ?_ ?_
        · assumption
        · (intro p; rfl)
        · (intro p; rfl)
      clear_value s8
      refine Moves.ite (fun _ => ?_) (fun _ => ?_)
      · refine State.logEv_moves hm.up ?_
        refine State.putBytes_moves hm.up ?_
        assumption
      · refine State.logEv_moves hm.up ?_
        assumption

theorem opBistReport_moves {m} {a s : State} (hm : Sub 0x0 m) (h : Moves m a s) : Moves m a (opBistReport s).2 := by
  unfold opBistReport
  extract_lets +onlyGivenNames v1
  clear_value v1
  refine opDone_moves hm.up ?_
  assumption

theorem opSelftestRun_moves {m} {a s : State} {x1} (hm : Sub 0x200000080000000000e08000000000000000000000000000000000000001000000000000000000020000000000000000000000000000000000000000000000000c000040000000f000000000000000000000000000000000000000000000000000000000000000040448408 m) (h : Moves m a s) : Moves m a (opSelftestRun s x1).2 := by
  unfold opSelftestRun
  split
  · refine opDone_moves hm.up ?_
    assumption
  · extract_lets +onlyGivenNames v3
    clear_value v3
    extract_lets +onlyGivenNames s4
    have h5 : Moves m a s4 := by
      unfold s4
      refine State.put_moves (Can.of hm) ?_
      refine State.modPwr_moves hm.up ?_ ?_ ?_
      · assumption
      · (intro p; rfl)
      · (intro p; rfl)
    clear_value s4
    refine opDone_moves hm.up ?_
    refine State.gateHold_moves hm.up (Can.of hm) ?_
    assumption

theorem lockPut_moves {m} {a s : State} {x1 x2} (hm : Sub 0x1f8000000000000000 m) (h : Moves m a s) : Moves m a (lockPut s x1 x2) := by
  unfold lockPut
  split
  · refine State.putB_moves hm.up (Can.of hm) ?_
    assumption
  · refine State.putB_moves hm.up (Can.of hm) ?_
    assumption
  · refine State.putB_moves hm.up (Can.of hm) ?_
    assumption
  · refine State.putB_moves hm.up (Can.of hm) ?_
    assumption
  · refine State.putB_moves hm.up (Can.of hm) ?_
    assumption
  · refine State.putB_moves hm.up (Can.of hm) ?_
    assumption
  · assumption
  · assumption

theorem execClockLoss_moves {m} {a s : State} {x1} (hm : Sub 0x1f8000000000080800 m) (h : Moves m a s) : Ends m a (execClockLoss x1 s) := by
  unfold execClockLoss
  refine live_moves ?_ ?_
  · assumption
  · intro s1 h2
    refine State.onIf_moves ?_ ?_
    · assumption
    · intro s3 h4
      refine State.raise_moves hm.up ?_
      refine lockPut_moves hm.up ?_
      refine State.modBdg_moves hm.up ?_
      assumption

theorem execClockReturn_moves {m} {a s : State} {x1} (hm : Sub 0x20000000000000000000000000000000000000000000000000000000000000000000000000000000000000000000000000000000000000000000000000001f8000000000080000 m) (h : Moves m a s) : Ends m a (execClockReturn x1 s) := by
  unfold execClockReturn
  refine live_moves ?_ ?_
  · assumption
  · intro s1 h2
    refine State.onIf_moves ?_ ?_
    · assumption
    · intro s3 h4
      extract_lets +onlyGivenNames s5
      have h6 : Moves m a s5 := by
        unfold s5
        refine State.modBdg_moves hm.up ?_
        assumption
      clear_value s5
      refine faultNShow_moves hm.up ?_
      refine lockPut_moves hm.up ?_
      assumption

theorem execXinLoss_moves {m} {a s : State} (hm : Sub 0x4000000000080800 m) (h : Moves m a s) : Ends m a (execXinLoss s) := by
  unfold execXinLoss
  refine live_moves ?_ ?_
  · assumption
  · intro s1 h2
    refine State.raise_moves hm.up ?_
    refine State.modBdg_moves hm.up ?_
    refine State.put_moves (Can.of hm) ?_
    assumption

theorem execCkwSwitch_moves {m} {a s : State} (hm : Sub 0x200000000000000000e0800000000000000000000000000000000000000100000000000000000000000000000000000000000000000000000000000000000000000000000000000000000000000000000000000000000000000000000000000000000002000000000400408 m) (h : Moves m a s) : Ends m a (execCkwSwitch s) := by
  unfold execCkwSwitch
  refine live_moves ?_ ?_
  · assumption
  · intro s1 h2
    refine State.logEv_moves hm.up ?_
    refine State.put_moves (Can.of hm) ?_
    assumption

theorem execPhaseMeasure_moves {m} {a s : State} {x1} (hm : Sub 0x210000000000000000e0800000000000000000000000000000000000000100000000000000000000000000000000000000000000000000000000000000000000000000000000000000000000000000000000000000000000000000000000000000000000800000000400408 m) (h : Moves m a s) : Ends m a (execPhaseMeasure x1 s) := by
  unfold execPhaseMeasure
  refine live_moves ?_ ?_
  · assumption
  · intro s1 h2
    extract_lets +onlyGivenNames v3
    clear_value v3
    refine State.onIf_moves ?_ ?_
    · assumption
    · intro s4 h5
      refine State.logEv_moves hm.up ?_
      refine State.put_moves (Can.of hm) ?_
      refine State.put_moves (Can.of hm) ?_
      assumption

theorem profRequest_moves {m} {a s : State} {x1} (hm : Sub 0x200000000000000000e0800000000000000000000000000000000000000100000000000000000000000000000000000000000000000000000000000000000000000000000000000000000000000000000000000000000000000000000000000000000000280000040400408 m) (h : Moves m a s) : Moves m a (profRequest s x1).2 := by
  unfold profRequest
  split
  · dsimp -zeta only
    refine State.logEv_moves hm.up ?_
    assumption
  · split
    · dsimp -zeta only
      refine State.put_moves (Can.of hm) ?_
      assumption
    · split
      · dsimp -zeta only
        assumption
      · dsimp -zeta only
        refine State.modPwr_moves hm.up ?_ ?_ ?_
        · refine State.put_moves (Can.of hm) ?_
          refine State.put_moves (Can.of hm) ?_
          assumption
        · (intro p; rfl)
        · (intro p; rfl)

/-! ### Replay -/

theorem modReplay_moves {m} {a s : State} {x1} (hm : Sub 0x400000 m) (h : Moves m a s) : Moves m a (modReplay s x1) := by
  unfold modReplay
  refine Moves.owl (s := s) hm.up ?_
  assumption

theorem endReplay_moves {m} {a s : State} {x1} (hm : Sub 0x200000000000000030e080000000000000000000000000000000000000010000000000000000000200000000100000fc000000000000006000000000000000000c000080000000f000000000000000000000000000000000000000000000000000000000000000000478408 m) (h : Moves m a s) : Moves m a (endReplay s x1) := by
  unfold endReplay
  split
  · assumption
  · extract_lets +onlyGivenNames s6
    clear_value s6
    extract_lets +onlyGivenNames s7
    have h8 : Moves m a s7 := by
      unfold s7
      refine Moves.owl (s := s) hm.up ?_
      assumption
    clear_value s7
    extract_lets +onlyGivenNames s9
    have h10 : Moves m a s9 := by
      unfold s9
      refine State.forL_moves ?_ ?_
      · assumption
      · intro v11 s12 h13
        refine State.onIf_moves ?_ ?_
        · assumption
        · intro s14 h15
          refine setState_moves hm.up ?_
          assumption
    clear_value s9
    extract_lets +onlyGivenNames s16
    have h17 : Moves m a s16 := by
      unfold s16
      refine State.gateEnd_moves hm.up (Can.of hm) ?_
      assumption
    clear_value s16
    extract_lets +onlyGivenNames s18
    have h19 : Moves m a s18 := by
      unfold s18
      refine State.put_moves (Can.of hm) ?_
      refine State.put_moves (Can.of hm) ?_
      refine State.put_moves (Can.of hm) ?_
      assumption
    clear_value s18
    refine State.logEv_moves hm.up ?_
    assumption

theorem diverge_moves {m} {a s : State} {x1 x2 x3 x4} (hm : Sub 0x2000000000000007f0e080000000000000000000000000000000000000010000000000000000000200000000100000fc000000000000006000000000000000000c000080000000f000000000000000000000000000000000000000000000000000000000000000000478408 m) (h : Moves m a s) : Moves m a (diverge s x1 x2 x3 x4) := by
  unfold diverge
  split
  · assumption
  · extract_lets +onlyGivenNames v6
    clear_value v6
    extract_lets +onlyGivenNames s7
    have h8 : Moves m a s7 := by
      unfold s7
      refine State.incSat_moves hm.up (Can.of hm) ?_
      assumption
    clear_value s7
    extract_lets +onlyGivenNames s9
    have h10 : Moves m a s9 := by
      unfold s9
      refine State.onIf_moves ?_ ?_
      · assumption
      · intro s11 h12
        refine State.logEv_moves hm.up ?_
        refine State.put_moves (Can.of hm) ?_
        refine State.put_moves (Can.of hm) ?_
        refine State.put_moves (Can.of hm) ?_
        refine State.put_moves (Can.of hm) ?_
        assumption
    clear_value s9
    refine Moves.ite (fun _ => ?_) (fun _ => ?_)
    · refine endReplay_moves hm.up ?_
      assumption
    · assumption

theorem replayNo_moves {m} {a s : State} {x1 x2} (hm : Sub 0x2000000000000007f0e080000000000000000000000000000000000000010000000000000000000200000000100000fc000000000000006000000000000000000c000080000000f000000000000000000000000000000000000000000000000000000000000000000478408 m) (h : Moves m a s) : Moves m a (replayNo s x1 x2) := by
  unfold replayNo
  split
  · assumption
  · split
    · refine diverge_moves hm.up ?_
      assumption
    · refine Moves.ite (fun _ => ?_) (fun _ => ?_)
      · assumption
      · refine diverge_moves hm.up ?_
        assumption

theorem replayCompare_moves {m} {a s : State} {x1 x2 x3} (hm : Sub 0x2000000000000007f0e080000000000000000000000000000000000000010000000000000000000200000000100000fc000000000000006000000000000000000c000080000000f000000000000000000000000000000000000000000000000000000000000000000478408 m) (h : Moves m a s) : Moves m a (replayCompare s x1 x2 x3) := by
  unfold replayCompare
  split
  · assumption
  · extract_lets +onlyGivenNames v6
    clear_value v6
    extract_lets +onlyGivenNames s7
    have h8 : Moves m a s7 := by
      unfold s7
      refine modReplay_moves hm.up ?_
      assumption
    clear_value s7
    split
    · refine diverge_moves hm.up ?_
      assumption
    · extract_lets +onlyGivenNames v15
      clear_value v15
      refine Moves.ite (fun _ => ?_) (fun _ => ?_)
      · refine diverge_moves hm.up ?_
        assumption
      · refine Moves.ite (fun _ => ?_) (fun _ => ?_)
        · refine diverge_moves hm.up ?_
          assumption
        · assumption

theorem replayClose_moves {m} {a s : State} {x1} (hm : Sub 0x2000000000000007f0e080000000000000000000000000000000000000010000000000000000000200000000100000fc000000000000006000000000000000000c000080000000f000000000000000000000000000000000000000000000000000000000000000000478408 m) (h : Moves m a s) : Moves m a (replayClose s x1) := by
  unfold replayClose
  split
  · assumption
  · refine Moves.ite (fun _ => ?_) (fun _ => ?_)
    · refine modReplay_moves hm.up ?_
      assumption
    · split
      · refine diverge_moves hm.up ?_
        assumption
      · assumption

theorem snapAdopt_moves {m} {a s : State} {x1 x2} (hm : Sub 0x202000000000000000e080000000000000000000000000000000000000010000000000000000000200000000100000fc35800000000000600000000c000206004c000000000000f000000000000000000000060e0000000000000000000000000000000000000000047c748 m) (h : Moves m a s) : Moves m a (snapAdopt s x1 x2) := by
  unfold snapAdopt
  extract_lets +onlyGivenNames v1
  clear_value v1
  extract_lets +onlyGivenNames v2
  clear_value v2
  extract_lets +onlyGivenNames v3
  clear_value v3
  extract_lets +onlyGivenNames s4
  have h5 : Moves m a s4 := by
    unfold s4
    refine Moves.ite (fun _ => ?_) (fun _ => ?_)
    · refine enterRun_moves hm.up ?_
      assumption
    · refine setState_moves hm.up ?_
      assumption
  clear_value s4
  extract_lets +onlyGivenNames s6
  have h7 : Moves m a s6 := by
    unfold s6
    refine Moves.ite (fun _ => ?_) (fun _ => ?_)
    · refine State.put_moves (Can.of hm) ?_
      refine setState_moves hm.up ?_
      assumption
    · assumption
  clear_value s6
  extract_lets +onlyGivenNames v8
  clear_value v8
  extract_lets +onlyGivenNames s9
  have h10 : Moves m a s9 := by
    unfold s9
    refine State.put_moves (Can.of hm) ?_
    refine State.put_moves (Can.of hm) ?_
    refine State.put_moves (Can.of hm) ?_
    assumption
  clear_value s9
  extract_lets +onlyGivenNames s11
  have h12 : Moves m a s11 := by
    unfold s11
    refine State.put_moves (Can.of hm) ?_
    refine adoptBytes_moves hm.up ?_
    assumption
  clear_value s11
  extract_lets +onlyGivenNames s13
  have h14 : Moves m a s13 := by
    unfold s13
    refine State.modSp_moves hm.up ?_
    assumption
  clear_value s13
  refine State.modCarr_moves hm.up ?_
  assumption

theorem toChuckAs_moves {m} {a s : State} {x1 x2 x3} (hm : Sub 0x100000 m) (h : Moves m a s) : Moves m a (toChuckAs s x1 x2 x3) := by
  unfold toChuckAs
  refine Moves.chuck (s := s) hm.up ?_
  assumption

theorem toChuck_moves {m} {a s : State} {x1 x2} (hm : Sub 0x100000 m) (h : Moves m a s) : Moves m a (toChuck s x1 x2) := by
  unfold toChuck
  refine toChuckAs_moves hm.up ?_
  assumption

theorem replayDeliver_moves {m} {a s : State} {x1 x2 x3} (hm : Sub 0x2500000 m) (h : Moves m a s) : Moves m a (replayDeliver s x1 x2 x3) := by
  unfold replayDeliver
  extract_lets +onlyGivenNames v1
  clear_value v1
  extract_lets +onlyGivenNames v2
  clear_value v2
  extract_lets +onlyGivenNames v3
  have h4 : ∀ y1 y2, Moves m a (v3 y1 y2) := by
    intro y1 y2 
    unfold v3
    refine toChuckAs_moves hm.up ?_
    assumption
  clear_value v3
  split
  · extract_lets +onlyGivenNames v7
    clear_value v7
    extract_lets +onlyGivenNames v8
    clear_value v8
    apply h4
  · apply h4
  · apply h4
  · apply h4
  · extract_lets +onlyGivenNames v17
    clear_value v17
    refine Moves.net (s := s) hm.up ?_
    assumption
  · apply h4
  · refine modReplay_moves hm.up ?_
    assumption
  · assumption

theorem replaySeek_moves {m} {a s : State} {l} (hm : Sub 0x202000000000000000e080000000000000000000000000000000000000010000000000000000000200000000100000fc35800000000000600000000c000206004c000000000000f000000000000000000000060e0000000000000000000000000000000000000000047c748 m) (h : Moves m a s) :
    Moves m a (replaySeek l s).1 := by
  induction l generalizing s with
  | nil => exact h
  | cons x l ih =>
    obtain ⟨i, w⟩ := x
    simp only [replaySeek]
    split
    · exact h
    · have h1 : Moves m a (modReplay s (fun r => { r with pos := i })) := modReplay_moves hm.up h
      split
      · exact h1
      have h2 := State.onIf_moves (c := wType w == 0x01) h1 (fun t (h : Moves m a t) =>
        modReplay_moves (x1 := fun r => { r with recTs := hdrTsAt t i }) hm.up h)
      split
      · exact h2
      · exact ih (modReplay_moves hm.up (State.onIf_moves (State.onIf_moves h2 (fun _ h => snapAdopt_moves hm.up
          (modReplay_moves hm.up h))) (fun _ h => modReplay_moves hm.up h)))

theorem replayNext_moves {m} {a s : State} (hm : Sub 0x202000000000000000e080000000000000000000000000000000000000010000000000000000000200000000100000fc35800000000000600000000c000206004c000000000000f000000000000000000000060e0000000000000000000000000000000000000000047c748 m) (h : Moves m a s) : Moves m a (replayNext s).1 := by
  unfold replayNext
  split
  · dsimp -zeta only
    assumption
  · refine replaySeek_moves hm.up ?_
    assumption

theorem replayBegin_moves {m} {a s : State} {x1 x2} (hm : Sub 0x200000000000000070e08000000000000000000000000000000000000001000000000000000000020000000000000000000000000000000000000000000000000c000080000000f000000000000000000000000000000000000000000000000000000000000000000448408 m) (h : Moves m a s) : Moves m a (replayBegin s x1 x2).2 := by
  unfold replayBegin
  extract_lets +onlyGivenNames v1
  clear_value v1
  split
  · dsimp -zeta only
    assumption
  · extract_lets +onlyGivenNames v4
    clear_value v4
    extract_lets +onlyGivenNames s5
    have h6 : Moves m a s5 := by
      unfold s5
      refine State.put_moves (Can.of hm) ?_
      refine State.put_moves (Can.of hm) ?_
      assumption
    clear_value s5
    split
    · dsimp -zeta only
      refine State.logEv_moves hm.up ?_
      refine State.put_moves (Can.of hm) ?_
      assumption
    · extract_lets +onlyGivenNames v9
      clear_value v9
      extract_lets +onlyGivenNames v10
      clear_value v10
      extract_lets +onlyGivenNames v11
      clear_value v11
      extract_lets +onlyGivenNames v12
      clear_value v12
      extract_lets +onlyGivenNames s13
      clear_value s13
      extract_lets +onlyGivenNames s14
      have h15 : Moves m a s14 := by
        unfold s14
        refine Moves.owl (s := s5) hm.up ?_
        assumption
      clear_value s14
      extract_lets +onlyGivenNames s16
      have h17 : Moves m a s16 := by
        unfold s16
        refine State.put_moves (Can.of hm) ?_
        refine State.put_moves (Can.of hm) ?_
        assumption
      clear_value s16
      dsimp -zeta only
      refine State.gateHold_moves hm.up (Can.of hm) ?_
      assumption

theorem replayCoreRead_moves {m} {a s : State} {x1 x2} (hm : Sub 0x2000000000000007f0e080000000000000000000000000000000000000010000000000000000000200000000100000fc000000000000006000000000000000000c000080000000f000000000000000000000000000000000000000000000000000000000000000000478408 m) (h : Moves m a s) : Moves m a (replayCoreRead s x1 x2).1 := by
  unfold replayCoreRead
  split
  · dsimp -zeta only
    assumption
  · split
    · dsimp -zeta only
      assumption
    · split
      · dsimp -zeta only
        assumption
      · extract_lets +onlyGivenNames v13
        clear_value v13
        extract_lets +onlyGivenNames s14
        have h15 : Moves m a s14 := by
          unfold s14
          refine modReplay_moves hm.up ?_
          assumption
        clear_value s14
        dsimp -zeta only
        refine Moves.ite (fun _ => ?_) (fun _ => ?_)
        · assumption
        · refine diverge_moves hm.up ?_
          assumption

theorem replayReads_moves {m} {a s : State} {x1} (hm : Sub 0x200000000000000000e0800000000000000000000000000000000000000100000000000000000000000000000000000000000000000000000000000000000000000000000000000000000000000000000000000000000000000000000000000003e00000000000000400f0c m) (h : Moves m a s) : Moves m a (replayReads s x1) := by
  unfold replayReads
  split
  · assumption
  · refine eccReads_moves hm.up ?_
    assumption

theorem execReplayInput_moves {m} {a s : State} {x1} (hm : Sub 0x202000000000000000e080000000000000000000000000000000000000010000000000000000000200000000100000fc35800000000000600000000c000206004c000000000000f000000000000000000000060e00000000000000000000000003e0000000000000257cf4c m) (h : Moves m a s) : Ends m a (execReplayInput x1 s) := by
  unfold execReplayInput
  refine live_moves ?_ ?_
  · assumption
  · intro s1 h2
    extract_lets +onlyGivenNames s3
    have h4 : Moves m a s3 := by
      unfold s3
      refine replayReads_moves hm.up ?_
      assumption
    clear_value s3
    extract_lets +onlyGivenNames v5
    have h6 : Moves m a v5.1 := by
      unfold v5
      refine replayNext_moves hm.up ?_
      assumption
    clear_value v5
    split
    · refine Moves.ite (fun _ => ?_) (fun _ => ?_)
      · assumption
      · refine Moves.ite (fun _ => ?_) (fun _ => ?_)
        · assumption
        · extract_lets +onlyGivenNames s14
          have h15 : Moves m a s14 := by
            unfold s14
            refine replayDeliver_moves hm.up ?_
            assumption
          clear_value s14
          refine modReplay_moves hm.up ?_
          assumption
    · assumption

theorem execReplayEnd_moves {m} {a s : State} (hm : Sub 0x2020000000000007f0e080000000000000000000000000000000000000010000000000000000000200000000100000fc35800000000000600000000c000206004c000080000000f000000000000000000000060e0000000000000000000000000000000000000000047c748 m) (h : Moves m a s) : Ends m a (execReplayEnd s) := by
  unfold execReplayEnd
  refine live_moves ?_ ?_
  · assumption
  · intro s1 h2
    refine Moves.ite (fun _ => ?_) (fun _ => ?_)
    · assumption
    · extract_lets +onlyGivenNames v3
      have h4 : Moves m a v3.1 := by
        unfold v3
        refine replayNext_moves hm.up ?_
        assumption
      clear_value v3
      split
      · extract_lets +onlyGivenNames s7
        have h8 : Moves m a s7 := by
          unfold s7
          refine State.forL_moves ?_ ?_
          · assumption
          · intro v9 s10 h11
            refine replayClose_moves hm.up ?_
            assumption
        clear_value s7
        refine endReplay_moves hm.up ?_
        assumption
      · refine Moves.ite (fun _ => ?_) (fun _ => ?_)
        · assumption
        · split
          · assumption
          · extract_lets +onlyGivenNames s21
            have h22 : Moves m a s21 := by
              unfold s21
              refine Moves.ite (fun _ => ?_) (fun _ => ?_)
              · refine State.forL_moves ?_ ?_
                · assumption
                · intro v23 s24 h25
                  refine replayClose_moves hm.up ?_
                  assumption
              · assumption
            clear_value s21
            refine endReplay_moves hm.up ?_
            assumption

/-! ### Period -/

theorem slackShow_moves {m} {a s : State} {x1 x2} (hm : Sub 0x200000000000000000e0800000000000000000000000000000000000000100000000000000000000000000000000000000000000000000000000000000000000000000000000000000000000000000000000000000000000000000000000000000000000060000000400408 m) (h : Moves m a s) : Moves m a (slackShow s x1 x2) := by
  unfold slackShow
  extract_lets +onlyGivenNames s1
  have h2 : Moves m a s1 := by
    unfold s1
    refine State.put_moves (Can.of hm) ?_
    assumption
  clear_value s1
  extract_lets +onlyGivenNames s3
  have h4 : Moves m a s3 := by
    unfold s3
    refine State.put_moves (Can.of hm) ?_
    assumption
  clear_value s3
  refine State.onIf_moves ?_ ?_
  · assumption
  · intro s5 h6
    refine State.logEv_moves hm.up ?_
    assumption

theorem commitRecords_moves {m} {a s : State} {x1 x2 x3} (hm : Sub 0x20000000000000000020000000000000000000000000000000000000000100000000000000000000000000000000000000000000000000000000000000000000000000000000000000000000000000000000000000000000000000000000000000000000000000000c00408 m) (h : Moves m a s) : Moves m a (commitRecords s x1 x2 x3) := by
  unfold commitRecords
  extract_lets +onlyGivenNames s1
  have h2 : Moves m a s1 := by
    unfold s1
    refine State.owlRec_moves hm.up ?_
    assumption
  clear_value s1
  extract_lets +onlyGivenNames v3
  clear_value v3
  extract_lets +onlyGivenNames s4
  have h5 : Moves m a s4 := by
    unfold s4
    refine State.onIf_moves ?_ ?_
    · assumption
    · intro s6 h7
      refine snapshot_moves hm.up ?_
      refine Moves.owl (s := s6) hm.up ?_
      assumption
  clear_value s4
  refine State.onIf_moves ?_ ?_
  · assumption
  · intro s8 h9
    refine putFrame_moves hm.up ?_
    assumption

theorem commitIn_moves {m} {a s : State} {x1 x2} (hm : Sub 0x2000000000000007f0e080000000000000000000000000000000000000010000000000000000000200000000100000fc000000000000006000000000000000000c000080000042f000042000000000000000000000000000000000000000000000000000064800000c78408 m) (h : Moves m a s) : Moves m a (commitIn s x1 x2) := by
  unfold commitIn
  extract_lets +onlyGivenNames v1
  clear_value v1
  refine Moves.ite (fun _ => ?_) (fun _ => ?_)
  · assumption
  · extract_lets +onlyGivenNames s2
    have h3 : Moves m a s2 := by
      unfold s2
      refine State.modChan_moves hm.up ?_
      assumption
    clear_value s2
    extract_lets +onlyGivenNames v4
    clear_value v4
    extract_lets +onlyGivenNames v5
    clear_value v5
    extract_lets +onlyGivenNames s6
    have h7 : Moves m a s6 := by
      unfold s6
      refine offerCommit_moves hm.up ?_
      assumption
    clear_value s6
    extract_lets +onlyGivenNames s8
    have h9 : Moves m a s8 := by
      unfold s8
      refine State.onIf_moves ?_ ?_
      · assumption
      · intro s10 h11
        refine State.put_moves (Can.of hm) ?_
        assumption
    clear_value s8
    extract_lets +onlyGivenNames s12
    have h13 : Moves m a s12 := by
      unfold s12
      refine State.onIf_moves ?_ ?_
      · assumption
      · intro s14 h15
        refine State.modChan_moves hm.up ?_
        refine State.put_moves (Can.of hm) ?_
        assumption
    clear_value s12
    extract_lets +onlyGivenNames s16
    have h17 : Moves m a s16 := by
      unfold s16
      refine State.onIf_moves ?_ ?_
      · assumption
      · intro s18 h19
        refine slackShow_moves hm.up ?_
        assumption
    clear_value s16
    refine replayCompare_moves hm.up ?_
    refine commitRecords_moves hm.up ?_
    assumption

theorem commitArrival_moves {m} {a s : State} {x1} (hm : Sub 0x2000000000000007f0e080000000000000000000000000000000000000010000000000000000000200000000100000fc000000000000006000000000000000000c000080000042f000042000000000000000000000000000000000000000000000000000064800000c78408 m) (h : Moves m a s) : Moves m a (commitArrival s x1) := by
  unfold commitArrival
  split
  · assumption
  · extract_lets +onlyGivenNames s6
    have h7 : Moves m a s6 := by
      unfold s6
      refine State.modSp_moves hm.up ?_
      assumption
    clear_value s6
    refine Moves.ite (fun _ => ?_) (fun _ => ?_)
    · assumption
    · refine commitIn_moves hm.up ?_
      assumption

theorem badgerMiss_moves {m} {a s : State} {x1} (hm : Sub 0x10800 m) (h : Moves m a s) : Moves m a (badgerMiss s x1) := by
  unfold badgerMiss
  extract_lets +onlyGivenNames v1
  clear_value v1
  extract_lets +onlyGivenNames s2
  have h3 : Moves m a s2 := by
    unfold s2
    refine State.modChan_moves hm.up ?_
    assumption
  clear_value s2
  refine State.onIf_moves ?_ ?_
  · assumption
  · intro s4 h5
    refine State.raise_moves hm.up ?_
    assumption

theorem deadlineMiss_moves {m} {a s : State} {x1} (hm : Sub 0x2000000000000007f0e080000000000000000000000000000000000000010000010080000000000202000000100100fd800000000000006000000000000000000c000080000000f000040000000000000000000000000000000000000000000000000000007400000c78c08 m) (h : Moves m a s) : Moves m a (deadlineMiss s x1) := by
  unfold deadlineMiss
  extract_lets +onlyGivenNames s1
  have h2 : Moves m a s1 := by
    unfold s1
    refine State.put_moves (Can.of hm) ?_
    refine State.logEv_moves hm.up ?_
    assumption
  clear_value s1
  extract_lets +onlyGivenNames s3
  have h4 : Moves m a s3 := by
    unfold s3
    refine State.incSat_moves hm.up (Can.of hm) ?_
    refine State.put_moves (Can.of hm) ?_
    refine State.incSat_moves hm.up (Can.of hm) ?_
    assumption
  clear_value s3
  extract_lets +onlyGivenNames s5
  have h6 : Moves m a s5 := by
    unfold s5
    refine replayNo_moves hm.up ?_
    refine State.owlRec_moves hm.up ?_
    refine State.owlTrig_moves hm.up ?_
    refine State.irq_moves hm.up ?_
    assumption
  clear_value s5
  extract_lets +onlyGivenNames s7
  have h8 : Moves m a s7 := by
    unfold s7
    refine badgerMiss_moves hm.up ?_
    assumption
  clear_value s7
  refine State.onIf_moves ?_ ?_
  · assumption
  · intro s9 h10
    refine safeRequest_moves hm.up ?_
    assumption

theorem commitDeadline_moves {m} {a s : State} {x1} (hm : Sub 0x2000000000000007f0e080000000000000000000000000000000000000010000010080000000000202000000100100fd800000000000006000000000000000000c000080000000f000040000000000000000000000000000000000000000000000000000007400000c78c08 m) (h : Moves m a s) : Moves m a (commitDeadline s x1) := by
  unfold commitDeadline
  extract_lets +onlyGivenNames v1
  clear_value v1
  refine Moves.ite (fun _ => ?_) (fun _ => ?_)
  · assumption
  · extract_lets +onlyGivenNames v2
    clear_value v2
    extract_lets +onlyGivenNames s3
    have h4 : Moves m a s3 := by
      unfold s3
      refine State.modCarr_moves hm.up ?_
      assumption
    clear_value s3
    refine Moves.ite (fun _ => ?_) (fun _ => ?_)
    · assumption
    · refine Moves.ite (fun _ => ?_) (fun _ => ?_)
      · refine State.modChan_moves hm.up ?_
        refine State.put_moves (Can.of hm) ?_
        assumption
      · refine Moves.ite (fun _ => ?_) (fun _ => ?_)
        · refine replayNo_moves hm.up ?_
          refine State.owlRec_moves hm.up ?_
          refine State.put_moves (Can.of hm) ?_
          assumption
        · refine deadlineMiss_moves hm.up ?_
          assumption

theorem armNext_moves {m} {a s : State} {x1} (hm : Sub 0x200000000000000000e08000000000000000000000000000000000000001000000000000000000000000000000000000000000000000000000000000000000000000000000000000000000000000000000000000000000000003700006003b0000000000000000000406c08 m) (h : Moves m a s) : Moves m a (armNext s x1) := by
  unfold armNext
  refine Moves.ite (fun _ => ?_) (fun _ => ?_)
  · assumption
  · extract_lets +onlyGivenNames v1
    clear_value v1
    extract_lets +onlyGivenNames v2
    have h3 : ∀ y1 y2 y3, Moves m a y3 → Moves m a (v2 y1 y2 y3) := by
      intro y1 y2 y3 h4
      unfold v2
      split
      · refine seqArm_moves hm.up ?_
        assumption
      · assumption
    clear_value v2
    split
    · refine serArm_moves hm.up ?_
      apply h3
      apply h3
      refine seqArm_moves hm.up ?_
      assumption
    · apply h3
      assumption

theorem settReload_moves {m} {a s : State} {x1} (hm : Sub 0x4000000 m) (h : Moves m a s) : Moves m a (settReload s x1) := by
  unfold settReload
  refine State.forL_moves ?_ ?_
  · assumption
  · intro v1 s2 h3
    extract_lets +onlyGivenNames v4
    have h5 : ∀ y1, Moves m a (v4 y1) := by
      intro y1 
      unfold v4
      refine Moves.setts (s := s2) hm.up ?_
      assumption
    clear_value v4
    refine Moves.ite (fun _ => ?_) (fun _ => ?_)
    · apply h5
    · refine Moves.ite (fun _ => ?_) (fun _ => ?_)
      · assumption
      · refine Moves.ite (fun _ => ?_) (fun _ => ?_)
        · apply h5
        · apply h5

theorem reloadTrig_moves {m} {a s : State} {x1} (hm : Sub 0x200000000000000000e08000000000000000000000000000000000000001000000000000000000000000000000000000000000000000000000000000000000000000000000000000000000000000000000000000000000000003700006003b0000000000000000004406c08 m) (h : Moves m a s) : Moves m a (reloadTrig s x1) := by
  unfold reloadTrig
  extract_lets +onlyGivenNames v1
  clear_value v1
  extract_lets +onlyGivenNames v2
  clear_value v2
  extract_lets +onlyGivenNames v3
  clear_value v3
  extract_lets +onlyGivenNames s4
  have h5 : Moves m a s4 := by
    unfold s4
    refine settReload_moves hm.up ?_
    refine timerAlign_moves hm.up ?_
    assumption
  clear_value s4
  extract_lets +onlyGivenNames s6
  have h7 : Moves m a s6 := by
    unfold s6
    refine serReload_moves hm.up ?_
    refine seqCarrier_moves hm.up ?_
    assumption
  clear_value s6
  refine State.onIf_moves ?_ ?_
  · assumption
  · intro s8 h9
    refine serCot_moves hm.up ?_
    refine seqCotZero_moves hm.up ?_
    assumption

theorem ocCount_moves {m} {a s : State} {x1} (hm : Sub 0x200000000000000000e0800000000000000000000000000000000000000100000100800000000002020000001e0100fd800000000000006000000000000000000c000000000000f000040000000000000000000000000000000000000000000000000000000000000c78c08 m) (h : Moves m a s) : Moves m a (ocCount s x1) := by
  unfold ocCount
  extract_lets +onlyGivenNames v1
  clear_value v1
  extract_lets +onlyGivenNames v2
  clear_value v2
  extract_lets +onlyGivenNames s3
  have h4 : Moves m a s3 := by
    unfold s3
    refine State.putB_moves hm.up (Can.of hm) ?_
    refine State.modChan_moves hm.up ?_
    assumption
  clear_value s3
  refine Moves.ite (fun _ => ?_) (fun _ => ?_)
  · refine State.put_moves (Can.of hm) ?_
    assumption
  · refine Moves.ite (fun _ => ?_) (fun _ => ?_)
    · refine State.put_moves (Can.of hm) ?_
      assumption
    · extract_lets +onlyGivenNames s5
      have h6 : Moves m a s5 := by
        unfold s5
        refine State.incSat_moves hm.up (Can.of hm) ?_
        refine State.incSat_moves hm.up (Can.of hm) ?_
        assumption
      clear_value s5
      extract_lets +onlyGivenNames v7
      clear_value v7
      refine State.onIf_moves ?_ ?_
      · assumption
      · intro s8 h9
        refine safeRequest_moves hm.up ?_
        refine State.raise_moves hm.up ?_
        refine State.put_moves (Can.of hm) ?_
        refine State.logEv_moves hm.up ?_
        assumption

theorem alignCarrier_moves {m} {a s : State} {x1} (hm : Sub 0x8004 m) (h : Moves m a s) : Moves m a (alignCarrier s x1) := by
  unfold alignCarrier
  refine Moves.ite (fun _ => ?_) (fun _ => ?_)
  · assumption
  · extract_lets +onlyGivenNames v1
    clear_value v1
    refine State.freeNext_moves hm.up ?_
    refine State.modCarr_moves hm.up ?_
    assumption

theorem stopEnd_moves {m} {a s : State} {x1 x2} (hm : Sub 0x200000000000000000e080000000000000000000000000000000000000010000010080000000000202000000100100fd800000000000006000000000000000000c000000000000f000000000000000000000000000000000000000000000000000000000000000000c78408 m) (h : Moves m a s) : Moves m a (stopEnd s x1 x2) := by
  unfold stopEnd
  refine Moves.ite (fun _ => ?_) (fun _ => ?_)
  · refine State.modChan_moves hm.up ?_
    refine setState_moves hm.up ?_
    assumption
  · refine Moves.ite (fun _ => ?_) (fun _ => ?_)
    · assumption
    · refine Moves.ite (fun _ => ?_) (fun _ => ?_)
      · extract_lets +onlyGivenNames s1
        have h2 : Moves m a s1 := by
          unfold s1
          refine selUpdate_moves hm.up ?_
          assumption
        clear_value s1
        refine enterSafe_moves hm.up ?_
        assumption
      · refine setState_moves hm.up ?_
        assumption

theorem reloadRecords_moves {m} {a s : State} {x1} (hm : Sub 0x2000000000000000002000000000000000000000000000000000000000010000000000000000000000000000000000000000000000000000000000000000000000000000000000000000000000000000000000000000000000000000000000000000000000000000040040c m) (h : Moves m a s) : Moves m a (reloadRecords s x1) := by
  unfold reloadRecords
  extract_lets +onlyGivenNames s1
  have h2 : Moves m a s1 := by
    unfold s1
    refine State.owlRec_moves hm.up ?_
    assumption
  clear_value s1
  refine Moves.ite (fun _ => ?_) (fun _ => ?_)
  · extract_lets +onlyGivenNames s3
    have h4 : Moves m a s3 := by
      unfold s3
      refine State.freeNext_moves hm.up ?_
      refine State.owlRec_moves hm.up ?_
      assumption
    clear_value s3
    refine State.freeNext_moves hm.up ?_
    refine State.owlRec_moves hm.up ?_
    assumption
  · assumption

theorem relationLoad_moves {m} {a s : State} {x1} (hm : Sub 0x20000000000000000020000000000000000000000000000000000000000100000000000000000000000000000000000000000000000000000000000000000000000000000000000000000000000000000000000000000000000000000000000000000000000000002400408 m) (h : Moves m a s) : Moves m a (relationLoad s x1) := by
  unfold relationLoad
  extract_lets +onlyGivenNames v1
  clear_value v1
  refine Moves.ite (fun _ => ?_) (fun _ => ?_)
  · assumption
  · extract_lets +onlyGivenNames s2
    clear_value s2
    extract_lets +onlyGivenNames s3
    have h4 : Moves m a s3 := by
      unfold s3
      refine Moves.net (s := s) hm.up ?_
      assumption
    clear_value s3
    refine State.owlRec_moves hm.up ?_
    assumption

theorem reloadCh_moves {m} {a s : State} {x1 x2} (hm : Sub 0x202000000000000000e0800000000000000000000000000000000000000100000f0180000000000202000000100100ffbfe0000000000070d001803f800307804c0001040001edfc041ed000000000000000060e000000000003700006003b000003fc00098000006cfef4c m) (h : Moves m a s) : Moves m a (reloadCh s x1 x2) := by
  unfold reloadCh
  extract_lets +onlyGivenNames v1
  clear_value v1
  extract_lets +onlyGivenNames v2
  clear_value v2
  extract_lets +onlyGivenNames s3
  have h4 : Moves m a s3 := by
    unfold s3
    refine State.modSp_moves hm.up ?_
    assumption
  clear_value s3
  extract_lets +onlyGivenNames v5
  clear_value v5
  extract_lets +onlyGivenNames v6
  clear_value v6
  extract_lets +onlyGivenNames s7
  have h8 : Moves m a s7 := by
    unfold s7
    refine alignCarrier_moves hm.up ?_
    assumption
  clear_value s7
  extract_lets +onlyGivenNames s9
  have h10 : Moves m a s9 := by
    unfold s9
    refine profTake_moves hm.up ?_
    refine State.modChan_moves hm.up ?_
    assumption
  clear_value s9
  extract_lets +onlyGivenNames s11
  have h12 : Moves m a s11 := by
    unfold s11
    refine carrierReload_moves hm.up ?_
    assumption
  clear_value s11
  extract_lets +onlyGivenNames s13
  have h14 : Moves m a s13 := by
    unfold s13
    split
    · refine State.modCarr_moves hm.up ?_
      assumption
    · assumption
  clear_value s13
  extract_lets +onlyGivenNames s18
  have h19 : Moves m a s18 := by
    unfold s18
    refine State.incWrap_moves hm.up (Can.of hm) ?_
    assumption
  clear_value s18
  extract_lets +onlyGivenNames s20
  have h21 : Moves m a s20 := by
    unfold s20
    refine reloadRecords_moves hm.up ?_
    assumption
  clear_value s20
  extract_lets +onlyGivenNames s22
  have h23 : Moves m a s22 := by
    unfold s22
    refine releaseEnd_moves hm.up ?_
    refine coldEnter_moves hm.up ?_
    refine adoptAt_moves hm.up ?_
    assumption
  clear_value s22
  extract_lets +onlyGivenNames s24
  have h25 : Moves m a s24 := by
    unfold s24
    refine stopEnd_moves hm.up ?_
    assumption
  clear_value s24
  extract_lets +onlyGivenNames s26
  have h27 : Moves m a s26 := by
    unfold s26
    refine State.modChan_moves hm.up ?_
    assumption
  clear_value s26
  extract_lets +onlyGivenNames s28
  have h29 : Moves m a s28 := by
    unfold s28
    refine State.legsApply_moves hm.up ?_
    assumption
  clear_value s28
  extract_lets +onlyGivenNames s30
  have h31 : Moves m a s30 := by
    unfold s30
    refine relationLoad_moves hm.up ?_
    assumption
  clear_value s30
  extract_lets +onlyGivenNames s32
  have h33 : Moves m a s32 := by
    unfold s32
    refine spReload_moves hm.up ?_
    assumption
  clear_value s32
  extract_lets +onlyGivenNames s34
  have h35 : Moves m a s34 := by
    unfold s34
    refine State.onIf_moves ?_ ?_
    · assumption
    · intro s36 h37
      refine State.modSp_moves hm.up ?_
      assumption
  clear_value s34
  extract_lets +onlyGivenNames s38
  have h39 : Moves m a s38 := by
    unfold s38
    refine State.modBdg_moves hm.up ?_
    assumption
  clear_value s38
  refine armNext_moves hm.up ?_
  refine reloadTrig_moves hm.up ?_
  assumption

theorem reloadAux_moves {m} {a s : State} {x1} (hm : Sub 0x200000000000000000e08000000000000000000000000000000000000001000000000000000000020000000000000000000000000000000000000000000000000c0000040001edfc041ed0000000000000000000000000000003700006003b000000000000000000044ec0c m) (h : Moves m a s) : Moves m a (reloadAux s x1) := by
  unfold reloadAux
  extract_lets +onlyGivenNames s1
  have h2 : Moves m a s1 := by
    unfold s1
    refine chopReload_moves hm.up ?_
    refine carrierReload_moves hm.up ?_
    refine alignCarrier_moves hm.up ?_
    assumption
  clear_value s1
  refine armNext_moves hm.up ?_
  assumption

theorem reloadOf_moves {m} {a s : State} {x1} (hm : Sub 0x202000000000000000e0800000000000000000000000000000000000000100000f0180000000000202000000100100ffbfe0000000000070d001803f800307804c0001040001edfc041ed000000000000000060e000000000003700006003b000003fc00098000006cfef4c m) (h : Moves m a s) : Moves m a (reloadOf s x1) := by
  unfold reloadOf
  refine Moves.ite (fun _ => ?_) (fun _ => ?_)
  · assumption
  · split
    · refine reloadCh_moves hm.up ?_
      assumption
    · refine reloadAux_moves hm.up ?_
      assumption

theorem execReload_moves {m} {a s : State} {x1} (hm : Sub 0x202000000000000000e0800000000000000000000000000000000000000100000f0180000000000202000000100100ffbfe0000000000070d001803f800307804c0001040001edfc041ed000000000000000060e000000000003700006003b000003fc00098000006cfef4c m) (h : Moves m a s) : Ends m a (execReload x1 s) := by
  unfold execReload
  refine live_moves ?_ ?_
  · assumption
  · intro s1 h2
    extract_lets +onlyGivenNames v3
    clear_value v3
    extract_lets +onlyGivenNames v4
    clear_value v4
    refine State.onIf_moves ?_ ?_
    · assumption
    · intro s5 h6
      refine reloadOf_moves hm.up ?_
      assumption

theorem execCommitArrival_moves {m} {a s : State} {x1} (hm : Sub 0x2000000000000007f0e080000000000000000000000000000000000000010000000000000000000200000000100000fc000000000000006000000000000000000c000080000042f000042000000000000000000000000000000000000000000000000000064800000c78408 m) (h : Moves m a s) : Ends m a (execCommitArrival x1 s) := by
  unfold execCommitArrival
  refine live_moves ?_ ?_
  · assumption
  · intro s1 h2
    refine commitArrival_moves hm.up ?_
    assumption

theorem execCommitDeadline_moves {m} {a s : State} {x1} (hm : Sub 0x2000000000000007f0e080000000000000000000000000000000000000010000010080000000000202000000100100fd800000000000006000000000000000000c000080000000f000040000000000000000000000000000000000000000000000000000007400000c78c08 m) (h : Moves m a s) : Ends m a (execCommitDeadline x1 s) := by
  unfold execCommitDeadline
  refine live_moves ?_ ?_
  · assumption
  · intro s1 h2
    refine commitDeadline_moves hm.up ?_
    assumption

theorem execCarrierZero_moves {m} {a s : State} {x1} (hm : Sub 0x200000000000000000e0800000000000000000000000000000000000000100000100800000000002020000001e0100fd800000000000006000000000000000000c0000040001adfc041ed0000000000000000000000000000003700006003b0000000000000000000c7ac08 m) (h : Moves m a s) : Ends m a (execCarrierZero x1 s) := by
  unfold execCarrierZero
  refine live_moves ?_ ?_
  · assumption
  · intro s1 h2
    refine State.onIf_moves ?_ ?_
    · assumption
    · intro s3 h4
      extract_lets +onlyGivenNames v5
      clear_value v5
      extract_lets +onlyGivenNames s6
      have h7 : Moves m a s6 := by
        unfold s6
        refine State.onIf_moves ?_ ?_
        · assumption
        · intro s8 h9
          refine plainHalf_moves hm.up ?_
          assumption
      clear_value s6
      extract_lets +onlyGivenNames s10
      have h11 : Moves m a s10 := by
        unfold s10
        refine endCuts_moves hm.up ?_
        assumption
      clear_value s10
      extract_lets +onlyGivenNames v12
      clear_value v12
      extract_lets +onlyGivenNames s13
      have h14 : Moves m a s13 := by
        unfold s13
        split
        · refine ocCount_moves hm.up ?_
          assumption
        · assumption
      clear_value s13
      extract_lets +onlyGivenNames v19
      clear_value v19
      extract_lets +onlyGivenNames s20
      have h21 : Moves m a s20 := by
        unfold s20
        refine seqCarrier_moves hm.up ?_
        assumption
      clear_value s20
      refine State.onIf_moves ?_ ?_
      · assumption
      · intro s22 h23
        refine seqCotZero_moves hm.up ?_
        assumption

theorem execCarrierPeak_moves {m} {a s : State} {x1} (hm : Sub 0x200000000000000000e08000000000000000000000000000000000000001000000000000000000020000000000000000000000000000000000000000000000000c0000040001adfc041ad0000000000000000000000000000003700006003b000000000000000000044ac08 m) (h : Moves m a s) : Ends m a (execCarrierPeak x1 s) := by
  unfold execCarrierPeak
  refine live_moves ?_ ?_
  · assumption
  · intro s1 h2
    refine State.onIf_moves ?_ ?_
    · assumption
    · intro s3 h4
      extract_lets +onlyGivenNames v5
      clear_value v5
      extract_lets +onlyGivenNames s6
      have h7 : Moves m a s6 := by
        unfold s6
        refine State.onIf_moves ?_ ?_
        · assumption
        · intro s8 h9
          refine plainHalf_moves hm.up ?_
          assumption
      clear_value s6
      split
      · extract_lets +onlyGivenNames v12
        clear_value v12
        extract_lets +onlyGivenNames s13
        have h14 : Moves m a s13 := by
          unfold s13
          refine seqCarrier_moves hm.up ?_
          assumption
        clear_value s13
        refine State.onIf_moves ?_ ?_
        · assumption
        · intro s15 h16
          refine seqCotZero_moves hm.up ?_
          assumption
      · assumption

theorem cotEnd_moves {m} {a s : State} {x1} (hm : Sub 0x202000000000000000e0800000000000000000000000000000000000000100000f0180000000000202000000100100ffbfe0000000000070d001803f800307804c0001040001edfc041ed000000000000000060e000000000003700006003b000003fc00098000006cfef4c m) (h : Moves m a s) : Moves m a (cotEnd s x1) := by
  unfold cotEnd
  refine reloadOf_moves hm.up ?_
  assumption

theorem execCotEndEvent_moves {m} {a s : State} {x1} (hm : Sub 0x202000000000000000e0800000000000000000000000000000000000000100000f0180000000000202000000100100ffbfe0000000000070d001803f800307804c0001040001edfc041ed000000000000000060e000000000003700006003b000003fc00098000006cfef4c m) (h : Moves m a s) : Ends m a (execCotEndEvent x1 s) := by
  unfold execCotEndEvent
  refine live_moves ?_ ?_
  · assumption
  · intro s1 h2
    extract_lets +onlyGivenNames v3
    clear_value v3
    refine Moves.ite (fun _ => ?_) (fun _ => ?_)
    · assumption
    · extract_lets +onlyGivenNames s4
      have h5 : Moves m a s4 := by
        unfold s4
        refine State.modCarr_moves hm.up ?_
        assumption
      clear_value s4
      refine Moves.ite (fun _ => ?_) (fun _ => ?_)
      · refine cotEnd_moves hm.up ?_
        assumption
      · refine State.modCarr_moves hm.up ?_
        assumption

theorem execCotPerMin_moves {m} {a s : State} {x1} (hm : Sub 0x202000000000000000e0800000000000000000000000000000000000000100000f0180000000000202000000100100ffbfe0000000000070d001803f800307804c0001040001edfc041ed000000000000000060e000000000003700006003b000003fc00098000006cfef4c m) (h : Moves m a s) : Ends m a (execCotPerMin x1 s) := by
  unfold execCotPerMin
  refine live_moves ?_ ?_
  · assumption
  · intro s1 h2
    extract_lets +onlyGivenNames v3
    clear_value v3
    refine State.onIf_moves ?_ ?_
    · assumption
    · intro s4 h5
      refine cotEnd_moves hm.up ?_
      assumption

theorem execCotPermax_moves {m} {a s : State} {x1} (hm : Sub 0x202000000000000000e0800000000000000000000000000000000000000100000f0180000000000202000000100100ffbfe0000000000070d001803f800307804c0001040001fdfc041fd000000000000000060e000000000003700006003b000003fc00098000006cfef4c m) (h : Moves m a s) : Ends m a (execCotPermax x1 s) := by
  unfold execCotPermax
  refine live_moves ?_ ?_
  · assumption
  · intro s1 h2
    extract_lets +onlyGivenNames v3
    clear_value v3
    refine State.onIf_moves ?_ ?_
    · assumption
    · intro s4 h5
      extract_lets +onlyGivenNames s6
      have h7 : Moves m a s6 := by
        unfold s6
        refine cput_moves hm.up (Can.of hm) (Can.of hm) ?_
        assumption
      clear_value s6
      refine cotEnd_moves hm.up ?_
      refine State.logRate_moves hm.up ?_
      assumption

theorem carrierBegin_moves {m} {a s : State} {x1} (hm : Sub 0x2000000200000000000000000000000000000000000000000000000000000000000000008000 m) (h : Moves m a s) : Moves m a (carrierBegin s x1) := by
  unfold carrierBegin
  extract_lets +onlyGivenNames v1
  clear_value v1
  refine Moves.ite (fun _ => ?_) (fun _ => ?_)
  · assumption
  · refine Moves.ite (fun _ => ?_) (fun _ => ?_)
    · refine peerArm_moves hm.up ?_
      refine State.modCarr_moves hm.up ?_
      assumption
    · refine carrierStart_moves hm.up ?_
      assumption

theorem execCarrierSyncStart_moves {m} {a s : State} {x1} (hm : Sub 0x2000000200000000000000000000000000000000000000000000000000000000000000008000 m) (h : Moves m a s) : Ends m a (execCarrierSyncStart x1 s) := by
  unfold execCarrierSyncStart
  refine live_moves ?_ ?_
  · assumption
  · intro s1 h2
    split
    · refine State.onIf_moves ?_ ?_
      · assumption
      · intro s6 h7
        refine carrierStart_moves hm.up ?_
        assumption
    · assumption

theorem execPeriodLatch_moves {m} {a s : State} {x1} (hm : Sub 0x200000000000000000e08000000000000000000000000000000000000001000000000000000000020000000000010039000000000000000000000000000000000c000000000000f000000000078000000000f7fa0000002000000000000000000000000000000000055cc08 m) (h : Moves m a s) : Ends m a (execPeriodLatch x1 s) := by
  unfold execPeriodLatch
  refine live_moves ?_ ?_
  · assumption
  · intro s1 h2
    refine selRefresh_moves hm.up ?_
    refine pifLatch_moves hm.up ?_
    assumption

theorem execMeasLanding_moves {m} {a s : State} {x1 x2} (hm : Sub 0x200000000000000000e080000000000000000000000000000000000000010000000000000000000000000000000000000000000000000000000000000000000000000000000000000000000000000000000000000000000000000000000000000003fc00000000000620408 m) (h : Moves m a s) : Ends m a (execMeasLanding x1 x2 s) := by
  unfold execMeasLanding
  refine live_moves ?_ ?_
  · assumption
  · intro s1 h2
    refine measLanding_moves hm.up ?_
    assumption

theorem spEcc_moves {m} {a s : State} {x1 x2} (hm : Sub 0x200000000000000000e0800000000000000000000000000000000000000100000000000000000000000000000000000000000000000000000000000000000000000000000000000000000000000000000000000000000000000000000000000003e00000000000000400f0c m) (h : Moves m a s) : Moves m a (spEcc s x1 x2) := by
  unfold spEcc
  refine State.onIf_moves ?_ ?_
  · assumption
  · intro s1 h2
    refine eccReads_moves hm.up ?_
    assumption

theorem execSpeculation_moves {m} {a s : State} {x1 x2} (hm : Sub 0x200000000000000000e0800000000000000000000000000000000000000100000000000000000000000000000000000000600000000000000000000000000000000000000000000000000000000000000000000000000000000000000000000003e3fc00000000000420f0c m) (h : Moves m a s) : Ends m a (execSpeculation x1 x2 s) := by
  unfold execSpeculation
  refine live_moves ?_ ?_
  · assumption
  · intro s1 h2
    refine speculate_moves hm.up ?_
    refine spEcc_moves hm.up ?_
    assumption

theorem execSpecDone_moves {m} {a s : State} {x1} (hm : Sub 0x20000 m) (h : Moves m a s) : Ends m a (execSpecDone x1 s) := by
  unfold execSpecDone
  refine live_moves ?_ ?_
  · assumption
  · intro s1 h2
    refine specDone_moves hm.up ?_
    assumption

theorem execFastPath_moves {m} {a s : State} {x1} (hm : Sub 0x200000000000000000e080000000000000000000000000000000000000010000000000000000000200000000100000fc8f80000000000070c000803b87f002000c000000000000f00000000000000000000000000000000000000000000000000003fc00000000000478f48 m) (h : Moves m a s) : Ends m a (execFastPath x1 s) := by
  unfold execFastPath
  refine live_moves ?_ ?_
  · assumption
  · intro s1 h2
    refine fastPath_moves hm.up ?_
    assumption

theorem execFullEvalDone_moves {m} {a s : State} {x1 x2} (hm : Sub 0x200000000000000000e080000000000000000000000000000000000000010000000000000000000200000000100000fc8fe0000000000070c000803b800002000c000000000000f000000000000000000000000000000000000000000000000003e3fc00000000000478f4c m) (h : Moves m a s) : Ends m a (execFullEvalDone x1 x2 s) := by
  unfold execFullEvalDone
  refine live_moves ?_ ?_
  · assumption
  · intro s1 h2
    refine fullEvalDone_moves hm.up ?_
    refine spEcc_moves hm.up ?_
    assumption

theorem execWaitLimit_moves {m} {a s : State} {x1} (hm : Sub 0x200000000000000000e080000000000000000000000000000000000000010000000000000000000200000000100000fc80000000000000600000003b800000000c000000000000f000000000000000000000000000000000000000000000000000000000000000000478c08 m) (h : Moves m a s) : Ends m a (execWaitLimit x1 s) := by
  unfold execWaitLimit
  refine live_moves ?_ ?_
  · assumption
  · intro s1 h2
    refine waitLimit_moves hm.up ?_
    assumption

theorem execFbHoldExpired_moves {m} {a s : State} {x1} (hm : Sub 0x200000000000000000e080000000000000000000000000000000000000010000000000000000000200000000100000fc800000000000006000000003800000000c000000000000f000000000000000000000000000000000000000000000000000000000000000000478c08 m) (h : Moves m a s) : Ends m a (execFbHoldExpired x1 s) := by
  unfold execFbHoldExpired
  refine live_moves ?_ ?_
  · assumption
  · intro s1 h2
    refine fbHoldExpired_moves hm.up ?_
    assumption

theorem execSealDone_moves {m} {a s : State} {x1} (hm : Sub 0x200000000000000000e08000000000000000000000000000000000000001000000000000000000000000000000000000000000000000000000000000000cd980000000000000000000000000000000000000000000000000000000000000000000000000000000000400748 m) (h : Moves m a s) : Ends m a (execSealDone x1 s) := by
  unfold execSealDone
  refine live_moves ?_ ?_
  · assumption
  · intro s1 h2
    refine sealDone_moves hm.up ?_
    assumption

theorem execOscWindowEnd_moves {m} {a s : State} {x1} (hm : Sub 0x200000000000000000e0800000000000000000000000000000000000000100000000000000000000000000000000000000000000000000000000600000010000000000000000000000000000000000000000000000000000000000000000000000000000000000000420c08 m) (h : Moves m a s) : Ends m a (execOscWindowEnd x1 s) := by
  unfold execOscWindowEnd
  refine live_moves ?_ ?_
  · assumption
  · intro s1 h2
    refine oscWindowEnd_moves hm.up ?_
    assumption

theorem execDtcDecision_moves {m} {a s : State} {x1} (hm : Sub 0x200000000000000000e08000000000000000000000000000000000000001000000000000000000020000000000000000000000000000006000000000000002000c000000000000f000000000000000000000000000000000000000000000000000000000000000000468408 m) (h : Moves m a s) : Ends m a (execDtcDecision x1 s) := by
  unfold execDtcDecision
  refine live_moves ?_ ?_
  · assumption
  · intro s1 h2
    refine dtcDecision_moves hm.up ?_
    assumption

theorem execDtcMiss_moves {m} {a s : State} {x1} (hm : Sub 0x200000000000000000e08000000000000000000000000000000000000001000000000000000000020000000000000000000000000000006000000000000000000c000000000000f000000000000000000000000000000000000000000000000000000000000000000468c08 m) (h : Moves m a s) : Ends m a (execDtcMiss x1 s) := by
  unfold execDtcMiss
  refine live_moves ?_ ?_
  · assumption
  · intro s1 h2
    refine dtcMiss_moves hm.up ?_
    assumption

theorem execHandover_moves {m} {a s : State} {x1} (hm : Sub 0x200000000000000000e080000000000000000000000000000000000000010000000000000000000200000000100000fc800000000000006000000000000002000c000000000000f000000000000000000000000000000000000000000000000000000000000000000478748 m) (h : Moves m a s) : Ends m a (execHandover x1 s) := by
  unfold execHandover
  refine live_moves ?_ ?_
  · assumption
  · intro s1 h2
    refine handover_moves hm.up ?_
    assumption

theorem execIpdComplete_moves {m} {a s : State} {x1 x2} (hm : Sub 0x200000000000000000e08000000000000000000000000000000000000001000000000000000000020000000000000000000000000000006000000000000000000c000000000000f000000000000000000000000000000000000000000000000000000000000000000468c08 m) (h : Moves m a s) : Ends m a (execIpdComplete x1 x2 s) := by
  unfold execIpdComplete
  refine live_moves ?_ ?_
  · assumption
  · intro s1 h2
    refine ipdComplete_moves hm.up ?_
    assumption

theorem execObsLost_moves {m} {a s : State} {x1} (hm : Sub 0x200000000000000000e0800000000000000000000000000000000000000100000000000000000000000000000000000001000000000000381000000000000000000000000000000000000000000000000000000000000000000000000000000000000000000000000420c08 m) (h : Moves m a s) : Ends m a (execObsLost x1 s) := by
  unfold execObsLost
  refine live_moves ?_ ?_
  · assumption
  · intro s1 h2
    refine obsLost_moves hm.up ?_
    assumption

theorem execRecapture_moves {m} {a s : State} {x1 x2 x3 x4 x5 x6} (hm : Sub 0x200000000000000000e08000000000000000000000000000000000000001000000000000000000020000000000000000018000000000006010000000000000000c000000000000f000000000000000000000000000000000000000000000000000000000000000000468c08 m) (h : Moves m a s) : Ends m a (execRecapture x1 x2 x3 x4 x5 x6 s) := by
  unfold execRecapture
  refine live_moves ?_ ?_
  · assumption
  · intro s1 h2
    refine recapture_moves hm.up ?_
    assumption

theorem execRecapAttemptEnd_moves {m} {a s : State} {x1} (hm : Sub 0x200000000000000000e08000000000000000000000000000000000000001000000000000000000020000000000000000000000000000006010000000000000000c000000000000f000000000000000000000000000000000000000000000000000000000000000000468c08 m) (h : Moves m a s) : Ends m a (execRecapAttemptEnd x1 s) := by
  unfold execRecapAttemptEnd
  refine live_moves ?_ ?_
  · assumption
  · intro s1 h2
    refine recapAttemptEnd_moves hm.up ?_
    assumption

theorem execObsValid_moves {m} {a s : State} {x1} (hm : Sub 0x100000000000000000000000000000000000000000000000000000000000000000000000000000000000000000000000000000000 m) (h : Moves m a s) : Ends m a (execObsValid x1 s) := by
  unfold execObsValid
  refine live_moves ?_ ?_
  · assumption
  · intro s1 h2
    refine State.onIf_moves ?_ ?_
    · assumption
    · intro s3 h4
      refine State.put_moves (Can.of hm) ?_
      assumption

theorem execFwLimit_moves {m} {a s : State} {x1} (hm : Sub 0x200000000000000000e0800000000000000000000000000000000000000100000000000000000000000000000000000000000000000000010000000000000000000000000000000000000000000000000000000000000000000000000000000000000000000000000400408 m) (h : Moves m a s) : Ends m a (execFwLimit x1 s) := by
  unfold execFwLimit
  refine live_moves ?_ ?_
  · assumption
  · intro s1 h2
    refine State.onIf_moves ?_ ?_
    · assumption
    · intro s3 h4
      refine State.logEv_moves hm.up ?_
      refine State.put_moves (Can.of hm) ?_
      assumption

theorem execLocked_moves {m} {a s : State} {x1} (hm : Sub 0x200000000000000000e0800000000000000000000000000000000000000100000000000000000000000000000000000000000000000000040000000000000000000000000000000000000000000000000000000000000000000000000000000000000000000000000420c08 m) (h : Moves m a s) : Ends m a (execLocked x1 s) := by
  unfold execLocked
  refine live_moves ?_ ?_
  · assumption
  · intro s1 h2
    extract_lets +onlyGivenNames v3
    clear_value v3
    refine State.onIf_moves ?_ ?_
    · assumption
    · intro s4 h5
      extract_lets +onlyGivenNames s6
      have h7 : Moves m a s6 := by
        unfold s6
        refine modWatch_moves hm.up ?_
        assumption
      clear_value s6
      refine State.raise_moves hm.up ?_
      refine State.logEv_moves hm.up ?_
      refine State.put_moves (Can.of hm) ?_
      assumption

theorem execLockClear_moves {m} {a s : State} {x1} (hm : Sub 0x200000000000000000e0800000000000000000000000000000000000000100000000000000000000000000000000000000000000000000040000000000000000000000000000000000000000000000000000000000000000000000000000000000000000000000000400408 m) (h : Moves m a s) : Ends m a (execLockClear x1 s) := by
  unfold execLockClear
  refine live_moves ?_ ?_
  · assumption
  · intro s1 h2
    extract_lets +onlyGivenNames v3
    clear_value v3
    extract_lets +onlyGivenNames v4
    clear_value v4
    extract_lets +onlyGivenNames v5
    clear_value v5
    refine State.onIf_moves ?_ ?_
    · assumption
    · intro s6 h7
      refine State.logEv_moves hm.up ?_
      refine State.put_moves (Can.of hm) ?_
      assumption

theorem execKeAbnormal_moves {m} {a s : State} {x1} (hm : Sub 0x200000000000000000e0800000000000000000000000000000000000000100000000000000000000000000000000000000000000000000020000000000000000000000000000000000000000000000000000000000000000000000000000000000000000000000000400c08 m) (h : Moves m a s) : Ends m a (execKeAbnormal x1 s) := by
  unfold execKeAbnormal
  refine live_moves ?_ ?_
  · assumption
  · intro s1 h2
    refine State.onIf_moves ?_ ?_
    · assumption
    · intro s3 h4
      refine State.raise_moves hm.up ?_
      refine State.logEv_moves hm.up ?_
      refine State.put_moves (Can.of hm) ?_
      assumption

theorem execPllLock_moves {m} {a s : State} {x1} (hm : Sub 0x2000000000000000000000000000000000000000000000000000000000000000000000000000000000000000000000000020000 m) (h : Moves m a s) : Ends m a (execPllLock x1 s) := by
  unfold execPllLock
  refine live_moves ?_ ?_
  · assumption
  · intro s1 h2
    refine State.onIf_moves ?_ ?_
    · assumption
    · intro s3 h4
      refine modGrid_moves hm.up ?_
      refine State.put_moves (Can.of hm) ?_
      assumption

theorem execPllUnlock_moves {m} {a s : State} {x1} (hm : Sub 0x200000000000000000e0800000000000000000000000000000000000000100000000000000000000000000000000000000000000000000002000000000000000000000000000000000000000000000000000000000000000000000000000000000000000000000000420c08 m) (h : Moves m a s) : Ends m a (execPllUnlock x1 s) := by
  unfold execPllUnlock
  refine live_moves ?_ ?_
  · assumption
  · intro s1 h2
    refine State.onIf_moves ?_ ?_
    · assumption
    · intro s3 h4
      refine State.raise_moves hm.up ?_
      refine State.logEv_moves hm.up ?_
      refine modGrid_moves hm.up ?_
      refine State.put_moves (Can.of hm) ?_
      assumption

theorem execGridBand_moves {m} {a s : State} {x1} (hm : Sub 0x200000000000000000e0800000000000000000000000000000000000000100000000000000000000000000000000000000000000000000000000000000000000000000000000000000000000000000000000000000000000000000000000000000000000000000000420c08 m) (h : Moves m a s) : Ends m a (execGridBand x1 s) := by
  unfold execGridBand
  refine live_moves ?_ ?_
  · assumption
  · intro s1 h2
    refine State.onIf_moves ?_ ?_
    · assumption
    · intro s3 h4
      refine State.raise_moves hm.up ?_
      refine State.logEv_moves hm.up ?_
      refine modGrid_moves hm.up ?_
      assumption

theorem execOutputGateHold_moves {m} {a s : State} {x1} (hm : Sub 0x200000000000000000e08000000000000000000000000000000000000001000000000000000000020000000000000000000000000000000000000000000000000c0003c0000000f000000000000000000000000000000000000000000000000000000000000000000448408 m) (h : Moves m a s) : Ends m a (execOutputGateHold x1 s) := by
  unfold execOutputGateHold
  refine live_moves ?_ ?_
  · assumption
  · intro s1 h2
    refine State.gateHold_moves hm.up ?_ ?_
    · unfold gateFld
      split
      · exact (Can.of hm)
      · exact (Can.of hm)
      · exact (Can.of hm)
      · exact (Can.of hm)
    · assumption

theorem execOutputGateRelease_moves {m} {a s : State} {x1} (hm : Sub 0x200000000000000000e08000000000000000000000000000000000000001000000000000000000020000000000000000000000000000000000000000000000000c0003c0000000f000000000000000000000000000000000000000000000000000000000000000000448408 m) (h : Moves m a s) : Ends m a (execOutputGateRelease x1 s) := by
  unfold execOutputGateRelease
  refine live_moves ?_ ?_
  · assumption
  · intro s1 h2
    refine State.gateEnd_moves hm.up ?_ ?_
    · unfold gateFld
      split
      · exact (Can.of hm)
      · exact (Can.of hm)
      · exact (Can.of hm)
      · exact (Can.of hm)
    · assumption

theorem replayHeader_moves {m} {a s : State} {x1 x2} (hm : Sub 0x2020000000000007f0e0800000000000000000000000000000000000000100000f0180000000000202000000100100ffbfe0000000000070d001803f800307804c0001840001edfc041ed000000000000000060e000000000003700006003b000003fc00098000006cfef4c m) (h : Moves m a s) : Moves m a (replayHeader s x1 x2) := by
  unfold replayHeader
  split
  · assumption
  · extract_lets +onlyGivenNames v6
    extract_lets +onlyGivenNames s7
    have h8 : Moves m a s7 := by
      unfold s7
      refine replayClose_moves hm.up ?_
      assumption
    clear_value s7
    extract_lets +onlyGivenNames s9
    have h10 : Moves m a s9 := by
      unfold s9
      refine modReplay_moves hm.up ?_
      assumption
    clear_value s9
    extract_lets +onlyGivenNames v11
    clear_value v11
    extract_lets +onlyGivenNames v12
    clear_value v12
    extract_lets +onlyGivenNames v13
    clear_value v13
    extract_lets +onlyGivenNames s14
    have h15 : Moves m a s14 := by
      unfold s14
      refine State.onIf_moves ?_ ?_
      · assumption
      · intro s16 h17
        refine reloadCh_moves hm.up ?_
        assumption
    clear_value s14
    refine State.put_moves (Can.of hm) ?_
    assumption

theorem execReplayHeader_moves {m} {a s : State} (hm : Sub 0x2020000000000007f0e0800000000000000000000000000000000000000100000f0180000000000202000000100100ffbfe0000000000070d001803f800307804c0001840001edfc041ed000000000000000060e000000000003700006003b000003fc00098000006cfef4c m) (h : Moves m a s) : Ends m a (execReplayHeader s) := by
  unfold execReplayHeader
  refine live_moves ?_ ?_
  · assumption
  · intro s1 h2
    extract_lets +onlyGivenNames v3
    have h4 : Moves m a v3.1 := by
      unfold v3
      refine replayNext_moves hm.up ?_
      assumption
    clear_value v3
    split
    · refine Moves.ite (fun _ => ?_) (fun _ => ?_)
      · assumption
      · refine Moves.ite (fun _ => ?_) (fun _ => ?_)
        · assumption
        · refine replayHeader_moves hm.up ?_
          assumption
    · assumption

theorem swapBack_moves {m} {a s : State} {x1 x2} (hm : Sub 0x30580000000000000000000000000000000000000000000000000000000000000000000000000018000000020000 m) (h : Moves m a s) : Moves m a (swapBack s x1 x2) := by
  unfold swapBack
  refine Moves.ite (fun _ => ?_) (fun _ => ?_)
  · assumption
  · extract_lets +onlyGivenNames s1
    have h2 : Moves m a s1 := by
      unfold s1
      refine State.putB_moves hm.up (Can.of hm) ?_
      refine State.put_moves (Can.of hm) ?_
      assumption
    clear_value s1
    extract_lets +onlyGivenNames s3
    have h4 : Moves m a s3 := by
      unfold s3
      refine Moves.ite (fun _ => ?_) (fun _ => ?_)
      · refine State.modSp_moves hm.up ?_
        assumption
      · refine State.putB_moves hm.up (Can.of hm) ?_
        assumption
    clear_value s3
    refine budgetShow_moves hm.up ?_
    refine stepShow_moves hm.up ?_
    assumption

theorem redoHeld_moves {m} {a s : State} {x1 x2} (hm : Sub 0x200000000000000000e080000000000000000000000000000000000000010000000000000000000200000000100000fc8fe0000000000070c000803b800307800c000000000000f00000000000000000000000000000000000000000000000000003fc00018000000478f48 m) (h : Moves m a s) : Moves m a (redoHeld s x1 x2) := by
  unfold redoHeld
  extract_lets +onlyGivenNames v1
  clear_value v1
  extract_lets +onlyGivenNames v2
  clear_value v2
  extract_lets +onlyGivenNames s3
  have h4 : Moves m a s3 := by
    unfold s3
    refine loadCkpt_moves hm.up ?_
    refine swapBack_moves hm.up ?_
    assumption
  clear_value s3
  extract_lets +onlyGivenNames s5
  have h6 : Moves m a s5 := by
    unfold s5
    refine redoPeriod_moves hm.up ?_
    assumption
  clear_value s5
  extract_lets +onlyGivenNames s7
  have h8 : Moves m a s7 := by
    unfold s7
    refine State.forL_moves ?_ ?_
    · assumption
    · intro v9 s10 h11
      refine State.putLw_moves hm.up ?_
      assumption
  clear_value s7
  extract_lets +onlyGivenNames s12
  have h13 : Moves m a s12 := by
    unfold s12
    refine State.forL_moves ?_ ?_
    · assumption
    · intro v14 s15 h16
      refine State.putLw_moves hm.up ?_
      assumption
  clear_value s12
  extract_lets +onlyGivenNames s17
  have h18 : Moves m a s17 := by
    unfold s17
    refine State.modFld_moves hm.up ?_
    assumption
  clear_value s17
  extract_lets +onlyGivenNames s19
  have h20 : Moves m a s19 := by
    unfold s19
    refine refForm_moves hm.up ?_
    assumption
  clear_value s19
  extract_lets +onlyGivenNames v21
  clear_value v21
  refine State.modSp_moves hm.up ?_
  assumption

theorem spindleRestore_moves {m} {a s : State} {x1} (hm : Sub 0x200000000000000000e080000000000000000000000000000000000000010000000000000000002200000000100000fc8fe0000000000070c000803b800307800c000000000000f00000000000000000000000000000000000000000000000000003fc000180000004f8f48 m) (h : Moves m a s) : Moves m a (spindleRestore s x1) := by
  unfold spindleRestore
  extract_lets +onlyGivenNames v1
  clear_value v1
  refine Moves.ite (fun _ => ?_) (fun _ => ?_)
  · assumption
  · extract_lets +onlyGivenNames v2
    clear_value v2
    extract_lets +onlyGivenNames s3
    have h4 : Moves m a s3 := by
      unfold s3
      split
      · refine redoHeld_moves hm.up ?_
        assumption
      · assumption
    clear_value s3
    extract_lets +onlyGivenNames s10
    have h11 : Moves m a s10 := by
      unfold s10
      refine State.put_moves (Can.of hm) ?_
      refine State.put_moves (Can.of hm) ?_
      assumption
    clear_value s10
    extract_lets +onlyGivenNames s12
    have h13 : Moves m a s12 := by
      unfold s12
      refine State.modSp_moves hm.up ?_
      assumption
    clear_value s12
    extract_lets +onlyGivenNames s14
    have h15 : Moves m a s14 := by
      unfold s14
      refine State.modBdg_moves hm.up ?_
      assumption
    clear_value s14
    refine State.logEv_moves hm.up ?_
    refine State.putBit_moves hm.up (Can.of hm) ?_
    assumption

theorem execSpindleRestore_moves {m} {a s : State} {x1} (hm : Sub 0x200000000000000000e080000000000000000000000000000000000000010000000000000000002200000000100000fc8fe0000000000070c000803b800307800c000000000000f00000000000000000000000000000000000000000000000000003fc000180000004f8f48 m) (h : Moves m a s) : Ends m a (execSpindleRestore x1 s) := by
  unfold execSpindleRestore
  refine live_moves ?_ ?_
  · assumption
  · intro s1 h2
    refine spindleRestore_moves hm.up ?_
    assumption

theorem execFaultRaised_moves {m} {a s : State} {x1 x2} (hm : Sub 0x200000000000000030e080000000000000000000000000000000000000010000010080041e40000202000000100100fd800000000000006000000000000000000c000080000000f000040000000000000000000000000000000000000000000000000000000000000cf8c08 m) (h : Moves m a s) : Ends m a (execFaultRaised x1 x2 s) := by
  unfold execFaultRaised
  refine live_moves ?_ ?_
  · assumption
  · intro s1 h2
    extract_lets +onlyGivenNames s3
    have h4 : Moves m a s3 := by
      unfold s3
      refine Moves.inflight (s := s1) hm.up ?_
      assumption
    clear_value s3
    extract_lets +onlyGivenNames s5
    have h6 : Moves m a s5 := by
      unfold s5
      refine faultArrive_moves hm.up ?_
      assumption
    clear_value s5
    refine State.onIf_moves ?_ ?_
    · assumption
    · intro s7 h8
      refine endReplay_moves hm.up ?_
      assumption

/-! ### RegRule -/

theorem fieldWrite_moves {m} {a s : State} {x1 x2} (hm : Sub 0x0 m) (cx2 : Can m x2) (h : Moves m a s) : Moves m a (fieldWrite s x1 x2) := by
  unfold fieldWrite
  split
  · refine State.put_moves (by assumption) ?_
    assumption
  · refine State.put_moves (by assumption) ?_
    assumption
  · refine State.put_moves (by assumption) ?_
    assumption
  · assumption

theorem applyWr_moves {m} {a s : State} {x1 x2} (hm : Sub 0x1 m) (h : Moves m a s) : Moves m a (applyWr s x1 x2) := by
  unfold applyWr
  refine State.forL_moves ?_ ?_
  · assumption
  · intro v1 s2 h3
    refine fieldWrite_moves hm.up ?_ ?_
    · exact Can.any hm
    · assumption

end Sys2Proof.Machine
end

