-- ==== Sys2Proof/Laws/MovesCmd.lean ====
section
/-! SUPPORT. The functions that are chains of primitive updates (Laws/Moves.lean): the bus, the operations of the MP, the host links and the tick. -/

set_option Elab.async false

namespace Sys2Proof.Machine

/-! ### Bus -/

theorem plicClaim_moves {m} {a s : State} {x1} (hm : Sub 0x20000000000000000000000000000000000000000000000000000000000000000000000000000000000000000000000000000000000000000000000000000000000000000000000000000000000000000000000000000000000000000000000000000000000000002000000 m) (h : Moves m a s) : Moves m a (plicClaim s x1).2 := by
  unfold plicClaim
  extract_lets +onlyGivenNames v1
  clear_value v1
  split
  · dsimp -zeta only
    assumption
  · extract_lets +onlyGivenNames s4
    have h5 : Moves m a s4 := by
      unfold s4
      refine State.putBit_moves hm.up (Can.of hm) ?_
      assumption
    clear_value s4
    dsimp -zeta only
    refine Moves.net (s := s4) hm.up ?_
    assumption

theorem plicComplete_moves {m} {a s : State} {x1 x2} (hm : Sub 0x2000000 m) (h : Moves m a s) : Moves m a (plicComplete s x1 x2) := by
  unfold plicComplete
  refine Moves.ite (fun _ => ?_) (fun _ => ?_)
  · refine Moves.net (s := s) hm.up ?_
    assumption
  · assumption

theorem postSys_moves {m} {a s : State} {x1} (hm : Sub 0x200000000000000000e0800000000000000000000000000000000000000100000000000000000000000000000000000000000000000000000000000000000000000000000000000000000000000000000000000000000000000000000000000000000000280000042400408 m) (h : Moves m a s) : Moves m a (postSys x1 s) := by
  unfold postSys
  refine Moves.ite (fun _ => ?_) (fun _ => ?_)
  · extract_lets +onlyGivenNames v1
    clear_value v1
    extract_lets +onlyGivenNames v2
    have h3 : Moves m a v2.2 := by
      unfold v2
      refine profRequest_moves hm.up ?_
      assumption
    clear_value v2
    refine Moves.ite (fun _ => ?_) (fun _ => ?_)
    · refine State.logEv_moves hm.up ?_
      assumption
    · assumption
  · refine Moves.ite (fun _ => ?_) (fun _ => ?_)
    · refine plicComplete_moves hm.up ?_
      assumption
    · assumption

theorem bistStart_moves {m} {a s : State} (hm : Sub 0x200000080000000000e08000000000000000000000000000000000000001000000000000000000020000000000000000000000000000000000000000000000000c000040000000f000000000000000000000000000000000000000000000000000000000000000040448408 m) (h : Moves m a s) : Moves m a (bistStart s) := by
  unfold bistStart
  refine Moves.ite (fun _ => ?_) (fun _ => ?_)
  · assumption
  · refine State.gateHold_moves hm.up (Can.of hm) ?_
    refine State.put_moves (Can.of hm) ?_
    refine State.modPwr_moves hm.up ?_ ?_ ?_
    · assumption
    · (intro p; rfl)
    · (intro p; rfl)

theorem postPwr_moves {m} {a s : State} {x1} (hm : Sub 0x20003008000b080000e08000000000000000000000000000000018000001c00000000000000000020a000000100000fcb40000000000006000000000000002004c000040000042f0000420000000000000000000000000000000000000000000000000000000000ffffffff m) (h : Moves m a s) : Moves m a (postPwr x1 s) := by
  unfold postPwr
  refine Moves.ite (fun _ => ?_) (fun _ => ?_)
  · refine State.onIf_moves ?_ ?_
    · assumption
    · intro s1 h2
      refine shutStart_moves hm.up ?_
      assumption
  · refine Moves.ite (fun _ => ?_) (fun _ => ?_)
    · refine State.onIf_moves ?_ ?_
      · assumption
      · intro s3 h4
        refine deviceReset_moves hm.up ?_
        assumption
    · refine Moves.ite (fun _ => ?_) (fun _ => ?_)
      · refine State.onIf_moves ?_ ?_
        · assumption
        · intro s5 h6
          refine bistStart_moves hm.up ?_
          assumption
      · refine Moves.ite (fun _ => ?_) (fun _ => ?_)
        · refine State.onIf_moves ?_ ?_
          · assumption
          · intro s7 h8
            refine epochAdvance_moves hm.up ?_
            assumption
        · refine Moves.ite (fun _ => ?_) (fun _ => ?_)
          · refine State.onIf_moves ?_ ?_
            · assumption
            · intro s9 h10
              refine keyProgram_moves hm.up ?_
              assumption
          · assumption

theorem convCfg_moves {m} {a s : State} {x1} (hm : Sub 0x28000000000000000000002000 m) (h : Moves m a s) : Moves m a (convCfg s x1) := by
  unfold convCfg
  extract_lets +onlyGivenNames v1
  clear_value v1
  extract_lets +onlyGivenNames v2
  clear_value v2
  extract_lets +onlyGivenNames s3
  have h4 : Moves m a s3 := by
    unfold s3
    refine Moves.ite (fun _ => ?_) (fun _ => ?_)
    · refine State.put_moves (Can.of hm) ?_
      assumption
    · refine State.onIf_moves ?_ ?_
      · assumption
      · intro s5 h6
        refine cvStart_moves hm.up ?_
        assumption
  clear_value s3
  refine State.onIf_moves ?_ ?_
  · assumption
  · intro s7 h8
    refine State.put_moves (Can.of hm) ?_
    assumption

theorem calAsk_moves {m} {a s : State} {x1} (hm : Sub 0x200000000000000000e0800000000000000000000000000000000000000100000000000000000000000000000000000000000000000000000000000000000000000000000000000000000000000000000000000000000000000000000000420000000000000000000402408 m) (h : Moves m a s) : Moves m a (calAsk s x1) := by
  unfold calAsk
  refine Moves.ite (fun _ => ?_) (fun _ => ?_)
  · refine State.logEv_moves hm.up ?_
    assumption
  · refine calRequest_moves hm.up ?_
    assumption

theorem cmpOff_moves {m} {a s : State} {x1} (hm : Sub 0xc000000000000000000000000000000000000000000000000000060000000000000000000000000000a000 m) (h : Moves m a s) : Moves m a (cmpOff s x1) := by
  unfold cmpOff
  extract_lets +onlyGivenNames s1
  have h2 : Moves m a s1 := by
    unfold s1
    refine State.put_moves (Can.of hm) ?_
    refine State.put_moves (Can.of hm) ?_
    assumption
  clear_value s1
  refine State.tripRelease_moves hm.up ?_
  refine State.modCmp_moves hm.up ?_
  assumption

theorem postCvb_moves {m} {a s : State} {x1} (hm : Sub 0x200000000000000000e08000000000000000000000000000000000000001000000000000000000000000000000000000000000000000000000000000000000000c0000000000000000000000000000000000000000000000000000600600ff800000000000000000040ac08 m) (h : Moves m a s) : Moves m a (postCvb x1 s) := by
  unfold postCvb
  refine Moves.ite (fun _ => ?_) (fun _ => ?_)
  · refine convCfg_moves hm.up ?_
    assumption
  · refine Moves.ite (fun _ => ?_) (fun _ => ?_)
    · refine State.onIf_moves ?_ ?_
      · assumption
      · intro s1 h2
        refine calAsk_moves hm.up ?_
        assumption
    · refine Moves.ite (fun _ => ?_) (fun _ => ?_)
      · refine State.onIf_moves ?_ ?_
        · assumption
        · intro s3 h4
          refine injRequest_moves hm.up ?_
          assumption
      · refine Moves.ite (fun _ => ?_) (fun _ => ?_)
        · refine State.onIf_moves ?_ ?_
          · assumption
          · intro s5 h6
            refine cmpOff_moves hm.up ?_
            assumption
        · assumption

theorem postSeq_moves {m} {a s s' : State} {x1} (hm : Sub 0x200000000000000000e08000000000000000000000000000000000000001000000000000000000000000000000000000000000000000000000000000000000000000000000000000000000000000000000000000000000000003700006003b0000000000000000000402c08 m) (h : Moves m a s) (k : Moves m a s') : Moves m a (postSeq s x1 s') := by
  unfold postSeq
  refine Moves.ite (fun _ => ?_) (fun _ => ?_)
  · extract_lets +onlyGivenNames v1
    clear_value v1
    extract_lets +onlyGivenNames v2
    clear_value v2
    extract_lets +onlyGivenNames v3
    clear_value v3
    refine Moves.ite (fun _ => ?_) (fun _ => ?_)
    · refine State.modSeq_moves hm.up ?_
      assumption
    · refine Moves.ite (fun _ => ?_) (fun _ => ?_)
      · refine State.put_moves (Can.of hm) ?_
        refine State.modSeq_moves hm.up ?_
        assumption
      · assumption
  · refine Moves.ite (fun _ => ?_) (fun _ => ?_)
    · refine State.onIf_moves ?_ ?_
      · assumption
      · intro s4 h5
        refine seqTrigger_moves hm.up ?_
        assumption
    · refine Moves.ite (fun _ => ?_) (fun _ => ?_)
      · extract_lets +onlyGivenNames v6
        clear_value v6
        extract_lets +onlyGivenNames v7
        clear_value v7
        extract_lets +onlyGivenNames v8
        clear_value v8
        refine Moves.ite (fun _ => ?_) (fun _ => ?_)
        · assumption
        · extract_lets +onlyGivenNames v9
          clear_value v9
          refine Moves.cvb (s := s') hm.up ?_
          assumption
      · assumption

theorem srcRestore_moves {m} {a s : State} {x1} (hm : Sub 0x200000000000000000e0800000000000000000000000000000000000000100000000000000000000000000000000000000000000000000000000000000000000000000000000000000000000000000000000000000000000000000000000000000000000000000000404408 m) (h : Moves m a s) : Moves m a (srcRestore s x1) := by
  unfold srcRestore
  extract_lets +onlyGivenNames v1
  clear_value v1
  refine Moves.ite (fun _ => ?_) (fun _ => ?_)
  · refine State.modPif_moves hm.up ?_
    assumption
  · refine pifEv_moves hm.up ?_
    assumption

theorem postPif_moves {m} {a s s' : State} {x1} (hm : Sub 0x200000000000000000e0800000000000000000000000000000000000000100000000000000000000000000000000000000000000000000000000000000000000000000000000000000000000800000000000010000000000000000000000000000000000000000000404408 m) (h : Moves m a s) (k : Moves m a s') : Moves m a (postPif s x1 s') := by
  unfold postPif
  extract_lets +onlyGivenNames v1
  clear_value v1
  refine Moves.ite (fun _ => ?_) (fun _ => ?_)
  · extract_lets +onlyGivenNames s2
    have h3 : Moves m a s2 := by
      unfold s2
      refine State.onIf_moves ?_ ?_
      · assumption
      · intro s4 h5
        refine State.modPif_moves hm.up ?_
        refine State.put_moves (Can.of hm) ?_
        assumption
    clear_value s2
    refine State.onIf_moves ?_ ?_
    · assumption
    · intro s6 h7
      refine srcRestore_moves hm.up ?_
      assumption
  · refine Moves.ite (fun _ => ?_) (fun _ => ?_)
    · refine State.onIf_moves ?_ ?_
      · assumption
      · intro s8 h9
        refine State.modPif_moves hm.up ?_
        assumption
    · refine Moves.ite (fun _ => ?_) (fun _ => ?_)
      · refine encoFollow_moves hm.up ?_
        assumption
      · assumption

theorem carrEdge_moves {m} {a s : State} {x1 x2 x3} (hm : Sub 0x200000000000000000e08000000000000000000000000000000000000001000000000000000000020000000000000000000000000000000000000000000000000c000000000240f000240000000000000000000000000000000000000000000000000000080000000458408 m) (h : Moves m a s) : Moves m a (carrEdge s x1 x2 x3) := by
  unfold carrEdge
  refine Moves.ite (fun _ => ?_) (fun _ => ?_)
  · refine carrierBegin_moves hm.up ?_
    assumption
  · refine Moves.ite (fun _ => ?_) (fun _ => ?_)
    · refine carrierStop_moves hm.up ?_
      assumption
    · assumption

theorem legCommit_moves {m} {a s : State} {x1 x2} (hm : Sub 0x420000042000000000000000000000000000000000000000000000000000000000000008000 m) (h : Moves m a s) : Moves m a (legCommit s x1 x2) := by
  unfold legCommit
  refine auxCommit_moves hm.up ?_
  assumption

theorem fltCfg_moves {m} {a s s' : State} {x1 x2} (hm : Sub 0x200000000000000000e08000000000000000000000000000000000000001000000000000000000020000000004000000000000000000000000000000000000000c000000000000f000000000000000000000000000000000000000000000000000000000000000000458408 m) (h : Moves m a s) (k : Moves m a s') : Moves m a (fltCfg s s' x1 x2) := by
  unfold fltCfg
  extract_lets +onlyGivenNames v1
  clear_value v1
  extract_lets +onlyGivenNames s2
  have h3 : Moves m a s2 := by
    unfold s2
    refine State.tripRelease_moves hm.up ?_
    assumption
  clear_value s2
  extract_lets +onlyGivenNames s4
  have h5 : Moves m a s4 := by
    unfold s4
    refine Moves.ite (fun _ => ?_) (fun _ => ?_)
    · refine State.fltRelease_moves hm.up ?_
      assumption
    · refine State.onIf_moves ?_ ?_
      · assumption
      · intro s6 h7
        refine State.fltReapply_moves hm.up ?_
        assumption
  clear_value s4
  refine State.legsApply_moves hm.up ?_
  refine State.syncLvl_moves hm.up ?_
  assumption

theorem postLeg_moves {m} {a s s' : State} {x1} (hm : Sub 0x200000000000000000e08000000000000000000000000000000000000001000000000000000000020000000004010000000000000000000000000000000000000f000000000242f000242000000000000000000000000000000000000000000000000000080000000458408 m) (h : Moves m a s) (k : Moves m a s') : Moves m a (postLeg s x1 s') := by
  unfold postLeg
  extract_lets +onlyGivenNames v1
  clear_value v1
  refine Moves.ite (fun _ => ?_) (fun _ => ?_)
  · refine carrEdge_moves hm.up ?_
    assumption
  · refine Moves.ite (fun _ => ?_) (fun _ => ?_)
    · refine legCommit_moves hm.up ?_
      assumption
    · refine Moves.ite (fun _ => ?_) (fun _ => ?_)
      · refine State.latchClear_moves hm.up ?_
        assumption
      · refine Moves.ite (fun _ => ?_) (fun _ => ?_)
        · refine fltCfg_moves hm.up ?_ ?_
          · assumption
          · assumption
        · refine Moves.ite (fun _ => ?_) (fun _ => ?_)
          · refine fltCfg_moves hm.up ?_ ?_
            · assumption
            · assumption
          · refine Moves.ite (fun _ => ?_) (fun _ => ?_)
            · refine State.legsApply_moves hm.up ?_
              assumption
            · assumption

theorem swfailWrite_moves {m} {a s : State} {x1 x2 x3} (hm : Sub 0x200000000000000000e08000000000000000000000000000000000000001000000000000000000020000000000190039000000000000000000000000000000000c000000000000f000000000000000000000000000000000000000000000000000000000000000000448c08 m) (h : Moves m a s) : Moves m a (swfailWrite s x1 x2 x3) := by
  unfold swfailWrite
  extract_lets +onlyGivenNames v1
  clear_value v1
  extract_lets +onlyGivenNames v2
  clear_value v2
  extract_lets +onlyGivenNames v3
  clear_value v3
  extract_lets +onlyGivenNames v4
  clear_value v4
  extract_lets +onlyGivenNames v5
  clear_value v5
  extract_lets +onlyGivenNames v6
  clear_value v6
  extract_lets +onlyGivenNames v7
  clear_value v7
  refine Moves.ite (fun _ => ?_) (fun _ => ?_)
  · refine State.logEv_moves hm.up ?_
    assumption
  · extract_lets +onlyGivenNames s8
    have h9 : Moves m a s8 := by
      unfold s8
      refine State.put_moves (Can.of hm) ?_
      refine State.put_moves (Can.of hm) ?_
      assumption
    clear_value s8
    refine selUpdate_moves hm.up ?_
    refine swfailSet_moves hm.up ?_
    assumption

theorem postCh_moves {m} {a s s' : State} {x1} (hm : Sub 0x2000000000000007f0e080000000000000000000000000000000000000010000000000000000000200000000101900fd000000000000006000000000000000000c000080000242f0002420000000000000000000000000000000000000000000000000000e4800000c78c08 m) (h : Moves m a s) (k : Moves m a s') : Moves m a (postCh s x1 s') := by
  unfold postCh
  extract_lets +onlyGivenNames v1
  clear_value v1
  extract_lets +onlyGivenNames v2
  clear_value v2
  refine Moves.ite (fun _ => ?_) (fun _ => ?_)
  · refine State.onIf_moves ?_ ?_
    · assumption
    · intro s3 h4
      refine State.modChan_moves hm.up ?_
      assumption
  · refine Moves.ite (fun _ => ?_) (fun _ => ?_)
    · refine carrEdge_moves hm.up ?_
      assumption
    · refine Moves.ite (fun _ => ?_) (fun _ => ?_)
      · refine State.legsApply_moves hm.up ?_
        assumption
      · refine Moves.ite (fun _ => ?_) (fun _ => ?_)
        · refine commitIn_moves hm.up ?_
          assumption
        · refine Moves.ite (fun _ => ?_) (fun _ => ?_)
          · refine swfailWrite_moves hm.up ?_
            assumption
          · refine Moves.ite (fun _ => ?_) (fun _ => ?_)
            · refine selRefresh_moves hm.up ?_
              assumption
            · assumption

theorem postSp_moves {m} {a s : State} {x1} (hm : Sub 0x200000000000000000e08000000000000000000000000000000000000001000000000000000000000000000000000000040000000000000000000000000dc980000000000000000000000000000000000000000000000000000000000000000000000c00000000000420408 m) (h : Moves m a s) : Moves m a (postSp x1 s) := by
  unfold postSp
  extract_lets +onlyGivenNames v1
  clear_value v1
  refine Moves.ite (fun _ => ?_) (fun _ => ?_)
  · extract_lets +onlyGivenNames v2
    clear_value v2
    refine State.onIf_moves ?_ ?_
    · assumption
    · intro s3 h4
      refine State.put_moves (Can.of hm) ?_
      refine State.put_moves (Can.of hm) ?_
      assumption
  · refine Moves.ite (fun _ => ?_) (fun _ => ?_)
    · extract_lets +onlyGivenNames s5
      have h6 : Moves m a s5 := by
        unfold s5
        refine State.onIf_moves ?_ ?_
        · assumption
        · intro s7 h8
          refine swapRequest_moves hm.up ?_
          assumption
      clear_value s5
      refine State.onIf_moves ?_ ?_
      · assumption
      · intro s9 h10
        refine sealRequest_moves hm.up ?_
        assumption
    · refine Moves.ite (fun _ => ?_) (fun _ => ?_)
      · refine State.onIf_moves ?_ ?_
        · assumption
        · intro s11 h12
          refine fluxRestart_moves hm.up ?_
          assumption
      · assumption

theorem postPrt_moves {m} {a s s' : State} {x1} (hm : Sub 0x40000 m) (h : Moves m a s) (k : Moves m a s') : Moves m a (postPrt s x1 s') := by
  unfold postPrt
  extract_lets +onlyGivenNames v1
  clear_value v1
  refine State.onIf_moves ?_ ?_
  · assumption
  · intro s2 h3
    refine linkStart_moves hm.up ?_
    assumption

theorem postBdg_moves {m} {a s : State} {x1 x2} (hm : Sub 0x200000000000000000e08000000000000000000000000000000000000001000000000002803a0000000000000000000000000000000000000000000000000000000000000000000000000000000000000000000000000000000000000000000000000000000000000480c1c m) (h : Moves m a s) : Moves m a (postBdg x1 x2 s) := by
  unfold postBdg
  refine Moves.ite (fun _ => ?_) (fun _ => ?_)
  · refine State.onIf_moves ?_ ?_
    · assumption
    · intro s1 h2
      refine mbSubmit_moves hm.up ?_
      assumption
  · refine Moves.ite (fun _ => ?_) (fun _ => ?_)
    · refine wdgKick_moves hm.up ?_
      assumption
    · assumption

theorem postTls_moves {m} {a s s' : State} {x1} (hm : Sub 0x200000000000000000e08000000000000000000000000000000000000001000003018000000000020000000000000000000000000000000000000000000000000c000100000000f000000000000000000000000000000000000000000000000000000000000000000c48408 m) (h : Moves m a s) (k : Moves m a s') : Moves m a (postTls s x1 s') := by
  unfold postTls
  refine Moves.ite (fun _ => ?_) (fun _ => ?_)
  · extract_lets +onlyGivenNames v1
    clear_value v1
    extract_lets +onlyGivenNames v2
    clear_value v2
    refine Moves.ite (fun _ => ?_) (fun _ => ?_)
    · refine State.onIf_moves ?_ ?_
      · assumption
      · intro s3 h4
        refine settleRole_moves hm.up ?_
        assumption
    · refine Moves.ite (fun _ => ?_) (fun _ => ?_)
      · refine setRole_moves hm.up ?_
        refine State.modTls_moves hm.up ?_
        assumption
      · assumption
  · assumption

theorem postFpl_moves {m} {a s s' : State} {x1} (hm : Sub 0x200000000000000000e0800000000000000000000000000000001843c0013000010080000000000202000000100100fd800000000000006000000000000000000c000000000042f000042000000000000000000000000000000000000000000000000000000000003c7871c m) (h : Moves m a s) (k : Moves m a s') : Moves m a (postFpl s x1 s') := by
  unfold postFpl
  refine Moves.ite (fun _ => ?_) (fun _ => ?_)
  · refine sqTail_moves hm.up ?_
    assumption
  · refine Moves.ite (fun _ => ?_) (fun _ => ?_)
    · refine State.onIf_moves ?_ ?_
      · assumption
      · intro s1 h2
        refine hlkAddrSet_moves hm.up ?_
        assumption
    · assumption

theorem postSett_moves {m} {a s : State} {x1} (hm : Sub 0x3000000000000000000000000000000000000000000000000000000000000000000000000000000000000000000000000000000000000000000000000000000000000000000000000000000000000000000000000000000 m) (h : Moves m a s) : Moves m a (postSett x1 s) := by
  unfold postSett
  refine Moves.ite (fun _ => ?_) (fun _ => ?_)
  · refine settBudgetShow_moves hm.up ?_
    assumption
  · refine Moves.ite (fun _ => ?_) (fun _ => ?_)
    · refine settBudgetShow_moves hm.up ?_
      assumption
    · assumption

theorem postMtr_moves {m} {a s s' : State} {x1} (hm : Sub 0x200000000000000000e08000000003ff000000000000000000000000000100000000000000000000000000000000000000000000000000000000000000000000000000000000000000000000000000000000000000000000000000000000000000000000000000010400408 m) (h : Moves m a s) (k : Moves m a s') : Moves m a (postMtr s x1 s') := by
  unfold postMtr
  refine Moves.ite (fun _ => ?_) (fun _ => ?_)
  · refine State.onIf_moves ?_ ?_
    · assumption
    · intro s1 h2
      refine meterRestore_moves hm.up ?_
      assumption
  · refine State.onIf_moves ?_ ?_
    · assumption
    · intro s3 h4
      refine State.logEv_moves hm.up ?_
      refine mtrFlag_moves hm.up ?_
      assumption

theorem postCvu_moves {m} {a s : State} {x1} (hm : Sub 0x1800000000000000000000000000000000000000000000000000000000000000000000000000000000000000000000000000000000000000000000000000000000000000000000000000000000000000000000000000000000000000020000000 m) (h : Moves m a s) : Moves m a (postCvu x1 s) := by
  unfold postCvu
  extract_lets +onlyGivenNames v1
  clear_value v1
  refine Moves.ite (fun _ => ?_) (fun _ => ?_)
  · extract_lets +onlyGivenNames s2
    have h3 : Moves m a s2 := by
      unfold s2
      refine State.onIf_moves ?_ ?_
      · assumption
      · intro s4 h5
        refine cvuAliveClr_moves hm.up ?_
        assumption
    clear_value s2
    refine State.onIf_moves ?_ ?_
    · assumption
    · intro s6 h7
      refine cvuStart_moves hm.up ?_
      assumption
  · refine Moves.ite (fun _ => ?_) (fun _ => ?_)
    · refine cvuFeed_moves hm.up ?_
      assumption
    · refine Moves.ite (fun _ => ?_) (fun _ => ?_)
      · refine cvuFeed_moves hm.up ?_
        assumption
      · refine Moves.ite (fun _ => ?_) (fun _ => ?_)
        · refine cvuFeed_moves hm.up ?_
          assumption
        · refine Moves.ite (fun _ => ?_) (fun _ => ?_)
          · refine cvuAlive_moves hm.up ?_
            assumption
          · assumption

theorem owlLoad_moves {m} {a s : State} (hm : Sub 0x107800000000000000000000000000000000000000000000000000000000000000000000000000000000000000000000000000000000000000000000000000000000000000000000000000000000000000000000000000000000000000000000000380 m) (h : Moves m a s) : Moves m a (owlLoad s) := by
  unfold owlLoad
  extract_lets +onlyGivenNames v1
  clear_value v1
  extract_lets +onlyGivenNames v2
  clear_value v2
  extract_lets +onlyGivenNames s3
  have h4 : Moves m a s3 := by
    unfold s3
    refine State.put_moves (Can.of hm) ?_
    refine State.put_moves (Can.of hm) ?_
    refine State.putOw_moves hm.up ?_
    assumption
  clear_value s3
  extract_lets +onlyGivenNames s5
  have h6 : Moves m a s5 := by
    unfold s5
    refine State.onIf_moves ?_ ?_
    · assumption
    · intro s7 h8
      refine State.put_moves (Can.of hm) ?_
      refine State.put_moves (Can.of hm) ?_
      assumption
  clear_value s5
  refine State.onIf_moves ?_ ?_
  · assumption
  · intro s9 h10
    refine State.put_moves (Can.of hm) ?_
    assumption

theorem owlSend_moves {m} {a s : State} (hm : Sub 0x400000 m) (h : Moves m a s) : Moves m a (owlSend s) := by
  unfold owlSend
  extract_lets +onlyGivenNames v1
  clear_value v1
  refine Moves.owl (s := s) hm.up ?_
  assumption

theorem postOwl_moves {m} {a s : State} {x1} (hm : Sub 0x200000000000002031ef80000000000000000000000000000000000000010000000000000000000200000000100000fc000000000000006000000000000000000c000080000000f000000000000000000000000000000000000000000000000000000000000000000478788 m) (h : Moves m a s) : Moves m a (postOwl x1 s) := by
  unfold postOwl
  refine Moves.ite (fun _ => ?_) (fun _ => ?_)
  · refine Moves.ite (fun _ => ?_) (fun _ => ?_)
    · refine endReplay_moves hm.up ?_
      assumption
    · extract_lets +onlyGivenNames s1
      have h2 : Moves m a s1 := by
        unfold s1
        refine State.onIf_moves ?_ ?_
        · assumption
        · intro s3 h4
          refine owlArm_moves hm.up ?_
          assumption
      clear_value s1
      refine State.onIf_moves ?_ ?_
      · assumption
      · intro s5 h6
        refine State.owlTrig_moves hm.up ?_
        assumption
  · refine Moves.ite (fun _ => ?_) (fun _ => ?_)
    · refine owlLoad_moves hm.up ?_
      assumption
    · refine Moves.ite (fun _ => ?_) (fun _ => ?_)
      · refine State.onIf_moves ?_ ?_
        · assumption
        · intro s7 h8
          refine owlSend_moves hm.up ?_
          refine State.put_moves (Can.of hm) ?_
          assumption
      · assumption

theorem postWrite_moves {m} {a s s' : State} {x1 x2} (hm : Sub 0x20003008000b0827f1ef8018000003ff000000003000000000001843c001f00003018002803a00020a000000141900fdb40000000000006000000000000dcb804f0001c0000242f000242000800000000000010000000000000370600600ff8000000c002e48000ffffffff m) (h : Moves m a s) (k : Moves m a s') : Moves m a (postWrite s x1 x2 s') := by
  unfold postWrite
  split
  · refine postSys_moves hm.up ?_
    assumption
  · refine postPwr_moves hm.up ?_
    assumption
  · refine postPwr_moves hm.up ?_
    assumption
  · refine postPwr_moves hm.up ?_
    assumption
  · refine postCvb_moves hm.up ?_
    assumption
  · refine postSeq_moves hm.up ?_ ?_
    · assumption
    · assumption
  · refine postPif_moves hm.up ?_ ?_
    · assumption
    · assumption
  · refine postLeg_moves hm.up ?_ ?_
    · assumption
    · assumption
  · refine postCh_moves hm.up ?_ ?_
    · assumption
    · assumption
  · refine postSp_moves hm.up ?_
    assumption
  · refine postPrt_moves hm.up ?_ ?_
    · assumption
    · assumption
  · refine postBdg_moves hm.up ?_
    assumption
  · refine postTls_moves hm.up ?_ ?_
    · assumption
    · assumption
  · refine postFpl_moves hm.up ?_ ?_
    · assumption
    · assumption
  · refine postFpl_moves hm.up ?_ ?_
    · assumption
    · assumption
  · refine postSett_moves hm.up ?_
    assumption
  · refine postMtr_moves hm.up ?_ ?_
    · assumption
    · assumption
  · refine postCvu_moves hm.up ?_
    assumption
  · refine postOwl_moves hm.up ?_
    assumption
  · assumption

theorem findReg_mem {l : List Reg} {addr : Nat} {r : Reg} {i j : Nat} (h : findReg l addr = some (r, i, j)) : r ∈ l := by
  induction l with
  | nil => cases h
  | cons x l ih =>
    simp only [findReg] at h
    split at h
    · cases h
      exact List.mem_cons_self
    · exact List.mem_cons_of_mem _ (ih h)

theorem regOf_mem {addr : Nat} {r : Reg} {i j : Nat} (h : regOf addr = some (r, i, j)) : r ∈ regTable := by
  simp only [regOf] at h
  split at h
  · rename_i e
    split at h
    · cases h
    · cases h
      exact findReg_mem e
  · cases h

set_option maxRecDepth 20000 in
theorem rcClear_flds : (regTable.all (fun r => r.flds.all (fun f => f.acc != .rc || 0x100000000002000000000100000001001c0000010000e00300041b0005c00000080003f08000000000200000000000000000000000000201000e000000000000000000c0c0000c000000180000000000025000000100010000020000002200000040000000000000.testBit (f.id + 40)))) = true := by
  decide

theorem rcClear_moves {m} {a s : State} {x1 x2 x3} (hr : x1 ∈ regTable) (hm : Sub 0x100000000002000000000100000001001c0000010000e00300041b0005c00000080003f08000000000200000000000000000000000000201000e000000000000000000c0c0000c000000180000000000025000000100010000020000002200000040000000000008 m) (h : Moves m a s) :
    Moves m a (rcClear s x1 x2 x3) := by
  have key : ∀ f ∈ x1.flds.filter (fun f => f.acc = .rc), Can m f := by
    intro f hf
    obtain ⟨hf, e⟩ := List.mem_filter.mp hf
    have k := List.all_eq_true.mp (List.all_eq_true.mp rcClear_flds x1 hr) f hf
    simp only [decide_eq_true_eq] at e
    simp only [e, bne_self_eq_false, Bool.false_or] at k
    exact Can.of (hm.up : Sub 0x100000000002000000000100000001001c0000010000e00300041b0005c00000080003f08000000000200000000000000000000000000201000e000000000000000000c0c0000c000000180000000000025000000100010000020000002200000040000000000000 m) k
  simp only [rcClear]
  refine State.onIf_moves ?_ (fun _ h => State.logAgain_moves hm.up h)
  unfold State.forL
  generalize x1.flds.filter (fun f => f.acc = .rc) = l at key
  induction l generalizing s with
  | nil => exact h
  | cons f l ih =>
    exact ih (h.put _ _ _ _ (key f List.mem_cons_self)) (fun g hg => key g (List.mem_cons_of_mem _ hg))

theorem regRead_moves {m} {a s : State} {x1 x2} (hm : Sub 0x2000000100000000002000000000100000001001c0000010000e00300041b0005c00000080003f08000000000200000000000000000000000000201000e000000000000000000c0c0000c000000180000000000025000000100010000020000002200000040000002001008 m) (h : Moves m a s) :
    Moves m a (regRead s x1 x2).2 := by
  simp only [regRead]
  split
  · exact h
  · rename_i e
    repeat'
      first
      | exact plicClaim_moves hm.up h
      | exact State.modPort_moves hm.up h
      | exact h
      | exact rcClear_moves (regOf_mem e) hm.up h
      | split

theorem showAfter_moves {m} {a s : State} {x1} (hm : Sub 0x18000000000000 m) (h : Moves m a s) : Moves m a (showAfter s x1) := by
  unfold showAfter
  refine Moves.ite (fun _ => ?_) (fun _ => ?_)
  · refine State.forL_moves ?_ ?_
    · assumption
    · intro v1 s2 h3
      refine budgetShow_moves hm.up ?_
      assumption
  · assumption

theorem writeReg_moves {m} {a s : State} {x1 x2 x3} (hm : Sub 0x20003008000b0827f1ef8018000003ff000000003000000000001843c001f00003018002803a00020a000000141900fdb40000000000006000000000000dcb804f0001c0000242f000242000800000000000010000000000000370600600ff8000000c002fc8000ffffffff m) (h : Moves m a s) : Moves m a (writeReg s x1 x2 x3) := by
  unfold writeReg
  extract_lets +onlyGivenNames v1
  clear_value v1
  extract_lets +onlyGivenNames v2
  clear_value v2
  extract_lets +onlyGivenNames s3
  have h4 : Moves m a s3 := by
    unfold s3
    refine State.onIf_moves ?_ ?_
    · assumption
    · intro s5 h6
      refine State.logEv_moves hm.up ?_
      assumption
  clear_value s3
  extract_lets +onlyGivenNames s7
  have h8 : Moves m a s7 := by
    unfold s7
    refine applyWr_moves hm.up ?_
    assumption
  clear_value s7
  split
  · assumption
  · refine State.logEv_moves hm.up ?_
    assumption
  · refine showAfter_moves hm.up ?_
    refine postWrite_moves hm.up ?_ ?_
    · assumption
    · assumption
  · extract_lets +onlyGivenNames s20
    have h21 : Moves m a s20 := by
      unfold s20
      refine postWrite_moves hm.up ?_ ?_
      · assumption
      · refine Moves.ite (fun _ => ?_) (fun _ => ?_)
        · assumption
        · refine applyWr_moves hm.up ?_
          assumption
    clear_value s20
    refine showAfter_moves hm.up ?_
    split
    · refine State.logEv_moves hm.up ?_
      assumption
    · assumption

theorem regWrite_moves {m} {a s : State} {x1 x2 x3 x4} (hm : Sub 0x20003008000b0827f1ef8018000003ff000000003000000000001843c001f00003018002803a00020a000000141900fdb40000000000006000000000000dcb804f0001c0000242f000242000800000000000010000000000000370600600ff8000000c002fc8000ffffffff m) (h : Moves m a s) : Moves m a (regWrite s x1 x2 x3 x4).2 := by
  unfold regWrite
  split
  · dsimp -zeta only
    assumption
  · extract_lets +onlyGivenNames v8
    clear_value v8
    split
    · dsimp -zeta only
      assumption
    · split
      · dsimp -zeta only
        assumption
      · extract_lets +onlyGivenNames v13
        clear_value v13
        split
        · dsimp -zeta only
          assumption
        · extract_lets +onlyGivenNames s16
          have h17 : Moves m a s16 := by
            unfold s16
            refine State.onIf_moves ?_ ?_
            · assumption
            · intro s18 h19
              refine State.owlRec_moves hm.up ?_
              assumption
          clear_value s16
          dsimp -zeta only
          refine writeReg_moves hm.up ?_
          assumption

theorem busReadRaw_moves {m} {a s : State} {x1 x2 x3} (hm : Sub 0x280000010000000000e080000000100000001001c0000010000e00300041b0005c00000080003f08000000000200000000000000000000000000201000e000000000000000000c0c0000c000000180000000000025000000100010000020000003e00000040000002401f3c m) (h : Moves m a s) : Moves m a (busReadRaw s x1 x2 x3) := by
  unfold busReadRaw
  split
  · refine Moves.ite (fun _ => ?_) (fun _ => ?_)
    · refine busErr_moves hm.up ?_
      assumption
    · refine Moves.ite (fun _ => ?_) (fun _ => ?_)
      · refine busErr_moves hm.up ?_
        assumption
      · refine Moves.ite (fun _ => ?_) (fun _ => ?_)
        · refine State.answer_moves hm.up ?_
          assumption
        · extract_lets +onlyGivenNames v5
          have h6 : Moves m a v5.2 := by
            unfold v5
            refine regRead_moves hm.up ?_
            assumption
          clear_value v5
          refine State.answer_moves hm.up ?_
          assumption
  · refine Moves.ite (fun _ => ?_) (fun _ => ?_)
    · refine sramAccess_moves hm.up ?_
      assumption
    · refine Moves.ite (fun _ => ?_) (fun _ => ?_)
      · refine slotRead_moves hm.up ?_
        assumption
      · refine Moves.ite (fun _ => ?_) (fun _ => ?_)
        · refine Moves.ite (fun _ => ?_) (fun _ => ?_)
          · refine busErr_moves hm.up ?_
            assumption
          · refine Moves.ite (fun _ => ?_) (fun _ => ?_)
            · refine busErr_moves hm.up ?_
              assumption
            · refine State.answer_moves hm.up ?_
              refine State.freeNext_moves hm.up ?_
              assumption
        · refine Moves.ite (fun _ => ?_) (fun _ => ?_)
          · refine Moves.ite (fun _ => ?_) (fun _ => ?_)
            · refine busErr_moves hm.up ?_
              assumption
            · refine Moves.ite (fun _ => ?_) (fun _ => ?_)
              · refine busErr_moves hm.up ?_
                assumption
              · refine State.answer_moves hm.up ?_
                assumption
          · refine Moves.ite (fun _ => ?_) (fun _ => ?_)
            · refine State.answer_moves hm.up ?_
              assumption
            · refine busErr_moves hm.up ?_
              assumption

theorem busRead_moves {m} {a s : State} {x1 x2 x3} (hm : Sub 0x2800000100000007f0e080000000100000001001c0000010000e00300041b0005c00000080003f0a00000000120000fc00000000000000600000201000e000000c00008000000cfc0000c000000180000000000025000000100010000020000003e00000040000002479f3c m) (h : Moves m a s) : Moves m a (busRead s x1 x2 x3) := by
  unfold busRead
  split
  · refine busReadRaw_moves hm.up ?_
    assumption
  · refine Moves.ite (fun _ => ?_) (fun _ => ?_)
    · assumption
    · split
      · rename_i v6 s7 v8 e9
        have h10 : Moves m a s7 := by
          refine Moves.of_fst e9 ?_
          refine replayCoreRead_moves hm.up ?_
          assumption
        refine State.answer_moves hm.up ?_
        assumption
      · rename_i v12 s13 e14
        have h15 : Moves m a s13 := by
          refine Moves.of_fst e14 ?_
          refine replayCoreRead_moves hm.up ?_
          assumption
        extract_lets +onlyGivenNames s17
        have h18 : Moves m a s17 := by
          unfold s17
          refine busReadRaw_moves hm.up ?_
          assumption
        clear_value s17
        split
        · refine State.onIf_moves ?_ ?_
          · assumption
          · intro s22 h23
            refine State.freeNext_moves hm.up ?_
            refine State.owlRec_moves hm.up ?_
            assumption
        · assumption

theorem busWrite_moves {m} {a s : State} {x1 x2 x3 x4} (hm : Sub 0x28003008000b0827f1ef8018000003ff000000003000000000001843c001f00003018002803a00020a000000141900fdb40000000000006000000000000dcb804f0001c0000242f000242000800000000000010000000000000370600600ff8003ec0c002fc8000ffffffff m) (h : Moves m a s) : Moves m a (busWrite s x1 x2 x3 x4) := by
  unfold busWrite
  refine Moves.ite (fun _ => ?_) (fun _ => ?_)
  · assumption
  · refine Moves.ite (fun _ => ?_) (fun _ => ?_)
    · refine State.answer_moves hm.up ?_
      assumption
    · split
      · refine Moves.ite (fun _ => ?_) (fun _ => ?_)
        · refine busErr_moves hm.up ?_
          assumption
        · refine Moves.ite (fun _ => ?_) (fun _ => ?_)
          · refine busErr_moves hm.up ?_
            assumption
          · refine Moves.ite (fun _ => ?_) (fun _ => ?_)
            · refine busErr_moves hm.up ?_
              assumption
            · split
              · rename_i v5 s6 e7
                have h9 : Moves m a s6 := by
                  refine Moves.of_snd e7 ?_
                  refine regWrite_moves hm.up ?_
                  assumption
                refine State.answer_moves hm.up ?_
                assumption
              · rename_i v10 s11 e12
                have h14 : Moves m a s11 := by
                  refine Moves.of_snd e12 ?_
                  refine regWrite_moves hm.up ?_
                  assumption
                refine busErr_moves hm.up ?_
                assumption
      · refine Moves.ite (fun _ => ?_) (fun _ => ?_)
        · refine sramAccess_moves hm.up ?_
          assumption
        · refine Moves.ite (fun _ => ?_) (fun _ => ?_)
          · refine slotWrite_moves hm.up ?_
            assumption
          · refine Moves.ite (fun _ => ?_) (fun _ => ?_)
            · refine busErr_moves hm.up ?_
              assumption
            · refine Moves.ite (fun _ => ?_) (fun _ => ?_)
              · refine Moves.ite (fun _ => ?_) (fun _ => ?_)
                · refine busErr_moves hm.up ?_
                  assumption
                · refine Moves.ite (fun _ => ?_) (fun _ => ?_)
                  · refine busErr_moves hm.up ?_
                    assumption
                  · refine State.answer_moves hm.up ?_
                    refine State.putBytes_moves hm.up ?_
                    assumption
              · refine busErr_moves hm.up ?_
                assumption

theorem wrFld_moves {m} {a s : State} {x1 x2 x3 x4 x5} (hm : Sub 0x28003008000b0827f1ef8018000003ff000000003000000000001843c001f00003018002803a00020a000000141900fdb40000000000006000000000000dcb804f0001c0000242f000242000800000000000010000000000000370600600ff8003ec0c002fc8000ffffffff m) (cx2 : Can m x2) (h : Moves m a s) : Ends m a (wrFld s x1 x2 x3 x4 x5) := by
  unfold wrFld
  refine live_moves ?_ ?_
  · assumption
  · intro s1 h2
    refine busWrite_moves hm.up ?_
    assumption

theorem execRegisterWrite_moves {m} {a s : State} {x1 x2 x3 x4} (hm : Sub 0x28003008000b0827f1ef8018000003ff000000003000000000001843c001f00003018002803a00020a000000141900fdb40000000000006000000000000dcb804f0001c0000242f000242000800000000000010000000000000370600600ff8003ec0c002fc8000ffffffff m) (h : Moves m a s) : Ends m a (execRegisterWrite x1 x2 x3 x4 s) := by
  unfold execRegisterWrite
  refine live_moves ?_ ?_
  · assumption
  · intro s1 h2
    refine busWrite_moves hm.up ?_
    assumption

theorem execRegisterRead_moves {m} {a s : State} {x1 x2 x3} (hm : Sub 0x2800000100000007f0e080000000100000001001c0000010000e00300041b0005c00000080003f0a00000000120000fc00000000000000600000201000e000000c00008000000cfc0000c000000180000000000025000000100010000020000003e00000040000002479f3c m) (h : Moves m a s) : Ends m a (execRegisterRead x1 x2 x3 s) := by
  unfold execRegisterRead
  refine live_moves ?_ ?_
  · assumption
  · intro s1 h2
    refine busRead_moves hm.up ?_
    assumption

theorem execTsLoRead_moves {m} {a s : State} {x1} (hm : Sub 0x2800000100000007f0e080000000100000001001c0000010000e00300041b0005c00000080003f0a00000000120000fc00000000000000600000201000e000000c00008000000cfc0000c000000180000000000025000000100010000020000003e00000040000002479f3c m) (h : Moves m a s) : Ends m a (execTsLoRead x1 s) := by
  unfold execTsLoRead
  refine live_moves ?_ ?_
  · assumption
  · intro s1 h2
    refine busRead_moves hm.up ?_
    assumption

theorem execSatClear_moves {m} {a s : State} {x1 x2 x3} (hm : Sub 0x28003008000b0827f1ef8018000003ff000000003000000000001843c001f00003018002803a00020a000000141900fdb40000000000006000000000000dcb804f0001c0000242f000242000800000000000010000000000000370600600ff8003ee0c002fc8000ffffffff m) (h : Moves m a s) : Ends m a (execSatClear x1 x2 x3 s) := by
  unfold execSatClear
  refine wrFld_moves hm.up (Can.of hm) ?_
  assumption

theorem execProfileRequestWrite_moves {m} {a s : State} {x1 x2} (hm : Sub 0x28003008000b0827f1ef8018000003ff000000003000000000001843c001f00003018002803a00020a000000141900fdb40000000000006000000000000dcb804f0001c0000242f000242000800000000000010000000000000370600600ff8003ec0c002fc8000ffffffff m) (h : Moves m a s) : Ends m a (execProfileRequestWrite x1 x2 s) := by
  unfold execProfileRequestWrite
  refine wrFld_moves hm.up (Can.of hm) ?_
  assumption

theorem execSeqSwtrig_moves {m} {a s : State} {x1 x2} (hm : Sub 0x28003008000b0827f1ef8018000003ff000000003000000000001843c001f00003018002803a00020a000000141900fdb40000000000006000000000000dcb804f0001c0000242f000242000800000000000010000000000000770600600ff8003ec0c002fc8000ffffffff m) (h : Moves m a s) : Ends m a (execSeqSwtrig x1 x2 s) := by
  unfold execSeqSwtrig
  refine wrFld_moves hm.up (Can.of hm) ?_
  assumption

theorem execSeqDisable_moves {m} {a s : State} {x1 x2 x3} (hm : Sub 0x28003008000b0827f1ef8018000003ff000000003000000000001843c001f00003018002803a00020a000000141900fdb40000000000006000000000000dcb804f0001c0000242f000242000800000000000010000000000000372600600ff8003ec0c002fc8000ffffffff m) (h : Moves m a s) : Ends m a (execSeqDisable x1 x2 x3 s) := by
  unfold execSeqDisable
  refine wrFld_moves hm.up (Can.of hm) ?_
  assumption

theorem execInjectionStart_moves {m} {a s : State} {x1 x2 x3 x4} (hm : Sub 0x28003008000b0827f1ef8018000003ff000000003000000000001843c001f00003018002803a00020a000000141900fdb40000000000006000000000000dcb804f0001c0000242f000242000800000000000010000000000000370600600ff8003ec0c002fc8000ffffffff m) (h : Moves m a s) : Ends m a (execInjectionStart x1 x2 x3 x4 s) := by
  unfold execInjectionStart
  refine wrFld_moves hm.up (Can.of hm) ?_
  assumption

theorem execCalFullRequest_moves {m} {a s : State} {x1 x2} (hm : Sub 0x28003008000b0827f1ef8018000003ff000000003000000000001843c001f00003018002803a00020a000000141900fdb40000000000006000000000000dcb804f0001c0000242f000242000800000000000010000000000000370600600ff8003ec0c002fc8000ffffffff m) (h : Moves m a s) : Ends m a (execCalFullRequest x1 x2 s) := by
  unfold execCalFullRequest
  refine wrFld_moves hm.up (Can.of hm) ?_
  assumption

theorem execSrcRestore_moves {m} {a s : State} {x1 x2 x3} (hm : Sub 0x28003008000b0827f1ef8018000003ff000000003000000000001843c001f00003018002803a00020a000000141900fdb40000000000006000000000000dcb804f0001c0000242f000242000800000000000010000000800000370600600ff8003ec0c002fc8000ffffffff m) (h : Moves m a s) : Ends m a (execSrcRestore x1 x2 x3 s) := by
  unfold execSrcRestore
  refine wrFld_moves hm.up (Can.of hm) ?_
  assumption

theorem carrWr_moves {m} {a s : State} {x1 x2 x3} (hm : Sub 0x28003008000b0827f1ef8018000003ff000000003000000000001843c001f00003018002803a00020a000000141900fdb40000000000006000000000000dcb804f0001c0020242f000242080800000000000010000000000000370600600ff8003ec0c002fc8000ffffffff m) (h : Moves m a s) : Ends m a (carrWr s x1 x2 x3) := by
  unfold carrWr
  split
  · refine wrFld_moves hm.up (Can.of hm) ?_
    assumption
  · refine wrFld_moves hm.up (Can.of hm) ?_
    assumption

theorem execCarrierEnable_moves {m} {a s : State} {x1 x2 x3} (hm : Sub 0x28003008000b0827f1ef8018000003ff000000003000000000001843c001f00003018002803a00020a000000141900fdb40000000000006000000000000dcb804f0001c0020242f000242080800000000000010000000000000370600600ff8003ec0c002fc8000ffffffff m) (h : Moves m a s) : Ends m a (execCarrierEnable x1 x2 x3 s) := by
  unfold execCarrierEnable
  refine carrWr_moves hm.up ?_
  assumption

theorem execCarrierDisable_moves {m} {a s : State} {x1 x2 x3} (hm : Sub 0x28003008000b0827f1ef8018000003ff000000003000000000001843c001f00003018002803a00020a000000141900fdb40000000000006000000000000dcb804f0001c0020242f000242080800000000000010000000000000370600600ff8003ec0c002fc8000ffffffff m) (h : Moves m a s) : Ends m a (execCarrierDisable x1 x2 x3 s) := by
  unfold execCarrierDisable
  refine carrWr_moves hm.up ?_
  assumption

theorem execCommitWrite_moves {m} {a s : State} {x1 x2 x3} (hm : Sub 0x28003008000b0827f1ef8018000003ff000000003000000000001843c001f00003018002803a00020a000000141900fdb40000000000006000000000000dcb804f0001c0000242f000242400800000000000010000000000000370600600ff8003ec0c002fc8000ffffffff m) (h : Moves m a s) : Ends m a (execCommitWrite x1 x2 x3 s) := by
  unfold execCommitWrite
  refine wrFld_moves hm.up (Can.of hm) ?_
  assumption

theorem execLegCommit_moves {m} {a s : State} {x1 x2 x3} (hm : Sub 0x28003008000b0827f1ef8018000003ff000000003000000000001843c001f00003018002803a00020a000000141900fdb40000000000006000000000000dcb804f0001c0100242f000242000800000000000010000000000000370600600ff8003ec0c002fc8000ffffffff m) (h : Moves m a s) : Ends m a (execLegCommit x1 x2 x3 s) := by
  unfold execLegCommit
  refine wrFld_moves hm.up (Can.of hm) ?_
  assumption

theorem execFltLatchClear_moves {m} {a s : State} {x1 x2} (hm : Sub 0x28003008000b0827f1ef8018000003ff000000003000000000001843c001f00003018002803a00020a000000141900fdb40000000000006000000000000dcb804f0001c0000242f000242000800000000000010000000000000370600600ff8003ec0c002fc8000ffffffff m) (h : Moves m a s) : Ends m a (execFltLatchClear x1 x2 s) := by
  unfold execFltLatchClear
  refine wrFld_moves hm.up (Can.of hm) ?_
  assumption

theorem execSwapRequest_moves {m} {a s : State} {x1 x2 x3} (hm : Sub 0x28003008000b0827f1ef8018000003ff000000003000000000001843c001f00003018002803a00020a000000141900fdb40000000000006000000000000dcb804f0001c0000242f000242000800000000000010000000000000370600600ff8003ec0c002fc8000ffffffff m) (h : Moves m a s) : Ends m a (execSwapRequest x1 x2 x3 s) := by
  unfold execSwapRequest
  refine wrFld_moves hm.up (Can.of hm) ?_
  assumption

theorem execSealRequest_moves {m} {a s : State} {x1 x2 x3} (hm : Sub 0x28003008000b0827f1ef8018000003ff000000003000000000001843c001f00003018002803a00020a000000141900fdb40000000000006000000000000ddb804f0001c0000242f000242000800000000000010000000000000370600600ff8003ec0c002fc8000ffffffff m) (h : Moves m a s) : Ends m a (execSealRequest x1 x2 x3 s) := by
  unfold execSealRequest
  refine wrFld_moves hm.up (Can.of hm) ?_
  assumption

theorem execKeAbnClear_moves {m} {a s : State} {x1 x2 x3} (hm : Sub 0x28003008000b0827f1ef8018000003ff000000003000000000001843c001f00003018002803a00020a000000141900fdb40000000000006200000000000dcb804f0001c0000242f000242000800000000000010000000000000370600600ff8003ec0c002fc8000ffffffff m) (h : Moves m a s) : Ends m a (execKeAbnClear x1 x2 x3 s) := by
  unfold execKeAbnClear
  refine wrFld_moves hm.up (Can.of hm) ?_
  assumption

theorem execSwfailWrite_moves {m} {a s : State} {x1 x2 x3} (hm : Sub 0x28003008000b0827f1ef8018000003ff000000003000000000001843c001f00003018002803a00020a000000141900fdb40000000000006000000000000dcb804f0001c0000242f000242000800000000000010000000000000370600600ff8003ec0c002fc8000ffffffff m) (h : Moves m a s) : Ends m a (execSwfailWrite x1 x2 x3 s) := by
  unfold execSwfailWrite
  refine wrFld_moves hm.up (Can.of hm) ?_
  assumption

theorem execLinkEnable_moves {m} {a s : State} {x1 x2 x3} (hm : Sub 0x28003008000b0827f1ef8018000003ff000000003000000000001843c001f00003018002803a00020a000000941900fdb40000000000006000000000000dcb804f0001c0000242f000242000800000000000010000000000000370600600ff8003ec0c002fc8000ffffffff m) (h : Moves m a s) : Ends m a (execLinkEnable x1 x2 x3 s) := by
  unfold execLinkEnable
  refine wrFld_moves hm.up (Can.of hm) ?_
  assumption

theorem execWdgKick_moves {m} {a s : State} {x1 x2 x3} (hm : Sub 0x28003008000b0827f1ef8018000003ff000000003000000000001843c001f00003018002c03a00020a000000141900fdb40000000000006000000000000dcb804f0001c0000242f000242000800000000000010000000000000370600600ff8003ec0c002fc8000ffffffff m) (h : Moves m a s) : Ends m a (execWdgKick x1 x2 x3 s) := by
  unfold execWdgKick
  refine wrFld_moves hm.up (Can.of hm) ?_
  assumption

theorem execTlsEnable_moves {m} {a s : State} {x1 x2} (hm : Sub 0x28003008000b0827f1ef8018000003ff000000003000000000001843c001f00003018802803a00020a000000141900fdb40000000000006000000000000dcb804f0001c0000242f000242000800000000000010000000000000370600600ff8003ec0c002fc8000ffffffff m) (h : Moves m a s) : Ends m a (execTlsEnable x1 x2 s) := by
  unfold execTlsEnable
  refine wrFld_moves hm.up (Can.of hm) ?_
  assumption

theorem execTlsDisable_moves {m} {a s : State} {x1 x2} (hm : Sub 0x28003008000b0827f1ef8018000003ff000000003000000000001843c001f00003018802803a00020a000000141900fdb40000000000006000000000000dcb804f0001c0000242f000242000800000000000010000000000000370600600ff8003ec0c002fc8000ffffffff m) (h : Moves m a s) : Ends m a (execTlsDisable x1 x2 s) := by
  unfold execTlsDisable
  refine wrFld_moves hm.up (Can.of hm) ?_
  assumption

theorem execSqTailWrite_moves {m} {a s : State} {x1 x2 x3} (hm : Sub 0x28003008000b0827f1ef8018000003ff000000003000000000001843c001f00003018002803a00020a000000141900fdb40000000000006000000000000dcb804f0001c0000242f000242000800000000000010000000000000370600600ff8003ec0c002fc8000ffffffff m) (h : Moves m a s) : Ends m a (execSqTailWrite x1 x2 x3 s) := by
  unfold execSqTailWrite
  refine wrFld_moves hm.up (Can.of hm) ?_
  assumption

theorem execPlicClaim_moves {m} {a s : State} {x1 x2} (hm : Sub 0x2800000100000007f0e080000000100000001001c0000010000e00300041b0005c00000080003f0a00000000120000fc00000000000000600000201000e000000c00008000000cfc0000c000000180000000000025000000100010000020000003e00000040000002479f3c m) (h : Moves m a s) : Ends m a (execPlicClaim x1 x2 s) := by
  unfold execPlicClaim
  refine live_moves ?_ ?_
  · assumption
  · intro s1 h2
    refine busRead_moves hm.up ?_
    assumption

theorem execPlicComplete_moves {m} {a s : State} {x1 x2 x3} (hm : Sub 0x128003008000b0827f1ef8018000003ff000000003000000000001843c001f00003018002803a00020a000000141900fdb40000000000006000000000000dcb804f0001c0000242f000242000800000000000010000000000000370600600ff8003ec0c002fc8000ffffffff m) (h : Moves m a s) : Ends m a (execPlicComplete x1 x2 x3 s) := by
  unfold execPlicComplete
  refine wrFld_moves hm.up (Can.of hm) ?_
  assumption

theorem execMeterRestore_moves {m} {a s : State} {x1 x2} (hm : Sub 0x28003008000b0827f1ef8018000103ff000000003000000000001843c001f00003018002803a00020a000000141900fdb40000000000006000000000000dcb804f0001c0000242f000242000800000000000010000000000000370600600ff8003ec0c002fc8000ffffffff m) (h : Moves m a s) : Ends m a (execMeterRestore x1 x2 s) := by
  unfold execMeterRestore
  refine wrFld_moves hm.up (Can.of hm) ?_
  assumption

theorem execCvuStart_moves {m} {a s : State} {x1 x2 x3} (hm : Sub 0x28003008000b0827f1ef8018100003ff000000003000000000001843c001f00003018002803a00020a000000141900fdb40000000000006000000000000dcb804f0001c0000242f000242000800000000000010000000000000370600600ff8003ec0c002fc8000ffffffff m) (h : Moves m a s) : Ends m a (execCvuStart x1 x2 x3 s) := by
  unfold execCvuStart
  refine wrFld_moves hm.up (Can.of hm) ?_
  assumption

theorem execCvuAliveClr_moves {m} {a s : State} {x1 x2 x3} (hm : Sub 0x28003008000b0827f1ef8018080003ff000000003000000000001843c001f00003018002803a00020a000000141900fdb40000000000006000000000000dcb804f0001c0000242f000242000800000000000010000000000000370600600ff8003ec0c002fc8000ffffffff m) (h : Moves m a s) : Ends m a (execCvuAliveClr x1 x2 x3 s) := by
  unfold execCvuAliveClr
  refine wrFld_moves hm.up (Can.of hm) ?_
  assumption

theorem execCvuData_moves {m} {a s : State} {x1 x2 x3 x4} (hm : Sub 0x28003008000b0827f1ef8018e00003ff000000003000000000001843c001f00003018002803a00020a000000141900fdb40000000000006000000000000dcb804f0001c0000242f000242000800000000000010000000000000370600600ff8003ec0c002fc8000ffffffff m) (h : Moves m a s) : Ends m a (execCvuData x1 x2 x3 x4 s) := by
  unfold execCvuData
  refine wrFld_moves hm.up ?_ ?_
  · refine Can.ite ?_ ?_
    · exact (Can.of hm)
    · refine Can.ite ?_ ?_
      · exact (Can.of hm)
      · exact (Can.of hm)
  · assumption

theorem execCvuResultRead_moves {m} {a s : State} {x1 x2} (hm : Sub 0x2800000100000007f0e080000000100000001001c0000010000e00300041b0005c00000080003f0a00000000120000fc00000000000000600000201000e000000c00008000000cfc0000c000000180000000000025000000100010000020000003e00000040000002479f3c m) (h : Moves m a s) : Ends m a (execCvuResultRead x1 x2 s) := by
  unfold execCvuResultRead
  refine live_moves ?_ ?_
  · assumption
  · intro s1 h2
    refine busRead_moves hm.up ?_
    assumption

theorem execCvuAlive_moves {m} {a s : State} {x1 x2 x3} (hm : Sub 0x28003008000b0827f1ef801c000003ff000000003000000000001843c001f00003018002803a00020a000000141900fdb40000000000006000000000000dcb804f0001c0000242f000242000800000000000010000000000000370600600ff8003ec0c002fc8000ffffffff m) (h : Moves m a s) : Ends m a (execCvuAlive x1 x2 x3 s) := by
  unfold execCvuAlive
  refine wrFld_moves hm.up (Can.of hm) ?_
  assumption

theorem execOwlOffload_moves {m} {a s : State} {x1 x2 x3} (hm : Sub 0x28003008000b0827f1ef8018000003ff000000003000000000001843c001f00003018002803a00020a000000141900fdb40000000000006000000000000dcb804f0001c0000242f000242000800000000000010000000000000370600600ff8003ec0c002fc8000ffffffff m) (h : Moves m a s) : Ends m a (execOwlOffload x1 x2 x3 s) := by
  unfold execOwlOffload
  refine live_moves ?_ ?_
  · assumption
  · intro s1 h2
    extract_lets +onlyGivenNames s3
    have h4 : Moves m a s3 := by
      unfold s3
      refine busWrite_moves hm.up ?_
      assumption
    clear_value s3
    refine State.onIf_moves ?_ ?_
    · assumption
    · intro s5 h6
      refine owlSend_moves hm.up ?_
      refine eccReads_moves hm.up ?_
      assumption

theorem execOwlLoadStore_moves {m} {a s : State} {x1 x2} (hm : Sub 0x28003008000b0827f9ef8018000003ff000000003000000000001843c001f00003018002803a00020a000000141900fdb40000000000006000000000000dcb804f0001c0000242f000242000800000000000010000000000000370600600ff8003ec0c002fc8000ffffffff m) (h : Moves m a s) : Ends m a (execOwlLoadStore x1 x2 s) := by
  unfold execOwlLoadStore
  refine wrFld_moves hm.up (Can.of hm) ?_
  assumption

theorem execReplayAbort_moves {m} {a s : State} {x1 x2} (hm : Sub 0x28003008000b0827f1ef8218000003ff000000003000000000001843c001f00003018002803a00020a000000141900fdb40000000000006000000000000dcb804f0001c0000242f000242000800000000000010000000000000370600600ff8003ec0c002fc8000ffffffff m) (h : Moves m a s) : Ends m a (execReplayAbort x1 x2 s) := by
  unfold execReplayAbort
  refine wrFld_moves hm.up (Can.of hm) ?_
  assumption

theorem execPwrReset_moves {m} {a s : State} {x1 x2} (hm : Sub 0x28003008001b0827f1ef8018000003ff000000003000000000001843c001f00003018002803a00020a000000141900fdb40000000000006000000000000dcb804f0001c0000242f000242000800000000000010000000000000370600600ff8003ec0c002fc8000ffffffff m) (h : Moves m a s) : Ends m a (execPwrReset x1 x2 s) := by
  unfold execPwrReset
  refine wrFld_moves hm.up (Can.of hm) ?_
  assumption

theorem execShutdownRequest_moves {m} {a s : State} {x1 x2} (hm : Sub 0x28003008000b0827f1ef8018000003ff000000003000000000001843c001f00003018002803a00020a000000141900fdb40000000000006000000000000dcb804f0001c0000242f000242000800000000000010000000000000370600600ff8003ec0c002fc8000ffffffff m) (h : Moves m a s) : Ends m a (execShutdownRequest x1 x2 s) := by
  unfold execShutdownRequest
  refine wrFld_moves hm.up (Can.of hm) ?_
  assumption

theorem execEpochAdvance_moves {m} {a s : State} {x1 x2} (hm : Sub 0x28003808000b0827f1ef8018000003ff000000003000000000001843c001f00003018002803a00020a000000141900fdb40000000000006000000000000dcb804f0001c0000242f000242000800000000000010000000000000370600600ff8003ec0c002fc8000ffffffff m) (h : Moves m a s) : Ends m a (execEpochAdvance x1 x2 s) := by
  unfold execEpochAdvance
  refine wrFld_moves hm.up (Can.of hm) ?_
  assumption

theorem execKeyProgram_moves {m} {a s : State} {x1 x2} (hm : Sub 0x28023008000b0827f1ef8018000003ff000000003000000000001843c001f00003018002803a00020a000000141900fdb40000000000006000000000000dcb804f0001c0000242f000242000800000000000010000000000000370600600ff8003ec0c002fc8000ffffffff m) (h : Moves m a s) : Ends m a (execKeyProgram x1 x2 s) := by
  unfold execKeyProgram
  refine wrFld_moves hm.up (Can.of hm) ?_
  assumption

theorem execBistManual_moves {m} {a s : State} {x1 x2} (hm : Sub 0x2800300c000b0827f1ef8018000003ff000000003000000000001843c001f00003018002803a00020a000000141900fdb40000000000006000000000000dcb804f0001c0000242f000242000800000000000010000000000000370600600ff8003ec0c002fc8000ffffffff m) (h : Moves m a s) : Ends m a (execBistManual x1 x2 s) := by
  unfold execBistManual
  refine wrFld_moves hm.up (Can.of hm) ?_
  assumption

theorem execOwlOffloadDone_moves {m} {a s : State} (hm : Sub 0x200000000000002000e0800000000000000000000000000000000000000100000000000000000000000000000000000000000000000000000000000000000000000000000000000000000000000000000000000000000000000000000000000000000000000000002400408 m) (h : Moves m a s) : Ends m a (execOwlOffloadDone s) := by
  unfold execOwlOffloadDone
  refine live_moves ?_ ?_
  · assumption
  · intro s1 h2
    refine State.onIf_moves ?_ ?_
    · assumption
    · intro s3 h4
      extract_lets +onlyGivenNames v5
      clear_value v5
      extract_lets +onlyGivenNames v6
      clear_value v6
      extract_lets +onlyGivenNames s7
      clear_value s7
      extract_lets +onlyGivenNames s8
      have h9 : Moves m a s8 := by
        unfold s8
        refine Moves.owl (s := s3) hm.up ?_
        assumption
      clear_value s8
      extract_lets +onlyGivenNames s10
      have h11 : Moves m a s10 := by
        unfold s10
        refine netSend_moves hm.up ?_
        refine netSend_moves hm.up ?_
        assumption
      clear_value s10
      refine State.logEv_moves hm.up ?_
      refine State.put_moves (Can.of hm) ?_
      assumption

theorem execConfigDigestUpdate_moves {m} {a s : State} (hm : Sub 0x20000000000000800020000000000000000000000000000000000000000100000000000000000000000000000000000000000000000000000000000000000000000000000000000000000000000000000000000000000000000000000000000000000000000000000400408 m) (h : Moves m a s) : Ends m a (execConfigDigestUpdate s) := by
  unfold execConfigDigestUpdate
  refine live_moves ?_ ?_
  · assumption
  · intro s1 h2
    refine digestUpdate_moves hm.up ?_
    assumption

/-! ### FplOps -/

theorem opGo_moves {m} {a s : State} {x1 x2 f} (hm : Sub 0x200000000000000000e0800000000000000000000000000000000003000120000000000000000000000000000000000000000000000000000000000000000000000000000000000000000000000000000000000000000000000000000000000000000000000000003400718 m) (h : Moves m a s)
    (hf : ∀ t c p, Moves m a t → Moves m a (f t c p).2) : Moves m a (opGo s x1 x2 f) := by
  simp only [opGo]
  split
  · exact complete_moves hm.up h
  · have k := hf s x1 x2 h
    split
    · rename_i e
      rw [e] at k
      split
      · exact k
      · exact complete_moves hm.up k
    · rename_i e
      rw [e] at k
      exact k

theorem opRow_moves {m} {a s : State} {x1 x2 x3 f} (hm : Sub 0x200000000000000000e0800000000000000000000000000000000003000120000000000000000000000000000000000000000000000000000000000000000000000000000000000000000000000000000000000000000000000000000000000000000000000000003400718 m) (h : Moves m a s)
    (hf : ∀ t c p, Moves m a t → Moves m a (f t c p).2) : Ends m a (opRow x1 f x2 x3 s) :=
  faced_moves h (fun _ h => State.onIf_moves h (fun _ h => opGo_moves hm.up h hf))

theorem opStat_moves {m} {a : State} {r} (h : Moves m a r.2) : Moves m a (opStat r).2 := h

theorem opNop_moves {m} {a s : State} {x1 x2} (hm : Sub 0x0 m) (h : Moves m a s) : Moves m a (opNop s x1 x2).2 := by
  unfold opNop
  refine opDone_moves hm.up ?_
  assumption

theorem opGetEvents_moves {m} {a s : State} {x1 x2} (hm : Sub 0x0 m) (h : Moves m a s) : Moves m a (opGetEvents s x1 x2).2 := by
  unfold opGetEvents
  extract_lets +onlyGivenNames v1
  clear_value v1
  split
  · refine opDone_moves hm.up ?_
    assumption
  · extract_lets +onlyGivenNames v4
    clear_value v4
    extract_lets +onlyGivenNames v5
    clear_value v5
    extract_lets +onlyGivenNames v6
    clear_value v6
    extract_lets +onlyGivenNames v7
    clear_value v7
    extract_lets +onlyGivenNames v8
    clear_value v8
    extract_lets +onlyGivenNames v9
    clear_value v9
    extract_lets +onlyGivenNames v10
    clear_value v10
    extract_lets +onlyGivenNames v11
    clear_value v11
    refine opDone_moves hm.up ?_
    assumption

theorem opOpenU_moves {m} {a s : State} {x1 x2} (hm : Sub 0x200000000000000000e08000000000000000000000000000000000cfff0100000000000000000000000000000000000000000000000000000000000000000000000000000000000000000000000000000000000000000000000000000000000000000000000000001400408 m) (h : Moves m a s) : Moves m a (opOpenU s x1 x2).2 := by
  unfold opOpenU
  extract_lets +onlyGivenNames v1
  clear_value v1
  split
  · refine opDone_moves hm.up ?_
    assumption
  · extract_lets +onlyGivenNames s9
    have h10 : Moves m a s9 := by
      unfold s9
      refine qSetup_moves hm.up ?_
      assumption
    clear_value s9
    refine opDone_moves hm.up ?_
    refine qOpenNow_moves hm.up ?_
    assumption

theorem opChallenge_moves {m} {a s : State} {x1 x2} (hm : Sub 0x8ffe0000000000000000000000000000000000000000000000000000000000000000000000000000000000000000000000000000000000000000000000000000000000000000000000000000001000004 m) (h : Moves m a s) : Moves m a (opChallenge s x1 x2).2 := by
  unfold opChallenge
  extract_lets +onlyGivenNames v1
  clear_value v1
  split
  · refine opDone_moves hm.up ?_
    assumption
  · split
    · refine opDone_moves hm.up ?_
      assumption
    · extract_lets +onlyGivenNames v11
      clear_value v11
      extract_lets +onlyGivenNames s12
      have h13 : Moves m a s12 := by
        unfold s12
        refine qSetup_moves hm.up ?_
        refine Moves.free (s := s) hm.up ?_
        assumption
      clear_value s12
      refine opDone_moves hm.up ?_
      refine Moves.fpl (s := s12) hm.up ?_
      assumption

theorem openFail_moves {m} {a s : State} {x1 x2} (hm : Sub 0x200000000000000000e0800000000000000000000000000000000000000100000000000000000000000000000000000000000000000000000000000000000000000000000000000000000000000000000000000000000000000000000000000000000000000000001400408 m) (h : Moves m a s) : Moves m a (openFail s x1 x2) := by
  unfold openFail
  extract_lets +onlyGivenNames s1
  have h2 : Moves m a s1 := by
    unfold s1
    split
    · refine reserveEnd_moves hm.up ?_
      assumption
    · assumption
  clear_value s1
  extract_lets +onlyGivenNames s6
  have h7 : Moves m a s6 := by
    unfold s6
    refine State.logEv_moves hm.up ?_
    assumption
  clear_value s6
  extract_lets +onlyGivenNames v8
  clear_value v8
  extract_lets +onlyGivenNames v9
  clear_value v9
  refine Moves.ite (fun _ => ?_) (fun _ => ?_)
  · refine Moves.fpl (s := s6) hm.up ?_
    assumption
  · refine Moves.fpl (s := s6) hm.up ?_
    assumption

theorem opOpenP_moves {m} {a s : State} {x1 x2} (hm : Sub 0x200000000000000000e0800000000000000000000000000000000040010100000000000000000000000000000000000000000000000000000000000000000000000000000000000000000000000000000000000000000000000000000000000000000000000000001400408 m) (h : Moves m a s) : Moves m a (opOpenP s x1 x2).2 := by
  unfold opOpenP
  extract_lets +onlyGivenNames v1
  clear_value v1
  split
  · refine opDone_moves hm.up ?_
    assumption
  · split
    · refine opDone_moves hm.up ?_
      refine openFail_moves hm.up ?_
      assumption
    · split
      · refine opDone_moves hm.up ?_
        refine openFail_moves hm.up ?_
        assumption
      · split
        · refine opDone_moves hm.up ?_
          refine openFail_moves hm.up ?_
          assumption
        · extract_lets +onlyGivenNames v16
          clear_value v16
          refine opDone_moves hm.up ?_
          refine qOpenNow_moves hm.up ?_
          refine reserveEnd_moves hm.up ?_
          assumption

theorem opSession_moves {m} {a s : State} {x1 x2} (hm : Sub 0x200000000000000000e08000000000000000000000000000000000cfff010000000000000000000000000000000000000000000000000000000000000000000000000000000000000000000000000000000000000000000000000000000000000000000000000000140040c m) (h : Moves m a s) : Moves m a (opSession s x1 x2).2 := by
  unfold opSession
  split
  · refine opOpenU_moves hm.up ?_
    assumption
  · refine opChallenge_moves hm.up ?_
    assumption
  · refine opOpenP_moves hm.up ?_
    assumption
  · refine opDone_moves hm.up ?_
    assumption

theorem opSessionClose_moves {m} {a s : State} {x1 x2} (hm : Sub 0x200000000000000000e0800000000000000000000000000000000040810100000000000000000000000000000000000000000000000000000000000000000000000000000000000000000000000000000000000000000000000000000000000000000000000000001400408 m) (h : Moves m a s) : Moves m a (opSessionClose s x1 x2).2 := by
  unfold opSessionClose
  extract_lets +onlyGivenNames v1
  clear_value v1
  extract_lets +onlyGivenNames v2
  clear_value v2
  extract_lets +onlyGivenNames v3
  clear_value v3
  split
  · refine opDone_moves hm.up ?_
    assumption
  · split
    · refine opDone_moves hm.up ?_
      assumption
    · refine opDone_moves hm.up ?_
      refine qClose_moves hm.up ?_
      assumption

theorem opSetProfile_moves {m} {a s : State} {x1 x2} (hm : Sub 0x200000000000000000e0800000000000000000000000000000000000000100000000000000000000000000000000000000000000000000000000000000000000000000000000000000000000000000000000000000000000000000000000000000000000280000041400408 m) (h : Moves m a s) : Moves m a (opSetProfile s x1 x2).2 := by
  unfold opSetProfile
  split
  · refine opDone_moves hm.up ?_
    assumption
  · extract_lets +onlyGivenNames v3
    have h4 : Moves m a v3.2 := by
      unfold v3
      refine profRequest_moves hm.up ?_
      assumption
    clear_value v3
    split
    · refine opDone_moves hm.up ?_
      assumption
    · split
      · refine opWait_moves hm.up ?_
        assumption
      · refine opDone_moves hm.up ?_
        assumption

theorem opChEnable_moves {m} {a s : State} {x1 x2} (hm : Sub 0x200000000000000000e080000000000000000000300000000000000000010000000000000000000200000000100000fc340000000000006000000004000002004c000000000000f000000000000000000000000000000000000000000000000000000000018000000478748 m) (h : Moves m a s) : Moves m a (opChEnable s x1 x2).2 := by
  unfold opChEnable
  refine opStat_moves ?_
  refine chEnable_moves hm.up ?_
  assumption

theorem opChClearFault_moves {m} {a s : State} {x1 x2} (hm : Sub 0x200000000000000000e080000000000000000000000000000000000000010000000000040000000380000000180000fe340000000000006010000004000002004c000000000000f000000000000000000000000000000000000000000000000000000000000000000478748 m) (h : Moves m a s) : Moves m a (opChClearFault s x1 x2).2 := by
  unfold opChClearFault
  refine opStat_moves ?_
  refine chClearFault_moves hm.up ?_
  assumption

theorem opChDischarge_moves {m} {a s : State} {x1 x2} (hm : Sub 0x200000000000000000e08000000000000000000000000000000000000001000000000000000000020a000000100000fc340000000000006000000000000002004c000000000000f000000000000000000000000000000000000000000000000000000000000000000478f48 m) (h : Moves m a s) : Moves m a (opChDischarge s x1 x2).2 := by
  unfold opChDischarge
  refine opStat_moves ?_
  refine chDischarge_moves hm.up ?_
  assumption

theorem opChPrecharge_moves {m} {a s : State} {x1 x2} (hm : Sub 0x200000000000000000e080000000000000000000000000000000000000010000000000000000000202000000100000fc000000000000006000000000000000000c000000000042f00004200000000000000000000000000000000000000000000000000000000000047840c m) (h : Moves m a s) : Moves m a (opChPrecharge s x1 x2).2 := by
  unfold opChPrecharge
  refine opStat_moves ?_
  refine chPrecharge_moves hm.up ?_
  assumption

theorem mpWord_moves {m} {a s : State} {x1 x2 x3} (hm : Sub 0x100000 m) (h : Moves m a s) : Moves m a (mpWord s x1 x2 x3) := by
  unfold mpWord
  refine Moves.ite (fun _ => ?_) (fun _ => ?_)
  · assumption
  · refine toChuck_moves hm.up ?_
    assumption

theorem setTarget_moves {m} {a s : State} {x1 x2 x3} (hm : Sub 0x100000 m) (h : Moves m a s) : Moves m a (setTarget s x1 x2 x3) := by
  unfold setTarget
  refine State.onIf_moves ?_ ?_
  · assumption
  · intro s1 h2
    refine mpWord_moves hm.up ?_
    assumption

theorem opSetTorque_moves {m} {a s : State} {x1 x2} (hm : Sub 0x100000 m) (h : Moves m a s) : Moves m a (opSetTorque s x1 x2).2 := by
  unfold opSetTorque
  extract_lets +onlyGivenNames v1
  clear_value v1
  split
  · refine opDone_moves hm.up ?_
    assumption
  · refine opDone_moves hm.up ?_
    refine setTarget_moves hm.up ?_
    assumption

theorem opSetSpeed_moves {m} {a s : State} {x1 x2} (hm : Sub 0x100000 m) (h : Moves m a s) : Moves m a (opSetSpeed s x1 x2).2 := by
  unfold opSetSpeed
  extract_lets +onlyGivenNames v1
  clear_value v1
  extract_lets +onlyGivenNames v2
  clear_value v2
  split
  · refine opDone_moves hm.up ?_
    assumption
  · refine opDone_moves hm.up ?_
    refine State.onIf_moves ?_ ?_
    · refine setTarget_moves hm.up ?_
      assumption
    · intro s5 h6
      refine setTarget_moves hm.up ?_
      assumption

theorem opSetLimits_moves {m} {a s : State} {x1 x2} (hm : Sub 0x20000 m) (h : Moves m a s) : Moves m a (opSetLimits s x1 x2).2 := by
  unfold opSetLimits
  extract_lets +onlyGivenNames v1
  clear_value v1
  split
  · refine opDone_moves hm.up ?_
    assumption
  · refine opDone_moves hm.up ?_
    refine State.modFld_moves hm.up ?_
    assumption

theorem opSetRampLimits_moves {m} {a s : State} {x1 x2} (hm : Sub 0x100000 m) (h : Moves m a s) : Moves m a (opSetRampLimits s x1 x2).2 := by
  unfold opSetRampLimits
  extract_lets +onlyGivenNames v1
  clear_value v1
  extract_lets +onlyGivenNames v2
  clear_value v2
  split
  · refine opDone_moves hm.up ?_
    assumption
  · refine opDone_moves hm.up ?_
    refine State.forL_moves ?_ ?_
    · assumption
    · intro v5 s6 h7
      refine mpWord_moves hm.up ?_
      assumption

theorem cfgGet_moves {m} {a s : State} {x1 x2} (hm : Sub 0x2000000100000000002000000000100000001001c0000010000e00300041b0005c00000080003f08000000000200000000000000000000000000201000e000000000000000000c0c0000c000000180000000000025000000100010000020000002200000040000002001008 m) (h : Moves m a s) : Moves m a (cfgGet s x1 x2).2 := by
  unfold cfgGet
  split
  · dsimp -zeta only
    assumption
  · refine regRead_moves hm.up ?_
    assumption

theorem cfgPut_moves {m} {a s : State} {x1 x2 x3} (hm : Sub 0x28003009000b0827f1ef8018000013ff00001001f0000010000e1873c041f0005f018002803a3f0a0a000000161900fdb4000000000000600000201000edcb804f0001c000024efc0024e000800180000000010025000000100370600620ff8002200c002fc8000ffffffff m) (h : Moves m a s) : Moves m a (cfgPut s x1 x2 x3).2 := by
  unfold cfgPut
  split
  · dsimp -zeta only
    assumption
  · extract_lets +onlyGivenNames v3
    clear_value v3
    split
    · rename_i v4 s5 e6
      have h8 : Moves m a s5 := by
        refine Moves.of_snd e6 ?_
        refine regWrite_moves hm.up ?_
        assumption
      dsimp -zeta only
      refine busErr_moves hm.up ?_
      assumption
    · rename_i v9 s10 e11
      have h13 : Moves m a s10 := by
        refine Moves.of_snd e11 ?_
        refine regWrite_moves hm.up ?_
        assumption
      split
      · dsimp -zeta only
        assumption
      · extract_lets +onlyGivenNames v16
        have h17 : Moves m a v16.2 := by
          unfold v16
          refine cfgGet_moves hm.up ?_
          assumption
        clear_value v16
        dsimp -zeta only
        assumption

theorem cfgPuts_moves {m} {a s : State} {b l n} (hm : Sub 0x28003009000b0827f1ef8018000013ff00001001f0000010000e1873c041f0005f018002803a3f0a0a000000161900fdb4000000000000600000201000edcb804f0001c000024efc0024e000800180000000010025000000100370600620ff8002200c002fc8000ffffffff m) (h : Moves m a s) : Moves m a (cfgPuts b l n s).2.2 := by
  induction l generalizing s n with
  | nil => exact h
  | cons x l ih =>
    obtain ⟨k, v⟩ := x
    have h1 := cfgPut_moves (x1 := b) (x2 := k) (x3 := v) hm.up h
    simp only [cfgPuts]
    split
    · exact h1
    split
    · exact ih h1
    · exact h1

theorem opCfgWrite_moves {m} {a s : State} {x1 x2} (hm : Sub 0x28003009000b0827f1ef8018000013ff00001001f0000010000e1873c041f0005f018002803a3f0a0a000000161900fdb4000000000000600000201000edcb804f0001c000024efc0024e000800180000000010025000000100370600620ff8002200c002fc8000ffffffff m) (h : Moves m a s) : Moves m a (opCfgWrite s x1 x2).2 := by
  unfold opCfgWrite
  extract_lets +onlyGivenNames v1
  clear_value v1
  split
  · refine opDone_moves hm.up ?_
    assumption
  · extract_lets +onlyGivenNames v4
    have h5 : Moves m a v4.2.2 := by
      unfold v4
      refine cfgPuts_moves hm.up ?_
      assumption
    clear_value v4
    refine opDone_moves hm.up ?_
    assumption

theorem opCfgRead_moves {m} {a s : State} {x1 x2} (hm : Sub 0x2000000100000000002000000000100000001001c0000010000e00300041b0005c00000080003f08000000000200000000000000000000000000201000e000000000000000000c0c0000c000000180000000000025000000100010000020000002200000040000002001008 m) (h : Moves m a s) : Moves m a (opCfgRead s x1 x2).2 := by
  simp only [opCfgRead]
  split
  · exact h
  · generalize (List.range (x2.headD 0)).map (fun i => leAt x2 (4 + 4 * i) 4) = l
    generalize ([] : List Nat) = r
    simp only [opDone]
    induction l generalizing s r with
    | nil => exact h
    | cons x l ih => exact ih (cfgGet_moves hm.up h) _

theorem opCfgLock_moves {m} {a s : State} {x1 x2} (hm : Sub 0x80000000 m) (h : Moves m a s) : Moves m a (opCfgLock s x1 x2).2 := by
  unfold opCfgLock
  refine opDone_moves hm.up ?_
  refine Moves.dev (s := s) hm.up ?_
  assumption

theorem opCoefLoad_moves {m} {a s : State} {x1 x2} (hm : Sub 0x200000000000000000e08000000000000000000000000000000000000001000000000000000000000000000000000000000000000000000000000000000cc980000000000000000000000000000000000000000000000000000000000000000000000000000000000400748 m) (h : Moves m a s) : Moves m a (opCoefLoad s x1 x2).2 := by
  unfold opCoefLoad
  extract_lets +onlyGivenNames v1
  clear_value v1
  extract_lets +onlyGivenNames v2
  clear_value v2
  extract_lets +onlyGivenNames v3
  clear_value v3
  extract_lets +onlyGivenNames v4
  clear_value v4
  split
  · refine opDone_moves hm.up ?_
    assumption
  · extract_lets +onlyGivenNames v7
    clear_value v7
    split
    · refine opDone_moves hm.up ?_
      refine State.logEv_moves hm.up ?_
      assumption
    · extract_lets +onlyGivenNames s13
      have h14 : Moves m a s13 := by
        unfold s13
        refine State.forN_moves ?_ ?_
        · assumption
        · intro v15 s16 h17
          refine wordFromBus_moves hm.up ?_
          assumption
      clear_value s13
      refine opDone_moves hm.up ?_
      refine State.onIf_moves ?_ ?_
      · assumption
      · intro s18 h19
        refine sealRequest_moves hm.up ?_
        assumption

theorem opCoefSwap_moves {m} {a s : State} {x1 x2} (hm : Sub 0x200000000000000000e0800000000000000000000000000000000000000100000000000000000000000000000000000000000000000000000000000000010000000000000000000000000000000000000000000000000000000000000000000000000000000000000400408 m) (h : Moves m a s) : Moves m a (opCoefSwap s x1 x2).2 := by
  unfold opCoefSwap
  extract_lets +onlyGivenNames v1
  clear_value v1
  extract_lets +onlyGivenNames v2
  clear_value v2
  refine opDone_moves hm.up ?_
  refine swapRequest_moves hm.up ?_
  assumption

theorem coefReadWith_moves {m} {a s : State} {x1 x2 x3} (hm : Sub 0x200000000000000000e0800000000000000000000000000000000000000100000000000000000000000000000000000000000000000000000000000000000000000000000000000000000000000000000000000000000000000000000000000003e00000000000000400f0c m) (h : Moves m a s) : Moves m a (coefReadWith x1 s x2 x3).2 := by
  unfold coefReadWith
  extract_lets +onlyGivenNames v1
  clear_value v1
  extract_lets +onlyGivenNames v2
  clear_value v2
  extract_lets +onlyGivenNames v3
  clear_value v3
  extract_lets +onlyGivenNames v4
  clear_value v4
  split
  · refine opDone_moves hm.up ?_
    assumption
  · extract_lets +onlyGivenNames v7
    clear_value v7
    extract_lets +onlyGivenNames s8
    have h9 : Moves m a s8 := by
      unfold s8
      refine eccReads_moves hm.up ?_
      assumption
    clear_value s8
    split
    · refine opDone_moves hm.up ?_
      assumption
    · refine opDone_moves hm.up ?_
      assumption

theorem opCoefRead_moves {m} {a s : State} {x1 x2} (hm : Sub 0x200000000000000000e0800000000000000000000000000000000000000100000000000000000000000000000000000000000000000000000000000000000000000000000000000000000000000000000000000000000000000000000000000003e00000000000000400f0c m) (h : Moves m a s) : Moves m a (opCoefRead s x1 x2).2 := by
  unfold opCoefRead
  refine coefReadWith_moves hm.up ?_
  assumption

theorem opCvCalibrate_moves {m} {a s : State} {x1 x2} (hm : Sub 0x6a0000000000000000000002000 m) (h : Moves m a s) : Moves m a (opCvCalibrate s x1 x2).2 := by
  unfold opCvCalibrate
  extract_lets +onlyGivenNames v1
  clear_value v1
  split
  · refine opDone_moves hm.up ?_
    assumption
  · split
    · refine opDone_moves hm.up ?_
      refine State.put_moves (Can.of hm) ?_
      refine State.put_moves (Can.of hm) ?_
      assumption
    · split
      · refine opDone_moves hm.up ?_
        assumption
      · split
        · refine opDone_moves hm.up ?_
          assumption
        · refine opDone_moves hm.up ?_
          refine calRequest_moves hm.up ?_
          assumption

theorem opCvInject_moves {m} {a s : State} {x1 x2} (hm : Sub 0x200000000000000000e080000000000000000000000000000000000000010000000000000000000000000000000000000000000000000000000000000000000000000000000000000000000000000000000000000000000000000000060fbf0000000000000000001402c08 m) (h : Moves m a s) : Moves m a (opCvInject s x1 x2).2 := by
  unfold opCvInject
  extract_lets +onlyGivenNames v1
  clear_value v1
  extract_lets +onlyGivenNames v2
  clear_value v2
  extract_lets +onlyGivenNames v3
  clear_value v3
  extract_lets +onlyGivenNames v4
  clear_value v4
  extract_lets +onlyGivenNames v5
  clear_value v5
  split
  · refine opDone_moves hm.up ?_
    assumption
  · split
    · refine opDone_moves hm.up ?_
      assumption
    · extract_lets +onlyGivenNames s10
      have h11 : Moves m a s10 := by
        unfold s10
        refine State.put_moves (Can.of hm) ?_
        refine State.put_moves (Can.of hm) ?_
        assumption
      clear_value s10
      extract_lets +onlyGivenNames s12
      have h13 : Moves m a s12 := by
        unfold s12
        refine State.putB_moves hm.up (Can.of hm) ?_
        refine State.put_moves (Can.of hm) ?_
        assumption
      clear_value s12
      refine opWait_moves hm.up ?_
      refine injRequest_moves hm.up ?_
      assumption

theorem opCvOpenWire_moves {m} {a s : State} {x1 x2} (hm : Sub 0x1002000 m) (h : Moves m a s) : Moves m a (opCvOpenWire s x1 x2).2 := by
  unfold opCvOpenWire
  split
  · refine opDone_moves hm.up ?_
    assumption
  · refine opWait_moves hm.up ?_
    refine State.forL_moves ?_ ?_
    · assumption
    · intro v3 s4 h5
      refine State.onIf_moves ?_ ?_
      · assumption
      · intro s6 h7
        refine owStart_moves hm.up ?_
        assumption

theorem opPosHome_moves {m} {a s : State} {x1 x2} (hm : Sub 0x4000 m) (h : Moves m a s) : Moves m a (opPosHome s x1 x2).2 := by
  unfold opPosHome
  extract_lets +onlyGivenNames v1
  clear_value v1
  split
  · refine opDone_moves hm.up ?_
    assumption
  · refine opDone_moves hm.up ?_
    refine posHome_moves hm.up ?_
    assumption

theorem opPosSet_moves {m} {a s : State} {x1 x2} (hm : Sub 0x60e00800000000000000000000000000000000000000004000 m) (h : Moves m a s) : Moves m a (opPosSet s x1 x2).2 := by
  unfold opPosSet
  extract_lets +onlyGivenNames v1
  clear_value v1
  split
  · refine opDone_moves hm.up ?_
    assumption
  · refine opDone_moves hm.up ?_
    refine posSet_moves hm.up ?_
    assumption

theorem opFragment_moves {m} {a s : State} {x1 x2 f} (hm : Sub 0x1000000 m) (h : Moves m a s)
    (hf : ∀ t b k, Moves m a t → Moves m a (f t b k).2) : Moves m a (opFragment s x1 x2 f).2 := by
  simp only [opFragment]
  repeat'
    first
    | exact State.modQp_moves hm.up h
    | exact hf _ _ _ (State.modQp_moves hm.up h)
    | split

theorem opPrtConfig_moves {m} {a s : State} {x1 x2} (hm : Sub 0x200000000000000000e0800000000000000000000000000000000000000100000000000000000000000000000000000000000000000000000000000000000000000000000000000000000000000000000000000000000000000000000000000000000000000000001480c08 m) (h : Moves m a s) : Moves m a (opPrtConfig s x1 x2).2 := by
  unfold opPrtConfig
  split
  · refine opDone_moves hm.up ?_
    assumption
  · refine opFragment_moves hm.up ?_ ?_
    · assumption
    · intro s3 v4 v5 h6
      extract_lets +onlyGivenNames v7
      have h8 : Moves m a v7.2 := by
        unfold v7
        refine stageBlock_moves hm.up ?_
        assumption
      clear_value v7
      split
      · refine opWait_moves hm.up ?_
        assumption
      · refine opDone_moves hm.up ?_
        assumption

theorem opFwUpdate_moves {m} {a s : State} {x1 x2} (hm : Sub 0x41000000 m) (h : Moves m a s) : Moves m a (opFwUpdate s x1 x2).2 := by
  unfold opFwUpdate
  split
  · refine opDone_moves hm.up ?_
    assumption
  · refine opFragment_moves hm.up ?_ ?_
    · assumption
    · intro s3 v4 v5 h6
      split
      · refine opDone_moves hm.up ?_
        assumption
      · refine opDone_moves hm.up ?_
        refine State.modPwr_moves hm.up ?_ ?_ ?_
        · assumption
        · (intro p; rfl)
        · (intro p; rfl)

theorem opPrtTest_moves {m} {a s : State} {x1 x2} (hm : Sub 0xc000000000000000000000000000000000000000000000000000000000000000000000000000000000000000000000000000000000000000000000000000000000000000080800 m) (h : Moves m a s) : Moves m a (opPrtTest s x1 x2).2 := by
  unfold opPrtTest
  extract_lets +onlyGivenNames v1
  clear_value v1
  split
  · split
    · refine opDone_moves hm.up ?_
      refine State.raise_moves hm.up ?_
      assumption
    · refine opDone_moves hm.up ?_
      assumption
  · split
    · refine opDone_moves hm.up ?_
      assumption
    · split
      · refine opDone_moves hm.up ?_
        assumption
      · refine opDone_moves hm.up ?_
        refine State.modBdg_moves hm.up ?_
        refine safeEnLow_moves hm.up ?_
        assumption
  · refine opDone_moves hm.up ?_
    assumption
  · refine opDone_moves hm.up ?_
    assumption

theorem opMtrRead_moves {m} {a s : State} {x1 x2} (hm : Sub 0x0 m) (h : Moves m a s) : Moves m a (opMtrRead s x1 x2).2 := by
  unfold opMtrRead
  refine opDone_moves hm.up ?_
  assumption

theorem opLedgerFetch_moves {m} {a s : State} {x1 x2} (hm : Sub 0x0 m) (h : Moves m a s) : Moves m a (opLedgerFetch s x1 x2).2 := by
  unfold opLedgerFetch
  extract_lets +onlyGivenNames v1
  clear_value v1
  extract_lets +onlyGivenNames v2
  clear_value v2
  split
  · refine opDone_moves hm.up ?_
    assumption
  · refine opDone_moves hm.up ?_
    assumption

theorem opMtrCal_moves {m} {a s : State} {x1 x2} (hm : Sub 0x200000000000000000e0800000000000780000000000000000000000000100000000000000000000000000000000000000000000000000000000000000000000000000000000000000000000000000000000000000000000000000000000000000000000000000010400408 m) (h : Moves m a s) : Moves m a (opMtrCal s x1 x2).2 := by
  unfold opMtrCal
  extract_lets +onlyGivenNames v1
  clear_value v1
  extract_lets +onlyGivenNames v2
  clear_value v2
  split
  · refine opDone_moves hm.up ?_
    assumption
  · extract_lets +onlyGivenNames s5
    have h6 : Moves m a s5 := by
      unfold s5
      refine Moves.ite (fun _ => ?_) (fun _ => ?_)
      · refine State.putS_moves hm.up (Can.of hm) ?_
        refine State.put_moves (Can.of hm) ?_
        assumption
      · refine State.putS_moves hm.up (Can.of hm) ?_
        refine State.put_moves (Can.of hm) ?_
        assumption
    clear_value s5
    refine opDone_moves hm.up ?_
    refine State.onIf_moves ?_ ?_
    · assumption
    · intro s7 h8
      refine State.logEv_moves hm.up ?_
      refine mtrFlag_moves hm.up ?_
      assumption

theorem opOwlArm_moves {m} {a s : State} {x1 x2} (hm : Sub 0x200000000000000000efa90000000000000000000000000000000000000100000000000000000000000000000000000000000000000000000000000000000000000000000000000000000000000000000000000000000000000000000000000000000000000000000400788 m) (h : Moves m a s) : Moves m a (opOwlArm s x1 x2).2 := by
  unfold opOwlArm
  split
  · refine opDone_moves hm.up ?_
    assumption
  · split
    · refine opDone_moves hm.up ?_
      assumption
    · refine opDone_moves hm.up ?_
      refine owlArm_moves hm.up ?_
      refine State.put_moves (Can.of hm) ?_
      refine State.put_moves (Can.of hm) ?_
      refine State.put_moves (Can.of hm) ?_
      assumption

theorem opOwlTrigger_moves {m} {a s : State} {x1 x2} (hm : Sub 0x200000000000000000e0800000000000000000000000000000000000000100000000000000000000000000000000000000000000000000000000000000000000000000000000000000000000000000000000000000000000000000000000000000000000000000000400408 m) (h : Moves m a s) : Moves m a (opOwlTrigger s x1 x2).2 := by
  unfold opOwlTrigger
  split
  · refine opDone_moves hm.up ?_
    assumption
  · refine opDone_moves hm.up ?_
    refine State.owlTrig_moves hm.up ?_
    assumption

theorem owlBulk_moves {m} {a s : State} {c f i k} (hm : Sub 0x200000000000000000e0800000000000000000000000000000000003000120000000000000000000000000000000000000000000000000000000000000000000000000000000000000000000000000000000000000000000000000000000000000000000000000003400718 m) (h : Moves m a s) : Moves m a (owlBulk c f s i k).1 := by
  induction f generalizing s i k with
  | zero => exact h
  | succ f ih =>
    simp only [owlBulk]
    split
    · exact h
    split
    · exact complete_moves hm.up h
    · exact ih (complete_moves hm.up h)

theorem owlFetchOn_moves {m} {a s : State} {x1 x2 x3} (hm : Sub 0x200000000000000000e0800000000000000000000000000000000003000120000000000000000000000000000000000000000000000000000000000000000000000000000000000000000000000000000000000000000000000000000000000000000000000000003400718 m) (h : Moves m a s) : Moves m a (owlFetchOn s x1 x2 x3) := by
  unfold owlFetchOn
  extract_lets +onlyGivenNames s1
  clear_value s1
  extract_lets +onlyGivenNames s2
  have h3 : Moves m a s2 := by
    unfold s2
    refine Moves.fpl (s := s) hm.up ?_
    assumption
  clear_value s2
  split
  · rename_i v4 s5 e6
    have h7 : Moves m a s5 := by
      refine Moves.of_fst e6 ?_
      refine owlBulk_moves hm.up ?_
      assumption
    assumption
  · rename_i v9 s10 v11 v12 e13
    have h14 : Moves m a s10 := by
      refine Moves.of_fst e13 ?_
      refine owlBulk_moves hm.up ?_
      assumption
    refine opWait_moves hm.up ?_
    assumption

theorem owlFetchWith_moves {m} {a s : State} {x1 x2 x3} (hm : Sub 0x200000000000000000e0800000000000000000000000000000000003000120000000000000000000000000000000000000000000000000000000000000000000000000000000000000000000000000000000000000000000000000000000000003e00000000000003400f1c m) (h : Moves m a s) : Moves m a (owlFetchWith x1 s x2 x3).2 := by
  unfold owlFetchWith
  extract_lets +onlyGivenNames v1
  clear_value v1
  extract_lets +onlyGivenNames v2
  clear_value v2
  extract_lets +onlyGivenNames v3
  clear_value v3
  split
  · refine opDone_moves hm.up ?_
    assumption
  · extract_lets +onlyGivenNames s6
    have h7 : Moves m a s6 := by
      unfold s6
      refine eccReads_moves hm.up ?_
      assumption
    clear_value s6
    split
    · dsimp -zeta only
      refine owlFetchOn_moves hm.up ?_
      assumption
    · refine opDone_moves hm.up ?_
      assumption

theorem opOwlFetch_moves {m} {a s : State} {x1 x2} (hm : Sub 0x200000000000000000e0800000000000000000000000000000000003000120000000000000000000000000000000000000000000000000000000000000000000000000000000000000000000000000000000000000000000000000000000000003e00000000000003400f1c m) (h : Moves m a s) : Moves m a (opOwlFetch s x1 x2).2 := by
  unfold opOwlFetch
  refine owlFetchWith_moves hm.up ?_
  assumption

theorem opReplayStart_moves {m} {a s : State} {x1 x2} (hm : Sub 0x200000000000000070e08000000000000000000000000000000000000001000000000000000000020000000000000000000000000000000000000000000000000c000080000000f000000000000000000000000000000000000000000000000000000000000000000448408 m) (h : Moves m a s) : Moves m a (opReplayStart s x1 x2).2 := by
  unfold opReplayStart
  refine opStat_moves ?_
  refine replayBegin_moves hm.up ?_
  assumption

theorem regReads_moves {m} {a s : State} {l r} (hm : Sub 0x2000000100000000002000000000100000001001c0000010000e00300041b0005c00000080003f08000000000200000000000000000000000000201000e000000000000000000c0c0000c000000180000000000025000000100010000020000002200000040000002001008 m) (h : Moves m a s) : Moves m a (regReads l r s).2 := by
  induction l generalizing s r with
  | nil => exact h
  | cons x l ih => exact ih (regRead_moves hm.up h)

theorem opPairStatus_moves {m} {a s : State} {x1 x2} (hm : Sub 0x2000000100000000002000000000100000001001c0000010000e00300041b0005c00000080003f08000000000200000000000000000000000000201000e000000000000000000c0c0000c000000180000000000025000000100010000020000002200000040000002001008 m) (h : Moves m a s) : Moves m a (opPairStatus s x1 x2).2 := by
  unfold opPairStatus
  extract_lets +onlyGivenNames v1
  have h2 : Moves m a v1.2 := by
    unfold v1
    refine regReads_moves hm.up ?_
    assumption
  clear_value v1
  refine opDone_moves hm.up ?_
  assumption

theorem opPairRole_moves {m} {a s : State} {x1 x2} (hm : Sub 0x1800000 m) (h : Moves m a s) : Moves m a (opPairRole s x1 x2).2 := by
  unfold opPairRole
  split
  · refine opDone_moves hm.up ?_
    assumption
  · split
    · refine opDone_moves hm.up ?_
      assumption
    · refine opWait_moves hm.up ?_
      refine State.modTls_moves hm.up ?_
      assumption

theorem opPairRejoin_moves {m} {a s : State} {x1 x2} (hm : Sub 0x200000000000000000e08000000000000000000000000000000000000001000003018000000000020000000000000000000000000000000000000000000000000c000100000000f000000000000000000000000000000000000000000000000000000000000000000c48408 m) (h : Moves m a s) : Moves m a (opPairRejoin s x1 x2).2 := by
  unfold opPairRejoin
  split
  · refine opDone_moves hm.up ?_
    refine settleRole_moves hm.up ?_
    assumption
  · refine opDone_moves hm.up ?_
    assumption

theorem peekAll_moves {m} {a s : State} {k x l} (hm : Sub 0x280000010000000000e080000000100000001001c0000010000e00300041b0005c00000080003f08000000000200000000000000000000000000201000e000000000000000000c0c0000c000000180000000000025000000100010000020000003e00000040000002401f3c m) (h : Moves m a s) : Moves m a (peekAll k x l s).2 := by
  induction k generalizing s x l with
  | zero => exact h
  | succ k ih =>
    simp only [peekAll]
    have h1 := busReadRaw_moves (x1 := mpAccess true) (x2 := x) (x3 := 4) hm.up h
    split
    · exact ih h1
    · exact h1

theorem opDiagPeek_moves {m} {a s : State} {x1 x2} (hm : Sub 0x280000010000000000e080000000100000001001c0000010000e00300041b0005c00000080003f08000000000200000000000000000000000000201000e000000000000000000c0c0000c000000180000000000025000000100010000020000003e00000040000002401f3c m) (h : Moves m a s) : Moves m a (opDiagPeek s x1 x2).2 := by
  unfold opDiagPeek
  extract_lets +onlyGivenNames v1
  clear_value v1
  split
  · refine opDone_moves hm.up ?_
    assumption
  · split
    · rename_i v4 v5 s6 e7
      have h9 : Moves m a s6 := by
        refine Moves.of_snd e7 ?_
        refine peekAll_moves hm.up ?_
        assumption
      refine opDone_moves hm.up ?_
      assumption
    · rename_i v10 s11 e12
      have h14 : Moves m a s11 := by
        refine Moves.of_snd e12 ?_
        refine peekAll_moves hm.up ?_
        assumption
      refine opDone_moves hm.up ?_
      assumption

theorem opOf_moves {m} {a s : State} {x1 x2 x3} (hm : Sub 0x280070c9000b0827f1efa918000013ff78001009f0200010000e18ffff41f0005f0180068c3a3f0b8a0000001e1900ffb4000000000000601000201400edcb804f0001c000024efc0024e000800180000000070e2580000010037060062fff8003e00c002fc8000ffffffff m) (h : Moves m a s) : Moves m a (opOf x1 s x2 x3).2 := by
  unfold opOf
  split
  · refine opNop_moves hm.up ?_
    assumption
  · refine opGetEvents_moves hm.up ?_
    assumption
  · refine opSession_moves hm.up ?_
    assumption
  · refine opSessionClose_moves hm.up ?_
    assumption
  · refine opSetProfile_moves hm.up ?_
    assumption
  · refine opChEnable_moves hm.up ?_
    assumption
  · refine opChClearFault_moves hm.up ?_
    assumption
  · refine opChDischarge_moves hm.up ?_
    assumption
  · refine opChPrecharge_moves hm.up ?_
    assumption
  · refine opSetTorque_moves hm.up ?_
    assumption
  · refine opSetSpeed_moves hm.up ?_
    assumption
  · refine opSetLimits_moves hm.up ?_
    assumption
  · refine opSetRampLimits_moves hm.up ?_
    assumption
  · refine opCfgWrite_moves hm.up ?_
    assumption
  · refine opCfgRead_moves hm.up ?_
    assumption
  · refine opCfgLock_moves hm.up ?_
    assumption
  · refine opCoefLoad_moves hm.up ?_
    assumption
  · refine opCoefSwap_moves hm.up ?_
    assumption
  · refine opCoefRead_moves hm.up ?_
    assumption
  · refine opCvCalibrate_moves hm.up ?_
    assumption
  · refine opCvInject_moves hm.up ?_
    assumption
  · refine opCvOpenWire_moves hm.up ?_
    assumption
  · refine opPosHome_moves hm.up ?_
    assumption
  · refine opPosSet_moves hm.up ?_
    assumption
  · refine opPrtConfig_moves hm.up ?_
    assumption
  · refine opPrtTest_moves hm.up ?_
    assumption
  · refine opMtrRead_moves hm.up ?_
    assumption
  · refine opLedgerFetch_moves hm.up ?_
    assumption
  · refine opMtrCal_moves hm.up ?_
    assumption
  · refine opOwlArm_moves hm.up ?_
    assumption
  · refine opOwlTrigger_moves hm.up ?_
    assumption
  · refine opOwlFetch_moves hm.up ?_
    assumption
  · refine opReplayStart_moves hm.up ?_
    assumption
  · refine opPairStatus_moves hm.up ?_
    assumption
  · refine opPairRole_moves hm.up ?_
    assumption
  · refine opPairRejoin_moves hm.up ?_
    assumption
  · beta_reduce
    refine opSettEnumerate_moves hm.up ?_
    assumption
  · beta_reduce
    refine opSettNode_moves hm.up ?_
    assumption
  · beta_reduce
    refine opSettNode_moves hm.up ?_
    assumption
  · beta_reduce
    refine opLcQuery_moves hm.up ?_
    assumption
  · beta_reduce
    refine opLcAdvance_moves hm.up ?_
    assumption
  · refine opFwUpdate_moves hm.up ?_
    assumption
  · beta_reduce
    refine opKeyRevoke_moves hm.up ?_
    assumption
  · beta_reduce
    refine opBistReport_moves hm.up ?_
    assumption
  · beta_reduce
    refine opSelftestRun_moves hm.up ?_
    assumption
  · refine opDiagPeek_moves hm.up ?_
    assumption
  · beta_reduce
    refine opDone_moves hm.up ?_
    assumption

theorem opSettle_moves {m} {a s : State} {x1} (hm : Sub 0x200000010000000000e080000000100000001001c0000010000e00330041b0005c00000080003f08000000000200000000000000000000000000201000e000000000000000000c0c0000c000000180000000000025000000100010000020000002200000040000003401718 m) (h : Moves m a s) : Moves m a (opSettle s x1) := by
  unfold opSettle
  extract_lets +onlyGivenNames v1
  clear_value v1
  split
  · refine State.onIf_moves ?_ ?_
    · assumption
    · intro s4 h5
      refine opEnd_moves hm.up ?_
      assumption
  · refine State.onIf_moves ?_ ?_
    · assumption
    · intro s8 h9
      extract_lets +onlyGivenNames v10
      have h11 : Moves m a v10.2 := by
        unfold v10
        refine regRead_moves hm.up ?_
        assumption
      clear_value v10
      refine opEnd_moves hm.up ?_
      assumption
  · refine State.onIf_moves ?_ ?_
    · assumption
    · intro s14 h15
      refine opEnd_moves hm.up ?_
      assumption
  · refine State.onIf_moves ?_ ?_
    · assumption
    · intro s18 h19
      refine opEnd_moves hm.up ?_
      assumption
  · refine State.onIf_moves ?_ ?_
    · assumption
    · intro s22 h23
      refine opEnd_moves hm.up ?_
      assumption
  · refine owlFetchOn_moves hm.up ?_
    assumption
  · assumption

theorem settleOps_moves {m} {a s : State} (hm : Sub 0x200000010000000000e080000000100000001001c0000010000e00330041b0005c00000080003f08000000000200000000000000000000000000201000e000000000000000000c0c0000c000000180000000000025000000100010000020000002200000040000003401718 m) (h : Moves m a s) : Moves m a (settleOps s) := by
  unfold settleOps
  refine State.onIf_moves ?_ ?_
  · assumption
  · intro s1 h2
    refine Moves.foldl ?_ ?_
    · assumption
    · intro s3 v4 h5
      refine opSettle_moves hm.up ?_
      assumption

theorem mpServe_turn_moves {m} {a t : State} {v : State → Vector Nat 4} (hm : Sub 0x1000000 m) (h : Moves m a t) :
    Moves m a { t with fpl := { t.fpl with turn := v t } } := h.fpl hm.up

theorem mpServe_moves {m} {a s : State} {x1 x2 x3} (hm : Sub 0x40800000000000000000000000000000000000000000000000000000000000000000000000000000000000000000000000000000000000000000000000000000000000000000000000000000001000000 m) (h : Moves m a s) :
    Moves m a (mpServe s x1 x2 x3) :=
  mpServe_turn_moves (t := qServe s x2 x3) (v := fun t => vupd t.fpl.turn x1 (fun _ => x2.val + 1)) hm.up (qServe_moves hm.up h)

theorem mpTake_moves {m} {a s : State} {x1 x2 x3} (hm : Sub 0x280070c9000b0827f1efa918000013ff78001009f0200010000e18ffff41f0005f0180068c3a3f0b8a0000001e1900ffb4000000000000601000201400edcb804f0001c000024efc0024e000800180000000070e2580000010037060062fff8003e00c002fc8000ffffffff m) (h : Moves m a s) : Moves m a (mpTake s x1 x2 x3) := by
  unfold mpTake
  extract_lets +onlyGivenNames v1
  clear_value v1
  extract_lets +onlyGivenNames v2
  clear_value v2
  extract_lets +onlyGivenNames v3
  clear_value v3
  refine opGo_moves hm.up ?_ ?_
  · refine mpServe_moves hm.up ?_
    assumption
  · intro s4 v5 v6 h7
    refine opOf_moves hm.up ?_
    assumption

theorem mpDispatch_moves {m} {a s : State} (hm : Sub 0x280070c9000b0827f1efa918000013ff78001009f0200010000e18ffff41f0005f0180068c3a3f0b8a0000001e1900ffb4000000000000601000201400edcb804f0001c000024efc0024e000800180000000070e2580000010037060062fff8003e00c002fc8000ffffffff m) (h : Moves m a s) : Moves m a (mpDispatch s) := by
  unfold mpDispatch
  extract_lets +onlyGivenNames s1
  have h2 : Moves m a s1 := by
    unfold s1
    refine settleOps_moves hm.up ?_
    assumption
  clear_value s1
  refine Moves.ite (fun _ => ?_) (fun _ => ?_)
  · assumption
  · split
    · assumption
    · split
      · assumption
      · refine mpTake_moves hm.up ?_
        assumption

theorem execMpDispatch_moves {m} {a s : State} (hm : Sub 0x280070c9000b0827f1efa918000013ff78001009f0200010000e18ffff41f0005f0180068c3a3f0b8a0000001e1900ffb4000000000000601000201400edcb804f0001c000024efc0024e000800180000000070e2580000010037060062fff8003e00c002fc8000ffffffff m) (h : Moves m a s) : Ends m a (execMpDispatch s) := by
  unfold execMpDispatch
  refine faced_moves ?_ ?_
  · assumption
  · intro s1 h2
    refine mpDispatch_moves hm.up ?_
    assumption

theorem execNop_moves {m} {a s : State} {x1 x2} (hm : Sub 0x200000000000000000e0800000000000000000000000000000000003000120000000000000000000000000000000000000000000000000000000000000000000000000000000000000000000000000000000000000000000000000000000000000000000000000003400718 m) (h : Moves m a s) : Ends m a (execNop x1 x2 s) := by
  unfold execNop
  refine opRow_moves hm.up ?_ ?_
  · assumption
  · intro s1 v2 v3 h4
    refine opNop_moves hm.up ?_
    assumption

theorem execGetStatus_moves {m} {a s : State} {x1 x2} (hm : Sub 0x200000000000000000e080000000000000000000000000000000000300012000010080000000000202000000100100fd800000000000006000000000000000000c000000000042f000042000000000000000000000000000000000000000000000000000000000003c7871c m) (h : Moves m a s) : Ends m a (execGetStatus x1 x2 s) := by
  unfold execGetStatus
  refine faced_moves ?_ ?_
  · assumption
  · intro s1 h2
    extract_lets +onlyGivenNames v3
    clear_value v3
    refine Moves.ite (fun _ => ?_) (fun _ => ?_)
    · refine complete_moves hm.up ?_
      assumption
    · refine Moves.ite (fun _ => ?_) (fun _ => ?_)
      · refine complete_moves hm.up ?_
        assumption
      · refine preExec_moves hm.up ?_
        assumption

theorem execChStop_moves {m} {a s : State} {x1 x2} (hm : Sub 0x200000000000000000e080000000000000000000000000000000000300012000010080000000000202000000100100fd800000000000006000000000000000000c000000000042f000042000000000000000000000000000000000000000000000000000000000003c7871c m) (h : Moves m a s) : Ends m a (execChStop x1 x2 s) := by
  unfold execChStop
  refine faced_moves ?_ ?_
  · assumption
  · intro s1 h2
    extract_lets +onlyGivenNames v3
    clear_value v3
    refine Moves.ite (fun _ => ?_) (fun _ => ?_)
    · refine complete_moves hm.up ?_
      assumption
    · refine Moves.ite (fun _ => ?_) (fun _ => ?_)
      · refine complete_moves hm.up ?_
        assumption
      · refine preExec_moves hm.up ?_
        assumption

theorem execChSafe_moves {m} {a s : State} {x1 x2} (hm : Sub 0x200000000000000000e080000000000000000000000000000000000300012000010080000000000202000000100100fd800000000000006000000000000000000c000000000042f000042000000000000000000000000000000000000000000000000000000000003c7871c m) (h : Moves m a s) : Ends m a (execChSafe x1 x2 s) := by
  unfold execChSafe
  refine faced_moves ?_ ?_
  · assumption
  · intro s1 h2
    extract_lets +onlyGivenNames v3
    clear_value v3
    refine Moves.ite (fun _ => ?_) (fun _ => ?_)
    · refine complete_moves hm.up ?_
      assumption
    · refine Moves.ite (fun _ => ?_) (fun _ => ?_)
      · refine complete_moves hm.up ?_
        assumption
      · refine preExec_moves hm.up ?_
        assumption

theorem execGetEvents_moves {m} {a s : State} {x1 x2} (hm : Sub 0x200000000000000000e0800000000000000000000000000000000003000120000000000000000000000000000000000000000000000000000000000000000000000000000000000000000000000000000000000000000000000000000000000000000000000000003400718 m) (h : Moves m a s) : Ends m a (execGetEvents x1 x2 s) := by
  unfold execGetEvents
  refine opRow_moves hm.up ?_ ?_
  · assumption
  · intro s1 v2 v3 h4
    refine opGetEvents_moves hm.up ?_
    assumption

theorem execSessionOpen_moves {m} {a s : State} {x1 x2} (hm : Sub 0x200000000000000000e08000000000000000000000000000000000cfff012000000000000000000000000000000000000000000000000000000000000000000000000000000000000000000000000000000000000000000000000000000000000000000000000000340071c m) (h : Moves m a s) : Ends m a (execSessionOpen x1 x2 s) := by
  unfold execSessionOpen
  refine opRow_moves hm.up ?_ ?_
  · assumption
  · intro s1 v2 v3 h4
    refine opSession_moves hm.up ?_
    assumption

theorem execChallenge_moves {m} {a s : State} {x1 x2} (hm : Sub 0x200000000000000000e08000000000000000000000000000000000cfff012000000000000000000000000000000000000000000000000000000000000000000000000000000000000000000000000000000000000000000000000000000000000000000000000000340071c m) (h : Moves m a s) : Ends m a (execChallenge x1 x2 s) := by
  unfold execChallenge
  refine opRow_moves hm.up ?_ ?_
  · assumption
  · intro s1 v2 v3 h4
    refine opSession_moves hm.up ?_
    assumption

theorem execOpenP_moves {m} {a s : State} {x1 x2} (hm : Sub 0x200000000000000000e08000000000000000000000000000000000cfff012000000000000000000000000000000000000000000000000000000000000000000000000000000000000000000000000000000000000000000000000000000000000000000000000000340071c m) (h : Moves m a s) : Ends m a (execOpenP x1 x2 s) := by
  unfold execOpenP
  refine opRow_moves hm.up ?_ ?_
  · assumption
  · intro s1 v2 v3 h4
    refine opSession_moves hm.up ?_
    assumption

theorem execSessionClose_moves {m} {a s : State} {x1 x2} (hm : Sub 0x200000000000000000e0800000000000000000000000000000000043810120000000000000000000000000000000000000000000000000000000000000000000000000000000000000000000000000000000000000000000000000000000000000000000000000003400718 m) (h : Moves m a s) : Ends m a (execSessionClose x1 x2 s) := by
  unfold execSessionClose
  refine opRow_moves hm.up ?_ ?_
  · assumption
  · intro s1 v2 v3 h4
    refine opSessionClose_moves hm.up ?_
    assumption

theorem execSetProfile_moves {m} {a s : State} {x1 x2} (hm : Sub 0x200000000000000000e0800000000000000000000000000000000003000120000000000000000000000000000000000000000000000000000000000000000000000000000000000000000000000000000000000000000000000000000000000000000000280000043400718 m) (h : Moves m a s) : Ends m a (execSetProfile x1 x2 s) := by
  unfold execSetProfile
  refine opRow_moves hm.up ?_ ?_
  · assumption
  · intro s1 v2 v3 h4
    refine opSetProfile_moves hm.up ?_
    assumption

theorem execChEnable_moves {m} {a s : State} {x1 x2} (hm : Sub 0x200000000000000000e080000000000000000000300000000000000300012000000000000000000200000000100000fc340000000000006000000004000002004c000000000000f000000000000000000000000000000000000000000000000000000000018000003478758 m) (h : Moves m a s) : Ends m a (execChEnable x1 x2 s) := by
  unfold execChEnable
  refine opRow_moves hm.up ?_ ?_
  · assumption
  · intro s1 v2 v3 h4
    refine opChEnable_moves hm.up ?_
    assumption

theorem execChClearFault_moves {m} {a s : State} {x1 x2} (hm : Sub 0x200000000000000000e080000000000000000000000000000000000300012000000000040000000380000000180000fe340000000000006010000004000002004c000000000000f000000000000000000000000000000000000000000000000000000000000000003478758 m) (h : Moves m a s) : Ends m a (execChClearFault x1 x2 s) := by
  unfold execChClearFault
  refine opRow_moves hm.up ?_ ?_
  · assumption
  · intro s1 v2 v3 h4
    refine opChClearFault_moves hm.up ?_
    assumption

theorem execChDischarge_moves {m} {a s : State} {x1 x2} (hm : Sub 0x200000000000000000e08000000000000000000000000000000000030001200000000000000000020a000000100000fc340000000000006000000000000002004c000000000000f000000000000000000000000000000000000000000000000000000000000000003478f58 m) (h : Moves m a s) : Ends m a (execChDischarge x1 x2 s) := by
  unfold execChDischarge
  refine opRow_moves hm.up ?_ ?_
  · assumption
  · intro s1 v2 v3 h4
    refine opChDischarge_moves hm.up ?_
    assumption

theorem execChPrecharge_moves {m} {a s : State} {x1 x2} (hm : Sub 0x200000000000000000e080000000000000000000000000000000000300012000000000000000000202000000100000fc000000000000006000000000000000000c000000000042f00004200000000000000000000000000000000000000000000000000000000000347871c m) (h : Moves m a s) : Ends m a (execChPrecharge x1 x2 s) := by
  unfold execChPrecharge
  refine opRow_moves hm.up ?_ ?_
  · assumption
  · intro s1 v2 v3 h4
    refine opChPrecharge_moves hm.up ?_
    assumption

theorem execSetTorque_moves {m} {a s : State} {x1 x2} (hm : Sub 0x200000000000000000e0800000000000000000000000000000000003000120000000000000000000000000000000000000000000000000000000000000000000000000000000000000000000000000000000000000000000000000000000000000000000000000003500718 m) (h : Moves m a s) : Ends m a (execSetTorque x1 x2 s) := by
  unfold execSetTorque
  refine opRow_moves hm.up ?_ ?_
  · assumption
  · intro s1 v2 v3 h4
    refine opSetTorque_moves hm.up ?_
    assumption

theorem execSetSpeed_moves {m} {a s : State} {x1 x2} (hm : Sub 0x200000000000000000e0800000000000000000000000000000000003000120000000000000000000000000000000000000000000000000000000000000000000000000000000000000000000000000000000000000000000000000000000000000000000000000003500718 m) (h : Moves m a s) : Ends m a (execSetSpeed x1 x2 s) := by
  unfold execSetSpeed
  refine opRow_moves hm.up ?_ ?_
  · assumption
  · intro s1 v2 v3 h4
    refine opSetSpeed_moves hm.up ?_
    assumption

theorem execSetLimits_moves {m} {a s : State} {x1 x2} (hm : Sub 0x200000000000000000e0800000000000000000000000000000000003000120000000000000000000000000000000000000000000000000000000000000000000000000000000000000000000000000000000000000000000000000000000000000000000000000003420718 m) (h : Moves m a s) : Ends m a (execSetLimits x1 x2 s) := by
  unfold execSetLimits
  refine opRow_moves hm.up ?_ ?_
  · assumption
  · intro s1 v2 v3 h4
    refine opSetLimits_moves hm.up ?_
    assumption

theorem execSetRampLimits_moves {m} {a s : State} {x1 x2} (hm : Sub 0x200000000000000000e0800000000000000000000000000000000003000120000000000000000000000000000000000000000000000000000000000000000000000000000000000000000000000000000000000000000000000000000000000000000000000000003500718 m) (h : Moves m a s) : Ends m a (execSetRampLimits x1 x2 s) := by
  unfold execSetRampLimits
  refine opRow_moves hm.up ?_ ?_
  · assumption
  · intro s1 v2 v3 h4
    refine opSetRampLimits_moves hm.up ?_
    assumption

theorem execCfgWrite_moves {m} {a s : State} {x1 x2} (hm : Sub 0x28003009000b0827f1ef8018000013ff00001001f0000010000e1873c041f0005f018002803a3f0a0a000000161900fdb4000000000000600000201000edcb804f0001c000024efc0024e000800180000000010025000000100370600620ff8002200c002fc8000ffffffff m) (h : Moves m a s) : Ends m a (execCfgWrite x1 x2 s) := by
  unfold execCfgWrite
  refine opRow_moves hm.up ?_ ?_
  · assumption
  · intro s1 v2 v3 h4
    refine opCfgWrite_moves hm.up ?_
    assumption

theorem execCfgRead_moves {m} {a s : State} {x1 x2} (hm : Sub 0x200000010000000000e080000000100000001001c0000010000e00330041b0005c00000080003f08000000000200000000000000000000000000201000e000000000000000000c0c0000c000000180000000000025000000100010000020000002200000040000003401718 m) (h : Moves m a s) : Ends m a (execCfgRead x1 x2 s) := by
  unfold execCfgRead
  refine opRow_moves hm.up ?_ ?_
  · assumption
  · intro s1 v2 v3 h4
    refine opCfgRead_moves hm.up ?_
    assumption

theorem execCfgLock_moves {m} {a s : State} {x1 x2} (hm : Sub 0x200000000000000000e0800000000000000000000000000000000003000120000000000000000000000000000000000000000000000000000000000000000000000000000000000000000000000000000000000000000000000000000000000000000000000000083400718 m) (h : Moves m a s) : Ends m a (execCfgLock x1 x2 s) := by
  unfold execCfgLock
  refine opRow_moves hm.up ?_ ?_
  · assumption
  · intro s1 v2 v3 h4
    refine opCfgLock_moves hm.up ?_
    assumption

theorem execCoefLoad_moves {m} {a s : State} {x1 x2} (hm : Sub 0x200000000000000000e08000000000000000000000000000000000030001200000000000000000000000000000000000000000000000000000000000000cc980000000000000000000000000000000000000000000000000000000000000000000000000000000003400758 m) (h : Moves m a s) : Ends m a (execCoefLoad x1 x2 s) := by
  unfold execCoefLoad
  refine opRow_moves hm.up ?_ ?_
  · assumption
  · intro s1 v2 v3 h4
    refine opCoefLoad_moves hm.up ?_
    assumption

theorem execCoefSwap_moves {m} {a s : State} {x1 x2} (hm : Sub 0x200000000000000000e0800000000000000000000000000000000003000120000000000000000000000000000000000000000000000000000000000000010000000000000000000000000000000000000000000000000000000000000000000000000000000000003400718 m) (h : Moves m a s) : Ends m a (execCoefSwap x1 x2 s) := by
  unfold execCoefSwap
  refine opRow_moves hm.up ?_ ?_
  · assumption
  · intro s1 v2 v3 h4
    refine opCoefSwap_moves hm.up ?_
    assumption

theorem execCoefRead_moves {m} {a s : State} {x1 x2 x3} (hm : Sub 0x200000000000000000e0800000000000000000000000000000000003000120000000000000000000000000000000000000000000000000000000000000000000000000000000000000000000000000000000000000000000000000000000000003e00000000000003400f1c m) (h : Moves m a s) : Ends m a (execCoefRead x1 x2 x3 s) := by
  unfold execCoefRead
  refine opRow_moves hm.up ?_ ?_
  · assumption
  · intro s1 v2 v3 h4
    refine coefReadWith_moves hm.up ?_
    assumption

theorem execCvCalibrate_moves {m} {a s : State} {x1 x2} (hm : Sub 0x200000000000000000e08000000000000000000000000000000000030001200000000000000000000000000000000000000000000000000000000000000000000000000000000000000000000000000000000000000000000000000000006a0000000000000000003402718 m) (h : Moves m a s) : Ends m a (execCvCalibrate x1 x2 s) := by
  unfold execCvCalibrate
  refine opRow_moves hm.up ?_ ?_
  · assumption
  · intro s1 v2 v3 h4
    refine opCvCalibrate_moves hm.up ?_
    assumption

theorem execCvInject_moves {m} {a s : State} {x1 x2} (hm : Sub 0x200000000000000000e080000000000000000000000000000000000300012000000000000000000000000000000000000000000000000000000000000000000000000000000000000000000000000000000000000000000000000000060fbf0000000000000000003402f18 m) (h : Moves m a s) : Ends m a (execCvInject x1 x2 s) := by
  unfold execCvInject
  refine opRow_moves hm.up ?_ ?_
  · assumption
  · intro s1 v2 v3 h4
    refine opCvInject_moves hm.up ?_
    assumption

theorem execCvOpenWireTest_moves {m} {a s : State} {x1 x2} (hm : Sub 0x200000000000000000e0800000000000000000000000000000000003000120000000000000000000000000000000000000000000000000000000000000000000000000000000000000000000000000000000000000000000000000000000000000000000000000003402718 m) (h : Moves m a s) : Ends m a (execCvOpenWireTest x1 x2 s) := by
  unfold execCvOpenWireTest
  refine opRow_moves hm.up ?_ ?_
  · assumption
  · intro s1 v2 v3 h4
    refine opCvOpenWire_moves hm.up ?_
    assumption

theorem execPosHome_moves {m} {a s : State} {x1 x2} (hm : Sub 0x200000000000000000e0800000000000000000000000000000000003000120000000000000000000000000000000000000000000000000000000000000000000000000000000000000000000000000000000000000000000000000000000000000000000000000003404718 m) (h : Moves m a s) : Ends m a (execPosHome x1 x2 s) := by
  unfold execPosHome
  refine opRow_moves hm.up ?_ ?_
  · assumption
  · intro s1 v2 v3 h4
    refine opPosHome_moves hm.up ?_
    assumption

theorem execPosSet_moves {m} {a s : State} {x1 x2} (hm : Sub 0x200000000000000000e0800000000000000000000000000000000003000120000000000000000000000000000000000000000000000000000000000000000000000000000000000000000000000000000000060e00800000000000000000000000000000000000003404718 m) (h : Moves m a s) : Ends m a (execPosSet x1 x2 s) := by
  unfold execPosSet
  refine opRow_moves hm.up ?_ ?_
  · assumption
  · intro s1 v2 v3 h4
    refine opPosSet_moves hm.up ?_
    assumption

theorem execPrtConfig_moves {m} {a s : State} {x1 x2} (hm : Sub 0x200000000000000000e0800000000000000000000000000000000003000120000000000000000000000000000000000000000000000000000000000000000000000000000000000000000000000000000000000000000000000000000000000000000000000000003480f18 m) (h : Moves m a s) : Ends m a (execPrtConfig x1 x2 s) := by
  unfold execPrtConfig
  refine opRow_moves hm.up ?_ ?_
  · assumption
  · intro s1 v2 v3 h4
    refine opPrtConfig_moves hm.up ?_
    assumption

theorem execPrtTest_moves {m} {a s : State} {x1 x2} (hm : Sub 0x200000000000000000e080000000000000000000000000000000000300012000000000000c000000000000000000000000000000000000000000000000000000000000000000000000000000000000000000000000000000000000000000000000000000000000003480f18 m) (h : Moves m a s) : Ends m a (execPrtTest x1 x2 s) := by
  unfold execPrtTest
  refine opRow_moves hm.up ?_ ?_
  · assumption
  · intro s1 v2 v3 h4
    refine opPrtTest_moves hm.up ?_
    assumption

theorem execMtrRead_moves {m} {a s : State} {x1 x2} (hm : Sub 0x200000000000000000e0800000000000000000000000000000000003000120000000000000000000000000000000000000000000000000000000000000000000000000000000000000000000000000000000000000000000000000000000000000000000000000003400718 m) (h : Moves m a s) : Ends m a (execMtrRead x1 x2 s) := by
  unfold execMtrRead
  refine opRow_moves hm.up ?_ ?_
  · assumption
  · intro s1 v2 v3 h4
    refine opMtrRead_moves hm.up ?_
    assumption

theorem execLedgerFetch_moves {m} {a s : State} {x1 x2} (hm : Sub 0x200000000000000000e0800000000000000000000000000000000003000120000000000000000000000000000000000000000000000000000000000000000000000000000000000000000000000000000000000000000000000000000000000000000000000000003400718 m) (h : Moves m a s) : Ends m a (execLedgerFetch x1 x2 s) := by
  unfold execLedgerFetch
  refine opRow_moves hm.up ?_ ?_
  · assumption
  · intro s1 v2 v3 h4
    refine opLedgerFetch_moves hm.up ?_
    assumption

theorem execMtrCal_moves {m} {a s : State} {x1 x2} (hm : Sub 0x200000000000000000e0800000000000780000000000000000000003000120000000000000000000000000000000000000000000000000000000000000000000000000000000000000000000000000000000000000000000000000000000000000000000000000013400718 m) (h : Moves m a s) : Ends m a (execMtrCal x1 x2 s) := by
  unfold execMtrCal
  refine opRow_moves hm.up ?_ ?_
  · assumption
  · intro s1 v2 v3 h4
    refine opMtrCal_moves hm.up ?_
    assumption

theorem execOwlArm_moves {m} {a s : State} {x1 x2} (hm : Sub 0x200000000000000000efa90000000000000000000000000000000003000120000000000000000000000000000000000000000000000000000000000000000000000000000000000000000000000000000000000000000000000000000000000000000000000000003400798 m) (h : Moves m a s) : Ends m a (execOwlArm x1 x2 s) := by
  unfold execOwlArm
  refine opRow_moves hm.up ?_ ?_
  · assumption
  · intro s1 v2 v3 h4
    refine opOwlArm_moves hm.up ?_
    assumption

theorem execOwlTrigger_moves {m} {a s : State} {x1 x2} (hm : Sub 0x200000000000000000e0800000000000000000000000000000000003000120000000000000000000000000000000000000000000000000000000000000000000000000000000000000000000000000000000000000000000000000000000000000000000000000003400718 m) (h : Moves m a s) : Ends m a (execOwlTrigger x1 x2 s) := by
  unfold execOwlTrigger
  refine opRow_moves hm.up ?_ ?_
  · assumption
  · intro s1 v2 v3 h4
    refine opOwlTrigger_moves hm.up ?_
    assumption

theorem execOwlFetch_moves {m} {a s : State} {x1 x2 x3} (hm : Sub 0x200000000000000000e0800000000000000000000000000000000003000120000000000000000000000000000000000000000000000000000000000000000000000000000000000000000000000000000000000000000000000000000000000003e00000000000003400f1c m) (h : Moves m a s) : Ends m a (execOwlFetch x1 x2 x3 s) := by
  unfold execOwlFetch
  refine opRow_moves hm.up ?_ ?_
  · assumption
  · intro s1 v2 v3 h4
    refine owlFetchWith_moves hm.up ?_
    assumption

theorem execReplayStart_moves {m} {a s : State} {x1 x2} (hm : Sub 0x200000000000000070e08000000000000000000000000000000000030001200000000000000000020000000000000000000000000000000000000000000000000c000080000000f000000000000000000000000000000000000000000000000000000000000000003448718 m) (h : Moves m a s) : Ends m a (execReplayStart x1 x2 s) := by
  unfold execReplayStart
  refine opRow_moves hm.up ?_ ?_
  · assumption
  · intro s1 v2 v3 h4
    refine opReplayStart_moves hm.up ?_
    assumption

theorem execPairStatus_moves {m} {a s : State} {x1 x2} (hm : Sub 0x200000010000000000e080000000100000001001c0000010000e00330041b0005c00000080003f08000000000200000000000000000000000000201000e000000000000000000c0c0000c000000180000000000025000000100010000020000002200000040000003401718 m) (h : Moves m a s) : Ends m a (execPairStatus x1 x2 s) := by
  unfold execPairStatus
  refine opRow_moves hm.up ?_ ?_
  · assumption
  · intro s1 v2 v3 h4
    refine opPairStatus_moves hm.up ?_
    assumption

theorem execPairRole_moves {m} {a s : State} {x1 x2} (hm : Sub 0x200000000000000000e0800000000000000000000000000000000003000120000000000000000000000000000000000000000000000000000000000000000000000000000000000000000000000000000000000000000000000000000000000000000000000000003c00718 m) (h : Moves m a s) : Ends m a (execPairRole x1 x2 s) := by
  unfold execPairRole
  refine opRow_moves hm.up ?_ ?_
  · assumption
  · intro s1 v2 v3 h4
    refine opPairRole_moves hm.up ?_
    assumption

theorem execPairRejoin_moves {m} {a s : State} {x1 x2} (hm : Sub 0x200000000000000000e08000000000000000000000000000000000030001200003018000000000020000000000000000000000000000000000000000000000000c000100000000f000000000000000000000000000000000000000000000000000000000000000003c48718 m) (h : Moves m a s) : Ends m a (execPairRejoin x1 x2 s) := by
  unfold execPairRejoin
  refine opRow_moves hm.up ?_ ?_
  · assumption
  · intro s1 v2 v3 h4
    refine opPairRejoin_moves hm.up ?_
    assumption

theorem execSettEnumerate_moves {m} {a s : State} {x1 x2} (hm : Sub 0x200000000000000000e0800000000000000000080020000000000003000120000000000000000000000000000000000000000000000000000000000000000000000000000000000000000000000000000000000000000000000000000000000000000000000000007400718 m) (h : Moves m a s) : Ends m a (execSettEnumerate x1 x2 s) := by
  unfold execSettEnumerate
  refine opRow_moves hm.up ?_ ?_
  · assumption
  · intro s1 v2 v3 h4
    refine opSettEnumerate_moves hm.up ?_
    assumption

theorem execSettNodeRead_moves {m} {a s : State} {x1 x2} (hm : Sub 0x200000000000000000e0800000000000000000000000000000000003000120000000000000000000000000000000000000000000000000000000000000000000000000000000000000000000000000000000000000000000000000000000000000000000000000007400718 m) (h : Moves m a s) : Ends m a (execSettNodeRead x1 x2 s) := by
  unfold execSettNodeRead
  refine opRow_moves hm.up ?_ ?_
  · assumption
  · intro s1 v2 v3 h4
    refine opSettNode_moves hm.up ?_
    assumption

theorem execSettNodeWrite_moves {m} {a s : State} {x1 x2} (hm : Sub 0x200000000000000000e0800000000000000000000000000000000003000120000000000000000000000000000000000000000000000000000000000000000000000000000000000000000000000000000000000000000000000000000000000000000000000000007400718 m) (h : Moves m a s) : Ends m a (execSettNodeWrite x1 x2 s) := by
  unfold execSettNodeWrite
  refine opRow_moves hm.up ?_ ?_
  · assumption
  · intro s1 v2 v3 h4
    refine opSettNode_moves hm.up ?_
    assumption

theorem execLcQuery_moves {m} {a s : State} {x1 x2} (hm : Sub 0x200000000000000000e0800000000000000000000000000000000003000120000000000000000000000000000000000000000000000000000000000000000000000000000000000000000000000000000000000000000000000000000000000000000000000000003400718 m) (h : Moves m a s) : Ends m a (execLcQuery x1 x2 s) := by
  unfold execLcQuery
  refine opRow_moves hm.up ?_ ?_
  · assumption
  · intro s1 v2 v3 h4
    refine opLcQuery_moves hm.up ?_
    assumption

theorem execLcAdvance_moves {m} {a s : State} {x1 x2} (hm : Sub 0x200000c00000000000e0800000000000000000000000000000000003000120000000000000000000000000000000000000000000000000000000000000000000000000000000000000000000000000000000000000000000000000000000000000000000000000043400718 m) (h : Moves m a s) : Ends m a (execLcAdvance x1 x2 s) := by
  unfold execLcAdvance
  refine opRow_moves hm.up ?_ ?_
  · assumption
  · intro s1 v2 v3 h4
    refine opLcAdvance_moves hm.up ?_
    assumption

theorem execFwUpdate_moves {m} {a s : State} {x1 x2} (hm : Sub 0x200000000000000000e0800000000000000000000000000000000003000120000000000000000000000000000000000000000000000000000000000000000000000000000000000000000000000000000000000000000000000000000000000000000000000000043400718 m) (h : Moves m a s) : Ends m a (execFwUpdate x1 x2 s) := by
  unfold execFwUpdate
  refine opRow_moves hm.up ?_ ?_
  · assumption
  · intro s1 v2 v3 h4
    refine opFwUpdate_moves hm.up ?_
    assumption

theorem execKeyRevoke_moves {m} {a s : State} {x1 x2} (hm : Sub 0x200040000000000000e0800000000000000000000000000000000003000120000000000000000000000000000000000000000000000000000000000000000000000000000000000000000000000000000000000000000000000000000000000000000000000000003400718 m) (h : Moves m a s) : Ends m a (execKeyRevoke x1 x2 s) := by
  unfold execKeyRevoke
  refine opRow_moves hm.up ?_ ?_
  · assumption
  · intro s1 v2 v3 h4
    refine opKeyRevoke_moves hm.up ?_
    assumption

theorem execBistReport_moves {m} {a s : State} {x1 x2} (hm : Sub 0x200000000000000000e0800000000000000000000000000000000003000120000000000000000000000000000000000000000000000000000000000000000000000000000000000000000000000000000000000000000000000000000000000000000000000000003400718 m) (h : Moves m a s) : Ends m a (execBistReport x1 x2 s) := by
  unfold execBistReport
  refine opRow_moves hm.up ?_ ?_
  · assumption
  · intro s1 v2 v3 h4
    refine opBistReport_moves hm.up ?_
    assumption

theorem execSelftestRun_moves {m} {a s : State} {x1 x2} (hm : Sub 0x200000080000000000e08000000000000000000000000000000000030001200000000000000000020000000000000000000000000000000000000000000000000c000040000000f000000000000000000000000000000000000000000000000000000000000000043448718 m) (h : Moves m a s) : Ends m a (execSelftestRun x1 x2 s) := by
  unfold execSelftestRun
  refine opRow_moves hm.up ?_ ?_
  · assumption
  · intro s1 v2 v3 h4
    refine opSelftestRun_moves hm.up ?_
    assumption

theorem execDiagPeek_moves {m} {a s : State} {x1 x2} (hm : Sub 0x280000010000000000e080000000100000001001c0000010000e00330041b0005c00000080003f08000000000200000000000000000000000000201000e000000000000000000c0c0000c000000180000000000025000000100010000020000003e00000040000003401f3c m) (h : Moves m a s) : Ends m a (execDiagPeek x1 x2 s) := by
  unfold execDiagPeek
  refine opRow_moves hm.up ?_ ?_
  · assumption
  · intro s1 v2 v3 h4
    refine opDiagPeek_moves hm.up ?_
    assumption

/-! ### FplLink -/

theorem slotTarget_moves {m} {a s : State} {x1 x2 x3 x4} (hm : Sub 0x100000 m) (h : Moves m a s) : Moves m a (slotTarget s x1 x2 x3 x4) := by
  unfold slotTarget
  refine Moves.ite (fun _ => ?_) (fun _ => ?_)
  · assumption
  · refine toChuck_moves hm.up ?_
    assumption

theorem slotDiscard_moves {m} {a s : State} {x1} (hm : Sub 0x200000000000000000e0800000000000000000000000000000000000004100000000000000000000000000000000000000000000000000000000000000000000000000000000000000000000000000000000000000000000000000000000000000000000000000001400408 m) (h : Moves m a s) : Moves m a (slotDiscard s x1) := by
  unfold slotDiscard
  extract_lets +onlyGivenNames v1
  clear_value v1
  extract_lets +onlyGivenNames s2
  have h3 : Moves m a s2 := by
    unfold s2
    refine State.incSat_moves hm.up (Can.of hm) ?_
    assumption
  clear_value s2
  extract_lets +onlyGivenNames s4
  clear_value s4
  extract_lets +onlyGivenNames s5
  have h6 : Moves m a s5 := by
    unfold s5
    refine Moves.fpl (s := s2) hm.up ?_
    assumption
  clear_value s5
  refine State.onIf_moves ?_ ?_
  · assumption
  · intro s7 h8
    refine State.logEv_moves hm.up ?_
    assumption

theorem entryTake_moves {m} {a s : State} {x1 x2 x3 x4 x5 x6} (hm : Sub 0x4000000000000000000000000000000000000000000000000000000000000000000000000000000000000000000000000000000000000000000000000000000000000000000000000000001100000 m) (h : Moves m a s) : Moves m a (entryTake s x1 x2 x3 x4 x5 x6) := by
  unfold entryTake
  extract_lets +onlyGivenNames v1
  clear_value v1
  extract_lets +onlyGivenNames s2
  have h3 : Moves m a s2 := by
    unfold s2
    refine State.onIf_moves ?_ ?_
    · assumption
    · intro s4 h5
      refine State.incSat_moves hm.up (Can.of hm) ?_
      assumption
  clear_value s2
  extract_lets +onlyGivenNames s6
  clear_value s6
  extract_lets +onlyGivenNames s7
  have h8 : Moves m a s7 := by
    unfold s7
    refine Moves.fpl (s := s2) hm.up ?_
    assumption
  clear_value s7
  refine slotTarget_moves hm.up ?_
  assumption

theorem slotMessage_moves {m} {a s : State} {x1 x2 x3 x4 x5} (hm : Sub 0x200000000000000000e0800000000000000000000000000000000000004100000000000000000000000000000000000000000000000000000000000000000000000000000000000000000000000000000000000000000000000000000000000000000000000000001500408 m) (h : Moves m a s) : Moves m a (slotMessage s x1 x2 x3 x4 x5) := by
  unfold slotMessage
  refine Moves.ite (fun _ => ?_) (fun _ => ?_)
  · refine slotDiscard_moves hm.up ?_
    assumption
  · refine State.forL_moves ?_ ?_
    · assumption
    · intro v1 s2 h3
      refine State.onIf_moves ?_ ?_
      · assumption
      · intro s4 h5
        refine entryTake_moves hm.up ?_
        assumption

theorem execSlotStale_moves {m} {a s : State} {x1 x2} (hm : Sub 0x200000000000000000e0800000000000000000000000000000000000008100000000000000000000000000000000000000000000000000000000000000000000000000000000000000000000000000000000000000000000000000000000000000000000000000000500408 m) (h : Moves m a s) : Ends m a (execSlotStale x1 x2 s) := by
  unfold execSlotStale
  refine live_moves ?_ ?_
  · assumption
  · intro s1 h2
    refine State.onIf_moves ?_ ?_
    · assumption
    · intro s3 h4
      extract_lets +onlyGivenNames s5
      have h6 : Moves m a s5 := by
        unfold s5
        refine State.logEv_moves hm.up ?_
        refine State.putBit_moves hm.up (Can.of hm) ?_
        assumption
      clear_value s5
      refine State.onIf_moves ?_ ?_
      · assumption
      · intro s7 h8
        refine slotTarget_moves hm.up ?_
        assumption

theorem hlkFrom_moves {m} {a s : State} (hm : Sub 0x4 m) (h : Moves m a s) : Moves m a (hlkFrom s).2 := by
  unfold hlkFrom
  split
  · dsimp -zeta only
    assumption
  · dsimp -zeta only
    refine State.freeNext_moves hm.up ?_
    assumption

theorem hlkReply_moves {m} {a s : State} {x1 x2} (hm : Sub 0x2000004 m) (h : Moves m a s) : Moves m a (hlkReply s x1 x2) := by
  unfold hlkReply
  extract_lets +onlyGivenNames v1
  have h2 : Moves m a v1.2 := by
    unfold v1
    refine hlkFrom_moves hm.up ?_
    assumption
  clear_value v1
  refine netSend_moves hm.up ?_
  assumption

theorem hlkRead_moves {m} {a s : State} {x1} (hm : Sub 0x2000000000000000000000000000000000000000000000000000000000000000000000000000000000000000000000000000000000000000000000000000000000000000000000000000000002000004 m) (h : Moves m a s) : Moves m a (hlkRead s x1) := by
  unfold hlkRead
  extract_lets +onlyGivenNames v1
  clear_value v1
  refine State.put_moves (Can.of hm) ?_
  refine hlkReply_moves hm.up ?_
  assumption

theorem hlkPoll_moves {m} {a s : State} (hm : Sub 0x2000000000000000000000000000000000000000000000000000000000000000000000000000000000000000000000000000000000000000000000000000000000000000000000000000000002000004 m) (h : Moves m a s) : Moves m a (hlkPoll s) := by
  unfold hlkPoll
  split
  · refine hlkRead_moves hm.up ?_
    assumption
  · refine hlkReply_moves hm.up ?_
    assumption

theorem hlkWritten_moves {m} {a s s' : State} {x1 x2} (hm : Sub 0x2000000000000000000000000000000000000000000000000000000000000000000000000000000000000000000000000000000000000000000000000000000000000000000000000000000002000004 m) (h : Moves m a s) (k : Moves m a s') : Moves m a (hlkWritten s s' x1 x2) := by
  unfold hlkWritten
  extract_lets +onlyGivenNames v1
  clear_value v1
  refine Moves.ite (fun _ => ?_) (fun _ => ?_)
  · refine hlkReply_moves hm.up ?_
    assumption
  · refine Moves.ite (fun _ => ?_) (fun _ => ?_)
    · refine hlkRead_moves hm.up ?_
      assumption
    · refine hlkReply_moves hm.up ?_
      assumption

theorem hlkCmd_moves {m} {a s : State} {x1 x2} (hm : Sub 0x200000000000000000e0800000000000000000000000000000000063c0013000010080000000000202000000100100fd800000000000006000000000000000000c000000000042f000042000000000000000000000000000000000000000000000000000000000003c7871c m) (h : Moves m a s) : Moves m a (hlkCmd s x1 x2) := by
  unfold hlkCmd
  extract_lets +onlyGivenNames v1
  have h2 : Moves m a v1.2 := by
    unfold v1
    refine packetArrival_moves hm.up ?_
    assumption
  clear_value v1
  refine Moves.ite (fun _ => ?_) (fun _ => ?_)
  · assumption
  · split
    · refine hlkReply_moves hm.up ?_
      assumption
    · refine hlkWritten_moves hm.up ?_ ?_
      · assumption
      · assumption
    · refine hlkReply_moves hm.up ?_
      assumption
    · refine hlkReply_moves hm.up ?_
      assumption
    · refine hlkWritten_moves hm.up ?_ ?_
      · assumption
      · assumption
    · refine hlkReply_moves hm.up ?_
      assumption

theorem fastEntry_moves {m} {a s : State} {x1} (hm : Sub 0x200000000000000000e0800000000000000000000000000000080000004100000000000000000000000000000000000000000000000000000000000000000000000000000000000000000000000000000000000000000000000000000000000000000000000000001500408 m) (h : Moves m a s) : Moves m a (fastEntry s x1) := by
  unfold fastEntry
  extract_lets +onlyGivenNames v1
  clear_value v1
  extract_lets +onlyGivenNames v2
  clear_value v2
  extract_lets +onlyGivenNames v3
  clear_value v3
  refine Moves.ite (fun _ => ?_) (fun _ => ?_)
  · assumption
  · refine Moves.ite (fun _ => ?_) (fun _ => ?_)
    · refine State.incSat_moves hm.up (Can.of hm) ?_
      assumption
    · refine slotMessage_moves hm.up ?_
      assumption

theorem hlkEnum_moves {m} {a s : State} {x1} (hm : Sub 0x200000000000000000e080000000000000000000000000000000180000010000000000000000000000000000000000000000000000000000000000000000000000000000000000000000000000000000000000000000000000000000000000000000000000000000240040c m) (h : Moves m a s) : Moves m a (hlkEnum s x1) := by
  unfold hlkEnum
  refine Moves.ite (fun _ => ?_) (fun _ => ?_)
  · assumption
  · split
    · refine State.onIf_moves ?_ ?_
      · assumption
      · intro s3 h4
        refine netSend_moves hm.up ?_
        refine hlkReply_moves hm.up ?_
        assumption
    · extract_lets +onlyGivenNames v7
      clear_value v7
      refine Moves.ite (fun _ => ?_) (fun _ => ?_)
      · assumption
      · refine Moves.ite (fun _ => ?_) (fun _ => ?_)
        · refine State.logEv_moves hm.up ?_
          refine State.put_moves (Can.of hm) ?_
          refine State.put_moves (Can.of hm) ?_
          assumption
        · refine Moves.ite (fun _ => ?_) (fun _ => ?_)
          · refine State.logEv_moves hm.up ?_
            assumption
          · assumption
    · assumption

theorem hlkFrame_moves {m} {a s : State} {x1} (hm : Sub 0x200000000000000000e08000000000000000000000000000000a1863c0413000010080000000000202000000100100fd800000000000006000000000000000000c000000000042f000042000000000000000000000000000000000000000000000000000000000003d7871c m) (h : Moves m a s) : Moves m a (hlkFrame s x1) := by
  unfold hlkFrame
  extract_lets +onlyGivenNames v1
  clear_value v1
  extract_lets +onlyGivenNames v2
  clear_value v2
  extract_lets +onlyGivenNames v3
  clear_value v3
  refine Moves.ite (fun _ => ?_) (fun _ => ?_)
  · assumption
  · refine Moves.ite (fun _ => ?_) (fun _ => ?_)
    · refine State.incSat_moves hm.up (Can.of hm) ?_
      assumption
    · extract_lets +onlyGivenNames v4
      clear_value v4
      extract_lets +onlyGivenNames v5
      clear_value v5
      split
      · refine State.onIf_moves ?_ ?_
        · assumption
        · intro s8 h9
          refine hlkPoll_moves hm.up ?_
          assumption
      · refine State.onIf_moves ?_ ?_
        · assumption
        · intro s12 h13
          refine hlkCmd_moves hm.up ?_
          assumption
      · refine State.onIf_moves ?_ ?_
        · assumption
        · intro s16 h17
          refine Moves.foldl ?_ ?_
          · assumption
          · intro s18 v19 h20
            refine fastEntry_moves hm.up ?_
            assumption
      · refine State.onIf_moves ?_ ?_
        · assumption
        · intro s23 h24
          refine hlkEnum_moves hm.up ?_
          assumption
      · assumption

theorem execPoll_moves {m} {a s : State} {x1} (hm : Sub 0x200000000000000000e08000000000000000000000000000000a1863c0413000010080000000000202000000100100fd800000000000006000000000000000000c000000000042f000042000000000000000000000000000000000000000000000000000000000003d7871c m) (h : Moves m a s) : Ends m a (execPoll x1 s) := by
  unfold execPoll
  refine faced_moves ?_ ?_
  · assumption
  · intro s1 h2
    refine hlkFrame_moves hm.up ?_
    assumption

theorem execHlkCmd_moves {m} {a s : State} {x1} (hm : Sub 0x200000000000000000e08000000000000000000000000000000a1863c0413000010080000000000202000000100100fd800000000000006000000000000000000c000000000042f000042000000000000000000000000000000000000000000000000000000000003d7871c m) (h : Moves m a s) : Ends m a (execHlkCmd x1 s) := by
  unfold execHlkCmd
  refine faced_moves ?_ ?_
  · assumption
  · intro s1 h2
    refine hlkFrame_moves hm.up ?_
    assumption

theorem execHlkFast_moves {m} {a s : State} {x1} (hm : Sub 0x200000000000000000e08000000000000000000000000000000a1863c0413000010080000000000202000000100100fd800000000000006000000000000000000c000000000042f000042000000000000000000000000000000000000000000000000000000000003d7871c m) (h : Moves m a s) : Ends m a (execHlkFast x1 s) := by
  unfold execHlkFast
  refine faced_moves ?_ ?_
  · assumption
  · intro s1 h2
    refine hlkFrame_moves hm.up ?_
    assumption

theorem execDiscover_moves {m} {a s : State} {x1} (hm : Sub 0x200000000000000000e08000000000000000000000000000000a1863c0413000010080000000000202000000100100fd800000000000006000000000000000000c000000000042f000042000000000000000000000000000000000000000000000000000000000003d7871c m) (h : Moves m a s) : Ends m a (execDiscover x1 s) := by
  unfold execDiscover
  refine faced_moves ?_ ?_
  · assumption
  · intro s1 h2
    refine hlkFrame_moves hm.up ?_
    assumption

theorem execHlkAssign_moves {m} {a s : State} {x1} (hm : Sub 0x200000000000000000e08000000000000000000000000000000a1863c0413000010080000000000202000000100100fd800000000000006000000000000000000c000000000042f000042000000000000000000000000000000000000000000000000000000000003d7871c m) (h : Moves m a s) : Ends m a (execHlkAssign x1 s) := by
  unfold execHlkAssign
  refine faced_moves ?_ ?_
  · assumption
  · intro s1 h2
    refine hlkFrame_moves hm.up ?_
    assumption

theorem execHlkFrameAbort_moves {m} {a s : State} (hm : Sub 0x40000000000000000000000000000000000000000000000000000000000000000000000000000000000000000000000000000000000000000000000000000000000000000000000000000000000000000000 m) (h : Moves m a s) : Ends m a (execHlkFrameAbort s) := by
  unfold execHlkFrameAbort
  refine faced_moves ?_ ?_
  · assumption
  · intro s1 h2
    refine State.onIf_moves ?_ ?_
    · assumption
    · intro s3 h4
      refine State.incSat_moves hm.up (Can.of hm) ?_
      assumption

theorem canAsmPut_moves {m} {a s : State} {x1 x2} (hm : Sub 0x2000000 m) (h : Moves m a s) : Moves m a (canAsmPut s x1 x2) := by
  unfold canAsmPut
  refine Moves.net (s := s) hm.up ?_
  assumption

theorem canDrop_moves {m} {a s : State} {x1} (hm : Sub 0x10000000000000000000000000000000000000000000000000000000000000000000000000000000000000000000000000000000000000000000000000000000000000000000000000002000000 m) (h : Moves m a s) : Moves m a (canDrop s x1) := by
  unfold canDrop
  refine State.incSat_moves hm.up (Can.of hm) ?_
  refine canAsmPut_moves hm.up ?_
  assumption

theorem canPacket_moves {m} {a s : State} {x1 x2} (hm : Sub 0x200000000000000000e0800000000000000000000000000000000063c0013000010080000000000202000000100100fd800000000000006000000000000000000c000000000042f000042000000000000000000000000000000000000000000000000000000000003c7871c m) (h : Moves m a s) : Moves m a (canPacket s x1 x2) := by
  unfold canPacket
  extract_lets +onlyGivenNames v1
  clear_value v1
  extract_lets +onlyGivenNames v2
  have h3 : Moves m a v2.2 := by
    unfold v2
    refine packetArrival_moves hm.up ?_
    refine canAsmPut_moves hm.up ?_
    assumption
  clear_value v2
  refine canAck_moves hm.up ?_
  assumption

theorem canSegment_moves {m} {a s : State} {x1 x2} (hm : Sub 0x200000000000000000e0800000000000000000000000000000000063c0013000010080000000000202000000100100fd800000000000006000000000000000000c000000000042f000042000000000000000000000000000000000000000000000000000000000003c7871c m) (h : Moves m a s) : Moves m a (canSegment s x1 x2) := by
  unfold canSegment
  extract_lets +onlyGivenNames v1
  clear_value v1
  extract_lets +onlyGivenNames v2
  clear_value v2
  extract_lets +onlyGivenNames v3
  have h4 : ∀ y1 y2, Moves m a (v3 y1 y2) := by
    intro y1 y2 
    unfold v3
    refine Moves.ite (fun _ => ?_) (fun _ => ?_)
    · refine canPacket_moves hm.up ?_
      assumption
    · refine canAsmPut_moves hm.up ?_
      assumption
  clear_value v3
  refine Moves.ite (fun _ => ?_) (fun _ => ?_)
  · refine canDrop_moves hm.up ?_
    assumption
  · refine Moves.ite (fun _ => ?_) (fun _ => ?_)
    · refine Moves.ite (fun _ => ?_) (fun _ => ?_)
      · apply h4
      · refine canDrop_moves hm.up ?_
        assumption
    · split
      · refine Moves.ite (fun _ => ?_) (fun _ => ?_)
        · apply h4
        · refine canDrop_moves hm.up ?_
          assumption
      · refine canDrop_moves hm.up ?_
        assumption

theorem execCanSegment_moves {m} {a s : State} {x1 x2} (hm : Sub 0x200000000000000000e0800000000000000000000000000000000063c0013000010080000000000202000000100100fd800000000000006000000000000000000c000000000042f000042000000000000000000000000000000000000000000000000000000000003c7871c m) (h : Moves m a s) : Ends m a (execCanSegment x1 x2 s) := by
  unfold execCanSegment
  refine faced_moves ?_ ?_
  · assumption
  · intro s1 h2
    refine State.onIf_moves ?_ ?_
    · assumption
    · intro s3 h4
      refine canSegment_moves hm.up ?_
      assumption

theorem execCanSegmentGap_moves {m} {a s : State} {x1} (hm : Sub 0x10000000000000000000000000000000000000000000000000000000000000000000000000000000000000000000000000000000000000000000000000000000000000000000000000002000000 m) (h : Moves m a s) : Ends m a (execCanSegmentGap x1 s) := by
  unfold execCanSegmentGap
  refine faced_moves ?_ ?_
  · assumption
  · intro s1 h2
    refine State.onIf_moves ?_ ?_
    · assumption
    · intro s3 h4
      refine canDrop_moves hm.up ?_
      assumption

theorem canSetpoint_moves {m} {a s : State} {x1 x2 x3} (hm : Sub 0x200000000000000000e0800000000000000000000000001000000000004100000000000000000000000000000000000000000000000000000000000000000000000000000000000000000000000000000000000000000000000000000000000000000000000000001500408 m) (h : Moves m a s) : Moves m a (canSetpoint s x1 x2 x3) := by
  unfold canSetpoint
  extract_lets +onlyGivenNames v1
  clear_value v1
  extract_lets +onlyGivenNames v2
  clear_value v2
  extract_lets +onlyGivenNames v3
  clear_value v3
  refine Moves.ite (fun _ => ?_) (fun _ => ?_)
  · refine slotDiscard_moves hm.up ?_
    refine State.incSat_moves hm.up (Can.of hm) ?_
    assumption
  · refine slotMessage_moves hm.up ?_
    assumption

theorem execCanSetpoint_moves {m} {a s : State} {x1 x2 x3} (hm : Sub 0x200000000000000000e0800000000000000000000000001000000000004100000000000000000000000000000000000000000000000000000000000000000000000000000000000000000000000000000000000000000000000000000000000000000000000000001500408 m) (h : Moves m a s) : Ends m a (execCanSetpoint x1 x2 x3 s) := by
  unfold execCanSetpoint
  refine faced_moves ?_ ?_
  · assumption
  · intro s1 h2
    refine State.onIf_moves ?_ ?_
    · assumption
    · intro s3 h4
      refine canSetpoint_moves hm.up ?_
      assumption

theorem execCanBusoff_moves {m} {a s : State} {x1} (hm : Sub 0x200000000000000000e0800000000000000000000000000800000000000100000000000000000000000000000000000000000000000000000000000000000000000000000000000000000000000000000000000000000000000000000000000000000000000000000400408 m) (h : Moves m a s) : Ends m a (execCanBusoff x1 s) := by
  unfold execCanBusoff
  refine faced_moves ?_ ?_
  · assumption
  · intro s1 h2
    refine State.onIf_moves ?_ ?_
    · assumption
    · intro s3 h4
      refine State.logEv_moves hm.up ?_
      refine State.put_moves (Can.of hm) ?_
      assumption

theorem execCanBusoffRecovery_moves {m} {a s : State} {x1} (hm : Sub 0xe00000000000000000000000000000000000000000000000000000000000000000000000000000000000000000000000000000000000000000000000000000000000000000000000000000000000000000000000 m) (h : Moves m a s) : Ends m a (execCanBusoffRecovery x1 s) := by
  unfold execCanBusoffRecovery
  refine faced_moves ?_ ?_
  · assumption
  · intro s1 h2
    refine State.onIf_moves ?_ ?_
    · assumption
    · intro s3 h4
      refine State.put_moves (Can.of hm) ?_
      refine State.put_moves (Can.of hm) ?_
      refine State.put_moves (Can.of hm) ?_
      assumption

theorem execPtpSync_moves {m} {a s : State} {x1 x2 x3} (hm : Sub 0x3f0000000000000000000000000000000000000000000000000000000000000000000000000000000000000000000000000000000000000000000000000000000000000000000000000000000000000000000000000 m) (h : Moves m a s) : Ends m a (execPtpSync x1 x2 x3 s) := by
  unfold execPtpSync
  refine faced_moves ?_ ?_
  · assumption
  · intro s1 h2
    refine State.onIf_moves ?_ ?_
    · assumption
    · intro s3 h4
      extract_lets +onlyGivenNames s5
      have h6 : Moves m a s5 := by
        unfold s5
        refine State.put64_moves hm.up (Can.of hm) (Can.of hm) ?_
        refine State.put64_moves hm.up (Can.of hm) (Can.of hm) ?_
        assumption
      clear_value s5
      refine State.put_moves (Can.of hm) ?_
      refine State.putS_moves hm.up (Can.of hm) ?_
      assumption

theorem execPtpLost_moves {m} {a s : State} (hm : Sub 0x200000000000000000e0800000000000000000000000200000000000000100000000000000000000000000000000000000000000000000000000000000000000000000000000000000000000000000000000000000000000000000000000000000000000000000000400408 m) (h : Moves m a s) : Ends m a (execPtpLost s) := by
  unfold execPtpLost
  refine live_moves ?_ ?_
  · assumption
  · intro s1 h2
    refine State.onIf_moves ?_ ?_
    · assumption
    · intro s3 h4
      refine State.logEv_moves hm.up ?_
      refine State.put_moves (Can.of hm) ?_
      assumption

theorem execMpRestart_moves {m} {a s : State} (hm : Sub 0x200000000000000000e0800000000000000000000000000000000003000120000000000000000000000000000000000000000000000000000000000000000000000000000000000000000000000000000000000000000000000000000000000000000000000000007480718 m) (h : Moves m a s) : Ends m a (execMpRestart s) := by
  unfold execMpRestart
  refine live_moves ?_ ?_
  · assumption
  · intro s1 h2
    refine Moves.ite (fun _ => ?_) (fun _ => ?_)
    · assumption
    · extract_lets +onlyGivenNames s3
      have h4 : Moves m a s3 := by
        unfold s3
        refine wdgRestart_moves hm.up ?_
        refine State.modBdg_moves hm.up ?_
        assumption
      clear_value s3
      extract_lets +onlyGivenNames v5
      clear_value v5
      extract_lets +onlyGivenNames s6
      have h7 : Moves m a s6 := by
        unfold s6
        refine State.forL_moves ?_ ?_
        · assumption
        · intro v8 s9 h10
          refine State.modSett_moves hm.up ?_
          assumption
      clear_value s6
      extract_lets +onlyGivenNames v11
      clear_value v11
      extract_lets +onlyGivenNames s12
      clear_value s12
      extract_lets +onlyGivenNames s13
      have h14 : Moves m a s13 := by
        unfold s13
        refine Moves.fpl (s := s6) hm.up ?_
        assumption
      clear_value s13
      refine State.forL_moves ?_ ?_
      · assumption
      · intro v15 s16 h17
        refine complete_moves hm.up ?_
        assumption

/-! ### Late -/

theorem spwriteApply_moves {m} {a s : State} {x1 x2} (hm : Sub 0x20003008000b0827f1ef8018000003ff000000003000000000001843c001f00003018002803a00020a000000141900fdb40000000000006000000000000dcb804f0001c0000242f000242000800000000000010000000000000370600600ff8000000c002fc8000ffffffff m) (h : Moves m a s) : Moves m a (spwriteApply s x1 x2) := by
  unfold spwriteApply
  extract_lets +onlyGivenNames v1
  clear_value v1
  extract_lets +onlyGivenNames v2
  clear_value v2
  extract_lets +onlyGivenNames v3
  clear_value v3
  refine Moves.ite (fun _ => ?_) (fun _ => ?_)
  · refine storeWord_moves hm.up ?_
    assumption
  · extract_lets +onlyGivenNames v4
    clear_value v4
    split
    · assumption
    · refine writeReg_moves hm.up ?_
      assumption

theorem agreed_moves {m} {a s : State} {x1} (hm : Sub 0x20003008000b0827f1ef8018000003ff000000003000000000001843c001f00003018002803a00020a000000141900fdb40000000000006000000000000dcb804f0001c0000242f000242000800000000000010000000000000370600600ff8000000c002fc8000ffffffff m) (h : Moves m a s) : Moves m a (agreed s x1) := by
  unfold agreed
  extract_lets +onlyGivenNames v1
  clear_value v1
  split
  · extract_lets +onlyGivenNames s9
    have h10 : Moves m a s9 := by
      unfold s9
      refine State.owlRec_moves hm.up ?_
      assumption
    clear_value s9
    refine Moves.landing (s := s9) hm.up ?_
    assumption
  · extract_lets +onlyGivenNames s14
    have h15 : Moves m a s14 := by
      unfold s14
      refine State.owlRec_moves hm.up ?_
      assumption
    clear_value s14
    refine Moves.landing (s := s14) hm.up ?_
    assumption
  · extract_lets +onlyGivenNames s19
    have h20 : Moves m a s19 := by
      unfold s19
      refine State.owlRec_moves hm.up ?_
      assumption
    clear_value s19
    refine Moves.landing (s := s19) hm.up ?_
    assumption
  · extract_lets +onlyGivenNames s26
    have h27 : Moves m a s26 := by
      unfold s26
      refine State.owlRec_moves hm.up ?_
      assumption
    clear_value s26
    refine Moves.ite (fun _ => ?_) (fun _ => ?_)
    · assumption
    · refine storeWord_moves hm.up ?_
      assumption
  · refine irqRelease_moves hm.up ?_
    assumption
  · extract_lets +onlyGivenNames s38
    have h39 : Moves m a s38 := by
      unfold s38
      refine State.owlRec_moves hm.up ?_
      assumption
    clear_value s38
    refine spwriteApply_moves hm.up ?_
    assumption

theorem chuckRelease_moves {m} {a s : State} {x1 x2} (hm : Sub 0x20003008000b0827f1ef8018000003ff000000003000000000001843c001f000030180069e7a30020a000000141900fdb40000000000006000000000000dcb804f0001c0000242f000242000800000000000010000000000000370600600ff8000000c002fc8000ffffffff m) (h : Moves m a s) : Moves m a (chuckRelease s x1 x2) := by
  unfold chuckRelease
  refine Moves.ite (fun _ => ?_) (fun _ => ?_)
  · refine bdgRelease_moves hm.up ?_
    assumption
  · split
    · assumption
    · extract_lets +onlyGivenNames s6
      have h7 : Moves m a s6 := by
        unfold s6
        refine Moves.chuck (s := s) hm.up ?_
        assumption
      clear_value s6
      refine agreed_moves hm.up ?_
      refine chuckCompare_moves hm.up ?_
      assumption

theorem execChuckRelease_moves {m} {a s : State} {x1 x2} (hm : Sub 0x20003008000b0827f1ef8018000003ff000000003000000000001843c001f000030180069e7a30020a000000141900fdb40000000000006000000000000dcb804f0001c0000242f000242000800000000000010000000000000370600600ff8000000c002fc8000ffffffff m) (h : Moves m a s) : Ends m a (execChuckRelease x1 x2 s) := by
  unfold execChuckRelease
  refine live_moves ?_ ?_
  · assumption
  · intro s1 h2
    refine chuckRelease_moves hm.up ?_
    assumption

theorem execInjectionDone_moves {m} {a s : State} {x1 x2 x3} (hm : Sub 0x200000010000000000e080000000100000001001c0000010000e00330041b0005c00000080003f08000000000200000000000000000000000000201000e000000000000000000c0c0000c000000180000000000025000000100010000670b90002200000040000003403f18 m) (h : Moves m a s) : Ends m a (execInjectionDone x1 x2 x3 s) := by
  unfold execInjectionDone
  refine live_moves ?_ ?_
  · assumption
  · intro s1 h2
    refine settleOps_moves hm.up ?_
    refine injDone_moves hm.up ?_
    assumption

theorem execOwTestDone_moves {m} {a s : State} {x1 x2 x3} (hm : Sub 0x200000010000000000e080000000100000001001c0000010000e00330041b0005c00000080003f08000000000200000000000000000000000000201000e000000000000000000c0c0000c000000180000000000025000000100010040020010002200000040000003403f18 m) (h : Moves m a s) : Ends m a (execOwTestDone x1 x2 x3 s) := by
  unfold execOwTestDone
  refine live_moves ?_ ?_
  · assumption
  · intro s1 h2
    refine settleOps_moves hm.up ?_
    refine State.onIf_moves ?_ ?_
    · assumption
    · intro s3 h4
      refine owResult_moves hm.up ?_
      assumption

theorem profileEffect_moves {m} {a s : State} (hm : Sub 0x200000010000000000e080000000100000001001c0000010000e00330041b0005c00000080003f08000000000200000000000000000000000000201000e000000000000000000c0c0000c0000001800000000000250000001000100000200280022000005d8000043413718 m) (h : Moves m a s) : Moves m a (profileEffect s) := by
  unfold profileEffect
  split
  · assumption
  · extract_lets +onlyGivenNames s6
    have h7 : Moves m a s6 := by
      unfold s6
      refine State.put_moves (Can.of hm) ?_
      refine State.put_moves (Can.of hm) ?_
      refine profNow_moves hm.up ?_
      assumption
    clear_value s6
    extract_lets +onlyGivenNames s8
    have h9 : Moves m a s8 := by
      unfold s8
      refine State.logEv_moves hm.up ?_
      refine State.modPwr_moves hm.up ?_ ?_ ?_
      · assumption
      · (intro p; rfl)
      · (intro p; rfl)
    clear_value s8
    extract_lets +onlyGivenNames s10
    have h11 : Moves m a s10 := by
      unfold s10
      refine State.forL_moves ?_ ?_
      · assumption
      · intro v12 s13 h14
        refine convCfg_moves hm.up ?_
        assumption
    clear_value s10
    refine settleOps_moves hm.up ?_
    refine State.forL_moves ?_ ?_
    · assumption
    · intro v15 s16 h17
      refine budgetShow_moves hm.up ?_
      assumption

theorem execProfileChangeEffect_moves {m} {a s : State} (hm : Sub 0x200000010000000000e080000000100000001001c0000010000e00330041b0005c00000080003f08000000000200000000000000000000000000201000e000000000000000000c0c0000c0000001800000000000250000001000100000200280022000005d8000043413718 m) (h : Moves m a s) : Ends m a (execProfileChangeEffect s) := by
  unfold execProfileChangeEffect
  refine live_moves ?_ ?_
  · assumption
  · intro s1 h2
    refine profileEffect_moves hm.up ?_
    assumption

/-! ### Tick -/

theorem tickFaults_moves {m} {a s : State} (hm : Sub 0x200000000000000030e080000000000000000000000000000000000000010000010080041e40000202000000100100fd800000000000006000000000000000000c000080000000f000040000000000000000000000000000000000000000000000000000000000000cf8c08 m) (h : Moves m a s) : Moves m a (tickFaults s) := by
  unfold tickFaults
  extract_lets +onlyGivenNames v1
  clear_value v1
  extract_lets +onlyGivenNames s2
  have h3 : Moves m a s2 := by
    unfold s2
    refine State.onIf_moves ?_ ?_
    · refine deliverAll_moves hm.up ?_
      assumption
    · intro s4 h5
      refine endReplay_moves hm.up ?_
      assumption
  clear_value s2
  refine faultNShow_moves hm.up ?_
  refine safeEnUpdate_moves hm.up ?_
  assumption

theorem tickAon_moves {m} {a s : State} (hm : Sub 0x8000000000000000000000000000000000000000000000000000000000000000000000000000000000000000000000000000000000000000000000000000000000000000000000000000000000000000000000000000000000000000000000000000000000000 m) (h : Moves m a s) : Moves m a (tickAon s) := by
  unfold tickAon
  refine State.onIf_moves ?_ ?_
  · assumption
  · intro s1 h2
    refine aonAdd_moves hm.up ?_
    assumption

theorem tickDue_moves {m} {a s : State} (hm : Sub 0x200000010001000000e080000000100000001001c0000010000e00330041b0005f01800080003f0a0a000000120000fc34000000000000600000201000e002004c00010000000cfc0000c0000001800000000000250000001003700006203b0002200000040000003c7bf58 m) (h : Moves m a s) : Moves m a (tickDue s) := by
  unfold tickDue
  refine bistPhase_moves hm.up ?_
  refine releaseIdle_moves hm.up ?_
  refine settleOps_moves hm.up ?_
  refine shutDischarge_moves hm.up ?_
  refine seqDue_moves hm.up ?_
  assumption

theorem tick_moves {m} {a s : State} (hm : Sub 0x200000010081000030ff80000000100000001001c0000010000e00330041f0005f0180049e403f0a0a000000120100fdb4000000000000600000201000e002004c00018000000cfc0004c0000001800000000000250000001003700006203b0002200000040000043dfbfda m) (h : Moves m a s) : Moves m a (tick s) := by
  unfold tick
  refine Moves.ite (fun _ => ?_) (fun _ => ?_)
  · assumption
  · extract_lets +onlyGivenNames s1
    have h2 : Moves m a s1 := by
      unfold s1
      refine tickFaults_moves hm.up ?_
      refine owlTick_moves hm.up ?_
      refine evFlush_moves hm.up ?_
      refine coreIrqs_moves hm.up ?_
      assumption
    clear_value s1
    extract_lets +onlyGivenNames s3
    have h4 : Moves m a s3 := by
      unfold s3
      refine tickAon_moves hm.up ?_
      refine tickDue_moves hm.up ?_
      assumption
    clear_value s3
    refine cvbTick_moves hm.up ?_
    refine Moves.ts (s := s3) hm.up ?_
    assumption

end Sys2Proof.Machine
end

