-- ==== Sys2Proof/Laws/Invariants.lean ====
section
/-! SUPPORT. What follows from the primitive updates (Laws/Moves.lean): the stores stay in canonical form, the queue of
commands is touched by the step alone, and the fuses of the OTP only ever go forward. -/

set_option Elab.async false

namespace Sys2Proof.Machine

/-! ### Sparse stores -/

section stores
variable {α : Type} [DecidableEq α] {d : α}

theorem scanonFrom_mono {m : List (Nat × α)} {lo hi : Nat} (h : scanonFrom d hi m = true) (hl : lo ≤ hi) : scanonFrom d lo m = true := by
  cases m with
  | nil => rfl
  | cons e t =>
    simp only [scanonFrom, Bool.and_eq_true, decide_eq_true_eq] at h ⊢
    exact ⟨⟨Nat.le_trans hl h.1.1, h.1.2⟩, h.2⟩

theorem sput_canonFrom {m : List (Nat × α)} {lo k : Nat} {v : α} (h : scanonFrom d lo m = true) (hk : lo ≤ k) :
    scanonFrom d lo (sput d m k v) = true := by
  induction m generalizing lo with
  | nil =>
    simp only [sput]
    split
    · rfl
    · simp [scanonFrom, *]
  | cons e t ih =>
    obtain ⟨k', v'⟩ := e
    simp only [scanonFrom, Bool.and_eq_true, decide_eq_true_eq] at h
    simp only [sput]
    split
    · split
      · simpa [scanonFrom] using h
      · simp only [scanonFrom, Bool.and_eq_true, decide_eq_true_eq]
        exact ⟨⟨hk, ‹_›⟩, ⟨by omega, h.1.2⟩, h.2⟩
    · split
      · subst k'
        split
        · exact scanonFrom_mono h.2 (by omega)
        · simp only [scanonFrom, Bool.and_eq_true, decide_eq_true_eq]
          exact ⟨⟨hk, ‹_›⟩, h.2⟩
      · simp only [scanonFrom, Bool.and_eq_true, decide_eq_true_eq]
        exact ⟨h.1, ih h.2 (by omega)⟩

/-- Writing an entry keeps the canonical form. -/
theorem sput_canon {m : List (Nat × α)} {k : Nat} {v : α} (h : scanon d m = true) : scanon d (sput d m k v) = true :=
  sput_canonFrom h (Nat.zero_le _)

theorem sget_of_lt {m : List (Nat × α)} {lo k : Nat} (h : scanonFrom d lo m = true) (hk : k < lo) : sget d m k = d := by
  cases m with
  | nil => rfl
  | cons e t =>
    obtain ⟨k', v'⟩ := e
    simp only [scanonFrom, Bool.and_eq_true, decide_eq_true_eq] at h
    simp only [sget]
    rw [if_neg (by omega), if_pos (by omega)]

theorem sget_sput_same_from {m : List (Nat × α)} {lo k : Nat} {v : α} (h : scanonFrom d lo m = true) :
    sget d (sput d m k v) k = v := by
  induction m generalizing lo with
  | nil =>
    simp only [sput]
    split <;> simp_all [sget]
  | cons e t ih =>
    obtain ⟨k', v'⟩ := e
    simp only [scanonFrom, Bool.and_eq_true, decide_eq_true_eq] at h
    simp only [sput]
    split
    · rename_i hlt
      split
      · subst v
        simp only [sget]
        rw [if_neg (by omega), if_pos hlt]
      · simp [sget]
    · split
      · subst k'
        split
        · subst v
          exact sget_of_lt h.2 (by omega)
        · simp [sget]
      · simp only [sget]
        rw [if_neg (by assumption), if_neg (by assumption)]
        exact ih h.2

theorem sget_sput_ne_from {m : List (Nat × α)} {lo k j : Nat} {v : α} (h : scanonFrom d lo m = true) (hj : j ≠ k) :
    sget d (sput d m k v) j = sget d m j := by
  induction m generalizing lo with
  | nil =>
    simp only [sput]
    split
    · rfl
    · simp only [sget]
      rw [if_neg hj]
      split <;> rfl
  | cons e t ih =>
    obtain ⟨k', v'⟩ := e
    simp only [scanonFrom, Bool.and_eq_true, decide_eq_true_eq] at h
    simp only [sput]
    split
    · split
      · rfl
      · simp only [sget]
        rw [if_neg hj]
        split
        · rw [if_neg (by omega), if_pos (by omega)]
        · rfl
    · split
      · subst k'
        split
        · simp only [sget]
          rw [if_neg hj]
          split
          · exact sget_of_lt h.2 (by omega)
          · rfl
        · simp only [sget]
          rw [if_neg hj, if_neg hj]
      · simp only [sget]
        split
        · rfl
        · split
          · rfl
          · exact ih h.2

/-- What was written at a key is read there. -/
theorem sget_sput_same {m : List (Nat × α)} {k : Nat} {v : α} (h : scanon d m = true) : sget d (sput d m k v) k = v :=
  sget_sput_same_from h

/-- A write at a key leaves every other key alone. -/
theorem sget_sput_ne {m : List (Nat × α)} {k j : Nat} {v : α} (h : scanon d m = true) (hj : j ≠ k) :
    sget d (sput d m k v) j = sget d m j := sget_sput_ne_from h hj

end stores

/-! ### The memories -/

/-- Every memory operation keeps the canonical form of the memories. -/
theorem MemMoves.wf {k : Nat} {m n : MemSt} (h : MemMoves k m n) (hm : Memory.wf m = true) : Memory.wf n = true := by
  induction h with
  | refl => exact hm
  | bytes _ _ ih | mp _ _ ih | lathe _ _ ih | owl _ _ ih | ue _ _ ih | back _ _ ih | noOwl _ _ ih | clear _ _ ih =>
    simp only [Memory.wf, Bool.and_eq_true] at ih ⊢
    obtain ⟨⟨⟨⟨⟨_, _⟩, _⟩, _⟩, _⟩, _⟩ := ih
    refine ⟨⟨⟨⟨⟨?_, ?_⟩, ?_⟩, ?_⟩, ?_⟩, ?_⟩ <;> first | assumption | rfl | (apply sput_canon; assumption)

/-! ### What every command keeps -/

namespace Moves

theorem wf {m : Nat} {a s : State} (h : Moves m a s) (ha : a.wf = true) : s.wf = true := by
  induction h with
  | refl => exact ha
  | put f v i j _ _ ih =>
    simp only [State.wf, Bool.and_eq_true] at ih ⊢
    exact ⟨⟨⟨sput_canon ih.1.1.1, ih.1.1.2⟩, ih.1.2⟩, ih.2⟩
  | rate _ _ ih =>
    simp only [State.wf, Bool.and_eq_true] at ih ⊢
    exact ⟨⟨⟨ih.1.1.1, sput_canon ih.1.1.2⟩, ih.1.2⟩, ih.2⟩
  | sett _ _ ih =>
    simp only [State.wf, Bool.and_eq_true] at ih ⊢
    exact ⟨ih.1, sput_canon ih.2⟩
  | mem m _ ih =>
    simp only [State.wf, Bool.and_eq_true] at ih ⊢
    exact ⟨⟨ih.1.1, m.wf ih.1.2⟩, ih.2⟩
  | reset _ _ ih =>
    simp only [State.wf, Bool.and_eq_true] at ih ⊢
    exact ⟨⟨⟨by decide, rfl⟩, ih.1.2⟩, rfl⟩
  | fuse _ _ ih | epoch _ _ _ ih | pwr _ _ _ _ ih | ts _ _ ih | free _ _ ih | log _ _ ih | inflight _ _ ih | ports _ _ ih | cvb _ _ ih | pos _ _ ih | gen _ _ ih | chans _ _ ih | sps _ _ ih | links _ _ ih | bdg _ _ ih | chuck _ _ ih | landing _ _ ih | owl _ _ ih | tls _ _ ih | fpl _ _ ih | net _ _ ih | setts _ _ ih | mtr _ _ ih | cvus _ _ ih | dev _ _ ih => exact ih

theorem pending {m : Nat} {a s : State} (h : Moves m a s) : s.pending = a.pending := by
  induction h with
  | refl => rfl
  | put _ _ _ _ _ _ ih | rate _ _ ih | sett _ _ ih | mem _ _ ih | reset _ _ ih | fuse _ _ ih | epoch _ _ _ ih | pwr _ _ _ _ ih | ts _ _ ih | free _ _ ih | log _ _ ih | inflight _ _ ih | ports _ _ ih | cvb _ _ ih | pos _ _ ih | gen _ _ ih | chans _ _ ih | sps _ _ ih | links _ _ ih | bdg _ _ ih | chuck _ _ ih | landing _ _ ih | owl _ _ ih | tls _ _ ih | fpl _ _ ih | net _ _ ih | setts _ _ ih | mtr _ _ ih | cvus _ _ ih | dev _ _ ih => exact ih

theorem fuses {m : Nat} {a s : State} (h : Moves m a s) (k : Nat) (hk : a.pwr.fuses.testBit k = true) :
    s.pwr.fuses.testBit k = true := by
  induction h with
  | refl => exact hk
  | fuse _ _ ih => simp [ih]
  | pwr _ e _ _ ih => rw [e]; exact ih
  | put _ _ _ _ _ _ ih | rate _ _ ih | sett _ _ ih | mem _ _ ih | reset _ _ ih | epoch _ _ _ ih | ts _ _ ih | free _ _ ih | log _ _ ih | inflight _ _ ih | ports _ _ ih | cvb _ _ ih | pos _ _ ih | gen _ _ ih | chans _ _ ih | sps _ _ ih | links _ _ ih | bdg _ _ ih | chuck _ _ ih | landing _ _ ih | owl _ _ ih | tls _ _ ih | fpl _ _ ih | net _ _ ih | setts _ _ ih | mtr _ _ ih | cvus _ _ ih | dev _ _ ih => exact ih

theorem epochs {m : Nat} {a s : State} (h : Moves m a s) : a.pwr.epochs ≤ s.pwr.epochs := by
  induction h with
  | refl => exact Nat.le_refl _
  | epoch _ he _ ih => exact Nat.le_trans ih he
  | pwr _ _ e _ ih => rw [e]; exact ih
  | put _ _ _ _ _ _ ih | rate _ _ ih | sett _ _ ih | mem _ _ ih | reset _ _ ih | fuse _ _ ih | ts _ _ ih | free _ _ ih | log _ _ ih | inflight _ _ ih | ports _ _ ih | cvb _ _ ih | pos _ _ ih | gen _ _ ih | chans _ _ ih | sps _ _ ih | links _ _ ih | bdg _ _ ih | chuck _ _ ih | landing _ _ ih | owl _ _ ih | tls _ _ ih | fpl _ _ ih | net _ _ ih | setts _ _ ih | mtr _ _ ih | cvus _ _ ih | dev _ _ ih => exact ih

end Moves

/-- What a command can do: a chain of primitive updates. -/
theorem exec_moves {m : Nat} (hm : Sub 0x1fffffffffffffffffffffffffffffffffffffffffffffffffffffffffffffffffffffffffffffffffffffffffffffffffffffffffffffffffffffffffffffffffffffffffffffffffffffffffffffffffffffffffffffffffffffffffffffffffffffffffffffffffffffff m) (i : Instr) (s : State) : Ends m s (exec i s) :=
  match i with
  | .registerWrite _ _ _ _ => execRegisterWrite_moves hm.up .refl
  | .tsLoRead _ => execTsLoRead_moves hm.up .refl
  | .satClear _ _ _ => execSatClear_moves hm.up .refl
  | .reload _ => execReload_moves hm.up .refl
  | .commitArrival _ => execCommitArrival_moves hm.up .refl
  | .commitDeadline _ => execCommitDeadline_moves hm.up .refl
  | .profileRequestWrite _ _ => execProfileRequestWrite_moves hm.up .refl
  | .clockLoss _ => execClockLoss_moves hm.up .refl
  | .xinLoss => execXinLoss_moves hm.up .refl
  | .ckwSwitch => execCkwSwitch_moves hm.up .refl
  | .phaseMeasure _ => execPhaseMeasure_moves hm.up .refl
  | .slotWrite _ _ _ _ _ => execSlotWrite_moves hm.up .refl
  | .slotRead _ _ _ _ => execSlotRead_moves hm.up .refl
  | .scrubRead _ => execScrubRead_moves hm.up .refl
  | .eccWriteback _ _ => execEccWriteback_moves hm.up .refl
  | .scrubLate => execScrubLate_moves hm.up .refl
  | .windowResult _ _ _ => execWindowResult_moves hm.up .refl
  | .seqSwtrig _ _ => execSeqSwtrig_moves hm.up .refl
  | .seqRunEnd _ => execSeqRunEnd_moves hm.up .refl
  | .seqDisable _ _ _ => execSeqDisable_moves hm.up .refl
  | .triggerTimerExpiry _ => execTriggerTimerExpiry_moves hm.up .refl
  | .adcTrigEdge _ _ => execAdcTrigEdge_moves hm.up .refl
  | .injectionStart _ _ _ _ => execInjectionStart_moves hm.up .refl
  | .injectionDone _ _ _ => execInjectionDone_moves hm.up .refl
  | .calFullRequest _ _ => execCalFullRequest_moves hm.up .refl
  | .calFullStart _ => execCalFullStart_moves hm.up .refl
  | .calEnd _ _ _ => execCalEnd_moves hm.up .refl
  | .bgcalSlice _ _ _ => execBgcalSlice_moves hm.up .refl
  | .bgcalStarved _ => execBgcalStarved_moves hm.up .refl
  | .cvPowerDown _ => execCvPowerDown_moves hm.up .refl
  | .cvShutdownDone _ => execCvShutdownDone_moves hm.up .refl
  | .cvStartupDone _ => execCvStartupDone_moves hm.up .refl
  | .refReady _ => execRefReady_moves hm.up .refl
  | .idleScanVisit _ => execIdleScanVisit_moves hm.up .refl
  | .cmpAssert _ _ => execCmpAssert_moves hm.up .refl
  | .cmpDeassert _ _ => execCmpDeassert_moves hm.up .refl
  | .owPeriodic => execOwPeriodic_moves hm.up .refl
  | .owDwellEnd _ => execOwDwellEnd_moves hm.up .refl
  | .owTestDone _ _ _ => execOwTestDone_moves hm.up .refl
  | .encEdge _ _ _ _ _ _ _ => execEncEdge_moves hm.up .refl
  | .delayedEdge _ _ => execDelayedEdge_moves hm.up .refl
  | .noisyInterval _ => execNoisyInterval_moves hm.up .refl
  | .wireFault _ _ => execWireFault_moves hm.up .refl
  | .index _ => execIndex_moves hm.up .refl
  | .zMissing _ => execZMissing_moves hm.up .refl
  | .hallEdge _ _ _ _ => execHallEdge_moves hm.up .refl
  | .hallInvalid _ => execHallInvalid_moves hm.up .refl
  | .rsvSample _ _ _ _ => execRsvSample_moves hm.up .refl
  | .serFrameStart _ _ => execSerFrameStart_moves hm.up .refl
  | .serFrameEnd _ _ _ => execSerFrameEnd_moves hm.up .refl
  | .serTimeout _ => execSerTimeout_moves hm.up .refl
  | .spdTimeout _ => execSpdTimeout_moves hm.up .refl
  | .periodLatch _ => execPeriodLatch_moves hm.up .refl
  | .srcRestore _ _ _ => execSrcRestore_moves hm.up .refl
  | .posHome _ _ => execPosHome_moves hm.up .refl
  | .posSet _ _ => execPosSet_moves hm.up .refl
  | .carrierEnable _ _ _ => execCarrierEnable_moves hm.up .refl
  | .carrierSyncStart _ => execCarrierSyncStart_moves hm.up .refl
  | .carrierDisable _ _ _ => execCarrierDisable_moves hm.up .refl
  | .carrierZero _ => execCarrierZero_moves hm.up .refl
  | .carrierPeak _ => execCarrierPeak_moves hm.up .refl
  | .cotEndEvent _ => execCotEndEvent_moves hm.up .refl
  | .cotPerMin _ => execCotPerMin_moves hm.up .refl
  | .cotPermax _ => execCotPermax_moves hm.up .refl
  | .dlCal _ => execDlCal_moves hm.up .refl
  | .commitWrite _ _ _ => execCommitWrite_moves hm.up .refl
  | .legCommit _ _ _ => execLegCommit_moves hm.up .refl
  | .faultInputActive _ _ => execFaultInputActive_moves hm.up .refl
  | .faultInputInactive _ _ => execFaultInputInactive_moves hm.up .refl
  | .itripActive _ => execItripActive_moves hm.up .refl
  | .blankEnd _ => execBlankEnd_moves hm.up .refl
  | .fltLatchClear _ _ => execFltLatchClear_moves hm.up .refl
  | .outputGateHold _ => execOutputGateHold_moves hm.up .refl
  | .outputGateRelease _ => execOutputGateRelease_moves hm.up .refl
  | .deadTimeEnd _ _ => execDeadTimeEnd_moves hm.up .refl
  | .measLanding _ _ => execMeasLanding_moves hm.up .refl
  | .speculation _ _ => execSpeculation_moves hm.up .refl
  | .specDone _ => execSpecDone_moves hm.up .refl
  | .fastPath _ => execFastPath_moves hm.up .refl
  | .fullEvalDone _ _ => execFullEvalDone_moves hm.up .refl
  | .waitLimit _ => execWaitLimit_moves hm.up .refl
  | .fbHoldExpired _ => execFbHoldExpired_moves hm.up .refl
  | .swapRequest _ _ _ => execSwapRequest_moves hm.up .refl
  | .sealRequest _ _ _ => execSealRequest_moves hm.up .refl
  | .sealDone _ => execSealDone_moves hm.up .refl
  | .oscWindowEnd _ => execOscWindowEnd_moves hm.up .refl
  | .fwLimit _ => execFwLimit_moves hm.up .refl
  | .dtcDecision _ => execDtcDecision_moves hm.up .refl
  | .dtcMiss _ => execDtcMiss_moves hm.up .refl
  | .handover _ => execHandover_moves hm.up .refl
  | .ipdComplete _ _ => execIpdComplete_moves hm.up .refl
  | .obsValid _ => execObsValid_moves hm.up .refl
  | .obsLost _ => execObsLost_moves hm.up .refl
  | .recapture _ _ _ _ _ _ => execRecapture_moves hm.up .refl
  | .recapAttemptEnd _ => execRecapAttemptEnd_moves hm.up .refl
  | .locked _ => execLocked_moves hm.up .refl
  | .lockClear _ => execLockClear_moves hm.up .refl
  | .keAbnormal _ => execKeAbnormal_moves hm.up .refl
  | .keAbnClear _ _ _ => execKeAbnClear_moves hm.up .refl
  | .pllLock _ => execPllLock_moves hm.up .refl
  | .pllUnlock _ => execPllUnlock_moves hm.up .refl
  | .gridBand _ => execGridBand_moves hm.up .refl
  | .chPrecharge _ _ => execChPrecharge_moves hm.up .refl
  | .chEnable _ _ => execChEnable_moves hm.up .refl
  | .chStop _ _ => execChStop_moves hm.up .refl
  | .chSafe _ _ => execChSafe_moves hm.up .refl
  | .chClearFault _ _ => execChClearFault_moves hm.up .refl
  | .chDischarge _ _ => execChDischarge_moves hm.up .refl
  | .swfailWrite _ _ _ => execSwfailWrite_moves hm.up .refl
  | .linkEnable _ _ _ => execLinkEnable_moves hm.up .refl
  | .ovWarn _ _ => execOvWarn_moves hm.up .refl
  | .chopOn _ _ => execChopOn_moves hm.up .refl
  | .chopOff _ _ => execChopOff_moves hm.up .refl
  | .ovAsc _ _ => execOvAsc_moves hm.up .refl
  | .ovHard _ _ => execOvHard_moves hm.up .refl
  | .linkStarved _ => execLinkStarved_moves hm.up .refl
  | .chopCommit _ => execChopCommit_moves hm.up .refl
  | .chopConfirm _ _ => execChopConfirm_moves hm.up .refl
  | .prechargeDone _ _ => execPrechargeDone_moves hm.up .refl
  | .prechargeFail _ => execPrechargeFail_moves hm.up .refl
  | .prechargeLegOff _ => execPrechargeLegOff_moves hm.up .refl
  | .disDone _ _ => execDisDone_moves hm.up .refl
  | .disFail _ => execDisFail_moves hm.up .refl
  | .disTimeout _ => execDisTimeout_moves hm.up .refl
  | .badgerEval _ => execBadgerEval_moves hm.up .refl
  | .lockstepMismatch _ _ _ _ => execLockstepMismatch_moves hm.up .refl
  | .cmpSelftest _ _ _ => execCmpSelftest_moves hm.up .refl
  | .chuckRelease _ _ => execChuckRelease_moves hm.up .refl
  | .stateDigest _ _ _ => execStateDigest_moves hm.up .refl
  | .spindleRestore _ => execSpindleRestore_moves hm.up .refl
  | .corePairRestart _ => execCorePairRestart_moves hm.up .refl
  | .mpRestart => execMpRestart_moves hm.up .refl
  | .debugHalt _ => execDebugHalt_moves hm.up .refl
  | .ckbMonitor _ => execCkbMonitor_moves hm.up .refl
  | .ckbTrim => execCkbTrim_moves hm.up .refl
  | .supplyFault _ => execSupplyFault_moves hm.up .refl
  | .bdgUndervoltReset => execBdgUndervoltReset_moves hm.up .refl
  | .scvTdiodeRead _ => execScvTdiodeRead_moves hm.up .refl
  | .wdgKick _ _ _ => execWdgKick_moves hm.up .refl
  | .wdgTimeout _ => execWdgTimeout_moves hm.up .refl
  | .faultRaised _ _ => execFaultRaised_moves hm.up .refl
  | .faultRead _ => execFaultRead_moves hm.up .refl
  | .faultClear _ _ => execFaultClear_moves hm.up .refl
  | .classRead _ => execClassRead_moves hm.up .refl
  | .paramStage _ _ _ => execParamStage_moves hm.up .refl
  | .paramRead _ => execParamRead_moves hm.up .refl
  | .monRead _ => execMonRead_moves hm.up .refl
  | .roleSettle => execRoleSettle_moves hm.up .refl
  | .startWaitExpired => execStartWaitExpired_moves hm.up .refl
  | .standbyDemote => execStandbyDemote_moves hm.up .refl
  | .selFbChange _ => execSelFbChange_moves hm.up .refl
  | .heartbeatMissing => execHeartbeatMissing_moves hm.up .refl
  | .takeoverXlStart => execTakeoverXlStart_moves hm.up .refl
  | .takeoverClaim => execTakeoverClaim_moves hm.up .refl
  | .selectorFault => execSelectorFault_moves hm.up .refl
  | .handoffRelease => execHandoffRelease_moves hm.up .refl
  | .laneUp _ => execLaneUp_moves hm.up .refl
  | .laneDown _ => execLaneDown_moves hm.up .refl
  | .linkDown => execLinkDown_moves hm.up .refl
  | .checkpointRx _ _ => execCheckpointRx_moves hm.up .refl
  | .meterCheckpointRx _ _ => execMeterCheckpointRx_moves hm.up .refl
  | .timebaseSyncRx _ _ => execTimebaseSyncRx_moves hm.up .refl
  | .heartbeatRx _ _ => execHeartbeatRx_moves hm.up .refl
  | .configDigestRx _ _ => execConfigDigestRx_moves hm.up .refl
  | .meterCheckpointTx => execMeterCheckpointTx_moves hm.up .refl
  | .timebaseSyncTx => execTimebaseSyncTx_moves hm.up .refl
  | .heartbeatTx => execHeartbeatTx_moves hm.up .refl
  | .configDigestTx => execConfigDigestTx_moves hm.up .refl
  | .tlsEnable _ _ => execTlsEnable_moves hm.up .refl
  | .tlsDisable _ _ => execTlsDisable_moves hm.up .refl
  | .pairStatus _ _ => execPairStatus_moves hm.up .refl
  | .pairRole _ _ => execPairRole_moves hm.up .refl
  | .pairRejoin _ _ => execPairRejoin_moves hm.up .refl
  | .packetArrival _ _ _ => execPacketArrival_moves hm.up .refl
  | .sqTailWrite _ _ _ => execSqTailWrite_moves hm.up .refl
  | .mpDispatch => execMpDispatch_moves hm.up .refl
  | .waitExpired _ => execWaitExpired_moves hm.up .refl
  | .mploadWindow _ => execMploadWindow_moves hm.up .refl
  | .queueIdleTimeout _ => execQueueIdleTimeout_moves hm.up .refl
  | .challengeExpiry _ => execChallengeExpiry_moves hm.up .refl
  | .nop _ _ => execNop_moves hm.up .refl
  | .getStatus _ _ => execGetStatus_moves hm.up .refl
  | .getEvents _ _ => execGetEvents_moves hm.up .refl
  | .sessionOpen _ _ => execSessionOpen_moves hm.up .refl
  | .challenge _ _ => execChallenge_moves hm.up .refl
  | .openP _ _ => execOpenP_moves hm.up .refl
  | .sessionClose _ _ => execSessionClose_moves hm.up .refl
  | .setProfile _ _ => execSetProfile_moves hm.up .refl
  | .setTorque _ _ => execSetTorque_moves hm.up .refl
  | .setSpeed _ _ => execSetSpeed_moves hm.up .refl
  | .setLimits _ _ => execSetLimits_moves hm.up .refl
  | .setRampLimits _ _ => execSetRampLimits_moves hm.up .refl
  | .cfgWrite _ _ => execCfgWrite_moves hm.up .refl
  | .cfgRead _ _ => execCfgRead_moves hm.up .refl
  | .cfgLock _ _ => execCfgLock_moves hm.up .refl
  | .coefLoad _ _ => execCoefLoad_moves hm.up .refl
  | .coefSwap _ _ => execCoefSwap_moves hm.up .refl
  | .coefRead _ _ _ => execCoefRead_moves hm.up .refl
  | .cvCalibrate _ _ => execCvCalibrate_moves hm.up .refl
  | .cvInject _ _ => execCvInject_moves hm.up .refl
  | .cvOpenWireTest _ _ => execCvOpenWireTest_moves hm.up .refl
  | .prtConfig _ _ => execPrtConfig_moves hm.up .refl
  | .prtTest _ _ => execPrtTest_moves hm.up .refl
  | .mtrRead _ _ => execMtrRead_moves hm.up .refl
  | .ledgerFetch _ _ => execLedgerFetch_moves hm.up .refl
  | .mtrCal _ _ => execMtrCal_moves hm.up .refl
  | .owlArm _ _ => execOwlArm_moves hm.up .refl
  | .owlTrigger _ _ => execOwlTrigger_moves hm.up .refl
  | .owlFetch _ _ _ => execOwlFetch_moves hm.up .refl
  | .replayStart _ _ => execReplayStart_moves hm.up .refl
  | .settEnumerate _ _ => execSettEnumerate_moves hm.up .refl
  | .settNodeRead _ _ => execSettNodeRead_moves hm.up .refl
  | .settNodeWrite _ _ => execSettNodeWrite_moves hm.up .refl
  | .lcQuery _ _ => execLcQuery_moves hm.up .refl
  | .lcAdvance _ _ => execLcAdvance_moves hm.up .refl
  | .fwUpdate _ _ => execFwUpdate_moves hm.up .refl
  | .keyRevoke _ _ => execKeyRevoke_moves hm.up .refl
  | .bistReport _ _ => execBistReport_moves hm.up .refl
  | .selftestRun _ _ => execSelftestRun_moves hm.up .refl
  | .diagPeek _ _ => execDiagPeek_moves hm.up .refl
  | .poll _ => execPoll_moves hm.up .refl
  | .hlkCmd _ => execHlkCmd_moves hm.up .refl
  | .hlkFast _ => execHlkFast_moves hm.up .refl
  | .discover _ => execDiscover_moves hm.up .refl
  | .hlkAssign _ => execHlkAssign_moves hm.up .refl
  | .hlkFrameAbort => execHlkFrameAbort_moves hm.up .refl
  | .canSegment _ _ => execCanSegment_moves hm.up .refl
  | .canSegmentGap _ => execCanSegmentGap_moves hm.up .refl
  | .canSetpoint _ _ _ => execCanSetpoint_moves hm.up .refl
  | .canBusoff _ => execCanBusoff_moves hm.up .refl
  | .slotStale _ _ => execSlotStale_moves hm.up .refl
  | .ptpSync _ _ _ => execPtpSync_moves hm.up .refl
  | .ptpLost => execPtpLost_moves hm.up .refl
  | .plicClaim _ _ => execPlicClaim_moves hm.up .refl
  | .plicComplete _ _ _ => execPlicComplete_moves hm.up .refl
  | .settFastStart _ => execSettFastStart_moves hm.up .refl
  | .settFastReturn _ _ _ _ _ _ => execSettFastReturn_moves hm.up .refl
  | .settSlowStart _ _ => execSettSlowStart_moves hm.up .refl
  | .settSlowReply _ _ _ _ _ => execSettSlowReply_moves hm.up .refl
  | .packidRead => execPackidRead_moves hm.up .refl
  | .packUnverified => execPackUnverified_moves hm.up .refl
  | .settAssignReply _ _ _ => execSettAssignReply_moves hm.up .refl
  | .ringBreak _ _ _ _ => execRingBreak_moves hm.up .refl
  | .closeTest _ _ => execCloseTest_moves hm.up .refl
  | .meterBlock _ _ _ => execMeterBlock_moves hm.up .refl
  | .ledgerRecord => execLedgerRecord_moves hm.up .refl
  | .meterRestore _ _ => execMeterRestore_moves hm.up .refl
  | .cvuStart _ _ _ => execCvuStart_moves hm.up .refl
  | .cvuData _ _ _ _ => execCvuData_moves hm.up .refl
  | .cvuResultRead _ _ => execCvuResultRead_moves hm.up .refl
  | .cvuAlive _ _ _ => execCvuAlive_moves hm.up .refl
  | .cvuAliveClr _ _ _ => execCvuAliveClr_moves hm.up .refl
  | .owlTickHeader => execOwlTickHeader_moves hm.up .refl
  | .owlStop => execOwlStop_moves hm.up .refl
  | .owlOffload _ _ _ => execOwlOffload_moves hm.up .refl
  | .owlOffloadDone => execOwlOffloadDone_moves hm.up .refl
  | .owlLoadStore _ _ => execOwlLoadStore_moves hm.up .refl
  | .replayHeader => execReplayHeader_moves hm.up .refl
  | .replayInput _ => execReplayInput_moves hm.up .refl
  | .replayEnd => execReplayEnd_moves hm.up .refl
  | .replayAbort _ _ => execReplayAbort_moves hm.up .refl
  | .configDigestUpdate => execConfigDigestUpdate_moves hm.up .refl
  | .porstAssert => execPorstAssert_moves hm.up .refl
  | .porstRelease _ _ _ => execPorstRelease_moves hm.up .refl
  | .pwrReset _ _ => execPwrReset_moves hm.up .refl
  | .badgerStartDone _ _ => execBadgerStartDone_moves hm.up .refl
  | .startupBistDone _ _ _ _ _ _ => execStartupBistDone_moves hm.up .refl
  | .bootLoadDone => execBootLoadDone_moves hm.up .refl
  | .devReady => execDevReady_moves hm.up .refl
  | .shutdownRequest _ _ => execShutdownRequest_moves hm.up .refl
  | .ignFilterExpiry => execIgnFilterExpiry_moves hm.up .refl
  | .shutdownQuiescent => execShutdownQuiescent_moves hm.up .refl
  | .shutWait => execShutWait_moves hm.up .refl
  | .shutdownBistDone _ _ _ _ _ _ => execShutdownBistDone_moves hm.up .refl
  | .bistTimeout => execBistTimeout_moves hm.up .refl
  | .wakePin _ _ _ => execWakePin_moves hm.up .refl
  | .wakeTimer _ _ => execWakeTimer_moves hm.up .refl
  | .aonLoss => execAonLoss_moves hm.up .refl
  | .thermalReading _ => execThermalReading_moves hm.up .refl
  | .thmStale => execThmStale_moves hm.up .refl
  | .thmTrim => execThmTrim_moves hm.up .refl
  | .epochAdvance _ _ => execEpochAdvance_moves hm.up .refl
  | .keyProgram _ _ => execKeyProgram_moves hm.up .refl
  | .bistManual _ _ => execBistManual_moves hm.up .refl
  | .selftestDone _ _ _ _ _ _ => execSelftestDone_moves hm.up .refl
  | .fwProgramDone _ => execFwProgramDone_moves hm.up .refl
  | .heartbeatPresent => execHeartbeatPresent_moves hm.up .refl
  | .clockReturn _ => execClockReturn_moves hm.up .refl
  | .supplyReturn _ => execSupplyReturn_moves hm.up .refl
  | .registerRead _ _ _ => execRegisterRead_moves hm.up .refl
  | .sramAccess _ _ _ _ _ _ => execSramAccess_moves hm.up .refl
  | .windowOpen _ _ => execWindowOpen_moves hm.up .refl
  | .dutyEdge _ => execDutyEdge_moves hm.up .refl
  | .linkThresholdDeassert _ _ => execLinkThresholdDeassert_moves hm.up .refl
  | .encoEdge => execEncoEdge_moves hm.up .refl
  | .canBusoffRecovery _ => execCanBusoffRecovery_moves hm.up .refl
  | .safeEnPulseEnd => execSafeEnPulseEnd_moves hm.up .refl
  | .profileChangeEffect => execProfileChangeEffect_moves hm.up .refl

end Sys2Proof.Machine
end

