-- ==== Sys2Proof/Laws/Regs.lean ====
section
/-! SUPPORT. The register store in canonical form, and frames: what is outside the mask of a chain of updates is as before. -/

set_option Elab.async false

namespace Sys2Proof.Machine

open Sys2Proof.Safety

/-! ### Keys -/

theorem Fld.key_ne_of_id {f g : Fld} {i j k l : Nat} (h : f.id ≠ g.id) : f.key i j ≠ g.key k l := by
  simp only [Fld.key]
  omega

theorem Fld.key_ne_of_fst {f g : Fld} {i j k l : Nat} (h : i % 1024 ≠ k % 1024) : f.key i j ≠ g.key k l := by
  simp only [Fld.key]
  omega

theorem Fld.key_ne_of_snd {f g : Fld} {i j k l : Nat} (h : j % 64 ≠ l % 64) : f.key i j ≠ g.key k l := by
  simp only [Fld.key]
  omega

/-! ### Reading after writing -/

theorem State.wf_regs {s : State} (h : s.wf = true) : scanon 0 s.regs = true := by
  simp only [State.wf, Bool.and_eq_true] at h
  exact h.1.1.1

theorem State.get_put_same {s : State} (h : s.wf = true) {f : Fld} {v i j : Nat} : (s.put f v i j).get f i j = v % 2 ^ f.width := by
  simp only [State.get, State.put, sget_sput_same (State.wf_regs h), Nat.xor_assoc, Nat.xor_self, Nat.xor_zero]

theorem State.get_put_key {s : State} (h : s.wf = true) {f g : Fld} {v i j k l : Nat} (hk : g.key k l ≠ f.key i j) :
    (s.put f v i j).get g k l = s.get g k l := by
  simp only [State.get, State.put, sget_sput_ne (State.wf_regs h) hk]

theorem State.get_put_ne {s : State} (h : s.wf = true) {f g : Fld} {v i j k l : Nat} (hk : g.id ≠ f.id) :
    (s.put f v i j).get g k l = s.get g k l := State.get_put_key h (Fld.key_ne_of_id hk)

theorem State.put_wf {s : State} (h : s.wf = true) {f : Fld} {v i j : Nat} : (s.put f v i j).wf = true :=
  Moves.wf (m := 1) (.put f v i j (.inl rfl) .refl) h

/-! ### Frames -/

/-- A field outside the mask reads as before. -/
theorem Moves.get {m : Nat} {a t : State} (h : Moves m a t) (ha : a.wf = true) (h0 : m.testBit 0 = false) {f : Fld}
    (hf : m.testBit (f.id + 40) = false) (i j : Nat) : t.get f i j = a.get f i j := by
  induction h with
  | refl => rfl
  | put g v k l hc h ih =>
    rw [← ih]
    refine State.get_put_ne (h.wf ha) ?_
    intro e
    rcases hc with hc | hc
    · rw [h0] at hc
      cases hc
    · rw [← e, hf] at hc
      cases hc
  | reset hs _ _ =>
    have := hs.bit (k := 0) (by decide)
    rw [h0] at this
    cases this
  | ts => assumption
  | free => assumption
  | log => assumption
  | inflight => assumption
  | ports => assumption
  | cvb => assumption
  | pos => assumption
  | gen => assumption
  | chans => assumption
  | sps => assumption
  | links => assumption
  | bdg => assumption
  | chuck => assumption
  | landing => assumption
  | owl => assumption
  | tls => assumption
  | fpl => assumption
  | net => assumption
  | setts => assumption
  | mtr => assumption
  | cvus => assumption
  | dev => assumption
  | rate => assumption
  | sett => assumption
  | mem => assumption
  | fuse => assumption
  | epoch => assumption
  | pwr => assumption

/-- The mask reaches a field. -/
def touches (m : Nat) (f : Fld) : Bool := m.testBit (f.id + 40)

/-- `Moves.get` with a side condition that `decide` settles for literal masks and fields. -/
theorem Moves.same {m : Nat} {a t : State} (h : Moves m a t) (ha : a.wf = true) (f : Fld) (i j : Nat)
    (hf : (m.testBit 0 || touches m f) = false) : t.get f i j = a.get f i j := by
  rw [Bool.or_eq_false_iff] at hf
  exact h.get ha hf.1 hf.2 i j

theorem MemMoves.keep {m : Nat} {a t : MemSt} (h : MemMoves m a t) : (m.testBit 4 = false → t.bytes = a.bytes) ∧
    (m.testBit 5 = false → t.mp = a.mp) ∧ (m.testBit 6 = false → t.lathe = a.lathe) ∧ (m.testBit 7 = false → t.owl = a.owl) ∧
    (m.testBit 8 = false → t.ueKnown = a.ueKnown) ∧ (m.testBit 9 = false → t.writebacks = a.writebacks) := by
  induction h with
  | refl => simp
  | bytes hs _ ih => have := hs.bit (k := 4) (by decide); simp_all
  | mp hs _ ih => have := hs.bit (k := 5) (by decide); simp_all
  | lathe hs _ ih => have := hs.bit (k := 6) (by decide); simp_all
  | owl hs _ ih => have := hs.bit (k := 7) (by decide); simp_all
  | ue hs _ ih => have := hs.bit (k := 8) (by decide); simp_all
  | back hs _ ih => have := hs.bit (k := 9) (by decide); simp_all
  | noOwl hs _ ih => have := hs.bit (k := 7) (by decide); simp_all
  | clear hs _ ih =>
    have := hs.bit (k := 8) (by decide)
    have := hs.bit (k := 9) (by decide)
    simp_all

/-- The bit of a part of the state in a mask. -/
def partBit : Part → Nat
  | .ts => 1
  | .free => 2
  | .rate => 3
  | .sram => 4
  | .mpSram => 5
  | .latheWords => 6
  | .owlWords => 7
  | .ueKnown => 8
  | .writebacks => 9
  | .log => 10
  | .inflight => 11
  | .ports => 12
  | .cvb => 13
  | .pos => 14
  | .gen => 15
  | .chans => 16
  | .sps => 17
  | .links => 18
  | .bdg => 19
  | .chuck => 20
  | .landing => 21
  | .owl => 22
  | .tls => 23
  | .fpl => 24
  | .net => 25
  | .setts => 26
  | .sett => 27
  | .mtr => 28
  | .cvus => 29
  | .pwr => 30
  | .dev => 31

/-- A part outside the mask is as before. -/
theorem Moves.part {m : Nat} {a t : State} (h : Moves m a t) {p : Part} (hp : m.testBit (partBit p) = false) : p.same a t := by
  induction h with
  | refl => cases p <;> rfl
  | put _ _ _ _ _ _ ih => cases p <;> exact ih
  | reset hs _ ih =>
    have h3 := hs.bit (k := 3) (by decide)
    have h27 := hs.bit (k := 27) (by decide)
    cases p <;> first | exact ih | (simp only [partBit, h3, h27] at hp; cases hp)
  | mem hv _ ih =>
    obtain ⟨h4, h5, h6, h7, h8, h9⟩ := hv.keep
    cases p <;> first
      | exact ih
      | exact (h4 hp).trans ih
      | exact (h5 hp).trans ih
      | exact (h6 hp).trans ih
      | exact (h7 hp).trans ih
      | exact (h8 hp).trans ih
      | exact (h9 hp).trans ih
  | rate hs _ ih =>
    have hb := hs.bit (k := 3) (by decide)
    cases p <;> first | exact ih | (simp only [partBit, hb] at hp; cases hp)
  | sett hs _ ih =>
    have hb := hs.bit (k := 27) (by decide)
    cases p <;> first | exact ih | (simp only [partBit, hb] at hp; cases hp)
  | ts hs _ ih =>
    have hb := hs.bit (k := 1) (by decide)
    cases p <;> first | exact ih | (simp only [partBit, hb] at hp; cases hp)
  | free hs _ ih =>
    have hb := hs.bit (k := 2) (by decide)
    cases p <;> first | exact ih | (simp only [partBit, hb] at hp; cases hp)
  | log hs _ ih =>
    have hb := hs.bit (k := 10) (by decide)
    cases p <;> first | exact ih | (simp only [partBit, hb] at hp; cases hp)
  | inflight hs _ ih =>
    have hb := hs.bit (k := 11) (by decide)
    cases p <;> first | exact ih | (simp only [partBit, hb] at hp; cases hp)
  | ports hs _ ih =>
    have hb := hs.bit (k := 12) (by decide)
    cases p <;> first | exact ih | (simp only [partBit, hb] at hp; cases hp)
  | cvb hs _ ih =>
    have hb := hs.bit (k := 13) (by decide)
    cases p <;> first | exact ih | (simp only [partBit, hb] at hp; cases hp)
  | pos hs _ ih =>
    have hb := hs.bit (k := 14) (by decide)
    cases p <;> first | exact ih | (simp only [partBit, hb] at hp; cases hp)
  | gen hs _ ih =>
    have hb := hs.bit (k := 15) (by decide)
    cases p <;> first | exact ih | (simp only [partBit, hb] at hp; cases hp)
  | chans hs _ ih =>
    have hb := hs.bit (k := 16) (by decide)
    cases p <;> first | exact ih | (simp only [partBit, hb] at hp; cases hp)
  | sps hs _ ih =>
    have hb := hs.bit (k := 17) (by decide)
    cases p <;> first | exact ih | (simp only [partBit, hb] at hp; cases hp)
  | links hs _ ih =>
    have hb := hs.bit (k := 18) (by decide)
    cases p <;> first | exact ih | (simp only [partBit, hb] at hp; cases hp)
  | bdg hs _ ih =>
    have hb := hs.bit (k := 19) (by decide)
    cases p <;> first | exact ih | (simp only [partBit, hb] at hp; cases hp)
  | chuck hs _ ih =>
    have hb := hs.bit (k := 20) (by decide)
    cases p <;> first | exact ih | (simp only [partBit, hb] at hp; cases hp)
  | landing hs _ ih =>
    have hb := hs.bit (k := 21) (by decide)
    cases p <;> first | exact ih | (simp only [partBit, hb] at hp; cases hp)
  | owl hs _ ih =>
    have hb := hs.bit (k := 22) (by decide)
    cases p <;> first | exact ih | (simp only [partBit, hb] at hp; cases hp)
  | tls hs _ ih =>
    have hb := hs.bit (k := 23) (by decide)
    cases p <;> first | exact ih | (simp only [partBit, hb] at hp; cases hp)
  | fpl hs _ ih =>
    have hb := hs.bit (k := 24) (by decide)
    cases p <;> first | exact ih | (simp only [partBit, hb] at hp; cases hp)
  | net hs _ ih =>
    have hb := hs.bit (k := 25) (by decide)
    cases p <;> first | exact ih | (simp only [partBit, hb] at hp; cases hp)
  | setts hs _ ih =>
    have hb := hs.bit (k := 26) (by decide)
    cases p <;> first | exact ih | (simp only [partBit, hb] at hp; cases hp)
  | mtr hs _ ih =>
    have hb := hs.bit (k := 28) (by decide)
    cases p <;> first | exact ih | (simp only [partBit, hb] at hp; cases hp)
  | cvus hs _ ih =>
    have hb := hs.bit (k := 29) (by decide)
    cases p <;> first | exact ih | (simp only [partBit, hb] at hp; cases hp)
  | dev hs _ ih =>
    have hb := hs.bit (k := 31) (by decide)
    cases p <;> first | exact ih | (simp only [partBit, hb] at hp; cases hp)
  | fuse hs _ ih =>
    have hb := hs.bit (k := 30) (by decide)
    cases p <;> first | exact ih | (simp only [partBit, hb] at hp; cases hp)
  | epoch hs _ _ ih =>
    have hb := hs.bit (k := 30) (by decide)
    cases p <;> first | exact ih | (simp only [partBit, hb] at hp; cases hp)
  | pwr hs _ _ _ ih =>
    have hb := hs.bit (k := 30) (by decide)
    cases p <;> first | exact ih | (simp only [partBit, hb] at hp; cases hp)

/-- Nothing but the registers and the parts in the mask: the memories as one. -/
theorem Moves.mem_eq {m : Nat} {a t : State} (h : Moves m a t) (hp : m &&& 0x3f0 = 0) : t.mem = a.mem := by
  have hb : ∀ k, (0x3f0 : Nat).testBit k = true → m.testBit k = false := by
    intro k hk
    have e := congrArg (fun n => n.testBit k) hp
    simpa [Nat.testBit_and, hk] using e
  have h4 := h.part (p := .sram) (hb 4 (by decide))
  have h5 := h.part (p := .mpSram) (hb 5 (by decide))
  have h6 := h.part (p := .latheWords) (hb 6 (by decide))
  have h7 := h.part (p := .owlWords) (hb 7 (by decide))
  have h8 := h.part (p := .ueKnown) (hb 8 (by decide))
  have h9 := h.part (p := .writebacks) (hb 9 (by decide))
  simp only [Part.same] at h4 h5 h6 h7 h8 h9
  generalize t.mem = x at *
  generalize a.mem = y at *
  cases x
  cases y
  simp_all

/-- The mask of a list of fields and a list of parts. -/
def maskOf (fs : List Fld) (ps : List Part) : Nat :=
  fs.foldr (fun (f : Fld) m => m ||| 2 ^ (f.id + 40)) 0 ||| ps.foldr (fun p m => m ||| 2 ^ partBit p) 0

theorem testBit_maskOf_fld {fs : List Fld} {k : Nat} : (fs.foldr (fun (f : Fld) m => m ||| 2 ^ (f.id + 40)) 0).testBit k = true →
    ∃ g ∈ fs, g.id + 40 = k := by
  induction fs with
  | nil => simp
  | cons f fs ih =>
    simp only [List.foldr_cons, Nat.testBit_or, Nat.testBit_two_pow, Bool.or_eq_true, decide_eq_true_eq]
    rintro (h | h)
    · obtain ⟨g, hg, e⟩ := ih h
      exact ⟨g, List.mem_cons_of_mem _ hg, e⟩
    · exact ⟨f, List.mem_cons_self, h⟩

theorem testBit_maskOf_part {ps : List Part} {k : Nat} : (ps.foldr (fun p m => m ||| 2 ^ partBit p) 0).testBit k = true →
    ∃ p ∈ ps, partBit p = k := by
  induction ps with
  | nil => simp
  | cons p ps ih =>
    simp only [List.foldr_cons, Nat.testBit_or, Nat.testBit_two_pow, Bool.or_eq_true, decide_eq_true_eq]
    rintro (h | h)
    · obtain ⟨g, hg, e⟩ := ih h
      exact ⟨g, List.mem_cons_of_mem _ hg, e⟩
    · exact ⟨p, List.mem_cons_self, h⟩

/-- The part that a bit stands for. -/
def bitPart : Nat → Option Part
  | 1 => some .ts
  | 2 => some .free
  | 3 => some .rate
  | 4 => some .sram
  | 5 => some .mpSram
  | 6 => some .latheWords
  | 7 => some .owlWords
  | 8 => some .ueKnown
  | 9 => some .writebacks
  | 10 => some .log
  | 11 => some .inflight
  | 12 => some .ports
  | 13 => some .cvb
  | 14 => some .pos
  | 15 => some .gen
  | 16 => some .chans
  | 17 => some .sps
  | 18 => some .links
  | 19 => some .bdg
  | 20 => some .chuck
  | 21 => some .landing
  | 22 => some .owl
  | 23 => some .tls
  | 24 => some .fpl
  | 25 => some .net
  | 26 => some .setts
  | 27 => some .sett
  | 28 => some .mtr
  | 29 => some .cvus
  | 30 => some .pwr
  | 31 => some .dev
  | _ => none

theorem partBit_inj {p q : Part} (h : partBit p = partBit q) : p = q := by
  have key : ∀ r : Part, bitPart (partBit r) = some r := by intro r; cases r <;> rfl
  exact Option.some.inj ((key p).symm.trans ((congrArg bitPart h).trans (key q)))

theorem partBit_lt (p : Part) : 0 < partBit p ∧ partBit p < 40 := by cases p <;> decide

/-- A chain of updates whose mask is that of these fields and parts keeps everything else. -/
theorem Moves.keeps {m : Nat} {a t : State} {fs : List Fld} {ps : List Part} (h : Moves m a t) (ha : a.wf = true)
    (hs : Sub m (maskOf fs ps)) : Keeps a t fs ps := by
  have key : ∀ k, m.testBit k = true → (∃ g ∈ fs, g.id + 40 = k) ∨ ∃ p ∈ ps, partBit p = k := by
    intro k hk
    have := hs.bit hk
    simp only [maskOf, Nat.testBit_or, Bool.or_eq_true] at this
    exact this.imp testBit_maskOf_fld testBit_maskOf_part
  constructor
  · intro f i j hf
    refine h.get ha ?_ ?_ i j
    · by_contra h0
      rcases key 0 (by simpa using h0) with ⟨g, _, e⟩ | ⟨p, _, e⟩
      · omega
      · have := partBit_lt p
        omega
    · by_contra h0
      rcases key (f.id + 40) (by simpa using h0) with ⟨g, hg, e⟩ | ⟨p, _, e⟩
      · exact hf g hg (by omega)
      · have := partBit_lt p
        omega
  · intro p hp
    refine h.part ?_
    by_contra h0
    rcases key (partBit p) (by simpa using h0) with ⟨g, _, e⟩ | ⟨q, hq, e⟩
    · have := partBit_lt p
      omega
    · exact hp (partBit_inj e ▸ hq)

end Sys2Proof.Machine
end

