-- ==== Sys2Proof/Laws/State.lean ====
section
/-! SUPPORT. One lemma for each part of the state and each update: what the update leaves, and what it sets. All are true by
definition; with them no proof unfolds a record update. -/

set_option Elab.async false

namespace Sys2Proof.Machine

variable (s : State)

/-! ### Reading after writing, under the canonical form of the stores -/

@[simp] theorem State.get_put {f : Fld} {v i j : Nat} (h : s.wf = true) : (s.put f v i j).get f i j = v % 2 ^ f.width :=
  State.get_put_same h

@[simp] theorem State.get_put_other {f g : Fld} {v i j k l : Nat} (h : s.wf = true) (hk : g.id ≠ f.id) :
    (s.put f v i j).get g k l = s.get g k l := State.get_put_ne h hk

@[simp] theorem State.wf_put {f : Fld} {v i j : Nat} (h : s.wf = true) : (s.put f v i j).wf = true := State.put_wf h

@[simp] theorem State.onIf_true (f : State → State) : s.onIf true f = f s := rfl

@[simp] theorem State.onIf_false (f : State → State) : s.onIf false f = s := rfl

theorem live_run {f : State → State} (h : s.dev.held = false) : live s f = .next (f s) := by
  simp [live, h]

/-! ### put -/

@[simp] theorem State.put_pending (f : Fld) (v i j : Nat) : (s.put f v i j).pending = s.pending := rfl
@[simp] theorem State.put_ts (f : Fld) (v i j : Nat) : (s.put f v i j).ts = s.ts := rfl
@[simp] theorem State.put_free (f : Fld) (v i j : Nat) : (s.put f v i j).free = s.free := rfl
@[simp] theorem State.put_rate (f : Fld) (v i j : Nat) : (s.put f v i j).rate = s.rate := rfl
@[simp] theorem State.put_mem (f : Fld) (v i j : Nat) : (s.put f v i j).mem = s.mem := rfl
@[simp] theorem State.put_log (f : Fld) (v i j : Nat) : (s.put f v i j).log = s.log := rfl
@[simp] theorem State.put_inflight (f : Fld) (v i j : Nat) : (s.put f v i j).inflight = s.inflight := rfl
@[simp] theorem State.put_ports (f : Fld) (v i j : Nat) : (s.put f v i j).ports = s.ports := rfl
@[simp] theorem State.put_cvb (f : Fld) (v i j : Nat) : (s.put f v i j).cvb = s.cvb := rfl
@[simp] theorem State.put_pos (f : Fld) (v i j : Nat) : (s.put f v i j).pos = s.pos := rfl
@[simp] theorem State.put_gen (f : Fld) (v i j : Nat) : (s.put f v i j).gen = s.gen := rfl
@[simp] theorem State.put_chans (f : Fld) (v i j : Nat) : (s.put f v i j).chans = s.chans := rfl
@[simp] theorem State.put_sps (f : Fld) (v i j : Nat) : (s.put f v i j).sps = s.sps := rfl
@[simp] theorem State.put_links (f : Fld) (v i j : Nat) : (s.put f v i j).links = s.links := rfl
@[simp] theorem State.put_bdg (f : Fld) (v i j : Nat) : (s.put f v i j).bdg = s.bdg := rfl
@[simp] theorem State.put_chuck (f : Fld) (v i j : Nat) : (s.put f v i j).chuck = s.chuck := rfl
@[simp] theorem State.put_landing (f : Fld) (v i j : Nat) : (s.put f v i j).landing = s.landing := rfl
@[simp] theorem State.put_owl (f : Fld) (v i j : Nat) : (s.put f v i j).owl = s.owl := rfl
@[simp] theorem State.put_tls (f : Fld) (v i j : Nat) : (s.put f v i j).tls = s.tls := rfl
@[simp] theorem State.put_fpl (f : Fld) (v i j : Nat) : (s.put f v i j).fpl = s.fpl := rfl
@[simp] theorem State.put_net (f : Fld) (v i j : Nat) : (s.put f v i j).net = s.net := rfl
@[simp] theorem State.put_setts (f : Fld) (v i j : Nat) : (s.put f v i j).setts = s.setts := rfl
@[simp] theorem State.put_sett (f : Fld) (v i j : Nat) : (s.put f v i j).sett = s.sett := rfl
@[simp] theorem State.put_mtr (f : Fld) (v i j : Nat) : (s.put f v i j).mtr = s.mtr := rfl
@[simp] theorem State.put_cvus (f : Fld) (v i j : Nat) : (s.put f v i j).cvus = s.cvus := rfl
@[simp] theorem State.put_pwr (f : Fld) (v i j : Nat) : (s.put f v i j).pwr = s.pwr := rfl
@[simp] theorem State.put_dev (f : Fld) (v i j : Nat) : (s.put f v i j).dev = s.dev := rfl

/-! ### putS -/

@[simp] theorem State.putS_pending (f : Fld) (v : Int) (i j : Nat) : (s.putS f v i j).pending = s.pending := rfl
@[simp] theorem State.putS_ts (f : Fld) (v : Int) (i j : Nat) : (s.putS f v i j).ts = s.ts := rfl
@[simp] theorem State.putS_free (f : Fld) (v : Int) (i j : Nat) : (s.putS f v i j).free = s.free := rfl
@[simp] theorem State.putS_rate (f : Fld) (v : Int) (i j : Nat) : (s.putS f v i j).rate = s.rate := rfl
@[simp] theorem State.putS_mem (f : Fld) (v : Int) (i j : Nat) : (s.putS f v i j).mem = s.mem := rfl
@[simp] theorem State.putS_log (f : Fld) (v : Int) (i j : Nat) : (s.putS f v i j).log = s.log := rfl
@[simp] theorem State.putS_inflight (f : Fld) (v : Int) (i j : Nat) : (s.putS f v i j).inflight = s.inflight := rfl
@[simp] theorem State.putS_ports (f : Fld) (v : Int) (i j : Nat) : (s.putS f v i j).ports = s.ports := rfl
@[simp] theorem State.putS_cvb (f : Fld) (v : Int) (i j : Nat) : (s.putS f v i j).cvb = s.cvb := rfl
@[simp] theorem State.putS_pos (f : Fld) (v : Int) (i j : Nat) : (s.putS f v i j).pos = s.pos := rfl
@[simp] theorem State.putS_gen (f : Fld) (v : Int) (i j : Nat) : (s.putS f v i j).gen = s.gen := rfl
@[simp] theorem State.putS_chans (f : Fld) (v : Int) (i j : Nat) : (s.putS f v i j).chans = s.chans := rfl
@[simp] theorem State.putS_sps (f : Fld) (v : Int) (i j : Nat) : (s.putS f v i j).sps = s.sps := rfl
@[simp] theorem State.putS_links (f : Fld) (v : Int) (i j : Nat) : (s.putS f v i j).links = s.links := rfl
@[simp] theorem State.putS_bdg (f : Fld) (v : Int) (i j : Nat) : (s.putS f v i j).bdg = s.bdg := rfl
@[simp] theorem State.putS_chuck (f : Fld) (v : Int) (i j : Nat) : (s.putS f v i j).chuck = s.chuck := rfl
@[simp] theorem State.putS_landing (f : Fld) (v : Int) (i j : Nat) : (s.putS f v i j).landing = s.landing := rfl
@[simp] theorem State.putS_owl (f : Fld) (v : Int) (i j : Nat) : (s.putS f v i j).owl = s.owl := rfl
@[simp] theorem State.putS_tls (f : Fld) (v : Int) (i j : Nat) : (s.putS f v i j).tls = s.tls := rfl
@[simp] theorem State.putS_fpl (f : Fld) (v : Int) (i j : Nat) : (s.putS f v i j).fpl = s.fpl := rfl
@[simp] theorem State.putS_net (f : Fld) (v : Int) (i j : Nat) : (s.putS f v i j).net = s.net := rfl
@[simp] theorem State.putS_setts (f : Fld) (v : Int) (i j : Nat) : (s.putS f v i j).setts = s.setts := rfl
@[simp] theorem State.putS_sett (f : Fld) (v : Int) (i j : Nat) : (s.putS f v i j).sett = s.sett := rfl
@[simp] theorem State.putS_mtr (f : Fld) (v : Int) (i j : Nat) : (s.putS f v i j).mtr = s.mtr := rfl
@[simp] theorem State.putS_cvus (f : Fld) (v : Int) (i j : Nat) : (s.putS f v i j).cvus = s.cvus := rfl
@[simp] theorem State.putS_pwr (f : Fld) (v : Int) (i j : Nat) : (s.putS f v i j).pwr = s.pwr := rfl
@[simp] theorem State.putS_dev (f : Fld) (v : Int) (i j : Nat) : (s.putS f v i j).dev = s.dev := rfl

/-! ### putB -/

@[simp] theorem State.putB_pending (f : Fld) (b : Bool) (i j : Nat) : (s.putB f b i j).pending = s.pending := rfl
@[simp] theorem State.putB_ts (f : Fld) (b : Bool) (i j : Nat) : (s.putB f b i j).ts = s.ts := rfl
@[simp] theorem State.putB_free (f : Fld) (b : Bool) (i j : Nat) : (s.putB f b i j).free = s.free := rfl
@[simp] theorem State.putB_rate (f : Fld) (b : Bool) (i j : Nat) : (s.putB f b i j).rate = s.rate := rfl
@[simp] theorem State.putB_mem (f : Fld) (b : Bool) (i j : Nat) : (s.putB f b i j).mem = s.mem := rfl
@[simp] theorem State.putB_log (f : Fld) (b : Bool) (i j : Nat) : (s.putB f b i j).log = s.log := rfl
@[simp] theorem State.putB_inflight (f : Fld) (b : Bool) (i j : Nat) : (s.putB f b i j).inflight = s.inflight := rfl
@[simp] theorem State.putB_ports (f : Fld) (b : Bool) (i j : Nat) : (s.putB f b i j).ports = s.ports := rfl
@[simp] theorem State.putB_cvb (f : Fld) (b : Bool) (i j : Nat) : (s.putB f b i j).cvb = s.cvb := rfl
@[simp] theorem State.putB_pos (f : Fld) (b : Bool) (i j : Nat) : (s.putB f b i j).pos = s.pos := rfl
@[simp] theorem State.putB_gen (f : Fld) (b : Bool) (i j : Nat) : (s.putB f b i j).gen = s.gen := rfl
@[simp] theorem State.putB_chans (f : Fld) (b : Bool) (i j : Nat) : (s.putB f b i j).chans = s.chans := rfl
@[simp] theorem State.putB_sps (f : Fld) (b : Bool) (i j : Nat) : (s.putB f b i j).sps = s.sps := rfl
@[simp] theorem State.putB_links (f : Fld) (b : Bool) (i j : Nat) : (s.putB f b i j).links = s.links := rfl
@[simp] theorem State.putB_bdg (f : Fld) (b : Bool) (i j : Nat) : (s.putB f b i j).bdg = s.bdg := rfl
@[simp] theorem State.putB_chuck (f : Fld) (b : Bool) (i j : Nat) : (s.putB f b i j).chuck = s.chuck := rfl
@[simp] theorem State.putB_landing (f : Fld) (b : Bool) (i j : Nat) : (s.putB f b i j).landing = s.landing := rfl
@[simp] theorem State.putB_owl (f : Fld) (b : Bool) (i j : Nat) : (s.putB f b i j).owl = s.owl := rfl
@[simp] theorem State.putB_tls (f : Fld) (b : Bool) (i j : Nat) : (s.putB f b i j).tls = s.tls := rfl
@[simp] theorem State.putB_fpl (f : Fld) (b : Bool) (i j : Nat) : (s.putB f b i j).fpl = s.fpl := rfl
@[simp] theorem State.putB_net (f : Fld) (b : Bool) (i j : Nat) : (s.putB f b i j).net = s.net := rfl
@[simp] theorem State.putB_setts (f : Fld) (b : Bool) (i j : Nat) : (s.putB f b i j).setts = s.setts := rfl
@[simp] theorem State.putB_sett (f : Fld) (b : Bool) (i j : Nat) : (s.putB f b i j).sett = s.sett := rfl
@[simp] theorem State.putB_mtr (f : Fld) (b : Bool) (i j : Nat) : (s.putB f b i j).mtr = s.mtr := rfl
@[simp] theorem State.putB_cvus (f : Fld) (b : Bool) (i j : Nat) : (s.putB f b i j).cvus = s.cvus := rfl
@[simp] theorem State.putB_pwr (f : Fld) (b : Bool) (i j : Nat) : (s.putB f b i j).pwr = s.pwr := rfl
@[simp] theorem State.putB_dev (f : Fld) (b : Bool) (i j : Nat) : (s.putB f b i j).dev = s.dev := rfl

/-! ### clr -/

@[simp] theorem State.clr_pending (f : Fld) (i j : Nat) : (s.clr f i j).pending = s.pending := rfl
@[simp] theorem State.clr_ts (f : Fld) (i j : Nat) : (s.clr f i j).ts = s.ts := rfl
@[simp] theorem State.clr_free (f : Fld) (i j : Nat) : (s.clr f i j).free = s.free := rfl
@[simp] theorem State.clr_rate (f : Fld) (i j : Nat) : (s.clr f i j).rate = s.rate := rfl
@[simp] theorem State.clr_mem (f : Fld) (i j : Nat) : (s.clr f i j).mem = s.mem := rfl
@[simp] theorem State.clr_log (f : Fld) (i j : Nat) : (s.clr f i j).log = s.log := rfl
@[simp] theorem State.clr_inflight (f : Fld) (i j : Nat) : (s.clr f i j).inflight = s.inflight := rfl
@[simp] theorem State.clr_ports (f : Fld) (i j : Nat) : (s.clr f i j).ports = s.ports := rfl
@[simp] theorem State.clr_cvb (f : Fld) (i j : Nat) : (s.clr f i j).cvb = s.cvb := rfl
@[simp] theorem State.clr_pos (f : Fld) (i j : Nat) : (s.clr f i j).pos = s.pos := rfl
@[simp] theorem State.clr_gen (f : Fld) (i j : Nat) : (s.clr f i j).gen = s.gen := rfl
@[simp] theorem State.clr_chans (f : Fld) (i j : Nat) : (s.clr f i j).chans = s.chans := rfl
@[simp] theorem State.clr_sps (f : Fld) (i j : Nat) : (s.clr f i j).sps = s.sps := rfl
@[simp] theorem State.clr_links (f : Fld) (i j : Nat) : (s.clr f i j).links = s.links := rfl
@[simp] theorem State.clr_bdg (f : Fld) (i j : Nat) : (s.clr f i j).bdg = s.bdg := rfl
@[simp] theorem State.clr_chuck (f : Fld) (i j : Nat) : (s.clr f i j).chuck = s.chuck := rfl
@[simp] theorem State.clr_landing (f : Fld) (i j : Nat) : (s.clr f i j).landing = s.landing := rfl
@[simp] theorem State.clr_owl (f : Fld) (i j : Nat) : (s.clr f i j).owl = s.owl := rfl
@[simp] theorem State.clr_tls (f : Fld) (i j : Nat) : (s.clr f i j).tls = s.tls := rfl
@[simp] theorem State.clr_fpl (f : Fld) (i j : Nat) : (s.clr f i j).fpl = s.fpl := rfl
@[simp] theorem State.clr_net (f : Fld) (i j : Nat) : (s.clr f i j).net = s.net := rfl
@[simp] theorem State.clr_setts (f : Fld) (i j : Nat) : (s.clr f i j).setts = s.setts := rfl
@[simp] theorem State.clr_sett (f : Fld) (i j : Nat) : (s.clr f i j).sett = s.sett := rfl
@[simp] theorem State.clr_mtr (f : Fld) (i j : Nat) : (s.clr f i j).mtr = s.mtr := rfl
@[simp] theorem State.clr_cvus (f : Fld) (i j : Nat) : (s.clr f i j).cvus = s.cvus := rfl
@[simp] theorem State.clr_pwr (f : Fld) (i j : Nat) : (s.clr f i j).pwr = s.pwr := rfl
@[simp] theorem State.clr_dev (f : Fld) (i j : Nat) : (s.clr f i j).dev = s.dev := rfl

/-! ### incSat -/

@[simp] theorem State.incSat_pending (f : Fld) (i j : Nat) : (s.incSat f i j).pending = s.pending := rfl
@[simp] theorem State.incSat_ts (f : Fld) (i j : Nat) : (s.incSat f i j).ts = s.ts := rfl
@[simp] theorem State.incSat_free (f : Fld) (i j : Nat) : (s.incSat f i j).free = s.free := rfl
@[simp] theorem State.incSat_rate (f : Fld) (i j : Nat) : (s.incSat f i j).rate = s.rate := rfl
@[simp] theorem State.incSat_mem (f : Fld) (i j : Nat) : (s.incSat f i j).mem = s.mem := rfl
@[simp] theorem State.incSat_log (f : Fld) (i j : Nat) : (s.incSat f i j).log = s.log := rfl
@[simp] theorem State.incSat_inflight (f : Fld) (i j : Nat) : (s.incSat f i j).inflight = s.inflight := rfl
@[simp] theorem State.incSat_ports (f : Fld) (i j : Nat) : (s.incSat f i j).ports = s.ports := rfl
@[simp] theorem State.incSat_cvb (f : Fld) (i j : Nat) : (s.incSat f i j).cvb = s.cvb := rfl
@[simp] theorem State.incSat_pos (f : Fld) (i j : Nat) : (s.incSat f i j).pos = s.pos := rfl
@[simp] theorem State.incSat_gen (f : Fld) (i j : Nat) : (s.incSat f i j).gen = s.gen := rfl
@[simp] theorem State.incSat_chans (f : Fld) (i j : Nat) : (s.incSat f i j).chans = s.chans := rfl
@[simp] theorem State.incSat_sps (f : Fld) (i j : Nat) : (s.incSat f i j).sps = s.sps := rfl
@[simp] theorem State.incSat_links (f : Fld) (i j : Nat) : (s.incSat f i j).links = s.links := rfl
@[simp] theorem State.incSat_bdg (f : Fld) (i j : Nat) : (s.incSat f i j).bdg = s.bdg := rfl
@[simp] theorem State.incSat_chuck (f : Fld) (i j : Nat) : (s.incSat f i j).chuck = s.chuck := rfl
@[simp] theorem State.incSat_landing (f : Fld) (i j : Nat) : (s.incSat f i j).landing = s.landing := rfl
@[simp] theorem State.incSat_owl (f : Fld) (i j : Nat) : (s.incSat f i j).owl = s.owl := rfl
@[simp] theorem State.incSat_tls (f : Fld) (i j : Nat) : (s.incSat f i j).tls = s.tls := rfl
@[simp] theorem State.incSat_fpl (f : Fld) (i j : Nat) : (s.incSat f i j).fpl = s.fpl := rfl
@[simp] theorem State.incSat_net (f : Fld) (i j : Nat) : (s.incSat f i j).net = s.net := rfl
@[simp] theorem State.incSat_setts (f : Fld) (i j : Nat) : (s.incSat f i j).setts = s.setts := rfl
@[simp] theorem State.incSat_sett (f : Fld) (i j : Nat) : (s.incSat f i j).sett = s.sett := rfl
@[simp] theorem State.incSat_mtr (f : Fld) (i j : Nat) : (s.incSat f i j).mtr = s.mtr := rfl
@[simp] theorem State.incSat_cvus (f : Fld) (i j : Nat) : (s.incSat f i j).cvus = s.cvus := rfl
@[simp] theorem State.incSat_pwr (f : Fld) (i j : Nat) : (s.incSat f i j).pwr = s.pwr := rfl
@[simp] theorem State.incSat_dev (f : Fld) (i j : Nat) : (s.incSat f i j).dev = s.dev := rfl

/-! ### incWrap -/

@[simp] theorem State.incWrap_pending (f : Fld) (i j : Nat) : (s.incWrap f i j).pending = s.pending := rfl
@[simp] theorem State.incWrap_ts (f : Fld) (i j : Nat) : (s.incWrap f i j).ts = s.ts := rfl
@[simp] theorem State.incWrap_free (f : Fld) (i j : Nat) : (s.incWrap f i j).free = s.free := rfl
@[simp] theorem State.incWrap_rate (f : Fld) (i j : Nat) : (s.incWrap f i j).rate = s.rate := rfl
@[simp] theorem State.incWrap_mem (f : Fld) (i j : Nat) : (s.incWrap f i j).mem = s.mem := rfl
@[simp] theorem State.incWrap_log (f : Fld) (i j : Nat) : (s.incWrap f i j).log = s.log := rfl
@[simp] theorem State.incWrap_inflight (f : Fld) (i j : Nat) : (s.incWrap f i j).inflight = s.inflight := rfl
@[simp] theorem State.incWrap_ports (f : Fld) (i j : Nat) : (s.incWrap f i j).ports = s.ports := rfl
@[simp] theorem State.incWrap_cvb (f : Fld) (i j : Nat) : (s.incWrap f i j).cvb = s.cvb := rfl
@[simp] theorem State.incWrap_pos (f : Fld) (i j : Nat) : (s.incWrap f i j).pos = s.pos := rfl
@[simp] theorem State.incWrap_gen (f : Fld) (i j : Nat) : (s.incWrap f i j).gen = s.gen := rfl
@[simp] theorem State.incWrap_chans (f : Fld) (i j : Nat) : (s.incWrap f i j).chans = s.chans := rfl
@[simp] theorem State.incWrap_sps (f : Fld) (i j : Nat) : (s.incWrap f i j).sps = s.sps := rfl
@[simp] theorem State.incWrap_links (f : Fld) (i j : Nat) : (s.incWrap f i j).links = s.links := rfl
@[simp] theorem State.incWrap_bdg (f : Fld) (i j : Nat) : (s.incWrap f i j).bdg = s.bdg := rfl
@[simp] theorem State.incWrap_chuck (f : Fld) (i j : Nat) : (s.incWrap f i j).chuck = s.chuck := rfl
@[simp] theorem State.incWrap_landing (f : Fld) (i j : Nat) : (s.incWrap f i j).landing = s.landing := rfl
@[simp] theorem State.incWrap_owl (f : Fld) (i j : Nat) : (s.incWrap f i j).owl = s.owl := rfl
@[simp] theorem State.incWrap_tls (f : Fld) (i j : Nat) : (s.incWrap f i j).tls = s.tls := rfl
@[simp] theorem State.incWrap_fpl (f : Fld) (i j : Nat) : (s.incWrap f i j).fpl = s.fpl := rfl
@[simp] theorem State.incWrap_net (f : Fld) (i j : Nat) : (s.incWrap f i j).net = s.net := rfl
@[simp] theorem State.incWrap_setts (f : Fld) (i j : Nat) : (s.incWrap f i j).setts = s.setts := rfl
@[simp] theorem State.incWrap_sett (f : Fld) (i j : Nat) : (s.incWrap f i j).sett = s.sett := rfl
@[simp] theorem State.incWrap_mtr (f : Fld) (i j : Nat) : (s.incWrap f i j).mtr = s.mtr := rfl
@[simp] theorem State.incWrap_cvus (f : Fld) (i j : Nat) : (s.incWrap f i j).cvus = s.cvus := rfl
@[simp] theorem State.incWrap_pwr (f : Fld) (i j : Nat) : (s.incWrap f i j).pwr = s.pwr := rfl
@[simp] theorem State.incWrap_dev (f : Fld) (i j : Nat) : (s.incWrap f i j).dev = s.dev := rfl

/-! ### putBit -/

@[simp] theorem State.putBit_pending (f : Fld) (k : Nat) (b : Bool) (i j : Nat) : (s.putBit f k b i j).pending = s.pending := rfl
@[simp] theorem State.putBit_ts (f : Fld) (k : Nat) (b : Bool) (i j : Nat) : (s.putBit f k b i j).ts = s.ts := rfl
@[simp] theorem State.putBit_free (f : Fld) (k : Nat) (b : Bool) (i j : Nat) : (s.putBit f k b i j).free = s.free := rfl
@[simp] theorem State.putBit_rate (f : Fld) (k : Nat) (b : Bool) (i j : Nat) : (s.putBit f k b i j).rate = s.rate := rfl
@[simp] theorem State.putBit_mem (f : Fld) (k : Nat) (b : Bool) (i j : Nat) : (s.putBit f k b i j).mem = s.mem := rfl
@[simp] theorem State.putBit_log (f : Fld) (k : Nat) (b : Bool) (i j : Nat) : (s.putBit f k b i j).log = s.log := rfl
@[simp] theorem State.putBit_inflight (f : Fld) (k : Nat) (b : Bool) (i j : Nat) : (s.putBit f k b i j).inflight = s.inflight := rfl
@[simp] theorem State.putBit_ports (f : Fld) (k : Nat) (b : Bool) (i j : Nat) : (s.putBit f k b i j).ports = s.ports := rfl
@[simp] theorem State.putBit_cvb (f : Fld) (k : Nat) (b : Bool) (i j : Nat) : (s.putBit f k b i j).cvb = s.cvb := rfl
@[simp] theorem State.putBit_pos (f : Fld) (k : Nat) (b : Bool) (i j : Nat) : (s.putBit f k b i j).pos = s.pos := rfl
@[simp] theorem State.putBit_gen (f : Fld) (k : Nat) (b : Bool) (i j : Nat) : (s.putBit f k b i j).gen = s.gen := rfl
@[simp] theorem State.putBit_chans (f : Fld) (k : Nat) (b : Bool) (i j : Nat) : (s.putBit f k b i j).chans = s.chans := rfl
@[simp] theorem State.putBit_sps (f : Fld) (k : Nat) (b : Bool) (i j : Nat) : (s.putBit f k b i j).sps = s.sps := rfl
@[simp] theorem State.putBit_links (f : Fld) (k : Nat) (b : Bool) (i j : Nat) : (s.putBit f k b i j).links = s.links := rfl
@[simp] theorem State.putBit_bdg (f : Fld) (k : Nat) (b : Bool) (i j : Nat) : (s.putBit f k b i j).bdg = s.bdg := rfl
@[simp] theorem State.putBit_chuck (f : Fld) (k : Nat) (b : Bool) (i j : Nat) : (s.putBit f k b i j).chuck = s.chuck := rfl
@[simp] theorem State.putBit_landing (f : Fld) (k : Nat) (b : Bool) (i j : Nat) : (s.putBit f k b i j).landing = s.landing := rfl
@[simp] theorem State.putBit_owl (f : Fld) (k : Nat) (b : Bool) (i j : Nat) : (s.putBit f k b i j).owl = s.owl := rfl
@[simp] theorem State.putBit_tls (f : Fld) (k : Nat) (b : Bool) (i j : Nat) : (s.putBit f k b i j).tls = s.tls := rfl
@[simp] theorem State.putBit_fpl (f : Fld) (k : Nat) (b : Bool) (i j : Nat) : (s.putBit f k b i j).fpl = s.fpl := rfl
@[simp] theorem State.putBit_net (f : Fld) (k : Nat) (b : Bool) (i j : Nat) : (s.putBit f k b i j).net = s.net := rfl
@[simp] theorem State.putBit_setts (f : Fld) (k : Nat) (b : Bool) (i j : Nat) : (s.putBit f k b i j).setts = s.setts := rfl
@[simp] theorem State.putBit_sett (f : Fld) (k : Nat) (b : Bool) (i j : Nat) : (s.putBit f k b i j).sett = s.sett := rfl
@[simp] theorem State.putBit_mtr (f : Fld) (k : Nat) (b : Bool) (i j : Nat) : (s.putBit f k b i j).mtr = s.mtr := rfl
@[simp] theorem State.putBit_cvus (f : Fld) (k : Nat) (b : Bool) (i j : Nat) : (s.putBit f k b i j).cvus = s.cvus := rfl
@[simp] theorem State.putBit_pwr (f : Fld) (k : Nat) (b : Bool) (i j : Nat) : (s.putBit f k b i j).pwr = s.pwr := rfl
@[simp] theorem State.putBit_dev (f : Fld) (k : Nat) (b : Bool) (i j : Nat) : (s.putBit f k b i j).dev = s.dev := rfl

/-! ### put64 -/

@[simp] theorem State.put64_pending (f g : Fld) (v i j : Nat) : (s.put64 f g v i j).pending = s.pending := rfl
@[simp] theorem State.put64_ts (f g : Fld) (v i j : Nat) : (s.put64 f g v i j).ts = s.ts := rfl
@[simp] theorem State.put64_free (f g : Fld) (v i j : Nat) : (s.put64 f g v i j).free = s.free := rfl
@[simp] theorem State.put64_rate (f g : Fld) (v i j : Nat) : (s.put64 f g v i j).rate = s.rate := rfl
@[simp] theorem State.put64_mem (f g : Fld) (v i j : Nat) : (s.put64 f g v i j).mem = s.mem := rfl
@[simp] theorem State.put64_log (f g : Fld) (v i j : Nat) : (s.put64 f g v i j).log = s.log := rfl
@[simp] theorem State.put64_inflight (f g : Fld) (v i j : Nat) : (s.put64 f g v i j).inflight = s.inflight := rfl
@[simp] theorem State.put64_ports (f g : Fld) (v i j : Nat) : (s.put64 f g v i j).ports = s.ports := rfl
@[simp] theorem State.put64_cvb (f g : Fld) (v i j : Nat) : (s.put64 f g v i j).cvb = s.cvb := rfl
@[simp] theorem State.put64_pos (f g : Fld) (v i j : Nat) : (s.put64 f g v i j).pos = s.pos := rfl
@[simp] theorem State.put64_gen (f g : Fld) (v i j : Nat) : (s.put64 f g v i j).gen = s.gen := rfl
@[simp] theorem State.put64_chans (f g : Fld) (v i j : Nat) : (s.put64 f g v i j).chans = s.chans := rfl
@[simp] theorem State.put64_sps (f g : Fld) (v i j : Nat) : (s.put64 f g v i j).sps = s.sps := rfl
@[simp] theorem State.put64_links (f g : Fld) (v i j : Nat) : (s.put64 f g v i j).links = s.links := rfl
@[simp] theorem State.put64_bdg (f g : Fld) (v i j : Nat) : (s.put64 f g v i j).bdg = s.bdg := rfl
@[simp] theorem State.put64_chuck (f g : Fld) (v i j : Nat) : (s.put64 f g v i j).chuck = s.chuck := rfl
@[simp] theorem State.put64_landing (f g : Fld) (v i j : Nat) : (s.put64 f g v i j).landing = s.landing := rfl
@[simp] theorem State.put64_owl (f g : Fld) (v i j : Nat) : (s.put64 f g v i j).owl = s.owl := rfl
@[simp] theorem State.put64_tls (f g : Fld) (v i j : Nat) : (s.put64 f g v i j).tls = s.tls := rfl
@[simp] theorem State.put64_fpl (f g : Fld) (v i j : Nat) : (s.put64 f g v i j).fpl = s.fpl := rfl
@[simp] theorem State.put64_net (f g : Fld) (v i j : Nat) : (s.put64 f g v i j).net = s.net := rfl
@[simp] theorem State.put64_setts (f g : Fld) (v i j : Nat) : (s.put64 f g v i j).setts = s.setts := rfl
@[simp] theorem State.put64_sett (f g : Fld) (v i j : Nat) : (s.put64 f g v i j).sett = s.sett := rfl
@[simp] theorem State.put64_mtr (f g : Fld) (v i j : Nat) : (s.put64 f g v i j).mtr = s.mtr := rfl
@[simp] theorem State.put64_cvus (f g : Fld) (v i j : Nat) : (s.put64 f g v i j).cvus = s.cvus := rfl
@[simp] theorem State.put64_pwr (f g : Fld) (v i j : Nat) : (s.put64 f g v i j).pwr = s.pwr := rfl
@[simp] theorem State.put64_dev (f g : Fld) (v i j : Nat) : (s.put64 f g v i j).dev = s.dev := rfl

/-! ### irq -/

@[simp] theorem State.irq_pending (k : Nat) : (s.irq k).pending = s.pending := rfl
@[simp] theorem State.irq_ts (k : Nat) : (s.irq k).ts = s.ts := rfl
@[simp] theorem State.irq_free (k : Nat) : (s.irq k).free = s.free := rfl
@[simp] theorem State.irq_rate (k : Nat) : (s.irq k).rate = s.rate := rfl
@[simp] theorem State.irq_mem (k : Nat) : (s.irq k).mem = s.mem := rfl
@[simp] theorem State.irq_log (k : Nat) : (s.irq k).log = s.log := rfl
@[simp] theorem State.irq_inflight (k : Nat) : (s.irq k).inflight = s.inflight := rfl
@[simp] theorem State.irq_ports (k : Nat) : (s.irq k).ports = s.ports := rfl
@[simp] theorem State.irq_cvb (k : Nat) : (s.irq k).cvb = s.cvb := rfl
@[simp] theorem State.irq_pos (k : Nat) : (s.irq k).pos = s.pos := rfl
@[simp] theorem State.irq_gen (k : Nat) : (s.irq k).gen = s.gen := rfl
@[simp] theorem State.irq_chans (k : Nat) : (s.irq k).chans = s.chans := rfl
@[simp] theorem State.irq_sps (k : Nat) : (s.irq k).sps = s.sps := rfl
@[simp] theorem State.irq_links (k : Nat) : (s.irq k).links = s.links := rfl
@[simp] theorem State.irq_bdg (k : Nat) : (s.irq k).bdg = s.bdg := rfl
@[simp] theorem State.irq_chuck (k : Nat) : (s.irq k).chuck = s.chuck := rfl
@[simp] theorem State.irq_landing (k : Nat) : (s.irq k).landing = s.landing := rfl
@[simp] theorem State.irq_owl (k : Nat) : (s.irq k).owl = s.owl := rfl
@[simp] theorem State.irq_tls (k : Nat) : (s.irq k).tls = s.tls := rfl
@[simp] theorem State.irq_fpl (k : Nat) : (s.irq k).fpl = s.fpl := rfl
@[simp] theorem State.irq_net (k : Nat) : (s.irq k).net = s.net := rfl
@[simp] theorem State.irq_setts (k : Nat) : (s.irq k).setts = s.setts := rfl
@[simp] theorem State.irq_sett (k : Nat) : (s.irq k).sett = s.sett := rfl
@[simp] theorem State.irq_mtr (k : Nat) : (s.irq k).mtr = s.mtr := rfl
@[simp] theorem State.irq_cvus (k : Nat) : (s.irq k).cvus = s.cvus := rfl
@[simp] theorem State.irq_pwr (k : Nat) : (s.irq k).pwr = s.pwr := rfl
@[simp] theorem State.irq_dev (k : Nat) : (s.irq k).dev = s.dev := rfl

/-! ### raise -/

@[simp] theorem State.raise_pending (k v : Nat) : (s.raise k v).pending = s.pending := rfl
@[simp] theorem State.raise_ts (k v : Nat) : (s.raise k v).ts = s.ts := rfl
@[simp] theorem State.raise_free (k v : Nat) : (s.raise k v).free = s.free := rfl
@[simp] theorem State.raise_rate (k v : Nat) : (s.raise k v).rate = s.rate := rfl
@[simp] theorem State.raise_mem (k v : Nat) : (s.raise k v).mem = s.mem := rfl
@[simp] theorem State.raise_log (k v : Nat) : (s.raise k v).log = s.log := rfl
@[simp] theorem State.raise_inflight (k v : Nat) : (s.raise k v).inflight = s.inflight ++ [(k, v)] := rfl
@[simp] theorem State.raise_ports (k v : Nat) : (s.raise k v).ports = s.ports := rfl
@[simp] theorem State.raise_cvb (k v : Nat) : (s.raise k v).cvb = s.cvb := rfl
@[simp] theorem State.raise_pos (k v : Nat) : (s.raise k v).pos = s.pos := rfl
@[simp] theorem State.raise_gen (k v : Nat) : (s.raise k v).gen = s.gen := rfl
@[simp] theorem State.raise_chans (k v : Nat) : (s.raise k v).chans = s.chans := rfl
@[simp] theorem State.raise_sps (k v : Nat) : (s.raise k v).sps = s.sps := rfl
@[simp] theorem State.raise_links (k v : Nat) : (s.raise k v).links = s.links := rfl
@[simp] theorem State.raise_bdg (k v : Nat) : (s.raise k v).bdg = s.bdg := rfl
@[simp] theorem State.raise_chuck (k v : Nat) : (s.raise k v).chuck = s.chuck := rfl
@[simp] theorem State.raise_landing (k v : Nat) : (s.raise k v).landing = s.landing := rfl
@[simp] theorem State.raise_owl (k v : Nat) : (s.raise k v).owl = s.owl := rfl
@[simp] theorem State.raise_tls (k v : Nat) : (s.raise k v).tls = s.tls := rfl
@[simp] theorem State.raise_fpl (k v : Nat) : (s.raise k v).fpl = s.fpl := rfl
@[simp] theorem State.raise_net (k v : Nat) : (s.raise k v).net = s.net := rfl
@[simp] theorem State.raise_setts (k v : Nat) : (s.raise k v).setts = s.setts := rfl
@[simp] theorem State.raise_sett (k v : Nat) : (s.raise k v).sett = s.sett := rfl
@[simp] theorem State.raise_mtr (k v : Nat) : (s.raise k v).mtr = s.mtr := rfl
@[simp] theorem State.raise_cvus (k v : Nat) : (s.raise k v).cvus = s.cvus := rfl
@[simp] theorem State.raise_pwr (k v : Nat) : (s.raise k v).pwr = s.pwr := rfl
@[simp] theorem State.raise_dev (k v : Nat) : (s.raise k v).dev = s.dev := rfl
@[simp] theorem State.raise_regs (k v : Nat) : (s.raise k v).regs = s.regs := rfl
@[simp] theorem State.raise_get (k v : Nat) (h : Fld) (x y : Nat) : (s.raise k v).get h x y = s.get h x y := rfl
@[simp] theorem State.raise_wf (k v : Nat) : (s.raise k v).wf = s.wf := rfl

/-! ### freeNext -/

@[simp] theorem State.freeNext_pending : (s.freeNext).pending = s.pending := rfl
@[simp] theorem State.freeNext_ts : (s.freeNext).ts = s.ts := rfl
@[simp] theorem State.freeNext_free : (s.freeNext).free = s.free + 1 := rfl
@[simp] theorem State.freeNext_rate : (s.freeNext).rate = s.rate := rfl
@[simp] theorem State.freeNext_mem : (s.freeNext).mem = s.mem := rfl
@[simp] theorem State.freeNext_log : (s.freeNext).log = s.log := rfl
@[simp] theorem State.freeNext_inflight : (s.freeNext).inflight = s.inflight := rfl
@[simp] theorem State.freeNext_ports : (s.freeNext).ports = s.ports := rfl
@[simp] theorem State.freeNext_cvb : (s.freeNext).cvb = s.cvb := rfl
@[simp] theorem State.freeNext_pos : (s.freeNext).pos = s.pos := rfl
@[simp] theorem State.freeNext_gen : (s.freeNext).gen = s.gen := rfl
@[simp] theorem State.freeNext_chans : (s.freeNext).chans = s.chans := rfl
@[simp] theorem State.freeNext_sps : (s.freeNext).sps = s.sps := rfl
@[simp] theorem State.freeNext_links : (s.freeNext).links = s.links := rfl
@[simp] theorem State.freeNext_bdg : (s.freeNext).bdg = s.bdg := rfl
@[simp] theorem State.freeNext_chuck : (s.freeNext).chuck = s.chuck := rfl
@[simp] theorem State.freeNext_landing : (s.freeNext).landing = s.landing := rfl
@[simp] theorem State.freeNext_owl : (s.freeNext).owl = s.owl := rfl
@[simp] theorem State.freeNext_tls : (s.freeNext).tls = s.tls := rfl
@[simp] theorem State.freeNext_fpl : (s.freeNext).fpl = s.fpl := rfl
@[simp] theorem State.freeNext_net : (s.freeNext).net = s.net := rfl
@[simp] theorem State.freeNext_setts : (s.freeNext).setts = s.setts := rfl
@[simp] theorem State.freeNext_sett : (s.freeNext).sett = s.sett := rfl
@[simp] theorem State.freeNext_mtr : (s.freeNext).mtr = s.mtr := rfl
@[simp] theorem State.freeNext_cvus : (s.freeNext).cvus = s.cvus := rfl
@[simp] theorem State.freeNext_pwr : (s.freeNext).pwr = s.pwr := rfl
@[simp] theorem State.freeNext_dev : (s.freeNext).dev = s.dev := rfl
@[simp] theorem State.freeNext_regs : (s.freeNext).regs = s.regs := rfl
@[simp] theorem State.freeNext_get (h : Fld) (x y : Nat) : (s.freeNext).get h x y = s.get h x y := rfl
@[simp] theorem State.freeNext_wf : (s.freeNext).wf = s.wf := rfl

/-! ### modBdg -/

@[simp] theorem State.modBdg_pending (f : BdgSt → BdgSt) : (s.modBdg f).pending = s.pending := rfl
@[simp] theorem State.modBdg_ts (f : BdgSt → BdgSt) : (s.modBdg f).ts = s.ts := rfl
@[simp] theorem State.modBdg_free (f : BdgSt → BdgSt) : (s.modBdg f).free = s.free := rfl
@[simp] theorem State.modBdg_rate (f : BdgSt → BdgSt) : (s.modBdg f).rate = s.rate := rfl
@[simp] theorem State.modBdg_mem (f : BdgSt → BdgSt) : (s.modBdg f).mem = s.mem := rfl
@[simp] theorem State.modBdg_log (f : BdgSt → BdgSt) : (s.modBdg f).log = s.log := rfl
@[simp] theorem State.modBdg_inflight (f : BdgSt → BdgSt) : (s.modBdg f).inflight = s.inflight := rfl
@[simp] theorem State.modBdg_ports (f : BdgSt → BdgSt) : (s.modBdg f).ports = s.ports := rfl
@[simp] theorem State.modBdg_cvb (f : BdgSt → BdgSt) : (s.modBdg f).cvb = s.cvb := rfl
@[simp] theorem State.modBdg_pos (f : BdgSt → BdgSt) : (s.modBdg f).pos = s.pos := rfl
@[simp] theorem State.modBdg_gen (f : BdgSt → BdgSt) : (s.modBdg f).gen = s.gen := rfl
@[simp] theorem State.modBdg_chans (f : BdgSt → BdgSt) : (s.modBdg f).chans = s.chans := rfl
@[simp] theorem State.modBdg_sps (f : BdgSt → BdgSt) : (s.modBdg f).sps = s.sps := rfl
@[simp] theorem State.modBdg_links (f : BdgSt → BdgSt) : (s.modBdg f).links = s.links := rfl
@[simp] theorem State.modBdg_bdg (f : BdgSt → BdgSt) : (s.modBdg f).bdg = f s.bdg := rfl
@[simp] theorem State.modBdg_chuck (f : BdgSt → BdgSt) : (s.modBdg f).chuck = s.chuck := rfl
@[simp] theorem State.modBdg_landing (f : BdgSt → BdgSt) : (s.modBdg f).landing = s.landing := rfl
@[simp] theorem State.modBdg_owl (f : BdgSt → BdgSt) : (s.modBdg f).owl = s.owl := rfl
@[simp] theorem State.modBdg_tls (f : BdgSt → BdgSt) : (s.modBdg f).tls = s.tls := rfl
@[simp] theorem State.modBdg_fpl (f : BdgSt → BdgSt) : (s.modBdg f).fpl = s.fpl := rfl
@[simp] theorem State.modBdg_net (f : BdgSt → BdgSt) : (s.modBdg f).net = s.net := rfl
@[simp] theorem State.modBdg_setts (f : BdgSt → BdgSt) : (s.modBdg f).setts = s.setts := rfl
@[simp] theorem State.modBdg_sett (f : BdgSt → BdgSt) : (s.modBdg f).sett = s.sett := rfl
@[simp] theorem State.modBdg_mtr (f : BdgSt → BdgSt) : (s.modBdg f).mtr = s.mtr := rfl
@[simp] theorem State.modBdg_cvus (f : BdgSt → BdgSt) : (s.modBdg f).cvus = s.cvus := rfl
@[simp] theorem State.modBdg_pwr (f : BdgSt → BdgSt) : (s.modBdg f).pwr = s.pwr := rfl
@[simp] theorem State.modBdg_dev (f : BdgSt → BdgSt) : (s.modBdg f).dev = s.dev := rfl
@[simp] theorem State.modBdg_regs (f : BdgSt → BdgSt) : (s.modBdg f).regs = s.regs := rfl
@[simp] theorem State.modBdg_get (f : BdgSt → BdgSt) (h : Fld) (x y : Nat) : (s.modBdg f).get h x y = s.get h x y := rfl
@[simp] theorem State.modBdg_wf (f : BdgSt → BdgSt) : (s.modBdg f).wf = s.wf := rfl

/-! ### modTls -/

@[simp] theorem State.modTls_pending (f : TlsSt → TlsSt) : (s.modTls f).pending = s.pending := rfl
@[simp] theorem State.modTls_ts (f : TlsSt → TlsSt) : (s.modTls f).ts = s.ts := rfl
@[simp] theorem State.modTls_free (f : TlsSt → TlsSt) : (s.modTls f).free = s.free := rfl
@[simp] theorem State.modTls_rate (f : TlsSt → TlsSt) : (s.modTls f).rate = s.rate := rfl
@[simp] theorem State.modTls_mem (f : TlsSt → TlsSt) : (s.modTls f).mem = s.mem := rfl
@[simp] theorem State.modTls_log (f : TlsSt → TlsSt) : (s.modTls f).log = s.log := rfl
@[simp] theorem State.modTls_inflight (f : TlsSt → TlsSt) : (s.modTls f).inflight = s.inflight := rfl
@[simp] theorem State.modTls_ports (f : TlsSt → TlsSt) : (s.modTls f).ports = s.ports := rfl
@[simp] theorem State.modTls_cvb (f : TlsSt → TlsSt) : (s.modTls f).cvb = s.cvb := rfl
@[simp] theorem State.modTls_pos (f : TlsSt → TlsSt) : (s.modTls f).pos = s.pos := rfl
@[simp] theorem State.modTls_gen (f : TlsSt → TlsSt) : (s.modTls f).gen = s.gen := rfl
@[simp] theorem State.modTls_chans (f : TlsSt → TlsSt) : (s.modTls f).chans = s.chans := rfl
@[simp] theorem State.modTls_sps (f : TlsSt → TlsSt) : (s.modTls f).sps = s.sps := rfl
@[simp] theorem State.modTls_links (f : TlsSt → TlsSt) : (s.modTls f).links = s.links := rfl
@[simp] theorem State.modTls_bdg (f : TlsSt → TlsSt) : (s.modTls f).bdg = s.bdg := rfl
@[simp] theorem State.modTls_chuck (f : TlsSt → TlsSt) : (s.modTls f).chuck = s.chuck := rfl
@[simp] theorem State.modTls_landing (f : TlsSt → TlsSt) : (s.modTls f).landing = s.landing := rfl
@[simp] theorem State.modTls_owl (f : TlsSt → TlsSt) : (s.modTls f).owl = s.owl := rfl
@[simp] theorem State.modTls_tls (f : TlsSt → TlsSt) : (s.modTls f).tls = f s.tls := rfl
@[simp] theorem State.modTls_fpl (f : TlsSt → TlsSt) : (s.modTls f).fpl = s.fpl := rfl
@[simp] theorem State.modTls_net (f : TlsSt → TlsSt) : (s.modTls f).net = s.net := rfl
@[simp] theorem State.modTls_setts (f : TlsSt → TlsSt) : (s.modTls f).setts = s.setts := rfl
@[simp] theorem State.modTls_sett (f : TlsSt → TlsSt) : (s.modTls f).sett = s.sett := rfl
@[simp] theorem State.modTls_mtr (f : TlsSt → TlsSt) : (s.modTls f).mtr = s.mtr := rfl
@[simp] theorem State.modTls_cvus (f : TlsSt → TlsSt) : (s.modTls f).cvus = s.cvus := rfl
@[simp] theorem State.modTls_pwr (f : TlsSt → TlsSt) : (s.modTls f).pwr = s.pwr := rfl
@[simp] theorem State.modTls_dev (f : TlsSt → TlsSt) : (s.modTls f).dev = s.dev := rfl
@[simp] theorem State.modTls_regs (f : TlsSt → TlsSt) : (s.modTls f).regs = s.regs := rfl
@[simp] theorem State.modTls_get (f : TlsSt → TlsSt) (h : Fld) (x y : Nat) : (s.modTls f).get h x y = s.get h x y := rfl
@[simp] theorem State.modTls_wf (f : TlsSt → TlsSt) : (s.modTls f).wf = s.wf := rfl

/-! ### modPwr -/

@[simp] theorem State.modPwr_pending (f : PwrSt → PwrSt) : (s.modPwr f).pending = s.pending := rfl
@[simp] theorem State.modPwr_ts (f : PwrSt → PwrSt) : (s.modPwr f).ts = s.ts := rfl
@[simp] theorem State.modPwr_free (f : PwrSt → PwrSt) : (s.modPwr f).free = s.free := rfl
@[simp] theorem State.modPwr_rate (f : PwrSt → PwrSt) : (s.modPwr f).rate = s.rate := rfl
@[simp] theorem State.modPwr_mem (f : PwrSt → PwrSt) : (s.modPwr f).mem = s.mem := rfl
@[simp] theorem State.modPwr_log (f : PwrSt → PwrSt) : (s.modPwr f).log = s.log := rfl
@[simp] theorem State.modPwr_inflight (f : PwrSt → PwrSt) : (s.modPwr f).inflight = s.inflight := rfl
@[simp] theorem State.modPwr_ports (f : PwrSt → PwrSt) : (s.modPwr f).ports = s.ports := rfl
@[simp] theorem State.modPwr_cvb (f : PwrSt → PwrSt) : (s.modPwr f).cvb = s.cvb := rfl
@[simp] theorem State.modPwr_pos (f : PwrSt → PwrSt) : (s.modPwr f).pos = s.pos := rfl
@[simp] theorem State.modPwr_gen (f : PwrSt → PwrSt) : (s.modPwr f).gen = s.gen := rfl
@[simp] theorem State.modPwr_chans (f : PwrSt → PwrSt) : (s.modPwr f).chans = s.chans := rfl
@[simp] theorem State.modPwr_sps (f : PwrSt → PwrSt) : (s.modPwr f).sps = s.sps := rfl
@[simp] theorem State.modPwr_links (f : PwrSt → PwrSt) : (s.modPwr f).links = s.links := rfl
@[simp] theorem State.modPwr_bdg (f : PwrSt → PwrSt) : (s.modPwr f).bdg = s.bdg := rfl
@[simp] theorem State.modPwr_chuck (f : PwrSt → PwrSt) : (s.modPwr f).chuck = s.chuck := rfl
@[simp] theorem State.modPwr_landing (f : PwrSt → PwrSt) : (s.modPwr f).landing = s.landing := rfl
@[simp] theorem State.modPwr_owl (f : PwrSt → PwrSt) : (s.modPwr f).owl = s.owl := rfl
@[simp] theorem State.modPwr_tls (f : PwrSt → PwrSt) : (s.modPwr f).tls = s.tls := rfl
@[simp] theorem State.modPwr_fpl (f : PwrSt → PwrSt) : (s.modPwr f).fpl = s.fpl := rfl
@[simp] theorem State.modPwr_net (f : PwrSt → PwrSt) : (s.modPwr f).net = s.net := rfl
@[simp] theorem State.modPwr_setts (f : PwrSt → PwrSt) : (s.modPwr f).setts = s.setts := rfl
@[simp] theorem State.modPwr_sett (f : PwrSt → PwrSt) : (s.modPwr f).sett = s.sett := rfl
@[simp] theorem State.modPwr_mtr (f : PwrSt → PwrSt) : (s.modPwr f).mtr = s.mtr := rfl
@[simp] theorem State.modPwr_cvus (f : PwrSt → PwrSt) : (s.modPwr f).cvus = s.cvus := rfl
@[simp] theorem State.modPwr_pwr (f : PwrSt → PwrSt) : (s.modPwr f).pwr = f s.pwr := rfl
@[simp] theorem State.modPwr_dev (f : PwrSt → PwrSt) : (s.modPwr f).dev = s.dev := rfl
@[simp] theorem State.modPwr_regs (f : PwrSt → PwrSt) : (s.modPwr f).regs = s.regs := rfl
@[simp] theorem State.modPwr_get (f : PwrSt → PwrSt) (h : Fld) (x y : Nat) : (s.modPwr f).get h x y = s.get h x y := rfl
@[simp] theorem State.modPwr_wf (f : PwrSt → PwrSt) : (s.modPwr f).wf = s.wf := rfl

/-! ### modLink -/

@[simp] theorem State.modLink_pending (l : Lnk) (f : Link → Link) : (s.modLink l f).pending = s.pending := rfl
@[simp] theorem State.modLink_ts (l : Lnk) (f : Link → Link) : (s.modLink l f).ts = s.ts := rfl
@[simp] theorem State.modLink_free (l : Lnk) (f : Link → Link) : (s.modLink l f).free = s.free := rfl
@[simp] theorem State.modLink_rate (l : Lnk) (f : Link → Link) : (s.modLink l f).rate = s.rate := rfl
@[simp] theorem State.modLink_mem (l : Lnk) (f : Link → Link) : (s.modLink l f).mem = s.mem := rfl
@[simp] theorem State.modLink_log (l : Lnk) (f : Link → Link) : (s.modLink l f).log = s.log := rfl
@[simp] theorem State.modLink_inflight (l : Lnk) (f : Link → Link) : (s.modLink l f).inflight = s.inflight := rfl
@[simp] theorem State.modLink_ports (l : Lnk) (f : Link → Link) : (s.modLink l f).ports = s.ports := rfl
@[simp] theorem State.modLink_cvb (l : Lnk) (f : Link → Link) : (s.modLink l f).cvb = s.cvb := rfl
@[simp] theorem State.modLink_pos (l : Lnk) (f : Link → Link) : (s.modLink l f).pos = s.pos := rfl
@[simp] theorem State.modLink_gen (l : Lnk) (f : Link → Link) : (s.modLink l f).gen = s.gen := rfl
@[simp] theorem State.modLink_chans (l : Lnk) (f : Link → Link) : (s.modLink l f).chans = s.chans := rfl
@[simp] theorem State.modLink_sps (l : Lnk) (f : Link → Link) : (s.modLink l f).sps = s.sps := rfl
@[simp] theorem State.modLink_links (l : Lnk) (f : Link → Link) : (s.modLink l f).links = vupd s.links l f := rfl
@[simp] theorem State.modLink_bdg (l : Lnk) (f : Link → Link) : (s.modLink l f).bdg = s.bdg := rfl
@[simp] theorem State.modLink_chuck (l : Lnk) (f : Link → Link) : (s.modLink l f).chuck = s.chuck := rfl
@[simp] theorem State.modLink_landing (l : Lnk) (f : Link → Link) : (s.modLink l f).landing = s.landing := rfl
@[simp] theorem State.modLink_owl (l : Lnk) (f : Link → Link) : (s.modLink l f).owl = s.owl := rfl
@[simp] theorem State.modLink_tls (l : Lnk) (f : Link → Link) : (s.modLink l f).tls = s.tls := rfl
@[simp] theorem State.modLink_fpl (l : Lnk) (f : Link → Link) : (s.modLink l f).fpl = s.fpl := rfl
@[simp] theorem State.modLink_net (l : Lnk) (f : Link → Link) : (s.modLink l f).net = s.net := rfl
@[simp] theorem State.modLink_setts (l : Lnk) (f : Link → Link) : (s.modLink l f).setts = s.setts := rfl
@[simp] theorem State.modLink_sett (l : Lnk) (f : Link → Link) : (s.modLink l f).sett = s.sett := rfl
@[simp] theorem State.modLink_mtr (l : Lnk) (f : Link → Link) : (s.modLink l f).mtr = s.mtr := rfl
@[simp] theorem State.modLink_cvus (l : Lnk) (f : Link → Link) : (s.modLink l f).cvus = s.cvus := rfl
@[simp] theorem State.modLink_pwr (l : Lnk) (f : Link → Link) : (s.modLink l f).pwr = s.pwr := rfl
@[simp] theorem State.modLink_dev (l : Lnk) (f : Link → Link) : (s.modLink l f).dev = s.dev := rfl
@[simp] theorem State.modLink_regs (l : Lnk) (f : Link → Link) : (s.modLink l f).regs = s.regs := rfl
@[simp] theorem State.modLink_get (l : Lnk) (f : Link → Link) (h : Fld) (x y : Nat) : (s.modLink l f).get h x y = s.get h x y := rfl
@[simp] theorem State.modLink_wf (l : Lnk) (f : Link → Link) : (s.modLink l f).wf = s.wf := rfl

/-! ### modSp -/

@[simp] theorem State.modSp_pending (n : Ch) (f : SpSt → SpSt) : (s.modSp n f).pending = s.pending := rfl
@[simp] theorem State.modSp_ts (n : Ch) (f : SpSt → SpSt) : (s.modSp n f).ts = s.ts := rfl
@[simp] theorem State.modSp_free (n : Ch) (f : SpSt → SpSt) : (s.modSp n f).free = s.free := rfl
@[simp] theorem State.modSp_rate (n : Ch) (f : SpSt → SpSt) : (s.modSp n f).rate = s.rate := rfl
@[simp] theorem State.modSp_mem (n : Ch) (f : SpSt → SpSt) : (s.modSp n f).mem = s.mem := rfl
@[simp] theorem State.modSp_log (n : Ch) (f : SpSt → SpSt) : (s.modSp n f).log = s.log := rfl
@[simp] theorem State.modSp_inflight (n : Ch) (f : SpSt → SpSt) : (s.modSp n f).inflight = s.inflight := rfl
@[simp] theorem State.modSp_ports (n : Ch) (f : SpSt → SpSt) : (s.modSp n f).ports = s.ports := rfl
@[simp] theorem State.modSp_cvb (n : Ch) (f : SpSt → SpSt) : (s.modSp n f).cvb = s.cvb := rfl
@[simp] theorem State.modSp_pos (n : Ch) (f : SpSt → SpSt) : (s.modSp n f).pos = s.pos := rfl
@[simp] theorem State.modSp_gen (n : Ch) (f : SpSt → SpSt) : (s.modSp n f).gen = s.gen := rfl
@[simp] theorem State.modSp_chans (n : Ch) (f : SpSt → SpSt) : (s.modSp n f).chans = s.chans := rfl
@[simp] theorem State.modSp_sps (n : Ch) (f : SpSt → SpSt) : (s.modSp n f).sps = vupd s.sps n f := rfl
@[simp] theorem State.modSp_links (n : Ch) (f : SpSt → SpSt) : (s.modSp n f).links = s.links := rfl
@[simp] theorem State.modSp_bdg (n : Ch) (f : SpSt → SpSt) : (s.modSp n f).bdg = s.bdg := rfl
@[simp] theorem State.modSp_chuck (n : Ch) (f : SpSt → SpSt) : (s.modSp n f).chuck = s.chuck := rfl
@[simp] theorem State.modSp_landing (n : Ch) (f : SpSt → SpSt) : (s.modSp n f).landing = s.landing := rfl
@[simp] theorem State.modSp_owl (n : Ch) (f : SpSt → SpSt) : (s.modSp n f).owl = s.owl := rfl
@[simp] theorem State.modSp_tls (n : Ch) (f : SpSt → SpSt) : (s.modSp n f).tls = s.tls := rfl
@[simp] theorem State.modSp_fpl (n : Ch) (f : SpSt → SpSt) : (s.modSp n f).fpl = s.fpl := rfl
@[simp] theorem State.modSp_net (n : Ch) (f : SpSt → SpSt) : (s.modSp n f).net = s.net := rfl
@[simp] theorem State.modSp_setts (n : Ch) (f : SpSt → SpSt) : (s.modSp n f).setts = s.setts := rfl
@[simp] theorem State.modSp_sett (n : Ch) (f : SpSt → SpSt) : (s.modSp n f).sett = s.sett := rfl
@[simp] theorem State.modSp_mtr (n : Ch) (f : SpSt → SpSt) : (s.modSp n f).mtr = s.mtr := rfl
@[simp] theorem State.modSp_cvus (n : Ch) (f : SpSt → SpSt) : (s.modSp n f).cvus = s.cvus := rfl
@[simp] theorem State.modSp_pwr (n : Ch) (f : SpSt → SpSt) : (s.modSp n f).pwr = s.pwr := rfl
@[simp] theorem State.modSp_dev (n : Ch) (f : SpSt → SpSt) : (s.modSp n f).dev = s.dev := rfl
@[simp] theorem State.modSp_regs (n : Ch) (f : SpSt → SpSt) : (s.modSp n f).regs = s.regs := rfl
@[simp] theorem State.modSp_get (n : Ch) (f : SpSt → SpSt) (h : Fld) (x y : Nat) : (s.modSp n f).get h x y = s.get h x y := rfl
@[simp] theorem State.modSp_wf (n : Ch) (f : SpSt → SpSt) : (s.modSp n f).wf = s.wf := rfl

/-! ### modChan -/

@[simp] theorem State.modChan_pending (n : Ch) (f : Chan → Chan) : (s.modChan n f).pending = s.pending := rfl
@[simp] theorem State.modChan_ts (n : Ch) (f : Chan → Chan) : (s.modChan n f).ts = s.ts := rfl
@[simp] theorem State.modChan_free (n : Ch) (f : Chan → Chan) : (s.modChan n f).free = s.free := rfl
@[simp] theorem State.modChan_rate (n : Ch) (f : Chan → Chan) : (s.modChan n f).rate = s.rate := rfl
@[simp] theorem State.modChan_mem (n : Ch) (f : Chan → Chan) : (s.modChan n f).mem = s.mem := rfl
@[simp] theorem State.modChan_log (n : Ch) (f : Chan → Chan) : (s.modChan n f).log = s.log := rfl
@[simp] theorem State.modChan_inflight (n : Ch) (f : Chan → Chan) : (s.modChan n f).inflight = s.inflight := rfl
@[simp] theorem State.modChan_ports (n : Ch) (f : Chan → Chan) : (s.modChan n f).ports = s.ports := rfl
@[simp] theorem State.modChan_cvb (n : Ch) (f : Chan → Chan) : (s.modChan n f).cvb = s.cvb := rfl
@[simp] theorem State.modChan_pos (n : Ch) (f : Chan → Chan) : (s.modChan n f).pos = s.pos := rfl
@[simp] theorem State.modChan_gen (n : Ch) (f : Chan → Chan) : (s.modChan n f).gen = s.gen := rfl
@[simp] theorem State.modChan_chans (n : Ch) (f : Chan → Chan) : (s.modChan n f).chans = vupd s.chans n f := rfl
@[simp] theorem State.modChan_sps (n : Ch) (f : Chan → Chan) : (s.modChan n f).sps = s.sps := rfl
@[simp] theorem State.modChan_links (n : Ch) (f : Chan → Chan) : (s.modChan n f).links = s.links := rfl
@[simp] theorem State.modChan_bdg (n : Ch) (f : Chan → Chan) : (s.modChan n f).bdg = s.bdg := rfl
@[simp] theorem State.modChan_chuck (n : Ch) (f : Chan → Chan) : (s.modChan n f).chuck = s.chuck := rfl
@[simp] theorem State.modChan_landing (n : Ch) (f : Chan → Chan) : (s.modChan n f).landing = s.landing := rfl
@[simp] theorem State.modChan_owl (n : Ch) (f : Chan → Chan) : (s.modChan n f).owl = s.owl := rfl
@[simp] theorem State.modChan_tls (n : Ch) (f : Chan → Chan) : (s.modChan n f).tls = s.tls := rfl
@[simp] theorem State.modChan_fpl (n : Ch) (f : Chan → Chan) : (s.modChan n f).fpl = s.fpl := rfl
@[simp] theorem State.modChan_net (n : Ch) (f : Chan → Chan) : (s.modChan n f).net = s.net := rfl
@[simp] theorem State.modChan_setts (n : Ch) (f : Chan → Chan) : (s.modChan n f).setts = s.setts := rfl
@[simp] theorem State.modChan_sett (n : Ch) (f : Chan → Chan) : (s.modChan n f).sett = s.sett := rfl
@[simp] theorem State.modChan_mtr (n : Ch) (f : Chan → Chan) : (s.modChan n f).mtr = s.mtr := rfl
@[simp] theorem State.modChan_cvus (n : Ch) (f : Chan → Chan) : (s.modChan n f).cvus = s.cvus := rfl
@[simp] theorem State.modChan_pwr (n : Ch) (f : Chan → Chan) : (s.modChan n f).pwr = s.pwr := rfl
@[simp] theorem State.modChan_dev (n : Ch) (f : Chan → Chan) : (s.modChan n f).dev = s.dev := rfl
@[simp] theorem State.modChan_regs (n : Ch) (f : Chan → Chan) : (s.modChan n f).regs = s.regs := rfl
@[simp] theorem State.modChan_get (n : Ch) (f : Chan → Chan) (h : Fld) (x y : Nat) : (s.modChan n f).get h x y = s.get h x y := rfl
@[simp] theorem State.modChan_wf (n : Ch) (f : Chan → Chan) : (s.modChan n f).wf = s.wf := rfl

/-! ### modPort -/

@[simp] theorem State.modPort_pending (i : Init) (f : BusPort → BusPort) : (s.modPort i f).pending = s.pending := rfl
@[simp] theorem State.modPort_ts (i : Init) (f : BusPort → BusPort) : (s.modPort i f).ts = s.ts := rfl
@[simp] theorem State.modPort_free (i : Init) (f : BusPort → BusPort) : (s.modPort i f).free = s.free := rfl
@[simp] theorem State.modPort_rate (i : Init) (f : BusPort → BusPort) : (s.modPort i f).rate = s.rate := rfl
@[simp] theorem State.modPort_mem (i : Init) (f : BusPort → BusPort) : (s.modPort i f).mem = s.mem := rfl
@[simp] theorem State.modPort_log (i : Init) (f : BusPort → BusPort) : (s.modPort i f).log = s.log := rfl
@[simp] theorem State.modPort_inflight (i : Init) (f : BusPort → BusPort) : (s.modPort i f).inflight = s.inflight := rfl
@[simp] theorem State.modPort_ports (i : Init) (f : BusPort → BusPort) : (s.modPort i f).ports = vupd s.ports (portIdx i) f := rfl
@[simp] theorem State.modPort_cvb (i : Init) (f : BusPort → BusPort) : (s.modPort i f).cvb = s.cvb := rfl
@[simp] theorem State.modPort_pos (i : Init) (f : BusPort → BusPort) : (s.modPort i f).pos = s.pos := rfl
@[simp] theorem State.modPort_gen (i : Init) (f : BusPort → BusPort) : (s.modPort i f).gen = s.gen := rfl
@[simp] theorem State.modPort_chans (i : Init) (f : BusPort → BusPort) : (s.modPort i f).chans = s.chans := rfl
@[simp] theorem State.modPort_sps (i : Init) (f : BusPort → BusPort) : (s.modPort i f).sps = s.sps := rfl
@[simp] theorem State.modPort_links (i : Init) (f : BusPort → BusPort) : (s.modPort i f).links = s.links := rfl
@[simp] theorem State.modPort_bdg (i : Init) (f : BusPort → BusPort) : (s.modPort i f).bdg = s.bdg := rfl
@[simp] theorem State.modPort_chuck (i : Init) (f : BusPort → BusPort) : (s.modPort i f).chuck = s.chuck := rfl
@[simp] theorem State.modPort_landing (i : Init) (f : BusPort → BusPort) : (s.modPort i f).landing = s.landing := rfl
@[simp] theorem State.modPort_owl (i : Init) (f : BusPort → BusPort) : (s.modPort i f).owl = s.owl := rfl
@[simp] theorem State.modPort_tls (i : Init) (f : BusPort → BusPort) : (s.modPort i f).tls = s.tls := rfl
@[simp] theorem State.modPort_fpl (i : Init) (f : BusPort → BusPort) : (s.modPort i f).fpl = s.fpl := rfl
@[simp] theorem State.modPort_net (i : Init) (f : BusPort → BusPort) : (s.modPort i f).net = s.net := rfl
@[simp] theorem State.modPort_setts (i : Init) (f : BusPort → BusPort) : (s.modPort i f).setts = s.setts := rfl
@[simp] theorem State.modPort_sett (i : Init) (f : BusPort → BusPort) : (s.modPort i f).sett = s.sett := rfl
@[simp] theorem State.modPort_mtr (i : Init) (f : BusPort → BusPort) : (s.modPort i f).mtr = s.mtr := rfl
@[simp] theorem State.modPort_cvus (i : Init) (f : BusPort → BusPort) : (s.modPort i f).cvus = s.cvus := rfl
@[simp] theorem State.modPort_pwr (i : Init) (f : BusPort → BusPort) : (s.modPort i f).pwr = s.pwr := rfl
@[simp] theorem State.modPort_dev (i : Init) (f : BusPort → BusPort) : (s.modPort i f).dev = s.dev := rfl
@[simp] theorem State.modPort_regs (i : Init) (f : BusPort → BusPort) : (s.modPort i f).regs = s.regs := rfl
@[simp] theorem State.modPort_get (i : Init) (f : BusPort → BusPort) (h : Fld) (x y : Nat) : (s.modPort i f).get h x y = s.get h x y := rfl
@[simp] theorem State.modPort_wf (i : Init) (f : BusPort → BusPort) : (s.modPort i f).wf = s.wf := rfl

/-! ### modSett -/

@[simp] theorem State.modSett_pending (p : Port) (f : SettSt → SettSt) : (s.modSett p f).pending = s.pending := rfl
@[simp] theorem State.modSett_ts (p : Port) (f : SettSt → SettSt) : (s.modSett p f).ts = s.ts := rfl
@[simp] theorem State.modSett_free (p : Port) (f : SettSt → SettSt) : (s.modSett p f).free = s.free := rfl
@[simp] theorem State.modSett_rate (p : Port) (f : SettSt → SettSt) : (s.modSett p f).rate = s.rate := rfl
@[simp] theorem State.modSett_mem (p : Port) (f : SettSt → SettSt) : (s.modSett p f).mem = s.mem := rfl
@[simp] theorem State.modSett_log (p : Port) (f : SettSt → SettSt) : (s.modSett p f).log = s.log := rfl
@[simp] theorem State.modSett_inflight (p : Port) (f : SettSt → SettSt) : (s.modSett p f).inflight = s.inflight := rfl
@[simp] theorem State.modSett_ports (p : Port) (f : SettSt → SettSt) : (s.modSett p f).ports = s.ports := rfl
@[simp] theorem State.modSett_cvb (p : Port) (f : SettSt → SettSt) : (s.modSett p f).cvb = s.cvb := rfl
@[simp] theorem State.modSett_pos (p : Port) (f : SettSt → SettSt) : (s.modSett p f).pos = s.pos := rfl
@[simp] theorem State.modSett_gen (p : Port) (f : SettSt → SettSt) : (s.modSett p f).gen = s.gen := rfl
@[simp] theorem State.modSett_chans (p : Port) (f : SettSt → SettSt) : (s.modSett p f).chans = s.chans := rfl
@[simp] theorem State.modSett_sps (p : Port) (f : SettSt → SettSt) : (s.modSett p f).sps = s.sps := rfl
@[simp] theorem State.modSett_links (p : Port) (f : SettSt → SettSt) : (s.modSett p f).links = s.links := rfl
@[simp] theorem State.modSett_bdg (p : Port) (f : SettSt → SettSt) : (s.modSett p f).bdg = s.bdg := rfl
@[simp] theorem State.modSett_chuck (p : Port) (f : SettSt → SettSt) : (s.modSett p f).chuck = s.chuck := rfl
@[simp] theorem State.modSett_landing (p : Port) (f : SettSt → SettSt) : (s.modSett p f).landing = s.landing := rfl
@[simp] theorem State.modSett_owl (p : Port) (f : SettSt → SettSt) : (s.modSett p f).owl = s.owl := rfl
@[simp] theorem State.modSett_tls (p : Port) (f : SettSt → SettSt) : (s.modSett p f).tls = s.tls := rfl
@[simp] theorem State.modSett_fpl (p : Port) (f : SettSt → SettSt) : (s.modSett p f).fpl = s.fpl := rfl
@[simp] theorem State.modSett_net (p : Port) (f : SettSt → SettSt) : (s.modSett p f).net = s.net := rfl
@[simp] theorem State.modSett_setts (p : Port) (f : SettSt → SettSt) : (s.modSett p f).setts = vupd s.setts p f := rfl
@[simp] theorem State.modSett_sett (p : Port) (f : SettSt → SettSt) : (s.modSett p f).sett = s.sett := rfl
@[simp] theorem State.modSett_mtr (p : Port) (f : SettSt → SettSt) : (s.modSett p f).mtr = s.mtr := rfl
@[simp] theorem State.modSett_cvus (p : Port) (f : SettSt → SettSt) : (s.modSett p f).cvus = s.cvus := rfl
@[simp] theorem State.modSett_pwr (p : Port) (f : SettSt → SettSt) : (s.modSett p f).pwr = s.pwr := rfl
@[simp] theorem State.modSett_dev (p : Port) (f : SettSt → SettSt) : (s.modSett p f).dev = s.dev := rfl
@[simp] theorem State.modSett_regs (p : Port) (f : SettSt → SettSt) : (s.modSett p f).regs = s.regs := rfl
@[simp] theorem State.modSett_get (p : Port) (f : SettSt → SettSt) (h : Fld) (x y : Nat) : (s.modSett p f).get h x y = s.get h x y := rfl
@[simp] theorem State.modSett_wf (p : Port) (f : SettSt → SettSt) : (s.modSett p f).wf = s.wf := rfl

/-! ### modConv -/

@[simp] theorem State.modConv_pending (c : Cv) (f : Conv → Conv) : (s.modConv c f).pending = s.pending := rfl
@[simp] theorem State.modConv_ts (c : Cv) (f : Conv → Conv) : (s.modConv c f).ts = s.ts := rfl
@[simp] theorem State.modConv_free (c : Cv) (f : Conv → Conv) : (s.modConv c f).free = s.free := rfl
@[simp] theorem State.modConv_rate (c : Cv) (f : Conv → Conv) : (s.modConv c f).rate = s.rate := rfl
@[simp] theorem State.modConv_mem (c : Cv) (f : Conv → Conv) : (s.modConv c f).mem = s.mem := rfl
@[simp] theorem State.modConv_log (c : Cv) (f : Conv → Conv) : (s.modConv c f).log = s.log := rfl
@[simp] theorem State.modConv_inflight (c : Cv) (f : Conv → Conv) : (s.modConv c f).inflight = s.inflight := rfl
@[simp] theorem State.modConv_ports (c : Cv) (f : Conv → Conv) : (s.modConv c f).ports = s.ports := rfl
@[simp] theorem State.modConv_pos (c : Cv) (f : Conv → Conv) : (s.modConv c f).pos = s.pos := rfl
@[simp] theorem State.modConv_gen (c : Cv) (f : Conv → Conv) : (s.modConv c f).gen = s.gen := rfl
@[simp] theorem State.modConv_chans (c : Cv) (f : Conv → Conv) : (s.modConv c f).chans = s.chans := rfl
@[simp] theorem State.modConv_sps (c : Cv) (f : Conv → Conv) : (s.modConv c f).sps = s.sps := rfl
@[simp] theorem State.modConv_links (c : Cv) (f : Conv → Conv) : (s.modConv c f).links = s.links := rfl
@[simp] theorem State.modConv_bdg (c : Cv) (f : Conv → Conv) : (s.modConv c f).bdg = s.bdg := rfl
@[simp] theorem State.modConv_chuck (c : Cv) (f : Conv → Conv) : (s.modConv c f).chuck = s.chuck := rfl
@[simp] theorem State.modConv_landing (c : Cv) (f : Conv → Conv) : (s.modConv c f).landing = s.landing := rfl
@[simp] theorem State.modConv_owl (c : Cv) (f : Conv → Conv) : (s.modConv c f).owl = s.owl := rfl
@[simp] theorem State.modConv_tls (c : Cv) (f : Conv → Conv) : (s.modConv c f).tls = s.tls := rfl
@[simp] theorem State.modConv_fpl (c : Cv) (f : Conv → Conv) : (s.modConv c f).fpl = s.fpl := rfl
@[simp] theorem State.modConv_net (c : Cv) (f : Conv → Conv) : (s.modConv c f).net = s.net := rfl
@[simp] theorem State.modConv_setts (c : Cv) (f : Conv → Conv) : (s.modConv c f).setts = s.setts := rfl
@[simp] theorem State.modConv_sett (c : Cv) (f : Conv → Conv) : (s.modConv c f).sett = s.sett := rfl
@[simp] theorem State.modConv_mtr (c : Cv) (f : Conv → Conv) : (s.modConv c f).mtr = s.mtr := rfl
@[simp] theorem State.modConv_cvus (c : Cv) (f : Conv → Conv) : (s.modConv c f).cvus = s.cvus := rfl
@[simp] theorem State.modConv_pwr (c : Cv) (f : Conv → Conv) : (s.modConv c f).pwr = s.pwr := rfl
@[simp] theorem State.modConv_dev (c : Cv) (f : Conv → Conv) : (s.modConv c f).dev = s.dev := rfl
@[simp] theorem State.modConv_regs (c : Cv) (f : Conv → Conv) : (s.modConv c f).regs = s.regs := rfl
@[simp] theorem State.modConv_get (c : Cv) (f : Conv → Conv) (h : Fld) (x y : Nat) : (s.modConv c f).get h x y = s.get h x y := rfl
@[simp] theorem State.modConv_wf (c : Cv) (f : Conv → Conv) : (s.modConv c f).wf = s.wf := rfl

/-! ### modSeq -/

@[simp] theorem State.modSeq_pending (q : Sq) (f : Seq → Seq) : (s.modSeq q f).pending = s.pending := rfl
@[simp] theorem State.modSeq_ts (q : Sq) (f : Seq → Seq) : (s.modSeq q f).ts = s.ts := rfl
@[simp] theorem State.modSeq_free (q : Sq) (f : Seq → Seq) : (s.modSeq q f).free = s.free := rfl
@[simp] theorem State.modSeq_rate (q : Sq) (f : Seq → Seq) : (s.modSeq q f).rate = s.rate := rfl
@[simp] theorem State.modSeq_mem (q : Sq) (f : Seq → Seq) : (s.modSeq q f).mem = s.mem := rfl
@[simp] theorem State.modSeq_log (q : Sq) (f : Seq → Seq) : (s.modSeq q f).log = s.log := rfl
@[simp] theorem State.modSeq_inflight (q : Sq) (f : Seq → Seq) : (s.modSeq q f).inflight = s.inflight := rfl
@[simp] theorem State.modSeq_ports (q : Sq) (f : Seq → Seq) : (s.modSeq q f).ports = s.ports := rfl
@[simp] theorem State.modSeq_pos (q : Sq) (f : Seq → Seq) : (s.modSeq q f).pos = s.pos := rfl
@[simp] theorem State.modSeq_gen (q : Sq) (f : Seq → Seq) : (s.modSeq q f).gen = s.gen := rfl
@[simp] theorem State.modSeq_chans (q : Sq) (f : Seq → Seq) : (s.modSeq q f).chans = s.chans := rfl
@[simp] theorem State.modSeq_sps (q : Sq) (f : Seq → Seq) : (s.modSeq q f).sps = s.sps := rfl
@[simp] theorem State.modSeq_links (q : Sq) (f : Seq → Seq) : (s.modSeq q f).links = s.links := rfl
@[simp] theorem State.modSeq_bdg (q : Sq) (f : Seq → Seq) : (s.modSeq q f).bdg = s.bdg := rfl
@[simp] theorem State.modSeq_chuck (q : Sq) (f : Seq → Seq) : (s.modSeq q f).chuck = s.chuck := rfl
@[simp] theorem State.modSeq_landing (q : Sq) (f : Seq → Seq) : (s.modSeq q f).landing = s.landing := rfl
@[simp] theorem State.modSeq_owl (q : Sq) (f : Seq → Seq) : (s.modSeq q f).owl = s.owl := rfl
@[simp] theorem State.modSeq_tls (q : Sq) (f : Seq → Seq) : (s.modSeq q f).tls = s.tls := rfl
@[simp] theorem State.modSeq_fpl (q : Sq) (f : Seq → Seq) : (s.modSeq q f).fpl = s.fpl := rfl
@[simp] theorem State.modSeq_net (q : Sq) (f : Seq → Seq) : (s.modSeq q f).net = s.net := rfl
@[simp] theorem State.modSeq_setts (q : Sq) (f : Seq → Seq) : (s.modSeq q f).setts = s.setts := rfl
@[simp] theorem State.modSeq_sett (q : Sq) (f : Seq → Seq) : (s.modSeq q f).sett = s.sett := rfl
@[simp] theorem State.modSeq_mtr (q : Sq) (f : Seq → Seq) : (s.modSeq q f).mtr = s.mtr := rfl
@[simp] theorem State.modSeq_cvus (q : Sq) (f : Seq → Seq) : (s.modSeq q f).cvus = s.cvus := rfl
@[simp] theorem State.modSeq_pwr (q : Sq) (f : Seq → Seq) : (s.modSeq q f).pwr = s.pwr := rfl
@[simp] theorem State.modSeq_dev (q : Sq) (f : Seq → Seq) : (s.modSeq q f).dev = s.dev := rfl
@[simp] theorem State.modSeq_regs (q : Sq) (f : Seq → Seq) : (s.modSeq q f).regs = s.regs := rfl
@[simp] theorem State.modSeq_get (q : Sq) (f : Seq → Seq) (h : Fld) (x y : Nat) : (s.modSeq q f).get h x y = s.get h x y := rfl
@[simp] theorem State.modSeq_wf (q : Sq) (f : Seq → Seq) : (s.modSeq q f).wf = s.wf := rfl

/-! ### modWin -/

@[simp] theorem State.modWin_pending (q : Sq) (k : Fin 16) (f : Win → Win) : (s.modWin q k f).pending = s.pending := rfl
@[simp] theorem State.modWin_ts (q : Sq) (k : Fin 16) (f : Win → Win) : (s.modWin q k f).ts = s.ts := rfl
@[simp] theorem State.modWin_free (q : Sq) (k : Fin 16) (f : Win → Win) : (s.modWin q k f).free = s.free := rfl
@[simp] theorem State.modWin_rate (q : Sq) (k : Fin 16) (f : Win → Win) : (s.modWin q k f).rate = s.rate := rfl
@[simp] theorem State.modWin_mem (q : Sq) (k : Fin 16) (f : Win → Win) : (s.modWin q k f).mem = s.mem := rfl
@[simp] theorem State.modWin_log (q : Sq) (k : Fin 16) (f : Win → Win) : (s.modWin q k f).log = s.log := rfl
@[simp] theorem State.modWin_inflight (q : Sq) (k : Fin 16) (f : Win → Win) : (s.modWin q k f).inflight = s.inflight := rfl
@[simp] theorem State.modWin_ports (q : Sq) (k : Fin 16) (f : Win → Win) : (s.modWin q k f).ports = s.ports := rfl
@[simp] theorem State.modWin_pos (q : Sq) (k : Fin 16) (f : Win → Win) : (s.modWin q k f).pos = s.pos := rfl
@[simp] theorem State.modWin_gen (q : Sq) (k : Fin 16) (f : Win → Win) : (s.modWin q k f).gen = s.gen := rfl
@[simp] theorem State.modWin_chans (q : Sq) (k : Fin 16) (f : Win → Win) : (s.modWin q k f).chans = s.chans := rfl
@[simp] theorem State.modWin_sps (q : Sq) (k : Fin 16) (f : Win → Win) : (s.modWin q k f).sps = s.sps := rfl
@[simp] theorem State.modWin_links (q : Sq) (k : Fin 16) (f : Win → Win) : (s.modWin q k f).links = s.links := rfl
@[simp] theorem State.modWin_bdg (q : Sq) (k : Fin 16) (f : Win → Win) : (s.modWin q k f).bdg = s.bdg := rfl
@[simp] theorem State.modWin_chuck (q : Sq) (k : Fin 16) (f : Win → Win) : (s.modWin q k f).chuck = s.chuck := rfl
@[simp] theorem State.modWin_landing (q : Sq) (k : Fin 16) (f : Win → Win) : (s.modWin q k f).landing = s.landing := rfl
@[simp] theorem State.modWin_owl (q : Sq) (k : Fin 16) (f : Win → Win) : (s.modWin q k f).owl = s.owl := rfl
@[simp] theorem State.modWin_tls (q : Sq) (k : Fin 16) (f : Win → Win) : (s.modWin q k f).tls = s.tls := rfl
@[simp] theorem State.modWin_fpl (q : Sq) (k : Fin 16) (f : Win → Win) : (s.modWin q k f).fpl = s.fpl := rfl
@[simp] theorem State.modWin_net (q : Sq) (k : Fin 16) (f : Win → Win) : (s.modWin q k f).net = s.net := rfl
@[simp] theorem State.modWin_setts (q : Sq) (k : Fin 16) (f : Win → Win) : (s.modWin q k f).setts = s.setts := rfl
@[simp] theorem State.modWin_sett (q : Sq) (k : Fin 16) (f : Win → Win) : (s.modWin q k f).sett = s.sett := rfl
@[simp] theorem State.modWin_mtr (q : Sq) (k : Fin 16) (f : Win → Win) : (s.modWin q k f).mtr = s.mtr := rfl
@[simp] theorem State.modWin_cvus (q : Sq) (k : Fin 16) (f : Win → Win) : (s.modWin q k f).cvus = s.cvus := rfl
@[simp] theorem State.modWin_pwr (q : Sq) (k : Fin 16) (f : Win → Win) : (s.modWin q k f).pwr = s.pwr := rfl
@[simp] theorem State.modWin_dev (q : Sq) (k : Fin 16) (f : Win → Win) : (s.modWin q k f).dev = s.dev := rfl
@[simp] theorem State.modWin_regs (q : Sq) (k : Fin 16) (f : Win → Win) : (s.modWin q k f).regs = s.regs := rfl
@[simp] theorem State.modWin_get (q : Sq) (k : Fin 16) (f : Win → Win) (h : Fld) (x y : Nat) : (s.modWin q k f).get h x y = s.get h x y := rfl
@[simp] theorem State.modWin_wf (q : Sq) (k : Fin 16) (f : Win → Win) : (s.modWin q k f).wf = s.wf := rfl

/-! ### modCmp -/

@[simp] theorem State.modCmp_pending (i : Ain) (f : Cmp → Cmp) : (s.modCmp i f).pending = s.pending := rfl
@[simp] theorem State.modCmp_ts (i : Ain) (f : Cmp → Cmp) : (s.modCmp i f).ts = s.ts := rfl
@[simp] theorem State.modCmp_free (i : Ain) (f : Cmp → Cmp) : (s.modCmp i f).free = s.free := rfl
@[simp] theorem State.modCmp_rate (i : Ain) (f : Cmp → Cmp) : (s.modCmp i f).rate = s.rate := rfl
@[simp] theorem State.modCmp_mem (i : Ain) (f : Cmp → Cmp) : (s.modCmp i f).mem = s.mem := rfl
@[simp] theorem State.modCmp_log (i : Ain) (f : Cmp → Cmp) : (s.modCmp i f).log = s.log := rfl
@[simp] theorem State.modCmp_inflight (i : Ain) (f : Cmp → Cmp) : (s.modCmp i f).inflight = s.inflight := rfl
@[simp] theorem State.modCmp_ports (i : Ain) (f : Cmp → Cmp) : (s.modCmp i f).ports = s.ports := rfl
@[simp] theorem State.modCmp_pos (i : Ain) (f : Cmp → Cmp) : (s.modCmp i f).pos = s.pos := rfl
@[simp] theorem State.modCmp_gen (i : Ain) (f : Cmp → Cmp) : (s.modCmp i f).gen = s.gen := rfl
@[simp] theorem State.modCmp_chans (i : Ain) (f : Cmp → Cmp) : (s.modCmp i f).chans = s.chans := rfl
@[simp] theorem State.modCmp_sps (i : Ain) (f : Cmp → Cmp) : (s.modCmp i f).sps = s.sps := rfl
@[simp] theorem State.modCmp_links (i : Ain) (f : Cmp → Cmp) : (s.modCmp i f).links = s.links := rfl
@[simp] theorem State.modCmp_bdg (i : Ain) (f : Cmp → Cmp) : (s.modCmp i f).bdg = s.bdg := rfl
@[simp] theorem State.modCmp_chuck (i : Ain) (f : Cmp → Cmp) : (s.modCmp i f).chuck = s.chuck := rfl
@[simp] theorem State.modCmp_landing (i : Ain) (f : Cmp → Cmp) : (s.modCmp i f).landing = s.landing := rfl
@[simp] theorem State.modCmp_owl (i : Ain) (f : Cmp → Cmp) : (s.modCmp i f).owl = s.owl := rfl
@[simp] theorem State.modCmp_tls (i : Ain) (f : Cmp → Cmp) : (s.modCmp i f).tls = s.tls := rfl
@[simp] theorem State.modCmp_fpl (i : Ain) (f : Cmp → Cmp) : (s.modCmp i f).fpl = s.fpl := rfl
@[simp] theorem State.modCmp_net (i : Ain) (f : Cmp → Cmp) : (s.modCmp i f).net = s.net := rfl
@[simp] theorem State.modCmp_setts (i : Ain) (f : Cmp → Cmp) : (s.modCmp i f).setts = s.setts := rfl
@[simp] theorem State.modCmp_sett (i : Ain) (f : Cmp → Cmp) : (s.modCmp i f).sett = s.sett := rfl
@[simp] theorem State.modCmp_mtr (i : Ain) (f : Cmp → Cmp) : (s.modCmp i f).mtr = s.mtr := rfl
@[simp] theorem State.modCmp_cvus (i : Ain) (f : Cmp → Cmp) : (s.modCmp i f).cvus = s.cvus := rfl
@[simp] theorem State.modCmp_pwr (i : Ain) (f : Cmp → Cmp) : (s.modCmp i f).pwr = s.pwr := rfl
@[simp] theorem State.modCmp_dev (i : Ain) (f : Cmp → Cmp) : (s.modCmp i f).dev = s.dev := rfl
@[simp] theorem State.modCmp_regs (i : Ain) (f : Cmp → Cmp) : (s.modCmp i f).regs = s.regs := rfl
@[simp] theorem State.modCmp_get (i : Ain) (f : Cmp → Cmp) (h : Fld) (x y : Nat) : (s.modCmp i f).get h x y = s.get h x y := rfl
@[simp] theorem State.modCmp_wf (i : Ain) (f : Cmp → Cmp) : (s.modCmp i f).wf = s.wf := rfl

/-! ### modPif -/

@[simp] theorem State.modPif_pending (n : Ch) (f : Pif → Pif) : (s.modPif n f).pending = s.pending := rfl
@[simp] theorem State.modPif_ts (n : Ch) (f : Pif → Pif) : (s.modPif n f).ts = s.ts := rfl
@[simp] theorem State.modPif_free (n : Ch) (f : Pif → Pif) : (s.modPif n f).free = s.free := rfl
@[simp] theorem State.modPif_rate (n : Ch) (f : Pif → Pif) : (s.modPif n f).rate = s.rate := rfl
@[simp] theorem State.modPif_mem (n : Ch) (f : Pif → Pif) : (s.modPif n f).mem = s.mem := rfl
@[simp] theorem State.modPif_log (n : Ch) (f : Pif → Pif) : (s.modPif n f).log = s.log := rfl
@[simp] theorem State.modPif_inflight (n : Ch) (f : Pif → Pif) : (s.modPif n f).inflight = s.inflight := rfl
@[simp] theorem State.modPif_ports (n : Ch) (f : Pif → Pif) : (s.modPif n f).ports = s.ports := rfl
@[simp] theorem State.modPif_cvb (n : Ch) (f : Pif → Pif) : (s.modPif n f).cvb = s.cvb := rfl
@[simp] theorem State.modPif_gen (n : Ch) (f : Pif → Pif) : (s.modPif n f).gen = s.gen := rfl
@[simp] theorem State.modPif_chans (n : Ch) (f : Pif → Pif) : (s.modPif n f).chans = s.chans := rfl
@[simp] theorem State.modPif_sps (n : Ch) (f : Pif → Pif) : (s.modPif n f).sps = s.sps := rfl
@[simp] theorem State.modPif_links (n : Ch) (f : Pif → Pif) : (s.modPif n f).links = s.links := rfl
@[simp] theorem State.modPif_bdg (n : Ch) (f : Pif → Pif) : (s.modPif n f).bdg = s.bdg := rfl
@[simp] theorem State.modPif_chuck (n : Ch) (f : Pif → Pif) : (s.modPif n f).chuck = s.chuck := rfl
@[simp] theorem State.modPif_landing (n : Ch) (f : Pif → Pif) : (s.modPif n f).landing = s.landing := rfl
@[simp] theorem State.modPif_owl (n : Ch) (f : Pif → Pif) : (s.modPif n f).owl = s.owl := rfl
@[simp] theorem State.modPif_tls (n : Ch) (f : Pif → Pif) : (s.modPif n f).tls = s.tls := rfl
@[simp] theorem State.modPif_fpl (n : Ch) (f : Pif → Pif) : (s.modPif n f).fpl = s.fpl := rfl
@[simp] theorem State.modPif_net (n : Ch) (f : Pif → Pif) : (s.modPif n f).net = s.net := rfl
@[simp] theorem State.modPif_setts (n : Ch) (f : Pif → Pif) : (s.modPif n f).setts = s.setts := rfl
@[simp] theorem State.modPif_sett (n : Ch) (f : Pif → Pif) : (s.modPif n f).sett = s.sett := rfl
@[simp] theorem State.modPif_mtr (n : Ch) (f : Pif → Pif) : (s.modPif n f).mtr = s.mtr := rfl
@[simp] theorem State.modPif_cvus (n : Ch) (f : Pif → Pif) : (s.modPif n f).cvus = s.cvus := rfl
@[simp] theorem State.modPif_pwr (n : Ch) (f : Pif → Pif) : (s.modPif n f).pwr = s.pwr := rfl
@[simp] theorem State.modPif_dev (n : Ch) (f : Pif → Pif) : (s.modPif n f).dev = s.dev := rfl
@[simp] theorem State.modPif_regs (n : Ch) (f : Pif → Pif) : (s.modPif n f).regs = s.regs := rfl
@[simp] theorem State.modPif_get (n : Ch) (f : Pif → Pif) (h : Fld) (x y : Nat) : (s.modPif n f).get h x y = s.get h x y := rfl
@[simp] theorem State.modPif_wf (n : Ch) (f : Pif → Pif) : (s.modPif n f).wf = s.wf := rfl

/-! ### modQp -/

@[simp] theorem State.modQp_pending (q : Qp) (f : QpSt → QpSt) : (s.modQp q f).pending = s.pending := rfl
@[simp] theorem State.modQp_ts (q : Qp) (f : QpSt → QpSt) : (s.modQp q f).ts = s.ts := rfl
@[simp] theorem State.modQp_free (q : Qp) (f : QpSt → QpSt) : (s.modQp q f).free = s.free := rfl
@[simp] theorem State.modQp_rate (q : Qp) (f : QpSt → QpSt) : (s.modQp q f).rate = s.rate := rfl
@[simp] theorem State.modQp_mem (q : Qp) (f : QpSt → QpSt) : (s.modQp q f).mem = s.mem := rfl
@[simp] theorem State.modQp_log (q : Qp) (f : QpSt → QpSt) : (s.modQp q f).log = s.log := rfl
@[simp] theorem State.modQp_inflight (q : Qp) (f : QpSt → QpSt) : (s.modQp q f).inflight = s.inflight := rfl
@[simp] theorem State.modQp_ports (q : Qp) (f : QpSt → QpSt) : (s.modQp q f).ports = s.ports := rfl
@[simp] theorem State.modQp_cvb (q : Qp) (f : QpSt → QpSt) : (s.modQp q f).cvb = s.cvb := rfl
@[simp] theorem State.modQp_pos (q : Qp) (f : QpSt → QpSt) : (s.modQp q f).pos = s.pos := rfl
@[simp] theorem State.modQp_gen (q : Qp) (f : QpSt → QpSt) : (s.modQp q f).gen = s.gen := rfl
@[simp] theorem State.modQp_chans (q : Qp) (f : QpSt → QpSt) : (s.modQp q f).chans = s.chans := rfl
@[simp] theorem State.modQp_sps (q : Qp) (f : QpSt → QpSt) : (s.modQp q f).sps = s.sps := rfl
@[simp] theorem State.modQp_links (q : Qp) (f : QpSt → QpSt) : (s.modQp q f).links = s.links := rfl
@[simp] theorem State.modQp_bdg (q : Qp) (f : QpSt → QpSt) : (s.modQp q f).bdg = s.bdg := rfl
@[simp] theorem State.modQp_chuck (q : Qp) (f : QpSt → QpSt) : (s.modQp q f).chuck = s.chuck := rfl
@[simp] theorem State.modQp_landing (q : Qp) (f : QpSt → QpSt) : (s.modQp q f).landing = s.landing := rfl
@[simp] theorem State.modQp_owl (q : Qp) (f : QpSt → QpSt) : (s.modQp q f).owl = s.owl := rfl
@[simp] theorem State.modQp_tls (q : Qp) (f : QpSt → QpSt) : (s.modQp q f).tls = s.tls := rfl
@[simp] theorem State.modQp_net (q : Qp) (f : QpSt → QpSt) : (s.modQp q f).net = s.net := rfl
@[simp] theorem State.modQp_setts (q : Qp) (f : QpSt → QpSt) : (s.modQp q f).setts = s.setts := rfl
@[simp] theorem State.modQp_sett (q : Qp) (f : QpSt → QpSt) : (s.modQp q f).sett = s.sett := rfl
@[simp] theorem State.modQp_mtr (q : Qp) (f : QpSt → QpSt) : (s.modQp q f).mtr = s.mtr := rfl
@[simp] theorem State.modQp_cvus (q : Qp) (f : QpSt → QpSt) : (s.modQp q f).cvus = s.cvus := rfl
@[simp] theorem State.modQp_pwr (q : Qp) (f : QpSt → QpSt) : (s.modQp q f).pwr = s.pwr := rfl
@[simp] theorem State.modQp_dev (q : Qp) (f : QpSt → QpSt) : (s.modQp q f).dev = s.dev := rfl
@[simp] theorem State.modQp_regs (q : Qp) (f : QpSt → QpSt) : (s.modQp q f).regs = s.regs := rfl
@[simp] theorem State.modQp_get (q : Qp) (f : QpSt → QpSt) (h : Fld) (x y : Nat) : (s.modQp q f).get h x y = s.get h x y := rfl
@[simp] theorem State.modQp_wf (q : Qp) (f : QpSt → QpSt) : (s.modQp q f).wf = s.wf := rfl

/-! ### modCarr -/

@[simp] theorem State.modCarr_pending (r : Carr) (f : Carrier → Carrier) : (s.modCarr r f).pending = s.pending := rfl
@[simp] theorem State.modCarr_ts (r : Carr) (f : Carrier → Carrier) : (s.modCarr r f).ts = s.ts := rfl
@[simp] theorem State.modCarr_free (r : Carr) (f : Carrier → Carrier) : (s.modCarr r f).free = s.free := rfl
@[simp] theorem State.modCarr_rate (r : Carr) (f : Carrier → Carrier) : (s.modCarr r f).rate = s.rate := rfl
@[simp] theorem State.modCarr_mem (r : Carr) (f : Carrier → Carrier) : (s.modCarr r f).mem = s.mem := rfl
@[simp] theorem State.modCarr_log (r : Carr) (f : Carrier → Carrier) : (s.modCarr r f).log = s.log := rfl
@[simp] theorem State.modCarr_inflight (r : Carr) (f : Carrier → Carrier) : (s.modCarr r f).inflight = s.inflight := rfl
@[simp] theorem State.modCarr_ports (r : Carr) (f : Carrier → Carrier) : (s.modCarr r f).ports = s.ports := rfl
@[simp] theorem State.modCarr_cvb (r : Carr) (f : Carrier → Carrier) : (s.modCarr r f).cvb = s.cvb := rfl
@[simp] theorem State.modCarr_pos (r : Carr) (f : Carrier → Carrier) : (s.modCarr r f).pos = s.pos := rfl
@[simp] theorem State.modCarr_chans (r : Carr) (f : Carrier → Carrier) : (s.modCarr r f).chans = s.chans := rfl
@[simp] theorem State.modCarr_sps (r : Carr) (f : Carrier → Carrier) : (s.modCarr r f).sps = s.sps := rfl
@[simp] theorem State.modCarr_links (r : Carr) (f : Carrier → Carrier) : (s.modCarr r f).links = s.links := rfl
@[simp] theorem State.modCarr_bdg (r : Carr) (f : Carrier → Carrier) : (s.modCarr r f).bdg = s.bdg := rfl
@[simp] theorem State.modCarr_chuck (r : Carr) (f : Carrier → Carrier) : (s.modCarr r f).chuck = s.chuck := rfl
@[simp] theorem State.modCarr_landing (r : Carr) (f : Carrier → Carrier) : (s.modCarr r f).landing = s.landing := rfl
@[simp] theorem State.modCarr_owl (r : Carr) (f : Carrier → Carrier) : (s.modCarr r f).owl = s.owl := rfl
@[simp] theorem State.modCarr_tls (r : Carr) (f : Carrier → Carrier) : (s.modCarr r f).tls = s.tls := rfl
@[simp] theorem State.modCarr_fpl (r : Carr) (f : Carrier → Carrier) : (s.modCarr r f).fpl = s.fpl := rfl
@[simp] theorem State.modCarr_net (r : Carr) (f : Carrier → Carrier) : (s.modCarr r f).net = s.net := rfl
@[simp] theorem State.modCarr_setts (r : Carr) (f : Carrier → Carrier) : (s.modCarr r f).setts = s.setts := rfl
@[simp] theorem State.modCarr_sett (r : Carr) (f : Carrier → Carrier) : (s.modCarr r f).sett = s.sett := rfl
@[simp] theorem State.modCarr_mtr (r : Carr) (f : Carrier → Carrier) : (s.modCarr r f).mtr = s.mtr := rfl
@[simp] theorem State.modCarr_cvus (r : Carr) (f : Carrier → Carrier) : (s.modCarr r f).cvus = s.cvus := rfl
@[simp] theorem State.modCarr_pwr (r : Carr) (f : Carrier → Carrier) : (s.modCarr r f).pwr = s.pwr := rfl
@[simp] theorem State.modCarr_dev (r : Carr) (f : Carrier → Carrier) : (s.modCarr r f).dev = s.dev := rfl
@[simp] theorem State.modCarr_regs (r : Carr) (f : Carrier → Carrier) : (s.modCarr r f).regs = s.regs := rfl
@[simp] theorem State.modCarr_get (r : Carr) (f : Carrier → Carrier) (h : Fld) (x y : Nat) : (s.modCarr r f).get h x y = s.get h x y := rfl
@[simp] theorem State.modCarr_wf (r : Carr) (f : Carrier → Carrier) : (s.modCarr r f).wf = s.wf := rfl

/-! ### modLeg -/

@[simp] theorem State.modLeg_pending (k : Leg) (f : LegSt → LegSt) : (s.modLeg k f).pending = s.pending := rfl
@[simp] theorem State.modLeg_ts (k : Leg) (f : LegSt → LegSt) : (s.modLeg k f).ts = s.ts := rfl
@[simp] theorem State.modLeg_free (k : Leg) (f : LegSt → LegSt) : (s.modLeg k f).free = s.free := rfl
@[simp] theorem State.modLeg_rate (k : Leg) (f : LegSt → LegSt) : (s.modLeg k f).rate = s.rate := rfl
@[simp] theorem State.modLeg_mem (k : Leg) (f : LegSt → LegSt) : (s.modLeg k f).mem = s.mem := rfl
@[simp] theorem State.modLeg_log (k : Leg) (f : LegSt → LegSt) : (s.modLeg k f).log = s.log := rfl
@[simp] theorem State.modLeg_inflight (k : Leg) (f : LegSt → LegSt) : (s.modLeg k f).inflight = s.inflight := rfl
@[simp] theorem State.modLeg_ports (k : Leg) (f : LegSt → LegSt) : (s.modLeg k f).ports = s.ports := rfl
@[simp] theorem State.modLeg_cvb (k : Leg) (f : LegSt → LegSt) : (s.modLeg k f).cvb = s.cvb := rfl
@[simp] theorem State.modLeg_pos (k : Leg) (f : LegSt → LegSt) : (s.modLeg k f).pos = s.pos := rfl
@[simp] theorem State.modLeg_chans (k : Leg) (f : LegSt → LegSt) : (s.modLeg k f).chans = s.chans := rfl
@[simp] theorem State.modLeg_sps (k : Leg) (f : LegSt → LegSt) : (s.modLeg k f).sps = s.sps := rfl
@[simp] theorem State.modLeg_links (k : Leg) (f : LegSt → LegSt) : (s.modLeg k f).links = s.links := rfl
@[simp] theorem State.modLeg_bdg (k : Leg) (f : LegSt → LegSt) : (s.modLeg k f).bdg = s.bdg := rfl
@[simp] theorem State.modLeg_chuck (k : Leg) (f : LegSt → LegSt) : (s.modLeg k f).chuck = s.chuck := rfl
@[simp] theorem State.modLeg_landing (k : Leg) (f : LegSt → LegSt) : (s.modLeg k f).landing = s.landing := rfl
@[simp] theorem State.modLeg_owl (k : Leg) (f : LegSt → LegSt) : (s.modLeg k f).owl = s.owl := rfl
@[simp] theorem State.modLeg_tls (k : Leg) (f : LegSt → LegSt) : (s.modLeg k f).tls = s.tls := rfl
@[simp] theorem State.modLeg_fpl (k : Leg) (f : LegSt → LegSt) : (s.modLeg k f).fpl = s.fpl := rfl
@[simp] theorem State.modLeg_net (k : Leg) (f : LegSt → LegSt) : (s.modLeg k f).net = s.net := rfl
@[simp] theorem State.modLeg_setts (k : Leg) (f : LegSt → LegSt) : (s.modLeg k f).setts = s.setts := rfl
@[simp] theorem State.modLeg_sett (k : Leg) (f : LegSt → LegSt) : (s.modLeg k f).sett = s.sett := rfl
@[simp] theorem State.modLeg_mtr (k : Leg) (f : LegSt → LegSt) : (s.modLeg k f).mtr = s.mtr := rfl
@[simp] theorem State.modLeg_cvus (k : Leg) (f : LegSt → LegSt) : (s.modLeg k f).cvus = s.cvus := rfl
@[simp] theorem State.modLeg_pwr (k : Leg) (f : LegSt → LegSt) : (s.modLeg k f).pwr = s.pwr := rfl
@[simp] theorem State.modLeg_dev (k : Leg) (f : LegSt → LegSt) : (s.modLeg k f).dev = s.dev := rfl
@[simp] theorem State.modLeg_regs (k : Leg) (f : LegSt → LegSt) : (s.modLeg k f).regs = s.regs := rfl
@[simp] theorem State.modLeg_get (k : Leg) (f : LegSt → LegSt) (h : Fld) (x y : Nat) : (s.modLeg k f).get h x y = s.get h x y := rfl
@[simp] theorem State.modLeg_wf (k : Leg) (f : LegSt → LegSt) : (s.modLeg k f).wf = s.wf := rfl

/-! ### modFlt -/

@[simp] theorem State.modFlt_pending (b : Fin 32) (f : Flt → Flt) : (s.modFlt b f).pending = s.pending := rfl
@[simp] theorem State.modFlt_ts (b : Fin 32) (f : Flt → Flt) : (s.modFlt b f).ts = s.ts := rfl
@[simp] theorem State.modFlt_free (b : Fin 32) (f : Flt → Flt) : (s.modFlt b f).free = s.free := rfl
@[simp] theorem State.modFlt_rate (b : Fin 32) (f : Flt → Flt) : (s.modFlt b f).rate = s.rate := rfl
@[simp] theorem State.modFlt_mem (b : Fin 32) (f : Flt → Flt) : (s.modFlt b f).mem = s.mem := rfl
@[simp] theorem State.modFlt_log (b : Fin 32) (f : Flt → Flt) : (s.modFlt b f).log = s.log := rfl
@[simp] theorem State.modFlt_inflight (b : Fin 32) (f : Flt → Flt) : (s.modFlt b f).inflight = s.inflight := rfl
@[simp] theorem State.modFlt_ports (b : Fin 32) (f : Flt → Flt) : (s.modFlt b f).ports = s.ports := rfl
@[simp] theorem State.modFlt_cvb (b : Fin 32) (f : Flt → Flt) : (s.modFlt b f).cvb = s.cvb := rfl
@[simp] theorem State.modFlt_pos (b : Fin 32) (f : Flt → Flt) : (s.modFlt b f).pos = s.pos := rfl
@[simp] theorem State.modFlt_chans (b : Fin 32) (f : Flt → Flt) : (s.modFlt b f).chans = s.chans := rfl
@[simp] theorem State.modFlt_sps (b : Fin 32) (f : Flt → Flt) : (s.modFlt b f).sps = s.sps := rfl
@[simp] theorem State.modFlt_links (b : Fin 32) (f : Flt → Flt) : (s.modFlt b f).links = s.links := rfl
@[simp] theorem State.modFlt_bdg (b : Fin 32) (f : Flt → Flt) : (s.modFlt b f).bdg = s.bdg := rfl
@[simp] theorem State.modFlt_chuck (b : Fin 32) (f : Flt → Flt) : (s.modFlt b f).chuck = s.chuck := rfl
@[simp] theorem State.modFlt_landing (b : Fin 32) (f : Flt → Flt) : (s.modFlt b f).landing = s.landing := rfl
@[simp] theorem State.modFlt_owl (b : Fin 32) (f : Flt → Flt) : (s.modFlt b f).owl = s.owl := rfl
@[simp] theorem State.modFlt_tls (b : Fin 32) (f : Flt → Flt) : (s.modFlt b f).tls = s.tls := rfl
@[simp] theorem State.modFlt_fpl (b : Fin 32) (f : Flt → Flt) : (s.modFlt b f).fpl = s.fpl := rfl
@[simp] theorem State.modFlt_net (b : Fin 32) (f : Flt → Flt) : (s.modFlt b f).net = s.net := rfl
@[simp] theorem State.modFlt_setts (b : Fin 32) (f : Flt → Flt) : (s.modFlt b f).setts = s.setts := rfl
@[simp] theorem State.modFlt_sett (b : Fin 32) (f : Flt → Flt) : (s.modFlt b f).sett = s.sett := rfl
@[simp] theorem State.modFlt_mtr (b : Fin 32) (f : Flt → Flt) : (s.modFlt b f).mtr = s.mtr := rfl
@[simp] theorem State.modFlt_cvus (b : Fin 32) (f : Flt → Flt) : (s.modFlt b f).cvus = s.cvus := rfl
@[simp] theorem State.modFlt_pwr (b : Fin 32) (f : Flt → Flt) : (s.modFlt b f).pwr = s.pwr := rfl
@[simp] theorem State.modFlt_dev (b : Fin 32) (f : Flt → Flt) : (s.modFlt b f).dev = s.dev := rfl
@[simp] theorem State.modFlt_regs (b : Fin 32) (f : Flt → Flt) : (s.modFlt b f).regs = s.regs := rfl
@[simp] theorem State.modFlt_get (b : Fin 32) (f : Flt → Flt) (h : Fld) (x y : Nat) : (s.modFlt b f).get h x y = s.get h x y := rfl
@[simp] theorem State.modFlt_wf (b : Fin 32) (f : Flt → Flt) : (s.modFlt b f).wf = s.wf := rfl

/-! ### putByte -/

@[simp] theorem State.putByte_pending (a v : Nat) : (s.putByte a v).pending = s.pending := rfl
@[simp] theorem State.putByte_ts (a v : Nat) : (s.putByte a v).ts = s.ts := rfl
@[simp] theorem State.putByte_free (a v : Nat) : (s.putByte a v).free = s.free := rfl
@[simp] theorem State.putByte_rate (a v : Nat) : (s.putByte a v).rate = s.rate := rfl
@[simp] theorem State.putByte_log (a v : Nat) : (s.putByte a v).log = s.log := rfl
@[simp] theorem State.putByte_inflight (a v : Nat) : (s.putByte a v).inflight = s.inflight := rfl
@[simp] theorem State.putByte_ports (a v : Nat) : (s.putByte a v).ports = s.ports := rfl
@[simp] theorem State.putByte_cvb (a v : Nat) : (s.putByte a v).cvb = s.cvb := rfl
@[simp] theorem State.putByte_pos (a v : Nat) : (s.putByte a v).pos = s.pos := rfl
@[simp] theorem State.putByte_gen (a v : Nat) : (s.putByte a v).gen = s.gen := rfl
@[simp] theorem State.putByte_chans (a v : Nat) : (s.putByte a v).chans = s.chans := rfl
@[simp] theorem State.putByte_sps (a v : Nat) : (s.putByte a v).sps = s.sps := rfl
@[simp] theorem State.putByte_links (a v : Nat) : (s.putByte a v).links = s.links := rfl
@[simp] theorem State.putByte_bdg (a v : Nat) : (s.putByte a v).bdg = s.bdg := rfl
@[simp] theorem State.putByte_chuck (a v : Nat) : (s.putByte a v).chuck = s.chuck := rfl
@[simp] theorem State.putByte_landing (a v : Nat) : (s.putByte a v).landing = s.landing := rfl
@[simp] theorem State.putByte_owl (a v : Nat) : (s.putByte a v).owl = s.owl := rfl
@[simp] theorem State.putByte_tls (a v : Nat) : (s.putByte a v).tls = s.tls := rfl
@[simp] theorem State.putByte_fpl (a v : Nat) : (s.putByte a v).fpl = s.fpl := rfl
@[simp] theorem State.putByte_net (a v : Nat) : (s.putByte a v).net = s.net := rfl
@[simp] theorem State.putByte_setts (a v : Nat) : (s.putByte a v).setts = s.setts := rfl
@[simp] theorem State.putByte_sett (a v : Nat) : (s.putByte a v).sett = s.sett := rfl
@[simp] theorem State.putByte_mtr (a v : Nat) : (s.putByte a v).mtr = s.mtr := rfl
@[simp] theorem State.putByte_cvus (a v : Nat) : (s.putByte a v).cvus = s.cvus := rfl
@[simp] theorem State.putByte_pwr (a v : Nat) : (s.putByte a v).pwr = s.pwr := rfl
@[simp] theorem State.putByte_dev (a v : Nat) : (s.putByte a v).dev = s.dev := rfl
@[simp] theorem State.putByte_regs (a v : Nat) : (s.putByte a v).regs = s.regs := rfl
@[simp] theorem State.putByte_get (a v : Nat) (h : Fld) (x y : Nat) : (s.putByte a v).get h x y = s.get h x y := rfl

/-! ### putMpByte -/

@[simp] theorem State.putMpByte_pending (a v : Nat) : (s.putMpByte a v).pending = s.pending := rfl
@[simp] theorem State.putMpByte_ts (a v : Nat) : (s.putMpByte a v).ts = s.ts := rfl
@[simp] theorem State.putMpByte_free (a v : Nat) : (s.putMpByte a v).free = s.free := rfl
@[simp] theorem State.putMpByte_rate (a v : Nat) : (s.putMpByte a v).rate = s.rate := rfl
@[simp] theorem State.putMpByte_log (a v : Nat) : (s.putMpByte a v).log = s.log := rfl
@[simp] theorem State.putMpByte_inflight (a v : Nat) : (s.putMpByte a v).inflight = s.inflight := rfl
@[simp] theorem State.putMpByte_ports (a v : Nat) : (s.putMpByte a v).ports = s.ports := rfl
@[simp] theorem State.putMpByte_cvb (a v : Nat) : (s.putMpByte a v).cvb = s.cvb := rfl
@[simp] theorem State.putMpByte_pos (a v : Nat) : (s.putMpByte a v).pos = s.pos := rfl
@[simp] theorem State.putMpByte_gen (a v : Nat) : (s.putMpByte a v).gen = s.gen := rfl
@[simp] theorem State.putMpByte_chans (a v : Nat) : (s.putMpByte a v).chans = s.chans := rfl
@[simp] theorem State.putMpByte_sps (a v : Nat) : (s.putMpByte a v).sps = s.sps := rfl
@[simp] theorem State.putMpByte_links (a v : Nat) : (s.putMpByte a v).links = s.links := rfl
@[simp] theorem State.putMpByte_bdg (a v : Nat) : (s.putMpByte a v).bdg = s.bdg := rfl
@[simp] theorem State.putMpByte_chuck (a v : Nat) : (s.putMpByte a v).chuck = s.chuck := rfl
@[simp] theorem State.putMpByte_landing (a v : Nat) : (s.putMpByte a v).landing = s.landing := rfl
@[simp] theorem State.putMpByte_owl (a v : Nat) : (s.putMpByte a v).owl = s.owl := rfl
@[simp] theorem State.putMpByte_tls (a v : Nat) : (s.putMpByte a v).tls = s.tls := rfl
@[simp] theorem State.putMpByte_fpl (a v : Nat) : (s.putMpByte a v).fpl = s.fpl := rfl
@[simp] theorem State.putMpByte_net (a v : Nat) : (s.putMpByte a v).net = s.net := rfl
@[simp] theorem State.putMpByte_setts (a v : Nat) : (s.putMpByte a v).setts = s.setts := rfl
@[simp] theorem State.putMpByte_sett (a v : Nat) : (s.putMpByte a v).sett = s.sett := rfl
@[simp] theorem State.putMpByte_mtr (a v : Nat) : (s.putMpByte a v).mtr = s.mtr := rfl
@[simp] theorem State.putMpByte_cvus (a v : Nat) : (s.putMpByte a v).cvus = s.cvus := rfl
@[simp] theorem State.putMpByte_pwr (a v : Nat) : (s.putMpByte a v).pwr = s.pwr := rfl
@[simp] theorem State.putMpByte_dev (a v : Nat) : (s.putMpByte a v).dev = s.dev := rfl
@[simp] theorem State.putMpByte_regs (a v : Nat) : (s.putMpByte a v).regs = s.regs := rfl
@[simp] theorem State.putMpByte_get (a v : Nat) (h : Fld) (x y : Nat) : (s.putMpByte a v).get h x y = s.get h x y := rfl

/-! ### putLw -/

@[simp] theorem State.putLw_pending (i : Nat) (q : QWord) : (s.putLw i q).pending = s.pending := rfl
@[simp] theorem State.putLw_ts (i : Nat) (q : QWord) : (s.putLw i q).ts = s.ts := rfl
@[simp] theorem State.putLw_free (i : Nat) (q : QWord) : (s.putLw i q).free = s.free := rfl
@[simp] theorem State.putLw_rate (i : Nat) (q : QWord) : (s.putLw i q).rate = s.rate := rfl
@[simp] theorem State.putLw_log (i : Nat) (q : QWord) : (s.putLw i q).log = s.log := rfl
@[simp] theorem State.putLw_inflight (i : Nat) (q : QWord) : (s.putLw i q).inflight = s.inflight := rfl
@[simp] theorem State.putLw_ports (i : Nat) (q : QWord) : (s.putLw i q).ports = s.ports := rfl
@[simp] theorem State.putLw_cvb (i : Nat) (q : QWord) : (s.putLw i q).cvb = s.cvb := rfl
@[simp] theorem State.putLw_pos (i : Nat) (q : QWord) : (s.putLw i q).pos = s.pos := rfl
@[simp] theorem State.putLw_gen (i : Nat) (q : QWord) : (s.putLw i q).gen = s.gen := rfl
@[simp] theorem State.putLw_chans (i : Nat) (q : QWord) : (s.putLw i q).chans = s.chans := rfl
@[simp] theorem State.putLw_sps (i : Nat) (q : QWord) : (s.putLw i q).sps = s.sps := rfl
@[simp] theorem State.putLw_links (i : Nat) (q : QWord) : (s.putLw i q).links = s.links := rfl
@[simp] theorem State.putLw_bdg (i : Nat) (q : QWord) : (s.putLw i q).bdg = s.bdg := rfl
@[simp] theorem State.putLw_chuck (i : Nat) (q : QWord) : (s.putLw i q).chuck = s.chuck := rfl
@[simp] theorem State.putLw_landing (i : Nat) (q : QWord) : (s.putLw i q).landing = s.landing := rfl
@[simp] theorem State.putLw_owl (i : Nat) (q : QWord) : (s.putLw i q).owl = s.owl := rfl
@[simp] theorem State.putLw_tls (i : Nat) (q : QWord) : (s.putLw i q).tls = s.tls := rfl
@[simp] theorem State.putLw_fpl (i : Nat) (q : QWord) : (s.putLw i q).fpl = s.fpl := rfl
@[simp] theorem State.putLw_net (i : Nat) (q : QWord) : (s.putLw i q).net = s.net := rfl
@[simp] theorem State.putLw_setts (i : Nat) (q : QWord) : (s.putLw i q).setts = s.setts := rfl
@[simp] theorem State.putLw_sett (i : Nat) (q : QWord) : (s.putLw i q).sett = s.sett := rfl
@[simp] theorem State.putLw_mtr (i : Nat) (q : QWord) : (s.putLw i q).mtr = s.mtr := rfl
@[simp] theorem State.putLw_cvus (i : Nat) (q : QWord) : (s.putLw i q).cvus = s.cvus := rfl
@[simp] theorem State.putLw_pwr (i : Nat) (q : QWord) : (s.putLw i q).pwr = s.pwr := rfl
@[simp] theorem State.putLw_dev (i : Nat) (q : QWord) : (s.putLw i q).dev = s.dev := rfl
@[simp] theorem State.putLw_regs (i : Nat) (q : QWord) : (s.putLw i q).regs = s.regs := rfl
@[simp] theorem State.putLw_get (i : Nat) (q : QWord) (h : Fld) (x y : Nat) : (s.putLw i q).get h x y = s.get h x y := rfl

/-! ### putOw -/

@[simp] theorem State.putOw_pending (i v : Nat) : (s.putOw i v).pending = s.pending := rfl
@[simp] theorem State.putOw_ts (i v : Nat) : (s.putOw i v).ts = s.ts := rfl
@[simp] theorem State.putOw_free (i v : Nat) : (s.putOw i v).free = s.free := rfl
@[simp] theorem State.putOw_rate (i v : Nat) : (s.putOw i v).rate = s.rate := rfl
@[simp] theorem State.putOw_log (i v : Nat) : (s.putOw i v).log = s.log := rfl
@[simp] theorem State.putOw_inflight (i v : Nat) : (s.putOw i v).inflight = s.inflight := rfl
@[simp] theorem State.putOw_ports (i v : Nat) : (s.putOw i v).ports = s.ports := rfl
@[simp] theorem State.putOw_cvb (i v : Nat) : (s.putOw i v).cvb = s.cvb := rfl
@[simp] theorem State.putOw_pos (i v : Nat) : (s.putOw i v).pos = s.pos := rfl
@[simp] theorem State.putOw_gen (i v : Nat) : (s.putOw i v).gen = s.gen := rfl
@[simp] theorem State.putOw_chans (i v : Nat) : (s.putOw i v).chans = s.chans := rfl
@[simp] theorem State.putOw_sps (i v : Nat) : (s.putOw i v).sps = s.sps := rfl
@[simp] theorem State.putOw_links (i v : Nat) : (s.putOw i v).links = s.links := rfl
@[simp] theorem State.putOw_bdg (i v : Nat) : (s.putOw i v).bdg = s.bdg := rfl
@[simp] theorem State.putOw_chuck (i v : Nat) : (s.putOw i v).chuck = s.chuck := rfl
@[simp] theorem State.putOw_landing (i v : Nat) : (s.putOw i v).landing = s.landing := rfl
@[simp] theorem State.putOw_owl (i v : Nat) : (s.putOw i v).owl = s.owl := rfl
@[simp] theorem State.putOw_tls (i v : Nat) : (s.putOw i v).tls = s.tls := rfl
@[simp] theorem State.putOw_fpl (i v : Nat) : (s.putOw i v).fpl = s.fpl := rfl
@[simp] theorem State.putOw_net (i v : Nat) : (s.putOw i v).net = s.net := rfl
@[simp] theorem State.putOw_setts (i v : Nat) : (s.putOw i v).setts = s.setts := rfl
@[simp] theorem State.putOw_sett (i v : Nat) : (s.putOw i v).sett = s.sett := rfl
@[simp] theorem State.putOw_mtr (i v : Nat) : (s.putOw i v).mtr = s.mtr := rfl
@[simp] theorem State.putOw_cvus (i v : Nat) : (s.putOw i v).cvus = s.cvus := rfl
@[simp] theorem State.putOw_pwr (i v : Nat) : (s.putOw i v).pwr = s.pwr := rfl
@[simp] theorem State.putOw_dev (i v : Nat) : (s.putOw i v).dev = s.dev := rfl
@[simp] theorem State.putOw_regs (i v : Nat) : (s.putOw i v).regs = s.regs := rfl
@[simp] theorem State.putOw_get (i v : Nat) (h : Fld) (x y : Nat) : (s.putOw i v).get h x y = s.get h x y := rfl

/-! ### logAgain -/

@[simp] theorem State.logAgain_pending (c k : Nat) : (s.logAgain c k).pending = s.pending := rfl
@[simp] theorem State.logAgain_ts (c k : Nat) : (s.logAgain c k).ts = s.ts := rfl
@[simp] theorem State.logAgain_free (c k : Nat) : (s.logAgain c k).free = s.free := rfl
@[simp] theorem State.logAgain_mem (c k : Nat) : (s.logAgain c k).mem = s.mem := rfl
@[simp] theorem State.logAgain_log (c k : Nat) : (s.logAgain c k).log = s.log := rfl
@[simp] theorem State.logAgain_inflight (c k : Nat) : (s.logAgain c k).inflight = s.inflight := rfl
@[simp] theorem State.logAgain_ports (c k : Nat) : (s.logAgain c k).ports = s.ports := rfl
@[simp] theorem State.logAgain_cvb (c k : Nat) : (s.logAgain c k).cvb = s.cvb := rfl
@[simp] theorem State.logAgain_pos (c k : Nat) : (s.logAgain c k).pos = s.pos := rfl
@[simp] theorem State.logAgain_gen (c k : Nat) : (s.logAgain c k).gen = s.gen := rfl
@[simp] theorem State.logAgain_chans (c k : Nat) : (s.logAgain c k).chans = s.chans := rfl
@[simp] theorem State.logAgain_sps (c k : Nat) : (s.logAgain c k).sps = s.sps := rfl
@[simp] theorem State.logAgain_links (c k : Nat) : (s.logAgain c k).links = s.links := rfl
@[simp] theorem State.logAgain_bdg (c k : Nat) : (s.logAgain c k).bdg = s.bdg := rfl
@[simp] theorem State.logAgain_chuck (c k : Nat) : (s.logAgain c k).chuck = s.chuck := rfl
@[simp] theorem State.logAgain_landing (c k : Nat) : (s.logAgain c k).landing = s.landing := rfl
@[simp] theorem State.logAgain_owl (c k : Nat) : (s.logAgain c k).owl = s.owl := rfl
@[simp] theorem State.logAgain_tls (c k : Nat) : (s.logAgain c k).tls = s.tls := rfl
@[simp] theorem State.logAgain_fpl (c k : Nat) : (s.logAgain c k).fpl = s.fpl := rfl
@[simp] theorem State.logAgain_net (c k : Nat) : (s.logAgain c k).net = s.net := rfl
@[simp] theorem State.logAgain_setts (c k : Nat) : (s.logAgain c k).setts = s.setts := rfl
@[simp] theorem State.logAgain_sett (c k : Nat) : (s.logAgain c k).sett = s.sett := rfl
@[simp] theorem State.logAgain_mtr (c k : Nat) : (s.logAgain c k).mtr = s.mtr := rfl
@[simp] theorem State.logAgain_cvus (c k : Nat) : (s.logAgain c k).cvus = s.cvus := rfl
@[simp] theorem State.logAgain_pwr (c k : Nat) : (s.logAgain c k).pwr = s.pwr := rfl
@[simp] theorem State.logAgain_dev (c k : Nat) : (s.logAgain c k).dev = s.dev := rfl
@[simp] theorem State.logAgain_regs (c k : Nat) : (s.logAgain c k).regs = s.regs := rfl
@[simp] theorem State.logAgain_get (c k : Nat) (h : Fld) (x y : Nat) : (s.logAgain c k).get h x y = s.get h x y := rfl

/-! ### logRaw -/

@[simp] theorem State.logRaw_pending (c : Nat) (l : List Nat) : (s.logRaw c l).pending = s.pending := (State.logRaw_moves (m := 0x20000000000000000000000000000000000000000000000000000000000100000000000000000000000000000000000000000000000000000000000000000000000000000000000000000000000000000000000000000000000000000000000000000000000000000000400) ⟨by decide⟩ .refl).pending
@[simp] theorem State.logRaw_wf (c : Nat) (l : List Nat) (h : s.wf = true) : (s.logRaw c l).wf = true := (State.logRaw_moves (m := 0x20000000000000000000000000000000000000000000000000000000000100000000000000000000000000000000000000000000000000000000000000000000000000000000000000000000000000000000000000000000000000000000000000000000000000000000400) ⟨by decide⟩ .refl).wf h
@[simp] theorem State.logRaw_get (c : Nat) (l : List Nat) (h : s.wf = true) (f : Fld) (i j : Nat) (hf : touches 0x20000000000000000000000000000000000000000000000000000000000100000000000000000000000000000000000000000000000000000000000000000000000000000000000000000000000000000000000000000000000000000000000000000000000000000000400 f = false) :
    (s.logRaw c l).get f i j = s.get f i j := (State.logRaw_moves (m := 0x20000000000000000000000000000000000000000000000000000000000100000000000000000000000000000000000000000000000000000000000000000000000000000000000000000000000000000000000000000000000000000000000000000000000000000000400) ⟨by decide⟩ .refl).get h (by decide) hf i j
@[simp] theorem State.logRaw_mem (c : Nat) (l : List Nat) : (s.logRaw c l).mem = s.mem := (State.logRaw_moves (m := 0x20000000000000000000000000000000000000000000000000000000000100000000000000000000000000000000000000000000000000000000000000000000000000000000000000000000000000000000000000000000000000000000000000000000000000000000400) ⟨by decide⟩ .refl).mem_eq (by decide)
@[simp] theorem State.logRaw_ts (c : Nat) (l : List Nat) : (s.logRaw c l).ts = s.ts := (State.logRaw_moves (m := 0x20000000000000000000000000000000000000000000000000000000000100000000000000000000000000000000000000000000000000000000000000000000000000000000000000000000000000000000000000000000000000000000000000000000000000000000400) ⟨by decide⟩ .refl).part (p := .ts) (by decide)
@[simp] theorem State.logRaw_free (c : Nat) (l : List Nat) : (s.logRaw c l).free = s.free := (State.logRaw_moves (m := 0x20000000000000000000000000000000000000000000000000000000000100000000000000000000000000000000000000000000000000000000000000000000000000000000000000000000000000000000000000000000000000000000000000000000000000000000400) ⟨by decide⟩ .refl).part (p := .free) (by decide)
@[simp] theorem State.logRaw_rate (c : Nat) (l : List Nat) : (s.logRaw c l).rate = s.rate := (State.logRaw_moves (m := 0x20000000000000000000000000000000000000000000000000000000000100000000000000000000000000000000000000000000000000000000000000000000000000000000000000000000000000000000000000000000000000000000000000000000000000000000400) ⟨by decide⟩ .refl).part (p := .rate) (by decide)
@[simp] theorem State.logRaw_inflight (c : Nat) (l : List Nat) : (s.logRaw c l).inflight = s.inflight := (State.logRaw_moves (m := 0x20000000000000000000000000000000000000000000000000000000000100000000000000000000000000000000000000000000000000000000000000000000000000000000000000000000000000000000000000000000000000000000000000000000000000000000400) ⟨by decide⟩ .refl).part (p := .inflight) (by decide)
@[simp] theorem State.logRaw_ports (c : Nat) (l : List Nat) : (s.logRaw c l).ports = s.ports := (State.logRaw_moves (m := 0x20000000000000000000000000000000000000000000000000000000000100000000000000000000000000000000000000000000000000000000000000000000000000000000000000000000000000000000000000000000000000000000000000000000000000000000400) ⟨by decide⟩ .refl).part (p := .ports) (by decide)
@[simp] theorem State.logRaw_cvb (c : Nat) (l : List Nat) : (s.logRaw c l).cvb = s.cvb := (State.logRaw_moves (m := 0x20000000000000000000000000000000000000000000000000000000000100000000000000000000000000000000000000000000000000000000000000000000000000000000000000000000000000000000000000000000000000000000000000000000000000000000400) ⟨by decide⟩ .refl).part (p := .cvb) (by decide)
@[simp] theorem State.logRaw_pos (c : Nat) (l : List Nat) : (s.logRaw c l).pos = s.pos := (State.logRaw_moves (m := 0x20000000000000000000000000000000000000000000000000000000000100000000000000000000000000000000000000000000000000000000000000000000000000000000000000000000000000000000000000000000000000000000000000000000000000000000400) ⟨by decide⟩ .refl).part (p := .pos) (by decide)
@[simp] theorem State.logRaw_gen (c : Nat) (l : List Nat) : (s.logRaw c l).gen = s.gen := (State.logRaw_moves (m := 0x20000000000000000000000000000000000000000000000000000000000100000000000000000000000000000000000000000000000000000000000000000000000000000000000000000000000000000000000000000000000000000000000000000000000000000000400) ⟨by decide⟩ .refl).part (p := .gen) (by decide)
@[simp] theorem State.logRaw_chans (c : Nat) (l : List Nat) : (s.logRaw c l).chans = s.chans := (State.logRaw_moves (m := 0x20000000000000000000000000000000000000000000000000000000000100000000000000000000000000000000000000000000000000000000000000000000000000000000000000000000000000000000000000000000000000000000000000000000000000000000400) ⟨by decide⟩ .refl).part (p := .chans) (by decide)
@[simp] theorem State.logRaw_sps (c : Nat) (l : List Nat) : (s.logRaw c l).sps = s.sps := (State.logRaw_moves (m := 0x20000000000000000000000000000000000000000000000000000000000100000000000000000000000000000000000000000000000000000000000000000000000000000000000000000000000000000000000000000000000000000000000000000000000000000000400) ⟨by decide⟩ .refl).part (p := .sps) (by decide)
@[simp] theorem State.logRaw_links (c : Nat) (l : List Nat) : (s.logRaw c l).links = s.links := (State.logRaw_moves (m := 0x20000000000000000000000000000000000000000000000000000000000100000000000000000000000000000000000000000000000000000000000000000000000000000000000000000000000000000000000000000000000000000000000000000000000000000000400) ⟨by decide⟩ .refl).part (p := .links) (by decide)
@[simp] theorem State.logRaw_bdg (c : Nat) (l : List Nat) : (s.logRaw c l).bdg = s.bdg := (State.logRaw_moves (m := 0x20000000000000000000000000000000000000000000000000000000000100000000000000000000000000000000000000000000000000000000000000000000000000000000000000000000000000000000000000000000000000000000000000000000000000000000400) ⟨by decide⟩ .refl).part (p := .bdg) (by decide)
@[simp] theorem State.logRaw_chuck (c : Nat) (l : List Nat) : (s.logRaw c l).chuck = s.chuck := (State.logRaw_moves (m := 0x20000000000000000000000000000000000000000000000000000000000100000000000000000000000000000000000000000000000000000000000000000000000000000000000000000000000000000000000000000000000000000000000000000000000000000000400) ⟨by decide⟩ .refl).part (p := .chuck) (by decide)
@[simp] theorem State.logRaw_landing (c : Nat) (l : List Nat) : (s.logRaw c l).landing = s.landing := (State.logRaw_moves (m := 0x20000000000000000000000000000000000000000000000000000000000100000000000000000000000000000000000000000000000000000000000000000000000000000000000000000000000000000000000000000000000000000000000000000000000000000000400) ⟨by decide⟩ .refl).part (p := .landing) (by decide)
@[simp] theorem State.logRaw_owl (c : Nat) (l : List Nat) : (s.logRaw c l).owl = s.owl := (State.logRaw_moves (m := 0x20000000000000000000000000000000000000000000000000000000000100000000000000000000000000000000000000000000000000000000000000000000000000000000000000000000000000000000000000000000000000000000000000000000000000000000400) ⟨by decide⟩ .refl).part (p := .owl) (by decide)
@[simp] theorem State.logRaw_tls (c : Nat) (l : List Nat) : (s.logRaw c l).tls = s.tls := (State.logRaw_moves (m := 0x20000000000000000000000000000000000000000000000000000000000100000000000000000000000000000000000000000000000000000000000000000000000000000000000000000000000000000000000000000000000000000000000000000000000000000000400) ⟨by decide⟩ .refl).part (p := .tls) (by decide)
@[simp] theorem State.logRaw_fpl (c : Nat) (l : List Nat) : (s.logRaw c l).fpl = s.fpl := (State.logRaw_moves (m := 0x20000000000000000000000000000000000000000000000000000000000100000000000000000000000000000000000000000000000000000000000000000000000000000000000000000000000000000000000000000000000000000000000000000000000000000000400) ⟨by decide⟩ .refl).part (p := .fpl) (by decide)
@[simp] theorem State.logRaw_net (c : Nat) (l : List Nat) : (s.logRaw c l).net = s.net := (State.logRaw_moves (m := 0x20000000000000000000000000000000000000000000000000000000000100000000000000000000000000000000000000000000000000000000000000000000000000000000000000000000000000000000000000000000000000000000000000000000000000000000400) ⟨by decide⟩ .refl).part (p := .net) (by decide)
@[simp] theorem State.logRaw_setts (c : Nat) (l : List Nat) : (s.logRaw c l).setts = s.setts := (State.logRaw_moves (m := 0x20000000000000000000000000000000000000000000000000000000000100000000000000000000000000000000000000000000000000000000000000000000000000000000000000000000000000000000000000000000000000000000000000000000000000000000400) ⟨by decide⟩ .refl).part (p := .setts) (by decide)
@[simp] theorem State.logRaw_sett (c : Nat) (l : List Nat) : (s.logRaw c l).sett = s.sett := (State.logRaw_moves (m := 0x20000000000000000000000000000000000000000000000000000000000100000000000000000000000000000000000000000000000000000000000000000000000000000000000000000000000000000000000000000000000000000000000000000000000000000000400) ⟨by decide⟩ .refl).part (p := .sett) (by decide)
@[simp] theorem State.logRaw_mtr (c : Nat) (l : List Nat) : (s.logRaw c l).mtr = s.mtr := (State.logRaw_moves (m := 0x20000000000000000000000000000000000000000000000000000000000100000000000000000000000000000000000000000000000000000000000000000000000000000000000000000000000000000000000000000000000000000000000000000000000000000000400) ⟨by decide⟩ .refl).part (p := .mtr) (by decide)
@[simp] theorem State.logRaw_cvus (c : Nat) (l : List Nat) : (s.logRaw c l).cvus = s.cvus := (State.logRaw_moves (m := 0x20000000000000000000000000000000000000000000000000000000000100000000000000000000000000000000000000000000000000000000000000000000000000000000000000000000000000000000000000000000000000000000000000000000000000000000400) ⟨by decide⟩ .refl).part (p := .cvus) (by decide)
@[simp] theorem State.logRaw_pwr (c : Nat) (l : List Nat) : (s.logRaw c l).pwr = s.pwr := (State.logRaw_moves (m := 0x20000000000000000000000000000000000000000000000000000000000100000000000000000000000000000000000000000000000000000000000000000000000000000000000000000000000000000000000000000000000000000000000000000000000000000000400) ⟨by decide⟩ .refl).part (p := .pwr) (by decide)
@[simp] theorem State.logRaw_dev (c : Nat) (l : List Nat) : (s.logRaw c l).dev = s.dev := (State.logRaw_moves (m := 0x20000000000000000000000000000000000000000000000000000000000100000000000000000000000000000000000000000000000000000000000000000000000000000000000000000000000000000000000000000000000000000000000000000000000000000000400) ⟨by decide⟩ .refl).part (p := .dev) (by decide)

/-! ### owlRec -/

@[simp] theorem State.owlRec_pending (c k : Nat) (l : List Nat) : (s.owlRec c k l).pending = s.pending := (State.owlRec_moves (m := 0x20000000000000000020000000000000000000000000000000000000000100000000000000000000000000000000000000000000000000000000000000000000000000000000000000000000000000000000000000000000000000000000000000000000000000000400408) ⟨by decide⟩ .refl).pending
@[simp] theorem State.owlRec_wf (c k : Nat) (l : List Nat) (h : s.wf = true) : (s.owlRec c k l).wf = true := (State.owlRec_moves (m := 0x20000000000000000020000000000000000000000000000000000000000100000000000000000000000000000000000000000000000000000000000000000000000000000000000000000000000000000000000000000000000000000000000000000000000000000400408) ⟨by decide⟩ .refl).wf h
@[simp] theorem State.owlRec_get (c k : Nat) (l : List Nat) (h : s.wf = true) (f : Fld) (i j : Nat) (hf : touches 0x20000000000000000020000000000000000000000000000000000000000100000000000000000000000000000000000000000000000000000000000000000000000000000000000000000000000000000000000000000000000000000000000000000000000000000400408 f = false) :
    (s.owlRec c k l).get f i j = s.get f i j := (State.owlRec_moves (m := 0x20000000000000000020000000000000000000000000000000000000000100000000000000000000000000000000000000000000000000000000000000000000000000000000000000000000000000000000000000000000000000000000000000000000000000000400408) ⟨by decide⟩ .refl).get h (by decide) hf i j
@[simp] theorem State.owlRec_mem (c k : Nat) (l : List Nat) : (s.owlRec c k l).mem = s.mem := (State.owlRec_moves (m := 0x20000000000000000020000000000000000000000000000000000000000100000000000000000000000000000000000000000000000000000000000000000000000000000000000000000000000000000000000000000000000000000000000000000000000000000400408) ⟨by decide⟩ .refl).mem_eq (by decide)
@[simp] theorem State.owlRec_ts (c k : Nat) (l : List Nat) : (s.owlRec c k l).ts = s.ts := (State.owlRec_moves (m := 0x20000000000000000020000000000000000000000000000000000000000100000000000000000000000000000000000000000000000000000000000000000000000000000000000000000000000000000000000000000000000000000000000000000000000000000400408) ⟨by decide⟩ .refl).part (p := .ts) (by decide)
@[simp] theorem State.owlRec_free (c k : Nat) (l : List Nat) : (s.owlRec c k l).free = s.free := (State.owlRec_moves (m := 0x20000000000000000020000000000000000000000000000000000000000100000000000000000000000000000000000000000000000000000000000000000000000000000000000000000000000000000000000000000000000000000000000000000000000000000400408) ⟨by decide⟩ .refl).part (p := .free) (by decide)
@[simp] theorem State.owlRec_inflight (c k : Nat) (l : List Nat) : (s.owlRec c k l).inflight = s.inflight := (State.owlRec_moves (m := 0x20000000000000000020000000000000000000000000000000000000000100000000000000000000000000000000000000000000000000000000000000000000000000000000000000000000000000000000000000000000000000000000000000000000000000000400408) ⟨by decide⟩ .refl).part (p := .inflight) (by decide)
@[simp] theorem State.owlRec_ports (c k : Nat) (l : List Nat) : (s.owlRec c k l).ports = s.ports := (State.owlRec_moves (m := 0x20000000000000000020000000000000000000000000000000000000000100000000000000000000000000000000000000000000000000000000000000000000000000000000000000000000000000000000000000000000000000000000000000000000000000000400408) ⟨by decide⟩ .refl).part (p := .ports) (by decide)
@[simp] theorem State.owlRec_cvb (c k : Nat) (l : List Nat) : (s.owlRec c k l).cvb = s.cvb := (State.owlRec_moves (m := 0x20000000000000000020000000000000000000000000000000000000000100000000000000000000000000000000000000000000000000000000000000000000000000000000000000000000000000000000000000000000000000000000000000000000000000000400408) ⟨by decide⟩ .refl).part (p := .cvb) (by decide)
@[simp] theorem State.owlRec_pos (c k : Nat) (l : List Nat) : (s.owlRec c k l).pos = s.pos := (State.owlRec_moves (m := 0x20000000000000000020000000000000000000000000000000000000000100000000000000000000000000000000000000000000000000000000000000000000000000000000000000000000000000000000000000000000000000000000000000000000000000000400408) ⟨by decide⟩ .refl).part (p := .pos) (by decide)
@[simp] theorem State.owlRec_gen (c k : Nat) (l : List Nat) : (s.owlRec c k l).gen = s.gen := (State.owlRec_moves (m := 0x20000000000000000020000000000000000000000000000000000000000100000000000000000000000000000000000000000000000000000000000000000000000000000000000000000000000000000000000000000000000000000000000000000000000000000400408) ⟨by decide⟩ .refl).part (p := .gen) (by decide)
@[simp] theorem State.owlRec_chans (c k : Nat) (l : List Nat) : (s.owlRec c k l).chans = s.chans := (State.owlRec_moves (m := 0x20000000000000000020000000000000000000000000000000000000000100000000000000000000000000000000000000000000000000000000000000000000000000000000000000000000000000000000000000000000000000000000000000000000000000000400408) ⟨by decide⟩ .refl).part (p := .chans) (by decide)
@[simp] theorem State.owlRec_sps (c k : Nat) (l : List Nat) : (s.owlRec c k l).sps = s.sps := (State.owlRec_moves (m := 0x20000000000000000020000000000000000000000000000000000000000100000000000000000000000000000000000000000000000000000000000000000000000000000000000000000000000000000000000000000000000000000000000000000000000000000400408) ⟨by decide⟩ .refl).part (p := .sps) (by decide)
@[simp] theorem State.owlRec_links (c k : Nat) (l : List Nat) : (s.owlRec c k l).links = s.links := (State.owlRec_moves (m := 0x20000000000000000020000000000000000000000000000000000000000100000000000000000000000000000000000000000000000000000000000000000000000000000000000000000000000000000000000000000000000000000000000000000000000000000400408) ⟨by decide⟩ .refl).part (p := .links) (by decide)
@[simp] theorem State.owlRec_bdg (c k : Nat) (l : List Nat) : (s.owlRec c k l).bdg = s.bdg := (State.owlRec_moves (m := 0x20000000000000000020000000000000000000000000000000000000000100000000000000000000000000000000000000000000000000000000000000000000000000000000000000000000000000000000000000000000000000000000000000000000000000000400408) ⟨by decide⟩ .refl).part (p := .bdg) (by decide)
@[simp] theorem State.owlRec_chuck (c k : Nat) (l : List Nat) : (s.owlRec c k l).chuck = s.chuck := (State.owlRec_moves (m := 0x20000000000000000020000000000000000000000000000000000000000100000000000000000000000000000000000000000000000000000000000000000000000000000000000000000000000000000000000000000000000000000000000000000000000000000400408) ⟨by decide⟩ .refl).part (p := .chuck) (by decide)
@[simp] theorem State.owlRec_landing (c k : Nat) (l : List Nat) : (s.owlRec c k l).landing = s.landing := (State.owlRec_moves (m := 0x20000000000000000020000000000000000000000000000000000000000100000000000000000000000000000000000000000000000000000000000000000000000000000000000000000000000000000000000000000000000000000000000000000000000000000400408) ⟨by decide⟩ .refl).part (p := .landing) (by decide)
@[simp] theorem State.owlRec_tls (c k : Nat) (l : List Nat) : (s.owlRec c k l).tls = s.tls := (State.owlRec_moves (m := 0x20000000000000000020000000000000000000000000000000000000000100000000000000000000000000000000000000000000000000000000000000000000000000000000000000000000000000000000000000000000000000000000000000000000000000000400408) ⟨by decide⟩ .refl).part (p := .tls) (by decide)
@[simp] theorem State.owlRec_fpl (c k : Nat) (l : List Nat) : (s.owlRec c k l).fpl = s.fpl := (State.owlRec_moves (m := 0x20000000000000000020000000000000000000000000000000000000000100000000000000000000000000000000000000000000000000000000000000000000000000000000000000000000000000000000000000000000000000000000000000000000000000000400408) ⟨by decide⟩ .refl).part (p := .fpl) (by decide)
@[simp] theorem State.owlRec_net (c k : Nat) (l : List Nat) : (s.owlRec c k l).net = s.net := (State.owlRec_moves (m := 0x20000000000000000020000000000000000000000000000000000000000100000000000000000000000000000000000000000000000000000000000000000000000000000000000000000000000000000000000000000000000000000000000000000000000000000400408) ⟨by decide⟩ .refl).part (p := .net) (by decide)
@[simp] theorem State.owlRec_setts (c k : Nat) (l : List Nat) : (s.owlRec c k l).setts = s.setts := (State.owlRec_moves (m := 0x20000000000000000020000000000000000000000000000000000000000100000000000000000000000000000000000000000000000000000000000000000000000000000000000000000000000000000000000000000000000000000000000000000000000000000400408) ⟨by decide⟩ .refl).part (p := .setts) (by decide)
@[simp] theorem State.owlRec_sett (c k : Nat) (l : List Nat) : (s.owlRec c k l).sett = s.sett := (State.owlRec_moves (m := 0x20000000000000000020000000000000000000000000000000000000000100000000000000000000000000000000000000000000000000000000000000000000000000000000000000000000000000000000000000000000000000000000000000000000000000000400408) ⟨by decide⟩ .refl).part (p := .sett) (by decide)
@[simp] theorem State.owlRec_mtr (c k : Nat) (l : List Nat) : (s.owlRec c k l).mtr = s.mtr := (State.owlRec_moves (m := 0x20000000000000000020000000000000000000000000000000000000000100000000000000000000000000000000000000000000000000000000000000000000000000000000000000000000000000000000000000000000000000000000000000000000000000000400408) ⟨by decide⟩ .refl).part (p := .mtr) (by decide)
@[simp] theorem State.owlRec_cvus (c k : Nat) (l : List Nat) : (s.owlRec c k l).cvus = s.cvus := (State.owlRec_moves (m := 0x20000000000000000020000000000000000000000000000000000000000100000000000000000000000000000000000000000000000000000000000000000000000000000000000000000000000000000000000000000000000000000000000000000000000000000400408) ⟨by decide⟩ .refl).part (p := .cvus) (by decide)
@[simp] theorem State.owlRec_pwr (c k : Nat) (l : List Nat) : (s.owlRec c k l).pwr = s.pwr := (State.owlRec_moves (m := 0x20000000000000000020000000000000000000000000000000000000000100000000000000000000000000000000000000000000000000000000000000000000000000000000000000000000000000000000000000000000000000000000000000000000000000000400408) ⟨by decide⟩ .refl).part (p := .pwr) (by decide)
@[simp] theorem State.owlRec_dev (c k : Nat) (l : List Nat) : (s.owlRec c k l).dev = s.dev := (State.owlRec_moves (m := 0x20000000000000000020000000000000000000000000000000000000000100000000000000000000000000000000000000000000000000000000000000000000000000000000000000000000000000000000000000000000000000000000000000000000000000000400408) ⟨by decide⟩ .refl).part (p := .dev) (by decide)

/-! ### owlTrig -/

@[simp] theorem State.owlTrig_pending (b : Nat) : (s.owlTrig b).pending = s.pending := (State.owlTrig_moves (m := 0x200000000000000000e0800000000000000000000000000000000000000100000000000000000000000000000000000000000000000000000000000000000000000000000000000000000000000000000000000000000000000000000000000000000000000000000400408) ⟨by decide⟩ .refl).pending
@[simp] theorem State.owlTrig_wf (b : Nat) (h : s.wf = true) : (s.owlTrig b).wf = true := (State.owlTrig_moves (m := 0x200000000000000000e0800000000000000000000000000000000000000100000000000000000000000000000000000000000000000000000000000000000000000000000000000000000000000000000000000000000000000000000000000000000000000000000400408) ⟨by decide⟩ .refl).wf h
@[simp] theorem State.owlTrig_get (b : Nat) (h : s.wf = true) (f : Fld) (i j : Nat) (hf : touches 0x200000000000000000e0800000000000000000000000000000000000000100000000000000000000000000000000000000000000000000000000000000000000000000000000000000000000000000000000000000000000000000000000000000000000000000000400408 f = false) :
    (s.owlTrig b).get f i j = s.get f i j := (State.owlTrig_moves (m := 0x200000000000000000e0800000000000000000000000000000000000000100000000000000000000000000000000000000000000000000000000000000000000000000000000000000000000000000000000000000000000000000000000000000000000000000000400408) ⟨by decide⟩ .refl).get h (by decide) hf i j
@[simp] theorem State.owlTrig_mem (b : Nat) : (s.owlTrig b).mem = s.mem := (State.owlTrig_moves (m := 0x200000000000000000e0800000000000000000000000000000000000000100000000000000000000000000000000000000000000000000000000000000000000000000000000000000000000000000000000000000000000000000000000000000000000000000000400408) ⟨by decide⟩ .refl).mem_eq (by decide)
@[simp] theorem State.owlTrig_ts (b : Nat) : (s.owlTrig b).ts = s.ts := (State.owlTrig_moves (m := 0x200000000000000000e0800000000000000000000000000000000000000100000000000000000000000000000000000000000000000000000000000000000000000000000000000000000000000000000000000000000000000000000000000000000000000000000400408) ⟨by decide⟩ .refl).part (p := .ts) (by decide)
@[simp] theorem State.owlTrig_free (b : Nat) : (s.owlTrig b).free = s.free := (State.owlTrig_moves (m := 0x200000000000000000e0800000000000000000000000000000000000000100000000000000000000000000000000000000000000000000000000000000000000000000000000000000000000000000000000000000000000000000000000000000000000000000000400408) ⟨by decide⟩ .refl).part (p := .free) (by decide)
@[simp] theorem State.owlTrig_inflight (b : Nat) : (s.owlTrig b).inflight = s.inflight := (State.owlTrig_moves (m := 0x200000000000000000e0800000000000000000000000000000000000000100000000000000000000000000000000000000000000000000000000000000000000000000000000000000000000000000000000000000000000000000000000000000000000000000000400408) ⟨by decide⟩ .refl).part (p := .inflight) (by decide)
@[simp] theorem State.owlTrig_ports (b : Nat) : (s.owlTrig b).ports = s.ports := (State.owlTrig_moves (m := 0x200000000000000000e0800000000000000000000000000000000000000100000000000000000000000000000000000000000000000000000000000000000000000000000000000000000000000000000000000000000000000000000000000000000000000000000400408) ⟨by decide⟩ .refl).part (p := .ports) (by decide)
@[simp] theorem State.owlTrig_cvb (b : Nat) : (s.owlTrig b).cvb = s.cvb := (State.owlTrig_moves (m := 0x200000000000000000e0800000000000000000000000000000000000000100000000000000000000000000000000000000000000000000000000000000000000000000000000000000000000000000000000000000000000000000000000000000000000000000000400408) ⟨by decide⟩ .refl).part (p := .cvb) (by decide)
@[simp] theorem State.owlTrig_pos (b : Nat) : (s.owlTrig b).pos = s.pos := (State.owlTrig_moves (m := 0x200000000000000000e0800000000000000000000000000000000000000100000000000000000000000000000000000000000000000000000000000000000000000000000000000000000000000000000000000000000000000000000000000000000000000000000400408) ⟨by decide⟩ .refl).part (p := .pos) (by decide)
@[simp] theorem State.owlTrig_gen (b : Nat) : (s.owlTrig b).gen = s.gen := (State.owlTrig_moves (m := 0x200000000000000000e0800000000000000000000000000000000000000100000000000000000000000000000000000000000000000000000000000000000000000000000000000000000000000000000000000000000000000000000000000000000000000000000400408) ⟨by decide⟩ .refl).part (p := .gen) (by decide)
@[simp] theorem State.owlTrig_chans (b : Nat) : (s.owlTrig b).chans = s.chans := (State.owlTrig_moves (m := 0x200000000000000000e0800000000000000000000000000000000000000100000000000000000000000000000000000000000000000000000000000000000000000000000000000000000000000000000000000000000000000000000000000000000000000000000400408) ⟨by decide⟩ .refl).part (p := .chans) (by decide)
@[simp] theorem State.owlTrig_sps (b : Nat) : (s.owlTrig b).sps = s.sps := (State.owlTrig_moves (m := 0x200000000000000000e0800000000000000000000000000000000000000100000000000000000000000000000000000000000000000000000000000000000000000000000000000000000000000000000000000000000000000000000000000000000000000000000400408) ⟨by decide⟩ .refl).part (p := .sps) (by decide)
@[simp] theorem State.owlTrig_links (b : Nat) : (s.owlTrig b).links = s.links := (State.owlTrig_moves (m := 0x200000000000000000e0800000000000000000000000000000000000000100000000000000000000000000000000000000000000000000000000000000000000000000000000000000000000000000000000000000000000000000000000000000000000000000000400408) ⟨by decide⟩ .refl).part (p := .links) (by decide)
@[simp] theorem State.owlTrig_bdg (b : Nat) : (s.owlTrig b).bdg = s.bdg := (State.owlTrig_moves (m := 0x200000000000000000e0800000000000000000000000000000000000000100000000000000000000000000000000000000000000000000000000000000000000000000000000000000000000000000000000000000000000000000000000000000000000000000000400408) ⟨by decide⟩ .refl).part (p := .bdg) (by decide)
@[simp] theorem State.owlTrig_chuck (b : Nat) : (s.owlTrig b).chuck = s.chuck := (State.owlTrig_moves (m := 0x200000000000000000e0800000000000000000000000000000000000000100000000000000000000000000000000000000000000000000000000000000000000000000000000000000000000000000000000000000000000000000000000000000000000000000000400408) ⟨by decide⟩ .refl).part (p := .chuck) (by decide)
@[simp] theorem State.owlTrig_landing (b : Nat) : (s.owlTrig b).landing = s.landing := (State.owlTrig_moves (m := 0x200000000000000000e0800000000000000000000000000000000000000100000000000000000000000000000000000000000000000000000000000000000000000000000000000000000000000000000000000000000000000000000000000000000000000000000400408) ⟨by decide⟩ .refl).part (p := .landing) (by decide)
@[simp] theorem State.owlTrig_tls (b : Nat) : (s.owlTrig b).tls = s.tls := (State.owlTrig_moves (m := 0x200000000000000000e0800000000000000000000000000000000000000100000000000000000000000000000000000000000000000000000000000000000000000000000000000000000000000000000000000000000000000000000000000000000000000000000400408) ⟨by decide⟩ .refl).part (p := .tls) (by decide)
@[simp] theorem State.owlTrig_fpl (b : Nat) : (s.owlTrig b).fpl = s.fpl := (State.owlTrig_moves (m := 0x200000000000000000e0800000000000000000000000000000000000000100000000000000000000000000000000000000000000000000000000000000000000000000000000000000000000000000000000000000000000000000000000000000000000000000000400408) ⟨by decide⟩ .refl).part (p := .fpl) (by decide)
@[simp] theorem State.owlTrig_net (b : Nat) : (s.owlTrig b).net = s.net := (State.owlTrig_moves (m := 0x200000000000000000e0800000000000000000000000000000000000000100000000000000000000000000000000000000000000000000000000000000000000000000000000000000000000000000000000000000000000000000000000000000000000000000000400408) ⟨by decide⟩ .refl).part (p := .net) (by decide)
@[simp] theorem State.owlTrig_setts (b : Nat) : (s.owlTrig b).setts = s.setts := (State.owlTrig_moves (m := 0x200000000000000000e0800000000000000000000000000000000000000100000000000000000000000000000000000000000000000000000000000000000000000000000000000000000000000000000000000000000000000000000000000000000000000000000400408) ⟨by decide⟩ .refl).part (p := .setts) (by decide)
@[simp] theorem State.owlTrig_sett (b : Nat) : (s.owlTrig b).sett = s.sett := (State.owlTrig_moves (m := 0x200000000000000000e0800000000000000000000000000000000000000100000000000000000000000000000000000000000000000000000000000000000000000000000000000000000000000000000000000000000000000000000000000000000000000000000400408) ⟨by decide⟩ .refl).part (p := .sett) (by decide)
@[simp] theorem State.owlTrig_mtr (b : Nat) : (s.owlTrig b).mtr = s.mtr := (State.owlTrig_moves (m := 0x200000000000000000e0800000000000000000000000000000000000000100000000000000000000000000000000000000000000000000000000000000000000000000000000000000000000000000000000000000000000000000000000000000000000000000000400408) ⟨by decide⟩ .refl).part (p := .mtr) (by decide)
@[simp] theorem State.owlTrig_cvus (b : Nat) : (s.owlTrig b).cvus = s.cvus := (State.owlTrig_moves (m := 0x200000000000000000e0800000000000000000000000000000000000000100000000000000000000000000000000000000000000000000000000000000000000000000000000000000000000000000000000000000000000000000000000000000000000000000000400408) ⟨by decide⟩ .refl).part (p := .cvus) (by decide)
@[simp] theorem State.owlTrig_pwr (b : Nat) : (s.owlTrig b).pwr = s.pwr := (State.owlTrig_moves (m := 0x200000000000000000e0800000000000000000000000000000000000000100000000000000000000000000000000000000000000000000000000000000000000000000000000000000000000000000000000000000000000000000000000000000000000000000000400408) ⟨by decide⟩ .refl).part (p := .pwr) (by decide)
@[simp] theorem State.owlTrig_dev (b : Nat) : (s.owlTrig b).dev = s.dev := (State.owlTrig_moves (m := 0x200000000000000000e0800000000000000000000000000000000000000100000000000000000000000000000000000000000000000000000000000000000000000000000000000000000000000000000000000000000000000000000000000000000000000000000400408) ⟨by decide⟩ .refl).part (p := .dev) (by decide)

/-! ### logEv -/

@[simp] theorem State.logEv_pending (c : Nat) (l : List Nat) : (s.logEv c l).pending = s.pending := (State.logEv_moves (m := 0x200000000000000000e0800000000000000000000000000000000000000100000000000000000000000000000000000000000000000000000000000000000000000000000000000000000000000000000000000000000000000000000000000000000000000000000400408) ⟨by decide⟩ .refl).pending
@[simp] theorem State.logEv_wf (c : Nat) (l : List Nat) (h : s.wf = true) : (s.logEv c l).wf = true := (State.logEv_moves (m := 0x200000000000000000e0800000000000000000000000000000000000000100000000000000000000000000000000000000000000000000000000000000000000000000000000000000000000000000000000000000000000000000000000000000000000000000000400408) ⟨by decide⟩ .refl).wf h
@[simp] theorem State.logEv_get (c : Nat) (l : List Nat) (h : s.wf = true) (f : Fld) (i j : Nat) (hf : touches 0x200000000000000000e0800000000000000000000000000000000000000100000000000000000000000000000000000000000000000000000000000000000000000000000000000000000000000000000000000000000000000000000000000000000000000000000400408 f = false) :
    (s.logEv c l).get f i j = s.get f i j := (State.logEv_moves (m := 0x200000000000000000e0800000000000000000000000000000000000000100000000000000000000000000000000000000000000000000000000000000000000000000000000000000000000000000000000000000000000000000000000000000000000000000000400408) ⟨by decide⟩ .refl).get h (by decide) hf i j
@[simp] theorem State.logEv_mem (c : Nat) (l : List Nat) : (s.logEv c l).mem = s.mem := (State.logEv_moves (m := 0x200000000000000000e0800000000000000000000000000000000000000100000000000000000000000000000000000000000000000000000000000000000000000000000000000000000000000000000000000000000000000000000000000000000000000000000400408) ⟨by decide⟩ .refl).mem_eq (by decide)
@[simp] theorem State.logEv_ts (c : Nat) (l : List Nat) : (s.logEv c l).ts = s.ts := (State.logEv_moves (m := 0x200000000000000000e0800000000000000000000000000000000000000100000000000000000000000000000000000000000000000000000000000000000000000000000000000000000000000000000000000000000000000000000000000000000000000000000400408) ⟨by decide⟩ .refl).part (p := .ts) (by decide)
@[simp] theorem State.logEv_free (c : Nat) (l : List Nat) : (s.logEv c l).free = s.free := (State.logEv_moves (m := 0x200000000000000000e0800000000000000000000000000000000000000100000000000000000000000000000000000000000000000000000000000000000000000000000000000000000000000000000000000000000000000000000000000000000000000000000400408) ⟨by decide⟩ .refl).part (p := .free) (by decide)
@[simp] theorem State.logEv_inflight (c : Nat) (l : List Nat) : (s.logEv c l).inflight = s.inflight := (State.logEv_moves (m := 0x200000000000000000e0800000000000000000000000000000000000000100000000000000000000000000000000000000000000000000000000000000000000000000000000000000000000000000000000000000000000000000000000000000000000000000000400408) ⟨by decide⟩ .refl).part (p := .inflight) (by decide)
@[simp] theorem State.logEv_ports (c : Nat) (l : List Nat) : (s.logEv c l).ports = s.ports := (State.logEv_moves (m := 0x200000000000000000e0800000000000000000000000000000000000000100000000000000000000000000000000000000000000000000000000000000000000000000000000000000000000000000000000000000000000000000000000000000000000000000000400408) ⟨by decide⟩ .refl).part (p := .ports) (by decide)
@[simp] theorem State.logEv_cvb (c : Nat) (l : List Nat) : (s.logEv c l).cvb = s.cvb := (State.logEv_moves (m := 0x200000000000000000e0800000000000000000000000000000000000000100000000000000000000000000000000000000000000000000000000000000000000000000000000000000000000000000000000000000000000000000000000000000000000000000000400408) ⟨by decide⟩ .refl).part (p := .cvb) (by decide)
@[simp] theorem State.logEv_pos (c : Nat) (l : List Nat) : (s.logEv c l).pos = s.pos := (State.logEv_moves (m := 0x200000000000000000e0800000000000000000000000000000000000000100000000000000000000000000000000000000000000000000000000000000000000000000000000000000000000000000000000000000000000000000000000000000000000000000000400408) ⟨by decide⟩ .refl).part (p := .pos) (by decide)
@[simp] theorem State.logEv_gen (c : Nat) (l : List Nat) : (s.logEv c l).gen = s.gen := (State.logEv_moves (m := 0x200000000000000000e0800000000000000000000000000000000000000100000000000000000000000000000000000000000000000000000000000000000000000000000000000000000000000000000000000000000000000000000000000000000000000000000400408) ⟨by decide⟩ .refl).part (p := .gen) (by decide)
@[simp] theorem State.logEv_chans (c : Nat) (l : List Nat) : (s.logEv c l).chans = s.chans := (State.logEv_moves (m := 0x200000000000000000e0800000000000000000000000000000000000000100000000000000000000000000000000000000000000000000000000000000000000000000000000000000000000000000000000000000000000000000000000000000000000000000000400408) ⟨by decide⟩ .refl).part (p := .chans) (by decide)
@[simp] theorem State.logEv_sps (c : Nat) (l : List Nat) : (s.logEv c l).sps = s.sps := (State.logEv_moves (m := 0x200000000000000000e0800000000000000000000000000000000000000100000000000000000000000000000000000000000000000000000000000000000000000000000000000000000000000000000000000000000000000000000000000000000000000000000400408) ⟨by decide⟩ .refl).part (p := .sps) (by decide)
@[simp] theorem State.logEv_links (c : Nat) (l : List Nat) : (s.logEv c l).links = s.links := (State.logEv_moves (m := 0x200000000000000000e0800000000000000000000000000000000000000100000000000000000000000000000000000000000000000000000000000000000000000000000000000000000000000000000000000000000000000000000000000000000000000000000400408) ⟨by decide⟩ .refl).part (p := .links) (by decide)
@[simp] theorem State.logEv_bdg (c : Nat) (l : List Nat) : (s.logEv c l).bdg = s.bdg := (State.logEv_moves (m := 0x200000000000000000e0800000000000000000000000000000000000000100000000000000000000000000000000000000000000000000000000000000000000000000000000000000000000000000000000000000000000000000000000000000000000000000000400408) ⟨by decide⟩ .refl).part (p := .bdg) (by decide)
@[simp] theorem State.logEv_chuck (c : Nat) (l : List Nat) : (s.logEv c l).chuck = s.chuck := (State.logEv_moves (m := 0x200000000000000000e0800000000000000000000000000000000000000100000000000000000000000000000000000000000000000000000000000000000000000000000000000000000000000000000000000000000000000000000000000000000000000000000400408) ⟨by decide⟩ .refl).part (p := .chuck) (by decide)
@[simp] theorem State.logEv_landing (c : Nat) (l : List Nat) : (s.logEv c l).landing = s.landing := (State.logEv_moves (m := 0x200000000000000000e0800000000000000000000000000000000000000100000000000000000000000000000000000000000000000000000000000000000000000000000000000000000000000000000000000000000000000000000000000000000000000000000400408) ⟨by decide⟩ .refl).part (p := .landing) (by decide)
@[simp] theorem State.logEv_tls (c : Nat) (l : List Nat) : (s.logEv c l).tls = s.tls := (State.logEv_moves (m := 0x200000000000000000e0800000000000000000000000000000000000000100000000000000000000000000000000000000000000000000000000000000000000000000000000000000000000000000000000000000000000000000000000000000000000000000000400408) ⟨by decide⟩ .refl).part (p := .tls) (by decide)
@[simp] theorem State.logEv_fpl (c : Nat) (l : List Nat) : (s.logEv c l).fpl = s.fpl := (State.logEv_moves (m := 0x200000000000000000e0800000000000000000000000000000000000000100000000000000000000000000000000000000000000000000000000000000000000000000000000000000000000000000000000000000000000000000000000000000000000000000000400408) ⟨by decide⟩ .refl).part (p := .fpl) (by decide)
@[simp] theorem State.logEv_net (c : Nat) (l : List Nat) : (s.logEv c l).net = s.net := (State.logEv_moves (m := 0x200000000000000000e0800000000000000000000000000000000000000100000000000000000000000000000000000000000000000000000000000000000000000000000000000000000000000000000000000000000000000000000000000000000000000000000400408) ⟨by decide⟩ .refl).part (p := .net) (by decide)
@[simp] theorem State.logEv_setts (c : Nat) (l : List Nat) : (s.logEv c l).setts = s.setts := (State.logEv_moves (m := 0x200000000000000000e0800000000000000000000000000000000000000100000000000000000000000000000000000000000000000000000000000000000000000000000000000000000000000000000000000000000000000000000000000000000000000000000400408) ⟨by decide⟩ .refl).part (p := .setts) (by decide)
@[simp] theorem State.logEv_sett (c : Nat) (l : List Nat) : (s.logEv c l).sett = s.sett := (State.logEv_moves (m := 0x200000000000000000e0800000000000000000000000000000000000000100000000000000000000000000000000000000000000000000000000000000000000000000000000000000000000000000000000000000000000000000000000000000000000000000000400408) ⟨by decide⟩ .refl).part (p := .sett) (by decide)
@[simp] theorem State.logEv_mtr (c : Nat) (l : List Nat) : (s.logEv c l).mtr = s.mtr := (State.logEv_moves (m := 0x200000000000000000e0800000000000000000000000000000000000000100000000000000000000000000000000000000000000000000000000000000000000000000000000000000000000000000000000000000000000000000000000000000000000000000000400408) ⟨by decide⟩ .refl).part (p := .mtr) (by decide)
@[simp] theorem State.logEv_cvus (c : Nat) (l : List Nat) : (s.logEv c l).cvus = s.cvus := (State.logEv_moves (m := 0x200000000000000000e0800000000000000000000000000000000000000100000000000000000000000000000000000000000000000000000000000000000000000000000000000000000000000000000000000000000000000000000000000000000000000000000400408) ⟨by decide⟩ .refl).part (p := .cvus) (by decide)
@[simp] theorem State.logEv_pwr (c : Nat) (l : List Nat) : (s.logEv c l).pwr = s.pwr := (State.logEv_moves (m := 0x200000000000000000e0800000000000000000000000000000000000000100000000000000000000000000000000000000000000000000000000000000000000000000000000000000000000000000000000000000000000000000000000000000000000000000000400408) ⟨by decide⟩ .refl).part (p := .pwr) (by decide)
@[simp] theorem State.logEv_dev (c : Nat) (l : List Nat) : (s.logEv c l).dev = s.dev := (State.logEv_moves (m := 0x200000000000000000e0800000000000000000000000000000000000000100000000000000000000000000000000000000000000000000000000000000000000000000000000000000000000000000000000000000000000000000000000000000000000000000000400408) ⟨by decide⟩ .refl).part (p := .dev) (by decide)

/-! ### logRate -/

@[simp] theorem State.logRate_pending (c k p : Nat) (l : List Nat) : (s.logRate c k p l).pending = s.pending := (State.logRate_moves (m := 0x200000000000000000e0800000000000000000000000000000000000000100000000000000000000000000000000000000000000000000000000000000000000000000000000000000000000000000000000000000000000000000000000000000000000000000000400408) ⟨by decide⟩ .refl).pending
@[simp] theorem State.logRate_wf (c k p : Nat) (l : List Nat) (h : s.wf = true) : (s.logRate c k p l).wf = true := (State.logRate_moves (m := 0x200000000000000000e0800000000000000000000000000000000000000100000000000000000000000000000000000000000000000000000000000000000000000000000000000000000000000000000000000000000000000000000000000000000000000000000400408) ⟨by decide⟩ .refl).wf h
@[simp] theorem State.logRate_get (c k p : Nat) (l : List Nat) (h : s.wf = true) (f : Fld) (i j : Nat) (hf : touches 0x200000000000000000e0800000000000000000000000000000000000000100000000000000000000000000000000000000000000000000000000000000000000000000000000000000000000000000000000000000000000000000000000000000000000000000000400408 f = false) :
    (s.logRate c k p l).get f i j = s.get f i j := (State.logRate_moves (m := 0x200000000000000000e0800000000000000000000000000000000000000100000000000000000000000000000000000000000000000000000000000000000000000000000000000000000000000000000000000000000000000000000000000000000000000000000400408) ⟨by decide⟩ .refl).get h (by decide) hf i j
@[simp] theorem State.logRate_mem (c k p : Nat) (l : List Nat) : (s.logRate c k p l).mem = s.mem := (State.logRate_moves (m := 0x200000000000000000e0800000000000000000000000000000000000000100000000000000000000000000000000000000000000000000000000000000000000000000000000000000000000000000000000000000000000000000000000000000000000000000000400408) ⟨by decide⟩ .refl).mem_eq (by decide)
@[simp] theorem State.logRate_ts (c k p : Nat) (l : List Nat) : (s.logRate c k p l).ts = s.ts := (State.logRate_moves (m := 0x200000000000000000e0800000000000000000000000000000000000000100000000000000000000000000000000000000000000000000000000000000000000000000000000000000000000000000000000000000000000000000000000000000000000000000000400408) ⟨by decide⟩ .refl).part (p := .ts) (by decide)
@[simp] theorem State.logRate_free (c k p : Nat) (l : List Nat) : (s.logRate c k p l).free = s.free := (State.logRate_moves (m := 0x200000000000000000e0800000000000000000000000000000000000000100000000000000000000000000000000000000000000000000000000000000000000000000000000000000000000000000000000000000000000000000000000000000000000000000000400408) ⟨by decide⟩ .refl).part (p := .free) (by decide)
@[simp] theorem State.logRate_inflight (c k p : Nat) (l : List Nat) : (s.logRate c k p l).inflight = s.inflight := (State.logRate_moves (m := 0x200000000000000000e0800000000000000000000000000000000000000100000000000000000000000000000000000000000000000000000000000000000000000000000000000000000000000000000000000000000000000000000000000000000000000000000400408) ⟨by decide⟩ .refl).part (p := .inflight) (by decide)
@[simp] theorem State.logRate_ports (c k p : Nat) (l : List Nat) : (s.logRate c k p l).ports = s.ports := (State.logRate_moves (m := 0x200000000000000000e0800000000000000000000000000000000000000100000000000000000000000000000000000000000000000000000000000000000000000000000000000000000000000000000000000000000000000000000000000000000000000000000400408) ⟨by decide⟩ .refl).part (p := .ports) (by decide)
@[simp] theorem State.logRate_cvb (c k p : Nat) (l : List Nat) : (s.logRate c k p l).cvb = s.cvb := (State.logRate_moves (m := 0x200000000000000000e0800000000000000000000000000000000000000100000000000000000000000000000000000000000000000000000000000000000000000000000000000000000000000000000000000000000000000000000000000000000000000000000400408) ⟨by decide⟩ .refl).part (p := .cvb) (by decide)
@[simp] theorem State.logRate_pos (c k p : Nat) (l : List Nat) : (s.logRate c k p l).pos = s.pos := (State.logRate_moves (m := 0x200000000000000000e0800000000000000000000000000000000000000100000000000000000000000000000000000000000000000000000000000000000000000000000000000000000000000000000000000000000000000000000000000000000000000000000400408) ⟨by decide⟩ .refl).part (p := .pos) (by decide)
@[simp] theorem State.logRate_gen (c k p : Nat) (l : List Nat) : (s.logRate c k p l).gen = s.gen := (State.logRate_moves (m := 0x200000000000000000e0800000000000000000000000000000000000000100000000000000000000000000000000000000000000000000000000000000000000000000000000000000000000000000000000000000000000000000000000000000000000000000000400408) ⟨by decide⟩ .refl).part (p := .gen) (by decide)
@[simp] theorem State.logRate_chans (c k p : Nat) (l : List Nat) : (s.logRate c k p l).chans = s.chans := (State.logRate_moves (m := 0x200000000000000000e0800000000000000000000000000000000000000100000000000000000000000000000000000000000000000000000000000000000000000000000000000000000000000000000000000000000000000000000000000000000000000000000400408) ⟨by decide⟩ .refl).part (p := .chans) (by decide)
@[simp] theorem State.logRate_sps (c k p : Nat) (l : List Nat) : (s.logRate c k p l).sps = s.sps := (State.logRate_moves (m := 0x200000000000000000e0800000000000000000000000000000000000000100000000000000000000000000000000000000000000000000000000000000000000000000000000000000000000000000000000000000000000000000000000000000000000000000000400408) ⟨by decide⟩ .refl).part (p := .sps) (by decide)
@[simp] theorem State.logRate_links (c k p : Nat) (l : List Nat) : (s.logRate c k p l).links = s.links := (State.logRate_moves (m := 0x200000000000000000e0800000000000000000000000000000000000000100000000000000000000000000000000000000000000000000000000000000000000000000000000000000000000000000000000000000000000000000000000000000000000000000000400408) ⟨by decide⟩ .refl).part (p := .links) (by decide)
@[simp] theorem State.logRate_bdg (c k p : Nat) (l : List Nat) : (s.logRate c k p l).bdg = s.bdg := (State.logRate_moves (m := 0x200000000000000000e0800000000000000000000000000000000000000100000000000000000000000000000000000000000000000000000000000000000000000000000000000000000000000000000000000000000000000000000000000000000000000000000400408) ⟨by decide⟩ .refl).part (p := .bdg) (by decide)
@[simp] theorem State.logRate_chuck (c k p : Nat) (l : List Nat) : (s.logRate c k p l).chuck = s.chuck := (State.logRate_moves (m := 0x200000000000000000e0800000000000000000000000000000000000000100000000000000000000000000000000000000000000000000000000000000000000000000000000000000000000000000000000000000000000000000000000000000000000000000000400408) ⟨by decide⟩ .refl).part (p := .chuck) (by decide)
@[simp] theorem State.logRate_landing (c k p : Nat) (l : List Nat) : (s.logRate c k p l).landing = s.landing := (State.logRate_moves (m := 0x200000000000000000e0800000000000000000000000000000000000000100000000000000000000000000000000000000000000000000000000000000000000000000000000000000000000000000000000000000000000000000000000000000000000000000000400408) ⟨by decide⟩ .refl).part (p := .landing) (by decide)
@[simp] theorem State.logRate_tls (c k p : Nat) (l : List Nat) : (s.logRate c k p l).tls = s.tls := (State.logRate_moves (m := 0x200000000000000000e0800000000000000000000000000000000000000100000000000000000000000000000000000000000000000000000000000000000000000000000000000000000000000000000000000000000000000000000000000000000000000000000400408) ⟨by decide⟩ .refl).part (p := .tls) (by decide)
@[simp] theorem State.logRate_fpl (c k p : Nat) (l : List Nat) : (s.logRate c k p l).fpl = s.fpl := (State.logRate_moves (m := 0x200000000000000000e0800000000000000000000000000000000000000100000000000000000000000000000000000000000000000000000000000000000000000000000000000000000000000000000000000000000000000000000000000000000000000000000400408) ⟨by decide⟩ .refl).part (p := .fpl) (by decide)
@[simp] theorem State.logRate_net (c k p : Nat) (l : List Nat) : (s.logRate c k p l).net = s.net := (State.logRate_moves (m := 0x200000000000000000e0800000000000000000000000000000000000000100000000000000000000000000000000000000000000000000000000000000000000000000000000000000000000000000000000000000000000000000000000000000000000000000000400408) ⟨by decide⟩ .refl).part (p := .net) (by decide)
@[simp] theorem State.logRate_setts (c k p : Nat) (l : List Nat) : (s.logRate c k p l).setts = s.setts := (State.logRate_moves (m := 0x200000000000000000e0800000000000000000000000000000000000000100000000000000000000000000000000000000000000000000000000000000000000000000000000000000000000000000000000000000000000000000000000000000000000000000000400408) ⟨by decide⟩ .refl).part (p := .setts) (by decide)
@[simp] theorem State.logRate_sett (c k p : Nat) (l : List Nat) : (s.logRate c k p l).sett = s.sett := (State.logRate_moves (m := 0x200000000000000000e0800000000000000000000000000000000000000100000000000000000000000000000000000000000000000000000000000000000000000000000000000000000000000000000000000000000000000000000000000000000000000000000400408) ⟨by decide⟩ .refl).part (p := .sett) (by decide)
@[simp] theorem State.logRate_mtr (c k p : Nat) (l : List Nat) : (s.logRate c k p l).mtr = s.mtr := (State.logRate_moves (m := 0x200000000000000000e0800000000000000000000000000000000000000100000000000000000000000000000000000000000000000000000000000000000000000000000000000000000000000000000000000000000000000000000000000000000000000000000400408) ⟨by decide⟩ .refl).part (p := .mtr) (by decide)
@[simp] theorem State.logRate_cvus (c k p : Nat) (l : List Nat) : (s.logRate c k p l).cvus = s.cvus := (State.logRate_moves (m := 0x200000000000000000e0800000000000000000000000000000000000000100000000000000000000000000000000000000000000000000000000000000000000000000000000000000000000000000000000000000000000000000000000000000000000000000000400408) ⟨by decide⟩ .refl).part (p := .cvus) (by decide)
@[simp] theorem State.logRate_pwr (c k p : Nat) (l : List Nat) : (s.logRate c k p l).pwr = s.pwr := (State.logRate_moves (m := 0x200000000000000000e0800000000000000000000000000000000000000100000000000000000000000000000000000000000000000000000000000000000000000000000000000000000000000000000000000000000000000000000000000000000000000000000400408) ⟨by decide⟩ .refl).part (p := .pwr) (by decide)
@[simp] theorem State.logRate_dev (c k p : Nat) (l : List Nat) : (s.logRate c k p l).dev = s.dev := (State.logRate_moves (m := 0x200000000000000000e0800000000000000000000000000000000000000100000000000000000000000000000000000000000000000000000000000000000000000000000000000000000000000000000000000000000000000000000000000000000000000000000400408) ⟨by decide⟩ .refl).part (p := .dev) (by decide)

/-! ### logLatch -/

@[simp] theorem State.logLatch_pending (c k : Nat) (l : List Nat) : (s.logLatch c k l).pending = s.pending := (State.logLatch_moves (m := 0x200000000000000000e0800000000000000000000000000000000000000100000000000000000000000000000000000000000000000000000000000000000000000000000000000000000000000000000000000000000000000000000000000000000000000000000400408) ⟨by decide⟩ .refl).pending
@[simp] theorem State.logLatch_wf (c k : Nat) (l : List Nat) (h : s.wf = true) : (s.logLatch c k l).wf = true := (State.logLatch_moves (m := 0x200000000000000000e0800000000000000000000000000000000000000100000000000000000000000000000000000000000000000000000000000000000000000000000000000000000000000000000000000000000000000000000000000000000000000000000400408) ⟨by decide⟩ .refl).wf h
@[simp] theorem State.logLatch_get (c k : Nat) (l : List Nat) (h : s.wf = true) (f : Fld) (i j : Nat) (hf : touches 0x200000000000000000e0800000000000000000000000000000000000000100000000000000000000000000000000000000000000000000000000000000000000000000000000000000000000000000000000000000000000000000000000000000000000000000000400408 f = false) :
    (s.logLatch c k l).get f i j = s.get f i j := (State.logLatch_moves (m := 0x200000000000000000e0800000000000000000000000000000000000000100000000000000000000000000000000000000000000000000000000000000000000000000000000000000000000000000000000000000000000000000000000000000000000000000000400408) ⟨by decide⟩ .refl).get h (by decide) hf i j
@[simp] theorem State.logLatch_mem (c k : Nat) (l : List Nat) : (s.logLatch c k l).mem = s.mem := (State.logLatch_moves (m := 0x200000000000000000e0800000000000000000000000000000000000000100000000000000000000000000000000000000000000000000000000000000000000000000000000000000000000000000000000000000000000000000000000000000000000000000000400408) ⟨by decide⟩ .refl).mem_eq (by decide)
@[simp] theorem State.logLatch_ts (c k : Nat) (l : List Nat) : (s.logLatch c k l).ts = s.ts := (State.logLatch_moves (m := 0x200000000000000000e0800000000000000000000000000000000000000100000000000000000000000000000000000000000000000000000000000000000000000000000000000000000000000000000000000000000000000000000000000000000000000000000400408) ⟨by decide⟩ .refl).part (p := .ts) (by decide)
@[simp] theorem State.logLatch_free (c k : Nat) (l : List Nat) : (s.logLatch c k l).free = s.free := (State.logLatch_moves (m := 0x200000000000000000e0800000000000000000000000000000000000000100000000000000000000000000000000000000000000000000000000000000000000000000000000000000000000000000000000000000000000000000000000000000000000000000000400408) ⟨by decide⟩ .refl).part (p := .free) (by decide)
@[simp] theorem State.logLatch_inflight (c k : Nat) (l : List Nat) : (s.logLatch c k l).inflight = s.inflight := (State.logLatch_moves (m := 0x200000000000000000e0800000000000000000000000000000000000000100000000000000000000000000000000000000000000000000000000000000000000000000000000000000000000000000000000000000000000000000000000000000000000000000000400408) ⟨by decide⟩ .refl).part (p := .inflight) (by decide)
@[simp] theorem State.logLatch_ports (c k : Nat) (l : List Nat) : (s.logLatch c k l).ports = s.ports := (State.logLatch_moves (m := 0x200000000000000000e0800000000000000000000000000000000000000100000000000000000000000000000000000000000000000000000000000000000000000000000000000000000000000000000000000000000000000000000000000000000000000000000400408) ⟨by decide⟩ .refl).part (p := .ports) (by decide)
@[simp] theorem State.logLatch_cvb (c k : Nat) (l : List Nat) : (s.logLatch c k l).cvb = s.cvb := (State.logLatch_moves (m := 0x200000000000000000e0800000000000000000000000000000000000000100000000000000000000000000000000000000000000000000000000000000000000000000000000000000000000000000000000000000000000000000000000000000000000000000000400408) ⟨by decide⟩ .refl).part (p := .cvb) (by decide)
@[simp] theorem State.logLatch_pos (c k : Nat) (l : List Nat) : (s.logLatch c k l).pos = s.pos := (State.logLatch_moves (m := 0x200000000000000000e0800000000000000000000000000000000000000100000000000000000000000000000000000000000000000000000000000000000000000000000000000000000000000000000000000000000000000000000000000000000000000000000400408) ⟨by decide⟩ .refl).part (p := .pos) (by decide)
@[simp] theorem State.logLatch_gen (c k : Nat) (l : List Nat) : (s.logLatch c k l).gen = s.gen := (State.logLatch_moves (m := 0x200000000000000000e0800000000000000000000000000000000000000100000000000000000000000000000000000000000000000000000000000000000000000000000000000000000000000000000000000000000000000000000000000000000000000000000400408) ⟨by decide⟩ .refl).part (p := .gen) (by decide)
@[simp] theorem State.logLatch_chans (c k : Nat) (l : List Nat) : (s.logLatch c k l).chans = s.chans := (State.logLatch_moves (m := 0x200000000000000000e0800000000000000000000000000000000000000100000000000000000000000000000000000000000000000000000000000000000000000000000000000000000000000000000000000000000000000000000000000000000000000000000400408) ⟨by decide⟩ .refl).part (p := .chans) (by decide)
@[simp] theorem State.logLatch_sps (c k : Nat) (l : List Nat) : (s.logLatch c k l).sps = s.sps := (State.logLatch_moves (m := 0x200000000000000000e0800000000000000000000000000000000000000100000000000000000000000000000000000000000000000000000000000000000000000000000000000000000000000000000000000000000000000000000000000000000000000000000400408) ⟨by decide⟩ .refl).part (p := .sps) (by decide)
@[simp] theorem State.logLatch_links (c k : Nat) (l : List Nat) : (s.logLatch c k l).links = s.links := (State.logLatch_moves (m := 0x200000000000000000e0800000000000000000000000000000000000000100000000000000000000000000000000000000000000000000000000000000000000000000000000000000000000000000000000000000000000000000000000000000000000000000000400408) ⟨by decide⟩ .refl).part (p := .links) (by decide)
@[simp] theorem State.logLatch_bdg (c k : Nat) (l : List Nat) : (s.logLatch c k l).bdg = s.bdg := (State.logLatch_moves (m := 0x200000000000000000e0800000000000000000000000000000000000000100000000000000000000000000000000000000000000000000000000000000000000000000000000000000000000000000000000000000000000000000000000000000000000000000000400408) ⟨by decide⟩ .refl).part (p := .bdg) (by decide)
@[simp] theorem State.logLatch_chuck (c k : Nat) (l : List Nat) : (s.logLatch c k l).chuck = s.chuck := (State.logLatch_moves (m := 0x200000000000000000e0800000000000000000000000000000000000000100000000000000000000000000000000000000000000000000000000000000000000000000000000000000000000000000000000000000000000000000000000000000000000000000000400408) ⟨by decide⟩ .refl).part (p := .chuck) (by decide)
@[simp] theorem State.logLatch_landing (c k : Nat) (l : List Nat) : (s.logLatch c k l).landing = s.landing := (State.logLatch_moves (m := 0x200000000000000000e0800000000000000000000000000000000000000100000000000000000000000000000000000000000000000000000000000000000000000000000000000000000000000000000000000000000000000000000000000000000000000000000400408) ⟨by decide⟩ .refl).part (p := .landing) (by decide)
@[simp] theorem State.logLatch_tls (c k : Nat) (l : List Nat) : (s.logLatch c k l).tls = s.tls := (State.logLatch_moves (m := 0x200000000000000000e0800000000000000000000000000000000000000100000000000000000000000000000000000000000000000000000000000000000000000000000000000000000000000000000000000000000000000000000000000000000000000000000400408) ⟨by decide⟩ .refl).part (p := .tls) (by decide)
@[simp] theorem State.logLatch_fpl (c k : Nat) (l : List Nat) : (s.logLatch c k l).fpl = s.fpl := (State.logLatch_moves (m := 0x200000000000000000e0800000000000000000000000000000000000000100000000000000000000000000000000000000000000000000000000000000000000000000000000000000000000000000000000000000000000000000000000000000000000000000000400408) ⟨by decide⟩ .refl).part (p := .fpl) (by decide)
@[simp] theorem State.logLatch_net (c k : Nat) (l : List Nat) : (s.logLatch c k l).net = s.net := (State.logLatch_moves (m := 0x200000000000000000e0800000000000000000000000000000000000000100000000000000000000000000000000000000000000000000000000000000000000000000000000000000000000000000000000000000000000000000000000000000000000000000000400408) ⟨by decide⟩ .refl).part (p := .net) (by decide)
@[simp] theorem State.logLatch_setts (c k : Nat) (l : List Nat) : (s.logLatch c k l).setts = s.setts := (State.logLatch_moves (m := 0x200000000000000000e0800000000000000000000000000000000000000100000000000000000000000000000000000000000000000000000000000000000000000000000000000000000000000000000000000000000000000000000000000000000000000000000400408) ⟨by decide⟩ .refl).part (p := .setts) (by decide)
@[simp] theorem State.logLatch_sett (c k : Nat) (l : List Nat) : (s.logLatch c k l).sett = s.sett := (State.logLatch_moves (m := 0x200000000000000000e0800000000000000000000000000000000000000100000000000000000000000000000000000000000000000000000000000000000000000000000000000000000000000000000000000000000000000000000000000000000000000000000400408) ⟨by decide⟩ .refl).part (p := .sett) (by decide)
@[simp] theorem State.logLatch_mtr (c k : Nat) (l : List Nat) : (s.logLatch c k l).mtr = s.mtr := (State.logLatch_moves (m := 0x200000000000000000e0800000000000000000000000000000000000000100000000000000000000000000000000000000000000000000000000000000000000000000000000000000000000000000000000000000000000000000000000000000000000000000000400408) ⟨by decide⟩ .refl).part (p := .mtr) (by decide)
@[simp] theorem State.logLatch_cvus (c k : Nat) (l : List Nat) : (s.logLatch c k l).cvus = s.cvus := (State.logLatch_moves (m := 0x200000000000000000e0800000000000000000000000000000000000000100000000000000000000000000000000000000000000000000000000000000000000000000000000000000000000000000000000000000000000000000000000000000000000000000000400408) ⟨by decide⟩ .refl).part (p := .cvus) (by decide)
@[simp] theorem State.logLatch_pwr (c k : Nat) (l : List Nat) : (s.logLatch c k l).pwr = s.pwr := (State.logLatch_moves (m := 0x200000000000000000e0800000000000000000000000000000000000000100000000000000000000000000000000000000000000000000000000000000000000000000000000000000000000000000000000000000000000000000000000000000000000000000000400408) ⟨by decide⟩ .refl).part (p := .pwr) (by decide)
@[simp] theorem State.logLatch_dev (c k : Nat) (l : List Nat) : (s.logLatch c k l).dev = s.dev := (State.logLatch_moves (m := 0x200000000000000000e0800000000000000000000000000000000000000100000000000000000000000000000000000000000000000000000000000000000000000000000000000000000000000000000000000000000000000000000000000000000000000000000400408) ⟨by decide⟩ .refl).part (p := .dev) (by decide)

end Sys2Proof.Machine
end

