-- ==== Sys2Proof/Laws/Bus.lean ====
section
/-! SUPPORT. A register access resolved: which register an address is, and what the bus makes of a write that its apertures admit. -/

set_option Elab.async false

namespace Sys2Proof.Machine

/-! ### The registers of the commands that are register accesses -/

theorem regOf_SPn_SAT (n : Ch) : regOf (SPn_SAT_first_period.at n.val 0) =
    some (⟨"SPn_SAT", 0x40310050, 4, 0x10000, 1, 0, [SPn_SAT_first_period, SPn_SAT_first_stage, SPn_SAT_modulate, SPn_SAT_limit, SPn_SAT_control, SPn_SAT_correct, SPn_SAT_predict, SPn_SAT_transform]⟩, n.val, 0) := by
  fin_cases n <;> rfl

theorem regOf_SYS_PROFILE : regOf (SYS_PROFILE_pending.at 0 0) =
    some (⟨"SYS_PROFILE", 0x40000010, 1, 0x0, 1, 0, [SYS_PROFILE_pending, SYS_PROFILE_cause, SYS_PROFILE_request, SYS_PROFILE_active]⟩, 0, 0) := rfl

theorem regOf_SEQn_SWTRIG (n : Sq) : regOf (SEQn_SWTRIG_go.at n.val 0) =
    some (⟨"SEQn_SWTRIG", 0x40110018, 16, 0x200, 1, 0, [SEQn_SWTRIG_go]⟩, n.val, 0) := by
  fin_cases n <;> rfl

theorem regOf_SEQn_CTL (n : Sq) : regOf (SEQn_CTL_nsteps.at n.val 0) =
    some (⟨"SEQn_CTL", 0x40110000, 16, 0x200, 1, 0, [SEQn_CTL_nsteps, SEQn_CTL_policy, SEQn_CTL_en]⟩, n.val, 0) := by
  fin_cases n <;> rfl

theorem regOf_CVc_INJk (n : Cv) (k : Fin 4) : regOf (CVc_INJk_start.at n.val k.val) =
    some (⟨"CVc_INJk", 0x40100110, 8, 0x40, 4, 4, [CVc_INJk_start, CVc_INJk_urgent, CVc_INJk_shift, CVc_INJk_log2n, CVc_INJk_input]⟩, n.val, k.val) := by
  fin_cases n <;> fin_cases k <;> rfl

theorem regOf_CVc_CAL (n : Cv) : regOf (CVc_CAL_full_busy.at n.val 0) =
    some (⟨"CVc_CAL", 0x4010010c, 8, 0x40, 1, 0, [CVc_CAL_full_busy, CVc_CAL_bg_busy, CVc_CAL_ok, CVc_CAL_bg_slice, CVc_CAL_full]⟩, n.val, 0) := by
  fin_cases n <;> rfl

theorem regOf_PIFn_CTL (n : Ch) : regOf (PIFn_CTL_dir_inv.at n.val 0) =
    some (⟨"PIFn_CTL", 0x40180000, 4, 0x10000, 1, 0, [PIFn_CTL_dir_inv, PIFn_CTL_trig_sel, PIFn_CTL_src_restore, PIFn_CTL_fb_en, PIFn_CTL_z_corr, PIFn_CTL_z_en, PIFn_CTL_sec_src, PIFn_CTL_pri_src, PIFn_CTL_en]⟩, n.val, 0) := by
  fin_cases n <;> rfl

theorem regOf_CHn_CARR (n : Ch) : regOf (CHn_CARR_phase.at n.val 0) =
    some (⟨"CHn_CARR", 0x40240004, 4, 0x100, 1, 0, [CHn_CARR_phase, CHn_CARR_sync, CHn_CARR_rl, CHn_CARR_mode, CHn_CARR_en]⟩, n.val, 0) := by
  fin_cases n <;> rfl

theorem regOf_LEGk_CARR (n : Fin 4) : regOf (LEGk_CARR_phase.at (12 + n.val) 0) =
    some (⟨"LEGk_CARR", 0x40200020, 16, 0x40, 1, 0, [LEGk_CARR_phase, LEGk_CARR_sync_ch, LEGk_CARR_sync, LEGk_CARR_rl, LEGk_CARR_dmode, LEGk_CARR_mode, LEGk_CARR_src, LEGk_CARR_en]⟩, (12 + n.val), 0) := by
  have h : findReg regTable (LEGk_CARR_phase.at (12 + n.val) 0) =
      some (⟨"LEGk_CARR", 0x40200020, 16, 0x40, 1, 0, [LEGk_CARR_phase, LEGk_CARR_sync_ch, LEGk_CARR_sync, LEGk_CARR_rl, LEGk_CARR_dmode, LEGk_CARR_mode, LEGk_CARR_src, LEGk_CARR_en]⟩, (12 + n.val), 0) := by
    fin_cases n <;> rfl
  simp [regOf, h]

theorem regOf_CHn_COMMIT (n : Ch) : regOf (CHn_COMMIT_go.at n.val 0) =
    some (⟨"CHn_COMMIT", 0x40240030, 4, 0x100, 1, 0, [CHn_COMMIT_go, CHn_COMMIT_gen]⟩, n.val, 0) := by
  fin_cases n <;> rfl

theorem regOf_LEGk_COMMIT (n : Fin 4) : regOf (LEGk_COMMIT_go.at (12 + n.val) 0) =
    some (⟨"LEGk_COMMIT", 0x4020002c, 16, 0x40, 1, 0, [LEGk_COMMIT_go, LEGk_COMMIT_gen]⟩, (12 + n.val), 0) := by
  have h : findReg regTable (LEGk_COMMIT_go.at (12 + n.val) 0) =
      some (⟨"LEGk_COMMIT", 0x4020002c, 16, 0x40, 1, 0, [LEGk_COMMIT_go, LEGk_COMMIT_gen]⟩, (12 + n.val), 0) := by
    fin_cases n <;> rfl
  simp [regOf, h]

theorem regOf_FLT_STAT : regOf (FLT_STAT_itrip.at 0 0) =
    some (⟨"FLT_STAT", 0x40201300, 1, 0x0, 1, 0, [FLT_STAT_itrip, FLT_STAT_flt]⟩, 0, 0) := rfl

theorem regOf_SPn_BANK (n : Ch) : regOf (SPn_BANK_int_frz.at n.val 0) =
    some (⟨"SPn_BANK", 0x40310010, 4, 0x10000, 1, 0, [SPn_BANK_int_frz, SPn_BANK_fb, SPn_BANK_seal_busy, SPn_BANK_seal_req, SPn_BANK_bumpless, SPn_BANK_seal_b, SPn_BANK_seal_a, SPn_BANK_swap, SPn_BANK_active]⟩, n.val, 0) := by
  fin_cases n <;> rfl

theorem regOf_SPn_FLD_STAT (n : Ch) : regOf (SPn_FLD_STAT_rec_cnt.at n.val 0) =
    some (⟨"SPn_FLD_STAT", 0x40310104, 4, 0x10000, 1, 0, [SPn_FLD_STAT_rec_cnt, SPn_FLD_STAT_pll_lock, SPn_FLD_STAT_ovm_active, SPn_FLD_STAT_fw_active, SPn_FLD_STAT_fw_limit, SPn_FLD_STAT_ke_abn, SPn_FLD_STAT_locked, SPn_FLD_STAT_obs_lost, SPn_FLD_STAT_obs_valid, SPn_FLD_STAT_task, SPn_FLD_STAT_engine]⟩, n.val, 0) := by
  fin_cases n <;> rfl

theorem regOf_CHn_SWFAIL (n : Ch) : regOf (CHn_SWFAIL_ls.at n.val 0) =
    some (⟨"CHn_SWFAIL", 0x402400b8, 4, 0x100, 1, 0, [CHn_SWFAIL_ls, CHn_SWFAIL_hs]⟩, n.val, 0) := by
  fin_cases n <;> rfl

theorem regOf_PRT_LNKl_CFG (n : Lnk) : regOf (PRT_LNKl_CFG_en.at n.val 0) =
    some (⟨"PRT_LNKl_CFG", 0x40401000, 2, 0x40, 1, 0, [PRT_LNKl_CFG_en, PRT_LNKl_CFG_members, PRT_LNKl_CFG_ichop_ain, PRT_LNKl_CFG_ichop_en, PRT_LNKl_CFG_pre_leg, PRT_LNKl_CFG_pre_en, PRT_LNKl_CFG_chop_leg, PRT_LNKl_CFG_chop_en, PRT_LNKl_CFG_chop_mode, PRT_LNKl_CFG_vdc_ain]⟩, n.val, 0) := by
  fin_cases n <;> rfl

theorem regOf_BDG_WDG_KICKc (n : Fin 3) : regOf (BDG_WDG_KICKc_key.at n.val 0) =
    some (⟨"BDG_WDG_KICKc", 0x40480010, 3, 0x8, 1, 0, [BDG_WDG_KICKc_key]⟩, n.val, 0) := by
  fin_cases n <;> rfl

theorem regOf_TLS_CFG : regOf (TLS_CFG_start_wait.at 0 0) =
    some (⟨"TLS_CFG", 0x40500000, 1, 0x0, 1, 0, [TLS_CFG_start_wait, TLS_CFG_hb_lead, TLS_CFG_lane_mask, TLS_CFG_auto_rejoin, TLS_CFG_cold_en, TLS_CFG_start_role, TLS_CFG_en]⟩, 0, 0) := rfl

theorem regOf_QPq_SQ (n : Qp) : regOf (QPq_SQ_tail.at n.val 0) =
    some (⟨"QPq_SQ", 0x40600104, 64, 0x20, 1, 0, [QPq_SQ_tail, QPq_SQ_head]⟩, n.val, 0) := by
  fin_cases n <;> rfl

theorem regOf_PLIC_CLAIM (n : Fin 5) : regOf (PLIC_CLAIM_src.at n.val 0) =
    some (⟨"PLIC_CLAIM", 0x40009004, 5, 0x10, 1, 0, [PLIC_CLAIM_src]⟩, n.val, 0) := by
  fin_cases n <;> rfl

theorem regOf_MTR_RESTORE_GO : regOf (MTR_RESTORE_GO_go.at 0 0) =
    some (⟨"MTR_RESTORE_GO", 0x407800c0, 1, 0x0, 1, 0, [MTR_RESTORE_GO_go]⟩, 0, 0) := rfl

theorem regOf_CVUc_CTL (n : Fin 4) : regOf (CVUc_CTL_alive_clr.at n.val 0) =
    some (⟨"CVUc_CTL", 0x40790014, 4, 0x40, 1, 0, [CVUc_CTL_alive_clr, CVUc_CTL_start]⟩, n.val, 0) := by
  fin_cases n <;> rfl

theorem regOf_CVUc_ALIVE (n : Fin 4) : regOf (CVUc_ALIVE_counter.at n.val 0) =
    some (⟨"CVUc_ALIVE", 0x4079002c, 4, 0x40, 1, 0, [CVUc_ALIVE_counter]⟩, n.val, 0) := by
  fin_cases n <;> rfl

theorem regOf_CVUc_DATA8 (n : Fin 4) : regOf (CVUc_DATA8_data.at n.val 0) =
    some (⟨"CVUc_DATA8", 0x40790018, 4, 0x40, 1, 0, [CVUc_DATA8_data]⟩, n.val, 0) := by
  fin_cases n <;> rfl

theorem regOf_CVUc_DATA16 (n : Fin 4) : regOf (CVUc_DATA16_data.at n.val 0) =
    some (⟨"CVUc_DATA16", 0x4079001c, 4, 0x40, 1, 0, [CVUc_DATA16_data]⟩, n.val, 0) := by
  fin_cases n <;> rfl

theorem regOf_CVUc_DATA32 (n : Fin 4) : regOf (CVUc_DATA32_data.at n.val 0) =
    some (⟨"CVUc_DATA32", 0x40790020, 4, 0x40, 1, 0, [CVUc_DATA32_data]⟩, n.val, 0) := by
  fin_cases n <;> rfl

theorem regOf_OWL_ETH : regOf (OWL_ETH_go.at 0 0) =
    some (⟨"OWL_ETH", 0x407c0054, 1, 0x0, 1, 0, [OWL_ETH_go, OWL_ETH_busy, OWL_ETH_port]⟩, 0, 0) := rfl

theorem regOf_OWL_LOAD_D2 : regOf (OWL_LOAD_D2_data.at 0 0) =
    some (⟨"OWL_LOAD_D2", 0x407c003c, 1, 0x0, 1, 0, [OWL_LOAD_D2_data]⟩, 0, 0) := rfl

theorem regOf_OWL_CTL : regOf (OWL_CTL_pre.at 0 0) =
    some (⟨"OWL_CTL", 0x407c0004, 1, 0x0, 1, 0, [OWL_CTL_pre, OWL_CTL_rp_abort, OWL_CTL_trig, OWL_CTL_mode, OWL_CTL_arm]⟩, 0, 0) := rfl

theorem regOf_PWR_RESET : regOf (PWR_RESET_key.at 0 0) =
    some (⟨"PWR_RESET", 0x40020008, 1, 0x0, 1, 0, [PWR_RESET_key]⟩, 0, 0) := rfl

theorem regOf_PWR_CTL : regOf (PWR_CTL_ign_filt.at 0 0) =
    some (⟨"PWR_CTL", 0x40020000, 1, 0x0, 1, 0, [PWR_CTL_ign_filt, PWR_CTL_dis_at_shut, PWR_CTL_ign_en, PWR_CTL_shutdown]⟩, 0, 0) := rfl

theorem regOf_LCS_EPOCH : regOf (LCS_EPOCH_img.at 0 0) =
    some (⟨"LCS_EPOCH", 0x407f0004, 1, 0x0, 1, 0, [LCS_EPOCH_img, LCS_EPOCH_advance, LCS_EPOCH_epoch]⟩, 0, 0) := rfl

theorem regOf_LCS_KPROG : regOf (LCS_KPROG_go.at 0 0) =
    some (⟨"LCS_KPROG", 0x407f0020, 1, 0x0, 1, 0, [LCS_KPROG_go, LCS_KPROG_attr, LCS_KPROG_slot]⟩, 0, 0) := rfl

theorem regOf_BIST_CTL : regOf (BIST_CTL_target.at 0 0) =
    some (⟨"BIST_CTL", 0x407e0000, 1, 0x0, 1, 0, [BIST_CTL_target, BIST_CTL_go]⟩, 0, 0) := rfl

theorem regOf_CVUc_RES_LO (n : Fin 4) : regOf (CVUc_RES_LO_crc.at n.val 0) =
    some (⟨"CVUc_RES_LO", 0x40790024, 4, 0x40, 1, 0, [CVUc_RES_LO_crc]⟩, n.val, 0) := by
  fin_cases n <;> rfl

theorem regOf_CLK_TS_LO : regOf (CLK_TS_LO_ts.at 0 0) =
    some (⟨"CLK_TS_LO", 0x40010010, 1, 0x0, 1, 0, [CLK_TS_LO_ts]⟩, 0, 0) := rfl

/-! ### A write that the bus admits -/

/-- An address of a register in the privileged aperture, in an assigned block. -/
def busAddr (addr : Nat) : Bool :=
  decide (0x40000000 ≤ addr) && decide (addr < 0x40800000) && addr % 4 == 0 && assigned.contains (blockOf addr)

/-- An initiator that no replay serves is not held (R458). -/
theorem coreHeld_of_coreReplay {s : State} {i : Init} (h : coreReplay s i = false) : (corePair i).any (coreHeld s) = false := by
  cases hp : corePair i with
  | none => rfl
  | some p =>
    cases hr : s.owl.replay with
    | none => simp [coreHeld, hr]
    | some r => simp_all [coreReplay, coreHeld]

theorem busWrite_reg {s : State} {a : Access} {addr v : Nat} {r : Reg} {i j : Nat} (hc : coreReplay s a.ini = false)
    (hp : a.priv = true) (hb : busAddr addr = true) (hr : regOf addr = some (r, i, j)) (hs : (blockOf r.addr == 0x31) = false) :
    busWrite s a addr 4 v = (writeReg s a ⟨r, i, j, v % 2 ^ 32⟩ addr).answer a.ini .none := by
  simp only [busAddr, Bool.and_eq_true, decide_eq_true_eq, beq_iff_eq] at hb
  obtain ⟨⟨⟨h1, h2⟩, h3⟩, h4⟩ := hb
  have h5 : addr < 0x50000000 := by omega
  have ha : aperture addr = some (false, addr) := by simp only [aperture, h1, h2, and_self, if_true]
  simp only [busWrite, hc, coreHeld_of_coreReplay hc, Bool.false_and, Bool.and_false, Bool.false_eq_true, if_false, ha, hp, Bool.not_true, h3, h4,
    ne_eq, not_true, or_self, regWrite, hr, hs, State.onIf]

theorem busWrite_spindle {s : State} {a : Access} {addr v : Nat} {r : Reg} {i j : Nat} (hc : coreReplay s a.ini = false)
    (hp : a.priv = true) (hb : busAddr addr = true) (hr : regOf addr = some (r, i, j)) (hs : (blockOf r.addr == 0x31) = true)
    (hn : s.replayed (chOf i).val = false) :
    busWrite s a addr 4 v =
      (writeReg (s.owlRec 0x05 (chOf i).val [2 ^ 39 + addr % 0x10000, v % 2 ^ 32, 0]) a ⟨r, i, j, v % 2 ^ 32⟩ addr).answer a.ini .none := by
  simp only [busAddr, Bool.and_eq_true, decide_eq_true_eq, beq_iff_eq] at hb
  obtain ⟨⟨⟨h1, h2⟩, h3⟩, h4⟩ := hb
  have ha : aperture addr = some (false, addr) := by simp only [aperture, h1, h2, and_self, if_true]
  simp only [busWrite, hc, coreHeld_of_coreReplay hc, Bool.false_and, Bool.and_false, Bool.false_eq_true, if_false, ha, hp, Bool.not_true, h3, h4,
    ne_eq, not_true, or_self, regWrite, hr, hs, State.onIf, Wr.ch, hn, if_true]

theorem writeReg_open {s : State} {a : Access} {w : Wr} {addr : Nat} (hl : s.dev.cfgLock = false) :
    writeReg s a w addr = match preWrite s (applyWr s w []) a w with
      | .no none => s
      | .no (some e) => s.logEv e.1 e.2
      | .act => showAfter (postWrite s a w s) (blockOf w.reg.addr)
      | .go keep ev => showAfter (match ev with
          | some e => (postWrite s a w (if keep.isEmpty then applyWr s w [] else applyWr s w keep)).logEv e.1 e.2
          | none => postWrite s a w (if keep.isEmpty then applyWr s w [] else applyWr s w keep)) (blockOf w.reg.addr) := by
  have h : lockedFlds s w = [] := by simp [lockedFlds, hl]
  simp only [writeReg, h, heldWord, List.foldl_nil, List.isEmpty_nil, Bool.not_true, State.onIf_false] <;> rfl

end Sys2Proof.Machine
end

