-- ==== Sys2Proof/Laws/Events.lean ====
section
/-! SUPPORT. The event intake (R406): what has been delivered stands in it, and no delivery removes anything. -/

set_option Elab.async false

namespace Sys2Proof.Machine

open Sys2Proof.Safety

theorem mem_insertEv_self (e : Nat × List Nat) (l : List (Nat × List Nat)) : e ∈ insertEv e l := by
  induction l with
  | nil => simp [insertEv]
  | cons x t ih =>
    simp only [insertEv]
    split <;> simp [ih]

theorem mem_insertEv_of_mem {e y : Nat × List Nat} {l : List (Nat × List Nat)} (h : y ∈ l) : y ∈ insertEv e l := by
  induction l with
  | nil => cases h
  | cons x t ih =>
    simp only [insertEv]
    rcases List.mem_cons.mp h with rfl | h
    · split <;> simp
    · split
      · simp [h]
      · simp [ih h]

/-- Nothing leaves the intake from `s` to `t`. -/
def Grows (s t : State) : Prop := ∀ e ∈ s.log.intake, e ∈ t.log.intake

theorem Grows.refl (s : State) : Grows s s := fun _ h => h

theorem Grows.trans {s t u : State} (h : Grows s t) (k : Grows t u) : Grows s u := fun e m => k e (h e m)

theorem Grows.of_log {s t : State} (h : t.log = s.log) : Grows s t := fun e m => by rw [h]; exact m

theorem logRaw_grows (s : State) (c : Nat) (l : List Nat) : Grows s (s.logRaw c l) := by
  have key : ∀ u : State, u.log = s.log → Grows s (if u.log.intake.length < 64 then
      { u with log := { u.log with intake := insertEv (c, l) u.log.intake } } else u.incSat FPL_EVT_STAT_lost) := by
    intro u hu
    split
    · intro e m
      exact mem_insertEv_of_mem (hu ▸ m)
    · exact Grows.of_log hu
  simp only [State.logRaw]
  split <;> exact key _ rfl

theorem logRaw_rate_grows {s u : State} {c : Nat} {l : List Nat} {v : List (Nat × Nat)} (h : u.log = s.log) :
    Grows s { (u.logRaw c l) with rate := v } := (Grows.of_log h).trans (logRaw_grows u c l)

theorem owlRec_grows (s : State) (ty src : Nat) (l : List Nat) : Grows s (s.owlRec ty src l) := by
  simp only [State.owlRec]
  split
  · exact Grows.refl s
  · split
    · exact Grows.of_log rfl
    · split
      · exact logRaw_rate_grows rfl
      · exact Grows.of_log rfl

theorem owlTrig_grows (s : State) (b : Nat) : Grows s (s.owlTrig b) := by
  simp only [State.owlTrig]
  split
  · exact Grows.refl s
  · refine Grows.trans ?_ (logRaw_grows _ _ _)
    exact Grows.trans (owlRec_grows s 0x11 1 [b]) (Grows.of_log rfl)

theorem logEv_grows (s : State) (c : Nat) (l : List Nat) : Grows s (s.logEv c l) := by
  simp only [State.logEv]
  split
  · exact (logRaw_grows s c l).trans (owlTrig_grows _ _)
  · exact logRaw_grows s c l

theorem logRaw_mem {s : State} {c : Nat} {l : List Nat} (h : s.log.intake.length < 64) : (c, l) ∈ (s.logRaw c l).log.intake := by
  have key : ∀ u : State, u.log = s.log → (c, l) ∈ (if u.log.intake.length < 64 then
      { u with log := { u.log with intake := insertEv (c, l) u.log.intake } } else u.incSat FPL_EVT_STAT_lost : State).log.intake := by
    intro u hu
    rw [if_pos (by rw [hu]; exact h)]
    exact mem_insertEv_self _ _
  simp only [State.logRaw]
  split <;> exact key _ rfl

theorem logEv_mem {s : State} {c : Nat} {l : List Nat} (h : s.log.intake.length < 64) : (c, l) ∈ (s.logEv c l).log.intake := by
  simp only [State.logEv]
  split
  · exact owlTrig_grows _ _ _ (logRaw_mem h)
  · exact logRaw_mem h

/-- An event delivered after updates that leave the intake alone. -/
theorem logged_of {s u : State} {c : Nat} {l : List Nat} (h : u.log = s.log) : Logged s (u.logEv c l) c l := by
  intro k
  exact logEv_mem (by rw [h]; omega)

theorem Logged.grows {s t u : State} {c : Nat} {l : List Nat} (h : Logged s t c l) (k : Grows t u) : Logged s u c l :=
  fun e => k _ (h e)

/-! ### A replay in progress (R455) goes on whatever is recorded or delivered -/

@[simp] theorem State.logRaw_replay (s : State) (c : Nat) (l : List Nat) : (s.logRaw c l).owl.replay = s.owl.replay := by simp
@[simp] theorem State.owlRec_replay (s : State) (ty sr : Nat) (l : List Nat) : (s.owlRec ty sr l).owl.replay = s.owl.replay := by
  simp only [State.owlRec]
  split
  · rfl
  · split
    · rfl
    · split <;> simp
@[simp] theorem State.owlTrig_replay (s : State) (b : Nat) : (s.owlTrig b).owl.replay = s.owl.replay := by
  simp only [State.owlTrig]
  split <;> simp
@[simp] theorem State.logEv_replay (s : State) (c : Nat) (l : List Nat) : (s.logEv c l).owl.replay = s.owl.replay := by
  simp only [State.logEv]
  split <;> simp
@[simp] theorem State.logRate_replay (s : State) (c i k : Nat) (l : List Nat) : (s.logRate c i k l).owl.replay = s.owl.replay := by
  simp only [State.logRate]
  split <;> simp

/-- Which channels a replay holds depends on the replay alone. -/
theorem State.replayed_congr {s t : State} (h : t.owl.replay = s.owl.replay) (n : Nat) : t.replayed n = s.replayed n := by
  simp only [State.replayed, h]

end Sys2Proof.Machine
end

