-- ==== Sys2Proof/Laws/Memory.lean ====
section
/-! SUPPORT. Reading a byte or a word after writing one, under the canonical form of the memories. -/

set_option Elab.async false

namespace Sys2Proof.Machine

theorem State.wf_mem {s : State} (h : s.wf = true) : Memory.wf s.mem = true := by
  simp only [State.wf, Bool.and_eq_true] at h
  exact h.1.2

theorem State.wf_bytes {s : State} (h : s.wf = true) : scanon 0 s.mem.bytes = true := by
  have := State.wf_mem h
  simp only [Memory.wf, Bool.and_eq_true] at this
  exact this.1.1.1.1.1

theorem State.wf_mp {s : State} (h : s.wf = true) : scanon 0 s.mem.mp = true := by
  have := State.wf_mem h
  simp only [Memory.wf, Bool.and_eq_true] at this
  exact this.1.1.1.1.2

theorem State.wf_lathe {s : State} (h : s.wf = true) : scanon 0 s.mem.lathe = true := by
  have := State.wf_mem h
  simp only [Memory.wf, Bool.and_eq_true] at this
  exact this.1.1.1.2

@[simp] theorem State.putByte_wf {s : State} {a v : Nat} (h : s.wf = true) : (s.putByte a v).wf = true :=
  Moves.wf (m := 0x10) (.mem (.bytes ⟨by decide⟩ .refl) .refl) h

@[simp] theorem State.putMpByte_wf {s : State} {a v : Nat} (h : s.wf = true) : (s.putMpByte a v).wf = true :=
  Moves.wf (m := 0x20) (.mem (.mp ⟨by decide⟩ .refl) .refl) h

@[simp] theorem State.putLw_wf {s : State} {i : Nat} {q : QWord} (h : s.wf = true) : (s.putLw i q).wf = true :=
  (State.putLw_moves (m := 0x340) ⟨by decide⟩ .refl).wf h

@[simp] theorem State.putOw_wf {s : State} {i v : Nat} (h : s.wf = true) : (s.putOw i v).wf = true :=
  (State.putOw_moves (m := 0x380) ⟨by decide⟩ .refl).wf h

theorem State.byteAt_putByte {s : State} {a v x : Nat} (h : s.wf = true) :
    (s.putByte a v).byteAt x = if x = a then v % 256 else s.byteAt x := by
  simp only [State.byteAt, State.putByte]
  split
  · subst x
    rw [sget_sput_same (State.wf_bytes h)]
    simp [BitVec.toNat_ofNat]
  · rw [sget_sput_ne (State.wf_bytes h) (by assumption)]

theorem State.mpByteAt_putMpByte {s : State} {a v x : Nat} (h : s.wf = true) :
    (s.putMpByte a v).mpByteAt x = if x = a then v % 256 else s.mpByteAt x := by
  simp only [State.mpByteAt, State.putMpByte]
  split
  · subst x
    rw [sget_sput_same (State.wf_mp h)]
    simp [BitVec.toNat_ofNat]
  · rw [sget_sput_ne (State.wf_mp h) (by assumption)]

@[simp] theorem State.putMpByte_byteAt {s : State} {a v x : Nat} : (s.putMpByte a v).byteAt x = s.byteAt x := rfl

@[simp] theorem State.putByte_mpByteAt {s : State} {a v x : Nat} : (s.putByte a v).mpByteAt x = s.mpByteAt x := rfl

theorem forN_succ (s : State) (n : Nat) (f : Nat → State → State) : s.forN (n + 1) f = f n (s.forN n f) := by
  simp [State.forN, List.range_succ]

@[simp] theorem forN_zero (s : State) (f : Nat → State → State) : s.forN 0 f = s := rfl

end Sys2Proof.Machine
end

