-- ==== Sys2Proof/Laws/Table.lean ====
section
/-! SUPPORT. The register table: the fields of a register are distinct and their reset values fit; what a whole write of a
register and a read of one with RC fields leave in its fields. -/

set_option Elab.async false

namespace Sys2Proof.Machine

/-- The fields of a register are distinct, and their reset values fit. -/
def fldsOk (l : List Fld) : Bool := (l.map Fld.id).dedup.length == l.length && l.all (fun f => decide (f.reset < 2 ^ f.width))

set_option maxRecDepth 20000 in
theorem regTable_fldsOk : regTable.all (fun r => fldsOk r.flds) = true := by decide

theorem flds_nodup {r : Reg} (h : r ∈ regTable) : (r.flds.map Fld.id).Nodup := by
  have k := List.all_eq_true.mp regTable_fldsOk r h
  simp only [fldsOk, Bool.and_eq_true, beq_iff_eq] at k
  rw [← List.dedup_eq_self]
  exact (List.dedup_sublist _).eq_of_length (by rw [k.1, List.length_map])

theorem flds_reset {r : Reg} (h : r ∈ regTable) {f : Fld} (hf : f ∈ r.flds) : f.reset % 2 ^ f.width = f.reset := by
  have k := List.all_eq_true.mp regTable_fldsOk r h
  simp only [fldsOk, Bool.and_eq_true, List.all_eq_true, decide_eq_true_eq] at k
  exact Nat.mod_eq_of_lt (k.2 f hf)

/-- A change of each field of a list in turn. -/
theorem foldl_flds {l : List Fld} {g : Fld → State → State} {m i j : Nat} (hn : (l.map Fld.id).Nodup)
    (hg : ∀ f s, s.wf = true → (g f s).wf = true ∧ ∀ e : Fld, e.id ≠ f.id → (g f s).get e i j = s.get e i j)
    {s : State} (hs : s.wf = true) :
    (l.foldl (fun s f => g f s) s).wf = true ∧
    (∀ e : Fld, (∀ f ∈ l, f.id ≠ e.id) → (l.foldl (fun s f => g f s) s).get e i j = s.get e i j) ∧
    (∀ f ∈ l, ∃ u : State, u.wf = true ∧ u.get f i j = s.get f i j ∧ (l.foldl (fun s f => g f s) s).get f i j = (g f u).get f i j) := by
  induction l generalizing s with
  | nil => simp [hs]
  | cons x l ih =>
    simp only [List.map_cons, List.nodup_cons, List.mem_map, not_exists, not_and] at hn
    obtain ⟨hx, hn⟩ := hn
    have hgx := hg x s hs
    obtain ⟨k1, k2, k3⟩ := ih hn hgx.1
    refine ⟨k1, ?_, ?_⟩
    · intro e he
      rw [List.foldl_cons, k2 e (fun f hf => he f (List.mem_cons_of_mem _ hf))]
      exact hgx.2 e (fun h => he x List.mem_cons_self h.symm)
    · intro f hf
      rcases List.mem_cons.mp hf with rfl | hf
      · exact ⟨s, hs, rfl, k2 f (fun e he h => hx e he h)⟩
      · obtain ⟨u, hu, e1, e2⟩ := k3 f hf
        refine ⟨u, hu, ?_, e2⟩
        rw [e1]
        exact hgx.2 f (fun h => hx f hf h)

end Sys2Proof.Machine
end

