-- ==== Sys2Proof/Machine/Tap.lean ====
section
/-! DEFINITION. The test access port (R522): what its instructions reach in each life-cycle state. The table has no row by which it is
scanned, so it changes no state. -/

namespace Sys2Proof.Machine

/-- The instructions of the test access port (R522). -/
inductive TapInstr where
  | bypass | idcode | sample | extest | debug
  deriving DecidableEq, Repr

/-- The test access port supports an instruction: BYPASS and IDCODE in every state, boundary scan in MANUFACTURE and RETURN, the debug
module in DEVELOP after the authenticated unlock of R319. In any other case DBG_TDO stays high-impedance (R522). -/
def tapSupports (s : State) : TapInstr → Bool
  | .bypass => true
  | .idcode => true
  | .sample => lcState s == 1 || lcState s == 4
  | .extest => lcState s == 1 || lcState s == 4
  | .debug => lcState s == 2 && s.getB LCS_STATE_dbg_open

/-- What IDCODE returns: the value of `SYS_ID` with bit 0 set (R522). -/
def tapIdcode (s : State) : Nat :=
  (s.get SYS_ID_part * 2 ^ 16 + s.get SYS_ID_grade * 2 ^ 12 + s.get SYS_ID_major * 2 ^ 8 + s.get SYS_ID_minor * 2 ^ 4) ||| 1

/-- EXTEST reaches the gate outputs: neither SAFE_EN0 nor SAFE_EN1 is high (R522). -/
def extestGates (s : State) : Bool :=
  tapSupports s .extest && !s.getB BDG_STATE_safe_en0 && !s.getB BDG_STATE_safe_en1

end Sys2Proof.Machine
end

