-- ==== Sys2Proof/WellFormed.lean ====
section
/-! DEFINITION. Which commands are well formed: every operand fits the field, the word or the list of bytes that the spec gives it.
A meaning is total and does not ask for this; a command that is not well formed is one that no outside world can send. -/

namespace Sys2Proof

/-- A 32-bit bus value, address or count. -/
def word32 (v : Nat) : Bool := decide (v < 2 ^ 32)
/-- A 64-bit value. -/
def word64 (v : Nat) : Bool := decide (v < 2 ^ 64)
/-- A signed 32-bit value. -/
def int32 (v : Int) : Bool := decide (-(2 ^ 31) ≤ v) && decide (v < 2 ^ 31)
/-- The size in bytes of a bus access (R71). -/
def sizeOk (n : Nat) : Bool := n == 1 || n == 2 || n == 4 || n == 8
/-- A value of an access of `n` bytes. -/
def dataOk (n v : Nat) : Bool := decide (v < 2 ^ (8 * n))
/-- A converter result: 24 bits, signed (R82). -/
def codeOk (v : Int) : Bool := decide (-(2 ^ 23) ≤ v) && decide (v < 2 ^ 23)
/-- A list of converter results. -/
def codesOk (l : List Int) : Bool := l.all codeOk
/-- A list of bytes. -/
def bytesOk (l : List Nat) : Bool := l.all (fun b => decide (b < 256))
/-- Flipped bits of a codeword (R61), without repeats. -/
def bitsOk (l : List Nat) : Bool := l.all (fun b => decide (b < 108)) && decide l.Nodup
/-- Erroneous codewords: words of the Lathe or Owl region, each with its erroneous bits. -/
def wordErrsOk (l : WordErrs) : Bool := l.all (fun e => decide (e.1 < 2 ^ 20) && bitsOk e.2)
/-- Something that may be absent. -/
def optOk {α : Type} (f : α → Bool) : Option α → Bool
  | none => true
  | some x => f x
/-- The fields of a packet's header as Faceplate hands them on (R375). -/
def ctxOk (c : Ctx) : Bool := decide (c.seq < 2 ^ 16) && decide (c.opcode < 256) && decide (c.flags < 256) && decide (c.chan < 16)

/-- A command is well formed. -/
def Instr.wf : Instr → Bool
  | .registerWrite _ addr size v => word32 addr && sizeOk size && word32 v
  | .satClear _ _ v | .profileRequestWrite _ v | .seqDisable _ _ v | .injectionStart _ _ _ v | .srcRestore _ _ v
  | .carrierEnable _ _ v | .carrierDisable _ _ v | .commitWrite _ _ v | .legCommit _ _ v | .fltLatchClear _ v
  | .swapRequest _ _ v | .sealRequest _ _ v | .keAbnClear _ _ v | .swfailWrite _ _ v | .linkEnable _ _ v | .wdgKick _ _ v
  | .tlsEnable _ v | .tlsDisable _ v | .sqTailWrite _ _ v | .plicComplete _ _ v | .meterRestore _ v | .cvuStart _ _ v
  | .cvuData _ _ _ v | .cvuAlive _ _ v | .cvuAliveClr _ _ v | .owlLoadStore _ v | .replayAbort _ v
  | .pwrReset _ v | .shutdownRequest _ v | .epochAdvance _ v | .keyProgram _ v | .bistManual _ v => word32 v
  | .owlOffload _ v errs => word32 v && wordErrsOk errs
  | .slotWrite _ addr size v errs => word32 addr && sizeOk size && dataOk size v && bitsOk errs
  | .slotRead _ addr size errs => word32 addr && sizeOk size && bitsOk errs
  | .registerRead _ addr size => word32 addr && sizeOk size
  | .speculation _ errs | .fullEvalDone _ errs | .replayInput errs => wordErrsOk errs
  | .coefRead c p errs | .owlFetch c p errs => ctxOk c && bytesOk p && wordErrsOk errs
  | .scrubRead errs => bitsOk errs
  | .eccWriteback region word => word32 region && word32 word
  | .windowResult _ _ codes | .injectionDone _ _ codes | .cmpAssert _ codes | .cmpDeassert _ codes | .ovWarn _ codes
  | .chopOn _ codes | .chopOff _ codes | .ovAsc _ codes | .ovHard _ codes | .prechargeDone _ codes | .disDone _ codes
  | .linkThresholdDeassert _ codes => codesOk codes
  | .calEnd _ offset gain | .bgcalSlice _ offset gain => int32 offset && int32 gain
  | .owTestDone _ plus minus => codesOk plus && codesOk minus
  | .rsvSample _ sin cos _ => codesOk (sin.map Prod.fst) && codesOk (cos.map Prod.fst)
  | .posHome c p | .posSet c p | .chPrecharge c p | .chEnable c p | .chStop c p | .chSafe c p | .chClearFault c p
  | .chDischarge c p | .pairStatus c p | .pairRole c p | .pairRejoin c p | .nop c p | .getStatus c p | .getEvents c p
  | .sessionOpen c p | .challenge c p | .openP c p | .sessionClose c p | .setProfile c p | .setTorque c p | .setSpeed c p
  | .setLimits c p | .setRampLimits c p | .cfgWrite c p | .cfgRead c p | .cfgLock c p | .coefLoad c p | .coefSwap c p
  | .cvCalibrate c p | .cvInject c p | .cvOpenWireTest c p | .prtConfig c p | .prtTest c p | .mtrRead c p
  | .ledgerFetch c p | .mtrCal c p | .owlArm c p | .owlTrigger c p | .replayStart c p | .settEnumerate c p
  | .settNodeRead c p | .settNodeWrite c p | .lcQuery c p | .lcAdvance c p | .fwUpdate c p | .keyRevoke c p | .bistReport c p
  | .selftestRun c p | .diagPeek c p => ctxOk c && bytesOk p
  | .dlCal code => optOk word32 code
  | .ipdComplete _ peaks => codesOk peaks
  | .recapture _ a1 b1 a2 b2 _ => codeOk a1 && codeOk b1 && codeOk a2 && codeOk b2
  | .chopConfirm _ ichop => optOk codeOk ichop
  | .badgerEval smp => smp.all (fun l => l.all (fun x => codeOk x.1 && codeOk x.2.1))
  | .stateDigest _ m c => word32 m && word32 c
  | .scvTdiodeRead t | .thermalReading t => int32 t
  | .faultRaised _ payload => word32 payload
  | .faultRead seq | .classRead seq | .paramRead seq | .monRead seq => word32 seq
  | .faultClear seq srcs => word32 seq && srcs.all (fun x => decide (x < 192))
  | .paramStage seq block crc => word32 seq && bytesOk block && word32 crc
  | .checkpointRx _ b | .meterCheckpointRx _ b | .timebaseSyncRx _ b | .heartbeatRx _ b | .configDigestRx _ b | .poll b | .hlkCmd b
  | .hlkFast b | .discover b | .hlkAssign b | .canSegment _ b | .canSetpoint _ _ b => bytesOk b
  | .packetArrival _ src b => word32 src && bytesOk b
  | .ptpSync ts0 t0 rate => word64 ts0 && word64 t0 && int32 rate
  | .settFastReturn _ _ _ _ _ slots => slots.all bytesOk
  | .settSlowReply _ _ _ _ reply => optOk bytesOk reply
  | .settAssignReply _ loop _ => word32 loop
  | .meterBlock smp _ _ => smp.all (fun x => codeOk x.2.1 && codeOk x.2.2)
  | .porstRelease _ _ secs | .wakePin _ _ secs | .wakeTimer _ secs => word32 secs
  | .badgerStartDone _ phase => word32 phase
  | .startupBistDone _ phase fail word region ms | .shutdownBistDone _ phase fail word region ms
  | .selftestDone _ phase fail word region ms => word32 phase && word32 fail && word32 word && word32 region && word32 ms
  | .sramAccess _ _ addr size v errs => word32 addr && sizeOk size && dataOk size v && bitsOk errs
  | .tsLoRead _ | .reload _ | .commitArrival _ | .commitDeadline _ | .clockLoss _ | .xinLoss | .ckwSwitch | .phaseMeasure _
  | .scrubLate | .seqSwtrig _ _ | .seqRunEnd _ | .triggerTimerExpiry _ | .adcTrigEdge _ _ | .calFullRequest _ _
  | .calFullStart _ | .bgcalStarved _ | .cvPowerDown _ | .cvShutdownDone _ | .cvStartupDone _ | .refReady _ | .idleScanVisit _
  | .owPeriodic | .owDwellEnd _ | .encEdge _ _ _ _ _ _ _ | .delayedEdge _ _ | .noisyInterval _ | .wireFault _ _ | .index _
  | .zMissing _ | .hallEdge _ _ _ _ | .hallInvalid _ | .serFrameStart _ _ | .serFrameEnd _ _ _ | .serTimeout _ | .spdTimeout _
  | .periodLatch _ | .carrierSyncStart _ | .carrierZero _ | .carrierPeak _ | .cotEndEvent _ | .cotPerMin _ | .cotPermax _
  | .faultInputActive _ _ | .faultInputInactive _ _ | .itripActive _ | .blankEnd _ | .outputGateHold _ | .outputGateRelease _
  | .deadTimeEnd _ _ | .measLanding _ _ | .specDone _ | .fastPath _ | .waitLimit _
  | .fbHoldExpired _ | .sealDone _ | .oscWindowEnd _ | .fwLimit _ | .dtcDecision _ | .dtcMiss _ | .handover _ | .obsValid _
  | .obsLost _ | .recapAttemptEnd _ | .locked _ | .lockClear _ | .keAbnormal _ | .pllLock _ | .pllUnlock _ | .gridBand _
  | .linkStarved _ | .chopCommit _ | .prechargeFail _ | .prechargeLegOff _ | .disFail _ | .disTimeout _
  | .lockstepMismatch _ _ _ _ | .cmpSelftest _ _ _ | .chuckRelease _ _ | .spindleRestore _ | .corePairRestart _ | .mpRestart
  | .debugHalt _ | .ckbMonitor _ | .ckbTrim | .supplyFault _ | .bdgUndervoltReset | .wdgTimeout _ | .roleSettle
  | .startWaitExpired | .standbyDemote | .selFbChange _ | .heartbeatMissing | .takeoverXlStart | .takeoverClaim
  | .selectorFault | .handoffRelease | .laneUp _ | .laneDown _ | .linkDown | .meterCheckpointTx | .timebaseSyncTx
  | .heartbeatTx | .configDigestTx | .mpDispatch | .waitExpired _ | .mploadWindow _ | .queueIdleTimeout _ | .challengeExpiry _
  | .hlkFrameAbort | .canSegmentGap _ | .canBusoff _ | .slotStale _ _ | .ptpLost | .plicClaim _ _ | .settFastStart _
  | .settSlowStart _ _ | .packidRead | .packUnverified | .ringBreak _ _ _ _ | .closeTest _ _ | .ledgerRecord
  | .cvuResultRead _ _ | .owlTickHeader | .owlStop | .owlOffloadDone | .replayHeader | .replayEnd
  | .configDigestUpdate | .porstAssert | .bootLoadDone | .devReady | .ignFilterExpiry | .shutdownQuiescent | .shutWait
  | .bistTimeout | .aonLoss | .thmStale | .thmTrim | .fwProgramDone _ | .heartbeatPresent | .clockReturn _ | .supplyReturn _
  | .windowOpen _ _ | .dutyEdge _ | .encoEdge | .canBusoffRecovery _ | .safeEnPulseEnd | .profileChangeEffect => true

end Sys2Proof
end

