-- ==== Sys2Proof/Tests/Slice0.lean ====
section
/-! SUPPORT. Tests: what WellFormed refuses, single steps with the results that the spec or a published vector gives, and for each
statement the states and operands that meet the hypotheses of its clauses. -/

open Sys2Proof Sys2Proof.Machine Sys2Proof.Safety

namespace Sys2Proof.Tests

set_option Elab.async false

/-- An access of the cores with privilege. -/
def A : Access := ⟨.cpa, true, false⟩
/-- An access of the MP. -/
def M : Access := ⟨.mp, true, false⟩
/-- The state after reset. -/
def R : State := State.reset
/-- A position record. -/
def P0 : PosRec := ⟨1, 5, 0, 0, true, true, 0, false, false, false⟩
/-- A commit. -/
def C0 : Commit := ⟨2560000, [100, 200, 300], 7, false⟩
/-- a channel in RUN with its carrier running -/
def Run (n : Ch) : State := (((R.put CHn_STATE_state 3 n.val).modChan n (fun c => { c with outEn := true })).modCarr (.ch n)
  (fun c => { c with run := true, fresh := false, deadline := 1000, act := C0 })).put CHn_CARR_en 1 n.val
/-- bank 1 of a spindle with one state, output and input -/
def bank1 (s : State) (n : Ch) : State :=
  s.forL ([(0, ⟨65793, 0⟩), (2, ⟨2147483648, 0⟩), (3, ⟨5, 6⟩)] ++ (List.range 8).map (fun i => (0x18 + i, (⟨1000, 0⟩ : QWord))))
    (fun p s => s.putLw (spWord n.val (0x400 + p.1)) p.2)
/-- The state that follows, where there is one. -/
def nextOr (o : Host.Outcome State Fault Refusal) (s : State) : State :=
  match o with
  | .next t => t
  | _ => s

/-! ### WellFormed refuses what does not fit -/

/-- Headers of the queues' commands. -/
def ctx0 : Ctx := ⟨1, 5, 1, 0, 1, true⟩

theorem test_wf_word32 : (Instr.satClear A 0 (2 ^ 32)).wf = false ∧ (Instr.satClear A 0 (2 ^ 32 - 1)).wf = true := by decide
theorem test_wf_word64 : (Instr.ptpSync (2 ^ 64) 0 0).wf = false ∧ (Instr.ptpSync (2 ^ 64 - 1) 0 0).wf = true := by decide
theorem test_wf_int32 : (Instr.calEnd 0 (2 ^ 31) 0).wf = false ∧ (Instr.calEnd 0 0 (-(2 ^ 31) - 1)).wf = false ∧
    (Instr.calEnd 0 (-(2 ^ 31)) 0).wf = true := by decide
theorem test_wf_size : (Instr.slotRead A 0x60000000 3 []).wf = false ∧ (Instr.slotRead A 0x60000000 8 []).wf = true := by decide
theorem test_wf_data : (Instr.slotWrite A 0x60000000 1 256 []).wf = false ∧ (Instr.slotWrite A 0x60000000 1 255 []).wf = true := by decide
theorem test_wf_codes : (Instr.windowResult 0 0 [2 ^ 23]).wf = false ∧ (Instr.windowResult 0 0 [-(2 ^ 23)]).wf = true := by decide
theorem test_wf_bytes : (Instr.poll [256]).wf = false ∧ (Instr.poll [255]).wf = true := by decide
theorem test_wf_bits : (Instr.scrubRead [108]).wf = false ∧ (Instr.scrubRead [7, 7]).wf = false ∧ (Instr.scrubRead [0, 107]).wf = true := by decide
theorem test_wf_words : (Instr.speculation 0 [(2 ^ 20, [])]).wf = false ∧ (Instr.speculation 0 [(0, [108])]).wf = false ∧
    (Instr.speculation 0 [(2 ^ 20 - 1, [0, 107])]).wf = true := by decide
theorem test_wf_opt : (Instr.dlCal (some (2 ^ 32))).wf = false ∧ (Instr.dlCal none).wf = true := by decide
theorem test_wf_ctx : (Instr.nop { ctx0 with seq := 2 ^ 16 } []).wf = false ∧ (Instr.nop { ctx0 with opcode := 256 } []).wf = false ∧
    (Instr.nop { ctx0 with flags := 256 } []).wf = false ∧ (Instr.nop { ctx0 with chan := 16 } []).wf = false ∧
    (Instr.nop ctx0 []).wf = true := by decide
theorem test_wf_sources : (Instr.faultClear 1 [192]).wf = false ∧ (Instr.faultClear 1 [191]).wf = true := by decide

/-! ### Single steps and published vectors -/

/-- The reply that an initiator holds after a command at reset. -/
def replyAfter (i : Instr) (a : Init) : Option Reply :=
  match exec i R with
  | .next t => some (t.port a).reply
  | _ => none

/-- A field after a command at reset. -/
def fieldAfter (i : Instr) (f : Fld) (k : Nat) : Option Nat :=
  match exec i R with
  | .next t => some (t.get f k)
  | _ => none

/-- The check value of CRC-32C over the digits 1 to 9, as published with the polynomial that R375 names. -/
theorem test_crc32c : crc32c [0x31, 0x32, 0x33, 0x34, 0x35, 0x36, 0x37, 0x38, 0x39] = 0xE3069283 := by decide +kernel
/-- The first block of FIPS 197, appendix B. -/
theorem test_aes128 : aesEnc [0x2b, 0x7e, 0x15, 0x16, 0x28, 0xae, 0xd2, 0xa6, 0xab, 0xf7, 0x15, 0x88, 0x09, 0xcf, 0x4f, 0x3c]
    [0x32, 0x43, 0xf6, 0xa8, 0x88, 0x5a, 0x30, 0x8d, 0x31, 0x31, 0x98, 0xa2, 0xe0, 0x37, 0x07, 0x34] =
    [0x39, 0x25, 0x84, 0x1d, 0x02, 0xdc, 0x09, 0xfb, 0xdc, 0x11, 0x85, 0x97, 0x19, 0x6a, 0x0b, 0x32] := by decide +kernel
/-- SHA-256 of the three letters abc, FIPS 180-4. -/
theorem test_sha256 : (sha256 [0x61, 0x62, 0x63]).take 4 = [0xba, 0x78, 0x16, 0xbf] := by decide +kernel
/-- R110: a threshold write with hi below lo is refused; at reset hi is 32,767. -/
theorem test_threshold_refused : fieldAfter (.registerWrite A (CMPi_THR_hi.at 47 0) 4 0x00010002) CMPi_THR_hi 47 = some 32767 := by decide +kernel
/-- R110: one with hi at lo is taken. -/
theorem test_threshold_taken : fieldAfter (.registerWrite A (CMPi_THR_hi.at 47 0) 4 0x00020002) CMPi_THR_hi 47 = some 2 := by decide +kernel
/-- R43: the low half of TS at reset. -/
theorem test_ts_lo : replyAfter (.tsLoRead A) .cpa = some (.data 0) := by decide +kernel
/-- R74: without privilege a register write is answered with a bus error. -/
theorem test_no_privilege : replyAfter (.registerWrite { A with priv := false } (CMPi_THR_hi.at 47 0) 4 0) .cpa = some .error := by decide +kernel
/-- R35: a loss of XIN clears `xin_ok`. -/
theorem test_xin_loss : fieldAfter .xinLoss CLK_STATUS_xin_ok 0 = some 0 := by decide +kernel
/-- R42: a phase that has moved by more than 128 ft sets `phase_slip`, one by 128 ft does not. -/
theorem test_phase_slip : fieldAfter (.phaseMeasure 129) CLK_STATUS_phase_slip 0 = some 1 ∧
    fieldAfter (.phaseMeasure 128) CLK_STATUS_phase_slip 0 = some 0 := by decide +kernel

/-- A field after a command. -/
def fieldOf (i : Instr) (s : State) (f : Fld) (k : Nat) : Option Nat :=
  match exec i s with
  | .next t => some (t.get f k)
  | _ => none

/-- R5: the grade of the part stays through a reset. -/
theorem test_grade_kept : fieldOf .porstAssert (R.put SYS_ID_grade 2) SYS_ID_grade 0 = some 2 := by decide +kernel
/-- R38: a lost clock has lost its lock bit. -/
theorem test_lock_lost : fieldOf (.clockLoss .ckc) (R.put CLK_STATUS_c_lock 1) CLK_STATUS_c_lock 0 = some 0 := by decide +kernel
/-- R311: the three comparisons that differed before the release of a source are counted. -/
theorem test_badger_resample : fieldOf (.chuckRelease 6 3) { R with inflight := [(33, 7)] } PRT_CHUCK_STAT_resample 0 = some 3 := by decide +kernel
/-- R350: with both lanes in use the digest leaves on lane 1, with lane 0 alone on lane 0. -/
theorem test_lanes : laneOf ((R.put TLS_STAT_lane_up 3).put TLS_CFG_lane_mask 3) 3 = some 1 ∧
    laneOf ((R.put TLS_STAT_lane_up 3).put TLS_CFG_lane_mask 1) 3 = some 0 := by decide +kernel
/-- R212: with no seal requested, SEAL_DONE changes nothing. -/
theorem test_seal_idle : (match exec (.sealDone 1) R with | .next t => decide (t = R) | _ => false) = true := by decide +kernel

/-- R522: what IDCODE returns on a ZLX960-TA and on a ZLX960-SG. -/
theorem test_idcode : tapIdcode R = 0x09601B01 ∧ tapIdcode (R.put SYS_ID_grade 2) = 0x09602B01 := by decide +kernel

/-! ### States and operands that meet the statements' hypotheses -/

namespace WA

/-- States and operands that meet the hypotheses of each clause of `ClocksAndRails`. -/
theorem witness_ClocksAndRails :
    (∃ (s : State) (d : Dom), Ready s ∧ ((d ≠ .ckt ∨ s.getB TLS_CFG_en = true))) ∧
    (∃ (s : State) (d : Dom), Ready s ∧ (s.bdg.clkBad.testBit (domBit d) = true)) ∧
    (∃ (s : State) (r : Rail), Ready s ∧ (s.bdg.railBad.testBit (railBit r) = true)) :=
  ⟨⟨R, .ckw, by unfold Ready; decide +kernel⟩,
   ⟨(R.modBdg (fun b => { b with clkBad := 257 })), .ckb, by unfold Ready; decide +kernel⟩,
   ⟨(R.modBdg (fun b => { b with railBad := 64 })), .aon, by unfold Ready; decide +kernel⟩⟩

/-- A state and operands that meet the hypotheses of `PhaseMeasurement`. -/
theorem witness_PhaseMeasurement : ∃ (s : State) (ft : Nat), Ready s ∧ (ft < 1280) ∧ (s.get CLK_CKA_PHASE_phase < 1280) :=
  ⟨R, 1279, by unfold Ready; decide +kernel⟩

end WA

namespace WB

/-- States and operands that meet the hypotheses of each clause of `SramAccess`. -/
theorem witness_SramAccess :
    (∃ (s : State) (a : Access) (addr size : Nat), Ready s ∧ SramAdmits a addr size ∧
      (isUe s (if mpPrivate a.ini addr then 3 else 0) (addr / 8 * 8) = false)) ∧
    (∃ (s : State) (a : Access) (addr size : Nat) (op : MemOp), Ready s ∧ SramAdmits a addr size ∧
      (isUe s (if mpPrivate a.ini addr then 3 else 0) (addr / 8 * 8) = false) ∧ op ≠ .store) :=
  ⟨⟨R, A, 0x105FFFF8, 8, by unfold SramAdmits Ready; decide +kernel⟩,
   ⟨R, A, 0x105FFFF8, 8, .fetch, by unfold SramAdmits Ready; decide +kernel⟩⟩

end WB

namespace WE

def SlotSt : State := R.modPort .cpa (fun p => { p with staging := ⟨some 0x807, 5, 3⟩ })
def SlotCp : State := R.modPort .cpa (fun p => { p with capture := ⟨some 0x807, 2 ^ 100 + 5⟩ })

/-- States and operands that meet the hypotheses of each clause of `Slots`. -/
theorem witness_Slots :
    (∃ (s : State) (a : Access) (addr size : Nat), Ready s ∧ (a.priv = true) ∧ (0x60000000 ≤ addr) ∧ (addr < 0x60200000) ∧ ((size = 4 ∨ size = 8)) ∧
      (addr % size = 0) ∧ (addr % 16 + size < 16)) ∧
    (∃ (s : State) (a : Access) (addr size : Nat), let g := (addr - 0x60000000) / 16
      Ready s ∧ (a.priv = true) ∧ (0x60000000 ≤ addr) ∧ (addr < 0x60200000) ∧ ((size = 4 ∨ size = 8)) ∧ (addr % size = 0) ∧ (addr % 16 + size = 16) ∧
      (size = 8) ∧ ((s.port a.ini).staging.slot = some g) ∧ (((s.port a.ini).staging.parts = 3 ∨ (s.port a.ini).staging.parts = 7)) ∧
      (wordWrite s (chOf (g / 32768)) (g % 32768) = some none) ∧ (s.replayed (chOf (g / 32768)).val = false) ∧
      ((s.port a.ini).staging.bits < 2 ^ 128)) ∧
    (∃ (s : State) (a : Access) (addr size : Nat) (e : _), let g := (addr - 0x60000000) / 16
      Ready s ∧ (a.priv = true) ∧ (0x60000000 ≤ addr) ∧ (addr < 0x60200000) ∧ ((size = 4 ∨ size = 8)) ∧ (addr % size = 0) ∧ (addr % 16 = 0) ∧
      (isUe s 1 g = false) ∧ (eccKind e = 0)) ∧
    (∃ (s : State) (a : Access) (addr size : Nat) (e : _), let g := (addr - 0x60000000) / 16
      Ready s ∧ (a.priv = true) ∧ (0x60000000 ≤ addr) ∧ (addr < 0x60200000) ∧ ((size = 4 ∨ size = 8)) ∧ (addr % size = 0) ∧ (addr % 16 = 0) ∧
      ((isUe s 1 g = true ∨ eccKind e = 2))) ∧
    (∃ (s : State) (a : Access) (addr size : Nat), let g := (addr - 0x60000000) / 16
      Ready s ∧ (a.priv = true) ∧ (0x60000000 ≤ addr) ∧ (addr < 0x60200000) ∧ ((size = 4 ∨ size = 8)) ∧ (addr % size = 0) ∧ addr % 16 ≠ 0 ∧
      ((s.port a.ini).capture.slot = some g)) :=
  ⟨⟨R, A, 0x601FFFF8, 4, by unfold Ready; decide +kernel⟩,
   ⟨SlotSt, A, 0x60008078, 8, by unfold Ready; dsimp only; decide +kernel⟩,
   ⟨R, A, 0x601FFFF0, 4, [], by unfold Ready; dsimp only; decide +kernel⟩,
   ⟨R, A, 0x60008070, 8, [0, 40], by unfold Ready; dsimp only; decide +kernel⟩,
   ⟨SlotCp, A, 0x6000807C, 4, by unfold Ready; dsimp only; decide +kernel⟩⟩

end WE

namespace WF

def WinSt0 (st : WinSt) : State := ((R.put CVc_STAT_state 3 0).modConv 0 (fun c => { c with calDone := true })).modWin 7 15 (fun w => { w with st := st })
def WinTk : State := (WinSt0 .taking).modConv 0 (fun c => { c with work := .window 7 15 })
def WinCl : State := (WinSt0 .idle).modSeq 7 (fun y => { y with closed := [(15, { y.wins[(15 : Fin 16)] with st := .taking, lastFt := 2560 })] })

/-- States and operands that meet the hypotheses of each clause of `Windows`. -/
theorem witness_Windows :
    (∃ (s : State) (q : Sq) (k : Fin 16) (u : State) (c : Cv), Ready s ∧ (u = seqDue s) ∧ (c = cvOf (u.get SEQn_STEPk_A_conv q.val k.val)) ∧
      (u.cvb.seqs[q].wins[k].st = .sched)) ∧
    (∃ (s : State) (q : Sq) (k : Fin 16) (codes : List Int) (c : Cv), Ready s ∧ (s.cvb.seqs[q].wins[k].st = .taking) ∧
      (c = cvOf s.cvb.seqs[q].wins[k].conv) ∧ (s.cvb.conv[c].work = .window q.val k.val) ∧
    (s.cvb.seqs[q].closed.find? (fun e => e.1 == k.val) = none) ∧ (winN s q k ≤ codes.length)) ∧
    (∃ (s : State) (q : Sq) (k : Fin 16) (codes : List Int) (w : Win), Ready s ∧ s.cvb.seqs[q].wins[k].st ≠ .taking ∧
      (s.cvb.seqs[q].closed.find? (fun e => e.1 == k.val) = some (k.val, w)) ∧ (w.st = .taking) ∧ (winN s q k ≤ codes.length)) ∧
    (∃ (s : State) (q : Sq) (k : Fin 16), Ready s ∧ (s.cvb.seqs[q].wins[k].st = .untaken) ∧
      (s.cvb.seqs[q].closed.find? (fun e => e.1 == k.val) = none)) ∧
    (∃ (s : State) (q : Sq), Ready s ∧ (s.getB SEQn_STAT_running q.val = true) ∧ (seqFinished s q = true) ∧ (s.cvb.seqs[q].stored = none) ∧
      ((∀ p : Sq, s.get SEQn_TRIG_src p.val ≠ 0x28 + q.val))) :=
  ⟨⟨(WinSt0 .sched), 7, 15, (seqDue (WinSt0 .sched)), (cvOf ((seqDue (WinSt0 .sched)).get SEQn_STEPk_A_conv 7 15)), by unfold Ready; decide +kernel⟩,
   ⟨WinTk, 7, 15, [5, 7], 0, by unfold Ready; decide +kernel⟩,
   ⟨WinCl, 7, 15, [5, 7], { WinCl.cvb.seqs[(7 : Fin 16)].wins[(15 : Fin 16)] with st := .taking, lastFt := 2560 }, by unfold Ready; decide +kernel⟩,
   ⟨(WinSt0 .untaken), 7, 15, by unfold Ready; decide +kernel⟩,
   ⟨(R.put SEQn_STAT_running 1 7), 7, by unfold Ready; decide +kernel⟩⟩

end WF

namespace WG

def SeqOn (src : Nat) : State := ((R.put SEQn_CTL_en 1 7).put SEQn_TRIG_src src 7).put SEQ_TTt_CTL_en 1 3
def TtOn : State := { SeqOn 0x1B with cvb := { (SeqOn 0x1B).cvb with tt := vupd (SeqOn 0x1B).cvb.tt 3 (fun _ => some 5) } }

/-- States and operands that meet the hypotheses of each clause of `Triggers`. -/
theorem witness_Triggers :
    (∃ (s : State) (a : Access) (q : Sq), Ready s ∧ Admits s a ∧ (s.getB SEQn_CTL_en q.val = true) ∧ (s.getB SEQn_STAT_running q.val = false) ∧
      (s.get SEQn_TRIG_src q.val = 1)) ∧
    (∃ (s : State) (a : Access) (q : Sq) (v : Nat), Ready s ∧ Admits s a ∧ (s.getB SEQn_CTL_en q.val = true) ∧ (seqFeedsRun s q.val = false) ∧
      (v / 2 ^ SEQn_CTL_en.lsb % 2 = 0) ∧ v / 2 ^ SEQn_CTL_policy.lsb % 4 ≠ 3) ∧
    (∃ (s : State) (p : Fin 4) (q : Sq), Ready s ∧ (s.getB SEQ_TTt_CTL_en p.val = true) ∧ (s.cvb.tt[p].isSome = true) ∧
      (s.get SEQn_TRIG_src q.val = 0x18 + p.val) ∧ (s.getB SEQn_CTL_en q.val = true) ∧ (s.getB SEQn_STAT_running q.val = false)) ∧
    (∃ (s : State) (p : Fin 4), Ready s ∧ (s.cvb.tt[p] = none)) ∧
    (∃ (s : State) (p : Fin 4) (r : Bool) (q : Sq), Ready s ∧ (s.get SEQn_TRIG_src q.val = (if r then 0x20 else 0x24) + p.val) ∧
      (s.getB SEQn_CTL_en q.val = true) ∧ (s.getB SEQn_STAT_running q.val = false)) ∧
    (∃ (s : State) (a : Access) (c : Cv) (k : Fin 4) (v : Nat), Ready s ∧ Admits s a ∧ (s.getB CVc_INJk_start c.val k.val = false) ∧
      (v / 2 ^ CVc_INJk_start.lsb % 2 = 1) ∧ (windowOk (v / 2 ^ CVc_INJk_shift.lsb % 2 ^ CVc_INJk_shift.width)
        (v / 2 ^ CVc_INJk_log2n.lsb % 2 ^ CVc_INJk_log2n.width) (v / 2 ^ CVc_INJk_input.lsb % 2 ^ CVc_INJk_input.width) = true)) ∧
    (∃ (s : State) (c : Cv) (k : Fin 4) (codes : List Int), Ready s ∧
      ((s.cvb.conv[c].work = .inj k.val ∨ s.cvb.conv[c].injOut.any (fun e => e.slot == k.val) = true)) ∧
    (2 ^ s.get CVc_INJk_log2n c.val k.val ≤ codes.length)) :=
  ⟨⟨(SeqOn 1), A, 7, by unfold Admits Ready; decide +kernel⟩,
   ⟨(SeqOn 1), A, 7, 0, by unfold Admits Ready; decide +kernel⟩,
   ⟨TtOn, 3, 7, by unfold Ready; decide +kernel⟩,
   ⟨R, 2, by unfold Ready; decide +kernel⟩,
   ⟨(SeqOn 0x27), 3, false, 7, by unfold Ready; decide +kernel⟩,
   ⟨R, A, 5, 3, (2 ^ CVc_INJk_start.lsb + 2 ^ CVc_INJk_log2n.lsb + 9 * 2 ^ CVc_INJk_input.lsb + 8 * 2 ^ CVc_INJk_shift.lsb),
     by unfold Admits Ready; decide +kernel⟩,
   ⟨(R.modConv 5 (fun c => { c with work := .inj 3 })), 5, 3, [1, 2], by unfold Ready; decide +kernel⟩⟩

end WG

namespace WH

def Cv3 : State := ((R.put CVc_STAT_state 3 5).put CVB_CTL_bgcal_en 1).modConv 5 (fun c => { c with calDone := true })

/-- States and operands that meet the hypotheses of each clause of `Converters`. -/
theorem witness_Converters :
    (∃ (s : State) (c : Cv) (a : Access), Ready s ∧ Admits s a ∧ ((feedsRunning s c = false ∨ s.getB CVc_CFG_partner_en c.val = true))) ∧
    (∃ (s : State) (c : Cv), Ready s ∧ (calMayStart s c = true)) ∧
    (∃ (s : State) (c : Cv), Ready s ∧ (s.cvb.conv[c].work = .cal)) ∧
    (∃ (s : State) (c : Cv), Ready s ∧ (s.getB CVB_CTL_bgcal_en = true) ∧ (cvSt s c = 3) ∧ (s.cvIdle c = true) ∧
      (gapHolds s c (ckaAt s s.nowFt) (64 + s.get CVc_CFG_mux_settle c.val) = true)) ∧
    (∃ (s : State) (c : Cv), Ready s ∧ (s.getB CVB_CTL_bgcal_en = true) ∧ cvMode s c ≠ 3) ∧
    (∃ (s : State) (c : Cv), Ready s ∧ (mayShut s c = true)) ∧
    (∃ (s : State) (c : Cv), Ready s ∧ (cvSt s c = 1)) ∧
    (∃ (s : State) (c : Cv), Ready s ∧ ((cvSt s c = 2 ∨ cvSt s c = 4 ∨ (cvSt s c = 0 ∧ cvMode s c ≠ 3)))) ∧
    (∃ (s : State) (c : Cv), Ready s ∧ s.get CVc_CFG_ref_mode c.val ≠ 0 ∧ (s.getB CVc_CFG_ref_en c.val = true)) ∧
    (∃ (s : State) (c : Cv) (j : _), Ready s ∧ (cvSt s c = 3) ∧ (s.cvIdle c = true) ∧
      (nextScan (s.get CVc_IDLESCAN_mask c.val) (s.get CVc_STAT_cur_input c.val) = some j)) :=
  ⟨⟨R, 5, A, by unfold Admits Ready; decide +kernel⟩,
   ⟨((Cv3.put CVc_CAL_full 1 5).put CVc_STAT_ref_ready 1 5), 5, by unfold Ready; decide +kernel⟩,
   ⟨(Cv3.modConv 5 (fun c => { c with work := .cal })), 5, by unfold Ready; decide +kernel⟩,
   ⟨(Cv3.put CVc_CAL_bg_slice 30 5), 5, by unfold Ready; decide +kernel⟩,
   ⟨(Cv3.put CVc_CAL_bg_busy 1 5), 5, by unfold Ready; decide +kernel⟩,
   ⟨(Cv3.put CVc_CFG_pwr 3 5), 5, by unfold Ready; decide +kernel⟩,
   ⟨(R.put CVc_STAT_state 1 5), 5, by unfold Ready; decide +kernel⟩,
   ⟨(R.put CVc_STAT_state 2 5), 5, by unfold Ready; decide +kernel⟩,
   ⟨((R.put CVc_CFG_ref_mode 1 5).put CVc_CFG_ref_en 1 5), 5, by unfold Ready; decide +kernel⟩,
   ⟨(Cv3.put CVc_IDLESCAN_mask 512 5), 5, 9, by unfold Ready; decide +kernel⟩⟩

end WH

namespace WI

def Cmp1 (out : Nat) : State := (((R.put CMPi_CFG_en 1 47).put CMPi_STAT_hi_out out 47).put CMPi_CFG_filt 0 47).put CVB_OW_CTL_period 1 |>.put CMPi_CFG_ow_periodic 1 47

/-- States and operands that meet the hypotheses of each clause of `Comparators`. -/
theorem witness_Comparators :
    (∃ (s : State) (i : Ain) (x : Int), Ready s ∧ (s.getB CMPi_CFG_en i.val = true) ∧ (s.getB CMPi_STAT_hi_out i.val = false) ∧
      (s.getS CMPi_THR_hi i.val < x) ∧ (s.get CMPi_CFG_filt i.val + 1 ≤ s.cvb.cmps[i].hiCnt + 1)) ∧
    (∃ (s : State) (i : Ain) (x : Int), Ready s ∧ (s.getB CMPi_CFG_en i.val = true) ∧ (s.getB CMPi_STAT_hi_out i.val = true) ∧
      (x ≤ s.getS CMPi_THR_hi i.val - s.get CMPi_CFG_hyst i.val)) ∧
    (∃ (s : State) (i : Ain), Ready s ∧ (s.getB CVB_OW_CTL_period = true) ∧ (s.getB CMPi_CFG_ow_periodic i.val = true) ∧ (s.cvb.cmps[i].ow = .idle)) ∧
    (∃ (s : State) (i : Ain) (p m : List Int), Ready s ∧ (owMayEnd s i = true) ∧ (owBoth s i p m = true)) ∧
    (∃ (s : State) (i : Ain) (p m : List Int), Ready s ∧ (owMayEnd s i = true) ∧ (owBoth s i p m = false)) :=
  ⟨⟨(Cmp1 0), 47, ((Cmp1 0).getS CMPi_THR_hi 47 + 1), by unfold Ready; decide +kernel⟩,
   ⟨(Cmp1 1), 47, ((Cmp1 1).getS CMPi_THR_hi 47 - (Cmp1 1).get CMPi_CFG_hyst 47), by unfold Ready; decide +kernel⟩,
   ⟨(Cmp1 1), 47, by unfold Ready; decide +kernel⟩,
   ⟨(R.modCmp 47 (fun c => { c with ow := .got })), 47, (List.replicate 16 5), (List.replicate 16 4), by unfold Ready; decide +kernel⟩,
   ⟨(R.modCmp 47 (fun c => { c with ow := .winP })), 47, [], [], by unfold Ready; decide +kernel⟩⟩

end WI

namespace WJ

def Enc (code : Nat) : State := ((R.put PIFn_CTL_en 1 3).put PIFn_CTL_pri_src code 3).put PIFn_GEOM_cpr 4096 3
def EncLine (s : State) (k : Fin 6) (logic level : Bool) : State := s.modPif 3 (fun p => { p with lines := p.lines.set k ⟨logic, level, none⟩ })
def EncBoth : State := (EncLine (Enc 1) 0 true false).modPif 3 (fun p => { p with abPrev := some ⟨0, 1, 7, 9, p.abz, 3⟩ })

/-- States and operands that meet the hypotheses of each clause of `EncoderEdges`. -/
theorem witness_EncoderEdges :
    (∃ (s : State) (n : Ch) (ap bp zp : Bool), Ready s ∧ (srcUsed s n 1 = true) ∧ ap ≠ (s.pif n).lines[0].logic ∧ ap ≠ (s.pif n).lines[0].level ∧
      (((s.pif n).lines[0].accTs = none ∨ s.get PIFn_FILT_min_edge n.val ≤ s.now - (s.pif n).lines[0].accTs.getD 0)) ∧
    (bp = (s.pif n).lines[1].logic) ∧ (zp = (s.pif n).lines[2].logic) ∧ (abzUndo s n 0 = none) ∧
      ((s.pif n).posSet.all (fun p => p.1 != s.now) = true)) ∧
    (∃ (s : State) (n : Ch), Ready s ∧ (srcUsed s n 1 = true) ∧ (s.pif n).lines[0].logic ≠ (s.pif n).lines[0].level ∧
      (((s.pif n).lines[0].accTs = none ∨ s.get PIFn_FILT_min_edge n.val ≤ s.now - (s.pif n).lines[0].accTs.getD 0)) ∧ (abzUndo s n 0 = none) ∧
    ((s.pif n).posSet.all (fun p => p.1 != s.now) = true)) ∧
    (∃ (s : State) (n : Ch) (u : AbPrev), Ready s ∧ (srcUsed s n 1 = true) ∧ (s.pif n).lines[0].logic ≠ (s.pif n).lines[0].level ∧
      (((s.pif n).lines[0].accTs = none ∨ s.get PIFn_FILT_min_edge n.val ≤ s.now - (s.pif n).lines[0].accTs.getD 0)) ∧ (abzUndo s n 0 = some u)) ∧
    (∃ (s : State) (n : Ch), Ready s ∧ (srcUsed s n 1 = true)) ∧
    (∃ (s : State) (n : Ch), Ready s ∧ ((s.pif n).zEdge = true) ∧ (s.getB PIFn_ZSTAT_referenced n.val = false)) ∧
    (∃ (s : State) (n : Ch), Ready s ∧ (srcUsed s n 1 = true) ∧ (s.getB PIFn_CTL_z_en n.val = true) ∧ ((s.pif n).zMiss = false) ∧
      (3 * (s.get PIFn_GEOM_cpr n.val : Int) ≤ 2 * |(s.pif n).sinceIndex|)) ∧
    (∃ (s : State) (n : Ch) (u v w : Bool),
      let st := (if u then 4 else 0) + (if (s.pif n).lines[4].level then 2 else 0) + (if (s.pif n).lines[5].level then 1 else 0)
      Ready s ∧ (srcUsed s n 2 = true) ∧ u ≠ (s.pif n).lines[3].logic ∧ u ≠ (s.pif n).lines[3].level ∧
      (((s.pif n).lines[3].accTs = none ∨ s.get PIFn_FILT_min_edge n.val ≤ s.now - (s.pif n).lines[3].accTs.getD 0)) ∧
      (v = (s.pif n).lines[4].logic) ∧ (w = (s.pif n).lines[5].logic) ∧ ((s.pif n).sector = none) ∧ st ≠ 0 ∧ st ≠ 7) ∧
    (∃ (s : State) (n : Ch), Ready s ∧ (srcUsed s n 2 = true) ∧ ((s.pif n).lines[3].level = (s.pif n).lines[4].level) ∧
      ((s.pif n).lines[4].level = (s.pif n).lines[5].level)) ∧
    (∃ (s : State), Ready s ∧ (0 < s.pos.enco.lag) ∧ (s.getB ENCO_CTL_en = true) ∧ (s.pos.enco.last + 20 ≤ s.now)) :=
  ⟨⟨(Enc 1), 3, true, false, false, by unfold Ready; decide +kernel⟩,
   ⟨(EncLine (Enc 1) 0 true false), 3, by unfold Ready; decide +kernel⟩,
   ⟨EncBoth, 3, ⟨0, 1, 7, 9, EncBoth.pos.pifs[(3 : Fin 4)].abz, 3⟩, by unfold Ready; decide +kernel⟩,
   ⟨(Enc 1), 3, by unfold Ready; decide +kernel⟩,
   ⟨(R.modPif 3 (fun p => { p with zEdge := true })), 3, by unfold Ready; decide +kernel⟩,
   ⟨(((Enc 1).put PIFn_CTL_z_en 1 3).modPif 3 (fun p => { p with sinceIndex := -12288 })), 3, by unfold Ready; decide +kernel⟩,
   ⟨(EncLine (Enc 2) 4 false true), 3, true, false, false, by unfold Ready; dsimp only; decide +kernel⟩,
   ⟨(Enc 2), 3, by unfold Ready; decide +kernel⟩,
   ⟨{ (R.put ENCO_CTL_en 1) with ts := 20#64, pos := { R.pos with enco := ⟨0, 1, 0⟩ } }, by unfold Ready; decide +kernel⟩⟩

end WJ

namespace WK

def Pf (code : Nat) : State := (((R.put PIFn_CTL_en 1 3).put PIFn_CTL_pri_src code 3).put PIFn_SER_pos_bits 12 3).put PIFn_SER_st_bits 12 3
def PfRun (code : Nat) : State := (Pf code).modPif 3 (fun p => { p with frame := ⟨true, 0, none, 0, false, true, [0]⟩ })
def Rsv3 : State := { ((((Pf 3).put PIFn_RSV_AMP_amp_lo 0 3).put PIFn_RSV_AMP_amp_hi 65535 3).put PIFn_EXC_en 1 3).put PIFn_EXC_freq 10000 3 with ts := 40000#64 }
def PfDue (code : Nat) : State := (Pf code).modPif 3 (fun p => { p with frame := ⟨false, 0, none, 0, false, false, [0]⟩ })

/-- States and operands that meet the hypotheses of each clause of `SampledPositions`. -/
theorem witness_SampledPositions :
    (∃ (s : State) (n : Ch) (sin cos : List (Int × Nat)) (due : Nat), let x := demod (s.get PIFn_RSV_PH_phase n.val) sin
      let y := demod (s.get PIFn_RSV_PH_phase n.val) cos
      Ready s ∧ (srcUsed s n 3 = true) ∧ (sin.length = due) ∧ (cos.length = due) ∧ ((s.pif n).rsv.has = false) ∧ ((excCentre s n).isSome = true) ∧
      (((s.get PIFn_RSV_AMP_amp_lo n.val : Int) * 2 ^ 30) ^ 2 ≤ x * x + y * y) ∧
      (x * x + y * y ≤ ((s.get PIFn_RSV_AMP_amp_hi n.val : Int) * 2 ^ 30) ^ 2)) ∧
    (∃ (s : State) (n : Ch), Ready s ∧ (srcUsed s n 4 = true ∨ srcUsed s n 5 = true) ∧ ((s.pif n).frame.run = false) ∧
      ((s.pif n).frame.wait = false) ∧ ((s.pif n).frame.last = none) ∧ ((serDue s n).isSome = true)) ∧
    (∃ (s : State) (n : Ch), Ready s ∧ (srcUsed s n 4 = true ∨ srcUsed s n 5 = true) ∧ ((s.pif n).frame.run = false) ∧
      ((s.pif n).frame.wait = false) ∧ ((s.pif n).frame.last = none) ∧ ((serDue s n).isSome = true) ∧ ((s.pif n).frame.back = false)) ∧
    (∃ (s : State) (n : Ch), Ready s ∧ (srcUsed s n 4 = true ∨ srcUsed s n 5 = true) ∧ ((s.pif n).frame.run = true) ∧ ((serDue s n).isSome = true)) ∧
    (∃ (s : State) (n : Ch) (bits : List Bool), Ready s ∧ ((s.pif n).frame.run = true) ∧ (serCode s n = 5) ∧ (s.getB PIFn_SER_parity n.val = false) ∧
      (s.getB PIFn_SER_gray n.val = false) ∧ (bits.length = s.get PIFn_SER_pos_bits n.val + 1) ∧ (bits.getLast? = some false) ∧
    ((s.pif n).ser.has = false)) ∧
    (∃ (s : State) (n : Ch), Ready s ∧ ((s.pif n).frame.run = true) ∧ (serCode s n = 4)) ∧
    (∃ (s : State) (n : Ch), Ready s ∧ ((s.pif n).abz.est.valid = true) ∧
      (s.get PIFn_SPDCFG_spd_timeout n.val * tkUs ≤ s.now - (s.pif n).abz.est.tLast)) ∧
    (∃ (s : State) (n : Ch), Ready s ∧ (s.getB PIFn_CTL_en n.val = true) ∧ (s.replayed n.val = false)) ∧
    (∃ (s : State) (n : Ch) (a : Access) (v : Nat), Ready s ∧ Admits s a ∧ (v / 2 ^ 12 % 2 = 1) ∧ ((∀ f ∈ [PIFn_CTL_dir_inv, PIFn_CTL_trig_sel,
      PIFn_CTL_fb_en, PIFn_CTL_z_corr, PIFn_CTL_z_en, PIFn_CTL_sec_src,
        PIFn_CTL_pri_src, PIFn_CTL_en], s.get f n.val = v / 2 ^ f.lsb % 2 ^ f.width)) ∧
        (pifSrcOk (s.getB PIFn_CTL_en n.val) (s.get PIFn_CTL_pri_src n.val) (s.get PIFn_CTL_sec_src n.val) = true) ∧
        (pifClkOk (s.get PIFn_CTL_pri_src n.val) (s.get PIFn_SER_clk_div n.val) = true) ∧ (srcHealthy s n true = true) ∧
        ((srcView s n (srcCodeOf s n true)).2.2.2.1 = true)) :=
  ⟨⟨Rsv3, 3, [(100, 1)], [(50, 2)], 1, by unfold Ready; dsimp only; decide +kernel⟩,
   ⟨(PfDue 5), 3, by unfold Ready; decide +kernel⟩,
   ⟨(PfDue 4), 3, by unfold Ready; decide +kernel⟩,
   ⟨(PfRun 5), 3, by unfold Ready; decide +kernel⟩,
   ⟨(((PfRun 5).put PIFn_SER_parity 0 3).put PIFn_SER_gray 0 3), 3, (List.replicate 13 false), by unfold Ready; decide +kernel⟩,
   ⟨(PfRun 4), 3, by unfold Ready; decide +kernel⟩,
   ⟨((R.put PIFn_SPDCFG_spd_timeout 0 3).modPif 3 (fun p => { p with abz := { p.abz with est := { p.abz.est with valid := true } } })), 3, by unfold Ready; decide +kernel⟩,
   ⟨(Pf 1), 3, by unfold Ready; decide +kernel⟩,
   ⟨((Pf 1).modPif 3 (fun p => { p with abz := { p.abz with has := true, est := { p.abz.est with valid := true } } })), 3, A, (2 ^ 12 + ([PIFn_CTL_dir_inv, PIFn_CTL_trig_sel, PIFn_CTL_fb_en, PIFn_CTL_z_corr, PIFn_CTL_z_en, PIFn_CTL_sec_src, PIFn_CTL_pri_src, PIFn_CTL_en].map (fun f => (Pf 1).get f 3 * 2 ^ f.lsb)).sum), by unfold Admits Ready; decide +kernel⟩⟩

end WK

namespace WL7

def R1 : State := nextOr (exec (.carrierEnable A (.ch 0) 1) R) R
def R2 : State := nextOr (exec (.carrierEnable A (.aux 1) 1) R) R
def R3 : State := (R.modCarr (.ch 2) (fun c => {c with waiting := true}))
def R4 : State := cput R1 (.ch 0) CHn_CARR_rl LEGk_CARR_rl 1
def R5 (r : Carr) : State := (cput R r CHn_CARR_mode LEGk_CARR_mode 2).modCarr r (fun c => {c with run := true, fresh := false})
def R6 : State := (R.put CHn_CARR_sync 1 2).modCarr (.ch 2) (fun c => {c with waiting := true})

/-- States and operands that meet the hypotheses of each clause of `Carriers`. -/
theorem witness_Carriers :
    (∃ (s : State) (a : Access) (r : Carr) (v : Nat), Ready s ∧ Admits s a ∧ ((s.carrier r).run = false) ∧ ((s.carrier r).waiting = false) ∧
      s.get TLS_STAT_role ≠ 2 ∧ (cget s r CHn_CARR_en LEGk_CARR_en = 0) ∧ (v % 2 = 1) ∧ (v / 16 % 4 < 2) ∧ (v / 256 % 4 ≤ 2) ∧
    ((v / 16 % 4 = 0 ∨ v / 256 % 4 = 0)) ∧ ((∀ n, r = .ch n → v / 4096 % 2 = 0 ∧ s.get CHn_CARR_sync n.val = 0 ∧ s.get CHn_CTL_dmode n.val ≤ 1 ∧
      (n = 1 → s.six = false))) ∧ ((∀ k, r = .aux k → v / 2048 % 2 = 0 ∧ v / 64 % 4 ≤ 1 ∧ v / 4 % 4 ≤ 1))) ∧
    (∃ (s : State) (a : Access) (r : Carr) (v : Nat), Ready s ∧ Admits s a ∧ ((s.carrier r).run = true) ∧ (cget s r CHn_CARR_en LEGk_CARR_en = 1) ∧
      (v % 2 = 0) ∧ (carrCfgOk s r = true) ∧ (carrMode s r < 2) ∧ ((∀ n, r = .ch n → v / 16 % 4 = s.get CHn_CARR_mode n.val ∧
    v / 256 % 4 = s.get CHn_CARR_rl n.val ∧
        v / 4096 % 2 = s.get CHn_CARR_sync n.val ∧ v / 65536 % 65536 = s.get CHn_CARR_phase n.val)) ∧ ((∀ k, r = .aux k →
        v / 4 % 4 = s.get LEGk_CARR_src (12 + k.val) ∧ v / 4 % 4 ≤ 1 ∧ v / 16 % 4 = s.get LEGk_CARR_mode (12 + k.val) ∧
        v / 64 % 4 = s.get LEGk_CARR_dmode (12 + k.val) ∧ v / 256 % 4 = s.get LEGk_CARR_rl (12 + k.val) ∧
        v / 2048 % 2 = s.get LEGk_CARR_sync (12 + k.val) ∧ v / 4096 % 4 = s.get LEGk_CARR_sync_ch (12 + k.val) ∧
        v / 65536 % 65536 = s.get LEGk_CARR_phase (12 + k.val)))) ∧
    (∃ (s : State) (r : Carr), Ready s ∧ ((s.carrier r).waiting = true) ∧
      ((peerStart s = true ∨ cget s r CHn_CARR_sync LEGk_CARR_sync = 0 ∨ ((s.carrier r).startFt.any fun f => f / 128 ≤ s.now) = true))) ∧
    (∃ (s : State) (r : Carr), Ready s ∧ ((s.carrier r).waiting = true) ∧ (peerStart s = false) ∧ (cget s r CHn_CARR_sync LEGk_CARR_sync = 1) ∧
      ((∀ f, (s.carrier r).startFt = some f → s.now < f / 128))) ∧
    (∃ (s : State) (r : Carr), Ready s ∧ ((s.carrier r).run = true) ∧ (carrMode s r < 2) ∧ s.get TLS_STAT_role ≠ 2 ∧ ((∀ n, r = .ch n →
      s.replayed n.val = false))) ∧
    (∃ (s : State) (r : Carr), Ready s ∧ ((s.carrier r).run = true) ∧ (carrMode s r = 0) ∧ (carrRl s r = 1) ∧ ((∀ n, r = .ch n →
      spRuns s n = false))) ∧
    (∃ (s : State) (r : Carr), Ready s ∧ ((s.carrier r).run = true) ∧ (carrMode s r = 0) ∧ (carrRl s r = 0)) ∧
    (∃ (s : State) (r : Carr), Ready s ∧ ((s.carrier r).run = true) ∧ (2 ≤ carrMode s r) ∧ ((s.carrier r).fresh = false) ∧
      ((s.carrier r).evt = true) ∧ (perMinDone s r = false)) ∧
    (∃ (s : State) (r : Carr), Ready s ∧ ((s.carrier r).run = true) ∧ (2 ≤ carrMode s r) ∧ ((s.carrier r).fresh = false) ∧
      ((s.carrier r).endStored = true) ∧ s.get TLS_STAT_role ≠ 2) ∧
    (∃ (s : State) (r : Carr), Ready s ∧ ((s.carrier r).run = true) ∧ (2 ≤ carrMode s r) ∧ ((s.carrier r).fresh = false) ∧ s.get TLS_STAT_role ≠ 2) :=
  ⟨⟨R, A, (.ch 0), 1, by unfold Admits Ready; decide +kernel⟩,
   ⟨R1, A, (.ch 0), 0, by unfold Admits Ready; decide +kernel⟩,
   ⟨R3, (.ch 2), by unfold Ready; decide +kernel⟩,
   ⟨R6, (.ch 2), by unfold Ready; decide +kernel⟩,
   ⟨R1, (.ch 0), by unfold Ready; decide +kernel⟩,
   ⟨R4, (.ch 0), by unfold Ready; decide +kernel⟩,
   ⟨R1, (.ch 0), by unfold Ready; decide +kernel⟩,
   ⟨((R5 (.aux 1)).modCarr (.aux 1) (fun c => {c with evt := true, zeroFt := 0})), (.aux 1), by unfold Ready; decide +kernel⟩,
   ⟨((R5 (.ch 1)).modCarr (.ch 1) (fun c => {c with endStored := true})), (.ch 1), by unfold Ready; decide +kernel⟩,
   ⟨((R5 (.ch 1)).modCarr (.ch 1) (fun c => {c with endStored := true})), (.ch 1), by unfold Ready; decide +kernel⟩⟩

end WL7

namespace WL8

def T8 (s : State) (items : List ChuckItem := []) : State := s
def W4 : State := { ((((R.put CHn_CTL_src 1 1).modCarr (.ch 1) (fun c => {c with run := true})).modCarr (.aux 2) (fun c => {c with run := true, deadline := 10})).modLeg 3 (fun g => {g with waitH := true, waitL := true, edges := [(100,true)]})) with landing := [⟨3, .position P0, 0, false⟩] }

/-- States and operands that meet the hypotheses of each clause of `CommitsAndEdges`. -/
theorem witness_CommitsAndEdges :
    (∃ (s : State) (n : Ch) (c : Commit), Ready s ∧ ((s.sp n).out = some c) ∧ s.get CHn_CTL_src n.val ≠ 1 ∧ ((s.carrier (.ch n)).run = true) ∧
      (dlApplies s n = true) ∧ (s.chan n.val).safeTs ≠ some s.now) ∧
    (∃ (s : State) (n : Ch) (c : Commit), Ready s ∧ ((s.sp n).out = some c) ∧ ((s.chan n.val).safeTs = some s.now)) ∧
    (∃ (s : State) (n : Ch), Ready s ∧ ((s.carrier (.ch n)).run = true) ∧ ((s.carrier (.ch n)).dlPassed = false) ∧ (dlApplies s n = true)) ∧
    (∃ (s : State) (a : Access) (n : Ch) (v : Nat), Ready s ∧ Admits s a ∧ (v / 2 ^ 31 % 2 = 1) ∧ s.get CHn_CTL_src n.val ≠ 0 ∧ ((n = 1 →
      s.six = false)) ∧ ((s.carrier (.ch n)).run = true) ∧ (dlApplies s n = false) ∧ (s.owl.replay = none) ∧ (s.chan n.val).safeTs ≠ some s.now) ∧
    (∃ (s : State) (a : Access) (l : Fin 4) (v : Nat), Ready s ∧ Admits s a ∧ (v / 2 ^ 31 % 2 = 1) ∧ s.get LEGk_CARR_src (12 + l.val) ≠ 1 ∧
      ((s.carrier (.aux l)).run = true) ∧ (carrMode s (.aux l) < 2) ∧ (s.now < (s.carrier (.aux l)).deadline)) ∧
    (∃ (s : State) (a : Access) (l : Fin 4) (v : Nat), Ready s ∧ Admits s a ∧ (v / 2 ^ 31 % 2 = 1) ∧ s.get LEGk_CARR_src (12 + l.val) ≠ 1 ∧
      ((s.carrier (.aux l)).run = true) ∧ (2 ≤ carrMode s (.aux l))) ∧
    (∃ (s : State) (k : Leg), Ready s ∧ (s.gen.legs[k].waitH = true)) ∧
    (∃ (s : State) (k : Leg), Ready s ∧ (s.gen.legs[k].waitL = true)) ∧
    (∃ (s : State) (k : Leg) (e : Nat × Bool) (rest : List (Nat × Bool)), Ready s ∧ (s.gen.legs[k].edges = e :: rest)) ∧
    (∃ (s : State) (d : Nat), Ready s ∧ (129 ≤ d) ∧ (d < 256)) ∧
    (∃ (s : State) (n : Ch) (r : PosRec) (dis : Bool) (items : List ChuckItem), Ready s ∧ (s.landing = ⟨2 + n.val, .position r, 0, dis⟩ :: items)) :=
  ⟨⟨((Run 1).modSp 1 (fun p => {p with out := some C0})), 1, C0, by unfold Ready; decide +kernel⟩,
   ⟨(((Run 1).modSp 1 (fun p => {p with out := some C0})).modChan 1 (fun c => {c with safeTs := some 0})), 1, C0, by unfold Ready; decide +kernel⟩,
   ⟨((Run 1).modSp 1 (fun p => {p with out := some C0})), 1, by unfold Ready; decide +kernel⟩,
   ⟨W4, A, 1, (2^31+5), by unfold Admits Ready; decide +kernel⟩,
   ⟨W4, A, 2, (2^31+5), by unfold Admits Ready; decide +kernel⟩,
   ⟨(cput W4 (.aux 2) CHn_CARR_mode LEGk_CARR_mode 2), A, 2, (2^31+5), by unfold Admits Ready; decide +kernel⟩,
   ⟨W4, 3, by unfold Ready; decide +kernel⟩,
   ⟨W4, 3, by unfold Ready; decide +kernel⟩,
   ⟨W4, 3, (100, true), [], by unfold Ready; decide +kernel⟩,
   ⟨((Run 1).modSp 1 (fun p => {p with out := some C0})), 200, by unfold Ready; decide +kernel⟩,
   ⟨W4, 1, P0, false, [], by unfold Ready; decide +kernel⟩⟩

end WL8

namespace WL9

def W9 : State := (((R.put FLTj_CFG_mode 2 3).put ITRIPm_CFG_mode 2 3).put CMPi_STAT_hi_out 1 0).put FLTj_MAP_legs 8 3
def W9b : State := nextOr (exec (.faultInputActive 3 false) W9) W9
def W9c : State := nextOr (exec (.faultInputInactive 3 true) W9b) W9b

/-- States and operands that meet the hypotheses of each clause of `FaultInputsAndGate`. -/
theorem witness_FaultInputsAndGate :
    (∃ (s : State) (j : Fin 16) (l : Bool), Ready s ∧ (pinAsserts s j l = true) ∧ (s.gen.flts[(⟨j.val, by omega⟩ : Fin 32)].blankTs ≤ s.now) ∧
      (s.get FLTj_CFG_mode j.val = 2) ∧ (s.getBit FLT_STAT_flt j.val = false)) ∧
    (∃ (s : State) (j : Fin 16) (l : Bool), Ready s ∧ (pinAsserts s j l = false)) ∧
    (∃ (s : State) (j : Fin 16) (l : Bool), Ready s ∧ (pinAsserts s j l = true) ∧ (s.gen.flts[(⟨j.val, by omega⟩ : Fin 32)].blankTs ≤ s.now) ∧
      (s.get FLTj_CFG_mode j.val = 0)) ∧
    (∃ (s : State) (j : Fin 16) (l : Bool), Ready s ∧ (pinAsserts s j l = false)) ∧
    (∃ (s : State) (m : Fin 16), Ready s ∧ (s.gen.flts[(⟨16 + m.val, by omega⟩ : Fin 32)].blankTs ≤ s.now) ∧ (itripIn s m.val = true) ∧
      (s.get ITRIPm_CFG_mode m.val = 2) ∧ (s.getBit FLT_STAT_itrip m.val = false)) ∧
    (∃ (s : State) (m : Fin 16), Ready s ∧ (itripIn s m.val = true) ∧ (s.get ITRIPm_CFG_mode m.val = 2) ∧ (s.getBit FLT_STAT_itrip m.val = false)) ∧
    (∃ (s : State) (m : Fin 16), Ready s ∧ (itripIn s m.val = false)) ∧
    (∃ (s : State) (a : Access) (j : Fin 16) (v : Nat), Ready s ∧ Admits s a ∧ (v.testBit j.val = true) ∧ (s.getBit FLT_STAT_flt j.val = true) ∧
      (s.gen.flts[(⟨j.val, by omega⟩ : Fin 32)].act = false)) ∧
    (∃ (s : State) (a : Access) (j : Fin 16), Ready s ∧ Admits s a ∧ (s.getBit FLT_STAT_flt j.val = true) ∧ (s.gen.flts[(⟨j.val,
      by omega⟩ : Fin 32)].act = true) ∧ ((List.finRange 32).all (fun b => b.val = j.val || s.gen.flts[b].act) = true)) ∧
    (∃ (s : State) (g : Fin 4), Ready s ∧ (s.get (gateFld g) = 1) ∧ ((∀ k : Fin 4, k ≠ g → s.get (gateFld k) = 0))) ∧
    (∃ (s : State), Ready s ∧ (s.bdg.pulse.isSome = true) ∧ s.get BDG_STATE_unit ≠ 2 ∧ (s.bdg.clkBad.testBit 1 = false)) :=
  ⟨⟨W9, 3, false, by unfold Ready; decide +kernel⟩,
   ⟨W9, 3, true, by unfold Ready; decide +kernel⟩,
   ⟨W9, 4, false, by unfold Ready; decide +kernel⟩,
   ⟨W9, 3, true, by unfold Ready; decide +kernel⟩,
   ⟨W9, 3, by unfold Ready; decide +kernel⟩,
   ⟨W9, 3, by unfold Ready; decide +kernel⟩,
   ⟨((Run 0).modLeg 0 (fun g => {g with cmd := true})), 15, by unfold Ready; decide +kernel⟩,
   ⟨W9c, A, 3, 8, by unfold Admits Ready; decide +kernel⟩,
   ⟨{W9b with gen := {W9b.gen with flts := Vector.replicate 32 ⟨true, 0, true⟩}}, A, 3, by unfold Admits Ready; decide +kernel⟩,
   ⟨W9b, 0, by unfold Ready; decide +kernel⟩,
   ⟨((Run 0).modLeg 0 (fun g => {g with cmd := true}) |>.modBdg (fun b => {b with pulse := some 0})), by unfold Ready; decide +kernel⟩⟩

end WL9

namespace WL10

/-- States and operands that meet the hypotheses of each clause of `SpindlePeriods`. -/
theorem witness_SpindlePeriods :
    (∃ (s : State) (e : WordErrs), Ready s ∧ (e = [])) ∧
    (∃ (s : State) (n : Ch) (e : WordErrs), Ready s ∧ (((spEcc s n e).sp n).isOpen = true) ∧ (((spEcc s n e).sp n).spec = 0) ∧
      ((spEcc s n e).get SPn_CTL_spec n.val = 1) ∧ (posReady (spEcc s n e) n = true)) ∧
    (∃ (s : State) (n : Ch), Ready s ∧ ((s.sp n).spec = 1)) ∧
    (∃ (s : State) (n : Ch), Ready s ∧ ((s.sp n).isOpen = true) ∧ ((s.sp n).spec = 2) ∧ ((s.sp n).rejGate = none) ∧
      ((allLanded s n = true ∨ (s.sp n).waitHit = true))) ∧
    (∃ (s : State) (n : Ch) (e : WordErrs), Ready s ∧ (((spEcc s n e).sp n).rejGate.isSome = true)) ∧
    (∃ (s : State) (n : Ch), Ready s ∧ ((s.sp n).isOpen = true) ∧ ((s.sp n).counted = false)) ∧
    (∃ (s : State) (n : Ch), Ready s ∧ ((s.sp n).holdEnd.isSome = true) ∧ ((s.sp n).isOpen = true) ∧ ((s.sp n).counted = false)) ∧
    (∃ (s : State) (n : Ch), Ready s ∧ ((s.sp n).holdEnd.isSome = true) ∧ (((s.sp n).isOpen = false ∨ (s.sp n).counted = true))) ∧
    (∃ (s : State) (a : Access) (n : Ch) (v : Nat), Ready s ∧ Admits s a ∧ (s.replayed n.val = false) ∧ (v % 64 = 63)) ∧
    (∃ (s : State) (a : Access) (n : Ch) (v : Nat), Ready s ∧ Admits s a ∧ (s.replayed n.val = false) ∧ (v % 64 = 1) ∧
      (s.get SPn_SAT_predict n.val = 1)) :=
  ⟨⟨(((Run 1).put SPn_CTL_spec 1 1).modSp 1 (fun p => {p with isOpen := true, posOk := true})), [], by unfold Ready; decide +kernel⟩,
   ⟨(((Run 1).put SPn_CTL_spec 1 1).modSp 1 (fun p => {p with isOpen := true, posOk := true})), 1, [], by unfold Ready; decide +kernel⟩,
   ⟨(((Run 1).put SPn_SAT_predict 1 1).put SPn_SAT_first_period 9 1 |>.modSp 1 (fun p => {p with spec := 1, isOpen := true, rejGate := some 0, holdEnd := some 5})), 1, by unfold Ready; decide +kernel⟩,
   ⟨(((Run 1).put SPn_CTL_spec 1 1).modSp 1 (fun p => {p with isOpen := true, posOk := true, spec := 2, waitHit := true})), 1, by unfold Ready; decide +kernel⟩,
   ⟨(((Run 1).put SPn_SAT_predict 1 1).put SPn_SAT_first_period 9 1 |>.modSp 1 (fun p => {p with spec := 1, isOpen := true, rejGate := some 0, holdEnd := some 5})), 1, [], by unfold Ready; decide +kernel⟩,
   ⟨(((Run 1).put SPn_CTL_spec 1 1).modSp 1 (fun p => {p with isOpen := true, posOk := true})), 1, by unfold Ready; decide +kernel⟩,
   ⟨(((Run 1).put SPn_SAT_predict 1 1).put SPn_SAT_first_period 9 1 |>.modSp 1 (fun p => {p with spec := 1, isOpen := true, rejGate := some 0, holdEnd := some 5})), 1, by unfold Ready; decide +kernel⟩,
   ⟨(((Run 1).put SPn_SAT_predict 1 1).put SPn_SAT_first_period 9 1 |>.modSp 1 (fun p => {p with spec := 1, counted := true, isOpen := true, rejGate := some 0, holdEnd := some 5})), 1, by unfold Ready; decide +kernel⟩,
   ⟨(((Run 1).put SPn_CTL_spec 1 1).modSp 1 (fun p => {p with isOpen := true, posOk := true})), A, 1, 63, by unfold Admits Ready; decide +kernel⟩,
   ⟨(((Run 1).put SPn_SAT_predict 1 1).put SPn_SAT_first_period 9 1 |>.modSp 1 (fun p => {p with spec := 1, isOpen := true, rejGate := some 0, holdEnd := some 5})), A, 1, 1, by unfold Admits Ready; decide +kernel⟩⟩

end WL10

namespace WL11

def W11 : State := (Run 1).put SPn_BANK_seal_b 1 1

/-- States and operands that meet the hypotheses of each clause of `BanksAndProfiles`. -/
theorem witness_BanksAndProfiles :
    (∃ (s : State) (a : Access) (n : Ch) (v : Nat), Ready s ∧ Admits s a ∧ (s.replayed n.val = false) ∧ (v / 4 % 2 = 1) ∧ (v / 512 % 2 = 0) ∧
      (swapRefusal s n = 0)) ∧
    (∃ (s : State) (a : Access) (n : Ch) (v : Nat), let b := 1 - actBank s n.val
      Ready s ∧ Admits s a ∧ (s.replayed n.val = false) ∧ (v / 4 % 2 = 1) ∧ (v / 512 % 2 = 0) ∧ (isSealed s n.val b = false)) ∧
    (∃ (s : State) (a : Access) (n : Ch) (v : Nat), Ready s ∧ Admits s a ∧ (s.replayed n.val = false) ∧ (v / 4 % 2 = 0) ∧ (v / 512 % 2 = 1) ∧
      (s.get SPn_BANK_swap n.val = 0) ∧ ((s.sp n).fbPend = false) ∧ (s.get SPn_BANK_seal_busy n.val = 0)) ∧
    (∃ (s : State) (n : Ch), Ready s ∧ (s.get SPn_BANK_seal_busy n.val = 0)) ∧
    (∃ (s : State) (n : Ch), let b := 1 - actBank s n.val
      Ready s ∧ (s.get SPn_BANK_seal_busy n.val = 1) ∧ (bankOk s n b = true)) ∧
    (∃ (s : State) (n : Ch), let b := 1 - actBank s n.val
      Ready s ∧ (s.get SPn_BANK_seal_busy n.val = 1) ∧ (bankOk s n b = false)) ∧
    (∃ (s : State) (n : Ch) (amp cnt : Nat), Ready s ∧ ((s.sp n).osc.ended = some ((amp : Int), cnt)) ∧ ((s.sp n).osc.cfg.getD 6 0 < amp) ∧
      ((s.sp n).osc.cfg.getD 3 0 ≤ cnt) ∧ ((cnt : Int) ≤ (s.sp n).osc.cfg.getD 4 0)) ∧
    (∃ (s : State) (n : Ch) (amp cnt : Nat), Ready s ∧ ((s.sp n).osc.ended = some ((amp : Int), cnt)) ∧ ((amp : Int) ≤ (s.sp n).osc.cfg.getD 6 0)) ∧
    (∃ (s : State) (n : Ch), Ready s ∧ ((s.sp n).held = true)) ∧
    (∃ (s : State) (a : Access) (v : Nat), Ready s ∧ Admits s a ∧ v / 16 % 4 ≠ s.get SYS_PROFILE_active ∧ ((∀ k : Ch,
      s.chState k.val = 0 ∨ s.chState k.val = 2 ∨ s.chState k.val = 6))) ∧
    (∃ (s : State) (a : Access) (n : Ch) (v : Nat), Ready s ∧ Admits s a ∧ v / 16 % 4 ≠ s.get SYS_PROFILE_active ∧ (s.chState n.val = 3)) ∧
    (∃ (s : State) (v : Nat), Ready s ∧ (s.pwr.profTo = some (v % 4))) :=
  ⟨⟨((R.put SPn_BANK_seal_b 1 1)), A, 1, 4, by unfold Admits Ready; decide +kernel⟩,
   ⟨R, A, 1, 4, by unfold Admits Ready; dsimp only; decide +kernel⟩,
   ⟨((R.modSp 1 (fun p => {p with held := true, osc := {p.osc with ended := some (5,6), cfg := [0,0,0,1,9,0,3]}})).modBdg (fun b => {b with holds := 8})), A, 1, 512, by unfold Admits Ready; decide +kernel⟩,
   ⟨((R.put SPn_BANK_seal_b 1 1)), 1, by unfold Ready; decide +kernel⟩,
   ⟨((bank1 R 1).put SPn_BANK_seal_busy 1 1), 1, by unfold Ready; dsimp only; decide +kernel⟩,
   ⟨(R.put SPn_BANK_seal_busy 1 1), 1, by unfold Ready; dsimp only; decide +kernel⟩,
   ⟨((R.modSp 1 (fun p => {p with held := true, osc := {p.osc with ended := some (5,6), cfg := [0,0,0,1,9,0,3]}})).modBdg (fun b => {b with holds := 8})), 1, 5, 6, by unfold Ready; decide +kernel⟩,
   ⟨((R.modSp 1 (fun p => {p with start := some (takeCkpt R 1), held := true, osc := {p.osc with ended := some (5,6), cfg := [0,0,0,1,9,0,9]}})).modBdg (fun b => {b with holds := 8})), 1, 5, 6, by unfold Ready; decide +kernel⟩,
   ⟨((R.modSp 1 (fun p => {p with held := true, osc := {p.osc with ended := some (5,6), cfg := [0,0,0,1,9,0,3]}})).modBdg (fun b => {b with holds := 8})), 1, by unfold Ready; decide +kernel⟩,
   ⟨((R.put SPn_BANK_seal_b 1 1)), A, 4, by unfold Admits Ready; decide +kernel⟩,
   ⟨((Run 1).modPwr (fun p => {p with profTo := some 2})), A, 1, 32, by unfold Admits Ready; decide +kernel⟩,
   ⟨((R).modPwr (fun p => {p with profTo := some 0})), 32, by unfold Ready; decide +kernel⟩⟩

end WL11

namespace WL12

def W12 : State := ((((((((R.put SPn_FLD_CTL_fw_en 1 1).put SPn_FLD_CTL_obs_en 1 1).put SPn_FLD_CTL_lr_en 1 1).put SPn_FLD_CTL_ke_en 1 1).put SPn_FLD_CTL_mode 2 1).put SPn_FLD_STAT_pll_lock 1 1).put CHn_STATE_state 3 1).modSp 1 (fun p => {p with fld := {p.fld with fwMinT := msFt 10, obs := {p.fld.obs with ok := 200, bad := 200}, watch := {p.fld.watch with lrOn := true, lrT := 10^12, lrLow := 10^12, keOut := 10^12}, grid := {p.fld.grid with lockT := msFt 20, badN := 10, bandT := msFt 100}}}))
def F12 (s : State) (a : Access) (v : Nat) (p : List Int) : Prop := True
def W12b : State := ((((W12.put SPn_FLD_STAT_obs_valid 1 1).put SPn_FLD_STAT_locked 1 1).put SPn_FLD_STAT_ke_abn 1 1).put SPn_FLD_STAT_task 2 1).modSp 1 (fun p => {p with fld := {p.fld with dtc := {p.fld.dtc with hoSince := some 0}}})
def Wp12 (s : State) : State := ((s.put SEQn_STEPk_B_sp_en 1 0 0).put SEQn_STEPk_B_sp_ch 1 0 0).put SEQn_CTL_nsteps 0 0

/-- States and operands that meet the hypotheses of each clause of `FieldStages`. -/
theorem witness_FieldStages :
    (∃ (s : State) (n : Ch), Ready s ∧ (msFt 10 ≤ (s.sp n).fld.fwMinT) ∧ (s.get SPn_FLD_CTL_fw_en n.val = 1)) ∧
    (∃ (s : State) (n : Ch), Ready s ∧ (s.get SPn_FLD_CTL_obs_en n.val = 1) ∧ (s.get SPn_OBS_obs_n n.val ≤ (s.sp n).fld.obs.ok)) ∧
    (∃ (s : State) (n : Ch), Ready s ∧ (s.get SPn_FLD_STAT_obs_valid n.val = 1) ∧ (s.get SPn_OBS_obs_n n.val ≤ (s.sp n).fld.obs.bad)) ∧
    (∃ (s : State) (n : Ch), Ready s ∧ (s.get SPn_FLD_CTL_lr_en n.val = 1) ∧ ((s.sp n).fld.watch.lrOn = true) ∧
      (s.get SPn_FLD_STAT_locked n.val = 0) ∧ (msFt (s.get SPn_LR_T_lr_time n.val) ≤ (s.sp n).fld.watch.lrT)) ∧
    (∃ (s : State) (n : Ch), Ready s ∧ (s.get SPn_FLD_STAT_locked n.val = 1) ∧ (msFt (s.get SPn_LR_T_lr_time n.val) ≤ (s.sp n).fld.watch.lrLow)) ∧
    (∃ (s : State) (n : Ch), Ready s ∧ (s.get SPn_FLD_CTL_ke_en n.val = 1) ∧ (s.get SPn_FLD_STAT_ke_abn n.val = 0) ∧
      (msFt (s.get SPn_KE_T_ke_time n.val) ≤ (s.sp n).fld.watch.keOut)) ∧
    (∃ (s : State) (a : Access) (n : Ch) (v : Nat), Ready s ∧ Admits s a ∧ (s.replayed n.val = false) ∧ (v.testBit SPn_FLD_STAT_ke_abn.lsb = true)) ∧
    (∃ (s : State) (n : Ch), Ready s ∧ (gridMode s n = true) ∧ (msFt 20 ≤ (s.sp n).fld.grid.lockT)) ∧
    (∃ (s : State) (n : Ch), Ready s ∧ (gridMode s n = true) ∧ (s.get SPn_FLD_STAT_pll_lock n.val = 1) ∧ (10 ≤ (s.sp n).fld.grid.badN)) ∧
    (∃ (s : State) (n : Ch), Ready s ∧ (gridMode s n = true) ∧ (msFt 100 ≤ (s.sp n).fld.grid.bandT)) ∧
    (∃ (s : State) (n : Ch), Ready s ∧ (paceLanded s n = false)) ∧
    (∃ (s : State) (n : Ch), Ready s ∧ (dtcDrives s n = true) ∧ (paceLanded s n = true) ∧ ((s.sp n).fld.dtc.decTs = some s.now)) ∧
    (∃ (s : State) (n : Ch), Ready s ∧ (dtcDrives s n = true) ∧ (paceLanded s n = true) ∧ ((s.sp n).fld.dtc.decTs = none)) ∧
    (∃ (s : State) (n : Ch), Ready s ∧ (dtcDrives s n = true) ∧ ((s.sp n).fld.dtc.missRun = 0)) ∧
    (∃ (s : State) (n : Ch), Ready s ∧ (dtcDrives s n = true) ∧ ((s.sp n).fld.dtc.missRun = 1)) ∧
    (∃ (s : State) (n : Ch), Ready s ∧ (s.chRuns n.val = true) ∧ (s.get SPn_FLD_STAT_task n.val = 2) ∧ ((s.sp n).fld.dtc.stopWait = false) ∧
      ((s.sp n).fld.dtc.hoSince = some 0) ∧ (5 * tkMs < s.now)) ∧
    (∃ (s : State) (n : Ch) (peaks : List Int), let I := fun k => peaks.getD k 0
      let mx := ((List.range 6).map I).foldl max (I 0)
      let mn := ((List.range 6).map I).foldl min (I 0)
      Ready s ∧ (s.get SPn_FLD_STAT_task n.val = 1) ∧ (mx ≤ 20 * (mx - mn)) ∧ (max (I 6) (I 7) ≤ 50 * |I 6 - I 7|)) ∧
    (∃ (s : State) (n : Ch) (peaks : List Int), let I := fun k => peaks.getD k 0
      let mx := ((List.range 6).map I).foldl max (I 0)
      let mn := ((List.range 6).map I).foldl min (I 0)
      Ready s ∧ (s.get SPn_FLD_STAT_task n.val = 1) ∧ ((20 * (mx - mn) < mx ∨ 50 * |I 6 - I 7| < max (I 6) (I 7)))) ∧
    (∃ (s : State) (n : Ch), Ready s ∧ (s.get SPn_FLD_STAT_task n.val = 3) ∧ ((s.sp n).fld.dtc.recPat = some .ascLow) ∧
      ((s.sp n).fld.dtc.recTs = none) ∧ ((s.sp n).fld.dtc.recStep = 4)) ∧
    (∃ (s : State) (n : Ch), Ready s ∧ (s.get SPn_FLD_STAT_task n.val = 3) ∧ (s.get SPn_FLD_STAT_rec_cnt n.val + 1 < s.get SPn_REC_recap_n n.val) ∧
      (s.get SPn_FLD_STAT_rec_cnt n.val < 15)) :=
  ⟨⟨W12, 1, by unfold Ready; decide +kernel⟩,
   ⟨W12, 1, by unfold Ready; decide +kernel⟩,
   ⟨{W12b with ts := 5000000#64}, 1, by unfold Ready; decide +kernel⟩,
   ⟨W12, 1, by unfold Ready; decide +kernel⟩,
   ⟨{W12b with ts := 5000000#64}, 1, by unfold Ready; decide +kernel⟩,
   ⟨W12, 1, by unfold Ready; decide +kernel⟩,
   ⟨W12, A, 1, 2048, by unfold Admits Ready; decide +kernel⟩,
   ⟨W12, 1, by unfold Ready; decide +kernel⟩,
   ⟨W12, 1, by unfold Ready; decide +kernel⟩,
   ⟨W12, 1, by unfold Ready; decide +kernel⟩,
   ⟨W12, 1, by unfold Ready; decide +kernel⟩,
   ⟨((Wp12 (W12b.put SPn_FLD_STAT_task 1 1)).modSp 1 (fun p => {p with fld := {p.fld with dtc := {p.fld.dtc with landed := 1, decTs := some 0}}})), 1, by unfold Ready; decide +kernel⟩,
   ⟨((Wp12 W12b).modSp 1 (fun p => {p with fld := {p.fld with dtc := {p.fld.dtc with landed := 1, decTs := none}}})), 1, by unfold Ready; decide +kernel⟩,
   ⟨{W12b with ts := 5000000#64}, 1, by unfold Ready; decide +kernel⟩,
   ⟨((W12b.put SPn_FLD_STAT_task 1 1).modSp 1 (fun p => {p with fld := {p.fld with dtc := {p.fld.dtc with missRun := 1}}})), 1, by unfold Ready; decide +kernel⟩,
   ⟨{W12b with ts := 5000000#64}, 1, by unfold Ready; decide +kernel⟩,
   ⟨(W12b.put SPn_FLD_STAT_task 1 1), 1, [120, 80, 120, 80, 120, 80, 100, 50], by unfold Ready; dsimp only; decide +kernel⟩,
   ⟨((W12b.put SPn_FLD_STAT_task 1 1).modSp 1 (fun p => {p with fld := {p.fld with dtc := {p.fld.dtc with missRun := 1}}})), 1, [100, 100, 100, 100, 100, 100, 100, 90], by unfold Ready; dsimp only; decide +kernel⟩,
   ⟨((W12b.put SPn_FLD_STAT_task 3 1).modSp 1 (fun p => {p with fld := {p.fld with dtc := {p.fld.dtc with recPat := some .ascLow, recStep := 4}}})), 1, by unfold Ready; decide +kernel⟩,
   ⟨((W12b.put SPn_FLD_STAT_task 3 1).modSp 1 (fun p => {p with fld := {p.fld with dtc := {p.fld.dtc with recPat := some .ascLow, recStep := 4}}})), 1, by unfold Ready; decide +kernel⟩⟩

end WL12

namespace WL13

def CX (ch op : Nat) : Ctx := ⟨62, 5, op, 0, ch, true⟩
def U : State := (R.put LCS_STATE_state 4).modPwr (fun q => {q with stage := 6})
def LK (l : Lnk) (n : Ch) (s : State) : State := (((((s.put PRT_LNKl_CFG_en 1 l.val).put PRT_LNKl_CFG_members (2^n.val) l.val).put PRT_LNKl_PRE_pre_done 100 l.val).put PRT_LNKl_CFG_chop_en 1 l.val).put PRT_LNKl_OV2_ov_asc 900 l.val)
def S3 : State := ((((bank1 U 1).put SPn_BANK_seal_b 1 1).put SPn_BANK_active 1 1))
def EN : State := (((((((((S3.put CHn_STATE_state 2 1).put SPn_I_BASE_base 1 1).put SPn_V_BASE_base 1 1).put SPn_W_BASE_base 1 1).put SPn_PSI_value 1 1).put SPn_MACH_pp 1 1).put SPn_IMAX_imax 1 1).put SPn_FLD_CTL_ipd_en 1 1))
def LS (s : State) : State := (LK 0 1 s).modLink 0 (fun k => {k with hist := [500]})

/-- States and operands that meet the hypotheses of each clause of `ChannelCommands`. -/
theorem witness_ChannelCommands :
    (∃ (s : State) (c : Ctx) (p : List Nat), let n := chOf c.chan
      Ready s ∧ Serves s c 0x10 p ∧ s.get TLS_STAT_role ≠ 2 ∧ (lsBroken s n = false) ∧ (s.chState n.val = 2) ∧
      (enableChecks (settShowFor (budgetShow s n) n) n = true)) ∧
    (∃ (s : State) (c : Ctx) (p : List Nat), let n := chOf c.chan
      Ready s ∧ Serves s c 0x10 p ∧ s.get TLS_STAT_role ≠ 2 ∧ (lsBroken s n = false) ∧ (s.chState n.val = 4) ∧ (s.get CHn_STATE_safety n.val = 0) ∧
      (s.get CHn_SAFECFG_stop_resume n.val = 1)) ∧
    (∃ (s : State) (c : Ctx) (p : List Nat), let n := chOf c.chan
      Ready s ∧ Predecodes s c 0x11 p ∧ (c.chan < 4) ∧ s.get TLS_STAT_role ≠ 2 ∧ (s.chState n.val = 3) ∧ (s.get SPn_FLD_STAT_task n.val = 0)) ∧
    (∃ (s : State) (c : Ctx) (p : List Nat), let n := chOf c.chan
      Ready s ∧ Predecodes s c 0x12 p ∧ (c.chan < 4) ∧ s.get TLS_STAT_role ≠ 2 ∧ ((p = [0] ∨ p = [1])) ∧ s.chState n.val ≠ 5) ∧
    (∃ (s : State) (c : Ctx) (p : List Nat), let n := chOf c.chan
      Ready s ∧ Predecodes s c 0x12 p ∧ (c.chan < 4) ∧ s.get TLS_STAT_role ≠ 2 ∧ (p = [4]) ∧ (s.chState n.val = 3)) ∧
    (∃ (s : State) (c : Ctx) (p : List Nat), let n := chOf c.chan
      Ready s ∧ Serves s c 0x13 p ∧ s.chState n.val ≠ 6) ∧
    (∃ (s : State) (c : Ctx) (p : List Nat), let n := chOf c.chan
      Ready s ∧ Serves s c 0x13 p ∧ (s.chState n.val = 6) ∧ (stillFaulty s n = false) ∧ (s.get CHn_STATE_pat n.val = 1) ∧ (linkOf s n = none)) ∧
    (∃ (s : State) (c : Ctx) (p : List Nat), let n := chOf c.chan
      Ready s ∧ Serves s c 0x13 p ∧ (s.chState n.val = 6) ∧ (stillFaulty s n = true)) ∧
    (∃ (s : State) (c : Ctx) (p : List Nat) (l : Lnk), let n := chOf c.chan
      Ready s ∧ Serves s c 0x15 p ∧ s.get TLS_STAT_role ≠ 2 ∧ (linkOf s n = some l) ∧ (s.chState n.val = 0) ∧
      (s.get PRT_LNKl_STAT_lstate l.val = 0)) ∧
    (∃ (s : State) (c : Ctx) (p : List Nat) (l : Lnk), let n := chOf c.chan
      Ready s ∧ Serves s c 0x15 p ∧ s.get TLS_STAT_role ≠ 2 ∧ (linkOf s n = some l) ∧ (s.chState n.val = 0) ∧
      (s.get PRT_LNKl_STAT_lstate l.val = 2)) ∧
    (∃ (s : State) (c : Ctx) (p : List Nat) (l : Lnk), let n := chOf c.chan
      Ready s ∧ Serves s c 0x14 p ∧ s.get TLS_STAT_role ≠ 2 ∧ (linkOf s n = some l) ∧ (s.chState n.val = 2) ∧ ((∀ m ∈ members s l,
      s.chState m.val = 0 ∨ s.chState m.val = 2)) ∧ (s.get PRT_LNKl_DIS_dis_mode l.val = 0) ∧ (s.get PRT_LNKl_CFG_chop_en l.val = 1)) ∧
    (∃ (s : State) (a : Access) (c : Ctx) (v : Nat), let n := chOf c.chan
      Ready s ∧ Admits s a ∧ (s.get CHn_SWFAIL_hs n.val = 0) ∧ (s.get CHn_SWFAIL_ls n.val = 0) ∧ (v < 8) ∧ (0 < v)) :=
  ⟨⟨(LS EN), (CX 1 0), [], by unfold Serves Ready; dsimp only; decide +kernel⟩,
   ⟨((EN.put CHn_STATE_state 4 1).put CHn_SAFECFG_stop_resume 1 1), (CX 1 0), [], by unfold Serves Ready; dsimp only; decide +kernel⟩,
   ⟨((EN.put CHn_STATE_state 3 1)), (CX 1 0), [], by unfold Predecodes Ready; dsimp only; decide +kernel⟩,
   ⟨((EN.put CHn_STATE_state 3 1)), (CX 1 0), [0], by unfold Predecodes Ready; dsimp only; decide +kernel⟩,
   ⟨((EN.put CHn_STATE_state 3 1)), (CX 1 0), [4], by unfold Predecodes Ready; dsimp only; decide +kernel⟩,
   ⟨(LS EN), (CX 1 0), [], by unfold Serves Ready; dsimp only; decide +kernel⟩,
   ⟨((EN.put CHn_STATE_state 6 1).put CHn_STATE_pat 1 1), (CX 1 0), [], by unfold Serves Ready; dsimp only; decide +kernel⟩,
   ⟨((LS (EN.put CHn_STATE_state 6 1)).modLink 0 (fun k => {k with hist := [950]})), (CX 1 0), [], by unfold Serves Ready; dsimp only; decide +kernel⟩,
   ⟨((LS (EN.put CHn_STATE_state 0 1))), (CX 1 0), [], 0, by unfold Serves Ready; dsimp only; decide +kernel⟩,
   ⟨((LS (EN.put CHn_STATE_state 0 1)).put PRT_LNKl_STAT_lstate 2 0), (CX 1 0), [], 0, by unfold Serves Ready; dsimp only; decide +kernel⟩,
   ⟨(LS EN), (CX 1 0), [], 0, by unfold Serves Ready; dsimp only; decide +kernel⟩,
   ⟨(LS EN), A, (CX 1 0), 5, by unfold Admits Ready; dsimp only; decide +kernel⟩⟩

end WL13

namespace WL14

def LK : State := (((((((R.put PRT_LNKl_CFG_en 1 1).put PRT_LNKl_CFG_members 2 1).put PRT_LNKl_PRE_pre_done 100 1).put PRT_LNKl_OV1_ov_warn 200 1).put PRT_LNKl_OV1_chop_on 300 1).put PRT_LNKl_OV2_ov_asc 400 1).put PRT_LNKl_OV2_ov_hard 500 1).put PRT_LNKl_CHOP_chop_off 250 1 |>.put PRT_LNKl_FILT_ov_filt 1 1

def LKo : State := (LK.put PRT_LNKl_CFG_en 0 1)
def Wo : Nat := 2^31 + ([PRT_LNKl_CFG_members, PRT_LNKl_CFG_ichop_ain, PRT_LNKl_CFG_ichop_en, PRT_LNKl_CFG_pre_leg, PRT_LNKl_CFG_pre_en,
  PRT_LNKl_CFG_chop_leg, PRT_LNKl_CFG_chop_en, PRT_LNKl_CFG_chop_mode, PRT_LNKl_CFG_vdc_ain].map (fun f => LKo.get f 1 * 2^f.lsb)).sum

/-- States and operands that meet the hypotheses of each clause of `LinkMonitors`. -/
theorem witness_LinkMonitors :
    (∃ (s : State) (l : Lnk) (v : Int), let k := s.links[l]
      let filt := s.get PRT_LNKl_FILT_ov_filt l.val
      Ready s ∧ (s.get PRT_LNKl_CFG_en l.val = 1) ∧ (s.getS PRT_LNKl_OV1_ov_warn l.val ≤ v) ∧ (filt ≤ k.cnt[0] + 1) ∧ (k.lvl[0] = false)) ∧
    (∃ (s : State) (l : Lnk) (v : Int), let k := s.links[l]
      let filt := s.get PRT_LNKl_FILT_ov_filt l.val
      Ready s ∧ (s.get PRT_LNKl_CFG_en l.val = 1) ∧ (s.get PRT_LNKl_CFG_chop_en l.val = 1) ∧ (s.get PRT_LNKl_CFG_chop_mode l.val = 0) ∧
      (s.getS PRT_LNKl_OV1_chop_on l.val ≤ v) ∧ (s.getS PRT_LNKl_CHOP_chop_off l.val < v) ∧ (filt ≤ k.cnt[1] + 1) ∧ (k.lvl[1] = false)) ∧
    (∃ (s : State) (l : Lnk) (v : Int), let k := s.links[l]
      Ready s ∧ (s.get PRT_LNKl_CFG_en l.val = 1) ∧ (s.get PRT_LNKl_CFG_chop_en l.val = 1) ∧ (s.get PRT_LNKl_CFG_chop_mode l.val = 0) ∧
      s.get PRT_LNKl_STAT_lstate l.val ≠ 3 ∧ (v ≤ s.getS PRT_LNKl_CHOP_chop_off l.val) ∧ (v < s.getS PRT_LNKl_OV1_chop_on l.val) ∧ (k.hyst = true)) ∧
    (∃ (s : State) (l : Lnk) (v : Int), let k := s.links[l]
      let filt := s.get PRT_LNKl_FILT_ov_filt l.val
      Ready s ∧ (s.get PRT_LNKl_CFG_en l.val = 1) ∧ (s.getS PRT_LNKl_OV2_ov_asc l.val ≤ v) ∧ (filt ≤ k.cnt[2] + 1) ∧ (k.lvl[2] = false)) ∧
    (∃ (s : State) (l : Lnk) (v : Int), let k := s.links[l]
      Ready s ∧ (s.get PRT_LNKl_CFG_en l.val = 1) ∧ (s.getS PRT_LNKl_OV2_ov_hard l.val ≤ v) ∧ (k.hard = false)) ∧
    (∃ (s : State) (l : Lnk) (v : Int), Ready s ∧ (s.get PRT_LNKl_CFG_en l.val = 1) ∧ (s.getS PRT_LNKl_OV2_ov_hard l.val ≤ v)) ∧
    (∃ (s : State) (l : Lnk) (v : Int), Ready s ∧ (s.get PRT_LNKl_CFG_en l.val = 1) ∧ (v < s.getS PRT_LNKl_OV1_ov_warn l.val)) ∧
    (∃ (s : State) (l : Lnk), Ready s ∧ (s.get PRT_LNKl_CFG_en l.val = 1)) ∧
    (∃ (s : State) (l : Lnk), Ready s ∧ (s.get PRT_LNKl_CFG_en l.val = 1) ∧ (s.get PRT_LNKl_CFG_chop_en l.val = 1)) ∧
    (∃ (s : State) (l : Lnk), let k := s.links[l]
      Ready s ∧ (s.get PRT_LNKl_CFG_en l.val = 1) ∧ (k.onTs.isSome = true) ∧ (s.get PRT_LNKl_STAT_chop l.val = 1) ∧ (k.von < mean16 k) ∧
      (s.get PRT_LNKl_STAT_chop_fail l.val = 0)) ∧
    (∃ (s : State) (a : Access) (l : Lnk) (w : Nat), Ready s ∧ Admits s a ∧ (s.get PRT_LNKl_CFG_en l.val = 0) ∧ (w / 2 ^ 31 % 2 = 1) ∧
      ((∀ f ∈ [PRT_LNKl_CFG_members, PRT_LNKl_CFG_ichop_ain, PRT_LNKl_CFG_ichop_en, PRT_LNKl_CFG_pre_leg, PRT_LNKl_CFG_pre_en,
        PRT_LNKl_CFG_chop_leg, PRT_LNKl_CFG_chop_en, PRT_LNKl_CFG_chop_mode, PRT_LNKl_CFG_vdc_ain],
        w / 2 ^ f.lsb % 2 ^ f.width = s.get f l.val)) ∧ (membersOff s l.val = true) ∧ (linkCfgOk s l.val = true) ∧ (linkOrderOk s l = true)) :=
  ⟨⟨LK, 1, 600, by unfold Ready; dsimp only; decide +kernel⟩,
   ⟨(LK.put PRT_LNKl_CFG_chop_en 1 1), 1, 350, by unfold Ready; dsimp only; decide +kernel⟩,
   ⟨((LK.put PRT_LNKl_CFG_chop_en 1 1).modLink 1 (fun k => {k with hyst := true})), 1, 250, by unfold Ready; dsimp only; decide +kernel⟩,
   ⟨LK, 1, 600, by unfold Ready; dsimp only; decide +kernel⟩,
   ⟨LK, 1, 600, by unfold Ready; dsimp only; decide +kernel⟩,
   ⟨LK, 1, 600, by unfold Ready; decide +kernel⟩,
   ⟨((LK.put PRT_LNKl_CFG_chop_en 1 1).modLink 1 (fun k => {k with hyst := true})), 1, 199, by unfold Ready; decide +kernel⟩,
   ⟨LK, 1, by unfold Ready; decide +kernel⟩,
   ⟨(LK.put PRT_LNKl_CFG_chop_en 1 1), 1, by unfold Ready; decide +kernel⟩,
   ⟨((LK.put PRT_LNKl_STAT_chop 1 1).modLink 1 (fun k => {k with onTs := some 5, hist := [7]})), 1, by unfold Ready; dsimp only; decide +kernel⟩,
   ⟨LKo, A, 1, Wo, by unfold Admits Ready; decide +kernel⟩⟩

end WL14

namespace WL15

def LP (st ch : Nat) : State := ((((((R.put PRT_LNKl_CFG_en 1 1).put PRT_LNKl_CFG_members 12 1).put PRT_LNKl_PRE_pre_done 100 1).put PRT_LNKl_DIS_dis_v 50 1).put PRT_LNKl_STAT_lstate st 1).put CHn_STATE_state ch 2).put CHn_STATE_state ch 3
def LD : State := (((((LP 3 5).put PRT_LNKl_OV1_ov_warn 30000 1).put PRT_LNKl_OV1_chop_on 30000 1).put PRT_LNKl_OV2_ov_asc 30000 1).put PRT_LNKl_OV2_ov_hard 30000 1)

/-- States and operands that meet the hypotheses of each clause of `PrechargeAndDischarge`. -/
theorem witness_PrechargeAndDischarge :
    (∃ (s : State) (l : Lnk) (codes : List Int), let u := linkSamples s l codes
      Ready s ∧ (u.get TLS_STAT_role ≤ 1) ∧ (u.get PRT_LNKl_STAT_lstate l.val = 1) ∧ (0 < u.links[l].since) ∧
      (u.getS PRT_LNKl_PRE_pre_done l.val ≤ u.links[l].hist.headD (-32768))) ∧
    (∃ (s : State) (l : Lnk) (codes : List Int), let u := linkSamples s l codes
      Ready s ∧ (u.get TLS_STAT_role ≤ 1) ∧ (u.links[l].hist.headD (-32768) < u.getS PRT_LNKl_PRE_pre_done l.val)) ∧
    (∃ (s : State) (l : Lnk), Ready s ∧ (s.get PRT_LNKl_STAT_lstate l.val = 1)) ∧
    (∃ (s : State) (l : Lnk), Ready s ∧ (s.links[l].preTs.isSome = true)) ∧
    (∃ (s : State) (l : Lnk) (codes : List Int), let u := linkSamples s l codes
      Ready s ∧ (u.get PRT_LNKl_STAT_lstate l.val = 3) ∧ (0 < u.links[l].since) ∧ (u.links[l].hist.headD 32767 ≤ u.getS PRT_LNKl_DIS_dis_v l.val)) ∧
    (∃ (s : State) (l : Lnk), Ready s ∧ (s.get PRT_LNKl_STAT_lstate l.val = 3)) ∧
    (∃ (s : State) (l : Lnk), Ready s ∧ (s.get PRT_LNKl_STAT_lstate l.val = 3)) :=
  ⟨⟨(LP 1 1), 1, [100], by unfold Ready; dsimp only; decide +kernel⟩,
   ⟨(LP 1 1), 1, [99], by unfold Ready; dsimp only; decide +kernel⟩,
   ⟨(LP 1 1), 1, by unfold Ready; decide +kernel⟩,
   ⟨((LP 2 2).modLink 1 (fun k => { k with preTs := some 5 })), 1, by unfold Ready; decide +kernel⟩,
   ⟨LD, 1, [50], by unfold Ready; dsimp only; decide +kernel⟩,
   ⟨(LP 3 5), 1, by unfold Ready; decide +kernel⟩,
   ⟨(LP 3 5), 1, by unfold Ready; decide +kernel⟩⟩

end WL15

namespace WL16

def BST : State := R.modBdg (fun b => { b with staged := some ([1, 2, 3], 77) })
def BHO : State := ((R.put LCS_STATE_dbg_open 1).put LCS_STATE_state 2).modBdg (fun b => { b with holds := 2, divRun := 9, wdg := b.wdg.set 0 ⟨5, true⟩, clkBad := 256 })
def ITM : ChuckItem := ⟨5, .result 3 (-7) 2 35 9, 9, false⟩
def MBS : State := (R.put BDG_FSTATw_src 0xFFFFFFFF 1).put BDG_MB_STAT_busy 1
def MBG : State := { (R.put BDG_MB_REQ_go 1) with mem := { R.mem with bytes := sput 0 R.mem.bytes 0x08000000 17#8 } }
def BHO2 : State := { (BHO.modBdg (fun b => { b with haltReq := 2 })).put BDG_STATE_lsb_cpb 1 with ts := 1000#64 }

/-- States and operands that meet the hypotheses of each clause of `LockstepAndBadger`. -/
theorem witness_LockstepAndBadger :
    (∃ (s : State) (v : Nat) (b : List Nat), Ready s ∧ (s.bdg.staged = some (b, v))) ∧
    (∃ (s : State), Ready s ∧ (s.bdg.staged = none)) ∧
    (∃ (s : State) (p : AgreePair) (rp rq : Fin 4) (par : Bool), Ready s ∧ ((rp.val ≠ 1 ∨ rq.val ≠ 1 ∨ par = true)) ∧ (compares s p = true) ∧ p ≠ 6) ∧
    (∃ (s : State) (p : AgreePair) (rp rq : Fin 4) (par : Bool), Ready s ∧ ((rp.val ≠ 1 ∨ rq.val ≠ 1 ∨ par = true)) ∧ (p = 6)) ∧
    (∃ (s : State) (p : AgreePair) (rp rq : Fin 4) (par : Bool), Ready s ∧ ((rp.val = 1 ∧ rq.val = 1 ∧ par = false ∨ compares s p = false))) ∧
    (∃ (s : State) (q1 q2 : Bool), Ready s ∧ (q1 = true) ∧ (q2 = true)) ∧
    (∃ (s : State) (q1 q2 : Bool), Ready s ∧ ((q1 = false ∨ q2 = false))) ∧
    (∃ (s : State) (e : Pair) (m d : Nat), Ready s ∧ m ≠ d ∧ (compares s ⟨e.val, by omega⟩ = true)) ∧
    (∃ (s : State) (e : Pair) (m d : Nat), Ready s ∧ (m = d ∨ compares s ⟨e.val, by omega⟩ = false)) ∧
    (∃ (s : State) (c : Fin 2), Ready s ∧ (s.bdg.holds.testBit c.val = true) ∧ s.get BDG_STATE_unit ≠ 2) ∧
    (∃ (s : State) (c : Fin 2), Ready s ∧ (s.get LCS_STATE_dbg_open = 1) ∧ (s.get LCS_STATE_state = 2) ∧ (s.bdg.holds.testBit c.val = true)) ∧
    (∃ (s : State) (c : Fin 2), Ready s ∧ (s.get LCS_STATE_dbg_open = 1) ∧ (s.get LCS_STATE_state = 2) ∧ (s.bdg.holds.testBit c.val = false)) ∧
    (∃ (s : State), Ready s ∧ s.get LCS_STATE_state ≠ 2) ∧
    (∃ (s : State) (edges : Nat), Ready s ∧ (75 ≤ edges) ∧ (edges ≤ 125)) ∧
    (∃ (s : State) (edges : Nat), Ready s ∧ ((edges < 75 ∨ 125 < edges))) ∧
    (∃ (s : State) (x : Int), Ready s ∧ (2560 ≤ x) ∧ (s.pwr.stage = 8) ∧ (s.pwr.startReq = none)) ∧
    (∃ (s : State) (x : Int), Ready s ∧ (x < 2560 ∨ s.pwr.stage ≠ 8)) ∧
    (∃ (s : State) (w : Fin 3), Ready s ∧ (s.now < s.bdg.wdg[w].last + (wdgWin s w).2)) ∧
    (∃ (s : State) (w : Fin 3), Ready s ∧ (s.bdg.wdg[w].last + (wdgWin s w).2 ≤ s.now)) ∧
    (∃ (s : State) (a : Access) (w : Fin 3) (v : Nat), Ready s ∧ Admits s a ∧ (wdgOf a.ini = w.val) ∧ (s.bdg.wdg[w].last + (wdgWin s w).1 ≤ s.now) ∧
      (v % 65536 = 0xFFFF - s.get BDG_WDG_STATc_token w.val)) ∧
    (∃ (s : State) (a : Access) (w : Fin 3), Ready s ∧ Admits s a ∧ (s.now < s.bdg.wdg[w].last + (wdgWin s w).1)) ∧
    (∃ (s : State), Ready s ∧ (s.owl.replay = none)) :=
  ⟨⟨BST, 77, [1, 2, 3], by unfold Ready; decide +kernel⟩,
   ⟨R, by unfold Ready; decide +kernel⟩,
   ⟨BST, 5, 1, 2, false, by unfold Ready; decide +kernel⟩,
   ⟨((R.modPwr (fun p => { p with stage := 8 }))), 6, 2, 1, true, by unfold Ready; decide +kernel⟩,
   ⟨R, 5, 1, 1, false, by unfold Ready; decide +kernel⟩,
   ⟨BST, true, true, by unfold Ready; decide +kernel⟩,
   ⟨R, true, false, by unfold Ready; decide +kernel⟩,
   ⟨BST, 4, 5, 6, by unfold Ready; decide +kernel⟩,
   ⟨BHO2, 1, 5, 5, by unfold Ready; decide +kernel⟩,
   ⟨BHO, 1, by unfold Ready; decide +kernel⟩,
   ⟨BHO, 1, by unfold Ready; decide +kernel⟩,
   ⟨{ BHO with bdg := { BHO.bdg with holds := 0 } }, 1, by unfold Ready; decide +kernel⟩,
   ⟨BST, by unfold Ready; decide +kernel⟩,
   ⟨BST, 75, by unfold Ready; decide +kernel⟩,
   ⟨R, 126, by unfold Ready; decide +kernel⟩,
   ⟨((R.modPwr (fun p => { p with stage := 8 }))), 2560, by unfold Ready; decide +kernel⟩,
   ⟨BST, 2559, by unfold Ready; decide +kernel⟩,
   ⟨BST, 0, by unfold Ready; decide +kernel⟩,
   ⟨{ R with ts := 50000000#64 }, 2, by unfold Ready; decide +kernel⟩,
   ⟨R, M, 2, (65535), by unfold Admits Ready; decide +kernel⟩,
   ⟨BHO, A, 0, by unfold Admits Ready; decide +kernel⟩,
   ⟨BST, by unfold Ready; decide +kernel⟩⟩

/-- States and operands that meet the hypotheses of each clause of `ChuckRelease`. -/
theorem witness_ChuckRelease :
    (∃ (s : State) (p : AgreePair) (v : InVal) (ts : Nat) (dis : Bool) (rest : List ChuckItem) (n : Ch) (ty pay : Nat), Ready s ∧ p ≠ 6 ∧
      (v = .core ty n.val pay) ∧ ty ≠ 0x09 ∧ (s.chuck = ⟨p.val, v, ts, dis⟩ :: rest) ∧ (pay % 2 ^ 40 < 0x8000) ∧
    (wordWrite s n (pay % 2 ^ 40) = some none)) ∧
    (∃ (s : State) (p : AgreePair), Ready s ∧ p ≠ 6 ∧ (s.chuck = [])) ∧
    (∃ (s : State) (src : Fin 192) (m : Nat) (queue : List (Nat × Nat)), Ready s ∧ (s.inflight = (src.val, m) :: queue) ∧ (s.owl.replay = none)) ∧
    (∃ (s : State), Ready s ∧ (s.inflight = [])) :=
  ⟨⟨{ R with chuck := [⟨5, .core 0 3 (0x848 + 2 ^ 40 * 77), 9, false⟩] }, 5, (.core 0 3 (0x848 + 2 ^ 40 * 77)), 9, false, [], 3, 0, (0x848 + 2 ^ 40 * 77), by unfold Ready; decide +kernel⟩,
   ⟨R, 2, by unfold Ready; decide +kernel⟩,
   ⟨{ R with inflight := [(33, 7)] }, 33, 7, [], by unfold Ready; decide +kernel⟩,
   ⟨{ R with chuck := [ITM] }, by unfold Ready; decide +kernel⟩⟩

/-- States and operands that meet the hypotheses of each clause of `Mailbox`. -/
theorem witness_Mailbox :
    (∃ (s : State), Ready s ∧ (s.getB BDG_MB_REQ_go = false)) ∧
    (∃ (s : State) (srcs : List Nat) (k : Nat), Ready s ∧ (s.getB BDG_MB_REQ_go = false) ∧ k ∈ srcs ∧ (k < 0x40) ∧ (srcLive s k = false)) ∧
    (∃ (s : State) (srcs : List Nat) (k : Nat), Ready s ∧ (k < 192) ∧ ((k ∉ srcs ∨ 0x40 ≤ k ∨ srcLive s k = true))) ∧
    (∃ (s : State), Ready s ∧ (s.getB BDG_MB_REQ_go = false)) ∧
    (∃ (s : State) (crc : Nat) (b : List Nat), Ready s ∧ (s.getB BDG_MB_REQ_go = false) ∧ (crc32c b = crc)) ∧
    (∃ (s : State) (crc : Nat) (b : List Nat), Ready s ∧ (s.getB BDG_MB_REQ_go = false) ∧ crc32c b ≠ crc) ∧
    (∃ (s : State), Ready s ∧ (s.getB BDG_MB_REQ_go = false)) ∧
    (∃ (s : State), Ready s ∧ (s.getB BDG_MB_REQ_go = false)) ∧
    (∃ (s : State), Ready s ∧ (s.getB BDG_MB_REQ_go = true) ∧
      (mbTypes.contains (leNat ((List.range 2).map (fun j => s.byteAt (0x08000000 + j)))) = true)) :=
  ⟨⟨MBS, by unfold Ready; decide +kernel⟩,
   ⟨MBS, [63, 33, 64], 63, by unfold Ready; decide +kernel⟩,
   ⟨MBS, [63, 33, 64], 64, by unfold Ready; decide +kernel⟩,
   ⟨MBS, by unfold Ready; decide +kernel⟩,
   ⟨MBS, (crc32c [1, 2]), [1, 2], by unfold Ready; decide +kernel⟩,
   ⟨MBS, 5, [1, 2], by unfold Ready; decide +kernel⟩,
   ⟨MBS, by unfold Ready; decide +kernel⟩,
   ⟨MBS, by unfold Ready; decide +kernel⟩,
   ⟨MBG, by unfold Ready; decide +kernel⟩⟩

end WL16

namespace WL18

def PR : State := (((R.put TLS_CFG_en 1).put TLS_CFG_auto_rejoin 1).put LEG_OGATE_reset 0)
def PRr (role ready : Nat) : State := (PR.put TLS_STAT_role role).put TLS_STAT_ready ready
def T (s : State) (f : TlsSt → TlsSt) : State := s.modTls f
def CL (src : Nat) (hot : Bool) (ch : Option Nat) (retry : Bool) : Claim := ⟨src, hot, 5, 9, ch, retry, false⟩

/-- States and operands that meet the hypotheses of each clause of `PairRoles`. -/
theorem witness_PairRoles :
    (∃ (s : State), Ready s ∧ (s.getB TLS_CFG_en = true) ∧ (s.get TLS_STAT_role = 0) ∧ (s.tls.waiting = false) ∧ (s.getB LEG_OGATE_reset = false) ∧
      (s.getB TLS_CFG_auto_rejoin = true) ∧ (s.getB TLS_STAT_xl_in = true)) ∧
    (∃ (s : State), Ready s ∧ (s.getB TLS_CFG_en = true) ∧ (s.get TLS_STAT_role = 0) ∧ (s.tls.waiting = false) ∧ (s.getB LEG_OGATE_reset = false) ∧
      (s.getB TLS_CFG_auto_rejoin = true) ∧ (s.getB TLS_STAT_xl_in = false) ∧ (s.get TLS_CFG_start_role = 0)) ∧
    (∃ (s : State), Ready s ∧ (s.getB TLS_CFG_en = true) ∧ (s.get TLS_STAT_role = 0) ∧ (s.tls.waiting = false) ∧ (s.getB LEG_OGATE_reset = false) ∧
      (s.getB TLS_CFG_auto_rejoin = true) ∧ (s.getB TLS_STAT_xl_in = false) ∧ s.get TLS_CFG_start_role ≠ 0) ∧
    (∃ (s : State), Ready s ∧ (s.getB TLS_CFG_en = true) ∧ (s.tls.waiting = true)) ∧
    (∃ (s : State), Ready s ∧ (s.getB TLS_CFG_en = true) ∧ (s.tls.waiting = true)) ∧
    (∃ (s : State), Ready s ∧ (s.tls.waiting = false)) ∧
    (∃ (s : State), Ready s ∧ (s.getB TLS_CFG_en = true) ∧ (s.get TLS_STAT_role = 2) ∧ (s.tls.claim = none) ∧ (s.get TLS_STAT_ready = 2)) ∧
    (∃ (s : State), Ready s ∧ (s.getB TLS_CFG_en = true) ∧ (s.get TLS_STAT_role = 2) ∧ (s.tls.claim = none) ∧ s.get TLS_STAT_ready ≠ 2 ∧
      (s.getB TLS_CFG_cold_en = false)) ∧
    (∃ (s : State), Ready s ∧ (s.getB TLS_CFG_en = true) ∧ (s.tls.xlOut = true) ∧ (s.getB TLS_STAT_sel_fb = false) ∧ (s.getB TLS_STAT_xl_in = true)) ∧
    (∃ (s : State), Ready s ∧ (s.getB TLS_CFG_en = true) ∧ (s.get TLS_STAT_role = 3) ∧ (s.tls.claim = none) ∧ (s.tls.xlOut = true)) ∧
    (∃ (s : State), Ready s ∧ ((s.getB TLS_CFG_en = false ∨ s.get TLS_STAT_role ≠ 3))) ∧
    (∃ (s : State), Ready s ∧ (s.getB TLS_CFG_en = true) ∧ (s.get TLS_STAT_role = 1) ∧ (s.getB TLS_STAT_sel_fb = false) ∧ (s.tls.release = none)) ∧
    (∃ (s : State), Ready s ∧ (s.getB TLS_CFG_en = true) ∧ (s.get TLS_STAT_role = 2) ∧ (s.getB TLS_STAT_sel_fb = true)) ∧
    (∃ (s : State) (c : Claim), Ready s ∧ (s.getB TLS_CFG_en = true) ∧ (s.tls.claim = some c)) ∧
    (∃ (s : State) (c : Claim), Ready s ∧ (s.getB TLS_CFG_en = true) ∧ (s.tls.claim = some c) ∧ (s.getB TLS_STAT_sel_fb = true) ∧
      (s.tls.selTs < s.now) ∧ (s.tls.xlOut = true)) ∧
    (∃ (s : State) (c : Claim), Ready s ∧ (s.getB TLS_CFG_en = true) ∧ (s.tls.claim = some c) ∧ (s.getB TLS_STAT_sel_fb = false) ∧
      ((c.chan = none ∨ c.retry = true))) ∧
    (∃ (s : State), Ready s ∧ (s.getB TLS_CFG_en = true) ∧ (s.get TLS_STAT_role = 1) ∧ (s.tls.handoff = 2)) ∧
    (∃ (s : State), Ready s ∧ (s.getB TLS_CFG_en = true) ∧ (s.get TLS_STAT_role = 1) ∧ (s.tls.handoff = 1)) ∧
    (∃ (s : State) (i : Fin 2), Ready s ∧ (s.getB TLS_CFG_en = true) ∧ (s.getBit TLS_STAT_lane_up i.val = false)) ∧
    (∃ (s : State) (i : Fin 2), Ready s ∧ (s.getB TLS_CFG_en = true) ∧ (s.getBit TLS_STAT_lane_up i.val = true)) ∧
    (∃ (s : State), Ready s ∧ (s.getB TLS_CFG_en = true) ∧ (s.tls.link = true) ∧ (s.get TLS_STAT_lane_up = 0)) ∧
    (∃ (s : State), Ready s ∧ s.get TLS_STAT_lane_up ≠ 0) ∧
    (∃ (s : State), Ready s ∧ ((s.getB LEG_OGATE_reset = true ∨ s.getB TLS_CFG_auto_rejoin = false))) :=
  ⟨⟨(PR.put TLS_STAT_xl_in 1), by unfold Ready; decide +kernel⟩,
   ⟨(PR.put TLS_STAT_sel_fb 1), by unfold Ready; decide +kernel⟩,
   ⟨(PR.put TLS_CFG_start_role 1), by unfold Ready; decide +kernel⟩,
   ⟨(T (PR.put BDG_STATE_unit 1) (fun t => {t with waiting := true})), by unfold Ready; decide +kernel⟩,
   ⟨(T (PR.put BDG_STATE_unit 1) (fun t => {t with waiting := true})), by unfold Ready; decide +kernel⟩,
   ⟨(PR.put TLS_STAT_xl_in 1), by unfold Ready; decide +kernel⟩,
   ⟨(PRr 2 2), by unfold Ready; decide +kernel⟩,
   ⟨((PRr 2 1).put TLS_CFG_cold_en 0), by unfold Ready; decide +kernel⟩,
   ⟨(T ((PRr 1 1).put TLS_STAT_xl_in 1) (fun t => {t with xlOut := true, handoff := 2})), by unfold Ready; decide +kernel⟩,
   ⟨(T ((PRr 3 1).put TLS_STAT_xl_in 1) (fun t => {t with xlOut := true})), by unfold Ready; decide +kernel⟩,
   ⟨(PR.put TLS_STAT_xl_in 1), by unfold Ready; decide +kernel⟩,
   ⟨(T ((PRr 1 1).put TLS_STAT_xl_in 1) (fun t => {t with xlOut := true, handoff := 2})), by unfold Ready; decide +kernel⟩,
   ⟨((PRr 2 1).put TLS_STAT_sel_fb 1), by unfold Ready; decide +kernel⟩,
   ⟨(T (((PRr 3 1).put TLS_STAT_xl_in 1).put TLS_STAT_sel_fb 1) (fun t => {t with xlOut := true, claim := some (CL 2 true (some 1) false)})), (CL 2 true (some 1) false), by unfold Ready; decide +kernel⟩,
   ⟨{ (T (((PRr 3 1).put TLS_STAT_xl_in 1).put TLS_STAT_sel_fb 1) (fun t => {t with xlOut := true, claim := some (CL 2 true (some 1) false)})) with ts := 7#64 }, (CL 2 true (some 1) false), by unfold Ready; decide +kernel⟩,
   ⟨(T (PRr 3 1) (fun t => {t with xlOut := true, claim := some (CL 2 true none false)})), (CL 2 true none false), by unfold Ready; decide +kernel⟩,
   ⟨(T ((PRr 1 1).put TLS_STAT_xl_in 1) (fun t => {t with xlOut := true, handoff := 2})), by unfold Ready; decide +kernel⟩,
   ⟨(T ((PRr 1 1).put TLS_STAT_xl_in 1) (fun t => {t with xlOut := true, handoff := 1})), by unfold Ready; decide +kernel⟩,
   ⟨(PR.put TLS_STAT_xl_in 1), 1, by unfold Ready; decide +kernel⟩,
   ⟨(T ((PRr 2 2).put TLS_STAT_lane_up 2) (fun t => {t with link := true})), 1, by unfold Ready; decide +kernel⟩,
   ⟨(T (PRr 2 2) (fun t => {t with link := true})), by unfold Ready; decide +kernel⟩,
   ⟨(T ((PRr 2 2).put TLS_STAT_lane_up 2) (fun t => {t with link := true})), by unfold Ready; decide +kernel⟩,
   ⟨((PRr 2 1).put TLS_CFG_auto_rejoin 0), by unfold Ready; decide +kernel⟩⟩

end WL18

namespace WL19

def PR : State := R.put TLS_CFG_en 1
def PRr (role ready : Nat) : State := ((((PR.put TLS_STAT_lane_up 3).put TLS_CFG_lane_mask 3).put TLS_STAT_role role).put TLS_STAT_ready ready).modTls (fun t => {t with link := true})
def fr (x : List Nat) : List Nat := x ++ leBytes 4 (crc32c x)
def mk (n : Nat) (x : List Nat) : List Nat := fr (x ++ List.replicate (n - 4 - x.length) 7)
theorem crc32cByte_lt {c b : Nat} (hc : c < 2 ^ 32) (hb : b < 256) : crc32cByte c b < 2 ^ 32 := by
  have step : ∀ (l : List Nat) (c : Nat), c < 2 ^ 32 →
      l.foldl (fun c _ => if c % 2 = 1 then (c / 2) ^^^ 0x82F63B78 else c / 2) c < 2 ^ 32 := by
    intro l
    induction l with
    | nil => exact fun c h => h
    | cons _ l ih =>
      intro c h
      refine ih _ ?_
      dsimp only
      split
      · exact Nat.xor_lt_two_pow (by omega) (by decide)
      · omega
  exact step _ _ (Nat.xor_lt_two_pow hc (by omega))
theorem crc32c_lt {l : List Nat} (h : ∀ b ∈ l, b < 256) : crc32c l < 2 ^ 32 := by
  have step : ∀ (l : List Nat) (c : Nat), c < 2 ^ 32 → (∀ b ∈ l, b < 256) → l.foldl crc32cByte c < 2 ^ 32 := by
    intro l
    induction l with
    | nil => exact fun c h _ => h
    | cons b l ih => exact fun c h hb => ih _ (crc32cByte_lt h (hb b (by simp))) (fun x hx => hb x (by simp [hx]))
  exact Nat.xor_lt_two_pow (step l _ (by decide) h) (by decide)
/-- A frame with its CRC at its end passes the check of a frame of its length. -/
theorem frameIs_mk (n : Nat) (x : List Nat) (hl : x.length + 4 ≤ n) (hb : ∀ b ∈ x, b < 256) (h0 : x ≠ []) :
    frameIs n (x.headD 0) (mk n x) = true := by
  have hlen : (x ++ List.replicate (n - 4 - x.length) 7).length = n - 4 := by simp; omega
  have hlt : crc32c (x ++ List.replicate (n - 4 - x.length) 7) < 2 ^ 32 := crc32c_lt (by
    intro b h
    rcases List.mem_append.mp h with h | h
    · exact hb b h
    · rw [(List.mem_replicate.mp h).2]; decide)
  simp only [frameIs, frameOk, mk, fr, leAt, List.take_left' hlen, List.drop_left' hlen]
  generalize crc32c _ = v at *
  obtain ⟨y, ys, rfl⟩ := List.exists_cons_of_ne_nil h0
  have e : leNat ((leBytes 4 v).take 4) = v := by
    simp only [leBytes, List.range_succ, List.range_zero, List.nil_append, List.cons_append, List.map_cons, List.map_nil,
      List.take_succ_cons, List.take_zero, leNat, List.foldr]
    omega
  rw [e]
  simp [leBytes] at hlen hl ⊢
  omega

/-- States and operands that meet the hypotheses of each clause of `PairFrames`. -/
theorem witness_PairFrames :
    (∃ (s : State) (i : Fin 2), Ready s ∧ (s.getB TLS_CFG_en = true) ∧ (laneUsed s i.val = false)) ∧
    (∃ (s : State), Ready s ∧ (s.getB TLS_CFG_en = true) ∧ (laneUsed s 0 = true) ∧ (laneUsed s 1 = true)) ∧
    (∃ (s : State) (i : Fin 2), Ready s ∧ (s.getB TLS_CFG_en = true) ∧ (laneUsed s i.val = true) ∧ (laneUsed s (1 - i.val) = false)) ∧
    (∃ (s : State) (b : List Nat) (i : Fin 2), Ready s ∧ (s.getB TLS_CFG_en = true) ∧ ((frameIs 360 0x01 b = false ∨ 4 ≤ b.getD 1 0)) ∧
      (laneUsed s i.val = true)) ∧
    (∃ (s : State) (b : List Nat) (k : Fin 4) (i : Fin 2), Ready s ∧ (s.getB TLS_CFG_en = true) ∧ (frameIs 360 0x01 b = true) ∧
      (b.getD 1 0 = k.val) ∧ (s.get TLS_STAT_role = 2) ∧ (laneUsed s i.val = true)) ∧
    (∃ (s : State) (b : List Nat) (i : Fin 2), Ready s ∧ (s.getB TLS_CFG_en = true) ∧ (frameIs 80 0x01 b = false) ∧ (laneUsed s i.val = true)) ∧
    (∃ (s : State) (b : List Nat) (i : Fin 2), Ready s ∧ (s.getB TLS_CFG_en = true) ∧ (frameIs 80 0x01 b = true) ∧ (b.getD 1 0 % 16 = 8) ∧
      (s.get TLS_STAT_role = 2) ∧ (laneUsed s i.val = true)) ∧
    (∃ (s : State) (b : List Nat) (i : Fin 2), Ready s ∧ (s.getB TLS_CFG_en = true) ∧ (frameIs 80 0x01 b = true) ∧ (b.getD 1 0 % 16 = 8) ∧
      s.get TLS_STAT_role ≠ 2 ∧ (laneUsed s i.val = true)) ∧
    (∃ (s : State) (b : List Nat) (i : Fin 2), Ready s ∧ (s.getB TLS_CFG_en = true) ∧ (frameIs 48 0x10 b = false) ∧ (laneUsed s i.val = true)) ∧
    (∃ (s : State) (b : List Nat) (i : Fin 2), Ready s ∧ (s.getB TLS_CFG_en = true) ∧ (frameIs 48 0x10 b = true) ∧ (leAt b 12 8 = 0) ∧
      (laneUsed s i.val = true)) ∧
    (∃ (s : State) (b : List Nat) (i : Fin 2), Ready s ∧ (s.getB TLS_CFG_en = true) ∧ (frameIs 48 0x10 b = true) ∧ leAt b 12 8 ≠ 0 ∧
      (laneUsed s i.val = true)) ∧
    (∃ (s : State) (b : List Nat) (i : Fin 2), Ready s ∧ (s.getB TLS_CFG_en = true) ∧ (frameIs 16 0x20 b = false) ∧ (laneUsed s i.val = true)) ∧
    (∃ (s : State) (b : List Nat) (i : Fin 2), Ready s ∧ (s.getB TLS_CFG_en = true) ∧ (frameIs 16 0x20 b = true) ∧ (laneUsed s i.val = true)) ∧
    (∃ (s : State) (b : List Nat) (i : Fin 2), Ready s ∧ (s.getB TLS_CFG_en = true) ∧ (frameIs 40 0x30 b = false) ∧ (laneUsed s i.val = true)) ∧
    (∃ (s : State) (b : List Nat) (i : Fin 2), Ready s ∧ (s.getB TLS_CFG_en = true) ∧ (frameIs 40 0x30 b = true) ∧
      ((b.drop 4).take 32 = digestBytes s) ∧ (laneUsed s i.val = true)) ∧
    (∃ (s : State) (b : List Nat) (i : Fin 2), Ready s ∧ (s.getB TLS_CFG_en = true) ∧ (frameIs 40 0x30 b = true) ∧
      (b.drop 4).take 32 ≠ digestBytes s ∧ (laneUsed s i.val = true)) ∧
    (∃ (s : State), Ready s ∧ (s.getB TLS_CFG_en = true) ∧ (s.get TLS_STAT_role = 1) ∧ (s.tls.link = true) ∧ ((laneOf s 0x18).isSome = true)) ∧
    (∃ (s : State), Ready s ∧ (s.getB TLS_CFG_en = true) ∧ s.get TLS_STAT_role ≠ 1) ∧
    (∃ (s : State), Ready s ∧ (s.getB TLS_CFG_en = true) ∧ (s.tls.link = true) ∧ ((laneOf s 1).isSome = true)) ∧
    (∃ (s : State), Ready s ∧ (s.getB TLS_CFG_en = true) ∧ (s.tls.link = true) ∧ ((laneOf s 2).isSome = true)) ∧
    (∃ (s : State), Ready s ∧ (s.getB TLS_CFG_en = true) ∧ ((s.tls.link = false ∨ laneOf s 2 = none))) ∧
    (∃ (s : State), Ready s ∧ (s.getB TLS_CFG_en = true) ∧ (s.tls.link = true) ∧ ((laneOf s 3).isSome = true)) :=
  ⟨⟨((PRr 1 2).put TLS_CFG_lane_mask 0), 1, by unfold Ready; decide +kernel⟩,
   ⟨(PRr 2 2), by unfold Ready; decide +kernel⟩,
   ⟨((PRr 1 2).put TLS_CFG_lane_mask 2), 1, by unfold Ready; decide +kernel⟩,
   ⟨(PRr 2 2), (mk 80 [1, 8]), 1, by unfold Ready; decide +kernel⟩,
   ⟨(PRr 2 2), (mk 360 [1, 3]), 3, 1, by exact ⟨by unfold Ready; decide +kernel, by decide +kernel,
     frameIs_mk _ _ (by decide) (by decide) (by decide), by decide +kernel, by decide +kernel⟩⟩,
   ⟨(PRr 2 2), (mk 360 [1, 3]), 1, by unfold Ready; decide +kernel⟩,
   ⟨(PRr 2 2), (mk 80 [1, 8]), 1, by unfold Ready; decide +kernel⟩,
   ⟨(PRr 1 2), (mk 80 [1, 8]), 1, by unfold Ready; decide +kernel⟩,
   ⟨(PRr 2 2), (mk 360 [1, 3]), 1, by unfold Ready; decide +kernel⟩,
   ⟨(PRr 2 2), (mk 48 ([16, 8] ++ List.replicate 20 0)), 1, by unfold Ready; decide +kernel⟩,
   ⟨(PRr 2 2), (mk 48 [16, 8]), 1, by unfold Ready; decide +kernel⟩,
   ⟨(PRr 2 2), (mk 360 [1, 3]), 1, by unfold Ready; decide +kernel⟩,
   ⟨(PRr 2 2), (mk 16 [32, 1, 1, 0, 0]), 1, by unfold Ready; decide +kernel⟩,
   ⟨(PRr 2 2), (mk 360 [1, 3]), 1, by unfold Ready; decide +kernel⟩,
   ⟨(PRr 2 2), (mk 40 ([0x30, 0, 0, 0] ++ digestBytes (PRr 2 2))), 1, by unfold Ready; decide +kernel⟩,
   ⟨((PRr 1 2).modTls (fun t => {t with link := false})), (mk 40 [0x30, 0, 0, 0]), 1, by unfold Ready; decide +kernel⟩,
   ⟨(PRr 1 2), by unfold Ready; decide +kernel⟩,
   ⟨(PRr 2 2), by unfold Ready; decide +kernel⟩,
   ⟨(PRr 2 2), by unfold Ready; decide +kernel⟩,
   ⟨(PRr 2 2), by unfold Ready; decide +kernel⟩,
   ⟨((PRr 1 2).modTls (fun t => {t with link := false})), by unfold Ready; decide +kernel⟩,
   ⟨(PRr 2 2), by unfold Ready; decide +kernel⟩⟩

end WL19

namespace WL20

def CX (ch op : Nat) : Ctx := ⟨62, 5, op, 0, ch, true⟩
def U : State := (R.put LCS_STATE_state 4).modPwr (fun q => {q with stage := 6})
def VV (e : Nat) : Nat := e * 2 ^ TLS_CFG_en.lsb + ([TLS_CFG_start_role, TLS_CFG_cold_en, TLS_CFG_start_wait, TLS_CFG_hb_lead, TLS_CFG_lane_mask,
  TLS_CFG_auto_rejoin].map (fun f => R.get f * 2^f.lsb)).sum
def V0 (e : Nat) : Nat := e * 2 ^ TLS_CFG_en.lsb + 2 ^ TLS_CFG_start_wait.lsb + 4000 * 2 ^ TLS_CFG_hb_lead.lsb
def PRr (role ready : Nat) : State := (((U.put TLS_STAT_role role).put TLS_STAT_peer_ready 2).put TLS_STAT_ready ready).put TLS_CFG_en 1
def U0 : State := U.put LEG_OGATE_reset 0
def PRn : State := (PRr 2 2).put TLS_STAT_xl_in 1

/-- States and operands that meet the hypotheses of each clause of `PairControl`. -/
theorem witness_PairControl :
    (∃ (s : State) (a : Access) (v : Nat), let bit := fun (f : Fld) => v / 2 ^ f.lsb % 2 ^ f.width
      Ready s ∧ Admits s a ∧ (s.get TLS_CFG_en = 0) ∧ (bit TLS_CFG_en = 1) ∧ bit TLS_CFG_start_wait ≠ 0 ∧ (200 ≤ bit TLS_CFG_hb_lead) ∧
      (bit TLS_CFG_hb_lead ≤ 4000) ∧ (allOff s = true)) ∧
    (∃ (s : State) (a : Access) (v : Nat), let bit := fun (f : Fld) => v / 2 ^ f.lsb % 2 ^ f.width
      Ready s ∧ Admits s a ∧ (s.get TLS_CFG_en = 1) ∧ (bit TLS_CFG_en = 0) ∧ ((∀ f ∈ [TLS_CFG_start_role, TLS_CFG_cold_en, TLS_CFG_start_wait,
      TLS_CFG_lane_mask, TLS_CFG_auto_rejoin,
        TLS_CFG_hb_lead], bit f = s.get f)) ∧ s.get TLS_CFG_start_wait ≠ 0 ∧ (200 ≤ s.get TLS_CFG_hb_lead) ∧ (s.get TLS_CFG_hb_lead ≤ 4000) ∧
        (allOff s = true) ∧ ((s.get TLS_STAT_role = 1 ∨ s.get TLS_STAT_role = 2)) ∧ (s.tls.claim = none) ∧ (s.tls.handoff = 0)) ∧
    (∃ (s : State) (a : Access) (v : Nat), let bit := fun (f : Fld) => v / 2 ^ f.lsb % 2 ^ f.width
      Ready s ∧ Admits s a ∧ (s.get TLS_CFG_en = 1) ∧ (bit TLS_CFG_en = 0) ∧ (allOff s = false)) ∧
    (∃ (s : State) (c : Ctx) (p : List Nat), Ready s ∧ Serves s c 0xA0 p) ∧
    (∃ (s : State) (c : Ctx) (p : List Nat), Ready s ∧ Serves s c 0xA1 p ∧ (p = [2]) ∧ (s.get TLS_STAT_role = 1) ∧ (s.get TLS_STAT_peer_ready = 2) ∧
      (s.tls.handoff = 0)) ∧
    (∃ (s : State) (c : Ctx) (p : List Nat), Ready s ∧ Serves s c 0xA1 p ∧ p ≠ [2]) ∧
    (∃ (s : State) (c : Ctx) (p : List Nat), Ready s ∧ Serves s c 0xA1 p ∧ (p = [2]) ∧ s.get TLS_STAT_role ≠ 1) ∧
    (∃ (s : State) (c : Ctx) (p : List Nat), Ready s ∧ Serves s c 0xA2 p ∧ (s.getB TLS_CFG_en = true) ∧
      ((s.get TLS_STAT_role = 0 ∨ s.get TLS_STAT_role = 2 ∧ s.get TLS_STAT_ready = 3)) ∧ (s.getB TLS_STAT_xl_in = true)) ∧
    (∃ (s : State) (c : Ctx) (p : List Nat), Ready s ∧ Serves s c 0xA2 p ∧ (s.getB TLS_CFG_en = false)) ∧
    (∃ (s : State) (c : Ctx) (p : List Nat), Ready s ∧ Serves s c 0xA2 p ∧ (s.get TLS_STAT_role = 2) ∧ s.get TLS_STAT_ready ≠ 3) :=
  ⟨⟨U, A, (V0 1), by unfold Admits Ready; dsimp only; decide +kernel⟩,
   ⟨(PRr 2 2), A, (VV 0), by unfold Admits Ready; dsimp only; decide +kernel⟩,
   ⟨((PRr 1 2).put CHn_STATE_state 3 1), A, (VV 0), by unfold Admits Ready; dsimp only; decide +kernel⟩,
   ⟨U, (CX 1 0), [], by unfold Serves Ready; decide +kernel⟩,
   ⟨(PRr 1 2), (CX 1 0), [2], by unfold Serves Ready; decide +kernel⟩,
   ⟨((PRr 1 2).put CHn_STATE_state 3 1), (CX 1 0), [1], by unfold Serves Ready; decide +kernel⟩,
   ⟨(U.put TLS_STAT_xl_in 1), (CX 1 0), [2], by unfold Serves Ready; decide +kernel⟩,
   ⟨((PRr 0 0).put TLS_STAT_xl_in 1), (CX 1 0), [], by unfold Serves Ready; decide +kernel⟩,
   ⟨U, (CX 1 0), [], by unfold Serves Ready; decide +kernel⟩,
   ⟨PRn, (CX 1 0), [], by unfold Serves Ready; decide +kernel⟩⟩

end WL20

namespace WL21

def CX (ch op : Nat) : Ctx := ⟨62, 5, op, 0, ch, true⟩
def U : State := (R.put LCS_STATE_state 4).modPwr (fun q => {q with stage := 6})
def pkt (op fl q seq : Nat) (h : Nat) (p : List Nat) : List Nat :=
  let x := [op, fl, q] ++ leBytes 2 seq ++ [p.length, h, 0, 0, 0, 0, 0]
  x ++ leBytes 4 (crc32c (x ++ p)) ++ p
def U2 : State := (U.put QPq_CFG_class 1 0).put QPq_WAIT_qwait 7 0
def U3 : State := (U2.putBytes (sqAddr U2 0 0) [1, 0, 0, 5, 0, 0, 0, 0, 0, 0, 0, 0]).put QPq_SQ_tail 1 0

/-- States and operands that meet the hypotheses of each clause of `Queues`. -/
theorem witness_Queues :
    (∃ (s : State) (st : Nat) (b : List Nat), let room := decide (sqLen s (qpOf (b.getD 2 0)) < qDepth s (qpOf (b.getD 2 0)))
      Ready s ∧ (s.bdg.clkBad.testBit 3 = false) ∧ (judgePkt s 0 b room = .rej st)) ∧
    (∃ (s : State) (q : Qp) (c : Ctx) (p b : List Nat), let room := decide (sqLen s (qpOf (b.getD 2 0)) < qDepth s (qpOf (b.getD 2 0)))
      Ready s ∧ (s.bdg.clkBad.testBit 3 = false) ∧ (judgePkt s 0 b room = .stored c p false) ∧ (s.get QPq_SQ_tail c.q.val < 511)) ∧
    (∃ (s : State) (c : Ctx) (st : Nat) (b : List Nat), let room := decide (sqLen s (qpOf (b.getD 2 0)) < qDepth s (qpOf (b.getD 2 0)))
      Ready s ∧ (s.bdg.clkBad.testBit 3 = false) ∧ (judgePkt s 0 b room = .bad c st) ∧ st ≠ 0x30) ∧
    (∃ (s : State) (a : Access) (q : Qp), Ready s ∧ (s.bdg.clkBad.testBit 3 = false) ∧ Admits s a ∧ (ownsQueue s a q.val = true) ∧
      (s.get QPq_SQ_tail q.val < 512)) ∧
    (∃ (s : State) (a : Access) (q : Qp), Ready s ∧ (s.bdg.clkBad.testBit 3 = false) ∧ Admits s a ∧ (ownsQueue s a q.val = false)) ∧
    (∃ (s : State), let u := settleOps s
      Ready s ∧ (s.bdg.clkBad.testBit 3 = false) ∧ ((mpRuns u = false ∨ mpPick u = none))) ∧
    (∃ (s : State) (q : Qp) (cl : Fin 4) (k : Nat) (rest : List Nat), Ready s ∧ (s.bdg.clkBad.testBit 3 = false) ∧ (mpRuns s = true) ∧
      (s.fpl.running = []) ∧ (mpPick s = some (cl, q)) ∧ (qWaiting s q = k :: rest) ∧ (qCmac s q = false)) ∧
    (∃ (s : State) (q : Qp) (k : Nat) (rest : List Nat), Ready s ∧ (s.bdg.clkBad.testBit 3 = false) ∧ (qWaiting s q = k :: rest) ∧
      (qOpen s q = true) ∧ s.get QPq_WAIT_qwait q.val ≠ 0) ∧
    (∃ (s : State) (q : Qp), Ready s ∧ (s.bdg.clkBad.testBit 3 = false) ∧ (s.get QPq_WAIT_qwait q.val = 0)) ∧
    (∃ (s : State), Ready s ∧ (s.bdg.clkBad.testBit 3 = false)) ∧
    (∃ (s : State) (q : Qp), Ready s ∧ (s.bdg.clkBad.testBit 3 = false) ∧ (qOpen s q = true) ∧ (4 ≤ q.val) ∧ s.get QPq_WAIT_idle_to q.val ≠ 0 ∧
      (s.fpl.qps[q].lastTs + 10 * tkMs * s.get QPq_WAIT_idle_to q.val ≤ s.now)) ∧
    (∃ (s : State) (q : Qp), Ready s ∧ (s.bdg.clkBad.testBit 3 = false) ∧
      ((q.val < 4 ∨ s.get QPq_WAIT_idle_to q.val = 0 ∨ s.now < s.fpl.qps[q].lastTs + 10 * tkMs * s.get QPq_WAIT_idle_to q.val))) ∧
    (∃ (s : State), Ready s ∧ (s.bdg.clkBad.testBit 3 = false)) :=
  ⟨⟨U, 0x10, [1, 2], by unfold Ready; dsimp only; decide +kernel⟩,
   ⟨U2, 0, ⟨0, 5, 1, 0, 0, false⟩, [], (pkt 1 0 0 5 0 []), by unfold Ready; dsimp only; decide +kernel⟩,
   ⟨U2, ⟨0, 5, 1, 3, 0, false⟩, 0x13, (pkt 1 3 0 5 0 []), by unfold Ready; dsimp only; decide +kernel⟩,
   ⟨{ U3 with fpl := { U3.fpl with above := 9, below := 9 } }, A, 62, by unfold Admits Ready; decide +kernel⟩,
   ⟨U, A, 0, by unfold Admits Ready; decide +kernel⟩,
   ⟨U, by unfold Ready; dsimp only; decide +kernel⟩,
   ⟨U3, 0, 1, 0, [], by unfold Ready; decide +kernel⟩,
   ⟨U3, 0, 0, [], by unfold Ready; decide +kernel⟩,
   ⟨(((U.put QPq_CFG_open 1 5).put QPq_WAIT_idle_to 7 5)), 5, by unfold Ready; decide +kernel⟩,
   ⟨U, by unfold Ready; decide +kernel⟩,
   ⟨{ (((U.put QPq_CFG_open 1 63).put QPq_WAIT_idle_to 7 63)) with ts := 90000000000#64 }, 63, by unfold Ready; decide +kernel⟩,
   ⟨U, 0, by unfold Ready; decide +kernel⟩,
   ⟨U, by unfold Ready; decide +kernel⟩⟩

end WL21

namespace WL22

def CX (ch op : Nat) : Ctx := ⟨62, 5, op, 0, ch, true⟩
def U : State := (R.put LCS_STATE_state 4).modPwr (fun q => {q with stage := 6})
def RV : Reserve := ⟨7, List.replicate 16 3, 4, []⟩
def E0 : Event := ⟨1, 5, 0x2410, [3, 1]⟩
def U1 : State := (U.put FPL_EVT_SEQ_seq 2).modQp 0 id
def SP : List Nat := [0, 3, 1, 1, 0, 0, 0, 0, 0]
def UF : State := U.forL (List.finRange 64) (fun q s => s.put QPq_CFG_open 1 q.val)
def UK : State := (U.put LCS_KEYS_present 1).modPwr (fun q => {q with keys := [(0, ⟨9, List.replicate 32 1⟩)] })
def KY : List Nat := (aesKey UK 0 3).getD []
def PP : List Nat := [2, 3, 1, 1, 0, 0, 0, 0, 0] ++ aesCmac KY (RV.nonce ++ devIdBytes ++ [RV.q, 1])

/-- States and operands that meet the hypotheses of each clause of `GeneralCommands`. -/
theorem witness_GeneralCommands :
    (∃ (s : State) (c : Ctx) (p : List Nat), Ready s ∧ Serves s c 0x01 p) ∧
    (∃ (s : State) (c : Ctx) (p : List Nat), Ready s ∧ Predecodes s c 0x02 p) ∧
    (∃ (s : State) (c : Ctx) (p : List Nat), let ask := (s.get FPL_EVT_SEQ_seq + 2 ^ 32 - leAt p 0 4 % 2 ^ 32) % 2 ^ 32
      Ready s ∧ Serves s c 0x03 p ∧ (1 ≤ p.getD 4 0) ∧ (p.getD 4 0 ≤ 9) ∧ (shutBist s = false) ∧ (ask ≤ s.log.ring.length) ∧ (ask < 2 ^ 31)) ∧
    (∃ (s : State) (c : Ctx) (p : List Nat), Ready s ∧ Serves s c 0x03 p ∧ ((p.getD 4 0 = 0 ∨ 9 < p.getD 4 0))) ∧
    (∃ (s : State) (c : Ctx) (p : List Nat) (q : Qp) (a : Nat), Ready s ∧ Serves s c 0x04 (p.set 0 0) ∧ (sessionOk (p.set 0 0) = true) ∧
      (qFree s = some q) ∧ (ringAlloc s (512 * 2 ^ p.getD 2 0) = some a) ∧ (2 ≤ p.length)) ∧
    (∃ (s : State) (c : Ctx) (p : List Nat), Ready s ∧ Serves s c 0x04 (p.set 0 0) ∧ (sessionOk (p.set 0 0) = true) ∧ (qFree s = none)) ∧
    (∃ (s : State) (c : Ctx) (p : List Nat) (q : Qp) (a : Nat), Ready s ∧ Serves s c 0x04 (p.set 0 1) ∧ (2 ≤ p.length) ∧
      (barred s (qTrans s c.q) = false) ∧ (sessionOk (p.set 0 1) = true) ∧ (qFree s = some q) ∧ (ringAlloc s (512 * 2 ^ p.getD 2 0) = some a)) ∧
    (∃ (s : State) (c : Ctx) (p : List Nat) (q : Qp), Ready s ∧ Serves s c 0x04 (p.set 0 1) ∧ (2 ≤ p.length) ∧ (barred s (qTrans s c.q) = true)) ∧
    (∃ (s : State) (c : Ctx) (p : List Nat) (q : Qp) (r : Reserve) (key : List Nat), Ready s ∧ Serves s c 0x04 (p.set 0 2) ∧ (9 ≤ p.length) ∧
      (sessionOk (p.set 0 2) = true) ∧ (s.fpl.reserves.find? (fun r => r.transport == qTrans s c.q) = some r) ∧
    (aesKey s (p.getD 8 0) 3 = some key)) ∧
    (∃ (s : State) (c : Ctx) (p : List Nat) (q : Qp) (r : Reserve), Ready s ∧ Serves s c 0x04 (p.set 0 2) ∧ (9 ≤ p.length) ∧
      (sessionOk (p.set 0 2) = true) ∧ (s.fpl.reserves.find? (fun r => r.transport == qTrans s c.q) = none)) ∧
    (∃ (s : State) (c : Ctx) (p : List Nat) (q : Qp), Ready s ∧ Serves s c 0x05 p ∧ (p = [q.val]) ∧ (4 ≤ q.val) ∧ (qOpen s q = true) ∧
      (qTrans s q = qTrans s c.q) ∧ ((c.priv = true ∨ s.getB QPq_CFG_priv q.val = false))) ∧
    (∃ (s : State) (c : Ctx) (p : List Nat) (q : Qp), Ready s ∧ Serves s c 0x05 p ∧ (p = [q.val]) ∧ (q.val < 4) ∧ (qOpen s q = true) ∧
      (qTrans s q = qTrans s c.q) ∧ ((c.priv = true ∨ s.getB QPq_CFG_priv q.val = false))) ∧
    (∃ (s : State) (c : Ctx) (p : List Nat) (v : Nat), Ready s ∧ Serves s c 0x06 p ∧ (p = [v]) ∧ (v ≤ 3) ∧ (s.dev.cfgLock = false) ∧
      v ≠ s.get SYS_PROFILE_active ∧ ((∀ n : Ch, s.chState n.val = 0 ∨ s.chState n.val = 2 ∨ s.chState n.val = 6))) ∧
    (∃ (s : State) (c : Ctx) (p : List Nat) (v : Nat), Ready s ∧ Serves s c 0x06 p ∧ (p = [v]) ∧ (v ≤ 3) ∧ (s.dev.cfgLock = false) ∧
      (v = s.get SYS_PROFILE_active) ∧ (s.get SYS_PROFILE_pending = 0)) ∧
    (∃ (s : State) (c : Ctx) (p : List Nat) (v : Nat), Ready s ∧ Serves s c 0x06 p ∧ (p = [v]) ∧ (v ≤ 3) ∧ (s.dev.cfgLock = false) ∧
      v ≠ s.get SYS_PROFILE_active ∧ (s.chState 3 = 3)) ∧
    (∃ (s : State) (c : Ctx) (p : List Nat) (v : Nat), Ready s ∧ Serves s c 0x06 p ∧ (p = [v]) ∧ (3 < v)) :=
  ⟨⟨U, (CX 1 0), [], by unfold Serves Ready; decide +kernel⟩,
   ⟨U, (CX 1 0), [], by unfold Predecodes Ready; decide +kernel⟩,
   ⟨{ U1 with log := { U1.log with ring := [E0, E0] } }, (CX 1 0), [0, 0, 0, 0, 9], by unfold Serves Ready; dsimp only; decide +kernel⟩,
   ⟨U1, (CX 1 0), [0, 0, 0, 0, 10], by unfold Serves Ready; decide +kernel⟩,
   ⟨U, (CX 1 0), SP, ((qFree U).getD 0), ((ringAlloc U 1024).getD 0), by unfold Serves Ready; decide +kernel⟩,
   ⟨UF, (CX 1 0), SP, by unfold Serves Ready; decide +kernel⟩,
   ⟨U, (CX 1 0), SP, ((qFree U).getD 0), ((ringAlloc U 1024).getD 0), by unfold Serves Ready; decide +kernel⟩,
   ⟨{ UF with fpl := { UF.fpl with bars := [(4, 0)] } }, (CX 1 0), SP, 4, by unfold Serves Ready; decide +kernel⟩,
   ⟨{ UK with fpl := { UK.fpl with reserves := [RV] } }, (CX 1 0), PP, 4, RV, KY, by unfold Serves Ready; decide +kernel⟩,
   ⟨UK, (CX 1 0), PP, 4, RV, by unfold Serves Ready; decide +kernel⟩,
   ⟨((UK.put QPq_CFG_open 1 4).put QPq_CFG_transport 4 4), (CX 1 0), [4], 4, by unfold Serves Ready; decide +kernel⟩,
   ⟨((UK.put QPq_CFG_open 1 3).put QPq_CFG_transport 4 3), (CX 1 0), [3], 3, by unfold Serves Ready; decide +kernel⟩,
   ⟨((UK.put QPq_CFG_open 1 3).put QPq_CFG_transport 4 3), (CX 1 0), [3], 3, by unfold Serves Ready; decide +kernel⟩,
   ⟨(UK.put CHn_STATE_state 3 3), (CX 1 0), [1], 1, by unfold Serves Ready; decide +kernel⟩,
   ⟨(UK.put CHn_STATE_state 3 3), (CX 1 0), [0], 0, by unfold Serves Ready; decide +kernel⟩,
   ⟨((UK.put QPq_CFG_open 1 4).put QPq_CFG_transport 4 4), (CX 1 0), [4], 4, by unfold Serves Ready; decide +kernel⟩⟩

end WL22

namespace WL23

def CX (ch op : Nat) : Ctx := ⟨62, 5, op, 0, ch, true⟩
def U : State := (R.put LCS_STATE_state 4).modPwr (fun q => {q with stage := 6})
def CW : List Nat := [1, 0, 0, 0] ++ leBytes 4 CLK_CKA_PHASE_phase.addr ++ leBytes 4 5

/-- States and operands that meet the hypotheses of each clause of `SetPointsAndRegisters`. -/
theorem witness_SetPointsAndRegisters :
    (∃ (s : State) (c : Ctx) (p : List Nat), let n := chOf c.chan
      Ready s ∧ Serves s c 0x20 p ∧ (slotOwns s n 1 = false) ∧ s.get TLS_STAT_role ≠ 2 ∧ (s.replayed n.val = false)) ∧
    (∃ (s : State) (c : Ctx) (p : List Nat), let n := chOf c.chan
      Ready s ∧ Serves s c 0x20 p ∧ (slotOwns s n 1 = true)) ∧
    (∃ (s : State) (c : Ctx) (p : List Nat), let n := chOf c.chan
      Ready s ∧ Serves s c 0x20 p ∧ (slotOwns s n 1 = false) ∧ (s.get TLS_STAT_role = 2)) ∧
    (∃ (s : State) (c : Ctx) (p : List Nat), let n := chOf c.chan
      Ready s ∧ Serves s c 0x21 p ∧ (p.length = 16) ∧ (slotOwns s n 2 = false) ∧ (slotOwns s n 3 = false) ∧ s.get TLS_STAT_role ≠ 2 ∧
      (s.replayed n.val = false)) ∧
    (∃ (s : State) (c : Ctx) (p : List Nat), let n := chOf c.chan
      Ready s ∧ Serves s c 0x21 p ∧ (slotOwns s n 2 = true)) ∧
    (∃ (s : State) (c : Ctx) (p : List Nat), Ready s ∧ Serves s c 0x22 p ∧ (0 ≤ xImage p 0) ∧ (xImage p 0 ≤ 2 ^ 35)) ∧
    (∃ (s : State) (c : Ctx) (p : List Nat), Ready s ∧ Serves s c 0x22 p ∧ ((xImage p 0 < 0 ∨ 2 ^ 35 < xImage p 0))) ∧
    (∃ (s : State) (c : Ctx) (p : List Nat), let n := chOf c.chan
      let b := p.headD 0
      Ready s ∧ Serves s c 0x23 p ∧ (b ≤ 3) ∧ (0 ≤ xImage p 8) ∧ (0 ≤ xImage p 16) ∧ (0 ≤ xImage p 24) ∧ (s.replayed n.val = false)) ∧
    (∃ (s : State) (c : Ctx) (p : List Nat), let b := p.headD 0
      Ready s ∧ Serves s c 0x23 p ∧ ((3 < b ∨ xImage p 8 < 0))) ∧
    (∃ (s u : State) (c : Ctx) (p : List Nat) (st : Nat), let b := p.headD 0
      Ready s ∧ Serves s c 0x30 p ∧ (b = 1) ∧ (cfgPut s c.priv (leAt p 4 4) (leAt p 8 4) = (st, u)) ∧ u.pwr.stage ≠ 1) ∧
    (∃ (s : State) (c : Ctx) (p : List Nat), let b := p.headD 0
      Ready s ∧ Serves s c 0x30 p ∧ ((b = 0 ∨ 28 < b))) ∧
    (∃ (s : State) (c : Ctx) (p : List Nat), let b := p.headD 0
      Ready s ∧ Serves s c 0x31 p ∧ (b = 1) ∧ (cfgAddr (leAt p 4 4) = true)) ∧
    (∃ (s : State) (c : Ctx) (p : List Nat), let b := p.headD 0
      Ready s ∧ Serves s c 0x31 p ∧ ((b = 0 ∨ 57 < b))) ∧
    (∃ (s : State) (c : Ctx) (p : List Nat), Ready s ∧ Serves s c 0x32 p) ∧
    (∃ (s : State) (c : Ctx) (p : List Nat) (i : Nat), let n := chOf c.chan
      let b := p.headD 0
      let first := leAt p 2 2
      Ready s ∧ Serves s c 0x40 p ∧ (b ≤ 1) ∧ (i < p.getD 4 0) ∧ (p.getD 4 0 ≤ 24) ∧ (first + p.getD 4 0 ≤ 0x400) ∧
      ((p.getD 1 0).testBit 0 = false) ∧ ((List.range (p.getD 4 0)).all (fun j => (wordWrite s n (b * 0x400 + first + j)).isSome) = true) ∧
      (s.replayed n.val = false)) ∧
    (∃ (s : State) (c : Ctx) (p : List Nat), let n := chOf c.chan
      let b := p.headD 0
      let first := leAt p 2 2
      Ready s ∧ Serves s c 0x40 p ∧ (b ≤ 1) ∧ (1 ≤ p.getD 4 0) ∧ (p.getD 4 0 ≤ 24) ∧ (first + p.getD 4 0 ≤ 0x400) ∧
      (wordWrite s n (b * 0x400 + first) = none)) ∧
    (∃ (s : State) (c : Ctx) (p : List Nat), let n := chOf c.chan
      Ready s ∧ Serves s c 0x41 p ∧ (swapRefusal s n = 0)) ∧
    (∃ (s : State) (c : Ctx) (p : List Nat), let n := chOf c.chan
      Ready s ∧ Serves s c 0x41 p ∧ (swapRefusal s n = 1)) ∧
    (∃ (s : State) (e : WordErrs), Ready s ∧ (e = [])) ∧
    (∃ (s : State) (c : Ctx) (p : List Nat) (e : WordErrs), let n := chOf c.chan
      let b := p.headD 0
      let first := leAt p 2 2
      let l := (List.range (p.getD 4 0)).map fun k => spWord n.val (b * 0x400 + first + k)
      let r := eccReads s 1 2 (fun w => l.contains w) e
      Ready s ∧ Serves s c 0x42 p ∧ (b ≤ 2) ∧ (1 ≤ p.getD 4 0) ∧ (p.getD 4 0 ≤ 25) ∧ (first + p.getD 4 0 ≤ (if b = 2 then 0x100 else 0x400)) ∧
      (l.any (isUe r 1) = false)) ∧
    (∃ (s : State) (c : Ctx) (p : List Nat) (e : WordErrs), let n := chOf c.chan
      let b := p.headD 0
      let first := leAt p 2 2
      let l := (List.range (p.getD 4 0)).map fun k => spWord n.val (b * 0x400 + first + k)
      let r := eccReads s 1 2 (fun w => l.contains w) e
      Ready s ∧ Serves s c 0x42 p ∧ (b ≤ 2) ∧ (1 ≤ p.getD 4 0) ∧ (p.getD 4 0 ≤ 25) ∧ (first + p.getD 4 0 ≤ (if b = 2 then 0x100 else 0x400)) ∧
      (l.any (isUe r 1) = true)) ∧
    (∃ (s : State) (c : Ctx) (p : List Nat), let b := p.headD 0
      Ready s ∧ Serves s c 0x42 p ∧ ((2 < b ∨ p.getD 4 0 = 0 ∨ 25 < p.getD 4 0))) :=
  ⟨⟨U, (CX 3 0), (leBytes 8 (2 ^ 35)), by unfold Serves Ready; dsimp only; decide +kernel⟩,
   ⟨(U.put FPL_SLOTn_en 6 3), (CX 3 0), (leBytes 8 5), by unfold Serves Ready; dsimp only; decide +kernel⟩,
   ⟨(U.put TLS_STAT_role 2), (CX 3 0), (leBytes 8 5), by unfold Serves Ready; dsimp only; decide +kernel⟩,
   ⟨U, (CX 3 0), (leBytes 8 (2 ^ 64 - 5) ++ leBytes 8 7), by unfold Serves Ready; dsimp only; decide +kernel⟩,
   ⟨(U.put FPL_SLOTn_en 6 3), (CX 3 0), (leBytes 8 5), by unfold Serves Ready; dsimp only; decide +kernel⟩,
   ⟨U, (CX 3 0), (leBytes 8 (2 ^ 35)), by unfold Serves Ready; decide +kernel⟩,
   ⟨U, (CX 3 0), (leBytes 8 (2 ^ 35 + 1)), by unfold Serves Ready; decide +kernel⟩,
   ⟨U, (CX 3 0), ([3, 0, 0, 0, 0, 0, 0, 0] ++ leBytes 8 7 ++ leBytes 8 (2 ^ 36) ++ leBytes 8 0), by unfold Serves Ready; dsimp only; decide +kernel⟩,
   ⟨U, (CX 3 0), ([4, 0, 0, 0, 0, 0, 0, 0] ++ leBytes 8 7 ++ leBytes 8 (2 ^ 36) ++ leBytes 8 0), by unfold Serves Ready; dsimp only; decide +kernel⟩,
   ⟨U, (cfgPut U true CLK_CKA_PHASE_phase.addr 5).2, (CX 3 0), CW, (cfgPut U true CLK_CKA_PHASE_phase.addr 5).1,
     by unfold Serves Ready; dsimp only; decide +kernel⟩,
   ⟨U, (CX 3 0), [0, 0, 0, 0], by unfold Serves Ready; dsimp only; decide +kernel⟩,
   ⟨U, (CX 3 0), ([1, 0, 0, 0] ++ leBytes 4 CLK_TS_LO_ts.addr), by unfold Serves Ready; dsimp only; decide +kernel⟩,
   ⟨U, (CX 3 0), [0, 0, 0, 0], by unfold Serves Ready; dsimp only; decide +kernel⟩,
   ⟨U, (CX 3 0), [], by unfold Serves Ready; decide +kernel⟩,
   ⟨U, (CX 3 0), ([1, 0, 254, 3, 2, 0, 0, 0] ++ (List.range 18).map (· + 3)), 1, by unfold Serves Ready; dsimp only; decide +kernel⟩,
   ⟨U, (CX 3 0), ([0, 0, 254, 3, 2, 0, 0, 0] ++ (List.range 18).map (· + 3)), by unfold Serves Ready; dsimp only; decide +kernel⟩,
   ⟨(U.put SPn_BANK_seal_b 1 3), (CX 3 0), [], by unfold Serves Ready; dsimp only; decide +kernel⟩,
   ⟨U, (CX 3 0), [], by unfold Serves Ready; dsimp only; decide +kernel⟩,
   ⟨U, [], by unfold Ready; decide +kernel⟩,
   ⟨U, (CX 3 0), [2, 0, 255, 0, 1], [], by unfold Serves Ready; dsimp only; decide +kernel⟩,
   ⟨U, (CX 3 0), [0, 0, 5, 0, 2], [(98304 + 5, [0, 40])], by unfold Serves Ready; dsimp only; decide +kernel⟩,
   ⟨U, (CX 3 0), [2, 0, 255, 0, 26], by unfold Serves Ready; dsimp only; decide +kernel⟩⟩

end WL23

namespace WL24

def CX (ch op : Nat) : Ctx := ⟨62, 5, op, 0, ch, true⟩
def U : State := (R.put LCS_STATE_state 4).modPwr (fun q => {q with stage := 6})
def BK : List Nat := [1, 2, 3]

/-- States and operands that meet the hypotheses of each clause of `ConverterAndMeterCommands`. -/
theorem witness_ConverterAndMeterCommands :
    (∃ (s : State) (c : Ctx) (p : List Nat), let cv := cvOf (p.headD 0)
      Ready s ∧ Serves s c 0x50 p ∧ (p.headD 0 ≤ 7) ∧ (p.getD 1 0 = 0) ∧ (s.get CVc_CAL_full cv.val = 0) ∧
      ((feedsRunning s cv = false ∨ s.getB CVc_CFG_partner_en cv.val = true))) ∧
    (∃ (s : State) (c : Ctx) (p : List Nat), Ready s ∧ Serves s c 0x50 p ∧ (p.headD 0 ≤ 7) ∧ (p.getD 1 0 = 1)) ∧
    (∃ (s : State) (c : Ctx) (p : List Nat), let cv := cvOf (p.headD 0)
      Ready s ∧ Serves s c 0x50 p ∧ (p.headD 0 ≤ 7) ∧ (p.getD 1 0 = 0) ∧ (s.get CVc_CAL_full cv.val = 1)) ∧
    (∃ (s : State) (c : Ctx) (p : List Nat), let cv := cvOf (p.headD 0)
      Ready s ∧ Serves s c 0x51 p ∧ (p.headD 0 ≤ 7) ∧ (p.getD 1 0 ≤ 3) ∧ (windowOk (p.getD 4 0) (p.getD 3 0) (p.getD 2 0) = true) ∧
      (s.get CVc_INJk_start cv.val (p.getD 1 0) = 0)) ∧
    (∃ (s : State) (c : Ctx) (p : List Nat), let cv := cvOf (p.headD 0)
      Ready s ∧ Serves s c 0x51 p ∧ (p.headD 0 ≤ 7) ∧ (p.getD 1 0 ≤ 3) ∧ (windowOk (p.getD 4 0) (p.getD 3 0) (p.getD 2 0) = true) ∧
      (s.get CVc_INJk_start cv.val (p.getD 1 0) = 1)) ∧
    (∃ (s : State) (c : Ctx) (p : List Nat) (i : Ain), Ready s ∧ Serves s c 0x52 p ∧ ((owInputs p).any (inputRuns s) = false) ∧ i ∈ owInputs p ∧
      (s.cvb.cmps[i].ow = .idle)) ∧
    (∃ (s : State) (c : Ctx) (p : List Nat), Ready s ∧ Serves s c 0x52 p ∧ ((owInputs p).any (inputRuns s) = true)) ∧
    (∃ (s : State) (c : Ctx) (p : List Nat), let n := chOf c.chan
      Ready s ∧ Serves s c 0x60 p ∧ (srcCodeOf s n true = 1) ∧ (s.getB PIFn_CTL_z_en n.val = true)) ∧
    (∃ (s : State) (c : Ctx) (p : List Nat), let n := chOf c.chan
      Ready s ∧ Serves s c 0x60 p ∧ srcCodeOf s n true ≠ 1) ∧
    (∃ (s : State) (c : Ctx) (p : List Nat), let n := chOf c.chan
      Ready s ∧ Serves s c 0x61 p ∧ (srcCodeOf s n true = 1) ∧ (leAt p 4 4 < s.get PIFn_GEOM_cpr n.val)) ∧
    (∃ (s : State) (c : Ctx) (p : List Nat), let n := chOf c.chan
      Ready s ∧ Serves s c 0x61 p ∧ ((srcCodeOf s n true ≠ 1 ∨ s.get PIFn_GEOM_cpr n.val ≤ leAt p 4 4))) ∧
    (∃ (s : State) (c : Ctx) (p : List Nat) (crc : Nat) (b : List Nat), Ready s ∧ Serves s c 0x70 p ∧ s.get TLS_STAT_role ≠ 2 ∧
      (s.fpl.qps[c.q].asm = none) ∧ (leAt p 2 2 = 0) ∧ ((p.getD 4 0).testBit 0 = true) ∧ (p.drop 8 = b ++ leBytes 4 crc) ∧ (b.length = leAt p 0 2) ∧
    (crc < 2 ^ 32) ∧ (crc32c b = crc)) ∧
    (∃ (s : State) (c : Ctx) (p : List Nat), Ready s ∧ Serves s c 0x70 p ∧ s.get TLS_STAT_role ≠ 2 ∧ (s.fpl.qps[c.q].asm = none) ∧ (leAt p 2 2 = 0) ∧
      ((p.getD 4 0).testBit 0 = false)) ∧
    (∃ (s : State) (c : Ctx) (p : List Nat), Ready s ∧ Serves s c 0x70 p ∧ (s.get TLS_STAT_role = 2)) ∧
    (∃ (s : State) (c : Ctx) (p : List Nat) (k : Nat), Ready s ∧ Serves s c 0x71 p ∧ (p = [1, k]) ∧ (srcDefined k = true)) ∧
    (∃ (s : State) (c : Ctx) (p : List Nat) (k : Nat), Ready s ∧ Serves s c 0x71 p ∧ (p = [2, k]) ∧ (k ≤ 1) ∧ ((List.range 4).any s.chRuns = false) ∧
      (s.bdg.pulse = none)) ∧
    (∃ (s : State) (c : Ctx) (p : List Nat) (k : Nat), Ready s ∧ Serves s c 0x71 p ∧ (p = [3, k]) ∧ (k < 6)) ∧
    (∃ (s : State) (c : Ctx) (p : List Nat), Ready s ∧ Serves s c 0x71 p ∧ (p.headD 0 = 0)) ∧
    (∃ (s : State) (c : Ctx) (p : List Nat), Ready s ∧ Serves s c 0x80 p) ∧
    (∃ (s : State) (c : Ctx) (p rec : List Nat), Ready s ∧ Serves s c 0x81 p ∧ (p.getD 4 0 = 1) ∧
      (s.mtr.records.find? (fun r => r.1 == leAt p 0 4 % 2 ^ 32) = some (leAt p 0 4 % 2 ^ 32, rec))) ∧
    (∃ (s : State) (c : Ctx) (p : List Nat), Ready s ∧ Serves s c 0x81 p ∧ ((p.getD 4 0 = 0 ∨ 3 < p.getD 4 0))) ∧
    (∃ (s : State) (c : Ctx) (p : List Nat), Ready s ∧ Serves s c 0x82 p ∧ (p.headD 0 = 0) ∧ (-32768 ≤ ofField 32 (leAt p 8 4)) ∧
      (ofField 32 (leAt p 8 4) ≤ 32767)) ∧
    (∃ (s : State) (c : Ctx) (p : List Nat), Ready s ∧ Serves s c 0x82 p ∧ (p.headD 0 = 1) ∧ (-32768 ≤ ofField 32 (leAt p 8 4)) ∧
      (ofField 32 (leAt p 8 4) ≤ 32767)) ∧
    (∃ (s : State) (c : Ctx) (p : List Nat), Ready s ∧ Serves s c 0x82 p ∧ (1 < p.headD 0)) :=
  ⟨⟨U, (CX 3 0), [7, 0], by unfold Serves Ready; dsimp only; decide +kernel⟩,
   ⟨U, (CX 3 0), [7, 1], by unfold Serves Ready; decide +kernel⟩,
   ⟨(U.put CVc_CAL_full 1 7), (CX 3 0), [7, 0], by unfold Serves Ready; dsimp only; decide +kernel⟩,
   ⟨U, (CX 3 0), [7, 3, 9, 8, 8, 1], by unfold Serves Ready; dsimp only; decide +kernel⟩,
   ⟨(U.put CVc_INJk_start 1 7 3), (CX 3 0), [7, 3, 9, 8, 8, 1], by unfold Serves Ready; dsimp only; decide +kernel⟩,
   ⟨U, (CX 3 0), [0, 0, 0, 0, 0, 128], 47, by unfold Serves Ready; decide +kernel⟩,
   ⟨((((((U.put CHn_STATE_state 3 3).put SEQn_CTL_en 1 0).put SEQn_STEPk_A_conv 7 0 0).put SEQn_STEPk_A_input 5 0 0).put SEQn_STEPk_B_sp_en 1 0 0).put SEQn_STEPk_B_sp_ch 3 0 0), (CX 3 0), [0, 0, 0, 0, 0, 128], by unfold Serves Ready; decide +kernel⟩,
   ⟨((U.put PIFn_CTL_pri_src 1 3).put PIFn_CTL_z_en 1 3), (CX 3 0), [], by unfold Serves Ready; dsimp only; decide +kernel⟩,
   ⟨U, (CX 3 0), [], by unfold Serves Ready; dsimp only; decide +kernel⟩,
   ⟨((U.put PIFn_CTL_pri_src 1 3).put PIFn_GEOM_cpr 4096 3), (CX 3 0), (leBytes 4 77 ++ leBytes 4 4095),
     by unfold Serves Ready; dsimp only; decide +kernel⟩,
   ⟨((U.put PIFn_CTL_pri_src 1 3).put PIFn_GEOM_cpr 4096 3), (CX 3 0), (leBytes 4 77 ++ leBytes 4 4096),
     by unfold Serves Ready; dsimp only; decide +kernel⟩,
   ⟨U, (CX 3 0), ([3, 0, 0, 0, 1, 0, 0, 0] ++ BK ++ leBytes 4 (crc32c BK)), (crc32c BK), BK, by unfold Serves Ready; decide +kernel⟩,
   ⟨((U.put PIFn_CTL_pri_src 1 3).put PIFn_GEOM_cpr 4096 3), (CX 3 0), (leBytes 4 77 ++ leBytes 4 4096), by unfold Serves Ready; decide +kernel⟩,
   ⟨(U.put TLS_STAT_role 2), (CX 3 0), ([3, 0, 0, 0, 0, 0, 0, 0] ++ BK ++ leBytes 4 (crc32c BK)), by unfold Serves Ready; decide +kernel⟩,
   ⟨U, (CX 3 0), [1, 0], 0, by unfold Serves Ready; decide +kernel⟩,
   ⟨U, (CX 3 0), [2, 1], 1, by unfold Serves Ready; decide +kernel⟩,
   ⟨U, (CX 3 0), [3, 5], 5, by unfold Serves Ready; decide +kernel⟩,
   ⟨U, (CX 3 0), [0, 5], by unfold Serves Ready; decide +kernel⟩,
   ⟨((U.put PIFn_CTL_pri_src 1 3).put PIFn_CTL_z_en 1 3), (CX 3 0), [], by unfold Serves Ready; decide +kernel⟩,
   ⟨{ U with mtr := { U.mtr with records := [(5, [1, 2, 3])] } }, (CX 3 0), [5, 0, 0, 0, 1], [1, 2, 3], by unfold Serves Ready; decide +kernel⟩,
   ⟨U, (CX 3 0), [5, 0, 0, 0, 4], by unfold Serves Ready; decide +kernel⟩,
   ⟨U, (CX 3 0), ([0, 0, 0, 0] ++ leBytes 4 70000 ++ leBytes 4 (2 ^ 32 - 32768)), by unfold Serves Ready; decide +kernel⟩,
   ⟨U, (CX 3 0), ([1, 0, 0, 0] ++ leBytes 4 70000 ++ leBytes 4 32767), by unfold Serves Ready; decide +kernel⟩,
   ⟨U, (CX 3 0), ([2, 0, 0, 0] ++ leBytes 4 70000 ++ leBytes 4 32767), by unfold Serves Ready; decide +kernel⟩⟩

end WL24

namespace WL25

def CX (ch op : Nat) : Ctx := ⟨62, 5, op, 0, ch, true⟩
def U : State := (R.put LCS_STATE_state 4).modPwr (fun q => {q with stage := 6})
def US : State := ((U.put SETTp_STAT_mode 1 1).put SETT_NODEe_CFG_present 1 510).put SETT_NODEe_CFG_present 1 256

/-- States and operands that meet the hypotheses of each clause of `RecordingAndServiceCommands`. -/
theorem witness_RecordingAndServiceCommands :
    (∃ (s : State) (c : Ctx) (p : List Nat), Ready s ∧ Serves s c 0x90 p ∧ (p.headD 0 ≤ 1) ∧ s.get OWL_STAT_state ≠ 4 ∧
      ((leAt p 4 4).testBit 13 = false)) ∧
    (∃ (s : State) (c : Ctx) (p : List Nat), Ready s ∧ Serves s c 0x90 p ∧ (1 < p.headD 0)) ∧
    (∃ (s : State) (c : Ctx) (p : List Nat), Ready s ∧ Serves s c 0x90 p ∧ (p.headD 0 ≤ 1) ∧ (s.get OWL_STAT_state = 4)) ∧
    (∃ (s : State) (c : Ctx) (p : List Nat), Ready s ∧ Serves s c 0x91 p ∧ (s.get OWL_STAT_state = 1) ∧
      ((s.get OWL_TRIG_MASK_mask).testBit 0 = true)) ∧
    (∃ (s : State) (c : Ctx) (p : List Nat), Ready s ∧ Serves s c 0x91 p ∧ s.get OWL_STAT_state ≠ 1) ∧
    (∃ (s : State) (errs : WordErrs), Ready s ∧ (errs = [])) ∧
    (∃ (s : State) (c : Ctx) (p : List Nat), Ready s ∧ Serves s c 0x92 p ∧ (s.getB QPq_CFG_bulk c.q.val = false) ∧ (1 ≤ leAt p 4 2) ∧
      (leAt p 4 2 ≤ 25) ∧ (owlValid s (leAt p 0 4) = true)) ∧
    (∃ (s : State) (c : Ctx) (p : List Nat), Ready s ∧ Serves s c 0x92 p ∧ ((leAt p 4 2 = 0 ∨ owlValid s (leAt p 0 4) = false))) ∧
    (∃ (s : State) (c : Ctx) (p : List Nat), Ready s ∧ Serves s c 0x93 p ∧ ((∀ n : Ch, s.chState n.val = 0)) ∧
      ((s.get OWL_STAT_state = 0 ∨ s.get OWL_STAT_state = 3))) ∧
    (∃ (s : State) (c : Ctx) (p : List Nat), Ready s ∧ Serves s c 0x93 p ∧ ((s.chState 3 ≠ 0 ∨ s.get OWL_STAT_state = 1))) ∧
    (∃ (s : State) (c : Ctx) (p : List Nat) (po : Port), let e := 256 * p.headD 0 + p.getD 1 0
      Ready s ∧ Serves s c 0xB0 p ∧ (p = [po.val]) ∧ (s.get SETTp_STAT_mode po.val = 1) ∧ (s.setts[po].enumAt = none) ∧
      ((portEntries po).all (fun e => s.chState (s.get SETT_NODEe_CFG_ch e) == 0) = true)) ∧
    (∃ (s : State) (c : Ctx) (p : List Nat) (po : Port), Ready s ∧ Serves s c 0xB0 p ∧ (p = [po.val]) ∧ s.get SETTp_STAT_mode po.val ≠ 1) ∧
    (∃ (s : State) (c : Ctx) (p : List Nat) (po : Port), let e := 256 * p.headD 0 + p.getD 1 0
      Ready s ∧ Serves s c 0xB1 p ∧ (p.headD 0 = po.val) ∧ (1 ≤ p.getD 4 0) ∧ (p.getD 4 0 ≤ 57) ∧ (s.getB SETT_NODEe_CFG_present e = true)) ∧
    (∃ (s : State) (c : Ctx) (p : List Nat), Ready s ∧ Serves s c 0xB1 p ∧ ((1 < p.headD 0 ∨ p.getD 4 0 = 0 ∨ 57 < p.getD 4 0))) ∧
    (∃ (s : State) (c : Ctx) (p : List Nat) (po : Port), let e := 256 * p.headD 0 + p.getD 1 0
      Ready s ∧ Serves s c 0xB2 p ∧ (p.headD 0 = po.val) ∧ (1 ≤ p.getD 4 0) ∧ (p.getD 4 0 ≤ 55) ∧ (s.getB SETT_NODEe_CFG_present e = true)) ∧
    (∃ (s : State) (c : Ctx) (p : List Nat), Ready s ∧ Serves s c 0xC0 p) ∧
    (∃ (s : State) (c : Ctx) (p : List Nat), Ready s ∧ Serves s c 0xC1 p ∧ (s.get LCS_STATE_state = 0) ∧ (p.headD 0 = 1) ∧
      ((p.drop 4).take 16 = List.replicate 16 0)) ∧
    (∃ (s : State) (c : Ctx) (p : List Nat), Ready s ∧ Serves s c 0xC1 p ∧ (lcStep (s.get LCS_STATE_state) (p.headD 0) = false)) ∧
    (∃ (s : State) (c : Ctx) (p : List Nat), Ready s ∧ Serves s c 0xC2 p ∧ ((allOff s = false ∨ s.pwr.fw.isSome = true))) ∧
    (∃ (s : State) (c : Ctx) (p : List Nat), Ready s ∧ Serves s c 0xC2 p ∧ (allOff s = true) ∧ (s.pwr.fw = none) ∧ (s.fpl.qps[c.q].asm = none) ∧
      (leAt p 2 2 = 0) ∧ ((p.getD 4 0).testBit 0 = false)) ∧
    (∃ (s : State) (c : Ctx) (p : List Nat) (k : Nat), Ready s ∧ Serves s c 0xC3 p ∧ s.get LCS_STATE_state ≠ 0 ∧ s.get LCS_STATE_state ≠ 5 ∧
      (p.headD 0 = k) ∧ (k ≤ 15) ∧ (s.getBit LCS_KEYS_revoked k = false) ∧ (s.getBit LCS_KEYS_present k = false)) ∧
    (∃ (s : State) (c : Ctx) (p : List Nat), Ready s ∧ Serves s c 0xF0 p) ∧
    (∃ (s : State) (c : Ctx) (p : List Nat), Ready s ∧ Serves s c 0xF1 p ∧ ((∀ n : Ch, s.chState n.val = 0)) ∧ (s.pwr.selftest = none)) ∧
    (∃ (s : State) (c : Ctx) (p : List Nat), Ready s ∧ Serves s c 0xF1 p ∧ ((s.chState 3 ≠ 0 ∨ s.pwr.selftest.isSome = true))) ∧
    (∃ (s : State) (c : Ctx) (p : List Nat), Ready s ∧ Serves s c 0xFE p ∧ (p.getD 4 0 = 1) ∧ (0x10000000 ≤ leAt p 0 4) ∧ (leAt p 0 4 < 0x10600000) ∧
      (leAt p 0 4 % 4 = 0) ∧ (isUe s (if mpPrivate .mp (leAt p 0 4) then 3 else 0) (leAt p 0 4 / 8 * 8) = false)) ∧
    (∃ (s : State) (c : Ctx) (p : List Nat), Ready s ∧ Serves s c 0xFE p ∧ ((p.getD 4 0 = 0 ∨ 57 < p.getD 4 0))) :=
  ⟨⟨U, (CX 3 0), [1, 255, 0, 0, 5, 16, 7, 8], by unfold Serves Ready; decide +kernel⟩,
   ⟨U, (CX 3 0), [2, 255, 0, 0, 5, 6, 7, 8], by unfold Serves Ready; decide +kernel⟩,
   ⟨(U.put OWL_STAT_state 4), (CX 3 0), [1, 255, 0, 0, 5, 6, 7, 8], by unfold Serves Ready; decide +kernel⟩,
   ⟨((U.put OWL_STAT_state 1).put OWL_TRIG_MASK_mask 1), (CX 3 0), [], by unfold Serves Ready; decide +kernel⟩,
   ⟨U, (CX 3 0), [], by unfold Serves Ready; decide +kernel⟩,
   ⟨U, [], by unfold Ready; decide +kernel⟩,
   ⟨U, (CX 3 0), [15, 0, 0, 0, 25, 0], by unfold Serves Ready; decide +kernel⟩,
   ⟨U, (CX 3 0), [16, 0, 0, 0, 25, 0], by unfold Serves Ready; decide +kernel⟩,
   ⟨U, (CX 3 0), [16, 0, 0, 0, 1], by unfold Serves Ready; decide +kernel⟩,
   ⟨(U.put OWL_STAT_state 1), (CX 3 0), [16, 0, 0, 0, 1], by unfold Serves Ready; decide +kernel⟩,
   ⟨US, (CX 3 0), [1], 1, by unfold Serves Ready; dsimp only; decide +kernel⟩,
   ⟨U, (CX 3 0), [1], 1, by unfold Serves Ready; decide +kernel⟩,
   ⟨US, (CX 3 0), [1, 254, 5, 0, 57], 1, by unfold Serves Ready; dsimp only; decide +kernel⟩,
   ⟨U, (CX 3 0), [16, 0, 0, 0, 1], by unfold Serves Ready; decide +kernel⟩,
   ⟨US, (CX 3 0), ([1, 254, 5, 0, 55, 0, 0, 0] ++ List.replicate 220 7), 1, by unfold Serves Ready; dsimp only; decide +kernel⟩,
   ⟨((U.put OWL_STAT_state 1).put OWL_TRIG_MASK_mask 1), (CX 3 0), [], by unfold Serves Ready; decide +kernel⟩,
   ⟨(U.put LCS_STATE_state 0), (CX 3 0), ([1, 0, 0, 0] ++ List.replicate 16 0), by unfold Serves Ready; decide +kernel⟩,
   ⟨U, (CX 3 0), ([1, 0, 0, 0] ++ List.replicate 16 0), by unfold Serves Ready; decide +kernel⟩,
   ⟨(U.put CHn_STATE_state 1 3), (CX 3 0), ([8, 0, 0, 0, 0, 0, 0, 0] ++ List.replicate 16 0), by unfold Serves Ready; decide +kernel⟩,
   ⟨(U.put LCS_STATE_state 0), (CX 3 0), ([1, 0, 0, 0] ++ List.replicate 16 0), by unfold Serves Ready; decide +kernel⟩,
   ⟨U, (CX 3 0), ([1, 0, 0, 0] ++ List.replicate 16 0), 1, by unfold Serves Ready; decide +kernel⟩,
   ⟨((U.put OWL_STAT_state 1).put OWL_TRIG_MASK_mask 1), (CX 3 0), [], by unfold Serves Ready; decide +kernel⟩,
   ⟨US, (CX 3 0), [1], by unfold Serves Ready; decide +kernel⟩,
   ⟨(U.put CHn_STATE_state 1 3), (CX 3 0), [15], by unfold Serves Ready; decide +kernel⟩,
   ⟨U, (CX 3 0), (leBytes 4 0x105FFFFC ++ [1]), by unfold Serves Ready; decide +kernel⟩,
   ⟨U, (CX 3 0), (leBytes 4 0x105FFFFC ++ [58]), by unfold Serves Ready; decide +kernel⟩⟩

end WL25

namespace WL27

def H0 : State := ((R.put HLK_CFG_en 1).put HLK_ADDR_valid 1).put HLK_ADDR_addr 5
def HQ : State := ((H0.put QPq_CFG_open 1 0).put QPq_CQ_tail 1 0)
def HS : State := (H0.put FPL_SLOTn_en 15 3)
def HE : State := (R.put HLK_CFG_en 1).put HLK_CFG_addr_src 2

/-- States and operands that meet the hypotheses of each clause of `HostLink`. -/
theorem witness_HostLink :
    (∃ (s : State) (b : List Nat), let len := leAt b 2 2
      let whole := b.length = len + 8 ∧ len ≤ 256 ∧ crc32c (b.take (len + 4)) = leAt b (len + 4) 4
      Ready s ∧ (s.bdg.clkBad.testBit 3 = false) ∧ (s.getB HLK_CFG_en = true) ∧ (¬ whole)) ∧
    (∃ (s : State) (b : List Nat), let len := leAt b 2 2
      let whole := b.length = len + 8 ∧ len ≤ 256 ∧ crc32c (b.take (len + 4)) = leAt b (len + 4) 4
      Ready s ∧ (s.bdg.clkBad.testBit 3 = false) ∧ (s.getB HLK_CFG_en = true) ∧ (¬ whole)) ∧
    (∃ (s : State) (b : List Nat), let len := leAt b 2 2
      let whole := b.length = len + 8 ∧ len ≤ 256 ∧ crc32c (b.take (len + 4)) = leAt b (len + 4) 4
      Ready s ∧ (s.bdg.clkBad.testBit 3 = false) ∧ (s.getB HLK_CFG_en = true) ∧ (¬ whole)) ∧
    (∃ (s : State) (b : List Nat), let len := leAt b 2 2
      let whole := b.length = len + 8 ∧ len ≤ 256 ∧ crc32c (b.take (len + 4)) = leAt b (len + 4) 4
      Ready s ∧ (s.bdg.clkBad.testBit 3 = false) ∧ (s.getB HLK_CFG_en = true) ∧ (¬ whole)) ∧
    (∃ (s : State) (b : List Nat), let len := leAt b 2 2
      let whole := b.length = len + 8 ∧ len ≤ 256 ∧ crc32c (b.take (len + 4)) = leAt b (len + 4) 4
      Ready s ∧ (s.bdg.clkBad.testBit 3 = false) ∧ (s.getB HLK_CFG_en = true) ∧ (¬ whole)) ∧
    (∃ (s : State) (b : List Nat), let len := leAt b 2 2
      let whole := b.length = len + 8 ∧ len ≤ 256 ∧ crc32c (b.take (len + 4)) = leAt b (len + 4) 4
      let own := whole ∧ s.getB HLK_ADDR_valid = true ∧ b.getD 0 0 = s.get HLK_ADDR_addr
      Ready s ∧ (s.bdg.clkBad.testBit 3 = false) ∧ (s.getB HLK_CFG_en = true) ∧ own ∧ (b.getD 1 0 = 1) ∧ (pollQueue s = none)) ∧
    (∃ (s : State) (q : Qp) (b : List Nat), let len := leAt b 2 2
      let whole := b.length = len + 8 ∧ len ≤ 256 ∧ crc32c (b.take (len + 4)) = leAt b (len + 4) 4
      let own := whole ∧ s.getB HLK_ADDR_valid = true ∧ b.getD 0 0 = s.get HLK_ADDR_addr
      Ready s ∧ (s.bdg.clkBad.testBit 3 = false) ∧ (s.getB HLK_CFG_en = true) ∧ own ∧ (b.getD 1 0 = 1) ∧ (pollQueue s = some q)) ∧
    (∃ (s : State) (b : List Nat) (st : Nat), let len := leAt b 2 2
      let whole := b.length = len + 8 ∧ len ≤ 256 ∧ crc32c (b.take (len + 4)) = leAt b (len + 4) 4
      let own := whole ∧ s.getB HLK_ADDR_valid = true ∧ b.getD 0 0 = s.get HLK_ADDR_addr
      let pl := (b.drop 4).take len
      let r := packetArrival s 0 0 pl
      Ready s ∧ (s.bdg.clkBad.testBit 3 = false) ∧ (s.getB HLK_CFG_en = true) ∧ own ∧ (b.getD 1 0 = 2) ∧ (r.1 = .rej st)) ∧
    (∃ (s : State) (b : List Nat), let len := leAt b 2 2
      let whole := b.length = len + 8 ∧ len ≤ 256 ∧ crc32c (b.take (len + 4)) = leAt b (len + 4) 4
      Ready s ∧ (s.bdg.clkBad.testBit 3 = false) ∧ (s.getB HLK_CFG_en = true) ∧ whole ∧ (hlkOwn s (b.getD 0 0) = false) ∧
      (hlkGroup s (b.getD 0 0) = true) ∧ (b.getD 1 0 = 2)) ∧
    (∃ (s : State) (n : Ch) (g : Fin 4) (b : List Nat), let len := leAt b 2 2
      let whole := b.length = len + 8 ∧ len ≤ 256 ∧ crc32c (b.take (len + 4)) = leAt b (len + 4) 4
      let own := whole ∧ s.getB HLK_ADDR_valid = true ∧ b.getD 0 0 = s.get HLK_ADDR_addr
      let pl := (b.drop 4).take len
      let e := pl
      Ready s ∧ (s.bdg.clkBad.testBit 3 = false) ∧ (s.getB HLK_CFG_en = true) ∧ own ∧ (b.getD 1 0 = 3) ∧ (len = 8) ∧
      (e.getD 0 0 = s.get HLK_ADDR_addr) ∧ (e.getD 1 0 = 16 * n.val + g.val) ∧ (slotFrom s n g.val 0 = true) ∧
      (sget 0 s.fpl.alive (4 * n.val + g.val) = 0) ∧ (isStandby s = false) ∧ (s.owl.replay = none)) ∧
    (∃ (s : State) (n : Ch) (g : Fin 4) (b : List Nat), let len := leAt b 2 2
      let whole := b.length = len + 8 ∧ len ≤ 256 ∧ crc32c (b.take (len + 4)) = leAt b (len + 4) 4
      let own := whole ∧ s.getB HLK_ADDR_valid = true ∧ b.getD 0 0 = s.get HLK_ADDR_addr
      let pl := (b.drop 4).take len
      let e := pl
      Ready s ∧ (s.bdg.clkBad.testBit 3 = false) ∧ (s.getB HLK_CFG_en = true) ∧ own ∧ (b.getD 1 0 = 3) ∧ (len = 8) ∧
      (e.getD 0 0 = s.get HLK_ADDR_addr) ∧ (e.getD 1 0 = 16 * n.val + g.val) ∧ (slotFrom s n g.val 0 = true) ∧
      (sget 0 s.fpl.alive (4 * n.val + g.val) = e.getD 2 0 % 256 + 1) ∧ (s.fpl.bad[n] < 2)) ∧
    (∃ (s : State) (n : Ch) (g : Fin 4) (b : List Nat), let len := leAt b 2 2
      let whole := b.length = len + 8 ∧ len ≤ 256 ∧ crc32c (b.take (len + 4)) = leAt b (len + 4) 4
      let own := whole ∧ s.getB HLK_ADDR_valid = true ∧ b.getD 0 0 = s.get HLK_ADDR_addr
      let pl := (b.drop 4).take len
      let e := pl
      Ready s ∧ (s.bdg.clkBad.testBit 3 = false) ∧ (s.getB HLK_CFG_en = true) ∧ own ∧ (b.getD 1 0 = 3) ∧ (len = 8) ∧
      (e.getD 0 0 = s.get HLK_ADDR_addr) ∧ (e.getD 1 0 = 16 * n.val + g.val) ∧ (slotFrom s n g.val 0 = false)) ∧
    (∃ (s : State) (b : List Nat), let len := leAt b 2 2
      let whole := b.length = len + 8 ∧ len ≤ 256 ∧ crc32c (b.take (len + 4)) = leAt b (len + 4) 4
      let pl := (b.drop 4).take len
      Ready s ∧ (s.bdg.clkBad.testBit 3 = false) ∧ (s.getB HLK_CFG_en = true) ∧ whole ∧ (b.getD 0 0 = 0x7F) ∧ (b.getD 1 0 = 4) ∧ (len = 2) ∧
      (pl.getD 0 0 = 0) ∧ pl.getD 1 0 ≠ 0 ∧ (s.get HLK_CFG_addr_src = 2) ∧ (s.getB HLK_ADDR_valid = false)) ∧
    (∃ (s : State) (b : List Nat), let len := leAt b 2 2
      let whole := b.length = len + 8 ∧ len ≤ 256 ∧ crc32c (b.take (len + 4)) = leAt b (len + 4) 4
      let pl := (b.drop 4).take len
      Ready s ∧ (s.bdg.clkBad.testBit 3 = false) ∧ (s.getB HLK_CFG_en = true) ∧ whole ∧ (b.getD 0 0 = 0x7F) ∧ (b.getD 1 0 = 4) ∧ (pl.getD 0 0 = 0) ∧
      (s.getB HLK_ADDR_valid = true)) ∧
    (∃ (s : State) (b : List Nat), let len := leAt b 2 2
      let whole := b.length = len + 8 ∧ len ≤ 256 ∧ crc32c (b.take (len + 4)) = leAt b (len + 4) 4
      let pl := (b.drop 4).take len
      Ready s ∧ (s.bdg.clkBad.testBit 3 = false) ∧ (s.getB HLK_CFG_en = true) ∧ whole ∧ (b.getD 0 0 = 0x7F) ∧ (b.getD 1 0 = 4) ∧ (len = 10) ∧
      (pl.getD 0 0 = 1) ∧ (pl.getD 9 0 < 64) ∧ (s.get HLK_CFG_addr_src = 2)) ∧
    (∃ (s : State), Ready s ∧ (s.bdg.clkBad.testBit 3 = false) ∧ (s.getB HLK_CFG_en = true)) :=
  ⟨⟨H0, [1,2], by unfold Ready; dsimp only; decide +kernel⟩,
   ⟨H0, [1,2], by unfold Ready; dsimp only; decide +kernel⟩,
   ⟨H0, [1,2], by unfold Ready; dsimp only; decide +kernel⟩,
   ⟨H0, [1,2], by unfold Ready; dsimp only; decide +kernel⟩,
   ⟨H0, [1,2], by unfold Ready; dsimp only; decide +kernel⟩,
   ⟨H0, (hlkBytes 5 1 []), by unfold Ready; dsimp only; decide +kernel⟩,
   ⟨HQ, 0, (hlkBytes 5 1 []), by unfold Ready; dsimp only; decide +kernel⟩,
   ⟨H0, (hlkBytes 5 2 [1,2]), 16, by unfold Ready; dsimp only; decide +kernel⟩,
   ⟨H0, (hlkBytes 127 2 [1,2]), by unfold Ready; dsimp only; decide +kernel⟩,
   ⟨HS, 3, 3, (hlkBytes 5 3 [5,51,7,0,0,0,0,128]), by unfold Ready; dsimp only; decide +kernel⟩,
   ⟨(slotMessage HS 3 0 8 7 [(3, 5)]), 3, 3, (hlkBytes 5 3 [5,51,7,0,0,0,0,128]), by unfold Ready; dsimp only; decide +kernel⟩,
   ⟨HS, 2, 3, (hlkBytes 5 3 [5,35,7,0,0,0,0,128]), by unfold Ready; dsimp only; decide +kernel⟩,
   ⟨HE, (hlkBytes 127 4 [0, 9]), by unfold Ready; dsimp only; decide +kernel⟩,
   ⟨H0, (hlkBytes 127 4 [0, 9]), by unfold Ready; dsimp only; decide +kernel⟩,
   ⟨HE, (hlkBytes 127 4 ([1] ++ leBytes 8 1 ++ [63])), by unfold Ready; dsimp only; decide +kernel⟩,
   ⟨H0, by unfold Ready; decide +kernel⟩⟩

end WL27

namespace WL28

def CX (ch op : Nat) : Ctx := ⟨62, 5, op, 0, ch, true⟩
def U : State := (R.put LCS_STATE_state 4).modPwr (fun q => {q with stage := 6})
def US : State := ((U.put SETTp_STAT_mode 1 1).put SETT_NODEe_CFG_present 1 510).put SETT_NODEe_CFG_present 1 256
def K : State := (R.put CANx_CTL_en 1 1).put FPL_SLOTn_en 15 2 |>.put FPL_SLOTn_src 2 2
def r0 : RunOp := ⟨CX 0 5, [], false⟩
def z63 : List Nat := List.replicate 63 9
def cb (st : State) (h : Nat) : List Nat := let d := [h, 1, 0, 0, 128]; d ++ [crc8 (leBytes 4 (st.get CANx_CTL_base 1 + 4) ++ d)]
def PL : State := ((((R.put PLIC_PEND_bits (2^31+2^1) 7).put PLIC_EN_bits (2^31+2) 4 7).put PLIC_PRIO_prio 7 255).put PLIC_PRIO_prio 7 225)

/-- States and operands that meet the hypotheses of each clause of `CanTimeAndInterrupts`. -/
theorem witness_CanTimeAndInterrupts :
    (∃ (s : State) (x : Fin 2) (b : List Nat), Ready s ∧ (s.bdg.clkBad.testBit 3 = false) ∧ (canOn s x = true) ∧ (b.length = 64) ∧
      (b.getD 0 0 = 128)) ∧
    (∃ (s : State) (x : Fin 2) (b pkt : List Nat), Ready s ∧ (s.bdg.clkBad.testBit 3 = false) ∧ (canOn s x = true) ∧ (b.length = 64) ∧
      (b.getD 0 0 < 64) ∧ (s.net.canAsm[x] = some (pkt, b.getD 0 0)) ∧ (pkt.length ≤ 252)) ∧
    (∃ (s : State) (x : Fin 2) (b pkt : List Nat), Ready s ∧ (s.bdg.clkBad.testBit 3 = false) ∧ (canOn s x = true) ∧ (b.length = 64) ∧
      (b.getD 0 0 = 192) ∧ (pkt = b.drop 1)) ∧
    (∃ (s : State) (x : Fin 2) (b : List Nat), Ready s ∧ (s.bdg.clkBad.testBit 3 = false) ∧ (canOn s x = true) ∧ ((b.length ≠ 64 ∨ (b.getD 0 0 < 64 ∧
      s.net.canAsm[x] = none)))) ∧
    (∃ (s : State) (x : Fin 2), Ready s ∧ (s.bdg.clkBad.testBit 3 = false) ∧ s.net.canAsm[x] ≠ none) ∧
    (∃ (s : State) (x : Fin 2) (n : Ch) (g : Fin 4) (b : List Nat), let id := leBytes 4 (s.get CANx_CTL_base x.val + 2 + n.val)
      let d := b.take (b.length - 1)
      Ready s ∧ (s.bdg.clkBad.testBit 3 = false) ∧ (canOn s x = true) ∧ (b.getD 0 0 / 16 = 2 ^ g.val) ∧ (6 ≤ b.length) ∧ (crc8 (id
      ++ d) = b.getLastD 0) ∧ (slotFrom s n g.val (1 + x.val) = true) ∧ (sget 0 s.fpl.alive (16 + 4 * n.val + g.val) = 0) ∧ (isStandby s = false) ∧
      (s.owl.replay = none)) ∧
    (∃ (s : State) (x : Fin 2) (n : Ch) (b : List Nat), let id := leBytes 4 (s.get CANx_CTL_base x.val + 2 + n.val)
      let d := b.take (b.length - 1)
      Ready s ∧ (s.bdg.clkBad.testBit 3 = false) ∧ (canOn s x = true) ∧ crc8 (id ++ d) ≠ b.getLastD 0) ∧
    (∃ (s : State) (x : Fin 2) (n : Ch) (b : List Nat), let id := leBytes 4 (s.get CANx_CTL_base x.val + 2 + n.val)
      let d := b.take (b.length - 1)
      Ready s ∧ (s.bdg.clkBad.testBit 3 = false) ∧ (canOn s x = true) ∧ (s.fpl.bad[n] = 2) ∧ crc8 (id ++ d) ≠ b.getLastD 0) ∧
    (∃ (s : State) (x : Fin 2), Ready s ∧ (s.bdg.clkBad.testBit 3 = false) ∧ (canOn s x = true)) ∧
    (∃ (s : State) (x : Fin 2), Ready s ∧ (s.bdg.clkBad.testBit 3 = false) ∧ (s.get CANx_STAT_state x.val = 2)) ∧
    (∃ (s : State) (n : Ch) (g : Fin 4), Ready s ∧ (s.bdg.clkBad.testBit 3 = false) ∧ (s.getBit FPL_SLOTn_en g.val n.val = true) ∧
      (s.getB FPL_SLOTn_stale_to n.val = true)) ∧
    (∃ (s : State) (ts0 t0 : Nat) (rate : Int), Ready s ∧ (s.bdg.clkBad.testBit 3 = false) ∧ (mpRuns s = true) ∧ (ts0 < 2 ^ 64) ∧ (t0 < 2 ^ 64) ∧
      (-(2 ^ 31) ≤ rate) ∧ (rate < 2 ^ 31)) ∧
    (∃ (s : State), Ready s ∧ (s.bdg.clkBad.testBit 3 = false) ∧ (s.getB ETH_PTP_STAT_valid = true)) ∧
    (∃ (s : State) (r : RunOp), let q := r.ctx.q
      Ready s ∧ (s.bdg.clkBad.testBit 3 = false) ∧ (s.bdg.mpDead = false) ∧ (s.bdg.holds.testBit 6 = true) ∧ (s.fpl.running = [r]) ∧
      (r.void = false) ∧ (qOpen s q = true) ∧ (cqLen s q < qDepth s q)) ∧
    (∃ (s : State), Ready s ∧ (s.bdg.clkBad.testBit 3 = false) ∧ ((s.bdg.mpDead = true ∨ s.bdg.holds.testBit 6 = false))) ∧
    (∃ (s : State) (a : Access) (cx : Fin 5) (k : Nat), Ready s ∧ (s.bdg.clkBad.testBit 3 = false) ∧ (a.priv = true) ∧ (a.dbg = false) ∧
      (s.owl.replay = none) ∧ k ∈ plicCands s cx.val ∧ ((∀ j ∈ plicCands s cx.val,
    s.get PLIC_PRIO_prio j < s.get PLIC_PRIO_prio k ∨ (s.get PLIC_PRIO_prio j = s.get PLIC_PRIO_prio k ∧ k ≤ j))) ∧ k ≠ 0) ∧
    (∃ (s : State) (a : Access) (cx : Fin 5), Ready s ∧ (s.bdg.clkBad.testBit 3 = false) ∧ (a.priv = true) ∧ (a.dbg = false) ∧
      (s.owl.replay = none) ∧ (plicCands s cx.val = [])) ∧
    (∃ (s : State) (a : Access) (cx : Fin 5) (v : Nat), Ready s ∧ (s.bdg.clkBad.testBit 3 = false) ∧ Admits s a ∧
      (s.getBit PLIC_EN_bits (v % 256 % 32) cx.val (v % 256 / 32) = true)) ∧
    (∃ (s : State) (a : Access) (cx : Fin 5) (v : Nat), Ready s ∧ (s.bdg.clkBad.testBit 3 = false) ∧ Admits s a ∧
      (s.getBit PLIC_EN_bits (v % 256 % 32) cx.val (v % 256 / 32) = false)) :=
  ⟨⟨K, 1, (128 :: z63), by unfold Ready; decide +kernel⟩,
   ⟨(canAsmPut K 1 (some ([7], 3))), 1, (3 :: z63), [7], by unfold Ready; decide +kernel⟩,
   ⟨(canAsmPut K 1 (some ([7], 3))), 1, (192 :: z63), z63, by unfold Ready; decide +kernel⟩,
   ⟨K, 1, (3 :: z63), by unfold Ready; decide +kernel⟩,
   ⟨(canAsmPut K 1 (some ([7], 3))), 1, by unfold Ready; decide +kernel⟩,
   ⟨K, 1, 2, 3, (cb K 133), by unfold Ready; dsimp only; decide +kernel⟩,
   ⟨K, 1, 2, (128 :: z63), by unfold Ready; dsimp only; decide +kernel⟩,
   ⟨{ K with fpl := { K.fpl with bad := ⟨#[0,0,2,0], rfl⟩ } }, 1, 2, (cb K 133 ++ [0]), by unfold Ready; dsimp only; decide +kernel⟩,
   ⟨K, 1, by unfold Ready; decide +kernel⟩,
   ⟨(K.put CANx_STAT_state 2 1), 1, by unfold Ready; decide +kernel⟩,
   ⟨(K.put FPL_SLOTn_stale_to 2 2), 2, 3, by unfold Ready; decide +kernel⟩,
   ⟨K, 5, 6, (-7), by unfold Ready; decide +kernel⟩,
   ⟨(U.put ETH_PTP_STAT_valid 1), by unfold Ready; decide +kernel⟩,
   ⟨{(U.modBdg (fun b => {b with holds := 64})).put QPq_CFG_open 1 62 with fpl := {U.fpl with running := [r0]}}, r0, by unfold Ready; dsimp only; decide +kernel⟩,
   ⟨K, by unfold Ready; decide +kernel⟩,
   ⟨PL, A, 4, 225, by unfold Ready; decide +kernel⟩,
   ⟨K, A, 4, by unfold Ready; decide +kernel⟩,
   ⟨PL, A, 4, 255, by unfold Admits Ready; decide +kernel⟩,
   ⟨K, A, 4, 0, by unfold Admits Ready; decide +kernel⟩⟩

end WL28

namespace WL29

def CX (ch op : Nat) : Ctx := ⟨62, 5, op, 0, ch, true⟩
def s1 (s : State) : Nat := 256 * (portOf (s.get MTR_CFG_pack_port)).val + s.get MTR_CFG_pack_addr
def G0 : State := R.put SETTp_CFG_en 1 1
def ms (s : State) (f : SettSt → SettSt) : State := s.modSett 1 f
def tx0 : SlowTx := ⟨false, 300, 5, 2, [], 2, .slot⟩
def G1 : State := (((ms G0 (fun x => {x with ends := x.ends.map (fun e => {e with fast := some 3}), due := [0]})).put SETT_NODEe_CFG_present 1 300).put SETT_NODEe_CFG_class 2 300).put SETTp_STAT_mode 1 1
def slb : List Nat := let d := [0x90, 1, 255]; d ++ [crc8 d]
def tx1 : SlowTx := ⟨false, 300, 5, 2, [], 2, .command (CX 0 5)⟩
def tx2 : SlowTx := ⟨false, 300, 5, 2, [], 2, .pack⟩
def GLn : State := ((ms (G1.put SETTp_STAT_mode 2 1) (fun x => {x with lostEnds := 1})).put SETT_NODEe_CFG_pos 9 300).put SETTp_STAT_end_b 9 1
def GR : State := ms (G0.put SETT_NODEe_CFG_present 1 510 |>.put SETT_NODEe_CFG_class 1 510) (fun x => {x with ends := x.ends.map (fun e => {e with left := 3, turn := 511})})

/-- States and operands that meet the hypotheses of each clause of `SettRings`. -/
theorem witness_SettRings :
    (∃ (s : State) (p : Port) (d : Nat), let x := s.setts[p]
      Ready s ∧ (s.getB SETTp_CFG_en p.val = true) ∧ (x.enumAt = none) ∧ (fastDue s p = some d) ∧ (fastBusy s p = false) ∧ (x.lineIn = none) ∧
      (x.ringDue = false)) ∧
    (∃ (s : State) (p : Port) (d : Nat), let x := s.setts[p]
      Ready s ∧ (s.getB SETTp_CFG_en p.val = true) ∧ (x.enumAt = none) ∧ (fastDue s p = some d) ∧ (fastBusy s p = false) ∧ (x.lineIn = some 1)) ∧
    (∃ (s : State) (p : Port) (d : Nat), let x := s.setts[p]
      Ready s ∧ (s.getB SETTp_CFG_en p.val = true) ∧ (x.enumAt = none) ∧ (fastDue s p = some d) ∧ (fastBusy s p = false) ∧ (x.lineIn = none) ∧
      (x.ringDue = true)) ∧
    (∃ (s : State) (p : Port) (d : Nat), let x := s.setts[p]
      Ready s ∧ (s.getB SETTp_CFG_en p.val = true) ∧ (x.enumAt = none) ∧ (fastDue s p = some d) ∧ (fastBusy s p = true)) ∧
    (∃ (s : State) (p : Port) (d : Nat), let x := s.setts[p]
      Ready s ∧ ((s.getB SETTp_CFG_en p.val = false ∨ x.enumAt ≠ none)) ∧ (fastDue s p = some d)) ∧
    (∃ (s : State) (p : Port), Ready s ∧ (fastDue s p = none)) ∧
    (∃ (s : State) (p : Port) (e : Nat) (b : List Nat) (bd : Fin 2), let x := s.setts[p]
      Ready s ∧ x.ends[bd].fast ≠ none ∧ (endEntries s p bd = [e]) ∧ (s.get SETTp_STAT_mode p.val = 1) ∧ (slotValid s e b = true)) ∧
    (∃ (s : State) (p : Port) (e : Nat) (b : List Nat) (bd : Fin 2), let x := s.setts[p]
      Ready s ∧ x.ends[bd].fast ≠ none ∧ (endEntries s p bd = [e]) ∧ (s.get SETTp_STAT_mode p.val = 1) ∧ (slotValid s e b = false)) ∧
    (∃ (s : State) (p : Port) (e : Nat) (bd : Fin 2), let x := s.setts[p]
      Ready s ∧ x.ends[bd].fast ≠ none ∧ e ∈ fastEntries s p ∧ s.get SETTp_STAT_mode p.val ≠ 2) ∧
    (∃ (s : State) (p : Port) (e : Nat) (bd : Fin 2), let x := s.setts[p]
      Ready s ∧ x.ends[bd].fast ≠ none ∧ e ∈ fastEntries s p ∧ ((lineEnd s p e = some bd ∨ (lineEnd s p e = none ∧ bd = 0))) ∧
      (s.get SETTp_STAT_mode p.val = 2)) ∧
    (∃ (s : State) (p : Port) (tx : SlowTx) (bd : Fin 2), let x := s.setts[p]
      Ready s ∧ (s.getB SETTp_CFG_en p.val = true) ∧ (x.enumAt = none) ∧ (x.ends[bd].slow = none) ∧ ((bd = 0 ∨ s.get SETTp_STAT_mode p.val = 2)) ∧
      (x.slowQ.find? (fun u => slowEnd s p u.node == bd) = some tx)) ∧
    (∃ (s : State) (p : Port) (e : Nat) (bd : Fin 2), let x := s.setts[p]
      Ready s ∧ (s.getB SETTp_CFG_en p.val = true) ∧ (x.enumAt = none) ∧ (x.ends[bd].slow = none) ∧ ((bd = 0 ∨ s.get SETTp_STAT_mode p.val = 2)) ∧
      (x.slowQ = []) ∧ (x.ends[bd].left = 0) ∧ (slowNext s p bd = some e) ∧ (slowFits s p (slotLen s e / 4) = true)) ∧
    (∃ (s : State) (p : Port) (e k : Nat) (bd : Fin 2), let x := s.setts[p]
      Ready s ∧ (s.getB SETTp_CFG_en p.val = true) ∧ (x.enumAt = none) ∧ (x.ends[bd].slow = none) ∧ ((bd = 0 ∨ s.get SETTp_STAT_mode p.val = 2)) ∧
      (x.slowQ = []) ∧ (x.ends[bd].left = k + 1) ∧ (x.ends[bd].turn = e + 1) ∧ e ∈ slowEntries s p bd ∧ (slowFits s p 4 = true)) ∧
    (∃ (s : State) (p : Port) (bd : Fin 2), Ready s ∧ (bd = 1) ∧ s.get SETTp_STAT_mode p.val ≠ 2) ∧
    (∃ (s : State) (p : Port) (b : List Nat) (tx : SlowTx) (bd : Fin 2), let x := s.setts[p]
      Ready s ∧ (x.ends[bd].slow = some tx) ∧ (tx.use = .slot) ∧ (slotValid s tx.node b = true)) ∧
    (∃ (s : State) (p : Port) (c : Ctx) (tx : SlowTx) (bd : Fin 2), let x := s.setts[p]
      Ready s ∧ (x.ends[bd].slow = some tx) ∧ (tx.use = .command c) ∧ (tx.tries < 3)) ∧
    (∃ (s : State) (p : Port) (tx : SlowTx) (bd : Fin 2), let x := s.setts[p]
      Ready s ∧ (x.ends[bd].slow = some tx) ∧ (tx.use = .pack) ∧ (tx.tries < 3)) ∧
    (∃ (s : State) (p : Port) (c : Ctx) (tx : SlowTx) (bd : Fin 2), let x := s.setts[p]
      Ready s ∧ (x.ends[bd].slow = some tx) ∧ (tx.use = .command c) ∧ (tx.write = false) ∧ (x.slowQ = [])) ∧
    (∃ (s : State), let pp := portOf (s.get MTR_CFG_pack_port)
      let pe := 256 * pp.val + s.get MTR_CFG_pack_addr
      Ready s ∧ (packConf s = false) ∧ (s.getB SETT_NODEe_CFG_present pe = true) ∧ (packBusy s pp = false)) ∧
    (∃ (s : State), let pp := portOf (s.get MTR_CFG_pack_port)
      Ready s ∧ ((packConf s = true ∨ packBusy s pp = true))) ∧
    (∃ (s : State), Ready s ∧ (packConf s = false) ∧ (s.mtr.packTs + 4000000000 ≤ s.now)) ∧
    (∃ (s : State), Ready s ∧ ((packConf s = true ∨ s.now < s.mtr.packTs + 4000000000))) ∧
    (∃ (s : State) (p : Port) (k kind id pos : Nat), let x := s.setts[p]
      Ready s ∧ (x.enumAt = some k) ∧ (k < 255) ∧ (kind < 2 ^ SETT_NODEe_CFG_kind.width) ∧ (id < 2 ^ 64) ∧ (pos < 256)) ∧
    (∃ (s : State) (p : Port) (k : Nat), let x := s.setts[p]
      Ready s ∧ (x.enumAt = some k) ∧ (k ≤ 255)) ∧
    (∃ (s : State) (p : Port), let x := s.setts[p]
      Ready s ∧ (x.enumAt = some 255)) ∧
    (∃ (s : State) (p : Port) (quiet : Bool), let x := s.setts[p]
      Ready s ∧ (s.get SETTp_STAT_mode p.val = 1) ∧ (x.lineIn = none) ∧ ((quiet = true ∨ 2 ≤ x.lostRun))) ∧
    (∃ (s : State) (p : Port) (quiet : Bool), let x := s.setts[p]
      Ready s ∧ ((s.get SETTp_STAT_mode p.val ≠ 1 ∨ (quiet = false ∧ x.lostRun < 2)))) ∧
    (∃ (s : State) (p : Port), let x := s.setts[p]
      Ready s ∧ (s.get SETTp_STAT_mode p.val = 2) ∧ (x.enumAt = none)) :=
  ⟨⟨(ms G0 (fun x => {x with due := [0]})), 1, 0, by unfold Ready; dsimp only; decide +kernel⟩,
   ⟨(ms G0 (fun x => {x with lineIn := some 1, due := [0]})), 1, 0, by unfold Ready; dsimp only; decide +kernel⟩,
   ⟨(ms G0 (fun x => {x with ringDue := true, due := [0]})), 1, 0, by unfold Ready; dsimp only; decide +kernel⟩,
   ⟨G1, 1, 0, by unfold Ready; dsimp only; decide +kernel⟩,
   ⟨(ms R (fun x => {x with due := [0]})), 1, 0, by unfold Ready; dsimp only; decide +kernel⟩,
   ⟨(ms G0 (fun x => {x with slowQ := [tx0, tx0]})), 1, by unfold Ready; decide +kernel⟩,
   ⟨G1, 1, 300, slb, 0, by unfold Ready; dsimp only; decide +kernel⟩,
   ⟨G1, 1, 300, [], 0, by unfold Ready; dsimp only; decide +kernel⟩,
   ⟨G1, 1, 300, 0, by unfold Ready; dsimp only; decide +kernel⟩,
   ⟨(G1.put SETTp_STAT_mode 2 1), 1, 300, 0, by unfold Ready; dsimp only; decide +kernel⟩,
   ⟨(ms G0 (fun x => {x with slowQ := [tx0, tx0]})), 1, tx0, 0, by unfold Ready; dsimp only; decide +kernel⟩,
   ⟨(G0.put SETT_NODEe_CFG_present 1 510 |>.put SETT_NODEe_CFG_class 1 510), 1, 510, 0, by unfold Ready; dsimp only; decide +kernel⟩,
   ⟨GR, 1, 510, 2, 0, by unfold Ready; dsimp only; decide +kernel⟩,
   ⟨R, 1, 1, by unfold Ready; decide +kernel⟩,
   ⟨(ms G0 (fun x => {x with ends := x.ends.map (fun e => {e with slow := some tx0})})), 1, slb, tx0, 0, by unfold Ready; dsimp only; decide +kernel⟩,
   ⟨(ms G0 (fun x => {x with ends := x.ends.map (fun e => {e with slow := some tx1})})), 1, (CX 0 5), tx1, 0, by unfold Ready; dsimp only; decide +kernel⟩,
   ⟨(ms G0 (fun x => {x with ends := x.ends.map (fun e => {e with slow := some tx2})})), 1, tx2, 0, by unfold Ready; dsimp only; decide +kernel⟩,
   ⟨(ms G0 (fun x => {x with ends := x.ends.map (fun e => {e with slow := some tx1})})), 1, (CX 0 5), tx1, 0, by unfold Ready; dsimp only; decide +kernel⟩,
   ⟨(G0.put SETT_NODEe_CFG_present 1 (s1 G0)), by unfold Ready; dsimp only; decide +kernel⟩,
   ⟨{ R with mtr := { R.mtr with scale := [0,0,0,0,0,0,0,1] } }, by unfold Ready; dsimp only; decide +kernel⟩,
   ⟨{ (G0.put MTR_CFG_pack_src 0) with ts := 4000000000#64 }, by unfold Ready; decide +kernel⟩,
   ⟨(ms G0 (fun x => {x with due := [0]})), by unfold Ready; decide +kernel⟩,
   ⟨(ms G0 (fun x => {x with enumAt := some 0})), 1, 0, 3, 0, 255, by unfold Ready; dsimp only; decide +kernel⟩,
   ⟨(ms G0 (fun x => {x with enumAt := some 254})), 1, 254, by unfold Ready; dsimp only; decide +kernel⟩,
   ⟨(ms G0 (fun x => {x with enumAt := some 255})), 1, by unfold Ready; dsimp only; decide +kernel⟩,
   ⟨G1, 1, true, by unfold Ready; dsimp only; decide +kernel⟩,
   ⟨(ms G0 (fun x => {x with due := [0]})), 1, true, by unfold Ready; dsimp only; decide +kernel⟩,
   ⟨(G1.put SETTp_STAT_mode 2 1), 1, by unfold Ready; dsimp only; decide +kernel⟩⟩

end WL29

namespace WL30

def M0 : State := ((R.put MTR_CFG_en 1).put MTR_STAT_ret_valid 1).put MTR_CFG_pack_src 1
def MK : State := {(M0.put LCS_STATE_state 4).put LCS_KEYS_present 1 with pwr := {R.pwr with keys := [(0, ⟨0x11, List.replicate 32 3⟩)]}}

/-- States and operands that meet the hypotheses of each clause of `MeterAndCheckValues`. -/
theorem witness_MeterAndCheckValues :
    (∃ (s : State), let key := aesKey s (s.mtr.scale.getD 6 0).toNat 4
      Ready s ∧ (ledgerOn s = true) ∧ (ledgerDue s = true) ∧ (key.isSome = true)) ∧
    (∃ (s : State), let key := aesKey s (s.mtr.scale.getD 6 0).toNat 4
      Ready s ∧ (ledgerOn s = true) ∧ (ledgerDue s = true) ∧ (key = none)) ∧
    (∃ (s : State), Ready s ∧ ((ledgerOn s = false ∨ ledgerDue s = false))) ∧
    (∃ (s : State) (a : Access) (v : Nat), Ready s ∧ Admits s a ∧ (v = 2 ^ MTR_RESTORE_GO_go.lsb)) ∧
    (∃ (s : State) (a : Access) (v : Nat), Ready s ∧ Admits s a ∧ (v = 2 ^ CVUc_CTL_start.lsb)) ∧
    (∃ (s : State) (a : Access), Ready s ∧ Admits s a) ∧
    (∃ (s : State) (a : Access), Ready s ∧ Admits s a) ∧
    (∃ (s : State) (a : Access), Ready s ∧ Admits s a) ∧
    (∃ (s : State) (a : Access), Ready s ∧ (a.priv = true) ∧ (s.owl.replay = none)) ∧
    (∃ (s : State) (a : Access) (c : Fin 4), Ready s ∧ Admits s a ∧ (s.cvus[c].last = none)) ∧
    (∃ (s : State) (a : Access) (c : Fin 4) (l : Nat), Ready s ∧ Admits s a ∧ (s.cvus[c].last = some l)) ∧
    (∃ (s : State) (a : Access) (v : Nat), Ready s ∧ Admits s a ∧ (v = 2 ^ CVUc_CTL_alive_clr.lsb)) :=
  ⟨⟨{ MK with ts := 3000000000000#64 }, by unfold Ready; dsimp only; decide +kernel⟩,
   ⟨{ M0 with ts := 3000000000000#64 }, by unfold Ready; dsimp only; decide +kernel⟩,
   ⟨R, by unfold Ready; decide +kernel⟩,
   ⟨R, A, (2 ^ MTR_RESTORE_GO_go.lsb), by unfold Admits Ready; decide +kernel⟩,
   ⟨R, A, (2 ^ MTR_RESTORE_GO_go.lsb), by unfold Admits Ready; decide +kernel⟩,
   ⟨R, A, by unfold Admits Ready; decide +kernel⟩,
   ⟨R, A, by unfold Admits Ready; decide +kernel⟩,
   ⟨R, A, by unfold Admits Ready; decide +kernel⟩,
   ⟨R, A, by unfold Ready; decide +kernel⟩,
   ⟨R, A, 3, by unfold Admits Ready; decide +kernel⟩,
   ⟨({(R.put CVUc_CFG_poly 2 3).put CVUc_CFG_refout 1 3 with cvus := vupd R.cvus 3 (fun _ => ⟨77, some 5⟩)}), M, 3, 5, by unfold Admits Ready; decide +kernel⟩,
   ⟨(R.put CVUc_CFG_refin 1 3), M, (2 ^ CVUc_CTL_alive_clr.lsb), by unfold Admits Ready; decide +kernel⟩⟩

end WL30

namespace WL31

def O1 : State := {R.put OWL_STAT_state 1 with ts := 2 ^ 19}
def rp : Replay := ⟨20, 0, 0, false, 15, Vector.replicate 4 none, 4, false, 15, Vector.replicate 2 0, 0⟩
def rpOf (s : State) : Replay := (replayNext s).1.owl.replay.getD rp
def O4 : State := {(R.put OWL_STAT_state 4).put OWL_STAT_wptr 30 with owl := {R.owl with replay := some rp}}
def h1 : Nat := owlWord 0x01 2 0 77
def OH : State := {(O4.putOw 20 h1).putOw 21 (owlWord 0x3E 1 0 (5 + 2^24 * 9)) with ts := 2 ^ 43}
def h4 : Nat := owlWord 0x04 2 0 (3 * 2^38 + 2^36 - 5)
def OI : State := (O4.putOw 20 h4)
def h5 : Nat := owlWord 0x11 2 0 0
def OE : State := (O4.putOw 20 h5)
def OL : State := {OI with owl := {OI.owl with replay := some {rp with delta := 500000}}}
def OHL : State := {OH with owl := {OH.owl with replay := some {rp with delta := 500000}}}

/-- States and operands that meet the hypotheses of each clause of `OwlAndReplay`. -/
theorem witness_OwlAndReplay :
    (∃ (s : State) (r : Replay), let used := (s.owl.fresh.map (fun r => r.payload.length)).sum + (s.owl.queue.map List.length).sum
      Ready s ∧ (s.owlOn = true) ∧ (s.owl.hdrTs + 2 ^ 19 ≤ s.now) ∧ (used ≤ 254)) ∧
    (∃ (s : State), Ready s ∧ (s.owlOn = false ∨ s.now < s.owl.hdrTs + 2 ^ 19)) ∧
    (∃ (s : State), Ready s ∧ (s.owlOn = true) ∧ (owlStopDue s = true)) ∧
    (∃ (s : State), Ready s ∧ (s.owlOn = true) ∧ (owlStopDue s = false)) ∧
    (∃ (s : State) (a : Access) (v : Nat), Ready s ∧ Admits s a ∧ (v < 65536) ∧ (s.get OWL_STAT_state = 3) ∧ (s.getB OWL_ETH_busy = false)) ∧
    (∃ (s : State) (a : Access) (v : Nat), Ready s ∧ Admits s a ∧ (v < 65536) ∧ ((s.get OWL_STAT_state ≠ 3 ∨ s.getB OWL_ETH_busy = true))) ∧
    (∃ (s : State), Ready s ∧ (s.getB OWL_ETH_busy = true)) ∧
    (∃ (s : State) (a : Access), let x := s.get OWL_LOAD_IDX_idx
      Ready s ∧ Admits s a ∧ ((s.get OWL_STAT_state = 0 ∨ s.get OWL_STAT_state = 3)) ∧ (16 ≤ x) ∧ (x < 524287)) ∧
    (∃ (s : State) (a : Access), Ready s ∧ Admits s a ∧ ((s.get OWL_STAT_state = 1 ∨ s.get OWL_STAT_state = 2))) ∧
    (∃ (s : State), Ready s ∧ (s.owl.replay = none)) ∧
    (∃ (s u : State) (i w : Nat), Ready s ∧ (replayNext s = (u, some (i, w))) ∧ (replayCame u w = false)) ∧
    (∃ (s u : State) (i w : Nat) (r : Replay), let n := chOf (wSource w)
      Ready s ∧ (replayNext s = (u, some (i, w))) ∧ (replayCame u w = true) ∧ (endMark u i w = none) ∧ (wType w = 0x01) ∧ (u.owl.replay = some r) ∧
      (r.cmp.testBit n.val = true) ∧ ((u.carrier (.ch n)).run = false)) ∧
    (∃ (s : State) (e : WordErrs), Ready s ∧ (e = [])) ∧
    (∃ (s u : State) (i w : Nat) (e : WordErrs), Ready s ∧ (replayNext (replayReads s e) = (u, some (i, w))) ∧ (replayCame u w = false)) ∧
    (∃ (s u : State) (i w : Nat) (r : Replay) (e : WordErrs), Ready s ∧ (replayNext (replayReads s e) = (u, some (i, w))) ∧ (replayCame u w = true) ∧
      (endMark u i w = none) ∧ (wType w = 0x04) ∧ (u.owl.replay = some r)) ∧
    (∃ (s : State), Ready s ∧ (s.owl.replay = none)) ∧
    (∃ (s u : State) (i w : Nat), Ready s ∧ (replayNext s = (u, some (i, w))) ∧ (replayCame u w = false)) ∧
    (∃ (s u : State) (i w k : Nat), Ready s ∧ (replayNext s = (u, some (i, w))) ∧ (replayCame u w = true) ∧ (endMark u i w = some k) ∧
      ((wType w = 0x11 ∧ wSource w = 5 → False)) ∧ (s.owl.replay.isSome = true) ∧ (u.owl.replay.isSome = true)) ∧
    (∃ (s : State), Ready s ∧ (s.owl.replay = none)) ∧
    (∃ (s : State) (a : Access) (v : Nat), Ready s ∧ Admits s a ∧ (v = 2 ^ OWL_CTL_rp_abort.lsb) ∧ (s.get OWL_STAT_state = 4) ∧
      (s.owl.replay.isSome = true)) :=
  ⟨⟨O1, rp, by unfold Ready; dsimp only; decide +kernel⟩,
   ⟨(R.put OWL_STAT_state 3), by unfold Ready; decide +kernel⟩,
   ⟨(O1.put OWL_STAT_wptr 524286), by unfold Ready; decide +kernel⟩,
   ⟨O1, by unfold Ready; decide +kernel⟩,
   ⟨(R.put OWL_STAT_state 3), A, 65535, by unfold Admits Ready; decide +kernel⟩,
   ⟨O1, A, 0, by unfold Admits Ready; decide +kernel⟩,
   ⟨((R.put OWL_STAT_state 3).put OWL_ETH_busy 1), by unfold Ready; decide +kernel⟩,
   ⟨(((R.put OWL_STAT_state 3).put OWL_LOAD_IDX_idx 16).put OWL_LOAD_D1_data 77), A, by unfold Admits Ready; dsimp only; decide +kernel⟩,
   ⟨O1, A, by unfold Admits Ready; decide +kernel⟩,
   ⟨O1, by unfold Ready; decide +kernel⟩,
   ⟨OL, (replayNext OL).1, 20, h4, by unfold Ready; decide +kernel⟩,
   ⟨OH, (replayNext OH).1, 20, h1, (rpOf OH), by unfold Ready; dsimp only; decide +kernel⟩,
   ⟨O1, [], by unfold Ready; decide +kernel⟩,
   ⟨OL, (replayNext OL).1, 20, h4, [], by unfold Ready; decide +kernel⟩,
   ⟨OI, (replayNext OI).1, 20, h4, (rpOf OI), [], by unfold Ready; decide +kernel⟩,
   ⟨O1, by unfold Ready; decide +kernel⟩,
   ⟨OL, (replayNext OL).1, 20, h4, by unfold Ready; decide +kernel⟩,
   ⟨OE, (replayNext OE).1, 20, h5, 8, by unfold Ready; decide +kernel⟩,
   ⟨O1, by unfold Ready; decide +kernel⟩,
   ⟨OE, A, 16, by unfold Admits Ready; decide +kernel⟩⟩

end WL31

namespace WL32

def St (n : Nat) : State := R.modPwr (fun p => {p with stage := n})
def At (n : Nat) (s : State) : State := {s with ts := BitVec.ofNat 64 n}

/-- States and operands that meet the hypotheses of each clause of `PowerAndReset`. -/
theorem witness_PowerAndReset :
    (∃ (s : State), (s.wf = true)) ∧
    (∃ (s : State), (s.wf = true) ∧ (s.pwr.stage = 0)) ∧
    (∃ (s : State), (s.wf = true) ∧ s.pwr.stage ≠ 0) ∧
    (∃ (s : State) (a : Access) (v : Nat), (s.wf = true) ∧ Admits s a ∧ (v < 65536) ∧ (v = 0x5A5A)) ∧
    (∃ (s : State) (a : Access) (v : Nat), (s.wf = true) ∧ Admits s a ∧ (v < 65536) ∧ v ≠ 0x5A5A) ∧
    (∃ (s : State), (s.wf = true) ∧ Ready s ∧ (s.pwr.stage = 1)) ∧
    (∃ (s : State), (s.wf = true) ∧ Ready s ∧ (s.pwr.stage = 1)) ∧
    (∃ (s : State), (s.wf = true) ∧ Ready s ∧ (s.pwr.stage = 3)) ∧
    (∃ (s : State), (s.wf = true) ∧ Ready s ∧ (s.pwr.stage = 4)) ∧
    (∃ (s : State), (s.wf = true) ∧ Ready s ∧ (s.pwr.stage = 5)) ∧
    (∃ (s : State), (s.wf = true) ∧ Ready s ∧ s.pwr.stage ≠ 5) ∧
    (∃ (s : State) (a : Access) (v : Nat), (s.wf = true) ∧ Admits s a ∧ (v = 2 ^ PWR_CTL_shutdown.lsb + s.get PWR_CTL_ign_filt * 2 ^ 8) ∧
      (s.get PWR_STAT_shut = 0) ∧ s.get PWR_CTL_ign_filt ≠ 0 ∧ (s.get PWR_CTL_ign_filt < 256)) ∧
    (∃ (s : State), (s.wf = true) ∧ Ready s ∧ (s.getB PWR_CTL_ign_en = true) ∧ (s.get PWR_STAT_shut = 0)) ∧
    (∃ (s : State), (s.wf = true) ∧ Ready s ∧ (s.getB PWR_CTL_ign_en = false)) ∧
    (∃ (s : State), (s.wf = true) ∧ Ready s ∧ (s.get PWR_STAT_shut = 1) ∧ (quiescent s = true)) ∧
    (∃ (s : State), (s.wf = true) ∧ Ready s ∧ ((s.get PWR_STAT_shut ≠ 1 ∨ quiescent s = false))) ∧
    (∃ (s : State), (s.wf = true) ∧ Ready s ∧ (s.get PWR_STAT_shut = 1) ∧ (s.pwr.waitLogged = false) ∧ (s.pwr.phaseTs + 4000000000 < s.now)) ∧
    (∃ (s : State), (s.wf = true) ∧ Ready s ∧ (s.now ≤ s.pwr.phaseTs + 4000000000)) ∧
    (∃ (s : State), (s.wf = true) ∧ Ready s ∧ (s.pwr.stage = 8) ∧ (s.pwr.startReq = none)) ∧
    (∃ (s : State) (c : Nat), (s.wf = true) ∧ Ready s ∧ (s.pwr.stage = 8) ∧ (s.pwr.startReq = some c)) ∧
    (∃ (s : State), (s.wf = true) ∧ Ready s ∧ (s.pwr.stage = 8) ∧ (s.pwr.startReq = none) ∧ (scanon 0 s.pwr.ret = true) ∧
      (s.pwr.phaseTs + 60000000 ≤ s.now)) ∧
    (∃ (s : State), (s.wf = true) ∧ Ready s ∧ (s.now < s.pwr.phaseTs + 60000000)) ∧
    (∃ (s : State) (rails : Bool), (s.wf = true) ∧ (s.pwr.stage = 9) ∧ (rails = true)) ∧
    (∃ (s : State) (rails : Bool), (s.wf = true) ∧ (s.pwr.stage = 9) ∧ (rails = false)) ∧
    (∃ (s : State), (s.wf = true) ∧ (s.pwr.stage = 8) ∧ s.get PWR_STAT_shut ≠ 0) ∧
    (∃ (s : State) (rails : Bool), (s.wf = true) ∧ (s.pwr.stage = 9) ∧ s.get PWR_WAKE_TMR_secs ≠ 0 ∧ (rails = true)) ∧
    (∃ (s : State), (s.wf = true) ∧ (s.get PWR_WAKE_TMR_secs = 0)) ∧
    (∃ (s : State), (s.wf = true)) :=
  ⟨⟨((St 6).put PWR_AON_TIME_secs 9 |>.put CHn_STATE_state 3 1), by decide +kernel⟩,
   ⟨(St 0), by decide +kernel⟩,
   ⟨((St 6).put PWR_AON_TIME_secs 9 |>.put CHn_STATE_state 3 1), by decide +kernel⟩,
   ⟨(St 0), A, 0x5A5A, by unfold Admits Ready; decide +kernel⟩,
   ⟨((St 6).put PWR_AON_TIME_secs 9 |>.put CHn_STATE_state 3 1), A, 1, by unfold Admits Ready; decide +kernel⟩,
   ⟨(St 1), by unfold Ready; decide +kernel⟩,
   ⟨(St 1), by unfold Ready; decide +kernel⟩,
   ⟨(St 3), by unfold Ready; decide +kernel⟩,
   ⟨(St 4), by unfold Ready; decide +kernel⟩,
   ⟨(St 5), by unfold Ready; decide +kernel⟩,
   ⟨((St 6).put PWR_AON_TIME_secs 9 |>.put CHn_STATE_state 3 1), by unfold Ready; decide +kernel⟩,
   ⟨((St 6).put CHn_STATE_state 3 1), A, 0x3202, by unfold Admits Ready; decide +kernel⟩,
   ⟨((St 6).put PWR_AON_TIME_secs 9 |>.put CHn_STATE_state 3 1), by unfold Ready; decide +kernel⟩,
   ⟨((St 6).put PWR_CTL_ign_en 0), by unfold Ready; decide +kernel⟩,
   ⟨((St 6).put PWR_STAT_shut 1), by unfold Ready; decide +kernel⟩,
   ⟨((St 6).put PWR_AON_TIME_secs 9 |>.put CHn_STATE_state 3 1), by unfold Ready; decide +kernel⟩,
   ⟨(At 4000000001 ((St 6).put PWR_STAT_shut 1)), by unfold Ready; decide +kernel⟩,
   ⟨((St 6).put PWR_AON_TIME_secs 9 |>.put CHn_STATE_state 3 1), by unfold Ready; decide +kernel⟩,
   ⟨((St 8).put PWR_STAT_shut 2), by unfold Ready; decide +kernel⟩,
   ⟨(((St 8).put PWR_STAT_shut 2).modPwr (fun p => {p with startReq := some 4})), 4, by unfold Ready; decide +kernel⟩,
   ⟨(At 60000000 ((St 8).put PWR_STAT_shut 2)), by unfold Ready; decide +kernel⟩,
   ⟨((St 6).put PWR_AON_TIME_secs 9 |>.put CHn_STATE_state 3 1), by unfold Ready; decide +kernel⟩,
   ⟨((St 9).put PWR_WAKE_TMR_secs 2), true, by decide +kernel⟩,
   ⟨((St 9).put PWR_WAKE_TMR_secs 2), false, by decide +kernel⟩,
   ⟨((St 8).put PWR_STAT_shut 2), by decide +kernel⟩,
   ⟨((St 9).put PWR_WAKE_TMR_secs 2), true, by decide +kernel⟩,
   ⟨((St 6).put PWR_AON_TIME_secs 9 |>.put CHn_STATE_state 3 1), by decide +kernel⟩,
   ⟨((St 6).put PWR_AON_TIME_secs 9 |>.put CHn_STATE_state 3 1), by decide +kernel⟩⟩

end WL32

namespace WL33

def mp (f : PwrSt → PwrSt) : State := R.modPwr f

/-- States and operands that meet the hypotheses of each clause of `TemperatureKeysAndSelfTests`. -/
theorem witness_TemperatureKeysAndSelfTests :
    (∃ (s : State) (x : Int), Ready s ∧ (-(2 ^ 15) ≤ x) ∧ (x < 2560)) ∧
    (∃ (s : State) (x y : Int), Ready s ∧ (s.pwr.cv7 = some y) ∧ (2160 ≤ x) ∧ (x < 2240) ∧ (2160 ≤ y) ∧ (y < 2240) ∧ (s.get THM_STAT_level = 0)) ∧
    (∃ (s : State) (x : Int), Ready s ∧ (s.getS THM_CTL_user_thr ≤ x) ∧ (x < 2560) ∧ (s.pwr.userHit = false)) ∧
    (∃ (s : State) (x : Int), Ready s ∧ (2560 ≤ x) ∧ (s.pwr.stage = 3)) ∧
    (∃ (s : State), Ready s ∧ (s.pwr.cv7Ts + 400000 ≤ s.now)) ∧
    (∃ (s : State), Ready s ∧ (s.now < s.pwr.cv7Ts + 400000)) ∧
    (∃ (s : State), Ready s ∧ (lcState s = 0)) ∧
    (∃ (s : State) (y : Int), Ready s ∧ lcState s ≠ 0 ∧ (s.pwr.cv7 = some y)) ∧
    (∃ (s : State) (a : Access) (v : Nat), let e := min 64 (s.get LCS_EPOCH_img)
      Ready s ∧ Admits s a ∧ (v = 2 ^ LCS_EPOCH_advance.lsb) ∧ (s.pwr.epochs < e)) ∧
    (∃ (s : State) (a : Access) (v : Nat), let e := min 64 (s.get LCS_EPOCH_img)
      Ready s ∧ Admits s a ∧ (v = 2 ^ LCS_EPOCH_advance.lsb) ∧ (e ≤ s.pwr.epochs)) ∧
    (∃ (s : State) (a : Access) (k attr : Nat), Ready s ∧ Admits s a ∧ (k < 16) ∧ (attr < 256) ∧ (lcState s ≤ 1) ∧
      (s.getBit LCS_KEYS_present k = false)) ∧
    (∃ (s : State) (a : Access) (k attr : Nat), Ready s ∧ Admits s a ∧ (k < 16) ∧ (attr < 256) ∧
      ((2 ≤ lcState s ∨ s.getBit LCS_KEYS_present k = true))) ∧
    (∃ (s : State) (a : Access) (v : Nat), Ready s ∧ Admits s a ∧ (v = 1) ∧ ((lcState s = 1 ∨ lcState s = 4)) ∧ (s.pwr.selftest = none)) ∧
    (∃ (s : State) (a : Access) (v : Nat), Ready s ∧ Admits s a ∧ (v = 1) ∧ lcState s ≠ 1 ∧ lcState s ≠ 4) ∧
    (∃ (s : State), Ready s ∧ (s.pwr.selftest = none)) ∧
    (∃ (s : State), Ready s ∧ (s.pwr.selftest = some 256)) ∧
    (∃ (s : State) (set : Nat), Ready s ∧ (s.pwr.selftest = some set) ∧ (set < 8) ∧ (set.testBit 2 = false)) ∧
    (∃ (s : State) (set : Nat), Ready s ∧ (s.pwr.selftest = some set) ∧ (set < 8) ∧ (set.testBit 2 = true)) ∧
    (∃ (s : State) (b : List Nat), Ready s ∧ (s.pwr.fw = some b)) ∧
    (∃ (s : State), Ready s ∧ (s.pwr.fw = none)) :=
  ⟨⟨R, 2559, by unfold Ready; decide +kernel⟩,
   ⟨((mp (fun p => {p with cv7 := some 2239})).put THM_MAX_max 2400), 2160, 2239, by unfold Ready; decide +kernel⟩,
   ⟨R, 2559, by unfold Ready; decide +kernel⟩,
   ⟨(mp (fun p => {p with stage := 3})), 2560, by unfold Ready; decide +kernel⟩,
   ⟨{R with ts := 400000}, by unfold Ready; decide +kernel⟩,
   ⟨R, by unfold Ready; decide +kernel⟩,
   ⟨R, by unfold Ready; decide +kernel⟩,
   ⟨((mp (fun p => {p with cv7 := some 5})).put LCS_STATE_state 4), 5, by unfold Ready; decide +kernel⟩,
   ⟨(R.put LCS_EPOCH_img 255), A, (2 ^ LCS_EPOCH_advance.lsb), by unfold Admits Ready; dsimp only; decide +kernel⟩,
   ⟨R, A, (2 ^ LCS_EPOCH_advance.lsb), by unfold Admits Ready; dsimp only; decide +kernel⟩,
   ⟨R, A, 0, 0, by unfold Admits Ready; decide +kernel⟩,
   ⟨((mp (fun p => {p with cv7 := some 5})).put LCS_STATE_state 4), A, 0, 0, by unfold Admits Ready; decide +kernel⟩,
   ⟨(R.put LCS_STATE_state 4), A, 1, by unfold Admits Ready; decide +kernel⟩,
   ⟨(R.put LCS_STATE_state 2), A, 1, by unfold Admits Ready; decide +kernel⟩,
   ⟨R, by unfold Ready; decide +kernel⟩,
   ⟨(mp (fun p => {p with selftest := some 256})), by unfold Ready; decide +kernel⟩,
   ⟨(mp (fun p => {p with selftest := some 3})), 3, by unfold Ready; decide +kernel⟩,
   ⟨(mp (fun p => {p with selftest := some 7})), 7, by unfold Ready; decide +kernel⟩,
   ⟨(mp (fun p => {p with fw := some [1,2,3]})), [1,2,3], by unfold Ready; decide +kernel⟩,
   ⟨R, by unfold Ready; decide +kernel⟩⟩

end WL33

namespace WNgen

def TsC : State := State.modPort { R with ts := 0x500000007 } .cpa (fun p => { p with hi := [(CLK_TS_HI_ts.at 0 0, 10)] })
def InjS : State := { R.put CVc_INJk_log2n 1 7 3 with cvb := { R.cvb with conv := vupd R.cvb.conv 7 (fun c => { c with work := .inj 3 }) } }

/-- States and operands that meet the hypotheses of each clause of `TimestampRead`. -/
theorem witness_TimestampRead :
    (∃ (s : State) (a : Access), let hi := fun (u : State) (i : Init) => sget 0 (u.port i).hi (CLK_TS_HI_ts.at 0 0)
      Ready s ∧ (a.priv = true) ∧ (s.owl.replay = none) ∧ (scanon 0 (s.port a.ini).hi = true)) ∧
    (∃ (s : State) (a : Access), let hi := fun (u : State) (i : Init) => sget 0 (u.port i).hi (CLK_TS_HI_ts.at 0 0)
      Ready s ∧ (a.priv = true) ∧ (s.owl.replay = none) ∧ (scanon 0 (s.port a.ini).hi = true)) ∧
    (∃ (s : State) (a : Access) (x : Nat), let hi := fun (u : State) (i : Init) => sget 0 (u.port i).hi (CLK_TS_HI_ts.at 0 0)
      Ready s ∧ (a.priv = true) ∧ (s.owl.replay = none) ∧ (scanon 0 (s.port a.ini).hi = true) ∧ (hi s a.ini = x + 1)) ∧
    (∃ (s : State) (a : Access), let hi := fun (u : State) (i : Init) => sget 0 (u.port i).hi (CLK_TS_HI_ts.at 0 0)
      Ready s ∧ (a.priv = true) ∧ (s.owl.replay = none) ∧ (scanon 0 (s.port a.ini).hi = true) ∧ (hi s a.ini = 0)) ∧
    (∃ (s : State) (a : Access), let hi := fun (u : State) (i : Init) => sget 0 (u.port i).hi (CLK_TS_HI_ts.at 0 0)
      Ready s ∧ (a.priv = true) ∧ (s.owl.replay = none) ∧ (scanon 0 (s.port a.ini).hi = true) ∧ Admits s a) ∧
    (∃ (s : State) (a : Access), let hi := fun (u : State) (i : Init) => sget 0 (u.port i).hi (CLK_TS_HI_ts.at 0 0)
      Ready s ∧ (a.priv = true) ∧ (s.owl.replay = none) ∧ (scanon 0 (s.port a.ini).hi = true) ∧ Admits s a) :=
  ⟨⟨R, A, by unfold Ready; dsimp only; decide +kernel⟩,
   ⟨R, A, by unfold Ready; dsimp only; decide +kernel⟩,
   ⟨TsC, A, 9, by unfold Ready; dsimp only; decide +kernel⟩,
   ⟨R, A, by unfold Ready; dsimp only; decide +kernel⟩,
   ⟨R, A, by unfold Admits Ready; dsimp only; decide +kernel⟩,
   ⟨R, A, by unfold Admits Ready; dsimp only; decide +kernel⟩⟩

/-- States and operands that meet the hypotheses of each clause of `InjectionSlots`. -/
theorem witness_InjectionSlots :
    (∃ (s : State) (a : Access) (c : Cv) (k : Fin 4), Admits s a ∧ (s.getB CVc_INJk_start c.val k.val = true)) ∧
    (∃ (s : State) (c : Cv) (k : Fin 4) (codes : List Int), Ready s ∧ (s.cvb.conv[c].work = .inj k.val) ∧
      (codes.length = 2 ^ s.get CVc_INJk_log2n c.val k.val)) :=
  ⟨⟨(R.put CVc_INJk_start 1 7 3), A, 7, 3, by unfold Admits Ready; decide +kernel⟩,
   ⟨InjS, 7, 3, [-5,-2], by unfold Ready; decide +kernel⟩⟩

end WNgen

namespace Hand

/-- The register at an address of the map. -/
def regAt (x : Nat) (h : (regOf x).isSome = true) : Reg × Nat × Nat := (regOf x).get h
theorem regOf_regAt {x : Nat} (h : (regOf x).isSome = true) :
    regOf x = some ((regAt x h).1, (regAt x h).2.1, (regAt x h).2.2) := (Option.some_get h).symm
theorem thm : (regOf 0x40030008).isSome = true := by decide +kernel
theorem nbt : (regOf 0x40620004).isSome = true := by decide +kernel

/-- A register and a state that meet the hypotheses of `RegisterRead`. -/
theorem witness_RegisterRead : ∃ (s : State) (a : Access) (addr : Nat) (r : Reg) (i j : Nat), Ready s ∧ a.priv = true ∧
    s.owl.replay = none ∧ registerAddr addr = true ∧ regOf addr = some (r, i, j) ∧ r.addr ≠ PLIC_CLAIM_src.addr ∧
    lowHalves.contains r.addr = false ∧ sget 0 (s.port a.ini).hi addr = 0 :=
  ⟨R, A, 0x40030008, _, _, _, by unfold Ready; decide +kernel, rfl, rfl, by decide +kernel, regOf_regAt thm, by decide +kernel,
    by decide +kernel, by decide +kernel⟩

/-- Writes that meet the hypotheses of each clause of `RegisterWrite`: one that passes, one that is refused, one without privilege. -/
theorem witness_RegisterWrite :
    (∃ (s : State) (a : Access) (addr v : Nat) (r : Reg) (i j : Nat), registerAddr addr = true ∧ regOf addr = some (r, i, j) ∧
      blockOf r.addr ∈ [0x01, 0x03, 0x62, 0x63, 0x64] ∧ Admits s a ∧
      preWrite s (applyWr s ⟨r, i, j, v % 2 ^ 32⟩ []) a ⟨r, i, j, v % 2 ^ 32⟩ = .go [] none) ∧
    (∃ (s : State) (a : Access) (addr v : Nat) (r : Reg) (i j code : Nat) (items : List Nat), registerAddr addr = true ∧
      regOf addr = some (r, i, j) ∧ blockOf r.addr ∈ [0x01, 0x03, 0x62, 0x63, 0x64] ∧ Admits s a ∧
      preWrite s (applyWr s ⟨r, i, j, v % 2 ^ 32⟩ []) a ⟨r, i, j, v % 2 ^ 32⟩ = .no (some (code, items))) ∧
    (∃ (s : State) (a : Access) (addr : Nat) (r : Reg) (i j : Nat), registerAddr addr = true ∧ regOf addr = some (r, i, j) ∧
      blockOf r.addr ∈ [0x01, 0x03, 0x62, 0x63, 0x64] ∧ Ready s ∧ a.priv = false ∧ coreReplay s a.ini = false) :=
  ⟨⟨R, A, 0x40030008, 7, _, _, _, by decide +kernel, regOf_regAt thm, by decide +kernel, by unfold Admits Ready; decide +kernel,
    by decide +kernel⟩,
   ⟨R, A, 0x40620004, 0, _, _, _, 0x6008, [], by decide +kernel, regOf_regAt nbt, by decide +kernel,
    by unfold Admits Ready; decide +kernel, by decide +kernel⟩,
   ⟨R, { A with priv := false }, 0x40030008, _, _, _, by decide +kernel, regOf_regAt thm, by decide +kernel,
    by unfold Ready; decide +kernel, rfl, by decide +kernel⟩⟩

/-- A running device whose MP serves commands. -/
def Up : State := (R.put LCS_STATE_state 4).modPwr (fun q => { q with stage := 6 })

/-- Commands that meet the hypotheses of each clause of `TurnedAway`: parameters of a wrong length, and a lost clock. -/
theorem witness_TurnedAway :
    (∃ (s : State) (c : Ctx) (p : List Nat) (w : WordErrs) (e : Nat × (Ctx → List Nat → Instr)), Ready s ∧ e ∈ mpRows w ∧
      s.bdg.clkBad.testBit 3 = false ∧
      mpRuns s = true ∧ opRefusal s { c with opcode := e.1 } p ≠ 0) ∧
    (∃ (s : State) (w : WordErrs) (e : Nat × (Ctx → List Nat → Instr)), Ready s ∧ e ∈ mpRows w ∧
      (s.bdg.clkBad.testBit 3 = true ∨ mpRuns s = false)) :=
  ⟨⟨Up, ⟨62, 5, 1, 0, 1, true⟩, [7], [], (0x01, .nop), by unfold Ready; decide +kernel, by simp [mpRows], by decide +kernel, by decide +kernel,
    by decide +kernel⟩,
   ⟨{ Up with bdg := { Up.bdg with clkBad := 8 } }, [], (0xFE, .diagPeek), by unfold Ready; decide +kernel, by simp [mpRows], by decide +kernel⟩⟩

/-- States and operands that meet the hypotheses of each clause of `ComparatorThresholds`, hi below lo and lo below hi among them. -/
theorem witness_ComparatorThresholds :
    (∃ (s : State) (a : Access) (hi lo : Int), Admits s a ∧ -(2 ^ 15) ≤ hi ∧ hi < 2 ^ 15 ∧ -(2 ^ 15) ≤ lo ∧ lo < 2 ^ 15 ∧ hi < lo) ∧
    (∃ (s : State) (a : Access) (hi lo : Int), Admits s a ∧ -(2 ^ 15) ≤ hi ∧ hi < 2 ^ 15 ∧ -(2 ^ 15) ≤ lo ∧ lo < 2 ^ 15 ∧ lo ≤ hi) ∧
    (∃ (s : State) (i : Ain) (codes : List Int), Ready s ∧ s.getS CMPi_THR_hi i.val = 32767 ∧ s.getS CMPi_THR_lo i.val = -32768 ∧
      s.getB CMPi_STAT_hi_out i.val = false ∧ s.getB CMPi_STAT_lo_out i.val = false ∧ (∀ x ∈ codes, -32768 ≤ x ∧ x ≤ 32767) ∧ codes ≠ []) :=
  ⟨⟨R, A, -32768, 32767, by unfold Admits Ready; decide +kernel⟩, ⟨R, A, -32768, -32768, by unfold Admits Ready; decide +kernel⟩,
   ⟨R, 47, [32767, -32768], by unfold Ready; decide +kernel⟩⟩

/-- States and steps that meet the hypotheses of each clause of `LifeCycleFuses`. -/
theorem witness_LifeCycleFuses :
    (∃ (s t : State) (k : Nat), step s = .next t ∧ s.pwr.fuses.testBit k = true) ∧
    (∃ s : State, s.wf = true ∧ s.pwr.fuses < 32 ∧ s.pwr.fuses = 0) ∧
    (∃ s : State, s.wf = true ∧ s.pwr.fuses < 32 ∧ s.pwr.fuses.testBit 1 = true ∧ s.pwr.fuses.testBit 2 = true) ∧
    (∃ (s : State) (n : Nat), s.wf = true ∧ s.pwr.fuses < 32 ∧ n < 5 ∧ s.pwr.fuses.testBit n = true ∧ s.pwr.fuses < 2 ^ (n + 1) ∧
      ¬ (s.pwr.fuses.testBit 1 = true ∧ s.pwr.fuses.testBit 2 = true)) :=
  ⟨⟨R.modPwr (fun q => { q with fuses := 16 }), _, 4, rfl, by decide +kernel⟩, ⟨R, by decide +kernel⟩,
   ⟨R.modPwr (fun q => { q with fuses := 6 }), by decide +kernel⟩, ⟨R.modPwr (fun q => { q with fuses := 16 }), 4, by decide +kernel⟩⟩

/-- A step from reset: the hypotheses of `EpochNeverFalls`, `IdleStepCountsTime` and `StepKeepsForm` are met there. -/
theorem witness_EpochNeverFalls : ∃ s t : State, s.pending = [] ∧ s.wf = true ∧ step s = .next t := ⟨R, _, rfl, by decide +kernel, rfl⟩

/-- States that meet the hypotheses of `IdleStepCountsTime` and of each of its cases. -/
theorem witness_IdleStepCountsTime :
    (∃ s : State, s.pending = [] ∧ s.dev.held = false ∧ s.getB CLK_STATUS_p_lock = true) ∧
    (∃ s : State, s.pending = [] ∧ s.dev.held = false ∧ s.bdg.clkBad.testBit 1 = true) ∧
    (∃ s : State, s.pending = [] ∧ s.getB CLK_STATUS_p_lock = false ∧ s.bdg.clkBad.testBit 1 = false) ∧
    (∃ s : State, s.pending = [] ∧ s.dev.held = true) :=
  ⟨⟨R.put CLK_STATUS_p_lock 1, rfl, by decide +kernel⟩, ⟨R.modBdg (fun b => { b with clkBad := 2 }), rfl, rfl, by decide +kernel⟩,
    ⟨R, rfl, by decide +kernel⟩, ⟨{ R with dev := { R.dev with held := true } }, rfl, rfl⟩⟩

/-- A queue of two commands meets the hypotheses of `QueueOrder`. -/
theorem witness_QueueOrder : ∃ (s t : State) (c : Instr) (q : List Instr), s.pending = c :: q ∧ q ≠ [] ∧ step s = .next t :=
  ⟨{ R with pending := [.xinLoss, .ckwSwitch] }, _, _, _, rfl, by simp, rfl⟩

/-- A held device and a command that it does not perform. -/
theorem witness_HeldDevice : ∃ (i : Instr) (s : State), s.dev.held = true ∧ ¬ AlwaysOn i :=
  ⟨.xinLoss, { R with dev := { R.dev with held := true } }, rfl, by
    rintro (h | h | ⟨_, _, _, h⟩ | ⟨_, _, _, h⟩ | ⟨_, _, h⟩) <;> cases h⟩

/-- A step from reset meets the hypotheses of `StepKeepsForm`. -/
theorem witness_StepKeepsForm : ∃ s t : State, s.wf = true ∧ step s = .next t := ⟨R, _, by decide +kernel, rfl⟩

/-- At reset every leg is in order. -/
theorem witness_NoShootThroughKept : ∃ s t : State, s.wf = true ∧ LegsOk s ∧ step s = .next t :=
  ⟨R, _, by decide +kernel, by unfold LegsOk LegOk; decide +kernel, rfl⟩

/-- Every command steps from reset: the hypotheses of the frames are met there, one for each command. -/
theorem witness_Frames : R.wf = true ∧ R.owl.replay = none ∧ (R.pwr.stage ≠ 0 ∧ R.pwr.stage ≠ 3 ∧ R.pwr.stage ≠ 8 ∧ R.pwr.stage ≠ 9) ∧
  R.pwr.selftest.all (fun k => k == 256 || !k.testBit 2) = true ∧
    (∀ e ∈ R.chuck, ∀ x y z, e.val ≠ .core x y z) ∧ ∀ i : Instr, ∃ t, exec i R = .next t :=
  ⟨by decide +kernel, rfl, by decide +kernel, by decide +kernel, by simp [R, State.reset], fun i => by
    cases i
    case carrierEnable a r v => cases r <;> exact ⟨_, rfl⟩
    case carrierDisable a r v => cases r <;> exact ⟨_, rfl⟩
    all_goals exact ⟨_, rfl⟩⟩

end Hand

end Sys2Proof.Tests
end

/-! # Proofs: the family of spec/00_scope.md -/

section
/-! PROOF. The queue of commands (O48, O50, O51): a step runs the front of the queue, every meaning answers a next state, and
no meaning touches the queue. -/

namespace Sys2Proof.Proofs

open Sys2Proof Sys2Proof.Machine Sys2Proof.Safety

/-- A write of a carrier's mode register answers, whichever kind of carrier it is. -/
theorem carrWr_answers (s : State) (a : Access) (r : Carr) (v : Nat) : ∃ t, carrWr s a r v = .next t := by
  cases r <;> exact ⟨_, rfl⟩

theorem exec_pending {i : Instr} {s t : State} (h : exec i s = .next t) : t.pending = s.pending :=
  (exec_moves ⟨Nat.and_self _⟩ i s t h).pending

/-- Settles O48. -/
theorem stepRunsTheFront : Obligations.StepRunsTheFront := fun _ _ _ => rfl

/-- Settles O50: every meaning but those of the carriers is `.next` of a state by its definition. -/
theorem everyCommandAnswers : Obligations.EveryCommandAnswers := by
  intro i s
  cases i
  case carrierEnable a r v => exact carrWr_answers s a r v
  case carrierDisable a r v => exact carrWr_answers s a r v
  all_goals exact ⟨_, rfl⟩

/-- Settles O51: the command runs on the rest of the queue, and no command touches that. -/
theorem queueOrder : Obligations.QueueOrder := by
  intro s t c q hq h
  have hs : s = { s with pending := c :: q } := by rw [← hq]
  rw [hs, stepRunsTheFront] at h
  exact exec_pending h

end Sys2Proof.Proofs
end

section
/-! PROOF. The frames of the operations that the MP serves (O59): the mask of each meaning (Laws/MovesCmd.lean) lies within the
mask of the fields and parts listed for it. -/

namespace Sys2Proof.Proofs

open Sys2Proof Sys2Proof.Machine Sys2Proof.Safety

/-- A meaning that reaches no more than these fields and parts keeps everything else. -/
theorem frame {s t : State} {o : Out} {fs : List Fld} {ps : List Part} (hs : s.wf = true) (h : Ends (maskOf fs ps) s o)
    (ht : o = .next t) : Keeps s t fs ps :=
  (h t ht).keeps hs ⟨Nat.and_self _⟩

/-- Settles O59. -/
theorem framesOperationsOfTheMp : Obligations.FramesOperationsOfTheMp :=
  fun s t hs =>
    ⟨fun _ _ => frame hs (execSetProfile_moves ⟨by decide +kernel⟩ .refl),
      fun _ _ => frame hs (execSetTorque_moves ⟨by decide +kernel⟩ .refl),
      fun _ _ => frame hs (execSetSpeed_moves ⟨by decide +kernel⟩ .refl),
      fun _ _ => frame hs (execSetLimits_moves ⟨by decide +kernel⟩ .refl),
      fun _ _ => frame hs (execSetRampLimits_moves ⟨by decide +kernel⟩ .refl),
      fun _ _ => frame hs (execCfgRead_moves ⟨by decide +kernel⟩ .refl),
      fun _ _ => frame hs (execCfgLock_moves ⟨by decide +kernel⟩ .refl),
      fun _ _ => frame hs (execCoefLoad_moves ⟨by decide +kernel⟩ .refl),
      fun _ _ => frame hs (execCoefSwap_moves ⟨by decide +kernel⟩ .refl),
      fun _ _ _ => frame hs (execCoefRead_moves ⟨by decide +kernel⟩ .refl),
      fun _ _ => frame hs (execCvCalibrate_moves ⟨by decide +kernel⟩ .refl),
      fun _ _ => frame hs (execCvInject_moves ⟨by decide +kernel⟩ .refl),
      fun _ _ => frame hs (execCvOpenWireTest_moves ⟨by decide +kernel⟩ .refl),
      fun _ _ => frame hs (execPrtConfig_moves ⟨by decide +kernel⟩ .refl),
      fun _ _ => frame hs (execPrtTest_moves ⟨by decide +kernel⟩ .refl),
      fun _ _ => frame hs (execMtrRead_moves ⟨by decide +kernel⟩ .refl),
      fun _ _ => frame hs (execLedgerFetch_moves ⟨by decide +kernel⟩ .refl),
      fun _ _ => frame hs (execMtrCal_moves ⟨by decide +kernel⟩ .refl),
      fun _ _ => frame hs (execOwlArm_moves ⟨by decide +kernel⟩ .refl),
      fun _ _ => frame hs (execOwlTrigger_moves ⟨by decide +kernel⟩ .refl),
      fun _ _ _ => frame hs (execOwlFetch_moves ⟨by decide +kernel⟩ .refl),
      fun _ _ => frame hs (execReplayStart_moves ⟨by decide +kernel⟩ .refl),
      fun _ _ => frame hs (execSettEnumerate_moves ⟨by decide +kernel⟩ .refl),
      fun _ _ => frame hs (execSettNodeRead_moves ⟨by decide +kernel⟩ .refl),
      fun _ _ => frame hs (execSettNodeWrite_moves ⟨by decide +kernel⟩ .refl),
      fun _ _ => frame hs (execLcQuery_moves ⟨by decide +kernel⟩ .refl),
      fun _ _ => frame hs (execLcAdvance_moves ⟨by decide +kernel⟩ .refl),
      fun _ _ => frame hs (execFwUpdate_moves ⟨by decide +kernel⟩ .refl),
      fun _ _ => frame hs (execKeyRevoke_moves ⟨by decide +kernel⟩ .refl),
      fun _ _ => frame hs (execBistReport_moves ⟨by decide +kernel⟩ .refl),
      fun _ _ => frame hs (execSelftestRun_moves ⟨by decide +kernel⟩ .refl),
      fun _ _ => frame hs (execDiagPeek_moves ⟨by decide +kernel⟩ .refl)⟩

end Sys2Proof.Proofs
end

section
/-! PROOF. Register accesses through the privileged aperture (O4, O5): what a read answers and clears (R10), and what a write stores
(R7) or why it does not. -/

namespace Sys2Proof.Proofs

open Sys2Proof Sys2Proof.Machine Sys2Proof.Safety

/-! ### Ports and apertures -/

@[simp] theorem State.answer_port (s : State) (i : Init) (x : Reply) : ((s.answer i x).port i).reply = x := by
  simp [State.answer, State.port, vupd]

@[simp] theorem State.answer_get (s : State) (i : Init) (x : Reply) (f : Fld) (k l : Nat) : (s.answer i x).get f k l = s.get f k l := rfl

@[simp] theorem State.answer_log (s : State) (i : Init) (x : Reply) : (s.answer i x).log = s.log := rfl

section address
variable {s : State} {a : Access} {r : Reg} {i j addr : Nat}

theorem aperture_of_busAddr (hb : busAddr addr = true) : aperture addr = some (false, addr) := by
  simp only [busAddr, Bool.and_eq_true, decide_eq_true_eq] at hb
  obtain ⟨⟨⟨h1, h2⟩, -⟩, -⟩ := hb
  simp only [aperture, h1, h2, and_self, if_true]

theorem aligned_of_busAddr (hb : busAddr addr = true) : ¬ ((4 : Nat) ≠ 4 ∨ addr % 4 ≠ 0 ∨ !(assigned.contains (blockOf addr))) := by
  simp only [busAddr, Bool.and_eq_true, beq_iff_eq] at hb
  simp only [hb, ne_eq, not_true, Bool.not_true, Bool.false_eq_true, or_self, not_false_iff]

/-! ### Reads -/

/-- A read through the privileged aperture is answered with what `regRead` gives. -/
theorem busReadRaw_reg (hp : a.priv = true) (hb : busAddr addr = true) :
    busReadRaw s a addr 4 = (regRead s a addr).2.answer a.ini (.data (regRead s a addr).1) := by
  simp only [busReadRaw, aperture_of_busAddr hb, aligned_of_busAddr hb, hp, Bool.not_true, Bool.and_false, Bool.false_and,
    Bool.false_eq_true, if_false]

/-- Without a replay a read of the cores may be recorded, while Owl records (R446); nothing else is added to it. -/
theorem busRead_of_no_replay {size : Nat} (hn : s.owl.replay = none) : busRead s a addr size = busReadRaw s a addr size ∨
    ∃ b k l, busRead s a addr size = (busReadRaw s a addr size).onIf ((busReadRaw s a addr size).owlOn && b)
      (fun t => (t.owlRec 0x08 k l).freeNext) := by
  simp only [busRead]
  split
  · exact .inl rfl
  · simp only [coreHeld, replayCoreRead, hn, Bool.false_eq_true, if_false]
    split
    · exact .inr ⟨_, _, _, rfl⟩
    · exact .inl rfl

/-- A register whose read does no more than answer and clear. -/
theorem regRead_plain (hr : regOf addr = some (r, i, j)) (hc : r.addr ≠ PLIC_CLAIM_src.addr) (hl : lowHalves.contains r.addr = false)
    (hh : sget 0 (s.port a.ini).hi addr = 0) : regRead s a addr = (regWord s r i j, if a.dbg then s else rcClear s r i j) := by
  simp only [regRead, hr, hc, false_and, if_false, hl, Bool.false_eq_true, hh, ne_eq, not_true, and_false]

/-- A read clears the RC fields of its register and no other (R10). -/
theorem rcClear_get (hr : r ∈ regTable) (hs : s.wf = true) {f : Fld} (hf : f ∈ r.flds) :
    (rcClear s r i j).get f i j = if f.acc = .rc then f.reset else s.get f i j := by
  have hsub := List.filter_sublist (p := fun f : Fld => decide (f.acc = .rc)) (l := r.flds)
  obtain ⟨-, hother, hsame⟩ := foldl_flds (l := r.flds.filter (fun f => f.acc = .rc)) (g := fun f s => s.clr f i j) (m := 0) (i := i) (j := j)
    ((flds_nodup hr).sublist (hsub.map Fld.id)) (fun f s hs => ⟨State.put_wf hs, fun e he => State.get_put_ne hs he⟩) hs
  have hget : (rcClear s r i j).get f i j = ((r.flds.filter (fun f => f.acc = .rc)).foldl (fun s f => s.clr f i j) s).get f i j := by
    simp only [rcClear, State.onIf, State.forL]
    split <;> rfl
  rw [hget]
  split
  · next h =>
    obtain ⟨u, hu, -, e⟩ := hsame f (List.mem_filter.mpr ⟨hf, decide_eq_true h⟩)
    rw [e, State.clr, State.get_put_same hu, flds_reset hr hf]
  · next h =>
    refine hother f (fun g hg e => h ?_)
    obtain ⟨hg, hacc⟩ := List.mem_filter.mp hg
    rw [← List.inj_on_of_nodup_map (flds_nodup hr) hg hf e]
    exact of_decide_eq_true hacc

/-- The recording goes on, or not, whatever RC fields a read clears. -/
theorem rcClear_owlOn (hr : r ∈ regTable) (hs : s.wf = true) : (rcClear s r i j).owlOn = s.owlOn := by
  have h := (rcClear_moves (a := s) (x2 := i) (x3 := j) hr ⟨Nat.and_self _⟩ .refl).same hs OWL_STAT_state 0 0 (by decide +kernel)
  simp only [State.owlOn, h]

end address

/-- Settles O4. -/
theorem registerRead : Obligations.RegisterRead := by
  intro s a addr r i j hready hp hn hb hr hc hl hh
  obtain ⟨hheld, hwf⟩ := hready
  have hmem := regOf_mem hr
  have hraw : busReadRaw s a addr 4 = (if a.dbg then s else rcClear s r i j).answer a.ini (.data (regWord s r i j)) := by
    rw [busReadRaw_reg hp hb, regRead_plain hr hc hl hh]
  have hreply : ((busReadRaw s a addr 4).port a.ini).reply = .data (regWord s r i j) := by rw [hraw, State.answer_port]
  have hon : (busReadRaw s a addr 4).owlOn = s.owlOn := by
    rw [hraw]
    cases a.dbg
    · exact rcClear_owlOn hmem hwf
    · rfl
  have hget : ∀ f ∈ r.flds, (busReadRaw s a addr 4).get f i j = if f.acc = .rc ∧ a.dbg = false then f.reset else s.get f i j := by
    intro f hf
    rw [hraw, State.answer_get]
    cases a.dbg
    · simpa using rcClear_get hmem hwf hf
    · simp
  refine ⟨_, live_run (f := fun s => busRead s a addr 4) s hheld, ?_⟩
  rcases busRead_of_no_replay (a := a) (addr := addr) (size := 4) hn with e | ⟨b, k, l, e⟩
  · rw [e]
    exact ⟨hreply, fun _ => hget⟩
  · rw [e]
    refine ⟨?_, fun hoff => ?_⟩
    · cases (busReadRaw s a addr 4).owlOn && b
      · exact hreply
      · simpa [State.port] using hreply
    · rw [hon, hoff]
      exact hget

end Sys2Proof.Proofs
end

section
/-! PROOF. A register write of a block whose registers do nothing further when written (O5). -/

namespace Sys2Proof.Proofs

open Sys2Proof Sys2Proof.Machine Sys2Proof.Safety

/-! ### What a write stores -/

theorem fieldWrite_wf {s : State} {w : Wr} {f : Fld} (hs : s.wf = true) : (fieldWrite s w f).wf = true := by
  unfold fieldWrite
  split <;> simp [hs]

theorem fieldWrite_get_ne {s : State} {w : Wr} {f g : Fld} {k l : Nat} (hs : s.wf = true) (h : g.id ≠ f.id) :
    (fieldWrite s w f).get g k l = s.get g k l := by
  unfold fieldWrite
  split <;> simp [hs, h]

/-- What a field holds after a write, by its access code (R7). -/
theorem fieldWrite_get {s : State} {w : Wr} {f : Fld} (hs : s.wf = true) : (fieldWrite s w f).get f w.i w.j =
    if f.acc = .rw ∨ f.acc = .wod then w.v / 2 ^ f.lsb % 2 ^ f.width
    else if f.acc = .w1c then (s.get f w.i w.j &&& ((2 ^ f.width - 1) ^^^ (w.v / 2 ^ f.lsb % 2 ^ f.width))) % 2 ^ f.width
    else s.get f w.i w.j := by
  unfold fieldWrite
  split <;> simp_all [Wr.bits]

/-- A whole write of a register gives each of its fields what its access code says. -/
theorem applyWr_get {s : State} {w : Wr} (hr : w.reg ∈ regTable) (hs : s.wf = true) {f : Fld} (hf : f ∈ w.reg.flds) :
    (applyWr s w []).get f w.i w.j =
      if f.acc = .rw ∨ f.acc = .wod then w.v / 2 ^ f.lsb % 2 ^ f.width
      else if f.acc = .w1c then (s.get f w.i w.j &&& ((2 ^ f.width - 1) ^^^ (w.v / 2 ^ f.lsb % 2 ^ f.width))) % 2 ^ f.width
      else s.get f w.i w.j := by
  obtain ⟨-, -, hsame⟩ := foldl_flds (l := w.reg.flds) (g := fun f s => fieldWrite s w f) (m := 0) (i := w.i) (j := w.j)
    (flds_nodup hr) (fun f s hs => ⟨fieldWrite_wf hs, fun e he => fieldWrite_get_ne hs he⟩) hs
  obtain ⟨u, hu, e1, e2⟩ := hsame f hf
  have hall : applyWr s w [] = w.reg.flds.foldl (fun s f => fieldWrite s w f) s := by simp [applyWr, State.forL]
  rw [hall, e2, fieldWrite_get hu, e1]

/-! ### The quiet blocks -/

/-- The blocks whose registers do nothing further when written: the clocks', the thermal monitor's, the links', CAN's and Ethernet's. -/
def quietBlocks : List Nat := [0x01, 0x03, 0x62, 0x63, 0x64]

section quiet
variable {s t : State} {a : Access} {w : Wr} (h : blockOf w.reg.addr ∈ quietBlocks)
include h

theorem postWrite_quiet : postWrite s a w t = t := by
  simp only [quietBlocks, List.mem_cons, List.not_mem_nil, or_false] at h
  rcases h with h | h | h | h | h <;> simp [postWrite, h]

theorem showAfter_quiet : showAfter t (blockOf w.reg.addr) = t := by
  simp only [quietBlocks, List.mem_cons, List.not_mem_nil, or_false] at h
  rcases h with h | h | h | h | h <;> simp [showAfter, h]

end quiet

/-- No event touches a field of a quiet block. -/
theorem quiet_not_touched : regTable.all (fun r => !quietBlocks.contains (blockOf r.addr)
    || r.flds.all (fun f => !touches (maskOf evFlds evParts) f)) = true := by decide +kernel

theorem logEv_get_quiet {s : State} {r : Reg} {c : Nat} {l : List Nat} {f : Fld} {i j : Nat} (hs : s.wf = true) (hr : r ∈ regTable)
    (hb : blockOf r.addr ∈ quietBlocks) (hf : f ∈ r.flds) : (s.logEv c l).get f i j = s.get f i j := by
  have hq := List.all_eq_true.mp quiet_not_touched r hr
  simp only [List.contains_iff_mem.mpr hb, Bool.not_true, Bool.false_or, List.all_eq_true, Bool.not_eq_true'] at hq
  refine (State.logEv_moves (m := maskOf evFlds evParts) ⟨by decide +kernel⟩ .refl).same hs f i j ?_
  rw [hq f hf, Bool.or_false]
  decide +kernel

/-- A bus error answers with an error, shows its address and is logged (R75). -/
theorem busErr_effect {s : State} {a : Access} {addr code : Nat} (hs : s.wf = true) (ha : addr < 2 ^ 32) :
    ((busErr s a addr code).port a.ini).reply = .error ∧ (busErr s a addr code).get SYS_BUSERR_ADDR_addr = addr ∧
      Logged s (busErr s a addr code) code [addr] := by
  refine ⟨State.answer_port _ _ _, ?_, ?_⟩
  · rw [busErr, State.answer_get, State.get_put_same (State.logEv_wf s code _ hs)]
    exact Nat.mod_eq_of_lt ha
  · exact logged_of rfl

/-- A write without privilege through the privileged aperture is a bus error (R73, R75). -/
theorem busWrite_unprivileged {s : State} {a : Access} {addr v : Nat} (hp : a.priv = false) (hc : coreReplay s a.ini = false)
    (hb : busAddr addr = true) : busWrite s a addr 4 v = busErr s a addr 0x0012 := by
  simp only [busWrite, hc, coreHeld_of_coreReplay hc, aperture_of_busAddr hb, hp, Bool.not_false, Bool.and_self, Bool.and_false, Bool.false_and,
    Bool.false_eq_true, if_false, if_true]

/-- Settles O5. -/
theorem registerWrite : Obligations.RegisterWrite := by
  intro s a addr v r i j code items hb hr hq
  have hmem := regOf_mem hr
  have hblk : (blockOf r.addr == 0x31) = false := by
    simp only [List.mem_cons, List.not_mem_nil, or_false] at hq
    rcases hq with h | h | h | h | h <;> rw [h] <;> rfl
  have hrun : s.dev.held = false → exec (.registerWrite a addr 4 v) s = .next (busWrite s a addr 4 v) :=
    fun h => live_run (f := fun s => busWrite s a addr 4 v) s h
  refine ⟨fun hadm hpre => ?_, fun hadm hpre => ?_, fun hready hp hc => ?_⟩
  · obtain ⟨⟨hheld, hwf⟩, hp, hlock, hc⟩ := hadm
    refine ⟨_, hrun hheld, ?_⟩
    rw [busWrite_reg hc hp hb hr hblk, writeReg_open hlock, hpre]
    simp only [List.isEmpty_nil, if_true, postWrite_quiet (w := ⟨r, i, j, v % 2 ^ 32⟩) hq, showAfter_quiet (w := ⟨r, i, j, v % 2 ^ 32⟩) hq]
    exact ⟨State.answer_port _ _ _, fun f hf => applyWr_get (w := ⟨r, i, j, v % 2 ^ 32⟩) hmem hwf hf⟩
  · obtain ⟨⟨hheld, hwf⟩, hp, hlock, hc⟩ := hadm
    refine ⟨_, hrun hheld, ?_⟩
    rw [busWrite_reg hc hp hb hr hblk, writeReg_open hlock, hpre]
    exact ⟨State.answer_port _ _ _, fun f hf => logEv_get_quiet hwf hmem hq hf, logged_of rfl⟩
  · refine ⟨_, hrun hready.1, ?_⟩
    rw [busWrite_unprivileged hp hc hb]
    refine busErr_effect hready.2 ?_
    simp only [registerAddr, Bool.and_eq_true, decide_eq_true_eq] at hb
    omega

end Sys2Proof.Proofs
end

section
/-! PROOF. The MP's set points, registers and coefficients (O31). -/

namespace Sys2Proof.Proofs

open Sys2Proof Sys2Proof.Machine Sys2Proof.Safety

/-! ### A command that the MP serves (R380) -/

section serves
variable {s t : State} {c : Ctx} {p : List Nat} {op st : Nat} {res : List Nat} {f : State → Ctx → List Nat → OpRes}

/-- A served command whose operation is done at once, with no device reset, ends in its completion. -/
theorem opRow_of_done (h : Serves s c op p) (hf : f s { c with opcode := op } p = opDone st res t)
    (hst : t.pwr.stage = 1 → s.pwr.stage = 1) : opRow op f c p s = .next (complete t { c with opcode := op } st res) := by
  obtain ⟨⟨hheld, -⟩, hclk, hmp, hadm⟩ := h
  have hno : ¬ (t.pwr.stage = 1 ∧ s.pwr.stage ≠ 1) := fun ⟨h1, h2⟩ => h2 (hst h1)
  simp only [opRow, faced, live_run s hheld, hclk, hmp, Bool.not_false, State.onIf_true, opGo, hadm, ne_eq, not_true, if_false, hf, opDone, hno]

/-- The same where the operation leaves the state as it is. -/
theorem opRow_of_answer (h : Serves s c op p) (hf : f s { c with opcode := op } p = opDone st res s) :
    opRow op f c p s = .next (complete s { c with opcode := op } st res) := opRow_of_done h hf id

end serves

/-! ### What a completion leaves alone -/

section complete
variable {s : State} {c : Ctx} {st : Nat} {res : List Nat}

/-- What a completion may reach: the queue's ring and counters, its interrupt, and the links. -/
theorem complete_reaches : Moves (maskOf (evFlds ++ [FPL_STAT_cpl_drop, QPq_CQ_tail, QPq_CQ_head])
    (evParts ++ [.sram, .ueKnown, .writebacks, .fpl, .net])) s (complete s c st res) := complete_moves ⟨by decide +kernel⟩ .refl

theorem complete_chuck : (complete s c st res).chuck = s.chuck := complete_reaches.part (p := .chuck) (by decide +kernel)
theorem complete_sps : (complete s c st res).sps = s.sps := complete_reaches.part (p := .sps) (by decide +kernel)
theorem complete_lathe : (complete s c st res).mem.lathe = s.mem.lathe := complete_reaches.part (p := .latheWords) (by decide +kernel)
theorem complete_dev : (complete s c st res).dev = s.dev := complete_reaches.part (p := .dev) (by decide +kernel)
theorem complete_bank_field (hs : s.wf = true) {f : Fld} (hf : f = SPn_BANK_swap ∨ f = SPn_BANK_active) (i j : Nat) :
    (complete s c st res).get f i j = s.get f i j := by
  refine complete_reaches.same hs f i j ?_
  rcases hf with rfl | rfl <;> decide +kernel

end complete

/-! ### Set points (R230, R390) -/

section points
variable {s : State} {n : Ch}

/-- A word of a spindle's window on its way through Chuck. -/
def wordItem (s : State) (n : Ch) (w : Nat) (x : Int) : ChuckItem :=
  ⟨2 + n.val, .core 0 n.val (w + 2 ^ 40 * toField 36 (sat36 x)), s.now, false⟩

theorem mpWord_eq (h : s.replayed n.val = false) (w : Nat) (x : Int) : mpWord s n w x = { s with chuck := s.chuck ++ [wordItem s n w x] } := by
  simp [mpWord, h, toChuck, toChuckAs, wordItem]

theorem setTarget_of_standby (h : s.get TLS_STAT_role = 2) (g : Nat) (x : Int) : setTarget s n g x = s := by
  simp [setTarget, isStandby, h]

theorem setTarget_of_not_standby (h : s.get TLS_STAT_role ≠ 2) (hr : s.replayed n.val = false) (g : Nat) (x : Int) :
    setTarget s n g x = { s with chuck := s.chuck ++ [wordItem s n (0x840 + 8 * g) x] } := by
  have hrole : (s.get TLS_STAT_role == 2) = false := beq_eq_false_iff_ne.mpr h
  simp [setTarget, isStandby, hrole, mpWord_eq hr]

/-- Two set points, one after the other. -/
theorem setTarget_twice (h : s.get TLS_STAT_role ≠ 2) (hr : s.replayed n.val = false) (g g' : Nat) (x y : Int) :
    setTarget (setTarget s n g x) n g' y =
      { s with chuck := s.chuck ++ [wordItem s n (0x840 + 8 * g) x, wordItem s n (0x840 + 8 * g') y] } := by
  have h' : (setTarget s n g x).get TLS_STAT_role ≠ 2 := by
    rw [setTarget_of_not_standby h hr]
    exact h
  have hr' : (setTarget s n g x).replayed n.val = false := by
    rw [setTarget_of_not_standby h hr]
    exact hr
  rw [setTarget_of_not_standby h' hr', setTarget_of_not_standby h hr]
  simp [wordItem, State.now]

/-- The three limits of a ramp, one after the other. -/
theorem mpWord_thrice (hr : s.replayed n.val = false) (w : Nat) (x y z : Int) :
    ([x, y, z].zipIdx.foldl (fun s e => mpWord s n (w + e.2) e.1) s) =
      { s with chuck := s.chuck ++ [wordItem s n w x, wordItem s n (w + 1) y, wordItem s n (w + 2) z] } := by
  have hany : ∀ l, mpWord { s with chuck := l } n = fun w x => { s with chuck := l ++ [wordItem s n w x] } := by
    intro l
    funext w x
    exact mpWord_eq (s := { s with chuck := l }) hr w x
  simp only [List.zipIdx_cons, List.zipIdx_nil, List.foldl_cons, List.foldl_nil, mpWord_eq hr, hany]
  simp

end points

/-! ### Coefficients (R211) -/

section coefficients
variable {s t : State} {n : Ch} {w : Nat} {q : QWord}

/-- Whether a bank's word may be written follows from the bank that is active, a swap, the fallback and a seal in work alone. -/
theorem wordWrite_congr (hw : w < 0x800) (h1 : t.get SPn_BANK_active n.val = s.get SPn_BANK_active n.val)
    (h2 : t.get SPn_BANK_swap n.val = s.get SPn_BANK_swap n.val) (h3 : t.get SPn_BANK_seal_busy n.val = s.get SPn_BANK_seal_busy n.val)
    (h4 : t.sps = s.sps) : wordWrite t n w = wordWrite s n w := by
  simp only [wordWrite, if_pos hw]
  unfold actBank State.getB State.sp
  rw [h1, h2, h3, h4]

theorem chOf_spWord (hw : w < 0x800) : chOf (spWord n.val w / 32768) = n ∧ spWord n.val w % 32768 = w := by
  have hn := n.isLt
  simp only [spWord, chOf, Fin.ext_iff]
  omega

/-- A word that may be written is stored whole, and beside it at most the bank's seal changes. -/
theorem storeWord_of_some (h : (wordWrite s n w).isSome = true) :
    (storeWord s n w q).mem.lathe = sput 0 s.mem.lathe (spWord n.val w) (wordBits q) ∧ (storeWord s n w q).owl = s.owl := by
  obtain ⟨x, hx⟩ := Option.isSome_iff_exists.mp h
  have hoff : ∀ u b, Moves (maskOf [SPn_BANK_seal_a, SPn_BANK_seal_b, SPn_BANK_CRC_A_crc, SPn_BANK_CRC_B_crc, SPn_STEP_step_act,
      SPn_STEP_step_inact] []) u (sealOff u n b) := fun u b => sealOff_moves ⟨by decide +kernel⟩ .refl
  simp only [storeWord, hx]
  cases x with
  | none => exact ⟨rfl, rfl⟩
  | some b =>
    exact ⟨((hoff _ b).part (p := .latheWords) (by decide +kernel)).trans rfl, ((hoff _ b).part (p := .owl) (by decide +kernel)).trans rfl⟩

/-- A coefficient that may be written stands in its word, and what may be written stays so. -/
theorem wordFromBus_coefficient (hs : s.wf = true) (hw : w < 0x800) (hr : s.replayed n.val = false)
    (hok : (wordWrite s n w).isSome = true) :
    (wordFromBus s (spWord n.val w) q).wf = true ∧ (wordFromBus s (spWord n.val w) q).replayed n.val = false ∧
      (wordFromBus s (spWord n.val w) q).mem.lathe = sput 0 s.mem.lathe (spWord n.val w) (wordBits q) ∧
      ∀ v < 0x800, wordWrite (wordFromBus s (spWord n.val w) q) n v = wordWrite s n v := by
  have hmv := wordFromBus_moves (a := s) (x1 := spWord n.val w) (x2 := q) ⟨Nat.and_self _⟩ .refl
  have hwrite : ∀ v < 0x800, wordWrite (wordFromBus s (spWord n.val w) q) n v = wordWrite s n v := fun v hv =>
    wordWrite_congr hv (hmv.same hs _ _ _ (by decide +kernel)) (hmv.same hs _ _ _ (by decide +kernel))
      (hmv.same hs _ _ _ (by decide +kernel)) (hmv.part (p := .sps) (by decide +kernel))
  have hrec := fun l => State.owlRec_moves (a := s) (x1 := 0x05) (x2 := n.val) (x3 := l) ⟨Nat.and_self _⟩ .refl
  have hrecok : ∀ l, (wordWrite (s.owlRec 0x05 n.val l) n w).isSome = true := fun l => by
    rw [wordWrite_congr hw ((hrec l).same hs _ _ _ (by decide +kernel)) ((hrec l).same hs _ _ _ (by decide +kernel))
      ((hrec l).same hs _ _ _ (by decide +kernel)) ((hrec l).part (p := .sps) (by decide +kernel))]
    exact hok
  have heq : ∃ l, wordFromBus s (spWord n.val w) q = storeWord (s.owlRec 0x05 n.val l) n w q := by
    simp only [wordFromBus, chOf_spWord hw, hr, Bool.false_eq_true, if_false]
    exact ⟨_, rfl⟩
  obtain ⟨l, heq⟩ := heq
  obtain ⟨hlathe, howl⟩ := storeWord_of_some (q := q) (hrecok l)
  refine ⟨hmv.wf hs, ?_, ?_, hwrite⟩
  · rw [heq, State.replayed_congr (s := s) (by rw [howl, State.owlRec_replay])]
    exact hr
  · rw [heq, hlathe, State.owlRec_mem]

/-- A run of coefficients: each stands in its word. -/
theorem forN_wordFromBus {base k : Nat} {g : Nat → QWord} (hs : s.wf = true) (hk : base + k ≤ 0x800) (hr : s.replayed n.val = false)
    (hok : ∀ j < k, (wordWrite s n (base + j)).isSome = true) :
    let t := s.forN k (fun j s => wordFromBus s (spWord n.val (base + j)) (g j))
    t.wf = true ∧ t.replayed n.val = false ∧ (∀ v < 0x800, wordWrite t n v = wordWrite s n v) ∧
      ∀ j < k, sget 0 t.mem.lathe (spWord n.val (base + j)) = wordBits (g j) := by
  induction k with
  | zero => simp [hs, hr]
  | succ k ih =>
    obtain ⟨hwf, hrep, hww, hget⟩ := ih (by omega) (fun j hj => hok j (by omega))
    have hlast : base + k < 0x800 := by omega
    rw [forN_succ]
    obtain ⟨hwf', hrep', hlathe, hww'⟩ := wordFromBus_coefficient (q := g k) hwf hlast hrep (by
      rw [hww _ hlast]
      exact hok k (by omega))
    refine ⟨hwf', hrep', fun v hv => (hww' v hv).trans (hww v hv), fun j hj => ?_⟩
    rw [hlathe]
    rcases Nat.lt_succ_iff_lt_or_eq.mp hj with hj | rfl
    · rw [sget_sput_ne (State.wf_lathe hwf) (by simp only [spWord]; omega)]
      exact hget j hj
    · exact sget_sput_same (State.wf_lathe hwf)

end coefficients

/-! ### What each operation answers -/

section operations
variable {s : State} {c : Ctx} {p : List Nat}

theorem opSetTorque_free (h : slotOwns s (chOf c.chan) 1 = false) :
    opSetTorque s c p = opDone 0 [] (setTarget s (chOf c.chan) 1 (xImage p 0)) := by
  simp [opSetTorque, h]

theorem opSetSpeed_free (hp : p.length = 16) (h2 : slotOwns s (chOf c.chan) 2 = false) (h3 : slotOwns s (chOf c.chan) 3 = false) :
    opSetSpeed s c p = opDone 0 [] (setTarget (setTarget s (chOf c.chan) 2 (xImage p 0)) (chOf c.chan) 3 (xImage p 8)) := by
  simp [opSetSpeed, hp, h2, h3]

theorem opSetLimits_in_range (h0 : 0 ≤ xImage p 0) (h1 : xImage p 0 ≤ 2 ^ 35) :
    opSetLimits s c p = opDone 0 [] (s.modFld (chOf c.chan) (fun f => { f with tSet := some (sat36 (xImage p 0)) })) := by
  simp only [opSetLimits, not_or.mpr ⟨not_lt.mpr h0, not_lt.mpr h1⟩, if_false]

theorem modFld_fld {n : Ch} {f : FldSt → FldSt} : ((s.modFld n f).sp n).fld = f (s.sp n).fld := by
  simp [State.modFld, State.modSp, State.sp, vupd]

theorem opSetRampLimits_in_range (hg : p.headD 0 ≤ 3) (h8 : 0 ≤ xImage p 8) (h16 : 0 ≤ xImage p 16) (h24 : 0 ≤ xImage p 24) :
    opSetRampLimits s c p = opDone 0 [] ([xImage p 8, xImage p 16, xImage p 24].zipIdx.foldl
      (fun s e => mpWord s (chOf c.chan) (0x841 + 8 * p.headD 0 + e.2) e.1) s) := by
  have hin : (decide (3 < p.headD 0) || [xImage p 8, xImage p 16, xImage p 24].any (fun x => decide (x < 0))) = false := by
    simp only [not_lt.mpr hg, not_lt.mpr h8, not_lt.mpr h16, not_lt.mpr h24, decide_false, List.any_cons, List.any_nil, Bool.or_false]
  simp only [opSetRampLimits, hin, Bool.false_eq_true, if_false, State.forL]

theorem opSetRampLimits_out (h : 3 < p.headD 0 ∨ xImage p 8 < 0) : opSetRampLimits s c p = opDone 0x14 [] s := by
  have hout : (decide (3 < p.headD 0) || [xImage p 8, xImage p 16, xImage p 24].any (fun x => decide (x < 0))) = true := by
    rcases h with h | h <;> simp only [h, decide_true, Bool.true_or, List.any_cons, Bool.or_true]
  simp only [opSetRampLimits, hout, if_true]

/-- One pair of CFG_WRITE that resets no device. -/
theorem opCfgWrite_one {st : Nat} {u : State} (hp : p.headD 0 = 1) (h : cfgPut s c.priv (leAt p 4 4) (leAt p 8 4) = (st, u))
    (hu : u.pwr.stage ≠ 1) : opCfgWrite s c p = opDone st [if st = 0 then 1 else 0] u := by
  have hno : ¬ (u.pwr.stage = 1 ∧ s.pwr.stage ≠ 1) := fun k => hu k.1
  have hone : (List.range 1).map (fun i => (leAt p (4 + 8 * i) 4, leAt p (8 + 8 * i) 4)) = [(leAt p 4 4, leAt p 8 4)] := rfl
  have hcount : ¬ ((1 : Nat) = 0 ∨ 28 < 1) := by decide
  simp only [opCfgWrite, hp, hcount, if_false, hone, cfgPuts, h, hno]
  by_cases hst : st = 0 <;> simp only [hst, if_true, if_false, zero_add]

theorem opCfgRead_one (hp : p.headD 0 = 1) (h : cfgAddr (leAt p 4 4) = true) : opCfgRead s c p =
    opDone 0 (leBytes 4 (cfgGet s c.priv (leAt p 4 4)).1) (cfgGet s c.priv (leAt p 4 4)).2 := by
  have hone : (List.range 1).map (fun i => leAt p (4 + 4 * i) 4) = [leAt p 4 4] := rfl
  have hok : ¬ ((1 : Nat) = 0 ∨ 57 < 1 ∨ (!List.all [leAt p 4 4] cfgAddr) = true) := by simp [h]
  simp only [opCfgRead, hp, hone, hok, if_false, List.foldl_cons, List.foldl_nil, List.nil_append]

theorem opCfgRead_count (h : p.headD 0 = 0 ∨ 57 < p.headD 0) : opCfgRead s c p = opDone 0x14 [] s := by
  simp only [opCfgRead]
  rw [if_pos (or_assoc.mp (.inl h))]

theorem cfgGet_pwr {prv : Bool} {a : Nat} : (cfgGet s prv a).2.pwr = s.pwr := by
  unfold cfgGet
  split
  · rfl
  · exact (regRead_moves ⟨Nat.and_self _⟩ .refl).part (p := .pwr) (by decide +kernel)

end operations

section coefOperations
variable {s : State} {c : Ctx} {p : List Nat} {base : Nat}

theorem opCoefLoad_allowed (hb : p.headD 0 ≤ 1) (h0 : 0 < p.getD 4 0) (hk : p.getD 4 0 ≤ 24) (hf : leAt p 2 2 + p.getD 4 0 ≤ 0x400)
    (hseal : (p.getD 1 0).testBit 0 = false)
    (hok : ∀ j < p.getD 4 0, (wordWrite s (chOf c.chan) (p.headD 0 * 0x400 + leAt p 2 2 + j)).isSome = true) :
    opCoefLoad s c p = opDone 0 [] (s.forN (p.getD 4 0)
      (fun j s => wordFromBus s (spWord (chOf c.chan).val (p.headD 0 * 0x400 + leAt p 2 2 + j)) (wordAt p (8 + 9 * j)))) := by
  have hrange : ¬ (1 < p.headD 0 ∨ p.getD 4 0 = 0 ∨ 24 < p.getD 4 0 ∨ 0x400 < leAt p 2 2 + p.getD 4 0) := by omega
  have hfind : (List.range (p.getD 4 0)).find? (fun j => (wordWrite s (chOf c.chan) (p.headD 0 * 0x400 + leAt p 2 2 + j)).isNone) = none := by
    simp only [List.find?_eq_none, List.mem_range, Option.isNone_iff_eq_none]
    exact fun j hj => Option.isSome_iff_ne_none.mp (hok j hj)
  simp only [opCoefLoad, hrange, if_false, hfind, hseal, State.onIf_false]

theorem opCoefLoad_refused (hb : p.headD 0 ≤ 1) (h0 : 1 ≤ p.getD 4 0) (hk : p.getD 4 0 ≤ 24) (hf : leAt p 2 2 + p.getD 4 0 ≤ 0x400)
    (hno : wordWrite s (chOf c.chan) (p.headD 0 * 0x400 + leAt p 2 2) = none) :
    opCoefLoad s c p = opDone 0x22 [] (s.logEv 0x3103 [(chOf c.chan).val, p.headD 0 * 0x400 + leAt p 2 2]) := by
  have hrange : ¬ (1 < p.headD 0 ∨ p.getD 4 0 = 0 ∨ 24 < p.getD 4 0 ∨ 0x400 < leAt p 2 2 + p.getD 4 0) := by omega
  obtain ⟨k, hk'⟩ := Nat.exists_eq_add_of_lt h0
  simp only [opCoefLoad, hrange, if_false]
  generalize p.headD 0 * 0x400 + leAt p 2 2 = base at hno ⊢
  have hfind : (List.range (p.getD 4 0)).find? (fun j => (wordWrite s (chOf c.chan) (base + j)).isNone) = some 0 := by
    rw [hk', zero_add, List.range_succ_eq_map, List.find?_cons_of_pos]
    exact Option.isNone_iff_eq_none.mpr hno
  rw [hfind]
  rfl

theorem opCoefSwap_accepted (h : swapRefusal s (chOf c.chan) = 0) :
    opCoefSwap s c p = opDone 0 [] (s.put SPn_BANK_swap 1 (chOf c.chan).val) := by
  simp [opCoefSwap, swapRequest, h]

theorem opCoefSwap_refused (h : swapRefusal s (chOf c.chan) = 1) :
    opCoefSwap s c p = opDone 0x22 [] (s.logEv 0x3107 [(chOf c.chan).val]) := by
  simp [opCoefSwap, swapRequest, h]

theorem coefReadWith_in_range {e : WordErrs} (hb : p.headD 0 ≤ 2) (h0 : 1 ≤ p.getD 4 0) (hk : p.getD 4 0 ≤ 25)
    (hf : leAt p 2 2 + p.getD 4 0 ≤ if p.headD 0 = 2 then 0x100 else 0x400) :
    coefReadWith e s c p =
      let l := (List.range (p.getD 4 0)).map fun k => spWord (chOf c.chan).val (p.headD 0 * 0x400 + leAt p 2 2 + k)
      let r := eccReads s 1 2 (fun w => l.contains w) e
      if l.any (isUe r 1) then opDone 0x14 [] r else opDone 0 (l.flatMap fun w => wordImage (r.lwRead w)) r := by
  have hrange : ¬ (2 < p.headD 0 ∨ p.getD 4 0 = 0 ∨ 25 < p.getD 4 0 ∨ (if p.headD 0 = 2 then 0x100 else 0x400) < leAt p 2 2 + p.getD 4 0) := by
    omega
  simp only [coefReadWith, hrange, if_false]

theorem coefReadWith_out {e : WordErrs} (h : 2 < p.headD 0 ∨ p.getD 4 0 = 0 ∨ 25 < p.getD 4 0) :
    coefReadWith e s c p = opDone 0x14 [] s := by
  have hrange : 2 < p.headD 0 ∨ p.getD 4 0 = 0 ∨ 25 < p.getD 4 0 ∨ (if p.headD 0 = 2 then 0x100 else 0x400) < leAt p 2 2 + p.getD 4 0 := by
    omega
  simp only [coefReadWith, hrange, if_true]

theorem forN_wordFromBus_pwr {k : Nat} {at' : Nat → Nat} {g : Nat → QWord} :
    (s.forN k (fun j s => wordFromBus s (at' j) (g j))).pwr = s.pwr :=
  (State.forN_moves .refl fun _ _ => wordFromBus_moves ⟨Nat.and_self _⟩).part (p := .pwr) (by decide +kernel)

theorem eccReads_pwr {region ini : Nat} {reads : Nat → Bool} {e : WordErrs} : (eccReads s region ini reads e).pwr = s.pwr :=
  (eccReads_moves ⟨Nat.and_self _⟩ .refl).part (p := .pwr) (by decide +kernel)

end coefOperations

/-! ### The commands -/

section commands
variable {s : State} {c : Ctx} {p : List Nat}

theorem setTorque_delivers (hs : Serves s c 0x20 p) (h1 : slotOwns s (chOf c.chan) 1 = false) (h2 : s.get TLS_STAT_role ≠ 2)
    (hr : s.replayed (chOf c.chan).val = false) :
    ∃ t, exec (.setTorque c p) s = .next t ∧ t.chuck = s.chuck ++ [wordItem s (chOf c.chan) 0x848 (xImage p 0)] := by
  refine ⟨_, opRow_of_done hs (opSetTorque_free h1) ?_, ?_⟩
  all_goals rw [setTarget_of_not_standby h2 hr]
  · exact id
  · exact complete_chuck

theorem setTorque_of_standby (hs : Serves s c 0x20 p) (h1 : slotOwns s (chOf c.chan) 1 = false) (h2 : s.get TLS_STAT_role = 2) :
    ∃ t, exec (.setTorque c p) s = .next t ∧ t = complete s { c with opcode := 0x20 } 0 := by
  have hf : opSetTorque s { c with opcode := 0x20 } p = opDone 0 [] s :=
    (opSetTorque_free h1).trans (by rw [setTarget_of_standby h2])
  exact ⟨_, opRow_of_answer hs hf, rfl⟩

theorem setSpeed_delivers (hs : Serves s c 0x21 p) (hp : p.length = 16) (h2 : slotOwns s (chOf c.chan) 2 = false)
    (h3 : slotOwns s (chOf c.chan) 3 = false) (h4 : s.get TLS_STAT_role ≠ 2) (hr : s.replayed (chOf c.chan).val = false) :
    ∃ t, exec (.setSpeed c p) s = .next t ∧
      t.chuck = s.chuck ++ [wordItem s (chOf c.chan) 0x850 (xImage p 0), wordItem s (chOf c.chan) 0x858 (xImage p 8)] := by
  refine ⟨_, opRow_of_done hs (opSetSpeed_free hp h2 h3) ?_, ?_⟩
  all_goals rw [setTarget_twice h4 hr]
  · exact id
  · exact complete_chuck

theorem setLimits_stores (hs : Serves s c 0x22 p) (h0 : 0 ≤ xImage p 0) (h1 : xImage p 0 ≤ 2 ^ 35) :
    ∃ t, exec (.setLimits c p) s = .next t ∧ (t.sp (chOf c.chan)).fld.tSet = some (sat36 (xImage p 0)) ∧ t.mem.lathe = s.mem.lathe := by
  refine ⟨_, opRow_of_done hs (opSetLimits_in_range h0 h1) id, ?_, complete_lathe⟩
  rw [State.sp, complete_sps, ← State.sp, modFld_fld]

theorem setRampLimits_delivers (hs : Serves s c 0x23 p) (hb : p.headD 0 ≤ 3) (h8 : 0 ≤ xImage p 8) (h16 : 0 ≤ xImage p 16)
    (h24 : 0 ≤ xImage p 24) (hr : s.replayed (chOf c.chan).val = false) :
    ∃ t, exec (.setRampLimits c p) s = .next t ∧ t.chuck = s.chuck ++ [wordItem s (chOf c.chan) (0x841 + 8 * p.headD 0) (xImage p 8),
      wordItem s (chOf c.chan) (0x842 + 8 * p.headD 0) (xImage p 16), wordItem s (chOf c.chan) (0x843 + 8 * p.headD 0) (xImage p 24)] := by
  refine ⟨_, opRow_of_done hs (opSetRampLimits_in_range hb h8 h16 h24) ?_, ?_⟩
  all_goals rw [mpWord_thrice hr]
  · exact id
  · rw [complete_chuck, show 0x841 + 8 * p.headD 0 + 1 = 0x842 + 8 * p.headD 0 by omega,
      show 0x841 + 8 * p.headD 0 + 2 = 0x843 + 8 * p.headD 0 by omega]

theorem cfgLock_locks (hs : Serves s c 0x32 p) : ∃ t, exec (.cfgLock c p) s = .next t ∧ t.dev.cfgLock = true ∧ t.dev.held = false := by
  refine ⟨_, opRow_of_done hs (f := opCfgLock) rfl id, ?_, ?_⟩
  all_goals rw [complete_dev]
  exact hs.1.1

theorem coefLoad_stores {i : Nat} (hs : Serves s c 0x40 p) (hb : p.headD 0 ≤ 1) (hi : i < p.getD 4 0) (hk : p.getD 4 0 ≤ 24)
    (hf : leAt p 2 2 + p.getD 4 0 ≤ 0x400) (hseal : (p.getD 1 0).testBit 0 = false)
    (hok : ∀ j < p.getD 4 0, (wordWrite s (chOf c.chan) (p.headD 0 * 0x400 + leAt p 2 2 + j)).isSome = true)
    (hr : s.replayed (chOf c.chan).val = false) :
    ∃ t, exec (.coefLoad c p) s = .next t ∧
      sget 0 t.mem.lathe (spWord (chOf c.chan).val (p.headD 0 * 0x400 + leAt p 2 2 + i)) = wordBits (wordAt p (8 + 9 * i)) := by
  obtain ⟨-, -, -, hget⟩ := forN_wordFromBus (g := fun j => wordAt p (8 + 9 * j)) hs.1.2 (by omega) hr hok
  refine ⟨_, opRow_of_done hs (opCoefLoad_allowed hb (by omega) hk hf hseal hok) (fun h => forN_wordFromBus_pwr ▸ h), ?_⟩
  rw [complete_lathe]
  exact hget i hi

theorem coefSwap_pends (hs : Serves s c 0x41 p) (h : swapRefusal s (chOf c.chan) = 0) :
    ∃ t, exec (.coefSwap c p) s = .next t ∧ t.get SPn_BANK_swap (chOf c.chan).val = 1 ∧
      t.get SPn_BANK_active (chOf c.chan).val = s.get SPn_BANK_active (chOf c.chan).val := by
  have hwf := hs.1.2
  refine ⟨_, opRow_of_done hs (opCoefSwap_accepted h) id, ?_, ?_⟩
  · rw [complete_bank_field (State.put_wf hwf) (.inl rfl), State.get_put_same hwf]
    rfl
  · rw [complete_bank_field (State.put_wf hwf) (.inr rfl), State.get_put_ne hwf (by decide)]

end commands

/-- Settles O31: each clause is an operation's answer, completed. -/
theorem setPointsAndRegisters : Obligations.SetPointsAndRegisters := by
  intro s u c p st i e _ n cl W item b first l r
  refine ⟨setTorque_delivers, fun hs h => ⟨_, opRow_of_answer hs (if_pos h), rfl⟩, setTorque_of_standby, setSpeed_delivers,
    fun hs h => ⟨_, opRow_of_answer hs (if_pos (by rw [h, Bool.true_or])), rfl⟩, setLimits_stores,
    fun hs h => ⟨_, opRow_of_answer hs (if_pos h), rfl⟩, setRampLimits_delivers,
    fun hs h => ⟨_, opRow_of_answer hs (opSetRampLimits_out h), rfl⟩,
    fun hs hb hput hu => ⟨_, opRow_of_done hs (opCfgWrite_one hb hput hu) (fun h => absurd h hu), rfl⟩,
    fun hs hb => ⟨_, opRow_of_answer hs (if_pos hb), rfl⟩,
    fun hs hb ha => ⟨_, opRow_of_done hs (opCfgRead_one hb ha) (fun h => cfgGet_pwr ▸ h), rfl⟩,
    fun hs hb => ⟨_, opRow_of_answer hs (opCfgRead_count hb), rfl⟩, cfgLock_locks,
    fun hs hb hi hk hf hseal hok => coefLoad_stores hs hb hi hk hf hseal fun j hj => List.all_eq_true.mp hok j (List.mem_range.mpr hj),
    fun hs hb h0 hk hf hno => ⟨_, opRow_of_done hs (opCoefLoad_refused hb h0 hk hf hno) (fun h => by rwa [State.logEv_pwr] at h), rfl⟩,
    coefSwap_pends,
    fun hs h => ⟨_, opRow_of_done hs (opCoefSwap_refused h) (fun h => by rwa [State.logEv_pwr] at h), rfl⟩,
    fun he => by rw [show r = eccReads s 1 2 (fun w => l.contains w) [] from he ▸ rfl]; rfl,
    fun hs hb h0 hk hf hl => ⟨_, opRow_of_done hs ((coefReadWith_in_range hb h0 hk hf).trans (if_neg (Bool.eq_false_iff.mp hl)))
      (fun h => eccReads_pwr ▸ h), rfl⟩,
    fun hs hb h0 hk hf hl => ⟨_, opRow_of_done hs ((coefReadWith_in_range hb h0 hk hf).trans (if_pos hl)) (fun h => eccReads_pwr ▸ h), rfl⟩,
    fun hs h => ⟨_, opRow_of_answer hs (coefReadWith_out h), rfl⟩⟩

end Sys2Proof.Proofs
end

section
/-! PROOF. What a register write reaches, and the loading of an Owl word (O60). -/

namespace Sys2Proof.Proofs

open Sys2Proof Sys2Proof.Machine Sys2Proof.Safety

/-! ### What a register write reaches

`busWrite_moves` covers a write of any register at once. Here the mask is the one of the register written: what its fields store,
what follows in its block, and what the bus does whatever the register. -/

/-- A write of its register stores a field of this access code (R7). -/
def stored (f : Fld) : Bool := f.acc == .rw || f.acc == .wod || f.acc == .w1c

theorem fieldWrite_of_not_stored {s : State} {w : Wr} {f : Fld} (h : stored f = false) : fieldWrite s w f = s := by
  simp only [stored, Bool.or_eq_false_iff, beq_eq_false_iff_ne, ne_eq] at h
  obtain ⟨⟨h1, h2⟩, h3⟩ := h
  unfold fieldWrite
  split <;> simp_all

/-- The mask holds every field that a write of the register stores. -/
def holdsFlds (m : Nat) (r : Reg) : Bool := r.flds.all fun f => !stored f || touches m f

/-- What the bus may touch whatever the register: a bus error or a refusal is an event, an address and an answer (R75). -/
def busMask : Nat := maskOf (SYS_BUSERR_ADDR_addr :: evFlds) (.ports :: evParts)

/-- The figures that follow a write in the blocks of `showAfter` (R21, R28). -/
def shownMask (r : Reg) : Nat :=
  if [0x00, 0x10, 0x11, 0x24, 0x31].contains (blockOf r.addr) then 0x18000000000000 else 0

/-- The mask holds what a write of the register does on its own, whatever follows it in its block. A spindle's registers, whose
writes Owl records, are apart. -/
def holdsWrite (m : Nat) (r : Reg) : Bool :=
  blockOf r.addr != 0x31 && holdsFlds m r && busMask &&& m == busMask && shownMask r &&& m == shownMask r

theorem applyWr_reaches {m : Nat} {a s : State} {w : Wr} {keep : List Fld} (hr : holdsFlds m w.reg = true) (h : Moves m a s) :
    Moves m a (applyWr s w keep) := by
  have key : ∀ f ∈ w.reg.flds, ∀ t, Moves m a t → Moves m a (fieldWrite t w f) := by
    intro f hf t ht
    cases hs : stored f with
    | false => rw [fieldWrite_of_not_stored hs]; exact ht
    | true =>
      have hc := List.all_eq_true.mp hr f hf
      simp only [hs, Bool.not_true, Bool.false_or] at hc
      exact fieldWrite_moves ⟨Nat.zero_and _⟩ (.inr hc) ht
  have gen : ∀ l : List Fld, l ⊆ w.reg.flds → ∀ t, Moves m a t → Moves m a (l.foldl (fun s f => fieldWrite s w f) t) := by
    intro l
    induction l with
    | nil => exact fun _ _ ht => ht
    | cons f l ih =>
      intro hl t ht
      obtain ⟨hf, hl⟩ := List.cons_subset.mp hl
      exact ih hl _ (key f hf t ht)
  exact gen _ (List.filter_subset_self _) s h

theorem showAfter_reaches {m : Nat} {a s : State} {r : Reg} (hm : Sub (shownMask r) m) (h : Moves m a s) :
    Moves m a (showAfter s (blockOf r.addr)) := by
  by_cases hb : [0x00, 0x10, 0x11, 0x24, 0x31].contains (blockOf r.addr) = true
  · rw [shownMask, if_pos hb] at hm
    exact showAfter_moves hm h
  · rw [showAfter, if_neg hb]
    exact h

/-- The write as it is performed after CFG_LOCK: LK fields keep their values (R9). -/
def heldWr (s : State) (w : Wr) : Wr := { w with v := heldWord s w (lockedFlds s w) }

theorem holdsWrite_iff {m : Nat} {r : Reg} :
    holdsWrite m r = true ↔ blockOf r.addr ≠ 0x31 ∧ holdsFlds m r = true ∧ Sub busMask m ∧ Sub (shownMask r) m := by
  simp only [holdsWrite, Bool.and_eq_true, bne_iff_ne, ne_eq, beq_iff_eq, and_assoc]
  exact ⟨fun ⟨h1, h2, h3, h4⟩ => ⟨h1, h2, ⟨h3⟩, ⟨h4⟩⟩, fun ⟨h1, h2, h3, h4⟩ => ⟨h1, h2, h3.eq, h4.eq⟩⟩

section write
variable {m : Nat} {s : State} {a : Access} {w : Wr} {addr : Nat}

/-- A register write reaches what its register holds and what its block does after it. -/
theorem writeReg_reaches (hw : holdsWrite m w.reg = true)
    (hp : ∀ u t, Moves m s t → Moves m s (postWrite u a (heldWr s w) t)) : Moves m s (writeReg s a w addr) := by
  obtain ⟨-, hf, hb, hs⟩ := holdsWrite_iff.mp hw
  have hev : ∀ t c l, Moves m s t → Moves m s (t.logEv c l) := fun t c l ht => State.logEv_moves (hb.up (by decide +kernel)) ht
  have h1 : ∀ c, Moves m s (s.onIf c (fun s => s.logEv 0x0014 [addr])) := fun c => State.onIf_moves .refl (fun t ht => hev t _ _ ht)
  have hf' : holdsFlds m (heldWr s w).reg = true := hf
  simp only [writeReg, ← heldWr.eq_1]
  split
  · exact h1 _
  · exact hev _ _ _ (h1 _)
  · exact showAfter_reaches hs (hp _ _ (h1 _))
  · refine showAfter_reaches hs ?_
    have h2 : ∀ c keep, Moves m s (applyWr (s.onIf c (fun s => s.logEv 0x0014 [addr])) (heldWr s w) keep) :=
      fun c keep => applyWr_reaches hf (h1 c)
    split
    · exact hev _ _ _ (hp _ _ (Moves.ite (fun _ => h2 _ _) (fun _ => h2 _ _)))
    · exact hp _ _ (Moves.ite (fun _ => h2 _ _) (fun _ => h2 _ _))

end write

section bus
variable {m : Nat} {s : State} {a : Access} {r : Reg} {i j addr v : Nat}

theorem regWrite_of_block (hr : regOf addr = some (r, i, j)) (hs : blockOf r.addr ≠ 0x31) :
    regWrite s a false addr v = (.ok, writeReg s a ⟨r, i, j, v % 2 ^ 32⟩ addr) := by
  simp only [regWrite, hr, Bool.false_and, Bool.false_eq_true, if_false, beq_eq_false_iff_ne.mpr hs, State.onIf]

/-- A write of a register through the privileged aperture reaches what the bus, the register and its block reach. -/
theorem busWrite_reaches (hr : regOf addr = some (r, i, j)) (hb : busAddr addr = true) (hw : holdsWrite m r = true)
    (hp : ∀ u t, Moves m s t → Moves m s (postWrite u a (heldWr s ⟨r, i, j, v % 2 ^ 32⟩) t)) : Moves m s (busWrite s a addr 4 v) := by
  obtain ⟨hblk, -, hbus, -⟩ := holdsWrite_iff.mp hw
  have hans : ∀ x t, Moves m s t → Moves m s (t.answer a.ini x) := fun x t ht => State.answer_moves (hbus.up (by decide +kernel)) ht
  simp only [busWrite, aperture_of_busAddr hb, Bool.false_and, Bool.false_eq_true, if_false, Bool.not_false, Bool.true_and,
    aligned_of_busAddr hb, regWrite_of_block hr hblk]
  refine Moves.ite (fun _ => .refl) fun _ => Moves.ite (fun _ => hans _ _ .refl) fun _ => Moves.ite (fun _ => ?_) fun _ => ?_
  · exact busErr_moves (hbus.up (by decide +kernel)) .refl
  · exact hans _ _ (writeReg_reaches hw hp)

/-- The same for the commands that are register writes. -/
theorem wrFld_reaches {f : Fld} (hr : regOf (f.at i j) = some (r, i, j)) (hb : busAddr (f.at i j) = true) (hw : holdsWrite m r = true)
    (hp : ∀ u t, Moves m s t → Moves m s (postWrite u a (heldWr s ⟨r, i, j, v % 2 ^ 32⟩) t)) : Ends m s (wrFld s a f i j v) :=
  Ends.next (Moves.ite (fun _ => .refl) (fun _ => busWrite_reaches hr hb hw hp))

end bus

/-! ### The loading of an Owl word -/

theorem postWrite_OWL_LOAD_D2 {u t : State} {a : Access} {w : Wr} (h : w.reg.addr = OWL_LOAD_D2_data.addr) :
    postWrite u a w t = owlLoad t := by
  simp [postWrite, postOwl, blockOf, Wr.is, h, OWL_CTL_arm, OWL_LOAD_D2_data]

/-- The frame of OWL_LOAD_STORE that does hold: beside what O60 lists, the loaded word is good again (R67) and leaves the words
that wait for their write back (R69). -/
theorem owlLoadStore_keeps {s t : State} {a : Access} {v : Nat} (hs : s.wf = true) (h : exec (.owlLoadStore a v) s = .next t) :
    Keeps s t (evFlds ++ [SYS_BUSERR_ADDR_addr, OWL_LOAD_D2_data, OWL_LOAD_IDX_idx, OWL_OLDEST_idx, OWL_STAT_wrapped, OWL_STAT_wptr])
      (evParts ++ [Part.ports, Part.owlWords, Part.ueKnown, Part.writebacks]) :=
  frame hs (wrFld_reaches regOf_OWL_LOAD_D2 rfl (by decide +kernel) fun _ _ ht => by
    rw [postWrite_OWL_LOAD_D2 rfl]
    exact owlLoad_moves ⟨by decide +kernel⟩ ht) h

/-- The device after reset, but for one word: word 0 of the Owl region is known to be uncorrectable (R67). -/
def owlWordUe : State := { State.reset with mem := { State.reset.mem with ueKnown := [(eccKey 2 0, 1)] } }

/-- CPA, with privilege. -/
def cpaPriv : Access := ⟨.cpa, true, false⟩

/-- CPA loads word 0: the word is no longer known to be uncorrectable. -/
theorem owlLoadStore_clears_ueKnown : ∃ t, exec (.owlLoadStore cpaPriv 0) owlWordUe = .next t ∧ ¬ Part.ueKnown.same owlWordUe t :=
  ⟨_, rfl, by unfold Part.same; decide +kernel⟩

/-- Refutes O60: the frame of OWL_LOAD_STORE leaves out the words known to be uncorrectable, and the load of an Owl word takes
its word out of them (R67). The state is the one after reset with word 0 of the Owl region known to be uncorrectable. The frame
with that part is `owlLoadStore_keeps`. -/
theorem not_framesLinksMeterAndPower : ¬ Obligations.FramesLinksMeterAndPower := by
  unfold Obligations.FramesLinksMeterAndPower
  intro h
  obtain ⟨t, hexec, hne⟩ := owlLoadStore_clears_ueKnown
  have hframes := h owlWordUe t (by decide +kernel)
  obtain ⟨-, -, -, -, -, -, -, -, -, -, -, -, -, -, -, -, -, -, -, -, -, -, -, -, -, -, -, -, -, -,
    -, -, -, -, -, -, -, -, hload, -⟩ := hframes
  obtain ⟨-, hparts⟩ := hload cpaPriv 0 hexec
  exact hne (hparts .ueKnown (by decide))

end Sys2Proof.Proofs
end

/-! # Proofs: the family of spec/01_the_period.md -/

section
/- One declaration after the other: proofs that run side by side would each hold a thread while they wait for the kernel. -/
set_option Elab.async false

section
/-! PROOF. What reset leaves (O47), and an idle step as a tick of CKP (O49). -/

namespace Sys2Proof.Proofs

open Sys2Proof Sys2Proof.Machine Sys2Proof.Safety

/-- Settles O47. -/
theorem resetState : Obligations.ResetState :=
  ⟨by decide +kernel, rfl, rfl, by unfold AllOff; decide +kernel, by unfold LegsOk LegOk; decide +kernel, by decide +kernel, by decide +kernel, by decide +kernel⟩

/-- A tick of a held device, or before the PLL has locked, does nothing. -/
theorem tick_still {s : State} (h : s.dev.held = true ∨ s.getB CLK_STATUS_p_lock = false ∧ s.bdg.clkBad.testBit 1 = false) :
    tick s = s := by
  rcases h with h | ⟨hlock, hbad⟩
  · simp [tick, h]
  · simp [tick, hlock, hbad]

/-- A tick of a running device whose PLL has locked counts TS by one (R40), also when CKP is found lost since (R36). -/
theorem tick_ts {s : State} (hheld : s.dev.held = false) (h : s.getB CLK_STATUS_p_lock = true ∨ s.bdg.clkBad.testBit 1 = true) :
    (tick s).ts = s.ts + 1 := by
  have hrun : (s.dev.held || !(s.getB CLK_STATUS_p_lock || s.bdg.clkBad.testBit 1)) = false := by
    rcases h with h | h <;> simp [hheld, h]
  have hirqs : ∀ u, (coreIrqs u).ts = u.ts := fun u => (coreIrqs_moves ⟨Nat.and_self _⟩ .refl).part (p := .ts) (by decide +kernel)
  have hevents : ∀ u, (evFlush u).ts = u.ts := fun u => (evFlush_moves ⟨Nat.and_self _⟩ .refl).part (p := .ts) (by decide +kernel)
  have howl : ∀ u, (owlTick u).ts = u.ts := fun u => (owlTick_moves ⟨Nat.and_self _⟩ .refl).part (p := .ts) (by decide +kernel)
  have hfaults : ∀ u, (tickFaults u).ts = u.ts := fun u => (tickFaults_moves ⟨Nat.and_self _⟩ .refl).part (p := .ts) (by decide +kernel)
  have hdue : ∀ u, (tickDue u).ts = u.ts := fun u => (tickDue_moves ⟨Nat.and_self _⟩ .refl).part (p := .ts) (by decide +kernel)
  have haon : ∀ u, (tickAon u).ts = u.ts := fun u => (tickAon_moves ⟨Nat.and_self _⟩ .refl).part (p := .ts) (by decide +kernel)
  have hcvb : ∀ u, (cvbTick u).ts = u.ts := fun u => (cvbTick_moves ⟨Nat.and_self _⟩ .refl).part (p := .ts) (by decide +kernel)
  simp only [tick, hrun, Bool.false_eq_true, if_false, hcvb, haon, hdue, hfaults, howl, hevents, hirqs]

/-- Settles O49. -/
theorem idleStepCountsTime : Obligations.IdleStepCountsTime := by
  intro s hp
  have hstep : step s = .next (tick s) := by simp only [step, hp]
  refine ⟨tick s, hstep, ?_, tick_ts, tick_still⟩
  rw [← hp]
  exact (tick_moves ⟨Nat.and_self _⟩ .refl).pending

end Sys2Proof.Proofs
end

section
/-! PROOF. What an event leaves alone. -/

namespace Sys2Proof.Proofs

open Sys2Proof Sys2Proof.Machine Sys2Proof.Safety

/-- A field that a mask does not name stays. -/
theorem get_of_untouched {m : Nat} {s t : State} {f : Fld} {i j : Nat} (h : Moves m s t) (hs : s.wf = true) (h0 : m.testBit 0 = false)
    (hf : touches m f = false) : t.get f i j = s.get f i j := h.get hs h0 hf i j

theorem logEv_reaches {s : State} {c : Nat} {l : List Nat} : Moves (maskOf evFlds evParts) s (s.logEv c l) :=
  State.logEv_moves ⟨by decide +kernel⟩ .refl

/-- No event touches a field that is not listed for events. -/
theorem logEv_get_of_untouched {s : State} {c : Nat} {l : List Nat} {f : Fld} {i j : Nat} (hs : s.wf = true)
    (hf : touches (maskOf evFlds evParts) f = false) : (s.logEv c l).get f i j = s.get f i j :=
  get_of_untouched logEv_reaches hs (by decide +kernel) hf

end Sys2Proof.Proofs
end

section
/-! PROOF. The clock monitors and the rails (O1), and the phase between CKA and CKP (O2). -/

namespace Sys2Proof.Proofs

open Sys2Proof Sys2Proof.Machine Sys2Proof.Safety

theorem lockPut_wf {s : State} {d : Dom} {b : Bool} (h : s.wf = true) : (lockPut s d b).wf = true :=
  (lockPut_moves ⟨Nat.and_self _⟩ .refl).wf h

/-- A domain that has a lock bit shows what was put into it. -/
theorem lockBit_lockPut {s : State} {d : Dom} {b : Bool} (h : s.wf = true) :
    lockBit (lockPut s d b) d = (lockBit s d).map (fun _ => if b then 1 else 0) := by
  cases d <;> cases b <;> simp [lockBit, lockPut, State.putB, h]

/-- A rail or a domain that is put back leaves what waits and the island's records alone. -/
theorem faultNShow_bdg (s : State) : (faultNShow s).bdg = s.bdg := (faultNShow_moves ⟨Nat.and_self _⟩ .refl).part (p := .bdg) (by decide +kernel)

theorem faultNShow_inflight (s : State) : (faultNShow s).inflight = s.inflight :=
  (faultNShow_moves ⟨Nat.and_self _⟩ .refl).part (p := .inflight) (by decide +kernel)

/-- A lock bit is a matter of the register store alone. -/
theorem faultNShow_lockBit {s : State} (h : s.wf = true) (d : Dom) : lockBit (faultNShow s) d = lockBit s d := by
  have hget : ∀ f ∈ [CLK_STATUS_c_lock, CLK_STATUS_p_lock, CLK_STATUS_a_lock, CLK_STATUS_m_lock, CLK_STATUS_t_lock, CLK_STATUS_s_lock],
      (faultNShow s).get f 0 0 = s.get f 0 0 := by
    intro f hf
    refine (faultNShow_moves ⟨Nat.and_self _⟩ .refl).same h f 0 0 ?_
    revert f
    decide +kernel
  cases d <;> simp [lockBit, hget]

theorem lockPut_bdg (s : State) (d : Dom) (b : Bool) : (lockPut s d b).bdg = s.bdg := by cases d <;> rfl

theorem lockPut_inflight (s : State) (d : Dom) (b : Bool) : (lockPut s d b).inflight = s.inflight := by cases d <;> rfl

theorem lockBit_modBdg (s : State) (f : BdgSt → BdgSt) (d : Dom) : lockBit (s.modBdg f) d = lockBit s d := by cases d <;> rfl

theorem lockBit_raise (s : State) (k v : Nat) (d : Dom) : lockBit (s.raise k v) d = lockBit s d := by cases d <;> rfl

section events
variable {s : State} (hheld : s.dev.held = false)
include hheld

theorem exec_clockLoss {d : Dom} (hd : d ≠ .ckt ∨ s.getB TLS_CFG_en = true) : exec (.clockLoss d) s =
    .next ((lockPut (s.modBdg (fun b => { b with clkBad := b.clkBad ||| 2 ^ domBit d })) d false).raise (domBit d) 0) := by
  have hmon : (d != .ckt || s.getB TLS_CFG_en) = true := by simpa using hd
  change execClockLoss d s = _
  simp only [execClockLoss, live_run s hheld, hmon, State.onIf_true]

theorem exec_clockReturn {d : Dom} (hd : s.bdg.clkBad.testBit (domBit d) = true) : exec (.clockReturn d) s =
    .next (faultNShow (lockPut (s.modBdg (fun b => { b with clkBad := b.clkBad - 2 ^ domBit d })) d
      (d != .ckt || s.get TLS_STAT_lane_up != 0))) := by
  change execClockReturn d s = _
  simp only [execClockReturn, live_run s hheld, hd, State.onIf_true, State.modBdg_get]

theorem exec_xinLoss : exec .xinLoss s =
    .next (((s.put CLK_STATUS_xin_ok 0).modBdg (fun b => { b with clkBad := b.clkBad ||| 128 })).raise 7 0) := by
  change execXinLoss s = _
  simp only [execXinLoss, live_run s hheld]

theorem exec_ckwSwitch : exec .ckwSwitch s = .next ((s.put CLK_STATUS_ckw_src 1).logEv 0x0102) := by
  change execCkwSwitch s = _
  simp only [execCkwSwitch, live_run s hheld]

theorem exec_supplyFault {r : Rail} : exec (.supplyFault r) s =
    .next (((s.modBdg (fun b => { b with railBad := b.railBad ||| 2 ^ railBit r })).logEv 0x4806 [railBit r]).raise
      (9 + railBit r) (railBit r)) := by
  change execSupplyFault r s = _
  simp only [execSupplyFault, live_run s hheld]

theorem exec_supplyReturn {r : Rail} (hr : s.bdg.railBad.testBit (railBit r) = true) : exec (.supplyReturn r) s =
    .next (faultNShow (s.modBdg (fun b => { b with railBad := b.railBad - 2 ^ railBit r }))) := by
  change execSupplyReturn r s = _
  simp only [execSupplyReturn, live_run s hheld, hr, State.onIf_true]

end events

/-- A domain that is back has its lock, CKT only while a lane is up. -/
theorem lock_back (d : Dom) (n : Nat) : (if (d != .ckt || n != 0) = true then 1 else 0) = if d = .ckt ∧ n = 0 then 0 else 1 := by
  by_cases hd : d = .ckt <;> by_cases hn : n = 0 <;> simp [hd, hn]

/-- Settles O1. -/
theorem clocksAndRails : Obligations.ClocksAndRails := by
  rintro s ⟨hheld, hwf⟩
  refine ⟨fun d hd => ⟨_, exec_clockLoss hheld hd, ?_⟩, fun d hd => ⟨_, exec_clockReturn hheld hd, ?_⟩,
    ⟨_, exec_xinLoss hheld, ?_⟩, ⟨_, exec_ckwSwitch hheld, ?_⟩, fun r => ⟨_, exec_supplyFault hheld, ?_⟩,
    fun r hr => ⟨_, exec_supplyReturn hheld hr, ?_⟩⟩
  · have hwf' : (s.modBdg (fun b => { b with clkBad := b.clkBad ||| 2 ^ domBit d })).wf = true := hwf
    simp [lockPut_bdg, lockPut_inflight, lockBit_raise, lockBit_lockPut hwf', lockBit_modBdg]
  · have hwf' : (s.modBdg (fun b => { b with clkBad := b.clkBad - 2 ^ domBit d })).wf = true := hwf
    rw [faultNShow_lockBit (lockPut_wf hwf'), lockBit_lockPut hwf', lockBit_modBdg, lock_back, faultNShow_bdg, faultNShow_inflight,
      lockPut_bdg, lockPut_inflight]
    exact ⟨rfl, rfl, rfl⟩
  · simp [hwf]
  · refine ⟨?_, logged_of rfl⟩
    rw [logEv_get_of_untouched (State.put_wf hwf) (by decide +kernel), State.get_put_same hwf]
    rfl
  · exact ⟨by simp, by simp, show Logged s (State.logEv _ _ _) _ _ from logged_of rfl⟩
  · simp [faultNShow_bdg, faultNShow_inflight]

/-! ### The phase (R42) -/

/-- The phase moves by at most 128 ft, either way round the period of 1,280 ft, or it slips. -/
theorem slip_iff (d : Nat) (h : d < 1280) : 128 < min d (1280 - d) ↔ 128 < d ∧ d < 1152 := by omega

theorem exec_phaseMeasure {s : State} {ft : Nat} (hheld : s.dev.held = false) (hft : ft < 1280) : exec (.phaseMeasure ft) s =
    .next (if 128 < (ft + 1280 - s.get CLK_CKA_PHASE_phase) % 1280 ∧ (ft + 1280 - s.get CLK_CKA_PHASE_phase) % 1280 < 1152 then
      ((s.put CLK_CKA_PHASE_phase ft).put CLK_STATUS_phase_slip 1).logEv 0x0101 else s) := by
  have hlt := Nat.mod_lt (ft + 1280 - s.get CLK_CKA_PHASE_phase) (show 1280 > 0 by decide)
  change execPhaseMeasure ft s = _
  simp only [execPhaseMeasure, live_run s hheld, Nat.mod_eq_of_lt hft, State.onIf, slip_iff _ hlt, decide_eq_true_eq]

/-- Settles O2. -/
theorem phaseMeasurement : Obligations.PhaseMeasurement := by
  rintro s ft ⟨hheld, hwf⟩ hft - old slip
  refine ⟨_, exec_phaseMeasure hheld hft, fun h => ?_, fun h => if_neg h⟩
  rw [if_pos h]
  have hwf' : (s.put CLK_CKA_PHASE_phase ft).wf = true := State.put_wf hwf
  refine ⟨?_, ?_, logged_of rfl⟩
  · rw [logEv_get_of_untouched (State.put_wf hwf') (by decide +kernel), State.get_put_ne hwf' (by decide), State.get_put_same hwf]
    exact Nat.mod_eq_of_lt (by simp [CLK_CKA_PHASE_phase]; omega)
  · rw [logEv_get_of_untouched (State.put_wf hwf') (by decide +kernel), State.get_put_same hwf']
    rfl

end Sys2Proof.Proofs
end

section
/-! PROOF. The frames of the clock, memory, converter and position commands (O55). The mask of most meanings (Laws/MovesCmd.lean)
lies within the fields and parts listed for them; a command that is a register access reaches what its own register reaches. -/

namespace Sys2Proof.Proofs

open Sys2Proof Sys2Proof.Machine Sys2Proof.Safety

/-! ### The read of TS -/

/-- Without a replay, a read of `CLK_TS_LO` answers, captures the high half, and may be recorded (R43, R446). -/
theorem tsLoRead_reaches {s : State} {a : Access} (hn : s.owl.replay = none) :
    Ends (maskOf (evFlds ++ [SYS_BUSERR_ADDR_addr]) (evParts ++ [Part.free, Part.ports])) s (exec (.tsLoRead a) s) := by
  have hraw : Moves (maskOf (evFlds ++ [SYS_BUSERR_ADDR_addr]) (evParts ++ [Part.free, Part.ports])) s
      (busReadRaw s a (CLK_TS_LO_ts.at 0 0) 4) := by
    have haddr : aperture (CLK_TS_LO_ts.at 0 0) = some (false, CLK_TS_LO_ts.at 0 0) := rfl
    have hok : ¬ ((4 : Nat) ≠ 4 ∨ CLK_TS_LO_ts.at 0 0 % 4 ≠ 0 ∨ !(assigned.contains (blockOf (CLK_TS_LO_ts.at 0 0)))) := by decide
    simp only [busReadRaw, haddr, hok, if_false, Bool.false_and, Bool.false_eq_true]
    refine Moves.ite (fun _ => busErr_moves ⟨by decide +kernel⟩ .refl) fun _ => ?_
    refine State.answer_moves ⟨by decide +kernel⟩ ?_
    have hread : (regRead s a (CLK_TS_LO_ts.at 0 0)).2 =
        s.modPort a.ini (fun p => { p with hi := sput 0 p.hi (CLK_TS_LO_ts.at 0 0 + 4) (s.now / 2 ^ 32 % 2 ^ 32 + 1) }) := rfl
    rw [hread]
    exact State.modPort_moves ⟨by decide +kernel⟩ .refl
  refine Ends.next (Moves.ite (fun _ => .refl) fun _ => ?_)
  show Moves _ s (busRead s a (CLK_TS_LO_ts.at 0 0) 4)
  rcases busRead_of_no_replay (a := a) (addr := CLK_TS_LO_ts.at 0 0) (size := 4) hn with h | ⟨b, k, l, h⟩
  · rw [h]
    exact hraw
  · rw [h]
    exact State.onIf_moves hraw fun _ ht => State.freeNext_moves ⟨by decide +kernel⟩ (State.owlRec_moves ⟨by decide +kernel⟩ ht)

/-! ### Writes of registers -/

section writes
variable {s : State} {a : Access} {v : Nat}

theorem postWrite_SYS_PROFILE {u t : State} {w : Wr} (h : w.reg.addr = SYS_PROFILE_request.addr) : postWrite u a w t =
    if (profRequest t (w.bits SYS_PROFILE_request)).1 = 3 then t.logEv 0x0002 [w.bits SYS_PROFILE_request, t.get SYS_PROFILE_active]
    else (profRequest t (w.bits SYS_PROFILE_request)).2 := by
  simp [postWrite, postSys, blockOf, Wr.is, h, SYS_PROFILE_request]

/-- PROFILE_REQUEST_WRITE reaches the request and the profile to come (R30). -/
theorem profileRequestWrite_reaches : Ends (maskOf (evFlds ++ [SYS_BUSERR_ADDR_addr, SYS_PROFILE_pending, SYS_PROFILE_request,
    CHn_BUDGET_lat_full, CHn_BUDGET_budget]) (evParts ++ [Part.ports, Part.pwr])) s (exec (.profileRequestWrite a v) s) :=
  wrFld_reaches regOf_SYS_PROFILE rfl (by decide +kernel) fun _ _ ht => by
    rw [postWrite_SYS_PROFILE rfl]
    exact Moves.ite (fun _ => State.logEv_moves ⟨by decide +kernel⟩ ht) fun _ => profRequest_moves ⟨by decide +kernel⟩ ht

theorem postWrite_SEQn_SWTRIG {u t : State} {w : Wr} (h : w.reg.addr = SEQn_SWTRIG_go.addr) : postWrite u a w t =
    t.onIf (w.bits SEQn_SWTRIG_go == 1 && t.get SEQn_TRIG_src w.i == 1) (fun s => seqTrigger s (sqOf w.i) ⟨s.now, s.now, false⟩) := by
  simp [postWrite, postSeq, blockOf, Wr.is, h, SEQn_SWTRIG_go, SEQn_CTL_en]

/-- SEQ_SWTRIG reaches its sequencer and the converters (R86). -/
theorem seqSwtrig_reaches {q : Sq} : Ends (maskOf (evFlds ++ [SYS_BUSERR_ADDR_addr, SEQn_SWTRIG_go, CVc_STAT_cur_input, CVc_STAT_state,
    CVc_CAL_bg_busy, CVc_CAL_ok, CVc_CAL_bg_slice, CVc_TRIM_gain, CVc_TRIM_offset, SEQn_OVR_count, SEQn_STAT_queued, SEQn_STAT_running,
    SEQn_TRIG_TS_LO_ts, SEQn_TRIG_TS_HI_ts, CHn_BUDGET_lat_full, CHn_BUDGET_budget]) (evParts ++ [Part.ports, Part.inflight, Part.cvb]))
    s (exec (.seqSwtrig a q) s) :=
  wrFld_reaches (f := SEQn_SWTRIG_go) (regOf_SEQn_SWTRIG q) (by fin_cases q <;> rfl) (by decide +kernel) fun _ _ ht => by
    rw [postWrite_SEQn_SWTRIG rfl]
    exact State.onIf_moves ht fun _ hu => seqTrigger_moves ⟨by decide +kernel⟩ hu

theorem postWrite_SEQn_CTL {u t : State} {w : Wr} (h : w.reg.addr = SEQn_CTL_en.addr) : postWrite u a w t =
    if t.getB SEQn_CTL_en (sqOf w.i).val && !u.getB SEQn_CTL_en (sqOf w.i).val then t.modSeq (sqOf w.i) (fun x => { x with enTs := t.now })
    else if u.getB SEQn_CTL_en (sqOf w.i).val && !t.getB SEQn_CTL_en (sqOf w.i).val then
      (t.modSeq (sqOf w.i) (fun x => { x with stored := none, armed := [] })).put SEQn_STAT_queued 0 (sqOf w.i).val
    else t := by
  simp [postWrite, postSeq, blockOf, Wr.is, h, SEQn_CTL_en]

/-- SEQ_DISABLE reaches its sequencer (R91). -/
theorem seqDisable_reaches {q : Sq} : Ends (maskOf (evFlds ++ [SYS_BUSERR_ADDR_addr, SEQn_CTL_nsteps, SEQn_CTL_policy, SEQn_CTL_en,
    CHn_BUDGET_lat_full, CHn_BUDGET_budget, SEQn_STAT_queued]) (evParts ++ [Part.ports, Part.cvb])) s (exec (.seqDisable a q v) s) :=
  wrFld_reaches (f := SEQn_CTL_en) (regOf_SEQn_CTL q) (by fin_cases q <;> rfl) (by decide +kernel) fun _ _ ht => by
    rw [postWrite_SEQn_CTL rfl]
    refine Moves.ite (fun _ => State.modSeq_moves ⟨by decide +kernel⟩ ht) fun _ => Moves.ite (fun _ => ?_) fun _ => ht
    exact State.put_moves (.inr (by decide +kernel)) (State.modSeq_moves ⟨by decide +kernel⟩ ht)

theorem postWrite_CVc_INJk {u t : State} {w : Wr} (h : w.reg.addr = CVc_INJk_start.addr) : postWrite u a w t =
    t.onIf (w.bits CVc_INJk_start == 1) (fun s => injRequest s (cvOf w.i) ⟨w.j % 4, Nat.mod_lt _ (by omega)⟩) := by
  simp [postWrite, postCvb, blockOf, Wr.is, h, CVc_INJk_start, CVc_CFG_pwr, CVc_CAL_full]

/-- INJECTION_START reaches its slot and the converters (R94 to R96). -/
theorem injectionStart_reaches {c : Cv} {k : Fin 4} : Ends (maskOf (evFlds ++ [SYS_BUSERR_ADDR_addr, CVc_INJk_start, CVc_INJk_urgent,
    CVc_INJk_shift, CVc_INJk_log2n, CVc_INJk_input, CVc_STAT_cur_input, CVc_STAT_state, CVc_CAL_full_busy, CVc_CAL_bg_busy, CVc_CAL_ok,
    CVc_CAL_bg_slice, CVc_TRIM_gain, CVc_TRIM_offset, CHn_BUDGET_lat_full, CHn_BUDGET_budget]) (evParts ++ [Part.ports, Part.inflight,
    Part.cvb])) s (exec (.injectionStart a c k v) s) :=
  wrFld_reaches (f := CVc_INJk_start) (regOf_CVc_INJk c k) (by fin_cases c <;> fin_cases k <;> rfl) (by decide +kernel) fun _ _ ht => by
    rw [postWrite_CVc_INJk rfl]
    exact State.onIf_moves ht fun _ hu => injRequest_moves ⟨by decide +kernel⟩ hu

theorem postWrite_CVc_CAL {u t : State} {w : Wr} (h : w.reg.addr = CVc_CAL_full.addr) : postWrite u a w t =
    t.onIf (w.bits CVc_CAL_full == 1) (fun s => calAsk s (cvOf w.i)) := by
  simp [postWrite, postCvb, blockOf, Wr.is, h, CVc_CFG_pwr, CVc_CAL_full]

/-- CAL_FULL_REQUEST reaches its converter (R97, R102). -/
theorem calFullRequest_reaches {c : Cv} : Ends (maskOf (evFlds ++ [SYS_BUSERR_ADDR_addr, CVc_STAT_state, CVc_CAL_full, CHn_BUDGET_lat_full,
    CHn_BUDGET_budget]) (evParts ++ [Part.ports, Part.cvb])) s (exec (.calFullRequest a c) s) :=
  wrFld_reaches (f := CVc_CAL_full) (regOf_CVc_CAL c) (by fin_cases c <;> rfl) (by decide +kernel) fun _ _ ht => by
    rw [postWrite_CVc_CAL rfl]
    exact State.onIf_moves ht fun _ hu => calAsk_moves ⟨by decide +kernel⟩ hu

theorem postWrite_PIFn_CTL {u t : State} {w : Wr} (h : w.reg.addr = PIFn_CTL_en.addr) : postWrite u a w t =
    (t.onIf (t.getB PIFn_CTL_en w.ch.val && !u.getB PIFn_CTL_en w.ch.val) (fun s =>
      (s.put PIFn_STAT_active 1 w.ch.val).modPif w.ch (fun p => { p with enTs := s.now }))).onIf
      (w.bits PIFn_CTL_src_restore == 1) (fun s => srcRestore s w.ch) := by
  simp [postWrite, postPif, blockOf, Wr.is, h, PIFn_CTL_en]

/-- SRC_RESTORE reaches its position interface (R153). -/
theorem srcRestore_reaches {n : Ch} : Ends (maskOf (evFlds ++ [SYS_BUSERR_ADDR_addr, PIFn_CTL_dir_inv, PIFn_CTL_trig_sel,
    PIFn_CTL_src_restore, PIFn_CTL_fb_en, PIFn_CTL_z_corr, PIFn_CTL_z_en, PIFn_CTL_sec_src, PIFn_CTL_pri_src, PIFn_CTL_en,
    PIFn_STAT_active]) (evParts ++ [Part.ports, Part.pos])) s (exec (.srcRestore a n v) s) :=
  wrFld_reaches (f := PIFn_CTL_en) (regOf_PIFn_CTL n) (by fin_cases n <;> rfl) (by decide +kernel) fun _ _ ht => by
    rw [postWrite_PIFn_CTL rfl]
    refine State.onIf_moves (State.onIf_moves ht fun _ hu => ?_) fun _ hu => srcRestore_moves ⟨by decide +kernel⟩ hu
    exact State.modPif_moves ⟨by decide +kernel⟩ (State.put_moves (.inr (by decide +kernel)) hu)

end writes

/-! ### A write of a spindle's register, which Owl records (R450) -/

section spindle
variable {m : Nat} {s : State} {a : Access} {r : Reg} {i j addr v : Nat}

/-- What becomes of a register write: an event, or what the fields store and the block does after it, with an event. -/
theorem writeReg_reaches_of {w : Wr} (hf : holdsFlds m w.reg = true) (hb : Sub busMask m) (hs : Sub (shownMask w.reg) m) {b : State}
    (h : Moves m b s) (hp : ∀ u t, Moves m b t → Moves m b (postWrite u a (heldWr s w) t)) : Moves m b (writeReg s a w addr) := by
  have hev : ∀ t c l, Moves m b t → Moves m b (t.logEv c l) := fun t c l ht => State.logEv_moves (hb.up (by decide +kernel)) ht
  have hlock : ∀ c, Moves m b (s.onIf c (fun s => s.logEv 0x0014 [addr])) := fun c => State.onIf_moves h fun t ht => hev t _ _ ht
  have hstore : ∀ c keep, Moves m b (applyWr (s.onIf c (fun s => s.logEv 0x0014 [addr])) (heldWr s w) keep) := fun c _ =>
    applyWr_reaches (w := heldWr s w) hf (hlock c)
  simp only [writeReg, ← heldWr.eq_1]
  split
  · exact hlock _
  · exact hev _ _ _ (hlock _)
  · exact showAfter_reaches hs (hp _ _ (hlock _))
  · refine showAfter_reaches hs ?_
    split
    · exact hev _ _ _ (hp _ _ (Moves.ite (fun _ => hstore _ _) fun _ => hstore _ _))
    · exact hp _ _ (Moves.ite (fun _ => hstore _ _) fun _ => hstore _ _)

/-- A write of a spindle's register through the privileged aperture. -/
theorem busWrite_reaches_spindle (hr : regOf addr = some (r, i, j)) (hb : busAddr addr = true) (hf : holdsFlds m r = true)
    (hbus : Sub busMask m) (hs : Sub (shownMask r) m)
    (hp : ∀ u t w, w.reg = r → Moves m s t → Moves m s (postWrite u a w t)) : Moves m s (busWrite s a addr 4 v) := by
  have hans : ∀ x t, Moves m s t → Moves m s (t.answer a.ini x) := fun x t ht => State.answer_moves (hbus.up (by decide +kernel)) ht
  have hrec : ∀ c p, Moves m s (s.onIf c (fun s => s.owlRec 0x05 (chOf i).val p)) := fun c p =>
    State.onIf_moves .refl fun _ ht => State.owlRec_moves (hbus.up (by decide +kernel)) ht
  have hwrite : ∃ t, regWrite s a false addr v = (.ok, t) ∧ Moves m s t := by
    simp only [regWrite, hr, Bool.false_and, Bool.false_eq_true, if_false]
    split
    · exact ⟨_, rfl, .refl⟩
    · exact ⟨_, rfl, writeReg_reaches_of hf hbus hs (hrec _ _) fun u t ht => hp u t _ rfl ht⟩
  obtain ⟨t, hwrite, ht⟩ := hwrite
  simp only [busWrite, aperture_of_busAddr hb, Bool.false_and, Bool.false_eq_true, if_false, Bool.not_false, Bool.true_and,
    aligned_of_busAddr hb, hwrite]
  exact Moves.ite (fun _ => .refl) fun _ => Moves.ite (fun _ => hans _ _ .refl) fun _ =>
    Moves.ite (fun _ => busErr_moves (hbus.up (by decide +kernel)) .refl) fun _ => hans _ _ ht

theorem postWrite_SPn_SAT {u t : State} {w : Wr} (h : w.reg.addr = SPn_SAT_transform.addr) : postWrite u a w t =
    t.onIf (!([SPn_SAT_transform, SPn_SAT_predict, SPn_SAT_correct, SPn_SAT_control, SPn_SAT_limit, SPn_SAT_modulate].any
        (fun f => t.getB f w.ch.val)))
      (fun s => (s.put SPn_SAT_first_period 0 w.ch.val).put SPn_SAT_first_stage 0 w.ch.val) := by
  simp [postWrite, postSp, blockOf, Wr.is, h, SPn_SAT_transform]

/-- SAT_CLEAR reaches its spindle's saturation record (R52). -/
theorem satClear_reaches {n : Ch} : Ends (maskOf (evFlds ++ [SYS_BUSERR_ADDR_addr, SPn_SAT_modulate, SPn_SAT_limit, SPn_SAT_control,
    SPn_SAT_correct, SPn_SAT_predict, SPn_SAT_transform, CHn_BUDGET_lat_full, CHn_BUDGET_budget, SPn_SAT_first_period,
    SPn_SAT_first_stage]) (evParts ++ [Part.ports])) s (exec (.satClear a n v) s) :=
  Ends.next (Moves.ite (fun _ => .refl) fun _ => busWrite_reaches_spindle (regOf_SPn_SAT n) (by fin_cases n <;> rfl) (by decide +kernel)
    ⟨by decide +kernel⟩ ⟨by decide +kernel⟩ fun u t w hw ht => by
      rw [postWrite_SPn_SAT (by rw [hw]; rfl)]
      exact State.onIf_moves ht fun _ hu =>
        State.put_moves (.inr (by decide +kernel)) (State.put_moves (.inr (by decide +kernel)) hu))

end spindle

/-! ### The frames -/

/-- Settles O55. -/
theorem framesTimeConvertersAndPosition : Obligations.FramesTimeConvertersAndPosition :=
  fun s t hs =>
    ⟨fun _ => frame hs (execTsLoRead_moves ⟨by decide +kernel⟩ .refl),
      fun _ hn => frame hs (tsLoRead_reaches hn),
      fun _ _ _ => frame hs satClear_reaches,
      fun _ => frame hs (execReload_moves ⟨by decide +kernel⟩ .refl),
      fun _ => frame hs (execCommitArrival_moves ⟨by decide +kernel⟩ .refl),
      fun _ => frame hs (execCommitDeadline_moves ⟨by decide +kernel⟩ .refl),
      fun _ _ => frame hs profileRequestWrite_reaches,
      fun _ => frame hs (execClockLoss_moves ⟨by decide +kernel⟩ .refl),
      frame hs (execXinLoss_moves ⟨by decide +kernel⟩ .refl),
      frame hs (execCkwSwitch_moves ⟨by decide +kernel⟩ .refl),
      fun _ => frame hs (execPhaseMeasure_moves ⟨by decide +kernel⟩ .refl),
      fun _ _ _ _ _ => frame hs (execSlotWrite_moves ⟨by decide +kernel⟩ .refl),
      fun _ _ _ _ => frame hs (execSlotRead_moves ⟨by decide +kernel⟩ .refl),
      fun _ => frame hs (execScrubRead_moves ⟨by decide +kernel⟩ .refl),
      fun _ _ => frame hs (execEccWriteback_moves ⟨by decide +kernel⟩ .refl),
      frame hs (execScrubLate_moves ⟨by decide +kernel⟩ .refl),
      fun _ _ _ => frame hs (execWindowResult_moves ⟨by decide +kernel⟩ .refl),
      fun _ _ => frame hs seqSwtrig_reaches,
      fun _ => frame hs (execSeqRunEnd_moves ⟨by decide +kernel⟩ .refl),
      fun _ _ _ => frame hs seqDisable_reaches,
      fun _ => frame hs (execTriggerTimerExpiry_moves ⟨by decide +kernel⟩ .refl),
      fun _ _ => frame hs (execAdcTrigEdge_moves ⟨by decide +kernel⟩ .refl),
      fun _ _ _ _ => frame hs injectionStart_reaches,
      fun _ _ _ => frame hs (execInjectionDone_moves ⟨by decide +kernel⟩ .refl),
      fun _ _ => frame hs calFullRequest_reaches,
      fun _ => frame hs (execCalFullStart_moves ⟨by decide +kernel⟩ .refl),
      fun _ _ _ => frame hs (execCalEnd_moves ⟨by decide +kernel⟩ .refl),
      fun _ _ _ => frame hs (execBgcalSlice_moves ⟨by decide +kernel⟩ .refl),
      fun _ => frame hs (execBgcalStarved_moves ⟨by decide +kernel⟩ .refl),
      fun _ => frame hs (execCvPowerDown_moves ⟨by decide +kernel⟩ .refl),
      fun _ => frame hs (execCvShutdownDone_moves ⟨by decide +kernel⟩ .refl),
      fun _ => frame hs (execCvStartupDone_moves ⟨by decide +kernel⟩ .refl),
      fun _ => frame hs (execRefReady_moves ⟨by decide +kernel⟩ .refl),
      fun _ => frame hs (execIdleScanVisit_moves ⟨by decide +kernel⟩ .refl),
      fun _ _ => frame hs (execCmpAssert_moves ⟨by decide +kernel⟩ .refl),
      fun _ _ => frame hs (execCmpDeassert_moves ⟨by decide +kernel⟩ .refl),
      frame hs (execOwPeriodic_moves ⟨by decide +kernel⟩ .refl),
      fun _ => frame hs (execOwDwellEnd_moves ⟨by decide +kernel⟩ .refl),
      fun _ _ _ => frame hs (execOwTestDone_moves ⟨by decide +kernel⟩ .refl),
      fun _ _ _ _ _ _ _ => frame hs (execEncEdge_moves ⟨by decide +kernel⟩ .refl),
      fun _ _ => frame hs (execDelayedEdge_moves ⟨by decide +kernel⟩ .refl),
      fun _ => frame hs (execNoisyInterval_moves ⟨by decide +kernel⟩ .refl),
      fun _ _ => frame hs (execWireFault_moves ⟨by decide +kernel⟩ .refl),
      fun _ => frame hs (execIndex_moves ⟨by decide +kernel⟩ .refl),
      fun _ => frame hs (execZMissing_moves ⟨by decide +kernel⟩ .refl),
      fun _ _ _ _ => frame hs (execHallEdge_moves ⟨by decide +kernel⟩ .refl),
      fun _ => frame hs (execHallInvalid_moves ⟨by decide +kernel⟩ .refl),
      fun _ _ _ _ => frame hs (execRsvSample_moves ⟨by decide +kernel⟩ .refl),
      fun _ _ => frame hs (execSerFrameStart_moves ⟨by decide +kernel⟩ .refl),
      fun _ _ _ => frame hs (execSerFrameEnd_moves ⟨by decide +kernel⟩ .refl),
      fun _ => frame hs (execSerTimeout_moves ⟨by decide +kernel⟩ .refl),
      fun _ => frame hs (execSpdTimeout_moves ⟨by decide +kernel⟩ .refl),
      fun _ => frame hs (execPeriodLatch_moves ⟨by decide +kernel⟩ .refl),
      fun _ _ _ => frame hs srcRestore_reaches,
      fun _ _ => frame hs (execPosHome_moves ⟨by decide +kernel⟩ .refl),
      fun _ _ => frame hs (execPosSet_moves ⟨by decide +kernel⟩ .refl)⟩

end Sys2Proof.Proofs
end

section
/-! PROOF. Reading an engine's entry after a change of one: its own, or another's. -/

namespace Sys2Proof.Proofs

open Sys2Proof Sys2Proof.Machine Sys2Proof.Safety

theorem vupd_same {α : Type} {n : Nat} (v : Vector α n) (i : Fin n) (f : α → α) : (vupd v i f)[i] = f v[i] := by
  simp [vupd]

theorem vupd_ne {α : Type} {n : Nat} (v : Vector α n) {i j : Fin n} (f : α → α) (h : j ≠ i) : (vupd v i f)[j] = v[j] := by
  have hval : i.val ≠ j.val := fun e => h (Fin.ext e.symm)
  simp [vupd, hval]

@[simp] theorem modPort_port (s : State) (i : Init) (f : BusPort → BusPort) : (s.modPort i f).port i = f (s.port i) := vupd_same _ _ _

theorem portIdx_inj {i j : Init} (h : portIdx i = portIdx j) : i = j := by
  cases i <;> cases j <;> first | rfl | cases h

theorem modPort_port_ne (s : State) {i j : Init} (f : BusPort → BusPort) (h : j ≠ i) : (s.modPort i f).port j = s.port j :=
  vupd_ne _ _ fun e => h (portIdx_inj e)

theorem answer_port_ne (s : State) {i j : Init} (x : Reply) (h : j ≠ i) : (s.answer i x).port j = s.port j := modPort_port_ne s _ h

theorem answer_hi (s : State) (i : Init) (x : Reply) : ((s.answer i x).port i).hi = (s.port i).hi := by simp [State.answer]

@[simp] theorem modCarr_carrier (s : State) (r : Carr) (f : Carrier → Carrier) : (s.modCarr r f).carrier r = f (s.carrier r) :=
  vupd_same _ _ _

@[simp] theorem modSp_sp (s : State) (n : Ch) (f : SpSt → SpSt) : (s.modSp n f).sp n = f (s.sp n) := vupd_same _ _ _

theorem chan_eq (s : State) (n : Ch) : s.chan n.val = s.chans[n] := by simp [State.chan]

@[simp] theorem modChan_chan (s : State) (n : Ch) (f : Chan → Chan) : (s.modChan n f).chan n.val = f (s.chan n.val) := by
  rw [chan_eq, chan_eq]
  exact vupd_same _ _ _

end Sys2Proof.Proofs
end

section
/-! PROOF. The time stamp and its two halves (O42). -/

namespace Sys2Proof.Proofs

open Sys2Proof Sys2Proof.Machine Sys2Proof.Safety

/-- The register of the high half of TS. -/
def tsHiReg : Reg := ⟨"CLK_TS_HI", 0x40010014, 1, 0x0, 1, 0, [CLK_TS_HI_ts]⟩

theorem regOf_CLK_TS_HI : regOf (CLK_TS_HI_ts.at 0 0) = some (tsHiReg, 0, 0) := rfl

section reads
variable {s : State} {a : Access}

/-- Without a replay, the ports after a bus read are those that the read itself leaves: a record adds nothing to them. -/
theorem busRead_ports {addr size : Nat} (hn : s.owl.replay = none) : (busRead s a addr size).ports = (busReadRaw s a addr size).ports := by
  rcases busRead_of_no_replay (a := a) (addr := addr) (size := size) hn with h | ⟨b, k, l, h⟩
  · rw [h]
  · rw [h]
    exact (State.onIf_moves .refl fun _ ht => State.freeNext_moves (m := maskOf evFlds (.free :: evParts)) ⟨by decide +kernel⟩
      (State.owlRec_moves ⟨by decide +kernel⟩ ht)).part (p := .ports) (by decide +kernel)

/-- A read of the low half answers TS[31:0] and captures TS[63:32] for its initiator, one more than the value so that 0 stands for
none (R43). -/
theorem busReadRaw_tsLo (hp : a.priv = true) : busReadRaw s a (CLK_TS_LO_ts.at 0 0) 4 =
    (s.modPort a.ini (fun p => { p with hi := sput 0 p.hi (CLK_TS_HI_ts.at 0 0) (s.now / 2 ^ 32 % 2 ^ 32 + 1) })).answer a.ini
      (.data (s.now % 2 ^ 32)) :=
  busReadRaw_reg hp rfl

/-- A read of the high half answers what its initiator captured, or the present value (R43). -/
theorem regRead_tsHi : regRead s a (CLK_TS_HI_ts.at 0 0) = (if sget 0 (s.port a.ini).hi (CLK_TS_HI_ts.at 0 0) ≠ 0 then
    (sget 0 (s.port a.ini).hi (CLK_TS_HI_ts.at 0 0) - 1, s) else (s.now / 2 ^ 32 % 2 ^ 32, s)) := by
  have hclaim : ¬ (tsHiReg.addr = PLIC_CLAIM_src.addr ∧ a.dbg = false) := fun h => absurd h.1 (by decide)
  have hlow : lowHalves.contains tsHiReg.addr = false := by decide
  have hhigh : lowHalves.contains (tsHiReg.addr - 4) = true := by decide
  have hword : regWord s tsHiReg 0 0 = s.now / 2 ^ 32 % 2 ^ 32 := rfl
  have hclear : rcClear s tsHiReg 0 0 = s := rfl
  have haddr : tsHiReg.addr ≠ 0 := by decide
  simp only [regRead, regOf_CLK_TS_HI, hclaim, if_false, hlow, Bool.false_eq_true, hhigh, hword, hclear, haddr, ne_eq, not_false_iff,
    true_and, ite_self]

theorem busRead_tsHi_reply (hp : a.priv = true) (hn : s.owl.replay = none) :
    ((busRead s a (CLK_TS_HI_ts.at 0 0) 4).port a.ini).reply = .data (regRead s a (CLK_TS_HI_ts.at 0 0)).1 := by
  rw [State.port, busRead_ports hn, ← State.port, busReadRaw_reg hp rfl, State.answer_port]

end reads

section writes
variable {s : State} {a : Access} {v addr : Nat} {r : Reg} {i j : Nat}

/-- Nothing is stored by a write of a register all of whose fields are read-only, in a block where nothing follows a write. -/
theorem busWrite_readOnly (hadm : Admits s a) (hb : busAddr addr = true) (hr : regOf addr = some (r, i, j)) (hblk : blockOf r.addr = 0x01)
    (hro : r.flds.all (fun f => !stored f) = true) : busWrite s a addr 4 v = s.answer a.ini .none := by
  obtain ⟨-, hp, hlock, hc⟩ := hadm
  have hquiet : blockOf r.addr ∈ quietBlocks := by simp [hblk, quietBlocks]
  have hstore : applyWr s ⟨r, i, j, v % 2 ^ 32⟩ [] = s := by
    have hall : ∀ l : List Fld, l.all (fun f => !stored f) = true →
        l.foldl (fun s f => fieldWrite s ⟨r, i, j, v % 2 ^ 32⟩ f) s = s := by
      intro l
      induction l with
      | nil => intro _; rfl
      | cons f l ih =>
        intro h
        simp only [List.all_cons, Bool.and_eq_true, Bool.not_eq_true'] at h
        rw [List.foldl_cons, fieldWrite_of_not_stored h.1]
        exact ih h.2
    simpa [applyWr, State.forL] using hall r.flds hro
  rw [busWrite_reg hc hp hb hr (by rw [hblk]; rfl), writeReg_open hlock]
  simp only [preWrite, hblk, vPass, List.isEmpty_nil, if_true, hstore]
  rw [postWrite_quiet (w := ⟨r, i, j, v % 2 ^ 32⟩) hquiet]
  rfl

end writes

/-- Settles O42. -/
theorem timestampRead : Obligations.TimestampRead := by
  rintro s a x v ⟨hheld, hwf⟩ hp hn hcanon hi
  refine ⟨⟨rfl, rfl, rfl⟩, ⟨_, live_run (f := fun s => busRead s a (CLK_TS_LO_ts.at 0 0) 4) s hheld, ?_⟩,
    fun hx => ⟨_, live_run (f := fun s => busRead s a (CLK_TS_HI_ts.at 0 0) 4) s hheld, ?_⟩,
    fun hx => ⟨_, live_run (f := fun s => busRead s a (CLK_TS_HI_ts.at 0 0) 4) s hheld, ?_⟩,
    fun hadm => ⟨_, live_run (f := fun s => busWrite s a (CLK_TS_LO_ts.at 0 0) 4 v) s hheld, ?_⟩,
    fun hadm => ⟨_, live_run (f := fun s => busWrite s a (CLK_TS_HI_ts.at 0 0) 4 v) s hheld, ?_⟩⟩
  · have hports : ∀ j, (busRead s a (CLK_TS_LO_ts.at 0 0) 4).port j = (busReadRaw s a (CLK_TS_LO_ts.at 0 0) 4).port j := fun j => by
      rw [State.port, busRead_ports hn, ← State.port]
    refine ⟨?_, ?_, fun j _ hj => ?_⟩
    · rw [hports, busReadRaw_tsLo hp, State.answer_port]
    · simp only [hi]
      rw [hports, busReadRaw_tsLo hp, answer_hi, modPort_port]
      exact sget_sput_same hcanon
    · rw [hports, busReadRaw_tsLo hp, answer_port_ne _ _ hj, modPort_port_ne _ _ hj]
  · simp only [hi] at hx
    rw [busRead_tsHi_reply hp hn, regRead_tsHi, if_pos (by omega), hx, Nat.add_sub_cancel]
  · simp only [hi] at hx
    rw [busRead_tsHi_reply hp hn, regRead_tsHi, if_neg (by omega)]
  · rw [busWrite_readOnly hadm rfl regOf_CLK_TS_LO rfl rfl]
    exact ⟨rfl, answer_hi _ _ _⟩
  · rw [busWrite_readOnly hadm rfl regOf_CLK_TS_HI rfl rfl]
    exact ⟨rfl, answer_hi _ _ _⟩

end Sys2Proof.Proofs
end

section
/-! PROOF. What a completion keeps of Faceplate's records, and the bytes that it stores. -/

namespace Sys2Proof.Proofs

open Sys2Proof Sys2Proof.Machine Sys2Proof.Safety

section completion
variable {s : State} {c : Ctx} {st : Nat} {res : List Nat} {more : Bool}

theorem putBytes_fpl {a : Nat} {l : List Nat} : (s.putBytes a l).fpl = s.fpl :=
  (State.putBytes_moves ⟨Nat.and_self _⟩ .refl).part (p := .fpl) (by decide +kernel)

theorem putBytes_log {a : Nat} {l : List Nat} : (s.putBytes a l).log = s.log :=
  (State.putBytes_moves ⟨Nat.and_self _⟩ .refl).part (p := .log) (by decide +kernel)

theorem modQp_fpl {q : Qp} {f : QpSt → QpSt} : (s.modQp q f).fpl = { s.fpl with qps := vupd s.fpl.qps q f } := rfl

theorem modQp_log {q : Qp} {f : QpSt → QpSt} : (s.modQp q f).log = s.log := rfl

theorem transmit_fpl {t d : Nat} {b : List Nat} : (transmit s t d b).fpl = s.fpl := by
  unfold transmit
  split <;> rfl

theorem transmit_log {t d : Nat} {b : List Nat} : (transmit s t d b).log = s.log := by
  unfold transmit
  split <;> rfl

theorem transmit_mem {t d : Nat} {b : List Nat} : (transmit s t d b).mem = s.mem := by
  unfold transmit
  split <;> rfl

/-- A completion's entry in its queue's ring (R378), with the queue's record and interrupt, before it leaves on a link. -/
def ringCompletion (s : State) (c : Ctx) (st : Nat) (res : List Nat) (more : Bool) : State :=
  ((((s.putBytes (cqAddr s c.q (s.get QPq_CQ_tail c.q.val)) (cplEntry s c st res more)).put QPq_CQ_tail
    (s.get QPq_CQ_tail c.q.val + 1) c.q.val).modQp c.q (fun x => { x with
      cpls := x.cpls + 1
      last := x.last.map (fun l => if l.seq = c.seq then { l with reply := some (cplEntry s c st res more) } else l) })).irq (64 + c.q.val))

/-- A completion is left out, dropped at a full ring, stored, or stored and sent. -/
theorem complete_cases : complete s c st res more = s ∨ complete s c st res more = (s.incSat FPL_STAT_cpl_drop).logEv 0x6004 [c.q.val] ∨
    complete s c st res more = ringCompletion s c st res more ∨
    ∃ t d b v, complete s c st res more = (transmit (ringCompletion s c st res more) t d b).put QPq_CQ_head v c.q.val := by
  simp only [complete]
  split_ifs
  · exact .inl rfl
  · exact .inl rfl
  · exact .inr (.inl rfl)
  · exact .inr (.inr (.inr ⟨_, _, _, _, rfl⟩))
  · exact .inr (.inr (.inl rfl))

/-- A completion counts in its queue's record and may keep its reply there; all else that Faceplate has stays, every session key too. -/
theorem complete_fpl : ∃ g : QpSt → QpSt, (∀ x, (g x).key = x.key) ∧
    (complete s c st res more).fpl = { s.fpl with qps := vupd s.fpl.qps c.q g } := by
  have hid : s.fpl = { s.fpl with qps := vupd s.fpl.qps c.q id } := by simp [vupd]
  have hring : ∃ g : QpSt → QpSt, (∀ x, (g x).key = x.key) ∧ (ringCompletion s c st res more).fpl = { s.fpl with qps := vupd s.fpl.qps c.q g } := by
    rw [ringCompletion, State.irq_fpl, modQp_fpl, State.put_fpl, putBytes_fpl]
    exact ⟨_, by exact fun _ => rfl, rfl⟩
  rcases complete_cases (s := s) (c := c) (st := st) (res := res) (more := more) with h | h | h | ⟨t, d, b, v, h⟩ <;> rw [h]
  · exact ⟨id, fun _ => rfl, hid⟩
  · exact ⟨id, fun _ => rfl, by simpa using hid⟩
  · exact hring
  · simpa only [State.put_fpl, transmit_fpl] using hring

theorem complete_reserves : (complete s c st res more).fpl.reserves = s.fpl.reserves := by
  obtain ⟨g, -, h⟩ := complete_fpl (s := s) (c := c) (st := st) (res := res) (more := more)
  rw [h]

theorem complete_key (q : Qp) : (complete s c st res more).fpl.qps[q].key = s.fpl.qps[q].key := by
  obtain ⟨g, hg, h⟩ := complete_fpl (s := s) (c := c) (st := st) (res := res) (more := more)
  rw [h]
  by_cases hq : q = c.q
  · subst hq
    rw [vupd_same, hg]
  · rw [vupd_ne _ _ hq]

theorem ringCompletion_log : (ringCompletion s c st res more).log = s.log := by
  rw [ringCompletion, State.irq_log, modQp_log, State.put_log, putBytes_log]

theorem complete_grows : Grows s (complete s c st res more) := by
  rcases complete_cases (s := s) (c := c) (st := st) (res := res) (more := more) with h | h | h | ⟨t, d, b, v, h⟩ <;> rw [h]
  · exact .refl s
  · exact (Grows.of_log (by simp)).trans (logEv_grows _ _ _)
  · exact .of_log ringCompletion_log
  · exact .of_log (by rw [State.put_log, transmit_log, ringCompletion_log])

/-- Steps that each keep the bytes keep them. -/
theorem forN_bytes {k : Nat} {f : Nat → State → State} (hf : ∀ i u, (f i u).mem.bytes = u.mem.bytes) : (s.forN k f).mem.bytes = s.mem.bytes := by
  induction k with
  | zero => rfl
  | succ k ih => rw [forN_succ, hf, ih]

/-- Bytes stored one by one, each where it may be, leave a byte at any other address. -/
theorem forL_putByte_byteAt {a x : Nat} {l : List (Nat × Nat)} {can : Nat × Nat → State → Bool} (h : s.wf = true)
    (hx : ∀ p ∈ l, x ≠ a + p.2) : (s.forL l (fun p u => if can p u then u.putByte (a + p.2) p.1 else u)).byteAt x = s.byteAt x := by
  induction l generalizing s with
  | nil => rfl
  | cons p l ih =>
    have hrest := fun q hq => hx q (List.mem_cons_of_mem p hq)
    simp only [State.forL, List.foldl_cons] at ih ⊢
    cases can p s with
    | false => exact ih h hrest
    | true =>
      rw [if_pos rfl, ih (State.putByte_wf h) hrest, State.byteAt_putByte h, if_neg (hx p List.mem_cons_self)]

/-- Bytes stored at an address reach no byte outside their own. -/
theorem putBytes_byteAt {a x : Nat} {l : List Nat} (h : s.wf = true) (hx : x < a ∨ a + l.length ≤ x) :
    (s.putBytes a l).byteAt x = s.byteAt x := by
  have hclear : ∀ (c : Bool) (u : State) (w : Nat), (u.onIf c (fun u => ueClear u 0 w)).mem.bytes = u.mem.bytes := fun c u w => by
    cases c <;> rfl
  have hlen : ∀ p ∈ l.zipIdx, p.2 < l.length := fun p hp => by simpa using List.snd_lt_add_of_mem_zipIdx hp
  rw [State.putBytes, State.byteAt, forN_bytes fun i u => hclear _ u _]
  exact forL_putByte_byteAt h fun p hp => by have := hlen p hp; omega

/-- The entry of a completion without results: a header, its CRC, and at most a CMAC. -/
theorem cplEntry_length : (cplEntry s c st [] false).length ≤ 24 := by
  have hbytes : ∀ n v, (leBytes n v).length = n := fun n v => by simp [leBytes]
  simp only [cplEntry]
  split
  · simp [hbytes]
    omega
  · simp [hbytes]

/-- A completion without results reaches no byte outside the 24 of its entry in its queue's ring. -/
theorem complete_byteAt {x : Nat} (h : s.wf = true)
    (hx : x < cqAddr s c.q (s.get QPq_CQ_tail c.q.val) ∨ cqAddr s c.q (s.get QPq_CQ_tail c.q.val) + 24 ≤ x) :
    (complete s c st).byteAt x = s.byteAt x := by
  have hlen := cplEntry_length (s := s) (c := c) (st := st)
  have hring : (ringCompletion s c st [] false).byteAt x = s.byteAt x :=
    putBytes_byteAt h (by omega)
  rcases complete_cases (s := s) (c := c) (st := st) (res := []) (more := false) with e | e | e | ⟨t, d, b, v, e⟩ <;> rw [e]
  · simp only [State.byteAt, State.logEv_mem, State.incSat_mem]
  · exact hring
  · simpa only [State.byteAt, State.put_mem, transmit_mem] using hring

end completion

end Sys2Proof.Proofs
end

section
/-! PROOF. NOP, the status, the events, the sessions and the profile (O30). -/

namespace Sys2Proof.Proofs

open Sys2Proof Sys2Proof.Machine Sys2Proof.Safety

section general
variable {s t : State} {c : Ctx} {p : List Nat} {q : Qp} {a v : Nat}

/-- A command that is served has the length of its opcode. -/
theorem lenMatches_of_serves {op : Nat} (h : Serves s c op p) : lenMatches op p = true := by
  obtain ⟨-, -, -, hadm⟩ := h
  by_contra hlen
  simp [opRefusal, Bool.eq_false_iff.mpr hlen] at hadm

/-- SESSION_OPEN's parameters are never empty. -/
theorem headD_set_of_serves {k : Nat} (h : Serves s c 0x04 (p.set 0 k)) : (p.set 0 k).headD 0 = k := by
  have hlen := lenMatches_of_serves h
  cases p with
  | nil => simp [lenMatches] at hlen
  | cons x p => rfl

/-! ### Events -/

theorem opGetEvents_in_range (h1 : 1 ≤ p.getD 4 0) (h9 : p.getD 4 0 ≤ 9) (hb : shutBist s = false)
    (hask : (s.get FPL_EVT_SEQ_seq + 2 ^ 32 - leAt p 0 4 % 2 ^ 32) % 2 ^ 32 ≤ s.log.ring.length)
    (hnew : (s.get FPL_EVT_SEQ_seq + 2 ^ 32 - leAt p 0 4 % 2 ^ 32) % 2 ^ 32 < 2 ^ 31) : opGetEvents s c p =
      let ask := (s.get FPL_EVT_SEQ_seq + 2 ^ 32 - leAt p 0 4 % 2 ^ 32) % 2 ^ 32
      let evs := ((s.log.ring.take ask).reverse).take (p.getD 4 0)
      opDone 0 (leBytes 4 ((s.get FPL_EVT_SEQ_seq + 2 ^ 32 - ask + evs.length) % 2 ^ 32) ++ [evs.length, 0, 0, 0] ++ evs.flatMap evBytes) s := by
  have hcnt : ¬ (p.getD 4 0 = 0 ∨ 9 < p.getD 4 0) := by omega
  simp only [opGetEvents, hcnt, hb, Bool.false_eq_true, if_false]
  generalize (s.get FPL_EVT_SEQ_seq + 2 ^ 32 - leAt p 0 4 % 2 ^ 32) % 2 ^ 32 = ask at hask hnew ⊢
  simp only [decide_eq_false (not_lt.mpr hask), Bool.false_and, Bool.false_eq_true, if_false, not_le.mpr hnew, min_eq_left hask]

theorem opGetEvents_count (h : p.getD 4 0 = 0 ∨ 9 < p.getD 4 0) : opGetEvents s c p = opDone 0x14 [] s := by
  simp only [opGetEvents, h, if_true]

/-! ### Sessions -/

theorem sessionRoom_some (hok : sessionOk p = true) (hq : qFree s = some q) (ha : ringAlloc s (512 * 2 ^ p.getD 2 0) = some a) :
    sessionRoom s p = .inr (q, a) := by
  simp only [sessionRoom, hok, hq, ha, Bool.not_true, Bool.false_eq_true, if_false]

theorem sessionRoom_full (hok : sessionOk p = true) (hq : qFree s = none) : sessionRoom s p = .inl 0x12 := by
  simp only [sessionRoom, hok, hq, Bool.not_true, Bool.false_eq_true, if_false]

theorem opSession_open (h : p.headD 0 = 0) : opSession s c p = opOpenU s c p := by simp only [opSession, h]
theorem opSession_challenge (h : p.headD 0 = 1) : opSession s c p = opChallenge s c p := by simp only [opSession, h]
theorem opSession_openP (h : p.headD 0 = 2) : opSession s c p = opOpenP s c p := by simp only [opSession, h]

theorem opOpenU_room (h : sessionRoom s p = .inr (q, a)) : opOpenU s c p = opDone 0 [q.val]
    (qOpenNow (qSetup s q (qTrans s c.q) (decide (4 ≤ qTrans s c.q) && c.priv) p a) q none s.fpl.qps[c.q].src) := by
  simp only [opOpenU, h]
  rfl

theorem opOpenU_full (h : sessionRoom s p = .inl v) : opOpenU s c p = opDone v [] s := by
  simp only [opOpenU, h]

theorem opChallenge_room (hbar : barred s (qTrans s c.q) = false) (h : sessionRoom s p = .inr (q, a)) : opChallenge s c p =
    let nonce := (List.range 16).map (fun k => Config.freeValue (s.free + k) % 256)
    let u := qSetup { s with free := s.free + 16 } q (qTrans s c.q) true p a
    opDone 0 (q.val :: nonce) { u with fpl := { u.fpl with reserves := ⟨q.val, nonce, qTrans s c.q, p⟩ :: u.fpl.reserves } } := by
  simp only [opChallenge, hbar, h, Bool.false_eq_true, if_false]

theorem opChallenge_barred (hbar : barred s (qTrans s c.q) = true) : opChallenge s c p = opDone 0x20 [] s := by
  simp only [opChallenge, hbar, if_true]

theorem opOpenP_none (hok : sessionOk p = true) (hr : s.fpl.reserves.find? (fun r => r.transport == qTrans s c.q) = none) :
    opOpenP s c p = opDone 0x20 [] (openFail s (qTrans s c.q) none) := by
  simp only [opOpenP, hok, hr, Bool.not_true, Bool.false_eq_true, if_false]

theorem opOpenP_key {r : Reserve} {key : List Nat} (hok : sessionOk p = true)
    (hr : s.fpl.reserves.find? (fun r => r.transport == qTrans s c.q) = some r) (hkey : aesKey s (p.getD 8 0) 3 = some key) :
    opOpenP s c p = if (p.drop 9).take 16 != aesCmac key (r.nonce ++ devIdBytes ++ [r.q, 1]) then
        opDone 0x20 [] (openFail s (qTrans s c.q) (some r.q))
      else opDone 0 [r.q] (qOpenNow (reserveEnd s r.q) (qpOf r.q) (some (aesCmac key (r.nonce ++ devIdBytes ++ [r.q, 2]))) s.fpl.qps[c.q].src) := by
  simp only [opOpenP, hok, hr, hkey, Bool.not_true, Bool.false_eq_true, if_false]

/-- The parameters after the mode are those of the packet. -/
theorem set_zero_of_pos {k j : Nat} (hj : 0 < j) : (p.set 0 k).getD j 0 = p.getD j 0 ∧ (p.set 0 k).drop j = p.drop j := by
  cases p with
  | nil => simp
  | cons x p =>
    obtain ⟨j, rfl⟩ := Nat.exists_eq_add_of_lt hj
    simp

theorem qpOf_val : qpOf q.val = q := by
  simp [qpOf, Nat.mod_eq_of_lt q.isLt]

theorem opSessionClose_own (hp : p = [q.val]) (hq : 4 ≤ q.val) (ho : qOpen s q = true) (ht : qTrans s q = qTrans s c.q)
    (hr : c.priv = true ∨ s.getB QPq_CFG_priv q.val = false) : opSessionClose s c p = opDone 0 [] (qClose s q) := by
  have hlt : q.val < 64 := q.isLt
  have hboot : qBoot q = false := by simp [qBoot, hq]
  have hright : (c.priv || !s.getB QPq_CFG_priv q.val) = true := by simpa using hr
  have hhi : ¬ 63 < q.val := by omega
  simp [opSessionClose, hp, qpOf_val, hlt, hboot, hright, hhi, ho, ht]

theorem opSessionClose_boot (hp : p = [q.val]) (hq : q.val < 4) (ho : qOpen s q = true) (ht : qTrans s q = qTrans s c.q)
    (hr : c.priv = true ∨ s.getB QPq_CFG_priv q.val = false) : opSessionClose s c p = opDone 0x22 [] s := by
  have hlt : q.val < 64 := q.isLt
  have hboot : qBoot q = true := by simp [qBoot, hq]
  have hright : (c.priv || !s.getB QPq_CFG_priv q.val) = true := by simpa using hr
  simp [opSessionClose, hp, qpOf_val, hlt, hboot, hright, ho, ht]

/-! ### Profiles -/

/-- A request that waits for its profile: the channels are where R30 lets it change. -/
theorem profRequest_accepted (hl : s.dev.cfgLock = false) (hv : v ≠ s.get SYS_PROFILE_active)
    (hc : ∀ n : Ch, s.chState n.val = 0 ∨ s.chState n.val = 2 ∨ s.chState n.val = 6) :
    profRequest s v = (1, ((s.put SYS_PROFILE_request v).put SYS_PROFILE_pending 1).modPwr (fun q => { q with profTo := some v })) := by
  have hall : (List.range 4).all (fun n => [0, 2, 6].contains (s.chState n)) = true := by
    simpa [List.all_eq_true, List.mem_range] using fun n hn => hc ⟨n, hn⟩
  simp only [profRequest, hl, hv, hall, Bool.false_and, decide_false, Bool.not_true, Bool.false_eq_true, if_false]

/-- A channel that runs refuses a request. -/
theorem profRequest_refused {n : Ch} (hl : s.dev.cfgLock = false) (hv : v ≠ s.get SYS_PROFILE_active) (hc : s.chState n.val = 3) :
    profRequest s v = (3, s) := by
  have hall : (List.range 4).all (fun n => [0, 2, 6].contains (s.chState n)) = false := by
    rw [List.all_eq_false]
    exact ⟨n.val, List.mem_range.mpr n.isLt, by simp [hc]⟩
  simp only [profRequest, hl, hv, hall, Bool.false_and, decide_false, Bool.false_eq_true, if_false, Bool.not_false, if_true]

/-- A request for the profile that is active, with no change pending, is met already. -/
theorem profRequest_met (hl : s.dev.cfgLock = false) (hv : v = s.get SYS_PROFILE_active) (hp : s.get SYS_PROFILE_pending = 0) :
    profRequest s v = (0, s.put SYS_PROFILE_request v) := by
  simp [profRequest, hl, ← hv, State.getB, hp]

/-! ### Fields put one after the other -/

/-- Several fields are put at the same indices. -/
def putFlds (s : State) (i : Nat) (l : List (Fld × Nat)) : State := l.foldl (fun s e => s.put e.1 e.2 i) s

theorem putFlds_wf {i : Nat} {l : List (Fld × Nat)} (hs : s.wf = true) : (putFlds s i l).wf = true := by
  induction l generalizing s with
  | nil => exact hs
  | cons e l ih => exact ih (State.put_wf hs)

theorem putFlds_get_ne {i : Nat} {l : List (Fld × Nat)} {f : Fld} (hs : s.wf = true) (hf : f.id ∉ l.map (fun e => e.1.id)) :
    (putFlds s i l).get f i = s.get f i := by
  induction l generalizing s with
  | nil => rfl
  | cons e l ih =>
    rw [List.map_cons, List.mem_cons, not_or] at hf
    exact (ih (State.put_wf hs) hf.2).trans (State.get_put_ne hs hf.1)

/-- Fields put once each hold what was put. -/
theorem putFlds_get {i : Nat} {l : List (Fld × Nat)} {f : Fld} {v : Nat} (hs : s.wf = true) (hl : (l.map (fun e => e.1.id)).Nodup)
    (hf : (f, v) ∈ l) : (putFlds s i l).get f i = v % 2 ^ f.width := by
  induction l generalizing s with
  | nil => cases hf
  | cons e l ih =>
    rw [List.map_cons, List.nodup_cons] at hl
    rcases List.mem_cons.mp hf with rfl | hf
    · exact (putFlds_get_ne (State.put_wf hs) hl.1).trans (State.get_put_same hs)
    · exact ih (State.put_wf hs) hl.2 hf

/-! ### What stands once a session has opened or closed -/

/-- Fields that no completion touches. -/
theorem complete_get_of_untouched {st : Nat} {res : List Nat} {f : Fld} {i j : Nat} (hs : s.wf = true)
    (hf : touches (maskOf (evFlds ++ [FPL_STAT_cpl_drop, QPq_CQ_tail, QPq_CQ_head]) (evParts ++ [Part.sram, Part.ueKnown, Part.writebacks, Part.fpl, Part.net])) f = false) :
    (complete s c st res).get f i j = s.get f i j :=
  get_of_untouched complete_reaches hs (by decide +kernel) hf

theorem complete_free {st : Nat} {res : List Nat} : (complete s c st res).free = s.free := complete_reaches.part (p := .free) (by decide +kernel)

theorem complete_qOpen {st : Nat} {res : List Nat} (hs : s.wf = true) : qOpen (complete s c st res) q = qOpen s q := by
  simp only [qOpen, State.getB]
  rw [complete_get_of_untouched hs (by decide +kernel)]

theorem modQp_get {f : QpSt → QpSt} {x : Fld} {i j : Nat} : (s.modQp q f).get x i j = s.get x i j := rfl

theorem qSetup_wf {tr : Nat} {prv : Bool} (hs : s.wf = true) : (qSetup s q tr prv p a).wf = true :=
  (qSetup_moves ⟨Nat.and_self _⟩ .refl).wf hs

/-- What a queue's registers take from SESSION_OPEN. -/
def sessionFlds (p : List Nat) (a tr : Nat) (prv : Bool) : List (Fld × Nat) :=
  [(QPq_CFG_transport, tr), (QPq_CFG_priv, if prv then 1 else 0), (QPq_CFG_class, p.getD 1 0),
    (QPq_CFG_bulk, p.getD 3 0), (QPq_CFG_depth, p.getD 2 0), (QPq_BASE_addr, a), (QPq_WAIT_qwait, leAt p 4 2), (QPq_WAIT_idle_to, leAt p 6 2),
    (QPq_SQ_tail, 0), (QPq_SQ_head, 0), (QPq_CQ_tail, 0), (QPq_CQ_head, 0)]

theorem qSetup_eq {tr : Nat} {prv : Bool} : qSetup s q tr prv p a = putFlds s q.val (sessionFlds p a tr prv) := rfl

/-- The registers of a queue that has been set up. -/
theorem qSetup_get {tr : Nat} {prv : Bool} (hs : s.wf = true) : (qSetup s q tr prv p a).get QPq_CFG_transport q.val = tr % 8 ∧
    (qSetup s q tr prv p a).get QPq_CFG_class q.val = p.getD 1 0 % 4 ∧ (qSetup s q tr prv p a).get QPq_CFG_depth q.val = p.getD 2 0 % 16 ∧
    (qSetup s q tr prv p a).get QPq_BASE_addr q.val = a % 2 ^ 32 := by
  have hl : ((sessionFlds p a tr prv).map (fun e => e.1.id)).Nodup := by
    simp only [sessionFlds, List.map]
    decide
  rw [qSetup_eq]
  exact ⟨putFlds_get hs hl (by simp [sessionFlds]), putFlds_get hs hl (by simp [sessionFlds]), putFlds_get hs hl (by simp [sessionFlds]),
    putFlds_get hs hl (by simp [sessionFlds])⟩

theorem qOpenNow_wf {key : Option (List Nat)} {src : Nat} (hs : s.wf = true) : (qOpenNow s q key src).wf = true :=
  (qOpenNow_moves ⟨Nat.and_self _⟩ .refl).wf hs

/-- What opening a queue may reach. -/
theorem qOpenNow_reaches {key : Option (List Nat)} {src : Nat} :
    Moves (maskOf (evFlds ++ [QPq_CFG_open, QPq_STAT_pending]) (evParts ++ [Part.fpl])) s (qOpenNow s q key src) :=
  qOpenNow_moves ⟨by decide +kernel⟩ .refl

theorem qOpenNow_get {key : Option (List Nat)} {src : Nat} {f : Fld} {i j : Nat} (hs : s.wf = true)
    (hf : touches (maskOf (evFlds ++ [QPq_CFG_open, QPq_STAT_pending]) (evParts ++ [Part.fpl])) f = false) :
    (qOpenNow s q key src).get f i j = s.get f i j :=
  get_of_untouched qOpenNow_reaches hs (by decide +kernel) hf

theorem qOpenNow_pwr {key : Option (List Nat)} {src : Nat} : (qOpenNow s q key src).pwr = s.pwr :=
  (qOpenNow_moves ⟨Nat.and_self _⟩ .refl).part (p := .pwr) (by decide +kernel)

theorem qSetup_pwr {tr : Nat} {prv : Bool} : (qSetup s q tr prv p a).pwr = s.pwr :=
  (qSetup_moves ⟨Nat.and_self _⟩ .refl).part (p := .pwr) (by decide +kernel)

theorem qSetup_log {tr : Nat} {prv : Bool} : (qSetup s q tr prv p a).log = s.log :=
  (qSetup_moves ⟨Nat.and_self _⟩ .refl).part (p := .log) (by decide +kernel)

theorem qSetup_fpl {tr : Nat} {prv : Bool} : (qSetup s q tr prv p a).fpl = s.fpl :=
  (qSetup_moves ⟨Nat.and_self _⟩ .refl).part (p := .fpl) (by decide +kernel)

theorem qSetup_free {tr : Nat} {prv : Bool} : (qSetup s q tr prv p a).free = s.free :=
  (qSetup_moves ⟨Nat.and_self _⟩ .refl).part (p := .free) (by decide +kernel)

theorem qClose_pwr : (qClose s q).pwr = s.pwr := (qClose_moves ⟨Nat.and_self _⟩ .refl).part (p := .pwr) (by decide +kernel)

theorem qOpenNow_fpl {key : Option (List Nat)} {src : Nat} : (qOpenNow s q key src).fpl =
    { s.fpl with qps := vupd s.fpl.qps q (fun _ => ⟨none, 0, 0, key, src, s.now, [], none⟩) } := by
  simp only [qOpenNow, State.logEv_fpl, modQp_fpl, State.put_fpl, State.now, State.put_ts]

theorem qOpenNow_key {key : Option (List Nat)} {src : Nat} : (qOpenNow s q key src).fpl.qps[q].key = key := by
  rw [qOpenNow_fpl]
  exact congrArg QpSt.key (vupd_same s.fpl.qps q _)

theorem qOpenNow_reserves {key : Option (List Nat)} {src : Nat} : (qOpenNow s q key src).fpl.reserves = s.fpl.reserves := by
  rw [qOpenNow_fpl]

theorem qOpenNow_logged {key : Option (List Nat)} {src : Nat} : Logged s (qOpenNow s q key src) 0x6001 [q.val] := by
  rw [qOpenNow]
  exact logged_of rfl

/-- An OPEN_P that fails is logged; it leaves the power controls alone, and with no reservation named the reservations too. -/
theorem openFail_pwr {tr : Nat} {k : Option Nat} : (openFail s tr k).pwr = s.pwr :=
  (openFail_moves ⟨Nat.and_self _⟩ .refl).part (p := .pwr) (by decide +kernel)

theorem openFail_reserves {tr : Nat} : (openFail s tr none).fpl.reserves = s.fpl.reserves := by
  simp only [openFail]
  split <;> simp

theorem openFail_logged {tr : Nat} : Logged s (openFail s tr none) 0x6007 [tr] := by
  have h : Logged s (s.logEv 0x6007 [tr]) 0x6007 [tr] := logged_of rfl
  simp only [openFail]
  split <;> exact h

/-- An operation that stays in execution. -/
theorem opRow_of_wait {op : Nat} {f : State → Ctx → List Nat → OpRes} (h : Serves s c op p)
    (hf : f s { c with opcode := op } p = opWait t { c with opcode := op } p) :
    opRow op f c p s = .next (opWait t { c with opcode := op } p).2 := by
  obtain ⟨⟨hheld, -⟩, hclk, hmp, hadm⟩ := h
  simp only [opRow, faced, live_run s hheld, hclk, hmp, Bool.not_false, State.onIf_true, opGo, hadm, ne_eq, not_true, if_false, hf, opWait]

theorem qOpenNow_qOpen {key : Option (List Nat)} {src : Nat} (hs : s.wf = true) : qOpen (qOpenNow s q key src) q = true := by
  simp only [qOpen, State.getB, qOpenNow]
  rw [logEv_get_of_untouched (by exact State.put_wf (State.put_wf hs)) (by decide +kernel)]
  rw [modQp_get]
  simp +decide [hs]

/-- What a queue's registers take when it closes. -/
def closedFlds (s : State) (q : Qp) : List (Fld × Nat) := [(QPq_CFG_open, 0), (QPq_SQ_head, s.get QPq_SQ_tail q.val), (QPq_STAT_pending, 0)]

theorem closedFlds_ids : (closedFlds s q).map (fun e => e.1.id) = [QPq_CFG_open.id, QPq_SQ_head.id, QPq_STAT_pending.id] := rfl

/-- A queue that closes: its fields, then Faceplate's records, then the event. -/
theorem qClose_eq : ∃ u : State, qClose s q = u.logEv 0x6002 [q.val] ∧ (s.wf = true → u.wf = true) ∧ u.log = s.log ∧
    u.fpl.qps[q].key = none ∧ u.regs = (putFlds s q.val (closedFlds s q)).regs := by
  refine ⟨_, rfl, fun h => putFlds_wf (i := q.val) (l := closedFlds s q) h, rfl, ?_, rfl⟩
  exact congrArg QpSt.key (vupd_same s.fpl.qps q _)

theorem get_of_regs {x : Fld} {i j : Nat} (h : t.regs = s.regs) : t.get x i j = s.get x i j := by
  simp only [State.get, h]

/-- A queue that closes has nothing left to serve and no key. -/
theorem qClose_effect (hs : s.wf = true) : qOpen (qClose s q) q = false ∧ sqLen (qClose s q) q = 0 ∧ (qClose s q).fpl.qps[q].key = none ∧
    Logged s (qClose s q) 0x6002 [q.val] := by
  obtain ⟨u, hu, hwf, hlog, hkey, hregs⟩ := qClose_eq (s := s) (q := q)
  have hl : ((closedFlds s q).map (fun e => e.1.id)).Nodup := by rw [closedFlds_ids]; decide
  have hget : ∀ f, touches (maskOf evFlds evParts) f = false → (qClose s q).get f q.val = (putFlds s q.val (closedFlds s q)).get f q.val :=
    fun f hf => by rw [hu, logEv_get_of_untouched (hwf hs) hf, get_of_regs hregs]
  refine ⟨?_, ?_, ?_, hu ▸ logged_of hlog⟩
  · rw [qOpen, State.getB, hget _ (by decide +kernel), putFlds_get hs hl (.head _)]
    rfl
  · rw [sqLen, hget _ (by decide +kernel), hget _ (by decide +kernel), putFlds_get_ne hs (by rw [closedFlds_ids]; decide),
      putFlds_get hs hl (.tail _ (.head _))]
    change (s.get QPq_SQ_tail q.val + 512 - s.get QPq_SQ_tail q.val % 512) % 512 = 0
    omega
  · rw [hu, State.logEv_fpl, hkey]

end general

section commands
variable {s : State} {c : Ctx} {p : List Nat} {q : Qp} {a v : Nat}

theorem nop_answers (hs : Serves s c 0x01 p) : exec (.nop c p) s = .next (complete s { c with opcode := 0x01 } 0) :=
  opRow_of_answer hs rfl

theorem getStatus_answers (hs : Predecodes s c 0x02 p) : exec (.getStatus c p) s = .next (complete s { c with opcode := 0x02 } 0
    ([s.get SYS_PROFILE_active, s.get BDG_STATE_unit, s.get FPL_MPLOAD_load, s.get TLS_STAT_role]
      ++ (List.range 4).flatMap (fun n => leBytes 4 (chStateWord s n)) ++ leBytes 4 (s.get FPL_EVT_SEQ_seq) ++ leBytes 8 s.now)) := by
  obtain ⟨⟨hheld, -⟩, hclk, hlen, hadm⟩ := hs
  change execGetStatus c p s = _
  simp only [execGetStatus, faced, live_run s hheld, hclk, Bool.not_false, State.onIf_true, hlen, hadm, Bool.not_true, bne_self_eq_false,
    Bool.false_eq_true, if_false, preExec, opGetStatus]

theorem sessionOpen_opens (hs : Serves s c 0x04 (p.set 0 0)) (hok : sessionOk (p.set 0 0) = true) (hq : qFree s = some q)
    (ha : ringAlloc s (512 * 2 ^ p.getD 2 0) = some a) :
    ∃ t, exec (.sessionOpen c p) s = .next t ∧ qOpen t q = true ∧ t.get QPq_CFG_transport q.val = qTrans s c.q % 8 ∧
      t.get QPq_CFG_class q.val = p.getD 1 0 ∧ t.get QPq_CFG_depth q.val = p.getD 2 0 ∧ t.get QPq_BASE_addr q.val = a % 2 ^ 32 ∧
      (s.log.intake.length < 60 → (0x6001, [q.val]) ∈ t.log.intake) := by
  have hp1 := (set_zero_of_pos (p := p) (k := 0) (j := 1) Nat.one_pos).1
  have hp2 := (set_zero_of_pos (p := p) (k := 0) (j := 2) Nat.two_pos).1
  have hroom : sessionRoom s (p.set 0 0) = .inr (q, a) := sessionRoom_some hok hq (by rw [hp2]; exact ha)
  obtain ⟨h1, h2⟩ : p.getD 1 0 ≤ 3 ∧ p.getD 2 0 ≤ 8 := by
    simp only [sessionOk, hp1, hp2, Bool.and_eq_true, decide_eq_true_eq] at hok
    exact hok.1
  refine ⟨_, opRow_of_done hs ((opSession_open (headD_set_of_serves hs)).trans (opOpenU_room hroom)) ?_, ?_⟩
  · exact fun h => by rwa [qOpenNow_pwr, qSetup_pwr] at h
  generalize hu : qSetup s q _ _ _ a = u
  have huwf : u.wf = true := hu ▸ qSetup_wf hs.1.2
  obtain ⟨gt, gc, gd, gb⟩ : u.get QPq_CFG_transport q.val = qTrans s c.q % 8 ∧ u.get QPq_CFG_class q.val = (p.set 0 0).getD 1 0 % 4 ∧
      u.get QPq_CFG_depth q.val = (p.set 0 0).getD 2 0 % 16 ∧ u.get QPq_BASE_addr q.val = a % 2 ^ 32 := hu ▸ qSetup_get hs.1.2
  have hopen := qOpenNow_wf (q := q) (key := none) (src := s.fpl.qps[c.q].src) huwf
  have hlog : u.log = s.log := by rw [← hu, qSetup_log]
  refine ⟨(complete_qOpen hopen).trans (qOpenNow_qOpen huwf), ?_, ?_, ?_, ?_, fun hlen => complete_grows _ (qOpenNow_logged (hlog ▸ hlen))⟩
  all_goals rw [complete_get_of_untouched hopen (by decide +kernel), qOpenNow_get huwf (by decide +kernel)]
  · exact gt
  · rw [gc, hp1]
    omega
  · rw [gd, hp2]
    omega
  · exact gb

theorem challenge_reserves (hs : Serves s c 0x04 (p.set 0 1)) (hb : barred s (qTrans s c.q) = false) (hok : sessionOk (p.set 0 1) = true)
    (hq : qFree s = some q) (ha : ringAlloc s (512 * 2 ^ p.getD 2 0) = some a) :
    let nonce := (List.range 16).map (fun k => Config.freeValue (s.free + k) % 256)
    ∃ t, exec (.challenge c p) s = .next t ∧ t.fpl.reserves = ⟨q.val, nonce, qTrans s c.q, p.set 0 1⟩ :: s.fpl.reserves ∧
      t.free = s.free + 16 ∧ qOpen t q = qOpen s q := by
  have hp2 := (set_zero_of_pos (p := p) (k := 1) (j := 2) Nat.two_pos).1
  have hroom : sessionRoom s (p.set 0 1) = .inr (q, a) := sessionRoom_some hok hq (by rw [hp2]; exact ha)
  have hop := (opSession_challenge (headD_set_of_serves hs)).trans (opChallenge_room (c := { c with opcode := 0x04 }) hb hroom)
  have hpwr : ∀ u : State, u.pwr = s.pwr → u.pwr.stage = 1 → s.pwr.stage = 1 := fun u hu h => hu ▸ h
  have hwf : ({ s with free := s.free + 16 } : State).wf = true := hs.1.2
  generalize hu : qSetup _ q _ _ _ a = u at hop
  have huwf : u.wf = true := hu ▸ qSetup_wf hwf
  have hopen : u.get QPq_CFG_open q.val = s.get QPq_CFG_open q.val := hu ▸ (qSetup_moves ⟨Nat.and_self _⟩ .refl).same hwf _ _ _ (by decide +kernel)
  have hupwr : u.pwr = s.pwr := by rw [← hu, qSetup_pwr]
  have hfpl : u.fpl = s.fpl := by rw [← hu, qSetup_fpl]
  have hfree : u.free = s.free + 16 := by rw [← hu, qSetup_free]
  refine ⟨_, opRow_of_done hs hop (hpwr _ hupwr), ?_, ?_, ?_⟩
  · rw [complete_reserves, hfpl]
  · rw [complete_free]
    exact hfree
  · rw [complete_qOpen (by exact huwf)]
    exact congrArg (· != 0) hopen

theorem openP_opens {r : Reserve} {key : List Nat} (hs : Serves s c 0x04 (p.set 0 2)) (hok : sessionOk (p.set 0 2) = true)
    (hr : s.fpl.reserves.find? (fun r => r.transport == qTrans s c.q) = some r) (hkey : aesKey s (p.getD 8 0) 3 = some key) :
    ∃ t, exec (.openP c p) s = .next t ∧ ((p.drop 9).take 16 = aesCmac key (r.nonce ++ devIdBytes ++ [r.q, 1]) →
      qOpen t (qpOf r.q) = true ∧ t.fpl.qps[qpOf r.q].key = some (aesCmac key (r.nonce ++ devIdBytes ++ [r.q, 2])) ∧
      t.fpl.reserves = s.fpl.reserves.filter (fun x => x.q != r.q)) := by
  have h8 := (set_zero_of_pos (p := p) (k := 2) (j := 8) (by omega)).1
  have h9 := (set_zero_of_pos (p := p) (k := 2) (j := 9) (by omega)).2
  have hop := (opSession_openP (headD_set_of_serves hs)).trans (opOpenP_key (c := { c with opcode := 0x04 }) hok hr (by rw [h8]; exact hkey))
  rw [h9] at hop
  by_cases hmac : (p.drop 9).take 16 = aesCmac key (r.nonce ++ devIdBytes ++ [r.q, 1])
  · rw [if_neg (by simp [hmac])] at hop
    have hwf : (reserveEnd s r.q).wf = true := hs.1.2
    refine ⟨_, opRow_of_done hs hop (fun h => by rwa [qOpenNow_pwr] at h), fun _ => ⟨?_, ?_, ?_⟩⟩
    · rw [complete_qOpen (qOpenNow_wf hwf), qOpenNow_qOpen hwf]
    · rw [complete_key, qOpenNow_key]
    · rw [complete_reserves, qOpenNow_reserves, reserveEnd]
  · rw [if_pos (by simpa using hmac)] at hop
    exact ⟨_, opRow_of_done hs hop (fun h => by rwa [openFail_pwr] at h), fun h => absurd h hmac⟩

theorem openP_without_challenge (hs : Serves s c 0x04 (p.set 0 2)) (hok : sessionOk (p.set 0 2) = true)
    (hr : s.fpl.reserves.find? (fun r => r.transport == qTrans s c.q) = none) :
    ∃ t, exec (.openP c p) s = .next t ∧ t.fpl.reserves = s.fpl.reserves ∧
      (s.log.intake.length < 60 → (0x6007, [qTrans s c.q]) ∈ t.log.intake) := by
  refine ⟨_, opRow_of_done hs ((opSession_openP (headD_set_of_serves hs)).trans (opOpenP_none hok hr)) (fun h => by rwa [openFail_pwr] at h), ?_,
    fun hlen => complete_grows _ (openFail_logged hlen)⟩
  rw [complete_reserves, openFail_reserves]

theorem sessionClose_closes (hs : Serves s c 0x05 p) (hp : p = [q.val]) (hq : 4 ≤ q.val) (ho : qOpen s q = true)
    (ht : qTrans s q = qTrans s c.q) (hr : c.priv = true ∨ s.getB QPq_CFG_priv q.val = false) :
    ∃ t, exec (.sessionClose c p) s = .next t ∧ qOpen t q = false ∧ sqLen t q = 0 ∧ t.fpl.qps[q].key = none ∧ Logged s t 0x6002 [q.val] := by
  obtain ⟨hopen, hlen, hkey, hlog⟩ := qClose_effect (q := q) hs.1.2
  have hwf : (qClose s q).wf = true := (qClose_moves ⟨Nat.and_self _⟩ .refl).wf hs.1.2
  refine ⟨_, opRow_of_done hs (opSessionClose_own hp hq ho ht hr) (fun h => by rwa [qClose_pwr] at h), ?_, ?_, ?_, Logged.grows hlog complete_grows⟩
  · rw [complete_qOpen hwf, hopen]
  · rw [sqLen, complete_get_of_untouched hwf (by decide +kernel), complete_get_of_untouched hwf (by decide +kernel)]
    exact hlen
  · rw [complete_key, hkey]

theorem setProfile_waits (hs : Serves s c 0x06 p) (hp : p = [v]) (hv : v ≤ 3) (hl : s.dev.cfgLock = false) (hne : v ≠ s.get SYS_PROFILE_active)
    (hc : ∀ n : Ch, s.chState n.val = 0 ∨ s.chState n.val = 2 ∨ s.chState n.val = 6) :
    ∃ t, exec (.setProfile c p) s = .next t ∧ t.get SYS_PROFILE_request = v ∧ t.get SYS_PROFILE_pending = 1 ∧
      t.pwr.profTo = some v ∧ t.fpl.running = s.fpl.running ++ [⟨{ c with opcode := 0x06 }, p, false⟩] := by
  have hop : opSetProfile s { c with opcode := 0x06 } p = opWait ((((s.put SYS_PROFILE_request v).put SYS_PROFILE_pending 1).modPwr
      (fun q => { q with profTo := some v }))) { c with opcode := 0x06 } p := by
    subst hp
    simp only [opSetProfile, List.headD_cons, not_lt.mpr hv, if_false, profRequest_accepted hl hne hc, Nat.one_ne_zero, if_true]
  have hwf := hs.1.2
  refine ⟨_, opRow_of_wait hs hop, ?_, ?_, rfl, rfl⟩
  · change ((s.put SYS_PROFILE_request v).put SYS_PROFILE_pending 1).get SYS_PROFILE_request = v
    rw [State.get_put_ne (State.put_wf hwf) (by decide), State.get_put_same hwf]
    exact Nat.mod_eq_of_lt (show v < 2 ^ 2 by omega)
  · exact State.get_put_same (State.put_wf hwf)

theorem opSetProfile_met (hp : p = [v]) (hv : v ≤ 3) (hl : s.dev.cfgLock = false) (he : v = s.get SYS_PROFILE_active)
    (hpd : s.get SYS_PROFILE_pending = 0) : opSetProfile s c p = opDone 0 [] (s.put SYS_PROFILE_request v) := by
  subst hp
  simp only [opSetProfile, List.headD_cons, not_lt.mpr hv, if_false, profRequest_met hl he hpd, if_true]

theorem opSetProfile_refused {n : Ch} (hp : p = [v]) (hv : v ≤ 3) (hl : s.dev.cfgLock = false) (hne : v ≠ s.get SYS_PROFILE_active)
    (hc : s.chState n.val = 3) : opSetProfile s c p = opDone 0x22 [] s := by
  subst hp
  simp only [opSetProfile, List.headD_cons, not_lt.mpr hv, if_false, profRequest_refused hl hne hc]
  rfl

theorem opSetProfile_range (hp : p = [v]) (hv : 3 < v) : opSetProfile s c p = opDone 0x14 [] s := by
  subst hp
  simp only [opSetProfile, List.headD_cons, hv, if_true]

end commands

/-- Settles O30: each clause is an operation's answer, completed. -/
theorem generalCommands : Obligations.GeneralCommands := by
  intro s c p q a v r key _ cl ask evs nonce
  refine ⟨fun hs => ⟨_, nop_answers hs, rfl, fun x hx => complete_byteAt hs.1.2 hx⟩, fun hs => ⟨_, getStatus_answers hs, rfl⟩,
    fun hs h1 h9 hb hask hnew => ⟨_, opRow_of_answer hs (opGetEvents_in_range h1 h9 hb hask hnew), rfl⟩,
    fun hs h => ⟨_, opRow_of_answer hs (opGetEvents_count h), rfl⟩,
    fun hs hok hq ha _ => sessionOpen_opens hs hok hq ha,
    fun hs hok hq => ⟨_, opRow_of_answer hs ((opSession_open (headD_set_of_serves hs)).trans (opOpenU_full (sessionRoom_full hok hq))), rfl⟩,
    fun hs _ hb hok hq ha => challenge_reserves hs hb hok hq ha,
    fun hs _ hb => ⟨_, opRow_of_answer hs ((opSession_challenge (headD_set_of_serves hs)).trans (opChallenge_barred hb)), rfl⟩,
    fun hs _ hok hr hkey => openP_opens hs hok hr hkey,
    fun hs _ hok hr => openP_without_challenge hs hok hr,
    sessionClose_closes,
    fun hs hp hq ho ht hr => ⟨_, opRow_of_answer hs (opSessionClose_boot hp hq ho ht hr), rfl⟩,
    setProfile_waits,
    fun hs hp hv hl he hpd => ⟨_, opRow_of_done hs (opSetProfile_met hp hv hl he hpd) id, rfl⟩,
    fun hs hp hv hl hne hc => ⟨_, opRow_of_answer hs (opSetProfile_refused (n := 3) hp hv hl hne hc), rfl⟩,
    fun hs hp hv => ⟨_, opRow_of_answer hs (opSetProfile_range hp hv), rfl⟩⟩

end Sys2Proof.Proofs
end

section
/-! PROOF. What a swap's budget depends on (R21, R226). -/

namespace Sys2Proof.Proofs

open Sys2Proof Sys2Proof.Machine Sys2Proof.Safety

/-- The fields from which a swap is judged. -/
def budgetFlds : List Fld :=
  [SPn_BANK_active, SPn_BANK_seal_a, SPn_BANK_seal_b, SPn_BANK_swap, CHn_STATE_state, SYS_PROFILE_active, CHn_CARR_mode, CHn_CARR_rl,
    CHn_CTL_src, CHn_CTL_six, SPn_PER_per, CHn_PER_per, CHn_PERMIN_per_min, CHn_TIMING_commit_guard, CHn_DUTYk_duty, SEQn_CTL_en,
    SEQn_CTL_nsteps, SEQn_STEPk_B_open_dly, SEQn_STEPk_A_log2n, SEQn_TRIG_offset, SEQn_TRIG_src, SEQn_STEPk_B_sp_en, SEQn_STEPk_B_sp_ch,
    SEQn_STEPk_B_sp_meas, SPn_XFORM_vdc_en, SPn_XFORM_vdc, SPn_XFORM_mode, SPn_XFORM_pa, SPn_XFORM_pb, SPn_XFORM_pc]

/-- Two states from which a swap is judged alike. -/
structure SameBudget (s t : State) : Prop where
  get : ∀ f ∈ budgetFlds, ∀ i j, t.get f i j = s.get f i j
  lathe : t.mem.lathe = s.mem.lathe
  chans : t.chans = s.chans
  sps : t.sps = s.sps

section same
variable {s t : State} (h : SameBudget s t)
include h

theorem SameBudget.shapeOf (n b : Nat) : shapeOf t n b = shapeOf s n b := by
  simp only [Machine.shapeOf, bankWord, State.lw, h.lathe]

theorem SameBudget.chan (n : Nat) : t.chan n = s.chan n := by
  simp only [State.chan, h.chans]

theorem SameBudget.sp (n : Ch) : t.sp n = s.sp n := by
  simp only [State.sp, h.sps]

theorem SameBudget.profOf (n : Nat) : t.profOf n = s.profOf n := by
  simp +decide only [State.profOf, h.chan, h.get]

theorem SameBudget.actBank (n : Nat) : actBank t n = actBank s n := h.get _ (by decide) _ _

theorem SameBudget.carrMode (n : Ch) : carrMode t (.ch n) = carrMode s (.ch n) := h.get _ (by decide) _ _

theorem SameBudget.carrRl (n : Ch) : carrRl t (.ch n) = carrRl s (.ch n) := h.get _ (by decide) _ _

theorem SameBudget.getB {f : Fld} (hf : f ∈ budgetFlds) (i j : Nat) : t.getB f i j = s.getB f i j := by
  simp only [State.getB, h.get f hf]

theorem SameBudget.getS {f : Fld} (hf : f ∈ budgetFlds) (i j : Nat) : t.getS f i j = s.getS f i j := by
  simp only [State.getS, h.get f hf]

theorem SameBudget.ctrlOf (n : Ch) (per : Nat) : ctrlOf t (.ch n) per = ctrlOf s (.ch n) per := by
  unfold Machine.ctrlOf carrBoth
  rw [h.carrMode, h.carrRl]

theorem SameBudget.profMinFt (n : Nat) : t.profMinFt n = s.profMinFt n := by
  simp only [State.profMinFt, h.profOf]

theorem SameBudget.commitPer (n : Ch) : commitPer t n = commitPer s n := by
  simp +decide only [Machine.commitPer, h.get]

theorem SameBudget.legChan (k : Nat) : legChan t k = legChan s k := by
  unfold Machine.legChan State.six
  rw [h.getB (f := CHn_CTL_six) (by decide)]

theorem SameBudget.shadowT (n : Ch) : shadowT t n = shadowT s n := by
  simp only [Machine.shadowT, carrLegs, h.legChan, h.get CHn_DUTYk_duty (by decide)]

theorem SameBudget.zeroPeak (n : Ch) (per : Nat) : zeroPeak t n per = zeroPeak s n per := by
  simp only [Machine.zeroPeak, h.carrMode, h.carrRl, h.shadowT]

theorem SameBudget.seqSpan (q : Nat) : seqSpan t q = seqSpan s q := by
  simp only [Machine.seqSpan, h.get SEQn_CTL_nsteps (by decide), h.get SEQn_STEPk_B_open_dly (by decide), h.get SEQn_STEPk_A_log2n (by decide)]

theorem SameBudget.seqBase (n : Ch) (per f q : Nat) : seqBase t n per f q = seqBase s n per f q := by
  induction f generalizing q with
  | zero => rfl
  | succ f ih =>
    simp only [Machine.seqBase, h.getB (f := SEQn_CTL_en) (by decide), h.getS (f := SEQn_TRIG_offset) (by decide),
      h.get SEQn_TRIG_src (by decide), h.zeroPeak, h.seqSpan, ih]

theorem SameBudget.outFeeds (n j : Nat) : outFeeds t n j = outFeeds s n j := by
  simp only [Machine.outFeeds, phaseSet, h.get SPn_XFORM_mode (by decide), h.get SPn_XFORM_pa (by decide), h.get SPn_XFORM_pb (by decide),
    h.get SPn_XFORM_pc (by decide)]

theorem SameBudget.measRead (n k : Nat) : measRead t n k = measRead s n k := by
  simp only [Machine.measRead, h.getB (f := SPn_XFORM_vdc_en) (by decide), h.get SPn_XFORM_vdc (by decide), h.shapeOf, h.actBank, h.outFeeds]

theorem SameBudget.deadlineFt (n : Ch) (per : Nat) : deadlineFt t n per = deadlineFt s n per := by
  simp only [Machine.deadlineFt, h.carrMode, h.ctrlOf, h.get CHn_PERMIN_per_min (by decide), h.get CHn_TIMING_commit_guard (by decide)]

theorem SameBudget.budgetFt (n : Ch) (per : Nat) : budgetFt t n per = budgetFt s n per := by
  simp only [Machine.budgetFt, h.ctrlOf, h.seqBase, h.get SEQn_CTL_nsteps (by decide), h.getB (f := SEQn_STEPk_B_sp_en) (by decide),
    h.get SEQn_STEPk_B_sp_ch (by decide), h.get SEQn_STEPk_B_sp_meas (by decide), h.get SEQn_STEPk_B_open_dly (by decide),
    h.get SEQn_STEPk_A_log2n (by decide), h.measRead, h.deadlineFt]

theorem SameBudget.budgetOk (n : Ch) (per b : Nat) : budgetOk t n per b = budgetOk s n per b := by
  unfold Machine.budgetOk lFull
  rw [h.profMinFt, h.ctrlOf, h.profOf, h.shapeOf, h.budgetFt]

theorem SameBudget.chRuns (n : Nat) : t.chRuns n = s.chRuns n := by
  unfold State.chRuns State.chState
  rw [h.get CHn_STATE_state (by decide)]

theorem SameBudget.isSealed (n b : Nat) : isSealed t n b = isSealed s n b := by
  refine h.getB ?_ _ _
  unfold sealFld
  split <;> decide

/-- A swap is accepted or refused alike (R226). -/
theorem SameBudget.swapRefusal (n : Ch) : swapRefusal t n = swapRefusal s n := by
  simp only [Machine.swapRefusal]
  rw [h.actBank, h.isSealed, h.getB (f := SPn_BANK_swap) (by decide), h.sp, h.chRuns, h.commitPer, h.budgetOk]

end same

end Sys2Proof.Proofs
end

section
/-! PROOF. Requests through `SPn_BANK` (R212, R226). -/

namespace Sys2Proof.Proofs

open Sys2Proof Sys2Proof.Machine Sys2Proof.Safety

/-! ### What a record adds to the intake -/

theorem insertEv_length (e : Nat × List Nat) (l : List (Nat × List Nat)) : (insertEv e l).length = l.length + 1 := by
  induction l with
  | nil => rfl
  | cons x l ih =>
    simp only [insertEv]
    split <;> simp [ih]

theorem logRaw_intake_length (s : State) (c : Nat) (l : List Nat) : (s.logRaw c l).log.intake.length ≤ s.log.intake.length + 1 := by
  have key : ∀ u : State, u.log = s.log → (if u.log.intake.length < 64 then
      { u with log := { u.log with intake := insertEv (c, l) u.log.intake } } else u.incSat FPL_EVT_STAT_lost : State).log.intake.length ≤
        s.log.intake.length + 1 := by
    intro u hu
    split
    · simp [insertEv_length, hu]
    · simp [hu]
  simp only [State.logRaw]
  split <;> exact key _ rfl

/-- A record adds at most one event. -/
theorem owlRec_intake_length (s : State) (ty src : Nat) (l : List Nat) : (s.owlRec ty src l).log.intake.length ≤ s.log.intake.length + 1 := by
  simp only [State.owlRec]
  split
  · omega
  · split
    · exact Nat.le_succ _
    · split
      · exact logRaw_intake_length _ _ _
      · exact Nat.le_succ _

/-! ### The write -/

/-- The register of a spindle's banks. -/
def bankReg : Reg := ⟨"SPn_BANK", 0x40310010, 4, 0x10000, 1, 0, [SPn_BANK_int_frz, SPn_BANK_fb, SPn_BANK_seal_busy, SPn_BANK_seal_req,
  SPn_BANK_bumpless, SPn_BANK_seal_b, SPn_BANK_seal_a, SPn_BANK_swap, SPn_BANK_active]⟩

/-- The state in which the bank's register is written: the write is recorded, and `bumpless` alone takes what is written. -/
def bankWritten (s : State) (n : Ch) (v : Nat) : State :=
  (s.owlRec 0x05 n.val [2 ^ 39 + SPn_BANK_swap.at n.val 0 % 0x10000, v % 2 ^ 32, 0]).put SPn_BANK_bumpless (v % 2 ^ 32 / 2 ^ 8 % 2 ^ 1) n.val 0

/-- `CHn_BUDGET` of every channel shows what it is (R26). -/
def budgetsShown (s : State) : State := s.forL (List.finRange 4) (fun n s => budgetShow s n)

section write
variable {s : State} {a : Access} {n : Ch} {v : Nat}

theorem chOf_val (n : Ch) : chOf n.val = n := by simp [chOf, Nat.mod_eq_of_lt n.isLt]

theorem applyWr_SPn_BANK {u : State} : applyWr u ⟨bankReg, n.val, 0, v⟩ [] = u.put SPn_BANK_bumpless (v / 2 ^ 8 % 2 ^ 1) n.val 0 := rfl

theorem postWrite_SPn_BANK {u t : State} : postWrite u a ⟨bankReg, n.val, 0, v⟩ t =
    (t.onIf (v / 2 ^ 2 % 2 ^ 1 == 1) (fun s => swapRequest s n)).onIf (v / 2 ^ 9 % 2 ^ 1 == 1) (fun s => sealRequest s n) := by
  simp [postWrite, postSp, blockOf, Wr.is, Wr.bits, Wr.ch, chOf_val, bankReg, SPn_SAT_transform, SPn_BANK_swap, SPn_BANK_seal_req]

/-- A write of a spindle's bank register: what it asks for is judged in the state that it leaves. -/
theorem wrFld_SPn_BANK {f : Fld} (hadm : Admits s a) (hr : s.replayed n.val = false) (hf : f.at n.val 0 = SPn_BANK_swap.at n.val 0) :
    wrFld s a f n.val 0 v = .next ((budgetsShown (((bankWritten s n v).onIf (v % 2 ^ 32 / 2 ^ 2 % 2 ^ 1 == 1) (fun s => swapRequest s n)).onIf
      (v % 2 ^ 32 / 2 ^ 9 % 2 ^ 1 == 1) (fun s => sealRequest s n))).answer a.ini .none) := by
  obtain ⟨⟨hheld, hwf⟩, hp, hlock, hc⟩ := hadm
  have hreg : regOf (SPn_BANK_swap.at n.val 0) = some (bankReg, n.val, 0) := regOf_SPn_BANK n
  have hbus : busAddr (SPn_BANK_swap.at n.val 0) = true := by fin_cases n <;> rfl
  have hn := chOf_val n
  rw [wrFld, live_run s hheld, hf, busWrite_spindle hc hp hbus hreg rfl (by rw [hn]; exact hr), hn,
    writeReg_open (by rw [State.owlRec_dev]; exact hlock)]
  have hpre : ∀ u t, preWrite u t a ⟨bankReg, n.val, 0, v % 2 ^ 32⟩ = vPass := fun u t => by
    simp [preWrite, preSpindle, blockOf, Wr.is, bankReg, SPn_I_BASE_base, SPn_V_BASE_base, SPn_W_BASE_base, SPn_CTL_spec_dis, SPn_XFORM_mode,
      SPn_FB_act, SPn_PER_per, SPn_OSC_CFG_win, SPn_OSC_N_n_min]
  simp only [hpre, vPass, List.isEmpty_nil, if_true, applyWr_SPn_BANK, postWrite_SPn_BANK]
  rfl

theorem bankWritten_wf (hs : s.wf = true) : (bankWritten s n v).wf = true := State.put_wf (State.owlRec_wf _ _ _ _ hs)

/-- What the write and its record may reach. -/
theorem bankWritten_reaches : Moves (maskOf (evFlds ++ [SPn_BANK_bumpless]) evParts) s (bankWritten s n v) :=
  State.put_moves (.inr (by decide +kernel)) (State.owlRec_moves ⟨by decide +kernel⟩ .refl)

/-- A swap is judged in that state as before it. -/
theorem bankWritten_same (hs : s.wf = true) : SameBudget s (bankWritten s n v) where
  get f hf i j := by
    refine bankWritten_reaches.same hs f i j ?_
    revert f
    decide +kernel
  lathe := congrArg MemSt.lathe (State.owlRec_mem s _ _ _)
  chans := State.owlRec_chans s _ _ _
  sps := State.owlRec_sps s _ _ _

theorem bankWritten_intake : (bankWritten s n v).log.intake.length ≤ s.log.intake.length + 1 := owlRec_intake_length s _ _ _

/-- Showing the budgets and answering touch `CHn_BUDGET` alone. -/
theorem budgetsShown_get {t : State} {f : Fld} {i j : Nat} (ht : t.wf = true) (hf : touches (maskOf [CHn_BUDGET_budget, CHn_BUDGET_lat_full] []) f = false) :
    (budgetsShown t).get f i j = t.get f i j :=
  (State.forL_moves (m := maskOf [CHn_BUDGET_budget, CHn_BUDGET_lat_full] []) .refl
    fun _ _ => budgetShow_moves ⟨by decide +kernel⟩).get ht (by decide +kernel) hf i j

theorem budgetsShown_log {t : State} : (budgetsShown t).log = t.log := by
  refine (State.forL_moves (m := maskOf [CHn_BUDGET_budget, CHn_BUDGET_lat_full] []) .refl
    fun _ _ => budgetShow_moves ⟨by decide +kernel⟩).part (p := .log) (by decide +kernel)

end write

end Sys2Proof.Proofs
end

section
/-! PROOF. The intake only grows while commands in execution settle (R380). -/

namespace Sys2Proof.Proofs

open Sys2Proof Sys2Proof.Machine Sys2Proof.Safety

theorem grows_onIf {s u : State} {c : Bool} {f : State → State} (h : Grows s u) (hf : ∀ v, Grows v (f v)) : Grows s (u.onIf c f) := by
  cases c with
  | false => exact h
  | true => exact h.trans (hf u)

theorem grows_foldl {α : Type} {s : State} {l : List α} {f : State → α → State} (hf : ∀ v x, Grows v (f v x)) : Grows s (l.foldl f s) := by
  induction l generalizing s with
  | nil => exact .refl s
  | cons x l ih => exact (hf s x).trans ih

theorem opEnd_grows (s : State) (c : Ctx) (st : Nat) (res : List Nat) : Grows s (opEnd s c st res) :=
  grows_onIf (.of_log rfl) fun _ => complete_grows

theorem owlBulk_grows (c : Ctx) (f : Nat) (s : State) (i k : Nat) : Grows s (owlBulk c f s i k).1 := by
  induction f generalizing s i k with
  | zero => exact .refl s
  | succ f ih =>
    simp only [owlBulk]
    split
    · exact .refl s
    · split
      · exact complete_grows
      · exact complete_grows.trans (ih _ _ _)

theorem owlFetchOn_grows (s : State) (c : Ctx) (i k : Nat) : Grows s (owlFetchOn s c i k) := by
  have h := owlBulk_grows c 2622 { s with fpl := { s.fpl with running := s.fpl.running.filter (fun r => r.ctx != c) } } i k
  simp only [owlFetchOn]
  split <;> next heq => rw [heq] at h; exact h

theorem opSettle_grows (s : State) (r : RunOp) : Grows s (opSettle s r) := by
  have hread : ∀ (u : State) (b : Access) (x : Nat), Grows u (regRead u b x).2 := fun u b x =>
    .of_log ((regRead_moves ⟨Nat.and_self _⟩ .refl).part (p := .log) (by decide +kernel))
  simp only [opSettle]
  split
  · exact grows_onIf (.refl s) fun _ => opEnd_grows _ _ _ _
  · exact grows_onIf (.refl s) fun u => (hread u _ _).trans (opEnd_grows _ _ _ _)
  · exact grows_onIf (.refl s) fun _ => opEnd_grows _ _ _ _
  · exact grows_onIf (.refl s) fun _ => opEnd_grows _ _ _ _
  · exact grows_onIf (.refl s) fun _ => opEnd_grows _ _ _ _
  · exact owlFetchOn_grows _ _ _ _
  · exact .refl s

theorem settleOps_grows (s : State) : Grows s (settleOps s) := grows_onIf (.refl s) fun _ => grows_foldl opSettle_grows

end Sys2Proof.Proofs
end

section
/-! PROOF. Coefficient banks, oscillation windows, restorations and profiles (O18). -/

namespace Sys2Proof.Proofs

open Sys2Proof Sys2Proof.Machine Sys2Proof.Safety

section banks
variable {s t : State} {a : Access} {n : Ch} {v : Nat}

theorem sealFld_untouched (b : Nat) {m : Nat} (ha : touches m SPn_BANK_seal_a = false) (hb : touches m SPn_BANK_seal_b = false) :
    touches m (sealFld b) = false := by
  unfold sealFld
  split
  · exact ha
  · exact hb

/-! ### Requests -/

theorem swapRequest_of_accepted (h : swapRefusal s n = 0) : swapRequest s n = s.put SPn_BANK_swap 1 n.val := by
  simp only [swapRequest, h, if_true]

theorem swapRequest_of_refused (h : swapRefusal s n ≠ 0) : swapRequest s n = s.logEv 0x3107 [n.val] := by
  simp only [swapRequest, h, if_false]

theorem swapRefusal_of_unsealed (h : isSealed s n.val (1 - actBank s n.val) = false) : swapRefusal s n = 1 := by
  simp only [swapRefusal, h, Bool.not_false, Bool.true_or, if_true]

theorem sealRequest_of_free (h1 : s.getB SPn_BANK_swap n.val = false) (h2 : (s.sp n).fbPend = false)
    (h3 : s.getB SPn_BANK_seal_busy n.val = false) :
    sealRequest s n = (sealOff s n (1 - actBank s n.val)).put SPn_BANK_seal_busy 1 n.val := by
  simp only [sealRequest, h1, h2, h3, Bool.or_self, Bool.false_eq_true, if_false]

/-- A swap request through the register, before it is judged. -/
theorem exec_swapRequest (hadm : Admits s a) (hr : s.replayed n.val = false) (hv : v / 4 % 2 = 1) (hw : v / 512 % 2 = 0) :
    exec (.swapRequest a n v) s = .next ((budgetsShown (swapRequest (bankWritten s n v) n)).answer a.ini .none) := by
  have h1 : (v % 2 ^ 32 / 2 ^ 2 % 2 ^ 1 == 1) = true := by rw [beq_iff_eq]; omega
  have h2 : (v % 2 ^ 32 / 2 ^ 9 % 2 ^ 1 == 1) = false := by rw [beq_eq_false_iff_ne]; omega
  change wrFld s a SPn_BANK_swap n.val 0 v = _
  rw [wrFld_SPn_BANK hadm hr rfl, h1, h2, State.onIf_true, State.onIf_false]

theorem exec_sealRequest (hadm : Admits s a) (hr : s.replayed n.val = false) (hv : v / 4 % 2 = 0) (hw : v / 512 % 2 = 1) :
    exec (.sealRequest a n v) s = .next ((budgetsShown (sealRequest (bankWritten s n v) n)).answer a.ini .none) := by
  have h1 : (v % 2 ^ 32 / 2 ^ 2 % 2 ^ 1 == 1) = false := by rw [beq_eq_false_iff_ne]; omega
  have h2 : (v % 2 ^ 32 / 2 ^ 9 % 2 ^ 1 == 1) = true := by rw [beq_iff_eq]; omega
  change wrFld s a SPn_BANK_seal_req n.val 0 v = _
  rw [wrFld_SPn_BANK (f := SPn_BANK_seal_req) hadm hr rfl, h1, h2, State.onIf_true, State.onIf_false]

/-- What was judged stands once the budgets are shown and the write is answered. -/
theorem shown_get {f : Fld} {i j : Nat} (ht : t.wf = true) (hf : touches (maskOf [CHn_BUDGET_budget, CHn_BUDGET_lat_full] []) f = false) :
    ((budgetsShown t).answer a.ini .none).get f i j = t.get f i j := by
  rw [State.answer_get, budgetsShown_get ht hf]

theorem shown_log : ((budgetsShown t).answer a.ini .none).log = t.log := by
  rw [State.answer_log, budgetsShown_log]

theorem swapRequest_accepted (hadm : Admits s a) (hr : s.replayed n.val = false) (hv : v / 4 % 2 = 1) (hw : v / 512 % 2 = 0)
    (hok : swapRefusal s n = 0) : ∃ t, exec (.swapRequest a n v) s = .next t ∧ t.get SPn_BANK_swap n.val = 1 ∧
      t.get SPn_BANK_active n.val = s.get SPn_BANK_active n.val := by
  have hs := hadm.1.2
  have hwf := bankWritten_wf (n := n) (v := v) hs
  have hsame := bankWritten_same (n := n) (v := v) hs
  refine ⟨_, exec_swapRequest hadm hr hv hw, ?_, ?_⟩
  all_goals rw [swapRequest_of_accepted ((hsame.swapRefusal n).trans hok), shown_get (State.put_wf hwf) (by decide +kernel)]
  · exact State.get_put_same hwf
  · rw [State.get_put_ne hwf (by decide)]
    exact hsame.get _ (by decide) _ _

theorem swapRequest_unsealed (hadm : Admits s a) (hr : s.replayed n.val = false) (hv : v / 4 % 2 = 1) (hw : v / 512 % 2 = 0)
    (hno : isSealed s n.val (1 - actBank s n.val) = false) : ∃ t, exec (.swapRequest a n v) s = .next t ∧
      t.get SPn_BANK_swap n.val = s.get SPn_BANK_swap n.val ∧ (s.log.intake.length < 50 → (0x3107, [n.val]) ∈ t.log.intake) := by
  have hs := hadm.1.2
  have hwf := bankWritten_wf (n := n) (v := v) hs
  have hsame := bankWritten_same (n := n) (v := v) hs
  have href : swapRefusal (bankWritten s n v) n ≠ 0 := by
    rw [hsame.swapRefusal, swapRefusal_of_unsealed hno]
    exact Nat.one_ne_zero
  refine ⟨_, exec_swapRequest hadm hr hv hw, ?_, fun hlen => ?_⟩
  · rw [swapRequest_of_refused href, shown_get (State.logEv_wf _ _ _ hwf) (by decide +kernel), logEv_get_of_untouched hwf (by decide +kernel)]
    exact hsame.get _ (by decide) _ _
  · have hroom := bankWritten_intake (s := s) (n := n) (v := v)
    rw [swapRequest_of_refused href, shown_log]
    exact logEv_mem (by omega)

theorem sealOff_get_seal {b : Nat} (hs : s.wf = true) : (sealOff s n b).get (sealFld b) n.val = 0 := by
  have hput : ((s.put (sealFld b) 0 n.val).put (crcFld b) 0 n.val).get (sealFld b) n.val = 0 := by
    rw [State.get_put_ne (State.put_wf hs) (by unfold sealFld crcFld; split <;> decide), State.get_put_same hs, Nat.zero_mod]
  refine Eq.trans ?_ hput
  exact (stepShow_moves ⟨Nat.and_self _⟩ .refl).get (State.put_wf (State.put_wf hs)) (by decide +kernel)
    (sealFld_untouched b (by decide +kernel) (by decide +kernel)) _ _

theorem sealRequest_accepted (hadm : Admits s a) (hr : s.replayed n.val = false) (hv : v / 4 % 2 = 0) (hw : v / 512 % 2 = 1)
    (h1 : s.get SPn_BANK_swap n.val = 0) (h2 : (s.sp n).fbPend = false) (h3 : s.get SPn_BANK_seal_busy n.val = 0) :
    ∃ t, exec (.sealRequest a n v) s = .next t ∧ t.get SPn_BANK_seal_busy n.val = 1 ∧
      t.get (sealFld (1 - actBank s n.val)) n.val = 0 := by
  have hs := hadm.1.2
  have hwf := bankWritten_wf (n := n) (v := v) hs
  have hsame := bankWritten_same (n := n) (v := v) hs
  have hswap : (bankWritten s n v).getB SPn_BANK_swap n.val = false := by
    rw [hsame.getB (by decide), State.getB, h1]
    rfl
  have hbusy : (bankWritten s n v).getB SPn_BANK_seal_busy n.val = false := by
    rw [State.getB, bankWritten_reaches.same hs _ _ _ (by decide +kernel), h3]
    rfl
  have hreq := sealRequest_of_free hswap ((congrArg SpSt.fbPend (hsame.sp n)).trans h2) hbusy
  have hoff : (sealOff (bankWritten s n v) n (1 - actBank s n.val)).wf = true := (sealOff_moves ⟨Nat.and_self _⟩ .refl).wf hwf
  rw [hsame.actBank] at hreq
  refine ⟨_, exec_sealRequest hadm hr hv hw, ?_, ?_⟩
  · rw [hreq, shown_get (State.put_wf hoff) (by decide +kernel), State.get_put_same hoff]
    rfl
  · rw [hreq, shown_get (State.put_wf hoff) (sealFld_untouched _ (by decide +kernel) (by decide +kernel)),
      State.get_put_ne hoff (by unfold sealFld; split <;> decide), sealOff_get_seal hwf]

/-! ### The end of a sealing -/

/-- The checks of R212 read the bank's words alone. -/
theorem bankOk_congr {b : Nat} (h : t.mem.lathe = s.mem.lathe) : bankOk t n b = bankOk s n b := by
  have hword : bankWord t n.val b = bankWord s n.val b := by
    funext k
    simp only [bankWord, State.lw, h]
  have hshape : shapeOf t n.val b = shapeOf s n.val b := by
    unfold shapeOf
    rw [hword]
  unfold bankOk
  rw [hshape, hword]

theorem exec_sealDone (hheld : s.dev.held = false) : exec (.sealDone n) s = .next (sealDone s n) :=
  live_run (f := fun s => sealDone s n) s hheld

theorem sealDone_idle (h : s.get SPn_BANK_seal_busy n.val = 0) : sealDone s n = s := by
  simp [sealDone, State.getB, h]

/-- The request of a sealing that ends goes. -/
def sealEnded (s : State) (n : Ch) : State := (s.put SPn_BANK_seal_busy 0 n.val).put SPn_BANK_seal_req 0 n.val

/-- The bank takes its check words, its CRC and its seal. -/
def sealKept (s : State) (n : Ch) (b : Nat) : State :=
  let h := shapeOf s n.val b
  let m0 := (List.range 4).flatMap (fun i => (List.range 8).map (fun j =>
    acc ((List.range h.nx).map (fun k => (coef s n.val b (0x2A0 + 16 * i + k), coef s n.val b (0x220 + 8 * k + j)))) 0))
  let crc := crc32c ((List.range 0x2F0).flatMap (fun k => wordImage (bankWord s n.val b k)))
  let s := s.forL m0.zipIdx (fun p s => s.putLw (spWord n.val (b * 0x400 + 0x2F0 + p.2)) ⟨sat36 p.1, 0⟩)
  (s.putLw (spWord n.val (b * 0x400 + 0x310)) ⟨(crc : Int), (h.step : Int)⟩).put (crcFld b) crc n.val

theorem sealDone_bad (h : s.get SPn_BANK_seal_busy n.val = 1) (hb : bankOk s n (1 - actBank s n.val) = false) :
    sealDone s n = (sealEnded s n).logEv 0x3105 [n.val] := by
  have hok : bankOk (sealEnded s n) n (1 - actBank s n.val) = false := (bankOk_congr rfl).trans hb
  simp only [sealDone, State.getB, h]
  rw [← sealEnded, hok]
  rfl

theorem sealDone_good (h : s.get SPn_BANK_seal_busy n.val = 1) (hb : bankOk s n (1 - actBank s n.val) = true) :
    sealDone s n = (stepShow ((sealKept (sealEnded s n) n (1 - actBank s n.val)).put (sealFld (1 - actBank s n.val)) 1 n.val) n).logEv
      0x3104 [n.val, 1 - actBank s n.val] := by
  have hok : bankOk (sealEnded s n) n (1 - actBank s n.val) = true := (bankOk_congr rfl).trans hb
  simp only [sealDone, State.getB, h]
  rw [← sealEnded, hok]
  rfl

theorem sealEnded_wf (hs : s.wf = true) : (sealEnded s n).wf = true := State.put_wf (State.put_wf hs)

theorem sealEnded_busy (hs : s.wf = true) : (sealEnded s n).get SPn_BANK_seal_busy n.val = 0 := by
  rw [sealEnded, State.get_put_ne (State.put_wf hs) (by decide), State.get_put_same hs, Nat.zero_mod]

/-- What keeping a seal may reach. -/
theorem sealKept_reaches {b : Nat} : Moves (maskOf [SPn_BANK_CRC_A_crc, SPn_BANK_CRC_B_crc] [.latheWords, .ueKnown, .writebacks]) s (sealKept s n b) := by
  refine State.put_moves ?_ (State.putLw_moves ⟨by decide +kernel⟩ (State.forL_moves .refl fun _ _ => State.putLw_moves ⟨by decide +kernel⟩))
  unfold crcFld
  split
  · exact .inr (by decide +kernel)
  · exact .inr (by decide +kernel)

theorem sealDone_refuses (hheld : s.dev.held = false) (hs : s.wf = true) (h : s.get SPn_BANK_seal_busy n.val = 1)
    (hb : bankOk s n (1 - actBank s n.val) = false) : ∃ t, exec (.sealDone n) s = .next t ∧ t.get SPn_BANK_seal_busy n.val = 0 ∧
      t.get (sealFld (1 - actBank s n.val)) n.val = s.get (sealFld (1 - actBank s n.val)) n.val ∧ Logged s t 0x3105 [n.val] := by
  have hwf := sealEnded_wf (n := n) hs
  refine ⟨_, (exec_sealDone hheld).trans (congrArg _ (sealDone_bad h hb)), ?_, ?_, logged_of rfl⟩
  · rw [logEv_get_of_untouched hwf (by decide +kernel), sealEnded_busy hs]
  · rw [logEv_get_of_untouched hwf (sealFld_untouched _ (by decide +kernel) (by decide +kernel)), sealEnded,
      State.get_put_ne (State.put_wf hs) (by unfold sealFld; split <;> decide), State.get_put_ne hs (by unfold sealFld; split <;> decide)]

theorem sealDone_seals (hheld : s.dev.held = false) (hs : s.wf = true) (h : s.get SPn_BANK_seal_busy n.val = 1)
    (hb : bankOk s n (1 - actBank s n.val) = true) : ∃ t, exec (.sealDone n) s = .next t ∧ t.get SPn_BANK_seal_busy n.val = 0 ∧
      t.get (sealFld (1 - actBank s n.val)) n.val = 1 ∧ Logged s t 0x3104 [n.val, 1 - actBank s n.val] := by
  have hwf := sealEnded_wf (n := n) hs
  have hkept := sealKept_reaches (s := sealEnded s n) (n := n) (b := 1 - actBank s n.val)
  have hput : ((sealKept (sealEnded s n) n (1 - actBank s n.val)).put (sealFld (1 - actBank s n.val)) 1 n.val).wf = true :=
    State.put_wf (hkept.wf hwf)
  have hshow := stepShow_moves (x1 := n) ⟨Nat.and_self _⟩ (Moves.refl (a := (sealKept (sealEnded s n) n (1 - actBank s n.val)).put
    (sealFld (1 - actBank s n.val)) 1 n.val))
  have hlog : (stepShow ((sealKept (sealEnded s n) n (1 - actBank s n.val)).put (sealFld (1 - actBank s n.val)) 1 n.val) n).log = s.log := by
    rw [show _ = _ from hshow.part (p := .log) (by decide +kernel), State.put_log]
    exact hkept.part (p := .log) (by decide +kernel)
  refine ⟨_, (exec_sealDone hheld).trans (congrArg _ (sealDone_good h hb)), ?_, ?_, logged_of hlog⟩
  · rw [logEv_get_of_untouched (hshow.wf hput) (by decide +kernel), hshow.same hput _ _ _ (by decide +kernel),
      State.get_put_ne (hkept.wf hwf) (by unfold sealFld; split <;> decide), hkept.same hwf _ _ _ (by decide +kernel), sealEnded_busy hs]
  · rw [logEv_get_of_untouched (hshow.wf hput) (sealFld_untouched _ (by decide +kernel) (by decide +kernel)),
      hshow.get hput (by decide +kernel) (sealFld_untouched _ (by decide +kernel) (by decide +kernel)), State.get_put_same (hkept.wf hwf)]
    unfold sealFld
    split <;> rfl

/-! ### Oscillation windows and held spindles -/

theorem exec_oscWindowEnd (hheld : s.dev.held = false) : exec (.oscWindowEnd n) s = .next (oscWindowEnd s n) :=
  live_run (f := fun s => oscWindowEnd s n) s hheld

/-- A window that has ended is taken. -/
def oscTaken (s : State) (n : Ch) : State := s.modSp n (fun p => { p with osc := { p.osc with ended := none } })

theorem oscTaken_ended : ((oscTaken s n).sp n).osc.ended = none := by rw [oscTaken, modSp_sp]

/-- OSC is reported before the response (R229). -/
theorem oscAct_reports (resp : Int) (hs : s.wf = true) : (oscAct s n resp).get SPn_OSC_STAT_osc n.val = 1 ∧ Logged s (oscAct s n resp) 0x310D [n.val] ∧
    (oscAct s n resp).sps = s.sps := by
  have hwf : ((s.put SPn_OSC_STAT_osc 1 n.val).incSat SPn_OSC_STAT_osc_cnt n.val).wf = true := State.put_wf (State.put_wf hs)
  generalize hu : ((s.put SPn_OSC_STAT_osc 1 n.val).incSat SPn_OSC_STAT_osc_cnt n.val).logEv 0x310D [n.val] = u
  have huwf : u.wf = true := hu ▸ State.logEv_wf _ _ _ hwf
  have hosc : u.get SPn_OSC_STAT_osc n.val = 1 := by
    rw [← hu, logEv_get_of_untouched hwf (by decide +kernel), State.incSat, State.get_put_ne (State.put_wf hs) (by decide), State.get_put_same hs]
    rfl
  have hlog : Logged s u 0x310D [n.val] := hu ▸ logged_of rfl
  have hsps : u.sps = s.sps := by rw [← hu, State.logEv_sps]; rfl
  have hput : (u.put SPn_BANK_swap 1 n.val).get SPn_OSC_STAT_osc n.val = 1 := (State.get_put_ne huwf (by decide)).trans hosc
  simp only [oscAct, hu]
  split
  · exact ⟨hosc, hlog, hsps⟩
  · split
    · exact ⟨hosc, hlog, hsps⟩
    · split
      · exact ⟨hosc, hlog, hsps⟩
      · exact ⟨hput, hlog, hsps⟩

theorem oscWindowEnd_reports {amp : Int} {cnt : Nat} (hheld : s.dev.held = false) (hs : s.wf = true) (he : (s.sp n).osc.ended = some (amp, cnt))
    (h6 : (s.sp n).osc.cfg.getD 6 0 < amp) (h3 : (s.sp n).osc.cfg.getD 3 0 ≤ (cnt : Int)) (h4 : (cnt : Int) ≤ (s.sp n).osc.cfg.getD 4 0) :
    ∃ t, exec (.oscWindowEnd n) s = .next t ∧ t.get SPn_OSC_STAT_osc n.val = 1 ∧ (t.sp n).osc.ended = none ∧ Logged s t 0x310D [n.val] := by
  have heq : oscWindowEnd s n = oscAct (oscTaken s n) n ((s.sp n).osc.cfg.getD 8 0) := by
    simp only [oscWindowEnd, he, h6, h3, h4, decide_true, Bool.and_self, State.onIf_true, oscTaken]
  obtain ⟨hosc, hlog, hsps⟩ := oscAct_reports (s := oscTaken s n) (n := n) ((s.sp n).osc.cfg.getD 8 0) hs
  refine ⟨_, (exec_oscWindowEnd hheld).trans (congrArg _ heq), hosc, ?_, hlog⟩
  rw [State.sp, hsps, ← State.sp, oscTaken_ended]

theorem oscWindowEnd_quiet {amp : Int} {cnt : Nat} (hheld : s.dev.held = false) (he : (s.sp n).osc.ended = some (amp, cnt))
    (h6 : amp ≤ (s.sp n).osc.cfg.getD 6 0) : ∃ t, exec (.oscWindowEnd n) s = .next t ∧ (t.sp n).osc.ended = none ∧ t.regs = s.regs := by
  have heq : oscWindowEnd s n = oscTaken s n := by
    simp only [oscWindowEnd, he, not_lt.mpr h6, decide_false, Bool.false_and, State.onIf_false, oscTaken]
  exact ⟨_, (exec_oscWindowEnd hheld).trans (congrArg _ heq), oscTaken_ended, rfl⟩

/-- The hold of a spindle in the island's word goes, whatever stood in it. -/
theorem testBit_released (m k : Nat) : (if m.testBit k then m - 2 ^ k else m).testBit k = false := by
  cases h : m.testBit k with
  | false => simpa using h
  | true =>
    have hle : 2 ^ k ≤ m := Nat.ge_two_pow_of_testBit h
    have hadd : (m - 2 ^ k + 2 ^ k).testBit k = !(m - 2 ^ k).testBit k := by rw [Nat.add_comm, Nat.testBit_two_pow_add_eq]
    rw [Nat.sub_add_cancel hle, h] at hadd
    simpa using hadd

theorem putBit_wf {f : Fld} {k i j : Nat} {b : Bool} (hs : s.wf = true) : (s.putBit f k b i j).wf = true := State.put_wf hs

/-- A bit that is set inside its field reads as set. -/
theorem getBit_putBit {f : Fld} {k i j : Nat} (hs : s.wf = true) (hk : k < f.width) : (s.putBit f k true i j).getBit f k i j = true := by
  rw [State.getBit, State.putBit, State.get_put_same hs]
  simp [Nat.testBit_mod_two_pow, hk]

/-- A held spindle that is restored: first its state, then its record, the island's word, the bit that shows it, and the event. -/
theorem spindleRestore_eq (h : (s.sp n).held = true) : ∃ (u : State) (f : SpSt → SpSt), (∀ q, (f q).held = false) ∧ (s.wf = true → u.wf = true) ∧
    spindleRestore s n = ((((u.modSp n f).modBdg (fun b => { b with
      holds := if b.holds.testBit (2 + n.val) then b.holds - 2 ^ (2 + n.val) else b.holds })).putBit
      PRT_LS_STAT_restored (2 + n.val) true).logEv 0x4025 [2 + n.val]) := by
  have hheld : (!(s.sp n).held) = false := by rw [h]; rfl
  cases hstart : (s.sp n).start with
  | none =>
    refine ⟨_, _, ?_, fun hs => State.put_wf (State.put_wf hs), by simp only [spindleRestore, hheld, Bool.false_eq_true, if_false, hstart]; rfl⟩
    exact fun _ => rfl
  | some c =>
    refine ⟨_, _, ?_, fun hs => State.put_wf (State.put_wf ((redoHeld_moves ⟨Nat.and_self _⟩ .refl).wf hs)),
      by simp only [spindleRestore, hheld, Bool.false_eq_true, if_false, hstart]; rfl⟩
    exact fun _ => rfl

theorem spindleRestore_restores (hheld : s.dev.held = false) (hs : s.wf = true) (h : (s.sp n).held = true) :
    ∃ t, exec (.spindleRestore n) s = .next t ∧ (t.sp n).held = false ∧ t.getBit PRT_LS_STAT_restored (2 + n.val) = true ∧
      t.bdg.holds.testBit (2 + n.val) = false := by
  obtain ⟨u, f, hf, hwf, heq⟩ := spindleRestore_eq h
  have hexec : exec (.spindleRestore n) s = .next (spindleRestore s n) :=
    live_run (f := fun s => spindleRestore s n) s hheld
  refine ⟨_, hexec.trans (congrArg _ heq), ?_, ?_, ?_⟩
  · rw [State.sp, State.logEv_sps]
    exact (congrArg SpSt.held (modSp_sp u n f)).trans (hf _)
  · rw [State.getBit, logEv_get_of_untouched (putBit_wf (by exact hwf hs)) (by decide +kernel), ← State.getBit,
      getBit_putBit (by exact hwf hs) (by simp only [PRT_LS_STAT_restored]; omega)]
  · rw [State.logEv_bdg]
    exact testBit_released u.bdg.holds (2 + n.val)

/-! ### Profiles -/

/-- The register of the profile. -/
def profileReg : Reg := ⟨"SYS_PROFILE", 0x40000010, 1, 0x0, 1, 0, [SYS_PROFILE_pending, SYS_PROFILE_cause, SYS_PROFILE_request, SYS_PROFILE_active]⟩

theorem exec_profileRequestWrite (hadm : Admits s a) : exec (.profileRequestWrite a v) s =
    .next ((budgetsShown (if (profRequest s (v / 16 % 4)).1 = 3 then s.logEv 0x0002 [v / 16 % 4, s.get SYS_PROFILE_active]
      else (profRequest s (v / 16 % 4)).2)).answer a.ini .none) := by
  obtain ⟨⟨hheld, hwf⟩, hp, hlock, hc⟩ := hadm
  have hbits : (⟨profileReg, 0, 0, v % 2 ^ 32⟩ : Wr).bits SYS_PROFILE_request = v / 16 % 4 := by
    change v % 2 ^ 32 / 2 ^ 4 % 2 ^ 2 = v / 16 % 4
    omega
  have hpre : ∀ u t, preWrite u t a ⟨profileReg, 0, 0, v % 2 ^ 32⟩ = .act := fun u t => by
    simp [preWrite, preSys, blockOf, Wr.is, profileReg, SYS_PROFILE_request, PLIC_CLAIM_src]
  change wrFld s a SYS_PROFILE_request 0 0 v = _
  have hreg : regOf (SYS_PROFILE_request.at 0 0) = some (profileReg, 0, 0) := regOf_SYS_PROFILE
  rw [wrFld, live_run s hheld, busWrite_reg hc hp rfl hreg rfl, writeReg_open hlock, hpre]
  simp only [postWrite_SYS_PROFILE (w := ⟨profileReg, 0, 0, v % 2 ^ 32⟩) rfl, hbits]
  rfl

theorem shown_pwr : ((budgetsShown t).answer a.ini .none).pwr = t.pwr := by
  refine Eq.trans (b := (budgetsShown t).pwr) rfl ?_
  exact (State.forL_moves .refl fun _ _ => budgetShow_moves ⟨Nat.and_self _⟩).part (p := .pwr) (by decide +kernel)

theorem profileRequest_waits (hadm : Admits s a) (hne : v / 16 % 4 ≠ s.get SYS_PROFILE_active)
    (hc : ∀ k : Ch, s.chState k.val = 0 ∨ s.chState k.val = 2 ∨ s.chState k.val = 6) :
    ∃ t, exec (.profileRequestWrite a v) s = .next t ∧ t.get SYS_PROFILE_request = v / 16 % 4 ∧ t.get SYS_PROFILE_pending = 1 ∧
      t.pwr.profTo = some (v / 16 % 4) ∧ t.get SYS_PROFILE_active = s.get SYS_PROFILE_active := by
  have hs := hadm.1.2
  have hexec := exec_profileRequestWrite (v := v) hadm
  simp only [profRequest_accepted hadm.2.2.1 hne hc, Nat.reduceEqDiff, if_false] at hexec
  have hreq : (s.put SYS_PROFILE_request (v / 16 % 4)).wf = true := State.put_wf hs
  have hput : ((s.put SYS_PROFILE_request (v / 16 % 4)).put SYS_PROFILE_pending 1).wf = true := State.put_wf hreq
  refine ⟨_, hexec, ?_, ?_, ?_, ?_⟩
  · rw [shown_get (by exact hput) (by decide +kernel), State.modPwr_get, State.get_put_ne hreq (by decide), State.get_put_same hs]
    exact Nat.mod_mod _ 4
  · rw [shown_get (by exact hput) (by decide +kernel), State.modPwr_get, State.get_put_same hreq]
    rfl
  · rw [shown_pwr]
    rfl
  · rw [shown_get (by exact hput) (by decide +kernel), State.modPwr_get, State.get_put_ne hreq (by decide), State.get_put_ne hs (by decide)]

theorem profileRequest_refuses (hadm : Admits s a) (hne : v / 16 % 4 ≠ s.get SYS_PROFILE_active) (hc : s.chState n.val = 3) :
    ∃ t, exec (.profileRequestWrite a v) s = .next t ∧ t.get SYS_PROFILE_request = s.get SYS_PROFILE_request ∧
      t.pwr.profTo = s.pwr.profTo ∧ Logged s t 0x0002 [v / 16 % 4, s.get SYS_PROFILE_active] := by
  have hs := hadm.1.2
  have hexec := exec_profileRequestWrite (v := v) hadm
  simp only [profRequest_refused hadm.2.2.1 hne hc, if_true] at hexec
  refine ⟨_, hexec, ?_, ?_, Logged.grows (logged_of rfl) (.of_log shown_log)⟩
  · rw [shown_get (State.logEv_wf _ _ _ hs) (by decide +kernel), logEv_get_of_untouched hs (by decide +kernel)]
  · rw [shown_pwr, State.logEv_pwr]

/-! ### A profile takes effect (R30) -/

/-- The profile that was asked for is active, and the change is over. -/
def profileTaken (s : State) (p : Nat) : State :=
  (((profNow s p).put SYS_PROFILE_cause 1).put SYS_PROFILE_pending 0).modPwr (fun q => { q with profTo := none })

/-- Every converter follows its configuration. -/
def convsFollow (s : State) : State := s.forL (List.finRange 8) (fun c s => convCfg s c)

/-- What a profile brings with it: the converters' modes, the budgets, and the commands that waited for it. -/
def profileFollows (s : State) : State := settleOps (budgetsShown (convsFollow s))

theorem profileEffect_eq {p : Nat} (h : s.pwr.profTo = some p) : profileEffect s = profileFollows ((profileTaken s p).logEv 0x0001 [p]) := by
  simp only [profileEffect, h]
  rfl

theorem profileFollows_grows : Grows s (profileFollows s) := by
  have hconv : (convsFollow s).log = s.log :=
    (State.forL_moves .refl fun _ _ => convCfg_moves ⟨Nat.and_self _⟩).part (p := .log) (by decide +kernel)
  exact (Grows.of_log (budgetsShown_log.trans hconv)).trans (settleOps_grows _)

/-- What a profile brings with it leaves `SYS_PROFILE` and the power controls alone. -/
theorem profileFollows_keeps (hs : s.wf = true) : (profileFollows s).pwr = s.pwr ∧
    ∀ f ∈ [SYS_PROFILE_active, SYS_PROFILE_pending, SYS_PROFILE_cause], (profileFollows s).get f = s.get f := by
  have hconv : Moves _ s (convsFollow s) := State.forL_moves .refl fun _ _ => convCfg_moves ⟨Nat.and_self _⟩
  have hshow : Moves _ (convsFollow s) (budgetsShown (convsFollow s)) := State.forL_moves .refl fun _ _ => budgetShow_moves ⟨Nat.and_self _⟩
  have hsettle := settleOps_moves ⟨Nat.and_self _⟩ (Moves.refl (a := budgetsShown (convsFollow s)))
  have hcwf := hconv.wf hs
  refine ⟨(hsettle.part (p := .pwr) (by decide +kernel)).trans ((hshow.part (p := .pwr) (by decide +kernel)).trans
    (hconv.part (p := .pwr) (by decide +kernel))), fun f hf => ?_⟩
  rw [profileFollows, hsettle.same (hshow.wf hcwf) f 0 0 (by revert f; decide +kernel), hshow.same hcwf f 0 0 (by revert f; decide +kernel),
    hconv.same hs f 0 0 (by revert f; decide +kernel)]

theorem profileTaken_get {p : Nat} (hs : s.wf = true) : (profileTaken s p).wf = true ∧ (profileTaken s p).get SYS_PROFILE_active = p % 4 ∧
    (profileTaken s p).get SYS_PROFILE_pending = 0 ∧ (profileTaken s p).get SYS_PROFILE_cause = 1 := by
  have hnow : (profNow s p).wf = true := (profNow_moves ⟨Nat.and_self _⟩ .refl).wf hs
  have hclear : (s.forL (List.finRange 4) (fun n s => s.modChan n (fun c => { c with prof := none }))).wf = true :=
    (State.forL_moves .refl fun _ _ => State.modChan_moves ⟨Nat.and_self _⟩).wf hs
  have hact : (profNow s p).get SYS_PROFILE_active = p % 4 := State.get_put_same hclear
  have hcause : ((profNow s p).put SYS_PROFILE_cause 1).wf = true := State.put_wf hnow
  refine ⟨State.put_wf hcause, ?_, State.get_put_same hcause, ?_⟩
  · rw [profileTaken, State.modPwr_get, State.get_put_ne hcause (by decide), State.get_put_ne hnow (by decide), hact]
  · rw [profileTaken, State.modPwr_get, State.get_put_ne hcause (by decide), State.get_put_same hnow]
    rfl

theorem profileTaken_log {p : Nat} : (profileTaken s p).log = s.log :=
  (profNow_moves (a := s) (x1 := p) ⟨Nat.and_self _⟩ .refl).part (p := .log) (by decide +kernel)

theorem profileChange_takes (hheld : s.dev.held = false) (hs : s.wf = true) (h : s.pwr.profTo = some (v % 4)) :
    ∃ t, exec .profileChangeEffect s = .next t ∧ t.get SYS_PROFILE_active = v % 4 ∧ t.get SYS_PROFILE_pending = 0 ∧
      t.get SYS_PROFILE_cause = 1 ∧ t.pwr.profTo = none ∧ Logged s t 0x0001 [v % 4] := by
  obtain ⟨hwf, hact, hpend, hcause⟩ := profileTaken_get (p := v % 4) hs
  obtain ⟨hpwr, hget⟩ := profileFollows_keeps (State.logEv_wf _ 0x0001 [v % 4] hwf)
  refine ⟨_, (live_run (f := profileEffect) s hheld).trans (congrArg _ (profileEffect_eq h)), ?_, ?_, ?_, ?_, ?_⟩
  · rw [hget _ (by simp), logEv_get_of_untouched hwf (by decide +kernel), hact, Nat.mod_mod]
  · rw [hget _ (by simp), logEv_get_of_untouched hwf (by decide +kernel), hpend]
  · rw [hget _ (by simp), logEv_get_of_untouched hwf (by decide +kernel), hcause]
  · rw [hpwr, State.logEv_pwr]
    rfl
  · exact Logged.grows (logged_of profileTaken_log) profileFollows_grows

end banks

/-- Settles O18. -/
theorem banksAndProfiles : Obligations.BanksAndProfiles := by
  rintro s a n v amp cnt ⟨hheld, hs⟩
  exact ⟨swapRequest_accepted, swapRequest_unsealed, sealRequest_accepted,
    fun h => (exec_sealDone hheld).trans (congrArg _ (sealDone_idle h)), sealDone_seals hheld hs, sealDone_refuses hheld hs,
    oscWindowEnd_reports hheld hs, oscWindowEnd_quiet hheld, spindleRestore_restores hheld hs, profileRequest_waits, profileRequest_refuses,
    profileChange_takes hheld hs⟩

end Sys2Proof.Proofs
end

section
/-! PROOF. A carrier's registers, a commit in its shadow, and what leaves with it (R13 to R18). -/

namespace Sys2Proof.Proofs

open Sys2Proof Sys2Proof.Machine Sys2Proof.Safety

/-! ### A carrier's registers: a channel's or an auxiliary leg's -/

section carrier
variable {s : State} {r : Carr} {fc fa gc ga : Fld} {v : Nat}

theorem cput_wf (hs : s.wf = true) : (cput s r fc fa v).wf = true := by
  cases r with
  | ch n => exact State.put_wf hs
  | aux a => exact State.put_wf hs

theorem cget_cput_same (hs : s.wf = true) (hw : fa.width = fc.width) : cget (cput s r fc fa v) r fc fa = v % 2 ^ fc.width := by
  cases r with
  | ch n => exact State.get_put_same hs
  | aux a => exact hw ▸ State.get_put_same hs

theorem cget_cput_ne (hs : s.wf = true) (hc : gc.id ≠ fc.id) (ha : ga.id ≠ fa.id) : cget (cput s r fc fa v) r gc ga = cget s r gc ga := by
  cases r with
  | ch n => exact State.get_put_ne hs hc
  | aux a => exact State.get_put_ne hs ha

theorem cget_modCarr {q : Carr} {f : Carrier → Carrier} : cget (s.modCarr q f) r fc fa = cget s r fc fa := by cases r <;> rfl

end carrier

/-! ### A commit in the shadow (R15, R178) -/

section commits
variable {s u : State} {n : Ch} {r : Carr} {c : Commit} {b : Bool}

theorem offerCommit_wf (hs : s.wf = true) : (offerCommit s r c b).wf = true := (offerCommit_moves ⟨Nat.and_self _⟩ .refl).wf hs

theorem offerCommit_pend (hs : s.wf = true) : cget (offerCommit s r c b) r CHn_CSTAT_pend LEGk_CSTAT_pend = 1 := by
  have hput := cget_cput_same (r := r) (fc := CHn_CSTAT_pend) (fa := LEGk_CSTAT_pend) (v := 1)
    (cput_wf (r := r) (fc := CHn_GEN_pend_gen) (fa := LEGk_GEN_pend_gen) (v := c.gen) hs) rfl
  unfold offerCommit
  cases b <;> exact cget_modCarr.trans hput

theorem offerCommit_gen (hs : s.wf = true) : cget (offerCommit s r c b) r CHn_GEN_pend_gen LEGk_GEN_pend_gen = c.gen % 2 ^ 16 := by
  have hput := cget_cput_same (r := r) (fc := CHn_GEN_pend_gen) (fa := LEGk_GEN_pend_gen) (v := c.gen) hs rfl
  have hkeep := cget_cput_ne (r := r) (fc := CHn_CSTAT_pend) (fa := LEGk_CSTAT_pend) (gc := CHn_GEN_pend_gen) (ga := LEGk_GEN_pend_gen) (v := 1)
    (cput_wf (r := r) (fc := CHn_GEN_pend_gen) (fa := LEGk_GEN_pend_gen) (v := c.gen) hs) (by decide) (by decide)
  unfold offerCommit
  cases b <;> exact cget_modCarr.trans (hkeep.trans hput)

/-- A commit that is on time waits for the next reload. -/
theorem offerCommit_carrier : ((offerCommit s r c true).carrier r).pend = some c := by
  simp [offerCommit]

/-! ### A commit that arrives (R13, R15, R16) -/

/-- What leaves with a commit, once it stands in the shadow. -/
def commitLeaves (s : State) (n : Ch) (c : Commit) (late : Bool) : State := replayCompare (commitRecords s n c late) n c late

theorem commitLeaves_get {late : Bool} (hu : u.wf = true) {f : Fld} {i j : Nat}
    (hf : f ∈ [CHn_CSTAT_pend, CHn_GEN_pend_gen, CHn_DLSTAT_consec, CHn_DLSTAT_late, CHn_SLACK_slack_last]) :
    (commitLeaves u n c late).get f i j = u.get f i j := by
  have hrec := commitRecords_moves (x1 := n) (x2 := c) (x3 := late) ⟨Nat.and_self _⟩ (Moves.refl (a := u))
  have hcmp := replayCompare_moves (x1 := n) (x2 := c) (x3 := late) ⟨Nat.and_self _⟩ (Moves.refl (a := commitRecords u n c late))
  rw [commitLeaves, hcmp.same (hrec.wf hu) f i j (by revert f; decide +kernel), hrec.same hu f i j (by revert f; decide +kernel)]

theorem putFrame_owl {key : Nat} {b : List Nat} : (putFrame s key b).owl = s.owl := by
  unfold putFrame
  repeat' split
  all_goals rfl

theorem commitRecords_replay {late : Bool} : (commitRecords u n c late).owl.replay = u.owl.replay := by
  simp only [commitRecords, State.onIf]
  repeat' split
  all_goals simp [snapshot, putFrame_owl]

/-- Outside a replay nothing of it reaches the carriers. -/
theorem commitLeaves_gen {late : Bool} (h : u.owl.replay = none) : (commitLeaves u n c late).gen = u.gen := by
  have hrec : (commitRecords u n c late).gen = u.gen := (commitRecords_moves ⟨Nat.and_self _⟩ .refl).part (p := .gen) (by decide +kernel)
  have hrep : (commitRecords u n c late).owl.replay = none := commitRecords_replay.trans h
  rw [commitLeaves, replayCompare, hrep, hrec]

/-- The channel has received a commit on this tick. -/
def commitCame (s : State) (n : Ch) : State := s.modChan n (fun x => { x with comTs := some s.now })

/-- A commit that is on time ends a run of misses. -/
def missesOver (s : State) (n : Ch) : State := (s.put CHn_DLSTAT_consec 0 n.val).modChan n (fun x => { x with bdgMiss := 0 })

theorem dlApplies_commitCame : dlApplies (commitCame s n) n = dlApplies s n := by
  simp only [dlApplies, spRuns, State.chRuns, State.chState, commitCame, modChan_chan, State.modChan_get]

/-- What a commit does to a running carrier whose channel has not asked for the safe state on this tick. -/
theorem commitIn_taken {late : Bool} (hrun : (s.carrier (.ch n)).run = true) (hsafe : (s.chan n.val).safeTs ≠ some s.now)
    (hlate : (dlApplies s n && ((s.carrier (.ch n)).dlPassed || decide ((s.carrier (.ch n)).deadline ≤ (commitCame s n).now))) = late) :
    commitIn s n c = commitLeaves ((((offerCommit (commitCame s n) (.ch n) c (!late)).onIf late (fun u => u.put CHn_DLSTAT_late 1 n.val)).onIf
        (dlApplies s n && !late) (missesOver · n)).onIf (dlApplies s n)
          (fun u => slackShow u n (if late then 0 else (s.carrier (.ch n)).deadline - u.now))) n c late := by
  have hcome : ¬ (!(s.carrier (.ch n)).run || (s.chan n.val).safeTs == some s.now) = true := by simp [hrun, hsafe]
  rw [commitIn, if_neg hcome, commitLeaves, ← hlate, ← dlApplies_commitCame]
  rfl

theorem commitIn_onTime (hrun : (s.carrier (.ch n)).run = true) (hsafe : (s.chan n.val).safeTs ≠ some s.now) (hdl : dlApplies s n = true)
    (hp : (s.carrier (.ch n)).dlPassed = false) (hd : s.now < (s.carrier (.ch n)).deadline) : commitIn s n c =
      commitLeaves (slackShow (missesOver (offerCommit (commitCame s n) (.ch n) c true) n) n ((s.carrier (.ch n)).deadline - s.now)) n c false := by
  have hnow : s.now = (commitCame s n).now := rfl
  rw [commitIn_taken (late := false) hrun hsafe (by simp [hp, ← hnow, hd]), hdl]
  rfl

theorem commitIn_late (hrun : (s.carrier (.ch n)).run = true) (hsafe : (s.chan n.val).safeTs ≠ some s.now) (hdl : dlApplies s n = true)
    (hd : (s.carrier (.ch n)).dlPassed = true ∨ (s.carrier (.ch n)).deadline ≤ s.now) : commitIn s n c =
      commitLeaves (slackShow ((offerCommit (commitCame s n) (.ch n) c false).put CHn_DLSTAT_late 1 n.val) n 0) n c true := by
  have hnow : s.now = (commitCame s n).now := rfl
  rw [commitIn_taken (late := true) hrun hsafe (by simpa [hdl, ← hnow] using hd), hdl]
  rfl

theorem commitIn_free (hrun : (s.carrier (.ch n)).run = true) (hsafe : (s.chan n.val).safeTs ≠ some s.now) (hdl : dlApplies s n = false) :
    commitIn s n c = commitLeaves (offerCommit (commitCame s n) (.ch n) c true) n c false := by
  rw [commitIn_taken (late := false) hrun hsafe (by rw [hdl]; rfl), hdl]
  rfl

end commits

end Sys2Proof.Proofs
end

section
/-! PROOF. The intake only grows on the way into the safe state (R25, R172). -/

namespace Sys2Proof.Machine

section rules
variable {s t : State} (h : Grows s t)
include h

/-! One rule for each update on the way: those that leave the intake as it is, the deliveries, the branches and the loops. -/

theorem Grows.put {f : Fld} {v i j : Nat} : Grows s (t.put f v i j) := h

theorem Grows.putB {f : Fld} {b : Bool} {i j : Nat} : Grows s (t.putB f b i j) := h

theorem Grows.incSat {f : Fld} {i j : Nat} : Grows s (t.incSat f i j) := h

theorem Grows.irq {k : Nat} : Grows s (t.irq k) := h

theorem Grows.modLeg {k : Leg} {f : LegSt → LegSt} : Grows s (t.modLeg k f) := h

theorem Grows.modLink {l : Lnk} {f : Link → Link} : Grows s (t.modLink l f) := h

theorem Grows.modChan {n : Ch} {f : Chan → Chan} : Grows s (t.modChan n f) := h

theorem Grows.modSp {n : Ch} {f : SpSt → SpSt} : Grows s (t.modSp n f) := h

theorem Grows.modFld {n : Ch} {f : FldSt → FldSt} : Grows s (t.modFld n f) := h

theorem Grows.logEv {c : Nat} {l : List Nat} : Grows s (t.logEv c l) := h.trans (logEv_grows t c l)

theorem Grows.owlRec {ty src : Nat} {l : List Nat} : Grows s (t.owlRec ty src l) := h.trans (owlRec_grows t ty src l)

theorem Grows.owlTrig {b : Nat} : Grows s (t.owlTrig b) := h.trans (owlTrig_grows t b)

theorem Grows.onIf {c : Bool} {f : State → State} (hf : ∀ v, Grows s v → Grows s (f v)) : Grows s (t.onIf c f) := by
  cases c with
  | false => exact h
  | true => exact hf t h

theorem Grows.forL {α : Type} {l : List α} {f : α → State → State} (hf : ∀ x v, Grows s v → Grows s (f x v)) : Grows s (t.forL l f) := by
  unfold State.forL
  induction l generalizing t with
  | nil => exact h
  | cons x l ih => exact ih (hf x t h)

/-- An update that leaves the intake as it is. -/
theorem Grows.log {u : State} (hl : u.log = t.log) : Grows s u := h.trans (.of_log hl)

end rules

end Sys2Proof.Machine

namespace Sys2Proof.Proofs

open Sys2Proof Sys2Proof.Machine Sys2Proof.Safety

/-! ### Legs and the selector -/

theorem chopWatch_grows (s : State) (k : Leg) : Grows s (chopWatch s k) :=
  (Grows.refl s).forL fun _ _ h => h.onIf fun _ h => h.put.logEv.modLink

theorem blankStart_log (s : State) (k : Leg) : (s.blankStart k).log = s.log :=
  (State.blankStart_moves ⟨Nat.and_self _⟩ .refl).part (p := .log) (by decide +kernel)

theorem legApply_grows (s : State) (e b : Bool) (k : Leg) : Grows s (s.legApply e b k) := by
  unfold State.legApply
  extract_lets
  split
  · exact .refl s
  · refine Grows.onIf (Grows.onIf ?_ fun u h => h.trans (chopWatch_grows u k)) fun v h => h.log (blankStart_log v k)
    exact (Grows.refl s).modLeg.putB.putB.put.putB

theorem legsApply_grows (s : State) : Grows s s.legsApply := (Grows.refl s).forL fun k v h => h.trans (legApply_grows v false false k)

theorem setPat_grows (s : State) (n : Ch) (pat : Nat) : Grows s (setPat s n pat) := ((Grows.refl s).put.put.trans (legsApply_grows _)).put

theorem selUpdate_grows (s : State) (n : Ch) : Grows s (selUpdate s n) := by
  have hlegs (c : Bool) : Grows s ((selShow (s.put CHn_STATE_sel (selChoice s n) n.val) n).onIf c State.legsApply) :=
    (Grows.refl s).put.put.onIf fun u h => h.trans (legsApply_grows u)
  unfold selUpdate
  extract_lets
  repeat' split
  · exact hlegs _
  · exact hlegs _
  · exact (hlegs _).trans (setPat_grows _ n _)
  · exact ((hlegs _).put.trans (setPat_grows _ n _)).logEv
  · exact hlegs _

/-! ### Into the safe state -/

theorem setState_grows (s : State) (n : Ch) (new cause : Nat) : Grows s (setState s n new cause) := by
  have hstops : ∀ u v : State, Grows s u → Grows s (u.forL (carrLegs v (.ch n)) fun k v => v.modLeg k fun g => { g with forced := none }) :=
    fun _ _ h => h.forL fun _ _ h => h.modLeg
  have hnew := ((((Grows.refl s).put (f := CHn_STATE_prev) (v := s.chState n.val) (i := n.val) (j := 0)).put (f := CHn_STATE_state) (v := new)
    (i := n.val) (j := 0)).logEv (c := 0x2410) (l := [n.val, s.chState n.val, new, cause])).irq (k := 2 + n.val)
  unfold setState
  extract_lets
  refine Grows.trans (Grows.onIf (Grows.onIf (Grows.onIf (Grows.onIf (Grows.onIf hnew.owlRec ?_) ?_) ?_) ?_) ?_) (legsApply_grows _)
  · exact fun _ h => h.owlTrig
  · exact fun _ h => h.put.put.put
  · exact fun _ h => h.put.put
  · exact fun _ h => h.put.put
  · exact fun u h => (hstops u u h).put.modChan.put.put.modSp.modFld.modChan

theorem notReady_grows (s : State) (cause : Nat) : Grows s (notReady s cause) := by
  refine (Grows.refl s).onIf fun u h => ?_
  unfold setReady
  split
  · exact h
  · extract_lets v _ w
    have hcause : Grows s v := h.onIf fun _ h => h.put
    have hdown : Grows s w := hcause.log rfl
    exact hdown.put.logEv

theorem strayMark_grows (s : State) (n : Ch) : Grows s (strayMark s n) :=
  (Grows.refl s).onIf fun u h =>
    Grows.trans (h.log (u := { u with tls := { u.tls with stray := u.tls.stray ||| 2 ^ n.val } }) rfl) (notReady_grows _ _)

theorem intoSafe_grows (s : State) (m : Ch) (cause : Nat) (safety : Bool) (pat : Nat) (held : Bool) :
    Grows s (intoSafe s m cause safety pat held) :=
  ((strayMark_grows s m).put.putB.trans (setState_grows _ m 6 cause)).modChan.putB.putB.trans (setPat_grows _ m pat)

theorem endDischarge_log (s : State) (l : Lnk) (st : Nat) : (endDischarge s l st).log = s.log :=
  (endDischarge_moves ⟨Nat.and_self _⟩ .refl).part (p := .log) (by decide +kernel)

theorem enterSafe_grows (s : State) (n : Ch) (cause : Nat) (safety : Bool) (pat : Nat) (held : Bool) :
    Grows s (enterSafe s n cause safety pat held) := by
  unfold enterSafe
  refine Grows.forL (Grows.trans ?_ (intoSafe_grows _ n cause safety pat held)) fun _ _ h => h.trans (intoSafe_grows _ _ _ _ _ _)
  split
  · exact .of_log (endDischarge_log s _ _)
  · exact .refl s

theorem safeRequest_grows (s : State) (n : Ch) (cause : Nat) : Grows s (safeRequest s n cause) := by
  have hmark : (safeMark s n).log = s.log := (safeMark_moves ⟨Nat.and_self _⟩ .refl).part (p := .log) (by decide +kernel)
  have hsel : Grows s (selUpdate (safeMark s n) n) := (Grows.of_log hmark).trans (selUpdate_grows _ n)
  unfold safeRequest
  extract_lets _ u
  split
  · have hcause : Grows s u := hsel.onIf fun _ h => h.put.put
    split
    · exact hcause.put.trans (setPat_grows _ n _)
    · exact hcause
  · exact hsel.trans (enterSafe_grows _ n cause true _ false)

/-! ### A replay that diverges (R458) -/

theorem gateEnd_grows (s : State) (f : Fld) : Grows s (s.gateEnd f) := by
  unfold State.gateEnd State.gateRelease
  repeat' split
  · exact (Grows.refl s).put
  · exact ((Grows.refl s).put.forL fun _ _ h => h.modLeg).trans (legsApply_grows _)
  · exact .refl s

theorem endReplay_grows (s : State) (result : Nat) : Grows s (endReplay s result) := by
  unfold endReplay
  split
  · exact .refl s
  · extract_lets _ u v
    have hover : Grows s u := (Grows.refl s).log rfl
    have hstop : Grows s v := hover.forL fun n _ h => h.onIf fun w h => h.trans (setState_grows w n 0 0xFF)
    exact (hstop.trans (gateEnd_grows v LEG_OGATE_replay)).put.put.put.logEv

theorem diverge_grows (s : State) (kind ch idx per : Nat) : Grows s (diverge s kind ch idx per) := by
  unfold diverge
  split
  · exact .refl s
  · extract_lets _ _ u
    have hfirst : Grows s u := (Grows.refl s).incSat.onIf fun _ h => h.put.put.put.put.logEv
    split
    · exact hfirst.trans (endReplay_grows _ 2)
    · exact hfirst

theorem replayNo_grows (s : State) (n : Ch) (cause : Nat) : Grows s (replayNo s n cause) := by
  unfold replayNo
  repeat' split
  · exact .refl s
  · exact diverge_grows _ _ _ _ _
  · exact .refl s
  · exact diverge_grows _ _ _ _ _

end Sys2Proof.Proofs
end

section
/-! PROOF. Commits, deadlines and the planned edges (O15). -/

namespace Sys2Proof.Proofs

open Sys2Proof Sys2Proof.Machine Sys2Proof.Safety

/-! ### A commit from the spindle (R13 to R16) -/

section arrival
variable {s u : State} {n : Ch} {c : Commit}

/-- The commit has left the spindle's pipeline. -/
def commitOut (s : State) (n : Ch) : State := s.modSp n (fun p => { p with out := none })

theorem commitOut_out : ((commitOut s n).sp n).out = none := by rw [commitOut, modSp_sp]

theorem exec_commitArrival (hheld : s.dev.held = false) (hout : (s.sp n).out = some c) : exec (.commitArrival n) s =
    .next (if s.get CHn_CTL_src n.val = 1 then commitOut s n else commitIn (commitOut s n) n c) := by
  change execCommitArrival n s = _
  simp only [execCommitArrival, live_run s hheld, commitArrival, hout]
  rfl

theorem commitIn_safe (hsafe : (s.chan n.val).safeTs = some s.now) : commitIn s n c = s := by simp [commitIn, hsafe]

theorem slackShow_get {slack : Nat} {f : Fld} {i : Nat} (hs : s.wf = true)
    (hf : f ∈ [CHn_CSTAT_pend, CHn_GEN_pend_gen, CHn_DLSTAT_consec, CHn_DLSTAT_late]) :
    (slackShow s n slack).get f i = s.get f i :=
  get_of_untouched (slackShow_moves (x1 := n) (x2 := slack) ⟨Nat.and_self _⟩ .refl) hs (by decide +kernel) (by revert f; decide +kernel)

theorem slackShow_last {slack : Nat} (hs : s.wf = true) : (slackShow s n slack).get CHn_SLACK_slack_last n.val = min slack 0xFFFFF := by
  have hput : (s.put CHn_SLACK_slack_last (min slack 0xFFFFF) n.val).get CHn_SLACK_slack_last n.val = min slack 0xFFFFF := by
    rw [State.get_put_same hs]
    exact Nat.mod_eq_of_lt (Nat.lt_of_le_of_lt (Nat.min_le_right _ _) (by decide))
  rw [← hput]
  unfold slackShow
  extract_lets u v
  have hv : v.wf = true := State.put_wf (State.put_wf hs)
  have hmin : v.get CHn_SLACK_slack_last n.val = u.get CHn_SLACK_slack_last n.val := State.get_put_ne (State.put_wf hs) (by decide)
  rw [← hmin]
  unfold State.onIf
  split
  · exact logEv_get_of_untouched hv (by decide +kernel)
  · rfl

/-- A commit on time: what the channel's registers show. -/
theorem commitIn_onTime_shows (hs : s.wf = true) (hrun : (s.carrier (.ch n)).run = true) (hsafe : (s.chan n.val).safeTs ≠ some s.now)
    (hdl : dlApplies s n = true) (hp : (s.carrier (.ch n)).dlPassed = false) (hd : s.now < (s.carrier (.ch n)).deadline) :
    (commitIn s n c).get CHn_CSTAT_pend n.val = 1 ∧ (commitIn s n c).get CHn_GEN_pend_gen n.val = c.gen % 2 ^ 16 ∧
      (commitIn s n c).get CHn_DLSTAT_consec n.val = 0 ∧
      (commitIn s n c).get CHn_SLACK_slack_last n.val = min ((s.carrier (.ch n)).deadline - s.now) 0xFFFFF := by
  have hoff : (offerCommit (commitCame s n) (.ch n) c true).wf = true := offerCommit_wf (s := commitCame s n) hs
  have hover : (missesOver (offerCommit (commitCame s n) (.ch n) c true) n).wf = true := State.put_wf hoff
  have hpend := offerCommit_pend (r := .ch n) (c := c) (b := true) (s := commitCame s n) hs
  have hgen := offerCommit_gen (r := .ch n) (c := c) (b := true) (s := commitCame s n) hs
  have hwf : (slackShow (missesOver (offerCommit (commitCame s n) (.ch n) c true) n) n ((s.carrier (.ch n)).deadline - s.now)).wf = true :=
    (slackShow_moves ⟨Nat.and_self _⟩ .refl).wf hover
  rw [commitIn_onTime hrun hsafe hdl hp hd, commitLeaves_get hwf (by decide), commitLeaves_get hwf (by decide), commitLeaves_get hwf (by decide),
    commitLeaves_get hwf (by decide), slackShow_last hover, slackShow_get hover (by decide), slackShow_get hover (by decide),
    slackShow_get hover (by decide)]
  refine ⟨?_, ?_, State.get_put_same hoff, rfl⟩
  · rw [← hpend]
    exact State.get_put_ne hoff (by decide)
  · rw [← hgen]
    exact State.get_put_ne hoff (by decide)

/-- A late commit: what the channel's registers show. -/
theorem commitIn_late_shows (hs : s.wf = true) (hrun : (s.carrier (.ch n)).run = true) (hsafe : (s.chan n.val).safeTs ≠ some s.now)
    (hdl : dlApplies s n = true) (hd : (s.carrier (.ch n)).dlPassed = true ∨ (s.carrier (.ch n)).deadline ≤ s.now) :
    (commitIn s n c).get CHn_CSTAT_pend n.val = 1 ∧ (commitIn s n c).get CHn_GEN_pend_gen n.val = c.gen % 2 ^ 16 ∧
      (commitIn s n c).get CHn_DLSTAT_late n.val = 1 ∧ (commitIn s n c).get CHn_SLACK_slack_last n.val = 0 := by
  have hoff : (offerCommit (commitCame s n) (.ch n) c false).wf = true := offerCommit_wf (s := commitCame s n) hs
  have hput : ((offerCommit (commitCame s n) (.ch n) c false).put CHn_DLSTAT_late 1 n.val).wf = true := State.put_wf hoff
  have hpend := offerCommit_pend (r := .ch n) (c := c) (b := false) (s := commitCame s n) hs
  have hgen := offerCommit_gen (r := .ch n) (c := c) (b := false) (s := commitCame s n) hs
  have hwf : (slackShow ((offerCommit (commitCame s n) (.ch n) c false).put CHn_DLSTAT_late 1 n.val) n 0).wf = true :=
    (slackShow_moves ⟨Nat.and_self _⟩ .refl).wf hput
  rw [commitIn_late hrun hsafe hdl hd, commitLeaves_get hwf (by decide), commitLeaves_get hwf (by decide), commitLeaves_get hwf (by decide),
    commitLeaves_get hwf (by decide), slackShow_last hput, slackShow_get hput (by decide), slackShow_get hput (by decide),
    slackShow_get hput (by decide)]
  refine ⟨?_, ?_, State.get_put_same hoff, rfl⟩
  · rw [← hpend]
    exact State.get_put_ne hoff (by decide)
  · rw [← hgen]
    exact State.get_put_ne hoff (by decide)

theorem commitArrival_taken (hs : s.wf = true) (hheld : s.dev.held = false) (hout : (s.sp n).out = some c)
    (hsrc : s.get CHn_CTL_src n.val ≠ 1) (hrun : (s.carrier (.ch n)).run = true) (hdl : dlApplies s n = true)
    (hsafe : (s.chan n.val).safeTs ≠ some s.now) :
    ∃ t, exec (.commitArrival n) s = .next t ∧ t.get CHn_CSTAT_pend n.val = 1 ∧ t.get CHn_GEN_pend_gen n.val = c.gen % 2 ^ 16 ∧
      ((s.carrier (.ch n)).dlPassed = false → s.now < (s.carrier (.ch n)).deadline → t.get CHn_DLSTAT_consec n.val = 0 ∧
        t.get CHn_SLACK_slack_last n.val = min ((s.carrier (.ch n)).deadline - s.now) 0xFFFFF) ∧
      ((s.carrier (.ch n)).deadline ≤ s.now → t.get CHn_DLSTAT_late n.val = 1 ∧ t.get CHn_SLACK_slack_last n.val = 0) := by
  have hexec := exec_commitArrival hheld hout
  rw [if_neg hsrc] at hexec
  have hso : (commitOut s n).wf = true := hs
  have hro : ((commitOut s n).carrier (.ch n)).run = true := hrun
  have hfo : ((commitOut s n).chan n.val).safeTs ≠ some (commitOut s n).now := hsafe
  have hdo : dlApplies (commitOut s n) n = true := hdl
  by_cases hd : (s.carrier (.ch n)).dlPassed = false ∧ s.now < (s.carrier (.ch n)).deadline
  · obtain ⟨hp, hd⟩ := hd
    obtain ⟨hpend, hgen, hconsec, hslack⟩ := commitIn_onTime_shows (c := c) hso hro hfo hdo hp hd
    exact ⟨_, hexec, hpend, hgen, fun _ _ => ⟨hconsec, hslack⟩, fun h => absurd hd (Nat.not_lt.mpr h)⟩
  · have hlate : (s.carrier (.ch n)).dlPassed = true ∨ (s.carrier (.ch n)).deadline ≤ s.now := by
      by_contra h
      simp only [not_or, Bool.not_eq_true, Nat.not_le] at h
      exact hd h
    obtain ⟨hpend, hgen, hl, hslack⟩ := commitIn_late_shows (c := c) hso hro hfo hdo hlate
    exact ⟨_, hexec, hpend, hgen, fun hp h => absurd ⟨hp, h⟩ hd, fun _ => ⟨hl, hslack⟩⟩

theorem commitArrival_discarded (hheld : s.dev.held = false) (hout : (s.sp n).out = some c) (hsafe : (s.chan n.val).safeTs = some s.now) :
    ∃ t, exec (.commitArrival n) s = .next t ∧ t.gen = s.gen ∧ t.regs = s.regs ∧ (t.sp n).out = none := by
  have hexec := exec_commitArrival hheld hout
  rw [commitIn_safe (s := commitOut s n) hsafe, ite_self] at hexec
  exact ⟨_, hexec, rfl, rfl, commitOut_out⟩

end arrival

/-! ### A deadline that passes (R15, R16, R25) -/

section deadline
variable {s u : State} {n : Ch}

/-- The carrier's deadline has passed in this period. -/
def deadlinePassed (s : State) (n : Ch) : State := s.modCarr (.ch n) (fun k => { k with dlPassed := true })

theorem exec_commitDeadline (hheld : s.dev.held = false) (hrun : (s.carrier (.ch n)).run = true) (hp : (s.carrier (.ch n)).dlPassed = false)
    (hdl : dlApplies s n = true) : exec (.commitDeadline n) s =
      .next (if (s.carrier (.ch n)).onTime then missesOver (deadlinePassed s n) n
        else if (s.carrier (.ch n)).blocked then
          replayNo (((deadlinePassed s n).put CHn_DLSTAT_cause 2 n.val).owlRec 0x0C n.val [2]) n 2
        else deadlineMiss (deadlinePassed s n) n) := by
  change execCommitDeadline n s = _
  simp only [execCommitDeadline, live_run s hheld, commitDeadline, hrun, hp, hdl]
  rfl

theorem badgerMiss_log : (badgerMiss s n).log = s.log := (badgerMiss_moves ⟨Nat.and_self _⟩ .refl).part (p := .log) (by decide +kernel)

/-- What a field shows is still there after a function that does not reach it. -/
theorem shows_through {m : Nat} {t : State} {f : Fld} {i v : Nat} (h : s.wf = true ∧ s.get f i = v) (hm : Moves m s t)
    (hf : (m.testBit 0 || touches m f) = false) : t.wf = true ∧ t.get f i = v :=
  ⟨hm.wf h.1, (hm.same h.1 f i 0 hf).trans h.2⟩

/-- The miss in the channel's registers. -/
def missCounted (s : State) (n : Ch) : State :=
  ((((s.logEv 0x2401 [n.val]).put CHn_DLSTAT_miss 1 n.val).incSat CHn_DLSTAT_miss_cnt n.val).put CHn_DLSTAT_cause 1 n.val).incSat
    CHn_DLSTAT_consec n.val

/-- The miss as the cores, Owl, a replay and Badger are told of it. -/
def missTold (u : State) (n : Ch) : State :=
  badgerMiss (replayNo (((u.irq (2 + n.val)).owlTrig 3).owlRec 0x0C n.val [1]) n 1) n

theorem deadlineMiss_eq : deadlineMiss s n = (missTold (missCounted s n) n).onIf
    (decide (dlMax (missTold (missCounted s n) n) n ≤ (missTold (missCounted s n) n).get CHn_DLSTAT_consec n.val))
      (fun v => safeRequest v n (chSrc n.val 0)) := rfl

theorem missTold_shows {f : Fld} {i v : Nat} (hf : f ∈ [CHn_DLSTAT_cause, CHn_DLSTAT_miss]) (h : u.wf = true ∧ u.get f i = v) :
    (missTold u n).wf = true ∧ (missTold u n).get f i = v := by
  have hirq := shows_through h (State.irq_moves (x1 := 2 + n.val) ⟨Nat.and_self _⟩ .refl) (by clear h; revert f; decide +kernel)
  have htrig := shows_through hirq (State.owlTrig_moves (x1 := 3) ⟨Nat.and_self _⟩ .refl) (by clear h hirq; revert f; decide +kernel)
  have hrec := shows_through htrig (State.owlRec_moves (x1 := 0x0C) (x2 := n.val) (x3 := [1]) ⟨Nat.and_self _⟩ .refl)
    (by clear h hirq htrig; revert f; decide +kernel)
  have hno := shows_through hrec (replayNo_moves (x1 := n) (x2 := 1) ⟨Nat.and_self _⟩ .refl)
    (by clear h hirq htrig hrec; revert f; decide +kernel)
  exact shows_through hno (badgerMiss_moves (x1 := n) ⟨Nat.and_self _⟩ .refl) (by clear h hirq htrig hrec hno; revert f; decide +kernel)

/-- A request for the safe state leaves the records of deadlines alone. -/
theorem deadlineMiss_follows {f : Fld} {i v : Nat} (hf : f ∈ [CHn_DLSTAT_cause, CHn_DLSTAT_miss])
    (h : (missCounted s n).wf = true ∧ (missCounted s n).get f i = v) : (deadlineMiss s n).get f i = v := by
  have htold := missTold_shows (n := n) hf h
  rw [deadlineMiss_eq, State.onIf]
  split
  · exact (shows_through htold (safeRequest_moves ⟨Nat.and_self _⟩ .refl) (by clear h htold; revert f; decide +kernel)).2
  · exact htold.2

theorem deadlineMiss_shows (hs : s.wf = true) : (deadlineMiss s n).get CHn_DLSTAT_cause n.val = 1 ∧
    (deadlineMiss s n).get CHn_DLSTAT_miss n.val = 1 := by
  have hlog : (s.logEv 0x2401 [n.val]).wf = true := State.logEv_wf _ _ _ hs
  have hmiss := State.put_wf (f := CHn_DLSTAT_miss) (v := 1) (i := n.val) (j := 0) hlog
  have hcnt : (((s.logEv 0x2401 [n.val]).put CHn_DLSTAT_miss 1 n.val).incSat CHn_DLSTAT_miss_cnt n.val).wf = true := State.put_wf hmiss
  have hcause := State.put_wf (f := CHn_DLSTAT_cause) (v := 1) (i := n.val) (j := 0) hcnt
  refine ⟨deadlineMiss_follows (by decide) ⟨State.put_wf hcause, ?_⟩, deadlineMiss_follows (by decide) ⟨State.put_wf hcause, ?_⟩⟩
  · rw [missCounted, State.incSat, State.get_put_ne hcause (by decide), State.get_put_same hcnt]
    rfl
  · rw [missCounted, State.incSat, State.get_put_ne hcause (by decide), State.get_put_ne hcnt (by decide), State.incSat,
      State.get_put_ne hmiss (by decide), State.get_put_same hlog]
    rfl

theorem missTold_grows : Grows u (missTold u n) :=
  ((Grows.refl u).irq.owlTrig.owlRec.trans (replayNo_grows _ n 1)).log badgerMiss_log

theorem deadlineMiss_grows : Grows (s.logEv 0x2401 [n.val]) (deadlineMiss s n) := by
  have hcount : Grows (s.logEv 0x2401 [n.val]) (missCounted s n) := (Grows.refl _).put.incSat.put.incSat
  rw [deadlineMiss_eq]
  exact (hcount.trans missTold_grows).onIf fun v h => h.trans (safeRequest_grows v n _)

theorem blockedMiss_cause (hs : s.wf = true) :
    (replayNo ((s.put CHn_DLSTAT_cause 2 n.val).owlRec 0x0C n.val [2]) n 2).get CHn_DLSTAT_cause n.val = 2 := by
  have hput : (s.put CHn_DLSTAT_cause 2 n.val).wf = true ∧ (s.put CHn_DLSTAT_cause 2 n.val).get CHn_DLSTAT_cause n.val = 2 :=
    ⟨State.put_wf hs, State.get_put_same hs⟩
  have hrec := shows_through hput (State.owlRec_moves (x1 := 0x0C) (x2 := n.val) (x3 := [2]) ⟨Nat.and_self _⟩ .refl) (by decide +kernel)
  exact (shows_through hrec (replayNo_moves ⟨Nat.and_self _⟩ .refl) (by decide +kernel)).2

/-- A deadline ends a run of misses, or it is a miss, which a carrier that is blocked does not count. -/
theorem commitDeadline_clause (hs : s.wf = true) (hheld : s.dev.held = false) (hrun : (s.carrier (.ch n)).run = true)
    (hp : (s.carrier (.ch n)).dlPassed = false) (hdl : dlApplies s n = true) :
    ∃ t, exec (.commitDeadline n) s = .next t ∧
      ((s.carrier (.ch n)).onTime = true → t.get CHn_DLSTAT_consec n.val = 0 ∧ t.inflight = s.inflight) ∧
      ((s.carrier (.ch n)).onTime = false → (s.carrier (.ch n)).blocked = true → t.get CHn_DLSTAT_cause n.val = 2) ∧
      ((s.carrier (.ch n)).onTime = false → (s.carrier (.ch n)).blocked = false →
        t.get CHn_DLSTAT_cause n.val = 1 ∧ t.get CHn_DLSTAT_miss n.val = 1 ∧ Logged s t 0x2401 [n.val]) := by
  have hpass : (deadlinePassed s n).wf = true := hs
  refine ⟨_, exec_commitDeadline hheld hrun hp hdl, fun h => ?_, fun h hb => ?_, fun h hb => ?_⟩
  · rw [if_pos h]
    exact ⟨State.get_put_same hpass, rfl⟩
  · rw [if_neg (by simp [h]), if_pos hb]
    exact blockedMiss_cause hpass
  · rw [if_neg (by simp [h]), if_neg (by simp [hb])]
    obtain ⟨hcause, hmiss⟩ := deadlineMiss_shows (n := n) hpass
    exact ⟨hcause, hmiss, Logged.grows (logged_of (u := deadlinePassed s n) rfl) deadlineMiss_grows⟩

end deadline

/-! ### Software's commits (R174, R178) -/

section software
variable {s u t : State} {a : Access} {n : Ch} {l : Fin 4} {v : Nat}

/-- The registers through which software commits a channel and an auxiliary leg. -/
def commitReg : Reg := ⟨"CHn_COMMIT", 0x40240030, 4, 0x100, 1, 0, [CHn_COMMIT_go, CHn_COMMIT_gen]⟩

def legCommitReg : Reg := ⟨"LEGk_COMMIT", 0x4020002c, 16, 0x40, 1, 0, [LEGk_COMMIT_go, LEGk_COMMIT_gen]⟩

theorem auxOf_val (l : Fin 4) : auxOf l.val = l := by simp [auxOf, Nat.mod_eq_of_lt l.isLt]

theorem carrier_of_gen {r : Carr} (h : t.gen = s.gen) : t.carrier r = s.carrier r := by simp [State.carrier, h]

theorem shown_gen : ((budgetsShown t).answer a.ini .none).gen = t.gen := by
  refine Eq.trans (b := (budgetsShown t).gen) rfl ?_
  exact (State.forL_moves .refl fun _ _ => budgetShow_moves ⟨Nat.and_self _⟩).part (p := .gen) (by decide +kernel)

theorem commitLeaves_wf {c : Commit} {late : Bool} (hu : u.wf = true) : (commitLeaves u n c late).wf = true :=
  (replayCompare_moves ⟨Nat.and_self _⟩ .refl).wf ((commitRecords_moves ⟨Nat.and_self _⟩ .refl).wf hu)

theorem preWrite_CHn_COMMIT (hgo : v / 2 ^ 31 % 2 = 1) (hsrc : u.get CHn_CTL_src n.val ≠ 0) (hsix : n = 1 → u.six = false) :
    preWrite u t a ⟨commitReg, n.val, 0, v⟩ = .act := by
  simp [preWrite, preCh, blockOf, Wr.is, Wr.bits, Wr.ch, chOf_val, commitReg, CHn_TIMING_dl_max, CHn_CTL_src, CHn_CARR_en, CHn_PER_per,
    CHn_DUTYk_duty, CHn_COMMIT_go]
  rw [if_neg (by omega), if_neg]
  rintro (⟨hn, h⟩ | h)
  · rw [hsix (Fin.ext hn)] at h
    exact absurd h (by decide)
  · exact hsrc h

theorem postWrite_CHn_COMMIT : postWrite u a ⟨commitReg, n.val, 0, v⟩ t = commitIn t n (shadowCommit t (.ch n) (v % 2 ^ 16)) := by
  simp [postWrite, postCh, blockOf, Wr.is, Wr.bits, Wr.ch, chOf_val, commitReg, CHn_TIMING_dl_max, CHn_CTL_six, CHn_CARR_en, CHn_COMMIT_go,
    CHn_COMMIT_gen]

theorem exec_commitWrite (hadm : Admits s a) (hgo : v / 2 ^ 31 % 2 = 1) (hsrc : s.get CHn_CTL_src n.val ≠ 0)
    (hsix : n = 1 → s.six = false) : exec (.commitWrite a n v) s =
      .next ((budgetsShown (commitIn s n (shadowCommit s (.ch n) (v % 65536)))).answer a.ini .none) := by
  obtain ⟨⟨hheld, hwf⟩, hp, hlock, hc⟩ := hadm
  have hreg : regOf (CHn_COMMIT_go.at n.val 0) = some (commitReg, n.val, 0) := regOf_CHn_COMMIT n
  have hbus : busAddr (CHn_COMMIT_go.at n.val 0) = true := by fin_cases n <;> rfl
  have hgen : v % 2 ^ 32 % 2 ^ 16 = v % 65536 := by omega
  change wrFld s a CHn_COMMIT_go n.val 0 v = _
  rw [wrFld, live_run s hheld, busWrite_reg hc hp hbus hreg rfl, writeReg_open hlock, preWrite_CHn_COMMIT (by omega) hsrc hsix]
  simp only [postWrite_CHn_COMMIT, hgen]
  rfl

theorem commitWrite_offers (hadm : Admits s a) (hgo : v / 2 ^ 31 % 2 = 1) (hsrc : s.get CHn_CTL_src n.val ≠ 0)
    (hsix : n = 1 → s.six = false) (hrun : (s.carrier (.ch n)).run = true) (hdl : dlApplies s n = false) (hrep : s.owl.replay = none)
    (hsafe : (s.chan n.val).safeTs ≠ some s.now) : ∃ t, exec (.commitWrite a n v) s = .next t ∧
      (t.carrier (.ch n)).pend = some (shadowCommit s (.ch n) (v % 65536)) ∧ t.get CHn_CSTAT_pend n.val = 1 := by
  have hs := hadm.1.2
  have hexec := exec_commitWrite hadm hgo hsrc hsix
  rw [commitIn_free hrun hsafe hdl] at hexec
  have hoff : (offerCommit (commitCame s n) (.ch n) (shadowCommit s (.ch n) (v % 65536)) true).wf = true :=
    offerCommit_wf (s := commitCame s n) hs
  have hrep' : (offerCommit (commitCame s n) (.ch n) (shadowCommit s (.ch n) (v % 65536)) true).owl.replay = none :=
    (congrArg OwlSt.replay ((offerCommit_moves ⟨Nat.and_self _⟩ .refl).part (p := .owl) (by decide +kernel))).trans hrep
  refine ⟨_, hexec, ?_, ?_⟩
  · rw [carrier_of_gen (shown_gen.trans (commitLeaves_gen hrep'))]
    exact offerCommit_carrier
  · rw [shown_get (commitLeaves_wf hoff) (by decide +kernel), commitLeaves_get hoff (by decide)]
    exact offerCommit_pend (s := commitCame s n) (r := .ch n) hs

theorem preWrite_LEGk_COMMIT (hgo : v / 2 ^ 31 % 2 = 1) (hsrc : u.get LEGk_CARR_src (12 + l.val) ≠ 1) :
    preWrite u t a ⟨legCommitReg, 12 + l.val, 0, v⟩ = .act := by
  simp [preWrite, preLeg, blockOf, Wr.is, Wr.bits, legCommitReg, LEGk_CFG_out, LEGk_DTH_dt_h, LEGk_DTL_dt_l, LEGk_MINPW_minpw, LEGk_CARR_en,
    LEGk_PER_per, LEGk_DUTY_duty, LEGk_COMMIT_go]
  rw [if_neg (by omega), if_neg hsrc]

theorem postWrite_LEGk_COMMIT : postWrite u a ⟨legCommitReg, 12 + l.val, 0, v⟩ t = legCommit t l (v % 2 ^ 16) := by
  simp [postWrite, postLeg, blockOf, Wr.is, Wr.bits, auxOf_val, legCommitReg, LEGk_CARR_en, LEGk_COMMIT_go, LEGk_COMMIT_gen]

theorem exec_legCommit (hadm : Admits s a) (hgo : v / 2 ^ 31 % 2 = 1) (hsrc : s.get LEGk_CARR_src (12 + l.val) ≠ 1) :
    exec (.legCommit a l v) s = .next ((auxCommit s l (shadowCommit s (.aux l) (v % 65536))).answer a.ini .none) := by
  obtain ⟨⟨hheld, hwf⟩, hp, hlock, hc⟩ := hadm
  have hreg : regOf (LEGk_COMMIT_go.at (12 + l.val) 0) = some (legCommitReg, 12 + l.val, 0) := regOf_LEGk_COMMIT l
  have hbus : busAddr (LEGk_COMMIT_go.at (12 + l.val) 0) = true := by fin_cases l <;> rfl
  have hgen : v % 2 ^ 32 % 2 ^ 16 = v % 65536 := by omega
  change wrFld s a LEGk_COMMIT_go (12 + l.val) 0 v = _
  rw [wrFld, live_run s hheld, busWrite_reg hc hp hbus hreg rfl, writeReg_open hlock, preWrite_LEGk_COMMIT (by omega) hsrc]
  simp only [postWrite_LEGk_COMMIT, hgen]
  rfl

theorem legCommit_offers (hadm : Admits s a) (hgo : v / 2 ^ 31 % 2 = 1) (hsrc : s.get LEGk_CARR_src (12 + l.val) ≠ 1)
    (hrun : (s.carrier (.aux l)).run = true) (hmode : carrMode s (.aux l) < 2) (hd : s.now < (s.carrier (.aux l)).deadline) :
    ∃ t, exec (.legCommit a l v) s = .next t ∧ (t.carrier (.aux l)).pend = some (shadowCommit s (.aux l) (v % 65536)) ∧
      t.get LEGk_CSTAT_pend (12 + l.val) = 1 := by
  have hcommit : auxCommit s l (shadowCommit s (.aux l) (v % 65536)) = offerCommit s (.aux l) (shadowCommit s (.aux l) (v % 65536)) true := by
    simp [auxCommit, hrun, hmode, hd]
  refine ⟨_, exec_legCommit hadm hgo hsrc, ?_, ?_⟩
  · rw [hcommit]
    exact offerCommit_carrier
  · rw [State.answer_get, hcommit]
    exact offerCommit_pend (r := .aux l) hadm.1.2

/-- A commit to a leg in COT or CFT joins those that its next period end chooses from. -/
theorem legCommit_joins (hadm : Admits s a) (hgo : v / 2 ^ 31 % 2 = 1) (hsrc : s.get LEGk_CARR_src (12 + l.val) ≠ 1)
    (hrun : (s.carrier (.aux l)).run = true) (hmode : 2 ≤ carrMode s (.aux l)) :
    ∃ t, exec (.legCommit a l v) s = .next t ∧ t.get LEGk_CSTAT_pend (12 + l.val) = 1 ∧
      (t.carrier (.aux l)).recent = (s.carrier (.aux l)).recent ++ [(s.now, shadowCommit s (.aux l) (v % 65536))] := by
  have hs := hadm.1.2
  have hcommit : auxCommit s l (shadowCommit s (.aux l) (v % 65536)) =
      (cput (cput s (.aux l) CHn_GEN_pend_gen LEGk_GEN_pend_gen (v % 65536)) (.aux l) CHn_CSTAT_pend LEGk_CSTAT_pend 1).modCarr (.aux l)
        (fun k => { k with recent := k.recent ++ [(s.now, shadowCommit s (.aux l) (v % 65536))] }) := by
    have : ¬ carrMode s (.aux l) < 2 := Nat.not_lt.mpr hmode
    simp only [auxCommit, hrun, this, Bool.not_true, Bool.false_eq_true, if_false]
    rfl
  refine ⟨_, exec_legCommit hadm hgo hsrc, ?_, ?_⟩
  · rw [State.answer_get, hcommit]
    exact cget_modCarr.trans (cget_cput_same (r := .aux l) (fc := CHn_CSTAT_pend) (fa := LEGk_CSTAT_pend) (cput_wf hs) rfl)
  · rw [hcommit]
    exact congrArg Carrier.recent (modCarr_carrier _ _ _)

end software

/-! ### Planned edges and dead times (R164, R172, R192) -/

section edges
variable {s : State} {k : Leg}

/-- What no pass of a branch or of a loop changes. -/
theorem onIf_keeps {β : Type} {c : Bool} {f : State → State} (g : State → β) (hf : ∀ v, g (f v) = g v) : g (s.onIf c f) = g s := by
  cases c with
  | false => rfl
  | true => exact hf s

theorem forL_keeps {α β : Type} {l : List α} {f : α → State → State} (g : State → β) (hf : ∀ x v, g (f x v) = g v) :
    g (s.forL l f) = g s := by
  unfold State.forL
  induction l generalizing s with
  | nil => rfl
  | cons x l ih => exact ih.trans (hf x s)

theorem blankStart_legs : (s.blankStart k).gen.legs = s.gen.legs :=
  forL_keeps (fun u => u.gen.legs) fun _ _ => onIf_keeps (fun u => u.gen.legs) fun _ => rfl

theorem chopWatch_gen : (chopWatch s k).gen = s.gen := (chopWatch_moves ⟨Nat.and_self _⟩ .refl).part (p := .gen) (by decide +kernel)

theorem modLeg_leg {f : LegSt → LegSt} : (s.modLeg k f).gen.legs[k] = f s.gen.legs[k] := vupd_same _ _ _

/-- A leg that is driven keeps what its carrier has planned for it. -/
theorem legApply_plan {e b : Bool} : (s.legApply e b k).gen.legs[k].cmd = s.gen.legs[k].cmd ∧
    (s.legApply e b k).gen.legs[k].edges = s.gen.legs[k].edges := by
  have hafter : ∀ (u : State) (c d : Bool), ((u.onIf c (fun v => chopWatch v k)).onIf d (fun v => v.blankStart k)).gen.legs[k] =
      u.gen.legs[k] := fun u c d => congrArg (fun x => x[k]) ((onIf_keeps (fun v => v.gen.legs) fun _ => blankStart_legs).trans
        (onIf_keeps (fun v => v.gen.legs) fun _ => congrArg GenSt.legs chopWatch_gen))
  unfold State.legApply
  extract_lets
  split
  · exact ⟨rfl, rfl⟩
  · refine ⟨(congrArg LegSt.cmd (hafter _ _ _)).trans ?_, (congrArg LegSt.edges (hafter _ _ _)).trans ?_⟩
    · exact Eq.trans (congrArg LegSt.cmd (vupd_same s.gen.legs k _)) rfl
    · exact Eq.trans (congrArg LegSt.edges (vupd_same s.gen.legs k _)) rfl

theorem blankStart_stat {f : Fld} {i : Nat} (hs : s.wf = true) (hf : f ∈ [LEGk_STAT_gh, LEGk_STAT_gl]) :
    (s.blankStart k).get f i = s.get f i := by
  refine (State.blankStart_moves ⟨Nat.and_self _⟩ .refl).same hs f i 0 ?_
  revert f
  decide +kernel

/-- What an output of the leg shows once its dead time is over. -/
theorem blankStart_shows {c : Bool} {f : Fld} (hs : s.wf = true) (hf : f ∈ [LEGk_STAT_gh, LEGk_STAT_gl]) (h : s.get f k.val = 1) :
    (s.onIf c (fun u => u.blankStart k)).get f k.val = 1 := by
  cases c with
  | false => exact h
  | true => exact (blankStart_stat hs hf).trans h

theorem deadTimeEnd_high (hs : s.wf = true) (hheld : s.dev.held = false) (hw : s.gen.legs[k].waitH = true) :
    ∃ t, exec (.deadTimeEnd k true) s = .next t ∧ t.get LEGk_STAT_gh k.val = 1 ∧ t.gen.legs[k].waitH = false := by
  have hexec : exec (.deadTimeEnd k true) s = .next ((chopWatch ((s.modLeg k (fun g => { g with waitH := false })).putB LEGk_STAT_gh true
      k.val) k).onIf (s.gen.legs[k].rank == 6) (fun u => u.blankStart k)) := by
    change execDeadTimeEnd k true s = _
    simp only [execDeadTimeEnd, live_run s hheld, hw]
    rfl
  have hleg : (s.modLeg k (fun g => { g with waitH := false })).wf = true := hs
  have hput : ((s.modLeg k (fun g => { g with waitH := false })).putB LEGk_STAT_gh true k.val).wf = true := State.put_wf hleg
  have hchop := chopWatch_moves (x1 := k) ⟨Nat.and_self _⟩
    (Moves.refl (a := (s.modLeg k (fun g => { g with waitH := false })).putB LEGk_STAT_gh true k.val))
  refine ⟨_, hexec, blankStart_shows (hchop.wf hput) (by decide) ?_, ?_⟩
  · rw [hchop.same hput _ _ 0 (by decide +kernel)]
    exact State.get_put_same hleg
  · rw [onIf_keeps (fun u => u.gen.legs) fun _ => blankStart_legs, chopWatch_gen]
    exact congrArg LegSt.waitH modLeg_leg

theorem deadTimeEnd_low (hs : s.wf = true) (hheld : s.dev.held = false) (hw : s.gen.legs[k].waitL = true) :
    ∃ t, exec (.deadTimeEnd k false) s = .next t ∧ t.get LEGk_STAT_gl k.val = 1 ∧ t.gen.legs[k].waitL = false := by
  have hexec : exec (.deadTimeEnd k false) s = .next (((s.modLeg k (fun g => { g with waitL := false })).putB LEGk_STAT_gl true
      k.val).onIf (s.gen.legs[k].rank == 6) (fun u => u.blankStart k)) := by
    change execDeadTimeEnd k false s = _
    simp only [execDeadTimeEnd, live_run s hheld, hw]
    rfl
  have hleg : (s.modLeg k (fun g => { g with waitL := false })).wf = true := hs
  refine ⟨_, hexec, blankStart_shows (State.put_wf hleg) (by decide) (State.get_put_same hleg), ?_⟩
  rw [onIf_keeps (fun u => u.gen.legs) fun _ => blankStart_legs]
  exact congrArg LegSt.waitL modLeg_leg

theorem dutyEdge_takes {e : Nat × Bool} {rest : List (Nat × Bool)} (hheld : s.dev.held = false) (he : s.gen.legs[k].edges = e :: rest) :
    ∃ t, exec (.dutyEdge k) s = .next t ∧ t.gen.legs[k].cmd = e.2 ∧ t.gen.legs[k].edges = rest := by
  have hexec : exec (.dutyEdge k) s = .next ((s.modLeg k (fun g => { g with cmd := e.2, edges := rest })).legApply true false k) := by
    change execDutyEdge k s = _
    simp only [execDutyEdge, live_run s hheld, he]
  obtain ⟨hcmd, hedges⟩ := legApply_plan (s := s.modLeg k (fun g => { g with cmd := e.2, edges := rest })) (k := k) (e := true) (b := false)
  exact ⟨_, hexec, hcmd.trans (congrArg LegSt.cmd modLeg_leg), hedges.trans (congrArg LegSt.edges modLeg_leg)⟩

end edges

/-! ### The delay line (R173, R220) and a position that lands -/

section measures
variable {s : State} {n : Ch}

theorem dlCal_valid {d : Nat} (hs : s.wf = true) (hheld : s.dev.held = false) (hd : 129 ≤ d) (hlt : d < 256) :
    ∃ t, exec (.dlCal (some d)) s = .next t ∧ t.get LEG_DLCAL_code = d ∧ t.get LEG_DLCAL_prev = s.get LEG_DLCAL_code % 256 ∧
      t.get LEG_DLCAL_fail = 0 := by
  have hprev : (s.put LEG_DLCAL_prev (s.get LEG_DLCAL_code)).wf = true := State.put_wf hs
  have hcode : ((s.put LEG_DLCAL_prev (s.get LEG_DLCAL_code)).put LEG_DLCAL_code d).wf = true := State.put_wf hprev
  have hfail : (((s.put LEG_DLCAL_prev (s.get LEG_DLCAL_code)).put LEG_DLCAL_code d).put LEG_DLCAL_fail 0).wf = true := State.put_wf hcode
  have hall : ∀ f ∈ [LEG_DLCAL_code, LEG_DLCAL_prev, LEG_DLCAL_fail], (dlMeasure s (some d)).get f =
      (((s.put LEG_DLCAL_prev (s.get LEG_DLCAL_code)).put LEG_DLCAL_code d).put LEG_DLCAL_fail 0).get f := by
    intro f hf
    have hvalid : (some d).filter (fun c => decide (129 ≤ c)) = some d := by simp [hd]
    simp only [dlMeasure, hvalid, State.onIf]
    split
    · rw [State.raise_get, logEv_get_of_untouched (by exact hfail) (by revert f; decide +kernel)]
      rfl
    · rfl
  refine ⟨_, live_run (f := fun u => dlMeasure u (some d)) s hheld, ?_, ?_, ?_⟩
  · rw [hall _ (by decide), State.get_put_ne hcode (by decide), State.get_put_same hprev]
    exact Nat.mod_eq_of_lt hlt
  · rw [hall _ (by decide), State.get_put_ne hcode (by decide), State.get_put_ne hprev (by decide), State.get_put_same hs]
    rfl
  · rw [hall _ (by decide), State.get_put_same hcode]
    rfl

theorem dlCal_invalid (hs : s.wf = true) (hheld : s.dev.held = false) :
    ∃ t, exec (.dlCal none) s = .next t ∧ t.get LEG_DLCAL_fail = 1 ∧ t.get LEG_DLCAL_code = s.get LEG_DLCAL_code := by
  have hput : (s.put LEG_DLCAL_fail 1).wf = true := State.put_wf hs
  have hall : ∀ f ∈ [LEG_DLCAL_fail, LEG_DLCAL_code], (dlMeasure s none).get f = (s.put LEG_DLCAL_fail 1).get f := by
    intro f hf
    simp only [dlMeasure, Option.filter_none, State.onIf]
    split
    · rw [State.raise_get, logEv_get_of_untouched (by exact hput) (by revert f; decide +kernel)]
      rfl
    · rfl
  refine ⟨_, live_run (f := fun u => dlMeasure u none) s hheld, ?_, ?_⟩
  · rw [hall _ (by decide), State.get_put_same hs]
    rfl
  · rw [hall _ (by decide), State.get_put_ne hs (by decide)]

theorem measLanding_position {r : PosRec} {dis : Bool} {items : List ChuckItem} (hheld : s.dev.held = false)
    (hl : s.landing = ⟨2 + n.val, .position r, 0, dis⟩ :: items) : ∃ t, exec (.measLanding n .pos) s = .next t ∧
      t.landing = items ∧ (t.sp n).pRec = some r ∧ (t.sp n).posOk = true := by
  have hland : measLanding s n .pos = { s with landing := items }.modSp n (fun p => { p with pRec := some r, posOk := true }) := by
    simp [measLanding, hl]
  refine ⟨_, live_run (f := fun u => measLanding u n .pos) s hheld, ?_, ?_, ?_⟩
  · rw [hland]
    rfl
  · rw [hland, modSp_sp]
  · rw [hland, modSp_sp]

end measures

/-- Settles O15. -/
theorem commitsAndEdges : Obligations.CommitsAndEdges := by
  rintro s a n k l v c e rest d r dis items ⟨hheld, hs⟩
  exact ⟨fun hout hsrc hrun hdl hsafe => commitArrival_taken hs hheld hout hsrc hrun hdl hsafe,
    fun hout hsafe => commitArrival_discarded hheld hout hsafe,
    fun hrun hp hdl => commitDeadline_clause hs hheld hrun hp hdl,
    fun hadm hgo hsrc hsix hrun hdl hrep hsafe => commitWrite_offers hadm hgo hsrc hsix hrun hdl hrep hsafe,
    fun hadm hgo hsrc hrun hmode hd => legCommit_offers hadm hgo hsrc hrun hmode hd,
    fun hadm hgo hsrc hrun hmode => legCommit_joins hadm hgo hsrc hrun hmode,
    fun hw => deadTimeEnd_high hs hheld hw, fun hw => deadTimeEnd_low hs hheld hw, fun he => dutyEdge_takes hheld he,
    fun hd hlt => dlCal_valid hs hheld hd hlt, dlCal_invalid hs hheld, fun hl => measLanding_position hheld hl⟩

end Sys2Proof.Proofs
end

section
/-! PROOF. A synchronised start of a standby's carriers (O14): a channel's carrier has to wait for the zero of the active unit's (R355). -/

namespace Sys2Proof.Proofs

open Sys2Proof Sys2Proof.Machine Sys2Proof.Safety

/-- On a standby a channel's start stays out for as long as no sync has named the active carrier's zero. -/
theorem carrierSyncStart_unnamed {s : State} {n : Ch} (hheld : s.dev.held = false) (hpeer : peerStart s = true)
    (hzero : (s.carrier (.ch n)).startFt = none) : exec (.carrierSyncStart (.ch n)) s = .next s := by
  have hinst : syncInstant s (.ch n) = none := by simp [syncInstant, hpeer, hzero]
  change execCarrierSyncStart (.ch n) s = _
  simp only [execCarrierSyncStart, live_run s hheld, hinst]

/-- A standby with its link up, right after reset, before the first sync. -/
def standbyLinked : State := (State.reset.put TLS_STAT_role 2).modTls (fun t => { t with link := true })

/-- Its channel 0 has been enabled: the carrier waits, and no sync has named the active carrier's zero yet. -/
def standbyWaits : State := carrierBegin standbyLinked (.ch 0)

theorem standbyWaits_ready : Ready standbyWaits := by unfold Ready; decide +kernel

theorem standbyWaits_carrier : (standbyWaits.carrier (.ch 0)).waiting = true ∧ (standbyWaits.carrier (.ch 0)).startFt = none ∧
    (standbyWaits.carrier (.ch 0)).run = false ∧ peerStart standbyWaits = true := by decide +kernel

/-- Refutes O14: its third clause lets any waiting carrier of a linked standby start, and the carrier of channel 0 in `standbyWaits` does
not start, since no sync has named the active carrier's zero. (Only an auxiliary leg of a standby starts on the command itself.) -/
theorem not_carriers : ¬ Obligations.Carriers := by
  intro h
  obtain ⟨hwait, hzero, hstill, hpeer⟩ := standbyWaits_carrier
  obtain ⟨-, -, hstart, -⟩ := h standbyWaits ⟨.cpa, true, false⟩ (.ch 0) 0 standbyWaits_ready
  obtain ⟨t, hexec, hrun, -⟩ := hstart hwait (.inl hpeer)
  rw [carrierSyncStart_unnamed standbyWaits_ready.1 hpeer hzero] at hexec
  cases hexec
  exact absurd (hrun.symm.trans hstill) (by decide)

end Sys2Proof.Proofs
end

end

/-! # Proofs: the family of spec/02_words_and_memory.md -/

section
/- One declaration after the other: proofs that run side by side would each hold a thread while they wait for the kernel. -/
set_option Elab.async false

section
/-! PROOF. The canonical form of the stores along every step (O53): a tick and every command are chains of updates that keep it. -/

namespace Sys2Proof.Proofs

open Sys2Proof Sys2Proof.Machine Sys2Proof.Safety

theorem exec_wf {i : Instr} {s t : State} (hs : s.wf = true) (h : exec i s = .next t) : t.wf = true :=
  (exec_moves ⟨Nat.and_self _⟩ i s t h).wf hs

theorem tick_wf {s : State} (hs : s.wf = true) : (tick s).wf = true := (tick_moves ⟨Nat.and_self _⟩ .refl).wf hs

/-- Settles O53: the queue is no store, so its front runs on stores in form; with nothing waiting, the step is a tick. -/
theorem stepKeepsForm : Obligations.StepKeepsForm := by
  intro s t hs h
  cases hq : s.pending with
  | nil =>
    have htick : step s = .next (tick s) := by simp only [step, hq]
    cases htick.symm.trans h
    exact tick_wf hs
  | cons c q =>
    have hexec : step s = exec c { s with pending := q } := by simp only [step, hq]
    exact exec_wf (s := { s with pending := q }) hs (hexec.symm.trans h)

end Sys2Proof.Proofs
end

section
/-! PROOF. Accesses to the byte-addressed SRAM (O3). -/

namespace Sys2Proof.Proofs

open Sys2Proof Sys2Proof.Machine Sys2Proof.Safety

/-! ### Reads that meet no error (R61) -/

/-- A read of a codeword without an error, of a word not known to be uncorrectable, delivers data and changes nothing. -/
theorem eccRead_clean {s : State} {region w ini : Nat} {errs : List Nat} {back : Bool} (hue : isUe s region w = false)
    (hk : eccKind errs = 0) : eccRead s region w ini errs back = (s, true) := by
  simp only [eccRead, hue, hk, Bool.false_eq_true, if_false]

/-! ### Bytes as an initiator sees them -/

section sram
variable {s : State} {a : Access} {i : Init} {addr size v x : Nat}

/-- A byte that an initiator writes is the only one that it sees changed. -/
theorem sees_write {b : Nat} (hs : s.wf = true) :
    sees (if mpPrivate i addr then s.putMpByte addr b else s.putByte addr b) i x = if x = addr then b % 256 else sees s i x := by
  by_cases hx : x = addr
  · subst hx
    unfold sees
    cases mpPrivate i x <;> simp [State.byteAt_putByte hs, State.mpByteAt_putMpByte hs]
  · unfold sees
    cases mpPrivate i addr <;> simp [State.byteAt_putByte hs, State.mpByteAt_putMpByte hs, hx]

theorem sramStore_wf (hs : s.wf = true) : (sramStore s i addr size v).wf = true := (sramStore_moves ⟨Nat.and_self _⟩ .refl).wf hs

theorem sramStore_succ : sramStore s i addr (size + 1) v = if mpPrivate i (addr + size) then
    (sramStore s i addr size v).putMpByte (addr + size) (v / 2 ^ (8 * size) % 256) else
    (sramStore s i addr size v).putByte (addr + size) (v / 2 ^ (8 * size) % 256) := by
  rw [sramStore, forN_succ]
  rfl

/-- A store writes its bytes, the lowest first, and no other. -/
theorem sees_sramStore (hs : s.wf = true) : sees (sramStore s i addr size v) i x =
    if addr ≤ x ∧ x < addr + size then v / 2 ^ (8 * (x - addr)) % 256 else sees s i x := by
  induction size with
  | zero => rw [if_neg (by omega)]; rfl
  | succ k ih =>
    rw [sramStore_succ, sees_write (sramStore_wf hs), ih, Nat.mod_mod]
    by_cases hx : x = addr + k
    · rw [if_pos hx, if_pos (by omega), hx, Nat.add_sub_cancel_left]
    · rw [if_neg hx]
      exact if_congr (by omega) rfl rfl

theorem sramLoad_eq : sramLoad s i addr size = leNat ((List.range size).map (fun k => sees s i (addr + k))) := rfl

/-! ### What the bus answers -/

/-- No bus error stands against an access that R71 admits. -/
theorem sramAdmits_bounds (h : SramAdmits a addr size) :
    (addr < 0x10000000 || 0x10600000 < addr + size || !([1, 2, 4, 8].contains size) || addr % 8 + size > 8) = false := by
  obtain ⟨-, hlo, hhi, hsize, hword⟩ := h
  have hmem : [1, 2, 4, 8].contains size = true := by rcases hsize with h | h | h | h <;> subst h <;> rfl
  rw [hmem]
  simp [Nat.not_lt.mpr hlo, Nat.not_lt.mpr hhi, hword]

/-- A write of a whole word makes it good; one of a part ends a write-back that was due (R64, R67). Either way the bytes are stored. -/
theorem sramAccess_store (hs : s.wf = true) (h : SramAdmits a addr size)
    (hue : isUe s (if mpPrivate a.ini addr then 3 else 0) (addr / 8 * 8) = false) :
    ∃ u, sramAccess s a .store addr size v [] = u.answer a.ini .none ∧
      ∀ x, sees u a.ini x = if addr ≤ x ∧ x < addr + size then v / 2 ^ (8 * (x - addr)) % 256 else sees s a.ini x := by
  have hp := h.1
  simp only [sramAccess, hp, sramAdmits_bounds h, Bool.not_true, Bool.false_eq_true, if_false, true_and]
  by_cases h8 : size = 8
  · subst h8
    exact ⟨_, if_pos rfl, fun x => sees_sramStore (x := x) hs⟩
  · rw [if_neg h8, eccRead_clean hue rfl]
    have hback : ∀ k, ({ s with mem := { s.mem with writebacks := sput 0 s.mem.writebacks k 0 } } : State).wf = true := fun k =>
      Moves.wf (m := 0x200) (.mem (.back ⟨by decide⟩ .refl) .refl) hs
    exact ⟨_, rfl, fun x => sees_sramStore (x := x) (hback _)⟩

theorem sramAccess_load {op : MemOp} (h : SramAdmits a addr size) (hop : op ≠ .store)
    (hue : isUe s (if mpPrivate a.ini addr then 3 else 0) (addr / 8 * 8) = false) :
    sramAccess s a op addr size v [] = s.answer a.ini (.data (sramLoad s a.ini addr size)) := by
  have hp := h.1
  simp only [sramAccess, hp, sramAdmits_bounds h, Bool.not_true, Bool.false_eq_true, if_false, hop, false_and, eccRead_clean (errs := []) hue rfl]
  rfl

theorem exec_sramAccess {op : MemOp} (hheld : s.dev.held = false) :
    exec (.sramAccess a op addr size v []) s = .next (sramAccess s a op addr size v []) :=
  live_run (f := fun s => (sramAccess s a op addr size v []).onIf (eccKind [] == 3) State.freeNext) s hheld

end sram

/-- Settles O3. -/
theorem sramAccess : Obligations.SramAccess := by
  rintro s a addr size v ⟨hheld, hs⟩ hadm hue
  refine ⟨?_, fun op hop => ⟨_, exec_sramAccess hheld, ?_⟩⟩
  · obtain ⟨u, heq, hsees⟩ := sramAccess_store (v := v) hs hadm hue
    exact ⟨_, (exec_sramAccess hheld).trans (congrArg _ heq), State.answer_port _ _ _, hsees⟩
  · rw [sramAccess_load hadm hop hue, sramLoad_eq]
    exact ⟨rfl, rfl, State.answer_port _ _ _⟩

end Sys2Proof.Proofs
end

section
/-! PROOF. The scrubber and its reports (O6). -/

namespace Sys2Proof.Proofs

open Sys2Proof Sys2Proof.Machine Sys2Proof.Safety

/-- The words known to be uncorrectable, and the write-backs that are due, are stores in form too. -/
theorem wf_ecc {s : State} (hs : s.wf = true) : scanon 0 s.mem.ueKnown = true ∧ scanon 0 s.mem.writebacks = true := by
  have h := State.wf_mem hs
  simp only [Memory.wf, Bool.and_eq_true] at h
  exact ⟨h.1.2, h.2⟩

section ecc
variable {s : State} {region w ini : Nat} {errs : List Nat} {back : Bool}

/-! ### Errors that are found (R65, R66) -/

theorem eccRead_corrected (hue : isUe s region w = false) (hk : eccKind errs = 1) :
    eccRead s region w ini errs back = (ceFound s region w back, true) := by
  simp only [eccRead, hue, hk, Bool.false_eq_true, if_false]

theorem eccRead_uncorrectable (hue : isUe s region w = false) (hk : eccKind errs = 2) :
    eccRead s region w ini errs back = (ueFound s region w ini, false) := by
  simp only [eccRead, hue, hk, Bool.false_eq_true, if_false]

/-- A word known to be uncorrectable is not read again (R67). -/
theorem eccRead_known (hue : isUe s region w = true) : eccRead s region w ini errs back = (s, false) := by
  simp only [eccRead, hue, if_true]

/-- A corrected error is counted once, up to the end of its counter (R65). -/
theorem ceFound_count (hs : s.wf = true) : (ceFound s region w back).get SYS_ECC_CE_count region =
    min (s.get SYS_ECC_CE_count region + 1) (2 ^ SYS_ECC_CE_count.width - 1) := by
  have hcount : (s.incSat SYS_ECC_CE_count region).get SYS_ECC_CE_count region =
      min (s.get SYS_ECC_CE_count region + 1) (2 ^ SYS_ECC_CE_count.width - 1) := by
    rw [State.incSat, State.get_put_same hs]
    exact Nat.mod_eq_of_lt (Nat.lt_of_le_of_lt (Nat.min_le_right _ _) (by decide))
  rw [← hcount]
  refine Moves.same (m := maskOf evFlds (evParts ++ [.writebacks])) ?_ (State.put_wf hs : (s.incSat SYS_ECC_CE_count region).wf = true) _ _ _
    (by decide +kernel)
  exact State.onIf_moves (State.onIf_moves .refl fun _ h => .mem (.back ⟨by decide +kernel⟩ .refl) h) fun _ h =>
    State.logLatch_moves ⟨by decide +kernel⟩ h

/-- An uncorrectable error makes its word known, and its source sets out (R66). -/
theorem ueFound_reports (hs : s.wf = true) (hue : isUe s region w = false) : isUe (ueFound s region w ini) region w = true ∧
    (ueSrc region w, w) ∈ (ueFound s region w ini).inflight ∧
    (ueFound s region w ini).get SYS_ECC_INFO_initiator = ini % 2 ^ SYS_ECC_INFO_initiator.width ∧
    (ueFound s region w ini).mem.lathe = s.mem.lathe := by
  generalize hu : ({ s with mem := { s.mem with ueKnown := sput 0 s.mem.ueKnown (eccKey region w) 1 } } : State) = u
  have huwf : u.wf = true := hu ▸ Moves.wf (m := 0x100) (.mem (.ue ⟨by decide⟩ .refl) .refl) hs
  have hisUe : isUe u region w = true := by
    subst hu
    simp only [isUe, sget_sput_same (wf_ecc hs).1]
    rfl
  have hlathe : u.mem.lathe = s.mem.lathe := by rw [← hu]
  simp only [ueFound, hue, Bool.false_eq_true, if_false, hu]
  generalize hv : (((u.put SYS_ECC_LAST_addr w).put SYS_ECC_INFO_initiator ini).put SYS_ECC_INFO_region region).incSat SYS_ECC_INFO_ue_cnt = t
  have hini : ((u.put SYS_ECC_LAST_addr w).put SYS_ECC_INFO_initiator ini).wf = true := State.put_wf (State.put_wf huwf)
  have hreg : (((u.put SYS_ECC_LAST_addr w).put SYS_ECC_INFO_initiator ini).put SYS_ECC_INFO_region region).wf = true := State.put_wf hini
  have hmem : t.mem = u.mem := by rw [← hv]; rfl
  have htwf : t.wf = true := hv ▸ State.put_wf hreg
  refine ⟨?_, ?_, ?_, ?_⟩
  · rw [isUe, State.raise_mem, State.logEv_mem, hmem]
    exact hisUe
  · rw [State.raise_inflight]
    exact List.mem_append_right _ List.mem_cons_self
  · rw [State.raise_get, logEv_get_of_untouched htwf (by decide +kernel), ← hv, State.incSat, State.get_put_ne hreg (by decide),
      State.get_put_ne hini (by decide), State.get_put_same (State.put_wf huwf)]
  · rw [State.raise_mem, State.logEv_mem, hmem, hlathe]

end ecc

/-! ### The scrubber's steps (R68) -/

section scrubber
variable {s : State} {errs : List Nat}

/-- The scrubber's index after the word that it now reads. -/
def scrubNext (s : State) : State :=
  s.put SYS_SCRUB_STAT_pos (if 1507327 ≤ s.get SYS_SCRUB_STAT_pos then 0 else s.get SYS_SCRUB_STAT_pos + 1)

theorem scrubNext_wf (hs : s.wf = true) : (scrubNext s).wf = true := State.put_wf hs

theorem scrubNext_pos (hs : s.wf = true) : (scrubNext s).get SYS_SCRUB_STAT_pos =
    if 1507327 ≤ s.get SYS_SCRUB_STAT_pos then 0 else s.get SYS_SCRUB_STAT_pos + 1 := by
  rw [scrubNext, State.get_put_same hs]
  refine Nat.mod_eq_of_lt ?_
  have hwidth : SYS_SCRUB_STAT_pos.width = 21 := rfl
  rw [hwidth]
  split <;> omega

/-- The state after a scrub read, of the word that its index named. -/
def scrubbed (s : State) (errs : List Nat) : State :=
  (eccRead (scrubNext s) (scrubWord (s.get SYS_SCRUB_STAT_pos)).1 (scrubWord (s.get SYS_SCRUB_STAT_pos)).2 8 errs true).1

theorem exec_scrubRead (hheld : s.dev.held = false) : exec (.scrubRead errs) s = .next (scrubbed s errs) :=
  live_run (f := fun s => scrubbed s errs) s hheld

theorem scrubbed_pos (hs : s.wf = true) : (scrubbed s errs).get SYS_SCRUB_STAT_pos =
    if 1507327 ≤ s.get SYS_SCRUB_STAT_pos then 0 else s.get SYS_SCRUB_STAT_pos + 1 := by
  rw [← scrubNext_pos hs]
  exact (eccRead_moves ⟨Nat.and_self _⟩ .refl).same (State.put_wf hs) _ _ _ (by decide +kernel)

theorem scrubbed_counts (hs : s.wf = true)
    (hue : isUe s (scrubWord (s.get SYS_SCRUB_STAT_pos)).1 (scrubWord (s.get SYS_SCRUB_STAT_pos)).2 = false) (hk : eccKind errs = 1) :
    (scrubbed s errs).get SYS_ECC_CE_count (scrubWord (s.get SYS_SCRUB_STAT_pos)).1 =
      min (s.get SYS_ECC_CE_count (scrubWord (s.get SYS_SCRUB_STAT_pos)).1 + 1) (2 ^ SYS_ECC_CE_count.width - 1) := by
  have hold : ∀ i, (scrubNext s).get SYS_ECC_CE_count i = s.get SYS_ECC_CE_count i := fun _ => State.get_put_ne hs (by decide)
  rw [scrubbed, eccRead_corrected (s := scrubNext s) hue hk, ceFound_count (scrubNext_wf hs), hold]

theorem exec_eccWriteback {region word : Nat} (hheld : s.dev.held = false) : exec (.eccWriteback region word) s =
    .next { s with mem := { s.mem with writebacks := sput 0 s.mem.writebacks (eccKey region word) 0 } } :=
  live_run (f := fun s => { s with mem := { s.mem with writebacks := sput 0 s.mem.writebacks (eccKey region word) 0 } }) s hheld

theorem exec_scrubLate (hheld : s.dev.held = false) : exec .scrubLate s = .next ((s.put SYS_SCRUB_STAT_late 1).logEv 0x0022) :=
  live_run (f := fun s => (s.put SYS_SCRUB_STAT_late 1).logEv 0x0022) s hheld

end scrubber

/-- Settles O6. -/
theorem scrubbing : Obligations.Scrubbing := by
  rintro s ⟨hheld, hs⟩
  refine ⟨fun errs => ⟨_, exec_scrubRead hheld, scrubbed_pos hs, fun hue => ⟨scrubbed_counts hs hue, fun hk => ?_⟩⟩,
    fun region word => ⟨_, exec_eccWriteback hheld, sget_sput_same (wf_ecc hs).2, rfl, rfl, rfl, rfl⟩,
    ⟨_, exec_scrubLate hheld, ?_, logged_of rfl⟩⟩
  · obtain ⟨hknown, hsent, hini, -⟩ := ueFound_reports (s := scrubNext s) (ini := 8) (scrubNext_wf hs) hue
    rw [scrubbed, eccRead_uncorrectable (s := scrubNext s) hue hk]
    exact ⟨hknown, hsent, hini⟩
  · rw [logEv_get_of_untouched (State.put_wf hs) (by decide +kernel), State.get_put_same hs]
    rfl

end Sys2Proof.Proofs
end

section
/-! PROOF. Slots of the Lathe windows (O7). -/

namespace Sys2Proof.Proofs

open Sys2Proof Sys2Proof.Machine Sys2Proof.Safety

/-! ### The 32-bit parts of a slot -/

/-- The image that four 32-bit parts make up. -/
def partsImage (p : List Nat) : Nat := p.getD 0 0 + 2 ^ 32 * p.getD 1 0 + 2 ^ 64 * p.getD 2 0 + 2 ^ 96 * p.getD 3 0

theorem imgParts_partsImage {a b c d : Nat} (ha : a < 2 ^ 32) (hb : b < 2 ^ 32) (hc : c < 2 ^ 32) (hd : d < 2 ^ 32) :
    imgParts (partsImage [a, b, c, d]) = [a, b, c, d] := by
  have himage : partsImage [a, b, c, d] = a + 2 ^ 32 * b + 2 ^ 64 * c + 2 ^ 96 * d := rfl
  simp only [imgParts, himage, List.range, List.range.loop, List.map_cons, List.map_nil, List.cons.injEq, and_true]
  omega

/-- The parts that a slot holds before a write: those staged for it, or none. -/
def heldParts (st : Staging) (g : Nat) : List Nat × Nat := if st.slot = some g then (imgParts st.bits, st.parts) else ([0, 0, 0, 0], 0)

/-- The parts after a write of 4 or 8 bytes from part `k` on. -/
def newParts (p : List Nat) (k size v : Nat) : List Nat :=
  if size = 8 then (p.set k (v % 2 ^ 32)).set (k + 1) (v / 2 ^ 32 % 2 ^ 32) else p.set k (v % 2 ^ 32)

/-- Which parts are staged after it. -/
def newMask (m k size : Nat) : Nat := m ||| (if size = 8 then 3 * 2 ^ k else 2 ^ k)

/-- Four parts of 32 bits each. -/
def FourParts (p : List Nat) : Prop := ∃ a b c d, p = [a, b, c, d] ∧ a < 2 ^ 32 ∧ b < 2 ^ 32 ∧ c < 2 ^ 32 ∧ d < 2 ^ 32

theorem heldParts_four (st : Staging) (g : Nat) : FourParts (heldParts st g).1 := by
  have hlt : ∀ x, x % 2 ^ 32 < 2 ^ 32 := fun x => Nat.mod_lt _ (by decide)
  unfold heldParts
  split
  · exact ⟨_, _, _, _, rfl, hlt _, hlt _, hlt _, hlt _⟩
  · exact ⟨0, 0, 0, 0, rfl, by decide, by decide, by decide, by decide⟩

/-- What was written stands in the image at its place. -/
theorem newParts_written {p : List Nat} {o size v : Nat} (hp : FourParts p) (hsize : size = 4 ∨ size = 8) (ho : o % size = 0)
    (hlt : o + size < 16) :
    partsImage (newParts p (o / 4) size v) / 2 ^ (8 * o) % 2 ^ (8 * size) = v % 2 ^ (8 * size) := by
  obtain ⟨a, b, c, d, rfl, ha, hb, hc, hd⟩ := hp
  rcases hsize with rfl | rfl
  · obtain rfl | rfl | rfl : o = 0 ∨ o = 4 ∨ o = 8 := by omega
    · show (v % 2 ^ 32 + 2 ^ 32 * b + 2 ^ 64 * c + 2 ^ 96 * d) / 2 ^ 0 % 2 ^ 32 = v % 2 ^ 32
      omega
    · show (a + 2 ^ 32 * (v % 2 ^ 32) + 2 ^ 64 * c + 2 ^ 96 * d) / 2 ^ 32 % 2 ^ 32 = v % 2 ^ 32
      omega
    · show (a + 2 ^ 32 * b + 2 ^ 64 * (v % 2 ^ 32) + 2 ^ 96 * d) / 2 ^ 64 % 2 ^ 32 = v % 2 ^ 32
      omega
  · obtain rfl : o = 0 := by omega
    show (v % 2 ^ 32 + 2 ^ 32 * (v / 2 ^ 32 % 2 ^ 32) + 2 ^ 64 * c + 2 ^ 96 * d) / 2 ^ 0 % 2 ^ 64 = v % 2 ^ 64
    omega

section write
variable {s : State} {a : Access} {i : Init} {addr size v g : Nat} {e : List Nat}

/-! ### A write (R54) -/

/-- An aligned access of a privileged initiator within the windows meets no bus error (R53, R71). -/
theorem slotFault_none (hp : a.priv = true) (hlo : 0x60000000 ≤ addr) (hhi : addr < 0x60200000) (hsize : size = 4 ∨ size = 8)
    (hal : addr % size = 0) : slotFault a addr size = none := by
  have hone : (size != 4 && size != 8) = false := by rcases hsize with h | h <;> simp [h]
  simp [slotFault, hp, hone, hal, Nat.not_lt.mpr hlo, Nat.not_le.mpr hhi]

/-- The parts staged for another slot are given up (R57). -/
def slotAbandon (s : State) (i : Init) (g : Nat) : State :=
  s.onIf ((s.port i).staging.slot != some g && (s.port i).staging.slot.isSome) (fun u =>
    (u.put LTH_SLOT_STAT_abandon 1).logEv 0x3002 [(s.port i).staging.slot.getD 0])

/-- A write stands in its initiator's staging. -/
def slotStaged (s : State) (i : Init) (g k size v : Nat) : State :=
  (slotAbandon s i g).modPort i (fun p => { p with staging :=
    ⟨some g, partsImage (newParts (heldParts (s.port i).staging g).1 k size v), newMask (heldParts (s.port i).staging g).2 k size⟩ })

/-- A write is staged, and the one that covers the last part commits the slot. -/
theorem slotWrite_admitted (h : slotFault a addr size = none) : slotWrite s a addr size v e =
    if addr % 16 / 4 + size / 4 = 4 then
      slotCommit (slotStaged s a.ini ((addr - 0x60000000) / 16) (addr % 16 / 4) size v) a.ini ((addr - 0x60000000) / 16) e
    else (slotStaged s a.ini ((addr - 0x60000000) / 16) (addr % 16 / 4) size v).answer a.ini .none := by
  simp only [slotWrite, h]
  rfl

/-- What staging and committing may reach beside the word itself. -/
def slotMask : Nat := maskOf (LTH_SLOT_STAT_abandon :: LTH_SLOT_STAT_sat :: evFlds) (.ports :: evParts)

theorem slotStaged_reaches {k : Nat} : Moves slotMask s (slotStaged s i g k size v) :=
  State.modPort_moves ⟨by decide +kernel⟩ (State.onIf_moves .refl fun _ h =>
    State.logEv_moves ⟨by decide +kernel⟩ (State.put_moves (.inr (by decide +kernel)) h))

theorem slotStaged_mem {k : Nat} : (slotStaged s i g k size v).mem = s.mem := slotStaged_reaches.mem_eq (by decide +kernel)

theorem slotStaged_replay {k : Nat} : (slotStaged s i g k size v).owl.replay = s.owl.replay := by
  rw [slotStaged, State.modPort_owl, slotAbandon, State.onIf]
  split
  · rw [State.logEv_replay]
    rfl
  · rfl

theorem slotStaged_staging {k : Nat} : ((slotStaged s i g k size v).port i).staging =
    ⟨some g, partsImage (newParts (heldParts (s.port i).staging g).1 k size v), newMask (heldParts (s.port i).staging g).2 k size⟩ := by
  rw [slotStaged, modPort_port]

theorem answer_staging {x : Reply} : ((s.answer i x).port i).staging = (s.port i).staging := by rw [State.answer, modPort_port]

theorem exec_slotWrite (hheld : s.dev.held = false) : exec (.slotWrite a addr size v e) s = .next (slotWrite s a addr size v e) :=
  live_run (f := fun s => slotWrite s a addr size v e) s hheld

/-- A write that leaves the last part open is staged, and nothing else happens. -/
theorem slotWrite_stages (hheld : s.dev.held = false) (h : slotFault a addr size = none) (hsize : size = 4 ∨ size = 8)
    (hal : addr % size = 0) (hopen : addr % 16 + size < 16) : ∃ t, exec (.slotWrite a addr size v e) s = .next t ∧ t.mem = s.mem ∧
      (t.port a.ini).reply = .none ∧ (t.port a.ini).staging.slot = some ((addr - 0x60000000) / 16) ∧
      (t.port a.ini).staging.bits / 2 ^ (8 * (addr % 16)) % 2 ^ (8 * size) = v % 2 ^ (8 * size) := by
  have hk : ¬ addr % 16 / 4 + size / 4 = 4 := by omega
  have ho : addr % 16 % size = 0 := by rcases hsize with rfl | rfl <;> omega
  refine ⟨_, (exec_slotWrite hheld).trans (congrArg _ ((slotWrite_admitted h).trans (if_neg hk))), ?_, State.answer_port _ _ _, ?_, ?_⟩
  · exact slotStaged_mem (k := addr % 16 / 4) (size := size) (v := v)
  · rw [answer_staging, slotStaged_staging]
  · rw [answer_staging, slotStaged_staging]
    exact newParts_written (heldParts_four _ _) hsize ho hopen

/-! ### A commit (R54, R55) -/

section commit
variable {n : Ch} {w : Nat} {q : QWord}

/-- Whether a word may be written follows from the bank that is active, a swap, the fallback, a seal in work and the channel's state. -/
theorem wordWrite_same {t : State} (hbank : ∀ f ∈ [SPn_BANK_active, SPn_BANK_swap, SPn_BANK_seal_busy, CHn_STATE_state],
    t.get f n.val = s.get f n.val) (hsps : t.sps = s.sps) : wordWrite t n w = wordWrite s n w := by
  unfold wordWrite actBank State.getB State.sp State.chState
  simp [hbank, hsps]

/-- A word that may be written and belongs to no bank is stored whole, and is good (R67, R211). -/
theorem wordFromBus_stores (hs : s.wf = true) (hg : g < 0x20000)
    (hok : wordWrite s (chOf (g / 32768)) (g % 32768) = some none) (hr : s.replayed (chOf (g / 32768)).val = false) :
    sget 0 (wordFromBus s g q).mem.lathe g = wordBits q ∧ isUe (wordFromBus s g q) 1 g = false ∧ (wordFromBus s g q).ports = s.ports := by
  have hword : spWord (chOf (g / 32768)).val (g % 32768) = g := by
    simp only [spWord, chOf]
    omega
  have hrec := fun l => State.owlRec_moves (a := s) (x1 := 0x05) (x2 := (chOf (g / 32768)).val) (x3 := l) ⟨Nat.and_self _⟩ .refl
  have hrecok : ∀ l, wordWrite (s.owlRec 0x05 (chOf (g / 32768)).val l) (chOf (g / 32768)) (g % 32768) = some none := fun l => by
    rw [← hok]
    refine wordWrite_same (fun f hf => (hrec l).same hs f _ _ ?_) (State.owlRec_sps _ _ _ _)
    revert f
    decide +kernel
  obtain ⟨l, heq⟩ : ∃ l, wordFromBus s g q = (s.owlRec 0x05 (chOf (g / 32768)).val l).putLw g q :=
    ⟨[g % 32768, toField 36 q.x, toField 36 q.y], by
      simp only [wordFromBus, hr, Bool.false_eq_true, if_false, storeWord, hrecok, hword]⟩
  have hwf : (s.owlRec 0x05 (chOf (g / 32768)).val l).wf = true := State.owlRec_wf _ _ _ _ hs
  refine ⟨?_, ?_, ?_⟩
  · rw [heq]
    exact sget_sput_same (State.wf_lathe hwf)
  · rw [heq]
    simp only [isUe, State.putLw, ueClear]
    rw [sget_sput_same (wf_ecc hwf).1]
    rfl
  · rw [heq]
    exact State.owlRec_ports _ _ _ _

/-- The staging is empty again, and a saturation is marked and reported (R55). -/
def slotSat (s : State) (i : Init) (g : Nat) (sat : Bool) : State :=
  (s.modPort i (fun p => { p with staging := ⟨none, 0, 0⟩ })).onIf sat (fun s => (s.put LTH_SLOT_STAT_sat 1).logEv 0x3001 [g])

theorem slotSat_reaches {sat : Bool} : Moves slotMask s (slotSat s i g sat) :=
  State.onIf_moves (State.modPort_moves ⟨by decide +kernel⟩ .refl) fun _ h =>
    State.logEv_moves ⟨by decide +kernel⟩ (State.put_moves (.inr (by decide +kernel)) h)

theorem slotSat_replay {sat : Bool} : (slotSat s i g sat).owl.replay = s.owl.replay := by
  cases sat with
  | false => rfl
  | true => rw [slotSat, State.onIf_true, State.logEv_replay]; rfl

theorem slotSat_staging {sat : Bool} : ((slotSat s i g sat).port i).staging = ⟨none, 0, 0⟩ := by
  have hempty : ((s.modPort i (fun p => { p with staging := ⟨none, 0, 0⟩ })).port i).staging = ⟨none, 0, 0⟩ := by rw [modPort_port]
  cases sat with
  | false => exact hempty
  | true => rw [slotSat, State.onIf_true, State.port, State.logEv_ports]; exact hempty

/-- A slot all of whose parts are staged needs none of its present content: no word is read. -/
theorem slotCommit_whole {x0 x1 y0 y1 : Nat} (hm : (s.port i).staging.parts = 15) (hb : imgParts (s.port i).staging.bits = [x0, x1, y0, y1]) :
    ∃ sat, slotCommit s i g e = (wordFromBus (slotSat s i g sat) g
      ⟨(halfVal (x0 + 2 ^ 32 * x1) true).1, (halfVal (y0 + 2 ^ 32 * y1) true).1⟩).answer i .none := by
  have hbit : ∀ k < 4, Nat.testBit 15 k = true := by decide
  simp only [slotCommit, hm, hb, if_true, bne_self_eq_false, Bool.false_and, Bool.false_eq_true, if_false, hbit 0 (by decide),
    hbit 1 (by decide), hbit 2 (by decide), hbit 3 (by decide), Bool.or_self]
  exact ⟨_, rfl⟩

end commit

/-- The write of the last two parts completes a slot whose first two parts are staged. -/
theorem newMask_whole {m : Nat} (h : m = 3 ∨ m = 7) : newMask m 2 8 = 15 := by
  rcases h with rfl | rfl <;> decide

/-- The parts that are committed: the first two as staged, the last two as written. -/
theorem newParts_whole {st : Staging} (hslot : st.slot = some g) : newParts (heldParts st g).1 2 8 v =
    [st.bits % 2 ^ 32, st.bits / 2 ^ 32 % 2 ^ 32, v % 2 ^ 32, v / 2 ^ 32 % 2 ^ 32] := by
  simp [newParts, heldParts, hslot, imgParts, List.range, List.range.loop]

theorem mod_halves (x : Nat) : x % 2 ^ 32 + 2 ^ 32 * (x / 2 ^ 32 % 2 ^ 32) = x % 2 ^ 64 := by omega

/-- The write that covers the last part commits the word, and the word is good. -/
theorem slotWrite_commits (hheld : s.dev.held = false) (hs : s.wf = true) (h : slotFault a addr 8 = none) (hg : (addr - 0x60000000) / 16 = g)
    (hlt : g < 0x20000) (hlast : addr % 16 = 8) (hslot : (s.port a.ini).staging.slot = some g)
    (hparts : (s.port a.ini).staging.parts = 3 ∨ (s.port a.ini).staging.parts = 7)
    (hok : wordWrite s (chOf (g / 32768)) (g % 32768) = some none) (hr : s.replayed (chOf (g / 32768)).val = false) :
    ∃ t, exec (.slotWrite a addr 8 v e) s = .next t ∧ (t.port a.ini).reply = .none ∧ (t.port a.ini).staging.slot = none ∧
      sget 0 t.mem.lathe g =
        wordBits ⟨(halfVal ((s.port a.ini).staging.bits % 2 ^ 64) true).1, (halfVal (v % 2 ^ 64) true).1⟩ ∧ isUe t 1 g = false := by
  have hlt32 : ∀ x, x % 2 ^ 32 < 2 ^ 32 := fun x => Nat.mod_lt _ (by decide)
  have hstaged := slotStaged_staging (s := s) (i := a.ini) (g := g) (k := 2) (size := 8) (v := v)
  have hheldp : (heldParts (s.port a.ini).staging g).2 = (s.port a.ini).staging.parts := by rw [heldParts, if_pos hslot]
  rw [newParts_whole hslot, hheldp, newMask_whole hparts] at hstaged
  obtain ⟨sat, hcommit⟩ := slotCommit_whole (s := slotStaged s a.ini g 2 8 v) (i := a.ini) (g := g) (e := e) (by rw [hstaged])
    (by rw [hstaged]; exact imgParts_partsImage (hlt32 _) (hlt32 _) (hlt32 _) (hlt32 _))
  rw [mod_halves, mod_halves] at hcommit
  have hwrite : slotWrite s a addr 8 v e = slotCommit (slotStaged s a.ini g 2 8 v) a.ini g e := by
    rw [slotWrite_admitted h, hg, hlast]
    rfl
  have hstage : Moves slotMask s (slotStaged s a.ini g 2 8 v) := slotStaged_reaches
  have hsat : Moves slotMask (slotStaged s a.ini g 2 8 v) (slotSat (slotStaged s a.ini g 2 8 v) a.ini g sat) := slotSat_reaches
  have hallowed : wordWrite (slotSat (slotStaged s a.ini g 2 8 v) a.ini g sat) (chOf (g / 32768)) (g % 32768) = some none := by
    rw [← hok]
    refine wordWrite_same (fun f hf => ?_) ((hsat.part (p := .sps) (by decide +kernel)).trans (hstage.part (p := .sps) (by decide +kernel)))
    have hout : (slotMask.testBit 0 || touches slotMask f) = false := by revert f; decide +kernel
    exact (hsat.same (hstage.wf hs) f _ _ hout).trans (hstage.same hs f _ _ hout)
  have hlive : (slotSat (slotStaged s a.ini g 2 8 v) a.ini g sat).replayed (chOf (g / 32768)).val = false := by
    rw [State.replayed_congr (slotSat_replay.trans slotStaged_replay)]
    exact hr
  obtain ⟨hword, hgood, hports⟩ := wordFromBus_stores (q := ⟨(halfVal ((s.port a.ini).staging.bits % 2 ^ 64) true).1,
    (halfVal (v % 2 ^ 64) true).1⟩) (hsat.wf (hstage.wf hs)) hlt hallowed hlive
  refine ⟨_, (exec_slotWrite hheld).trans (congrArg _ (hwrite.trans hcommit)), State.answer_port _ _ _, ?_, hword, hgood⟩
  rw [answer_staging, State.port, hports, ← State.port, slotSat_staging]

end write

/-! ### A read (R56) -/

section read
variable {s : State} {a : Access} {addr size g : Nat} {e : List Nat}

theorem exec_slotRead (hheld : s.dev.held = false) : exec (.slotRead a addr size e) s = .next (slotRead s a addr size e) :=
  live_run (f := fun s => slotRead s a addr size e) s hheld

/-- A read of the first part captures the word as it stands, and is served from it. -/
theorem slotRead_captures (hheld : s.dev.held = false) (h : slotFault a addr size = none) (hg : (addr - 0x60000000) / 16 = g)
    (hfirst : addr % 16 = 0) (hue : isUe s 1 g = false) (hk : eccKind e = 0) : ∃ t, exec (.slotRead a addr size e) s = .next t ∧
      t.mem = s.mem ∧ (t.port a.ini).reply = .data (slotImage (s.lwRead g) % 2 ^ (8 * size)) ∧
      (t.port a.ini).capture = ⟨some g, slotImage (s.lwRead g)⟩ := by
  have hread : slotRead s a addr size e = (s.modPort a.ini (fun p => { p with capture := ⟨some g, slotImage (s.lwRead g)⟩ })).answer a.ini
      (.data (slotImage (s.lwRead g) % 2 ^ (8 * size))) := by
    simp [slotRead, h, hg, hfirst, eccRead_clean hue hk, hue, hk]
  refine ⟨_, (exec_slotRead hheld).trans (congrArg _ hread), rfl, State.answer_port _ _ _, ?_⟩
  rw [State.answer, modPort_port, modPort_port]

/-- A read of the first part of a word that is or is found uncorrectable is answered with an error. -/
theorem slotRead_fails (hheld : s.dev.held = false) (hs : s.wf = true) (h : slotFault a addr size = none) (hg : (addr - 0x60000000) / 16 = g)
    (hfirst : addr % 16 = 0) (hbad : isUe s 1 g = true ∨ eccKind e = 2) : ∃ t, exec (.slotRead a addr size e) s = .next t ∧
      (t.port a.ini).reply = .error ∧ isUe t 1 g = true ∧ t.mem.lathe = s.mem.lathe := by
  have hmet : isUe (eccRead s 1 g (iniCode a.ini) e true).1 1 g = true ∧ (eccRead s 1 g (iniCode a.ini) e true).1.mem.lathe = s.mem.lathe := by
    cases hue : isUe s 1 g with
    | true =>
      rw [eccRead_known hue]
      exact ⟨hue, rfl⟩
    | false =>
      rw [eccRead_uncorrectable hue (hbad.resolve_left (by simp [hue]))]
      obtain ⟨hknown, -, -, hlathe⟩ := ueFound_reports (ini := iniCode a.ini) hs hue
      exact ⟨hknown, hlathe⟩
  obtain ⟨hknown, hlathe⟩ := hmet
  have hread : slotRead s a addr size e = (eccRead s 1 g (iniCode a.ini) e true).1.answer a.ini .error := by
    simp [slotRead, h, hg, hfirst, hknown]
  exact ⟨_, (exec_slotRead hheld).trans (congrArg _ hread), State.answer_port _ _ _, hknown, hlathe⟩

/-- A later part of the captured slot reads no memory. -/
theorem slotRead_serves (hheld : s.dev.held = false) (h : slotFault a addr size = none) (hg : (addr - 0x60000000) / 16 = g)
    (hlater : addr % 16 ≠ 0) (hcap : (s.port a.ini).capture.slot = some g) : ∃ t, exec (.slotRead a addr size e) s = .next t ∧
      t.mem = s.mem ∧ (t.port a.ini).reply = .data ((s.port a.ini).capture.bits / 2 ^ (8 * (addr % 16)) % 2 ^ (8 * size)) := by
  have hread : slotRead s a addr size e =
      s.answer a.ini (.data ((s.port a.ini).capture.bits / 2 ^ (8 * (addr % 16)) % 2 ^ (8 * size))) := by
    have hfirst : (addr % 16 == 0) = false := beq_eq_false_iff_ne.mpr hlater
    simp [slotRead, h, hg, hfirst, hcap]
  exact ⟨_, (exec_slotRead hheld).trans (congrArg _ hread), rfl, State.answer_port _ _ _⟩

end read

/-- Settles O7. -/
theorem slots : Obligations.Slots := by
  rintro s a addr size v ⟨hheld, hs⟩ hp hlo hhi hsize hal g
  have hfault := slotFault_none hp hlo hhi hsize hal
  refine ⟨fun e => slotWrite_stages hheld hfault hsize hal, fun e hend h8 hslot hparts hok hr _ => ?_,
    fun e hfirst hue hk => slotRead_captures hheld hfault rfl hfirst hue hk,
    fun e hfirst hbad => slotRead_fails hheld hs hfault rfl hfirst hbad,
    fun e hlater hcap => slotRead_serves hheld hfault rfl hlater hcap⟩
  subst h8
  exact slotWrite_commits hheld hs hfault rfl (by omega) (by omega) hslot hparts hok hr

end Sys2Proof.Proofs
end

section
/-! PROOF. What becomes of an evaluation's outcome while the work after its commit goes on (R218). -/

namespace Sys2Proof.Machine

/-- From `s` to `t`, a spindle's period stays open or closed, its rejection stands or not, and its commit's number is the same. -/
structure Settled (n : Ch) (s t : State) : Prop where
  isOpen : (t.sp n).isOpen = (s.sp n).isOpen
  rejGate : (t.sp n).rejGate = (s.sp n).rejGate
  gen : (t.sp n).gen = (s.sp n).gen

section settled
variable {n : Ch} {s t u : State}

theorem Settled.refl : Settled n s s := ⟨rfl, rfl, rfl⟩

theorem Settled.trans (h : Settled n s t) (k : Settled n t u) : Settled n s u :=
  ⟨k.isOpen.trans h.isOpen, k.rejGate.trans h.rejGate, k.gen.trans h.gen⟩

/-- Whatever leaves the spindles alone. -/
theorem Settled.of_sps (h : Settled n s t) (k : u.sps = t.sps) : Settled n s u :=
  h.trans ⟨by rw [State.sp, k, State.sp], by rw [State.sp, k, State.sp], by rw [State.sp, k, State.sp]⟩

theorem Settled.of_moves {m : Nat} (h : Settled n s t) (k : Moves m t u) (hp : m.testBit (partBit .sps) = false) : Settled n s u :=
  h.of_sps (k.part (p := .sps) hp)

/-- A change of the spindle's other parts. -/
theorem Settled.modSp {f : SpSt → SpSt} (h : Settled n s t) (ho : ∀ p, (f p).isOpen = p.isOpen) (hr : ∀ p, (f p).rejGate = p.rejGate)
    (hg : ∀ p, (f p).gen = p.gen) : Settled n s (t.modSp n f) := by
  have hsp : (t.modSp n f).sp n = f (t.sp n) := by simp [State.sp, State.modSp, vupd]
  exact h.trans ⟨by rw [hsp, ho], by rw [hsp, hr], by rw [hsp, hg]⟩

theorem Settled.modFld {f : FldSt → FldSt} (h : Settled n s t) : Settled n s (t.modFld n f) :=
  h.modSp (fun _ => rfl) (fun _ => rfl) fun _ => rfl

theorem Settled.put {f : Fld} {v i j : Nat} (h : Settled n s t) : Settled n s (t.put f v i j) := h.of_sps rfl

theorem Settled.modLeg {k : Leg} {f : LegSt → LegSt} (h : Settled n s t) : Settled n s (t.modLeg k f) := h.of_sps rfl

theorem Settled.legApply {k : Leg} {c b : Bool} (h : Settled n s t) : Settled n s (t.legApply c b k) :=
  h.of_moves (State.legApply_moves ⟨Nat.and_self _⟩ .refl) (by decide +kernel)

theorem Settled.onIf {c : Bool} {f : State → State} (h : Settled n s t) (hf : ∀ v, Settled n s v → Settled n s (f v)) :
    Settled n s (t.onIf c f) := by
  cases c with
  | false => exact h
  | true => exact hf t h

theorem Settled.forL {α : Type} {l : List α} {f : α → State → State} (h : Settled n s t)
    (hf : ∀ x v, Settled n s v → Settled n s (f x v)) : Settled n s (t.forL l f) := by
  unfold State.forL
  induction l generalizing t with
  | nil => exact h
  | cons x l ih => exact ih (hf x t h)

/-! ### The stages after a commit -/

theorem Settled.satMark {stage : Nat} {c : Bool} (h : Settled n s t) : Settled n s (satMark t n stage c) :=
  h.of_moves (satMark_moves ⟨Nat.and_self _⟩ .refl) (by decide +kernel)

theorem Settled.modulate {vdc : Int} {l : List Int} (h : Settled n s t) : Settled n s (modulate t n vdc l).2 :=
  h.of_moves (modulate_moves ⟨Nat.and_self _⟩ .refl) (by decide +kernel)

theorem Settled.fieldAngles (h : Settled n s t) : Settled n s (fieldAngles t n) :=
  h.of_moves (fieldAngles_moves ⟨Nat.and_self _⟩ .refl) (by decide +kernel)

theorem Settled.putPairs {k w c : Nat} {l : List Int} (h : Settled n s t) : Settled n s (t.putPairs k w c l) :=
  h.of_moves (State.putPairs_moves ⟨Nat.and_self _⟩ .refl) (by decide +kernel)

theorem Settled.frzShow (h : Settled n s t) : Settled n s (frzShow t n) := h.put

theorem Settled.fieldWeaken {u0 u1 vdc T : Int} (h : Settled n s t) : Settled n s (fieldWeaken t n u0 u1 vdc T) := by
  unfold Machine.fieldWeaken
  split
  · exact h
  · exact h.modFld.put.put

theorem Settled.driveVec {v : Nat} (h : Settled n s t) : Settled n s (driveVec t n v) :=
  Settled.forL (t := modDtc t n _) h.modFld fun _ _ hw => hw.modLeg.legApply

theorem Settled.taskFreeze (h : Settled n s t) : Settled n s (taskFreeze t n) := by
  refine Settled.frzShow (h.modSp ?_ ?_ ?_) <;> exact fun _ => rfl

theorem Settled.taskBegin {task : Nat} (h : Settled n s t) : Settled n s (taskBegin t n task) := h.put.put.taskFreeze.driveVec

theorem Settled.observerUpdate {e0 e1 T : Int} (h : Settled n s t) : Settled n s (observerUpdate t n e0 e1 T) := by
  unfold Machine.observerUpdate
  extract_lets
  split
  · exact h
  · refine Settled.onIf (Settled.onIf ?_ fun _ k => k.put) fun _ k => Settled.taskBegin k.modFld
    exact h.put.put.modFld

theorem Settled.lockedWatch {T : Int} (h : Settled n s t) : Settled n s (lockedWatch t n T) := by
  unfold Machine.lockedWatch
  split
  · exact h
  · exact h.modFld

theorem Settled.fluxWatch {uq T : Int} (h : Settled n s t) : Settled n s (fluxWatch t n uq T) := by
  unfold Machine.fluxWatch
  extract_lets
  split
  · exact h
  · split
    · exact h
    · exact h.modFld.put

theorem Settled.gridUpdate {T : Int} (h : Settled n s t) : Settled n s (gridUpdate t n T) := by
  unfold Machine.gridUpdate
  split
  · exact h
  · exact h.modFld.put

theorem Settled.oscDetect (h : Settled n s t) : Settled n s (oscDetect t n) := by
  unfold Machine.oscDetect
  split
  · exact h
  · refine Settled.modSp (Settled.onIf ?_ fun _ k => k.put) (fun _ => rfl) (fun _ => rfl) fun _ => rfl
    exact h.of_sps rfl

/-- The work after a commit leaves the outcome of the evaluation as it is. -/
theorem Settled.afterCommit {x yp e eps u uLim : List Int} {flags : Nat} {vdc : Int} (h : Settled n s t) :
    Settled n s (afterCommit t n x yp e eps u uLim flags vdc) := by
  unfold Machine.afterCommit
  extract_lets _ _ _ _ _ s1 s2 s3 s4 s5 s6 s7 s8 s9 s10 q s11 s12 s13 s14 c
  have h5 : Settled n s s5 := h.satMark.putPairs.putPairs.putPairs.putPairs
  have h6 : Settled n s s6 := h5.modSp (fun _ => rfl) (fun _ => rfl) fun _ => rfl
  have h7 : Settled n s s7 := h6.onIf fun _ k => k.modSp (fun _ => rfl) (fun _ => rfl) fun _ => rfl
  have h10 : Settled n s s10 := h7.frzShow.fieldWeaken.observerUpdate
  have h11 : Settled n s s11 := h10.onIf fun _ k => k.modFld
  exact h11.lockedWatch.fluxWatch.gridUpdate.oscDetect.modSp (fun _ => rfl) (fun _ => rfl) fun _ => rfl

end settled

end Sys2Proof.Machine
end

section
/-! PROOF. A spindle's period and its saturation record (O17). -/

namespace Sys2Proof.Proofs

open Sys2Proof Sys2Proof.Machine Sys2Proof.Safety

section period
variable {s u : State} {n : Ch} {e : WordErrs}

theorem spEcc_nil : spEcc s n [] = s := by
  cases h : spRuns s n <;> simp [spEcc, h, eccReads, State.forL]

theorem spEcc_wf (hs : s.wf = true) : (spEcc s n e).wf = true := (spEcc_moves ⟨Nat.and_self _⟩ .refl).wf hs

theorem satMark_wf {stage : Nat} {c : Bool} (hs : s.wf = true) : (satMark s n stage c).wf = true := (satMark_moves ⟨Nat.and_self _⟩ .refl).wf hs

/-- The registers that a mark of a saturation leaves alone. -/
theorem satMark_get {stage : Nat} {c : Bool} {f : Fld} {i : Nat} (hs : s.wf = true)
    (hf : f ∈ [SPn_PER_per, SPn_SPEC_ACC_count, CHn_PERIOD_CNT_count]) : (satMark s n stage c).get f i = s.get f i :=
  (satMark_moves ⟨Nat.and_self _⟩ .refl).same hs f i 0 (by revert f; decide +kernel)

/-! ### The speculation (R214) -/

theorem exec_speculation (hheld : s.dev.held = false) : exec (.speculation n e) s = .next (speculate (spEcc s n e) n) :=
  live_run (f := fun s => speculate (spEcc s n e) n) s hheld

/-- A speculation that can start takes the period, and leaves it open. -/
theorem speculate_starts (hs : s.wf = true) (hopen : (s.sp n).isOpen = true) (hnone : (s.sp n).spec = 0) (hctl : s.get SPn_CTL_spec n.val = 1)
    (hpos : posReady s n = true) : ((speculate s n).sp n).spec = 1 ∧ ((speculate s n).sp n).per = s.get SPn_PER_per n.val ∧
      ((speculate s n).sp n).isOpen = true := by
  have hgo : ¬ (!(s.sp n).isOpen || (s.sp n).spec != 0 || !s.getB SPn_CTL_spec n.val || !posReady s n) = true := by
    simp [hopen, hnone, hctl, hpos, State.getB]
  have hang : (fieldAngles s n).wf = true := (fieldAngles_moves ⟨Nat.and_self _⟩ .refl).wf hs
  rw [speculate, if_neg hgo]
  extract_lets u th p c z m t
  have hper : t.get SPn_PER_per n.val = s.get SPn_PER_per n.val := by
    rw [satMark_get (satMark_wf (satMark_wf hang)) (by decide), satMark_get (satMark_wf hang) (by decide), satMark_get hang (by decide)]
    exact (fieldAngles_moves ⟨Nat.and_self _⟩ .refl).same hs _ _ _ (by decide +kernel)
  have hstill : Settled n s t := Settled.refl.fieldAngles.satMark.satMark.satMark
  rw [modSp_sp]
  exact ⟨rfl, hper, hstill.isOpen.trans hopen⟩

theorem exec_specDone (hheld : s.dev.held = false) (h : (s.sp n).spec = 1) :
    exec (.specDone n) s = .next (s.modSp n (fun p => { p with spec := 2 })) := by
  have hdone : specDone s n = s.modSp n (fun p => { p with spec := 2 }) := by simp [specDone, h]
  exact (live_run (f := fun s => specDone s n) s hheld).trans (congrArg _ hdone)

/-! ### The fast path and the full evaluation (R215, R216) -/

theorem release_wf {duty : List Nat} (hs : s.wf = true) : (release s n duty).wf = true := (release_moves ⟨Nat.and_self _⟩ .refl).wf hs

/-- A release closes the period, and counts the commit. -/
theorem release_sp {duty : List Nat} : ((release s n duty).sp n).isOpen = false ∧ ((release s n duty).sp n).rejGate = none ∧
    ((release s n duty).sp n).gen = ((s.sp n).gen + 1) % 65536 := by
  unfold release
  extract_lets bad t
  have hgen : (t.sp n).gen = (s.sp n).gen := by simp only [t, State.onIf]; split <;> rfl
  rw [modSp_sp]
  exact ⟨rfl, rfl, by rw [hgen]⟩

/-- A speculation that is accepted: the count goes up, the duties leave, and the work after the commit leaves it so. -/
theorem accepted_shows {duty : List Nat} {b : Bool} {x yp e eps uu uLim : List Int} {fl : Nat} {vdc : Int} (hu : u.wf = true) :
    let t := afterCommit (satMark (release (u.incWrap SPn_SPEC_ACC_count n.val) n duty) n 2 b) n x yp e eps uu uLim fl vdc
    t.get SPn_SPEC_ACC_count n.val = (u.get SPn_SPEC_ACC_count n.val + 1) % 2 ^ 32 ∧ (t.sp n).isOpen = false := by
  intro t
  have hcount : (u.incWrap SPn_SPEC_ACC_count n.val).wf = true := State.put_wf hu
  have hrel := release_wf (n := n) (duty := duty) hcount
  have hstill : Settled n (release (u.incWrap SPn_SPEC_ACC_count n.val) n duty) t := Settled.refl.satMark.afterCommit
  refine ⟨?_, hstill.isOpen.trans release_sp.1⟩
  rw [(afterCommit_moves ⟨Nat.and_self _⟩ .refl).same (satMark_wf hrel) _ _ _ (by decide +kernel), satMark_get hrel (by decide),
    (release_moves ⟨Nat.and_self _⟩ .refl).same hcount _ _ _ (by decide +kernel), State.incWrap, State.get_put_same hu]
  rfl

/-- The causes of a rejection are counted: an innovation beyond its window, other saturation flags, a swap (R215). -/
def rejectCounted (u : State) (n : Ch) (far sat swap : Bool) : State :=
  ((u.onIf far (fun s => s.incSat SPn_SPEC_REJ_innov n.val)).onIf sat (fun s => s.incSat SPn_SPEC_REJ_sat n.val)).onIf swap
    (fun s => s.incSat SPn_SPEC_REJ_swap n.val)

theorem rejectCounted_reaches {far sat swap : Bool} :
    Moves (maskOf [SPn_SPEC_REJ_innov, SPn_SPEC_REJ_sat, SPn_SPEC_REJ_swap] []) u (rejectCounted u n far sat swap) :=
  State.onIf_moves (State.onIf_moves (State.onIf_moves .refl fun _ h => State.put_moves (.inr (by decide +kernel)) h)
    fun _ h => State.put_moves (.inr (by decide +kernel)) h) fun _ h => State.put_moves (.inr (by decide +kernel)) h

/-- `SPn_SPEC_LAST` shows a rejection: its period, its causes, and the first measurement beyond its window. -/
def rejectShown (u : State) (n : Ch) (cause k : Nat) : State :=
  ((u.put SPn_SPEC_LAST_period (u.get CHn_PERIOD_CNT_count n.val) n.val).put SPn_SPEC_LAST_cause cause n.val).put SPn_SPEC_LAST_meas k n.val

theorem rejectShown_wf {cause k : Nat} (hu : u.wf = true) : (rejectShown u n cause k).wf = true := State.put_wf (State.put_wf (State.put_wf hu))

theorem rejectShown_get {cause k : Nat} (hu : u.wf = true) :
    (rejectShown u n cause k).get SPn_SPEC_LAST_period n.val = u.get CHn_PERIOD_CNT_count n.val % 65536 ∧
      (rejectShown u n cause k).get SPn_SPEC_ACC_count n.val = u.get SPn_SPEC_ACC_count n.val := by
  have hper : (u.put SPn_SPEC_LAST_period (u.get CHn_PERIOD_CNT_count n.val) n.val).wf = true := State.put_wf hu
  have hcause : ((u.put SPn_SPEC_LAST_period (u.get CHn_PERIOD_CNT_count n.val) n.val).put SPn_SPEC_LAST_cause cause n.val).wf = true :=
    State.put_wf hper
  refine ⟨?_, ?_⟩
  · rw [rejectShown, State.get_put_ne hcause (by decide), State.get_put_ne hper (by decide), State.get_put_same hu]
    rfl
  · rw [rejectShown, State.get_put_ne hcause (by decide), State.get_put_ne hper (by decide), State.get_put_ne hu (by decide)]

/-- A speculation that is rejected: it waits for the full evaluation, and no acceptance is counted. -/
theorem rejected_shows {far sat swap : Bool} {cause k : Nat} {f : SpSt → SpSt} (hu : u.wf = true) (hf : ∀ q, (f q).rejGate.isSome = true) :
    let t := ((rejectShown (rejectCounted u n far sat swap) n cause k).onIf far
      (fun s => s.logRate 0x3110 n.val (10 * tkMs) [n.val])).modSp n f
    t.get SPn_SPEC_ACC_count n.val = u.get SPn_SPEC_ACC_count n.val ∧ (t.sp n).rejGate.isSome = true ∧
      t.get SPn_SPEC_LAST_period n.val = u.get CHn_PERIOD_CNT_count n.val % 65536 := by
  intro t
  have hcounted := rejectCounted_reaches (u := u) (n := n) (far := far) (sat := sat) (swap := swap)
  have hwf := hcounted.wf hu
  have hlog : Moves (maskOf evFlds (.sps :: evParts)) (rejectShown (rejectCounted u n far sat swap) n cause k) t :=
    State.modSp_moves ⟨by decide +kernel⟩ (State.onIf_moves .refl fun _ h => State.logRate_moves ⟨by decide +kernel⟩ h)
  obtain ⟨hper, hacc⟩ := rejectShown_get (n := n) (cause := cause) (k := k) hwf
  refine ⟨?_, ?_, ?_⟩
  · rw [hlog.same (rejectShown_wf hwf) _ _ _ (by decide +kernel), hacc, hcounted.same hu _ _ _ (by decide +kernel)]
  · rw [modSp_sp]
    exact hf _
  · rw [hlog.same (rejectShown_wf hwf) _ _ _ (by decide +kernel), hper, hcounted.same hu _ _ _ (by decide +kernel)]

theorem exec_fastPath (hheld : s.dev.held = false) : exec (.fastPath n) s = .next (fastPath s n) :=
  live_run (f := fun s => fastPath s n) s hheld

/-- The fast path of a complete speculation accepts it or rejects it. -/
theorem fastPath_judges (hs : s.wf = true) (hopen : (s.sp n).isOpen = true) (hspec : (s.sp n).spec = 2) (hrej : (s.sp n).rejGate = none)
    (hland : allLanded s n = true ∨ (s.sp n).waitHit = true) :
    let t := fastPath s n
    (t.get SPn_SPEC_ACC_count n.val = (s.get SPn_SPEC_ACC_count n.val + 1) % 2 ^ 32 ∧ (t.sp n).isOpen = false) ∨
      (t.get SPn_SPEC_ACC_count n.val = s.get SPn_SPEC_ACC_count n.val ∧ (t.sp n).rejGate.isSome = true ∧
        t.get SPn_SPEC_LAST_period n.val = s.get CHn_PERIOD_CNT_count n.val % 65536) := by
  intro t
  have hland' : (allLanded s n || (s.sp n).waitHit) = true := by rcases hland with h | h <;> simp [h]
  have hgo : ¬ (!(s.sp n).isOpen || (s.sp n).spec != 2 || (s.sp n).rejGate.isSome || !(allLanded s n || (s.sp n).waitHit)) = true := by
    simp [hopen, hspec, hrej, hland']
  have hacc := account_moves (x1 := n) ⟨Nat.and_self _⟩ (Moves.refl (a := s))
  have haccwf := hacc.wf hs
  unfold t fastPath
  extract_lets p0 u b h p ev eps us uu vdc l v md w far cause
  rw [if_neg hgo]
  have hv : v.wf = true := satMark_wf (satMark_wf (satMark_wf haccwf))
  have hmd := modulate_moves (a := v) (x1 := n) (x2 := vdc) (x3 := l.1) ⟨Nat.and_self _⟩ .refl
  have hw : w.wf = true := hmd.wf hv
  have hget : ∀ f ∈ [SPn_SPEC_ACC_count, CHn_PERIOD_CNT_count], w.get f n.val = s.get f n.val := by
    intro f hf
    have hmem : f ∈ [SPn_PER_per, SPn_SPEC_ACC_count, CHn_PERIOD_CNT_count] := List.mem_cons_of_mem _ hf
    rw [hmd.same hv f _ _ (by revert f; decide +kernel), satMark_get (satMark_wf (satMark_wf haccwf)) hmem,
      satMark_get (satMark_wf haccwf) hmem, satMark_get haccwf hmem, hacc.same hs f _ _ (by revert f; decide +kernel)]
  rw [← hget SPn_SPEC_ACC_count (by decide), ← hget CHn_PERIOD_CNT_count (by decide)]
  split
  · exact .inl (accepted_shows hw)
  · exact .inr (rejected_shows hw fun _ => rfl)

theorem exec_fullEvalDone (hheld : s.dev.held = false) : exec (.fullEvalDone n e) s = .next (fullEvalDone (spEcc s n e) n) :=
  live_run (f := fun s => fullEvalDone (spEcc s n e) n) s hheld

/-- A full evaluation closes the period and counts its commit. -/
theorem fullEval_closes {gate : Nat} {eps : List Int} : ((fullEval s n gate eps).sp n).isOpen = false ∧
    ((fullEval s n gate eps).sp n).rejGate = none ∧ ((fullEval s n gate eps).sp n).gen = ((s.sp n).gen + 1) % 65536 := by
  unfold fullEval
  extract_lets _ _ eps' p ev x c vdc l v md w
  have hv : Settled n s v := Settled.refl.satMark.satMark.satMark.satMark
  have hmd : Settled n s md.2 := hv.modulate
  have hafter : Settled n w (afterCommit w n x.1 p.1.2 ev.1 eps' c.1 l.1 l.2 vdc) := Settled.refl.afterCommit
  obtain ⟨hopen, hrej, hgen⟩ := release_sp (s := md.2) (n := n) (duty := md.1)
  exact ⟨hafter.isOpen.trans hopen, hafter.rejGate.trans hrej, by rw [hafter.gen, hgen, hmd.gen]⟩

theorem fullEvalDone_rejected {g : Nat} (h : (s.sp n).rejGate = some g) : fullEvalDone s n = fullEval s n g (s.sp n).eps := by
  simp only [fullEvalDone, h]

/-! ### The wait limit and the hold timer (R220, R223) -/

theorem account_counted (h : (s.sp n).counted = false) : ((account s n).sp n).counted = true := by
  unfold account
  rw [if_neg (by simp [h])]
  extract_lets
  rw [modSp_sp]

theorem exec_waitLimit (hheld : s.dev.held = false) (h : (s.sp n).isOpen = true) :
    exec (.waitLimit n) s = .next (account (s.modSp n (fun p => { p with waitHit := true })) n) := by
  have hwait : waitLimit s n = account (s.modSp n (fun p => { p with waitHit := true })) n := by simp only [waitLimit, h, State.onIf_true]
  exact (live_run (f := fun s => waitLimit s n) s hheld).trans (congrArg _ hwait)

theorem exec_fbHoldExpired (hheld : s.dev.held = false) (h : (s.sp n).holdEnd.isSome = true) : exec (.fbHoldExpired n) s =
    .next (if (s.sp n).isOpen && !(s.sp n).counted then s.modSp n (fun p => { p with fbDue := true }) else fbExpire (holdClear s n) n) := by
  have hset : ¬ (s.sp n).holdEnd.isNone = true := by
    rw [Option.isNone_iff_eq_none]
    exact Option.isSome_iff_ne_none.mp h
  refine (live_run (f := fun s => fbHoldExpired s n) s hheld).trans (congrArg _ ?_)
  exact if_neg hset

theorem stopRequest_grows (s : State) (n : Ch) (cause : Nat) : Grows s (stopRequest s n cause) :=
  (Grows.refl s).onIf fun _ h => Grows.modFld (((h.onIf fun _ k => k.put).trans (setState_grows _ n 4 cause)).putB.put)

/-- A hold timer that expires: its record, and the stop or the fault that it asks for (R223). -/
theorem fbExpire_shows (hs : s.wf = true) : (fbExpire s n).get SPn_FBSTAT_expired n.val = 1 ∧
    (∀ f ∈ [SPn_FBSTAT_hold, SPn_FBSTAT_hold_left], (fbExpire s n).get f n.val = s.get f n.val) ∧ Logged s (fbExpire s n) 0x310C [n.val] := by
  generalize hu : (s.logEv 0x310C [n.val]).put SPn_FBSTAT_expired 1 n.val = u
  have hev : (s.logEv 0x310C [n.val]).wf = true := State.logEv_wf _ _ _ hs
  have huwf : u.wf = true := hu ▸ State.put_wf hev
  have hkeep : ∀ f ∈ [SPn_FBSTAT_expired, SPn_FBSTAT_hold, SPn_FBSTAT_hold_left], (fbExpire s n).get f n.val = u.get f n.val := by
    intro f hf
    simp only [fbExpire, hu]
    split
    · exact (stopRequest_moves ⟨Nat.and_self _⟩ .refl).same huwf f _ _ (by revert f; decide +kernel)
    · rfl
  have hgrows : Grows u (fbExpire s n) := by
    simp only [fbExpire, hu]
    split
    · exact stopRequest_grows _ _ _
    · exact .of_log rfl
  have hlog : Logged s u 0x310C [n.val] := hu ▸ (logged_of rfl : Logged s (s.logEv 0x310C [n.val]) 0x310C [n.val])
  refine ⟨?_, fun f hf => ?_, Logged.grows hlog hgrows⟩
  · rw [hkeep _ (by decide), ← hu, State.get_put_same hev]
    rfl
  · rw [hkeep f (List.mem_cons_of_mem _ hf), ← hu, State.get_put_ne hev (by revert f; decide),
      logEv_get_of_untouched hs (by revert f; decide +kernel)]

theorem holdClear_shows (hs : s.wf = true) : (holdClear s n).get SPn_FBSTAT_hold n.val = 0 ∧
    (holdClear s n).get SPn_FBSTAT_hold_left n.val = 0 := by
  generalize hu : s.modSp n (fun p => { p with holdEnd := none }) = u
  have huwf : u.wf = true := hu ▸ hs
  have hput : (u.put SPn_FBSTAT_hold 0 n.val).wf = true := State.put_wf huwf
  rw [holdClear, hu, State.get_put_ne hput (by decide), State.get_put_same huwf, State.get_put_same hput]
  exact ⟨rfl, rfl⟩

end period

/-! ### The saturation record (R52) -/

section sat
variable {s t : State} {a : Access} {n : Ch} {v : Nat}

/-- The register of a spindle's saturation record. -/
def satReg : Reg := ⟨"SPn_SAT", 0x40310050, 4, 0x10000, 1, 0, [SPn_SAT_first_period, SPn_SAT_first_stage, SPn_SAT_modulate, SPn_SAT_limit,
  SPn_SAT_control, SPn_SAT_correct, SPn_SAT_predict, SPn_SAT_transform]⟩

/-- The stages' bits of the record. -/
def satBits : List Fld := [SPn_SAT_transform, SPn_SAT_predict, SPn_SAT_correct, SPn_SAT_control, SPn_SAT_limit, SPn_SAT_modulate]

/-- A write of the record: Owl records it, and the bits that are written as 1 go. -/
def satWritten (s : State) (n : Ch) (v : Nat) : State :=
  applyWr (s.owlRec 0x05 n.val [2 ^ 39 + SPn_SAT_transform.at n.val 0 % 0x10000, v % 2 ^ 32, 0]) ⟨satReg, n.val, 0, v % 2 ^ 32⟩ []

/-- With every bit clear, the capture of the first saturation goes too. -/
def satShut (t : State) (n : Ch) : State :=
  t.onIf (!(satBits.any (fun f => t.getB f n.val))) (fun s => (s.put SPn_SAT_first_period 0 n.val).put SPn_SAT_first_stage 0 n.val)

theorem exec_satClear (hadm : Admits s a) (hr : s.replayed n.val = false) :
    exec (.satClear a n v) s = .next ((budgetsShown (satShut (satWritten s n v) n)).answer a.ini .none) := by
  obtain ⟨⟨hheld, hwf⟩, hp, hlock, hc⟩ := hadm
  have hreg : regOf (SPn_SAT_transform.at n.val 0) = some (satReg, n.val, 0) := regOf_SPn_SAT n
  have hbus : busAddr (SPn_SAT_transform.at n.val 0) = true := by fin_cases n <;> rfl
  have hn := chOf_val n
  change wrFld s a SPn_SAT_transform n.val 0 v = _
  rw [wrFld, live_run s hheld, busWrite_spindle hc hp hbus hreg rfl (by rw [hn]; exact hr), hn,
    writeReg_open (by rw [State.owlRec_dev]; exact hlock)]
  have hpre : ∀ u t, preWrite u t a ⟨satReg, n.val, 0, v % 2 ^ 32⟩ = vPass := fun u t => by
    simp [preWrite, preSpindle, blockOf, Wr.is, satReg, SPn_I_BASE_base, SPn_V_BASE_base, SPn_W_BASE_base, SPn_CTL_spec_dis, SPn_XFORM_mode,
      SPn_FB_act, SPn_PER_per, SPn_OSC_CFG_win, SPn_OSC_N_n_min]
  simp only [hpre, vPass, List.isEmpty_nil, if_true, postWrite_SPn_SAT (w := ⟨satReg, n.val, 0, v % 2 ^ 32⟩) rfl, Wr.ch, hn]
  rfl

theorem satWritten_wf (hs : s.wf = true) : (satWritten s n v).wf = true := by
  have hflds : holdsFlds (maskOf (evFlds ++ satReg.flds) evParts) satReg = true := by decide +kernel
  exact (applyWr_reaches (w := ⟨satReg, n.val, 0, v % 2 ^ 32⟩) hflds (State.owlRec_moves ⟨by decide +kernel⟩ .refl)).wf hs

/-- What the record's fields hold after a write. -/
theorem satWritten_get {f : Fld} (hs : s.wf = true) (hf : f ∈ satReg.flds) : (satWritten s n v).get f n.val =
    if f.acc = .w1c then (s.get f n.val &&& ((2 ^ f.width - 1) ^^^ (v % 2 ^ 32 / 2 ^ f.lsb % 2 ^ f.width))) % 2 ^ f.width
    else s.get f n.val := by
  have hro : ¬ (f.acc = .rw ∨ f.acc = .wod) := by revert f; decide
  have hrec : ∀ l, (s.owlRec 0x05 n.val l).get f n.val = s.get f n.val := fun l =>
    (State.owlRec_moves ⟨Nat.and_self _⟩ .refl).same hs f _ _ (by revert f; decide +kernel)
  refine (applyWr_get (w := ⟨satReg, n.val, 0, v % 2 ^ 32⟩) (regOf_mem (regOf_SPn_SAT n)) (State.owlRec_wf _ _ _ _ hs) hf).trans ?_
  rw [if_neg hro, hrec]

/-- Written as 1, a bit goes; written as 0, it stays. -/
theorem satWritten_bit {f : Fld} (hs : s.wf = true) (hf : f ∈ satBits) :
    (v % 2 ^ 32 / 2 ^ f.lsb % 2 = 1 → (satWritten s n v).get f n.val = 0) ∧
    (v % 2 ^ 32 / 2 ^ f.lsb % 2 = 0 → s.get f n.val = 1 → (satWritten s n v).get f n.val = 1) := by
  have hmem : f ∈ satReg.flds := by revert f; decide
  have hbit : f.acc = .w1c ∧ f.width = 1 := by revert f; decide
  obtain ⟨hacc, hwidth⟩ := hbit
  rw [satWritten_get hs hmem, if_pos hacc, hwidth]
  refine ⟨fun h => ?_, fun h h1 => ?_⟩
  · rw [show 2 ^ 1 = 2 from rfl, h]
    simp
  · rw [show 2 ^ 1 = 2 from rfl, h, h1]
    rfl

/-- A write of 1 to every bit clears the record. -/
theorem satClear_all (hadm : Admits s a) (hr : s.replayed n.val = false) (hv : v % 64 = 63) : ∃ t, exec (.satClear a n v) s = .next t ∧
    ∀ f ∈ SPn_SAT_first_period :: SPn_SAT_first_stage :: satBits, t.get f n.val = 0 := by
  have hs := hadm.1.2
  have hwf := satWritten_wf (n := n) (v := v) hs
  have hclear : ∀ f ∈ satBits, (satWritten s n v).get f n.val = 0 := by
    intro f hf
    refine (satWritten_bit hs hf).1 ?_
    have hlsb : f.lsb < 6 := by revert f; decide
    generalize f.lsb = k at hlsb
    interval_cases k <;> omega
  have hnone : satBits.any (fun f => (satWritten s n v).getB f n.val) = false := by
    rw [List.any_eq_false]
    intro f hf
    rw [State.getB, hclear f hf]
    decide
  have hfirst : ((satWritten s n v).put SPn_SAT_first_period 0 n.val).wf = true := State.put_wf hwf
  have hshut : satShut (satWritten s n v) n =
      ((satWritten s n v).put SPn_SAT_first_period 0 n.val).put SPn_SAT_first_stage 0 n.val := by
    rw [satShut, hnone, Bool.not_false, State.onIf_true]
  refine ⟨_, exec_satClear hadm hr, fun f hf => ?_⟩
  rw [hshut, shown_get (State.put_wf hfirst) (by revert f; decide +kernel)]
  rcases List.mem_cons.mp hf with rfl | hf
  · rw [State.get_put_ne hfirst (by decide), State.get_put_same hwf]
    rfl
  · rcases List.mem_cons.mp hf with rfl | hf
    · rw [State.get_put_same hfirst]
      rfl
    · rw [State.get_put_ne hfirst (by revert f; decide), State.get_put_ne hwf (by revert f; decide), hclear f hf]

/-- A write of 1 to the first bit alone leaves the others, and with one of them set the capture of the first saturation. -/
theorem satClear_one (hadm : Admits s a) (hr : s.replayed n.val = false) (hv : v % 64 = 1) (hp : s.get SPn_SAT_predict n.val = 1) :
    ∃ t, exec (.satClear a n v) s = .next t ∧ t.get SPn_SAT_transform n.val = 0 ∧ t.get SPn_SAT_predict n.val = 1 ∧
      t.get SPn_SAT_first_period n.val = s.get SPn_SAT_first_period n.val := by
  have hs := hadm.1.2
  have hwf := satWritten_wf (n := n) (v := v) hs
  have hpred : (satWritten s n v).get SPn_SAT_predict n.val = 1 :=
    (satWritten_bit hs (by decide)).2 (by simp only [SPn_SAT_predict]; omega) hp
  have hany : satBits.any (fun f => (satWritten s n v).getB f n.val) = true :=
    List.any_eq_true.mpr ⟨SPn_SAT_predict, by decide, by rw [State.getB, hpred]; rfl⟩
  have hshut : satShut (satWritten s n v) n = satWritten s n v := by rw [satShut, hany, Bool.not_true, State.onIf_false]
  refine ⟨_, exec_satClear hadm hr, ?_, ?_, ?_⟩
  all_goals rw [hshut, shown_get hwf (by decide +kernel)]
  · exact (satWritten_bit hs (by decide)).1 (by simp only [SPn_SAT_transform]; omega)
  · exact hpred
  · exact (satWritten_get hs (by decide)).trans (if_neg (by decide))

end sat

/-- Settles O17. -/
theorem spindlePeriods : Obligations.SpindlePeriods := by
  rintro s a n v e ⟨hheld, hs⟩
  have hecc := spEcc_wf (n := n) (e := e) hs
  refine ⟨fun he => he ▸ spEcc_nil, fun hopen hnone hctl hpos => ⟨_, exec_speculation hheld, speculate_starts hecc hopen hnone hctl hpos⟩,
    fun h => ⟨_, exec_specDone hheld h, ?_, ?_, rfl⟩,
    fun hopen hspec hrej hland => ⟨_, exec_fastPath hheld, fastPath_judges hs hopen hspec hrej hland⟩, fun h => ?_,
    fun hopen hcnt => ⟨_, exec_waitLimit hheld hopen, account_counted (by rw [modSp_sp]; exact hcnt)⟩,
    fun hset hopen hcnt => ?_, fun hset hdone => ?_, fun hadm hr hv => ?_, fun hadm hr hv hp => satClear_one hadm hr hv hp⟩
  · rw [modSp_sp]
  · rw [modSp_sp]
  · obtain ⟨g, hg⟩ := Option.isSome_iff_exists.mp h
    exact ⟨_, (exec_fullEvalDone hheld).trans (congrArg _ (fullEvalDone_rejected hg)), fullEval_closes⟩
  · refine ⟨_, (exec_fbHoldExpired hheld hset).trans (congrArg _ (if_pos (by rw [hopen, hcnt]; rfl))), ?_, ?_, rfl, rfl⟩
    all_goals rw [modSp_sp]
  · have hnow : ¬ ((s.sp n).isOpen && !(s.sp n).counted) = true := by rcases hdone with h | h <;> simp [h]
    obtain ⟨hhold, hleft⟩ := holdClear_shows (n := n) hs
    have hclear : (holdClear s n).wf = true := (holdClear_moves ⟨Nat.and_self _⟩ .refl).wf hs
    obtain ⟨hexp, hkeep, hlog⟩ := fbExpire_shows (n := n) hclear
    exact ⟨_, (exec_fbHoldExpired hheld hset).trans (congrArg _ (if_neg hnow)), hexp, (hkeep _ (by decide)).trans hhold,
      (hkeep _ (by decide)).trans hleft, hlog⟩
  · obtain ⟨t, hexec, hzero⟩ := satClear_all hadm hr hv
    exact ⟨t, hexec, fun f hf => hzero f (by revert f; decide)⟩

end Sys2Proof.Proofs
end

end

/-! # Proofs: the family of spec/03_converter_bank.md -/

section
/- One declaration after the other: proofs that run side by side would each hold a thread while they wait for the kernel. -/
set_option Elab.async false

section
/-! PROOF. The entries of the converter bank after a change of one, and a write of a register of the bank or of a sequencer. -/

namespace Sys2Proof.Proofs

open Sys2Proof Sys2Proof.Machine Sys2Proof.Safety

/-! ### Numbers of entries -/

theorem cvOf_val (c : Cv) : cvOf c.val = c := Fin.ext (Nat.mod_eq_of_lt c.isLt)

theorem sqOf_val (q : Sq) : sqOf q.val = q := Fin.ext (Nat.mod_eq_of_lt q.isLt)

/-- The entries of a field at two numbers are apart. -/
theorem key_ne_of_ne {n : Nat} {i j : Fin n} (hn : n ≤ 1024) (h : i ≠ j) (f : Fld) : f.key i.val 0 ≠ f.key j.val 0 :=
  Fld.key_ne_of_fst fun k => h (Fin.ext (by omega))

theorem partner_ne (c : Cv) : partner c ≠ c := by revert c; decide

/-! ### The entries -/

section entries
variable {s : State} {c d : Cv} {i j : Ain} {f : Conv → Conv} {m : Cmp → Cmp}

@[simp] theorem modConv_conv : (s.modConv c f).cvb.conv[c] = f s.cvb.conv[c] := vupd_same _ _ _

theorem modConv_conv_ne (hd : d ≠ c) : (s.modConv c f).cvb.conv[d] = s.cvb.conv[d] := vupd_ne _ _ hd

@[simp] theorem modCmp_cmps : (s.modCmp i m).cvb.cmps[i] = m s.cvb.cmps[i] := vupd_same _ _ _

theorem modCmp_cmps_ne (hj : j ≠ i) : (s.modCmp i m).cvb.cmps[j] = s.cvb.cmps[j] := vupd_ne _ _ hj

end entries

/-! ### Signed fields -/

theorem toField_lt (w : Nat) (v : Int) : toField w v < 2 ^ w := by
  have hpos : (0 : Int) < (2 ^ w : Nat) := by positivity
  have hlt := Int.emod_lt_of_pos v hpos
  have hnn := Int.emod_nonneg v hpos.ne'
  unfold toField
  omega

/-- A value that fits in 16 bits is read back from them. -/
theorem ofField_toField {v : Int} (hlo : -(2 ^ 15) ≤ v) (hhi : v < 2 ^ 15) : ofField 16 (toField 16 v) = v := by
  unfold ofField toField
  split <;> omega

theorem putS_getS {s : State} {f : Fld} {v : Int} {i j : Nat} (hs : s.wf = true) (hw : f.width = 16) (hlo : -(2 ^ 15) ≤ v) (hhi : v < 2 ^ 15) :
    (s.putS f v i j).getS f i j = v := by
  rw [State.getS, State.putS, State.get_put_same hs, hw, Nat.mod_eq_of_lt (toField_lt _ _), ofField_toField hlo hhi]

/-! ### Writes (R7) -/

/-- What a judged write of a register of the bank or of a sequencer leaves. -/
def judged (s : State) (a : Access) (w : Wr) : Verdict → State
  | .no none => s
  | .no (some e) => s.logEv e.1 e.2
  | .act => budgetsShown (postWrite s a w s)
  | .go keep none => budgetsShown (postWrite s a w (applyWr s w keep))
  | .go keep (some e) => budgetsShown ((postWrite s a w (applyWr s w keep)).logEv e.1 e.2)

section write
variable {s t : State} {a : Access} {f : Fld} {r : Reg} {i j v : Nat} {V : Verdict}

/-- The budgets of the channels follow a write of these two blocks. -/
theorem showAfter_bank (h : blockOf r.addr = 0x10 ∨ blockOf r.addr = 0x11) : showAfter t (blockOf r.addr) = budgetsShown t := by
  rcases h with h | h <;> rw [h] <;> rfl

theorem wrFld_judged (hadm : Admits s a) (hb : busAddr (f.at i j) = true) (hr : regOf (f.at i j) = some (r, i, j))
    (hblk : blockOf r.addr = 0x10 ∨ blockOf r.addr = 0x11)
    (hv : preWrite s (applyWr s ⟨r, i, j, v % 2 ^ 32⟩ []) a ⟨r, i, j, v % 2 ^ 32⟩ = V) :
    wrFld s a f i j v = .next ((judged s a ⟨r, i, j, v % 2 ^ 32⟩ V).answer a.ini .none) := by
  obtain ⟨⟨hheld, -⟩, hp, hlock, hc⟩ := hadm
  have hsp : (blockOf r.addr == 0x31) = false := by rcases hblk with h | h <;> rw [h] <;> rfl
  rw [wrFld, live_run s hheld, busWrite_reg hc hp hb hr hsp, writeReg_open hlock, hv]
  rcases V with ⟨keep, e⟩ | _ | e
  · have hkeep : (if keep.isEmpty = true then applyWr s ⟨r, i, j, v % 2 ^ 32⟩ [] else applyWr s ⟨r, i, j, v % 2 ^ 32⟩ keep) =
        applyWr s ⟨r, i, j, v % 2 ^ 32⟩ keep := by
      cases keep <;> rfl
    cases e <;> simp only [judged, hkeep, showAfter_bank hblk]
  · simp only [judged, showAfter_bank hblk]
  · cases e <;> rfl

theorem preWrite_bank (h : blockOf r.addr = 0x10) : preWrite s t a ⟨r, i, j, v⟩ = preCvb s t ⟨r, i, j, v⟩ := by simp [preWrite, h]

theorem postWrite_bank (h : blockOf r.addr = 0x10) : postWrite s a ⟨r, i, j, v⟩ t = postCvb ⟨r, i, j, v⟩ t := by simp [postWrite, h]

theorem preWrite_sequencer (h : blockOf r.addr = 0x11) : preWrite s t a ⟨r, i, j, v⟩ = preSeq s t ⟨r, i, j, v⟩ := by simp [preWrite, h]

end write

end Sys2Proof.Proofs
end

section
/-! PROOF. The thresholds of the comparators (O43), and a sample at one (O11). -/

namespace Sys2Proof.Proofs

open Sys2Proof Sys2Proof.Machine Sys2Proof.Safety

/-! ### The thresholds (R110) -/

/-- The register of a comparator's thresholds. -/
def thrReg : Reg := ⟨"CMPi_THR", 0x40100800, 48, 0x10, 1, 0, [CMPi_THR_hi, CMPi_THR_lo]⟩

section thresholds
variable {s t : State} {a : Access} {i : Ain} {v : Nat} {hi lo : Int}

theorem regOf_CMPi_THR (i : Ain) : regOf (CMPi_THR_hi.at i.val 0) = some (thrReg, i.val, 0) := by
  fin_cases i <;> rfl

theorem busAddr_CMPi_THR (i : Ain) : busAddr (CMPi_THR_hi.at i.val 0) = true := by
  fin_cases i <;> rfl

theorem applyWr_CMPi_THR : applyWr s ⟨thrReg, i.val, 0, v⟩ [] =
    (s.put CMPi_THR_hi (v / 2 ^ 16 % 2 ^ 16) i.val 0).put CMPi_THR_lo (v / 2 ^ 0 % 2 ^ 16) i.val 0 := rfl

theorem preWrite_CMPi_THR : preWrite s t a ⟨thrReg, i.val, 0, v⟩ =
    vIf (decide (t.getS CMPi_THR_lo i.val ≤ t.getS CMPi_THR_hi i.val)) 0x1007 [i.val] := by
  rw [preWrite_bank (r := thrReg) rfl]
  simp [preCvb, Wr.is, thrReg, CVB_CTL_bgcal_period, CVB_OW_CTL_dwell, CVc_CFG_pwr, CVc_IDLE_idle_down, CVc_CAL_full, CVc_INJk_start,
    CVc_IDLESCAN_dwell, CMPi_THR_hi]

theorem postWrite_CMPi_THR : postWrite s a ⟨thrReg, i.val, 0, v⟩ t = t := by
  rw [postWrite_bank (r := thrReg) rfl]
  simp [postCvb, Wr.is, thrReg, CVc_CFG_pwr, CVc_CAL_full, CVc_INJk_start, CMPi_CFG_en]

/-- The word that holds two thresholds. -/
def thrWord (hi lo : Int) : Nat := toField 16 hi * 2 ^ 16 + toField 16 lo

/-- The thresholds written, before they are judged. -/
theorem applyWr_thrWord : applyWr s ⟨thrReg, i.val, 0, thrWord hi lo % 2 ^ 32⟩ [] =
    (s.putS CMPi_THR_hi hi i.val 0).putS CMPi_THR_lo lo i.val 0 := by
  have hhi := toField_lt 16 hi
  have hlo := toField_lt 16 lo
  have e1 : thrWord hi lo % 2 ^ 32 / 2 ^ 16 % 2 ^ 16 = toField 16 hi := by unfold thrWord; omega
  have e2 : thrWord hi lo % 2 ^ 32 / 2 ^ 0 % 2 ^ 16 = toField 16 lo := by unfold thrWord; omega
  rw [applyWr_CMPi_THR, e1, e2]
  rfl

theorem thresholds_getS (hs : s.wf = true) (h1 : -(2 ^ 15) ≤ hi) (h2 : hi < 2 ^ 15) (h3 : -(2 ^ 15) ≤ lo) (h4 : lo < 2 ^ 15) :
    ((s.putS CMPi_THR_hi hi i.val 0).putS CMPi_THR_lo lo i.val 0).getS CMPi_THR_hi i.val = hi ∧
    ((s.putS CMPi_THR_hi hi i.val 0).putS CMPi_THR_lo lo i.val 0).getS CMPi_THR_lo i.val = lo := by
  have hput : (s.putS CMPi_THR_hi hi i.val 0).wf = true := State.put_wf hs
  refine ⟨?_, putS_getS hput rfl h3 h4⟩
  rw [State.getS, State.putS, State.get_put_ne hput (by decide)]
  exact putS_getS hs rfl h1 h2

theorem thresholds_written (hadm : Admits s a) (h1 : -(2 ^ 15) ≤ hi) (h2 : hi < 2 ^ 15) (h3 : -(2 ^ 15) ≤ lo) (h4 : lo < 2 ^ 15) :
    ∃ t, exec (.registerWrite a (CMPi_THR_hi.at i.val 0) 4 (thrWord hi lo)) s = .next t ∧
      (hi < lo → t.get CMPi_THR_hi i.val = s.get CMPi_THR_hi i.val ∧ t.get CMPi_THR_lo i.val = s.get CMPi_THR_lo i.val ∧
        Logged s t 0x1007 [i.val]) ∧
      (lo ≤ hi → t.getS CMPi_THR_hi i.val = hi ∧ t.getS CMPi_THR_lo i.val = lo) := by
  have hs := hadm.1.2
  obtain ⟨ehi, elo⟩ := thresholds_getS (i := i) hs h1 h2 h3 h4
  have hwf : ((s.putS CMPi_THR_hi hi i.val 0).putS CMPi_THR_lo lo i.val 0).wf = true := State.put_wf (State.put_wf hs)
  have hexec := wrFld_judged (v := thrWord hi lo) hadm (busAddr_CMPi_THR i) (regOf_CMPi_THR i) (.inl rfl) rfl
  rw [preWrite_CMPi_THR, applyWr_thrWord, ehi, elo] at hexec
  refine ⟨_, hexec, fun h => ?_, fun h => ?_⟩
  · rw [decide_eq_false (not_le.mpr h)]
    exact ⟨logEv_get_of_untouched hs (by decide +kernel), logEv_get_of_untouched hs (by decide +kernel), logged_of rfl⟩
  · rw [decide_eq_true h]
    have hleft : judged s a ⟨thrReg, i.val, 0, thrWord hi lo % 2 ^ 32⟩ (vIf true 0x1007 [i.val]) =
        budgetsShown ((s.putS CMPi_THR_hi hi i.val 0).putS CMPi_THR_lo lo i.val 0) :=
      congrArg budgetsShown (postWrite_CMPi_THR.trans applyWr_thrWord)
    have hshown : ∀ f ∈ [CMPi_THR_hi, CMPi_THR_lo], ((judged s a ⟨thrReg, i.val, 0, thrWord hi lo % 2 ^ 32⟩ (vIf true 0x1007 [i.val])).answer
        a.ini .none).get f i.val 0 = ((s.putS CMPi_THR_hi hi i.val 0).putS CMPi_THR_lo lo i.val 0).get f i.val 0 := by
      intro f hf
      rw [hleft, shown_get hwf (by revert f; decide +kernel)]
    exact ⟨(congrArg _ (hshown _ (by decide))).trans ehi, (congrArg _ (hshown _ (by decide))).trans elo⟩

end thresholds

end Sys2Proof.Proofs
end

section
/-! PROOF. A sample at a comparator (O11), and no sample asserting one after reset (O43). -/

namespace Sys2Proof.Proofs

open Sys2Proof Sys2Proof.Machine Sys2Proof.Safety

/-! ### A sample (R108) -/

/-- An output of a comparator rises: its sticky bit, the interrupt, Owl's trigger and the carriers that wait for the edge. -/
def cmpRise (s : State) (b : Bool) (sticky : Fld) (kind : Nat) (i : Ain) : State :=
  s.onIf b (fun s => (((s.put sticky 1 i.val).irq 40).owlTrig 9).endEdge kind i.val)

/-- The samples in a row above the upper threshold, with this one. -/
def hiRun (s : State) (i : Ain) (x : Int) : Nat := if s.getS CMPi_THR_hi i.val < x then s.cvb.cmps[i].hiCnt + 1 else 0

/-- The samples in a row below the lower threshold, with this one. -/
def loRun (s : State) (i : Ain) (x : Int) : Nat := if x < s.getS CMPi_THR_lo i.val then s.cvb.cmps[i].loCnt + 1 else 0

/-- The upper output after a sample. -/
def hiNext (s : State) (i : Ain) (x : Int) : Bool :=
  if s.getB CMPi_STAT_hi_out i.val then decide (s.getS CMPi_THR_hi i.val - s.get CMPi_CFG_hyst i.val < x)
  else decide (s.get CMPi_CFG_filt i.val + 1 ≤ hiRun s i x)

/-- The lower output after a sample. -/
def loNext (s : State) (i : Ain) (x : Int) : Bool :=
  if s.getB CMPi_STAT_lo_out i.val then decide (x < s.getS CMPi_THR_lo i.val + s.get CMPi_CFG_hyst i.val)
  else decide (s.get CMPi_CFG_filt i.val + 1 ≤ loRun s i x)

/-- The counters and the outputs have taken the sample. -/
def cmpTaken (s : State) (i : Ain) (x : Int) : State :=
  ((s.modCmp i (fun m => { m with hiCnt := hiRun s i x, loCnt := loRun s i x })).putB CMPi_STAT_hi_out (hiNext s i x) i.val).putB
    CMPi_STAT_lo_out (loNext s i x) i.val

/-- The edge of the upper output has had its effect. -/
def hiRisen (s : State) (i : Ain) (x : Int) : State :=
  cmpRise (cmpTaken s i x) (hiNext s i x && !s.getB CMPi_STAT_hi_out i.val) CMPi_STAT_hi_sticky 1 i

/-- The edges of both outputs have had their effect. -/
def cmpRisen (s : State) (i : Ain) (x : Int) : State :=
  cmpRise (hiRisen s i x) (loNext s i x && !s.getB CMPi_STAT_lo_out i.val) CMPi_STAT_lo_sticky 2 i

section sample
variable {s : State} {i : Ain} {x : Int}

theorem cmpSample_off (h : s.getB CMPi_CFG_en i.val = false) : cmpSample s i x = s := by
  rw [cmpSample, h]
  rfl

theorem cmpSample_on (h : s.getB CMPi_CFG_en i.val = true) : cmpSample s i x =
    ((((cmpRisen s i x).onIf (hiNext s i x && !s.getB CMPi_STAT_hi_out i.val && !s.getB CMPi_STAT_hi_sticky i.val)
      (fun s => s.logEv 0x1004 [i.val, 0])).onIf (loNext s i x && !s.getB CMPi_STAT_lo_out i.val && !s.getB CMPi_STAT_lo_sticky i.val)
      (fun s => s.logEv 0x1004 [i.val, 1])).tripRelease) := by
  rw [cmpSample, h]
  rfl

theorem cmpTaken_wf (hs : s.wf = true) : (cmpTaken s i x).wf = true := State.put_wf (State.put_wf hs)

theorem get_putB {f : Fld} {b : Bool} {k l : Nat} (hs : s.wf = true) (hw : f.width = 1) : (s.putB f b k l).get f k l = if b then 1 else 0 := by
  rw [State.putB, State.get_put_same hs, hw]
  cases b <;> rfl

theorem cmpTaken_hi (hs : s.wf = true) : (cmpTaken s i x).get CMPi_STAT_hi_out i.val = if hiNext s i x then 1 else 0 := by
  rw [cmpTaken, State.putB, State.get_put_ne (by exact State.put_wf hs) (by decide)]
  exact get_putB (s := s.modCmp i _) hs rfl

theorem cmpTaken_lo (hs : s.wf = true) : (cmpTaken s i x).get CMPi_STAT_lo_out i.val = if loNext s i x then 1 else 0 :=
  get_putB (State.put_wf hs) rfl

/-- The outputs aside, no register is written yet. -/
theorem cmpTaken_get {f : Fld} {k l : Nat} (hs : s.wf = true) (hh : f.id ≠ CMPi_STAT_hi_out.id) (hl : f.id ≠ CMPi_STAT_lo_out.id) :
    (cmpTaken s i x).get f k l = s.get f k l := by
  rw [cmpTaken, State.putB, State.get_put_ne (by exact State.put_wf hs) hl]
  exact State.get_put_ne (s := s.modCmp i _) hs hh

/-! ### What follows a sample -/

/-- What a sample may reach beside its comparator's registers: the trip lines that it releases, and the events. -/
def tripFlds : List Fld := evFlds ++ [FLT_LVL_flt, FLT_LVL_itrip]

theorem cmpRise_moves {m kind : Nat} {b : Bool} {sticky : Fld} {t : State} (hm : Sub (maskOf tripFlds (.gen :: evParts)) m)
    (hc : b = true → Can m sticky) (h : Moves m t s) : Moves m t (cmpRise s b sticky kind i) := by
  cases b with
  | false => exact h
  | true =>
    have hirq : Moves m t ((s.put sticky 1 i.val).irq 40) :=
      State.irq_moves (.trans ⟨by decide +kernel⟩ hm) (h.put sticky 1 i.val 0 (hc rfl))
    have htrig : Moves m t (((s.put sticky 1 i.val).irq 40).owlTrig 9) := State.owlTrig_moves (.trans ⟨by decide +kernel⟩ hm) hirq
    rw [cmpRise, State.onIf_true]
    exact State.endEdge_moves (.trans ⟨by decide +kernel⟩ hm) htrig

/-- From the edge of the upper output on. -/
theorem cmpSample_rest {m : Nat} {u : State} (hen : s.getB CMPi_CFG_en i.val = true) (hm : Sub (maskOf tripFlds (.gen :: evParts)) m)
    (hl : Can m CMPi_STAT_lo_sticky) (h : Moves m u (hiRisen s i x)) : Moves m u (cmpSample s i x) := by
  have hlog : ∀ (l : List Nat) (t : State), Moves m u t → Moves m u (t.logEv 0x1004 l) := fun _ _ h =>
    State.logEv_moves (.trans ⟨by decide +kernel⟩ hm) h
  rw [cmpSample_on hen]
  exact State.tripRelease_moves (.trans ⟨by decide +kernel⟩ hm) (State.onIf_moves (State.onIf_moves (cmpRise_moves hm (fun _ => hl) h)
    (hlog _)) (hlog _))

/-- That of the upper output is all that its sticky bit takes. -/
theorem cmpSample_keeps {f : Fld} {k l : Nat} (hs : s.wf = true) (hen : s.getB CMPi_CFG_en i.val = true)
    (hf : touches (maskOf (CMPi_STAT_lo_sticky :: tripFlds) (.gen :: evParts)) f = false) :
    (cmpSample s i x).get f k l = (hiRisen s i x).get f k l := by
  have hwf : (hiRisen s i x).wf = true := (cmpRise_moves (m := maskOf (CMPi_STAT_hi_sticky :: tripFlds) (.gen :: evParts)) ⟨by decide +kernel⟩
    (fun _ => .inr (by decide +kernel)) .refl).wf (cmpTaken_wf hs)
  exact (cmpSample_rest (m := maskOf (CMPi_STAT_lo_sticky :: tripFlds) (.gen :: evParts)) hen ⟨by decide +kernel⟩ (.inr (by decide +kernel))
    .refl).get hwf (by decide +kernel) hf k l

theorem hiRisen_get {f : Fld} {k l : Nat} (hs : s.wf = true) (hf : touches (maskOf (CMPi_STAT_hi_sticky :: tripFlds) (.gen :: evParts)) f = false) :
    (hiRisen s i x).get f k l = (cmpTaken s i x).get f k l :=
  (cmpRise_moves (m := maskOf (CMPi_STAT_hi_sticky :: tripFlds) (.gen :: evParts)) ⟨by decide +kernel⟩
    (fun _ => .inr (by decide +kernel)) .refl).get (cmpTaken_wf hs) (by decide +kernel) hf k l

/-- After a sample the outputs are what it made of them. -/
theorem cmpSample_outs (hs : s.wf = true) (hen : s.getB CMPi_CFG_en i.val = true) :
    (cmpSample s i x).get CMPi_STAT_hi_out i.val = (if hiNext s i x then 1 else 0) ∧
    (cmpSample s i x).get CMPi_STAT_lo_out i.val = (if loNext s i x then 1 else 0) := by
  rw [cmpSample_keeps hs hen (by decide +kernel), cmpSample_keeps hs hen (by decide +kernel), hiRisen_get hs (by decide +kernel),
    hiRisen_get hs (by decide +kernel)]
  exact ⟨cmpTaken_hi hs, cmpTaken_lo hs⟩

theorem cmpSample_wf (hs : s.wf = true) : (cmpSample s i x).wf = true := (cmpSample_moves ⟨Nat.and_self _⟩ .refl).wf hs

/-! ### An output that rises or falls (R108, R109) -/

theorem owlTrig_intake_length (s : State) (b : Nat) : (s.owlTrig b).log.intake.length ≤ s.log.intake.length + 2 := by
  simp only [State.owlTrig]
  split
  · omega
  · exact (logRaw_intake_length _ _ _).trans (Nat.succ_le_succ (owlRec_intake_length s 0x11 1 [b]))

theorem cmpRise_intake_length {b : Bool} {sticky : Fld} {kind : Nat} :
    (cmpRise s b sticky kind i).log.intake.length ≤ s.log.intake.length + 2 := by
  cases b with
  | false => exact Nat.le_add_right _ _
  | true =>
    have hedge : ∀ t : State, (t.endEdge kind i.val).log = t.log := fun t =>
      (State.endEdge_moves ⟨Nat.and_self _⟩ .refl).part (p := .log) (by decide +kernel)
    rw [cmpRise, State.onIf_true, hedge]
    exact owlTrig_intake_length ((s.put sticky 1 i.val).irq 40) 9

theorem cmpRise_sticky {b : Bool} (hs : s.wf = true) :
    (cmpRise s b CMPi_STAT_hi_sticky 1 i).get CMPi_STAT_hi_sticky i.val = if b then 1 else s.get CMPi_STAT_hi_sticky i.val := by
  cases b with
  | false => rfl
  | true =>
    have hput : (s.put CMPi_STAT_hi_sticky 1 i.val).wf = true := State.put_wf hs
    have hirq := State.irq_moves (x1 := 40) (m := maskOf tripFlds (.gen :: evParts)) ⟨by decide +kernel⟩
      (.refl (a := s.put CMPi_STAT_hi_sticky 1 i.val))
    have htrig := State.owlTrig_moves (x1 := 9) ⟨by decide +kernel⟩ hirq
    rw [cmpRise, State.onIf_true,
      (State.endEdge_moves ⟨by decide +kernel⟩ htrig).same hput CMPi_STAT_hi_sticky i.val 0 (by decide +kernel), State.get_put_same hs]
    rfl

/-- The first assertion since the sticky bit was cleared is an event (R109). -/
theorem cmpSample_logged (hen : s.getB CMPi_CFG_en i.val = true) (hnext : hiNext s i x = true)
    (hout : s.getB CMPi_STAT_hi_out i.val = false) (hsticky : s.getB CMPi_STAT_hi_sticky i.val = false) :
    Logged s (cmpSample s i x) 0x1004 [i.val, 0] := by
  intro hlen
  have hhi : (hiRisen s i x).log.intake.length ≤ s.log.intake.length + 2 := cmpRise_intake_length
  have hlo : (cmpRisen s i x).log.intake.length ≤ (hiRisen s i x).log.intake.length + 2 := cmpRise_intake_length
  have htrip : ∀ t : State, (t.tripRelease).log = t.log := fun t =>
    (State.tripRelease_moves ⟨Nat.and_self _⟩ .refl).part (p := .log) (by decide +kernel)
  rw [cmpSample_on hen, htrip, hnext, hout, hsticky]
  exact ((Grows.refl _).onIf fun _ h => h.logEv) _ (logEv_mem (by omega))

theorem cmpSample_asserts (hs : s.wf = true) (hen : s.getB CMPi_CFG_en i.val = true) (hout : s.getB CMPi_STAT_hi_out i.val = false)
    (hx : s.getS CMPi_THR_hi i.val < x) (hcnt : s.get CMPi_CFG_filt i.val + 1 ≤ s.cvb.cmps[i].hiCnt + 1) :
    (cmpSample s i x).get CMPi_STAT_hi_out i.val = 1 ∧ (cmpSample s i x).get CMPi_STAT_hi_sticky i.val = 1 ∧
      (s.getB CMPi_STAT_hi_sticky i.val = false → Logged s (cmpSample s i x) 0x1004 [i.val, 0]) := by
  have hnext : hiNext s i x = true := by simpa [hiNext, hiRun, hout, hx] using hcnt
  refine ⟨?_, ?_, cmpSample_logged hen hnext hout⟩
  · rw [(cmpSample_outs hs hen).1, hnext]
    rfl
  · rw [cmpSample_keeps hs hen (by decide +kernel), hiRisen, cmpRise_sticky (cmpTaken_wf hs), hnext, hout]
    rfl

theorem cmpSample_deasserts (hs : s.wf = true) (hen : s.getB CMPi_CFG_en i.val = true) (hout : s.getB CMPi_STAT_hi_out i.val = true)
    (hx : x ≤ s.getS CMPi_THR_hi i.val - s.get CMPi_CFG_hyst i.val) :
    (cmpSample s i x).get CMPi_STAT_hi_out i.val = 0 ∧
      (cmpSample s i x).get CMPi_STAT_hi_sticky i.val = s.get CMPi_STAT_hi_sticky i.val := by
  have hnext : hiNext s i x = false := by simp [hiNext, hout, not_lt.mpr hx]
  constructor
  · rw [(cmpSample_outs hs hen).1, hnext]
    rfl
  · rw [cmpSample_keeps hs hen (by decide +kernel), hiRisen, cmpRise_sticky (cmpTaken_wf hs), hnext]
    exact cmpTaken_get hs (by decide) (by decide)

/-! ### No sample asserts at the reset thresholds (R110) -/

theorem hiNext_at_top (hhi : s.getS CMPi_THR_hi i.val = 32767) (hout : s.getB CMPi_STAT_hi_out i.val = false) (hx : x ≤ 32767) :
    hiNext s i x = false := by
  simp [hiNext, hiRun, hout, hhi, not_lt.mpr hx]

theorem loNext_at_bottom (hlo : s.getS CMPi_THR_lo i.val = -32768) (hout : s.getB CMPi_STAT_lo_out i.val = false) (hx : -32768 ≤ x) :
    loNext s i x = false := by
  simp [loNext, loRun, hout, hlo, not_lt.mpr hx]

/-- A comparator at its reset thresholds, with both outputs off. -/
structure AtRest (i : Ain) (s : State) : Prop where
  wf : s.wf = true
  hi : s.getS CMPi_THR_hi i.val = 32767
  lo : s.getS CMPi_THR_lo i.val = -32768
  hiOut : s.getB CMPi_STAT_hi_out i.val = false
  loOut : s.getB CMPi_STAT_lo_out i.val = false

theorem AtRest.sample (h : AtRest i s) (hx : -32768 ≤ x ∧ x ≤ 32767) : AtRest i (cmpSample s i x) := by
  cases hen : s.getB CMPi_CFG_en i.val with
  | false => exact (cmpSample_off hen).symm ▸ h
  | true =>
    have hmoves := cmpSample_moves (x1 := i) (x2 := x) ⟨Nat.and_self _⟩ (.refl (a := s))
    obtain ⟨hhi, hlo⟩ := cmpSample_outs (x := x) h.wf hen
    rw [hiNext_at_top h.hi h.hiOut hx.2] at hhi
    rw [loNext_at_bottom h.lo h.loOut hx.1] at hlo
    refine ⟨cmpSample_wf h.wf, ?_, ?_, ?_, ?_⟩
    · rw [State.getS, hmoves.same h.wf _ _ _ (by decide +kernel)]
      exact h.hi
    · rw [State.getS, hmoves.same h.wf _ _ _ (by decide +kernel)]
      exact h.lo
    · rw [State.getB, hhi]
      rfl
    · rw [State.getB, hlo]
      rfl

theorem AtRest.samples {codes : List Int} (h : AtRest i s) (hc : ∀ x ∈ codes, -32768 ≤ x ∧ x ≤ 32767) : AtRest i (cmpSamples s i codes) := by
  unfold cmpSamples State.forL
  induction codes generalizing s with
  | nil => exact h
  | cons x codes ih => exact ih (h.sample (hc x List.mem_cons_self)) fun y hy => hc y (List.mem_cons_of_mem x hy)

end sample

/-- Settles O43. -/
theorem comparatorThresholds : Obligations.ComparatorThresholds := by
  refine ⟨fun s a i hi lo hadm h1 h2 h3 h4 => thresholds_written hadm h1 h2 h3 h4, by decide +kernel, ?_⟩
  rintro s i codes ⟨hheld, hs⟩ hhi hlo hho hlo' hcodes
  have hrest : AtRest i (cmpSamples s i codes) := AtRest.samples ⟨hs, hhi, hlo, hho, hlo'⟩ hcodes
  exact ⟨_, live_run (f := fun s => cmpSamples s i codes) s hheld, hrest.hiOut, hrest.loOut⟩

end Sys2Proof.Proofs
end

section
/-! PROOF. What a converter that takes work leaves alone (R92). -/

namespace Sys2Proof.Machine

/-- From `s` to `t` converter c may have taken other work. What it has in its pipeline and whether it is calibrated, the other converters,
the phases of the open-wire tests and the timers are as before. -/
structure Turns (c : Cv) (s t : State) : Prop where
  other : ∀ d : Cv, d ≠ c → t.cvb.conv[d] = s.cvb.conv[d]
  injOut : t.cvb.conv[c].injOut = s.cvb.conv[c].injOut
  calDone : t.cvb.conv[c].calDone = s.cvb.conv[c].calDone
  ow : ∀ i : Ain, t.cvb.cmps[i].ow = s.cvb.cmps[i].ow
  tt : t.cvb.tt = s.cvb.tt

section turns
variable {c : Cv} {s t u : State}

open Sys2Proof.Proofs

theorem Turns.refl : Turns c s s := ⟨fun _ _ => rfl, rfl, rfl, fun _ => rfl, rfl⟩

theorem Turns.trans (h : Turns c s t) (k : Turns c t u) : Turns c s u :=
  ⟨fun d hd => (k.other d hd).trans (h.other d hd), k.injOut.trans h.injOut, k.calDone.trans h.calDone, fun i => (k.ow i).trans (h.ow i),
    k.tt.trans h.tt⟩

/-! One rule for each update of the bank; whatever else is updated leaves the bank as it is. -/

theorem Turns.of_cvb (h : Turns c s t) (k : u.cvb = t.cvb) : Turns c s u :=
  h.trans ⟨fun _ _ => by rw [k], by rw [k], by rw [k], fun _ => by rw [k], by rw [k]⟩

theorem Turns.modConv {f : Conv → Conv} (h : Turns c s t) (ho : ∀ x, (f x).injOut = x.injOut) (hc : ∀ x, (f x).calDone = x.calDone) :
    Turns c s (t.modConv c f) :=
  h.trans ⟨fun _ hd => modConv_conv_ne hd, by rw [modConv_conv, ho], by rw [modConv_conv, hc], fun _ => rfl, rfl⟩

theorem Turns.modWin {q : Sq} {k : Fin 16} {f : Win → Win} (h : Turns c s t) : Turns c s (t.modWin q k f) :=
  h.trans ⟨fun _ _ => rfl, rfl, rfl, fun _ => rfl, rfl⟩

theorem Turns.modCmp {i : Ain} {f : Cmp → Cmp} (h : Turns c s t) (ho : ∀ m, (f m).ow = m.ow) : Turns c s (t.modCmp i f) := by
  refine h.trans ⟨fun _ _ => rfl, rfl, rfl, fun j => ?_, rfl⟩
  by_cases hj : j = i
  · subst hj
    rw [modCmp_cmps, ho]
  · rw [modCmp_cmps_ne hj]

theorem Turns.put {f : Fld} {v i j : Nat} (h : Turns c s t) : Turns c s (t.put f v i j) := h.of_cvb rfl

theorem Turns.logRate {code inst period : Nat} {l : List Nat} (h : Turns c s t) : Turns c s (t.logRate code inst period l) :=
  h.of_cvb (State.logRate_cvb t code inst period l)

theorem Turns.onIf {b : Bool} {f : State → State} (h : Turns c s t) (hf : ∀ v, Turns c s v → Turns c s (f v)) : Turns c s (t.onIf b f) := by
  cases b with
  | false => exact h
  | true => exact hf t h

/-! ### Turning to an input (R79, R82) -/

theorem Turns.leave {d : Cv} (h : Turns c s t) : Turns c s (cvLeave t d) := by
  unfold cvLeave
  split
  · exact h.modCmp fun _ => rfl
  · exact h

theorem Turns.unsettle {at' : Nat} (h : Turns c s t) : Turns c s (cvUnsettle t c at') := h.modConv (fun _ => rfl) fun _ => rfl

theorem Turns.turn {j at' : Nat} {alt : Option Nat} (h : Turns c s t) : Turns c s (cvTurn t c j alt at') := by
  unfold cvTurn
  extract_lets x u v
  have hv : Turns c s v := Turns.modConv (t := u) h.leave.unsettle (fun _ => rfl) fun _ => rfl
  repeat' split
  · exact h
  · exact hv
  · exact hv.put

theorem Turns.winTurn {q : Sq} {k : Fin 16} {at' : Nat} (h : Turns c s t) : Turns c s (winTurn t c q k at') := h.turn

/-! ### Taking work (R92) -/

theorem Turns.winLate {q : Sq} {k : Fin 16} (h : Turns c s t) : Turns c s (winLate t q k) := h.modWin.logRate

theorem Turns.winTake {q : Sq} {k : Fin 16} (h : Turns c s t) : Turns c s (winTake t c q k) := by
  unfold Machine.winTake
  extract_lets w free u due first last v v'
  have hv' : Turns c s v' := Turns.modWin (Turns.modConv (t := u) h.winTurn (fun _ => rfl) fun _ => rfl)
  split
  · exact hv'.winLate
  · exact hv'

theorem Turns.injBegin {k at' : Nat} (h : Turns c s t) : Turns c s (injBegin t c k at') :=
  Turns.modConv h.turn (fun _ => rfl) fun _ => rfl

theorem Turns.resume {w : Work} {left at' : Nat} (h : Turns c s t) : Turns c s (resume t c w left at') := by
  unfold Machine.resume
  extract_lets u first last v
  have hu : Turns c s u := by
    cases w with
    | window q k => exact h.winTurn
    | inj k => exact h.turn
    | idle | cal | bg | ow => exact h
  have hv : Turns c s v := hu.modConv (fun _ => rfl) fun _ => rfl
  cases w with
  | window q k => exact hv.modWin
  | idle | inj | cal | bg | ow => exact hv

theorem Turns.serveNext {at' : Nat} (h : Turns c s t) : Turns c s (serveNext t c at') := by
  unfold Machine.serveNext
  split
  · exact h
  split
  · exact h.injBegin
  split
  · exact h.resume
  split
  · exact h.winTake
  extract_lets fits
  split
  · exact h.injBegin
  split
  · exact h.turn.modConv (fun _ => rfl) fun _ => rfl
  · exact h

/-! ### Work that gives way, and power (R92, R93, R105) -/

theorem Turns.abort (h : Turns c s t) : Turns c s (cvAbort t c) := by
  unfold cvAbort
  extract_lets free
  have hfree : Turns c s (free t) := h.modConv (fun _ => rfl) fun _ => rfl
  split
  · exact hfree.unsettle
  · exact hfree
  · exact h

theorem Turns.injYield (h : Turns c s t) : Turns c s (injYield t c) := by
  unfold Machine.injYield
  extract_lets x
  split
  · exact h.onIf fun _ hv => hv.modConv (fun _ => rfl) fun _ => rfl
  · exact h

theorem Turns.shutCancel {d : Cv} (h : Turns c s t) : Turns c s (shutCancel t d) := h.onIf fun _ hv => hv.put

theorem Turns.start (h : Turns c s t) : Turns c s (cvStart t c) := by
  unfold cvStart
  repeat' split
  · exact h.put
  · exact h.modConv (fun _ => rfl) fun _ => rfl
  · exact h

theorem Turns.winOpenOn {q : Sq} {k : Fin 16} (h : Turns c s t) : Turns c s (winOpenOn t c q k) :=
  h.modWin.abort.injYield.shutCancel.start.serveNext

end turns

end Sys2Proof.Machine
end

section
/-! PROOF. Comparators and open-wire tests (O11). -/

namespace Sys2Proof.Proofs

open Sys2Proof Sys2Proof.Machine Sys2Proof.Safety

/-! ### The end of a command in execution -/

/-- What the MP may reach when it settles the commands in execution (R380): their completions, the RC fields of the registers that it reads,
and what a BULK fetch reads. -/
theorem settleOps_keeps {s : State} {f : Fld} {i j : Nat} (hs : s.wf = true)
    (hf : f ∈ [CVc_INJk_start, CVc_INJRk_value, CMPi_STAT_ow]) : (settleOps s).get f i j = s.get f i j :=
  (settleOps_moves ⟨Nat.and_self _⟩ .refl).same hs f i j (by revert f; decide +kernel)

theorem settleOps_cvb (s : State) : (settleOps s).cvb = s.cvb :=
  (settleOps_moves ⟨Nat.and_self _⟩ .refl).part (p := .cvb) (by decide +kernel)

theorem settleOps_inflight (s : State) : (settleOps s).inflight = s.inflight :=
  (settleOps_moves ⟨Nat.and_self _⟩ .refl).part (p := .inflight) (by decide +kernel)

/-! ### Open-wire tests (R111, R112) -/

/-- A loop in which one element alone leads from `P` to `Q`, and the others keep both. -/
theorem forL_at {α : Type} {s : State} {l : List α} {f : α → State → State} {P Q : State → Prop} {x : α} (hl : l.Nodup) (hx : x ∈ l) (hs : P s)
    (hbefore : ∀ y t, y ≠ x → P t → P (f y t)) (hat : ∀ t, P t → Q (f x t)) (hafter : ∀ y t, y ≠ x → Q t → Q (f y t)) : Q (s.forL l f) := by
  unfold State.forL
  induction l generalizing s with
  | nil => cases hx
  | cons y l ih =>
    obtain ⟨hy, hl⟩ := List.nodup_cons.mp hl
    rcases List.mem_cons.mp hx with rfl | hx
    · have hrest : ∀ m : List α, x ∉ m → ∀ t, Q t → Q (m.foldl (fun s x => f x s) t) := by
        intro m
        induction m with
        | nil => exact fun _ _ h => h
        | cons z m ihm => exact fun hm t h => ihm (fun k => hm (List.mem_cons_of_mem z k)) _ (hafter z t (fun e => hm (e ▸ List.mem_cons_self)) h)
      exact hrest l hy _ (hat s hs)
    · exact ih hl hx (hbefore y s (fun e => hy (e ▸ hx)) hs)

section openWire
variable {s : State} {b : Bool} {i j : Ain} {p m : List Int}

/-- A test of input j begins, where it is asked for and none runs. -/
def owBegin (s : State) (b : Bool) (j : Ain) : State := s.onIf (b && s.cvb.cmps[j].ow == .idle) (fun s => owStart s j)

theorem owBegin_get {f : Fld} {k l : Nat} : (owBegin s b j).get f k l = s.get f k l := onIf_keeps (fun u => u.get f k l) fun _ => rfl

theorem owBegin_other (h : i ≠ j) : (owBegin s b j).cvb.cmps[i] = s.cvb.cmps[i] :=
  onIf_keeps (fun u => u.cvb.cmps[i]) fun _ => modCmp_cmps_ne h

theorem owBegin_idle (hi : s.cvb.cmps[i].ow = .idle) : (owBegin s true i).cvb.cmps[i].ow = .up := by
  rw [owBegin, hi]
  exact congrArg Cmp.ow modCmp_cmps

/-- Every input of a list that is asked for and idle is tested. -/
theorem forL_owBegin {l : List Ain} {ask : State → Ain → Bool} (hl : l.Nodup) (hi : i ∈ l) (hask : ask s i = true)
    (hkeep : ∀ t b j, ask (owBegin t b j) i = ask t i) (hidle : s.cvb.cmps[i].ow = .idle) :
    (s.forL l (fun j s => owBegin s (ask s j) j)).cvb.cmps[i].ow = .up := by
  refine forL_at (P := fun t => ask t i = true ∧ t.cvb.cmps[i].ow = .idle) (Q := fun t => t.cvb.cmps[i].ow = .up) hl hi ⟨hask, hidle⟩ ?_ ?_ ?_
  · rintro j t hj ⟨h1, h2⟩
    exact ⟨(hkeep t _ j).trans h1, (congrArg Cmp.ow (owBegin_other hj.symm)).trans h2⟩
  · rintro t ⟨h1, h2⟩
    rw [h1]
    exact owBegin_idle h2
  · intro j t hj h
    exact (congrArg Cmp.ow (owBegin_other hj.symm)).trans h

theorem owPeriodic_begins (hheld : s.dev.held = false) (hperiod : s.getB CVB_OW_CTL_period = true)
    (hmark : s.getB CMPi_CFG_ow_periodic i.val = true) (hidle : s.cvb.cmps[i].ow = .idle) :
    ∃ t, exec .owPeriodic s = .next t ∧ t.cvb.cmps[i].ow = .up := by
  refine ⟨_, live_run s hheld, ?_⟩
  rw [hperiod]
  exact forL_owBegin (ask := fun s j => s.getB CMPi_CFG_ow_periodic j.val) (List.nodup_finRange 48) (List.mem_finRange i) hmark
    (fun t b j => congrArg (fun v => v != 0) owBegin_get) hidle

/-- The dwell that ends gives way to its window (R111). -/
def dwellNext : OwPh → OwPh
  | .up => .winP
  | .down => .winM
  | x => x

theorem owDwellEnd_moves_on (hheld : s.dev.held = false) :
    ∃ t, exec (.owDwellEnd i) s = .next t ∧ t.cvb.cmps[i].ow = dwellNext s.cvb.cmps[i].ow := by
  refine ⟨_, live_run (f := fun s => owDue s i) s hheld, ?_⟩
  exact ((Turns.refl (s := s.modCmp i (fun m => { m with ow := dwellNext m.ow }))).serveNext.ow i).trans (congrArg Cmp.ow modCmp_cmps)

/-! ### The result (R111, R112) -/

/-- The converter of an input. -/
def owCv (i : Ain) : Cv := cvOf (i.val / 6)

/-- The result of a test: INCONCLUSIVE, OPEN or OK. -/
def owVerdict (s : State) (i : Ain) (p m : List Int) : Nat :=
  if owBoth s i p m then if (s.get CVB_OW_CTL_ow_thr : Int) * 16 < p.sum - m.sum then 2 else 1 else 3

/-- The converter is free again, and the result stands in the register. -/
def owWritten (s : State) (i : Ain) (p m : List Int) : State :=
  ((s.onIf (s.cvb.conv[owCv i].work == .ow i.val) (fun s => s.modConv (owCv i) (fun x => { x with work := .idle, freeFt := s.nowFt }))).modCmp i
    (fun m => { m with ow := .idle })).put CMPi_STAT_ow (owVerdict s i p m) i.val

/-- An open wire is reported. -/
def owReported (s : State) (i : Ain) (p m : List Int) : State :=
  (owWritten s i p m).onIf (owVerdict s i p m == 2) (fun s => (s.logEv 0x1005 [i.val]).raise 0x2A i.val)

theorem owResult_eq : owResult s i p m = serveNext (owReported s i p m) (owCv i) (owWritten s i p m).nowFt := by
  unfold owReported owWritten owVerdict owCv owResult
  cases owBoth s i p m <;> rfl

theorem owWritten_wf (hs : s.wf = true) : (owWritten s i p m).wf = true := by
  refine State.put_wf ?_
  cases s.cvb.conv[owCv i].work == .ow i.val <;> exact hs

theorem owVerdict_lt : owVerdict s i p m < 2 ^ 2 := by
  unfold owVerdict
  repeat' split
  all_goals decide

theorem owWritten_ow (hs : s.wf = true) : (owWritten s i p m).get CMPi_STAT_ow i.val = owVerdict s i p m := by
  have hfree : ∀ b : Bool, (s.onIf b (fun s => s.modConv (owCv i) (fun x => { x with work := .idle, freeFt := s.nowFt }))).wf = true := by
    intro b
    cases b <;> exact hs
  exact (State.get_put_same (hfree _)).trans (Nat.mod_eq_of_lt owVerdict_lt)

theorem exec_owTestDone (hheld : s.dev.held = false) (hend : owMayEnd s i = true) :
    exec (.owTestDone i p m) s = .next (settleOps (owResult s i p m)) := by
  refine (live_run (f := fun s => settleOps (s.onIf (owMayEnd s i) (fun s => owResult s i p m))) s hheld).trans ?_
  rw [hend]
  rfl

theorem owReported_moves : Moves (maskOf evFlds (.inflight :: evParts)) (owWritten s i p m) (owReported s i p m) :=
  State.onIf_moves .refl fun _ h => State.raise_moves ⟨by decide +kernel⟩ (State.logEv_moves ⟨by decide +kernel⟩ h)

theorem owTestDone_ow (hs : s.wf = true) : (settleOps (owResult s i p m)).get CMPi_STAT_ow i.val = owVerdict s i p m := by
  have hw : (owWritten s i p m).wf = true := owWritten_wf hs
  have hrep := owReported_moves (s := s) (i := i) (p := p) (m := m)
  have hserve : (owResult s i p m).get CMPi_STAT_ow i.val = (owReported s i p m).get CMPi_STAT_ow i.val := by
    rw [owResult_eq]
    exact (serveNext_moves ⟨Nat.and_self _⟩ .refl).same (hrep.wf hw) _ _ _ (by decide +kernel)
  have hres : (owResult s i p m).wf = true := by
    rw [owResult_eq]
    exact (serveNext_moves ⟨Nat.and_self _⟩ .refl).wf (hrep.wf hw)
  rw [settleOps_keeps hres (by decide), hserve, hrep.same hw _ _ _ (by decide +kernel), owWritten_ow hs]

theorem owTestDone_raised (hv : owVerdict s i p m = 2) : (0x2A, i.val) ∈ (settleOps (owResult s i p m)).inflight := by
  rw [settleOps_inflight, owResult_eq, (serveNext_moves ⟨Nat.and_self _⟩ .refl).part (p := .inflight) (by decide +kernel), owReported, hv]
  exact List.mem_append_right _ (List.mem_singleton.mpr rfl)

theorem owTestDone_idle : (settleOps (owResult s i p m)).cvb.cmps[i].ow = .idle := by
  have hrep : (owReported s i p m).cvb = (owWritten s i p m).cvb := owReported_moves.part (p := .cvb) (by decide +kernel)
  rw [settleOps_cvb, owResult_eq]
  refine ((Turns.refl).serveNext.ow i).trans ?_
  rw [hrep]
  exact congrArg Cmp.ow modCmp_cmps

end openWire

/-- Settles O11. -/
theorem comparators : Obligations.Comparators := by
  rintro s i ⟨hheld, hs⟩
  refine ⟨fun x hen hout hx hcnt => ⟨_, live_run (f := fun s => cmpSamples s i [x]) s hheld, cmpSample_asserts hs hen hout hx hcnt⟩,
    fun x hen hout hx => ⟨_, live_run (f := fun s => cmpSamples s i [x]) s hheld, cmpSample_deasserts hs hen hout hx⟩,
    fun hperiod hmark hidle => owPeriodic_begins hheld hperiod hmark hidle, ?_, fun p m hend hboth => ?_, fun p m hend hboth => ?_⟩
  · obtain ⟨t, hexec, how⟩ := owDwellEnd_moves_on (i := i) hheld
    exact ⟨t, hexec, fun h => by rw [how, h]; rfl, fun h => by rw [how, h]; rfl, fun h => by rw [how, h]; rfl⟩
  · refine ⟨_, exec_owTestDone hheld hend, fun h => ?_, fun h => ?_⟩
    · have hv : owVerdict s i p m = 2 := by rw [owVerdict, if_pos hboth, if_pos h]
      exact ⟨(owTestDone_ow hs).trans hv, owTestDone_raised hv⟩
    · rw [owTestDone_ow hs, owVerdict, if_pos hboth, if_neg (not_lt.mpr h)]
  · refine ⟨_, exec_owTestDone hheld hend, ?_, owTestDone_idle⟩
    rw [owTestDone_ow hs, owVerdict, if_neg (ne_true_of_eq_false hboth)]

end Sys2Proof.Proofs
end

section
/-! PROOF. Injections: their requests and their results (O44, and R95 and R96 in O9). -/

namespace Sys2Proof.Proofs

open Sys2Proof Sys2Proof.Machine Sys2Proof.Safety

/-- What the converter bank's own steps may reach beside its registers of triggers and requests. -/
def bankFlds : List Fld := evFlds ++ [CVc_STAT_cur_input, CVc_STAT_state, CVc_CAL_full_busy, CVc_CAL_bg_busy, CVc_CAL_ok, CVc_CAL_bg_slice,
  CVc_TRIM_gain, CVc_TRIM_offset]

/-- The parts of the state that they may reach. -/
def bankParts : List Part := evParts ++ [.inflight, .cvb]

/-! ### The request (R94 to R96) -/

/-- The register of an injection slot. -/
def injReg : Reg :=
  ⟨"CVc_INJk", 0x40100110, 8, 0x40, 4, 4, [CVc_INJk_start, CVc_INJk_urgent, CVc_INJk_shift, CVc_INJk_log2n, CVc_INJk_input]⟩

section request
variable {s t : State} {a : Access} {c : Cv} {k : Fin 4} {v : Nat}

theorem busAddr_CVc_INJk (c : Cv) (k : Fin 4) : busAddr (CVc_INJk_start.at c.val k.val) = true := by
  fin_cases c <;> fin_cases k <;> rfl

theorem preWrite_CVc_INJk : preWrite s t a ⟨injReg, c.val, k.val, v⟩ =
    if s.getB CVc_INJk_start c.val k.val || !windowOk (t.get CVc_INJk_shift c.val k.val) (t.get CVc_INJk_log2n c.val k.val)
      (t.get CVc_INJk_input c.val k.val) then .no none else vPass := by
  rw [preWrite_bank (r := injReg) rfl]
  simp [preCvb, Wr.is, injReg, CVB_CTL_bgcal_period, CVB_OW_CTL_dwell, CVc_CFG_pwr, CVc_IDLE_idle_down, CVc_CAL_full, CVc_INJk_start]

/-- A slot that waits or converts is not written. -/
theorem injectionStart_busy (hadm : Admits s a) (hstart : s.getB CVc_INJk_start c.val k.val = true) :
    exec (.injectionStart a c k v) s = .next (s.answer a.ini .none) := by
  refine wrFld_judged (V := .no none) hadm (busAddr_CVc_INJk c k) (regOf_CVc_INJk c k) (.inl rfl) ?_
  exact (preWrite_CVc_INJk (s := s)).trans (by rw [hstart]; rfl)

/-- What follows the bit of a request: the injection waits, and is begun where it may be. -/
theorem injRequest_after_bit : Moves (maskOf bankFlds bankParts) (s.put CVc_INJk_start 1 c.val k.val) (injRequest s c k) := by
  unfold injRequest
  refine serveNext_moves ⟨by decide +kernel⟩ (State.onIf_moves (State.onIf_moves (cvStart_moves ⟨by decide +kernel⟩
    (shutCancel_moves ⟨by decide +kernel⟩ (State.modConv_moves ⟨by decide +kernel⟩ .refl))) fun _ h => ?_) fun _ h => ?_)
  · exact State.put_moves (.inr (by decide +kernel)) (State.put_moves (.inr (by decide +kernel)) (State.modConv_moves ⟨by decide +kernel⟩ h))
  · exact cvSuspend_moves ⟨by decide +kernel⟩ h

/-- The slot as the write leaves it, before the converter looks at it. -/
def injWritten (s : State) (c : Cv) (k : Fin 4) (v : Nat) : State := applyWr s ⟨injReg, c.val, k.val, v % 2 ^ 32⟩ []

theorem injReg_mem : injReg ∈ regTable := regOf_mem (regOf_CVc_INJk 0 0)

theorem injWritten_wf (hs : s.wf = true) : (injWritten s c k v).wf = true :=
  (applyWr_moves (m := 0x1) ⟨by decide +kernel⟩ .refl).wf hs

theorem injWritten_get {f : Fld} (hs : s.wf = true) (hf : f ∈ [CVc_INJk_shift, CVc_INJk_log2n, CVc_INJk_input]) :
    (injWritten s c k v).get f c.val k.val = v / 2 ^ f.lsb % 2 ^ f.width := by
  have hmem : f ∈ injReg.flds := by revert f; decide
  have hacc : f.acc = .rw ∨ f.acc = .wod := by revert f; decide
  have hget := applyWr_get (w := ⟨injReg, c.val, k.val, v % 2 ^ 32⟩) injReg_mem hs hmem
  rw [if_pos hacc] at hget
  refine hget.trans ?_
  simp only [List.mem_cons, List.not_mem_nil, or_false] at hf
  rcases hf with rfl | rfl | rfl <;> simp only [CVc_INJk_shift, CVc_INJk_log2n, CVc_INJk_input] <;> omega

theorem injectionStart_requests (hadm : Admits s a) (hstart : s.getB CVc_INJk_start c.val k.val = false)
    (hbit : v / 2 ^ CVc_INJk_start.lsb % 2 = 1)
    (hok : windowOk (v / 2 ^ CVc_INJk_shift.lsb % 2 ^ CVc_INJk_shift.width) (v / 2 ^ CVc_INJk_log2n.lsb % 2 ^ CVc_INJk_log2n.width)
      (v / 2 ^ CVc_INJk_input.lsb % 2 ^ CVc_INJk_input.width) = true) :
    exec (.injectionStart a c k v) s = .next ((budgetsShown (injRequest (injWritten s c k v) c k)).answer a.ini .none) := by
  have hs := hadm.1.2
  have hpre : preWrite s (injWritten s c k v) a ⟨injReg, c.val, k.val, v % 2 ^ 32⟩ = vPass := by
    rw [preWrite_CVc_INJk, hstart, injWritten_get hs (by decide), injWritten_get hs (by decide), injWritten_get hs (by decide), hok]
    rfl
  have hgo : (⟨injReg, c.val, k.val, v % 2 ^ 32⟩ : Wr).bits CVc_INJk_start = 1 := by
    simp only [Wr.bits, CVc_INJk_start] at hbit ⊢
    omega
  have hk : (⟨k.val % 4, Nat.mod_lt _ (by omega)⟩ : Fin 4) = k := Fin.ext (Nat.mod_eq_of_lt k.isLt)
  refine (wrFld_judged hadm (busAddr_CVc_INJk c k) (regOf_CVc_INJk c k) (.inl rfl) hpre).trans ?_
  have hpost : postWrite s a ⟨injReg, c.val, k.val, v % 2 ^ 32⟩ (injWritten s c k v) = injRequest (injWritten s c k v) c k := by
    rw [postWrite_CVc_INJk rfl, hgo, cvOf_val, hk]
    rfl
  exact congrArg (fun u => (.next ((budgetsShown u).answer a.ini .none) : Out)) hpost

theorem injectionStart_shows (hadm : Admits s a) (hstart : s.getB CVc_INJk_start c.val k.val = false)
    (hbit : v / 2 ^ CVc_INJk_start.lsb % 2 = 1)
    (hok : windowOk (v / 2 ^ CVc_INJk_shift.lsb % 2 ^ CVc_INJk_shift.width) (v / 2 ^ CVc_INJk_log2n.lsb % 2 ^ CVc_INJk_log2n.width)
      (v / 2 ^ CVc_INJk_input.lsb % 2 ^ CVc_INJk_input.width) = true) :
    ∃ t, exec (.injectionStart a c k v) s = .next t ∧ (t.port a.ini).reply = .none ∧ t.get CVc_INJk_start c.val k.val = 1 ∧
      t.get CVc_INJk_input c.val k.val = v / 2 ^ CVc_INJk_input.lsb % 2 ^ CVc_INJk_input.width := by
  have hs := hadm.1.2
  have hw := injWritten_wf (c := c) (k := k) (v := v) hs
  have hput : ((injWritten s c k v).put CVc_INJk_start 1 c.val k.val).wf = true := State.put_wf hw
  have hwf : (injRequest (injWritten s c k v) c k).wf = true := injRequest_after_bit.wf hput
  refine ⟨_, injectionStart_requests hadm hstart hbit hok, ?_, ?_, ?_⟩
  · exact State.answer_port _ _ _
  · rw [shown_get hwf (by decide +kernel), injRequest_after_bit.same hput _ _ _ (by decide +kernel), State.get_put_same hw]
    rfl
  · rw [shown_get hwf (by decide +kernel), injRequest_after_bit.same hput _ _ _ (by decide +kernel), State.get_put_ne hw (by decide),
      injWritten_get hs (by decide)]

end request

/-! ### The result (R95, R96) -/

section result
variable {s t : State} {c : Cv} {k : Fin 4} {codes : List Int}

/-- The injection's last sample has been taken, by this command where it was not before. -/
def injClosed (s : State) (c : Cv) (k : Fin 4) : State :=
  s.onIf (s.cvb.conv[c].work == .inj k.val) (fun s => serveNext (workDone s c) c (s.cvb.conv[c].doneFt + 1280))

theorem workDone_injOut (h : s.cvb.conv[c].work = .inj k.val) : (workDone s c).cvb.conv[c].injOut = s.cvb.conv[c].injOut ++
    [⟨k.val, s.cvb.conv[c].injNR || !s.getB CVc_STAT_ref_ready c.val, s.cvb.conv[c].injSplit⟩] := by
  unfold workDone
  extract_lets x t' nr u
  have hx : x.work = .inj k.val := h
  rw [hx]
  exact (congrArg Conv.injOut modConv_conv).trans (congrArg (fun y : Conv => y.injOut ++ [⟨k.val, y.injNR || nr, y.injSplit⟩])
    (modConv_conv (s := s)))

/-- The result is in the pipeline. -/
theorem injClosed_injOut (h : s.cvb.conv[c].work = .inj k.val ∨ s.cvb.conv[c].injOut.any (fun e => e.slot == k.val) = true) :
    (injClosed s c k).cvb.conv[c].injOut.any (fun e => e.slot == k.val) = true := by
  by_cases hw : s.cvb.conv[c].work = .inj k.val
  · rw [injClosed, hw, beq_self_eq_true, State.onIf_true, (Turns.refl).serveNext.injOut, workDone_injOut hw]
    simp
  · rw [injClosed, beq_false_of_ne hw]
    exact h.resolve_left hw

theorem injClosed_moves : Moves (maskOf bankFlds bankParts) s (injClosed s c k) :=
  State.onIf_moves .refl fun _ h => serveNext_moves ⟨by decide +kernel⟩ (workDone_moves ⟨by decide +kernel⟩ h)

/-- The result stands in its registers. -/
def injShown (s : State) (c : Cv) (k : Fin 4) (value flags : Nat) : State :=
  ((((s.put CVc_INJRk_value value c.val k.val).put CVc_INJRk_flags flags c.val k.val).put CVc_INJRk_new 1 c.val k.val).put CVc_INJk_start 0
    c.val k.val).irq (32 + c.val)

/-- A result leaves the pipeline. -/
def injTake (k : Fin 4) (x : Conv) : Conv := { x with injOut := x.injOut.eraseP (fun e => e.slot == k.val) }

/-- The flags of an injection, told as a window's. -/
def injWin (c : Cv) (e : InjOut) : Win := ⟨.taking, 0, 0, c.val, 0, 0, false, e.split, false, e.refNR, false⟩

theorem injDone_shows (hn : 2 ^ s.get CVc_INJk_log2n c.val k.val ≤ codes.length)
    (h : s.cvb.conv[c].work = .inj k.val ∨ s.cvb.conv[c].injOut.any (fun e => e.slot == k.val) = true) :
    ∃ e : InjOut, injDone s c k codes = injShown ((injClosed s c k).modConv c (injTake k)) c k
      (windowValue (codes.take (2 ^ s.get CVc_INJk_log2n c.val k.val)) ((injClosed s c k).get CVc_INJk_shift c.val k.val))
      (winFlags (injWin c e) (codes.take (2 ^ s.get CVc_INJk_log2n c.val k.val))) := by
  obtain ⟨e, he⟩ := Option.isSome_iff_exists.mp (List.find?_isSome.mpr (List.any_eq_true.mp (injClosed_injOut h)))
  refine ⟨e, ?_⟩
  unfold injDone
  extract_lets n u
  have hu : u.cvb.conv[c].injOut.find? (fun e => e.slot == k.val) = some e := he
  rw [if_neg (Nat.not_lt.mpr hn), hu]
  rfl

theorem injShown_shows {value flags : Nat} (hs : s.wf = true) : (injShown s c k value flags).wf = true ∧
    (injShown s c k value flags).get CVc_INJk_start c.val k.val = 0 ∧
    (injShown s c k value flags).get CVc_INJRk_value c.val k.val = value % 2 ^ 24 := by
  have h1 : (s.put CVc_INJRk_value value c.val k.val).wf = true := State.put_wf hs
  have h2 : ((s.put CVc_INJRk_value value c.val k.val).put CVc_INJRk_flags flags c.val k.val).wf = true := State.put_wf h1
  have h3 : (((s.put CVc_INJRk_value value c.val k.val).put CVc_INJRk_flags flags c.val k.val).put CVc_INJRk_new 1 c.val k.val).wf = true :=
    State.put_wf h2
  refine ⟨?_, ?_, ?_⟩
  · exact State.put_wf (State.put_wf h3)
  · rw [injShown, State.irq, State.putBit, State.get_put_ne (State.put_wf h3) (by decide), State.get_put_same h3]
    rfl
  · rw [injShown, State.irq, State.putBit, State.get_put_ne (State.put_wf h3) (by decide), State.get_put_ne h3 (by decide),
      State.get_put_ne h2 (by decide), State.get_put_ne h1 (by decide), State.get_put_same hs]
    rfl

theorem injectionDone_writes (hheld : s.dev.held = false) (hs : s.wf = true) (hn : 2 ^ s.get CVc_INJk_log2n c.val k.val ≤ codes.length)
    (h : s.cvb.conv[c].work = .inj k.val ∨ s.cvb.conv[c].injOut.any (fun e => e.slot == k.val) = true) :
    ∃ t, exec (.injectionDone c k codes) s = .next t ∧ t.get CVc_INJk_start c.val k.val = 0 ∧ t.get CVc_INJRk_value c.val k.val =
      windowValue (codes.take (2 ^ s.get CVc_INJk_log2n c.val k.val)) (s.get CVc_INJk_shift c.val k.val) := by
  obtain ⟨e, hdone⟩ := injDone_shows hn h
  have hclosed : (injClosed s c k).wf = true := injClosed_moves.wf hs
  obtain ⟨hwf, hstart, hvalue⟩ := injShown_shows (s := (injClosed s c k).modConv c (injTake k)) (c := c) (k := k) (flags := winFlags (injWin c e)
    (codes.take (2 ^ s.get CVc_INJk_log2n c.val k.val))) (value := windowValue (codes.take (2 ^ s.get CVc_INJk_log2n c.val k.val))
      ((injClosed s c k).get CVc_INJk_shift c.val k.val)) hclosed
  refine ⟨_, live_run (f := fun s => settleOps (injDone s c k codes)) s hheld, ?_, ?_⟩
  · rw [hdone, settleOps_keeps hwf (by decide), hstart]
  · rw [hdone, settleOps_keeps hwf (by decide), hvalue, injClosed_moves.same hs _ _ _ (by decide +kernel)]
    exact Nat.mod_eq_of_lt (toField_lt _ _)

end result

/-- Settles O44. -/
theorem injectionSlots : Obligations.InjectionSlots := by
  refine fun s a c k v codes => ⟨fun hadm hstart => ⟨_, injectionStart_busy hadm hstart, fun f _ => State.answer_get _ _ _ _ _ _, rfl⟩,
    fun ⟨hheld, hs⟩ hwork hlen => ?_⟩
  have := injectionDone_writes (codes := codes) hheld hs hlen.ge (.inl hwork)
  rwa [← hlen, List.take_length] at this

end Sys2Proof.Proofs
end

section
/-! PROOF. What starts and stops a sequencer (O9). -/

namespace Sys2Proof.Proofs

open Sys2Proof Sys2Proof.Machine Sys2Proof.Safety

/-! ### A start (R85) -/

section start
variable {s : State} {q y : Sq} {a : Trig} {f : Fld}

/-- Every step's window is scheduled. -/
def seqPlanned (s : State) (q : Sq) (a : Trig) : State :=
  s.forN (s.get SEQn_CTL_nsteps q.val + 1) (fun k s => s.modWin q (stOf k) (fun _ =>
    ⟨.sched, a.ts + s.get SEQn_STEPk_B_open_dly q.val k, a.known, s.get SEQn_STEPk_A_conv q.val k, 0, 0, a.late, false, false, false, false⟩))

/-- The sequencer shows that it runs, and since when. -/
def seqMarked (s : State) (q : Sq) (a : Trig) : State :=
  ((seqPlanned s q a).put SEQn_STAT_running 1 q.val).put64 SEQn_TRIG_TS_LO_ts SEQn_TRIG_TS_HI_ts a.ts q.val

theorem seqPlanned_moves : Moves (maskOf [] [.cvb]) s (seqPlanned s q a) :=
  State.forN_moves .refl fun _ _ h => State.modWin_moves ⟨by decide +kernel⟩ h

theorem seqPlanned_wf (hs : s.wf = true) : (seqPlanned s q a).wf = true := seqPlanned_moves.wf hs

theorem seqMarked_wf (hs : s.wf = true) : (seqMarked s q a).wf = true := State.put_wf (State.put_wf (State.put_wf (seqPlanned_wf hs)))

/-- A converter about to power down is kept up (R93). -/
theorem seqStart_after_marks : Moves (maskOf [CVc_STAT_state] []) (seqMarked s q a) (seqStart s q a) :=
  State.forN_moves .refl fun _ _ h => shutCancel_moves ⟨by decide +kernel⟩ h

theorem seqStart_wf (hs : s.wf = true) : (seqStart s q a).wf = true := seqStart_after_marks.wf (seqMarked_wf hs)

theorem seqMarked_get (hs : s.wf = true) (hlo : f.id ≠ SEQn_TRIG_TS_LO_ts.id) (hhi : f.id ≠ SEQn_TRIG_TS_HI_ts.id) {i j : Nat} :
    (seqMarked s q a).get f i j = ((seqPlanned s q a).put SEQn_STAT_running 1 q.val).get f i j := by
  have h1 : ((seqPlanned s q a).put SEQn_STAT_running 1 q.val).wf = true := State.put_wf (seqPlanned_wf hs)
  rw [seqMarked, State.put64, State.get_put_ne (State.put_wf h1) hhi, State.get_put_ne h1 hlo]

theorem seqStart_running (hs : s.wf = true) : (seqStart s q a).get SEQn_STAT_running q.val = 1 := by
  rw [seqStart_after_marks.same (seqMarked_wf hs) _ _ _ (by decide +kernel), seqMarked_get hs (by decide) (by decide),
    State.get_put_same (seqPlanned_wf hs)]
  rfl

/-- Another sequencer's start. -/
theorem seqStart_running_ne (hs : s.wf = true) (h : q ≠ y) : (seqStart s y a).get SEQn_STAT_running q.val = s.get SEQn_STAT_running q.val := by
  rw [seqStart_after_marks.same (seqMarked_wf hs) _ _ _ (by decide +kernel), seqMarked_get hs (by decide) (by decide),
    State.get_put_key (seqPlanned_wf hs) (key_ne_of_ne (by decide) h _), seqPlanned_moves.same hs _ _ _ (by decide +kernel)]

/-- The instant of the trigger is shown (R85). -/
theorem seqStart_ts (hs : s.wf = true) (hts : a.ts < 2 ^ 64) :
    (seqStart s q a).get64 SEQn_TRIG_TS_LO_ts SEQn_TRIG_TS_HI_ts q.val = a.ts := by
  have h1 : ((seqPlanned s q a).put SEQn_STAT_running 1 q.val).wf = true := State.put_wf (seqPlanned_wf hs)
  have h2 : (((seqPlanned s q a).put SEQn_STAT_running 1 q.val).put SEQn_TRIG_TS_LO_ts a.ts q.val).wf = true := State.put_wf h1
  have hlo : (seqMarked s q a).get SEQn_TRIG_TS_LO_ts q.val = a.ts % 2 ^ 32 := by
    rw [seqMarked, State.put64, State.get_put_ne h2 (by decide), State.get_put_same h1]
    rfl
  have hhi : (seqMarked s q a).get SEQn_TRIG_TS_HI_ts q.val = a.ts / 2 ^ 32 % 2 ^ 32 := State.get_put_same h2
  rw [State.get64, seqStart_after_marks.same (seqMarked_wf hs) _ _ _ (by decide +kernel),
    seqStart_after_marks.same (seqMarked_wf hs) _ _ _ (by decide +kernel), hlo, hhi]
  omega

/-! ### A trigger (R85, R90) -/

theorem seqTrigger_starts (hen : s.getB SEQn_CTL_en q.val = true) (hrun : s.getB SEQn_STAT_running q.val = false) :
    seqTrigger s q a = seqStart s q a := by
  simp [seqTrigger, hen, hrun, State.onIf]

/-- What a trigger may reach beside the registers that show a run. -/
def trigFlds : List Fld := SEQn_OVR_count :: SEQn_STAT_queued :: bankFlds

theorem seqStop_running_ne (hs : s.wf = true) (h : q ≠ y) : (seqStop s y).get SEQn_STAT_running q.val = s.get SEQn_STAT_running q.val := by
  have hput : (s.put SEQn_STAT_running 0 y.val).wf = true := State.put_wf hs
  have hirq : Moves (maskOf trigFlds bankParts) (s.put SEQn_STAT_running 0 y.val) ((s.put SEQn_STAT_running 0 y.val).irq (16 + y.val)) :=
    State.irq_moves ⟨by decide +kernel⟩ .refl
  have hkeep : ((s.put SEQn_STAT_running 0 y.val).irq (16 + y.val)).get SEQn_STAT_running q.val = s.get SEQn_STAT_running q.val := by
    rw [hirq.same hput _ _ _ (by decide +kernel), State.get_put_key hs (key_ne_of_ne (by decide) h _)]
  unfold seqStop
  extract_lets u
  split
  next r hr =>
    have hun : Moves (maskOf trigFlds bankParts) u ((u.modSeq y (fun x => { x with stored := none })).put SEQn_STAT_queued 0 y.val) :=
      State.put_moves (.inr (by decide +kernel)) (State.modSeq_moves ⟨by decide +kernel⟩ .refl)
    rw [seqStart_running_ne (hun.wf (hirq.wf hput)) h, hun.same (hirq.wf hput) _ _ _ (by decide +kernel), hkeep]
  next => exact hkeep

theorem seqOverrun_running_ne (hs : s.wf = true) (h : q ≠ y) : (seqOverrun s y a).get SEQn_STAT_running q.val = s.get SEQn_STAT_running q.val := by
  unfold seqOverrun
  extract_lets u
  have hu : Moves (maskOf trigFlds bankParts) s u :=
    State.logRate_moves ⟨by decide +kernel⟩ (State.incSat_moves ⟨by decide +kernel⟩ (.inr (by decide +kernel)) .refl)
  split
  · have hab := seqAbandon_moves (x1 := y) (m := maskOf trigFlds bankParts) ⟨by decide +kernel⟩ hu
    rw [seqStart_running_ne (hab.wf hs) h, hab.same hs _ _ _ (by decide +kernel)]
  · split
    · exact hu.same hs _ _ _ (by decide +kernel)
    · refine (State.put_moves (.inr ?_) (State.modSeq_moves ⟨?_⟩ hu)).same hs _ _ _ ?_
      all_goals decide +kernel
  · exact hu.same hs _ _ _ (by decide +kernel)

theorem seqTrigger_wf (hs : s.wf = true) : (seqTrigger s y a).wf = true := (seqTrigger_moves ⟨Nat.and_self _⟩ .refl).wf hs

/-- A trigger of another sequencer. -/
theorem seqTrigger_running_ne (hs : s.wf = true) (h : q ≠ y) : (seqTrigger s y a).get SEQn_STAT_running q.val = s.get SEQn_STAT_running q.val := by
  unfold seqTrigger
  split
  · rfl
  extract_lets u
  have hu : u.wf = true ∧ u.get SEQn_STAT_running q.val = s.get SEQn_STAT_running q.val := by
    unfold u
    cases s.getB SEQn_STAT_running y.val && seqFinished s y with
    | false => exact ⟨hs, rfl⟩
    | true => exact ⟨(seqStop_moves ⟨Nat.and_self _⟩ .refl).wf hs, seqStop_running_ne hs h⟩
  split
  · exact (seqOverrun_running_ne hu.1 h).trans hu.2
  · exact (seqStart_running_ne hu.1 h).trans hu.2

theorem seqTrigger_keeps (hs : s.wf = true) (hf : f ∈ [SEQn_CTL_en, SEQn_TRIG_src]) {i j : Nat} : (seqTrigger s y a).get f i j = s.get f i j :=
  (seqTrigger_moves ⟨Nat.and_self _⟩ .refl).same hs f i j (by revert f; decide +kernel)

/-! ### Triggers of several sequencers at once (R86) -/

/-- A sequencer that a source of this code would start. -/
structure Awaits (q : Sq) (code : Nat) (s : State) : Prop where
  wf : s.wf = true
  src : s.get SEQn_TRIG_src q.val = code
  en : s.getB SEQn_CTL_en q.val = true
  stopped : s.getB SEQn_STAT_running q.val = false

theorem Awaits.trigger {code : Nat} (h : Awaits q code s) (hq : q ≠ y) : Awaits q code (seqTrigger s y a) := by
  refine ⟨seqTrigger_wf h.wf, (seqTrigger_keeps h.wf (by decide)).trans h.src, ?_, ?_⟩
  · rw [State.getB, seqTrigger_keeps h.wf (by decide)]
    exact h.en
  · rw [State.getB, seqTrigger_running_ne h.wf hq]
    exact h.stopped

/-- One sequencer's part of a source's event. -/
def seqFireAt (code T known : Nat) (y : Sq) (s : State) : State :=
  s.onIf (s.get SEQn_TRIG_src y.val == code) (fun s => seqTrigger s y ⟨T, known, false⟩)

theorem seqFire_starts {code T known : Nat} (h : Awaits q code s) :
    (seqFire s code T known).wf = true ∧ (seqFire s code T known).get SEQn_STAT_running q.val = 1 := by
  refine forL_at (f := seqFireAt code T known) (P := Awaits q code) (Q := fun t => t.wf = true ∧ t.get SEQn_STAT_running q.val = 1)
    (List.nodup_finRange 16) (List.mem_finRange q) h ?_ ?_ ?_
  · intro y t hy ht
    unfold seqFireAt
    cases t.get SEQn_TRIG_src y.val == code with
    | false => exact ht
    | true => exact ht.trigger hy.symm
  · intro t ht
    rw [seqFireAt, ht.src, beq_self_eq_true, State.onIf_true, seqTrigger_starts ht.en ht.stopped]
    exact ⟨seqStart_wf ht.wf, seqStart_running ht.wf⟩
  · rintro y t hy ⟨hwf, hrun⟩
    unfold seqFireAt
    cases t.get SEQn_TRIG_src y.val == code with
    | false => exact ⟨hwf, hrun⟩
    | true => exact ⟨seqTrigger_wf hwf, (seqTrigger_running_ne hwf hy.symm).trans hrun⟩

/-! ### The timers stay (R115) -/

theorem onIf_tt {b : Bool} {f : State → State} (hf : ∀ u, (f u).cvb.tt = u.cvb.tt) : (s.onIf b f).cvb.tt = s.cvb.tt :=
  onIf_keeps (fun u => u.cvb.tt) hf

theorem trimEnd_cvb {c : Cv} {o g : Int} {b : Bool} : (trimEnd s c o g b).cvb = s.cvb :=
  (trimEnd_moves ⟨Nat.and_self _⟩ .refl).part (p := .cvb) (by decide +kernel)

theorem sliceEnd_tt {c : Cv} {t : Nat} : (sliceEnd s c t).cvb.tt = s.cvb.tt := by
  unfold sliceEnd
  extract_lets k tr u
  split
  · refine (congrArg CvbSt.tt trimEnd_cvb).trans ?_
    rfl
  · rfl

theorem workDone_tt {c : Cv} : (workDone s c).cvb.tt = s.cvb.tt := by
  unfold workDone
  extract_lets x t nr u
  split
  · rfl
  · rfl
  · rfl
  · exact sliceEnd_tt
  · rfl

theorem serveNext_tt {c : Cv} {t : Nat} : (serveNext s c t).cvb.tt = s.cvb.tt := (Turns.refl (c := c)).serveNext.tt

theorem winAbandon_tt {k : Fin 16} : (winAbandon s q k).cvb.tt = s.cvb.tt := by
  unfold winAbandon
  extract_lets w c u
  repeat' split
  · rfl
  · exact serveNext_tt.trans workDone_tt
  · exact serveNext_tt
  · rfl

theorem seqPlanned_tt : (seqPlanned s q a).cvb.tt = s.cvb.tt := forL_keeps (fun u : State => u.cvb.tt) fun _ _ => rfl

theorem seqStart_tt : (seqStart s q a).cvb.tt = s.cvb.tt :=
  (congrArg CvbSt.tt (seqStart_after_marks.part (p := .cvb) (by decide +kernel))).trans seqPlanned_tt

theorem seqAbandon_tt : (seqAbandon s q).cvb.tt = s.cvb.tt := by
  unfold seqAbandon
  exact forL_keeps (fun u : State => u.cvb.tt) fun _ _ => winAbandon_tt

theorem seqStop_tt : (seqStop s q).cvb.tt = s.cvb.tt := by
  unfold seqStop
  extract_lets u
  split
  · exact seqStart_tt
  · rfl

theorem seqOverrun_tt : (seqOverrun s q a).cvb.tt = s.cvb.tt := by
  unfold seqOverrun
  extract_lets u
  have hu : u.cvb.tt = s.cvb.tt := congrArg CvbSt.tt (State.logRate_cvb _ _ _ _ _)
  split
  · exact (seqStart_tt.trans seqAbandon_tt).trans hu
  · split
    · exact hu
    · exact hu
  · exact hu

theorem seqTrigger_tt : (seqTrigger s q a).cvb.tt = s.cvb.tt := by
  unfold seqTrigger
  split
  · rfl
  extract_lets u
  have hu : u.cvb.tt = s.cvb.tt := onIf_tt fun _ => seqStop_tt
  split
  · exact seqOverrun_tt.trans hu
  · exact seqStart_tt.trans hu

theorem seqFire_tt {code T known : Nat} : (seqFire s code T known).cvb.tt = s.cvb.tt :=
  forL_keeps (fun u : State => u.cvb.tt) fun _ _ => onIf_tt fun _ => seqTrigger_tt

end start

/-! ### Timers and pins (R86, R115) -/

section events
variable {s : State} {p : Fin 4} {q : Sq}

/-- The timer's next expiry is known. -/
def timerNext (s : State) (p : Fin 4) : State :=
  { s with cvb := { s.cvb with tt := vupd s.cvb.tt p (fun _ => some (s.now + s.get SEQ_TTt_PER_per p.val)) } }

theorem timerFire_starts {known : Nat} (h : Awaits q (0x18 + p.val) s) : (timerFire s p known).get SEQn_STAT_running q.val = 1 ∧
    (timerFire s p known).cvb.tt[p] = some (s.now + s.get SEQ_TTt_PER_per p.val) := by
  have hnext : Awaits q (0x18 + p.val) (timerNext s p) := ⟨h.wf, h.src, h.en, h.stopped⟩
  have hser := serTimer_moves (x1 := 0x18 + p.val) ⟨Nat.and_self _⟩ (.refl (a := seqFire (timerNext s p) (0x18 + p.val) s.now known))
  obtain ⟨hwf, hrun⟩ := seqFire_starts (T := s.now) (known := known) hnext
  constructor
  · exact (hser.same hwf SEQn_STAT_running q.val 0 (by decide +kernel)).trans hrun
  · have htt : (timerFire s p known).cvb.tt = (timerNext s p).cvb.tt :=
      (congrArg CvbSt.tt (hser.part (p := .cvb) (by decide +kernel))).trans seqFire_tt
    rw [htt]
    exact vupd_same _ _ _

theorem triggerTimerExpiry_fires (hheld : s.dev.held = false) (hen : s.getB SEQ_TTt_CTL_en p.val = true) (hset : s.cvb.tt[p].isSome = true) :
    exec (.triggerTimerExpiry p) s = .next (timerFire s p (s.now - s.get SEQ_TTt_PER_per p.val)) := by
  refine (live_run (f := fun s => s.onIf (s.getB SEQ_TTt_CTL_en p.val && s.cvb.tt[p].isSome)
    (fun s => timerFire s p (s.now - s.get SEQ_TTt_PER_per p.val))) s hheld).trans ?_
  rw [hen, hset]
  rfl

theorem triggerTimerExpiry_unset (hheld : s.dev.held = false) (hset : s.cvb.tt[p] = none) : exec (.triggerTimerExpiry p) s = .next s := by
  refine (live_run (f := fun s => s.onIf (s.getB SEQ_TTt_CTL_en p.val && s.cvb.tt[p].isSome)
    (fun s => timerFire s p (s.now - s.get SEQ_TTt_PER_per p.val))) s hheld).trans ?_
  rw [hset, Option.isSome_none, Bool.and_false]
  rfl

end events

/-! ### The registers (R86, R91) -/

/-- The register of a software trigger. -/
def swtrigReg : Reg := ⟨"SEQn_SWTRIG", 0x40110018, 16, 0x200, 1, 0, [SEQn_SWTRIG_go]⟩

/-- The register that enables a sequencer. -/
def ctlReg : Reg := ⟨"SEQn_CTL", 0x40110000, 16, 0x200, 1, 0, [SEQn_CTL_nsteps, SEQn_CTL_policy, SEQn_CTL_en]⟩

section writes
variable {s t : State} {a : Access} {q : Sq} {v : Nat}

theorem preWrite_SEQn_SWTRIG : preWrite s t a ⟨swtrigReg, q.val, 0, v⟩ = vPass := by
  rw [preWrite_sequencer (r := swtrigReg) rfl]
  simp [preSeq, Wr.is, swtrigReg, SEQn_CTL_en, SEQn_TRIG_src, SEQn_STEPk_A_shift, SEQn_STEPk_B_open_dly, SEQ_TTt_PER_per]

theorem seqSwtrig_triggers (hadm : Admits s a) (hsrc : s.get SEQn_TRIG_src q.val = 1) :
    exec (.seqSwtrig a q) s = .next ((budgetsShown (seqTrigger s q ⟨s.now, s.now, false⟩)).answer a.ini .none) := by
  refine (wrFld_judged hadm (by fin_cases q <;> rfl) (regOf_SEQn_SWTRIG q) (.inr rfl) preWrite_SEQn_SWTRIG).trans ?_
  have hpost : postWrite s a ⟨swtrigReg, q.val, 0, 1⟩ s = seqTrigger s q ⟨s.now, s.now, false⟩ := by
    rw [postWrite_SEQn_SWTRIG rfl, sqOf_val]
    exact if_pos (by simp [hsrc, Wr.bits, SEQn_SWTRIG_go])
  exact congrArg (fun u => (.next ((budgetsShown u).answer a.ini .none) : Out)) hpost

theorem seqSwtrig_starts (hadm : Admits s a) (hen : s.getB SEQn_CTL_en q.val = true) (hrun : s.getB SEQn_STAT_running q.val = false)
    (hsrc : s.get SEQn_TRIG_src q.val = 1) : ∃ t, exec (.seqSwtrig a q) s = .next t ∧ (t.port a.ini).reply = .none ∧
      t.get SEQn_STAT_running q.val = 1 ∧ t.get64 SEQn_TRIG_TS_LO_ts SEQn_TRIG_TS_HI_ts q.val = s.now := by
  have hs := hadm.1.2
  refine ⟨_, seqSwtrig_triggers hadm hsrc, State.answer_port _ _ _, ?_, ?_⟩
  · rw [seqTrigger_starts hen hrun, shown_get (seqStart_wf hs) (by decide +kernel), seqStart_running hs]
  · rw [seqTrigger_starts hen hrun, State.get64, shown_get (seqStart_wf hs) (by decide +kernel),
      shown_get (seqStart_wf hs) (by decide +kernel)]
    exact seqStart_ts hs s.ts.isLt

theorem preWrite_SEQn_CTL (hrun : seqFeedsRun s q.val = false) (hpol : t.get SEQn_CTL_policy q.val ≠ 3) :
    preWrite s t a ⟨ctlReg, q.val, 0, v⟩ = vPass := by
  rw [preWrite_sequencer (r := ctlReg) rfl]
  simp [preSeq, Wr.is, ctlReg, SEQn_CTL_en, hrun, hpol, fIf, vKeep, vPass]

/-- The register as the write leaves it. -/
def ctlWritten (s : State) (q : Sq) (v : Nat) : State := applyWr s ⟨ctlReg, q.val, 0, v % 2 ^ 32⟩ []

theorem ctlWritten_wf (hs : s.wf = true) : (ctlWritten s q v).wf = true := (applyWr_moves (m := 0x1) ⟨by decide +kernel⟩ .refl).wf hs

theorem ctlWritten_get (hs : s.wf = true) : (ctlWritten s q v).get SEQn_CTL_policy q.val = v / 2 ^ SEQn_CTL_policy.lsb % 4 ∧
    (ctlWritten s q v).get SEQn_CTL_en q.val = v / 2 ^ SEQn_CTL_en.lsb % 2 := by
  have hget := fun f => applyWr_get (w := ⟨ctlReg, q.val, 0, v % 2 ^ 32⟩) (f := f) (regOf_mem (regOf_SEQn_CTL q)) hs
  constructor
  · refine (hget SEQn_CTL_policy (List.mem_cons_of_mem _ List.mem_cons_self)).trans ((if_pos (by decide)).trans ?_)
    simp only [SEQn_CTL_policy]
    omega
  · refine (hget SEQn_CTL_en (List.mem_cons_of_mem _ (List.mem_cons_of_mem _ List.mem_cons_self))).trans ((if_pos (by decide)).trans ?_)
    simp only [SEQn_CTL_en]
    omega

/-- Triggers that wait are discarded (R91). -/
def seqDisabled (s : State) (q : Sq) : State := (s.modSeq q (fun x => { x with stored := none, armed := [] })).put SEQn_STAT_queued 0 q.val

theorem seqDisable_discards (hadm : Admits s a) (hen : s.getB SEQn_CTL_en q.val = true) (hrun : seqFeedsRun s q.val = false)
    (hoff : v / 2 ^ SEQn_CTL_en.lsb % 2 = 0) (hpol : v / 2 ^ SEQn_CTL_policy.lsb % 4 ≠ 3) :
    exec (.seqDisable a q v) s = .next ((budgetsShown (seqDisabled (ctlWritten s q v) q)).answer a.ini .none) := by
  obtain ⟨hp, he⟩ := ctlWritten_get (q := q) (v := v) hadm.1.2
  refine (wrFld_judged (f := SEQn_CTL_en) hadm (by fin_cases q <;> rfl) (regOf_SEQn_CTL q) (.inr rfl)
    (preWrite_SEQn_CTL hrun (by exact hp.trans_ne hpol))).trans ?_
  have hnow : (ctlWritten s q v).getB SEQn_CTL_en q.val = false := by rw [State.getB, he, hoff]; rfl
  have hpost : postWrite s a ⟨ctlReg, q.val, 0, v % 2 ^ 32⟩ (ctlWritten s q v) = seqDisabled (ctlWritten s q v) q := by
    rw [postWrite_SEQn_CTL rfl, sqOf_val, hnow, hen]
    rfl
  exact congrArg (fun u => (.next ((budgetsShown u).answer a.ini .none) : Out)) hpost

theorem seqDisable_shows (hadm : Admits s a) (hen : s.getB SEQn_CTL_en q.val = true) (hrun : seqFeedsRun s q.val = false)
    (hoff : v / 2 ^ SEQn_CTL_en.lsb % 2 = 0) (hpol : v / 2 ^ SEQn_CTL_policy.lsb % 4 ≠ 3) : ∃ t, exec (.seqDisable a q v) s = .next t ∧
      (t.port a.ini).reply = .none ∧ t.get SEQn_CTL_en q.val = 0 ∧ t.get SEQn_STAT_queued q.val = 0 := by
  have hw := ctlWritten_wf (q := q) (v := v) hadm.1.2
  have hwf : (seqDisabled (ctlWritten s q v) q).wf = true := State.put_wf (s := (ctlWritten s q v).modSeq q _) hw
  refine ⟨_, seqDisable_discards hadm hen hrun hoff hpol, State.answer_port _ _ _, ?_, ?_⟩
  · rw [shown_get hwf (by decide +kernel)]
    exact (State.get_put_ne (s := (ctlWritten s q v).modSeq q _) hw (by decide)).trans ((ctlWritten_get hadm.1.2).2.trans hoff)
  · rw [shown_get hwf (by decide +kernel)]
    exact State.get_put_same (s := (ctlWritten s q v).modSeq q _) hw

end writes

/-- Settles O9. -/
theorem triggers : Obligations.Triggers := by
  rintro s ⟨hheld, hs⟩
  refine ⟨fun a q hadm hen hrun hsrc => seqSwtrig_starts hadm hen hrun hsrc,
    fun a q v hadm hen hrun hoff hpol => seqDisable_shows hadm hen hrun hoff hpol,
    fun p q hon hset hsrc hen hrun => ⟨_, triggerTimerExpiry_fires hheld hon hset, timerFire_starts ⟨hs, hsrc, hen, hrun⟩⟩,
    fun p hnone => ⟨s, triggerTimerExpiry_unset hheld hnone, rfl⟩,
    fun p r q hsrc hen hrun => ⟨_, live_run (f := fun s => seqFire s ((if r then 0x20 else 0x24) + p.val) s.now s.now) s hheld,
      (seqFire_starts ⟨hs, hsrc, hen, hrun⟩).2⟩,
    fun a c k v hadm hstart hbit hok => injectionStart_shows hadm hstart hbit hok,
    fun c k codes h hn => injectionDone_writes hheld hs hn h⟩

end Sys2Proof.Proofs
end

section
/-! PROOF. Calibration and power of a converter (O10). -/

namespace Sys2Proof.Proofs

open Sys2Proof Sys2Proof.Machine Sys2Proof.Safety

section converters
variable {s t : State} {a : Access} {c p : Cv} {q : Sq} {k : Fin 16} {o g : Int} {f : Fld}

/-! ### Requests (R97, R102) -/

/-- The register of a converter's calibration. -/
def calReg : Reg :=
  ⟨"CVc_CAL", 0x4010010c, 8, 0x40, 1, 0, [CVc_CAL_full_busy, CVc_CAL_bg_busy, CVc_CAL_ok, CVc_CAL_bg_slice, CVc_CAL_full]⟩

theorem preWrite_CVc_CAL {v : Nat} : preWrite s t a ⟨calReg, c.val, 0, v⟩ = .act := by
  rw [preWrite_bank (r := calReg) rfl]
  simp [preCvb, Wr.is, calReg, CVB_CTL_bgcal_period, CVB_OW_CTL_dwell, CVc_CFG_pwr, CVc_IDLE_idle_down, CVc_CAL_full]

theorem calFullRequest_asks (hadm : Admits s a) :
    exec (.calFullRequest a c) s = .next ((budgetsShown (calAsk s c)).answer a.ini .none) := by
  refine (wrFld_judged (f := CVc_CAL_full) hadm (by fin_cases c <;> rfl) (regOf_CVc_CAL c) (.inl rfl) preWrite_CVc_CAL).trans ?_
  have hpost : postWrite s a ⟨calReg, c.val, 0, 1⟩ s = calAsk s c := by
    rw [postWrite_CVc_CAL rfl, cvOf_val]
    exact if_pos (by simp [Wr.bits, CVc_CAL_full])
  exact congrArg (fun u => (.next ((budgetsShown u).answer a.ini .none) : Out)) hpost

/-- A converter that feeds a running channel calibrates only while its partner may serve (R97). -/
theorem calAsk_free (h : feedsRunning s c = false ∨ s.getB CVc_CFG_partner_en c.val = true) :
    (feedsRunning s c && !s.getB CVc_CFG_partner_en c.val) = false := by
  rcases h with h | h <;> simp [h]

theorem calAsk_granted (h : feedsRunning s c = false ∨ s.getB CVc_CFG_partner_en c.val = true) : calAsk s c = calRequest s c :=
  if_neg (ne_true_of_eq_false (calAsk_free h))

theorem calRequest_shows (hs : s.wf = true) : (calRequest s c).wf = true ∧ (calRequest s c).get CVc_CAL_full c.val = 1 := by
  have hput : (s.put CVc_CAL_full 1 c.val).wf = true := State.put_wf hs
  have hstart := cvStart_moves (x1 := c) ⟨Nat.and_self _⟩ (.refl (a := s.put CVc_CAL_full 1 c.val))
  refine ⟨hstart.wf hput, (hstart.same hput _ _ _ (by decide +kernel)).trans (State.get_put_same hs)⟩

/-! ### A full calibration begins (R92, R97, R98) -/

@[simp] theorem cvLeave_conv : (cvLeave s c).cvb.conv = s.cvb.conv := by
  unfold cvLeave
  split <;> rfl

/-- A converter in full calibration, as its registers show it. -/
structure Calibrates (c : Cv) (s : State) : Prop where
  wf : s.wf = true
  work : s.cvb.conv[c].work = .cal
  busy : s.get CVc_CAL_full_busy c.val = 1
  state : s.get CVc_STAT_state c.val = 5

theorem Calibrates.moves {m : Nat} (h : Calibrates c s) (k : Moves m s t) (hw : t.cvb.conv[c].work = s.cvb.conv[c].work)
    (hb : (m.testBit 0 || touches m CVc_CAL_full_busy) = false) (hst : (m.testBit 0 || touches m CVc_STAT_state) = false) : Calibrates c t :=
  ⟨k.wf h.wf, hw.trans h.work, (k.same h.wf _ _ _ hb).trans h.busy, (k.same h.wf _ _ _ hst).trans h.state⟩

/-- Another converter's state is written. -/
theorem Calibrates.put_state {v : Nat} (h : Calibrates c s) (hp : c ≠ p) : Calibrates c (s.put CVc_STAT_state v p.val) :=
  ⟨State.put_wf h.wf, h.work, (State.get_put_ne h.wf (by decide)).trans h.busy, (State.get_put_key h.wf (key_ne_of_ne (by decide) hp _)).trans h.state⟩

theorem Calibrates.onIf {b : Bool} {f : State → State} (h : Calibrates c s) (hf : Calibrates c s → Calibrates c (f s)) :
    Calibrates c (s.onIf b f) := by
  cases b with
  | false => exact h
  | true => exact hf h

theorem Calibrates.cvStart (h : Calibrates c s) (hp : c ≠ p) : Calibrates c (cvStart s p) := by
  unfold Machine.cvStart
  split
  · exact h.put_state hp
  split
  · exact ⟨h.wf, (congrArg Conv.work (modConv_conv_ne hp)).trans h.work, h.busy, h.state⟩
  · exact h

theorem Calibrates.shutCancel (h : Calibrates c s) (hp : c ≠ p) : Calibrates c (shutCancel s p) := by
  unfold Machine.shutCancel
  exact h.onIf fun h => h.put_state hp

/-- A window opens on the partner. -/
theorem Calibrates.winOpenOn (h : Calibrates c s) (hp : c ≠ p) : Calibrates c (winOpenOn s p q k) := by
  have hwork : ∀ {u v : State}, Turns p u v → v.cvb.conv[c].work = u.cvb.conv[c].work := fun k => congrArg Conv.work (k.other c hp)
  have hfree : Moves (maskOf [] [.cvb]) s
      (injYield (cvAbort (s.modWin q k (fun w => { w with st := .due, conv := p.val })) p) p) :=
    injYield_moves ⟨by decide +kernel⟩ (cvAbort_moves ⟨by decide +kernel⟩ (State.modWin_moves ⟨by decide +kernel⟩ .refl))
  have hready : Calibrates c (injYield (cvAbort (s.modWin q k (fun w => { w with st := .due, conv := p.val })) p) p) :=
    h.moves hfree (hwork (Turns.refl.modWin.abort.injYield)) (by decide +kernel) (by decide +kernel)
  have hstart := (hready.shutCancel hp).cvStart hp
  exact hstart.moves (serveNext_moves ⟨Nat.and_self _⟩ .refl) (hwork Turns.refl.serveNext) (by decide +kernel) (by decide +kernel)

/-- A window due on a converter that calibrates goes to the partner or is not taken. -/
theorem Calibrates.windowTake (h : Calibrates c s) : Calibrates c (windowTake s c q k) := by
  have hun : ∀ b, Calibrates c (winUntaken s q k b) := fun b =>
    h.moves (winUntaken_moves ⟨Nat.and_self _⟩ .refl) rfl (by decide +kernel) (by decide +kernel)
  unfold Machine.windowTake
  extract_lets p
  split
  · exact hun false
  split
  · exact hun true
  split
  · split
    · exact hun true
    split
    · exact hun true
    · exact Calibrates.winOpenOn ⟨h.wf, h.work, h.busy, h.state⟩ (partner_ne c).symm
  next hw => exact absurd (by rw [h.work]; rfl) hw

/-- A window that opens on this very clock is put off. -/
def calYield (s : State) (c : Cv) : State :=
  match s.cvb.conv[c].work with
  | .window q k => s.modWin (sqOf q) (stOf k) (fun w => { w with st := .due })
  | _ => s

/-- The calibration stands in the registers. -/
def calBegun (s : State) (c : Cv) : State :=
  ((cvLeave ((calYield s c).modConv c (fun x => { x with work := .cal, sinceFt := (calYield s c).nowFt })) c).put CVc_CAL_full_busy 1 c.val).put
    CVc_STAT_state 5 c.val

theorem calBegun_calibrates (hs : s.wf = true) : Calibrates c (calBegun s c) := by
  have hyield : Moves (maskOf [] [.cvb]) s (calYield s c) := by
    unfold calYield
    split
    · exact State.modWin_moves ⟨by decide +kernel⟩ .refl
    · exact .refl
  have hleave := cvLeave_moves (x1 := c) (m := maskOf [] [.cvb]) ⟨by decide +kernel⟩ (State.modConv_moves (x1 := c)
    (x2 := fun x => { x with work := .cal, sinceFt := (calYield s c).nowFt }) ⟨by decide +kernel⟩ hyield)
  have h1 := hleave.wf hs
  refine ⟨State.put_wf (State.put_wf h1), ?_, ?_, State.get_put_same (State.put_wf h1)⟩
  · have hconv : (calBegun s c).cvb.conv = ((calYield s c).modConv c (fun x => { x with work := .cal, sinceFt := (calYield s c).nowFt })).cvb.conv :=
      cvLeave_conv
    rw [hconv, modConv_conv]
  · exact (State.get_put_ne (State.put_wf h1) (by decide)).trans (State.get_put_same h1)

theorem calStart_calibrates (hs : s.wf = true) : Calibrates c (calStart s c) :=
  List.foldlRecOn (motive := Calibrates c) (dueWins (calBegun s c) c) _ (calBegun_calibrates hs) fun _ h _ _ => h.onIf fun h => h.windowTake

theorem calFullStart_calibrates (hheld : s.dev.held = false) (hs : s.wf = true) (hmay : calMayStart s c = true) :
    ∃ t, exec (.calFullStart c) s = .next t ∧ t.cvb.conv[c].work = .cal ∧ t.get CVc_CAL_full_busy c.val = 1 ∧ cvSt t c = 5 := by
  refine ⟨_, (live_run (f := fun s => s.onIf (calMayStart s c) (fun s => calStart s c)) s hheld).trans (congrArg _ (if_pos hmay)), ?_⟩
  obtain ⟨-, hwork, hbusy, hstate⟩ := calStart_calibrates (c := c) hs
  exact ⟨hwork, hbusy, hstate⟩

/-! ### A calibration ends (R99) -/

theorem feeds_congr {n : Nat} (h : ∀ f ∈ [SEQn_CTL_en, SEQn_CTL_nsteps, SEQn_STEPk_A_conv, SEQn_STEPk_B_sp_en, SEQn_STEPk_B_sp_ch],
    ∀ i j, t.get f i j = s.get f i j) : feeds t c n = feeds s c n := by
  have hen := h SEQn_CTL_en (by decide)
  have hsteps := h SEQn_CTL_nsteps (by decide)
  have hconv := h SEQn_STEPk_A_conv (by decide)
  have hto := h SEQn_STEPk_B_sp_en (by decide)
  have hch := h SEQn_STEPk_B_sp_ch (by decide)
  simp only [feeds, State.getB, hen, hsteps, hconv, hto, hch]

theorem fedChans_congr (h : ∀ f ∈ [SEQn_CTL_en, SEQn_CTL_nsteps, SEQn_STEPk_A_conv, SEQn_STEPk_B_sp_en, SEQn_STEPk_B_sp_ch],
    ∀ i j, t.get f i j = s.get f i j) : fedChans t c = fedChans s c := by
  simp only [fedChans, feeds_congr h]

/-- The converter is free again, and its registers show it. -/
def calFreed (s : State) (c : Cv) : State :=
  cvUnsettle ((((s.put CVc_CAL_full 0 c.val).put CVc_CAL_full_busy 0 c.val).modConv c
    (fun x => { x with work := .idle, calDone := true, freeFt := s.nowFt })).put CVc_STAT_state 3 c.val) c s.nowFt

theorem calEnd_eq : calEnd s c o g = serveNext (trimEnd (calFreed s c) c o g true) c s.nowFt := rfl

/-- What the end writes before its trims. -/
theorem calFreed_moves : Moves (maskOf [CVc_CAL_full, CVc_CAL_full_busy, CVc_STAT_state] [.cvb]) s (calFreed s c) :=
  cvUnsettle_moves ⟨by decide +kernel⟩ (State.put_moves (.inr (by decide +kernel)) (State.modConv_moves ⟨by decide +kernel⟩
    (State.put_moves (.inr (by decide +kernel)) (State.put_moves (.inr (by decide +kernel)) .refl))))

theorem calFreed_get (hs : s.wf = true) : (calFreed s c).get CVc_CAL_full c.val = 0 ∧ (calFreed s c).get CVc_CAL_full_busy c.val = 0 := by
  have h1 : (s.put CVc_CAL_full 0 c.val).wf = true := State.put_wf hs
  have h2 : ((s.put CVc_CAL_full 0 c.val).put CVc_CAL_full_busy 0 c.val).wf = true := State.put_wf h1
  have hlast : ∀ f, f.id ≠ CVc_STAT_state.id →
      (calFreed s c).get f c.val = ((s.put CVc_CAL_full 0 c.val).put CVc_CAL_full_busy 0 c.val).get f c.val :=
    fun f hf => State.get_put_ne (s := ((s.put CVc_CAL_full 0 c.val).put CVc_CAL_full_busy 0 c.val).modConv c _) h2 hf
  constructor
  · rw [hlast _ (by decide), State.get_put_ne h1 (by decide), State.get_put_same hs]
    rfl
  · rw [hlast _ (by decide), State.get_put_same h1]
    rfl

theorem calEnd_keeps (hs : s.wf = true) (hf : f ∈ [CVc_CAL_full, CVc_CAL_full_busy, CVc_TRIM_offset, CVc_TRIM_gain, CVc_CAL_ok]) :
    (calEnd s c o g).get f c.val = (trimEnd (calFreed s c) c o g true).get f c.val := by
  have htrim : (trimEnd (calFreed s c) c o g true).wf = true := (trimEnd_moves ⟨Nat.and_self _⟩ .refl).wf (calFreed_moves.wf hs)
  exact (serveNext_moves ⟨Nat.and_self _⟩ .refl).same htrim _ _ _ (by revert f; decide +kernel)

theorem calEnd_frees (hs : s.wf = true) : (calEnd s c o g).get CVc_CAL_full c.val = 0 ∧ (calEnd s c o g).get CVc_CAL_full_busy c.val = 0 := by
  obtain ⟨hfull, hbusy⟩ := calFreed_get (c := c) hs
  have htrim := trimEnd_moves (x1 := c) (x2 := o) (x3 := g) (x4 := true) ⟨Nat.and_self _⟩ (.refl (a := calFreed s c))
  constructor
  · rw [calEnd_keeps hs (by decide), htrim.same (calFreed_moves.wf hs) _ _ _ (by decide +kernel), hfull]
  · rw [calEnd_keeps hs (by decide), htrim.same (calFreed_moves.wf hs) _ _ _ (by decide +kernel), hbusy]

theorem calEnd_calDone : (calEnd s c o g).cvb.conv[c].calDone = true := by
  rw [calEnd_eq, (Turns.refl).serveNext.calDone, trimEnd_cvb]
  exact (congrArg Conv.calDone modConv_conv).trans (congrArg Conv.calDone modConv_conv)

/-- Trims within their range are stored (R99). -/
theorem trimEnd_stored (hs : s.wf = true) (ho : -512 ≤ o) (ho' : o ≤ 512) (hg : -31457 ≤ g) (hg' : g ≤ 31457) :
    (trimEnd s c o g true).getS CVc_TRIM_offset c.val = o ∧ (trimEnd s c o g true).getS CVc_TRIM_gain c.val = g ∧
      (trimEnd s c o g true).get CVc_CAL_ok c.val = 1 := by
  have hok : trimOk o g = true := by simp [trimOk, ho, ho', hg, hg']
  have h1 : (s.putS CVc_TRIM_offset o c.val).wf = true := State.put_wf hs
  have h2 : ((s.putS CVc_TRIM_offset o c.val).putS CVc_TRIM_gain g c.val).wf = true := State.put_wf h1
  have h3 : (((s.putS CVc_TRIM_offset o c.val).putS CVc_TRIM_gain g c.val).put CVc_CAL_ok 1 c.val).wf = true := State.put_wf h2
  have hlog : ∀ f, touches (maskOf evFlds evParts) f = false → (trimEnd s c o g true).get f c.val =
      (((s.putS CVc_TRIM_offset o c.val).putS CVc_TRIM_gain g c.val).put CVc_CAL_ok 1 c.val).get f c.val := fun f hf => by
    rw [trimEnd, if_pos hok, State.onIf_true, logEv_get_of_untouched h3 hf]
  refine ⟨?_, ?_, (hlog _ (by decide +kernel)).trans (State.get_put_same h2)⟩
  · rw [State.getS, hlog _ (by decide +kernel), State.get_put_ne h2 (by decide), State.putS, State.get_put_ne h1 (by decide)]
    exact putS_getS hs rfl (by omega) (by omega)
  · rw [State.getS, hlog _ (by decide +kernel), State.get_put_ne h2 (by decide)]
    exact putS_getS h1 rfl (by omega) (by omega)

/-- Trims out of their range are refused (R99). -/
theorem trimEnd_refused (hs : s.wf = true) (ho : 512 < o) : (trimEnd s c o g true).get CVc_CAL_ok c.val = 0 ∧
    (0x29, c.val + 256 * fedChans s c) ∈ (trimEnd s c o g true).inflight := by
  have hok : ¬ trimOk o g = true := by simp [trimOk, not_le.mpr ho]
  have hput : (s.put CVc_CAL_ok 0 c.val).wf = true := State.put_wf hs
  rw [trimEnd, if_neg hok]
  refine ⟨?_, List.mem_append_right _ (List.mem_singleton.mpr rfl)⟩
  exact (logEv_get_of_untouched hput (by decide +kernel)).trans (State.get_put_same hs)

theorem calEnd_trims (hs : s.wf = true) (ho : -512 ≤ o) (ho' : o ≤ 512) (hg : -31457 ≤ g) (hg' : g ≤ 31457) :
    (calEnd s c o g).getS CVc_TRIM_offset c.val = o ∧ (calEnd s c o g).getS CVc_TRIM_gain c.val = g ∧ (calEnd s c o g).get CVc_CAL_ok c.val = 1 := by
  rw [State.getS, State.getS, calEnd_keeps hs (by decide), calEnd_keeps hs (by decide), calEnd_keeps hs (by decide)]
  exact trimEnd_stored (calFreed_moves.wf hs) ho ho' hg hg'

theorem calEnd_refuses (hs : s.wf = true) (ho : 512 < o) : (calEnd s c o g).get CVc_CAL_ok c.val = 0 ∧
    (0x29, c.val + 256 * fedChans s c) ∈ (calEnd s c o g).inflight := by
  obtain ⟨hok, hraised⟩ := trimEnd_refused (s := calFreed s c) (c := c) (g := g) (calFreed_moves.wf hs) ho
  have hfed : fedChans (calFreed s c) c = fedChans s c := fedChans_congr fun f hf i j => calFreed_moves.same hs f i j (by revert f; decide +kernel)
  refine ⟨(calEnd_keeps hs (by decide)).trans hok, ?_⟩
  rw [calEnd_eq, (serveNext_moves ⟨Nat.and_self _⟩ .refl).part (p := .inflight) (by decide +kernel), ← hfed]
  exact hraised

/-! ### Background slices (R100) -/

theorem bgcalSlice_begins (hheld : s.dev.held = false) (hs : s.wf = true) (hen : s.getB CVB_CTL_bgcal_en = true) (hst : cvSt s c = 3)
    (hidle : s.cvIdle c = true) (hgap : gapHolds s c (ckaAt s s.nowFt) (64 + s.get CVc_CFG_mux_settle c.val) = true) :
    ∃ t, exec (.bgcalSlice c o g) s = .next t ∧ t.cvb.conv[c].work = .bg ∧ t.cvb.conv[c].doneFt = ckaAt s s.nowFt + 1280 * 63 ∧
      t.get CVc_CAL_bg_busy c.val = 1 := by
  refine ⟨_, (live_run s hheld).trans (congrArg _ (if_pos (by rw [hen, hst, hidle, hgap]; rfl))), ?_, ?_, ?_⟩
  · exact (congrArg (fun v => Conv.work v[c]) cvLeave_conv).trans (congrArg Conv.work modConv_conv)
  · exact (congrArg (fun v => Conv.doneFt v[c]) cvLeave_conv).trans (congrArg Conv.doneFt modConv_conv)
  · exact State.get_put_same (s := cvLeave (s.modConv c _) c) ((cvLeave_moves ⟨Nat.and_self _⟩ .refl).wf hs)

theorem bgcalStarved_restarts (hheld : s.dev.held = false) (hs : s.wf = true) (hen : s.getB CVB_CTL_bgcal_en = true) (hmode : cvMode s c ≠ 3) :
    ∃ t, exec (.bgcalStarved c) s = .next t ∧ t.get CVc_CAL_bg_slice c.val = 0 ∧ t.get CVc_CAL_bg_busy c.val = 1 ∧
      Logged s t 0x1003 [c.val] := by
  have hlog : (s.logEv 0x1003 [c.val]).wf = true := logEv_reaches.wf hs
  have hput : ((s.logEv 0x1003 [c.val]).put CVc_CAL_bg_slice 0 c.val).wf = true := State.put_wf hlog
  refine ⟨_, (live_run s hheld).trans (congrArg _ (if_pos (by rw [hen]; simp [hmode]))), ?_, State.get_put_same hput, logged_of rfl⟩
  exact (State.get_put_ne hput (by decide)).trans (State.get_put_same hlog)

/-! ### Power (R103, R105) -/

theorem cvPowerDown_shuts (hheld : s.dev.held = false) (hs : s.wf = true) (hmay : mayShut s c = true) :
    ∃ t, exec (.cvPowerDown c) s = .next t ∧ cvSt t c = 1 := by
  refine ⟨_, (live_run s hheld).trans (congrArg _ (if_pos hmay)), ?_⟩
  exact State.get_put_same ((cvLeave_moves ⟨Nat.and_self _⟩ .refl).wf hs)

/-- The 16 clocks are over. -/
def cvShut (s : State) (c : Cv) : State :=
  if cvMode s c = 3 then (s.put CVc_STAT_state 0 c.val).onIf ((s.put CVc_STAT_state 0 c.val).get CVc_CFG_ref_mode c.val == 0)
    (fun s => s.put CVc_STAT_ref_ready 0 c.val)
  else if s.cvb.conv[c].startReq then (s.modConv c (fun x => { x with startReq := false })).put CVc_STAT_state 2 c.val
  else s.put CVc_STAT_state 4 c.val

theorem cvShut_state (hs : s.wf = true) : cvSt (cvShut s c) c = if cvMode s c = 3 then 0 else if s.cvb.conv[c].startReq then 2 else 4 := by
  unfold cvShut
  split
  · have hput : (s.put CVc_STAT_state 0 c.val).wf = true := State.put_wf hs
    cases (s.put CVc_STAT_state 0 c.val).get CVc_CFG_ref_mode c.val == 0 with
    | false => exact State.get_put_same hs
    | true => exact (State.get_put_ne hput (by decide)).trans (State.get_put_same hs)
  split
  · exact State.get_put_same (s := s.modConv c _) hs
  · exact State.get_put_same hs

theorem cvShutdownDone_settles (hheld : s.dev.held = false) (hs : s.wf = true) (hst : cvSt s c = 1) :
    ∃ t, exec (.cvShutdownDone c) s = .next t ∧
      cvSt t c = if cvMode s c = 3 then 0 else if s.cvb.conv[c].startReq then 2 else 4 :=
  ⟨_, (live_run (f := fun s => s.onIf (cvSt s c == 1) (fun s => cvShut s c)) s hheld).trans (congrArg _ (if_pos (by rw [hst]; rfl))),
    cvShut_state hs⟩

/-- The 64 clocks are over. -/
def cvUp (s : State) (c : Cv) : State :=
  cvUnsettle ((s.put CVc_STAT_state 3 c.val).modConv c (fun x => { x with freeFt := s.nowFt, startReq := false })) c s.nowFt

theorem cvStartupDone_runs (hheld : s.dev.held = false) (hs : s.wf = true)
    (hst : cvSt s c = 2 ∨ cvSt s c = 4 ∨ (cvSt s c = 0 ∧ cvMode s c ≠ 3)) : ∃ t, exec (.cvStartupDone c) s = .next t ∧ cvSt t c = 3 := by
  have hcond : (cvSt s c == 2 || cvSt s c == 4 || (cvSt s c == 0 && cvMode s c != 3)) = true := by
    rcases hst with h | h | ⟨h, h'⟩ <;> simp_all
  have hup : (cvUp s c).wf = true := State.put_wf hs
  refine ⟨_, (live_run (f := fun s => s.onIf (cvSt s c == 2 || cvSt s c == 4 || (cvSt s c == 0 && cvMode s c != 3))
    (fun s => serveNext (cvUp s c) c s.nowFt)) s hheld).trans (congrArg _ (if_pos hcond)), ?_⟩
  exact ((serveNext_moves ⟨Nat.and_self _⟩ .refl).same hup CVc_STAT_state c.val 0 (by decide +kernel)).trans (State.get_put_same hs)

/-! ### References and the idle scan (R106, R107) -/

theorem refReady_shown (hheld : s.dev.held = false) (hs : s.wf = true) (hmode : s.get CVc_CFG_ref_mode c.val ≠ 0)
    (hen : s.getB CVc_CFG_ref_en c.val = true) : ∃ t, exec (.refReady c) s = .next t ∧ t.get CVc_STAT_ref_ready c.val = 1 := by
  refine ⟨_, (live_run s hheld).trans (congrArg _ (if_pos (by rw [if_neg hmode, hen]))), ?_⟩
  have hput : (s.put CVc_STAT_ref_ready 1 c.val).wf = true := State.put_wf hs
  have hask := State.onIf_moves (m := maskOf [CVc_CAL_full, CVc_STAT_state] [.cvb])
    (c := !(s.put CVc_STAT_ref_ready 1 c.val).cvb.conv[c].calDone && cvMode (s.put CVc_STAT_ref_ready 1 c.val) c != 3)
    (f := fun s => calRequest s c) (.refl (a := s.put CVc_STAT_ref_ready 1 c.val)) fun _ h => calRequest_moves ⟨by decide +kernel⟩ h
  exact (hask.same hput _ _ _ (by decide +kernel)).trans (State.get_put_same hs)

theorem nextScan_lt {mask i j : Nat} (h : nextScan mask i = some j) : j < 10 := by
  obtain ⟨d, -, rfl⟩ := List.mem_map.mp (List.mem_of_find?_eq_some h)
  exact Nat.mod_lt _ (by decide)

/-- A converter turned to a slot of its own shows it. -/
theorem cvTurn_shows {j i : Nat} (hs : s.wf = true) (hj : j < 16) : (cvTurn s c j none i).get CVc_STAT_cur_input c.val = j := by
  unfold cvTurn
  extract_lets x u v
  split
  next h => exact h.2.resolve_left (by simp)
  next =>
    have hu : v.wf = true := (cvLeave_moves (m := maskOf [] [.cvb]) ⟨by decide +kernel⟩ .refl).wf hs
    exact (State.get_put_same hu).trans (Nat.mod_eq_of_lt hj)

theorem idleScanVisit_turns {j : Nat} (hheld : s.dev.held = false) (hs : s.wf = true) (hst : cvSt s c = 3) (hidle : s.cvIdle c = true)
    (hnext : nextScan (s.get CVc_IDLESCAN_mask c.val) (s.get CVc_STAT_cur_input c.val) = some j) :
    ∃ t, exec (.idleScanVisit c) s = .next t ∧ t.get CVc_STAT_cur_input c.val = j % 16 := by
  have hj : j < 16 := (nextScan_lt hnext).trans (by decide)
  refine ⟨cvTurn s c j none s.nowFt, (live_run s hheld).trans (congrArg _ ((if_pos (by rw [hst, hidle]; rfl)).trans ?_)), ?_⟩
  · beta_reduce
    rw [hnext]
  · rw [cvTurn_shows hs hj, Nat.mod_eq_of_lt hj]

end converters

/-- Settles O10. -/
theorem converters : Obligations.Converters := by
  rintro s c ⟨hheld, hs⟩
  refine ⟨fun a hadm hask => ?_, calFullStart_calibrates hheld hs, fun o g hwork => ?_, fun o g => bgcalSlice_begins hheld hs,
    bgcalStarved_restarts hheld hs, cvPowerDown_shuts hheld hs, cvShutdownDone_settles hheld hs, cvStartupDone_runs hheld hs,
    refReady_shown hheld hs, fun hst hidle j => idleScanVisit_turns hheld hs hst hidle⟩
  · obtain ⟨hwf, hfull⟩ := calRequest_shows (c := c) hs
    refine ⟨_, calFullRequest_asks hadm, State.answer_port _ _ _, ?_⟩
    rw [calAsk_granted hask, shown_get hwf (by decide +kernel), hfull]
  · refine ⟨_, (live_run (f := fun s => s.onIf (s.cvb.conv[c].work == .cal) (fun s => calEnd s c o g)) s hheld).trans
      (congrArg _ (if_pos (by rw [hwork]; rfl))), (calEnd_frees hs).1, (calEnd_frees hs).2, calEnd_calDone, calEnd_trims hs, calEnd_refuses hs⟩

end Sys2Proof.Proofs
end

section
/-! PROOF. The MP's converter, position, protection and meter commands (O32). -/

namespace Sys2Proof.Proofs

open Sys2Proof Sys2Proof.Machine Sys2Proof.Safety

/-! ### A command that stays in execution, and what a completion leaves alone (R380) -/

section commands
variable {s t : State} {c : Ctx} {p : List Nat} {op st : Nat} {res : List Nat} {f : State → Ctx → List Nat → OpRes}

/-- An operation keeps the power stage where it does not reach the power record. -/
theorem opRow_of_moves {m : Nat} (h : Serves s c op p) (hf : f s { c with opcode := op } p = opDone st res t) (hm : Moves m s t)
    (hpwr : m.testBit (partBit .pwr) = false) : opRow op f c p s = .next (complete t { c with opcode := op } st res) :=
  opRow_of_done h hf fun hst => (congrArg (fun x => x.stage) (hm.part (p := .pwr) hpwr)).symm.trans hst

theorem complete_get {g : Fld} {i j : Nat} (hs : s.wf = true)
    (hg : touches (maskOf (evFlds ++ [FPL_STAT_cpl_drop, QPq_CQ_tail, QPq_CQ_head]) (evParts ++ [.sram, .ueKnown, .writebacks, .fpl, .net])) g =
      false) : (complete s c st res).get g i j = s.get g i j := complete_reaches.get hs (by decide +kernel) hg i j

theorem complete_inflight : (complete s c st res).inflight = s.inflight := complete_reaches.part (p := .inflight) (by decide +kernel)

theorem complete_bdg : (complete s c st res).bdg = s.bdg := complete_reaches.part (p := .bdg) (by decide +kernel)

theorem complete_pos : (complete s c st res).pos = s.pos := complete_reaches.part (p := .pos) (by decide +kernel)

/-- The block that a queue collects is not touched. -/
theorem complete_asm {q : Qp} : (complete s c st res).fpl.qps[q].asm = s.fpl.qps[q].asm := by
  have hring : (ringCompletion s c st res false).fpl.qps[q].asm = s.fpl.qps[q].asm := by
    rw [ringCompletion, State.irq_fpl, modQp_fpl, State.put_fpl, putBytes_fpl]
    by_cases hq : q = c.q
    · subst hq
      exact (congrArg QpSt.asm (vupd_same s.fpl.qps c.q _)).trans rfl
    · exact congrArg QpSt.asm (vupd_ne s.fpl.qps _ hq)
  rcases complete_cases (s := s) (c := c) (st := st) (res := res) (more := false) with h | h | h | ⟨t, d, b, v, h⟩ <;> rw [h]
  · rw [State.logEv_fpl, State.incSat_fpl]
  · exact hring
  · rw [State.put_fpl, transmit_fpl, hring]

/-! ### CV_CALIBRATE (R97, R102) -/

section converter
variable {cv : Cv}

theorem getB_of_zero {g : Fld} {i j : Nat} (h : s.get g i j = 0) : s.getB g i j = false := by rw [State.getB, h]; rfl

theorem getB_of_one {g : Fld} {i j : Nat} (h : s.get g i j = 1) : s.getB g i j = true := by rw [State.getB, h]; rfl

theorem opCvCalibrate_full (hcv : p.headD 0 ≤ 7) (hmode : p.getD 1 0 = 0) (hnow : s.get CVc_CAL_full (cvOf (p.headD 0)).val = 0)
    (hfeed : feedsRunning s (cvOf (p.headD 0)) = false ∨ s.getB CVc_CFG_partner_en (cvOf (p.headD 0)).val = true) :
    opCvCalibrate s c p = opDone 1 [] (calRequest s (cvOf (p.headD 0))) := by
  rw [opCvCalibrate, if_neg (by omega), if_neg (by omega), if_neg (by rw [getB_of_zero hnow]; decide),
    if_neg (ne_true_of_eq_false (calAsk_free hfeed))]

theorem opCvCalibrate_background (hcv : p.headD 0 ≤ 7) (hmode : p.getD 1 0 = 1) : opCvCalibrate s c p =
    opDone 0 [] ((s.put CVc_CAL_bg_slice 0 (cvOf (p.headD 0)).val).put CVc_CAL_bg_busy 0 (cvOf (p.headD 0)).val) := by
  rw [opCvCalibrate, if_neg (by omega), if_pos hmode]

theorem opCvCalibrate_busy (hcv : p.headD 0 ≤ 7) (hmode : p.getD 1 0 = 0) (hnow : s.get CVc_CAL_full (cvOf (p.headD 0)).val = 1) :
    opCvCalibrate s c p = opDone 0x42 [] s := by
  rw [opCvCalibrate, if_neg (by omega), if_neg (by omega), if_pos (getB_of_one hnow)]

theorem cvCalibrate_requests (h : Serves s c 0x50 p) (hcv : p.headD 0 ≤ 7) (hmode : p.getD 1 0 = 0)
    (hnow : s.get CVc_CAL_full (cvOf (p.headD 0)).val = 0)
    (hfeed : feedsRunning s (cvOf (p.headD 0)) = false ∨ s.getB CVc_CFG_partner_en (cvOf (p.headD 0)).val = true) :
    ∃ t, exec (.cvCalibrate c p) s = .next t ∧ t.get CVc_CAL_full (cvOf (p.headD 0)).val = 1 := by
  obtain ⟨hwf, hfull⟩ := calRequest_shows (c := cvOf (p.headD 0)) h.1.2
  refine ⟨_, opRow_of_moves h (opCvCalibrate_full hcv hmode hnow hfeed) (calRequest_moves ⟨Nat.and_self _⟩ .refl) (by decide +kernel), ?_⟩
  rw [complete_get hwf (by decide +kernel), hfull]

theorem cvCalibrate_restarts (h : Serves s c 0x50 p) (hcv : p.headD 0 ≤ 7) (hmode : p.getD 1 0 = 1) :
    ∃ t, exec (.cvCalibrate c p) s = .next t ∧ t.get CVc_CAL_bg_slice (cvOf (p.headD 0)).val = 0 ∧
      t.get CVc_CAL_bg_busy (cvOf (p.headD 0)).val = 0 ∧
      t.get CVc_CAL_full (cvOf (p.headD 0)).val = s.get CVc_CAL_full (cvOf (p.headD 0)).val := by
  have hs := h.1.2
  have h1 : (s.put CVc_CAL_bg_slice 0 (cvOf (p.headD 0)).val).wf = true := State.put_wf hs
  have h2 : ((s.put CVc_CAL_bg_slice 0 (cvOf (p.headD 0)).val).put CVc_CAL_bg_busy 0 (cvOf (p.headD 0)).val).wf = true := State.put_wf h1
  refine ⟨_, opRow_of_done h (opCvCalibrate_background hcv hmode) id, ?_, ?_, ?_⟩
  · rw [complete_get h2 (by decide +kernel), State.get_put_ne h1 (by decide), State.get_put_same hs]
    rfl
  · rw [complete_get h2 (by decide +kernel), State.get_put_same h1]
    rfl
  · rw [complete_get h2 (by decide +kernel), State.get_put_ne h1 (by decide), State.get_put_ne hs (by decide)]

/-! ### CV_INJECT (R95, R96) -/

/-- The slot as the command sets it. -/
def injSet (s : State) (cv : Cv) (k : Fin 4) (p : List Nat) : State :=
  (((s.put CVc_INJk_input (p.getD 2 0) cv.val k.val).put CVc_INJk_log2n (p.getD 3 0) cv.val k.val).put CVc_INJk_shift (p.getD 4 0) cv.val
    k.val).putB CVc_INJk_urgent ((p.getD 5 0).testBit 0) cv.val k.val

/-- The slot that the command names. -/
def injSlot (p : List Nat) : Fin 4 := ⟨p.getD 1 0 % 4, Nat.mod_lt _ (by omega)⟩

theorem injSlot_val (h : p.getD 1 0 ≤ 3) : (injSlot p).val = p.getD 1 0 := Nat.mod_eq_of_lt (by omega)

/-- The parameters name a converter, a slot and a window. -/
theorem injNamed (hcv : p.headD 0 ≤ 7) (hk : p.getD 1 0 ≤ 3) (hok : windowOk (p.getD 4 0) (p.getD 3 0) (p.getD 2 0) = true) :
    (decide (7 < p.headD 0) || decide (3 < p.getD 1 0) || !windowOk (p.getD 4 0) (p.getD 3 0) (p.getD 2 0)) = false := by
  rw [hok, decide_eq_false (Nat.not_lt.mpr hcv), decide_eq_false (Nat.not_lt.mpr hk)]
  rfl

theorem opCvInject_waits (hcv : p.headD 0 ≤ 7) (hk : p.getD 1 0 ≤ 3) (hok : windowOk (p.getD 4 0) (p.getD 3 0) (p.getD 2 0) = true)
    (hstart : s.get CVc_INJk_start (cvOf (p.headD 0)).val (p.getD 1 0) = 0) : opCvInject s c p =
    opWait (injRequest (injSet s (cvOf (p.headD 0)) (injSlot p) p) (cvOf (p.headD 0)) (injSlot p)) c p := by
  rw [← injSlot_val hk] at hstart
  exact (if_neg (ne_true_of_eq_false (injNamed hcv hk hok))).trans (if_neg (ne_true_of_eq_false (getB_of_zero hstart)))

theorem opCvInject_busy (hcv : p.headD 0 ≤ 7) (hk : p.getD 1 0 ≤ 3) (hok : windowOk (p.getD 4 0) (p.getD 3 0) (p.getD 2 0) = true)
    (hstart : s.get CVc_INJk_start (cvOf (p.headD 0)).val (p.getD 1 0) = 1) : opCvInject s c p = opDone 0x32 [] s := by
  rw [← injSlot_val hk] at hstart
  exact (if_neg (ne_true_of_eq_false (injNamed hcv hk hok))).trans (if_pos (getB_of_one hstart))

theorem injSet_wf {k : Fin 4} (hs : s.wf = true) : (injSet s cv k p).wf = true := State.put_wf (State.put_wf (State.put_wf (State.put_wf hs)))

theorem injSet_input {k : Fin 4} (hs : s.wf = true) : (injSet s cv k p).get CVc_INJk_input cv.val k.val = p.getD 2 0 % 2 ^ CVc_INJk_input.width := by
  have h1 : (s.put CVc_INJk_input (p.getD 2 0) cv.val k.val).wf = true := State.put_wf hs
  have h2 : ((s.put CVc_INJk_input (p.getD 2 0) cv.val k.val).put CVc_INJk_log2n (p.getD 3 0) cv.val k.val).wf = true := State.put_wf h1
  rw [injSet, State.putB, State.get_put_ne (State.put_wf h2) (by decide), State.get_put_ne h2 (by decide), State.get_put_ne h1 (by decide),
    State.get_put_same hs]

/-- A request does not reach Faceplate's record. -/
theorem injRequest_fpl {k : Fin 4} : (injRequest s cv k).fpl = s.fpl := (injRequest_after_bit.part (p := .fpl) (by decide +kernel)).trans rfl

theorem cvInject_waits (h : Serves s c 0x51 p) (hcv : p.headD 0 ≤ 7) (hk : p.getD 1 0 ≤ 3)
    (hok : windowOk (p.getD 4 0) (p.getD 3 0) (p.getD 2 0) = true) (hstart : s.get CVc_INJk_start (cvOf (p.headD 0)).val (p.getD 1 0) = 0) :
    ∃ t, exec (.cvInject c p) s = .next t ∧ t.get CVc_INJk_start (cvOf (p.headD 0)).val (p.getD 1 0) = 1 ∧
      t.get CVc_INJk_input (cvOf (p.headD 0)).val (p.getD 1 0) = p.getD 2 0 % 2 ^ CVc_INJk_input.width ∧
      t.fpl.running = s.fpl.running ++ [⟨{ c with opcode := 0x51 }, p, false⟩] := by
  have hset : (injSet s (cvOf (p.headD 0)) (injSlot p) p).wf = true := injSet_wf h.1.2
  have hput : ((injSet s (cvOf (p.headD 0)) (injSlot p) p).put CVc_INJk_start 1 (cvOf (p.headD 0)).val (injSlot p).val).wf = true :=
    State.put_wf hset
  refine ⟨_, opRow_of_wait h (opCvInject_waits hcv hk hok hstart), ?_, ?_, ?_⟩
  · rw [← injSlot_val hk]
    exact (injRequest_after_bit.same hput _ _ _ (by decide +kernel)).trans (State.get_put_same hset)
  · rw [← injSlot_val hk]
    exact (injRequest_after_bit.same hput _ _ _ (by decide +kernel)).trans ((State.get_put_ne hset (by decide)).trans (injSet_input h.1.2))
  · exact congrArg (fun x : FplSt => x.running ++ [⟨{ c with opcode := 0x51 }, p, false⟩]) injRequest_fpl

/-! ### CV_OPEN_WIRE_TEST (R111, R112) -/

/-- The idle inputs of the mask are tested. -/
def owAll (s : State) (p : List Nat) : State := s.forL (owInputs p) (fun j s => owBegin s true j)

theorem opCvOpenWire_waits (h : (owInputs p).any (inputRuns s) = false) : opCvOpenWire s c p = opWait (owAll s p) c p :=
  if_neg (ne_true_of_eq_false h)

theorem opCvOpenWire_refused (h : (owInputs p).any (inputRuns s) = true) : opCvOpenWire s c p = opDone 0x22 [] s := if_pos h

theorem owAll_fpl : (owAll s p).fpl = s.fpl := by
  unfold owAll
  exact forL_keeps (fun u : State => u.fpl) fun _ _ => onIf_keeps (fun u => u.fpl) fun _ => rfl

theorem owAll_begins {i : Ain} (hi : i ∈ owInputs p) (hidle : s.cvb.cmps[i].ow = .idle) : (owAll s p).cvb.cmps[i].ow = .up :=
  forL_owBegin (ask := fun _ _ => true) ((List.nodup_finRange 48).filter _) hi rfl (fun _ _ _ => rfl) hidle

theorem cvOpenWireTest_begins {i : Ain} (h : Serves s c 0x52 p) (hrun : (owInputs p).any (inputRuns s) = false) (hi : i ∈ owInputs p)
    (hidle : s.cvb.cmps[i].ow = .idle) : ∃ t, exec (.cvOpenWireTest c p) s = .next t ∧ t.cvb.cmps[i].ow = .up ∧
      t.fpl.running = s.fpl.running ++ [⟨{ c with opcode := 0x52 }, p, false⟩] :=
  ⟨_, opRow_of_wait h (opCvOpenWire_waits hrun), owAll_begins hi hidle,
    congrArg (fun x : FplSt => x.running ++ [⟨{ c with opcode := 0x52 }, p, false⟩]) owAll_fpl⟩

end converter

/-! ### POS_HOME and POS_SET (R131) -/

section position
variable {n : Ch}

theorem opPosHome_arms (hsrc : srcCodeOf s (chOf c.chan) true = 1) (hz : s.getB PIFn_CTL_z_en (chOf c.chan).val = true) :
    opPosHome s c p = opDone 0 [] (posHome s (chOf c.chan)) := if_neg (by rw [hsrc, hz]; decide)

theorem opPosHome_refused (hsrc : srcCodeOf s (chOf c.chan) true ≠ 1) : opPosHome s c p = opDone 0x14 [] s := if_pos (by simp [hsrc])

theorem posHome_arms (h : Serves s c 0x60 p) (hsrc : srcCodeOf s (chOf c.chan) true = 1) (hz : s.getB PIFn_CTL_z_en (chOf c.chan).val = true) :
    ∃ t, exec (.posHome c p) s = .next t ∧ (t.pif (chOf c.chan)).homeArmed = true := by
  refine ⟨_, opRow_of_done h (opPosHome_arms (c := { c with opcode := 0x60 }) hsrc hz) id, ?_⟩
  rw [State.pif, complete_pos]
  exact congrArg Pif.homeArmed (vupd_same _ _ _)

theorem opPosSet_sets (hsrc : srcCodeOf s (chOf c.chan) true = 1) (hrev : leAt p 4 4 < s.get PIFn_GEOM_cpr (chOf c.chan).val) :
    opPosSet s c p = opDone 0 [] (posSet s (chOf c.chan) (leAt p 0 4) (leAt p 4 4)) := if_neg (by simp [hsrc, hrev])

theorem opPosSet_refused (h : srcCodeOf s (chOf c.chan) true ≠ 1 ∨ s.get PIFn_GEOM_cpr (chOf c.chan).val ≤ leAt p 4 4) :
    opPosSet s c p = opDone 0x14 [] s := if_pos (by simpa using h)

theorem posSet_shows {count rev : Nat} (hs : s.wf = true) (hrev : rev < s.get PIFn_GEOM_cpr n.val) : (posSet s n count rev).wf = true ∧
    (posSet s n count rev).get PIFn_ZSTAT_referenced n.val = 1 ∧ (posSet s n count rev).get PIFn_REVPOS_rev_pos n.val = rev % 2 ^ 24 := by
  have hr : rev % max 1 (s.get PIFn_GEOM_cpr n.val) = rev := Nat.mod_eq_of_lt (lt_max_of_lt_right hrev)
  have hcount : (s.modPif n (fun p => { p with count := count % 2 ^ 32 })).wf = true := hs
  have hput : ((s.modPif n (fun p => { p with count := count % 2 ^ 32 })).put PIFn_REVPOS_rev_pos rev n.val).wf = true := State.put_wf hcount
  have hsync := pifSync_moves (x1 := n) ⟨Nat.and_self _⟩ (.refl (a := (s.modPif n (fun p => { p with count := count % 2 ^ 32 })).put
    PIFn_REVPOS_rev_pos rev n.val))
  have habz : (abzSet s n count rev).wf = true := hsync.wf hput
  unfold posSet
  rw [hr]
  refine ⟨State.put_wf habz, State.get_put_same habz, (State.get_put_ne habz (by decide)).trans ?_⟩
  exact (hsync.same hput PIFn_REVPOS_rev_pos n.val 0 (by decide +kernel)).trans (State.get_put_same hcount)

theorem posSet_sets (h : Serves s c 0x61 p) (hsrc : srcCodeOf s (chOf c.chan) true = 1)
    (hrev : leAt p 4 4 < s.get PIFn_GEOM_cpr (chOf c.chan).val) : ∃ t, exec (.posSet c p) s = .next t ∧
      t.get PIFn_ZSTAT_referenced (chOf c.chan).val = 1 ∧ t.get PIFn_REVPOS_rev_pos (chOf c.chan).val = leAt p 4 4 % 2 ^ 24 := by
  obtain ⟨hwf, href, hpos⟩ := posSet_shows (n := chOf c.chan) (count := leAt p 0 4) h.1.2 hrev
  refine ⟨_, opRow_of_moves h (opPosSet_sets (c := { c with opcode := 0x61 }) hsrc hrev) (posSet_moves ⟨Nat.and_self _⟩ .refl)
    (by decide +kernel), ?_, ?_⟩
  · rw [complete_get hwf (by decide +kernel), href]
  · rw [complete_get hwf (by decide +kernel), hpos]

end position

end commands

end Sys2Proof.Proofs
end

section
/-! PROOF. The MP's protection and meter commands, and all of the family's commands (O32). -/

namespace Sys2Proof.Proofs

open Sys2Proof Sys2Proof.Machine Sys2Proof.Safety

section commands
variable {s t : State} {c : Ctx} {p : List Nat} {k crc : Nat} {b : List Nat}

/-! ### The last fragment of a block (R395) -/

theorem leBytes_four (v : Nat) : leBytes 4 v = [v % 256, v / 256 % 256, v / 256 ^ 2 % 256, v / 256 ^ 3 % 256] := by
  simp [leBytes, List.range_succ]

theorem leNat_leBytes_four (h : crc < 2 ^ 32) : leNat (leBytes 4 crc) = crc := by
  rw [leBytes_four]
  simp only [leNat, List.foldr_cons, List.foldr_nil]
  omega

/-- A block is followed by its CRC. -/
theorem leAt_crc (h : crc < 2 ^ 32) : leAt (b ++ leBytes 4 crc) b.length 4 = crc := by
  have hlen : (leBytes 4 crc).length = 4 := by rw [leBytes_four]; rfl
  rw [leAt, List.drop_left, List.take_of_length_le hlen.le, leNat_leBytes_four h]

/-- The collection of a queue ends. -/
def asmDropped (s : State) (q : Qp) : State := s.modQp q (fun x => { x with asm := none })

theorem asmDropped_asm {q : Qp} : (asmDropped s q).fpl.qps[q].asm = none := congrArg QpSt.asm (vupd_same s.fpl.qps q _)

section fragment
variable {fin : State → List Nat → Nat → OpRes}

/-- The first fragment is the last: the block and its CRC are handed on. -/
theorem opFragment_single (hasm : s.fpl.qps[c.q].asm = none) (hoff : leAt p 2 2 = 0) (hlast : (p.getD 4 0).testBit 0 = true)
    (hbytes : p.drop 8 = b ++ leBytes 4 crc) (hlen : b.length = leAt p 0 2) (hcrc : crc < 2 ^ 32) :
    opFragment s c p fin = fin (asmDropped s c.q) b crc := by
  have hd : (b ++ leBytes 4 crc).length = leAt p 0 2 + 4 := by rw [List.length_append, hlen, leBytes_four]; rfl
  simp only [opFragment, hasm, hoff, hlast, hbytes]
  simp only [Option.map_none, Option.getD_none, Option.any_none, List.nil_append, bne_self_eq_false, Bool.or_false, Bool.not_true, hd,
    Bool.false_eq_true, if_false, ← hlen, List.take_left', leAt_crc hcrc]
  rfl

/-- The first fragment of several begins the collection. -/
theorem opFragment_first (hasm : s.fpl.qps[c.q].asm = none) (hoff : leAt p 2 2 = 0) (hmore : (p.getD 4 0).testBit 0 = false) :
    opFragment s c p fin = opDone 0 [] (s.modQp c.q (fun x => { x with asm := some (c.opcode, leAt p 0 2, p.drop 8) })) := by
  simp only [opFragment, hasm, hoff, hmore]
  simp

end fragment

/-! ### PRT_CONFIG (R326) -/

/-- A staged block is refused, with its event and its source. -/
def stageRefused (s : State) (st : Nat) : State := (s.logEv 0x4805 [st]).raise 0x23 st

theorem stageBlock_accepted (hcrc : crc32c b = crc) (hok : blockOk b = true) (hquiet : blockQuiet s b = true) :
    stageBlock s b crc = (0, s.modBdg (fun x => { x with staged := some (b, crc) })) := by
  simp [stageBlock, hcrc, hok, hquiet]

theorem stageBlock_invalid (hcrc : crc32c b = crc) (hok : blockOk b = false) : stageBlock s b crc = (0x14, stageRefused s 0x14) := by
  simp [stageBlock, hcrc, hok, stageRefused]

theorem stageBlock_loud (hcrc : crc32c b = crc) (hok : blockOk b = true) (hquiet : blockQuiet s b = false) :
    stageBlock s b crc = (0x22, stageRefused s 0x22) := by
  simp [stageBlock, hcrc, hok, hquiet, stageRefused]

theorem isStandby_eq : isStandby s = true ↔ s.get TLS_STAT_role = 2 := by simp [isStandby]

/-- Where the unit is not STANDBY, a whole block is staged, or refused with a status. -/
theorem opPrtConfig_single (hrole : s.get TLS_STAT_role ≠ 2) (hasm : s.fpl.qps[c.q].asm = none) (hoff : leAt p 2 2 = 0)
    (hlast : (p.getD 4 0).testBit 0 = true) (hbytes : p.drop 8 = b ++ leBytes 4 crc) (hlen : b.length = leAt p 0 2) (hcrc : crc < 2 ^ 32)
    {r : Nat × State} (hr : stageBlock (asmDropped s c.q) b crc = r) :
    opPrtConfig s c p = if r.1 = 0 then opWait r.2 c p else opDone r.1 [] r.2 := by
  rw [opPrtConfig, if_neg (mt isStandby_eq.mp hrole), opFragment_single hasm hoff hlast hbytes hlen hcrc, hr]

/-- What a refused block leaves: the collection ended, the block in force as it was, and the source raised. -/
theorem prtConfig_refused {st : Nat} (h : Serves s c 0x70 p)
    (hf : opPrtConfig s { c with opcode := 0x70 } p = opDone st [] (stageRefused (asmDropped s c.q) st)) :
    ∃ t, exec (.prtConfig c p) s = .next t ∧ t.bdg = s.bdg ∧ t.fpl.qps[c.q].asm = none ∧ t.inflight = s.inflight ++ [(0x23, st)] := by
  refine ⟨_, opRow_of_done h hf fun hst => ?_, ?_, ?_, ?_⟩
  · rw [stageRefused, State.raise_pwr, State.logEv_pwr] at hst
    exact hst
  · rw [complete_bdg, stageRefused, State.raise_bdg, State.logEv_bdg]
    rfl
  · rw [complete_asm, stageRefused, State.raise_fpl, State.logEv_fpl, asmDropped_asm]
  · rw [complete_inflight, stageRefused, State.raise_inflight, State.logEv_inflight]
    rfl

theorem prtConfig_whole (h : Serves s c 0x70 p) (hrole : s.get TLS_STAT_role ≠ 2) (hasm : s.fpl.qps[c.q].asm = none) (hoff : leAt p 2 2 = 0)
    (hlast : (p.getD 4 0).testBit 0 = true) (hbytes : p.drop 8 = b ++ leBytes 4 crc) (hlen : b.length = leAt p 0 2) (hcrc : crc < 2 ^ 32)
    (hsum : crc32c b = crc) : ∃ t, exec (.prtConfig c p) s = .next t ∧ t.bdg.block = s.bdg.block ∧ t.fpl.qps[c.q].asm = none ∧
      (blockOk b = true → blockQuiet s b = true →
        t.bdg.staged = some (b, crc) ∧ t.fpl.running = s.fpl.running ++ [⟨{ c with opcode := 0x70 }, p, false⟩]) ∧
      (blockOk b = false → t.bdg.staged = s.bdg.staged ∧ t.inflight = s.inflight ++ [(0x23, 0x14)]) := by
  have hop := fun r hr => opPrtConfig_single (c := { c with opcode := 0x70 }) (r := r) hrole hasm hoff hlast hbytes hlen hcrc hr
  have hquietDrop : blockQuiet (asmDropped s c.q) b = blockQuiet s b := rfl
  cases hok : blockOk b with
  | false =>
    obtain ⟨t, hexec, hbdg, hdrop, hraised⟩ := prtConfig_refused h (hop _ (stageBlock_invalid hsum hok))
    exact ⟨t, hexec, by rw [hbdg], hdrop, fun h => absurd h (by decide), fun _ => ⟨by rw [hbdg], hraised⟩⟩
  | true =>
    cases hquiet : blockQuiet s b with
    | false =>
      obtain ⟨t, hexec, hbdg, hdrop, -⟩ := prtConfig_refused h (hop _ (stageBlock_loud hsum hok (hquietDrop.trans hquiet)))
      exact ⟨t, hexec, by rw [hbdg], hdrop, fun _ h => absurd h (by decide), fun h => absurd h (by decide)⟩
    | true =>
      have hstage := stageBlock_accepted (s := asmDropped s c.q) hsum hok (hquietDrop.trans hquiet)
      exact ⟨_, opRow_of_wait h (hop _ hstage), rfl, asmDropped_asm, fun _ _ => ⟨rfl, rfl⟩, fun h => absurd h (by decide)⟩

theorem prtConfig_first (h : Serves s c 0x70 p) (hrole : s.get TLS_STAT_role ≠ 2) (hasm : s.fpl.qps[c.q].asm = none) (hoff : leAt p 2 2 = 0)
    (hmore : (p.getD 4 0).testBit 0 = false) : ∃ t, exec (.prtConfig c p) s = .next t ∧
      t.fpl.qps[c.q].asm = some (0x70, leAt p 0 2, p.drop 8) ∧ t.bdg = s.bdg := by
  have hop : opPrtConfig s { c with opcode := 0x70 } p =
      opDone 0 [] (s.modQp c.q (fun x => { x with asm := some (0x70, leAt p 0 2, p.drop 8) })) := by
    rw [opPrtConfig, if_neg (mt isStandby_eq.mp hrole)]
    exact opFragment_first (c := { c with opcode := 0x70 }) hasm hoff hmore
  refine ⟨_, opRow_of_done h hop id, ?_, ?_⟩
  · rw [complete_asm]
    exact congrArg QpSt.asm (vupd_same s.fpl.qps c.q _)
  · rw [complete_bdg]
    rfl

/-! ### PRT_TEST (R331, R332) -/

theorem prtTest_raises (h : Serves s c 0x71 [1, k]) (hk : srcDefined k = true) :
    ∃ t, exec (.prtTest c [1, k]) s = .next t ∧ t.inflight = s.inflight ++ [(k, 0)] :=
  ⟨_, opRow_of_done h (if_pos hk) id, complete_inflight⟩

/-- One output pulses low. -/
def prtPulsed (s : State) (k : Nat) : State := (safeEnLow s k).modBdg (fun b => { b with pulse := some k })

theorem opPrtTest_pulses (hk : k ≤ 1) (hrun : (List.range 4).any s.chRuns = false) (hpulse : s.bdg.pulse = none) :
    opPrtTest s c [2, k] = opDone 0 [] (prtPulsed s k) := by
  have hbusy : ((List.range 4).any s.chRuns || s.bdg.pulse.isSome) = false := by rw [hrun, hpulse]; rfl
  exact (if_neg (Nat.not_lt.mpr hk)).trans (if_neg (ne_true_of_eq_false hbusy))

theorem prtTest_pulses (h : Serves s c 0x71 [2, k]) (hk : k ≤ 1) (hrun : (List.range 4).any s.chRuns = false) (hpulse : s.bdg.pulse = none) :
    ∃ t, exec (.prtTest c [2, k]) s = .next t ∧ t.bdg.pulse = some k ∧
      t.get (if k = 0 then BDG_STATE_safe_en0 else BDG_STATE_safe_en1) = 0 ∧ t.inflight = s.inflight := by
  have hlow : (prtPulsed s k).wf = true := State.put_wf h.1.2
  refine ⟨_, opRow_of_done h (opPrtTest_pulses hk hrun hpulse) id, ?_, ?_, complete_inflight⟩
  · rw [complete_bdg]
    rfl
  · rw [complete_get hlow (by split <;> decide +kernel)]
    exact (State.get_put_same h.1.2).trans (Nat.zero_mod _)

/-! ### The meter (R430, R434) -/

theorem opLedgerFetch_one {rec : List Nat} (hn : p.getD 4 0 = 1)
    (hrec : s.mtr.records.find? (fun r => r.1 == leAt p 0 4 % 2 ^ 32) = some (leAt p 0 4 % 2 ^ 32, rec)) :
    opLedgerFetch s c p = opDone 0 rec s := by
  have hl : (List.range (p.getD 4 0)).map (fun i => s.mtr.records.find? (fun r => r.1 == (leAt p 0 4 + i) % 2 ^ 32)) =
      [some (leAt p 0 4 % 2 ^ 32, rec)] := by
    rw [hn]
    exact congrArg (fun x => [x]) hrec
  unfold opLedgerFetch
  extract_lets k l
  have hl' : l = [some (leAt p 0 4 % 2 ^ 32, rec)] := hl
  have hk : k = 1 := hn
  simp [hl', hk]

theorem opLedgerFetch_refused (h : p.getD 4 0 = 0 ∨ 3 < p.getD 4 0) : opLedgerFetch s c p = opDone 0x14 [] s :=
  if_pos (by rcases h with h | h <;> simp only [h, true_or, or_true])

/-- A gain and an offset are set. -/
def mtrSet (s : State) (gain ofs : Fld) (p : List Nat) : State := (s.put gain (leAt p 4 4)).putS ofs (ofField 32 (leAt p 8 4))

/-- A changed calibration is an event and marks the record (R430). -/
def mtrNoted (s u : State) : State :=
  u.onIf (mtrWatched.any (fun f => u.get f != s.get f)) (fun s => (mtrFlag s 4).logEv 0x7804)

theorem opMtrCal_volts (h0 : p.headD 0 = 0) (hlo : -32768 ≤ ofField 32 (leAt p 8 4)) (hhi : ofField 32 (leAt p 8 4) ≤ 32767) :
    opMtrCal s c p = opDone 0 [] (mtrNoted s (mtrSet s MTR_VGAIN_gain MTR_OFS_v_ofs p)) := by
  rw [opMtrCal, if_neg (by omega), if_pos h0]
  rfl

theorem opMtrCal_amps (h1 : p.headD 0 = 1) (hlo : -32768 ≤ ofField 32 (leAt p 8 4)) (hhi : ofField 32 (leAt p 8 4) ≤ 32767) :
    opMtrCal s c p = opDone 0 [] (mtrNoted s (mtrSet s MTR_IGAIN_gain MTR_OFS_i_ofs p)) := by
  rw [opMtrCal, if_neg (by omega), if_neg (by omega)]
  rfl

theorem opMtrCal_refused (h : 1 < p.headD 0) : opMtrCal s c p = opDone 0x14 [] s := if_pos (.inl h)

section calibration
variable {gain ofs other : Fld}

theorem mtrNoted_moves {u : State} : Moves (maskOf evFlds (.mtr :: evParts)) u (mtrNoted s u) :=
  State.onIf_moves .refl fun _ h => State.logEv_moves ⟨by decide +kernel⟩ (mtrFlag_moves ⟨by decide +kernel⟩ h)

/-- The gain and the offset that the command names take its values; another field stays. -/
theorem mtrCal_shows (h : Serves s c 0x82 p)
    (hop : opMtrCal s { c with opcode := 0x82 } p = opDone 0 [] (mtrNoted s (mtrSet s gain ofs p)))
    (hlo : -32768 ≤ ofField 32 (leAt p 8 4)) (hhi : ofField 32 (leAt p 8 4) ≤ 32767) (hw : ofs.width = 16)
    (hids : gain.id ≠ ofs.id ∧ other.id ≠ ofs.id ∧ other.id ≠ gain.id)
    (hquiet : ∀ f ∈ [gain, ofs, other], touches (maskOf evFlds (.mtr :: evParts)) f = false ∧ touches (maskOf
      (evFlds ++ [FPL_STAT_cpl_drop, QPq_CQ_tail, QPq_CQ_head]) (evParts ++ [.sram, .ueKnown, .writebacks, .fpl, .net])) f = false) :
    ∃ t, exec (.mtrCal c p) s = .next t ∧ t.get gain = leAt p 4 4 % 2 ^ gain.width ∧ t.getS ofs = ofField 32 (leAt p 8 4) ∧
      t.get other = s.get other := by
  have hs := h.1.2
  obtain ⟨hgo, hoo, hog⟩ := hids
  have h1 : (s.put gain (leAt p 4 4)).wf = true := State.put_wf hs
  have h2 : (mtrSet s gain ofs p).wf = true := State.put_wf h1
  have hkeep : ∀ f ∈ [gain, ofs, other], (complete (mtrNoted s (mtrSet s gain ofs p)) { c with opcode := 0x82 } 0 []).get f =
      (mtrSet s gain ofs p).get f := fun f hf => by
    rw [complete_get (mtrNoted_moves.wf h2) (hquiet f hf).2, mtrNoted_moves.get h2 (by decide +kernel) (hquiet f hf).1]
  refine ⟨_, opRow_of_done h hop fun hst => ?_, ?_, ?_, ?_⟩
  · have hpwr : (mtrNoted s (mtrSet s gain ofs p)).pwr = s.pwr := mtrNoted_moves.part (p := .pwr) (by decide +kernel)
    exact hpwr ▸ hst
  · rw [hkeep gain (by simp), mtrSet, State.putS, State.get_put_ne h1 hgo, State.get_put_same hs]
  · rw [State.getS, hkeep ofs (by simp)]
    exact putS_getS h1 hw (by omega) (by omega)
  · rw [hkeep other (by simp), mtrSet, State.putS, State.get_put_ne h1 hoo, State.get_put_ne hs hog]

end calibration

end commands

/-- Settles O32. -/
theorem converterAndMeterCommands : Obligations.ConverterAndMeterCommands := by
  intro s c p i k crc b rec _
  refine ⟨cvCalibrate_requests, cvCalibrate_restarts, fun h hcv hmode hnow => ⟨_, opRow_of_answer h (opCvCalibrate_busy hcv hmode hnow), rfl⟩,
    cvInject_waits, fun h hcv hk hok hstart => ⟨_, opRow_of_answer h (opCvInject_busy hcv hk hok hstart), rfl⟩,
    cvOpenWireTest_begins, fun h hrun => ⟨_, opRow_of_answer h (opCvOpenWire_refused hrun), rfl⟩,
    posHome_arms, fun h hsrc => ⟨_, opRow_of_answer h (opPosHome_refused (c := { c with opcode := 0x60 }) hsrc), rfl⟩,
    posSet_sets, fun h hbad => ⟨_, opRow_of_answer h (opPosSet_refused (c := { c with opcode := 0x61 }) hbad), rfl⟩,
    prtConfig_whole, prtConfig_first, fun h hrole => ⟨_, opRow_of_answer h (if_pos (isStandby_eq.mpr hrole)), rfl⟩,
    fun h hp hk => ?_, fun h hp hk hrun hpulse => ?_, fun h hp hk => ?_, fun h hp => ?_,
    fun h => ⟨_, opRow_of_answer h rfl, rfl⟩, fun h hn hrec => ⟨_, opRow_of_answer h (opLedgerFetch_one hn hrec), rfl⟩,
    fun h hn => ⟨_, opRow_of_answer h (opLedgerFetch_refused hn), rfl⟩,
    fun h h0 hlo hhi => mtrCal_shows h (opMtrCal_volts h0 hlo hhi) hlo hhi rfl (by decide) (by decide +kernel),
    fun h h1 hlo hhi => mtrCal_shows h (opMtrCal_amps h1 hlo hhi) hlo hhi rfl (by decide) (by decide +kernel),
    fun h hbad => ⟨_, opRow_of_answer h (opMtrCal_refused hbad), rfl⟩⟩
  · subst hp
    exact prtTest_raises h hk
  · subst hp
    exact prtTest_pulses h hk hrun hpulse
  · subst hp
    exact ⟨_, opRow_of_answer h (by simp [opPrtTest, hk]), rfl⟩
  · exact ⟨_, opRow_of_answer h (by simp only [opPrtTest, hp]), rfl⟩

end Sys2Proof.Proofs
end

section
/-! PROOF. The windows of the converters (O8). -/

namespace Sys2Proof.Proofs

open Sys2Proof Sys2Proof.Machine Sys2Proof.Safety

/-- The machine after reset, but for a result register that holds more than its 24 bits, and for a window of the same step that was not
taken. -/
def wideResult : State :=
  { State.reset.modWin 0 0 (fun w => { w with st := .untaken }) with
    regs := sput 0 State.reset.regs (SEQn_RESk_value.key 0 0) (2 ^ 24) }

theorem wideResult_ready : Ready wideResult := ⟨rfl, by decide +kernel⟩

/-- The result that is kept is written again, by its field's width. -/
theorem wideResult_narrowed : (windowResult wideResult 0 0 []).get SEQn_RESk_value ≠ wideResult.get SEQn_RESk_value := by decide +kernel

/-- Refutes O8: a window that was not taken keeps its result only where that fits its field. `Ready` admits a stored value wider than the
24 bits of `SEQn_RESk.value`, which no write leaves behind, and the result's register is written again with 24 bits of it. -/
theorem not_windows : ¬ Obligations.Windows := by
  intro h
  obtain ⟨-, -, -, huntaken, -⟩ := h wideResult 0 0 wideResult_ready
  obtain ⟨t, hexec, hvalue, -⟩ := huntaken [] rfl rfl
  have ht : windowResult wideResult 0 0 [] = t := by
    injection (live_run (f := fun s => windowResult s 0 0 []) wideResult wideResult_ready.1).symm.trans hexec
  exact wideResult_narrowed (by rw [ht]; exact hvalue)

end Sys2Proof.Proofs
end

end

/-! # Proofs: the family of spec/04_position_and_speed.md -/

section
/- The declarations are elaborated one after the other, so that no thread waits for the kernel with a proof in hand. -/
set_option Elab.async false

section
/-! PROOF. What follows an edge, a sample or a fault of a position interface: which fields it reaches, and what stays of the interface. -/

namespace Sys2Proof.Proofs

open Sys2Proof Sys2Proof.Machine Sys2Proof.Safety

/-! ### The interfaces after a change of one -/

section interfaces
variable {s t : State} {n : Ch}

@[simp] theorem modPif_pif {f : Pif → Pif} : (s.modPif n f).pif n = f (s.pif n) := vupd_same _ _ _

@[simp] theorem modPif_now {f : Pif → Pif} : (s.modPif n f).now = s.now := rfl

@[simp] theorem modPif_srcUsed {m : Ch} {f : Pif → Pif} {code : Nat} : srcUsed (s.modPif n f) m code = srcUsed s m code := rfl

theorem modPif_modPif {f g : Pif → Pif} : (s.modPif n f).modPif n g = s.modPif n (fun p => g (f p)) := by
  simp [State.modPif, vupd]

theorem modPif_congr {f g : Pif → Pif} (h : f (s.pif n) = g (s.pif n)) : s.modPif n f = s.modPif n g := by
  have hset : vupd s.pos.pifs n f = vupd s.pos.pifs n g := congrArg (fun p => s.pos.pifs.set n.val p n.isLt) h
  rw [State.modPif, hset, ← State.modPif]

/-- The interfaces are part of the state's positions. -/
theorem pif_of_pos (h : t.pos = s.pos) : t.pif n = s.pif n := congrArg (fun p : PosSt => p.pifs[n]) h

end interfaces

/-- A saturating counter counts up to its field's last value (R524). -/
theorem get_incSat {s : State} {f : Fld} {i j : Nat} (hs : s.wf = true) :
    (s.incSat f i j).get f i j = min (s.get f i j + 1) (2 ^ f.width - 1) := by
  have hlast : 2 ^ f.width - 1 < 2 ^ f.width := Nat.sub_one_lt_of_lt (Nat.two_pow_pos _)
  exact (State.get_put_same hs).trans (Nat.mod_eq_of_lt (Nat.lt_of_le_of_lt (Nat.min_le_right _ _) hlast))

/-! ### The fields that follow an edge -/

/-- What follows an accepted edge, a sample or a fault of an interface: the record of a latch, the interrupts, the divided output, and the
sequencers that the source triggers (R147 to R156). -/
def edgeFlds : List Fld := evFlds ++ [PIFn_POS_count, PIFn_SPD_speed, PIFn_ANGLE_angle, PIFn_STS_LO_ts, PIFn_STS_HI_ts, PIFn_STAT_pos_lost,
  PIFn_STAT_active, PIFn_STAT_dir, PIFn_STAT_spd_valid, PIFn_IRQ_fallback, PIFn_IRQ_fault, PIFn_IRQ_index, PIFn_IRQ_dir_chg, ENCO_STAT_lag,
  CVc_STAT_cur_input, CVc_STAT_state, CVc_CAL_bg_busy, CVc_CAL_ok, CVc_CAL_bg_slice, CVc_TRIM_gain, CVc_TRIM_offset, SEQn_OVR_count,
  SEQn_STAT_queued, SEQn_STAT_running, SEQn_TRIG_TS_LO_ts, SEQn_TRIG_TS_HI_ts]

/-- The mask of these fields, and of the parts of the state that go with them. -/
def edgeMask : Nat := maskOf edgeFlds (evParts ++ [.inflight, .pos, .chuck, .cvb])

/-! ### What a latch leaves of an interface (R147) -/

/-- An interface but for the record of a latch and the marks that a latch sets. -/
def decoded (p : Pif) : Pif := setFresh { p with record := none, latch := none } []

/-- From `s` to `t` interface n has decoded nothing, no fault source has been taken back, and a replay goes on. -/
structure Reports (n : Ch) (s t : State) : Prop where
  sources : decoded (t.pif n) = decoded (s.pif n)
  sent : s.inflight ⊆ t.inflight
  replay : t.owl.replay = s.owl.replay

namespace Reports
variable {n : Ch} {s t u : State}

theorem refl : Reports n s s := ⟨rfl, List.Subset.refl _, rfl⟩

theorem trans (h : Reports n s t) (k : Reports n t u) : Reports n s u :=
  ⟨k.sources.trans h.sources, List.Subset.trans h.sent k.sent, k.replay.trans h.replay⟩

theorem onIf {f : State → State} {c : Bool} (h : Reports n s (f s)) : Reports n s (s.onIf c f) := by
  cases c
  · exact refl
  · exact h

theorem ite {c : Prop} [Decidable c] (h : Reports n s t) (k : Reports n s u) : Reports n s (if c then t else u) := by
  split
  · exact h
  · exact k

/-- A chain of updates outside these parts. -/
theorem of_moves {m : Nat} (h : Moves m s t) (hm : m &&& 0x404800 = 0) : Reports n s t := by
  have hbit : ∀ k, (0x404800 : Nat).testBit k = true → m.testBit k = false := fun k hk => by
    have e := congrArg (fun x => x.testBit k) hm
    simpa [Nat.testBit_and, hk] using e
  have hpos : t.pos = s.pos := h.part (p := .pos) (hbit 14 (by decide))
  have hsent : t.inflight = s.inflight := h.part (p := .inflight) (hbit 11 (by decide))
  have howl : t.owl = s.owl := h.part (p := .owl) (hbit 22 (by decide))
  exact ⟨congrArg decoded (pif_of_pos hpos), hsent ▸ List.Subset.refl _, congrArg OwlSt.replay howl⟩

end Reports

section reports
variable {s : State} {n : Ch}

theorem put_reports {f : Fld} {v i j : Nat} : Reports n s (s.put f v i j) := ⟨rfl, List.Subset.refl _, rfl⟩

theorem modPif_reports {f : Pif → Pif} (h : ∀ p, decoded (f p) = decoded p) : Reports n s (s.modPif n f) :=
  ⟨(congrArg decoded modPif_pif).trans (h _), List.Subset.refl _, rfl⟩

theorem pifEv_reports {c : Nat} {l : List Nat} : Reports n s (pifEv s n c l) :=
  ⟨congrArg decoded (pif_of_pos (State.logEv_pos _ _ _)), by rw [pifEv, State.logEv_inflight]; exact List.Subset.refl _,
    State.logEv_replay _ _ _⟩

theorem pifIrq_reports {b : Nat} : Reports n s (pifIrq s n b) :=
  .of_moves (pifIrq_moves ⟨Nat.and_self _⟩ .refl) (by decide +kernel)

theorem pifSync_reports : Reports n s (pifSync s n) := .of_moves (pifSync_moves ⟨Nat.and_self _⟩ .refl) (by decide +kernel)

theorem deliverRec_reports {r : PosRec} : Reports n s (deliverRec s n r) :=
  .of_moves (deliverRec_moves ⟨Nat.and_self _⟩ .refl) (by decide +kernel)

theorem raise_reports {src x : Nat} : Reports n s (s.raise src x) := ⟨rfl, List.subset_append_left _ _, rfl⟩

theorem posLostCheck_reports : Reports n s (posLostCheck s n) := by
  unfold posLostCheck
  exact Reports.ite (put_reports.trans (pifEv_reports.trans raise_reports)) .refl

/-- The angle and the TS of the record `r` are shown. -/
def shown (s : State) (n : Ch) (r : PosRec) : State :=
  (s.put PIFn_ANGLE_angle r.ang n.val).put64 PIFn_STS_LO_ts PIFn_STS_HI_ts r.ts n.val

/-- The record `r` is shown, kept and delivered (R147). -/
def recorded (s : State) (n : Ch) (r : PosRec) : State :=
  deliverRec ((shown s n r).modPif n (fun p => setFresh { p with record := some r, latch := some (s.now, freshOf p) } [])) n r

/-- A latch chooses the active source (R150, R151) and records what that source says. -/
theorem latchRecord_records {m : Nat} {a : State} (hm : Sub edgeMask m) (h : Moves m a s) :
    ∃ u, Reports n s u ∧ Moves m a u ∧ latchRecord s n = recorded u n (formRecord u n) := by
  refine ⟨_, ?_, ?_, rfl⟩
  · refine Reports.trans ?_ pifSync_reports
    refine Reports.trans ?_ posLostCheck_reports
    exact Reports.trans (Reports.onIf (put_reports.trans (pifEv_reports.trans pifIrq_reports))) (Reports.onIf put_reports)
  · refine pifSync_moves (hm.up (by decide +kernel)) (posLostCheck_moves (hm.up (by decide +kernel)) ?_)
    refine State.onIf_moves (State.onIf_moves h fun _ k => ?_) fun _ k => State.put_moves (.of hm (by decide +kernel)) k
    exact pifIrq_moves (hm.up (by decide +kernel)) (pifEv_moves (hm.up (by decide +kernel))
      (State.put_moves (.of hm (by decide +kernel)) k))

theorem recorded_reports {r : PosRec} : Reports n s (recorded s n r) := by
  refine Reports.trans ?_ deliverRec_reports
  refine Reports.trans ?_ (modPif_reports fun _ => rfl)
  exact put_reports.trans (put_reports.trans put_reports)

theorem latchRecord_reports : Reports n s (latchRecord s n) := by
  obtain ⟨u, hu, -, he⟩ := latchRecord_records (s := s) (n := n) ⟨Nat.and_self _⟩ .refl
  exact he ▸ hu.trans recorded_reports

theorem relatch_reports {code : Nat} : Reports n s (relatch s n code) := by
  unfold relatch
  split
  · split
    · refine Reports.trans ?_ latchRecord_reports
      refine Reports.trans ?_ (modPif_reports fun _ => rfl)
      exact ⟨rfl, List.Subset.refl _, rfl⟩
    · exact .refl
  · exact .refl

end reports

/-! ### The divided output (R154) -/

section output
variable {s : State} {n m : Ch}

theorem lagging_reports : Reports n s ((s.put ENCO_STAT_lag 1).logRate 0x180C 0 (10 * tkMs)) :=
  put_reports.trans ⟨congrArg decoded (pif_of_pos (State.logRate_pos _ _ _ _ _)),
    by rw [State.logRate_inflight]; exact List.Subset.refl _, State.logRate_replay _ _ _ _ _⟩

theorem encoStep_reports : Reports n s (encoStep s) := by
  unfold encoStep
  refine Reports.ite .refl (Reports.ite lagging_reports ?_)
  refine Reports.trans ?_ (Reports.onIf lagging_reports)
  exact ⟨rfl, List.Subset.refl _, rfl⟩

theorem encoFollow_reports : Reports n s (encoFollow s m) := by
  unfold encoFollow
  refine Reports.ite (Reports.trans ?_ encoStep_reports) .refl
  exact ⟨rfl, List.Subset.refl _, rfl⟩

end output

/-! ### Encoder faults (R149) -/

section fault
variable {s : State} {n : Ch} {code : Nat} {bit : Fld}

/-- An encoder fault is under way to Badger, and nothing that the interface has decoded is lost. -/
theorem encFault_reports : Reports n s (encFault s n code bit) :=
  (put_reports.trans (put_reports.trans (pifEv_reports.trans raise_reports))).trans
    (pifIrq_reports.trans (posLostCheck_reports.trans relatch_reports))

theorem encFault_sends : (chSrc n.val 5, code) ∈ (encFault s n code bit).inflight :=
  (pifIrq_reports.trans (posLostCheck_reports.trans (relatch_reports (n := n)))).sent (List.mem_append_right _ (List.mem_singleton_self _))

/-- The fault's bit and its source's are set. -/
def faultMarked (s : State) (n : Ch) (code : Nat) (bit : Fld) : State :=
  (s.put bit 1 n.val).put (if isPri s n code then PIFn_FSTAT_pri_fault else PIFn_FSTAT_sec_fault) 1 n.val

theorem encFault_follows : Moves edgeMask (faultMarked s n code bit) (encFault s n code bit) :=
  relatch_moves ⟨by decide +kernel⟩ (posLostCheck_moves ⟨by decide +kernel⟩ (pifIrq_moves ⟨by decide +kernel⟩
    (State.raise_moves ⟨by decide +kernel⟩ (pifEv_moves ⟨by decide +kernel⟩ .refl))))

/-- A field that neither marks a source as faulty nor follows an edge. -/
def apart (f : Fld) : Bool :=
  f.id != PIFn_FSTAT_pri_fault.id && f.id != PIFn_FSTAT_sec_fault.id && !(edgeMask.testBit 0 || touches edgeMask f)

theorem encFault_get (hs : s.wf = true) {f : Fld} {i j : Nat} (hf : apart f = true) :
    (encFault s n code bit).get f i j = (s.put bit 1 n.val).get f i j := by
  simp only [apart, Bool.and_eq_true, bne_iff_ne, ne_eq, Bool.not_eq_true'] at hf
  obtain ⟨⟨hpri, hsec⟩, hmask⟩ := hf
  have hput : (s.put bit 1 n.val).wf = true := State.put_wf hs
  rw [encFault_follows.same (State.put_wf hput) f i j hmask, faultMarked]
  split
  · exact State.get_put_ne hput hpri
  · exact State.get_put_ne hput hsec

theorem encFault_shows (hs : s.wf = true) (hw : bit.width = 1) (hbit : apart bit = true) : (encFault s n code bit).get bit n.val = 1 := by
  rw [encFault_get hs hbit, State.get_put_same hs, hw]
  rfl

end fault

end Sys2Proof.Proofs
end

section
/-! PROOF. The incremental and Hall decoders and the divided output (O12). -/

namespace Sys2Proof.Proofs

open Sys2Proof Sys2Proof.Machine Sys2Proof.Safety

/-! ### Lines (R123) -/

section lines
variable {s : State} {n : Ch} {i : Fin 6} {v : Bool}

/-- MIN_EDGE has passed since the last accepted edge of a line. -/
def Settled (s : State) (n : Ch) (i : Fin 6) : Prop :=
  (s.pif n).lines[i].accTs = none ∨ s.get PIFn_FILT_min_edge n.val ≤ s.now - (s.pif n).lines[i].accTs.getD 0

/-- An edge of a line to `v` has been accepted. -/
def accepted (s : State) (n : Ch) (i : Fin 6) (v : Bool) : State :=
  s.modPif n (fun p => { p with lines := vupd p.lines i (fun _ => ⟨v, v, some s.now⟩) })

theorem lineEdge_still (h : v = (s.pif n).lines[i].logic) : lineEdge s n i v = (s, false) := if_pos h

/-- No edge of a settled line has been accepted within MIN_EDGE. -/
theorem not_soon (h : Settled s n i) : ∀ t, (s.pif n).lines[i].accTs = some t → ¬ s.now - t < s.get PIFn_FILT_min_edge n.val := by
  intro t ht
  rcases h with hnone | hlate
  · rw [hnone] at ht
    cases ht
  · rw [ht] at hlate
    exact Nat.not_lt.mpr hlate

theorem lineEdge_accepts (hlogic : v ≠ (s.pif n).lines[i].logic) (hlevel : v ≠ (s.pif n).lines[i].level) (h : Settled s n i) :
    lineEdge s n i v = (accepted s n i v, true) := by
  have hboth : (s.modPif n (fun p => { p with lines := vupd p.lines i (fun l => { l with logic := v }) })).modPif n
      (fun p => { p with lines := vupd p.lines i (fun l => { l with level := v, accTs := some s.now }) }) = accepted s n i v := by
    rw [modPif_modPif]
    simp [accepted, vupd]
  have hsoon := not_soon h
  unfold lineEdge
  rcases hl : (s.pif n).lines[i] with ⟨lg, lv, acc⟩
  rw [hl] at hlogic hlevel hsoon
  obtain rfl : lg = !v := Bool.eq_not_of_ne hlogic.symm
  obtain rfl : lv = !v := Bool.eq_not_of_ne hlevel.symm
  rcases acc with _ | t
  · simp only [hlogic, if_false, bne_self_eq_false, Bool.false_and, Bool.false_eq_true]
    exact congrArg (·, true) hboth
  · have hlate : ¬ s.now - t < s.get PIFn_FILT_min_edge n.val := hsoon t rfl
    simp only [hlogic, if_false, bne_self_eq_false, Bool.false_and, Bool.false_eq_true]
    exact (if_neg fun e => hlate (of_decide_eq_true e)).trans (congrArg (·, true) hboth)

theorem lineDelayed_accepts (hne : (s.pif n).lines[i].logic ≠ (s.pif n).lines[i].level) (h : Settled s n i) :
    lineDelayed s n i = (accepted s n i (s.pif n).lines[i].logic, true) := by
  have hsoon := not_soon h
  unfold lineDelayed
  rcases hl : (s.pif n).lines[i] with ⟨lg, lv, acc⟩
  rw [hl] at hne hsoon
  have hacc : s.modPif n (fun p => { p with lines := vupd p.lines i (fun l => { l with level := l.logic, accTs := some s.now }) }) =
      accepted s n i lg := modPif_congr (by simp only [vupd, hl])
  rcases acc with _ | t
  · simp only [hne, decide_false, Bool.false_or, Bool.false_eq_true, if_false]
    exact congrArg (·, true) hacc
  · have hlate : decide (s.now - t < s.get PIFn_FILT_min_edge n.val) = false := decide_eq_false (hsoon t rfl)
    simp only [hne, hlate, decide_false, Bool.false_or, Bool.false_eq_true, if_false]
    exact congrArg (·, true) hacc

/-! What an accepted edge leaves of the lines. -/

theorem accepted_line : ((accepted s n i v).pif n).lines[i] = ⟨v, v, some s.now⟩ := by
  rw [accepted, modPif_pif]
  exact vupd_same _ _ _

theorem accepted_line_ne {j : Fin 6} (h : j ≠ i) : ((accepted s n i v).pif n).lines[j] = (s.pif n).lines[j] := by
  rw [accepted, modPif_pif]
  exact vupd_ne _ _ h

theorem accepted_abzUndo {l : Nat} : abzUndo (accepted s n i v) n l = abzUndo s n l := by
  simp [abzUndo, accepted]

theorem accepted_posSet : ((accepted s n i v).pif n).posSet = (s.pif n).posSet := by simp [accepted]

end lines

/-! ### Counting (R125, R126) -/

section counting
variable {s : State} {n : Ch}

/-- The revolution position after a count. -/
def counted (s : State) (n : Ch) (neg : Bool) : Nat :=
  if neg then (s.get PIFn_REVPOS_rev_pos n.val + max 1 (s.get PIFn_GEOM_cpr n.val) - 1) % max 1 (s.get PIFn_GEOM_cpr n.val)
  else (s.get PIFn_REVPOS_rev_pos n.val + 1) % max 1 (s.get PIFn_GEOM_cpr n.val)

/-- The direction of an edge of A by which A became `a`. -/
def edgeNeg (s : State) (n : Ch) (a : Bool) : Bool :=
  (quadIdx a (s.pif n).lines[1].level != (quadIdx (s.pif n).lines[0].level (s.pif n).lines[1].level + 1) % 4)
    != s.getB PIFn_CTL_dir_inv n.val

theorem abzStep_rev {neg : Bool} (hs : s.wf = true) :
    (abzStep s n neg).get PIFn_REVPOS_rev_pos n.val = counted s n neg % 2 ^ 24 := by
  obtain ⟨f, hf⟩ : ∃ f, Moves edgeMask ((s.modPif n f).put PIFn_REVPOS_rev_pos (counted s n neg) n.val) (abzStep s n neg) :=
    ⟨_, encoFollow_moves ⟨by decide +kernel⟩ (srcEdge_moves ⟨by decide +kernel⟩ .refl)⟩
  exact (hf.same (State.put_wf hs) _ _ _ (by decide +kernel)).trans (State.get_put_same hs)

/-- A count that neither falls with one of the other line nor on the tick of a POS_SET moves the revolution position by one. -/
theorem abzLine_rev {line : Nat} {neg : Bool} (hs : s.wf = true) (hundo : abzUndo s n line = none)
    (hset : (s.pif n).posSet.all (fun p => p.1 != s.now) = true) :
    (abzLine s n line neg).get PIFn_REVPOS_rev_pos n.val = counted s n neg % 2 ^ 24 := by
  have hnow : ∀ f, (abzStep (s.modPif n f) n neg).now = s.now := fun f =>
    congrArg BitVec.toNat ((abzStep_moves ⟨Nat.and_self _⟩ .refl).part (p := .ts) (by decide +kernel))
  unfold abzLine
  rw [hundo]
  dsimp only
  rcases hp : (s.pif n).posSet with _ | ⟨t, c, r⟩
  · exact abzStep_rev hs
  · have hne : t ≠ s.now := by simpa [hp] using hset
    dsimp only
    rw [hnow, if_neg hne]
    exact abzStep_rev hs

theorem abzEdges_A {a b : Bool} : abzEdges s n a b true false false = abzLine s n 0
    ((quadIdx (s.pif n).lines[0].level (s.pif n).lines[1].level != (quadIdx a b + 1) % 4) != s.getB PIFn_CTL_dir_inv n.val) := by
  simp [abzEdges]

/-- An accepted edge of A alone. -/
theorem acceptedA_rev {v : Bool} (hs : s.wf = true) (hundo : abzUndo s n 0 = none)
    (hset : (s.pif n).posSet.all (fun p => p.1 != s.now) = true) :
    (abzEdges (accepted s n 0 v) n (s.pif n).lines[0].level (s.pif n).lines[1].level true false false).get PIFn_REVPOS_rev_pos n.val =
      counted s n (edgeNeg s n v) % 2 ^ 24 := by
  have hA : ((accepted s n 0 v).pif n).lines[0] = ⟨v, v, some s.now⟩ := accepted_line
  have hB : ((accepted s n 0 v).pif n).lines[1] = (s.pif n).lines[1] := accepted_line_ne (i := 0) (j := 1) (by decide)
  rw [abzEdges_A, hA, hB]
  exact abzLine_rev (s := accepted s n 0 v) hs (accepted_abzUndo.trans hundo) (by rw [accepted_posSet]; exact hset)

/-- The decoder goes back to where it stood before the tick's count by the other line. -/
theorem abzBack_shows {u : AbPrev} (hs : s.wf = true) : (abzBack s n u).get PIFn_REVPOS_rev_pos n.val = u.rev % 2 ^ 24 ∧
    ((abzBack s n u).pif n).count = u.count ∧
    (abzBack s n u).get PIFn_EDGE_quad_cnt n.val = min (s.get PIFn_EDGE_quad_cnt n.val + 1) (2 ^ PIFn_EDGE_quad_cnt.width - 1) := by
  obtain ⟨b, hget, hwf, hpif, hrep, hmoves⟩ : ∃ b : State, (∀ f i j, b.get f i j = s.get f i j) ∧ b.wf = true ∧
      (b.pif n).count = u.count ∧ Reports n b (abzBack s n u) ∧
      Moves edgeMask ((b.put PIFn_REVPOS_rev_pos u.rev n.val).incSat PIFn_EDGE_quad_cnt n.val) (abzBack s n u) := by
    refine ⟨s.modPif n _, fun _ _ _ => rfl, hs, ?_, ?_, encoFollow_moves ⟨by decide +kernel⟩ (relatch_moves ⟨by decide +kernel⟩
      (pifSync_moves ⟨by decide +kernel⟩ .refl))⟩
    · exact congrArg Pif.count modPif_pif
    · exact (put_reports.trans put_reports).trans (pifSync_reports.trans (relatch_reports.trans encoFollow_reports))
  have hput : (b.put PIFn_REVPOS_rev_pos u.rev n.val).wf = true := State.put_wf hwf
  have hboth : ((b.put PIFn_REVPOS_rev_pos u.rev n.val).incSat PIFn_EDGE_quad_cnt n.val).wf = true := State.put_wf hput
  refine ⟨?_, ?_, ?_⟩
  · rw [hmoves.same hboth _ _ _ (by decide +kernel), State.incSat, State.get_put_ne hput (by decide), State.get_put_same hwf]
    rfl
  · exact (congrArg Pif.count hrep.sources).trans hpif
  · rw [hmoves.same hboth _ _ _ (by decide +kernel), get_incSat hput, State.get_put_ne hwf (by decide), hget]

end counting

/-! ### The index (R128, R129) -/

section index
variable {s : State} {n : Ch} {d : Int} {fire : Bool}

/-- What ends an index, whatever it found: its deviation is shown, the counts since it start again, and it is announced. -/
def indexEnd (s : State) (n : Ch) (d : Int) (fire : Bool) : State :=
  (pifIrq ((s.putS PIFn_ZSTAT_z_dev d n.val).modPif n (fun p => { p with sinceIndex := 0, zEdge := false, zMiss := false })) n 1).onIf
    fire (fun s => seqFire s (0x1C + n.val) s.now s.now)

/-- The index of a decoder without reference sets its position and references it. -/
theorem indexProc_unreferenced (h : s.getB PIFn_ZSTAT_referenced n.val = false) : ∃ count f d fire, indexProc s n =
    indexEnd (pifEv (((abzSet s n count (s.get PIFn_ZEXP_z_exp n.val)).put PIFn_ZSTAT_referenced 1 n.val).modPif n f) n 0x09) n d fire := by
  unfold indexProc
  simp only [h, Bool.not_false, Bool.true_or, if_true]
  exact ⟨_, _, _, _, rfl⟩

theorem indexEnd_get (hs : s.wf = true) {f : Fld} {i j : Nat} (hdev : f.id ≠ PIFn_ZSTAT_z_dev.id) (hf : apart f = true) :
    (indexEnd s n d fire).get f i j = s.get f i j := by
  simp only [apart, Bool.and_eq_true, Bool.not_eq_true'] at hf
  have hend : Moves edgeMask ((s.putS PIFn_ZSTAT_z_dev d n.val).modPif n
      (fun p => { p with sinceIndex := 0, zEdge := false, zMiss := false })) (indexEnd s n d fire) :=
    State.onIf_moves (pifIrq_moves ⟨by decide +kernel⟩ .refl) fun _ h => seqFire_moves ⟨by decide +kernel⟩ h
  exact (hend.same (State.put_wf hs) f i j hf.2).trans (State.get_put_ne hs hdev)

theorem indexEnd_pif : ((indexEnd s n d fire).pif n).sinceIndex = 0 ∧ ((indexEnd s n d fire).pif n).zEdge = false := by
  have hpos : (indexEnd s n d fire).pos = ((s.putS PIFn_ZSTAT_z_dev d n.val).modPif n
      (fun p => { p with sinceIndex := 0, zEdge := false, zMiss := false })).pos := by
    refine Moves.part (m := maskOf edgeFlds (evParts ++ [.inflight, .cvb])) (p := .pos) ?_ (by decide +kernel)
    exact State.onIf_moves (pifIrq_moves ⟨by decide +kernel⟩ .refl) fun _ h => seqFire_moves ⟨by decide +kernel⟩ h
  rw [pif_of_pos hpos, modPif_pif]
  exact ⟨rfl, rfl⟩

theorem abzSet_shows {count rev : Nat} (hs : s.wf = true) : (abzSet s n count rev).wf = true ∧
    (abzSet s n count rev).get PIFn_REVPOS_rev_pos n.val = rev % 2 ^ 24 := by
  have hput : ((s.modPif n (fun p => { p with count := count % 2 ^ 32 })).put PIFn_REVPOS_rev_pos rev n.val).wf = true := State.put_wf hs
  have hsync := pifSync_moves (m := edgeMask) (x1 := n) ⟨by decide +kernel⟩ (.refl (a := (s.modPif n
    (fun p => { p with count := count % 2 ^ 32 })).put PIFn_REVPOS_rev_pos rev n.val))
  exact ⟨hsync.wf hput, (hsync.same hput _ _ _ (by decide +kernel)).trans (State.get_put_same hs)⟩

end index

/-! ### The events -/

section events
variable {s : State} {n : Ch}

theorem pairVal_complement {i : Fin 6} {p : Bool} : pairVal s n i p (!p) = p := by cases p <;> rfl

/-- The edges of a tick among which that of A alone is accepted. -/
theorem edges_A_alone {ap bp zp : Bool} (hs : s.wf = true) (hlogic : ap ≠ (s.pif n).lines[0].logic)
    (hlevel : ap ≠ (s.pif n).lines[0].level) (hsettled : Settled s n 0) (hb : bp = (s.pif n).lines[1].logic)
    (hz : zp = (s.pif n).lines[2].logic) (hundo : abzUndo s n 0 = none) (hset : (s.pif n).posSet.all (fun p => p.1 != s.now) = true) :
    let a := lineEdge s n 0 ap
    let b := lineEdge a.1 n 1 bp
    let z := lineEdge b.1 n 2 zp
    (abzEdges z.1 n (s.pif n).lines[0].level (s.pif n).lines[1].level a.2 b.2 z.2).get PIFn_REVPOS_rev_pos n.val =
      counted s n (edgeNeg s n ap) % 2 ^ 24 := by
  have hA : lineEdge s n 0 ap = (accepted s n 0 ap, true) := lineEdge_accepts hlogic hlevel hsettled
  have hB : lineEdge (accepted s n 0 ap) n 1 bp = (accepted s n 0 ap, false) :=
    lineEdge_still (by rw [accepted_line_ne (by decide)]; exact hb)
  have hZ : lineEdge (accepted s n 0 ap) n 2 zp = (accepted s n 0 ap, false) :=
    lineEdge_still (by rw [accepted_line_ne (by decide)]; exact hz)
  simp only [hA, hB, hZ]
  exact acceptedA_rev hs hundo hset

variable (hs : Ready s)
include hs

/-- ENC_EDGE: an accepted edge of A alone counts (R122, R123, R125). -/
theorem encEdge_counts {ap bp zp : Bool} (hused : srcUsed s n 1 = true) (hlogic : ap ≠ (s.pif n).lines[0].logic)
    (hlevel : ap ≠ (s.pif n).lines[0].level) (hsettled : Settled s n 0) (hb : bp = (s.pif n).lines[1].logic)
    (hz : zp = (s.pif n).lines[2].logic) (hundo : abzUndo s n 0 = none) (hset : (s.pif n).posSet.all (fun p => p.1 != s.now) = true) :
    ∃ t, exec (.encEdge n ap (!ap) bp (!bp) zp (!zp)) s = .next t ∧
      t.get PIFn_REVPOS_rev_pos n.val = counted s n (edgeNeg s n ap) % 2 ^ 24 := by
  refine ⟨_, (live_run s hs.1 : execEncEdge n ap (!ap) bp (!bp) zp (!zp) s = _), ?_⟩
  simp only [pairVal_complement, modPif_srcUsed, hused, Bool.not_true, Bool.false_eq_true, if_false]
  generalize (if ap == !ap then 1 else 0) + (if bp == !bp then 2 else 0) + (if zp == !zp then 4 else 0) = k
  have hrev := edges_A_alone (s := s.modPif n (fun p => { p with wireNow := p.wireNow &&& k })) (ap := ap) (bp := bp) (zp := zp) hs.2
    (by rwa [modPif_pif]) (by rwa [modPif_pif]) (by rwa [Settled, modPif_pif]) (by rwa [modPif_pif]) (by rwa [modPif_pif])
    (by rwa [abzUndo, modPif_pif]) (by rwa [modPif_pif])
  rw [edgeNeg, modPif_pif] at hrev
  exact hrev

/-- DELAYED_EDGE of line A (R123). -/
theorem delayedEdge_A (hused : srcUsed s n 1 = true) (hne : (s.pif n).lines[0].logic ≠ (s.pif n).lines[0].level)
    (hsettled : Settled s n 0) : exec (.delayedEdge n 0) s =
      .next (abzEdges (accepted s n 0 (s.pif n).lines[0].logic) n (s.pif n).lines[0].level (s.pif n).lines[1].level true false false) := by
  have hr : lineDelayed s n 0 = (accepted s n 0 (s.pif n).lines[0].logic, true) := lineDelayed_accepts hne hsettled
  refine (live_run s hs.1 : execDelayedEdge n 0 s = _).trans (congrArg _ ?_)
  simp only [hr, hused]
  rfl

/-- NOISY_INTERVAL (R124). -/
theorem noisyInterval_clears : ∃ t, exec (.noisyInterval n) s = .next t ∧ (t.pif n).rejects = 0 ∧ (t.pif n).noisyDone = false := by
  refine ⟨_, (live_run s hs.1 : execNoisyInterval n s = _), ?_, ?_⟩ <;> rw [modPif_pif]

/-- WIRE_FAULT of the pair A (R122). -/
theorem wireFault_faults (hused : srcUsed s n 1 = true) : ∃ t, exec (.wireFault n 0) s = .next t ∧ t.get PIFn_FSTAT_wire n.val = 1 ∧
    (chSrc n.val 5, 1) ∈ t.inflight := by
  refine ⟨_, (live_run s hs.1 : execWireFault n 0 s = _), ?_⟩
  have hc : ((srcUsed s n 1 && ((0 : Fin 3).val != 2 || s.getB PIFn_CTL_z_en n.val)) ||
      ((srcUsed s n 4 || srcUsed s n 5) && (0 : Fin 3).val == 1)) = true := by simp [hused]
  rw [hc, State.onIf_true]
  simp only [modPif_srcUsed, hused, if_true]
  refine ⟨encFault_shows ?_ rfl (by decide +kernel), encFault_sends⟩
  exact (pifEv_moves (m := edgeMask) ⟨by decide +kernel⟩ .refl).wf (State.put_wf hs.2)

/-- Z_MISSING (R130). -/
theorem zMissing_faults (hused : srcUsed s n 1 = true) (hen : s.getB PIFn_CTL_z_en n.val = true) (hmiss : (s.pif n).zMiss = false)
    (hfar : 3 * (s.get PIFn_GEOM_cpr n.val : Int) ≤ 2 * |(s.pif n).sinceIndex|) : ∃ t, exec (.zMissing n) s = .next t ∧
      t.get PIFn_FSTAT_z_missing n.val = 1 ∧ (chSrc n.val 5, 1) ∈ t.inflight := by
  refine ⟨_, (live_run s hs.1 : execZMissing n s = _), ?_⟩
  simp only [hused, hen, hmiss, hfar, decide_true, Bool.not_false, Bool.and_self, State.onIf_true]
  exact ⟨encFault_shows hs.2 rfl (by decide +kernel), encFault_sends⟩

/-- HALL_INVALID (R133). -/
theorem hallInvalid_faults (hused : srcUsed s n 2 = true) (huv : (s.pif n).lines[3].level = (s.pif n).lines[4].level)
    (hvw : (s.pif n).lines[4].level = (s.pif n).lines[5].level) : ∃ t, exec (.hallInvalid n) s = .next t ∧
      t.get PIFn_FSTAT_hall_invalid n.val = 1 ∧ (chSrc n.val 5, 2) ∈ t.inflight := by
  refine ⟨_, (live_run s hs.1 : execHallInvalid n s = _), ?_⟩
  simp only [hused, huv, hvw, BEq.rfl, Bool.and_self, State.onIf_true]
  exact ⟨encFault_shows hs.2 rfl (by decide +kernel), encFault_sends⟩

/-- ENCO_EDGE (R154). -/
theorem encoEdge_steps (hlag : 0 < s.pos.enco.lag) (hen : s.getB ENCO_CTL_en = true) (hlate : s.pos.enco.last + 20 ≤ s.now) :
    ∃ t, exec .encoEdge s = .next t ∧ t.pos.enco = ⟨s.pos.enco.state + 1, s.pos.enco.lag - 1, s.now⟩ := by
  refine ⟨_, (live_run s hs.1 : execEncoEdge s = _), ?_⟩
  have hstop : ¬ (decide (s.pos.enco.lag = 0) || !s.getB ENCO_CTL_en) = true := by simp [hen, hlag.ne']
  unfold encoStep
  rw [if_neg hstop, if_neg (Nat.not_lt.mpr hlate)]
  simp only [if_pos hlag, State.onIf]
  split
  · exact congrArg PosSt.enco (State.logRate_pos _ _ _ _ _)
  · rfl

/-- The first valid Hall state after an edge of U gives the sector (R132). -/
theorem hallEdge_sector {u v w : Bool} (hused : srcUsed s n 2 = true) (hlogic : u ≠ (s.pif n).lines[3].logic)
    (hlevel : u ≠ (s.pif n).lines[3].level) (hsettled : Settled s n 3) (hv : v = (s.pif n).lines[4].logic)
    (hw : w = (s.pif n).lines[5].logic) (hsector : (s.pif n).sector = none) {st : Nat} (hst : st = (if u then 4 else 0) +
      (if (s.pif n).lines[4].level then 2 else 0) + (if (s.pif n).lines[5].level then 1 else 0)) (h0 : st ≠ 0) (h7 : st ≠ 7) :
    ∃ t, exec (.hallEdge n u v w) s = .next t ∧ (t.pif n).sector = some (hallSector s n st) := by
  have hU : lineEdge s n 3 u = (accepted s n 3 u, true) := lineEdge_accepts hlogic hlevel hsettled
  have hV : lineEdge (accepted s n 3 u) n 4 v = (accepted s n 3 u, false) :=
    lineEdge_still (by rw [accepted_line_ne (by decide)]; exact hv)
  have hW : lineEdge (accepted s n 3 u) n 5 w = (accepted s n 3 u, false) :=
    lineEdge_still (by rw [accepted_line_ne (by decide)]; exact hw)
  refine ⟨_, (live_run s hs.1 : execHallEdge n u v w s = _), ?_⟩
  simp only [hused, hU, hV, hW, Bool.not_true, Bool.false_eq_true, if_false, Bool.or_false, State.onIf_true]
  have h3 : ((accepted s n 3 u).pif n).lines[3] = ⟨u, u, some s.now⟩ := accepted_line
  have h4 : ((accepted s n 3 u).pif n).lines[4] = (s.pif n).lines[4] := accepted_line_ne (i := 3) (j := 4) (by decide)
  have h5 : ((accepted s n 3 u).pif n).lines[5] = (s.pif n).lines[5] := accepted_line_ne (i := 3) (j := 5) (by decide)
  have hnone : ((accepted s n 3 u).pif n).sector = none := by rw [accepted, modPif_pif]; exact hsector
  unfold hallStep
  simp only [h3, h4, h5, hnone, ← hst, h0, h7, decide_false, Bool.or_self, Bool.false_eq_true, if_false]
  rw [modPif_pif]
  rfl

/-- An index that references the decoder (R128, R129). -/
theorem index_references (hz : (s.pif n).zEdge = true) (href : s.getB PIFn_ZSTAT_referenced n.val = false) :
    ∃ t, exec (.index n) s = .next t ∧ t.get PIFn_ZSTAT_referenced n.val = 1 ∧ (t.pif n).sinceIndex = 0 ∧
      (t.pif n).zEdge = false ∧ t.get PIFn_REVPOS_rev_pos n.val = s.get PIFn_ZEXP_z_exp n.val % 2 ^ 24 := by
  refine ⟨_, (live_run s hs.1 : execIndex n s = _), ?_⟩
  simp only [hz, State.onIf_true]
  obtain ⟨count, f, d, fire, he⟩ := indexProc_unreferenced href
  rw [he]
  obtain ⟨hset, hrev⟩ := abzSet_shows (n := n) (count := count) (rev := s.get PIFn_ZEXP_z_exp n.val) hs.2
  have hput : ((abzSet s n count (s.get PIFn_ZEXP_z_exp n.val)).put PIFn_ZSTAT_referenced 1 n.val).wf = true := State.put_wf hset
  have hev := pifEv_moves (m := edgeMask) (x1 := n) (x2 := 0x09) (x3 := []) ⟨by decide +kernel⟩ (.refl (a := ((abzSet s n count
    (s.get PIFn_ZEXP_z_exp n.val)).put PIFn_ZSTAT_referenced 1 n.val).modPif n f))
  refine ⟨?_, indexEnd_pif.1, indexEnd_pif.2, ?_⟩
  · rw [indexEnd_get (hev.wf hput) (by decide) (by decide +kernel), hev.same hput _ _ _ (by decide +kernel)]
    exact State.get_put_same hset
  · rw [indexEnd_get (hev.wf hput) (by decide) (by decide +kernel), hev.same hput _ _ _ (by decide +kernel)]
    exact (State.get_put_ne hset (by decide)).trans hrev

end events

/-! ### The statement -/

/-- Settles O12: an accepted edge sets its line's level and then counts; a count by the other line on the same tick is taken back; the
faults send their source, and what a latch of the tick records of them touches neither their bits nor what is decoded. -/
theorem encoderEdges : Obligations.EncoderEdges := by
  unfold Obligations.EncoderEdges
  intro s n hs
  refine ⟨fun ap bp zp hused hlogic hlevel hsettled hb hz hundo hset => encEdge_counts hs hused hlogic hlevel hsettled hb hz hundo hset,
    fun hused hne hsettled hundo hset => ⟨_, delayedEdge_A hs hused hne hsettled, acceptedA_rev hs.2 hundo hset⟩,
    fun u hused hne hsettled hundo => ⟨_, delayedEdge_A hs hused hne hsettled, ?_⟩, noisyInterval_clears hs, wireFault_faults hs,
    index_references hs, zMissing_faults hs, fun u v w hused hlogic hlevel hsettled hv hw hsector h0 h7 =>
      hallEdge_sector hs hused hlogic hlevel hsettled hv hw hsector rfl h0 h7, hallInvalid_faults hs, encoEdge_steps hs⟩
  have hback : abzUndo (accepted s n 0 (s.pif n).lines[0].logic) n 0 = some u := accepted_abzUndo.trans hundo
  rw [abzEdges_A, abzLine, hback]
  exact abzBack_shows hs.2

end Sys2Proof.Proofs
end

section
/-! PROOF. The sampled position sources and the absence of speed (O13). -/

namespace Sys2Proof.Proofs

open Sys2Proof Sys2Proof.Machine Sys2Proof.Safety

/-! ### A first sample (R145) -/

section sample
variable {s : State} {n : Ch} {code ang t : Nat} {pos : Int → Int → Int}

/-- A source with its first sample. -/
def firstSample (ang t : Nat) (p : Int) (x : Src) : Src :=
  { x with has := true, ang := ang, ts := t, fresh := true, pos := p, acc := 0, est := { x.est with hist := [(0, t)], n := 1, tLast := t } }

/-- What follows a sample, the record of a latch of its tick among it, leaves what has been decoded. -/
theorem sampleIn_first (h : (srcOf s n code).has = false) : decoded ((sampleIn s n code ang t pos).pif n) =
    decoded ((modSrc s n code (firstSample ang t (pos 0 0))).pif n) := by
  have htrig : ∀ u : State, (sampleTrig u n code t).pif n = u.pif n := fun u =>
    pif_of_pos ((sampleTrig_moves ⟨Nat.and_self _⟩ .refl).part (p := .pos) (by decide +kernel))
  unfold sampleIn
  simp only [h, Bool.not_false, if_true, htrig]
  exact (pifSync_reports.trans (relatch_reports.trans encoFollow_reports)).sources

end sample

/-! ### The resolver (R134 to R138) -/

section resolver
variable {s : State} {n : Ch}

/-- The half-period that ended last is one of the registers, of TS and of the excitation's beginning. -/
theorem excCentre_congr {t : State} (hregs : t.regs = s.regs) (hnow : t.now = s.now) (hexc : (t.pif n).excTs = (s.pif n).excTs) :
    excCentre t n = excCentre s n := by
  have hget : ∀ f, t.get f n.val = s.get f n.val := fun f => congrArg (fun r => sget 0 r (f.key n.val 0) ^^^ f.reset) hregs
  have hen : t.getB PIFn_EXC_en n.val = s.getB PIFn_EXC_en n.val := congrArg (· != 0) (hget PIFn_EXC_en)
  dsimp only [excCentre]
  rw [hen, hget, hnow, hexc]

/-- The interface after a full sample within the amplitude band. -/
def rsvGood (s : State) (n : Ch) : State := (s.modPif n (fun p => { p with gaps := 0 })).modPif n (fun p => { p with amps := 0 })

theorem rsvGood_pif : (rsvGood s n).pif n = { s.pif n with gaps := 0, amps := 0 } := by rw [rsvGood, modPif_pif, modPif_pif]

/-- The electrical angle of a resolver's sample. -/
def rsvAngle (s : State) (n : Ch) (x y : Int) : Nat :=
  (s.get PIFn_RSV_ratio n.val * (atan2Turn x y 24 * 256) + s.get PIFn_AOFS_aofs n.val) % 2 ^ 32

variable {sin cos : List (Int × Nat)} {due : Nat} {x y : Int} (hs : Ready s) (hused : srcUsed s n 3 = true) (hsin : sin.length = due)
  (hcos : cos.length = due) (hcentre : (excCentre s n).isSome = true)
  (hx : x = demod (s.get PIFn_RSV_PH_phase n.val) sin) (hy : y = demod (s.get PIFn_RSV_PH_phase n.val) cos)
  (hlo : ((s.get PIFn_RSV_AMP_amp_lo n.val : Int) * 2 ^ 30) ^ 2 ≤ x * x + y * y)
  (hhi : x * x + y * y ≤ ((s.get PIFn_RSV_AMP_amp_hi n.val : Int) * 2 ^ 30) ^ 2)
include hs hused hsin hcos hcentre hx hy hlo hhi

/-- RSV_SAMPLE takes a sample of full length and of an amplitude within its band (R136 to R138). -/
theorem rsvSample_takes : exec (.rsvSample n sin cos due) s =
    .next (sampleIn (rsvGood s n) n 3 (rsvAngle s n x y) ((excCentre s n).getD s.now) (fun p d => p + d)) := by
  have hfull : ¬ (decide (due < 8 * (due - sin.length)) || decide (due < 8 * (due - cos.length))) = true := by
    simp [hsin, hcos]
  have hband : ¬ (decide (x * x + y * y < (s.get PIFn_RSV_AMP_amp_lo n.val : Int) * 2 ^ 30 *
      ((s.get PIFn_RSV_AMP_amp_lo n.val : Int) * 2 ^ 30)) || decide ((s.get PIFn_RSV_AMP_amp_hi n.val : Int) * 2 ^ 30 *
      ((s.get PIFn_RSV_AMP_amp_hi n.val : Int) * 2 ^ 30) < x * x + y * y)) = true := by
    rw [pow_two] at hlo hhi
    rw [decide_eq_false hlo.not_gt, decide_eq_false hhi.not_gt]
    decide
  refine (live_run s hs.1 : execRsvSample n sin cos due s = _).trans (congrArg _ ?_)
  simp only [hused, hcentre, Bool.and_self, State.onIf_true, ← hx, ← hy]
  rw [if_neg hfull, if_neg hband]
  have hkept : excCentre (rsvGood s n) n = excCentre s n := excCentre_congr rfl rfl (by rw [rsvGood_pif])
  exact congrArg (fun c : Option Nat => sampleIn (rsvGood s n) n 3 (rsvAngle s n x y) (c.getD s.now) (fun p d => p + d)) hkept

/-- A first sample of the resolver. -/
theorem rsvSample_first (hfirst : (s.pif n).rsv.has = false) :
    ∃ t, exec (.rsvSample n sin cos due) s = .next t ∧ (t.pif n).rsv.has = true ∧ (t.pif n).gaps = 0 ∧ (t.pif n).amps = 0 ∧
      (t.pif n).rsv.ang = rsvAngle s n x y ∧ some (t.pif n).rsv.ts = excCentre s n := by
  have hhas : (srcOf (rsvGood s n) n 3).has = false := by rw [srcOf, rsvGood_pif]; exact hfirst
  have hdec := sampleIn_first (ang := rsvAngle s n x y) (t := (excCentre s n).getD s.now) (pos := fun p d => p + d) hhas
  rw [modSrc, modPif_pif, rsvGood_pif] at hdec
  refine ⟨_, rsvSample_takes hs hused hsin hcos hcentre hx hy hlo hhi, congrArg (fun p : Pif => p.rsv.has) hdec,
    congrArg Pif.gaps hdec, congrArg Pif.amps hdec, congrArg (fun p : Pif => p.rsv.ang) hdec,
    (congrArg (fun p : Pif => some p.rsv.ts) hdec).trans ?_⟩
  obtain ⟨c, hc⟩ := Option.isSome_iff_exists.mp hcentre
  rw [hc]
  rfl

end resolver

/-! ### Serial frames (R140 to R144) -/

section serial
variable {s : State} {n : Ch}

/-- A trigger that is due has been taken. -/
def serTaken (s : State) (n : Ch) (t : Nat) : State :=
  s.modPif n (fun p => { p with frame := { p.frame with due := p.frame.due.erase t } })

theorem serTaken_pif {t : Nat} : (serTaken s n t).pif n =
    { s.pif n with frame := { (s.pif n).frame with due := (s.pif n).frame.due.erase t } } := by
  rw [serTaken, modPif_pif]

theorem serial_used (h : srcUsed s n 4 = true ∨ srcUsed s n 5 = true) : ¬ (!srcUsed s n 4 && !srcUsed s n 5) = true := by
  rcases h with h | h <;> simp [h]

section start
variable {slo : Bool} (hused : srcUsed s n 4 = true ∨ srcUsed s n 5 = true) (hdue : (serDue s n).isSome = true)
include hused hdue

/-- A due trigger of a serial source that neither runs, waits nor stands in its gap starts a frame where SLO is high, and else is a bad
frame or waits. -/
theorem serStart_idle (hrun : (s.pif n).frame.run = false) (hwait : (s.pif n).frame.wait = false) (hlast : (s.pif n).frame.last = none) :
    ∃ t, serStart s n slo = if slo then serRun (serTaken s n t) n
      else if (s.pif n).frame.back then serBad (serTaken s n t) n (serCode s n)
      else (serTaken s n t).modPif n (fun p => { p with frame := { p.frame with wait := true } }) := by
  obtain ⟨t, ht⟩ := Option.isSome_iff_exists.mp hdue
  refine ⟨t, ?_⟩
  have hpif := serTaken_pif (s := s) (n := n) (t := t)
  rw [serTaken] at hpif
  unfold serStart
  simp only [ht, if_neg (serial_used hused), hpif, hrun, hwait, hlast, Bool.or_self, Bool.false_eq_true, if_false]
  rfl

/-- A trigger while a frame runs is an overrun. -/
theorem serStart_running (hrun : (s.pif n).frame.run = true) :
    ∃ t, serStart s n slo = (serTaken s n t).incSat PIFn_SER_STAT_ovr_cnt n.val := by
  obtain ⟨t, ht⟩ := Option.isSome_iff_exists.mp hdue
  refine ⟨t, ?_⟩
  have hpif := serTaken_pif (s := s) (n := n) (t := t)
  rw [serTaken] at hpif
  unfold serStart
  simp only [ht, if_neg (serial_used hused), hpif, hrun, Bool.true_or, if_true]
  rfl

end start

/-- A good SSI frame: neither parity nor Gray code, and the check bit is low (R143, R144). -/
theorem serEnd_ssi {bits : List Bool} {delay : Nat} (hrun : (s.pif n).frame.run = true) (hcode : serCode s n = 5)
    (hpar : s.getB PIFn_SER_parity n.val = false) (hgray : s.getB PIFn_SER_gray n.val = false)
    (hlen : bits.length = s.get PIFn_SER_pos_bits n.val + 1) (hcheck : bits.getLast? = some false) :
    serEnd s n bits delay = serGood s n 5 (bits.take (s.get PIFn_SER_pos_bits n.val)) := by
  unfold serEnd
  simp [hrun, hcode, hpar, hgray, hlen, hcheck]

/-- The interface after a good frame. -/
def serEnded (s : State) (n : Ch) : State :=
  s.modPif n (fun p => { p with frame := { p.frame with run := false, last := some s.now, errs := 0, back := false } })

theorem serEnded_pif : (serEnded s n).pif n =
    { s.pif n with frame := { (s.pif n).frame with run := false, last := some s.now, errs := 0, back := false } } := by
  rw [serEnded, modPif_pif]

/-- The first good frame of a serial source. -/
theorem serGood_first {data : List Bool} (hfirst : (s.pif n).ser.has = false) :
    ((serGood s n 5 data).pif n).frame.run = false ∧ ((serGood s n 5 data).pif n).ser.has = true ∧
      ((serGood s n 5 data).pif n).ser.ang =
        abzAngle s n (bitsVal data % 2 ^ s.get PIFn_SER_st_bits n.val) (2 ^ s.get PIFn_SER_st_bits n.val) := by
  have hhas : (srcOf (serEnded s n) n 5).has = false := (congrArg (fun p : Pif => p.ser.has) serEnded_pif).trans hfirst
  have hang : ∀ p c, abzAngle (serEnded s n) n p c = abzAngle s n p c := fun _ _ => rfl
  obtain ⟨t, pos, he⟩ : ∃ t pos, serGood s n 5 data = sampleIn (serEnded s n) n 5
      (abzAngle (serEnded s n) n (bitsVal data % 2 ^ s.get PIFn_SER_st_bits n.val) (2 ^ s.get PIFn_SER_st_bits n.val)) t pos := by
    unfold serGood
    exact ⟨_, _, rfl⟩
  rw [he, hang]
  have hdec := sampleIn_first (ang := abzAngle s n (bitsVal data % 2 ^ s.get PIFn_SER_st_bits n.val) (2 ^ s.get PIFn_SER_st_bits n.val))
    (t := t) (pos := pos) hhas
  rw [modSrc, modPif_pif, serEnded_pif] at hdec
  exact ⟨congrArg (fun p : Pif => p.frame.run) hdec, congrArg (fun p : Pif => p.ser.has) hdec, congrArg (fun p : Pif => p.ser.ang) hdec⟩

/-- The interface after a bad frame. -/
def serFailed (s : State) (n : Ch) : State :=
  (s.incSat PIFn_SER_STAT_crc_err_cnt n.val).modPif n (fun p => { p with
    frame := { p.frame with run := false, last := some s.now, errs := p.frame.errs + 1, wait := false, back := false } })

theorem serFailed_pif : (serFailed s n).pif n = { s.pif n with frame := { (s.pif n).frame with
    run := false, last := some s.now, errs := (s.pif n).frame.errs + 1, wait := false, back := false } } := by
  rw [serFailed, modPif_pif]
  rfl

theorem serFailed_count (hs : s.wf = true) : (serFailed s n).get PIFn_SER_STAT_crc_err_cnt n.val =
    min (s.get PIFn_SER_STAT_crc_err_cnt n.val + 1) 255 := get_incSat hs

/-- A bad frame ends and is counted; what it may fault touches neither. -/
theorem serBad_shows {code : Nat} (hs : s.wf = true) : ((serBad s n code).pif n).frame.run = false ∧
    ((serBad s n code).pif n).frame.errs = (s.pif n).frame.errs + 1 ∧
    (serBad s n code).get PIFn_SER_STAT_crc_err_cnt n.val = min (s.get PIFn_SER_STAT_crc_err_cnt n.val + 1) 255 := by
  have hwf : (serFailed s n).wf = true := State.put_wf hs
  obtain ⟨c, he⟩ : ∃ c, serBad s n code = (serFailed s n).onIf c (fun s => encFault s n code PIFn_FSTAT_ser_err) := ⟨_, rfl⟩
  have hdec : decoded ((serBad s n code).pif n) = decoded ((serFailed s n).pif n) := by
    rw [he]
    exact (Reports.onIf encFault_reports).sources
  rw [serFailed_pif] at hdec
  refine ⟨congrArg (fun p : Pif => p.frame.run) hdec, congrArg (fun p : Pif => p.frame.errs) hdec, ?_⟩
  rw [he, ← serFailed_count hs]
  cases c
  · rfl
  · exact (encFault_get hwf (by decide +kernel)).trans (State.get_put_ne hwf (by decide))

end serial

/-! ### The absence of an edge (R145) -/

section absence
variable {s : State} {n : Ch}

/-- A change of another source leaves the ABZ decoder. -/
theorem modSrc_abz_other {c : Nat} {f : Src → Src} (hc : c ≠ 1) : ((modSrc s n c f).pif n).abz = (s.pif n).abz := by
  unfold modSrc
  rw [modPif_pif]
  split
  · exact absurd rfl hc
  all_goals rfl

/-- A source without its speed. -/
def lapsed (now : Nat) (x : Src) : Src :=
  { x with tmo := some (now, x.est), est := { x.est with valid := false, n := 0, dp := 0, dt := 1 } }

/-- A source without an edge for `lim` ticks loses its speed. -/
def lapse (n : Ch) (lim c : Nat) (s : State) : State :=
  s.onIf ((srcOf s n c).est.valid && decide (lim ≤ s.now - (srcOf s n c).est.tLast)) (fun s => modSrc s n c (lapsed s.now))

theorem lapse_abz_other {lim c : Nat} (hc : c ≠ 1) : ((lapse n lim c s).pif n).abz = (s.pif n).abz := by
  unfold lapse State.onIf
  split
  · exact modSrc_abz_other hc
  · rfl

theorem lapse_abz {lim : Nat} (hvalid : (s.pif n).abz.est.valid = true) (hlate : lim ≤ s.now - (s.pif n).abz.est.tLast) :
    ((lapse n lim 1 s).pif n).abz = lapsed s.now (s.pif n).abz := by
  have hc : ((srcOf s n 1).est.valid && decide (lim ≤ s.now - (srcOf s n 1).est.tLast)) = true := by simp [srcOf, hvalid, hlate]
  rw [lapse, hc, State.onIf_true, modSrc, modPif_pif]
  rfl

/-- SPD_TIMEOUT takes the speed of a source without an edge. -/
theorem spdTimeout_invalidates (hs : Ready s) (hvalid : (s.pif n).abz.est.valid = true)
    (hlate : s.get PIFn_SPDCFG_spd_timeout n.val * tkUs ≤ s.now - (s.pif n).abz.est.tLast) :
    ∃ t, exec (.spdTimeout n) s = .next t ∧ (t.pif n).abz.est.valid = false ∧ (t.pif n).abz.est.n = 0 := by
  have hsync : ∀ u : State, (pifSync u n).pif n = u.pif n := fun u =>
    pif_of_pos ((pifSync_moves ⟨Nat.and_self _⟩ .refl).part (p := .pos) (by decide +kernel))
  have hall : exec (.spdTimeout n) s =
      .next (pifSync (s.forL [1, 2, 3, 4] (lapse n (s.get PIFn_SPDCFG_spd_timeout n.val * tkUs))) n) :=
    (live_run s hs.1 : execSpdTimeout n s = _)
  have habz : ((pifSync (s.forL [1, 2, 3, 4] (lapse n (s.get PIFn_SPDCFG_spd_timeout n.val * tkUs))) n).pif n).abz =
      lapsed s.now (s.pif n).abz := by
    simp only [hsync, State.forL, List.foldl]
    rw [lapse_abz_other (by decide), lapse_abz_other (by decide), lapse_abz_other (by decide), lapse_abz hvalid hlate]
  refine ⟨_, hall, ?_, ?_⟩ <;> rw [habz] <;> rfl

end absence

/-! ### Events of serial sources -/

section frames
variable {s : State} {n : Ch} (hs : Ready s)
include hs

/-- SERIAL_FRAME_START with SLO high (R142). -/
theorem serFrameStart_runs (hused : srcUsed s n 4 = true ∨ srcUsed s n 5 = true) (hrun : (s.pif n).frame.run = false)
    (hwait : (s.pif n).frame.wait = false) (hlast : (s.pif n).frame.last = none) (hdue : (serDue s n).isSome = true) :
    ∃ t, exec (.serFrameStart n true) s = .next t ∧ (t.pif n).frame.run = true ∧ (t.pif n).frame.t0 = s.now := by
  obtain ⟨d, hd⟩ := serStart_idle (slo := true) hused hdue hrun hwait hlast
  refine ⟨_, (live_run s hs.1 : execSerFrameStart n true s = _), ?_⟩
  rw [hd, if_pos rfl, serRun, modPif_pif]
  exact ⟨rfl, rfl⟩

/-- SERIAL_FRAME_START with SLO low since the last frame: the frame waits (R142). -/
theorem serFrameStart_waits (hused : srcUsed s n 4 = true ∨ srcUsed s n 5 = true) (hrun : (s.pif n).frame.run = false)
    (hwait : (s.pif n).frame.wait = false) (hlast : (s.pif n).frame.last = none) (hdue : (serDue s n).isSome = true)
    (hback : (s.pif n).frame.back = false) :
    ∃ t, exec (.serFrameStart n false) s = .next t ∧ (t.pif n).frame.wait = true ∧ (t.pif n).frame.run = false := by
  obtain ⟨d, hd⟩ := serStart_idle (slo := false) hused hdue hrun hwait hlast
  refine ⟨_, (live_run s hs.1 : execSerFrameStart n false s = _), ?_⟩
  simp only [hd, hback, Bool.false_eq_true, if_false, modPif_pif, serTaken_pif]
  exact ⟨trivial, hrun⟩

/-- SERIAL_FRAME_START while a frame runs (R140). -/
theorem serFrameStart_overruns {slo : Bool} (hused : srcUsed s n 4 = true ∨ srcUsed s n 5 = true) (hrun : (s.pif n).frame.run = true)
    (hdue : (serDue s n).isSome = true) : ∃ t, exec (.serFrameStart n slo) s = .next t ∧ (t.pif n).frame.run = true ∧
      (t.pif n).frame.t0 = (s.pif n).frame.t0 ∧
      t.get PIFn_SER_STAT_ovr_cnt n.val = min (s.get PIFn_SER_STAT_ovr_cnt n.val + 1) (2 ^ PIFn_SER_STAT_ovr_cnt.width - 1) := by
  obtain ⟨d, hd⟩ := serStart_running (slo := slo) hused hdue hrun
  have hpif : ((serTaken s n d).incSat PIFn_SER_STAT_ovr_cnt n.val).pif n = (serTaken s n d).pif n := rfl
  refine ⟨_, (live_run s hs.1 : execSerFrameStart n slo s = _), ?_⟩
  rw [hd, hpif, serTaken_pif]
  exact ⟨hrun, rfl, get_incSat hs.2⟩

/-- SERIAL_FRAME_END of a first good SSI frame (R143, R144). -/
theorem serFrameEnd_first {bits : List Bool} {delay : Nat} (hrun : (s.pif n).frame.run = true) (hcode : serCode s n = 5)
    (hpar : s.getB PIFn_SER_parity n.val = false) (hgray : s.getB PIFn_SER_gray n.val = false)
    (hlen : bits.length = s.get PIFn_SER_pos_bits n.val + 1) (hcheck : bits.getLast? = some false) (hfirst : (s.pif n).ser.has = false) :
    ∃ t, exec (.serFrameEnd n bits delay) s = .next t ∧ (t.pif n).frame.run = false ∧ (t.pif n).ser.has = true ∧
      (t.pif n).ser.ang = abzAngle s n (bitsVal (bits.take (s.get PIFn_SER_pos_bits n.val)) % 2 ^ s.get PIFn_SER_st_bits n.val)
        (2 ^ s.get PIFn_SER_st_bits n.val) := by
  refine ⟨_, (live_run s hs.1 : execSerFrameEnd n bits delay s = _), ?_⟩
  rw [serEnd_ssi hrun hcode hpar hgray hlen hcheck]
  exact serGood_first hfirst

/-- SERIAL_TIMEOUT of a CSER frame (R142, R144). -/
theorem serTimeout_fails (hrun : (s.pif n).frame.run = true) (hcode : serCode s n = 4) :
    ∃ t, exec (.serTimeout n) s = .next t ∧ (t.pif n).frame.run = false ∧ (t.pif n).frame.errs = (s.pif n).frame.errs + 1 ∧
      t.get PIFn_SER_STAT_crc_err_cnt n.val = min (s.get PIFn_SER_STAT_crc_err_cnt n.val + 1) 255 := by
  refine ⟨_, (live_run s hs.1 : execSerTimeout n s = _), ?_⟩
  rw [hrun, hcode]
  exact serBad_shows hs.2

end frames

end Sys2Proof.Proofs
end

section
/-! PROOF. The period latch of a position interface (R147 to R153, in O13). -/

namespace Sys2Proof.Proofs

open Sys2Proof Sys2Proof.Machine Sys2Proof.Safety

section latch
variable {s : State} {n : Ch}

/-! ### What a latch leaves before its record -/

theorem freezeCheck_replay {pri : Bool} : (freezeCheck s n pri).owl.replay = s.owl.replay := by
  unfold freezeCheck
  dsimp only
  split
  · rfl
  · exact (Reports.onIf (n := n) (pifEv_reports.trans encFault_reports)).replay

theorem latchRestore_replay : (latchRestore s n).owl.replay = s.owl.replay := by
  unfold latchRestore
  dsimp only
  split
  · rfl
  · split
    · exact (Reports.onIf (n := n) (put_reports.trans pifEv_reports)).replay
    · exact (pifEv_reports (n := n)).replay

/-! ### Deliveries -/

theorem deliverPos_mem {pair : Nat} {r : PosRec} (h : s.replayed pair = false) :
    (⟨2 + pair, .position r, s.now, false⟩ : ChuckItem) ∈ (deliverPos s pair r).chuck := by
  simp [deliverPos, h]

theorem deliverPos_keeps {pair : Nat} {r : PosRec} : s.chuck ⊆ (deliverPos s pair r).chuck := by
  unfold deliverPos
  split
  · exact List.Subset.refl _
  · exact List.subset_append_left _ _

theorem deliverFurther_mem {pair : Nat} {r : PosRec} (h : s.replayed pair = false) :
    (⟨2 + pair, .further r, s.now, false⟩ : ChuckItem) ∈ (deliverFurther s pair r).chuck := by
  simp [deliverFurther, h]

/-- A record goes to the interface's own spindle, but for that of PIF1 in a six-phase group (R120). -/
theorem deliverRec_position {r : PosRec} (h : s.replayed n.val = false) (hn : s.six = false ∨ n ≠ 1) :
    (⟨2 + n.val, .position r, s.now, false⟩ : ChuckItem) ∈ (deliverRec s n r).chuck := by
  unfold deliverRec
  split
  next hc =>
    simp only [Bool.and_eq_true, beq_iff_eq] at hc
    obtain ⟨-, rfl⟩ := hc
    exact deliverPos_keeps (deliverPos_mem h)
  next =>
    split
    next hc =>
      simp only [Bool.and_eq_true, beq_iff_eq] at hc
      rcases hn with hsix | hne
      · simp [hsix] at hc
      · exact absurd hc.2 hne
    next => exact deliverPos_mem h

/-- The record of PIF1 in a six-phase group is a further source of its spindles (R120). -/
theorem deliverRec_further {r : PosRec} (h : s.replayed 1 = false) (hsix : s.six = true) :
    (⟨3, .further r, s.now, false⟩ : ChuckItem) ∈ (deliverRec s 1 r).chuck := by
  have hreplay : (deliverFurther s 0 r).replayed 1 = s.replayed 1 := by
    unfold deliverFurther
    split <;> rfl
  have hnow : (deliverFurther s 0 r).now = s.now := by
    unfold deliverFurther
    split <;> rfl
  have hrec : deliverRec s 1 r = deliverFurther (deliverFurther s 0 r) 1 r := by simp [deliverRec, hsix]
  rw [hrec, ← hnow]
  exact deliverFurther_mem (hreplay.trans h)

/-! ### The record -/

section record
variable {r : PosRec}

/-- What is shown of a record: nothing but its angle and its TS. -/
theorem shown_shows (hs : s.wf = true) : (shown s n r).wf = true ∧ (shown s n r).get PIFn_ANGLE_angle n.val = r.ang % 2 ^ 32 ∧
    (shown s n r).six = s.six := by
  have hput : (s.put PIFn_ANGLE_angle r.ang n.val).wf = true := State.put_wf hs
  have hlo : ((s.put PIFn_ANGLE_angle r.ang n.val).put PIFn_STS_LO_ts r.ts n.val).wf = true := State.put_wf hput
  have hother : ∀ f i, f.id ≠ PIFn_STS_LO_ts.id → f.id ≠ PIFn_STS_HI_ts.id →
      (shown s n r).get f i = (s.put PIFn_ANGLE_angle r.ang n.val).get f i := fun f i h k =>
    (State.get_put_ne hlo k).trans (State.get_put_ne hput h)
  refine ⟨State.put_wf hlo, ?_, ?_⟩
  · rw [hother _ _ (by decide) (by decide), State.get_put_same hs]
    rfl
  · rw [State.six, State.getB, hother _ _ (by decide) (by decide), State.get_put_ne hs (by decide)]
    rfl

theorem recorded_shows (hs : s.wf = true) : ((recorded s n r).pif n).record = some r ∧
    (recorded s n r).get PIFn_ANGLE_angle n.val = r.ang % 2 ^ 32 := by
  obtain ⟨hwf, hangle, -⟩ := shown_shows (n := n) (r := r) hs
  have hmoves : ∀ u : State, Moves 0x100000 u (deliverRec u n r) := fun u => deliverRec_moves ⟨Nat.and_self _⟩ .refl
  constructor
  · rw [recorded, pif_of_pos ((hmoves _).part (p := .pos) (by decide +kernel)), modPif_pif]
    rfl
  · refine Eq.trans ((hmoves _).same ?_ _ _ _ (by decide +kernel)) hangle
    exact hwf

theorem recorded_wf (hs : s.wf = true) : (recorded s n r).wf = true :=
  (deliverRec_moves (m := 0x100000) ⟨Nat.and_self _⟩ .refl).wf (shown_shows hs).1

theorem recorded_position (hs : s.wf = true) (h : s.replayed n.val = false) (hn : s.six = false ∨ n ≠ 1) :
    (⟨2 + n.val, .position r, s.now, false⟩ : ChuckItem) ∈ (recorded s n r).chuck :=
  deliverRec_position h (hn.imp_left (shown_shows hs).2.2.trans)

theorem recorded_further (hs : s.wf = true) (h : s.replayed 1 = false) (hsix : s.six = true) :
    (⟨3, .further r, s.now, false⟩ : ChuckItem) ∈ (recorded s 1 r).chuck :=
  deliverRec_further h ((shown_shows hs).2.2.trans hsix)

end record

/-- What a period latch reaches before it forms its record. -/
def latchMask : Nat := maskOf (edgeFlds ++ [PIFn_FSTAT_sec_fault, PIFn_FSTAT_pri_fault, PIFn_FSTAT_frozen_sec, PIFn_FSTAT_frozen_pri,
  PIFn_CTL_src_restore]) (evParts ++ [.inflight, .pos, .chuck, .cvb])

/-- A period latch records a state whose replay, six-phase group and TS are as before. -/
theorem pifLatch_records (hs : s.wf = true) (hen : s.getB PIFn_CTL_en n.val = true) :
    ∃ u r, pifLatch s n = recorded u n r ∧ u.wf = true ∧ u.now = s.now ∧ u.six = s.six ∧ ∀ k, u.replayed k = s.replayed k := by
  have hpre : Moves latchMask s (latchRestore (freezeCheck (freezeCheck s n true) n false) n) :=
    latchRestore_moves ⟨by decide +kernel⟩ (freezeCheck_moves ⟨by decide +kernel⟩ (freezeCheck_moves ⟨by decide +kernel⟩ .refl))
  obtain ⟨u, hrep, hmoves, he⟩ := latchRecord_records (n := n) ⟨by decide +kernel⟩ hpre
  refine ⟨u, formRecord u n, ?_, hmoves.wf hs, ?_, ?_, State.replayed_congr ?_⟩
  · simp only [pifLatch, hen, Bool.not_true, Bool.false_eq_true, if_false]
    exact he
  · exact congrArg BitVec.toNat (hmoves.part (p := .ts) (by decide +kernel))
  · exact congrArg (· != 0) (hmoves.same hs CHn_CTL_six 0 0 (by decide +kernel))
  · exact hrep.replay.trans (latchRestore_replay.trans (freezeCheck_replay.trans freezeCheck_replay))

/-- PERIOD_LATCH: the record is kept, shown and delivered, and the selector's refresh leaves it (R147, R277). -/
theorem periodLatch_records (hs : Ready s) (hen : s.getB PIFn_CTL_en n.val = true) (hreplay : s.replayed n.val = false) :
    ∃ t, exec (.periodLatch n) s = .next t ∧ ∃ r, (t.pif n).record = some r ∧ t.get PIFn_ANGLE_angle n.val = r.ang % 2 ^ 32 ∧
      (s.six = false ∨ n ≠ 1 → (⟨2 + n.val, .position r, s.now, false⟩ : ChuckItem) ∈ t.chuck) ∧
      (s.six = true → n = 1 → (⟨3, .further r, s.now, false⟩ : ChuckItem) ∈ t.chuck) := by
  obtain ⟨u, r, he, hwf, hnow, hsix, hk⟩ := pifLatch_records hs.2 hen
  obtain ⟨hrecord, hangle⟩ := recorded_shows (n := n) (r := r) hwf
  have hsel := selRefresh_moves (x1 := n) ⟨Nat.and_self _⟩ (.refl (a := recorded u n r))
  have hpos : (selRefresh (recorded u n r) n).pos = (recorded u n r).pos := hsel.part (p := .pos) (by decide +kernel)
  have hchuck : (selRefresh (recorded u n r) n).chuck = (recorded u n r).chuck := hsel.part (p := .chuck) (by decide +kernel)
  refine ⟨_, (live_run s hs.1 : execPeriodLatch n s = _), r, ?_⟩
  rw [he, pif_of_pos hpos, hchuck, ← hnow]
  refine ⟨hrecord, ?_, fun hn => recorded_position hwf ((hk _).trans hreplay) (hn.imp_left hsix.trans), ?_⟩
  · exact (hsel.same (recorded_wf hwf) _ _ _ (by decide +kernel)).trans hangle
  · rintro h6 rfl
    exact recorded_further hwf ((hk _).trans hreplay) (hsix.trans h6)

end latch

end Sys2Proof.Proofs
end

section
/-! PROOF. A write of a position interface's control that asks for the return to the primary source (R153, in O13). -/

namespace Sys2Proof.Proofs

open Sys2Proof Sys2Proof.Machine Sys2Proof.Safety

/-! ### Writing what stands (R7) -/

section same
variable {s : State}

/-- Writing at a key of a canonical store what stands there changes nothing. -/
theorem sput_sget_from {α : Type} [DecidableEq α] {d : α} {m : List (Nat × α)} {lo k : Nat} (h : scanonFrom d lo m = true) :
    sput d m k (sget d m k) = m := by
  induction m generalizing lo with
  | nil => simp [sput, sget]
  | cons e t ih =>
    obtain ⟨k', v'⟩ := e
    simp only [scanonFrom, Bool.and_eq_true, decide_eq_true_eq] at h
    obtain ⟨⟨-, hv⟩, ht⟩ := h
    rcases lt_trichotomy k k' with hlt | rfl | hgt
    · simp [sput, sget, hlt, hlt.ne]
    · simp [sput, sget, hv]
    · simp [sput, sget, hgt.ne', hgt.not_gt, ih ht]

theorem put_of_get {f : Fld} {v i j : Nat} (hs : s.wf = true) (hv : v % 2 ^ f.width = s.get f i j) : s.put f v i j = s := by
  have hstored : (v % 2 ^ f.width) ^^^ f.reset = sget 0 s.regs (f.key i j) := by
    rw [hv, State.get, Nat.xor_assoc, Nat.xor_self, Nat.xor_zero]
  rw [State.put, hstored, sput_sget_from (State.wf_regs hs)]

/-- A register write that gives every field that it stores what the field holds changes nothing. -/
theorem applyWr_of_get {w : Wr} (hs : s.wf = true) (h : ∀ f ∈ w.reg.flds, f.acc = .w1s ∨ f.acc = .rw ∧ w.bits f = s.get f w.i w.j) :
    applyWr s w [] = s := by
  have hfld : ∀ f ∈ w.reg.flds, fieldWrite s w f = s := by
    intro f hf
    rcases h f hf with hacc | ⟨hacc, hget⟩
    · simp only [fieldWrite, hacc]
    · simp only [fieldWrite, hacc]
      exact put_of_get hs ((Nat.mod_mod _ _).trans hget)
  have hall : ∀ l : List Fld, (∀ f ∈ l, fieldWrite s w f = s) → l.foldl (fun u f => fieldWrite u w f) s = s := by
    intro l hl
    induction l with
    | nil => rfl
    | cons f l ih =>
      rw [List.foldl_cons, hl f List.mem_cons_self]
      exact ih fun g hg => hl g (List.mem_cons_of_mem _ hg)
  exact hall _ fun f hf => hfld f (List.mem_of_mem_filter hf)

/-- The bits of a field below bit 32 are those of the word that the bus carries. -/
theorem bits_of_word {v lsb width : Nat} (h : lsb + width ≤ 32) : v % 2 ^ 32 / 2 ^ lsb % 2 ^ width = v / 2 ^ lsb % 2 ^ width := by
  apply Nat.eq_of_testBit_eq
  intro k
  simp only [Nat.testBit_mod_two_pow, Nat.testBit_div_two_pow]
  by_cases hk : k < width
  · have hlow : k + lsb < 32 := by omega
    simp [hk, hlow]
  · simp [hk]

end same

/-! ### The return to the primary source (R153) -/

section restore
variable {s : State} {a : Access} {n : Ch} {v : Nat}

/-- The register of an interface's control. -/
def pifCtlReg : Reg := ⟨"PIFn_CTL", 0x40180000, 4, 0x10000, 1, 0, [PIFn_CTL_dir_inv, PIFn_CTL_trig_sel, PIFn_CTL_src_restore,
  PIFn_CTL_fb_en, PIFn_CTL_z_corr, PIFn_CTL_z_en, PIFn_CTL_sec_src, PIFn_CTL_pri_src, PIFn_CTL_en]⟩

/-- The fields that a write of the control stores. -/
def pifCtlFlds : List Fld := [PIFn_CTL_dir_inv, PIFn_CTL_trig_sel, PIFn_CTL_fb_en, PIFn_CTL_z_corr, PIFn_CTL_z_en, PIFn_CTL_sec_src,
  PIFn_CTL_pri_src, PIFn_CTL_en]

theorem pifCtlReg_flds : ∀ f ∈ pifCtlReg.flds, f.acc = .w1s ∨ f.acc = .rw ∧ f ∈ pifCtlFlds ∧ f.lsb + f.width ≤ 32 := by decide

/-- A write of the control that changes no field passes where the sources and MA's divider stand as R118 and R140 allow. -/
theorem preWrite_pifCtl_same
    (hsrc : pifSrcOk (s.getB PIFn_CTL_en n.val) (s.get PIFn_CTL_pri_src n.val) (s.get PIFn_CTL_sec_src n.val) = true)
    (hclk : pifClkOk (s.get PIFn_CTL_pri_src n.val) (s.get PIFn_SER_clk_div n.val) = true) :
    preWrite s s a ⟨pifCtlReg, n.val, 0, v⟩ = vPass := by
  have hpif : preWrite s s a ⟨pifCtlReg, n.val, 0, v⟩ = prePif s s ⟨pifCtlReg, n.val, 0, v⟩ := by
    have hblk : blockOf pifCtlReg.addr = 0x18 := by decide
    simp only [preWrite, hblk]
  have his : (⟨pifCtlReg, n.val, 0, v⟩ : Wr).is PIFn_CTL_en = true := rfl
  simp only [hpif, prePif, his, if_true, chg, bne_self_eq_false, Bool.or_self, Bool.not_false, Bool.or_true, Bool.true_and, Wr.ch, chOf_val,
    hsrc, hclk, vIf]

/-- SRC_RESTORE where the primary source is healthy and its speed is valid. -/
theorem srcRestore_requests (hadm : Admits s a) (hbit : v / 2 ^ 12 % 2 = 1)
    (hsame : ∀ f ∈ pifCtlFlds, s.get f n.val = v / 2 ^ f.lsb % 2 ^ f.width)
    (hsrc : pifSrcOk (s.getB PIFn_CTL_en n.val) (s.get PIFn_CTL_pri_src n.val) (s.get PIFn_CTL_sec_src n.val) = true)
    (hclk : pifClkOk (s.get PIFn_CTL_pri_src n.val) (s.get PIFn_SER_clk_div n.val) = true) (hhealthy : srcHealthy s n true = true)
    (hvalid : (srcView s n (srcCodeOf s n true)).2.2.2.1 = true) :
    ∃ t, exec (.srcRestore a n v) s = .next t ∧ (t.port a.ini).reply = .none ∧ (t.pif n).restore = true := by
  obtain ⟨⟨hheld, hwf⟩, hp, hlock, hc⟩ := hadm
  have hreg : regOf (PIFn_CTL_en.at n.val 0) = some (pifCtlReg, n.val, 0) := regOf_PIFn_CTL n
  have hbus : busAddr (PIFn_CTL_en.at n.val 0) = true := by fin_cases n <;> rfl
  have hkept : applyWr s ⟨pifCtlReg, n.val, 0, v % 2 ^ 32⟩ [] = s := by
    refine applyWr_of_get hwf fun f hf => (pifCtlReg_flds f hf).imp_right ?_
    rintro ⟨hacc, hmem, hlow⟩
    exact ⟨hacc, (bits_of_word hlow).trans (hsame f hmem).symm⟩
  have hasked : ((⟨pifCtlReg, n.val, 0, v % 2 ^ 32⟩ : Wr).bits PIFn_CTL_src_restore == 1) = true :=
    beq_iff_eq.mpr ((bits_of_word (by decide)).trans hbit)
  have hpost : postWrite s a ⟨pifCtlReg, n.val, 0, v % 2 ^ 32⟩ s = s.modPif n (fun p => { p with restore := true }) := by
    rw [postWrite_PIFn_CTL rfl, hasked, Bool.and_not_self, State.onIf_false, State.onIf_true, Wr.ch, chOf_val, srcRestore, hhealthy, hvalid]
    rfl
  have hexec : exec (.srcRestore a n v) s = .next ((s.modPif n (fun p => { p with restore := true })).answer a.ini .none) := by
    show wrFld s a PIFn_CTL_en n.val 0 v = _
    rw [wrFld, live_run s hheld, busWrite_reg hc hp hbus hreg rfl, writeReg_open hlock, hkept, preWrite_pifCtl_same hsrc hclk]
    simp only [vPass, List.isEmpty_nil, if_true, hkept, hpost]
    rfl
  refine ⟨_, hexec, State.answer_port _ _ _, ?_⟩
  have hpif : ((s.modPif n (fun p => { p with restore := true })).answer a.ini .none).pif n =
      (s.modPif n (fun p => { p with restore := true })).pif n := rfl
  rw [hpif, modPif_pif]

end restore

/-! ### The statement -/

/-- Settles O13: a first sample, a frame's start, its end and its failure each leave what the rules give, and what a latch of the tick
records of it touches nothing decoded; the record of a latch stands in Chuck behind whatever the latch found before it; a write of the
control that changes no field is the request alone. -/
theorem sampledPositions : Obligations.SampledPositions := by
  unfold Obligations.SampledPositions
  intro s n hs
  refine ⟨fun sin cos due hused hsin hcos hfirst hcentre hlo hhi => ?_, serFrameStart_runs hs, serFrameStart_waits hs,
    fun slo => serFrameStart_overruns hs, fun bits delay => serFrameEnd_first hs, serTimeout_fails hs, spdTimeout_invalidates hs,
    periodLatch_records hs, fun a v => srcRestore_requests⟩
  exact rsvSample_first hs hused hsin hcos hcentre rfl rfl hlo hhi hfirst

end Sys2Proof.Proofs
end

end

/-! # Proofs: the family of spec/05_leg_generators.md -/

section
/- One declaration after the other: proofs that run side by side would each hold a thread while they wait for the kernel. -/
set_option Elab.async false

section
/-! PROOF. What keeps the legs in order (O54): a leg's order over the values that it reads, and the updates of the state that keep it. A
state is `Legal` where its stores are in form and every leg is in order. -/

namespace Sys2Proof.Proofs

open Sys2Proof Sys2Proof.Machine Sys2Proof.Safety

/-! ### Legs in order -/

/-- A leg whose outputs stand at `gh` and `gl` is in order: what `LegOk` says of a leg, over the values it reads. -/
def InOrder (gh gl : Bool) (g : LegSt) : Prop :=
  (gh, gl) ≠ (true, true) ∧ (g.waitH = true → gl = false ∧ g.waitL = false) ∧ (g.waitL = true → gh = false) ∧
    g.forced ≠ some (true, true)

theorem legOk_iff {s : State} {k : Leg} : LegOk s k ↔ InOrder (outputs s k).1 (outputs s k).2 s.gen.legs[k] := Iff.rfl

/-- A change of a leg that leaves what `InOrder` reads of it as it was, or takes its placed switch state away. -/
def Calm (f : LegSt → LegSt) : Prop :=
  ∀ g, (f g).waitH = g.waitH ∧ (f g).waitL = g.waitL ∧ ((f g).forced = g.forced ∨ (f g).forced = none)

theorem InOrder.calm {gh gl : Bool} {g : LegSt} {f : LegSt → LegSt} (h : InOrder gh gl g) (hf : Calm f) : InOrder gh gl (f g) := by
  obtain ⟨hboth, hhigh, hlow, hforced⟩ := h
  obtain ⟨hwh, hwl, hfo⟩ := hf g
  refine ⟨hboth, hwh ▸ hwl ▸ hhigh, hwl ▸ hlow, ?_⟩
  rcases hfo with hfo | hfo <;> rw [hfo]
  · exact hforced
  · nofun

/-- The stores are in canonical form, and every leg is in order. -/
structure Legal (s : State) : Prop where
  wf : s.wf = true
  legs : LegsOk s

/-- Every state that an outcome leads to is legal. -/
def LegalEnd (o : Out) : Prop := ∀ t, o = .next t → Legal t

/-- Everything but the leg generators, the registers of the outputs, and writes of a register whose field is not said. -/
def offLegsMask : Nat := 0x1ffffffffffffffffffffffffffffffffffffffffffffffffffffffffffffffffffffffffffffffffffffffffffffffffffffffffffffffffffffffffffffffffffffffffffffff3ffffffffffffffffffffffffffffffffffffffffffffffffffffffffffffffffffff7ffe

theorem offLegs : Sub offLegsMask offLegsMask := ⟨Nat.and_self _⟩

/-- The field is not the state of an output (R196). -/
abbrev NotOutput (f : Fld) : Prop := f.id ≠ LEGk_STAT_gl.id ∧ f.id ≠ LEGk_STAT_gh.id

theorem outputs_of_put {s : State} {f : Fld} {v i j : Nat} {k : Leg} (hs : s.wf = true) (hf : NotOutput f) :
    outputs (s.put f v i j) k = outputs s k := by
  simp only [outputs, State.getB]
  rw [State.get_put_ne hs fun e => hf.2 e.symm, State.get_put_ne hs fun e => hf.1 e.symm]

theorem bit_shows (b : Bool) : ((if b then 1 else 0 : Nat) % 2 ^ 1 != 0) = b := by cases b <;> rfl

theorem outputs_high {s : State} {b : Bool} {k : Leg} (hs : s.wf = true) :
    outputs (s.putB LEGk_STAT_gh b k.val) k = (b, (outputs s k).2) := by
  simp only [outputs, State.getB, State.putB]
  rw [State.get_put_same hs, State.get_put_ne hs (by decide)]
  exact Prod.ext (bit_shows b) rfl

theorem outputs_low {s : State} {b : Bool} {k : Leg} (hs : s.wf = true) :
    outputs (s.putB LEGk_STAT_gl b k.val) k = ((outputs s k).1, b) := by
  simp only [outputs, State.getB, State.putB]
  rw [State.get_put_same hs, State.get_put_ne hs (by decide)]
  exact Prod.ext rfl (bit_shows b)

theorem outputs_other {s : State} {f : Fld} {b : Bool} {j k : Leg} (hs : s.wf = true) (hj : j ≠ k) :
    outputs (s.putB f b k.val) j = outputs s j := by
  have hne : j.val % 1024 ≠ k.val % 1024 := by
    have := Fin.val_ne_of_ne hj
    omega
  simp only [outputs, State.getB, State.putB]
  rw [State.get_put_key hs (Fld.key_ne_of_fst hne), State.get_put_key hs (Fld.key_ne_of_fst hne)]

namespace Legal

variable {s t : State}

/-- Whatever stays apart from the legs keeps them in order. -/
protected theorem quiet (m : Moves offLegsMask s t) (h : Legal s) : Legal t := by
  have hgen : t.gen = s.gen := m.part (p := .gen) (by decide +kernel)
  have hout : ∀ k, outputs t k = outputs s k := fun k => by
    simp only [outputs, State.getB, m.same h.wf LEGk_STAT_gh k.val 0 (by decide +kernel),
      m.same h.wf LEGk_STAT_gl k.val 0 (by decide +kernel)]
  refine ⟨m.wf h.wf, fun k => ?_⟩
  rw [legOk_iff, hout, hgen]
  exact h.legs k

/-- A change outside the stores and the legs. -/
protected theorem congr (h : Legal s) (hregs : t.regs = s.regs) (hrate : t.rate = s.rate) (hmem : t.mem = s.mem) (hsett : t.sett = s.sett)
    (hlegs : t.gen.legs = s.gen.legs) : Legal t := by
  have hget : ∀ f i j, t.get f i j = s.get f i j := fun f i j => by simp only [State.get, hregs]
  refine ⟨?_, fun k => ?_⟩
  · have := h.wf
    simpa only [State.wf, hregs, hrate, hmem, hsett] using this
  · have := h.legs k
    simpa only [legOk_iff, outputs, State.getB, hget, hlegs] using this

/-- A change of one leg and of its outputs' registers: the leg has to be in order, the others are as they were. -/
theorem of_leg {k : Leg} (h : Legal s) (hwf : t.wf = true) (hk : LegOk t k)
    (hout : ∀ j, j ≠ k → outputs t j = outputs s j) (hleg : ∀ j, j ≠ k → t.gen.legs[j] = s.gen.legs[j]) : Legal t := by
  refine ⟨hwf, fun j => ?_⟩
  by_cases hj : j = k
  · exact hj ▸ hk
  · rw [legOk_iff, hout j hj, hleg j hj]
    exact h.legs j

/-! ### Ways to go on -/

protected theorem ite {c : Prop} [Decidable c] (h : Legal s) (k : Legal t) : Legal (if c then s else t) := by split <;> assumption

protected theorem onIf {c : Bool} {f : State → State} (h : Legal s) (hf : ∀ t, Legal t → Legal (f t)) : Legal (s.onIf c f) :=
  .ite (hf s h) h

protected theorem foldl {α : Type} {l : List α} {f : State → α → State} (h : Legal s) (hf : ∀ t x, Legal t → Legal (f t x)) :
    Legal (l.foldl f s) := by
  induction l generalizing s with
  | nil => exact h
  | cons x l ih => exact ih (hf s x h)

protected theorem forL {α : Type} {l : List α} {f : α → State → State} (h : Legal s) (hf : ∀ x t, Legal t → Legal (f x t)) :
    Legal (s.forL l f) := .foldl h fun t x => hf x t

protected theorem forN {n : Nat} {f : Nat → State → State} (h : Legal s) (hf : ∀ x t, Legal t → Legal (f x t)) :
    Legal (s.forN n f) :=
  .foldl h fun t x => hf x t

protected theorem of_fst {α : Type} {x : State × α} {y : α} (e : x = (s, y)) (h : Legal x.1) : Legal s := by
  subst e
  exact h

protected theorem of_snd {α : Type} {x : α × State} {y : α} (e : x = (y, s)) (h : Legal x.2) : Legal s := by
  subst e
  exact h

end Legal

namespace LegalEnd

variable {s : State} {f : State → State}

protected theorem next (h : Legal s) : LegalEnd (.next s) := by
  intro t ht
  cases ht
  exact h

protected theorem quiet {o : Out} (m : Ends offLegsMask s o) (h : Legal s) : LegalEnd o := fun t ht => .quiet (m t ht) h

protected theorem live (h : Legal s) (hf : ∀ t, Legal t → Legal (f t)) : LegalEnd (live s f) := .next (.ite h (hf s h))

protected theorem faced (h : Legal s) (hf : ∀ t, Legal t → Legal (f t)) : LegalEnd (faced s f) := .live h fun _ h => .onIf h hf

protected theorem paired (h : Legal s) (hf : ∀ t, Legal t → Legal (f t)) : LegalEnd (paired s f) := .live h fun _ h => .onIf h hf

end LegalEnd

namespace Legal

variable {s t : State}

/-! ### Updates apart from the legs -/

protected theorem put {f : Fld} {v i j : Nat} (h : Legal s) (hf : NotOutput f := by decide) : Legal (s.put f v i j) := by
  refine ⟨State.put_wf h.wf, fun k => ?_⟩
  rw [legOk_iff, outputs_of_put h.wf hf]
  exact h.legs k

protected theorem putB {f : Fld} {b : Bool} {i j : Nat} (h : Legal s) (hf : NotOutput f := by decide) :
    Legal (s.putB f b i j) := .put h hf

protected theorem putS {f : Fld} {v : Int} {i j : Nat} (h : Legal s) (hf : NotOutput f := by decide) :
    Legal (s.putS f v i j) := .put h hf

protected theorem incSat {f : Fld} {i j : Nat} (h : Legal s) (hf : NotOutput f := by decide) : Legal (s.incSat f i j) :=
  .put h hf

protected theorem incWrap {f : Fld} {i j : Nat} (h : Legal s) (hf : NotOutput f := by decide) : Legal (s.incWrap f i j) :=
  .put h hf

protected theorem putBit {f : Fld} {k : Nat} {b : Bool} {i j : Nat} (h : Legal s) (hf : NotOutput f := by decide) :
    Legal (s.putBit f k b i j) := .put h hf

protected theorem put64 {lo hi : Fld} {v i j : Nat} (h : Legal s) (hlo : NotOutput lo := by decide)
    (hhi : NotOutput hi := by decide) : Legal (s.put64 lo hi v i j) := .put (.put h hlo) hhi

protected theorem cinc {r : Carr} {f g : Fld} (h : Legal s) (hf : NotOutput f := by decide)
    (hg : NotOutput g := by decide) : Legal (cinc s r f g) := by
  cases r
  · exact .put h hf
  · exact .put h hg

protected theorem irq {n} (h : Legal s) : Legal (s.irq n) := .putBit h

protected theorem cput {r : Carr} {f g : Fld} {v : Nat} (h : Legal s) (hf : NotOutput f := by decide)
    (hg : NotOutput g := by decide) : Legal (cput s r f g v) := by
  cases r
  · exact .put h hf
  · exact .put h hg

protected theorem logEv {c : Nat} {l : List Nat} (h : Legal s) : Legal (s.logEv c l) := .quiet (State.logEv_moves offLegs.up .refl) h

protected theorem complete {c st l} (h : Legal s) : Legal (complete s c st l) := .quiet (complete_moves offLegs.up .refl) h

protected theorem raise {n p : Nat} (h : Legal s) : Legal (s.raise n p) := .congr h rfl rfl rfl rfl rfl

protected theorem owlRec {t a w} (h : Legal s) : Legal (s.owlRec t a w) := .quiet (State.owlRec_moves offLegs.up .refl) h

protected theorem owlTrig {n} (h : Legal s) : Legal (s.owlTrig n) := .quiet (State.owlTrig_moves offLegs.up .refl) h

protected theorem modSp {n f} (h : Legal s) : Legal (s.modSp n f) := .congr h rfl rfl rfl rfl rfl

protected theorem modDtc {n f} (h : Legal s) : Legal (modDtc s n f) := .congr h rfl rfl rfl rfl rfl

protected theorem modQp {q f} (h : Legal s) : Legal (s.modQp q f) := .congr h rfl rfl rfl rfl rfl

protected theorem modTls {f} (h : Legal s) : Legal (s.modTls f) := .congr h rfl rfl rfl rfl rfl

protected theorem modPwr {f} (h : Legal s) : Legal (s.modPwr f) := .congr h rfl rfl rfl rfl rfl

protected theorem modChan {n f} (h : Legal s) : Legal (s.modChan n f) := .congr h rfl rfl rfl rfl rfl

protected theorem modLink {l f} (h : Legal s) : Legal (s.modLink l f) := .congr h rfl rfl rfl rfl rfl

protected theorem modBdg {f} (h : Legal s) : Legal (s.modBdg f) := .congr h rfl rfl rfl rfl rfl

/-! ### Carriers, fault inputs and legs -/

protected theorem modCarr {r f} (h : Legal s) : Legal (s.modCarr r f) := .congr h rfl rfl rfl rfl rfl

protected theorem syncLvl (h : Legal s) : Legal s.syncLvl := .quiet (State.syncLvl_moves offLegs.up .refl) h

protected theorem modFlt {b f} (h : Legal s) : Legal (s.modFlt b f) := .congr h rfl rfl rfl rfl rfl

protected theorem gen {v : GenSt} (h : Legal s) (hv : v.legs = s.gen.legs := by rfl) : Legal { s with gen := v } :=
  .congr h rfl rfl rfl rfl hv

/-- One leg changes, and its outputs' registers stay. -/
theorem modLeg_of {k : Leg} {f : LegSt → LegSt} (h : Legal s) (hf : InOrder (outputs s k).1 (outputs s k).2 (f s.gen.legs[k])) :
    Legal (s.modLeg k f) := by
  have hk : (s.modLeg k f).gen.legs[k] = f s.gen.legs[k] := modLeg_leg
  refine h.of_leg (k := k) h.wf ?_ (fun _ _ => rfl) fun j hj => vupd_ne _ _ hj
  rw [legOk_iff, hk]
  exact hf

protected theorem modLeg {k : Leg} {f : LegSt → LegSt} (h : Legal s) (hf : Calm f := by exact fun _ => ⟨rfl, rfl, .inl rfl⟩) :
    Legal (s.modLeg k f) := h.modLeg_of ((legOk_iff.mp (h.legs k)).calm hf)

/-- One leg changes, and an output of it is written. -/
theorem turn {k : Leg} {f : LegSt → LegSt} {g : Fld} {b : Bool} (h : Legal s)
    (hf : InOrder (outputs ((s.modLeg k f).putB g b k.val) k).1 (outputs ((s.modLeg k f).putB g b k.val) k).2 (f s.gen.legs[k])) :
    Legal ((s.modLeg k f).putB g b k.val) := by
  have hwf : (s.modLeg k f).wf = true := h.wf
  have hk : (s.modLeg k f).gen.legs[k] = f s.gen.legs[k] := modLeg_leg
  refine h.of_leg (k := k) (State.put_wf hwf) ?_ (fun j hj => outputs_other hwf hj) fun j hj => vupd_ne _ _ hj
  exact legOk_iff.mpr (hk ▸ hf)

/-- One leg changes together with its outputs. -/
theorem drive {k : Leg} {f : LegSt → LegSt} {gh gl : Bool} (h : Legal s) (hf : InOrder gh gl (f s.gen.legs[k])) :
    Legal (((s.modLeg k f).putB LEGk_STAT_gh gh k.val).putB LEGk_STAT_gl gl k.val) := by
  have hwf : (s.modLeg k f).wf = true := h.wf
  have hwf' : ((s.modLeg k f).putB LEGk_STAT_gh gh k.val).wf = true := State.put_wf hwf
  have hk : (s.modLeg k f).gen.legs[k] = f s.gen.legs[k] := modLeg_leg
  refine h.of_leg (k := k) (State.put_wf hwf') ?_ (fun j hj => (outputs_other hwf' hj).trans (outputs_other hwf hj))
    fun j hj => vupd_ne _ _ hj
  rw [legOk_iff, outputs_low hwf', outputs_high hwf]
  exact hk ▸ hf

end Legal

end Sys2Proof.Proofs
end

section
/-! PROOF. The legs themselves (O54): what drives a leg asks for one output at most (R191), and a dead time keeps the complement off
(R192). With them, the fault inputs and the carriers keep every leg in order. -/

namespace Sys2Proof.Proofs

open Sys2Proof Sys2Proof.Machine Sys2Proof.Safety

namespace Legal

variable {s : State}

protected theorem blankStart {k} (h : Legal s) : Legal (s.blankStart k) :=
  .syncLvl (.forL h fun _ _ h => .onIf h fun _ h => .modFlt h)

protected theorem chopWatch {k} (h : Legal s) : Legal (chopWatch s k) := .quiet (chopWatch_moves offLegs.up .refl) h

end Legal

theorem patOut_single (p : Pat) : patOut p ≠ (true, true) := by cases p <;> decide

theorem useOut_single {use : Nat} {o : Bool × Bool} (h : o ≠ (true, true)) : useOut use o ≠ (true, true) := by
  obtain ⟨gh, gl⟩ := o
  cases gh <;> cases gl <;> simp_all [useOut]

/-- No source asks for both outputs of a leg (R191). -/
theorem legWant_single {s : State} {k : Leg} (hf : s.gen.legs[k].forced ≠ some (true, true)) : (legWant s k).2 ≠ (true, true) := by
  have hduty : ∀ use cmd, useOut use (match s.gen.legs[k].forced with | some b => b | none => (cmd, !cmd)) ≠ (true, true) := by
    intro use cmd
    refine useOut_single ?_
    split
    · exact fun e => hf (by simp_all)
    · cases cmd <;> decide
  have hpat := fun use p => useOut_single (use := use) (patOut_single p)
  have hlow := fun use => useOut_single (use := use) (o := (false, true)) (by decide)
  have hoff : ((false, false) : Bool × Bool) ≠ (true, true) := by decide
  unfold legWant
  extract_lets g use duty chOff low
  have hrest : low.2 ≠ (true, true) := by
    unfold low
    split
    · exact hpat _ _
    · exact hpat _ _
    · split
      · exact hoff
      · split
        · exact hoff
        · split
          · exact hlow _
          · exact hduty _ _
  split
  · exact hoff
  · split
    · split
      · exact hpat _ _
      · exact hrest
    · exact hrest

/-- What `legApply` leaves of a leg whose source asks for `dh` and `dl`: a new wait keeps the complement off (R192). -/
theorem inOrder_waits {dh dl wh wl : Bool} {g : LegSt} (hone : (dh, dl) ≠ (true, true)) (hwh : g.waitH = true → dh = true)
    (hwl : g.waitL = true → dl = true) (hforced : g.forced ≠ some (true, true)) (hh : wh = g.waitH) (hl : wl = g.waitL) :
    InOrder (dh && !wh) (dl && !wl) g := by
  subst hh hl
  refine ⟨?_, fun h => ?_, fun h => ?_, hforced⟩ <;> cases dh <;> cases dl <;> simp_all

namespace Legal

variable {s : State}

protected theorem legApply {edge start k} (h : Legal s) : Legal (s.legApply edge start k) := by
  obtain ⟨-, -, -, hforced⟩ := legOk_iff.mp (h.legs k)
  have hone := legWant_single hforced
  unfold State.legApply
  extract_lets g w r dh dl gh gl compl dead waitH waitL onH onL s1 s2 s3 s4
  have hdrive : Legal s2 := h.drive (inOrder_waits hone (fun e => (by simp_all [waitH])) (fun e => (by simp_all [waitL])) hforced rfl rfl)
  split
  · exact h
  · exact .onIf (.onIf (.putB (.put hdrive)) fun _ h => .chopWatch h) fun _ h => .blankStart h

protected theorem legsApply (h : Legal s) : Legal s.legsApply := .forL h fun _ _ h => .legApply h

end Legal

/-- A dead time ends (R192): the complement of the output that turns on is off, and does not wait. -/
theorem LegalEnd.execDeadTimeEnd {s : State} {k high} (h : Legal s) : LegalEnd (execDeadTimeEnd k high s) := by
  refine .live h fun s h => ?_
  obtain ⟨hboth, hhigh, hlow, hforced⟩ := legOk_iff.mp (h.legs k)
  have hwf : ∀ f, (s.modLeg k f).wf = true := fun _ => h.wf
  extract_lets g
  split
  · cases hw : g.waitH with
    | false => exact h
    | true =>
      obtain ⟨hl, hwl⟩ := hhigh hw
      rw [State.onIf_true]
      refine .onIf (.chopWatch (h.turn ?_)) fun _ h => .blankStart h
      rw [outputs_high (hwf _)]
      exact ⟨fun e => Bool.false_ne_true (hl.symm.trans (congrArg Prod.snd e)), nofun,
        fun e => Bool.noConfusion (e.symm.trans hwl), hforced⟩
  · cases hw : g.waitL with
    | false => exact h
    | true =>
      have hh := hlow hw
      rw [State.onIf_true]
      refine .onIf (h.turn ?_) fun _ h => .blankStart h
      rw [outputs_low (hwf _)]
      refine ⟨fun e => Bool.false_ne_true (hh.symm.trans (congrArg Prod.fst e)), fun e => ?_, nofun, hforced⟩
      exact Bool.noConfusion (hw.symm.trans (hhigh e).2)

/-! ### Fault inputs, trip lines and the output gate (R162, R183 to R190) -/

protected theorem Legal.cutLegs {s : State} {b} (h : Legal s) : Legal (State.cutLegs s b) := .forL h fun _ _ h => .legApply (.modLeg h)

protected theorem Legal.latchSet {s : State} {b} (h : Legal s) : Legal (State.latchSet s b) := by
  unfold State.latchSet
  refine .ite h ?_
  extract_lets +onlyGivenNames _ _ _ s1
  have h1 : Legal s1 := .quiet (selShowAll_moves offLegs.up .refl) (.forL (.gen (.quiet
      (State.putLatch_moves offLegs.up .refl) h)) fun _ _ h => .legApply h)
  exact .forN (.forL (.owlTrig (.irq (.logEv h1))) fun _ _ h => .raise h) fun _ _ h => .onIf h fun _ h => .raise (.put h)

protected theorem Legal.endEdge {s : State} {kind idx} (h : Legal s) : Legal (State.endEdge s kind idx) :=
  .forL h fun _ _ h => .onIf h fun _ h => .modCarr h

protected theorem Legal.fltEffect {s : State} {b} (h : Legal s) : Legal (State.fltEffect s b) := by
  unfold State.fltEffect
  split
  · exact .quiet (State.cutCount_moves offLegs.up .refl) (.cutLegs h)
  · exact .latchSet h
  · exact .ite (.endEdge h) h
  · exact h

protected theorem Legal.fltReapply {s : State} {b} (h : Legal s) : Legal (State.fltReapply s b) :=
  .onIf h fun _ h => .quiet (State.cutCount_moves offLegs.up .refl) (.cutLegs h)

protected theorem Legal.fltActivate {s : State} {b} (h : Legal s) : Legal (State.fltActivate s b) :=
  .ite h (.fltEffect (.syncLvl (.modFlt h)))

protected theorem Legal.fltRelease {s : State} {b} (h : Legal s) : Legal (State.fltRelease s b) := .syncLvl (.modFlt h)

protected theorem Legal.tripRelease {s : State} (h : Legal s) : Legal (State.tripRelease s) :=
  .forL h fun _ _ h => .onIf h fun _ h => .fltRelease h

protected theorem Legal.latchClear {s : State} {v} (h : Legal s) : Legal (State.latchClear s v) :=
  .quiet (selShowAll_moves offLegs.up .refl) (.forL h fun _ _ h => .onIf h fun _ h => .forL (.gen (.quiet
      (State.putLatch_moves offLegs.up .refl) h)) fun _ _ h => .legApply (.onIf h fun _ h => .modLeg h))

protected theorem LegalEnd.execFaultInputActive {s : State} {j lvl} (h : Legal s) : LegalEnd (execFaultInputActive j lvl s) :=
  .live h fun _ h => .onIf (.modFlt h) fun _ h => .fltActivate h

protected theorem LegalEnd.execFaultInputInactive {s : State} {j lvl} (h : Legal s) : LegalEnd (execFaultInputInactive j lvl s) :=
  .live h fun _ h => .onIf (.modFlt h) fun _ h => .fltRelease h

protected theorem LegalEnd.execItripActive {s : State} {m} (h : Legal s) : LegalEnd (execItripActive m s) :=
  .live h fun _ h => .onIf h fun _ h => .fltActivate h

protected theorem LegalEnd.execBlankEnd {s : State} {m} (h : Legal s) : LegalEnd (execBlankEnd m s) :=
  .live h fun _ h => .onIf (.modFlt h) fun _ h => .fltActivate h

protected theorem Legal.gateRelease {s : State} (h : Legal s) : Legal (State.gateRelease s) :=
  .ite h (.legsApply (.forL h fun _ _ h => .modLeg h))

protected theorem Legal.gateHold {s : State} {f : Fld} (h : Legal s) (hf : NotOutput f := by decide) :
    Legal (s.gateHold f) :=
  .legsApply (.put h hf)

protected theorem Legal.gateEnd {s : State} {f : Fld} (h : Legal s) (hf : NotOutput f := by decide) :
    Legal (s.gateEnd f) :=
  .ite (.gateRelease (.put h hf)) h

/-! ### Carriers, duties and the delay line (R159 to R182) -/

protected theorem Legal.planUp {s : State} {r idx k} (h : Legal s) : Legal (planUp s r idx k) := by
  unfold planUp
  extract_lets +onlyGivenNames c g t0 tp a0 lead s1
  have h1 : Legal s1.2 := by
    unfold s1
    split
    · exact .quiet (judgePulse_moves offLegs.up .refl) h
    · exact h
  refine .ite (.modLeg h1) ?_
  extract_lets +onlyGivenNames lenDn dn w s2
  have h2 : Legal s2.2 := by
    unfold s2
    split
    · exact h1
    · exact .quiet (judgePulse_moves offLegs.up .refl) h1
  exact .modLeg h2

protected theorem Legal.planDown {s : State} {r idx k} (h : Legal s) : Legal (planDown s r idx k) := by
  unfold planDown
  extract_lets +onlyGivenNames c g t0 te b0 cmdAt lead s1
  have h1 : Legal s1.2 := by
    unfold s1
    split
    · exact .quiet (judgePulse_moves offLegs.up .refl) h
    · exact h
  refine .ite (.modLeg h1) ?_
  extract_lets +onlyGivenNames off _ _ w s2
  have h2 : Legal s2.2 := by
    unfold s2
    split
    · exact h1
    · exact .quiet (judgePulse_moves offLegs.up .refl) h1
  exact .modLeg h2

protected theorem Legal.planEdge {s : State} {r k} (h : Legal s) : Legal (planEdge s r k) := by
  unfold planEdge
  extract_lets +onlyGivenNames c g m t0 len hi w s1 _ t1 s2
  have h1 : Legal s1.2 := by
    unfold s1
    split
    · exact h
    · exact .quiet (judgePulse_moves offLegs.up .refl) h
  have h2 : Legal s2.2 := by
    unfold s2
    split
    · exact h1
    · exact .quiet (judgePulse_moves offLegs.up .refl) h1
  exact .modLeg h2

protected theorem Legal.planHalf {s : State} {r} (h : Legal s) : Legal (planHalf s r) :=
  .forL h fun _ _ h => .ite (.ite (.planDown h) (.planUp h)) (.planEdge h)

protected theorem Legal.takeCommit {s : State} {r c} (h : Legal s) : Legal (takeCommit s r c) := by
  unfold takeCommit
  extract_lets +onlyGivenNames p _ m both _ setUp setDn hUp hDn lenT _ s1 s2
  have h1 : Legal s1 := by
    unfold s1
    split
    · exact .logEv (.cput (.cinc (.modCarr h)))
    · exact .modCarr h
  have h2 : Legal s2 := .forL h1 fun _ _ h => .onIf (.modLeg h) fun _ h => .quiet (State.logRate_moves offLegs.up .refl) (.cput (.cinc h))
  exact .cput h2

protected theorem Legal.syncMark {s : State} {n t} (h : Legal s) : Legal (syncMark s n t) :=
  .forL h fun _ _ h => .onIf h fun _ h => .modCarr h

protected theorem Legal.beginHalf {s : State} {r down t} (h : Legal s) : Legal (beginHalf s r down t) := by
  unfold beginHalf
  extract_lets +onlyGivenNames c _ s1 s2
  have h1 : Legal s1 := .modCarr (.onIf h fun _ h => .cput h)
  have h2 : Legal s2 := by
    unfold s2
    split
    · exact .onIf h1 fun _ h => .syncMark h
    · exact h1
  exact .cput h2

protected theorem Legal.carrApply {s : State} {r start} (h : Legal s) : Legal (carrApply s r start) := .forL h fun _ _ h => .legApply h

protected theorem Legal.guardSort {s : State} {r} (h : Legal s) : Legal (guardSort s r) := .ite h (.modCarr h)

protected theorem Legal.carrierReload {s : State} {r} (h : Legal s) : Legal (carrierReload s r) := by
  unfold carrierReload
  extract_lets +onlyGivenNames _ c _ _ _ _ _ _ _ _ s1
  have h1 : Legal s1 := .forL (.cput (.modCarr (.modCarr (.takeCommit (.modCarr (.beginHalf (.modCarr
      (.guardSort h)))))))) fun _ _ h => .modLeg h
  exact .carrApply (.planHalf h1)

protected theorem Legal.offerCommit {s : State} {r c onTime} (h : Legal s) : Legal (offerCommit s r c onTime) := by
  unfold offerCommit
  extract_lets +onlyGivenNames _ s1
  have h1 : Legal s1 := .cput (.cput h)
  exact .ite (.modCarr h1) (.modCarr h1)

protected theorem Legal.auxCommit {s : State} {a c} (h : Legal s) : Legal (auxCommit s a c) :=
  .ite h (.ite (.offerCommit h) (.modCarr (.cput (.cput h))))

protected theorem Legal.carrierStart {s : State} {r t} (h : Legal s) : Legal (carrierStart s r t) :=
  .cput (.forL (.modCarr h) fun _ _ h => .modLeg h)

protected theorem Legal.carrierStop {s : State} {r} (h : Legal s) : Legal (carrierStop s r) := by
  unfold carrierStop
  extract_lets +onlyGivenNames _ _ _ s1
  have h1 : Legal s1 := .forL (.forL (.cput (.cput (.modCarr h))) fun _ _ h => .modLeg h) fun _ _ h => .legApply h
  split
  · exact .quiet (profTake_moves offLegs.up .refl) h1
  · exact h1

protected theorem Legal.plainHalf {s : State} {r down} (h : Legal s) : Legal (plainHalf s r down) :=
  .onIf (.planHalf (.beginHalf (.onIf h fun _ h => .takeCommit h))) fun _ h => .carrApply h

protected theorem Legal.endCuts {s : State} {r} (h : Legal s) : Legal (endCuts s r) := .forL h fun _ _ h => .legApply (.modLeg h)

/-- Planned edges move onto whole ticks; what a leg waits for stays. -/
protected theorem Legal.dlWhole {s : State} (h : Legal s) : Legal (dlWhole s) := by
  refine ⟨h.wf, fun k => ?_⟩
  have hleg : (dlWhole s).gen.legs[k] = { s.gen.legs[k] with edges := s.gen.legs[k].edges.map fun e => (wholeTick e.1, e.2) } :=
    Vector.getElem_map _ _
  rw [legOk_iff, hleg]
  exact h.legs k

protected theorem Legal.dlMeasure {s : State} {code} (h : Legal s) : Legal (dlMeasure s code) := by
  unfold dlMeasure
  split
  · exact .onIf (.gen (.put (.put (.put h)))) fun _ h => .raise (.logEv h)
  · exact .onIf (.gen (.put h)) fun _ h => .raise (.logEv (.dlWhole h))

protected theorem LegalEnd.execDlCal {s : State} {code} (h : Legal s) : LegalEnd (execDlCal code s) := .live h fun _ h => .dlMeasure h

end Sys2Proof.Proofs
end

section
/-! PROOF. Converters, channels and spindles keep every leg in order (O54). -/

namespace Sys2Proof.Proofs

open Sys2Proof Sys2Proof.Machine Sys2Proof.Safety

/-! ### Comparators (R108) -/

protected theorem Legal.cmpSample {s : State} {i code} (h : Legal s) : Legal (cmpSample s i code) := by
  unfold cmpSample
  refine .ite h ?_
  extract_lets +onlyGivenNames m hi lo _ F hc lc ho _ hNew lNew hEv lEv _ _ s1 _ _ s2
  have h1 : Legal s1 := .onIf (.putB (.putB (.quiet (State.modCmp_moves offLegs.up .refl) h))) fun _ h => .endEdge (.owlTrig (.irq
      (.put h)))
  have h2 : Legal s2 := .onIf (.onIf (.onIf h1 fun _ h => .endEdge (.owlTrig (.irq (.put h)))) fun _ h => .logEv h) fun _ h => .logEv h
  exact .tripRelease h2

protected theorem Legal.cmpSamples {s : State} {i codes} (h : Legal s) : Legal (cmpSamples s i codes) := .forL h fun _ _ h => .cmpSample h

protected theorem LegalEnd.execCmpAssert {s : State} {i codes} (h : Legal s) : LegalEnd (execCmpAssert i codes s) :=
  .live h fun _ h => .cmpSamples h

protected theorem LegalEnd.execCmpDeassert {s : State} {i codes} (h : Legal s) : LegalEnd (execCmpDeassert i codes s) :=
  .live h fun _ h => .cmpSamples h

/-! ### Channels and their safe states (R269 to R281) -/

protected theorem Legal.setPat {s : State} {n pat} (h : Legal s) : Legal (setPat s n pat) :=
  .quiet (selShow_moves offLegs.up .refl) (.legsApply (.put (.put h)))

protected theorem Legal.selUpdate {s : State} {n} (h : Legal s) : Legal (selUpdate s n) := by
  unfold selUpdate
  extract_lets +onlyGivenNames c moved _ s1
  have h1 : Legal s1 := .onIf (.quiet (selShow_moves offLegs.up .refl) (.put h)) fun _ h => .legsApply h
  exact .ite h1 (.ite (.ite h1 (.setPat h1)) (.ite (.logEv (.setPat (.put h1))) h1))

protected theorem Legal.selRefresh {s : State} {n} (h : Legal s) : Legal (selRefresh s n) := .selUpdate (.modChan h)

protected theorem Legal.setState {s : State} {n new cause} (h : Legal s) : Legal (setState s n new cause) := by
  unfold setState
  extract_lets c s1 s2 s3 s4 s5 s6 ends s7 s8
  have h3 : Legal s3 := .owlRec (.irq (.logEv (.put (.put h))))
  have h4 : Legal s4 := .onIf h3 fun _ h => .owlTrig h
  have h7 : Legal s7 := .onIf (.onIf (.onIf h4 fun _ h => .put (.put (.put h))) fun _ h => .put (.put h)) fun _ h => .put (.put h)
  have h8 : Legal s8 := by
    refine .onIf h7 fun _ h => .modChan (.quiet (State.modFld_moves offLegs.up .refl) (.modSp (.put (.put (.modChan (.put ?_))))))
    exact .forL h fun _ _ h => .modLeg h fun _ => ⟨rfl, rfl, .inr rfl⟩
  exact .legsApply h8

protected theorem Legal.intoSafe {s : State} {m cause safety pat held} (h : Legal s) : Legal (intoSafe s m cause safety pat held) :=
  .setPat (.putB (.putB (.modChan (.setState (.putB (.put (.quiet (strayMark_moves offLegs.up .refl) h)))))))

protected theorem Legal.safeMark {s : State} {n} (h : Legal s) : Legal (safeMark s n) := .modChan (.onIf h fun _ h => .put (.modCarr h))

protected theorem Legal.enterSafe {s : State} {n cause safety pat held} (h : Legal s) : Legal (enterSafe s n cause safety pat held) := by
  unfold enterSafe
  extract_lets +onlyGivenNames others s1
  have h1 : Legal s1 := by
    unfold s1
    split
    · exact .quiet (endDischarge_moves offLegs.up .refl) h
    · exact h
  exact .forL (.intoSafe h1) fun _ _ h => .intoSafe h

protected theorem Legal.safeRequest {s : State} {n cause} (h : Legal s) : Legal (safeRequest s n cause) := by
  unfold safeRequest
  extract_lets +onlyGivenNames s1
  have h1 : Legal s1 := .selUpdate (.safeMark h)
  refine .ite ?_ (.enterSafe h1)
  extract_lets +onlyGivenNames s2
  have h2 : Legal s2 := .onIf h1 fun _ h => .put (.put h)
  exact .ite (.setPat (.put h2)) h2

protected theorem Legal.enterStop {s : State} {n cause safety} (h : Legal s) : Legal (enterStop s n cause safety) := by
  unfold enterStop
  exact .quiet (State.modFld_moves offLegs.up .refl) (.put (.putB (.setState (.onIf h fun _ h => .put h))))

protected theorem Legal.stopRequest {s : State} {n cause} (h : Legal s) : Legal (stopRequest s n cause) := .onIf h fun _ h => .enterStop h

protected theorem Legal.chSafeReaction {s : State} {n src} (h : Legal s) : Legal (chSafeReaction s n src) :=
  .ite (.enterStop h) (.safeRequest h)

protected theorem Legal.chSafeCmd {s : State} {n req} (h : Legal s) : Legal (chSafeCmd s n req) := by
  unfold chSafeCmd
  extract_lets +onlyGivenNames s1
  have h1 : Legal s1 := .selUpdate (.safeMark h)
  exact .ite (.enterStop h1) (.onIf (.ite (.setPat (.putB h1)) (.enterSafe h1)) fun _ h => .logEv h)

protected theorem Legal.swfailSet {s : State} {n hs ls} (h : Legal s) : Legal (swfailSet s n hs ls) :=
  .ite h (.onIf (.selUpdate (.onIf (.raise (.logEv (.put (.put h)))) fun _ h => .raise h)) fun _ h => .logEv (.setPat (.put h)))

/-! ### Measurements that a spindle misses -/

protected theorem Legal.fbExpire {s : State} {n} (h : Legal s) : Legal (fbExpire s n) := by
  unfold fbExpire
  extract_lets +onlyGivenNames s1
  have h1 : Legal s1 := .put (.logEv h)
  exact .ite (.stopRequest h1) (.raise h1)

protected theorem Legal.measLost {s : State} {n k} (h : Legal s) : Legal (measLost s n k) := by
  unfold measLost
  extract_lets +onlyGivenNames s1
  have h1 : Legal s1 := .logEv (.putBit h)
  exact .ite h1 (.ite (.ite h1 (.fbExpire h1)) (.ite (.ite h1 (.fbExpire h1)) (.ite (.modSp h1) (.fbExpire h1))))

protected theorem Legal.account {s : State} {n} (h : Legal s) : Legal (account s n) := by
  unfold account
  refine .ite h ?_
  extract_lets +onlyGivenNames good pres seen miss bits _ _ mn fn lost0 _ s1 _ s2
  have h1 : Legal s1 := .forL (.forL (.put (.put h)) fun _ _ h => .quiet (State.modMeas_moves offLegs.up .refl) h) fun _ _ h => .ite
      (.onIf h fun _ h => .putBit h) (.onIf h fun _ h => .measLost h)
  have h2 : Legal s2 := .onIf (.onIf h1 fun _ h => .logEv (.quiet (holdClear_moves offLegs.up .refl) h)) fun _ h => .fbExpire (.quiet
      (holdClear_moves offLegs.up .refl) h)
  exact .modSp h2

/-! ### DTC, start-up tasks and handover (R246 to R261) -/

/-- A placed switch state of DTC asks for one switch at most (R251). -/
theorem Legal.place {s : State} {k : Leg} {v : Bool × Bool} (h : Legal s) (hv : v ≠ (true, true)) :
    Legal (s.modLeg k fun g => { g with forced := some v }) := by
  obtain ⟨hboth, hhigh, hlow, -⟩ := legOk_iff.mp (h.legs k)
  exact h.modLeg_of ⟨hboth, hhigh, hlow, fun e => hv (Option.some.inj e)⟩

protected theorem Legal.driveVec {s : State} {n v} (h : Legal s) : Legal (driveVec s n v) := by
  unfold driveVec
  refine .forL (.modDtc h) fun ki _ h => .legApply (.place h ?_)
  split
  · decide
  · cases (vecBits v).testBit (ki.2 % 3) <;> decide

protected theorem Legal.taskBegin {s : State} {n task} (h : Legal s) : Legal (taskBegin s n task) :=
  .driveVec (.quiet (taskFreeze_moves offLegs.up .refl) (.put (.put h)))

protected theorem Legal.observerUpdate {s : State} {n e0 e1 T} (h : Legal s) : Legal (observerUpdate s n e0 e1 T) :=
  .ite h (.onIf (.onIf (.quiet (modObs_moves offLegs.up .refl) (.putS (.put h))) fun _ h => .put h) fun _ h => .taskBegin (.modDtc h))

protected theorem Legal.dtcRelease {s : State} {n} (h : Legal s) : Legal (dtcRelease s n) :=
  .forL h fun _ _ h => .legApply (.modLeg h fun _ => ⟨rfl, rfl, .inr rfl⟩)

protected theorem Legal.dtcEngine {s : State} {n} (h : Legal s) : Legal (dtcEngine s n) :=
  .quiet (hoJudge_moves offLegs.up .refl) (.driveVec (.quiet (modObs_moves offLegs.up .refl) (.modDtc h)))

protected theorem Legal.ipdStep {s : State} {n} (h : Legal s) : Legal (ipdStep s n) :=
  .ite (.ite (.driveVec (.modDtc h)) h) (.ite (.driveVec (.modDtc h)) h)

protected theorem Legal.recProbe {s : State} {n m} (h : Legal s) : Legal (recProbe s n m) := by
  unfold recProbe
  extract_lets +onlyGivenNames d low past v4
  have h1 : ∀ x y z, Legal x → Legal (v4 x y z) := fun _ _ _ h => .driveVec (.modDtc h)
  split
  · refine .ite (.modDtc h) ?_
    split
    · exact .modDtc h
    · exact .ite (h1 _ _ _ h) h
  · exact .ite (h1 _ _ _ h) h
  · exact .ite (h1 _ _ _ h) h
  · exact .ite (h1 _ _ _ h) h
  · exact h

protected theorem Legal.recDecision {s : State} {n} (h : Legal s) : Legal (recDecision s n) := by
  unfold recDecision
  extract_lets +onlyGivenNames d i m
  split
  · exact .driveVec (.modDtc h)
  · exact .ite h (.ite (.recProbe h) (.quiet (recSettle_moves offLegs.up .refl) h))
  · exact .dtcEngine h

protected theorem Legal.takeDecision {s : State} {n} (h : Legal s) : Legal (takeDecision s n) := by
  unfold takeDecision
  extract_lets +onlyGivenNames s1 s2
  have h1 : Legal s1 := .onIf h fun _ h => .modDtc (.taskBegin h)
  have h2 : Legal s2 := by
    unfold s2
    split
    · exact .ipdStep h1
    · exact .recDecision h1
    · exact .dtcEngine h1
  exact .modDtc (.put h2)

protected theorem Legal.dtcDecision {s : State} {n} (h : Legal s) : Legal (dtcDecision s n) := .ite h (.ite (.modDtc h) (.takeDecision h))

protected theorem Legal.dtcMiss {s : State} {n} (h : Legal s) : Legal (dtcMiss s n) :=
  .ite h (.onIf (.modDtc (.logEv h)) fun _ h => .raise (.onIf (.put h) fun _ h => .dtcRelease (.put h)))

protected theorem Legal.handover {s : State} {n} (h : Legal s) : Legal (handover s n) := by
  unfold handover
  refine .ite h ?_
  extract_lets +onlyGivenNames _ _ _ s1
  have h1 : Legal s1 := .logEv (.dtcRelease (.put (.put (.modDtc (.quiet (modObs_moves offLegs.up (hoState_moves offLegs.up .refl)) h)))))
  exact .onIf (.onIf h1 fun _ h => .logEv h) fun _ h => .enterStop h

protected theorem Legal.ipdComplete {s : State} {n peaks} (h : Legal s) : Legal (ipdComplete s n peaks) :=
  .ite h (.ite (.dtcRelease (.put (.put (.raise (.logEv h))))) (.logEv (.put (.modDtc h))))

protected theorem Legal.recapAttemptEnd {s : State} {n} (h : Legal s) : Legal (recapAttemptEnd s n) :=
  .ite h (.ite (.dtcRelease (.quiet (recapFail_moves offLegs.up .refl) (.put (.put h)))) (.modDtc (.put h)))

protected theorem Legal.recapture {s : State} {n i1 i2 dt} (h : Legal s) : Legal (recapture s n i1 i2 dt) := by
  unfold recapture
  extract_lets +onlyGivenNames d
  split
  · exact .ite (.recapAttemptEnd h) (.modDtc (.quiet (modObs_moves offLegs.up .refl) (.putS (.put h))))
  · exact h

protected theorem Legal.runTask {s : State} {n} (h : Legal s) : Legal (runTask s n) := by
  unfold runTask
  extract_lets +onlyGivenNames unk task _ s1
  have h1 : Legal s1 := .modDtc (.quiet (modObs_moves offLegs.up .refl) h)
  exact .ite (.put (.put h1)) (.taskBegin h1)

/-! ### A spindle’s commits -/

protected theorem Legal.release {s : State} {n duty} (h : Legal s) : Legal (release s n duty) := .modSp (.onIf h fun _ h => .modCarr h)

protected theorem Legal.afterCommit {s : State} {n x yp e eps u uLim flags vdc} (h : Legal s) :
    Legal (afterCommit s n x yp e eps u uLim flags vdc) := by
  unfold afterCommit
  extract_lets +onlyGivenNames T b _ uOld y _ _ s1 _ _ s2 _ _ s3 _ q _ s4
  have h1 : Legal s1 := .quiet (State.putPairs_moves offLegs.up .refl) (.quiet (State.putPairs_moves offLegs.up .refl) (.quiet
      (satMark_moves offLegs.up .refl) h))
  have h2 : Legal s2 := .modSp (.quiet (State.putPairs_moves offLegs.up .refl) (.quiet (State.putPairs_moves offLegs.up .refl) h1))
  have h3 : Legal s3 := .quiet (fieldWeaken_moves offLegs.up .refl) (.quiet (frzShow_moves offLegs.up .refl)
      (.onIf h2 fun _ h => .modSp h))
  have h4 : Legal s4 := .quiet (fluxWatch_moves offLegs.up (lockedWatch_moves offLegs.up .refl)) (.onIf
      (.observerUpdate h3) fun _ h => .quiet (modObs_moves offLegs.up .refl) h)
  exact .modSp (.quiet (oscDetect_moves offLegs.up .refl) (.quiet (gridUpdate_moves offLegs.up .refl) h4))

protected theorem Legal.fastPath {s : State} {n} (h : Legal s) : Legal (fastPath s n) := by
  unfold fastPath
  refine .ite h ?_
  extract_lets +onlyGivenNames _ b _ p ev eps us u vdc l s1 s2
  have h1 : Legal s1 := .quiet (satMark_moves offLegs.up (satMark_moves offLegs.up (satMark_moves offLegs.up .refl))) (.account h)
  have h2 : Legal s2.2 := .quiet (modulate_moves offLegs.up .refl) h1
  refine .ite (.afterCommit (.quiet (satMark_moves offLegs.up .refl) (.release (.incWrap h2)))) ?_
  extract_lets +onlyGivenNames _ _ _ s3
  have h3 : Legal s3 := .put (.put (.put (.onIf (.onIf (.onIf h2 fun _ h => .incSat h) fun _ h => .incSat h) fun _ h => .incSat h)))
  exact .modSp (.onIf h3 fun _ h => .quiet (State.logRate_moves offLegs.up .refl) h)

protected theorem Legal.fullEval {s : State} {n gate eps0} (h : Legal s) : Legal (fullEval s n gate eps0) := by
  unfold fullEval
  extract_lets +onlyGivenNames b _ eps p e x c vdc l s1 s2
  have h1 : Legal s1 := .quiet (satMark_moves offLegs.up (satMark_moves offLegs.up (satMark_moves offLegs.up
      (satMark_moves offLegs.up .refl)))) h
  have h2 : Legal s2.2 := .quiet (modulate_moves offLegs.up .refl) h1
  exact .afterCommit (.release h2)

protected theorem Legal.fullEvalDone {s : State} {n} (h : Legal s) : Legal (fullEvalDone s n) := by
  unfold fullEvalDone
  extract_lets +onlyGivenNames p0
  split
  · exact .fullEval h
  · refine .ite h ?_
    extract_lets +onlyGivenNames _ _ pr z ev s1
    have h1 : Legal s1 := .quiet (satMark_moves offLegs.up (satMark_moves offLegs.up .refl)) (.modSp (.quiet
        (fieldAngles_moves offLegs.up .refl) (.account h)))
    exact .fullEval (.onIf h1 fun _ h => .quiet (State.logRate_moves offLegs.up .refl) h)

protected theorem Legal.waitLimit {s : State} {n} (h : Legal s) : Legal (waitLimit s n) := .onIf h fun _ h => .account (.modSp h)

protected theorem Legal.fbHoldExpired {s : State} {n} (h : Legal s) : Legal (fbHoldExpired s n) :=
  .ite h (.ite (.modSp h) (.fbExpire (.quiet (holdClear_moves offLegs.up .refl) h)))

protected theorem Legal.spEnter {s : State} {n} (h : Legal s) : Legal (spEnter s n) := .runTask (.quiet (spInit_moves offLegs.up .refl) h)

end Sys2Proof.Proofs
end

section
/-! PROOF. Links, Badger, the commands of channels and pairing keep every leg in order (O54). -/

namespace Sys2Proof.Proofs

open Sys2Proof Sys2Proof.Machine Sys2Proof.Safety

/-! ### Link monitors, precharge and discharge (R284 to R295) -/

protected theorem Legal.protCommit {s : State} {a duty} (h : Legal s) : Legal (protCommit s a duty) :=
  .ite h (.auxCommit (.quiet (State.freeNext_moves offLegs.up .refl) h))

protected theorem Legal.chopCommit {s : State} {l} (h : Legal s) : Legal (chopCommit s l) := .ite h (.modLink (.protCommit h))

protected theorem Legal.linkAssert {s : State} {l t} (h : Legal s) : Legal (linkAssert s l t) := by
  unfold linkAssert
  split
  · exact .quiet (State.logRate_moves offLegs.up .refl) (.put h)
  · exact .ite (.quiet (chopFail_moves offLegs.up .refl) h) (.ite (.chopCommit (.modLink h)) h)
  · exact .forL (.raise (.logEv (.put h))) fun _ _ h => .safeRequest h

protected theorem Legal.linkFilter {s : State} {l v t} (h : Legal s) : Legal (linkFilter s l v t) :=
  .ite (.ite (.linkAssert (.modLink (.modLink h))) (.modLink h)) (.onIf (.modLink h) fun _ h => .put h)

protected theorem Legal.linkSample {s : State} {l v} (h : Legal s) : Legal (linkSample s l v) := by
  unfold linkSample
  refine .ite h ?_
  extract_lets +onlyGivenNames _ _ _ _ beyond s1 _ s2
  have h1 : Legal s1 := .onIf (.forL (.onIf (.putS (.modLink h)) fun _ h => .putS h) fun _ _ h => .linkFilter h) fun _ h => .raise
      (.logEv (.put h))
  have h2 : Legal s2 := .onIf (.modLink h1) fun _ h => .forL h fun _ _ h => .safeRequest h
  exact .ite (.chopCommit (.modLink h2)) h2

protected theorem Legal.linkSamples {s : State} {l codes} (h : Legal s) : Legal (linkSamples s l codes) :=
  .forL h fun _ _ h => .linkSample h

protected theorem Legal.preCommit {s : State} {l duty} (h : Legal s) : Legal (preCommit s l duty) := .onIf h fun _ h => .protCommit h

protected theorem Legal.preStart {s : State} {l} (h : Legal s) : Legal (preStart s l) :=
  .preCommit (.forL (.modLink (.put h)) fun _ _ h => .ite (.setState h) h)

protected theorem Legal.preAbandon {s : State} {l cause} (h : Legal s) : Legal (preAbandon s l cause) :=
  .forL (.put (.preCommit h)) fun _ _ h => .ite (.setState h) h

protected theorem Legal.preDone {s : State} {l} (h : Legal s) : Legal (preDone s l) :=
  .ite (.onIf h fun _ h => .put h) (.ite (.logEv (.forL (.modLink (.put h)) fun _ _ h => .ite (.setState h) h)) h)

protected theorem Legal.disEnd {s : State} {l} (h : Legal s) : Legal (disEnd s l) :=
  .forL (.quiet (endDischarge_moves offLegs.up .refl) h) fun _ _ h => .ite (.setState h) h

protected theorem Legal.disStart {s : State} {l} (h : Legal s) : Legal (disStart s l) := by
  unfold disStart
  extract_lets +onlyGivenNames mode _ part _ s1
  have h1 : Legal s1 := .forL (.forL (.modLink (.put h)) fun _ _ h => .ite h (.setState h)) fun _ _ h => .quiet
      (spInit_moves offLegs.up .refl) (.modChan h)
  exact .ite (.disEnd (.quiet (disFail_moves offLegs.up .refl) h1)) h1

protected theorem Legal.disDone {s : State} {l} (h : Legal s) : Legal (disDone s l) :=
  .ite (.onIf h fun _ h => .put h) (.ite (.disEnd (.logEv h)) h)

protected theorem LegalEnd.execOvWarn {s : State} {l codes} (h : Legal s) : LegalEnd (execOvWarn l codes s) :=
  .live h fun _ h => .linkSamples h

protected theorem LegalEnd.execChopOn {s : State} {l codes} (h : Legal s) : LegalEnd (execChopOn l codes s) :=
  .live h fun _ h => .linkSamples h

protected theorem LegalEnd.execChopOff {s : State} {l codes} (h : Legal s) : LegalEnd (execChopOff l codes s) :=
  .live h fun _ h => .linkSamples h

protected theorem LegalEnd.execOvAsc {s : State} {l codes} (h : Legal s) : LegalEnd (execOvAsc l codes s) :=
  .live h fun _ h => .linkSamples h

protected theorem LegalEnd.execOvHard {s : State} {l codes} (h : Legal s) : LegalEnd (execOvHard l codes s) :=
  .live h fun _ h => .linkSamples h

protected theorem LegalEnd.execLinkThresholdDeassert {s : State} {l codes} (h : Legal s) :
    LegalEnd (execLinkThresholdDeassert l codes s) :=
  .live h fun _ h => .linkSamples h

protected theorem LegalEnd.execChopCommit {s : State} {l} (h : Legal s) : LegalEnd (execChopCommit l s) :=
  .live h fun _ h => .chopCommit h

protected theorem LegalEnd.execPrechargeDone {s : State} {l codes} (h : Legal s) : LegalEnd (execPrechargeDone l codes s) :=
  .live h fun _ h => .preDone (.linkSamples h)

protected theorem LegalEnd.execPrechargeFail {s : State} {l} (h : Legal s) : LegalEnd (execPrechargeFail l s) :=
  .live h fun _ h => .onIf h fun _ h => .raise (.logEv (.put (.preAbandon h)))

protected theorem LegalEnd.execPrechargeLegOff {s : State} {l} (h : Legal s) : LegalEnd (execPrechargeLegOff l s) :=
  .live h fun _ h => .onIf h fun _ h => .modLink (.preCommit h)

protected theorem LegalEnd.execDisDone {s : State} {l codes} (h : Legal s) : LegalEnd (execDisDone l codes s) :=
  .live h fun _ h => .disDone (.linkSamples h)

protected theorem LegalEnd.execDisTimeout {s : State} {l} (h : Legal s) : LegalEnd (execDisTimeout l s) :=
  .live h fun _ h => .onIf h fun _ h => .disEnd h

protected theorem LegalEnd.execDutyEdge {s : State} {k} (h : Legal s) : LegalEnd (execDutyEdge k s) := by
  unfold execDutyEdge
  refine .live h fun _ h => ?_
  split
  · exact h
  · exact .legApply (.modLeg h)

/-! ### Faults and what they ask for (R299 to R314) -/

protected theorem Legal.unitReact {s : State} {src lvl} (h : Legal s) : Legal (unitReact s src lvl) := by
  unfold unitReact
  extract_lets +onlyGivenNames _ _ _ _ s1
  have h1 : Legal s1 := .modTls (.modBdg (.logEv (.onIf (.forL h fun _ _ h => .chSafeReaction h) fun _ h => .put (.put h))))
  exact .ite (.ite (.quiet (safeEnLow_moves offLegs.up (safeEnLow_moves offLegs.up .refl)) (.modBdg h1)) (.quiet
      (safeEnUpdate_moves offLegs.up .refl) (.modBdg h1))) h1

protected theorem Legal.spHold {s : State} {n} (h : Legal s) : Legal (spHold s n) := .modSp (.modCarr h)

protected theorem Legal.escalate {s : State} {e src payload} (h : Legal s) : Legal (escalate s e src payload) :=
  .ite (.modBdg h) (.ite (.unitReact h) (.forL h fun _ _ h => .chSafeReaction h))

protected theorem Legal.holdElem {s : State} {e src payload} (h : Legal s) : Legal (holdElem s e src payload) := by
  unfold holdElem
  refine .ite (.onIf h fun _ h => .escalate h) ?_
  refine .ite (.escalate h) ?_
  extract_lets +onlyGivenNames _
  split
  · exact .spHold (.modBdg h)
  · exact .modBdg h

protected theorem Legal.faultAct {s : State} {c src payload} (h : Legal s) : Legal (faultAct s c src payload) := by
  unfold faultAct
  split
  · exact h
  · split
    · split
      · exact .holdElem h
      · exact h
    · exact h
  · exact .forL h fun _ _ h => .chSafeReaction h
  · exact .unitReact h
  · exact .unitReact h

protected theorem Legal.faultArrive {s : State} {src payload} (h : Legal s) : Legal (faultArrive s src payload) :=
  .quiet (faultNShow_moves offLegs.up .refl) (.faultAct (.quiet (faultRecord_moves offLegs.up .refl) h))

protected theorem Legal.faultsArrive {s : State} {l} (h : Legal s) : Legal (faultsArrive s l) :=
  .quiet (faultNShow_moves offLegs.up .refl) (.foldl (.foldl h fun _ _ h => .quiet (faultRecord_moves offLegs.up .refl) h) fun _ _ h =>
      .faultAct h)

protected theorem Legal.deliverAll {s : State} (h : Legal s) : Legal (deliverAll s) :=
  .onIf h fun _ h => .faultsArrive (.quiet (Moves.inflight offLegs.up .refl) h)

protected theorem Legal.bdgRelease {s : State} {differ} (h : Legal s) : Legal (bdgRelease s differ) := by
  unfold bdgRelease
  split
  · exact h
  · exact .faultArrive (.quiet (chuckCompare_moves offLegs.up (Moves.inflight offLegs.up .refl)) h)

protected theorem Legal.pairDiffers {s : State} {p lat} (h : Legal s) : Legal (pairDiffers s p lat) := by
  unfold pairDiffers
  extract_lets +onlyGivenNames _ s1
  have h1 : Legal s1 := .raise (.owlTrig (.putBit h))
  split
  · exact .modSp (.modCarr h1)
  · exact h1

protected theorem LegalEnd.execLockstepMismatch {s : State} {p rp rq parity} (h : Legal s) :
    LegalEnd (execLockstepMismatch p rp rq parity s) := by
  unfold execLockstepMismatch
  refine .live h fun _ h => ?_
  refine .ite h ?_
  split
  · exact .pairDiffers (.logEv (.incSat (.onIf (.onIf h fun _ h => .incSat h) fun _ h => .putBit h)))
  · exact .quiet (bdgDiffers_moves offLegs.up .refl) h

protected theorem LegalEnd.execStateDigest {s : State} {p m c} (h : Legal s) : LegalEnd (execStateDigest p m c s) :=
  .live h fun _ h => .ite h (.pairDiffers (.logEv (.incSat h)))

/-! ### The commands of channels (R271 to R281) -/

protected theorem Legal.enterRun {s : State} {n cause} (h : Legal s) : Legal (enterRun s n cause) :=
  .spEnter (.modChan (.setState (.quiet (absentShow_moves offLegs.up .refl) h)))

protected theorem Legal.chEnable {s : State} {n} (h : Legal s) : Legal (chEnable s n).2 := by
  unfold chEnable
  extract_lets +onlyGivenNames s1
  have h1 : Legal s1 := .quiet (settShowFor_moves offLegs.up (budgetShow_moves offLegs.up .refl)) h
  split
  · exact h1
  · split
    · split
      · exact .enterRun h1
      · exact h1
    · exact h1
    · split
      · exact .modChan h1
      · exact h1
    · exact h1
    · exact h1

protected theorem Legal.chStopCmd {s : State} {n} (h : Legal s) : Legal (chStopCmd s n).2 := by
  unfold chStopCmd
  split
  · split
    · exact .preAbandon h
    · exact .setState h
  · exact .ite (.modDtc h) (.enterStop h)
  · exact h
  · exact h

protected theorem Legal.chPrecharge {s : State} {n} (h : Legal s) : Legal (chPrecharge s n).2 := by
  unfold chPrecharge
  split
  · exact h
  · split
    · exact h
    · split
      · exact .setState h
      · exact .setState h
      · exact .preStart h
      · exact h
      · exact h
      · exact h
      · exact h
      · exact h

protected theorem Legal.chDischarge {s : State} {n} (h : Legal s) : Legal (chDischarge s n).2 := by
  unfold chDischarge
  split
  · exact h
  · split
    · exact h
    · split
      · exact h
      · exact h
      · exact h
      · exact h
      · extract_lets +onlyGivenNames quiet
        split
        · exact .disStart h
        · exact h

protected theorem Legal.chClearFault {s : State} {n} (h : Legal s) : Legal (chClearFault s n).2 := by
  unfold chClearFault
  split
  · exact .quiet (ocClear_moves offLegs.up .refl) h
  · split
    · exact h
    · split
      · extract_lets +onlyGivenNames pat ok
        split
        · extract_lets +onlyGivenNames _ s1
          have h1 : Legal s1 := .put (.put (.put (.enterRun (.quiet (chSrcClear_moves offLegs.up
              (motoringClear_moves offLegs.up .refl)) h))))
          exact .driveVec (.modDtc h1)
        · exact h
      · exact .setState (.quiet (chSrcClear_moves offLegs.up (motoringClear_moves offLegs.up .refl)) h)

/-! ### A period done again -/

protected theorem Legal.redoPeriod {s : State} {n meas ang done} (h : Legal s) : Legal (redoPeriod s n meas ang done) :=
  .modSp (.fullEval (.account (.modSp (.put (.put h)))))

/-! ### Pairing (R341 to R368) -/

protected theorem Legal.setRole {s : State} {r} (h : Legal s) : Legal (setRole s r) := by
  unfold setRole
  refine .ite h ?_
  extract_lets +onlyGivenNames _ s1
  have h1 : Legal s1 := .onIf (.logEv (.put h)) fun _ h => .onIf h fun _ h => .quiet (setReady_moves offLegs.up .refl) h
  exact .ite (.ite h1 (.gateHold h1)) (.ite (.gateEnd h1) h1)

protected theorem Legal.becomeStandby {s : State} (h : Legal s) : Legal (becomeStandby s) :=
  .quiet (syncing_moves offLegs.up .refl) (.setRole (.modTls h))

protected theorem Legal.claimStart {s : State} (h : Legal s) : Legal (claimStart s) :=
  .onIf (.quiet (xlStart_moves offLegs.up .refl) (.setRole (.modTls h))) fun _ h => .setRole h

protected theorem Legal.settleRole {s : State} (h : Legal s) : Legal (settleRole s) :=
  .ite (.becomeStandby h) (.ite (.claimStart h) (.modTls h))

protected theorem Legal.takeoverBegin {s : State} {src} (h : Legal s) : Legal (takeoverBegin s src) :=
  .ite h (.ite (.logEv h) (.modTls (.setRole (.raise (.logEv h)))))

protected theorem Legal.takeoverFail {s : State} (h : Legal s) : Legal (takeoverFail s) :=
  .raise (.logEv (.quiet (setReady_moves offLegs.up .refl) (.setRole (.modTls h))))

protected theorem Legal.takeoverDone {s : State} {c} (h : Legal s) : Legal (takeoverDone s c) := by
  unfold takeoverDone
  extract_lets gap kind s1 s2
  have h2 : Legal s2 := .put (.put (.put (.setRole (.modTls h))))
  clear_value kind
  split
  · exact .owlTrig (.logEv (.incSat h2))
  · exact .owlTrig (.logEv (.modTls h2))
  · exact .logEv h2

protected theorem Legal.takeoverClaim {s : State} (h : Legal s) : Legal (takeoverClaim s) := by
  unfold takeoverClaim
  split
  · exact h
  · refine .ite (.takeoverDone h) ?_
    split
    · exact .modTls h
    · exact .takeoverFail h

protected theorem Legal.releaseFinish {s : State} (h : Legal s) : Legal (releaseFinish s) :=
  .ite (.logEv (.quiet (xlStart_moves offLegs.up .refl) (.modTls h))) (.logEv (.becomeStandby h))

protected theorem Legal.releaseEnd {s : State} {n} (h : Legal s) : Legal (releaseEnd s n) := .onIf h fun _ h => .releaseFinish h

protected theorem Legal.releaseIdle {s : State} (h : Legal s) : Legal (releaseIdle s) := .onIf h fun _ h => .releaseFinish h

protected theorem Legal.followSafe {s : State} {n safety pat} (h : Legal s) : Legal (followSafe s n safety pat) := by
  unfold followSafe
  extract_lets +onlyGivenNames _ s1
  have h1 : Legal s1 := .put (.put (.ite h (.setState h)))
  exact .ite h1 (.setPat h1)

protected theorem Legal.followState {s : State} {n b2} (h : Legal s) : Legal (followState s n b2) := by
  unfold followState
  extract_lets +onlyGivenNames st safety charged v4
  have h2 : ∀ x y, Legal x → Legal (v4 x y) := fun _ _ h => .ite h (.setState h)
  refine .ite h ?_
  refine .ite (.followSafe (.put h)) ?_
  refine .ite ?_ (h2 _ _ (.put h))
  refine .ite (.quiet (strayMark_moves offLegs.up .refl) (h2 _ _ (.put h))) ?_
  refine .ite (h2 _ _ (.put h)) ?_
  refine .ite (.ite (.put h) (.put (.setState (.put h)))) ?_
  refine .ite ?_ (.quiet (strayMark_moves offLegs.up .refl) (.put h))
  extract_lets +onlyGivenNames s1
  have h1 : Legal s1 := .enterRun (.put h)
  exact .ite (.put (.setState h1)) h1

protected theorem Legal.adopt {s : State} {n b} (h : Legal s) : Legal (adopt s n b) := by
  unfold adopt
  extract_lets +onlyGivenNames _ b3 _ s1
  have h1 : Legal s1 := .quiet (budgetShow_moves offLegs.up (stepShow_moves offLegs.up .refl)) (.put (.put (.put (.followState h))))
  exact .modSp (.quiet (adoptBytes_moves offLegs.up .refl) h1)

protected theorem Legal.adoptRx {s : State} {n meas ang b} (h : Legal s) : Legal (adoptRx s n meas ang b) := by
  unfold adoptRx
  extract_lets +onlyGivenNames per s1
  have h1 : Legal s1 := .onIf h fun _ h => .put h
  exact .ite (.modTls (.onIf (.adopt h1) fun _ h => .onIf (.incSat h) fun _ h => .redoPeriod h)) h1

protected theorem Legal.adoptAt {s : State} {n meas ang} (h : Legal s) : Legal (adoptAt s n meas ang) := by
  unfold adoptAt
  refine .ite h ?_
  extract_lets +onlyGivenNames s1
  have h1 : Legal s1 := by
    unfold s1
    split
    · exact h
    · exact .adoptRx (.modTls h)
  exact .quiet (checkReady_moves offLegs.up (ckptMiss_moves offLegs.up .refl)) h1

protected theorem Legal.coldEnter {s : State} {n} (h : Legal s) : Legal (coldEnter s n) := by
  unfold coldEnter
  refine .ite h ?_
  refine .ite (.safeRequest (.modTls h)) ?_
  extract_lets +onlyGivenNames _ s1
  have h1 : Legal s1 := .modDtc (.modChan (.enterRun (.modTls h)))
  exact .ite (.quiet (hoState_moves offLegs.up .refl) (.put (.put h1))) (.ite (.quiet (recapFail_moves offLegs.up .refl) h1) (.put (.put
      (.put h1))))

protected theorem Legal.rxOn {s : State} {i f} (h : Legal s) (hf : ∀ t, Legal t → Legal (f t)) : Legal (rxOn s i f) := .onIf h hf

protected theorem Legal.peerArm {s : State} (h : Legal s) : Legal (peerArm s) := .forL h fun _ _ h => .onIf h fun _ h => .modCarr h

protected theorem Legal.syncRx {s : State} {b} (h : Legal s) : Legal (syncRx s b) :=
  .ite (.quiet (frameBad_moves offLegs.up .refl) h) (.ite (.modTls h) (.quiet (alignJudge_moves offLegs.up .refl) (.peerArm (.modTls
      (.put (.put64 (.modTls h)))))))

protected theorem Legal.beatRx {s : State} {b} (h : Legal s) : Legal (beatRx s b) := by
  unfold beatRx
  refine .ite (.quiet (frameBad_moves offLegs.up .refl) h) ?_
  extract_lets +onlyGivenNames unit fl s1
  have h1 : Legal s1 := .put (.put (.put h))
  refine .ite ?_ (.ite (.quiet (acceptHandoff_moves offLegs.up .refl) h1) (.ite (.modTls h1) h1))
  split
  · exact .ite (.modTls h1) (.takeoverBegin h1)
  · exact .takeoverBegin h1

protected theorem LegalEnd.execRoleSettle {s : State} (h : Legal s) : LegalEnd (execRoleSettle s) :=
  .paired h fun _ h => .onIf h fun _ h => .settleRole h

protected theorem LegalEnd.execStartWaitExpired {s : State} (h : Legal s) : LegalEnd (execStartWaitExpired s) :=
  .paired h fun _ h => .onIf h fun _ h => .claimStart h

protected theorem LegalEnd.execHeartbeatPresent {s : State} (h : Legal s) : LegalEnd (execHeartbeatPresent s) :=
  .live h fun _ h => .onIf (.put h) fun _ h => .becomeStandby h

protected theorem LegalEnd.execHeartbeatMissing {s : State} (h : Legal s) : LegalEnd (execHeartbeatMissing s) :=
  .live h fun _ h => .onIf (.put h) fun _ h => .takeoverBegin h

protected theorem LegalEnd.execStandbyDemote {s : State} (h : Legal s) : LegalEnd (execStandbyDemote s) :=
  .paired h fun _ h => .onIf h fun _ h => .becomeStandby h

protected theorem LegalEnd.execSelFbChange {s : State} {lvl} (h : Legal s) : LegalEnd (execSelFbChange lvl s) :=
  .live h fun _ h => .onIf (.modTls (.putB h)) fun _ h => .setRole h

protected theorem LegalEnd.execTakeoverXlStart {s : State} (h : Legal s) : LegalEnd (execTakeoverXlStart s) := by
  unfold execTakeoverXlStart
  refine .paired h fun _ h => ?_
  split
  · exact h
  · exact .quiet (xlStart_moves offLegs.up .refl) (.setRole (.modTls h))

protected theorem LegalEnd.execTakeoverClaim {s : State} (h : Legal s) : LegalEnd (execTakeoverClaim s) :=
  .paired h fun _ h => .takeoverClaim h

protected theorem LegalEnd.execTimebaseSyncRx {s : State} {i b} (h : Legal s) : LegalEnd (execTimebaseSyncRx i b s) :=
  .paired h fun _ h => .rxOn h fun _ h => .syncRx h

protected theorem LegalEnd.execHeartbeatRx {s : State} {i b} (h : Legal s) : LegalEnd (execHeartbeatRx i b s) :=
  .paired h fun _ h => .rxOn h fun _ h => .beatRx h

end Sys2Proof.Proofs
end

section
/-! PROOF. Packets, resets, replays and the control period keep every leg in order (O54). -/

namespace Sys2Proof.Proofs

open Sys2Proof Sys2Proof.Machine Sys2Proof.Safety

/-! ### Packets (R377 to R384) -/

protected theorem Legal.opChStop {s : State} {c} (h : Legal s) : Legal (opChStop s c).2 := by
  unfold opChStop
  generalize chanList c.chan = l
  generalize (0x41 : Nat) = e
  induction l generalizing s e with
  | nil => exact h
  | cons x l ih => exact ih (.chStopCmd (.onIf h fun _ h => .quiet (strayMark_moves offLegs.up .refl) h)) _

protected theorem Legal.opChSafe {s : State} {c p} (h : Legal s) : Legal (opChSafe s c p).2 := by
  unfold opChSafe
  split
  · exact h
  · exact .forL h fun _ _ h => .chSafeCmd (.onIf h fun _ h => .quiet (strayMark_moves offLegs.up .refl) h)

protected theorem Legal.preExec {s : State} {c p} (h : Legal s) : Legal (preExec s c p) := by
  unfold preExec
  split
  · extract_lets +onlyGivenNames s1
    have h1 : Legal s1.2.2 := .quiet (opGetStatus_moves offLegs.up .refl) h
    exact .complete h1
  · extract_lets +onlyGivenNames s2
    have h2 : Legal s2.2 := .opChStop h
    exact .complete h2
  · extract_lets +onlyGivenNames s3
    have h3 : Legal s3.2 := .opChSafe h
    exact .complete h3

protected theorem Legal.packetArrival {s : State} {t dst b} (h : Legal s) : Legal (packetArrival s t dst b).2 := by
  unfold packetArrival
  extract_lets q room r s1
  have h1 : Legal s1 := .onIf h fun _ h => .modQp h
  clear_value r
  split
  · exact .incSat h1
  · exact .complete (.onIf (.modQp h1) fun _ h => .incSat h)
  · exact .quiet (resend_moves offLegs.up .refl) (.modQp h1)
  · exact .modQp h1
  · extract_lets k s2
    have h2 : Legal s2 := .quiet (accept_moves offLegs.up .refl) (.put (.quiet (State.putBytes_moves offLegs.up .refl) h1))
    exact .ite (.quiet (qServe_moves offLegs.up .refl) (.preExec h2)) (.quiet (qSettle_moves offLegs.up .refl) h2)

protected theorem Legal.coreEntry {s : State} {q k} (h : Legal s) : Legal (coreEntry s q k) := by
  have hserve : ∀ {t : State}, Legal t → Legal (qServe t q k) := fun h => .quiet (qServe_moves offLegs.up .refl) h
  unfold coreEntry
  extract_lets b c named r
  clear_value r
  split
  · exact hserve (.complete (.incSat h))
  · exact hserve (.complete h)
  · exact hserve (.quiet (resend_moves offLegs.up .refl) h)
  · exact hserve h
  · extract_lets s1
    have haccept : Legal s1 := .quiet (accept_moves offLegs.up .refl) h
    exact .ite (hserve (.preExec haccept)) (.quiet (qSettle_moves offLegs.up .refl) haccept)

protected theorem Legal.sqTail {s : State} {q t} (h : Legal s) : Legal (sqTail s q t) := .forN (.modQp h) fun _ _ h => .coreEntry (.put h)

protected theorem LegalEnd.execPacketArrival {s : State} {t src b} (h : Legal s) : LegalEnd (execPacketArrival t src b s) := by
  unfold execPacketArrival
  refine .faced h fun _ h => ?_
  refine .ite h ?_
  refine .ite ?_ (.ite h (.coreEntry (.put (.quiet (State.putBytes_moves offLegs.up .refl) h))))
  extract_lets +onlyGivenNames s1
  have h1 : Legal s1.2 := .packetArrival h
  exact .ite h1 (.quiet (canAck_moves offLegs.up .refl) h1)

/-! ### Setts -/

protected theorem Legal.slotTake {s : State} {p e b} (h : Legal s) : Legal (slotTake s p e b) := by
  unfold slotTake
  extract_lets +onlyGivenNames _ fl was run _ _ _ _ s1
  have h1 : Legal s1 := .onIf (.put (.put (.put (.put (.quiet (nodeKeep_moves offLegs.up .refl) h))))) fun _ h => .quiet
      (settEv_moves offLegs.up .refl) h
  exact .onIf h1 fun _ h => .swfailSet h

protected theorem Legal.slotJudge {s : State} {p e b} (h : Legal s) : Legal (slotJudge s p e b) :=
  .ite (.slotTake h) (.quiet (slotMiss_moves offLegs.up .refl) h)

protected theorem Legal.fastReturn {s : State} {p b arrived crcOk dur slots} (h : Legal s) :
    Legal (fastReturn s p b arrived crcOk dur slots) := by
  unfold fastReturn
  refine .ite h ?_
  extract_lets +onlyGivenNames es out s1
  have h1 : Legal s1 := .forL (.quiet (State.modEnd_moves offLegs.up .refl) h) fun _ _ h => .quiet (slotMiss_moves offLegs.up .refl) h
  refine .ite ?_ (.forL (.quiet (frameLost_moves offLegs.up .refl) h1) fun _ _ h => .quiet (slotMiss_moves offLegs.up .refl) h)
  extract_lets +onlyGivenNames _ _ s2
  have h2 : Legal s2 := .onIf (.onIf (.put (.quiet (State.modSett_moves offLegs.up .refl) h1)) fun _ h => .incSat h) fun _ h => .put h
  exact .forL h2 fun _ _ h => .slotJudge h

protected theorem LegalEnd.execSettFastReturn {s : State} {p b arrived crcOk dur slots} (h : Legal s) :
    LegalEnd (execSettFastReturn p b arrived crcOk dur slots s) :=
  .live h fun _ h => .fastReturn h

protected theorem Legal.slowOk {s : State} {p t b} (h : Legal s) : Legal (slowOk s p t b) := by
  unfold slowOk
  split
  · extract_lets +onlyGivenNames s1
    have h1 : Legal s1 := .quiet (State.modSett_moves offLegs.up .refl) h
    exact .ite h1 (.quiet (opEnd_moves offLegs.up (State.modSett_moves offLegs.up .refl)) h1)
  · exact .onIf h fun _ h => .quiet (packRead_moves offLegs.up .refl) h
  · exact .onIf h fun _ h => .slotTake h
  · exact h

protected theorem LegalEnd.execSettSlowReply {s : State} {p b arrived crcOk reply} (h : Legal s) :
    LegalEnd (execSettSlowReply p b arrived crcOk reply s) := by
  unfold execSettSlowReply
  refine .live h fun _ h => ?_
  split
  · exact h
  · extract_lets +onlyGivenNames s1 _ s2
    have h1 : Legal s1 := .quiet (State.modEnd_moves offLegs.up .refl) h
    have h2 : Legal s2 := .onIf (.ite (.quiet (State.modSett_moves offLegs.up .refl) h1) (.quiet
        (frameLost_moves offLegs.up .refl) h1)) fun _ h => .incSat h
    split
    · exact .slowOk h2
    · exact .quiet (slowFail_moves offLegs.up .refl) h2

/-! ### Resets, start-up and shut-down (R465 to R493) -/

/-- A device reset leaves the legs and their outputs as `State.reset` has them; only the memories' content stays. -/
protected theorem Legal.fresh {s : State} {stage held} (h : Legal s) : Legal (fresh s stage held) := by
  have hmem : Memory.wf { (evFlush s).mem with ueKnown := [], writebacks := [] } = true :=
    (MemMoves.clear ⟨Nat.and_self _⟩ .refl).wf (by
      have hflush := (Legal.quiet (evFlush_moves offLegs.up .refl) h).wf
      simp only [State.wf, Bool.and_eq_true] at hflush
      exact hflush.1.2)
  obtain ⟨hwf, -, -, -, hlegs, -⟩ := resetState
  unfold fresh
  refine .put (.put (.put (.put (.put (.put (.put (.put (.put (.put (.put ⟨?_, fun k => hlegs k⟩))))))))))
  simp only [State.wf, Bool.and_eq_true] at hwf ⊢
  exact ⟨⟨hwf.1.1, hmem⟩, hwf.2⟩

protected theorem Legal.deviceReset {s : State} {cause} (h : Legal s) : Legal (deviceReset s cause) :=
  .quiet (hlkAddrSet_moves offLegs.up (retPut_moves offLegs.up .refl)) (.put (.put (.fresh h)))

protected theorem LegalEnd.execPorstAssert {s : State} (h : Legal s) : LegalEnd (execPorstAssert s) := by
  unfold execPorstAssert
  extract_lets +onlyGivenNames s1
  have h1 : Legal s1 := .modPwr (.fresh h)
  refine .next ?_
  split
  · exact .modPwr h1
  · exact h1

protected theorem LegalEnd.execPorstRelease {s : State} {strap ign secs} (h : Legal s) : LegalEnd (execPorstRelease strap ign secs s) :=
  .next (.ite h (.modPwr (.deviceReset (.quiet (Moves.net offLegs.up .refl) (.putB (.quiet (aonAdd_moves offLegs.up .refl) h))))))

protected theorem LegalEnd.execBadgerStartDone {s : State} {ok phase} (h : Legal s) : LegalEnd (execBadgerStartDone ok phase s) := by
  unfold execBadgerStartDone
  refine .live h fun _ h => ?_
  refine .ite h ?_
  extract_lets +onlyGivenNames s1
  have h1 : Legal s1 := .put (.quiet (clocksUp_moves offLegs.up .refl) h)
  refine .ite (.modPwr h1) ?_
  extract_lets +onlyGivenNames _ warm s2
  have h2 : Legal s2 := .put (.quiet (retJudge_moves offLegs.up .refl) (.modPwr h1))
  exact .ite (.modPwr h2) (.modPwr (.gateHold (.put h2)))

protected theorem LegalEnd.execStartupBistDone {s : State} {res phase fail word region ms} (h : Legal s) :
    LegalEnd (execStartupBistDone res phase fail word region ms s) := by
  unfold execStartupBistDone
  refine .live h fun _ h => ?_
  refine .onIf h fun _ h => ?_
  extract_lets +onlyGivenNames e s1
  have h1 : Legal s1 := .logEv (.quiet (bistShow_moves offLegs.up (bistStore_moves offLegs.up .refl)) h)
  exact .ite (.modPwr (.gateEnd h1)) (.quiet (faultNShow_moves offLegs.up (bistDevSafe_moves offLegs.up .refl)) h1)

protected theorem LegalEnd.execDevReady {s : State} (h : Legal s) : LegalEnd (execDevReady s) :=
  .live h fun _ h => .onIf h fun _ h => .quiet (faultNShow_moves offLegs.up .refl) (.logEv (.put (.onIf (.gateEnd
      (.modPwr h)) fun _ h => .put (.put h))))

protected theorem Legal.shutDischarge {s : State} (h : Legal s) : Legal (shutDischarge s) := by
  unfold shutDischarge
  refine .ite h ?_
  refine .forL h fun _ _ h => ?_
  refine .ite h ?_
  split
  · exact h
  · exact .chDischarge h

protected theorem Legal.shutStart {s : State} (h : Legal s) : Legal (shutStart s) :=
  .ite h (.shutDischarge (.forL (.modPwr (.logEv (.put (.put h)))) fun _ _ h => .onIf h fun _ h => .chStopCmd h))

protected theorem Legal.enterStandby {s : State} (h : Legal s) : Legal (enterStandby s) := by
  unfold enterStandby
  split
  · exact .deviceReset h
  · exact .put (.fresh h)

protected theorem Legal.shutBistEnd {s : State} {e} (h : Legal s) : Legal (shutBistEnd s e) :=
  .enterStandby (.logEv (.quiet (bistShow_moves offLegs.up (bistStore_moves offLegs.up (retCopy_moves offLegs.up .refl))) h))

protected theorem LegalEnd.execIgnFilterExpiry {s : State} (h : Legal s) : LegalEnd (execIgnFilterExpiry s) :=
  .live h fun _ h => .onIf (.put h) fun _ h => .shutStart h

protected theorem LegalEnd.execShutdownQuiescent {s : State} (h : Legal s) : LegalEnd (execShutdownQuiescent s) :=
  .live h fun _ h => .onIf h fun _ h => .quiet (retCopy_moves offLegs.up .refl) (.onIf (.gateHold (.put (.modPwr
      (.put h)))) fun _ h => .quiet (ledgerWrite_moves offLegs.up .refl) h)

protected theorem LegalEnd.execShutdownBistDone {s : State} {res phase fail word region ms} (h : Legal s) :
    LegalEnd (execShutdownBistDone res phase fail word region ms s) :=
  .live h fun _ h => .onIf h fun _ h => .shutBistEnd h

protected theorem LegalEnd.execBistTimeout {s : State} (h : Legal s) : LegalEnd (execBistTimeout s) :=
  .live h fun _ h => .onIf h fun _ h => .shutBistEnd h

protected theorem Legal.wake {s : State} {cause rails secs} (h : Legal s) : Legal (wake s cause rails secs) := by
  unfold wake
  refine .ite ?_ (.ite (.modPwr h) h)
  extract_lets +onlyGivenNames s1
  have h1 : Legal s1 := .quiet (aonAdd_moves offLegs.up .refl) h
  exact .ite (.deviceReset h1) (.modPwr (.put h1))

protected theorem LegalEnd.execWakePin {s : State} {rails ign secs} (h : Legal s) : LegalEnd (execWakePin rails ign secs s) :=
  .next (.wake (.putB h))

protected theorem LegalEnd.execWakeTimer {s : State} {rails secs} (h : Legal s) : LegalEnd (execWakeTimer rails secs s) :=
  .next (.ite h (.wake h))

protected theorem LegalEnd.execSelftestDone {s : State} {res phase fail word region ms} (h : Legal s) :
    LegalEnd (execSelftestDone res phase fail word region ms s) := by
  unfold execSelftestDone
  refine .live h fun _ h => ?_
  split
  · exact h
  · extract_lets +onlyGivenNames e _ s1
    have h1 : Legal s1 := .gateEnd (.modPwr (.quiet (bistShow_moves offLegs.up .refl) h))
    exact .ite h1 (.onIf (.logEv h1) fun _ h => .deviceReset (.quiet (bistStore_moves offLegs.up .refl) h))

protected theorem Legal.critAction {s : State} (h : Legal s) : Legal (critAction s) := by
  unfold critAction
  refine .ite (.forL (.logEv (.quiet (profThermal_moves offLegs.up .refl) h)) fun _ _ h => ?_)
    (.forL h fun _ _ h => .onIf h fun _ h => .chStopCmd h)
  exact .quiet (budgetShow_moves offLegs.up .refl) h

protected theorem Legal.bistShutOff {s : State} (h : Legal s) : Legal (bistShutOff s) := .ite (.shutBistEnd h) (.ite (.modPwr (.put h)) h)

protected theorem Legal.thermalReading {s : State} {t} (h : Legal s) : Legal (thermalReading s t) := by
  unfold thermalReading
  extract_lets +onlyGivenNames _ old new _ hot _ s1
  have h1 : Legal s1 := .onIf (.modPwr (.onIf (.modPwr (.onIf (.put (.putS h)) fun _ h => .putS h)) fun _ h => .logEv h)) fun _ h =>
      .logEv (.put h)
  exact .onIf (.onIf (.onIf h1 fun _ h => .logEv h) fun _ h => .critAction (.raise h)) fun _ h => .bistShutOff (.raise h)

protected theorem LegalEnd.execThermalReading {s : State} {t} (h : Legal s) : LegalEnd (execThermalReading t s) :=
  .live h fun _ h => .thermalReading h

protected theorem LegalEnd.execScvTdiodeRead {s : State} {t} (h : Legal s) : LegalEnd (execScvTdiodeRead t s) :=
  .live h fun _ h => .onIf (.onIf (.modBdg (.modBdg (.putS h))) fun _ h => .raise h) fun _ h => .bistShutOff (.raise h)

protected theorem Legal.opSelftestRun {s : State} {p} (h : Legal s) : Legal (opSelftestRun s p).2 := by
  unfold opSelftestRun
  split
  · exact .quiet (opDone_moves offLegs.up .refl) h
  · exact .quiet (opDone_moves offLegs.up .refl) (.gateHold (.put (.modPwr h)))

/-! ### Replays (R455 to R459) -/

protected theorem Legal.endReplay {s : State} {result} (h : Legal s) : Legal (endReplay s result) := by
  unfold endReplay
  split
  · exact h
  · extract_lets +onlyGivenNames _ _ _ _ s1
    have h1 : Legal s1 := .put (.put (.put (.gateEnd (.forL (.quiet (Moves.owl offLegs.up .refl) h) fun _ _ h => .onIf h fun _ h =>
        .setState h))))
    exact .logEv h1

protected theorem Legal.diverge {s : State} {kind ch idx per} (h : Legal s) : Legal (diverge s kind ch idx per) := by
  unfold diverge
  split
  · exact h
  · extract_lets +onlyGivenNames first _ s1
    have h1 : Legal s1 := .onIf (.incSat h) fun _ h => .logEv (.put (.put (.put (.put h))))
    exact .ite (.endReplay h1) h1

protected theorem Legal.replayNo {s : State} {n cause} (h : Legal s) : Legal (replayNo s n cause) := by
  unfold replayNo
  split
  · exact h
  · split
    · exact .diverge h
    · exact .ite h (.diverge h)

protected theorem Legal.replayCompare {s : State} {n c late} (h : Legal s) : Legal (replayCompare s n c late) := by
  unfold replayCompare
  split
  · exact h
  · extract_lets +onlyGivenNames per s1
    have h1 : Legal s1 := .quiet (modReplay_moves offLegs.up .refl) h
    split
    · exact .diverge h1
    · exact .ite (.diverge h1) (.ite (.diverge h1) h1)

protected theorem Legal.replayClose {s : State} {n} (h : Legal s) : Legal (replayClose s n) := by
  unfold replayClose
  split
  · exact h
  · refine .ite (.quiet (modReplay_moves offLegs.up .refl) h) ?_
    split
    · exact .diverge h
    · exact h

protected theorem Legal.snapAdopt {s : State} {n i} (h : Legal s) : Legal (snapAdopt s n i) := by
  unfold snapAdopt
  extract_lets +onlyGivenNames pay b st s1 _ b3 _ _ s2
  have h1 : Legal s1 := .ite (.enterRun h) (.setState h)
  have h2 : Legal s2 := .modSp (.put (.quiet (adoptBytes_moves offLegs.up .refl) (.put (.put (.put (.ite (.put (.setState h1)) h1))))))
  exact .modCarr h2

protected theorem Legal.replaySeek {s : State} {l} (h : Legal s) : Legal (replaySeek l s).1 := by
  have hmod : ∀ {t : State} {f}, Legal t → Legal (modReplay t f) := fun h => .quiet (modReplay_moves offLegs.up .refl) h
  induction l generalizing s with
  | nil => exact h
  | cons x l ih =>
    simp only [replaySeek]
    split
    · exact h
    split
    · exact hmod h
    split
    · exact .onIf (hmod h) fun _ h => hmod h
    · exact ih (hmod (.onIf (.onIf (.onIf (hmod h) fun _ h => hmod h) fun _ h => .snapAdopt (hmod h)) fun _ h => hmod h))

protected theorem Legal.replayNext {s : State} (h : Legal s) : Legal (replayNext s).1 := by
  unfold replayNext
  split
  · exact h
  · exact .replaySeek h

protected theorem Legal.replayBegin {s : State} {first stop1} (h : Legal s) : Legal (replayBegin s first stop1).2 := by
  unfold replayBegin
  extract_lets +onlyGivenNames st
  split
  · exact h
  · extract_lets +onlyGivenNames _ s1
    have h1 : Legal s1 := .put (.put h)
    split
    · exact .logEv (.put h1)
    · exact .gateHold (.put (.put (.quiet (Moves.owl offLegs.up .refl) h1)))

protected theorem Legal.replayCoreRead {s : State} {p addr} (h : Legal s) : Legal (replayCoreRead s p addr).1 := by
  unfold replayCoreRead
  split
  · exact h
  · split
    · exact h
    · split
      · exact h
      · extract_lets +onlyGivenNames pay s1
        have h1 : Legal s1 := .quiet (modReplay_moves offLegs.up .refl) h
        exact .ite h1 (.diverge h1)

protected theorem LegalEnd.execReplayInput {s : State} {errs} (h : Legal s) : LegalEnd (execReplayInput errs s) := by
  unfold execReplayInput
  refine .live h fun _ h => ?_
  extract_lets s1 a
  have h1 : Legal s1 := .quiet (replayReads_moves offLegs.up .refl) h
  have ha : Legal a.1 := .replayNext h1
  split
  · exact .ite h1 (.ite ha (.quiet (modReplay_moves offLegs.up .refl) (.quiet (replayDeliver_moves offLegs.up .refl) ha)))
  · exact ha

protected theorem LegalEnd.execReplayEnd {s : State} (h : Legal s) : LegalEnd (execReplayEnd s) := by
  unfold execReplayEnd
  refine .live h fun _ h => .ite h ?_
  extract_lets a
  have ha : Legal a.1 := .replayNext h
  have hclosed : Legal (a.1.forL (List.finRange 4) fun n s => replayClose s n) := .forL ha fun _ _ h => .replayClose h
  split
  · exact .endReplay hclosed
  · refine .ite h ?_
    split
    · exact ha
    · exact .endReplay (.ite hclosed ha)

/-! ### The control period (R11 to R28) -/

protected theorem Legal.commitIn {s : State} {n c} (h : Legal s) : Legal (commitIn s n c) := by
  unfold commitIn
  refine .ite h ?_
  extract_lets +onlyGivenNames _ dl late _ _ _ s1
  have h1 : Legal s1 := .onIf (.onIf (.onIf (.offerCommit (.modChan h)) fun _ h => .put h) fun _ h => .modChan
      (.put h)) fun _ h => .quiet (slackShow_moves offLegs.up .refl) h
  exact .replayCompare (.quiet (commitRecords_moves offLegs.up .refl) h1)

protected theorem Legal.commitArrival {s : State} {n} (h : Legal s) : Legal (commitArrival s n) := by
  unfold commitArrival
  split
  · exact h
  · exact .ite (.modSp h) (.commitIn (.modSp h))

protected theorem Legal.deadlineMiss {s : State} {n} (h : Legal s) : Legal (deadlineMiss s n) := by
  unfold deadlineMiss
  extract_lets +onlyGivenNames _ _ _ s1
  have h1 : Legal s1 := .quiet (badgerMiss_moves offLegs.up .refl) (.replayNo (.owlRec (.owlTrig (.irq (.incSat (.put (.incSat (.put
      (.logEv h)))))))))
  exact .onIf h1 fun _ h => .safeRequest h

protected theorem Legal.commitDeadline {s : State} {n} (h : Legal s) : Legal (commitDeadline s n) :=
  .ite h (.ite (.modCarr h) (.ite (.modChan (.put (.modCarr h))) (.ite (.replayNo (.owlRec (.put (.modCarr h)))) (.deadlineMiss
      (.modCarr h)))))

protected theorem Legal.ocCount {s : State} {n} (h : Legal s) : Legal (ocCount s n) := by
  unfold ocCount
  extract_lets +onlyGivenNames seen now s1
  have h1 : Legal s1 := .putB (.modChan h)
  exact .ite (.put h1) (.ite (.put h1) (.onIf (.incSat (.incSat h1)) fun _ h => .safeRequest (.raise (.put (.logEv h)))))

protected theorem Legal.alignCarrier {s : State} {r} (h : Legal s) : Legal (alignCarrier s r) :=
  .ite h (.quiet (State.freeNext_moves offLegs.up .refl) (.modCarr h))

protected theorem Legal.stopEnd {s : State} {n done} (h : Legal s) : Legal (stopEnd s n done) :=
  .ite (.modChan (.setState h)) (.ite h (.ite (.enterSafe (.selUpdate h)) (.setState h)))

protected theorem Legal.reloadCh {s : State} {n deadline} (h : Legal s) : Legal (reloadCh s n deadline) := by
  unfold reloadCh
  extract_lets +onlyGivenNames p ang _ onT done _ _ s1 s2 _ _ _ s3 _ _ _ s4
  have h1 : Legal s1 := .carrierReload (.quiet (profTake_moves offLegs.up .refl) (.modChan (.alignCarrier (.modSp h))))
  have h2 : Legal s2 := by
    unfold s2
    split
    · exact .modCarr h1
    · exact h1
  have h3 : Legal s3 := .stopEnd (.releaseEnd (.coldEnter (.adoptAt (.quiet (reloadRecords_moves offLegs.up .refl) (.incWrap h2)))))
  have h4 : Legal s4 := .quiet (spReload_moves offLegs.up .refl) (.quiet (relationLoad_moves offLegs.up .refl) (.legsApply
      (.modChan h3)))
  exact .quiet (armNext_moves offLegs.up (reloadTrig_moves offLegs.up .refl)) (.modBdg (.onIf h4 fun _ h => .modSp h))

protected theorem Legal.reloadAux {s : State} {a} (h : Legal s) : Legal (reloadAux s a) :=
  .quiet (armNext_moves offLegs.up .refl) (.quiet (chopReload_moves offLegs.up .refl) (.carrierReload (.alignCarrier h)))

protected theorem Legal.reloadOf {s : State} {r} (h : Legal s) : Legal (reloadOf s r) := by
  unfold reloadOf
  refine .ite h ?_
  split
  · exact .reloadCh h
  · exact .reloadAux h

protected theorem LegalEnd.execReload {s : State} {r} (h : Legal s) : LegalEnd (execReload r s) :=
  .live h fun _ h => .onIf h fun _ h => .reloadOf h

protected theorem LegalEnd.execCommitArrival {s : State} {n} (h : Legal s) : LegalEnd (execCommitArrival n s) :=
  .live h fun _ h => .commitArrival h

protected theorem LegalEnd.execCommitDeadline {s : State} {n} (h : Legal s) : LegalEnd (execCommitDeadline n s) :=
  .live h fun _ h => .commitDeadline h

protected theorem LegalEnd.execCarrierZero {s : State} {r} (h : Legal s) : LegalEnd (execCarrierZero r s) := by
  unfold execCarrierZero
  refine .live h fun _ h => ?_
  refine .onIf h fun _ h => ?_
  extract_lets +onlyGivenNames rel _ s1 code s2
  have h1 : Legal s1 := .endCuts (.onIf h fun _ h => .plainHalf h)
  have h2 : Legal s2 := by
    unfold s2
    split
    · exact .ocCount h1
    · exact h1
  exact .onIf (.quiet (seqCarrier_moves offLegs.up .refl) h2) fun _ h => .quiet (seqCotZero_moves offLegs.up .refl) h

protected theorem LegalEnd.execCarrierPeak {s : State} {r} (h : Legal s) : LegalEnd (execCarrierPeak r s) := by
  unfold execCarrierPeak
  refine .live h fun _ h => ?_
  refine .onIf h fun _ h => ?_
  extract_lets +onlyGivenNames rel s1
  have h1 : Legal s1 := .onIf h fun _ h => .plainHalf h
  split
  · exact .onIf (.quiet (seqCarrier_moves offLegs.up .refl) h1) fun _ h => .quiet (seqCotZero_moves offLegs.up .refl) h
  · exact h1

protected theorem Legal.cotEnd {s : State} {r} (h : Legal s) : Legal (cotEnd s r) := .reloadOf h

protected theorem LegalEnd.execCotEndEvent {s : State} {r} (h : Legal s) : LegalEnd (execCotEndEvent r s) :=
  .live h fun _ h => .ite h (.ite (.cotEnd (.modCarr h)) (.modCarr (.modCarr h)))

protected theorem LegalEnd.execCotPerMin {s : State} {r} (h : Legal s) : LegalEnd (execCotPerMin r s) :=
  .live h fun _ h => .onIf h fun _ h => .cotEnd h

protected theorem LegalEnd.execCotPermax {s : State} {r} (h : Legal s) : LegalEnd (execCotPermax r s) :=
  .live h fun _ h => .onIf h fun _ h => .cotEnd (.quiet (State.logRate_moves offLegs.up .refl) (.cput h))

protected theorem Legal.carrierBegin {s : State} {r} (h : Legal s) : Legal (carrierBegin s r) :=
  .ite h (.ite (.peerArm (.modCarr h)) (.carrierStart h))

protected theorem LegalEnd.execCarrierSyncStart {s : State} {r} (h : Legal s) : LegalEnd (execCarrierSyncStart r s) := by
  unfold execCarrierSyncStart
  refine .live h fun _ h => ?_
  split
  · exact .onIf h fun _ h => .carrierStart h
  · exact h

protected theorem LegalEnd.execPeriodLatch {s : State} {n} (h : Legal s) : LegalEnd (execPeriodLatch n s) :=
  .live h fun _ h => .selRefresh (.quiet (pifLatch_moves offLegs.up .refl) h)

protected theorem LegalEnd.execFastPath {s : State} {n} (h : Legal s) : LegalEnd (execFastPath n s) := .live h fun _ h => .fastPath h

protected theorem LegalEnd.execFullEvalDone {s : State} {n errs} (h : Legal s) : LegalEnd (execFullEvalDone n errs s) :=
  .live h fun _ h => .fullEvalDone (.quiet (spEcc_moves offLegs.up .refl) h)

protected theorem LegalEnd.execWaitLimit {s : State} {n} (h : Legal s) : LegalEnd (execWaitLimit n s) := .live h fun _ h => .waitLimit h

protected theorem LegalEnd.execFbHoldExpired {s : State} {n} (h : Legal s) : LegalEnd (execFbHoldExpired n s) :=
  .live h fun _ h => .fbHoldExpired h

protected theorem LegalEnd.execDtcDecision {s : State} {n} (h : Legal s) : LegalEnd (execDtcDecision n s) :=
  .live h fun _ h => .dtcDecision h

protected theorem LegalEnd.execDtcMiss {s : State} {n} (h : Legal s) : LegalEnd (execDtcMiss n s) := .live h fun _ h => .dtcMiss h

protected theorem LegalEnd.execHandover {s : State} {n} (h : Legal s) : LegalEnd (execHandover n s) := .live h fun _ h => .handover h

protected theorem LegalEnd.execIpdComplete {s : State} {n peaks} (h : Legal s) : LegalEnd (execIpdComplete n peaks s) :=
  .live h fun _ h => .ipdComplete h

protected theorem LegalEnd.execRecapture {s : State} {n a1 b1 a2 b2 dt} (h : Legal s) : LegalEnd (execRecapture n a1 b1 a2 b2 dt s) :=
  .live h fun _ h => .recapture h

protected theorem LegalEnd.execRecapAttemptEnd {s : State} {n} (h : Legal s) : LegalEnd (execRecapAttemptEnd n s) :=
  .live h fun _ h => .recapAttemptEnd h

theorem gateFld_apart (g : Fin 4) : NotOutput (gateFld g) := by fin_cases g <;> decide

protected theorem LegalEnd.execOutputGateHold {s : State} {g} (h : Legal s) : LegalEnd (execOutputGateHold g s) :=
  .live h fun _ h => .gateHold h (gateFld_apart g)

protected theorem LegalEnd.execOutputGateRelease {s : State} {g} (h : Legal s) : LegalEnd (execOutputGateRelease g s) :=
  .live h fun _ h => .gateEnd h (gateFld_apart g)

protected theorem Legal.replayHeader {s : State} {i w} (h : Legal s) : Legal (replayHeader s i w) := by
  unfold replayHeader
  split
  · exact h
  · exact .put (.onIf (.quiet (modReplay_moves offLegs.up .refl) (.replayClose h)) fun _ h => .reloadCh h)

protected theorem LegalEnd.execReplayHeader {s : State} (h : Legal s) : LegalEnd (execReplayHeader s) := by
  unfold execReplayHeader
  refine .live h fun _ h => ?_
  extract_lets a
  have ha : Legal a.1 := .replayNext h
  split
  · exact .ite h (.ite ha (.replayHeader ha))
  · exact ha

protected theorem Legal.redoHeld {s : State} {n c} (h : Legal s) : Legal (redoHeld s n c) := by
  unfold redoHeld
  extract_lets +onlyGivenNames p now _ _ s1 _ s2
  have h1 : Legal s1 := .forL (.redoPeriod (.quiet (loadCkpt_moves offLegs.up (swapBack_moves offLegs.up .refl)) h)) fun _ _ h => .quiet
      (State.putLw_moves offLegs.up .refl) h
  have h2 : Legal s2 := .quiet (State.modFld_moves offLegs.up .refl) (.forL h1 fun _ _ h => .quiet (State.putLw_moves offLegs.up .refl) h)
  exact .modSp (.quiet (refForm_moves offLegs.up .refl) h2)

protected theorem Legal.spindleRestore {s : State} {n} (h : Legal s) : Legal (spindleRestore s n) := by
  unfold spindleRestore
  refine .ite h ?_
  extract_lets +onlyGivenNames ang s1
  have h1 : Legal s1 := by
    unfold s1
    split
    · exact .redoHeld h
    · exact h
  exact .logEv (.putBit (.modBdg (.modSp (.put (.put h1)))))

protected theorem LegalEnd.execSpindleRestore {s : State} {n} (h : Legal s) : LegalEnd (execSpindleRestore n s) :=
  .live h fun _ h => .spindleRestore h

protected theorem LegalEnd.execFaultRaised {s : State} {src payload} (h : Legal s) : LegalEnd (execFaultRaised src payload s) :=
  .live h fun _ h => .onIf (.faultArrive (.quiet (Moves.inflight offLegs.up .refl) h)) fun _ h => .endReplay h

end Sys2Proof.Proofs
end

section
/-! PROOF. Register accesses keep every leg in order (O54): the outputs' bits are read-only, and what follows a write keeps the order. -/

namespace Sys2Proof.Proofs

open Sys2Proof Sys2Proof.Machine Sys2Proof.Safety

/-! ### Register writes -/

/-- In every register of the map an output's bit is read-only (R7, R196). -/
theorem outputs_readOnly {r : Reg} (hr : r ∈ regTable) {f : Fld} (hf : f ∈ r.flds) (hid : ¬ NotOutput f) : f.acc = .ro := by
  have hall : (regTable.all fun r => r.flds.all fun f => decide (NotOutput f) || f.acc == .ro) = true := by decide +kernel
  have hfld := List.all_eq_true.mp (List.all_eq_true.mp hall r hr) f hf
  simpa only [hid, decide_false, Bool.false_or, beq_iff_eq] using hfld

protected theorem Legal.fieldWrite {s : State} {w : Wr} {f : Fld} (hw : w.reg ∈ regTable) (hf : f ∈ w.reg.flds) (h : Legal s) :
    Legal (fieldWrite s w f) := by
  unfold fieldWrite
  by_cases hout : NotOutput f
  · split
    · exact .put h hout
    · exact .put h hout
    · exact .put h hout
    · exact h
  · rw [outputs_readOnly hw hf hout]
    exact h

protected theorem Legal.applyWr {s : State} {w : Wr} {keep} (hw : w.reg ∈ regTable) (h : Legal s) : Legal (applyWr s w keep) := by
  have hloop : ∀ l : List Fld, (∀ f ∈ l, f ∈ w.reg.flds) → ∀ t, Legal t → Legal (t.forL l fun f s => fieldWrite s w f) := by
    intro l
    induction l with
    | nil => exact fun _ _ h => h
    | cons f l ih =>
      intro hl t h
      exact ih (fun g hg => hl g (.tail f hg)) _ (.fieldWrite hw (hl f (.head l)) h)
  exact hloop _ (fun f hf => List.mem_of_mem_filter hf) s h

/-! ### What follows a register write, and the bus -/

protected theorem Legal.bistStart {s : State} (h : Legal s) : Legal (bistStart s) := .ite h (.gateHold (.put (.modPwr h)))

protected theorem Legal.postPwr {s : State} {w} (h : Legal s) : Legal (postPwr w s) :=
  .ite (.onIf h fun _ h => .shutStart h) (.ite (.onIf h fun _ h => .deviceReset h) (.ite (.onIf h fun _ h => .bistStart h) (.ite
      (.onIf h fun _ h => .quiet (epochAdvance_moves offLegs.up .refl) h) (.ite (.onIf h fun _ h => .quiet
      (keyProgram_moves offLegs.up .refl) h) h))))

protected theorem Legal.cmpOff {s : State} {i} (h : Legal s) : Legal (cmpOff s i) :=
  .tripRelease (.quiet (State.modCmp_moves offLegs.up .refl) (.put (.put h)))

protected theorem Legal.postCvb {s : State} {w} (h : Legal s) : Legal (postCvb w s) :=
  .ite (.quiet (convCfg_moves offLegs.up .refl) h) (.ite (.onIf h fun _ h => .quiet (calAsk_moves offLegs.up .refl) h) (.ite
      (.onIf h fun _ h => .quiet (injRequest_moves offLegs.up .refl) h) (.ite (.onIf h fun _ h => .cmpOff h) h)))

protected theorem Legal.postSeq {s s' : State} {w} (k : Legal s') : Legal (postSeq s w s') :=
  .ite (.ite (.quiet (State.modSeq_moves offLegs.up .refl) k) (.ite (.put (.quiet (State.modSeq_moves offLegs.up .refl) k)) k)) (.ite
      (.onIf k fun _ h => .quiet (seqTrigger_moves offLegs.up .refl) h) (.ite (.ite k (.quiet (Moves.cvb
      (s := s') offLegs.up .refl) k)) k))

protected theorem Legal.postPif {s s' : State} {w} (k : Legal s') : Legal (postPif s w s') :=
  .ite (.onIf (.onIf k fun _ h => .quiet (State.modPif_moves offLegs.up .refl) (.put h)) fun _ h => .quiet
      (srcRestore_moves offLegs.up .refl) h) (.ite (.onIf k fun _ h => .quiet (State.modPif_moves offLegs.up .refl) h) (.ite (.quiet
      (encoFollow_moves offLegs.up .refl) k) k))

protected theorem Legal.carrEdge {s : State} {r old new} (h : Legal s) : Legal (carrEdge s r old new) :=
  .ite (.carrierBegin h) (.ite (.carrierStop h) h)

protected theorem Legal.legCommit {s : State} {a gen} (h : Legal s) : Legal (legCommit s a gen) := .auxCommit h

protected theorem Legal.fltCfg {s s' : State} {w b} (k : Legal s') : Legal (fltCfg s s' w b) := by
  unfold fltCfg
  extract_lets +onlyGivenNames anew s1
  have h1 : Legal s1 := .tripRelease k
  exact .legsApply (.syncLvl (.ite (.fltRelease h1) (.onIf h1 fun _ h => .fltReapply h)))

protected theorem Legal.postLeg {s s' : State} {w} (k : Legal s') : Legal (postLeg s w s') :=
  .ite (.carrEdge k) (.ite (.legCommit k) (.ite (.latchClear k) (.ite (.fltCfg k) (.ite (.fltCfg k) (.ite (.legsApply k) k)))))

protected theorem Legal.swfailWrite {s : State} {n hs ls} (h : Legal s) : Legal (swfailWrite s n hs ls) :=
  .ite (.logEv h) (.selUpdate (.swfailSet (.put (.put h))))

protected theorem Legal.postCh {s s' : State} {w} (k : Legal s') : Legal (postCh s w s') :=
  .ite (.onIf k fun _ h => .modChan h) (.ite (.carrEdge k) (.ite (.legsApply k) (.ite (.commitIn k) (.ite (.swfailWrite k) (.ite
      (.selRefresh k) k)))))

protected theorem Legal.postPrt {s s' : State} {w} (k : Legal s') : Legal (postPrt s w s') :=
  .onIf k fun _ h => .quiet (linkStart_moves offLegs.up .refl) h

protected theorem Legal.postTls {s s' : State} {w} (k : Legal s') : Legal (postTls s w s') :=
  .ite (.ite (.onIf k fun _ h => .settleRole h) (.ite (.setRole (.modTls k)) k)) k

protected theorem Legal.postFpl {s s' : State} {w} (k : Legal s') : Legal (postFpl s w s') :=
  .ite (.sqTail k) (.ite (.onIf k fun _ h => .quiet (hlkAddrSet_moves offLegs.up .refl) h) k)

protected theorem Legal.postMtr {s s' : State} {w} (k : Legal s') : Legal (postMtr s w s') :=
  .ite (.onIf k fun _ h => .quiet (meterRestore_moves offLegs.up .refl) h) (.onIf k fun _ h => .logEv (.quiet
      (mtrFlag_moves offLegs.up .refl) h))

protected theorem Legal.postOwl {s : State} {w} (h : Legal s) : Legal (postOwl w s) :=
  .ite (.ite (.endReplay h) (.onIf (.onIf h fun _ h => .quiet (owlArm_moves offLegs.up .refl) h) fun _ h => .owlTrig h)) (.ite (.quiet
      (owlLoad_moves offLegs.up .refl) h) (.ite (.onIf h fun _ h => .quiet (owlSend_moves offLegs.up .refl) (.put h)) h))

protected theorem Legal.postWrite {s s' : State} {a w} (k : Legal s') : Legal (postWrite s a w s') := by
  unfold postWrite
  split
  · exact .quiet (postSys_moves offLegs.up .refl) k
  · exact .postPwr k
  · exact .postPwr k
  · exact .postPwr k
  · exact .postCvb k
  · exact .postSeq k
  · exact .postPif k
  · exact .postLeg k
  · exact .postCh k
  · exact .quiet (postSp_moves offLegs.up .refl) k
  · exact .postPrt k
  · exact .quiet (postBdg_moves offLegs.up .refl) k
  · exact .postTls k
  · exact .postFpl k
  · exact .postFpl k
  · exact .quiet (postSett_moves offLegs.up .refl) k
  · exact .postMtr k
  · exact .quiet (postCvu_moves offLegs.up .refl) k
  · exact .postOwl k
  · exact k

protected theorem Legal.writeReg {s : State} {a} {w0 : Wr} {addr} (hw : w0.reg ∈ regTable) (h : Legal s) :
    Legal (writeReg s a w0 addr) := by
  unfold writeReg
  extract_lets lf w s1 t
  have h1 : Legal s1 := .onIf h fun _ h => .logEv h
  have ht : Legal t := .applyWr hw h1
  split
  · exact h1
  · exact .logEv h1
  · exact .quiet (showAfter_moves offLegs.up .refl) (.postWrite h1)
  · extract_lets u
    have hu : Legal u := .postWrite (.ite ht (.applyWr hw h1))
    refine .quiet (showAfter_moves offLegs.up .refl) ?_
    split
    · exact .logEv hu
    · exact hu

protected theorem Legal.regWrite {s : State} {a ua addr v} (h : Legal s) : Legal (regWrite s a ua addr v).2 := by
  unfold regWrite
  split
  · exact h
  · next r i j hreg =>
    extract_lets w
    split
    · exact h
    split
    · exact h
    split
    · exact h
    exact .writeReg (regOf_mem hreg) (.onIf h fun _ h => .owlRec h)

protected theorem Legal.busRead {s : State} {a addr size} (h : Legal s) : Legal (busRead s a addr size) := by
  unfold busRead
  split
  · exact .quiet (busReadRaw_moves offLegs.up .refl) h
  · refine .ite h ?_
    split
    · rename_i _ _ _ e
      have h2 := Legal.of_fst e (.replayCoreRead h)
      exact .quiet (State.answer_moves offLegs.up .refl) h2
    · rename_i _ _ e
      have h3 := Legal.of_fst e (.replayCoreRead h)
      extract_lets +onlyGivenNames s1
      have h1 : Legal s1 := .quiet (busReadRaw_moves offLegs.up .refl) h3
      split
      · exact .onIf h1 fun _ h => .quiet (State.freeNext_moves offLegs.up .refl) (.owlRec h)
      · exact h1

protected theorem Legal.busWrite {s : State} {a addr size v} (h : Legal s) : Legal (busWrite s a addr size v) := by
  unfold busWrite
  refine .ite h ?_
  refine .ite (.quiet (State.answer_moves offLegs.up .refl) h) ?_
  split
  · refine .ite (.quiet (busErr_moves offLegs.up .refl) h) ?_
    refine .ite (.quiet (busErr_moves offLegs.up .refl) h) ?_
    refine .ite (.quiet (busErr_moves offLegs.up .refl) h) ?_
    split
    · rename_i _ _ e
      have h1 := Legal.of_snd e (.regWrite h)
      exact .quiet (State.answer_moves offLegs.up .refl) h1
    · rename_i _ _ e
      have h2 := Legal.of_snd e (.regWrite h)
      exact .quiet (busErr_moves offLegs.up .refl) h2
  · exact .ite (.quiet (sramAccess_moves offLegs.up .refl) h) (.ite (.quiet (slotWrite_moves offLegs.up .refl) h) (.ite (.quiet
        (busErr_moves offLegs.up .refl) h) (.ite (.ite (.quiet (busErr_moves offLegs.up .refl) h) (.ite (.quiet
        (busErr_moves offLegs.up .refl) h) (.quiet (State.answer_moves offLegs.up (State.putBytes_moves offLegs.up .refl)) h))) (.quiet
        (busErr_moves offLegs.up .refl) h))))

protected theorem LegalEnd.wrFld {s : State} {a f i j v} (h : Legal s) : LegalEnd (wrFld s a f i j v) := .live h fun _ h => .busWrite h

protected theorem LegalEnd.execRegisterWrite {s : State} {a addr size v} (h : Legal s) : LegalEnd (execRegisterWrite a addr size v s) :=
  .live h fun _ h => .busWrite h

protected theorem LegalEnd.execRegisterRead {s : State} {a addr size} (h : Legal s) : LegalEnd (execRegisterRead a addr size s) :=
  .live h fun _ h => .busRead h

protected theorem LegalEnd.execTsLoRead {s : State} {a} (h : Legal s) : LegalEnd (execTsLoRead a s) := .live h fun _ h => .busRead h

protected theorem LegalEnd.execSatClear {s : State} {a n v} (h : Legal s) : LegalEnd (execSatClear a n v s) := .wrFld h

protected theorem LegalEnd.execProfileRequestWrite {s : State} {a v} (h : Legal s) : LegalEnd (execProfileRequestWrite a v s) := .wrFld h

protected theorem LegalEnd.execSeqSwtrig {s : State} {a q} (h : Legal s) : LegalEnd (execSeqSwtrig a q s) := .wrFld h

protected theorem LegalEnd.execSeqDisable {s : State} {a q v} (h : Legal s) : LegalEnd (execSeqDisable a q v s) := .wrFld h

protected theorem LegalEnd.execInjectionStart {s : State} {a c k v} (h : Legal s) : LegalEnd (execInjectionStart a c k v s) := .wrFld h

protected theorem LegalEnd.execCalFullRequest {s : State} {a c} (h : Legal s) : LegalEnd (execCalFullRequest a c s) := .wrFld h

protected theorem LegalEnd.execSrcRestore {s : State} {a n v} (h : Legal s) : LegalEnd (execSrcRestore a n v s) := .wrFld h

protected theorem LegalEnd.carrWr {s : State} {a r v} (h : Legal s) : LegalEnd (carrWr s a r v) := by
  unfold carrWr
  split <;> exact .wrFld h

protected theorem LegalEnd.execCarrierEnable {s : State} {a r v} (h : Legal s) : LegalEnd (execCarrierEnable a r v s) := .carrWr h

protected theorem LegalEnd.execCarrierDisable {s : State} {a r v} (h : Legal s) : LegalEnd (execCarrierDisable a r v s) := .carrWr h

protected theorem LegalEnd.execCommitWrite {s : State} {a n v} (h : Legal s) : LegalEnd (execCommitWrite a n v s) := .wrFld h

protected theorem LegalEnd.execLegCommit {s : State} {a l v} (h : Legal s) : LegalEnd (execLegCommit a l v s) := .wrFld h

protected theorem LegalEnd.execFltLatchClear {s : State} {a v} (h : Legal s) : LegalEnd (execFltLatchClear a v s) := .wrFld h

protected theorem LegalEnd.execSwapRequest {s : State} {a n v} (h : Legal s) : LegalEnd (execSwapRequest a n v s) := .wrFld h

protected theorem LegalEnd.execSealRequest {s : State} {a n v} (h : Legal s) : LegalEnd (execSealRequest a n v s) := .wrFld h

protected theorem LegalEnd.execKeAbnClear {s : State} {a n v} (h : Legal s) : LegalEnd (execKeAbnClear a n v s) := .wrFld h

protected theorem LegalEnd.execSwfailWrite {s : State} {a n v} (h : Legal s) : LegalEnd (execSwfailWrite a n v s) := .wrFld h

protected theorem LegalEnd.execLinkEnable {s : State} {a l v} (h : Legal s) : LegalEnd (execLinkEnable a l v s) := .wrFld h

protected theorem LegalEnd.execWdgKick {s : State} {a c v} (h : Legal s) : LegalEnd (execWdgKick a c v s) := .wrFld h

protected theorem LegalEnd.execTlsEnable {s : State} {a v} (h : Legal s) : LegalEnd (execTlsEnable a v s) := .wrFld h

protected theorem LegalEnd.execTlsDisable {s : State} {a v} (h : Legal s) : LegalEnd (execTlsDisable a v s) := .wrFld h

protected theorem LegalEnd.execSqTailWrite {s : State} {a q v} (h : Legal s) : LegalEnd (execSqTailWrite a q v s) := .wrFld h

protected theorem LegalEnd.execPlicClaim {s : State} {a c} (h : Legal s) : LegalEnd (execPlicClaim a c s) := .live h fun _ h => .busRead h

protected theorem LegalEnd.execPlicComplete {s : State} {a c v} (h : Legal s) : LegalEnd (execPlicComplete a c v s) := .wrFld h

protected theorem LegalEnd.execMeterRestore {s : State} {a v} (h : Legal s) : LegalEnd (execMeterRestore a v s) := .wrFld h

protected theorem LegalEnd.execCvuStart {s : State} {a c v} (h : Legal s) : LegalEnd (execCvuStart a c v s) := .wrFld h

protected theorem LegalEnd.execCvuAliveClr {s : State} {a c v} (h : Legal s) : LegalEnd (execCvuAliveClr a c v s) := .wrFld h

protected theorem LegalEnd.execCvuData {s : State} {a c size v} (h : Legal s) : LegalEnd (execCvuData a c size v s) := .wrFld h

protected theorem LegalEnd.execCvuResultRead {s : State} {a c} (h : Legal s) : LegalEnd (execCvuResultRead a c s) :=
  .live h fun _ h => .busRead h

protected theorem LegalEnd.execCvuAlive {s : State} {a c v} (h : Legal s) : LegalEnd (execCvuAlive a c v s) := .wrFld h

protected theorem LegalEnd.execOwlOffload {s : State} {a v errs} (h : Legal s) : LegalEnd (execOwlOffload a v errs s) :=
  .live h fun _ h => .onIf (.busWrite h) fun _ h => .quiet (owlSend_moves offLegs.up (eccReads_moves offLegs.up .refl)) h

protected theorem LegalEnd.execOwlLoadStore {s : State} {a v} (h : Legal s) : LegalEnd (execOwlLoadStore a v s) := .wrFld h

protected theorem LegalEnd.execReplayAbort {s : State} {a v} (h : Legal s) : LegalEnd (execReplayAbort a v s) := .wrFld h

protected theorem LegalEnd.execPwrReset {s : State} {a v} (h : Legal s) : LegalEnd (execPwrReset a v s) := .wrFld h

protected theorem LegalEnd.execShutdownRequest {s : State} {a v} (h : Legal s) : LegalEnd (execShutdownRequest a v s) := .wrFld h

protected theorem LegalEnd.execEpochAdvance {s : State} {a v} (h : Legal s) : LegalEnd (execEpochAdvance a v s) := .wrFld h

protected theorem LegalEnd.execKeyProgram {s : State} {a v} (h : Legal s) : LegalEnd (execKeyProgram a v s) := .wrFld h

protected theorem LegalEnd.execBistManual {s : State} {a v} (h : Legal s) : LegalEnd (execBistManual a v s) := .wrFld h

end Sys2Proof.Proofs
end

section
/-! PROOF. The operations of the MP, the links of the host, agreed inputs and the tick keep every leg in order, and so does every step
(O54). -/

namespace Sys2Proof.Proofs

open Sys2Proof Sys2Proof.Machine Sys2Proof.Safety

/-! ### The operations of the MP -/

protected theorem Legal.opGo {s : State} {c p f} (h : Legal s) (hf : ∀ t c p, Legal t → Legal (f t c p).2) :
    Legal (opGo s c p f) := by
  have hrun := hf s c p h
  simp only [opGo]
  split
  · exact .complete h
  · split
    · rename_i e
      rw [e] at hrun
      exact .ite hrun (.complete hrun)
    · rename_i e
      rw [e] at hrun
      exact hrun

protected theorem LegalEnd.opRow {s : State} {op c p f} (h : Legal s) (hf : ∀ t c p, Legal t → Legal (f t c p).2) :
    LegalEnd (opRow op f c p s) := .faced h fun _ h => .onIf h fun _ h => .opGo h hf

protected theorem Legal.opStat {r} (h : Legal r.2) : Legal (opStat r).2 := h

protected theorem Legal.opChEnable {s : State} {c x2} (h : Legal s) : Legal (opChEnable s c x2).2 := .opStat (.chEnable h)

protected theorem Legal.opChClearFault {s : State} {c x2} (h : Legal s) : Legal (opChClearFault s c x2).2 := .opStat (.chClearFault h)

protected theorem Legal.opChDischarge {s : State} {c x2} (h : Legal s) : Legal (opChDischarge s c x2).2 := .opStat (.chDischarge h)

protected theorem Legal.opChPrecharge {s : State} {c x2} (h : Legal s) : Legal (opChPrecharge s c x2).2 := .opStat (.chPrecharge h)

protected theorem Legal.cfgPut {s : State} {prv a v} (h : Legal s) : Legal (cfgPut s prv a v).2 := by
  unfold cfgPut
  split
  · exact h
  · extract_lets +onlyGivenNames locked
    split
    · rename_i _ _ e
      have h2 := Legal.of_snd e (.regWrite h)
      exact .quiet (busErr_moves offLegs.up .refl) h2
    · rename_i _ _ e
      have h3 := Legal.of_snd e (.regWrite h)
      split
      · exact h3
      · extract_lets +onlyGivenNames s1
        have h1 : Legal s1.2 := .quiet (cfgGet_moves offLegs.up .refl) h3
        exact h1

protected theorem Legal.cfgPuts {s : State} {b l n} (h : Legal s) : Legal (cfgPuts b l n s).2.2 := by
  induction l generalizing s n with
  | nil => exact h
  | cons x l ih =>
    obtain ⟨k, v⟩ := x
    have hput := Legal.cfgPut (prv := b) (a := k) (v := v) h
    simp only [cfgPuts]
    split
    · exact hput
    split
    · exact ih hput
    · exact hput

protected theorem Legal.opCfgWrite {s : State} {c p} (h : Legal s) : Legal (opCfgWrite s c p).2 := by
  unfold opCfgWrite
  extract_lets +onlyGivenNames _
  split
  · exact .quiet (opDone_moves offLegs.up .refl) h
  · extract_lets +onlyGivenNames s1
    have h1 : Legal s1.2.2 := .cfgPuts h
    exact .quiet (opDone_moves offLegs.up .refl) h1

protected theorem Legal.opReplayStart {s : State} {x1 p} (h : Legal s) : Legal (opReplayStart s x1 p).2 := .opStat (.replayBegin h)

protected theorem Legal.opPairRejoin {s : State} {x1 x2} (h : Legal s) : Legal (opPairRejoin s x1 x2).2 := by
  unfold opPairRejoin
  split
  · exact .quiet (opDone_moves offLegs.up .refl) (.settleRole h)
  · exact .quiet (opDone_moves offLegs.up .refl) h

protected theorem Legal.opOf {s : State} {op x2 x3} (h : Legal s) : Legal (opOf op s x2 x3).2 := by
  unfold opOf
  split
  · exact .quiet (opNop_moves offLegs.up .refl) h
  · exact .quiet (opGetEvents_moves offLegs.up .refl) h
  · exact .quiet (opSession_moves offLegs.up .refl) h
  · exact .quiet (opSessionClose_moves offLegs.up .refl) h
  · exact .quiet (opSetProfile_moves offLegs.up .refl) h
  · exact .opChEnable h
  · exact .opChClearFault h
  · exact .opChDischarge h
  · exact .opChPrecharge h
  · exact .quiet (opSetTorque_moves offLegs.up .refl) h
  · exact .quiet (opSetSpeed_moves offLegs.up .refl) h
  · exact .quiet (opSetLimits_moves offLegs.up .refl) h
  · exact .quiet (opSetRampLimits_moves offLegs.up .refl) h
  · exact .opCfgWrite h
  · exact .quiet (opCfgRead_moves offLegs.up .refl) h
  · exact .quiet (opCfgLock_moves offLegs.up .refl) h
  · exact .quiet (opCoefLoad_moves offLegs.up .refl) h
  · exact .quiet (opCoefSwap_moves offLegs.up .refl) h
  · exact .quiet (opCoefRead_moves offLegs.up .refl) h
  · exact .quiet (opCvCalibrate_moves offLegs.up .refl) h
  · exact .quiet (opCvInject_moves offLegs.up .refl) h
  · exact .quiet (opCvOpenWire_moves offLegs.up .refl) h
  · exact .quiet (opPosHome_moves offLegs.up .refl) h
  · exact .quiet (opPosSet_moves offLegs.up .refl) h
  · exact .quiet (opPrtConfig_moves offLegs.up .refl) h
  · exact .quiet (opPrtTest_moves offLegs.up .refl) h
  · exact .quiet (opMtrRead_moves offLegs.up .refl) h
  · exact .quiet (opLedgerFetch_moves offLegs.up .refl) h
  · exact .quiet (opMtrCal_moves offLegs.up .refl) h
  · exact .quiet (opOwlArm_moves offLegs.up .refl) h
  · exact .quiet (opOwlTrigger_moves offLegs.up .refl) h
  · exact .quiet (opOwlFetch_moves offLegs.up .refl) h
  · exact .opReplayStart h
  · exact .quiet (opPairStatus_moves offLegs.up .refl) h
  · exact .quiet (opPairRole_moves offLegs.up .refl) h
  · exact .opPairRejoin h
  · exact .quiet (opSettEnumerate_moves offLegs.up .refl) h
  · exact .quiet (opSettNode_moves offLegs.up .refl) h
  · exact .quiet (opSettNode_moves offLegs.up .refl) h
  · exact .quiet (opLcQuery_moves offLegs.up .refl) h
  · exact .quiet (opLcAdvance_moves offLegs.up .refl) h
  · exact .quiet (opFwUpdate_moves offLegs.up .refl) h
  · exact .quiet (opKeyRevoke_moves offLegs.up .refl) h
  · exact .quiet (opBistReport_moves offLegs.up .refl) h
  · exact .opSelftestRun h
  · exact .quiet (opDiagPeek_moves offLegs.up .refl) h
  · exact .quiet (opDone_moves offLegs.up .refl) h

protected theorem Legal.mpTake {s : State} {cl q k} (h : Legal s) : Legal (mpTake s cl q k) :=
  .opGo (.quiet (mpServe_moves offLegs.up .refl) h) fun _ _ _ h => .opOf h

protected theorem Legal.mpDispatch {s : State} (h : Legal s) : Legal (mpDispatch s) := by
  unfold mpDispatch
  extract_lets +onlyGivenNames s1
  have h1 : Legal s1 := .quiet (settleOps_moves offLegs.up .refl) h
  refine .ite h1 ?_
  split
  · exact h1
  · split
    · exact h1
    · exact .mpTake h1

protected theorem LegalEnd.execMpDispatch {s : State} (h : Legal s) : LegalEnd (execMpDispatch s) := .faced h fun _ h => .mpDispatch h

protected theorem LegalEnd.execGetStatus {s : State} {c p} (h : Legal s) : LegalEnd (execGetStatus c p s) :=
  .faced h fun _ h => .ite (.complete h) (.ite (.complete h) (.preExec h))

protected theorem LegalEnd.execChStop {s : State} {c p} (h : Legal s) : LegalEnd (execChStop c p s) :=
  .faced h fun _ h => .ite (.complete h) (.ite (.complete h) (.preExec h))

protected theorem LegalEnd.execChSafe {s : State} {c p} (h : Legal s) : LegalEnd (execChSafe c p s) :=
  .faced h fun _ h => .ite (.complete h) (.ite (.complete h) (.preExec h))

protected theorem LegalEnd.execChEnable {s : State} {c p} (h : Legal s) : LegalEnd (execChEnable c p s) :=
  .opRow h fun _ _ _ h => .opChEnable h

protected theorem LegalEnd.execChClearFault {s : State} {c p} (h : Legal s) : LegalEnd (execChClearFault c p s) :=
  .opRow h fun _ _ _ h => .opChClearFault h

protected theorem LegalEnd.execChDischarge {s : State} {c p} (h : Legal s) : LegalEnd (execChDischarge c p s) :=
  .opRow h fun _ _ _ h => .opChDischarge h

protected theorem LegalEnd.execChPrecharge {s : State} {c p} (h : Legal s) : LegalEnd (execChPrecharge c p s) :=
  .opRow h fun _ _ _ h => .opChPrecharge h

protected theorem LegalEnd.execCfgWrite {s : State} {c p} (h : Legal s) : LegalEnd (execCfgWrite c p s) :=
  .opRow h fun _ _ _ h => .opCfgWrite h

protected theorem LegalEnd.execReplayStart {s : State} {c p} (h : Legal s) : LegalEnd (execReplayStart c p s) :=
  .opRow h fun _ _ _ h => .opReplayStart h

protected theorem LegalEnd.execPairRejoin {s : State} {c p} (h : Legal s) : LegalEnd (execPairRejoin c p s) :=
  .opRow h fun _ _ _ h => .opPairRejoin h

protected theorem LegalEnd.execSelftestRun {s : State} {c p} (h : Legal s) : LegalEnd (execSelftestRun c p s) :=
  .opRow h fun _ _ _ h => .opSelftestRun h

/-! ### The host link and CAN -/

protected theorem Legal.hlkWritten {s s' : State} {c st} (k : Legal s') : Legal (hlkWritten s s' c st) :=
  .ite (.quiet (hlkReply_moves offLegs.up .refl) k) (.ite (.quiet (hlkRead_moves offLegs.up .refl) k) (.quiet
      (hlkReply_moves offLegs.up .refl) k))

protected theorem Legal.hlkCmd {s : State} {own pl} (h : Legal s) : Legal (hlkCmd s own pl) := by
  unfold hlkCmd
  extract_lets +onlyGivenNames s1
  have h1 : Legal s1.2 := .packetArrival h
  refine .ite h1 ?_
  split
  · exact .quiet (hlkReply_moves offLegs.up .refl) h1
  · exact .hlkWritten h1
  · exact .quiet (hlkReply_moves offLegs.up .refl) h1
  · exact .quiet (hlkReply_moves offLegs.up .refl) h1
  · exact .hlkWritten h1
  · exact .quiet (hlkReply_moves offLegs.up .refl) h1

protected theorem Legal.hlkFrame {s : State} {b} (h : Legal s) : Legal (hlkFrame s b) := by
  unfold hlkFrame
  refine .ite h ?_
  refine .ite (.incSat h) ?_
  extract_lets +onlyGivenNames own any
  split
  · exact .onIf h fun _ h => .quiet (hlkPoll_moves offLegs.up .refl) h
  · exact .onIf h fun _ h => .hlkCmd h
  · exact .onIf h fun _ h => .foldl h fun _ _ h => .quiet (fastEntry_moves offLegs.up .refl) h
  · exact .onIf h fun _ h => .quiet (hlkEnum_moves offLegs.up .refl) h
  · exact h

protected theorem LegalEnd.execPoll {s : State} {b} (h : Legal s) : LegalEnd (execPoll b s) := .faced h fun _ h => .hlkFrame h

protected theorem LegalEnd.execHlkCmd {s : State} {b} (h : Legal s) : LegalEnd (execHlkCmd b s) := .faced h fun _ h => .hlkFrame h

protected theorem LegalEnd.execHlkFast {s : State} {b} (h : Legal s) : LegalEnd (execHlkFast b s) := .faced h fun _ h => .hlkFrame h

protected theorem LegalEnd.execDiscover {s : State} {b} (h : Legal s) : LegalEnd (execDiscover b s) := .faced h fun _ h => .hlkFrame h

protected theorem LegalEnd.execHlkAssign {s : State} {b} (h : Legal s) : LegalEnd (execHlkAssign b s) := .faced h fun _ h => .hlkFrame h

protected theorem Legal.canPacket {s : State} {x b} (h : Legal s) : Legal (canPacket s x b) := by
  unfold canPacket
  extract_lets +onlyGivenNames pkt s1
  have h1 : Legal s1.2 := .packetArrival (.quiet (canAsmPut_moves offLegs.up .refl) h)
  exact .quiet (canAck_moves offLegs.up .refl) h1

protected theorem Legal.canSegment {s : State} {x b} (h : Legal s) : Legal (canSegment s x b) := by
  unfold canSegment
  extract_lets +onlyGivenNames _ i v3
  have h1 : ∀ x y, Legal (v3 x y) := fun _ _ => .ite (.canPacket h) (.quiet (canAsmPut_moves offLegs.up .refl) h)
  refine .ite (.quiet (canDrop_moves offLegs.up .refl) h) ?_
  refine .ite (.ite (h1 _ _) (.quiet (canDrop_moves offLegs.up .refl) h)) ?_
  split
  · exact .ite (h1 _ _) (.quiet (canDrop_moves offLegs.up .refl) h)
  · exact .quiet (canDrop_moves offLegs.up .refl) h

protected theorem LegalEnd.execCanSegment {s : State} {x b} (h : Legal s) : LegalEnd (execCanSegment x b s) :=
  .faced h fun _ h => .onIf h fun _ h => .canSegment h

/-! ### Agreed inputs (R333) -/

protected theorem Legal.spwriteApply {s : State} {n pay} (h : Legal s) : Legal (spwriteApply s n pay) := by
  unfold spwriteApply
  refine .ite (.quiet (storeWord_moves offLegs.up .refl) h) ?_
  extract_lets
  split
  · exact h
  · next hreg => exact .writeReg (regOf_mem hreg) h

protected theorem Legal.agreed {s : State} {e} (h : Legal s) : Legal (agreed s e) := by
  unfold agreed
  extract_lets +onlyGivenNames n
  split
  · exact .quiet (Moves.landing offLegs.up .refl) (.owlRec h)
  · exact .quiet (Moves.landing offLegs.up .refl) (.owlRec h)
  · exact .quiet (Moves.landing offLegs.up .refl) (.owlRec h)
  · exact .ite (.owlRec h) (.quiet (storeWord_moves offLegs.up .refl) (.owlRec h))
  · exact .quiet (irqRelease_moves offLegs.up .refl) h
  · exact .spwriteApply (.owlRec h)

protected theorem Legal.chuckRelease {s : State} {p differ} (h : Legal s) : Legal (chuckRelease s p differ) := by
  unfold chuckRelease
  refine .ite (.bdgRelease h) ?_
  split
  · exact h
  · exact .agreed (.quiet (chuckCompare_moves offLegs.up .refl) (.quiet (Moves.chuck offLegs.up .refl) h))

protected theorem LegalEnd.execChuckRelease {s : State} {p differ} (h : Legal s) : LegalEnd (execChuckRelease p differ s) :=
  .live h fun _ h => .chuckRelease h

/-! ### The tick -/

protected theorem Legal.tickFaults {s : State} (h : Legal s) : Legal (tickFaults s) :=
  .quiet (faultNShow_moves offLegs.up (safeEnUpdate_moves offLegs.up .refl)) (.onIf (.deliverAll h) fun _ h => .endReplay h)

protected theorem Legal.tickDue {s : State} (h : Legal s) : Legal (tickDue s) :=
  .quiet (bistPhase_moves offLegs.up .refl) (.releaseIdle (.quiet (settleOps_moves offLegs.up .refl) (.shutDischarge (.quiet
      (seqDue_moves offLegs.up .refl) h))))

protected theorem Legal.tick {s : State} (h : Legal s) : Legal (tick s) := by
  unfold tick
  refine .ite h ?_
  extract_lets +onlyGivenNames s1
  have h1 : Legal s1 := .tickFaults (.quiet (owlTick_moves offLegs.up (evFlush_moves offLegs.up (coreIrqs_moves offLegs.up .refl))) h)
  exact .quiet (cvbTick_moves offLegs.up (Moves.ts offLegs.up .refl)) (.quiet (tickAon_moves offLegs.up .refl) (.tickDue h1))

/-! ### Steps -/

/-- Every command keeps the legs in order: by its own lemma where it reaches a leg, by its mask where it stays apart from the legs. -/
theorem exec_legal {s : State} (i : Instr) (h : Legal s) : LegalEnd (exec i s) :=
  match i with
  | .registerWrite _ _ _ _ => .execRegisterWrite h
  | .tsLoRead _ => .execTsLoRead h
  | .satClear _ _ _ => .execSatClear h
  | .reload _ => .execReload h
  | .commitArrival _ => .execCommitArrival h
  | .commitDeadline _ => .execCommitDeadline h
  | .profileRequestWrite _ _ => .execProfileRequestWrite h
  | .clockLoss _ => .quiet (execClockLoss_moves offLegs.up .refl) h
  | .xinLoss => .quiet (execXinLoss_moves offLegs.up .refl) h
  | .ckwSwitch => .quiet (execCkwSwitch_moves offLegs.up .refl) h
  | .phaseMeasure _ => .quiet (execPhaseMeasure_moves offLegs.up .refl) h
  | .slotWrite _ _ _ _ _ => .quiet (execSlotWrite_moves offLegs.up .refl) h
  | .slotRead _ _ _ _ => .quiet (execSlotRead_moves offLegs.up .refl) h
  | .scrubRead _ => .quiet (execScrubRead_moves offLegs.up .refl) h
  | .eccWriteback _ _ => .quiet (execEccWriteback_moves offLegs.up .refl) h
  | .scrubLate => .quiet (execScrubLate_moves offLegs.up .refl) h
  | .windowResult _ _ _ => .quiet (execWindowResult_moves offLegs.up .refl) h
  | .seqSwtrig _ _ => .execSeqSwtrig h
  | .seqRunEnd _ => .quiet (execSeqRunEnd_moves offLegs.up .refl) h
  | .seqDisable _ _ _ => .execSeqDisable h
  | .triggerTimerExpiry _ => .quiet (execTriggerTimerExpiry_moves offLegs.up .refl) h
  | .adcTrigEdge _ _ => .quiet (execAdcTrigEdge_moves offLegs.up .refl) h
  | .injectionStart _ _ _ _ => .execInjectionStart h
  | .injectionDone _ _ _ => .quiet (execInjectionDone_moves offLegs.up .refl) h
  | .calFullRequest _ _ => .execCalFullRequest h
  | .calFullStart _ => .quiet (execCalFullStart_moves offLegs.up .refl) h
  | .calEnd _ _ _ => .quiet (execCalEnd_moves offLegs.up .refl) h
  | .bgcalSlice _ _ _ => .quiet (execBgcalSlice_moves offLegs.up .refl) h
  | .bgcalStarved _ => .quiet (execBgcalStarved_moves offLegs.up .refl) h
  | .cvPowerDown _ => .quiet (execCvPowerDown_moves offLegs.up .refl) h
  | .cvShutdownDone _ => .quiet (execCvShutdownDone_moves offLegs.up .refl) h
  | .cvStartupDone _ => .quiet (execCvStartupDone_moves offLegs.up .refl) h
  | .refReady _ => .quiet (execRefReady_moves offLegs.up .refl) h
  | .idleScanVisit _ => .quiet (execIdleScanVisit_moves offLegs.up .refl) h
  | .cmpAssert _ _ => .execCmpAssert h
  | .cmpDeassert _ _ => .execCmpDeassert h
  | .owPeriodic => .quiet (execOwPeriodic_moves offLegs.up .refl) h
  | .owDwellEnd _ => .quiet (execOwDwellEnd_moves offLegs.up .refl) h
  | .owTestDone _ _ _ => .quiet (execOwTestDone_moves offLegs.up .refl) h
  | .encEdge _ _ _ _ _ _ _ => .quiet (execEncEdge_moves offLegs.up .refl) h
  | .delayedEdge _ _ => .quiet (execDelayedEdge_moves offLegs.up .refl) h
  | .noisyInterval _ => .quiet (execNoisyInterval_moves offLegs.up .refl) h
  | .wireFault _ _ => .quiet (execWireFault_moves offLegs.up .refl) h
  | .index _ => .quiet (execIndex_moves offLegs.up .refl) h
  | .zMissing _ => .quiet (execZMissing_moves offLegs.up .refl) h
  | .hallEdge _ _ _ _ => .quiet (execHallEdge_moves offLegs.up .refl) h
  | .hallInvalid _ => .quiet (execHallInvalid_moves offLegs.up .refl) h
  | .rsvSample _ _ _ _ => .quiet (execRsvSample_moves offLegs.up .refl) h
  | .serFrameStart _ _ => .quiet (execSerFrameStart_moves offLegs.up .refl) h
  | .serFrameEnd _ _ _ => .quiet (execSerFrameEnd_moves offLegs.up .refl) h
  | .serTimeout _ => .quiet (execSerTimeout_moves offLegs.up .refl) h
  | .spdTimeout _ => .quiet (execSpdTimeout_moves offLegs.up .refl) h
  | .periodLatch _ => .execPeriodLatch h
  | .srcRestore _ _ _ => .execSrcRestore h
  | .posHome _ _ => .quiet (execPosHome_moves offLegs.up .refl) h
  | .posSet _ _ => .quiet (execPosSet_moves offLegs.up .refl) h
  | .carrierEnable _ _ _ => .execCarrierEnable h
  | .carrierSyncStart _ => .execCarrierSyncStart h
  | .carrierDisable _ _ _ => .execCarrierDisable h
  | .carrierZero _ => .execCarrierZero h
  | .carrierPeak _ => .execCarrierPeak h
  | .cotEndEvent _ => .execCotEndEvent h
  | .cotPerMin _ => .execCotPerMin h
  | .cotPermax _ => .execCotPermax h
  | .dlCal _ => .execDlCal h
  | .commitWrite _ _ _ => .execCommitWrite h
  | .legCommit _ _ _ => .execLegCommit h
  | .faultInputActive _ _ => .execFaultInputActive h
  | .faultInputInactive _ _ => .execFaultInputInactive h
  | .itripActive _ => .execItripActive h
  | .blankEnd _ => .execBlankEnd h
  | .fltLatchClear _ _ => .execFltLatchClear h
  | .outputGateHold _ => .execOutputGateHold h
  | .outputGateRelease _ => .execOutputGateRelease h
  | .deadTimeEnd _ _ => .execDeadTimeEnd h
  | .measLanding _ _ => .quiet (execMeasLanding_moves offLegs.up .refl) h
  | .speculation _ _ => .quiet (execSpeculation_moves offLegs.up .refl) h
  | .specDone _ => .quiet (execSpecDone_moves offLegs.up .refl) h
  | .fastPath _ => .execFastPath h
  | .fullEvalDone _ _ => .execFullEvalDone h
  | .waitLimit _ => .execWaitLimit h
  | .fbHoldExpired _ => .execFbHoldExpired h
  | .swapRequest _ _ _ => .execSwapRequest h
  | .sealRequest _ _ _ => .execSealRequest h
  | .sealDone _ => .quiet (execSealDone_moves offLegs.up .refl) h
  | .oscWindowEnd _ => .quiet (execOscWindowEnd_moves offLegs.up .refl) h
  | .fwLimit _ => .quiet (execFwLimit_moves offLegs.up .refl) h
  | .dtcDecision _ => .execDtcDecision h
  | .dtcMiss _ => .execDtcMiss h
  | .handover _ => .execHandover h
  | .ipdComplete _ _ => .execIpdComplete h
  | .obsValid _ => .quiet (execObsValid_moves offLegs.up .refl) h
  | .obsLost _ => .quiet (execObsLost_moves offLegs.up .refl) h
  | .recapture _ _ _ _ _ _ => .execRecapture h
  | .recapAttemptEnd _ => .execRecapAttemptEnd h
  | .locked _ => .quiet (execLocked_moves offLegs.up .refl) h
  | .lockClear _ => .quiet (execLockClear_moves offLegs.up .refl) h
  | .keAbnormal _ => .quiet (execKeAbnormal_moves offLegs.up .refl) h
  | .keAbnClear _ _ _ => .execKeAbnClear h
  | .pllLock _ => .quiet (execPllLock_moves offLegs.up .refl) h
  | .pllUnlock _ => .quiet (execPllUnlock_moves offLegs.up .refl) h
  | .gridBand _ => .quiet (execGridBand_moves offLegs.up .refl) h
  | .chPrecharge _ _ => .execChPrecharge h
  | .chEnable _ _ => .execChEnable h
  | .chStop _ _ => .execChStop h
  | .chSafe _ _ => .execChSafe h
  | .chClearFault _ _ => .execChClearFault h
  | .chDischarge _ _ => .execChDischarge h
  | .swfailWrite _ _ _ => .execSwfailWrite h
  | .linkEnable _ _ _ => .execLinkEnable h
  | .ovWarn _ _ => .execOvWarn h
  | .chopOn _ _ => .execChopOn h
  | .chopOff _ _ => .execChopOff h
  | .ovAsc _ _ => .execOvAsc h
  | .ovHard _ _ => .execOvHard h
  | .linkStarved _ => .quiet (execLinkStarved_moves offLegs.up .refl) h
  | .chopCommit _ => .execChopCommit h
  | .chopConfirm _ _ => .quiet (execChopConfirm_moves offLegs.up .refl) h
  | .prechargeDone _ _ => .execPrechargeDone h
  | .prechargeFail _ => .execPrechargeFail h
  | .prechargeLegOff _ => .execPrechargeLegOff h
  | .disDone _ _ => .execDisDone h
  | .disFail _ => .quiet (execDisFail_moves offLegs.up .refl) h
  | .disTimeout _ => .execDisTimeout h
  | .badgerEval _ => .quiet (execBadgerEval_moves offLegs.up .refl) h
  | .lockstepMismatch _ _ _ _ => .execLockstepMismatch h
  | .cmpSelftest _ _ _ => .quiet (execCmpSelftest_moves offLegs.up .refl) h
  | .chuckRelease _ _ => .execChuckRelease h
  | .stateDigest _ _ _ => .execStateDigest h
  | .spindleRestore _ => .execSpindleRestore h
  | .corePairRestart _ => .quiet (execCorePairRestart_moves offLegs.up .refl) h
  | .mpRestart => .quiet (execMpRestart_moves offLegs.up .refl) h
  | .debugHalt _ => .quiet (execDebugHalt_moves offLegs.up .refl) h
  | .ckbMonitor _ => .quiet (execCkbMonitor_moves offLegs.up .refl) h
  | .ckbTrim => .quiet (execCkbTrim_moves offLegs.up .refl) h
  | .supplyFault _ => .quiet (execSupplyFault_moves offLegs.up .refl) h
  | .bdgUndervoltReset => .quiet (execBdgUndervoltReset_moves offLegs.up .refl) h
  | .scvTdiodeRead _ => .execScvTdiodeRead h
  | .wdgKick _ _ _ => .execWdgKick h
  | .wdgTimeout _ => .quiet (execWdgTimeout_moves offLegs.up .refl) h
  | .faultRaised _ _ => .execFaultRaised h
  | .faultRead _ => .quiet (execFaultRead_moves offLegs.up .refl) h
  | .faultClear _ _ => .quiet (execFaultClear_moves offLegs.up .refl) h
  | .classRead _ => .quiet (execClassRead_moves offLegs.up .refl) h
  | .paramStage _ _ _ => .quiet (execParamStage_moves offLegs.up .refl) h
  | .paramRead _ => .quiet (execParamRead_moves offLegs.up .refl) h
  | .monRead _ => .quiet (execMonRead_moves offLegs.up .refl) h
  | .roleSettle => .execRoleSettle h
  | .startWaitExpired => .execStartWaitExpired h
  | .standbyDemote => .execStandbyDemote h
  | .selFbChange _ => .execSelFbChange h
  | .heartbeatMissing => .execHeartbeatMissing h
  | .takeoverXlStart => .execTakeoverXlStart h
  | .takeoverClaim => .execTakeoverClaim h
  | .selectorFault => .quiet (execSelectorFault_moves offLegs.up .refl) h
  | .handoffRelease => .quiet (execHandoffRelease_moves offLegs.up .refl) h
  | .laneUp _ => .quiet (execLaneUp_moves offLegs.up .refl) h
  | .laneDown _ => .quiet (execLaneDown_moves offLegs.up .refl) h
  | .linkDown => .quiet (execLinkDown_moves offLegs.up .refl) h
  | .checkpointRx _ _ => .quiet (execCheckpointRx_moves offLegs.up .refl) h
  | .meterCheckpointRx _ _ => .quiet (execMeterCheckpointRx_moves offLegs.up .refl) h
  | .timebaseSyncRx _ _ => .execTimebaseSyncRx h
  | .heartbeatRx _ _ => .execHeartbeatRx h
  | .configDigestRx _ _ => .quiet (execConfigDigestRx_moves offLegs.up .refl) h
  | .meterCheckpointTx => .quiet (execMeterCheckpointTx_moves offLegs.up .refl) h
  | .timebaseSyncTx => .quiet (execTimebaseSyncTx_moves offLegs.up .refl) h
  | .heartbeatTx => .quiet (execHeartbeatTx_moves offLegs.up .refl) h
  | .configDigestTx => .quiet (execConfigDigestTx_moves offLegs.up .refl) h
  | .tlsEnable _ _ => .execTlsEnable h
  | .tlsDisable _ _ => .execTlsDisable h
  | .pairStatus _ _ => .quiet (execPairStatus_moves offLegs.up .refl) h
  | .pairRole _ _ => .quiet (execPairRole_moves offLegs.up .refl) h
  | .pairRejoin _ _ => .execPairRejoin h
  | .packetArrival _ _ _ => .execPacketArrival h
  | .sqTailWrite _ _ _ => .execSqTailWrite h
  | .mpDispatch => .execMpDispatch h
  | .waitExpired _ => .quiet (execWaitExpired_moves offLegs.up .refl) h
  | .mploadWindow _ => .quiet (execMploadWindow_moves offLegs.up .refl) h
  | .queueIdleTimeout _ => .quiet (execQueueIdleTimeout_moves offLegs.up .refl) h
  | .challengeExpiry _ => .quiet (execChallengeExpiry_moves offLegs.up .refl) h
  | .nop _ _ => .quiet (execNop_moves offLegs.up .refl) h
  | .getStatus _ _ => .execGetStatus h
  | .getEvents _ _ => .quiet (execGetEvents_moves offLegs.up .refl) h
  | .sessionOpen _ _ => .quiet (execSessionOpen_moves offLegs.up .refl) h
  | .challenge _ _ => .quiet (execChallenge_moves offLegs.up .refl) h
  | .openP _ _ => .quiet (execOpenP_moves offLegs.up .refl) h
  | .sessionClose _ _ => .quiet (execSessionClose_moves offLegs.up .refl) h
  | .setProfile _ _ => .quiet (execSetProfile_moves offLegs.up .refl) h
  | .setTorque _ _ => .quiet (execSetTorque_moves offLegs.up .refl) h
  | .setSpeed _ _ => .quiet (execSetSpeed_moves offLegs.up .refl) h
  | .setLimits _ _ => .quiet (execSetLimits_moves offLegs.up .refl) h
  | .setRampLimits _ _ => .quiet (execSetRampLimits_moves offLegs.up .refl) h
  | .cfgWrite _ _ => .execCfgWrite h
  | .cfgRead _ _ => .quiet (execCfgRead_moves offLegs.up .refl) h
  | .cfgLock _ _ => .quiet (execCfgLock_moves offLegs.up .refl) h
  | .coefLoad _ _ => .quiet (execCoefLoad_moves offLegs.up .refl) h
  | .coefSwap _ _ => .quiet (execCoefSwap_moves offLegs.up .refl) h
  | .coefRead _ _ _ => .quiet (execCoefRead_moves offLegs.up .refl) h
  | .cvCalibrate _ _ => .quiet (execCvCalibrate_moves offLegs.up .refl) h
  | .cvInject _ _ => .quiet (execCvInject_moves offLegs.up .refl) h
  | .cvOpenWireTest _ _ => .quiet (execCvOpenWireTest_moves offLegs.up .refl) h
  | .prtConfig _ _ => .quiet (execPrtConfig_moves offLegs.up .refl) h
  | .prtTest _ _ => .quiet (execPrtTest_moves offLegs.up .refl) h
  | .mtrRead _ _ => .quiet (execMtrRead_moves offLegs.up .refl) h
  | .ledgerFetch _ _ => .quiet (execLedgerFetch_moves offLegs.up .refl) h
  | .mtrCal _ _ => .quiet (execMtrCal_moves offLegs.up .refl) h
  | .owlArm _ _ => .quiet (execOwlArm_moves offLegs.up .refl) h
  | .owlTrigger _ _ => .quiet (execOwlTrigger_moves offLegs.up .refl) h
  | .owlFetch _ _ _ => .quiet (execOwlFetch_moves offLegs.up .refl) h
  | .replayStart _ _ => .execReplayStart h
  | .settEnumerate _ _ => .quiet (execSettEnumerate_moves offLegs.up .refl) h
  | .settNodeRead _ _ => .quiet (execSettNodeRead_moves offLegs.up .refl) h
  | .settNodeWrite _ _ => .quiet (execSettNodeWrite_moves offLegs.up .refl) h
  | .lcQuery _ _ => .quiet (execLcQuery_moves offLegs.up .refl) h
  | .lcAdvance _ _ => .quiet (execLcAdvance_moves offLegs.up .refl) h
  | .fwUpdate _ _ => .quiet (execFwUpdate_moves offLegs.up .refl) h
  | .keyRevoke _ _ => .quiet (execKeyRevoke_moves offLegs.up .refl) h
  | .bistReport _ _ => .quiet (execBistReport_moves offLegs.up .refl) h
  | .selftestRun _ _ => .execSelftestRun h
  | .diagPeek _ _ => .quiet (execDiagPeek_moves offLegs.up .refl) h
  | .poll _ => .execPoll h
  | .hlkCmd _ => .execHlkCmd h
  | .hlkFast _ => .execHlkFast h
  | .discover _ => .execDiscover h
  | .hlkAssign _ => .execHlkAssign h
  | .hlkFrameAbort => .quiet (execHlkFrameAbort_moves offLegs.up .refl) h
  | .canSegment _ _ => .execCanSegment h
  | .canSegmentGap _ => .quiet (execCanSegmentGap_moves offLegs.up .refl) h
  | .canSetpoint _ _ _ => .quiet (execCanSetpoint_moves offLegs.up .refl) h
  | .canBusoff _ => .quiet (execCanBusoff_moves offLegs.up .refl) h
  | .slotStale _ _ => .quiet (execSlotStale_moves offLegs.up .refl) h
  | .ptpSync _ _ _ => .quiet (execPtpSync_moves offLegs.up .refl) h
  | .ptpLost => .quiet (execPtpLost_moves offLegs.up .refl) h
  | .plicClaim _ _ => .execPlicClaim h
  | .plicComplete _ _ _ => .execPlicComplete h
  | .settFastStart _ => .quiet (execSettFastStart_moves offLegs.up .refl) h
  | .settFastReturn _ _ _ _ _ _ => .execSettFastReturn h
  | .settSlowStart _ _ => .quiet (execSettSlowStart_moves offLegs.up .refl) h
  | .settSlowReply _ _ _ _ _ => .execSettSlowReply h
  | .packidRead => .quiet (execPackidRead_moves offLegs.up .refl) h
  | .packUnverified => .quiet (execPackUnverified_moves offLegs.up .refl) h
  | .settAssignReply _ _ _ => .quiet (execSettAssignReply_moves offLegs.up .refl) h
  | .ringBreak _ _ _ _ => .quiet (execRingBreak_moves offLegs.up .refl) h
  | .closeTest _ _ => .quiet (execCloseTest_moves offLegs.up .refl) h
  | .meterBlock _ _ _ => .quiet (execMeterBlock_moves offLegs.up .refl) h
  | .ledgerRecord => .quiet (execLedgerRecord_moves offLegs.up .refl) h
  | .meterRestore _ _ => .execMeterRestore h
  | .cvuStart _ _ _ => .execCvuStart h
  | .cvuData _ _ _ _ => .execCvuData h
  | .cvuResultRead _ _ => .execCvuResultRead h
  | .cvuAlive _ _ _ => .execCvuAlive h
  | .cvuAliveClr _ _ _ => .execCvuAliveClr h
  | .owlTickHeader => .quiet (execOwlTickHeader_moves offLegs.up .refl) h
  | .owlStop => .quiet (execOwlStop_moves offLegs.up .refl) h
  | .owlOffload _ _ _ => .execOwlOffload h
  | .owlOffloadDone => .quiet (execOwlOffloadDone_moves offLegs.up .refl) h
  | .owlLoadStore _ _ => .execOwlLoadStore h
  | .replayHeader => .execReplayHeader h
  | .replayInput _ => .execReplayInput h
  | .replayEnd => .execReplayEnd h
  | .replayAbort _ _ => .execReplayAbort h
  | .configDigestUpdate => .quiet (execConfigDigestUpdate_moves offLegs.up .refl) h
  | .porstAssert => .execPorstAssert h
  | .porstRelease _ _ _ => .execPorstRelease h
  | .pwrReset _ _ => .execPwrReset h
  | .badgerStartDone _ _ => .execBadgerStartDone h
  | .startupBistDone _ _ _ _ _ _ => .execStartupBistDone h
  | .bootLoadDone => .quiet (execBootLoadDone_moves offLegs.up .refl) h
  | .devReady => .execDevReady h
  | .shutdownRequest _ _ => .execShutdownRequest h
  | .ignFilterExpiry => .execIgnFilterExpiry h
  | .shutdownQuiescent => .execShutdownQuiescent h
  | .shutWait => .quiet (execShutWait_moves offLegs.up .refl) h
  | .shutdownBistDone _ _ _ _ _ _ => .execShutdownBistDone h
  | .bistTimeout => .execBistTimeout h
  | .wakePin _ _ _ => .execWakePin h
  | .wakeTimer _ _ => .execWakeTimer h
  | .aonLoss => .quiet (execAonLoss_moves offLegs.up .refl) h
  | .thermalReading _ => .execThermalReading h
  | .thmStale => .quiet (execThmStale_moves offLegs.up .refl) h
  | .thmTrim => .quiet (execThmTrim_moves offLegs.up .refl) h
  | .epochAdvance _ _ => .execEpochAdvance h
  | .keyProgram _ _ => .execKeyProgram h
  | .bistManual _ _ => .execBistManual h
  | .selftestDone _ _ _ _ _ _ => .execSelftestDone h
  | .fwProgramDone _ => .quiet (execFwProgramDone_moves offLegs.up .refl) h
  | .heartbeatPresent => .execHeartbeatPresent h
  | .clockReturn _ => .quiet (execClockReturn_moves offLegs.up .refl) h
  | .supplyReturn _ => .quiet (execSupplyReturn_moves offLegs.up .refl) h
  | .registerRead _ _ _ => .execRegisterRead h
  | .sramAccess _ _ _ _ _ _ => .quiet (execSramAccess_moves offLegs.up .refl) h
  | .windowOpen _ _ => .quiet (execWindowOpen_moves offLegs.up .refl) h
  | .dutyEdge _ => .execDutyEdge h
  | .linkThresholdDeassert _ _ => .execLinkThresholdDeassert h
  | .encoEdge => .quiet (execEncoEdge_moves offLegs.up .refl) h
  | .canBusoffRecovery _ => .quiet (execCanBusoffRecovery_moves offLegs.up .refl) h
  | .safeEnPulseEnd => .quiet (execSafeEnPulseEnd_moves offLegs.up .refl) h
  | .profileChangeEffect => .quiet (execProfileChangeEffect_moves offLegs.up .refl) h

theorem step_legal {s : State} (h : Legal s) : LegalEnd (step s) := by
  cases hq : s.pending with
  | nil =>
    have htick : step s = .next (tick s) := by simp only [step, hq]
    exact htick ▸ .next (.tick h)
  | cons c q =>
    have hexec : step s = exec c { s with pending := q } := by simp only [step, hq]
    exact hexec ▸ exec_legal c (.congr h rfl rfl rfl rfl rfl)

/-- Settles O54: a legal state is one whose stores are in form and whose legs are in order, and every step leaves one. -/
theorem noShootThroughKept : Obligations.NoShootThroughKept := by
  intro s t hwf hlegs hstep
  have ht := step_legal ⟨hwf, hlegs⟩ t hstep
  exact ⟨ht.legs, fun k => (ht.legs k).1⟩

end Sys2Proof.Proofs
end

section
/-! PROOF. Fault inputs (O16): at which level an input asserts. -/

namespace Sys2Proof.Proofs

open Sys2Proof Sys2Proof.Machine Sys2Proof.Safety

/-- A polarity that is one bit is the level that asserts the input (R183). -/
theorem pinAsserts_of_bit {s : State} {j : Fin 16} {lvl : Bool} (h : s.get FLTj_CFG_pol j.val < 2) :
    pinAsserts s j lvl = (lvl == decide (s.get FLTj_CFG_pol j.val = 1)) := by
  have hbit : s.getB FLTj_CFG_pol j.val = decide (s.get FLTj_CFG_pol j.val = 1) := by
    rw [State.getB]
    interval_cases s.get FLTj_CFG_pol j.val <;> rfl
  rw [pinAsserts, hbit]

/-- The machine after reset, but for fault input 0, whose polarity holds 2. -/
def widePolarity : State := { State.reset with regs := sput 0 State.reset.regs (FLTj_CFG_pol.key 0 0) 2 }

theorem widePolarity_ready : Ready widePolarity := ⟨rfl, by decide +kernel⟩

/-- The input asserts at the high level, as for polarity 1. -/
theorem widePolarity_asserts : pinAsserts widePolarity 0 true = true ∧ widePolarity.get FLTj_CFG_pol 0 = 2 := by decide +kernel

/-- Refutes O16: an input whose polarity is not 1 does not always assert at the low level. `Ready` admits a stored polarity of 2, which no
write leaves behind, and the input takes every polarity but 0 as active high. For a polarity of one bit the level is that of O16:
`pinAsserts_of_bit`. -/
theorem not_faultInputsAndGate : ¬ Obligations.FaultInputsAndGate := by
  intro h
  obtain ⟨-, -, -, hlevel, -⟩ := h widePolarity cpaPriv 0 0 0 0 true widePolarity_ready
  obtain ⟨hhigh, hpol⟩ := widePolarity_asserts
  rw [hhigh, show widePolarity.get FLTj_CFG_pol (0 : Fin 16).val = 2 from hpol] at hlevel
  exact absurd hlevel (by decide)

end Sys2Proof.Proofs
end

section
/-! PROOF. The frames of the commands of carriers, legs, fault inputs and spindles (O56). The mask of most meanings
(Laws/MovesCmd.lean) lies within the fields and parts listed for them; a command that is a register access reaches what its own
register reaches. -/

namespace Sys2Proof.Proofs

open Sys2Proof Sys2Proof.Machine Sys2Proof.Safety

/-! ### Writes of registers -/

section writes
variable {s : State} {a : Access} {v : Nat}

theorem postWrite_CHn_CARR {u t : State} {w : Wr} (h : w.reg.addr = CHn_CARR_en.addr) : postWrite u a w t =
    carrEdge t (.ch w.ch) (u.getB CHn_CARR_en w.ch.val) (t.getB CHn_CARR_en w.ch.val) := by
  simp [postWrite, postCh, blockOf, Wr.is, h, CHn_CARR_en, CHn_TIMING_dl_max]

theorem postWrite_LEGk_CARR {u t : State} {w : Wr} (h : w.reg.addr = LEGk_CARR_en.addr) : postWrite u a w t =
    carrEdge t (.aux (auxOf (w.i - 12))) (u.getB LEGk_CARR_en w.i) (t.getB LEGk_CARR_en w.i) := by
  simp [postWrite, postLeg, blockOf, Wr.is, h, LEGk_CARR_en]

/-- A write of a carrier's mode register reaches that register and what starting or stopping a carrier reaches (R163, R170). -/
theorem carrWr_reaches {r : Carr} : Ends (maskOf (evFlds ++ legFlds ++ [SYS_BUSERR_ADDR_addr, CHn_CARR_phase, CHn_CARR_sync,
    CHn_CARR_rl, CHn_CARR_mode, CHn_CARR_en, LEGk_CARR_phase, LEGk_CARR_sync_ch, LEGk_CARR_sync, LEGk_CARR_rl, LEGk_CARR_dmode,
    LEGk_CARR_mode, LEGk_CARR_src, LEGk_CARR_en, SYS_PROFILE_pending, CHn_CSTAT_pend, CHn_CSTAT_running, LEGk_CSTAT_pend,
    LEGk_CSTAT_running, PRT_LNKl_STAT_chop, CHn_BUDGET_lat_full, CHn_BUDGET_budget]) (evParts ++ [Part.ports, Part.gen, Part.chans,
    Part.links])) s (carrWr s a r v) := by
  cases r with
  | ch n =>
    exact wrFld_reaches (f := CHn_CARR_en) (regOf_CHn_CARR n) (by fin_cases n <;> rfl) (by decide +kernel) fun _ _ ht => by
      rw [postWrite_CHn_CARR rfl]
      exact carrEdge_moves ⟨by decide +kernel⟩ ht
  | aux k =>
    exact wrFld_reaches (f := LEGk_CARR_en) (regOf_LEGk_CARR k) (by fin_cases k <;> rfl) (by decide +kernel) fun _ _ ht => by
      rw [postWrite_LEGk_CARR rfl]
      exact carrEdge_moves ⟨by decide +kernel⟩ ht

/-- COMMIT_WRITE reaches the channel's commit, its period record, a running replay and, late, the channel's state (R174, R16). -/
theorem commitWrite_reaches {n : Ch} : Ends (maskOf (evFlds ++ legFlds ++ stateFlds ++ [SYS_BUSERR_ADDR_addr, CHn_COMMIT_go,
    CHn_COMMIT_gen, CHn_DLSTAT_late, CHn_DLSTAT_consec, CHn_SLACK_slack_last, CHn_SLACK_MIN_slack_min, CHn_GEN_pend_gen, CHn_CSTAT_pend,
    LEGk_GEN_pend_gen, LEGk_CSTAT_pend, LEG_OGATE_replay, SPn_FLD_STAT_task, SPn_FLD_STAT_engine, CHn_OCSTAT_cyc_run, PRT_LNKl_STAT_chop,
    OWL_RP_STAT_result, OWL_RP_STAT_running, OWL_RP_STAT_div_cnt, OWL_RP_DIV_PER_period, OWL_RP_DIV_WORD_kind, OWL_RP_DIV_WORD_ch,
    OWL_RP_DIV_WORD_idx, CHn_BUDGET_lat_full, CHn_BUDGET_budget]) (evParts ++ [Part.ports, Part.gen, Part.chans, Part.sps, Part.links,
    Part.tls])) s (exec (.commitWrite a n v) s) :=
  wrFld_reaches (f := CHn_COMMIT_go) (r := commitReg) (regOf_CHn_COMMIT n) (by fin_cases n <;> rfl) (by decide +kernel) fun _ _ ht => by
    simp only [heldWr, postWrite_CHn_COMMIT]
    exact commitIn_moves ⟨by decide +kernel⟩ ht

/-- LEG_COMMIT reaches the commit of an auxiliary leg (R178). -/
theorem legCommit_reaches {l : Fin 4} : Ends (maskOf (evFlds ++ [SYS_BUSERR_ADDR_addr, LEGk_COMMIT_go, LEGk_COMMIT_gen, CHn_GEN_pend_gen,
    CHn_CSTAT_pend, LEGk_GEN_pend_gen, LEGk_CSTAT_pend]) (evParts ++ [Part.ports, Part.gen])) s (exec (.legCommit a l v) s) :=
  wrFld_reaches (f := LEGk_COMMIT_go) (r := legCommitReg) (regOf_LEGk_COMMIT l) (by fin_cases l <;> rfl) (by decide +kernel)
    fun _ _ ht => by
      simp only [heldWr, postWrite_LEGk_COMMIT]
      exact legCommit_moves ⟨by decide +kernel⟩ ht

theorem postWrite_FLT_STAT {u t : State} {w : Wr} (h : w.reg.addr = FLT_STAT_flt.addr) : postWrite u a w t = t.latchClear w.v := by
  simp [postWrite, postLeg, blockOf, Wr.is, h, FLT_STAT_flt, LEGk_CARR_en, LEGk_COMMIT_go]

/-- FLT_LATCH_CLEAR reaches the latches and, through the gate outputs, the chopper (R188). -/
theorem fltLatchClear_reaches : Ends (maskOf (evFlds ++ legFlds ++ [SYS_BUSERR_ADDR_addr, FLT_STAT_itrip, FLT_STAT_flt, CHn_SEL_THR_thr,
    PRT_LNKl_STAT_chop]) (evParts ++ [Part.ports, Part.gen, Part.links])) s (exec (.fltLatchClear a v) s) :=
  wrFld_reaches (f := FLT_STAT_flt) regOf_FLT_STAT rfl (by decide +kernel) fun _ _ ht => by
    rw [postWrite_FLT_STAT rfl]
    exact State.latchClear_moves ⟨by decide +kernel⟩ ht

theorem postWrite_of_SPn_BANK {u t : State} {w : Wr} (h : w.reg.addr = SPn_BANK_swap.addr) : postWrite u a w t =
    (t.onIf (w.bits SPn_BANK_swap == 1) (fun s => swapRequest s w.ch)).onIf (w.bits SPn_BANK_seal_req == 1)
      (fun s => sealRequest s w.ch) := by
  simp [postWrite, postSp, blockOf, Wr.is, h, SPn_BANK_swap, SPn_SAT_transform]

/-- A write of a spindle's bank register reaches its banks: it asks for a swap, a seal or both (R212, R226). -/
theorem bankWrite_reaches {n : Ch} : Ends (maskOf (evFlds ++ [SYS_BUSERR_ADDR_addr, SPn_BANK_seal_req, SPn_BANK_bumpless,
    SPn_BANK_swap, SPn_STEP_step_inact, SPn_STEP_step_act, SPn_BANK_seal_busy, SPn_BANK_seal_b, SPn_BANK_seal_a, SPn_BANK_CRC_A_crc,
    SPn_BANK_CRC_B_crc, CHn_BUDGET_lat_full, CHn_BUDGET_budget]) (evParts ++ [Part.ports])) s
    (wrFld s a SPn_BANK_swap n.val 0 v) :=
  Ends.next (Moves.ite (fun _ => .refl) fun _ => busWrite_reaches_spindle (r := bankReg) (regOf_SPn_BANK n) (by fin_cases n <;> rfl)
    (by decide +kernel) ⟨by decide +kernel⟩ ⟨by decide +kernel⟩ fun u t w hw ht => by
      rw [postWrite_of_SPn_BANK (by rw [hw]; rfl)]
      exact State.onIf_moves (State.onIf_moves ht fun _ hu => swapRequest_moves ⟨by decide +kernel⟩ hu) fun _ hu =>
        sealRequest_moves ⟨by decide +kernel⟩ hu)

theorem postWrite_SPn_FLD_STAT {u t : State} {w : Wr} (h : w.reg.addr = SPn_FLD_STAT_ke_abn.addr) : postWrite u a w t =
    t.onIf (w.bits SPn_FLD_STAT_ke_abn == 1) (fun s => fluxRestart s w.ch) := by
  simp [postWrite, postSp, blockOf, Wr.is, h, SPn_FLD_STAT_ke_abn, SPn_SAT_transform, SPn_BANK_swap]

/-- KE_ABN_CLEAR reaches the spindle's field flags and its flux estimate (R260). -/
theorem keAbnClear_reaches {n : Ch} : Ends (maskOf (evFlds ++ [SYS_BUSERR_ADDR_addr, SPn_FLD_STAT_fw_limit, SPn_FLD_STAT_ke_abn,
    SPn_FLD_STAT_obs_lost, SPn_KE_EST_psi_f, CHn_BUDGET_lat_full, CHn_BUDGET_budget]) (evParts ++ [Part.ports, Part.sps])) s
    (exec (.keAbnClear a n v) s) :=
  Ends.next (Moves.ite (fun _ => .refl) fun _ => busWrite_reaches_spindle (regOf_SPn_FLD_STAT n) (by fin_cases n <;> rfl)
    (by decide +kernel) ⟨by decide +kernel⟩ ⟨by decide +kernel⟩ fun u t w hw ht => by
      rw [postWrite_SPn_FLD_STAT (by rw [hw]; rfl)]
      exact State.onIf_moves ht fun _ hu => fluxRestart_moves ⟨by decide +kernel⟩ hu)

end writes

/-! ### The frames -/

/-- Settles O56. -/
theorem framesLegsAndSpindles : Obligations.FramesLegsAndSpindles :=
  fun s t hs =>
    ⟨fun _ _ _ => frame hs carrWr_reaches,
      fun _ => frame hs (execCarrierSyncStart_moves ⟨by decide +kernel⟩ .refl),
      fun _ _ _ => frame hs carrWr_reaches,
      fun _ => frame hs (execCarrierZero_moves ⟨by decide +kernel⟩ .refl),
      fun _ => frame hs (execCarrierPeak_moves ⟨by decide +kernel⟩ .refl),
      fun _ => frame hs (execCotEndEvent_moves ⟨by decide +kernel⟩ .refl),
      fun _ => frame hs (execCotPerMin_moves ⟨by decide +kernel⟩ .refl),
      fun _ => frame hs (execCotPermax_moves ⟨by decide +kernel⟩ .refl),
      fun _ => frame hs (execDlCal_moves ⟨by decide +kernel⟩ .refl),
      fun _ _ _ => frame hs commitWrite_reaches,
      fun _ _ _ => frame hs legCommit_reaches,
      fun _ _ => frame hs (execFaultInputActive_moves ⟨by decide +kernel⟩ .refl),
      fun _ _ => frame hs (execFaultInputInactive_moves ⟨by decide +kernel⟩ .refl),
      fun _ => frame hs (execItripActive_moves ⟨by decide +kernel⟩ .refl),
      fun _ => frame hs (execBlankEnd_moves ⟨by decide +kernel⟩ .refl),
      fun _ _ => frame hs fltLatchClear_reaches,
      fun _ => frame hs (execOutputGateHold_moves ⟨by decide +kernel⟩ .refl),
      fun _ => frame hs (execOutputGateRelease_moves ⟨by decide +kernel⟩ .refl),
      fun _ _ => frame hs (execDeadTimeEnd_moves ⟨by decide +kernel⟩ .refl),
      fun _ _ => frame hs (execMeasLanding_moves ⟨by decide +kernel⟩ .refl),
      fun _ _ => frame hs (execSpeculation_moves ⟨by decide +kernel⟩ .refl),
      fun _ => frame hs (execSpecDone_moves ⟨by decide +kernel⟩ .refl),
      fun _ => frame hs (execFastPath_moves ⟨by decide +kernel⟩ .refl),
      fun _ _ => frame hs (execFullEvalDone_moves ⟨by decide +kernel⟩ .refl),
      fun _ => frame hs (execWaitLimit_moves ⟨by decide +kernel⟩ .refl),
      fun _ => frame hs (execFbHoldExpired_moves ⟨by decide +kernel⟩ .refl),
      fun _ _ _ => frame hs bankWrite_reaches,
      fun _ _ _ => frame hs bankWrite_reaches,
      fun _ => frame hs (execSealDone_moves ⟨by decide +kernel⟩ .refl),
      fun _ => frame hs (execOscWindowEnd_moves ⟨by decide +kernel⟩ .refl),
      fun _ => frame hs (execFwLimit_moves ⟨by decide +kernel⟩ .refl),
      fun _ => frame hs (execDtcDecision_moves ⟨by decide +kernel⟩ .refl),
      fun _ => frame hs (execDtcMiss_moves ⟨by decide +kernel⟩ .refl),
      fun _ => frame hs (execHandover_moves ⟨by decide +kernel⟩ .refl),
      fun _ _ => frame hs (execIpdComplete_moves ⟨by decide +kernel⟩ .refl),
      fun _ => frame hs (execObsValid_moves ⟨by decide +kernel⟩ .refl),
      fun _ => frame hs (execObsLost_moves ⟨by decide +kernel⟩ .refl),
      fun _ _ _ _ _ _ => frame hs (execRecapture_moves ⟨by decide +kernel⟩ .refl),
      fun _ => frame hs (execRecapAttemptEnd_moves ⟨by decide +kernel⟩ .refl),
      fun _ => frame hs (execLocked_moves ⟨by decide +kernel⟩ .refl),
      fun _ => frame hs (execLockClear_moves ⟨by decide +kernel⟩ .refl),
      fun _ => frame hs (execKeAbnormal_moves ⟨by decide +kernel⟩ .refl),
      fun _ _ _ => frame hs keAbnClear_reaches,
      fun _ => frame hs (execPllLock_moves ⟨by decide +kernel⟩ .refl),
      fun _ => frame hs (execPllUnlock_moves ⟨by decide +kernel⟩ .refl),
      fun _ => frame hs (execGridBand_moves ⟨by decide +kernel⟩ .refl)⟩

end Sys2Proof.Proofs
end

end

section
/-! PROOF. The flags of the field stage (R246, R256, R257, R259 to R261 in O19). -/

namespace Sys2Proof.Proofs

open Sys2Proof Sys2Proof.Machine Sys2Proof.Safety

section flags
variable {s : State} {n : Ch}

/-- A flag of the channel takes a value, with its event. -/
def flagged (s : State) (n : Ch) (f : Fld) (v code : Nat) : State := (s.put f v n.val).logEv code [n.val]

theorem flagged_shows {f : Fld} {v code : Nat} (hs : s.wf = true) (hf : touches (maskOf evFlds evParts) f = false) :
    (flagged s n f v code).get f n.val = v % 2 ^ f.width ∧ (flagged s n f v code).inflight = s.inflight ∧
      Logged s (flagged s n f v code) code [n.val] := by
  refine ⟨?_, State.logEv_inflight _ _ _, logged_of rfl⟩
  rw [flagged, logEv_get_of_untouched (State.put_wf hs) hf, State.get_put_same hs]

/-! ### Field weakening (R246) -/

theorem fwLimit_flags (hheld : s.dev.held = false) (hs : s.wf = true) (hmin : msFt 10 ≤ (s.sp n).fld.fwMinT)
    (hen : s.get SPn_FLD_CTL_fw_en n.val = 1) :
    ∃ t, exec (.fwLimit n) s = .next t ∧ t.get SPn_FLD_STAT_fw_limit n.val = 1 ∧ Logged s t 0x312A [n.val] := by
  obtain ⟨hflag, -, hlog⟩ := flagged_shows (n := n) (f := SPn_FLD_STAT_fw_limit) (v := 1) (code := 0x312A) hs (by decide +kernel)
  have hexec : exec (.fwLimit n) s = .next (flagged s n SPn_FLD_STAT_fw_limit 1 0x312A) := by
    change execFwLimit n s = _
    rw [execFwLimit, live_run s hheld, decide_eq_true hmin, getB_of_one hen]
    rfl
  exact ⟨_, hexec, hflag, hlog⟩

/-! ### The locked rotor and the flux (R259, R260) -/

/-- Where the rotor locked is noted. -/
def lockNoted (s : State) (n : Ch) : State :=
  modWatch s n (fun w => { w with lrThLock := s.get SPn_ANG_M_angle n.val, lrLow := 0 })

theorem locked_flags (hheld : s.dev.held = false) (hs : s.wf = true) (hen : s.get SPn_FLD_CTL_lr_en n.val = 1)
    (hon : (s.sp n).fld.watch.lrOn = true) (hfree : s.get SPn_FLD_STAT_locked n.val = 0)
    (htime : msFt (s.get SPn_LR_T_lr_time n.val) ≤ (s.sp n).fld.watch.lrT) :
    ∃ t, exec (.locked n) s = .next t ∧ t.get SPn_FLD_STAT_locked n.val = 1 ∧ t.inflight = s.inflight ++ [(chSrc n.val 19, n.val)] ∧
      Logged s t 0x3127 [n.val] := by
  have hwatch : (lockNoted s n).wf = true := hs
  obtain ⟨hflag, hway, hlog⟩ := flagged_shows (n := n) (f := SPn_FLD_STAT_locked) (v := 1) (code := 0x3127) hwatch (by decide +kernel)
  have hexec : exec (.locked n) s = .next ((flagged (lockNoted s n) n SPn_FLD_STAT_locked 1 0x3127).raise (chSrc n.val 19) n.val) := by
    change execLocked n s = _
    simp only [execLocked, live_run s hheld, getB_of_one hen, hon, getB_of_zero hfree, htime]
    rfl
  exact ⟨_, hexec, hflag, congrArg (· ++ [_]) hway, hlog⟩

theorem lockClear_flags (hheld : s.dev.held = false) (hs : s.wf = true) (hlocked : s.get SPn_FLD_STAT_locked n.val = 1)
    (hlow : msFt (s.get SPn_LR_T_lr_time n.val) ≤ (s.sp n).fld.watch.lrLow) :
    ∃ t, exec (.lockClear n) s = .next t ∧ t.get SPn_FLD_STAT_locked n.val = 0 ∧ Logged s t 0x3128 [n.val] := by
  obtain ⟨hflag, -, hlog⟩ := flagged_shows (n := n) (f := SPn_FLD_STAT_locked) (v := 0) (code := 0x3128) hs (by decide +kernel)
  have hexec : exec (.lockClear n) s = .next (flagged s n SPn_FLD_STAT_locked 0 0x3128) := by
    change execLockClear n s = _
    simp only [execLockClear, live_run s hheld, getB_of_one hlocked, hlow, decide_true, Bool.or_true]
    rfl
  exact ⟨_, hexec, hflag, hlog⟩

theorem keAbnormal_flags (hheld : s.dev.held = false) (hs : s.wf = true) (hen : s.get SPn_FLD_CTL_ke_en n.val = 1)
    (hnot : s.get SPn_FLD_STAT_ke_abn n.val = 0) (htime : msFt (s.get SPn_KE_T_ke_time n.val) ≤ (s.sp n).fld.watch.keOut) :
    ∃ t, exec (.keAbnormal n) s = .next t ∧ t.get SPn_FLD_STAT_ke_abn n.val = 1 ∧
      t.inflight = s.inflight ++ [(chSrc n.val 20, n.val)] := by
  obtain ⟨hflag, hway, -⟩ := flagged_shows (n := n) (f := SPn_FLD_STAT_ke_abn) (v := 1) (code := 0x3129) hs (by decide +kernel)
  have hexec : exec (.keAbnormal n) s = .next ((flagged s n SPn_FLD_STAT_ke_abn 1 0x3129).raise (chSrc n.val 20) n.val) := by
    change execKeAbnormal n s = _
    rw [execKeAbnormal, live_run s hheld, getB_of_one hen, getB_of_zero hnot, decide_eq_true htime]
    rfl
  exact ⟨_, hexec, hflag, congrArg (· ++ [_]) hway⟩

/-! ### The grid (R261) -/

theorem pllLock_flags (hheld : s.dev.held = false) (hs : s.wf = true) (hmode : gridMode s n = true)
    (htime : msFt 20 ≤ (s.sp n).fld.grid.lockT) :
    ∃ t, exec (.pllLock n) s = .next t ∧ t.get SPn_FLD_STAT_pll_lock n.val = 1 := by
  have hexec : exec (.pllLock n) s = .next (modGrid (s.put SPn_FLD_STAT_pll_lock 1 n.val) n (fun g => { g with unl := false })) := by
    change execPllLock n s = _
    rw [execPllLock, live_run s hheld, hmode, decide_eq_true htime]
    rfl
  exact ⟨_, hexec, State.get_put_same hs⟩

/-- The lost lock is noted. -/
def unlockNoted (s : State) (n : Ch) : State := modGrid s n (fun g => { g with unl := true })

theorem pllUnlock_flags (hheld : s.dev.held = false) (hs : s.wf = true) (hmode : gridMode s n = true)
    (hlock : s.get SPn_FLD_STAT_pll_lock n.val = 1) (hbad : 10 ≤ (s.sp n).fld.grid.badN) :
    ∃ t, exec (.pllUnlock n) s = .next t ∧ t.get SPn_FLD_STAT_pll_lock n.val = 0 ∧
      t.inflight = s.inflight ++ [(chSrc n.val 21, n.val)] := by
  have hgrid : (unlockNoted s n).wf = true := hs
  obtain ⟨hflag, hway, -⟩ := flagged_shows (n := n) (f := SPn_FLD_STAT_pll_lock) (v := 0) (code := 0x312B) hgrid (by decide +kernel)
  have hexec : exec (.pllUnlock n) s = .next ((flagged (unlockNoted s n) n SPn_FLD_STAT_pll_lock 0 0x312B).raise (chSrc n.val 21) n.val) := by
    change execPllUnlock n s = _
    rw [execPllUnlock, live_run s hheld, hmode, getB_of_one hlock, decide_eq_true hbad]
    rfl
  exact ⟨_, hexec, hflag, congrArg (· ++ [_]) hway⟩

theorem modGrid_grid {f : GridSt → GridSt} : ((modGrid s n f).sp n).fld.grid = f (s.sp n).fld.grid := congrArg FldSt.grid modFld_fld

/-- The time outside the band starts again. -/
def bandNoted (s : State) (n : Ch) : State := modGrid s n (fun g => { g with bandT := 0, bandUp := true })

theorem gridBand_reports (hheld : s.dev.held = false) (hmode : gridMode s n = true) (htime : msFt 100 ≤ (s.sp n).fld.grid.bandT) :
    ∃ t, exec (.gridBand n) s = .next t ∧ (t.sp n).fld.grid.bandT = 0 ∧ t.inflight = s.inflight ++ [(chSrc n.val 22, n.val)] ∧
      Logged s t 0x312C [n.val] := by
  have hexec : exec (.gridBand n) s = .next (((bandNoted s n).logEv 0x312C [n.val]).raise (chSrc n.val 22) n.val) := by
    change execGridBand n s = _
    rw [execGridBand, live_run s hheld, hmode, decide_eq_true htime]
    rfl
  have hlog : Logged s ((bandNoted s n).logEv 0x312C [n.val]) 0x312C [n.val] := logged_of rfl
  refine ⟨_, hexec, ?_, congrArg (· ++ [_]) (State.logEv_inflight _ _ _), hlog⟩
  rw [State.sp, State.raise_sps, State.logEv_sps]
  exact congrArg GridSt.bandT modGrid_grid

/-! ### The observer (R256, R257) -/

theorem obsValid_flags (hheld : s.dev.held = false) (hs : s.wf = true) (hen : s.get SPn_FLD_CTL_obs_en n.val = 1)
    (hok : s.get SPn_OBS_obs_n n.val ≤ (s.sp n).fld.obs.ok) :
    ∃ t, exec (.obsValid n) s = .next t ∧ t.get SPn_FLD_STAT_obs_valid n.val = 1 := by
  have hexec : exec (.obsValid n) s = .next (s.put SPn_FLD_STAT_obs_valid 1 n.val) := by
    change execObsValid n s = _
    rw [execObsValid, live_run s hheld, getB_of_one hen, decide_eq_true hok]
    rfl
  exact ⟨_, hexec, State.get_put_same hs⟩

/-- The loss of the observer is reported. -/
def obsReported (s : State) (n : Ch) : State :=
  ((((s.logEv 0x3120 [n.val]).put SPn_FLD_STAT_obs_lost 1 n.val).put SPn_FLD_STAT_obs_valid 0 n.val).raise (chSrc n.val 18) n.val).owlTrig 10

theorem obsReported_shows (hs : s.wf = true) : (obsReported s n).wf = true ∧ (obsReported s n).get SPn_FLD_STAT_obs_valid n.val = 0 ∧
    (obsReported s n).get SPn_FLD_STAT_obs_lost n.val = 1 ∧ (chSrc n.val 18, n.val) ∈ (obsReported s n).inflight := by
  have hev : (s.logEv 0x3120 [n.val]).wf = true := State.logEv_wf _ _ _ hs
  have hlost : ((s.logEv 0x3120 [n.val]).put SPn_FLD_STAT_obs_lost 1 n.val).wf = true := State.put_wf hev
  have hput : (((s.logEv 0x3120 [n.val]).put SPn_FLD_STAT_obs_lost 1 n.val).put SPn_FLD_STAT_obs_valid 0 n.val).wf = true :=
    State.put_wf hlost
  have htrig : Moves (maskOf evFlds (.inflight :: evParts)) _ (obsReported s n) :=
    State.owlTrig_moves ⟨by decide +kernel⟩ (State.raise_moves (x1 := chSrc n.val 18) (x2 := n.val) ⟨by decide +kernel⟩ .refl)
  refine ⟨htrig.wf hput, ?_, ?_, ?_⟩
  · rw [htrig.same hput _ _ _ (by decide +kernel), State.get_put_same hlost]
    rfl
  · rw [htrig.same hput _ _ _ (by decide +kernel), State.get_put_ne hlost (by decide), State.get_put_same hev]
    rfl
  · rw [obsReported, State.owlTrig_inflight]
    exact List.mem_append_right _ (List.mem_singleton.mpr rfl)

theorem recapFail_inflight : (recapFail s n).inflight = s.inflight ++ [(chSrc n.val 15, n.val)] :=
  congrArg (· ++ [_]) (State.logEv_inflight _ _ _)

/-- What a lost observer may set off: its speed goes back, and a channel that used it fails its recapture or asks for one. -/
def lossMask : Nat := maskOf (evFlds ++ [SPn_OBS_SPD_speed, SPn_FLD_STAT_task, SPn_FLD_STAT_rec_cnt]) (evParts ++ [.inflight, .sps])

/-- What follows the report of the loss reaches no more than that, and takes back no source that is on its way to Badger. -/
theorem obsLost_follows (hvalid : s.get SPn_FLD_STAT_obs_valid n.val = 1) (hbad : s.get SPn_OBS_obs_n n.val ≤ (s.sp n).fld.obs.bad) :
    Moves lossMask (obsReported s n) (obsLost s n) ∧ ∀ e ∈ (obsReported s n).inflight, e ∈ (obsLost s n).inflight := by
  unfold obsLost
  split
  · next h => simp [getB_of_one hvalid, Nat.not_lt.mpr hbad] at h
  extract_lets u v o inUse w x
  have hx : Moves lossMask (obsReported s n) x :=
    modObs_moves ⟨by decide +kernel⟩ (State.putS_moves ⟨by decide +kernel⟩ (.inr (by decide +kernel)) (.refl : Moves _ _ v))
  have hfail : ∀ e ∈ x.inflight, e ∈ (recapFail x n).inflight := fun e he => by
    rw [recapFail_inflight]
    exact List.mem_append_left _ he
  repeat' split
  · exact ⟨hx, fun _ he => he⟩
  · exact ⟨recapFail_moves ⟨by decide +kernel⟩ hx, hfail⟩
  · exact ⟨recapFail_moves ⟨by decide +kernel⟩ hx, hfail⟩
  · exact ⟨modDtc_moves ⟨by decide +kernel⟩ (State.put_moves (.inr (by decide +kernel)) hx), fun _ he => he⟩
  · exact ⟨hx, fun _ he => he⟩

theorem obsLost_flags (hheld : s.dev.held = false) (hs : s.wf = true) (hvalid : s.get SPn_FLD_STAT_obs_valid n.val = 1)
    (hbad : s.get SPn_OBS_obs_n n.val ≤ (s.sp n).fld.obs.bad) :
    ∃ t, exec (.obsLost n) s = .next t ∧ t.get SPn_FLD_STAT_obs_valid n.val = 0 ∧ t.get SPn_FLD_STAT_obs_lost n.val = 1 ∧
      (chSrc n.val 18, n.val) ∈ t.inflight := by
  obtain ⟨hwf, hgone, hlost, hway⟩ := obsReported_shows (n := n) hs
  obtain ⟨hmoves, hkeep⟩ := obsLost_follows hvalid hbad
  refine ⟨_, live_run (f := fun s => obsLost s n) s hheld, ?_, ?_, hkeep _ hway⟩
  · rw [hmoves.same hwf _ _ _ (by decide +kernel), hgone]
  · rw [hmoves.same hwf _ _ _ (by decide +kernel), hlost]

end flags

end Sys2Proof.Proofs
end

section
/-! PROOF. The write that clears an abnormal flux (R260 in O19). -/

namespace Sys2Proof.Proofs

open Sys2Proof Sys2Proof.Machine Sys2Proof.Safety

section clear
variable {s t : State} {a : Access} {n : Ch} {v : Nat}

/-- The register of a field stage's flags. -/
def fldStatReg : Reg := ⟨"SPn_FLD_STAT", 0x40310104, 4, 0x10000, 1, 0, [SPn_FLD_STAT_rec_cnt, SPn_FLD_STAT_pll_lock, SPn_FLD_STAT_ovm_active,
  SPn_FLD_STAT_fw_active, SPn_FLD_STAT_fw_limit, SPn_FLD_STAT_ke_abn, SPn_FLD_STAT_locked, SPn_FLD_STAT_obs_lost, SPn_FLD_STAT_obs_valid,
  SPn_FLD_STAT_task, SPn_FLD_STAT_engine]⟩

/-- A write of the flags: Owl records it, and the bits that are written as 1 go. -/
def fldStatWritten (s : State) (n : Ch) (v : Nat) : State :=
  applyWr (s.owlRec 0x05 n.val [2 ^ 39 + SPn_FLD_STAT_ke_abn.at n.val 0 % 0x10000, v % 2 ^ 32, 0]) ⟨fldStatReg, n.val, 0, v % 2 ^ 32⟩ []

theorem bits_ke_abn (hv : v.testBit SPn_FLD_STAT_ke_abn.lsb = true) : v % 2 ^ 32 / 2 ^ 11 % 2 ^ 1 = 1 := by
  rw [Nat.testBit_eq_decide_div_mod_eq, decide_eq_true_eq] at hv
  have : v / 2 ^ 11 % 2 = 1 := hv
  omega

theorem exec_keAbnClear (hadm : Admits s a) (hr : s.replayed n.val = false) (hv : v.testBit SPn_FLD_STAT_ke_abn.lsb = true) :
    exec (.keAbnClear a n v) s = .next ((budgetsShown (fluxRestart (fldStatWritten s n v) n)).answer a.ini .none) := by
  obtain ⟨⟨hheld, hwf⟩, hp, hlock, hc⟩ := hadm
  have hreg : regOf (SPn_FLD_STAT_ke_abn.at n.val 0) = some (fldStatReg, n.val, 0) := regOf_SPn_FLD_STAT n
  have hbus : busAddr (SPn_FLD_STAT_ke_abn.at n.val 0) = true := by fin_cases n <;> rfl
  have hn := chOf_val n
  have hbit : (⟨fldStatReg, n.val, 0, v % 2 ^ 32⟩ : Wr).bits SPn_FLD_STAT_ke_abn = 1 := bits_ke_abn hv
  change wrFld s a SPn_FLD_STAT_ke_abn n.val 0 v = _
  rw [wrFld, live_run s hheld, busWrite_spindle hc hp hbus hreg rfl (by rw [hn]; exact hr), hn,
    writeReg_open (by rw [State.owlRec_dev]; exact hlock)]
  have hpre : ∀ u t, preWrite u t a ⟨fldStatReg, n.val, 0, v % 2 ^ 32⟩ = vPass := fun u t => by
    simp [preWrite, preField, blockOf, Wr.is, fldStatReg, SPn_FLD_CTL_mode, SPn_MACH_pp, SPn_PSI_value, SPn_LD_value, SPn_LQ_value,
      SPn_RS_value, SPn_IMAX_imax, SPn_GRID_f_nom, SPn_SIX_OFS_ofs, SPn_FW_fw_start, SPn_FW_MIN_id_fw_min, SPn_OBS_obs_n, SPn_REC_probe,
      SPn_DTC_CFG_dec_min, SPn_LR_lr_angle]
  simp only [hpre, vPass, List.isEmpty_nil, if_true, postWrite_SPn_FLD_STAT (w := ⟨fldStatReg, n.val, 0, v % 2 ^ 32⟩) rfl, hbit, Wr.ch, hn]
  rfl

theorem fldStatWritten_shows (hs : s.wf = true) (hv : v.testBit SPn_FLD_STAT_ke_abn.lsb = true) :
    (fldStatWritten s n v).wf = true ∧ (fldStatWritten s n v).get SPn_FLD_STAT_ke_abn n.val = 0 := by
  have hflds : holdsFlds (maskOf (evFlds ++ fldStatReg.flds) evParts) fldStatReg = true := by decide +kernel
  refine ⟨(applyWr_reaches (w := ⟨fldStatReg, n.val, 0, v % 2 ^ 32⟩) hflds (State.owlRec_moves ⟨by decide +kernel⟩ .refl)).wf hs, ?_⟩
  have hmem : SPn_FLD_STAT_ke_abn ∈ fldStatReg.flds := by decide
  refine (applyWr_get (w := ⟨fldStatReg, n.val, 0, v % 2 ^ 32⟩) (regOf_mem (regOf_SPn_FLD_STAT n)) (State.owlRec_wf _ _ _ _ hs) hmem).trans ?_
  rw [if_neg (by decide), if_pos (show SPn_FLD_STAT_ke_abn.acc = .w1c from rfl)]
  exact (congrArg (fun b => (_ &&& ((2 ^ 1 - 1) ^^^ b)) % 2 ^ 1) (bits_ke_abn hv)).trans (by simp)

theorem modWatch_watch {f : WatchSt → WatchSt} : ((modWatch s n f).sp n).fld.watch = f (s.sp n).fld.watch := congrArg FldSt.watch modFld_fld

theorem fluxRestart_counts : ((fluxRestart s n).sp n).fld.watch.keN = 0 ∧ ((fluxRestart s n).sp n).fld.watch.keOut = 0 := by
  rw [fluxRestart, State.sp, State.put_sps, ← State.sp, modWatch_watch]
  exact ⟨rfl, rfl⟩

theorem shown_sps : ((budgetsShown t).answer a.ini .none).sps = t.sps := by
  refine Eq.trans (b := (budgetsShown t).sps) rfl ?_
  exact (State.forL_moves (m := maskOf [CHn_BUDGET_budget, CHn_BUDGET_lat_full] []) .refl
    fun _ _ => budgetShow_moves ⟨by decide +kernel⟩).part (p := .sps) (by decide +kernel)

theorem keAbnClear_restarts (hadm : Admits s a) (hr : s.replayed n.val = false) (hv : v.testBit SPn_FLD_STAT_ke_abn.lsb = true) :
    ∃ t, exec (.keAbnClear a n v) s = .next t ∧ t.get SPn_FLD_STAT_ke_abn n.val = 0 ∧ (t.sp n).fld.watch.keN = 0 ∧
      (t.sp n).fld.watch.keOut = 0 := by
  obtain ⟨hwf, hgone⟩ := fldStatWritten_shows (n := n) hadm.1.2 hv
  have hflux := fluxRestart_moves (x1 := n) ⟨Nat.and_self _⟩ (Moves.refl (a := fldStatWritten s n v))
  refine ⟨_, exec_keAbnClear hadm hr hv, ?_, ?_, ?_⟩
  · rw [shown_get (hflux.wf hwf) (by decide +kernel), hflux.same hwf _ _ _ (by decide +kernel), hgone]
  · rw [State.sp, shown_sps]
    exact fluxRestart_counts.1
  · rw [State.sp, shown_sps]
    exact fluxRestart_counts.2

end clear

end Sys2Proof.Proofs
end

section
/-! PROOF. The DTC engine's decisions, its misses and the end of its tasks (R249, R252, R254, R258 in O19). -/

namespace Sys2Proof.Proofs

open Sys2Proof Sys2Proof.Machine Sys2Proof.Safety

section dtc
variable {s : State} {n : Ch}

theorem modDtc_dtc {f : DtcSt → DtcSt} : ((modDtc s n f).sp n).fld.dtc = f (s.sp n).fld.dtc := congrArg FldSt.dtc modFld_fld

/-! ### The legs go back to their carrier (R251) -/

/-- What no pass over the elements of a list changes. -/
theorem forL_mem_keeps {α β : Type} {l : List α} {f : α → State → State} (g : State → β) (hf : ∀ x ∈ l, ∀ v, g (f x v) = g v) :
    g (s.forL l f) = g s := by
  unfold State.forL
  induction l generalizing s with
  | nil => rfl
  | cons x l ih => exact (ih fun y hy => hf y (List.mem_cons_of_mem _ hy)).trans (hf x List.mem_cons_self s)

/-- Only an auxiliary leg is a chopper's. -/
theorem chopWatch_of_drive {k : Leg} (hk : k.val < 12) : chopWatch s k = s := by
  refine forL_keeps (fun u : State => u) fun l v => ?_
  have hleg : decide (k.val = 12 + (chopLeg v l).val) = false := decide_eq_false (by omega)
  simp [hleg]

theorem legApply_log {k : Leg} {e b : Bool} (hk : k.val < 12) : (s.legApply e b k).log = s.log := by
  unfold State.legApply
  extract_lets
  split
  · rfl
  · refine (onIf_keeps (fun u => u.log) fun v => blankStart_log v k).trans ?_
    exact onIf_keeps (fun u => u.log) fun v => by rw [chopWatch_of_drive hk]

theorem lt_of_mem_carrLegs {k : Leg} (hk : k ∈ carrLegs s (.ch n)) : k.val < 12 := by
  by_contra h
  simp [carrLegs, legChan, Nat.not_lt.mp h] at hk

/-- No event comes of it. -/
theorem dtcRelease_log : (dtcRelease s n).log = s.log :=
  forL_mem_keeps (fun u => u.log) fun _ hk _ => legApply_log (lt_of_mem_carrLegs hk)

theorem dtcRelease_inflight : (dtcRelease s n).inflight = s.inflight :=
  (dtcRelease_moves ⟨Nat.and_self _⟩ .refl).part (p := .inflight) (by decide +kernel)

theorem dtcRelease_sps : (dtcRelease s n).sps = s.sps := (dtcRelease_moves ⟨Nat.and_self _⟩ .refl).part (p := .sps) (by decide +kernel)

theorem dtcRelease_wf (hs : s.wf = true) : (dtcRelease s n).wf = true := (dtcRelease_moves ⟨Nat.and_self _⟩ .refl).wf hs

/-- What the field stage shows of a task. -/
def taskFlds : List Fld := [SPn_FLD_STAT_task, SPn_FLD_STAT_engine]

theorem dtcRelease_get {f : Fld} {i : Nat} (hs : s.wf = true) (hf : f ∈ taskFlds) : (dtcRelease s n).get f i = s.get f i :=
  (dtcRelease_moves ⟨Nat.and_self _⟩ .refl).same hs f i 0 (by revert f; decide +kernel)

/-- The task is over, and the engine is the controller again. -/
def taskOver (s : State) (n : Ch) : State := (s.put SPn_FLD_STAT_task 0 n.val).put SPn_FLD_STAT_engine 0 n.val

theorem taskOver_sps : (taskOver s n).sps = s.sps := rfl

theorem taskOver_log : (taskOver s n).log = s.log := rfl

/-- The task ends, and its legs go back. -/
theorem taskOver_shows (hs : s.wf = true) : (dtcRelease (taskOver s n) n).wf = true ∧
    (dtcRelease (taskOver s n) n).get SPn_FLD_STAT_task n.val = 0 ∧ (dtcRelease (taskOver s n) n).get SPn_FLD_STAT_engine n.val = 0 := by
  have hput : (s.put SPn_FLD_STAT_task 0 n.val).wf = true := State.put_wf hs
  have hover : (taskOver s n).wf = true := State.put_wf hput
  refine ⟨dtcRelease_wf hover, ?_, ?_⟩
  · rw [dtcRelease_get hover (by decide), taskOver, State.get_put_ne hput (by decide), State.get_put_same hs]
    rfl
  · rw [dtcRelease_get hover (by decide), taskOver, State.get_put_same hput]
    rfl

/-! ### Decisions (R249, R250) -/

theorem dtcDecision_waits (hheld : s.dev.held = false) (hpace : paceLanded s n = false) : exec (.dtcDecision n) s = .next s :=
  (live_run (f := fun s => dtcDecision s n) s hheld).trans (congrArg _ (by simp [dtcDecision, hpace]))

theorem decSpacing_pos : 0 < decSpacing s n := lt_of_lt_of_le (by split <;> decide) (Nat.le_max_right _ _)

theorem dtcDecision_early (hheld : s.dev.held = false) (hdrive : dtcDrives s n = true) (hpace : paceLanded s n = true)
    (hnow : (s.sp n).fld.dtc.decTs = some s.now) : ∃ t, exec (.dtcDecision n) s = .next t ∧ (t.sp n).fld.dtc.landed = 0 ∧ t.regs = s.regs ∧
      (t.sp n).fld.dtc.vec = (s.sp n).fld.dtc.vec := by
  have hearly : dtcDecision s n = modDtc s n (fun d => { d with landed := 0 }) := by
    simp [dtcDecision, hdrive, hpace, hnow, decSpacing_pos]
  refine ⟨_, (live_run (f := fun s => dtcDecision s n) s hheld).trans (congrArg _ hearly), ?_, rfl, ?_⟩ <;> rw [modDtc_dtc]

/-- What a decision may reach before it is noted. -/
def decMask : Nat := maskOf (evFlds ++ legFlds ++ [SPn_BANK_int_frz, SPn_FLD_STAT_task, SPn_FLD_STAT_engine, PRT_LNKl_STAT_chop])
  (evParts ++ [.gen, .sps, .links])

/-- A decision ends with its note, whatever the task does in it. -/
theorem takeDecision_notes : ∃ u, Moves decMask s u ∧ takeDecision s n =
    modDtc (u.put SPn_FLD_STAT_engine 1 n.val) n (fun d => { d with decTs := some u.now, missRun := 0, landed := 0 }) := by
  unfold takeDecision
  extract_lets u v
  have hu : Moves decMask s u := State.onIf_moves .refl fun _ h =>
    modDtc_moves ⟨by decide +kernel⟩ (taskBegin_moves ⟨by decide +kernel⟩ h)
  refine ⟨v, ?_, rfl⟩
  unfold v
  split
  · exact ipdStep_moves ⟨by decide +kernel⟩ hu
  · exact recDecision_moves ⟨by decide +kernel⟩ hu
  · exact dtcEngine_moves ⟨by decide +kernel⟩ hu

theorem dtcDecision_notes (hheld : s.dev.held = false) (hs : s.wf = true) (hdrive : dtcDrives s n = true) (hpace : paceLanded s n = true)
    (hnone : (s.sp n).fld.dtc.decTs = none) : ∃ t, exec (.dtcDecision n) s = .next t ∧ (t.sp n).fld.dtc.decTs = some s.now ∧
      (t.sp n).fld.dtc.missRun = 0 ∧ t.get SPn_FLD_STAT_engine n.val = 1 := by
  obtain ⟨u, hu, htake⟩ := takeDecision_notes (s := s) (n := n)
  have hnow : u.now = s.now := congrArg BitVec.toNat (hu.part (p := .ts) (by decide +kernel))
  have hdec : dtcDecision s n = takeDecision s n := by simp [dtcDecision, hdrive, hpace, hnone]
  refine ⟨_, (live_run (f := fun s => dtcDecision s n) s hheld).trans (congrArg _ (hdec.trans htake)), ?_, ?_,
    State.get_put_same (hu.wf hs)⟩
  · rw [modDtc_dtc, hnow]
  · rw [modDtc_dtc]

/-! ### Misses (R249) -/

/-- A miss is an event, counts, and starts the judging of a handover again. -/
def missNoted (s : State) (n : Ch) (k : Nat) : State :=
  modDtc (s.logEv 0x3126 [n.val]) n (fun d => { d with missRun := k, hoSince := none })

theorem missNoted_counts {k : Nat} : ((missNoted s n k).sp n).fld.dtc.missRun = k ∧ ((missNoted s n k).sp n).fld.dtc.hoSince = none := by
  rw [missNoted, modDtc_dtc]
  exact ⟨rfl, rfl⟩

/-- The second miss in a row ends the task. -/
def missEnds (s : State) (n : Ch) : State :=
  let s := s.put SPn_FLD_STAT_task 0 n.val
  let s := s.onIf (s.get SPn_FLD_CTL_mode n.val != 1) (fun s => dtcRelease (s.put SPn_FLD_STAT_engine 0 n.val) n)
  s.raise (chSrc n.val 16) n.val

theorem dtcMiss_eq {k : Nat} (hdrive : dtcDrives s n = true) (hrun : (s.sp n).fld.dtc.missRun = k) :
    dtcMiss s n = (missNoted s n (k + 1)).onIf (k + 1 == 2) (fun s => missEnds s n) := by
  have hk : ((s.logEv 0x3126 [n.val]).sp n).fld.dtc.missRun = k := by rw [State.sp, State.logEv_sps]; exact hrun
  rw [dtcMiss, if_neg (by simp [hdrive])]
  simp only [hk]
  rfl

theorem dtcMiss_holds (hheld : s.dev.held = false) (hdrive : dtcDrives s n = true) (hrun : (s.sp n).fld.dtc.missRun = 0) :
    ∃ t, exec (.dtcMiss n) s = .next t ∧ (t.sp n).fld.dtc.missRun = 1 ∧ t.gen.legs = s.gen.legs ∧ (t.sp n).fld.dtc.hoSince = none ∧
      Logged s t 0x3126 [n.val] := by
  have hfirst : dtcMiss s n = missNoted s n 1 := dtcMiss_eq hdrive hrun
  have hlog : Logged s (s.logEv 0x3126 [n.val]) 0x3126 [n.val] := logged_of rfl
  exact ⟨_, (live_run (f := fun s => dtcMiss s n) s hheld).trans (congrArg _ hfirst), missNoted_counts.1,
    congrArg GenSt.legs (State.logEv_gen _ _ _), missNoted_counts.2, hlog⟩

theorem missEnds_shows (hs : s.wf = true) : (missEnds s n).get SPn_FLD_STAT_task n.val = 0 ∧
    (s.get SPn_FLD_CTL_mode n.val ≠ 1 → (missEnds s n).get SPn_FLD_STAT_engine n.val = 0) ∧
    (missEnds s n).inflight = s.inflight ++ [(chSrc n.val 16, n.val)] := by
  have hmode : (s.put SPn_FLD_STAT_task 0 n.val).get SPn_FLD_CTL_mode n.val = s.get SPn_FLD_CTL_mode n.val := State.get_put_ne hs (by decide)
  unfold missEnds
  by_cases h : s.get SPn_FLD_CTL_mode n.val = 1
  · simp only [hmode, h, bne_self_eq_false, State.onIf_false]
    exact ⟨State.get_put_same hs, fun k => absurd rfl k, rfl⟩
  · simp only [hmode, bne_iff_ne.mpr h, State.onIf_true]
    obtain ⟨-, htask, hengine⟩ := taskOver_shows (n := n) hs
    exact ⟨htask, fun _ => hengine, congrArg (· ++ [_]) dtcRelease_inflight⟩

theorem dtcMiss_ends (hheld : s.dev.held = false) (hs : s.wf = true) (hdrive : dtcDrives s n = true)
    (hrun : (s.sp n).fld.dtc.missRun = 1) : ∃ t, exec (.dtcMiss n) s = .next t ∧ t.get SPn_FLD_STAT_task n.val = 0 ∧
      (s.get SPn_FLD_CTL_mode n.val ≠ 1 → t.get SPn_FLD_STAT_engine n.val = 0) ∧ t.inflight = s.inflight ++ [(chSrc n.val 16, n.val)] := by
  have hnoted : (missNoted s n 2).wf = true := State.logEv_wf _ _ _ hs
  obtain ⟨htask, hengine, hway⟩ := missEnds_shows (n := n) hnoted
  have hmode : (missNoted s n 2).get SPn_FLD_CTL_mode n.val = s.get SPn_FLD_CTL_mode n.val := logEv_get_of_untouched hs (by decide +kernel)
  rw [hmode] at hengine
  exact ⟨_, (live_run (f := fun s => dtcMiss s n) s hheld).trans (congrArg _ (dtcMiss_eq hdrive hrun)), htask, hengine,
    hway.trans (congrArg (· ++ [_]) (State.logEv_inflight _ _ _))⟩

/-! ### The handover (R252) -/

/-- The spindle as a handover sets it. -/
def handedOver (s : State) (n : Ch) : State :=
  modDtc (modObs (hoState s n) n (fun o => { o with frozenW := none })) n
    (fun d => { d with hoSince := none, recTs := none, recPat := none, stopWait := false, ubar := [] })

theorem handedOver_reaches : Moves (maskOf [SPn_BANK_int_frz] [.sps, .latheWords, .ueKnown, .writebacks]) s (handedOver s n) :=
  modDtc_moves ⟨by decide +kernel⟩ (modObs_moves ⟨by decide +kernel⟩ (hoState_moves ⟨by decide +kernel⟩ .refl))

theorem handedOver_since : ((handedOver s n).sp n).fld.dtc.hoSince = none := by rw [handedOver, modDtc_dtc]

theorem handover_eq (hruns : s.chRuns n.val = true) (htask : s.get SPn_FLD_STAT_task n.val = 2)
    (hstop : (s.sp n).fld.dtc.stopWait = false) (hsince : (s.sp n).fld.dtc.hoSince = some 0) (hnow : 5 * tkMs < s.now) :
    handover s n = (dtcRelease (taskOver (handedOver s n) n) n).logEv 0x3123 [n.val] := by
  unfold handover
  extract_lets d task _ _ _ u v
  refine (if_neg ?_).trans ?_
  · simpa [d, task, hruns, htask, hsince] using hnow
  · have hd : d.stopWait = false := hstop
    have hv : v = u := if_neg (by rw [show task = 2 from htask]; decide)
    rw [hd, hv]
    rfl

theorem handover_ends (hheld : s.dev.held = false) (hs : s.wf = true) (hruns : s.chRuns n.val = true)
    (htask : s.get SPn_FLD_STAT_task n.val = 2) (hstop : (s.sp n).fld.dtc.stopWait = false)
    (hsince : (s.sp n).fld.dtc.hoSince = some 0) (hnow : 5 * tkMs < s.now) :
    ∃ t, exec (.handover n) s = .next t ∧ t.get SPn_FLD_STAT_task n.val = 0 ∧ t.get SPn_FLD_STAT_engine n.val = 0 ∧
      (t.sp n).fld.dtc.hoSince = none ∧ Logged s t 0x3123 [n.val] := by
  have hlog : (handedOver s n).log = s.log := handedOver_reaches.part (p := .log) (by decide +kernel)
  obtain ⟨hwf, hnone, hengine⟩ := taskOver_shows (n := n) (handedOver_reaches.wf hs)
  refine ⟨_, (live_run (f := fun s => handover s n) s hheld).trans (congrArg _ (handover_eq hruns htask hstop hsince hnow)), ?_, ?_, ?_, ?_⟩
  · rw [logEv_get_of_untouched hwf (by decide +kernel), hnone]
  · rw [logEv_get_of_untouched hwf (by decide +kernel), hengine]
  · rw [State.sp, State.logEv_sps, dtcRelease_sps, taskOver_sps]
    exact handedOver_since
  · exact logged_of ((dtcRelease_log.trans taskOver_log).trans hlog)

/-! ### The initial position (R254) -/

/-- The peaks are too flat to tell the axis or its polarity. -/
def ipdFlat (peaks : List Int) : Bool :=
  let I (k : Nat) : Int := peaks.getD k 0
  let mx := ((List.range 6).map I).foldl max (I 0)
  let mn := ((List.range 6).map I).foldl min (I 0)
  decide (20 * (mx - mn) < mx) || decide (50 * |I 6 - I 7| < max (I 6) (I 7))

theorem ipdComplete_fails {peaks : List Int} (hheld : s.dev.held = false) (hs : s.wf = true) (htask : s.get SPn_FLD_STAT_task n.val = 1)
    (hflat : ipdFlat peaks = true) : ∃ t, exec (.ipdComplete n peaks) s = .next t ∧ t.get SPn_FLD_STAT_task n.val = 0 ∧
      t.inflight = s.inflight ++ [(chSrc n.val 17, n.val)] ∧ Logged s t 0x3125 [n.val] := by
  have hfail : ipdComplete s n peaks = dtcRelease (taskOver ((s.logEv 0x3125 [n.val]).raise (chSrc n.val 17) n.val) n) n := by
    rw [ipdComplete, if_neg (by simp [htask])]
    exact if_pos hflat
  have hev : ((s.logEv 0x3125 [n.val]).raise (chSrc n.val 17) n.val).wf = true := State.logEv_wf _ _ _ hs
  refine ⟨_, (live_run (f := fun s => ipdComplete s n peaks) s hheld).trans (congrArg _ hfail), (taskOver_shows hev).2.1, ?_, ?_⟩
  · exact dtcRelease_inflight.trans (congrArg (· ++ [_]) (State.logEv_inflight _ _ _))
  · have hlog : Logged s (s.logEv 0x3125 [n.val]) 0x3125 [n.val] := logged_of rfl
    exact Logged.grows hlog (.of_log dtcRelease_log)

theorem ipdComplete_starts {peaks : List Int} (hheld : s.dev.held = false) (hs : s.wf = true) (htask : s.get SPn_FLD_STAT_task n.val = 1)
    (hsharp : ipdFlat peaks = false) : ∃ t, exec (.ipdComplete n peaks) s = .next t ∧ t.get SPn_FLD_STAT_task n.val = 2 ∧
      (t.sp n).fld.dtc.hoSince = none ∧ Logged s t 0x3124 [n.val] := by
  have hfound : ∃ f : DtcSt → DtcSt, (∀ d, (f d).hoSince = none) ∧
      ipdComplete s n peaks = flagged (modDtc s n f) n SPn_FLD_STAT_task 2 0x3124 := by
    rw [ipdComplete, if_neg (by simp [htask])]
    exact ⟨_, fun _ => rfl, if_neg (ne_true_of_eq_false hsharp)⟩
  obtain ⟨f, hf, hfound⟩ := hfound
  have hdtc : (modDtc s n f).wf = true := hs
  obtain ⟨hflag, -, hlog⟩ := flagged_shows (n := n) (f := SPn_FLD_STAT_task) (v := 2) (code := 0x3124) hdtc (by decide +kernel)
  refine ⟨_, (live_run (f := fun s => ipdComplete s n peaks) s hheld).trans (congrArg _ hfound), hflag, ?_, hlog⟩
  rw [State.sp, flagged, State.logEv_sps]
  exact (congrArg DtcSt.hoSince modDtc_dtc).trans (hf _)

/-! ### The recapture (R258) -/

theorem recapture_estimates {a1 b1 a2 b2 : Int} {dt : Nat} (hheld : s.dev.held = false) (htask : s.get SPn_FLD_STAT_task n.val = 3)
    (hpat : (s.sp n).fld.dtc.recPat = some .ascLow) (hts : (s.sp n).fld.dtc.recTs = none) (hstep : (s.sp n).fld.dtc.recStep = 4) :
    ∃ t, exec (.recapture n a1 b1 a2 b2 dt) s = .next t ∧ (t.sp n).fld.dtc.recTs = some s.now ∧ (t.sp n).fld.obs.at_ = s.now ∧
      (t.sp n).fld.obs.iPrev = ⟨a2, b2⟩ := by
  refine ⟨_, live_run (f := fun s => recapture s n ⟨a1, b1⟩ ⟨a2, b2⟩ dt) s hheld, ?_⟩
  have hasc : decide (Pat.ascLow = Pat.off) = false := rfl
  simp only [recapture, htask, hpat, hts, hstep, hasc, Bool.false_and, Bool.false_eq_true, if_false]
  rw [modDtc, modFld_fld, modObs, modFld_fld]
  exact ⟨rfl, rfl, rfl⟩

theorem recapAttemptEnd_counts (hheld : s.dev.held = false) (hs : s.wf = true) (htask : s.get SPn_FLD_STAT_task n.val = 3)
    (hmore : s.get SPn_FLD_STAT_rec_cnt n.val + 1 < s.get SPn_REC_recap_n n.val) (hcnt : s.get SPn_FLD_STAT_rec_cnt n.val < 15) :
    ∃ t, exec (.recapAttemptEnd n) s = .next t ∧ t.get SPn_FLD_STAT_rec_cnt n.val = s.get SPn_FLD_STAT_rec_cnt n.val + 1 ∧
      (t.sp n).fld.dtc.recPat = none ∧ t.get SPn_FLD_STAT_task n.val = 3 := by
  have hn : (s.put SPn_FLD_STAT_rec_cnt (min (s.get SPn_FLD_STAT_rec_cnt n.val + 1) 15) n.val).get SPn_REC_recap_n n.val =
      s.get SPn_REC_recap_n n.val := State.get_put_ne hs (by decide)
  have hnext : recapAttemptEnd s n = modDtc (s.put SPn_FLD_STAT_rec_cnt (min (s.get SPn_FLD_STAT_rec_cnt n.val + 1) 15) n.val) n
      (fun d => { d with recPat := none, recTs := none, recStep := 0, runTs := none, hoSince := none }) := by
    rw [recapAttemptEnd, if_neg (by simp [htask])]
    exact if_neg (by rw [hn]; omega)
  refine ⟨_, (live_run (f := fun s => recapAttemptEnd s n) s hheld).trans (congrArg _ hnext), ?_, congrArg DtcSt.recPat modDtc_dtc, ?_⟩
  · refine (State.get_put_same hs).trans ?_
    rw [SPn_FLD_STAT_rec_cnt_width]
    omega
  · exact (State.get_put_ne hs (by decide)).trans htask

end dtc

/-- Settles O19: the conditions of each clause lead the command to its one effect, and what follows that effect leaves it as it is. -/
theorem fieldStages : Obligations.FieldStages := by
  rintro s a n v peaks a1 b1 a2 b2 dt ⟨hheld, hs⟩
  refine ⟨fwLimit_flags hheld hs, obsValid_flags hheld hs, obsLost_flags hheld hs, locked_flags hheld hs, lockClear_flags hheld hs,
    keAbnormal_flags hheld hs, keAbnClear_restarts, pllLock_flags hheld hs, pllUnlock_flags hheld hs, gridBand_reports hheld,
    dtcDecision_waits hheld, dtcDecision_early hheld, dtcDecision_notes hheld hs, dtcMiss_holds hheld, dtcMiss_ends hheld hs,
    handover_ends hheld hs, fun htask haxis hpole => ipdComplete_starts hheld hs htask ?_,
    fun htask hflat => ipdComplete_fails hheld hs htask ?_, recapture_estimates hheld, recapAttemptEnd_counts hheld hs⟩
  · exact Bool.or_eq_false_iff.mpr ⟨decide_eq_false (not_lt.mpr haxis), decide_eq_false (not_lt.mpr hpole)⟩
  · exact Bool.or_eq_true_iff.mpr (hflat.imp decide_eq_true decide_eq_true)

end Sys2Proof.Proofs
end

/-! # Proofs: the family of spec/08_trips_and_safe_states.md -/

section
/- One declaration after the other: proofs that run side by side would each hold a thread while they wait for the kernel. -/
set_option Elab.async false

section
/-! PROOF. The frames of channels, links, Badger, Chuck and the mailbox (O57). -/

namespace Sys2Proof.Proofs

open Sys2Proof Sys2Proof.Machine Sys2Proof.Safety

/-! ### Writes of registers -/

section writes
variable {s : State} {a : Access} {v : Nat}

theorem postWrite_CHn_SWFAIL {u t : State} {w : Wr} (h : w.reg.addr = CHn_SWFAIL_hs.addr) : postWrite u a w t =
    swfailWrite t w.ch (w.bits CHn_SWFAIL_hs) (w.bits CHn_SWFAIL_ls) := by
  simp [postWrite, postCh, blockOf, Wr.is, h, CHn_SWFAIL_hs, CHn_TIMING_dl_max, CHn_CARR_en, CHn_CTL_six, CHn_COMMIT_go]

/-- SWFAIL_WRITE reaches the report, the selector and its source (R279). -/
theorem swfailWrite_reaches {n : Ch} : Ends (maskOf (evFlds ++ legFlds ++ [SYS_BUSERR_ADDR_addr, CHn_SWFAIL_ls, CHn_SWFAIL_hs,
    CHn_STATE_sel, CHn_STATE_pat, CHn_STATE_held, CHn_STATE_ss, CHn_SEL_THR_thr, PRT_LNKl_STAT_chop, CHn_BUDGET_lat_full,
    CHn_BUDGET_budget]) (evParts ++ [Part.ports, Part.inflight, Part.gen, Part.links])) s (exec (.swfailWrite a n v) s) :=
  wrFld_reaches (f := CHn_SWFAIL_hs) (regOf_CHn_SWFAIL n) (by fin_cases n <;> rfl) (by decide +kernel) fun _ _ ht => by
    rw [postWrite_CHn_SWFAIL rfl]
    exact swfailWrite_moves ⟨by decide +kernel⟩ ht

theorem postWrite_PRT_LNKl_CFG {u t : State} {w : Wr} (h : w.reg.addr = PRT_LNKl_CFG_en.addr) : postWrite u a w t =
    t.onIf (t.getB PRT_LNKl_CFG_en (w.i % 2) && !u.getB PRT_LNKl_CFG_en (w.i % 2))
      (fun s => linkStart s ⟨w.i % 2, Nat.mod_lt _ (by omega)⟩) := by
  simp [postWrite, postPrt, blockOf, Wr.is, h, PRT_LNKl_CFG_en]

/-- LINK_ENABLE reaches the link's configuration and its sample lists (R284). -/
theorem linkEnable_reaches {l : Lnk} : Ends (maskOf (evFlds ++ [SYS_BUSERR_ADDR_addr, PRT_LNKl_CFG_en, PRT_LNKl_CFG_members,
    PRT_LNKl_CFG_ichop_ain, PRT_LNKl_CFG_ichop_en, PRT_LNKl_CFG_pre_leg, PRT_LNKl_CFG_pre_en, PRT_LNKl_CFG_chop_leg,
    PRT_LNKl_CFG_chop_en, PRT_LNKl_CFG_chop_mode, PRT_LNKl_CFG_vdc_ain]) (evParts ++ [Part.ports, Part.links])) s
    (exec (.linkEnable a l v) s) :=
  wrFld_reaches (f := PRT_LNKl_CFG_en) (regOf_PRT_LNKl_CFG l) (by fin_cases l <;> rfl) (by decide +kernel) fun _ _ ht => by
    rw [postWrite_PRT_LNKl_CFG rfl]
    exact State.onIf_moves ht fun _ hu => linkStart_moves ⟨by decide +kernel⟩ hu

theorem postWrite_BDG_WDG_KICKc {u t : State} {w : Wr} (h : w.reg.addr = BDG_WDG_KICKc_key.addr) : postWrite u a w t =
    wdgKick t ⟨w.i % 3, Nat.mod_lt _ (by omega)⟩ (w.bits BDG_WDG_KICKc_key) (wdgOf a.ini == w.i) := by
  simp [postWrite, postBdg, blockOf, Wr.is, h, BDG_WDG_KICKc_key, BDG_MB_REQ_go]

/-- WDG_KICK reaches the watchdog, its token and its source (R325). -/
theorem wdgKick_reaches {c : Fin 3} : Ends (maskOf (evFlds ++ [SYS_BUSERR_ADDR_addr, BDG_WDG_KICKc_key, BDG_WDG_STATc_miss_cnt,
    BDG_WDG_STATc_token]) (evParts ++ [Part.ports, Part.free, Part.inflight, Part.bdg])) s (exec (.wdgKick a c v) s) :=
  wrFld_reaches (f := BDG_WDG_KICKc_key) (regOf_BDG_WDG_KICKc c) (by fin_cases c <;> rfl) (by decide +kernel) fun _ _ ht => by
    rw [postWrite_BDG_WDG_KICKc rfl]
    exact wdgKick_moves ⟨by decide +kernel⟩ ht

end writes

/-! ### Releases of the agreement stages, and a reading of SCV1 -/

section stages
variable {s : State} {p : AgreePair} {differ : Fin 5}

/-- Badger's own stage gives its input to the fault collection unit (R311). -/
theorem chuckRelease_reaches_badger (hp : p.val = 6) : Ends (maskOf (evFlds ++ legFlds ++ stateFlds ++ [CHn_CSTAT_pend,
    SPn_FLD_STAT_task, SPn_FLD_STAT_engine, CHn_STATE_cause, CHn_STATE_sel, CHn_SEL_THR_thr, CHn_OCSTAT_cyc_run, PRT_LNKl_STAT_lstate,
    PRT_LNKl_STAT_chop, PRT_CHUCK_STAT_resample, PRT_CHUCK_STAT_disagree, BDG_STATE_dev_cause, BDG_STATE_fault_n, BDG_STATE_safe_en1,
    BDG_STATE_safe_en0, BDG_STATE_unit, BDG_FSTATw_src, TLS_STAT_nr_cause, TLS_STAT_ready]) (evParts ++ [Part.inflight, Part.gen,
    Part.chans, Part.sps, Part.links, Part.bdg, Part.tls])) s (exec (.chuckRelease p differ) s) :=
  Ends.next (.ite (fun _ => .refl) fun _ => by
    change Moves _ s (chuckRelease s p differ.val)
    rw [chuckRelease, if_pos hp]
    exact bdgRelease_moves ⟨by decide +kernel⟩ .refl)

/-- A mask with what the agreed inputs reach when none of them is a core's write or claim. -/
def agreedMask : Nat :=
  maskOf (evFlds ++ [PRT_CHUCK_STAT_resample, PRT_CHUCK_STAT_disagree, SPn_STEP_step_inact, SPn_STEP_step_act, SPn_BANK_seal_b,
    SPn_BANK_seal_a, SPn_BANK_CRC_A_crc, SPn_BANK_CRC_B_crc]) (evParts ++ [Part.chuck, Part.landing, Part.inflight, Part.latheWords,
    Part.ueKnown, Part.writebacks])

/-- An input that is no core's is recorded, and lands or becomes the spindle's target (R219, R446). -/
theorem agreed_reaches {a : State} {e : ChuckItem} (he : ∀ x y z, e.val ≠ .core x y z) (h : Moves agreedMask a s) :
    Moves agreedMask a (agreed s e) := by
  have hrec : ∀ k l p, Moves agreedMask a (s.owlRec k l p) := fun _ _ _ => State.owlRec_moves ⟨by decide +kernel⟩ h
  unfold agreed
  split
  · exact .landing ⟨by decide +kernel⟩ (hrec _ _ _)
  · exact .landing ⟨by decide +kernel⟩ (hrec _ _ _)
  · exact .landing ⟨by decide +kernel⟩ (hrec _ _ _)
  · exact .ite (fun _ => hrec _ _ _) fun _ => storeWord_moves ⟨by decide +kernel⟩ (hrec _ _ _)
  · rename_i hcore
    exact absurd hcore (he _ _ _)
  · rename_i hcore
    exact absurd hcore (he _ _ _)

/-- Chuck's stages release the inputs of the spindles (R309, R310). -/
theorem chuckRelease_reaches_spindles (hp : p.val ≠ 6) (hcore : ∀ e ∈ s.chuck, ∀ x y z, e.val ≠ .core x y z) :
    Ends agreedMask s (exec (.chuckRelease p differ) s) := by
  refine Ends.next (.ite (fun _ => .refl) fun _ => ?_)
  change Moves _ s (chuckRelease s p differ.val)
  rw [chuckRelease, if_neg hp]
  cases hfind : s.chuck.find? (fun e => e.pair == p.val) with
  | none => exact .refl
  | some e =>
    exact agreed_reaches (hcore e (List.mem_of_find?_eq_some hfind))
      (chuckCompare_moves ⟨by decide +kernel⟩ (.chuck ⟨by decide +kernel⟩ .refl))

/-- SCV1's reading is stored and compared with CV7's (R323). -/
def scvCompared (s : State) (t1 : Int) : State :=
  let s := (s.putS THM_TEMP_scv1 t1).modBdg (fun b => { b with scv1 := t1 })
  let d := decide (80 < |s.getS THM_TEMP_cv7 - t1|)
  let n := if d then s.bdg.divRun + 1 else 0
  (s.modBdg (fun b => { b with divRun := n, divNow := d })).onIf (n == 10) (fun s => s.raise 0x10 0)

theorem execScvTdiodeRead_eq (s : State) (t1 : Int) : execScvTdiodeRead t1 s =
    live s (fun s => (scvCompared s t1).onIf (decide (2560 ≤ t1)) (fun s => bistShutOff (s.raise 0x12 1))) := rfl

theorem scvCompared_moves {m : Nat} {a s : State} {t1 : Int} (hm : Sub (maskOf [THM_TEMP_scv1] [Part.inflight, Part.bdg]) m)
    (h : Moves m a s) : Moves m a (scvCompared s t1) :=
  State.onIf_moves (State.modBdg_moves (hm.up (by decide +kernel)) (State.modBdg_moves (hm.up (by decide +kernel))
    (State.putS_moves (hm.up (by decide +kernel)) (.inr (hm.bit (by decide +kernel))) h)))
    fun _ hu => State.raise_moves (hm.up (by decide +kernel)) hu

/-- With no BIST to end, T_SHUT ends none (R475). -/
theorem bistShutOff_of_no_bist {s : State} (h : s.pwr.stage ≠ 8 ∧ s.pwr.stage ≠ 3) : bistShutOff s = s := by
  rw [bistShutOff, if_neg h.1, if_neg h.2]

/-- Below T_SHUT, or with no BIST to end, a reading of SCV1 reaches Badger's copy and its sources (R323, R480). -/
theorem scvTdiodeRead_reaches {t1 : Int} (h : t1 < 2560 ∨ s.pwr.stage ≠ 8 ∧ s.pwr.stage ≠ 3) :
    Ends (maskOf [THM_TEMP_scv1] [Part.inflight, Part.bdg]) s (exec (.scvTdiodeRead t1) s) := by
  have hread := scvCompared_moves (t1 := t1) ⟨Nat.and_self _⟩ (.refl (a := s))
  have hpwr : (scvCompared s t1).pwr = s.pwr := hread.part (p := .pwr) (by decide +kernel)
  change Ends _ s (execScvTdiodeRead t1 s)
  rw [execScvTdiodeRead_eq]
  refine Ends.next (.ite (fun _ => .refl) fun _ => ?_)
  refine .ite (fun hhot => ?_) fun _ => hread
  obtain hcool | hstage := h
  · exact absurd (of_decide_eq_true hhot) (by omega)
  · rw [← hpwr] at hstage
    change Moves _ s (bistShutOff ((scvCompared s t1).raise 0x12 1))
    rw [bistShutOff_of_no_bist (s := (scvCompared s t1).raise 0x12 1) hstage]
    exact State.raise_moves ⟨by decide +kernel⟩ hread

end stages

/-- Settles O57. -/
theorem framesChannelsAndSafety : Obligations.FramesChannelsAndSafety :=
  fun s t hs =>
    ⟨fun _ _ => frame hs (execChPrecharge_moves ⟨by decide +kernel⟩ .refl),
      fun _ _ => frame hs (execChEnable_moves ⟨by decide +kernel⟩ .refl),
      fun _ _ => frame hs (execChStop_moves ⟨by decide +kernel⟩ .refl),
      fun _ _ => frame hs (execChSafe_moves ⟨by decide +kernel⟩ .refl),
      fun _ _ => frame hs (execChClearFault_moves ⟨by decide +kernel⟩ .refl),
      fun _ _ => frame hs (execChDischarge_moves ⟨by decide +kernel⟩ .refl),
      fun _ _ _ => frame hs swfailWrite_reaches,
      fun _ _ _ => frame hs linkEnable_reaches,
      fun _ _ => frame hs (execOvWarn_moves ⟨by decide +kernel⟩ .refl),
      fun _ _ => frame hs (execChopOn_moves ⟨by decide +kernel⟩ .refl),
      fun _ _ => frame hs (execChopOff_moves ⟨by decide +kernel⟩ .refl),
      fun _ _ => frame hs (execOvAsc_moves ⟨by decide +kernel⟩ .refl),
      fun _ _ => frame hs (execOvHard_moves ⟨by decide +kernel⟩ .refl),
      fun _ => frame hs (execLinkStarved_moves ⟨by decide +kernel⟩ .refl),
      fun _ => frame hs (execChopCommit_moves ⟨by decide +kernel⟩ .refl),
      fun _ _ => frame hs (execChopConfirm_moves ⟨by decide +kernel⟩ .refl),
      fun _ _ => frame hs (execPrechargeDone_moves ⟨by decide +kernel⟩ .refl),
      fun _ => frame hs (execPrechargeFail_moves ⟨by decide +kernel⟩ .refl),
      fun _ => frame hs (execPrechargeLegOff_moves ⟨by decide +kernel⟩ .refl),
      fun _ _ => frame hs (execDisDone_moves ⟨by decide +kernel⟩ .refl),
      fun _ => frame hs (execDisFail_moves ⟨by decide +kernel⟩ .refl),
      fun _ => frame hs (execDisTimeout_moves ⟨by decide +kernel⟩ .refl),
      fun _ => frame hs (execBadgerEval_moves ⟨by decide +kernel⟩ .refl),
      fun _ _ _ _ => frame hs (execLockstepMismatch_moves ⟨by decide +kernel⟩ .refl),
      fun _ _ _ => frame hs (execCmpSelftest_moves ⟨by decide +kernel⟩ .refl),
      fun _ _ hp => frame hs (chuckRelease_reaches_badger hp),
      fun _ _ hp hcore => frame hs (chuckRelease_reaches_spindles hp hcore),
      fun _ _ _ => frame hs (execStateDigest_moves ⟨by decide +kernel⟩ .refl),
      fun _ => frame hs (execSpindleRestore_moves ⟨by decide +kernel⟩ .refl),
      fun _ => frame hs (execCorePairRestart_moves ⟨by decide +kernel⟩ .refl),
      frame hs (execMpRestart_moves ⟨by decide +kernel⟩ .refl),
      fun _ => frame hs (execDebugHalt_moves ⟨by decide +kernel⟩ .refl),
      fun _ => frame hs (execCkbMonitor_moves ⟨by decide +kernel⟩ .refl),
      frame hs (execCkbTrim_moves ⟨by decide +kernel⟩ .refl),
      fun _ => frame hs (execSupplyFault_moves ⟨by decide +kernel⟩ .refl),
      frame hs (execBdgUndervoltReset_moves ⟨by decide +kernel⟩ .refl),
      fun _ h => frame hs (scvTdiodeRead_reaches h),
      fun _ _ _ => frame hs wdgKick_reaches,
      fun _ => frame hs (execWdgTimeout_moves ⟨by decide +kernel⟩ .refl),
      fun _ _ => frame hs (execFaultRaised_moves ⟨by decide +kernel⟩ .refl),
      fun _ => frame hs (execFaultRead_moves ⟨by decide +kernel⟩ .refl),
      fun _ _ => frame hs (execFaultClear_moves ⟨by decide +kernel⟩ .refl),
      fun _ => frame hs (execClassRead_moves ⟨by decide +kernel⟩ .refl),
      fun _ _ _ => frame hs (execParamStage_moves ⟨by decide +kernel⟩ .refl),
      fun _ => frame hs (execParamRead_moves ⟨by decide +kernel⟩ .refl),
      fun _ => frame hs (execMonRead_moves ⟨by decide +kernel⟩ .refl)⟩

end Sys2Proof.Proofs
end

section
/-! PROOF. The states of the channels on the way into SAFE, STOPPING and out of them (R269 to R280): which channel a change concerns, and
what the others keep. -/

namespace Sys2Proof.Proofs

open Sys2Proof Sys2Proof.Machine Sys2Proof.Safety

/-! ### A change of state (R269) -/

/-- What a change of state reaches beside the state and the one before it. -/
def enteredMask : Nat :=
  maskOf (evFlds ++ legFlds ++ [CHn_STATE_pat, CHn_STATE_ss, CHn_STATE_held, CHn_STATE_safety, SPn_FLD_STAT_task, SPn_FLD_STAT_engine,
    CHn_OCSTAT_cyc_run, PRT_LNKl_STAT_chop]) (evParts ++ [Part.gen, Part.chans, Part.sps, Part.links])

/-- The channel's two state fields. -/
def stateShown (s : State) (n : Ch) (new : Nat) : State := (s.put CHn_STATE_prev (s.chState n.val) n.val).put CHn_STATE_state new n.val

/-- The change of state is shown, delivered and recorded. -/
def stateTold (s : State) (n : Ch) (new cause : Nat) : State :=
  (((stateShown s n new).logEv 0x2410 [n.val, s.chState n.val, new, cause]).irq (2 + n.val)).owlRec 0x0E n.val
    [new + 8 * s.chState n.val + 64 * (((stateShown s n new).logEv 0x2410 [n.val, s.chState n.val, new, cause]).irq (2 + n.val)).get
      CHn_STATE_cause n.val]

/-- The fields that a change of state may clear beside those that show it. -/
def clearedFlds : List Fld :=
  [CHn_STATE_pat, CHn_STATE_ss, CHn_STATE_held, CHn_STATE_safety, SPn_FLD_STAT_task, SPn_FLD_STAT_engine, CHn_OCSTAT_cyc_run]

theorem onIf_rule {P : State → Prop} {u : State} {c : Bool} {f : State → State} (h : P u) (hf : c = true → ∀ v, P v → P (f v)) :
    P (u.onIf c f) := by
  cases c with
  | false => exact h
  | true => exact hf rfl u h

theorem forL_rule {P : State → Prop} {α : Type} {u : State} {l : List α} {f : α → State → State} (h : P u)
    (hf : ∀ x ∈ l, ∀ v, P v → P (f x v)) : P (u.forL l f) := by
  unfold State.forL
  induction l generalizing u with
  | nil => exact h
  | cons x l ih => exact ih (hf x List.mem_cons_self u h) fun y hy => hf y (List.mem_cons_of_mem _ hy)

/-- The one walk through a change of state: what holds once it has been told, and is kept by each of the updates that may follow, holds
in the end. -/
theorem setState_rule {P : State → Prop} {s : State} {n : Ch} {new cause : Nat} (h : P (stateTold s n new cause))
    (hput : ∀ u, ∀ f ∈ clearedFlds, P u → P (u.put f 0 n.val)) (htrig : new = 6 → ∀ u, P u → P (u.owlTrig (4 + n.val)))
    (hleg : ∀ u k f, P u → P (u.modLeg k f)) (hchan : ∀ u f, P u → P (u.modChan n f)) (hsp : ∀ u f, P u → P (u.modSp n f))
    (hlegs : ∀ u, P u → P u.legsApply) : P (setState s n new cause) := by
  unfold setState
  extract_lets
  refine hlegs _ (onIf_rule (onIf_rule (onIf_rule (onIf_rule (onIf_rule h ?_) ?_) ?_) ?_) ?_)
  · exact fun hnew => htrig (by simpa using hnew)
  · exact fun _ u h => hput _ _ (by decide) (hput _ _ (by decide) (hput u _ (by decide) h))
  · exact fun _ u h => hput _ _ (by decide) (hput u _ (by decide) h)
  · exact fun _ u h => hput _ _ (by decide) (hput u _ (by decide) h)
  · exact fun _ u h => hchan _ _ (hsp _ _ (hsp _ _ (hput _ _ (by decide) (hput _ _ (by decide) (hchan _ _ (hput _ _ (by decide)
      (forL_rule h fun _ _ u h => hleg u _ _ h)))))))

theorem setState_reaches {m : Nat} {a s : State} {n : Ch} {new cause : Nat} (hm : Sub enteredMask m) (h : Moves m a (stateShown s n new)) :
    Moves m a (setState s n new cause) := by
  have hcleared : ∀ f ∈ clearedFlds, enteredMask.testBit (f.id + 40) = true := by decide +kernel
  refine setState_rule ?_ (fun u f hf h => State.put_moves (.inr (hm.bit (hcleared f hf))) h)
    (fun _ _ h => State.owlTrig_moves (hm.up (by decide +kernel)) h) (fun _ _ _ h => State.modLeg_moves (hm.up (by decide +kernel)) h)
    (fun _ _ h => State.modChan_moves (hm.up (by decide +kernel)) h) (fun _ _ h => State.modSp_moves (hm.up (by decide +kernel)) h)
    (fun _ h => State.legsApply_moves (hm.up (by decide +kernel)) h)
  exact State.owlRec_moves (hm.up (by decide +kernel)) (State.irq_moves (hm.up (by decide +kernel))
    (State.logEv_moves (hm.up (by decide +kernel)) h))

section change
variable {s : State} {n k : Ch} {new cause : Nat}

theorem setState_wf (hs : s.wf = true) : (setState s n new cause).wf = true := (setState_moves ⟨Nat.and_self _⟩ .refl).wf hs

/-- A field outside the mask shows what it did when the state had been written. -/
theorem setState_get {f : Fld} {i j : Nat} (hs : s.wf = true) (hf : (enteredMask.testBit 0 || touches enteredMask f) = false) :
    (setState s n new cause).get f i j = (stateShown s n new).get f i j :=
  (setState_reaches ⟨Nat.and_self _⟩ .refl).same (State.put_wf (State.put_wf hs)) f i j hf

theorem setState_chState (hs : s.wf = true) : (setState s n new cause).chState k.val = if k = n then new % 8 else s.chState k.val := by
  have hprev : (s.put CHn_STATE_prev (s.chState n.val) n.val).wf = true := State.put_wf hs
  rw [State.chState, setState_get hs (by decide +kernel), stateShown]
  split
  · rename_i hk
    rw [hk, State.get_put_same hprev]
    rfl
  · rename_i hk
    rw [State.get_put_key hprev (key_ne_of_ne (by decide) hk _), State.get_put_ne hs (by decide)]
    rfl

theorem setState_prev (hs : s.wf = true) : (setState s n new cause).get CHn_STATE_prev n.val = s.chState n.val % 8 := by
  rw [setState_get hs (by decide +kernel), stateShown, State.get_put_ne (State.put_wf hs) (by decide), State.get_put_same hs]
  rfl

/-- The event of the change comes first (R269). -/
theorem setState_logs (h : s.log.intake.length < 64) : (0x2410, [n.val, s.chState n.val, new, cause]) ∈ (setState s n new cause).log.intake := by
  have hlog : (0x2410, [n.val, s.chState n.val, new, cause]) ∈
      ((stateShown s n new).logEv 0x2410 [n.val, s.chState n.val, new, cause]).log.intake := logEv_mem h
  refine setState_rule (P := Grows ((stateShown s n new).logEv 0x2410 [n.val, s.chState n.val, new, cause])) (Grows.refl _).irq.owlRec
    (fun _ _ _ h => h.put) (fun _ _ h => h.owlTrig) (fun _ _ _ h => h.modLeg) (fun _ _ h => h.modChan) (fun _ _ h => h.modSp)
    (fun _ h => h.trans (legsApply_grows _)) _ hlog

end change

/-! ### SAFE and STOPPING (R270, R278 to R280) -/

section safe
variable {s t : State} {n k : Ch} {cause : Nat} {safety held : Bool} {pat : Nat}

/-- What the way into SAFE and STOPPING reaches beside the states of the channels. -/
def stayMask : Nat :=
  maskOf (evFlds ++ legFlds ++ [CHn_STATE_cause, CHn_STATE_sel, CHn_STATE_safety, CHn_STATE_pat, CHn_STATE_held, CHn_STATE_ss,
    CHn_SEL_THR_thr, CHn_CSTAT_pend, PRT_LNKl_STAT_lstate, PRT_LNKl_STAT_chop, TLS_STAT_nr_cause, TLS_STAT_ready]) (evParts ++ [Part.gen,
    Part.chans, Part.sps, Part.links, Part.tls])

theorem stays (h : Moves stayMask s t) (hs : s.wf = true) (k : Nat) : t.chState k = s.chState k :=
  h.same hs _ k 0 (by decide +kernel)

theorem stayMask_put {u : State} {f : Fld} {v i j : Nat} (h : Moves stayMask s u) (hf : stayMask.testBit (f.id + 40) = true) :
    Moves stayMask s (u.put f v i j) := State.put_moves (.inr hf) h

/-- Of the channels beside `n`, none changes state but out of a discharge into SAFE (R280). -/
def OthersKeep (s t : State) (n : Ch) : Prop := ∀ k : Ch, k ≠ n → t.chState k.val = s.chState k.val ∨ s.chState k.val = 5 ∧ t.chState k.val = 6

theorem intoSafe_wf (hs : s.wf = true) : (intoSafe s n cause safety pat held).wf = true := (intoSafe_moves ⟨Nat.and_self _⟩ .refl).wf hs

theorem intoSafe_chState (hs : s.wf = true) :
    (intoSafe s n cause safety pat held).chState k.val = if k = n then 6 else s.chState k.val := by
  unfold intoSafe
  extract_lets u v w
  have hu : Moves stayMask s u :=
    stayMask_put (stayMask_put (strayMark_moves ⟨by decide +kernel⟩ .refl) (by decide +kernel)) (by decide +kernel)
  have huwf : u.wf = true := hu.wf hs
  have hw : Moves stayMask (setState u n 6 cause) (setPat w n pat) :=
    setPat_moves ⟨by decide +kernel⟩ (stayMask_put (stayMask_put (State.modChan_moves ⟨by decide +kernel⟩ .refl) (by decide +kernel))
      (by decide +kernel))
  rw [stays hw (setState_wf huwf), setState_chState huwf, stays hu hs]

/-- Every channel of a list enters SAFE; the others stay. -/
theorem intoSafe_each {l : List Ch} (hs : s.wf = true) :
    (s.forL l (fun m s => intoSafe s m cause safety (selChoice s m) false)).wf = true ∧
      (s.forL l (fun m s => intoSafe s m cause safety (selChoice s m) false)).chState k.val = if k ∈ l then 6 else s.chState k.val := by
  unfold State.forL
  induction l generalizing s with
  | nil => exact ⟨hs, rfl⟩
  | cons m l ih =>
    obtain ⟨hwf, hst⟩ := ih (s := intoSafe s m cause safety (selChoice s m) false) (intoSafe_wf hs)
    refine ⟨hwf, hst.trans ?_⟩
    rw [intoSafe_chState hs]
    by_cases hl : k ∈ l
    · simp [hl]
    · simp [hl]

theorem enterSafe_wf (hs : s.wf = true) : (enterSafe s n cause safety pat held).wf = true := (enterSafe_moves ⟨Nat.and_self _⟩ .refl).wf hs

/-- The channel enters SAFE, and with it those whose discharge ends. -/
theorem enterSafe_chState (hs : s.wf = true) :
    (enterSafe s n cause safety pat held).chState n.val = 6 ∧ OthersKeep s (enterSafe s n cause safety pat held) n := by
  unfold enterSafe
  extract_lets others ended entered
  have hothers : ∀ m ∈ others, s.chState m.val = 5 := by
    intro m hm
    simp only [others] at hm
    split at hm
    · split at hm
      · simp only [List.mem_filter, Bool.and_eq_true, beq_iff_eq] at hm
        exact hm.2.2
      · cases hm
    · cases hm
  have hended : Moves stayMask s ended := by
    simp only [ended]
    split
    · exact endDischarge_moves ⟨by decide +kernel⟩ .refl
    · exact .refl
  have hwf : ended.wf = true := hended.wf hs
  have hsame := stays hended hs
  have hentered : ∀ k : Ch, entered.chState k.val = if k = n then 6 else s.chState k.val := fun k => by
    rw [← hsame]
    exact intoSafe_chState hwf
  have hall := fun k => (intoSafe_each (k := k) (l := others) (cause := cause) (safety := safety) (s := entered) (intoSafe_wf hwf)).2
  refine ⟨?_, fun k hk => ?_⟩
  · rw [hall, hentered, if_pos rfl, ite_self]
  · rw [hall, hentered, if_neg hk]
    by_cases hm : k ∈ others
    · exact .inr ⟨hothers k hm, if_pos hm⟩
    · exact .inl (if_neg hm)

theorem safeRequest_wf (hs : s.wf = true) : (safeRequest s n cause).wf = true := (safeRequest_moves ⟨Nat.and_self _⟩ .refl).wf hs

/-- An immediate request puts its channel into SAFE (R280). -/
theorem safeRequest_chState (hs : s.wf = true) : (safeRequest s n cause).chState n.val = 6 ∧ OthersKeep s (safeRequest s n cause) n := by
  unfold safeRequest
  extract_lets u v
  have hu : Moves stayMask s u := selUpdate_moves ⟨by decide +kernel⟩ (safeMark_moves ⟨by decide +kernel⟩ .refl)
  have hsame := stays hu hs
  split
  · rename_i hsafe
    have hv : Moves stayMask s v := State.onIf_moves hu fun _ h => stayMask_put (stayMask_put h (by decide +kernel)) (by decide +kernel)
    have hend := Moves.ite (c := v.getB CHn_STATE_held n.val = true) (fun _ => setPat_moves (x1 := n) (x2 := v.get CHn_STATE_sel n.val)
      ⟨by decide +kernel⟩ (stayMask_put (f := CHn_STATE_held) (v := 0) (i := n.val) (j := 0) hv (by decide +kernel))) fun _ => hv
    exact ⟨(stays hend hs n.val).trans ((hsame n.val).symm.trans hsafe), fun k _ => .inl (stays hend hs k.val)⟩
  · obtain ⟨hown, hothers⟩ := enterSafe_chState (s := u) (n := n) (cause := cause) (safety := true) (pat := u.get CHn_STATE_sel n.val)
      (held := false) (hu.wf hs)
    refine ⟨hown, fun k hk => ?_⟩
    rw [← hsame k.val]
    exact hothers k hk

theorem enterStop_wf (hs : s.wf = true) : (enterStop s n cause safety).wf = true := (enterStop_moves ⟨Nat.and_self _⟩ .refl).wf hs

/-- What STOPPING begins with: its cause, and its state. -/
theorem enterStop_shows (hs : s.wf = true) : (∀ k : Ch, (enterStop s n cause safety).chState k.val = if k = n then 4 else s.chState k.val) ∧
    (enterStop s n cause safety).get CHn_STATE_safety n.val = safety.toNat ∧
    (enterStop s n cause safety).get CHn_STATE_ss n.val = if safety then 4 else 0 := by
  unfold enterStop
  extract_lets u v w
  have hu : Moves stayMask s u := State.onIf_moves .refl fun _ h => stayMask_put h (by decide +kernel)
  have hv : v.wf = true := setState_wf (hu.wf hs)
  have hw : Moves stayMask v (w.modFld n (fun f => { f with stopClamp := max f.tLim f.tReg })) :=
    State.modFld_moves ⟨by decide +kernel⟩ (stayMask_put (stayMask_put .refl (by decide +kernel)) (by decide +kernel))
  refine ⟨fun k => ?_, ?_, ?_⟩
  · rw [← stays hu hs, stays hw hv]
    exact setState_chState (hu.wf hs)
  · refine (State.get_put_ne (State.put_wf hv) (by decide)).trans ((State.get_put_same hv).trans ?_)
    cases safety <;> rfl
  · refine (State.get_put_same (State.put_wf hv)).trans ?_
    cases safety <;> rfl

/-- A reaction of class CH_SAFE (R280): STOPPING where the channel runs and is configured so, SAFE else. -/
theorem chSafeReaction_chState (hs : s.wf = true) : (chSafeReaction s n cause).chState n.val =
      (if s.chState n.val = 3 ∧ s.get CHn_SAFECFG_ch_safe_ss n.val = 1 then 4 else 6) ∧ OthersKeep s (chSafeReaction s n cause) n := by
  unfold chSafeReaction
  by_cases h : s.chState n.val = 3 ∧ s.get CHn_SAFECFG_ch_safe_ss n.val = 1
  · obtain ⟨hst, -, -⟩ := enterStop_shows (n := n) (cause := cause) (safety := true) hs
    rw [if_pos h, if_pos (by simp [h])]
    exact ⟨(hst n).trans (if_pos rfl), fun k hk => .inl ((hst k).trans (if_neg hk))⟩
  · rw [if_neg h, if_neg (by simp only [Bool.and_eq_true, decide_eq_true_eq, beq_iff_eq]; exact fun e => h ⟨e.2, e.1⟩)]
    exact safeRequest_chState hs

end safe

end Sys2Proof.Proofs
end

section
/-! PROOF. What the way into SAFE and STOPPING leaves of the links' monitors and of a replay: a chopper that turns on notes when and at
which voltage (R287), and nothing else of a link changes. -/

namespace Sys2Proof.Proofs

open Sys2Proof Sys2Proof.Machine Sys2Proof.Safety

/-- A link without the two notes of its chopper's turn-on. -/
def quietLink (k : Link) : Link := { k with von := 0, onTs := none }

/-- The links without those notes, and the replay. -/
def still (s : State) : Vector Link 2 × Option Replay := (s.links.map quietLink, s.owl.replay)

section
variable {s t : State}

theorem still_of (hl : t.links = s.links) (hr : t.owl.replay = s.owl.replay) : still t = still s := by rw [still, still, hl, hr]

/-- What does not reach the links and Owl's replay leaves them so. -/
theorem still_of_moves {m : Nat} (h : Moves m s t) (hl : m.testBit (partBit .links) = false) (hr : m.testBit (partBit .owl) = false) :
    still t = still s := still_of (h.part (p := .links) hl) (congrArg OwlSt.replay (h.part (p := .owl) hr))

theorem still_logEv (c : Nat) (l : List Nat) : still (s.logEv c l) = still s := still_of (by simp) (by simp)

theorem still_owlRec (ty src : Nat) (l : List Nat) : still (s.owlRec ty src l) = still s := still_of (by simp) (by simp)

theorem still_owlTrig (b : Nat) : still (s.owlTrig b) = still s := still_of (by simp) (by simp)

@[simp] theorem still_put (f : Fld) (v i j : Nat) : still (s.put f v i j) = still s := rfl

@[simp] theorem still_putB (f : Fld) (b : Bool) (i j : Nat) : still (s.putB f b i j) = still s := rfl

@[simp] theorem still_modChan (n : Ch) (f : Chan → Chan) : still (s.modChan n f) = still s := rfl

@[simp] theorem still_modFld (n : Ch) (f : FldSt → FldSt) : still (s.modFld n f) = still s := rfl

/-- Two states that are still the same agree on every link beside the notes, and on the replay. -/
theorem link_of_still (h : still t = still s) (l : Lnk) : quietLink t.links[l] = quietLink s.links[l] := by
  have hv := congrArg (fun v : Vector Link 2 => v[l]) (congrArg Prod.fst h)
  simpa [still] using hv

theorem replay_of_still (h : still t = still s) : t.owl.replay = s.owl.replay := congrArg Prod.snd h

theorem quietLink_note (v : Vector Link 2) (l : Lnk) (f : Link → Link) (hf : ∀ k, quietLink (f k) = quietLink k) :
    (vupd v l f).map quietLink = v.map quietLink := by
  ext1 i hi
  by_cases hl : l.val = i
  · subst hl
    simpa [vupd] using hf v[l.val]
  · simp [vupd, hl]

theorem still_modLink (l : Lnk) (f : Link → Link) (hf : ∀ k, quietLink (f k) = quietLink k) : still (s.modLink l f) = still s := by
  rw [still, still, State.modLink, quietLink_note _ _ _ hf]

/-! ### Legs, patterns and states -/

theorem chopWatch_still (k : Leg) : still (chopWatch s k) = still s :=
  forL_keeps still fun l _ => onIf_keeps still fun u => by
    refine (still_modLink l _ ?_).trans ((still_logEv _ _).trans (still_of rfl rfl))
    exact fun _ => rfl

theorem legApply_still (e b : Bool) (k : Leg) : still (s.legApply e b k) = still s := by
  unfold State.legApply
  extract_lets
  split
  · rfl
  · refine (onIf_keeps still fun v => ?_).trans (onIf_keeps still fun v => chopWatch_still k)
    exact still_of_moves (State.blankStart_moves ⟨Nat.and_self _⟩ .refl) (by decide +kernel) (by decide +kernel)

theorem legsApply_still : still s.legsApply = still s := forL_keeps still fun _ _ => legApply_still _ _ _

theorem setPat_still (n : Ch) (pat : Nat) : still (setPat s n pat) = still s :=
  Eq.trans (still_of rfl rfl) (legsApply_still.trans (still_of rfl rfl))

theorem selUpdate_still (n : Ch) : still (selUpdate s n) = still s := by
  have hlegs (c : Bool) : still ((selShow (s.put CHn_STATE_sel (selChoice s n) n.val) n).onIf c State.legsApply) = still s :=
    (onIf_keeps still fun _ => legsApply_still).trans (still_of rfl rfl)
  unfold selUpdate
  extract_lets
  repeat' split
  · exact hlegs _
  · exact hlegs _
  · exact (setPat_still _ _).trans (hlegs _)
  · exact (still_logEv _ _).trans ((setPat_still _ _).trans (hlegs _))
  · exact hlegs _

theorem setState_still (n : Ch) (new cause : Nat) : still (setState s n new cause) = still s :=
  setState_rule (P := fun u => still u = still s) ((still_owlRec _ _ _).trans (still_logEv _ _)) (fun _ _ _ h => h)
    (fun _ _ h => (still_owlTrig _).trans h) (fun _ _ _ h => h) (fun _ _ h => h) (fun _ _ h => h) fun _ h => legsApply_still.trans h

/-! ### Into SAFE and STOPPING -/

theorem strayMark_still (n : Ch) : still (strayMark s n) = still s := by
  refine onIf_keeps still fun u => (onIf_keeps still fun v => ?_).trans (still_of rfl rfl)
  unfold setReady
  split
  · rfl
  · exact (still_logEv _ _).trans (onIf_keeps (s := v) still fun _ => still_of rfl rfl)

theorem intoSafe_still (m : Ch) (cause : Nat) (safety : Bool) (pat : Nat) (held : Bool) :
    still (intoSafe s m cause safety pat held) = still s := by
  unfold intoSafe
  extract_lets u v w
  have hu : still u = still s := by simp only [u, still_putB, still_put, strayMark_still]
  have hw : still w = still (setState u m 6 cause) := by simp only [w, v, still_putB, still_modChan]
  exact (setPat_still m pat).trans (hw.trans ((setState_still m 6 cause).trans hu))

theorem endDischarge_still (l : Lnk) (st : Nat) : still (endDischarge s l st) = still s :=
  still_of_moves (endDischarge_moves ⟨Nat.and_self _⟩ .refl) (by decide +kernel) (by decide +kernel)

theorem enterSafe_still (n : Ch) (cause : Nat) (safety : Bool) (pat : Nat) (held : Bool) :
    still (enterSafe s n cause safety pat held) = still s := by
  unfold enterSafe
  refine (forL_keeps still fun _ _ => intoSafe_still _ _ _ _ _).trans ((intoSafe_still _ _ _ _ _).trans ?_)
  split
  · exact endDischarge_still _ _
  · rfl

theorem safeRequest_still (n : Ch) (cause : Nat) : still (safeRequest s n cause) = still s := by
  have hmark : still (safeMark s n) = still s :=
    still_of_moves (safeMark_moves ⟨Nat.and_self _⟩ .refl) (by decide +kernel) (by decide +kernel)
  have hsel : still (selUpdate (safeMark s n) n) = still s := (selUpdate_still n).trans hmark
  unfold safeRequest
  extract_lets u v
  have hv : still v = still u := onIf_keeps still fun _ => still_of rfl rfl
  split
  · split
    · exact (setPat_still _ _).trans (hv.trans hsel)
    · exact hv.trans hsel
  · exact (enterSafe_still _ _ _ _ _).trans hsel

theorem enterStop_still (n : Ch) (cause : Nat) (safety : Bool) : still (enterStop s n cause safety) = still s := by
  unfold enterStop
  extract_lets u v w
  rw [still_modFld, still_put, still_putB]
  exact ((setState_still n 4 cause).trans (onIf_keeps still fun _ => still_of rfl rfl))

theorem chSafeReaction_still (n : Ch) (src : Nat) : still (chSafeReaction s n src) = still s := by
  unfold chSafeReaction
  split
  · exact enterStop_still n src true
  · exact safeRequest_still n src

end

end Sys2Proof.Proofs
end

section
/-! PROOF. Badger's evaluation, the lockstep comparators and the monitors (R296, R307, R308, R312, R317 to R325 in O23). -/

namespace Sys2Proof.Proofs

open Sys2Proof Sys2Proof.Machine Sys2Proof.Safety

/-! ### The evaluation (R296, R326) -/

/-- An event adds no more than itself and what Owl's trigger adds. -/
theorem logEv_intake_length (s : State) (c : Nat) (l : List Nat) : (s.logEv c l).log.intake.length ≤ s.log.intake.length + 3 := by
  have hraw := logRaw_intake_length s c l
  simp only [State.logEv]
  split
  · exact (owlTrig_intake_length _ _).trans (Nat.add_le_add_right hraw 2)
  · exact hraw.trans (by omega)

section evaluation
variable {s u : State} {k : Nat}

/-- An evaluation so far: the blocks are as they were, and the intake holds at most `k` events more. -/
def EvalLeaves (s u : State) (k : Nat) : Prop :=
  u.bdg.block = s.bdg.block ∧ u.bdg.staged = s.bdg.staged ∧ u.log.intake.length ≤ s.log.intake.length + k

theorem EvalLeaves.mono {j : Nat} (h : EvalLeaves s u j) (hk : j ≤ k) : EvalLeaves s u k := by
  obtain ⟨hblock, hstaged, hlen⟩ := h
  exact ⟨hblock, hstaged, hlen.trans (by omega)⟩

theorem EvalLeaves.modTm {f : BdgSt → Vector TmSt 4} (h : EvalLeaves s u k) : EvalLeaves s (u.modBdg fun b => { b with tm := f b }) k := h

/-- A monitor reports. -/
theorem EvalLeaves.told {c : Bool} {code src p : Nat} {l : List Nat} (h : EvalLeaves s u k) :
    EvalLeaves s (u.onIf c fun v => (v.logEv code l).raise src p) (k + 3) := by
  obtain ⟨hblock, hstaged, hlen⟩ := h
  cases c with
  | false => exact ⟨hblock, hstaged, hlen.trans (by omega)⟩
  | true =>
    refine ⟨?_, ?_, (logEv_intake_length u code l).trans (by omega)⟩
    · rw [State.onIf_true, State.raise_bdg, State.logEv_bdg, hblock]
    · rw [State.onIf_true, State.raise_bdg, State.logEv_bdg, hstaged]

theorem tmEval_leaves {n : Ch} {smp : List (Int × Int × Nat)} (h : EvalLeaves s u k) : EvalLeaves s (tmEval u n smp) (k + 6) := by
  unfold tmEval
  split
  · exact h.mono (by omega)
  · extract_lets
    split
    · exact h.modTm.told.mono (by omega)
    · exact h.modTm.told.modTm.told

/-- The evaluation of the four channels. -/
def evaluated (s : State) (smp : List (List (Int × Int × Nat))) : State :=
  (s.forL (List.finRange 4) (fun n s => tmEval s n (smp.getD n.val []))).modBdg (fun b =>
    { b with tm := b.tm.map (fun t => { t with prev := t.cur, cur := t.cur.drop (t.cur.length - 1) }) })

theorem evaluated_leaves {smp : List (List (Int × Int × Nat))} : EvalLeaves s (evaluated s smp) 24 := by
  have hstart : EvalLeaves s s 0 := ⟨rfl, rfl, Nat.le_add_right _ _⟩
  have hall : EvalLeaves s (s.forL (List.finRange 4) (fun n s => tmEval s n (smp.getD n.val []))) 24 :=
    tmEval_leaves (tmEval_leaves (tmEval_leaves (tmEval_leaves hstart)))
  exact hall.modTm

theorem evaluated_wf {smp : List (List (Int × Int × Nat))} (hs : s.wf = true) : (evaluated s smp).wf = true :=
  (State.modBdg_moves ⟨by decide +kernel⟩ (State.forL_moves .refl fun _ _ h => tmEval_moves ⟨Nat.and_self _⟩ h)).wf hs

/-- A staged block is in force from now on (R326). -/
def blockInForce (s : State) (b : List Nat) : State :=
  s.modBdg (fun x => { x with block := some b, staged := none, wdg := x.wdg.map (fun w => { w with dflt := false }) })

theorem blockInForce_wf {b : List Nat} (hs : s.wf = true) : (blockInForce s b).wf = true := hs

/-- SAFE_EN and FAULT_N follow an evaluation: neither the blocks nor their check value change. -/
theorem evalShown_leaves (hu : u.wf = true) : (faultNShow (safeEnUpdate u)).bdg = u.bdg ∧
    (faultNShow (safeEnUpdate u)).get BDG_PARAM_CRC_crc = u.get BDG_PARAM_CRC_crc ∧ (faultNShow (safeEnUpdate u)).log = u.log := by
  have hen := safeEnUpdate_moves ⟨Nat.and_self _⟩ (.refl (a := u))
  have hall := faultNShow_moves (m := maskOf [BDG_STATE_fault_n, BDG_STATE_safe_en1, BDG_STATE_safe_en0] []) ⟨by decide +kernel⟩
    (safeEnUpdate_moves ⟨by decide +kernel⟩ (.refl (a := u)))
  exact ⟨hall.part (p := .bdg) (by decide +kernel), hall.same hu _ _ _ (by decide +kernel), hall.part (p := .log) (by decide +kernel)⟩

theorem badgerEval_staged {smp : List (List (Int × Int × Nat))} {b : List Nat} {v : Nat} (hs : s.wf = true)
    (hst : s.bdg.staged = some (b, v)) : (badgerEval s smp).bdg.block = some b ∧ (badgerEval s smp).bdg.staged = none ∧
      (badgerEval s smp).get BDG_PARAM_CRC_crc = v % 2 ^ 32 ∧
      (s.log.intake.length < 30 → (0x4804, [v]) ∈ (badgerEval s smp).log.intake) := by
  obtain ⟨-, hstaged, hlen⟩ := evaluated_leaves (s := s) (smp := smp)
  have heval : badgerEval s smp =
      faultNShow (safeEnUpdate (((blockInForce (evaluated s smp) b).put BDG_PARAM_CRC_crc v).logEv 0x4804 [v])) := by
    rw [hst] at hstaged
    rw [badgerEval, ← evaluated]
    simp only [hstaged, blockInForce]
  have hacc : (blockInForce (evaluated s smp) b).wf = true := blockInForce_wf (evaluated_wf hs)
  have hput : ((blockInForce (evaluated s smp) b).put BDG_PARAM_CRC_crc v).wf = true := State.put_wf hacc
  obtain ⟨hbdg, hcrc, hlog⟩ := evalShown_leaves (State.logEv_wf _ 0x4804 [v] hput)
  rw [heval, hbdg, hcrc, hlog, State.logEv_bdg]
  refine ⟨rfl, rfl, ?_, fun hroom => logEv_mem (Nat.lt_of_le_of_lt hlen (by omega))⟩
  rw [logEv_get_of_untouched hput (by decide +kernel)]
  exact State.get_put_same hacc

theorem badgerEval_unstaged {smp : List (List (Int × Int × Nat))} (hs : s.wf = true) (hst : s.bdg.staged = none) :
    (badgerEval s smp).bdg.block = s.bdg.block ∧ (badgerEval s smp).get BDG_PARAM_CRC_crc = s.get BDG_PARAM_CRC_crc := by
  obtain ⟨hblock, hstaged, -⟩ := evaluated_leaves (s := s) (smp := smp)
  have heval : badgerEval s smp = faultNShow (safeEnUpdate (evaluated s smp)) := by
    rw [hst] at hstaged
    rw [badgerEval, ← evaluated]
    simp only [hstaged]
  obtain ⟨hbdg, hcrc, -⟩ := evalShown_leaves (evaluated_wf (smp := smp) hs)
  have hmoves : Moves (maskOf evFlds (evParts ++ [Part.inflight, Part.bdg])) s (evaluated s smp) :=
    State.modBdg_moves ⟨by decide +kernel⟩ (State.forL_moves .refl fun _ _ h => tmEval_moves ⟨by decide +kernel⟩ h)
  rw [heval, hbdg, hcrc]
  exact ⟨hblock, hmoves.same hs _ _ _ (by decide +kernel)⟩

end evaluation

/-! ### The comparators (R307, R308, R312) -/

section comparators
variable {s : State} {n : Nat} {p : AgreePair} {e : Pair} {rp rq : Fin 4} {par : Bool}

/-- What two copies that differ leave of the rest: the pair's bit and its source, beside Owl's trigger. -/
theorem pairDiffers_shows {lat : Bool} (hs : s.wf = true) : (pairDiffers s e lat).getBit PRT_LS_STAT_mismatch e.val = true ∧
    (pairDiffers s e lat).inflight = s.inflight ++ [(pairSrc e lat, e.val)] ∧ Grows s (pairDiffers s e lat) := by
  have hbit : (s.putBit PRT_LS_STAT_mismatch e.val true).wf = true := putBit_wf hs
  have hmark : ((s.putBit PRT_LS_STAT_mismatch e.val true).owlTrig 12).getBit PRT_LS_STAT_mismatch e.val = true := by
    have hset : (s.putBit PRT_LS_STAT_mismatch e.val true).getBit PRT_LS_STAT_mismatch e.val = true :=
      getBit_putBit hs e.isLt
    rw [State.getBit, get_of_untouched (State.owlTrig_moves ⟨Nat.and_self _⟩ .refl) hbit (by decide +kernel) (by decide +kernel)]
    exact hset
  have hway : (((s.putBit PRT_LS_STAT_mismatch e.val true).owlTrig 12).raise (pairSrc e lat) e.val).inflight =
      s.inflight ++ [(pairSrc e lat, e.val)] := by
    rw [State.raise_inflight, State.owlTrig_inflight, State.putBit_inflight]
  have hgrows : Grows s (((s.putBit PRT_LS_STAT_mismatch e.val true).owlTrig 12).raise (pairSrc e lat) e.val) :=
    ((Grows.refl s).put.owlTrig).log rfl
  unfold pairDiffers
  extract_lets
  split
  · exact ⟨hmark, hway, hgrows⟩
  · exact ⟨hmark, hway, hgrows⟩

theorem pairDiffers_get {lat : Bool} {f : Fld} {i : Nat} (hs : s.wf = true) (hf : f ∈ [PRT_LS_CNTp_mis_cnt, PRT_LS_CNTp_lat_cnt]) :
    (pairDiffers s e lat).get f i = s.get f i :=
  get_of_untouched (pairDiffers_moves (x1 := e) (x2 := lat) ⟨Nat.and_self _⟩ .refl) hs (by decide +kernel) (by revert f; decide +kernel)

/-- A difference is counted and reported. -/
def diffCounted (s : State) (f : Fld) (code : Nat) (p : Nat) : State := (s.incSat f p).logEv code [p]

theorem diffCounted_shows {f : Fld} {code : Nat} (hs : s.wf = true) (hf : touches (maskOf evFlds evParts) f = false) :
    (diffCounted s f code n).wf = true ∧ (diffCounted s f code n).get f n = min (s.get f n + 1) (2 ^ f.width - 1) ∧
      (diffCounted s f code n).inflight = s.inflight ∧ Logged s (diffCounted s f code n) code [n] := by
  have hinc : (s.incSat f n).wf = true := State.put_wf hs
  refine ⟨State.logEv_wf _ _ _ hinc, ?_, State.logEv_inflight _ _ _, logged_of rfl⟩
  rw [diffCounted, logEv_get_of_untouched hinc hf]
  exact get_incSat hs

/-- What the rails and the parity say before the difference is counted (R307). -/
def railsShown (s : State) (p : AgreePair) (rp rq : Fin 4) (par : Bool) : State :=
  (s.onIf par (fun s => s.incSat PRT_LS_CNTp_par_cnt p.val)).onIf ((rp.val == 1) != (rq.val == 1))
    (fun s => s.putBit PRT_LS_STAT_cmp_split p.val true)

theorem railsShown_moves : Moves (maskOf [PRT_LS_STAT_cmp_split, PRT_LS_CNTp_par_cnt] []) s (railsShown s p rp rq par) :=
  State.onIf_moves (State.onIf_moves .refl fun _ h => State.put_moves (.inr (by decide +kernel)) h) fun _ h =>
    State.put_moves (.inr (by decide +kernel)) h

/-- The rails or the parity show a difference that the pair compares. -/
theorem differs_of (hdiff : rp.val ≠ 1 ∨ rq.val ≠ 1 ∨ par = true) (hcmp : compares s p = true) :
    ((rp.val = 1 && rq.val == 1 && !par) || !compares s p) = false := by
  rw [hcmp]
  rcases hdiff with h | h | h <;> simp [h]

theorem mismatch_counts (hs : s.wf = true) (hheld : s.dev.held = false) (hdiff : rp.val ≠ 1 ∨ rq.val ≠ 1 ∨ par = true)
    (hcmp : compares s p = true) (hp : p ≠ 6) : ∃ t, exec (.lockstepMismatch p rp rq par) s = .next t ∧
      t.getBit PRT_LS_STAT_mismatch p.val = true ∧
      t.get PRT_LS_CNTp_mis_cnt p.val = min (s.get PRT_LS_CNTp_mis_cnt p.val + 1) (2 ^ PRT_LS_CNTp_mis_cnt.width - 1) ∧
      t.inflight = s.inflight ++ [(if p.val < 2 then 0x18 + p.val else chSrc (p.val - 2) 1, p.val)] ∧ Logged s t 0x4021 [p.val] := by
  have hlt : p.val < 6 := by
    have hne : p.val ≠ 6 := fun e => hp (Fin.ext e)
    omega
  have hexec : exec (.lockstepMismatch p rp rq par) s =
      .next (pairDiffers (diffCounted (railsShown s p rp rq par) PRT_LS_CNTp_mis_cnt 0x4021 p.val) ⟨p.val, hlt⟩ false) := by
    change execLockstepMismatch p rp rq par s = _
    rw [execLockstepMismatch, live_run s hheld, differs_of hdiff hcmp, if_neg Bool.false_ne_true, dif_pos hlt]
    rfl
  have hrails := railsShown_moves (s := s) (p := p) (rp := rp) (rq := rq) (par := par)
  obtain ⟨hwf, hcnt, hway, hlog⟩ := diffCounted_shows (n := p.val) (f := PRT_LS_CNTp_mis_cnt) (code := 0x4021) (hrails.wf hs) (by decide +kernel)
  obtain ⟨hbit, hraise, hgrows⟩ := pairDiffers_shows (e := ⟨p.val, hlt⟩) (lat := false) hwf
  have hlogs : (railsShown s p rp rq par).log = s.log := hrails.part (p := .log) (by decide +kernel)
  have hsame : (railsShown s p rp rq par).inflight = s.inflight := hrails.part (p := .inflight) (by decide +kernel)
  refine ⟨_, hexec, hbit, ?_, ?_, ?_⟩
  · rw [pairDiffers_get hwf List.mem_cons_self, hcnt, hrails.same hs _ _ _ (by decide +kernel)]
  · rw [hraise, hway, hsame]
    rfl
  · intro hroom
    rw [← hlogs] at hroom
    exact hgrows _ (hlog hroom)

/-- A difference of Badger's own pair (R305). -/
theorem mismatch_badger (hheld : s.dev.held = false) (hdiff : rp.val ≠ 1 ∨ rq.val ≠ 1 ∨ par = true) (hp : p = 6) :
    ∃ t, exec (.lockstepMismatch p rp rq par) s = .next t ∧ t.inflight = s.inflight ++ [(0x1F, 6)] ∧ Logged s t 0x4021 [6] := by
  subst hp
  have hexec : exec (.lockstepMismatch 6 rp rq par) s = .next (bdgDiffers s) := by
    change execLockstepMismatch 6 rp rq par s = _
    rw [execLockstepMismatch, live_run s hheld, differs_of hdiff rfl, if_neg Bool.false_ne_true]
    rfl
  refine ⟨_, hexec, ?_, fun hroom => ?_⟩
  · rw [bdgDiffers, State.raise_inflight, State.logEv_inflight, State.owlTrig_inflight]
  · have htrig := owlTrig_intake_length s 12
    exact logEv_mem (by omega)

theorem mismatch_none (hheld : s.dev.held = false) (h : rp.val = 1 ∧ rq.val = 1 ∧ par = false ∨ compares s p = false) :
    exec (.lockstepMismatch p rp rq par) s = .next s := by
  have hquiet : ((rp.val = 1 && rq.val == 1 && !par) || !compares s p) = true := by
    rcases h with ⟨h1, h2, h3⟩ | h
    · simp [h1, h2, h3]
    · simp [h]
  change execLockstepMismatch p rp rq par s = _
  rw [execLockstepMismatch, live_run s hheld, hquiet, if_pos rfl]

/-- The digests of the two copies differ (R312, R313). -/
theorem digest_differs {m d : Nat} (hs : s.wf = true) (hheld : s.dev.held = false) (hne : m ≠ d)
    (hcmp : compares s ⟨e.val, by omega⟩ = true) : ∃ t, exec (.stateDigest e m d) s = .next t ∧
      t.getBit PRT_LS_STAT_mismatch e.val = true ∧
      t.get PRT_LS_CNTp_lat_cnt e.val = min (s.get PRT_LS_CNTp_lat_cnt e.val + 1) (2 ^ PRT_LS_CNTp_lat_cnt.width - 1) ∧
      t.inflight = s.inflight ++ [(pairSrc e true, e.val)] := by
  have hexec : exec (.stateDigest e m d) s = .next (pairDiffers (diffCounted s PRT_LS_CNTp_lat_cnt 0x4022 e.val) e true) := by
    change execStateDigest e m d s = _
    simp only [execStateDigest, live_run s hheld, hne, hcmp]
    rfl
  obtain ⟨hwf, hcnt, hway, -⟩ := diffCounted_shows (n := e.val) (f := PRT_LS_CNTp_lat_cnt) (code := 0x4022) hs (by decide +kernel)
  obtain ⟨hbit, hraise, -⟩ := pairDiffers_shows (e := e) (lat := true) hwf
  refine ⟨_, hexec, hbit, ?_, ?_⟩
  · rw [pairDiffers_get hwf (by simp), hcnt]
  · rw [hraise, hway]

theorem digest_same {m d : Nat} (hheld : s.dev.held = false) (h : m = d ∨ compares s ⟨e.val, by omega⟩ = false) :
    exec (.stateDigest e m d) s = .next s := by
  change execStateDigest e m d s = _
  rcases h with h | h <;> simp [execStateDigest, live_run s hheld, h]

/-- The test of a comparator moves on by one position (R308). -/
def testMoved (s : State) (p : AgreePair) : State :=
  (s.put PRT_CMP_TEST_bit s.bdg.cmpPos[p]).modBdg (fun b => { b with cmpPos := b.cmpPos.set p.val ((s.bdg.cmpPos[p] + 1) % 256) })

theorem selftest_passes {q1 q2 : Bool} (hs : s.wf = true) (hheld : s.dev.held = false) (h1 : q1 = true) (h2 : q2 = true) :
    ∃ t, exec (.cmpSelftest p q1 q2) s = .next t ∧ t.inflight = s.inflight ∧
      (p ≠ 6 → t.get PRT_LS_CNTp_test_cnt p.val = min (s.get PRT_LS_CNTp_test_cnt p.val + 1) (2 ^ PRT_LS_CNTp_test_cnt.width - 1)) ∧
      t.get PRT_CMP_TEST_bit = s.bdg.cmpPos[p] % 2 ^ PRT_CMP_TEST_bit.width ∧ t.bdg.cmpPos[p] = (s.bdg.cmpPos[p] + 1) % 256 := by
  subst h1 h2
  have hexec : exec (.cmpSelftest p true true) s =
      .next ((testMoved s p).onIf (decide (p.val < 6)) (fun s => s.incSat PRT_LS_CNTp_test_cnt p.val)) := by
    change execCmpSelftest p true true s = _
    rw [execCmpSelftest, live_run s hheld]
    rfl
  have hmoved : (testMoved s p).wf = true := State.put_wf (s := s) hs
  have hbit : (testMoved s p).get PRT_CMP_TEST_bit = s.bdg.cmpPos[p] % 2 ^ PRT_CMP_TEST_bit.width := State.get_put_same hs
  have hpos : (testMoved s p).bdg.cmpPos[p] = (s.bdg.cmpPos[p] + 1) % 256 := by simp [testMoved, State.modBdg]
  refine ⟨_, hexec, onIf_keeps (fun u => u.inflight) fun _ => rfl, fun hp => ?_, ?_, ?_⟩
  · have hlt : p.val < 6 := by
      have hne : p.val ≠ 6 := fun e => hp (Fin.ext e)
      omega
    have hcnt : (testMoved s p).get PRT_LS_CNTp_test_cnt p.val = s.get PRT_LS_CNTp_test_cnt p.val := State.get_put_ne hs (by decide)
    rw [decide_eq_true hlt, State.onIf_true, get_incSat hmoved, hcnt]
  · unfold State.onIf
    split
    · exact (State.get_put_ne hmoved (by decide)).trans hbit
    · exact hbit
  · refine Eq.trans (congrArg (fun b : BdgSt => b.cmpPos[p]) (onIf_keeps State.bdg ?_)) hpos
    exact fun _ => rfl

theorem selftest_fails {q1 q2 : Bool} (hs : s.wf = true) (hheld : s.dev.held = false) (h : q1 = false ∨ q2 = false) :
    ∃ t, exec (.cmpSelftest p q1 q2) s = .next t ∧ t.inflight = s.inflight ++ [(0x1D, p.val)] ∧
      t.get PRT_LS_CNTp_test_cnt p.val = s.get PRT_LS_CNTp_test_cnt p.val ∧ Logged s t 0x4023 [p.val, s.bdg.cmpPos[p]] := by
  have hfail : ¬ (q1 && q2) = true := by rcases h with h | h <;> simp [h]
  have hexec : exec (.cmpSelftest p q1 q2) s =
      .next (((testMoved s p).logEv 0x4023 [p.val, s.bdg.cmpPos[p]]).raise 0x1D p.val) := by
    change execCmpSelftest p q1 q2 s = _
    simp only [execCmpSelftest, live_run s hheld, if_neg hfail]
    rfl
  have hmoved : (testMoved s p).wf = true := State.put_wf (s := s) hs
  refine ⟨_, hexec, ?_, ?_, logged_of rfl⟩
  · rw [State.raise_inflight, State.logEv_inflight]
    rfl
  · rw [State.raise_get, logEv_get_of_untouched hmoved (by decide +kernel)]
    exact State.get_put_ne hs (by decide)

end comparators

end Sys2Proof.Proofs
end

section
/-! PROOF. Restarts, halts and the monitors of clocks, supplies, temperature and software (R317 to R325 in O23). -/

namespace Sys2Proof.Proofs

open Sys2Proof Sys2Proof.Machine Sys2Proof.Safety

/-! ### Restarts and halts of a core pair (R317, R319) -/

section cores
variable {s : State} {c : Fin 2}

/-- The flag of a core pair whose lockstep is broken. -/
def lsbFld (c : Fin 2) : Fld := if c.val = 0 then BDG_STATE_lsb_cpa else BDG_STATE_lsb_cpb

theorem haltPair_shows (hs : s.wf = true) : (haltPair s c).get (lsbFld c) = 1 ∧ (haltPair s c).inflight = s.inflight ++ [(0x1E, c.val)] := by
  have hput : (s.put (lsbFld c) 1).wf = true := State.put_wf hs
  constructor
  · rw [haltPair, State.raise_get, ← lsbFld, logEv_get_of_untouched hput (by fin_cases c <;> decide +kernel), State.get_put_same hs]
    fin_cases c <;> rfl
  · rw [haltPair, State.raise_inflight, State.logEv_inflight]
    rfl

theorem debugHalt_open (hheld : s.dev.held = false) (hopen : s.get LCS_STATE_dbg_open = 1) (hst : s.get LCS_STATE_state = 2) :
    exec (.debugHalt c) s = .next (if s.bdg.holds.testBit c.val then s.modBdg (fun b => { b with haltReq := b.haltReq ||| 2 ^ c.val })
      else haltPair s c) := by
  change execDebugHalt c s = _
  rw [execDebugHalt, live_run s hheld, getB_of_one hopen, hst]
  rfl

theorem debugHalt_waits (hheld : s.dev.held = false) (hopen : s.get LCS_STATE_dbg_open = 1) (hst : s.get LCS_STATE_state = 2)
    (hhold : s.bdg.holds.testBit c.val = true) : ∃ t, exec (.debugHalt c) s = .next t ∧ t.bdg.haltReq.testBit c.val = true ∧
      t.inflight = s.inflight := by
  refine ⟨_, debugHalt_open hheld hopen hst, ?_, ?_⟩
  · rw [if_pos hhold]
    simp [State.modBdg, Nat.testBit_or, Nat.testBit_two_pow_self]
  · rw [if_pos hhold]
    rfl

theorem debugHalt_breaks (hs : s.wf = true) (hheld : s.dev.held = false) (hopen : s.get LCS_STATE_dbg_open = 1)
    (hst : s.get LCS_STATE_state = 2) (hhold : s.bdg.holds.testBit c.val = false) : ∃ t, exec (.debugHalt c) s = .next t ∧
      t.get (if c.val = 0 then BDG_STATE_lsb_cpa else BDG_STATE_lsb_cpb) = 1 ∧ t.inflight = s.inflight ++ [(0x1E, c.val)] := by
  have hexec := debugHalt_open (c := c) hheld hopen hst
  rw [if_neg (by rw [hhold]; exact Bool.false_ne_true)] at hexec
  exact ⟨_, hexec, haltPair_shows hs⟩

theorem debugHalt_shut (hheld : s.dev.held = false) (hst : s.get LCS_STATE_state ≠ 2) : exec (.debugHalt c) s = .next s := by
  have hoff : (s.getB LCS_STATE_dbg_open && s.get LCS_STATE_state == 2) = false := by simp [hst]
  change execDebugHalt c s = _
  rw [execDebugHalt, live_run s hheld, hoff, State.onIf_false]

/-- The hold of a core pair ends. -/
def holdEnded (s : State) (c : Fin 2) : State := s.modBdg (fun b => { b with holds := b.holds - 2 ^ c.val })

/-- The pair is shown as restored, and its watchdog starts again. -/
def pairBack (s : State) (c : Fin 2) : State :=
  (wdgRestart (((holdEnded s c).putBit PRT_LS_STAT_restored c.val true).logEv 0x4025 [c.val]) ⟨c.val, by omega⟩).owlRec 0x11 3 [c.val]

theorem pairBack_bdg : (pairBack s c).bdg = { s.bdg with
    holds := s.bdg.holds - 2 ^ c.val, wdg := vupd s.bdg.wdg ⟨c.val, by omega⟩ (fun _ => ⟨s.now, true⟩) } := by
  have hnow : (((holdEnded s c).putBit PRT_LS_STAT_restored c.val true).logEv 0x4025 [c.val]).now = s.now :=
    congrArg BitVec.toNat (State.logEv_ts _ _ _)
  rw [pairBack, State.owlRec_bdg, wdgRestart, State.modBdg, hnow, State.logEv_bdg]
  rfl

/-- A halt that was asked for during the restoration follows it (R337). -/
def haltDue (s : State) (c : Fin 2) : State :=
  s.onIf (s.bdg.haltReq.testBit c.val) (fun s => haltPair (s.modBdg (fun b => { b with haltReq := b.haltReq - 2 ^ c.val })) c)

theorem haltDue_moves : Moves (maskOf (evFlds ++ [BDG_STATE_lsb_cpb, BDG_STATE_lsb_cpa]) (evParts ++ [Part.inflight, Part.bdg])) s (haltDue s c) :=
  State.onIf_moves .refl fun _ h => haltPair_moves ⟨by decide +kernel⟩ (State.modBdg_moves ⟨by decide +kernel⟩ h)

theorem haltPair_bdg : (haltPair s c).bdg = s.bdg := by
  rw [haltPair, State.raise_bdg, State.logEv_bdg]
  rfl

theorem haltDue_bdg : (haltDue s c).bdg.holds = s.bdg.holds ∧ (haltDue s c).bdg.wdg = s.bdg.wdg := by
  unfold haltDue State.onIf
  split
  · rw [haltPair_bdg]
    exact ⟨rfl, rfl⟩
  · exact ⟨rfl, rfl⟩

theorem haltPair_grows : Grows s (haltPair s c) := ((Grows.refl s).put.logEv).log (State.raise_log _ _ _)

theorem haltDue_grows : Grows s (haltDue s c) := (Grows.refl s).onIf fun u h =>
  (h.log (u := u.modBdg (fun b => { b with haltReq := b.haltReq - 2 ^ c.val })) rfl).trans haltPair_grows

theorem wdgRestart_log {w : Fin 3} : (wdgRestart s w).log = s.log := rfl

theorem exec_corePairRestart (hheld : s.dev.held = false) (hhold : s.bdg.holds.testBit c.val = true) (hunit : s.get BDG_STATE_unit ≠ 2) :
    exec (.corePairRestart c) s = .next (haltDue (pairBack s c) c) := by
  have hgo : (!s.bdg.holds.testBit c.val || s.get BDG_STATE_unit == 2) = false := by simp [hhold, hunit]
  change execCorePairRestart c s = _
  rw [execCorePairRestart, live_run s hheld, hgo, if_neg Bool.false_ne_true]
  rfl

theorem pairBack_wf (hs : s.wf = true) : (pairBack s c).wf = true :=
  State.owlRec_wf _ _ _ _ (State.logEv_wf _ _ _ (putBit_wf (s := holdEnded s c) hs))

theorem pairBack_restored (hs : s.wf = true) : (pairBack s c).getBit PRT_LS_STAT_restored c.val = true := by
  have hbit : ((holdEnded s c).putBit PRT_LS_STAT_restored c.val true).wf = true := putBit_wf (s := holdEnded s c) hs
  have hlog : (((holdEnded s c).putBit PRT_LS_STAT_restored c.val true).logEv 0x4025 [c.val]).wf = true := State.logEv_wf _ _ _ hbit
  have hrec := get_of_untouched (f := PRT_LS_STAT_restored) (i := 0) (j := 0) (State.owlRec_moves (x1 := 0x11) (x2 := 3) (x3 := [c.val])
    ⟨Nat.and_self _⟩ (.refl (a := wdgRestart (((holdEnded s c).putBit PRT_LS_STAT_restored c.val true).logEv 0x4025 [c.val])
      ⟨c.val, by omega⟩))) hlog (by decide +kernel) (by decide +kernel)
  have hsame : (wdgRestart (((holdEnded s c).putBit PRT_LS_STAT_restored c.val true).logEv 0x4025 [c.val]) ⟨c.val, by omega⟩).get
      PRT_LS_STAT_restored = ((holdEnded s c).putBit PRT_LS_STAT_restored c.val true).get PRT_LS_STAT_restored :=
    logEv_get_of_untouched hbit (by decide +kernel)
  rw [State.getBit, pairBack, hrec, hsame]
  exact getBit_putBit (s := holdEnded s c) hs (Nat.lt_trans c.isLt (by decide))

theorem corePairRestart_shows (hs : s.wf = true) (hheld : s.dev.held = false) (hhold : s.bdg.holds.testBit c.val = true)
    (hunit : s.get BDG_STATE_unit ≠ 2) : ∃ t, exec (.corePairRestart c) s = .next t ∧
      t.bdg.holds = s.bdg.holds - 2 ^ c.val ∧ t.getBit PRT_LS_STAT_restored c.val = true ∧
      t.bdg.wdg[(⟨c.val, by omega⟩ : Fin 3)] = ⟨s.now, true⟩ ∧ Logged s t 0x4025 [c.val] ∧
      (s.bdg.haltReq.testBit c.val = true → (0x1E, c.val) ∈ t.inflight) := by
  obtain ⟨hholds, hwdg⟩ := haltDue_bdg (s := pairBack s c) (c := c)
  have hlogged : Logged s (pairBack s c) 0x4025 [c.val] :=
    Logged.grows (logged_of (u := (holdEnded s c).putBit PRT_LS_STAT_restored c.val true) rfl) (Grows.log (.refl _) wdgRestart_log).owlRec
  refine ⟨_, exec_corePairRestart hheld hhold hunit, ?_, ?_, ?_, Logged.grows hlogged haltDue_grows, fun hreq => ?_⟩
  · rw [hholds, pairBack_bdg]
  · rw [State.getBit, haltDue_moves.same (pairBack_wf hs) _ _ _ (by decide +kernel)]
    exact pairBack_restored hs
  · rw [hwdg, pairBack_bdg]
    exact vupd_same _ _ _
  · have hask : (pairBack s c).bdg.haltReq.testBit c.val = true := by
      rw [pairBack_bdg]
      exact hreq
    rw [haltDue, hask, State.onIf_true, haltPair, State.raise_inflight]
    exact List.mem_append_right _ List.mem_cons_self

end cores

/-! ### Badger's clock and its own supply (R321, R322, R329) -/

section island
variable {s : State} {edges : Nat}

/-- A count of CKB's edges is shown. -/
def ckbShown (s : State) (bad : Bool) : State :=
  (s.putB CLK_STATUS_ckb_ok (!bad)).modBdg (fun b => { b with
    clkBad := if bad then b.clkBad ||| 256 else if s.bdg.clkBad.testBit 8 then b.clkBad - 256 else b.clkBad })

theorem exec_ckbMonitor (hheld : s.dev.held = false) {bad : Bool} (hbad : (decide (edges < 75) || decide (125 < edges)) = bad) :
    exec (.ckbMonitor edges) s = .next ((ckbShown s bad).onIf (bad && !s.bdg.clkBad.testBit 8) (fun s => s.raise 8 edges)) := by
  subst hbad
  change execCkbMonitor edges s = _
  rw [execCkbMonitor, live_run s hheld]
  rfl

theorem ckbMonitor_good (hs : s.wf = true) (hheld : s.dev.held = false) (hlo : 75 ≤ edges) (hhi : edges ≤ 125) :
    ∃ t, exec (.ckbMonitor edges) s = .next t ∧ t.get CLK_STATUS_ckb_ok = 1 ∧ t.bdg.clkBad.testBit 8 = false ∧ t.inflight = s.inflight := by
  have hgood : (decide (edges < 75) || decide (125 < edges)) = false := by simp; omega
  exact ⟨_, exec_ckbMonitor hheld hgood, get_putB hs rfl, testBit_released s.bdg.clkBad 8, rfl⟩

theorem ckbMonitor_bad (hs : s.wf = true) (hheld : s.dev.held = false) (h : edges < 75 ∨ 125 < edges) :
    ∃ t, exec (.ckbMonitor edges) s = .next t ∧ t.get CLK_STATUS_ckb_ok = 0 ∧ t.bdg.clkBad.testBit 8 = true ∧
      (s.bdg.clkBad.testBit 8 = false → t.inflight = s.inflight ++ [(8, edges)]) := by
  have hbad : (decide (edges < 75) || decide (125 < edges)) = true := by simpa using h
  have hset : (s.bdg.clkBad ||| 256).testBit 8 = true := by simp [Nat.testBit_or]; exact .inr (by decide)
  refine ⟨_, exec_ckbMonitor hheld hbad, ?_, ?_, fun hwas => ?_⟩
  · unfold State.onIf
    split <;> exact get_putB hs rfl
  · unfold State.onIf
    split <;> exact hset
  · rw [hwas]
    rfl

theorem ckbTrim_shows (hheld : s.dev.held = false) :
    ∃ t, exec .ckbTrim s = .next t ∧ t.bdg.ckbTrim = Config.otpTrim 16 s.bdg.scv1 ∧ t.regs = s.regs :=
  ⟨_, live_run (f := fun s => s.modBdg (fun b => { b with ckbTrim := Config.otpTrim 16 b.scv1 })) s hheld, rfl, rfl⟩

/-- The outputs and the parameters' check value go to their fail-safe levels (R329). -/
def islandLow (s : State) : State :=
  ((safeEnLow (safeEnLow (s.put BDG_STATE_fault_n 0) 0) 1).modTls (fun t => { t with xlOut := false })).put BDG_PARAM_CRC_crc 0

/-- The island's records are dropped. -/
def islandCleared (s : State) : State :=
  let s := (s.put BDG_MB_REQ_go 0).put BDG_MB_STAT_busy 0
  let s := s.forN 6 (fun w s => s.put BDG_FSTATw_src 0 w)
  s.modBdg (fun b => { b with
    block := none, staged := none, counts := [], payloads := [], divRun := 0, divNow := false, reply := none, pulse := none,
    tm := Vector.replicate 4 ⟨0, 0, none, 0, 0, [], []⟩, wdg := Vector.replicate 3 ⟨s.now, true⟩, lastHold := Vector.replicate 7 none })

theorem islandCleared_moves : Moves (maskOf [BDG_MB_REQ_go, BDG_MB_STAT_busy, BDG_FSTATw_src] [Part.bdg]) s (islandCleared s) := by
  unfold islandCleared
  extract_lets u v
  have hu : Moves (maskOf [BDG_MB_REQ_go, BDG_MB_STAT_busy, BDG_FSTATw_src] [Part.bdg]) s u :=
    State.put_moves (.inr (by decide +kernel)) (State.put_moves (.inr (by decide +kernel)) .refl)
  exact State.modBdg_moves ⟨by decide +kernel⟩ (State.forN_moves hu fun _ _ h => State.put_moves (.inr (by decide +kernel)) h)

theorem islandCleared_block : (islandCleared s).bdg.block = none := rfl

theorem exec_bdgUndervoltReset (hheld : s.dev.held = false) : exec .bdgUndervoltReset s = .next (islandCleared (islandLow s)) := by
  change execBdgUndervoltReset s = _
  rw [execBdgUndervoltReset, live_run s hheld]
  rfl

theorem islandLow_shows (hs : s.wf = true) : (islandLow s).wf = true ∧ (islandLow s).get BDG_STATE_fault_n = 0 ∧
    (islandLow s).get BDG_STATE_safe_en0 = 0 ∧ (islandLow s).get BDG_STATE_safe_en1 = 0 ∧ (islandLow s).get BDG_PARAM_CRC_crc = 0 ∧
    (islandLow s).get BDG_STATE_unit = s.get BDG_STATE_unit ∧ (islandLow s).get BDG_STATE_dev_cause = s.get BDG_STATE_dev_cause := by
  have hfault : (s.put BDG_STATE_fault_n 0).wf = true := State.put_wf hs
  have hen0 : ((s.put BDG_STATE_fault_n 0).put BDG_STATE_safe_en0 0).wf = true := State.put_wf hfault
  have hen1 : (((s.put BDG_STATE_fault_n 0).put BDG_STATE_safe_en0 0).put BDG_STATE_safe_en1 0).wf = true := State.put_wf hen0
  have hget : ∀ f : Fld, (islandLow s).get f = ((((s.put BDG_STATE_fault_n 0).put BDG_STATE_safe_en0 0).put BDG_STATE_safe_en1 0).put
      BDG_PARAM_CRC_crc 0).get f := fun _ => rfl
  refine ⟨State.put_wf hen1, ?_, ?_, ?_, ?_, ?_, ?_⟩
  · rw [hget, State.get_put_ne hen1 (by decide), State.get_put_ne hen0 (by decide), State.get_put_ne hfault (by decide),
      State.get_put_same hs]
    rfl
  · rw [hget, State.get_put_ne hen1 (by decide), State.get_put_ne hen0 (by decide), State.get_put_same hfault]
    rfl
  · rw [hget, State.get_put_ne hen1 (by decide), State.get_put_same hen0]
    rfl
  · rw [hget, State.get_put_same hen1]
    rfl
  · rw [hget, State.get_put_ne hen1 (by decide), State.get_put_ne hen0 (by decide), State.get_put_ne hfault (by decide),
      State.get_put_ne hs (by decide)]
  · rw [hget, State.get_put_ne hen1 (by decide), State.get_put_ne hen0 (by decide), State.get_put_ne hfault (by decide),
      State.get_put_ne hs (by decide)]

theorem undervolt_shows (hs : s.wf = true) (hheld : s.dev.held = false) : ∃ t, exec .bdgUndervoltReset s = .next t ∧
    t.get BDG_STATE_fault_n = 0 ∧ t.get BDG_STATE_safe_en0 = 0 ∧ t.get BDG_STATE_safe_en1 = 0 ∧ t.get BDG_PARAM_CRC_crc = 0 ∧
    t.tls.xlOut = false ∧ t.bdg.block = none ∧ t.get BDG_STATE_unit = s.get BDG_STATE_unit ∧
    t.get BDG_STATE_dev_cause = s.get BDG_STATE_dev_cause := by
  obtain ⟨hwf, hfault, hen0, hen1, hcrc, hunit, hcause⟩ := islandLow_shows hs
  have hclear := islandCleared_moves (s := islandLow s)
  have htls : (islandCleared (islandLow s)).tls = (islandLow s).tls := hclear.part (p := .tls) (by decide +kernel)
  refine ⟨_, exec_bdgUndervoltReset hheld, ?_, ?_, ?_, ?_, ?_, islandCleared_block, ?_, ?_⟩
  · rw [hclear.same hwf _ _ _ (by decide +kernel), hfault]
  · rw [hclear.same hwf _ _ _ (by decide +kernel), hen0]
  · rw [hclear.same hwf _ _ _ (by decide +kernel), hen1]
  · rw [hclear.same hwf _ _ _ (by decide +kernel), hcrc]
  · rw [htls]
    rfl
  · rw [hclear.same hwf _ _ _ (by decide +kernel), hunit]
  · rw [hclear.same hwf _ _ _ (by decide +kernel), hcause]

end island

/-! ### SCV1's reading (R323, R475) -/

section reading
variable {s : State} {x : Int}

theorem exec_scvTdiodeRead (hheld : s.dev.held = false) : exec (.scvTdiodeRead x) s =
    .next ((scvCompared s x).onIf (decide (2560 ≤ x)) (fun s => bistShutOff (s.raise 0x12 1))) := by
  change execScvTdiodeRead x s = _
  rw [execScvTdiodeRead_eq, live_run s hheld]

theorem fresh_stage (u : State) (st : Nat) (h : Bool) : (fresh u st h).pwr.stage = st := rfl

theorem bistShow_pwr (u : State) (e : BistEnd) : (bistShow u e).pwr = u.pwr := rfl

theorem retPut_startReq (u : State) (off : Nat) (l : List Nat) : (retPut u off l).pwr.startReq = u.pwr.startReq := rfl

theorem recGood_startReq (u : State) : (u.modPwr (fun p => { p with recBad := false })).pwr.startReq = u.pwr.startReq := rfl

theorem bistStore_startReq (u : State) (k : Nat) (e : BistEnd) : (bistStore u k e).pwr.startReq = u.pwr.startReq := by
  unfold bistStore
  extract_lets
  rw [recGood_startReq, retPut_startReq]

theorem enterStandby_stage (h : s.pwr.startReq = none) : (enterStandby s).pwr.stage = 9 := by
  rw [enterStandby]
  simp only [h, State.put_pwr, fresh_stage]

/-- A shut-down BIST that ends with no start asked for leaves standby (R473). -/
theorem shutBistEnd_stage {e : BistEnd} (h : s.pwr.startReq = none) : (shutBistEnd s e).pwr.stage = 9 := by
  refine enterStandby_stage ?_
  rw [State.logEv_pwr, bistShow_pwr, bistStore_startReq, retCopy, retPut_startReq, h]

theorem scvTdiodeRead_ends (hheld : s.dev.held = false) (hx : 2560 ≤ x) (hst : s.pwr.stage = 8) (hreq : s.pwr.startReq = none) :
    ∃ t, exec (.scvTdiodeRead x) s = .next t ∧ t.pwr.stage = 9 := by
  have hpwr : (scvCompared s x).pwr = s.pwr := (scvCompared_moves ⟨Nat.and_self _⟩ .refl).part (p := .pwr) (by decide +kernel)
  have hstage : ((scvCompared s x).raise 0x12 1).pwr.stage = 8 := by rw [State.raise_pwr, hpwr, hst]
  refine ⟨_, exec_scvTdiodeRead hheld, ?_⟩
  rw [decide_eq_true hx, State.onIf_true, bistShutOff, if_pos hstage]
  refine shutBistEnd_stage ?_
  rw [State.raise_pwr, hpwr, hreq]

/-- What a reading leaves in the island (R323). -/
theorem scvCompared_shows (hs : s.wf = true) : (scvCompared s x).bdg.scv1 = x ∧ (scvCompared s x).bdg.ckbTrim = s.bdg.ckbTrim ∧
    (80 < |s.getS THM_TEMP_cv7 - x| → (scvCompared s x).bdg.divRun = s.bdg.divRun + 1 ∧
      (s.bdg.divRun = 9 → (0x10, 0) ∈ (scvCompared s x).inflight)) ∧
    (|s.getS THM_TEMP_cv7 - x| ≤ 80 → (scvCompared s x).bdg.divRun = 0) := by
  unfold scvCompared
  extract_lets u d n
  have hcv7 : u.getS THM_TEMP_cv7 = s.getS THM_TEMP_cv7 := congrArg (ofField 16) (State.get_put_ne hs (by decide))
  have hrun : u.bdg.divRun = s.bdg.divRun := rfl
  have hbdg : ((u.modBdg (fun b => { b with divRun := n, divNow := d })).onIf (n == 10) (fun s => s.raise 0x10 0)).bdg =
      { u.bdg with divRun := n, divNow := d } := onIf_keeps State.bdg fun _ => State.raise_bdg _ _ _
  rw [hbdg]
  refine ⟨rfl, rfl, fun hfar => ?_, fun hnear => ?_⟩
  · have hn : n = s.bdg.divRun + 1 := by
      simp only [n, d, hcv7, hfar, decide_true, if_true, hrun]
    refine ⟨hn, fun hnine => ?_⟩
    rw [hn, hnine]
    exact List.mem_append_right _ List.mem_cons_self
  · simp only [n, d, hcv7, not_lt.mpr hnear, decide_false, Bool.false_eq_true, if_false]

/-- A BIST that ends leaves the island and what waits for it. -/
theorem bistShutOff_keeps (h : s.pwr.stage ≠ 8) : (bistShutOff s).bdg = s.bdg ∧ (bistShutOff s).inflight = s.inflight := by
  rw [bistShutOff, if_neg h]
  split <;> exact ⟨rfl, rfl⟩

theorem scvTdiodeRead_shows (hs : s.wf = true) (hheld : s.dev.held = false) (h : x < 2560 ∨ s.pwr.stage ≠ 8) :
    ∃ t, exec (.scvTdiodeRead x) s = .next t ∧ t.bdg.scv1 = x ∧ t.bdg.ckbTrim = s.bdg.ckbTrim ∧ (2560 ≤ x → (0x12, 1) ∈ t.inflight) ∧
      (80 < |s.getS THM_TEMP_cv7 - x| → t.bdg.divRun = s.bdg.divRun + 1 ∧ (s.bdg.divRun = 9 → (0x10, 0) ∈ t.inflight)) ∧
      (|s.getS THM_TEMP_cv7 - x| ≤ 80 → t.bdg.divRun = 0) := by
  obtain ⟨hscv, htrim, hfar, hnear⟩ := scvCompared_shows (x := x) hs
  refine ⟨_, exec_scvTdiodeRead hheld, ?_⟩
  by_cases hx : 2560 ≤ x
  · have hpwr : (scvCompared s x).pwr = s.pwr := (scvCompared_moves ⟨Nat.and_self _⟩ .refl).part (p := .pwr) (by decide +kernel)
    have hstage : ((scvCompared s x).raise 0x12 1).pwr.stage ≠ 8 := by
      rw [State.raise_pwr, hpwr]
      exact h.resolve_left (by omega)
    obtain ⟨hbdg, hway⟩ := bistShutOff_keeps hstage
    rw [decide_eq_true hx, State.onIf_true, hbdg, hway, State.raise_bdg, State.raise_inflight]
    exact ⟨hscv, htrim, fun _ => List.mem_append_right _ List.mem_cons_self,
      fun hd => ⟨(hfar hd).1, fun hn => List.mem_append_left _ ((hfar hd).2 hn)⟩, hnear⟩
  · rw [decide_eq_false hx, State.onIf_false]
    exact ⟨hscv, htrim, fun h => absurd h hx, hfar, hnear⟩

end reading

/-! ### The watchdogs (R325) -/

section watchdogs
variable {s : State} {a : Access} {w : Fin 3} {v : Nat}

theorem wdgTimeout_waits (hheld : s.dev.held = false) (h : s.now < s.bdg.wdg[w].last + (wdgWin s w).2) :
    exec (.wdgTimeout w) s = .next s := by
  change execWdgTimeout w s = _
  rw [execWdgTimeout, live_run s hheld, decide_eq_false (Nat.not_le.mpr h), State.onIf_false]

theorem wdgFault_shows (hs : s.wf = true) :
    (wdgFault s w).get BDG_WDG_STATc_miss_cnt w.val =
      min (s.get BDG_WDG_STATc_miss_cnt w.val + 1) (2 ^ BDG_WDG_STATc_miss_cnt.width - 1) ∧
    (wdgFault s w).inflight = s.inflight ++ [(0x20 + w.val, w.val)] ∧ Logged s (wdgFault s w) 0x4803 [w.val] := by
  obtain ⟨-, hcnt, hway, hlog⟩ := diffCounted_shows (n := w.val) (f := BDG_WDG_STATc_miss_cnt) (code := 0x4803) hs (by decide +kernel)
  have hfault : wdgFault s w = (diffCounted s BDG_WDG_STATc_miss_cnt 0x4803 w.val).raise (0x20 + w.val) w.val := rfl
  rw [hfault]
  exact ⟨hcnt, by rw [State.raise_inflight, hway], hlog⟩

theorem wdgTimeout_faults (hs : s.wf = true) (hheld : s.dev.held = false) (h : s.bdg.wdg[w].last + (wdgWin s w).2 ≤ s.now) :
    ∃ t, exec (.wdgTimeout w) s = .next t ∧
      t.get BDG_WDG_STATc_miss_cnt w.val = min (s.get BDG_WDG_STATc_miss_cnt w.val + 1) (2 ^ BDG_WDG_STATc_miss_cnt.width - 1) ∧
      t.inflight = s.inflight ++ [(0x20 + w.val, w.val)] ∧ Logged s t 0x4803 [w.val] := by
  have hexec : exec (.wdgTimeout w) s = .next (wdgFault s w) := by
    change execWdgTimeout w s = _
    rw [execWdgTimeout, live_run s hheld, decide_eq_true h, State.onIf_true]
  exact ⟨_, hexec, wdgFault_shows hs⟩

/-- The register through which a watchdog is kicked. -/
def kickReg : Reg := ⟨"BDG_WDG_KICKc", 0x40480010, 3, 0x8, 1, 0, [BDG_WDG_KICKc_key]⟩

theorem preWrite_kick {u t : State} : preWrite u t a ⟨kickReg, w.val, 0, v⟩ = vPass := by
  simp [preWrite, blockOf, kickReg]

/-- The key is not stored: the write is the kick (R325). -/
theorem exec_wdgKick (hadm : Admits s a) : exec (.wdgKick a w v) s =
    .next ((wdgKick s w (v % 65536) (wdgOf a.ini == w.val)).answer a.ini .none) := by
  obtain ⟨⟨hheld, -⟩, hp, hlock, hc⟩ := hadm
  have hreg : regOf (BDG_WDG_KICKc_key.at w.val 0) = some (kickReg, w.val, 0) := regOf_BDG_WDG_KICKc w
  have hbus : busAddr (BDG_WDG_KICKc_key.at w.val 0) = true := by fin_cases w <;> rfl
  have happly : applyWr s ⟨kickReg, w.val, 0, v % 2 ^ 32⟩ [] = s := rfl
  have hkey : (⟨kickReg, w.val, 0, v % 2 ^ 32⟩ : Wr).bits BDG_WDG_KICKc_key = v % 65536 := by
    change v % 2 ^ 32 / 2 ^ 0 % 2 ^ 16 = _
    omega
  have hdog : (⟨w.val % 3, Nat.mod_lt _ (by omega)⟩ : Fin 3) = w := Fin.ext (Nat.mod_eq_of_lt w.isLt)
  change wrFld s a BDG_WDG_KICKc_key w.val 0 v = _
  rw [wrFld, live_run s hheld, busWrite_reg hc hp hbus hreg rfl, writeReg_open hlock, preWrite_kick]
  simp only [vPass, List.isEmpty_nil, if_true, happly, postWrite_BDG_WDG_KICKc (w := ⟨kickReg, w.val, 0, v % 2 ^ 32⟩) rfl, hkey, hdog]
  rfl

/-- A kick in its time, by its initiator and with its key starts the watchdog anew. -/
theorem wdgKick_taken (hadm : Admits s a) (hown : wdgOf a.ini = w.val) (htime : s.bdg.wdg[w].last + (wdgWin s w).1 ≤ s.now)
    (hkey : v % 65536 = 0xFFFF - s.get BDG_WDG_STATc_token w.val) : ∃ t, exec (.wdgKick a w v) s = .next t ∧
      t.bdg.wdg[w].last = s.now ∧ t.get BDG_WDG_STATc_token w.val = s.freeVal % 2 ^ 16 ∧ t.inflight = s.inflight := by
  have hs := hadm.1.2
  have hgood : (!(wdgOf a.ini == w.val) || decide (s.now < s.bdg.wdg[w].last + (wdgWin s w).1) ||
      v % 65536 % 65536 != 0xFFFF - s.get BDG_WDG_STATc_token w.val) = false := by
    rw [hown, decide_eq_false (Nat.not_lt.mpr htime), ← hkey]
    simp
  have hkick : wdgKick s w (v % 65536) (wdgOf a.ini == w.val) =
      ((s.modBdg (fun b => { b with wdg := vupd b.wdg w (fun w => { w with last := s.now }) })).put BDG_WDG_STATc_token
        (s.modBdg (fun b => { b with wdg := vupd b.wdg w (fun w => { w with last := s.now }) })).freeVal w.val).freeNext := by
    simp only [wdgKick, hgood]
    rfl
  refine ⟨_, exec_wdgKick hadm, ?_, ?_, ?_⟩
  · rw [hkick]
    exact congrArg WdgSt.last (vupd_same s.bdg.wdg w _)
  · rw [hkick]
    exact State.get_put_same (s := s.modBdg _) hs
  · rw [hkick]
    rfl

/-- An early kick is a fault, and starts nothing. -/
theorem wdgKick_early (hadm : Admits s a) (htime : s.now < s.bdg.wdg[w].last + (wdgWin s w).1) : ∃ t, exec (.wdgKick a w v) s = .next t ∧
    t.inflight = s.inflight ++ [(0x20 + w.val, w.val)] ∧ t.bdg.wdg[w] = s.bdg.wdg[w] ∧
    t.get BDG_WDG_STATc_token w.val = s.get BDG_WDG_STATc_token w.val := by
  have hs := hadm.1.2
  have hkick : wdgKick s w (v % 65536) (wdgOf a.ini == w.val) = wdgFault s w := by
    simp only [wdgKick, decide_eq_true htime, Bool.or_true, Bool.true_or, if_true]
  obtain ⟨-, hway, -⟩ := wdgFault_shows (w := w) hs
  have hmoves := wdgFault_moves (x1 := w) ⟨Nat.and_self _⟩ (.refl (a := s))
  have hbdg : (wdgFault s w).bdg = s.bdg := hmoves.part (p := .bdg) (by decide +kernel)
  refine ⟨_, exec_wdgKick hadm, ?_, ?_, ?_⟩
  · rw [hkick]
    exact hway
  · rw [hkick]
    exact congrArg (fun b : BdgSt => b.wdg[w]) hbdg
  · rw [hkick, State.answer_get, hmoves.same hs _ _ _ (by decide +kernel)]

end watchdogs

end Sys2Proof.Proofs
end

section
/-! PROOF. A source that arrives at the fault collection unit (R332, R333 in O23). -/

namespace Sys2Proof.Proofs

open Sys2Proof Sys2Proof.Machine Sys2Proof.Safety

/-! ### What a reaction leaves alone -/

/-- What no reaction changes: the links beside their choppers' notes, a replay, and the counts of the sources; and the intake only
grows. -/
def Reacts (s t : State) : Prop := still t = still s ∧ t.bdg.counts = s.bdg.counts ∧ Grows s t

section reactions
variable {s t u : State} {n : Ch} {src payload lvl c : Nat} {e : Fin 7}

theorem Reacts.refl : Reacts s s := ⟨rfl, rfl, .refl s⟩

theorem Reacts.trans (h : Reacts s t) (k : Reacts t u) : Reacts s u := by
  obtain ⟨hs, hc, hg⟩ := h
  obtain ⟨ks, kc, kg⟩ := k
  exact ⟨ks.trans hs, kc.trans hc, hg.trans kg⟩

theorem Reacts.put {f : Fld} {v i j : Nat} (h : Reacts s t) : Reacts s (t.put f v i j) := h

theorem Reacts.modBdg {f : BdgSt → BdgSt} (h : Reacts s t) (hf : ∀ b, (f b).counts = b.counts) : Reacts s (t.modBdg f) := by
  obtain ⟨hs, hc, hg⟩ := h
  exact ⟨hs, (hf _).trans hc, hg⟩

theorem Reacts.modTls {f : TlsSt → TlsSt} (h : Reacts s t) : Reacts s (t.modTls f) := h

theorem Reacts.logEv {k : Nat} {l : List Nat} (h : Reacts s t) : Reacts s (t.logEv k l) :=
  h.trans ⟨still_logEv k l, by rw [State.logEv_bdg], logEv_grows t k l⟩

theorem Reacts.onIf {b : Bool} {f : State → State} (h : Reacts s t) (hf : ∀ v, Reacts s v → Reacts s (f v)) : Reacts s (t.onIf b f) :=
  onIf_rule h fun _ v hv => hf v hv

theorem Reacts.forL {α : Type} {l : List α} {f : α → State → State} (h : Reacts s t) (hf : ∀ x v, Reacts s v → Reacts s (f x v)) :
    Reacts s (t.forL l f) := forL_rule h fun x _ v hv => hf x v hv

theorem enterStop_grows (s : State) (n : Ch) (cause : Nat) (safety : Bool) : Grows s (enterStop s n cause safety) :=
  (((Grows.refl s).onIf fun _ h => h.put).trans (setState_grows _ n 4 cause)).putB.put.modFld

theorem chSafeReaction_reacts : Reacts s (chSafeReaction s n src) := by
  refine ⟨chSafeReaction_still n src,
    congrArg BdgSt.counts ((chSafeReaction_moves ⟨Nat.and_self _⟩ .refl).part (p := .bdg) (by decide +kernel)), ?_⟩
  unfold chSafeReaction
  split
  · exact enterStop_grows _ _ _ _
  · exact safeRequest_grows _ _ _

theorem reactions_react {l : List Ch} (h : Reacts s t) : Reacts s (t.forL l fun n s => chSafeReaction s n src) :=
  h.forL fun _ _ k => k.trans chSafeReaction_reacts

theorem Reacts.safeEnLow {i : Nat} (h : Reacts s t) : Reacts s (safeEnLow t i) := h

theorem Reacts.safeEnUpdate (h : Reacts s t) : Reacts s (safeEnUpdate t) := by
  unfold Machine.safeEnUpdate
  split
  · exact h
  · exact h.forL fun _ _ k => k.onIf fun _ k => k.safeEnLow

/-- The unit's state and cause when it fails (R333). -/
def unitRaised (s : State) (src lvl : Nat) : State :=
  (s.forL (List.finRange 4) (fun n s => chSafeReaction s n src)).onIf
    ((s.forL (List.finRange 4) (fun n s => chSafeReaction s n src)).get BDG_STATE_unit < lvl)
    (fun s => (s.put BDG_STATE_unit lvl).put BDG_STATE_dev_cause src)

/-- The failure is logged, the source kept asserted, XL_OUT stopped. -/
def unitTold (s : State) (src lvl : Nat) : State :=
  ((s.logEv 0x4802 [src, lvl]).modBdg (fun b => { b with stuck := if b.stuck.contains src then b.stuck else b.stuck ++ [src] })).modTls
    (fun t => { t with xlOut := false })

/-- In DEV_SAFE both pairs are held, and SAFE_EN falls. -/
def devHeld (s : State) (src : Nat) : State :=
  let s := s.modBdg (fun b => { b with holds := b.holds ||| 3 })
  if dropsSafeEn src then safeEnLow (safeEnLow s 0) 1 else safeEnUpdate s

theorem unitReact_eq : unitReact s src lvl =
    if lvl = 2 then devHeld (unitTold (unitRaised s src lvl) src lvl) src else unitTold (unitRaised s src lvl) src lvl := rfl

theorem Reacts.unitTold (h : Reacts s t) : Reacts s (unitTold t src lvl) := by
  refine Reacts.modTls (Reacts.modBdg h.logEv ?_)
  exact fun _ => rfl

theorem unitReact_reacts : Reacts s (unitReact s src lvl) := by
  have hraised : Reacts s (unitRaised s src lvl) := (reactions_react .refl).onIf fun _ h => h.put.put
  have htold : Reacts s (unitTold (unitRaised s src lvl) src lvl) := hraised.unitTold
  rw [unitReact_eq]
  split
  · unfold devHeld
    extract_lets u
    have hu : Reacts s u := htold.modBdg fun _ => rfl
    split
    · exact hu.safeEnLow.safeEnLow
    · exact hu.safeEnUpdate
  · exact htold

theorem escalate_reacts : Reacts s (escalate s e src payload) := by
  unfold escalate
  split
  · exact Reacts.refl.modBdg fun _ => rfl
  · split
    · exact unitReact_reacts
    · exact reactions_react .refl

theorem holdElem_reacts : Reacts s (holdElem s e src payload) := by
  unfold holdElem
  split
  · exact Reacts.refl.onIf fun _ h => h.trans escalate_reacts
  · split
    · exact escalate_reacts
    · extract_lets u
      have hu : Reacts s u := Reacts.refl.modBdg fun _ => rfl
      split
      · exact hu
      · exact hu

theorem faultAct_reacts : Reacts s (faultAct s c src payload) := by
  unfold faultAct
  split
  · exact .refl
  · split
    · split
      · exact holdElem_reacts
      · exact .refl
    · exact .refl
  · exact reactions_react .refl
  · exact unitReact_reacts
  · exact unitReact_reacts

/-! ### The states of the channels and of the unit (R333) -/

/-- What a reaction of class CH_SAFE leads a channel to. -/
def reactionEnd (s : State) (n : Ch) : Nat := if s.chState n.val = 3 ∧ s.get CHn_SAFECFG_ch_safe_ss n.val = 1 then 4 else 6

theorem reactionEnd_ne (s : State) (n : Ch) : reactionEnd s n ≠ 5 := by
  unfold reactionEnd
  split <;> decide

theorem reactionEnd_of_moves {m : Nat} (h : Moves m s t) (hs : s.wf = true) (hst : (m.testBit 0 || touches m CHn_STATE_state) = false)
    (hss : (m.testBit 0 || touches m CHn_SAFECFG_ch_safe_ss) = false) (n : Ch) : reactionEnd t n = reactionEnd s n := by
  unfold reactionEnd State.chState
  rw [h.same hs _ _ _ hst, h.same hs _ _ _ hss]

theorem chSafeReaction_ss (hs : s.wf = true) (i : Nat) :
    (chSafeReaction s n src).get CHn_SAFECFG_ch_safe_ss i = s.get CHn_SAFECFG_ch_safe_ss i :=
  (chSafeReaction_moves ⟨Nat.and_self _⟩ .refl).same hs _ _ _ (by decide +kernel)

theorem chSafeReaction_wf (hs : s.wf = true) : (chSafeReaction s n src).wf = true := (chSafeReaction_moves ⟨Nat.and_self _⟩ .refl).wf hs

/-- A channel that another one's reaction concerns ends where its own leads. -/
theorem reactionEnd_other {k : Ch} (hs : s.wf = true) (hk : k ≠ n) : reactionEnd (chSafeReaction s n src) k = reactionEnd s k := by
  have hother := (chSafeReaction_chState (n := n) (cause := src) hs).2 k hk
  unfold reactionEnd
  rw [chSafeReaction_ss hs]
  rcases hother with h | ⟨h5, h6⟩
  · rw [h]
  · rw [h5, h6]
    rfl

/-- A channel that is in no discharge and has no turn keeps its state. -/
theorem reactions_keep {k : Ch} {l : List Ch} (hs : s.wf = true) (hk : k ∉ l) (h5 : s.chState k.val ≠ 5) :
    (s.forL l fun n s => chSafeReaction s n src).chState k.val = s.chState k.val := by
  unfold State.forL
  induction l generalizing s with
  | nil => rfl
  | cons m l ih =>
    have hne : k ≠ m := fun e => hk (by rw [e]; exact List.mem_cons_self)
    have hsame : (chSafeReaction s m src).chState k.val = s.chState k.val :=
      ((chSafeReaction_chState (n := m) (cause := src) hs).2 k hne).resolve_right fun h => h5 h.1
    exact (ih (chSafeReaction_wf hs) (fun h => hk (List.mem_cons_of_mem _ h)) (by rw [hsame]; exact h5)).trans hsame

/-- Every channel of a list ends where its reaction leads. -/
theorem reactions_chState {k : Ch} {l : List Ch} (hs : s.wf = true) (hl : l.Nodup) (hk : k ∈ l) :
    (s.forL l fun n s => chSafeReaction s n src).chState k.val = reactionEnd s k := by
  unfold State.forL
  induction l generalizing s with
  | nil => cases hk
  | cons m l ih =>
    obtain ⟨hm, hnodup⟩ := List.nodup_cons.mp hl
    by_cases hkm : k = m
    · subst hkm
      have hown : (chSafeReaction s k src).chState k.val = reactionEnd s k := (chSafeReaction_chState hs).1
      exact (reactions_keep (chSafeReaction_wf hs) hm (by rw [hown]; exact reactionEnd_ne s k)).trans hown
    · rw [← reactionEnd_other (src := src) hs hkm]
      exact ih (chSafeReaction_wf hs) hnodup ((List.mem_cons.mp hk).resolve_left hkm)

/-- What the unit's failure shows. -/
theorem unitRaised_shows (hs : s.wf = true) (hlvl : lvl < 4) : (unitRaised s src lvl).wf = true ∧
    (∀ k : Ch, (unitRaised s src lvl).chState k.val = reactionEnd s k) ∧ lvl ≤ (unitRaised s src lvl).get BDG_STATE_unit ∧
    (s.get BDG_STATE_unit < lvl → (unitRaised s src lvl).get BDG_STATE_unit = lvl ∧
      (unitRaised s src lvl).get BDG_STATE_dev_cause = src % 256) := by
  have hmoves : Moves _ s (s.forL (List.finRange 4) fun n s => chSafeReaction s n src) :=
    State.forL_moves .refl fun _ _ h => chSafeReaction_moves ⟨Nat.and_self _⟩ h
  have hall : ∀ k : Ch, (s.forL (List.finRange 4) fun n s => chSafeReaction s n src).chState k.val = reactionEnd s k := fun k =>
    reactions_chState hs (List.nodup_finRange 4) (List.mem_finRange k)
  have hunit := hmoves.same hs BDG_STATE_unit 0 0 (by decide +kernel)
  have hwf := hmoves.wf hs
  rw [unitRaised]
  generalize (s.forL (List.finRange 4) fun n s => chSafeReaction s n src) = u at hwf hall hunit ⊢
  have hput : (u.put BDG_STATE_unit lvl).wf = true := State.put_wf hwf
  have hset : ((u.put BDG_STATE_unit lvl).put BDG_STATE_dev_cause src).get BDG_STATE_unit = lvl := by
    rw [State.get_put_ne hput (by decide), State.get_put_same hwf]
    exact Nat.mod_eq_of_lt hlvl
  by_cases hlt : u.get BDG_STATE_unit < lvl
  · rw [decide_eq_true hlt, State.onIf_true]
    exact ⟨State.put_wf hput, fun k => ((State.get_put_ne hput (by decide)).trans (State.get_put_ne hwf (by decide))).trans (hall k),
      hset.ge, fun _ => ⟨hset, State.get_put_same hput⟩⟩
  · rw [decide_eq_false hlt, State.onIf_false]
    exact ⟨hwf, hall, Nat.not_lt.mp hlt, fun h => absurd (hunit ▸ h) hlt⟩

/-- What follows the unit's failure reaches no channel. -/
theorem unitTold_moves : Moves (maskOf evFlds (evParts ++ [Part.bdg, Part.tls])) s (unitTold s src lvl) :=
  State.modTls_moves ⟨by decide +kernel⟩ (State.modBdg_moves ⟨by decide +kernel⟩ (State.logEv_moves ⟨by decide +kernel⟩ .refl))

theorem devHeld_moves : Moves (maskOf [BDG_STATE_safe_en1, BDG_STATE_safe_en0] [Part.bdg]) s (devHeld s src) := by
  unfold devHeld
  extract_lets u
  have hu : Moves (maskOf [BDG_STATE_safe_en1, BDG_STATE_safe_en0] [Part.bdg]) s u := State.modBdg_moves ⟨by decide +kernel⟩ .refl
  exact .ite (fun _ => safeEnLow_moves ⟨by decide +kernel⟩ (safeEnLow_moves ⟨by decide +kernel⟩ hu)) fun _ =>
    safeEnUpdate_moves ⟨by decide +kernel⟩ hu

theorem unitTold_xlOut : (unitTold s src lvl).tls.xlOut = false := rfl

/-- A reaction of class UNIT_FAIL or DEV_SAFE (R333). -/
theorem unitReact_shows (hs : s.wf = true) (hlvl : lvl < 4) : (∀ k : Ch, (unitReact s src lvl).chState k.val = reactionEnd s k) ∧
    lvl ≤ (unitReact s src lvl).get BDG_STATE_unit ∧ (unitReact s src lvl).tls.xlOut = false ∧
    (s.get BDG_STATE_unit < lvl → (unitReact s src lvl).get BDG_STATE_unit = lvl ∧
      (unitReact s src lvl).get BDG_STATE_dev_cause = src % 256) := by
  obtain ⟨hwf, hst, hle, hset⟩ := unitRaised_shows (src := src) hs hlvl
  have htold := unitTold_moves (s := unitRaised s src lvl) (src := src) (lvl := lvl)
  have hheld := devHeld_moves (s := unitTold (unitRaised s src lvl) src lvl) (src := src)
  have hend : ∃ m, Moves m (unitTold (unitRaised s src lvl) src lvl) (unitReact s src lvl) ∧ ∀ f ∈ [CHn_STATE_state, BDG_STATE_unit,
      BDG_STATE_dev_cause], (m.testBit 0 || touches m f) = false ∧ m.testBit (partBit .tls) = false := by
    rw [unitReact_eq]
    split
    · exact ⟨_, hheld, by decide +kernel⟩
    · exact ⟨0, .refl, by decide +kernel⟩
  obtain ⟨m, hlast, hm⟩ := hend
  have hget : ∀ f ∈ [CHn_STATE_state, BDG_STATE_unit, BDG_STATE_dev_cause], ∀ i,
      (unitReact s src lvl).get f i = (unitRaised s src lvl).get f i := fun f hf i =>
    (hlast.same (htold.wf hwf) f i 0 (hm f hf).1).trans (htold.same hwf f i 0 (by revert f; decide +kernel))
  have htls : (unitReact s src lvl).tls = (unitTold (unitRaised s src lvl) src lvl).tls :=
    hlast.part (p := .tls) (hm CHn_STATE_state List.mem_cons_self).2
  refine ⟨fun k => (hget _ (by decide) _).trans (hst k), ?_, ?_, fun h => ?_⟩
  · rw [hget _ (by decide)]
    exact hle
  · rw [htls, unitTold_xlOut]
  · rw [hget _ (by decide), hget _ (by decide)]
    exact hset h

end reactions

/-! ### The arrival -/

section arrival
variable {s t : State} {src payload c : Nat}

/-- A value that a store keeps is read back, whatever else the store holds. -/
theorem sget_sput_self {α : Type} [DecidableEq α] {d v : α} (hv : v ≠ d) (m : List (Nat × α)) (k : Nat) : sget d (sput d m k v) k = v := by
  induction m with
  | nil => simp [sput, sget, hv]
  | cons e m ih =>
    obtain ⟨k', v'⟩ := e
    rcases lt_trichotomy k k' with h | rfl | h
    · simp [sput, sget, hv, h]
    · simp [sput, sget, hv]
    · simp [sput, sget, h.not_gt, h.ne', ih]

/-- A source is recorded: its sticky bit, its count and its payload (R333). -/
def sourceRecorded (s : State) (src payload : Nat) : State :=
  (s.putBit BDG_FSTATw_src (src % 32) true (src / 32)).modBdg (fun b => { b with
    counts := sput 0 b.counts src (sget 0 b.counts src + 1), payloads := sput 0 b.payloads src payload })

/-- The source's event, record and triggers, and SAFE_EN (R331). -/
def sourceTold (s : State) (src c : Nat) : State :=
  (((((s.logEv 0x4801 [src, c]).irq 56).owlRec 0x0D 0 [src + 256 * (min c 4) + 2048]).onIf (2 ≤ c) (fun s => s.owlTrig 1)).onIf (3 ≤ c)
    (fun s => s.owlTrig 2)).onIf (dropsSafeEn src) (fun s => safeEnLow (safeEnLow s 0) 1)

theorem faultRecord_eq : faultRecord s src payload =
    sourceTold (sourceRecorded s src payload) src (classOf (sourceRecorded s src payload) src) := rfl

theorem sourceTold_moves : Moves (maskOf (evFlds ++ [BDG_STATE_safe_en1, BDG_STATE_safe_en0]) evParts) s (sourceTold s src c) :=
  State.onIf_moves (State.onIf_moves (State.onIf_moves (State.owlRec_moves ⟨by decide +kernel⟩ (State.irq_moves ⟨by decide +kernel⟩
    (State.logEv_moves ⟨by decide +kernel⟩ .refl))) fun _ h => State.owlTrig_moves ⟨by decide +kernel⟩ h) fun _ h =>
      State.owlTrig_moves ⟨by decide +kernel⟩ h) fun _ h => safeEnLow_moves ⟨by decide +kernel⟩ (safeEnLow_moves ⟨by decide +kernel⟩ h)

theorem sourceTold_grows : Grows (s.logEv 0x4801 [src, c]) (sourceTold s src c) :=
  (((Grows.refl _).irq.owlRec.onIf fun _ h => h.owlTrig).onIf fun _ h => h.owlTrig).onIf fun _ h => h.put.put

theorem sourceTold_still : still (sourceTold s src c) = still s := by
  refine (onIf_keeps still fun _ => ?_).trans ((onIf_keeps still fun _ => still_owlTrig _).trans ((onIf_keeps still fun _ =>
    still_owlTrig _).trans ((still_owlRec _ _ _).trans (still_logEv (s := s) _ _))))
  rfl

/-- Whether a link's starvation applies to a channel is a matter of the links' members and the channels' states (R304). -/
theorem classOf_congr (hb : t.bdg.block = s.bdg.block) (hm : ∀ l, members t l = members s l) (hc : ∀ n, t.chState n = s.chState n)
    (src : Nat) : classOf t src = classOf s src := by
  have happly : isStarved src = true → appliesTo t src 0 = appliesTo s src 0 := by
    intro h
    have hruns : t.chRuns = s.chRuns := funext fun n => by simp only [State.chRuns, hc]
    rcases (by simpa [isStarved] using h : src = 0x35 ∨ src = 0x3D) with h | h <;>
      simp only [h, appliesTo, hm, hb, hruns] <;> rfl
  unfold classOf
  rw [hb]
  by_cases h : isStarved src = true
  · rw [happly h]
  · simp only [h, Bool.false_and]

theorem sourceRecorded_moves : Moves (maskOf [BDG_FSTATw_src] [Part.bdg]) s (sourceRecorded s src payload) :=
  State.modBdg_moves ⟨by decide +kernel⟩ (State.put_moves (.inr (by decide +kernel)) .refl)

theorem members_of_moves {m : Nat} (h : Moves m s t) (hs : s.wf = true) (hm : (m.testBit 0 || touches m PRT_LNKl_CFG_members) = false)
    (l : Lnk) : members t l = members s l := by
  simp only [members, State.getBit, h.same hs _ _ _ hm]

theorem sourceRecorded_class (hs : s.wf = true) : classOf (sourceRecorded s src payload) src = classOf s src :=
  classOf_congr (s := s) (t := sourceRecorded s src payload) rfl (members_of_moves sourceRecorded_moves hs (by decide +kernel))
    (fun n => sourceRecorded_moves.same hs CHn_STATE_state n 0 (by decide +kernel)) src

theorem sourceRecorded_shows (hs : s.wf = true) :
    (sourceRecorded s src payload).getBit BDG_FSTATw_src (src % 32) (src / 32) = true ∧
    sget 0 (sourceRecorded s src payload).bdg.counts src = sget 0 s.bdg.counts src + 1 :=
  ⟨getBit_putBit hs (Nat.mod_lt _ (by decide)), sget_sput_self (Nat.succ_ne_zero _) _ _⟩

theorem faultArrive_eq : faultArrive s src payload = faultNShow (faultAct (sourceTold (sourceRecorded s src payload) src
    (classOf (sourceRecorded s src payload) src)) (classOf s src) src payload) := rfl

/-- What an arrival leaves recorded, whatever its class does. -/
theorem faultArrive_records (hs : s.wf = true) :
    (faultArrive s src payload).getBit BDG_FSTATw_src (src % 32) (src / 32) = true ∧
    sget 0 (faultArrive s src payload).bdg.counts src = sget 0 s.bdg.counts src + 1 ∧
    (faultArrive s src payload).owl.replay = s.owl.replay ∧
    (s.log.intake.length < 60 → (0x4801, [src, classOf s src]) ∈ (faultArrive s src payload).log.intake) := by
  obtain ⟨hbit, hcount⟩ := sourceRecorded_shows (src := src) (payload := payload) hs
  have hclass := sourceRecorded_class (src := src) (payload := payload) hs
  have hrec := sourceRecorded_moves (s := s) (src := src) (payload := payload)
  rw [faultArrive_eq, hclass]
  generalize sourceRecorded s src payload = r at hbit hcount hrec ⊢
  have hr := hrec.wf hs
  have htold := sourceTold_moves (s := r) (src := src) (c := classOf s src)
  have hgrows := sourceTold_grows (s := r) (src := src) (c := classOf s src)
  have hstill := sourceTold_still (s := r) (src := src) (c := classOf s src)
  generalize sourceTold r src (classOf s src) = u at htold hgrows hstill ⊢
  have hact := faultAct_moves (x1 := classOf s src) (x2 := src) (x3 := payload) ⟨Nat.and_self _⟩ (.refl (a := u))
  obtain ⟨hastill, hacount, hagrows⟩ := faultAct_reacts (s := u) (c := classOf s src) (src := src) (payload := payload)
  generalize faultAct u (classOf s src) src payload = v at hact hastill hacount hagrows ⊢
  have hshow := faultNShow_moves ⟨Nat.and_self _⟩ (.refl (a := v))
  have hv : v.wf = true := hact.wf (htold.wf hr)
  refine ⟨?_, ?_, ?_, fun hroom => ?_⟩
  · rw [State.getBit, hshow.same hv _ _ _ (by decide +kernel), hact.same (htold.wf hr) _ _ _ (by decide +kernel),
      htold.same hr _ _ _ (by decide +kernel)]
    exact hbit
  · have hbdg : u.bdg = r.bdg := htold.part (p := .bdg) (by decide +kernel)
    rw [faultNShow_bdg, hacount, hbdg, hcount]
  · have howl : (faultNShow v).owl = v.owl := hshow.part (p := .owl) (by decide +kernel)
    have hfirst : r.owl = s.owl := hrec.part (p := .owl) (by decide +kernel)
    rw [howl, replay_of_still hastill, replay_of_still hstill, hfirst]
  · have hend : (faultNShow v).log = v.log := hshow.part (p := .log) (by decide +kernel)
    have hfirst : r.log = s.log := hrec.part (p := .log) (by decide +kernel)
    rw [hend]
    exact hagrows _ (hgrows _ (logEv_mem (by rw [hfirst]; omega)))

/-- What an arrival of class UNIT_FAIL or above leads the unit and its channels to. -/
theorem faultArrive_fails (hs : s.wf = true) (hclass : 3 ≤ classOf s src) :
    1 ≤ (faultArrive s src payload).get BDG_STATE_unit ∧
    (∀ n : Ch, (faultArrive s src payload).chState n.val = reactionEnd s n) ∧ (faultArrive s src payload).tls.xlOut = false ∧
    (4 = classOf s src → s.get BDG_STATE_unit < 2 → (faultArrive s src payload).get BDG_STATE_unit = 2 ∧
      (faultArrive s src payload).get BDG_STATE_dev_cause = src % 256) := by
  have hlvl : ∃ lvl, lvl < 4 ∧ 1 ≤ lvl ∧ (4 = classOf s src → lvl = 2) ∧ ∀ u, faultAct u (classOf s src) src payload = unitReact u src lvl := by
    by_cases h3 : classOf s src = 3
    · exact ⟨1, by decide, by decide, by omega, fun u => by rw [h3]; rfl⟩
    · obtain ⟨k, hk⟩ : ∃ k, classOf s src = k + 4 := ⟨classOf s src - 4, by omega⟩
      exact ⟨2, by decide, by decide, fun _ => rfl, fun u => by rw [hk]; rfl⟩
  obtain ⟨lvl, hlt, hpos, hdev, hact⟩ := hlvl
  have hrec := sourceRecorded_moves (s := s) (src := src) (payload := payload)
  rw [faultArrive_eq, hact]
  generalize sourceRecorded s src payload = r at hrec ⊢
  have hr := hrec.wf hs
  have htold := sourceTold_moves (s := r) (src := src) (c := classOf r src)
  generalize sourceTold r src (classOf r src) = u at htold ⊢
  have hu := htold.wf hr
  have hend : ∀ n, reactionEnd u n = reactionEnd s n := fun n =>
    (reactionEnd_of_moves htold hr (by decide +kernel) (by decide +kernel) n).trans
      (reactionEnd_of_moves hrec hs (by decide +kernel) (by decide +kernel) n)
  have hunit : u.get BDG_STATE_unit = s.get BDG_STATE_unit :=
    (htold.same hr _ _ _ (by decide +kernel)).trans (hrec.same hs _ _ _ (by decide +kernel))
  obtain ⟨hst, hle, hxl, hset⟩ := unitReact_shows (src := src) hu hlt
  have hv : (unitReact u src lvl).wf = true := (unitReact_moves ⟨Nat.and_self _⟩ .refl).wf hu
  generalize unitReact u src lvl = v at hst hle hxl hset hv ⊢
  have hshow := faultNShow_moves ⟨Nat.and_self _⟩ (.refl (a := v))
  have htls : (faultNShow v).tls = v.tls := hshow.part (p := .tls) (by decide +kernel)
  have hsame : ∀ f ∈ [CHn_STATE_state, BDG_STATE_unit, BDG_STATE_dev_cause], ∀ i, (faultNShow v).get f i = v.get f i := fun f hf i =>
    hshow.same hv f i 0 (by revert f; decide +kernel)
  refine ⟨?_, fun n => ?_, ?_, fun h4 hlow => ?_⟩
  · rw [hsame _ (by decide)]
    exact hpos.trans hle
  · exact (hsame _ (by decide) _).trans ((hst n).trans (hend n))
  · rw [htls]
    exact hxl
  · rw [hdev h4, hunit] at hset
    rw [hsame _ (by decide), hsame _ (by decide)]
    exact hset hlow

theorem faultRaised_arrives {src : Fin 192} {m : Nat} (hs : s.wf = true) (hheld : s.dev.held = false) (hrep : s.owl.replay = none) :
    ∃ t, exec (.faultRaised src m) s = .next t ∧
      t.getBit BDG_FSTATw_src (src.val % 32) (src.val / 32) = true ∧
      sget 0 t.bdg.counts src.val = sget 0 s.bdg.counts src.val + 1 ∧
      (3 ≤ classOf s src.val → 1 ≤ t.get BDG_STATE_unit) ∧
      (3 ≤ classOf s src.val → ∀ n : Ch, if s.chState n.val = 3 ∧ s.get CHn_SAFECFG_ch_safe_ss n.val = 1
        then t.chState n.val = 4 else t.chState n.val = 6) ∧ (3 ≤ classOf s src.val → t.tls.xlOut = false) ∧
      (4 = classOf s src.val → s.get BDG_STATE_unit < 2 → t.get BDG_STATE_unit = 2 ∧ t.get BDG_STATE_dev_cause = src.val) ∧
      (s.log.intake.length < 60 → (0x4801, [src.val, classOf s src.val]) ∈ t.log.intake) := by
  generalize hv : ({ s with inflight := s.inflight.erase (src.val, m) } : State) = u
  have hu : u.wf = true := hv ▸ hs
  have hclass : classOf u src.val = classOf s src.val := hv ▸ rfl
  obtain ⟨hbit, hcount, hnone, hlog⟩ := faultArrive_records (src := src.val) (payload := m) hu
  have hexec : exec (.faultRaised src m) s = .next (faultArrive u src.val m) := by
    have hoff : (faultArrive u src.val m).owl.replay = none := by
      rw [hnone, ← hv]
      exact hrep
    change execFaultRaised src m s = _
    simp only [execFaultRaised, live_run s hheld, hv, hoff, Option.isSome_none, Bool.and_false, State.onIf_false]
  have hfail := fun h : 3 ≤ classOf s src.val => faultArrive_fails (src := src.val) (payload := m) hu (by rw [hclass]; exact h)
  subst hv
  refine ⟨_, hexec, hbit, hcount, fun h => (hfail h).1, fun h n => ?_, fun h => (hfail h).2.2.1, fun h hlow => ?_, hlog⟩
  · have hn := (hfail h).2.1 n
    have hend : reactionEnd ({ s with inflight := s.inflight.erase (src.val, m) } : State) n = reactionEnd s n := rfl
    rw [hn, hend, reactionEnd]
    split <;> rfl
  · obtain ⟨hunit, hcause⟩ := (hfail (by omega)).2.2.2 h hlow
    exact ⟨hunit, hcause.trans (Nat.mod_eq_of_lt (by omega))⟩

end arrival

/-- Settles O23. -/
theorem lockstepAndBadger : Obligations.LockstepAndBadger := by
  rintro s a p e rp rq par q1 q2 c w m d edges v x smp b src ⟨hheld, hs⟩
  exact ⟨fun hst => ⟨_, live_run (f := fun s => badgerEval s smp) s hheld, badgerEval_staged hs hst⟩,
    fun hst => ⟨_, live_run (f := fun s => badgerEval s smp) s hheld, badgerEval_unstaged hs hst⟩,
    fun hdiff hcmp hp => mismatch_counts hs hheld hdiff hcmp hp,
    fun hdiff hp => mismatch_badger hheld hdiff hp,
    fun h => ⟨_, mismatch_none hheld h, rfl⟩,
    fun h1 h2 => selftest_passes hs hheld h1 h2,
    fun h => selftest_fails hs hheld h,
    fun hne hcmp => digest_differs hs hheld hne hcmp,
    fun h => ⟨_, digest_same hheld h, rfl⟩,
    fun hhold hunit => corePairRestart_shows hs hheld hhold hunit,
    fun hopen hst hhold => debugHalt_waits hheld hopen hst hhold,
    fun hopen hst hhold => debugHalt_breaks hs hheld hopen hst hhold,
    fun hst => ⟨_, debugHalt_shut hheld hst, rfl⟩,
    fun hlo hhi => ckbMonitor_good hs hheld hlo hhi,
    fun h => ckbMonitor_bad hs hheld h,
    ckbTrim_shows hheld,
    undervolt_shows hs hheld,
    fun hx hst hreq => scvTdiodeRead_ends hheld hx hst hreq,
    fun h => scvTdiodeRead_shows hs hheld h,
    fun h => ⟨_, wdgTimeout_waits hheld h, rfl⟩,
    fun h => wdgTimeout_faults hs hheld h,
    fun hadm hown htime hkey => wdgKick_taken hadm hown htime hkey,
    fun hadm htime => wdgKick_early hadm htime,
    fun hrep => faultRaised_arrives hs hheld hrep⟩

end Sys2Proof.Proofs
end

section
/-! PROOF. Precharge and discharge of a link (R292, R295 in O22): the members follow the link, and the intake has room for the link's
event after theirs. -/

namespace Sys2Proof.Proofs

open Sys2Proof Sys2Proof.Machine Sys2Proof.Safety

/-! ### The members follow -/

/-- Those of the channels that are in state `old` change to `new`. -/
def follow (s : State) (ms : List Ch) (old new cause : Nat) : State :=
  s.forL ms (fun m s => if s.chState m.val = old then setState s m new cause else s)

section followers
variable {s t : State} {ms : List Ch} {old new cause : Nat} {l : Lnk}

theorem follow_reaches {m : Nat} {a : State} (hm : Sub (maskOf (evFlds ++ legFlds ++ stateFlds ++ [SPn_FLD_STAT_task, SPn_FLD_STAT_engine,
    CHn_OCSTAT_cyc_run, PRT_LNKl_STAT_chop]) (evParts ++ [Part.gen, Part.chans, Part.sps, Part.links])) m) (h : Moves m a s) :
    Moves m a (follow s ms old new cause) :=
  State.forL_moves h fun _ _ h => .ite (fun _ => setState_moves (hm.up (by decide +kernel)) h) fun _ => h

theorem follow_still : still (follow s ms old new cause) = still s :=
  forL_keeps still fun m u => by
    split
    · exact setState_still m new cause
    · rfl

theorem follow_grows : Grows s (follow s ms old new cause) := (Grows.refl s).forL fun m u h => by
  split
  · exact h.trans (setState_grows u m new cause)
  · exact h

theorem follow_chState (hs : s.wf = true) (hne : new % 8 ≠ old) (k : Ch) :
    (follow s ms old new cause).chState k.val = if k ∈ ms ∧ s.chState k.val = old then new % 8 else s.chState k.val := by
  induction ms generalizing s with
  | nil => simp [follow, State.forL]
  | cons m ms ih =>
    change (follow (if s.chState m.val = old then setState s m new cause else s) ms old new cause).chState k.val = _
    by_cases hm : s.chState m.val = old
    · rw [if_pos hm, ih (setState_wf hs), setState_chState hs]
      by_cases hk : k = m
      · subst hk
        simp [hm, hne]
      · simp [hk]
    · rw [if_neg hm, ih hs]
      by_cases hk : k = m
      · subst hk
        simp [hm]
      · simp [hk]

/-! ### Room in the intake -/

/-- The chopper of a link is off. -/
def chopOff (s : State) (l : Lnk) : Nat := if s.getB PRT_LNKl_STAT_chop l.val then 0 else 1

/-- The intake holds at most `k` events, counting three for each chopper that may still turn on. -/
def Fits (s : State) (k : Nat) : Prop := s.wf = true ∧ s.log.intake.length + 3 * (chopOff s 0 + chopOff s 1) ≤ k

variable {k : Nat}

theorem chopOff_congr (h : ∀ i, t.get PRT_LNKl_STAT_chop i = s.get PRT_LNKl_STAT_chop i) (l : Lnk) : chopOff t l = chopOff s l := by
  rw [chopOff, chopOff, State.getB, State.getB, h]

theorem Fits.put {f : Fld} {v i j : Nat} (h : Fits s k) (hf : f.id ≠ PRT_LNKl_STAT_chop.id) : Fits (s.put f v i j) k := by
  obtain ⟨hs, hle⟩ := h
  have hsame := chopOff_congr (s := s) (t := s.put f v i j) fun _ => State.get_put_ne hs fun e => hf e.symm
  exact ⟨State.put_wf hs, by rw [hsame, hsame]; exact hle⟩

/-- What does not reach a chopper's bit and adds `n` events at most. -/
theorem Fits.adds {m n : Nat} (h : Fits s k) (hm : Moves m s t) (hc : (m.testBit 0 || touches m PRT_LNKl_STAT_chop) = false)
    (hl : t.log.intake.length ≤ s.log.intake.length + n) : Fits t (k + n) := by
  obtain ⟨hs, hle⟩ := h
  have hsame := chopOff_congr (s := s) (t := t) fun i => hm.same hs _ i 0 hc
  exact ⟨hm.wf hs, by rw [hsame, hsame]; omega⟩

theorem Fits.logEv {c : Nat} {items : List Nat} (h : Fits s k) : Fits (s.logEv c items) (k + 3) :=
  h.adds (State.logEv_moves ⟨Nat.and_self _⟩ .refl) (by decide +kernel) (logEv_intake_length s c items)

theorem Fits.owlRec {ty src : Nat} {items : List Nat} (h : Fits s k) : Fits (s.owlRec ty src items) (k + 1) :=
  h.adds (State.owlRec_moves ⟨Nat.and_self _⟩ .refl) (by decide +kernel) (owlRec_intake_length s ty src items)

/-- A chopper that turns on gives up its share. -/
theorem chopOff_on (hs : s.wf = true) (hoff : s.getB PRT_LNKl_STAT_chop l.val = false) :
    chopOff (s.put PRT_LNKl_STAT_chop 1 l.val) 0 + chopOff (s.put PRT_LNKl_STAT_chop 1 l.val) 1 + 1 = chopOff s 0 + chopOff s 1 := by
  have hon : ∀ k : Lnk, chopOff (s.put PRT_LNKl_STAT_chop 1 l.val) k = if k = l then 0 else chopOff s k := fun k => by
    by_cases hk : k = l
    · subst hk
      simp [chopOff, State.getB, State.get_put_same hs]
    · simp [chopOff, State.getB, State.get_put_key hs (key_ne_of_ne (by decide) hk _), hk]
  have hl : chopOff s l = 1 := by simp [chopOff, hoff]
  rw [hon, hon]
  fin_cases l <;> simp_all
  omega

theorem Fits.chopWatch {j : Leg} (h : Fits s k) : Fits (chopWatch s j) k := by
  refine forL_rule (P := fun u => Fits u k) h fun l _ u hu => ?_
  unfold State.onIf
  split
  · rename_i hc
    have hoff : u.getB PRT_LNKl_STAT_chop l.val = false := by simp only [Bool.and_eq_true, Bool.not_eq_true'] at hc; exact hc.2
    obtain ⟨hwf, hle⟩ := hu
    have hshare := chopOff_on hwf hoff
    have hput : Fits (u.put PRT_LNKl_STAT_chop 1 l.val) (k - 3) := ⟨State.put_wf hwf, by rw [State.put_log]; omega⟩
    obtain ⟨hwf', hle'⟩ := hput.logEv (c := 0x4002) (items := [l.val])
    exact ⟨hwf', le_trans hle' (by omega)⟩
  · exact hu

theorem Fits.legApply {e b : Bool} {j : Leg} (h : Fits s k) : Fits (s.legApply e b j) k := by
  unfold State.legApply
  extract_lets
  split
  · exact h
  · refine onIf_rule (P := fun u => Fits u k) (onIf_rule (P := fun u => Fits u k) ?_ fun _ u hu => hu.chopWatch) fun _ u hu => ?_
    · exact Fits.put (Fits.put (Fits.put (Fits.put h (by decide)) (by decide)) (by decide)) (by decide)
    · exact hu.adds (n := 0) (State.blankStart_moves ⟨Nat.and_self _⟩ .refl) (by decide +kernel)
        (by rw [blankStart_log]; rfl)

theorem Fits.legsApply (h : Fits s k) : Fits s.legsApply k := forL_rule (P := fun u => Fits u k) h fun _ _ _ hu => hu.legApply

theorem Fits.setState {n : Ch} (h : Fits s k) (hnew : new ≠ 6) : Fits (setState s n new cause) (k + 4) := by
  have hshown : Fits (stateShown s n new) k := (h.put (by decide)).put (by decide)
  have htold : Fits (stateTold s n new cause) (k + 4) := (hshown.logEv.put (by decide)).owlRec
  have hfar : ∀ f ∈ clearedFlds, f.id ≠ PRT_LNKl_STAT_chop.id := by decide
  exact setState_rule (P := fun u => Fits u (k + 4)) htold (fun u f hf hu => hu.put (hfar f hf)) (fun he => absurd he hnew)
    (fun _ _ _ hu => hu) (fun _ _ hu => hu) (fun _ _ hu => hu) fun _ hu => hu.legsApply

theorem Fits.mono {j : Nat} (h : Fits s k) (hk : k ≤ j) : Fits s j := ⟨h.1, h.2.trans hk⟩

theorem Fits.follow (h : Fits s k) (hnew : new ≠ 6) : Fits (follow s ms old new cause) (k + 4 * ms.length) := by
  induction ms generalizing s k with
  | nil => exact h
  | cons m ms ih =>
    have hstep : Fits (if s.chState m.val = old then Machine.setState s m new cause else s) (k + 4) := by
      split
      · exact h.setState hnew
      · exact h.mono (Nat.le_add_right _ _)
    exact (ih hstep).mono (by rw [List.length_cons]; omega)

theorem members_length (s : State) (l : Lnk) : (members s l).length ≤ 4 := List.length_filter_le _ _

/-- After the members, an event of the link finds room. -/
theorem follow_room (hs : s.wf = true) (h : s.log.intake.length < 30) (hms : ms.length ≤ 4) (hnew : new ≠ 6) :
    (follow s ms old new cause).log.intake.length < 64 := by
  have hoff : ∀ l, chopOff s l ≤ 1 := fun l => by unfold chopOff; split <;> omega
  have hfits : Fits s (29 + 6) := ⟨hs, by have := hoff 0; have := hoff 1; omega⟩
  obtain ⟨-, hle⟩ := hfits.follow (ms := ms) (old := old) (cause := cause) hnew
  omega

end followers

/-! ### Precharge (R292) -/

section links
variable {s u : State} {l : Lnk}

/-- The members' states, the link's state and its notes after the members have followed. -/
theorem follow_link {cause old new : Nat} {ms : List Ch} (hs : s.wf = true) :
    (follow s ms old new cause).get PRT_LNKl_STAT_lstate l.val = s.get PRT_LNKl_STAT_lstate l.val :=
  (follow_reaches ⟨Nat.and_self _⟩ .refl).same hs _ _ 0 (by decide +kernel)

/-- The link shown CHARGED. -/
def charged (u : State) (l : Lnk) : State := (u.put PRT_LNKl_STAT_lstate 2 l.val).modLink l (fun k => { k with preTs := some u.now })

theorem members_put {f : Fld} {v i j : Nat} (hs : u.wf = true) (hf : PRT_LNKl_CFG_members.id ≠ f.id) :
    members (u.put f v i j) l = members u l := by
  unfold members
  simp only [State.getBit, State.get_put_ne hs hf]

/-- The channels do not see a put of a link's field. -/
theorem chState_put {f : Fld} {v i j k : Nat} (hs : u.wf = true) (hf : CHn_STATE_state.id ≠ f.id) : (u.put f v i j).chState k = u.chState k :=
  State.get_put_ne hs hf

theorem preDone_eq (hs : u.wf = true) (hrole : u.get TLS_STAT_role ≤ 1) : preDone u l =
    if u.get PRT_LNKl_STAT_lstate l.val = 1 && 0 < u.links[l].since
        && decide (u.getS PRT_LNKl_PRE_pre_done l.val ≤ u.links[l].hist.headD (-32768)) then
      (follow (charged u l) (members u l) 1 2 0).logEv 0x4007 [l.val] else u := by
  have hshadow : shadowLinks u = false := decide_eq_false (by omega)
  have hm : members (charged u l) l = members u l := members_put hs (by decide)
  rw [preDone, hshadow, ← hm]
  rfl

/-- A precharge that is done: the link CHARGED since now, and its members READY. -/
theorem preDone_charges (hs : u.wf = true) (hrole : u.get TLS_STAT_role ≤ 1) (hst : u.get PRT_LNKl_STAT_lstate l.val = 1)
    (hsince : 0 < u.links[l].since) (hlevel : u.getS PRT_LNKl_PRE_pre_done l.val ≤ u.links[l].hist.headD (-32768)) :
    (preDone u l).get PRT_LNKl_STAT_lstate l.val = 2 ∧ (preDone u l).links[l].preTs = some u.now ∧
      (∀ m ∈ members u l, u.chState m.val = 1 → (preDone u l).chState m.val = 2) ∧
      (u.log.intake.length < 30 → (0x4007, [l.val]) ∈ (preDone u l).log.intake) := by
  have hc : (charged u l).wf = true := State.put_wf (s := u) hs
  have hf : (follow (charged u l) (members u l) 1 2 0).wf = true := (follow_reaches ⟨Nat.and_self _⟩ .refl).wf hc
  have hlog : Moves _ (follow (charged u l) (members u l) 1 2 0) (State.logEv _ 0x4007 [l.val]) := State.logEv_moves ⟨Nat.and_self _⟩ .refl
  rw [preDone_eq hs hrole, if_pos (by simpa only [Bool.and_eq_true, decide_eq_true_eq] using ⟨⟨hst, hsince⟩, hlevel⟩)]
  refine ⟨?_, ?_, fun m hm hpre => ?_, fun hroom => ?_⟩
  · rw [hlog.same hf _ _ 0 (by decide +kernel), follow_link hc]
    exact State.get_put_same hs
  · have hlink := link_of_still ((still_logEv 0x4007 [l.val]).trans (follow_still (s := charged u l) (ms := members u l) (old := 1) (new := 2)
      (cause := 0))) l
    refine (congrArg Link.preTs hlink).trans ?_
    exact congrArg Link.preTs (vupd_same u.links l _)
  · have hsame : (charged u l).chState m.val = 1 := (chState_put hs (by decide)).trans hpre
    rw [State.chState, hlog.same hf _ _ 0 (by decide +kernel)]
    exact (follow_chState hc (by decide) m).trans (if_pos ⟨hm, hsame⟩)
  · exact logEv_mem (follow_room hc hroom (members_length u l) (by decide))

/-- A precharge abandoned: the link DISCHARGED, and its members OFF. -/
theorem preAbandon_shows {cause : Nat} (hs : s.wf = true) : (preAbandon s l cause).wf = true ∧
    (preAbandon s l cause).get PRT_LNKl_STAT_lstate l.val = 0 ∧
    ∀ m ∈ members s l, s.chState m.val = 1 → (preAbandon s l cause).chState m.val = 0 := by
  have hcommit : Moves _ s (preCommit s l 0) := preCommit_moves ⟨Nat.and_self _⟩ .refl
  have hput : ((preCommit s l 0).put PRT_LNKl_STAT_lstate 0 l.val).wf = true := State.put_wf (hcommit.wf hs)
  have hm : members ((preCommit s l 0).put PRT_LNKl_STAT_lstate 0 l.val) l = members s l :=
    (members_put (hcommit.wf hs) (by decide)).trans (members_of_moves hcommit hs (by decide +kernel) l)
  have heq : preAbandon s l cause = follow ((preCommit s l 0).put PRT_LNKl_STAT_lstate 0 l.val) (members s l) 1 0 cause := by
    rw [← hm]
    rfl
  rw [heq]
  refine ⟨(follow_reaches ⟨Nat.and_self _⟩ .refl).wf hput, ?_, fun m hmem hpre => ?_⟩
  · rw [follow_link hput]
    exact State.get_put_same (hcommit.wf hs)
  · have hsame : ((preCommit s l 0).put PRT_LNKl_STAT_lstate 0 l.val).chState m.val = 1 := by
      rw [chState_put (hcommit.wf hs) (by decide), State.chState, hcommit.same hs _ _ 0 (by decide +kernel)]
      exact hpre
    exact (follow_chState hput (by decide) m).trans (if_pos ⟨hmem, hsame⟩)

/-! ### Discharge (R295) -/

/-- The end of a discharge: the link DISCHARGED, and its members OFF. -/
theorem disEnd_shows (hs : s.wf = true) : (disEnd s l).get PRT_LNKl_STAT_lstate l.val = 0 ∧
    ∀ m ∈ members s l, s.chState m.val = 5 → (disEnd s l).chState m.val = 0 := by
  have hend : Moves _ (s.put PRT_LNKl_STAT_lstate 0 l.val) (endDischarge s l 0) :=
    State.forL_moves .refl fun _ _ h => State.modChan_moves ⟨Nat.and_self _⟩ h
  have hput : (s.put PRT_LNKl_STAT_lstate 0 l.val).wf = true := State.put_wf hs
  have hwf : (endDischarge s l 0).wf = true := hend.wf hput
  have hm : members (endDischarge s l 0) l = members s l :=
    (members_of_moves hend hput (by decide +kernel) l).trans (members_put hs (by decide))
  have heq : disEnd s l = follow (endDischarge s l 0) (members s l) 5 0 0 := by
    rw [← hm]
    rfl
  rw [heq]
  refine ⟨?_, fun m hmem hdis => ?_⟩
  · rw [follow_link hwf, hend.same hput _ _ 0 (by decide +kernel)]
    exact State.get_put_same hs
  · have hsame : (endDischarge s l 0).chState m.val = 5 := by
      rw [State.chState, hend.same hput _ _ 0 (by decide +kernel)]
      exact (chState_put hs (by decide)).trans hdis
    exact (follow_chState hwf (by decide) m).trans (if_pos ⟨hmem, hsame⟩)

theorem disEnd_grows : Grows s (disEnd s l) :=
  ((Grows.refl s).put.forL fun _ _ h => h.modChan).trans follow_grows

/-- A discharge that is done: its event, then its end. -/
theorem disDone_ends (hs : u.wf = true) (hst : u.get PRT_LNKl_STAT_lstate l.val = 3) (hsince : 0 < u.links[l].since)
    (hlevel : u.links[l].hist.headD 32767 ≤ u.getS PRT_LNKl_DIS_dis_v l.val) :
    (disDone u l).get PRT_LNKl_STAT_lstate l.val = 0 ∧ (∀ m ∈ members u l, u.chState m.val = 5 → (disDone u l).chState m.val = 0) ∧
      (u.log.intake.length < 30 → (0x4009, [l.val]) ∈ (disDone u l).log.intake) := by
  have hlog : Moves _ u (u.logEv 0x4009 [l.val]) := State.logEv_moves ⟨Nat.and_self _⟩ .refl
  have heq : disDone u l = disEnd (u.logEv 0x4009 [l.val]) l := by
    rw [disDone, if_neg (by simp [hst]), if_pos (by simpa only [Bool.and_eq_true, decide_eq_true_eq] using ⟨⟨hst, hsince⟩, hlevel⟩)]
  obtain ⟨hlstate, hmembers⟩ := disEnd_shows (l := l) (hlog.wf hs)
  rw [heq]
  refine ⟨hlstate, fun m hm hdis => hmembers m ?_ ?_, fun hroom => disEnd_grows _ (logEv_mem (by omega))⟩
  · rwa [members_of_moves hlog hs (by decide +kernel)]
  · rw [State.chState, hlog.same hs _ _ 0 (by decide +kernel)]
    exact hdis

/-! ### The obligation -/

/-- Settles O22. -/
theorem prechargeAndDischarge : Obligations.PrechargeAndDischarge := by
  intro s l codes ⟨hheld, hs⟩ u
  have hu : u.wf = true := (linkSamples_moves ⟨Nat.and_self _⟩ .refl).wf hs
  refine ⟨fun hrole hst hsince hlevel => ?done, fun hrole hlevel => ?below, fun hst => ?fail, fun hts => ?legOff,
    fun hst hsince hlevel => ?disDone, fun hst => ?disFail, fun hst => ?timeout⟩
  case done => exact ⟨preDone u l, live_run (f := fun s => preDone (linkSamples s l codes) l) s hheld, preDone_charges hu hrole hst hsince hlevel⟩
  case below =>
    refine ⟨preDone u l, live_run (f := fun s => preDone (linkSamples s l codes) l) s hheld, (preDone_eq hu hrole).trans (if_neg fun h => ?_)⟩
    simp only [Bool.and_eq_true, decide_eq_true_eq] at h
    exact absurd h.2 (Int.not_le.mpr hlevel)
  case fail =>
    obtain ⟨hwf, hlstate, hmembers⟩ := preAbandon_shows (l := l) (cause := 0) hs
    have hput : ((preAbandon s l 0).put PRT_LNKl_STAT_pre_fail 1 l.val).wf = true := State.put_wf hwf
    have hlog : Moves _ ((preAbandon s l 0).put PRT_LNKl_STAT_pre_fail 1 l.val) (State.logEv _ 0x4008 [l.val]) :=
      State.logEv_moves ⟨Nat.and_self _⟩ .refl
    refine ⟨(((preAbandon s l 0).put PRT_LNKl_STAT_pre_fail 1 l.val).logEv 0x4008 [l.val]).raise (lnkSrc l.val 3) l.val, ?_, ?_, ?_, ?_, ?_⟩
    · change live s _ = _
      rw [live_run s hheld, hst]
      rfl
    · exact (hlog.same hput _ _ 0 (by decide +kernel)).trans ((State.get_put_ne hwf (by decide)).trans hlstate)
    · exact (hlog.same hput _ _ 0 (by decide +kernel)).trans (State.get_put_same hwf)
    · intro m hm hpre
      exact (hlog.same hput _ _ 0 (by decide +kernel)).trans ((State.get_put_ne hwf (by decide)).trans (hmembers m hm hpre))
    · rw [State.raise_inflight]
      exact List.mem_append_right _ List.mem_cons_self
  case legOff =>
    have hcommit : Moves _ s (preCommit s l 0) := preCommit_moves ⟨Nat.and_self _⟩ .refl
    refine ⟨(preCommit s l 0).modLink l (fun k => { k with preTs := none }), ?_, ?_, ?_⟩
    · change live s _ = _
      rw [live_run s hheld, hts]
      rfl
    · exact congrArg Link.preTs (vupd_same (preCommit s l 0).links l _)
    · exact hcommit.same hs _ _ 0 (by decide +kernel)
  case disDone => exact ⟨disDone u l, live_run (f := fun s => disDone (linkSamples s l codes) l) s hheld, disDone_ends hu hst hsince hlevel⟩
  case disFail =>
    have hput : (s.put PRT_LNKl_STAT_dis_fail 1 l.val).wf = true := State.put_wf hs
    have hlog : Moves _ (s.put PRT_LNKl_STAT_dis_fail 1 l.val) (State.logEv _ 0x400A [l.val]) := State.logEv_moves ⟨Nat.and_self _⟩ .refl
    refine ⟨disFail s l, ?_, ?_, ?_, ?_, fun hroom => ?_⟩
    · change live s _ = _
      rw [live_run s hheld, hst]
      rfl
    · exact (hlog.same hput _ _ 0 (by decide +kernel)).trans (State.get_put_same hs)
    · exact (hlog.same hput _ _ 0 (by decide +kernel)).trans ((State.get_put_ne hs (by decide)).trans hst)
    · rw [disFail, State.raise_inflight, State.logEv_inflight]
      rfl
    · rw [disFail, State.raise_log]
      exact logEv_mem (Nat.lt_of_lt_of_le hroom (by decide))
  case timeout =>
    refine ⟨disEnd s l, ?_, disEnd_shows hs⟩
    change live s _ = _
    rw [live_run s hheld, hst]
    rfl

end links

end Sys2Proof.Proofs
end

section
/-! PROOF. The monitors of the links (R284 to R290 in O21): the parts of a sample, and what each leaves as it was. -/

namespace Sys2Proof.Proofs

open Sys2Proof Sys2Proof.Machine Sys2Proof.Safety

/-! ### The parts of a sample -/

/-- The sample is counted in the monitor's history. -/
def takenLink (k : Link) (v : Int) : Link := { k with hist := (v :: k.hist).take 16, got := k.got + 1, since := k.since + 1, starve := false }

/-- The sample taken, with the mean and the highest code shown. -/
def sampleTaken (s : State) (l : Lnk) (v : Int) : State :=
  let s := s.modLink l (fun k => takenLink k v)
  let s := s.putS PRT_LNKl_STAT_vmean (roundHE s.links[l].hist.sum s.links[l].hist.length) l.val
  s.onIf (decide (s.getS PRT_LNKl_VMAX_vmax l.val < v)) (fun s => s.putS PRT_LNKl_VMAX_vmax v l.val)

/-- Every member is requested into its safe state. -/
def safeAll (s : State) (l : Lnk) (src : Nat) : State := s.forL (members s l) (fun n s => safeRequest s n src)

/-- The sample against OV_HARD, which needs no filter (R288). -/
def hardSafe (s : State) (l : Lnk) (v : Int) : State :=
  let beyond := decide (s.getS PRT_LNKl_OV2_ov_hard l.val ≤ v)
  let s := s.onIf (beyond && !s.links[l].hard) (fun s =>
    ((s.put PRT_LNKl_STAT_ov_hard 1 l.val).logEv 0x4006 [l.val]).raise (lnkSrc l.val 1) l.val)
  let s := s.modLink l (fun k => { k with hard := beyond })
  s.onIf beyond (fun s => safeAll s l (lnkSrc l.val 1))

/-- The chopper ends at or below `chop_off` (R287). -/
def chopRelease (s : State) (l : Lnk) (v : Int) : State :=
  if s.links[l].hyst && decide (v ≤ s.getS PRT_LNKl_CHOP_chop_off l.val) then
    chopCommit (s.modLink l (fun k => { k with hyst := false })) l
  else s

/-- The sample taken, and passed by OV_WARN. -/
def warned (s : State) (l : Lnk) (v : Int) : State := linkFilter (sampleTaken s l v) l v 0

/-- Passed by CHOP_ON too. -/
def chopped (s : State) (l : Lnk) (v : Int) : State := linkFilter (warned s l v) l v 1

/-- Passed by the three filtered thresholds. -/
def filtered (s : State) (l : Lnk) (v : Int) : State := linkFilter (chopped s l v) l v 2

/-- Passed by every threshold. -/
def thresholded (s : State) (l : Lnk) (v : Int) : State := hardSafe (filtered s l v) l v

theorem forL_three (s : State) (f : Fin 3 → State → State) : s.forL (List.finRange 3) f = f 2 (f 1 (f 0 s)) := rfl

theorem linkSample_eq {s : State} {l : Lnk} {v : Int} (hen : s.get PRT_LNKl_CFG_en l.val = 1) :
    linkSample s l v = chopRelease (thresholded s l v) l v := by
  have hon : (!s.getB PRT_LNKl_CFG_en l.val) = false := by rw [State.getB, hen]; rfl
  rw [linkSample, hon]
  simp only [forL_three]
  rfl

/-- What a passed threshold makes of the monitor (R284): `F` is the filter. -/
def passed (k : Link) (t : Fin 3) (above : Bool) (F : Nat) : Link :=
  if above then
    if decide (F ≤ k.cnt[t] + 1) && !k.lvl[t] then { k with cnt := k.cnt.set t.val (min (k.cnt[t] + 1) 255), lvl := k.lvl.set t.val true }
    else { k with cnt := k.cnt.set t.val (min (k.cnt[t] + 1) 255) }
  else { k with cnt := k.cnt.set t.val 0, lvl := k.lvl.set t.val false }

/-- A monitor without its chopper's state. -/
def baseLink (k : Link) : Link := { k with von := 0, onTs := none, hyst := false, chopDuty := 0 }

theorem baseLink_of_quiet {k q : Link} (h : quietLink k = quietLink q) : baseLink k = baseLink q := by
  change baseLink (quietLink k) = baseLink (quietLink q)
  rw [h]

theorem passed_base (k : Link) (t : Fin 3) (a : Bool) (F : Nat) : baseLink (passed k t a F) = passed (baseLink k) t a F := by
  cases a with
  | false => rfl
  | true =>
    simp only [passed, if_true]
    split
    · rename_i h
      exact (if_pos h).symm
    · rename_i h
      exact (if_neg h).symm

section
variable {s u : State} {l : Lnk} {v : Int}

theorem modLink_same (f : Link → Link) : (s.modLink l f).links[l] = f s.links[l] := vupd_same s.links l f

theorem modLink_congr {f g : Link → Link} (h : f s.links[l] = g s.links[l]) : s.modLink l f = s.modLink l g := by
  unfold State.modLink vupd
  rw [h]

theorem modLink_modLink {f g : Link → Link} : (s.modLink l f).modLink l g = s.modLink l (fun k => g (f k)) := by
  unfold State.modLink vupd
  simp

/-! ### What each part reaches -/

theorem getS_same {m : Nat} {f : Fld} {i : Nat} (h : Moves m s u) (hs : s.wf = true) (hf : (m.testBit 0 || touches m f) = false) :
    u.getS f i = s.getS f i := by rw [State.getS, State.getS, h.same hs f i 0 hf]

/-- What a sample does beside the safe requests. -/
def sampleMask : Nat :=
  maskOf (evFlds ++ [PRT_LNKl_STAT_vmean, PRT_LNKl_VMAX_vmax]) (evParts ++ [Part.links])

theorem sampleTaken_reaches {m : Nat} (hm : Sub sampleMask m) : Moves m s (sampleTaken s l v) :=
  State.onIf_moves (State.putS_moves (hm.up (by decide +kernel)) (.inr (hm.bit (by decide +kernel)))
    (State.modLink_moves (hm.up (by decide +kernel)) .refl)) fun _ h =>
      State.putS_moves (hm.up (by decide +kernel)) (.inr (hm.bit (by decide +kernel))) h

theorem sampleTaken_link : (sampleTaken s l v).links[l] = takenLink s.links[l] v := by
  refine (congrArg (fun k : Vector Link 2 => k[l]) (onIf_keeps (fun s => s.links) fun _ => ?_)).trans (modLink_same (s := s) fun k => takenLink k v)
  rfl

/-! ### Safe requests to the members -/

theorem safeAll_still {src : Nat} : still (safeAll s l src) = still s := forL_keeps still fun n _ => safeRequest_still n src

/-- What a safe request reaches. -/
def safeMask : Nat :=
  maskOf (evFlds ++ legFlds ++ stateFlds ++ [CHn_STATE_cause, CHn_STATE_sel, CHn_SEL_THR_thr, CHn_CSTAT_pend, SPn_FLD_STAT_task,
    SPn_FLD_STAT_engine, CHn_OCSTAT_cyc_run, PRT_LNKl_STAT_lstate, PRT_LNKl_STAT_chop, TLS_STAT_nr_cause, TLS_STAT_ready])
    (evParts ++ [Part.gen, Part.chans, Part.sps, Part.links, Part.tls])

theorem safeAll_reaches {m src : Nat} {a : State} (hm : Sub safeMask m) (h : Moves m a s) : Moves m a (safeAll s l src) :=
  State.forL_moves h fun _ _ h => safeRequest_moves (hm.up (by decide +kernel)) h

theorem safeAll_wf {src : Nat} (hs : s.wf = true) : (safeAll s l src).wf = true := (safeAll_reaches ⟨Nat.and_self _⟩ .refl).wf hs

/-- The discharge of any link ends in another state than discharging. -/
theorem endDischarge_lstate {k : Lnk} {st : Nat} (hs : s.wf = true) (hst : st % 4 ≠ 3) (h : s.get PRT_LNKl_STAT_lstate l.val ≠ 3) :
    (endDischarge s k st).get PRT_LNKl_STAT_lstate l.val ≠ 3 := by
  have hchan : Moves _ (s.put PRT_LNKl_STAT_lstate st k.val) (endDischarge s k st) :=
    State.forL_moves .refl fun _ _ h => State.modChan_moves ⟨Nat.and_self _⟩ h
  rw [hchan.same (State.put_wf hs) _ _ 0 (by decide +kernel)]
  by_cases hk : l = k
  · rw [hk, State.get_put_same hs]
    exact hst
  · rwa [State.get_put_key hs (key_ne_of_ne (by decide) hk _)]

theorem enterSafe_lstate {n : Ch} {cause pat : Nat} {safety held : Bool} (hs : s.wf = true) (h : s.get PRT_LNKl_STAT_lstate l.val ≠ 3) :
    (enterSafe s n cause safety pat held).get PRT_LNKl_STAT_lstate l.val ≠ 3 := by
  unfold enterSafe
  extract_lets others ended entered
  have hended : ended.wf = true ∧ ended.get PRT_LNKl_STAT_lstate l.val ≠ 3 := by
    simp only [ended]
    split
    · refine ⟨(endDischarge_moves ⟨Nat.and_self _⟩ .refl).wf hs, endDischarge_lstate hs ?_ h⟩
      split <;> decide
    · exact ⟨hs, h⟩
  have hall : Moves _ ended (entered.forL others fun m s => intoSafe s m cause safety (selChoice s m) false) :=
    State.forL_moves (intoSafe_moves ⟨Nat.and_self _⟩ .refl) fun _ _ h => intoSafe_moves ⟨Nat.and_self _⟩ h
  rw [hall.same hended.1 _ _ 0 (by decide +kernel)]
  exact hended.2

/-- A safe request does not set the link discharging. -/
theorem safeRequest_lstate {n : Ch} {cause : Nat} (hs : s.wf = true) (h : s.get PRT_LNKl_STAT_lstate l.val ≠ 3) :
    (safeRequest s n cause).get PRT_LNKl_STAT_lstate l.val ≠ 3 := by
  have hmark : Moves _ s (safeMark s n) := safeMark_moves ⟨Nat.and_self _⟩ .refl
  have hsel : Moves _ (safeMark s n) (selUpdate (safeMark s n) n) := selUpdate_moves ⟨Nat.and_self _⟩ .refl
  have hwf : (selUpdate (safeMark s n) n).wf = true := hsel.wf (hmark.wf hs)
  have hu : (selUpdate (safeMark s n) n).get PRT_LNKl_STAT_lstate l.val ≠ 3 := by
    rwa [hsel.same (hmark.wf hs) _ _ 0 (by decide +kernel), hmark.same hs _ _ 0 (by decide +kernel)]
  unfold safeRequest
  generalize selUpdate (safeMark s n) n = u at hwf hu ⊢
  extract_lets _ w
  split
  · have hw : Moves (maskOf [CHn_STATE_cause, CHn_STATE_safety] []) u w :=
      State.onIf_moves .refl fun _ h => State.put_moves (.inr (by decide +kernel)) (State.put_moves (.inr (by decide +kernel)) h)
    have hput : w.get PRT_LNKl_STAT_lstate l.val ≠ 3 := by rwa [hw.same hwf _ _ 0 (by decide +kernel)]
    split
    · have hpat : Moves _ (w.put CHn_STATE_held 0 n.val) (setPat _ n (w.get CHn_STATE_sel n.val)) := setPat_moves ⟨Nat.and_self _⟩ .refl
      rwa [hpat.same (State.put_wf (hw.wf hwf)) _ _ 0 (by decide +kernel), State.get_put_ne (hw.wf hwf) (by decide)]
    · exact hput
  · exact enterSafe_lstate hwf hu

theorem safeAll_lstate {src : Nat} (hs : s.wf = true) (h : s.get PRT_LNKl_STAT_lstate l.val ≠ 3) :
    (safeAll s l src).get PRT_LNKl_STAT_lstate l.val ≠ 3 :=
  (forL_rule (P := fun u => u.wf = true ∧ u.get PRT_LNKl_STAT_lstate l.val ≠ 3) ⟨hs, h⟩
    fun _ _ _ hu => ⟨safeRequest_wf hu.1, safeRequest_lstate hu.1 hu.2⟩).2

/-- Requests to the channels of a list put each of them into SAFE. -/
theorem safeRequests_chState {ms : List Ch} {src : Nat} {k : Ch} (hs : s.wf = true) (h : k ∈ ms ∨ s.chState k.val = 6) :
    (s.forL ms (fun n s => safeRequest s n src)).chState k.val = 6 := by
  induction ms generalizing s with
  | nil => exact h.resolve_left (List.not_mem_nil)
  | cons m ms ih =>
    obtain ⟨hown, hothers⟩ := safeRequest_chState (n := m) (cause := src) hs
    refine ih (s := safeRequest s m src) (safeRequest_wf hs) ?_
    by_cases hk : k = m
    · exact .inr (hk ▸ hown)
    · rcases h with h | h
      · exact .inl ((List.mem_cons.mp h).resolve_left hk)
      · refine .inr ((hothers k hk).elim (fun e => e.trans h) fun e => e.2)

theorem safeAll_chState {src : Nat} {k : Ch} (hs : s.wf = true) (hk : k ∈ members s l) : (safeAll s l src).chState k.val = 6 :=
  safeRequests_chState hs (.inl hk)

/-! ### A threshold (R286 to R290) -/

/-- What the assertion of each threshold reaches. -/
@[irreducible] def assertMask (t : Fin 3) : Nat :=
  maskOf evFlds (evParts ++ [Part.links]) ||| match t with
  | 0 => maskOf [PRT_LNKl_STAT_warn] []
  | 1 => maskOf [CHn_STATE_motoring_only, PRT_LNKl_STAT_motoring_only, PRT_LNKl_STAT_chop_fail, CHn_GEN_pend_gen, CHn_CSTAT_pend,
      LEGk_GEN_pend_gen, LEGk_CSTAT_pend] [Part.inflight, Part.free, Part.gen]
  | 2 => maskOf [PRT_LNKl_STAT_ov_asc] [Part.inflight] ||| safeMask

theorem linkAssert_chop : linkAssert s l 1 = if (!s.getB PRT_LNKl_CFG_chop_en l.val) = true then chopFail s l
    else if s.get PRT_LNKl_CFG_chop_mode l.val = 0 then chopCommit (s.modLink l (fun k => { k with hyst := true })) l else s := rfl

theorem linkAssert_asc : linkAssert s l 2 =
    safeAll (((s.put PRT_LNKl_STAT_ov_asc 1 l.val).logEv 0x4005 [l.val]).raise (lnkSrc l.val 0) l.val) l (lnkSrc l.val 0) := rfl

theorem linkAssert_reaches {m : Nat} {a : State} {t : Fin 3} (hm : Sub (assertMask t) m) (h : Moves m a s) : Moves m a (linkAssert s l t) := by
  match t with
  | 0 => exact State.logRate_moves (hm.up (by decide +kernel)) (State.put_moves (.inr (hm.bit (by decide +kernel))) h)
  | 1 =>
    rw [linkAssert_chop]
    refine .ite (fun _ => chopFail_moves (hm.up (by decide +kernel)) h) fun _ => .ite (fun _ => ?_) fun _ => h
    exact chopCommit_moves (hm.up (by decide +kernel)) (State.modLink_moves (hm.up (by decide +kernel)) h)
  | 2 =>
    rw [linkAssert_asc]
    exact safeAll_reaches (hm.up (by decide +kernel)) (State.raise_moves (hm.up (by decide +kernel)) (State.logEv_moves
      (hm.up (by decide +kernel)) (State.put_moves (.inr (hm.bit (by decide +kernel))) h)))

/-- One sample against a threshold: the count, then the assertion where the filter is met; below it, the end of both. -/
theorem linkFilter_cases (s : State) (l : Lnk) (v : Int) (t : Fin 3) : linkFilter s l v t =
    if linkThr s l t ≤ v then
      if decide (s.get PRT_LNKl_FILT_ov_filt l.val ≤ s.links[l].cnt[t] + 1) && !s.links[l].lvl[t] then
        linkAssert (s.modLink l (fun k => passed k t true (s.get PRT_LNKl_FILT_ov_filt l.val))) l t
      else s.modLink l (fun k => passed k t true (s.get PRT_LNKl_FILT_ov_filt l.val))
    else (s.modLink l (fun k => passed k t false (s.get PRT_LNKl_FILT_ov_filt l.val))).onIf (t.val == 0)
      (fun s => s.put PRT_LNKl_STAT_warn 0 l.val) := by
  unfold linkFilter
  by_cases habove : linkThr s l t ≤ v
  · rw [if_pos habove, if_pos habove]
    extract_lets c F u
    have hlink : u.links[l] = { s.links[l] with cnt := s.links[l].cnt.set t.val (min c 255) } := modLink_same _
    rw [hlink]
    split
    · rename_i hmet
      refine congrArg (linkAssert · l t) (modLink_modLink.trans (modLink_congr ?_))
      exact (if_pos hmet).symm
    · rename_i hmet
      exact modLink_congr (if_neg hmet).symm
  · rw [if_neg habove, if_neg habove]
    rfl

theorem linkFilter_reaches {m : Nat} {a : State} {t : Fin 3} (hm : Sub (assertMask t) m) (h : Moves m a s) : Moves m a (linkFilter s l v t) := by
  have hlink : maskOf [] [Part.links] &&& assertMask t = maskOf [] [Part.links] := by fin_cases t <;> decide +kernel
  have hmod : ∀ f, Moves m a (s.modLink l f) := fun f => State.modLink_moves (hm.up hlink) h
  rw [linkFilter_cases]
  refine .ite (fun _ => .ite (fun _ => linkAssert_reaches hm (hmod _)) fun _ => hmod _) fun _ => ?_
  match t with
  | 0 => exact State.put_moves (.inr (hm.bit (by decide +kernel))) (hmod _)
  | 1 => exact hmod _
  | 2 => exact hmod _

theorem linkFilter_wf {t : Fin 3} (hs : s.wf = true) : (linkFilter s l v t).wf = true := (linkFilter_reaches ⟨Nat.and_self _⟩ .refl).wf hs

/-! ### The monitor after a threshold -/

theorem links_of_moves {m : Nat} (h : Moves m s u) (hl : m.testBit (partBit .links) = false) : u.links[l] = s.links[l] :=
  congrArg (fun q : Vector Link 2 => q[l]) (h.part (p := .links) hl)

theorem chopCommit_on (hen : s.get PRT_LNKl_CFG_en l.val = 1) (hchop : s.get PRT_LNKl_CFG_chop_en l.val = 1) :
    (chopCommit s l).links[l] = { s.links[l] with chopDuty := chopDuty s l } := by
  have hon : (!s.getB PRT_LNKl_CFG_en l.val || !s.getB PRT_LNKl_CFG_chop_en l.val) = false := by rw [State.getB, State.getB, hen, hchop]; rfl
  rw [chopCommit, hon]
  refine (modLink_same _).trans ?_
  rw [links_of_moves (protCommit_moves ⟨Nat.and_self _⟩ .refl) (by decide +kernel)]

theorem chopCommit_base : baseLink (chopCommit s l).links[l] = baseLink s.links[l] := by
  unfold chopCommit
  split
  · rfl
  · refine (congrArg baseLink (modLink_same _)).trans ?_
    rw [links_of_moves (protCommit_moves ⟨Nat.and_self _⟩ .refl) (by decide +kernel)]
    rfl

/-- An assertion of another threshold than CHOP_ON leaves the monitor beside the notes of the chopper's turn-on. -/
theorem linkAssert_quiet {t : Fin 3} (ht : t ≠ 1) : quietLink (linkAssert s l t).links[l] = quietLink s.links[l] := by
  match t with
  | 0 =>
    have hrate : Moves _ s (linkAssert s l 0) :=
      State.logRate_moves (m := maskOf (PRT_LNKl_STAT_warn :: evFlds) evParts) ⟨by decide +kernel⟩ (State.put_moves (.inr (by decide +kernel)) .refl)
    rw [links_of_moves hrate (by decide +kernel)]
  | 1 => exact absurd rfl ht
  | 2 =>
    rw [linkAssert_asc]
    have hshown : still (((s.put PRT_LNKl_STAT_ov_asc 1 l.val).logEv 0x4005 [l.val]).raise (lnkSrc l.val 0) l.val) = still s :=
      (still_of rfl rfl).trans ((still_logEv 0x4005 [l.val]).trans (still_put _ _ _ _))
    exact link_of_still (safeAll_still.trans hshown) l

theorem linkAssert_base {t : Fin 3} : baseLink (linkAssert s l t).links[l] = baseLink s.links[l] := by
  by_cases ht : t = 1
  · rw [ht, linkAssert_chop]
    split
    · rw [links_of_moves (chopFail_moves ⟨Nat.and_self _⟩ .refl) (by decide +kernel)]
    · split
      · exact chopCommit_base.trans ((congrArg baseLink (modLink_same _)).trans rfl)
      · rfl
  · exact baseLink_of_quiet (linkAssert_quiet ht)

/-- A passed threshold, beside the assertion. -/
def thrLink (s : State) (l : Lnk) (v : Int) (t : Fin 3) : Link :=
  passed s.links[l] t (decide (linkThr s l t ≤ v)) (s.get PRT_LNKl_FILT_ov_filt l.val)

theorem linkFilter_rule {β : Type} {t : Fin 3} (g : Link → β) (hassert : ∀ u, g (linkAssert u l t).links[l] = g u.links[l]) :
    g (linkFilter s l v t).links[l] = g (thrLink s l v t) := by
  rw [linkFilter_cases, thrLink]
  split
  · rename_i h
    rw [decide_eq_true h]
    split
    · rw [hassert, modLink_same]
    · rw [modLink_same]
  · rename_i h
    rw [decide_eq_false h]
    rw [← modLink_same (s := s) fun k => passed k t false _]
    exact congrArg (fun q : Vector Link 2 => g q[l]) (onIf_keeps (fun s => s.links) fun _ => rfl)

theorem linkFilter_base {t : Fin 3} : baseLink (linkFilter s l v t).links[l] = baseLink (thrLink s l v t) :=
  linkFilter_rule baseLink fun _ => linkAssert_base

theorem linkFilter_quiet {t : Fin 3} (ht : t ≠ 1) : quietLink (linkFilter s l v t).links[l] = quietLink (thrLink s l v t) :=
  linkFilter_rule quietLink fun _ => linkAssert_quiet ht

/-! ### OV_HARD and the chopper's end -/

theorem hardSafe_link : quietLink (hardSafe s l v).links[l] =
    quietLink { s.links[l] with hard := decide (s.getS PRT_LNKl_OV2_ov_hard l.val ≤ v) } := by
  unfold hardSafe
  extract_lets beyond shown marked
  have hshown : still shown = still s := onIf_keeps still fun u => (still_of rfl rfl).trans (still_logEv 0x4006 [l.val])
  have hmarked : quietLink marked.links[l] = quietLink { shown.links[l] with hard := beyond } := congrArg quietLink (modLink_same _)
  have hend : still (marked.onIf beyond fun s => safeAll s l (lnkSrc l.val 1)) = still marked := onIf_keeps still fun u => safeAll_still
  refine (link_of_still hend l).trans (hmarked.trans ?_)
  exact congrArg (fun k : Link => { k with hard := beyond }) (link_of_still hshown l)

theorem chopRelease_base : baseLink (chopRelease s l v).links[l] = baseLink s.links[l] := by
  unfold chopRelease
  split
  · exact chopCommit_base.trans ((congrArg baseLink (modLink_same _)).trans rfl)
  · rfl

/-! ### What the parts reach, and what none of them does -/

/-- What a commit to the chopper reaches. -/
def chopMask : Nat :=
  maskOf [CHn_GEN_pend_gen, CHn_CSTAT_pend, LEGk_GEN_pend_gen, LEGk_CSTAT_pend] [Part.free, Part.gen, Part.links]

/-- What the sample against OV_HARD reaches, and the chopper's end. -/
def endMask : Nat := safeMask ||| chopMask ||| maskOf [PRT_LNKl_STAT_ov_hard] [Part.inflight]

/-- What a sample reaches after the threshold OV_WARN. -/
def laterMask : Nat := assertMask 1 ||| assertMask 2 ||| endMask

/-- What a whole sample reaches. -/
def watchMask : Nat := sampleMask ||| assertMask 0 ||| laterMask

theorem hardSafe_reaches {m : Nat} {a : State} (hm : Sub endMask m) (h : Moves m a s) : Moves m a (hardSafe s l v) := by
  unfold hardSafe
  extract_lets beyond shown marked
  refine State.onIf_moves (State.modLink_moves (hm.up (by decide +kernel)) (State.onIf_moves h fun _ h => ?_)) fun _ h =>
    safeAll_reaches (hm.up (by decide +kernel)) h
  exact State.raise_moves (hm.up (by decide +kernel)) (State.logEv_moves (hm.up (by decide +kernel))
    (State.put_moves (.inr (hm.bit (by decide +kernel))) h))

theorem chopRelease_moves {m : Nat} {a : State} (hm : Sub chopMask m) (h : Moves m a s) : Moves m a (chopRelease s l v) :=
  .ite (fun _ => chopCommit_moves (hm.up (by decide +kernel)) (State.modLink_moves (hm.up (by decide +kernel)) h)) fun _ => h

/-- What the monitor reads, which no part of a sample writes. -/
def watchCfg : List Fld := [PRT_LNKl_CFG_en, PRT_LNKl_CFG_chop_en, PRT_LNKl_CFG_chop_mode, PRT_LNKl_CFG_members, PRT_LNKl_OV1_ov_warn,
  PRT_LNKl_OV1_chop_on, PRT_LNKl_OV2_ov_asc, PRT_LNKl_OV2_ov_hard, PRT_LNKl_CHOP_chop_off, PRT_LNKl_FILT_ov_filt]

theorem watchCfg_untouched : ∀ f ∈ watchCfg, (watchMask.testBit 0 || touches watchMask f) = false := by decide +kernel

theorem watched {f : Fld} (h : Moves watchMask s u) (hs : s.wf = true) (hf : f ∈ watchCfg) (i j : Nat) : u.get f i j = s.get f i j :=
  h.same hs f i j (watchCfg_untouched f hf)

theorem watchedS {f : Fld} (h : Moves watchMask s u) (hs : s.wf = true) (hf : f ∈ watchCfg) (i : Nat) : u.getS f i = s.getS f i :=
  getS_same h hs (watchCfg_untouched f hf)

theorem linkThr_same {t : Fin 3} (h : Moves watchMask s u) (hs : s.wf = true) : linkThr u l t = linkThr s l t := by
  match t with
  | 0 => exact watchedS h hs (by decide) _
  | 1 => exact watchedS h hs (by decide) _
  | 2 => exact watchedS h hs (by decide) _

theorem thrLink_base {t : Fin 3} (h : Moves watchMask s u) (hs : s.wf = true) : baseLink (thrLink u l v t) =
    passed (baseLink u.links[l]) t (decide (linkThr s l t ≤ v)) (s.get PRT_LNKl_FILT_ov_filt l.val) := by
  rw [thrLink, passed_base, linkThr_same h hs, watched h hs (by decide)]

theorem sampleTaken_watched : Moves watchMask s (sampleTaken s l v) := sampleTaken_reaches ⟨by decide +kernel⟩

theorem warned_watched : Moves watchMask s (warned s l v) := linkFilter_reaches ⟨by decide +kernel⟩ sampleTaken_watched

theorem chopped_watched : Moves watchMask s (chopped s l v) := linkFilter_reaches ⟨by decide +kernel⟩ warned_watched

theorem filtered_watched : Moves watchMask s (filtered s l v) := linkFilter_reaches ⟨by decide +kernel⟩ chopped_watched

theorem thresholded_watched : Moves watchMask s (thresholded s l v) := hardSafe_reaches ⟨by decide +kernel⟩ filtered_watched

/-- The end of a sample, after its filtered thresholds. -/
theorem linkSample_end (hen : s.get PRT_LNKl_CFG_en l.val = 1) : Moves endMask (filtered s l v) (linkSample s l v) := by
  rw [linkSample_eq hen]
  exact chopRelease_moves ⟨by decide +kernel⟩ (hardSafe_reaches ⟨Nat.and_self _⟩ .refl)

/-- The rest of a sample, after OV_WARN. -/
theorem linkSample_later (hen : s.get PRT_LNKl_CFG_en l.val = 1) : Moves laterMask (warned s l v) (linkSample s l v) := by
  rw [linkSample_eq hen]
  refine chopRelease_moves ⟨by decide +kernel⟩ (hardSafe_reaches ⟨by decide +kernel⟩ ?_)
  exact linkFilter_reaches ⟨by decide +kernel⟩ (linkFilter_reaches ⟨by decide +kernel⟩ .refl)

/-- The monitor after one sample, beside its chopper. -/
theorem linkSample_base (hs : s.wf = true) (hen : s.get PRT_LNKl_CFG_en l.val = 1) : baseLink (linkSample s l v).links[l] =
    { passed (passed (passed (baseLink (takenLink s.links[l] v)) 0 (decide (linkThr s l 0 ≤ v)) (s.get PRT_LNKl_FILT_ov_filt l.val))
      1 (decide (linkThr s l 1 ≤ v)) (s.get PRT_LNKl_FILT_ov_filt l.val)) 2 (decide (linkThr s l 2 ≤ v)) (s.get PRT_LNKl_FILT_ov_filt l.val)
      with hard := decide (s.getS PRT_LNKl_OV2_ov_hard l.val ≤ v) } := by
  have hhard : baseLink (thresholded s l v).links[l] =
      { baseLink (filtered s l v).links[l] with hard := decide (s.getS PRT_LNKl_OV2_ov_hard l.val ≤ v) } := by
    refine (baseLink_of_quiet hardSafe_link).trans ?_
    rw [watchedS filtered_watched hs (by decide)]
    rfl
  rw [linkSample_eq hen, chopRelease_base, hhard, filtered, linkFilter_base, thrLink_base chopped_watched hs, chopped, linkFilter_base,
    thrLink_base warned_watched hs, warned, linkFilter_base, thrLink_base sampleTaken_watched hs, sampleTaken_link]

/-! ### A monitor that passed a threshold -/

section
variable {k : Link} {t t' : Fin 3} {b : Bool} {F : Nat}

theorem passed_keeps {β : Type} (g : Link → β) (hg : ∀ (q : Link) c e, g { q with cnt := c, lvl := e } = g q) : g (passed k t b F) = g k := by
  unfold passed
  split
  · split
    · exact hg k _ _
    · exact hg k _ k.lvl
  · exact hg k _ _

theorem passed_hist : (passed k t b F).hist = k.hist := passed_keeps Link.hist fun _ _ _ => rfl

/-- A threshold's count and level are those of no other. -/
theorem passed_other (ht : t' ≠ t) : (passed k t b F).lvl[t'] = k.lvl[t'] ∧ (passed k t b F).cnt[t'] = k.cnt[t'] := by
  have hval : t.val ≠ t'.val := fun e => ht (Fin.ext e.symm)
  unfold passed
  repeat' split
  all_goals simp [hval]

theorem passed_met (hF : F ≤ k.cnt[t] + 1) : (passed k t true F).lvl[t] = true := by
  cases hlvl : k.lvl[t] <;> simp_all [passed]

theorem passed_below : (passed k t false F).lvl[t] = false ∧ (passed k t false F).cnt[t] = 0 := by simp [passed]

end

/-! ### The clauses -/

/-- The threshold of OV_WARN, met by the filter. -/
theorem linkSample_warns (hs : s.wf = true) (hen : s.get PRT_LNKl_CFG_en l.val = 1) (hv : s.getS PRT_LNKl_OV1_ov_warn l.val ≤ v)
    (hF : s.get PRT_LNKl_FILT_ov_filt l.val ≤ s.links[l].cnt[0] + 1) (hlvl : s.links[l].lvl[0] = false) :
    (linkSample s l v).get PRT_LNKl_STAT_warn l.val = 1 ∧ (linkSample s l v).links[l].hist = (v :: s.links[l].hist).take 16 ∧
      (linkSample s l v).links[l].lvl[0] = true := by
  have hbase := linkSample_base (v := v) hs hen
  have hthr : decide (linkThr s l 0 ≤ v) = true := decide_eq_true hv
  rw [hthr] at hbase
  refine ⟨?_, ?_, ?_⟩
  · have htaken := sampleTaken_watched (s := s) (l := l) (v := v)
    have hk : (sampleTaken s l v).links[l] = takenLink s.links[l] v := sampleTaken_link
    have hput : (warned s l v).get PRT_LNKl_STAT_warn l.val = 1 := by
      rw [warned, linkFilter_cases, if_pos (by rw [linkThr_same htaken hs]; exact hv), if_pos (by
        rw [hk, watched htaken hs (by decide)]
        simp only [Bool.and_eq_true, decide_eq_true_eq, Bool.not_eq_true']
        exact ⟨hF, hlvl⟩)]
      generalize hu : (sampleTaken s l v).modLink l _ = u
      have hwf : u.wf = true := by rw [← hu]; exact htaken.wf hs
      have hrate : Moves _ (u.put PRT_LNKl_STAT_warn 1 l.val) (linkAssert u l 0) := State.logRate_moves ⟨Nat.and_self _⟩ .refl
      rw [hrate.same (State.put_wf hwf) _ _ 0 (by decide +kernel), State.get_put_same hwf]
      rfl
    rw [(linkSample_later hen).same (warned_watched.wf hs) _ _ 0 (by decide +kernel), hput]
  · refine (congrArg Link.hist hbase).trans ?_
    exact passed_hist.trans (passed_hist.trans passed_hist)
  · refine (congrArg (fun k : Link => k.lvl[(0 : Fin 3)]) hbase).trans ?_
    exact (passed_other (by decide)).1.trans ((passed_other (by decide)).1.trans (passed_met hF))

/-- A sample below OV_WARN. -/
theorem linkSample_calm (hs : s.wf = true) (hen : s.get PRT_LNKl_CFG_en l.val = 1) (hv : v < s.getS PRT_LNKl_OV1_ov_warn l.val) :
    (linkSample s l v).get PRT_LNKl_STAT_warn l.val = 0 ∧ (linkSample s l v).links[l].lvl[0] = false ∧
      (linkSample s l v).links[l].cnt[0] = 0 := by
  have hbase := linkSample_base (v := v) hs hen
  have hthr : decide (linkThr s l 0 ≤ v) = false := decide_eq_false (Int.not_le.mpr hv)
  rw [hthr] at hbase
  refine ⟨?_, ?_, ?_⟩
  · have htaken := sampleTaken_watched (s := s) (l := l) (v := v)
    have hput : (warned s l v).get PRT_LNKl_STAT_warn l.val = 0 := by
      rw [warned, linkFilter_cases, if_neg (by rw [linkThr_same htaken hs]; exact Int.not_le.mpr hv)]
      exact State.get_put_same (s := (sampleTaken s l v).modLink l _) (htaken.wf hs)
    rw [(linkSample_later hen).same (warned_watched.wf hs) _ _ 0 (by decide +kernel), hput]
  · refine (congrArg (fun k : Link => k.lvl[(0 : Fin 3)]) hbase).trans ?_
    exact (passed_other (by decide)).1.trans ((passed_other (by decide)).1.trans passed_below.1)
  · refine (congrArg (fun k : Link => k.cnt[(0 : Fin 3)]) hbase).trans ?_
    exact (passed_other (by decide)).2.trans ((passed_other (by decide)).2.trans passed_below.2)

end

end Sys2Proof.Proofs
end

section
/-! PROOF. The chopper, OV_ASC and OV_HARD (R287, R288, R290 in O21), and what the other commands of a monitor do. -/

namespace Sys2Proof.Proofs

open Sys2Proof Sys2Proof.Machine Sys2Proof.Safety

section
variable {s u : State} {l : Lnk} {v : Int}

/-! ### The chopper (R287) -/

/-- A hysteresis chopper that is on, or that a discharge drives, runs at the whole duty. -/
theorem chopDuty_on (hmode : s.get PRT_LNKl_CFG_chop_mode l.val = 0) (hhyst : s.links[l].hyst = true) : chopDuty s l = 0x10000 := by
  rw [chopDuty, hhyst, if_pos hmode]
  exact ite_self _

theorem chopDuty_off (hmode : s.get PRT_LNKl_CFG_chop_mode l.val = 0) (hhyst : s.links[l].hyst = false)
    (hst : s.get PRT_LNKl_STAT_lstate l.val ≠ 3) : chopDuty s l = 0 := by
  have hdis : disChops s l = false := by rw [disChops, beq_false_of_ne hst]; rfl
  unfold chopDuty
  rw [hdis, if_neg Bool.false_ne_true, if_pos hmode]
  exact if_neg (by rw [hhyst]; decide)

theorem chopDuty_discharge (h : disChops s l = true) : chopDuty s l = 0x10000 := if_pos h

/-- What a monitor's chopper shows stays with a threshold that is not CHOP_ON, and with the notes of a turn-on. -/
theorem hyst_of_quiet {k q : Link} (h : quietLink k = quietLink q) : k.hyst = q.hyst ∧ k.chopDuty = q.chopDuty :=
  ⟨(congrArg Link.hyst h : (quietLink k).hyst = (quietLink q).hyst), (congrArg Link.chopDuty h : (quietLink k).chopDuty = (quietLink q).chopDuty)⟩

theorem linkFilter_hyst {t : Fin 3} (ht : t ≠ 1) : (linkFilter u l v t).links[l].hyst = u.links[l].hyst ∧
    (linkFilter u l v t).links[l].chopDuty = u.links[l].chopDuty := by
  obtain ⟨hh, hd⟩ := hyst_of_quiet (linkFilter_quiet (s := u) (l := l) (v := v) ht)
  exact ⟨hh.trans (passed_keeps Link.hyst fun _ _ _ => rfl), hd.trans (passed_keeps Link.chopDuty fun _ _ _ => rfl)⟩

/-- The chopper after all thresholds is the one that CHOP_ON left. -/
theorem thresholded_hyst : (thresholded s l v).links[l].hyst = (chopped s l v).links[l].hyst ∧
    (thresholded s l v).links[l].chopDuty = (chopped s l v).links[l].chopDuty := by
  obtain ⟨hh, hd⟩ := hyst_of_quiet (hardSafe_link (s := filtered s l v) (l := l) (v := v))
  obtain ⟨fh, fd⟩ := linkFilter_hyst (u := chopped s l v) (l := l) (v := v) (t := 2) (by decide)
  exact ⟨hh.trans fh, hd.trans fd⟩

/-- The threshold CHOP_ON, met by the filter, turns a hysteresis chopper on. -/
theorem linkSample_chopOn (hs : s.wf = true) (hen : s.get PRT_LNKl_CFG_en l.val = 1) (hchop : s.get PRT_LNKl_CFG_chop_en l.val = 1)
    (hmode : s.get PRT_LNKl_CFG_chop_mode l.val = 0) (hv : s.getS PRT_LNKl_OV1_chop_on l.val ≤ v)
    (hoff : s.getS PRT_LNKl_CHOP_chop_off l.val < v) (hF : s.get PRT_LNKl_FILT_ov_filt l.val ≤ s.links[l].cnt[1] + 1)
    (hlvl : s.links[l].lvl[1] = false) :
    (linkSample s l v).links[l].hyst = true ∧ (linkSample s l v).links[l].chopDuty = 0x10000 := by
  have hw : Moves watchMask s (warned s l v) := warned_watched
  have hbase : baseLink (warned s l v).links[l] = passed (baseLink (takenLink s.links[l] v)) 0 (decide (linkThr s l 0 ≤ v))
      (s.get PRT_LNKl_FILT_ov_filt l.val) := by
    rw [warned, linkFilter_base, thrLink_base sampleTaken_watched hs, sampleTaken_link]
  have hcnt : (warned s l v).links[l].cnt[(1 : Fin 3)] = s.links[l].cnt[1] :=
    (congrArg (fun k : Link => k.cnt[(1 : Fin 3)]) hbase).trans (passed_other (by decide)).2
  have hlvl1 : (warned s l v).links[l].lvl[(1 : Fin 3)] = false :=
    (congrArg (fun k : Link => k.lvl[(1 : Fin 3)]) hbase).trans ((passed_other (by decide)).1.trans hlvl)
  have hon : (chopped s l v).links[l].hyst = true ∧ (chopped s l v).links[l].chopDuty = 0x10000 := by
    rw [chopped, linkFilter_cases, if_pos (by rw [linkThr_same hw hs]; exact hv), if_pos (by
      rw [hcnt, hlvl1, watched hw hs (by decide)]
      simpa only [Bool.and_eq_true, decide_eq_true_eq, Bool.not_eq_true', and_true] using hF), linkAssert_chop]
    generalize hk : (fun k => passed k 1 true _) = f
    have hcfg : ∀ g ∈ watchCfg, ((warned s l v).modLink l f).get g l.val = s.get g l.val := fun g hg => watched hw hs hg _ _
    rw [if_neg (by rw [State.getB, hcfg _ (by decide), hchop]; decide), if_pos (by rw [hcfg _ (by decide), hmode])]
    have hset := chopCommit_on (s := ((warned s l v).modLink l f).modLink l fun k => { k with hyst := true }) (l := l)
      ((hcfg PRT_LNKl_CFG_en (by decide)).trans hen) ((hcfg PRT_LNKl_CFG_chop_en (by decide)).trans hchop)
    have hhyst := congrArg Link.hyst (modLink_same (s := (warned s l v).modLink l f) (l := l) fun k => { k with hyst := true })
    have hduty := chopDuty_on (s := ((warned s l v).modLink l f).modLink l fun k => { k with hyst := true }) (l := l)
      ((hcfg PRT_LNKl_CFG_chop_mode (by decide)).trans hmode) hhyst
    exact ⟨(congrArg Link.hyst hset).trans hhyst, (congrArg Link.chopDuty hset).trans hduty⟩
  have hend : linkSample s l v = thresholded s l v := by
    rw [linkSample_eq hen, chopRelease, if_neg]
    rw [watchedS thresholded_watched hs (by decide), decide_eq_false (Int.not_le.mpr hoff), Bool.and_false]
    decide
  rw [hend]
  exact ⟨thresholded_hyst.1.trans hon.1, thresholded_hyst.2.trans hon.2⟩

/-- No threshold sets the link discharging. -/
theorem linkFilter_lstate {t : Fin 3} (hs : u.wf = true) (h : u.get PRT_LNKl_STAT_lstate l.val ≠ 3) :
    (linkFilter u l v t).get PRT_LNKl_STAT_lstate l.val ≠ 3 := by
  match t with
  | 0 => rwa [(linkFilter_reaches (t := 0) ⟨Nat.and_self _⟩ .refl).same hs _ _ 0 (by decide +kernel)]
  | 1 => rwa [(linkFilter_reaches (t := 1) ⟨Nat.and_self _⟩ .refl).same hs _ _ 0 (by decide +kernel)]
  | 2 =>
    rw [linkFilter_cases]
    split
    · split
      · rw [linkAssert_asc]
        generalize hk : (fun k => passed k 2 true _) = f
        have hshown : Moves (maskOf (PRT_LNKl_STAT_ov_asc :: evFlds) (evParts ++ [Part.inflight])) (u.modLink l f)
            ((((u.modLink l f).put PRT_LNKl_STAT_ov_asc 1 l.val).logEv 0x4005 [l.val]).raise (lnkSrc l.val 0) l.val) :=
          State.raise_moves ⟨by decide +kernel⟩ (State.logEv_moves ⟨by decide +kernel⟩ (State.put_moves (.inr (by decide +kernel)) .refl))
        refine safeAll_lstate (hshown.wf hs) ?_
        rwa [hshown.same hs _ _ 0 (by decide +kernel)]
      · exact h
    · exact h

theorem hardSafe_lstate (hs : u.wf = true) (h : u.get PRT_LNKl_STAT_lstate l.val ≠ 3) :
    (hardSafe u l v).get PRT_LNKl_STAT_lstate l.val ≠ 3 := by
  unfold hardSafe
  extract_lets beyond shown marked
  have hmarked : Moves (maskOf (PRT_LNKl_STAT_ov_hard :: evFlds) (evParts ++ [Part.inflight, Part.links])) u marked :=
    State.modLink_moves ⟨by decide +kernel⟩ (State.onIf_moves .refl fun _ h => State.raise_moves ⟨by decide +kernel⟩
      (State.logEv_moves ⟨by decide +kernel⟩ (State.put_moves (.inr (by decide +kernel)) h)))
  have hst : marked.get PRT_LNKl_STAT_lstate l.val ≠ 3 := by rwa [hmarked.same hs _ _ 0 (by decide +kernel)]
  unfold State.onIf
  split
  · exact safeAll_lstate (hmarked.wf hs) hst
  · exact hst

theorem thresholded_lstate (hs : s.wf = true) (h : s.get PRT_LNKl_STAT_lstate l.val ≠ 3) :
    (thresholded s l v).get PRT_LNKl_STAT_lstate l.val ≠ 3 := by
  have htaken : (sampleTaken s l v).get PRT_LNKl_STAT_lstate l.val ≠ 3 := by
    rwa [(sampleTaken_reaches ⟨Nat.and_self _⟩).same hs _ _ 0 (by decide +kernel)]
  exact hardSafe_lstate (filtered_watched.wf hs) (linkFilter_lstate (chopped_watched.wf hs) (linkFilter_lstate (warned_watched.wf hs)
    (linkFilter_lstate (sampleTaken_watched.wf hs) htaken)))

/-- At or below `chop_off` the chopper turns off. -/
theorem linkSample_chopOff (hs : s.wf = true) (hen : s.get PRT_LNKl_CFG_en l.val = 1) (hchop : s.get PRT_LNKl_CFG_chop_en l.val = 1)
    (hmode : s.get PRT_LNKl_CFG_chop_mode l.val = 0) (hst : s.get PRT_LNKl_STAT_lstate l.val ≠ 3)
    (hoff : v ≤ s.getS PRT_LNKl_CHOP_chop_off l.val) (hv : v < s.getS PRT_LNKl_OV1_chop_on l.val) (hhyst : s.links[l].hyst = true) :
    (linkSample s l v).links[l].hyst = false ∧ (linkSample s l v).links[l].chopDuty = 0 := by
  have hwarned : (warned s l v).links[l].hyst = true := by
    refine (linkFilter_hyst (by decide)).1.trans ?_
    rw [sampleTaken_link]
    exact hhyst
  have hchopped : (chopped s l v).links[l].hyst = true := by
    rw [chopped, linkFilter_cases, if_neg (by rw [linkThr_same warned_watched hs]; exact Int.not_le.mpr hv)]
    refine (congrArg Link.hyst (modLink_same (s := warned s l v) _)).trans ?_
    exact (passed_keeps Link.hyst fun _ _ _ => rfl).trans hwarned
  have hall : (thresholded s l v).links[l].hyst = true := thresholded_hyst.1.trans hchopped
  have hlstate := thresholded_lstate (v := v) hs hst
  have hcfg : ∀ g ∈ watchCfg, (thresholded s l v).get g l.val = s.get g l.val := fun g hg => watched thresholded_watched hs hg _ _
  rw [linkSample_eq hen, chopRelease, if_pos (by rw [hall, watchedS thresholded_watched hs (by decide), decide_eq_true hoff]; rfl)]
  generalize thresholded s l v = w at hcfg hlstate ⊢
  have hset := chopCommit_on (s := w.modLink l fun k => { k with hyst := false }) (l := l) ((hcfg PRT_LNKl_CFG_en (by decide)).trans hen)
    ((hcfg PRT_LNKl_CFG_chop_en (by decide)).trans hchop)
  have hclear := congrArg Link.hyst (modLink_same (s := w) (l := l) fun k => { k with hyst := false })
  have hduty := chopDuty_off (s := w.modLink l fun k => { k with hyst := false }) (l := l)
    ((hcfg PRT_LNKl_CFG_chop_mode (by decide)).trans hmode) hclear hlstate
  exact ⟨(congrArg Link.hyst hset).trans hclear, (congrArg Link.chopDuty hset).trans hduty⟩

/-! ### OV_ASC and OV_HARD (R288, R290) -/

theorem hardSafe_sends {x : Nat × Nat} (h : x ∈ u.inflight) : x ∈ (hardSafe u l v).inflight := by
  unfold hardSafe
  extract_lets beyond shown marked
  have hshown : x ∈ marked.inflight := by
    change x ∈ shown.inflight
    unfold shown State.onIf
    split
    · rw [State.raise_inflight, State.logEv_inflight]
      exact List.mem_append_left _ h
    · exact h
  unfold State.onIf
  split
  · rwa [(safeAll_reaches ⟨Nat.and_self _⟩ .refl).part (p := .inflight) (by decide +kernel)]
  · exact hshown

theorem chopRelease_inflight : (chopRelease u l v).inflight = u.inflight :=
  (chopRelease_moves ⟨Nat.and_self _⟩ .refl).part (p := .inflight) (by decide +kernel)

/-- The threshold OV_ASC, met by the filter. -/
theorem linkSample_asc (hs : s.wf = true) (hen : s.get PRT_LNKl_CFG_en l.val = 1) (hv : s.getS PRT_LNKl_OV2_ov_asc l.val ≤ v)
    (hF : s.get PRT_LNKl_FILT_ov_filt l.val ≤ s.links[l].cnt[2] + 1) (hlvl : s.links[l].lvl[2] = false) :
    (linkSample s l v).get PRT_LNKl_STAT_ov_asc l.val = 1 ∧ (lnkSrc l.val 0, l.val) ∈ (linkSample s l v).inflight := by
  have hw : Moves watchMask s (chopped s l v) := chopped_watched
  have hbase : baseLink (chopped s l v).links[l] = passed (passed (baseLink (takenLink s.links[l] v)) 0 (decide (linkThr s l 0 ≤ v))
      (s.get PRT_LNKl_FILT_ov_filt l.val)) 1 (decide (linkThr s l 1 ≤ v)) (s.get PRT_LNKl_FILT_ov_filt l.val) := by
    rw [chopped, linkFilter_base, thrLink_base warned_watched hs, warned, linkFilter_base, thrLink_base sampleTaken_watched hs, sampleTaken_link]
  have hcnt : (chopped s l v).links[l].cnt[(2 : Fin 3)] = s.links[l].cnt[2] :=
    (congrArg (fun k : Link => k.cnt[(2 : Fin 3)]) hbase).trans ((passed_other (by decide)).2.trans (passed_other (by decide)).2)
  have hlvl2 : (chopped s l v).links[l].lvl[(2 : Fin 3)] = false := (congrArg (fun k : Link => k.lvl[(2 : Fin 3)]) hbase).trans
    ((passed_other (by decide)).1.trans ((passed_other (by decide)).1.trans hlvl))
  have hmet : (filtered s l v).get PRT_LNKl_STAT_ov_asc l.val = 1 ∧ (lnkSrc l.val 0, l.val) ∈ (filtered s l v).inflight := by
    rw [filtered, linkFilter_cases, if_pos (by rw [linkThr_same hw hs]; exact hv), if_pos (by
      rw [hcnt, hlvl2, watched hw hs (by decide)]
      simpa only [Bool.and_eq_true, decide_eq_true_eq, Bool.not_eq_true', and_true] using hF), linkAssert_asc]
    generalize hu : (chopped s l v).modLink l _ = w
    have hwf : w.wf = true := by rw [← hu]; exact hw.wf hs
    have hput : (w.put PRT_LNKl_STAT_ov_asc 1 l.val).wf = true := State.put_wf hwf
    have hraise : Moves (maskOf evFlds (evParts ++ [Part.inflight])) (w.put PRT_LNKl_STAT_ov_asc 1 l.val)
        (((w.put PRT_LNKl_STAT_ov_asc 1 l.val).logEv 0x4005 [l.val]).raise (lnkSrc l.val 0) l.val) :=
      State.raise_moves ⟨by decide +kernel⟩ (State.logEv_moves ⟨by decide +kernel⟩ .refl)
    constructor
    · rw [(safeAll_reaches ⟨Nat.and_self _⟩ .refl).same (hraise.wf hput) _ _ 0 (by decide +kernel), hraise.same hput _ _ 0 (by decide +kernel),
        State.get_put_same hwf]
      rfl
    · rw [(safeAll_reaches ⟨Nat.and_self _⟩ .refl).part (p := .inflight) (by decide +kernel)]
      exact List.mem_append_right _ List.mem_cons_self
  constructor
  · rw [(linkSample_end hen).same (filtered_watched.wf hs) _ _ 0 (by decide +kernel), hmet.1]
  · rw [linkSample_eq hen, chopRelease_inflight]
    exact hardSafe_sends hmet.2

/-- A sample at OV_HARD or beyond puts every member into SAFE, whatever came before. -/
theorem linkSample_hard_safe (hs : s.wf = true) (hen : s.get PRT_LNKl_CFG_en l.val = 1) (hv : s.getS PRT_LNKl_OV2_ov_hard l.val ≤ v)
    {n : Ch} (hn : n ∈ members s l) : (linkSample s l v).chState n.val = 6 := by
  have hbeyond : decide ((filtered s l v).getS PRT_LNKl_OV2_ov_hard l.val ≤ v) = true := by
    rw [watchedS filtered_watched hs (by decide)]
    exact decide_eq_true hv
  have hwf : (filtered s l v).wf = true := filtered_watched.wf hs
  have hmem : n ∈ members (filtered s l v) l := by rwa [members_of_moves filtered_watched hs (watchCfg_untouched _ (by decide))]
  have hsafe : (thresholded s l v).chState n.val = 6 := by
    unfold thresholded hardSafe
    generalize filtered s l v = w at hbeyond hwf hmem ⊢
    extract_lets beyond shown marked
    have hmarked : Moves (maskOf (PRT_LNKl_STAT_ov_hard :: evFlds) (evParts ++ [Part.inflight, Part.links])) w marked :=
      State.modLink_moves ⟨by decide +kernel⟩ (State.onIf_moves .refl fun _ h => State.raise_moves ⟨by decide +kernel⟩
        (State.logEv_moves ⟨by decide +kernel⟩ (State.put_moves (.inr (by decide +kernel)) h)))
    have hon : beyond = true := hbeyond
    rw [hon]
    exact safeAll_chState (hmarked.wf hwf) (by rwa [members_of_moves hmarked hwf (by decide +kernel)])
  rw [linkSample_eq hen, State.chState, (chopRelease_moves ⟨Nat.and_self _⟩ .refl).same (thresholded_watched.wf hs) _ _ 0 (by decide +kernel)]
  exact hsafe

/-- The first sample at OV_HARD or beyond is shown and raised. -/
theorem linkSample_hard (hs : s.wf = true) (hen : s.get PRT_LNKl_CFG_en l.val = 1) (hv : s.getS PRT_LNKl_OV2_ov_hard l.val ≤ v)
    (hfirst : s.links[l].hard = false) : (linkSample s l v).get PRT_LNKl_STAT_ov_hard l.val = 1 ∧ (linkSample s l v).links[l].hard = true ∧
      (lnkSrc l.val 1, l.val) ∈ (linkSample s l v).inflight := by
  have hbase := linkSample_base (v := v) hs hen
  have hbeyond : decide ((filtered s l v).getS PRT_LNKl_OV2_ov_hard l.val ≤ v) = true := by
    rw [watchedS filtered_watched hs (by decide)]
    exact decide_eq_true hv
  have hnot : (filtered s l v).links[l].hard = false := by
    have hfilt : baseLink (filtered s l v).links[l] = _ := linkFilter_base.trans (thrLink_base chopped_watched hs)
    rw [chopped, linkFilter_base, thrLink_base warned_watched hs, warned, linkFilter_base, thrLink_base sampleTaken_watched hs,
      sampleTaken_link] at hfilt
    refine (congrArg Link.hard hfilt).trans ?_
    exact (passed_keeps Link.hard fun _ _ _ => rfl).trans ((passed_keeps Link.hard fun _ _ _ => rfl).trans
      ((passed_keeps Link.hard fun _ _ _ => rfl).trans hfirst))
  have hwf : (filtered s l v).wf = true := filtered_watched.wf hs
  have hshown : (thresholded s l v).get PRT_LNKl_STAT_ov_hard l.val = 1 ∧ (lnkSrc l.val 1, l.val) ∈ (thresholded s l v).inflight := by
    unfold thresholded hardSafe
    generalize filtered s l v = w at hbeyond hwf hnot ⊢
    extract_lets beyond shown marked
    have hon : (beyond && !w.links[l].hard) = true := by rw [hnot]; exact congrArg (· && true) hbeyond
    have hshow : shown = ((w.put PRT_LNKl_STAT_ov_hard 1 l.val).logEv 0x4006 [l.val]).raise (lnkSrc l.val 1) l.val := by
      unfold shown
      rw [hon]
      rfl
    have hput : (w.put PRT_LNKl_STAT_ov_hard 1 l.val).wf = true := State.put_wf hwf
    have hmarked : Moves (maskOf evFlds (evParts ++ [Part.inflight, Part.links])) (w.put PRT_LNKl_STAT_ov_hard 1 l.val) marked := by
      unfold marked
      rw [hshow]
      exact State.modLink_moves ⟨by decide +kernel⟩ (State.raise_moves ⟨by decide +kernel⟩ (State.logEv_moves ⟨by decide +kernel⟩ .refl))
    have hend : Moves safeMask marked (marked.onIf beyond fun s => safeAll s l (lnkSrc l.val 1)) :=
      State.onIf_moves .refl fun _ h => safeAll_reaches ⟨Nat.and_self _⟩ h
    constructor
    · rw [hend.same (hmarked.wf hput) _ _ 0 (by decide +kernel), hmarked.same hput _ _ 0 (by decide +kernel), State.get_put_same hwf]
      rfl
    · rw [hend.part (p := .inflight) (by decide +kernel)]
      change _ ∈ shown.inflight
      rw [hshow]
      exact List.mem_append_right _ List.mem_cons_self
  refine ⟨?_, ?_, ?_⟩
  · rw [linkSample_eq hen, (chopRelease_moves ⟨Nat.and_self _⟩ .refl).same (thresholded_watched.wf hs) _ _ 0 (by decide +kernel)]
    exact hshown.1
  · exact (congrArg Link.hard hbase).trans (decide_eq_true hv)
  · rw [linkSample_eq hen, chopRelease_inflight]
    exact hshown.2

/-! ### CHOP_FAIL (R288, R289) -/

theorem putAll_get {ms : List Ch} {f : Fld} {n : Ch} (hs : s.wf = true) (h : n ∈ ms ∨ s.get f n.val = 1) (hw : 0 < f.width) :
    (s.forL ms (fun m s => s.put f 1 m.val)).get f n.val = 1 := by
  have hone : 1 % 2 ^ f.width = 1 := Nat.mod_eq_of_lt (Nat.one_lt_two_pow (by omega))
  induction ms generalizing s with
  | nil => exact h.resolve_left List.not_mem_nil
  | cons m ms ih =>
    refine ih (s := s.put f 1 m.val) (State.put_wf hs) ?_
    by_cases hn : n = m
    · subst hn
      exact .inr ((State.get_put_same hs).trans hone)
    · refine h.imp (fun h => (List.mem_cons.mp h).resolve_left hn) fun h => ?_
      rwa [State.get_put_key hs (key_ne_of_ne (by decide) hn _)]

/-- CHOP_FAIL where it has not been declared: the clamp on every member. -/
theorem chopFail_shows (hs : s.wf = true) (hnew : s.get PRT_LNKl_STAT_chop_fail l.val = 0) :
    (chopFail s l).get PRT_LNKl_STAT_chop_fail l.val = 1 ∧ (chopFail s l).get PRT_LNKl_STAT_motoring_only l.val = 1 ∧
      (chopFail s l).inflight = s.inflight ++ [(lnkSrc l.val 2, l.val)] ∧
      ∀ n : Ch, n ∈ members s l → (chopFail s l).get CHn_STATE_motoring_only n.val = 1 := by
  have hfirst : s.getB PRT_LNKl_STAT_chop_fail l.val = false := by rw [State.getB, hnew]; rfl
  unfold chopFail
  rw [hfirst, if_neg Bool.false_ne_true]
  extract_lets u w
  have hfail : (s.put PRT_LNKl_STAT_chop_fail 1 l.val).wf = true := State.put_wf hs
  have hu : Moves (maskOf evFlds (evParts ++ [Part.inflight])) (s.put PRT_LNKl_STAT_chop_fail 1 l.val) u :=
    State.raise_moves ⟨by decide +kernel⟩ (State.logEv_moves ⟨by decide +kernel⟩ .refl)
  have huwf : u.wf = true := hu.wf hfail
  have hput : (u.put PRT_LNKl_STAT_motoring_only 1 l.val).wf = true := State.put_wf huwf
  have hw : Moves (maskOf evFlds evParts) (u.put PRT_LNKl_STAT_motoring_only 1 l.val) w := State.logEv_moves ⟨by decide +kernel⟩ .refl
  have hall : Moves (maskOf [CHn_STATE_motoring_only] []) w (w.forL (members w l) fun n s => s.put CHn_STATE_motoring_only 1 n.val) :=
    State.forL_moves .refl fun _ _ h => State.put_moves (.inr (by decide +kernel)) h
  have hwf : w.wf = true := hw.wf hput
  refine ⟨?_, ?_, ?_, fun n hn => putAll_get hwf (.inl ?_) (by decide)⟩
  · rw [hall.same hwf _ _ 0 (by decide +kernel), hw.same hput _ _ 0 (by decide +kernel), State.get_put_ne huwf (by decide),
      hu.same hfail _ _ 0 (by decide +kernel), State.get_put_same hs]
    rfl
  · rw [hall.same hwf _ _ 0 (by decide +kernel), hw.same hput _ _ 0 (by decide +kernel), State.get_put_same huwf]
    rfl
  · rw [hall.part (p := .inflight) (by decide +kernel), hw.part (p := .inflight) (by decide +kernel)]
    change u.inflight = _
    unfold u
    rw [State.raise_inflight, State.logEv_inflight]
    rfl
  · rwa [members_of_moves hw hput (by decide +kernel), members_put huwf (by decide), members_of_moves hu hfail (by decide +kernel),
      members_put hs (by decide)]

/-! ### The start of a monitor (R284) -/

/-- The register that configures a monitor. -/
def linkReg : Reg := ⟨"PRT_LNKl_CFG", 0x40401000, 2, 0x40, 1, 0, [PRT_LNKl_CFG_en, PRT_LNKl_CFG_members, PRT_LNKl_CFG_ichop_ain,
  PRT_LNKl_CFG_ichop_en, PRT_LNKl_CFG_pre_leg, PRT_LNKl_CFG_pre_en, PRT_LNKl_CFG_chop_leg, PRT_LNKl_CFG_chop_en, PRT_LNKl_CFG_chop_mode,
  PRT_LNKl_CFG_vdc_ain]⟩

/-- The register without its enable. -/
def linkRest : Reg := { linkReg with flds := linkReg.flds.tail }

theorem linkRest_flds : ∀ f ∈ linkRest.flds, f.acc = .rw ∧ f.id ≠ PRT_LNKl_CFG_en.id ∧ f.lsb + f.width ≤ 32 ∧
    f ∈ [PRT_LNKl_CFG_members, PRT_LNKl_CFG_ichop_ain, PRT_LNKl_CFG_ichop_en, PRT_LNKl_CFG_pre_leg, PRT_LNKl_CFG_pre_en,
        PRT_LNKl_CFG_chop_leg, PRT_LNKl_CFG_chop_en, PRT_LNKl_CFG_chop_mode, PRT_LNKl_CFG_vdc_ain] := by decide +kernel

variable {a : Access} {w : Nat}

/-- A write of the enable alone. -/
theorem applyWr_linkEnable (hs : s.wf = true) (hen : w / 2 ^ 31 % 2 = 1)
    (hsame : ∀ f ∈ [PRT_LNKl_CFG_members, PRT_LNKl_CFG_ichop_ain, PRT_LNKl_CFG_ichop_en, PRT_LNKl_CFG_pre_leg, PRT_LNKl_CFG_pre_en,
        PRT_LNKl_CFG_chop_leg, PRT_LNKl_CFG_chop_en, PRT_LNKl_CFG_chop_mode, PRT_LNKl_CFG_vdc_ain],
      w / 2 ^ f.lsb % 2 ^ f.width = s.get f l.val) : applyWr s ⟨linkReg, l.val, 0, w % 2 ^ 32⟩ [] = s.put PRT_LNKl_CFG_en 1 l.val := by
  have hbit : (⟨linkReg, l.val, 0, w % 2 ^ 32⟩ : Wr).bits PRT_LNKl_CFG_en = 1 := (bits_of_word (by decide)).trans hen
  have hfirst : applyWr s ⟨linkReg, l.val, 0, w % 2 ^ 32⟩ [] =
      applyWr (s.put PRT_LNKl_CFG_en ((⟨linkReg, l.val, 0, w % 2 ^ 32⟩ : Wr).bits PRT_LNKl_CFG_en) l.val) ⟨linkRest, l.val, 0, w % 2 ^ 32⟩ [] := rfl
  rw [hfirst, hbit]
  refine applyWr_of_get (State.put_wf hs) fun f hf => .inr ?_
  obtain ⟨hacc, hid, hlow, hmem⟩ := linkRest_flds f hf
  refine ⟨hacc, (bits_of_word hlow).trans ((hsame f hmem).trans ?_)⟩
  exact (State.get_put_ne hs hid).symm

/-- The checks of the configuration and of the order do not read the enable. -/
theorem linkChecks_put (hs : s.wf = true) : linkCfgOk (s.put PRT_LNKl_CFG_en 1 l.val) l.val = linkCfgOk s l.val ∧
    linkOrderOk (s.put PRT_LNKl_CFG_en 1 l.val) l = linkOrderOk s l ∧ membersOff (s.put PRT_LNKl_CFG_en 1 l.val) l.val = membersOff s l.val := by
  refine ⟨?_, ?_, ?_⟩
  · simp (disch := decide) only [linkCfgOk, State.getB, State.get_put_ne hs]
  · simp (disch := decide) only [linkOrderOk, State.getS, State.getB, State.get_put_ne hs]
    rfl
  · simp (disch := decide) only [membersOff, State.getBit, State.chState, State.get_put_ne hs]

theorem preWrite_linkEnable (hs : s.wf = true) (hoff : s.get PRT_LNKl_CFG_en l.val = 0) (hmem : membersOff s l.val = true)
    (hok : linkCfgOk s l.val = true) (hord : linkOrderOk s l = true) :
    preWrite s (s.put PRT_LNKl_CFG_en 1 l.val) a ⟨linkReg, l.val, 0, w⟩ = vPass := by
  obtain ⟨hcfg, horder, hoffs⟩ := linkChecks_put (l := l) hs
  have hwas : s.getB PRT_LNKl_CFG_en l.val = false := by rw [State.getB, hoff]; rfl
  have hon : (s.put PRT_LNKl_CFG_en 1 l.val).getB PRT_LNKl_CFG_en l.val = true := by rw [State.getB, State.get_put_same hs]; rfl
  have hl : (⟨l.val % 2, Nat.mod_lt _ (by omega)⟩ : Lnk) = l := Fin.ext (Nat.mod_eq_of_lt l.isLt)
  have hblock : preWrite s (s.put PRT_LNKl_CFG_en 1 l.val) a ⟨linkReg, l.val, 0, w⟩ =
      prePrt s (s.put PRT_LNKl_CFG_en 1 l.val) ⟨linkReg, l.val, 0, w⟩ := by simp [preWrite, blockOf, linkReg]
  have hdig : (⟨linkReg, l.val, 0, w⟩ : Wr).is PRT_LS_CTL_dig_per = false := rfl
  have hthis : (⟨linkReg, l.val, 0, w⟩ : Wr).is PRT_LNKl_CFG_en = true := rfl
  simp only [hblock, prePrt, hdig, hthis, hwas, hon, hcfg, horder, hoffs, hmem, hok, hl, hord]
  rfl

theorem exec_linkEnable (hadm : Admits s a) (hoff : s.get PRT_LNKl_CFG_en l.val = 0) (hen : w / 2 ^ 31 % 2 = 1)
    (hsame : ∀ f ∈ [PRT_LNKl_CFG_members, PRT_LNKl_CFG_ichop_ain, PRT_LNKl_CFG_ichop_en, PRT_LNKl_CFG_pre_leg, PRT_LNKl_CFG_pre_en,
        PRT_LNKl_CFG_chop_leg, PRT_LNKl_CFG_chop_en, PRT_LNKl_CFG_chop_mode, PRT_LNKl_CFG_vdc_ain],
      w / 2 ^ f.lsb % 2 ^ f.width = s.get f l.val) (hmem : membersOff s l.val = true)
    (hok : linkCfgOk s l.val = true) (hord : linkOrderOk s l = true) :
    exec (.linkEnable a l w) s = .next ((linkStart (s.put PRT_LNKl_CFG_en 1 l.val) l).answer a.ini .none) := by
  obtain ⟨⟨hheld, hs⟩, hp, hlock, hc⟩ := hadm
  have hreg : regOf (PRT_LNKl_CFG_en.at l.val 0) = some (linkReg, l.val, 0) := regOf_PRT_LNKl_CFG l
  have hbus : busAddr (PRT_LNKl_CFG_en.at l.val 0) = true := by fin_cases l <;> rfl
  have hon : (s.put PRT_LNKl_CFG_en 1 l.val).getB PRT_LNKl_CFG_en l.val = true := by rw [State.getB, State.get_put_same hs]; rfl
  have hwas : s.getB PRT_LNKl_CFG_en l.val = false := by rw [State.getB, hoff]; rfl
  have hmod : l.val % 2 = l.val := Nat.mod_eq_of_lt l.isLt
  change wrFld s a PRT_LNKl_CFG_en l.val 0 w = _
  rw [wrFld, live_run s hheld, busWrite_reg hc hp hbus hreg rfl, writeReg_open hlock]
  simp only [applyWr_linkEnable hs hen hsame, preWrite_linkEnable hs hoff hmem hok hord, vPass, List.isEmpty_nil, if_true,
    postWrite_PRT_LNKl_CFG (w := ⟨linkReg, l.val, 0, w % 2 ^ 32⟩) rfl, hmod, hon, hwas]
  rfl

/-! ### The other commands -/

theorem linkStarved_shows (hheld : s.dev.held = false) (hs : s.wf = true) (hen : s.get PRT_LNKl_CFG_en l.val = 1) :
    ∃ t, exec (.linkStarved l) s = .next t ∧ t.get PRT_LNKl_STAT_starved l.val = 1 ∧
      t.inflight = s.inflight ++ [(lnkSrc l.val 5, l.val)] ∧ Logged s t 0x400B [l.val] := by
  have hon : s.getB PRT_LNKl_CFG_en l.val = true := by rw [State.getB, hen]; rfl
  have hput : ((s.modLink l (fun k => { k with starve := true })).put PRT_LNKl_STAT_starved 1 l.val).wf = true :=
    State.put_wf (s := s.modLink l _) hs
  refine ⟨(((s.modLink l (fun k => { k with starve := true })).put PRT_LNKl_STAT_starved 1 l.val).logEv 0x400B [l.val]).raise
    (lnkSrc l.val 5) l.val, ?_, ?_, ?_, fun hroom => ?_⟩
  · change live s _ = _
    rw [live_run s hheld, hon]
    rfl
  · rw [State.raise_get, (State.logEv_moves ⟨Nat.and_self _⟩ .refl).same hput _ _ 0 (by decide +kernel)]
    exact State.get_put_same (s := s.modLink l _) hs
  · rw [State.raise_inflight, State.logEv_inflight]
    rfl
  · rw [State.raise_log]
    exact logEv_mem (Nat.lt_of_lt_of_le hroom (by decide))

theorem chopConfirm_fails {ic : Option Int} (hheld : s.dev.held = false) (hen : s.get PRT_LNKl_CFG_en l.val = 1)
    (hts : s.links[l].onTs.isSome = true) (hon : s.get PRT_LNKl_STAT_chop l.val = 1) (hmean : s.links[l].von < mean16 s.links[l]) :
    exec (.chopConfirm l ic) s = .next (chopFail s l) := by
  have hcond : ∀ b : Bool, (s.getB PRT_LNKl_CFG_en l.val && s.links[l].onTs.isSome && s.getB PRT_LNKl_STAT_chop l.val &&
      (decide (s.links[l].von < mean16 s.links[l]) || b)) = true := fun b => by
    rw [State.getB, State.getB, hen, hon, hts, decide_eq_true hmean]
    rfl
  change execChopConfirm l ic s = _
  unfold execChopConfirm
  rw [live_run s hheld]
  dsimp only
  rw [hcond, State.onIf_true]

/-- A monitor that starts has no sample. -/
theorem linkStart_link : (linkStart s l).links[l].hist = [] ∧ (linkStart s l).links[l].got = 0 :=
  ⟨congrArg Link.hist (modLink_same (s := s) _), congrArg Link.got (modLink_same (s := s) _)⟩

/-- One command more of samples is one sample more. -/
theorem linkSamples_cons {rest : List Int} (hheld : s.dev.held = false) : ∃ t, exec (.ovWarn l [v]) s = .next t ∧
    exec (.ovWarn l (v :: rest)) s = exec (.ovWarn l rest) t := by
  have hlive : (linkSample s l v).dev.held = false := by
    rw [(linkSample_moves ⟨Nat.and_self _⟩ .refl).part (p := .dev) (by decide +kernel)]
    exact hheld
  refine ⟨linkSample s l v, live_run (f := fun s => linkSamples s l [v]) s hheld, ?_⟩
  exact (live_run (f := fun s => linkSamples s l (v :: rest)) s hheld).trans
    (live_run (f := fun s => linkSamples s l rest) (linkSample s l v) hlive).symm

/-- The commands of the monitors' thresholds differ by name alone. -/
theorem linkCommands_same {codes : List Int} : exec (.chopOn l codes) s = exec (.ovWarn l codes) s ∧
    exec (.chopOff l codes) s = exec (.ovWarn l codes) s ∧ exec (.ovAsc l codes) s = exec (.ovWarn l codes) s ∧
      exec (.ovHard l codes) s = exec (.ovWarn l codes) s ∧ exec (.linkThresholdDeassert l codes) s = exec (.ovWarn l codes) s :=
  ⟨rfl, rfl, rfl, rfl, rfl⟩

/-! ### The obligation -/

/-- Settles O21. -/
theorem linkMonitors : Obligations.LinkMonitors := by
  intro s a l v rest w ic ⟨hheld, hs⟩ k filt
  have hone : ∀ v, live s (fun s => linkSamples s l [v]) = .next (linkSample s l v) := fun v =>
    live_run (f := fun s => linkSamples s l [v]) s hheld
  refine ⟨fun hen hv hF hlvl => ⟨_, hone v, linkSample_warns hs hen hv hF hlvl⟩,
    fun hen hchop hmode hv hoff hF hlvl => ⟨_, hone v, linkSample_chopOn hs hen hchop hmode hv hoff hF hlvl⟩,
    fun hen hchop hmode hst hoff hv hhyst => ⟨_, hone v, linkSample_chopOff hs hen hchop hmode hst hoff hv hhyst⟩,
    fun hen hv hF hlvl => ⟨_, hone v, linkSample_asc hs hen hv hF hlvl⟩, fun hen hv hfirst => ⟨_, hone v, linkSample_hard hs hen hv hfirst⟩,
    fun hen hv => ⟨_, hone v, fun n hn => linkSample_hard_safe hs hen hv hn⟩, fun hen hv => ⟨_, hone v, linkSample_calm hs hen hv⟩,
    linkSamples_cons hheld, linkCommands_same, linkStarved_shows hheld hs, fun hen hchop => ?commit,
    fun hen hts hon hmean hnew => ⟨_, chopConfirm_fails hheld hen hts hon hmean, chopFail_shows hs hnew⟩,
    fun hadm hoff hen hsame hmem hok hord => ⟨_, exec_linkEnable hadm hoff hen hsame hmem hok hord, ?enabled, linkStart_link⟩⟩
  case commit =>
    have hset := congrArg Link.chopDuty (chopCommit_on (l := l) hen hchop)
    exact ⟨chopCommit s l, live_run (f := fun s => chopCommit s l) s hheld, hset, fun hdis => hset.trans (chopDuty_discharge hdis)⟩
  case enabled =>
    rw [State.answer_get]
    exact State.get_put_same hs

end

end Sys2Proof.Proofs
end

section
/-! PROOF. The channel commands (R271 to R275, R279, R281, R292, R293 in O20): what each makes of its channel, and the completion that
leaves it so. -/

namespace Sys2Proof.Proofs

open Sys2Proof Sys2Proof.Machine Sys2Proof.Safety

section
variable {s u t : State} {n : Ch} {l : Lnk}

/-! ### RUN (R272) -/

theorem runTask_grows : Grows s (runTask s n) := by
  unfold runTask
  extract_lets unk task u v
  split
  · exact (Grows.refl s).modFld.modFld.put.put
  · unfold taskBegin driveVec
    refine Grows.forL (Grows.modFld ?_) fun ki w h => h.modLeg.trans (legApply_grows _ _ _ _)
    exact Grows.log ((Grows.refl s).modFld.modFld.put.put)
      ((taskFreeze_moves ⟨Nat.and_self _⟩ .refl).part (p := .log) (by decide +kernel))

theorem spEnter_grows : Grows s (spEnter s n) :=
  (Grows.of_log ((spInit_moves ⟨Nat.and_self _⟩ .refl).part (p := .log) (by decide +kernel))).trans runTask_grows

/-- What logs one event at most adds three to the intake. -/
theorem onIf_logEv_length {c : Bool} {code : Nat} {items : List Nat} :
    (s.onIf c fun s => s.logEv code items).log.intake.length ≤ s.log.intake.length + 3 := by
  unfold State.onIf
  split
  · exact logEv_intake_length s code items
  · exact Nat.le_add_right _ _

theorem absentShow_length : (absentShow s n).log.intake.length ≤ s.log.intake.length + 24 := by
  unfold absentShow State.forN
  suffices h : ∀ (l : List Nat) (u : State), (l.foldl (fun s k => (s.putBit SPn_FBSTAT_absent k (measRead s n.val k && measAbsent s n k)
      n.val).onIf (measRead s n.val k && measAbsent s n k) (fun s => s.logEv 0x310E [n.val, k])) u).log.intake.length ≤
        u.log.intake.length + 3 * l.length from h (List.range 8) s
  intro l
  induction l with
  | nil => exact fun u => le_rfl
  | cons k l ih =>
    intro u
    have hone := onIf_logEv_length (s := u.putBit SPn_FBSTAT_absent k (measRead u n.val k && measAbsent u n k) n.val)
      (c := measRead u n.val k && measAbsent u n k) (code := 0x310E) (items := [n.val, k])
    rw [State.putBit_log] at hone
    refine (ih _).trans ?_
    rw [List.length_cons]
    beta_reduce
    omega

/-- The states of a channel that is let into RUN. -/
theorem enterRun_shows {cause : Nat} (hs : s.wf = true) : (enterRun s n cause).chState n.val = 3 ∧
    (enterRun s n cause).get CHn_STATE_prev n.val = s.chState n.val % 8 ∧
      (s.log.intake.length < 30 → (0x2410, [n.val, s.chState n.val, 3, cause]) ∈ (enterRun s n cause).log.intake) := by
  have habsent : Moves _ s (absentShow s n) := absentShow_moves ⟨Nat.and_self _⟩ .refl
  have hwf : (absentShow s n).wf = true := habsent.wf hs
  have hsame : (absentShow s n).chState n.val = s.chState n.val := habsent.same hs _ _ 0 (by decide +kernel)
  have hlength := absentShow_length (s := s) (n := n)
  unfold enterRun
  rw [← hsame]
  generalize absentShow s n = u at hwf hlength ⊢
  extract_lets v
  have hv : v.wf = true := setState_wf hwf
  have henter : Moves _ (v.modChan n _) (spEnter (v.modChan n fun c => { c with outEn := false, resume := false, cold := none }) n) :=
    spEnter_moves ⟨Nat.and_self _⟩ .refl
  have hgrows : Grows v (spEnter (v.modChan n fun c => { c with outEn := false, resume := false, cold := none }) n) :=
    (Grows.refl v).modChan.trans spEnter_grows
  refine ⟨?_, ?_, fun hroom => hgrows _ (setState_logs (by omega))⟩
  · rw [State.chState, henter.same hv _ _ 0 (by decide +kernel)]
    exact (setState_chState hwf).trans (if_pos rfl)
  · rw [henter.same hv _ _ 0 (by decide +kernel)]
    exact setState_prev hwf

/-! ### Commands of the MP -/

variable {c : Ctx} {p : List Nat} {st : Nat}

/-- The budgets as CH_ENABLE shows them first. -/
theorem enableShown_moves : Moves (maskOf [CHn_BUDGET_lat_full, CHn_BUDGET_budget, SETTp_BUDGET_d_line, SETTp_BUDGET_d_ring] []) s
    (settShowFor (budgetShow s n) n) := settShowFor_moves ⟨by decide +kernel⟩ (budgetShow_moves ⟨by decide +kernel⟩ .refl)

theorem lsBroken_shown (hs : s.wf = true) : lsBroken (settShowFor (budgetShow s n) n) n = lsBroken s n := by
  have hsame : ∀ f i, touches (maskOf [CHn_BUDGET_lat_full, CHn_BUDGET_budget, SETTp_BUDGET_d_line, SETTp_BUDGET_d_ring] []) f = false →
      (settShowFor (budgetShow s n) n).get f i = s.get f i := fun f i hf => enableShown_moves.same hs f i 0 (by rw [hf]; decide +kernel)
  simp (disch := decide +kernel) only [lsBroken, State.getBit, State.getB, hsame]
  rfl

/-- A channel command that the MP serves ends in the state that its operation gives, completed. -/
theorem chOp_done {op : Nat} {g : State → Ch → Nat × State} {f : State → Ctx → List Nat → OpRes} (hop : f = fun s c _ => opStat (g s (chOf c.chan)))
    (h : Serves s c op p) (heq : g s (chOf c.chan) = (st, u)) (hpwr : u.pwr = s.pwr) :
    opRow op f c p s = .next (complete u { c with opcode := op } st) := by
  refine opRow_of_done (res := []) h ?_ fun hst => by rwa [← hpwr]
  rw [hop]
  exact congrArg opStat heq

theorem complete_chState (hs : s.wf = true) : (complete s c st).chState n.val = s.chState n.val := complete_get hs (by decide +kernel)

theorem complete_chan : (complete s c st).chan n.val = s.chan n.val := by
  rw [State.chan, State.chan, complete_reaches.part (p := .chans) (by decide +kernel)]

/-! ### CH_ENABLE (R272) -/

theorem shown_standby (hs : s.wf = true) (hrole : s.get TLS_STAT_role ≠ 2) : isStandby (settShowFor (budgetShow s n) n) = false := by
  rw [isStandby, enableShown_moves.same hs _ _ 0 (by decide +kernel)]
  exact beq_false_of_ne hrole

theorem shown_chState (hs : s.wf = true) : (settShowFor (budgetShow s n) n).chState n.val = s.chState n.val :=
  enableShown_moves.same hs _ _ 0 (by decide +kernel)

theorem chEnable_ready (hs : s.wf = true) (hrole : s.get TLS_STAT_role ≠ 2) (hls : lsBroken s n = false) (hst : s.chState n.val = 2)
    (hchecks : enableChecks (settShowFor (budgetShow s n) n) n = true) :
    chEnable s n = (0, enterRun (settShowFor (budgetShow s n) n) n 0xFF) := by
  unfold chEnable
  simp only [shown_standby hs hrole, lsBroken_shown hs, hls, shown_chState hs, hst, hchecks, Bool.or_false, Bool.false_eq_true, if_false, if_true]

theorem chEnable_stopping (hs : s.wf = true) (hrole : s.get TLS_STAT_role ≠ 2) (hls : lsBroken s n = false) (hst : s.chState n.val = 4)
    (hsafety : s.get CHn_STATE_safety n.val = 0) (hresume : s.get CHn_SAFECFG_stop_resume n.val = 1) :
    chEnable s n = (0, (settShowFor (budgetShow s n) n).modChan n (fun c => { c with resume := true })) := by
  have hshown : ∀ f, touches (maskOf [CHn_BUDGET_lat_full, CHn_BUDGET_budget, SETTp_BUDGET_d_line, SETTp_BUDGET_d_ring] []) f = false →
      (settShowFor (budgetShow s n) n).get f n.val = s.get f n.val := fun f hf => enableShown_moves.same hs f _ 0 (by rw [hf]; decide +kernel)
  have hcond : (!(settShowFor (budgetShow s n) n).getB CHn_STATE_safety n.val &&
      (settShowFor (budgetShow s n) n).getB CHn_SAFECFG_stop_resume n.val) = true := by
    rw [State.getB, State.getB, hshown _ (by decide +kernel), hshown _ (by decide +kernel), hsafety, hresume]
    rfl
  unfold chEnable
  simp only [shown_standby hs hrole, lsBroken_shown hs, hls, shown_chState hs, hst, hcond, Bool.or_false, Bool.false_eq_true, if_false, if_true]

/-- The enable of a channel in READY. -/
theorem chEnable_runs (h : Serves s c 0x10 p) (hn : chOf c.chan = n) (hrole : s.get TLS_STAT_role ≠ 2) (hls : lsBroken s n = false)
    (hst : s.chState n.val = 2) (hchecks : enableChecks (settShowFor (budgetShow s n) n) n = true) :
    ∃ t, exec (.chEnable c p) s = .next t ∧ t.chState n.val = 3 ∧ t.get CHn_STATE_prev n.val = 2 ∧
      (s.log.intake.length < 30 → (0x2410, [n.val, 2, 3, 0xFF]) ∈ t.log.intake) := by
  have hs := h.1.2
  have hshown := enableShown_moves (s := s) (n := n)
  have hrun := chOp_done (c := c) (g := chEnable) (f := opChEnable) rfl h (by rw [hn]; exact chEnable_ready hs hrole hls hst hchecks)
    (((enterRun_moves ⟨Nat.and_self _⟩ .refl).part (p := .pwr) (by decide +kernel)).trans (hshown.part (p := .pwr) (by decide +kernel)))
  obtain ⟨hstate, hprev, hlog⟩ := enterRun_shows (n := n) (cause := 0xFF) (hshown.wf hs)
  have hwf : (enterRun (settShowFor (budgetShow s n) n) n 0xFF).wf = true := (enterRun_moves ⟨Nat.and_self _⟩ .refl).wf (hshown.wf hs)
  rw [shown_chState hs, hst] at hprev hlog
  rw [hshown.part (p := .log) (by decide +kernel)] at hlog
  refine ⟨_, hrun, (complete_chState hwf).trans hstate, (complete_get hwf (by decide +kernel)).trans hprev, fun hroom => ?_⟩
  exact complete_grows _ (hlog hroom)

/-- The enable of a channel in STOPPING that may resume. -/
theorem chEnable_resumes (h : Serves s c 0x10 p) (hn : chOf c.chan = n) (hrole : s.get TLS_STAT_role ≠ 2) (hls : lsBroken s n = false)
    (hst : s.chState n.val = 4) (hsafety : s.get CHn_STATE_safety n.val = 0) (hresume : s.get CHn_SAFECFG_stop_resume n.val = 1) :
    ∃ t, exec (.chEnable c p) s = .next t ∧ t.chState n.val = 4 ∧ (t.chan n.val).resume = true := by
  have hs := h.1.2
  have hshown := enableShown_moves (s := s) (n := n)
  have hrun := chOp_done (c := c) (g := chEnable) (f := opChEnable)
    (u := (settShowFor (budgetShow s n) n).modChan n (fun c => { c with resume := true })) rfl h
    (by rw [hn]; exact chEnable_stopping hs hrole hls hst hsafety hresume) (hshown.part (p := .pwr) (by decide +kernel))
  refine ⟨_, hrun, ?_, ?_⟩
  · exact (complete_chState (s := (settShowFor (budgetShow s n) n).modChan n _) (hshown.wf hs)).trans ((shown_chState hs).trans hst)
  · rw [complete_chan]
    exact congrArg Chan.resume (modChan_chan _ _ _)

/-! ### CH_STOP and CH_SAFE (R271, R279) -/

theorem chanList_one (h : c.chan < 4) : chanList c.chan = [chOf c.chan] := if_neg (by omega)

theorem standby_false (hrole : s.get TLS_STAT_role ≠ 2) : isStandby s = false := beq_false_of_ne hrole

/-- CH_STOP of one channel ends in the state that the command gives, completed. -/
theorem chStop_done (h : Predecodes s c 0x11 p) (hc : c.chan < 4) (hn : chOf c.chan = n) (hrole : s.get TLS_STAT_role ≠ 2) :
    ∃ st, exec (.chStop c p) s = .next (complete (chStopCmd s n).2 { c with opcode := 0x11 } st) := by
  obtain ⟨⟨hheld, -⟩, hclk, hlen, hadm⟩ := h
  refine ⟨if (chStopCmd s n).1 = 0 then 0 else 0x41, ?_⟩
  change execChStop c p s = _
  simp only [execChStop, faced, live_run s hheld, hclk, Bool.not_false, State.onIf_true, hlen, hadm, Bool.not_true, bne_self_eq_false,
    Bool.false_eq_true, if_false, preExec, opChStop, chanList_one hc, List.foldl_cons, List.foldl_nil, hn, standby_false hrole, State.onIf_false]

theorem chSafe_done (h : Predecodes s c 0x12 p) (hc : c.chan < 4) (hn : chOf c.chan = n) (hrole : s.get TLS_STAT_role ≠ 2) (hp : p.headD 0 ≤ 4) :
    exec (.chSafe c p) s = .next (complete (chSafeCmd s n (p.headD 0)) { c with opcode := 0x12 } 0) := by
  obtain ⟨⟨hheld, -⟩, hclk, hlen, hadm⟩ := h
  change execChSafe c p s = _
  simp only [execChSafe, faced, live_run s hheld, hclk, Bool.not_false, State.onIf_true, hlen, hadm, Bool.not_true, bne_self_eq_false,
    Bool.false_eq_true, if_false, preExec, opChSafe, Nat.not_lt.mpr hp, chanList_one hc, State.forL, List.foldl_cons, List.foldl_nil, hn,
    standby_false hrole, State.onIf_false]

/-- The selector first, which leaves the states of the channels. -/
theorem marked_stays (hs : s.wf = true) : (selUpdate (safeMark s n) n).wf = true ∧
    ∀ k, (selUpdate (safeMark s n) n).chState k = s.chState k := by
  have h : Moves stayMask s (selUpdate (safeMark s n) n) := selUpdate_moves ⟨by decide +kernel⟩ (safeMark_moves ⟨by decide +kernel⟩ .refl)
  exact ⟨h.wf hs, stays h hs⟩

/-- A request for a safe state by pattern. -/
theorem chSafeCmd_safe {req : Nat} (hs : s.wf = true) (hreq : req ≠ 4) : (chSafeCmd s n req).wf = true ∧ (chSafeCmd s n req).chState n.val = 6 := by
  obtain ⟨hwf, hstays⟩ := marked_stays (n := n) hs
  unfold chSafeCmd
  generalize selUpdate (safeMark s n) n = u at hwf hstays ⊢
  extract_lets u' sel explicit bad pat held w
  have hw : w.wf = true ∧ w.chState n.val = 6 := by
    unfold w
    split
    · rename_i hsafe
      have hpat : Moves stayMask u (setPat (u.putB CHn_STATE_held held n.val) n pat) :=
        setPat_moves ⟨by decide +kernel⟩ (State.putB_moves ⟨Nat.zero_and _⟩ (.inr (by decide +kernel)) .refl)
      exact ⟨hpat.wf hwf, (stays hpat hwf _).trans hsafe⟩
    · exact ⟨enterSafe_wf hwf, (enterSafe_chState hwf).1⟩
  have hlog : Moves stayMask w (w.onIf bad fun s => s.logEv 0x2411 [n.val, sel]) :=
    State.onIf_moves .refl fun _ h => State.logEv_moves ⟨by decide +kernel⟩ h
  rw [if_neg (by simp [hreq])]
  exact ⟨hlog.wf hw.1, (stays hlog hw.1 _).trans hw.2⟩

/-- SS_STOP of a channel in RUN. -/
theorem chSafeCmd_stop (hs : s.wf = true) (hst : s.chState n.val = 3) : (chSafeCmd s n 4).wf = true ∧ (chSafeCmd s n 4).chState n.val = 4 ∧
    (chSafeCmd s n 4).get CHn_STATE_safety n.val = 1 ∧ (chSafeCmd s n 4).get CHn_STATE_ss n.val = 4 := by
  obtain ⟨hwf, hstays⟩ := marked_stays (n := n) hs
  have heq : chSafeCmd s n 4 = enterStop (selUpdate (safeMark s n) n) n 0xFF true := if_pos (by simp [hstays, hst])
  obtain ⟨hstate, hsafety, hss⟩ := enterStop_shows (n := n) (cause := 0xFF) (safety := true) hwf
  rw [heq]
  exact ⟨enterStop_wf hwf, (hstate n).trans (if_pos rfl), hsafety, hss⟩

/-- The stop of a channel in RUN without a task. -/
theorem chStop_stops (h : Predecodes s c 0x11 p) (hc : c.chan < 4) (hn : chOf c.chan = n) (hrole : s.get TLS_STAT_role ≠ 2)
    (hst : s.chState n.val = 3) (htask : s.get SPn_FLD_STAT_task n.val = 0) :
    ∃ t, exec (.chStop c p) s = .next t ∧ t.chState n.val = 4 ∧ t.get CHn_STATE_safety n.val = 0 ∧
      (s.log.intake.length < 30 → (0x2410, [n.val, 3, 4, 0xFF]) ∈ t.log.intake) := by
  have hs := h.1.2
  have heq : (chStopCmd s n).2 = enterStop s n 0xFF false := by
    simp only [chStopCmd, hst, htask]
    rfl
  obtain ⟨st, hexec⟩ := chStop_done h hc hn hrole
  rw [heq] at hexec
  obtain ⟨hstate, hsafety, -⟩ := enterStop_shows (n := n) (cause := 0xFF) (safety := false) hs
  have hwf : (enterStop s n 0xFF false).wf = true := enterStop_wf hs
  refine ⟨_, hexec, ?_, (complete_get hwf (by decide +kernel)).trans hsafety, fun hroom => complete_grows _ ?_⟩
  · rw [complete_chState hwf]
    exact (hstate n).trans (if_pos rfl)
  · have hmem := setState_logs (s := s) (n := n) (new := 4) (cause := 0xFF) (by omega)
    rw [hst] at hmem
    exact ((Grows.refl (setState s n 4 0xFF)).putB.put.modFld) _ hmem

/-! ### CH_CLEAR_FAULT (R273) -/

/-- A channel that is not in SAFE: its own sticky bits are cleared. -/
theorem chClearFault_elsewhere (h : Serves s c 0x13 p) (hn : chOf c.chan = n) (hst : s.chState n.val ≠ 6) :
    ∃ t, exec (.chClearFault c p) s = .next t ∧ t.get CHn_OCSTAT_oc_trip n.val = 0 ∧ t.chState n.val = s.chState n.val := by
  have hs := h.1.2
  have hput : (s.put CHn_OCSTAT_oc_trip 0 n.val).wf = true := State.put_wf hs
  have hclear : Moves _ (s.put CHn_OCSTAT_oc_trip 0 n.val) (ocClear s n) := motoringClear_moves ⟨Nat.and_self _⟩ .refl
  have heq : chClearFault s n = (0, ocClear s n) := if_pos (bne_iff_ne.mpr hst)
  have hrun := chOp_done (c := c) (g := chClearFault) (f := opChClearFault) rfl h (by rw [hn]; exact heq)
    (hclear.part (p := .pwr) (by decide +kernel))
  refine ⟨_, hrun, ?_, ?_⟩
  · rw [complete_get (hclear.wf hput) (by decide +kernel), hclear.same hput _ _ 0 (by decide +kernel), State.get_put_same hs]
    exact Nat.zero_mod _
  · rw [complete_chState (hclear.wf hput), State.chState, hclear.same hput _ _ 0 (by decide +kernel)]
    exact chState_put hs (by decide)

/-- A channel in SAFE with PULSE_OFF whose faults are gone. -/
theorem chClearFault_ends (h : Serves s c 0x13 p) (hn : chOf c.chan = n) (hst : s.chState n.val = 6) (hgone : stillFaulty s n = false)
    (hpat : s.get CHn_STATE_pat n.val = 1) (hlink : linkOf s n = none) :
    ∃ t, exec (.chClearFault c p) s = .next t ∧ t.chState n.val = 0 ∧ t.get CHn_STATE_prev n.val = 6 := by
  have hs := h.1.2
  have hclear : Moves _ s (chSrcClear (motoringClear s n) n) := chSrcClear_moves (m := maskOf ([CHn_STATE_motoring_only,
    PRT_LNKl_STAT_motoring_only, PRT_LNKl_STAT_chop_fail, BDG_FSTATw_src] ++ evFlds) evParts) ⟨by decide +kernel⟩
    (motoringClear_moves ⟨by decide +kernel⟩ .refl)
  have hwf := hclear.wf hs
  have hsame : (chSrcClear (motoringClear s n) n).chState n.val = 6 := (hclear.same hs _ _ 0 (by decide +kernel)).trans hst
  have heq : chClearFault s n = (0, setState (chSrcClear (motoringClear s n) n) n 0 0xFF) := by
    simp only [chClearFault, hst, hgone, hpat, hlink]
    rfl
  have hrun := chOp_done (c := c) (g := chClearFault) (f := opChClearFault) rfl h (by rw [hn]; exact heq)
    (((setState_moves ⟨Nat.and_self _⟩ .refl).part (p := .pwr) (by decide +kernel)).trans (hclear.part (p := .pwr) (by decide +kernel)))
  refine ⟨_, hrun, ?_, ?_⟩
  · rw [complete_chState (setState_wf hwf), setState_chState hwf, if_pos rfl]
  · rw [complete_get (setState_wf hwf) (by decide +kernel), setState_prev hwf, hsame]

/-! ### CH_PRECHARGE and CH_DISCHARGE (R292, R293) -/

theorem mem_members_of_linkOf (h : linkOf s n = some l) : n ∈ members s l := by
  have hl := List.find?_some h
  simp only [Bool.and_eq_true] at hl
  exact List.mem_filter.mpr ⟨List.mem_finRange n, hl.2⟩

/-- The link shown PRECHARGING, and DISCHARGING. -/
def precharging (s : State) (l : Lnk) : State :=
  (s.put PRT_LNKl_STAT_lstate 1 l.val).modLink l (fun k => { k with since := 0, preTs := none })

def discharging (s : State) (l : Lnk) : State := (s.put PRT_LNKl_STAT_lstate 3 l.val).modLink l (fun k => { k with since := 0 })

/-- A precharge begins: the link PRECHARGING, and its members in OFF with it. -/
theorem preStart_shows (hs : s.wf = true) (hmem : n ∈ members s l) (hst : s.chState n.val = 0) : (preStart s l).wf = true ∧
    (preStart s l).chState n.val = 1 ∧ (preStart s l).get PRT_LNKl_STAT_lstate l.val = 1 := by
  have hu : (precharging s l).wf = true := State.put_wf (s := s) hs
  have hm : members (precharging s l) l = members s l := members_put hs (by decide)
  have heq : preStart s l = preCommit (follow (precharging s l) (members s l) 0 1 0xFF) l 0x10000 := by
    rw [← hm]
    rfl
  have hsame : (precharging s l).chState n.val = 0 := (chState_put hs (by decide)).trans hst
  have hlstate : (precharging s l).get PRT_LNKl_STAT_lstate l.val = 1 := State.get_put_same hs
  have hf : (follow (precharging s l) (members s l) 0 1 0xFF).wf = true := (follow_reaches ⟨Nat.and_self _⟩ .refl).wf hu
  have hcommit : Moves _ (follow (precharging s l) (members s l) 0 1 0xFF) (preCommit _ l 0x10000) := preCommit_moves ⟨Nat.and_self _⟩ .refl
  rw [heq]
  refine ⟨hcommit.wf hf, ?_, ?_⟩
  · rw [State.chState, hcommit.same hf _ _ 0 (by decide +kernel)]
    exact (follow_chState hu (by decide) n).trans (if_pos ⟨hmem, hsame⟩)
  · rw [hcommit.same hf _ _ 0 (by decide +kernel), follow_link hu, hlstate]

/-- The channels of a list begin a discharge. -/
theorem gather_chState {ms : List Ch} {k : Ch} (hs : s.wf = true) (h : k ∈ ms ∨ s.chState k.val = 5) :
    (s.forL ms fun m s => if s.chState m.val = 5 then s else setState s m 5 0xFF).wf = true ∧
      (s.forL ms fun m s => if s.chState m.val = 5 then s else setState s m 5 0xFF).chState k.val = 5 := by
  induction ms generalizing s with
  | nil => exact ⟨hs, h.resolve_left List.not_mem_nil⟩
  | cons m ms ih =>
    have hstep : (if s.chState m.val = 5 then s else setState s m 5 0xFF).wf = true ∧
        (k = m ∨ s.chState k.val = 5 → (if s.chState m.val = 5 then s else setState s m 5 0xFF).chState k.val = 5) := by
      split
      · rename_i hdis
        exact ⟨hs, fun h => h.elim (fun hk => hk ▸ hdis) id⟩
      · refine ⟨setState_wf hs, fun h => ?_⟩
        rw [setState_chState hs]
        split
        · rfl
        · rename_i hk
          exact h.resolve_left hk
    refine ih (s := if s.chState m.val = 5 then s else setState s m 5 0xFF) hstep.1 ?_
    rcases h with h | h
    · exact (List.mem_cons.mp h).symm.imp id fun hk => hstep.2 (.inl hk)
    · exact .inr (hstep.2 (.inr h))

/-- Without windings, a discharge begins with the link and its members alone (R293). -/
theorem disStart_eq (hs : s.wf = true) (hmode : s.get PRT_LNKl_DIS_dis_mode l.val = 0) : disStart s l =
    (discharging s l).forL (members s l) fun m s => if s.chState m.val = 5 then s else setState s m 5 0xFF := by
  have hm : members (discharging s l) l = members s l := members_put hs (by decide)
  unfold disStart
  extract_lets mode u part v w
  have hpart : part = [] := List.filter_eq_nil_iff.mpr fun m _ => by simp [mode, hmode]
  rw [if_neg (by simp [mode, hmode])]
  unfold w
  rw [hpart, ← hm]
  rfl

/-- A discharge by the chopper begins: the link discharging, and its members with it. -/
theorem disStart_shows (hs : s.wf = true) (hmem : n ∈ members s l) (hmode : s.get PRT_LNKl_DIS_dis_mode l.val = 0) :
    (disStart s l).wf = true ∧ (disStart s l).chState n.val = 5 ∧ (disStart s l).get PRT_LNKl_STAT_lstate l.val = 3 := by
  have hu : (discharging s l).wf = true := State.put_wf (s := s) hs
  have hlstate : (discharging s l).get PRT_LNKl_STAT_lstate l.val = 3 := State.get_put_same hs
  have hall : Moves _ (discharging s l) ((discharging s l).forL (members s l) fun m s => if s.chState m.val = 5 then s else setState s m 5 0xFF) :=
    State.forL_moves .refl fun _ _ h => .ite (fun _ => h) fun _ => setState_moves ⟨Nat.and_self _⟩ h
  obtain ⟨hwf, hstate⟩ := gather_chState (k := n) hu (.inl hmem)
  rw [disStart_eq hs hmode]
  exact ⟨hwf, hstate, (hall.same hu _ _ 0 (by decide +kernel)).trans hlstate⟩

/-- CH_PRECHARGE of a channel in OFF whose link is DISCHARGED. -/
theorem chPrecharge_starts (h : Serves s c 0x15 p) (hn : chOf c.chan = n) (hrole : s.get TLS_STAT_role ≠ 2) (hlink : linkOf s n = some l)
    (hst : s.chState n.val = 0) (hl : s.get PRT_LNKl_STAT_lstate l.val = 0) :
    ∃ t, exec (.chPrecharge c p) s = .next t ∧ t.chState n.val = 1 ∧ t.get PRT_LNKl_STAT_lstate l.val = 1 := by
  have heq : chPrecharge s n = (0, preStart s l) := by
    simp only [chPrecharge, standby_false hrole, hlink, hst, hl, Bool.false_eq_true, if_false]
  have hrun := chOp_done (c := c) (g := chPrecharge) (f := opChPrecharge) rfl h (by rw [hn]; exact heq)
    ((preStart_moves ⟨Nat.and_self _⟩ .refl).part (p := .pwr) (by decide +kernel))
  obtain ⟨hwf, hstate, hlstate⟩ := preStart_shows h.1.2 (mem_members_of_linkOf hlink) hst
  exact ⟨_, hrun, (complete_chState hwf).trans hstate, (complete_get hwf (by decide +kernel)).trans hlstate⟩

/-- CH_PRECHARGE of a channel in OFF whose link is CHARGED. -/
theorem chPrecharge_ready (h : Serves s c 0x15 p) (hn : chOf c.chan = n) (hrole : s.get TLS_STAT_role ≠ 2) (hlink : linkOf s n = some l)
    (hst : s.chState n.val = 0) (hl : s.get PRT_LNKl_STAT_lstate l.val = 2) :
    ∃ t, exec (.chPrecharge c p) s = .next t ∧ t.chState n.val = 2 ∧ t.get PRT_LNKl_STAT_lstate l.val = 2 := by
  have hs := h.1.2
  have heq : chPrecharge s n = (0, setState s n 2 0xFF) := by
    simp only [chPrecharge, standby_false hrole, hlink, hst, hl, Bool.false_eq_true, if_false]
  have hset : Moves _ s (setState s n 2 0xFF) := setState_moves ⟨Nat.and_self _⟩ .refl
  have hrun := chOp_done (c := c) (g := chPrecharge) (f := opChPrecharge) rfl h (by rw [hn]; exact heq)
    (hset.part (p := .pwr) (by decide +kernel))
  refine ⟨_, hrun, ?_, ?_⟩
  · rw [complete_chState (setState_wf hs), setState_chState hs, if_pos rfl]
  · rw [complete_get (setState_wf hs) (by decide +kernel), hset.same hs _ _ 0 (by decide +kernel), hl]

/-- CH_DISCHARGE of a channel in READY by the chopper. -/
theorem chDischarge_starts (h : Serves s c 0x14 p) (hn : chOf c.chan = n) (hrole : s.get TLS_STAT_role ≠ 2) (hlink : linkOf s n = some l)
    (hst : s.chState n.val = 2) (hquiet : ∀ m ∈ members s l, s.chState m.val = 0 ∨ s.chState m.val = 2)
    (hmode : s.get PRT_LNKl_DIS_dis_mode l.val = 0) (hchop : s.get PRT_LNKl_CFG_chop_en l.val = 1) :
    ∃ t, exec (.chDischarge c p) s = .next t ∧ t.chState n.val = 5 ∧ t.get PRT_LNKl_STAT_lstate l.val = 3 := by
  have hall : ((members s l).all fun m => [0, 2, 5].contains (s.chState m.val) ||
      (s.chState m.val == 6 && s.get CHn_STATE_pat m.val == 1)) = true :=
    List.all_eq_true.mpr fun m hm => by rcases hquiet m hm with e | e <;> rw [e] <;> rfl
  have hon : s.getB PRT_LNKl_CFG_chop_en l.val = true := by rw [State.getB, hchop]; rfl
  have heq : chDischarge s n = (0, disStart s l) := by
    simp only [chDischarge, standby_false hrole, hlink, hst, hall, hon, Bool.not_true, Bool.and_false, Bool.not_false, Bool.and_self,
      Bool.false_eq_true, if_false, if_true]
  have hrun := chOp_done (c := c) (g := chDischarge) (f := opChDischarge) rfl h (by rw [hn]; exact heq)
    ((disStart_moves ⟨Nat.and_self _⟩ .refl).part (p := .pwr) (by decide +kernel))
  obtain ⟨hwf, hstate, hlstate⟩ := disStart_shows h.1.2 (mem_members_of_linkOf hlink) hmode
  exact ⟨_, hrun, (complete_chState hwf).trans hstate, (complete_get hwf (by decide +kernel)).trans hlstate⟩

/-! ### A report of failed switches (R281) -/

/-- Switches of the high side are reported, and nothing else yet. -/
def swfailTold (s : State) (n : Ch) (v : Nat) : State :=
  (((s.put CHn_SWFAIL_hs v n.val).put CHn_SWFAIL_ls 0 n.val).logEv 0x2413 [n.val, v, 0]).raise (chSrc n.val 10) v

/-- What the selector reaches that follows a report. -/
def followMask : Nat :=
  maskOf (evFlds ++ legFlds ++ [CHn_STATE_sel, CHn_STATE_pat, CHn_STATE_held, CHn_STATE_ss, CHn_SEL_THR_thr, PRT_LNKl_STAT_chop])
    (evParts ++ [Part.gen, Part.links])

variable {v : Nat}

/-- The selector follows a report, and a pattern held since this tick is judged again (R299). -/
def swfailFollowed (s : State) (n : Ch) : State :=
  let s := selUpdate s n
  s.onIf (s.chState n.val == 6 && s.getB CHn_STATE_held n.val && (s.chan n.val).safeTs == some s.now
      && contradicts s n (s.get CHn_STATE_pat n.val)) (fun u =>
    (setPat (u.put CHn_STATE_held 0 n.val) n (s.get CHn_STATE_sel n.val)).logEv 0x2411 [n.val, s.get CHn_STATE_sel n.val])

theorem swfailFollowed_moves : Moves followMask s (swfailFollowed s n) :=
  State.onIf_moves (selUpdate_moves ⟨by decide +kernel⟩ .refl) fun _ h =>
    State.logEv_moves ⟨by decide +kernel⟩ (setPat_moves ⟨by decide +kernel⟩ (State.put_moves (.inr (by decide +kernel)) h))

theorem swfailSet_eq (hh : s.get CHn_SWFAIL_hs n.val = 0) (hl : s.get CHn_SWFAIL_ls n.val = 0) (hv : 0 < v) :
    swfailSet s n v 0 = swfailFollowed (swfailTold s n v) n := by
  have hne : decide (v = 0) = false := decide_eq_false (by omega)
  simp only [swfailSet, hh, hl, Nat.zero_or, hne, Bool.false_and, Bool.false_eq_true, if_false, bne_self_eq_false, Bool.and_false,
    State.onIf_false, Nat.mul_zero, Nat.add_zero]
  rfl

theorem and_mask_of_lt (hv : v < 8) : v &&& 7 = v ∧ v &&& 63 = v := by
  revert v
  decide

/-- A report of switches of the high side, where none had failed. -/
theorem swfailWrite_eq (hs : s.wf = true) (hh : s.get CHn_SWFAIL_hs n.val = 0) (hl : s.get CHn_SWFAIL_ls n.val = 0) (hv : v < 8)
    (hpos : 0 < v) : swfailWrite s n v 0 = selUpdate (swfailFollowed (swfailTold ((s.put CHn_SWFAIL_hs 0 n.val).put CHn_SWFAIL_ls 0 n.val) n v) n) n := by
  have hmask : v &&& (if n.val = 0 && s.six then 63 else 7) = v := by
    split
    · exact (and_mask_of_lt hv).2
    · exact (and_mask_of_lt hv).1
  have h1 : ((s.put CHn_SWFAIL_hs 0 n.val).put CHn_SWFAIL_ls 0 n.val).get CHn_SWFAIL_hs n.val = 0 := by
    rw [State.get_put_ne (State.put_wf hs) (by decide), State.get_put_same hs]
    rfl
  have h2 : ((s.put CHn_SWFAIL_hs 0 n.val).put CHn_SWFAIL_ls 0 n.val).get CHn_SWFAIL_ls n.val = 0 := by
    rw [State.get_put_same (State.put_wf hs)]
    rfl
  simp only [swfailWrite, hh, hl, hmask, Nat.zero_and, bne_self_eq_false, Bool.or_false, Bool.false_and, Bool.false_eq_true, if_false]
  rw [swfailSet_eq h1 h2 hpos]

theorem swfailWrite_shows (hs : s.wf = true) (hh : s.get CHn_SWFAIL_hs n.val = 0) (hl : s.get CHn_SWFAIL_ls n.val = 0) (hv : v < 8)
    (hpos : 0 < v) : (swfailWrite s n v 0).wf = true ∧ (swfailWrite s n v 0).get CHn_SWFAIL_hs n.val = v ∧
      (swfailWrite s n v 0).get CHn_SWFAIL_ls n.val = 0 ∧ (swfailWrite s n v 0).inflight = s.inflight ++ [(chSrc n.val 10, v)] := by
  rw [swfailWrite_eq hs hh hl hv hpos]
  have hclear : ((s.put CHn_SWFAIL_hs 0 n.val).put CHn_SWFAIL_ls 0 n.val).wf = true := State.put_wf (State.put_wf hs)
  have hway : ((s.put CHn_SWFAIL_hs 0 n.val).put CHn_SWFAIL_ls 0 n.val).inflight = s.inflight := rfl
  generalize (s.put CHn_SWFAIL_hs 0 n.val).put CHn_SWFAIL_ls 0 n.val = u at hclear hway ⊢
  have hput : (u.put CHn_SWFAIL_hs v n.val).wf = true := State.put_wf hclear
  have hlog : Moves (maskOf evFlds (evParts ++ [Part.inflight])) ((u.put CHn_SWFAIL_hs v n.val).put CHn_SWFAIL_ls 0 n.val) (swfailTold u n v) :=
    State.raise_moves ⟨by decide +kernel⟩ (State.logEv_moves ⟨by decide +kernel⟩ .refl)
  have htold : (swfailTold u n v).wf = true := hlog.wf (State.put_wf hput)
  have hend : Moves followMask (swfailTold u n v) (selUpdate (swfailFollowed (swfailTold u n v) n) n) :=
    selUpdate_moves ⟨by decide +kernel⟩ swfailFollowed_moves
  refine ⟨hend.wf htold, ?_, ?_, ?_⟩
  · rw [hend.same htold _ _ 0 (by decide +kernel), hlog.same (State.put_wf hput) _ _ 0 (by decide +kernel), State.get_put_ne hput (by decide),
      State.get_put_same hclear]
    exact Nat.mod_eq_of_lt (by change v < 64; omega)
  · rw [hend.same htold _ _ 0 (by decide +kernel), hlog.same (State.put_wf hput) _ _ 0 (by decide +kernel), State.get_put_same hput]
    exact Nat.zero_mod _
  · rw [hend.part (p := .inflight) (by decide +kernel), swfailTold, State.raise_inflight, State.logEv_inflight, ← hway]
    rfl

/-- The register of the report. -/
def swfailReg : Reg := ⟨"CHn_SWFAIL", 0x402400b8, 4, 0x100, 1, 0, [CHn_SWFAIL_ls, CHn_SWFAIL_hs]⟩

theorem preWrite_CHn_SWFAIL {a : Access} : preWrite u t a ⟨swfailReg, n.val, 0, v⟩ = .act := by
  simp [preWrite, preCh, blockOf, Wr.is, swfailReg, CHn_TIMING_dl_max, CHn_CTL_src, CHn_CARR_en, CHn_PER_per, CHn_DUTYk_duty, CHn_COMMIT_go,
    CHn_CT_evt_kind, CHn_PERMIN_per_min, CHn_PERMAX_per_max, CHn_SAFECFG_ch_safe_ss, CHn_SWFAIL_hs]

/-- The register is not stored: the write is the report (R281). -/
theorem exec_swfailWrite {a : Access} (hadm : Admits s a) (hv : v < 8) : exec (.swfailWrite a n v) s =
    .next ((budgetsShown (swfailWrite s n v 0)).answer a.ini .none) := by
  obtain ⟨⟨hheld, -⟩, hp, hlock, hc⟩ := hadm
  have hreg : regOf (CHn_SWFAIL_hs.at n.val 0) = some (swfailReg, n.val, 0) := regOf_CHn_SWFAIL n
  have hbus : busAddr (CHn_SWFAIL_hs.at n.val 0) = true := by fin_cases n <;> rfl
  have hhs : (⟨swfailReg, n.val, 0, v % 2 ^ 32⟩ : Wr).bits CHn_SWFAIL_hs = v := by
    change v % 2 ^ 32 / 2 ^ 0 % 2 ^ 6 = v
    omega
  have hls : (⟨swfailReg, n.val, 0, v % 2 ^ 32⟩ : Wr).bits CHn_SWFAIL_ls = 0 := by
    change v % 2 ^ 32 / 2 ^ 8 % 2 ^ 6 = 0
    omega
  change wrFld s a CHn_SWFAIL_hs n.val 0 v = _
  rw [wrFld, live_run s hheld, busWrite_reg hc hp hbus hreg rfl, writeReg_open hlock, preWrite_CHn_SWFAIL]
  simp only [postWrite_CHn_SWFAIL (w := ⟨swfailReg, n.val, 0, v % 2 ^ 32⟩) rfl, hhs, hls, Wr.ch, chOf_val]
  rfl

theorem swfailWrite_reports {a : Access} (hadm : Admits s a) (hh : s.get CHn_SWFAIL_hs n.val = 0) (hl : s.get CHn_SWFAIL_ls n.val = 0)
    (hv : v < 8) (hpos : 0 < v) : ∃ t, exec (.swfailWrite a n v) s = .next t ∧ t.get CHn_SWFAIL_hs n.val = v ∧
      t.get CHn_SWFAIL_ls n.val = 0 ∧ t.inflight = s.inflight ++ [(chSrc n.val 10, v)] := by
  obtain ⟨hwf, hhs, hls, hway⟩ := swfailWrite_shows hadm.1.2 hh hl hv hpos
  refine ⟨_, exec_swfailWrite hadm hv, (shown_get hwf (by decide +kernel)).trans hhs, (shown_get hwf (by decide +kernel)).trans hls, ?_⟩
  have hshown : Moves (maskOf [CHn_BUDGET_budget, CHn_BUDGET_lat_full] []) (swfailWrite s n v 0) (budgetsShown (swfailWrite s n v 0)) :=
    State.forL_moves .refl fun _ _ => budgetShow_moves ⟨by decide +kernel⟩
  exact (hshown.part (p := .inflight) (by decide +kernel)).trans hway

/-! ### The obligation -/

/-- Settles O20. -/
theorem channelCommands : Obligations.ChannelCommands := by
  intro s a c p l v hready n
  have hs := hready.2
  refine ⟨fun h hrole hls hst hok => chEnable_runs h rfl hrole hls hst hok,
    fun h hrole hls hst hsafety hresume => chEnable_resumes h rfl hrole hls hst hsafety hresume,
    fun h hc hrole hst htask => chStop_stops h hc rfl hrole hst htask, fun h hc hrole hp hst => ?safe,
    fun h hc hrole hp hst => ?stop, fun h hst => chClearFault_elsewhere h rfl hst,
    fun h hst hgone hpat hlink => chClearFault_ends h rfl hst hgone hpat hlink, fun h hst hfaulty => ?faulty,
    fun h hrole hlink hst hl => chPrecharge_starts h rfl hrole hlink hst hl,
    fun h hrole hlink hst hl => chPrecharge_ready h rfl hrole hlink hst hl,
    fun h hrole hlink hst hquiet hmode hchop => chDischarge_starts h rfl hrole hlink hst hquiet hmode hchop,
    fun hadm hh hl hv hpos => swfailWrite_reports hadm hh hl hv hpos⟩
  case safe =>
    have hreq : p.headD 0 ≤ 4 ∧ p.headD 0 ≠ 4 := by rcases hp with rfl | rfl <;> decide
    obtain ⟨hwf, hstate⟩ := chSafeCmd_safe (n := n) hs hreq.2
    exact ⟨_, chSafe_done h hc rfl hrole hreq.1, (complete_chState hwf).trans hstate⟩
  case stop =>
    subst hp
    obtain ⟨hwf, hstate, hsafety, hss⟩ := chSafeCmd_stop hs hst
    exact ⟨_, chSafe_done h hc rfl hrole (by decide), (complete_chState hwf).trans hstate, (complete_get hwf (by decide +kernel)).trans hsafety,
      (complete_get hwf (by decide +kernel)).trans hss⟩
  case faulty =>
    have heq : chClearFault s n = (0x50, s) := by
      simp only [chClearFault, hst, hfaulty, bne_self_eq_false, Bool.false_eq_true, if_false, if_true]
    exact ⟨_, chOp_done (g := chClearFault) (f := opChClearFault) rfl h heq rfl, rfl⟩

end

end Sys2Proof.Proofs
end

end
